-- ==== Sys2Proof/Word.lean ====
section
/-! DEFINITION. The word types of the FZ9640 and their plainest arithmetic: bytes, 512-byte sectors, fixed tables and
saturating counts (R10, R13). -/

namespace Sys2Proof

/-- A byte. -/
abbrev Byte := BitVec 8

/-- 512 bytes of logical-block data, byte k in bits [8k+7:8k]. A granule (R56) is eight sectors. -/
abbrev Sector := BitVec 4096

/-- A table of a fixed number of like units (slices, channels, cores, pages). -/
abbrev Tbl (n : Nat) (α : Type) := Vector α n

/-- The table with unit `i` changed by `f`. -/
def Tbl.upd {n : Nat} {α : Type} (v : Tbl n α) (i : Fin n) (f : α → α) : Tbl n α := v.set i (f v[i])

/-- Every unit changed by `f`. -/
def Tbl.all {n : Nat} {α : Type} (v : Tbl n α) (f : α → α) : Tbl n α := v.map f

/-- One more, held at the field's highest value (the saturating counters of R13's registers). -/
def satInc {w : Nat} (x : BitVec w) : BitVec w := if x = BitVec.allOnes w then x else x + 1

/-- A natural number held in a field of `w` bits, saturating. -/
def satOf (w n : Nat) : BitVec w := if n < 2 ^ w then BitVec.ofNat w n else BitVec.allOnes w

/-- The low `n` bytes of `x`, least significant first. -/
def leBytes : Nat → Nat → List Byte
  | 0, _ => []
  | n + 1, x => BitVec.ofNat 8 x :: leBytes n (x / 256)

/-- The number that bytes spell, least significant first. -/
def ofLeBytes : List Byte → Nat
  | [] => 0
  | b :: bs => b.toNat + 256 * ofLeBytes bs

/-- `xs` cut or filled with `z` to exactly `n` elements. -/
def padTo {α : Type} (n : Nat) (z : α) (xs : List α) : List α := (xs ++ List.replicate (n - xs.length) z).take n

/-- One bit as a number. -/
def bit (b : Bool) : Nat := if b then 1 else 0

/-- `x` rounded up to a whole number of `u`, in units of `u`. -/
def ceilDiv (x u : Nat) : Nat := (x + u - 1) / u

/-- A sparse table: pairs with strictly rising keys. -/
abbrev AMap (α : Type) := List (Nat × α)

namespace AMap

/-- What stands under key `k`. -/
def get? {α : Type} : AMap α → Nat → Option α
  | [], _ => none
  | (k', v) :: m, k => if k' = k then some v else get? m k

/-- The table with `v` under key `k`, keys still rising. -/
def put {α : Type} : AMap α → Nat → α → AMap α
  | [], k, v => [(k, v)]
  | (k', v') :: m, k, v =>
    if k < k' then (k, v) :: (k', v') :: m
    else if k = k' then (k, v) :: m
    else (k', v') :: put m k v

/-- The table without key `k`. -/
def del {α : Type} (m : AMap α) (k : Nat) : AMap α := m.filter (fun e => e.1 ≠ k)

/-- The table with what stands under `k` changed by `f`; nothing where nothing stands. -/
def mod {α : Type} (m : AMap α) (k : Nat) (f : α → α) : AMap α := m.map (fun e => if e.1 = k then (e.1, f e.2) else e)

/-- Whether key `k` stands in the table. -/
def has {α : Type} (m : AMap α) (k : Nat) : Bool := (m.get? k).isSome

/-- The canonical form: keys strictly rising. -/
def wf {α : Type} : AMap α → Bool
  | [] => true
  | [_] => true
  | a :: b :: m => decide (a.1 < b.1) && wf (b :: m)

end AMap

end Sys2Proof
end

