-- ==== Sys2Proof/Syntax.lean ====
section
/-! DEFINITION. The commands of the FZ9640: `Instr` has one constructor for each row of spec/opcode_table.json, with
the row's operands. An operand is what the sender gives: a unit's number, a host command's parameters, bytes, or what
the media, the board or a sensor answered. -/

namespace Sys2Proof

/-- Who makes a register access (R30). -/
inductive Initiator where
  | core (c : Fin 32) | host (p : Fin 2) | bmc | debug | sdma (ch : Fin 16)
deriving DecidableEq, Repr

/-- A timebase source (R40). -/
inductive TbSource where
  | crystal | refclk | ring
deriving DecidableEq, Repr

/-- A supply of the power-up order (R464). -/
inductive Supply where
  | vcore | vioNand | v1p8
deriving DecidableEq, Repr

/-- A data pointer entry into the CMB data area: byte offset in the area and length (R261, R264). -/
structure CmbPtr where
  offset : Nat
  len : Nat
deriving DecidableEq, Repr

/-- What a Write or Zone Append asks (R254). `cmb = []` is the host-memory route (R59). -/
structure WriteReq where
  nsid : Nat
  slba : Nat
  nlb : Nat
  fua : Bool := false
  incompressible : Bool := false
  handle : Option Nat := none
  keyTag : Option Nat := none
  cmb : List CmbPtr := []
deriving DecidableEq, Repr

/-- What a Read, Compare or Verify asks. `cmbPtr`: a data pointer lies in the CMB (R264). -/
structure ReadReq where
  nsid : Nat
  slba : Nat
  nlb : Nat
  fua : Bool := false
  keyTag : Option Nat := none
  cmbPtr : Bool := false
deriving DecidableEq, Repr

/-- The action of a Zone Management Send (R217, R219). -/
inductive ZoneAct where
  | close | finish | openZone | reset
deriving DecidableEq, Repr

/-- The locks of an admin command (R267). -/
inductive AdminScope where
  | none | ns (nsid : Nat) | all
deriving DecidableEq, Repr

/-- A submission queue entry as the front end parses it (R253, R254). -/
inductive HostCmd where
  | flush (nsid : Option Nat)
  | write (r : WriteReq)
  | read (r : ReadReq)
  | compare (r : ReadReq)
  | writeZeroes (nsid slba nlb : Nat) (dealloc : Bool)
  | dsm (nsid : Nat) (dealloc : Bool) (ranges : List (Nat × Nat))
  | verify (r : ReadReq)
  | copy (nsid sdlba format : Nat) (ranges : List (Nat × Nat))
  | zoneAppend (r : WriteReq)
  | zoneSend (nsid slba : Nat) (allZones : Bool) (act : ZoneAct)
  | zoneRecv (nsid slba : Nat)
  | resv (opc : Byte) (nsid : Nat)
  | ioMgmtRecv (nsid : Nat)
  | ioMgmtSend (nsid : Nat) (handles : List Nat)
  | admin (opc : Byte) (scope : AdminScope)
deriving DecidableEq, Repr

/-- What Namespace Management asks (R98, R99, R501): sizes in logical blocks, the format, the command set. -/
inductive NsMgmt where
  | create (nlbas : Nat) (lba512 : Bool) (zoned : Bool) (expanded : Bool)
  | delete (nsid : Nat)
deriving DecidableEq, Repr

/-- A pin fault that a pin check found (R169, R170, R171). -/
inductive PinFault where
  | shortVio (sig : Fin 17) | shortGnd (sig : Fin 17) | shortSignal (a b : Fin 17)
  | ceOpen (ce : Fin 4)
deriving DecidableEq, Repr

/-- What a NAND read brings: the transferred bytes, guards included (R104), and what the pin check found if the read called
for one (R170). -/
structure ReadSignals where
  window : List Byte := []
  pins : List PinFault := []
deriving DecidableEq, Repr

/-- How an LDPC decode ended (R105, R131). -/
inductive DecodeEnd where
  | recovered | notConverged | crcMismatch | dirMismatch | decompFail
deriving DecidableEq, Repr

/-- The request descriptor of the export area, but for KIND (R144). -/
structure ExportReq where
  stepMax : Nat := 0
  nsid : Nat := 0
  lba : Nat := 0
  die : Nat := 0
  block : Nat := 0
  page : Nat := 0
  cw : Nat := 0
  tag : BitVec 64 := 0
deriving DecidableEq, Repr

/-- The timing values that a profile declares (R154), in units of 0.1 µs. -/
structure NandTiming where
  readTyp : Nat
  readMax : Nat
  /-- the one pass of a TLC wordline, typical -/
  progTyp : Nat := 0
  /-- the coarse and the fine pass of a QLC wordline, typical -/
  coarseTyp : Nat := 0
  fineTyp : Nat := 0
  eraseTyp : Nat
  eraseMax : Nat
  eraseSuspMax : Nat
  progSuspMax : Nat
  resumeMax : Nat
  resetMax : Nat
deriving DecidableEq, Repr

/-- The identity that a die's ID and parameter page give (R153). -/
structure DieId where
  maker : Nat
  model : Nat
  revision : Nat
deriving DecidableEq, Repr

/-- A flash profile (R153). -/
structure Profile where
  id : Nat
  match_ : DieId
  qlc : Bool
  planes : Nat := 1
  blocks : Nat
  wordlines : Nat
  endurance : Nat
  /-- retention in days at 40 °C -/
  retention : Nat := 0
  /-- page bit of each state for each page type: coding[p][s] (R112) -/
  coding : List (List Bool)
  /-- the read-offset step in mV, and the Set Features address of each reference's offset -/
  offsetStep : Nat := 0
  offsetFeature : List Nat := []
  /-- default tracking offsets V1 to V15 (R116) -/
  offsets : List Int
  /-- the cell of each bit in turn, within its period; none for the order of R111 -/
  cells : List Nat := []
  /-- default neighbour-aware LLRs of each page type: class · 6 + region (R128) -/
  llr : List (List Int) := []
  timing : NandTiming
  /-- on-die termination and drive strength as set by Set Features: address and value -/
  odt : List (Nat × Nat) := []
deriving DecidableEq, Repr

/-- What training a chip enable found (R153, R161): the identity of each LUN that answered, the profiles of the firmware image, the
eyes in steps, and the centre of each bit after the last training run. -/
structure CeTraining where
  luns : List (Option DieId) := []
  profiles : List Profile := []
  /-- the read and write eye common to all bits at 4800, 3600 and 2400 MT/s, as far as it was trained -/
  eyes : List (Nat × Nat) := []
  /-- the centre of each bit: eight read, eight write -/
  bits : List Nat := []
deriving DecidableEq, Repr

/-- One bit's recentring outcome (R162). -/
structure ProbeBit where
  lowFails : Bool
  highFails : Bool
deriving DecidableEq, Repr

/-- A class of a die's queue: its erases or its programs (R157). -/
structure DieClass where
  die : Nat
  erase : Bool
deriving DecidableEq, Repr

/-- One finding of the pounce scan (R206). -/
structure ScanFinding where
  stripe : Nat
  drift : Nat
  step3 : Bool
deriving DecidableEq, Repr

/-- A bank test's raw results (R227, R229): capacitance in µF, ESR in 0.1 mΩ, fall in mV. -/
structure BankMeas where
  cMeas : Nat
  esrMeas : Nat
  fallMv : Nat
  faultDuring : Bool := false
deriving DecidableEq, Repr

/-- A bank fault (R231), in the bit order of PLP_FAULT. -/
inductive BankFaultKind where
  | short | open_ | senseOpen | reversed | overvolt | chgTimeout
deriving DecidableEq, Repr

/-- Bank pins as measured: CAP_POS and CAP_SENSE in 10 mV, bank current in 10 mA. -/
structure BankPins where
  capPos : Int
  capSense : Int
  current : Int
deriving DecidableEq, Repr

/-- What raised the power-fail signal (R236). -/
inductive PfSource where
  | vhost | pfailIn
deriving DecidableEq, Repr

/-- One DRAM transaction of a requester (R319): a run of consecutive bursts in one direction, the bank and row it starts in, the data
burst of the row it starts at. -/
structure DramTxn where
  bursts : Nat
  bank : Fin 16
  row : Nat
  col : Nat := 0
  write : Bool := false
deriving DecidableEq, Repr

/-- What DRAM training of a channel found (R326): the rate (0 to 3 as DRC_EYE.RATE) or none, delays, eye. -/
structure DramTraining where
  rate : Option (Fin 4)
  rd0 : Nat := 0
  rd1 : Nat := 0
  wr0 : Nat := 0
  wr1 : Nat := 0
  eye : Nat := 0
deriving DecidableEq, Repr

/-- A pause of a retraining cycle as measured (R328): oscillator movement in %; for read and
write, which probes of lanes 0 and 1 fail; a sweep's part of a full retraining. -/
inductive PauseResult where
  | oscillator (movePct : Nat)
  | readProbe (low0 high0 low1 high1 : Bool)
  | writeProbe (low0 high0 low1 high1 : Bool)
  | sweep (last : Bool) (fails : Bool) (result : DramTraining)
deriving DecidableEq, Repr

/-- Where an uncorrectable DRAM burst lay (R334). -/
inductive UeWhere where
  | hostOut (fseq : Nat) | readBack (fseq : Nat) | landingLine (line : Nat) | mapPage (ns k : Nat)
  | buffer | fwTable
deriving DecidableEq, Repr

/-- A system DMA descriptor as read from the ring (R340). -/
structure Desc where
  own : Bool
  op : BitVec 2
  irq : Bool := false
  swap : BitVec 2 := 0
  srcSp : BitVec 2 := 0
  dstSp : BitVec 2 := 0
  count : BitVec 32
  src : BitVec 64
  dst : BitVec 64
  tag : BitVec 32 := 0
deriving DecidableEq, Repr

/-- SPDM transports (R380). -/
inductive SpdmVia where
  | mctp | doe (p : Fin 2)
deriving DecidableEq, Repr

/-- An Opal method that a Security Send carries (R371 to R373). -/
inductive OpalMethod where
  | activate
  | setLocked (range : Fin 64) (rdLocked wrLocked : Bool)
  | setLockEnabled (range : Fin 64) (rdEnabled wrEnabled : Bool)
  | setLockOnReset (range : Fin 64) (powerCycle controllerReset : Bool)
  | setRange (range : Fin 64) (nsid : Nat) (startUnit lenUnits : Nat)
  | setPin (auth : Fin 22) (pin : List Byte)
  | authenticate (auth : Fin 22) (pin : List Byte)
  | dataStoreWrite (offset : Nat) (bytes : List Byte)
  | blockSid
deriving DecidableEq, Repr

/-- Which master carries a request: a host command in flight, or the management bus. -/
inductive Via where
  | host (fseq : Nat) | bmc
deriving DecidableEq, Repr

/-- An owner command without its opcode (R384). -/
structure OwnerCmd where
  magic : BitVec 32
  serial : BitVec 64
  nonce : BitVec 256
  param : List Byte
  sig : List Byte
deriving DecidableEq, Repr

/-- How a domain answers the power-state handshake (R451). -/
inductive Answer where
  | agree | refuse (reason : Byte) | delay
deriving DecidableEq, Repr

/-- A dictionary request (R484). -/
structure DictReq where
  index : BitVec 16
  sub : Byte
  value : List Byte := []
  tag : BitVec 64 := 0
deriving DecidableEq, Repr

/-- The writable registers of R13's tables that have no row of their own, by block and instance. -/
inductive Reg where
  | sysTbCtl | sysPaceFloor | sysTrialSeq
  | dmbStat (p : Fin 2) | dmbVec (p : Fin 2) | dmbNtf (p : Fin 2)
  | wrpCtl (sl : Fin 8) | wrpAccStat (sl : Fin 8)
  | rdcCtl (sl : Fin 8) | rdcDecStat (sl : Fin 8) | rdcExpStat (p : Fin 2) | rdcExp (p : Fin 2) (word : Fin 8192)
  | fchCtl (ch : Fin 64) | fchStat (ch : Fin 64)
  | ftlCtl (sl : Fin 8)
  | plpCtl | plpFault
  | cmqPause
  | xlat2Shd (p : Fin 2) (n : Fin 64) | xlat4Shd (p : Fin 2) (n : Fin 16)
  | cntCtl (p : Fin 2) | cntStat (p : Fin 2)
  | drcCtl | drcEye (c : Fin 16)
  | arbCfg (c : Fin 16) (k : Fin 12) | arbFlag (c : Fin 16) (k : Fin 12)
  | sdmCtl (ch : Fin 16) | sdmStat (ch : Fin 16) | sdmBaseLo (ch : Fin 16) | sdmBaseHi (ch : Fin 16)
  | sdmRcfg (ch : Fin 16) | sdmHead (ch : Fin 16) | sdmVec (ch : Fin 16)
  | kvcCtl (pg : Fin 16) | kvcStat (pg : Fin 16) | kvcDin (pg : Fin 16) (m : Fin 4)
  | kvcKstat (pg : Fin 16) (n : Fin 4)
  | bstCtl | bstStat
  | evrStage
  | readOnly (block : Nat) (offset : Nat)
deriving DecidableEq, Repr

/-- The commands of the block, one constructor for each row of spec/opcode_table.json, in the table's order. -/
inductive Instr where
  | paceWindow (sensor : Fin 16) (cycles : Nat)
  | tbSourceStop (src : TbSource)
  | tbSourceSelect (sel : BitVec 2)
  | tbLoRead (ini : Initiator)
  | coreHeartbeat (c : Fin 32)
  | heartbeatMissed (c : Fin 32)
  | coreEccError (c : Fin 32)
  | lockstepMismatch
  | decoderSelfCheckFail (sl : Fin 8) (soft : Bool) (idx : Fin 8)
  | accumulatorSelfCheckFail (sl : Fin 8)
  | compressionUnitFail (sl : Fin 8)
  | cipherLaneCheckFail (sl : Fin 8)
  | watchdogReset
  | powerCapTick (power : Nat)
  | sqDoorbell (p : Fin 2) (qid : Nat) (tail : Nat)
  | cqHeadDoorbell (p : Fin 2) (qid : Nat) (head : Nat)
  | commandFetch (p : Fin 2) (cid : Nat) (cmd : HostCmd)
  | write (fseq : Nat)
  | writeDataLanded (fseq : Nat) (data : List Sector)
  | readBackReturn (fseq : Nat) (ok : Bool)
  | recordPacked (line : Nat) (frame : List Byte)
  | closeWaitExpire (row : Nat)
  | programComplete (row : Nat) (member : Fin 32)
  | rowComplete (row : Nat)
  | programFail (row : Nat) (member : Fin 32)
  | eraseFail (die block : Nat)
  | read (fseq : Nat)
  | nandReadData (rid : Nat) (sig : ReadSignals)
  | decodeComplete (rid : Nat) (out : DecodeEnd) (iters : Nat)
  | exportByLba (p : Fin 2) (req : ExportReq)
  | exportByPhysical (p : Fin 2) (req : ExportReq)
  | resolve (p : Fin 2) (req : ExportReq) (pilots body : List Byte)
  | ceTrainingDone (ch : Fin 64) (ce : Fin 4) (res : CeTraining) (pins : List PinFault)
  | recentreDue (ch : Fin 64) (ce : Fin 4) (rd wr : List ProbeBit) (pins : List PinFault)
  | statusPollTimeout (die : Nat) (pins : List PinFault)
  | dieSuspended (die : Nat)
  | suspWindowExpire (die : Nat)
  | suspendRunReached (die : Nat)
  | arrayOpWaitLimit (op : DieClass)
  | busTransferWaitLimit (ch : Fin 64)
  | rebuildPhase1End (die : Nat)
  | rebuildPhase2End (die : Nat)
  | checkpointTimer
  | stripeOpen
  | eraseComplete (die block : Nat)
  | retentionAge (stripe : Nat)
  | pounceScan (findings : List ScanFinding)
  | pounceFinish (id : Nat)
  | pouncePendingAged (id : Nat)
  | fullingWindowExpire
  | reclaimUnitTimeLimit (handle : Nat)
  | chargeEnable
  | bankFullCharge
  | chargeTimeout (pins : BankPins)
  | chargeRetry
  | landingLimitRecompute (capSense : Nat)
  | bankTestDue
  | bankTestEnd (m : BankMeas)
  | bankFault (k : BankFaultKind) (pins : BankPins)
  | bankFaultClear (k : BankFaultKind)
  | powerFail (src : PfSource)
  | flushMark (us : Nat)
  | hostPowerReturn
  | recoveryComplete (ms : Nat) (broken : Option Nat)
  | createIoSq (fseq qid size cqid : Nat) (prio : Fin 4) (contig inCmb : Bool)
  | createIoCq (fseq qid size vector : Nat) (contig inCmb : Bool)
  | deleteIoSq (fseq qid : Nat)
  | deleteIoCq (fseq qid : Nat)
  | getLogPage (fseq lid nsid : Nat)
  | identify (fseq cns nsid : Nat)
  | abort (fseq sqid cid : Nat)
  | getFeatures (fseq fid sel : Nat)
  | setArbitration (fseq : Nat) (burst : Fin 8) (low med high : Byte) (save : Bool)
  | setPowerManagement (fseq ps : Nat)
  | setTemperatureThreshold (fseq : Nat) (sensor : Fin 16) (under : Bool) (kelvin : BitVec 16)
  | setErrorRecovery (fseq : Nat) (tler : BitVec 16) (dulbe : Bool)
  | setVolatileWriteCache (fseq : Nat) (wce save : Bool)
  | setNumberOfQueues (fseq nsq ncq : Nat)
  | setInterruptCoalescing (fseq : Nat) (threshold time : Byte)
  | setInterruptVectorConfig (fseq vector : Nat) (disable : Bool)
  | setAsyncEventConfig (fseq : Nat) (mask : BitVec 32)
  | setApst (fseq : Nat) (enable : Bool) (table : List (Nat × Nat))
  | setTimestamp (fseq ms : Nat)
  | setHctm (fseq tmt1 tmt2 : Nat)
  | setReadRecoveryLevel (fseq level : Nat)
  | setReservationPersistence (fseq nsid : Nat) (ptpl : Bool)
  | setHostIdentifier (fseq : Nat) (id : BitVec 128)
  | setFdp (fseq : Nat) (enable : Bool)
  | asyncEventRequest (fseq : Nat)
  | namespaceManagement (fseq : Nat) (m : NsMgmt)
  | namespaceAttachment (fseq : Nat) (attach : Bool) (nsid : Nat) (ctrls : List (Fin 2))
  | deviceSelfTest (fseq code : Nat)
  | directiveSend (fseq nsid dtype : Nat) (enable : Bool)
  | directiveReceive (fseq nsid dtype : Nat)
  | formatNvm (fseq nsid ses : Nat) (lba512 : Bool)
  | sanitize (fseq action : Nat)
  | invalidAdminOpcode (fseq : Nat)
  | firmwareImageDownload (fseq ofst : Nat) (bytes : List Byte)
  | downloadPieceProgrammed (fseq : Nat) (ok : Bool)
  | commitReplace (fseq slot : Nat)
  | commitActivateAtReset (fseq slot : Nat)
  | commitSetActive (fseq slot : Nat)
  | commitActivateNow (fseq slot : Nat)
  | flushCommand (fseq : Nat)
  | compare (fseq : Nat) (data : List Sector)
  | writeZeroes (fseq : Nat)
  | datasetManagement (fseq : Nat)
  | verify (fseq : Nat)
  | reservationRegister (fseq : Nat) (action : Fin 3) (ignoreKey : Bool) (cur new : BitVec 64)
  | reservationReport (fseq : Nat)
  | reservationAcquire (fseq : Nat) (action : Fin 3) (rtype : Nat) (ignoreKey : Bool) (cur pre : BitVec 64)
  | reservationRelease (fseq : Nat) (action : Fin 2) (rtype : Nat) (ignoreKey : Bool) (cur : BitVec 64)
  | ioManagementReceive (fseq : Nat)
  | reclaimUnitHandleUpdate (fseq : Nat)
  | copy (fseq : Nat)
  | zoneFinish (fseq : Nat)
  | zoneReset (fseq : Nat)
  | zoneManagementReceive (fseq : Nat)
  | zoneAppend (fseq : Nat)
  | normalShutdown (p : Fin 2)
  | abruptShutdown (p : Fin 2)
  | ccEnable (p : Fin 2) (wrr : Bool) (asqs acqs : Nat)
  | ccDisable (p : Fin 2)
  | functionLevelReset (p : Fin 2)
  | hotReset (p : Fin 2)
  | perstAssert (p : Fin 2)
  | perstDeassert (p : Fin 2)
  | nvmSubsystemReset
  | linkUp (p : Fin 2) (rate width : Nat)
  | linkDown (p : Fin 2)
  | l0pNarrow (p : Fin 2)
  | l0pWiden (p : Fin 2)
  | l1IdleExpire (p : Fin 2)
  | l1Exit (p : Fin 2)
  | ideIntegrityFailure (p : Fin 2)
  | configRequest (p : Fin 2) (offset : Nat) (wr : Option (BitVec 32))
  | atomicRequest (p : Fin 2)
  | pmrWrite (p : Fin 2) (offset : Nat) (bytes : List Byte)
  | pmrRead (p : Fin 2) (offset len : Nat)
  | cmbSlotWrite (p : Fin 2) (slot : Nat) (sec : Fin 8) (data : Sector)
  | barUnmappedAccess (p : Fin 2) (bar offset : Nat) (isWrite : Bool)
  | tlpWindowCross (p : Fin 2) (bar offset len : Nat) (isWrite : Bool)
  | xlatCommit (p : Fin 2)
  | contain (p : Fin 2)
  | containBmc (p : Fin 2)
  | poisonedCompletion (p : Fin 2) (fseq : Nat)
  | completionTimeout (p : Fin 2) (fseq : Nat)
  | fateTableComplete (p : Fin 2)
  | resume (p : Fin 2)
  | arbRound (c : Fin 16) (raised : List (Fin 12 × DramTxn)) (pause : Option PauseResult) (corrected : Nat)
  | refreshDue (c : Fin 16) (bank : Fin 16)
  | debugRequest (c : Fin 16) (txn : DramTxn)
  | grantCutOff (c : Fin 16)
  | retrainCycleDue (c : Fin 16)
  | scrubDue (c : Fin 16) (corrected : Bool)
  | dramTrainingDone (c : Fin 16) (res : DramTraining)
  | dramUe (c : Fin 16) (k : Fin 12) (w : UeWhere) (addr : Nat)
  | retrainCycle (mask : BitVec 16)
  | retrainFull (mask : BitVec 16)
  | sdmaDoorbell (ch : Fin 16) (d : Desc)
  | sdmaRun (ch : Fin 16) (d : Desc)
  | sdmaStop (ch : Fin 16)
  | sdmaDisable (ch : Fin 16)
  | sdmaCopy (ch : Fin 16) (src : List Byte)
  | sdmaFill (ch : Fin 16)
  | sdmaCompare (ch : Fin 16) (a b : List Byte) (next : Desc)
  | sdmaLastBeatAck (ch : Fin 16)
  | sdmaReadbackReturn (ch : Fin 16) (ok : Bool) (next : Desc)
  | sdmaBeatError (ch : Fin 16) (isWrite : Bool) (notIssued : Nat)
  | vaultEncrypt (pg : Fin 16) (ini : Initiator) (slot : Fin 4)
  | vaultDecrypt (pg : Fin 16) (ini : Initiator) (slot : Fin 4)
  | vaultKeystream (pg : Fin 16) (ini : Initiator) (slot : Fin 4)
  | vaultBlockDone (pg : Fin 16)
  | nonceNext (pg : Fin 16) (ini : Initiator)
  | keyWordWrite (pg : Fin 16) (ini : Initiator) (slot : Fin 4) (word : Fin 8) (value : BitVec 32)
  | keyExpanded (pg : Fin 16) (slot : Fin 4)
  | keySlotClear (pg : Fin 16) (ini : Initiator) (slot : Fin 4)
  | pageClaim (p : Fin 2)
  | pageRelease (p : Fin 2)
  | vaultAccessRefused (pg : Fin 16) (ini : Initiator)
  | tamperAlarm (alarm : Fin 5) (value : Int)
  | debugUnlockWrite (credentialOk : Bool)
  | entropyHealthFail
  | entropyRetry (healthy : Bool)
  | cipherLaneKat (failed : BitVec 8)
  | spdmGetVersion (v : SpdmVia)
  | spdmGetCapabilities (v : SpdmVia)
  | spdmNegotiateAlgorithms (v : SpdmVia)
  | spdmGetDigests (v : SpdmVia)
  | spdmGetCertificate (v : SpdmVia) (slot : Nat)
  | spdmChallenge (v : SpdmVia) (slot : Nat) (nonce : BitVec 256)
  | spdmGetMeasurements (v : SpdmVia) (index : Nat) (signed : Bool) (nonce : BitVec 256)
  | spdmKeyExchange (v : SpdmVia) (slot : Nat)
  | spdmFinish (v : SpdmVia) (session : Nat)
  | spdmHeartbeat (v : SpdmVia) (session : Nat)
  | spdmKeyUpdate (v : SpdmVia) (session : Nat)
  | spdmEndSession (v : SpdmVia) (session : Nat)
  | spdmGetCsr (v : SpdmVia)
  | spdmSetCertificate (v : SpdmVia) (slot : Nat) (chain : List Byte)
  | ideKmKeyProg (p : Fin 2) (session : Nat) (keySet : Fin 2) (key : BitVec 256)
  | opalMethod (fseq : Nat) (m : OpalMethod)
  | opalReceive (fseq protocol : Nat)
  | opalGenkey (fseq : Nat) (range : Fin 64)
  | psidRevert (fseq : Nat) (psidOk : Bool)
  | kpioKeyInject (fseq nsid tag : Nat) (key : BitVec 512) (authentic : Bool)
  | kpioClearKey (fseq nsid tag : Nat)
  | ownerNonce (v : Via)
  | ownerResult (v : Via)
  | ownerTakeOwnership (v : Via) (c : OwnerCmd)
  | ownerSetLock (v : Via) (c : OwnerCmd)
  | ownerClearLock (v : Via) (c : OwnerCmd)
  | ownerReplaceKey (v : Via) (c : OwnerCmd)
  | ownerWriteEntry (v : Via) (c : OwnerCmd)
  | ownerProvisionSlot2 (v : Via) (c : OwnerCmd)
  | ownerRelease (v : Via) (c : OwnerCmd)
  | ownerAuthoriseDebug (v : Via) (c : OwnerCmd)
  | presenceHold (beganInWindow : Bool)
  | presenceWindowExpire
  | bstProgramPage (ini : Initiator) (offset : Nat) (data : List Byte)
  | bstSectorErase (ini : Initiator) (offset : Nat)
  | bstSuspend (ini : Initiator)
  | bstResume (ini : Initiator)
  | bstReadStatus (ini : Initiator)
  | bstReturnToRead (ini : Initiator)
  | bstSequenceBroken (ini : Initiator)
  | bstOpComplete (ok : Bool)
  | bstSuspendDue
  | bstSuspended
  | bstRead (ini : Initiator) (offset : Nat)
  | bstAbort
  | coldStart (calibOk loaderOk pfailLow : Bool)
  | slipwayStart (recoveryOk : Bool)
  | firmwareStart
  | deepRestWake
  | eventTokenRefill (code : Nat)
  | eventRepeatPersist
  | opsecTick
  | opsecPersist
  | evrSeqLoRead (ini : Initiator)
  | imageAreaWritten (digestOk : Bool)
  | ferryPauseBegin
  | ferryDrained
  | ferryLanding (pauseUs : Nat)
  | ferryDeadline
  | trialArm
  | trialToken (value : BitVec 32)
  | healthToken (ini : Initiator) (value : BitVec 32)
  | rollbackCopyComplete
  | trialTimerExpire
  | stagingDiscard (v : Option (Fin 2))
  | apstIdleExpire (p : Fin 2)
  | psPreparationDone (systemFail : Bool)
  | domainAnswer (d : Fin 4) (a : Answer)
  | domainDelayExpire (d : Fin 4)
  | supplyPowerGood (sup : Supply)
  | supplyPgTimeout (sup : Supply)
  | xoReadyTimeout
  | thermalSensorRead (temps : List Int)
  | thermalShutdown
  | thermalRestart
  | dictRead (p : Fin 2) (r : DictReq)
  | dictWrite (p : Fin 2) (r : DictReq)
  | dictDescribe (p : Fin 2) (r : DictReq)
  | dictRequestInvalid (p : Fin 2) (op : Byte) (tag : BitVec 64)
  | miDictRead (r : DictReq)
  | miDictWrite (r : DictReq)
  | miDictDescribe (r : DictReq)
  | commitWindowClose (index : BitVec 16) (sub : Byte)
  | defaults (v : Option (Fin 2))
  | testNow (v : Option (Fin 2))
  | cInitReset (v : Option (Fin 2))
  | fullWindow (v : Option (Fin 2)) (ms : Nat)
  | fullTarget (v : Option (Fin 2)) (stripe : Nat)
  | pounceRun (v : Option (Fin 2))
  | bmcNtfRead (n : Fin 32)
  | registerWrite (ini : Initiator) (r : Reg) (value : BitVec 32)
  | auxPowerOn
  | auxRelease (peDual mbSel testScan : Bool)
  | ledCheck (led : Fin 3) (highWhileSinking lowWhileReleased lowCurrent : Bool)
  | fpBtnPress (ms : Nat)
  | buttonStuck
  | mbLineHeldLow (sda : Bool)
  | mbLineReleased (sda : Bool)
  | i3cHotJoin
  | debugProbeAttach
  | debugProbeRemove
  | zoneOpen (fseq : Nat)
  | zoneClose (fseq : Nat)
  | unitPowerGate (sl : Fin 8) (unit : Nat)
  | crystalReady
  | huIsoClose
  | prechargeEnd
  | trialFlushDeadline
deriving DecidableEq, Repr

end Sys2Proof
end

