-- ==== Sys2Proof/Machine/State.lean ====
section
/-! DEFINITION. Everything the spec gives the FZ9640, as plain data. Each field's default is its value in
`State.reset`: the reset value of the register tables (R13), or the value that notes/assumptions/2.md names. -/

namespace Sys2Proof.Machine

open Sys2Proof

/-- Why a step stops with a fault. No command of this block faults: every row has an effect. -/
inductive Fault where
  /-- Raised by nothing: kept so that the type is not empty. Safe: no run meets it. -/
  | none
deriving DecidableEq, Repr

/-- Why a step is refused. -/
inductive Refusal where
  /-- Raised by an arm of `exec` whose meaning is not written; no arm raises it. Safe: the run stops. -/
  | notModelled (mnemonic : String)
deriving DecidableEq, Repr

/-! ## Statuses and outputs -/

/-- The NVMe statuses that the manual names, and the vendor statuses of R281. -/
inductive Status where
  | success | invalidOpcode | invalidField | dataTransferError | internalError | abortRequested
  | invalidNs | cmdSeqError | invalidCmbUse | nsWriteProtected | lbaRange | capacityExceeded | nsNotReady
  | resvConflict | invalidQid | invalidCq | invalidQSize | invalidQDeletion | abortLimit | aerLimit
  | invalidFwSlot | invalidFwImage | fwActConvReset | fwActMtfa | fwActProhibited | fwActProhibitedDnr | overlappingRange
  | nsInsufficientCapacity | nsIdUnavailable | nsAlreadyAttached | nsNotAttached | invalidLogPage
  | invalidVector | selfTestInProgress | zoneBoundary | zoneFull | zoneReadOnly | zoneInvalidWrite
  | tooManyActiveZones | tooManyOpenZones | invalidZoneTransition | copyLimit
  | unrecoveredRead | compareFailure | accessDenied | writeFault
  | vsC1 | vsC2 | vsC3 | vsC4 | vsC5
deriving DecidableEq, Repr

/-- Where a PCIe request to the part ends (R292, R302, R308, R461). -/
inductive Cpl where
  | ok (bytes : List Byte) | ur | ca | retry | discarded
deriving DecidableEq, Repr

/-- What the block sends out. -/
inductive Output where
  /-- A completion entry reaches host memory (R60, R305). -/
  | cqe (p : Fin 2) (cqid sqid cid : Nat) (st : Status) (dw0 : Nat)
  /-- An MSI-X message. -/
  | msix (p : Fin 2) (vec : Nat)
  /-- Logical-block data written to the command's host buffer. -/
  | hostData (fseq : Nat) (data : List Sector)
  /-- A structure returned to the host or the management bus. -/
  | reply (fseq : Nat) (kind : Nat) (vals : List Nat)
  /-- The completion of a PCIe request. -/
  | tlp (p : Fin 2) (c : Cpl)
  /-- The value that a register or store read returned. -/
  | readVal (ini : Initiator) (v : Nat)
  /-- ERR_NONFATAL with Uncorrectable Internal Error (R302). -/
  | errNonFatal (p : Fin 2)
  /-- An advisory non-fatal Unsupported Request is logged (R292). -/
  | advisoryUr (p : Fin 2)
  /-- A notification to the management controller (R302, R310, R495). -/
  | miNotify (code : Nat) (arg : Nat)
  /-- A management-bus response: STATUS, WRITER, value (R487). -/
  | miReply (status writer : Nat) (bytes : List Byte)
  /-- A request that its target refuses completes with an access error (R30, R46). -/
  | accessError (ini : Initiator)
  /-- An AVS voltage write in mV (R42). -/
  | avs (mv : Nat)
  /-- A NAND operation issued to a die (R151): 1 program confirm, 2 erase, 3 suspend, 4 resume, 5 LUN reset, 6 Read Status
  Enhanced, 7 a recentring probe at the centre ± `a` steps, through the training FIFO if `b` is 1, 8 the switch to NV-LPDDR4 at `a` MT/s,
  9 ZQ calibration and duty-cycle correction, 10 read and write training, 11 a read of ID and parameter page. -/
  | nand (die op a b : Nat)
  /-- A NAND read (R104, R114, R151): die, block, page, the bytes of the page to transfer, the references' offsets in whole steps as
  set by Set Features, and whether it is the second read of a cache read. -/
  | nandRead (die block page start len : Nat) (offs : List Int) (cache : Bool)
  /-- A page's bytes are transferred to a die for a program (R77, R90). -/
  | nandData (die block page : Nat) (bytes : List Byte)
  /-- Set Features of a die: address and value (R151). -/
  | nandFeature (die addr : Nat) (value : Int)
  /-- A channel's signals: high impedance but for the CE_N, driven high (`ce` none), or one CE_N held high (R171). -/
  | pins (ch : Fin 64) (ce : Option (Fin 4))
  /-- A codeword enters a decoder of a slice: soft or hard, the iteration limit, an LLR for each bit of the mother code (R124, R125). -/
  | decode (sl : Fin 8) (soft : Bool) (limit : Nat) (input : List Int)
  /-- A DRAM read-back is issued on a channel: of the last 32-byte burst written there, at this internal address (R60, R344). -/
  | readBack (ch : Fin 16) (addr : Nat)
  /-- A DRAM command: 0 grant, 1 per-bank refresh, 2 retraining pause, 3 write-back of a corrected burst. -/
  | dram (ch : Fin 16) (op arg : Nat)
  /-- The check words of data bursts of a row are written to its check bursts (R315). -/
  | dramCheck (ch bank : Fin 16) (row : Nat) (words : List Nat)
  /-- A system DMA write to host memory (R341, R343). -/
  | dmaHost (p : Fin 2) (addr : Nat) (bytes : List Byte)
  /-- The read-back of a system DMA channel elsewhere than in DRAM, by space, address and length (R344). -/
  | dmaCheck (space : Nat) (addr len : Nat)
  /-- A message to a core (R348). -/
  | coreMsg (c : Nat)
  /-- An SPDM response: request kind, whether signed, its contents (R380). -/
  | spdm (v : SpdmVia) (kind : Nat) (signed : Bool) (bytes : List Byte)
  /-- A supply enable changes (R509, R510). -/
  | enable (sup : Supply) (on : Bool)
  /-- The LED pin's action (R519, R520): 0 off, 1 on, 2 to 4 blinking at 1, 2, 4 Hz, 5 released. -/
  | led (k : Fin 3) (act : Nat)
  /-- The management lines are released, or Hot-Join is requested (R524). -/
  | mb (hotJoin : Bool)
  /-- The handshake of a power state is sent to the four domains (R451). -/
  | handshake (target : Nat)
  /-- Host 12 V isolation or discharge switch gates (R227, R238, R518). -/
  | gates (iso dis chg : Bool)
deriving DecidableEq, Repr

/-! ## Event recorder and counters (R417 to R424) -/

/-- An event record (R418). -/
structure EventRec where
  code : Nat
  source : Byte
  severity : Nat
  data : List Byte
  seq : Nat
  repeats : BitVec 32 := 0
  opsec : Nat := 0
  lastOpsec : BitVec 32 := 0
  pcc : BitVec 32 := 0
  suppressed : BitVec 16 := 0
  hostTs : Option Nat := none
deriving DecidableEq, Repr

/-- The event recorder (R417 to R421). -/
structure Evr where
  /-- kept records, newest first -/
  recs : List EventRec := []
  /-- SEQ of the next record -/
  next : Nat := 0
  /-- journal memory is reachable (R420) -/
  journalUp : Bool := false
  /-- records waiting in SRAM, newest first: EVR_STAGE.PENDING is their number -/
  early : List EventRec := []
  earlyLost : Bool := false
  /-- tokens left in each code's bucket; a code not listed has 16 -/
  tokens : AMap Nat := []
  /-- events of each code suppressed since its last record -/
  suppCode : AMap Nat := []
  /-- device-wide total (entry 0x1100/0x05), and its persisted copy -/
  suppTotal : BitVec 64 := 0
  suppTotalP : BitVec 64 := 0
  /-- EVR_SUPP -/
  suppCnt : BitVec 32 := 0
  /-- REPEAT and LAST_OPSEC of the last record as persisted (R420) -/
  repP : BitVec 32 := 0
  lastOpsecP : BitVec 32 := 0
  /-- EVR_SEQ_HI as latched for each initiator -/
  latch : List (Initiator × BitVec 32) := []
deriving DecidableEq, Repr

/-- The host timestamp's state (R424). -/
inductive TsState where
  | never | running | stopped
deriving DecidableEq, Repr

/-- Operating seconds, power cycles, host timestamp (R422 to R424). -/
structure Clocks where
  opsec : BitVec 40 := 0
  opsecP : BitVec 40 := 0
  pcc : BitVec 32 := 0
  ts : TsState := .never
  /-- the value set, and the timebase at the set -/
  tsSet : Nat := 0
  tsAt : BitVec 64 := 0
  /-- the persisted timestamp and the operating seconds at that persist -/
  tsP : Option (Nat × Nat) := none
deriving DecidableEq, Repr

/-! ## Timebase, pace, cores, units (chapter 01) -/

structure Timebase where
  /-- the 64-bit count of 10 ns ticks (R39) -/
  count : BitVec 64 := 0
  /-- SYS_TB_HI as latched for each initiator (R49) -/
  latch : List (Initiator × BitVec 32) := []
  srcSel : BitVec 2 := 0
  srcAct : TbSource := .crystal
  srcFail : Bool := false
  /-- whether each external source runs -/
  crystalUp : Bool := true
  refclkUp : Bool := false
deriving DecidableEq, Repr

structure PaceSensor where
  pace : BitVec 16 := 0
  paceMin : BitVec 16 := 0xFFFF
  /-- consecutive windows below SYS_PACE_FLOOR -/
  below : Nat := 0
deriving DecidableEq, Repr

structure Pace where
  sensors : Tbl 16 PaceSensor := Vector.replicate 16 {}
  floor : BitVec 16 := 0x044C
  alarm : Bool := false
  sensor : BitVec 4 := 0
deriving DecidableEq, Repr

/-- Where a core stands after a failure (R50). -/
inductive CoreRestart where
  | none | restarting | restartedAt (tb : Nat)
deriving DecidableEq, Repr

structure CoreSt where
  alive : Bool := false
  failed : Bool := false
  restart : CoreRestart := .none
  /-- being tried again after a cold start: heartbeats given in a row (R53) -/
  trying : Option Nat := none
deriving DecidableEq, Repr

/-- The replicated units that can fail (R52, R53). -/
structure Units where
  cores : Tbl 32 CoreSt := Vector.replicate 32 {}
  hard : Tbl 8 (BitVec 8) := Vector.replicate 8 0
  soft : Tbl 8 (BitVec 2) := Vector.replicate 8 0
  comp : Tbl 8 Bool := Vector.replicate 8 false
  acc : Tbl 8 Bool := Vector.replicate 8 false
  lane : Tbl 8 Bool := Vector.replicate 8 false
  /-- the security pair has failed (R27, R368) -/
  pair : Bool := false
  /-- units out of service: event code, unit number, SOURCE (R53) -/
  outages : List (Nat × Nat × Byte) := []
deriving DecidableEq, Repr

/-- Core voltage and power capping (R42 to R45, R471). -/
structure Avs where
  vcore : Nat := 750
  /-- package power in 0.1 W as last measured -/
  power : Nat := 0
  /-- eighths of the fetch rate cut away -/
  fetchCut : Nat := 0
deriving DecidableEq, Repr

/-- Where the part stands between power-off and running (R405 to R407, R465, R469, R527). -/
inductive Phase where
  | off | auxReset | supplies | rom | slipway | firmware | recovering | running
  | bootFault | wakeFault | thermalOff | testScan | flushing | flushed | deepRest | trialFlush
deriving DecidableEq, Repr

/-! ## Controllers, queues, commands (chapter 07) -/

structure Sq where
  size : Nat
  tail : Nat := 0
  head : Nat := 0
  cqid : Nat
  prio : Fin 4 := 0
  inCmb : Bool := false
deriving DecidableEq, Repr

structure Cq where
  size : Nat
  /-- entries posted and not yet freed by the head doorbell -/
  used : Nat := 0
  head : Nat := 0
  vector : Nat := 0
  /-- completions that found the queue full: (sqid, cid, status, dw0) -/
  held : List (Nat × Nat × Status × Nat) := []
deriving DecidableEq, Repr

/-- Feature values of a controller (R253). -/
structure Features where
  burst : Fin 8 := 3
  wLow : Byte := 0
  wMed : Byte := 0
  wHigh : Byte := 0
  tempThr : List (Nat × Bool × BitVec 16) := []
  tler : BitVec 16 := 0
  dulbe : Bool := false
  wce : Bool := true
  nsq : Nat := 4096
  ncq : Nat := 4096
  icThr : Byte := 0
  icTime : Byte := 0
  ivDisabled : List Nat := []
  aerMask : BitVec 32 := 0
  apste : Bool := false
  apst : Option (List (Nat × Nat)) := none
  tmt1 : Nat := 0
  tmt2 : Nat := 0
  rrl : Nat := 0
  hostId : BitVec 128 := 0
deriving DecidableEq, Repr

structure Ctrl where
  en : Bool := false
  rdy : Bool := false
  cfs : Bool := false
  shst : BitVec 2 := 0
  /-- the full checkpoint of its shutdown has begun (R277) -/
  ckpt : Bool := false
  wrr : Bool := false
  sqs : AMap Sq := []
  cqs : AMap Cq := []
  feat : Features := {}
  featSaved : Features := {}
  /-- round-robin place: the queue last served and commands left of its burst (R258) -/
  rrLast : Nat := 0
  rrLeft : Nat := 0
  /-- weighted round robin: credits left of high, medium and low -/
  credits : Nat × Nat × Nat := (0, 0, 0)
  /-- power state the controller holds, and the last operational one (R457) -/
  ps : Nat := 0
  psOper : Nat := 0
  /-- Asynchronous Event Requests outstanding, by FSEQ -/
  aers : List Nat := []
  /-- doorbells written while contained or asleep: 2·y tail, 2·y+1 head (R302, R459) -/
  dbLatch : AMap Nat := []
  /-- Error Information log, newest first: FSEQ, status, LBA -/
  errors : List (Nat × Status × Nat) := []
  changedNs : List Nat := []
  /-- Device Self-test in progress, and the last result -/
  selfTest : Nat := 0
  selfTestLast : Nat := 0
  directive : List (Nat × Bool) := []
deriving DecidableEq, Repr

/-- How far a fetched command has come. -/
inductive CmdPhase where
  | waitLocks | ready | waitLines | filling | merging | landed | waitCommit | waitRows | reading
  | waitData | outstanding | rebind
deriving DecidableEq, Repr

structure Cmd where
  port : Fin 2
  sqid : Nat
  cid : Nat
  cmd : HostCmd
  phase : CmdPhase := .waitLocks
  /-- landing lines it owns -/
  lines : List Nat := []
  /-- CMB slots it has adopted; in phase `rebind` it waits at stage 2 for free lines to bind them to again (R262) -/
  slots : List Nat := []
  /-- rows it waits for (FUA, write-through, Flush) -/
  rows : List Nat := []
  /-- Read Recovery Level cap in force at its fetch: highest step (R137) -/
  cap : Nat := 6
  /-- volatile-write-cache setting at its fetch makes it behave as FUA (R273) -/
  fua : Bool := false
  /-- granules delivered so far, by granule address -/
  got : AMap (List Sector) := []
  /-- granules still awaited from NAND, and those that ended unrecovered (R103, R138) -/
  awaiting : List Nat := []
  failed : List Nat := []
  /-- write data held while a merge reads (R63) -/
  wdata : List Sector := []
  /-- the map page it waits for (R193) -/
  waitPage : Option Nat := none
  /-- Dword 0 of its completion, once known -/
  result : Nat := 0
  /-- a controller reset has ended it but for its effect: no completion is posted (R276) -/
  silent : Bool := false
deriving DecidableEq, Repr

/-- A range-lock entry (R267). `ns = none` covers every namespace. -/
structure Lock where
  ns : Option Nat
  first : Nat
  last : Nat
  excl : Bool
  fseq : Nat
  granted : Bool
deriving DecidableEq, Repr

/-- Fetch order, locks and pauses (R259, R267 to R270, R278). -/
structure Cmq where
  ctrls : Tbl 2 Ctrl := Vector.replicate 2 {}
  cmds : AMap Cmd := []
  fseq : Nat := 0
  locks : List Lock := []
  hwm : BitVec 14 := 0
  stalled : Bool := false
  stallCnt : BitVec 32 := 0
  stallTotal : BitVec 64 := 0
  invalidCmb : BitVec 16 := 0
  paused : Bool := false
  abandoned : Bool := false
  abandonTotal : BitVec 32 := 0
  /-- the result of the last Sanitize: 1 once one has completed (R253) -/
  sanitizeLast : Nat := 0
deriving DecidableEq, Repr

/-- Zone states (R217). -/
inductive ZoneSt where
  | empty | implOpen | explOpen | closed | full | readOnly
deriving DecidableEq, Repr

structure Zone where
  st : ZoneSt := .empty
  /-- write pointer, in granules from the zone's start -/
  wp : Nat := 0
  /-- capacity in granules -/
  cap : Nat
deriving DecidableEq, Repr

structure Registrant where
  port : Fin 2
  key : BitVec 64
deriving DecidableEq, Repr

structure Reservation where
  regs : List Registrant := []
  holder : Option (Fin 2) := none
  rtype : Nat := 0
  gen : Nat := 0
  ptpl : Bool := false
deriving DecidableEq, Repr

structure Namespace where
  /-- size in logical blocks -/
  nlbas : Nat
  lba512 : Bool
  ind16 : Bool
  zoned : Bool
  placement : Nat := 0
  kpio : Bool := false
  /-- expansion factor in 1/256 for an expanded-capacity namespace (R99) -/
  factor : Option Nat := none
  attached : List (Fin 2) := []
  zones : AMap Zone := []
  resv : Reservation := {}
  /-- 16-byte units charged for its valid records (R99) -/
  charged : Nat := 0
  /-- 16-byte units reserved for granules landed and not yet complete (R100) -/
  reserved : Nat := 0
deriving DecidableEq, Repr

/-! ## Landing buffer and CMB (chapters 02, 07) -/

/-- A line's state (R56). Free and released lines are not listed; `Landing.stateOf` gives every line's state. -/
inductive LineSt where
  | free | filling | committed | packed | released
deriving DecidableEq, Repr

structure Line where
  st : LineSt := .filling
  ns : Nat
  granule : Nat
  /-- the key slot, and the key in it, to which the line was bound at its commit (R67) -/
  keySlot : Nat := 0
  keyGen : Nat := 0
  cmdSeq : Nat
  data : List Sector
  /-- write-through line (R58) -/
  wt : Bool := false
  /-- stored raw without a compression attempt (R71) -/
  raw : Bool := false
  /-- the row it is dispatched to or packed in, and the slice -/
  row : Option (Nat × Fin 8) := none
  /-- its place in the slice's order of dispatch; the lines of one 16 KiB unit share it -/
  turn : Nat := 0
  handle : Nat := 0
  /-- adopted from a CMB slot: it counts against the limit from then on (R59) -/
  adopted : Bool := false
  /-- 16-byte units still reserved for it in its namespace (R100) -/
  resv : Nat := 256
  /-- the frame that compression gave, while the line waits to be packed (R69, R80 rule 5) -/
  frame : Option (List Byte) := none
deriving DecidableEq, Repr

structure CmbPort where
  sqMib : Nat := 0
  dataMib : Nat := 0
  /-- slots not bound to a line (R262) -/
  unbound : List Nat := []
  /-- slots bound to another line than the one of the last controller reset -/
  moved : AMap Nat := []
  /-- data written to a bound slot, by slot -/
  data : AMap (List Sector) := []
  /-- slots adopted by a command not completed -/
  adopted : AMap Nat := []
deriving DecidableEq, Repr

/-- The persistent memory region of one port (R265, R266). -/
structure Pmr where
  mib : Nat := 0
  mem : List Host.Cell := []
  nrdy : Bool := true
  /-- the image in the system band and the operating seconds at its writing -/
  image : Option (List Host.Cell × Nat) := none
  /-- the contents differ from the image -/
  dirty : Bool := false
  /-- PMRSTS.HSTS Restore Error -/
  restoreErr : Bool := false
  /-- restored since the last start, wake or PS3 exit -/
  restored : Bool := false
deriving DecidableEq, Repr

structure Landing where
  lines : AMap Line := []
  /-- lines released at the completion of their rows and not taken again (R56, R93) -/
  released : List Nat := []
  limit : Nat := 0
  wt : Bool := true
  cmb : Tbl 2 CmbPort := Vector.replicate 2 {}
  pmr : Tbl 2 Pmr := Vector.replicate 2 {}
  /-- the line-index image: granule, namespace, STATE, sequence (R245) -/
  image : Option (List (Nat × Nat × Nat × Nat)) := none
deriving DecidableEq, Repr

/-! ## Media: profile, channels, dies, stripes, rows, NAND, map (chapters 02 to 05) -/

/-- Placement streams (R199). -/
inductive Stream where
  | host (handle : Nat) | zone (ns z : Nat) | f0 | f1 | system
deriving DecidableEq, Repr

/-- How a stripe rotates parity (R84, R86, R174). -/
inductive Rotation where
  | by32 | by31 | outside (slices : List (Fin 8))
deriving DecidableEq, Repr

structure Stripe where
  group : Nat
  stream : Stream
  /-- member dies and blocks, ascending by channel -/
  members : List (Nat × Nat)
  rotation : Rotation
  isOpen : Bool := true
  nextRow : Nat := 0
  closedAt : Nat := 0
  /-- payload in 16-byte units when closed -/
  total : Nat := 0
deriving DecidableEq, Repr

/-- What the map holds for a unit (R180, R181): a unit not listed is TRIMMED. -/
inductive MapEnt where
  | zero
  | loc (die block page offset len : Nat) (raw : Bool)
deriving DecidableEq, Repr

/-- What a record is (R68, R79, R195). -/
structure Rec where
  ns : Nat
  granule : Nat
  die : Nat
  block : Nat
  page : Nat
  /-- start and length in the page's run, in 16-byte units (R80) -/
  offset : Nat
  len : Nat
  raw : Bool
  /-- key slot and the key's generation under which it was encrypted (R73) -/
  keySlot : Nat
  keyGen : Nat
  data : List Sector
  /-- the compressed record's frame; a raw record has none (R69) -/
  frame : List Byte := []
  /-- landing line it came from; of a copy the source stripe, and the map entry of its unit when it was taken (R185) -/
  line : Option Nat := none
  src : Option Nat := none
  srcEnt : Option MapEnt := none
  /-- superseded before its row completed: never mapped (R66) -/
  dead : Bool := false
  /-- the padding that follows it in its codeword, in 16-byte units: known once its row is closed (R99) -/
  pad : Nat := 0
  /-- KIND of the system record that it is a fragment of, whose KEY and FRAG `granule` holds; 0 for a data record (R195) -/
  kind : Nat := 0
deriving DecidableEq, Repr

/-- A system record (R195): KIND, KEY, content; of a map record also the entries that it holds and the ring position up to which
the map's updates are in it (R194, R196). -/
structure SysRec where
  kind : Nat
  key : Nat
  bytes : List Byte
  ents : List (Nat × MapEnt) := []
  pos : Nat := 0
deriving DecidableEq, Repr

/-- Where a system record lies (R195): die, block, page, and its span of the page's run in 16-byte units. -/
structure Place where
  die : Nat
  block : Nat
  page : Nat
  offset : Nat
  len : Nat
deriving DecidableEq, Repr

/-- What a programmed page is beyond its records: its row's sequence number (R78), whether it was stored unscrambled (R81), and
whether it holds parity (R85). -/
structure PageHead where
  seq : Nat
  bypass : Bool := false
  parity : Bool := false
deriving DecidableEq, Repr

/-- The packer's place in a slice's pages of a row (R80): page number in the slice's order, units used in it, records
begun in the present codeword. -/
structure Cursor where
  page : Nat := 0
  used : Nat := 0
  begun : Nat := 0
deriving DecidableEq, Repr

structure Row where
  stripe : Nat
  w : Nat
  stream : Stream
  cursors : Tbl 8 Cursor := Vector.replicate 8 {}
  recs : List Rec := []
  /-- the system records that it holds, each with its place (R195) -/
  sys : List (SysRec × Place) := []
  /-- its completion has been asked for and waits: for map pages, for the ring, or behind an older row (R193, R197, R243) -/
  due : Bool := false
  closed : Bool := false
  /-- a close is wanted once the close-wait has passed (R94) -/
  closing : Bool := false
  /-- a Flush closes it as soon as nothing dispatched to it is unpacked (R94) -/
  closeNow : Bool := false
  /-- dispatches made to the row: the next one's turn -/
  sent : Nat := 0
  /-- the parity pages that the read buffers hold until the row is complete (R92) -/
  parity : List Nat := []
  /-- slices whose packers bypass scrambling in the row: SCR_BYPASS in service mode, as each began its part (R81) -/
  bypass : Tbl 8 Bool := Vector.replicate 8 false
  /-- passes done by each member -/
  passes : Tbl 32 Nat := Vector.replicate 32 0
  /-- every member has been issued its final pass -/
  finalIssued : Bool := false
deriving DecidableEq, Repr

/-- An array operation waiting in a die queue (R156, R157). A read belongs to ladder `rid`; `k` tells the reads of step 4 apart. -/
inductive QOp where
  | readOp (prio : Nat) (rid k : Nat) | prog (row : Nat) (pass : Nat) (member : Fin 32) (block w : Nat) | erase (block : Nat)
deriving DecidableEq, Repr

/-- What a die's array is doing (R157, R165). -/
inductive DieOp where
  | idle
  | reading (rid k : Nat)
  | prog (row pass : Nat) (member : Fin 32) (block w susp : Nat) (ranEnough : Bool)
  | erase (block susp : Nat) (ranEnough : Bool)
deriving DecidableEq, Repr

structure DieSt where
  queue : List QOp := []
  op : DieOp := .idle
  /-- a suspend has been issued and the die has not yet reported it -/
  suspending : Bool := false
  /-- since when a read has waited for the running program or erase to be suspended, in ticks (R167, R168) -/
  readAt : Option Nat := none
  /-- in a suspension window: reads issued in it, reads not yet transferred, window time passed (R166) -/
  window : Option (Nat × List (Nat × Nat) × Bool) := none
  /-- SUSP_READ_MAX as it stood when the window opened (R179) -/
  readMax : Nat := 16
  /-- the program, and the erase, at the head of its class has waited 1,000 µs (R157 rule 2) -/
  waited : Bool × Bool := (false, false)
  /-- status polls timed out in a row -/
  timeouts : Nat := 0
  /-- distinct blocks that failed program or erase, with the operating seconds -/
  failBlocks : List (Nat × Nat) := []
  /-- reads of the die, and blocks whose reads ended at step 6 or above, with the read's number (R172) -/
  reads : Nat := 0
  step6 : List (Nat × Nat) := []
  /-- free blocks not yet erased (R201) -/
  dirty : List Nat := []
  bad : List Nat := []
  /-- the identity that its parameter page gave (R153), and that it answered but is left out of service (R155) -/
  ident : Option DieId := none
  leftOut : Bool := false
  /-- a failed die that has passed the self-test of a later cold start, and is erased block by block once its rebuild has ended
  (R178) -/
  returning : Bool := false
deriving DecidableEq, Repr

structure CeSt where
  rdDly : BitVec 6 := 0
  wrDly : BitVec 6 := 0
  /-- the delay of each bit that the PHY holds: eight read, eight write (R161, R162) -/
  bits : List (BitVec 6) := List.replicate 16 0
  eye : BitVec 6 := 0
  moves : BitVec 8 := 0
  rate : Nat := 0
  lost : Bool := false
  /-- recentrings done: every fourth also probes the write delay (R162) -/
  recentred : Nat := 0
  /-- bits whose probes both failed, each with the timebase (R170) -/
  bothFail : List (Nat × Nat) := []
  trained : Bool := false
  /-- it is being fully retrained: its dies' operations are held back (R163) -/
  retraining : Bool := false
  /-- a probe that waits for a LUN: each bit's outcome and what the pin check would find (R163) -/
  probe : Option (List ProbeBit × List PinFault) := none
deriving DecidableEq, Repr

/-- A transfer on a channel's bus (R158): a suspend, resume, reset or status command; a read command; a page of a program; a program
confirm; an erase command; a probe at ± h steps, of the read delay or of the write delay too. -/
inductive Xfer where
  | cmd (die op : Nat) | read (die rid k : Nat) (outs : List Output) | page (die block page : Nat) (bytes : List Byte)
  | confirm (die block w : Nat) | erase (die block : Nat) | probe (die h : Nat) (write : Bool)
deriving DecidableEq, Repr

structure Fch where
  en : Bool := false
  isolate : Bool := false
  esusp : Bool := true
  psusp : Bool := true
  recentre : Bool := true
  maxBusy : BitVec 4 := 0xF
  rate : BitVec 2 := 0
  state : BitVec 3 := 0
  trainFail : Bool := false
  rateNow : Nat := 0
  pinflt : BitVec 32 := 0
  /-- FCH_PINFLT as latched at isolation or at the loss of a chip enable (R179) -/
  pinLatch : BitVec 32 := 0
  ces : Tbl 4 CeSt := Vector.replicate 4 {}
  failed : BitVec 16 := 0
  present : BitVec 16 := 0
  eraseSusp : BitVec 16 := 0
  progSusp : BitVec 16 := 0
  eraseAtLimit : BitVec 16 := 0
  readWaitMax : BitVec 16 := 0
  /-- the transfer on the bus with its remaining time in 10 ns ticks, and those that wait for it, oldest first (R158) -/
  busNow : Option (Xfer × Nat) := none
  bus : List Xfer := []
  /-- the oldest waiting transfer has waited 50 µs and is taken next (R158) -/
  busLimit : Bool := false
  /-- dies whose status poll timed out, with the timebase (R170) -/
  pollAt : List (Nat × Nat) := []
  /-- dies whose data failed the training-pattern comparison or lost every mark, with the timebase (R170) -/
  markAt : List (Nat × Nat) := []
deriving DecidableEq, Repr

/-- The tracking entry of R116: OFS[b] of V_b, b from 1, in 1/64 offset steps. -/
structure Track where
  ofs : Tbl 15 (BitVec 16) := Vector.replicate 15 0
  opsec : BitVec 32 := 0
  updates : BitVec 16 := 0
  stale : Bool := true
  init : Bool := true
deriving DecidableEq, Repr

/-- Whom a NAND read serves (R157). -/
inductive ReadFor where
  | host (fseq : Nat) | merge (fseq : Nat) | mapPage (ns k : Nat) | export_ (p : Fin 2)
  | member (rid : Nat) | copy (stripe : Nat) | rebuild1 (die : Nat) | rebuild2 (die : Nat) | scan
deriving DecidableEq, Repr

/-- Where a codeword's bytes are taken from in a page (R106, R132): shifted as a whole, and from byte 256·k on by a further d. -/
structure Align where
  shift : Int := 0
  split : Option (Nat × Int) := none
deriving DecidableEq, Repr

/-- A codeword's ladder in progress (R130, R131). -/
structure Ladder where
  who : ReadFor
  /-- what it is read for: the granules of its records, as namespace · 2^40 + granule; one number for any other reader -/
  grans : List Nat
  die : Nat
  block : Nat
  page : Nat
  cw : Nat
  /-- the ladder whose step-0 read transfers this codeword too, in one run (R104) -/
  run : Nat := 0
  /-- the step in progress, and the steps that have run -/
  step : Nat := 0
  ran : List Nat := []
  missed : Bool := false
  /-- references of the page; offsets used and estimates in 1/64 steps, of the step-0 read and of the last read at m -/
  refs : List Nat := []
  used0 : List Int := []
  est0 : List Int := []
  used : List Int := []
  est : List Int := []
  /-- the estimates of the last NAND read, whatever its step (R114) -/
  estLast : List Int := []
  rereads : Nat := 0
  /-- NAND reads still awaited for the present step -/
  await : Nat := 1
  align : Align := {}
  /-- the repeats of steps 1 to 4 run at a new alignment, with full-page reads (R132) -/
  realigned : Bool := false
  /-- the bytes of the last read at m and the page byte they begin at, of the soft reads in the order of their steps, and of the
  pages of wordline n + 1 -/
  hard : List Byte := []
  start : Nat := 0
  softs : List (List Byte) := []
  nbrs : List (List Byte) := []
  /-- members of step 6 still being read, and whether one ended unrecovered -/
  members : Nat := 0
  memberLost : Bool := false
  cap : Nat := 6
  /-- acq_step, acq_max, SOFT_DELTA, NA_EN and the page's neighbour table in force at the step-0 read (R22, R134) -/
  acqStep : Nat := 40
  acqMax : Nat := 16
  softDelta : Nat := 6
  naEn : Bool := true
  naTab : List Int := []
deriving DecidableEq, Repr

/-- The neighbour-aware table of a page type under a tracking entry (R128): codewords counted since its last estimate, decoded 0s
and 1s by class · 6 + region, and the estimated table. -/
structure Neighbour where
  count : Nat := 0
  zeros : List Nat := List.replicate 24 0
  ones : List Nat := List.replicate 24 0
  table : Option (List Int) := none
deriving DecidableEq, Repr

structure Wrp where
  compEn : Bool := true
  zeroElide : Bool := true
  scrBypass : Bool := false
  recComp : BitVec 32 := 0
  recRaw : BitVec 32 := 0
  accErr : Bool := false
deriving DecidableEq, Repr

structure Rdc where
  trackEn : Bool := true
  naEn : Bool := true
  stepLimit : BitVec 3 := 6
  exportEn : Bool := false
  /-- decodes whose syndrome was zero and whose CRC did not match (R105) -/
  miscorr : Nat := 0
  missed : BitVec 16 := 0
  dual : BitVec 16 := 0
  decErr : Bool := false
  driftMax : BitVec 8 := 0
  stepCnt : Tbl 8 (BitVec 32) := Vector.replicate 8 0
deriving DecidableEq, Repr

/-- An export area (R142, R143). -/
structure ExpArea where
  busy : Bool := false
  done : Bool := false
  code : Byte := 0
  /-- the request descriptor, 32 bytes, and the TAG that the request in progress took from it (R144) -/
  desc : List Byte := List.replicate 32 0
  tag : BitVec 64 := 0
  /-- the map page that an export by LBA waits for (R193) -/
  waitPage : Option Nat := none
  /-- the last exported codeword: die, block, page, cw, erase count of its block -/
  last : Option (Nat × Nat × Nat × Nat × Nat) := none
  /-- the export record or resolve input at area offset 0x1000, 23,264 bytes; bytes past its end read 0x00 -/
  record : List Byte := []
deriving DecidableEq, Repr

structure Ftl where
  fullEn : Bool := true
  pounceEn : Bool := true
  scanEn : Bool := true
  loadEn : Bool := true
  miss : BitVec 32 := 0
  /-- the working set: map pages that the owner keeps in plain form, the last used last (R189) -/
  work : List Nat := []
deriving DecidableEq, Repr

/-- An entry of a delta block (R242). -/
inductive DeltaEnt where
  | single (ns unit member ptype offset len : Nat) (raw : Bool)
  | copy (ns unit member ptype offset len : Nat) (raw : Bool) (src : Nat)
  | run (ns unit member ptype offset : Nat) (lens : List Nat)
  | state (ns unit count : Nat) (zero : Bool)
deriving DecidableEq, Repr

/-- A delta block (R241). -/
structure DeltaBlock where
  kind : Nat
  seq : Nat
  stripe : Nat := 0
  row : Nat := 0
  ents : List DeltaEnt := []
  pos : Nat
  len : Nat
deriving DecidableEq, Repr

/-- A pounce trigger or a pounce (R205 to R209). -/
structure Pounce where
  stripe : Nat
  die : Nat
  block : Nat
  trigger : Nat
  emerg : Bool
  /-- held as pending in host-triggered mode -/
  pending : Bool
deriving DecidableEq, Repr

/-- The victim being fulled (R210, R211). -/
structure Victim where
  stripe : Nat
  /-- copies still to be completed -/
  left : Nat
deriving DecidableEq, Repr

structure Rebuild where
  die : Nat
  phase : Nat
  records : Nat := 0
deriving DecidableEq, Repr

structure Media where
  profile : Option Profile := none
  /-- the population record of the system band: dies (R155) -/
  population : Option (List Nat) := none
  popInvalid : Bool := false
  fch : Tbl 64 Fch := Vector.replicate 64 {}
  dies : AMap DieSt := []
  wrp : Tbl 8 Wrp := Vector.replicate 8 {}
  rdc : Tbl 8 Rdc := Vector.replicate 8 {}
  ftl : Tbl 8 Ftl := Vector.replicate 8 {}
  expArea : Tbl 2 ExpArea := Vector.replicate 2 {}
  stripes : AMap Stripe := []
  nextStripe : Nat := 1
  rows : AMap Row := []
  /-- the row sequence counter (R89) -/
  rowSeq : Nat := 1
  /-- streams waiting for a group (R87, R200) -/
  waiting : List Stream := []
  /-- records on NAND by page key (die·8192 + block)·4096 + page -/
  nand : AMap (List Rec) := []
  /-- the pages programmed since their block's last erase, by page key -/
  heads : AMap PageHead := []
  eraseCnt : AMap Nat := []
  readCnt : AMap Nat := []
  reads : AMap Ladder := []
  nextRid : Nat := 1
  /-- granules of which a codeword ended unrecovered while another was still being read, by reader (R103) -/
  unrec : List (ReadFor × Nat) := []
  track : AMap Track := []
  /-- the tracking table as the last map checkpoint wrote it (R118) -/
  trackSaved : AMap Track := []
  /-- the neighbour tables (R128), key tracking entry · 4 + page type -/
  neighbour : AMap Neighbour := []
  /-- when each codeword was last recovered, key page key · 4 + codeword, in ticks (R117) -/
  recent : AMap Nat := []
  stepTotal : Tbl 8 (BitVec 64) := Vector.replicate 8 0
  markMissed : BitVec 64 := 0
  markDual : BitVec 64 := 0
  map : AMap MapEnt := []
  /-- the entries as the map records in the system band hold them (R194, R246) -/
  mapNand : AMap MapEnt := []
  /-- granules recorded as lost, key ns·2^40 + granule (R52, R248) -/
  lost : List Nat := []
  lostTotal : BitVec 64 := 0
  /-- where the latest map record of each page lies, key ns·2^30 + k (R194) -/
  mapDir : AMap Place := []
  /-- system records that wait for a row of the system stream (R195) -/
  sysWait : List SysRec := []
  /-- map pages in the cache in the order of the second-chance scan, key ns·2^30 + k, and those used since it passed them (R191) -/
  resident : List Nat := []
  refd : List Nat := []
  /-- dirty map pages, with the ring position of the oldest update not yet written back (R196) -/
  dirtyPages : AMap Nat := []
  /-- copied units that wait for a row of stream F0 or F1 -/
  copyWait : List (List Rec) := []
  /-- map pages that still hold replay deltas (R246) -/
  replay : List Nat := []
  /-- the delta blocks in the ring, and its second, mirrored copy (R8) -/
  ring : List DeltaBlock := []
  mirror : List DeltaBlock := []
  ringHead : Nat := 0
  ringTail : Nat := 0
  wearSaid : Bool := false
  /-- the checkpoint pointer, and where the head of the ring stood as the full checkpoint that is being written began (R198) -/
  ckpt : Option Nat := none
  ckptDue : Option Nat := none
  victim : Option Victim := none
  target : Option Nat := none
  credit : Rat := 0
  window : Bool := false
  pounces : AMap Pounce := []
  nextPounce : Nat := 1
  rebuilds : AMap Rebuild := []
  rebuildWarn : Bool := false
  /-- guaranteed capacity in bytes, and the spare setting it was taken under (R221) -/
  guaranteed : Nat := 0
  readOnly : Bool := false
  /-- every namespace write-protected after a broken ring (R246) -/
  protected_ : Bool := false
  fdp : Bool := false
  /-- FDP events: handle and kind (R215) -/
  fdpEvents : List (Nat × Nat) := []
  namespaces : AMap Namespace := []
deriving DecidableEq, Repr

/-! ## Hold-up (chapter 06) -/

/-- PLP_STAT.STATE. -/
inductive BankSt where
  | off | precharge | boost | full | testing | holding | fault
deriving DecidableEq, Repr

structure Plp where
  chgEn : Bool := true
  testNow : Bool := false
  pfailEn : Bool := false
  vhostEn : Bool := true
  chgI : BitVec 8 := 0x19
  vhostThr : BitVec 8 := 0x6C
  state : BankSt := .off
  testFail : Bool := false
  pfailBad : Bool := false
  capPos : BitVec 16 := 0
  capSense : BitVec 16 := 0
  cMeas : BitVec 16 := 0
  esrMeas : BitVec 16 := 0
  eFull : BitVec 16 := 0
  eAvail : BitVec 16 := 0
  /-- PLP_FAULT, and the conditions that persist -/
  faults : BitVec 6 := 0
  active : BitVec 6 := 0
  lastTest : BitVec 32 := 0
  /-- tests waiting: due by start or period, ordered by TEST_NOW -/
  due : Nat := 0
  tested : Bool := false
  cInit : Option Nat := none
  cInitReset : Bool := false
  /-- the last measurement, persisted (R228) -/
  meas : Option (Nat × Nat) := none
  lastFlush : Nat := 0
  lastRecovery : BitVec 32 := 0
  /-- power-fail raised; flush mark written (R236, R238) -/
  pfail : Bool := false
  marked : Bool := false
  flushUs : Nat := 0
  isoClosed : Bool := false
  disClosed : Bool := false
deriving DecidableEq, Repr

/-! ## Host link (chapter 08) -/

/-- Link states (R296, R308, R446). -/
inductive LinkSt where
  | down | detect | l0 | l0p | l1 | idle
deriving DecidableEq, Repr

inductive IdeSt where
  | none | secure | insecure
deriving DecidableEq, Repr

structure Xlat where
  target : BitVec 4 := 0
  base : BitVec 16 := 0
deriving DecidableEq, Repr

/-- A fate record (R303, R304). -/
structure Fate where
  fseq : Nat
  cid : Nat
  sqid : Nat
  fate : Nat
  opc : Nat
  st : Option Status
deriving DecidableEq, Repr

structure Contain where
  trigEn : BitVec 8 := 0xF3
  active : Bool := false
  fatesValid : Bool := false
  resumeRefused : Bool := false
  causes : BitVec 8 := 0
  first : BitVec 3 := 0
  tb : BitVec 64 := 0
  fseq : BitVec 64 := 0
  fates : List Fate := []
  dbLatched : BitVec 16 := 0
  total : BitVec 32 := 0
deriving DecidableEq, Repr

structure PcPort where
  link : LinkSt := .down
  /-- the substate of L1 (R296): 0 L1, 1 L1.1, 2 L1.2 -/
  l1sub : Nat := 0
  rate : Nat := 0
  width : Nat := 0
  perst : Bool := true
  ide : IdeSt := .none
  ideKeys : Tbl 2 (Option (BitVec 256)) := Vector.replicate 2 none
  config : AMap (BitVec 32) := []
  shd2 : Tbl 64 Xlat := Vector.replicate 64 {}
  act2 : Tbl 64 Xlat := Vector.replicate 64 {}
  shd4 : Tbl 16 (BitVec 4) := Vector.replicate 16 0
  act4 : Tbl 16 (BitVec 4) := Vector.replicate 16 0
  urCross : BitVec 16 := 0
  cnt : Contain := {}
deriving DecidableEq, Repr

/-! ## DRAM (chapter 09) -/

structure ArbReq where
  txn : Option DramTxn := none
  wait : Nat := 0
  prio : BitVec 2
  starve : BitVec 10
  maxHold : BitVec 10
  grants : BitVec 32 := 0
  waits : BitVec 32 := 0
  longest : BitVec 16 := 0
  starved : Bool := false
  cut : Bool := false
  cutCnt : BitVec 16 := 0
deriving DecidableEq, Repr

/-- The defaults of R319 for class `k`. -/
def ArbReq.initial (prio : BitVec 2) (starve maxHold : BitVec 10) : ArbReq :=
  { prio := prio, starve := starve, maxHold := maxHold }

structure DramCh where
  arb : Tbl 12 ArbReq := #v[ArbReq.initial 3 64 128, ArbReq.initial 3 64 128, ArbReq.initial 1 64 128,
    ArbReq.initial 1 64 128, ArbReq.initial 2 32 8, ArbReq.initial 1 64 160, ArbReq.initial 1 64 128,
    ArbReq.initial 1 64 128, ArbReq.initial 2 64 256, ArbReq.initial 0 256 128, ArbReq.initial 0 0 0,
    ArbReq.initial 0 0 8]
  /-- the grant in progress: class, its transaction, bursts issued (R320, R322) -/
  grant : Option (Fin 12 × DramTxn × Nat) := none
  /-- class last granted at each PRIO -/
  lastAt : Tbl 4 (Fin 12) := #v[9, 7, 8, 1]
  /-- each bank's history (reset 0b1111, R324), the row last opened, whether it is left open -/
  hist : Tbl 16 (BitVec 4) := Vector.replicate 16 0xF
  row : Tbl 16 (Option Nat) := Vector.replicate 16 none
  left : Tbl 16 Bool := Vector.replicate 16 false
  /-- each bank's check-word buffer: data bursts of its row whose check words are not written yet (R315) -/
  check : Tbl 16 (List Nat) := Vector.replicate 16 []
  /-- pauses still to run of a cycle (3, 2, 1) or of a full retraining (64 … 1) -/
  cycleLeft : Nat := 0
  fullLeft : Nat := 0
  failed : Bool := false
  ce : BitVec 24 := 0
  ue : BitVec 8 := 0
  /-- uncorrectable bursts by timebase, for the 64-in-1-s rule (R334) -/
  ueAt : List Nat := []
  rd0 : BitVec 7 := 0
  rd1 : BitVec 7 := 0
  wr0 : BitVec 7 := 0
  wr1 : BitVec 7 := 0
  eye : BitVec 8 := 0
  rate : BitVec 2 := 0
  driftWarn : Bool := false
  moves : BitVec 8 := 0
  /-- junction in 0.1 °C at the last cycle -/
  cycleTemp : Int := 0
  /-- corrected burst waiting for its write-back -/
  writeBack : Nat := 0
deriving DecidableEq, Repr

structure Dram where
  chs : Tbl 16 DramCh := Vector.replicate 16 {}
  retrainEn : Bool := true
  scrubEn : Bool := true
  degraded : Bool := false
  ceTotal : BitVec 64 := 0
  ueTotal : BitVec 64 := 0
  cuts : Tbl 12 (BitVec 64) := Vector.replicate 12 0
  selfRefresh : Bool := false
  /-- MR23: segments that self-refresh does not keep (R333, R335) -/
  masked : BitVec 8 := 0
deriving DecidableEq, Repr

/-! ## System DMA (chapter 10) -/

/-- SDM_CH_STAT.STATE. -/
inductive SdmSt where
  | disabled | idle | running | halted
deriving DecidableEq, Repr

/-- Where a running descriptor stands (R343, R344). -/
inductive SdmPhase where
  | fetched | beats | acked | writtenBack
deriving DecidableEq, Repr

structure SdmCh where
  en : Bool := false
  share : BitVec 6 := 1
  endIe : Bool := false
  errIe : Bool := false
  state : SdmSt := .disabled
  end_ : Bool := false
  err : Bool := false
  code : Byte := 0
  base : BitVec 64 := 0
  size : BitVec 13 := 2
  space : BitVec 2 := 0
  head : BitVec 12 := 0
  bytes : BitVec 32 := 0
  vec : BitVec 11 := 0
  desc : Option Desc := none
  phase : SdmPhase := .fetched
  left : BitVec 32 := 0
  result : BitVec 32 := 0
deriving DecidableEq, Repr

structure Sdm where
  chs : Tbl 16 SdmCh := Vector.replicate 16 {}
  lentErrors : BitVec 64 := 0
  /-- bytes that firmware channels wrote to internal memory, by internal address -/
  mem : List Host.Cell := []
deriving DecidableEq, Repr

/-! ## Vault, keys, security (chapter 11) -/

structure VaultSlot where
  len : BitVec 2 := 0
  words : Tbl 8 (BitVec 32) := Vector.replicate 8 0
  /-- all words accepted, expansion not ended -/
  expanding : Bool := false
  valid : Bool := false
deriving DecidableEq, Repr

structure VaultPage where
  op : BitVec 3 := 0
  slot : BitVec 2 := 0
  busy : Bool := false
  /-- the operation in progress, its slot and the block it works on, as the GO found them (R360) -/
  run : BitVec 3 := 0
  runSlot : Fin 4 := 0
  input : BitVec 128 := 0
  done : Bool := false
  code : Byte := 0
  din : Tbl 4 (BitVec 32) := Vector.replicate 4 0
  dout : Tbl 4 (BitVec 32) := Vector.replicate 4 0
  nonce : BitVec 96 := 0
  nonceP : BitVec 96 := 0
  ctr : BitVec 32 := 0
  /-- the nonce has served 2^32 blocks (R362) -/
  spent : Bool := false
  exhausted : Bool := false
  slots : Tbl 4 VaultSlot := Vector.replicate 4 {}
  refused : BitVec 32 := 0
deriving DecidableEq, Repr

structure Vault where
  pages : Tbl 16 VaultPage := Vector.replicate 16 {}
  /-- KVC_CLAIM.OWNER: 0 none, 1 port A, 2 port B -/
  owner : BitVec 2 := 0
  /-- the security domain context register (R357) -/
  context : Nat := 0
deriving DecidableEq, Repr

/-- What a waiting owner command will do (R387). -/
structure OwnerWait where
  opcode : Nat
  param : List Byte
deriving DecidableEq, Repr

structure OpalRange where
  ns : Option Nat := none
  start : Nat := 0
  len : Nat := 0
  rdLocked : Bool := false
  wrLocked : Bool := false
  rdEn : Bool := false
  wrEn : Bool := false
  lorPower : Bool := true
  lorReset : Bool := false
deriving DecidableEq, Repr

structure SpdmSession where
  via : SpdmVia
  id : Nat
  established : Bool := false
  keyGen : Nat := 0
deriving DecidableEq, Repr

/-- A Key Per I/O key: its index i (key slot 64 + i), the key, and the controller that injected it (R369, R374). -/
structure KpioKey where
  index : Nat
  key : BitVec 512
  port : Fin 2
deriving DecidableEq, Repr

structure Security where
  /-- KVC_TAMPER.CAUSE, PAIR_FAIL and STATE -/
  causes : BitVec 5 := 0
  pairFail : Bool := false
  tampered : Bool := false
  meshBroken : Bool := false
  /-- DevID, AK and KEK are held -/
  keysHeld : Bool := false
  entropyBad : Bool := false
  drbgReq : Nat := 0
  debugUnlocked : Bool := false
  debugAuth : Bool := false
  /-- generation of the media key of each slot 0–63; a generation is a key (R369, R377) -/
  keyGen : Tbl 64 Nat := Vector.replicate 64 0
  nextGen : Nat := 1
  opalActive : Bool := false
  ranges : Tbl 64 OpalRange := Vector.replicate 64 {}
  /-- credentials: authority, PIN; tries failed since the last power cycle -/
  pins : AMap (List Byte) := []
  tries : AMap Nat := []
  authed : List Nat := []
  sidBlocked : Bool := false
  dataStore : List Host.Cell := []
  /-- Key Per I/O keys loaded, under namespace·4096 + tag; under 2^24 + i the key of index i that was cleared while committed
  lines bound to it are not yet encrypted (R376) -/
  kpio : AMap KpioKey := []
  owner : Option (List Byte) := none
  ownerLock : Bool := false
  nonce : Option (BitVec 256 × Nat) := none
  ownerResult : Byte := 0
  waiting : Option OwnerWait := none
  slot2Hash : Option (List Byte × Nat) := none
  slot2 : List Byte := []
  sessions : List SpdmSession := []
  nextSession : Nat := 1
  algosDone : List SpdmVia := []
deriving DecidableEq, Repr

/-! ## Boot store, boot chain, ledger, firmware (chapters 12, 13) -/

/-- The boot store's operation (R394, R399). -/
structure BstOp where
  erase : Bool
  sector : Nat
  susp : Bool := false
  suspPend : Bool := false
  held : Bool := false
  /-- it has been suspended before -/
  resumed : Bool := false
  /-- 2 ms of run since the last resume have passed -/
  ranEnough : Bool := true
  /-- the suspend was written by the controller for held reads (R401) -/
  auto : Bool := false
  /-- the page under a program, and its data -/
  page : Nat := 0
  data : List Byte := []
deriving DecidableEq, Repr

structure Shadow where
  erases : Nat := 0
  pip : Bool := false
  eip : Bool := false
deriving DecidableEq, Repr

structure Bst where
  /-- contents; an unlisted byte reads 0xFF -/
  mem : List Host.Cell := []
  shadow : AMap Shadow := []
  /-- programs of each page since its sector's last erase -/
  progs : AMap Nat := []
  op : Option BstOp := none
  idMode : Option Initiator := none
  eraseErr : Bool := false
  progErr : Bool := false
  seqErr : Bool := false
  wpErr : Bool := false
  autoSusp : Bool := true
  suspHit : Bool := false
  worn : Bool := false
  aborted : Bool := false
  abortedOp : Option (Nat × Bool) := none
  /-- reads held: initiator, offset, timebase at the hold (R395, R401) -/
  held : List (Initiator × Nat × Nat) := []
  waitMax : BitVec 16 := 0
  calibOk : Bool := true
  serial : BitVec 64 := 0
deriving DecidableEq, Repr

/-- A ledger record (R410). -/
structure LedgerRec where
  kind : Nat
  source : Nat
  flags : Byte
  index : Nat
  opsec : Nat
  pcc : Nat
  hostTs : Nat
  akId : List Byte
  fwRev : List Byte
  meas : List Byte
  prev : List Byte
  sig : List Byte
deriving DecidableEq, Repr

/-- STATE of the boot control record (R433). -/
inductive UpState where
  | confirmed | writing | written | activateAtReset | activating | trial | rejected
deriving DecidableEq, Repr

/-- Where a ferry activation stands (R435). -/
inductive Ferry where
  | none | prepared | paused | drained
deriving DecidableEq, Repr

/-- The boot chain, the ledger, and firmware update (R405 to R414, R426 to R443). Image area, staging and boot control
record lie in the boot store; `state` to `prevSeq` are the record in force. -/
structure Boot where
  /-- kept records, newest first -/
  ledger : List LedgerRec := []
  ledgerCount : Nat := 0
  /-- the AK certificate store, oldest first: AK_ID and certificate (R413) -/
  akCerts : List (List Byte × List Byte) := []
  state : UpState := .confirmed
  gen : BitVec 32 := 0
  tries : Nat := 0
  svnMin : Nat := 0
  imageSeq : BitVec 32 := 0
  confirmedSeq : BitVec 32 := 0
  prevSeq : BitVec 32 := 0
  /-- SOURCE of the running image: 0 image area, 1 rollback, 2 recovery -/
  source : Nat := 0
  /-- the running image, the image read for a ferry activation, and the old image kept until the landing (R435, R436) -/
  run : List Byte := []
  next : List Byte := []
  old : List Byte := []
  /-- the rollback copy in the system band -/
  rollback : Option (List Byte) := none
  /-- staging: 4 KiB pieces written since its last erase, the controller it is bound to, and the Downloads in progress -/
  staged : List Nat := []
  bound : Option (Fin 2) := none
  /-- a Commit of what staging holds has passed verification -/
  committed : Bool := false
  pieces : AMap (Nat × List Byte) := []
  /-- the Commit whose image-area write is in progress: FSEQ and action -/
  commit : Option (Nat × Nat) := none
  /-- the image being written from the rollback copy in the background (R406) -/
  rewriting : Bool := false
  /-- the health token was accepted and the new rollback copy is being written (R440) -/
  copying : Bool := false
  lastRefusal : BitVec 16 := 0
  fallbacks : BitVec 32 := 0
  ferry : Ferry := .none
  ferryFseq : Option Nat := none
  /-- SYS_TRIAL: armed with, and the timebase at arming; SYS_TRIAL_SEQ -/
  armed : Option (BitVec 32 × Nat) := none
  trialSeq : BitVec 32 := 0
  /-- the trial timer has expired and the fallback it causes has not yet been recorded -/
  trialExpired : Bool := false
  watchdog : Bool := false
  /-- an unclean power loss preceded this start (FLAGS bit 2) -/
  unclean : Bool := false
  /-- an incomplete boot-store sector was found (FLAGS bit 0) -/
  incomplete : Bool := false
  /-- open-block replay is due (R247), the line-index image is to be applied (R248), recovery has not ended since -/
  replayDue : Bool := false
  imageDue : Bool := false
  recoveryDue : Bool := false
deriving DecidableEq, Repr

/-! ## Power states, supplies, thermal (chapter 14) -/

structure PsEntry where
  target : Nat
  phase : Nat
  answers : Tbl 4 (BitVec 2) := Vector.replicate 4 0
  apst : Bool
  /-- its full checkpoint has begun (R450 step 4) -/
  ckpt : Bool := false
  port : Fin 2
deriving DecidableEq, Repr

structure Pws where
  ps : Nat := 0
  entry : Option PsEntry := none
  drFlag : Bool := false
  level : Nat := 0
  hsAnswers : Byte := 0
  hsReason : Byte := 0
  hsTarget : BitVec 3 := 0
  hsDomain : Byte := 0
  abandons : BitVec 16 := 0
  abandonTotal : BitVec 32 := 0
  temps : Tbl 12 (BitVec 16 × BitVec 16) := Vector.replicate 12 (0, 0x8000)
  thermBad : Bool := false
  /-- readings at 120 °C or above in a row (R467) -/
  hot : Nat := 0
  htmt : Nat := 0
  pgVcore : Bool := false
  pgNand : Bool := false
  pg1v8 : Bool := false
  enVcore : Bool := false
  enNand : Bool := false
  en1v8 : Bool := false
  xoReady : Bool := false
  xoTimedOut : Bool := false
  retries : Nat := 0
  failSupply : BitVec 2 := 0
  wakeFault : Bool := false
  wakeTime : BitVec 32 := 0
  /-- power-gated units of each slice, and E26/E27 in the last place (R447) -/
  gated : List (Nat × Nat) := []
  /-- the rest image of R459: the controllers as they were -/
  rest : Option (Tbl 2 Ctrl) := none
deriving DecidableEq, Repr

/-! ## Dictionary (chapter 15) -/

structure DictVal where
  bytes : List Byte
  writer : Byte := 0
  opsec : Nat := 0
  pcc : Nat := 0
deriving DecidableEq, Repr

/-- A write that waits in a commit window (R490, R492): writer code, value, tag. -/
structure WinWrite where
  writer : Byte
  value : List Byte
  tag : BitVec 64
deriving DecidableEq, Repr

/-- A notification record (R495). -/
structure Ntf where
  index : Nat
  sub : Nat
  winner : Byte
  opsec : Nat
deriving DecidableEq, Repr

structure Mailbox where
  busy : Bool := false
  done : Bool := false
  ntf : Bool := false
  code : Byte := 0
  vec : BitVec 11 := 0
  doneIe : Bool := false
  ntfIe : Bool := false
  wr : BitVec 5 := 0
  rd : BitVec 5 := 0
  overflow : Bool := false
  ring : AMap Ntf := []
  /-- the response: TAG, STATUS, WRITER, W_OPSEC, W_PCC, value (R484) -/
  tag : BitVec 64 := 0
  writer : Byte := 0
  wOpsec : Nat := 0
  wPcc : Nat := 0
  value : List Byte := []
deriving DecidableEq, Repr

structure Dict where
  /-- values written, key index·256 + sub -/
  vals : AMap DictVal := []
  /-- per-requester values: requester 0, 1 port, 2 management bus; key requester·2^24 + index·256 + sub -/
  perReq : AMap (List Byte) := []
  windows : AMap (List WinWrite) := []
  mbox : Tbl 2 Mailbox := Vector.replicate 2 {}
  bmcRing : AMap Ntf := []
  bmcNext : Nat := 0
  bmcDropped : BitVec 32 := 0
  /-- requests held until the commit point runs: port (none: the management bus), OP, the request (R496) -/
  held : List (Option (Fin 2) × Nat × DictReq) := []
  overrides : BitVec 32 := 0
  /-- the value log (R477), oldest record first, as both copies hold it: key, value, writer, operating seconds, power-cycle count -/
  vlog : List (Nat × DictVal) := []
deriving DecidableEq, Repr

/-! ## Board (chapter 16) -/

structure Board where
  peDual : Bool := false
  mbSel : Bool := false
  testScan : Bool := false
  ledFault : Tbl 3 (BitVec 2) := Vector.replicate 3 0
  btn : BitVec 2 := 0
  mbLow : List Bool := []
  hotJoin : Bool := false
  debugPresent : Bool := false
  /-- the SMBus address in force: MB_ADDR as the last cold start took it (R523, R534) -/
  mbAddr : BitVec 7 := 0x1D
deriving DecidableEq, Repr

/-! ## The whole -/

/-- The machine: every unit, what it has sent out, the free-value counter, and the queue of waiting commands. -/
structure State where
  phase : Phase := .off
  tb : Timebase := {}
  pace : Pace := {}
  units : Units := {}
  avs : Avs := {}
  evr : Evr := {}
  clocks : Clocks := {}
  cmq : Cmq := {}
  land : Landing := {}
  media : Media := {}
  plp : Plp := {}
  ports : Tbl 2 PcPort := Vector.replicate 2 {}
  dram : Dram := {}
  sdm : Sdm := {}
  vault : Vault := {}
  sec : Security := {}
  bst : Bst := {}
  boot : Boot := {}
  pws : Pws := {}
  dict : Dict := {}
  board : Board := {}
  /-- what the block has sent, oldest first (the model's own field) -/
  out : List Output := []
  /-- how many free values have been used (the model's own field) -/
  free : Nat := 0
  pending : List Instr := []
deriving DecidableEq, Repr

/-- The machine right after power-on reset. -/
def State.reset : State := {}

end Sys2Proof.Machine
end

