-- ==== Sys2Proof/Machine/Address.lean ====
section
/-! DEFINITION. The 40-bit internal address map (R46) and the register blocks in it (R48): which region an address lies in, the
address of each register, and which block, instance and offset an address names. -/

namespace Sys2Proof.Machine

open Sys2Proof

/-! ### The regions (R46) -/

/-- The regions of R46: start, end, kind: 0 plain, 1 store or ROM (no writes), 2 not admitted to the system DMA (R30). -/
def regions46 : List (Nat × Nat × Nat) :=
  [(0x0, 0x3FFFF, 1), (0x1000000, 0x103FFFF, 2), (0x2000000, 0x3FFFFFF, 0), (0x4000000, 0x4FFFFFF, 2),
   (0x10000000, 0x13FFFFFF, 1), (0x20000000, 0x2BFFFFFF, 0), (0x2C000000, 0x2CFFFFFF, 0), (0x2D000000, 0x2FFFFFFF, 0),
   (0x1000000000, 0x107FFFFFFF, 0), (0x1080000000, 0x1B7FFFFFFF, 0), (0x1B80000000, 0x1DFFFFFFFF, 0),
   (0x1E00000000, 0x1EFFFFFFFF, 0)]

/-- The region that `n` bytes from `a` lie in; none where a byte lies outside the listed regions. -/
def regionOf (a n : Nat) : Option (Nat × Nat × Nat) :=
  regions46.find? (fun r => decide (r.1 ≤ a) && decide (a + n - 1 ≤ r.2.1))

/-- First address of the register blocks, and of the landing buffer's 2 GiB (R46, R47). -/
def regBase : Nat := 0x4000000
def landingBase : Nat := 0x1000000000

/-! ### Register blocks and instances (R48) -/

/-- The blocks in the order of R48, which is the order of their addresses. -/
inductive Block where
  | sys | hlk | cmq | wrp | rdc | fch | ftl | plp | drc | arb | sdm | kvc | bst | evr | pws | pdc
deriving DecidableEq, Repr

/-- A block's number in R48's table. -/
def Block.number : Block → Nat
  | .sys => 0 | .hlk => 1 | .cmq => 2 | .wrp => 3 | .rdc => 4 | .fch => 5 | .ftl => 6 | .plp => 7
  | .drc => 8 | .arb => 9 | .sdm => 10 | .kvc => 11 | .bst => 12 | .evr => 13 | .pws => 14 | .pdc => 15

/-- The block of a number. -/
def blockNo : Nat → Option Block
  | 0 => some .sys | 1 => some .hlk | 2 => some .cmq | 3 => some .wrp | 4 => some .rdc | 5 => some .fch | 6 => some .ftl
  | 7 => some .plp | 8 => some .drc | 9 => some .arb | 10 => some .sdm | 11 => some .kvc | 12 => some .bst | 13 => some .evr
  | 14 => some .pws | 15 => some .pdc | _ => none

/-- A block's size, and its base. -/
def blockSize : Nat := 0x100000
def Block.base (b : Block) : Nat := regBase + b.number * blockSize

/-- Bytes from one instance of a block to the next: per slice, DRAM channel or key-vault page; an FCH_ instance lies 0x4000
after the last within its slice's 0x2_0000. A block of one instance has the whole 1 MiB. -/
def Block.stride : Block → Nat
  | .wrp | .rdc | .ftl => 0x20000
  | .fch => 0x4000
  | .arb | .kvc => 0x10000
  | _ => blockSize

/-- Where instance `i` begins in its block: slice, channel (8 to a slice), DRAM channel or page. -/
def Block.place (b : Block) (i : Nat) : Nat :=
  match b with
  | .fch => i / 8 * 0x20000 + i % 8 * 0x4000
  | _ => i * b.stride

/-- The address of offset `o` of instance `i` of a block. -/
def Block.addr (b : Block) (i o : Nat) : Nat := b.base + b.place i + o

/-- The instance that holds the offset `o` of a block, and the offset in it: FCH_ instances are 0x4000 long and 8 to a slice. -/
def Block.split (b : Block) (o : Nat) : Nat × Nat :=
  match b with
  | .fch => (o / 0x20000 * 8 + o % 0x20000 / 0x4000, o % 0x4000)
  | _ => (o / b.stride, o % b.stride)

/-- Block, instance and offset of an address; none outside the register blocks' region. -/
def decodeReg (a : Nat) : Option (Block × Nat × Nat) :=
  if a < regBase then none
  else match blockNo ((a - regBase) / blockSize) with
    | some b => some (b, b.split ((a - regBase) % blockSize))
    | none => none

/-! ### The address of each register -/

/-- Block, instance and offset of a register, from the register tables of each chapter. None for a register that the manual
places in a BAR4/5 window or a configuration capability only: the mailbox, the containment capability, the export area. -/
def regBlock : Reg → Option (Block × Nat × Nat)
  | .sysTbCtl => some (.sys, 0, 0x0018)
  | .sysPaceFloor => some (.sys, 0, 0x0140)
  | .sysTrialSeq => some (.sys, 0, 0x0304)
  | .wrpCtl sl => some (.wrp, sl.val, 0)
  | .wrpAccStat sl => some (.wrp, sl.val, 0x20)
  | .rdcCtl sl => some (.rdc, sl.val, 0)
  | .rdcDecStat sl => some (.rdc, sl.val, 0x50)
  | .fchCtl ch => some (.fch, ch.val, 0)
  | .fchStat ch => some (.fch, ch.val, 4)
  | .ftlCtl sl => some (.ftl, sl.val, 0)
  | .plpCtl => some (.plp, 0, 0)
  | .plpFault => some (.plp, 0, 0x18)
  | .cmqPause => some (.cmq, 0, 0x30)
  | .xlat2Shd p n => some (.hlk, 0, 0x1000 + 0x400 * p.val + 4 * n.val)
  | .xlat4Shd p n => some (.hlk, 0, 0x1200 + 0x400 * p.val + 4 * n.val)
  | .drcCtl => some (.drc, 0, 0)
  | .drcEye c => some (.drc, 0, 0x204 + 8 * c.val)
  | .arbCfg c k => some (.arb, c.val, 0x100 + 0x20 * k.val)
  | .arbFlag c k => some (.arb, c.val, 0x110 + 0x20 * k.val)
  | .sdmCtl ch => some (.sdm, 0, 0x10000 + 0x1000 * ch.val)
  | .sdmStat ch => some (.sdm, 0, 0x10000 + 0x1000 * ch.val + 4)
  | .sdmBaseLo ch => some (.sdm, 0, 0x10000 + 0x1000 * ch.val + 0x10)
  | .sdmBaseHi ch => some (.sdm, 0, 0x10000 + 0x1000 * ch.val + 0x14)
  | .sdmRcfg ch => some (.sdm, 0, 0x10000 + 0x1000 * ch.val + 0x18)
  | .sdmHead ch => some (.sdm, 0, 0x10000 + 0x1000 * ch.val + 0x1C)
  | .sdmVec ch => some (.sdm, 0, 0x10000 + 0x1000 * ch.val + 0x24)
  | .kvcCtl pg => some (.kvc, pg.val, 0)
  | .kvcStat pg => some (.kvc, pg.val, 4)
  | .kvcDin pg m => some (.kvc, pg.val, 0x10 + 4 * m.val)
  | .kvcKstat pg n => some (.kvc, pg.val, 0x180 + 4 * n.val)
  | .bstCtl => some (.bst, 0, 0)
  | .bstStat => some (.bst, 0, 4)
  | .evrStage => some (.evr, 0, 8)
  | _ => none

/-- The internal address of a register. A `readOnly` register is named by its block's number and its offset in the block. -/
def regAddress (r : Reg) : Option Nat :=
  match r with
  | .readOnly block offset => some (regBase + block * blockSize + offset)
  | _ => (regBlock r).map (fun x => x.1.addr x.2.1 x.2.2)

/-- Where a host finds a register: the window of BAR4/5 and the offset in it (R290): the mailbox, the telemetry mirror, the key
page, containment, the lent channels' pages (channel 12 + j, or 14 + j for port B, on page j), the export area. -/
def regWindow (dual : Bool) : Reg → Option (Nat × Nat)
  | .dmbStat _ => some (0, 0x14)
  | .dmbVec _ => some (0, 0x18)
  | .dmbNtf _ => some (0, 0x1C)
  | .kvcCtl 2 => some (2, 0)
  | .kvcStat 2 => some (2, 4)
  | .kvcDin 2 m => some (2, 0x10 + 4 * m.val)
  | .kvcKstat 2 n => some (2, 0x180 + 4 * n.val)
  | .cntCtl _ => some (3, 0x0C)
  | .cntStat _ => some (3, 0x10)
  | .rdcExpStat _ => some (5, 0x24)
  | .rdcExp _ w => some (5, 4 * w.val)
  | r =>
    let page (ch : Fin 16) (o : Nat) : Option (Nat × Nat) :=
      if ch.val < 12 then none else some (4, 0x1000 * ((ch.val - 12) % (if dual then 2 else 4)) + o)
    match r with
    | .sdmCtl ch => page ch 0
    | .sdmStat ch => page ch 4
    | .sdmBaseLo ch => page ch 0x10
    | .sdmBaseHi ch => page ch 0x14
    | .sdmRcfg ch => page ch 0x18
    | .sdmHead ch => page ch 0x1C
    | .sdmVec ch => page ch 0x24
    | _ => none

end Sys2Proof.Machine
end

