-- ==== Sys2Proof/Config.lean ====
section
/-! DEFINITION. What the manual leaves open: every constant here has no body, so nothing can be proved of its value
(notes/assumptions/5.md and the rows that name each one). -/

namespace Sys2Proof.Config

/-- The n-th undefined 512-byte sector: a host buffer or a slot whose contents the manual leaves undefined (R262, R276). -/
opaque freeSector : Nat → Sector

/-- The n-th undefined bit string read as a number. -/
opaque freeNat : Nat → Nat

/-- Whether the n-th trial of a failed unit at a cold start passes its self-test (R53). -/
opaque selfTestPasses : Nat → Bool

/-- AES with a 128-, 192- or 256-bit key (FIPS 197, R360): key words, whether it encrypts, the block. -/
opaque aes : List (BitVec 32) → Bool → BitVec 128 → BitVec 128

/-- The media key that a generation names (R369). -/
opaque mediaKey : Nat → BitVec 512

/-- The granule that a Zstandard frame decodes to (RFC 8878). -/
opaque zstdDecode : List Byte → List Sector

/-- COMP_RATIO where R101 gives none: a namespace without a valid record, and one whose ratio does not fit U16. -/
opaque compRatio : Nat → Nat

/-- The 16-bit check word of a DRAM burst's 256 data bits: R314 gives what it corrects and detects, not its code. -/
opaque dramCheck : BitVec 256 → BitVec 16

/-- SHA-384 (FIPS 180-4), 48 bytes. -/
opaque sha384 : List Byte → List Byte

/-- Whether an ECDSA P-384 signature over a digest verifies under a public key (R384, R428): key, digest, signature. -/
opaque ecdsaOk : List Byte → List Byte → List Byte → Bool

/-- The signature that a key of the security pair makes over bytes: key number (0 AK, 1 device slot 0, 2 slot 2), the
n-th draw, the bytes. -/
opaque sign : Nat → Nat → List Byte → List Byte

/-- The n-th output of the generator of R355, 256 bits. -/
opaque drbg : Nat → BitVec 256

/-- The AK_ID (R379) of the image of a measurement. -/
opaque akId : List Byte → List Byte

/-- A certificate chain or a certificate signing request of SPDM slot `n` (R379, R382). -/
opaque certChain : Nat → List Byte

/-- An answer of an external standard's own structure: kind and argument (R253, R380). -/
opaque standardReply : Nat → Nat → List Byte

/-- The coding of an initiator's identity (R30), which the manual does not give. -/
opaque initiatorId : Initiator → Nat

/-- The page, 4 to 14, of the namespace key manager whose SPDM session a request belongs to (R357). -/
opaque keyManagerPage : Nat → Nat

/-- Imanra's image-signing public keys (R427). -/
opaque imanraKey : Nat → List Byte

/-- The fixed recovery image of sectors 4 to 131 (R392, R426), header and body. -/
opaque recoveryImage : List Byte

end Sys2Proof.Config
end

