-- ==== Sys2Proof/Machine/DictTable.lean ====
section
/-! DEFINITION. The parameter dictionary's descriptors (R480), one for each run of entries that differ only in
sub-index, in the order of R481, written from the entry tables of R101, R150, R179, R223, R252, R282, R311, R336, R352,
R390, R425, R445, R472, R500, R503, R504 and R534. -/

namespace Sys2Proof.Machine

/-- A descriptor (R480): index, first and last sub-index, type code (R474), access code (R475), authority code (R476),
writers, size, flags, range, default, name. -/
structure Desc64 where
  index : Nat
  subFirst : Nat
  subLast : Nat
  type : Nat
  access : Nat
  authority : Nat
  writers : Nat
  size : Nat
  flags : Nat
  min : Nat
  max : Nat
  default : Nat
  name : String
deriving DecidableEq, Repr

/-- The 0x1000 range (R503). -/
def dict1000 : List Desc64 := [
  ⟨0x1000, 0, 0, 2, 4, 2, 0, 2, 0, 7997, 7997, 7997, "VENDOR_ID"⟩,
  ⟨0x1000, 1, 1, 2, 4, 2, 0, 2, 0, 38464, 38464, 38464, "DEVICE_ID"⟩,
  ⟨0x1000, 2, 2, 4, 0, 2, 0, 8, 0, 0, 18446744073709551615, 0, "SERIAL"⟩,
  ⟨0x1000, 3, 3, 9, 0, 2, 0, 4, 0, 0, 0, 0, "STEPPING"⟩,
  ⟨0x1000, 4, 4, 9, 0, 2, 0, 8, 0, 0, 0, 0, "FW_REV"⟩,
  ⟨0x1000, 5, 5, 7, 0, 2, 0, 1, 0, 0, 2, 0, "IMAGE_SOURCE"⟩,
  ⟨0x1000, 6, 6, 3, 0, 2, 0, 4, 0, 0, 4294967295, 0, "SUBSYSTEM"⟩,
  ⟨0x1001, 0, 0, 7, 0, 2, 0, 1, 0, 0, 1, 0, "CELL_TYPE"⟩,
  ⟨0x1001, 1, 1, 2, 0, 2, 0, 2, 0, 0, 65535, 0, "DIES_POPULATED"⟩,
  ⟨0x1001, 2, 2, 2, 0, 2, 0, 2, 0, 0, 65535, 0, "DIES_IN_SERVICE"⟩,
  ⟨0x1001, 3, 3, 1, 0, 2, 0, 1, 0, 0, 255, 0, "CHANNELS_POPULATED"⟩,
  ⟨0x1001, 4, 4, 4, 0, 2, 0, 8, 0, 0, 18446744073709551615, 0, "PAYLOAD_CAPACITY"⟩,
  ⟨0x1001, 5, 5, 6, 0, 2, 0, 1, 0, 0, 1, 0, "SERVICE_MODE"⟩]

/-- The 0x1100 range (R425). -/
def dict1100 : List Desc64 := [
  ⟨0x1100, 0, 0, 4, 0, 2, 0, 8, 0, 0, 18446744073709551615, 0, "OPSEC"⟩,
  ⟨0x1100, 1, 1, 3, 0, 2, 0, 4, 0, 0, 4294967295, 0, "POWER_CYCLES"⟩,
  ⟨0x1100, 2, 2, 4, 0, 2, 0, 8, 0, 0, 18446744073709551615, 0, "HOST_TS"⟩,
  ⟨0x1100, 3, 3, 7, 0, 2, 0, 1, 0, 0, 2, 0, "HOST_TS_STATE"⟩,
  ⟨0x1100, 4, 4, 10, 0, 2, 0, 8, 0, 0, 18446744073709551615, 0, "TIMEBASE"⟩,
  ⟨0x1100, 5, 5, 4, 0, 2, 0, 8, 0, 0, 18446744073709551615, 0, "SUPPRESSED_TOTAL"⟩]

/-- The 0x2000 range (R311). -/
def dict2000 : List Desc64 := [
  ⟨0x2000, 0, 0, 7, 0, 2, 0, 1, 32, 0, 1, 0, "LINK_MODE"⟩,
  ⟨0x2000, 1, 1, 6, 2, 0, 3, 1, 32, 0, 1, 1, "L0P_EN"⟩,
  ⟨0x2000, 2, 2, 2, 2, 0, 3, 2, 32, 8, 1000, 32, "L1_IDLE"⟩,
  ⟨0x2000, 3, 3, 2, 2, 0, 3, 2, 32, 10, 3000, 100, "LTR_IDLE"⟩,
  ⟨0x2000, 4, 4, 6, 2, 3, 8, 1, 32, 0, 1, 0, "IDE_REQUIRED"⟩,
  ⟨0x2000, 5, 5, 1, 2, 0, 3, 1, 40, 0, 255, 243, "CNT_TRIG_EN"⟩,
  ⟨0x2001, 0, 1, 3, 0, 2, 0, 4, 32, 0, 4294967295, 0, "LINK_STATUS"⟩,
  ⟨0x2002, 0, 1, 6, 3, 1, 2, 1, 32, 0, 1, 0, "CONTAIN_BMC"⟩,
  ⟨0x2003, 0, 1, 3, 0, 2, 0, 4, 32, 0, 4294967295, 0, "CNT_STATE"⟩,
  ⟨0x2004, 0, 1, 3, 0, 2, 0, 4, 32, 0, 4294967295, 0, "CONTAINMENTS"⟩]

/-- The 0x2100 range (R282). -/
def dict2100 : List Desc64 := [
  ⟨0x2100, 0, 0, 2, 2, 0, 3, 2, 40, 0, 256, 32, "CMB_SQ_MIB"⟩,
  ⟨0x2100, 1, 1, 2, 2, 0, 3, 2, 40, 0, 512, 256, "CMB_DATA_MIB"⟩,
  ⟨0x2100, 2, 2, 2, 2, 0, 3, 2, 40, 0, 256, 0, "PMR_MIB"⟩,
  ⟨0x2100, 3, 3, 2, 0, 2, 0, 2, 32, 0, 65535, 0, "LOCKS_IN_USE"⟩,
  ⟨0x2100, 4, 4, 4, 0, 2, 0, 8, 32, 0, 18446744073709551615, 0, "LOCK_STALLS"⟩,
  ⟨0x2100, 5, 5, 4, 0, 2, 0, 8, 32, 0, 18446744073709551615, 0, "FSEQ_LAST"⟩,
  ⟨0x2100, 6, 6, 3, 0, 2, 0, 4, 32, 0, 4294967295, 0, "ACT_ABANDONED"⟩]

/-- The 0x3000 range (R101). -/
def dict3000 : List Desc64 := [
  ⟨0x3000, 0, 0, 3, 0, 2, 0, 4, 32, 0, 4294967295, 0, "LANDING_LINES"⟩,
  ⟨0x3000, 1, 1, 6, 0, 2, 0, 1, 32, 0, 1, 0, "WRITE_THROUGH"⟩,
  ⟨0x3000, 2, 2, 2, 2, 2, 3, 2, 48, 5, 1000, 20, "CLOSE_WAIT"⟩,
  ⟨0x3010, 0, 255, 4, 0, 2, 0, 8, 34, 0, 18446744073709551615, 0, "PHYS_USED"⟩,
  ⟨0x3011, 0, 255, 2, 2, 0, 3, 2, 38, 256, 1024, 256, "EXPAND_FACTOR"⟩,
  ⟨0x3012, 0, 255, 2, 0, 2, 0, 2, 34, 0, 65535, 0, "COMP_RATIO"⟩]

/-- The 0x3100 range (R150). -/
def dict3100 : List Desc64 := [
  ⟨0x3100, 0, 0, 1, 4, 2, 0, 1, 32, 16, 16, 16, "TRACK_GAIN"⟩,
  ⟨0x3100, 1, 1, 3, 2, 2, 3, 4, 48, 60, 86400, 3600, "TRACK_AGE"⟩,
  ⟨0x3100, 2, 2, 1, 2, 2, 3, 1, 48, 8, 127, 40, "ACQ_STEP_TLC"⟩,
  ⟨0x3100, 3, 3, 1, 2, 2, 3, 1, 48, 8, 127, 24, "ACQ_STEP_QLC"⟩,
  ⟨0x3100, 4, 4, 1, 2, 2, 3, 1, 48, 1, 64, 16, "ACQ_MAX"⟩,
  ⟨0x3100, 5, 5, 1, 2, 2, 3, 1, 48, 1, 16, 3, "ACQ_JUMP"⟩,
  ⟨0x3100, 6, 6, 1, 2, 2, 3, 1, 48, 1, 32, 6, "SOFT_DELTA_TLC"⟩,
  ⟨0x3100, 7, 7, 1, 2, 2, 3, 1, 48, 1, 32, 4, "SOFT_DELTA_QLC"⟩,
  ⟨0x3100, 8, 8, 6, 2, 2, 3, 1, 48, 0, 1, 1, "NEIGHBOUR_EN"⟩,
  ⟨0x3100, 9, 9, 6, 2, 0, 3, 1, 48, 0, 1, 0, "EXPORT_EN"⟩,
  ⟨0x3101, 0, 7, 4, 0, 2, 0, 8, 32, 0, 18446744073709551615, 0, "STEP_COUNT"⟩,
  ⟨0x3102, 0, 0, 4, 0, 2, 0, 8, 32, 0, 18446744073709551615, 0, "MARK_MISSED"⟩,
  ⟨0x3102, 1, 1, 4, 0, 2, 0, 8, 32, 0, 18446744073709551615, 0, "MARK_DUAL"⟩,
  ⟨0x3103, 0, 1, 1, 0, 2, 0, 1, 32, 0, 255, 0, "STEP_CAP"⟩]

/-- The 0x3200 range (R179). -/
def dict3200 : List Desc64 := [
  ⟨0x3200, 0, 63, 7, 0, 2, 0, 1, 32, 0, 7, 0, "CH_STATE"⟩,
  ⟨0x3201, 0, 63, 2, 0, 2, 0, 2, 32, 0, 65535, 0, "DIE_FAILED"⟩,
  ⟨0x3202, 0, 63, 3, 0, 2, 0, 4, 32, 0, 4294967295, 0, "PIN_FAULT"⟩,
  ⟨0x3203, 0, 63, 1, 0, 2, 0, 1, 32, 0, 255, 0, "EYE_MIN"⟩,
  ⟨0x3204, 0, 63, 2, 0, 2, 0, 2, 32, 0, 65535, 0, "RATE"⟩,
  ⟨0x3210, 0, 0, 6, 2, 2, 3, 1, 48, 0, 1, 1, "ERASE_SUSPEND"⟩,
  ⟨0x3210, 1, 1, 6, 2, 2, 3, 1, 48, 0, 1, 1, "PROG_SUSPEND"⟩,
  ⟨0x3210, 2, 2, 1, 2, 2, 3, 1, 48, 1, 64, 16, "SUSP_READ_MAX"⟩,
  ⟨0x3210, 3, 3, 2, 2, 2, 3, 2, 48, 100, 300, 300, "SUSP_WINDOW"⟩,
  ⟨0x3210, 4, 4, 2, 2, 2, 3, 2, 48, 5, 1000, 20, "RECENTRE_PERIOD"⟩,
  ⟨0x3210, 5, 5, 1, 2, 2, 3, 1, 48, 10, 90, 50, "REBUILD_SHARE"⟩,
  ⟨0x3210, 6, 6, 9, 0, 2, 0, 32, 32, 0, 0, 0, "PROFILE_ID"⟩]

/-- The 0x3300 range (R223). -/
def dict3300 : List Desc64 := [
  ⟨0x3300, 0, 0, 1, 2, 2, 3, 1, 32, 7, 28, 7, "SPARE_PCT"⟩,
  ⟨0x3300, 1, 1, 2, 0, 2, 0, 2, 32, 0, 65535, 0, "SPARE_NOW"⟩,
  ⟨0x3300, 2, 2, 4, 0, 2, 0, 8, 32, 0, 18446744073709551615, 0, "GUARANTEED"⟩,
  ⟨0x3300, 3, 3, 2, 0, 2, 0, 2, 32, 0, 65535, 0, "RESIDENCY"⟩,
  ⟨0x3300, 4, 4, 4, 0, 2, 0, 8, 32, 0, 18446744073709551615, 0, "WRITTEN_ENTRIES"⟩,
  ⟨0x3300, 5, 5, 4, 4, 2, 0, 8, 32, 5371093750, 5371093750, 5371093750, "RESIDENCY_LIMIT"⟩,
  ⟨0x3300, 6, 6, 1, 0, 2, 0, 1, 32, 0, 255, 0, "RING_FILL"⟩,
  ⟨0x3300, 7, 7, 4, 0, 2, 0, 8, 32, 0, 18446744073709551615, 0, "POOL_DEFICIT"⟩,
  ⟨0x3300, 8, 8, 1, 2, 2, 3, 1, 32, 5, 50, 20, "MAP_LOAD_SHARE"⟩,
  ⟨0x3300, 9, 9, 4, 0, 2, 0, 8, 32, 0, 18446744073709551615, 0, "JOURNAL_PASSES"⟩,
  ⟨0x3301, 0, 255, 7, 2, 0, 3, 1, 38, 0, 1, 0, "INDIRECTION"⟩,
  ⟨0x3310, 0, 0, 2, 2, 2, 3, 2, 32, 7, 64, 12, "FREE_HI"⟩,
  ⟨0x3310, 1, 1, 2, 2, 2, 3, 2, 32, 5, 62, 6, "FREE_LO"⟩,
  ⟨0x3310, 2, 2, 2, 4, 2, 0, 2, 32, 3, 3, 3, "FREE_CRIT"⟩,
  ⟨0x3310, 3, 3, 3, 2, 2, 3, 4, 32, 0, 2592000, 86400, "AGE_BIAS"⟩,
  ⟨0x3310, 4, 4, 3, 3, 0, 3, 4, 32, 1, 60000, 0, "FULL_WINDOW"⟩,
  ⟨0x3310, 5, 5, 3, 3, 0, 3, 4, 32, 0, 4294967295, 0, "FULL_TARGET"⟩,
  ⟨0x3310, 6, 6, 8, 0, 2, 0, 384, 32, 0, 0, 0, "VICTIM_LIST"⟩,
  ⟨0x3320, 0, 0, 3, 2, 2, 3, 4, 32, 50000, 200000, 200000, "RD_THRESH_TLC"⟩,
  ⟨0x3320, 1, 1, 3, 2, 2, 3, 4, 32, 10000, 50000, 50000, "RD_THRESH_QLC"⟩,
  ⟨0x3320, 2, 2, 2, 2, 2, 3, 2, 32, 30, 90, 90, "RETENTION_DAYS"⟩,
  ⟨0x3320, 3, 3, 1, 2, 2, 3, 1, 32, 4, 32, 10, "POUNCE_DRIFT"⟩,
  ⟨0x3320, 4, 4, 3, 0, 2, 0, 4, 32, 0, 4294967295, 0, "POUNCE_PENDING"⟩,
  ⟨0x3320, 5, 5, 6, 3, 0, 3, 1, 32, 0, 1, 0, "POUNCE_RUN"⟩,
  ⟨0x3320, 6, 6, 6, 0, 2, 0, 1, 32, 0, 1, 0, "POUNCE_EMERG"⟩,
  ⟨0x3330, 0, 0, 3, 0, 2, 0, 4, 32, 0, 4294967295, 0, "ERASE_SPREAD"⟩,
  ⟨0x3330, 1, 1, 3, 0, 2, 0, 4, 32, 0, 4294967295, 0, "ERASE_MEAN"⟩,
  ⟨0x3340, 0, 0, 1, 0, 2, 0, 1, 32, 0, 255, 0, "FDP_RUH_COUNT"⟩,
  ⟨0x3340, 1, 1, 2, 0, 2, 0, 2, 32, 0, 65535, 0, "ZONE_ACTIVE_MAX"⟩]

/-- The 0x3400 range (R252). -/
def dict3400 : List Desc64 := [
  ⟨0x3400, 0, 0, 7, 0, 2, 0, 1, 32, 0, 6, 0, "BANK_STATE"⟩,
  ⟨0x3400, 1, 1, 6, 0, 2, 0, 1, 32, 0, 1, 0, "HOLDUP_READY"⟩,
  ⟨0x3400, 2, 2, 3, 0, 2, 0, 4, 32, 0, 4294967295, 0, "C_MEAS"⟩,
  ⟨0x3400, 3, 3, 3, 0, 2, 0, 4, 32, 0, 4294967295, 0, "ESR_MEAS"⟩,
  ⟨0x3400, 4, 4, 3, 0, 2, 0, 4, 32, 0, 4294967295, 0, "E_FULL"⟩,
  ⟨0x3400, 5, 5, 3, 0, 2, 0, 4, 32, 0, 4294967295, 0, "BRIM"⟩,
  ⟨0x3400, 6, 6, 3, 0, 2, 0, 4, 32, 0, 4294967295, 0, "C_INIT"⟩,
  ⟨0x3400, 7, 7, 3, 2, 1, 3, 4, 32, 3600, 604800, 86400, "TEST_PERIOD"⟩,
  ⟨0x3400, 8, 8, 6, 3, 2, 3, 1, 32, 0, 1, 0, "TEST_NOW"⟩,
  ⟨0x3400, 9, 9, 2, 2, 1, 3, 2, 32, 50, 1000, 250, "CHG_CURRENT"⟩,
  ⟨0x3400, 10, 10, 6, 2, 1, 3, 1, 32, 0, 1, 0, "PFAIL_IN_EN"⟩,
  ⟨0x3400, 11, 11, 2, 2, 1, 3, 2, 32, 10200, 11400, 10800, "VHOST_THRESH"⟩,
  ⟨0x3400, 12, 12, 1, 2, 1, 3, 1, 32, 60, 95, 85, "BOARD_EFF"⟩,
  ⟨0x3400, 13, 13, 2, 2, 1, 3, 2, 32, 0, 65535, 0, "BOARD_LOAD"⟩,
  ⟨0x3400, 14, 14, 6, 3, 1, 3, 1, 32, 0, 1, 0, "C_INIT_RESET"⟩,
  ⟨0x3400, 15, 15, 7, 0, 2, 0, 1, 32, 0, 3, 0, "LAST_FLUSH"⟩,
  ⟨0x3400, 16, 16, 3, 0, 2, 0, 4, 32, 0, 4294967295, 0, "LAST_RECOVERY"⟩,
  ⟨0x3400, 17, 17, 4, 0, 2, 0, 8, 32, 0, 18446744073709551615, 0, "LOST_GRANULES"⟩]

/-- The 0x4000 range (R336). -/
def dict4000 : List Desc64 := [
  ⟨0x4000, 0, 0, 2, 0, 2, 0, 2, 32, 0, 65535, 0, "CH_FAILED"⟩,
  ⟨0x4000, 1, 1, 2, 2, 2, 3, 2, 32, 50, 1000, 250, "RETRAIN_PERIOD"⟩,
  ⟨0x4000, 2, 2, 1, 2, 2, 3, 1, 32, 2, 20, 6, "OSC_LIMIT"⟩,
  ⟨0x4000, 3, 3, 4, 0, 2, 0, 8, 32, 0, 18446744073709551615, 0, "CE_TOTAL"⟩,
  ⟨0x4000, 4, 4, 4, 0, 2, 0, 8, 32, 0, 18446744073709551615, 0, "UE_TOTAL"⟩,
  ⟨0x4000, 5, 5, 2, 3, 2, 3, 2, 32, 0, 65535, 0, "RETRAIN_CYCLE"⟩,
  ⟨0x4000, 6, 6, 2, 3, 2, 3, 2, 32, 0, 65535, 0, "RETRAIN_FULL"⟩,
  ⟨0x4000, 7, 7, 6, 0, 2, 0, 1, 32, 0, 1, 0, "DEGRADED"⟩,
  ⟨0x4001, 0, 15, 3, 0, 2, 0, 4, 32, 0, 4294967295, 0, "CH_EYE"⟩,
  ⟨0x4010, 0, 1, 1, 2, 2, 3, 1, 32, 0, 3, 3, "ARB_PRIO"⟩,
  ⟨0x4010, 2, 3, 1, 2, 2, 3, 1, 32, 0, 3, 1, "ARB_PRIO"⟩,
  ⟨0x4010, 4, 4, 1, 2, 2, 3, 1, 32, 0, 3, 2, "ARB_PRIO"⟩,
  ⟨0x4010, 5, 7, 1, 2, 2, 3, 1, 32, 0, 3, 1, "ARB_PRIO"⟩,
  ⟨0x4010, 8, 8, 1, 2, 2, 3, 1, 32, 0, 3, 2, "ARB_PRIO"⟩,
  ⟨0x4010, 9, 9, 1, 2, 2, 3, 1, 32, 0, 3, 0, "ARB_PRIO"⟩,
  ⟨0x4011, 0, 3, 2, 2, 2, 3, 2, 32, 1, 1023, 64, "ARB_STARVE"⟩,
  ⟨0x4011, 4, 4, 2, 2, 2, 3, 2, 32, 1, 1023, 32, "ARB_STARVE"⟩,
  ⟨0x4011, 5, 8, 2, 2, 2, 3, 2, 32, 1, 1023, 64, "ARB_STARVE"⟩,
  ⟨0x4011, 9, 9, 2, 2, 2, 3, 2, 32, 1, 1023, 256, "ARB_STARVE"⟩,
  ⟨0x4012, 0, 3, 2, 2, 2, 3, 2, 32, 1, 1023, 128, "ARB_MAX_HOLD"⟩,
  ⟨0x4012, 4, 4, 2, 2, 2, 3, 2, 32, 1, 1023, 8, "ARB_MAX_HOLD"⟩,
  ⟨0x4012, 5, 5, 2, 2, 2, 3, 2, 32, 1, 1023, 160, "ARB_MAX_HOLD"⟩,
  ⟨0x4012, 6, 7, 2, 2, 2, 3, 2, 32, 1, 1023, 128, "ARB_MAX_HOLD"⟩,
  ⟨0x4012, 8, 8, 2, 2, 2, 3, 2, 32, 1, 1023, 256, "ARB_MAX_HOLD"⟩,
  ⟨0x4012, 9, 9, 2, 2, 2, 3, 2, 32, 1, 1023, 128, "ARB_MAX_HOLD"⟩,
  ⟨0x4012, 11, 11, 2, 2, 2, 3, 2, 32, 1, 1023, 8, "ARB_MAX_HOLD"⟩,
  ⟨0x4013, 0, 9, 4, 0, 2, 0, 8, 32, 0, 18446744073709551615, 0, "ARB_CUTS"⟩,
  ⟨0x4013, 11, 11, 4, 0, 2, 0, 8, 32, 0, 18446744073709551615, 0, "ARB_CUTS"⟩]

/-- The 0x4100 range (R352). -/
def dict4100 : List Desc64 := [
  ⟨0x4100, 0, 0, 6, 2, 2, 3, 1, 32, 0, 1, 1, "LENT_EN"⟩,
  ⟨0x4100, 1, 1, 1, 2, 1, 3, 1, 32, 1, 64, 8, "LENT_SHARE_MAX"⟩,
  ⟨0x4100, 2, 2, 4, 0, 2, 0, 8, 32, 0, 18446744073709551615, 0, "LENT_ERRORS"⟩]

/-- The 0x5000 range (R390). -/
def dict5000 : List Desc64 := [
  ⟨0x5000, 0, 0, 7, 0, 2, 0, 1, 0, 0, 1, 0, "TAMPER_STATE"⟩,
  ⟨0x5000, 1, 1, 1, 0, 2, 0, 1, 0, 0, 255, 0, "TAMPER_CAUSES"⟩,
  ⟨0x5000, 2, 2, 7, 0, 2, 0, 1, 0, 0, 2, 0, "OWNER_STATE"⟩,
  ⟨0x5000, 3, 3, 8, 0, 2, 0, 48, 0, 0, 0, 0, "OWNER_KEY_HASH"⟩,
  ⟨0x5000, 4, 4, 2, 2, 3, 8, 2, 0, 10, 300, 60, "PRESENCE_WINDOW"⟩,
  ⟨0x5000, 5, 5, 6, 0, 2, 0, 1, 0, 0, 1, 0, "DEBUG_LOCKED"⟩,
  ⟨0x5000, 6, 6, 2, 0, 2, 0, 2, 0, 0, 65535, 0, "KPIO_KEYS"⟩,
  ⟨0x5000, 7, 7, 1, 0, 2, 0, 1, 0, 0, 255, 0, "OPAL_RANGES"⟩,
  ⟨0x5000, 8, 8, 6, 0, 2, 0, 1, 0, 0, 1, 0, "DRBG_HEALTH"⟩,
  ⟨0x5001, 0, 15, 3, 0, 2, 0, 4, 0, 0, 4294967295, 0, "VAULT_REFUSED"⟩]

/-- The 0x5100 range (R425). -/
def dict5100 : List Desc64 := [
  ⟨0x5100, 0, 0, 4, 0, 2, 0, 8, 0, 0, 18446744073709551615, 0, "LEDGER_COUNT"⟩,
  ⟨0x5100, 1, 1, 4, 0, 2, 0, 8, 0, 0, 18446744073709551615, 0, "LEDGER_OLDEST"⟩,
  ⟨0x5100, 2, 2, 4, 1, 2, 3, 8, 1, 0, 18446744073709551615, 0, "LEDGER_CURSOR"⟩,
  ⟨0x5101, 0, 15, 8, 0, 2, 0, 256, 0, 0, 0, 0, "LEDGER_REC"⟩,
  ⟨0x5102, 0, 0, 8, 1, 2, 3, 8, 1, 0, 0, 0, "AK_SELECT"⟩,
  ⟨0x5102, 1, 1, 8, 0, 2, 0, 2048, 0, 0, 0, 0, "AK_CERT"⟩,
  ⟨0x5110, 0, 0, 4, 0, 2, 0, 8, 0, 0, 18446744073709551615, 0, "EVENT_NEXT"⟩,
  ⟨0x5110, 1, 1, 4, 1, 2, 3, 8, 1, 0, 18446744073709551615, 0, "EVENT_CURSOR"⟩,
  ⟨0x5111, 0, 63, 8, 0, 2, 0, 64, 0, 0, 0, 0, "EVENT_REC"⟩,
  ⟨0x5112, 1, 1, 2, 4, 2, 0, 2, 0, 0, 0, 0, "EVENT_RATE"⟩,
  ⟨0x5112, 2, 4, 2, 2, 2, 3, 2, 0, 1, 3600, 16, "EVENT_RATE"⟩,
  ⟨0x5112, 5, 5, 2, 4, 2, 0, 2, 0, 0, 0, 0, "EVENT_RATE"⟩,
  ⟨0x5112, 6, 7, 2, 2, 2, 3, 2, 0, 1, 3600, 16, "EVENT_RATE"⟩,
  ⟨0x5120, 0, 255, 3, 0, 2, 0, 4, 0, 0, 4294967295, 0, "BST_SHADOW"⟩,
  ⟨0x5121, 0, 255, 3, 0, 2, 0, 4, 0, 0, 4294967295, 0, "BST_SHADOW"⟩,
  ⟨0x5122, 0, 255, 3, 0, 2, 0, 4, 0, 0, 4294967295, 0, "BST_SHADOW"⟩,
  ⟨0x5123, 0, 255, 3, 0, 2, 0, 4, 0, 0, 4294967295, 0, "BST_SHADOW"⟩,
  ⟨0x5124, 0, 0, 6, 2, 2, 3, 1, 0, 0, 1, 1, "BST_AUTO_SUSP"⟩]

/-- The 0x5200 range (R445). -/
def dict5200 : List Desc64 := [
  ⟨0x5200, 0, 0, 7, 0, 2, 0, 1, 0, 0, 6, 0, "UPDATE_STATE"⟩,
  ⟨0x5200, 1, 1, 3, 0, 2, 0, 4, 0, 0, 4294967295, 0, "IMAGE_SEQ"⟩,
  ⟨0x5200, 2, 2, 3, 0, 2, 0, 4, 0, 0, 4294967295, 0, "CONFIRMED_SEQ"⟩,
  ⟨0x5200, 3, 3, 2, 0, 2, 0, 2, 0, 0, 65535, 0, "SVN_MIN"⟩,
  ⟨0x5200, 4, 4, 2, 0, 2, 0, 2, 0, 0, 65535, 0, "TRIAL_REMAIN"⟩,
  ⟨0x5200, 5, 5, 3, 3, 2, 4, 4, 0, 0, 4294967295, 0, "HEALTH_TOKEN"⟩,
  ⟨0x5200, 6, 6, 6, 2, 3, 8, 1, 0, 0, 1, 0, "OWNER_COSIGN"⟩,
  ⟨0x5200, 7, 7, 6, 3, 2, 3, 1, 0, 0, 1, 0, "STAGING_DISCARD"⟩,
  ⟨0x5200, 8, 8, 2, 0, 2, 0, 2, 0, 0, 65535, 0, "LAST_REFUSAL"⟩,
  ⟨0x5200, 9, 9, 3, 0, 2, 0, 4, 0, 0, 4294967295, 0, "FALLBACKS"⟩]

/-- The 0x6000 range (R472, R534). -/
def dict6000 : List Desc64 := [
  ⟨0x6000, 0, 0, 7, 0, 2, 0, 1, 32, 0, 4, 0, "PS_CURRENT"⟩,
  ⟨0x6000, 1, 1, 2, 2, 1, 3, 2, 32, 0, 450, 0, "POWER_CAP"⟩,
  ⟨0x6000, 2, 2, 2, 0, 2, 0, 2, 32, 0, 65535, 0, "CAP_EFFECTIVE"⟩,
  ⟨0x6000, 3, 3, 2, 0, 2, 0, 2, 32, 0, 65535, 0, "PKG_POWER"⟩,
  ⟨0x6000, 4, 4, 2, 0, 2, 0, 2, 32, 0, 65535, 0, "VCORE_TARGET"⟩,
  ⟨0x6000, 5, 5, 3, 2, 0, 3, 4, 32, 10, 600000, 100, "APST_PS3_IDLE"⟩,
  ⟨0x6000, 6, 6, 3, 2, 0, 3, 4, 32, 1000, 3600000, 60000, "APST_PS4_IDLE"⟩,
  ⟨0x6000, 7, 7, 3, 0, 2, 0, 4, 32, 0, 4294967295, 0, "ENTRIES_ABANDONED"⟩,
  ⟨0x6000, 8, 8, 2, 0, 2, 0, 2, 32, 0, 65535, 0, "LAST_REFUSAL"⟩,
  ⟨0x6000, 9, 9, 6, 0, 2, 0, 1, 32, 0, 1, 0, "WAKE_FAULT"⟩,
  ⟨0x6000, 10, 10, 3, 0, 2, 0, 4, 32, 0, 4294967295, 0, "WAKE_TIME"⟩,
  ⟨0x6010, 0, 11, 2, 0, 2, 0, 2, 32, 0, 65535, 0, "TEMP"⟩,
  ⟨0x6011, 0, 0, 7, 0, 2, 0, 1, 32, 0, 4, 0, "THERMAL_LEVEL"⟩,
  ⟨0x6011, 1, 1, 6, 2, 1, 3, 1, 32, 0, 1, 1, "THERM_IN_EN"⟩,
  ⟨0x6011, 2, 2, 1, 2, 1, 3, 1, 32, 50, 95, 75, "NAND_T_LIMIT"⟩,
  ⟨0x6011, 3, 3, 6, 0, 2, 0, 1, 32, 0, 1, 0, "THERM_IN_FAULT"⟩,
  ⟨0x6020, 0, 0, 7, 2, 1, 3, 1, 32, 0, 3, 0, "LED_ACT_MODE"⟩,
  ⟨0x6020, 1, 1, 7, 2, 1, 3, 1, 32, 0, 3, 0, "LED_FAULT_MODE"⟩,
  ⟨0x6020, 2, 2, 6, 1, 1, 3, 1, 32, 0, 1, 0, "LOCATE"⟩,
  ⟨0x6020, 3, 3, 6, 2, 1, 3, 1, 32, 0, 1, 1, "LOCATE_EN"⟩,
  ⟨0x6020, 4, 4, 1, 0, 2, 0, 1, 32, 0, 255, 0, "LED_FAULTS"⟩,
  ⟨0x6020, 5, 5, 7, 0, 2, 0, 1, 32, 0, 2, 0, "BTN_STATE"⟩,
  ⟨0x6020, 6, 6, 7, 0, 2, 0, 1, 32, 0, 1, 0, "MB_MODE"⟩,
  ⟨0x6020, 7, 7, 1, 2, 1, 3, 1, 32, 8, 119, 29, "MB_ADDR"⟩,
  ⟨0x6020, 8, 8, 6, 0, 2, 0, 1, 32, 0, 1, 0, "DEBUG_PRESENT"⟩,
  ⟨0x6020, 9, 9, 1, 0, 2, 0, 1, 32, 0, 255, 0, "STRAPS"⟩]

/-- The 0x7000 range (R500). -/
def dict7000 : List Desc64 := [
  ⟨0x7000, 0, 0, 7, 2, 0, 3, 1, 32, 0, 1, 0, "RECOVERY_MODE"⟩,
  ⟨0x7000, 1, 1, 7, 2, 2, 3, 1, 32, 0, 1, 0, "FULLING_MODE"⟩,
  ⟨0x7000, 2, 2, 7, 2, 2, 3, 1, 32, 0, 1, 0, "POUNCE_MODE"⟩,
  ⟨0x7000, 3, 3, 7, 2, 0, 3, 1, 32, 0, 1, 0, "PS_MODE"⟩,
  ⟨0x7000, 4, 4, 7, 2, 1, 3, 1, 32, 0, 1, 0, "RETRAIN_MODE"⟩,
  ⟨0x7001, 0, 255, 7, 2, 0, 3, 1, 38, 0, 2, 0, "PLACEMENT"⟩,
  ⟨0x7002, 0, 255, 7, 2, 0, 3, 1, 34, 0, 2, 0, "COMPRESSION"⟩,
  ⟨0x7003, 0, 255, 7, 2, 0, 3, 1, 38, 0, 1, 0, "KEY_MODE"⟩]

/-- The 0x7F00 range (R504). -/
def dict7F00 : List Desc64 := [
  ⟨0x7F00, 0, 0, 2, 0, 2, 0, 2, 0, 0, 65535, 0, "DESC_COUNT"⟩,
  ⟨0x7F00, 1, 1, 2, 4, 2, 0, 2, 0, 256, 256, 256, "DICT_VERSION"⟩,
  ⟨0x7F00, 2, 2, 2, 1, 2, 3, 2, 1, 0, 65535, 0, "DESC_CURSOR"⟩,
  ⟨0x7F00, 3, 3, 6, 3, 2, 3, 1, 0, 0, 1, 0, "DEFAULTS"⟩,
  ⟨0x7F00, 4, 4, 3, 0, 2, 0, 4, 0, 0, 4294967295, 0, "OVERRIDES"⟩,
  ⟨0x7F00, 5, 5, 3, 0, 2, 0, 4, 0, 0, 4294967295, 0, "BMC_NTF_DROPPED"⟩,
  ⟨0x7F01, 0, 63, 8, 0, 2, 0, 64, 0, 0, 0, 0, "DESC_REC"⟩,
  ⟨0x7F02, 0, 31, 8, 0, 1, 0, 16, 0, 0, 0, 0, "BMC_NTF"⟩]

/-- Every descriptor, ordered by index and first sub-index (R481). -/
def dictTable : List Desc64 :=
  dict1000 ++ dict1100 ++ dict2000 ++ dict2100 ++ dict3000 ++ dict3100 ++ dict3200 ++ dict3300 ++
  dict3400 ++ dict4000 ++ dict4100 ++ dict5000 ++ dict5100 ++ dict5200 ++ dict6000 ++ dict7000 ++ dict7F00

/-- The descriptor that covers an entry (R481). -/
def descOf (index sub : Nat) : Option Desc64 :=
  dictTable.find? (fun d => d.index = index && d.subFirst ≤ sub && sub ≤ d.subLast)

end Sys2Proof.Machine
end

