-- ==== Sys2Proof/Machine/EventTable.lean ====
section
/-! DEFINITION. The severity of every event code (R421, R535). -/

namespace Sys2Proof.Machine

/-- Codes of severity 1: a change that costs rate, margin or redundancy. -/
def warnCodes : List Nat := [
  0x1003, 0x1007, 0x2001, 0x2121, 0x2210, 0x2220, 0x2222, 0x3004, 0x3030, 0x3101, 0x3124, 0x3201, 0x3420,
  0x3430, 0x3440, 0x3451, 0x3453, 0x3455, 0x4101, 0x4102, 0x4203, 0x4301, 0x4302, 0x4310, 0x5202, 0x5203,
  0x5205, 0x5301, 0x6003, 0x7010, 0x7020, 0x7101, 0x7103, 0x7300, 0x7310, 0x7321, 0x7330, 0x7340]

/-- Codes of severity 2: a failure that the device survives. -/
def errorCodes : List Nat := [
  0x1004, 0x1008, 0x1010, 0x1011, 0x1020, 0x2122, 0x2223, 0x2303, 0x3002, 0x3010, 0x3012, 0x3020, 0x3120,
  0x3130, 0x3131, 0x3410, 0x3421, 0x3422, 0x3423, 0x3452, 0x3454, 0x4201, 0x4410, 0x5130, 0x5430, 0x6004,
  0x6012, 0x6022, 0x6031, 0x6410, 0x7311]

/-- Codes of severity 3: lost data, fatal status, lost security, or the loss of the ability to write. -/
def criticalCodes : List Nat := [
  0x1005, 0x1006, 0x2003, 0x2005, 0x2101, 0x2102, 0x2103, 0x2104, 0x2105, 0x2106, 0x2302, 0x3001, 0x3011,
  0x3023, 0x3300, 0x3411, 0x3424, 0x3431, 0x3441, 0x3450, 0x3456, 0x3460, 0x4411, 0x5101, 0x5102, 0x5103,
  0x5104, 0x5105, 0x5110, 0x5220, 0x5410, 0x5431, 0x6411, 0x7102]

/-- The severity of an event code; every other code of the tables has severity 0. -/
def severityOf (code : Nat) : Nat :=
  if warnCodes.contains code then 1 else if errorCodes.contains code then 2 else if criticalCodes.contains code then 3 else 0

end Sys2Proof.Machine
end

