-- ==== Sys2Proof/Machine/Bytes.lean ====
section
/-! DEFINITION. Byte memories: the pairs (address, byte) that differ from what an unlisted address reads as, addresses strictly
rising: the persistent memory regions (unlisted 0x00), the boot store (0xFF), the Opal data store and the bytes that the
system DMA wrote to internal memory (0x00); and CRC-32 (R78). -/

namespace Sys2Proof.Machine

open Sys2Proof

/-- One byte; an unlisted address reads `d`. -/
def memGet (d : Byte) (m : List Host.Cell) (a : Nat) : Byte := (AMap.get? m a).getD d

/-- One byte is written: the value that an unlisted address reads as takes the entry away. -/
def memPut (d : Byte) (m : List Host.Cell) (a : Nat) (b : Byte) : List Host.Cell :=
  if b = d then AMap.del m a else AMap.put m a b

/-- The canonical form: addresses strictly rising, no entry equal to `d`. -/
def memWf (d : Byte) (m : List Host.Cell) : Bool := AMap.wf m && m.all (fun e => decide (e.2 ≠ d))

/-- Bytes from address `a` on. -/
def memRead (d : Byte) (m : List Host.Cell) (a : Nat) : Nat → List Byte
  | 0 => []
  | n + 1 => memGet d m a :: memRead d m (a + 1) n

/-- Bytes are written from address `a` on. -/
def memWrite (d : Byte) (m : List Host.Cell) (a : Nat) : List Byte → List Host.Cell
  | [] => m
  | b :: bs => memWrite d (memPut d m a b) (a + 1) bs

/-- Every byte of [a, a + n) reads `d`: no entry lies there. -/
def memClear (m : List Host.Cell) (a n : Nat) : List Host.Cell := m.filter (fun e => !(decide (a ≤ e.1) && decide (e.1 < a + n)))

/-! ### CRC-32 (R78) -/

def crcBit (c : Nat) : Nat := if c % 2 = 1 then (c / 2) ^^^ 0xEDB88320 else c / 2

def crcByte (c b : Nat) : Nat :=
  crcBit (crcBit (crcBit (crcBit (crcBit (crcBit (crcBit (crcBit (c ^^^ b))))))))

/-- CRC-32: polynomial 0x04C11DB7 reflected, initial value and final XOR 0xFFFFFFFF (R78). -/
def crc32 (bs : List Byte) : Nat := (bs.foldl (fun c b => crcByte c b.toNat) 0xFFFFFFFF) ^^^ 0xFFFFFFFF

end Sys2Proof.Machine
end

