-- ==== Sys2Proof/Machine/Store.lean ====
section
/-! DEFINITION. What the boot store holds: sectors and their headers (R392, R404), images as runs of content (R427) and their
verification (R428), and the boot control record (R433). -/

namespace Sys2Proof.Machine

open Sys2Proof

/-! ### Sectors (R391, R397, R404) -/

def sectorSize : Nat := 65536

def Bst.byte (b : Bst) (o : Nat) : Byte := memGet 0xFF b.mem o
def Bst.bytes (b : Bst) (o n : Nat) : List Byte := memRead 0xFF b.mem o n
def Bst.u32 (b : Bst) (o : Nat) : Nat := ofLeBytes (b.bytes o 4)

def Bst.shadowOf (b : Bst) (s : Nat) : Shadow := (b.shadow.get? s).getD {}
def Bst.setShadow (b : Bst) (s : Nat) (f : Shadow → Shadow) : Bst := { b with shadow := b.shadow.put s (f (b.shadowOf s)) }

/-- The shadow entry as R397 lays it out. -/
def Shadow.entry (x : Shadow) : Nat := x.erases + bit x.pip * 2 ^ 30 + bit x.eip * 2 ^ 31

/-- An erase begins: ERASES rises, saturating at 0x7FF_FFFF. -/
def Shadow.erasing (x : Shadow) : Shadow := { x with erases := min (x.erases + 1) 0x7FFFFFF, eip := true }

/-- The sector is complete (R404). -/
def Bst.complete (b : Bst) (s : Nat) : Bool :=
  let x := b.shadowOf s
  let base := s * sectorSize
  !x.eip && !x.pip && decide (b.u32 base = 0x48535A46) && decide (b.byte (base + 4) = 0x0F) &&
    decide (b.u32 (base + 12) = crc32 (b.bytes (base + 0x40) 65472))

/-- An erased sector that nothing has begun to write: its header reads 0xFF. -/
def Bst.blank (b : Bst) (s : Nat) : Bool :=
  let x := b.shadowOf s
  !x.eip && !x.pip && (b.bytes (s * sectorSize) 64).all (· == 0xFF)

/-- The sector is incomplete (R404); an erased one is not. -/
def Bst.incomplete (b : Bst) (s : Nat) : Bool := !b.complete s && !b.blank s

/-- A sector is erased as a whole. -/
def Bst.wipe (b : Bst) (s : Nat) : Bst :=
  { b with
    mem := memClear b.mem (s * sectorSize) sectorSize
    progs := b.progs.filter (fun e => e.1 / 256 ≠ s) }

/-- A sector is erased: its entry counts the erase, and PIP and EIP clear when it has completed. -/
def Bst.erased (b : Bst) (s : Nat) : Bst := (b.wipe s).setShadow s (fun x => { x.erasing with eip := false, pip := false })

/-- A header of R404. -/
def sectorHeader (state area seq crc : Nat) : List Byte :=
  leBytes 4 0x48535A46 ++ leBytes 1 state ++ leBytes 1 area ++ leBytes 2 0xFFFF ++ leBytes 4 seq ++ leBytes 4 crc ++ List.replicate 48 0xFF

/-- A sector is written whole in the order of R404: erase, header, content, CRC and STATE. -/
def Bst.writeSector (b : Bst) (s area seq : Nat) (content : List Byte) : Bst :=
  let c := padTo 65472 0xFF content
  let b := b.erased s
  { b with
    mem := memWrite 0xFF b.mem (s * sectorSize) (sectorHeader 0x0F area seq (crc32 c) ++ c)
    progs := b.progs.put (s * 256) 3 }

/-! ### Images (R427, R428) -/

/-- A little-endian field. -/
def field (b : List Byte) (o n : Nat) : Nat := ofLeBytes ((b.drop o).take n)

def imgSeq (b : List Byte) : Nat := field b 0x008 4
def imgSvn (b : List Byte) : Nat := field b 0x00C 2
def imgSteppings (b : List Byte) : Nat := field b 0x00E 2
def imgRev (b : List Byte) : List Byte := (b.drop 0x010).take 8
def imgHoOut (b : List Byte) : Nat := field b 0x018 2
def imgHoMin (b : List Byte) : Nat := field b 0x01A 2
def imgHoMax (b : List Byte) : Nat := field b 0x01C 2
def imgSections (b : List Byte) : Nat := field b 0x01E 2
def imgBodyLen (b : List Byte) : Nat := field b 0x020 4
def imgBody (b : List Byte) : List Byte := (b.drop 512).take (imgBodyLen b)
def imgSigned (b : List Byte) : List Byte := b.take 0x120

/-- Section `i`: role, offset, length. -/
def imgSection (b : List Byte) (i : Nat) : Nat × Nat × Nat :=
  (field b (0x058 + 16 * i) 1, field b (0x05C + 16 * i) 4, field b (0x060 + 16 * i) 4)

def imgSectionList (b : List Byte) : List (Nat × Nat × Nat) := (List.range (min 12 (imgSections b))).map (imgSection b)

/-- The bytes of the sections of a role. -/
def imgRole (b : List Byte) (role : Nat) : List Byte :=
  ((imgSectionList b).filter (fun x => x.1 = role)).flatMap (fun x => ((imgBody b).drop x.2.1).take x.2.2)

/-- Bytes of the store that lie behind byte `o` of a run whose first sector is `first`. -/
def runAddr (first o : Nat) : Nat := (first + o / 65472) * sectorSize + 64 + o % 65472

/-- The run of `n` bytes. -/
def Bst.run (b : Bst) (first n : Nat) : List Byte := (List.range n).map (fun o => b.byte (runAddr first o))

/-- Sectors that an image of a body length fills. -/
def imgSectors (bodyLen : Nat) : Nat := ceilDiv (512 + bodyLen) 65472

/-- The image that starts in sector `first`, as its header gives its length, whether its sectors are complete. -/
def Bst.image (b : Bst) (first : Nat) : List Byte :=
  let len := imgBodyLen (b.run first 512)
  if 16760320 < len then b.run first 512 else b.run first (512 + len)

def Bst.imageComplete (b : Bst) (first : Nat) : Bool :=
  let len := imgBodyLen (b.run first 512)
  decide (len ≤ 16760320) && (List.range (imgSectors len)).all (fun i => b.complete (first + i))

/-- The stepping B1 is bit 5 of STEPPINGS. -/
def stepBit : Nat := 5

/-- The first check of R428 that fails: 1 to 7. `cosign`: the owner key, where check 5 applies; `svnMin`: where check 6
applies. -/
def verifyImage (b : List Byte) (cosign : Option (List Byte)) (svnMin : Option Nat) : Option Nat :=
  let dig := Config.sha384 (imgSigned b)
  if field b 0 4 ≠ 0x49575A46 ∨ field b 4 2 ≠ 1 ∨ field b 6 2 ≠ 0x200 ∨ 16760320 < imgBodyLen b ∨ b.length ≠ 512 + imgBodyLen b then some 1
  else if imgSections b < 5 ∨ 12 < imgSections b ∨
      !((List.range 5).all (fun i => ((imgSectionList b).filter (fun x => decide (x.1 = i + 1))).length == 1)) ∨
      !((imgSectionList b).all (fun x => decide (x.2.1 + x.2.2 ≤ imgBodyLen b))) then some 2
  else if Config.sha384 (imgBody b) ≠ (b.drop 0x028).take 48 then some 3
  else if !Config.ecdsaOk (Config.imanraKey 0) dig ((b.drop 0x120).take 96) then some 4
  else if (match cosign with
    | some k => !Config.ecdsaOk k dig ((b.drop 0x180).take 96)
    | none => false) then some 5
  else if (match svnMin with
    | some n => decide (imgSvn b < n)
    | none => false) then some 6
  else if !(imgSteppings b).testBit stepBit then some 7
  else none

/-- The image area is written with an image; the sectors after it are left erased (R434). -/
def Bst.writeImage (b : Bst) (first area : Nat) (img : List Byte) : Bst :=
  let n := ceilDiv img.length 65472
  let b := (List.range n).foldl (fun (b : Bst) i =>
    b.writeSector (first + i) area (imgSeq img) ((img.drop (65472 * i)).take 65472)) b
  (List.range (256 - n)).foldl (fun (b : Bst) i => if b.blank (first + n + i) then b else b.erased (first + n + i)) b

def imageFirst : Nat := 132
def stagingFirst : Nat := 388

/-! ### The boot control record (R433) -/

def upCode : UpState → Nat
  | .confirmed => 0
  | .writing => 1
  | .written => 2
  | .activateAtReset => 3
  | .activating => 4
  | .trial => 5
  | .rejected => 6

def upOf : Nat → UpState
  | 1 => .writing
  | 2 => .written
  | 3 => .activateAtReset
  | 4 => .activating
  | 5 => .trial
  | 6 => .rejected
  | _ => .confirmed

/-- The content of a record. -/
def Boot.recBytes (b : Boot) : List Byte :=
  leBytes 4 b.gen.toNat ++ leBytes 1 (upCode b.state) ++ leBytes 1 b.tries ++ leBytes 2 b.svnMin ++ leBytes 4 b.imageSeq.toNat ++
    leBytes 4 b.confirmedSeq.toNat ++ leBytes 4 b.prevSeq.toNat

/-- The sector that holds the newest complete record. -/
def Bst.newestRecord (b : Bst) : Option Nat :=
  (([1021, 1022, 1023] : List Nat).filter b.complete).foldl (fun (m : Option Nat) s =>
    match m with
    | none => some s
    | some x => if b.u32 (x * sectorSize + 0x40) < b.u32 (s * sectorSize + 0x40) then some s else some x) none

def nextRecSector (s : Nat) : Nat := if s = 1023 then 1021 else s + 1

/-- A new record: GEN + 1, in the sector after the newest; the oldest sector is then erased. -/
def State.record (s : State) (f : Boot → Boot) : State :=
  let boot := { f s.boot with gen := s.boot.gen + 1 }
  let at_ := nextRecSector (s.bst.newestRecord.getD 1023)
  let bst := s.bst.writeSector at_ 4 boot.imageSeq.toNat boot.recBytes
  { s with boot := boot, bst := bst.erased (nextRecSector at_) }

/-- The record in force as the store holds it; without a complete one CONFIRMED, with IMAGE_SEQ of the image area. -/
def State.loadRecord (s : State) : State :=
  match s.bst.newestRecord with
  | some x =>
    let c := s.bst.bytes (x * sectorSize + 0x40) 20
    { s with boot := { s.boot with
      gen := BitVec.ofNat 32 (field c 0 4), state := upOf (field c 4 1), tries := field c 5 1, svnMin := max s.boot.svnMin (field c 6 2)
      imageSeq := BitVec.ofNat 32 (field c 8 4), confirmedSeq := BitVec.ofNat 32 (field c 12 4)
      prevSeq := BitVec.ofNat 32 (field c 16 4) } }
  | none => { s with boot := { s.boot with
      state := .confirmed, tries := 0, imageSeq := BitVec.ofNat 32 (imgSeq (s.bst.run imageFirst 512)) } }

end Sys2Proof.Machine
end

