-- ==== Sys2Proof/Machine/Ops.lean ====
section
/-! DEFINITION. The shared operations: outputs, the event recorder (R417 to R420), dictionary values in force, fatal
status, range locks (R267 to R270), completion of a command (R60, R269), landing lines (R55 to R58). -/

namespace Sys2Proof.Machine

open Sys2Proof

/-! ### Phases, ports, outputs -/

/-- The firmware runs: events of the powered part have their effect. -/
def State.live (s : State) : Bool :=
  match s.phase with
  | .firmware | .recovering | .running | .flushing | .trialFlush => true
  | _ => false

/-- `f s` while the firmware runs; otherwise the event cannot occur and changes nothing (DEDUCED, notes/assumptions/1.md). -/
def State.whenLive (s : State) (f : State → State) : State := if s.live then f s else s

/-- The controller die is powered and its units run, firmware or not: the timebase counts and the pace sensors report from its
release on (R34, R39). -/
def State.powered (s : State) : Bool :=
  match s.phase with
  | .off | .auxReset | .supplies | .wakeFault | .thermalOff | .deepRest | .flushed => false
  | _ => true

/-- `f s` while the die is powered; otherwise nothing can occur on it (DEDUCED, notes/assumptions/1.md). -/
def State.whenPowered (s : State) (f : State → State) : State := if s.powered then f s else s

/-- Dual-port mode (R284). -/
def State.dual (s : State) : Bool := s.board.peDual

/-- The ports in use. -/
def State.portList (s : State) : List (Fin 2) := if s.dual then [0, 1] else [0]

/-- SOURCE of a port (R418): 0x10 in x16 mode. -/
def State.portSrc (s : State) (p : Fin 2) : Nat := if s.dual then 0x10 + p.val else 0x10

/-- Sends outputs. -/
def State.emits (s : State) (os : List Output) : State := { s with out := s.out ++ os }

/-- Sends one output. -/
def State.emit (s : State) (o : Output) : State := s.emits [o]

/-- A value of the dictionary in force (R475): the value written, or the default. -/
def Dict.param (d : Dict) (index sub : Nat) : Nat :=
  match d.vals.get? (index * 256 + sub) with
  | some v => ofLeBytes v.bytes
  | none => match descOf index sub with
    | some e => e.default
    | none => 0

def State.param (s : State) (index sub : Nat) : Nat := s.dict.param index sub

/-- The 32 bytes of a value-log record (R477): index, sub-index, writer, operating seconds, power-cycle count, value, CRC-32;
the order and the unused bytes are the model's (DESIGN CHOICE, notes/assumptions/68.md). -/
def valueRecord (k : Nat) (v : DictVal) : List Byte :=
  let b := leBytes 2 (k / 256) ++ leBytes 1 (k % 256) ++ [v.writer] ++ leBytes 8 v.opsec ++ leBytes 4 v.pcc ++ padTo 12 0 v.bytes
  b ++ leBytes 4 (crc32 b)

/-- Records of one copy of the value log: 4 MiB. -/
def vlogMax : Nat := 131072

/-- The oldest record's place is taken; while it holds its entry's newest value it is copied forward first. -/
def vlogReclaim : Nat → List (Nat × DictVal) → List (Nat × DictVal)
  | 0, l => l
  | _ + 1, [] => []
  | n + 1, e :: l => if l.any (fun x => x.1 = e.1) then l else vlogReclaim n (l ++ [e])

/-- A record is appended to both copies. -/
def Dict.logValue (d : Dict) (k : Nat) (v : DictVal) : Dict :=
  let l := d.vlog ++ [(k, v)]
  { d with vlog := if l.length ≤ vlogMax then l else vlogReclaim l.length l }

/-- At start-up each entry takes its newest record. -/
def Dict.fromLog (d : Dict) : AMap DictVal := d.vlog.foldl (fun (m : AMap DictVal) e => m.put e.1 e.2) []

/-! ### Host timestamp and events -/

/-- The host timestamp while it runs (R424), in ms. -/
def Clocks.hostTs (c : Clocks) (tb : BitVec 64) : Option Nat :=
  match c.ts with
  | .running => some (c.tsSet + (tb - c.tsAt).toNat / 100000)
  | _ => none

/-- An event as it occurs: code, SOURCE, DATA. -/
structure Ev where
  code : Nat
  src : Nat
  data : List Byte := []
deriving DecidableEq, Repr

/-- The last record, kept or waiting. -/
def Evr.last (e : Evr) : Option EventRec :=
  match e.early with
  | r :: _ => some r
  | [] => e.recs.head?

/-- The record is kept: the for-ever area, or the last 8192 of the circulating area (R417). -/
def Evr.keeps (next : Nat) (r : EventRec) : Bool := decide (r.seq < 1024) || decide (next ≤ r.seq + 8192)

/-- Where record `seq` lies in copy 0 or 1 of the event region of journal memory (R417). -/
def eventAddr (copy seq : Nat) : Nat :=
  0x2C000000 + 0x800000 * copy + (if seq < 1024 then 64 * seq else 0x10000 + 64 * ((seq - 1024) % 8192))

/-- A new record is written, or waits in SRAM while journal memory is not reachable (R420). -/
def Evr.write (e : Evr) (r : EventRec) : Evr :=
  if e.journalUp then
    { e with
      recs := ({ r with seq := e.next } :: e.recs).filter (Evr.keeps (e.next + 1))
      next := e.next + 1
      repP := 0
      lastOpsecP := 0
      suppCode := e.suppCode.del r.code }
  else if e.early.length < 64 then
    { e with early := { r with seq := e.next } :: e.early, next := e.next + 1, suppCode := e.suppCode.del r.code }
  else { e with earlyLost := true }

/-- REPEAT and LAST_OPSEC of the last record rise (R419 step 1). -/
def Evr.absorb (e : Evr) (opsec : BitVec 40) : Evr :=
  let f (r : EventRec) : EventRec := { r with repeats := satInc r.repeats, lastOpsec := opsec.setWidth 32 }
  match e.early with
  | r :: rs => { e with early := f r :: rs }
  | [] => match e.recs with
    | r :: rs => { e with recs := f r :: rs }
    | [] => e

/-- R419: an event is absorbed, written, or suppressed. -/
def Evr.takeIn (e : Evr) (c : Clocks) (tb : BitVec 64) (ev : Ev) : Evr :=
  let r : EventRec :=
    { code := ev.code, source := BitVec.ofNat 8 ev.src, severity := severityOf ev.code, data := padTo 16 0 ev.data,
      seq := 0, opsec := c.opsec.toNat, pcc := c.pcc, hostTs := c.hostTs tb,
      suppressed := satOf 16 ((e.suppCode.get? ev.code).getD 0) }
  let same : Bool := match e.last with
    | some l => decide (l.code = r.code) && decide (l.source = r.source) && decide (l.data = r.data)
    | none => false
  let cls := ev.code / 4096
  let tokens := (e.tokens.get? ev.code).getD 16
  if same then e.absorb c.opsec
  else if cls = 1 ∨ cls = 5 then e.write r
  else if tokens = 0 then
    { e with
      suppCode := e.suppCode.put ev.code ((e.suppCode.get? ev.code).getD 0 + 1)
      suppTotal := e.suppTotal + 1
      suppCnt := satInc e.suppCnt }
  else { e.write r with tokens := e.tokens.put ev.code (tokens - 1) }

/-- Events occur, in the order listed. -/
def State.logs (s : State) (evs : List Ev) : State :=
  { s with evr := evs.foldl (fun e ev => e.takeIn s.clocks s.tb.count ev) s.evr }

/-- One event occurs. -/
def State.log (s : State) (code src : Nat) (data : List Byte := []) : State := s.logs [⟨code, src, data⟩]

/-- A gated unit wakes on its first access (R447): units 0 and 1 of a slice are its soft decoders, 2 its compression unit, 3
to 6 its hard decoders 4 to 7; unit 7 under number 8 is E26 and E27. -/
def State.ungate (s : State) (sl unit : Nat) : State :=
  { s with pws := { s.pws with gated := s.pws.gated.filter (fun e => !(decide (e.1 = sl) && decide (e.2 = unit))) } }

/-! ### Fatal status and containment -/

def State.ctrl (s : State) (p : Fin 2) : Ctrl := s.cmq.ctrls[p]

def State.setCtrl (s : State) (p : Fin 2) (f : Ctrl → Ctrl) : State :=
  { s with cmq := { s.cmq with ctrls := s.cmq.ctrls.upd p f } }

def State.setPort (s : State) (p : Fin 2) (f : PcPort → PcPort) : State := { s with ports := s.ports.upd p f }

/-! ### Range locks -/

/-- Two entries conflict: different commands, overlapping units, not both shared (R268). -/
def Lock.conflicts (a b : Lock) : Bool :=
  decide (a.fseq ≠ b.fseq) && (a.excl || b.excl) &&
  (match a.ns, b.ns with
   | some x, some y => decide (x = y) && decide (a.first ≤ b.last) && decide (b.first ≤ a.last)
   | _, _ => true)

/-- Each entry is granted when no conflicting entry stands before it: entries stand in fetch order (R268). -/
def regrantFrom (before : List Lock) : List Lock → List Lock
  | [] => []
  | l :: ls =>
    let l' := { l with granted := !(before.any (fun b => b.conflicts l)) }
    l' :: regrantFrom (before ++ [l]) ls

def regrant (ls : List Lock) : List Lock := regrantFrom [] ls

/-- All of a command's entries are granted. -/
def Cmq.allGranted (q : Cmq) (fseq : Nat) : Bool := q.locks.all (fun l => decide (l.fseq ≠ fseq) || l.granted)

/-- Fewer than 256 range-lock entries are free (R270). -/
def Cmq.short (q : Cmq) : Bool := decide (8192 - q.locks.length < 256)

/-- Fetching stops while too few entries are free, each stop is counted, and it resumes with 256 free (R270). -/
def Cmq.stall (q : Cmq) : Cmq :=
  if !q.short then { q with stalled := false }
  else if q.stalled then q
  else { q with stalled := true, stallCnt := satInc q.stallCnt, stallTotal := q.stallTotal + 1 }

/-- Grants what can be granted, and lets the commands go on whose entries are all granted (R268). -/
def Cmq.settle (q : Cmq) : Cmq :=
  let q := { q with locks := regrant q.locks }
  Cmq.stall { q with
    cmds := q.cmds.map (fun e =>
      if e.2.phase = .waitLocks && q.allGranted e.1 then (e.1, { e.2 with phase := .ready }) else e) }

/-- A command takes its entries when it reaches the table (R254, R267). -/
def Cmq.take (q : Cmq) (ls : List Lock) : Cmq :=
  let q := { q with locks := q.locks ++ ls }
  let q := { q with hwm := if q.hwm.toNat < q.locks.length then satOf 14 q.locks.length else q.hwm }
  q.settle

/-- A command's entries are released (R269). -/
def Cmq.release (q : Cmq) (fseq : Nat) : Cmq :=
  Cmq.settle { q with locks := q.locks.filter (fun l => l.fseq ≠ fseq) }

/-! ### Landing lines -/

/-- Lines of the region (R55). -/
def lineCount : Nat := 524288

/-- The PMR line `i` of port `p` and the line first bound to CMB slot `k` (DESIGN CHOICE, notes/assumptions/9.md). -/
def pmrLine (p i : Nat) : Nat := 131072 + p * 65536 + i
def slotLine (p k : Nat) : Nat := 262144 + p * 131072 + k

/-- Slots of a port's data area (R260). -/
def CmbPort.slots (c : CmbPort) : Nat := c.dataMib * 256

/-- The line bound to slot `k` (R262). -/
def Landing.slotBound (l : Landing) (p : Fin 2) (k : Nat) : Option Nat :=
  let c := l.cmb[p]
  if c.slots ≤ k ∨ c.unbound.contains k ∨ c.adopted.has k then none
  else match c.moved.get? k with
    | some n => some n
    | none => some (slotLine p.val k)

/-- Line `n` is bound to a CMB slot of port `p`. -/
def Landing.boundTo (l : Landing) (p : Fin 2) (n : Nat) : Bool :=
  let c := l.cmb[p]
  let k := n - slotLine p.val 0
  (decide (slotLine p.val 0 ≤ n) && decide (l.slotBound p k = some n)) ||
    c.moved.any (fun e => decide (e.2 = n) && decide (l.slotBound p e.1 = some n))

/-- Line `n` backs a persistent memory region (R265). -/
def Landing.pmrHolds (l : Landing) (p : Fin 2) (n : Nat) : Bool :=
  let r := l.pmr[p]
  decide (pmrLine p.val 0 ≤ n) && decide (n < pmrLine p.val (r.mib * 256))

/-- Line `n` is free (R57, R59). -/
def Landing.free (l : Landing) (n : Nat) : Bool :=
  decide (n < lineCount) && !l.lines.has n && !l.boundTo 0 n && !l.boundTo 1 n && !l.pmrHolds 0 n && !l.pmrHolds 1 n

/-- The first `want` free lines from `n` on, at most `fuel` lines looked at. -/
def Landing.freeFrom (l : Landing) : (fuel want n : Nat) → List Nat
  | 0, _, _ => []
  | _, 0, _ => []
  | fuel + 1, want + 1, n =>
    if l.free n then n :: l.freeFrom fuel want (n + 1) else l.freeFrom fuel (want + 1) (n + 1)

/-- `want` free lines, lowest number first; none where fewer are free (R57). -/
def Landing.alloc (l : Landing) (want : Nat) : Option (List Nat) :=
  let ls := l.freeFrom lineCount want 0
  if ls.length = want then some ls else none

/-- Lines that the persistent memory regions hold against the limit (R57, R266). -/
def Landing.pmrLines (l : Landing) : Nat :=
  (if l.pmr[0].nrdy then 0 else l.pmr[0].mib * 256) + (if l.pmr[1].nrdy then 0 else l.pmr[1].mib * 256)

/-- A line counts against the limit: committed or packed, or adopted from a CMB slot (R57, R59); a write-through line never does
(R58). -/
def Line.counts (l : Line) : Bool := !l.wt && (l.st == .committed || l.st == .packed || (l.st == .filling && l.adopted))

/-- The counted lines of R57. -/
def Landing.counted (l : Landing) : Nat := (l.lines.filter (fun e => e.2.counts)).length + l.pmrLines

/-- The state of any line (R56). -/
def Landing.stateOf (l : Landing) (n : Nat) : LineSt := match l.lines.get? n with
  | some x => x.st
  | none => if l.released.contains n then .released else .free

/-- The newest line of a granule that is committed or packed (R64). -/
def Landing.hit (l : Landing) (ns g : Nat) : Option (Nat × Line) :=
  (l.lines.filter (fun e => e.2.ns = ns && e.2.granule = g && (e.2.st == .committed || e.2.st == .packed))).foldl
    (fun (b : Option (Nat × Line)) e =>
      match b with
      | none => some e
      | some x => if x.2.cmdSeq ≤ e.2.cmdSeq then some e else some x) none

/-- An unbound slot takes a free line ahead of any new allocation (R262). -/
def Landing.rebindOne (l : Landing) (p : Fin 2) : Landing :=
  match l.cmb[p].unbound with
  | [] => l
  | k :: ks => match l.alloc 1 with
    | some [n] => { l with
        released := l.released.filter (· ≠ n)
        cmb := l.cmb.upd p (fun c => ({ c with unbound := ks, moved := c.moved.put k n } : CmbPort)) }
    | _ => l

/-- Unbound slots take the free lines, at most `fuel` of them (R262). -/
def Landing.rebind (l : Landing) (p : Fin 2) : Nat → Landing
  | 0 => l
  | fuel + 1 => if l.cmb[p].unbound = [] then l else (l.rebindOne p).rebind p fuel

/-- Lines are freed; unbound slots of both ports then take free lines. -/
def Landing.release (l : Landing) (ns : List Nat) : Landing :=
  let l := { l with lines := ns.foldl (fun m n => m.del n) l.lines }
  (l.rebind 0 ns.length).rebind 1 ns.length

/-! ### Completion of a command -/

/-- NVMe error statuses that the Error Information log records (R253); `success` and vendor code 0xC4 are not errors. -/
def Status.isError (st : Status) : Bool := !(st == .success)

/-- A port may issue memory requests as far as IDE goes: IDE is not required, or its stream is Secure (R298). -/
def State.mayWrite (s : State) (p : Fin 2) : Bool :=
  !decide (s.param 0x2000 4 = 1) || s.ports[p].ide == .secure

/-- The completion queue of a submission queue. -/
def Ctrl.cqOf (c : Ctrl) (sqid : Nat) : Nat :=
  if sqid = 0 then 0 else match c.sqs.get? sqid with
    | some q => q.cqid
    | none => 0

/-- A completion entry is posted to its queue, or waits while the queue is full, the function is contained or IDE keeps
the port from host memory (R60, R298, R302). -/
def State.post (s : State) (p : Fin 2) (fseq sqid cid : Nat) (st : Status) (dw0 : Nat) : State :=
  let c := s.ctrl p
  if s.ports[p].cnt.active then
    let held (f : Fate) : Fate := if f.fseq = fseq then { f with st := some st } else f
    s.setPort p (fun q => { q with cnt := { q.cnt with fates := q.cnt.fates.map held } })
  else if !c.en then s
  else
    let cqid := c.cqOf sqid
    match c.cqs.get? cqid with
    | none => s
    | some q =>
      if q.used + 1 < q.size ∧ s.mayWrite p then
        (s.setCtrl p (fun c => { c with cqs := c.cqs.put cqid { q with used := q.used + 1 } })).emits
          [.cqe p cqid sqid cid st dw0, .msix p q.vector]
      else s.setCtrl p (fun c => { c with cqs := c.cqs.put cqid { q with held := q.held ++ [(sqid, cid, st, dw0)] } })

/-- Units charged to a namespace return to the pool (R100). -/
def Media.refund (m : Media) (ns units : Nat) : Media :=
  { m with namespaces := m.namespaces.mod ns (fun n => { n with charged := n.charged - units }) }

/-- Units are charged to a namespace for a valid record and the padding that follows it (R99). -/
def Media.charge (m : Media) (ns units : Nat) : Media :=
  { m with namespaces := m.namespaces.mod ns (fun n => { n with charged := n.charged + units }) }

/-- Units are reserved for granules that are landed (R100). -/
def Media.reserve (m : Media) (ns units : Nat) : Media :=
  { m with namespaces := m.namespaces.mod ns (fun n => { n with reserved := n.reserved + units }) }

/-- Reserved units are returned (R100). -/
def Media.unreserve (m : Media) (ns units : Nat) : Media :=
  { m with namespaces := m.namespaces.mod ns (fun n => { n with reserved := n.reserved - units }) }

/-- Lines are freed, and what is still reserved for each is returned (R100). -/
def State.dropLines (s : State) (ns : List Nat) : State :=
  let gone := ns.filterMap s.land.lines.get?
  { s with
    land := s.land.release ns
    media := gone.foldl (fun m l => m.unreserve l.ns l.resv) s.media }

/-- A command leaves the device: its entries are released, its lines that never committed are freed (R61, R269). -/
def State.endCmd (s : State) (fseq : Nat) : State :=
  match s.cmq.cmds.get? fseq with
  | none => s
  | some c =>
    let dead := c.lines.filter (fun n => match s.land.lines.get? n with
      | some l => l.st == .filling
      | none => false)
    let s := s.dropLines dead
    let land := { s.land with cmb := s.land.cmb.upd c.port (fun m =>
      { m with adopted := m.adopted.filter (fun e => e.2 ≠ fseq) }) }
    { s with cmq := Cmq.release { s.cmq with cmds := s.cmq.cmds.del fseq } fseq, land := land }

/-- What keeps CSTS.RDY at 0 while CC.EN is 1 has gone: the device runs, and IDE allows the port (R246, R298). -/
def State.tryReady (s : State) (p : Fin 2) : State :=
  if s.phase = .running ∧ (s.ctrl p).en ∧ s.mayWrite p ∧ !s.cmq.cmds.any (fun e => e.2.port = p && e.2.silent) then s.setCtrl p (fun c => { c with rdy := true }) else s

/-- A command completes: its entry is posted and its locks are released (R269). An error enters the Error Information
log with its first LBA (R253, R138). -/
def State.complete (s : State) (fseq : Nat) (st : Status) (dw0 : Nat := 0) (lba : Nat := 0) : State :=
  match s.cmq.cmds.get? fseq with
  | none => s
  | some c =>
    let s := if st.isError then
      s.setCtrl c.port (fun k => { k with errors := ((fseq, st, lba) :: k.errors).take 256 }) else s
    if c.silent then (s.endCmd fseq).tryReady c.port else (s.post c.port fseq c.sqid c.cid st dw0).endCmd fseq

/-- A command changes. -/
def State.setCmd (s : State) (fseq : Nat) (f : Cmd → Cmd) : State :=
  { s with cmq := { s.cmq with cmds := s.cmq.cmds.mod fseq f } }

/-! ### Containment (R299 to R304) -/

/-- The opcode of a command (R253, R254), for its fate record. -/
def opcOf : HostCmd → Nat
  | .flush _ => 0x00
  | .write _ => 0x01
  | .read _ => 0x02
  | .compare _ => 0x05
  | .writeZeroes .. => 0x08
  | .dsm .. => 0x09
  | .verify _ => 0x0C
  | .copy .. => 0x19
  | .zoneAppend _ => 0x7D
  | .zoneSend .. => 0x79
  | .zoneRecv .. => 0x7A
  | .resv o _ => o.toNat
  | .ioMgmtRecv _ => 0x12
  | .ioMgmtSend .. => 0x1D
  | .admin o _ => o.toNat

/-- Format NVM, Sanitize and Device Self-test run to their end (R276, R303). -/
def runsOn : HostCmd → Bool
  | .admin o _ => o == 0x80 || o == 0x84 || o == 0x14
  | _ => false

/-- Write Zeroes, deallocate and Zone Management Send (R303). -/
def byUnits : HostCmd → Bool
  | .writeZeroes .. | .dsm .. | .zoneSend .. => true
  | _ => false

/-- The data transfer of a read has begun (R280, R303): a part of its data is at hand and the rest awaited. -/
def Cmd.began (c : Cmd) : Bool :=
  (match c.cmd with
   | .read _ | .compare _ | .verify _ => true
   | _ => false) && !c.got.isEmpty

/-- The fate of a command at the containment point (R303). -/
def Cmd.fate (c : Cmd) : Nat :=
  match c.phase with
  | .outstanding => 6
  | .waitRows => (match c.cmd with
    | .flush _ => 1
    | _ => 2)
  | .ready => if runsOn c.cmd then 5 else if byUnits c.cmd then 4 else if c.began then 3 else 1
  | _ => if c.began then 3 else 1

/-- The fate record of a command (R304). -/
def Cmd.record (fseq : Nat) (c : Cmd) : Fate :=
  { fseq := fseq, cid := c.cid, sqid := c.sqid, fate := c.fate, opc := opcOf c.cmd, st := if c.fate = 2 then some .success else none }

/-- The lent system DMA channels of a function (R337). -/
def State.lentOf (s : State) (p : Fin 2) : List (Fin 16) :=
  if s.dual then (if p = 0 then [12, 13] else [14, 15]) else (if p = 0 then [12, 13, 14, 15] else [])

/-- At the containment point the function's lent channels halt with CODE 0x30; the descriptor in progress has failed and
keeps OWN 1 (R347, R350, R352). -/
def State.haltLent (s : State) (p : Fin 2) : State :=
  (s.lentOf p).foldl (fun s ch =>
    let c := s.sdm.chs[ch]
    if c.state = .running then
      ({ s with sdm := { s.sdm with
        lentErrors := s.sdm.lentErrors + 1
        chs := s.sdm.chs.upd ch (fun c => { c with state := .halted, code := 0x30, err := true }) } }).log 0x4310 (s.portSrc p)
          (leBytes 1 ch.val ++ leBytes 1 0x30 ++ leBytes 2 c.head.toNat)
    else s) s

/-- The step of R435 that a ferry activation has reached: 5 draining, 6 quiescing, 9 after the crossing. -/
def State.ferryStep (s : State) : Nat :=
  match s.boot.ferry with
  | .none => 0
  | .prepared => 3
  | .paused => if s.cmq.cmds.all (fun e => e.2.phase == .waitCommit || e.2.phase == .outstanding) then 6 else 5
  | .drained => 9

/-- A ferry activation in its fetch pause is abandoned (R278, R436): fetching resumes under the old image, the timer is
disarmed, STATE returns to WRITTEN, event 0x6022. -/
def State.abandonFerry (s : State) : State :=
  if !(s.boot.ferry == .paused || s.boot.ferry == .drained) then s
  else
    let step := s.ferryStep
    let seq := s.boot.imageSeq
    let crossed := s.boot.ferry == .drained
    ({ s with
      cmq := { s.cmq with paused := false, abandoned := true, abandonTotal := s.cmq.abandonTotal + 1 }
      boot := { s.boot with
        ferry := .none, armed := none, next := [], old := []
        run := if crossed then s.boot.old else s.boot.run } }.record (fun b => { b with state := .written })).log 0x6022 0x20
          (leBytes 1 step ++ leBytes 4 seq.toNat)

/-- Containment of a function abandons the activation of its Firmware Commit (R303). -/
def State.ferryMeets (s : State) (p : Fin 2) : State :=
  match s.boot.ferryFseq with
  | some f => match s.cmq.cmds.get? f with
    | some c => if c.port = p then
        let s := s.abandonFerry
        { s with boot := { s.boot with ferryFseq := none, commit := none } }
      else s
    | none => s
  | none => s

/-- Bit 22, Uncorrectable Internal Error, of the AER registers (the PCI Express Base Specification; PRESUMED,
notes/assumptions/65.md). -/
def aerInternal : BitVec 32 := 0x400000

/-- The host masks Uncorrectable Internal Error (AER mask, 0x108): as it wrote the mask, or at the standard's reset value. -/
def PcPort.aerMasked (q : PcPort) : Bool :=
  match q.config.get? 0x108 with
  | some v => v.getLsbD 22
  | none => (ofLeBytes ((Config.standardReply 0x10108 0).take 4)).testBit 22

/-- Uncorrectable Internal Error is logged in AER (status, 0x104). -/
def PcPort.aerLog (q : PcPort) : PcPort := { q with config := q.config.put 0x104 ((q.config.get? 0x104).getD 0 ||| aerInternal) }

/-- What a containment sends (R302): for triggers 2 to 7 the error is logged in AER and, unless masked, ERR_NONFATAL is sent; for
trigger 1 the management bus is told. -/
def State.containSays (s : State) (p : Fin 2) (trig : Fin 8) : State :=
  if trig = 0 then s
  else if trig = 1 then s.emit (.miNotify 0x4201 p.val)
  else
    let s := s.setPort p PcPort.aerLog
    if s.ports[p].aerMasked then s else s.emit (.errNonFatal p)

/-- A trigger occurs (R300 to R303): while contained it adds to CAUSE_MAP; otherwise, if enabled, the function is
contained, and every command of the function that is not completed gets its fate. -/
def State.contain (s : State) (p : Fin 2) (trig : Fin 8) : State :=
  let c := s.ports[p].cnt
  if c.active then
    s.setPort p (fun q => { q with cnt := { c with causes := c.causes ||| (1 <<< trig.val) } })
  else if !(c.trigEn.getLsbD trig.val || trig.val = 0 || trig.val = 6 || trig.val = 7) then s
  else
    let s := (s.ferryMeets p).haltLent p
    let c := s.ports[p].cnt
    let mine := s.cmq.cmds.filter (fun e => e.2.port = p)
    let high := mine.foldl (fun m e => max m e.1) 0
    let fates := mine.map (fun e => Cmd.record e.1 e.2)
    let s := s.setPort p (fun q => { q with cnt := { c with
      active := true, fatesValid := false, causes := 1 <<< trig.val, first := BitVec.ofNat 3 trig.val,
      tb := s.tb.count, fseq := BitVec.ofNat 64 high, fates := fates, dbLatched := 0, total := satInc c.total } })
    let s := mine.foldl (fun s e => if e.2.fate = 5 ∨ e.2.fate = 6 then s else s.endCmd e.1) s
    let s := s.log 0x4201 (s.portSrc p) ((leBytes 7 s.tb.count.toNat) ++ leBytes 1 trig.val ++ leBytes 8 high)
    s.containSays p trig

/-- Controllers report fatal status and stop fetching (R52); FATAL is trigger 6 (R301). -/
def State.fatal (s : State) (ps : List (Fin 2)) : State :=
  ps.foldl (fun s p => if (s.ctrl p).cfs then s
    else (s.setCtrl p (fun c => { c with cfs := true })).contain p 6) s

/-! ### Lost granules and erased keys (R248, R365, R366) -/

/-- A granule's (or unit's) key: namespace index and address. -/
def gkey (ns g : Nat) : Nat := ns * 2 ^ 40 + g

/-- Granules are recorded as lost and counted (R248). -/
def Media.lose (m : Media) (ks : List Nat) : Media :=
  { m with
    lost := ks.foldl (fun l k => if l.contains k then l else l ++ [k]) m.lost
    lostTotal := m.lostTotal + BitVec.ofNat 64 ks.length }

/-- A rewritten granule is no longer lost (R248). -/
def Media.found (m : Media) (k : Nat) : Media := { m with lost := m.lost.filter (· ≠ k) }

/-- Committed lines not yet encrypted. -/
def Landing.unencrypted (l : Landing) : List (Nat × Line) := l.lines.filter (fun e => e.2.st == .committed)

/-- Every key register, key slot, DIN and DOUT is zeroed; operations in progress on the vault end with CODE 0x05; the
committed lines not yet encrypted are freed and their granules are lost (R365, R366). -/
def State.eraseKeys (s : State) : State :=
  let dead := s.land.unencrypted
  let s : State := { s with
    vault := { s.vault with pages := s.vault.pages.all (fun g =>
      let g := { g with slots := Vector.replicate 4 {}, din := Vector.replicate 4 0, dout := Vector.replicate 4 0 }
      if g.busy then { g with busy := false, done := true, code := 5 } else g) }
    sec := { s.sec with keysHeld := false, kpio := [], sessions := [] }
    ports := s.ports.all (fun q => { q with
      ideKeys := Vector.replicate 2 none
      ide := if q.ide == .secure then .insecure else q.ide })
    media := s.media.lose (dead.filterMap (fun e => if e.2.wt then none else some (gkey e.2.ns e.2.granule))) }
  s.dropLines (dead.map (·.1))

end Sys2Proof.Machine
end

