-- ==== Sys2Proof/Machine/DramMap.lean ====
section
/-! DEFINITION. Where a DRAM address lies (R317, R318, R335), the layout of a row with its check words (R314), the check words that
wait in a bank's buffer (R315), and the accesses of a transaction (R323, R324). -/

namespace Sys2Proof.Machine

open Sys2Proof

def State.setDram (s : State) (f : Dram → Dram) : State := { s with dram := f s.dram }
def State.setDch (s : State) (c : Fin 16) (f : DramCh → DramCh) : State :=
  s.setDram (fun d => { d with chs := d.chs.upd c f })
def State.dch (s : State) (c : Fin 16) : DramCh := s.dram.chs[c]

/-! ### The place of an address (R317, R318, R335) -/

/-- The channels that hold the 4 KiB units, in the order in which units go to them: all 16, or the intact ones of the degraded
layout. -/
def Dram.lanes (d : Dram) : List (Fin 16) :=
  if d.degraded then (List.finRange 16).filter (fun c => !d.chs[c].failed) else List.finRange 16

/-- The channel of an internal DRAM address, and its local address there. -/
def Dram.channelOf (d : Dram) (a : Nat) : Option (Fin 16 × Nat) :=
  let ch := d.lanes
  let o := a - landingBase
  if a < landingBase ∨ ch.length = 0 then none
  else (ch[o / 4096 % ch.length]?).map (fun c => (c, o / 4096 / ch.length * 4096 + o % 4096))

def mib : Nat := 1048576

/-- The data offset D of a channel's local address (R317): the regions that self-refresh keeps lie low. The manual gives the offsets of
the normal layout only. -/
def dataOffset (l : Nat) : Option Nat :=
  if l < 128 * mib then some (l + 3072 * mib)
  else if l < 2944 * mib then some (l - 128 * mib)
  else if l < 3584 * mib then some (l + 256 * mib)
  else if l < 3840 * mib then some (l - 768 * mib)
  else none

/-- Bank, row and row byte of a data offset (R318). -/
def bankPlace (d : Nat) : Fin 16 × Nat × Nat := (Fin.ofNat 16 (d / 1920), d / 1920 / 16, d % 1920)

/-- The MR23 segment of a data offset, and of a row (R318). -/
def segmentOf (d : Nat) : Nat := d / (480 * mib)
def segmentOfRow (row : Nat) : Nat := row / 16384

/-- Channel, bank, row and row byte of an internal address in the normal layout. -/
def Dram.cellOf (d : Dram) (a : Nat) : Option (Fin 16 × Fin 16 × Nat × Nat) :=
  match d.channelOf a with
  | some (c, l) => if d.degraded then none else (dataOffset l).map (fun o => (c, bankPlace o))
  | none => none

/-- The regions of R46 as they are mapped: in the degraded layout the landing buffer is unmapped, and the fulling and read buffers
have 8 GiB (R335). -/
def State.mappedRegion (s : State) (a n : Nat) : Option (Nat × Nat × Nat) :=
  match regionOf a n with
  | some r =>
    if s.dram.degraded ∧ (r.1 = landingBase ∨ (r.1 = 0x1B80000000 ∧ 0x1D80000000 < a + n)) then none else some r
  | none => none

/-! ### A row (R314) -/

/-- The row bytes of the check word of data burst `j`. -/
def checkAt (j : Nat) : Nat := 1920 + 2 * j

/-- The 2,048 bytes of a row: 60 data bursts, their check words, eight bytes of 0. -/
def rowBytes (bursts : List (BitVec 256)) : List Byte :=
  ((List.range 60).flatMap (fun j => leBytes 32 (bursts.getD j 0).toNat)) ++
    ((List.range 60).flatMap (fun j => leBytes 2 (Config.dramCheck (bursts.getD j 0)).toNat)) ++ List.replicate 8 0

/-- What the check word of a burst makes of flipped bits (R314): `open_` where the manual says nothing. -/
inductive EccEnd where
  | clean | corrected | detected | open_
deriving DecidableEq, Repr

/-- Flipped bits of a burst: 0 to 255 data, 256 to 271 its check word. Data bit i travels on DQ i mod 16 (DESIGN CHOICE,
notes/assumptions/66.md). -/
def eccEnd (flips : List (Fin 272)) : EccEnd :=
  match flips.dedup with
  | [] => .clean
  | [_] => .corrected
  | [_, _] => .detected
  | b :: bs => if (b :: bs).all (fun x => decide (x.val < 256) && decide (x.val % 16 = b.val % 16)) then .detected else .open_

/-! ### The check-word buffers (R315) -/

/-- The check words that wait in a bank's buffer are written to the row's check bursts, with the data mask over the others. -/
def State.flushCheck (s : State) (c b : Fin 16) : State :=
  let ws := (s.dch c).check[b]
  if ws = [] then s
  else (s.setDch c (fun d => { d with check := d.check.upd b (fun _ => []) })).emit
    (.dramCheck c b (((s.dch c).row[b]).getD 0) ws)

/-- The buffers of every bank of a channel are written. -/
def State.flushChecks (s : State) (c : Fin 16) : State := (List.finRange 16).foldl (fun s b => s.flushCheck c b) s

/-- The buffers of every channel are written. -/
def State.flushAllChecks (s : State) : State := (List.finRange 16).foldl State.flushChecks s

/-! ### Accesses (R315, R323, R324) -/

/-- Two or more 1s stand in a bank's history: the access leaves its row open (R324). -/
def leavesOpen (h : BitVec 4) : Bool :=
  decide (2 ≤ bit (h.getLsbD 0) + bit (h.getLsbD 1) + bit (h.getLsbD 2) + bit (h.getLsbD 3))

/-- An access to a row of a bank (R324). -/
def DramCh.access (d : DramCh) (b : Fin 16) (r : Nat) : DramCh :=
  let h : BitVec 4 := match d.row[b] with
    | some x => (d.hist[b] <<< (1 : Nat)) ||| (if x = r then 1 else 0)
    | none => d.hist[b]
  { d with hist := d.hist.upd b (fun _ => h), row := d.row.upd b (fun _ => some r), left := d.left.upd b (fun _ => leavesOpen h) }

/-- The row group that a burst of a transaction lies in, counted over the channel, and the burst's number in its row. -/
def burstAt (t : DramTxn) (i : Nat) : Nat × Nat := (t.row * 16 + t.bank.val + (t.col + i) / 60, (t.col + i) % 60)

/-- The accesses of the first `n` bursts of a transaction: bank, row, bursts. -/
def txnParts (t : DramTxn) (n : Nat) : List (Fin 16 × Nat × List Nat) :=
  if n = 0 then []
  else (List.range ((t.col + n - 1) / 60 - t.col / 60 + 1)).map (fun k =>
    let g := t.row * 16 + t.bank.val + t.col / 60 + k
    (Fin.ofNat 16 g, g / 16, (List.range n).filterMap (fun i => if (burstAt t i).1 = g then some (burstAt t i).2 else none)))

/-- What is left of a transaction after `n` bursts. -/
def txnAfter (t : DramTxn) (n : Nat) : DramTxn :=
  let g := (burstAt t n).1
  { t with bursts := t.bursts - n, bank := Fin.ofNat 16 g, row := g / 16, col := (burstAt t n).2 }

/-- The check word of a data burst is taken from the bank's buffer. -/
def DramCh.buffered (d : DramCh) (b : Fin 16) (r j : Nat) : Bool := decide (d.row[b] = some r) && d.check[b].contains j

/-- One access: a bank that holds another row is precharged first; a written burst's check word waits in the bank's buffer; with
auto-precharge the buffer is written at once. -/
def State.accessPart (s : State) (c : Fin 16) (write : Bool) (p : Fin 16 × Nat × List Nat) : State :=
  let s := if (s.dch c).row[p.1] = some p.2.1 then s else s.flushCheck c p.1
  let s := s.setDch c (fun d =>
    let d := d.access p.1 p.2.1
    if write then { d with check := d.check.upd p.1 (fun ws => ws ++ p.2.2.filter (fun j => !ws.contains j)) } else d)
  if (s.dch c).left[p.1] then s else s.flushCheck c p.1

/-- A granted transaction's bursts, at most `hold` of them. A read of HOST_IN is a read-back: the buffers of every bank are written
first. -/
def State.runTxn (s : State) (c : Fin 16) (k : Fin 12) (t : DramTxn) (hold : Nat) : State :=
  let s := if k = 0 ∧ !t.write then s.flushChecks c else s
  (txnParts t (min t.bursts hold)).foldl (fun s p => s.accessPart c t.write p) s

end Sys2Proof.Machine
end

