-- ==== Sys2Proof/Machine/Flags.lean ====
section
/-! DEFINITION. What the registers and log fields compute from the state: unit outages and roles (R25, R26, R52), the
effective power cap (R471), the population, groups and capacity of the media (R82, R97, R174, R201, R221, R222), the
hold-up (R58, R230), and the Critical Warning field. -/

namespace Sys2Proof.Machine

open Sys2Proof

/-! ### Units -/

/-- The partner of a slice (R25). -/
def partner (sl : Fin 8) : Fin 8 := if sl.val % 2 = 0 then Fin.ofNat 8 (sl.val + 1) else Fin.ofNat 8 (sl.val - 1)

/-- A core is out of service: declared failed for good, or being tried again after a cold start (R50, R53). -/
def CoreSt.down (c : CoreSt) : Bool := c.failed || c.trying.isSome

/-- The core of role `r` of slice `sl` (R26): 0 scheduler, 1 translation, 2 read channel. -/
def roleCore (sl : Fin 8) (r : Nat) : Fin 32 := Fin.ofNat 32 (3 * sl.val + r)

def Units.coreDown (u : Units) (c : Fin 32) : Bool := u.cores[c].down

/-- The core that serves the scheduler role of a slice: its own, or the partner's after a takeover (R26, R52). -/
def Units.scheduler (u : Units) (sl : Fin 8) : Option (Fin 32) :=
  if !u.coreDown (roleCore sl 0) then some (roleCore sl 0)
  else if !u.coreDown (roleCore (partner sl) 0) then some (roleCore (partner sl) 0)
  else none

/-- SYS_TAKEOVER bit of role `r` of a slice: its core is out and the partner's serves. -/
def Units.takeover (u : Units) (sl : Fin 8) (r : Nat) : Bool :=
  u.coreDown (roleCore sl r) && !u.coreDown (roleCore (partner sl) r)

/-- The value of SYS_TAKEOVER. -/
def Units.takeoverReg (u : Units) : Nat :=
  (List.finRange 8).foldl (fun x sl =>
    x + bit (u.takeover sl 0) * 2 ^ (4 * sl.val) + bit (u.takeover sl 1) * 2 ^ (4 * sl.val + 1) +
      bit (u.takeover sl 2) * 2 ^ (4 * sl.val + 2)) 0

def Units.aliveReg (u : Units) : Nat := (List.finRange 32).foldl (fun x c => x + bit u.cores[c].alive * 2 ^ c.val) 0
def Units.failedReg (u : Units) : Nat := (List.finRange 32).foldl (fun x c => x + bit u.cores[c].failed * 2 ^ c.val) 0

def Units.hardAll (u : Units) (sl : Fin 8) : Bool := u.hard[sl] = 0xFF
def Units.softAll (u : Units) (sl : Fin 8) : Bool := u.soft[sl] = 3
/-- Both slices of the pair have lost their soft decoders: ladder steps 2 to 4 are skipped (R52). -/
def Units.noSoft (u : Units) (sl : Fin 8) : Bool := u.softAll sl && u.softAll (partner sl)
/-- Every accumulator has failed (R52). -/
def Units.accAll (u : Units) : Bool := (List.finRange 8).all (fun sl => u.acc[sl])

/-! ### Power -/

/-- The effective cap in 0.1 W and its source (R471, PWS_CAP.SOURCE), lowest first on equal caps. -/
def State.effCap (s : State) : Option (Nat × Nat) :=
  let st : List (Nat × Nat) := match s.pws.ps with | 1 => [(300, 1)] | 2 => [(200, 1)] | _ => []
  let bmc : List (Nat × Nat) := if s.param 0x6000 1 = 0 then [] else [(s.param 0x6000 1, 2)]
  let host : List (Nat × Nat) := match s.pws.htmt with | 0 => [] | 1 => [(360, 3)] | _ => [(250, 3)]
  let dev : List (Nat × Nat) := match s.pws.level with | 0 => [] | 1 => [(360, 4)] | 2 => [(250, 4)] | _ => [(150, 4)]
  (st ++ bmc ++ host ++ dev).foldl (fun (b : Option (Nat × Nat)) c =>
    match b with
    | none => some c
    | some x => if c.1 < x.1 then some c else some x) none

/-- Array operations allowed per channel under the cap (R449). -/
def busyOfCap : Option Nat → Nat
  | none => 16
  | some c => if 300 ≤ c then 16 else if 250 ≤ c then 12 else if 200 ≤ c then 8 else if 150 ≤ c then 4 else 2

/-- Halved `k` times, down to 2 (R470). -/
def halved : Nat → Nat → Nat
  | 0, n => n
  | k + 1, n => halved k (max 2 (n / 2))

/-- Half-steps of R470: each 5 °C started above NAND_T_LIMIT. -/
def State.nandHot (s : State) : Nat :=
  let t := s.pws.temps[11].1.toInt
  let lim : Int := (s.param 0x6011 2 : Int) * 10
  if s.pws.thermBad ∨ s.param 0x6011 1 = 0 ∨ t ≤ lim then 0 else (t - lim - 1).toNat / 50 + 1

/-- The concurrency of R449 and R470. -/
def State.busyMax (s : State) : Nat := halved s.nandHot (busyOfCap (s.effCap.map (·.1)))

/-! ### Population and geometry -/

/-- The channel of a die (R81). -/
def chOf (die : Nat) : Fin 64 := Fin.ofNat 64 (die / 16)
/-- Its place behind the channel, CE × 4 + LUN. -/
def posOf (die : Nat) : Nat := die % 16
/-- The slice that owns a die (R18). -/
def sliceOf (die : Nat) : Fin 8 := Fin.ofNat 8 (die / 128)
/-- The stripe group and member of a die (R82); the group's number is the model's (DESIGN CHOICE, notes/assumptions/11.md). -/
def groupOf (die : Nat) : Nat := posOf die * 2 + (die / 16) % 2
def memberOf (die : Nat) : Nat := die / 32
/-- Member `m` of group `g`. -/
def groupDie (g m : Nat) : Nat := (2 * m + g % 2) * 16 + g / 2

def Media.dies_ (m : Media) : List Nat := m.population.getD []
/-- A die has been declared failed (R172). -/
def Media.dieFailed (m : Media) (die : Nat) : Bool := m.fch[chOf die].failed.getLsbD (posOf die)
def Media.die (m : Media) (d : Nat) : DieSt := (m.dies.get? d).getD {}
/-- A die that no operation for data is sent to: declared failed, or left out of service at start-up (R131, R155). -/
def Media.dieOut (m : Media) (die : Nat) : Bool := m.dieFailed die || (m.die die).leftOut
/-- A die is in service. -/
def Media.inService (m : Media) (die : Nat) : Bool := m.dies_.contains die && !m.dieOut die
def Media.liveDies (m : Media) : List Nat := m.dies_.filter (fun d => !m.dieOut d)

def Media.qlc (m : Media) : Bool := match m.profile with | some p => p.qlc | none => false
/-- Pages of a wordline (R536). -/
def Media.types (m : Media) : Nat := if m.qlc then 4 else 3
def Media.wordlines (m : Media) : Nat := match m.profile with | some p => p.wordlines | none => 0
def Media.blocks (m : Media) : Nat := match m.profile with | some p => p.blocks | none => 0
def Media.pages (m : Media) : Nat := m.wordlines * m.types
/-- Blocks of each die in the system band (R199); they are the highest-numbered ones (DESIGN CHOICE, notes/assumptions/11.md).
-/
def Media.band (m : Media) : Nat := ceilDiv (m.blocks * 6) 1000
def Media.dataBlocks (m : Media) : Nat := m.blocks - m.band

/-- The groups of the population. -/
def Media.groups (m : Media) : List Nat := (List.range 32).filter (fun g => m.dies_.contains (groupDie g 0))
/-- The dies of a group in service, ascending by channel (R174). -/
def Media.surviving (m : Media) (g : Nat) : List Nat := ((List.range 32).map (groupDie g)).filter m.inService
/-- Data members that a group's new stripes have (R174). -/
def Media.dataMembers (m : Media) (g : Nat) : Nat :=
  match (m.surviving g).length with
  | 32 => 31
  | 31 => 30
  | _ => 0

/-- Payload of one block, in bytes (R97). -/
def Media.blockBytes (m : Media) : Nat := m.pages * 4 * 4096
/-- The payload capacity (R97, R174), in bytes. -/
def Media.payload (m : Media) : Nat :=
  (m.groups.map (fun g => m.dataMembers g * m.dataBlocks * m.blockBytes)).foldl (· + ·) 0

/-- The current spare in 0.01 %, which may be negative (R222). -/
def Media.spare (m : Media) : Int :=
  if m.payload = 0 then 0 else ((m.payload : Int) - m.guaranteed) * 10000 / m.payload

/-- Blocks of a die that stripes hold. -/
def Media.usedBlocks (m : Media) (d : Nat) : List Nat :=
  (m.stripes.filterMap (fun e => (e.2.members.find? (fun x => x.1 = d)).map (·.2)))
/-- Blocks of a die that stripes hold or that are bad. -/
def Media.takenBlocks (m : Media) (d : Nat) : List Nat :=
  let used := m.usedBlocks d
  used ++ (m.die d).bad.filter (fun b => !used.contains b)
/-- Free blocks of a die, of both lists (R201): outside the system band, and in it (R199). -/
def Media.freeBlocks (m : Media) (d : Nat) : Nat :=
  m.dataBlocks - ((m.takenBlocks d).filter (fun b => decide (b < m.dataBlocks))).length
def Media.freeBand (m : Media) (d : Nat) : Nat :=
  m.band - ((m.takenBlocks d).filter (fun b => decide (m.dataBlocks ≤ b))).length
/-- The least of a number over the surviving members of a group; none for a group that forms no new stripes (R201). -/
def Media.leastOf (m : Media) (g : Nat) (f : Nat → Nat) : Option Nat :=
  if m.dataMembers g = 0 then none
  else (m.surviving g).foldl (fun (b : Option Nat) d =>
    match b with
    | none => some (f d)
    | some x => some (min x (f d))) none
/-- The free level of a group (R201), and the stripes that its part of the system band could still form. -/
def Media.freeLevel (m : Media) (g : Nat) : Option Nat := m.leastOf g m.freeBlocks
def Media.bandLevel (m : Media) (g : Nat) : Option Nat := m.leastOf g m.freeBand

/-- The erase count of a block (R202). -/
def Media.erases (m : Media) (d b : Nat) : Nat := (m.eraseCnt.get? (d * 8192 + b)).getD 0
/-- A block is on the erased list (R201). -/
def Media.erased (m : Media) (d b : Nat) : Bool :=
  decide (b < m.blocks) && !(m.usedBlocks d).contains b && !(m.die d).dirty.contains b && !(m.die d).bad.contains b
/-- The erased block that a die gives, of the system band or not: lowest erase count, then lowest number (R202, R199). -/
def Media.pickBlock (m : Media) (d : Nat) (sys : Bool) : Option Nat :=
  ((if sys then (List.range m.band).map (· + m.dataBlocks) else List.range m.dataBlocks).filter (m.erased d)).foldl
    (fun (best : Option Nat) b =>
      match best with
      | none => some b
      | some x => if m.erases d b < m.erases d x then some b else some x) none

/-- Erase counts of a die's blocks in service. -/
def Media.dieErases (m : Media) (d : Nat) : List Nat :=
  ((List.range m.blocks).filter (fun b => !(m.die d).bad.contains b)).map (m.erases d)

def Media.spread (m : Media) : Nat :=
  (m.liveDies.map (fun d =>
    let e := m.dieErases d
    e.foldl max 0 - e.foldl min (e.foldl max 0))).foldl max 0

def Media.eraseMean (m : Media) : Nat :=
  let e := m.liveDies.flatMap m.dieErases
  e.foldl (· + ·) 0 / max 1 e.length

/-! ### Namespaces -/

/-- Granules of a namespace (R56). -/
def Namespace.granules (n : Namespace) : Nat := if n.lba512 then ceilDiv n.nlbas 8 else n.nlbas
/-- Bytes that a namespace advertises. -/
def Namespace.bytes (n : Namespace) : Nat := n.nlbas * (if n.lba512 then 512 else 4096)
def Namespace.expanded (n : Namespace) : Bool := n.factor.isSome
/-- The physical share of an expanded-capacity namespace (R99), in bytes. -/
def Namespace.share (n : Namespace) : Nat :=
  let u := if n.ind16 then 16384 else 4096
  match n.factor with
  | some f => ceilDiv (ceilDiv (n.bytes * 256) f) u * u
  | none => n.bytes
/-- The unit of a granule (R180). -/
def Namespace.unitOf (n : Namespace) (g : Nat) : Nat := if n.ind16 then g / 4 else g
/-- Granules of one indirection unit. -/
def Namespace.perUnit (n : Namespace) : Nat := if n.ind16 then 4 else 1

/-- The next power of two at or above `x`. -/
def pow2Above (x : Nat) : Nat := if x ≤ 1 then 1 else 2 ^ (Nat.log2 (x - 1) + 1)

/-- Zone size in granules: the next power of two, in logical blocks, of the full capacity (R218). -/
def Media.zoneSize (m : Media) : Nat := pow2Above (31 * m.pages * 4)

/-- The capacity of a namespace in bytes: of a zoned one, that of its zones (R218). -/
def Media.capBytes (m : Media) (n : Namespace) : Nat :=
  if n.zoned then n.granules / m.zoneSize * (31 * m.pages * 4) * 4096 else n.bytes

/-- Capacities of the namespaces that are not expanded, in bytes (R98). -/
def Media.plainBytes (m : Media) : Nat :=
  ((m.namespaces.filter (fun e => !e.2.expanded)).map (fun e => m.capBytes e.2)).foldl (· + ·) 0
/-- The pool of R99, in bytes. -/
def Media.pool (m : Media) : Nat := m.guaranteed - m.plainBytes
/-- Bytes of the pool in use (R99, R100): charged to the expanded-capacity namespaces, or reserved for what they have landed. -/
def Media.charged (m : Media) : Nat :=
  ((m.namespaces.filter (fun e => e.2.expanded)).map (fun e => (e.2.charged + e.2.reserved) * 16)).foldl (· + ·) 0

/-- Every namespace is read-only (R52, R222, R246, R335). -/
def State.readOnly (s : State) : Bool := s.media.readOnly || s.media.protected_ || s.units.accAll || s.dram.degraded

/-- Service mode: boot, test and recovery (R342; PRESUMED, notes/assumptions/19.md). -/
def State.service (s : State) : Bool :=
  s.board.testScan || decide (s.boot.source = 2) || (match s.phase with
    | .rom | .slipway | .firmware => true
    | _ => false)

/-! ### Hold-up -/

/-- The hold-up is ready (R230): full charge, the last test passed, no fault. -/
def Plp.ready (p : Plp) : Bool := decide (p.state = .full) && p.tested && !p.testFail && decide (p.active = 0)

/-- The journal has reached its wear rating (R9): passes of 96 MiB, 1,572,864 units of 64 bytes. -/
def Media.passes (m : Media) : Nat := m.ringHead / 1572864
def Media.worn (m : Media) : Bool := decide (100000000 ≤ m.passes)

/-- NAND wear in percent, rounded up (R9): the mean erase count over the profile's endurance. -/
def Media.nandWear (m : Media) : Nat := match m.profile with
  | some p => ceilDiv (m.eraseMean * 100) (max 1 p.endurance)
  | none => 0

/-- The Percentage Used field (R9): the higher of NAND wear and journal wear, at most 255. -/
def Media.percentUsed (m : Media) : Nat := min 255 (max m.nandWear (ceilDiv m.passes 1000000))

/-- The ring fill in units (R197). -/
def Media.fill (m : Media) : Nat := m.ringHead - m.ringTail

/-- A rebuild is unfinished (R175). -/
def Media.rebuilding (m : Media) : Bool := !m.rebuilds.isEmpty

/-- The Available Spare field and its threshold (R222). -/
def State.availSpare (s : State) : Nat :=
  let pct := s.param 0x3300 0
  if s.media.spare ≤ 0 ∨ pct = 0 then 0 else min 100 ((2 * s.media.spare.toNat + pct) / (2 * pct))
def State.spareThreshold (s : State) : Nat := ceilDiv 200 (s.param 0x3300 0)

/-- The Critical Warning field (R176, R222, R230, R246, R467): bit 0 spare below the threshold, bit 1 temperature, bit 2
reliability, bit 3 read-only, bit 4 volatile memory backup. -/
def State.criticalWarning (s : State) : Nat :=
  bit (decide (s.availSpare < s.spareThreshold)) + 2 * bit (decide (3 ≤ s.pws.level)) +
    4 * bit (s.media.rebuildWarn || s.media.protected_ || s.media.worn) + 8 * bit s.readOnly +
    16 * bit (s.plp.testFail || decide (s.plp.active ≠ 0))

/-- Read recovery is in host-assisted mode (R137). -/
def State.hostRecovery (s : State) : Bool := decide (s.param 0x7000 0 = 1)

/-- The ladder cap of a Read Recovery Level (R137). -/
def capOfLevel (l : Nat) : Nat := if l ≤ 5 then 6 - l else 0

/-- The highest step allowed to host reads of a controller (R137, entry 0x3103). -/
def State.stepCap (s : State) (p : Fin 2) : Nat := if s.hostRecovery then capOfLevel (s.ctrl p).feat.rrl else 6

end Sys2Proof.Machine
end

