-- ==== Sys2Proof/Machine/Codec.lean ====
section
/-! DEFINITION. The formats and codes of the manual: codeword layout (R77 to R79), scrambling (R81), the pilot
field (R113), the LDPC code (R121 to R123), map entries and compressed map pages (R180, R186, R187), delta blocks (R241,
R242). -/

namespace Sys2Proof.Machine

open Sys2Proof

/-! ### Directory entries and meta (R78, R79) -/

structure DirEnt where
  granule : Nat
  nsx : Nat
  offset : Nat
  lenM1 : Nat
deriving DecidableEq, Repr

def DirEnt.encode (d : DirEnt) : Nat := d.granule + d.nsx * 2 ^ 40 + d.offset * 2 ^ 48 + d.lenM1 * 2 ^ 56

def DirEnt.decode (w : Nat) : DirEnt :=
  ⟨w % 2 ^ 40, w / 2 ^ 40 % 256, w / 2 ^ 48 % 256, w / 2 ^ 56 % 256⟩

/-- The entry's fields lie within their widths. -/
def DirEnt.fits (d : DirEnt) : Bool :=
  decide (d.granule < 2 ^ 40) && decide (d.nsx < 256) && decide (d.offset < 256) && decide (d.lenM1 < 256)

/-- The meta field of a codeword (R78): SEQ, tail length in 16-byte units (0 for none), padding, directory; CRC over meta
bytes 0–43 and the payload. -/
def metaBytes (seq contLen : Nat) (pad : Bool) (dir : List DirEnt) (payload : List Byte) : List Byte :=
  let body := leBytes 8 seq ++ leBytes 1 (dir.length + 8 * bit (decide (0 < contLen)) + 16 * bit pad) ++
    leBytes 2 contLen ++ leBytes 1 0 ++ padTo 32 0 (dir.flatMap (fun d => leBytes 8 d.encode))
  body ++ leBytes 4 (crc32 (body ++ payload))

/-- The frame mark (R77). -/
def frameMark : List Byte := [0x47, 0xD2, 0x1C, 0xB5]

/-! ### The generator of R81 and the pilot field of R113 -/

/-- One step of the register x^31 + x^28 + 1: its output bit and its next contents. PRESUMED: the form that gives out
stage 31 and feeds back stages 31 and 28 (notes/assumptions/13.md). -/
def lfsrStep (r : Nat) : Nat × Nat :=
  let o := r / 2 ^ 30 % 2
  (o, (r * 2 + (o + r / 2 ^ 27) % 2) % 2 ^ 31)

/-- `n` output bits and the register after them. -/
def lfsrBits : Nat → Nat → List Nat × Nat
  | 0, r => ([], r)
  | n + 1, r =>
    let a := lfsrStep r
    let b := lfsrBits n a.2
    (a.1 :: b.1, b.2)

/-- Sixteen output bits, first most significant (R113), and the register after them. -/
def next16 (r : Nat) : Nat × Nat :=
  let b := lfsrBits 16 r
  (b.1.foldl (fun x o => x * 2 + o) 0, b.2)

def seedOr (x : Nat) : Nat := if x % 2 ^ 31 = 0 then 0x5A5A5A5A else x % 2 ^ 31

/-- The scrambling seed (R81). -/
def scrSeed (die block page cw : Nat) : Nat :=
  ((die <<< 21) ^^^ (block <<< 8) ^^^ page ^^^ (cw <<< 29)) % 2 ^ 31

/-- The pilot seed after masking (R113). -/
def pilotSeed (die block wordline cw : Nat) : Nat :=
  ((die <<< 21) ^^^ (block <<< 8) ^^^ wordline ^^^ (cw <<< 29) ^^^ 0x0A3C5E71) % 2 ^ 31

/-- Bytes scrambled: output bit k goes into bit 7 − (k mod 8) of byte k div 8 (R81). -/
def scramble : Nat → List Byte → List Byte
  | _, [] => []
  | r, b :: bs =>
    let o := lfsrBits 8 r
    (b ^^^ BitVec.ofNat 8 (o.1.foldl (fun x o => x * 2 + o) 0)) :: scramble o.2 bs

/-- The swaps of R113 from position `c` down to 1. -/
def pilotShuffle : Nat → Nat → Array Nat → Array Nat
  | 0, _, st => st
  | c + 1, r, st =>
    let n := next16 r
    let j := n.1 % (c + 2)
    let a := st.getD (c + 1) 0
    let b := st.getD j 0
    pilotShuffle c n.2 ((st.setIfInBounds (c + 1) b).setIfInBounds j a)

/-- The state of each pilot cell for `s` states (R113). -/
def pilotStates (s die block wordline cw : Nat) : List Nat :=
  (pilotShuffle 255 (seedOr (pilotSeed die block wordline cw)) ((List.range 256).map (· % s)).toArray).toList

/-- The expected pilot bits of a page type under a coding (R112, R113). -/
def pilotBits (coding : List Bool) (states : List Nat) : List Bool := states.map (fun st => coding.getD st false)

/-- refs(p): the references whose boundary changes the page's bit (R112). -/
def refsOf (coding : List Bool) : List Nat :=
  (List.range (coding.length - 1)).filterMap (fun b =>
    if coding.getD b false ≠ coding.getD (b + 1) false then some (b + 1) else none)

/-- A coding is supported: each boundary changes exactly one page's bit, and no page owns two adjacent references
(R112). -/
def codingOk (coding : List (List Bool)) : Bool :=
  let s := (coding.map List.length).foldl max 0
  (List.range (s - 1)).all (fun b => decide ((coding.filter (fun p => (refsOf p).contains (b + 1))).length = 1)) &&
    coding.all (fun p => (refsOf p).all (fun b => !(refsOf p).contains (b + 1)))

/-! ### The LDPC code (R121 to R123) -/

/-- A block times a column: y[r] = x[(r + s) mod 256] (R122). A block is 256 bits, bit r is element r. -/
def rot256 (s x : Nat) : Nat := ((x >>> (s % 256)) ||| (x <<< (256 - s % 256))) % 2 ^ 256

/-- The shift of information block (i, j), or none where the block is zero (R122). -/
def infoShift (i j : Nat) : Option Nat :=
  let sj := 1 + j / 15
  if (List.range 3).any (fun m => decide ((j + m * sj) % 15 = i)) then
    some (((i + 1) * (3 * j + 1) + j * j) % 256)
  else none

/-- lam[i]: the information part of row i (R123). -/
def lamRow (info : List Nat) (i : Nat) : Nat :=
  ((List.range 131).map (fun j => match infoShift i j with
    | some s => rot256 s (info.getD j 0)
    | none => 0)).foldl (· ^^^ ·) 0

/-- p2 … p14 from p[k], the lam rows k, k+1, … and p0 (R123). -/
def parityTail (p0 : Nat) : Nat → Nat → List Nat → List Nat
  | _, _, [] => []
  | k, pk, l :: ls =>
    let n := l ^^^ pk ^^^ (if k = 7 then p0 else 0)
    n :: parityTail p0 (k + 1) n ls

/-- The parity blocks P0 to P14 of 131 information columns (R123). -/
def ldpcParity (info : List Nat) : List Nat :=
  let lam := (List.range 15).map (lamRow info)
  let p0 := lam.foldl (· ^^^ ·) 0
  let p1 := lam.getD 0 0 ^^^ rot256 1 p0
  p0 :: p1 :: parityTail p0 1 p1 ((lam.drop 1).take 13)

/-- The parity part of check row i (R122). -/
def parityRow (par : List Nat) (i : Nat) : Nat :=
  (if i = 0 then rot256 1 (par.getD 0 0) else 0) ^^^ (if i = 7 then par.getD 0 0 else 0) ^^^
    (if i = 14 then rot256 1 (par.getD 0 0) else 0) ^^^
    (if 1 ≤ i then par.getD i 0 else 0) ^^^ (if i < 14 then par.getD (i + 1) 0 else 0)

/-- The syndrome of row i: zero for a codeword (R105). -/
def syndRow (info par : List Nat) (i : Nat) : Nat := lamRow info i ^^^ parityRow par i

/-- The initial syndrome weight (R108): unsatisfied check rows. -/
def syndWeight (info par : List Nat) : Nat :=
  ((List.range 15).map (fun i => ((List.range 256).filter (fun r => (syndRow info par i).testBit r)).length)).foldl
    (· + ·) 0

/-! ### Map entries (R180, R181) -/

/-- The 64-bit map entry of a unit (R180); `none` is TRIMMED. -/
def mapWord (ind16 : Bool) : Option MapEnt → Nat
  | none => 2 ^ 56
  | some .zero => 2 ^ 57
  | some (.loc die block page offset len raw) =>
    die + block * 2 ^ 10 + page * 2 ^ 23 + offset * 2 ^ 35 +
      (if ind16 then ceilDiv len 4 else len) * 2 ^ 46 + bit raw * 2 ^ 55

/-- The entry that a word holds; LENGTH is kept in 16-byte units at 4 KiB indirection (R180). -/
def mapEntOf (w : Nat) : Option (Option MapEnt) :=
  if w = 2 ^ 56 then some none
  else if w = 2 ^ 57 then some (some .zero)
  else if w / 2 ^ 56 = 0 ∧ w / 2 ^ 46 % 2 ^ 9 ≠ 0 ∧ w / 2 ^ 35 % 2 ^ 11 < 1024 then
    some (some (.loc (w % 2 ^ 10) (w / 2 ^ 10 % 2 ^ 13) (w / 2 ^ 23 % 2 ^ 12) (w / 2 ^ 35 % 2 ^ 11)
      (w / 2 ^ 46 % 2 ^ 9) (decide (w / 2 ^ 55 % 2 = 1))))
  else none

/-! ### Compressed map pages (R186, R187) -/

/-- What decoding has: the cursor, the anchor, the entries so far by index. -/
structure PageDec where
  cursor : Nat := 0
  anchor : Option (Nat × Nat × Nat × Nat × Nat) := none
  ents : AMap MapEnt := []
deriving DecidableEq, Repr

/-- One entry with a record address is given; it becomes the anchor. -/
def PageDec.give (d : PageDec) (die block page offset len : Nat) : Option PageDec :=
  if 1024 ≤ d.cursor ∨ 1024 ≤ offset then none
  else some { cursor := d.cursor + 1, anchor := some (die, block, page, offset, len),
              ents := d.ents.put d.cursor (.loc die block page offset len (decide (len = 256))) }

/-- Entries of a chain word (R187). -/
def PageDec.chain (d : PageDec) : List Nat → Option PageDec
  | [] => some d
  | l :: ls => match d.anchor with
    | none => none
    | some (die, block, page, off, len) => match d.give die block page (off + len) (l + 1) with
      | none => none
      | some d => d.chain ls

/-- A 6-bit two's complement field. -/
def sext6 (x : Nat) : Int := if x < 32 then x else (x : Int) - 64

/-- An entry of a delta word, `dp` pages from the anchor (R187). -/
def PageDec.deltaEnt (d : PageDec) (dp : Int) (off lenM1 : Nat) : Option PageDec :=
  match d.anchor with
  | none => none
  | some (die, block, page, _, _) =>
    let p := (page : Int) + dp
    if p < 0 ∨ 4096 ≤ p then none else d.give die block p.toNat off (lenM1 + 1)

/-- ZERO entries at the cursor. -/
def PageDec.zeros (d : PageDec) : Nat → Option PageDec
  | 0 => some d
  | n + 1 => if 1024 ≤ d.cursor then none
    else ({ d with cursor := d.cursor + 1, ents := d.ents.put d.cursor .zero } : PageDec).zeros n

/-- A field of a coded word: bits [hi:lo]. -/
def fld (w hi lo : Nat) : Nat := w / 2 ^ lo % 2 ^ (hi - lo + 1)

/-- One coded word (R187); `none` is a corrupt page. -/
def PageDec.word (ind16 : Bool) (d : PageDec) (w : Nat) : Option PageDec :=
  let skip (g : Nat) : PageDec := { d with cursor := d.cursor + g }
  if w % 2 = 0 then
    (skip (fld w 10 1)).give (fld w 20 11) (fld w 33 21) (fld w 45 34) (fld w 55 46) (fld w 63 56 + 1)
  else match fld w 2 1 with
    | 1 => if ind16 ∨ 6 < fld w 5 3 then none
      else d.chain ((List.range (fld w 5 3 + 1)).map (fun m => fld w (8 * m + 13) (8 * m + 6)))
    | 2 => (skip (fld w 12 3)).zeros (fld w 22 13 + 1)
    | 3 => match (skip (fld w 12 3)).deltaEnt (sext6 (fld w 18 13)) (fld w 28 19) (fld w 36 29) with
      | none => none
      | some d => if fld w 37 37 = 1 then d.deltaEnt (sext6 (fld w 43 38)) (fld w 53 44) (fld w 61 54) else some d
    | _ => none

/-- The coded words in turn. -/
def PageDec.words (ind16 : Bool) (d : PageDec) : List Nat → Option PageDec
  | [] => some d
  | w :: ws => match d.word ind16 w with
    | none => none
    | some d => d.words ind16 ws

/-- A compressed map page (R186): header and coded words; `none` is a corrupt page. The entries not listed are TRIMMED. -/
def decodeMapPage (header : Nat) (ws : List Nat) : Option (AMap MapEnt) :=
  if fld header 10 0 = ws.length ∧ fld header 15 12 = 1 ∧
      fld header 63 32 = crc32 (ws.flatMap (fun w => leBytes 8 w)) then
    (PageDec.words (decide (fld header 11 11 = 1)) {} ws).map (·.ents)
  else none

/-- LENGTH of an entry in the page's units (R180). -/
def lenUnits (ind16 : Bool) (len : Nat) : Nat := if ind16 then ceilDiv len 4 else len

/-- Lengths, less one, of the entries that a chain word can hold after an anchor: back to back on its page, in consecutive places
(R187). -/
def chainRun (die block page : Nat) : (n next off : Nat) → List (Nat × MapEnt) → List Nat
  | n + 1, next, off, (i, .loc d b p o l _) :: es =>
    if i = next ∧ d = die ∧ b = block ∧ p = page ∧ o = off ∧ 1 ≤ l then (l - 1) :: chainRun die block page n (next + 1) (off + l) es
    else []
  | _, _, _, _ => []

/-- ZERO entries in consecutive places, at most `n`. -/
def zeroRun : (n next : Nat) → List (Nat × MapEnt) → Nat
  | n + 1, next, (i, .zero) :: es => if i = next then zeroRun n (next + 1) es + 1 else 0
  | _, _, _ => 0

/-- A step between pages as a delta word codes it, if it can. -/
def pageDelta (a b : Nat) : Option Nat := if a ≤ b + 32 ∧ b < a + 32 then some ((b + 64 - a) % 64) else none

/-- The coded words of a page's entries in order, from a cursor and its anchor (R187). DESIGN CHOICE (notes/assumptions/15.md): of the
codings that R187 allows, the longest chain, else a delta word, else a literal. -/
def codeWords (ind16 : Bool) : (fuel cursor : Nat) → Option (Nat × Nat × Nat × Nat) → List (Nat × MapEnt) → List Nat
  | 0, _, _, _ => []
  | _, _, _, [] => []
  | fuel + 1, cur, anchor, (i, .zero) :: es =>
    let n := zeroRun 1023 (i + 1) es
    (5 + (i - cur) * 2 ^ 3 + n * 2 ^ 13) :: codeWords ind16 fuel (i + n + 1) anchor (es.drop n)
  | fuel + 1, cur, anchor, (i, .loc d b p o l r) :: es =>
    let units := lenUnits ind16 l
    let literal := (i - cur) * 2 + d * 2 ^ 11 + b * 2 ^ 21 + p * 2 ^ 34 + o * 2 ^ 46 + (units - 1) * 2 ^ 56
    match anchor with
    | none => literal :: codeWords ind16 fuel (i + 1) (some (d, b, p, o + units)) es
    | some (ad, ab, ap, aoff) =>
      let run := if ind16 then [] else chainRun ad ab ap 7 cur aoff ((i, .loc d b p o l r) :: es)
      if run ≠ [] then
        (3 + (run.length - 1) * 2 ^ 3 + (run.zipIdx.map (fun x => x.1 * 2 ^ (8 * x.2 + 6))).foldl (· + ·) 0) ::
          codeWords ind16 fuel (cur + run.length) (some (ad, ab, ap, run.foldl (fun a x => a + x + 1) aoff)) (es.drop (run.length - 1))
      else match (if ad = d ∧ ab = b then pageDelta ap p else none) with
        | none => literal :: codeWords ind16 fuel (i + 1) (some (d, b, p, o + units)) es
        | some dp =>
          let word := 7 + (i - cur) * 2 ^ 3 + dp * 2 ^ 13 + o * 2 ^ 19 + (units - 1) * 2 ^ 29
          match es with
          | (j, .loc d2 b2 p2 o2 l2 _) :: es' =>
            let u2 := lenUnits ind16 l2
            match (if j = i + 1 ∧ d2 = d ∧ b2 = b then pageDelta p p2 else none) with
            | some dp2 => (word + 2 ^ 37 + dp2 * 2 ^ 38 + o2 * 2 ^ 44 + (u2 - 1) * 2 ^ 54) ::
                codeWords ind16 fuel (i + 2) (some (d, b, p2, o2 + u2)) es'
            | none => word :: codeWords ind16 fuel (i + 1) (some (d, b, p, o + units)) es
          | es => word :: codeWords ind16 fuel (i + 1) (some (d, b, p, o + units)) es

/-- The coded words of a map page. -/
def pageWords (ind16 : Bool) (ents : List (Nat × MapEnt)) : List Nat := codeWords ind16 ents.length 0 none ents

/-- A compressed map page: the header of R186 and its words. -/
def pageBytes_ (ind16 : Bool) (ents : List (Nat × MapEnt)) : List Byte :=
  let ws := pageWords ind16 ents
  let code := ws.flatMap (leBytes 8)
  leBytes 8 (ws.length + bit ind16 * 2 ^ 11 + 2 ^ 12 + crc32 code * 2 ^ 32) ++ code

/-- A map record: namespace index and page number, the sequence number of the last update applied, CRC-32, the page (R194).
DESIGN CHOICE: the order and widths of the header's fields (notes/assumptions/15.md). -/
def mapRecBytes (ns k seq : Nat) (ind16 : Bool) (ents : List (Nat × MapEnt)) : List Byte :=
  let page := pageBytes_ ind16 ents
  let head := leBytes 5 (k + ns * 2 ^ 30) ++ leBytes 7 seq
  head ++ leBytes 4 (crc32 (head ++ page)) ++ page

/-! ### Delta blocks (R241, R242) -/

/-- Bytes of an entry (R242). -/
def DeltaEnt.bytes : DeltaEnt → Nat
  | .single .. => 12
  | .copy .. => 16
  | .run _ _ _ _ _ lens => ceilDiv (11 + lens.length) 4 * 4
  | .state .. => 16

/-- A Run entry as the Single entries that it stands for: consecutive units, records back to back, RAW where the length is 256 (R187,
R242). -/
def DeltaEnt.expand : DeltaEnt → List DeltaEnt
  | .run ns unit member ptype offset lens => (lens.foldl (fun (a : List DeltaEnt × Nat × Nat) l =>
      (a.1 ++ [.single ns a.2.1 member ptype a.2.2 l (decide (l = 256))], a.2.1 + 1, a.2.2 + l)) ([], unit, offset)).1
  | e => [e]

/-- Single entries of consecutive units whose records lie back to back in one page, as Run entries of at most 256 records (R242). -/
def withRuns : List DeltaEnt → List DeltaEnt
  | .single ns unit member ptype offset len raw :: es =>
    let follows (ns' unit' member' ptype' offset' : Nat) : Bool := decide (ns' = ns) && decide (unit' = unit + 1) &&
      decide (member' = member) && decide (ptype' = ptype) && decide (offset' = offset + len)
    match withRuns es with
    | .run ns' unit' member' ptype' offset' lens :: rest =>
      if follows ns' unit' member' ptype' offset' && decide (lens.length < 256) then .run ns unit member ptype offset (len :: lens) :: rest
      else .single ns unit member ptype offset len raw :: .run ns' unit' member' ptype' offset' lens :: rest
    | .single ns' unit' member' ptype' offset' len' raw' :: rest =>
      if follows ns' unit' member' ptype' offset' then .run ns unit member ptype offset [len, len'] :: rest
      else .single ns unit member ptype offset len raw :: .single ns' unit' member' ptype' offset' len' raw' :: rest
    | rest => .single ns unit member ptype offset len raw :: rest
  | e :: es => e :: withRuns es
  | [] => []

/-- Length of a block in 64-byte units: header, entries, CRC (R241). -/
def deltaLen (ents : List DeltaEnt) : Nat := ceilDiv (32 + (ents.map DeltaEnt.bytes).foldl (· + ·) 0 + 4) 64

/-- Bytes of an entry as written: TYPE first, the bit fields from bit 0 (R242). -/
def DeltaEnt.encode : DeltaEnt → List Byte
  | .single ns unit member ptype offset len raw =>
    leBytes 1 1 ++ leBytes 1 ns ++ leBytes 6 (unit + member * 2 ^ 40 + ptype * 2 ^ 45) ++
      leBytes 4 (offset + (len - 1) * 2 ^ 10 + bit raw * 2 ^ 19)
  | .copy ns unit member ptype offset len raw src =>
    leBytes 1 2 ++ leBytes 1 ns ++ leBytes 6 (unit + member * 2 ^ 40 + ptype * 2 ^ 45) ++
      leBytes 4 (offset + (len - 1) * 2 ^ 10 + bit raw * 2 ^ 19) ++ leBytes 4 src
  | .run ns unit member ptype offset lens =>
    padTo (ceilDiv (11 + lens.length) 4 * 4) 0 (leBytes 1 3 ++ leBytes 1 ns ++ leBytes 6 (unit + member * 2 ^ 40 + ptype * 2 ^ 45) ++
      leBytes 2 offset ++ leBytes 1 (lens.length - 1) ++ lens.flatMap (fun l => leBytes 1 (l - 1)))
  | .state ns unit count zero =>
    leBytes 1 4 ++ leBytes 1 ns ++ leBytes 6 unit ++ leBytes 4 count ++ leBytes 1 (if zero then 1 else 2) ++ leBytes 3 0

/-- A block as its bytes (R241). -/
def DeltaBlock.encode (b : DeltaBlock) : List Byte :=
  let body := leBytes 2 0x4A44 ++ leBytes 1 b.kind ++ leBytes 1 0 ++ leBytes 2 b.len ++ leBytes 2 b.ents.length ++
    leBytes 8 b.pos ++ leBytes 8 b.seq ++ leBytes 4 b.stripe ++ leBytes 2 b.row ++ leBytes 2 0 ++
    b.ents.flatMap DeltaEnt.encode
  let body := padTo (b.len * 64 - 4) 0 body
  body ++ leBytes 4 (crc32 body)

/-! ### Packing in a page (R80) -/

/-- Where a record of `len` units goes in the pages of a slice (R80 rules 2 to 4): the cursor after it and its place; none
where `pages` pages do not hold it. -/
def Cursor.place (c : Cursor) (pages len : Nat) : Option (Cursor × Nat × Nat) :=
  let u := if c.begun = 4 then (c.used / 256 + 1) * 256 else c.used
  let b := if c.begun = 4 then 0 else c.begun
  if c.page < pages ∧ u + len ≤ 1024 then
    some ({ page := c.page, used := u + len, begun := if (u + len) / 256 = u / 256 then b + 1 else 0 }, c.page, u)
  else if c.page + 1 < pages ∧ len ≤ 1024 then
    some ({ page := c.page + 1, used := len, begun := if len < 256 then 1 else 0 }, c.page + 1, 0)
  else none

/-- The four records of a 16 KiB unit, consecutively in one page (R80 rule 5): the places, page by page. -/
def Cursor.placeIn (c : Cursor) (pages : Nat) : List Nat → Option (Cursor × List (Nat × Nat))
  | [] => some (c, [])
  | l :: ls => match c.place pages l with
    | none => none
    | some (c', pg, off) => match c'.placeIn pages ls with
      | none => none
      | some (c'', ps) => some (c'', (pg, off) :: ps)

/-- R80 rule 5: as `placeIn`, and if the records do not share a page the rest of the present page is padded first. -/
def Cursor.placeUnit (c : Cursor) (pages : Nat) (lens : List Nat) : Option (Cursor × List (Nat × Nat)) :=
  let one (r : Cursor × List (Nat × Nat)) : Bool := match r.2 with
    | [] => true
    | p :: ps => ps.all (fun q => q.1 = p.1)
  match c.placeIn pages lens with
  | some r => if one r then some r else
      ({ page := c.page + 1, used := 0, begun := 0 } : Cursor).placeIn pages lens
  | none => ({ page := c.page + 1, used := 0, begun := 0 } : Cursor).placeIn pages lens

/-- Payload units left after the cursor. -/
def Cursor.free (c : Cursor) (pages : Nat) : Nat := (pages - c.page) * 1024 - c.used

/-- Units of a record of `bytes` bytes: at most 4,032 bytes compressed, else raw (R68, R75). -/
def recordUnits (frame : Nat) : Nat × Bool :=
  if frame = 0 ∨ 4032 < frame then (256, true) else (ceilDiv frame 16, false)

end Sys2Proof.Machine
end

