-- ==== Sys2Proof/Machine/Image.lean ====
section
/-! DEFINITION. What stands on NAND byte by byte: the compressed record (R69), its encryption (R73, R74), the codeword (R77 to R81),
its LDPC columns (R121, R123), a page, and the die-parity sums (R85). -/

namespace Sys2Proof.Machine

open Sys2Proof

/-! ### Bytes of a granule -/

/-- The 4,096 bytes of a granule. -/
def granuleBytes (d : List Sector) : List Byte :=
  d.flatMap (fun x => (List.range 512).map (fun i => x.extractLsb' (8 * i) 8))

/-- The eight sectors of 4,096 bytes. -/
def sectorsOf (bs : List Byte) : List Sector :=
  (List.range 8).map (fun i => BitVec.ofNat 4096 (ofLeBytes ((bs.drop (512 * i)).take 512)))

/-! ### The form of a compressed record (R69). PRESUMED: the section headers of RFC 8878 (notes/assumptions/59.md). -/

/-- Byte `i` as a number; 0 past the end. -/
def byteNat (bs : List Byte) (i : Nat) : Nat := (bs.getD i 0).toNat

/-- The length of a literals section, header and contents: raw, RLE or Huffman-compressed; none for treeless literals. -/
def literalsLen (bs : List Byte) : Option Nat :=
  let b := byteNat bs 0
  let w := ofLeBytes (bs.take 5)
  let header := match b / 4 % 4 with
    | 1 => 2
    | 3 => 3
    | _ => 1
  let size := match b / 4 % 4 with
    | 1 => w / 16 % 2 ^ 12
    | 3 => w / 16 % 2 ^ 20
    | _ => b / 8
  match b % 4 with
  | 0 => some (header + size)
  | 1 => some (header + 1)
  | 2 => some (match b / 4 % 4 with
      | 2 => 4 + w / 2 ^ 18 % 2 ^ 14
      | 3 => 5 + w / 2 ^ 22 % 2 ^ 18
      | _ => 3 + w / 2 ^ 14 % 2 ^ 10)
  | _ => none

/-- A sequences section has no table in repeat mode and no reserved bit. -/
def sequencesOk (bs : List Byte) : Bool :=
  let b := byteNat bs 0
  let at_ := if b < 128 then 1 else if b < 255 then 2 else 3
  let m := byteNat bs at_
  !bs.isEmpty && (decide (b = 0) ||
    (decide (at_ < bs.length) && decide (m % 4 = 0) && [m / 64, m / 16 % 4, m / 4 % 4].all (fun k => decide (k ≠ 3))))

/-- A frame has the form of R69: descriptor 0x60, content size 4,096, one last block, RLE or compressed. -/
def frameForm (f : List Byte) : Bool :=
  let h := ofLeBytes ((f.drop 3).take 3)
  let block := f.drop 6
  decide (f.take 3 = [0x60, 0x00, 0x0F]) && decide (h % 2 = 1) &&
    (match h / 2 % 4 with
     | 1 => decide (h / 8 = 4096) && decide (block.length = 1)
     | 2 => decide (h / 8 = block.length) && (match literalsLen block with
       | some n => decide (n < block.length) && sequencesOk (block.drop n)
       | none => false)
     | _ => false)

/-- The magic number that makes a record a frame for any conforming decoder. -/
def zstdMagic : List Byte := [0x28, 0xB5, 0x2F, 0xFD]

/-- A record's bytes before encryption: the granule, or the frame padded to 16 bytes with 0x00 (R69, R75). -/
def Rec.plain (r : Rec) : List Byte := if r.raw then granuleBytes r.data else padTo (16 * r.len) 0 r.frame

/-! ### XTS-AES-256 (R73, R74) -/

/-- A block as AES takes it, first byte most significant, and back. -/
def aesBlock (bs : List Byte) : BitVec 128 := BitVec.ofNat 128 (ofLeBytes bs.reverse)
def aesBytes (b : BitVec 128) : List Byte := (leBytes 16 b.toNat).reverse

/-- The key of a record: the media key of its generation, or the injected key of Key Per I/O (R369, R374). -/
def recKey (slot gen : Nat) : BitVec 512 := if slot < 64 then Config.mediaKey gen else BitVec.ofNat 512 gen

/-- The words of a half of an XTS key: the data key in the upper 256 bits, the tweak key in the lower. -/
def keyWords (k : BitVec 512) (tweak : Bool) : List (BitVec 32) :=
  (List.range 8).map (fun i => k.extractLsb' ((if tweak then 224 else 480) - 32 * i) 32)

/-- A tweak times the primitive element, as a little-endian number. -/
def tweakNext (t : Nat) : Nat := t * 2 % 2 ^ 128 ^^^ (if 2 ^ 127 ≤ t then 0x87 else 0)

/-- Sixteen-byte blocks under XTS; `t` is the present tweak. -/
def xtsBlocks (key : List (BitVec 32)) (enc : Bool) : Nat → Nat → List Byte → List Byte
  | 0, _, _ => []
  | n + 1, t, bs =>
    let tw := aesBlock (leBytes 16 t)
    aesBytes (Config.aes key enc (aesBlock (bs.take 16) ^^^ tw) ^^^ tw) ++ xtsBlocks key enc n (tweakNext t) (bs.drop 16)

/-- XTS-AES-256 of a whole record: one data unit whose tweak is the address of the granule's first logical block (R74). -/
def xts (key : BitVec 512) (enc : Bool) (lba : Nat) (bs : List Byte) : List Byte :=
  let t := ofLeBytes (aesBytes (Config.aes (keyWords key true) true (aesBlock (leBytes 16 lba))))
  xtsBlocks (keyWords key false) enc (bs.length / 16) t bs

/-- The first logical block of a granule of a namespace. -/
def Media.tweakLba (m : Media) (ns g : Nat) : Nat := match m.namespaces.get? ns with
  | some n => if n.lba512 then g * 8 else g
  | none => g

/-- A record's ciphertext; a system record is not encrypted (R195). -/
def Media.cipher (m : Media) (r : Rec) : List Byte :=
  if r.kind ≠ 0 then r.plain else xts (recKey r.keySlot r.keyGen) true (m.tweakLba r.ns r.granule) r.plain

/-- The granule that the ciphertext of a record spells: decrypted, and decompressed unless raw. -/
def Media.opened (m : Media) (r : Rec) (bs : List Byte) : Rec :=
  let p := xts (recKey r.keySlot r.keyGen) false (m.tweakLba r.ns r.granule) bs
  if r.raw then { r with data := sectorsOf p } else { r with data := Config.zstdDecode (zstdMagic ++ p), frame := p }

/-! ### Bits and columns (R121) -/

/-- A byte's bits in the opposite order. -/
def revByte (b : Byte) : Nat := (List.range 8).foldl (fun x i => x * 2 + bit (b.getLsbD i)) 0

/-- The number whose bit k is bit 7 − (k mod 8) of byte k div 8. -/
def bitsNat : List Byte → Nat
  | [] => 0
  | b :: bs => revByte b + 256 * bitsNat bs

/-- The first `n` bytes that such a number spells. -/
def natBits : Nat → Nat → List Byte
  | 0, _ => []
  | n + 1, x => BitVec.ofNat 8 (revByte (BitVec.ofNat 8 x)) :: natBits n (x / 256)

/-- Bits packed into bytes, bit c into bit 7 − (c mod 8) of byte c div 8 (R111). -/
def packBits (bs : List Bool) : List Byte :=
  (List.range (bs.length / 8)).map (fun i =>
    BitVec.ofNat 8 (((bs.drop (8 * i)).take 8).foldl (fun x b => x * 2 + bit b) 0))

/-- The 131 information columns of codeword bytes 4 to 4179; the last 128 bits are shortened. -/
def infoCols (bs : List Byte) : List Nat := (List.range 131).map (fun j => bitsNat ((bs.drop (32 * j)).take 32))

/-- The stored parity bits: bits 160 to 255 of P0, then P1 to P14, in 460 bytes. -/
def parityBytes (par : List Nat) : List Byte :=
  natBits 460 (par.getD 0 0 / 2 ^ 160 + 2 ^ 96 * (par.drop 1).foldr (fun p x => p + 2 ^ 256 * x) 0)

/-- The parity columns of the stored bytes; the punctured bits are 0. -/
def parityCols (bs : List Byte) : List Nat :=
  let x := bitsNat bs
  (x % 2 ^ 96 * 2 ^ 160) :: (List.range 14).map (fun k => x / 2 ^ (96 + 256 * k) % 2 ^ 256)

/-! ### The codeword (R77 to R81, R113) -/

/-- A codeword from its pilot bytes and its scrambled meta and payload: mark, pilots, 4,144 bytes, LDPC parity (R77, R123). -/
def codeword (pilots body : List Byte) : List Byte :=
  frameMark ++ pilots ++ body ++ parityBytes (ldpcParity (infoCols (pilots ++ body)))

/-- The pilot bytes that the packer writes for a page (R113). -/
def Media.pilotBytes (m : Media) (die block page cw : Nat) : List Byte :=
  match m.profile with
  | none => List.replicate 32 0
  | some p => packBits (pilotBits (p.coding.getD (page % max 1 m.types) [])
      (pilotStates (if p.qlc then 16 else 8) die block (page / max 1 m.types) cw))

/-- Records in the order of their places. -/
def byPlace (rs : List Rec) : List Rec := rs.mergeSort (fun a b => decide (a.offset ≤ b.offset))

/-- The directory entries of the records that begin in a codeword (R79). -/
def dirOf (rs : List Rec) (cw : Nat) : List DirEnt :=
  (rs.filter (fun r => decide (r.offset / 256 = cw))).map (fun r =>
    { granule := r.granule, nsx := if r.kind ≠ 0 then r.kind else r.ns, offset := r.offset % 256, lenM1 := r.len - 1 })

/-- CONT_LEN: the units that a record of the codeword before has in this one (R78). -/
def contLen (rs : List Rec) (cw : Nat) : Nat :=
  (rs.filter (fun r => decide (r.offset < 256 * cw) && decide (256 * cw < r.offset + r.len))).foldl
    (fun x r => max x (r.offset + r.len - 256 * cw)) 0

/-- PAD: the payload ends with padding (R78). -/
def padEnds (rs : List Rec) (cw : Nat) : Bool :=
  !(rs.any (fun r => decide (r.offset < 256 * (cw + 1)) && decide (256 * (cw + 1) ≤ r.offset + r.len)))

/-- The payload run of a page, 16,384 bytes: the ciphertexts at their places, 0x00 between and after them (R80). -/
def Media.payload_ (m : Media) (rs : List Rec) : List Byte :=
  padTo 16384 0 ((byPlace rs).foldl (fun bs r => padTo (16 * r.offset) 0 bs ++ m.cipher r) [])

/-- Meta and payload of a codeword before scrambling. -/
def Media.plainBody (m : Media) (seq : Nat) (rs : List Rec) (cw : Nat) : List Byte :=
  let pay := ((m.payload_ rs).drop (4096 * cw)).take 4096
  metaBytes seq (contLen rs cw) (padEnds rs cw) (dirOf (byPlace rs) cw) pay ++ pay

/-- Meta and payload of a data codeword as stored: scrambled, unless the slice bypassed that (R81). -/
def Media.dataBody (m : Media) (die block page : Nat) (h : PageHead) (rs : List Rec) (cw : Nat) : List Byte :=
  let b := m.plainBody h.seq rs cw
  if h.bypass then b else scramble (seedOr (scrSeed die block page cw)) b

/-! ### Members of a row (R82, R84, R85) -/

/-- The members that can hold parity (R84, R86, R174). -/
def Stripe.parityMembers (t : Stripe) : List Nat :=
  let ds := t.members.map (·.1)
  match t.rotation with
  | .outside slices => ds.filter (fun d => !slices.contains (sliceOf d))
  | _ => ds

/-- The parity die of row w. -/
def Stripe.parityDie (t : Stripe) (w : Nat) : Option Nat :=
  let ps := t.parityMembers
  if ps = [] then none else ps[w % ps.length]?

/-- The key of a page of a die. -/
def pageKey (die block page : Nat) : Nat := (die * 8192 + block) * 4096 + page

/-- The records of a page of a complete row. -/
def Media.pageRecs (m : Media) (die block page : Nat) : List Rec := (m.nand.get? (pageKey die block page)).getD []

/-- The records of a list that lie on a page. -/
def onPageOf (rs : List Rec) (die block page : Nat) : List Rec :=
  rs.filter (fun r => decide (r.die = die) && decide (r.block = block) && decide (r.page = page) && decide (0 < r.len))

/-- The stripe that holds a block. -/
def Media.stripeOf (m : Media) (die block : Nat) : Option (Nat × Stripe) :=
  m.stripes.find? (fun e => e.2.members.contains (die, block))

/-- Byte by byte exclusive or. -/
def xorBytes (a b : List Byte) : List Byte := List.zipWith (· ^^^ ·) a b

/-- The sum of bodies: bytes 36 to 4179 of the codewords at one position of a row (R85). -/
def sumBodies (bs : List (List Byte)) : List Byte := bs.foldl xorBytes (List.replicate 4144 0)

/-- The body of the codeword that a row's members other than `die` sum to, from the records of the row (R85, R133). -/
def Media.sumRest (m : Media) (t : Stripe) (h : PageHead) (rs : List Rec) (die page cw : Nat) : List Byte :=
  sumBodies ((t.members.filter (fun x => decide (x.1 ≠ die) && decide (t.parityDie (page / max 1 m.types) ≠ some x.1))).map (fun x =>
    m.dataBody x.1 x.2 page h (onPageOf rs x.1 x.2 page) cw))

/-- A die-parity accumulator's working sum for a page type and codeword position of an open row, of what is packed (R85, R86). -/
def Media.rowSum (m : Media) (r type cw : Nat) : List Byte :=
  match m.rows.get? r with
  | none => []
  | some row => match m.stripes.get? row.stripe with
    | none => []
    | some t => m.sumRest t { seq := r } row.recs ((t.parityDie row.w).getD 1024) (row.w * m.types + type) cw

/-- Rows whose parity sums a slice's accumulator holds: those not closed whose parity member lies in the slice (WRP_ACC_STAT). -/
def Media.openRows (m : Media) (sl : Fin 8) : Nat :=
  (m.rows.filter (fun e => !e.2.closed && (match (m.stripes.get? e.2.stripe).bind (fun t => t.parityDie e.2.w) with
    | some d => decide (sliceOf d = sl)
    | none => false))).length

/-! ### Pages -/

/-- The body of a codeword of a page under a row's head and records; a parity page holds the sum (R85). -/
def Media.bodyOf (m : Media) (die block page : Nat) (h : PageHead) (rs : List Rec) (cw : Nat) : List Byte :=
  if h.parity then
    match m.stripeOf die block with
    | some t => m.sumRest t.2 h rs die page cw
    | none => List.replicate 4144 0
  else m.dataBody die block page h (onPageOf rs die block page) cw

/-- A page: codeword i at page byte 4,640 · i (R77). -/
def Media.pageImage (m : Media) (die block page : Nat) (h : PageHead) (rs : List Rec) : List Byte :=
  (List.range 4).flatMap (fun cw => codeword (m.pilotBytes die block page cw) (m.bodyOf die block page h rs cw))

/-- The records of the row that a page was programmed in: those of its row while that is not complete, else those on NAND of the
row's wordline. -/
def Media.rowRecs (m : Media) (die block page : Nat) (h : PageHead) : List Rec :=
  match m.rows.get? h.seq with
  | some row => row.recs
  | none => match m.stripeOf die block with
    | some t => t.2.members.flatMap (fun x => m.pageRecs x.1 x.2 page)
    | none => m.pageRecs die block page

/-- The body of a codeword as it stands on NAND; none where the page is not programmed. -/
def Media.storedBody (m : Media) (die block page cw : Nat) : Option (List Byte) :=
  (m.heads.get? (pageKey die block page)).map (fun h => m.bodyOf die block page h (m.rowRecs die block page h) cw)

/-- A codeword as it stands on NAND. -/
def Media.storedCw (m : Media) (die block page cw : Nat) : Option (List Byte) :=
  (m.storedBody die block page cw).map (codeword (m.pilotBytes die block page cw))

/-- The CRC of a plain body holds (R78, R105). -/
def crcHolds (body : List Byte) : Bool :=
  decide (ofLeBytes ((body.drop 44).take 4) = crc32 (body.take 44 ++ body.drop 48))

/-- A body with the scrambling taken off. -/
def Media.unscrambled (m : Media) (die block page cw : Nat) (body : List Byte) : List Byte :=
  let bypass : Bool := (m.heads.get? (pageKey die block page)).any (·.bypass)
  if bypass then body else scramble (seedOr (scrSeed die block page cw)) body

/-- The directory of a plain body (R78, R79). -/
def bodyDir (body : List Byte) : List DirEnt :=
  (List.range (byteNat body 8 % 8)).map (fun i => DirEnt.decode (ofLeBytes ((body.drop (12 + 8 * i)).take 8)))

/-- The codeword that step 6 rebuilds: the sum of the other members' bodies, descrambled with the codeword's own seed, checked
(R133). -/
def Media.rebuiltOk (m : Media) (die block page cw : Nat) : Bool :=
  match m.stripeOf die block with
  | none => false
  | some t =>
    let others := (t.2.members.filter (fun x => x.1 ≠ die)).filterMap (fun x => m.storedBody x.1 x.2 page cw)
    crcHolds (m.unscrambled die block page cw (sumBodies others))

end Sys2Proof.Machine
end

