-- ==== Sys2Proof/Machine/Signal.lean ====
section
/-! DEFINITION. What the read channel makes of a NAND read's bytes: the transferred window (R104), the frame-mark search (R106 to
R109), pilots and estimates (R107, R111 to R114), hard bits and LLRs (R124, R126, R148), neighbour levels and tables (R127,
R128), the split search of step 5 (R132), the tracking entry (R116, R117). -/

namespace Sys2Proof.Machine

open Sys2Proof

/-! ### The window (R104) -/

/-- Bytes of a page and of a codeword (R77). -/
def pageBytes : Nat := 18560
def cwBytes : Nat := 4640

/-- First page byte and length of the transfer of some codewords of a page, a run with 8 guard bytes at each end, clipped at the
page ends (R104). -/
def windowOf (cws : List Nat) : Nat × Nat :=
  let lo := cws.foldl min 3
  let hi := cws.foldl max 0
  let a := cwBytes * lo - 8
  (a, min pageBytes (cwBytes * (hi + 1) + 8) - a)

/-- `n` bytes from page byte `a` of a window that begins at page byte `start`; none where the window has no such byte. -/
def cut (win : List Byte) (start : Nat) (a : Int) (n : Nat) : List (Option Byte) :=
  let pre := min n ((start : Int) - a).toNat
  padTo n none (List.replicate pre none ++ ((win.drop (a - start).toNat).take (n - pre)).map some)

/-- The codeword's bytes under an alignment; the bytes shifted out of a split are erasures (R132). -/
def received (win : List Byte) (start cw : Nat) (al : Align) : List (Option Byte) :=
  let a : Int := (cwBytes * cw : Nat) + al.shift
  match al.split with
  | none => cut win start a cwBytes
  | some (k, d) =>
    let b := 256 * k
    let gap := if d < 0 then d.natAbs else 0
    cut win start a b ++ List.replicate gap none ++ cut win start (a + (b + gap : Nat) + d) (cwBytes - b - gap)

/-- A byte of a hard-decision word; an erasure reads 0x00 (R147). -/
def hardByte (b : Option Byte) : Byte := b.getD 0

/-! ### The frame mark (R106 to R109) -/

/-- Ones of a byte. -/
def ones (b : Byte) : Nat := (List.range 8).foldl (fun x i => x + bit (b.getLsbD i)) 0

/-- Bits in which received bytes differ from expected ones; none where a byte is missing. -/
def differing (rx : List (Option Byte)) (exp : List Byte) : Option Nat :=
  if rx.all Option.isSome then some (((List.zipWith (fun a b => ones (hardByte a ^^^ b)) rx exp)).foldl (· + ·) 0) else none

/-- Pilot correlation: pilot bits that equal their expected values (R107). -/
def correlation (rx : List (Option Byte)) (exp : List Byte) : Nat :=
  (List.zipWith (fun (a : Option Byte) b => match a with
    | some x => 8 - ones (x ^^^ b)
    | none => 0) rx exp).foldl (· + ·) 0

/-- The initial syndrome weight of a hard-decision word (R108). DEDUCED: an erased bit counts as 0 (notes/assumptions/32.md). -/
def wordWeight (cw : List (Option Byte)) : Nat :=
  let bs := cw.map hardByte
  syndWeight (infoCols ((bs.drop 4).take 4176)) (parityCols (bs.drop 4180))

/-- A candidate position: its offset and the syndrome weight there. -/
structure MarkCand where
  offset : Int
  weight : Nat
deriving DecidableEq, Repr

/-- The accepted offsets of a search up to `lim` bytes from the nominal start, within the page (R106, R107, R109). -/
def acceptedMarks (win : List Byte) (start cw lim : Nat) (pilots : List Byte) : List Int :=
  ((List.range (2 * lim + 1)).map (fun i => (i : Int) - lim)).filter (fun o =>
    let a : Int := (cwBytes * cw : Nat) + o
    decide (0 ≤ a) && decide (a + 4 ≤ pageBytes) && (match differing (cut win start a 4) frameMark with
      | some d => decide (d ≤ 4) && decide (224 ≤ correlation (cut win start (a + 4) 32) pilots)
      | none => false))

/-- One accepted candidate goes before another (R108): lower weight, nearer the nominal offset, lower offset. -/
def MarkCand.before (a b : MarkCand) : Bool :=
  if a.weight ≠ b.weight then decide (a.weight < b.weight)
  else if a.offset.natAbs ≠ b.offset.natAbs then decide (a.offset.natAbs < b.offset.natAbs)
  else decide (a.offset < b.offset)

/-- The candidate that wins. -/
def bestMark (cs : List MarkCand) : Option MarkCand :=
  cs.foldl (fun (b : Option MarkCand) c =>
    match b with
    | none => some c
    | some x => if MarkCand.before c x then some c else some x) none

/-- The offset that wins among accepted ones. -/
def markChosen (win : List Byte) (start cw : Nat) (os : List Int) : Option Int :=
  match os with
  | [] => none
  | [o] => some o
  | os => (bestMark (os.map (fun o => ⟨o, wordWeight (received win start cw { shift := o })⟩))).map (·.offset)

/-! ### The search of step 5 (R132) -/

/-- The 288 split shifts. -/
def splits : List (Nat × Int) :=
  (List.range 18).flatMap (fun k => ((List.range 17).filter (· ≠ 8)).map (fun d => (k + 1, (d : Int) - 8)))

/-- The alignment that step 5 chooses: the accepted mark of the wider search, or the nominal one, and the split of lowest weight if
that is lower than the weight without a split (R132 items 1 to 3). -/
def searchAlign (win : List Byte) (cw : Nat) (pilots : List Byte) : Align :=
  let o := (markChosen win 0 cw (acceptedMarks win 0 cw 64 pilots)).getD 0
  let w := wordWeight (received win 0 cw { shift := o })
  if w = 0 then { shift := o }
  else
    let best := splits.foldl (fun (b : Nat × Option (Nat × Int)) s =>
      let x := wordWeight (received win 0 cw { shift := o, split := some s })
      if x < b.1 then (x, some s) else b) (w, none)
    { shift := o, split := best.2 }

/-! ### Rounding and estimates (R114, R117) -/

/-- A quotient rounded to the nearest whole number, ties away from zero. -/
def roundDiv (x : Int) (n : Nat) : Int :=
  let q : Int := ((2 * x.natAbs + n) / (2 * n) : Nat)
  if x < 0 then -q else q

/-- An offset rounded to the nearest whole step, in 1/64 steps (R114). -/
def roundStep (x : Int) : Int := 64 * roundDiv x 64

/-- The estimate of one reference from cells counted in the states beside it, `n` of them (R114, R117), in 1/64 steps. -/
def estimate (acqStep acqMax n up down : Nat) : Int :=
  let e := if n = 0 then 0 else roundDiv (((up : Int) - down) * acqStep * 64) n
  let lim : Int := acqMax * 64
  max (-lim) (min lim e)

/-- Cells beside a reference (R114, R117): misread upwards from the state below it, misread downwards from the state above it, and
the cells of both states. -/
structure RefCount where
  up : Nat := 0
  down : Nat := 0
  cells : Nat := 0
deriving DecidableEq, Repr

def RefCount.add (a b : RefCount) : RefCount := ⟨a.up + b.up, a.down + b.down, a.cells + b.cells⟩

/-- Bits of bytes in the order of R111; an erased byte has none. -/
def bitsOf (bs : List (Option Byte)) : List (Option Bool) :=
  bs.flatMap (fun b => (List.range 8).map (fun i => b.map (fun x => x.getLsbD (7 - i))))

/-- Several rows of values as columns, `n` of them. -/
def columns {α : Type} (n : Nat) (ws : List (List α)) : List (List α) :=
  ws.foldr (fun w acc => List.zipWith List.cons w acc) (List.replicate n [])

/-- The counts of a reference over cells of known state, their expected bits and the bits read. -/
def countRef (b : Nat) (states : List Nat) (exp : List Bool) (rx : List (Option Bool)) : RefCount :=
  (states.zip (exp.zip rx)).foldl (fun c x =>
    let miss := decide (x.2.2 = some (!x.2.1))
    if x.1 + 1 = b then ⟨c.up + bit miss, c.down, c.cells + 1⟩
    else if x.1 = b then ⟨c.up, c.down + bit miss, c.cells + 1⟩
    else c) {}

/-- The coding of a page. -/
def Media.codingOf (m : Media) (page : Nat) : List Bool := match m.profile with
  | some p => p.coding.getD (page % max 1 m.types) []
  | none => []

/-- States of a cell. -/
def Media.states (m : Media) : Nat := if m.qlc then 16 else 8

/-- The pilot counts of each reference of a page, from a received codeword (R111, R114). -/
def Media.pilotCounts (m : Media) (die block page cw : Nat) (rx : List (Option Byte)) : List RefCount :=
  let st := pilotStates m.states die block (page / max 1 m.types) cw
  let exp := pilotBits (m.codingOf page) st
  (refsOf (m.codingOf page)).map (fun b => countRef b st exp (bitsOf ((rx.drop 4).take 32)))

/-- The estimates of a received codeword's references from its pilots (R114). -/
def Media.pilotEstimates (m : Media) (l : Ladder) (rx : List (Option Byte)) : List Int :=
  (m.pilotCounts l.die l.block l.page l.cw rx).map (fun c => estimate l.acqStep l.acqMax (if m.qlc then 32 else 64) c.up c.down)

/-- The state that the decoded bits of a cell's pages name. -/
def Media.stateOf (m : Media) (bits : List Bool) : Nat := match m.profile with
  | some p => ((List.range m.states).find? (fun s => p.coding.map (fun c => c.getD s false) = bits)).getD 0
  | none => 0

/-- Every page of a wordline has been recovered within the last 10 ms (R117). -/
def Media.wordlineFresh (m : Media) (now die block w : Nat) : Bool :=
  (List.range m.types).all (fun ty => (List.range 4).all (fun cw =>
    match m.recent.get? (pageKey die block (w * m.types + ty) * 4 + cw) with
    | some t => decide (now ≤ t + 1000000)
    | none => false))

/-- The data-cell counts of each reference of a page (R117): the cells of the codeword beside its pilots, their states decided by
the decoded data of every page of the wordline. -/
def Media.dataCounts (m : Media) (die block page cw : Nat) (rx : List (Option Byte)) : List RefCount :=
  let w := page / max 1 m.types
  let words := (List.range m.types).map (fun ty =>
    (bitsOf (((m.storedCw die block (w * m.types + ty) cw).getD []).drop 36 |>.map some)).map (fun b => b.getD false))
  let st := (columns (8 * (cwBytes - 36)) words).map m.stateOf
  let exp := pilotBits (m.codingOf page) st
  (refsOf (m.codingOf page)).map (fun b => countRef b st exp (bitsOf (rx.drop 36)))

/-- The estimates of a recovered codeword that its tracking entry takes (R117). -/
def Media.trackEstimates (m : Media) (now : Nat) (l : Ladder) : List Int :=
  let rx := received l.hard l.start l.cw l.align
  let pil := m.pilotCounts l.die l.block l.page l.cw rx
  let cs := if m.wordlineFresh now l.die l.block (l.page / max 1 m.types) then
      List.zipWith RefCount.add pil (m.dataCounts l.die l.block l.page l.cw rx) else pil
  cs.map (fun c => estimate l.acqStep l.acqMax c.cells c.up c.down)

/-! ### LLRs (R124, R126 to R128, R148) -/

/-- How near the nearest reference a bit lies, from the agreement of the reads around m: 3 where all agree, 2 where only an outer
one differs, 1 where an inner one differs. -/
def closeness (mid : Bool) (inner outer : List (Option Bool)) : Nat :=
  if inner.any (fun b => decide (b ≠ some mid)) then 1
  else if outer.any (fun b => decide (b ≠ some mid)) then (if outer = [] then 3 else 2) else 3

/-- The LLR of a bit from its reads: positive where 0 is more likely. With inner reads alone the values are ±1 and ±3 (R126). -/
def llrOf (mid : Option Bool) (inner outer : List (Option Bool)) : Int :=
  match mid with
  | none => 0
  | some b =>
    if (inner ++ outer).any Option.isNone then 0
    else
      let k : Int := closeness b inner outer
      if b then -k else k

/-- The region of a bit (R128). DEDUCED: from surely 0 to surely 1, which the five reads tell of the nearest reference
(notes/assumptions/32.md). -/
def regionOfBit (b : Bool) (inner outer : List (Option Bool)) : Nat :=
  if b then 2 + closeness b inner outer else 3 - closeness b inner outer

/-- The level of a state (R127). -/
def cellLevel (qlc : Bool) (s : Nat) : Nat :=
  if qlc then (if s = 0 then 0 else if s ≤ 5 then 1 else if s ≤ 10 then 2 else 3)
  else if s = 0 then 0 else if s ≤ 2 then 1 else if s ≤ 5 then 2 else 3

/-- The aggressor class of a sum of levels (R127). -/
def classOf (a : Nat) : Nat := if a ≤ 2 then 0 else if a ≤ 5 then 1 else if a ≤ 8 then 2 else 3

/-- The classes of cells in turn from their own levels on wordline n + 1; a neighbour beyond the end is level 0 (R127). -/
def classes : Nat → List Nat → List Nat
  | _, [] => []
  | p, x :: xs => classOf (2 * x + p + (xs.head?.getD 0)) :: classes x xs

/-- Values of bits in the order of the profile's cells: `cells` gives, period by period, the cell of each bit (R111). -/
def toCells (cells : List Nat) (xs : List Nat) : List Nat :=
  if cells = [] then xs
  else
    let a := xs.toArray
    let n := cells.length
    (List.range xs.length).map (fun c => a.getD (c / n * n + cells.idxOf (c % n)) 0)

/-- Values of cells in the order of the bits. -/
def fromCells (cells : List Nat) (xs : List Nat) : List Nat :=
  if cells = [] then xs
  else
    let a := xs.toArray
    let n := cells.length
    (List.range xs.length).map (fun k => a.getD (k / n * n + cells.getD (k % n) (k % n)) 0)

/-- The neighbour map of the profile. -/
def Media.cells (m : Media) : List Nat := match m.profile with
  | some p => p.cells
  | none => []

/-- The aggressor class of each bit of a ladder's codeword, from the pages of wordline n + 1; class 0 where they were not read
(R127, R129). -/
def Media.classesOf (m : Media) (l : Ladder) : List Nat :=
  if l.nbrs = [] then List.replicate (8 * cwBytes) 0
  else
    let lo := l.start
    let n := (l.nbrs.map List.length).foldl max 0
    let words := l.nbrs.map (fun w => bitsOf (padTo n none (w.map some)))
    let lv := (columns (8 * n) words).map (fun bs =>
      if bs.any Option.isNone then 0 else cellLevel m.qlc (m.stateOf (bs.map (fun b => b.getD false))))
    let page := List.replicate (8 * lo) 0 ++ lv
    let cl := fromCells m.cells (classes 0 (toCells m.cells page))
    let a : Int := (cwBytes * l.cw : Nat) + l.align.shift
    padTo (8 * cwBytes) 0 (cl.drop (8 * a.toNat))

/-- The reads of a ladder that a step combines: at m ± δ, and at m ± 2δ from step 3 on (R130). -/
def Ladder.inner (l : Ladder) (step : Nat) : List (List Byte) := if 2 ≤ step then l.softs.take 2 else []
def Ladder.outer (l : Ladder) (step : Nat) : List (List Byte) := if 3 ≤ step then (l.softs.drop 2).take 2 else []

/-- The bits of several reads of a codeword, cell by cell. -/
def Ladder.bitCols (l : Ladder) (ws : List (List Byte)) : List (List (Option Bool)) :=
  columns (8 * cwBytes) (ws.map (fun w => bitsOf (received w l.start l.cw l.align)))

/-- The LLR of each bit of a ladder's codeword at a step: ±1 for hard bits, then by the reads, and at step 4 from the neighbour table
by class and region (R124, R126, R128). -/
def Media.llrs (m : Media) (l : Ladder) (step : Nat) : List Int :=
  let mid := bitsOf (received l.hard l.start l.cw l.align)
  if step < 2 then mid.map (fun b => match b with
    | none => 0
    | some x => if x then -1 else 1)
  else
    let ins := l.bitCols (l.inner step)
    let outs := l.bitCols (l.outer step)
    if step < 4 then (mid.zip (ins.zip outs)).map (fun x => llrOf x.1 x.2.1 x.2.2)
    else (mid.zip ((ins.zip outs).zip (m.classesOf l))).map (fun x => match x.1 with
      | none => 0
      | some b => l.naTab.getD (x.2.2 * 6 + regionOfBit b x.2.1.1 x.2.1.2) 0)

/-- The inputs of a decoder (R124): information bits, shortened bits at +3, punctured bits at 0, stored parity bits. -/
def decoderInput (llrs : List Int) : List Int :=
  (llrs.drop 32).take 33408 ++ List.replicate 128 3 ++ List.replicate 160 0 ++ llrs.drop 33440

/-- The exported LLRs: bits [7:4] of a byte for even k, [3:0] for odd k, two's complement (R148). -/
def llrBytes : List Int → List Byte
  | a :: b :: xs => BitVec.ofNat 8 ((BitVec.ofInt 4 a).toNat * 16 + (BitVec.ofInt 4 b).toNat) :: llrBytes xs
  | _ => []

/-! ### The neighbour table (R128) -/

/-- round(ln r / 1.5) clamped to ±3 for r = (n0 + 1) / (n1 + 1): the powers of e that bound the steps, in 10^-30. -/
def lnSteps : List Nat :=
  [2117000016612674668545369818371, 9487735836358525720550369044512, 42521082000062783055518172621604]

/-- The entry of a class and region (R128). -/
def tableEntry (n0 n1 : Nat) : Int :=
  let up (a b : Nat) : Int := ((lnSteps.filter (fun k => decide (k * (b + 1) ≤ (a + 1) * 10 ^ 30))).length : Nat)
  up n0 n1 - up n1 n0

/-- The table in force for a page type under a tracking entry: the estimated one, or the profile's (R128). -/
def Media.naTable (m : Media) (key page : Nat) : List Int :=
  let ty := page % max 1 m.types
  match (m.neighbour.get? (key * 4 + ty)).bind (fun (n : Neighbour) => n.table) with
  | some t => t
  | none => match m.profile with
    | some p => p.llr.getD ty []
    | none => []

/-- Decoded bits counted by class and region (R128). -/
def Neighbour.tally (n : Neighbour) (cells : List (Nat × Bool)) : Neighbour :=
  cells.foldl (fun (n : Neighbour) c =>
    if c.2 then { n with ones := n.ones.modify c.1 (· + 1) } else { n with zeros := n.zeros.modify c.1 (· + 1) }) n

/-- One more codeword; after 64 the table is estimated again and counting starts anew (R128). -/
def Neighbour.step (n : Neighbour) (cells : List (Nat × Bool)) : Neighbour :=
  let n := n.tally cells
  if n.count < 63 then { n with count := n.count + 1 }
  else { table := some (List.zipWith tableEntry n.zeros n.ones) }

/-- The class and region of each bit of a recovered codeword with its decoded value (R128). -/
def Media.naCells (m : Media) (l : Ladder) : List (Nat × Bool) :=
  let mid := bitsOf (received l.hard l.start l.cw l.align)
  let word := bitsOf (((m.storedCw l.die l.block l.page l.cw).getD []).map some)
  let cls := if l.step = 4 then m.classesOf l else List.replicate (8 * cwBytes) 0
  ((mid.zip word).zip (((l.bitCols (l.inner 3)).zip (l.bitCols (l.outer 3))).zip cls)).filterMap (fun x =>
    match x.1.1, x.1.2 with
    | some b, some v => some (x.2.2 * 6 + regionOfBit b x.2.1.1 x.2.1.2, v)
    | _, _ => none)

/-! ### The tracking entry (R116 to R118) -/

/-- The key of the tracking entry of a wordline: die, group of 64 blocks, zone. -/
def Media.trackKey (m : Media) (die block w : Nat) : Nat := die * 1024 + block / 64 * 8 + w * 8 / max 1 m.wordlines

/-- OFS[1..15] from offsets in 1/64 steps: I16, those past the list 0. -/
def ofsOf (xs : List Int) : Tbl 15 (BitVec 16) := Vector.ofFn (fun i : Fin 15 => BitVec.ofInt 16 (xs.getD i.val 0))

/-- The offset of a reference in an entry. -/
def Track.at_ (t : Track) (b : Nat) : Int := if h : 1 ≤ b ∧ b ≤ 15 then t.ofs[b - 1].toInt else 0

/-- The entry that a key starts with: the profile's default, stale. -/
def Media.trackDefault (m : Media) : Track :=
  { ofs := ofsOf (match m.profile with
      | some p => if p.qlc then p.offsets else p.offsets.take 7
      | none => []) }

def Media.trackAt (m : Media) (k : Nat) : Track := (m.track.get? k).getD m.trackDefault

/-- The 48 bytes of an entry (R116). -/
def Track.bytes (t : Track) : List Byte :=
  t.ofs.toList.flatMap (fun x => leBytes 2 x.toNat) ++ leBytes 4 t.opsec.toNat ++ leBytes 2 t.updates.toNat ++
    leBytes 1 (bit t.stale + 2 * bit t.init) ++ leBytes 11 0

/-- The offsets of the references of a page that a step-0 read uses (R114, R119): tracked, or the profile's where
TRACK_EN is 0. -/
def Media.startOffsets (m : Media) (die block w : Nat) (refs : List Nat) : List Int :=
  let t := if m.rdc[sliceOf die].trackEn then m.trackAt (m.trackKey die block w) else m.trackDefault
  refs.map (fun b => roundStep (t.at_ b))

end Sys2Proof.Machine
end

