-- ==== Sys2Proof/Machine/Array.lean ====
section
/-! DEFINITION. The die queues and the channel sequencer (R156 to R160, R165, R166): which array operation a die runs
next, the transfers on the channel's bus, suspension, and the limits on operations in progress. -/

namespace Sys2Proof.Machine

open Sys2Proof

def State.setMedia (s : State) (f : Media → Media) : State := { s with media := f s.media }

def Media.setDie (m : Media) (d : Nat) (f : DieSt → DieSt) : Media := { m with dies := m.dies.put d (f (m.die d)) }

def State.setDie (s : State) (d : Nat) (f : DieSt → DieSt) : State := s.setMedia (fun m => m.setDie d f)

def State.setFch (s : State) (c : Fin 64) (f : Fch → Fch) : State := s.setMedia (fun m => { m with fch := m.fch.upd c f })

/-- The chip enable of a die. -/
def ceOf (die : Nat) : Fin 4 := Fin.ofNat 4 (posOf die / 4)

/-! ### The bus of a channel (R158) -/

/-- The priority of a transfer. -/
def Xfer.prio : Xfer → Nat
  | .cmd .. => 1
  | .read .. => 2
  | .page .. | .confirm .. => 3
  | .erase .. => 4
  | .probe .. => 5

/-- The die that a transfer concerns. -/
def Xfer.die : Xfer → Nat
  | .cmd d _ => d
  | .read d _ _ _ => d
  | .page d _ _ _ => d
  | .confirm d _ _ => d
  | .erase d _ => d
  | .probe d .. => d

/-- Bus time in 10 ns ticks, at most that of R158: commands 0.1 µs, a page 3.87 µs at 4800 MT/s, a probe 1.0 µs. -/
def Xfer.ticks (rate : Nat) : Xfer → Nat
  | .page .. => ceilDiv (387 * 4800) (max 1 rate)
  | .probe .. => 100
  | _ => 10

/-- What a transfer puts on the channel. -/
def Xfer.outs : Xfer → List Output
  | .cmd d op => [.nand d op 0 0]
  | .read _ _ _ os => os
  | .page d b p bs => [.nandData d b p bs]
  | .confirm d b w => [.nand d 1 b w]
  | .erase d b => [.nand d 2 b 0]
  | .probe d h w => .nand d 7 h 0 :: (if w then [.nand d 7 h 1] else [])

/-- The first waiting transfer of the best priority. -/
def bestXfer (q : List Xfer) : Option Xfer :=
  q.foldl (fun (b : Option Xfer) x => match b with
    | none => some x
    | some y => if x.prio < y.prio then some x else some y) none

/-- The transfer that a free bus takes: the oldest one if it has waited 50 µs, else the first of the best priority. -/
def Fch.nextXfer (f : Fch) : Option Xfer := if f.busLimit then f.bus.head? else bestXfer f.bus

/-- A free bus takes its next transfer. -/
def State.busGo (s : State) (c : Fin 64) : State :=
  let f := s.media.fch[c]
  match f.busNow, f.nextXfer with
  | none, some x =>
    (s.setFch c (fun f => { f with
      busNow := some (x, x.ticks (if f.rateNow = 0 then 4800 else f.rateNow)), bus := f.bus.erase x, busLimit := false })).emits x.outs
  | _, _ => s

/-- Transfers wait for the bus of a die's channel. -/
def State.transfer (s : State) (d : Nat) (xs : List Xfer) : State :=
  (s.setFch (chOf d) (fun f => { f with bus := f.bus ++ xs })).busGo (chOf d)

/-- `n` ticks pass on a channel's bus: its transfer ends when its time is over, and the next one begins. -/
def State.busTick (s : State) (n : Nat) (c : Fin 64) : State :=
  match s.media.fch[c].busNow with
  | none => s
  | some (x, t) =>
    if n < t then s.setFch c (fun f => { f with busNow := some (x, t - n) })
    else (s.setFch c (fun f => { f with busNow := none })).busGo c

/-- An event of a die shows that its waiting transfers have taken place: they are put on the channel, in their order, ahead of
the ticks that the model counts (DESIGN CHOICE, notes/assumptions/3.md). -/
def State.busPast (s : State) (d : Nat) : State :=
  let f := s.media.fch[chOf d]
  let mine (x : Xfer) : Bool := decide (x.die = d)
  if !(f.bus.any mine || f.busNow.any (fun x => mine x.1)) then s
  else
    ((s.setFch (chOf d) (fun f => { f with
      bus := f.bus.filter (fun x => !mine x)
      busNow := if f.busNow.any (fun x => mine x.1) then none else f.busNow })).emits
      ((f.bus.filter mine).flatMap Xfer.outs)).busGo (chOf d)

/-- Transfers of dies go from a channel's bus. -/
def State.busDrop (s : State) (c : Fin 64) (gone : Nat → Bool) : State :=
  (s.setFch c (fun f => { f with
    bus := f.bus.filter (fun x => !gone x.die)
    busNow := if f.busNow.any (fun x => gone x.1.die) then none else f.busNow })).busGo c

/-! ### The die queue (R156, R157) -/

def QOp.isRead : QOp → Bool
  | .readOp .. => true
  | _ => false

/-- Reads that use the entries kept for host reads, map-page reads and export reads (R156). -/
def QOp.isHost : QOp → Bool
  | .readOp 0 _ _ => true
  | _ => false

/-- The entries of a die queue of 64: other work never holds more than 56 (R156). The rest is held by the scheduler. -/
def visibleFrom : (others total : Nat) → List QOp → List QOp
  | _, _, [] => []
  | o, t, q :: qs =>
    if 64 ≤ t then []
    else if q.isHost then q :: visibleFrom o (t + 1) qs
    else if o < 56 then q :: visibleFrom (o + 1) (t + 1) qs
    else visibleFrom o t qs

def DieSt.visible (d : DieSt) : List QOp := visibleFrom 0 0 d.queue

/-- The page that a NAND read of a ladder addresses: at step 4 page type `k` of wordline n + 1 (R130). -/
def Ladder.pageAt (l : Ladder) (types k : Nat) : Nat := if l.step = 4 then (l.page / max 1 types + 1) * types + k else l.page

/-- Block and wordline that a queued or running read addresses. -/
def Media.readPlace (m : Media) (rid k : Nat) : Option (Nat × Nat) :=
  (m.reads.get? rid).map (fun (l : Ladder) => (l.block, l.pageAt m.types k / max 1 m.types))

/-- The first read of the best priority (R157 rule 1), leaving out those that `skip` holds back. -/
def bestRead (skip : Nat → Nat → Bool) (q : List QOp) : Option (Nat × Nat × Nat) :=
  q.foldl (fun (b : Option (Nat × Nat × Nat)) o =>
    match o with
    | .readOp p rid k => if skip rid k then b else match b with
      | none => some (p, rid, k)
      | some x => if p < x.1 then some (p, rid, k) else b
    | _ => b) none

/-- A read of block `b` is queued or in progress, or a ladder that still reads it has another step to run (R146, R157 rule 4). -/
def Media.readQueued (m : Media) (d b : Nat) : Bool :=
  m.reads.any (fun e => decide (e.2.die = d) && decide (e.2.block = b) && decide (e.2.step < 6))

/-- The first program or erase that may be issued (R157 rules 2 and 4): one that has waited 1,000 µs goes first. DESIGN CHOICE: else
programs and erases go in queue order (notes/assumptions/60.md). -/
def Media.nextOp (m : Media) (d : Nat) (erases : Bool) : Option QOp :=
  let x := m.die d
  let prog (o : QOp) : Bool := match o with
    | .prog .. => true
    | _ => false
  let er (o : QOp) : Bool := match o with
    | .erase b => erases && !m.readQueued d b
    | _ => false
  let late (o : QOp) : Bool := (x.waited.1 && prog o) || (x.waited.2 && er o)
  match x.visible.find? late with
  | some o => some o
  | none => x.visible.find? (fun o => prog o || er o)

/-- An operation has waited 1,000 µs at the head of its class (R157 rule 2). -/
def DieSt.late (x : DieSt) : QOp → Bool
  | .prog .. => x.waited.1
  | .erase _ => x.waited.2
  | _ => false

/-- The die has an array operation in progress that counts under MAX_BUSY (R159). -/
def DieSt.busy (d : DieSt) : Bool :=
  match d.window with
  | some (_, out, _) => !out.isEmpty
  | none => match d.op with
    | .idle => false
    | _ => true

/-- Dies of a channel that are busy. -/
def Media.busyOn (m : Media) (c : Fin 64) : Nat := (m.dies.filter (fun e => chOf e.1 = c && e.2.busy)).length

/-- The channel takes operations: in use, not isolated. -/
def Media.channelUp (m : Media) (c : Fin 64) : Bool := m.fch[c].en && !m.fch[c].isolate

/-- A die's chip enable takes operations: it is not being retrained (R163). -/
def Media.ceUp (m : Media) (d : Nat) : Bool := !((m.fch[chOf d]).ces[ceOf d]).retraining

/-- A probe waits for the first LUN of a die's chip enable that completes an operation: none is issued to that LUN before it (R163). -/
def Media.probeWaits (m : Media) (d : Nat) : Bool := ((m.fch[chOf d]).ces[ceOf d]).probe.isSome

/-- A failed die that has passed a later self-test takes erases only (R178). -/
def Media.takesOps (m : Media) (d : Nat) : Bool := !m.dieFailed d || (m.die d).returning

/-- A new array operation may be issued on the die's channel (R159, R163, R449). -/
def State.mayIssue (s : State) (d : Nat) : Bool :=
  let c := chOf d
  s.media.channelUp c && s.media.takesOps d && s.media.ceUp d &&
    decide (s.media.busyOn c < min (s.media.fch[c].maxBusy.toNat + 1) s.busyMax)

/-- New reads and erases are issued: not in a flush (R160, R238), no erase in preparation for PS3 or PS4 (R450). -/
def State.readsGo (s : State) : Bool := !(s.phase == .flushing || s.phase == .flushed || s.phase == .trialFlush)
def State.erasesGo (s : State) : Bool := s.readsGo && s.pws.entry.isNone

/-! ### Issuing (R104, R119, R120, R130, R151) -/

/-- The page bytes that a NAND read of a ladder transfers: the run of its step-0 read, its own codeword later, the whole page at step
5 and in the repeats after it (R104, R130, R132). -/
def Media.readWindow (m : Media) (l : Ladder) : Nat × Nat :=
  if l.step = 5 ∨ l.realigned then (0, pageBytes)
  else if l.step = 0 then
    windowOf ((m.reads.filter (fun e => decide (e.2.run = l.run) && decide (e.2.step = 0))).map (fun e => e.2.cw))
  else windowOf [l.cw]

/-- The offsets of the references that a step's reads use, read by read (R130), in 1/64 steps: at m, at m ∓ δ, at m ∓ 2δ. -/
def Ladder.offsets (l : Ladder) : List (List Int) :=
  let d : Int := 64 * l.softDelta
  let at_ (x : Int) : List Int := l.used.map (· + x)
  match l.step with
  | 2 => [at_ (-d), at_ d]
  | 3 => [at_ (-(2 * d)), at_ (2 * d)]
  | _ => [l.used]

/-- A read of a page with its references at offsets in 1/64 steps: Set Features of each offset at its address, then the read itself
(R151, R153). -/
def Media.offsetRead (m : Media) (l : Ladder) (page : Nat) (offs : List Int) (cache : Bool) : List Output :=
  let w := m.readWindow l
  let steps := offs.map (fun x => x / 64)
  let set : List Output := match m.profile with
    | none => []
    | some p => ((refsOf (m.codingOf page)).zip steps).map (fun x => .nandFeature l.die (p.offsetFeature.getD (x.1 - 1) 0) x.2)
  set ++ [.nandRead l.die l.block page w.1 w.2 steps cache]

/-- The NAND reads that issuing an entry of a ladder sends to its die: the two of steps 2 and 3 as one cache read, a page of wordline
n + 1 at tracked offsets at step 4 (R130, R136). -/
def Media.readOuts (m : Media) (k : Nat) (l : Ladder) : List Output :=
  if l.step = 4 then
    let p := l.pageAt m.types k
    m.offsetRead l p (m.startOffsets l.die l.block (p / max 1 m.types) (refsOf (m.codingOf p))) false
  else l.offsets.zipIdx.flatMap (fun x => m.offsetRead l l.page x.1 (decide (0 < x.2)))

/-- NAND reads of one queue entry of a ladder (R130). -/
def Ladder.perEntry (l : Ladder) : Nat := if l.step = 2 ∨ l.step = 3 then 2 else 1

/-- What a ladder keeps from the issue of its step-0 read to its end (R119, R134): the snapshot of its tracking entry, and the values
that orders set. -/
def State.snapshot (s : State) (l : Ladder) : Ladder :=
  let w := l.page / max 1 s.media.types
  let ofs := s.media.startOffsets l.die l.block w l.refs
  { l with
    used0 := ofs, used := ofs
    acqStep := s.param 0x3100 (if s.media.qlc then 3 else 2), acqMax := s.param 0x3100 4
    softDelta := s.param 0x3100 (if s.media.qlc then 7 else 6), naEn := s.media.rdc[sliceOf l.die].naEn
    naTab := s.media.naTable (s.media.trackKey l.die l.block w) l.page }

/-- A read is issued to the die (R157): its NAND reads count in the block's counter (R120, R204), and a step-0 read takes its
snapshot for every codeword of its run (R104, R119). -/
def State.issueRead (s : State) (d prio rid k : Nat) (inWindow : Bool) : State :=
  match s.media.reads.get? rid with
  | none => s.setDie d (fun x => { x with queue := x.queue.erase (.readOp prio rid k) })
  | some l =>
    let s := s.setDie d (fun x => { x with
      queue := x.queue.erase (.readOp prio rid k)
      reads := x.reads + l.perEntry
      op := if inWindow then x.op else .reading rid k
      window := match x.window with
        | some (n, out, t) => if inWindow then some (n + 1, out ++ [(rid, k)], t) else x.window
        | none => none })
    let take (x : Ladder) : Ladder := if l.step = 0 ∧ x.step = 0 ∧ x.run = l.run then s.snapshot x else x
    let key := l.die * 8192 + l.block
    let s := s.setMedia (fun m => { m with
      reads := m.reads.map (fun e => (e.1, take e.2))
      readCnt := m.readCnt.put key ((m.readCnt.get? key).getD 0 + l.perEntry) })
    s.transfer d [.read d rid k (s.media.readOuts k (take l))]

/-- The pages of a member's wordline as its row has been packed (R77, R85, R90). -/
def Media.progPages (m : Media) (row d b w : Nat) : List Xfer :=
  match m.rows.get? row with
  | none => []
  | some r =>
    let h : PageHead := { seq := row, bypass := r.bypass[sliceOf d]
                          parity := (m.stripes.get? r.stripe).any (fun t => decide (t.parityDie r.w = some d)) }
    (List.range m.types).map (fun ty => .page d b (w * m.types + ty) (m.pageImage d b (w * m.types + ty) h r.recs))

/-- A program or erase is issued to an idle die: a program's pages one by one, and its confirm (R90, R158). -/
def State.issueOp (s : State) (d : Nat) (o : QOp) : State :=
  match o with
  | .prog row pass member b w =>
    (s.setDie d (fun x => { x with
      queue := x.queue.erase o, waited := (false, x.waited.2), op := .prog row pass member b w 0 false })).transfer d
      (s.media.progPages row d b w ++ [.confirm d b w])
  | .erase b =>
    (s.setDie d (fun x => { x with queue := x.queue.erase o, waited := (x.waited.1, false), op := .erase b 0 false })).transfer d
      [.erase d b]
  | .readOp p rid k => s.issueRead d p rid k false

/-! ### Suspension (R165, R166) -/

/-- The operation's block, suspensions so far, whether it has run long enough, whether it is an erase. -/
def DieOp.long : DieOp → Option (Nat × Nat × Bool × Bool)
  | .prog _ _ _ b _ n r => some (b, n, r, false)
  | .erase b n r => some (b, n, r, true)
  | _ => none

/-- The running operation may be suspended now (R165). -/
def Fch.maySuspend (f : Fch) : Option (Nat × Nat × Bool × Bool) → Bool
  | none => false
  | some (_, n, ran, true) => f.esusp && decide (n < 8) && (decide (n = 0) || ran)
  | some (_, n, ran, false) => f.psusp && decide (n < 2) && (decide (n = 0) || ran)

/-- A read of the block under the running operation, for which that is never suspended (R157 rule 5). -/
def Media.ownBlock (m : Media) (op : DieOp) (rid k : Nat) : Bool :=
  match op.long, m.readPlace rid k with
  | some (b, _), some p => decide (p.1 = b)
  | _, _ => false

/-- A read that a suspended operation holds back: of the wordline under its program, or of the block under its erase (R157 rules 4
and 5). -/
def Media.heldBack (m : Media) (op : DieOp) (rid k : Nat) : Bool :=
  match op, m.readPlace rid k with
  | .prog _ _ _ b w _ _, some p => decide (p = (b, w))
  | .erase b _ _, some p => decide (p.1 = b)
  | _, _ => false

/-- A suspended die is resumed: the operation runs on (R166). -/
def State.resumeDie (s : State) (d : Nat) : State :=
  let o := match (s.media.die d).op with
    | .prog r p m b w n _ => DieOp.prog r p m b w n false
    | .erase b n _ => .erase b n false
    | x => x
  (s.setDie d (fun x => { x with op := o, window := none })).transfer d [.cmd d 4]

/-- A wait for suspension ends: FCH_SUSP_LIM.READ_WAIT_MAX keeps the longest, in µs (R168). -/
def State.readWaited (s : State) (d : Nat) : State :=
  match (s.media.die d).readAt with
  | none => s
  | some t =>
    let us : BitVec 16 := satOf 16 ((s.tb.count.toNat - t) / 100)
    (s.setDie d (fun x => { x with readAt := none })).setFch (chOf d) (fun f =>
      { f with readWaitMax := if f.readWaitMax < us then us else f.readWaitMax })

/-- In a suspension window: a further read is issued, or waits for a place under MAX_BUSY; the operation is resumed once no read is to
be issued any more and every one issued has been transferred (R166). -/
def State.pumpWindow (s : State) (d n : Nat) (out : List (Nat × Nat)) (passed : Bool) : State :=
  let x := s.media.die d
  if !out.isEmpty then s
  else
    let r := if passed ∨ x.readMax ≤ n ∨ !s.readsGo then none else bestRead (s.media.heldBack x.op) x.visible
    match r with
    | some (p, rid, k) => if s.mayIssue d then s.issueRead d p rid k true else s
    | none => s.resumeDie d

/-- An idle die takes its next operation (R157 rule 2). -/
def State.pumpIdle (s : State) (d : Nat) : State :=
  let x := s.media.die d
  if !s.mayIssue d ∨ s.media.probeWaits d then s
  else
    let r := if s.readsGo ∧ !s.media.dieFailed d then bestRead (fun _ _ => false) x.visible else none
    match s.media.nextOp d s.erasesGo, r with
    | some o, none => s.issueOp d o
    | some o, some (p, rid, k) => if x.late o then s.issueOp d o else s.issueRead d p rid k false
    | none, some (p, rid, k) => s.issueRead d p rid k false
    | none, none => s

/-- A read waits behind a program or erase: it is suspended where R165 allows. -/
def State.pumpBusy (s : State) (d : Nat) : State :=
  let x := s.media.die d
  if s.readsGo ∧ (bestRead (s.media.ownBlock x.op) x.visible).isSome then
    let s' := s.setDie d (fun y => { y with readAt := some (y.readAt.getD s.tb.count.toNat) })
    if (s.media.fch[chOf d]).maySuspend x.op.long then
      (s'.setDie d (fun y => { y with suspending := true })).transfer d [.cmd d 3]
    else s'
  else s

/-- The die goes on with what its queue holds. -/
def State.pump (s : State) (d : Nat) : State :=
  let x := s.media.die d
  if !s.media.takesOps d ∨ x.suspending then s
  else match x.window with
    | some (n, out, passed) => s.pumpWindow d n out passed
    | none => match x.op with
      | .idle => s.pumpIdle d
      | .reading .. => s
      | _ => s.pumpBusy d

/-- Work is placed in a die queue, and the sequencer goes on. -/
def State.enqueue (s : State) (d : Nat) (o : QOp) : State :=
  (s.setDie d (fun x => { x with queue := x.queue ++ [o] })).pump d

/-- Every die of a channel goes on (a place under MAX_BUSY came free). -/
def State.pumpChannel (s : State) (c : Fin 64) : State :=
  ((s.media.dies.filter (fun e => chOf e.1 = c)).map (·.1)).foldl State.pump s

/-- A die ended its operation: it and its channel's dies go on. A suspend that the operation's end has overtaken is void. -/
def State.dieIdle (s : State) (d : Nat) : State :=
  ((s.readWaited d).setDie d (fun x => { x with op := .idle, timeouts := 0, suspending := false, window := none })).pumpChannel (chOf d)

/-- An erase is queued for a block of the other list, if none is queued or running for it (R201, R202). -/
def State.queueErase (s : State) (d b : Nat) : State :=
  let x := s.media.die d
  let running : Bool := match x.op with
    | .erase b' _ _ => decide (b' = b)
    | _ => false
  if running ∨ x.queue.contains (.erase b) then s else s.enqueue d (.erase b)

/-- Of `free` blocks, `bs` of them not erased yet, four are to be erased. -/
def State.keepFour (s : State) (d free : Nat) (bs : List Nat) : State :=
  if free - bs.length < 4 then (bs.take (4 - (free - bs.length))).foldl (fun s b => s.queueErase d b) s else s

/-- A die's erased list is kept at 4 blocks or more while the other list has blocks (R201), in the system band and outside it. -/
def State.keepErased (s : State) (d : Nat) : State :=
  let dirty := (s.media.die d).dirty
  (s.keepFour d (s.media.freeBlocks d) (dirty.filter (fun b => decide (b < s.media.dataBlocks)))).keepFour d (s.media.freeBand d)
    (dirty.filter (fun b => decide (s.media.dataBlocks ≤ b)))

end Sys2Proof.Machine
end

