-- ==== Sys2Proof/Machine/Operands.lean ====
section
/-! DEFINITION. What a command's operands address: logical blocks as sectors, granules and indirection units (R56, R63,
R180), CMB slots (R260, R261, R264), the locks a command takes (R254, R267), key slots and locking ranges (R369, R372,
R374). -/

namespace Sys2Proof.Machine

open Sys2Proof

/-- 512-byte sectors of a logical block (R255). -/
def Namespace.spb (n : Namespace) : Nat := if n.lba512 then 1 else 8

/-- The granule of a logical block. -/
def Namespace.granuleOf (n : Namespace) (lba : Nat) : Nat := lba * n.spb / 8

/-- First and last granule of a run of logical blocks. -/
def Namespace.span (n : Namespace) (slba nlb : Nat) : Nat × Nat :=
  (n.granuleOf slba, n.granuleOf (slba + nlb - 1))

/-- First and last unit of a run of logical blocks (R63). -/
def Namespace.units (n : Namespace) (slba nlb : Nat) : Nat × Nat :=
  (n.unitOf (n.span slba nlb).1, n.unitOf (n.span slba nlb).2)

/-- The granules of the whole units that a run touches. -/
def Namespace.unitGranules (n : Namespace) (slba nlb : Nat) : List Nat :=
  let u := n.units slba nlb
  (List.range ((u.2 - u.1 + 1) * n.perUnit)).map (· + u.1 * n.perUnit)

/-- The first logical block of a granule. -/
def Namespace.lbaOf (n : Namespace) (g : Nat) : Nat := g * 8 / n.spb

/-- A run covers whole indirection units (R63). -/
def Namespace.wholeUnits (n : Namespace) (slba nlb : Nat) : Bool :=
  let w := 8 * n.perUnit
  decide (slba * n.spb % w = 0) && decide (nlb * n.spb % w = 0)

/-- A granule's sectors after a write: the written sectors over the old ones (R63). -/
def overlay (s0 n g : Nat) (data old : List Sector) : List Sector :=
  (List.range 8).map (fun j =>
    let k := g * 8 + j
    if s0 ≤ k ∧ k < s0 + n then data.getD (k - s0) 0 else old.getD j 0)

/-- Eight sectors of zeros. -/
def zeroGranule : List Sector := List.replicate 8 0

/-- The sectors of a run out of its granules, in order. -/
def gather (s0 n : Nat) (got : AMap (List Sector)) : List Sector :=
  (List.range n).map (fun i => ((got.get? ((s0 + i) / 8)).getD zeroGranule).getD ((s0 + i) % 8) 0)

/-- The namespace index of an NSID (R473), if the namespace exists and is attached to the controller; none is usable with an
invalid population (R83, R155) or under the recovery image (R426). -/
def State.nsOf (s : State) (p : Fin 2) (nsid : Nat) : Option (Nat × Namespace) :=
  if s.media.popInvalid || decide (s.boot.source = 2) then none else
  match s.media.namespaces.get? (nsid - 1) with
  | some n => if 1 ≤ nsid ∧ n.attached.contains p then some (nsid - 1, n) else none
  | none => none

/-! ### Zones (R217, R218) -/

/-- Zone capacity in granules at present (R218). -/
def Media.zoneCap (m : Media) : Nat :=
  (if (m.groups.all (fun g => decide ((m.surviving g).length = 32))) then 31 else 30) * m.pages * 4

/-- Groups − 3: maximum open and active zones, and the handle limit (R215, R218). -/
def Media.activeMax (m : Media) : Nat := m.groups.length - 3
def Media.handleMax (m : Media) : Nat := max 1 (min 16 m.activeMax)

def ZoneSt.isOpen : ZoneSt → Bool
  | .implOpen | .explOpen => true
  | _ => false

def ZoneSt.active : ZoneSt → Bool
  | .implOpen | .explOpen | .closed => true
  | _ => false

def Media.zonesWith (m : Media) (f : ZoneSt → Bool) : Nat :=
  (m.namespaces.map (fun e => (e.2.zones.filter (fun z => f z.2.st)).length)).foldl (· + ·) 0

/-- A zone of a namespace: as listed, or empty with the present capacity. -/
def State.zone (s : State) (n : Namespace) (z : Nat) : Zone := (n.zones.get? z).getD { cap := s.media.zoneCap }

def State.setNs (s : State) (ns : Nat) (f : Namespace → Namespace) : State :=
  s.setMedia (fun m => { m with namespaces := m.namespaces.mod ns f })

def State.setZone (s : State) (ns z : Nat) (f : Zone → Zone) : State :=
  match s.media.namespaces.get? ns with
  | none => s
  | some n => s.setNs ns (fun n' => { n' with zones := n'.zones.put z (f (s.zone n z)) })

/-! ### CMB pointers (R260, R261, R264) -/

/-- The slots that a data pointer entry touches. -/
def ptrSlots (c : CmbPtr) : List Nat :=
  if c.len = 0 then [] else (List.range ((c.offset + c.len - 1) / 4096 - c.offset / 4096 + 1)).map (· + c.offset / 4096)

/-- R264: a pointer crosses the end of the data area, or addresses a slot unbound or adopted by another command. -/
def State.cmbBad (s : State) (p : Fin 2) (fseq : Nat) (ptrs : List CmbPtr) : Bool :=
  let c := s.land.cmb[p]
  ptrs.any (fun e =>
    decide (c.slots * 4096 < e.offset + e.len) ||
    (ptrSlots e).any (fun k => match c.adopted.get? k with
      | some f => decide (f ≠ fseq)
      | none => (s.land.slotBound p k).isNone))

/-- R261: the fast path's conditions. -/
def fastPath (n : Namespace) (r : WriteReq) : Bool :=
  !n.ind16 && r.cmb.all (fun e => decide (e.offset % 4096 = 0) && decide (e.len = 4096)) &&
    n.wholeUnits r.slba r.nlb && decide (r.cmb.length * 8 = r.nlb * n.spb) && decide (r.cmb.map (·.offset)).Nodup

/-! ### Locks (R254, R267) -/

def lockOf (fseq ns : Nat) (n : Namespace) (slba nlb : Nat) (excl : Bool) : Lock :=
  let u := n.units slba nlb
  { ns := some ns, first := u.1, last := u.2, excl := excl, fseq := fseq, granted := false }

/-- One entry over a whole namespace. -/
def lockAll (fseq : Nat) (ns : Option Nat) : Lock :=
  { ns := ns, first := 0, last := 2 ^ 40, excl := true, fseq := fseq, granted := false }

/-- The entries that a command takes (R254, R267). -/
def State.locksOf (s : State) (p : Fin 2) (fseq : Nat) (c : HostCmd) : List Lock :=
  let io (nsid slba nlb : Nat) (excl : Bool) : List Lock := match s.nsOf p nsid with
    | some (i, n) => if nlb = 0 then [] else [lockOf fseq i n slba nlb excl]
    | none => []
  match c with
  | .write r => io r.nsid r.slba r.nlb true
  | .read r => io r.nsid r.slba r.nlb false
  | .compare r => io r.nsid r.slba r.nlb false
  | .verify r => io r.nsid r.slba r.nlb false
  | .writeZeroes nsid slba nlb _ => io nsid slba nlb true
  | .dsm nsid true ranges => ranges.flatMap (fun r => io nsid r.1 r.2 true)
  | .dsm .. => []
  | .copy nsid sdlba _ ranges =>
    ranges.flatMap (fun r => io nsid r.1 r.2 false) ++ io nsid sdlba ((ranges.map (·.2)).foldl (· + ·) 0) true
  | .zoneAppend r => match s.nsOf p r.nsid with
    | some (_, n) =>
      let z := n.granuleOf r.slba / s.media.zoneSize
      io r.nsid (n.lbaOf (z * s.media.zoneSize + (s.zone n z).wp)) r.nlb true
    | none => []
  | .zoneSend nsid slba allZones act => match s.nsOf p nsid with
    | some (i, n) => match act with
      | .finish | .reset =>
        if allZones then [lockAll fseq (some i)]
        else
          let z := n.granuleOf slba / s.media.zoneSize
          [{ ns := some i, first := n.unitOf (z * s.media.zoneSize),
             last := n.unitOf ((z + 1) * s.media.zoneSize - 1), excl := true, fseq := fseq, granted := false }]
      | _ => []
    | none => []
  | .admin _ (.ns nsid) => [lockAll fseq (some (nsid - 1))]
  | .admin _ .all => [lockAll fseq none]
  | _ => []

/-! ### Key slots and locking ranges (R369, R372, R374) -/

/-- The locking range that covers a unit of a namespace: a non-global range, the namespace's global range, or the device
Global Range (R372). -/
def Security.rangeOf (k : Security) (ns unit : Nat) : Fin 64 :=
  let rs := (List.finRange 64).filter (fun r => decide (k.ranges[r].ns = some ns))
  match rs.find? (fun r => decide (0 < k.ranges[r].len) && decide (k.ranges[r].start ≤ unit) &&
      decide (unit < k.ranges[r].start + k.ranges[r].len)) with
  | some r => r
  | none => (rs.find? (fun r => decide (k.ranges[r].len = 0))).getD 0

/-- The key slot and key of a unit: the range's, or the one that the key tag names; none where it is not held (R375). -/
def State.keyFor (s : State) (ns : Nat) (n : Namespace) (unit : Nat) (tag : Option Nat) : Option (Nat × Nat) :=
  if n.kpio then (s.sec.kpio.get? (ns * 4096 + tag.getD 0)).map (fun k => (64 + k.index, k.key.toNat))
  else some ((s.sec.rangeOf ns unit).val, s.sec.keyGen[s.sec.rangeOf ns unit])

/-- Every range is treated as locked: the tampered state, or the pair has failed (R366, R368). -/
def State.sealed (s : State) : Bool := s.sec.tampered || s.sec.pairFail || !s.sec.keysHeld

/-- A unit refuses a read (`wr = false`) or a write: its range is locked, its key is absent (R366, R369, R372, R375). -/
def State.denied (s : State) (ns : Nat) (n : Namespace) (unit : Nat) (tag : Option Nat) (wr : Bool) : Bool :=
  s.sealed || (s.keyFor ns n unit tag).isNone ||
  (!n.kpio && s.sec.opalActive &&
    (let r := s.sec.ranges[s.sec.rangeOf ns unit]
     if wr then r.wrEn && r.wrLocked else r.rdEn && r.rdLocked))

/-- A run of logical blocks touches a unit that refuses it. -/
def State.deniedRun (s : State) (ns : Nat) (n : Namespace) (slba nlb : Nat) (tag : Option Nat) (wr : Bool) : Bool :=
  let u := n.units slba nlb
  (List.range (u.2 - u.1 + 1)).any (fun i => s.denied ns n (u.1 + i) tag wr)

/-! ### Checks common to I/O commands -/

/-- Two units' sizes: MDTS is 2 MiB (R255). -/
def mdtsSectors : Nat := 4096

/-- Range and transfer size of an I/O command. -/
def rangeCheck (n : Namespace) (slba nlb : Nat) (data : Bool) : Option Status :=
  if nlb = 0 ∨ n.nlbas < slba + nlb then some .lbaRange
  else if data ∧ mdtsSectors < nlb * n.spb then some .invalidField
  else none

/-- Write protection and reservation (R52, R222, R246, R271). `wr` is a write-type access. -/
def Reservation.conflicts (r : Reservation) (p : Fin 2) (wr : Bool) : Bool :=
  match r.holder with
  | none => false
  | some h =>
    if h = p then false
    else
      let reg := r.regs.any (fun e => e.port = p)
      match r.rtype with
      | 1 => wr
      | 2 => true
      | 3 => wr && !reg
      | 4 => !reg
      | 5 => wr && !reg
      | 6 => !reg
      | _ => false

end Sys2Proof.Machine
end

