-- ==== Sys2Proof/Machine/Map.lean ====
section
/-! DEFINITION. The map (R180 to R198): lookups, pages and their owners, updates and their journal blocks (R241 to R245),
write-back, and the capacity charge of records (R99, R100). -/

namespace Sys2Proof.Machine

open Sys2Proof

/-! ### Records on NAND -/

/-- Padding that follows a record in its codeword (R99), in 16-byte units, among the records of its page. -/
def padAfter (recs : List Rec) (r : Rec) : Nat :=
  let e := r.offset + r.len
  let stop := ceilDiv e 256 * 256
  (recs.filter (fun q => decide (e ≤ q.offset))).foldl (fun x q => min x q.offset) stop - e

/-- Each record of a closed row with the padding that follows it, whether or not it has been deallocated since (R99). -/
def padded (rs : List Rec) : List Rec :=
  let page (r : Rec) : List Rec := rs.filter (fun q => decide (q.die = r.die) && decide (q.block = r.block) && decide (q.page = r.page))
  rs.map (fun r => { r with pad := padAfter (page r) r })

/-- What a record is charged (R99). -/
def chargeRec (r : Rec) : Nat := r.len + r.pad

/-- Granules of a unit of a namespace. -/
def Media.perUnit (m : Media) (ns : Nat) : Nat := match m.namespaces.get? ns with
  | some n => n.perUnit
  | none => 1

/-- The records of a unit that its map entry addresses: those within its span of its page (R180, R182). -/
def Media.recsAt (m : Media) (ns unit : Nat) : MapEnt → List Rec
  | .zero => []
  | .loc die block page offset len _ =>
    (m.pageRecs die block page).filter (fun r =>
      decide (r.ns = ns) && decide (r.granule / m.perUnit ns = unit) && decide (offset ≤ r.offset) &&
        decide (r.offset + r.len ≤ offset + len))

/-- The record of a granule that its unit's entry addresses (R105, R182). -/
def Media.recOf (m : Media) (ns g : Nat) (e : MapEnt) : Option Rec :=
  (m.recsAt ns (g / m.perUnit ns) e).find? (fun r => decide (r.granule = g))

/-! ### Map pages (R184, R190, R191) -/

def mapPageKey (ns unit : Nat) : Nat := ns * 2 ^ 30 + unit / 1024

/-- The slice that owns a map page (R184). -/
def pageOwner (pk : Nat) : Fin 8 := Fin.ofNat 8 (pk % 2 ^ 30 + pk / 2 ^ 30)

/-- The page of a unit's key. -/
def pageOfKey (k : Nat) : Nat := mapPageKey (k / 2 ^ 40) (k % 2 ^ 40)

/-- Pages with a written entry. -/
def Media.writtenPages (m : Media) : List Nat := (m.map.map (fun e => pageOfKey e.1)).dedup

/-- Entries of a page that are not TRIMMED. -/
def Media.pageEntries (m : Media) (pk : Nat) : Nat := (m.map.filter (fun e => pageOfKey e.1 = pk)).length

/-- W of R190. -/
def Media.written (m : Media) : Nat := m.map.length

/-- The indirection of a page's namespace. -/
def Media.pageInd (m : Media) (pk : Nat) : Bool := m.perUnit (pk / 2 ^ 30) != 1

/-- The entries of a page by their place in it. -/
def Media.pageEnts (m : Media) (pk : Nat) : List (Nat × MapEnt) :=
  (m.map.filter (fun e => pageOfKey e.1 = pk)).map (fun e => (e.1 % 1024, e.2))

/-- Bytes of a compressed page (R186). -/
def Media.pageSize (m : Media) (pk : Nat) : Nat := 8 + 8 * (pageWords (m.pageInd pk) (m.pageEnts pk)).length

/-- Bytes of the cached pages, packed back to back (R189). -/
def Media.cacheBytes (m : Media) : Nat := (m.resident.map m.pageSize).foldl (· + ·) 0

/-- The 44 GiB of the map cache (R189). -/
def cacheMax : Nat := 44 * 2 ^ 30

/-- Written pages of a slice's owner, and those of them that are resident: FTL_MAP_WR and FTL_MAP_RES (R191). -/
def Media.writtenOf (m : Media) (sl : Fin 8) : List Nat := m.writtenPages.filter (fun pk => decide (pageOwner pk = sl))
def Media.residentOf (m : Media) (sl : Fin 8) : List Nat := (m.writtenOf sl).filter m.resident.contains

/-- The limit of R190, and full residency. -/
def writtenLimit : Nat := 5371093750
def Media.fullyResident (m : Media) : Bool := m.writtenPages.all m.resident.contains

/-- A lookup of the page needs no NAND read: it is resident, it has no written entry and is stored nowhere (R188), or no map record of
it has been written yet. -/
def Media.pageHere (m : Media) (pk : Nat) : Bool :=
  m.resident.contains pk || decide (m.pageEntries pk = 0) || !m.mapDir.has pk

/-- A miss is counted at the owner (FTL_MAP_MISS). -/
def Media.countMiss (m : Media) (pk : Nat) : Media :=
  { m with ftl := m.ftl.upd (pageOwner pk) (fun f => { f with miss := satInc f.miss }) }

/-! ### Map records (R194, R196) -/

/-- A map record of the page waits for a row of the system stream, or its row is not complete. -/
def Media.writing (m : Media) (pk : Nat) : Bool :=
  m.sysWait.any (fun r => decide (r.kind = 1) && decide (r.key = pk)) ||
    m.rows.any (fun e => e.2.sys.any (fun x => decide (x.1.kind = 1) && decide (x.1.key = pk)))

/-- The map record of a page as it stands (R194). -/
def Media.mapRec (m : Media) (pk : Nat) : SysRec :=
  let ents := m.pageEnts pk
  { kind := 1, key := pk, ents := ents, pos := m.ringHead
    bytes := mapRecBytes (pk / 2 ^ 30) (pk % 2 ^ 30) (m.rowSeq - 1) (m.pageInd pk) ents }

/-- A page whose entries are all TRIMMED is stored nowhere: the directory marks it empty (R188). -/
def Media.emptied (m : Media) (pk : Nat) : Media :=
  { m with
    mapDir := m.mapDir.del pk
    mapNand := m.mapNand.filter (fun e => decide (pageOfKey e.1 ≠ pk))
    dirtyPages := m.dirtyPages.del pk }

/-- A dirty page is written back: its map record waits for the system stream (R194 to R196). -/
def Media.writeBackOne (m : Media) (pk : Nat) : Media :=
  if !m.dirtyPages.has pk ∨ m.writing pk then m
  else if m.pageEntries pk = 0 then m.emptied pk
  else { m with sysWait := m.sysWait ++ [m.mapRec pk] }

def Media.writeBack (m : Media) (pks : List Nat) : Media := pks.foldl Media.writeBackOne m

/-- A map record stands in a complete row: the directory points to it, and the page's updates up to its ring position are written
back (R194, R196). -/
def Media.recorded (m : Media) (r : SysRec) (p : Place) : Media :=
  if r.kind ≠ 1 then m
  else
    let ns := r.key / 2 ^ 30
    let first := r.key % 2 ^ 30 * 1024
    let clean := decide (m.pageEnts r.key = r.ents)
    { m with
      mapNand := r.ents.foldl (fun (n : AMap MapEnt) (e : Nat × MapEnt) => n.put (gkey ns (first + e.1)) e.2)
        (m.mapNand.filter (fun e => decide (pageOfKey e.1 ≠ r.key)))
      mapDir := m.mapDir.put r.key p
      dirtyPages := if clean then m.dirtyPages.del r.key else m.dirtyPages.mod r.key (fun _ => r.pos) }

/-! ### The cache and the working set (R189, R191, R193) -/

/-- A page has been used: it stays over the next pass of the scan, and it is the newest of its owner's working set of 4,096 plain
pages (R189, R191). -/
def Media.touch (m : Media) (pk : Nat) : Media :=
  let keep (w : List Nat) : List Nat := w.drop (w.length - 4096)
  { m with
    refd := if m.refd.contains pk then m.refd else m.refd ++ [pk]
    ftl := m.ftl.upd (pageOwner pk) (fun f => { f with work := keep (f.work.filter (· ≠ pk) ++ [pk]) }) }

/-- A clean page leaves the cache. -/
def Media.drop (m : Media) (pk : Nat) : Media :=
  { m with
    resident := m.resident.filter (· ≠ pk)
    refd := m.refd.filter (· ≠ pk)
    ftl := m.ftl.upd (pageOwner pk) (fun f => { f with work := f.work.filter (· ≠ pk) }) }

/-- The second-chance scan while the cache is over-full (R191): a clean page not used since the scan last passed leaves; a used one
loses its mark, a dirty one is written back before its space is reused. -/
def Media.evict (m : Media) : Nat → Media
  | 0 => m
  | fuel + 1 =>
    if m.cacheBytes ≤ cacheMax then m
    else match m.resident with
      | [] => m
      | pk :: rest =>
        if m.dirtyPages.has pk then (({ m with resident := rest ++ [pk] } : Media).writeBack [pk]).evict fuel
        else if m.refd.contains pk then
          ({ m with resident := rest ++ [pk], refd := m.refd.filter (· ≠ pk) } : Media).evict fuel
        else (m.drop pk).evict fuel

/-- A map page is in the cache, with its pending replay deltas applied (R193, R246 step 4). -/
def Media.loaded (m : Media) (pk : Nat) : Media :=
  let m := if m.resident.contains pk then m else { m with resident := m.resident ++ [pk] }
  (({ m with replay := m.replay.filter (· ≠ pk) } : Media).touch pk).evict (2 * m.resident.length)

/-- The pages of an update are in the cache. One that is not, in a flush, takes the update when it is next loaded (R192, R246). -/
def Media.pageIn (m : Media) (pks : List Nat) : Media :=
  pks.foldl (fun m pk => if m.pageHere pk then m.loaded pk
    else { m with replay := if m.replay.contains pk then m.replay else m.replay ++ [pk] }) m

/-- The pages of an update that must be read first (R193). -/
def Media.absent (m : Media) (pks : List Nat) : List Nat := pks.filter (fun pk => !m.pageHere pk)

/-- The absent pages that runs of units cover in part: a page covered wholly takes the update without being read. -/
def Media.absentIn (m : Media) (ns : Nat) (runs : List (Nat × Nat)) : List Nat :=
  m.absent (m.writtenPages.filter (fun pk =>
    let a := pk % 2 ^ 30 * 1024
    decide (pk / 2 ^ 30 = ns) && runs.any (fun r =>
      decide (r.1 < a + 1024) && decide (a < r.1 + r.2) && !(decide (r.1 ≤ a) && decide (a + 1024 ≤ r.1 + r.2)))))

/-! ### The ring (R196, R197, R241 to R244) -/

def ringUnits : Nat := 1572864

/-- A block enters both copies of the ring at its head (R8, R241). -/
def Media.append (m : Media) (kind seq stripe row : Nat) (ents : List DeltaEnt) : Media :=
  let len := deltaLen ents
  let b : DeltaBlock := { kind := kind, seq := seq, stripe := stripe, row := row, ents := ents, pos := m.ringHead, len := len }
  { m with ring := m.ring ++ [b], mirror := m.mirror ++ [b], ringHead := m.ringHead + len }

/-- The oldest update not yet written back, or the head: where the tail moves to (R196). -/
def Media.tailAt (m : Media) : Nat := m.dirtyPages.foldl (fun x e => min x e.2) m.ringHead

/-- The tail moves past what has been written back. -/
def Media.trim (m : Media) : Media :=
  let t := max m.ringTail m.tailAt
  let live (b : DeltaBlock) : Bool := decide (t < b.pos + b.len)
  { m with ringTail := t, ring := m.ring.filter live, mirror := m.mirror.filter live }

/-- Pages whose oldest update lies in the older half of the ring are written back (R196). -/
def Media.writeBackOld (m : Media) : Media :=
  m.writeBack ((m.dirtyPages.filter (fun e => decide (e.2 + ringUnits / 2 ≤ m.ringHead))).map (·.1))

/-- No row completes at 87.5 % fill or more, but for the flush (R197, R244). DEDUCED: a row of the system stream does, for the fill
falls by nothing else. -/
def Media.ringRoom (m : Media) : Bool := decide (m.fill < ringUnits / 8 * 7)

/-- Map write-back goes before normal fulling (R197). -/
def Media.ringHalf (m : Media) : Bool := decide (ringUnits / 2 ≤ m.fill)

/-- Records a wear event at the rating (R9). -/
def State.checkWear (s : State) : State :=
  if s.media.worn && !s.media.wearSaid then
    (s.setMedia (fun m => { m with wearSaid := true })).log 0x3460 0xFF (leBytes 8 s.media.passes)
  else s

/-! ### Updates -/

/-- A unit's entry is replaced: the old records go stale and their charge returns to the pool (R100, R183). -/
def Media.setEntry (m : Media) (pos ns unit : Nat) (e : Option MapEnt) : Media :=
  let k := gkey ns unit
  let m := match m.map.get? k with
    | some old => (m.recsAt ns unit old).foldl (fun (m : Media) r => m.refund ns (chargeRec r)) m
    | none => m
  let pk := mapPageKey ns unit
  { m with
    map := match e with
      | some x => m.map.put k x
      | none => m.map.del k
    dirtyPages := if m.dirtyPages.has pk then m.dirtyPages else m.dirtyPages.put pk pos }

/-- The new records of an entry are charged. -/
def Media.chargeEntry (m : Media) (ns unit : Nat) (e : MapEnt) : Media :=
  (m.recsAt ns unit e).foldl (fun (m : Media) r => m.charge ns (chargeRec r)) m

/-- The granules of a unit, which a host write, a deallocation or a format makes readable again (R248). -/
def Media.foundUnit (m : Media) (ns unit : Nat) : Media :=
  match m.namespaces.get? ns with
  | none => m
  | some n => ((List.range n.perUnit).map (· + unit * n.perUnit)).foldl (fun m g => m.found (gkey ns g)) m

/-- The units of records, with each unit's records in packing order. -/
def byUnit (perUnit : Nat) : List Rec → AMap (List Rec)
  | [] => []
  | r :: rs =>
    let rest := byUnit perUnit rs
    let k := gkey r.ns (r.granule / perUnit)
    rest.put k (r :: (rest.get? k).getD [])

/-- The entry of a unit's records (R180): a zero-elided unit has one record of length 0. -/
def entryOf : List Rec → Option MapEnt
  | [] => none
  | r :: rs =>
    if r.len = 0 then some .zero
    else
      let stop := rs.foldl (fun x q => max x (q.offset + q.len)) (r.offset + r.len)
      let start := rs.foldl (fun x q => min x q.offset) r.offset
      some (.loc r.die r.block r.page start (stop - start) (r.raw && rs.all (·.raw)))

/-- The delta entry of a unit's records in a row (R242). -/
def deltaOf (types ns unit : Nat) (ind16 : Bool) (src : Option Nat) : MapEnt → DeltaEnt
  | .zero => .state ns unit 1 true
  | .loc die _ page offset len raw =>
    let l := if ind16 then ceilDiv len 4 else len
    match src with
    | none => .single ns unit (memberOf die) (page % types) offset l raw
    | some x => .copy ns unit (memberOf die) (page % types) offset l raw x

/-- The condition of a copy at replay (R242): the entry addresses a block of the source stripe. -/
def Media.addresses (m : Media) (e : Option MapEnt) (stripe : Nat) : Bool :=
  match e, m.stripes.get? stripe with
  | some (.loc die block _ _ _ _), some t => t.members.contains (die, block)
  | _, _ => false

/-- A unit's records reach the map when their row completes: a host write replaces the entry, a copy does so only if the entry still
addresses its source (R185). -/
def Media.applyUnit (m : Media) (pos : Nat) (recs : List Rec) : Media :=
  match recs with
  | [] => m
  | r :: _ =>
    match m.namespaces.get? r.ns, entryOf recs with
    | some n, some e =>
      let unit := n.unitOf r.granule
      match r.src with
      | none => ((m.setEntry pos r.ns unit (some e)).foundUnit r.ns unit).chargeEntry r.ns unit e
      | some _ =>
        if r.srcEnt.isSome ∧ m.map.get? (gkey r.ns unit) = r.srcEnt then
          (m.setEntry pos r.ns unit (some e)).chargeEntry r.ns unit e else m
    | _, _ => m

/-- The units of a row's live records, each with its records. -/
def Media.rowUnits (m : Media) (row : Row) : AMap (List Rec) :=
  let live := row.recs.filter (fun r => !r.dead && decide (r.kind = 0) && m.namespaces.has r.ns)
  (live.map (·.ns)).dedup.flatMap (fun ns => byUnit (m.perUnit ns) (live.filter (fun r => r.ns = ns)))

/-- The map pages that a row updates. -/
def Media.rowPages (m : Media) (row : Row) : List Nat := ((m.rowUnits row).map (fun u => pageOfKey u.1)).dedup

/-- The deltas of a row enter the ring and its records reach the map (R93, R243). DESIGN CHOICE (notes/assumptions/61.md): host rows of
4 KiB units use Run entries wherever two records or more allow one. -/
def Media.applyRow (m : Media) (seq : Nat) (row : Row) (perUnitOf : Nat → Nat) : Media :=
  let units := m.rowUnits row
  let copies := row.stream == .f0 || row.stream == .f1
  let ents := units.filterMap (fun u => match u.2, entryOf u.2 with
    | r :: _, some e => some (deltaOf m.types r.ns (u.1 % 2 ^ 40) (decide (perUnitOf r.ns = 4)) r.src e)
    | _, _ => none)
  let ents := if units.any (fun u => decide (perUnitOf (u.1 / 2 ^ 40) = 4)) then ents else withRuns ents
  let m := m.pageIn (m.rowPages row)
  let pos := m.ringHead
  let kind := if row.stream = .system then 4 else if copies then 2 else 1
  let m := m.append kind seq row.stripe row.w ents
  row.sys.foldl (fun m x => m.recorded x.1 x.2) (units.foldl (fun m u => m.applyUnit pos u.2) m)

/-- Units are set to ZERO or TRIMMED: one block of kind 3 with a State entry for each run (R242). -/
def Media.setStates (m : Media) (ns : Nat) (zero : Bool) (runs : List (Nat × Nat)) : Media :=
  if runs = [] then m
  else
    let units := runs.flatMap (fun r => (List.range r.2).map (· + r.1))
    let m := m.pageIn ((units.map (mapPageKey ns)).dedup)
    let pos := m.ringHead
    let m := m.append 3 m.rowSeq 0 0 (runs.map (fun r => .state ns r.1 r.2 zero))
    let m := units.foldl (fun m u => (m.setEntry pos ns u (if zero then some .zero else none)).foundUnit ns u) m
    m.writeBackOld.trim

/-- Every entry of a namespace becomes TRIMMED; its page records and lost granules go (R183: Format NVM, Sanitize,
Namespace Management delete). -/
def Media.wipe (m : Media) (ns : Nat) : Media :=
  let mine (k : Nat) : Bool := decide (k / 2 ^ 40 = ns)
  let minePage (k : Nat) : Bool := decide (k / 2 ^ 30 = ns)
  let keep (r : SysRec) : Bool := decide (r.kind ≠ 1) || !minePage r.key
  let m := m.append 3 m.rowSeq 0 0 [.state ns 0 (2 ^ 32 - 1) false]
  { m with
    map := m.map.filter (fun e => !mine e.1)
    mapNand := m.mapNand.filter (fun e => !mine e.1)
    resident := m.resident.filter (fun k => !minePage k)
    refd := m.refd.filter (fun k => !minePage k)
    ftl := m.ftl.all (fun f => { f with work := f.work.filter (fun k => !minePage k) })
    mapDir := m.mapDir.filter (fun e => !minePage e.1)
    sysWait := m.sysWait.filter keep
    rows := m.rows.map (fun (e : Nat × Row) => (e.1, { e.2 with sys := e.2.sys.filter (fun x => keep x.1) }))
    replay := m.replay.filter (fun k => !minePage k)
    dirtyPages := m.dirtyPages.filter (fun e => !minePage e.1)
    lost := m.lost.filter (fun k => !mine k)
    namespaces := m.namespaces.mod ns (fun n => { n with charged := 0, zones := [] }) }.trim

/-! ### Validity and full checkpoint -/

/-- A record on NAND is valid: the map addresses it. -/
def Media.valid (m : Media) (r : Rec) : Bool :=
  match m.namespaces.get? r.ns with
  | none => false
  | some n => match m.map.get? (gkey r.ns (n.unitOf r.granule)) with
    | some (.loc die block page offset len _) =>
      decide (die = r.die) && decide (block = r.block) && decide (page = r.page) && decide (offset ≤ r.offset) &&
        decide (r.offset + r.len ≤ offset + len)
    | _ => false

/-- A full checkpoint goes on: the pages that were dirty when it began are written back; once the system stream holds everything that
waited for it the pointer is recorded (R198). -/
def Media.ckptGo (m : Media) : Media :=
  match m.ckptDue with
  | none => m
  | some h =>
    let old := (m.dirtyPages.filter (fun e => decide (e.2 < h))).map (·.1)
    if old = [] ∧ m.sysWait = [] ∧ m.rows.all (fun e => e.2.sys.isEmpty) then { m with ckpt := some h, ckptDue := none, trackSaved := m.track }
    else m.writeBack old

/-- A full checkpoint begins (R198); the tracking tables are kept as they stand when it ends (R118). -/
def Media.beginCheckpoint (m : Media) : Media := { m with ckptDue := some m.ringHead }.ckptGo

/-! ### Replay (R246) -/

/-- The map effect of a delta entry of a block (R242); a Run entry stands for Single entries. -/
def Media.replayOne (m : Media) (b : DeltaBlock) (map : AMap MapEnt) : DeltaEnt → AMap MapEnt
  | .run .. => map
  | .single ns unit member ptype offset len raw =>
    match m.stripes.get? b.stripe with
    | none => map
    | some t =>
      let l := match m.namespaces.get? ns with
        | some n => if n.ind16 then 4 * len else len
        | none => len
      let die := groupDie t.group member
      match t.members.find? (fun x => x.1 = die) with
      | some x => map.put (gkey ns unit) (.loc die x.2 (b.row * m.types + ptype) offset l raw)
      | none => map
  | .copy ns unit member ptype offset len raw src =>
    match m.stripes.get? b.stripe with
    | none => map
    | some t =>
      let l := match m.namespaces.get? ns with
        | some n => if n.ind16 then 4 * len else len
        | none => len
      let die := groupDie t.group member
      match t.members.find? (fun x => x.1 = die) with
      | some x =>
        if m.addresses (map.get? (gkey ns unit)) src then
          map.put (gkey ns unit) (.loc die x.2 (b.row * m.types + ptype) offset l raw) else map
      | none => map
  | .state ns unit count zero =>
    let here (k : Nat) : Bool := decide (gkey ns unit ≤ k) && decide (k < gkey ns (min (unit + count) (2 ^ 40)))
    if zero then (List.range count).foldl (fun (mp : AMap MapEnt) i => mp.put (gkey ns (unit + i)) .zero) map
    else map.filter (fun e => !here e.1)

def Media.replayEnt (m : Media) (b : DeltaBlock) (map : AMap MapEnt) (e : DeltaEnt) : AMap MapEnt :=
  e.expand.foldl (m.replayOne b) map

/-- The ring is replayed over the map records, up to the first unreadable block (R246 steps 2 and 4). -/
def Media.replayRing (m : Media) (blocks : List DeltaBlock) : AMap MapEnt :=
  blocks.foldl (fun map b => b.ents.foldl (fun map e => m.replayEnt b map e) map) m.mapNand

end Sys2Proof.Machine
end

