-- ==== Sys2Proof/Machine/Rows.lean ====
section
/-! DEFINITION. Stripes and rows (R82 to R96, R199 to R202): opening, dispatch of lines to slices, closing, programming in
TLC and QLC order, and what the release of lines lets go on. -/

namespace Sys2Proof.Machine

open Sys2Proof

/-! ### Lines, commands and slots -/

/-- The stream of a line (R199, R215, R219). -/
def State.streamOf (s : State) (l : Line) : Stream :=
  match s.media.namespaces.get? l.ns with
  | some n => if n.zoned then .zone l.ns (l.granule / s.media.zoneSize) else .host l.handle
  | none => .host l.handle

/-- Every slot that a command adopted is bound again (R262). -/
def State.slotsBack (s : State) (c : Cmd) : Bool := c.slots.all (fun k => !(s.land.cmb[c.port].unbound.contains k))

/-- A command that waits for rows completes once they are complete (R95, R274). -/
def State.tryComplete (s : State) (fseq : Nat) : State :=
  match s.cmq.cmds.get? fseq with
  | none => s
  | some c =>
    if c.phase = .waitRows ∧ c.lines = [] then s.complete fseq .success c.result else s

/-- Lines are freed; the commands that waited for them or for free lines to bind go on. -/
def State.freeLines (s : State) (ns : List Nat) : State :=
  let s : State := s.dropLines ns
  let wait (c : Cmd) : Cmd := if c.phase = .waitRows then { c with lines := c.lines.filter (fun n => !ns.contains n) } else c
  let cmds : AMap Cmd := s.cmq.cmds.map (fun e => (e.1, wait e.2))
  let s : State := { s with cmq := { s.cmq with cmds := cmds } }
  (cmds.map (·.1)).foldl State.tryComplete s

/-- Lines whose rows are complete are released (R56, R93). -/
def State.releaseLines (s : State) (ns : List Nat) : State :=
  let s := s.freeLines ns
  let gone := ns.filter (fun n => s.land.free n && !s.land.released.contains n)
  { s with land := { s.land with released := s.land.released ++ gone } }

/-! ### Pages of a row -/

/-- A slice's data pages of a row, members in ascending order (R88): die, block, page. -/
def Media.slicePages (m : Media) (t : Stripe) (w : Nat) (sl : Fin 8) : List (Nat × Nat × Nat) :=
  (t.members.filter (fun x => sliceOf x.1 = sl && decide (t.parityDie w ≠ some x.1))).flatMap (fun x =>
    (List.range m.types).map (fun ty => (x.1, x.2, w * m.types + ty)))

/-! ### Rows of a stream -/

def Media.openStripe (m : Media) (st : Stream) : Option (Nat × Stripe) :=
  m.stripes.find? (fun e => e.2.isOpen && decide (e.2.stream = st))

/-- The open row of a stream: it still takes data. -/
def Media.openRow (m : Media) (st : Stream) : Option (Nat × Row) :=
  m.rows.find? (fun e => !e.2.closed && decide (e.2.stream = st))

def Media.setRow (m : Media) (r : Nat) (f : Row → Row) : Media := { m with rows := m.rows.mod r f }

/-- Every stream is being quiesced: a power-state entry is in preparation, or a ferry activation holds the fetch pause (R94). -/
def State.quiescing (s : State) : Bool := s.pws.entry.isSome || s.cmq.paused

/-- Lines dispatched to a row and not yet packed, of a slice or of all. -/
def State.inRow (s : State) (r : Nat) : List (Nat × Line) :=
  s.land.lines.filter (fun e => e.2.st == .committed && (match e.2.row with
    | some x => decide (x.1 = r)
    | none => false))

def State.inSlice (s : State) (r : Nat) (sl : Fin 8) : List (Nat × Line) :=
  s.land.lines.filter (fun e => e.2.st == .committed && decide (e.2.row = some (r, sl)))

/-- The lines of a slice in the order of their dispatch, those of one 16 KiB unit together. -/
def State.sliceUnits (s : State) (r : Nat) (sl : Fin 8) : List (List (Nat × Line)) :=
  let key (e : Nat × Line) : Nat := e.2.turn * 2 ^ 40 + e.2.granule
  ((s.inSlice r sl).mergeSort (fun a b => decide (key a ≤ key b))).splitBy (fun a b => decide (a.2.turn = b.2.turn))

/-- A row is opened: the next wordline of its stripe, under the next sequence number (R89). SCR_BYPASS holds for the whole row
as it stands now, and in service mode only (R81; DEDUCED, notes/assumptions/39.md). -/
def Media.newRow (m : Media) (service : Bool) (sid : Nat) (t : Stripe) : Media × Nat :=
  let r := m.rowSeq
  ({ m with
     rows := m.rows.put r { stripe := sid, w := t.nextRow, stream := t.stream
                            bypass := Vector.ofFn (fun sl : Fin 8 => m.wrp[sl].scrBypass && service) }
     rowSeq := r + 1
     stripes := m.stripes.mod sid (fun t => { t with nextRow := t.nextRow + 1 }) }, r)

/-! ### Free levels against the limits of R212 -/

/-- Some group is at or below `x` stripes (R201, R212). -/
def Media.anyAtMost (m : Media) (x : Nat) : Bool :=
  m.groups.any (fun g => match m.freeLevel g with
    | some l => decide (l ≤ x)
    | none => false)

def State.freeHi (s : State) : Nat := s.param 0x3310 0
def State.freeLo (s : State) : Nat := s.param 0x3310 1
def State.freeCrit (s : State) : Nat := s.param 0x3310 2
def State.atCrit (s : State) : Bool := s.media.anyAtMost s.freeCrit

/-! ### Programming -/

/-- The member number of a die in its group (R82). -/
def memberFin (die : Nat) : Fin 32 := Fin.ofNat 32 (memberOf die)

/-- A pass of every member of a row is queued. -/
def State.queuePass (s : State) (r : Nat) (row : Row) (t : Stripe) (pass : Nat) : State :=
  t.members.foldl (fun s x => s.enqueue x.1 (.prog r pass (memberFin x.1) x.2 row.w)) s

/-- The row of a stripe at wordline w. -/
def Media.rowAt (m : Media) (sid w : Nat) : Option (Nat × Row) :=
  m.rows.find? (fun e => decide (e.2.stripe = sid) && decide (e.2.w = w))

/-- The final pass of a closed QLC row is queued (R91). -/
def State.queueFine (s : State) (r : Nat) : State :=
  match s.media.rows.get? r with
  | none => s
  | some row => match s.media.stripes.get? row.stripe with
    | none => s
    | some t =>
      if row.finalIssued ∨ !row.closed then s
      else (s.setMedia (fun m => m.setRow r (fun x => { x with finalIssued := true }))).queuePass r row t 1

/-- A row is closed and its first pass queued: TLC in one pass; on QLC coarse(n), then fine(n − 1), and after the last
wordline fine(n) (R90, R91). The parity pages pass from the accumulator to the read buffers (R92). After the last wordline the
stripe takes no further row. -/
def State.closeFull (s : State) (r : Nat) : State :=
  match s.media.rows.get? r with
  | none => s
  | some row => match s.media.stripes.get? row.stripe with
    | none => s
    | some t =>
      if row.closed then s
      else
        let last := decide (s.media.wordlines ≤ row.w + 1)
        let s := s.setMedia (fun m =>
          let m := m.setRow r (fun x => { x with
            closed := true, closeNow := false, finalIssued := !m.qlc
            parity := if (t.parityDie row.w).isSome then (List.range m.types).map (· + row.w * m.types) else [] })
          if last then { m with stripes := m.stripes.mod row.stripe (fun t => { t with isOpen := false }) } else m)
        let s := s.queuePass r row t 0
        if !s.media.qlc then s
        else
          let s := match row.w with
            | 0 => s
            | w + 1 => match s.media.rowAt row.stripe w with
              | some p => s.queueFine p.1
              | none => s
          if last then s.queueFine r else s

/-- A closed QLC row gets what its fine pass needs: the coarse pass of the next wordline, padded, whose row takes no
further data (R94). -/
def State.ensureFinal (s : State) (r : Nat) : State :=
  match s.media.rows.get? r with
  | none => s
  | some row => match s.media.stripes.get? row.stripe with
    | none => s
    | some t =>
      if row.finalIssued ∨ !row.closed then s
      else match s.media.rowAt row.stripe (row.w + 1) with
        | some n =>
          if n.2.closed then s.queueFine r
          else if s.inRow n.1 = [] then s.closeFull n.1
          else s.setMedia (fun m => m.setRow n.1 (fun x => { x with closeNow := true }))
        | none =>
          let p := s.media.newRow s.service row.stripe t
          ({ s with media := p.1 }).closeFull p.2

/-- A row is closed before it is full, once nothing dispatched to it is unpacked (R94). -/
def State.closeEarly (s : State) (r : Nat) : State :=
  if s.inRow r = [] then (s.closeFull r).ensureFinal r
  else s.setMedia (fun m => m.setRow r (fun x => { x with closeNow := true }))

/-- A row whose close is due closes when its last dispatched line is packed. -/
def State.closeIfDue (s : State) (r : Nat) : State :=
  match s.media.rows.get? r with
  | some row => if row.closeNow && !row.closed then s.closeEarly r else s
  | none => s

/-- A stripe is closed at its current row under R94: it opens no further row. -/
def State.closeStripe (s : State) (sid : Nat) : State :=
  let s := (s.media.rows.filter (fun e => decide (e.2.stripe = sid))).foldl (fun s e =>
    if e.2.closed then s.ensureFinal e.1 else s.closeEarly e.1) s
  s.setMedia (fun m => { m with stripes := m.stripes.mod sid (fun t => { t with isOpen := false }) })

/-! ### Dispatch (R88) -/

/-- The cursor after `k` raw records more: one by itself, the four of a 16 KiB unit together in one page; past the last page where
they do not fit. -/
def Cursor.takeRaw (c : Cursor) (pages k : Nat) : Cursor :=
  match (if k = 1 then c.placeIn pages [256] else c.placeUnit pages (List.replicate k 256)) with
  | some p => p.1
  | none => { c with page := pages, used := 0, begun := 0 }

/-- The cursor of a slice in a row after every line dispatched to it has been counted raw, unit by unit. -/
def State.countedCursor (s : State) (r : Nat) (row : Row) (pages : Nat) (sl : Fin 8) : Cursor :=
  (s.sliceUnits r sl).foldl (fun c u => c.takeRaw pages u.length) row.cursors[sl]

/-- The slice that can take `k` raw records with the most free payload, lowest number first on ties; four together go
into one page. -/
def State.pickSlice (s : State) (r : Nat) (row : Row) (t : Stripe) (k : Nat) : Option (Fin 8) :=
  let cand := (List.finRange 8).filterMap (fun sl =>
    let pages := (s.media.slicePages t row.w sl).length
    let c := s.countedCursor r row pages sl
    let ok : Bool := if k = 1 then (c.place pages 256).isSome else (c.placeUnit pages (List.replicate k 256)).isSome
    if ok then some (sl, c.free pages) else none)
  (cand.foldl (fun (b : Option (Fin 8 × Nat)) x =>
    match b with
    | none => some x
    | some y => if y.2 < x.2 then some x else some y) none).map (·.1)

/-- Undispatched committed lines of a stream, each with the others of its 16 KiB unit (R88). DESIGN CHOICE (notes/assumptions/58.md):
the spec gives no order; they go by the sequence of their commands, then by granule. -/
def State.waitingLines (s : State) (st : Stream) : List (List (Nat × Line)) :=
  let ls := s.land.lines.filter (fun e => e.2.st == .committed && e.2.row.isNone && decide (s.streamOf e.2 = st))
  let key (e : Nat × Line) : Nat := e.2.cmdSeq * 2 ^ 40 + e.2.granule
  let ls := ls.mergeSort (fun a b => decide (key a ≤ key b))
  let per (e : Nat × Line) : Nat := s.media.perUnit e.2.ns
  ls.filterMap (fun e =>
    if per e = 1 then some [e]
    else if e.2.granule % per e = 0 then
      some (ls.filter (fun x => decide (x.2.ns = e.2.ns) && decide (x.2.granule / per e = e.2.granule / per e) &&
        decide (x.2.cmdSeq = e.2.cmdSeq)))
    else none)

/-- The row cannot take a line: it holds a version of the line's granule already, or an older version stands in a row of a higher
sequence number, which would win over it at replay (R65). -/
def State.inRowAlready (s : State) (r : Nat) (l : Line) : Bool :=
  s.media.rows.any (fun e => decide (r ≤ e.1) && (
    e.2.recs.any (fun x => decide (x.ns = l.ns) && decide (x.granule = l.granule) && (x.src.isNone || decide (e.1 = r))) ||
      (s.inRow e.1).any (fun x => decide (x.2.ns = l.ns) && decide (x.2.granule = l.granule))))

/-- Lines are dispatched to a slice of a row. A line that a write waits for under R94 or R95 wants the row closed after
the close-wait, one that a Flush waits for wants it closed at once. -/
def State.sendLines (s : State) (r : Nat) (sl : Fin 8) (ls : List Nat) : State :=
  let waiter (f : HostCmd → Bool) : Bool :=
    s.cmq.cmds.any (fun e => e.2.phase == .waitRows && f e.2.cmd && ls.any (fun n => e.2.lines.contains n))
  let isFlush (c : HostCmd) : Bool := match c with
    | .flush _ => true
    | _ => false
  let now := waiter isFlush
  let soon := waiter (fun c => !isFlush c) || ls.any (fun n => match s.land.lines.get? n with
    | some l => l.wt
    | none => false)
  let turn := ((s.media.rows.get? r).map (·.sent)).getD 0
  let lines : AMap Line := ls.foldl (fun m n => m.mod n (fun l => { l with row := some (r, sl), turn := turn })) s.land.lines
  let s : State := { s with land := { s.land with lines := lines } }
  s.setMedia (fun m => m.setRow r (fun x => { x with
    closing := x.closing || soon, closeNow := x.closeNow || now, sent := x.sent + 1 }))

/-- A stream waits for a group (R87). -/
def Media.await (m : Media) (st : Stream) : Media :=
  if m.waiting.contains st then m else { m with waiting := m.waiting ++ [st] }

/-- The waiting lines of a stream go to the slices of its open row; a row that can take no more is closed as full when
nothing in it is being packed (R88). At or below FREE_CRIT no host row is started (R212). A line that the open row cannot take is
passed over, and a row of a stripe opened before an accumulator's failure goes on wherever its parity lies (DESIGN CHOICE,
notes/assumptions/58.md). -/
def State.dispatch (s : State) (st : Stream) : Nat → State
  | 0 => s
  | fuel + 1 =>
    match s.waitingLines st with
    | [] => s
    | ws => match s.media.openRow st with
      | none => match s.media.openStripe st with
        | none => s.setMedia (fun m => m.await st)
        | some t =>
          if (s.atCrit ∧ s.readsGo) ∨ s.media.wordlines ≤ t.2.nextRow then s
          else (s.setMedia (fun m => (m.newRow s.service t.1 t.2).1)).dispatch st fuel
      | some row => match s.media.stripes.get? row.2.stripe with
        | none => s
        | some t =>
          match ws.find? (fun g => g.all (fun e => !s.inRowAlready row.1 e.2)) with
          | none => s
          | some g => match s.pickSlice row.1 row.2 t g.length with
            | some sl => (s.sendLines row.1 sl (g.map (·.1))).dispatch st fuel
            | none => if s.inRow row.1 = [] then (s.closeFull row.1).dispatch st fuel else s

/-- Every stream with waiting lines goes on. -/
def State.dispatchAll (s : State) : State :=
  let sts := ((s.land.lines.filter (fun e => e.2.st == .committed && e.2.row.isNone)).map (fun e => s.streamOf e.2)).dedup
  sts.foldl (fun s st => s.dispatch st (2 * s.land.lines.length + 64)) s

/-! ### Copies (R211, R212) -/

/-- The stream of a copied unit (R199). -/
def Media.copyStream (m : Media) (src : Nat) : Stream :=
  let fulling : Bool := match m.victim with
    | some v => decide (v.stripe = src)
    | none => false
  match m.stripes.get? src with
  | some t => match t.stream with
    | .host _ | .zone .. => if fulling then .f0 else .f1
    | _ => .f1
  | none => .f1

/-- A row of F0 or F1 may start (R207, R212): below FREE_CRIT, on credit, for an emergency, or for pounce and rebuild
while no host row waits. -/
def State.copyRowGoes (s : State) (src : Nat) : Bool :=
  let fulling : Bool := match s.media.victim with
    | some v => decide (v.stripe = src)
    | none => false
  s.atCrit || decide (1 ≤ s.media.credit) || (!fulling && s.media.waiting.all (fun st => match st with
    | .host _ | .zone .. => false
    | _ => true)) ||
    s.media.pounces.any (fun e => e.2.emerg && decide (e.2.stripe = src))

/-- The slice of a row in which copied records fit, with the most free payload. -/
def Media.copyPlace (m : Media) (row : Row) (t : Stripe) (lens : List Nat) : Option (Fin 8 × Cursor × List (Nat × Nat)) :=
  let cand := (List.finRange 8).filterMap (fun sl =>
    let pages := (m.slicePages t row.w sl).length
    let c := row.cursors[sl]
    match (if lens.length = 1 then c.placeIn pages lens else c.placeUnit pages lens) with
    | some p => some (sl, p.1, p.2, c.free pages)
    | none => none)
  (cand.foldl (fun (b : Option (Fin 8 × Cursor × List (Nat × Nat) × Nat)) x =>
    match b with
    | none => some x
    | some y => if y.2.2.2 < x.2.2.2 then some x else some y) none).map (fun x => (x.1, x.2.1, x.2.2.1))

/-- Records placed in a slice of a row. -/
def Media.putRecs (m : Media) (r : Nat) (row : Row) (t : Stripe) (sl : Fin 8) (c : Cursor) (recs : List Rec)
    (ps : List (Nat × Nat)) : Media :=
  let pages := m.slicePages t row.w sl
  let placed := (recs.zip ps).map (fun x =>
    let a := pages.getD x.2.1 (0, 0, 0)
    { x.1 with die := a.1, block := a.2.1, page := a.2.2, offset := x.2.2 })
  m.setRow r (fun x => { x with cursors := x.cursors.upd sl (fun _ => c), recs := x.recs ++ placed })

/-- The copied units that wait are placed in rows of their streams. -/
def State.placeCopies (s : State) : Nat → State
  | 0 => s
  | fuel + 1 =>
    match s.media.copyWait with
    | [] => s
    | u :: us =>
      let src := (u.head?.bind (·.src)).getD 0
      let st := s.media.copyStream src
      match s.media.openRow st with
      | none => match s.media.openStripe st with
        | none => s.setMedia (fun m => m.await st)
        | some t =>
          if !s.copyRowGoes src ∨ s.media.wordlines ≤ t.2.nextRow then s
          else (s.setMedia (fun m => { (m.newRow s.service t.1 t.2).1 with credit := max 0 (m.credit - 1) })).placeCopies fuel
      | some row => match s.media.stripes.get? row.2.stripe with
        | none => s
        | some t => match s.media.copyPlace row.2 t (u.map (·.len)) with
          | some p =>
            (s.setMedia (fun m => { (m.putRecs row.1 row.2 t p.1 p.2.1 u p.2.2) with copyWait := us })).placeCopies fuel
          | none => (s.closeFull row.1).placeCopies fuel

def State.copiesGo (s : State) : State := s.placeCopies (3 * s.media.copyWait.length + 8)

/-! ### The system stream (R195, R199) -/

/-- The fragments of a system record, at most 4,096 bytes each (R195). -/
def SysRec.frags (r : SysRec) : List Rec :=
  (List.range (ceilDiv r.bytes.length 4096)).map (fun i =>
    let bs := (r.bytes.drop (4096 * i)).take 4096
    { ns := 256 + r.kind, granule := r.key + i * 2 ^ 38, die := 0, block := 0, page := 0, offset := 0, len := ceilDiv bs.length 16,
      raw := false, keySlot := 0, keyGen := 0, data := [], frame := bs, kind := r.kind })

/-- A system record is placed in a slice of a row: its fragments in one page, and its place (R195). -/
def Media.putSystem (m : Media) (r : Nat) (row : Row) (t : Stripe) (x : SysRec) (sl : Fin 8) (c : Cursor) (ps : List (Nat × Nat)) :
    Media :=
  let fs := x.frags
  let pages := m.slicePages t row.w sl
  let first := ps.headD (0, 0)
  let a := pages.getD first.1 (0, 0, 0)
  let stop := (fs.zip ps).foldl (fun n e => max n (e.2.2 + e.1.len)) first.2
  let place : Place := { die := a.1, block := a.2.1, page := a.2.2, offset := first.2, len := stop - first.2 }
  (m.putRecs r row t sl c fs ps).setRow r (fun row => { row with sys := row.sys ++ [(x, place)] })

/-- The system records that wait are placed in rows of the system stream, which opens a stripe or waits for a group like any other
(R87, R199, R200). -/
def State.placeSystem (s : State) : Nat → State
  | 0 => s
  | fuel + 1 =>
    match s.media.sysWait with
    | [] => s
    | u :: us => match s.media.openRow .system with
      | none => match s.media.openStripe .system with
        | none => s.setMedia (fun m => m.await .system)
        | some t =>
          if s.media.wordlines ≤ t.2.nextRow then s
          else (s.setMedia (fun m => (m.newRow s.service t.1 t.2).1)).placeSystem fuel
      | some row => match s.media.stripes.get? row.2.stripe with
        | none => s
        | some t => match s.media.copyPlace row.2 t (u.frags.map (·.len)) with
          | some p => (s.setMedia (fun m =>
              { m.putSystem row.1 row.2 t u p.1 p.2.1 p.2.2 with sysWait := us })).placeSystem fuel
          | none => (s.closeFull row.1).placeSystem fuel

def State.systemGo (s : State) : State := s.placeSystem (3 * s.media.sysWait.length + 8)

/-- A full checkpoint is taken (R198): it ends when the system stream holds what it writes. -/
def State.checkpoint (s : State) : State := ((s.setMedia Media.beginCheckpoint).systemGo.setMedia Media.ckptGo).checkWear

/-- The pages whose map records lie in some places. -/
def Media.pagesIn (m : Media) (f : Place → Bool) : List Nat := (m.mapDir.filter (fun e => f e.2)).map (·.1)

/-- The live records of a system stripe (R199). -/
def Media.sysLive (m : Media) (t : Stripe) : List Nat := m.pagesIn (fun p => t.members.contains (p.die, p.block))

/-- Map records are written again from the map (R195, R199): out of a block that failed or is refreshed, or of a stripe that is
fulled. -/
def Media.moveSystem (m : Media) (pks : List Nat) : Media :=
  { m with sysWait := m.sysWait ++ (pks.filter (fun pk => !m.writing pk)).map m.mapRec }

/-- The system band is fulled within itself when no group could open more than one stripe in it: the records of the closed system
stripe with the fewest of them are written again (R199). Map write-back goes before that while the ring is half full (R197). -/
def State.fullBand (s : State) : State :=
  let m := s.media
  let tight := m.groups.all (fun g => match m.bandLevel g with
    | some n => decide (n ≤ 1)
    | none => true)
  if !tight ∨ (m.ringHalf ∧ m.sysWait ≠ []) then s
  else
    let cand := m.stripes.filter (fun e => decide (e.2.stream = .system) && !e.2.isOpen)
    let best := cand.foldl (fun (b : Option (List Nat)) e =>
      let live := m.sysLive e.2
      match b with
      | none => some live
      | some x => if live.length < x.length then some live else b) none
    match best with
    | none => s
    | some pks => (s.setMedia (fun m => m.moveSystem pks)).systemGo

/-! ### Opening a stripe (R200 to R202) -/

/-- The rotation of a stripe opened now (R84, R86, R174). -/
def State.rotationFor (s : State) (g : Nat) : Rotation :=
  let bad := (List.finRange 8).filter (fun sl => s.units.acc[sl])
  if bad ≠ [] then .outside bad else if (s.media.surviving g).length = 32 then .by32 else .by31

/-- Stripes that a group could still form for a stream: for the system stream in the system band. -/
def Media.levelFor (m : Media) (sys : Bool) (g : Nat) : Option Nat := if sys then m.bandLevel g else m.freeLevel g

/-- A group without an open stripe that can form one. -/
def Media.groupFree (m : Media) (sys : Bool) (g : Nat) : Bool :=
  !(m.stripes.any (fun e => e.2.isOpen && decide (e.2.group = g))) && (match m.levelFor sys g with
    | some l => decide (1 ≤ l)
    | none => false)

/-- The free group with the highest free level, lowest number first (DESIGN CHOICE, notes/assumptions/16.md). -/
def Media.pickGroup (m : Media) (sys : Bool) : Option Nat :=
  ((m.groups.filter (m.groupFree sys)).foldl (fun (b : Option (Nat × Nat)) g =>
    let l := (m.levelFor sys g).getD 0
    match b with
    | none => some (g, l)
    | some x => if x.2 < l then some (g, l) else some x) none).map (·.1)

/-- The free level of the victim's group. -/
def Media.victimLevel (m : Media) : Option Nat :=
  match m.victim with
  | none => none
  | some v => match m.stripes.get? v.stripe with
    | none => none
    | some t => m.freeLevel t.group

/-- The waiting stream of highest priority (R200). -/
def State.nextStream (s : State) : Option Stream :=
  let m := s.media
  let low : Bool := match m.victimLevel with
    | some l => decide (l ≤ s.freeLo)
    | none => false
  let isF (st : Stream) : Bool := st == .f0 || st == .f1
  match m.waiting.find? (fun st => st == .system) with
  | some st => some st
  | none => match (if low then m.waiting.find? isF else none) with
    | some st => some st
    | none => match m.waiting.find? (fun st => !isF st) with
      | some st => some st
      | none => m.waiting.find? isF

/-- A stripe is opened in group `g` for stream `st`: each member gives its erased block of lowest erase count (R202); where
a die has none, an erase of its other list is queued and the opening waits. -/
def State.openIn (s : State) (g : Nat) (st : Stream) : State :=
  let ds := s.media.surviving g
  let sys : Bool := decide (st = .system)
  let need := ds.filter (fun d => (s.media.pickBlock d sys).isNone)
  if need ≠ [] then
    need.foldl (fun s d => match (s.media.die d).dirty.find? (fun b => decide (s.media.dataBlocks ≤ b) == sys) with
      | some b => s.queueErase d b
      | none => s) s
  else
    let members := ds.filterMap (fun d => (s.media.pickBlock d sys).map (fun b => (d, b)))
    let sid := s.media.nextStripe
    let t : Stripe :=
      { group := g, stream := st, members := members, rotation := s.rotationFor g }
    let s := s.setMedia (fun m =>
      ({ m with
         stripes := m.stripes.put sid t
         nextStripe := sid + 1
         waiting := m.waiting.filter (· ≠ st) }).append 5 m.rowSeq sid 0 [])
    let s := ds.foldl State.keepErased s.checkWear
    if sys then s.systemGo.fullBand
    else if st = .f0 ∨ st = .f1 then s.copiesGo else s.dispatch st (2 * s.land.lines.length + 64)

/-- The host stripe with the fewest rows left (R200). -/
def Media.shortestHost (m : Media) : Option (Nat × Stripe) :=
  (m.stripes.filter (fun e => e.2.isOpen && (match e.2.stream with
    | .host _ => true
    | _ => false))).foldl (fun (b : Option (Nat × Stripe)) e =>
      match b with
      | none => some e
      | some x => if m.wordlines - e.2.nextRow < m.wordlines - x.2.nextRow then some e else some x) none

/-- R200: the waiting stream of highest priority is given a free group; for the system stream, or a fulling stream at
FREE_CRIT, that finds none, the host stripe with the fewest rows left is closed and its group given. -/
def State.stripeOpen (s : State) : State :=
  if s.units.accAll then s
  else match s.nextStream with
    | none => s
    | some st => match s.media.pickGroup (decide (st = .system)) with
      | some g => s.openIn g st
      | none =>
        let urgent : Bool := st == .system || ((st == .f0 || st == .f1) && (match s.media.victimLevel with
          | some l => decide (l ≤ s.freeCrit)
          | none => false))
        if !urgent then s
        else match s.media.shortestHost with
          | none => s
          | some h =>
            let s := s.closeStripe h.1
            if s.media.groupFree (decide (st = .system)) h.2.group then s.openIn h.2.group st else s

end Sys2Proof.Machine
end

