-- ==== Sys2Proof/Machine/Reads.lean ====
section
/-! DEFINITION. Reads of NAND: starting the ladder of each codeword of a record (R102 to R104, R130), its NAND reads step by
step, the decoders (R125), the member reads of step 6 (R133), and ending ladders early (R134, R173). -/

namespace Sys2Proof.Machine

open Sys2Proof

/-- Whom a ladder serves. -/
def Media.whoOf (m : Media) (rid : Nat) : Option ReadFor := (m.reads.get? rid).map (fun (l : Ladder) => l.who)

/-- The priority of a NAND read (R157): 0 host, map-page and export reads, 1 first-phase rebuild reads, 2 the rest. A
member read of step 6 has the priority of the read it serves. -/
def Media.prioOf (m : Media) : ReadFor → Nat
  | .host _ | .merge _ | .mapPage .. | .export_ _ => 0
  | .rebuild1 _ => 1
  | .member rid => match m.whoOf rid with
    | some (.host _) | some (.merge _) | some (.mapPage ..) | some (.export_ _) => 0
    | some (.rebuild1 _) => 1
    | _ => 2
  | _ => 2

/-- The references that a page owns (R112). -/
def Media.pageRefs (m : Media) (page : Nat) : List Nat := refsOf (m.codingOf page)

/-- The final pass of a block's wordline is complete (R129). -/
def Media.programmed (m : Media) (die block w : Nat) : Bool := m.heads.has (pageKey die block (w * m.types))

def Media.setRead (m : Media) (rid : Nat) (f : Ladder → Ladder) : Media := { m with reads := m.reads.mod rid f }

/-- A new ladder enters the table; its number is returned with it. -/
def Media.newRead (m : Media) (l : Ladder) : Media × Nat :=
  ({ m with reads := m.reads.put m.nextRid l, nextRid := m.nextRid + 1 }, m.nextRid)

/-- The other members of a codeword's row: dies and blocks (R133). -/
def Media.otherMembers (m : Media) (l : Ladder) : List (Nat × Nat) :=
  match m.stripeOf l.die l.block with
  | some t => t.2.members.filter (fun x => x.1 ≠ l.die)
  | none => []

/-- Step 6 cannot succeed: a member's die is out (R133). -/
def Media.memberDown (m : Media) (l : Ladder) : Bool := (m.otherMembers l).any (fun x => m.dieOut x.1)

/-! ### Decoders (R125) -/

/-- A step's decoder is soft, and its iteration limit: hard at steps 0 and 1, soft at 2 to 4 with 40, 80 and 120 iterations, 120 in the
repeats after step 5. -/
def Ladder.soft (l : Ladder) : Bool := decide (2 ≤ l.step) && decide (l.step ≤ 4)
def Ladder.iterations (l : Ladder) : Nat :=
  if !l.soft then 20 else if l.realigned then 120 else if l.step = 2 then 40 else if l.step = 3 then 80 else 120

/-- The slice whose decoders serve a die: its own, or the partner's once all its decoders of the kind have failed (R52). -/
def Units.decoderSlice (u : Units) (sl : Fin 8) (soft : Bool) : Fin 8 :=
  if (if soft then u.softAll sl else u.hardAll sl) then partner sl else sl

/-- The reads of a step have all arrived: the codeword goes to a decoder (R124, R125); steps 5 and 6 use none. -/
def State.startDecode (s : State) (rid : Nat) : State :=
  match s.media.reads.get? rid with
  | none => s
  | some l =>
    if 5 ≤ l.step then s
    else s.emit (.decode (s.units.decoderSlice (sliceOf l.die) l.soft) l.soft l.iterations (decoderInput (s.media.llrs l l.step)))

/-! ### Steps (R130, R133) -/

/-- One member read of step 6 is started: a ladder of its own up to step 5 (R133). -/
def State.startMember (s : State) (rid : Nat) (l : Ladder) (x : Nat × Nat) : State :=
  let k : Ladder :=
    { who := .member rid, grans := [x.1], die := x.1, block := x.2, page := l.page, cw := l.cw, run := s.media.nextRid,
      refs := s.media.pageRefs l.page, cap := 5 }
  let p := s.media.newRead k
  ({ s with media := p.1 }).enqueue x.1 (.readOp (p.1.prioOf k.who) p.2 0)

/-- NAND reads that a step makes (R130). -/
def Media.stepReads (m : Media) (l : Ladder) (step : Nat) : Nat :=
  match step with
  | 0 | 1 | 5 => 1
  | 2 | 3 => 2
  | 4 => if l.naEn && m.programmed l.die l.block (l.page / max 1 m.types + 1) then m.types else 0
  | _ => 0

/-- A ladder at the start of a step: the offsets of a re-read are the step-0 read's moved by its estimates, and those of the second
re-read the first one's moved by its own (R115). -/
def Ladder.begin_ (l : Ladder) (step reads : Nat) : Ladder :=
  let from_ := if l.rereads = 0 then l.used0.zip l.est0 else l.used.zip l.est
  { l with
    step := step, await := reads
    used := if step = 1 then from_.map (fun x => roundStep (x.1 + x.2)) else l.used
    rereads := if step = 1 then l.rereads + 1 else l.rereads
    softs := if step = 2 then [] else l.softs
    nbrs := if step = 4 then [] else l.nbrs }

/-- A ladder goes to a step and issues its reads; at step 4 each page of wordline n + 1 is a queue entry of its own (R156). -/
def State.startStep (s : State) (rid step : Nat) : State :=
  match s.media.reads.get? rid with
  | none => s
  | some l =>
    if step = 6 then
      let down := s.media.memberDown l
      let ms := if down then [] else s.media.otherMembers l
      let s := s.setMedia (fun m => m.setRead rid (fun l =>
        { l with step := 6, await := 0, members := ms.length, memberLost := down }))
      ms.foldl (fun s x => s.startMember rid l x) s
    else
      let n := s.media.stepReads l step
      let s := s.setMedia (fun m => m.setRead rid (fun l => l.begin_ step n))
      if n = 0 then s.startDecode rid
      else (List.range (if step = 4 then n else 1)).foldl (fun s k =>
        s.enqueue l.die (.readOp (s.media.prioOf l.who) rid k)) s

/-! ### Starting reads (R102 to R104) -/

/-- The codewords of a record (R103). -/
def Rec.cws (r : Rec) : List Nat :=
  if r.len = 0 then [] else (List.range ((r.offset + r.len - 1) / 256 - r.offset / 256 + 1)).map (· + r.offset / 256)

/-- Ladders for codewords of one page, each with what it is read for: one NAND read transfers them as one run (R104). On a die that
takes no reads each goes to step 6 (R131). -/
def State.readCws (s : State) (who : ReadFor) (die block page : Nat) (cws : List (Nat × List Nat)) (cap : Nat) : State :=
  let run := s.media.nextRid
  let mk (x : Nat × List Nat) : Ladder :=
    { who := who, grans := x.2, die := die, block := block, page := page, cw := x.1, run := run,
      refs := s.media.pageRefs page, cap := cap }
  let p := cws.foldl (fun (a : Media × List Nat) x =>
    let q := a.1.newRead (mk x)
    (q.1, a.2 ++ [q.2])) (s.media, [])
  let s := { s with media := p.1 }
  if s.media.dieOut die then p.2.foldl (fun s rid => s.startStep rid 6) s
  else match p.2 with
    | [] => s
    | rid :: _ => s.enqueue die (.readOp (s.media.prioOf who) rid 0)

/-- Records page by page, in the order of their first record. -/
def byPage : List Rec → List (List Rec)
  | [] => []
  | r :: rs =>
    let here (x : Rec) : Bool := decide (x.die = r.die) && decide (x.block = r.block) && decide (x.page = r.page)
    let rest := byPage rs
    match rest.find? (fun g => g.any here) with
    | some g => (r :: g) :: rest.erase g
    | none => [r] :: rest

/-- The codewords that records of one page need, each with the granules that lie in it. -/
def cwsOf (rs : List Rec) : List (Nat × List Nat) :=
  ((List.range 4).map (fun cw => (cw, (rs.filter (fun r => r.cws.contains cw)).map (fun r => gkey r.ns r.granule)))).filter
    (fun x => x.2 ≠ [])

/-- Records are read, those of one page in one run (R102, R104). -/
def State.readRecs (s : State) (who : ReadFor) (rs : List Rec) (cap : Nat) : State :=
  (byPage rs).foldl (fun s g => match g with
    | [] => s
    | r :: _ => s.readCws who r.die r.block r.page (cwsOf g) cap) s

/-- Whom a read of a map page serves. -/
def mapReader (pk : Nat) : ReadFor := .mapPage (pk / 2 ^ 30) (pk % 2 ^ 30)

/-- A map page is read from its latest map record, in the codewords that hold it, if it is not being read already; no Read Recovery
Level caps it (R138, R193, R195). -/
def State.loadPage (s : State) (pk : Nat) : State :=
  if s.media.reads.any (fun e => decide (e.2.who = mapReader pk)) then s
  else match s.media.mapDir.get? pk with
    | none => s
    | some p =>
      let cws := (List.range 4).filter (fun cw => decide (p.offset < 256 * (cw + 1)) && decide (256 * cw < p.offset + p.len))
      s.readCws (mapReader pk) p.die p.block p.page (cws.map (fun cw => (cw, [pk]))) 6

/-- A lookup misses: the miss is counted, and the page is read (R193, FTL_MAP_MISS). -/
def State.readMapPage (s : State) (pk : Nat) : State := (s.setMedia (fun m => m.countMiss pk)).loadPage pk

/-- Reads with the priority of host reads wait in a die's queue. -/
def Media.hostWaits (m : Media) (die : Nat) : Bool := (m.die die).queue.any QOp.isHost

/-- The owners load the written map pages in the background, one at a time each, as far as they fit in the cache (R192). DESIGN CHOICE
(notes/assumptions/14.md): none is read on a die for which a host read waits, of the share that MAP_LOAD_SHARE allows at most. -/
def State.loadNext (s : State) : State :=
  if !s.readsGo then s
  else (List.finRange 8).foldl (fun s sl =>
    let busy : Bool := s.media.reads.any (fun e => match e.2.who with
      | .mapPage ns k => decide (pageOwner (ns * 2 ^ 30 + k) = sl)
      | _ => false)
    let next := s.media.mapDir.find? (fun e => decide (pageOwner e.1 = sl) && !s.media.resident.contains e.1 &&
      !s.media.hostWaits e.2.die && decide (s.media.cacheBytes + s.media.pageSize e.1 ≤ cacheMax))
    match next with
    | some e => if busy ∨ !s.media.ftl[sl].loadEn then s else s.loadPage e.1
    | none => s) s

/-! ### The die after a read -/

/-- A read's data has left the die: the die goes on (R166, R157). -/
def State.transferred (s : State) (d rid k : Nat) : State :=
  let x := s.media.die d
  if x.op = .reading rid k then s.dieIdle d
  else match x.window with
    | some (_, out, _) =>
      if out.contains (rid, k) then
        (s.setDie d (fun x => { x with window := x.window.map (fun w => (w.1, w.2.1.erase (rid, k), w.2.2)) })).pumpChannel
          (chOf d)
      else s
    | none => s

/-- The entry of a ladder that its die has issued and not yet transferred. -/
def DieSt.inFlight (x : DieSt) (rid : Nat) : Option Nat :=
  match x.op with
  | .reading r k => if r = rid then some k else none
  | _ => x.window.bind (fun w => (w.2.1.find? (fun e => e.1 = rid)).map (·.2))

/-- The die that has an entry of a read in flight, and the entry. -/
def Media.flight (m : Media) (rid : Nat) : Option (Nat × Nat) :=
  m.dies.findSome? (fun e => (e.2.inFlight rid).map (fun k => (e.1, k)))

/-! ### Ending ladders -/

/-- Ladders are removed with the queued operations that serve them; reads already issued run to their end (R134). -/
def State.dropReads (s : State) (f : Ladder → Bool) : State :=
  let gone := (s.media.reads.filter (fun e => f e.2)).map (·.1)
  let down := (s.media.reads.filter (fun e => match e.2.who with
    | .member rid => gone.contains rid
    | _ => false)).map (·.1)
  let all := gone ++ down
  let keep (o : QOp) : Bool := match o with
    | .readOp _ rid _ => !all.contains rid
    | _ => true
  s.setMedia (fun m => { m with
    reads := m.reads.filter (fun e => !all.contains e.1)
    unrec := m.unrec.filter (fun e => m.reads.any (fun x => !all.contains x.1 && decide (x.2.who = e.1)))
    dies := m.dies.map (fun e => (e.1, { e.2 with queue := e.2.queue.filter keep })) })

/-- The reads of a command stop (R134). -/
def State.stopReads (s : State) (fseq : Nat) : State :=
  s.dropReads (fun l => l.who == .host fseq || l.who == .merge fseq)

/-- A command leaves with its reads. -/
def State.quit (s : State) (fseq : Nat) (st : Status) (lba : Nat := 0) : State :=
  (s.stopReads fseq).complete fseq st 0 lba

end Sys2Proof.Machine
end

