-- ==== Sys2Proof/Machine/Limit.lean ====
section
/-! DEFINITION. The energy of a flush and the landing limit (R234, R235), write-through mode (R58) and the readiness of the
persistent memory regions (R266). -/

namespace Sys2Proof.Machine

open Sys2Proof

/-- t_fix of R234, in seconds. -/
def Media.tFix (m : Media) : Rat := if m.qlc then 45 / 10000 else 30 / 10000

/-- The die program rate of R234, in bytes per second. -/
def Media.progRate (m : Media) : Rat := if m.qlc then 100000000 else 250000000

/-- t_fix + t_prog with `n` dies in service. -/
def Media.flushTime (m : Media) (n : Nat) : Rat := m.tFix + 2463063682 / (n * m.progRate)

/-- The power drawn at the bank during a flush (R234), in watts: p_board in 10 mW, eff in percent. -/
def flushPower (n board eff : Nat) : Rat := (22.5 + (board : Rat) / 100 + (n : Rat) * 0.12) / ((eff : Rat) / 100)

/-- e_full in joules. -/
def State.eFull (s : State) : Rat :=
  let n := s.media.liveDies.length
  flushPower n (s.param 0x3400 0x0D) (s.param 0x3400 0x0C) * s.media.flushTime n

/-- e_avail in joules at a bank voltage of `mv10` units of 10 mV (R229, R235). -/
def State.eAvail (s : State) (mv10 : Int) : Rat :=
  match s.plp.meas with
  | none => 0
  | some (c, esr) =>
    let n := s.media.liveDies.length
    let cUsed : Rat := 0.95 * (c : Rat) / 1000000
    let esrUsed : Rat := ((esr : Rat) + 100) / 10000
    let vEnd : Rat := 12 + esrUsed * flushPower n (s.param 0x3400 0x0D) (s.param 0x3400 0x0C) / 12
    let vTop : Rat := (mv10 : Rat) / 100
    if vTop ≤ vEnd then 0 else 0.5 * cUsed * (vTop * vTop - vEnd * vEnd)

/-- The landing limit at a bank voltage (R235). -/
def State.limitAt (s : State) (mv10 : Int) : Nat :=
  if s.media.liveDies = [] then 0
  else min 524288 (524288 * s.eAvail mv10 / s.eFull).floor.toNat

/-- v_top: 35.0 V at full charge, the 33 V of a test, or CAP_SENSE (R227, R235). -/
def Plp.vTop (p : Plp) : Int :=
  match p.state with
  | .full => 3500
  | .testing => 3300
  | .holding => 3500
  | _ => p.capSense.toInt

/-! ### The persistent memory regions (R265, R266) -/

/-- Why the regions are not ready (R266): 1 hold-up, 2 write-through, 3 limit. -/
def State.pmrReason (s : State) : Option Nat :=
  if !s.plp.ready then some 1
  else if s.land.wt then some 2
  else if s.land.limit < (s.land.pmr[0].mib + s.land.pmr[1].mib) * 256 then some 3
  else none

/-- A region's image is written to the system band (R265). -/
def Pmr.save (r : Pmr) (opsec : Nat) : Pmr := { r with image := some (r.mem, opsec), dirty := false }

/-- A region is restored from its newest image; one that never had an image reads zeros (R265). -/
def Pmr.restore (r : Pmr) : Pmr :=
  { r with mem := match r.image with
      | some i => i.1
      | none => [], dirty := false, restored := true }

/-- All shadow entries of the port become the active ones at XLAT_COMMIT (R293). -/
def PcPort.commit (q : PcPort) : PcPort := { q with act2 := q.shd2, act4 := q.shd4 }

/-- The shadow entries of BAR2/3 for sizes in MiB (R289), the PMR at target `pmr` (R295: 1, or 4 while NRDY). -/
def xlatFor (pmrMib sqMib dataMib pmr : Nat) : Tbl 64 Xlat :=
  Vector.ofFn (fun n : Fin 64 =>
    let w := n.val
    let a := pmrMib / 32
    let b := 8 + sqMib / 32
    let c := b + dataMib / 32
    if w < a then { target := BitVec.ofNat 4 pmr, base := BitVec.ofNat 16 w }
    else if w < 8 then {}
    else if w < b then { target := 2, base := BitVec.ofNat 16 (w - 8) }
    else if w < c then { target := 3, base := BitVec.ofNat 16 (w - b) }
    else {})

/-- The PMR windows follow NRDY (R295). -/
def State.pmrWindows (s : State) (p : Fin 2) : State :=
  let r := s.land.pmr[p]
  let c := s.land.cmb[p]
  s.setPort p (fun q => PcPort.commit { q with shd2 := xlatFor r.mib c.sqMib c.dataMib (if r.nrdy then 4 else 1) })

/-- NRDY sets or clears as its conditions stand (R266), and the windows follow (R295). -/
def State.settlePmr (s : State) : State :=
  s.portList.foldl (fun s p =>
    let r := s.land.pmr[p]
    if r.mib = 0 then s
    else match s.pmrReason with
      | some why =>
        if r.nrdy then s
        else (({ s with land := { s.land with pmr := s.land.pmr.upd p (fun r =>
          { (r.save s.clocks.opsec.toNat) with nrdy := true }) } }).pmrWindows p).log 0x2220 (s.portSrc p) (leBytes 1 why)
      | none =>
        if !r.nrdy then s
        else
          let old := r.dirty && !r.restored
          let s : State := { s with land := { s.land with pmr := s.land.pmr.upd p (fun r =>
            { r.restore with nrdy := false, restoreErr := r.restoreErr || old }) } }
          let s := if old then s.log 0x2223 (s.portSrc p) (leBytes 8 ((r.image.map (·.2)).getD 0)) else s
          (s.pmrWindows p).log 0x2221 (s.portSrc p)) s

/-! ### The landing limit -/

/-- The limit takes a value: write-through mode is entered or left (R58), and the regions follow (R266). The entry that every start
is while the bank charges is written as the firmware begins. -/
def State.setLimit (s : State) (n : Nat) : State :=
  let wt := decide (n < 65536)
  let was := s.land.wt
  let s := { s with land := { s.land with limit := n, wt := wt } }
  let s := if wt && !was then s.log 0x2210 0xFF (leBytes 4 n)
    else if !wt && was then s.log 0x2211 0xFF (leBytes 4 n)
    else s
  s.settlePmr

/-- Joules as a register's millijoules. -/
def milli (e : Rat) : BitVec 16 := satOf 16 (e * 1000).floor.toNat

/-- The limit is computed again (R235): 0 while a fault is present (R232) or the bank is off. -/
def State.recompute (s : State) : State :=
  let v := s.plp.vTop
  let s := { s with plp := { s.plp with eFull := milli s.eFull, eAvail := milli (s.eAvail v) } }
  s.setLimit (if s.plp.active ≠ 0 ∨ s.plp.state = .fault ∨ s.plp.state = .off then 0 else s.limitAt v)

end Sys2Proof.Machine
end

