-- ==== Sys2Proof/Machine/Fulling.lean ====
section
/-! DEFINITION. What moves and frees data: stripes without valid data, fulling (R210 to R213), pounce (R205 to R209),
program and erase failures (R96), and the loss of a die with its rebuild (R172 to R177). -/

namespace Sys2Proof.Machine

open Sys2Proof

/-! ### Stripes and their valid data -/

/-- Records on the blocks of a stripe. -/
def Media.stripeRecs (m : Media) (t : Stripe) : List Rec :=
  (m.nand.filter (fun e => t.members.any (fun x => decide (x.1 * 8192 + x.2 = e.1 / 4096)))).flatMap (·.2)

def Media.validIn (m : Media) (t : Stripe) : List Rec := (m.stripeRecs t).filter m.valid

/-- Lengths in 16-byte units. -/
def recUnits (rs : List Rec) : Nat := (rs.map (·.len)).foldl (· + ·) 0

/-- A stripe is closed: it opens no further row and all its rows are complete. -/
def Media.stripeClosed (m : Media) (sid : Nat) (t : Stripe) : Bool :=
  !t.isOpen && !(m.rows.any (fun e => decide (e.2.stripe = sid)))

/-- Copies of a stripe's records are being made. -/
def Media.copying (m : Media) (sid : Nat) : Bool :=
  m.reads.any (fun e => e.2.who == .copy sid) ||
    (m.stripes.get? sid).any (fun t => (m.sysLive t).any m.writing) ||
    m.copyWait.any (fun u => u.any (fun r => decide (r.src = some sid))) ||
    m.rows.any (fun e => e.2.recs.any (fun r => decide (r.src = some sid)))

/-- A pounce or a rebuild of a stripe is in progress (R210). -/
def Media.relocating (m : Media) (sid : Nat) (t : Stripe) : Bool :=
  m.pounces.any (fun e => decide (e.2.stripe = sid) && !e.2.pending) ||
    m.rebuilds.any (fun e => t.members.any (fun x => decide (x.1 = e.2.die)))

/-- A stripe holds a zone that is not full (R220). -/
def State.zoneHeld (s : State) (t : Stripe) : Bool :=
  match t.stream with
  | .zone ns z => match s.media.namespaces.get? ns with
    | some n => (s.zone n z).st.active
    | none => false
  | _ => false

/-- The blocks of a stripe without valid data are released for erase (R210, R211). -/
def State.freeStripe (s : State) (sid : Nat) (t : Stripe) : State :=
  let s := s.setMedia (fun m =>
    let m := { m with
      stripes := m.stripes.del sid
      victim := if m.victim.any (fun v => decide (v.stripe = sid)) then none else m.victim
      pounces := m.pounces.filter (fun e => e.2.stripe ≠ sid || e.2.emerg) }
    t.members.foldl (fun m x =>
      if (m.die x.1).bad.contains x.2 ∨ !m.inService x.1 then m
      else m.setDie x.1 (fun d => { d with dirty := d.dirty ++ [x.2] })) m)
  t.members.foldl (fun s x => if s.media.inService x.1 then s.keepErased x.1 else s) s

/-- Stripes that closed get their totals, and closed stripes without valid data are freed without copying (R210). -/
def State.settleStripes (s : State) : State :=
  s.media.stripes.foldl (fun s e =>
    match s.media.stripes.get? e.1 with
    | none => s
    | some t =>
      if !s.media.stripeClosed e.1 t then s
      else
        let s := if t.total = 0 then
          s.setMedia (fun m => { m with stripes := m.stripes.mod e.1 (fun t =>
            { t with total := recUnits (m.stripeRecs t), closedAt := s.clocks.opsec.toNat }) }) else s
        if (s.media.validIn t).isEmpty && (s.media.sysLive t).isEmpty && !s.media.copying e.1 then s.freeStripe e.1 t else s) s

/-! ### Copies -/

/-- A unit has a landing line that will supersede its record (R211). -/
def State.lineComing (s : State) (r : Rec) : Bool :=
  s.land.lines.any (fun e => decide (e.2.ns = r.ns) &&
    decide (e.2.granule / s.media.perUnit r.ns = r.granule / s.media.perUnit r.ns) &&
    (e.2.st == .committed || e.2.st == .packed))

/-- A record is being copied already. -/
def Media.beingCopied (m : Media) (r : Rec) : Bool :=
  m.reads.any (fun e => e.2.grans.contains (gkey r.ns r.granule) && (match e.2.who with
    | .copy _ | .rebuild1 _ | .rebuild2 _ => true
    | _ => false)) ||
  m.copyWait.any (fun u => u.any (fun x => decide (x.ns = r.ns) && decide (x.granule = r.granule))) ||
  m.rows.any (fun e => e.2.recs.any (fun x => x.src.isSome && decide (x.ns = r.ns) && decide (x.granule = r.granule)))

/-- The valid records of a list are read to be copied, page by page (R211). -/
def State.startCopies (s : State) (who : ReadFor) (rs : List Rec) : State :=
  s.readRecs who (rs.filter (fun r => s.media.valid r && !s.lineComing r && !s.media.beingCopied r)) 6

/-- The map records in some places are written again into the system stream (R195, R199). -/
def State.moveRecords (s : State) (f : Place → Bool) : State :=
  if s.media.pagesIn f = [] then s else (s.setMedia (fun m => m.moveSystem (m.pagesIn f))).systemGo

/-! ### Fulling (R210, R212, R213) -/

def State.fullingHost (s : State) : Bool := decide (s.param 0x7000 1 = 1)

/-- Fulling may run now (R212, R213). -/
def State.fullingRuns (s : State) : Bool :=
  s.readsGo && (if s.fullingHost then s.media.window || s.media.anyAtMost s.freeLo else s.media.anyAtMost s.freeHi)

/-- The score of R210, in hours. -/
def score (valid total age bias : Nat) : Rat :=
  if total = 0 then 0 else ((total - valid : Nat) : Rat) * ((age + bias : Nat) : Rat) / (((total + valid : Nat) : Rat) * 3600)

/-- The fulling candidates (R210): stripe number, stripe, valid units. -/
def State.candidates (s : State) : List (Nat × Stripe × Nat) :=
  (s.media.stripes.filter (fun e => s.media.stripeClosed e.1 e.2 && decide (e.2.stream ≠ .system) &&
    !s.media.relocating e.1 e.2 && !s.zoneHeld e.2)).map
    (fun e => (e.1, e.2, recUnits (s.media.validIn e.2)))

def State.scoreOf (s : State) (c : Nat × Stripe × Nat) : Rat :=
  score c.2.2 c.2.1.total (s.clocks.opsec.toNat - c.2.1.closedAt) (s.param 0x3310 3)

/-- The candidate with the highest score, lower stripe number first (R210). -/
def State.bestOf (s : State) (cs : List (Nat × Stripe × Nat)) : Option (Nat × Stripe × Nat) :=
  cs.foldl (fun (b : Option (Nat × Stripe × Nat)) c =>
    match b with
    | none => some c
    | some x => if s.scoreOf x < s.scoreOf c then some c else some x) none

/-- The victim that R210 chooses: a named candidate, else the best of the group with the lowest free level among those
that have a candidate. -/
def State.chooseVictim (s : State) : Option (Nat × Stripe × Nat) :=
  let cs : List (Nat × Stripe × Nat) := s.candidates
  match (match s.media.target with
    | some t => cs.find? (fun (c : Nat × Stripe × Nat) => c.1 = t)
    | none => none) with
  | some c => some c
  | none =>
    let cs : List (Nat × Stripe × Nat) := cs.filter (fun c => decide (c.2.2 < c.2.1.total) && (!s.service || s.media.ftl[Fin.ofNat 8 c.2.1.group].fullEn))
    let low := cs.foldl (fun (b : Option Nat) c =>
      match s.media.freeLevel c.2.1.group, b with
      | some l, some x => some (min l x)
      | some l, none => some l
      | none, b => b) none
    s.bestOf (cs.filter (fun c => decide (s.media.freeLevel c.2.1.group = low)))

/-- A victim is chosen and its copying starts, if fulling may run and none is being copied (R210). -/
def State.pickVictim (s : State) : State :=
  if s.media.victim.isSome ∨ (!s.fullingRuns && s.media.target.isNone) then s
  else match s.chooseVictim with
    | none => s
    | some c =>
      let s := s.setMedia (fun m => { m with
        victim := some { stripe := c.1, left := (m.validIn c.2.1).length }
        target := if m.target = some c.1 then none else m.target })
      s.startCopies (.copy c.1) (s.media.validIn c.2.1)

/-- The credit that a completed host row earns (R212, R213): m · u / (1 − u), u at most 15/16. -/
def State.rowCredit (s : State) : Rat :=
  match s.media.victim with
  | none => 0
  | some v => match s.media.stripes.get? v.stripe with
    | none => 0
    | some t =>
      if t.total = 0 then 0
      else
        let u : Rat := min ((recUnits (s.media.validIn t) : Rat) / (t.total : Rat)) (15 / 16)
        let m : Rat := if s.fullingHost then (if s.media.window then 2 else 1)
          else if s.media.anyAtMost s.freeLo then 2 else 1
        m * u / (1 - u)

/-! ### Pounce (R205 to R209) -/

def State.rdThresh (s : State) : Nat := s.param 0x3320 (if s.media.qlc then 1 else 0)

/-- Triggers of stripe scope (R205). -/
def stripeScope (trigger : Nat) : Bool := decide (5 ≤ trigger) && decide (trigger ≤ 7)

/-- The DATA of a pounce's events (R535). -/
def Pounce.data (p : Pounce) : List Byte :=
  leBytes 4 p.stripe ++ leBytes 2 p.die ++ leBytes 2 p.block ++ leBytes 1 p.trigger

/-- The slice of a pounce's events: the owner of the block, or of the group's fulling. -/
def Media.pounceSlice (m : Media) (p : Pounce) : Nat :=
  if p.die = 0xFFFF then ((m.stripes.get? p.stripe).map (fun t => t.group % 8)).getD 0 else (sliceOf p.die).val

/-- The records of a pounce's scope. -/
def Media.pounceRecs (m : Media) (p : Pounce) : List Rec :=
  match m.stripes.get? p.stripe with
  | none => []
  | some t => if p.die = 0xFFFF then m.validIn t
      else (m.validIn t).filter (fun r => decide (r.die = p.die) && decide (r.block = p.block))

/-- A place lies in a pounce's scope. -/
def Media.inScope (m : Media) (p : Pounce) (x : Place) : Bool :=
  if p.die = 0xFFFF then (m.stripes.get? p.stripe).any (fun t => t.members.contains (x.die, x.block))
  else decide (x.die = p.die) && decide (x.block = p.block)

/-- A pounce starts: its event, and the copying of its records, those of the system band within it (R199, R207). -/
def State.startPounce (s : State) (id : Nat) : State :=
  match s.media.pounces.get? id with
  | none => s
  | some p =>
    let s := s.setMedia (fun m => { m with pounces := m.pounces.mod id (fun p => { p with pending := false }) })
    let s := s.log (if p.emerg then 0x3201 else 0x3200) (s.media.pounceSlice p) p.data
    (s.startCopies (.copy p.stripe) (s.media.pounceRecs p)).moveRecords (s.media.inScope p)

/-- The pounce scan of a stripe reads one codeword of the last programmed page of each of its blocks (R205, R206). -/
def State.scanStripe (s : State) (t : Stripe) : State :=
  if t.nextRow = 0 ∨ s.media.reads.any (fun e => e.2.who == .scan && t.members.contains (e.2.die, e.2.block)) then s
  else t.members.foldl (fun s x =>
    let page := t.nextRow * s.media.types - 1
    if s.media.heads.has (pageKey x.1 x.2 page) then s.readCws .scan x.1 x.2 page [(0, [0])] 6 else s) s

/-- A trigger of R205 for a block, or for its stripe: a new pounce, or a stronger kind of one that stands. -/
def State.trigger (s : State) (die block trig : Nat) : State :=
  match s.media.stripeOf die block with
  | none => s
  | some t =>
    let emerg := decide (trig = 2) || decide (trig = 4)
    let wide := stripeScope trig
    let d := if wide then 0xFFFF else die
    let b := if wide then 0xFFFF else block
    let victim : Bool := match s.media.victim with
      | some v => decide (v.stripe = t.1)
      | none => false
    match s.media.pounces.find? (fun e => decide (e.2.stripe = t.1) && decide (e.2.die = d) && decide (e.2.block = b)) with
    | some e =>
      if emerg ∧ !e.2.emerg then
        (s.setMedia (fun m => { m with pounces := m.pounces.mod e.1 (fun p =>
          { p with emerg := true, trigger := trig }) })).startPounce e.1
      else s
    | none =>
      if victim ∨ (wide ∧ t.2.isOpen) ∨ (!emerg && !s.media.ftl[sliceOf die].pounceEn) then s
      else
        let hold := !emerg && decide (s.param 0x7000 2 = 1)
        let id := s.media.nextPounce
        let p : Pounce := { stripe := t.1, die := d, block := b, trigger := trig, emerg := emerg, pending := hold }
        let s := s.setMedia (fun m => { m with pounces := m.pounces.put id p, nextPounce := id + 1 })
        let s := if hold then s else s.startPounce id
        if trig = 3 ∧ s.media.ftl[sliceOf die].scanEn ∧ s.media.stripeClosed t.1 t.2 then s.scanStripe t.2 else s

/-- The read count of a block against its thresholds (R205): normal at RD_THRESH, emergency at 125 %. -/
def State.countTrigger (s : State) (die block : Nat) : State :=
  let n := (s.media.readCnt.get? (die * 8192 + block)).getD 0
  if 4 * n ≥ 5 * s.rdThresh then s.trigger die block 2
  else if n ≥ s.rdThresh then s.trigger die block 1
  else s

/-! ### Read-only (R222) -/

/-- The current spare is below 2 %. -/
def Media.spareLow (m : Media) : Bool := decide (((m.payload : Int) - m.guaranteed) * 50 < m.payload)

/-- Every zone goes to the read-only state (R220). -/
def Namespace.lockZones (n : Namespace) : Namespace :=
  { n with zones := n.zones.map (fun e => (e.1, { e.2 with st := .readOnly })) }

def State.checkSpare (s : State) : State :=
  if s.media.readOnly ∨ !s.media.spareLow ∨ s.media.guaranteed = 0 then s
  else
    let sp := s.media.spare
    let word : Nat := if sp < 0 then 2 ^ 32 - sp.natAbs % 2 ^ 32 else sp.natAbs
    (s.setMedia (fun m => { m with readOnly := true
                                   namespaces := m.namespaces.map (fun e => (e.1, e.2.lockZones)) })).log 0x3300 0xFF
      (leBytes 4 word ++ leBytes 8 s.media.payload)

/-! ### Failures of blocks and dies -/

/-- A stripe is closed at a failed row: the data of its incomplete rows is packed again from its lines, and copies resume
from their source (R96). -/
def State.failStripe (s : State) (sid : Nat) : State :=
  let rows := s.media.rows.filter (fun e => decide (e.2.stripe = sid))
  let ids := rows.map (·.1)
  let recs := (rows.flatMap (fun e => e.2.recs)).filter (fun r => !r.dead)
  let back := recs.filterMap (fun r => if r.src.isNone then r.line else none)
  let mine (l : Line) : Bool := match l.row with
    | some x => ids.contains x.1
    | none => false
  let again (e : Nat × Line) : Nat × Line :=
    if back.contains e.1 ∨ (mine e.2 ∧ e.2.st == .committed) then (e.1, { e.2 with st := .committed, row := none, frame := none })
    else e
  let stay (o : QOp) : Bool := match o with
    | .prog r .. => !ids.contains r
    | _ => true
  let gone := (s.land.lines.filter (fun e => mine e.2 && e.2.st == .packed && !back.contains e.1)).map (·.1)
  let s : State := { s with land := { s.land with lines := s.land.lines.map again } }
  let s := s.setMedia (fun m => { m with
    stripes := m.stripes.mod sid (fun t => { t with isOpen := false })
    rows := m.rows.filter (fun e => !ids.contains e.1)
    sysWait := rows.flatMap (fun e => e.2.sys.map (·.1)) ++ m.sysWait
    dies := m.dies.map (fun e => (e.1, { e.2 with queue := e.2.queue.filter stay })) })
  let s := s.freeLines gone
  let copies := recs.filter (fun r => r.src.isSome)
  let srcs := (copies.filterMap (·.src)).dedup
  let s := srcs.foldl (fun s x => match s.media.stripes.get? x with
    | some t => s.startCopies (.copy x) ((s.media.validIn t).filter (fun r =>
        copies.any (fun c => decide (c.ns = r.ns) && decide (c.granule = r.granule))))
    | none => s) s
  s.dispatchAll.systemGo.settleStripes

/-- The first 24 hours' distinct failed blocks of a die, with one more (R172). -/
def noteBlock (xs : List (Nat × Nat)) (block now : Nat) : List (Nat × Nat) :=
  (block, now) :: xs.filter (fun e => e.1 ≠ block && decide (now ≤ e.2 + 86400))

/-- A request of an export area ends with a code (RDC_EXP_STAT). -/
def State.expEnd (s : State) (p : Fin 2) (code : Nat) : State :=
  s.setMedia (fun m => { m with expArea := m.expArea.upd p (fun a =>
    { a with busy := false, done := true, code := BitVec.ofNat 8 code, waitPage := none }) })

/-- A ladder of a read that serves another ladder's step 6 leaves the table; it was recovered, or its codeword is lost (R133). -/
def Media.memberEnd (m : Media) (rid main : Nat) (ok : Bool) : Media :=
  { m with reads := (m.reads.del rid).mod main (fun (l : Ladder) =>
      { l with members := l.members - 1, memberLost := l.memberLost || !ok }) }

/-- The reads of a failed die end as R173 states: each ladder goes on at step 6, a rebuild's member read is unrecovered,
an export ends with CODE 0x01. A read of another member of the same row finds one more member down (R133). -/
def State.failReads (s : State) (d : Nat) : State :=
  let hit := s.media.reads.filter (fun e => decide (e.2.die = d))
  hit.foldl (fun s e =>
    match e.2.who with
    | .member rid => s.setMedia (fun m => m.memberEnd e.1 rid false)
    | .export_ p => (s.setMedia (fun m => { m with reads := m.reads.del e.1 })).expEnd p 1
    | _ => if e.2.step = 6 then s else
        (s.setMedia (fun m => m.setRead e.1 (fun l => { l with ran := l.step :: l.ran }))).startStep e.1 6) s

/-- The valid records that a phase of a rebuild moves: in phase 1 those on the die, the most-read blocks first; in phase 2 every
other one of the stripes that had a block on it (R175). -/
def Media.rebuildRecs (m : Media) (d phase : Nat) : List Rec :=
  let hurt := (m.stripes.filter (fun e => e.2.members.any (fun x => x.1 = d))).flatMap (fun e => m.validIn e.2)
  let count (r : Rec) : Nat := (m.readCnt.get? (r.die * 8192 + r.block)).getD 0
  if phase = 1 then (hurt.filter (fun r => r.die = d)).mergeSort (fun a b => decide (count b ≤ count a))
  else hurt.filter (fun r => r.die ≠ d)

/-- A die is declared failed (R172 to R177). -/
def State.dieFails (s : State) (d reason : Nat) : State :=
  if s.media.dieFailed d ∨ !(s.media.dies_.contains d) then s
  else
    let g := groupOf d
    let first := s.media.rebuilds.find? (fun e => decide (groupOf e.2.die = g))
    let s := s.setFch (chOf d) (fun f => { f with failed := f.failed ||| (1 <<< posOf d) })
    let s := s.log 0x3020 (sliceOf d).val (leBytes 2 d ++ leBytes 1 reason)
    let s := match first with
      | some e => s.log 0x3023 0xFF (leBytes 1 g ++ leBytes 2 e.2.die ++ leBytes 2 d)
      | none => s
    let s := (s.setDie d (fun x => { x with
      queue := [], op := .idle, suspending := false, readAt := none, window := none, dirty := [], returning := false })).busDrop (chOf d)
      (fun x => decide (x = d))
    let s := s.setMedia (fun m => { m with
      rebuildWarn := true, rebuilds := m.rebuilds.put d { die := d, phase := 1, records := 0 } })
    let s := s.failReads d
    let hurt := s.media.stripes.filter (fun e =>
      e.2.members.any (fun x => x.1 = d) && !s.media.stripeClosed e.1 e.2)
    let s := hurt.foldl (fun s e => s.failStripe e.1) s
    let order := s.media.rebuildRecs d 1
    let s := s.setMedia (fun m => { m with rebuilds := m.rebuilds.mod d (fun r => { r with records := order.length }) })
    let s := (s.startCopies (.rebuild1 d) order).moveRecords (fun p => decide (p.die = d))
    (s.checkSpare.recompute).pumpChannel (chOf d)

/-- The data of a failed block's stripe: an open stripe fails, and the block's valid records are copied (R96). -/
def State.leaveBlock (s : State) (d b : Nat) : State :=
  let s := s.moveRecords (fun p => decide (p.die = d) && decide (p.block = b))
  match s.media.stripeOf d b with
  | some t =>
    let s := if s.media.stripeClosed t.1 t.2 then s else s.failStripe t.1
    s.startCopies (.copy t.1) ((s.media.validIn t.2).filter (fun r => decide (r.die = d) && decide (r.block = b)))
  | none => s

/-- A block fails to program or erase: it is grown-bad, its valid data is relocated, and the eighth distinct block in 24
hours fails the die (R96, R172). -/
def State.blockFails (s : State) (d b w op : Nat) : State :=
  let now := s.clocks.opsec.toNat
  let s := s.log 0x3101 (sliceOf d).val (leBytes 2 d ++ leBytes 2 b ++ leBytes 2 w ++ leBytes 1 op)
  let s := s.setDie d (fun x => { x with
    bad := if x.bad.contains b then x.bad else x.bad ++ [b]
    dirty := x.dirty.filter (· ≠ b)
    failBlocks := noteBlock x.failBlocks b now })
  let s := s.leaveBlock d b
  if 8 ≤ ((s.media.die d).failBlocks).length then s.dieFails d 2 else s

/-- A read of a die ended at step 6 or above: the third distinct block within 1,000 reads of the die fails it (R172). -/
def State.noteStep6 (s : State) (d b : Nat) : State :=
  let s := s.setDie d (fun x => { x with
    step6 := (b, x.reads) :: x.step6.filter (fun e => e.1 ≠ b && decide (x.reads ≤ e.2 + 1000)) })
  if 3 ≤ ((s.media.die d).step6).length then s.dieFails d 3 else s

/-- Copies of a die's rebuild are still on their way: being read, waiting for a row, or in a row that is not complete. -/
def Media.rebuildBusy (m : Media) (d : Nat) : Bool :=
  let mine (r : Rec) : Bool := r.src.any (fun sid => (m.stripes.get? sid).any (fun t => t.members.any (fun x => x.1 = d)))
  m.reads.any (fun e => e.2.who == .rebuild1 d || e.2.who == .rebuild2 d) || m.copyWait.any (fun u => u.any mine) ||
    m.rows.any (fun e => e.2.recs.any mine)

/-- The copies of the rebuilds start again, after a restart has ended those in progress (R175). -/
def State.resumeRebuilds (s : State) : State :=
  s.media.rebuilds.foldl (fun s e =>
    s.startCopies (if e.2.phase = 1 then .rebuild1 e.1 else .rebuild2 e.1) (s.media.rebuildRecs e.1 e.2.phase)) s

/-- Phase 1 of a rebuild has ended: event 0x3021, and phase 2 starts with the other valid records of every stripe that
had a block on the die (R175). -/
def State.rebuild1End (s : State) (d : Nat) : State :=
  match s.media.rebuilds.get? d with
  | none => s
  | some r =>
    if r.phase ≠ 1 ∨ s.media.rebuildBusy d then s
    else
      let s := (s.setMedia (fun m => { m with rebuilds := m.rebuilds.mod d (fun r => { r with phase := 2 }) })).log 0x3021
        (sliceOf d).val (leBytes 2 d ++ leBytes 8 r.records)
      (s.startCopies (.rebuild2 d) (s.media.rebuildRecs d 2)).moveRecords (fun p =>
        s.media.stripes.any (fun e => e.2.members.any (fun x => x.1 = d) && e.2.members.contains (p.die, p.block)))

/-- Phase 2 has ended: event 0x3022; the reliability warning clears with the last rebuild (R175, R176). -/
def State.rebuild2End (s : State) (d : Nat) : State :=
  match s.media.rebuilds.get? d with
  | none => s
  | some r =>
    if r.phase ≠ 2 ∨ s.media.rebuildBusy d then s
    else
      let hs := s.media.stripes.filterMap (fun e =>
        if e.2.members.any (fun x => x.1 = d) then (match e.2.stream with
          | .host h => some h
          | _ => none) else none)
      (s.setMedia (fun m => { m with
        rebuilds := m.rebuilds.del d
        rebuildWarn := decide (1 < m.rebuilds.length)
        fdpEvents := if m.fdp then m.fdpEvents ++ hs.dedup.map (fun h => (h, 3)) else m.fdpEvents })).log 0x3022
        (sliceOf d).val (leBytes 2 d)

end Sys2Proof.Machine
end

