-- ==== Sys2Proof/Machine/Landing.lean ====
section
/-! DEFINITION. The landing of a write (R56 to R67, R100): destination, pool reservation, lines, merge, read-back and
commit, shared by Write, Zone Append and Copy. -/

namespace Sys2Proof.Machine

open Sys2Proof

/-! ### Where a granule's present data is -/

/-- Where the data of a granule is: a landing line, a record, zeros (R181), lost (R248), or behind a map page that is not
in the cache (R193). -/
inductive Src where
  | line (data : List Sector)
  | zeros
  | lost
  | page (pk : Nat)
  | record (r : Rec)
deriving DecidableEq, Repr

/-- The source of a granule: landing lines first (R64). -/
def State.source (s : State) (ns : Nat) (n : Namespace) (g : Nat) : Src :=
  match s.land.hit ns g with
  | some l => .line l.2.data
  | none =>
    if s.media.lost.contains (gkey ns g) then .lost
    else
      let u := n.unitOf g
      if !s.media.pageHere (mapPageKey ns u) then .page (mapPageKey ns u)
      else match s.media.map.get? (gkey ns u) with
        | none | some .zero => .zeros
        | some e => match s.media.recOf ns g e with
          | some r => .record r
          | none => .lost

/-- The map pages that looking up granules uses: those of units without a landing line (R64, R189). -/
def State.lookedUp (s : State) (ns : Nat) (n : Namespace) (gs : List Nat) : List Nat :=
  ((gs.filter (fun g => (s.land.hit ns g).isNone)).map (fun g => mapPageKey ns (n.unitOf g))).dedup.filter s.media.resident.contains

/-- The data of a record as it is read: what was written while its key is held; under an erased or another key it is
undefined (R67, R369). The second component says whether a free value was used. -/
def State.recData (s : State) (ns : Nat) (n : Namespace) (r : Rec) (tag : Option Nat) : List Sector × Bool :=
  match s.keyFor ns n (n.unitOf r.granule) tag with
  | some k => if (decide (k.1 < 64), k.2) = (decide (r.keySlot < 64), r.keyGen) then (r.data, false)
      else ((List.range 8).map (fun i => Config.freeSector (s.free + i)), true)
  | none => ((List.range 8).map (fun i => Config.freeSector (s.free + i)), true)

/-! ### Destinations -/

/-- The destination of a write-type command. -/
structure Dest where
  ns : Nat
  n : Namespace
  slba : Nat
  nlb : Nat
  handle : Nat
  raw : Bool
  tag : Option Nat
  cmb : List CmbPtr
  /-- a Write Zeroes lands only the units that it covers in part: their granules -/
  only : Option (List Nat) := none
deriving DecidableEq, Repr

def State.destOfReq (s : State) (p : Fin 2) (r : WriteReq) (append : Bool) : Option Dest :=
  match s.nsOf p r.nsid with
  | none => none
  | some (i, n) =>
    let slba := if append then
        let z := n.granuleOf r.slba / s.media.zoneSize
        n.lbaOf (z * s.media.zoneSize + (s.zone n z).wp)
      else r.slba
    some { ns := i, n := n, slba := slba, nlb := r.nlb, handle := if n.placement = 1 then r.handle.getD 0 else 0,
           raw := r.incompressible && decide (s.param 0x7002 i = 1), tag := r.keyTag, cmb := r.cmb }

/-- The granules of the units that a run covers in part. -/
def Namespace.partUnits (n : Namespace) (slba nlb : Nat) : List Nat :=
  (n.unitGranules slba nlb).filter (fun g =>
    let u := n.unitOf g * n.perUnit * 8
    !(decide (slba * n.spb ≤ u) && decide (u + 8 * n.perUnit ≤ (slba + nlb) * n.spb)))

/-- The units that a run covers wholly: first and number (R183). -/
def Namespace.wholeRun (n : Namespace) (slba nlb : Nat) : Nat × Nat :=
  let w := 8 * n.perUnit
  let a := ceilDiv (slba * n.spb) w
  (a, (slba + nlb) * n.spb / w - a)

/-- The destination of a command, if it has one and its namespace stands. -/
def State.destOf (s : State) (c : Cmd) : Option Dest :=
  match c.cmd with
  | .write r => s.destOfReq c.port r false
  | .zoneAppend r => s.destOfReq c.port r true
  | .copy nsid sdlba _ ranges => match s.nsOf c.port nsid with
    | none => none
    | some (i, n) => some { ns := i, n := n, slba := sdlba, nlb := (ranges.map (·.2)).foldl (· + ·) 0, handle := 0,
                            raw := false, tag := none, cmb := [] }
  | .writeZeroes nsid slba nlb _ => match s.nsOf c.port nsid with
    | none => none
    | some (i, n) => some { ns := i, n := n, slba := slba, nlb := nlb, handle := 0, raw := false, tag := none, cmb := [],
                            only := some (n.partUnits slba nlb) }
  | _ => none

def Dest.granules (d : Dest) : List Nat := d.only.getD (d.n.unitGranules d.slba d.nlb)
def Dest.first (d : Dest) : Nat := d.slba * d.n.spb
def Dest.sectors (d : Dest) : Nat := d.nlb * d.n.spb

/-- The granules of the units that the write covers only in part (R63): the merge fills each such unit's lines with its current
contents, so that one lost or unreadable granule of the unit fails it, overwritten or not. -/
def Dest.partly (d : Dest) : List Nat :=
  let part := d.n.partUnits d.slba d.nlb
  d.granules.filter (fun g => part.contains g)

/-! ### Zones (R217 to R219) -/

/-- The zone of a destination and its number. -/
def State.zoneOf (s : State) (d : Dest) : Nat × Zone :=
  let z := d.n.granuleOf d.slba / s.media.zoneSize
  (z, s.zone d.n z)

/-- What a write to a zoned namespace must meet. -/
def State.zoneCheck (s : State) (d : Dest) : Option Status :=
  if !d.n.zoned then none
  else
    let z := s.zoneOf d
    let g := d.n.granuleOf d.slba
    let len := ceilDiv d.sectors 8
    if z.2.st = .readOnly then some .zoneReadOnly
    else if z.2.st = .full then some .zoneFull
    else if g ≠ z.1 * s.media.zoneSize + z.2.wp then some .zoneInvalidWrite
    else if z.2.cap < z.2.wp + len then some .zoneBoundary
    else if z.2.st = .empty ∧ s.media.activeMax ≤ s.media.zonesWith ZoneSt.active then some .tooManyActiveZones
    else none

/-- The write pointer moves past an acknowledged write; a zone at its capacity is full and its stripe is closed at its
current row (R218, R219). -/
def State.zoneAdvance (s : State) (d : Dest) : State :=
  if !d.n.zoned then s
  else
    let z := s.zoneOf d
    let wp := z.2.wp + ceilDiv d.sectors 8
    let st := if wp = z.2.cap then ZoneSt.full else if z.2.st = .explOpen then .explOpen else .implOpen
    s.setZone d.ns z.1 (fun q => { q with wp := wp, st := st })

/-! ### CMB data (R260 to R262) -/

def sectorBytes (x : Sector) : List Byte := leBytes 512 x.toNat
def sectorOf (bs : List Byte) : Sector := BitVec.ofNat 4096 (ofLeBytes (padTo 512 0 bs))

/-- The contents of a slot; undefined until the host writes it (R262). -/
def State.slotData (s : State) (p : Fin 2) (k : Nat) : List Sector :=
  (s.land.cmb[p].data.get? k).getD ((List.range 8).map (fun i => Config.freeSector (s.free + 8 * k + i)))

/-- Sectors out of a byte string. -/
def toSectors : Nat → List Byte → List Sector
  | 0, _ => []
  | n + 1, bs => sectorOf (bs.take 512) :: toSectors n (bs.drop 512)

/-- The bytes that data pointer entries address, as sectors. -/
def State.cmbSectors (s : State) (p : Fin 2) (ptrs : List CmbPtr) (n : Nat) : List Sector :=
  toSectors n (ptrs.flatMap (fun e =>
    let bytes := (ptrSlots e).flatMap (fun k => (s.slotData p k).flatMap sectorBytes)
    (bytes.drop (e.offset % 4096)).take e.len))

/-! ### Reservation and lines -/

/-- The pool covers `units` 16-byte units more for an expanded-capacity namespace (R100, R214). -/
def Media.poolCovers (m : Media) (n : Namespace) (units : Nat) : Bool :=
  n.factor.isNone || decide (m.charged + units * 16 ≤ m.pool)

/-- Lines enter the table as filling, one for each granule (R56), with 4,096 bytes reserved for each (R100). -/
def State.placeLines (s : State) (fseq : Nat) (d : Dest) (adopted : Bool) (ls : List Nat) : State :=
  let mk (g : Nat) : Line :=
    { ns := d.ns, granule := g, cmdSeq := fseq, data := [], raw := d.raw, handle := d.handle, adopted := adopted }
  let lines : AMap Line := (ls.zip d.granules).foldl (fun m x => m.put x.1 (mk x.2)) s.land.lines
  let s : State := { s with land := { s.land with lines := lines, released := s.land.released.filter (fun n => !ls.contains n) } }
  (s.setMedia (fun m => m.reserve d.ns (256 * ls.length))).setCmd fseq (fun c => { c with lines := ls })

/-- Slots are adopted: their lines pass to the command and the slots wait to be bound again (R262). -/
def State.adopt (s : State) (p : Fin 2) (fseq : Nat) (ks : List Nat) : State :=
  let one (c : CmbPort) (k : Nat) : CmbPort :=
    { c with unbound := c.unbound ++ [k], moved := c.moved.del k, data := c.data.del k, adopted := c.adopted.put k fseq }
  let s : State := { s with land := { s.land with cmb := s.land.cmb.upd p (fun c => ks.foldl one c) } }
  let s : State := { s with free := s.free + 8 * (ks.foldl (fun m k => max m (k + 1)) 0) }
  s.setCmd fseq (fun c => { c with slots := ks })

/-- The internal address of the last burst that a write puts into line `n`, which holds granule `g`: of the last sector that the
host wrote there, or of the line where a merge alone filled it (R60, R63). -/
def Dest.lastBurst (d : Dest) (n g : Nat) : Nat :=
  let stop := min 8 (d.first + d.sectors - g * 8)
  landingBase + 4096 * n + (if stop = 0 ∨ g * 8 + 8 ≤ d.first then 4096 else 512 * stop) - 32

/-- The read-backs of a write: one on each DRAM channel that it wrote (R55, R60), of the channel's last line in the order of the
granules, host data after merged data (DESIGN CHOICE, notes/assumptions/58.md). -/
def Dest.readBacks (d : Dest) (ls : List Nat) : List (Nat × Nat) :=
  let at_ := ls.zip d.granules
  let host (x : Nat × Nat) : Bool := decide (d.first < x.2 * 8 + 8) && decide (x.2 * 8 < d.first + d.sectors)
  (at_.filter (fun x => !host x) ++ at_.filter host).foldl (fun (m : AMap Nat) x => m.put (x.1 % 16) (d.lastBurst x.1 x.2)) []

/-- The read-backs of a write are issued. -/
def State.issueReadBacks (s : State) (fseq : Nat) (d : Dest) (ls : List Nat) : State :=
  (s.setCmd fseq (fun c => { c with phase := .landed })).emits
    ((d.readBacks ls).map (fun x => Output.readBack (Fin.ofNat 16 x.1) x.2))

/-- Lines of a command that do not count yet and will at its commit. -/
def Landing.toCount (l : Landing) (ls : List Nat) : Nat :=
  (ls.filter (fun n => match l.lines.get? n with
    | some x => !x.counts
    | none => false)).length

/-- Lines that writes with their read-backs under way are about to commit. -/
def State.committing (s : State) : Nat :=
  ((s.cmq.cmds.filter (fun e => e.2.phase == .landed)).map (fun e => s.land.toCount e.2.lines)).foldl (· + ·) 0

/-- The counted lines after a commit of these lines stay within the limit (R57), or the device is in write-through mode (R58). -/
def State.mayCommit (s : State) (ls : List Nat) (others : Nat) : Bool :=
  s.land.wt || decide (s.land.counted + s.land.toCount ls + others ≤ s.land.limit)

/-- A write whose data is in its lines issues its read-backs, or waits while the counted lines would pass the limit, those that
other read-backs are about to commit among them (R57, R58). -/
def State.tryReadBack (s : State) (fseq : Nat) : State :=
  match s.cmq.cmds.get? fseq with
  | none => s
  | some c => match s.destOf c with
    | none => s
    | some d =>
      if s.mayCommit c.lines s.committing then s.issueReadBacks fseq d c.lines
      else s.setCmd fseq (fun c => { c with phase := .waitCommit })

/-- The lines are filled once the data and every merged granule are there (R63). -/
def State.tryLand (s : State) (fseq : Nat) : State :=
  match s.cmq.cmds.get? fseq with
  | none => s
  | some c => match s.destOf c with
    | none => s
    | some d =>
      if c.wdata = [] ∨ c.awaiting ≠ [] then s
      else
        let old (g : Nat) : List Sector := (c.got.get? g).getD zeroGranule
        let lines : AMap Line := (c.lines.zip d.granules).foldl (fun m x =>
          m.mod x.1 (fun l => { l with data := overlay d.first d.sectors x.2 c.wdata (old x.2) })) s.land.lines
        ({ s with land := { s.land with lines := lines } }).tryReadBack fseq

/-- The old contents of partly covered granules are fetched (R63): from lines, as zeros, or by reads. -/
def State.startMerge (s : State) (fseq : Nat) (d : Dest) : State :=
  let srcs := d.partly.map (fun g => (g, s.source d.ns d.n g))
  let got (e : Nat × Src) : Option (Nat × List Sector) := match e.2 with
    | .line x => some (e.1, x)
    | .zeros => some (e.1, zeroGranule)
    | _ => none
  let recs := srcs.filterMap (fun e => match e.2 with
    | .record r => some r
    | _ => none)
  let s := s.setCmd fseq (fun c => { c with
    phase := if recs = [] then .filling else .merging
    got := (srcs.filterMap got).foldl (fun (m : AMap (List Sector)) x => m.put x.1 x.2) c.got
    awaiting := recs.map (·.granule) })
  (s.setMedia (fun m => (s.lookedUp d.ns d.n d.partly).foldl Media.touch m)).readRecs (.merge fseq) recs 6

/-- A command that has adopted slots goes on once each of them is bound to a free line again; until then it waits at stage 2 for free
lines (R57, R262). -/
def State.tryFill (s : State) (fseq : Nat) : State :=
  match s.cmq.cmds.get? fseq with
  | none => s
  | some c => match s.destOf c with
    | none => s
    | some d => if s.slotsBack c then (s.startMerge fseq d).tryLand fseq else s

/-- The write's lines: adopted slots on the fast path, else free lines of the region; it waits while too few are free
(R57, R261, R262). `data` is what the command already holds. -/
def State.takeLines (s : State) (fseq : Nat) (p : Fin 2) (d : Dest) (data : List Sector) : State :=
  if d.cmb ≠ [] ∧ fastPath d.n { nsid := 0, slba := d.slba, nlb := d.nlb, cmb := d.cmb } then
    let ks := d.cmb.map (fun e => e.offset / 4096)
    let ls := ks.filterMap (s.land.slotBound p)
    let data := s.cmbSectors p d.cmb d.sectors
    let s := (s.adopt p fseq ks).placeLines fseq d true ls
    let s : State := { s with land := s.land.rebind p ks.length }
    (s.setCmd fseq (fun c => { c with wdata := data, phase := .rebind })).tryFill fseq
  else match s.land.alloc d.granules.length with
    | none => s.setCmd fseq (fun c => { c with phase := .waitLines })
    | some ls =>
      let data := if d.cmb ≠ [] then s.cmbSectors p d.cmb d.sectors else data
      let s := s.placeLines fseq d false ls
      let s := if data = [] then s else s.setCmd fseq (fun c => { c with wdata := data })
      (s.startMerge fseq d).tryLand fseq

/-- A map page that a write must have first: of a unit that it merges (R63, R193), or of one that a Write Zeroes sets (R190). -/
def State.pageFirst (s : State) (c : Cmd) (d : Dest) : Option Nat :=
  match (d.partly.map (s.source d.ns d.n)).findSome? (fun e => match e with
    | .page pk => some pk
    | _ => none) with
  | some pk => some pk
  | none => match c.cmd with
    | .writeZeroes .. => if s.readsGo then (s.media.absentIn d.ns [d.n.wholeRun d.slba d.nlb]).head? else none
    | _ => none

/-- A write-type command is checked and takes its lines. `data`: the data of a Copy, read already. -/
def State.landStart (s : State) (fseq : Nat) (data : List Sector) : State :=
  match s.cmq.cmds.get? fseq with
  | none => s
  | some c => match s.destOf c with
    | none => s.quit fseq .invalidNs
    | some d =>
      let srcs := d.partly.map (fun g => (g, s.source d.ns d.n g))
      match rangeCheck d.n d.slba d.nlb d.only.isNone with
      | some st => s.quit fseq st
      | none =>
        if s.readOnly then s.quit fseq .nsWriteProtected
        else if s.deniedRun d.ns d.n d.slba d.nlb d.tag true then s.quit fseq .accessDenied
        else if d.n.placement = 1 ∧ s.media.handleMax ≤ d.handle then s.quit fseq .invalidField
        else if s.cmbBad c.port fseq d.cmb then
          ({ s with cmq := { s.cmq with invalidCmb := satInc s.cmq.invalidCmb } }).quit fseq .invalidCmbUse
        else match s.zoneCheck d with
          | some st => s.quit fseq st
          | none => match srcs.find? (fun e => e.2 == .lost) with
            | some e => s.quit fseq .unrecoveredRead (d.n.lbaOf (d.n.unitOf e.1 * d.n.perUnit))
            | none => match s.pageFirst c d with
              | some pk => (s.setCmd fseq (fun c => { c with phase := .waitData, waitPage := some pk })).readMapPage pk
              | none =>
                if !s.media.poolCovers d.n (256 * d.granules.length) then s.quit fseq .capacityExceeded
                else s.takeLines fseq c.port d data

/-! ### Commit (R60, R65, R67) -/

/-- An older committed line of the granule that is not yet packed is superseded (R65). -/
def State.superseded (s : State) (fseq ns : Nat) (gs : List Nat) : List Nat :=
  (s.land.lines.filter (fun e => e.2.st == .committed && decide (e.2.ns = ns) && gs.contains e.2.granule &&
    decide (e.2.cmdSeq ≠ fseq))).map (·.1)

/-- The lines of granules are freed and their packed records never reach the map: the data is deallocated (R66, R377). -/
def State.discard (s : State) (hit : Nat → Nat → Bool) : State :=
  let dead (r : Rec) : Rec := if r.src.isNone && hit r.ns r.granule then { r with dead := true } else r
  let s := s.setMedia (fun m => { m with rows := m.rows.map (fun e => (e.1, { e.2 with recs := e.2.recs.map dead })) })
  s.freeLines ((s.land.lines.filter (fun e => hit e.2.ns e.2.granule &&
    (e.2.st == .committed || e.2.st == .packed))).map (·.1))

/-- Whole units become ZERO or TRIMMED (R183, R254): runs of first unit and number. -/
def State.setUnits (s : State) (ns : Nat) (n : Namespace) (zero : Bool) (runs : List (Nat × Nat)) : State :=
  let runs := runs.filter (fun r => r.2 ≠ 0)
  ((s.discard (fun i g => decide (i = ns) &&
    runs.any (fun r => decide (r.1 ≤ n.unitOf g) && decide (n.unitOf g < r.1 + r.2)))).setMedia
      (fun m => m.setStates ns zero runs)).systemGo.checkWear

/-- The whole units of a Write Zeroes. -/
def State.zeroUnits (s : State) (c : Cmd) (d : Dest) : State :=
  match c.cmd with
  | .writeZeroes _ _ _ dealloc => s.setUnits d.ns d.n (!dealloc) [d.n.wholeRun d.slba d.nlb]
  | _ => s

/-- All lines of a command become committed together, with their key slots, and the keys in them, bound (R67). Older lines that
are not yet packed are freed, under a write-through line as under any other (R65; DESIGN CHOICE, notes/assumptions/58.md). -/
def State.commitLines (s : State) (fseq : Nat) (c : Cmd) (d : Dest) : State :=
  let old := s.superseded fseq d.ns d.granules
  let wt := s.land.wt
  let key (g : Nat) : Nat × Nat := (s.keyFor d.ns d.n (d.n.unitOf g) d.tag).getD (0, 0)
  let lines : AMap Line := c.lines.foldl (fun m n => m.mod n (fun l =>
    { l with st := .committed, wt := wt, keySlot := (key l.granule).1, keyGen := (key l.granule).2 })) s.land.lines
  let s : State := { s with land := { s.land with lines := lines } }
  (s.freeLines old).zoneAdvance d

/-- The status Dword 0 of a completed write: a Zone Append returns its first logical block. -/
def Cmd.dw0 (c : Cmd) (d : Dest) : Nat := match c.cmd with
  | .zoneAppend _ => d.slba
  | _ => 0

/-- A committed write completes: after its rows for FUA and write-through (R58, R95), else at once. A limit that has fallen since the read-backs were issued sends the write back to wait before new ones (R57);
one whose key has been cleared meanwhile has no key to bind and fails as at its start (R67, R375). -/
def State.commit (s : State) (fseq : Nat) : State :=
  match s.cmq.cmds.get? fseq with
  | none => s
  | some c => match s.destOf c with
    | none => s.quit fseq .invalidNs
    | some d =>
      if d.granules.any (fun g => (s.keyFor d.ns d.n (d.n.unitOf g) d.tag).isNone) then s.quit fseq .accessDenied
      else if !s.mayCommit c.lines 0 then s.setCmd fseq (fun c => { c with phase := .waitCommit })
      else
      let wait := c.fua || s.land.wt
      let s := (s.commitLines fseq c d).zeroUnits c d
      let s :=
        if wait then s.setCmd fseq (fun c => { c with phase := .waitRows, result := c.dw0 d })
        else s.complete fseq .success (c.dw0 d)
      let z := s.zoneOf d
      let s := s.dispatchAll
      if d.n.zoned ∧ z.2.st = .full then match s.media.openStripe (.zone d.ns z.1) with
        | some t => s.closeStripe t.1
        | none => s
      else s

/-! ### What waits goes on -/

/-- Writes that waited for lines or for the limit go on, in fetch order (R57). -/
def State.goOn (s : State) : State :=
  (s.cmq.cmds.map (·.1)).foldl (fun s f => match s.cmq.cmds.get? f with
    | some c =>
      if c.phase = .waitLines then s.landStart f c.wdata
      else if c.phase = .rebind then s.tryFill f
      else if c.phase = .waitCommit then s.tryReadBack f
      else s
    | none => s) s

end Sys2Proof.Machine
end

