-- ==== Sys2Proof/Machine/HostReads.lean ====
section
/-! DEFINITION. Commands that read: Read, Compare, Verify and the source of a Copy (R102, R254, R264, R273), from lines, as
zeros or by ladders, and what happens when their data is there. -/

namespace Sys2Proof.Machine

open Sys2Proof

/-- The namespace and ranges that a command reads, its key tag, whether a data pointer lies in the CMB, and FUA. -/
def State.readsOf (s : State) (c : Cmd) : Option (Nat × Namespace × List (Nat × Nat) × Option Nat × Bool × Bool) :=
  let one (r : ReadReq) := (s.nsOf c.port r.nsid).map (fun x => (x.1, x.2, [(r.slba, r.nlb)], r.keyTag, r.cmbPtr, r.fua))
  match c.cmd with
  | .read r => one r
  | .compare r => one r
  | .verify r => one r
  | .copy nsid _ _ ranges => (s.nsOf c.port nsid).map (fun x => (x.1, x.2, ranges, none, false, false))
  | _ => none

/-- The granules of ranges. -/
def rangeGranules (n : Namespace) (ranges : List (Nat × Nat)) : List Nat :=
  (ranges.flatMap (fun r =>
    let sp := n.span r.1 r.2
    (List.range (sp.2 - sp.1 + 1)).map (· + sp.1))).dedup

/-- The data of ranges, in order, out of their granules. -/
def rangeData (n : Namespace) (ranges : List (Nat × Nat)) (got : AMap (List Sector)) : List Sector :=
  ranges.flatMap (fun r => gather (r.1 * n.spb) (r.2 * n.spb) got)

/-- The first logical block of a granule that a command names, for its error entry (R138). -/
def failLba (n : Namespace) (ranges : List (Nat × Nat)) (g : Nat) : Nat :=
  match ranges.find? (fun r => decide ((n.span r.1 r.2).1 ≤ g) && decide (g ≤ (n.span r.1 r.2).2)) with
  | some r => max r.1 (n.lbaOf g)
  | none => n.lbaOf g

/-- Every granule of a command is there: its data goes to the host, is compared, or lands as a Copy's data. -/
def State.finishIo (s : State) (fseq : Nat) : State :=
  match s.cmq.cmds.get? fseq with
  | none => s
  | some c => match s.readsOf c with
    | none => s.quit fseq .invalidNs
    | some (_, n, ranges, _) =>
      let data := rangeData n ranges c.got
      match c.cmd with
      | .read _ => (s.emit (.hostData fseq data)).complete fseq .success
      | .compare _ => s.complete fseq (if data = c.wdata then .success else .compareFailure)
      | .copy .. => (s.setCmd fseq (fun c => { c with wdata := data, got := [] })).landStart fseq data
      | _ => s.complete fseq .success

/-- Checks of a reading command before it reads. -/
def State.readCheck (s : State) (c : Cmd) (ns : Nat) (n : Namespace) (ranges : List (Nat × Nat)) (tag : Option Nat)
    (inCmb : Bool) : Option Status :=
  let total := (ranges.map (·.2)).foldl (· + ·) 0
  let isCopy : Bool := match c.cmd with
    | .copy .. => true
    | _ => false
  let badFormat : Bool := match c.cmd with
    | .copy _ _ f _ => decide (f ≠ 0)
    | _ => false
  if badFormat then some .invalidField
  else if isCopy ∧ (128 < ranges.length ∨ 512 < total ∨ ranges.any (fun r => decide (512 < r.2))) then some .copyLimit
  else match ranges.findSome? (fun r => rangeCheck n r.1 r.2 true) with
    | some st => some st
    | none =>
      if inCmb then some .invalidCmbUse
      else if ranges.any (fun r => s.deniedRun ns n r.1 r.2 tag false) then some .accessDenied
      else none

/-- Rows that hold a record of a granule and are not complete (R273). -/
def State.rowsHolding (s : State) (ns : Nat) (gs : List Nat) : List Nat :=
  (s.media.rows.filter (fun e =>
    e.2.recs.any (fun r => !r.dead && decide (r.ns = ns) && gs.contains r.granule) ||
      (s.inRow e.1).any (fun l => decide (l.2.ns = ns) && gs.contains l.2.granule))).map (·.1)

/-- A reading command starts, or starts again after what it waited for (R64, R102, R193, R273). -/
def State.startIo (s : State) (fseq : Nat) : State :=
  match s.cmq.cmds.get? fseq with
  | none => s
  | some c => match s.readsOf c with
    | none => s.quit fseq .invalidNs
    | some (ns, n, ranges, tag, inCmb, fua) =>
      match s.readCheck c ns n ranges tag inCmb with
      | some st =>
        let s := if st = .invalidCmbUse then { s with cmq := { s.cmq with invalidCmb := satInc s.cmq.invalidCmb } } else s
        s.quit fseq st
      | none =>
        let gs := rangeGranules n ranges
        let rows := if fua then s.rowsHolding ns gs else []
        if rows ≠ [] then
          (rows.foldl (fun s r => (s.closeEarly r).ensureFinal r) s).setCmd fseq (fun c =>
            { c with phase := .waitData, rows := rows })
        else
          let srcs := gs.map (fun g => (g, s.source ns n g))
          match srcs.find? (fun e => e.2 == .lost) with
          | some e => s.quit fseq .unrecoveredRead (failLba n ranges e.1)
          | none => match srcs.findSome? (fun e => match e.2 with
              | .page pk => some pk
              | _ => none) with
            | some pk => (s.setCmd fseq (fun c => { c with phase := .waitData, waitPage := some pk })).readMapPage pk
            | none =>
              let got (e : Nat × Src) : Option (Nat × List Sector) := match e.2 with
                | .line x => some (e.1, x)
                | .zeros => some (e.1, zeroGranule)
                | _ => none
              let recs := srcs.filterMap (fun e => match e.2 with
                | .record r => some r
                | _ => none)
              let s := s.setCmd fseq (fun c => { c with
                phase := .reading
                rows := []
                waitPage := none
                failed := []
                got := (srcs.filterMap got).foldl (fun (m : AMap (List Sector)) x => m.put x.1 x.2) []
                awaiting := recs.map (·.granule) })
              if recs = [] then s.finishIo fseq
              else (s.setMedia (fun m => (s.lookedUp ns n gs).foldl Media.touch m)).readRecs (.host fseq) recs c.cap

/-- Reads with FUA whose rows are complete go on (R273), and then what waited for lines or the limit. -/
def State.resumeAll (s : State) : State :=
  ((s.cmq.cmds.map (·.1)).foldl (fun s f => match s.cmq.cmds.get? f with
    | some c =>
      if c.phase = .waitData ∧ c.rows ≠ [] ∧ c.rows.all (fun r => !s.media.rows.has r) then s.startIo f else s
    | none => s) s).goOn

/-- The first failed LBA of a command (R138): of a read, within what it names; of a merge, of the unit that failed (R63). -/
def State.firstFailed (s : State) (c : Cmd) : Nat :=
  let first (xs : List Nat) : Nat := match xs with
    | [] => 0
    | x :: xs => xs.foldl min x
  match s.readsOf c, c.phase with
  | some (_, n, ranges, _), .reading => first (c.failed.map (failLba n ranges))
  | _, _ => match s.destOf c with
    | some d => first (c.failed.map (fun g => d.n.lbaOf (d.n.unitOf g * d.n.perUnit)))
    | none => 0

/-- A command that awaits no more granules from NAND goes on, or ends if one was unrecovered (R102 step 9, R103, R63). -/
def State.granuleDone (s : State) (fseq : Nat) : State :=
  match s.cmq.cmds.get? fseq with
  | none => s
  | some c =>
    if c.awaiting ≠ [] then s
    else if c.failed ≠ [] then s.quit fseq .unrecoveredRead (s.firstFailed c)
    else if c.phase = .merging then (s.setCmd fseq (fun c => { c with phase := .filling })).tryLand fseq
    else s.finishIo fseq

/-- A granule's data has been recovered for a command. -/
def State.deliver (s : State) (fseq : Nat) (r : Rec) : State :=
  match s.cmq.cmds.get? fseq with
  | none => s
  | some c => match s.media.namespaces.get? r.ns with
    | none => s.quit fseq .invalidNs
    | some n =>
      let tag : Option Nat := match c.cmd with
        | .write q | .zoneAppend q => q.keyTag
        | .read q | .compare q | .verify q => q.keyTag
        | _ => none
      let d := s.recData r.ns n r tag
      let s := if d.2 then { s with free := s.free + 8 } else s
      (s.setCmd fseq (fun c => { c with
        got := c.got.put r.granule d.1, awaiting := c.awaiting.filter (· ≠ r.granule) })).granuleDone fseq

/-- A granule of a command is unrecovered; the command's other codewords run their own ladders to the end (R103). -/
def State.undeliver (s : State) (fseq g : Nat) : State :=
  (s.setCmd fseq (fun c => { c with
    failed := c.failed ++ [g], awaiting := c.awaiting.filter (· ≠ g) })).granuleDone fseq

end Sys2Proof.Machine
end

