-- ==== Sys2Proof/Machine/Dealloc.lean ====
section
/-! DEFINITION. Commands that set map entries without a record: Write Zeroes (R254), deallocation (R66, R183) and the zone
actions (R217 to R219); what waits for a map page (R190, R193) and goes on when it is loaded. -/

namespace Sys2Proof.Machine

open Sys2Proof

/-- `f` once the map pages that it updates in part are in the cache: until then the command waits for the first of them (R190, R193).
In a flush no read is made (R160). -/
def State.withPages (s : State) (fseq : Nat) (pks : List Nat) (f : State → State) : State :=
  match pks, s.readsGo with
  | pk :: _, true => (s.setCmd fseq (fun c => { c with phase := .waitData, waitPage := some pk })).readMapPage pk
  | _, _ => f s

/-- Write Zeroes: whole units take ZERO or TRIMMED at once; units covered in part are merged and land (R63). -/
def State.writeZeroes (s : State) (c : Cmd) (fseq nsid slba nlb : Nat) (dealloc : Bool) : State :=
  match s.nsOf c.port nsid with
  | none => s.complete fseq .invalidNs
  | some (i, n) =>
    let d : Dest := { ns := i, n := n, slba := slba, nlb := nlb, handle := 0, raw := false, tag := none, cmb := [], only := some [] }
    match rangeCheck n slba nlb false with
    | some st => s.complete fseq st
    | none =>
      if s.media.protected_ ∨ (s.readOnly ∧ !dealloc) then s.complete fseq .nsWriteProtected
      else if s.deniedRun i n slba nlb none true then s.complete fseq .accessDenied
      else match s.zoneCheck d with
        | some st => s.complete fseq st
        | none =>
          if n.partUnits slba nlb ≠ [] then (s.setCmd fseq (fun c => { c with wdata := [0] })).landStart fseq [0]
          else s.withPages fseq (s.media.absentIn i [n.wholeRun slba nlb]) (fun s =>
            (((s.zeroUnits c d).zoneAdvance d).complete fseq .success).resumeAll.settleStripes)

/-- Dataset Management: deallocated whole units lose their unpacked lines at once and become TRIMMED; other attributes are
accepted and ignored. -/
def State.deallocate (s : State) (c : Cmd) (fseq nsid : Nat) (dealloc : Bool) (ranges : List (Nat × Nat)) : State :=
  match s.nsOf c.port nsid with
  | none => s.complete fseq .invalidNs
  | some (i, n) =>
    if 256 < ranges.length then s.complete fseq .invalidField
    else if ranges.any (fun r => decide (n.nlbas < r.1 + r.2)) then s.complete fseq .lbaRange
    else if !dealloc then s.complete fseq .success
    else if s.media.protected_ then s.complete fseq .nsWriteProtected
    else if ranges.any (fun r => decide (r.2 ≠ 0) && s.deniedRun i n r.1 r.2 none true) then s.complete fseq .accessDenied
    else
      let runs := (ranges.filter (fun r => r.2 ≠ 0)).map (fun r => n.wholeRun r.1 r.2)
      s.withPages fseq (s.media.absentIn i runs) (fun s =>
        ((s.setUnits i n false runs).complete fseq .success).resumeAll.settleStripes)

/-! ### Zones -/

/-- The zone's stripe is closed at its current row (R219). -/
def State.closeZoneStripe (s : State) (ns z : Nat) : State :=
  match s.media.openStripe (.zone ns z) with
  | some t => s.closeStripe t.1
  | none => s

/-- Finish Zone. -/
def State.finishZone (s : State) (ns z : Nat) : State :=
  (s.setZone ns z (fun q => { q with st := .full })).closeZoneStripe ns z

/-- Reset Zone: every entry TRIMMED, the stripe free without copying, and the capacity that of the present population. -/
def State.resetZone (s : State) (ns : Nat) (n : Namespace) (z : Nat) : State :=
  let s := s.setUnits ns n false [(z * s.media.zoneSize, s.media.zoneSize)]
  ((s.closeZoneStripe ns z).setNs ns (fun n => { n with zones := n.zones.del z })).settleStripes

/-- Open Zone on an empty, closed or open zone. -/
def State.openZone (s : State) (ns z : Nat) : State := s.setZone ns z (fun q => { q with st := .explOpen })

/-- Close Zone: an explicitly opened zone that holds nothing is empty again. -/
def State.closeZone (s : State) (ns z : Nat) : State :=
  s.setZone ns z (fun q => { q with st := if q.wp = 0 then .empty else .closed })

/-- Whether an action applies to a zone in a state, and what it fails with otherwise. -/
def zoneMay (act : ZoneAct) (st : ZoneSt) : Option Status :=
  match act, st with
  | _, .readOnly => some .zoneReadOnly
  | .openZone, .full | .close, .full | .close, .empty => some .invalidZoneTransition
  | _, _ => none

/-- The zones that an action names with Select All. -/
def zoneInAll (act : ZoneAct) (st : ZoneSt) : Bool :=
  match act with
  | .openZone => st == .closed
  | .close => st.isOpen
  | .finish => st.active
  | .reset => st.active || st == .full

def State.zoneDo (s : State) (ns : Nat) (n : Namespace) (z : Nat) : ZoneAct → State
  | .close => s.closeZone ns z
  | .finish => s.finishZone ns z
  | .openZone => s.openZone ns z
  | .reset => s.resetZone ns n z

/-- The map pages that an action on zones must have first. -/
def State.zonePages (s : State) (ns : Nat) (act : ZoneAct) (zs : List Nat) : List Nat :=
  match act with
  | .reset => s.media.absentIn ns (zs.map (fun z => (z * s.media.zoneSize, s.media.zoneSize)))
  | _ => []

/-- A Zone Management Send of an action. -/
def State.zoneSend (s : State) (c : Cmd) (fseq : Nat) (nsid slba : Nat) (allZones : Bool) (act : ZoneAct) : State :=
  match s.nsOf c.port nsid with
  | none => s.complete fseq .invalidNs
  | some (i, n) =>
    if !n.zoned then s.complete fseq .invalidOpcode
    else if act == .reset && s.deniedRun i n slba 1 none true then s.complete fseq .accessDenied
    else if allZones then
      let zs := (n.zones.filter (fun z => zoneInAll act z.2.st)).map (·.1)
      s.withPages fseq (s.zonePages i act zs) (fun s => (zs.foldl (fun s z => s.zoneDo i n z act) s).complete fseq .success)
    else
      let g := n.granuleOf slba
      let z := g / s.media.zoneSize
      let q := s.zone n z
      if n.nlbas ≤ slba then s.complete fseq .lbaRange
      else if slba * n.spb ≠ z * s.media.zoneSize * 8 then s.complete fseq .invalidField
      else match zoneMay act q.st with
        | some st => s.complete fseq st
        | none =>
          if act == .openZone && q.st == .empty && decide (s.media.activeMax ≤ s.media.zonesWith ZoneSt.active) then
            s.complete fseq .tooManyActiveZones
          else if act == .close && q.st == .closed || act == .reset && q.st == .empty then s.complete fseq .success
          else s.withPages fseq (s.zonePages i act [z]) (fun s => (s.zoneDo i n z act).complete fseq .success)

/-! ### What waits for a map page -/

/-- A command that waited for a map page goes on (R193). -/
def State.wake (s : State) (fseq : Nat) : State :=
  match s.cmq.cmds.get? fseq with
  | none => s
  | some c =>
    let s := s.setCmd fseq (fun c => { c with waitPage := none })
    match c.cmd with
    | .write _ | .zoneAppend _ => s.landStart fseq c.wdata
    | .writeZeroes nsid slba nlb dealloc => s.writeZeroes c fseq nsid slba nlb dealloc
    | .dsm nsid dealloc ranges => s.deallocate c fseq nsid dealloc ranges
    | .zoneSend nsid slba allZones act => s.zoneSend c fseq nsid slba allZones act
    | .copy .. => if c.wdata = [] then s.startIo fseq else s.landStart fseq c.wdata
    | _ => s.startIo fseq

end Sys2Proof.Machine
end

