-- ==== Sys2Proof/Machine/System.lean ====
section
/-! DEFINITION. Chapter 01: pace, the timebase, cores and units that fail, power capping (R28 to R54). -/

namespace Sys2Proof.Machine

open Sys2Proof

/-! ### Pace (R34 to R37) -/

/-- A window of sensor `n` ends with `cycles` handshake cycles: PACE is the count divided by 10 (R34); two windows in a
row below the floor raise the alarm, which keeps the first sensor's number (R37). -/
def Pace.window (p : Pace) (n : Fin 16) (cycles : Nat) : Pace × Bool :=
  let pace := satOf 16 (cycles / 10)
  let old := p.sensors[n]
  let low := decide (pace.toNat < p.floor.toNat)
  let below := if low then old.below + 1 else 0
  let sensor : PaceSensor :=
    { pace := pace, paceMin := if pace.toNat < old.paceMin.toNat then pace else old.paceMin, below := below }
  let p' := { p with sensors := p.sensors.upd n (fun _ => sensor) }
  if 2 ≤ below then
    ({ p' with alarm := true, sensor := if p.alarm then p.sensor else BitVec.ofNat 4 n.val }, true)
  else (p', false)

def State.paceWindow (s : State) (n : Fin 16) (cycles : Nat) : State :=
  let r := s.pace.window n cycles
  let s' := { s with pace := r.1 }
  if r.2 then s'.log 0x7010 0xFF
    (leBytes 1 n.val ++ leBytes 2 (cycles / 10) ++ leBytes 1 (bit s.effCap.isSome))
  else s'

/-! ### The timebase (R39 to R41, R49) -/

/-- SRC_ACT's coding. -/
def TbSource.code : TbSource → Nat
  | .crystal => 0
  | .refclk => 1
  | .ring => 2

/-- Ticks that one cycle of a source adds (R40): the crystal and the ring run at 25 MHz, the reference clock at 100 MHz. -/
def TbSource.ticks : TbSource → Nat
  | .crystal => 4
  | .refclk => 1
  | .ring => 4

def Timebase.up (t : Timebase) : TbSource → Bool
  | .crystal => t.crystalUp
  | .refclk => t.refclkUp
  | .ring => true

/-- The source that drives the timebase when `want` is asked for: it, the other external source, or the ring (R41). -/
def Timebase.settleOn (t : Timebase) (want : TbSource) : TbSource :=
  if t.up want then want
  else
    let other := if want = .crystal then TbSource.refclk else .crystal
    if t.up other then other else .ring

/-- SRC_SEL as a source: reserved values are treated as 0b00. -/
def selSource (sel : BitVec 2) : TbSource := if sel = 1 then .refclk else .crystal

/-- A source stops. -/
def Timebase.stop (t : Timebase) : TbSource → Timebase
  | .crystal => { t with crystalUp := false }
  | .refclk => { t with refclkUp := false }
  | .ring => t

/-- The timebase changes to source `b` after its source failed: SRC_FAIL and event 0x7020 (R41). -/
def State.tbFallback (s : State) (b : TbSource) : State :=
  if b = s.tb.srcAct then s
  else
    let a := s.tb.srcAct
    ({ s with tb := { s.tb with srcAct := b, srcFail := true } }).log 0x7020 0xFF
      (leBytes 1 (TbSource.code a) ++ leBytes 1 (TbSource.code b))

def State.tbSourceStop (s : State) (src : TbSource) : State :=
  let t := s.tb.stop src
  let s' := { s with tb := t }
  if src = s.tb.srcAct then s'.tbFallback (t.settleOn (selSource t.srcSel)) else s'

/-- TB_SOURCE_STOP (R41). -/
def execTbSourceStop (src : TbSource) (s : State) : Host.Outcome State Fault Refusal :=
  .next (s.whenPowered (fun s => s.tbSourceStop src))

/-- SRC_SEL is written: the source asked for drives the timebase if it runs; if it does not, R41 applies. -/
def State.tbSelect (s : State) (sel : BitVec 2) : State :=
  let s' := { s with tb := { s.tb with srcSel := sel } }
  let b := s'.tb.settleOn (selSource sel)
  if b = selSource sel then { s' with tb := { s'.tb with srcAct := b } } else s'.tbFallback b

/-- TB_SOURCE_SELECT (R40). -/
def execTbSourceSelect (sel : BitVec 2) (s : State) : Host.Outcome State Fault Refusal :=
  .next (s.whenPowered (fun s => s.tbSelect sel))

/-- A latch set for one initiator (R49). -/
def latchPut (l : List (Initiator × BitVec 32)) (i : Initiator) (v : BitVec 32) : List (Initiator × BitVec 32) :=
  (i, v) :: l.filter (fun e => e.1 ≠ i)

/-! ### Units that fail (R50 to R54) -/

/-- A unit goes out of service: the event that says so, and its outage for R53. -/
def State.outage (s : State) (code unit src : Nat) (data : List Byte) : State :=
  ({ s with units := { s.units with outages := s.units.outages ++ [(code, unit, BitVec.ofNat 8 src)] } }).log code src data

/-- An outage is recorded under `code`, and a stronger outcome's event is written (R54). -/
def State.outageWith (s : State) (code unit src : Nat) (ev : Ev) : State :=
  ({ s with units := { s.units with outages := s.units.outages ++ [(code, unit, BitVec.ofNat 8 src)] } }).logs [ev]

/-- The security pair fails as a whole (R27, R52, R368): keys are lost, and both ports are contained (R300 trigger 7). -/
def State.pairFails (s : State) : State :=
  if s.units.pair then s
  else
    let out (k : CoreSt) : CoreSt := { k with alive := false, failed := true, restart := .none, trying := none }
    let s := { s with
      units := { s.units with pair := true, cores := (s.units.cores.upd 30 out).upd 31 out }
      sec := { s.sec with pairFail := true } }
    let s := s.eraseKeys.outage 0x5410 30 0x30 []
    s.portList.foldl (fun s p => s.contain p 7) s

/-- The host front-end cores that serve a port (R26). -/
def State.frontCores (s : State) (p : Fin 2) : List (Fin 32) :=
  if s.dual then (if p = 0 then [24, 25] else [26, 27]) else [24, 25, 26, 27]

/-- The outages of core `c`. -/
def coreOutage (c : Nat) (o : Nat × Nat × Byte) : Bool :=
  [0x3410, 0x3411, 0x4410, 0x4411, 0x6410, 0x6411].contains o.1 && decide (o.2.1 = c)

/-- A core stays failed: the action of R52. An outage of an earlier start, whose trial this failure ends, gives way to the new
one. A mate that is still being tried may yet pass, so only a mate that has failed makes the pair's outcome (R53). -/
def State.coreFails (s : State) (c : Fin 32) : State :=
  let s := { s with units := { s.units with
    outages := s.units.outages.filter (fun o => !coreOutage c.val o)
    cores := s.units.cores.upd c (fun k => { k with alive := false, failed := true, restart := .none, trying := none }) } }
  if c.val < 24 then
    let sl : Fin 8 := Fin.ofNat 8 (c.val / 3)
    let mate := roleCore (partner sl) (c.val % 3)
    if s.units.cores[mate].failed then
      (s.outage 0x3411 c.val sl.val (leBytes 1 mate.val ++ leBytes 1 c.val)).fatal s.portList
    else s.outage 0x3410 c.val sl.val (leBytes 1 c.val ++ leBytes 1 (c.val % 3) ++ leBytes 1 mate.val)
  else if c.val < 28 then
    let p : Fin 2 := if s.dual && decide (26 ≤ c.val) then 1 else 0
    if (s.frontCores p).all (fun k => s.units.cores[k].failed) then (s.outage 0x4411 c.val (s.portSrc p) []).fatal [p]
    else s.outage 0x4410 c.val (s.portSrc p) (leBytes 1 c.val)
  else if c.val < 30 then
    if s.units.cores[28].failed && s.units.cores[29].failed then (s.outage 0x6411 c.val 0x20 []).fatal s.portList
    else s.outage 0x6410 c.val 0x20 (leBytes 1 c.val)
  else s.pairFails

/-- A core is declared failed: restarted the first time; failed for good when declared again before 10 s from its first
heartbeat after the restart have passed (R50; DEDUCED, notes/assumptions/12.md). -/
def State.declareCore (s : State) (c : Fin 32) : State :=
  let k := s.units.cores[c]
  if 30 ≤ c.val then s.pairFails
  else if k.failed then s
  else if k.trying.isSome then s.coreFails c
  else match k.restart with
    | .none => { s with units := { s.units with cores := s.units.cores.upd c (fun k =>
        { k with alive := false, restart := .restarting }) } }
    | .restarting => s.coreFails c
    | .restartedAt t =>
      if s.tb.count.toNat ≤ t + 1000000000 then s.coreFails c
      else { s with units := { s.units with cores := s.units.cores.upd c (fun k =>
        { k with alive := false, restart := .restarting }) } }

/-- Units return to service: event 0x6420 with the code that took each out and its number (R53). -/
def State.returned (s : State) (back : Nat × Nat × Byte → Bool) : State :=
  let r : List (Nat × Nat × Byte) := s.units.outages.filter back
  ({ s with units := { s.units with outages := s.units.outages.filter (fun o => !back o) } }).logs
    (r.map (fun (o : Nat × Nat × Byte) => ⟨0x6420, o.2.2.toNat, leBytes 2 o.1 ++ leBytes 2 o.2.1⟩))

/-- A heartbeat: the core is alive; the first one after a restart starts the 10 s of R50; the third in a row of a core
tried at a cold start returns it to service (R53). -/
def State.heartbeat (s : State) (c : Fin 32) : State :=
  let k := s.units.cores[c]
  if k.failed then s
  else
    let r := match k.restart with
      | .restarting => CoreRestart.restartedAt s.tb.count.toNat
      | x => x
    match k.trying with
    | none => { s with units := { s.units with cores := s.units.cores.upd c (fun k =>
        { k with alive := true, restart := r }) } }
    | some n =>
      if n + 1 < 3 then { s with units := { s.units with cores := s.units.cores.upd c (fun k =>
        { k with alive := true, trying := some (n + 1) }) } }
      else ({ s with units := { s.units with cores := s.units.cores.upd c (fun k =>
        { k with alive := true, trying := none }) } }).returned (coreOutage c.val)

/-- CORE_HEARTBEAT (R50, R53). -/
def execCoreHeartbeat (c : Fin 32) (s : State) : Host.Outcome State Fault Refusal :=
  .next (s.whenLive (fun s => s.heartbeat c))

/-- HEARTBEAT_MISSED (R50). -/
def execHeartbeatMissed (c : Fin 32) (s : State) : Host.Outcome State Fault Refusal :=
  .next (s.whenLive (fun s => s.declareCore c))

/-- CORE_ECC_ERROR (R50). -/
def execCoreEccError (c : Fin 32) (s : State) : Host.Outcome State Fault Refusal :=
  .next (s.whenLive (fun s => s.declareCore c))

/-- LOCKSTEP_MISMATCH (R27). -/
def execLockstepMismatch (s : State) : Host.Outcome State Fault Refusal :=
  .next (s.whenLive (fun s => s.pairFails))

/-- A decoder is taken out of service (R52). -/
def State.decoderFails (s : State) (sl : Fin 8) (soft : Bool) (idx : Fin 8) : State :=
  let s := { s with media := { s.media with rdc := s.media.rdc.upd sl (fun r => { r with decErr := true }) } }
  let mate := (partner sl).val
  if soft then
    let i := idx.val % 2
    if s.units.soft[sl].getLsbD i then s
    else
      let s := { s with units := { s.units with soft := s.units.soft.upd sl (fun x => x ||| (1 <<< i)) } }
      if !s.units.softAll sl then { s with units := { s.units with outages :=
        s.units.outages ++ [(0x3421, i, BitVec.ofNat 8 sl.val)] } }
      else if s.units.noSoft sl then s.outageWith 0x3423 i sl.val ⟨0x3423, sl.val, leBytes 1 mate⟩
      else s.outage 0x3421 i sl.val []
  else if s.units.hard[sl].getLsbD idx.val then s
  else
    let s := { s with units := { s.units with hard := s.units.hard.upd sl (fun x => x ||| (1 <<< idx.val)) } }
    let s := s.outage 0x3420 idx.val sl.val (leBytes 1 idx.val)
    if !s.units.hardAll sl then s
    else if s.units.hardAll (partner sl) then (s.log 0x3424 sl.val (leBytes 1 mate)).fatal s.portList
    else s.log 0x3422 sl.val

/-- DECODER_SELF_CHECK_FAIL (R52, RDC_DEC_STAT.DEC_ERR). -/
def execDecoderSelfCheckFail (sl : Fin 8) (soft : Bool) (idx : Fin 8) (s : State) : Host.Outcome State Fault Refusal :=
  .next (s.whenLive (fun s => s.decoderFails sl soft idx))

/-- COMPRESSION_UNIT_FAIL (R52): WRP_CTL.COMP_EN is cleared, new records are stored raw. -/
def State.compressionFails (s : State) (sl : Fin 8) : State :=
  if s.units.comp[sl] then s
  else
    let s := { s with
      units := { s.units with comp := s.units.comp.upd sl (fun _ => true) }
      media := { s.media with wrp := s.media.wrp.upd sl (fun w => { w with compEn := false }) } }
    if s.units.comp[partner sl] then
      (s.outage 0x3431 0 sl.val (leBytes 1 (partner sl).val)).fatal s.portList
    else s.outage 0x3430 0 sl.val []

def execCompressionUnitFail (sl : Fin 8) (s : State) : Host.Outcome State Fault Refusal :=
  .next (s.whenLive (fun s => s.compressionFails sl))

/-- A cipher lane is taken out of service (R52, R359). -/
def State.laneFails (s : State) (sl : Fin 8) : State :=
  if s.units.lane[sl] then s
  else
    let s := { s with units := { s.units with lane := s.units.lane.upd sl (fun _ => true) } }
    if s.units.lane[partner sl] then
      (s.outage 0x5431 0 sl.val (leBytes 1 (partner sl).val)).fatal s.portList
    else s.outage 0x5430 0 sl.val []

/-- CIPHER_LANE_CHECK_FAIL (R52). -/
def execCipherLaneCheckFail (sl : Fin 8) (s : State) : Host.Outcome State Fault Refusal :=
  .next (s.whenLive (fun s => s.laneFails sl))

/-! ### Power capping (R42 to R44, R471) -/

/-- The next voltage target and fetch cut at a measurement of `power` (0.1 W) under cap `cap`. -/
def capStep (cap : Option Nat) (power vcore cut : Nat) : Nat × Nat :=
  match cap with
  | none => (min 750 (vcore + 5), cut - 1)
  | some c =>
    if c < power then (if 650 < vcore then (vcore - 5, cut) else (vcore, min 7 (cut + 1)))
    else if power + 10 < c then (min 750 (vcore + 5), cut - 1)
    else (vcore, cut)

def State.powerCapTick (s : State) (power : Nat) : State :=
  let r := capStep (s.effCap.map (·.1)) power s.avs.vcore s.avs.fetchCut
  let s' := { s with avs := { vcore := r.1, power := power, fetchCut := r.2 } }
  if r.1 = s.avs.vcore then s' else s'.emit (.avs r.1)

/-- POWER_CAP_TICK (R44, R471). -/
def execPowerCapTick (power : Nat) (s : State) : Host.Outcome State Fault Refusal :=
  .next (s.whenLive (fun s => s.powerCapTick power))

end Sys2Proof.Machine
end

