-- ==== Sys2Proof/Machine/WritePath.lean ====
section
/-! DEFINITION. Chapter 02, the write path: Write, its data and read-back, packing (R68 to R81), closing and completing rows
(R93 to R96), stripes and erases (R200 to R202), and the loss of an accumulator (R86). -/

namespace Sys2Proof.Machine

open Sys2Proof

/-! ### Write (R59 to R63, R100) -/

/-- The locks of a command are granted, or it waited for lines or a map page. -/
def Cmd.runs (c : Cmd) : Bool := c.phase == .ready || c.phase == .waitLines || c.phase == .waitData

def State.write (s : State) (fseq : Nat) : State :=
  match s.cmq.cmds.get? fseq with
  | some c => match c.cmd with
    | .write _ => if c.runs then s.landStart fseq [] else if c.phase = .waitCommit then s.tryReadBack fseq else s
    | _ => s
  | none => s

/-- WRITE (R60, R63, R100). -/
def execWrite (fseq : Nat) (s : State) : Host.Outcome State Fault Refusal := .next (s.whenLive (fun s => s.write fseq))

/-- The data of a write on the host-memory route is in its lines. -/
def State.dataLanded (s : State) (fseq : Nat) (data : List Sector) : State :=
  match s.cmq.cmds.get? fseq with
  | some c => match s.destOf c with
    | some d =>
      if (c.phase = .filling ∨ c.phase = .merging) ∧ c.wdata = [] ∧ data.length = d.sectors then
        (s.setCmd fseq (fun c => { c with wdata := data })).tryLand fseq
      else s
    | none => s
  | none => s

/-- WRITE_DATA_LANDED (R59, R60). -/
def execWriteDataLanded (fseq : Nat) (data : List Sector) (s : State) : Host.Outcome State Fault Refusal :=
  .next (s.whenLive (fun s => s.dataLanded fseq data))

/-- The last read-back returns: the lines commit together, or the command fails with Data Transfer Error (R60, R61). -/
def State.readBackReturn (s : State) (fseq : Nat) (ok : Bool) : State :=
  match s.cmq.cmds.get? fseq with
  | some c =>
    if c.phase = .landed then (if ok then s.commit fseq else s.quit fseq .dataTransferError) else s
  | none => s

/-- READ_BACK_RETURN (R60, R61). -/
def execReadBackReturn (fseq : Nat) (ok : Bool) (s : State) : Host.Outcome State Fault Refusal :=
  .next (s.whenLive (fun s => s.readBackReturn fseq ok))

/-! ### Packing (R68 to R80) -/

/-- Compression is off on a namespace (R71, R75, R218). -/
def State.compOff (s : State) (ns : Nat) (n : Namespace) : Bool := n.zoned || decide (s.param 0x7002 ns = 2)

/-- The record that a line gives: units of 16 bytes and whether raw (R68). No compression is tried in a flush (R238). What is no frame
of the form of R69 is not stored as one. -/
def State.recordOf (s : State) (sl : Fin 8) (l : Line) (n : Namespace) (frame : List Byte) : Nat × Bool :=
  if s.compOff l.ns n ∨ !s.media.wrp[sl].compEn ∨ l.raw ∨ s.phase = .flushing ∨ s.phase = .trialFlush ∨ !frameForm frame then
    recordUnits 0
  else recordUnits frame.length

def allZero (d : List Sector) : Bool := d.all (fun x => decide (x = 0))

/-- How the records of a unit go after a slice's cursor: one by itself, four together in one page (R80). -/
def Cursor.placeRecs (c : Cursor) (pages : Nat) (lens : List Nat) : Option (Cursor × List (Nat × Nat)) :=
  if lens.length = 1 then c.placeIn pages lens else c.placeUnit pages lens

/-- The lines of one unit become records of the row, packed (R73, R80). Once its stored length is known, the rest of a line's
reservation returns to the pool (R100). -/
def State.packUnit (s : State) (r : Nat) (row : Row) (t : Stripe) (sl : Fin 8) (ls : List (Nat × Line))
    (lens : List (Nat × Bool)) (zero : Bool) : State :=
  let mk (x : (Nat × Line) × (Nat × Bool)) : Rec :=
    { ns := x.1.2.ns, granule := x.1.2.granule, die := 0, block := 0, page := 0, offset := 0, len := if zero then 0 else x.2.1,
      raw := x.2.2, keySlot := x.1.2.keySlot, keyGen := x.1.2.keyGen, data := x.1.2.data, line := some x.1.1
      frame := if x.2.2 ∨ zero then [] else x.1.2.frame.getD [] }
  let recs := (ls.zip lens).map mk
  let pages := (s.media.slicePages t row.w sl).length
  let lines : AMap Line := (ls.zip recs).foldl (fun m x =>
    m.mod x.1.1 (fun l => { l with st := .packed, frame := none, resv := x.2.len })) s.land.lines
  let back (m : Media) : Media := (ls.zip recs).foldl (fun m x => m.unreserve x.1.2.ns (x.1.2.resv - x.2.len)) m
  let s1 : State := { s with land := { s.land with lines := lines }, media := back s.media }
  if zero then s1.setMedia (fun m => m.setRow r (fun x => { x with recs := x.recs ++ recs }))
  else match row.cursors[sl].placeRecs pages (recs.map (·.len)) with
    | none => s
    | some p => s1.setMedia (fun m =>
        let m := m.putRecs r row t sl p.1 recs p.2
        { m with wrp := m.wrp.upd sl (fun w => recs.foldl (fun w x =>
          if x.raw then { w with recRaw := satInc w.recRaw } else { w with recComp := satInc w.recComp }) w) })

/-- Lines are encrypted: a Clear Key or key replacement that waited for the last of them completes (R376). -/
def State.kpioPacked (s : State) (ns : List Nat) : State :=
  let wait (c : Cmd) : Cmd := match c.cmd, c.phase with
    | .admin .., .waitRows => { c with lines := c.lines.filter (fun n => !ns.contains n) }
    | _, _ => c
  let cmds : AMap Cmd := s.cmq.cmds.map (fun e => (e.1, wait e.2))
  let bound (e : Nat × KpioKey) : Bool := s.land.lines.any (fun l => l.2.st == .committed && decide (l.2.keySlot = 64 + e.2.index))
  let kpio : AMap KpioKey := s.sec.kpio.filter (fun e => decide (e.1 < 2 ^ 24) || bound e)
  let s : State := { s with cmq := { s.cmq with cmds := cmds }, sec := { s.sec with kpio := kpio } }
  (cmds.map (·.1)).foldl State.tryComplete s

/-- The records that the lines of a unit give in a slice, and whether the unit is zero-elided (R68, R70). -/
def State.unitRecords (s : State) (sl : Fin 8) (n : Namespace) (ls : List (Nat × Line)) : List (Nat × Bool) × Bool :=
  (ls.map (fun e => s.recordOf sl e.2 n (e.2.frame.getD [])),
   s.media.wrp[sl].zeroElide && (ls.all (fun e => !s.compOff e.2.ns n)) && ls.all (fun e => allZero e.2.data))

/-- Raw records of these units would all still fit after a cursor. -/
def Cursor.fitsRaw (c : Cursor) (pages : Nat) : List Nat → Bool
  | [] => true
  | k :: ks => match c.placeRecs pages (List.replicate k 256) with
    | some p => p.1.fitsRaw pages ks
    | none => false

/-- The next unit of a slice to be packed: every line of it is compressed, and it is the first one dispatched, or the ones before
and after it still fit behind it as raw records (R80, R88). -/
def State.nextUnit (s : State) (r : Nat) (row : Row) (t : Stripe) (sl : Fin 8) : Option (List (Nat × Line)) :=
  let us := s.sliceUnits r sl
  let pages := (s.media.slicePages t row.w sl).length
  let first (u : List (Nat × Line)) : Bool := us.head? == some u
  let fits (u : List (Nat × Line)) : Bool := match u.head?.bind (fun e => s.media.namespaces.get? e.2.ns) with
    | none => false
    | some n =>
      let x := s.unitRecords sl n u
      match row.cursors[sl].placeRecs pages (if x.2 then [] else x.1.map (·.1)) with
      | some p => p.1.fitsRaw pages ((us.filter (· ≠ u)).map List.length)
      | none => false
  us.find? (fun u => u.all (fun e => e.2.frame.isSome) && (first u || fits u))

/-- The compressed units of a slice are packed, as far as they can be. -/
def State.packReady (s : State) (r : Nat) (sl : Fin 8) : Nat → State
  | 0 => s
  | fuel + 1 => match s.media.rows.get? r with
    | none => s
    | some row => match s.media.stripes.get? row.stripe with
      | none => s
      | some t => match s.nextUnit r row t sl with
        | none => s
        | some u => match u.head?.bind (fun e => s.media.namespaces.get? e.2.ns) with
          | none => s
          | some n =>
            let x := s.unitRecords sl n u
            ((s.packUnit r row t sl u x.1 x.2).kpioPacked (u.map (·.1))).packReady r sl fuel

/-- A slice has compressed and encrypted a line. It is packed at once, the four lines of a 16 KiB unit together when the last of
them is compressed (R80 rule 5); out of the order of dispatch only where that leaves room for the lines before it (DESIGN
CHOICE, notes/assumptions/58.md). -/
def State.recordPacked (s : State) (line : Nat) (frame : List Byte) : State :=
  match s.land.lines.get? line with
  | none => s
  | some l => match l.row with
    | none => s
    | some (r, sl) =>
      if l.st ≠ .committed then s
      else
        let lines : AMap Line := s.land.lines.mod line (fun l => { l with frame := some frame })
        let s : State := { s with land := { s.land with lines := lines } }
        ((s.packReady r sl (s.sliceUnits r sl).length).closeIfDue r).dispatchAll

/-- RECORD_PACKED (R68 to R80, R85). -/
def execRecordPacked (line : Nat) (frame : List Byte) (s : State) : Host.Outcome State Fault Refusal :=
  .next (s.whenLive (fun s => (match s.land.lines.get? line with
    | some l => match l.row with
      | some x => s.ungate x.2.val 2
      | none => s
    | none => s).recordPacked line frame))

/-! ### Closing and completing rows -/

/-- A row of a fulling stream or of the system stream that no record has reached for the close-wait, with none waiting for it. -/
def Media.rowIdle (m : Media) (row : Row) : Bool :=
  match row.stream with
  | .system => !row.recs.isEmpty && m.sysWait.isEmpty
  | .f0 | .f1 => !row.recs.isEmpty && m.copyWait.all (fun u =>
      decide (m.copyStream ((u.head?.bind (·.src)).getD 0) ≠ row.stream))
  | _ => false

/-- The close-wait of a row has passed with no record reaching it: the row is closed in the cases of R94, those of write-through
mode and of quiescing as they stand now. A row that is closed already gets the coarse pass that its fine pass needs. -/
def State.closeWait (s : State) (r : Nat) : State :=
  match s.media.rows.get? r with
  | none => s
  | some row =>
    if !(row.closing || row.closeNow || s.land.wt || s.quiescing || s.media.rowIdle row) then s
    else if row.closed then s.ensureFinal r
    else (s.closeEarly r).dispatchAll.copiesGo.systemGo

/-- CLOSE_WAIT_EXPIRE (R94). -/
def execCloseWaitExpire (row : Nat) (s : State) : Host.Outcome State Fault Refusal :=
  .next (s.whenLive (fun s => s.closeWait row))

/-- The die that runs a program of a row's member. -/
def Media.progDie (m : Media) (r : Nat) (member : Fin 32) : Option (Nat × Nat × Nat × Nat) :=
  m.dies.findSome? (fun e => match e.2.op with
    | .prog r' pass mb b w _ _ => if r' = r ∧ mb = member then some (e.1, pass, b, w) else none
    | _ => none)

/-- The pages of a member's wordline stand on NAND once its final pass has succeeded: the row's sequence number in the meta of data
pages (R78), scrambled unless the slice bypassed that, and the parity member's, which hold no meta (R85). -/
def Media.noteHeads (m : Media) (r d pass : Nat) : Media :=
  match m.rows.get? r with
  | none => m
  | some row => match (m.stripes.get? row.stripe).bind (fun t => (t.members.find? (fun x => x.1 = d)).map (fun x => (t, x.2))) with
    | none => m
    | some (t, b) =>
      if m.qlc ∧ pass = 0 then m
      else
        let h : PageHead := { seq := r, bypass := row.bypass[sliceOf d], parity := decide (t.parityDie row.w = some d) }
        { m with heads := ((List.range m.types).map (· + row.w * m.types)).foldl (fun (n : AMap PageHead) p =>
            n.put (pageKey d b p) h) m.heads }

/-- A member's pass has succeeded (R93). -/
def State.programComplete (s : State) (r : Nat) (member : Fin 32) : State :=
  match s.media.progDie r member with
  | none => s
  | some (d, pass, _, _) =>
    (s.setMedia (fun m => (m.setRow r (fun x => { x with
      passes := x.passes.upd member (fun n => max n (pass + 1)) })).noteHeads r d pass)).dieIdle d

/-- Every member has reported success of its final pass (R93). -/
def Media.rowProgrammed (m : Media) (row : Row) (t : Stripe) : Bool :=
  row.closed && t.members.all (fun x => decide ((if m.qlc then 2 else 1) ≤ row.passes[memberFin x.1]))

/-- An earlier row that is not complete holds an older version of a record of this row (R243). -/
def Media.olderPending (m : Media) (r : Nat) (row : Row) : Bool :=
  m.rows.any (fun e => decide (e.1 < r) && e.2.recs.any (fun x => !x.dead &&
    row.recs.any (fun y => decide (x.ns = y.ns) && decide (x.granule = y.granule))))

/-- The records of a complete row stand on NAND. -/
def Media.storeRecs (m : Media) (rs : List Rec) : Media :=
  { m with nand := rs.foldl (fun n r =>
      let k := pageKey r.die r.block r.page
      n.put k (((n.get? k).getD []) ++ [r])) m.nand }

/-- A row whose completion has been asked for may complete: it is programmed, no earlier row holds an older version, the ring has room
(a row of the system stream needs none), and the map pages that it updates are in the cache (R193, R197, R243). In a flush it waits for
neither (R160, R244). -/
def State.rowReady (s : State) (r : Nat) (row : Row) : Bool :=
  (s.media.stripes.get? row.stripe).any (fun t => s.media.rowProgrammed row t) && !s.media.olderPending r row &&
    (!s.readsGo || ((s.media.ringRoom || decide (row.stream = .system)) && (s.media.absent (s.media.rowPages row)).isEmpty))

/-- A row is complete: deltas, map, lines, and what waited for them (R93, R95, R185, R243). -/
def State.finishRow (s : State) (r : Nat) (row : Row) : State :=
  let host : Bool := match row.stream with
    | .host _ | .zone .. => true
    | _ => false
  let credit := if host then s.rowCredit else 0
  let s := s.setMedia (fun m =>
    let row : Row := { row with recs := padded row.recs }
    let m := m.storeRecs (row.recs.filter (fun x => decide (0 < x.len)))
    let m := (m.applyRow r row m.perUnit).writeBackOld.trim
    { m with
      rows := m.rows.del r
      credit := m.credit + credit
      victim := m.victim.map (fun v => { v with left := v.left - (row.recs.filter (fun x => x.src = some v.stripe)).length }) })
  let s := s.releaseLines (row.recs.filterMap (fun x => if x.src.isNone ∧ !x.dead then x.line else none))
  (((s.checkWear.setMedia Media.ckptGo).systemGo.setMedia Media.ckptGo).settleStripes.pickVictim.copiesGo.resumeAll).dispatchAll

/-- The rows whose completion has been asked for complete, the oldest first, as far as they can; the map pages that the others need are
read (R193). -/
def State.rowsGo (s : State) : Nat → State
  | 0 => s
  | fuel + 1 =>
    match s.media.rows.find? (fun e => e.2.due && s.rowReady e.1 e.2) with
    | some e => (s.finishRow e.1 e.2).rowsGo fuel
    | none =>
      let need := (s.media.rows.filter (fun e => e.2.due)).flatMap (fun e => s.media.absent (s.media.rowPages e.2))
      let reading (pk : Nat) : Bool := s.media.reads.any (fun e => decide (e.2.who = mapReader pk))
      if !s.readsGo then s else (need.dedup.filter (fun pk => !reading pk)).foldl State.readMapPage s

/-- Every row whose completion has been asked for gets its chance. -/
def State.dueRows (s : State) : State :=
  if s.media.rows.any (fun e => e.2.due) then s.rowsGo (s.media.rows.length + 1) else s

/-- A programmed row is asked to complete; it does so now, or once what it waits for is there. -/
def State.rowComplete (s : State) (r : Nat) : State :=
  match s.media.rows.get? r with
  | none => s
  | some row =>
    if (s.media.stripes.get? row.stripe).any (fun t => s.media.rowProgrammed row t) then
      (s.setMedia (fun m => m.setRow r (fun x => { x with due := true }))).dueRows
    else s

/-- ROW_COMPLETE (R93, R95, R185, R212, R243). -/
def execRowComplete (row : Nat) (s : State) : Host.Outcome State Fault Refusal :=
  .next (s.whenLive (fun s => s.rowComplete row))

/-! ### Failures, stripes, erases -/

/-- PROGRAM_FAIL (R96, R172). -/
def State.programFail (s : State) (r : Nat) (member : Fin 32) : State :=
  match s.media.progDie r member with
  | none => s
  | some (d, _, b, w) => (s.dieIdle d).blockFails d b w 1

/-- The die is erasing the block. -/
def Media.erasing (m : Media) (d b : Nat) : Bool :=
  match (m.die d).op with
  | .erase b' _ _ => decide (b' = b)
  | _ => false

/-- ERASE_FAIL (R96, R172). -/
def State.eraseFail (s : State) (d b : Nat) : State :=
  if s.media.erasing d b then (s.dieIdle d).blockFails d b 0 2 else s

/-- STRIPE_OPEN (R200, R202). -/
def execStripeOpen (s : State) : Host.Outcome State Fault Refusal := .next (s.whenLive State.stripeOpen)

/-- A block is erased: it joins its die's erased list, its erase count rises and its read count restarts (R201, R204). -/
def State.eraseComplete (s : State) (d b : Nat) : State :=
  if !s.media.erasing d b then s
  else
    let k := d * 8192 + b
    let s := s.setMedia (fun m =>
      let m := m.setDie d (fun x => { x with dirty := x.dirty.filter (· ≠ b) })
      { m with
        eraseCnt := m.eraseCnt.put k ((m.eraseCnt.get? k).getD 0 + 1)
        readCnt := m.readCnt.del k
        nand := m.nand.filter (fun e => e.1 / 4096 ≠ k)
        heads := m.heads.filter (fun e => e.1 / 4096 ≠ k) })
    (s.dieIdle d).keepErased d

/-- An accumulator is out of service: open rows whose parity lies in its slice are failed rows (R86), and with the last
accumulator every namespace is read-only (R52). -/
def State.accumulatorFails (s : State) (sl : Fin 8) : State :=
  if s.units.acc[sl] then s
  else
    let s := { s with units := { s.units with acc := s.units.acc.upd sl (fun _ => true) } }
    let s := s.setMedia (fun m => { m with wrp := m.wrp.upd sl (fun w => { w with accErr := true }) })
    let s := if s.units.accAll then s.outageWith 0x3441 0 0xFF ⟨0x3441, 0xFF, []⟩ else s.outage 0x3440 0 sl.val []
    let hit := s.media.stripes.filter (fun e => s.media.rows.any (fun r => decide (r.2.stripe = e.1) && !r.2.closed &&
      (match e.2.parityDie r.2.w with
       | some d => decide (sliceOf d = sl)
       | none => false)))
    let s := hit.foldl (fun s e => s.failStripe e.1) s
    if s.units.accAll then s.setMedia (fun m => { m with namespaces := m.namespaces.map (fun e => (e.1, e.2.lockZones)) })
    else s

/-- ACCUMULATOR_SELF_CHECK_FAIL (R52, R86). -/
def execAccumulatorSelfCheckFail (sl : Fin 8) (s : State) : Host.Outcome State Fault Refusal :=
  .next (s.whenLive (fun s => s.accumulatorFails sl))

end Sys2Proof.Machine
end

