-- ==== Sys2Proof/Machine/ReadChannel.lean ====
section
/-! DEFINITION. Chapter 03, the read channel: what a NAND read brings to its ladders (R104 to R114, R120), the tracking and
neighbour tables (R116 to R119, R128), the retry ladder (R130 to R138), and host-assisted export and resolve (R142 to R149). -/

namespace Sys2Proof.Machine

open Sys2Proof

/-! ### Read -/

/-- READ (R102). -/
def State.readCommand (s : State) (fseq : Nat) : State :=
  match s.cmq.cmds.get? fseq with
  | some c => match c.cmd with
    | .read _ => if c.runs then s.startIo fseq else s
    | _ => s
  | none => s

def Media.setRdc (m : Media) (sl : Fin 8) (f : Rdc → Rdc) : Media := { m with rdc := m.rdc.upd sl f }

/-! ### Tracking (R117, R118) -/

/-- The tracking entry of a ladder's page changes. -/
def Media.setTrack (m : Media) (l : Ladder) (f : Track → Track) : Media :=
  let k := m.trackKey l.die l.block (l.page / max 1 m.types)
  { m with track := m.track.put k (f (m.trackAt k)) }

/-- The entry's offset of one reference after an update: the gain is 1 of a stale entry, else 1/16. -/
def trackOne (stale : Bool) (ofs target : Int) : Int := if stale then target else ofs + roundDiv (target - ofs) 16

/-- A recovered codeword updates the entry of its page: its references, the offsets of its read and their estimates (R117). -/
def Track.update (t : Track) (refs : List Nat) (used est : List Int) (opsec : Nat) : Track :=
  let ofs := (refs.zip (used.zip est)).foldl (fun (o : Tbl 15 (BitVec 16)) x =>
    if h : 1 ≤ x.1 ∧ x.1 ≤ 15 then o.set (x.1 - 1) (BitVec.ofInt 16 (trackOne t.stale (t.at_ x.1) (x.2.1 + x.2.2)))
    else o) t.ofs
  { ofs := ofs, opsec := BitVec.ofNat 32 opsec, updates := if t.stale then 1 else satInc t.updates, stale := false, init := false }

/-- An entry older than TRACK_AGE is stale (R118). -/
def Track.aged (t : Track) (now age : Nat) : Track :=
  if age < (BitVec.ofNat 32 now - t.opsec).toNat then { t with stale := true } else t

/-- The entry is stale (R118). -/
def Media.staleTrack (m : Media) (l : Ladder) : Media := m.setTrack l (fun t => { t with stale := true })

/-- A codeword has been recovered now; recoveries older than 10 ms count no more (R117). -/
def Media.noteRecent (m : Media) (now : Nat) (l : Ladder) : Media :=
  let kept : AMap Nat := m.recent.filter (fun (e : Nat × Nat) => decide (now ≤ e.2 + 1000000))
  { m with recent := kept.put (pageKey l.die l.block l.page * 4 + l.cw) now }

/-- A codeword recovered at step 3 or 4 counts for the neighbour table of its entry and page type (R128). -/
def Media.noteNeighbour (m : Media) (l : Ladder) : Media :=
  if l.step = 3 ∨ l.step = 4 then
    let k := m.trackKey l.die l.block (l.page / max 1 m.types) * 4 + l.page % max 1 m.types
    { m with neighbour := m.neighbour.put k (((m.neighbour.get? k).getD {}).step (m.naCells l)) }
  else m

/-- What a recovered codeword teaches: the tracking entry of its page, unless TRACK_EN is 0 or none of its own reads was made. -/
def State.trackUpdate (s : State) (l : Ladder) : State :=
  let now := s.tb.count.toNat
  let s := s.setMedia (fun m => (m.noteRecent now l).noteNeighbour l)
  if !s.media.rdc[sliceOf l.die].trackEn ∨ l.hard = [] then s
  else
    let es := s.media.trackEstimates now l
    s.setMedia (fun m => m.setTrack l (fun t =>
      (t.aged s.clocks.opsec.toNat (s.param 0x3100 1)).update l.refs l.used es s.clocks.opsec.toNat))

/-! ### What a NAND read brings (R104 to R114) -/

/-- The page bytes that a ladder keeps of its reads: its codeword with guards, or the whole page at step 5 and after it. -/
def Ladder.part (l : Ladder) : Nat × Nat := if l.step = 5 ∨ l.realigned then (0, pageBytes) else windowOf [l.cw]

/-- The accepted marks of a read at step 0 or 1, and the alignment that the codeword is decoded at: the one that wins, the nominal one
where the mark is missed at step 0, that of the reads before at step 1, and always the one of step 5 once that has chosen one (R106 to
R110, R132). -/
def Media.marks (m : Media) (l : Ladder) (bytes : List Byte) (start : Nat) : List Int :=
  acceptedMarks bytes start l.cw 8 (m.pilotBytes l.die l.block l.page l.cw)

def Media.alignment (m : Media) (l : Ladder) (bytes : List Byte) (start : Nat) : Align :=
  if l.realigned then l.align
  else match markChosen bytes start l.cw (m.marks l bytes start) with
    | some o => { shift := o }
    | none => if l.step = 0 then ({} : Align) else l.align

/-- A ladder takes the bytes of one NAND read, entry `k` of its step (R114, R130, R132): a read at m with its alignment and estimates; a
soft read; a page of wordline n + 1; at step 5, if the search changes the alignment, the page at the offsets of m. -/
def Media.takeRead (m : Media) (l : Ladder) (k : Nat) (bytes : List Byte) (start : Nat) : Ladder :=
  let est (l : Ladder) : List Int := m.pilotEstimates l (received bytes start l.cw l.align)
  let l := { l with await := l.await - 1 }
  match l.step with
  | 0 =>
    let l := { l with hard := bytes, start := start, align := m.alignment l bytes start, missed := (m.marks l bytes start).isEmpty }
    { l with est0 := est l, est := est l, estLast := est l }
  | 1 =>
    let l := { l with hard := bytes, start := start, align := m.alignment l bytes start }
    { l with est := est l, estLast := est l }
  | 4 => { l with
      nbrs := (padTo m.types [] l.nbrs).set k bytes, estLast := est { l with page := l.pageAt m.types k, refs := m.pageRefs (l.pageAt m.types k) } }
  | 5 =>
    let al := searchAlign bytes l.cw (m.pilotBytes l.die l.block l.page l.cw)
    let l := { l with align := al, estLast := est { l with align := al } }
    if al = ({} : Align) then l else { l with hard := bytes, start := start, used0 := l.used, est0 := l.estLast, est := l.estLast }
  | _ => { l with softs := l.softs ++ [bytes], estLast := est l }

/-- The largest |e| in 1/64 steps (R120). -/
def drift (es : List Int) : Nat := es.foldl (fun m e => max m e.natAbs) 0

/-- The outcome of the frame-mark search: missed marks and codewords with two accepted candidates are counted at step 0
(R110, RDC_MARK_CNT). -/
def Media.countMark (m : Media) (l : Ladder) (n : Nat) : Media :=
  if l.step ≠ 0 then m
  else if n = 0 then
    { (m.setRdc (sliceOf l.die) (fun r => { r with missed := satInc r.missed })) with markMissed := m.markMissed + 1 }
  else if 2 ≤ n then
    { (m.setRdc (sliceOf l.die) (fun r => { r with dual := satInc r.dual })) with markDual := m.markDual + 1 }
  else m

/-- Pilot drift of a step-0 read: it is reported, may make the entry stale, and may trigger pounce (R118, R120, R205). DESIGN CHOICE
(notes/assumptions/32.md): RDC_DRIFT counts whole offset steps, rounded down. -/
def State.noteDrift (s : State) (l : Ladder) : State :=
  let d := drift l.est0
  let s := s.setMedia (fun m =>
    let m := m.setRdc (sliceOf l.die) (fun r => { r with
      driftMax := if r.driftMax.toNat < d / 64 then satOf 8 (d / 64) else r.driftMax })
    if s.param 0x3100 5 * 64 < d then m.staleTrack l else m)
  if s.param 0x3320 3 * 64 ≤ d then s.trigger l.die l.block (if l.who = .scan then 7 else 5) else s

/-- A ladder takes its part of a transfer of the page bytes from `win` on. -/
def State.takePart (s : State) (rid k win : Nat) (bytes : List Byte) : State :=
  match s.media.reads.get? rid with
  | none => s
  | some l =>
    let p := l.part
    let own := (bytes.drop (p.1 - win)).take p.2
    let l' := s.media.takeRead l k own p.1
    let n := if l.step = 0 then (s.media.marks l own p.1).length else 0
    let s := s.setMedia (fun m => (m.countMark l n).setRead rid (fun _ => l'))
    if l.step = 0 then s.noteDrift l' else s

/-- The ladders that a NAND read of a ladder serves: of a step-0 read every codeword of its run (R104). -/
def Media.served (m : Media) (rid : Nat) (l : Ladder) : List Nat :=
  if l.step = 0 then (m.reads.filter (fun e => decide (e.2.run = l.run) && decide (e.2.step = 0))).map (·.1) else [rid]

/-- Every codeword of a whole page that was transferred has missed its mark (R170). -/
def Media.pageMissed (m : Media) (l : Ladder) (bytes : List Byte) : Bool :=
  decide (m.readWindow l = (0, pageBytes)) && (l.step = 0 || l.step = 5) && (List.range 4).all (fun cw =>
    (acceptedMarks bytes 0 cw (if l.step = 5 then 64 else 8) (m.pilotBytes l.die l.block l.page cw)).isEmpty)

/-! ### Ladder steps (R131) -/

/-- Step 1 would repeat the read (R115): every estimate of the step-0 read rounds to nothing. -/
def Ladder.skip1 (l : Ladder) : Bool := l.est0.all (fun e => decide (e.natAbs < 32))

/-- A re-read that failed is made once more: an estimate reached acq_max, and it was the first (R115). -/
def Ladder.again (l : Ladder) : Bool :=
  decide (l.step = 1) && decide (l.rereads < 2) && l.est.any (fun e => decide (l.acqMax * 64 ≤ e.natAbs))

/-- The next step after the present one failed (R131, R115, R52). -/
def Ladder.next (l : Ladder) (noSoft : Bool) : Nat :=
  if l.again then 1
  else if l.step = 0 ∧ l.missed then 5
  else
    let ran := l.step :: l.ran
    let out (k : Nat) : Bool := ran.contains k || (decide (k = 1) && l.skip1) || (noSoft && decide (2 ≤ k) && decide (k ≤ 4))
    ((List.range 7).find? (fun k => !out k)).getD 7

/-- The ladder after a failed step. Step 5 at a new alignment runs steps 1 to 4 again (R132 item 5). -/
def Ladder.failed (l : Ladder) (found : Bool) : Ladder :=
  if l.step = 5 then
    if found then { l with ran := [0, 5], realigned := true, rereads := 0 } else { l with ran := 5 :: l.ran }
  else { l with ran := l.step :: l.ran }

/-- The step at which a ladder is counted: the repeats of step 5 count as step 5. -/
def Ladder.endStep (l : Ladder) : Nat := if l.realigned ∧ l.step < 6 then 5 else l.step

/-- A ladder ends: it is counted at step `n` (RDC_STEP_CNT) and leaves the table. -/
def Media.endRead (m : Media) (rid n : Nat) (l : Ladder) : Media :=
  let i : Fin 8 := Fin.ofNat 8 n
  let m := m.setRdc (sliceOf l.die) (fun r => { r with stepCnt := r.stepCnt.upd i satInc })
  { m with reads := m.reads.del rid, stepTotal := m.stepTotal.upd i (· + 1) }

/-- The DATA of an event about a codeword (R535). -/
def Ladder.data (l : Ladder) (top : Nat) : List Byte :=
  leBytes 2 l.die ++ leBytes 2 l.block ++ leBytes 2 l.page ++ leBytes 1 l.cw ++ leBytes 1 top

/-- The highest step that a ladder has run. -/
def Ladder.top (l : Ladder) : Nat := (l.step :: l.ran).foldl max 0

/-! ### Exports: the record (R142 to R148) -/

/-- Export is available (R142). -/
def State.exportsOn (s : State) : Bool := s.hostRecovery && (List.finRange 8).all (fun sl => s.media.rdc[sl].exportEn)

/-- The export record of a ladder's reads: header, hard bits, and from step 2 on the LLRs (R147, R148). -/
def Media.exportRecord (m : Media) (l : Ladder) (tag : BitVec 64) : List Byte :=
  let step := l.step
  let reads := if step ≤ 1 then 1 else if step = 2 then 3 else 5
  let i16 (x : Int) : List Byte := leBytes 2 (BitVec.ofInt 16 x).toNat
  let rx := received l.hard l.start l.cw l.align
  let soft := decide (2 ≤ step)
  let head := leBytes 4 0x31585A46 ++ leBytes 2 1 ++ leBytes 1 step ++ leBytes 1 reads ++ leBytes 2 l.die ++ leBytes 2 l.block ++
    leBytes 2 l.page ++ leBytes 1 l.cw ++ leBytes 1 (l.page % max 1 m.types) ++
    leBytes 1 (BitVec.ofInt 8 (if l.missed then 0 else l.align.shift)).toNat ++ leBytes 1 (bit (decide (step = 4) && l.nbrs ≠ [])) ++
    leBytes 2 (correlation ((rx.drop 4).take 32) (m.pilotBytes l.die l.block l.page l.cw)) ++
    leBytes 4 (scrSeed l.die l.block l.page l.cw) ++ leBytes 4 (pilotSeed l.die l.block (l.page / max 1 m.types) l.cw) ++
    leBytes 2 (wordWeight rx) ++ leBytes 2 (if reads = 1 then 0 else l.softDelta * 64) ++ (padTo 8 0 l.used).flatMap i16 ++
    leBytes 8 tag.toNat ++ leBytes 2 (if soft then 18560 else 0) ++ leBytes 2 0
  head ++ leBytes 4 (crc32 head) ++ rx.map hardByte ++ (if soft then llrBytes (m.llrs l step) else [])

/-- An export's reads are done: the record is in the area (R146, R147). -/
def State.exportDone (s : State) (p : Fin 2) (rid : Nat) (l : Ladder) : State :=
  (s.setMedia (fun m => { m with
    reads := m.reads.del rid
    expArea := m.expArea.upd p (fun a => { a with
      last := some (l.die, l.block, l.page, l.cw, m.erases l.die l.block), record := m.exportRecord l a.tag }) })).expEnd p 0

/-- The next step of an export whose present one was decoded, with or without success: the second re-read of R115, else the next step up
to STEP_MAX that the ladder would not skip (R146, R52). -/
def Ladder.exportNext (l : Ladder) (noSoft ok : Bool) : Option Nat :=
  if !ok && l.again then some 1
  else (List.range 5).find? (fun k => decide (l.step < k) && decide (k ≤ l.cap) && !(decide (k = 1) && l.skip1) &&
    !(noSoft && decide (2 ≤ k)))

/-- A step of an export has been decoded: a failed step 0 makes the entry stale (R118), one that failed at step 2 or later is reported
(R120), and the next step follows or the record is written. -/
def State.exportStep (s : State) (p : Fin 2) (rid : Nat) (l : Ladder) (ok : Bool) : State :=
  let s := if !ok ∧ l.step = 0 then s.setMedia (fun m => m.staleTrack l) else s
  let s := if !ok ∧ 2 ≤ l.step then s.trigger l.die l.block 3 else s
  match l.exportNext (s.units.noSoft (sliceOf l.die)) ok with
  | some nx => (s.setMedia (fun m => m.setRead rid (fun l => { l with ran := l.step :: l.ran }))).startStep rid nx
  | none => (if ok then s.trackUpdate l else s).exportDone p rid l

/-! ### Export requests -/

/-- Some locking range is read-locked (R145). -/
def State.anyReadLocked (s : State) : Bool :=
  s.sealed || (s.sec.opalActive && (List.finRange 64).any (fun r => s.sec.ranges[r].rdEn && s.sec.ranges[r].rdLocked))

/-- A physical address outside the array or in the system band, or on a die out of service (R145, R173). -/
def Media.badPlace (m : Media) (q : ExportReq) : Bool :=
  !m.inService q.die || decide (m.dataBlocks ≤ q.block) || decide (m.pages ≤ q.page) || decide (4 ≤ q.cw)

/-- The reads of an export start. -/
def State.exportStart (s : State) (p : Fin 2) (q : ExportReq) (die block page cw : Nat) : State :=
  if s.media.dieOut die then s.expEnd p 1
  else s.readCws (.export_ p) die block page [(cw, [0])] q.stepMax

/-- Export by LBA: of the codeword in which the LBA's record begins, once the map page is there (R144 KIND 1, R145, R193). -/
def State.exportByLba (s : State) (p : Fin 2) (q : ExportReq) : State :=
  if 4 < q.stepMax then s.expEnd p 1
  else if !s.exportsOn then s.expEnd p 2
  else match s.nsOf p q.nsid with
    | none => s.expEnd p 1
    | some (i, n) =>
      if n.nlbas ≤ q.lba then s.expEnd p 1
      else
        let g := n.granuleOf q.lba
        if s.denied i n (n.unitOf g) none false then s.expEnd p 3
        else match s.source i n g with
          | .record r => s.exportStart p q r.die r.block r.page (r.offset / 256)
          | .page pk => (s.setMedia (fun m =>
              { m with expArea := m.expArea.upd p (fun a => { a with waitPage := some pk }) })).readMapPage pk
          | _ => s.expEnd p 6

/-- Export by physical address (R144 KIND 2, R145, R168). -/
def State.exportByPhysical (s : State) (p : Fin 2) (q : ExportReq) : State :=
  if 4 < q.stepMax ∨ s.media.badPlace q then s.expEnd p 1
  else if !s.exportsOn then s.expEnd p 2
  else if s.anyReadLocked then s.expEnd p 3
  else if s.media.erasing q.die q.block then s.expEnd p 0xC6
  else s.exportStart p q q.die q.block q.page q.cw

/-! ### Copies -/

/-- The record of a granule on a page. -/
def Media.recHere (m : Media) (die block page gk : Nat) : Option Rec :=
  (m.pageRecs die block page).find? (fun r => decide (gkey r.ns r.granule = gk))

/-- The records of the unit of a record, for its copy, once none of them is being read (R211). -/
def Media.copyUnit (m : Media) (who : ReadFor) (r : Rec) : Option (List Rec) :=
  let per := m.perUnit r.ns
  match m.map.get? (gkey r.ns (r.granule / per)) with
  | none => none
  | some e =>
    let rs := m.recsAt r.ns (r.granule / per) e
    let busy := m.reads.any (fun x => decide (x.2.who = who) && rs.any (fun q => x.2.grans.contains (gkey q.ns q.granule)))
    let lost := rs.any (fun q => m.unrec.contains (who, gkey q.ns q.granule))
    if busy ∨ lost then none
    else if rs.all (fun x => decide (x.die = r.die) && decide (x.block = r.block) && decide (x.page = r.page)) then some rs else none

/-- A unit's records wait for a row of their copy stream, with their source stripe and the map entry that they were taken under
(R185). -/
def State.queueCopy (s : State) (rs : List Rec) : State :=
  match rs with
  | [] => s
  | r :: _ => match s.media.stripeOf r.die r.block with
    | none => s
    | some t =>
      let e := s.media.map.get? (gkey r.ns (r.granule / s.media.perUnit r.ns))
      (s.setMedia (fun m => { m with copyWait := m.copyWait ++
        [rs.map (fun x => { x with src := some t.1, srcEnt := e, line := none, pad := 0 })] })).copiesGo

/-! ### Resolve (R149) -/

/-- The records that begin or continue in a codeword. -/
def Media.recsInCw (m : Media) (q : ExportReq) : List Rec :=
  (m.pageRecs q.die q.block q.page).filter (fun r => r.cws.contains q.cw)

/-- Corrected bytes 4 to 4179 are accepted: the pilots are exact, and R105 holds after descrambling, with a directory entry for every
valid record that begins there. -/
def Media.resolveOk (m : Media) (q : ExportReq) (bytes : List Byte) : Bool :=
  let plain := m.unscrambled q.die q.block q.page q.cw (bytes.drop 32)
  decide (bytes.take 32 = m.pilotBytes q.die q.block q.page q.cw) && crcHolds plain &&
    ((m.recsInCw q).filter (fun r => m.valid r && decide (r.offset / 256 = q.cw))).all (fun r =>
      (bodyDir plain).contains { granule := r.granule, nsx := r.ns, offset := r.offset % 256, lenM1 := r.len - 1 })

/-- A record as it stands with a codeword's corrected payload: itself where the bytes are those stored, else what its corrected
ciphertext spells. -/
def Media.corrected (m : Media) (q : ExportReq) (plain : List Byte) (r : Rec) : Rec :=
  let run := m.payload_ (m.pageRecs q.die q.block q.page)
  let run := run.take (4096 * q.cw) ++ plain.drop 48 ++ run.drop (4096 * (q.cw + 1))
  let bs := (run.drop (16 * r.offset)).take (16 * r.len)
  if bs = m.cipher r then r else m.opened r bs

/-- RESOLVE: an accepted codeword's records move to a new row (R149). DESIGN CHOICE: where several codes of R145 apply, the first in
the order written here; event 0x3121 and CODE 0x00 are given as the move begins (notes/assumptions/56.md). -/
def State.resolve (s : State) (p : Fin 2) (q : ExportReq) : State :=
  let a := s.media.expArea[p]
  if 4 < q.stepMax ∨ s.media.badPlace q then s.expEnd p 1
  else if !s.exportsOn then s.expEnd p 2
  else if s.anyReadLocked then s.expEnd p 3
  else if s.media.erasing q.die q.block then s.expEnd p 0xC6
  else if a.last ≠ some (q.die, q.block, q.page, q.cw, s.media.erases q.die q.block) then s.expEnd p 5
  else
    let bytes := (padTo 23264 0 a.record |>.drop 68).take 4176
    if !s.media.resolveOk q bytes then s.expEnd p 4
    else
      let s := s.log 0x3121 (sliceOf q.die).val (leBytes 2 q.die ++ leBytes 2 q.block ++ leBytes 2 q.page ++ leBytes 1 q.cw)
      let rs := (s.media.recsInCw q).filter s.media.valid
      let plain := s.media.unscrambled q.die q.block q.page q.cw (bytes.drop 32)
      let fixed (r : Rec) : Rec := if rs.contains r then s.media.corrected q plain r else r
      let units := (rs.map (fun r => gkey r.ns (r.granule / s.media.perUnit r.ns))).dedup
      let s := units.foldl (fun s u => match s.media.map.get? u with
        | some e => s.queueCopy ((s.media.recsAt (u / 2 ^ 40) (u % 2 ^ 40) e).map fixed)
        | none => s) s
      s.expEnd p 0

/-! ### The request descriptor (R144) -/

/-- The 32 bytes of a descriptor. -/
def expDesc (kind : Nat) (q : ExportReq) : List Byte :=
  leBytes 1 kind ++ leBytes 1 q.stepMax ++ leBytes 2 0 ++ leBytes 4 q.nsid ++ leBytes 8 q.lba ++ leBytes 2 q.die ++ leBytes 2 q.block ++
    leBytes 2 q.page ++ leBytes 1 q.cw ++ leBytes 1 0 ++ leBytes 8 q.tag.toNat

/-- The request that a descriptor spells. -/
def descReq (d : List Byte) : ExportReq :=
  let at_ (a n : Nat) : Nat := ofLeBytes ((d.drop a).take n)
  { stepMax := at_ 1 1, nsid := at_ 4 4, lba := at_ 8 8, die := at_ 16 2, block := at_ 18 2, page := at_ 20 2, cw := at_ 22 1,
    tag := BitVec.ofNat 64 (at_ 24 8) }

/-- The request in an area's descriptor runs. -/
def State.expRun (s : State) (p : Fin 2) : State :=
  let d := s.media.expArea[p].desc
  let q := descReq d
  match byteNat d 0 with
  | 1 => s.exportByLba p q
  | 2 => s.exportByPhysical p q
  | 3 => s.resolve p q
  | _ => s.expEnd p 1

/-- GO is written (RDC_EXP_GO): ignored while BUSY is 1, and at port B in x16 mode, where it has no function (R142, R143). -/
def State.expGo (s : State) (p : Fin 2) : State :=
  let a := s.media.expArea[p]
  if a.busy ∨ (p = 1 ∧ !s.dual) then s
  else (s.setMedia (fun m => { m with expArea := m.expArea.upd p (fun a =>
    { a with busy := true, tag := (descReq a.desc).tag }) })).expRun p

/-- A descriptor is written, with resolve input if there is any, and GO set. -/
def State.expRequest (s : State) (p : Fin 2) (kind : Nat) (q : ExportReq) (input : Option (List Byte)) : State :=
  if s.media.expArea[p].busy then s
  else (s.setMedia (fun m => { m with expArea := m.expArea.upd p (fun a => { a with
    desc := expDesc kind q
    record := match input with
      | some bs => (padTo 23264 0 a.record).take 68 ++ (padTo 4176 0 bs).take 4176 ++ (padTo 23264 0 a.record).drop 4244
      | none => a.record }) })).expGo p

/-! ### The end of a codeword -/

/-- A map page has been read: the commands, exports and rows that waited for it go on, and the owner loads its next one (R192,
R193). -/
def State.pageLoaded (s : State) (pk : Nat) : State :=
  let s := s.setMedia (fun m => m.loaded pk)
  let s := (s.cmq.cmds.filter (fun e => e.2.waitPage = some pk)).foldl (fun s e => s.wake e.1) s
  let s := (List.finRange 2).foldl (fun s p => if s.media.expArea[p].waitPage = some pk then
    (s.setMedia (fun m => { m with expArea := m.expArea.upd p (fun a => { a with waitPage := none }) })).expRun p else s) s
  s.dueRows.loadNext

/-- A map page is unrecovered: what waited for it fails (DESIGN CHOICE, notes/assumptions/14.md). -/
def State.pageLost (s : State) (pk : Nat) : State :=
  let s := (s.cmq.cmds.filter (fun e => e.2.waitPage = some pk)).foldl (fun s e => s.quit e.1 .unrecoveredRead) s
  (List.finRange 2).foldl (fun s p => if s.media.expArea[p].waitPage = some pk then s.expEnd p 6 else s) s

/-- What a ladder's codeword was read for has been recovered as a whole: a granule, a map page. -/
def State.delivered (s : State) (l : Ladder) (gk : Nat) : State :=
  match l.who with
  | .host f | .merge f => match s.media.recHere l.die l.block l.page gk with
    | some r => s.deliver f r
    | none => s.undeliver f (gk % 2 ^ 40)
  | .mapPage ns k => s.pageLoaded (ns * 2 ^ 30 + k)
  | .copy _ | .rebuild1 _ | .rebuild2 _ => match s.media.recHere l.die l.block l.page gk with
    | some r => match s.media.copyUnit l.who r with
      | some rs => s.queueCopy rs
      | none => s
    | none => s
  | .member _ | .export_ _ | .scan => s

/-- It is unrecovered (R103, R135, R63). A copy leaves its record where it is (DEDUCED, notes/assumptions/17.md). -/
def State.undelivered (s : State) (l : Ladder) (gk : Nat) : State :=
  match l.who with
  | .host f | .merge f => s.undeliver f (gk % 2 ^ 40)
  | .mapPage ns k => s.pageLost (ns * 2 ^ 30 + k)
  | _ => s

/-- A codeword of what a ladder reads for has ended. While another one of it is being read, a failure is kept; with the last one it is
delivered or not (R103). -/
def State.codewordEnds (s : State) (l : Ladder) (ok : Bool) (gk : Nat) : State :=
  if s.media.reads.any (fun e => decide (e.2.who = l.who) && e.2.grans.contains gk) then
    if ok then s else s.setMedia (fun m => { m with unrec := (l.who, gk) :: m.unrec })
  else
    let bad := !ok || s.media.unrec.contains (l.who, gk)
    let s' := s.setMedia (fun m => { m with unrec := m.unrec.filter (fun e => e ≠ (l.who, gk)) })
    if bad then s'.undelivered l gk else s'.delivered l gk

/-- A ladder has left the table: a member of another ladder's step 6 is counted there (R133), and every granule that lies in the
codeword goes on. -/
def State.settled (s : State) (rid : Nat) (l : Ladder) (ok : Bool) : State :=
  match l.who with
  | .member main => s.setMedia (fun m => m.memberEnd rid main ok)
  | _ => l.grans.foldl (fun s gk => s.codewordEnds l ok gk) s

/-- What a codeword reports when its ladder has ended at step `n` (R120, R172, R205): that it needed step 3 or 4, or, recovered, step 5 or
6; a scan's finding; and that a read of the die ended at step 6 or above. -/
def State.report (s : State) (l : Ladder) (n : Nat) (ok : Bool) : State :=
  let s := if n < 3 then s
    else if l.who = .scan then s.trigger l.die l.block 7
    else if ok ∧ 5 ≤ n then s.trigger l.die l.block 4
    else s.trigger l.die l.block 3
  if 6 ≤ n ∧ !s.media.dieOut l.die then s.noteStep6 l.die l.block else s

/-- A codeword has been recovered (R105): tracking, counts, reports, and what it was read for. -/
def State.recovered (s : State) (rid : Nat) (l : Ladder) : State :=
  let n := l.endStep
  (((s.trackUpdate l).setMedia (fun m => m.endRead rid n l)).report l n true).settled rid l true

/-- A codeword is unrecovered: its event (R135, R138), its count, its reports, and what it was read for. -/
def State.unrecovered (s : State) (rid : Nat) (l : Ladder) (code : Nat) : State :=
  let s := (s.log code (sliceOf l.die).val (l.data l.top)).setMedia (fun m => m.endRead rid 7 l)
  (s.report l l.top false).settled rid l false

/-- The cap of a ladder (R137, R138): a host read's, and none for a codeword on a failed die. Below 5 a missed mark ends it after step
0. -/
def Ladder.capNow (l : Ladder) : Nat :=
  match l.who with
  | .host _ => if l.missed ∧ l.cap < 5 then 0 else l.cap
  | _ => l.cap

/-- A step has failed: the ladder goes on to its next step, or ends (R131, R133, R138). -/
def State.stepFailed (s : State) (rid : Nat) (l : Ladder) (found : Bool) : State :=
  let sl := sliceOf l.die
  let s := if l.step = 0 then s.setMedia (fun m => m.staleTrack l) else s
  let l' := l.failed found
  let nx := (if l.step = 5 then l' else l).next (s.units.noSoft sl)
  if 7 ≤ nx ∨ l.step = 6 then s.unrecovered rid l 0x3120
  else if l.capNow < nx then s.unrecovered rid l (match l.who with
    | .host _ => 0x3124
    | _ => 0x3120)
  else if s.service ∧ s.media.rdc[sl].stepLimit.toNat < nx then s.unrecovered rid l 0x3120
  else (s.setMedia (fun m => m.setRead rid (fun _ => l'))).startStep rid nx

/-- Step 6 has read every member: the rebuilt codeword is checked (R133). -/
def State.rebuildEnd (s : State) (rid : Nat) (l : Ladder) : State :=
  if l.memberLost ∨ !s.media.rebuiltOk l.die l.block l.page l.cw then s.stepFailed rid l false else s.recovered rid l

/-- Every step 6 that awaits no member ends. -/
def State.rebuildEnds (s : State) : Nat → State
  | 0 => s
  | fuel + 1 => match s.media.reads.find? (fun e => decide (e.2.step = 6) && decide (e.2.members = 0)) with
    | some e => (s.rebuildEnd e.1 e.2).rebuildEnds fuel
    | none => s

def State.settleReads (s : State) : State := s.rebuildEnds (2 * s.media.reads.length)

/-! ### A NAND read's data arrives -/

/-- A ladder whose reads of a step have all arrived: step 5 has searched and succeeds or fails by the alignment that it found (R132 item
4), any other step is decoded. -/
def State.arrived (s : State) (rid : Nat) : State :=
  match s.media.reads.get? rid with
  | none => s
  | some l =>
    if l.await ≠ 0 then s
    else if l.step = 5 then s.stepFailed rid l (decide (l.align ≠ ({} : Align)))
    else s.startDecode rid

/-- The data of a NAND read has been transferred: every codeword of its run takes its part, and its counts may trigger pounce (R104,
R120, R205). The second read of a cache read leaves the die free. In a flush the data is discarded and the ladders end without a result
(R160). -/
def State.readData (s : State) (rid : Nat) (sig : ReadSignals) : State :=
  match s.media.flight rid with
  | none => s
  | some (d, k) =>
    let s := s.busPast d
    match s.media.reads.get? rid with
    | none => s.transferred d rid k
    | some l =>
      let rids := s.media.served rid l
      if !s.readsGo then
        (s.dropReads (fun x => decide (x = l) || (decide (l.step = 0) && decide (x.run = l.run) && decide (x.step = 0)))).transferred d rid k
      else
        let win := (s.media.readWindow l).1
        let s := rids.foldl (fun s r => s.takePart r k win sig.window) s
        let s := if l.perEntry = 2 ∧ l.await = 2 then s else s.transferred d rid k
        (rids.foldl State.arrived s).countTrigger l.die l.block

/-! ### Decodes -/

/-- A codeword of a parity page: it holds no meta of its own (R85, R133). -/
def Media.isParity (m : Media) (l : Ladder) : Bool := (m.heads.get? (pageKey l.die l.block l.page)).any (·.parity)

/-- An LDPC decode has ended after some iterations (R105, R131): a zero syndrome within the limit is sound; a miscorrection is counted
and fails the step. -/
def State.decoded (s : State) (rid : Nat) (out : DecodeEnd) (iters : Nat) : State :=
  match s.media.reads.get? rid with
  | none => s
  | some l =>
    if l.await ≠ 0 ∨ 5 ≤ l.step then s
    else
      let sound := decide (out ≠ .notConverged) && decide (iters ≤ l.iterations)
      let ok := sound && (s.media.isParity l || decide (out = .recovered))
      let s := if sound ∧ !ok ∧ out = .crcMismatch then
        s.setMedia (fun m => m.setRdc (sliceOf l.die) (fun r => { r with miscorr := r.miscorr + 1 })) else s
      match l.who with
      | .export_ p => s.exportStep p rid l ok
      | _ =>
        if ok then s.recovered rid l
        else if sound ∧ out = .dirMismatch then s.unrecovered rid l 0x3131
        else if sound ∧ out = .decompFail then s.unrecovered rid l 0x3130
        else s.stepFailed rid l false

/-- A decoder that is power-gated wakes on its first access (R447): the soft ones, and hard decoders 4 to 7 once 0 to 3 have failed. -/
def State.wakeDecoders (s : State) (rid : Nat) : State :=
  match s.media.reads.get? rid with
  | some l =>
    let sl := sliceOf l.die
    let units : List Nat := if l.soft then [0, 1] else if s.units.hard[sl] &&& 0x0F = 0x0F then [3, 4, 5, 6] else []
    units.foldl (fun s u => s.ungate sl.val u) s
  | none => s

/-! ### The commands -/

def execRead (fseq : Nat) (s : State) : Host.Outcome State Fault Refusal :=
  .next (s.whenLive (fun s => (s.readCommand fseq).settleReads))

/-- DECODE_COMPLETE (R105, R115, R117, R118, R128, R131 to R138). -/
def execDecodeComplete (rid : Nat) (out : DecodeEnd) (iters : Nat) (s : State) : Host.Outcome State Fault Refusal :=
  .next (s.whenLive (fun s => ((s.wakeDecoders rid).decoded rid out iters).settleReads))

end Sys2Proof.Machine
end

