-- ==== Sys2Proof/Machine/Flash.lean ====
section
/-! DEFINITION. Chapter 04, the flash channels: training and recentring (R161 to R163), pin faults (R169 to R171), status
polls (R172), suspension (R165, R166), wait limits (R157, R158), the ends of array operations, the phases of a rebuild (R175) and the
return of a die (R178). -/

namespace Sys2Proof.Machine

open Sys2Proof

/-! ### Loss of a chip enable or a channel (R171) -/

/-- The dies behind a chip enable. -/
def ceDies (ch : Fin 64) (ce : Fin 4) : List Nat := (List.range 4).map (fun l => ch.val * 16 + ce.val * 4 + l)

/-- The slice of a channel. -/
def chSlice (ch : Fin 64) : Nat := (sliceOf (ch.val * 16)).val

/-- A channel is isolated: its signals go to high impedance, every CE_N is held high, and its dies are all lost (R171, R172). -/
def State.isolate (s : State) (ch : Fin 64) : State :=
  if s.media.fch[ch].isolate then s
  else
    let s := (s.setFch ch (fun f => { f with isolate := true, state := 5, rateNow := 0, pinLatch := f.pinflt })).log 0x3011 (chSlice ch)
      (leBytes 1 ch.val)
    (((List.range 16).map (fun i => ch.val * 16 + i)).foldl (fun s d => s.dieFails d 4) s).emit (.pins ch none)

/-- A chip enable has dies: in the population record, or, before there is one, dies that answered. -/
def Media.ceUsed (m : Media) (ch : Fin 64) (ce : Fin 4) : Bool :=
  (ceDies ch ce).any (fun d => match m.population with
    | some ds => ds.contains d
    | none => m.fch[ch].present.getLsbD (posOf d))

/-- Every chip enable of a channel that has dies is lost. -/
def Media.allCeLost (m : Media) (ch : Fin 64) : Bool :=
  (List.finRange 4).any (m.ceUsed ch) && (List.finRange 4).all (fun k => !m.ceUsed ch k || m.fch[ch].ces[k].lost)

/-- A chip enable is lost: it is held high and its four dies are lost; with the last one the channel is isolated. Before the first
population record that is settled when the record is taken. -/
def State.loseCe (s : State) (ch : Fin 64) (ce : Fin 4) : State :=
  if s.media.fch[ch].isolate ∨ s.media.fch[ch].ces[ce].lost then s
  else
    let s := s.setFch ch (fun f => { f with
      ces := f.ces.upd ce (fun c => { c with lost := true, retraining := false, probe := none }), pinLatch := f.pinflt })
    let s := s.emit (.pins ch (some ce))
    if s.media.population.isSome && s.media.allCeLost ch then s.isolate ch
    else (ceDies ch ce).foldl (fun s d => s.dieFails d 4) (s.log 0x3012 (chSlice ch) (leBytes 1 ch.val ++ leBytes 1 ce.val))

/-- The bit of a signal in FCH_PINFLT: signals 0–7 DQ, 8 DQS, 9 RE, 10 WE_N, 11 ALE, 12 CLE, 13–16 CE_N. -/
def sigBit (g : Fin 17) : Nat := if g.val < 13 then 2 ^ g.val else 2 ^ (g.val + 3)

/-- The signals of a fault, and its KIND. -/
def pinSignals : PinFault → Nat × Nat
  | .shortVio g => (sigBit g, 1)
  | .shortGnd g => (sigBit g, 2)
  | .shortSignal a b => (sigBit a ||| sigBit b, 3)
  | .ceOpen ce => (2 ^ (16 + ce.val), 0)

/-- FCH_PINFLT after a check: every signal found faulty, and the KIND of the first fault. -/
def pinFlt (fs : List PinFault) : Nat :=
  fs.foldl (fun x f => x ||| (pinSignals f).1) 0 + (match fs with
    | [] => 0
    | f :: _ => (pinSignals f).2 * 2 ^ 24)

/-- What a fault costs: the channel (none) or one chip enable. -/
def faultCe : PinFault → Option (Fin 4)
  | .ceOpen ce => some ce
  | .shortVio g => if 13 ≤ g.val then some (Fin.ofNat 4 (g.val - 13)) else none
  | _ => none

/-- A program whose data transfer has been cut is issued again: it is not confirmed (R170). -/
def State.unissue (s : State) (d : Nat) : State :=
  match (s.media.die d).op with
  | .prog r p mb b w _ _ =>
    let own (x : Xfer) : Bool := match x with
      | .page d' .. | .confirm d' .. => decide (d' = d)
      | _ => false
    (s.setFch (chOf d) (fun f => { f with bus := f.bus.filter (fun x => !own x) })).setDie d (fun x =>
      { x with op := .idle, queue := .prog r p mb b w :: x.queue })
  | _ => s

/-- The pin check ends the transfer on the bus: one of a program undoes its issue, any other one is made again after the check. -/
def State.busCut (s : State) (ch : Fin 64) : State :=
  match s.media.fch[ch].busNow with
  | none => s
  | some (x, _) =>
    let s := s.setFch ch (fun f => { f with busNow := none })
    match x with
    | .page d .. | .confirm d .. => s.unissue d
    | .probe .. => s
    | x => s.setFch ch (fun f => { f with bus := x :: f.bus })

/-- A pin check with what it found (R170, R171). With no fault found, a chip enable that failed training is lost by that alone. A chip
enable without dies cannot answer, and is no finding. -/
def State.pinCheck (s : State) (ch : Fin 64) (found : List PinFault) (failed : Option (Fin 4)) : State :=
  if s.media.fch[ch].isolate then s
  else
    let fs := found.filter (fun f => match f with
      | .ceOpen ce => s.media.population.isNone || s.media.ceUsed ch ce
      | _ => true)
    let s := (s.busCut ch).setFch ch (fun f => { f with pinflt := BitVec.ofNat 32 (pinFlt fs) })
    let s := if fs = [] then s else s.log 0x3010 (chSlice ch) (leBytes 1 ch.val ++ leBytes 4 (pinFlt fs))
    let s := fs.foldl (fun s f => match faultCe f with
      | some ce => s.loseCe ch ce
      | none => s.isolate ch) s
    let s := match fs, failed with
      | [], some ce => s.loseCe ch ce
      | _, _ => s
    (s.busGo ch).pumpChannel ch

/-! ### Probes that wait for a LUN (R163) -/

/-- The LUN that a probe of a chip enable goes to now: no array operation in progress, no suspension window. -/
def Media.probeLun (m : Media) (ch : Fin 64) (ce : Fin 4) : Option Nat :=
  (ceDies ch ce).find? (fun d => m.dies_.contains d && !m.dieOut d && decide ((m.die d).op = .idle) && (m.die d).window.isNone)

/-- A delay's move (R162): up where only the lower probe fails, down where only the upper one does. -/
def moved (b : ProbeBit) (c : BitVec 6) : BitVec 6 :=
  if b.lowFails && !b.highFails then satInc c else if b.highFails && !b.lowFails then (if c = 0 then 0 else c - 1) else c

/-- The delay that FCH_DLY shows of eight bits. DESIGN CHOICE (notes/assumptions/18.md): their mean, rounded down. -/
def shownDelay (bits : List (BitVec 6)) : BitVec 6 := BitVec.ofNat 6 ((bits.map (·.toNat)).foldl (· + ·) 0 / 8)

/-- A chip enable with new delays of its bits. -/
def CeSt.setBits (c : CeSt) (bits : List (BitVec 6)) : CeSt :=
  { c with bits := bits, rdDly := shownDelay (bits.take 8), wrDly := shownDelay (bits.drop 8) }

/-- The probe's bits that count: every fourth recentring probes the write delays too (R162). -/
def CeSt.probed (c : CeSt) (bits : List ProbeBit) : List ProbeBit :=
  let xs := padTo 16 { lowFails := false, highFails := false } bits
  if (c.recentred + 1) % 4 = 0 then xs.take 16 else padTo 16 { lowFails := false, highFails := false } (xs.take 8)

/-- A recentring without a bit that failed both probes: each bit moves by itself, and MOVES counts (R162). -/
def CeSt.recentre (c : CeSt) (bits : List ProbeBit) : CeSt :=
  let next := List.zipWith moved bits c.bits
  let n := (List.zipWith (fun (a b : BitVec 6) => bit (decide (a ≠ b))) next c.bits).foldl (· + ·) 0
  { (c.setBits next) with recentred := c.recentred + 1, moves := satOf 8 (c.moves.toNat + n) }

/-- The same bit of another chip enable of the channel failed both its probes within 1 s (R170). -/
def Fch.sameBit (f : Fch) (ce : Fin 4) (bits : List Nat) (now : Nat) : Bool :=
  (List.finRange 4).any (fun k => decide (k ≠ ce) && f.ces[k].bothFail.any (fun e =>
    bits.contains e.1 && decide (now ≤ e.2 + 100000000)))

/-- Data of a die failed the training-pattern comparison or every mark search; another die's within 10 ms calls for a pin check (R170). -/
def State.dataFailed (s : State) (d : Nat) (pins : List PinFault) : State :=
  let ch := chOf d
  let now := s.tb.count.toNat
  let near := s.media.fch[ch].markAt.filter (fun e => decide (now ≤ e.2 + 1000000))
  let s := s.setFch ch (fun f => { f with markAt := (d, now) :: near })
  if near.any (fun e => decide (e.1 ≠ d)) then s.pinCheck ch pins none else s

/-- A probe's outcome (R162, R163, R170): the delays move; or, where a bit fails both probes, the chip enable is fully retrained, its
dies' operations held back. DESIGN CHOICE (notes/assumptions/18.md): a probe all of whose read bits fail is data that failed the
training-pattern comparison. -/
def State.probeEnds (s : State) (d : Nat) (bits : List ProbeBit) (pins : List PinFault) : State :=
  let ch := chOf d
  let ce := ceOf d
  let c := s.media.fch[ch].ces[ce]
  let xs := c.probed bits
  let both := ((List.range 16).filter (fun i => (xs.getD i ⟨false, false⟩).lowFails && (xs.getD i ⟨false, false⟩).highFails))
  if both = [] then s.setFch ch (fun f => { f with ces := f.ces.upd ce (fun c => c.recentre xs) })
  else
    let now := s.tb.count.toNat
    let dq := (both.map (· % 8)).dedup
    let same := s.media.fch[ch].sameBit ce dq now
    let s := s.setFch ch (fun f => { f with
      state := 4
      ces := f.ces.upd ce (fun c => { c with
        recentred := c.recentred + 1, retraining := true
        bothFail := dq.map (fun b => (b, now)) ++ c.bothFail.filter (fun e => !dq.contains e.1) }) })
    let s := s.emit (.nand d 10 0 0)
    let s := if same then s.pinCheck ch pins none else s
    if (List.range 8).all both.contains then s.dataFailed d pins else s

/-- A probe is sent to a LUN. -/
def State.probeTo (s : State) (d : Nat) (bits : List ProbeBit) (pins : List PinFault) : State :=
  let c := s.media.fch[chOf d].ces[ceOf d]
  (s.transfer d [.probe d (c.eye.toNat / 2 - 2) (decide ((c.recentred + 1) % 4 = 0))]).probeEnds d bits pins

/-- The probes of a channel that wait go out as far as a LUN of theirs is free, and the dies go on. -/
def State.probesGo (s : State) (ch : Fin 64) : State :=
  (List.finRange 4).foldl (fun s ce =>
    match s.media.fch[ch].ces[ce].probe, s.media.probeLun ch ce with
    | some p, some d =>
      ((s.setFch ch (fun f => { f with ces := f.ces.upd ce (fun c => { c with probe := none }) })).probeTo d p.1 p.2).pumpChannel ch
    | _, _ => s) s

/-- A recentring falls due (R162, R163). -/
def State.recentre (s : State) (ch : Fin 64) (ce : Fin 4) (bits : List ProbeBit) (pins : List PinFault) : State :=
  let f := s.media.fch[ch]
  let c := f.ces[ce]
  if !f.en ∨ f.isolate ∨ !f.recentre ∨ c.lost ∨ !c.trained ∨ c.retraining ∨ !s.readsGo then s
  else match s.media.probeLun ch ce with
    | some d => s.probeTo d bits pins
    | none => s.setFch ch (fun f => { f with ces := f.ces.upd ce (fun c => { c with probe := some (bits, pins) }) })

/-- The sixteen bits of a probe in the order in which the PHY holds their delays: eight read, eight write. -/
def probeBits (rd wr : List ProbeBit) : List ProbeBit := (padTo 8 { lowFails := false, highFails := false } rd).take 8 ++ wr

/-- RECENTRE_DUE (R162, R163, R170, R171): the outcomes of the read bits, and of the write bits, which count in every fourth. -/
def execRecentreDue (ch : Fin 64) (ce : Fin 4) (rd wr : List ProbeBit) (pins : List PinFault) (s : State) :
    Host.Outcome State Fault Refusal := .next (s.whenLive (fun s => s.recentre ch ce (probeBits rd wr) pins))

/-! ### Training (R153 to R155, R161, R163) -/

/-- The rates of FCH_CTL.RATE in MT/s, from the target on, each with its place in the list of eyes. -/
def Fch.rates (f : Fch) : List (Nat × Nat) :=
  match f.rate with
  | 1 => [(3600, 1), (2400, 2)]
  | 2 => [(2400, 2)]
  | _ => [(4800, 0), (3600, 1), (2400, 2)]

/-- The target rate. -/
def Fch.target (f : Fch) : Nat := match f.rate with
  | 1 => 3600
  | 2 => 2400
  | _ => 4800

/-- FCH_STAT.RATE_DOWN. -/
def Fch.rateDown (f : Fch) : Bool := decide (f.rateNow ≠ 0) && decide (f.rateNow < f.target)

/-- The first rate at which a chip enable passes: the eyes common to all bits are at least 10 steps for reads and writes; with the
smaller eye (R161). -/
def Fch.passes (f : Fch) (eyes : List (Nat × Nat)) : Option (Nat × Nat) :=
  f.rates.findSome? (fun x => match eyes[x.2]? with
    | some e => if 10 ≤ e.1 ∧ 10 ≤ e.2 then some (x.1, min e.1 e.2) else none
    | none => none)

/-- The profile's declared timing keeps the limits of R154. -/
def timingOk (p : Profile) : Bool :=
  let t := p.timing
  (if p.qlc then decide (t.readTyp ≤ 800) && decide (t.readMax ≤ 1100) && decide (t.coarseTyp + t.fineTyp ≤ 7100)
   else decide (t.readTyp ≤ 400) && decide (t.readMax ≤ 550) && decide (t.progTyp ≤ 2100)) &&
  decide (t.eraseMax ≤ 150000) && decide (t.eraseTyp ≤ 100000) && decide (t.eraseSuspMax ≤ 500) && decide (t.progSuspMax ≤ 300) &&
  decide (t.resumeMax ≤ 100) && decide (t.resetMax ≤ 5)

/-- A profile that the FZ9640 supports: a page type for each bit of a cell, a bit for each state, its coding keeps R112 and its timing
R154. -/
def supported (p : Profile) : Bool :=
  decide (p.coding.length = (if p.qlc then 4 else 3)) && p.coding.all (fun c => decide (c.length = (if p.qlc then 16 else 8))) &&
    codingOk p.coding && timingOk p

/-- The one profile of the image that a die's identity selects (R153), if it is supported. -/
def profileOf (ps : List Profile) (id : DieId) : Option Profile :=
  match ps.filter (fun p => decide (p.match_ = id)) with
  | [p] => if supported p then some p else none
  | _ => none

/-- A die that answers is left out of service (R155): 1 no profile matches, 2 another profile, 3 not in the record. -/
def State.leaveOut (s : State) (d why : Nat) : State :=
  (s.setDie d (fun x => { x with leftOut := true })).log 0x3002 (sliceOf d).val (leBytes 2 d ++ leBytes 1 why)

/-- A die that no profile fits is left out; before there is a population record, no population is taken (R83, R155). -/
def State.unfitDie (s : State) (d why : Nat) : State :=
  let s := s.leaveOut d why
  if s.media.population.isSome then s else s.setMedia (fun m => { m with popInvalid := true })

/-- One LUN against the population (R155): at the first start every die is of one and the same profile, or the population is invalid;
later, one of the record that does not answer is a failed die, and one that is not in it or of another profile is left out. -/
def State.checkDie (s : State) (ps : List Profile) (d : Nat) (id : Option DieId) : State :=
  match id with
  | none =>
    if s.media.population.isNone then s
    else if s.media.dieFailed d then s.setDie d (fun x => { x with returning := false })
    else s.dieFails d 1
  | some id =>
    let s := (s.setFch (chOf d) (fun f => { f with present := f.present ||| (1 <<< posOf d) })).setDie d (fun x =>
      { x with ident := some id, leftOut := false })
    if s.media.population.isSome ∧ !s.media.dies_.contains d then s.leaveOut d 3
    else match profileOf ps id, s.media.profile with
      | none, _ => s.unfitDie d 1
      | some p, none => s.setMedia (fun m => { m with profile := some p })
      | some p, some q => if p.match_ = q.match_ then s.setMedia (fun m => { m with profile := some p }) else s.unfitDie d 2

/-- What training sends to the dies of a chip enable (R151, R161). -/
def trainOuts (ch : Fin 64) (ce : Fin 4) (r : CeTraining) (rate : Nat) : List Output :=
  ((ceDies ch ce).zip r.luns).flatMap (fun x => [.nand x.1 5 0 0, .nand x.1 11 0 0] ++ (match x.2.bind (profileOf r.profiles) with
    | none => []
    | some p => [.nand x.1 8 rate 0] ++ p.odt.map (fun o => .nandFeature x.1 o.1 o.2) ++ [.nand x.1 9 0 0, .nand x.1 10 0 0]))

/-- A chip enable has passed at a rate: its delays and eye. The channel runs at the lowest rate that its chip enables passed, with
event 0x3004 as that falls below the rate set (R161). -/
def State.ceTrained (s : State) (ch : Fin 64) (ce : Fin 4) (r : CeTraining) (rate eye : Nat) : State :=
  let s := s.setFch ch (fun f => { f with ces := f.ces.upd ce (fun c =>
    { (c.setBits ((padTo 16 0 r.bits).map (BitVec.ofNat 6))) with eye := BitVec.ofNat 6 eye, rate := rate, trained := true }) })
  let f := s.media.fch[ch]
  let low := ((List.finRange 4).filter (fun k => f.ces[k].trained && !f.ces[k].lost)).foldl
    (fun m k => min m f.ces[k].rate) rate
  let was := f.rateNow
  let s := s.setFch ch (fun f => { f with rateNow := low })
  if low < f.target ∧ low ≠ was then
    s.log 0x3004 (chSlice ch) (leBytes 1 ch.val ++ leBytes 2 low ++ leBytes 1 ce.val)
  else s

/-- The outcome of a training or retraining: the rate passed, or, after a failure at every rate, TRAIN_FAIL and the pin check. -/
def State.trainOutcome (s : State) (ch : Fin 64) (ce : Fin 4) (r : CeTraining) (pins : List PinFault) : State :=
  match s.media.fch[ch].passes r.eyes with
  | some x => s.ceTrained ch ce r x.1 x.2
  | none => (s.setFch ch (fun f => { f with trainFail := true })).pinCheck ch pins (some ce)

/-- A full retraining has ended: event 0x3030, and the chip enable's dies go on (R163). -/
def State.ceRetrained (s : State) (ch : Fin 64) (ce : Fin 4) (r : CeTraining) (pins : List PinFault) : State :=
  let eye := match r.eyes.getLast? with
    | some e => min e.1 e.2
    | none => 0
  let s := (s.setFch ch (fun f => { f with ces := f.ces.upd ce (fun c => { c with retraining := false }) })).log 0x3030 (chSlice ch)
    (leBytes 1 ch.val ++ leBytes 1 ce.val ++ leBytes 1 eye)
  let s := s.trainOutcome ch ce r pins
  (s.setFch ch (fun f => { f with
    state := if f.isolate then 5 else if (List.finRange 4).any (fun k => f.ces[k].retraining) then 4 else 3 })).pumpChannel ch

/-- Training of a chip enable has ended (R161): at the start of the part, after the pin check that goes before it (R170); a chip enable
behind which no die is recorded or answers has none. -/
def State.ceTraining (s : State) (ch : Fin 64) (ce : Fin 4) (r : CeTraining) (pins : List PinFault) : State :=
  let f := s.media.fch[ch]
  if f.isolate ∨ f.ces[ce].lost then s
  else if f.ces[ce].retraining then s.ceRetrained ch ce r pins
  else if f.en ∨ f.ces[ce].trained then s
  else
    let s := s.setFch ch (fun f => { f with state := 2 })
    let s := if pins = [] then s else s.pinCheck ch pins none
    let here := r.luns.any Option.isSome
    if s.media.fch[ch].isolate ∨ s.media.fch[ch].ces[ce].lost then s
    else if !here ∧ !s.media.ceUsed ch ce then s
    else
      let s := ((ceDies ch ce).zip (padTo 4 none r.luns)).foldl (fun s x => s.checkDie r.profiles x.1 x.2) s
      let s := s.emits (trainOuts ch ce r f.target)
      if here then s.trainOutcome ch ce r pins else s

/-- CE_TRAINING_DONE (R153, R155, R161, R163, R170, R171). -/
def execCeTrainingDone (ch : Fin 64) (ce : Fin 4) (res : CeTraining) (pins : List PinFault) (s : State) :
    Host.Outcome State Fault Refusal := .next (s.whenLive (fun s => s.ceTraining ch ce res pins))

/-! ### The ends of array operations -/

/-- The status of a die is read with Read Status Enhanced (R151), and what its operation still had waiting for the bus has passed. -/
def State.polled (s : State) (d : Nat) : State := (s.busPast d).emit (.nand d 6 0 0)

/-- PROGRAM_COMPLETE (R93). -/
def execProgramComplete (row : Nat) (member : Fin 32) (s : State) : Host.Outcome State Fault Refusal :=
  .next (s.whenLive (fun s => match s.media.progDie row member with
    | some x => (((s.polled x.1).programComplete row member).probesGo (chOf x.1)).settleReads
    | none => s))

/-- PROGRAM_FAIL (R96, R172). -/
def execProgramFail (row : Nat) (member : Fin 32) (s : State) : Host.Outcome State Fault Refusal :=
  .next (s.whenLive (fun s => match s.media.progDie row member with
    | some x => (((s.polled x.1).programFail row member).probesGo (chOf x.1)).settleReads
    | none => s))

/-! ### The return of a die (R53, R178) -/

/-- A returning die whose rebuild has ended is erased: every block of it that no stripe holds and that is not bad. -/
def State.returnErases (s : State) (d : Nat) : State :=
  if !(s.media.die d).returning ∨ s.media.rebuilds.has d then s
  else ((s.media.die d).dirty.filter (fun b => !(s.media.usedBlocks d).contains b)).foldl (fun s b => s.queueErase d b) s

/-- Once every block has been erased it is in service again, with event 0x6420. -/
def State.dieReturns (s : State) (d : Nat) : State :=
  let x := s.media.die d
  if !x.returning ∨ s.media.rebuilds.has d ∨ x.dirty ≠ [] ∨ s.media.usedBlocks d ≠ [] then s
  else
    (((s.setFch (chOf d) (fun f => { f with failed := f.failed &&& ~~~((1 : BitVec 16) <<< posOf d) })).setDie d (fun x =>
      { x with returning := false, failBlocks := [], step6 := [], timeouts := 0 })).log 0x6420 (sliceOf d).val
      (leBytes 2 0x3020 ++ leBytes 2 d)).recompute

/-- A block is erased on a returning die, or fails to: a die that would be declared failed again stays failed. -/
def State.erasedBack (s : State) (d : Nat) : State :=
  let x := s.media.die d
  if !x.returning then s
  else if 8 ≤ x.failBlocks.length then s.setDie d (fun x => { x with returning := false, queue := [] })
  else s.dieReturns d

/-- ERASE_COMPLETE (R201, R202, R204). -/
def execEraseComplete (die block : Nat) (s : State) : Host.Outcome State Fault Refusal :=
  .next (s.whenLive (fun s => if s.media.erasing die block then
    ((((s.polled die).eraseComplete die block).probesGo (chOf die)).erasedBack die).settleReads else s))

/-- ERASE_FAIL (R96, R172). -/
def execEraseFail (die block : Nat) (s : State) : Host.Outcome State Fault Refusal :=
  .next (s.whenLive (fun s => if s.media.erasing die block then
    ((((s.polled die).eraseFail die block).probesGo (chOf die)).erasedBack die).settleReads else s))

/-! ### Status polls (R172) -/

/-- A die's status poll is not ready in time: its LUN is reset, and the second in a row fails it. Polls of two chip enables
within 10 ms call for a pin check (R170). -/
def State.pollTimeout (s : State) (d : Nat) (pins : List PinFault) : State :=
  if !s.media.inService d then s
  else
    let ch := chOf d
    let now := s.tb.count.toNat
    let near := s.media.fch[ch].pollAt.filter (fun e => decide (now ≤ e.2 + 1000000))
    let two := near.any (fun e => decide (ceOf e.1 ≠ ceOf d))
    let s := (s.polled d).setFch ch (fun f => { f with pollAt := (d, now) :: near })
    let n := (s.media.die d).timeouts + 1
    let s := if 2 ≤ n then s.dieFails d 1
      else (s.setDie d (fun x => { x with timeouts := n })).transfer d [.cmd d 5]
    if two then s.pinCheck ch pins none else s

/-- STATUS_POLL_TIMEOUT (R170 to R172). -/
def execStatusPollTimeout (die : Nat) (pins : List PinFault) (s : State) : Host.Outcome State Fault Refusal :=
  .next (s.whenLive (fun s => ((s.pollTimeout die pins).probesGo (chOf die)).settleReads))

/-- NAND_READ_DATA (R104 to R110, R114, R120, R170). -/
def State.nandData (s : State) (rid : Nat) (sig : ReadSignals) : State :=
  match s.media.flight rid with
  | none => s
  | some x =>
    let lost : Bool := s.readsGo && (s.media.reads.get? rid).any (fun l => s.media.pageMissed l sig.window)
    let s := (s.readData rid sig).probesGo (chOf x.1)
    if lost then s.dataFailed x.1 sig.pins else s

def execNandReadData (rid : Nat) (sig : ReadSignals) (s : State) : Host.Outcome State Fault Refusal :=
  .next (s.whenLive (fun s => (s.nandData rid sig).settleReads))

/-! ### Suspension (R165, R166) -/

/-- The operation after one suspension more. -/
def DieOp.suspended : DieOp → DieOp
  | .prog r p m b w n _ => .prog r p m b w (n + 1) false
  | .erase b n _ => .erase b (n + 1) false
  | x => x

/-- The die reports that it is suspended: its window opens with the values of that moment (R179), the suspension is counted, reads are
issued. -/
def State.dieSuspended (s : State) (d : Nat) : State :=
  if !(s.media.die d).suspending then s
  else
    let s := s.polled d
    let op := (s.media.die d).op.suspended
    let s := (s.readWaited d).setDie d (fun x => { x with
      suspending := false, window := some (0, [], false), op := op, readMax := s.param 0x3210 2 })
    let s := s.setFch (chOf d) (fun f => match op with
      | .erase _ n _ => { f with
          eraseSusp := satInc f.eraseSusp
          eraseAtLimit := if n = 8 then satInc f.eraseAtLimit else f.eraseAtLimit }
      | _ => { f with progSusp := satInc f.progSusp })
    (s.pump d).pumpChannel (chOf d)

/-- DIE_SUSPENDED (R166). -/
def execDieSuspended (die : Nat) (s : State) : Host.Outcome State Fault Refusal :=
  .next (s.whenLive (fun s => s.dieSuspended die))

/-- SUSP_WINDOW has passed (R166). -/
def State.windowPassed (s : State) (d : Nat) : State :=
  (s.setDie d (fun x => { x with window := x.window.map (fun w => (w.1, w.2.1, true)) })).pump d

/-- SUSP_WINDOW_EXPIRE (R166). -/
def execSuspWindowExpire (die : Nat) (s : State) : Host.Outcome State Fault Refusal :=
  .next (s.whenLive (fun s => if (s.media.die die).window.isSome then s.windowPassed die else s))

/-- The operation has run long enough since its last resume to be suspended again (R165). -/
def State.runReached (s : State) (d : Nat) : State :=
  (s.setDie d (fun x => { x with op := match x.op with
    | .prog r p m b w n _ => .prog r p m b w n true
    | .erase b n _ => .erase b n true
    | o => o })).pump d

/-- SUSPEND_RUN_REACHED (R165): of an operation that runs. -/
def execSuspendRunReached (die : Nat) (s : State) : Host.Outcome State Fault Refusal :=
  .next (s.whenLive (fun s => if (s.media.die die).op.long.isSome && (s.media.die die).window.isNone then s.runReached die else s))

/-- ARRAY_OP_WAIT_LIMIT: the program or erase at the head of its class is issued next (R157 rule 2). -/
def State.waitLimit (s : State) (d : Nat) (erase : Bool) : State :=
  let here (o : QOp) : Bool := match o with
    | .prog .. => !erase
    | .erase _ => erase
    | _ => false
  if (s.media.die d).visible.any here then
    (s.setDie d (fun x => { x with waited := if erase then (x.waited.1, true) else (true, x.waited.2) })).pump d
  else s

def execArrayOpWaitLimit (op : DieClass) (s : State) : Host.Outcome State Fault Refusal :=
  .next (s.whenLive (fun s => s.waitLimit op.die op.erase))

/-- BUS_TRANSFER_WAIT_LIMIT: the transfer that has waited 50 µs is taken next (R158). -/
def execBusTransferWaitLimit (ch : Fin 64) (s : State) : Host.Outcome State Fault Refusal :=
  .next (s.whenLive (fun s => if s.media.fch[ch].bus = [] then s else (s.setFch ch (fun f => { f with busLimit := true })).busGo ch))

/-! ### Rebuild (R175) -/

/-- REBUILD_PHASE1_END (R175). -/
def execRebuildPhase1End (die : Nat) (s : State) : Host.Outcome State Fault Refusal :=
  .next (s.whenLive (fun s => (s.rebuild1End die).settleReads))

/-- REBUILD_PHASE2_END (R175, R176, R178). -/
def execRebuildPhase2End (die : Nat) (s : State) : Host.Outcome State Fault Refusal :=
  .next (s.whenLive (fun s => (((s.rebuild2End die).settleStripes.returnErases die).dieReturns die)))

end Sys2Proof.Machine
end

