-- ==== Sys2Proof/Machine/Translation.lean ====
section
/-! DEFINITION. Chapter 05, the timers of translation: checkpoints (R198), pounce (R205 to R209), fulling windows (R213) and
reclaim units (R216). -/

namespace Sys2Proof.Machine

open Sys2Proof

/-- CHECKPOINT_TIMER: an hour of operating time has passed (R198). -/
def execCheckpointTimer (s : State) : Host.Outcome State Fault Refusal := .next (s.whenLive State.checkpoint)

/-- A trigger of stripe scope for a closed stripe (R205). -/
def State.triggerStripe (s : State) (sid trig : Nat) : State :=
  match s.media.stripes.get? sid with
  | some t => match t.members with
    | x :: _ => if s.media.stripeClosed sid t then s.trigger x.1 x.2 trig else s
    | [] => s
  | none => s

/-- RETENTION_AGE: a stripe has been closed for RETENTION_DAYS of operating time (R203, R205). -/
def execRetentionAge (stripe : Nat) (s : State) : Host.Outcome State Fault Refusal :=
  .next (s.whenLive (fun s => (s.triggerStripe stripe 6).settleReads))

/-- The scan's findings: pilot drift of POUNCE_DRIFT or more, or a codeword that needs step 3 (R205, R206). SCAN_EN of the
slice that runs the group allows it. -/
def State.scanFindings (s : State) (fs : List ScanFinding) : State :=
  fs.foldl (fun s f => match s.media.stripes.get? f.stripe with
    | some t =>
      if s.media.ftl[Fin.ofNat 8 t.group].scanEn ∧ (s.param 0x3320 3 ≤ f.drift ∨ f.step3) then s.triggerStripe f.stripe 7 else s
    | none => s) s

/-- POUNCE_SCAN (R206). -/
def execPounceScan (findings : List ScanFinding) (s : State) : Host.Outcome State Fault Refusal :=
  .next (s.whenLive (fun s => (s.scanFindings findings).settleReads))

/-- A pounce whose copies are all in complete rows is finished; an emergency writes event 0x3202 (R207). -/
def State.pounceFinish (s : State) (id : Nat) : State :=
  match s.media.pounces.get? id with
  | none => s
  | some p =>
    if p.pending ∨ s.media.copying p.stripe then s
    else
      let s' := s.setMedia (fun m => { m with pounces := m.pounces.del id })
      (if p.emerg then s'.log 0x3202 (s.media.pounceSlice p) p.data else s').settleStripes

/-- POUNCE_FINISH (R207). -/
def execPounceFinish (id : Nat) (s : State) : Host.Outcome State Fault Refusal :=
  .next (s.whenLive (fun s => (s.pounceFinish id).settleReads))

/-- A pending trigger that has waited 7 days of operating time becomes an emergency (R209). -/
def State.pounceAged (s : State) (id : Nat) : State :=
  match s.media.pounces.get? id with
  | none => s
  | some p =>
    if !p.pending then s
    else (s.setMedia (fun m => { m with pounces := m.pounces.mod id (fun p => { p with emerg := true, trigger := 8 }) })).startPounce id

/-- POUNCE_PENDING_AGED (R209). -/
def execPouncePendingAged (id : Nat) (s : State) : Host.Outcome State Fault Refusal :=
  .next (s.whenLive (fun s => (s.pounceAged id).settleReads))

/-- FULLING_WINDOW_EXPIRE: the window of R213 ends. -/
def execFullingWindowExpire (s : State) : Host.Outcome State Fault Refusal :=
  .next (s.whenLive (fun s => s.setMedia (fun m => { m with window := false })))

/-- A handle's reclaim unit is closed at its current row, with an FDP event (R215, R216): 1 not written to capacity, 2 time
limit. -/
def State.closeHandle (s : State) (handle kind : Nat) : State :=
  match s.media.openStripe (.host handle) with
  | none => s
  | some t =>
    let s := s.closeStripe t.1
    if s.media.fdp then s.setMedia (fun m => { m with fdpEvents := m.fdpEvents ++ [(handle, kind)] }) else s

/-- RECLAIM_UNIT_TIME_LIMIT (R216). -/
def execReclaimUnitTimeLimit (handle : Nat) (s : State) : Host.Outcome State Fault Refusal :=
  .next (s.whenLive (fun s => s.closeHandle handle 2))

end Sys2Proof.Machine
end

