-- ==== Sys2Proof/Machine/Holdup.lean ====
section
/-! DEFINITION. Chapter 06: charging and testing the bank (R226 to R230), bank faults (R231 to R233), the landing limit
(R235), the power-fail signal and the flush (R236 to R240). -/

namespace Sys2Proof.Machine

open Sys2Proof

/-- A two's complement 16-bit field, as bytes. -/
def i16 (x : Int) : List Byte := leBytes 2 (x % 65536).toNat

def State.setPlp (s : State) (f : Plp → Plp) : State := { s with plp := f s.plp }

/-- The switch gates as they stand: isolation, discharge, charger (R224). -/
def State.gates (s : State) : State :=
  s.emit (.gates s.plp.isoClosed s.plp.disClosed (s.plp.state == .precharge || s.plp.state == .boost))

/-! ### Charging (R226, R233) -/

/-- 11 V: VIN12 − 1 V at the nominal 12 V, in 10 mV. -/
def boostFrom : Int := 1100

/-- A charge starts from the present bank voltage (R226, R233). -/
def State.startCharge (s : State) : State :=
  (s.setPlp (fun p => { p with
    state := if p.capSense.toInt < boostFrom then .precharge else .boost })).recompute.gates

/-- Faults other than the charge timeout, which has no condition that lasts (R233). -/
def Plp.lasting (p : Plp) : BitVec 6 := p.active &&& 0x1F

/-- CHG_EN goes to 1: a new charge starts at once, but not over a fault whose condition lasts (R232, R233). -/
def State.chargeEnable (s : State) : State :=
  if s.plp.chgEn then s
  else
    let s := s.setPlp (fun p => { p with chgEn := true })
    if s.plp.lasting ≠ 0 ∨ s.plp.state = .holding then s else s.startCharge

/-- CHARGE_ENABLE (R233). -/
def execChargeEnable (s : State) : Host.Outcome State Fault Refusal := .next (s.whenLive State.chargeEnable)

/-- PRECHARGE_END (R226). -/
def execPrechargeEnd (s : State) : Host.Outcome State Fault Refusal :=
  .next (s.whenLive (fun s =>
    if s.plp.state = .precharge then s.setPlp (fun p => { p with state := .boost, capSense := BitVec.ofInt 16 boostFrom }) else s))

/-! ### Bank tests (R227 to R230) -/

/-- A test starts: the limit is lowered to that of 33 V, then the bank supplies VIN12. -/
def State.startTest (s : State) : State :=
  let s := (s.setPlp (fun p => { p with state := .testing, due := p.due - 1, testNow := false })).recompute
  (s.setPlp (fun p => { p with isoClosed := false, disClosed := true })).gates

/-- A test that is due runs in PS0 to PS2 at full charge (R228). -/
def State.tryTest (s : State) : State :=
  if s.plp.due ≠ 0 ∧ s.plp.state = .full ∧ s.pws.ps ≤ 2 then s.startTest else s

/-- BANK_TEST_DUE (R228). -/
def execBankTestDue (s : State) : Host.Outcome State Fault Refusal :=
  .next (s.whenLive (fun s => (s.setPlp (fun p => { p with due := max 1 p.due })).tryTest))

/-- The bank is at full charge: CHG_TIMEOUT clears, a test that waits runs, the limit is that of 35.0 V. -/
def State.fullCharge (s : State) : State :=
  if s.plp.state ≠ .precharge ∧ s.plp.state ≠ .boost then s
  else
    let was := s.plp.active.getLsbD 5
    let s := s.setPlp (fun p => { p with state := .full, capSense := BitVec.ofInt 16 3490, active := p.lasting })
    let s := if was then s.log 0x2110 0x40 (leBytes 1 32) else s
    (if s.plp.due ≠ 0 ∧ s.pws.ps ≤ 2 then s.startTest else s.recompute.gates).resumeAll

/-- BANK_FULL_CHARGE (R226, R228). -/
def execBankFullCharge (s : State) : Host.Outcome State Fault Refusal := .next (s.whenLive State.fullCharge)

/-! ### Bank faults (R231, R232) -/

def faultIdx : BankFaultKind → Nat
  | .short => 0
  | .open_ => 1
  | .senseOpen => 2
  | .reversed => 3
  | .overvolt => 4
  | .chgTimeout => 5

/-- The line-index image is written to journal memory, and a block of kind 7 says so (R245). -/
def State.writeImage (s : State) : State :=
  let st (l : Line) : Nat := if l.wt then 3 else match l.st with
    | .packed => 2
    | _ => 1
  let img := (s.land.lines.filter (fun e => !(e.2.st == .filling))).map (fun e => (e.2.granule, e.2.ns, st e.2, e.2.cmdSeq))
  let s : State := { s with land := { s.land with image := some img } }
  (s.setMedia (fun m => m.append 7 m.rowSeq 0 0 [])).checkWear

def Stream.isCopy : Stream → Bool
  | .f0 | .f1 => true
  | _ => false

/-- Every committed line is packed and every open host and system row closed without waiting (R232, R238). -/
def State.drain (s : State) : State :=
  let s := s.dispatchAll
  (s.media.rows.filter (fun e => !e.2.stream.isCopy)).foldl (fun s e => if e.2.closed then s.ensureFinal e.1 else s.closeEarly e.1) s

/-- A bank fault (R232): the charger and both gates are off, the limit is 0, the image is written and the landing buffer
drains. -/
def State.bankFault (s : State) (k : BankFaultKind) (pins : BankPins) : State :=
  if s.plp.active.getLsbD (faultIdx k) then s
  else
    let before := s.land.limit
    let s := s.setPlp (fun p => { p with
      faults := p.faults ||| (1 <<< (faultIdx k)), active := p.active ||| (1 <<< (faultIdx k))
      capPos := BitVec.ofInt 16 pins.capPos, capSense := BitVec.ofInt 16 pins.capSense
      isoClosed := p.isoClosed || p.state == .testing, disClosed := false, state := .fault })
    let s := s.log (0x2101 + (faultIdx k)) 0x40 (i16 pins.capPos ++ i16 pins.capSense ++ i16 pins.current ++ leBytes 4 before)
    s.recompute.gates.writeImage.drain

/-- BANK_FAULT (R231, R232); during a flush the bank is being used up and no fault is acted on. -/
def execBankFault (k : BankFaultKind) (pins : BankPins) (s : State) : Host.Outcome State Fault Refusal :=
  .next (s.whenLive (fun s => if s.plp.state = .holding then s else s.bankFault k pins))

/-- CHARGE_TIMEOUT (R226, R231). -/
def execChargeTimeout (pins : BankPins) (s : State) : Host.Outcome State Fault Refusal :=
  .next (s.whenLive (fun s =>
    if s.plp.state = .precharge ∨ s.plp.state = .boost then s.bankFault .chgTimeout pins else s))

/-- CHARGE_RETRY: 60 s after the timeout a new charge starts (R233). -/
def execChargeRetry (s : State) : Host.Outcome State Fault Refusal :=
  .next (s.whenLive (fun s =>
    if s.plp.state = .fault ∧ s.plp.active = 0x20 ∧ s.plp.chgEn then s.startCharge else s))

/-- A fault's condition has been absent for 1 s (R233): the bank is precharged, charged and tested again. -/
def State.bankFaultClear (s : State) (k : BankFaultKind) : State :=
  if k = .chgTimeout ∨ !(s.plp.active.getLsbD (faultIdx k)) then s
  else
    let s := s.setPlp (fun p => { p with active := p.active &&& ~~~((1 : BitVec 6) <<< (faultIdx k)), due := max 1 p.due })
    let s := s.log 0x2110 0x40 (leBytes 1 (2 ^ (faultIdx k)))
    if s.plp.active = 0 ∧ s.plp.chgEn then s.startCharge else s

/-- BANK_FAULT_CLEAR (R233). -/
def execBankFaultClear (k : BankFaultKind) (s : State) : Host.Outcome State Fault Refusal :=
  .next (s.whenLive (fun s => s.bankFaultClear k))

/-! ### The end of a test (R227, R229, R230) -/

/-- Why a test fails (R230). -/
def testReason (m : BankMeas) (cInit : Nat) : Option Nat :=
  if 2 * m.cMeas < cInit then some 1 else if 3000 < m.esrMeas then some 2 else if m.faultDuring then some 3 else none

/-- A test that is not void is judged. -/
def State.judgeTest (s : State) (m : BankMeas) : State :=
  let prev := s.plp.meas
  let cInit := match s.plp.cInit with
    | some c => if s.plp.cInitReset then m.cMeas else c
    | none => m.cMeas
  let why := testReason m cInit
  let s := (s.setPlp (fun p => { p with
    meas := some (m.cMeas, m.esrMeas), cMeas := satOf 16 m.cMeas, esrMeas := satOf 16 m.esrMeas
    cInit := some cInit, cInitReset := false, testFail := why.isSome, tested := true })).recompute
  let s := match why with
    | some r => s.log 0x2122 0x40 (leBytes 4 m.cMeas ++ leBytes 2 m.esrMeas ++ leBytes 1 r)
    | none => s.log 0x2120 0x40 (leBytes 4 m.cMeas ++ leBytes 2 m.esrMeas ++ leBytes 4 s.land.limit)
  match prev with
  | some (c, _) => if m.cMeas * 10 < c * 9 then s.log 0x2121 0x40 (leBytes 4 m.cMeas ++ leBytes 4 c) else s
  | none => s

/-- A test ends: VIN12 returns to the host's supply and the bank is recharged. -/
def State.bankTestEnd (s : State) (m : BankMeas) : State :=
  if s.plp.state ≠ .testing then s
  else
    let s := s.setPlp (fun p => { p with
      state := .boost, isoClosed := true, disClosed := false
      capSense := BitVec.ofInt 16 (3500 - (m.fallMv / 10 : Nat)), lastTest := s.clocks.opsec.setWidth 32 })
    let s := s.gates
    let s := if m.fallMv < 500 then s.recompute else s.judgeTest m
    (if 500 ≤ m.fallMv ∧ m.cMeas < 1000 then
      s.bankFault .open_ { capPos := s.plp.capPos.toInt, capSense := s.plp.capSense.toInt, current := 0 } else s).resumeAll

/-- BANK_TEST_END (R227, R229, R230, R231). -/
def execBankTestEnd (m : BankMeas) (s : State) : Host.Outcome State Fault Refusal :=
  .next (s.whenLive (fun s => s.bankTestEnd m))

/-- LANDING_LIMIT_RECOMPUTE (R235): every 10 ms while charging, and whenever n changes. -/
def execLandingLimitRecompute (capSense : Nat) (s : State) : Host.Outcome State Fault Refusal :=
  .next (s.whenLive (fun s =>
    if s.plp.state = .holding then s
    else (s.setPlp (fun p => { p with capSense := BitVec.ofNat 16 capSense })).recompute.resumeAll))

/-! ### The flush (R236 to R240) -/

/-- The LUN of an erase in progress is reset (R160): the erase stops, running or suspended. -/
def State.resetLun (s : State) (d : Nat) : State :=
  ((s.busDrop (chOf d) (fun x => decide (x = d))).setDie d (fun x =>
    { x with op := .idle, suspending := false, window := none })).transfer d [.cmd d 5]

/-- Steps 2 and 3: fetching stops, commands end without completion and what is not committed is discarded; no read and no erase is
issued, erases in progress stop, reads and programs issued run on, and no copy is programmed. -/
def State.stopForFlush (s : State) : State :=
  let s := s.dropLines ((s.land.lines.filter (fun e => e.2.st == .filling || (e.2.wt && e.2.st == .committed))).map (·.1))
  let copyRow (r : Nat) : Bool := match s.media.rows.get? r with
    | some x => x.stream.isCopy
    | none => false
  let keep (o : QOp) : Bool := match o with
    | .prog r .. => !copyRow r
    | _ => false
  let erasing := (s.media.dies.filter (fun e => match e.2.op with
    | .erase .. => true
    | _ => false)).map (·.1)
  let die (d : DieSt) : DieSt := { d with queue := d.queue.filter keep, readAt := none }
  let s : State := { s with
    cmq := { s.cmq with cmds := [], locks := [], stalled := false }
    sdm := { s.sdm with chs := ([12, 13, 14, 15] : List (Fin 16)).foldl (fun v ch => v.upd ch (fun _ => {})) s.sdm.chs } }
  let s := s.setMedia (fun m => { m with
    reads := [], unrec := [], copyWait := [], dies := m.dies.map (fun e => (e.1, die e.2))
    expArea := m.expArea.all (fun a => { a with busy := false, waitPage := none })
    rows := m.rows.filter (fun e => !e.2.stream.isCopy || e.2.closed)
    victim := none })
  erasing.foldl State.resetLun s

/-- Steps 4 to 7: the image, every committed line, every open row, the PMR images. Before recovery has ended nothing new is
held (R249), and the image that recovery needs stays. -/
def State.flushBody (s : State) : State :=
  if s.boot.recoveryDue then s.stopForFlush
  else
  let s := s.stopForFlush.writeImage.drain
  let s : State := { s with land := { s.land with pmr := s.land.pmr.all (fun r =>
    if r.mib = 0 ∨ r.nrdy then r else r.save s.clocks.opsec.toNat) } }
  (s.media.dies.map (·.1)).foldl State.pump s

/-- Committed lines that the flush must pack. -/
def Landing.toFlush (l : Landing) : Nat := (l.lines.filter (fun e => e.2.st == .committed && !e.2.wt)).length

/-- No further retraining pause begins, and a full retraining in progress is abandoned with its old delays kept (R332). -/
def Dram.noPauses (d : Dram) : Dram := { d with chs := d.chs.all (fun c => { c with cycleLeft := 0, fullLeft := 0 }) }

/-- The power-fail signal is raised: the bank supplies VIN12 and the flush starts (R236, R238). -/
def State.powerFail (s : State) : State :=
  let s := (s.setPlp (fun p => { p with
    state := .holding, isoClosed := false, disClosed := true, pfail := true, marked := false })).gates
  let s : State := { s with pws := { s.pws with gated := [], entry := none }, dram := s.dram.noPauses }
  let s := s.log 0x2001 0xFF (leBytes 4 s.land.toFlush ++ leBytes 2 s.media.liveDies.length)
  State.flushBody { s with phase := .flushing }

/-- The source that raised the signal is enabled (R236, R237); VHOST_EN is honoured in service mode only (R251). -/
def State.sees (s : State) : PfSource → Bool
  | .vhost => !s.service || s.plp.vhostEn
  | .pfailIn => s.plp.pfailEn && !s.plp.pfailBad

/-- Every controller in use has been shut down (R277). -/
def State.shutDown (s : State) : Bool := s.portList.all (fun p => decide ((s.ctrl p).shst = 2))

/-- How the run ended, as the next start finds it: LAST_FLUSH, the unclean loss, what recovery must do (R240, R247, R248). Of
a loss whose recovery has not ended nothing changes. `power`: power was lost. -/
def State.runEnds (s : State) (power : Bool) : State :=
  if s.boot.recoveryDue then
    { s with plp := { s.plp with lastFlush := if power && s.pws.drFlag then 3 else s.plp.lastFlush } }
  else
    let marked := s.plp.marked
    let shut := s.shutDown
    let kind := if shut && power then 3 else if marked then 1 else if power || s.phase == .trialFlush then 2 else s.plp.lastFlush
    { s with
      plp := { s.plp with lastFlush := kind, marked := false }
      boot := { s.boot with
        unclean := power && !marked && !shut, imageDue := !marked && !shut
        replayDue := s.boot.replayDue || !shut, recoveryDue := true } }

/-- The same for a loss in a phase that holds host data, or in deep rest and a wake, where nothing is held (R251). -/
def State.leftBehind (s : State) : State :=
  match s.phase with
  | .firmware | .recovering | .running | .flushing | .flushed | .trialFlush | .thermalOff => s.runEnds true
  | .deepRest => { s with plp := { s.plp with lastFlush := 3 }, boot := { s.boot with recoveryDue := true } }
  | _ => if s.pws.drFlag then { s with plp := { s.plp with lastFlush := 3 } } else s

/-- What a power failure finds: a running device flushes, any other phase holds nothing and goes off (R251, R461). -/
def State.powerFails (s : State) (src : PfSource) : State :=
  match s.phase with
  | .off | .flushed => s
  | .flushing => if s.plp.pfail then s else s.setPlp (fun p => { p with
      pfail := true, state := .holding, isoClosed := false, disClosed := true })
  | .trialFlush => s.setPlp (fun p => { p with pfail := true, state := .holding, isoClosed := false, disClosed := true })
  | .firmware | .recovering | .running => if s.sees src then s.powerFail else s
  | _ => { s.leftBehind with phase := .off }

/-- POWER_FAIL (R236 to R238, R240). -/
def execPowerFail (src : PfSource) (s : State) : Host.Outcome State Fault Refusal := .next (s.powerFails src)

/-- Operating seconds, the suppressed total, the host timestamp and the last record's counts are persisted (R420, R422,
R424). -/
def State.persist (s : State) : State :=
  { s with
    clocks := { s.clocks with
      opsecP := s.clocks.opsec
      tsP := match s.clocks.hostTs s.tb.count with
        | some t => some (t, s.clocks.opsec.toNat)
        | none => s.clocks.tsP }
    evr := { s.evr with
      suppTotalP := s.evr.suppTotal
      repP := (s.evr.recs.head?.map (·.repeats)).getD 0
      lastOpsecP := (s.evr.recs.head?.map (·.lastOpsec)).getD 0 } }

/-- Everything that the flush must program is programmed. -/
def State.flushDone (s : State) : Bool :=
  s.land.lines.all (fun e => e.2.wt) && s.media.rows.all (fun e => e.2.stream.isCopy)

/-- Step 9: the flush mark. -/
def State.mark (s : State) (us : Nat) : State :=
  let s := (s.setMedia (fun m => m.append 6 m.rowSeq 0 0 [])).checkWear.persist
  if s.boot.recoveryDue then s else s.setPlp (fun p => { p with marked := true, flushUs := us })

/-- The enables fall in order (R510). -/
def State.enablesFall (s : State) : State :=
  { s with pws := { s.pws with enVcore := false, enNand := false, en1v8 := false, pgVcore := false, pgNand := false, pg1v8 := false } }.emits
    [.enable .vcore false, .enable .vioNand false, .enable .v1p8 false]

/-! ### Insertion -/

/-- HU_ISO_CLOSE: host 12 V has been good for 10 ms (R518); not while the bank supplies VIN12. -/
def State.isoClose (s : State) : State :=
  if s.plp.state = .holding ∨ s.plp.state = .testing ∨ s.plp.isoClosed then s
  else (s.setPlp (fun p => { p with isoClosed := true })).gates

def execHuIsoClose (s : State) : Host.Outcome State Fault Refusal := .next s.isoClose

end Sys2Proof.Machine
end

