-- ==== Sys2Proof/Machine/Queues.lean ====
section
/-! DEFINITION. Chapter 07, queues: the entry to a power state that a command abandons (R279, R454), doorbells (R259, R288,
R302, R459), arbitration and fetching (R258, R259, R270, R271), queue creation and deletion (R257). -/

namespace Sys2Proof.Machine

open Sys2Proof

def State.setPws (s : State) (f : Pws → Pws) : State := { s with pws := f s.pws }

/-! ### Power states that a command meets -/

/-- The four answers of a handshake as PWS_HS.ANSWERS holds them. -/
def PsEntry.packed (e : PsEntry) : Nat :=
  e.answers[0].toNat + 4 * e.answers[1].toNat + 16 * e.answers[2].toNat + 64 * e.answers[3].toNat

/-- A controller in a non-operational state returns to its last operational one. -/
def Ctrl.operational (c : Ctrl) : Ctrl := if 3 ≤ c.ps then { c with ps := c.psOper } else c

/-- The device's state: the lowest that a controller in use holds (R457). -/
def State.devicePs (s : State) : Nat := if s.dual then min (s.ctrl 0).ps (s.ctrl 1).ps else (s.ctrl 0).ps

def State.operationalAll (s : State) : State :=
  let s : State := { s with cmq := { s.cmq with ctrls := s.cmq.ctrls.all Ctrl.operational } }
  s.setPws (fun w => { w with ps := s.devicePs })

/-- Work that an entry had stopped goes on: erases are issued again. -/
def State.pumpAll (s : State) : State := (s.media.dies.map (·.1)).foldl State.pump s

/-- DRAM leaves self-refresh (R333): in hardware mode a retraining cycle falls due on each channel (DESIGN CHOICE,
notes/assumptions/66.md). -/
def Dram.leaveRefresh (d : Dram) (cycles : Bool) : Dram :=
  { d with
    selfRefresh := false, masked := 0
    chs := d.chs.all (fun c => if cycles && !c.failed && decide (c.fullLeft = 0) then { c with cycleLeft := 3 } else c) }

/-- PS3 ends (R279, R333, R455): DRAM leaves self-refresh, the map's working set is rebuilt on demand, the links return to L0, the
persistent memory regions are restored (R265), and open QLC stripes whose last row has had only its coarse pass are closed (R247). -/
def State.leavePs3 (s : State) : State :=
  if s.pws.ps ≠ 3 then s
  else
    let s : State := { s with
      dram := s.dram.leaveRefresh (decide (s.param 0x7000 4 = 0))
      media := { s.media with ftl := s.media.ftl.all (fun f => { f with work := [] }) }
      land := { s.land with pmr := s.land.pmr.all (fun r => if r.mib = 0 then r else r.restore) }
      ports := s.ports.all (fun q => if q.link == .l1 then { q with link := .l0 } else q) }
    let half := s.media.stripes.filter (fun e => e.2.isOpen && s.media.qlc &&
      s.media.rows.any (fun r => decide (r.2.stripe = e.1) && r.2.closed && !r.2.finalIssued))
    ((half.foldl (fun s e => s.failStripe e.1) s).operationalAll.settlePmr).pumpAll

/-- An entry is abandoned (R454): the refusing domain (0xFF: none) and the reason. -/
def State.abandonEntry (s : State) (domain reason : Nat) : State :=
  match s.pws.entry with
  | none => s
  | some e =>
    let s := s.setPws (fun w => { w with
      entry := none, hsAnswers := BitVec.ofNat 8 e.packed, hsReason := BitVec.ofNat 8 reason
      hsTarget := BitVec.ofNat 3 e.target, hsDomain := BitVec.ofNat 8 domain
      abandons := satInc w.abandons, abandonTotal := w.abandonTotal + 1 })
    ((if s.pws.ps = 3 then s.leavePs3 else s.operationalAll).log 0x2301 0x20 (leBytes 1 e.target ++ leBytes 1 domain ++ leBytes 1 reason ++ leBytes 1 e.packed)).pumpAll

/-- A command arrives: an entry in progress is abandoned, PS3 is left (R279, R453). -/
def State.arrive (s : State) : State := (s.abandonEntry 0xFF 0x01).leavePs3

/-! ### Doorbells (R259, R288) -/

def latchDb (c : Ctrl) (k v : Nat) : Ctrl := { c with dbLatch := c.dbLatch.put k v }

/-- A doorbell write is latched while the function is contained (R302) or the device sleeps (R459, R461). -/
def State.latched (s : State) (p : Fin 2) (k v : Nat) : State :=
  let s := s.setCtrl p (fun c => latchDb c k v)
  if s.ports[p].cnt.active then
    s.setPort p (fun q => { q with cnt := { q.cnt with dbLatched := satInc q.cnt.dbLatched } })
  else s

/-- The function sleeps or wakes with the device (R461). -/
def State.asleep (s : State) : Bool :=
  s.pws.drFlag && (match s.phase with
    | .deepRest | .supplies | .rom | .slipway | .firmware | .recovering => true
    | _ => false) || s.phase == .deepRest

/-- A tail doorbell takes effect: the queue's tail moves to a value below its size. -/
def State.tailTo (s : State) (p : Fin 2) (qid tail : Nat) : State :=
  match (s.ctrl p).sqs.get? qid with
  | some q => if tail < q.size then
      s.setCtrl p (fun c => { c with sqs := c.sqs.put qid { q with tail := tail } }) else s
  | none => s

/-- A head doorbell takes effect: entries up to it are free, and completions that waited are posted. -/
def State.headTo (s : State) (p : Fin 2) (qid head : Nat) : State :=
  match (s.ctrl p).cqs.get? qid with
  | some q =>
    let d := (head + q.size - q.head) % q.size
    if q.size ≤ head ∨ q.used < d then s
    else
      let s := s.setCtrl p (fun c => { c with cqs := c.cqs.put qid { q with head := head, used := q.used - d, held := [] } })
      q.held.foldl (fun s h => s.post p 0 h.1 h.2.1 h.2.2.1 h.2.2.2) s
  | none => s

/-- SQ_DOORBELL (R259, R279, R302, R459). -/
def State.sqDoorbell (s : State) (p : Fin 2) (qid tail : Nat) : State :=
  if s.asleep then s.latched p (2 * qid) tail
  else if !s.live ∨ !(s.ctrl p).en then s
  else if s.ports[p].cnt.active then s.latched p (2 * qid) tail
  else (s.arrive).tailTo p qid tail

def execSqDoorbell (p : Fin 2) (qid tail : Nat) (s : State) : Host.Outcome State Fault Refusal :=
  .next (s.sqDoorbell p qid tail)

/-- CQ_HEAD_DOORBELL (R288, R302). -/
def State.cqDoorbell (s : State) (p : Fin 2) (qid head : Nat) : State :=
  if s.asleep then s.latched p (2 * qid + 1) head
  else if !s.live ∨ !(s.ctrl p).en then s
  else if s.ports[p].cnt.active then s.latched p (2 * qid + 1) head
  else s.headTo p qid head

def execCqHeadDoorbell (p : Fin 2) (qid head : Nat) (s : State) : Host.Outcome State Fault Refusal :=
  .next (s.cqDoorbell p qid head)

/-- Latched doorbells are acted on, tails and heads in queue order (R305, R462). -/
def State.useLatched (s : State) (p : Fin 2) : State :=
  let ls := (s.ctrl p).dbLatch
  let s := s.setCtrl p (fun c => { c with dbLatch := [] })
  ls.foldl (fun s e => if e.1 % 2 = 0 then s.tailTo p (e.1 / 2) e.2 else s.headTo p (e.1 / 2) e.2) s

/-! ### Arbitration (R258) -/

/-- Queues that hold a command. -/
def Ctrl.ready (c : Ctrl) : List Nat := (c.sqs.filter (fun e => e.2.head ≠ e.2.tail)).map (·.1)

/-- Round robin among queues: the one served last while its burst lasts, else the next number after it. -/
def rrPick (last left : Nat) (qs : List Nat) : Option Nat :=
  if 0 < left ∧ qs.contains last then some last
  else match qs.find? (fun q => last < q) with
    | some q => some q
    | none => qs.head?

/-- Commands of one turn: 2^burst, or no limit at 7. -/
def burstOf (b : Fin 8) : Nat := if b.val = 7 then 65536 else 2 ^ b.val

/-- The classes below urgent, highest first: priority, weight. -/
def Features.weights (f : Features) : Nat × Nat × Nat := (f.wHigh.toNat + 1, f.wMed.toNat + 1, f.wLow.toNat + 1)

def creditOf (c : Nat × Nat × Nat) : Nat → Nat
  | 1 => c.1
  | 2 => c.2.1
  | _ => c.2.2

def spend (c : Nat × Nat × Nat) : Nat → Nat × Nat × Nat
  | 1 => (c.1 - 1, c.2)
  | 2 => (c.1, c.2.1 - 1, c.2.2)
  | _ => (c.1, c.2.1, c.2.2 - 1)

/-- Ready I/O queues of a priority. -/
def Ctrl.ofPrio (c : Ctrl) (k : Nat) : List Nat :=
  (c.sqs.filter (fun e => e.1 ≠ 0 && decide (e.2.head ≠ e.2.tail) && decide (e.2.prio.val = k))).map (·.1)

/-- The class that is served next under weighted round robin, with the credits then left. -/
def Ctrl.wrrClass (c : Ctrl) : Option (Nat × (Nat × Nat × Nat)) :=
  let has (k : Nat) : Bool := !(c.ofPrio k).isEmpty
  if has 0 then some (0, c.credits)
  else match [1, 2, 3].find? (fun k => has k && decide (0 < creditOf c.credits k)) with
    | some k => some (k, spend c.credits k)
    | none => match [1, 2, 3].find? has with
      | some k => some (k, spend c.feat.weights k)
      | none => none

/-- The I/O queue that is served next and the credits left. -/
def Ctrl.pickIo (c : Ctrl) : Option (Nat × (Nat × Nat × Nat)) :=
  if c.wrr then match c.wrrClass with
    | some k => (rrPick c.rrLast c.rrLeft (c.ofPrio k.1)).map (fun q => (q, k.2))
    | none => none
  else (rrPick c.rrLast c.rrLeft (c.ready.filter (· ≠ 0))).map (fun q => (q, c.credits))

/-- A command is taken from queue `q`: its head moves, and the arbiter's place with it. -/
def Ctrl.taken (c : Ctrl) (q : Nat) (credits : Nat × Nat × Nat) : Ctrl :=
  match c.sqs.get? q with
  | none => c
  | some sq =>
    let c := { c with sqs := c.sqs.put q { sq with head := (sq.head + 1) % sq.size } }
    if q = 0 then c
    else { c with
      credits := credits, rrLast := q
      rrLeft := (if c.rrLast = q ∧ 0 < c.rrLeft then c.rrLeft else burstOf c.feat.burst) - 1 }

/-! ### Fetching (R259, R270, R271, R278) -/

/-- The namespace of a command and whether its access is of the write kind, for the reservation check (R271). -/
def cmdAccess : HostCmd → Option (Nat × Bool)
  | .flush (some n) => some (n, true)
  | .flush none => none
  | .write r | .zoneAppend r => some (r.nsid, true)
  | .read r | .compare r | .verify r => some (r.nsid, false)
  | .writeZeroes n _ _ _ => some (n, true)
  | .dsm n _ _ => some (n, true)
  | .copy n _ _ _ => some (n, true)
  | .zoneSend n _ _ _ => some (n, true)
  | .zoneRecv n _ => some (n, false)
  | _ => none

def isAdminCmd : HostCmd → Bool
  | .admin .. => true
  | _ => false

/-- A reservation conflict of a command. -/
def State.resvConflict (s : State) (p : Fin 2) (c : HostCmd) : Bool :=
  match cmdAccess c with
  | none => false
  | some (nsid, wr) => match s.nsOf p nsid with
    | some (_, n) => n.resv.conflicts p wr
    | none => false

/-- The controller takes commands: enabled, ready, not fatal, not shut down, not contained. -/
def State.fetches (s : State) (p : Fin 2) : Bool :=
  let c := s.ctrl p
  (s.phase == .running || s.phase == .recovering) && c.en && c.rdy && !c.cfs && decide (c.shst = 0) && !s.ports[p].cnt.active &&
    decide (s.pws.ps < 3) && s.mayWrite p

/-- FUA behaviour of a command under the cache setting at its fetch (R273). -/
def State.fuaOf (s : State) (p : Fin 2) : HostCmd → Bool
  | .write r | .zoneAppend r => r.fua || !(s.ctrl p).feat.wce
  | .copy .. => !(s.ctrl p).feat.wce
  | _ => false

/-- A command enters the table under the next FSEQ and reaches the lock table (R259, R267, R271). -/
def State.takeIn (s : State) (p : Fin 2) (qid cid : Nat) (cmd : HostCmd) : State :=
  let f := s.cmq.fseq + 1
  let c : Cmd := { port := p, sqid := qid, cid := cid, cmd := cmd, cap := s.stepCap p, fua := s.fuaOf p cmd }
  let conflict := s.resvConflict p cmd
  let ls := if conflict then [] else s.locksOf p f cmd
  let s : State := { s with cmq := Cmq.take { s.cmq with fseq := f, cmds := s.cmq.cmds.put f c } ls }
  if conflict then s.complete f .resvConflict else s

def State.fetch (s : State) (p : Fin 2) (cid : Nat) (cmd : HostCmd) : State :=
  if !s.fetches p ∨ 16384 ≤ (s.cmq.cmds.filter (fun e => e.2.port = p)).length ∨ s.cmq.stalled then s
  else
    let c := s.ctrl p
    if c.ready.contains 0 then
      if isAdminCmd cmd then (s.setCtrl p (fun c => c.taken 0 c.credits)).takeIn p 0 cid cmd else s
    else if s.cmq.paused ∨ isAdminCmd cmd then s
    else match c.pickIo with
      | some x => (s.setCtrl p (fun c => c.taken x.1 x.2)).takeIn p x.1 cid cmd
      | none => s

/-- COMMAND_FETCH (R258, R259, R267, R270, R271). -/
def execCommandFetch (p : Fin 2) (cid : Nat) (cmd : HostCmd) (s : State) : Host.Outcome State Fault Refusal :=
  .next (s.whenLive (fun s => (s.ungate 8 7).fetch p cid cmd))

/-! ### Admin commands -/

/-- `f` on an admin command of opcode `opc` that was fetched and holds its locks; any other state is unchanged. -/
def State.onAdmin (s : State) (fseq opc : Nat) (f : Cmd → State → State) : State :=
  if !s.live then s
  else match s.cmq.cmds.get? fseq with
    | some c => match c.cmd with
      | .admin o _ => if o.toNat = opc ∧ c.phase = .ready then f c s else s
      | _ => s
    | none => s

/-- A queue entry count of R257. -/
def badSize (size : Nat) : Bool := decide (size < 2) || decide (65536 < size)

/-- Create I/O Completion Queue (R257). -/
def State.createCq (s : State) (c : Cmd) (fseq qid size vector : Nat) (contig inCmb : Bool) : State :=
  let k := s.ctrl c.port
  if qid = 0 ∨ k.feat.ncq < qid ∨ k.cqs.has qid then s.complete fseq .invalidQid
  else if badSize size then s.complete fseq .invalidQSize
  else if 2048 ≤ vector then s.complete fseq .invalidVector
  else if !contig then s.complete fseq .invalidField
  else if inCmb then s.complete fseq .invalidCmbUse
  else (s.setCtrl c.port (fun k => { k with cqs := k.cqs.put qid { size := size, vector := vector } })).complete fseq .success

/-- CREATE_IO_CQ (R257). -/
def execCreateIoCq (fseq qid size vector : Nat) (contig inCmb : Bool) (s : State) : Host.Outcome State Fault Refusal :=
  .next (s.onAdmin fseq 0x05 (fun c s => s.createCq c fseq qid size vector contig inCmb))

/-- Create I/O Submission Queue (R257): it may lie in the submission area of the CMB. -/
def State.createSq (s : State) (c : Cmd) (fseq qid size cqid : Nat) (prio : Fin 4) (contig inCmb : Bool) : State :=
  let k := s.ctrl c.port
  if qid = 0 ∨ k.feat.nsq < qid ∨ k.sqs.has qid then s.complete fseq .invalidQid
  else if cqid = 0 ∨ !(k.cqs.has cqid) then s.complete fseq .invalidCq
  else if badSize size then s.complete fseq .invalidQSize
  else if !contig then s.complete fseq .invalidField
  else if inCmb ∧ s.land.cmb[c.port].sqMib * 1048576 < size * 64 then s.complete fseq .invalidCmbUse
  else (s.setCtrl c.port (fun k => { k with sqs := k.sqs.put qid { size := size, cqid := cqid, prio := prio, inCmb := inCmb } })).complete
    fseq .success

/-- CREATE_IO_SQ (R257). -/
def execCreateIoSq (fseq qid size cqid : Nat) (prio : Fin 4) (contig inCmb : Bool) (s : State) :
    Host.Outcome State Fault Refusal :=
  .next (s.onAdmin fseq 0x01 (fun c s => s.createSq c fseq qid size cqid prio contig inCmb))

/-- Commands of a deleted submission queue end as aborted where R280 allows it. -/
def State.endQueue (s : State) (p : Fin 2) (qid : Nat) : State :=
  (s.cmq.cmds.filter (fun e => e.2.port = p && decide (e.2.sqid = qid) &&
      (e.2.phase == .waitLocks || e.2.phase == .waitLines || e.2.phase == .rebind || e.2.phase == .reading))).foldl
    (fun s e => s.quit e.1 .abortRequested) s

/-- DELETE_IO_SQ (R257, R276). -/
def State.deleteSq (s : State) (c : Cmd) (fseq qid : Nat) : State :=
  if qid = 0 ∨ !((s.ctrl c.port).sqs.has qid) then s.complete fseq .invalidQid
  else ((s.endQueue c.port qid).setCtrl c.port (fun k => { k with sqs := k.sqs.del qid })).complete fseq .success

def execDeleteIoSq (fseq qid : Nat) (s : State) : Host.Outcome State Fault Refusal :=
  .next (s.onAdmin fseq 0x00 (fun c s => s.deleteSq c fseq qid))

/-- DELETE_IO_CQ (R257): a queue that a submission queue uses stays. -/
def State.deleteCq (s : State) (c : Cmd) (fseq qid : Nat) : State :=
  let k := s.ctrl c.port
  if qid = 0 ∨ !(k.cqs.has qid) then s.complete fseq .invalidQid
  else if k.sqs.any (fun e => decide (e.2.cqid = qid)) then s.complete fseq .invalidQDeletion
  else (s.setCtrl c.port (fun k => { k with cqs := k.cqs.del qid })).complete fseq .success

def execDeleteIoCq (fseq qid : Nat) (s : State) : Host.Outcome State Fault Refusal :=
  .next (s.onAdmin fseq 0x04 (fun c s => s.deleteCq c fseq qid))

end Sys2Proof.Machine
end

