-- ==== Sys2Proof/Machine/Admin.lean ====
section
/-! DEFINITION. Chapter 07, admin commands: logs, Identify, Abort, features (R253, R255, R280, R424, R456, R468), namespaces
(R98, R99, R501), Format NVM and Sanitize (R377). -/

namespace Sys2Proof.Machine

open Sys2Proof

/-! ### Data that leaves (R66, R183, R377) -/

/-- Every entry of a namespace is TRIMMED, and its committed lines are freed (R377). -/
def State.wipeNs (s : State) (ns : Nat) : State :=
  (((s.discard (fun n _ => decide (n = ns))).setMedia (fun m => m.wipe ns)).checkWear.settleStripes).resumeAll

/-- The key of a slot is replaced by a new one (R377). Lines bound to the old key and not yet encrypted are freed (R67). -/
def State.newKey (s : State) (slot : Fin 64) : State :=
  let old := s.sec.keyGen[slot]
  let dead := s.land.lines.filter (fun e => e.2.st == .committed && decide (e.2.keySlot = slot.val) && decide (e.2.keyGen = old))
  State.freeLines { s with sec := { s.sec with keyGen := s.sec.keyGen.upd slot (fun _ => s.sec.nextGen), nextGen := s.sec.nextGen + 1 } }
    (dead.map (·.1))

/-- The ranges whose keys the units of a namespace use (R372). -/
def Security.nsSlots (k : Security) (ns : Nat) : List (Fin 64) :=
  let mine := (List.finRange 64).filter (fun r => decide (k.ranges[r].ns = some ns))
  if mine.any (fun r => decide (k.ranges[r].len = 0)) then mine else 0 :: mine

/-! ### Logs and Identify (R253, R255) -/

/-- The composite temperature in kelvin (R466). -/
def State.compositeK (s : State) : Nat :=
  ((((List.finRange 12).filter (fun k => k.val < 11)).foldl (fun m k => max m s.pws.temps[k].1.toInt) (-2730)) + 2730).toNat / 10

/-- The SMART / Health fields that the manual gives. -/
def State.smart (s : State) : List Nat :=
  [s.criticalWarning, s.compositeK, s.availSpare, s.spareThreshold, s.media.percentUsed, s.clocks.pcc.toNat]

/-- The log pages that are supported, and what the manual says they hold. -/
def State.logPage (s : State) (p : Fin 2) (lid : Nat) : Option (List Nat) :=
  match lid with
  | 0x01 => some (((s.ctrl p).errors).flatMap (fun e => [e.1, e.2.2]))
  | 0x02 => some s.smart
  | 0x03 => some [(if s.boot.source = 2 then 1 else 2) + (if s.boot.state = .activateAtReset then 0x20 else 0),
      ofLeBytes (imgRev Config.recoveryImage), ofLeBytes (imgRev (s.bst.run imageFirst 512))]
  | 0x04 => some (s.ctrl p).changedNs
  | 0x05 => some [ofLeBytes (Config.standardReply 0x05 0)]
  | 0x06 => some [(s.ctrl p).selfTest, (s.ctrl p).selfTestLast]
  | 0x20 => some [1, 1, s.media.handleMax, s.media.dataMembers 0 * s.media.blockBytes]
  | 0x21 => some [s.media.handleMax]
  | 0x22 => some [ofLeBytes (Config.standardReply 0x22 0)]
  | 0x23 => some (s.media.fdpEvents.flatMap (fun e => [e.1, e.2]))
  | 0x80 => some (s.media.namespaces.map (fun e => e.2.resv.gen))
  | 0x81 => some [s.cmq.sanitizeLast]
  | 0xBF => some (s.media.namespaces.flatMap (fun e => e.2.zones.map (·.1)))
  | _ => none

def State.getLog (s : State) (c : Cmd) (fseq lid : Nat) : State :=
  match s.logPage c.port lid with
  | none => s.complete fseq .invalidLogPage
  | some v =>
    let s := s.emit (.reply fseq (0x20000 + lid) v)
    let s := if lid = 0x04 then s.setCtrl c.port (fun k => { k with changedNs := [] }) else s
    s.complete fseq .success

/-- GET_LOG_PAGE (R253). -/
def execGetLogPage (fseq lid _nsid : Nat) (s : State) : Host.Outcome State Fault Refusal :=
  .next (s.onAdmin fseq 0x02 (fun c s => s.getLog c fseq lid))

/-- The controller's values of R255: MQES, CQR, AMS, TO, MDTS, NN, ACL, AERL, AWUN, AWUPF, ACWU, VWC, MSSRL, MCL, MSRC,
DLFEAT, MTFA, RTD3E, RTD3R, CMIC, Read Recovery Levels Supported (R137), MNTMT and MXTMT (R468), MPSMIN, MPSMAX, the queues of
each kind, the LBA formats' sizes, ONCS (Compare, Dataset Management, Write Zeroes, Save and Select, Reservations, Timestamp, Verify,
Copy), SGLS (no alignment, Bit Bucket), and the fields of R256 that read 0: fused operations, protection information, Keep Alive. -/
def State.idCtrl (s : State) : List Nat :=
  [0xFFFF, 1, 1, 14, 9, 256, 3, 7, 0, 0, 0, 7, 512, 512, 127, 1, 1, 4000000, 5500000, if s.dual then 3 else 0, 0x803F, 333, 373,
   0, 4, 4096, 4096, 512, 0x1FD, 0x10001, 0, 0, 0]

/-- A namespace's values: size, capacity in bytes, LBA format, indirection, zoned, zone size and maximum active zones. -/
def State.idNs (s : State) (n : Namespace) : List Nat :=
  [n.nlbas, s.media.capBytes n, bit n.lba512, bit n.ind16, bit n.zoned, s.media.zoneSize, s.media.activeMax]

def State.attachedTo (s : State) (p : Fin 2) : List Nat :=
  (s.media.namespaces.filter (fun e => e.2.attached.contains p)).map (fun e => e.1 + 1)

def State.identify (s : State) (c : Cmd) (fseq cns nsid : Nat) : State :=
  let ok (v : List Nat) : State := (s.emit (.reply fseq (0x60000 + cns) v)).complete fseq .success
  let ns (v : Namespace → List Nat) (all : Bool) : State :=
    if nsid = 0 ∨ 256 < nsid then s.complete fseq .invalidNs
    else match (if all then s.media.namespaces.get? (nsid - 1) else (s.nsOf c.port nsid).map (·.2)) with
      | some n => ok (v n)
      | none => ok []
  match cns with
  | 0x00 => ns s.idNs false
  | 0x01 => ok s.idCtrl
  | 0x02 => ok ((s.attachedTo c.port).filter (fun n => nsid < n))
  | 0x03 => ns (fun n => [bit n.zoned * 2]) false
  | 0x05 => ns s.idNs false
  | 0x06 => ok s.idCtrl
  | 0x08 => ns s.idNs false
  | 0x10 => ok ((s.media.namespaces.map (fun e => e.1 + 1)).filter (fun n => nsid < n))
  | 0x11 => ns s.idNs true
  | 0x12 => ns (fun n => n.attached.map (·.val)) true
  | 0x13 => ok (s.portList.map (·.val))
  | 0x1C => ok [bit (decide (3 < s.media.groups.length))]
  | _ => s.complete fseq .invalidField

/-- IDENTIFY (R255). -/
def execIdentify (fseq cns nsid : Nat) (s : State) : Host.Outcome State Fault Refusal :=
  .next (s.onAdmin fseq 0x06 (fun c s => s.identify c fseq cns nsid))

/-! ### Abort (R280) -/

/-- A command that Abort may end: it waits for locks or lines, or is a read whose transfer has not begun. -/
def Cmd.abortable (c : Cmd) : Bool :=
  (match c.phase with
   | .waitLocks | .waitLines | .rebind => true
   | _ => false) ||
  (match c.cmd with
   | .read _ | .compare _ | .verify _ => !c.began && (match c.phase with
      | .ready | .reading | .waitData => true
      | _ => false)
   | _ => false)

def State.abort (s : State) (c : Cmd) (fseq sqid cid : Nat) : State :=
  match s.cmq.cmds.find? (fun e => e.2.port = c.port && decide (e.2.sqid = sqid) && decide (e.2.cid = cid) && decide (e.1 ≠ fseq)) with
  | some e =>
    if e.2.abortable then (s.quit e.1 .abortRequested).complete fseq .success 0 else s.complete fseq .success 1
  | none => s.complete fseq .success 1

/-- ABORT (R280): Dword 0 bit 0 says that the target was not aborted. -/
def execAbort (fseq sqid cid : Nat) (s : State) : Host.Outcome State Fault Refusal :=
  .next (s.onAdmin fseq 0x08 (fun c s => (s.abort c fseq sqid cid).resumeAll))

/-! ### Features (R253) -/

/-- Feature values as Dword 0 and data words, current or saved (sel 0 and 2) or default (sel 1). -/
def State.featVal (s : State) (p : Fin 2) (f : Features) (fid sel : Nat) : Option (List Nat) :=
  match fid with
  | 0x01 => some [f.burst.val + f.wLow.toNat * 2 ^ 8 + f.wMed.toNat * 2 ^ 16 + f.wHigh.toNat * 2 ^ 24]
  | 0x02 => some [if sel = 0 then (s.ctrl p).ps else 0]
  | 0x04 => some (f.tempThr.map (fun e => e.1 + bit e.2.1 * 2 ^ 16 + e.2.2.toNat * 2 ^ 32))
  | 0x05 => some [f.tler.toNat + bit f.dulbe * 2 ^ 16]
  | 0x06 => some [bit f.wce]
  | 0x07 => some [(f.nsq - 1) + (f.ncq - 1) * 2 ^ 16]
  | 0x08 => some [f.icThr.toNat + f.icTime.toNat * 2 ^ 8]
  | 0x09 => some f.ivDisabled
  | 0x0B => some [f.aerMask.toNat]
  | 0x0C => some (bit f.apste :: (f.apst.getD [(3, s.param 0x6000 5), (4, s.param 0x6000 6)]).flatMap (fun e => [e.1, e.2]))
  | 0x0E => some (match s.clocks.ts with
    | .never => [0, 0, 0]
    | .running => [(s.clocks.hostTs s.tb.count).getD 0, 1, 0]
    | .stopped => [(s.clocks.tsP.map (fun t => t.1 + (s.clocks.opsec.toNat - t.2) * 1000)).getD 0, 1, 1])
  | 0x10 => some [f.tmt2 + f.tmt1 * 2 ^ 16]
  | 0x12 => some [f.rrl]
  | 0x1D => some [bit s.media.fdp]
  | 0x81 => some [f.hostId.toNat]
  | 0x83 => some (s.media.namespaces.map (fun e => bit e.2.resv.ptpl))
  | _ => none

/-- The features that can be saved. -/
def saveable : List Nat := [0x01, 0x06]

def State.getFeatures (s : State) (c : Cmd) (fseq fid sel : Nat) : State :=
  let k := s.ctrl c.port
  let f := match sel with
    | 0 => k.feat
    | 2 => k.featSaved
    | _ => ({} : Features)
  match s.featVal c.port f fid sel with
  | none => s.complete fseq .invalidField
  | some v =>
    if sel = 3 then s.complete fseq .success (bit (saveable.contains fid) + 4)
    else if 3 < sel then s.complete fseq .invalidField
    else (s.emit (.reply fseq (0xA0000 + fid) v)).complete fseq .success (v.headD 0)

/-- GET_FEATURES (R253). -/
def execGetFeatures (fseq fid sel : Nat) (s : State) : Host.Outcome State Fault Refusal :=
  .next (s.onAdmin fseq 0x0A (fun c s => s.getFeatures c fseq fid sel))

/-- A feature value is set, and saved where asked, and the command completes. -/
def State.setFeat (s : State) (c : Cmd) (fseq : Nat) (save : Bool) (f : Features → Features) (dw0 : Nat := 0) : State :=
  (s.setCtrl c.port (fun k => { k with
    feat := f k.feat, featSaved := if save then f k.featSaved else k.featSaved })).complete fseq .success dw0

/-- SET_ARBITRATION (R258). -/
def execSetArbitration (fseq : Nat) (burst : Fin 8) (low med high : Byte) (save : Bool) (s : State) :
    Host.Outcome State Fault Refusal :=
  .next (s.onAdmin fseq 0x09 (fun c s => s.setFeat c fseq save (fun f =>
    { f with burst := burst, wLow := low, wMed := med, wHigh := high })))

/-- SET_TEMPERATURE_THRESHOLD (R253). -/
def execSetTemperatureThreshold (fseq : Nat) (sensor : Fin 16) (under : Bool) (kelvin : BitVec 16) (s : State) :
    Host.Outcome State Fault Refusal :=
  .next (s.onAdmin fseq 0x09 (fun c s =>
    if 12 < sensor.val then s.complete fseq .invalidField
    else s.setFeat c fseq false (fun f => { f with tempThr :=
      (sensor.val, under, kelvin) :: f.tempThr.filter (fun e => !(decide (e.1 = sensor.val) && decide (e.2.1 = under))) })))

/-- SET_ERROR_RECOVERY (R253). -/
def execSetErrorRecovery (fseq : Nat) (tler : BitVec 16) (dulbe : Bool) (s : State) : Host.Outcome State Fault Refusal :=
  .next (s.onAdmin fseq 0x09 (fun c s => s.setFeat c fseq false (fun f => { f with tler := tler, dulbe := dulbe })))

/-- SET_VOLATILE_WRITE_CACHE (R273). -/
def execSetVolatileWriteCache (fseq : Nat) (wce save : Bool) (s : State) : Host.Outcome State Fault Refusal :=
  .next (s.onAdmin fseq 0x09 (fun c s => s.setFeat c fseq save (fun f => { f with wce := wce })))

/-- SET_NUMBER_OF_QUEUES (R257): the operands are 0's based; it is too late once an I/O queue exists. -/
def execSetNumberOfQueues (fseq nsq ncq : Nat) (s : State) : Host.Outcome State Fault Refusal :=
  .next (s.onAdmin fseq 0x09 (fun c s =>
    let k := s.ctrl c.port
    if 0xFFFF ≤ nsq ∨ 0xFFFF ≤ ncq then s.complete fseq .invalidField
    else if k.sqs.any (fun e => e.1 ≠ 0) ∨ k.cqs.any (fun e => e.1 ≠ 0) then s.complete fseq .cmdSeqError
    else
      let a := min (nsq + 1) 4096
      let b := min (ncq + 1) 4096
      s.setFeat c fseq false (fun f => { f with nsq := a, ncq := b }) ((a - 1) + (b - 1) * 2 ^ 16)))

/-- SET_INTERRUPT_COALESCING (R253). -/
def execSetInterruptCoalescing (fseq : Nat) (threshold time : Byte) (s : State) : Host.Outcome State Fault Refusal :=
  .next (s.onAdmin fseq 0x09 (fun c s => s.setFeat c fseq false (fun f => { f with icThr := threshold, icTime := time })))

/-- SET_INTERRUPT_VECTOR_CONFIG (R253, R257). -/
def execSetInterruptVectorConfig (fseq vector : Nat) (disable : Bool) (s : State) : Host.Outcome State Fault Refusal :=
  .next (s.onAdmin fseq 0x09 (fun c s =>
    if 2048 ≤ vector then s.complete fseq .invalidField
    else s.setFeat c fseq false (fun f => { f with ivDisabled :=
      if disable then vector :: f.ivDisabled.filter (· ≠ vector) else f.ivDisabled.filter (· ≠ vector) })))

/-- SET_ASYNC_EVENT_CONFIG (R253). -/
def execSetAsyncEventConfig (fseq : Nat) (mask : BitVec 32) (s : State) : Host.Outcome State Fault Refusal :=
  .next (s.onAdmin fseq 0x09 (fun c s => s.setFeat c fseq false (fun f => { f with aerMask := mask })))

/-- SET_APST (R456): transitions go only to PS3 and PS4, and host-directed mode refuses the feature. -/
def execSetApst (fseq : Nat) (enable : Bool) (table : List (Nat × Nat)) (s : State) : Host.Outcome State Fault Refusal :=
  .next (s.onAdmin fseq 0x09 (fun c s =>
    if (enable ∧ s.param 0x7000 3 = 1) ∨ 32 < table.length ∨ table.any (fun e => e.1 ≠ 3 && e.1 ≠ 4) then
      s.complete fseq .invalidField
    else s.setFeat c fseq false (fun f => { f with apste := enable, apst := some table })))

/-- SET_TIMESTAMP (R422, R424): device-wide, and persisted with operating seconds. -/
def execSetTimestamp (fseq ms : Nat) (s : State) : Host.Outcome State Fault Refusal :=
  .next (s.onAdmin fseq 0x09 (fun _ s =>
    let s : State := { s with clocks := { s.clocks with ts := .running, tsSet := ms, tsAt := s.tb.count } }
    s.persist.complete fseq .success))

/-- SET_HCTM (R468): TMT1 below TMT2, both within MNTMT and MXTMT; 0 disables one. -/
def execSetHctm (fseq tmt1 tmt2 : Nat) (s : State) : Host.Outcome State Fault Refusal :=
  .next (s.onAdmin fseq 0x09 (fun c s =>
    let bad (t : Nat) : Bool := decide (t ≠ 0) && (decide (t < 333) || decide (373 < t))
    if bad tmt1 ∨ bad tmt2 ∨ (tmt1 ≠ 0 ∧ tmt2 ≠ 0 ∧ tmt2 ≤ tmt1) then s.complete fseq .invalidField
    else s.setFeat c fseq false (fun f => { f with tmt1 := tmt1, tmt2 := tmt2 })))

/-- SET_READ_RECOVERY_LEVEL (R137). -/
def execSetReadRecoveryLevel (fseq level : Nat) (s : State) : Host.Outcome State Fault Refusal :=
  .next (s.onAdmin fseq 0x09 (fun c s =>
    if level ≤ 5 ∨ level = 15 then s.setFeat c fseq false (fun f => { f with rrl := level }) else s.complete fseq .invalidField))

/-- SET_RESERVATION_PERSISTENCE (R253). -/
def execSetReservationPersistence (fseq nsid : Nat) (ptpl : Bool) (s : State) : Host.Outcome State Fault Refusal :=
  .next (s.onAdmin fseq 0x09 (fun c s =>
    match s.nsOf c.port nsid with
    | none => s.complete fseq .invalidNs
    | some (i, _) => (s.setNs i (fun n => { n with resv := { n.resv with ptpl := ptpl } })).complete fseq .success))

/-- SET_HOST_IDENTIFIER (R253). -/
def execSetHostIdentifier (fseq : Nat) (id : BitVec 128) (s : State) : Host.Outcome State Fault Refusal :=
  .next (s.onAdmin fseq 0x09 (fun c s => s.setFeat c fseq false (fun f => { f with hostId := id })))

/-- SET_FDP (R215): only while no namespace exists. -/
def execSetFdp (fseq : Nat) (enable : Bool) (s : State) : Host.Outcome State Fault Refusal :=
  .next (s.onAdmin fseq 0x09 (fun _ s =>
    if s.media.namespaces ≠ [] then s.complete fseq .cmdSeqError
    else (s.setMedia (fun m => { m with fdp := enable })).complete fseq .success))

/-! ### Power states (R450, R456 to R458) -/

/-- Preparation begins (R450 steps 1 to 3): no new erase, every stream is quiesced, its rows closing after the
close-wait (R94), the landing buffer drains. -/
def State.beginEntry (s : State) (target : Nat) (apst : Bool) (p : Fin 2) : State :=
  (s.setPws (fun w => { w with entry := some { target := target, phase := 1, apst := apst, port := p } })).dispatchAll.copiesGo

/-- The device follows what its controllers hold (R457). -/
def State.followPs (s : State) (apst : Bool) (p : Fin 2) : State :=
  let t := s.devicePs
  if t < 3 then (s.setPws (fun w => { w with ps := t, gated := if t = 0 then [] else w.gated.filter (fun e => t = 2 || e.2 < 3) })).tryTest
  else if s.pws.entry.isSome ∨ t ≤ s.pws.ps then s else s.beginEntry t apst p

/-- SET_POWER_MANAGEMENT (R457, R458): it completes when the target is accepted. -/
def execSetPowerManagement (fseq ps : Nat) (s : State) : Host.Outcome State Fault Refusal :=
  .next (s.onAdmin fseq 0x09 (fun c s =>
    if 4 < ps then s.complete fseq .invalidField
    else
      let s := (s.complete fseq .success).setCtrl c.port (fun k => { k with ps := ps, psOper := if ps < 3 then ps else k.psOper })
      s.followPs false c.port))

/-! ### Asynchronous events, self-test, directives (R253, R255) -/

/-- ASYNC_EVENT_REQUEST: held outstanding, at most 8 (R255). -/
def execAsyncEventRequest (fseq : Nat) (s : State) : Host.Outcome State Fault Refusal :=
  .next (s.onAdmin fseq 0x0C (fun c s =>
    if 8 ≤ (s.ctrl c.port).aers.length then s.complete fseq .aerLimit
    else (s.setCtrl c.port (fun k => { k with aers := k.aers ++ [fseq] })).setCmd fseq (fun c => { c with phase := .outstanding })))

/-- The Namespace Attribute notice: the oldest outstanding request of the controller completes with it. -/
def State.nsChanged (s : State) (p : Fin 2) (nsid : Nat) : State :=
  let s := s.setCtrl p (fun k => { k with changedNs := if k.changedNs.contains nsid then k.changedNs else k.changedNs ++ [nsid] })
  match (s.ctrl p).aers with
  | f :: fs =>
    if (s.ctrl p).feat.aerMask.getLsbD 8 then
      (s.setCtrl p (fun k => { k with aers := fs })).complete f .success 0x040002
    else s
  | [] => s

/-- DEVICE_SELF_TEST, short, extended or abort; the test's outcome is free (DESIGN CHOICE, notes/assumptions/5.md). -/
def execDeviceSelfTest (fseq code : Nat) (s : State) : Host.Outcome State Fault Refusal :=
  .next (s.onAdmin fseq 0x14 (fun c s =>
    if code = 0xF then (s.setCtrl c.port (fun k => { k with selfTest := 0 })).complete fseq .success
    else if code ≠ 1 ∧ code ≠ 2 then s.complete fseq .invalidField
    else
      let r := bit (!Config.selfTestPasses s.free) * 5
      ({ s with free := s.free + 1 }.setCtrl c.port (fun k => { k with selfTest := 0, selfTestLast := code * 16 + r })).complete
        fseq .success))

/-- The directive types of R253: Identify and Data Placement. -/
def directiveOk (t : Nat) : Bool := t = 0 || t = 2

/-- DIRECTIVE_SEND (R253): Identify enables or disables a type. -/
def execDirectiveSend (fseq nsid dtype : Nat) (enable : Bool) (s : State) : Host.Outcome State Fault Refusal :=
  .next (s.onAdmin fseq 0x19 (fun c s =>
    if !directiveOk dtype then s.complete fseq .invalidField
    else if (s.nsOf c.port nsid).isNone then s.complete fseq .invalidNs
    else (s.setCtrl c.port (fun k => { k with directive :=
      (nsid * 4 + dtype, enable) :: k.directive.filter (fun e => e.1 ≠ nsid * 4 + dtype) })).complete fseq .success))

/-- DIRECTIVE_RECEIVE (R253): types supported and enabled. -/
def execDirectiveReceive (fseq nsid dtype : Nat) (s : State) : Host.Outcome State Fault Refusal :=
  .next (s.onAdmin fseq 0x1A (fun c s =>
    if !directiveOk dtype then s.complete fseq .invalidField
    else if (s.nsOf c.port nsid).isNone then s.complete fseq .invalidNs
    else (s.emit (.reply fseq 0x1A0000 [0x5, bit ((s.ctrl c.port).directive.contains (nsid * 4 + dtype, true))])).complete
      fseq .success))

/-- INVALID_ADMIN_OPCODE (R253): any opcode that is not listed. -/
def adminOpcodes : List Nat :=
  [0x00, 0x01, 0x02, 0x04, 0x05, 0x06, 0x08, 0x09, 0x0A, 0x0C, 0x0D, 0x10, 0x11, 0x14, 0x15, 0x19, 0x1A, 0x80, 0x81, 0x82, 0x84]

def State.invalidAdmin (s : State) (fseq : Nat) : State :=
  match s.cmq.cmds.get? fseq with
  | some c => match c.cmd with
    | .admin o _ => if adminOpcodes.contains o.toNat then s else s.complete fseq .invalidOpcode
    | _ => s
  | none => s

def execInvalidAdminOpcode (fseq : Nat) (s : State) : Host.Outcome State Fault Refusal :=
  .next (s.whenLive (fun s => s.invalidAdmin fseq))

/-! ### Namespaces (R98, R99, R218, R253, R501) -/

/-- At-creation entries of a namespace index (R501). -/
def atCreation : List Nat := [0x3011, 0x3301, 0x7001, 0x7003]

/-- What a create would make, or why it fails. -/
def State.planNs (s : State) (i nlbas : Nat) (lba512 zoned expanded : Bool) : Except Status Namespace :=
  let m := s.media
  let place := s.param 0x7001 i
  let n : Namespace :=
    { nlbas := nlbas, lba512 := lba512, ind16 := !zoned && decide (s.param 0x3301 i = 1), zoned := zoned
      placement := if zoned then 2 else if m.fdp then 1 else place
      kpio := decide (s.param 0x7003 i = 1), factor := if expanded then some (s.param 0x3011 i) else none }
  if nlbas = 0 then .error .invalidField
  else if zoned ∧ (m.groups.length ≤ 3 ∨ n.granules % m.zoneSize ≠ 0 ∨ expanded) then .error .invalidField
  else if !zoned ∧ (place = 2 ∨ (place = 1 ∧ !m.fdp)) then .error .invalidField
  else if expanded then
    let shares := ((m.namespaces.filter (fun e => e.2.expanded)).map (fun e => e.2.share)).foldl (· + ·) 0
    if m.pool < shares + n.share then .error .nsInsufficientCapacity else .ok n
  else if m.guaranteed < m.plainBytes + m.capBytes n then .error .nsInsufficientCapacity
  else .ok n

/-- The lowest namespace index not in use. -/
def Media.freeNs (m : Media) : Option Nat := (List.range 256).find? (fun i => !m.namespaces.has i)

/-- An RWP entry returns to its default (R501): its newest record, if it has one, no longer stands. -/
def Dict.toDefault (d : Dict) (index sub : Nat) : Dict :=
  let k := index * 256 + sub
  if d.vals.has k then
    let v : DictVal := { bytes := leBytes (((descOf index sub).map (·.size)).getD 1) (((descOf index sub).map (·.default)).getD 0)
                         writer := 0, opsec := 0, pcc := 0 }
    { d with vals := d.vals.del k }.logValue k v
  else d

/-- A namespace is deleted with its data; its at-creation entries return to their defaults. -/
def State.deleteNs (s : State) (i : Nat) : State :=
  match s.media.namespaces.get? i with
  | none => s
  | some n =>
    let s := s.wipeNs i
    let s := s.setMedia (fun m => { m with namespaces := m.namespaces.del i })
    let s : State := { s with dict := atCreation.foldl (fun (d : Dict) x => d.toDefault x i) s.dict }
    n.attached.foldl (fun s p => s.nsChanged p (i + 1)) s

def State.nsManage (s : State) (fseq : Nat) : NsMgmt → State
  | .create nlbas lba512 zoned expanded => match s.media.freeNs with
    | none => s.complete fseq .nsIdUnavailable
    | some i => match s.planNs i nlbas lba512 zoned expanded with
      | .error st => s.complete fseq st
      | .ok n => (s.setMedia (fun m => { m with namespaces := m.namespaces.put i n })).complete fseq .success (i + 1)
  | .delete nsid =>
    if nsid = 0xFFFFFFFF then ((s.media.namespaces.map (·.1)).foldl State.deleteNs s).complete fseq .success
    else if nsid = 0 ∨ !(s.media.namespaces.has (nsid - 1)) then s.complete fseq .invalidNs
    else (s.deleteNs (nsid - 1)).complete fseq .success

/-- NAMESPACE_MANAGEMENT (R98, R99, R183, R501). -/
def execNamespaceManagement (fseq : Nat) (m : NsMgmt) (s : State) : Host.Outcome State Fault Refusal :=
  .next (s.onAdmin fseq 0x0D (fun _ s => s.nsManage fseq m))

def State.nsAttach (s : State) (fseq : Nat) (attach : Bool) (nsid : Nat) (ctrls : List (Fin 2)) : State :=
  match (if nsid = 0 then none else s.media.namespaces.get? (nsid - 1)) with
  | none => s.complete fseq .invalidNs
  | some n =>
    if ctrls = [] ∨ ctrls.any (fun p => !(s.portList.contains p)) then s.complete fseq .invalidField
    else if attach ∧ ctrls.any (fun p => n.attached.contains p) then s.complete fseq .nsAlreadyAttached
    else if !attach ∧ ctrls.any (fun p => !(n.attached.contains p)) then s.complete fseq .nsNotAttached
    else
      let s := s.setNs (nsid - 1) (fun n => { n with
        attached := if attach then n.attached ++ ctrls.dedup else n.attached.filter (fun p => !ctrls.contains p) })
      (ctrls.foldl (fun s p => s.nsChanged p nsid) s).complete fseq .success

/-- NAMESPACE_ATTACHMENT (R253). -/
def execNamespaceAttachment (fseq : Nat) (attach : Bool) (nsid : Nat) (ctrls : List (Fin 2)) (s : State) :
    Host.Outcome State Fault Refusal :=
  .next (s.onAdmin fseq 0x15 (fun _ s => s.nsAttach fseq attach nsid ctrls))

/-! ### Format NVM and Sanitize (R377) -/

/-- A namespace after a format: the same capacity in the new block size. -/
def Namespace.formatted (n : Namespace) (lba512 : Bool) : Namespace :=
  if n.lba512 = lba512 then n
  else { n with lba512 := lba512, nlbas := if lba512 then n.nlbas * 8 else n.nlbas / 8 }

/-- A write-locked range of the namespace, or the tampered state, refuses its deallocation (R366, R372). -/
def State.nsLocked (s : State) (i : Nat) (n : Namespace) : Bool :=
  s.sealed || (!n.kpio && s.sec.opalActive && (s.sec.nsSlots i).any (fun r => s.sec.ranges[r].wrEn && s.sec.ranges[r].wrLocked))

/-- The keys of a namespace are replaced; a key slot that other namespaces use stays theirs too, as one key (R369). -/
def State.formatNs (s : State) (i ses : Nat) (lba512 : Bool) : State :=
  let s := s.wipeNs i
  let s := s.setNs i (fun n => n.formatted lba512)
  match s.media.namespaces.get? i with
  | some n => if ses = 0 ∨ n.kpio then s
      else ((s.sec.nsSlots i).filter (fun r => r ≠ 0 ||
        s.media.namespaces.all (fun e => e.1 = i || !((s.sec.nsSlots e.1).contains 0)))).foldl State.newKey s
  | none => s

def State.format (s : State) (fseq nsid ses : Nat) (lba512 : Bool) : State :=
  let is := if nsid = 0xFFFFFFFF then s.media.namespaces.map (·.1) else if nsid = 0 then [] else [nsid - 1]
  let ns := is.filterMap (fun i => (s.media.namespaces.get? i).map (fun n => (i, n)))
  if 2 < ses then s.complete fseq .invalidField
  else if ns = [] then s.complete fseq .invalidNs
  else if ns.any (fun e => s.nsLocked e.1 e.2) then s.complete fseq .accessDenied
  else if ses ≠ 0 ∧ s.sec.entropyBad then s.complete fseq .internalError
  else ((ns.foldl (fun s e => s.formatNs e.1 ses lba512) s).setMedia (fun m => { m with protected_ := false })).complete fseq .success

/-- FORMAT_NVM (R253, R377). -/
def execFormatNvm (fseq nsid ses : Nat) (lba512 : Bool) (s : State) : Host.Outcome State Fault Refusal :=
  .next (s.onAdmin fseq 0x80 (fun _ s => s.format fseq nsid ses lba512))

/-- Block erase (2) and crypto erase (4) replace every key and set every entry TRIMMED. -/
def State.sanitize (s : State) (fseq action : Nat) : State :=
  if action = 1 then s.complete fseq .success
  else if action ≠ 2 ∧ action ≠ 4 then s.complete fseq .invalidField
  else if s.sec.entropyBad then s.complete fseq .internalError
  else
    let s := (s.media.namespaces.map (·.1)).foldl State.wipeNs s
    let s := (List.finRange 64).foldl State.newKey s
    let s := s.setMedia (fun m => { m with protected_ := false })
    ({ s with cmq := { s.cmq with sanitizeLast := 1 } }).complete fseq .success

/-- SANITIZE (R253, R377). -/
def execSanitize (fseq action : Nat) (s : State) : Host.Outcome State Fault Refusal :=
  .next (s.onAdmin fseq 0x84 (fun _ s => s.sanitize fseq action))

end Sys2Proof.Machine
end

