-- ==== Sys2Proof/Machine/HostIo.lean ====
section
/-! DEFINITION. Chapters 05 and 07, I/O commands: Flush (R274), Compare, Verify, Copy and Write Zeroes (R254), Dataset
Management (R66, R183), reservations (R271), FDP (R215, R216) and zones (R217 to R219). -/

namespace Sys2Proof.Machine

open Sys2Proof

/-- `f` on a command whose locks are granted, or that waited for lines or a map page. -/
def State.onIo (s : State) (fseq : Nat) (f : Cmd → State → State) : State :=
  if !s.live then s
  else match s.cmq.cmds.get? fseq with
    | some c => if c.runs then f c s else s
    | none => s

/-! ### Flush (R274) -/

/-- A row holds one of the lines. -/
def State.rowHolds (s : State) (r : Nat) (row : Row) (ls : List Nat) : Bool :=
  row.recs.any (fun x => match x.line with
    | some n => ls.contains n
    | none => false) || (s.inRow r).any (fun e => ls.contains e.1)

/-- The rows of the covered lines are closed at once; the command completes when they are complete. -/
def State.flushLines (s : State) (fseq : Nat) (ls : List Nat) : State :=
  if ls = [] then s.complete fseq .success
  else
    let s := (s.setCmd fseq (fun c => { c with phase := .waitRows, lines := ls })).dispatchAll
    (s.media.rows.filter (fun e => s.rowHolds e.1 e.2 ls)).foldl (fun s e =>
      if e.2.closed then s.ensureFinal e.1 else s.closeEarly e.1) s

/-- The lines of acknowledged writes of the namespaces; a write-through line's write is not acknowledged before it is programmed
(R58). -/
def State.flushCmd (s : State) (c : Cmd) (fseq : Nat) (nsid : Option Nat) : State :=
  let of (ns : List Nat) : List Nat := (s.land.lines.filter (fun e => ns.contains e.2.ns && !e.2.wt &&
    (e.2.st == .committed || e.2.st == .packed))).map (·.1)
  match nsid with
  | some i => match s.nsOf c.port i with
    | some (x, _) => s.flushLines fseq (of [x])
    | none => s.complete fseq .invalidNs
  | none => s.flushLines fseq (of ((s.attachedTo c.port).map (· - 1)))

/-- FLUSH_COMMAND (R94, R274). -/
def execFlushCommand (fseq : Nat) (s : State) : Host.Outcome State Fault Refusal :=
  .next (s.onIo fseq (fun c s => match c.cmd with
    | .flush nsid => s.flushCmd c fseq nsid
    | _ => s))

/-! ### Compare, Verify, Copy (R254) -/

/-- COMPARE: `data` is the host's data. -/
def execCompare (fseq : Nat) (data : List Sector) (s : State) : Host.Outcome State Fault Refusal :=
  .next (s.onIo fseq (fun c s => match c.cmd with
    | .compare _ => (s.setCmd fseq (fun c => { c with wdata := data })).startIo fseq
    | _ => s))

/-- VERIFY. -/
def execVerify (fseq : Nat) (s : State) : Host.Outcome State Fault Refusal :=
  .next (s.onIo fseq (fun c s => match c.cmd with
    | .verify _ => s.startIo fseq
    | _ => s))

/-- COPY: the sources are read, then the destination lands as a write (R254, R276). -/
def execCopy (fseq : Nat) (s : State) : Host.Outcome State Fault Refusal :=
  .next (s.onIo fseq (fun c s => match c.cmd with
    | .copy .. => if c.wdata = [] then s.startIo fseq else s.landStart fseq c.wdata
    | _ => s))

/-! ### Write Zeroes, deallocation (R66, R183, R254) -/

/-- WRITE_ZEROES (R254). -/
def execWriteZeroes (fseq : Nat) (s : State) : Host.Outcome State Fault Refusal :=
  .next (s.onIo fseq (fun c s => match c.cmd with
    | .writeZeroes nsid slba nlb dealloc => s.writeZeroes c fseq nsid slba nlb dealloc
    | _ => s))

/-- DATASET_MANAGEMENT (R66, R183). -/
def execDatasetManagement (fseq : Nat) (s : State) : Host.Outcome State Fault Refusal :=
  .next (s.onIo fseq (fun c s => match c.cmd with
    | .dsm nsid dealloc ranges => s.deallocate c fseq nsid dealloc ranges
    | _ => s))

/-! ### Reservations (R253, R271) -/

/-- The key that a controller has registered. -/
def Reservation.keyOf (r : Reservation) (p : Fin 2) : Option (BitVec 64) :=
  (r.regs.find? (fun e => decide (e.port = p))).map (·.key)

/-- A registrant leaves; the reservation ends with its holder, or with the last registrant of an all-registrants type. -/
def Reservation.leave (r : Reservation) (p : Fin 2) : Reservation :=
  let regs := r.regs.filter (fun e => e.port ≠ p)
  let ends : Bool := match r.holder with
    | some h => if 5 ≤ r.rtype then regs.isEmpty else decide (h = p)
    | none => false
  { r with
    regs := regs
    holder := if ends then none else if r.holder = some p then (regs.head?.map (·.port)) else r.holder
    rtype := if ends then 0 else r.rtype }

def Reservation.register (r : Reservation) (p : Fin 2) (action : Fin 3) (ignore : Bool) (cur new : BitVec 64) : Option Reservation :=
  let mine := r.keyOf p
  match action.val with
  | 0 => match mine with
    | some k => if k = new then some r else none
    | none => some { r with regs := r.regs ++ [{ port := p, key := new }], gen := r.gen + 1 }
  | 1 => match mine with
    | some k => if ignore ∨ k = cur then some { r.leave p with gen := r.gen + 1 } else none
    | none => none
  | _ => match mine with
    | some k => if ignore ∨ k = cur then
        some { r with regs := r.regs.map (fun e => if e.port = p then { e with key := new } else e), gen := r.gen + 1 } else none
    | none => if ignore then some { r with regs := r.regs ++ [{ port := p, key := new }], gen := r.gen + 1 } else none

/-- Acquire, preempt, preempt and abort. -/
def Reservation.acquire (r : Reservation) (p : Fin 2) (action : Fin 3) (rtype : Nat) (ignore : Bool) (cur pre : BitVec 64) :
    Option Reservation :=
  match r.keyOf p with
  | none => none
  | some k =>
    if !ignore ∧ k ≠ cur then none
    else if action.val = 0 then
      match r.holder with
      | none => some { r with holder := some p, rtype := rtype }
      | some h => if (h = p ∨ 5 ≤ r.rtype) ∧ r.rtype = rtype then some r else none
    else
      let out := r.regs.filter (fun e => decide (e.key = pre) && decide (e.port ≠ p))
      let held : Bool := match r.holder with
        | some h => h = p || out.any (fun e => decide (e.port = h)) || (decide (5 ≤ r.rtype) && decide (pre = 0))
        | none => false
      let gone := if held ∧ 5 ≤ r.rtype ∧ pre = 0 then r.regs.filter (fun e => e.port ≠ p) else out
      if gone = [] ∧ !held then none
      else
        let regs := r.regs.filter (fun e => !gone.contains e)
        some (if held then { r with regs := regs, holder := some p, rtype := rtype, gen := r.gen + 1 }
              else { r with regs := regs, gen := r.gen + 1 })

/-- Release and clear. -/
def Reservation.release (r : Reservation) (p : Fin 2) (action : Fin 2) (rtype : Nat) (ignore : Bool) (cur : BitVec 64) :
    Except Status Reservation :=
  match r.keyOf p with
  | none => .error .resvConflict
  | some k =>
    if !ignore ∧ k ≠ cur then .error .resvConflict
    else if action.val = 1 then .ok { r with regs := [], holder := none, rtype := 0, gen := r.gen + 1 }
    else if r.holder = some p ∨ (r.holder.isSome ∧ 5 ≤ r.rtype) then
      (if r.rtype = rtype then .ok { r with holder := none, rtype := 0 } else .error .invalidField)
    else .ok r

/-- `f` on the namespace of a reservation command of opcode `opc`. -/
def State.onResv (s : State) (fseq opc : Nat) (f : Cmd → Nat → Namespace → State → State) : State :=
  s.onIo fseq (fun c s => match c.cmd with
    | .resv o nsid => if o.toNat ≠ opc then s else match s.nsOf c.port nsid with
      | some (i, n) => f c i n s
      | none => s.complete fseq .invalidNs
    | _ => s)

/-- A reservation takes its new value, or the command fails with Reservation Conflict. -/
def State.setResv (s : State) (fseq i : Nat) : Option Reservation → State
  | some r => (s.setNs i (fun n => { n with resv := r })).complete fseq .success
  | none => s.complete fseq .resvConflict

/-- RESERVATION_REGISTER. -/
def execReservationRegister (fseq : Nat) (action : Fin 3) (ignoreKey : Bool) (cur new : BitVec 64) (s : State) :
    Host.Outcome State Fault Refusal :=
  .next (s.onResv fseq 0x0D (fun c i n s => s.setResv fseq i (n.resv.register c.port action ignoreKey cur new)))

/-- RESERVATION_REPORT: generation, type, holder, registrants. -/
def execReservationReport (fseq : Nat) (s : State) : Host.Outcome State Fault Refusal :=
  .next (s.onResv fseq 0x0E (fun _ _ n s => (s.emit (.reply fseq 0x0E0000
    ([n.resv.gen, n.resv.rtype, (n.resv.holder.map (fun p => p.val + 1)).getD 0] ++
      n.resv.regs.flatMap (fun e => [e.port.val, e.key.toNat])))).complete fseq .success))

/-- RESERVATION_ACQUIRE. -/
def execReservationAcquire (fseq : Nat) (action : Fin 3) (rtype : Nat) (ignoreKey : Bool) (cur pre : BitVec 64) (s : State) :
    Host.Outcome State Fault Refusal :=
  .next (s.onResv fseq 0x11 (fun c i n s =>
    if rtype = 0 ∨ 6 < rtype then s.complete fseq .invalidField
    else s.setResv fseq i (n.resv.acquire c.port action rtype ignoreKey cur pre)))

/-- RESERVATION_RELEASE. -/
def execReservationRelease (fseq : Nat) (action : Fin 2) (rtype : Nat) (ignoreKey : Bool) (cur : BitVec 64) (s : State) :
    Host.Outcome State Fault Refusal :=
  .next (s.onResv fseq 0x15 (fun c i n s =>
    match n.resv.release c.port action rtype ignoreKey cur with
    | .ok r => s.setResv fseq i (some r)
    | .error st => s.complete fseq st))

/-! ### Flexible Data Placement (R215, R216) -/

/-- IO_MANAGEMENT_RECEIVE: for each handle, the rows left of its reclaim unit. -/
def execIoManagementReceive (fseq : Nat) (s : State) : Host.Outcome State Fault Refusal :=
  .next (s.onIo fseq (fun c s => match c.cmd with
    | .ioMgmtRecv nsid => match s.nsOf c.port nsid with
      | none => s.complete fseq .invalidNs
      | some (_, n) =>
        if n.placement ≠ 1 then s.complete fseq .invalidField
        else (s.emit (.reply fseq 0x120000 ((List.range s.media.handleMax).map (fun h =>
          match s.media.openStripe (.host h) with
          | some t => s.media.wordlines - t.2.nextRow
          | none => s.media.wordlines)))).complete fseq .success
    | _ => s))

/-- RECLAIM_UNIT_HANDLE_UPDATE (R216). -/
def execReclaimUnitHandleUpdate (fseq : Nat) (s : State) : Host.Outcome State Fault Refusal :=
  .next (s.onIo fseq (fun c s => match c.cmd with
    | .ioMgmtSend nsid handles => match s.nsOf c.port nsid with
      | none => s.complete fseq .invalidNs
      | some (_, n) =>
        if n.placement ≠ 1 ∨ handles.any (fun h => decide (s.media.handleMax ≤ h)) then s.complete fseq .invalidField
        else (handles.foldl (fun s h => s.closeHandle h 1) s).complete fseq .success
    | _ => s))

/-! ### Zones (R217 to R220) -/

/-- Zones of a namespace. -/
def State.zoneCount (s : State) (n : Namespace) : Nat := n.granules / s.media.zoneSize

def State.onZone (s : State) (fseq : Nat) (want : ZoneAct) : State :=
  s.onIo fseq (fun c s => match c.cmd with
    | .zoneSend nsid slba allZones act => if act = want then s.zoneSend c fseq nsid slba allZones act else s
    | _ => s)

/-- ZONE_FINISH (R219). -/
def execZoneFinish (fseq : Nat) (s : State) : Host.Outcome State Fault Refusal := .next (s.onZone fseq .finish)

/-- ZONE_RESET (R219). -/
def execZoneReset (fseq : Nat) (s : State) : Host.Outcome State Fault Refusal := .next (s.onZone fseq .reset)

/-- ZONE_OPEN (R217). -/
def execZoneOpen (fseq : Nat) (s : State) : Host.Outcome State Fault Refusal := .next (s.onZone fseq .openZone)

/-- ZONE_CLOSE (R217, R219). -/
def execZoneClose (fseq : Nat) (s : State) : Host.Outcome State Fault Refusal := .next (s.onZone fseq .close)

/-- Zone states as zone descriptors carry them. -/
def ZoneSt.code : ZoneSt → Nat
  | .empty => 1
  | .implOpen => 2
  | .explOpen => 3
  | .closed => 4
  | .readOnly => 0xD
  | .full => 0xE

/-- ZONE_MANAGEMENT_RECEIVE: state, capacity, start and write pointer of each zone from `slba` on (R217). -/
def execZoneManagementReceive (fseq : Nat) (s : State) : Host.Outcome State Fault Refusal :=
  .next (s.onIo fseq (fun c s => match c.cmd with
    | .zoneRecv nsid slba => match s.nsOf c.port nsid with
      | none => s.complete fseq .invalidNs
      | some (_, n) =>
        if !n.zoned then s.complete fseq .invalidOpcode
        else if n.nlbas ≤ slba then s.complete fseq .lbaRange
        else
          let z0 := n.granuleOf slba / s.media.zoneSize
          (s.emit (.reply fseq 0x7A0000 ((List.range (s.zoneCount n - z0)).flatMap (fun i =>
            let q := s.zone n (z0 + i)
            let a := (z0 + i) * s.media.zoneSize
            [q.st.code, q.cap, n.lbaOf a, n.lbaOf (a + q.wp)])))).complete fseq .success
    | _ => s))

/-- ZONE_APPEND (R217): at most 256 KiB, at the zone's write pointer. -/
def execZoneAppend (fseq : Nat) (s : State) : Host.Outcome State Fault Refusal :=
  .next (s.onIo fseq (fun c s => match c.cmd with
    | .zoneAppend r => match s.nsOf c.port r.nsid with
      | none => s.complete fseq .invalidNs
      | some (_, n) =>
        let z := n.granuleOf r.slba / s.media.zoneSize
        if !n.zoned then s.complete fseq .invalidOpcode
        else if 512 < r.nlb * n.spb ∨ r.slba * n.spb ≠ z * s.media.zoneSize * 8 then s.complete fseq .invalidField
        else s.landStart fseq c.wdata
    | _ => s))

end Sys2Proof.Machine
end

