-- ==== Sys2Proof/Machine/Dram.lean ====
section
/-! DEFINITION. Chapter 09: the arbiter of a DRAM channel (R319 to R324), training and retraining (R326 to R331), corrected
and uncorrectable bursts, and the loss of a channel (R316, R334, R335). -/

namespace Sys2Proof.Machine

open Sys2Proof

/-- A rate's MT/s in the coding of DRC_EYE.RATE. -/
def dramRate (r : BitVec 2) : Nat := if r = 0 then 9600 else if r = 1 then 8533 else if r = 2 then 7500 else 6400

/-- The channel carries traffic. -/
def State.dchUp (s : State) (c : Fin 16) : Bool := !(s.dch c).failed && !s.dram.selfRefresh

/-- The junction: the highest of T0 to T10, in 0.1 °C. -/
def State.junction (s : State) : Int :=
  ((List.finRange 12).filter (fun k => k.val < 11)).foldl (fun m k => max m s.pws.temps[k].1.toInt) (-32768)

/-! ### The arbiter (R319 to R324) -/

def ArbReq.starveMax (a : ArbReq) : Nat := max 1 a.starve.toNat
def ArbReq.hold (a : ArbReq) : Nat := max 1 a.maxHold.toNat

/-- The normal classes. -/
def normalClasses : List (Fin 12) := (List.finRange 12).filter (fun k => k.val < 10)

/-- A requester raises its request; it presents one transaction at a time. -/
def DramCh.raise (d : DramCh) (r : Fin 12 × DramTxn) : DramCh :=
  if 10 ≤ r.1.val ∨ (d.arb[r.1]).txn.isSome then d
  else { d with arb := d.arb.upd r.1 (fun a => { a with txn := some r.2, wait := 0 }) }

/-- The normal classes with a request up. -/
def DramCh.up (d : DramCh) : List (Fin 12) := normalClasses.filter (fun k => (d.arb[k]).txn.isSome)

/-- A transaction hits an open row. -/
def DramCh.rowHit (d : DramCh) (k : Fin 12) : Bool :=
  match (d.arb[k]).txn with
  | some t => d.left[t.bank] && decide (d.row[t.bank] = some t.row)
  | none => false

/-- Step 2 of R320: the longest wait among those at their limit, lower number on equal waits. -/
def DramCh.starved (d : DramCh) : Option (Fin 12) :=
  (d.up.filter (fun k => (d.arb[k]).starveMax ≤ (d.arb[k]).wait)).foldl (fun (b : Option (Fin 12)) k =>
    match b with
    | none => some k
    | some x => if (d.arb[x]).wait < (d.arb[k]).wait then some k else some x) none

/-- How far class `k` stands after `last` in rotation. -/
def rotation (last k : Fin 12) : Nat := (k.val + 11 - last.val) % 12

/-- Step 3 of R320: the highest priority; row hits first; rotation after the class last granted at that priority. -/
def DramCh.byPrio (d : DramCh) : Option (Fin 12) :=
  let top := d.up.foldl (fun m k => max m (d.arb[k]).prio.toNat) 0
  let cs := d.up.filter (fun k => (d.arb[k]).prio.toNat = top)
  let hits := cs.filter d.rowHit
  let cs := if hits.isEmpty then cs else hits
  let last := d.lastAt[Fin.ofNat 4 top]
  cs.foldl (fun (b : Option (Fin 12)) k =>
    match b with
    | none => some k
    | some x => if rotation last k < rotation last x then some k else some x) none

/-- The counters of a grant (R320). -/
def ArbReq.granted (a : ArbReq) (forced : Bool) : ArbReq :=
  { a with
    txn := none, wait := 0, grants := satInc a.grants
    waits := if a.wait = 0 then a.waits else satInc a.waits
    longest := if a.longest.toNat < a.wait then satOf 16 a.wait else a.longest
    starved := a.starved || forced }

/-- Requests that lose a round wait one round more. -/
def DramCh.lose (d : DramCh) (won : Option (Fin 12)) : DramCh :=
  (d.up.filter (fun k => won ≠ some k)).foldl (fun d k =>
    { d with arb := d.arb.upd k (fun a => { a with wait := a.wait + 1 }) }) d

/-- Class `k` is granted: its counters, and its place in the rotation of its priority. -/
def DramCh.grantTo (d : DramCh) (k : Fin 12) (forced : Bool) : DramCh :=
  match (d.arb[k]).txn with
  | none => d
  | some t =>
    let p : Fin 4 := Fin.ofNat 4 (d.arb[k]).prio.toNat
    let d := d.lose (some k)
    { d with arb := d.arb.upd k (fun a => a.granted forced), grant := some (k, t, 0), lastAt := d.lastAt.upd p (fun _ => k) }

/-- MAINT is granted: its counters count refreshes and pauses. -/
def DramCh.maint (d : DramCh) : DramCh :=
  { d with arb := d.arb.upd 10 (fun a => { a with grants := satInc a.grants }) }

/-- The grant in progress has bursts that its class's MAX_HOLD forbids: it is cut off before its last burst. -/
def DramCh.overlong (d : DramCh) : Bool :=
  match d.grant with
  | some (k, t, _) => decide (k ≠ 10) && decide ((d.arb[k]).hold < t.bursts)
  | none => false

/-! ### The loss of a channel (R52, R335) -/

def Dram.failedCount (d : Dram) : Nat := ((List.finRange 16).filter (fun c => d.chs[c].failed)).length
def Dram.failedReg (d : Dram) : Nat := (List.finRange 16).foldl (fun x c => x + bit d.chs[c].failed * 2 ^ c.val) 0

/-- A packed line whose row has not been issued all its final programs. -/
def State.notIssued (s : State) (l : Line) : Bool :=
  match l.row with
  | some x => match s.media.rows.get? x.1 with
    | some r => !r.finalIssued
    | none => false
  | none => false

/-- Data acknowledged and lost with a channel: its committed lines, and its packed lines whose row is not fully issued.
Those rows are abandoned, and their other lines are packed again (R52). -/
def State.loseChannel (s : State) (c : Fin 16) : State :=
  let mine := s.land.lines.filter (fun e => decide (e.1 % 16 = c.val) &&
    (e.2.st == .committed || (e.2.st == .packed && s.notIssued e.2)))
  let rows := (mine.filterMap (fun e => if e.2.st == .packed then e.2.row.map (·.1) else none)).dedup
  let sids := (rows.filterMap (fun r => (s.media.rows.get? r).map (fun (x : Row) => x.stripe))).dedup
  let keys := mine.filterMap (fun e => if e.2.wt then none else some (gkey e.2.ns e.2.granule))
  let lost := mine.map (·.1)
  let s := s.setMedia (fun m => { m.lose keys with
    rows := m.rows.map (fun e => (e.1, { e.2 with recs := e.2.recs.map (fun r =>
      if r.line.any (fun n => lost.contains n) then { r with dead := true } else r) })) })
  let s := s.freeLines lost
  sids.foldl State.failStripe s

/-- A whole channel fails in operation (R52, R334): reason 1 uncorrectable bursts, 2 training. -/
def State.channelFails (s : State) (c : Fin 16) (reason : Nat) : State :=
  if (s.dch c).failed then s
  else
    let s := (s.setDch c (fun d => { d with failed := true, grant := none, cycleLeft := 0, fullLeft := 0, check := Vector.replicate 16 [] })).outage 0x3450 c.val 0xFF
      (leBytes 1 c.val ++ leBytes 1 reason)
    ((s.loseChannel c).drain).fatal s.portList

/-! ### Corrected and uncorrectable bursts (R316, R334) -/

/-- Corrected bursts are counted and wait for their write-back. -/
def State.corrected (s : State) (c : Fin 16) (n : Nat) : State :=
  if n = 0 then s
  else (s.setDram (fun d => { d with ceTotal := d.ceTotal + BitVec.ofNat 64 n })).setDch c (fun d =>
    { d with ce := satOf 24 (d.ce.toNat + n), writeBack := d.writeBack + n })

/-- SCRUB_DUE (R316). -/
def execScrubDue (c : Fin 16) (corrected : Bool) (s : State) : Host.Outcome State Fault Refusal :=
  .next (s.whenLive (fun s => if s.dram.scrubEn ∧ s.dchUp c then s.corrected c (bit corrected) else s))

/-- The region of an internal address: 0 landing buffer, 1 map cache, 2 fulling and read buffers, 3 firmware tables. -/
def ueRegion (a : Nat) : Nat :=
  if a < 0x1080000000 then 0 else if a < 0x1B80000000 then 1 else if a < 0x1E00000000 then 2 else 3

/-- A command ends with Data Transfer Error. -/
def State.ueCommand (s : State) (fseq : Nat) : State := (s.quit fseq .dataTransferError).resumeAll

/-- A committed line's acknowledged data is lost. A write-through line was not acknowledged: its command ends with Data
Transfer Error. -/
def State.ueLine (s : State) (n : Nat) : State :=
  match s.land.lines.get? n with
  | none => s
  | some l =>
    if l.st ≠ .committed then s
    else
      let s := if l.wt then s else s.setMedia (fun m => m.lose [gkey l.ns l.granule])
      let owners := (s.cmq.cmds.filter (fun e => e.2.lines.contains n)).map (·.1)
      let s := owners.foldl (fun s f => s.quit f .dataTransferError) s
      let s := s.dropLines [n]
      (match l.row with
        | some x => s.closeIfDue x.1
        | none => s).resumeAll

/-- What an uncorrectable burst does, by where it lay (R334). -/
def State.ueAct (s : State) : UeWhere → State
  | .hostOut f => match s.cmq.cmds.get? f with
    | some c => if s.ports[c.port].cnt.trigEn.getLsbD 5 ∨ s.ports[c.port].cnt.active then s.contain c.port 5 else s.ueCommand f
    | none => s
  | .readBack f => match s.cmq.cmds.get? f with
    | some c => if c.phase = .landed then s.ueCommand f else s
    | none => s
  | .landingLine n => s.ueLine n
  | .mapPage ns k =>
    let pk := ns * 2 ^ 30 + k
    if s.media.dirtyPages.has pk then s else s.setMedia (fun m => { m with resident := m.resident.filter (· ≠ pk) })
  | .buffer => s
  | .fwTable => s.setMedia (fun m => { m with track := m.track.map (fun e => (e.1, { e.2 with stale := true })) })

/-- The read count of every block rises by 10 % of its threshold (R204). -/
def State.raiseReads (s : State) : State :=
  let up := s.param 0x3320 (if s.media.qlc then 1 else 0) / 10
  let keys := s.media.dies_.flatMap (fun d => (List.range s.media.blocks).map (fun b => d * 8192 + b))
  s.setMedia (fun m => { m with readCnt := keys.foldl (fun (t : AMap Nat) k => t.put k ((t.get? k).getD 0 + up)) m.readCnt })

/-- An uncorrectable burst is found; the 64th of a channel within 1 s fails the channel. -/
def State.dramUe (s : State) (c : Fin 16) (k : Fin 12) (w : UeWhere) (addr : Nat) : State :=
  let now := s.tb.count.toNat
  let ats := now :: (s.dch c).ueAt.filter (fun t => decide (now ≤ t + 100000000))
  let s := (s.setDch c (fun d => { d with ue := satInc d.ue, ueAt := ats })).setDram (fun d => { d with ueTotal := d.ueTotal + 1 })
  let s := s.log 0x3452 0xFF (leBytes 1 c.val ++ leBytes 1 k.val ++ leBytes 1 (ueRegion addr) ++ leBytes 1 0 ++ leBytes 8 addr)
  let s := s.ueAct w
  let s := if w = .fwTable then s.raiseReads else s
  if 64 ≤ ats.length then s.channelFails c 1 else s

/-- DRAM_UE (R334, R335). -/
def execDramUe (c : Fin 16) (k : Fin 12) (w : UeWhere) (addr : Nat) (s : State) : Host.Outcome State Fault Refusal :=
  .next (s.whenLive (fun s => if s.dchUp c then s.dramUe c k w addr else s))

/-! ### Retraining (R328, R329, R331) -/

/-- A delay moves one step: up when only the lower probe fails, down when only the upper one does. -/
def probeStep (d : BitVec 7) (low high : Bool) : BitVec 7 :=
  if low && !high then (if d = 127 then d else d + 1)
  else if high && !low then (if d = 0 then d else d - 1)
  else d

def movesOf (a b : BitVec 7) : Nat := bit (decide (a ≠ b))

/-- A full retraining follows: 64 pauses. -/
def DramCh.startFull (d : DramCh) : DramCh := { d with cycleLeft := 0, fullLeft := 64 }

/-- A full retraining has failed at the present rate: the next lower rate, or the channel fails (R329). -/
def State.sweepFails (s : State) (c : Fin 16) : State :=
  let r := (s.dch c).rate
  let s := s.setDch c (fun d => { d with fullLeft := 0 })
  if r = 3 then s.channelFails c 2
  else (s.setDch c (fun d => { d with rate := r + 1 })).logs
    [⟨0x3453, 0xFF, leBytes 1 c.val ++ leBytes 2 (dramRate r)⟩, ⟨0x3451, 0xFF, leBytes 1 c.val ++ leBytes 2 (dramRate (r + 1))⟩]

/-- The cycle's next pause; its end notes the junction temperature. -/
def DramCh.paused (d : DramCh) (junction : Int) : DramCh :=
  { d with cycleLeft := d.cycleLeft - 1, cycleTemp := if d.cycleLeft ≤ 1 then junction else d.cycleTemp }

/-- A pause that is due runs (R328, R329). -/
def State.runPause (s : State) (c : Fin 16) (p : PauseResult) : State :=
  let j := s.junction
  match p with
  | .oscillator m =>
    let lim := s.param 0x4000 2
    s.setDch c (fun d => if lim < m then d.startFull else d.paused j)
  | .readProbe l0 h0 l1 h1 =>
    s.setDch c (fun d =>
      if (l0 && h0) || (l1 && h1) then d.startFull
      else
        let a := probeStep d.rd0 l0 h0
        let b := probeStep d.rd1 l1 h1
        { d.paused j with rd0 := a, rd1 := b, moves := satOf 8 (d.moves.toNat + movesOf a d.rd0 + movesOf b d.rd1) })
  | .writeProbe l0 h0 l1 h1 =>
    s.setDch c (fun d =>
      if (l0 && h0) || (l1 && h1) then d.startFull
      else
        let a := probeStep d.wr0 l0 h0
        let b := probeStep d.wr1 l1 h1
        { d.paused j with wr0 := a, wr1 := b, moves := satOf 8 (d.moves.toNat + movesOf a d.wr0 + movesOf b d.wr1) })
  | .sweep _ fails r =>
    if fails then s.sweepFails c
    else s.setDch c (fun d =>
      if d.fullLeft ≤ 1 then { d with
        fullLeft := 0, rd0 := satOf 7 r.rd0, rd1 := satOf 7 r.rd1, wr0 := satOf 7 r.wr0, wr1 := satOf 7 r.wr1, eye := satOf 8 r.eye }
      else { d with fullLeft := d.fullLeft - 1 })

/-- The pause that a channel is due for, if it is the one given; none begins from the power-fail signal on (R332). -/
def State.pauseDue (s : State) (c : Fin 16) (p : PauseResult) : Bool :=
  let d := s.dch c
  !s.plp.pfail && (match p with
    | .oscillator _ => decide (d.fullLeft = 0) && decide (d.cycleLeft = 3)
    | .readProbe .. => decide (d.fullLeft = 0) && decide (d.cycleLeft = 2)
    | .writeProbe .. => decide (d.fullLeft = 0) && decide (d.cycleLeft = 1)
    | .sweep .. => decide (0 < d.fullLeft))

/-- A class is granted its transaction, whose bursts then run in order (R323). -/
def State.grantClass (s : State) (c : Fin 16) (k : Fin 12) (forced : Bool) : State :=
  match ((s.dch c).arb[k]).txn with
  | none => s
  | some t =>
    let hold := ((s.dch c).arb[k]).hold
    ((s.setDch c (fun d => d.grantTo k forced)).emit (.dram c 0 k.val)).runTxn c k t hold

/-- A round without a pause: the write-backs of corrected bursts, then steps 2 and 3. -/
def State.roundGrant (s : State) (c : Fin 16) : State :=
  let n := (s.dch c).writeBack
  let s := if n = 0 then s else (s.setDch c (fun d => { d with writeBack := 0 })).emit (.dram c 3 n)
  let d := s.dch c
  match (match d.starved with
    | some k => some (k, true)
    | none => d.byPrio.map (fun k => (k, false))) with
  | some (k, forced) => s.grantClass c k forced
  | none => s.setDch c (fun d => { d with grant := none })

/-- The remainder of a grant that DEBUG ends: at least one burst; how many had been issued is open (R321). -/
def State.preempt (s : State) (c : Fin 16) : State :=
  match (s.dch c).grant with
  | some (k, t, _) =>
    if 10 ≤ k.val ∨ t.bursts = 0 then s
    else
      let rest := t.bursts - Config.freeNat s.free % t.bursts
      { s with free := s.free + 1 }.setDch c (fun d =>
        { d with arb := d.arb.upd k (fun a => { a with txn := some (txnAfter t (t.bursts - rest)), wait := 0 }) })
  | none => s

/-- A DEBUG request preempts (R319, R321); it is refused while debug is locked and from the power-fail signal on. -/
def State.debugReq (s : State) (c : Fin 16) (t : DramTxn) : State :=
  if !s.dchUp c then s
  else if !s.sec.debugUnlocked ∨ s.plp.pfail then s.emit (.accessError .debug)
  else
    let s := (s.preempt c).setDch c (fun d => { d with grant := some (11, t, 0), arb := d.arb.upd 11 (fun a => a.granted false) })
    (s.emit (.dram c 0 11)).runTxn c 11 t ((s.dch c).arb[(11 : Fin 12)]).hold

/-- The remainder of a cut-off DEBUG grant still has its request up, and goes before any other (R321, R322). -/
def State.debugRest (s : State) (c : Fin 16) (t : DramTxn) : State :=
  (s.setDch c (fun d => { d with arb := d.arb.upd 11 (fun a => { a with txn := none }) })).debugReq c t

/-- One round (R320): the previous grant has issued its last burst; requests raised since are up. -/
def State.arbRound (s : State) (c : Fin 16) (raised : List (Fin 12 × DramTxn)) (pause : Option PauseResult) (fixed : Nat) : State :=
  if !s.dchUp c ∨ (s.dch c).overlong then s
  else
    let s := (s.setDch c (fun d => raised.foldl DramCh.raise { d with grant := none })).corrected c fixed
    match pause.filter (s.pauseDue c) with
    | some p =>
      let s := (s.setDch c (fun d => { (d.maint.lose none) with grant := some (10, { bursts := 0, bank := 0, row := 0 }, 0) })).emit
        (.dram c 2 0)
      s.runPause c p
    | none => match ((s.dch c).arb[(11 : Fin 12)]).txn with
      | some t => s.debugRest c t
      | none => s.roundGrant c

/-- ARB_ROUND (R320, R323, R324, R316, R328, R329). -/
def execArbRound (c : Fin 16) (raised : List (Fin 12 × DramTxn)) (pause : Option PauseResult) (corrected : Nat) (s : State) :
    Host.Outcome State Fault Refusal :=
  .next (s.whenLive (fun s => s.arbRound c raised pause corrected))

/-- A per-bank refresh falls due (R321): in a pause it waits for the pause to end. The bank is precharged for it, its check words
written before (R315). -/
def State.refresh (s : State) (c bank : Fin 16) : State :=
  if !s.dchUp c then s
  else ((s.flushCheck c bank).setDch c (fun d => { d.maint with
    grant := d.grant.filter (fun g => g.1 ≠ 10), left := d.left.upd bank (fun _ => false) })).emit (.dram c 1 bank.val)

/-- REFRESH_DUE (R321). -/
def execRefreshDue (c bank : Fin 16) (s : State) : Host.Outcome State Fault Refusal :=
  .next (s.whenLive (fun s => s.refresh c bank))

/-- DEBUG_REQUEST (R321). -/
def execDebugRequest (c : Fin 16) (txn : DramTxn) (s : State) : Host.Outcome State Fault Refusal :=
  .next (s.whenLive (fun s => s.debugReq c txn))

/-- A grant that has issued MAX_HOLD bursts is cut off; the remainder keeps its request up (R322). -/
def State.cutOff (s : State) (c : Fin 16) : State :=
  match (s.dch c).grant with
  | some (k, t, _) =>
    if !(s.dch c).overlong then s
    else
      ((s.setDch c (fun d => { d with
        grant := none
        arb := d.arb.upd k (fun a => { a with
          txn := some (txnAfter t a.hold), wait := 0, cut := true, cutCnt := satInc a.cutCnt }) })).setDram
        (fun d => { d with cuts := d.cuts.upd k (· + 1) })).log 0x3454 0xFF (leBytes 1 c.val ++ leBytes 1 k.val)
  | none => s

/-- GRANT_CUT_OFF (R322). -/
def execGrantCutOff (c : Fin 16) (s : State) : Host.Outcome State Fault Refusal :=
  .next (s.whenLive (fun s => if s.dchUp c then s.cutOff c else s))

/-- A cycle is wanted on a channel: three pauses. -/
def State.wantCycle (s : State) (c : Fin 16) : State :=
  if !s.dchUp c ∨ s.plp.pfail then s
  else s.setDch c (fun d => if d.fullLeft = 0 ∧ d.cycleLeft = 0 then { d with cycleLeft := 3 } else d)

/-- RETRAIN_CYCLE_DUE: only in hardware mode (R328, R331). -/
def execRetrainCycleDue (c : Fin 16) (s : State) : Host.Outcome State Fault Refusal :=
  .next (s.whenLive (fun s => if s.dram.retrainEn ∧ s.param 0x7000 4 = 0 then s.wantCycle c else s))

/-- The channels of a mask. -/
def maskChs (m : BitVec 16) : List (Fin 16) := (List.finRange 16).filter (fun c => m.getLsbD c.val)

/-- RETRAIN_CYCLE: entry 0x4000/0x05 or DRC_RETRAIN.CYCLE (R331). -/
def execRetrainCycle (mask : BitVec 16) (s : State) : Host.Outcome State Fault Refusal :=
  .next (s.whenLive (fun s => (maskChs mask).foldl State.wantCycle s))

def State.wantFull (s : State) (c : Fin 16) : State :=
  if !s.dchUp c ∨ s.plp.pfail then s
  else s.setDch c (fun d => if d.fullLeft = 0 then d.startFull else d)

/-- RETRAIN_FULL: entry 0x4000/0x06 or DRC_RETRAIN.FULL (R329, R331). -/
def execRetrainFull (mask : BitVec 16) (s : State) : Host.Outcome State Fault Refusal :=
  .next (s.whenLive (fun s => (maskChs mask).foldl State.wantFull s))

/-- The junction has moved more than 20 °C since a channel's last cycle with retraining not ordered (R331). -/
def State.driftWarn (s : State) : State :=
  if s.param 0x7000 4 = 0 then s
  else
    let j := s.junction
    (List.finRange 16).foldl (fun s c =>
      let d := s.dch c
      if d.driftWarn ∨ (j - d.cycleTemp).natAbs ≤ 200 then s
      else (s.setDch c (fun d => { d with driftWarn := true })).log 0x3455 0xFF
        (leBytes 1 c.val ++ leBytes 1 (((j - d.cycleTemp) / 10) % 256).toNat)) s

/-! ### Training at start-up (R326, R335) -/

/-- DRAM channel `c` is out of service since an earlier failure. -/
def State.dramOut (s : State) (c : Fin 16) : Bool := s.units.outages.any (fun o => decide (o.1 = 0x3450) && decide (o.2.1 = c.val))

/-- A channel fails training at a start: the degraded layout, or with a second one fatal status. -/
def State.trainingFails (s : State) (c : Fin 16) : State :=
  let s := s.setDch c (fun d => { d with failed := true })
  if s.dram.degraded ∧ s.dramOut c then s
  else
  let s := if s.dramOut c then s else s.outage 0x3450 c.val 0xFF (leBytes 1 c.val ++ leBytes 1 2)
  if 1 < s.dram.failedCount then s.fatal s.portList
  else (s.setDram (fun d => { d with degraded := true })).log 0x3456 0xFF (leBytes 1 c.val)

/-- Training of a channel at a start has ended; a channel that had failed and passes returns to service (R53), but not in the
degraded layout. -/
def State.dramTrained (s : State) (c : Fin 16) (r : DramTraining) : State :=
  if (s.dch c).failed ∨ !(s.phase == .firmware || s.phase == .recovering) then s
  else match r.rate with
    | none => s.trainingFails c
    | some x =>
      let s := s.setDch c (fun d => { d with
        rate := BitVec.ofNat 2 x.val, rd0 := satOf 7 r.rd0, rd1 := satOf 7 r.rd1, wr0 := satOf 7 r.wr0, wr1 := satOf 7 r.wr1
        eye := satOf 8 r.eye, cycleTemp := s.junction })
      let s := if s.dram.degraded then s else s.returned (fun o => decide (o.1 = 0x3450) && decide (o.2.1 = c.val))
      if x = 0 then s else s.log 0x3451 0xFF (leBytes 1 c.val ++ leBytes 2 (dramRate (BitVec.ofNat 2 x.val)))

/-- DRAM_TRAINING_DONE (R326, R335). -/
def execDramTrainingDone (c : Fin 16) (res : DramTraining) (s : State) : Host.Outcome State Fault Refusal :=
  .next (s.whenLive (fun s => s.dramTrained c res))

end Sys2Proof.Machine
end

