-- ==== Sys2Proof/Machine/Bars.lean ====
section
/-! DEFINITION. Chapter 08, the link and the BARs: links (R283, R284, R296), windows and their translation (R289, R290,
R292 to R295), the persistent memory region and the CMB data slots behind BAR2/3 (R260, R265, R266), containment's triggers
(R300 to R303), link IDE (R297, R298). -/

namespace Sys2Proof.Machine

open Sys2Proof

/-! ### What meets a memory request -/

/-- A port's link carries TLPs. -/
def State.linkUp (s : State) (p : Fin 2) : Bool :=
  match s.ports[p].link with
  | .l0 | .l0p | .l1 => true
  | _ => false

/-- A memory request to BAR2/3 or BAR4/5 that is not served: asleep or waking (R461), contained (BAR2/3 only, R302), IDE
required and not Secure (R298). -/
def State.barRefusal (s : State) (p : Fin 2) (bar : Nat) : Option Cpl :=
  if s.asleep then some .ca
  else if s.param 0x2000 4 = 1 ∧ s.ports[p].ide ≠ .secure then some .ur
  else if bar = 2 ∧ s.ports[p].cnt.active then some .ca
  else none

/-- A read of a BAR answers; a write that is refused is discarded. -/
def State.barAnswer (s : State) (p : Fin 2) (isWrite : Bool) (c : Cpl) : State := s.emit (.tlp p (if isWrite then .discarded else c))

/-! ### Windows (R289, R292 to R294) -/

/-- A target in force: reserved values are treated as unmapped. -/
def Xlat.to (x : Xlat) : Nat := if x.target.toNat ≤ 4 then x.target.toNat else 0

/-- The target of a window of BAR2/3 or BAR4/5; window 15 of BAR4/5 is fixed. -/
def PcPort.target (q : PcPort) (bar window : Nat) : Nat :=
  if bar = 2 then (if window < 64 then q.act2[Fin.ofNat 64 window].to else 0)
  else if window = 15 then 11
  else if window < 15 then
    let t := q.act4[Fin.ofNat 16 window].toNat
    if 5 ≤ t ∧ t ≤ 11 then t else 0
  else 0

/-- Bytes of a window. -/
def winSize (bar : Nat) : Nat := if bar = 2 then 33554432 else 1048576

/-- An access to an unmapped window (R292). -/
def State.unmapped (s : State) (p : Fin 2) (bar offset : Nat) (isWrite : Bool) : State :=
  if isWrite then ((s.barAnswer p true .ur).emit (.advisoryUr p)).log 0x4301 (s.portSrc p) (leBytes 1 bar ++ leBytes 4 offset)
  else s.barAnswer p false .ur

/-- Some window of BAR4/5 translates to a content: 5 to 10 as the table of HLK_XLAT4_SHDn numbers them. -/
def PcPort.shows (q : PcPort) (content : Nat) : Bool := (List.range 15).any (fun w => decide (q.target 4 w = content))

/-- A host's request to a content of BAR4/5 (R290): nothing reaches a port whose link is down; it is refused as any BAR4/5 request is,
and unmapped where no window shows the content. -/
def State.hostBar4 (s : State) (p : Fin 2) (content : Nat) (isWrite : Bool) (f : State → State) : State :=
  if !s.linkUp p then s
  else match s.barRefusal p 4 with
    | some c => s.barAnswer p isWrite c
    | none => if s.ports[p].shows content then f s else s.unmapped p 4 ((content - 5) * 1048576) isWrite

/-- A TLP that crosses a window boundary (R294). -/
def State.crosses (s : State) (p : Fin 2) (bar offset : Nat) (isWrite : Bool) : State :=
  (s.setPort p (fun q => { q with urCross := satInc q.urCross })).unmapped p bar offset isWrite

/-- BAR_UNMAPPED_ACCESS (R292). -/
def execBarUnmappedAccess (p : Fin 2) (bar offset : Nat) (isWrite : Bool) (s : State) : Host.Outcome State Fault Refusal :=
  .next (if !s.linkUp p ∨ (bar ≠ 2 ∧ bar ≠ 4) then s
    else match s.barRefusal p bar with
      | some c => s.barAnswer p isWrite c
      | none => if s.live ∧ s.ports[p].target bar (offset / winSize bar) = 0 then s.unmapped p bar offset isWrite else s)

/-- TLP_WINDOW_CROSS (R294). -/
def execTlpWindowCross (p : Fin 2) (bar offset len : Nat) (isWrite : Bool) (s : State) : Host.Outcome State Fault Refusal :=
  .next (if !s.linkUp p ∨ (bar ≠ 2 ∧ bar ≠ 4) then s
    else match s.barRefusal p bar with
      | some c => s.barAnswer p isWrite c
      | none =>
        if s.live ∧ len ≠ 0 ∧ offset / winSize bar ≠ (offset + len - 1) / winSize bar then s.crosses p bar offset isWrite else s)

/-- XLAT_COMMIT (R293). -/
def execXlatCommit (p : Fin 2) (s : State) : Host.Outcome State Fault Refusal :=
  .next (s.whenLive (fun s => s.setPort p PcPort.commit))

/-! ### The persistent memory region (R265, R266) -/

/-- Bytes are written to the region; its contents then differ from the image. -/
def Pmr.write (r : Pmr) (a : Nat) (bs : List Byte) : Pmr := { r with mem := memWrite 0 r.mem a bs, dirty := true }

/-- An access while the region is not ready (R266): event 0x2222. -/
def State.pmrNotReady (s : State) (p : Fin 2) (offset : Nat) (isWrite : Bool) : State :=
  s.log 0x2222 (s.portSrc p) (leBytes 4 offset ++ leBytes 1 (bit isWrite))

/-- The region's address of a BAR2/3 offset, if its window maps it. -/
def State.pmrAddr (s : State) (p : Fin 2) (offset : Nat) : Nat :=
  (s.ports[p].act2[Fin.ofNat 64 (offset / 33554432)]).base.toNat * 33554432 + offset % 33554432

/-- A posted write into the PMR windows. -/
def State.pmrWrite (s : State) (p : Fin 2) (offset : Nat) (bs : List Byte) : State :=
  let r := s.land.pmr[p]
  if bs.length ≠ 0 ∧ offset / 33554432 ≠ (offset + bs.length - 1) / 33554432 then s.crosses p 2 offset true
  else match s.ports[p].target 2 (offset / 33554432) with
    | 0 => s.unmapped p 2 offset true
    | 1 => if r.nrdy then s.pmrNotReady p offset true
      else { s with land := { s.land with pmr := s.land.pmr.upd p (fun r => r.write (s.pmrAddr p offset) bs) } }
    | 4 => s.pmrNotReady p offset true
    | _ => s

/-- PMR_WRITE (R265, R266, R292 to R295). -/
def execPmrWrite (p : Fin 2) (offset : Nat) (bytes : List Byte) (s : State) : Host.Outcome State Fault Refusal :=
  .next (if !s.linkUp p then s
    else match s.barRefusal p 2 with
      | some c => s.barAnswer p true c
      | none => s.whenLive (fun s => s.pmrWrite p offset bytes))

def State.pmrRead (s : State) (p : Fin 2) (offset len : Nat) : State :=
  let r := s.land.pmr[p]
  let ones : State := (s.pmrNotReady p offset false).emit (.tlp p (.ok (List.replicate len 0xFF)))
  if len ≠ 0 ∧ offset / 33554432 ≠ (offset + len - 1) / 33554432 then s.crosses p 2 offset false
  else match s.ports[p].target 2 (offset / 33554432) with
    | 0 => s.unmapped p 2 offset false
    | 1 => if r.nrdy then ones else s.emit (.tlp p (.ok (memRead 0 r.mem (s.pmrAddr p offset) len)))
    | 4 => ones
    | _ => s

/-- PMR_READ (R265, R266, R292 to R295). -/
def execPmrRead (p : Fin 2) (offset len : Nat) (s : State) : Host.Outcome State Fault Refusal :=
  .next (if !s.linkUp p then s
    else match s.barRefusal p 2 with
      | some c => s.barAnswer p false c
      | none => s.whenLive (fun s => s.pmrRead p offset len))

/-! ### CMB data slots (R260, R262, R292) -/

/-- A slot is bound to a line. -/
def CmbPort.bound (c : CmbPort) (k : Nat) : Bool := decide (k < c.slots) && !c.unbound.contains k

/-- The slots that are bound: CMQ_CMB_STAT.BOUND. -/
def CmbPort.boundCount (c : CmbPort) : Nat := c.slots - c.unbound.length

/-- A 512-byte part of a slot is written; parts not written yet stay undefined (R262). -/
def State.slotWrite (s : State) (p : Fin 2) (k : Nat) (sec : Fin 8) (x : Sector) : State :=
  let c := s.land.cmb[p]
  if !c.bound k then
    (s.barAnswer p true .ur).log 0x4302 (s.portSrc p) (leBytes 4 k)
  else
    let old : List Sector := match c.data.get? k with
      | some d => d
      | none => (List.range 8).map (fun i => Config.freeSector (s.free + i))
    let s : State := if c.data.has k then s else { s with free := s.free + 8 }
    { s with land := { s.land with cmb := s.land.cmb.upd p (fun c => { c with data := c.data.put k (old.set sec.val x) }) } }

/-- CMB_SLOT_WRITE (R59, R262, R292). -/
def execCmbSlotWrite (p : Fin 2) (slot : Nat) (sec : Fin 8) (data : Sector) (s : State) : Host.Outcome State Fault Refusal :=
  .next (if !s.linkUp p then s
    else match s.barRefusal p 2 with
      | some c => s.barAnswer p true c
      | none => s.whenLive (fun s => s.slotWrite p slot sec data))

/-! ### Other requests -/

/-- ATOMIC_REQUEST: completed as Unsupported Request (R285). -/
def execAtomicRequest (p : Fin 2) (s : State) : Host.Outcome State Fault Refusal :=
  .next (if s.linkUp p then s.emit (.tlp p .ur) else s)

/-! ### The export area behind its window (R142 to R145) -/

/-- EXPORT_BY_LBA (R144 KIND 1). -/
def execExportByLba (p : Fin 2) (req : ExportReq) (s : State) : Host.Outcome State Fault Refusal :=
  .next (s.whenLive (fun s => s.hostBar4 p 10 true (fun s => s.expRequest p 1 req none)))

/-- EXPORT_BY_PHYSICAL (R144 KIND 2). -/
def execExportByPhysical (p : Fin 2) (req : ExportReq) (s : State) : Host.Outcome State Fault Refusal :=
  .next (s.whenLive (fun s => s.hostBar4 p 10 true (fun s => s.expRequest p 2 req none)))

/-- Corrected codeword bytes 4 to 4179 as the host writes them: the 32 bytes of the pilot field, and the rest (R77, R149). -/
def resolveInput (pilots body : List Byte) : List Byte := (padTo 32 0 pilots).take 32 ++ body

/-- RESOLVE (R144 KIND 3, R149): the corrected pilot field, and corrected codeword bytes 36 to 4179. -/
def execResolve (p : Fin 2) (req : ExportReq) (pilots body : List Byte) (s : State) : Host.Outcome State Fault Refusal :=
  .next (s.whenLive (fun s => s.hostBar4 p 10 true (fun s => s.expRequest p 3 req (some (resolveInput pilots body)))))

/-! ### Links (R283, R284, R296, R308) -/

/-- Full width of a port. -/
def State.fullWidth (s : State) : Nat := if s.dual then 8 else 16

/-- The shield mesh broke before this start: the part is out of service for good and answers only the management bus (R367). -/
def State.outOfService (s : State) : Bool := s.sec.meshBroken && !s.sec.tampered

/-- The link of a port may train: its reset is released and the part is neither off nor in a fault that keeps it down. -/
def State.canTrain (s : State) (p : Fin 2) : Bool :=
  s.portList.contains p && !s.ports[p].perst && !s.outOfService && (match s.phase with
    | .off | .auxReset | .bootFault | .wakeFault | .thermalOff | .flushed | .flushing | .trialFlush | .testScan => false
    | _ => true)

def State.trained (s : State) (p : Fin 2) (rate width : Nat) : State :=
  let s := s.setPort p (fun q => { q with link := .l0, rate := rate, width := width })
  let d := leBytes 1 rate ++ leBytes 1 width
  let s := s.log 0x4100 (s.portSrc p) d
  if rate < 64 ∨ width < s.fullWidth then s.log 0x4102 (s.portSrc p) d else s

/-- LINK_UP (R283, R284, R308). -/
def execLinkUp (p : Fin 2) (rate width : Nat) (s : State) : Host.Outcome State Fault Refusal :=
  .next (if s.canTrain p ∧ !s.linkUp p then s.trained p rate width else s)

def State.setLink (s : State) (p : Fin 2) (l : LinkSt) : State := s.setPort p (fun q => { q with link := l })

/-- The LTR that a function reports, in µs: 1 while it has a command outstanding (R296). -/
def State.ltr (s : State) (p : Fin 2) : Nat :=
  if s.cmq.cmds.any (fun e => decide (e.2.port = p)) then 1 else s.param 0x2000 3

/-- The substate of L1 that a port enters (R296): L1.2 where the host enables it and the LTR reported is at or above its
threshold, else L1.1 where it enables that. The bits of L1 PM Substates Control 1 (0x288) are the standard's: 2 and 3 the ASPM
enables, value and scale of the threshold in ns from bits 16 and 29 (PRESUMED, notes/assumptions/65.md). -/
def State.l1Sub (s : State) (p : Fin 2) : Nat :=
  let w := ((s.ports[p].config.get? 0x288).getD 0)
  let thr := (w.extractLsb' 16 10).toNat * 32 ^ (w.extractLsb' 29 3).toNat
  if w.getLsbD 2 ∧ thr ≤ s.ltr p * 1000 then 2 else if w.getLsbD 3 then 1 else 0

/-- A port enters L1. -/
def State.enterL1 (s : State) (p : Fin 2) : State :=
  let sub := s.l1Sub p
  s.setPort p (fun q => { q with link := .l1, l1sub := sub })

/-- L0P_NARROW (R296): only while entry 0x2000/0x01 allows it. -/
def execL0pNarrow (p : Fin 2) (s : State) : Host.Outcome State Fault Refusal :=
  .next (s.whenLive (fun s => if s.ports[p].link = .l0 ∧ s.param 0x2000 1 = 1 then s.setLink p .l0p else s))

/-- L0P_WIDEN (R296). -/
def execL0pWiden (p : Fin 2) (s : State) : Host.Outcome State Fault Refusal :=
  .next (s.whenLive (fun s => if s.ports[p].link = .l0p then s.setLink p .l0 else s))

/-- Nothing keeps a port out of L1 (R296): no command at work, every submission queue empty. -/
def State.quiet (s : State) (p : Fin 2) : Bool :=
  (s.cmq.cmds.filter (fun e => e.2.port = p && !(e.2.phase == .outstanding))).isEmpty && (s.ctrl p).ready.isEmpty &&
    (s.ctrl p).cqs.all (fun e => e.2.held.isEmpty)

/-- L1_IDLE_EXPIRE (R296). -/
def execL1IdleExpire (p : Fin 2) (s : State) : Host.Outcome State Fault Refusal :=
  .next (s.whenLive (fun s =>
    if (s.ports[p].link = .l0 ∨ s.ports[p].link = .l0p) ∧ s.quiet p then s.enterL1 p else s))

/-- L1_EXIT (R296); the exit from PS3 brings the links back itself. -/
def execL1Exit (p : Fin 2) (s : State) : Host.Outcome State Fault Refusal :=
  .next (s.whenLive (fun s => if s.ports[p].link = .l1 then s.setLink p .l0 else s))

/-! ### Containment's triggers (R300 to R303) -/

/-- A trigger of one port; what waited for lines or locks that containment released goes on. -/
def State.trip (s : State) (p : Fin 2) (trig : Fin 8) : State :=
  let was := s.ports[p].cnt.active
  let s := s.contain p trig
  if s.ports[p].cnt.active && !was then s.resumeAll else s

/-- CONTAIN: HLK_CNT_CTL.CONTAIN (R299, R300 trigger 0). -/
def execContain (p : Fin 2) (s : State) : Host.Outcome State Fault Refusal :=
  .next (s.whenLive (fun s => s.trip p 0))

/-- CONTAIN_BMC: entry 0x2002/p (R300 trigger 1, R311). -/
def execContainBmc (p : Fin 2) (s : State) : Host.Outcome State Fault Refusal :=
  .next (s.whenLive (fun s => s.trip p 1))

/-- A failed host-memory read of a command: trigger 2 or 3, or Data Transfer Error where it is disabled; while contained the
completion is discarded (R300, R302). -/
def State.hostReadFails (s : State) (p : Fin 2) (fseq : Nat) (trig : Fin 8) : State :=
  if s.ports[p].cnt.active then s
  else if s.ports[p].cnt.trigEn.getLsbD trig.val then s.trip p trig
  else match s.cmq.cmds.get? fseq with
    | some c => if c.port = p then (s.quit fseq .dataTransferError).resumeAll else s
    | none => s

/-- POISONED_COMPLETION (R300 trigger 2). -/
def execPoisonedCompletion (p : Fin 2) (fseq : Nat) (s : State) : Host.Outcome State Fault Refusal :=
  .next (s.whenLive (fun s => s.hostReadFails p fseq 2))

/-- COMPLETION_TIMEOUT (R280, R300 trigger 3). -/
def execCompletionTimeout (p : Fin 2) (fseq : Nat) (s : State) : Host.Outcome State Fault Refusal :=
  .next (s.whenLive (fun s => s.hostReadFails p fseq 3))

/-- FATE_TABLE_COMPLETE (R303, R304). -/
def execFateTableComplete (p : Fin 2) (s : State) : Host.Outcome State Fault Refusal :=
  .next (s.whenLive (fun s =>
    if s.ports[p].cnt.active then s.setPort p (fun q => { q with cnt := { q.cnt with fatesValid := true } }) else s))

/-! ### Link IDE (R297) -/

/-- An integrity failure takes the stream to Insecure (R297). -/
def State.ideFails (s : State) (p : Fin 2) : State :=
  if s.ports[p].ide ≠ .secure then s
  else ((s.setPort p (fun q => { q with ide := .insecure })).log 0x5220 (s.portSrc p)).trip p 4

/-- IDE_INTEGRITY_FAILURE (R297, R300 trigger 4). -/
def execIdeIntegrityFailure (p : Fin 2) (s : State) : Host.Outcome State Fault Refusal :=
  .next (s.whenLive (fun s => s.ideFails p))

end Sys2Proof.Machine
end

