-- ==== Sys2Proof/Machine/Sdma.lean ====
section
/-! DEFINITION. Chapter 10: the system DMA: spaces and ranges (R337 to R339), descriptors and their operations (R340 to R344),
errors and messages (R345 to R348), what meets a descriptor (R350). -/

namespace Sys2Proof.Machine

open Sys2Proof

def State.sdc (s : State) (ch : Fin 16) : SdmCh := s.sdm.chs[ch]
def State.setSdc (s : State) (ch : Fin 16) (f : SdmCh → SdmCh) : State := { s with sdm := { s.sdm with chs := s.sdm.chs.upd ch f } }

/-! ### Channels, spaces and ranges (R337 to R339) -/

def lent (ch : Fin 16) : Bool := decide (12 ≤ ch.val)

/-- The port whose function a lent channel serves. -/
def State.ownerOf (s : State) (ch : Fin 16) : Fin 2 := if s.dual ∧ 14 ≤ ch.val then 1 else 0

/-- Lent channels are enabled by entry 0x4100/0x00; while it is 0 their pages ignore writes (R337). -/
def State.sdcPage (s : State) (ch : Fin 16) : Bool := !lent ch || decide (s.param 0x4100 0 = 1)

/-- A channel may take a descriptor: a lent channel issues no TLP while its function is contained (R350). -/
def State.sdcOpen (s : State) (ch : Fin 16) : Bool := s.sdcPage ch && !(lent ch && s.ports[s.ownerOf ch].cnt.active)

/-- SHARE as a channel stores it: a lent channel's at most entry 0x4100/0x01, with 64 stored as 0 (R349). -/
def State.shareFor (s : State) (ch : Fin 16) (x : BitVec 6) : BitVec 6 :=
  let want := if x = 0 then 64 else x.toNat
  BitVec.ofNat 6 (if lent ch then min want (s.param 0x4100 1) else want)

/-- SHARE of every lent channel is held at or below entry 0x4100/0x01 (R349). -/
def State.holdShares (s : State) : State :=
  [12, 13, 14, 15].foldl (fun s ch => s.setSdc ch (fun c => { c with share := s.shareFor ch c.share })) s

/-- A channel may use a space (R338). -/
def State.spaceOk (s : State) (ch : Fin 16) (sp : BitVec 2) : Bool :=
  if lent ch then decide (sp = 3) || (if s.ownerOf ch = 0 then decide (sp = 1) else decide (sp = 2))
  else decide (sp = 0) || decide (sp = 1) || (decide (sp = 2) && s.dual)

/-- A ring lies where R340 puts it: a lent channel's in host memory of its own port. Another selector names a space that the
channel may not use (R338), and no descriptor of such a ring is written back. -/
def State.ringOk (s : State) (ch : Fin 16) : Bool :=
  let sp := (s.sdc ch).space
  decide (sp ≠ 3) && s.spaceOk ch sp

/-- Slots of a CMB range that are bound. -/
def CmbPort.rangeBound (c : CmbPort) (a n : Nat) : Bool :=
  (List.range ((a + n - 1) / 4096 - a / 4096 + 1)).all (fun i => c.bound (a / 4096 + i))

/-- The place in its target that a BAR2/3 offset has. -/
def State.barPlace (s : State) (p : Fin 2) (a : Nat) : Nat :=
  (s.ports[p].act2[Fin.ofNat 64 (a / 33554432)]).base.toNat * 33554432 + a % 33554432

/-- Why a range is invalid (R339), if it is. -/
def State.rangeBad (s : State) (ch : Fin 16) (sp : BitVec 2) (a n : Nat) (isWrite : Bool) : Option Nat :=
  if !s.spaceOk ch sp then some 0x11
  else if sp = 0 then
    match s.mappedRegion a n with
    | none => some 0x11
    | some r => if r.2.2 = 2 ∨ (isWrite ∧ r.2.2 = 1) then some 0x12 else none
  else if sp = 3 then
    let p := s.ownerOf ch
    if 2147483648 < a + n ∨ a / 33554432 ≠ (a + n - 1) / 33554432 then some 0x11
    else match s.ports[p].target 2 (a / 33554432) with
      | 1 => none
      | 3 => if s.land.cmb[p].rangeBound (s.barPlace p a) n then none else some 0x11
      | _ => some 0x11
  else if 2 ^ 64 < a + n then some 0x11 else none

/-- SWAP is allowed (R342). -/
def State.swapOk (s : State) (ch : Fin 16) (d : Desc) : Bool :=
  s.service && decide (ch.val < 12) && decide (d.op = 0) && decide (d.count.toNat % 4 = 0) && decide (d.src.toNat % 4 = 0) &&
    decide (d.dst.toNat % 4 = 0)

/-- Source and destination of a copy overlap in one space. -/
def descOverlaps (d : Desc) : Bool :=
  decide (d.srcSp = d.dstSp) && decide (d.src.toNat < d.dst.toNat + d.count.toNat) &&
    decide (d.dst.toNat < d.src.toNat + d.count.toNat)

/-- The check of a descriptor before it runs: the CODE it fails with, if it does (R339, R342, R347). -/
def State.descBad (s : State) (ch : Fin 16) (d : Desc) : Option Nat :=
  let n := d.count.toNat
  if !s.ringOk ch then some 0x11
  else if n = 0 ∨ d.op = 3 ∨ d.swap = 3 ∨ (d.swap ≠ 0 ∧ !s.swapOk ch d) ∨ (d.op = 0 ∧ descOverlaps d) then some 0x10
  else
    let src := if d.op = 1 then none else s.rangeBad ch d.srcSp d.src.toNat n false
    let dst := s.rangeBad ch d.dstSp d.dst.toNat n (d.op ≠ 2)
    if src = some 0x11 ∨ dst = some 0x11 then some 0x11
    else if src = some 0x12 ∨ dst = some 0x12 then some 0x12
    else none

/-! ### Bytes that leave a channel -/

/-- One byte of a sector. -/
def setSectorByte (x : Sector) (i : Nat) (b : Byte) : Sector :=
  (x &&& ~~~((0xFF : BitVec 4096) <<< (8 * i))) ||| (b.setWidth 4096 <<< (8 * i))

/-- Bytes are written into the slots of a CMB data area. -/
def CmbPort.putBytes (c : CmbPort) (blank : Nat → List Sector) (a : Nat) : List Byte → CmbPort
  | [] => c
  | b :: bs =>
    let k := a / 4096
    let old := (c.data.get? k).getD (blank k)
    let i := a % 4096 / 512
    CmbPort.putBytes { c with data := c.data.put k (old.set i (setSectorByte ((old[i]?).getD 0) (a % 512) b)) } blank (a + 1) bs

/-- Bytes are written into slots of a port's CMB data area, `x` bytes into it. -/
def State.cmbWrite (s : State) (p : Fin 2) (x : Nat) (bs : List Byte) : State :=
  let blank (k : Nat) := (List.range 8).map (fun i => Config.freeSector (s.free + 8 * k + i))
  { s with free := s.free + 8 * s.land.cmb[p].slots, land := { s.land with cmb := s.land.cmb.upd p (fun c => c.putBytes blank x bs) } }

/-- Bytes are written into a persistent memory region. -/
def State.pmrPut (s : State) (p : Fin 2) (x : Nat) (bs : List Byte) : State :=
  { s with land := { s.land with pmr := s.land.pmr.upd p (fun r => r.write x bs) } }

/-- Bytes are written over a line's sectors. -/
def putSectors (data : List Sector) (o : Nat) : List Byte → List Sector
  | [] => data
  | b :: bs => putSectors (data.set (o / 512) (setSectorByte ((data[o / 512]?).getD 0) (o % 512) b)) (o + 1) bs

/-- The slot of a port to which line `n` is bound. -/
def Landing.slotOfLine (l : Landing) (p : Fin 2) (n : Nat) : Option Nat :=
  match (l.cmb[p]).moved.find? (fun e => decide (e.2 = n) && decide (l.slotBound p e.1 = some n)) with
  | some e => some e.1
  | none =>
    let k := n - slotLine p.val 0
    if slotLine p.val 0 ≤ n ∧ l.slotBound p k = some n then some k else none

/-- Bytes are written into line `n` of the landing buffer: what the line holds takes them (R47, R55, R260, R265). -/
def State.lineWrite (s : State) (n o : Nat) (bs : List Byte) : State :=
  if s.land.lines.has n then
    { s with land := { s.land with lines := s.land.lines.mod n (fun l =>
      { l with data := putSectors (l.data ++ List.replicate (8 - l.data.length) 0) o bs }) } }
  else match s.land.slotOfLine 0 n, s.land.slotOfLine 1 n with
    | some k, _ => s.cmbWrite 0 (4096 * k + o) bs
    | none, some k => s.cmbWrite 1 (4096 * k + o) bs
    | none, none =>
      if s.land.pmrHolds 0 n then s.pmrPut 0 (4096 * (n - pmrLine 0 0) + o) bs
      else if s.land.pmrHolds 1 n then s.pmrPut 1 (4096 * (n - pmrLine 1 0) + o) bs
      else { s with sdm := { s.sdm with mem := memWrite 0 s.sdm.mem (landingBase + 4096 * n + o) bs } }

/-- Bytes at internal addresses: those of the landing buffer reach its lines, 4 KiB unit by unit; the others are held by address
(DESIGN CHOICE, notes/assumptions/41.md). -/
def State.memPut (s : State) (a : Nat) (bs : List Byte) : Nat → State
  | 0 => s
  | fuel + 1 =>
    if bs = [] then s
    else
      let o := (a - landingBase) % 4096
      let n := (a - landingBase) / 4096
      if a < landingBase ∨ lineCount ≤ n then { s with sdm := { s.sdm with mem := memWrite 0 s.sdm.mem a bs } }
      else (s.lineWrite n o (bs.take (4096 - o))).memPut (a + (4096 - o)) (bs.drop (4096 - o)) fuel

/-- Bytes reach a destination. -/
def State.sdmWrite (s : State) (ch : Fin 16) (sp : BitVec 2) (a : Nat) (bs : List Byte) : State :=
  if sp = 0 then s.memPut a bs (bs.length / 4096 + 2)
  else if sp = 1 then s.emit (.dmaHost 0 a bs)
  else if sp = 2 then s.emit (.dmaHost 1 a bs)
  else
    let p := s.ownerOf ch
    let x := s.barPlace p a
    if s.ports[p].target 2 (a / 33554432) = 1 then s.pmrPut p x bs else s.cmbWrite p x bs

/-- Undefined bytes. -/
def State.freeBytes (s : State) (n : Nat) : List Byte := (List.range n).map (fun i => BitVec.ofNat 8 (Config.freeNat (s.free + i)))

/-- The descriptor as it is written back (R340). -/
def descBytes (d : Desc) (code count result : Nat) : List Byte :=
  leBytes 4 (2 * bit (decide (0x10 ≤ code)) + 4 * d.op.toNat + 16 * bit d.irq + 32 * d.swap.toNat + 256 * code +
    65536 * d.srcSp.toNat + 262144 * d.dstSp.toNat) ++
  leBytes 4 count ++ leBytes 8 d.src.toNat ++ leBytes 8 d.dst.toNat ++ leBytes 4 result ++ leBytes 4 d.tag.toNat

/-- The whole descriptor is written back to the ring in one write (R343 step 4). -/
def State.writeBackDesc (s : State) (ch : Fin 16) (d : Desc) (code count result : Nat) : State :=
  let c := s.sdc ch
  let a := c.base.toNat + 32 * c.head.toNat
  if s.ringOk ch then s.sdmWrite ch c.space a (descBytes d code count result) else s

/-- A message of a status bit that has risen (R348): a core, or MSI-X of the owning function. -/
def State.sdmMessage (s : State) (ch : Fin 16) : State :=
  let v := (s.sdc ch).vec.toNat
  if lent ch then s.emit (.msix (s.ownerOf ch) v) else s.emit (.coreMsg (v % 32))

/-- The place after HEAD: after descriptor SIZE − 1 comes descriptor 0 (R340). -/
def SdmCh.nextHead (c : SdmCh) : BitVec 12 := BitVec.ofNat 12 ((c.head.toNat + 1) % max 1 c.size.toNat)

/-- A descriptor ends: written back, counted, reported; after an error the channel halts with HEAD at it (R343, R346). -/
def State.sdmEnd (s : State) (ch : Fin 16) (d : Desc) (code count result : Nat) : State :=
  let s := s.writeBackDesc ch d code count result
  let c := s.sdc ch
  if 0x10 ≤ code then
    let rise := !c.err && c.errIe
    let s := s.setSdc ch (fun c => { c with
      state := .halted, err := true, code := BitVec.ofNat 8 code, desc := some d, left := BitVec.ofNat 32 count })
    let s := if rise then s.sdmMessage ch else s
    if lent ch then
      ({ s with sdm := { s.sdm with lentErrors := s.sdm.lentErrors + 1 } }).log 0x4310 (s.portSrc (s.ownerOf ch))
        (leBytes 1 ch.val ++ leBytes 1 code ++ leBytes 2 c.head.toNat)
    else s
  else
    let rise := d.irq && !c.end_ && c.endIe
    let s := s.setSdc ch (fun c => { c with
      state := .idle, end_ := c.end_ || d.irq, desc := none, left := 0, head := c.nextHead
      result := BitVec.ofNat 32 result, bytes := satOf 32 (c.bytes.toNat + d.count.toNat) })
    if rise then s.sdmMessage ch else s

/-- The descriptor at HEAD has been read (R343 steps 1 and 2); an invalid one fails before any beat. -/
def State.sdmRead (s : State) (ch : Fin 16) (d : Desc) : State :=
  if !d.own then s.setSdc ch (fun c => { c with state := .idle, desc := none })
  else match s.descBad ch d with
    | some code => s.sdmEnd ch d code d.count.toNat 0
    | none => s.setSdc ch (fun c => { c with state := .running, desc := some d, phase := .fetched, left := d.count })

/-- SDMA_DOORBELL (R343). -/
def execSdmaDoorbell (ch : Fin 16) (d : Desc) (s : State) : Host.Outcome State Fault Refusal :=
  .next (s.whenLive (fun s =>
    let c := s.sdc ch
    if c.en ∧ s.sdcOpen ch ∧ c.state = .idle then s.sdmRead ch d else s))

/-- RUN starts a channel, or resumes it after a halt once ERR is clear: past a failed descriptor it moves to the next one
(R346). -/
def State.sdmRun (s : State) (ch : Fin 16) (d : Desc) : State :=
  let c := s.sdc ch
  if !c.en ∨ !s.sdcOpen ch then s
  else match c.state with
    | .idle => s.sdmRead ch d
    | .halted => if c.err then s
        else (s.setSdc ch (fun c => { c with head := if c.desc.isSome then c.nextHead else c.head, desc := none })).sdmRead ch d
    | _ => s

/-- SDMA_RUN (R346). -/
def execSdmaRun (ch : Fin 16) (d : Desc) (s : State) : Host.Outcome State Fault Refusal :=
  .next (s.whenLive (fun s => s.sdmRun ch d))

/-- STOP: the descriptor in progress ends with STOPPED, and the channel halts (R350). -/
def State.sdmStop (s : State) (ch : Fin 16) : State :=
  let c := s.sdc ch
  match c.state, c.desc with
  | .running, some d => s.sdmEnd ch d 0x31 c.left.toNat 0
  | .idle, _ => s.setSdc ch (fun c => { c with state := .halted })
  | _, _ => s

/-- SDMA_STOP (R350). -/
def execSdmaStop (ch : Fin 16) (s : State) : Host.Outcome State Fault Refusal :=
  .next (s.whenLive (fun s => if s.sdcPage ch then s.sdmStop ch else s))

/-- SDMA_DISABLE: EN is cleared, which stops the channel as STOP does. -/
def execSdmaDisable (ch : Fin 16) (s : State) : Host.Outcome State Fault Refusal :=
  .next (s.whenLive (fun s =>
    if s.sdcPage ch then (s.sdmStop ch).setSdc ch (fun c => { c with en := false, state := .disabled, desc := none }) else s))

/-! ### Operations (R341, R342, R344) -/

/-- The port whose host memory a space is. -/
def hostPort (sp : BitVec 2) : Option (Fin 2) := if sp = 1 then some 0 else if sp = 2 then some 1 else none

/-- A space is host memory of a contained port (R350). -/
def State.spContained (s : State) (sp : BitVec 2) : Bool := match hostPort sp with
  | some p => s.ports[p].cnt.active
  | none => false

/-- The descriptor uses host memory of a contained port (R350). -/
def State.descContained (s : State) (d : Desc) : Bool := s.spContained d.dstSp || (decide (d.op ≠ 1) && s.spContained d.srcSp)

/-- The descriptor has a range in host memory. -/
def descHost (d : Desc) : Bool := (hostPort d.dstSp).isSome || (decide (d.op ≠ 1) && (hostPort d.srcSp).isSome)

/-- A descriptor that is to run its operation `op`; from the power-fail signal no beat to host memory is issued (R239, R350). -/
def State.onDesc (s : State) (ch : Fin 16) (op : BitVec 2) (f : Desc → State → State) : State :=
  let c := s.sdc ch
  match c.desc with
  | some d =>
    if c.state = .running ∧ c.phase = .fetched ∧ d.op = op then
      (if s.descContained d then s.sdmEnd ch d 0x30 d.count.toNat 0
       else if descHost d && !s.readsGo then s
       else f d s)
    else s
  | none => s

/-- The bytes after SWAP (R340). -/
def swapBytes (sw : BitVec 2) : List Byte → List Byte
  | a :: b :: c :: d :: xs => (if sw = 1 then [d, c, b, a] else if sw = 2 then [c, d, a, b] else [a, b, c, d]) ++ swapBytes sw xs
  | xs => xs

/-- Every beat of a descriptor has been issued. -/
def State.sdmBeats (s : State) (ch : Fin 16) (d : Desc) (bs : List Byte) : State :=
  (s.sdmWrite ch d.dstSp d.dst.toNat bs).setSdc ch (fun c => { c with phase := .beats, left := 0 })

/-- SDMA_COPY (R341, R342, R345). -/
def execSdmaCopy (ch : Fin 16) (src : List Byte) (s : State) : Host.Outcome State Fault Refusal :=
  .next (s.whenLive (fun s => s.onDesc ch 0 (fun d s =>
    if src.length = d.count.toNat then s.sdmBeats ch d (swapBytes d.swap src) else s)))

/-- The bytes of a fill: address `a` gets pattern byte a mod 8. -/
def fillBytes (d : Desc) : List Byte :=
  let pat := leBytes 8 d.src.toNat
  (List.range d.count.toNat).map (fun i => (pat[(d.dst.toNat + i) % 8]?).getD 0)

/-- SDMA_FILL (R341). -/
def execSdmaFill (ch : Fin 16) (s : State) : Host.Outcome State Fault Refusal :=
  .next (s.whenLive (fun s => s.onDesc ch 1 (fun d s => s.sdmBeats ch d (fillBytes d))))

/-- Offset of the first byte that differs. -/
def firstDiff (a b : List Byte) : Option Nat := (List.zip a b).findIdx? (fun x => x.1 ≠ x.2)

/-- A compare ends without a read-back; where it finds a difference, how many bytes had not been issued is open (R345). -/
def State.sdmCompare (s : State) (ch : Fin 16) (d : Desc) (a b : List Byte) : State :=
  match firstDiff a b with
  | none => s.sdmEnd ch d 0 0 0xFFFFFFFF
  | some i => { s with free := s.free + 1 }.sdmEnd ch d 1 (Config.freeNat s.free % (d.count.toNat - i)) i

/-- SDMA_COMPARE (R341); then the next descriptor is read. -/
def execSdmaCompare (ch : Fin 16) (a b : List Byte) (next : Desc) (s : State) : Host.Outcome State Fault Refusal :=
  .next (s.whenLive (fun s => s.onDesc ch 2 (fun d s =>
    if a.length = d.count.toNat ∧ b.length = d.count.toNat then (s.sdmCompare ch d a b).sdmRead ch next else s)))

/-- The 4 KiB units that `n` bytes from DRAM offset `a` lie in, each with the offset of its last byte written. -/
def lastInUnits (a n : Nat) : List (Nat × Nat) :=
  if n = 0 then []
  else (List.range ((a + n - 1) / 4096 - a / 4096 + 1)).map (fun i =>
    let u := a / 4096 + i
    (u, min (a + n - 1) (u * 4096 + 4095) % 4096))

/-- The last written 32-byte burst on each DRAM channel (R317) that a run of units covers; a later unit replaces an earlier one
of its channel. -/
def lastBursts (us : List (Nat × Nat)) : AMap Nat :=
  us.foldl (fun (m : AMap Nat) u => m.put (u.1 % 16) (landingBase + u.1 * 4096 + u.2 / 32 * 32)) []

/-- The bursts that the read-backs of a descriptor read, by DRAM channel (R344). -/
def State.descBursts (s : State) (ch : Fin 16) (d : Desc) : AMap Nat :=
  let a := d.dst.toNat
  let n := d.count.toNat
  if d.dstSp = 0 then (if landingBase ≤ a then lastBursts (lastInUnits (a - landingBase) n) else [])
  else if d.dstSp = 3 then
    let p := s.ownerOf ch
    let x := s.barPlace p a
    if s.ports[p].target 2 (a / 33554432) = 1 then lastBursts (lastInUnits (pmrLine p.val 0 * 4096 + x) n)
    else lastBursts ((lastInUnits x n).filterMap (fun u => (s.land.slotBound p u.1).map (fun l => (l, u.2))))
  else []

/-- SDMA_LAST_BEAT_ACK: the read-backs are issued (R344); one to a contained port's host memory cannot be (R350). -/
def State.sdmAck (s : State) (ch : Fin 16) : State :=
  let c := s.sdc ch
  match c.desc with
  | some d =>
    if c.state ≠ .running ∨ c.phase ≠ .beats then s
    else if s.spContained d.dstSp then s.sdmEnd ch d 0x30 0 0
    else
      let s := s.setSdc ch (fun c => { c with phase := .acked })
      match hostPort d.dstSp with
      | some _ =>
        let k := min 4 d.count.toNat
        s.emit (.dmaCheck d.dstSp.toNat (d.dst.toNat + d.count.toNat - k) k)
      | none =>
        if d.dstSp = 0 ∧ d.dst.toNat < landingBase then s.emit (.dmaCheck 0 ((d.dst.toNat + d.count.toNat - 1) / 16 * 16) 16)
        else s.emits ((s.descBursts ch d).map (fun e => Output.readBack (Fin.ofNat 16 e.1) e.2))
  | none => s

def execSdmaLastBeatAck (ch : Fin 16) (s : State) : Host.Outcome State Fault Refusal :=
  .next (s.whenLive (fun s => s.sdmAck ch))

/-- The read-backs have returned (R343, R344): the descriptor completes and the next one is read, or fails with RB_ERR, or with
CONTAINED where its port was contained meanwhile. -/
def State.sdmReturned (s : State) (ch : Fin 16) (ok : Bool) (next : Desc) : State :=
  let c := s.sdc ch
  match c.desc with
  | some d =>
    if c.state = .running ∧ c.phase = .acked then
      (if s.spContained d.dstSp then s.sdmEnd ch d 0x30 0 0
       else if ok then (s.sdmEnd ch d 0 0 0).sdmRead ch next
       else s.sdmEnd ch d 0x22 0 0)
    else s
  | none => s

/-- SDMA_READBACK_RETURN (R343, R344, R348). -/
def execSdmaReadbackReturn (ch : Fin 16) (ok : Bool) (next : Desc) (s : State) : Host.Outcome State Fault Refusal :=
  .next (s.whenLive (fun s => s.sdmReturned ch ok next))

/-! ### Beats that fail (R345, R346) -/

/-- A beat is answered with an error: no further beat, no read-back. After a write-beat error the whole destination is
undefined; after a source error the bytes that had been issued are (their values are not given). -/
def State.sdmBeatError (s : State) (ch : Fin 16) (isWrite : Bool) (notIssued : Nat) : State :=
  let c := s.sdc ch
  match c.desc with
  | some d =>
    let n := d.count.toNat
    let late := decide (c.phase = .beats)
    let left := if late then 0 else min notIssued n
    if c.state ≠ .running ∨ c.phase = .acked ∨ c.phase = .writtenBack then s
    else if isWrite then
      if d.op = 2 ∨ (hostPort d.dstSp).isSome then s
      else ({ s with free := s.free + n }.sdmWrite ch d.dstSp d.dst.toNat (s.freeBytes n)).sdmEnd ch d 0x21 left 0
    else if late ∨ d.op = 1 then s
    else if d.op = 2 then s.sdmEnd ch d 0x20 left 0
    else ({ s with free := s.free + (n - left) }.sdmWrite ch d.dstSp d.dst.toNat (s.freeBytes (n - left))).sdmEnd ch d 0x20 left 0
  | none => s

/-- SDMA_BEAT_ERROR (R345, R346). -/
def execSdmaBeatError (ch : Fin 16) (isWrite : Bool) (notIssued : Nat) (s : State) : Host.Outcome State Fault Refusal :=
  .next (s.whenLive (fun s => s.sdmBeatError ch isWrite notIssued))

end Sys2Proof.Machine
end

