-- ==== Sys2Proof/Machine/Vault.lean ====
section
/-! DEFINITION. Chapter 11, the key vault (R356 to R363), tamper alarms (R364 to R368), the entropy source (R355) and the
lanes' known-answer tests (R370). -/

namespace Sys2Proof.Machine

open Sys2Proof

def State.setPage (s : State) (pg : Fin 16) (f : VaultPage → VaultPage) : State :=
  { s with vault := { s.vault with pages := s.vault.pages.upd pg f } }

/-! ### Admission (R357, R358, R363) -/

/-- A page admits an initiator (R357). -/
def State.admits (s : State) (pg : Fin 16) : Initiator → Bool
  | .core c =>
    if pg.val = 0 then decide (30 ≤ c.val)
    else if pg.val = 1 then decide (c.val < 24)
    else if pg.val = 3 then decide (c.val = 29)
    else if 4 ≤ pg.val then decide (30 ≤ c.val) && decide (s.vault.context = pg.val)
    else false
  | .host p => decide (pg.val = 2) && (if s.dual then decide (s.vault.owner.toNat = p.val + 1) else decide (p = 0))
  | _ => false

/-- An access that the page refuses ends with an access error, to a host as a Completer Abort; the refusal is counted
and event 0x5301 written (R358). -/
def State.refuse (s : State) (pg : Fin 16) (ini : Initiator) : State :=
  let s := s.emit (match ini with
    | .host p => .tlp p .ca
    | i => .accessError i)
  (s.setPage pg (fun g => { g with refused := g.refused + 1 })).log 0x5301 0x30
    (leBytes 1 pg.val ++ leBytes 2 (Config.initiatorId ini))

/-- An access reaches its page: a host's first meets what any BAR4/5 request meets. -/
def State.pageAccess (s : State) (pg : Fin 16) (ini : Initiator) (isWrite : Bool) (f : State → State) : State :=
  match ini with
  | .host p => s.hostBar4 p 7 isWrite (fun s => if s.admits pg ini then f s else s.refuse pg ini)
  | _ => if s.admits pg ini then f s else s.refuse pg ini

/-- A write to a page. -/
def State.onPage (s : State) (pg : Fin 16) (ini : Initiator) (f : State → State) : State := s.pageAccess pg ini true f

/-! ### Operations (R356, R360 to R362) -/

/-- Keys are erased and loads refused: after a tamper alarm or a failure of the pair (R366, R368). -/
def Security.keyless (k : Security) : Bool := k.tampered || k.pairFail

/-- Why a GO ends at once, if it does: CODE of R362. -/
def State.goCode (s : State) (pg : Fin 16) (op : BitVec 3) (slot : Fin 4) : Option Nat :=
  let g := s.vault.pages[pg]
  if g.busy ∨ op = 0 ∨ 3 < op.toNat then some 2
  else if s.sec.keyless then some 5
  else if !g.slots[slot].valid then some 1
  else if op = 3 ∧ g.exhausted then some 4
  else if op = 3 ∧ g.spent then some 3
  else none

/-- A block of four words, word 0 first (KVC_DIN: first byte in [31:24]). -/
def blockOf (w : Tbl 4 (BitVec 32)) : BitVec 128 := w[0] ++ w[1] ++ w[2] ++ w[3]

def wordsOf (b : BitVec 128) : Tbl 4 (BitVec 32) :=
  #v[b.extractLsb' 96 32, b.extractLsb' 64 32, b.extractLsb' 32 32, b.extractLsb' 0 32]

/-- The block that an operation works on: DIN, or nonce and counter, both big-endian (R360, R361). -/
def VaultPage.block (g : VaultPage) (op : BitVec 3) : BitVec 128 := if op = 3 then g.nonce ++ g.ctr else blockOf g.din

/-- KVC_CTL.GO: the operation starts on what the page holds now, DOUT is cleared; or it ends with its CODE and changes nothing else
(R360). -/
def State.go (s : State) (pg : Fin 16) (op : BitVec 3) (slot : Fin 4) : State :=
  match s.goCode pg op slot with
  | some c => s.setPage pg (fun g => { g with done := true, code := BitVec.ofNat 8 c })
  | none => s.setPage pg (fun g => { g with
      op := op, slot := BitVec.ofNat 2 slot.val, busy := true, run := op, runSlot := slot, input := g.block op
      dout := Vector.replicate 4 0 })

/-- VAULT_ENCRYPT (R356, R360). -/
def execVaultEncrypt (pg : Fin 16) (ini : Initiator) (slot : Fin 4) (s : State) : Host.Outcome State Fault Refusal :=
  .next (s.whenLive (fun s => s.onPage pg ini (fun s => s.go pg 1 slot)))

/-- VAULT_DECRYPT (R356, R360). -/
def execVaultDecrypt (pg : Fin 16) (ini : Initiator) (slot : Fin 4) (s : State) : Host.Outcome State Fault Refusal :=
  .next (s.whenLive (fun s => s.onPage pg ini (fun s => s.go pg 2 slot)))

/-- VAULT_KEYSTREAM (R361, R362). -/
def execVaultKeystream (pg : Fin 16) (ini : Initiator) (slot : Fin 4) (s : State) : Host.Outcome State Fault Refusal :=
  .next (s.whenLive (fun s => s.onPage pg ini (fun s => s.go pg 3 slot)))

/-- The key words of a slot: four for AES-128, eight for AES-256 (R359). -/
def VaultSlot.key (k : VaultSlot) : List (BitVec 32) := k.words.toList.take (if k.len = 1 then 4 else 8)

/-- The block that the operation gives: decryption for OP 2, encryption for OP 1 and for the keystream (R360, R361). -/
def VaultPage.result (g : VaultPage) : BitVec 128 := Config.aes g.slots[g.runSlot].key (g.run != 2) g.input

/-- The counter after a keystream block: it holds its highest value at the limit (R362). -/
def VaultPage.counted (g : VaultPage) : VaultPage :=
  if g.run ≠ 3 then g
  else if g.ctr = BitVec.allOnes 32 then { g with spent := true }
  else { g with ctr := g.ctr + 1 }

/-- The engine finishes a page's block; a key that went meanwhile leaves the result undefined (DESIGN CHOICE,
notes/assumptions/20.md). -/
def State.blockDone (s : State) (pg : Fin 16) : State :=
  let g := s.vault.pages[pg]
  if !g.busy then s
  else
    let held := g.slots[g.runSlot].valid
    let b : BitVec 128 := if held then g.result else BitVec.ofNat 128 (Config.freeNat s.free)
    let s : State := if held then s else { s with free := s.free + 1 }
    s.setPage pg (fun g => { g.counted with busy := false, done := true, code := 0, dout := wordsOf b })

/-- VAULT_BLOCK_DONE (R356, R360 to R362). -/
def execVaultBlockDone (pg : Fin 16) (s : State) : Host.Outcome State Fault Refusal :=
  .next (s.whenLive (fun s => s.blockDone pg))

/-- The nonce advances, and is persisted when bits [19:0] of the result are 0; it refuses to wrap (R361). -/
def VaultPage.next (g : VaultPage) : VaultPage :=
  if g.nonce = BitVec.allOnes 96 then { g with exhausted := true }
  else
    let n := g.nonce + 1
    { g with nonce := n, ctr := 0, spent := false, nonceP := if n.extractLsb' 0 20 = 0 then n else g.nonceP }

/-- NONCE_NEXT (R361). -/
def execNonceNext (pg : Fin 16) (ini : Initiator) (s : State) : Host.Outcome State Fault Refusal :=
  .next (s.whenLive (fun s => s.onPage pg ini (fun s => s.setPage pg VaultPage.next)))

/-! ### Key slots (R359) -/

def VaultPage.setSlot (g : VaultPage) (n : Fin 4) (f : VaultSlot → VaultSlot) : VaultPage := { g with slots := g.slots.upd n f }

/-- A key word is written: VALID clears; word 3 of AES-128 and word 7 of AES-256 complete loading (R359). -/
def VaultSlot.load (k : VaultSlot) (word : Fin 8) (v : BitVec 32) : VaultSlot :=
  { k with
    words := k.words.upd word (fun _ => v), valid := false
    expanding := (k.len == 1 && word.val == 3) || (k.len == 2 && word.val == 7) }

def State.keyWord (s : State) (pg : Fin 16) (slot : Fin 4) (word : Fin 8) (v : BitVec 32) : State :=
  if s.sec.keyless then s.setPage pg (fun g => { g with done := true, code := 5 })
  else s.setPage pg (fun g => g.setSlot slot (fun k => k.load word v))

/-- KEY_WORD_WRITE (R359, R366). -/
def execKeyWordWrite (pg : Fin 16) (ini : Initiator) (slot : Fin 4) (word : Fin 8) (value : BitVec 32) (s : State) :
    Host.Outcome State Fault Refusal :=
  .next (s.whenLive (fun s => s.onPage pg ini (fun s => s.keyWord pg slot word value)))

/-- KEY_EXPANDED (R356, R359). -/
def execKeyExpanded (pg : Fin 16) (slot : Fin 4) (s : State) : Host.Outcome State Fault Refusal :=
  .next (s.whenLive (fun s => s.setPage pg (fun g => g.setSlot slot (fun k =>
    if k.expanding then { k with expanding := false, valid := true } else k))))

/-- KEY_SLOT_CLEAR (R359): the slot is emptied; LEN stays. -/
def execKeySlotClear (pg : Fin 16) (ini : Initiator) (slot : Fin 4) (s : State) : Host.Outcome State Fault Refusal :=
  .next (s.whenLive (fun s => s.onPage pg ini (fun s => s.setPage pg (fun g => g.setSlot slot (fun k => { len := k.len })))))

/-! ### The claim of page 2 (R363) -/

/-- A claim ends: the page's slots and DOUT are cleared. -/
def State.endClaim (s : State) : State :=
  let s := s.setPage 2 (fun g => { g with slots := Vector.replicate 4 {}, dout := Vector.replicate 4 0 })
  { s with vault := { s.vault with owner := 0 } }

/-- KVC_CLAIM.CLAIM: while OWNER reads 0, or from the function that page 2 serves already; otherwise refused. -/
def State.claim (s : State) (p : Fin 2) : State :=
  if s.vault.owner = 0 ∧ s.portList.contains p then { s with vault := { s.vault with owner := BitVec.ofNat 2 (p.val + 1) } }
  else if s.admits 2 (.host p) then s
  else s.refuse 2 (.host p)

/-- PAGE_CLAIM (R363). -/
def execPageClaim (p : Fin 2) (s : State) : Host.Outcome State Fault Refusal :=
  .next (s.whenLive (fun s => s.hostBar4 p 7 true (fun s => s.claim p)))

/-- KVC_CLAIM.RELEASE: ends the claim of the writing function. -/
def State.unclaim (s : State) (p : Fin 2) : State :=
  if s.vault.owner.toNat = p.val + 1 then s.endClaim
  else if s.admits 2 (.host p) then s
  else s.refuse 2 (.host p)

/-- PAGE_RELEASE (R363). -/
def execPageRelease (p : Fin 2) (s : State) : Host.Outcome State Fault Refusal :=
  .next (s.whenLive (fun s => s.hostBar4 p 7 true (fun s => s.unclaim p)))

/-- VAULT_ACCESS_REFUSED (R358). -/
def execVaultAccessRefused (pg : Fin 16) (ini : Initiator) (s : State) : Host.Outcome State Fault Refusal :=
  .next (s.whenLive (fun s => s.onPage pg ini (fun s => s)))

/-! ### Tamper alarms (R364 to R368) -/

/-- The alarms are checked: not in Deep Rest and power-off, and not while the core is unpowered (R364). -/
def Phase.guarded : Phase → Bool
  | .off | .auxReset | .supplies | .deepRest | .wakeFault | .thermalOff | .testScan => false
  | _ => true

/-- A tamper alarm: the keys are erased, the tampered state is entered, both ports are contained (R365). -/
def State.tamper (s : State) (alarm : Fin 5) (value : Int) : State :=
  let s : State := { s with sec := { s.sec with
    causes := s.sec.causes ||| ((1 : BitVec 5) <<< alarm.val)
    tampered := true
    meshBroken := s.sec.meshBroken || alarm.val == 3 } }
  let s := s.eraseKeys
  let s := s.log (0x5101 + alarm.val) 0x30 (leBytes 1 s.sec.causes.toNat ++ i16 (if alarm.val < 3 then value else 0))
  let s := s.log 0x5110 0x30 (leBytes 1 s.sec.causes.toNat)
  let s := s.portList.foldl (fun s p => s.contain p 7) s
  if s.live then s.resumeAll else s

/-- TAMPER_ALARM (R364 to R368). -/
def execTamperAlarm (alarm : Fin 5) (value : Int) (s : State) : Host.Outcome State Fault Refusal :=
  .next (if s.phase.guarded then s.tamper alarm value else s)

/-- Pace sensor 11 above 2,400 or below 400 cycles/µs is a handshake anomaly (R364, alarm 2). -/
def paceAnomaly (n : Fin 16) (cycles : Nat) : Bool := n == 11 && (decide (2400 < cycles / 10) || decide (cycles / 10 < 400))

/-- PACE_WINDOW (R34, R37, R364). -/
def execPaceWindow (n : Fin 16) (cycles : Nat) (s : State) : Host.Outcome State Fault Refusal :=
  .next (s.whenPowered (fun s =>
    let s := s.paceWindow n cycles
    if paceAnomaly n cycles && s.phase.guarded then s.tamper 2 (cycles / 10 : Nat) else s))

/-- DEBUG_UNLOCK_WRITE (R364, R526): any write raises the alarm; one accepted after owner authorisation unlocks the port. -/
def execDebugUnlockWrite (credentialOk : Bool) (s : State) : Host.Outcome State Fault Refusal :=
  .next (if !s.phase.guarded then s
    else
      let s := s.tamper 4 0
      if s.sec.debugAuth && credentialOk then { s with sec := { s.sec with debugUnlocked := true, debugAuth := false } } else s)

/-! ### Entropy and known answers (R355, R370) -/

/-- The source has failed its health test. -/
def State.entropyFails (s : State) : State :=
  ({ s with sec := { s.sec with entropyBad := true } }).log 0x5130 0x30

/-- ENTROPY_HEALTH_FAIL (R355). -/
def execEntropyHealthFail (s : State) : Host.Outcome State Fault Refusal := .next (s.whenLive State.entropyFails)

/-- ENTROPY_RETRY (R355): once per second while the source has failed; a retry that fails is a failed test again. -/
def execEntropyRetry (healthy : Bool) (s : State) : Host.Outcome State Fault Refusal :=
  .next (s.whenLive (fun s =>
    if !s.sec.entropyBad then s
    else if healthy then { s with sec := { s.sec with entropyBad := false } }
    else s.entropyFails))

/-- CIPHER_LANE_KAT (R370): a lane that fails its vector is taken out of service under R52. -/
def execCipherLaneKat (failed : BitVec 8) (s : State) : Host.Outcome State Fault Refusal :=
  .next (s.whenLive (fun s => (List.finRange 8).foldl (fun s sl => if failed.getLsbD sl.val then s.laneFails sl else s) s))

end Sys2Proof.Machine
end

