-- ==== Sys2Proof/Machine/Ledger.lean ====
section
/-! DEFINITION. Measurements (R381), the attestation key's identity (R354), and the boot ledger (R409 to R414). -/

namespace Sys2Proof.Machine

open Sys2Proof

/-! ### Measurements (R381) -/

/-- What measurement `k` of 1 to 5 is taken over (R381, R427); 1 and 2 are the ROM and the loader, which the manual does not
give (DESIGN CHOICE, notes/assumptions/21.md). -/
def State.measured (s : State) (k : Nat) : List Byte :=
  if k = 3 then imgSigned s.boot.run ++ imgBody s.boot.run
  else if k = 4 then imgRole s.boot.run 4
  else if k = 5 then imgRole s.boot.run 5
  else Config.standardReply (0x600 + k) 0

def State.digest (s : State) (k : Nat) : List Byte := Config.sha384 (s.measured k)

/-- MEAS: the digest over the digests of measurements 1 to 5 in index order (R410). -/
def State.measAll (s : State) : List Byte := Config.sha384 ((List.range 5).flatMap (fun i => s.digest (i + 1)))

/-- The AK_ID of the AK of this start: another firmware gives another AK (R354, R410). -/
def State.akIdNow (s : State) : List Byte := padTo 8 0 (Config.akId s.measAll)

/-- The AK exists: the pair serves and its keys are held (R414). -/
def State.hasAk (s : State) : Bool := s.sec.keysHeld && !s.units.pair && !s.sec.meshBroken

/-! ### Records (R410) -/

/-- Bytes 0x00 to 0x9F of a record, which its signature covers. -/
def LedgerRec.signed (r : LedgerRec) : List Byte :=
  leBytes 4 0x4C425A46 ++ leBytes 1 1 ++ leBytes 1 r.kind ++ leBytes 1 r.source ++ [r.flags] ++ leBytes 8 r.index ++
    leBytes 8 r.opsec ++ leBytes 4 r.pcc ++ leBytes 4 0 ++ leBytes 8 r.hostTs ++ padTo 8 0 r.akId ++ padTo 8 0 r.fwRev ++
    leBytes 8 0 ++ padTo 48 0 r.meas ++ padTo 48 0 r.prev

/-- The 256 bytes of a record. -/
def LedgerRec.bytes (r : LedgerRec) : List Byte := r.signed ++ padTo 96 0 r.sig

/-- Record `i` is kept: for ever below 4096, else among the newest 1,044,480 (R412). -/
def ledgerKeeps (count i : Nat) : Bool := decide (i < 4096) || decide (count ≤ i + 1044480)

/-- The slot of record `i` in each of the two mirrored copies of the ledger area in the system band (R412). -/
def ledgerSlot (i : Nat) : Nat := if i < 4096 then i else 4096 + (i - 4096) % 1044480

/-- The AK certificate store takes the certificate of this AK; when it is full the oldest that no kept record names goes
(R413). -/
def akStore (certs : List (List Byte × List Byte)) (ledger : List LedgerRec) (id cert : List Byte) : List (List Byte × List Byte) :=
  if certs.any (fun c => c.1 == id) then certs
  else
    let certs := if certs.length < 4096 then certs
      else match certs.find? (fun c => !ledger.any (fun r => r.akId == c.1)) with
        | some o => certs.erase o
        | none => certs
    certs ++ [(id, cert)]

/-- A ledger record is written and signed with the AK of the running image; none without an AK (R409 to R412, R414). -/
def State.writeLedger (s : State) (kind : Nat) (flags : Byte) : State :=
  if !s.hasAk then s
  else
    let b := s.boot
    let r : LedgerRec :=
      { kind := kind, source := b.source, flags := flags, index := b.ledgerCount, opsec := s.clocks.opsec.toNat
        pcc := s.clocks.pcc.toNat, hostTs := (s.clocks.hostTs s.tb.count).getD 0, akId := s.akIdNow, fwRev := padTo 8 0x20 (imgRev b.run)
        meas := s.measAll
        prev := Config.sha384 (match b.ledger with
          | p :: _ => p.bytes
          | [] => Config.certChain 0)
        sig := [] }
    let r : LedgerRec := { r with sig := Config.sign 0 s.free r.signed }
    let ledger : List LedgerRec := (r :: b.ledger).filter (fun x => ledgerKeeps (b.ledgerCount + 1) x.index)
    { s with
      free := s.free + 1
      boot := { b with
        ledger := ledger, ledgerCount := b.ledgerCount + 1
        akCerts := akStore b.akCerts ledger r.akId (Config.standardReply 0x5102 (ofLeBytes r.akId)) } }

/-- FLAGS of a record (R410). -/
def State.ledgerFlags (s : State) : Byte :=
  let b := s.boot
  BitVec.ofNat 8 (bit b.incomplete + 2 * bit b.watchdog + 4 * bit b.unclean + 8 * bit b.trialExpired +
    16 * bit s.service + 32 * bit (decide (s.clocks.ts = .running)))

end Sys2Proof.Machine
end

