-- ==== Sys2Proof/Machine/Spdm.lean ====
section
/-! DEFINITION. Chapter 11, device identity and attestation: the SPDM responder (R379 to R382) and link IDE keys (R297, R298).
Response codes and error codes are those of the SPDM standard (PRESUMED, notes/assumptions/22.md). -/

namespace Sys2Proof.Machine

open Sys2Proof

/-! ### Answers -/

/-- An SPDM response leaves; a signed one takes the next draw of its signature. -/
def State.spdm (s : State) (v : SpdmVia) (code : Nat) (bytes : List Byte) : State := s.emit (.spdm v code false bytes)

/-- A response signed by the leaf key of a slot: the DevID of slot 0, the AK of slots 1 and 2 (R379). -/
def State.spdmSigned (s : State) (v : SpdmVia) (code slot : Nat) (bytes : List Byte) : State :=
  ({ s with free := s.free + 1 }).emit (.spdm v code true (bytes ++ Config.sign (if slot = 0 then 1 else 0) s.free bytes))

/-- ERROR with an error code. -/
def State.spdmError (s : State) (v : SpdmVia) (e : Nat) : State := s.spdm v 0x7F (leBytes 1 e)

/-- In the tampered state SPDM answers only GET_VERSION and GET_CAPABILITIES (R366). -/
def State.whenKeyed (s : State) (f : State → State) : State :=
  s.whenLive (fun s => if s.sec.keyless then s else f s)

/-- A request that needs the negotiated algorithms; without them it is unexpected. -/
def State.negotiated (s : State) (v : SpdmVia) (f : State → State) : State :=
  s.whenKeyed (fun s => if s.sec.algosDone.contains v then f s else s.spdmError v 4)

/-! ### Version, capabilities, algorithms (R380) -/

/-- SPDM_GET_VERSION: version 1.3; a new negotiation begins. -/
def execSpdmGetVersion (v : SpdmVia) (s : State) : Host.Outcome State Fault Refusal :=
  .next (s.whenLive (fun s =>
    ({ s with sec := { s.sec with algosDone := s.sec.algosDone.filter (· ≠ v) } }).spdm v 0x04 [0x13]))

/-- SPDM_GET_CAPABILITIES: CT exponent 14 (R382). -/
def execSpdmGetCapabilities (v : SpdmVia) (s : State) : Host.Outcome State Fault Refusal :=
  .next (s.whenLive (fun s => s.spdm v 0x61 (leBytes 1 14 ++ Config.standardReply 0x61 0)))

/-- SPDM_NEGOTIATE_ALGORITHMS: ECDSA P-384, SHA-384, secp384r1, AES-256-GCM, DMTF measurements. -/
def execSpdmNegotiateAlgorithms (v : SpdmVia) (s : State) : Host.Outcome State Fault Refusal :=
  .next (s.whenKeyed (fun s =>
    ({ s with sec := { s.sec with algosDone := v :: s.sec.algosDone.filter (· ≠ v) } }).spdm v 0x63 (Config.standardReply 0x63 0)))

/-! ### Certificates (R379) -/

/-- The chain of a slot, if the slot holds one. -/
def State.chain (s : State) : Nat → Option (List Byte)
  | 0 => some (Config.certChain 0)
  | 1 => some (Config.certChain 0 ++ Config.standardReply 0x5102 (ofLeBytes s.akIdNow))
  | 2 => if s.sec.slot2 = [] then none else some s.sec.slot2
  | _ => none

/-- SPDM_GET_DIGESTS. -/
def execSpdmGetDigests (v : SpdmVia) (s : State) : Host.Outcome State Fault Refusal :=
  .next (s.negotiated v (fun s => s.spdm v 0x01 ([0, 1, 2].flatMap (fun k => match s.chain k with
    | some c => Config.sha384 c
    | none => []))))

/-- SPDM_GET_CERTIFICATE. -/
def execSpdmGetCertificate (v : SpdmVia) (slot : Nat) (s : State) : Host.Outcome State Fault Refusal :=
  .next (s.negotiated v (fun s => match s.chain slot with
    | some c => s.spdm v 0x02 c
    | none => s.spdmError v 1))

/-- SPDM_CHALLENGE: signed over the chain's digest, the nonce and the measurements' digest (R382). -/
def execSpdmChallenge (v : SpdmVia) (slot : Nat) (nonce : BitVec 256) (s : State) : Host.Outcome State Fault Refusal :=
  .next (s.negotiated v (fun s => match s.chain slot with
    | some c => s.spdmSigned v 0x03 slot (Config.sha384 c ++ leBytes 32 nonce.toNat ++ s.measAll)
    | none => s.spdmError v 1))

/-! ### Measurements (R381) -/

/-- Index 6: owner state, IDE_REQUIRED, debug lock, Opal activation, the compression setting of each namespace. -/
def State.secConfig (s : State) : List Byte :=
  let owner := match s.sec.owner with
    | none => 0
    | some _ => if s.sec.ownerLock then 2 else 1
  padTo 64 0 ([owner, s.param 0x2000 4, bit (!s.sec.debugUnlocked), bit s.sec.opalActive] ++
    s.media.namespaces.map (fun e => s.param 0x7002 e.1) |>.map (BitVec.ofNat 8))

/-- Index 8: service mode, tampered state, degraded layouts (failed DRAM channel, lost dies). -/
def State.deviceMode (s : State) : List Byte :=
  padTo 8 0 ([bit s.service, bit s.sec.tampered, bit s.dram.degraded,
    bit (s.media.groups.any (fun g => decide ((s.media.surviving g).length < 32)))].map (BitVec.ofNat 8))

/-- The block of one index. -/
def State.measBlock (s : State) (k : Nat) : List Byte :=
  if k ≤ 5 then s.digest k
  else if k = 6 then s.secConfig
  else if k = 7 then (match s.boot.ledger with
    | r :: _ => Config.sha384 r.bytes
    | [] => List.replicate 48 0)
  else s.deviceMode

/-- The blocks that an index names: 0 none but their number, 0xFF all; none for an index that does not exist. -/
def State.measBlocks (s : State) (k : Nat) : Option (List Byte) :=
  if k = 0 then some [8]
  else if k ≤ 8 then some (leBytes 1 k ++ s.measBlock k)
  else if k = 0xFF then some ((List.range 8).flatMap (fun i => leBytes 1 (i + 1) ++ s.measBlock (i + 1)))
  else none

/-- SPDM_GET_MEASUREMENTS: signed by the AK where asked. -/
def execSpdmGetMeasurements (v : SpdmVia) (index : Nat) (signed : Bool) (nonce : BitVec 256) (s : State) :
    Host.Outcome State Fault Refusal :=
  .next (s.negotiated v (fun s => match s.measBlocks index with
    | none => s.spdmError v 1
    | some b => if signed then s.spdmSigned v 0x60 1 (b ++ leBytes 32 nonce.toNat) else s.spdm v 0x60 b))

/-! ### Sessions (R380) -/

/-- Sessions at once: 4 over MCTP, 2 for each DOE mailbox. -/
def sessionLimit : SpdmVia → Nat
  | .mctp => 4
  | .doe _ => 2

def Security.session (k : Security) (v : SpdmVia) (id : Nat) : Option SpdmSession :=
  k.sessions.find? (fun x => decide (x.via = v) && decide (x.id = id))

def State.setSession (s : State) (v : SpdmVia) (id : Nat) (f : SpdmSession → SpdmSession) : State :=
  { s with sec := { s.sec with sessions := s.sec.sessions.map (fun x => if x.via = v ∧ x.id = id then f x else x) } }

/-- SPDM_KEY_EXCHANGE: a session begins. -/
def execSpdmKeyExchange (v : SpdmVia) (slot : Nat) (s : State) : Host.Outcome State Fault Refusal :=
  .next (s.negotiated v (fun s => match s.chain slot with
    | none => s.spdmError v 1
    | some c =>
      if sessionLimit v ≤ (s.sec.sessions.filter (fun x => x.via = v)).length then s.spdmError v 0x0A
      else
        let id := s.sec.nextSession
        let x : SpdmSession := { via := v, id := id }
        let s : State := { s with sec := { s.sec with nextSession := id + 1, sessions := s.sec.sessions ++ [x] } }
        s.spdmSigned v 0x64 slot (leBytes 4 id ++ Config.sha384 c)))

/-- A request within an established session; the context register follows its key manager (R357). -/
def State.inSession (s : State) (v : SpdmVia) (id : Nat) (f : State → State) : State :=
  s.whenKeyed (fun s => match s.sec.session v id with
    | some x =>
      if x.established then f { s with vault := { s.vault with context := Config.keyManagerPage id } } else s.spdmError v 4
    | none => s.spdmError v 2)

/-- SPDM_FINISH: the session is established. -/
def execSpdmFinish (v : SpdmVia) (session : Nat) (s : State) : Host.Outcome State Fault Refusal :=
  .next (s.whenKeyed (fun s => match s.sec.session v session with
    | some x => if x.established then s.spdmError v 4
      else (s.setSession v session (fun x => { x with established := true })).spdm v 0x65 []
    | none => s.spdmError v 2))

/-- SPDM_HEARTBEAT. -/
def execSpdmHeartbeat (v : SpdmVia) (session : Nat) (s : State) : Host.Outcome State Fault Refusal :=
  .next (s.inSession v session (fun s => s.spdm v 0x68 []))

/-- SPDM_KEY_UPDATE. -/
def execSpdmKeyUpdate (v : SpdmVia) (session : Nat) (s : State) : Host.Outcome State Fault Refusal :=
  .next (s.inSession v session (fun s =>
    (s.setSession v session (fun x => { x with keyGen := x.keyGen + 1 })).spdm v 0x69 []))

/-- SPDM_END_SESSION. -/
def execSpdmEndSession (v : SpdmVia) (session : Nat) (s : State) : Host.Outcome State Fault Refusal :=
  .next (s.inSession v session (fun s =>
    ({ s with sec := { s.sec with sessions := s.sec.sessions.filter (fun x => !(decide (x.via = v) && decide (x.id = session))) } }).spdm
      v 0x6C []))

/-! ### Slot 2 (R379, R385) -/

/-- SPDM_GET_CSR: a signing request made with the AK. -/
def execSpdmGetCsr (v : SpdmVia) (s : State) : Host.Outcome State Fault Refusal :=
  .next (s.negotiated v (fun s => s.spdmSigned v 0x6D 2 (Config.standardReply 0x6D (ofLeBytes s.akIdNow))))

/-- SPDM_SET_CERTIFICATE: slot 2 only, within 60 s of opcode 0x0006, for the chain whose SHA-384 the owner authorised. -/
def execSpdmSetCertificate (v : SpdmVia) (slot : Nat) (chain : List Byte) (s : State) : Host.Outcome State Fault Refusal :=
  .next (s.negotiated v (fun s => match s.sec.slot2Hash with
    | some (h, t) =>
      if slot = 2 ∧ s.tb.count.toNat ≤ t + 6000000000 ∧ Config.sha384 chain = h then
        ({ s with sec := { s.sec with slot2 := chain, slot2Hash := none } }).spdm v 0x6E []
      else s.spdmError v 1
    | none => s.spdmError v 1))

/-! ### Link IDE keys (R297, R298) -/

/-- Completions that a queue held are posted as far as room allows. -/
def State.postHeld (s : State) (p : Fin 2) : State :=
  (s.ctrl p).cqs.foldl (fun s e => match (s.ctrl p).cqs.get? e.1 with
    | some q =>
      let s := s.setCtrl p (fun c => { c with cqs := c.cqs.put e.1 { q with held := [] } })
      q.held.foldl (fun s h => s.post p 0 h.1 h.2.1 h.2.2.1 h.2.2.2) s
    | none => s) s

/-- A key set is programmed: the stream is Secure, and what IDE kept back goes on. -/
def State.ideKey (s : State) (p : Fin 2) (keySet : Fin 2) (key : BitVec 256) : State :=
  let s := s.setPort p (fun q => { q with ideKeys := q.ideKeys.upd keySet (fun _ => some key), ide := .secure })
  ((s.spdm (.doe p) 0x7E (leBytes 1 keySet.val)).tryReady p).postHeld p

/-- IDE_KM_KEY_PROG: over a secured session of the port's DOE mailbox (R297, R380). -/
def execIdeKmKeyProg (p : Fin 2) (session : Nat) (keySet : Fin 2) (key : BitVec 256) (s : State) :
    Host.Outcome State Fault Refusal :=
  .next (s.inSession (.doe p) session (fun s => s.ideKey p keySet key))

end Sys2Proof.Machine
end

