-- ==== Sys2Proof/Machine/Opal.lean ====
section
/-! DEFINITION. Chapter 11, TCG Opal (R371 to R373, R377) and Key Per I/O (R374 to R377), carried by Security Send (0x81) and
Security Receive (0x82). A method's outcome is returned as its TCG status (PRESUMED, notes/assumptions/23.md). -/

namespace Sys2Proof.Machine

open Sys2Proof

/-! ### Method outcomes -/

/-- TCG method statuses. -/
def mOk : Nat := 0x00
def mNotAuthorized : Nat := 0x01
def mInvalid : Nat := 0x0C
def mLockedOut : Nat := 0x12
def mFail : Nat := 0x3F

/-- A method ends with a status; the Security Send that carried it completes successfully. -/
def State.method (s : State) (fseq st : Nat) : State := (s.emit (.reply fseq 0x810000 [st])).complete fseq .success

/-- Authorities (R371): 0 SID, 1 PSID, 2 to 5 Admin1 to Admin4, 6 to 21 User1 to User16. -/
def Security.admin (k : Security) : Bool := k.authed.any (fun a => decide (2 ≤ a) && decide (a ≤ 5))
def Security.anyone (k : Security) : Bool := k.authed.any (fun a => decide (2 ≤ a))

def State.setSec (s : State) (f : Security → Security) : State := { s with sec := f s.sec }

/-! ### Credentials (R371) -/

/-- A credential is tried: after 5 failed tries a further try fails until the next power cycle. -/
def Security.authenticate (k : Security) (a : Nat) (pin : List Byte) : Security × Nat :=
  let n := (k.tries.get? a).getD 0
  if 5 ≤ n ∨ (a = 0 ∧ k.sidBlocked) then (k, mLockedOut)
  else if ((k.pins.get? a).getD []) = pin then
    ({ k with authed := a :: k.authed.filter (· ≠ a), tries := k.tries.del a }, mOk)
  else ({ k with tries := k.tries.put a (n + 1), authed := k.authed.filter (· ≠ a) }, mNotAuthorized)

/-- An authority's PIN is changed by itself, by SID, or by an Admin. -/
def Security.setPin (k : Security) (a : Nat) (pin : List Byte) : Security × Nat :=
  if k.authed.contains a || (k.authed.contains 0 && decide (a ≠ 1)) || (k.admin && decide (2 ≤ a)) then
    ({ k with pins := k.pins.put a pin }, mOk)
  else (k, mNotAuthorized)

/-! ### Locking ranges (R371, R372) -/

/-- A range that is configured: the device Global Range, or one with a namespace. -/
def Security.hasRange (k : Security) (r : Fin 64) : Bool := r == 0 || k.ranges[r].ns.isSome

/-- Locking ranges configured: entry 0x5000/0x07. -/
def Security.rangeCount (k : Security) : Nat := ((List.finRange 64).filter k.hasRange).length

def Security.setRangeOf (k : Security) (r : Fin 64) (f : OpalRange → OpalRange) : Security := { k with ranges := k.ranges.upd r f }

/-- A range may be set: of an existing namespace that uses Opal, in whole units inside it, no overlap with another range of the
namespace, at most 16 non-global ranges, one global range. -/
def State.rangeFits (s : State) (r : Fin 64) (ns start len : Nat) : Bool :=
  match s.media.namespaces.get? ns with
  | none => false
  | some n =>
    let units := ceilDiv n.granules n.perUnit
    let others := (List.finRange 64).filter (fun x => decide (x ≠ r) && decide (s.sec.ranges[x].ns = some ns))
    let area := others.filter (fun x => decide (s.sec.ranges[x].len ≠ 0))
    r != 0 && !n.kpio && decide (start + len ≤ units) &&
    (if len = 0 then decide (start = 0) && others.all (fun x => decide (s.sec.ranges[x].len ≠ 0))
     else decide (area.length < 16) && area.all (fun x =>
       decide (start + len ≤ s.sec.ranges[x].start) || decide (s.sec.ranges[x].start + s.sec.ranges[x].len ≤ start)))

/-- A range is created or moved: it keeps the key of the range that covered its units until GenKey (R372). -/
def Security.place (k : Security) (r : Fin 64) (ns start len : Nat) : Security :=
  let prev := { k with ranges := k.ranges.upd r (fun x => { x with ns := none }) }.rangeOf ns start
  { k with
    ranges := k.ranges.upd r (fun x => { x with ns := some ns, start := start, len := len })
    keyGen := k.keyGen.upd r (fun _ => k.keyGen[prev]) }

/-- A method on the security provider's state: the state after it and its status (R371 to R373). -/
def State.opal (s : State) : OpalMethod → Security × Nat
  | .activate =>
    let k := s.sec
    if !k.authed.contains 0 then (k, mNotAuthorized) else ({ k with opalActive := true }, mOk)
  | .setLocked r rd wr =>
    let k := s.sec
    if !k.opalActive ∨ !k.hasRange r then (k, mInvalid)
    else if !k.anyone then (k, mNotAuthorized)
    else (k.setRangeOf r (fun x => { x with rdLocked := rd, wrLocked := wr }), mOk)
  | .setLockEnabled r rd wr =>
    let k := s.sec
    if !k.opalActive ∨ !k.hasRange r then (k, mInvalid)
    else if !k.admin then (k, mNotAuthorized)
    else (k.setRangeOf r (fun x => { x with rdEn := rd, wrEn := wr }), mOk)
  | .setLockOnReset r power reset =>
    let k := s.sec
    if !k.opalActive ∨ !k.hasRange r then (k, mInvalid)
    else if !k.admin then (k, mNotAuthorized)
    else (k.setRangeOf r (fun x => { x with lorPower := power, lorReset := reset }), mOk)
  | .setRange r nsid start len =>
    let k := s.sec
    if !k.opalActive ∨ nsid = 0 ∨ !s.rangeFits r (nsid - 1) start len then (k, mInvalid)
    else if !k.admin then (k, mNotAuthorized)
    else (k.place r (nsid - 1) start len, mOk)
  | .setPin a pin => s.sec.setPin a.val pin
  | .authenticate a pin => s.sec.authenticate a.val pin
  | .dataStoreWrite offset bytes =>
    let k := s.sec
    if 10485760 < offset + bytes.length then (k, mInvalid)
    else if !k.anyone then (k, mNotAuthorized)
    else ({ k with dataStore := memWrite 0 k.dataStore offset bytes }, mOk)
  | .blockSid => ({ s.sec with sidBlocked := true }, mOk)

/-- OPAL_METHOD: taken in fetch order (R373). -/
def execOpalMethod (fseq : Nat) (m : OpalMethod) (s : State) : Host.Outcome State Fault Refusal :=
  .next (s.onAdmin fseq 0x81 (fun _ s =>
    if s.units.pair then s.method fseq mFail
    else
      let r := s.opal m
      (s.setSec (fun _ => r.1)).method fseq r.2))

/-- OPAL_RECEIVE: discovery and responses (R371): Opal activated, ranges configured, and the standard's structure. -/
def execOpalReceive (fseq protocol : Nat) (s : State) : Host.Outcome State Fault Refusal :=
  .next (s.onAdmin fseq 0x82 (fun _ s =>
    if protocol ≠ 1 ∧ protocol ≠ 2 then s.complete fseq .invalidField
    else (s.emit (.reply fseq (0x820000 + protocol)
      [bit s.sec.opalActive, s.sec.rangeCount, ofLeBytes (Config.standardReply 0x82 protocol)])).complete fseq .success))

/-! ### GenKey and PSID revert (R377) -/

/-- Runs of a namespace's units between its non-global ranges, from unit `a` on. -/
def gapRuns (units : Nat) : Nat → List (Nat × Nat) → List (Nat × Nat)
  | a, [] => [(a, units - a)]
  | a, (x, n) :: rs => (a, x - a) :: gapRuns units (x + n) rs

/-- The runs of units that range `r` covers in namespace `ns` (R372). -/
def Security.runsOf (k : Security) (r : Fin 64) (ns : Nat) (n : Namespace) : List (Nat × Nat) :=
  let x := k.ranges[r]
  let mine := (List.finRange 64).filter (fun y => decide (k.ranges[y].ns = some ns))
  if x.ns = some ns ∧ x.len ≠ 0 then [(x.start, x.len)]
  else if !(k.nsSlots ns).contains r then []
  else gapRuns (ceilDiv n.granules n.perUnit) 0 (((mine.filter (fun y => decide (k.ranges[y].len ≠ 0))).map (fun y =>
    (k.ranges[y].start, k.ranges[y].len))).mergeSort (fun a b => decide (a.1 ≤ b.1)))

/-- The key of a range is replaced and its entries are set TRIMMED, together (R377). -/
def State.genKey (s : State) (r : Fin 64) : State :=
  let ns := s.media.namespaces.filter (fun e => !e.2.kpio)
  let s := ns.foldl (fun s e => s.setUnits e.1 e.2 false (s.sec.runsOf r e.1 e.2)) s
  ((s.newKey r).settleStripes).resumeAll

/-- OPAL_GENKEY: fails while the entropy source has failed or keys are erased (R355, R366, R377). -/
def execOpalGenkey (fseq : Nat) (range : Fin 64) (s : State) : Host.Outcome State Fault Refusal :=
  .next (s.onAdmin fseq 0x81 (fun _ s =>
    if s.sec.entropyBad ∨ s.sealed then s.method fseq mFail
    else if !s.sec.opalActive ∨ !s.sec.hasRange range then s.method fseq mInvalid
    else if !s.sec.admin then s.method fseq mNotAuthorized
    else (s.genKey range).method fseq mOk))

/-- Opal as manufactured; ownership, the nonces and the identity stay (R377, R383, R389). -/
def Security.reverted (k : Security) : Security :=
  { k with
    opalActive := false, ranges := Vector.replicate 64 {}, pins := [], tries := [], authed := [], sidBlocked := false
    dataStore := [] }

/-- PSID_REVERT: every key is replaced, every entry of the device is TRIMMED. -/
def execPsidRevert (fseq : Nat) (psidOk : Bool) (s : State) : Host.Outcome State Fault Refusal :=
  .next (s.onAdmin fseq 0x81 (fun _ s =>
    let n := (s.sec.tries.get? 1).getD 0
    if 5 ≤ n then s.method fseq mLockedOut
    else if !psidOk then (s.setSec (fun k => { k with tries := k.tries.put 1 (n + 1) })).method fseq mNotAuthorized
    else if s.sec.entropyBad ∨ s.units.pair then s.method fseq mFail
    else
      let s := (s.media.namespaces.map (·.1)).foldl State.wipeNs s
      let s := (List.finRange 64).foldl State.newKey s
      (s.setSec Security.reverted).method fseq mOk))

/-! ### Key Per I/O (R374 to R377) -/

/-- A key index that no key holds. -/
def Security.freeIndex (k : Security) : Option Nat := (List.range 4096).find? (fun i => !k.kpio.any (fun e => decide (e.2.index = i)))

/-- Keys loaded: entry 0x5000/0x06. -/
def Security.kpioCount (k : Security) : Nat := (k.kpio.filter (fun e => decide (e.1 < 2 ^ 24))).length

/-- Committed lines not yet encrypted that are bound to key index `i`. -/
def Landing.boundKey (l : Landing) (i : Nat) : List Nat :=
  (l.lines.filter (fun e => e.2.st == .committed && decide (e.2.keySlot = 64 + i))).map (·.1)

/-- The key under a tag goes: at once for commands fetched later; kept aside while lines bound to it are not encrypted. -/
def State.dropKey (s : State) (k : Nat) : State × List Nat :=
  match s.sec.kpio.get? k with
  | none => (s, [])
  | some x =>
    let ls := s.land.boundKey x.index
    let rest : AMap KpioKey := s.sec.kpio.del k
    (s.setSec (fun q => { q with kpio := if ls = [] then rest else rest.put (2 ^ 24 + x.index) x }), ls)

/-- A key command completes once every line under the old key is encrypted; their rows are closed without waiting (R376). -/
def State.endKeyCmd (s : State) (fseq : Nat) (ls : List Nat) : State :=
  if ls = [] then s.complete fseq .success
  else
    let s := (s.setCmd fseq (fun c => { c with phase := .waitRows, lines := ls })).dispatchAll
    (s.media.rows.filter (fun e => s.rowHolds e.1 e.2 ls)).foldl (fun s e =>
      if e.2.closed then s else s.closeEarly e.1) s

/-- The Key Per I/O namespace of an NSID and a tag, where both are valid. -/
def State.kpioAt (s : State) (p : Fin 2) (nsid tag : Nat) : Option Nat :=
  match s.nsOf p nsid with
  | some (i, n) => if n.kpio ∧ tag < 4096 then some (i * 4096 + tag) else none
  | none => none

/-- KPIO_KEY_INJECT (R374, R376). -/
def execKpioKeyInject (fseq nsid tag : Nat) (key : BitVec 512) (authentic : Bool) (s : State) :
    Host.Outcome State Fault Refusal :=
  .next (s.onAdmin fseq 0x81 (fun c s => match s.kpioAt c.port nsid tag with
    | none => s.complete fseq .invalidField
    | some k =>
      if !authentic ∨ s.sealed then s.complete fseq .accessDenied
      else
        let r := s.dropKey k
        match r.1.sec.freeIndex with
        | none => s.complete fseq .invalidField
        | some i =>
          (r.1.setSec (fun q => { q with kpio := q.kpio.put k { index := i, key := key, port := c.port } })).endKeyCmd fseq r.2))

/-- KPIO_CLEAR_KEY (R376). -/
def execKpioClearKey (fseq nsid tag : Nat) (s : State) : Host.Outcome State Fault Refusal :=
  .next (s.onAdmin fseq 0x81 (fun c s => match s.kpioAt c.port nsid tag with
    | none => s.complete fseq .invalidField
    | some k =>
      let r := s.dropKey k
      r.1.endKeyCmd fseq r.2))

end Sys2Proof.Machine
end

