-- ==== Sys2Proof/Machine/BootStore.lean ====
section
/-! DEFINITION. Chapter 12: the boot store's commands (R391 to R403), the event recorder's timers (R417 to R420), operating
seconds (R422). -/

namespace Sys2Proof.Machine

open Sys2Proof

def State.setBst (s : State) (f : Bst → Bst) : State := { s with bst := f s.bst }

/-! ### Who reaches the store (R391) -/

/-- The store is powered and out of reset. -/
def State.storeUp (s : State) : Bool :=
  s.live || (match s.phase with
    | .rom | .slipway | .bootFault => true
    | _ => false)

/-- Initiators that the BST_ block admits (R391): the cores, the system DMA for its reads, and an unlocked debug port. -/
def State.bstAdmits (s : State) : Initiator → Bool
  | .core _ | .sdma _ => true
  | .debug => s.sec.debugUnlocked
  | _ => false

/-- A command sequence of E28; from any other initiator an access error with no effect. -/
def State.bstWrite (s : State) (ini : Initiator) (f : State → State) : State :=
  if !s.storeUp then s else if ini = .core 28 then f s else s.emit (.accessError ini)

/-! ### Status and ID (R395 to R397) -/

/-- No program or erase is running. -/
def Bst.ready (b : Bst) : Bool := match b.op with
  | some o => o.susp
  | none => true

def Bst.suspended (b : Bst) : Bool := match b.op with
  | some o => o.susp
  | none => false

/-- The status byte. -/
def Bst.status (b : Bst) : Nat :=
  128 * bit b.ready + 64 * bit b.suspended + 32 * bit b.eraseErr + 16 * bit b.progErr + 8 * bit b.seqErr + 4 * bit b.wpErr

/-- Byte `k` of the calibration row (R396): the serial number, the trims (opaque), the CRC over what stands before it where the row
passes its check; unused bytes read 0xFF. -/
def Bst.calBody (b : Bst) (k : Nat) : Byte :=
  let trim : Byte := (Config.standardReply 0x396 0).getD k 0xFF
  if 0x10 ≤ k ∧ k < 0x18 then (leBytes 8 b.serial.toNat).getD (k - 0x10) 0
  else if k < 0x08 ∨ (0x40 ≤ k ∧ k < 0x180) ∨ (0x200 ≤ k ∧ k < 0x400) then trim
  else 0xFF

def Bst.calByte (b : Bst) (k : Nat) : Byte :=
  if k < 0xFFC then b.calBody k
  else if b.calibOk then (leBytes 4 (crc32 ((List.range 0xFFC).map b.calBody))).getD (k - 0xFFC) 0
  else (Config.standardReply 0x396 1).getD (k - 0xFFC) 0xFF

/-- The map of status/ID mode. -/
def Bst.idByte (b : Bst) (o : Nat) : Byte :=
  if o = 0 then BitVec.ofNat 8 b.status
  else if 4 ≤ o ∧ o < 8 then ([0x1F, 0x3D, 0x96, 0x40] : List Byte).getD (o - 4) 0
  else if 0x1000 ≤ o ∧ o < 0x2000 then b.calByte (o - 0x1000)
  else if 0x2000 ≤ o ∧ o < 0x3000 then (leBytes 4 (b.shadowOf ((o - 0x2000) / 4)).entry).getD (o % 4) 0
  else 0

/-! ### Reads (R395, R400, R401) -/

/-- Whether a read must be held: another initiator is in status/ID mode, or an operation runs on another sector. -/
def Bst.holds (b : Bst) (ini : Initiator) (o : Nat) : Bool :=
  match b.idMode with
  | some i => decide (i ≠ ini)
  | none => match b.op with
    | some p => !p.susp && decide (p.sector ≠ o / sectorSize)
    | none => false

/-- A read that is not held returns its byte; one of the sector under an operation returns 0x5A and sets SUSP_HIT. -/
def State.serve (s : State) (ini : Initiator) (o : Nat) : State :=
  match s.bst.idMode with
  | some _ => s.emit (.readVal ini (s.bst.idByte o).toNat)
  | none =>
    let under : Bool := match s.bst.op with
      | some p => decide (p.sector = o / sectorSize)
      | none => false
    if under then (s.setBst (fun b => { b with suspHit := true })).emit (.readVal ini 0x5A)
    else s.emit (.readVal ini (s.bst.byte o).toNat)

/-- Held reads that nothing holds any more are served; the longest hold is kept in WAIT_MAX. -/
def State.serveHeld (s : State) : State :=
  let go := s.bst.held.filter (fun h => !s.bst.holds h.1 h.2.1)
  let late := go.foldl (fun m h => max m ((s.tb.count.toNat - h.2.2) / 100)) s.bst.waitMax.toNat
  let s := s.setBst (fun b => { b with held := b.held.filter (fun h => b.holds h.1 h.2.1), waitMax := satOf 16 late })
  go.foldl (fun s h => s.serve h.1 h.2.1) s

/-- A suspend reaches the store: at once for the first suspension or after 2 ms of run, else held by the store (R399). -/
def BstOp.suspend (o : BstOp) (auto : Bool) : BstOp :=
  if o.susp ∨ o.suspPend then o
  else if !o.resumed ∨ o.ranEnough then { o with suspPend := true, auto := auto } else { o with held := true, auto := auto }

def State.setOp (s : State) (f : BstOp → BstOp) : State := s.setBst (fun b => { b with op := b.op.map f })

/-- A resume: the operation runs on. -/
def BstOp.resume (o : BstOp) : BstOp := if o.susp then { o with susp := false, resumed := true, ranEnough := false, auto := false } else o

/-- BST_READ (R391, R395, R400, R401). -/
def State.bstRead (s : State) (ini : Initiator) (o : Nat) : State :=
  if !s.bstAdmits ini ∨ 1024 * sectorSize ≤ o then s.emit (.accessError ini)
  else if !s.bst.holds ini o then s.serve ini o
  else
    let s := s.setBst (fun b => { b with held := b.held ++ [(ini, o, s.tb.count.toNat)] })
    if s.bst.autoSusp ∧ s.bst.idMode = none then s.setOp (fun p => p.suspend true) else s

def execBstRead (ini : Initiator) (offset : Nat) (s : State) : Host.Outcome State Fault Refusal :=
  .next (if s.storeUp then s.bstRead ini offset else s)

/-! ### Programs and erases (R393, R394, R397, R398) -/

/-- A sector that may be written at all (R392): not the reserved ones, and the identity record in service mode only. DESIGN CHOICE
(notes/assumptions/67.md): the BST_ controller refuses the rest with an access error. -/
def State.bstWritable (s : State) (sector : Nat) : Bool := decide (sector < 644) || decide (1020 < sector) || (sector == 1020 && s.service)

/-- A sequence that the store takes: no operation runs or is suspended, and the sector is not write-protected. -/
def State.bstStart (s : State) (o : Nat) (f : State → State) : State :=
  if s.bst.op.isSome ∨ 1024 * sectorSize ≤ o then s.setBst (fun b => { b with seqErr := true })
  else if o / sectorSize < 132 then s.setBst (fun b => { b with wpErr := true })
  else if !s.bstWritable (o / sectorSize) then s.emit (.accessError (.core 28))
  else f s

/-- BST_PROGRAM_PAGE: 256 bytes in one page-aligned range (R394). -/
def execBstProgramPage (ini : Initiator) (offset : Nat) (data : List Byte) (s : State) : Host.Outcome State Fault Refusal :=
  .next (s.bstWrite ini (fun s =>
    if offset % 256 ≠ 0 ∨ data.length ≠ 256 then s.setBst (fun b => { b with seqErr := true })
    else s.bstStart offset (fun s => s.setBst (fun b =>
      { b.setShadow (offset / sectorSize) (fun x => { x with pip := true }) with
        op := some { erase := false, sector := offset / sectorSize, page := offset / 256, data := data } }))))

/-- An erase of a sector with 100,000 erases or more is refused with event 0x1011 (R398). -/
def State.bstErase (s : State) (sector : Nat) : State :=
  if 100000 ≤ (s.bst.shadowOf sector).erases then
    (s.setBst (fun b => { b with eraseErr := true, worn := true })).log 0x1011 0x20 (leBytes 2 sector)
  else s.setBst (fun b => { b.setShadow sector Shadow.erasing with op := some { erase := true, sector := sector } })

/-- BST_SECTOR_ERASE (R394, R397, R398). -/
def execBstSectorErase (ini : Initiator) (offset : Nat) (s : State) : Host.Outcome State Fault Refusal :=
  .next (s.bstWrite ini (fun s => s.bstStart offset (fun s => s.bstErase (offset / sectorSize))))

/-- Undefined bytes. -/
def undefBytes (at_ n : Nat) : List Byte := (List.range n).map (fun i => BitVec.ofNat 8 (Config.freeNat (at_ + i)))

/-- A page after a program of `data`: a program only clears bits; a fifth program since the erase leaves it undefined. -/
def State.programmed (s : State) (page : Nat) (data : List Byte) : State :=
  let n := (s.bst.progs.get? page).getD 0
  let old := s.bst.bytes (page * 256) 256
  let put (bs : List Byte) : State := s.setBst (fun b =>
    { b with mem := memWrite 0xFF b.mem (page * 256) bs, progs := b.progs.put page (n + 1) })
  let new := old.zipWith (· &&& ·) data
  if n < 4 then put new else { put (new.zipWith (· &&& ·) (undefBytes s.free 256)) with free := s.free + 256 }

/-- What an operation that failed or was stopped leaves: bytes that it may have changed are undefined. -/
def State.spoiled (s : State) (o : BstOp) : State :=
  if o.erase then
    let base := o.sector * sectorSize
    let bs := undefBytes s.free sectorSize
    { s.setBst (fun b => { b with mem := memWrite 0xFF (memClear b.mem base sectorSize) base bs }) with free := s.free + sectorSize }
  else s.programmed o.page (o.data.zipWith (· ||| ·) (undefBytes s.free 256))

/-- A running operation ends; EIP and PIP clear only when it has completed (R397). -/
def State.bstComplete (s : State) (ok : Bool) : State :=
  match s.bst.op with
  | none => s
  | some o =>
    if o.susp then s
    else
      let s :=
        if ok then
          if o.erase then s.setBst (fun b =>
            { (b.wipe o.sector).setShadow o.sector (fun x => { x with eip := false, pip := false }) with eraseErr := false })
          else (s.programmed o.page o.data).setBst (fun b =>
            { b.setShadow o.sector (fun x => { x with pip := false }) with progErr := false })
        else
          let s := (s.spoiled o).setBst (fun b => if o.erase then { b with eraseErr := true } else { b with progErr := true })
          s
      let s := s.setBst (fun b => { b with op := none })
      let s := if ok then s else s.log 0x1010 0x20 (leBytes 2 o.sector ++ leBytes 1 s.bst.status)
      s.serveHeld

/-- BST_OP_COMPLETE (R394, R397). -/
def execBstOpComplete (ok : Bool) (s : State) : Host.Outcome State Fault Refusal :=
  .next (if s.storeUp then s.bstComplete ok else s)

/-! ### Suspension (R399, R401) -/

/-- BST_SUSPEND. -/
def execBstSuspend (ini : Initiator) (s : State) : Host.Outcome State Fault Refusal :=
  .next (s.bstWrite ini (fun s => s.setOp (fun o => o.suspend false)))

/-- BST_RESUME; reads still held wait for the next suspension. -/
def execBstResume (ini : Initiator) (s : State) : Host.Outcome State Fault Refusal :=
  .next (s.bstWrite ini (fun s => s.setOp BstOp.resume))

/-- 2 ms of run have passed since the last resume: a held suspend takes effect. -/
def BstOp.due (o : BstOp) : BstOp :=
  if o.susp then o
  else if o.held then { o with ranEnough := true, held := false, suspPend := true } else { o with ranEnough := true }

/-- BST_SUSPEND_DUE (R399). -/
def execBstSuspendDue (s : State) : Host.Outcome State Fault Refusal := .next (if s.storeUp then s.setOp BstOp.due else s)

/-- The store reports SUSPENDED: held reads are served, and the controller's own suspend is followed by its resume. -/
def State.bstSuspended (s : State) : State :=
  match s.bst.op with
  | none => s
  | some o =>
    if !o.suspPend then s
    else
      let s := (s.setOp (fun o => { o with suspPend := false, susp := true })).serveHeld
      if o.auto then s.setOp BstOp.resume else s

/-- BST_SUSPENDED (R399, R401). -/
def execBstSuspended (s : State) : Host.Outcome State Fault Refusal := .next (if s.storeUp then s.bstSuspended else s)

/-! ### Modes and broken sequences (R394, R395) -/

/-- BST_READ_STATUS: status/ID mode. -/
def execBstReadStatus (ini : Initiator) (s : State) : Host.Outcome State Fault Refusal :=
  .next (s.bstWrite ini (fun s => s.setBst (fun b => { b with idMode := some ini })))

/-- BST_RETURN_TO_READ: read mode again, error bits cleared, held reads served. -/
def execBstReturnToRead (ini : Initiator) (s : State) : Host.Outcome State Fault Refusal :=
  .next (s.bstWrite ini (fun s =>
    (s.setBst (fun b => { b with idMode := none, eraseErr := false, progErr := false, seqErr := false, wpErr := false })).serveHeld))

/-- BST_SEQUENCE_BROKEN. -/
def execBstSequenceBroken (ini : Initiator) (s : State) : Host.Outcome State Fault Refusal :=
  .next (s.bstWrite ini (fun s => s.setBst (fun b => { b with seqErr := true })))

/-! ### Abort (R403) -/

/-- The store operation stops; its sector is left with EIP or PIP set. A write of the image area in progress is one. -/
def State.bstStop (s : State) : State :=
  match s.bst.op with
  | some o =>
    ((s.spoiled o).setBst (fun b => { b with op := none, aborted := true, abortedOp := some (o.sector, o.erase) })).serveHeld
  | none =>
    if s.boot.state = .writing ∨ s.boot.rewriting then
      s.setBst (fun b => { b with aborted := true, abortedOp := some (imageFirst, true) })
    else s

/-- BST_ABORT: a write of BST_CTL.ABORT. -/
def execBstAbort (s : State) : Host.Outcome State Fault Refusal := .next (if s.storeUp then s.bstStop else s)

/-! ### Event recorder and operating seconds (R419, R420, R422) -/

/-- EVENT_TOKEN_REFILL: one token more in a code's bucket, which holds up to 16. -/
def execEventTokenRefill (code : Nat) (s : State) : Host.Outcome State Fault Refusal :=
  .next (s.whenLive (fun s => match s.evr.tokens.get? code with
    | some n =>
      let t : AMap Nat := if 15 ≤ n then s.evr.tokens.del code else s.evr.tokens.put code (n + 1)
      { s with evr := { s.evr with tokens := t } }
    | none => s))

/-- EVENT_REPEAT_PERSIST: REPEAT and LAST_OPSEC of the last record are persisted (R420). -/
def execEventRepeatPersist (s : State) : Host.Outcome State Fault Refusal :=
  .next (s.whenLive (fun s => match s.evr.recs with
    | r :: _ => { s with evr := { s.evr with repP := r.repeats, lastOpsecP := r.lastOpsec } }
    | [] => s))

/-- OPSEC_TICK: 10^8 ticks of the timebase have passed in PS0 to PS3 (R422). -/
def execOpsecTick (s : State) : Host.Outcome State Fault Refusal :=
  .next (s.whenPowered (fun s => { s with clocks := { s.clocks with opsec := s.clocks.opsec + 1 } }))

/-- OPSEC_PERSIST: every 60 s of operating time (R422). -/
def execOpsecPersist (s : State) : Host.Outcome State Fault Refusal := .next (s.whenLive State.persist)

/-- The per-code suppressed counts are written as records of code 0x1031, four to a record, at most 8 (R419). -/
def State.suppSummary (s : State) : State :=
  let cs : List (Nat × Nat) := (s.evr.suppCode.mergeSort (fun a b => decide (b.2 ≤ a.2))).take 32
  let data (g : List (Nat × Nat)) : List Byte := g.flatMap (fun c => leBytes 2 c.1 ++ leBytes 2 (min c.2 0xFFFF))
  let s := s.logs ((cs.toChunks 4).map (fun g => ⟨0x1031, 0xFF, data g⟩))
  { s with evr := { s.evr with suppCode := [] } }

end Sys2Proof.Machine
end

