-- ==== Sys2Proof/Machine/DictRead.lean ====
section
/-! DEFINITION. What the dictionary's entries read (R473 to R482): the read-only values that the device computes (the entry
tables of each chapter), the descriptors, the event and ledger records, and the notification ring. -/

namespace Sys2Proof.Machine

open Sys2Proof

/-! ### Records (R415, R418) -/

/-- The 64 bytes of an event record (R418). -/
def EventRec.bytes (r : EventRec) : List Byte :=
  let b := leBytes 2 r.code ++ leBytes 1 (bit r.hostTs.isSome + 2 * bit (decide (r.repeats = BitVec.allOnes 32))) ++ leBytes 1 0 ++
    leBytes 4 r.repeats.toNat ++ leBytes 8 r.seq ++ leBytes 8 r.opsec ++ leBytes 4 r.pcc.toNat ++ [r.source] ++
    leBytes 1 r.severity ++ leBytes 2 r.suppressed.toNat ++ leBytes 8 (r.hostTs.getD 0) ++ leBytes 4 r.lastOpsec.toNat ++
    padTo 16 0 r.data
  b ++ leBytes 4 (crc32 b)

/-- A descriptor as R480 lays it out. -/
def Desc64.bytes (d : Desc64) : List Byte :=
  leBytes 2 d.index ++ leBytes 1 d.subFirst ++ leBytes 1 d.subLast ++ leBytes 1 d.type ++ leBytes 1 d.access ++
    leBytes 1 d.authority ++ leBytes 1 d.writers ++ leBytes 2 d.size ++ leBytes 2 d.flags ++ leBytes 4 0 ++ leBytes 8 d.min ++
    leBytes 8 d.max ++ leBytes 8 d.default ++ padTo 24 0 (d.name.toList.map (fun c => BitVec.ofNat 8 c.toNat))

/-- A notification record (R495). -/
def Ntf.bytes (n : Ntf) : List Byte :=
  leBytes 2 n.index ++ leBytes 1 n.sub ++ leBytes 1 0xC7 ++ [n.winner] ++ leBytes 3 0 ++ leBytes 8 n.opsec

/-! ### Requesters (R476, R479) -/

/-- The requester of a writer code: 0 and 1 the ports, 2 the management bus. -/
def reqOf (writer : Nat) : Nat := writer - 1

def reqKey (req index sub : Nat) : Nat := req * 2 ^ 24 + index * 256 + sub

/-- A per-requester value (R479), as a number. -/
def Dict.own (d : Dict) (req index sub : Nat) : Nat := ofLeBytes ((d.perReq.get? (reqKey req index sub)).getD [])

/-! ### Values that the device computes -/

/-- HLK_CNT_STAT (entry 0x2003): every field but ACTIVE is kept after a release (R299). -/
def Contain.stat (c : Contain) : Nat :=
  bit c.active + 2 * bit c.fatesValid + 4 * bit (decide (c.causes ≠ 0) && decide (c.causes &&& 0xF0 = 0)) + 8 * bit c.resumeRefused +
    256 * c.causes.toNat + 65536 * c.first.toNat

/-- LINK_STATUS (entry 0x2001). -/
def State.linkStatus (s : State) (p : Fin 2) : Nat :=
  let q := s.ports[p]
  q.rate + 256 * q.width + 65536 * bit (s.linkUp p) + 131072 * bit (q.ide == .secure)

/-- DRC_EYE with MOVES read as 0 (entry 0x4001). -/
def DramCh.eyeReg (d : DramCh) : Nat := d.eye.toNat + 256 * d.rate.toNat + 1024 * bit d.driftWarn

/-- The brim in mJ: what the bank has beyond what a flush needs (R234, R252). -/
def State.brim (s : State) : Nat := s.plp.eAvail.toNat - s.plp.eFull.toNat

/-- The residency ratio in 0.01 % (R191). -/
def Media.residency (m : Media) : Nat :=
  let w := m.writtenPages
  if w = [] then 10000 else (w.filter (fun k => m.resident.contains k)).length * 10000 / w.length

/-- COMP_RATIO (R101): granule bytes over stored bytes of a namespace's valid records, in 1/256; a free value where there is no
such record and where the ratio does not fit U16 (DESIGN CHOICE, notes/assumptions/63.md). -/
def Media.ratio (m : Media) (ns : Nat) : Nat :=
  let rs := ((m.nand.flatMap (·.2)).filter (fun r => decide (r.ns = ns) && m.valid r))
  let x := rs.length * 256 * 256 / recUnits rs
  if rs = [] ∨ 65535 < x then Config.compRatio (ns + 2 ^ 32 * rs.length) else x

/-- EYE_MIN: the smallest eye of the channel's trained chip enables; 0 with none (DESIGN CHOICE, notes/assumptions/18.md). -/
def Fch.eyeMin (f : Fch) : Nat :=
  match f.ces.toList.filter (fun c => c.trained && !c.lost) with
  | [] => 0
  | c :: cs => cs.foldl (fun m c => min m c.eye.toNat) c.eye.toNat

/-- Milliseconds left of the trial timer's 30 s (R438). -/
def State.trialRemain (s : State) : Nat := match s.boot.armed with
  | some (_, t) => 30000 - (s.tb.count.toNat - t) / 100000
  | none => 0

def State.ownerState (s : State) : Nat := if s.sec.owner.isNone then 0 else if s.sec.ownerLock then 2 else 1

/-- The board identity's subsystem word (R286, R392); without a complete sector 1020 the vendor's own (PRESUMED). -/
def State.subsystem (s : State) : Nat := if s.bst.complete 1020 then s.bst.u32 (1020 * sectorSize + 0x40) else 0x1F3D

def BankSt.code : BankSt → Nat
  | .off => 0
  | .precharge => 1
  | .boost => 2
  | .full => 3
  | .testing => 4
  | .holding => 5
  | .fault => 6

/-- Entries of one value each, in the ranges 0x1000 to 0x2100, by index · 256 + sub-index. -/
def State.roLow (s : State) : AMap Nat := [
  (0x100002, if s.bst.calibOk then s.bst.serial.toNat else 0), (0x100005, s.boot.source), (0x100006, s.subsystem),
  (0x100100, bit s.media.qlc), (0x100101, s.media.dies_.length), (0x100102, s.media.liveDies.length),
  (0x100103, ((s.media.dies_.map chOf).dedup).length), (0x100104, s.media.payload), (0x100105, bit s.service),
  (0x110000, s.clocks.opsec.toNat), (0x110001, s.clocks.pcc.toNat),
  (0x110002, (match s.clocks.ts with
    | .never => 0
    | .running => (s.clocks.hostTs s.tb.count).getD 0
    | .stopped => (s.clocks.tsP.map (fun t => t.1 + (s.clocks.opsec.toNat - t.2) * 1000)).getD 0)),
  (0x110003, (match s.clocks.ts with
    | .never => 0
    | .running => 1
    | .stopped => 2)),
  (0x110004, s.tb.count.toNat), (0x110005, s.evr.suppTotal.toNat), (0x200000, bit s.dual),
  (0x210003, s.cmq.locks.length), (0x210004, s.cmq.stallTotal.toNat), (0x210005, s.cmq.fseq), (0x210006, s.cmq.abandonTotal.toNat)]

/-- The ranges 0x3000 to 0x3400. -/
def State.roMedia (s : State) : AMap Nat := [
  (0x300000, s.land.limit), (0x300001, bit s.land.wt), (0x310200, s.media.markMissed.toNat), (0x310201, s.media.markDual.toNat),
  (0x330001, s.media.spare.toNat), (0x330002, s.media.guaranteed), (0x330003, s.media.residency), (0x330004, s.media.written),
  (0x330006, s.media.fill * 100 / 1572864), (0x330007, s.media.charged - s.media.pool), (0x330009, s.media.passes),
  (0x332004, (s.media.pounces.filter (fun e => e.2.pending)).length), (0x332006, bit (s.media.pounces.any (fun e => e.2.emerg))),
  (0x333000, s.media.spread), (0x333001, s.media.eraseMean), (0x334000, s.media.handleMax), (0x334001, s.media.activeMax),
  (0x340000, s.plp.state.code), (0x340001, bit s.plp.ready), (0x340002, s.plp.cMeas.toNat), (0x340003, s.plp.esrMeas.toNat),
  (0x340004, s.plp.eFull.toNat), (0x340005, s.brim), (0x340006, s.plp.cInit.getD 0), (0x34000F, s.plp.lastFlush),
  (0x340010, s.plp.lastRecovery.toNat), (0x340011, s.media.lostTotal.toNat)]

/-- The ranges 0x4000 to 0x5200. -/
def State.roMid (s : State) : AMap Nat := [
  (0x400000, s.dram.failedReg), (0x400003, s.dram.ceTotal.toNat), (0x400004, s.dram.ueTotal.toNat), (0x400007, bit s.dram.degraded),
  (0x410002, s.sdm.lentErrors.toNat),
  (0x500000, (if s.sec.meshBroken then 2 else if s.sec.tampered then 1 else 0)), (0x500001, s.sec.causes.toNat), (0x500002, s.ownerState),
  (0x500005, bit (!s.sec.debugUnlocked)), (0x500006, s.sec.kpioCount), (0x500007, s.sec.rangeCount), (0x500008, bit (!s.sec.entropyBad)),
  (0x510000, s.boot.ledgerCount), (0x510001, max 4096 (s.boot.ledgerCount - 1044480)), (0x511000, s.evr.next),
  (0x520000, upCode s.boot.state), (0x520001, s.boot.imageSeq.toNat), (0x520002, s.boot.confirmedSeq.toNat), (0x520003, s.boot.svnMin),
  (0x520004, s.trialRemain), (0x520008, s.boot.lastRefusal.toNat), (0x520009, s.boot.fallbacks.toNat)]

/-- The ranges 0x6000 and 0x7F00. -/
def State.roHigh (s : State) : AMap Nat := [
  (0x600000, s.pws.ps), (0x600002, (s.effCap.map (·.1)).getD 0), (0x600003, s.avs.power), (0x600004, s.avs.vcore),
  (0x600007, s.pws.abandonTotal.toNat), (0x600008, 256 * s.pws.hsDomain.toNat + s.pws.hsReason.toNat), (0x600009, bit s.pws.wakeFault),
  (0x60000A, s.pws.wakeTime.toNat), (0x601100, s.pws.level), (0x601103, bit s.pws.thermBad),
  (0x602004, s.board.ledFault[0].toNat + 4 * s.board.ledFault[1].toNat + 16 * s.board.ledFault[2].toNat),
  (0x602005, s.board.btn.toNat), (0x602006, bit s.board.mbSel), (0x602008, bit s.board.debugPresent),
  (0x602009, bit s.board.peDual + 2 * bit s.board.mbSel + 4 * bit s.board.testScan),
  (0x7F0000, dictTable.length), (0x7F0004, s.dict.overrides.toNat), (0x7F0005, s.dict.bmcDropped.toNat)]

/-- Entries that exist once for each unit: namespace, step, port, channel, class, page, sector, sensor. -/
def State.roUnit (s : State) (index n : Nat) : Nat :=
  let p : Fin 2 := Fin.ofNat 2 n
  let f := s.media.fch[Fin.ofNat 64 n]
  if index = 0x2001 then s.linkStatus p
  else if index = 0x2003 then s.ports[p].cnt.stat
  else if index = 0x2004 then s.ports[p].cnt.total.toNat
  else if index = 0x3010 then ((s.media.namespaces.get? n).map (fun x => x.charged * 16)).getD 0
  else if index = 0x3012 then s.media.ratio n
  else if index = 0x3101 then s.media.stepTotal[Fin.ofNat 8 n].toNat
  else if index = 0x3103 then s.stepCap p
  else if index = 0x3200 then f.state.toNat
  else if index = 0x3201 then f.failed.toNat
  else if index = 0x3202 then f.pinLatch.toNat
  else if index = 0x3203 then f.eyeMin
  else if index = 0x3204 then f.rateNow
  else if index = 0x4001 then (s.dch (Fin.ofNat 16 n)).eyeReg
  else if index = 0x4013 then s.dram.cuts[Fin.ofNat 12 n].toNat
  else if index = 0x5001 then (s.vault.pages[Fin.ofNat 16 n]).refused.toNat
  else if 0x5120 ≤ index ∧ index ≤ 0x5123 then (s.bst.shadowOf ((index - 0x5120) * 256 + n)).entry
  else if index = 0x6010 then s.pws.temps[Fin.ofNat 12 n].1.toNat
  else 0

/-- A number that the device computes. -/
def State.roNum (s : State) (index sub : Nat) : Nat :=
  let k := index * 256 + sub
  match (s.roLow ++ s.roMedia ++ s.roMid ++ s.roHigh).find? (fun (e : Nat × Nat) => e.1 = k) with
  | some e => e.2
  | none => s.roUnit index sub

/-- The 32 best fulling candidates (0x3310/0x06): stripe, u in 1/65,536, age in hours. -/
def State.victimList (s : State) : List Byte :=
  let cs := (s.candidates.filter (fun c => decide (c.2.2 < c.2.1.total))).mergeSort (fun a b => decide (s.scoreOf b ≤ s.scoreOf a))
  padTo 384 0 ((cs.take 32).flatMap (fun c =>
    leBytes 4 c.1 ++ leBytes 2 (c.2.2 * 65536 / max 1 c.2.1.total) ++ leBytes 2 0 ++
      leBytes 4 ((s.clocks.opsec.toNat - c.2.1.closedAt) / 3600)))

/-- ASCII, padded with 0x00. -/
def strBytes (n : Nat) (x : String) : List Byte := padTo n 0 (x.toList.map (fun c => BitVec.ofNat 8 c.toNat))

/-- The entries that are not numbers; none for the others. `req` is the requester. -/
def State.roBytes (s : State) (req index n : Nat) : Option (List Byte) :=
  if index = 0x1000 ∧ n = 3 then some (strBytes 4 "B1")
  else if index = 0x1000 ∧ n = 4 then some (padTo 8 0 (imgRev s.boot.run))
  else if index = 0x3210 ∧ n = 6 then some (padTo 32 0 (match s.media.profile with
    | some p => Config.standardReply 0x3210 p.id
    | none => []))
  else if index = 0x3310 ∧ n = 6 then some s.victimList
  else if index = 0x5000 ∧ n = 3 then some (match s.sec.owner with
    | some k => padTo 48 0 (Config.sha384 k)
    | none => List.replicate 48 0)
  else if index = 0x5101 then
    let i := s.dict.own req 0x5100 2 + n
    some (match s.boot.ledger.find? (fun r => r.index = i) with
      | some r => r.bytes
      | none => List.replicate 256 0)
  else if index = 0x5102 ∧ n = 1 then
    let id := padTo 8 0 ((s.dict.perReq.get? (reqKey req 0x5102 0)).getD [])
    some (padTo 2048 0 (match s.boot.akCerts.find? (fun c => c.1 == id) with
      | some c => leBytes 2 c.2.length ++ c.2
      | none => []))
  else if index = 0x5111 then
    let i := s.dict.own req 0x5110 1 + n
    some (match s.evr.recs.find? (fun r => r.seq = i) with
      | some r => r.bytes
      | none => List.replicate 64 0)
  else if index = 0x7F01 then some (match dictTable[s.dict.own req 0x7F00 2 + n]? with
    | some d => d.bytes
    | none => List.replicate 64 0)
  else if index = 0x7F02 then some (match s.dict.bmcRing.get? n with
    | some r => r.bytes
    | none => List.replicate 16 0)
  else none

/-! ### A read (R475, R479, R486) -/

/-- The entry exists: sub-index 1 of 0x3103 only in dual-port mode. -/
def State.entryOf (s : State) (index sub : Nat) : Option Desc64 :=
  if index = 0x3103 ∧ sub = 1 ∧ !s.dual then none else descOf index sub

/-- The value of an entry that may be read. -/
def State.entryValue (s : State) (d : Desc64) (req index sub : Nat) : List Byte :=
  if d.access = 4 then leBytes d.size d.default
  else if d.access = 0 then (s.roBytes req index sub).getD (leBytes d.size (s.roNum index sub))
  else if d.flags % 2 = 1 then padTo d.size 0 ((s.dict.perReq.get? (reqKey req index sub)).getD (leBytes d.size d.default))
  else if index = 0x7002 ∧ ((s.media.namespaces.get? sub).map (·.zoned)).getD false then leBytes 1 2
  else match s.dict.vals.get? (index * 256 + sub) with
    | some v => v.bytes
    | none => leBytes d.size d.default

/-- STATUS and value of a read. -/
def State.readEntry (s : State) (req index sub : Nat) : Nat × List Byte :=
  match s.entryOf index sub with
  | none => (1, [])
  | some d => if d.access = 3 then (2, []) else (0, s.entryValue d req index sub)

/-- WRITER, W_OPSEC and W_PCC of an entry (R484). -/
def State.writeMark (s : State) (index sub : Nat) : Nat × Nat × Nat :=
  match s.dict.vals.get? (index * 256 + sub) with
  | some v => (v.writer.toNat, v.opsec, v.pcc)
  | none => (0, 0, 0)

end Sys2Proof.Machine
end

