-- ==== Sys2Proof/Machine/Dict.lean ====
section
/-! DEFINITION. Chapter 15: requests to the dictionary (R483 to R489, R496), the commit point (R490 to R495), what an entry's
change does (R498 to R501 and each entry's own rule), DEFAULTS (R478). -/

namespace Sys2Proof.Machine

open Sys2Proof

/-! ### Staging (R430) -/

/-- Staging is erased and unbound. -/
def State.clearStaging (s : State) : State :=
  { s with
    bst := (List.range 256).foldl (fun (b : Bst) i => if b.blank (stagingFirst + i) then b else b.erased (stagingFirst + i)) s.bst
    boot := { s.boot with staged := [], bound := none, committed := false, pieces := [] } }

/-! ### Responses (R484, R486, R488) -/

/-- A message of a function goes to the host unless the function is contained or IDE keeps it back. -/
def State.msg (s : State) (p : Fin 2) (vec : Nat) : State :=
  if s.ports[p].cnt.active ∨ !s.mayWrite p then s else s.emit (.msix p vec)

def State.setMbox (s : State) (p : Fin 2) (f : Mailbox → Mailbox) : State :=
  { s with dict := { s.dict with mbox := s.dict.mbox.upd p f } }

/-- A mailbox request ends. -/
def State.mboxEnd (s : State) (p : Fin 2) (tag : BitVec 64) (st : Nat) (mark : Nat × Nat × Nat) (value : List Byte) : State :=
  let b := s.dict.mbox[p]
  let s := s.setMbox p (fun b => { b with
    busy := false, done := true, code := BitVec.ofNat 8 st, tag := tag, writer := BitVec.ofNat 8 mark.1, wOpsec := mark.2.1
    wPcc := mark.2.2, value := value })
  if b.doneIe ∧ !b.done then s.msg p b.vec.toNat else s

/-- The response to a requester: port 0 or 1, or the management bus. -/
def State.respond (s : State) (v : Option (Fin 2)) (tag : BitVec 64) (st : Nat) (mark : Nat × Nat × Nat) (value : List Byte) : State :=
  match v with
  | some p => s.mboxEnd p tag st mark value
  | none => s.emit (.miReply st mark.1 (leBytes 8 mark.2.1 ++ leBytes 4 mark.2.2 ++ leBytes 4 0 ++ value))

/-- The port of a writer code. -/
def portOf (writer : Nat) : Option (Fin 2) := if writer = 1 then some 0 else if writer = 2 then some 1 else none

/-- A write of a writer completes; owner commands have their own result (R384). -/
def State.ack (s : State) (w : WinWrite) (st index sub : Nat) : State :=
  if 4 ≤ w.writer.toNat then s else s.respond (portOf w.writer.toNat) w.tag st (s.writeMark index sub) []

/-! ### What a value in force does -/

/-- Every slice's read channel, every channel, every arbiter class. -/
def State.allRdc (s : State) (f : Rdc → Rdc) : State := s.setMedia (fun m => { m with rdc := m.rdc.all f })
def State.allFch (s : State) (f : Fch → Fch) : State := s.setMedia (fun m => { m with fch := m.fch.all f })
def State.allArb (s : State) (k : Nat) (f : ArbReq → ArbReq) : State :=
  s.setDram (fun d => { d with chs := d.chs.all (fun c => { c with arb := c.arb.upd (Fin.ofNat 12 k) f }) })

/-- A new spare setting fixes the guaranteed capacity at the present payload, and may end the read-only state (R221, R222). -/
def State.setSpare (s : State) (pct : Nat) : State :=
  let s := s.setMedia (fun m => { m with guaranteed := m.payload * (100 - pct) / 100 })
  if s.media.spareLow then s.checkSpare else s.setMedia (fun m => { m with readOnly := false })

/-- PFAIL_IN and the locate function are both enabled: PFAIL_IN wins (R237). -/
def State.pfailOverLocate (s : State) : State :=
  if s.param 0x3400 0x0A = 1 ∧ s.param 0x6020 3 = 1 then s.log 0x7310 0x40 else s

/-- Every pending pounce starts (R209, R499). -/
def State.runPounces (s : State) : State :=
  ((s.media.pounces.filter (fun e => e.2.pending)).map (·.1)).foldl State.startPounce s

/-- Host-directed power states: APSTE is cleared and an uncommitted APST entry is abandoned (R499). -/
def State.hostDirected (s : State) : State :=
  let s : State := { s with cmq := { s.cmq with ctrls := s.cmq.ctrls.all (fun c => { c with feat := { c.feat with apste := false } }) } }
  match s.pws.entry with
  | some e => if e.apst ∧ e.phase < 3 then s.abandonEntry 0xFF 0 else s
  | none => s

/-- Autonomous power states again: a table that the host wrote applies from the next idle period (R499). -/
def State.autonomous (s : State) : State :=
  let on (c : Ctrl) : Ctrl := { c with feat := { c.feat with apste := c.feat.apste || (c.feat.apst.getD []) != [] } }
  { s with cmq := { s.cmq with ctrls := s.cmq.ctrls.all on } }

/-- A mode of the 0x7000 range changes (R499). -/
def State.modeChanges (s : State) (sub v : Nat) : State :=
  match sub with
  | 1 =>
    let s := s.setMedia (fun m => { m with window := false, target := if v = 0 then none else m.target })
    if v = 0 then s.pickVictim else s
  | 2 => if v = 0 then s.runPounces else s
  | 3 => if v = 1 then s.hostDirected else s.autonomous
  | 4 => s.setDram (fun d => { d with retrainEn := decide (v = 0) })
  | _ => s

/-- What the value now in force of entry `index`/`sub` does; `old` is the value before it. -/
def State.applyEntry (s : State) (index sub old : Nat) : State :=
  let v := s.param index sub
  let on := decide (v = 1)
  match index with
  | 0x2000 => if sub = 4 then s.portList.foldl (fun s p => (s.tryReady p).postHeld p) s else s
  | 0x3100 =>
    if sub = 8 then s.allRdc (fun r => { r with naEn := on })
    else if sub = 9 then s.allRdc (fun r => { r with exportEn := on })
    else s
  | 0x3210 =>
    if sub = 0 then s.allFch (fun f => { f with esusp := on })
    else if sub = 1 then s.allFch (fun f => { f with psusp := on })
    else s
  | 0x3300 => if sub = 0 then s.setSpare v else s
  | 0x3310 => if sub ≤ 1 then s.pickVictim else s
  | 0x3400 => match sub with
    | 0x09 => s.setPlp (fun p => { p with chgI := BitVec.ofNat 8 (v / 10) })
    | 0x0A =>
      let s := s.setPlp (fun p => { p with pfailEn := on })
      if on then s.pfailOverLocate else s
    | 0x0B => s.setPlp (fun p => { p with vhostThr := BitVec.ofNat 8 (v / 100) })
    | 0x0C | 0x0D => s.recompute.resumeAll
    | _ => s
  | 0x4010 => s.allArb sub (fun a => { a with prio := BitVec.ofNat 2 v })
  | 0x4011 => s.allArb sub (fun a => { a with starve := BitVec.ofNat 10 v })
  | 0x4012 => s.allArb sub (fun a => { a with maxHold := BitVec.ofNat 10 v })
  | 0x4100 => if sub = 1 then s.holdShares else s
  | 0x5124 => s.setBst (fun b => { b with autoSusp := on })
  | 0x6020 => if sub = 3 ∧ on then s.pfailOverLocate else s
  | 0x7000 => if v = old then s else s.modeChanges sub v
  | _ => s

/-- A value takes force under its writer; an RWP value enters the value log (R477, R484, R493, R494). -/
def State.putEntry (s : State) (index sub writer : Nat) (value : List Byte) : State :=
  let old := s.param index sub
  let x : DictVal := { bytes := value, writer := BitVec.ofNat 8 writer, opsec := s.clocks.opsec.toNat, pcc := s.clocks.pcc.toNat }
  let d : Dict := { s.dict with vals := s.dict.vals.put (index * 256 + sub) x }
  let kept := ((descOf index sub).map (fun e => decide (e.access = 2))).getD false
  State.applyEntry { s with dict := if kept then d.logValue (index * 256 + sub) x else d } index sub old

/-! ### DEFAULTS (R478) -/

/-- A descriptor's entries return to their defaults: RW and RWP, with the three exceptions of R478. -/
def Desc64.resets (d : Desc64) : Bool :=
  (decide (d.access = 1) || decide (d.access = 2)) && !decide (d.authority = 3) && !decide (d.flags % 2 = 1)

def State.defaultsApply (s : State) (writer : Nat) : State :=
  (dictTable.filter Desc64.resets).foldl (fun s d =>
    (List.range (d.subLast + 1 - d.subFirst)).foldl (fun s i =>
      let sub := d.subFirst + i
      let kept := (decide (d.flags / 4 % 2 = 1) && s.media.namespaces.has sub) ||
        (decide (d.index = 0x3300) && decide (sub = 0) && decide (s.media.payload * (100 - d.default) / 100 < s.media.plainBytes))
      if kept then s else s.putEntry d.index sub writer (leBytes d.size d.default)) s) s

/-! ### Write-only entries (R491) -/

/-- A write of `v` to a WO entry acts. HEALTH_TOKEN is written by E28 and E29 only, and has a command of its own. -/
def State.actWo (s : State) (writer index sub v : Nat) : State :=
  if index = 0x4000 then
    (maskChs (BitVec.ofNat 16 v)).foldl (if sub = 5 then State.wantCycle else State.wantFull) s
  else if index = 0x3310 then
    if s.param 0x7000 1 = 0 then s
    else if sub = 4 then (s.setMedia (fun m => { m with window := true })).pickVictim
    else if s.candidates.any (fun c => decide (c.1 = v)) then (s.setMedia (fun m => { m with target := some v })).pickVictim
    else s
  else if v ≠ 1 then s
  else if index = 0x2002 then s.contain (Fin.ofNat 2 sub) 1
  else if index = 0x3320 then s.runPounces
  else if index = 0x3400 ∧ sub = 8 then (s.setPlp (fun p => { p with due := p.due + 1, testNow := true })).tryTest
  else if index = 0x3400 then s.setPlp (fun p => { p with cInitReset := true })
  else if index = 0x5200 ∧ sub = 7 then s.clearStaging
  else if index = 0x7F00 then s.defaultsApply writer
  else s

/-! ### Checks of a write (R474, R476, R486, R492) -/

/-- A value that the type, MIN, MAX or the description does not allow (R474, R482). -/
def badValue (d : Desc64) (v : Nat) : Bool :=
  decide (d.type ≠ 8) && decide (d.type ≠ 9) && (decide (v < d.min) || decide (d.max < v)) ||
  (decide (d.index = 0x6000) && decide (d.subFirst = 1) && decide (1 ≤ v) && decide (v < 150)) ||
  (decide (d.index = 0x2100) && decide (v % 32 ≠ 0))

/-- The entry's description does not allow the change now (R221, R218, R501). -/
def State.stateForbids (s : State) (d : Desc64) (sub v : Nat) : Bool :=
  (decide (d.flags / 4 % 2 = 1) && s.media.namespaces.has sub) ||
  (decide (d.index = 0x3300) && decide (sub = 0) && decide (s.media.payload * (100 - v) / 100 < s.media.plainBytes)) ||
  (decide (d.index = 0x7001) && decide (v = 1) && !s.media.fdp) ||
  (decide (d.index = 0x7002) && decide (v ≠ 2) && ((s.media.namespaces.get? sub).map (·.zoned)).getD false)

/-- The writer set's bit of a writer code (R480). -/
def writerBit (writer : Nat) : Nat := if writer ≤ 2 then 0 else writer - 2

/-- The first check that a write fails on arrival at the commit point. -/
def State.writeRefused (s : State) (writer index sub : Nat) (value : List Byte) : Option Nat :=
  match s.entryOf index sub with
  | none => some 1
  | some d =>
    let v := ofLeBytes value
    if d.access = 0 ∨ d.access = 4 then some 2
    else if !d.writers.testBit (writerBit writer) then some 3
    else if value.length ≠ d.size then some 5
    else if badValue d v then some 4
    else if s.stateForbids d sub v then some 6
    else none

/-- The ranges that depend on another entry (R482): FREE_HI and FREE_LO. -/
def State.dependsOk (s : State) (index sub v : Nat) : Bool :=
  if index = 0x3310 ∧ sub = 0 then decide (s.param 0x3310 1 + 2 ≤ v)
  else if index = 0x3310 ∧ sub = 1 then decide (s.param 0x3310 2 + 2 ≤ v) && decide (v + 2 ≤ s.param 0x3310 0)
  else true

/-! ### The commit window (R490 to R495) -/

/-- The writes of a window, first in rank first (R492). -/
def rankWrites (authority : Nat) (ws : List WinWrite) : List WinWrite :=
  let late := ws.reverse
  let fw := late.filter (fun w => w.writer == 4)
  let rest := late.filter (fun w => !(w.writer == 4))
  let bus := rest.filter (fun w => w.writer == 3)
  let host := rest.filter (fun w => !(w.writer == 3))
  fw ++ (if authority = 0 then host ++ bus else if authority = 1 then bus ++ host else rest)

/-- A port's ring takes a record; with 31 unread records it is dropped and OVERFLOW is set. -/
def State.ringPut (s : State) (p : Fin 2) (n : Ntf) : State :=
  let b := s.dict.mbox[p]
  if (b.wr - b.rd).toNat = 31 then s.setMbox p (fun b => { b with overflow := true })
  else
    let s := s.setMbox p (fun b => { b with ring := b.ring.put b.wr.toNat n, wr := b.wr + 1, ntf := true })
    if b.ntfIe ∧ !b.ntf then s.msg p b.vec.toNat else s

/-- The management bus ring takes a record, or drops it while its slot is not read. -/
def State.busRingPut (s : State) (n : Ntf) : State :=
  let d := s.dict
  (if d.bmcRing.has d.bmcNext then { s with dict := { d with bmcDropped := d.bmcDropped + 1 } }
   else { s with dict := { d with bmcRing := d.bmcRing.put d.bmcNext n, bmcNext := (d.bmcNext + 1) % 32 } }).emit (.miNotify 0xC7 n.index)

/-- A write that lost: its status, the notification, event 0x6401, OVERRIDES (R492, R495). -/
def State.overridden (s : State) (index sub : Nat) (winner : Byte) (w : WinWrite) : State :=
  let n : Ntf := { index := index, sub := sub, winner := winner, opsec := s.clocks.opsec.toNat }
  let s : State := { s with dict := { s.dict with overrides := s.dict.overrides + 1 } }
  let s := s.ack w 0xC7 index sub
  let s := match portOf w.writer.toNat with
    | some p => s.ringPut p n
    | none => if w.writer == 3 then s.busRingPut n else s
  s.log 0x6401 0x20 (leBytes 2 index ++ leBytes 1 sub ++ [winner, w.writer])

/-- A window closes: the highest-ranked write that passes the dependent ranges takes force. -/
def State.closeWindow (s : State) (index sub : Nat) : State :=
  match s.dict.windows.get? (index * 256 + sub) with
  | none => s
  | some ws =>
    let s : State := { s with dict := { s.dict with windows := s.dict.windows.del (index * 256 + sub) } }
    let ranked := rankWrites (((s.entryOf index sub).map (·.authority)).getD 2) ws
    let above := ranked.takeWhile (fun w => !s.dependsOk index sub (ofLeBytes w.value))
    let s0 := s
    match ranked.dropWhile (fun w => !s0.dependsOk index sub (ofLeBytes w.value)) with
    | [] => above.foldl (fun s w => s.ack w 4 index sub) s
    | w :: below =>
      let s := (s.putEntry index sub w.writer.toNat w.value).ack w 0 index sub
      let s := above.foldl (fun s w => s.ack w 4 index sub) s
      below.foldl (fun s x => s.overridden index sub w.writer x) s

/-- A write that passed its checks: a WO or per-requester entry acts at once, any other joins its entry's window. -/
def State.commitWrite (s : State) (d : Desc64) (index sub : Nat) (w : WinWrite) : State :=
  if d.access = 3 then (s.actWo w.writer.toNat index sub (ofLeBytes w.value)).ack w 0 index sub
  else if d.flags % 2 = 1 then
    State.ack { s with dict := { s.dict with
      perReq := s.dict.perReq.put (reqKey (reqOf w.writer.toNat) index sub) w.value } } w 0 index sub
  else
    let ws := (s.dict.windows.get? (index * 256 + sub)).getD []
    let s : State := { s with dict := { s.dict with windows := s.dict.windows.put (index * 256 + sub) (ws ++ [w]) } }
    match portOf w.writer.toNat with
    | some p => s.setMbox p (fun b => { b with busy := true })
    | none => s

/-! ### Requests (R484, R487, R496) -/

/-- Entries that the recovery image serves. -/
def recoveryServes (index : Nat) : Bool := [0x10, 0x11, 0x50, 0x51, 0x52, 0x7F].contains (index / 256)

def writerOf : Option (Fin 2) → Nat
  | some p => p.val + 1
  | none => 3

/-- Read: reading a record of the management bus ring frees its slot (R495). -/
def State.doRead (s : State) (v : Option (Fin 2)) (r : DictReq) : State :=
  let x := s.readEntry (reqOf (writerOf v)) r.index.toNat r.sub.toNat
  let s := s.respond v r.tag x.1 (s.writeMark r.index.toNat r.sub.toNat) x.2
  if r.index = 0x7F02 ∧ x.1 = 0 then { s with dict := { s.dict with bmcRing := s.dict.bmcRing.del r.sub.toNat } } else s

/-- Describe: the management bus gets the descriptor alone (R487). -/
def State.doDescribe (s : State) (v : Option (Fin 2)) (r : DictReq) : State :=
  match s.entryOf r.index.toNat r.sub.toNat with
  | some d => match v with
    | some _ => s.respond v r.tag 0 (0, 0, 0) d.bytes
    | none => s.emit (.miReply 0 0 d.bytes)
  | none => s.respond v r.tag 1 (0, 0, 0) []

def State.doWrite (s : State) (v : Option (Fin 2)) (r : DictReq) : State :=
  match s.writeRefused (writerOf v) r.index.toNat r.sub.toNat r.value, s.entryOf r.index.toNat r.sub.toNat with
  | none, some d => s.commitWrite d r.index.toNat r.sub.toNat { writer := BitVec.ofNat 8 (writerOf v), value := r.value, tag := r.tag }
  | some st, _ => s.respond v r.tag st (s.writeMark r.index.toNat r.sub.toNat) []
  | none, none => s

/-- A request is handled: OP 1 read, 2 write, 3 describe. -/
def State.handle (s : State) (v : Option (Fin 2)) (op : Nat) (r : DictReq) : State :=
  if s.boot.source = 2 ∧ !recoveryServes r.index.toNat then s.respond v r.tag 7 (0, 0, 0) []
  else match op with
    | 1 => s.doRead v r
    | 2 => s.doWrite v r
    | 3 => s.doDescribe v r
    | _ => s.respond v r.tag 9 (0, 0, 0) []

/-- Requests wait: before firmware runs the commit point, in deep rest, and from a ferry crossing to its landing (R496). -/
def State.dictWaits (s : State) : Bool :=
  (match s.phase with
   | .auxReset | .supplies | .rom | .slipway | .firmware | .deepRest => true
   | _ => false) || s.boot.ferry == .drained

/-- The firmware that runs the commit point serves. -/
def State.dictServes (s : State) : Bool := s.phase == .recovering || s.phase == .running

/-- A write of the management bus waits in a window: its requests are taken one at a time (R488). -/
def Dict.busBusy (d : Dict) : Bool := d.windows.any (fun e => e.2.any (fun w => w.writer == 3))

def State.holdReq (s : State) (v : Option (Fin 2)) (op : Nat) (r : DictReq) : State :=
  { s with dict := { s.dict with held := s.dict.held ++ [(v, op, r)] } }

/-- A request through the mailbox of a port. -/
def State.mailbox (s : State) (p : Fin 2) (op : Nat) (r : DictReq) : State :=
  if !s.linkUp p then s
  else if s.asleep then s.emit (.tlp p .ca)
  else if !(s.dictServes || s.dictWaits) then s
  else if s.param 0x2000 4 = 1 ∧ s.ports[p].ide ≠ .secure then s.emit (.tlp p .discarded)
  else if s.dict.mbox[p].busy then s.setMbox p (fun b => { b with code := 8 })
  else if s.dictWaits then (s.setMbox p (fun b => { b with busy := true })).holdReq (some p) op r
  else s.handle (some p) op r

/-- What the auxiliary domain answers while the core is down in a fault (R496). -/
def State.auxAnswer (s : State) (op : Nat) (r : DictReq) : State :=
  if op = 1 ∧ ((r.index = 0x1000 ∧ r.sub.toNat ≤ 2) ∨ (r.index = 0x6000 ∧ r.sub = 9)) then s.doRead none r
  else s.respond none r.tag 7 (0, 0, 0) []

/-- A request of the management bus. -/
def State.busRequest (s : State) (op : Nat) (r : DictReq) : State :=
  match s.phase with
  | .bootFault | .wakeFault | .thermalOff => s.auxAnswer op r
  | _ =>
    if s.dictWaits ∨ (s.dictServes && s.dict.busBusy) then s.holdReq none op r
    else if s.dictServes then s.handle none op r
    else s

/-- A request of either master. -/
def State.request (s : State) (v : Option (Fin 2)) (op : Nat) (r : DictReq) : State := match v with
  | some p => s.mailbox p op r
  | none => s.busRequest op r

/-- Held requests are handled in their order, as far as they need not wait on. -/
def State.serveDict (s : State) : State :=
  if !s.dictServes ∨ s.dictWaits then s
  else
    let hs := s.dict.held
    hs.foldl (fun s h => match h.1 with
      | some p => (s.setMbox p (fun b => { b with busy := false })).handle h.1 h.2.1 h.2.2
      | none => if s.dict.busBusy then s.holdReq none h.2.1 h.2.2 else s.handle none h.2.1 h.2.2)
      { s with dict := { s.dict with held := [] } }

/-! ### Rows -/

/-- DICT_READ (R484, R486). -/
def execDictRead (p : Fin 2) (r : DictReq) (s : State) : Host.Outcome State Fault Refusal := .next (s.mailbox p 1 r)
/-- DICT_WRITE (R484, R490 to R494). -/
def execDictWrite (p : Fin 2) (r : DictReq) (s : State) : Host.Outcome State Fault Refusal := .next (s.mailbox p 2 r)
/-- DICT_DESCRIBE (R481, R484). -/
def execDictDescribe (p : Fin 2) (r : DictReq) (s : State) : Host.Outcome State Fault Refusal := .next (s.mailbox p 3 r)

/-- DICT_REQUEST_INVALID (R484, R486): an undefined OP, or a reserved field that is not 0. -/
def execDictRequestInvalid (p : Fin 2) (op : Byte) (tag : BitVec 64) (s : State) : Host.Outcome State Fault Refusal :=
  .next (s.mailbox p (if op.toNat ≤ 3 then 0 else op.toNat) { index := 0x1000, sub := 0, tag := tag })

/-- MI_DICT_READ, MI_DICT_WRITE, MI_DICT_DESCRIBE (R487, R488). -/
def execMiDictRead (r : DictReq) (s : State) : Host.Outcome State Fault Refusal := .next (s.busRequest 1 r)
def execMiDictWrite (r : DictReq) (s : State) : Host.Outcome State Fault Refusal := .next (s.busRequest 2 r)
def execMiDictDescribe (r : DictReq) (s : State) : Host.Outcome State Fault Refusal := .next (s.busRequest 3 r)

/-- COMMIT_WINDOW_CLOSE (R490, R492 to R495). -/
def execCommitWindowClose (index : BitVec 16) (sub : Byte) (s : State) : Host.Outcome State Fault Refusal :=
  .next (s.whenLive (fun s => (s.closeWindow index.toNat sub.toNat).serveDict))

/-- A write of a WO entry, by either master. -/
def State.woWrite (s : State) (v : Option (Fin 2)) (index : BitVec 16) (sub : Byte) (size x : Nat) : State :=
  s.request v 2 { index := index, sub := sub, value := leBytes size x }

/-- DEFAULTS (R478). -/
def execDefaults (v : Option (Fin 2)) (s : State) : Host.Outcome State Fault Refusal := .next (s.woWrite v 0x7F00 3 1 1)
/-- TEST_NOW (R228, R491). -/
def execTestNow (v : Option (Fin 2)) (s : State) : Host.Outcome State Fault Refusal := .next (s.woWrite v 0x3400 8 1 1)
/-- C_INIT_RESET (R233). -/
def execCInitReset (v : Option (Fin 2)) (s : State) : Host.Outcome State Fault Refusal := .next (s.woWrite v 0x3400 0x0E 1 1)
/-- FULL_WINDOW (R213). -/
def execFullWindow (v : Option (Fin 2)) (ms : Nat) (s : State) : Host.Outcome State Fault Refusal := .next (s.woWrite v 0x3310 4 4 ms)
/-- FULL_TARGET (R213). -/
def execFullTarget (v : Option (Fin 2)) (stripe : Nat) (s : State) : Host.Outcome State Fault Refusal :=
  .next (s.woWrite v 0x3310 5 4 stripe)
/-- POUNCE_RUN (R209). -/
def execPounceRun (v : Option (Fin 2)) (s : State) : Host.Outcome State Fault Refusal := .next (s.woWrite v 0x3320 5 1 1)

/-- BMC_NTF_READ: entry 0x7F02/n (R495). -/
def execBmcNtfRead (n : Fin 32) (s : State) : Host.Outcome State Fault Refusal :=
  .next (s.busRequest 1 { index := 0x7F02, sub := BitVec.ofNat 8 n.val })

/-- STAGING_DISCARD: entry 0x5200/0x07 (R430). -/
def execStagingDiscard (v : Option (Fin 2)) (s : State) : Host.Outcome State Fault Refusal := .next (s.woWrite v 0x5200 7 1 1)

end Sys2Proof.Machine
end

