-- ==== Sys2Proof/Machine/Owner.lean ====
section
/-! DEFINITION. Chapter 11, the owner (R383 to R389): nonces, owner commands by the host (Security Send, protocol 0xF1) and by
the management bus, presence. -/

namespace Sys2Proof.Machine

open Sys2Proof

/-- `f` on what carries an owner command: a fetched Security command of opcode `opc`, or the management bus. -/
def State.onVia (s : State) (v : Via) (opc : Nat) (f : State → State) : State := match v with
  | .host fseq => s.onAdmin fseq opc (fun _ s => f s)
  | .bmc => if s.dictServes then f s else s

/-- A Security command ends; the management bus has its response. -/
def State.viaEnd (s : State) (v : Via) (bytes : List Byte) : State := match v with
  | .host fseq => (s.emit (.reply fseq 0xF10000 (bytes.map (·.toNat)))).complete fseq .success
  | .bmc => s.emit (.miReply 0 0 bytes)

/-- OWNER_NONCE (R383): a new request replaces the old nonce. -/
def execOwnerNonce (v : Via) (s : State) : Host.Outcome State Fault Refusal :=
  .next (s.onVia v 0x82 (fun s =>
    let n := Config.drbg s.free
    let s : State := { s with
      free := s.free + 1
      sec := { s.sec with nonce := some (n, s.tb.count.toNat), drbgReq := s.sec.drbgReq + 1 } }
    s.viaEnd v (leBytes 32 n.toNat)))

/-- OWNER_RESULT (R386). -/
def execOwnerResult (v : Via) (s : State) : Host.Outcome State Fault Refusal :=
  .next (s.onVia v 0x82 (fun s => s.viaEnd v [s.sec.ownerResult]))

/-! ### Verification (R383 to R386) -/

/-- Bytes 0x00 to 0x8F of a command, which its signature covers (R384). -/
def ownerSigned (c : OwnerCmd) (opcode : Nat) : List Byte :=
  leBytes 4 c.magic.toNat ++ leBytes 2 opcode ++ leBytes 2 0 ++ leBytes 8 c.serial.toNat ++ leBytes 32 c.nonce.toNat ++ padTo 96 0 c.param

/-- The nonce is the one held, and no older than 120 s. -/
def State.nonceGood (s : State) (c : OwnerCmd) : Bool := match s.sec.nonce with
  | some (n, t) => n == c.nonce && decide (s.tb.count.toNat ≤ t + 12000000000)
  | none => false

/-- Why a command is rejected (R386); `badParam` is its opcode's own check. The order is the model's choice. -/
def State.ownerRefuses (s : State) (opcode : Nat) (c : OwnerCmd) (badParam : Bool) : Option Nat :=
  if c.magic ≠ 0x4F574E31 then some 6
  else if s.sealed then some 7
  else if !s.nonceGood c ∨ c.serial ≠ (if s.bst.calibOk then s.bst.serial else 0) then some 3
  else match (if opcode = 1 then some (padTo 96 0 c.param) else s.sec.owner) with
    | none => some 5
    | some key =>
      if !Config.ecdsaOk key (Config.sha384 (ownerSigned c opcode)) c.sig then some 2
      else if opcode = 1 ∧ s.sec.owner.isSome then some 5
      else if badParam then some 6
      else none

def State.setResult (s : State) (r : Nat) : State := s.setSec (fun k => { k with ownerResult := BitVec.ofNat 8 r })

/-- A command arrives: its nonce is used up; accepted, it sets the context register to page 15 (R357); rejected, it changes nothing else and writes event 0x5205. -/
def State.ownerCmd (s : State) (v : Via) (opcode : Nat) (c : OwnerCmd) (badParam : Bool) (act : State → State) : State :=
  s.onVia v 0x81 (fun s =>
    let why := s.ownerRefuses opcode c badParam
    let s := s.setSec (fun k => { k with nonce := none })
    let s := match why with
      | some r => (s.setResult r).log 0x5205 0x30 (leBytes 2 opcode ++ leBytes 1 r)
      | none => act (State.setResult { s with vault := { s.vault with context := 15 } } 0)
    s.viaEnd v [])

/-- A command that needs presence waits; the one that waited before is replaced, and its result becomes 0x04 (R387). -/
def State.awaitPresence (s : State) (opcode : Nat) (param : List Byte) : State :=
  let s := if s.sec.waiting.isSome then s.setResult 4 else s
  (s.setSec (fun k => { k with waiting := some { opcode := opcode, param := param } })).setResult 1

/-! ### Actions (R385, R389) -/

def State.keyEvent (s : State) (opcode : Nat) : State :=
  s.log 0x5203 0x30 (leBytes 2 opcode ++ (match s.sec.owner with
    | some k => (padTo 48 0 (Config.sha384 k)).take 8
    | none => List.replicate 8 0))

/-- What a waiting command does at the end of the hold. -/
def State.presenceAct (s : State) (w : OwnerWait) : State :=
  let key := padTo 96 0 w.param
  match w.opcode with
  | 1 => State.keyEvent (s.setSec (fun k => { k with owner := some key })) 1
  | 3 => (s.setSec (fun k => { k with ownerLock := false })).log 0x5202 0x30
  | 4 => State.keyEvent (s.setSec (fun k => { k with owner := some key })) 4
  | 7 => State.keyEvent (s.setSec (fun k => { k with owner := none, ownerLock := false })) 7
  | _ => s.setSec (fun k => { k with debugAuth := true })

/-- OWNER_TAKE_OWNERSHIP. -/
def execOwnerTakeOwnership (v : Via) (c : OwnerCmd) (s : State) : Host.Outcome State Fault Refusal :=
  .next (s.ownerCmd v 1 c (decide (c.param.length ≠ 96)) (fun s => s.awaitPresence 1 c.param))

/-- OWNER_SET_LOCK: event 0x5201. -/
def execOwnerSetLock (v : Via) (c : OwnerCmd) (s : State) : Host.Outcome State Fault Refusal :=
  .next (s.ownerCmd v 2 c false (fun s => (s.setSec (fun k => { k with ownerLock := true })).log 0x5201 0x30))

/-- OWNER_CLEAR_LOCK. -/
def execOwnerClearLock (v : Via) (c : OwnerCmd) (s : State) : Host.Outcome State Fault Refusal :=
  .next (s.ownerCmd v 3 c false (fun s => s.awaitPresence 3 []))

/-- OWNER_REPLACE_KEY. -/
def execOwnerReplaceKey (v : Via) (c : OwnerCmd) (s : State) : Host.Outcome State Fault Refusal :=
  .next (s.ownerCmd v 4 c (decide (c.param.length ≠ 96)) (fun s => s.awaitPresence 4 c.param))

/-- Index, sub-index and value of opcode 0x0005. -/
def entryParam (p : List Byte) : Nat × Nat × List Byte :=
  (field p 0 2, field p 2 1, ((padTo 96 0 p).drop 4).take (min 92 (field p 3 1)))

/-- OWNER_WRITE_ENTRY: the write reaches the commit point as writer 0x05 (R489). -/
def execOwnerWriteEntry (v : Via) (c : OwnerCmd) (s : State) : Host.Outcome State Fault Refusal :=
  let e := entryParam c.param
  .next (s.ownerCmd v 5 c (decide (92 < field c.param 3 1) || (s.writeRefused 5 e.1 e.2.1 e.2.2).isSome) (fun s =>
    match s.entryOf e.1 e.2.1 with
    | some d => s.commitWrite d e.1 e.2.1 { writer := 5, value := e.2.2, tag := 0 }
    | none => s))

/-- OWNER_PROVISION_SLOT2: the chain follows within 60 s (R385). -/
def execOwnerProvisionSlot2 (v : Via) (c : OwnerCmd) (s : State) : Host.Outcome State Fault Refusal :=
  .next (s.ownerCmd v 6 c (decide (c.param.length < 48)) (fun s =>
    s.setSec (fun k => { k with slot2Hash := some (c.param.take 48, s.tb.count.toNat) })))

/-- OWNER_RELEASE. -/
def execOwnerRelease (v : Via) (c : OwnerCmd) (s : State) : Host.Outcome State Fault Refusal :=
  .next (s.ownerCmd v 7 c false (fun s => s.awaitPresence 7 []))

/-- OWNER_AUTHORISE_DEBUG. -/
def execOwnerAuthoriseDebug (v : Via) (c : OwnerCmd) (s : State) : Host.Outcome State Fault Refusal :=
  .next (s.ownerCmd v 8 c false (fun s => s.awaitPresence 8 []))

/-! ### Presence (R387, R388) -/

/-- PRESENCE_HOLD: a hold of 3 s that began while a command waited; a stuck button gives no presence. -/
def execPresenceHold (beganInWindow : Bool) (s : State) : Host.Outcome State Fault Refusal :=
  .next (s.whenLive (fun s => match s.sec.waiting with
    | some w => if beganInWindow ∧ s.board.btn ≠ 2 then
        ((s.setSec (fun k => { k with waiting := none })).setResult 0).presenceAct w
      else s
    | none => s))

/-- PRESENCE_WINDOW_EXPIRE. -/
def execPresenceWindowExpire (s : State) : Host.Outcome State Fault Refusal :=
  .next (s.whenLive (fun s =>
    if s.sec.waiting.isSome then (s.setSec (fun k => { k with waiting := none })).setResult 4 else s))

end Sys2Proof.Machine
end

