-- ==== Sys2Proof/Machine/Firmware.lean ====
section
/-! DEFINITION. Chapter 13: Firmware Image Download and Commit (R430 to R434), ferry activation (R435, R436), health
confirmation (R438 to R440). -/

namespace Sys2Proof.Machine

open Sys2Proof

def State.setBoot (s : State) (f : Boot → Boot) : State := { s with boot := f s.boot }

/-! ### Guards (R431) -/

/-- Status Code Type and Status Code of the refusals. -/
def refusalCode : Status → Nat × Nat
  | .vsC1 => (7, 0xC1)
  | .vsC2 => (7, 0xC2)
  | .vsC3 => (7, 0xC3)
  | _ => (1, 0x13)

/-- Do Not Retry: the owner lock, and the tampered state or a failed security pair; 0 in every other refusal (R281, R431). -/
def refusalDnr : Status → Bool
  | .vsC2 | .fwActProhibitedDnr => true
  | _ => false

/-- An emergency pounce is unfinished. -/
def Media.emergency (m : Media) : Bool := m.pounces.any (fun e => e.2.emerg)

/-- A sensor of the junction reads above 100 °C: sensors 0 to 10 (R466). -/
def State.junctionHot (s : State) : Bool := ((List.finRange 12).filter (fun k => k.val < 11)).any (fun k => decide (1000 < s.pws.temps[k].1.toInt))

/-- The guards common to Download and Commit. -/
def State.fwGuard (s : State) : Option Status :=
  if s.sec.ownerLock then some .vsC2
  else if s.sec.tampered ∨ s.sec.pairFail then some .fwActProhibitedDnr
  else if !s.plp.ready then some .vsC1
  else none

/-- The guards of a Commit but the last. -/
def State.commitGuard (s : State) : Option Status :=
  match s.fwGuard with
  | some st => some st
  | none =>
    if s.media.replay ≠ [] ∨ s.media.rebuilding ∨ s.media.emergency then some .vsC3
    else if s.junctionHot then some .fwActProhibited
    else none

/-- An update is in progress. -/
def Boot.updating (b : Boot) : Bool := !(b.state == .confirmed || b.state == .written)

/-- A refusal: event 0x6003 and LAST_REFUSAL. -/
def State.noteRefusal (s : State) (src opc : Nat) (st : Status) : State :=
  let c := refusalCode st
  (s.setBoot (fun b => { b with lastRefusal := BitVec.ofNat 16 (c.1 * 256 + c.2) })).log 0x6003 src
    (leBytes 1 c.1 ++ leBytes 1 c.2 ++ leBytes 1 opc)

/-! ### Download (R430) -/

/-- The 4 KiB pieces of a range. -/
def pieceList (ofst len : Nat) : List Nat := (List.range (len / 4096)).map (· + ofst / 4096)

def Boot.covered (b : Boot) : List Nat := b.staged ++ b.pieces.flatMap (fun e => pieceList e.2.1 e.2.2.length)

def State.download (s : State) (c : Cmd) (fseq ofst : Nat) (bytes : List Byte) : State :=
  match s.fwGuard with
  | some st => (s.noteRefusal (s.portSrc c.port) 0x11 st).complete fseq st
  | none =>
    let b := s.boot
    if ofst % 4096 ≠ 0 ∨ bytes.length % 4096 ≠ 0 ∨ bytes.length = 0 ∨ 16760832 < ofst + bytes.length then s.complete fseq .invalidField
    else if b.bound.isSome ∧ b.bound ≠ some c.port then s.complete fseq .cmdSeqError
    else if (pieceList ofst bytes.length).any (fun i => b.covered.contains i) then s.complete fseq .overlappingRange
    else
      let s := if b.covered = [] then (s.setBoot (fun b => { b with bound := some c.port })).log 0x6001 (s.portSrc c.port) else s
      (s.setBoot (fun b => { b with pieces := b.pieces.put fseq (ofst, bytes) })).setCmd fseq (fun c => { c with phase := .waitData })

/-- FIRMWARE_IMAGE_DOWNLOAD. -/
def execFirmwareImageDownload (fseq ofst : Nat) (bytes : List Byte) (s : State) : Host.Outcome State Fault Refusal :=
  .next (s.onAdmin fseq 0x11 (fun c s => s.download c fseq ofst bytes))

/-- A run's bytes are programmed in their sectors (R427). -/
def Bst.putRun (b : Bst) (first : Nat) : Nat → List Byte → Bst
  | _, [] => b
  | o, x :: xs => ({ b with mem := memPut 0xFF b.mem (runAddr first o) x } : Bst).putRun first (o + 1) xs

/-- A staging sector's header: STATE 0x3F when it is begun, CRC and STATE 0x0F when it is complete (R404). -/
def Bst.beginSector (b : Bst) (x : Nat) : Bst :=
  if b.blank x then { b with mem := memWrite 0xFF b.mem (x * sectorSize) (sectorHeader 0x3F 2 0xFFFFFFFF 0xFFFFFFFF) } else b
def Bst.sealSector (b : Bst) (x : Nat) : Bst :=
  if b.blank x then b
  else
    let seq := imgSeq (b.run stagingFirst 512)
    { b with mem := memWrite 0xFF b.mem (x * sectorSize) (sectorHeader 0x0F 2 seq (crc32 (b.bytes (x * sectorSize + 0x40) 65472))) }

/-- Sectors of staging that a range touches, and those of them whose whole content has been written. -/
def touched (ofst len : Nat) : List Nat :=
  (List.range ((ofst + len - 1) / 65472 - ofst / 65472 + 1)).map (· + ofst / 65472)
def Boot.filled (b : Boot) (i : Nat) : Bool :=
  (List.range ((65472 * (i + 1) - 1) / 4096 - 65472 * i / 4096 + 1)).all (fun k => b.staged.contains (k + 65472 * i / 4096))

/-- A piece is programmed and read back. -/
def State.stagePiece (s : State) (ofst : Nat) (bytes : List Byte) : State :=
  let boot := { s.boot with staged := s.boot.staged ++ pieceList ofst bytes.length }
  let ts := touched ofst bytes.length
  let bst := ts.foldl (fun (b : Bst) i => b.beginSector (stagingFirst + i)) s.bst
  let bst := bst.putRun stagingFirst ofst bytes
  let bst := ts.foldl (fun (b : Bst) i => if boot.filled i then b.sealSector (stagingFirst + i) else b) bst
  { s with boot := boot, bst := bst }

def State.pieceDone (s : State) (fseq : Nat) (ok : Bool) : State :=
  match s.boot.pieces.get? fseq with
  | none => s
  | some (ofst, bytes) =>
    let s := s.setBoot (fun b => { b with pieces := b.pieces.del fseq })
    if ok then (s.stagePiece ofst bytes).complete fseq .success
    else
      let s := ({ s with free := s.free + bytes.length } : State).stagePiece ofst (undefBytes s.free bytes.length)
      (s.log 0x1010 0x20 (leBytes 2 (stagingFirst + ofst / 65472) ++ leBytes 1 s.bst.status)).complete fseq .internalError

/-- DOWNLOAD_PIECE_PROGRAMMED. -/
def execDownloadPieceProgrammed (fseq : Nat) (ok : Bool) (s : State) : Host.Outcome State Fault Refusal :=
  .next (s.whenLive (fun s => s.pieceDone fseq ok))

/-! ### Commit (R432 to R434) -/

/-- The owner key, where check 5 of R428 applies. -/
def State.cosign (s : State) : Option (List Byte) := if s.param 0x5200 6 = 1 then some (s.sec.owner.getD []) else none

/-- Staging's sectors that are not complete yet are completed. -/
def State.sealStaging (s : State) : State :=
  { s with bst := (List.range 256).foldl (fun (b : Bst) i =>
      if b.complete (stagingFirst + i) then b else b.sealSector (stagingFirst + i)) s.bst }

def State.fwVerify (s : State) (img : List Byte) : Option Nat := verifyImage img s.cosign (some s.boot.svnMin)

/-- The image-area write starts: record WRITING, and the first sector is erased. -/
def State.startWrite (s : State) (fseq action : Nat) (img : List Byte) : State :=
  let s := s.record (fun b => { b with
    state := .writing, imageSeq := BitVec.ofNat 32 (imgSeq img), prevSeq := BitVec.ofNat 32 (imgSeq s.boot.run)
    committed := true, commit := some (fseq, action) })
  let s := s.setBst (fun b => (b.wipe imageFirst).setShadow imageFirst (fun x => x.erasing))
  (s.log 0x6010 0x20 (leBytes 4 (imgSeq img) ++ leBytes 2 (imgSectors (imgBodyLen img)))).setCmd fseq (fun c => { c with phase := .waitData })

/-- A Firmware Commit that writes the image area: actions 0, 1 and 3. -/
def State.commitFw (s : State) (c : Cmd) (fseq slot action : Nat) : State :=
  let src := s.portSrc c.port
  match (match s.commitGuard with
    | some st => some st
    | none => if s.boot.updating then some .fwActProhibited else none) with
  | some st => (s.noteRefusal src 0x10 st).complete fseq st
  | none =>
    if slot ≠ 0 ∧ slot ≠ 2 then s.complete fseq .invalidFwSlot
    else if action = 2 then
      (if s.boot.state = .written then s.record (fun b => { b with state := .activateAtReset }) else s).complete fseq .success
    else
      let s := s.sealStaging
      let img := s.bst.image stagingFirst
      match s.fwVerify img with
      | some k => ((s.log 0x6004 src (leBytes 1 k ++ leBytes 4 (imgSeq img))).clearStaging).complete fseq .invalidFwImage
      | none => (s.log 0x6002 src (leBytes 4 (imgSeq img) ++ leBytes 2 (imgSvn img) ++ leBytes 1 action)).startWrite fseq action img

/-- COMMIT_REPLACE, COMMIT_ACTIVATE_AT_RESET, COMMIT_SET_ACTIVE, COMMIT_ACTIVATE_NOW: commit actions 0 to 3. -/
def execCommitReplace (fseq slot : Nat) (s : State) : Host.Outcome State Fault Refusal :=
  .next (s.onAdmin fseq 0x10 (fun c s => s.commitFw c fseq slot 0))
def execCommitActivateAtReset (fseq slot : Nat) (s : State) : Host.Outcome State Fault Refusal :=
  .next (s.onAdmin fseq 0x10 (fun c s => s.commitFw c fseq slot 1))
def execCommitSetActive (fseq slot : Nat) (s : State) : Host.Outcome State Fault Refusal :=
  .next (s.onAdmin fseq 0x10 (fun c s => s.commitFw c fseq slot 2))
def execCommitActivateNow (fseq slot : Nat) (s : State) : Host.Outcome State Fault Refusal :=
  .next (s.onAdmin fseq 0x10 (fun c s => s.commitFw c fseq slot 3))

/-- The running image's hand-over format is outside what the new image accepts (R432). -/
def handoverBad (old new : List Byte) : Bool := decide (imgHoOut old < imgHoMin new) || decide (imgHoMax new < imgHoOut old)

/-- Ferry activation, steps 1 and 2: ACTIVATING, the image is read and verified again, a checkpoint is taken (R435). -/
def State.ferryPrepare (s : State) (fseq : Option Nat) : State :=
  let img := s.bst.image imageFirst
  match s.fwVerify img with
  | some k =>
    let s := (s.log 0x6004 0x20 (leBytes 1 k ++ leBytes 4 (imgSeq img))).record (fun b => { b with state := .written })
    match fseq with
    | some f => s.complete f .invalidFwImage
    | none => s
  | none => (s.record (fun b => { b with state := .activating, ferry := .prepared, ferryFseq := fseq, next := img })).checkpoint

/-- The image area is written and compared: the record takes its next STATE. -/
def State.imageWritten (s : State) (digestOk : Bool) : State :=
  match s.boot.commit with
  | some (fseq, action) =>
    let s := s.setBoot (fun b => { b with commit := none })
    if !digestOk then s.complete fseq .internalError
    else
      let img := s.bst.image stagingFirst
      let s : State := { s with bst := s.bst.writeImage imageFirst 1 img }
      let s := s.log 0x6011 0x20 (leBytes 4 (imgSeq img))
      let bad := handoverBad s.boot.run img && decide (action = 1 ∨ action = 3)
      if bad then (s.record (fun b => { b with state := .written })).complete fseq .fwActConvReset
      else if action = 1 then (s.record (fun b => { b with state := .activateAtReset })).complete fseq .success
      else if action = 3 ∧ s.cmq.cmds.has fseq then s.ferryPrepare (some fseq)
      else (s.record (fun b => { b with state := .written })).complete fseq .success
  | none =>
    if s.boot.rewriting ∧ digestOk then
      let was := s.boot.state
      let seq := s.boot.imageSeq
      let img := s.boot.rollback.getD []
      let s : State := { s with bst := s.bst.writeImage imageFirst 1 img }
      let s := s.record (fun b => { b with
        state := .confirmed, rewriting := false, imageSeq := BitVec.ofNat 32 (imgSeq img), tries := 0 })
      let s := s.log 0x6011 0x20 (leBytes 4 (imgSeq img))
      if was = .writing then s.log 0x6012 0x20 (leBytes 4 seq.toNat ++ leBytes 4 s.boot.confirmedSeq.toNat) else s
    else s

/-- IMAGE_AREA_WRITTEN (R406, R434). -/
def execImageAreaWritten (digestOk : Bool) (s : State) : Host.Outcome State Fault Refusal :=
  .next (s.whenLive (fun s => s.imageWritten digestOk))

/-! ### Ferry activation (R278, R435, R436) -/

/-- An activation ends before its pause: STATE returns to WRITTEN and the Commit completes with the guard's status. -/
def State.ferryRefused (s : State) (st : Status) : State :=
  let f := s.boot.ferryFseq
  let s := s.record (fun b => { b with state := .written, ferry := .none, ferryFseq := none, next := [] })
  match f with
  | some x =>
    let src := ((s.cmq.cmds.get? x).map (fun c => s.portSrc c.port)).getD 0x20
    (s.noteRefusal src 0x10 st).complete x st
  | none => s.noteRefusal 0x20 0x10 st

/-- Every stream is quiesced: while the fetch pause lasts its rows close after the close-wait (R94). -/
def State.quiesce (s : State) : State := s.dispatchAll.copiesGo

/-- Steps 3 to 6, once the checkpoint of step 2 has ended: the guards again, then the fetch pause. -/
def State.ferryPause (s : State) : State :=
  if !(s.boot.ferry == .prepared) ∨ s.media.ckptDue.isSome then s
  else match s.commitGuard with
    | some st => s.ferryRefused st
    | none =>
      let s := s.setBoot (fun b => { b with ferry := .paused })
      let s : State := { s with cmq := { s.cmq with paused := true, abandoned := false } }
      (s.log 0x6020 0x20 (leBytes 4 s.boot.imageSeq.toNat)).quiesce

/-- FERRY_PAUSE_BEGIN. -/
def execFerryPauseBegin (s : State) : Host.Outcome State Fault Refusal := .next (s.whenLive State.ferryPause)

/-- Nothing fetched is left but the Commit and outstanding requests, and every row is complete. -/
def State.drained (s : State) : Bool :=
  s.cmq.cmds.all (fun e => e.2.phase == .outstanding || decide (some e.1 = s.boot.ferryFseq)) && s.media.rows.isEmpty

/-- Steps 7 and 8: the hand-over record, the trial timer, the crossing. -/
def State.ferryCross (s : State) : State :=
  if !(s.boot.ferry == .paused) ∨ !s.drained then s
  else s.setBoot (fun b => { b with
    ferry := .drained, armed := some (b.imageSeq, s.tb.count.toNat), trialSeq := b.imageSeq, old := b.run, run := b.next })

/-- FERRY_DRAINED. -/
def execFerryDrained (s : State) : Host.Outcome State Fault Refusal := .next (s.whenLive State.ferryCross)

/-- Steps 9 to 11: the KIND 3 record, STATE TRIAL with TRIES 1, fetching resumes, the Commit completes. -/
def State.ferryLand (s : State) (pauseUs : Nat) : State :=
  if !(s.boot.ferry == .drained) then s
  else
    let f := s.boot.ferryFseq
    let s := s.setBoot (fun b => { b with source := 0 })
    let s := s.writeLedger 3 s.ledgerFlags
    let s := s.record (fun b => { b with
      state := .trial, tries := 1, ferry := .none, ferryFseq := none, next := [], old := [] })
    let s : State := { s with cmq := { s.cmq with paused := false } }
    let s := s.log 0x6021 0x20 (leBytes 4 s.boot.imageSeq.toNat ++ leBytes 4 pauseUs)
    (match f with
     | some x => s.complete x .success
     | none => s).serveDict

/-- FERRY_LANDING. -/
def execFerryLanding (pauseUs : Nat) (s : State) : Host.Outcome State Fault Refusal := .next (s.whenLive (fun s => s.ferryLand pauseUs))

/-- The deadline: the activation is abandoned (R436). -/
def State.ferryLate (s : State) : State :=
  if !(s.boot.ferry == .paused || s.boot.ferry == .drained) then s
  else
    let f := s.boot.ferryFseq
    let s := s.abandonFerry.setBoot (fun b => { b with ferryFseq := none })
    (match f with
     | some x => s.complete x .fwActMtfa
     | none => s).serveDict

/-- FERRY_DEADLINE. -/
def execFerryDeadline (s : State) : Host.Outcome State Fault Refusal := .next (s.whenLive State.ferryLate)

/-! ### Health confirmation (R438 to R440) -/

/-- TRIAL_ARM: SYS_TRIAL.ARM, ignored while ARMED is 1. -/
def execTrialArm (s : State) : Host.Outcome State Fault Refusal :=
  .next (s.whenLive (fun s => if s.boot.armed.isSome then s
    else s.setBoot (fun b => { b with armed := some (b.trialSeq, s.tb.count.toNat) })))

/-- SYS_TRIAL_TOKEN: a write equal to the sequence armed with disarms the timer. -/
def State.trialToken (s : State) (v : BitVec 32) : State :=
  match s.boot.armed with
  | some (q, _) => if q = v then s.setBoot (fun b => { b with armed := none }) else s
  | none => s

/-- TRIAL_TOKEN. -/
def execTrialToken (value : BitVec 32) (s : State) : Host.Outcome State Fault Refusal := .next (s.whenLive (fun s => s.trialToken value))

/-- What R439 asks of the new image before it writes the token, as far as the state shows it. -/
def State.healthy (s : State) : Bool :=
  (List.finRange 32).all (fun c => s.units.cores[c].failed || s.units.cores[c].alive) &&
    s.portList.all (fun p => !(s.ctrl p).cfs) && s.hasAk

/-- The token is accepted: the timer is disarmed and the new rollback copy is written (R440). -/
def State.acceptHealth (s : State) (v : BitVec 32) : State :=
  if s.boot.state = .trial ∧ v = s.boot.imageSeq ∧ s.healthy then
    (s.trialToken v).setBoot (fun b => { b with copying := true })
  else s

/-- HEALTH_TOKEN: entry 0x5200/0x05, by E28 and E29 only (R439). -/
def execHealthToken (ini : Initiator) (value : BitVec 32) (s : State) : Host.Outcome State Fault Refusal :=
  let r : DictReq := { index := 0x5200, sub := 5, value := leBytes 4 value.toNat }
  .next (match ini with
    | .host p => s.mailbox p 2 r
    | .bmc => s.busRequest 2 r
    | .core c => s.whenLive (fun s => if c = 28 ∨ c = 29 then s.acceptHealth value else s.emit (.accessError ini))
    | _ => s.whenLive (fun s => s.emit (.accessError ini)))

/-- The rollback copy's rows are complete: CONFIRMED, SVN_MIN raised, staging erased (R429, R440). -/
def State.copyComplete (s : State) : State :=
  if !s.boot.copying then s
  else
    let img := s.boot.run
    let s := s.record (fun b => { b with
      state := .confirmed, tries := 0, confirmedSeq := BitVec.ofNat 32 (imgSeq img), svnMin := max b.svnMin (imgSvn img)
      rollback := some img, copying := false })
    s.clearStaging.log 0x6030 0x20 (leBytes 4 (imgSeq img) ++ leBytes 2 (imgSvn img))

/-- ROLLBACK_COPY_COMPLETE. -/
def execRollbackCopyComplete (s : State) : Host.Outcome State Fault Refusal := .next (s.whenLive State.copyComplete)

end Sys2Proof.Machine
end

