-- ==== Sys2Proof/Machine/Restart.lean ====
section
/-! DEFINITION. What a start of the part leaves of its state (R39, R53, R178, R361, R372, R405, R420, R422 to R424, R462,
R475): journal memory, NAND, the boot store and the one-time cells keep theirs, everything else returns to reset. -/

namespace Sys2Proof.Machine

open Sys2Proof

/-! ### What persists in each unit -/

/-- Event recorder: kept records, the next SEQ, the suppressed total, and the last record's counts as persisted (R420). -/
def Evr.persisted (e : Evr) : Evr :=
  let recs := match e.recs with
    | r :: rs => { r with repeats := e.repP, lastOpsec := e.lastOpsecP } :: rs
    | [] => []
  { recs := recs, next := e.next - e.early.length, suppTotal := e.suppTotalP, suppTotalP := e.suppTotalP
    repP := e.repP, lastOpsecP := e.lastOpsecP }

/-- Operating seconds resume from their persisted value; a host timestamp that was set is stopped (R422 to R424). -/
def Clocks.persisted (c : Clocks) : Clocks :=
  { opsec := c.opsecP, opsecP := c.opsecP, pcc := c.pcc, tsP := c.tsP
    ts := if c.ts = .never ∧ c.tsP.isNone then .never else .stopped }

/-- Controllers: saved features (R253) and the last self-test result. -/
def Ctrl.persisted (c : Ctrl) : Ctrl :=
  { feat := c.featSaved, featSaved := c.featSaved, selfTestLast := c.selfTestLast }

def Cmq.persisted (q : Cmq) : Cmq :=
  { ctrls := q.ctrls.all Ctrl.persisted, fseq := q.fseq, stallTotal := q.stallTotal, abandonTotal := q.abandonTotal
    sanitizeLast := q.sanitizeLast }

/-- The line-index image, the region images, and whether a region has changed since its image (R245, R265). -/
def Landing.persisted (l : Landing) : Landing :=
  { image := l.image, pmr := l.pmr.all (fun r => { image := r.image, dirty := r.dirty }) }

/-- A die's lists and failures, and whether it is on its way back (R178); its array is idle. -/
def DieSt.persisted (d : DieSt) : DieSt := { failBlocks := d.failBlocks, dirty := d.dirty, bad := d.bad, returning := d.returning }

/-- A power cycle closes the open zones, and reservations that do not persist through it end. -/
def ZoneSt.powerCycled : ZoneSt → ZoneSt
  | .implOpen | .explOpen => .closed
  | z => z

def Namespace.powerCycled (n : Namespace) : Namespace :=
  { n with
    zones := n.zones.map (fun e => (e.1, { e.2 with st := e.2.st.powerCycled }))
    resv := if n.resv.ptpl then n.resv else {} }

/-- NAND contents, the stripe table and free lists, counts, the tracking tables of the last checkpoint (stale, R118), map records and
the ring; failed dies stay failed (R178). The map of DRAM is rebuilt by recovery. DESIGN CHOICE (notes/assumptions/32.md): the
neighbour tables of R128 start anew. -/
def Media.persisted (m : Media) : Media :=
  let keep := m.population.isSome
  { profile := if keep then m.profile else none, population := m.population
    fch := m.fch.all (fun f => { failed := f.failed })
    dies := m.dies.map (fun e => (e.1, e.2.persisted))
    stripes := m.stripes, nextStripe := m.nextStripe, rowSeq := m.rowSeq, nand := m.nand, heads := m.heads, eraseCnt := m.eraseCnt
    readCnt := m.readCnt, nextRid := m.nextRid
    track := m.trackSaved.map (fun e => (e.1, { e.2 with stale := true })), trackSaved := m.trackSaved, mapDir := m.mapDir
    stepTotal := m.stepTotal, markMissed := m.markMissed, markDual := m.markDual, mapNand := m.mapNand
    lost := m.lost, lostTotal := m.lostTotal, ring := m.ring, mirror := m.mirror, ringHead := m.ringHead, ringTail := m.ringTail
    wearSaid := m.wearSaid, ckpt := m.ckpt, nextPounce := m.nextPounce, rebuilds := m.rebuilds, rebuildWarn := m.rebuildWarn
    guaranteed := m.guaranteed, readOnly := m.readOnly, protected_ := m.protected_, fdp := m.fdp, fdpEvents := m.fdpEvents
    namespaces := m.namespaces.map (fun e => (e.1, e.2.powerCycled)) }

/-- The last test's values, C_INIT, how the last flush ended (R228, R229). A test is due at the first full charge. -/
def Plp.persisted (p : Plp) : Plp :=
  { meas := p.meas, cInit := p.cInit, cInitReset := p.cInitReset, tested := p.meas.isSome && !p.testFail
    lastFlush := p.lastFlush, lastRecovery := p.lastRecovery, flushUs := p.flushUs, due := 1, isoClosed := p.isoClosed }

/-- A port: its reset pin and the configuration that the board gives it. -/
def PcPort.persisted (q : PcPort) : PcPort := { perst := q.perst, cnt := { total := q.cnt.total } }

def Dram.persisted (d : Dram) : Dram := { ceTotal := d.ceTotal, ueTotal := d.ueTotal, cuts := d.cuts }

/-- The nonce counter resumes from the persisted value plus 2^20, and never wraps (R361). -/
def VaultPage.persisted (g : VaultPage) : VaultPage :=
  let n : BitVec 96 := if g.nonceP.toNat + 2 ^ 20 < 2 ^ 96 then g.nonceP + BitVec.ofNat 96 (2 ^ 20) else BitVec.allOnes 96
  { nonce := n, nonceP := g.nonceP, exhausted := g.exhausted, refused := g.refused }

/-- A range returns to its lock state after power-up (R372). -/
def OpalRange.powerCycled (r : OpalRange) : OpalRange :=
  if r.lorPower then { r with rdLocked := r.rdLocked || r.rdEn, wrLocked := r.wrLocked || r.wrEn } else r

/-- The wrapped key store, credentials, the owner's records, the mesh cell. The tampered state lasts until a cold start (R366). -/
def Security.persisted (k : Security) : Security :=
  { meshBroken := k.meshBroken, keyGen := k.keyGen, nextGen := k.nextGen, opalActive := k.opalActive
    ranges := k.ranges.all OpalRange.powerCycled, pins := k.pins, dataStore := k.dataStore, owner := k.owner
    ownerLock := k.ownerLock, slot2Hash := k.slot2Hash, slot2 := k.slot2, nextSession := k.nextSession }

/-- The store's cells; an operation in progress leaves its sector as `State.spoiled` made it, and one that was stopped is reported at
the next boot. ABORTED is kept only by what is no cold start (R403). -/
def Bst.persisted (b : Bst) : Bst := { mem := b.mem, shadow := b.shadow, progs := b.progs, serial := b.serial, abortedOp := b.abortedOp }

/-- Ledger, rollback copy, SVN_MIN, what staging holds, and the flags of how the last run ended. -/
def Boot.persisted (b : Boot) : Boot :=
  { ledger := b.ledger, ledgerCount := b.ledgerCount, akCerts := b.akCerts, svnMin := b.svnMin, rollback := b.rollback
    staged := b.staged, bound := b.bound, committed := b.committed, fallbacks := b.fallbacks
    unclean := b.unclean
    replayDue := b.replayDue, imageDue := b.imageDue, recoveryDue := b.recoveryDue }

/-- RWP entries (R475, R477). -/
def Dict.persisted (d : Dict) : Dict := { vals := d.fromLog, vlog := d.vlog, overrides := d.overrides }

/-! ### A start -/

/-- An operation of the boot store that the loss stops leaves its sector partly changed (R397, R403). -/
def State.storeLost (s : State) : State := match s.bst.op with
  | some o => (s.spoiled o).setBst (fun b => { b with op := none })
  | none => s

/-- Everything but what persists returns to reset. `keep`: the auxiliary domain stayed powered. -/
def State.restart (s : State) (keep : Bool) (phase : Phase) : State :=
  let s := s.storeLost
  { phase := phase
    units := s.units
    evr := s.evr.persisted
    clocks := s.clocks.persisted
    cmq := s.cmq.persisted
    land := s.land.persisted
    media := s.media.persisted
    plp := s.plp.persisted
    ports := if keep then s.ports.all PcPort.persisted else s.ports.all (fun q => { q.persisted with perst := true })
    dram := s.dram.persisted
    sdm := { lentErrors := s.sdm.lentErrors }
    vault := { pages := s.vault.pages.all VaultPage.persisted }
    sec := s.sec.persisted
    tb := { refclkUp := keep && s.tb.refclkUp }
    bst := s.bst.persisted
    boot := s.boot.persisted
    pws := { abandonTotal := s.pws.abandonTotal, temps := if keep then s.pws.temps else ({} : Pws).temps }
    dict := s.dict.persisted
    board := { (if keep then s.board else {}) with mbAddr := BitVec.ofNat 7 (({ vals := s.dict.fromLog } : Dict).param 0x6020 7) }
    out := s.out
    free := s.free
    pending := s.pending }

/-- The first supply is enabled (R464, R509). -/
def State.enableFirst (s : State) : State :=
  (s.setPws (fun w => { w with en1v8 := true })).emit (.enable .v1p8 true)

/-- A cold start of a part whose supplies are off: the sequence of R464 begins. -/
def State.coldFromOff (s : State) : State := (s.restart true .supplies).enableFirst

/-- A reset that keeps power: the boot chain runs at once (R53, R335, R441). -/
def State.coldInPlace (s : State) : State :=
  let w := s.pws
  let t := (s.runEnds false).restart true .rom
  { t with
    bst := { t.bst with aborted := s.bst.aborted }
    pws := { t.pws with
      enVcore := w.enVcore, enNand := w.enNand, en1v8 := w.en1v8, pgVcore := w.pgVcore, pgNand := w.pgNand, pg1v8 := w.pg1v8
      xoReady := w.xoReady } }

end Sys2Proof.Machine
end

