-- ==== Sys2Proof/Machine/Power.lean ====
section
/-! DEFINITION. Chapter 14: entries to PS3 and Deep Rest (R450 to R458), supplies and the crystal (R464, R465, R509), thermal
limits (R466 to R470), power-gated units (R447). -/

namespace Sys2Proof.Machine

open Sys2Proof

/-! ### APST (R456, R457) -/

/-- Where APST leads a controller from the state it holds: by the host's table, or by the default table of R456. -/
def Ctrl.apstTarget (c : Ctrl) : Option Nat :=
  match c.feat.apst with
  | some t => if !c.feat.apste then none else match t[c.ps]? with
    | some e => if c.ps < e.1 then some e.1 else none
    | none => none
  | none => if c.ps < 3 then some 3 else if c.ps = 3 then some 4 else none

/-- A controller is idle: nothing fetched but outstanding requests, nothing in its queues. -/
def State.idle (s : State) (p : Fin 2) : Bool :=
  s.cmq.cmds.all (fun e => decide (e.2.port ≠ p) || e.2.phase == .outstanding) && (s.ctrl p).ready.isEmpty

def State.apstIdle (s : State) (p : Fin 2) : State :=
  if !(s.phase == .running) ∨ s.param 0x7000 3 = 1 ∨ !(s.portList.contains p) ∨ !s.idle p ∨ s.pws.entry.isSome then s
  else match (s.ctrl p).apstTarget with
    | some t => (s.setCtrl p (fun c => { c with ps := t })).followPs true p
    | none => s

/-- APST_IDLE_EXPIRE: the idle time of the state that the controller holds has passed. -/
def execApstIdleExpire (p : Fin 2) (s : State) : Host.Outcome State Fault Refusal := .next (s.apstIdle p)

/-! ### Preparation, handshake, commit (R450 to R453) -/

/-- The nonce counters are persisted at every power-state entry (R361). -/
def State.persistAll (s : State) : State :=
  { s.persist with vault := { s.vault with pages := s.vault.pages.all (fun g => { g with nonceP := g.nonce }) } }

/-- Everything that preparation must bring to NAND is there. -/
def State.prepared (s : State) : Bool := s.land.lines.isEmpty && s.media.rows.isEmpty && s.media.copyWait.isEmpty

/-- The last steps of preparation: region images, and for PS4 the rest image and event 0x1031. -/
def State.finishPrep (s : State) (target : Nat) : State :=
  let s : State := { s with land := { s.land with pmr := s.land.pmr.all (fun r =>
    if r.mib = 0 ∨ r.nrdy then r else r.save s.clocks.opsec.toNat) } }
  if target = 4 then (s.setPws (fun w => { w with rest := some s.cmq.ctrls })).suppSummary else s

def State.setEntry (s : State) (f : PsEntry → PsEntry) : State := s.setPws (fun w => { w with entry := w.entry.map f })

/-- PS_PREPARATION_DONE: once the landing buffer is drained the full checkpoint begins; when it has ended the handshake is sent; media
refuses when a system-stream program failed (R450, R452, 0x22). Sent again, it goes on from where it stands. -/
def State.prepDone (s : State) (systemFail : Bool) : State :=
  match s.pws.entry with
  | none => s
  | some e =>
    let s := if e.phase = 1 ∧ !e.ckpt ∧ s.prepared then s.checkpoint.setEntry (fun e => { e with ckpt := true }) else s
    if e.phase ≠ 1 ∨ !s.prepared ∨ s.media.ckptDue.isSome then s
    else
      let s := ((s.finishPrep e.target).setEntry (fun e => { e with phase := 2 })).emit (.handshake e.target)
      if systemFail then (s.setEntry (fun e => { e with answers := e.answers.upd 1 (fun _ => 2) })).abandonEntry 1 0x22 else s

def execPsPreparationDone (systemFail : Bool) (s : State) : Host.Outcome State Fault Refusal :=
  .next (s.whenLive (fun s => s.prepDone systemFail))

/-- Why a domain refuses (R452). -/
def State.domainRefuses (s : State) (d : Fin 4) (target : Nat) : Option Nat :=
  match d with
  | 0 => if s.cmq.cmds.any (fun e => !(e.2.phase == .outstanding)) then some 0x10 else if s.cmq.paused then some 0x11 else none
  | 1 => if s.media.emergency then some 0x20 else if s.media.rebuilds.any (fun e => decide (e.2.phase = 1)) then some 0x21 else none
  | 2 => if s.boot.state = .writing ∨ s.boot.state = .activating ∨ s.boot.armed.isSome then some 0x30
    else if s.plp.state = .testing then some 0x31 else none
  | _ => if target ≠ 4 then none
    else if s.portList.any (fun p => s.ports[p].ide == .secure) then some 0x40
    else if s.sec.waiting.isSome then some 0x41 else none

/-- An erase still in progress at the commit is reset, and its block is erased again (R160, R452). -/
def State.resetErases (s : State) : State :=
  s.media.dies.foldl (fun s e =>
    match e.2.op with
    | .erase b _ _ => (s.resetLun e.1).setDie e.1 (fun d => { d with readAt := none, queue := .erase b :: d.queue })
    | _ => s) s

/-- The links go to L1.2 where the host enables it, else to L1 (R446, R459). -/
def PcPort.rest (q : PcPort) : PcPort :=
  let l12 := ((q.config.get? 0x288).getD 0).getLsbD 2
  if q.link == .l0 || q.link == .l0p || q.link == .l1 then { q with link := .l1, l1sub := if l12 then 2 else 0 } else q

def State.linksRest (s : State) : State := { s with ports := s.ports.all PcPort.rest }

/-- The entry is committed (R453): PS3 puts DRAM in self-refresh, without segment 7 (R333, R335); in Deep Rest the auxiliary domain alone runs (R459). -/
def State.commitEntry (s : State) (target : Nat) : State :=
  let s := (s.persistAll.setPws (fun w => { w with ps := target, entry := none, gated := [] })).resetErases.linksRest
  if target = 3 then s.flushAllChecks.setDram (fun d => { d with selfRefresh := true, masked := if d.degraded then 0 else 0x80 })
  else
    let s : State := { s with
      phase := .deepRest
      plp := { s.plp with state := .off, disClosed := false }
      sec := { s.sec with kpio := [], keysHeld := false, sessions := [] } }
    s.gates.enablesFall

/-- A domain answers: a condition of R452 makes it refuse; with the last agreement the entry is committed. -/
def State.domainAnswers (s : State) (d : Fin 4) (a : Answer) : State :=
  match s.pws.entry with
  | none => s
  | some e =>
    if e.phase ≠ 2 then s
    else
      let put (v : BitVec 2) : State := s.setEntry (fun e => { e with answers := e.answers.upd d (fun _ => v) })
      let refuse (r : Nat) : State := (put 2).abandonEntry d.val r
      match s.domainRefuses d e.target, a with
      | some r, _ => refuse r
      | none, .refuse r => refuse r.toNat
      | none, .delay => put 3
      | none, .agree =>
        let s' := put 1
        let all : Bool := (List.finRange 4).all (fun k => decide (k = d) || decide (e.answers[k] = 1))
        if all then s'.commitEntry e.target else s'

/-- DOMAIN_ANSWER (R451 to R453). -/
def execDomainAnswer (d : Fin 4) (a : Answer) (s : State) : Host.Outcome State Fault Refusal :=
  .next (s.whenLive (fun s => s.domainAnswers d a))

/-- DOMAIN_DELAY_EXPIRE: the 5 ms of a domain that delays have run out; it has refused with reason 0xFF (R451). -/
def State.delayExpires (s : State) (d : Fin 4) : State :=
  match s.pws.entry with
  | none => s
  | some e =>
    if e.phase = 2 ∧ e.answers[d] = 3 then
      (s.setEntry (fun e => { e with answers := e.answers.upd d (fun _ => 2) })).abandonEntry d.val 0xFF
    else s

def execDomainDelayExpire (d : Fin 4) (s : State) : Host.Outcome State Fault Refusal :=
  .next (s.whenLive (fun s => s.delayExpires d))

/-! ### Supplies and the crystal (R464, R465, R509) -/

/-- The supply codes of PDC_STAT.FAIL_SUPPLY. -/
def supplyCode : Supply → Nat
  | .vcore => 0
  | .vioNand => 1
  | .v1p8 => 2

def Pws.enabled (w : Pws) : Supply → Bool
  | .vcore => w.enVcore
  | .vioNand => w.enNand
  | .v1p8 => w.en1v8

def Pws.good (w : Pws) : Supply → Bool
  | .vcore => w.pgVcore
  | .vioNand => w.pgNand
  | .v1p8 => w.pg1v8

/-- SUPPLY_POWER_GOOD: the next enable is issued 100 µs later; after VCORE the boot ROM starts, and the timebase leaves the ring unless
the crystal is late (R464). -/
def State.powerGood (s : State) (sup : Supply) : State :=
  if !(s.phase == .supplies) ∨ !s.pws.enabled sup ∨ s.pws.good sup then s
  else match sup with
    | .v1p8 => (s.setPws (fun w => { w with pg1v8 := true, enNand := true })).emit (.enable .vioNand true)
    | .vioNand => (s.setPws (fun w => { w with pgNand := true, enVcore := true })).emit (.enable .vcore true)
    | .vcore => { s.setPws (fun w => { w with pgVcore := true, xoReady := !w.xoTimedOut }) with
        phase := .rom, tb := { s.tb with srcAct := if s.pws.xoTimedOut then s.tb.srcAct else s.tb.settleOn (selSource s.tb.srcSel) } }

def execSupplyPowerGood (sup : Supply) (s : State) : Host.Outcome State Fault Refusal := .next (s.powerGood sup)

/-- SUPPLY_PG_TIMEOUT: not ready 20 ms after its enable, so not within the 5 ms of R464 either: the ring drives the timebase. The
domain is power-cycled up to three times; then the device holds in wake fault with its links down (R465). -/
def State.pgTimeout (s : State) (sup : Supply) : State :=
  if !(s.phase == .supplies) ∨ !s.pws.enabled sup ∨ s.pws.good sup then s
  else
    let k := supplyCode sup
    let n := if s.pws.failSupply.toNat = k then s.pws.retries else 0
    let s : State := { s.setPws (fun w => { w with failSupply := BitVec.ofNat 2 k }) with tb := { s.tb with srcAct := .ring } }
    if n < 3 then
      ((s.setPws (fun w => { w with retries := n + 1 })).log 0x2303 0xFF (leBytes 1 k ++ leBytes 1 (n + 1))).emits
        [.enable sup false, .enable sup true]
    else
      let s : State := { s with phase := .wakeFault, ports := s.ports.all (fun q => { q with link := .down }) }
      (s.setPws (fun w => { w with wakeFault := true })).log 0x2302 0xFF (leBytes 1 k ++ leBytes 1 3)

def execSupplyPgTimeout (sup : Supply) (s : State) : Host.Outcome State Fault Refusal := .next (s.pgTimeout sup)

/-- The part wakes or starts. -/
def State.starting (s : State) : Bool := match s.phase with
  | .supplies | .rom | .slipway | .firmware => true
  | _ => false

/-- XO_READY_TIMEOUT: the timebase runs from the ring, and the wait for the crystal goes on (R41, R464). -/
def execXoReadyTimeout (s : State) : Host.Outcome State Fault Refusal :=
  .next (if s.starting ∧ !s.pws.xoTimedOut then
    let s : State := { s.setPws (fun w => { w with xoTimedOut := true, xoReady := false }) with tb := s.tb.stop .crystal }
    if s.tb.srcAct = .crystal then s.tbFallback .ring else s
  else s)

/-- CRYSTAL_READY: the wait ends, and the source that SRC_SEL asks for drives the timebase (R40, R464). -/
def State.crystalReady (s : State) : State :=
  if !s.pws.xoTimedOut ∨ s.pws.xoReady then s
  else
    let t : Timebase := { s.tb with crystalUp := true }
    let s := s.setPws (fun w => { w with xoReady := true })
    { s with tb := { t with srcAct := t.settleOn (selSource t.srcSel) } }

def execCrystalReady (s : State) : Host.Outcome State Fault Refusal := .next s.crystalReady

/-! ### Thermal limits (R466 to R470) -/

/-- A reading enters its register: TEMP and the highest since the last read. -/
def tempRead (old : BitVec 16 × BitVec 16) (t : Int) : BitVec 16 × BitVec 16 :=
  let v := BitVec.ofInt 16 t
  (v, if old.2.toInt < v.toInt then v else old.2)

def Pws.readAll (w : Pws) (ts : List Int) : Pws :=
  { w with temps := (List.finRange 12).foldl (fun (v : Tbl 12 (BitVec 16 × BitVec 16)) k =>
      match ts[k.val]? with
      | some t => v.upd k (fun o => tempRead o t)
      | none => v) w.temps }

/-- The thresholds of levels 1 to 3, in 0.1 °C. -/
def levelAt (n : Nat) : Int := if n = 1 then 1060 else if n = 2 then 1100 else 1150

/-- A level that is entered at `t` or held above its threshold less 3 °C. -/
def holds (t thr : Int) (was : Bool) : Bool := decide (thr ≤ t) || (was && decide (thr - 30 < t))

/-- The level on a highest reading of `t` after level `was`. -/
def levelOf (t : Int) (was : Nat) : Nat :=
  if holds t (levelAt 3) (decide (3 ≤ was)) then 3
  else if holds t (levelAt 2) (decide (2 ≤ was)) then 2
  else if holds t (levelAt 1) (decide (1 ≤ was)) then 1
  else 0

/-- The sensor of the junction that reads highest. -/
def State.hottest (s : State) : Nat :=
  (((List.finRange 12).filter (fun k => k.val < 11)).find? (fun k => decide (s.pws.temps[k].1.toInt = s.junction))).elim 0 (·.val)

/-- The host thermal level of a controller's TMT1 and TMT2 (R468): the composite temperature is the junction in kelvin. -/
def hctmOf (f : Features) (t : Int) (was : Nat) : Nat :=
  let k := t + 2730
  if f.tmt2 ≠ 0 ∧ holds k (f.tmt2 * 10) (decide (2 ≤ was)) then 2
  else if f.tmt1 ≠ 0 ∧ holds k (f.tmt1 * 10) (decide (1 ≤ was)) then 1
  else 0

/-- THERM_IN out of range is declared faulty until the next cold start (R470). -/
def State.thermIn (s : State) : State :=
  let t := s.pws.temps[11].1.toInt
  if s.param 0x6011 1 = 0 ∨ s.pws.thermBad ∨ (-600 ≤ t ∧ t ≤ 1500) then s
  else (s.setPws (fun w => { w with thermBad := true })).log 0x7103 0x40 (i16 t)

/-- The level changes, with event 0x7101 among levels 0 to 3. -/
def State.setLevel (s : State) (n : Nat) : State :=
  if n = s.pws.level then s
  else (s.setPws (fun w => { w with level := n })).log 0x7101 0xFF
    (leBytes 1 s.pws.level ++ leBytes 1 n ++ leBytes 1 s.hottest ++ i16 s.junction)

/-- The lowest reading of the junction's sensors. -/
def State.coldest (s : State) : Int :=
  ((List.finRange 12).filter (fun k => k.val < 11)).foldl (fun m k => min m s.pws.temps[k].1.toInt) s.junction

/-- A junction below −55 °C or above 135 °C is tamper alarm 1 (R364). -/
def State.tempAlarm (s : State) : State :=
  if !s.phase.guarded then s
  else if 1350 < s.junction then s.tamper 1 s.junction
  else if s.coldest < -550 then s.tamper 1 s.coldest
  else s

/-- THERMAL_SENSOR_READ: the sensors are read, and the levels, the host thermal cap, the drift warning and the temperature alarm judged. -/
def State.sensorsRead (s : State) (ts : List Int) : State :=
  let s := s.setPws (fun w => w.readAll ts)
  if !s.powered then s
  else
    let j := s.junction
    let ht := s.portList.foldl (fun m p => max m (hctmOf (s.ctrl p).feat j s.pws.htmt)) 0
    let s := s.setPws (fun w => { w with hot := if 1200 ≤ j then w.hot + 1 else 0, htmt := ht })
    let s := if s.pws.level = 4 then s else s.setLevel (levelOf j s.pws.level)
    let s := s.thermIn
    (if s.live then s.driftWarn else s).tempAlarm

def execThermalSensorRead (temps : List Int) (s : State) : Host.Outcome State Fault Refusal :=
  .next (if s.powered ∨ s.phase = .thermalOff then s.sensorsRead temps else s)

/-- The links go down. -/
def State.linksDown (s : State) : State := { s with ports := s.ports.all (fun q => { q with link := .down }) }

/-- The end of a thermal shutdown: every domain but the auxiliary one is held in reset (R469). -/
def State.thermalHold (s : State) : State :=
  { (s.log 0x7102 0xFF (leBytes 1 s.hottest ++ i16 s.junction)).linksDown.enablesFall with phase := .thermalOff }

/-- Level 4 is entered: an entry in progress ends with the state it was for. -/
def State.levelFour (s : State) : State := s.setPws (fun w => { w with level := 4, entry := none, gated := [] })

/-- THERMAL_SHUTDOWN: 120 °C has held for 10 ms of readings; fetching stops and the flush runs on host power (R467, R469). Before the
firmware's stage, and in boot fault, nothing is held that a flush would save. -/
def State.thermalShut (s : State) : State :=
  if s.pws.hot < 10 then s
  else match s.phase with
    | .firmware | .recovering | .running => ({ s with phase := .flushing } : State).levelFour.flushBody
    | .rom | .slipway | .bootFault => s.levelFour.thermalHold
    | _ => s

def execThermalShutdown (s : State) : Host.Outcome State Fault Refusal := .next s.thermalShut

/-- THERMAL_RESTART: every sensor has read below 90 °C for 10 s, and the part cold-starts (R469). -/
def execThermalRestart (s : State) : Host.Outcome State Fault Refusal :=
  .next (if s.phase = .thermalOff ∧ s.junction < 900 then (s.runEnds false).coldFromOff else s)

/-! ### Power gating (R447) -/

/-- A unit that the state in force gates when it is idle. -/
def gates (ps unit : Nat) : Bool := (decide (ps = 1) && decide (unit < 3)) || (decide (ps = 2) && decide (unit < 8))

/-- UNIT_POWER_GATE: 50 µs without work in PS1 or PS2; E26 and E27 in x16 mode only. -/
def execUnitPowerGate (sl : Fin 8) (unit : Nat) (s : State) : Host.Outcome State Fault Refusal :=
  .next (s.whenLive (fun s =>
    if !gates s.pws.ps unit ∨ (unit = 7 ∧ s.dual) then s
    else
      let k := if unit = 7 then 8 else sl.val
      if s.pws.gated.contains (k, unit) then s else s.setPws (fun w => { w with gated := w.gated ++ [(k, unit)] })))

end Sys2Proof.Machine
end

