-- ==== Sys2Proof/Machine/Control.lean ====
section
/-! DEFINITION. Chapters 07 and 08, control of a function: controller reset (R275, R276, R306), shutdown (R277), CC.EN, the
resets of the link (R308, R309), the configuration space (R286, R287, R299), release by resume (R305). -/

namespace Sys2Proof.Machine

open Sys2Proof

/-! ### Controller reset (R262, R275, R276, R289, R306) -/

/-- A command at a controller reset: Format NVM and Sanitize run on without a completion; every other ends (R276). -/
def State.resetCmd (s : State) (fseq : Nat) (c : Cmd) : State :=
  match c.cmd, c.phase with
  | .admin o _, .ready =>
    if o = 0x80 ∨ o = 0x84 then s.setCmd fseq (fun c => { c with silent := true }) else (s.stopReads fseq).endCmd fseq
  | _, _ => (s.stopReads fseq).endCmd fseq

/-- The slots of the data area are bound to their lines; one whose line is taken takes a free line, lowest slot first, or
stays unbound (R262). -/
def Landing.bindSlots (l : Landing) (p : Fin 2) (sqMib dataMib : Nat) : Landing :=
  let n := dataMib * 256
  let other := l.cmb[if p = 0 then (1 : Fin 2) else 0]
  let busy := l.lines.map (·.1) ++ other.moved.map (·.2)
  let taken := (busy.filter (fun x => decide (slotLine p.val 0 ≤ x) && decide (x < slotLine p.val n))).map (· - slotLine p.val 0)
  let l : Landing := { l with cmb := l.cmb.upd p (fun _ => { sqMib := sqMib, dataMib := dataMib, unbound := taken.mergeSort }) }
  l.rebind p taken.length

/-- The sizes of R282 take effect, and the windows follow (R289, R295). -/
def State.resize (s : State) (p : Fin 2) : State :=
  let mib := s.param 0x2100 2
  let s : State := { s with land := s.land.bindSlots p (s.param 0x2100 0) (s.param 0x2100 1) }
  let s : State := { s with land := { s.land with pmr := s.land.pmr.upd p (fun r =>
    if r.mib = mib then { r with restoreErr := false }
    else { r with mib := mib, restoreErr := false, nrdy := true, restored := false }) } }
  (s.pmrWindows p).settlePmr

/-- TRIG_EN after a load of `v`: bits 0, 6 and 7 read 1 (R299). -/
def trigLoad (v : Nat) : BitVec 8 := BitVec.ofNat 8 v ||| 0xC1

/-- Containment is released by the reset (R306). -/
def State.releaseByReset (s : State) (p : Fin 2) : State :=
  let c := s.ports[p].cnt
  let s := s.setPort p (fun q => { q with cnt := { q.cnt with active := false, trigEn := trigLoad (s.param 0x2000 5) } })
  if c.active then s.log 0x4203 (s.portSrc p) (leBytes 2 c.fates.length) else s

/-- Key Per I/O keys of the controller are cleared (R354), its ranges lock where they lock on reset (R371), its claim of page 2
ends (R363). -/
def State.resetKeys (s : State) (p : Fin 2) : State :=
  let ks := (s.sec.kpio.filter (fun e => decide (e.1 < 2 ^ 24) && decide (e.2.port = p))).map (·.1)
  let s := ks.foldl (fun (s : State) k => (s.dropKey k).1) s
  let lock (r : OpalRange) : OpalRange :=
    if r.lorReset then { r with rdLocked := r.rdLocked || r.rdEn, wrLocked := r.wrLocked || r.wrEn } else r
  let s := s.setSec (fun k => { k with ranges := k.ranges.all lock, authed := [] })
  if s.vault.owner.toNat = p.val + 1 then s.endClaim else s

/-- Window 0, the per-requester entries of the function and requests not yet taken return to reset (R475, R485). -/
def State.resetMbox (s : State) (p : Fin 2) : State :=
  { s with dict := { s.dict with
    mbox := s.dict.mbox.upd p (fun _ => {})
    perReq := s.dict.perReq.filter (fun e => e.1 / 2 ^ 24 ≠ p.val)
    held := s.dict.held.filter (fun h => h.1 ≠ some p) } }

/-- A ferry activation whose Commit is the controller's is abandoned, before its pause too; staging that it bound and has not
committed is erased (R276, R430, R436). -/
def State.resetFerry (s : State) (p : Fin 2) : State :=
  let mine : Bool := match s.boot.ferryFseq with
    | some f => ((s.cmq.cmds.get? f).map (fun c => decide (c.port = p))).getD false
    | none => false
  let s := if !mine then s
    else if s.boot.ferry == .prepared then s.record (fun b => { b with state := .written, ferry := .none, ferryFseq := none, next := [] })
    else s.abandonFerry.setBoot (fun b => { b with ferryFseq := none })
  if s.boot.bound = some p ∧ !s.boot.committed then s.clearStaging else s

/-- In ACTIVATE_AT_RESET the reset performs the ferry activation (R432). -/
def State.activateHere (s : State) : State :=
  if s.boot.state = .activateAtReset then (s.ferryPrepare none).ferryPause else s

/-- The controller after its reset: features as saved, fatal status and logs kept, no queue. -/
def Ctrl.afterReset (c : Ctrl) : Ctrl :=
  { cfs := c.cfs, feat := c.featSaved, featSaved := c.featSaved, errors := c.errors, changedNs := c.changedNs
    selfTestLast := c.selfTestLast }

/-- A whole DRAM channel has failed and the degraded layout is not yet in use: the reset is carried out as a cold start that
keeps power (R335). -/
def State.degradeDue (s : State) : Bool := !s.dram.degraded && (List.finRange 16).any (fun c => s.dram.chs[c].failed)

/-- DESIGN CHOICE (notes/assumptions/62.md): the reset returns the port's export area to its reset values. -/
def State.resetCtrl (s : State) (p : Fin 2) : State :=
  let s := s.arrive.resetFerry p
  let s := (s.cmq.cmds.filter (fun e => e.2.port = p)).foldl (fun s e => s.resetCmd e.1 e.2) s
  let s := (s.releaseByReset p).setCtrl p Ctrl.afterReset
  let chs := (s.lentOf p).foldl (fun (v : Tbl 16 SdmCh) ch => v.upd ch (fun _ => {})) s.sdm.chs
  let s := s.dropReads (fun l => l.who == .export_ p)
  let s : State := { s with sdm := { s.sdm with chs := chs }, media := { s.media with expArea := s.media.expArea.upd p (fun _ => {}) } }
  (((((s.resetKeys p).resetMbox p).resize p).followPs false p).activateHere).resumeAll

/-- A controller reset of a port; in Deep Rest and during a wake it discards the retained controller (R461). -/
def State.controllerReset (s : State) (p : Fin 2) : State :=
  if !s.portList.contains p then s
  else if s.asleep then
    let s := (s.cmq.cmds.filter (fun e => e.2.port = p)).foldl (fun s e => s.endCmd e.1) s
    let s := (s.setCtrl p Ctrl.afterReset).resetMbox p
    s.setPws (fun w => { w with rest := w.rest.map (fun r => r.upd p Ctrl.afterReset) })
  else if !s.live then s
  else if s.degradeDue then
    let t := s.coldInPlace
    { t with dram := { t.dram with degraded := true } }
  else s.resetCtrl p

/-! ### CC.EN, FLR, subsystem reset -/

/-- CC_ENABLE: the admin queue pair comes into being, and the controller becomes ready when it may (R246, R298). -/
def State.ccEnable (s : State) (p : Fin 2) (wrr : Bool) (asqs acqs : Nat) : State :=
  if !s.live ∨ !(s.portList.contains p) ∨ !s.linkUp p ∨ (s.ctrl p).en then s
  else
    (s.setCtrl p (fun c => { c with
      en := true, wrr := wrr, sqs := c.sqs.put 0 { size := asqs, cqid := 0 }, cqs := c.cqs.put 0 { size := acqs } })).tryReady p

def execCcEnable (p : Fin 2) (wrr : Bool) (asqs acqs : Nat) (s : State) : Host.Outcome State Fault Refusal :=
  .next (s.ccEnable p wrr asqs acqs)

/-- CC_DISABLE: CC.EN is cleared (R275, R302). -/
def execCcDisable (p : Fin 2) (s : State) : Host.Outcome State Fault Refusal :=
  .next (if s.linkUp p ∧ (s.ctrl p).en then s.controllerReset p else s)

/-- The function's configuration returns to its default. -/
def State.clearConfig (s : State) (p : Fin 2) : State := s.setPort p (fun q => { q with config := [] })

/-- FUNCTION_LEVEL_RESET. -/
def execFunctionLevelReset (p : Fin 2) (s : State) : Host.Outcome State Fault Refusal :=
  .next (if s.linkUp p then (s.controllerReset p).clearConfig p else s)

/-- The part has been started again by the reset of a port, and nothing of the port is left to change. -/
def State.restarted (s : State) : Bool := s.phase == .rom

/-- A reset of the link: the controller is reset, the configuration cleared, and the link leaves its state. -/
def State.linkReset (s : State) (p : Fin 2) (l : LinkSt) : State :=
  ((s.controllerReset p).clearConfig p).setPort p (fun q => { q with link := l, ide := .none, ideKeys := Vector.replicate 2 none })

/-- HOT_RESET: the link trains again. -/
def execHotReset (p : Fin 2) (s : State) : Host.Outcome State Fault Refusal :=
  .next (if s.linkUp p then s.linkReset p .detect else s)

/-- LINK_DOWN: as at a hot reset, with event 0x4101 (R309). -/
def execLinkDown (p : Fin 2) (s : State) : Host.Outcome State Fault Refusal :=
  .next (if s.linkUp p then (s.log 0x4101 (s.portSrc p)).linkReset p .down else s)

/-- NVM_SUBSYSTEM_RESET: both controllers (R275). -/
def execNvmSubsystemReset (s : State) : Host.Outcome State Fault Refusal :=
  .next (s.portList.foldl (fun s p => if s.restarted then s else s.controllerReset p) s)

/-- PERST_ASSERT: the port's controller is reset and its link is down. A flush runs on (R512). -/
def execPerstAssert (p : Fin 2) (s : State) : Host.Outcome State Fault Refusal :=
  .next (if s.ports[p].perst ∨ s.phase = .off then s
    else (s.linkReset p .down).setPort p (fun q => { q with perst := true }))

/-- The reference clock runs: it leads the timebase where the ring stands in for both sources, unless the supplies are still awaited
(R41, R464, R512). -/
def State.refclkRuns (s : State) : State :=
  let t : Timebase := { s.tb with refclkUp := true }
  { s with tb := if t.srcAct = .ring ∧ s.powered then { t with srcAct := t.settleOn (selSource t.srcSel) } else t }

/-- PERST_DEASSERT: the host's reference clock runs by then; the port begins link training; in wake fault the supply sequence runs once
more (R308, R465, R512). -/
def State.perstOff (s : State) (p : Fin 2) : State :=
  if !s.ports[p].perst ∨ s.phase = .off then s
  else
    let s := (s.setPort p (fun q => { q with perst := false })).refclkRuns
    if s.phase = .wakeFault then
      let s : State := { s with phase := .supplies }
      let s := s.setPws (fun w => { w with
        wakeFault := false, retries := 0, failSupply := 0, enVcore := false, enNand := false, en1v8 := false, pgVcore := false
        pgNand := false, pg1v8 := false })
      (s.emits [.enable .vcore false, .enable .vioNand false, .enable .v1p8 false]).enableFirst
    else if s.canTrain p then s.setLink p .detect else s

def execPerstDeassert (p : Fin 2) (s : State) : Host.Outcome State Fault Refusal := .next (s.perstOff p)

/-! ### Shutdown (R277) -/

/-- The commands of a port that have been fetched and must complete. -/
def State.busyCmds (s : State) (p : Fin 2) : Bool :=
  s.cmq.cmds.any (fun e => decide (e.2.port = p) && !(e.2.phase == .outstanding))

/-- Another controller is at work, so that rows go on opening. -/
def State.othersRun (s : State) (p : Fin 2) : Bool :=
  s.portList.any (fun q => decide (q ≠ p) && (s.ctrl q).en && decide ((s.ctrl q).shst = 0))

/-- Everything that was open is programmed. -/
def State.rowsDone (s : State) (p : Fin 2) : Bool :=
  s.othersRun p || (s.media.rows.all (fun e => e.2.stream.isCopy) && s.land.lines.all (fun e => e.2.st == .filling))

/-- A shutdown closes the open rows (R94), unless another controller is at work. -/
def State.closeOpen (s : State) (p : Fin 2) : State := if s.othersRun p then s else s.drain.copiesGo

/-- NORMAL_SHUTDOWN: fetching stops at once; when the fetched commands and the open rows are done, a full checkpoint ends it.
Sent again, it goes on from where it stands. -/
def State.shutdownNormal (s : State) (p : Fin 2) : State :=
  if !(s.ctrl p).en ∨ (s.ctrl p).shst = 2 then s
  else
    let s := s.setCtrl p (fun c => { c with shst := 1 })
    if s.busyCmds p then s
    else
      let s := s.closeOpen p
      if !s.rowsDone p then s
      else
        let s := if (s.ctrl p).ckpt then s else s.checkpoint.setCtrl p (fun c => { c with ckpt := true })
        let s := s.closeOpen p
        if s.media.ckptDue.isSome then s
        else
        let s := s.suppSummary.setCtrl p (fun c => { c with shst := 2, ckpt := false })
        s.setBoot (fun b => { b with replayDue := b.replayDue && !s.shutDown })

def execNormalShutdown (p : Fin 2) (s : State) : Host.Outcome State Fault Refusal := .next (s.whenLive (fun s => s.shutdownNormal p))

/-- ABRUPT_SHUTDOWN: the open rows are closed and programmed without a checkpoint. -/
def State.shutdownAbrupt (s : State) (p : Fin 2) : State :=
  if !(s.ctrl p).en ∨ (s.ctrl p).shst = 2 then s
  else
    let s := (s.setCtrl p (fun c => { c with shst := 1 })).closeOpen p
    if !s.rowsDone p then s
    else (s.setCtrl p (fun c => { c with shst := 2 })).setBoot (fun b => { b with replayDue := true })

def execAbruptShutdown (p : Fin 2) (s : State) : Host.Outcome State Fault Refusal := .next (s.whenLive (fun s => s.shutdownAbrupt p))

/-! ### Release by resume (R305) -/

/-- Every cause is one of triggers 0 to 3. -/
def Contain.resumable (c : Contain) : Bool := decide (c.causes &&& 0xF0 = 0)

/-- The completion of a record: the held status of a DONE record, 0xC4 for one that was ended; a command that runs on
completes when it ends, and an outstanding request stays. -/
def State.postFate (s : State) (p : Fin 2) (f : Fate) : State :=
  match f.fate with
  | 2 => s.post p f.fseq f.sqid f.cid (f.st.getD .success) 0
  | 5 => match f.st with
    | some st => s.post p f.fseq f.sqid f.cid st 0
    | none => s
  | 6 => s
  | _ => s.post p f.fseq f.sqid f.cid .vsC4 0

def State.resume (s : State) (p : Fin 2) : State :=
  let c := s.ports[p].cnt
  if !c.active ∨ !c.fatesValid ∨ !c.resumable ∨ !(s.ctrl p).en then
    s.setPort p (fun q => { q with cnt := { q.cnt with resumeRefused := true } })
  else
    let s := s.setPort p (fun q => { q with cnt := { q.cnt with active := false } })
    let s := (c.fates.foldl (fun s f => s.postFate p f) s).log 0x4202 (s.portSrc p) (leBytes 2 c.fates.length)
    (s.useLatched p).resumeAll

/-- RESUME: HLK_CNT_CTL.RESUME. -/
def execResume (p : Fin 2) (s : State) : Host.Outcome State Fault Refusal := .next (s.whenLive (fun s => s.resume p))

/-- A write of HLK_CNT_CTL, through the capability or its mirror (R299). -/
def State.writeCntCtl (s : State) (p : Fin 2) (v : BitVec 32) : State :=
  let s := s.setPort p (fun q => { q with cnt := { q.cnt with trigEn := trigLoad (v.toNat % 256) } })
  let s := if v.getLsbD 8 then s.trip p 0 else s
  if v.getLsbD 9 then s.resume p else s

/-- A write of HLK_CNT_STAT: RESUME_REFUSED is cleared by a 1. -/
def State.writeCntStat (s : State) (p : Fin 2) (v : BitVec 32) : State :=
  if v.getLsbD 3 then s.setPort p (fun q => { q with cnt := { q.cnt with resumeRefused := false } }) else s

/-! ### The configuration space (R286, R287, R299) -/

/-- Extended capabilities: offset, ID, version. -/
def extCaps : List (Nat × Nat × Nat) :=
  [(0x100, 0x0001, 2), (0x148, 0x0003, 1), (0x158, 0x0019, 1), (0x188, 0x0025, 1), (0x198, 0x0026, 1), (0x1C8, 0x002A, 1),
   (0x208, 0x0031, 1), (0x238, 0x0027, 1), (0x280, 0x001E, 1), (0x290, 0x0018, 1), (0x2A0, 0x002F, 1), (0x2B0, 0x002E, 1),
   (0x2C8, 0x0030, 1), (0x328, 0x000B, 1)]

/-- The header of the extended capability at `o`: ID, version, next. -/
def extHeader (o : Nat) : List (Nat × Nat × Nat) → Option Nat
  | [] => none
  | [c] => if c.1 = o then some (c.2.1 + c.2.2 * 65536) else none
  | c :: d :: cs => if c.1 = o then some (c.2.1 + c.2.2 * 65536 + d.1 * 2 ^ 20) else extHeader o (d :: cs)

/-- The serial number that the identity range and the configuration space report (R287, R396). -/
def State.serialNo (s : State) : Nat := if s.bst.calibOk then s.bst.serial.toNat else 0

/-- The containment registers, from the capability's start. -/
def Contain.regs (c : Contain) (o : Nat) : Option Nat :=
  match o with
  | 0x04 => some 0x03010C01
  | 0x08 => some 0x400001FF
  | 0x0C => some (trigLoad c.trigEn.toNat).toNat
  | 0x10 => some c.stat
  | 0x14 => some (c.tb.toNat % 2 ^ 32)
  | 0x18 => some (c.tb.toNat / 2 ^ 32)
  | 0x1C => some (c.fseq.toNat % 2 ^ 32)
  | 0x20 => some (c.fseq.toNat / 2 ^ 32)
  | 0x24 => some (c.fates.length + 65536 * c.dbLatched.toNat)
  | 0x28 | 0x2C => some 0
  | _ => none

/-- `v` in the `n` bits of `x` from bit `lo`. -/
def fieldPut (x lo n v : Nat) : Nat := x % 2 ^ lo + (v % 2 ^ n) * 2 ^ lo + x / 2 ^ (lo + n) * 2 ^ (lo + n)

/-- Fields over a dword: bit, width, value. -/
def fieldsPut (x : Nat) (fs : List (Nat × Nat × Nat)) : Nat := fs.foldl (fun x f => fieldPut x f.1 f.2.1 f.2.2) x

/-- The fields of the header and of the Power Management and PCI Express capabilities that R286 and R287 give, at the places of
the standard (PRESUMED, notes/assumptions/65.md): Header Type 0; capability IDs and pointers; no D1, D2 or PME; D0 and D3hot,
No_Soft_Reset; endpoint, 1024 bytes, Extended Tag, role-based errors, Function Level Reset; 64 GT/s, width, ASPM L1, exit 2 to 4
µs, Clock Power Management; Ranges A to D, LTR, 10-bit tags; speeds 2.5 to 64 GT/s. -/
def capFields (dual : Bool) (o w : Nat) : List (Nat × Nat × Nat) :=
  match o with
  | 0x0C => [(16, 8, 0)]
  | 0x40 => [(0, 8, 0x01), (8, 8, 0x50), (25, 2, 0), (27, 5, 0)]
  | 0x44 => [(0, 2, if w % 4 = 3 then 3 else 0), (3, 1, 1)]
  | 0x70 => [(0, 8, 0x10), (8, 8, 0), (16, 4, 2), (20, 4, 0)]
  | 0x74 => [(0, 3, 3), (5, 1, 1), (15, 1, 1), (28, 1, 1)]
  | 0x7C => [(0, 4, 6), (4, 6, if dual then 8 else 16), (10, 2, 2), (15, 3, 2), (18, 1, 1)]
  | 0x94 => [(0, 4, 0xF), (11, 1, 1), (16, 2, 3)]
  | 0x9C => [(1, 7, 0x3F)]
  | _ => []

/-- The dword at `o` of a port's configuration space; fields that the standard alone gives are opaque. -/
def State.configDword (s : State) (p : Fin 2) (o : Nat) : Nat :=
  let w := ((s.ports[p].config.get? o).getD 0).toNat
  match o with
  | 0x104 => w
  | 0x108 => (s.ports[p].config.get? o).elim (ofLeBytes ((Config.standardReply 0x10108 0).take 4)) BitVec.toNat
  | 0x00 => 0x96401F3D
  | 0x08 => 0x01080211
  | 0x10 => w / 65536 * 65536 + 4
  | 0x18 => w / 2 ^ 31 * 2 ^ 31 + 12
  | 0x20 => w / 2 ^ 24 * 2 ^ 24 + 4
  | 0x14 | 0x1C | 0x24 => w
  | 0x2C => s.subsystem
  | 0x34 => 0x40
  | 0x3C => w % 256
  | 0x50 => 0x07FF7011 + w / 2 ^ 30 * 2 ^ 30
  | 0x54 => 0x00F00004
  | 0x58 => 0x0000F000
  | 0x14C => s.serialNo % 2 ^ 32
  | 0x150 => s.serialNo / 2 ^ 32
  | _ =>
    match extHeader o extCaps with
    | some h => h
    | none =>
      match (if 0x328 ≤ o then s.ports[p].cnt.regs (o - 0x328) else none) with
      | some x => x
      | none => fieldsPut (ofLeBytes ((Config.standardReply (0x10000 + o) w).take 4)) (capFields s.dual o w)

/-- The function answers configuration requests: not before the loader runs at a start; in deep rest and a wake from retained
values (R308, R461). -/
def State.configReady (s : State) : Bool := s.asleep || !(s.phase == .supplies || s.phase == .rom)

/-- CONFIG_REQUEST. -/
def State.configRequest (s : State) (p : Fin 2) (offset : Nat) (wr : Option (BitVec 32)) : State :=
  let o := offset / 4 * 4
  if !s.linkUp p then s
  else if !s.configReady then s.emit (.tlp p .retry)
  else match wr with
    | none => s.emit (.tlp p (.ok (leBytes 4 (s.configDword p o))))
    | some v =>
      (if o = 0x104 then s.setPort p (fun q => { q with config := q.config.put o ((q.config.get? o).getD 0 &&& ~~~v) })
       else if o = 0x334 then (s.whenLive (fun s => s.writeCntCtl p v))
       else if o = 0x338 then (s.whenLive (fun s => s.writeCntStat p v))
       else s.setPort p (fun q => { q with config := q.config.put o v })).emit (.tlp p (.ok []))

def execConfigRequest (p : Fin 2) (offset : Nat) (wr : Option (BitVec 32)) (s : State) : Host.Outcome State Fault Refusal :=
  .next (s.configRequest p offset wr)

end Sys2Proof.Machine
end

