-- ==== Sys2Proof/Machine/Start.lean ====
section
/-! DEFINITION. How the part starts and how its run ends: straps (R509, R514, R527), the boot chain (R405 to R407, R428, R441 to
R443), the self-test of failed units (R53), recovery (R246 to R248), the ends of a flush (R236, R238, R441, R469), the wake from
Deep Rest (R459 to R462), the hardware watchdog (R53, R403). -/

namespace Sys2Proof.Machine

open Sys2Proof

/-! ### The auxiliary domain (R509, R514, R527) -/

/-- AUX_POWER_ON: V3P3_AUX rises. What was lost with the power that went away is settled first. -/
def execAuxPowerOn (s : State) : Host.Outcome State Fault Refusal :=
  .next (if s.phase = .auxReset then s else s.leftBehind.restart false .auxReset)

/-- AUX_RELEASE: the straps are sampled and the first supply is enabled; TEST_SCAN drives no enable. -/
def State.auxRelease (s : State) (peDual mbSel testScan : Bool) : State :=
  if !(s.phase == .auxReset) then s
  else
    let s : State := { s with board := { s.board with peDual := peDual, mbSel := mbSel, testScan := testScan } }
    if testScan then { s with phase := .testScan } else State.enableFirst { s with phase := .supplies }

def execAuxRelease (peDual mbSel testScan : Bool) (s : State) : Host.Outcome State Fault Refusal :=
  .next (s.auxRelease peDual mbSel testScan)

/-! ### The boot ROM: calibration row, keys, self-test (R53, R237, R354, R396, R405) -/

/-- Every core starts anew; one that was out of service is tried by three heartbeats at a cold start, and stays out over a wake (R53). -/
def Units.coresAgain (u : Units) (cold : Bool) : Units :=
  { u with cores := Vector.ofFn (fun c : Fin 32 =>
    if cold then { trying := if u.outages.any (coreOutage c.val) then some 0 else none } else { failed := u.cores[c].failed }) }

/-- The unit of an outage passes its self-test: it serves again. Cores and DRAM channels are tried otherwise. -/
def Units.pass (u : Units) (o : Nat × Nat × Byte) : Units :=
  let sl : Fin 8 := Fin.ofNat 8 o.2.2.toNat
  if o.1 = 0x3420 then { u with hard := u.hard.upd sl (fun x => x &&& ~~~((1 : BitVec 8) <<< o.2.1)) }
  else if o.1 = 0x3421 ∨ o.1 = 0x3423 then { u with soft := u.soft.upd sl (fun x => x &&& ~~~((1 : BitVec 2) <<< o.2.1)) }
  else if o.1 = 0x3430 ∨ o.1 = 0x3431 then { u with comp := u.comp.upd sl (fun _ => false) }
  else if o.1 = 0x3440 ∨ o.1 = 0x3441 then { u with acc := u.acc.upd sl (fun _ => false) }
  else if o.1 = 0x5430 ∨ o.1 = 0x5431 then { u with lane := u.lane.upd sl (fun _ => false) }
  else if o.1 = 0x5410 then { u with pair := false, cores := (u.cores.upd 30 (fun _ => {})).upd 31 (fun _ => {}) }
  else u

/-- Whether an outage is tried by the self-test of the boot ROM. -/
def selfTested (o : Nat × Nat × Byte) : Bool :=
  [0x3420, 0x3421, 0x3423, 0x3430, 0x3431, 0x3440, 0x3441, 0x5430, 0x5431, 0x5410].contains o.1

/-- The self-test tries a failed unit; its outcome is a free value (DEDUCED, notes/assumptions/12.md). -/
def State.selfTest (s : State) (o : Nat × Nat × Byte) : State :=
  if !selfTested o then s
  else
    let ok := Config.selfTestPasses s.free
    let s : State := { s with free := s.free + 1 }
    if ok then State.returned { s with units := s.units.pass o } (fun x => x == o) else s

/-- The self-test tries a failed die (R53, R178); its outcome is a free value (DEDUCED, notes/assumptions/12.md). One that
passes is to be erased as a whole before it comes back. -/
def State.testDie (s : State) (d : Nat) : State :=
  if !s.media.dieFailed d then s
  else
    let ok := Config.selfTestPasses s.free
    let s : State := { s with free := s.free + 1 }
    let all := (List.range s.media.blocks).filter (fun b => !(s.media.die d).bad.contains b)
    s.setDie d (fun x => { x with returning := ok, dirty := if ok ∧ !x.returning then all else x.dirty })

/-- The cores of a security pair that stays out of service. -/
def Units.pairOut (u : Units) : Units :=
  if u.pair then { u with cores := (u.cores.upd 30 (fun k => { k with failed := true })).upd 31 (fun k => { k with failed := true }) }
  else u

/-- What failed units still mean after the self-test: the pair's failure, and compression of their slices. -/
def State.stillOut (s : State) : State :=
  { s with
    units := s.units.pairOut
    sec := { s.sec with pairFail := s.units.pair, keysHeld := !s.sec.meshBroken && !s.units.pair && !s.sec.tampered }
    media := { s.media with wrp := Vector.ofFn (fun sl : Fin 8 => { s.media.wrp[sl] with compEn := !s.units.comp[sl] }) } }

/-- Boot fault (R407): stage and reason are coded as the manual does not say. -/
def State.bootFault (s : State) (stage : Nat) : State :=
  ({ s with phase := .bootFault } : State).log 0x1006 0x20 ((Config.standardReply 0x1006 stage).take 2)

/-- The ROM stage of a start. -/
def State.rom (s : State) (calibOk loaderOk pfailLow : Bool) : State :=
  if !(s.phase == .rom) then s
  else
    let s : State := { s with
      clocks := { s.clocks with pcc := satInc s.clocks.pcc }
      bst := { s.bst with calibOk := calibOk }
      units := s.units.coresAgain !s.pws.drFlag }
    let s := if calibOk then s else s.log 0x1008 0xFF
    let s := if pfailLow ∧ s.param 0x3400 0x0A = 1 then
      ({ s with plp := { s.plp with pfailBad := true } } : State).log 0x7311 0x40 else s
    let s := if s.pws.drFlag then s else s.media.dies_.foldl State.testDie (s.units.outages.foldl State.selfTest s)
    let s := s.stillOut
    if loaderOk then { s with phase := .slipway } else s.bootFault 1

/-- COLD_START. -/
def execColdStart (calibOk loaderOk pfailLow : Bool) (s : State) : Host.Outcome State Fault Refusal :=
  .next (s.rom calibOk loaderOk pfailLow)

/-! ### The slipway loader (R403, R404, R406, R407, R428, R441, R442) -/

/-- The sectors of the image, staging, identity and boot control areas. -/
def checkedSectors : List Nat := (List.range 512).map (· + 132) ++ [1020, 1021, 1022, 1023]

/-- Journal memory can be reached: records that waited are kept (R420). -/
def Evr.journal (e : Evr) : Evr :=
  { e with journalUp := true, recs := (e.early ++ e.recs).filter (Evr.keeps e.next), early := [] }

/-- Events 0x1003 and 0x1007; staging with an incomplete sector is discarded (R404). -/
def State.checkSectors (s : State) : State :=
  let bad := checkedSectors.filter s.bst.incomplete
  let s := s.logs (bad.map (fun x => (⟨0x1003, 0x20, leBytes 2 x ++ leBytes 4 (s.bst.shadowOf x).entry⟩ : Ev)))
  let s := match s.bst.abortedOp with
    | some o => (s.log 0x1007 0x20 (leBytes 2 o.1 ++ (Config.standardReply 0x1007 (bit o.2)).take 1)).setBst (fun b => { b with abortedOp := none })
    | none => s
  let s := s.setBoot (fun b => { b with incomplete := bad != [] })
  if bad.any (fun x => decide (388 ≤ x) && decide (x < 644)) then s.clearStaging else s

/-- An image of the image area may start: complete, and checks 1 to 7 of R428 hold. -/
def State.areaStarts (s : State) : Bool :=
  s.bst.imageComplete imageFirst && (verifyImage (s.bst.image imageFirst) s.cosign (some s.boot.svnMin)).isNone

/-- The rollback copy, if it may start: the security version is not checked. -/
def State.rollbackStarts (s : State) : Option (List Byte) :=
  match s.boot.rollback with
  | some img => if (verifyImage img s.cosign none).isNone then some img else none
  | none => none

/-- A trial has come to its end without a health token (R441, R442). -/
def Boot.trialOver (b : Boot) : Bool := decide (b.state = .trial) && (b.trialExpired || decide (2 ≤ b.tries))

/-- The image area holds an image that starts under trial (R442, R443). -/
def Boot.underTrial (b : Boot) : Bool :=
  b.state == .trial || b.state == .written || b.state == .activateAtReset || b.state == .activating

/-- The image area may be chosen in the state of the record. -/
def Boot.areaChosen (b : Boot) : Bool := !(b.state == .writing || b.state == .rejected)

/-- An image starts: the firmware stage follows. -/
def State.runImage (s : State) (source : Nat) (img : List Byte) : State :=
  { s with phase := .firmware, boot := { s.boot with source := source, run := img, rewriting := decide (source = 1) } }

/-- The trial timer is armed before an image in state TRIAL starts (R438); STATE and TRIES are recorded. -/
def State.startTrial (s : State) : State :=
  let n := if s.boot.state = .trial then s.boot.tries + 1 else 1
  let s := s.record (fun b => { b with state := .trial, tries := n })
  s.setBoot (fun b => { b with armed := some (b.imageSeq, s.tb.count.toNat), trialSeq := b.imageSeq })

/-- The loader's choice of R406. -/
def State.choose (s : State) (recoveryOk : Bool) : State :=
  if s.boot.areaChosen && s.areaStarts then
    let s := if s.boot.underTrial then s.startTrial else s
    s.runImage 0 (s.bst.image imageFirst)
  else match s.rollbackStarts with
    | some img => (s.runImage 1 img).log 0x1004 0x20 (leBytes 4 (imgSeq img))
    | none =>
      if recoveryOk then (s.runImage 2 Config.recoveryImage).log 0x1005 0x20
      else s.bootFault 2

/-- The slipway stage of a start. -/
def State.slipway (s : State) (recoveryOk : Bool) : State :=
  if !(s.phase == .slipway) then s
  else
    let s : State := { s with evr := s.evr.journal }
    let s := s.loadRecord.checkSectors
    let s := if s.boot.trialOver then
      (s.record (fun b => { b with state := .rejected })).setBoot (fun b => { b with fallbacks := b.fallbacks + 1, trialExpired := true }) else s
    s.choose recoveryOk

/-- SLIPWAY_START. -/
def execSlipwayStart (recoveryOk : Bool) (s : State) : Host.Outcome State Fault Refusal := .next (s.slipway recoveryOk)

/-! ### The firmware begins (R335, R409, R475) -/

/-- Entries that persist act again on what returned to reset. -/
def State.applyStored (s : State) : State :=
  let again (k : Nat) : Bool := [0x3100, 0x3210, 0x4010, 0x4011, 0x4012, 0x5124].contains (k / 256) || k == 0x340009 || k == 0x34000B
  let s := (s.dict.vals.filter (fun e => again e.1)).foldl (fun s e => s.applyEntry (e.1 / 256) (e.1 % 256) 0) s
  let s := s.setPlp (fun p => { p with pfailEn := decide (s.param 0x3400 0x0A = 1) })
  s.setDram (fun d => { d with retrainEn := decide (s.param 0x7000 4 = 0) })

/-- The shadow entries of BAR4/5 at reset (R294): windows 0 to 5 and 15. -/
def shadow4 : Tbl 16 (BitVec 4) :=
  Vector.ofFn (fun n : Fin 16 => if n.val < 6 then BitVec.ofNat 4 (n.val + 5) else if n.val = 15 then 11 else 0)

/-- The windows, the sizes of R282 and TRIG_EN of a port are loaded. -/
def State.loadPort (s : State) (p : Fin 2) : State :=
  (s.setPort p (fun q => { q with shd4 := shadow4, cnt := { q.cnt with trigEn := trigLoad (s.param 0x2000 5) } })).resize p

/-- Units that stay out of service in both slices of a pair keep the controllers in fatal status (R52, R53). -/
def Units.pairLost (u : Units) : Bool :=
  (List.finRange 8).any (fun sl => let m := partner sl
    (u.hardAll sl && u.hardAll m) || (u.comp[sl] && u.comp[m]) || (u.lane[sl] && u.lane[m]))

/-- Event 0x3456 at a start in the degraded layout (R335). -/
def State.saysDegraded (s : State) : State :=
  if s.dram.degraded then match s.units.outages.find? (fun o => decide (o.1 = 0x3450)) with
    | some o => s.log 0x3456 0xFF (leBytes 1 o.2.1)
    | none => s
  else s

/-- The first firmware instruction: ledger record and event, stored values, charging; recovery runs next. -/
def State.firmware (s : State) : State :=
  if !(s.phase == .firmware) then s
  else
    let s : State := { s with phase := .recovering }
    let wake := s.pws.drFlag
    let s := s.writeLedger (if wake then 2 else 1) s.ledgerFlags
    let s := s.log (if wake then 0x1002 else 0x1001) 0xFF (leBytes 1 s.boot.source ++ leBytes 1 s.ledgerFlags.toNat)
    let s := s.applyStored.saysDegraded
    let s := if s.land.wt then s.log 0x2210 0xFF (leBytes 4 s.land.limit) else s
    let s := s.portList.foldl State.loadPort s
    let s := s.setMedia (fun m => { m with fch := m.fch.all (fun f => if f.isolate then f else { f with state := 1 }) })
    let s := if s.units.pairLost then s.fatal s.portList else s
    (if s.plp.chgEn then s.startCharge else s).serveDict

/-- FIRMWARE_START. -/
def execFirmwareStart (s : State) : Host.Outcome State Fault Refusal := .next s.firmware

/-! ### Recovery (R83, R155, R204, R246 to R248) -/

/-- Dies present on a channel. -/
def Fch.count (f : Fch) : Nat := ((List.range 16).filter (fun i => f.present.getLsbD i)).length

/-- R83: all 64 channels, or the 32 even-numbered ones, each with the same positions, 1, 2, 4, 8 or 16 of them. -/
def Media.populationOk (m : Media) : Bool :=
  let used := (List.finRange 64).filter (fun c => m.fch[c].present != 0)
  (decide (used.length = 64) || (decide (used.length = 32) && used.all (fun c => decide (c.val % 2 = 0)))) &&
    used.all (fun c => m.fch[c].present == m.fch[0].present) && [1, 2, 4, 8, 16].contains m.fch[0].count

/-- The dies that are present, ascending. -/
def Media.presentDies (m : Media) : List Nat :=
  (List.finRange 64).flatMap (fun c => ((List.range 16).filter (fun i => m.fch[c].present.getLsbD i)).map (· + c.val * 16))

/-- The chip enables and channels that start-up has lost cost their dies once there is a population record (R171, R172). -/
def State.startLosses (s : State) : State :=
  (List.finRange 64).foldl (fun s c =>
    let dies := (List.range 16).map (fun i => c.val * 16 + i)
    if s.media.fch[c].isolate then dies.foldl (fun s d => s.dieFails d 4) s
    else if s.media.allCeLost c then s.isolate c
    else (List.finRange 4).foldl (fun s k =>
      if s.media.fch[c].ces[k].lost then (ceDies c k).foldl (fun s d => s.dieFails d 4) s else s) s) s

/-- The first start takes the population record, and the guaranteed capacity of the spare setting (R155, R221). A population
that R83 rules out writes both its event and that of R155, whose DATA has no value for this case (DEDUCED,
notes/assumptions/12.md). -/
def State.takePopulation (s : State) : State :=
  if s.media.population.isSome then s
  else if !s.media.populationOk then
    let ns := ((List.finRange 64).map (fun c => s.media.fch[c].count)).filter (· ≠ 0)
    ((s.setMedia (fun m => { m with popInvalid := true })).log 0x3002 0xFF ((Config.standardReply 0x3002 0).take 3)).log 0x3001 0xFF
      (leBytes 1 ns.length ++ leBytes 1 (ns.foldl min 16) ++ leBytes 1 (ns.foldl max 0))
  else if s.media.popInvalid then s
  else
    let s := s.setMedia (fun m => { m with population := some m.presentDies })
    (s.setMedia (fun m => { m with guaranteed := m.payload * (100 - s.param 0x3300 0) / 100 })).startLosses

/-- After the population check firmware sets FCH_CTL.EN of every channel that has a die in the population; training has ended
and the channel runs (R160); a channel without dies is off. -/
def State.channelsOn (s : State) : State :=
  let ds := s.media.population.getD []
  s.setMedia (fun m => { m with fch := Vector.ofFn (fun c : Fin 64 =>
    if m.fch[c].isolate then m.fch[c]
    else if ds.any (fun d => decide (chOf d = c)) then { m.fch[c] with en := true, state := 3 } else { m.fch[c] with state := 0 }) })

/-- What the media goes on with when recovery has ended: rebuilds, the erases of dies on their way back (R175, R178), the loading of the
map (R192). -/
def State.mediaGoesOn (s : State) : State :=
  let s := s.resumeRebuilds
  let back := (s.media.dies.filter (fun e => e.2.returning)).map (·.1)
  (back.foldl (fun s d => (s.returnErases d).dieReturns d) s).loadNext.settleReads

/-- Namespaces and their charges: what the map addresses (R99). -/
def Media.recharge (m : Media) : Media :=
  let m : Media := { m with namespaces := m.namespaces.map (fun e => (e.1, { e.2 with charged := 0, reserved := 0 })) }
  m.map.foldl (fun m e => m.chargeEntry (e.1 / 2 ^ 40) (e.1 % 2 ^ 40) e.2) m

/-- The units that a delta entry updates. -/
def DeltaEnt.covers (ns unit : Nat) : DeltaEnt → Bool
  | .single n u .. | .copy n u .. => decide (n = ns) && decide (u = unit)
  | .run .. => false
  | .state n u c _ => decide (n = ns) && decide (u ≤ unit) && decide (unit < u + c)

/-- The page of each delta of the ring, with the position of the oldest (R246 step 4). -/
def Media.pendingPages (m : Media) (blocks : List DeltaBlock) : AMap Nat :=
  blocks.foldl (fun t b => (b.ents.flatMap DeltaEnt.expand).foldl (fun (t : AMap Nat) e =>
    let pks := match e with
      | .single n u .. | .copy n u .. => [mapPageKey n u]
      | .run .. => []
      | .state n u c _ => (m.writtenPages.filter (fun pk => decide (mapPageKey n u ≤ pk) && decide (pk ≤ mapPageKey n (u + c))))
    pks.foldl (fun (t : AMap Nat) pk => if t.has pk then t else t.put pk b.pos) t) t) []

/-- Steps 2 to 4: the map is that of the map records with the readable deltas of the ring. -/
def Media.replayed (m : Media) (broken : Option Nat) : Media :=
  let blocks := match broken with
    | some x => m.ring.filter (fun b => decide (b.pos < x))
    | none => m.ring
  let m : Media := { m with ring := blocks, mirror := blocks, map := m.replayRing blocks, resident := [] }
  let t := m.pendingPages blocks
  Media.recharge { m with dirtyPages := t, replay := t.map (·.1) }

/-- The last row of a QLC stripe has had only its coarse pass (R247). -/
def Media.coarseOnly (m : Media) (t : Stripe) : Bool :=
  m.qlc && decide (0 < t.nextRow) && t.members.any (fun x => !m.heads.has (pageKey x.1 x.2 ((t.nextRow - 1) * m.types)))

/-- Open-block replay (R247): the stripes open at the loss are closed at their last complete row. After a normal shutdown or a wake only
a QLC stripe whose last row has had its coarse pass alone is. -/
def State.openBlocks (s : State) : State :=
  if !s.boot.replayDue then
    s.setMedia (fun m => { m with stripes := m.stripes.map (fun e => (e.1, { e.2 with isOpen := e.2.isOpen && !m.coarseOnly e.2 })) })
  else State.settleStripes (s.setMedia (fun m => { m with
    stripes := m.stripes.map (fun e => (e.1, { e.2 with isOpen := false })) }))

/-- Host deltas of a unit in the blocks after `pos` (R248). -/
def Media.hostDeltas (m : Media) (pos ns unit : Nat) : Nat :=
  ((m.ring.filter (fun b => decide (b.kind = 1) && decide (pos < b.pos))).flatMap
    (fun b => (b.ents.flatMap DeltaEnt.expand).filter (DeltaEnt.covers ns unit))).length

/-- The granules of the image whose newest acknowledged data is lost (R248). -/
def Media.lostOf (m : Media) (pos : Nat) (img : List (Nat × Nat × Nat × Nat)) : List Nat :=
  let held : List (Nat × Nat × Nat × Nat) := img.filter (fun r => decide (r.2.2.1 ≠ 3) && m.namespaces.has r.2.1)
  let keys := (held.map (fun r => gkey r.2.1 r.1)).dedup
  keys.filter (fun k =>
    let ns := k / 2 ^ 40
    let g := k % 2 ^ 40
    decide (m.hostDeltas pos ns (g / m.perUnit ns) < (held.filter (fun r => decide (gkey r.2.1 r.1 = k))).length))

/-- Step 6: after an unclean loss the line-index image is applied and the read counts are raised. -/
def State.applyImage (s : State) : State :=
  if !s.boot.imageDue then s
  else
    let s := s.raiseReads
    match s.land.image, (s.media.ring.filter (fun b => decide (b.kind = 7))).getLast? with
    | some img, some b =>
      let ks := s.media.lostOf b.pos img
      if ks = [] then s else (s.setMedia (fun m => m.lose ks)).log 0x2003 0xFF (leBytes 8 ks.length)
    | _, _ => s

/-- Links that rested return to L0, and doorbells written while the part slept are acted on (R460, R462). -/
def State.wakePorts (s : State) : State :=
  let s : State := { s with ports := s.ports.all (fun q => if q.link == .l1 then { q with link := .l0 } else q) }
  s.portList.foldl (fun s p => (s.tryReady p).useLatched p) s

/-- The events of recovery (R240, R246 step 7); a wake from Deep Rest follows no loss. -/
def State.sayRecovery (s : State) (ms : Nat) : State :=
  if s.pws.drFlag then s.setPws (fun w => { w with wakeTime := satOf 32 (ms * 1000) })
  else
    let s := if s.plp.lastFlush = 1 then s.log 0x2002 0xFF (leBytes 4 s.plp.flushUs) else s
    (s.setPlp (fun p => { p with lastRecovery := satOf 32 ms })).log 0x2010 0xFF (leBytes 4 ms ++ leBytes 1 s.plp.lastFlush)

/-- Recovery ends, and the device runs. -/
def State.recoveryEnds (s : State) (ms : Nat) (broken : Option Nat) : State :=
  if !(s.phase == .recovering) then s
  else
    let s := s.takePopulation.channelsOn.setMedia (fun m => m.replayed broken)
    let s := match broken with
      | some x => (s.setMedia (fun m => { m with protected_ := true })).log 0x2005 0xFF (leBytes 8 x)
      | none => s
    let s := s.openBlocks.applyImage.sayRecovery ms
    let s := s.setBoot (fun b => { b with replayDue := false, imageDue := false, recoveryDue := false })
    let s : State := { s with phase := .running, land := { s.land with image := none } }
    s.recompute.wakePorts.mediaGoesOn

/-- RECOVERY_COMPLETE. -/
def execRecoveryComplete (ms : Nat) (broken : Option Nat) (s : State) : Host.Outcome State Fault Refusal :=
  .next (s.recoveryEnds ms broken)

/-! ### The ends of a flush (R236, R238 steps 9 and 10, R441, R469) -/

/-- The flush ends on the bank: domains in reset, HU_DIS open. -/
def State.flushOff (s : State) : State :=
  ((s.linksDown.setPlp (fun p => { p with disClosed := false })).gates.enablesFall.setPws (fun w => { w with ps := 0 })) |>
    fun s => { s with phase := .flushed }

/-- A start of the part that the trial timer's expiry causes (R441). -/
def State.expiryStart (s : State) : State := s.coldInPlace.setBoot (fun b => { b with trialExpired := true })

/-- The flush mark is written, and the check words that wait in DRAM (R315). -/
def State.flushEnds (s : State) (us : Nat) : State :=
  if !s.flushDone && !s.boot.recoveryDue then s
  else match s.phase with
    | .flushing =>
      let s := (s.mark us).flushAllChecks
      if s.plp.pfail then s.flushOff
      else s.thermalHold
    | .trialFlush =>
      let s := (s.mark us).flushAllChecks
      if s.plp.pfail then s.flushOff else s.expiryStart
    | _ => s

/-- FLUSH_MARK. -/
def execFlushMark (us : Nat) (s : State) : Host.Outcome State Fault Refusal := .next (s.flushEnds us)

/-- HOST_POWER_RETURN: host power has been good for 10 ms after the flush's end; a cold start follows (R236). -/
def execHostPowerReturn (s : State) : Host.Outcome State Fault Refusal :=
  .next (if s.phase = .flushed then (s.runEnds true).coldFromOff else s)

/-- The trial timer expires (R441): the flush runs on host power, or, while nothing can be held yet, the reset comes at once. -/
def State.trialExpires (s : State) : State :=
  match s.boot.armed with
  | none => s
  | some (q, _) =>
    let s1 := (s.setBoot (fun b => { b with armed := none })).log 0x6031 0x20 (leBytes 4 q.toNat)
    match s.phase with
    | .recovering | .running =>
      State.flushBody { s1.setPws (fun w => { w with entry := none, gated := [] }) with phase := .trialFlush }
    | .slipway | .firmware => s1.expiryStart
    | _ => s

/-- TRIAL_TIMER_EXPIRE. -/
def execTrialTimerExpire (s : State) : Host.Outcome State Fault Refusal := .next s.trialExpires

/-- TRIAL_FLUSH_DEADLINE: 100 ms after the expiry without a flush mark the hardware resets anyway (R441). -/
def execTrialFlushDeadline (s : State) : Host.Outcome State Fault Refusal :=
  .next (if s.phase = .trialFlush ∧ !s.plp.pfail then s.expiryStart else s)

/-! ### The hardware watchdog (R53, R403) -/

/-- WATCHDOG_RESET: a store operation stops and keeps ABORTED; the part starts again with its power on. -/
def State.watchdogReset (s : State) : State :=
  match s.phase with
  | .rom | .slipway | .firmware | .recovering | .running =>
    s.bstStop.coldInPlace.setBoot (fun b => { b with watchdog := true })
  | .trialFlush => s.bstStop.coldInPlace.setBoot (fun b => { b with watchdog := true, trialExpired := true })
  | _ => s

def execWatchdogReset (s : State) : Host.Outcome State Fault Refusal := .next s.watchdogReset

/-! ### The wake from Deep Rest (R459 to R462) -/

/-- The queues, features and registers that the auxiliary domain and the rest image keep. -/
def State.kept (s : State) : Cmq :=
  match s.pws.rest with
  | some r => { s.cmq with ctrls := Vector.ofFn (fun p : Fin 2 => { (r[p]).operational with dbLatch := (s.cmq.ctrls[p]).dbLatch }) }
  | none => s.cmq

/-- Over a wake an isolated channel and a lost chip enable stay so: only a cold start tries them again (R171, R178). -/
def Fch.stillLost (f old : Fch) : Fch :=
  { f with
    isolate := old.isolate, state := if old.isolate then 5 else f.state, pinflt := old.pinflt, pinLatch := old.pinLatch
    ces := Vector.ofFn (fun k : Fin 4 => { f.ces[k] with lost := old.ces[k].lost }) }

/-- DEEP_REST_WAKE: a wake begins; it runs the boot chain as a cold start does, and restores what was kept. -/
def State.wakeUp (s : State) : State :=
  if !(s.phase == .deepRest) then s
  else
    let t := s.coldFromOff
    { t with
      cmq := s.kept
      ports := Vector.ofFn (fun p : Fin 2 =>
        let q := s.ports[p]
        { t.ports[p] with link := q.link, rate := q.rate, width := q.width, config := q.config, cnt := q.cnt })
      pws := { t.pws with drFlag := true }
      sec := { t.sec with causes := s.sec.causes, tampered := s.sec.tampered }
      bst := { t.bst with aborted := s.bst.aborted }
      media := { t.media with fch := Vector.ofFn (fun c : Fin 64 => t.media.fch[c].stillLost s.media.fch[c]) }
      boot := { t.boot with recoveryDue := true, unclean := false }
      dict := { t.dict with held := s.dict.held }
      board := s.board }

def execDeepRestWake (s : State) : Host.Outcome State Fault Refusal := .next s.wakeUp

end Sys2Proof.Machine
end

