-- ==== Sys2Proof/Machine/Board.lean ====
section
/-! DEFINITION. Chapter 16: the front panel (R519 to R521, R534), the management bus (R523, R524), the debug port (R525). -/

namespace Sys2Proof.Machine

open Sys2Proof

/-- The auxiliary domain runs. -/
def State.auxRuns (s : State) : Bool := !(s.phase == .off || s.phase == .auxReset || s.phase == .testScan || s.phase == .flushed)

/-- `f s` while the auxiliary domain runs. -/
def State.whenAux (s : State) (f : State → State) : State := if s.auxRuns then f s else s

def State.setBoard (s : State) (f : Board → Board) : State := { s with board := f s.board }

/-! ### LEDs -/

/-- What an LED shows. -/
inductive LedShow where
  | off | on | blink1 | blink2 | blink4
deriving DecidableEq, Repr

/-- The coding of `Output.led`; 5 is a released pin. -/
def ledCode : LedShow → Nat
  | .off => 0
  | .on => 1
  | .blink1 => 2
  | .blink2 => 3
  | .blink4 => 4

/-- What the board management controller sets (LED_ACT_MODE, LED_FAULT_MODE), or the automatic pattern. -/
def ledMode (mode : Nat) (auto : LedShow) : LedShow :=
  if mode = 1 then .off else if mode = 2 then .on else if mode = 3 then .blink1 else auto

def State.faultPhase (s : State) : Bool := s.phase == .bootFault || s.phase == .wakeFault

/-- FP_LED0, activity. -/
def State.ledAct (s : State) : LedShow :=
  if s.phase == .deepRest || s.faultPhase || !s.portList.any (fun p => (s.ctrl p).rdy) then .off
  else if s.cmq.cmds.any (fun e => !(e.2.phase == .outstanding)) then .blink4
  else .on

/-- FP_LED1, fault. -/
def State.ledFault (s : State) : LedShow :=
  if s.faultPhase || s.portList.any (fun p => (s.ctrl p).cfs) || s.sec.tampered || s.media.readOnly then .on
  else if s.plp.active ≠ 0 ∨ s.plp.testFail ∨ s.media.rebuilding then .blink1
  else if s.sec.waiting.isSome then .blink2
  else .off

/-- FP_LED2, locate: PFAIL_IN overrides it (R237). -/
def State.ledLocate (s : State) : LedShow :=
  if s.param 0x6020 2 = 1 ∧ s.param 0x6020 3 = 1 ∧ s.param 0x3400 0x0A = 0 then .blink1 else .off

/-- What FP_LEDk shows (R519). -/
def State.led (s : State) (k : Fin 3) : LedShow :=
  match k with
  | 0 => ledMode (s.param 0x6020 0) s.ledAct
  | 1 => ledMode (s.param 0x6020 1) s.ledFault
  | _ => s.ledLocate

/-- The fault that a check sees (R520): 1 short to V3P3_AUX, 2 short to VSS, 3 open. -/
def ledKind (highWhileSinking lowWhileReleased lowCurrent : Bool) : BitVec 2 :=
  if highWhileSinking then 1 else if lowWhileReleased then 2 else if lowCurrent then 3 else 0

/-- A check of an LED pin; FP_LED2 is no LED while it serves as PFAIL_IN. -/
def State.ledCheck (s : State) (k : Fin 3) (kind : BitVec 2) : State :=
  if k = 2 ∧ s.param 0x3400 0x0A = 1 then s
  else
    let old := s.board.ledFault[k]
    let s := s.setBoard (fun b => { b with ledFault := b.ledFault.upd k (fun _ => kind) })
    let s := if kind = old then s
      else if kind = 0 then s.log 0x7301 0x40 (leBytes 1 k.val)
      else s.log 0x7300 0x40 (leBytes 1 k.val ++ leBytes 1 kind.toNat)
    s.emit (.led k (if kind = 1 then 5 else ledCode (s.led k)))

/-- LED_CHECK. -/
def execLedCheck (led : Fin 3) (highWhileSinking lowWhileReleased lowCurrent : Bool) (s : State) : Host.Outcome State Fault Refusal :=
  .next (s.whenAux (fun s => s.ledCheck led (ledKind highWhileSinking lowWhileReleased lowCurrent)))

/-! ### The button (R310, R388, R521) -/

/-- FP_BTN_PRESS: an attention request from 50 ms to below 3 s. In Deep Rest it only wakes; the press that was declared stuck
ends without one (DEDUCED, notes/assumptions/42.md). -/
def State.btnPress (s : State) (ms : Nat) : State :=
  if s.board.btn = 2 then s.setBoard (fun b => { b with btn := 0 })
  else if ms < 50 ∨ 3000 ≤ ms ∨ s.phase = .deepRest then s
  else (s.log 0x7320 0x40 (leBytes 2 ms)).emit (.miNotify 0x7320 ms)

def execFpBtnPress (ms : Nat) (s : State) : Host.Outcome State Fault Refusal := .next (s.whenAux (fun s => s.btnPress ms))

/-- BUTTON_STUCK. -/
def execButtonStuck (s : State) : Host.Outcome State Fault Refusal :=
  .next (s.whenAux (fun s => if s.board.btn = 2 then s else (s.setBoard (fun b => { b with btn := 2 })).log 0x7321 0x40))

/-! ### The management bus (R524) -/

/-- The line of an event: 0 MB_SCL, 1 MB_SDA. -/
def lineByte (sda : Bool) : List Byte := leBytes 1 (bit sda)

/-- MB_LINE_HELD_LOW: both lines are released, with one event an episode. -/
def execMbLineHeldLow (sda : Bool) (s : State) : Host.Outcome State Fault Refusal :=
  .next (s.whenAux (fun s =>
    if s.board.mbLow.contains sda then s
    else ((s.setBoard (fun b => { b with mbLow := b.mbLow ++ [sda] })).log 0x7330 0x40 (lineByte sda)).emit (.mb false)))

/-- MB_LINE_RELEASED. -/
def execMbLineReleased (sda : Bool) (s : State) : Host.Outcome State Fault Refusal :=
  .next (s.whenAux (fun s =>
    if s.board.mbLow.contains sda then
      (s.setBoard (fun b => { b with mbLow := b.mbLow.filter (· != sda) })).log 0x7331 0x40 (lineByte sda)
    else s))

/-- I3C_HOT_JOIN: with MB_SEL 1, Hot-Join is requested and a dynamic address awaited. -/
def execI3cHotJoin (s : State) : Host.Outcome State Fault Refusal :=
  .next (s.whenAux (fun s =>
    if s.board.mbSel then (s.setBoard (fun b => { b with hotJoin := true })).emit (.mb true) else s))

/-! ### The debug port (R525 to R527) -/

/-- IDCODE of the test access port (R526). -/
def tapIdcode : BitVec 32 := 0x296407A7

/-- What the test access port offers: its instructions, the unlock register, the internal address map. -/
inductive TapOffer where
  | bypass | idcode | extest | samplePreload | unlockRegister | addressMap
deriving DecidableEq, Repr

/-- What it offers now (R525 to R527): nothing in Deep Rest; the address map once debug is unlocked. -/
def State.tap (s : State) : List TapOffer :=
  match s.phase with
  | .off | .auxReset | .deepRest => []
  | .testScan => [.extest, .samplePreload, .bypass, .idcode]
  | _ => [.bypass, .idcode, .unlockRegister] ++ (if s.sec.debugUnlocked then [.addressMap] else [])

/-- DBG_PRESENT_N changes; the port is unavailable in Deep Rest. -/
def State.probe (s : State) (here : Bool) : State :=
  if s.phase = .deepRest ∨ s.board.debugPresent = here then s
  else (s.setBoard (fun b => { b with debugPresent := here })).log (if here then 0x7340 else 0x7341) 0x40

/-- DEBUG_PROBE_ATTACH and DEBUG_PROBE_REMOVE. -/
def execDebugProbeAttach (s : State) : Host.Outcome State Fault Refusal := .next (s.whenAux (fun s => s.probe true))
def execDebugProbeRemove (s : State) : Host.Outcome State Fault Refusal := .next (s.whenAux (fun s => s.probe false))

end Sys2Proof.Machine
end

