-- ==== Sys2Proof/Machine/RegWrite.lean ====
section
/-! DEFINITION. A write to a register that has no row of its own (R13, R14, R30): each field changes as its access code gives,
and a field whose change the manual acts on acts. A field that has a row of its own (RUN, GO, CLEAR, STOP, ABORT, CONTAIN,
RESUME) is set by that row or, where the row needs no operand beyond the write, here too. -/

namespace Sys2Proof.Machine

open Sys2Proof

/-! ### Admission (R15, R30, R290) -/

/-- The host reaches what its function's windows mirror: its own mailbox, containment and export registers and its lent system
DMA pages. -/
def State.hostReaches (s : State) (p : Fin 2) : Reg → Bool
  | .dmbStat q | .dmbVec q | .dmbNtf q | .rdcExpStat q | .rdcExp q _ | .cntCtl q | .cntStat q => decide (q = p)
  | .sdmCtl ch | .sdmStat ch | .sdmBaseLo ch | .sdmBaseHi ch | .sdmRcfg ch | .sdmHead ch | .sdmVec ch =>
    lent ch && decide (s.ownerOf ch = p)
  | _ => false

/-- Offset `o` of an instance of a block is mirrored to the hosts by the telemetry window (R291). -/
def inTelemetry (b : Block) (o : Nat) : Bool :=
  match b with
  | .sys => [0x10, 0x14, 0x208].contains o || (decide (0x100 ≤ o) && decide (o < 0x140))
  | .ftl => [0x10, 0x14, 0x20].contains o
  | .plp => [0x04, 0x10, 0x14].contains o
  | .cmq => [0x10, 0x20].contains o
  | _ => false

/-- A read-only register that a host's windows mirror, by block number and offset in the block: in the telemetry window (R291),
the pages of its lent channels (R337) or the key-vault page (R290). Writes to it are ignored. -/
def State.hostMirrors (s : State) (p : Fin 2) (block offset : Nat) : Bool :=
  match blockNo block with
  | some .sdm => (s.lentOf p).any (fun ch => decide (offset / 0x1000 = 16 + ch.val))
  | some .kvc => decide (offset / 0x10000 = 2)
  | some b => inTelemetry b (b.split offset).2
  | none => false

/-- The slice whose scheduler core alone writes a register: the per-slice and per-channel parameters (R21). -/
def ownedBy : Reg → Option (Fin 8)
  | .wrpCtl sl | .rdcCtl sl | .ftlCtl sl => some sl
  | .fchCtl ch => some (Fin.ofNat 8 (ch.val / 8))
  | _ => none

/-- The window-translation entries, which only firmware reaches (R295). -/
def firmwareOnly : Reg → Bool
  | .xlat2Shd .. | .xlat4Shd .. => true
  | _ => false

/-- A register block admits an initiator (R30); key-vault pages check their own (R357). A slice's parameters are written by its
scheduler core or the partner's that serves the role (R21, R52), every other register by any core (DEDUCED,
notes/assumptions/57.md). -/
def State.regAdmits (s : State) (r : Reg) : Initiator → Bool
  | .core c => match ownedBy r with
    | some sl => decide (s.units.scheduler sl = some c)
    | none => true
  | .host p => match r with
    | .readOnly block offset => s.hostMirrors p block offset
    | _ => s.hostReaches p r
  | .debug => s.sec.debugUnlocked && (ownedBy r).isNone && !firmwareOnly r
  | _ => false

/-- A register that no block holds: its address lies outside the regions of R46. -/
def regOutside (r : Reg) : Bool :=
  match regAddress r with
  | some a => (regionOf a 4).isNone
  | none => false

/-- A register of a key-vault page. -/
def kvcPage : Reg → Option (Fin 16)
  | .kvcCtl pg | .kvcStat pg => some pg
  | .kvcDin pg _ | .kvcKstat pg _ => some pg
  | _ => none

/-! ### The fields, block by block -/

/-- A field of `n` bits from bit `lo`. -/
def bitsAt (v : BitVec 32) (lo n : Nat) : BitVec n := v.extractLsb' lo n

/-- A flag of access W1C. -/
def w1c (v : BitVec 32) (k : Nat) (old : Bool) : Bool := old && !v.getLsbD k

/-- SYS_ registers (R49, R444). -/
def State.writeSys (s : State) (v : BitVec 32) : Reg → State
  | .sysTbCtl =>
    let s := if bitsAt v 0 2 = s.tb.srcSel then s else s.tbSelect (bitsAt v 0 2)
    { s with tb := { s.tb with srcFail := w1c v 8 s.tb.srcFail } }
  | .sysPaceFloor => { s with pace := { s.pace with floor := bitsAt v 0 16, alarm := w1c v 16 s.pace.alarm } }
  | .sysTrialSeq => if s.boot.armed.isNone then { s with boot := { s.boot with trialSeq := v } } else s
  | .dmbStat p => s.setMbox p (fun m => { m with done := w1c v 1 m.done, ntf := w1c v 2 m.ntf })
  | .dmbVec p => s.setMbox p (fun m => { m with vec := bitsAt v 0 11, doneIe := v.getLsbD 16, ntfIe := v.getLsbD 17 })
  | .dmbNtf p => s.setMbox p (fun m => { m with rd := bitsAt v 8 5, overflow := w1c v 16 m.overflow })
  | _ => s

/-- WRP_ and RDC_ registers (R101, R144, R149). COMP_EN stays 0 while the unit is out of service (R52, R53). -/
def State.writeChannels (s : State) (v : BitVec 32) : Reg → State
  | .wrpCtl sl => s.setMedia (fun m => { m with wrp := m.wrp.upd sl (fun w => { w with
      compEn := v.getLsbD 0 && !s.units.comp[sl], zeroElide := v.getLsbD 1, scrBypass := v.getLsbD 2 }) })
  | .wrpAccStat sl => s.setMedia (fun m => { m with wrp := m.wrp.upd sl (fun w => { w with accErr := w1c v 8 w.accErr }) })
  | .rdcCtl sl => s.setMedia (fun m => m.setRdc sl (fun r => { r with
      trackEn := v.getLsbD 0, naEn := v.getLsbD 1, exportEn := v.getLsbD 5
      stepLimit := if s.service ∧ bitsAt v 2 3 ≠ 7 then bitsAt v 2 3 else r.stepLimit }))
  | .rdcDecStat sl => s.setMedia (fun m => m.setRdc sl (fun r => { r with decErr := w1c v 16 r.decErr }))
  | .rdcExpStat p => s.setMedia (fun m => { m with expArea := m.expArea.upd p (fun e => { e with done := w1c v 1 e.done }) })
  | _ => s

/-- Four bytes written over a list at offset `o`. -/
def putWord (bs : List Byte) (o : Nat) (v : BitVec 32) : List Byte := bs.take o ++ leBytes 4 v.toNat ++ bs.drop (o + 4)

def State.setExpArea (s : State) (p : Fin 2) (f : ExpArea → ExpArea) : State :=
  s.setMedia (fun m => { m with expArea := m.expArea.upd p f })

/-- A word of the export area (R143): the request descriptor, RDC_EXP_GO, RDC_EXP_STAT, and from offset 0x1000 the record or resolve
input; the reserved words take nothing. -/
def State.writeExport (s : State) (p : Fin 2) (w : Nat) (v : BitVec 32) : State :=
  if w < 8 then s.setExpArea p (fun e => { e with desc := putWord e.desc (4 * w) v })
  else if w = 8 then if v.getLsbD 0 && !s.media.expArea[p].busy then s.expGo p else s
  else if w = 9 then s.writeChannels v (.rdcExpStat p)
  else if 1024 ≤ w ∧ w < 1024 + 5816 then s.setExpArea p (fun e => { e with record := putWord (padTo 23264 0 e.record) (4 * (w - 1024)) v })
  else s

/-- FCH_ and FTL_ registers (R160, R222). -/
def State.writeFlash (s : State) (v : BitVec 32) : Reg → State
  | .fchCtl ch =>
    let s := s.setFch ch (fun f => { f with
      en := v.getLsbD 0, esusp := v.getLsbD 2, psusp := v.getLsbD 3, recentre := v.getLsbD 4
      maxBusy := bitsAt v 8 4, rate := bitsAt v 12 2 })
    (if v.getLsbD 1 then s.isolate ch else s).pumpChannel ch
  | .fchStat ch => s.setFch ch (fun f => { f with trainFail := w1c v 8 f.trainFail })
  | .ftlCtl sl => s.setMedia (fun m => { m with ftl := m.ftl.upd sl (fun f => { f with
      fullEn := v.getLsbD 0, pounceEn := v.getLsbD 1, scanEn := v.getLsbD 2, loadEn := v.getLsbD 3 }) })
  | _ => s

/-- CHG_EN goes to 0: the charger is off, and the bank no longer holds the limit up (R227, R251). -/
def State.chargeDisable (s : State) : State :=
  let s := s.setPlp (fun p => { p with
    chgEn := false
    state := match p.state with
      | .precharge | .boost | .full => .off
      | x => x })
  s.gates.recompute

/-- PLP_ registers (R233, R251). A fault whose condition lasts stays set. -/
def State.writePlp (s : State) (v : BitVec 32) : Reg → State
  | .plpCtl =>
    let s := s.setPlp (fun p => { p with
      pfailEn := v.getLsbD 2, vhostEn := v.getLsbD 3, chgI := bitsAt v 8 8, vhostThr := bitsAt v 16 8 })
    let s := if v.getLsbD 0 then s.chargeEnable else if s.plp.chgEn then s.chargeDisable else s
    if v.getLsbD 1 then (s.setPlp (fun p => { p with testNow := true, due := max 1 p.due })).tryTest else s
  | .plpFault => s.setPlp (fun p => { p with faults := (p.faults &&& ~~~(bitsAt v 0 6)) ||| p.active })
  | _ => s

/-- CMQ_ and HLK_ registers (R281, R295, R299). -/
def State.writeLink (s : State) (v : BitVec 32) : Reg → State
  | .cmqPause => { s with cmq := { s.cmq with abandoned := w1c v 1 s.cmq.abandoned } }
  | .xlat2Shd p n => s.setPort p (fun q => { q with shd2 := q.shd2.upd n (fun _ => { target := bitsAt v 0 4, base := bitsAt v 16 16 }) })
  | .xlat4Shd p n => if n.val = 15 then s else s.setPort p (fun q => { q with shd4 := q.shd4.upd n (fun _ => bitsAt v 0 4) })
  | .cntCtl p => s.writeCntCtl p v
  | .cntStat p => s.writeCntStat p v
  | _ => s

/-- DRC_ and ARB_ registers (R335); class 10, maintenance, has none. -/
def State.writeDram (s : State) (v : BitVec 32) : Reg → State
  | .drcCtl => s.setDram (fun d => { d with
      retrainEn := v.getLsbD 0 && decide (s.param 0x7000 4 = 0), scrubEn := v.getLsbD 1 })
  | .drcEye c => s.setDch c (fun d => { d with driftWarn := w1c v 10 d.driftWarn })
  | .arbCfg c k => if k.val = 10 then s else s.setDch c (fun d => { d with arb := d.arb.upd k (fun a => { a with
      prio := bitsAt v 0 2, starve := bitsAt v 4 10, maxHold := bitsAt v 16 10 }) })
  | .arbFlag c k => s.setDch c (fun d => { d with arb := d.arb.upd k (fun a => { a with
      starved := w1c v 0 a.starved, cut := w1c v 1 a.cut }) })
  | _ => s

/-- EN of a channel changes: it is idle once enabled; disabled, it has been stopped as by STOP (R350). -/
def State.sdmSwitch (s : State) (ch : Fin 16) (on : Bool) : State :=
  if on = (s.sdc ch).en then s
  else if on then s.setSdc ch (fun c => { c with en := true, state := .idle })
  else (s.sdmStop ch).setSdc ch (fun c => { c with en := false, state := .disabled, desc := none })

/-- SDM_ registers (R350, R351). -/
def State.writeSdm (s : State) (v : BitVec 32) : Reg → State
  | .sdmCtl ch =>
    let s := s.setSdc ch (fun c => { c with share := s.shareFor ch (bitsAt v 4 6), endIe := v.getLsbD 10, errIe := v.getLsbD 11 })
    let s := if v.getLsbD 2 then s.sdmStop ch else s
    s.sdmSwitch ch (v.getLsbD 0)
  | .sdmStat ch => s.setSdc ch (fun c => { c with end_ := w1c v 2 c.end_, err := w1c v 3 c.err })
  | .sdmBaseLo ch => s.setSdc ch (fun c => if c.en then c else { c with base := c.base.extractLsb' 32 32 ++ (bitsAt v 5 27 ++ (0 : BitVec 5)) })
  | .sdmBaseHi ch => s.setSdc ch (fun c => if c.en then c else { c with base := v ++ c.base.setWidth 32 })
  | .sdmRcfg ch => s.setSdc ch (fun c => if c.en then c else { c with
      size := BitVec.ofNat 13 (max 2 (min 4096 (bitsAt v 0 13).toNat)), space := bitsAt v 16 2 })
  | .sdmHead ch => s.setSdc ch (fun c => if c.en then c else { c with head := bitsAt v 0 12 })
  | .sdmVec ch => s.setSdc ch (fun c => { c with vec := bitsAt v 0 11 })
  | _ => s

/-- LEN is written: 0 and 3 leave the slot empty, and a slot whose LEN changes holds no key of its new length (R359). -/
def VaultSlot.setLen (k : VaultSlot) (len : BitVec 2) : VaultSlot :=
  if k.len = len ∧ (len = 1 ∨ len = 2) then k else { k with len := len, valid := false, expanding := false }

/-- KVC_ registers (R360, R389). -/
def State.writeKvc (s : State) (v : BitVec 32) : Reg → State
  | .kvcCtl pg =>
    if v.getLsbD 8 then s.go pg (bitsAt v 0 3) ⟨(bitsAt v 4 2).toNat, (bitsAt v 4 2).isLt⟩
    else s.setPage pg (fun g => { g with op := bitsAt v 0 3, slot := bitsAt v 4 2 })
  | .kvcStat pg => s.setPage pg (fun g => { g with done := w1c v 1 g.done })
  | .kvcDin pg m => s.setPage pg (fun g => { g with din := g.din.upd m (fun _ => v) })
  | .kvcKstat pg n => s.setPage pg (fun g => g.setSlot n (fun k =>
      if v.getLsbD 3 then { len := bitsAt v 0 2 } else k.setLen (bitsAt v 0 2)))
  | _ => s

/-- BST_ and EVR_ registers (R403, R424). -/
def State.writeStore (s : State) (v : BitVec 32) : Reg → State
  | .bstCtl =>
    let s := s.setBst (fun b => { b with autoSusp := v.getLsbD 0 })
    if v.getLsbD 1 then s.bstStop else s
  | .bstStat => s.setBst (fun b => { b with
      suspHit := w1c v 8 b.suspHit, worn := w1c v 9 b.worn, aborted := w1c v 10 b.aborted })
  | .evrStage => { s with evr := { s.evr with earlyLost := w1c v 16 s.evr.earlyLost } }
  | _ => s

/-! ### The write -/

/-- The write reaches its block. A read-only register stays as it is: the write has no effect (R13). -/
def State.writeReg (s : State) (v : BitVec 32) (r : Reg) : State :=
  match r with
  | .sysTbCtl | .sysPaceFloor | .sysTrialSeq | .dmbStat _ | .dmbVec _ | .dmbNtf _ => s.writeSys v r
  | .wrpCtl _ | .wrpAccStat _ | .rdcCtl _ | .rdcDecStat _ | .rdcExpStat _ => s.writeChannels v r
  | .rdcExp p w => s.writeExport p w.val v
  | .fchCtl _ | .fchStat _ | .ftlCtl _ => s.writeFlash v r
  | .plpCtl | .plpFault => s.writePlp v r
  | .cmqPause | .xlat2Shd .. | .xlat4Shd .. | .cntCtl _ | .cntStat _ => s.writeLink v r
  | .drcCtl | .drcEye _ | .arbCfg .. | .arbFlag .. => s.writeDram v r
  | .sdmCtl ch | .sdmStat ch | .sdmBaseLo ch | .sdmBaseHi ch | .sdmRcfg ch | .sdmHead ch | .sdmVec ch =>
    if s.sdcPage ch then s.writeSdm v r else s
  | .kvcCtl _ | .kvcStat _ | .kvcDin .. | .kvcKstat .. => s.writeKvc v r
  | .bstCtl | .bstStat | .evrStage => s.writeStore v r
  | .readOnly .. => s

/-- The content of BAR4/5 through which a host's write goes: its register's window, or, for a read-only register, the mirror that
holds it. -/
def hostContent (dual : Bool) (r : Reg) : Nat :=
  match r with
  | .readOnly block _ => match blockNo block with
    | some .sdm => 9
    | some .kvc => 7
    | _ => 6
  | _ => match regWindow dual r with
    | some x => x.1 + 5
    | none => 6

/-- A write from an initiator: the key-vault page or the register block checks it, and a host's meets what any BAR4/5 request
meets; the containment registers lie in configuration space too (R299, R302). -/
def State.registerWrite (s : State) (ini : Initiator) (r : Reg) (v : BitVec 32) : State :=
  match kvcPage r with
  | some pg => s.onPage pg ini (fun s => s.writeReg v r)
  | none =>
    let go (s : State) : State :=
      if !regOutside r && s.regAdmits r ini then s.writeReg v r else s.emit (.accessError ini)
    match ini, r with
    | .host p, .cntCtl _ | .host p, .cntStat _ => if s.linkUp p then go s else s
    | .host p, _ => s.hostBar4 p (hostContent s.dual r) true go
    | _, _ => go s

/-- REGISTER_WRITE (R13, R14, R30): registers answer while the boot chain or the firmware runs. -/
def execRegisterWrite (ini : Initiator) (r : Reg) (value : BitVec 32) (s : State) : Host.Outcome State Fault Refusal :=
  .next (if s.storeUp then s.registerWrite ini r value else s)

end Sys2Proof.Machine
end

