-- ==== Sys2Proof/Machine/RegRead.lean ====
section
/-! DEFINITION. Register reads (R13, R30, R49, R291): who may read, what a read returns, and what it leaves: a read sets RC fields to
their clear value, and a read of the low half of a 64-bit count latches the high half for its reader. The table's rows read two
registers, SYS_TB_LO and EVR_SEQ_LO; `State.registerRead` says what a read of any other would do (notes/assumptions/54.md). -/

namespace Sys2Proof.Machine

open Sys2Proof

/-! ### Admission (R15, R30, R291) -/

/-- A block answers a read of an initiator (R30): every core, a host through its telemetry window, the debug port once unlocked
(R384); the management bus reads through the dictionary only (R15), and the system DMA is admitted to no register block (R339). -/
def State.readAdmits (s : State) (b : Block) (o : Nat) : Initiator → Bool
  | .core _ => true
  | .host _ => inTelemetry b o
  | .debug => s.sec.debugUnlocked
  | _ => false

/-- A read by an initiator of offset `o` of a block: answered by `f` where the block admits it, else an access error. -/
def State.readBy (s : State) (ini : Initiator) (b : Block) (o : Nat) (f : State → State) : State :=
  match ini with
  | .host p => s.hostBar4 p 6 false (fun s => if s.readAdmits b o ini then f s else s.emit (.accessError ini))
  | _ => if s.readAdmits b o ini then f s else s.emit (.accessError ini)

/-! ### Reads that latch (R49) -/

/-- SYS_TB_LO is read: the high half is latched for the reader alone. -/
def State.tbLoRead (s : State) (i : Initiator) : State :=
  ({ s with tb := { s.tb with latch := latchPut s.tb.latch i (s.tb.count.extractLsb' 32 32) } }).emit
    (.readVal i (s.tb.count.extractLsb' 0 32).toNat)

/-- TB_LO_READ (R49). -/
def execTbLoRead (i : Initiator) (s : State) : Host.Outcome State Fault Refusal :=
  .next (s.whenPowered (fun s => s.readBy i .sys 0x10 (fun s => s.tbLoRead i)))

/-- EVR_SEQ_LO is read: the low half of the next SEQ is returned, and the high half latched for the reader alone. -/
def State.evrSeqLoRead (s : State) (i : Initiator) : State :=
  ({ s with evr := { s.evr with latch := latchPut s.evr.latch i (BitVec.ofNat 32 (s.evr.next / 2 ^ 32)) } }).emit
    (.readVal i (s.evr.next % 2 ^ 32))

/-- EVR_SEQ_LO_READ (R49): no window mirrors the EVR_ block (R290, R291). -/
def execEvrSeqLoRead (ini : Initiator) (s : State) : Host.Outcome State Fault Refusal :=
  .next (s.whenPowered (fun s => s.readBy ini .evr 0 (fun s => s.evrSeqLoRead ini)))

/-! ### What each register reads -/

/-- The high half that was latched for an initiator. -/
def latchOf (l : List (Initiator × BitVec 32)) (i : Initiator) : Nat := ((l.find? (fun e => decide (e.1 = i))).map (·.2.toNat)).getD 0

/-- SYS_ registers (R49, R444). -/
def State.sysReg (s : State) (ini : Initiator) (o : Nat) : Nat :=
  if 0x100 ≤ o ∧ o < 0x140 then
    let x := s.pace.sensors[Fin.ofNat 16 ((o - 0x100) / 4)]
    x.pace.toNat + 65536 * x.paceMin.toNat
  else match o with
    | 0x010 => s.tb.count.toNat % 2 ^ 32
    | 0x014 => latchOf s.tb.latch ini
    | 0x018 => s.tb.srcSel.toNat + 16 * TbSource.code s.tb.srcAct + 256 * bit s.tb.srcFail
    | 0x140 => s.pace.floor.toNat + 65536 * bit s.pace.alarm + 2 ^ 20 * s.pace.sensor.toNat
    | 0x200 => s.units.aliveReg
    | 0x204 => s.units.failedReg
    | 0x208 => s.units.takeoverReg
    | 0x300 => 2 * bit s.boot.armed.isSome + 65536 * s.trialRemain
    | 0x304 => s.boot.trialSeq.toNat
    | _ => 0

/-- HLK_ registers: the translation entries, and UR_CROSS; a commit is done at once (R293, R294). -/
def State.hlkReg (s : State) (o : Nat) : Nat :=
  let q := s.ports[Fin.ofNat 2 ((o - 0x1000) / 0x400)]
  let i := (o - 0x1000) % 0x400 / 4
  let entry (x : Xlat) : Nat := x.target.toNat + 65536 * x.base.toNat
  if o < 0x1000 ∨ 0x1800 ≤ o then 0
  else if i < 0x40 then entry q.shd2[Fin.ofNat 64 i]
  else if i < 0x80 then entry q.act2[Fin.ofNat 64 i]
  else if i < 0x90 then (if i = 0x8F then 11 else q.shd4[Fin.ofNat 16 i].toNat)
  else if i < 0xA0 then (if i = 0x9F then 11 else q.act4[Fin.ofNat 16 i].toNat)
  else if i = 0xC0 then 65536 * q.urCross.toNat
  else 0

/-- CMQ_ registers (R262, R264, R270, R278). -/
def State.cmqReg (s : State) (o : Nat) : Nat :=
  match o with
  | 0x10 => s.cmq.locks.length + 65536 * (s.cmq.locks.filter (fun l => !l.granted)).length + 2 ^ 30 * bit s.cmq.stalled
  | 0x14 => s.cmq.hwm.toNat
  | 0x18 => s.cmq.stallCnt.toNat
  | 0x20 => s.land.cmb[0].boundCount + s.land.cmb[1].boundCount
  | 0x24 => min 65535 (s.cmq.cmds.filter (fun e => e.2.phase == .rebind)).length + 65536 * s.cmq.invalidCmb.toNat
  | 0x30 => bit s.cmq.paused + 2 * bit s.cmq.abandoned
  | _ => 0

/-- WRP_ and RDC_ registers of a slice. STEP_LIMIT reads 6 outside service mode. -/
def State.wrpReg (s : State) (sl : Fin 8) (o : Nat) : Nat :=
  let w := s.media.wrp[sl]
  match o with
  | 0x00 => bit w.compEn + 2 * bit w.zeroElide + 4 * bit w.scrBypass
  | 0x10 => w.recComp.toNat
  | 0x14 => w.recRaw.toNat
  | 0x20 => s.media.openRows sl + 256 * bit w.accErr
  | _ => 0

def State.rdcReg (s : State) (sl : Fin 8) (o : Nat) : Nat :=
  let r := s.media.rdc[sl]
  if 0x100 ≤ o ∧ o < 0x120 then r.stepCnt[Fin.ofNat 8 ((o - 0x100) / 4)].toNat
  else match o with
    | 0x00 => bit r.trackEn + 2 * bit r.naEn + 4 * (if s.service then r.stepLimit.toNat else 6) + 32 * bit r.exportEn
    | 0x40 => r.missed.toNat + 65536 * r.dual.toNat
    | 0x50 => s.units.hard[sl].toNat + 256 * s.units.soft[sl].toNat + 65536 * bit r.decErr
    | 0x60 => r.driftMax.toNat
    | _ => 0

/-- FCH_ registers of a channel. -/
def State.fchReg (s : State) (ch : Fin 64) (o : Nat) : Nat :=
  let f := s.media.fch[ch]
  if 0x20 ≤ o ∧ o < 0x30 then
    let c := f.ces[Fin.ofNat 4 ((o - 0x20) / 4)]
    c.rdDly.toNat + 2 ^ 8 * c.wrDly.toNat + 2 ^ 16 * c.eye.toNat + 2 ^ 24 * c.moves.toNat
  else match o with
    | 0x00 => bit f.en + 2 * bit f.isolate + 4 * bit f.esusp + 8 * bit f.psusp + 16 * bit f.recentre + 2 ^ 8 * min f.maxBusy.toNat (s.busyMax - 1) +
        2 ^ 12 * f.rate.toNat
    | 0x04 => f.state.toNat + 2 ^ 8 * bit f.trainFail + 2 ^ 9 * bit (decide (f.pinflt ≠ 0)) + 2 ^ 10 * bit f.rateDown
    | 0x10 => f.pinflt.toNat
    | 0x30 => f.failed.toNat + 65536 * f.present.toNat
    | 0x40 => f.eraseSusp.toNat + 65536 * f.progSusp.toNat
    | 0x44 => f.eraseAtLimit.toNat + 65536 * f.readWaitMax.toNat
    | _ => 0

/-- The free levels of the groups homed at a slice: a group is homed at slice (group mod 8), whose core runs its fulling (R210). -/
def Media.levelsOf (m : Media) (sl : Fin 8) : List Nat := (m.groups.filter (fun g => decide (g % 8 = sl.val))).filterMap m.freeLevel

/-- FTL_ registers of a slice. -/
def State.ftlReg (s : State) (sl : Fin 8) (o : Nat) : Nat :=
  let f := s.media.ftl[sl]
  let ls := s.media.levelsOf sl
  match o with
  | 0x00 => bit f.fullEn + 2 * bit f.pounceEn + 4 * bit f.scanEn + 8 * bit f.loadEn
  | 0x10 => (s.media.residentOf sl).length
  | 0x14 => (s.media.writtenOf sl).length
  | 0x18 => f.miss.toNat
  | 0x20 => ls.foldl min (min 65535 (ls.headD 0)) + 65536 * bit (ls.any (fun l => decide (l ≤ s.freeLo))) +
      131072 * bit (ls.any (fun l => decide (l ≤ s.freeCrit)))
  | 0x30 =>
    let ps := s.media.pounces.filter (fun e => decide (groupOf e.2.die % 8 = sl.val))
    min 65535 ps.length + 65536 * bit (ps.any (fun e => e.2.emerg))
  | _ => 0

/-- PLP_ registers. VHOST_EN reads 1 outside service mode. -/
def State.plpReg (s : State) (o : Nat) : Nat :=
  let p := s.plp
  match o with
  | 0x00 => bit p.chgEn + 2 * bit p.testNow + 4 * bit p.pfailEn + 8 * bit (p.vhostEn || !s.service) + 2 ^ 8 * p.chgI.toNat +
      2 ^ 16 * p.vhostThr.toNat
  | 0x04 => p.state.code + 8 * bit p.ready + 16 * bit s.land.wt + 32 * bit p.testFail + 64 * bit p.pfailBad
  | 0x08 => p.capPos.toNat + 65536 * p.capSense.toNat
  | 0x0C => p.cMeas.toNat + 65536 * p.esrMeas.toNat
  | 0x10 => s.land.limit % 2 ^ 20
  | 0x14 => p.eFull.toNat + 65536 * p.eAvail.toNat
  | 0x18 => p.faults.toNat
  | 0x1C => p.lastTest.toNat
  | _ => 0

/-- DRC_ registers. CYCLE and FULL read 1 until the cycle or training ends. -/
def State.drcReg (s : State) (o : Nat) : Nat :=
  let d := s.dram
  let mask (f : DramCh → Bool) : Nat := (List.finRange 16).foldl (fun x c => x + bit (f d.chs[c]) * 2 ^ c.val) 0
  let c := d.chs[Fin.ofNat 16 (o % 0x100 / 8)]
  if 0x100 ≤ o ∧ o < 0x180 then (if o % 8 = 0 then c.ce.toNat + 2 ^ 24 * c.ue.toNat else 0)
  else if 0x200 ≤ o ∧ o < 0x280 then
    (if o % 8 = 0 then c.rd0.toNat + 2 ^ 8 * c.rd1.toNat + 2 ^ 16 * c.wr0.toNat + 2 ^ 24 * c.wr1.toNat
     else c.eyeReg + 2 ^ 24 * c.moves.toNat)
  else match o with
    | 0x00 => bit d.retrainEn + 2 * bit d.scrubEn + 4 * bit d.degraded
    | 0x04 => d.failedReg
    | 0x08 => mask (fun c => decide (c.cycleLeft ≠ 0)) + 65536 * mask (fun c => decide (c.fullLeft ≠ 0))
    | _ => 0

/-- ARB_ registers of a DRAM channel; class 10, maintenance, has no configuration register. -/
def State.arbReg (s : State) (ch : Fin 16) (o : Nat) : Nat :=
  let k := (o - 0x100) / 0x20
  let a := (s.dch ch).arb[Fin.ofNat 12 k]
  if o < 0x100 ∨ 12 ≤ k then 0
  else match o % 0x20 with
    | 0x00 => if k = 10 then 0 else a.prio.toNat + 2 ^ 4 * a.starve.toNat + 2 ^ 16 * a.maxHold.toNat
    | 0x04 => a.grants.toNat
    | 0x08 => a.waits.toNat
    | 0x0C => a.longest.toNat
    | 0x10 => bit a.starved + 2 * bit a.cut + 65536 * a.cutCnt.toNat
    | _ => 0

/-- SDM_ registers of a channel. -/
def State.sdmReg (s : State) (ch : Fin 16) (o : Nat) : Nat :=
  let c := s.sdc ch
  match o with
  | 0x00 => bit c.en + 2 ^ 4 * c.share.toNat + 2 ^ 10 * bit c.endIe + 2 ^ 11 * bit c.errIe
  | 0x04 => (match c.state with
      | .disabled => 0
      | .idle => 1
      | .running => 2
      | .halted => 3) + 4 * bit c.end_ + 8 * bit c.err + 2 ^ 8 * c.code.toNat
  | 0x10 => c.base.toNat % 2 ^ 32
  | 0x14 => c.base.toNat / 2 ^ 32
  | 0x18 => c.size.toNat + 65536 * c.space.toNat
  | 0x1C => c.head.toNat
  | 0x20 => c.bytes.toNat
  | 0x24 => c.vec.toNat
  | _ => 0

/-- KVC_ registers of a page: keys and input blocks are write-only; KVC_CLAIM is of page 2, KVC_TAMPER of page 0 alone. -/
def State.kvcReg (s : State) (pg : Fin 16) (o : Nat) : Nat :=
  let g := s.vault.pages[pg]
  let k := s.sec
  if 0x20 ≤ o ∧ o < 0x30 then g.dout[Fin.ofNat 4 ((o - 0x20) / 4)].toNat
  else if 0x30 ≤ o ∧ o < 0x3C then g.nonce.toNat / 2 ^ (32 * ((o - 0x30) / 4)) % 2 ^ 32
  else if 0x180 ≤ o ∧ o < 0x190 then
    let x := g.slots[Fin.ofNat 4 ((o - 0x180) / 4)]
    x.len.toNat + 4 * bit x.valid
  else match o with
    | 0x00 => g.op.toNat + 16 * g.slot.toNat
    | 0x04 => bit g.busy + 2 * bit g.done + 2 ^ 8 * g.code.toNat
    | 0x3C => g.ctr.toNat
    | 0x40 => 2 * bit g.exhausted
    | 0x60 => if pg = 2 then 4 * s.vault.owner.toNat else 0
    | 0x800 => if pg = 0 then k.causes.toNat + 32 * bit k.pairFail + 64 * (if k.meshBroken then 2 else bit k.tampered) else 0
    | _ => 0

/-- BST_ and EVR_ registers. -/
def State.bstReg (s : State) (o : Nat) : Nat :=
  let b := s.bst
  match o with
  | 0x00 => bit b.autoSusp
  | 0x04 => b.status + 2 ^ 8 * bit b.suspHit + 2 ^ 9 * bit b.worn + 2 ^ 10 * bit b.aborted + 65536 * ((b.op.map (·.sector)).getD 0)
  | 0x08 => min 255 b.held.length + 65536 * b.waitMax.toNat
  | _ => 0

def State.evrReg (s : State) (ini : Initiator) (o : Nat) : Nat :=
  match o with
  | 0x00 => s.evr.next % 2 ^ 32
  | 0x04 => latchOf s.evr.latch ini
  | 0x08 => s.evr.early.length % 128 + 65536 * bit s.evr.earlyLost
  | 0x0C => s.evr.suppCnt.toNat
  | _ => 0

/-- PWS_ and PDC_ registers. -/
def State.pwsReg (s : State) (o : Nat) : Nat :=
  let w := s.pws
  if 0x100 ≤ o ∧ o < 0x130 then
    let t := w.temps[Fin.ofNat 12 ((o - 0x100) / 4)]
    t.1.toNat + 65536 * t.2.toNat
  else match o with
    | 0x00 => w.ps + 8 * ((w.entry.map (·.target)).getD 0) + 64 * ((w.entry.map (·.phase)).getD 0) + 2 ^ 8 * bit w.drFlag + 2 ^ 9 * w.level
    | 0x04 => w.hsAnswers.toNat + 2 ^ 8 * w.hsReason.toNat + 65536 * w.hsTarget.toNat
    | 0x08 => (s.effCap.elim 0 (fun c => c.1 + 2 ^ 10 * c.2)) + 2 ^ 16 * (s.busyMax - 1) + 2 ^ 20 * bit (decide (s.avs.fetchCut ≠ 0))
    | 0x0C => w.abandons.toNat
    | _ => 0

def State.pdcReg (s : State) (o : Nat) : Nat :=
  let w := s.pws
  match o with
  | 0x00 => bit w.pgVcore + 2 * bit w.pgNand + 4 * bit w.pg1v8 + 8 * bit w.xoReady + 2 ^ 8 * (w.retries % 4) +
      2 ^ 10 * w.failSupply.toNat + 2 ^ 12 * bit w.wakeFault
  | 0x04 => w.wakeTime.toNat
  | _ => 0

/-- What the register at offset `o` of instance `i` of a block reads; an offset that no table lists, as reserved and write-only
fields do, reads 0 (R13, R14). -/
def State.regValue (s : State) (ini : Initiator) (b : Block) (i o : Nat) : Nat :=
  match b with
  | .sys => s.sysReg ini o
  | .hlk => s.hlkReg o
  | .cmq => s.cmqReg o
  | .wrp => s.wrpReg (Fin.ofNat 8 i) o
  | .rdc => s.rdcReg (Fin.ofNat 8 i) o
  | .fch => s.fchReg (Fin.ofNat 64 i) o
  | .ftl => s.ftlReg (Fin.ofNat 8 i) o
  | .plp => s.plpReg o
  | .drc => s.drcReg o
  | .arb => s.arbReg (Fin.ofNat 16 i) o
  | .sdm => if o < 0x10000 then 0 else s.sdmReg (Fin.ofNat 16 ((o - 0x10000) / 0x1000)) (o % 0x1000)
  | .kvc => s.kvcReg (Fin.ofNat 16 i) o
  | .bst => s.bstReg o
  | .evr => s.evrReg ini o
  | .pws => s.pwsReg o
  | .pdc => s.pdcReg o

/-! ### Read-to-clear (R13) -/

/-- The RC fields of one channel, slice or class at their clear value. -/
def DramCh.cleared (d : DramCh) (o : Nat) : DramCh :=
  if o < 0x200 then (if o % 8 = 0 then { d with ce := 0, ue := 0 } else d)
  else if o % 8 = 4 then { d with moves := 0 } else d

def ArbReq.cleared (a : ArbReq) (o : Nat) : ArbReq :=
  match o with
  | 0x04 => { a with grants := 0 }
  | 0x08 => { a with waits := 0 }
  | 0x0C => { a with longest := 0 }
  | 0x10 => { a with cutCnt := 0 }
  | _ => a

def Fch.cleared (f : Fch) (o : Nat) : Fch :=
  if 0x20 ≤ o ∧ o < 0x30 then { f with ces := f.ces.upd (Fin.ofNat 4 ((o - 0x20) / 4)) (fun c => { c with moves := 0 }) }
  else if o = 0x40 then { f with eraseSusp := 0, progSusp := 0 }
  else if o = 0x44 then { f with eraseAtLimit := 0, readWaitMax := 0 }
  else f

def Rdc.cleared (r : Rdc) (o : Nat) : Rdc :=
  if 0x100 ≤ o ∧ o < 0x120 then { r with stepCnt := r.stepCnt.upd (Fin.ofNat 8 ((o - 0x100) / 4)) (fun _ => 0) }
  else if o = 0x40 then { r with missed := 0, dual := 0 }
  else if o = 0x60 then { r with driftMax := 0 }
  else r

def Wrp.cleared (w : Wrp) (o : Nat) : Wrp := if o = 0x10 then { w with recComp := 0 } else if o = 0x14 then { w with recRaw := 0 } else w

/-- A read sets the RC fields of its register to their clear value: 0, but 0xFFFF for PACE_MIN, 0x8000 for TMAX and the locks now
in use for HWM. -/
def State.regClear (s : State) (b : Block) (i o : Nat) : State :=
  match b with
  | .sys => if 0x100 ≤ o ∧ o < 0x140 then
      { s with pace := { s.pace with sensors := s.pace.sensors.upd (Fin.ofNat 16 ((o - 0x100) / 4)) (fun x => { x with paceMin := 0xFFFF }) } }
      else s
  | .hlk => if o = 0x1300 ∨ o = 0x1700 then s.setPort (Fin.ofNat 2 ((o - 0x1000) / 0x400)) (fun q => { q with urCross := 0 }) else s
  | .cmq => match o with
    | 0x14 => { s with cmq := { s.cmq with hwm := BitVec.ofNat 14 s.cmq.locks.length } }
    | 0x18 => { s with cmq := { s.cmq with stallCnt := 0 } }
    | 0x24 => { s with cmq := { s.cmq with invalidCmb := 0 } }
    | _ => s
  | .wrp => s.setMedia (fun m => { m with wrp := m.wrp.upd (Fin.ofNat 8 i) (fun w => w.cleared o) })
  | .rdc => s.setMedia (fun m => m.setRdc (Fin.ofNat 8 i) (fun r => r.cleared o))
  | .fch => s.setFch (Fin.ofNat 64 i) (fun f => f.cleared o)
  | .ftl => if o = 0x18 then s.setMedia (fun m => { m with ftl := m.ftl.upd (Fin.ofNat 8 i) (fun f => { f with miss := 0 }) }) else s
  | .drc => if 0x100 ≤ o ∧ o < 0x280 then s.setDch (Fin.ofNat 16 (o % 0x100 / 8)) (fun d => d.cleared o) else s
  | .arb => if 0x100 ≤ o ∧ o < 0x280 then
      s.setDch (Fin.ofNat 16 i) (fun d => { d with arb := d.arb.upd (Fin.ofNat 12 ((o - 0x100) / 0x20)) (fun a => a.cleared (o % 0x20)) })
      else s
  | .sdm => if 0x10000 ≤ o ∧ o % 0x1000 = 0x20 then s.setSdc (Fin.ofNat 16 ((o - 0x10000) / 0x1000)) (fun c => { c with bytes := 0 }) else s
  | .bst => if o = 8 then s.setBst (fun b => { b with waitMax := 0 }) else s
  | .evr => if o = 0x0C then { s with evr := { s.evr with suppCnt := 0 } } else s
  | .pws =>
    if 0x100 ≤ o ∧ o < 0x130 then
      { s with pws := { s.pws with temps := s.pws.temps.upd (Fin.ofNat 12 ((o - 0x100) / 4)) (fun t => (t.1, 0x8000)) } }
    else if o = 0x0C then { s with pws := { s.pws with abandons := 0 } }
    else s
  | _ => s

/-- A read of a register that its block has admitted: it latches, or returns the value and clears the RC fields; the telemetry mirror
clears nothing (R291). -/
def State.readReg (s : State) (ini : Initiator) (mirror : Bool) (b : Block) (i o : Nat) : State :=
  if b = .sys ∧ o = 0x10 then s.tbLoRead ini
  else if b = .evr ∧ o = 0 then s.evrSeqLoRead ini
  else (if mirror then s else s.regClear b i o).emit (.readVal ini (s.regValue ini b i o))

/-- A lent channel's page as the host reads it: 0 while LENT_EN is 0, and beyond the channel's registers (R337). -/
def State.readLent (s : State) (p : Fin 2) (o : Nat) : State :=
  let ch : Fin 16 := Fin.ofNat 16 ((o - 0x10000) / 0x1000)
  if (s.lentOf p).contains ch ∧ s.sdcPage ch ∧ o % 0x1000 < 0x28 then s.readReg (.host p) false .sdm 0 o
  else s.emit (.readVal (.host p) 0)

/-- A read of a key-vault page, which checks it itself (R357); KVC_CLAIM is read by a function without the claim too (R363). -/
def State.readPage (s : State) (ini : Initiator) (pg : Fin 16) (o : Nat) : State :=
  match ini with
  | .host p =>
    if pg = 2 ∧ o = 0x60 ∧ s.portList.contains p then s.hostBar4 p 7 false (fun s => s.readReg ini false .kvc 2 o)
    else s.pageAccess pg ini false (fun s => s.readReg ini false .kvc pg.val o)
  | _ => s.pageAccess pg ini false (fun s => s.readReg ini false .kvc pg.val o)

/-- A read by an initiator of the register at offset `o` of instance `i` of a block: a key-vault page checks it itself (R357), a
host reads its lent channels' pages and, for any other block, the telemetry window, where an offset not mirrored reads 0. -/
def State.registerRead (s : State) (ini : Initiator) (b : Block) (i o : Nat) : State :=
  match b, ini with
  | .kvc, _ => s.readPage ini (Fin.ofNat 16 i) o
  | .sdm, .host p => s.hostBar4 p 9 false (fun s => s.readLent p o)
  | _, .host p => s.hostBar4 p 6 false (fun s =>
      if inTelemetry b o then s.readReg ini true b i o else s.emit (.readVal ini 0))
  | _, _ => s.readBy ini b o (fun s => s.readReg ini false b i o)

end Sys2Proof.Machine
end

