-- ==== Sys2Proof/Machine/Dispatch.lean ====
section
/-! DEFINITION. One arm for each command of the table: a direct call of its meaning. -/

namespace Sys2Proof.Machine

open Sys2Proof

def exec (i : Instr) (s : State) : Host.Outcome State Fault Refusal :=
  match i with
  | .paceWindow sensor cycles => Sys2Proof.Machine.execPaceWindow sensor cycles s
  | .tbSourceStop src => Sys2Proof.Machine.execTbSourceStop src s
  | .tbSourceSelect sel => Sys2Proof.Machine.execTbSourceSelect sel s
  | .tbLoRead ini => Sys2Proof.Machine.execTbLoRead ini s
  | .coreHeartbeat c => Sys2Proof.Machine.execCoreHeartbeat c s
  | .heartbeatMissed c => Sys2Proof.Machine.execHeartbeatMissed c s
  | .coreEccError c => Sys2Proof.Machine.execCoreEccError c s
  | .lockstepMismatch => Sys2Proof.Machine.execLockstepMismatch s
  | .decoderSelfCheckFail sl soft idx => Sys2Proof.Machine.execDecoderSelfCheckFail sl soft idx s
  | .accumulatorSelfCheckFail sl => Sys2Proof.Machine.execAccumulatorSelfCheckFail sl s
  | .compressionUnitFail sl => Sys2Proof.Machine.execCompressionUnitFail sl s
  | .cipherLaneCheckFail sl => Sys2Proof.Machine.execCipherLaneCheckFail sl s
  | .watchdogReset => Sys2Proof.Machine.execWatchdogReset s
  | .powerCapTick power => Sys2Proof.Machine.execPowerCapTick power s
  | .sqDoorbell p qid tail => Sys2Proof.Machine.execSqDoorbell p qid tail s
  | .cqHeadDoorbell p qid head => Sys2Proof.Machine.execCqHeadDoorbell p qid head s
  | .commandFetch p cid cmd => Sys2Proof.Machine.execCommandFetch p cid cmd s
  | .write fseq => Sys2Proof.Machine.execWrite fseq s
  | .writeDataLanded fseq data => Sys2Proof.Machine.execWriteDataLanded fseq data s
  | .readBackReturn fseq ok => Sys2Proof.Machine.execReadBackReturn fseq ok s
  | .recordPacked line frame => Sys2Proof.Machine.execRecordPacked line frame s
  | .closeWaitExpire row => Sys2Proof.Machine.execCloseWaitExpire row s
  | .programComplete row member => Sys2Proof.Machine.execProgramComplete row member s
  | .rowComplete row => Sys2Proof.Machine.execRowComplete row s
  | .programFail row member => Sys2Proof.Machine.execProgramFail row member s
  | .eraseFail die block => Sys2Proof.Machine.execEraseFail die block s
  | .read fseq => Sys2Proof.Machine.execRead fseq s
  | .nandReadData rid sig => Sys2Proof.Machine.execNandReadData rid sig s
  | .decodeComplete rid out iters => Sys2Proof.Machine.execDecodeComplete rid out iters s
  | .exportByLba p req => Sys2Proof.Machine.execExportByLba p req s
  | .exportByPhysical p req => Sys2Proof.Machine.execExportByPhysical p req s
  | .resolve p req pilots body => Sys2Proof.Machine.execResolve p req pilots body s
  | .ceTrainingDone ch ce res pins => Sys2Proof.Machine.execCeTrainingDone ch ce res pins s
  | .recentreDue ch ce rd wr pins => Sys2Proof.Machine.execRecentreDue ch ce rd wr pins s
  | .statusPollTimeout die pins => Sys2Proof.Machine.execStatusPollTimeout die pins s
  | .dieSuspended die => Sys2Proof.Machine.execDieSuspended die s
  | .suspWindowExpire die => Sys2Proof.Machine.execSuspWindowExpire die s
  | .suspendRunReached die => Sys2Proof.Machine.execSuspendRunReached die s
  | .arrayOpWaitLimit op => Sys2Proof.Machine.execArrayOpWaitLimit op s
  | .busTransferWaitLimit ch => Sys2Proof.Machine.execBusTransferWaitLimit ch s
  | .rebuildPhase1End die => Sys2Proof.Machine.execRebuildPhase1End die s
  | .rebuildPhase2End die => Sys2Proof.Machine.execRebuildPhase2End die s
  | .checkpointTimer => Sys2Proof.Machine.execCheckpointTimer s
  | .stripeOpen => Sys2Proof.Machine.execStripeOpen s
  | .eraseComplete die block => Sys2Proof.Machine.execEraseComplete die block s
  | .retentionAge stripe => Sys2Proof.Machine.execRetentionAge stripe s
  | .pounceScan findings => Sys2Proof.Machine.execPounceScan findings s
  | .pounceFinish id => Sys2Proof.Machine.execPounceFinish id s
  | .pouncePendingAged id => Sys2Proof.Machine.execPouncePendingAged id s
  | .fullingWindowExpire => Sys2Proof.Machine.execFullingWindowExpire s
  | .reclaimUnitTimeLimit handle => Sys2Proof.Machine.execReclaimUnitTimeLimit handle s
  | .chargeEnable => Sys2Proof.Machine.execChargeEnable s
  | .bankFullCharge => Sys2Proof.Machine.execBankFullCharge s
  | .chargeTimeout pins => Sys2Proof.Machine.execChargeTimeout pins s
  | .chargeRetry => Sys2Proof.Machine.execChargeRetry s
  | .landingLimitRecompute capSense => Sys2Proof.Machine.execLandingLimitRecompute capSense s
  | .bankTestDue => Sys2Proof.Machine.execBankTestDue s
  | .bankTestEnd m => Sys2Proof.Machine.execBankTestEnd m s
  | .bankFault k pins => Sys2Proof.Machine.execBankFault k pins s
  | .bankFaultClear k => Sys2Proof.Machine.execBankFaultClear k s
  | .powerFail src => Sys2Proof.Machine.execPowerFail src s
  | .flushMark us => Sys2Proof.Machine.execFlushMark us s
  | .hostPowerReturn => Sys2Proof.Machine.execHostPowerReturn s
  | .recoveryComplete ms broken => Sys2Proof.Machine.execRecoveryComplete ms broken s
  | .createIoSq fseq qid size cqid prio contig inCmb => Sys2Proof.Machine.execCreateIoSq fseq qid size cqid prio contig inCmb s
  | .createIoCq fseq qid size vector contig inCmb => Sys2Proof.Machine.execCreateIoCq fseq qid size vector contig inCmb s
  | .deleteIoSq fseq qid => Sys2Proof.Machine.execDeleteIoSq fseq qid s
  | .deleteIoCq fseq qid => Sys2Proof.Machine.execDeleteIoCq fseq qid s
  | .getLogPage fseq lid nsid => Sys2Proof.Machine.execGetLogPage fseq lid nsid s
  | .identify fseq cns nsid => Sys2Proof.Machine.execIdentify fseq cns nsid s
  | .abort fseq sqid cid => Sys2Proof.Machine.execAbort fseq sqid cid s
  | .getFeatures fseq fid sel => Sys2Proof.Machine.execGetFeatures fseq fid sel s
  | .setArbitration fseq burst low med high save => Sys2Proof.Machine.execSetArbitration fseq burst low med high save s
  | .setPowerManagement fseq ps => Sys2Proof.Machine.execSetPowerManagement fseq ps s
  | .setTemperatureThreshold fseq sensor under kelvin => Sys2Proof.Machine.execSetTemperatureThreshold fseq sensor under kelvin s
  | .setErrorRecovery fseq tler dulbe => Sys2Proof.Machine.execSetErrorRecovery fseq tler dulbe s
  | .setVolatileWriteCache fseq wce save => Sys2Proof.Machine.execSetVolatileWriteCache fseq wce save s
  | .setNumberOfQueues fseq nsq ncq => Sys2Proof.Machine.execSetNumberOfQueues fseq nsq ncq s
  | .setInterruptCoalescing fseq threshold time => Sys2Proof.Machine.execSetInterruptCoalescing fseq threshold time s
  | .setInterruptVectorConfig fseq vector disable => Sys2Proof.Machine.execSetInterruptVectorConfig fseq vector disable s
  | .setAsyncEventConfig fseq mask => Sys2Proof.Machine.execSetAsyncEventConfig fseq mask s
  | .setApst fseq enable table => Sys2Proof.Machine.execSetApst fseq enable table s
  | .setTimestamp fseq ms => Sys2Proof.Machine.execSetTimestamp fseq ms s
  | .setHctm fseq tmt1 tmt2 => Sys2Proof.Machine.execSetHctm fseq tmt1 tmt2 s
  | .setReadRecoveryLevel fseq level => Sys2Proof.Machine.execSetReadRecoveryLevel fseq level s
  | .setReservationPersistence fseq nsid ptpl => Sys2Proof.Machine.execSetReservationPersistence fseq nsid ptpl s
  | .setHostIdentifier fseq id => Sys2Proof.Machine.execSetHostIdentifier fseq id s
  | .setFdp fseq enable => Sys2Proof.Machine.execSetFdp fseq enable s
  | .asyncEventRequest fseq => Sys2Proof.Machine.execAsyncEventRequest fseq s
  | .namespaceManagement fseq m => Sys2Proof.Machine.execNamespaceManagement fseq m s
  | .namespaceAttachment fseq attach nsid ctrls => Sys2Proof.Machine.execNamespaceAttachment fseq attach nsid ctrls s
  | .deviceSelfTest fseq code => Sys2Proof.Machine.execDeviceSelfTest fseq code s
  | .directiveSend fseq nsid dtype enable => Sys2Proof.Machine.execDirectiveSend fseq nsid dtype enable s
  | .directiveReceive fseq nsid dtype => Sys2Proof.Machine.execDirectiveReceive fseq nsid dtype s
  | .formatNvm fseq nsid ses lba512 => Sys2Proof.Machine.execFormatNvm fseq nsid ses lba512 s
  | .sanitize fseq action => Sys2Proof.Machine.execSanitize fseq action s
  | .invalidAdminOpcode fseq => Sys2Proof.Machine.execInvalidAdminOpcode fseq s
  | .firmwareImageDownload fseq ofst bytes => Sys2Proof.Machine.execFirmwareImageDownload fseq ofst bytes s
  | .downloadPieceProgrammed fseq ok => Sys2Proof.Machine.execDownloadPieceProgrammed fseq ok s
  | .commitReplace fseq slot => Sys2Proof.Machine.execCommitReplace fseq slot s
  | .commitActivateAtReset fseq slot => Sys2Proof.Machine.execCommitActivateAtReset fseq slot s
  | .commitSetActive fseq slot => Sys2Proof.Machine.execCommitSetActive fseq slot s
  | .commitActivateNow fseq slot => Sys2Proof.Machine.execCommitActivateNow fseq slot s
  | .flushCommand fseq => Sys2Proof.Machine.execFlushCommand fseq s
  | .compare fseq data => Sys2Proof.Machine.execCompare fseq data s
  | .writeZeroes fseq => Sys2Proof.Machine.execWriteZeroes fseq s
  | .datasetManagement fseq => Sys2Proof.Machine.execDatasetManagement fseq s
  | .verify fseq => Sys2Proof.Machine.execVerify fseq s
  | .reservationRegister fseq action ignoreKey cur new => Sys2Proof.Machine.execReservationRegister fseq action ignoreKey cur new s
  | .reservationReport fseq => Sys2Proof.Machine.execReservationReport fseq s
  | .reservationAcquire fseq action rtype ignoreKey cur pre => Sys2Proof.Machine.execReservationAcquire fseq action rtype ignoreKey cur pre s
  | .reservationRelease fseq action rtype ignoreKey cur => Sys2Proof.Machine.execReservationRelease fseq action rtype ignoreKey cur s
  | .ioManagementReceive fseq => Sys2Proof.Machine.execIoManagementReceive fseq s
  | .reclaimUnitHandleUpdate fseq => Sys2Proof.Machine.execReclaimUnitHandleUpdate fseq s
  | .copy fseq => Sys2Proof.Machine.execCopy fseq s
  | .zoneFinish fseq => Sys2Proof.Machine.execZoneFinish fseq s
  | .zoneReset fseq => Sys2Proof.Machine.execZoneReset fseq s
  | .zoneManagementReceive fseq => Sys2Proof.Machine.execZoneManagementReceive fseq s
  | .zoneAppend fseq => Sys2Proof.Machine.execZoneAppend fseq s
  | .normalShutdown p => Sys2Proof.Machine.execNormalShutdown p s
  | .abruptShutdown p => Sys2Proof.Machine.execAbruptShutdown p s
  | .ccEnable p wrr asqs acqs => Sys2Proof.Machine.execCcEnable p wrr asqs acqs s
  | .ccDisable p => Sys2Proof.Machine.execCcDisable p s
  | .functionLevelReset p => Sys2Proof.Machine.execFunctionLevelReset p s
  | .hotReset p => Sys2Proof.Machine.execHotReset p s
  | .perstAssert p => Sys2Proof.Machine.execPerstAssert p s
  | .perstDeassert p => Sys2Proof.Machine.execPerstDeassert p s
  | .nvmSubsystemReset => Sys2Proof.Machine.execNvmSubsystemReset s
  | .linkUp p rate width => Sys2Proof.Machine.execLinkUp p rate width s
  | .linkDown p => Sys2Proof.Machine.execLinkDown p s
  | .l0pNarrow p => Sys2Proof.Machine.execL0pNarrow p s
  | .l0pWiden p => Sys2Proof.Machine.execL0pWiden p s
  | .l1IdleExpire p => Sys2Proof.Machine.execL1IdleExpire p s
  | .l1Exit p => Sys2Proof.Machine.execL1Exit p s
  | .ideIntegrityFailure p => Sys2Proof.Machine.execIdeIntegrityFailure p s
  | .configRequest p offset wr => Sys2Proof.Machine.execConfigRequest p offset wr s
  | .atomicRequest p => Sys2Proof.Machine.execAtomicRequest p s
  | .pmrWrite p offset bytes => Sys2Proof.Machine.execPmrWrite p offset bytes s
  | .pmrRead p offset len => Sys2Proof.Machine.execPmrRead p offset len s
  | .cmbSlotWrite p slot sec data => Sys2Proof.Machine.execCmbSlotWrite p slot sec data s
  | .barUnmappedAccess p bar offset isWrite => Sys2Proof.Machine.execBarUnmappedAccess p bar offset isWrite s
  | .tlpWindowCross p bar offset len isWrite => Sys2Proof.Machine.execTlpWindowCross p bar offset len isWrite s
  | .xlatCommit p => Sys2Proof.Machine.execXlatCommit p s
  | .contain p => Sys2Proof.Machine.execContain p s
  | .containBmc p => Sys2Proof.Machine.execContainBmc p s
  | .poisonedCompletion p fseq => Sys2Proof.Machine.execPoisonedCompletion p fseq s
  | .completionTimeout p fseq => Sys2Proof.Machine.execCompletionTimeout p fseq s
  | .fateTableComplete p => Sys2Proof.Machine.execFateTableComplete p s
  | .resume p => Sys2Proof.Machine.execResume p s
  | .arbRound c raised pause corrected => Sys2Proof.Machine.execArbRound c raised pause corrected s
  | .refreshDue c bank => Sys2Proof.Machine.execRefreshDue c bank s
  | .debugRequest c txn => Sys2Proof.Machine.execDebugRequest c txn s
  | .grantCutOff c => Sys2Proof.Machine.execGrantCutOff c s
  | .retrainCycleDue c => Sys2Proof.Machine.execRetrainCycleDue c s
  | .scrubDue c corrected => Sys2Proof.Machine.execScrubDue c corrected s
  | .dramTrainingDone c res => Sys2Proof.Machine.execDramTrainingDone c res s
  | .dramUe c k w addr => Sys2Proof.Machine.execDramUe c k w addr s
  | .retrainCycle mask => Sys2Proof.Machine.execRetrainCycle mask s
  | .retrainFull mask => Sys2Proof.Machine.execRetrainFull mask s
  | .sdmaDoorbell ch d => Sys2Proof.Machine.execSdmaDoorbell ch d s
  | .sdmaRun ch d => Sys2Proof.Machine.execSdmaRun ch d s
  | .sdmaStop ch => Sys2Proof.Machine.execSdmaStop ch s
  | .sdmaDisable ch => Sys2Proof.Machine.execSdmaDisable ch s
  | .sdmaCopy ch src => Sys2Proof.Machine.execSdmaCopy ch src s
  | .sdmaFill ch => Sys2Proof.Machine.execSdmaFill ch s
  | .sdmaCompare ch a b next => Sys2Proof.Machine.execSdmaCompare ch a b next s
  | .sdmaLastBeatAck ch => Sys2Proof.Machine.execSdmaLastBeatAck ch s
  | .sdmaReadbackReturn ch ok next => Sys2Proof.Machine.execSdmaReadbackReturn ch ok next s
  | .sdmaBeatError ch isWrite notIssued => Sys2Proof.Machine.execSdmaBeatError ch isWrite notIssued s
  | .vaultEncrypt pg ini slot => Sys2Proof.Machine.execVaultEncrypt pg ini slot s
  | .vaultDecrypt pg ini slot => Sys2Proof.Machine.execVaultDecrypt pg ini slot s
  | .vaultKeystream pg ini slot => Sys2Proof.Machine.execVaultKeystream pg ini slot s
  | .vaultBlockDone pg => Sys2Proof.Machine.execVaultBlockDone pg s
  | .nonceNext pg ini => Sys2Proof.Machine.execNonceNext pg ini s
  | .keyWordWrite pg ini slot word value => Sys2Proof.Machine.execKeyWordWrite pg ini slot word value s
  | .keyExpanded pg slot => Sys2Proof.Machine.execKeyExpanded pg slot s
  | .keySlotClear pg ini slot => Sys2Proof.Machine.execKeySlotClear pg ini slot s
  | .pageClaim p => Sys2Proof.Machine.execPageClaim p s
  | .pageRelease p => Sys2Proof.Machine.execPageRelease p s
  | .vaultAccessRefused pg ini => Sys2Proof.Machine.execVaultAccessRefused pg ini s
  | .tamperAlarm alarm value => Sys2Proof.Machine.execTamperAlarm alarm value s
  | .debugUnlockWrite credentialOk => Sys2Proof.Machine.execDebugUnlockWrite credentialOk s
  | .entropyHealthFail => Sys2Proof.Machine.execEntropyHealthFail s
  | .entropyRetry healthy => Sys2Proof.Machine.execEntropyRetry healthy s
  | .cipherLaneKat failed => Sys2Proof.Machine.execCipherLaneKat failed s
  | .spdmGetVersion v => Sys2Proof.Machine.execSpdmGetVersion v s
  | .spdmGetCapabilities v => Sys2Proof.Machine.execSpdmGetCapabilities v s
  | .spdmNegotiateAlgorithms v => Sys2Proof.Machine.execSpdmNegotiateAlgorithms v s
  | .spdmGetDigests v => Sys2Proof.Machine.execSpdmGetDigests v s
  | .spdmGetCertificate v slot => Sys2Proof.Machine.execSpdmGetCertificate v slot s
  | .spdmChallenge v slot nonce => Sys2Proof.Machine.execSpdmChallenge v slot nonce s
  | .spdmGetMeasurements v index signed nonce => Sys2Proof.Machine.execSpdmGetMeasurements v index signed nonce s
  | .spdmKeyExchange v slot => Sys2Proof.Machine.execSpdmKeyExchange v slot s
  | .spdmFinish v session => Sys2Proof.Machine.execSpdmFinish v session s
  | .spdmHeartbeat v session => Sys2Proof.Machine.execSpdmHeartbeat v session s
  | .spdmKeyUpdate v session => Sys2Proof.Machine.execSpdmKeyUpdate v session s
  | .spdmEndSession v session => Sys2Proof.Machine.execSpdmEndSession v session s
  | .spdmGetCsr v => Sys2Proof.Machine.execSpdmGetCsr v s
  | .spdmSetCertificate v slot chain => Sys2Proof.Machine.execSpdmSetCertificate v slot chain s
  | .ideKmKeyProg p session keySet key => Sys2Proof.Machine.execIdeKmKeyProg p session keySet key s
  | .opalMethod fseq m => Sys2Proof.Machine.execOpalMethod fseq m s
  | .opalReceive fseq protocol => Sys2Proof.Machine.execOpalReceive fseq protocol s
  | .opalGenkey fseq range => Sys2Proof.Machine.execOpalGenkey fseq range s
  | .psidRevert fseq psidOk => Sys2Proof.Machine.execPsidRevert fseq psidOk s
  | .kpioKeyInject fseq nsid tag key authentic => Sys2Proof.Machine.execKpioKeyInject fseq nsid tag key authentic s
  | .kpioClearKey fseq nsid tag => Sys2Proof.Machine.execKpioClearKey fseq nsid tag s
  | .ownerNonce v => Sys2Proof.Machine.execOwnerNonce v s
  | .ownerResult v => Sys2Proof.Machine.execOwnerResult v s
  | .ownerTakeOwnership v c => Sys2Proof.Machine.execOwnerTakeOwnership v c s
  | .ownerSetLock v c => Sys2Proof.Machine.execOwnerSetLock v c s
  | .ownerClearLock v c => Sys2Proof.Machine.execOwnerClearLock v c s
  | .ownerReplaceKey v c => Sys2Proof.Machine.execOwnerReplaceKey v c s
  | .ownerWriteEntry v c => Sys2Proof.Machine.execOwnerWriteEntry v c s
  | .ownerProvisionSlot2 v c => Sys2Proof.Machine.execOwnerProvisionSlot2 v c s
  | .ownerRelease v c => Sys2Proof.Machine.execOwnerRelease v c s
  | .ownerAuthoriseDebug v c => Sys2Proof.Machine.execOwnerAuthoriseDebug v c s
  | .presenceHold beganInWindow => Sys2Proof.Machine.execPresenceHold beganInWindow s
  | .presenceWindowExpire => Sys2Proof.Machine.execPresenceWindowExpire s
  | .bstProgramPage ini offset data => Sys2Proof.Machine.execBstProgramPage ini offset data s
  | .bstSectorErase ini offset => Sys2Proof.Machine.execBstSectorErase ini offset s
  | .bstSuspend ini => Sys2Proof.Machine.execBstSuspend ini s
  | .bstResume ini => Sys2Proof.Machine.execBstResume ini s
  | .bstReadStatus ini => Sys2Proof.Machine.execBstReadStatus ini s
  | .bstReturnToRead ini => Sys2Proof.Machine.execBstReturnToRead ini s
  | .bstSequenceBroken ini => Sys2Proof.Machine.execBstSequenceBroken ini s
  | .bstOpComplete ok => Sys2Proof.Machine.execBstOpComplete ok s
  | .bstSuspendDue => Sys2Proof.Machine.execBstSuspendDue s
  | .bstSuspended => Sys2Proof.Machine.execBstSuspended s
  | .bstRead ini offset => Sys2Proof.Machine.execBstRead ini offset s
  | .bstAbort => Sys2Proof.Machine.execBstAbort s
  | .coldStart calibOk loaderOk pfailLow => Sys2Proof.Machine.execColdStart calibOk loaderOk pfailLow s
  | .slipwayStart recoveryOk => Sys2Proof.Machine.execSlipwayStart recoveryOk s
  | .firmwareStart => Sys2Proof.Machine.execFirmwareStart s
  | .deepRestWake => Sys2Proof.Machine.execDeepRestWake s
  | .eventTokenRefill code => Sys2Proof.Machine.execEventTokenRefill code s
  | .eventRepeatPersist => Sys2Proof.Machine.execEventRepeatPersist s
  | .opsecTick => Sys2Proof.Machine.execOpsecTick s
  | .opsecPersist => Sys2Proof.Machine.execOpsecPersist s
  | .evrSeqLoRead ini => Sys2Proof.Machine.execEvrSeqLoRead ini s
  | .imageAreaWritten digestOk => Sys2Proof.Machine.execImageAreaWritten digestOk s
  | .ferryPauseBegin => Sys2Proof.Machine.execFerryPauseBegin s
  | .ferryDrained => Sys2Proof.Machine.execFerryDrained s
  | .ferryLanding pauseUs => Sys2Proof.Machine.execFerryLanding pauseUs s
  | .ferryDeadline => Sys2Proof.Machine.execFerryDeadline s
  | .trialArm => Sys2Proof.Machine.execTrialArm s
  | .trialToken value => Sys2Proof.Machine.execTrialToken value s
  | .healthToken ini value => Sys2Proof.Machine.execHealthToken ini value s
  | .rollbackCopyComplete => Sys2Proof.Machine.execRollbackCopyComplete s
  | .trialTimerExpire => Sys2Proof.Machine.execTrialTimerExpire s
  | .stagingDiscard v => Sys2Proof.Machine.execStagingDiscard v s
  | .apstIdleExpire p => Sys2Proof.Machine.execApstIdleExpire p s
  | .psPreparationDone systemFail => Sys2Proof.Machine.execPsPreparationDone systemFail s
  | .domainAnswer d a => Sys2Proof.Machine.execDomainAnswer d a s
  | .domainDelayExpire d => Sys2Proof.Machine.execDomainDelayExpire d s
  | .supplyPowerGood sup => Sys2Proof.Machine.execSupplyPowerGood sup s
  | .supplyPgTimeout sup => Sys2Proof.Machine.execSupplyPgTimeout sup s
  | .xoReadyTimeout => Sys2Proof.Machine.execXoReadyTimeout s
  | .thermalSensorRead temps => Sys2Proof.Machine.execThermalSensorRead temps s
  | .thermalShutdown => Sys2Proof.Machine.execThermalShutdown s
  | .thermalRestart => Sys2Proof.Machine.execThermalRestart s
  | .dictRead p r => Sys2Proof.Machine.execDictRead p r s
  | .dictWrite p r => Sys2Proof.Machine.execDictWrite p r s
  | .dictDescribe p r => Sys2Proof.Machine.execDictDescribe p r s
  | .dictRequestInvalid p op tag => Sys2Proof.Machine.execDictRequestInvalid p op tag s
  | .miDictRead r => Sys2Proof.Machine.execMiDictRead r s
  | .miDictWrite r => Sys2Proof.Machine.execMiDictWrite r s
  | .miDictDescribe r => Sys2Proof.Machine.execMiDictDescribe r s
  | .commitWindowClose index sub => Sys2Proof.Machine.execCommitWindowClose index sub s
  | .defaults v => Sys2Proof.Machine.execDefaults v s
  | .testNow v => Sys2Proof.Machine.execTestNow v s
  | .cInitReset v => Sys2Proof.Machine.execCInitReset v s
  | .fullWindow v ms => Sys2Proof.Machine.execFullWindow v ms s
  | .fullTarget v stripe => Sys2Proof.Machine.execFullTarget v stripe s
  | .pounceRun v => Sys2Proof.Machine.execPounceRun v s
  | .bmcNtfRead n => Sys2Proof.Machine.execBmcNtfRead n s
  | .registerWrite ini r value => Sys2Proof.Machine.execRegisterWrite ini r value s
  | .auxPowerOn => Sys2Proof.Machine.execAuxPowerOn s
  | .auxRelease peDual mbSel testScan => Sys2Proof.Machine.execAuxRelease peDual mbSel testScan s
  | .ledCheck led highWhileSinking lowWhileReleased lowCurrent => Sys2Proof.Machine.execLedCheck led highWhileSinking lowWhileReleased lowCurrent s
  | .fpBtnPress ms => Sys2Proof.Machine.execFpBtnPress ms s
  | .buttonStuck => Sys2Proof.Machine.execButtonStuck s
  | .mbLineHeldLow sda => Sys2Proof.Machine.execMbLineHeldLow sda s
  | .mbLineReleased sda => Sys2Proof.Machine.execMbLineReleased sda s
  | .i3cHotJoin => Sys2Proof.Machine.execI3cHotJoin s
  | .debugProbeAttach => Sys2Proof.Machine.execDebugProbeAttach s
  | .debugProbeRemove => Sys2Proof.Machine.execDebugProbeRemove s
  | .zoneOpen fseq => Sys2Proof.Machine.execZoneOpen fseq s
  | .zoneClose fseq => Sys2Proof.Machine.execZoneClose fseq s
  | .unitPowerGate sl unit => Sys2Proof.Machine.execUnitPowerGate sl unit s
  | .crystalReady => Sys2Proof.Machine.execCrystalReady s
  | .huIsoClose => Sys2Proof.Machine.execHuIsoClose s
  | .prechargeEnd => Sys2Proof.Machine.execPrechargeEnd s
  | .trialFlushDeadline => Sys2Proof.Machine.execTrialFlushDeadline s

end Sys2Proof.Machine
end

