-- ==== Sys2Proof/Machine/Tick.lean ====
section
/-! DEFINITION. What a cycle of the timebase's source does: the timebase counts (R39, R40) and the flash channels' buses go on
(R158). Everything else that takes time has a command of its own. -/

namespace Sys2Proof.Machine

/-- The timebase counts from the release of the package on; it stops in deep rest and in power-off (R39). -/
def Phase.counts : Phase → Bool
  | .off | .auxReset | .supplies | .wakeFault | .thermalOff | .deepRest => false
  | _ => true

/-- `n` ticks pass on every channel's bus, and the owners load their next map pages (R158, R192). -/
def State.channelTicks (s : State) (n : Nat) : State :=
  let s := (List.finRange 64).foldl (fun s c => s.busTick n c) s
  if s.phase == .running && decide (s.pws.ps < 3) then s.loadNext.settleReads else s

/-- One cycle of the source in use passes: it adds the source's ticks (R40). -/
def State.tick (s : State) : State :=
  if s.phase.counts then
    let n := TbSource.ticks s.tb.srcAct
    let s : State := { s with tb := { s.tb with count := s.tb.count + BitVec.ofNat 64 n } }
    if s.live then s.channelTicks n else s
  else s

end Sys2Proof.Machine
end

