-- ==== Sys2Proof/Safety.lean ====
section
/-! DEFINITION. What the statements speak of: the parts of the state, what a command may change, the invariants of the lock
table and of the byte memories, and a run of steps. -/

namespace Sys2Proof.Machine

open Sys2Proof

/-- The parts of the state: one for each field of `State`. -/
inductive Part where
  | phase | tb | pace | units | avs | evr | clocks | cmq | land | media | plp | ports | dram | sdm | vault | sec | bst | boot
  | pws | dict | board | out | free | pending
deriving DecidableEq, Repr

/-- `t` holds the same as `s` in a part. -/
def State.agrees (s t : State) : Part → Prop
  | .phase => t.phase = s.phase
  | .tb => t.tb = s.tb
  | .pace => t.pace = s.pace
  | .units => t.units = s.units
  | .avs => t.avs = s.avs
  | .evr => t.evr = s.evr
  | .clocks => t.clocks = s.clocks
  | .cmq => t.cmq = s.cmq
  | .land => t.land = s.land
  | .media => t.media = s.media
  | .plp => t.plp = s.plp
  | .ports => t.ports = s.ports
  | .dram => t.dram = s.dram
  | .sdm => t.sdm = s.sdm
  | .vault => t.vault = s.vault
  | .sec => t.sec = s.sec
  | .bst => t.bst = s.bst
  | .boot => t.boot = s.boot
  | .pws => t.pws = s.pws
  | .dict => t.dict = s.dict
  | .board => t.board = s.board
  | .out => t.out = s.out
  | .free => t.free = s.free
  | .pending => t.pending = s.pending

/-- From `s` to `t` only the parts of `ps` may have changed. -/
structure Changes (ps : List Part) (s t : State) : Prop where
  rest : ∀ p, p ∉ ps → s.agrees t p

/-- The parts of the state that a command may change; it leaves every other part as it was. -/
def touches : Instr → List Part
  | .paceWindow .. => [.pace, .evr, .cmq, .land, .media, .ports, .sdm, .vault, .sec, .bst, .boot, .out, .free]
  | .tbSourceStop .. | .tbSourceSelect .. => [.tb, .evr]
  | .tbLoRead .. => [.tb, .evr, .out]
  | .coreHeartbeat .. => [.units, .evr]
  | .heartbeatMissed .. | .coreEccError .. | .lockstepMismatch
    => [.units, .evr, .cmq, .land, .media, .ports, .sdm, .vault, .sec, .bst, .boot, .out]
  | .decoderSelfCheckFail .. | .compressionUnitFail .. | .cipherLaneCheckFail .. | .cipherLaneKat ..
    => [.units, .evr, .cmq, .land, .media, .ports, .sdm, .bst, .boot, .out]
  | .accumulatorSelfCheckFail .. => [.units, .evr, .cmq, .land, .media, .ports, .out]
  | .watchdogReset | .flushMark .. | .hostPowerReturn | .ccDisable .. | .functionLevelReset .. | .hotReset ..
  | .perstAssert .. | .nvmSubsystemReset | .linkDown .. | .deepRestWake | .trialTimerExpire | .thermalRestart
    => [.phase, .tb, .pace, .avs, .evr, .clocks, .cmq, .land, .media, .plp, .ports, .dram, .sdm, .vault, .sec, .bst, .boot, .pws, .dict, .board, .out, .free]
  | .powerCapTick .. => [.avs, .out]
  | .sqDoorbell .. | .psPreparationDone .. | .domainDelayExpire .. => [.evr, .cmq, .land, .media, .ports, .dram, .pws, .out]
  | .cqHeadDoorbell .. => [.cmq, .ports, .out]
  | .commandFetch .. => [.cmq, .land, .media, .ports, .pws, .out]
  | .write .. | .abort .. | .deviceSelfTest .. | .compare .. | .verify .. | .copy .. | .zoneAppend ..
    => [.cmq, .land, .media, .ports, .out, .free]
  | .writeDataLanded .. => [.cmq, .land, .out]
  | .readBackReturn .. | .rowComplete .. | .writeZeroes .. | .datasetManagement .. | .resume ..
    => [.evr, .cmq, .land, .media, .ports, .out, .free]
  | .recordPacked .. => [.cmq, .land, .media, .ports, .sec, .pws, .out]
  | .closeWaitExpire .. => [.land, .media, .out]
  | .programComplete .. | .programFail .. | .eraseFail .. | .read .. | .nandReadData .. | .statusPollTimeout ..
  | .rebuildPhase1End .. | .eraseComplete .. | .retentionAge .. | .pounceScan .. | .pounceFinish ..
  | .pouncePendingAged .. | .bankFullCharge | .landingLimitRecompute .. | .bankTestEnd ..
    => [.evr, .cmq, .land, .media, .plp, .ports, .out, .free]
  | .decodeComplete .. => [.evr, .cmq, .land, .media, .plp, .ports, .pws, .out, .free]
  | .exportByLba .. | .exportByPhysical .. | .resolve .. | .checkpointTimer => [.evr, .media, .out]
  | .ceTrainingDone .. | .recentreDue .. => [.evr, .cmq, .land, .media, .plp, .ports, .out]
  | .dieSuspended .. | .suspWindowExpire .. | .suspendRunReached .. | .arrayOpWaitLimit ..
  | .busTransferWaitLimit .. | .reclaimUnitTimeLimit .. => [.media, .out]
  | .rebuildPhase2End .. | .chargeTimeout .. | .bankFault .. => [.evr, .land, .media, .plp, .ports, .out]
  | .stripeOpen => [.evr, .land, .media, .out]
  | .fullingWindowExpire => [.media]
  | .chargeEnable | .chargeRetry | .bankTestDue | .bankFaultClear .. => [.evr, .land, .plp, .ports, .out]
  | .powerFail .. => [.phase, .evr, .cmq, .land, .media, .plp, .dram, .sdm, .boot, .pws, .out]
  | .recoveryComplete .. => [.phase, .evr, .cmq, .land, .media, .plp, .ports, .boot, .pws, .out, .free]
  | .createIoSq .. | .createIoCq .. | .deleteIoSq .. | .deleteIoCq .. | .getLogPage .. | .identify ..
  | .getFeatures .. | .setArbitration .. | .setTemperatureThreshold .. | .setErrorRecovery ..
  | .setVolatileWriteCache .. | .setNumberOfQueues .. | .setInterruptCoalescing ..
  | .setInterruptVectorConfig .. | .setAsyncEventConfig .. | .setApst .. | .setHctm ..
  | .setReadRecoveryLevel .. | .setReservationPersistence .. | .setHostIdentifier .. | .setFdp ..
  | .asyncEventRequest .. | .namespaceAttachment .. | .directiveSend .. | .directiveReceive ..
  | .invalidAdminOpcode .. | .flushCommand .. | .reservationRegister .. | .reservationReport ..
  | .reservationAcquire .. | .reservationRelease .. | .ioManagementReceive .. | .reclaimUnitHandleUpdate ..
  | .zoneManagementReceive .. | .opalReceive .. | .ownerResult .. => [.cmq, .land, .media, .ports, .out]
  | .setPowerManagement .. | .apstIdleExpire .. => [.evr, .cmq, .land, .media, .plp, .ports, .pws, .out]
  | .setTimestamp .. => [.evr, .clocks, .cmq, .land, .media, .ports, .out]
  | .namespaceManagement .. => [.evr, .cmq, .land, .media, .ports, .dict, .out, .free]
  | .formatNvm .. | .sanitize .. | .opalGenkey .. | .psidRevert .. => [.evr, .cmq, .land, .media, .ports, .sec, .out, .free]
  | .firmwareImageDownload .. => [.evr, .cmq, .land, .media, .ports, .boot, .out]
  | .downloadPieceProgrammed .. => [.evr, .cmq, .land, .media, .ports, .bst, .boot, .out, .free]
  | .commitReplace .. | .commitActivateAtReset .. | .commitSetActive .. | .commitActivateNow ..
  | .imageAreaWritten .. | .ferryPauseBegin => [.evr, .cmq, .land, .media, .ports, .bst, .boot, .out]
  | .zoneFinish .. | .zoneReset .. | .zoneOpen .. | .zoneClose .. => [.evr, .cmq, .land, .media, .ports, .out]
  | .normalShutdown .. => [.evr, .cmq, .land, .media, .boot, .out]
  | .abruptShutdown .. => [.cmq, .land, .media, .boot, .out]
  | .ccEnable .. => [.cmq]
  | .perstDeassert .. => [.phase, .tb, .ports, .pws, .out]
  | .linkUp .. => [.evr, .ports]
  | .l0pNarrow .. | .l0pWiden .. | .l1IdleExpire .. | .l1Exit .. | .xlatCommit .. | .fateTableComplete .. => [.ports]
  | .ideIntegrityFailure .. | .configRequest .. | .contain .. | .containBmc .. | .poisonedCompletion ..
  | .completionTimeout .. => [.evr, .cmq, .land, .media, .ports, .sdm, .bst, .boot, .out, .free]
  | .atomicRequest .. | .spdmGetCapabilities .. | .spdmGetDigests .. | .spdmGetCertificate .. => [.out]
  | .pmrWrite .. => [.evr, .land, .ports, .out]
  | .pmrRead .. | .tlpWindowCross .. => [.evr, .ports, .out]
  | .cmbSlotWrite .. => [.evr, .land, .out, .free]
  | .barUnmappedAccess .. | .evrSeqLoRead .. => [.evr, .out]
  | .arbRound .. | .dramUe .. => [.units, .evr, .cmq, .land, .media, .ports, .dram, .sdm, .bst, .boot, .out, .free]
  | .refreshDue .. => [.dram, .out]
  | .debugRequest .. => [.dram, .out, .free]
  | .grantCutOff .. => [.evr, .dram]
  | .retrainCycleDue .. | .scrubDue .. | .retrainCycle .. | .retrainFull .. => [.dram]
  | .dramTrainingDone .. => [.units, .evr, .cmq, .land, .media, .ports, .dram, .sdm, .bst, .boot, .out]
  | .sdmaDoorbell .. | .sdmaRun .. | .sdmaStop .. | .sdmaDisable .. | .sdmaCopy .. | .sdmaFill ..
  | .sdmaCompare .. | .sdmaLastBeatAck .. | .sdmaReadbackReturn .. | .sdmaBeatError .. => [.evr, .land, .sdm, .out, .free]
  | .vaultEncrypt .. | .vaultDecrypt .. | .vaultKeystream .. | .nonceNext .. | .keyWordWrite ..
  | .keySlotClear .. | .pageClaim .. | .pageRelease .. | .vaultAccessRefused .. => [.evr, .vault, .out]
  | .vaultBlockDone .. => [.vault, .free]
  | .keyExpanded .. => [.vault]
  | .tamperAlarm .. | .debugUnlockWrite .. => [.evr, .cmq, .land, .media, .ports, .sdm, .vault, .sec, .bst, .boot, .out, .free]
  | .entropyHealthFail | .entropyRetry .. | .presenceHold .. => [.evr, .sec]
  | .spdmGetVersion .. | .spdmNegotiateAlgorithms .. | .spdmFinish .. | .spdmSetCertificate .. => [.sec, .out]
  | .spdmChallenge .. | .spdmGetMeasurements .. | .spdmGetCsr .. => [.out, .free]
  | .spdmKeyExchange .. => [.sec, .out, .free]
  | .spdmHeartbeat .. => [.vault, .out]
  | .spdmKeyUpdate .. | .spdmEndSession .. => [.vault, .sec, .out]
  | .ideKmKeyProg .. => [.cmq, .ports, .vault, .out]
  | .opalMethod .. | .kpioKeyInject .. | .kpioClearKey .. => [.cmq, .land, .media, .ports, .sec, .out]
  | .ownerNonce .. => [.cmq, .land, .media, .ports, .sec, .out, .free]
  | .ownerTakeOwnership .. | .ownerSetLock .. | .ownerClearLock .. | .ownerReplaceKey ..
  | .ownerProvisionSlot2 .. | .ownerRelease .. | .ownerAuthoriseDebug ..
    => [.evr, .cmq, .land, .media, .ports, .vault, .sec, .out]
  | .ownerWriteEntry ..
    => [.evr, .cmq, .land, .media, .plp, .ports, .dram, .sdm, .vault, .sec, .bst, .boot, .pws, .dict, .out, .free]
  | .presenceWindowExpire => [.sec]
  | .bstProgramPage .. | .bstSuspend .. | .bstResume .. | .bstReadStatus .. | .bstReturnToRead ..
  | .bstSequenceBroken .. | .bstSuspended | .bstRead .. => [.bst, .out]
  | .bstSectorErase .. => [.evr, .bst, .out]
  | .bstOpComplete .. => [.evr, .bst, .out, .free]
  | .bstSuspendDue => [.bst]
  | .bstAbort => [.bst, .out, .free]
  | .coldStart .. => [.phase, .units, .evr, .clocks, .media, .plp, .sec, .bst, .free]
  | .slipwayStart .. => [.phase, .evr, .bst, .boot]
  | .firmwareStart => [.phase, .evr, .cmq, .land, .media, .plp, .ports, .dram, .sdm, .bst, .boot, .pws, .dict, .out, .free]
  | .eventTokenRefill .. | .eventRepeatPersist => [.evr]
  | .opsecTick => [.clocks]
  | .opsecPersist => [.evr, .clocks]
  | .ferryDrained | .trialArm | .trialToken .. => [.boot]
  | .ferryLanding .. | .ferryDeadline | .healthToken .. | .stagingDiscard .. | .dictRead .. | .dictWrite ..
  | .dictDescribe .. | .dictRequestInvalid .. | .miDictRead .. | .miDictWrite .. | .miDictDescribe ..
  | .commitWindowClose .. | .defaults .. | .testNow .. | .cInitReset .. | .fullWindow .. | .fullTarget ..
  | .pounceRun .. | .bmcNtfRead ..
    => [.evr, .cmq, .land, .media, .plp, .ports, .dram, .sdm, .bst, .boot, .pws, .dict, .out, .free]
  | .rollbackCopyComplete => [.evr, .bst, .boot]
  | .domainAnswer .. => [.phase, .evr, .clocks, .cmq, .land, .media, .plp, .ports, .dram, .vault, .sec, .pws, .out]
  | .supplyPowerGood .. => [.phase, .tb, .pws, .out]
  | .supplyPgTimeout .. => [.phase, .tb, .evr, .ports, .pws, .out]
  | .xoReadyTimeout => [.tb, .evr, .pws]
  | .thermalSensorRead .. => [.evr, .cmq, .land, .media, .ports, .dram, .sdm, .vault, .sec, .bst, .boot, .pws, .out, .free]
  | .thermalShutdown => [.phase, .evr, .cmq, .land, .media, .ports, .sdm, .pws, .out]
  | .registerWrite ..
    => [.tb, .pace, .evr, .cmq, .land, .media, .plp, .ports, .dram, .sdm, .vault, .bst, .boot, .dict, .out, .free]
  | .auxPowerOn | .trialFlushDeadline
    => [.phase, .tb, .pace, .avs, .evr, .clocks, .cmq, .land, .media, .plp, .ports, .dram, .sdm, .vault, .sec, .bst, .boot, .pws, .dict, .board, .free]
  | .auxRelease .. => [.phase, .pws, .board, .out]
  | .ledCheck .. | .fpBtnPress .. | .mbLineHeldLow .. => [.evr, .board, .out]
  | .buttonStuck | .mbLineReleased .. | .debugProbeAttach | .debugProbeRemove => [.evr, .board]
  | .i3cHotJoin => [.board, .out]
  | .unitPowerGate .. => [.pws]
  | .crystalReady => [.tb, .pws]
  | .huIsoClose => [.plp, .out]
  | .prechargeEnd => [.plp]

/-- The lock table is settled: an entry is granted exactly when no conflicting entry was fetched before it (R268). -/
def State.locksOk (s : State) : Prop := regrant s.cmq.locks = s.cmq.locks

/-- A persistent memory region and its image in the system band are in canonical form. -/
def Pmr.memOk (r : Pmr) : Bool :=
  memWf 0 r.mem && (match r.image with
    | some x => memWf 0 x.1
    | none => true)

/-- Every byte memory of the machine is in its canonical form. -/
def State.memOk (s : State) : Bool :=
  memWf 0xFF s.bst.mem && memWf 0 s.sec.dataStore && memWf 0 s.sdm.mem && s.land.pmr[0].memOk && s.land.pmr[1].memOk

/-- The landing buffer and the open rows hold each number once, in order. -/
def State.tablesOk (s : State) : Bool := s.land.lines.wf && s.media.rows.wf

/-! ### Commands that complete (R60, R269) -/

/-- The completion queue of a command. -/
def State.cqOf (s : State) (c : Cmd) : Nat := (s.ctrl c.port).cqOf c.sqid

/-- A completion entry of the command can be posted at once: the controller is enabled and not contained, the completion queue
has room, and IDE allows the port (R60, R298, R302). -/
structure State.CanPost (s : State) (c : Cmd) : Prop where
  free : s.ports[c.port].cnt.active = false
  enabled : (s.ctrl c.port).en = true
  room : ∃ q, (s.ctrl c.port).cqs.get? (s.cqOf c) = some q ∧ q.used + 1 < q.size
  ide : s.mayWrite c.port = true

/-- The command under `fseq` is in flight, in a phase, and its completion can be posted; one that has not begun owns no
landing line. -/
structure State.Flying (s : State) (fseq : Nat) (c : Cmd) (ph : CmdPhase) : Prop where
  live : s.live = true
  get : s.cmq.cmds.get? fseq = some c
  phase : c.phase = ph
  loud : c.silent = false
  post : s.CanPost c
  fresh : ph = .ready → c.lines = []

/-- An admin command of opcode `opc` holds its locks and can run to its completion. -/
structure State.AdminReady (s : State) (fseq opc : Nat) (c : Cmd) : Prop where
  flying : s.Flying fseq c .ready
  code : ∃ sc, c.cmd = .admin (BitVec.ofNat 8 opc) sc

/-- The command under `fseq` has completed with a status and Dword 0: after the outputs `before`, its completion entry and the
interrupt message of its queue are the last things sent, it has left the command table, and it holds no range lock. -/
structure State.Completed (before : List Output) (s t : State) (fseq : Nat) (c : Cmd) (st : Status) (dw0 : Nat) : Prop where
  posted : ∃ vec, t.out = before ++ [.cqe c.port (s.cqOf c) c.sqid c.cid st dw0, .msix c.port vec]
  left : t.cmq.cmds.get? fseq = none
  unlocked : ∀ l ∈ t.cmq.locks, l.fseq ≠ fseq

/-- A write-type command that meets every check of its landing, on the host-memory route, over whole granules: it only needs
lines (R59 to R63, R100). -/
structure State.MayLand (s : State) (fseq : Nat) (c : Cmd) (d : Dest) : Prop where
  live : s.live = true
  get : s.cmq.cmds.get? fseq = some c
  runs : c.runs = true
  empty : c.wdata = []
  got : c.awaiting = []
  dest : s.destOf c = some d
  range : rangeCheck d.n d.slba d.nlb d.only.isNone = none
  writable : s.readOnly = false
  allowed : s.deniedRun d.ns d.n d.slba d.nlb d.tag true = false
  handle : d.n.placement = 1 → d.handle < s.media.handleMax
  memory : d.cmb = []
  zone : s.zoneCheck d = none
  whole : d.partly = []
  pool : s.media.poolCovers d.n (256 * d.granules.length) = true

/-- The sector under number `k` of a namespace, of a granule that lies in a landing line or reads as zeros (R64, R181). -/
def State.sectorAt (s : State) (ns : Nat) (n : Namespace) (k : Nat) : Sector :=
  match s.source ns n (k / 8) with
  | .line d => d.getD (k % 8) 0
  | _ => 0

/-- The data of runs of logical blocks, in order. -/
def State.runData (s : State) (ns : Nat) (n : Namespace) (ranges : List (Nat × Nat)) : List Sector :=
  ranges.flatMap (fun q => (List.range (q.2 * n.spb)).map (fun i => s.sectorAt ns n (q.1 * n.spb + i)))

/-- A reading command that holds its locks, passes its checks, and finds every granule in a landing line or as zeros. -/
structure State.ReadReady (s : State) (fseq ns : Nat) (n : Namespace) (ranges : List (Nat × Nat)) (c : Cmd) : Prop where
  flying : s.Flying fseq c .ready
  reads : ∃ tag, s.readsOf c = some (ns, n, ranges, tag, false, false) ∧ s.readCheck c ns n ranges tag false = none
  atHand : ∀ g ∈ rangeGranules n ranges, (∃ d, s.source ns n g = .line d) ∨ s.source ns n g = .zeros

/-- A BAR4/5 request of a host reaches the blocks of content `k` (R290): the link is up, no check of R291 refuses it, and one of the
port's windows shows that content. -/
structure State.BarShows (s : State) (p : Fin 2) (k : Nat) : Prop where
  link : s.linkUp p = true
  goes : s.barRefusal p 4 = none
  shown : s.ports[p].shows k = true

/-- The dictionary mailbox of a port takes a request at once: the link is up, the device is awake and serves the dictionary,
nothing waits in the mailbox, IDE does not keep the request out, and the image is not the recovery image (R484, R496). -/
structure State.MailboxOpen (s : State) (p : Fin 2) : Prop where
  link : s.linkUp p = true
  awake : s.asleep = false
  serves : s.dictServes = true
  goes : s.dictWaits = false
  ide : s.param 0x2000 4 ≠ 1
  free : s.dict.mbox[p].busy = false
  image : s.boot.source ≠ 2

/-- The request path of the management bus is open in the same sense (R487, R488, R496). -/
structure State.BusOpen (s : State) : Prop where
  serves : s.dictServes = true
  goes : s.dictWaits = false
  free : s.dict.busBusy = false
  image : s.boot.source ≠ 2

/-- `n` steps one after the other; a fault or a refusal ends the run. -/
def runSteps : Nat → State → Option State
  | 0, s => some s
  | n + 1, s => match step s with
    | .next t => runSteps n t
    | _ => none

end Sys2Proof.Machine
end

