-- ==== Sys2Proof/WellFormed.lean ====
section
/-! DEFINITION. What the fields of a command can hold, where the operand's type is wider than the field. -/

namespace Sys2Proof

/-- A queue identifier. -/
def queueOk (q : Nat) : Bool := decide (q ≤ 4096)
/-- A die number (R18). -/
def dieOk (d : Nat) : Bool := decide (d < 1024)
/-- A namespace identifier. -/
def nsidOk (n : Nat) : Bool := decide (n < 2 ^ 32)
/-- A window BAR: BAR2/3 or BAR4/5. -/
def barOk (b : Nat) : Bool := decide (b = 2) || decide (b = 4)

/-- One to 65,536 logical blocks of a namespace. -/
def blocksOk (nsid slba nlb : Nat) : Bool := nsidOk nsid && decide (slba < 2 ^ 64) && decide (1 ≤ nlb) && decide (nlb ≤ 65536)

/-- The fields of a submission entry (R253, R254). -/
def HostCmd.wf : HostCmd → Bool
  | .flush n => nsidOk (n.getD 0)
  | .write r | .zoneAppend r => blocksOk r.nsid r.slba r.nlb && decide (r.keyTag.getD 0 < 65536) && decide (r.handle.getD 0 < 65536)
  | .read r | .compare r | .verify r => blocksOk r.nsid r.slba r.nlb && decide (r.keyTag.getD 0 < 65536)
  | .writeZeroes n s b _ => blocksOk n s b
  | .dsm n _ rs => nsidOk n && decide (1 ≤ rs.length) && decide (rs.length ≤ 256)
  | .copy n _ f rs => nsidOk n && decide (f < 16) && decide (1 ≤ rs.length) && decide (rs.length ≤ 256)
  | .zoneSend n .. | .zoneRecv n _ | .resv _ n | .ioMgmtRecv n | .ioMgmtSend n _ => nsidOk n
  | .admin _ sc => match sc with
    | .ns n => nsidOk n
    | .none | .all => true

/-- The fields of an export descriptor (R144). -/
def ExportReq.wf (q : ExportReq) : Bool :=
  decide (q.stepMax < 256) && nsidOk q.nsid && decide (q.lba < 2 ^ 64) && decide (q.die < 65536) && decide (q.block < 65536) &&
    decide (q.page < 65536) && decide (q.cw < 256)

/-- A command's fields hold what the interface that carries it can spell. -/
def Instr.wf : Instr → Bool
  -- a queue identifier and an index are 16 bits, with at most 4,096 queues (R255, R257)
  | .sqDoorbell _ q t => queueOk q && decide (t < 65536)
  | .cqHeadDoorbell _ q h => queueOk q && decide (h < 65536)
  | .createIoSq _ q n cq _ _ _ => queueOk q && decide (n ≤ 65536) && decide (cq < 65536)
  | .createIoCq _ q n v _ _ => queueOk q && decide (n ≤ 65536) && decide (v < 65536)
  | .deleteIoSq _ q | .deleteIoCq _ q => queueOk q
  | .abort _ q cid => queueOk q && decide (cid < 65536)
  -- a submission entry (R253, R254)
  | .commandFetch _ cid cmd => decide (cid < 65536) && cmd.wf
  -- a landing line, a die, a block (R18, R55)
  | .recordPacked l f => decide (l < 524288) && decide (f.length ≤ 4096)
  | .eraseFail d b | .eraseComplete d b => dieOk d && decide (b < 8192)
  | .statusPollTimeout d _ => dieOk d
  | .dieSuspended d | .suspWindowExpire d | .suspendRunReached d | .rebuildPhase1End d | .rebuildPhase2End d => dieOk d
  -- a page's bytes, a channel's chip enable, an export descriptor (R77, R144, R153, R162)
  | .nandReadData _ g => decide (g.window.length ≤ 18560)
  | .ceTrainingDone _ _ r _ => decide (r.luns.length ≤ 4) && decide (r.eyes.length ≤ 3) && r.bits.all (fun b => decide (b < 64))
  | .arrayOpWaitLimit x => dieOk x.die
  | .recentreDue _ _ rd wr _ => decide (rd.length ≤ 8) && decide (wr.length ≤ 8)
  | .exportByLba _ q | .exportByPhysical _ q | .resolve _ q _ _ => q.wf
  -- fields of the admin commands (R253)
  | .getLogPage _ x n | .identify _ x n => decide (x < 256) && nsidOk n
  | .getFeatures _ f sel => decide (f < 256) && decide (sel < 8)
  | .setPowerManagement _ ps => decide (ps < 32)
  | .setNumberOfQueues _ a b | .setHctm _ a b => decide (a < 65536) && decide (b < 65536)
  | .setInterruptVectorConfig _ v _ => decide (v < 65536)
  | .setApst _ _ t => decide (t.length ≤ 32)
  | .setTimestamp _ ms => decide (ms < 2 ^ 48)
  | .setReadRecoveryLevel _ l => decide (l < 16)
  | .setReservationPersistence _ n _ => nsidOk n
  | .namespaceAttachment _ _ n _ => nsidOk n
  | .deviceSelfTest _ k => decide (k < 16)
  | .directiveSend _ n t _ => nsidOk n && decide (t < 256)
  | .directiveReceive _ n t => nsidOk n && decide (t < 256)
  | .formatNvm _ n ses _ => nsidOk n && decide (ses < 8)
  | .sanitize _ a => decide (a < 8)
  | .firmwareImageDownload _ o bs => decide (o % 4 = 0) && decide (bs.length % 4 = 0) && !bs.isEmpty
  | .commitReplace _ k | .commitActivateAtReset _ k | .commitSetActive _ k | .commitActivateNow _ k => decide (k < 8)
  | .reservationAcquire _ _ t _ _ _ => decide (t < 256)
  | .reservationRelease _ _ t _ _ => decide (t < 256)
  | .kpioKeyInject _ n t _ _ => nsidOk n && decide (t < 65536)
  | .kpioClearKey _ n t => nsidOk n && decide (t < 65536)
  -- the admin queues hold 2 to 4,096 entries (R257)
  | .ccEnable _ _ a b => decide (2 ≤ a) && decide (a ≤ 4096) && decide (2 ≤ b) && decide (b ≤ 4096)
  -- a link's width (R284)
  | .linkUp _ r w => decide (r ≤ 64) && [1, 2, 4, 8, 16].contains w
  -- a double word of the configuration space (R286)
  | .configRequest _ o _ => decide (o < 4096) && decide (o % 4 = 0)
  -- requests to the BARs (R261, R289)
  | .pmrWrite _ _ bs => !bs.isEmpty
  | .pmrRead _ _ n => decide (1 ≤ n)
  | .cmbSlotWrite _ k _ _ => decide (k < 131072)
  | .barUnmappedAccess _ b _ _ => barOk b
  | .tlpWindowCross _ b _ n _ => barOk b && decide (1 ≤ n)
  -- a DRAM transaction has at least one burst (R319)
  | .arbRound _ xs _ _ => xs.all (fun x => decide (1 ≤ x.2.bursts))
  | .debugRequest _ x => decide (1 ≤ x.bursts)
  -- certificate slots and session numbers (R379 to R381)
  | .spdmGetCertificate _ k | .spdmChallenge _ k _ | .spdmKeyExchange _ k | .spdmSetCertificate _ k _ => decide (k < 8)
  | .spdmGetMeasurements _ k _ _ => decide (k < 256)
  | .opalReceive _ k => decide (k < 256)
  -- addresses and pages of the boot store (R391, R392)
  | .bstProgramPage _ o d => decide (o < 67108864) && decide (d.length = 256)
  | .bstSectorErase _ o | .bstRead _ o => decide (o < 67108864)
  -- an event code (R418)
  | .eventTokenRefill c => decide (c < 65536)
  -- one reading of each of the twelve sensors (R466)
  | .thermalSensorRead ts => decide (ts.length = 12)
  -- the length of a dictionary value is 16 bits (R484)
  | .dictRead _ r | .dictWrite _ r | .dictDescribe _ r => decide (r.value.length < 65536)
  | .miDictRead r | .miDictWrite r | .miDictDescribe r => decide (r.value.length < 65536)
  | .fullWindow _ x | .fullTarget _ x => decide (x < 2 ^ 32)
  -- a unit that is gated (R447)
  | .unitPowerGate _ u => decide (u < 8)
  | .paceWindow .. | .tbSourceStop .. | .tbSourceSelect .. | .tbLoRead .. | .coreHeartbeat ..
    | .heartbeatMissed .. | .coreEccError .. | .lockstepMismatch | .decoderSelfCheckFail ..
    | .accumulatorSelfCheckFail .. | .compressionUnitFail .. | .cipherLaneCheckFail .. | .watchdogReset
    | .powerCapTick .. | .write .. | .writeDataLanded .. | .readBackReturn .. | .closeWaitExpire ..
    | .programComplete .. | .rowComplete .. | .programFail .. | .read .. | .decodeComplete ..
    | .busTransferWaitLimit .. | .checkpointTimer | .stripeOpen | .retentionAge ..
    | .pounceScan .. | .pounceFinish .. | .pouncePendingAged .. | .fullingWindowExpire
    | .reclaimUnitTimeLimit .. | .chargeEnable | .bankFullCharge | .chargeTimeout .. | .chargeRetry
    | .landingLimitRecompute .. | .bankTestDue | .bankTestEnd .. | .bankFault .. | .bankFaultClear ..
    | .powerFail .. | .flushMark .. | .hostPowerReturn | .recoveryComplete .. | .setArbitration ..
    | .setTemperatureThreshold .. | .setErrorRecovery .. | .setVolatileWriteCache ..
    | .setInterruptCoalescing .. | .setAsyncEventConfig .. | .setHostIdentifier .. | .setFdp ..
    | .asyncEventRequest .. | .namespaceManagement .. | .invalidAdminOpcode .. | .downloadPieceProgrammed ..
    | .flushCommand .. | .compare .. | .writeZeroes .. | .datasetManagement .. | .verify ..
    | .reservationRegister .. | .reservationReport .. | .ioManagementReceive .. | .reclaimUnitHandleUpdate ..
    | .copy .. | .zoneFinish .. | .zoneReset .. | .zoneManagementReceive .. | .zoneAppend ..
    | .normalShutdown .. | .abruptShutdown .. | .ccDisable .. | .functionLevelReset .. | .hotReset ..
    | .perstAssert .. | .perstDeassert .. | .nvmSubsystemReset | .linkDown .. | .l0pNarrow .. | .l0pWiden ..
    | .l1IdleExpire .. | .l1Exit .. | .ideIntegrityFailure .. | .atomicRequest .. | .xlatCommit ..
    | .contain .. | .containBmc .. | .poisonedCompletion .. | .completionTimeout .. | .fateTableComplete ..
    | .resume .. | .refreshDue .. | .grantCutOff .. | .retrainCycleDue .. | .scrubDue ..
    | .dramTrainingDone .. | .dramUe .. | .retrainCycle .. | .retrainFull .. | .sdmaDoorbell .. | .sdmaRun ..
    | .sdmaStop .. | .sdmaDisable .. | .sdmaCopy .. | .sdmaFill .. | .sdmaCompare .. | .sdmaLastBeatAck ..
    | .sdmaReadbackReturn .. | .sdmaBeatError .. | .vaultEncrypt .. | .vaultDecrypt .. | .vaultKeystream ..
    | .vaultBlockDone .. | .nonceNext .. | .keyWordWrite .. | .keyExpanded .. | .keySlotClear ..
    | .pageClaim .. | .pageRelease .. | .vaultAccessRefused .. | .tamperAlarm .. | .debugUnlockWrite ..
    | .entropyHealthFail | .entropyRetry .. | .cipherLaneKat .. | .spdmGetVersion ..
    | .spdmGetCapabilities .. | .spdmNegotiateAlgorithms .. | .spdmGetDigests .. | .spdmFinish ..
    | .spdmHeartbeat .. | .spdmKeyUpdate .. | .spdmEndSession .. | .spdmGetCsr .. | .ideKmKeyProg ..
    | .opalMethod .. | .opalGenkey .. | .psidRevert .. | .ownerNonce .. | .ownerResult ..
    | .ownerTakeOwnership .. | .ownerSetLock .. | .ownerClearLock .. | .ownerReplaceKey ..
    | .ownerWriteEntry .. | .ownerProvisionSlot2 .. | .ownerRelease .. | .ownerAuthoriseDebug ..
    | .presenceHold .. | .presenceWindowExpire | .bstSuspend .. | .bstResume .. | .bstReadStatus ..
    | .bstReturnToRead .. | .bstSequenceBroken .. | .bstOpComplete .. | .bstSuspendDue | .bstSuspended
    | .bstAbort | .coldStart .. | .slipwayStart .. | .firmwareStart | .deepRestWake | .eventRepeatPersist
    | .opsecTick | .opsecPersist | .evrSeqLoRead .. | .imageAreaWritten .. | .ferryPauseBegin | .ferryDrained
    | .ferryLanding .. | .ferryDeadline | .trialArm | .trialToken .. | .healthToken ..
    | .rollbackCopyComplete | .trialTimerExpire | .stagingDiscard .. | .apstIdleExpire ..
    | .psPreparationDone .. | .domainAnswer .. | .domainDelayExpire .. | .supplyPowerGood ..
    | .supplyPgTimeout .. | .xoReadyTimeout | .thermalShutdown | .thermalRestart | .dictRequestInvalid ..
    | .commitWindowClose .. | .defaults .. | .testNow .. | .cInitReset .. | .pounceRun .. | .bmcNtfRead ..
    | .registerWrite .. | .auxPowerOn | .auxRelease .. | .ledCheck .. | .fpBtnPress .. | .buttonStuck
    | .mbLineHeldLow .. | .mbLineReleased .. | .i3cHotJoin | .debugProbeAttach | .debugProbeRemove
    | .zoneOpen .. | .zoneClose .. | .crystalReady | .huIsoClose | .prechargeEnd | .trialFlushDeadline => true

end Sys2Proof
end

