-- ==== Sys2Proof/Certificates/Slice0/Obligations.lean ====
section
/-! DEFINITION. What the provers are asked to prove: the spec's rules about what each command does, and the rules that hold of
every command. `Changes ps s t` says that every unit of the machine outside `ps` is the same in `t` as in `s`. -/

open Sys2Proof Sys2Proof.Machine

/-- R34, R37, R44, R365, R471: a window of a pace sensor ends, with the alarm and event 0x7010 after two windows in a row below the
floor, and tamper alarm 2 where the security unit's sensor is outside its limits; a power measurement moves the core voltage one
step and, at its lowest, the fetch rate. -/
def Obligations.PaceAndPowerCap : Prop :=
  (∀ (n : Fin 16) (cycles : Nat) (s : State), s.powered = true →
     ∃ t, exec (.paceWindow n cycles) s = .next t ∧
       t.pace.sensors[n].pace = satOf 16 (cycles / 10) ∧
       t.pace.sensors[n].paceMin.toNat = min s.pace.sensors[n].paceMin.toNat (satOf 16 (cycles / 10)).toNat ∧
       t.pace.sensors[n].below = (if (satOf 16 (cycles / 10)).toNat < s.pace.floor.toNat then s.pace.sensors[n].below + 1 else 0) ∧
       (t.pace.alarm = true ↔ s.pace.alarm = true ∨ 2 ≤ t.pace.sensors[n].below) ∧
       t.pace.sensor = (if s.pace.alarm = false ∧ 2 ≤ t.pace.sensors[n].below then BitVec.ofNat 4 n.val else s.pace.sensor) ∧
       (∀ m : Fin 16, m ≠ n → t.pace.sensors[m] = s.pace.sensors[m]) ∧ t.pace.floor = s.pace.floor ∧
       (paceAnomaly n cycles = false ∨ s.phase.guarded = false →
         t.evr = (if 2 ≤ t.pace.sensors[n].below then
           (s.log 0x7010 0xFF (leBytes 1 n.val ++ leBytes 2 (cycles / 10) ++ leBytes 1 (bit s.effCap.isSome))).evr else s.evr) ∧
         Changes [.pace, .evr] s t) ∧
       (paceAnomaly n cycles = true → s.phase.guarded = true →
         t.sec.tampered = true ∧ t.sec.causes.getLsbD 2 = true ∧ Changes (touches (.paceWindow n cycles)) s t)) ∧
  (∀ (power : Nat) (s : State), s.live = true →
     ∃ t, exec (.powerCapTick power) s = .next t ∧ t.avs.power = power ∧
       (s.effCap = none → t.avs.vcore = min 750 (s.avs.vcore + 5) ∧ t.avs.fetchCut = s.avs.fetchCut - 1) ∧
       (∀ c k, s.effCap = some (c, k) → c < power → 650 < s.avs.vcore →
         t.avs.vcore = s.avs.vcore - 5 ∧ t.avs.fetchCut = s.avs.fetchCut) ∧
       (∀ c k, s.effCap = some (c, k) → c < power → s.avs.vcore ≤ 650 →
         t.avs.vcore = s.avs.vcore ∧ t.avs.fetchCut = min 7 (s.avs.fetchCut + 1)) ∧
       (∀ c k, s.effCap = some (c, k) → power ≤ c → c ≤ power + 10 →
         t.avs.vcore = s.avs.vcore ∧ t.avs.fetchCut = s.avs.fetchCut) ∧
       (∀ c k, s.effCap = some (c, k) → power + 10 < c →
         t.avs.vcore = min 750 (s.avs.vcore + 5) ∧ t.avs.fetchCut = s.avs.fetchCut - 1) ∧
       t.out = s.out ++ (if t.avs.vcore = s.avs.vcore then [] else [.avs t.avs.vcore]) ∧ Changes [.avs, .out] s t)

/-- R39 to R41, R49: the source in use stops, a source is selected, the low half of the timebase is read by an initiator that is
admitted (R30); a step on an empty queue is one cycle of the source in use while the timebase counts, which is the model's choice
(notes/assumptions/3.md). -/
def Obligations.TimebaseSources : Prop :=
  (∀ (s : State), s.powered = true → s.tb.srcAct = .crystal →
    ∃ t, exec (.tbSourceStop .crystal) s = .next t ∧
      t.tb = { s.tb with
        crystalUp := false, srcAct := if s.tb.refclkUp then .refclk else .ring, srcFail := true } ∧
      t.evr = (s.log 0x7020 0xFF (if s.tb.refclkUp then [0, 1] else [0, 2])).evr ∧
      Changes [.tb, .evr] s t) ∧
  (∀ (s : State), s.powered = true → s.tb.srcAct = .refclk →
    ∃ t, exec (.tbSourceStop .refclk) s = .next t ∧
      t.tb = { s.tb with
        refclkUp := false, srcAct := if s.tb.crystalUp then .crystal else .ring, srcFail := true } ∧
      t.evr = (s.log 0x7020 0xFF (if s.tb.crystalUp then [1, 0] else [1, 2])).evr ∧
      Changes [.tb, .evr] s t) ∧
  (∀ (src : TbSource) (s : State), s.powered = true → src ≠ s.tb.srcAct →
    ∃ t, exec (.tbSourceStop src) s = .next t ∧ t.tb.srcAct = s.tb.srcAct ∧ t.tb.srcFail = s.tb.srcFail ∧
      t.tb.count = s.tb.count ∧ (src = .crystal → t.tb.crystalUp = false) ∧ (src = .refclk → t.tb.refclkUp = false) ∧
      Changes [.tb] s t) ∧
  (∀ (s : State), s.powered = true → s.tb.crystalUp = true → ∀ sel, sel ≠ (1 : BitVec 2) →
    exec (.tbSourceSelect sel) s = .next { s with tb := { s.tb with srcSel := sel, srcAct := .crystal } }) ∧
  (∀ (s : State), s.powered = true → s.tb.refclkUp = true →
    exec (.tbSourceSelect 1) s = .next { s with tb := { s.tb with srcSel := 1, srcAct := .refclk } }) ∧
  (∀ (i : Initiator) (s : State), s.powered = true → (∃ c, i = .core c) ∨ i = .debug ∧ s.sec.debugUnlocked = true →
    ∃ t, exec (.tbLoRead i) s = .next t ∧
      t.out = s.out ++ [Output.readVal i (s.tb.count.toNat % 2 ^ 32)] ∧
      (i, s.tb.count.extractLsb' 32 32) ∈ t.tb.latch ∧
      (∀ j v, j ≠ i → ((j, v) ∈ t.tb.latch ↔ (j, v) ∈ s.tb.latch)) ∧
      t.tb.count = s.tb.count ∧ t.tb.srcAct = s.tb.srcAct ∧ Changes [.tb, .out] s t) ∧
  (∀ (p : Fin 2) (s : State), s.powered = true → s.linkUp p = true → s.barRefusal p 4 = none → s.ports[p].shows 6 = true →
    ∃ t, exec (.tbLoRead (.host p)) s = .next t ∧
      t.out = s.out ++ [Output.readVal (.host p) (s.tb.count.toNat % 2 ^ 32)] ∧
      (.host p, s.tb.count.extractLsb' 32 32) ∈ t.tb.latch ∧ t.tb.count = s.tb.count ∧ Changes [.tb, .out] s t) ∧
  (∀ (i : Initiator) (s : State), s.powered = true →
    i = .bmc ∨ (∃ ch, i = .sdma ch) ∨ i = .debug ∧ s.sec.debugUnlocked = false →
    exec (.tbLoRead i) s = .next (s.emit (.accessError i))) ∧
  (∀ (s : State), s.pending = [] →
    (s.phase.counts = true → ∃ t, step s = .next t ∧
      t.tb = { s.tb with count := s.tb.count + BitVec.ofNat 64 (if s.tb.srcAct = .refclk then 1 else 4) } ∧
      Changes [.tb, .evr, .cmq, .land, .media, .plp, .ports, .out, .free] s t ∧ (s.live = false → Changes [.tb] s t)) ∧
    (s.phase.counts = false → step s = .next s)) ∧
  (Phase.counts .deepRest = false ∧ Phase.counts .off = false ∧ Phase.counts .running = true ∧ Phase.counts .flushing = true)

/-- R27, R50, R52, R53, R300: heartbeats, the first declaration and the restart, and a second declaration within 10 s of the first
heartbeat after it, which takes a slice core out of service; an uncorrectable ECC error declares a core as a missed heartbeat does.
A lockstep mismatch is a failure of the security pair as a whole: every key is erased and every port in use is contained. -/
def Obligations.CoresDeclared : Prop :=
  ((∀ (c : Fin 32) (s : State), s.live = true → s.units.cores[c].failed = false → s.units.cores[c].trying = none →
     exec (.coreHeartbeat c) s = .next { s with units := { s.units with cores := s.units.cores.upd c (fun k =>
       { k with alive := true, restart := if k.restart = .restarting then .restartedAt s.tb.count.toNat else k.restart }) } }) ∧
   (∀ (c : Fin 32) (s : State), s.live = true → c.val < 30 → s.units.cores[c].failed = false → s.units.cores[c].trying = none →
     s.units.cores[c].restart = .none →
     exec (.heartbeatMissed c) s = .next { s with units := { s.units with cores := s.units.cores.upd c (fun k =>
       { k with alive := false, restart := .restarting }) } }) ∧
   (∀ (c : Fin 32) (s : State), exec (.coreEccError c) s = exec (.heartbeatMissed c) s) ∧
   (∀ (c : Fin 32) (t0 : Nat) (s : State), s.live = true → c.val < 24 → s.units.cores[c].failed = false →
     s.units.cores[c].trying = none → s.units.cores[c].restart = .restartedAt t0 →
     s.tb.count.toNat ≤ t0 + 10 * 10 ^ 8 →
     s.units.cores[roleCore (partner (Fin.ofNat 8 (c.val / 3))) (c.val % 3)].failed = false →
     ∃ t, exec (.heartbeatMissed c) s = .next t ∧
       t.units.cores[c].failed = true ∧ t.units.cores[c].alive = false ∧
       (∀ d : Fin 32, d ≠ c → t.units.cores[d] = s.units.cores[d]) ∧
       t.evr = (s.log 0x3410 (c.val / 3) [BitVec.ofNat 8 c.val, BitVec.ofNat 8 (c.val % 3),
         BitVec.ofNat 8 (roleCore (partner (Fin.ofNat 8 (c.val / 3))) (c.val % 3)).val]).evr ∧
       Changes [.units, .evr] s t)) ∧
  (∀ (s : State), s.live = true → s.units.pair = false →
     ∃ t, exec .lockstepMismatch s = .next t ∧
       t.units.pair = true ∧ t.sec.pairFail = true ∧ t.sec.keysHeld = false ∧ t.sec.kpio = [] ∧ t.sec.sessions = [] ∧
       (∀ pg : Fin 16, t.vault.pages[pg].slots = Vector.replicate 4 {} ∧ t.vault.pages[pg].busy = false) ∧
       (∀ p ∈ s.portList, t.ports[p].cnt.active = true) ∧ Changes (touches .lockstepMismatch) s t)

/-- R52: units of a slice that fail a self-check, and the partner that carries their work; with the partner's unit out too the
controllers report fatal status. -/
def Obligations.SliceUnitsFail : Prop :=
  (∀ (sl idx : Fin 8) (s : State), s.live = true → s.units.hard[sl].getLsbD idx.val = false →
    s.units.hard[sl] ||| (1 <<< idx.val) ≠ 0xFF →
    exec (.decoderSelfCheckFail sl false idx) s = .next (({ s with
      units := { s.units with
        hard := s.units.hard.upd sl (fun x => x ||| (1 <<< idx.val))
        outages := s.units.outages ++ [(0x3420, idx.val, BitVec.ofNat 8 sl.val)] }
      media := { s.media with rdc := s.media.rdc.upd sl (fun r => { r with decErr := true }) } }).log 0x3420 sl.val [BitVec.ofNat 8 idx.val])) ∧
  (∀ (sl : Fin 8) (s : State), s.live = true → s.units.comp[sl] = false → s.units.comp[partner sl] = false →
    exec (.compressionUnitFail sl) s = .next (({ s with
      units := { s.units with
        comp := s.units.comp.upd sl (fun _ => true)
        outages := s.units.outages ++ [(0x3430, 0, BitVec.ofNat 8 sl.val)] }
      media := { s.media with wrp := s.media.wrp.upd sl (fun w => { w with compEn := false }) } }).log 0x3430 sl.val)) ∧
  (∀ (sl : Fin 8) (s : State), s.live = true → s.units.comp[sl] = false → s.units.comp[partner sl] = true →
    ∃ t, exec (.compressionUnitFail sl) s = .next t ∧ t.units.comp[sl] = true ∧ t.media.wrp[sl].compEn = false ∧
      (∀ p ∈ s.portList, (t.ctrl p).cfs = true)) ∧
  (∀ (sl : Fin 8) (s : State), s.live = true → s.units.lane[sl] = false → s.units.lane[partner sl] = false →
    exec (.cipherLaneCheckFail sl) s = .next (({ s with
      units := { s.units with
        lane := s.units.lane.upd sl (fun _ => true)
        outages := s.units.outages ++ [(0x5430, 0, BitVec.ofNat 8 sl.val)] } }).log 0x5430 sl.val)) ∧
  (∀ (sl : Fin 8) (s : State), s.live = true → s.units.lane[sl] = false → s.units.lane[partner sl] = true →
    ∃ t, exec (.cipherLaneCheckFail sl) s = .next t ∧ t.units.lane[sl] = true ∧ ∀ p ∈ s.portList, (t.ctrl p).cfs = true) ∧
  (∀ (sl : Fin 8) (s : State), s.live = true → s.units.acc[sl] = false →
    ∃ t, exec (.accumulatorSelfCheckFail sl) s = .next t ∧ t.units.acc = s.units.acc.upd sl (fun _ => true) ∧
      t.media.wrp[sl].accErr = true ∧ (t.units.accAll = true → t.readOnly = true) ∧
      t.units.outages = s.units.outages ++ [((if t.units.accAll then 0x3441 else 0x3440), 0, BitVec.ofNat 8 (if t.units.accAll then 0xFF else sl.val))])

/-- R259, R279, R302: a tail doorbell moves the tail of its queue; while the function is contained it is latched and counted.
A head doorbell frees the entries up to it. -/
def Obligations.Doorbells : Prop :=
  (∀ (p : Fin 2) (qid tail : Nat) (q : Sq) (s : State), s.live = true → s.asleep = false → (s.ctrl p).en = true →
    s.ports[p].cnt.active = false → s.pws.entry = none → s.pws.ps ≠ 3 → (s.ctrl p).sqs.get? qid = some q →
    exec (.sqDoorbell p qid tail) s = .next (if tail < q.size then
      s.setCtrl p (fun k => { k with sqs := k.sqs.put qid { q with tail := tail } }) else s)) ∧
  (∀ (p : Fin 2) (qid tail : Nat) (s : State), s.live = true → s.asleep = false → (s.ctrl p).en = true →
    s.ports[p].cnt.active = true →
    ∃ t, exec (.sqDoorbell p qid tail) s = .next t ∧ (t.ctrl p).dbLatch.get? (2 * qid) = some tail ∧
      (t.ctrl p).sqs = (s.ctrl p).sqs ∧ t.ports[p].cnt.dbLatched = satInc s.ports[p].cnt.dbLatched ∧
      t.cmq.fseq = s.cmq.fseq ∧ Changes [.cmq, .ports] s t) ∧
  (∀ (p : Fin 2) (qid head d : Nat) (q : Cq) (s : State), s.live = true → s.asleep = false → (s.ctrl p).en = true →
    s.ports[p].cnt.active = false → (s.ctrl p).cqs.get? qid = some q → q.held = [] → d ≤ q.used → head < q.size →
    q.head < q.size → q.used < q.size → (q.head + d) % q.size = head →
    exec (.cqHeadDoorbell p qid head) s = .next
      (s.setCtrl p (fun k => { k with cqs := k.cqs.put qid { q with head := head, used := q.used - d } })))

/-- R258, R259, R267, R268: a fetched command gets the next FSEQ and its place in the command table, the head of its queue
moves past it, and its locks join the lock table; R270: with fewer than 256 free lock entries fetching stops. -/
def Obligations.CommandFetched : Prop :=
  (∀ (p : Fin 2) (cid : Nat) (cmd : HostCmd) (q : Nat) (sq : Sq) (cr : Nat × Nat × Nat) (s : State), s.live = true →
    s.fetches p = true → s.cmq.stalled = false → s.cmq.paused = false → isAdminCmd cmd = false →
    (s.cmq.cmds.filter (fun e => e.2.port = p)).length < 16384 →
    (s.ctrl p).ready.contains 0 = false → (s.ctrl p).pickIo = some (q, cr) → (s.ctrl p).sqs.get? q = some sq →
    s.resvConflict p cmd = false →
    ∃ t c, exec (.commandFetch p cid cmd) s = .next t ∧ t.cmq.fseq = s.cmq.fseq + 1 ∧
      t.cmq.cmds.get? (s.cmq.fseq + 1) = some c ∧ c.port = p ∧ c.sqid = q ∧ c.cid = cid ∧ c.cmd = cmd ∧
      (c.phase = .ready ↔ ∀ l ∈ t.cmq.locks, l.fseq = s.cmq.fseq + 1 → l.granted = true) ∧
      ((t.ctrl p).sqs.get? q).map (·.head) = some ((sq.head + 1) % sq.size) ∧
      t.cmq.locks.length = s.cmq.locks.length + (s.locksOf p (s.cmq.fseq + 1) cmd).length ∧
      t.locksOk ∧ (t.cmq.stalled = true ↔ 8192 - t.cmq.locks.length < 256) ∧
      t.cmq.stallTotal = (if t.cmq.stalled then s.cmq.stallTotal + 1 else s.cmq.stallTotal) ∧ Changes [.cmq, .pws] s t) ∧
  (∀ (p : Fin 2) (cid : Nat) (cmd : HostCmd) (s : State), s.live = true → s.cmq.stalled = true →
    ∃ t, exec (.commandFetch p cid cmd) s = .next t ∧ t.cmq = s.cmq ∧ Changes [.pws] s t) ∧
  (∀ (q : Cmq), q.stall.locks = q.locks ∧ (q.stall.stalled = true ↔ 8192 - q.locks.length < 256))

/-- R257: I/O queues are created and deleted. -/
def Obligations.QueuesCreatedAndDeleted : Prop :=
  (∀ (fseq qid size vector : Nat) (contig inCmb : Bool) (c : Cmd) (s : State), s.AdminReady fseq 0x05 c →
    ∃ t st, exec (.createIoCq fseq qid size vector contig inCmb) s = .next t ∧ State.Completed s.out s t fseq c st 0 ∧
      (st = .success ↔ 1 ≤ qid ∧ qid ≤ (s.ctrl c.port).feat.ncq ∧ (s.ctrl c.port).cqs.has qid = false ∧
        2 ≤ size ∧ size ≤ 65536 ∧ vector < 2048 ∧ contig = true ∧ inCmb = false) ∧
      (st = .success → (t.ctrl c.port).cqs.get? qid = some { size := size, vector := vector }) ∧
      (t.ctrl c.port).sqs = (s.ctrl c.port).sqs) ∧
  (∀ (fseq qid size cqid : Nat) (prio : Fin 4) (contig inCmb : Bool) (c : Cmd) (s : State), s.AdminReady fseq 0x01 c →
    ∃ t st, exec (.createIoSq fseq qid size cqid prio contig inCmb) s = .next t ∧ State.Completed s.out s t fseq c st 0 ∧
      (st = .success ↔ 1 ≤ qid ∧ qid ≤ (s.ctrl c.port).feat.nsq ∧ (s.ctrl c.port).sqs.has qid = false ∧
        1 ≤ cqid ∧ (s.ctrl c.port).cqs.has cqid = true ∧ 2 ≤ size ∧ size ≤ 65536 ∧ contig = true ∧
        (inCmb = true → size * 64 ≤ s.land.cmb[c.port].sqMib * 1048576)) ∧
      (t.ctrl c.port).sqs = (if st = .success then
        (s.ctrl c.port).sqs.put qid { size := size, cqid := cqid, prio := prio, inCmb := inCmb } else (s.ctrl c.port).sqs)) ∧
  (∀ (fseq qid : Nat) (c : Cmd) (s : State), s.AdminReady fseq 0x04 c → s.cqOf c ≠ qid →
    ∃ t st, exec (.deleteIoCq fseq qid) s = .next t ∧ State.Completed s.out s t fseq c st 0 ∧
      (st = .success ↔ 1 ≤ qid ∧ (s.ctrl c.port).cqs.has qid = true ∧ ∀ e ∈ (s.ctrl c.port).sqs, e.2.cqid ≠ qid) ∧
      (st = .success → (t.ctrl c.port).cqs.get? qid = none) ∧ (t.ctrl c.port).sqs = (s.ctrl c.port).sqs) ∧
  (∀ (fseq qid : Nat) (c : Cmd) (s : State), s.AdminReady fseq 0x00 c → 1 ≤ qid → (s.ctrl c.port).sqs.has qid = true →
    (∀ e ∈ s.cmq.cmds, e.2.port = c.port → e.2.sqid ≠ qid) →
    ∃ t, exec (.deleteIoSq fseq qid) s = .next t ∧ (t.ctrl c.port).sqs = (s.ctrl c.port).sqs.del qid ∧
      State.Completed s.out s t fseq c .success 0)

/-- R137, R253, R257, R258, R273, R424, R456, R468: Set Features stores the values of a feature for the controller that sent it, saves
them where asked, completes, and leaves the other controller; a value outside what the manual allows fails the command. -/
def Obligations.FeaturesSet : Prop :=
  (∀ (fseq : Nat) (c : Cmd) (s : State), s.AdminReady fseq 0x09 c →
     (∀ (burst : Fin 8) (low med high : Byte) (save : Bool),
       ∃ t, exec (.setArbitration fseq burst low med high save) s = .next t ∧ State.Completed s.out s t fseq c .success 0 ∧
         (t.ctrl c.port).feat = { (s.ctrl c.port).feat with burst := burst, wLow := low, wMed := med, wHigh := high } ∧
         (t.ctrl c.port).featSaved = (if save then
           { (s.ctrl c.port).featSaved with burst := burst, wLow := low, wMed := med, wHigh := high } else (s.ctrl c.port).featSaved) ∧
         ∀ q, q ≠ c.port → t.ctrl q = s.ctrl q) ∧
     (∀ (wce save : Bool),
       ∃ t, exec (.setVolatileWriteCache fseq wce save) s = .next t ∧ State.Completed s.out s t fseq c .success 0 ∧
         (t.ctrl c.port).feat = { (s.ctrl c.port).feat with wce := wce } ∧
         (t.ctrl c.port).featSaved = (if save then { (s.ctrl c.port).featSaved with wce := wce } else (s.ctrl c.port).featSaved) ∧
         ∀ q, q ≠ c.port → t.ctrl q = s.ctrl q) ∧
     (∀ (tler : BitVec 16) (dulbe : Bool),
       ∃ t, exec (.setErrorRecovery fseq tler dulbe) s = .next t ∧ State.Completed s.out s t fseq c .success 0 ∧
         (t.ctrl c.port).feat = { (s.ctrl c.port).feat with tler := tler, dulbe := dulbe } ∧ ∀ q, q ≠ c.port → t.ctrl q = s.ctrl q) ∧
     (∀ (threshold time : Byte),
       ∃ t, exec (.setInterruptCoalescing fseq threshold time) s = .next t ∧ State.Completed s.out s t fseq c .success 0 ∧
         (t.ctrl c.port).feat = { (s.ctrl c.port).feat with icThr := threshold, icTime := time } ∧
         ∀ q, q ≠ c.port → t.ctrl q = s.ctrl q) ∧
     (∀ (mask : BitVec 32),
       ∃ t, exec (.setAsyncEventConfig fseq mask) s = .next t ∧ State.Completed s.out s t fseq c .success 0 ∧
         (t.ctrl c.port).feat = { (s.ctrl c.port).feat with aerMask := mask } ∧ ∀ q, q ≠ c.port → t.ctrl q = s.ctrl q) ∧
     (∀ (id : BitVec 128),
       ∃ t, exec (.setHostIdentifier fseq id) s = .next t ∧ State.Completed s.out s t fseq c .success 0 ∧
         (t.ctrl c.port).feat = { (s.ctrl c.port).feat with hostId := id } ∧ ∀ q, q ≠ c.port → t.ctrl q = s.ctrl q) ∧
     (∀ (sensor : Fin 16) (under : Bool) (kelvin : BitVec 16), sensor.val ≤ 12 →
       ∃ t, exec (.setTemperatureThreshold fseq sensor under kelvin) s = .next t ∧ State.Completed s.out s t fseq c .success 0 ∧
         (sensor.val, under, kelvin) ∈ (t.ctrl c.port).feat.tempThr ∧
         (∀ x, (x.1 ≠ sensor.val ∨ x.2.1 ≠ under) →
           (x ∈ (t.ctrl c.port).feat.tempThr ↔ x ∈ (s.ctrl c.port).feat.tempThr)) ∧ ∀ q, q ≠ c.port → t.ctrl q = s.ctrl q)) ∧
  (∀ (fseq : Nat) (c : Cmd) (s : State), s.AdminReady fseq 0x09 c →
     (∀ level, ∃ t, exec (.setReadRecoveryLevel fseq level) s = .next t ∧
       (level ≤ 5 ∨ level = 15 → State.Completed s.out s t fseq c .success 0 ∧ (t.ctrl c.port).feat.rrl = level) ∧
       (5 < level → level ≠ 15 → State.Completed s.out s t fseq c .invalidField 0 ∧ (t.ctrl c.port).feat = (s.ctrl c.port).feat)) ∧
     (∀ tmt1 tmt2, ∃ t, exec (.setHctm fseq tmt1 tmt2) s = .next t ∧
       (333 ≤ tmt1 → tmt1 < tmt2 → tmt2 ≤ 373 → State.Completed s.out s t fseq c .success 0 ∧
         (t.ctrl c.port).feat = { (s.ctrl c.port).feat with tmt1 := tmt1, tmt2 := tmt2 }) ∧
       (333 ≤ tmt2 → tmt2 ≤ tmt1 → tmt1 ≤ 373 → State.Completed s.out s t fseq c .invalidField 0 ∧
         (t.ctrl c.port).feat = (s.ctrl c.port).feat)) ∧
     (∀ vector disable, ∃ t, exec (.setInterruptVectorConfig fseq vector disable) s = .next t ∧
       (vector < 2048 → State.Completed s.out s t fseq c .success 0 ∧ (vector ∈ (t.ctrl c.port).feat.ivDisabled ↔ disable = true) ∧
         ∀ v, v ≠ vector → (v ∈ (t.ctrl c.port).feat.ivDisabled ↔ v ∈ (s.ctrl c.port).feat.ivDisabled)) ∧
       (2048 ≤ vector → State.Completed s.out s t fseq c .invalidField 0 ∧ (t.ctrl c.port).feat = (s.ctrl c.port).feat)) ∧
     (∀ enable table, ∃ t, exec (.setApst fseq enable table) s = .next t ∧
       ((enable = true → s.param 0x7000 3 ≠ 1) → table.length ≤ 32 → (∀ e ∈ table, e.1 = 3 ∨ e.1 = 4) →
         State.Completed s.out s t fseq c .success 0 ∧
         (t.ctrl c.port).feat = { (s.ctrl c.port).feat with apste := enable, apst := some table }) ∧
       (enable = true → s.param 0x7000 3 = 1 → State.Completed s.out s t fseq c .invalidField 0 ∧
         (t.ctrl c.port).feat = (s.ctrl c.port).feat)) ∧
     (∀ nsq ncq, (∀ e ∈ (s.ctrl c.port).sqs, e.1 = 0) → (∀ e ∈ (s.ctrl c.port).cqs, e.1 = 0) → nsq < 0xFFFF → ncq < 0xFFFF →
       ∃ t, exec (.setNumberOfQueues fseq nsq ncq) s = .next t ∧
         State.Completed s.out s t fseq c .success (min nsq 4095 + min ncq 4095 * 2 ^ 16) ∧
         (t.ctrl c.port).feat = { (s.ctrl c.port).feat with nsq := min (nsq + 1) 4096, ncq := min (ncq + 1) 4096 }) ∧
     (∀ ms, ∃ t, exec (.setTimestamp fseq ms) s = .next t ∧ State.Completed s.out s t fseq c .success 0 ∧
       t.clocks.hostTs s.tb.count = some ms ∧ t.clocks.tsP = some (ms, s.clocks.opsec.toNat) ∧ t.clocks.opsec = s.clocks.opsec) ∧
     (∀ enable, ∃ t, exec (.setFdp fseq enable) s = .next t ∧
       (s.media.namespaces = [] → State.Completed s.out s t fseq c .success 0 ∧ t.media = { s.media with fdp := enable }) ∧
       (s.media.namespaces ≠ [] → State.Completed s.out s t fseq c .cmdSeqError 0 ∧ t.media.fdp = s.media.fdp)) ∧
     (∀ nsid ptpl i n, s.nsOf c.port nsid = some (i, n) →
       ∃ t, exec (.setReservationPersistence fseq nsid ptpl) s = .next t ∧ State.Completed s.out s t fseq c .success 0 ∧
         t.media.namespaces.get? i = some { n with resv := { n.resv with ptpl := ptpl } } ∧
         ∀ j, j ≠ i → t.media.namespaces.get? j = s.media.namespaces.get? j))

/-- R253, R280, R450, R457: a power state is taken, an asynchronous event request stays outstanding, a command is aborted or
not, a self-test and the directives. -/
def Obligations.OtherAdminCommands : Prop :=
  (∀ (fseq ps : Nat) (c : Cmd) (s : State), s.AdminReady fseq 0x09 c → ps < 3 →
    ∃ t, exec (.setPowerManagement fseq ps) s = .next t ∧ (t.ctrl c.port).ps = ps ∧ (t.ctrl c.port).psOper = ps ∧
      t.cmq.cmds.get? fseq = none ∧
      ∃ vec, [Output.cqe c.port (s.cqOf c) c.sqid c.cid .success 0, Output.msix c.port vec] <+: t.out.drop s.out.length) ∧
  (∀ (fseq : Nat) (c : Cmd) (s : State), s.AdminReady fseq 0x0C c →
    ∃ t, exec (.asyncEventRequest fseq) s = .next t ∧
      ((s.ctrl c.port).aers.length < 8 → t = (s.setCtrl c.port (fun k => { k with aers := k.aers ++ [fseq] })).setCmd fseq
        (fun d => { d with phase := .outstanding })) ∧
      (8 ≤ (s.ctrl c.port).aers.length → State.Completed s.out s t fseq c .aerLimit 0)) ∧
  (∀ (fseq sqid cid : Nat) (c : Cmd) (s : State), s.AdminReady fseq 0x08 c →
    (∀ e ∈ s.cmq.cmds, e.1 ≠ fseq → e.2.port = c.port → e.2.sqid = sqid → e.2.cid ≠ cid) →
    ∃ t, exec (.abort fseq sqid cid) s = .next t ∧ t.cmq.cmds.get? fseq = none ∧
      ∃ vec, [Output.cqe c.port (s.cqOf c) c.sqid c.cid .success 1, Output.msix c.port vec] <+: t.out.drop s.out.length) ∧
  (∀ (fseq sqid cid : Nat) (c : Cmd) (e : Nat × Cmd) (s : State), s.AdminReady fseq 0x08 c →
    s.cmq.cmds.find? (fun e => decide (e.2.port = c.port) && decide (e.2.sqid = sqid) && decide (e.2.cid = cid) &&
      decide (e.1 ≠ fseq)) = some e → e.2.phase = .waitLocks →
    ∃ t, exec (.abort fseq sqid cid) s = .next t ∧ t.cmq.cmds.get? fseq = none ∧ t.cmq.cmds.get? e.1 = none) ∧
  (∀ (fseq code : Nat) (c : Cmd) (s : State), s.AdminReady fseq 0x14 c → code = 1 ∨ code = 2 →
    ∃ t, exec (.deviceSelfTest fseq code) s = .next t ∧ State.Completed s.out s t fseq c .success 0 ∧
      (t.ctrl c.port).selfTestLast = code * 16 + (if Config.selfTestPasses s.free then 0 else 5)) ∧
  (∀ (fseq nsid dtype : Nat) (enable : Bool) (c : Cmd) (s : State), s.AdminReady fseq 0x19 c →
    dtype = 0 ∨ dtype = 2 → (s.nsOf c.port nsid).isSome →
    ∃ t, exec (.directiveSend fseq nsid dtype enable) s = .next t ∧ State.Completed s.out s t fseq c .success 0 ∧
      (t.ctrl c.port).directive.contains (nsid * 4 + dtype, enable) = true) ∧
  (∀ (fseq nsid dtype : Nat) (c : Cmd) (s : State), s.AdminReady fseq 0x1A c →
    dtype = 0 ∨ dtype = 2 → (s.nsOf c.port nsid).isSome →
    ∃ t v, exec (.directiveReceive fseq nsid dtype) s = .next t ∧
      State.Completed (s.out ++ [Output.reply fseq 0x1A0000 [5, v]]) s t fseq c .success 0 ∧
      (v = 1 ↔ (nsid * 4 + dtype, true) ∈ (s.ctrl c.port).directive) ∧ v ≤ 1) ∧
  (∀ (fseq : Nat) (opc : Byte) (sc : AdminScope) (c : Cmd) (s : State), s.Flying fseq c .ready → c.cmd = .admin opc sc →
    opc.toNat ∉ adminOpcodes →
    ∃ t, exec (.invalidAdminOpcode fseq) s = .next t ∧ State.Completed s.out s t fseq c .invalidOpcode 0)

/-- R253, R255: what the informational admin commands return, and that they change no feature. -/
def Obligations.InformationReturned : Prop :=
  (∀ (fseq lid nsid : Nat) (c : Cmd) (s : State), s.AdminReady fseq 0x02 c →
    ∃ t, exec (.getLogPage fseq lid nsid) s = .next t ∧
      (∀ v, s.logPage c.port lid = some v →
        State.Completed (s.out ++ [Output.reply fseq (0x20000 + lid) v]) s t fseq c .success 0) ∧
      (s.logPage c.port lid = none → State.Completed s.out s t fseq c .invalidLogPage 0) ∧
      (lid = 4 → (t.ctrl c.port).changedNs = []) ∧ (t.ctrl c.port).feat = (s.ctrl c.port).feat) ∧
  (∀ (fseq : Nat) (c : Cmd) (s : State), s.AdminReady fseq 0x02 c →
    ∃ t, exec (.getLogPage fseq 0x02 0) s = .next t ∧
      State.Completed (s.out ++ [Output.reply fseq 0x20002
        [s.criticalWarning, s.compositeK, s.availSpare, s.spareThreshold, s.media.percentUsed, s.clocks.pcc.toNat]]) s t fseq c .success 0) ∧
  (∀ (fseq nsid : Nat) (c : Cmd) (s : State), s.AdminReady fseq 0x06 c →
    ∃ t, exec (.identify fseq 0x01 nsid) s = .next t ∧
      State.Completed (s.out ++ [Output.reply fseq 0x60001 s.idCtrl]) s t fseq c .success 0 ∧
      s.idCtrl.take 7 = [0xFFFF, 1, 1, 14, 9, 256, 3]) ∧
  (∀ (fseq nsid i : Nat) (n : Namespace) (c : Cmd) (s : State), s.AdminReady fseq 0x06 c → nsid ≤ 256 →
    s.nsOf c.port nsid = some (i, n) →
    ∃ t, exec (.identify fseq 0x00 nsid) s = .next t ∧
      State.Completed (s.out ++ [Output.reply fseq 0x60000 (s.idNs n)]) s t fseq c .success 0) ∧
  (∀ (fseq : Nat) (c : Cmd) (s : State), s.AdminReady fseq 0x0A c →
    (∀ (v : List Nat) (fid : Nat), s.featVal c.port (s.ctrl c.port).feat fid 0 = some v →
      ∃ t, exec (.getFeatures fseq fid 0) s = .next t ∧
        State.Completed (s.out ++ [Output.reply fseq (0xA0000 + fid) v]) s t fseq c .success (v.headD 0)) ∧
    (∃ t, exec (.getFeatures fseq 0x06 0) s = .next t ∧
      State.Completed (s.out ++ [Output.reply fseq 0xA0006 [bit (s.ctrl c.port).feat.wce]]) s t fseq c .success (bit (s.ctrl c.port).feat.wce)) ∧
    (∃ t, exec (.getFeatures fseq 0x06 3) s = .next t ∧ State.Completed s.out s t fseq c .success 5))

/-- R98, R99, R183, R253, R377, R501: namespaces are created, deleted and attached; Format NVM keeps a namespace and Sanitize
replaces every media key. -/
def Obligations.NamespacesManaged : Prop :=
  (∀ (fseq i nlbas : Nat) (lba512 zoned expanded : Bool) (n : Namespace) (c : Cmd) (s : State), s.AdminReady fseq 0x0D c →
    s.media.freeNs = some i → s.planNs i nlbas lba512 zoned expanded = .ok n →
    ∃ t, exec (.namespaceManagement fseq (.create nlbas lba512 zoned expanded)) s = .next t ∧
      State.Completed s.out s t fseq c .success (i + 1) ∧ t.media.namespaces.get? i = some n ∧ n.nlbas = nlbas ∧ n.attached = [] ∧
      ∀ j, j ≠ i → t.media.namespaces.get? j = s.media.namespaces.get? j) ∧
  (∀ (fseq i nlbas : Nat) (lba512 : Bool) (c : Cmd) (s : State), s.AdminReady fseq 0x0D c → s.media.freeNs = some i → 1 ≤ nlbas →
    s.param 0x7001 i = 0 → s.media.guaranteed < s.media.plainBytes + nlbas * (if lba512 then 512 else 4096) →
    ∃ t, exec (.namespaceManagement fseq (.create nlbas lba512 false false)) s = .next t ∧
      State.Completed s.out s t fseq c .nsInsufficientCapacity 0 ∧ t.media.namespaces = s.media.namespaces) ∧
  (∀ (fseq nsid : Nat) (c : Cmd) (s : State), s.AdminReady fseq 0x0D c → 1 ≤ nsid → nsid < 0xFFFFFFFF →
    s.media.namespaces.has (nsid - 1) = true →
    ∃ t, exec (.namespaceManagement fseq (.delete nsid)) s = .next t ∧ t.media.namespaces.has (nsid - 1) = false ∧
      t.cmq.cmds.get? fseq = none ∧ ∀ x ∈ atCreation, t.dict.vals.get? (x * 256 + (nsid - 1)) = none) ∧
  (∀ (fseq nsid : Nat) (p : Fin 2) (n : Namespace) (c : Cmd) (s : State), s.AdminReady fseq 0x15 c → 1 ≤ nsid →
    s.media.namespaces.get? (nsid - 1) = some n → p ∈ s.portList → (s.ctrl p).aers = [] →
    ∃ t, exec (.namespaceAttachment fseq true nsid [p]) s = .next t ∧
      (n.attached.contains p = false → State.Completed s.out s t fseq c .success 0 ∧
        t.media.namespaces.get? (nsid - 1) = some { n with attached := n.attached ++ [p] } ∧ nsid ∈ (t.ctrl p).changedNs) ∧
      (n.attached.contains p = true → State.Completed s.out s t fseq c .nsAlreadyAttached 0)) ∧
  (∀ (fseq nsid ses : Nat) (lba512 : Bool) (n : Namespace) (c : Cmd) (s : State), s.AdminReady fseq 0x80 c → ses ≤ 2 →
    1 ≤ nsid → nsid < 0xFFFFFFFF → s.media.namespaces.get? (nsid - 1) = some n → s.nsLocked (nsid - 1) n = false →
    s.sec.entropyBad = false →
    ∃ t m, exec (.formatNvm fseq nsid ses lba512) s = .next t ∧ t.media.namespaces.get? (nsid - 1) = some m ∧
      m.lba512 = lba512 ∧ t.media.protected_ = false ∧ t.cmq.cmds.get? fseq = none) ∧
  (∀ (fseq action : Nat) (c : Cmd) (s : State), s.AdminReady fseq 0x84 c → action = 2 ∨ action = 4 → s.sec.entropyBad = false →
    ∃ t, exec (.sanitize fseq action) s = .next t ∧ (∀ k : Fin 64, s.sec.nextGen ≤ t.sec.keyGen[k] ∧ t.sec.keyGen[k] < t.sec.nextGen) ∧
      (∀ j k : Fin 64, j ≠ k → t.sec.keyGen[j] ≠ t.sec.keyGen[k]) ∧ t.cmq.sanitizeLast = 1 ∧ t.media.protected_ = false ∧
      t.cmq.cmds.get? fseq = none)

/-- R56 to R61: a write that meets every check takes one free line for each granule and acknowledges nothing, or waits; its data in
the lines issues a read-back on each DRAM channel that it wrote, or it waits while the limit would be passed; the completion is posted
once the last read-back has returned, and a read-back that fails fails the command. A write to a read-only device, or past its
namespace, fails. -/
def Obligations.WriteTakesLinesAndCompletes : Prop :=
  ((∀ (fseq : Nat) (c : Cmd) (d : Dest) (r : WriteReq) (ls : List Nat) (s : State), s.MayLand fseq c d → c.cmd = .write r →
     s.land.alloc d.granules.length = some ls →
     ∃ t c', exec (.write fseq) s = .next t ∧ t.cmq.cmds.get? fseq = some c' ∧ c'.phase = .filling ∧ c'.lines = ls ∧
       (∀ n ∈ ls, s.land.free n = true) ∧ ls.length = d.granules.length ∧
       (∀ n ∈ ls, ∃ l, t.land.lines.get? n = some l ∧ l.st = .filling ∧ l.ns = d.ns ∧ l.cmdSeq = fseq ∧ l.granule ∈ d.granules) ∧
       t.out = s.out ∧ t.cmq.locks = s.cmq.locks) ∧
   (∀ (fseq : Nat) (c : Cmd) (d : Dest) (r : WriteReq) (s : State), s.MayLand fseq c d → c.cmd = .write r →
     s.land.alloc d.granules.length = none →
     ∃ t c', exec (.write fseq) s = .next t ∧ t.cmq.cmds.get? fseq = some c' ∧ c'.phase = .waitLines ∧ c'.lines = c.lines ∧
       t.out = s.out ∧ t.land = s.land) ∧
   (∀ (fseq : Nat) (c : Cmd) (d : Dest) (r : WriteReq) (s : State), s.Flying fseq c .ready → c.cmd = .write r →
     s.destOf c = some d → rangeCheck d.n d.slba d.nlb true = none → s.readOnly = true →
     ∃ t, exec (.write fseq) s = .next t ∧ State.Completed s.out s t fseq c .nsWriteProtected 0) ∧
   (∀ (fseq : Nat) (c : Cmd) (d : Dest) (r : WriteReq) (s : State), s.Flying fseq c .ready → c.cmd = .write r →
     s.destOf c = some d → d.n.nlbas < d.slba + d.nlb →
     ∃ t, exec (.write fseq) s = .next t ∧ State.Completed s.out s t fseq c .lbaRange 0)) ∧
  ((∀ (fseq : Nat) (c : Cmd) (d : Dest) (data : List Sector) (s : State), s.live = true → s.cmq.cmds.get? fseq = some c →
     c.phase = .filling → c.wdata = [] → c.awaiting = [] → s.destOf c = some d → data.length = d.sectors → 1 ≤ d.sectors →
     ∃ t c', exec (.writeDataLanded fseq data) s = .next t ∧ t.cmq.cmds.get? fseq = some c' ∧ c'.wdata = data ∧ c'.lines = c.lines ∧
       (s.land.wt = true ∨ s.land.counted + s.land.toCount c.lines + s.committing ≤ s.land.limit → c'.phase = .landed ∧
         t.out = s.out ++ (d.readBacks c.lines).map (fun x => Output.readBack (Fin.ofNat 16 x.1) x.2)) ∧
       (s.land.wt = false → s.land.limit < s.land.counted + s.land.toCount c.lines + s.committing →
         c'.phase = .waitCommit ∧ t.out = s.out)) ∧
   (∀ (d : Dest) (ls : List Nat) (n g : Nat), (n, g) ∈ ls.zip d.granules → (d.readBacks ls).any (fun x => x.1 = n % 16) = true) ∧
   (∀ (fseq : Nat) (c : Cmd) (d : Dest) (s : State), s.Flying fseq c .landed → s.destOf c = some d → c.fua = false →
     s.land.wt = false → s.land.counted + s.land.toCount c.lines ≤ s.land.limit → c.slots = [] → s.cmq.cmds = [(fseq, c)] →
     (∀ g ∈ d.granules, (s.keyFor d.ns d.n (d.n.unitOf g) d.tag).isSome) → (∃ r, c.cmd = .write r) →
     ∃ t vec, exec (.readBackReturn fseq true) s = .next t ∧ t.cmq.cmds.get? fseq = none ∧
       [Output.cqe c.port (s.cqOf c) c.sqid c.cid .success 0, Output.msix c.port vec] <+: t.out.drop s.out.length) ∧
   (∀ (fseq : Nat) (c : Cmd) (d : Dest) (s : State), s.Flying fseq c .landed → s.destOf c = some d →
     c.fua = true ∨ s.land.wt = true → s.mayCommit c.lines 0 = true → s.cmq.cmds = [(fseq, c)] →
     (∀ g ∈ d.granules, (s.keyFor d.ns d.n (d.n.unitOf g) d.tag).isSome) → (∃ r, c.cmd = .write r) →
     ∃ t c', exec (.readBackReturn fseq true) s = .next t ∧ t.cmq.cmds.get? fseq = some c' ∧ c'.phase = .waitRows) ∧
   (∀ (fseq : Nat) (c : Cmd) (d : Dest) (s : State), s.Flying fseq c .landed → s.destOf c = some d →
     s.land.wt = false → s.land.limit < s.land.counted + s.land.toCount c.lines →
     (∀ g ∈ d.granules, (s.keyFor d.ns d.n (d.n.unitOf g) d.tag).isSome) →
     exec (.readBackReturn fseq true) s = .next (s.setCmd fseq (fun c => { c with phase := .waitCommit }))) ∧
   (∀ (fseq : Nat) (c : Cmd) (d : Dest) (g : Nat) (s : State), s.Flying fseq c .landed → s.destOf c = some d →
     g ∈ d.granules → s.keyFor d.ns d.n (d.n.unitOf g) d.tag = none →
     ∃ t, exec (.readBackReturn fseq true) s = .next t ∧ State.Completed s.out s t fseq c .accessDenied 0) ∧
   (∀ (fseq : Nat) (c : Cmd) (s : State), s.Flying fseq c .landed →
     ∃ t, exec (.readBackReturn fseq false) s = .next t ∧ State.Completed s.out s t fseq c .dataTransferError 0))

/-- R68, R70, R73, R80, R100: once its slice has compressed and encrypted the last line of the unit that was dispatched first, the
lines of the unit become records of their row, under the keys that the lines were bound to, and the rest of their reservation returns;
a unit of zeros becomes records of no length. -/
def Obligations.LinePackedIntoRow : Prop :=
  ∀ (line r : Nat) (frame : List Byte) (sl : Fin 8) (l : Line) (n : Namespace) (row : Row) (t : Stripe) (e0 : Nat × Line)
    (u : List (Nat × Line)) (us : List (List (Nat × Line))) (s s0 : State),
    s.live = true → s.land.lines.wf = true → s.land.lines.get? line = some l → l.st = .committed → l.row = some (r, sl) →
    s0 = { s.ungate sl.val 2 with land := { s.land with
      lines := s.land.lines.mod line (fun l => { l with frame := some frame }) } } →
    s0.sliceUnits r sl = (e0 :: u) :: us → (∀ e ∈ e0 :: u, e.2.frame.isSome) → s.media.namespaces.get? e0.2.ns = some n →
    s.media.rows.get? r = some row → s.media.stripes.get? row.stripe = some t →
    (s0.unitRecords sl n (e0 :: u)).2 = true ∨ (∃ cur ps,
      (row.cursors[sl]).placeRecs (s.media.slicePages t row.w sl).length ((s0.unitRecords sl n (e0 :: u)).1.map (·.1)) = some (cur, ps)) →
    ∃ s1 x, exec (.recordPacked line frame) s = .next
        ((((s1.kpioPacked ((e0 :: u).map (·.1))).packReady r sl us.length).closeIfDue r).dispatchAll) ∧
      s1.media.rows.get? r = some x ∧ row.recs <+: x.recs ∧ x.recs.length = row.recs.length + u.length + 1 ∧
      (∀ e ∈ e0 :: u, ∃ rec ∈ x.recs, rec.line = some e.1 ∧ rec.ns = e.2.ns ∧ rec.granule = e.2.granule ∧ rec.data = e.2.data ∧
        rec.keySlot = e.2.keySlot ∧ rec.keyGen = e.2.keyGen ∧ rec.dead = false ∧
        rec.raw = (s0.recordOf sl e.2 n (e.2.frame.getD [])).2 ∧
        rec.len = (if (s0.unitRecords sl n (e0 :: u)).2 then 0 else (s0.recordOf sl e.2 n (e.2.frame.getD [])).1) ∧
        s1.land.lines.get? e.1 = some { e.2 with st := .packed, frame := none, resv := rec.len }) ∧
      (∀ k, k ∉ (e0 :: u).map (·.1) → s1.land.lines.get? k = s0.land.lines.get? k) ∧
      Changes [.land, .media, .pws] s s1

/-- R93, R94, R95, R197, R243: once the close-wait has passed, a row closes in the cases of R94 and in no other; a member's program
that succeeds is counted; a programmed row that waits for nothing leaves, and its records stand on NAND and in the map; one that must
wait stays. -/
def Obligations.RowsCloseAndComplete : Prop :=
  (∀ (r : Nat) (row : Row) (t : Stripe) (s : State), s.live = true → s.media.rows.get? r = some row →
    s.media.stripes.get? row.stripe = some t → row.closed = false → s.inRow r = [] →
    row.closing = true ∨ row.closeNow = true ∨ s.land.wt = true ∨ s.quiescing = true ∨ s.media.rowIdle row = true →
    exec (.closeWaitExpire r) s = .next (((s.closeFull r).ensureFinal r).dispatchAll.copiesGo.systemGo) ∧
    ∃ x, (s.closeFull r).media.rows.get? r = some x ∧ x.closed = true ∧ x.recs = row.recs) ∧
  (∀ (r : Nat) (row : Row) (s : State), s.media.rows.get? r = some row → row.closing = false → row.closeNow = false →
    s.land.wt = false → s.quiescing = false → s.media.rowIdle row = false → exec (.closeWaitExpire r) s = .next s) ∧
  (∀ (r d pass b w : Nat) (member : Fin 32) (s : State), s.live = true → s.media.progDie r member = some (d, pass, b, w) →
    ∃ s1, exec (.programComplete r member) s = .next (((s1.dieIdle d).probesGo (chOf d)).settleReads) ∧
      s1.media.rows = s.media.rows.mod r (fun x => { x with passes := x.passes.upd member (fun n => max n (pass + 1)) }) ∧
      s1.media.map = s.media.map ∧ s1.media.nand = s.media.nand ∧ Output.nand d 6 0 0 ∈ s1.out ∧ Changes [.media, .out] s s1) ∧
  (∀ (r : Nat) (row : Row) (t : Stripe) (s : State), s.live = true → s.media.rows.wf = true → s.media.rows.get? r = some row →
    s.media.stripes.get? row.stripe = some t → s.media.rowProgrammed row t = true → s.rowReady r row = true →
    (∀ e ∈ s.media.rows, e.1 < r → e.2.due = true → s.rowReady e.1 e.2 = false) →
    ∃ s1, exec (.rowComplete r) s = .next
        (((((((((s1.releaseLines (row.recs.filterMap (fun x => if x.src.isNone ∧ !x.dead then x.line else none))).checkWear.setMedia
          Media.ckptGo).systemGo.setMedia Media.ckptGo).settleStripes).pickVictim).copiesGo).resumeAll).dispatchAll).rowsGo
          s.media.rows.length) ∧
      s1.media.rows.get? r = none ∧
      (∀ x ∈ row.recs, 0 < x.len →
        ∃ y ∈ s1.media.pageRecs x.die x.block x.page, { y with pad := x.pad } = x) ∧
      (∀ x, row.recs = [x] → row.sys = [] → x.dead = false → 0 < x.len → x.src = none →
        (∃ n, s.media.namespaces.get? x.ns = some n ∧ n.ind16 = false) →
        s1.media.map.get? (gkey x.ns x.granule) = some (.loc x.die x.block x.page x.offset x.len x.raw)) ∧
      Changes [.media] s s1) ∧
  (∀ (r : Nat) (row : Row) (t : Stripe) (s : State), s.live = true → s.media.rows.get? r = some row →
    s.media.stripes.get? row.stripe = some t → s.media.rowProgrammed row t = true → s.rowReady r row = false →
    (∀ e ∈ s.media.rows, e.2.due = true → s.rowReady e.1 e.2 = false) →
    ∃ u, exec (.rowComplete r) s = .next u ∧ u.media.rows = s.media.rows.mod r (fun x => { x with due := true }) ∧
      u.land = s.land ∧ u.media.map = s.media.map) ∧
  (∀ (r : Nat) (row : Row) (t : Stripe) (s : State), s.media.rows.get? r = some row →
    s.media.stripes.get? row.stripe = some t → s.media.rowProgrammed row t = false → exec (.rowComplete r) s = .next s)

/-- R96, R172, R178: a block that fails to program or erase is grown-bad, with event 0x3101, and its stripe is left; the eighth distinct
block within 24 hours fails the die. -/
def Obligations.BlockFailures : Prop :=
  (∀ (r d pass b w : Nat) (member : Fin 32) (s : State), s.live = true → s.media.progDie r member = some (d, pass, b, w) →
    ∃ s1, exec (.programFail r member) s = .next (((if 8 ≤ (((s1.leaveBlock d b).media.die d).failBlocks).length then
        (s1.leaveBlock d b).dieFails d 2 else s1.leaveBlock d b).probesGo (chOf d)).settleReads) ∧
      b ∈ (s1.media.die d).bad ∧ b ∉ (s1.media.die d).dirty ∧ (b, s.clocks.opsec.toNat) ∈ (s1.media.die d).failBlocks ∧
      s1.evr = (s.log 0x3101 (sliceOf d).val (leBytes 2 d ++ leBytes 2 b ++ leBytes 2 w ++ leBytes 1 1)).evr ∧
      Changes [.media, .evr, .out] s s1) ∧
  (∀ (d b : Nat) (s : State), s.live = true → s.media.erasing d b = true →
    ∃ s1, exec (.eraseFail d b) s = .next ((((if 8 ≤ (((s1.leaveBlock d b).media.die d).failBlocks).length then
        (s1.leaveBlock d b).dieFails d 2 else s1.leaveBlock d b).probesGo (chOf d)).erasedBack d).settleReads) ∧
      b ∈ (s1.media.die d).bad ∧ b ∉ (s1.media.die d).dirty ∧ (b, s.clocks.opsec.toNat) ∈ (s1.media.die d).failBlocks ∧
      s1.evr = (s.log 0x3101 (sliceOf d).val (leBytes 2 d ++ leBytes 2 b ++ leBytes 2 0 ++ leBytes 1 2)).evr ∧
      Changes [.media, .evr, .out] s s1) ∧
  (∀ (d b : Nat) (s : State), s.media.erasing d b = false → exec (.eraseFail d b) s = .next s)

/-- R199 to R202, R204: a stripe is opened for the waiting stream of highest priority, each member giving the erased block of
lowest erase count, of the system band for the system stream; an erased block's count rises and its read count restarts. -/
def Obligations.StripesAndErases : Prop :=
  (∀ (g : Nat) (st : Stream) (s : State), s.live = true → s.units.accAll = false → s.nextStream = some st →
    s.media.pickGroup (decide (st = .system)) = some g →
    (∀ d ∈ s.media.surviving g, (s.media.pickBlock d (decide (st = .system))).isSome) →
    ∃ s1 t, exec .stripeOpen s = .next (
        if st = .system then ((s.media.surviving g).foldl State.keepErased s1.checkWear).systemGo.fullBand
        else if st = .f0 ∨ st = .f1 then ((s.media.surviving g).foldl State.keepErased s1.checkWear).copiesGo
        else ((s.media.surviving g).foldl State.keepErased s1.checkWear).dispatch st (2 * s.land.lines.length + 64)) ∧
      s1.media.stripes.get? s.media.nextStripe = some t ∧ t.group = g ∧ t.stream = st ∧ t.isOpen = true ∧ t.nextRow = 0 ∧
      (∀ x, x ∈ t.members ↔ x.1 ∈ s.media.surviving g ∧ s.media.pickBlock x.1 (decide (st = .system)) = some x.2) ∧
      s1.media.nextStripe = s.media.nextStripe + 1 ∧ st ∉ s1.media.waiting ∧ Changes [.media] s s1) ∧
  (∀ (d b : Nat) (s : State), s.live = true → s.media.erasing d b = true →
    ∃ s1, exec (.eraseComplete d b) s = .next (((((s1.dieIdle d).keepErased d).probesGo (chOf d)).erasedBack d).settleReads) ∧
      s1.media.erases d b = s.media.erases d b + 1 ∧ s1.media.readCnt.get? (d * 8192 + b) = none ∧
      b ∉ (s1.media.die d).dirty ∧ (∀ page, page < 4096 → s1.media.pageRecs d b page = []) ∧ Changes [.media, .out] s s1) ∧
  (∀ (d b : Nat) (s : State), s.media.erasing d b = false → exec (.eraseComplete d b) s = .next s) ∧
  (∀ (d b : Nat) (sys : Bool) (m : Media), m.pickBlock d sys = some b → m.erased d b = true ∧
    (b < m.dataBlocks ↔ sys = false) ∧
    ∀ x, m.erased d x = true → (sys = false ∧ x < m.dataBlocks ∨ sys = true ∧ m.dataBlocks ≤ x ∧ x < m.dataBlocks + m.band) →
      m.erases d b < m.erases d x ∨ m.erases d b = m.erases d x ∧ b ≤ x)

/-- R64, R102, R181, R193: a read that passes its checks and whose every granule lies in a landing line or is TRIMMED or ZERO is
answered with that data at once, landing lines first; a run outside the namespace fails. -/
def Obligations.ReadsServed : Prop :=
  (∀ (fseq ns : Nat) (n : Namespace) (ranges : List (Nat × Nat)) (tag : Option Nat) (c : Cmd) (r : ReadReq) (s : State),
    s.Flying fseq c .ready → c.cmd = .read r → s.readsOf c = some (ns, n, ranges, tag, r.cmbPtr, false) →
    s.readCheck c ns n ranges tag r.cmbPtr = none →
    (∀ g ∈ rangeGranules n ranges, (∃ d, s.source ns n g = .line d) ∨ s.source ns n g = .zeros) →
    ∃ t, exec (.read fseq) s = .next t ∧ State.Completed (s.out ++ [Output.hostData fseq (ranges.flatMap (fun q =>
      (List.range (q.2 * n.spb)).map (fun i => match s.source ns n ((q.1 * n.spb + i) / 8) with
        | .line d => d.getD ((q.1 * n.spb + i) % 8) 0
        | _ => 0)))]) s t fseq c .success 0) ∧
  (∀ (fseq ns : Nat) (n : Namespace) (ranges : List (Nat × Nat)) (tag : Option Nat) (c : Cmd) (r : ReadReq) (st : Status) (s : State),
    s.Flying fseq c .ready → c.cmd = .read r → s.readsOf c = some (ns, n, ranges, tag, r.cmbPtr, false) →
    s.readCheck c ns n ranges tag r.cmbPtr = some st →
    ∃ t, exec (.read fseq) s = .next t ∧ State.Completed s.out s t fseq c st 0) ∧
  (∀ (ns g : Nat) (n : Namespace) (x : Nat × Line) (s : State), s.land.hit ns g = some x → s.source ns n g = .line x.2.data)

/-- R102 to R110, R114, R115, R117, R118, R131, R135: what a step-0 NAND read leaves in the ladder of a codeword: the accepted marks,
its alignment, and the estimate of each reference; and how a decode ends: recovered, counted and learned from; the next step; or
unrecovered with its event. -/
def Obligations.NandReadsDecoded : Prop :=
  ((∀ (rid d k : Nat) (l : Ladder) (sig : ReadSignals) (s : State), s.live = true → s.readsGo = true →
     s.media.flight rid = some (d, k) → s.media.reads.get? rid = some l → l.step = 0 → s.media.served rid l = [rid] →
     s.media.pageMissed l sig.window = false →
     ∃ s1 l' own, exec (.nandReadData rid sig) s = .next
         (((((((s1.noteDrift l').transferred d rid k).arrived rid).countTrigger l.die l.block)).probesGo (chOf d)).settleReads) ∧
       own = (sig.window.drop (l.part.1 - (s.media.readWindow l).1)).take l.part.2 ∧
       s1.media.reads.get? rid = some l' ∧ l'.await = l.await - 1 ∧ l'.hard = own ∧ l'.start = l.part.1 ∧
       (l'.missed = true ↔ s.media.marks l own l.part.1 = []) ∧
       (l.realigned = false → l'.align = { shift := (markChosen own l.part.1 l.cw (s.media.marks l own l.part.1)).getD 0 }) ∧
       l'.est0 = s.media.pilotEstimates l (received own l.part.1 l.cw l'.align) ∧ l'.est = l'.est0 ∧
       s1.media.markMissed = s.media.markMissed + (if s.media.marks l own l.part.1 = [] then 1 else 0) ∧
       s1.media.markDual = s.media.markDual + (if 2 ≤ (s.media.marks l own l.part.1).length then 1 else 0) ∧
       Changes [.media, .out] s s1) ∧
   (∀ (cs : List MarkCand) (c : MarkCand), bestMark cs = some c → c ∈ cs ∧ ∀ d ∈ cs, c.weight ≤ d.weight ∧
     (d.weight = c.weight → c.offset.natAbs ≤ d.offset.natAbs ∧ (d.offset.natAbs = c.offset.natAbs → c.offset ≤ d.offset))) ∧
   (∀ (win : List Byte) (start cw lim : Nat) (pilots : List Byte) (o : Int), o ∈ acceptedMarks win start cw lim pilots ↔
     -(lim : Int) ≤ o ∧ o ≤ lim ∧ 0 ≤ (4640 * cw : Nat) + o ∧ (4640 * cw : Nat) + o + 4 ≤ 18560 ∧
     (∃ x, differing (cut win start ((4640 * cw : Nat) + o) 4) frameMark = some x ∧ x ≤ 4) ∧
     224 ≤ correlation (cut win start ((4640 * cw : Nat) + o + 4) 32) pilots) ∧
   (∀ (acqStep acqMax n up down : Nat), (estimate acqStep acqMax n up down).natAbs ≤ acqMax * 64)) ∧
  ((∀ (rid iters : Nat) (l : Ladder) (s : State), s.live = true → s.media.reads.get? rid = some l → l.await = 0 → l.step < 5 →
     iters ≤ l.iterations → (∀ p, l.who ≠ .export_ p) →
     ∃ s1, exec (.decodeComplete rid .recovered iters) s = .next (((s1.report l l.endStep true).settled rid l true).settleReads) ∧
       s1.media.reads.get? rid = none ∧
       s1.media.rdc[sliceOf l.die].stepCnt = (s.media.rdc[sliceOf l.die].stepCnt).upd (Fin.ofNat 8 l.endStep) satInc ∧
       (s.media.rdc[sliceOf l.die].trackEn = false ∨ l.hard = [] → s1.media.track = s.media.track) ∧
       (s.media.rdc[sliceOf l.die].trackEn = true → l.hard ≠ [] → ∃ es,
         s1.media.trackAt (s.media.trackKey l.die l.block (l.page / max 1 s.media.types)) =
           ((s.media.trackAt (s.media.trackKey l.die l.block (l.page / max 1 s.media.types))).aged s.clocks.opsec.toNat
             (s.param 0x3100 1)).update l.refs l.used es s.clocks.opsec.toNat) ∧
       Changes [.media, .pws] s s1) ∧
   (∀ (rid iters : Nat) (l : Ladder) (s : State), s.live = true → s.media.reads.get? rid = some l → l.await = 0 →
     l.step = 0 → l.ran = [] → l.missed = false → l.skip1 = false → 1 ≤ l.cap → (∀ p, l.who ≠ .export_ p) → s.service = false →
     ∃ s1, exec (.decodeComplete rid .notConverged iters) s = .next ((s1.startStep rid 1).settleReads) ∧
       s1.media.reads.get? rid = some { l with ran := [0] } ∧
       (s1.media.trackAt (s.media.trackKey l.die l.block (l.page / max 1 s.media.types))).stale = true ∧ Changes [.media, .pws] s s1) ∧
   (∀ (rid iters : Nat) (l : Ladder) (s : State), s.live = true → s.media.reads.get? rid = some l → l.await = 0 →
     l.step < 5 → iters ≤ l.iterations → s.media.isParity l = false → (∀ p, l.who ≠ .export_ p) →
     ∃ s1, exec (.decodeComplete rid .dirMismatch iters) s = .next (((s1.report l l.top false).settled rid l false).settleReads) ∧
       s1.media.reads.get? rid = none ∧ s1.evr = (s.log 0x3131 (sliceOf l.die).val (l.data l.top)).evr ∧
       Changes [.media, .evr, .pws] s s1) ∧
   (∀ (rid iters : Nat) (l : Ladder) (s : State), s.live = true → s.media.reads.get? rid = some l → l.await = 0 →
     l.step < 5 → iters ≤ l.iterations → s.media.isParity l = false → (∀ p, l.who ≠ .export_ p) →
     (s.units.noSoft (sliceOf l.die) = false → l.next false = 7) → (s.units.noSoft (sliceOf l.die) = true → l.next true = 7) →
     ∃ s1, exec (.decodeComplete rid .crcMismatch iters) s = .next (((s1.report l l.top false).settled rid l false).settleReads) ∧
       s1.media.rdc[sliceOf l.die].miscorr = s.media.rdc[sliceOf l.die].miscorr + 1 ∧
       s1.evr = (s.log 0x3120 (sliceOf l.die).val (l.data l.top)).evr ∧ Changes [.media, .evr, .pws] s s1) ∧
   (∀ (l : Ladder) (noSoft : Bool), l.next noSoft ≤ 7 ∧
     (2 ≤ l.step → l.next noSoft < 7 → l.next noSoft ∉ l.ran ∧ l.next noSoft ≠ l.step) ∧
     (l.step = 0 → l.missed = true → l.next noSoft = 5) ∧
     (l.step = 0 → l.missed = false → l.ran = [] → l.skip1 = true → noSoft = false → l.next noSoft = 2) ∧
     (l.step = 1 → l.rereads < 2 → (∃ e ∈ l.est, l.acqMax * 64 ≤ e.natAbs) → l.next noSoft = 1)))

/-- R142 to R149: exports and resolve requests, given through the window of their port, use their area one at a time and end with a
code. -/
def Obligations.ExportRequests : Prop :=
  ∀ (p : Fin 2) (q : ExportReq) (s : State), s.live = true → s.linkUp p = true → s.barRefusal p 4 = none →
    s.ports[p].shows 10 = true →
    (s.media.expArea[p].busy = true →
      exec (.exportByLba p q) s = .next s ∧ exec (.exportByPhysical p q) s = .next s ∧ ∀ pl bd, exec (.resolve p q pl bd) s = .next s) ∧
    (s.media.expArea[p].busy = false → (p = 0 ∨ s.dual = true) →
      (∀ (ns : Nat) (n : Namespace) (r : Rec), q.wf = true → q.stepMax ≤ 4 → s.exportsOn = true →
        s.nsOf p q.nsid = some (ns, n) → q.lba < n.nlbas → s.denied ns n (n.unitOf (n.granuleOf q.lba)) none false = false →
        s.source ns n (n.granuleOf q.lba) = .record r → s.media.dieOut r.die = false →
        ∃ t, exec (.exportByLba p q) s = .next t ∧ t.media.expArea[p].busy = true ∧ t.media.expArea[p].desc = expDesc 1 q ∧
          t.media.expArea[p].tag = q.tag ∧ t.media.nextRid = s.media.nextRid + 1 ∧ Changes [.media, .out] s t) ∧
      (q.wf = true → q.stepMax ≤ 4 → s.media.badPlace q = false → s.exportsOn = true → s.anyReadLocked = false →
        s.media.erasing q.die q.block = false →
        ∃ t, exec (.exportByPhysical p q) s = .next t ∧ t.media.expArea[p].busy = true ∧ t.media.expArea[p].desc = expDesc 2 q ∧
          t.media.expArea[p].tag = q.tag ∧ t.media.nextRid = s.media.nextRid + 1 ∧ Changes [.media, .out] s t) ∧
      (∀ (pl bd : List Byte), q.wf = true → q.stepMax ≤ 4 → s.media.badPlace q = false → s.exportsOn = true →
        s.anyReadLocked = false → s.media.erasing q.die q.block = false →
        s.media.expArea[p].last = some (q.die, q.block, q.page, q.cw, s.media.erases q.die q.block) →
        ∃ t, exec (.resolve p q pl bd) s = .next t ∧ t.media.expArea[p].busy = false ∧ t.media.expArea[p].done = true ∧
          t.media.expArea[p].code = (if s.media.resolveOk q ((padTo 4176 0 (resolveInput pl bd)).take 4176) then 0 else 4) ∧
          t.media.expArea[p].tag = q.tag ∧ t.media.map = s.media.map ∧
          t.evr = (if s.media.resolveOk q ((padTo 4176 0 (resolveInput pl bd)).take 4176) then (s.log 0x3121 (sliceOf q.die).val
            (leBytes 2 q.die ++ leBytes 2 q.block ++ leBytes 2 q.page ++ leBytes 1 q.cw)).evr else s.evr)) ∧
      q.wf = true → q.stepMax ≤ 4 → s.media.badPlace q = false →
        ∀ i ∈ [Instr.exportByLba p q, .exportByPhysical p q, .resolve p q [] []], (s.exportsOn = false →
          ∃ t, exec i s = .next t ∧ t.media.expArea[p].done = true ∧ t.media.expArea[p].code = 2 ∧ t.media.expArea[p].busy = false))

/-- R153, R155, R161 to R163, R170 to R172: training stores what a chip enable passed; one that passes at no rate is lost; recentring
moves each bit's delay by at most one step, waits for a LUN, or asks for a full retraining; and the second status poll in a row that
times out fails the die. -/
def Obligations.ChannelTraining : Prop :=
  (∀ (ch : Fin 64) (ce : Fin 4) (r : CeTraining) (q : Profile) (s : State), s.live = true → s.media.fch[ch].isolate = false →
    s.media.fch[ch].ces[ce].lost = false → s.media.fch[ch].ces[ce].retraining = false → s.media.fch[ch].en = false →
    s.media.fch[ch].ces[ce].trained = false → s.media.population = none → r.luns.length = 4 →
    (∀ x ∈ r.luns, ∃ id, x = some id ∧ profileOf r.profiles id = some q) →
    (∀ p, s.media.profile = some p → p.match_ = q.match_) →
    (∀ rate eye, s.media.fch[ch].passes r.eyes = some (rate, eye) →
      ∃ t, exec (.ceTrainingDone ch ce r []) s = .next t ∧ t.media.fch[ch].ces[ce].trained = true ∧
        t.media.fch[ch].ces[ce].bits = (padTo 16 0 r.bits).map (BitVec.ofNat 6) ∧
        t.media.fch[ch].ces[ce].eye = BitVec.ofNat 6 eye ∧ t.media.fch[ch].ces[ce].rate = rate ∧
        t.media.fch[ch].rateNow ≤ rate ∧ (∀ l < 4, t.media.fch[ch].present.getLsbD (ce.val * 4 + l) = true) ∧
        (∀ k : Fin 64, k ≠ ch → t.media.fch[k] = s.media.fch[k]) ∧ t.media.profile = some q ∧ Changes [.media, .evr, .out] s t) ∧
    (s.media.fch[ch].passes r.eyes = none →
      ∃ t, exec (.ceTrainingDone ch ce r []) s = .next t ∧ t.media.fch[ch].trainFail = true ∧
        t.media.fch[ch].ces[ce].lost = true ∧ Output.pins ch (some ce) ∈ t.out)) ∧
  (∀ (f : Fch) (eyes : List (Nat × Nat)) (rate eye : Nat), f.passes eyes = some (rate, eye) → 10 ≤ eye ∧ rate ≤ f.target) ∧
  (∀ (ch : Fin 64) (ce : Fin 4) (rd wr : List ProbeBit) (pins : List PinFault) (s : State), s.live = true →
    s.media.fch[ch].en = true → s.media.fch[ch].isolate = false → s.media.fch[ch].recentre = true →
    s.media.fch[ch].ces[ce].lost = false → s.media.fch[ch].ces[ce].trained = true → s.media.fch[ch].ces[ce].retraining = false →
    s.readsGo = true →
    (∀ d, s.media.probeLun ch ce = some d →
      (∀ b ∈ (s.media.fch[ch].ces[ce]).probed (probeBits rd wr), b.lowFails = false ∨ b.highFails = false) →
      ∃ t, exec (.recentreDue ch ce rd wr pins) s = .next t ∧
        (∀ i < t.media.fch[ch].ces[ce].bits.length,
          (((t.media.fch[ch].ces[ce].bits.getD i 0).toNat : Int) - (s.media.fch[ch].ces[ce].bits.getD i 0).toNat).natAbs ≤ 1 ∧
          (s.media.fch[ch].ces[ce].recentred % 4 ≠ 3 → 8 ≤ i →
            t.media.fch[ch].ces[ce].bits.getD i 0 = s.media.fch[ch].ces[ce].bits.getD i 0)) ∧
        t.media.fch[ch].ces[ce].recentred = s.media.fch[ch].ces[ce].recentred + 1 ∧
        t.media.fch[ch].ces[ce].rate = s.media.fch[ch].ces[ce].rate ∧ Changes [.media, .out] s t) ∧
    (∀ d, s.media.probeLun ch ce = some d →
      (∃ b ∈ (s.media.fch[ch].ces[ce]).probed (probeBits rd wr), b.lowFails = true ∧ b.highFails = true) →
      ∃ t, exec (.recentreDue ch ce rd wr []) s = .next t ∧ t.media.fch[ch].ces[ce].retraining = true ∧
        t.media.fch[ch].ces[ce].bits = s.media.fch[ch].ces[ce].bits ∧ Output.nand d 10 0 0 ∈ t.out) ∧
    (s.media.probeLun ch ce = none →
      ∃ t, exec (.recentreDue ch ce rd wr pins) s = .next t ∧ t.media.fch[ch].ces[ce].probe = some (probeBits rd wr, pins) ∧
        t.media.fch[ch].ces[ce].bits = s.media.fch[ch].ces[ce].bits ∧ Changes [.media] s t)) ∧
  (∀ (d : Nat) (pins : List PinFault) (s : State), s.live = true → s.media.inService d = true → s.media.fch[chOf d].pollAt = [] →
    ((s.media.die d).timeouts = 0 →
      ∃ s1, exec (.statusPollTimeout d pins) s = .next ((s1.probesGo (chOf d)).settleReads) ∧ (s1.media.die d).timeouts = 1 ∧
        Output.nand d 6 0 0 ∈ s1.out ∧ (Xfer.cmd d 5 ∈ s1.media.fch[chOf d].bus ∨ ∃ n, s1.media.fch[chOf d].busNow = some (.cmd d 5, n)) ∧
        s1.media.dieFailed d = s.media.dieFailed d ∧ s1.media.fch[chOf d].pollAt = [(d, s.tb.count.toNat)] ∧
        Changes [.media, .out] s s1) ∧
    (1 ≤ (s.media.die d).timeouts →
      ∃ s1, exec (.statusPollTimeout d pins) s = .next (((s1.dieFails d 1).probesGo (chOf d)).settleReads) ∧
        s1.media.fch[chOf d].pollAt = [(d, s.tb.count.toNat)] ∧ Changes [.media, .out] s s1))

/-- R157, R158, R165, R166, R179: a suspended die opens its window, with the limit of reads set then, and counts the suspension; a
window that has passed, a run long enough and the wait limits are noted, and the sequencer goes on. -/
def Obligations.SuspensionRules : Prop :=
  (∀ (d b n : Nat) (ran : Bool) (s : State), s.live = true → (s.media.die d).suspending = true →
    (s.media.die d).op = .erase b n ran →
    ∃ s1, exec (.dieSuspended d) s = .next ((s1.pump d).pumpChannel (chOf d)) ∧ (s1.media.die d).op = .erase b (n + 1) false ∧
      (s1.media.die d).window = some (0, [], false) ∧ (s1.media.die d).suspending = false ∧ (s1.media.die d).readMax = s.param 0x3210 2 ∧
      s1.media.fch[chOf d].eraseSusp = satInc s.media.fch[chOf d].eraseSusp ∧
      s1.media.fch[chOf d].eraseAtLimit =
        (if n = 7 then satInc s.media.fch[chOf d].eraseAtLimit else s.media.fch[chOf d].eraseAtLimit) ∧
      s1.media.fch[chOf d].progSusp = s.media.fch[chOf d].progSusp ∧ Changes [.media, .out] s s1) ∧
  (∀ (d r p b w n : Nat) (member : Fin 32) (ran : Bool) (s : State), s.live = true → (s.media.die d).suspending = true →
    (s.media.die d).op = .prog r p member b w n ran →
    ∃ s1, exec (.dieSuspended d) s = .next ((s1.pump d).pumpChannel (chOf d)) ∧
      (s1.media.die d).op = .prog r p member b w (n + 1) false ∧ (s1.media.die d).window = some (0, [], false) ∧
      s1.media.fch[chOf d].progSusp = satInc s.media.fch[chOf d].progSusp ∧
      s1.media.fch[chOf d].eraseSusp = s.media.fch[chOf d].eraseSusp ∧ Changes [.media, .out] s s1) ∧
  (∀ (d : Nat) (s : State), (s.media.die d).suspending = false → exec (.dieSuspended d) s = .next s) ∧
  (∀ (d : Nat) (w : Nat × List (Nat × Nat) × Bool) (s : State), s.live = true → (s.media.die d).window = some w →
    ∃ s1, exec (.suspWindowExpire d) s = .next (s1.pump d) ∧ (s1.media.die d).window = some (w.1, w.2.1, true) ∧
      (s1.media.die d).op = (s.media.die d).op ∧ Changes [.media] s s1) ∧
  (∀ (d b n : Nat) (ran : Bool) (s : State), s.live = true → (s.media.die d).op = .erase b n ran → (s.media.die d).window = none →
    ∃ s1, exec (.suspendRunReached d) s = .next (s1.pump d) ∧ (s1.media.die d).op = .erase b n true ∧ Changes [.media] s s1) ∧
  (∀ (d b : Nat) (s : State), s.live = true → QOp.erase b ∈ (s.media.die d).visible →
    ∃ s1, exec (.arrayOpWaitLimit ⟨d, true⟩) s = .next (s1.pump d) ∧ (s1.media.die d).waited = ((s.media.die d).waited.1, true) ∧
      (s1.media.die d).queue = (s.media.die d).queue ∧ Changes [.media] s s1) ∧
  (∀ (d r p b w : Nat) (member : Fin 32) (s : State), s.live = true → QOp.prog r p member b w ∈ (s.media.die d).visible →
    ∃ s1, exec (.arrayOpWaitLimit ⟨d, false⟩) s = .next (s1.pump d) ∧ (s1.media.die d).waited = (true, (s.media.die d).waited.2) ∧
      (s1.media.die d).queue = (s.media.die d).queue ∧ Changes [.media] s s1) ∧
  (∀ (ch : Fin 64) (s : State), s.live = true → (s.media.fch[ch].bus ≠ [] →
    exec (.busTransferWaitLimit ch) s = .next ((s.setFch ch (fun f => { f with busLimit := true })).busGo ch)) ∧
    (s.media.fch[ch].bus = [] → exec (.busTransferWaitLimit ch) s = .next s)) ∧
  (∀ (f : Fch) (x : Xfer), f.nextXfer = some x → x ∈ f.bus ∧ (f.busLimit = true → f.bus.head? = some x) ∧
    (f.busLimit = false → ∀ y ∈ f.bus, x.prio ≤ y.prio)) ∧
  (∀ (f : Fch) (b n : Nat) (ran : Bool), f.maySuspend (some (b, n, ran, true)) = true → f.esusp = true ∧ n < 8 ∧ (n = 0 ∨ ran = true)) ∧
  (∀ (f : Fch) (b n : Nat) (ran : Bool), f.maySuspend (some (b, n, ran, false)) = true → f.psusp = true ∧ n < 2 ∧ (n = 0 ∨ ran = true))

/-- R175, R176, R198, R203, R205 to R209, R213, R216: the phases of a rebuild, the checkpoint, pounce triggers and their end, the
fulling window and the reclaim units. -/
def Obligations.RebuildAndRefresh : Prop :=
  (∀ (d : Nat) (r : Rebuild) (s : State), s.live = true → s.media.rebuilds.get? d = some r → r.phase = 1 →
    s.media.rebuildBusy d = false →
    ∃ s1, exec (.rebuildPhase1End d) s = .next (((s1.startCopies (.rebuild2 d) (s1.media.rebuildRecs d 2)).moveRecords (fun p =>
        s1.media.stripes.any (fun e => e.2.members.any (fun x => x.1 = d) && e.2.members.contains (p.die, p.block)))).settleReads) ∧
      s1.media.rebuilds.get? d = some { r with phase := 2 } ∧
      s1.evr = (s.log 0x3021 (sliceOf d).val (leBytes 2 d ++ leBytes 8 r.records)).evr ∧ Changes [.media, .evr] s s1) ∧
  (∀ (d : Nat) (r : Rebuild) (s : State), s.live = true → s.media.rebuilds.get? d = some r → r.phase = 2 →
    s.media.rebuildBusy d = false →
    ∃ s1, exec (.rebuildPhase2End d) s = .next ((s1.settleStripes.returnErases d).dieReturns d) ∧
      s1.media.rebuilds = s.media.rebuilds.del d ∧ s1.media.rebuildWarn = decide (1 < s.media.rebuilds.length) ∧
      s1.evr = (s.log 0x3022 (sliceOf d).val (leBytes 2 d)).evr ∧ Changes [.media, .evr] s s1) ∧
  (∀ (d : Nat) (r : Rebuild) (s : State), s.live = true → s.media.rebuilds.get? d = some r → s.media.rebuildBusy d = true →
    exec (.rebuildPhase1End d) s = .next s.settleReads ∧
    exec (.rebuildPhase2End d) s = .next ((s.settleStripes.returnErases d).dieReturns d)) ∧
  (∀ (s : State), s.live = true → ∃ t, exec .checkpointTimer s = .next t ∧ t.media.map = s.media.map ∧
    (s.media.dirtyPages.all (fun e => decide (s.media.ringHead ≤ e.2)) = true → s.media.sysWait = [] →
      s.media.rows.all (fun e => e.2.sys.isEmpty) = true →
      t.media.ckpt = some s.media.ringHead ∧ t.media.ckptDue = none ∧ t.media.trackSaved = s.media.track) ∧
    ((∃ e ∈ s.media.dirtyPages, e.2 < s.media.ringHead ∧ s.media.pageEntries e.1 ≠ 0) →
      t.media.ckptDue = some s.media.ringHead ∧ t.media.ckpt = s.media.ckpt) ∧ Changes [.media, .evr, .out] s t) ∧
  (∀ (sid : Nat) (t0 : Stripe) (x : Nat × Nat) (xs : List (Nat × Nat)) (s : State), s.live = true → s.media.stripes.get? sid = some t0 →
    t0.members = x :: xs → s.media.stripeClosed sid t0 = true →
    exec (.retentionAge sid) s = .next ((s.trigger x.1 x.2 6).settleReads)) ∧
  (∀ (f : ScanFinding) (t0 : Stripe) (x : Nat × Nat) (xs : List (Nat × Nat)) (s : State), s.live = true →
    s.media.stripes.get? f.stripe = some t0 → t0.members = x :: xs → s.media.stripeClosed f.stripe t0 = true →
    s.media.ftl[Fin.ofNat 8 t0.group].scanEn = true →
    exec (.pounceScan [f]) s = .next ((if s.param 0x3320 3 ≤ f.drift ∨ f.step3 = true then s.trigger x.1 x.2 7 else s).settleReads)) ∧
  (∀ (die block trig : Nat) (t0 : Nat × Stripe) (s : State), s.media.stripeOf die block = some t0 → stripeScope trig = false →
    trig ≠ 2 → trig ≠ 4 → die ≠ 0xFFFF → s.media.pounces.find? (fun e => decide (e.2.stripe = t0.1) && decide (e.2.die = die) && decide (e.2.block = block)) = none →
    s.media.victim = none → s.media.ftl[sliceOf die].pounceEn = true →
    (s.trigger die block trig).media.pounces.get? s.media.nextPounce =
      some { stripe := t0.1, die := die, block := block, trigger := trig, emerg := false, pending := decide (s.param 0x7000 2 = 1) } ∧
    (s.param 0x7000 2 = 1 → (s.trigger die block trig).evr = s.evr) ∧
    (s.param 0x7000 2 ≠ 1 → (s.trigger die block trig).evr = (s.log 0x3200 (sliceOf die).val
      (leBytes 4 t0.1 ++ leBytes 2 die ++ leBytes 2 block ++ leBytes 1 trig)).evr)) ∧
  (∀ (id : Nat) (p : Pounce) (s : State), s.live = true → s.media.pounces.get? id = some p → p.pending = false →
    s.media.copying p.stripe = false →
    ∃ s1, exec (.pounceFinish id) s = .next s1.settleStripes.settleReads ∧ s1.media.pounces.get? id = none ∧
      s1.evr = (if p.emerg then (s.log 0x3202 (s.media.pounceSlice p) p.data).evr else s.evr) ∧ Changes [.media, .evr] s s1) ∧
  (∀ (id : Nat) (p : Pounce) (s : State), s.live = true → s.media.pounces.get? id = some p → p.pending = true →
    ∃ s1, exec (.pouncePendingAged id) s = .next
        (((s1.startCopies (.copy p.stripe) (s1.media.pounceRecs p)).moveRecords (s1.media.inScope p)).settleReads) ∧
      s1.media.pounces.get? id = some { p with emerg := true, trigger := 8, pending := false } ∧
      s1.evr = (s.log 0x3201 (s.media.pounceSlice p) ({ p with trigger := 8 } : Pounce).data).evr ∧ Changes [.media, .evr] s s1) ∧
  (∀ (s : State), s.live = true → exec .fullingWindowExpire s = .next { s with media := { s.media with window := false } }) ∧
  (∀ (handle : Nat) (x : Nat × Stripe) (s : State), s.live = true → s.media.openStripe (.host handle) = some x →
    ∃ t, exec (.reclaimUnitTimeLimit handle) s = .next t ∧
      (t.media.stripes.get? x.1).any (fun y => !y.isOpen) = true ∧
      t.media.fdpEvents = (if s.media.fdp then s.media.fdpEvents ++ [(handle, 2)] else s.media.fdpEvents))

/-- R226 to R233, R235, R518: charging starts and restarts, a bank fault opens both gates and takes the limit to zero, full charge, the
landing limit, the isolation switch; a test runs at full charge in PS0 to PS2 with the limit of 33 V and is judged against half the
initial capacitance and 300 mΩ, a void test keeps the last result, and a fault that has gone has the bank charged and tested again. -/
def Obligations.HoldUpBank : Prop :=
  ((∀ (s : State), s.live = true → s.plp.chgEn = false → s.plp.lasting = 0 → s.plp.state ≠ .holding →
     ∃ t, exec .chargeEnable s = .next t ∧ t.plp.chgEn = true ∧
       t.plp.state = (if s.plp.capSense.toInt < 1100 then .precharge else .boost) ∧
       t.land.limit = (if s.plp.active ≠ 0 then 0 else s.limitAt s.plp.capSense.toInt) ∧
       t.out = s.out ++ [Output.gates s.plp.isoClosed s.plp.disClosed true] ∧ Changes [.plp, .land, .ports, .evr, .out] s t) ∧
   (∀ (s : State), s.live = true → s.plp.chgEn = false → s.plp.lasting ≠ 0 →
     exec .chargeEnable s = .next { s with plp := { s.plp with chgEn := true } }) ∧
   (∀ (s : State), s.live = true → s.plp.state = .precharge →
     exec .prechargeEnd s = .next { s with plp := { s.plp with state := .boost, capSense := 1100 } }) ∧
   (∀ (s : State), s.live = true → s.plp.state = .precharge ∨ s.plp.state = .boost → s.plp.due = 0 →
     ∃ s1, exec .bankFullCharge s = .next s1.resumeAll ∧ s1.plp.state = .full ∧ s1.plp.capSense = 3490 ∧
       s1.plp.active = s.plp.active &&& 0x1F ∧
       s1.land.limit = (if s.plp.active &&& 0x1F ≠ 0 then 0 else s.limitAt 3500) ∧
       s1.land.wt = decide (s1.land.limit < 65536) ∧ s1.land.lines = s.land.lines ∧
       s1.out = s.out ++ [Output.gates s.plp.isoClosed s.plp.disClosed false] ∧ Changes [.plp, .land, .ports, .evr, .out] s s1) ∧
   (∀ (i : Instr) (k : BankFaultKind) (pins : BankPins) (s : State), s.live = true →
     (i = .bankFault k pins ∧ s.plp.state ≠ .holding) ∨
       (i = .chargeTimeout pins ∧ k = .chgTimeout ∧ (s.plp.state = .precharge ∨ s.plp.state = .boost)) →
     s.plp.active.getLsbD (faultIdx k) = false →
     ∃ s1, exec i s = .next s1.writeImage.drain ∧ s1.plp.state = .fault ∧ s1.plp.active.getLsbD (faultIdx k) = true ∧
       s1.plp.faults.getLsbD (faultIdx k) = true ∧ s1.land.limit = 0 ∧ s1.land.wt = true ∧ s1.land.lines = s.land.lines ∧
       s1.out = s.out ++ [Output.gates (s.plp.isoClosed || s.plp.state == .testing) false false] ∧
       Changes [.plp, .land, .ports, .evr, .out] s s1) ∧
   (∀ (s : State), s.live = true → s.plp.state = .fault → s.plp.active = 0x20 → s.plp.chgEn = true →
     ∃ t, exec .chargeRetry s = .next t ∧ t.plp.state = (if s.plp.capSense.toInt < 1100 then .precharge else .boost) ∧
       t.land.limit = 0 ∧ t.plp.active = 0x20 ∧ Changes [.plp, .land, .ports, .evr, .out] s t) ∧
   (∀ (v : Nat) (s : State), s.live = true → s.plp.state = .precharge ∨ s.plp.state = .boost ∨ s.plp.state = .full →
     s.plp.active = 0 →
     ∃ s1, exec (.landingLimitRecompute v) s = .next s1.resumeAll ∧ s1.plp.capSense = BitVec.ofNat 16 v ∧
       s1.land.limit = s.limitAt (if s.plp.state = .full then 3500 else (BitVec.ofNat 16 v).toInt) ∧
       s1.land.wt = decide (s1.land.limit < 65536) ∧ s1.land.lines = s.land.lines ∧ Changes [.plp, .land, .ports, .evr] s s1) ∧
   (∀ (s : State), s.plp.isoClosed = false → s.plp.state ≠ .holding → s.plp.state ≠ .testing →
     ∃ t, exec .huIsoClose s = .next t ∧ t.plp = { s.plp with isoClosed := true } ∧
       t.out = s.out ++ [Output.gates true s.plp.disClosed (s.plp.state == .precharge || s.plp.state == .boost)] ∧
       Changes [.plp, .out] s t)) ∧
  ((∀ (s : State), s.live = true → s.plp.state = .full → s.pws.ps ≤ 2 → s.plp.active = 0 →
     ∃ t, exec .bankTestDue s = .next t ∧ t.plp.state = .testing ∧ t.plp.due = s.plp.due - 1 ∧ t.plp.isoClosed = false ∧
       t.plp.disClosed = true ∧ t.land.limit = s.limitAt 3300 ∧ t.out = s.out ++ [Output.gates false true false] ∧
       Changes [.plp, .land, .ports, .evr, .out] s t) ∧
   (∀ (s : State), s.live = true → s.plp.state ≠ .full ∨ 2 < s.pws.ps →
     exec .bankTestDue s = .next { s with plp := { s.plp with due := max 1 s.plp.due } }) ∧
   (∀ (m : BankMeas) (s : State), s.live = true → s.plp.state = .testing → 500 ≤ m.fallMv → 1000 ≤ m.cMeas →
     ∃ s1, exec (.bankTestEnd m) s = .next s1.resumeAll ∧ s1.plp.state = .boost ∧ s1.plp.isoClosed = true ∧
       s1.plp.disClosed = false ∧ s1.plp.meas = some (m.cMeas, m.esrMeas) ∧ s1.plp.tested = true ∧
       s1.plp.lastTest = s.clocks.opsec.setWidth 32 ∧
       (∀ c0, s.plp.cInit = some c0 → s.plp.cInitReset = false → s1.plp.cInit = some c0 ∧
         s1.plp.testFail = decide (2 * m.cMeas < c0 ∨ 3000 < m.esrMeas ∨ m.faultDuring = true)) ∧
       (s.plp.cInit = none ∨ s.plp.cInitReset = true → s1.plp.cInit = some m.cMeas) ∧
       s1.land.limit = (if s.plp.active ≠ 0 then 0 else s1.limitAt s1.plp.capSense.toInt) ∧
       Changes [.plp, .land, .ports, .evr, .out] s s1) ∧
   (∀ (m : BankMeas) (s : State), s.live = true → s.plp.state = .testing → m.fallMv < 500 →
     ∃ s1, exec (.bankTestEnd m) s = .next s1.resumeAll ∧ s1.plp.state = .boost ∧ s1.plp.meas = s.plp.meas ∧
       s1.plp.testFail = s.plp.testFail ∧ s1.plp.cInit = s.plp.cInit ∧ Changes [.plp, .land, .ports, .evr, .out] s s1) ∧
   (∀ (k : BankFaultKind) (s : State), s.live = true → k ≠ .chgTimeout → s.plp.active.getLsbD (faultIdx k) = true →
     ∃ t, exec (.bankFaultClear k) s = .next t ∧ t.plp.active.getLsbD (faultIdx k) = false ∧
       (∀ j < 6, j ≠ faultIdx k → t.plp.active.getLsbD j = s.plp.active.getLsbD j) ∧ t.plp.faults = s.plp.faults ∧
       t.plp.due = max 1 s.plp.due ∧
       (t.plp.active = 0 → s.plp.chgEn = true →
         t.plp.state = (if s.plp.capSense.toInt < 1100 then .precharge else .boost) ∧ t.land.limit = s.limitAt s.plp.capSense.toInt) ∧
       (t.plp.active ≠ 0 → t.plp.state = s.plp.state ∧ t.evr = (s.log 0x2110 0x40 (leBytes 1 (2 ^ faultIdx k))).evr) ∧
       Changes [.plp, .land, .ports, .evr, .out] s t))

/-- R236 to R240, R245: the power-fail signal puts the bank on VIN12 and starts the flush, the flush mark ends it with the links
down and the enables low, and host power starts the part again. -/
def Obligations.PowerLossFlush : Prop :=
  (∀ (src : PfSource) (s : State), s.phase = .firmware ∨ s.phase = .recovering ∨ s.phase = .running → s.sees src = true →
    ∃ s1, exec (.powerFail src) s = .next s1.flushBody ∧ s1.phase = .flushing ∧ s1.plp.state = .holding ∧
      s1.plp.isoClosed = false ∧ s1.plp.disClosed = true ∧ s1.plp.pfail = true ∧ s1.plp.marked = false ∧
      s1.pws.gated = [] ∧ s1.pws.entry = none ∧ s1.out = s.out ++ [Output.gates false true false] ∧
      s1.evr = (s.log 0x2001 0xFF (leBytes 4 s.land.toFlush ++ leBytes 2 s.media.liveDies.length)).evr ∧
      Changes [.phase, .plp, .pws, .evr, .out] s s1) ∧
  (∀ (s : State), s.boot.recoveryDue = false → s.land.lines.wf = true →
    s.flushBody.cmq.cmds = [] ∧ s.flushBody.cmq.locks = [] ∧ s.flushBody.media.reads = [] ∧
      s.flushBody.land.image = some ((s.land.lines.filter (fun e =>
        !(e.2.st == .filling) && !(e.2.wt && e.2.st == .committed))).map (fun e =>
        (e.2.granule, e.2.ns, (if e.2.wt then 3 else if e.2.st = .packed then 2 else 1), e.2.cmdSeq)))) ∧
  (∀ (us : Nat) (s : State), s.phase = .flushing → s.flushDone = true → s.boot.recoveryDue = false →
    ∃ t, exec (.flushMark us) s = .next t ∧ t.phase = (if s.plp.pfail then .flushed else .thermalOff) ∧
      t.plp.marked = true ∧ t.plp.flushUs = us ∧ (s.plp.pfail = true → t.plp.disClosed = false) ∧
      t.media.ring = s.media.ring ++ [{ kind := 6, seq := s.media.rowSeq, pos := s.media.ringHead, len := deltaLen [] }] ∧
      t.clocks.opsecP = s.clocks.opsec ∧ t.evr.suppTotalP = s.evr.suppTotal ∧ (∀ p : Fin 2, t.ports[p].link = .down) ∧
      t.pws.enVcore = false ∧ t.pws.enNand = false ∧ t.pws.en1v8 = false ∧
      [Output.enable .vcore false, Output.enable .vioNand false, Output.enable .v1p8 false] <:+ t.out ∧
      t.land = s.land ∧ t.media.map = s.media.map ∧ t.media.nand = s.media.nand) ∧
  (∀ (us : Nat) (s : State), s.phase = .flushing → s.flushDone = false → s.boot.recoveryDue = false →
    exec (.flushMark us) s = .next s) ∧
  (∀ (s : State), s.phase = .flushed → s.boot.recoveryDue = false → s.bst.op = none →
    ∃ t, exec .hostPowerReturn s = .next t ∧ t.phase = .supplies ∧ t.pws.en1v8 = true ∧ t.pws.enNand = false ∧
      t.pws.enVcore = false ∧ t.out = s.out ++ [Output.enable .v1p8 true] ∧
      t.plp.lastFlush = (if s.shutDown then 3 else if s.plp.marked then 1 else 2) ∧
      t.boot.unclean = (!s.plp.marked && !s.shutDown) ∧ t.boot.imageDue = (!s.plp.marked && !s.shutDown) ∧
      t.boot.recoveryDue = true ∧ t.land.lines = [] ∧ t.land.image = s.land.image ∧ t.media.map = [] ∧
      t.media.nand = s.media.nand ∧ t.media.ring = s.media.ring ∧ t.media.mapNand = s.media.mapNand ∧
      t.sec.keyGen = s.sec.keyGen ∧ t.bst.mem = s.bst.mem ∧ t.boot.ledger = s.boot.ledger)

/-- R466 to R469: a reading of the sensors, the thermal levels with their 3 °C of hysteresis, the shutdown after ten readings of
120 °C in a row, and the restart below 90 °C. -/
def Obligations.ThermalLimits : Prop :=
  (∀ (temps : List Int) (s : State), s.live = true → s.pws.level ≠ 4 →
    ∃ t, exec (.thermalSensorRead temps) s = .next t ∧
      (∀ (k : Fin 12) v, temps[k.val]? = some v → t.pws.temps[k] = tempRead s.pws.temps[k] v) ∧
      (∀ k : Fin 12, temps[k.val]? = none → t.pws.temps[k] = s.pws.temps[k]) ∧
      t.pws.hot = (if 1200 ≤ t.junction then s.pws.hot + 1 else 0) ∧ t.pws.level = levelOf t.junction s.pws.level ∧
      t.pws.ps = s.pws.ps ∧ Changes [.pws, .evr, .dram] s t) ∧
  (∀ (t : Int) (was : Nat), was ≤ 3 →
    (levelOf t was = 3 ↔ 1150 ≤ t ∨ (was = 3 ∧ 1120 < t)) ∧
    (levelOf t was = 0 ↔ t < 1060 ∧ (was = 0 ∨ t ≤ 1030) ∧ (was ≤ 1 ∨ t ≤ 1070) ∧ (was ≤ 2 ∨ t ≤ 1120)) ∧
    (1100 ≤ t → 2 ≤ levelOf t was) ∧ (1060 ≤ t → 1 ≤ levelOf t was)) ∧
  (∀ (s : State), s.phase = .firmware ∨ s.phase = .recovering ∨ s.phase = .running → 10 ≤ s.pws.hot →
    ∃ s1, exec .thermalShutdown s = .next s1.flushBody ∧ s1.phase = .flushing ∧ s1.pws.level = 4 ∧ s1.pws.entry = none ∧
      Changes [.phase, .pws] s s1) ∧
  (∀ (s : State), s.pws.hot < 10 → exec .thermalShutdown s = .next s) ∧
  (∀ (s : State), s.phase = .thermalOff → s.junction < 900 → s.bst.op = none →
    ∃ t, exec .thermalRestart s = .next t ∧ t.phase = .supplies ∧ t.pws.en1v8 = true ∧
      t.out = s.out ++ [Output.enable .v1p8 true] ∧ t.pws.level = 0 ∧ t.media.nand = s.media.nand ∧ t.board = s.board) ∧
  (∀ (s : State), 900 ≤ s.junction → exec .thermalRestart s = .next s)

/-- R405 to R409, R422, R464, R509, R514, R527: the auxiliary domain, the straps, the supplies in their order, the boot ROM, the
first instruction of the firmware, and a reset by the watchdog. -/
def Obligations.StartSequence : Prop :=
  (∀ (s : State), s.phase ≠ .auxReset → s.bst.op = none →
    ∃ t, exec .auxPowerOn s = .next t ∧ t.phase = .auxReset ∧ (∀ p : Fin 2, t.ports[p].perst = true) ∧ t.cmq.cmds = [] ∧
      t.land.lines = [] ∧ t.media.nand = s.media.nand ∧ t.media.ring = s.media.ring ∧ t.sec.keyGen = s.sec.keyGen ∧
      t.sec.keysHeld = false ∧ t.bst.mem = s.bst.mem ∧ t.boot.ledger = s.boot.ledger ∧ t.out = s.out) ∧
  (∀ (dual mb : Bool) (s : State), s.phase = .auxReset →
    ∃ t, exec (.auxRelease dual mb false) s = .next t ∧ t.phase = .supplies ∧ t.board.peDual = dual ∧ t.board.mbSel = mb ∧
      t.pws.en1v8 = true ∧ t.out = s.out ++ [Output.enable .v1p8 true] ∧ Changes [.phase, .board, .pws, .out] s t) ∧
  (∀ (dual mb : Bool) (s : State), s.phase = .auxReset →
    ∃ t, exec (.auxRelease dual mb true) s = .next t ∧ t.phase = .testScan ∧ t.out = s.out ∧ t.pws = s.pws) ∧
  (∀ (s : State), s.phase = .supplies → s.pws.en1v8 = true → s.pws.pg1v8 = false →
    exec (.supplyPowerGood .v1p8) s = .next { s with
      pws := { s.pws with pg1v8 := true, enNand := true }, out := s.out ++ [Output.enable .vioNand true] }) ∧
  (∀ (s : State), s.phase = .supplies → s.pws.enNand = true → s.pws.pgNand = false →
    exec (.supplyPowerGood .vioNand) s = .next { s with
      pws := { s.pws with pgNand := true, enVcore := true }, out := s.out ++ [Output.enable .vcore true] }) ∧
  (∀ (s : State), s.phase = .supplies → s.pws.enVcore = true → s.pws.pgVcore = false →
    exec (.supplyPowerGood .vcore) s = .next { s with
      phase := .rom, pws := { s.pws with pgVcore := true, xoReady := !s.pws.xoTimedOut } }) ∧
  (∀ (calibOk loaderOk pfailLow : Bool) (s : State), s.phase = .rom →
    ∃ t, exec (.coldStart calibOk loaderOk pfailLow) s = .next t ∧
      t.phase = (if loaderOk then .slipway else .bootFault) ∧ t.clocks.pcc = satInc s.clocks.pcc ∧ t.bst.calibOk = calibOk ∧
      t.sec.pairFail = t.units.pair ∧ t.sec.keysHeld = (!s.sec.meshBroken && !t.units.pair && !s.sec.tampered) ∧
      (∀ c : Fin 32, t.units.cores[c].alive = false ∧
        (s.pws.drFlag = true → c.val < 30 → t.units.cores[c].failed = s.units.cores[c].failed) ∧
        (s.pws.drFlag = false → t.units.cores[c].failed = decide (30 ≤ c.val ∧ t.units.pair = true) ∧
          (c.val < 30 → (t.units.cores[c].trying = none ↔ s.units.outages.any (coreOutage c.val) = false))))) ∧
  (∀ (s : State), s.phase = .firmware → s.dict.held = [] →
    ∃ t, exec .firmwareStart s = .next t ∧ t.phase = .recovering ∧
      t.boot.ledgerCount = s.boot.ledgerCount + (if s.hasAk then 1 else 0) ∧
      (s.plp.chgEn = true → t.plp.chgEn = true → t.plp.state = (if s.plp.capSense.toInt < 1100 then .precharge else .boost)) ∧
      t.media.map = s.media.map) ∧
  (∀ (s : State), s.phase = .rom ∨ s.phase = .slipway ∨ s.phase = .firmware ∨ s.phase = .recovering ∨ s.phase = .running →
    ∃ t, exec .watchdogReset s = .next t ∧ t.phase = .rom ∧ t.boot.watchdog = true ∧ t.pws.enVcore = s.pws.enVcore ∧
      t.cmq.cmds = [] ∧ t.land.lines = [] ∧ t.media.map = [] ∧ t.media.nand = s.media.nand ∧ t.boot.ledger = s.boot.ledger ∧
      t.sec.keysHeld = false ∧ t.board = s.board)

/-- R404, R406, R407, R428, R441 to R443: the loader's choice of an image. -/
def Obligations.LoaderChoosesImage : Prop :=
  ∀ (recoveryOk : Bool) (s s0 : State), s.phase = .slipway →
    s0 = State.checkSectors (State.loadRecord { s with evr := s.evr.journal }) →
    ∃ t, exec (.slipwayStart recoveryOk) s = .next t ∧ s0.evr.journalUp = true ∧
      (s0.boot.trialOver = false → s0.boot.areaChosen = true → s0.areaStarts = true →
        t.phase = .firmware ∧ t.boot.source = 0 ∧ t.boot.run = t.bst.image imageFirst ∧ t.boot.rewriting = false ∧
        (s0.boot.underTrial = false → t.boot.state = s0.boot.state ∧ t.boot.armed = s0.boot.armed ∧ t.bst = s0.bst) ∧
        (s0.boot.underTrial = true → t.boot.state = .trial ∧ t.boot.armed = some (s0.boot.imageSeq, s0.tb.count.toNat) ∧
          t.boot.trialSeq = s0.boot.imageSeq ∧ t.boot.tries = (if s0.boot.state = .trial then s0.boot.tries + 1 else 1))) ∧
      (s0.boot.trialOver = false → s0.boot.areaChosen = false ∨ s0.areaStarts = false →
        (∀ img, s0.rollbackStarts = some img → t.phase = .firmware ∧ t.boot.source = 1 ∧ t.boot.run = img ∧
          t.boot.rewriting = true ∧ t.evr = (s0.log 0x1004 0x20 (leBytes 4 (imgSeq img))).evr) ∧
        (s0.rollbackStarts = none → recoveryOk = true → t.phase = .firmware ∧ t.boot.source = 2 ∧
          t.evr = (s0.log 0x1005 0x20).evr) ∧
        (s0.rollbackStarts = none → recoveryOk = false → t.phase = .bootFault)) ∧
      (s0.boot.trialOver = true → t.boot.state = .rejected ∧ t.boot.fallbacks = s0.boot.fallbacks + 1 ∧
        (t.phase = .firmware → t.boot.source = 1 ∨ t.boot.source = 2))

/-- R240, R246 to R248, R459 to R462: recovery replays the ring over the map records and ends with the part running; a ring that
breaks write-protects every namespace; a wake from Deep Rest begins with the supplies and keeps the controllers' queues. -/
def Obligations.RecoveryAndWake : Prop :=
  (∀ (ms : Nat) (s : State), s.phase = .recovering → s.pws.drFlag = false →
    ∃ t, exec (.recoveryComplete ms none) s = .next t ∧ t.phase = .running ∧ t.plp.lastRecovery = satOf 32 ms ∧
      t.media.map = s.media.replayRing s.media.ring ∧ t.media.protected_ = s.media.protected_ ∧ t.land.image = none ∧
      t.boot.recoveryDue = false ∧ t.boot.imageDue = false ∧ t.boot.replayDue = false ∧
      (s.boot.replayDue = true → ∀ e ∈ t.media.stripes, e.2.isOpen = false)) ∧
  (∀ (ms x : Nat) (s : State), s.phase = .recovering →
    ∃ t, exec (.recoveryComplete ms (some x)) s = .next t ∧ t.phase = .running ∧ t.media.protected_ = true ∧ t.readOnly = true ∧
      t.media.map = s.media.replayRing (s.media.ring.filter (fun b => decide (b.pos < x)))) ∧
  (∀ (s : State), s.phase = .deepRest → s.bst.op = none →
    ∃ t, exec .deepRestWake s = .next t ∧ t.phase = .supplies ∧ t.pws.drFlag = true ∧ t.pws.en1v8 = true ∧
      t.out = s.out ++ [Output.enable .v1p8 true] ∧ t.cmq.cmds = s.cmq.cmds ∧ t.boot.recoveryDue = true ∧ t.boot.unclean = false ∧
      (∀ p : Fin 2, t.ports[p].link = s.ports[p].link ∧ t.ports[p].config = s.ports[p].config ∧
        (∀ r, s.pws.rest = some r → (t.ctrl p).sqs = r[p].sqs ∧ (t.ctrl p).cqs = r[p].cqs ∧ (t.ctrl p).feat = r[p].feat)))

/-- R447, R450 to R454, R456, R457: an idle controller's entry begins with preparation, the handshake follows it, the fourth
agreement commits the state, and a refusal or a delay that runs out abandons the entry with event 0x2301; idle units are gated. -/
def Obligations.PowerStateEntry : Prop :=
  (∀ (p : Fin 2) (tg : Nat) (s : State), s.phase = .running → s.param 0x7000 3 ≠ 1 → p ∈ s.portList → s.idle p = true →
    s.pws.entry = none → (s.ctrl p).apstTarget = some tg → 3 ≤ tg → s.pws.ps < tg →
    ∃ t, exec (.apstIdleExpire p) s = .next t ∧ (t.ctrl p).ps = tg ∧
      (s.dual = false → t.pws.entry = some { target := tg, phase := 1, apst := true, port := p } ∧ t.pws.ps = s.pws.ps) ∧
      (∀ q : Fin 2, s.dual = true → q ≠ p → (s.ctrl q).ps < 3 → t.pws.entry = none ∧ t.pws.ps = (s.ctrl q).ps)) ∧
  (∀ (e : PsEntry) (s : State), s.live = true → s.pws.entry = some e → e.phase = 1 → s.prepared = true →
    e.ckpt = true → s.media.ckptDue = none →
    ∃ t, exec (.psPreparationDone false) s = .next t ∧ t.pws.entry = some { e with phase := 2 } ∧
      t.out = s.out ++ [Output.handshake e.target] ∧ t.media = s.media ∧
      t.pws.rest = (if e.target = 4 then some s.cmq.ctrls else s.pws.rest) ∧ t.pws.ps = s.pws.ps) ∧
  (∀ (e : PsEntry) (s : State), s.live = true → s.pws.entry = some e → e.phase = 1 → s.prepared = true → e.ckpt = false →
    ∃ t, exec (.psPreparationDone false) s = .next t ∧
      (s.checkpoint.media.ckptDue ≠ none → t = { s.checkpoint with pws := { s.pws with entry := some { e with ckpt := true } } }) ∧
      (s.checkpoint.prepared = true → s.checkpoint.media.ckptDue = none → t.media = s.checkpoint.media ∧
        t.pws.entry = some { e with ckpt := true, phase := 2 } ∧ t.out = s.checkpoint.out ++ [Output.handshake e.target])) ∧
  (∀ (e : PsEntry) (s : State), s.live = true → s.pws.entry = some e → s.prepared = false ∨ (e.ckpt = true ∧ s.media.ckptDue ≠ none) →
    exec (.psPreparationDone false) s = .next s) ∧
  (∀ (d : Fin 4) (e : PsEntry) (s : State), s.live = true → s.pws.entry = some e → e.phase = 2 →
    s.domainRefuses d e.target = none → (∀ k : Fin 4, k ≠ d → e.answers[k] = 1) →
    ∃ t, exec (.domainAnswer d .agree) s = .next t ∧ t.pws.ps = e.target ∧ t.pws.entry = none ∧ t.pws.gated = [] ∧
      t.clocks.opsecP = s.clocks.opsec ∧ (∀ g : Fin 16, t.vault.pages[g].nonceP = s.vault.pages[g].nonce) ∧
      (∀ p : Fin 2, s.ports[p].link = .l0 → t.ports[p].link = .l1) ∧
      (e.target = 3 → t.dram.selfRefresh = true ∧ t.phase = s.phase ∧ t.sec = s.sec) ∧
      (e.target = 4 → t.phase = .deepRest ∧ t.pws.enVcore = false ∧ t.pws.enNand = false ∧ t.pws.en1v8 = false ∧
        t.sec.keysHeld = false ∧ t.sec.kpio = [] ∧ t.plp.state = .off)) ∧
  (∀ (d k : Fin 4) (e : PsEntry) (s : State), s.live = true → s.pws.entry = some e → e.phase = 2 →
    s.domainRefuses d e.target = none → k ≠ d → e.answers[k] ≠ 1 →
    exec (.domainAnswer d .agree) s = .next { s with
      pws := { s.pws with entry := some { e with answers := e.answers.upd d (fun _ => 1) } } }) ∧
  (∀ (d : Fin 4) (e : PsEntry) (s : State), s.live = true → s.pws.entry = some e → e.phase = 2 →
    s.domainRefuses d e.target = none →
    exec (.domainAnswer d .delay) s = .next { s with
      pws := { s.pws with entry := some { e with answers := e.answers.upd d (fun _ => 3) } } }) ∧
  (∀ (d : Fin 4) (a : Answer) (e : PsEntry) (r : Nat) (s : State), s.live = true → s.pws.entry = some e → e.phase = 2 →
    s.domainRefuses d e.target = some r ∨ (s.domainRefuses d e.target = none ∧ ∃ b : Byte, a = .refuse b ∧ r = b.toNat) →
    exec (.domainAnswer d a) s = .next (State.abandonEntry { s with
      pws := { s.pws with entry := some { e with answers := e.answers.upd d (fun _ => 2) } } } d.val r)) ∧
  (∀ (d : Fin 4) (e : PsEntry) (s : State), s.live = true → s.pws.entry = some e → e.phase = 2 → e.answers[d] = 3 →
    exec (.domainDelayExpire d) s = .next (State.abandonEntry { s with
      pws := { s.pws with entry := some { e with answers := e.answers.upd d (fun _ => 2) } } } d.val 0xFF)) ∧
  (∀ (d r : Nat) (e : PsEntry) (s : State), s.pws.entry = some e → s.pws.ps ≠ 3 →
    (s.abandonEntry d r).pws.entry = none ∧ (s.abandonEntry d r).pws.abandonTotal = s.pws.abandonTotal + 1 ∧
      (s.abandonEntry d r).pws.abandons = satInc s.pws.abandons ∧
      (s.abandonEntry d r).pws.hsDomain = BitVec.ofNat 8 d ∧ (s.abandonEntry d r).pws.hsReason = BitVec.ofNat 8 r ∧
      (∀ p : Fin 2, 3 ≤ (s.ctrl p).ps → ((s.abandonEntry d r).ctrl p).ps = (s.ctrl p).psOper) ∧
      (s.abandonEntry d r).evr =
        (s.log 0x2301 0x20 (leBytes 1 e.target ++ leBytes 1 d ++ leBytes 1 r ++ leBytes 1 e.packed)).evr) ∧
  (∀ (sl : Fin 8) (unit : Nat) (s : State), s.live = true → (s.pws.ps = 1 ∧ unit < 3) ∨ (s.pws.ps = 2 ∧ unit < 7) →
    (sl.val, unit) ∉ s.pws.gated →
    exec (.unitPowerGate sl unit) s = .next { s with pws := { s.pws with gated := s.pws.gated ++ [(sl.val, unit)] } }) ∧
  (∀ (sl : Fin 8) (unit : Nat) (s : State), s.pws.ps = 0 ∨ 2 < s.pws.ps → exec (.unitPowerGate sl unit) s = .next s)

/-- R40, R41, R464, R465: a supply that is not ready has its domain power-cycled up to three times and then holds the part in wake
fault; a crystal that is not ready leaves the timebase on another source until it is. -/
def Obligations.SuppliesAndCrystal : Prop :=
  (∀ (sup : Supply) (s : State), s.phase = .supplies → s.pws.enabled sup = true → s.pws.good sup = false →
    (s.pws.failSupply.toNat = supplyCode sup → s.pws.retries < 3) →
    ∃ t n, exec (.supplyPgTimeout sup) s = .next t ∧ t.phase = .supplies ∧
      n = (if s.pws.failSupply.toNat = supplyCode sup then s.pws.retries else 0) + 1 ∧ t.pws.retries = n ∧
      t.pws.failSupply = BitVec.ofNat 2 (supplyCode sup) ∧ t.out = s.out ++ [Output.enable sup false, .enable sup true] ∧
      t.tb = { s.tb with srcAct := .ring } ∧
      t.evr = (s.log 0x2303 0xFF (leBytes 1 (supplyCode sup) ++ leBytes 1 n)).evr ∧ Changes [.pws, .evr, .out, .tb] s t) ∧
  (∀ (sup : Supply) (s : State), s.phase = .supplies → s.pws.enabled sup = true → s.pws.good sup = false →
    s.pws.failSupply.toNat = supplyCode sup → 3 ≤ s.pws.retries →
    ∃ t, exec (.supplyPgTimeout sup) s = .next t ∧ t.phase = .wakeFault ∧ t.pws.wakeFault = true ∧
      (∀ p : Fin 2, t.ports[p].link = .down) ∧ t.tb = { s.tb with srcAct := .ring } ∧
      t.evr = (s.log 0x2302 0xFF (leBytes 1 (supplyCode sup) ++ leBytes 1 3)).evr ∧
      Changes [.phase, .ports, .pws, .evr, .tb] s t) ∧
  (∀ (s : State), s.starting = true → s.pws.xoTimedOut = false → s.tb.srcAct = .crystal →
    ∃ t, exec .xoReadyTimeout s = .next t ∧ t.pws.xoTimedOut = true ∧ t.pws.xoReady = false ∧ t.tb.crystalUp = false ∧
      t.tb.srcAct = (if s.tb.refclkUp then .refclk else .ring) ∧ t.tb.srcFail = true ∧ t.tb.count = s.tb.count ∧
      Changes [.pws, .tb, .evr] s t) ∧
  (∀ (s : State), s.pws.xoTimedOut = true → s.pws.xoReady = false →
    ∃ t, exec .crystalReady s = .next t ∧ t.pws = { s.pws with xoReady := true } ∧
      t.tb.crystalUp = true ∧ t.tb.srcAct = (if s.tb.srcSel = 1 ∧ s.tb.refclkUp = true then .refclk else .crystal) ∧
      t.tb.count = s.tb.count ∧ Changes [.pws, .tb] s t)

/-- R427, R430, R431: a piece of an image is taken, programmed into staging and completed; a guard refuses it with its status
and records the refusal. -/
def Obligations.ImageDownloaded : Prop :=
  (∀ (fseq ofst : Nat) (bytes : List Byte) (c : Cmd) (s : State), s.AdminReady fseq 0x11 c → s.fwGuard = none →
    ofst % 4096 = 0 → bytes.length % 4096 = 0 → bytes ≠ [] → ofst + bytes.length ≤ 16760832 →
    s.boot.bound = none ∨ s.boot.bound = some c.port → (∀ i ∈ pieceList ofst bytes.length, i ∉ s.boot.covered) →
    ∃ t, exec (.firmwareImageDownload fseq ofst bytes) s = .next t ∧ t.boot.pieces.get? fseq = some (ofst, bytes) ∧
      t.cmq.cmds.get? fseq = some { c with phase := .waitData } ∧ t.boot.staged = s.boot.staged ∧
      (s.boot.covered = [] → t.boot.bound = some c.port ∧ t.evr = (s.log 0x6001 (s.portSrc c.port)).evr) ∧
      (s.boot.covered ≠ [] → t.boot.bound = s.boot.bound ∧ t.evr = s.evr) ∧ Changes [.boot, .evr, .cmq] s t) ∧
  (∀ (fseq ofst : Nat) (bytes : List Byte) (st : Status) (c : Cmd) (s : State), s.AdminReady fseq 0x11 c →
    s.fwGuard = some st →
    ∃ t, exec (.firmwareImageDownload fseq ofst bytes) s = .next t ∧ State.Completed s.out s t fseq c st 0 ∧
      t.boot.lastRefusal = BitVec.ofNat 16 ((refusalCode st).1 * 256 + (refusalCode st).2) ∧
      t.boot.staged = s.boot.staged ∧ t.boot.pieces = s.boot.pieces ∧ t.bst = s.bst) ∧
  (∀ (fseq ofst : Nat) (bytes : List Byte) (c : Cmd) (s : State), s.Flying fseq c .waitData →
    s.boot.pieces.get? fseq = some (ofst, bytes) → memWf 0xFF s.bst.mem = true →
    ∃ t, exec (.downloadPieceProgrammed fseq true) s = .next t ∧ State.Completed s.out s t fseq c .success 0 ∧
      t.boot.staged = s.boot.staged ++ pieceList ofst bytes.length ∧ t.boot.pieces = s.boot.pieces.del fseq ∧
      ∀ i b, bytes[i]? = some b → t.bst.byte (runAddr stagingFirst (ofst + i)) = b) ∧
  (∀ (fseq ofst : Nat) (bytes : List Byte) (c : Cmd) (s : State), s.Flying fseq c .waitData →
    s.boot.pieces.get? fseq = some (ofst, bytes) →
    ∃ t, exec (.downloadPieceProgrammed fseq false) s = .next t ∧ State.Completed s.out s t fseq c .internalError 0 ∧
      t.boot.staged = s.boot.staged ++ pieceList ofst bytes.length)

/-- R428, R431 to R434: the four commit actions, and the write of the image area. -/
def Obligations.FirmwareCommitted : Prop :=
  (∀ (fseq slot action : Nat) (i : Instr) (c : Cmd) (s : State), s.AdminReady fseq 0x10 c →
    (i = .commitReplace fseq slot ∧ action = 0) ∨ (i = .commitActivateAtReset fseq slot ∧ action = 1) ∨
      (i = .commitActivateNow fseq slot ∧ action = 3) →
    s.commitGuard = none → s.boot.updating = false → slot = 0 ∨ slot = 2 →
    ∃ t, exec i s = .next t ∧
      (s.fwVerify (s.sealStaging.bst.image stagingFirst) = none →
        t.boot.state = .writing ∧ t.boot.imageSeq = BitVec.ofNat 32 (imgSeq (s.sealStaging.bst.image stagingFirst)) ∧
        t.boot.prevSeq = BitVec.ofNat 32 (imgSeq s.boot.run) ∧ t.boot.commit = some (fseq, action) ∧
        t.boot.gen = s.boot.gen + 1 ∧ t.cmq.cmds.get? fseq = some { c with phase := .waitData } ∧ t.out = s.out) ∧
      (∀ k, s.fwVerify (s.sealStaging.bst.image stagingFirst) = some k →
        State.Completed s.out s t fseq c .invalidFwImage 0 ∧ t.boot.staged = [] ∧ t.boot.bound = none ∧
        t.boot.state = s.boot.state)) ∧
  (∀ (fseq slot : Nat) (c : Cmd) (s : State), s.AdminReady fseq 0x10 c → s.commitGuard = none → s.boot.updating = false →
    slot = 0 ∨ slot = 2 →
    ∃ t, exec (.commitSetActive fseq slot) s = .next t ∧ State.Completed s.out s t fseq c .success 0 ∧
      t.boot.state = (if s.boot.state = .written then .activateAtReset else s.boot.state) ∧ t.boot.staged = s.boot.staged) ∧
  (∀ (fseq slot : Nat) (i : Instr) (st : Status) (c : Cmd) (s : State), s.AdminReady fseq 0x10 c →
    i ∈ [Instr.commitReplace fseq slot, .commitActivateAtReset fseq slot, .commitSetActive fseq slot, .commitActivateNow fseq slot] →
    s.commitGuard = some st ∨ (s.commitGuard = none ∧ s.boot.updating = true ∧ st = .fwActProhibited) →
    ∃ t, exec i s = .next t ∧ State.Completed s.out s t fseq c st 0 ∧
      t.boot.lastRefusal = BitVec.ofNat 16 ((refusalCode st).1 * 256 + (refusalCode st).2) ∧ t.boot.state = s.boot.state ∧
      t.bst = s.bst) ∧
  (∀ (fseq action : Nat) (c : Cmd) (s : State), s.Flying fseq c .waitData → s.boot.commit = some (fseq, action) →
    action = 0 ∨ (action = 1 ∧ handoverBad s.boot.run (s.bst.image stagingFirst) = false) →
    ∃ t, exec (.imageAreaWritten true) s = .next t ∧ State.Completed s.out s t fseq c .success 0 ∧
      t.boot.state = (if action = 1 then .activateAtReset else .written) ∧ t.boot.commit = none) ∧
  (∀ (fseq action : Nat) (c : Cmd) (s : State), s.Flying fseq c .waitData → s.boot.commit = some (fseq, action) →
    action = 1 ∨ action = 3 → handoverBad s.boot.run (s.bst.image stagingFirst) = true →
    ∃ t, exec (.imageAreaWritten true) s = .next t ∧ State.Completed s.out s t fseq c .fwActConvReset 0 ∧
      t.boot.state = .written ∧ t.boot.commit = none) ∧
  (∀ (fseq action : Nat) (c : Cmd) (s : State), s.Flying fseq c .waitData → s.boot.commit = some (fseq, action) →
    ∃ t, exec (.imageAreaWritten false) s = .next t ∧ State.Completed s.out s t fseq c .internalError 0 ∧
      t.boot.state = s.boot.state ∧ t.boot.commit = none) ∧
  (∀ (s : State), s.live = true → s.boot.commit = none → s.boot.rewriting = true →
    ∃ t, exec (.imageAreaWritten true) s = .next t ∧ t.boot.state = .confirmed ∧ t.boot.rewriting = false ∧ t.boot.tries = 0 ∧
      t.boot.imageSeq = BitVec.ofNat 32 (imgSeq (s.boot.rollback.getD [])))

/-- R278, R435, R436, R438 to R441: a ferry activation from its fetch pause to the landing or the deadline, the trial timer and
its tokens, the confirmation of the image. -/
def Obligations.FerryAndTrial : Prop :=
  (∀ (s : State), s.live = true → s.boot.ferry = .prepared → s.media.ckptDue = none → s.commitGuard = none →
    ∃ s1, exec .ferryPauseBegin s = .next s1.quiesce ∧ s1.boot.ferry = .paused ∧ s1.cmq.paused = true ∧
      s1.cmq.cmds = s.cmq.cmds ∧ s1.evr = (s.log 0x6020 0x20 (leBytes 4 s.boot.imageSeq.toNat)).evr ∧
      Changes [.boot, .cmq, .evr] s s1) ∧
  (∀ (s : State), s.live = true → s.boot.ferry = .paused → s.drained = true →
    exec .ferryDrained s = .next { s with boot := { s.boot with
      ferry := .drained, armed := some (s.boot.imageSeq, s.tb.count.toNat), trialSeq := s.boot.imageSeq
      old := s.boot.run, run := s.boot.next } }) ∧
  (∀ (us fseq : Nat) (c : Cmd) (ph : CmdPhase) (s : State), s.Flying fseq c ph → s.boot.ferry = .drained →
    s.boot.ferryFseq = some fseq → s.dict.held = [] →
    ∃ t, exec (.ferryLanding us) s = .next t ∧ State.Completed s.out s t fseq c .success 0 ∧ t.boot.state = .trial ∧
      t.boot.tries = 1 ∧ t.boot.ferry = .none ∧ t.boot.run = s.boot.run ∧ t.boot.armed = s.boot.armed ∧
      t.cmq.paused = false ∧ t.boot.ledgerCount = s.boot.ledgerCount + (if s.hasAk then 1 else 0)) ∧
  (∀ (fseq : Nat) (c : Cmd) (ph : CmdPhase) (s : State), s.Flying fseq c ph → s.boot.ferry = .paused ∨ s.boot.ferry = .drained →
    s.boot.ferryFseq = some fseq → s.dict.held = [] →
    ∃ t, exec .ferryDeadline s = .next t ∧ State.Completed s.out s t fseq c .fwActMtfa 0 ∧ t.boot.state = .written ∧
      t.boot.ferry = .none ∧ t.boot.armed = none ∧ t.cmq.paused = false ∧ t.cmq.abandoned = true ∧
      t.boot.run = (if s.boot.ferry = .drained then s.boot.old else s.boot.run)) ∧
  (∀ (s : State), s.live = true → s.boot.armed = none →
    exec .trialArm s = .next { s with boot := { s.boot with armed := some (s.boot.trialSeq, s.tb.count.toNat) } }) ∧
  (∀ (v q : BitVec 32) (t0 : Nat) (s : State), s.live = true → s.boot.armed = some (q, t0) →
    exec (.trialToken v) s = .next (if q = v then { s with boot := { s.boot with armed := none } } else s)) ∧
  (∀ (c : Fin 32) (v : BitVec 32) (s : State), s.live = true → c = 28 ∨ c = 29 → s.boot.state = .trial → v = s.boot.imageSeq →
    s.healthy = true →
    ∃ t, exec (.healthToken (.core c) v) s = .next t ∧ t.boot.copying = true ∧
      (∀ q t0, s.boot.armed = some (q, t0) → q = v → t.boot.armed = none) ∧ Changes [.boot] s t) ∧
  (∀ (c : Fin 32) (v : BitVec 32) (s : State), s.live = true → c ≠ 28 → c ≠ 29 →
    exec (.healthToken (.core c) v) s = .next { s with out := s.out ++ [Output.accessError (.core c)] }) ∧
  (∀ (s : State), s.live = true → s.boot.copying = true →
    ∃ t, exec .rollbackCopyComplete s = .next t ∧ t.boot.state = .confirmed ∧ t.boot.rollback = some s.boot.run ∧
      t.boot.svnMin = max s.boot.svnMin (imgSvn s.boot.run) ∧ t.boot.confirmedSeq = BitVec.ofNat 32 (imgSeq s.boot.run) ∧
      t.boot.staged = [] ∧ t.boot.copying = false ∧
      t.evr = (s.log 0x6030 0x20 (leBytes 4 (imgSeq s.boot.run) ++ leBytes 2 (imgSvn s.boot.run))).evr) ∧
  (∀ (q : BitVec 32) (t0 : Nat) (s : State), s.boot.armed = some (q, t0) → s.phase = .running ∨ s.phase = .recovering →
    ∃ s1, exec .trialTimerExpire s = .next s1.flushBody ∧ s1.phase = .trialFlush ∧ s1.boot.armed = none ∧
      s1.evr = (s.log 0x6031 0x20 (leBytes 4 q.toNat)).evr ∧ Changes [.phase, .boot, .pws, .evr] s s1) ∧
  (∀ (i : Instr) (us : Nat) (s : State), s.phase = .trialFlush → s.plp.pfail = false →
    i = .trialFlushDeadline ∨ (i = .flushMark us ∧ s.flushDone = true) →
    ∃ t, exec i s = .next t ∧ t.phase = .rom ∧ t.boot.trialExpired = true ∧ t.land.lines = [] ∧ t.cmq.cmds = [] ∧
      t.media.nand = s.media.nand)

/-- R63, R66, R94, R183, R254, R274: Flush, Compare, Verify, Copy, Write Zeroes and Dataset Management. -/
def Obligations.OtherIoCommands : Prop :=
  (∀ (fseq nsid i : Nat) (n : Namespace) (c : Cmd) (s : State), s.Flying fseq c .ready → c.cmd = .flush (some nsid) →
    s.nsOf c.port nsid = some (i, n) →
    ∃ t, exec (.flushCommand fseq) s = .next t ∧
      ((∀ e ∈ s.land.lines, e.2.ns = i → e.2.wt = true ∨ (e.2.st ≠ .committed ∧ e.2.st ≠ .packed)) →
        State.Completed s.out s t fseq c .success 0) ∧
      ((∃ e ∈ s.land.lines, e.2.ns = i ∧ e.2.wt = false ∧ (e.2.st = .committed ∨ e.2.st = .packed)) →
        ∃ c', t.cmq.cmds.get? fseq = some c' ∧ c'.phase = .waitRows ∧ c'.lines = (s.land.lines.filter (fun e =>
          decide (e.2.ns = i) && !e.2.wt && (e.2.st == .committed || e.2.st == .packed))).map (·.1))) ∧
  (∀ (fseq ns : Nat) (n : Namespace) (ranges : List (Nat × Nat)) (data : List Sector) (c : Cmd) (r : ReadReq) (s : State),
    s.ReadReady fseq ns n ranges c → c.cmd = .compare r →
    ∃ t, exec (.compare fseq data) s = .next t ∧ State.Completed s.out s t fseq c
      (if s.runData ns n ranges = data then .success else .compareFailure) 0) ∧
  (∀ (fseq ns : Nat) (n : Namespace) (ranges : List (Nat × Nat)) (c : Cmd) (r : ReadReq) (s : State),
    s.ReadReady fseq ns n ranges c → c.cmd = .verify r →
    ∃ t, exec (.verify fseq) s = .next t ∧ State.Completed s.out s t fseq c .success 0) ∧
  (∀ (fseq ns nsid sdlba format : Nat) (n : Namespace) (ranges : List (Nat × Nat)) (c : Cmd) (s : State),
    s.ReadReady fseq ns n ranges c → c.cmd = .copy nsid sdlba format ranges → c.wdata = [] →
    ∃ s1 c', exec (.copy fseq) s = .next (s1.landStart fseq (s.runData ns n ranges)) ∧ s1.cmq.cmds.get? fseq = some c' ∧
      c'.wdata = s.runData ns n ranges ∧ c'.awaiting = [] ∧ Changes [.cmq] s s1) ∧
  (∀ (fseq nsid slba nlb i : Nat) (dealloc : Bool) (n : Namespace) (c : Cmd) (s : State), s.Flying fseq c .ready →
    s.cmq.cmds = [(fseq, c)] → c.cmd = .writeZeroes nsid slba nlb dealloc → s.nsOf c.port nsid = some (i, n) →
    1 ≤ nlb → slba + nlb ≤ n.nlbas → s.media.protected_ = false → s.readOnly = false ∨ dealloc = true →
    s.deniedRun i n slba nlb none true = false → n.zoned = false → n.partUnits slba nlb = [] →
    s.media.absentIn i [n.wholeRun slba nlb] = [] →
    ∃ s1, exec (.writeZeroes fseq) s = .next s1.resumeAll.settleStripes ∧ State.Completed s.out s s1 fseq c .success 0 ∧
      (∀ u, (n.wholeRun slba nlb).1 ≤ u → u < (n.wholeRun slba nlb).1 + (n.wholeRun slba nlb).2 →
        s1.media.map.get? (gkey i u) = (if dealloc then none else some .zero)) ∧
      (∀ k, (∀ u, (n.wholeRun slba nlb).1 ≤ u → u < (n.wholeRun slba nlb).1 + (n.wholeRun slba nlb).2 → k ≠ gkey i u) →
        s1.media.map.get? k = s.media.map.get? k)) ∧
  (∀ (fseq nsid i : Nat) (ranges : List (Nat × Nat)) (n : Namespace) (c : Cmd) (s : State), s.Flying fseq c .ready →
    s.cmq.cmds = [(fseq, c)] → c.cmd = .dsm nsid true ranges → s.nsOf c.port nsid = some (i, n) → ranges.length ≤ 256 →
    (∀ r ∈ ranges, r.1 + r.2 ≤ n.nlbas) → s.media.protected_ = false →
    (∀ r ∈ ranges, r.2 ≠ 0 → s.deniedRun i n r.1 r.2 none true = false) →
    s.media.absentIn i ((ranges.filter (fun r => r.2 ≠ 0)).map (fun r => n.wholeRun r.1 r.2)) = [] →
    ∃ s1, exec (.datasetManagement fseq) s = .next s1.resumeAll.settleStripes ∧ State.Completed s.out s s1 fseq c .success 0 ∧
      (∀ r ∈ ranges, r.2 ≠ 0 → ∀ u, (n.wholeRun r.1 r.2).1 ≤ u → u < (n.wholeRun r.1 r.2).1 + (n.wholeRun r.1 r.2).2 →
        s1.media.map.get? (gkey i u) = none) ∧
      (∀ k, (∀ r ∈ ranges, r.2 ≠ 0 → ∀ u, (n.wholeRun r.1 r.2).1 ≤ u →
          u < (n.wholeRun r.1 r.2).1 + (n.wholeRun r.1 r.2).2 → k ≠ gkey i u) →
        s1.media.map.get? k = s.media.map.get? k)) ∧
  (∀ (fseq nsid i : Nat) (ranges : List (Nat × Nat)) (n : Namespace) (c : Cmd) (s : State), s.Flying fseq c .ready →
    c.cmd = .dsm nsid false ranges → s.nsOf c.port nsid = some (i, n) → ranges.length ≤ 256 →
    (∀ r ∈ ranges, r.1 + r.2 ≤ n.nlbas) →
    ∃ t, exec (.datasetManagement fseq) s = .next t ∧ State.Completed s.out s t fseq c .success 0 ∧ t.media.map = s.media.map)

/-- R215, R216, R253, R271: the reservation commands, and the two commands of flexible data placement. -/
def Obligations.ReservationsAndPlacement : Prop :=
  (∀ (fseq nsid i : Nat) (action : Fin 3) (ignore : Bool) (cur new : BitVec 64) (n : Namespace) (c : Cmd) (s : State),
    s.Flying fseq c .ready → c.cmd = .resv 0x0D nsid → s.nsOf c.port nsid = some (i, n) →
    ∃ t, exec (.reservationRegister fseq action ignore cur new) s = .next t ∧
      (∀ r, n.resv.register c.port action ignore cur new = some r → State.Completed s.out s t fseq c .success 0 ∧
        t.media.namespaces.get? i = some { n with resv := r }) ∧
      (n.resv.register c.port action ignore cur new = none → State.Completed s.out s t fseq c .resvConflict 0 ∧
        t.media = s.media)) ∧
  (∀ (fseq nsid i rtype : Nat) (action : Fin 3) (ignore : Bool) (cur pre : BitVec 64) (n : Namespace) (c : Cmd) (s : State),
    s.Flying fseq c .ready → c.cmd = .resv 0x11 nsid → s.nsOf c.port nsid = some (i, n) → 1 ≤ rtype → rtype ≤ 6 →
    ∃ t, exec (.reservationAcquire fseq action rtype ignore cur pre) s = .next t ∧
      (∀ r, n.resv.acquire c.port action rtype ignore cur pre = some r → State.Completed s.out s t fseq c .success 0 ∧
        t.media.namespaces.get? i = some { n with resv := r }) ∧
      (n.resv.acquire c.port action rtype ignore cur pre = none → State.Completed s.out s t fseq c .resvConflict 0 ∧
        t.media = s.media)) ∧
  (∀ (fseq nsid i rtype : Nat) (action : Fin 2) (ignore : Bool) (cur : BitVec 64) (n : Namespace) (c : Cmd) (s : State),
    s.Flying fseq c .ready → c.cmd = .resv 0x15 nsid → s.nsOf c.port nsid = some (i, n) →
    ∃ t, exec (.reservationRelease fseq action rtype ignore cur) s = .next t ∧
      (∀ r, n.resv.release c.port action rtype ignore cur = .ok r → State.Completed s.out s t fseq c .success 0 ∧
        t.media.namespaces.get? i = some { n with resv := r }) ∧
      (∀ st, n.resv.release c.port action rtype ignore cur = .error st → State.Completed s.out s t fseq c st 0 ∧
        t.media = s.media)) ∧
  (∀ (fseq nsid i : Nat) (n : Namespace) (c : Cmd) (s : State), s.Flying fseq c .ready → c.cmd = .resv 0x0E nsid →
    s.nsOf c.port nsid = some (i, n) →
    ∃ t v, exec (.reservationReport fseq) s = .next t ∧ State.Completed (s.out ++ [Output.reply fseq 0x0E0000 v]) s t fseq c .success 0 ∧
      v = [n.resv.gen, n.resv.rtype, (n.resv.holder.map (fun p => p.val + 1)).getD 0] ++
        n.resv.regs.flatMap (fun e => [e.port.val, e.key.toNat])) ∧
  (∀ (r : Reservation) (p : Fin 2) (ignore : Bool) (cur new : BitVec 64), r.keyOf p = none →
    r.register p 0 ignore cur new = some { r with regs := r.regs ++ [{ port := p, key := new }], gen := r.gen + 1 } ∧
    (∀ rtype action pre, r.acquire p action rtype ignore cur pre = none)) ∧
  (∀ (r : Reservation) (p : Fin 2) (rtype : Nat) (cur : BitVec 64), r.keyOf p = some cur → r.holder = none →
    r.acquire p 0 rtype false cur 0 = some { r with holder := some p, rtype := rtype }) ∧
  (∀ (r : Reservation) (p : Fin 2) (cur : BitVec 64), r.keyOf p = some cur → r.holder = some p →
    r.release p 0 r.rtype false cur = .ok { r with holder := none, rtype := 0 }) ∧
  (∀ (r : Reservation) (p h : Fin 2), r.holder = some h → h ≠ p →
    (r.rtype = 1 → r.conflicts p true = true ∧ r.conflicts p false = false) ∧
    (r.rtype = 2 → ∀ w, r.conflicts p w = true) ∧
    (r.rtype = 3 ∨ r.rtype = 5 → r.conflicts p false = false ∧ (r.conflicts p true = false ↔ ∃ e ∈ r.regs, e.port = p)) ∧
    (r.rtype = 4 ∨ r.rtype = 6 → ∀ w, (r.conflicts p w = false ↔ ∃ e ∈ r.regs, e.port = p))) ∧
  (∀ (fseq nsid i : Nat) (n : Namespace) (c : Cmd) (s : State), s.Flying fseq c .ready → c.cmd = .ioMgmtRecv nsid →
    s.nsOf c.port nsid = some (i, n) →
    ∃ t, exec (.ioManagementReceive fseq) s = .next t ∧
      (n.placement = 1 → ∃ v, State.Completed (s.out ++ [Output.reply fseq 0x120000 v]) s t fseq c .success 0 ∧
        v.length = s.media.handleMax ∧ ∀ h x, h < s.media.handleMax → s.media.openStripe (.host h) = some x →
          v[h]? = some (s.media.wordlines - x.2.nextRow)) ∧
      (n.placement ≠ 1 → State.Completed s.out s t fseq c .invalidField 0)) ∧
  (∀ (fseq nsid i h : Nat) (x : Nat × Stripe) (n : Namespace) (c : Cmd) (s : State), s.Flying fseq c .ready →
    c.cmd = .ioMgmtSend nsid [h] → s.nsOf c.port nsid = some (i, n) → n.placement = 1 → h < s.media.handleMax →
    s.media.openStripe (.host h) = some x →
    ∃ t before, exec (.reclaimUnitHandleUpdate fseq) s = .next t ∧ s.out <+: before ∧
      State.Completed before s t fseq c .success 0 ∧ (t.media.stripes.get? x.1).any (fun y => !y.isOpen) = true ∧
      t.media.fdpEvents = (if s.media.fdp then s.media.fdpEvents ++ [(h, 1)] else s.media.fdpEvents))

/-- R217 to R219: the zone actions on one zone, the zone report, and a zone append at the write pointer. -/
def Obligations.ZonesManaged : Prop :=
  (∀ (fseq nsid slba i z : Nat) (act : ZoneAct) (ins : Instr) (n : Namespace) (c : Cmd) (s : State), s.Flying fseq c .ready →
    s.cmq.cmds = [(fseq, c)] →
    ins = (match act with
      | .finish => Instr.zoneFinish fseq
      | .reset => .zoneReset fseq
      | .openZone => .zoneOpen fseq
      | .close => .zoneClose fseq) →
    c.cmd = .zoneSend nsid slba false act → s.nsOf c.port nsid = some (i, n) → n.zoned = true → slba < n.nlbas →
    slba * n.spb = z * s.media.zoneSize * 8 → n.granuleOf slba / s.media.zoneSize = z →
    (act = .reset → s.deniedRun i n slba 1 none true = false ∧
      s.media.absentIn i [(z * s.media.zoneSize, s.media.zoneSize)] = []) →
    ∃ t, exec ins s = .next t ∧
      (∀ st, zoneMay act (s.zone n z).st = some st → State.Completed s.out s t fseq c st 0 ∧ t.media = s.media) ∧
      (act = .finish → (s.zone n z).st ≠ .readOnly → ∃ before n', s.out <+: before ∧
        State.Completed before s t fseq c .success 0 ∧ t.media.namespaces.get? i = some n' ∧
        n'.zones.get? z = some { s.zone n z with st := .full }) ∧
      (act = .openZone → (s.zone n z).st.isOpen = true ∨ (s.zone n z).st = .closed →
        State.Completed s.out s t fseq c .success 0 ∧ ∃ n', t.media.namespaces.get? i = some n' ∧
        n'.zones.get? z = some { s.zone n z with st := .explOpen }) ∧
      (act = .openZone → (s.zone n z).st = .empty → s.media.activeMax ≤ s.media.zonesWith ZoneSt.active →
        State.Completed s.out s t fseq c .tooManyActiveZones 0) ∧
      (act = .close → (s.zone n z).st.isOpen = true →
        State.Completed s.out s t fseq c .success 0 ∧ ∃ n', t.media.namespaces.get? i = some n' ∧
        n'.zones.get? z = some { s.zone n z with st := if (s.zone n z).wp = 0 then .empty else .closed }) ∧
      (act = .reset → (s.zone n z).st.active = true ∨ (s.zone n z).st = .full → ∃ before n', s.out <+: before ∧
        State.Completed before s t fseq c .success 0 ∧ t.media.namespaces.get? i = some n' ∧ n'.zones.get? z = none ∧
        ∀ u, z * s.media.zoneSize ≤ u → u < (z + 1) * s.media.zoneSize → t.media.map.get? (gkey i u) = none)) ∧
  (∀ (fseq nsid slba i : Nat) (n : Namespace) (c : Cmd) (s : State), s.Flying fseq c .ready → c.cmd = .zoneRecv nsid slba →
    s.nsOf c.port nsid = some (i, n) → n.zoned = true → slba < n.nlbas →
    ∃ t v, exec (.zoneManagementReceive fseq) s = .next t ∧
      State.Completed (s.out ++ [Output.reply fseq 0x7A0000 v]) s t fseq c .success 0 ∧
      v.length = 4 * (s.zoneCount n - n.granuleOf slba / s.media.zoneSize)) ∧
  (∀ (fseq i : Nat) (n : Namespace) (c : Cmd) (d : Dest) (r : WriteReq) (ls : List Nat) (s : State), s.MayLand fseq c d →
    c.cmd = .zoneAppend r → s.nsOf c.port r.nsid = some (i, n) → n.zoned = true → r.nlb * n.spb ≤ 512 →
    r.slba * n.spb = n.granuleOf r.slba / s.media.zoneSize * s.media.zoneSize * 8 →
    s.land.alloc d.granules.length = some ls →
    ∃ t c', exec (.zoneAppend fseq) s = .next t ∧ t.cmq.cmds.get? fseq = some c' ∧ c'.phase = .filling ∧ c'.lines = ls ∧
      d.slba = n.lbaOf (n.granuleOf r.slba / s.media.zoneSize * s.media.zoneSize +
        (s.zone n (n.granuleOf r.slba / s.media.zoneSize)).wp) ∧ t.out = s.out)

/-- R275, R276, R306, R308, R309, R335: what every reset of a controller does: the controller is disabled with its saved features, no
command of it is left but a Format NVM or a Sanitize that runs on in silence, no completion entry is posted for it, its
containment is released, and the other controller keeps its queues. -/
def Obligations.ControllerResets : Prop :=
  (∀ (i : Instr) (p : Fin 2) (s : State), s.live = true → s.asleep = false → p ∈ s.portList → s.degradeDue = false →
    s.pws.entry = none → s.pws.ps ≠ 3 →
    (i = .ccDisable p ∧ s.linkUp p = true ∧ (s.ctrl p).en = true) ∨ (i = .functionLevelReset p ∧ s.linkUp p = true) ∨
      (i = .hotReset p ∧ s.linkUp p = true) ∨ (i = .linkDown p ∧ s.linkUp p = true) ∨ (i = .perstAssert p ∧ s.ports[p].perst = false) →
    ∃ t, exec i s = .next t ∧ (t.ctrl p).en = false ∧ (t.ctrl p).rdy = false ∧ (t.ctrl p).sqs = [] ∧ (t.ctrl p).cqs = [] ∧
      (t.ctrl p).cfs = (s.ctrl p).cfs ∧ (t.ctrl p).feat = (s.ctrl p).featSaved ∧ (t.ctrl p).featSaved = (s.ctrl p).featSaved ∧
      t.ports[p].cnt.active = false ∧ (∀ e ∈ t.cmq.cmds, e.2.port = p → e.2.silent = true) ∧
      (∀ o ∈ t.out.drop s.out.length, ∀ cq sq cid st d, o ≠ Output.cqe p cq sq cid st d) ∧
      (∀ q : Fin 2, q ≠ p → (t.ctrl q).en = (s.ctrl q).en ∧ (t.ctrl q).sqs = (s.ctrl q).sqs ∧
        t.ports[q].link = s.ports[q].link) ∧
      (i = .functionLevelReset p → t.ports[p].config = [] ∧ t.ports[p].link = s.ports[p].link) ∧
      (i = .hotReset p → t.ports[p].config = [] ∧ t.ports[p].link = .detect) ∧
      (i = .linkDown p → t.ports[p].config = [] ∧ t.ports[p].link = .down) ∧
      (i = .perstAssert p → t.ports[p].config = [] ∧ t.ports[p].link = .down ∧ t.ports[p].perst = true)) ∧
  (∀ (s : State), s.live = true → s.asleep = false → s.degradeDue = false → s.pws.entry = none → s.pws.ps ≠ 3 →
    ∃ t, exec .nvmSubsystemReset s = .next t ∧ ∀ p ∈ s.portList, (t.ctrl p).en = false ∧ (t.ctrl p).rdy = false ∧
      (t.ctrl p).sqs = [] ∧ (t.ctrl p).cqs = []) ∧
  (∀ (p : Fin 2) (s : State), s.live = true → s.asleep = false → p ∈ s.portList → s.degradeDue = true → s.linkUp p = true →
    (s.ctrl p).en = true →
    ∃ t, exec (.ccDisable p) s = .next t ∧ t.phase = .rom ∧ t.dram.degraded = true ∧ t.media.nand = s.media.nand) ∧
  (∀ (p : Fin 2) (wrr : Bool) (asqs acqs : Nat) (s : State), s.live = true → p ∈ s.portList → s.linkUp p = true →
    (s.ctrl p).en = false →
    ∃ t, exec (.ccEnable p wrr asqs acqs) s = .next t ∧ (t.ctrl p).en = true ∧ (t.ctrl p).wrr = wrr ∧
      (t.ctrl p).sqs.get? 0 = some { size := asqs, cqid := 0 } ∧ (t.ctrl p).cqs.get? 0 = some { size := acqs } ∧
      ((t.ctrl p).rdy = true ↔ (s.ctrl p).rdy = true ∨ (s.phase = .running ∧ s.mayWrite p = true ∧
        ∀ e ∈ s.cmq.cmds, e.2.port = p → e.2.silent = false)) ∧ Changes [.cmq] s t)

/-- R246, R277, R283, R284, R296 to R298, R308, R465, R512: shutdowns, PERST# released, and the states of a link. -/
def Obligations.ShutdownAndLink : Prop :=
  (∀ (p : Fin 2) (s : State), s.live = true → (s.ctrl p).en = true → (s.ctrl p).shst ≠ 2 →
    ∃ t, exec (.normalShutdown p) s = .next t ∧ t.fetches p = false ∧
      (s.busyCmds p = true → t = s.setCtrl p (fun c => { c with shst := 1 })) ∧
      (s.busyCmds p = false → s.media.rows = [] → s.media.copyWait = [] → s.land.lines = [] → (s.ctrl p).ckpt = false →
        ((s.setCtrl p (fun c => { c with shst := 1 })).checkpoint.media.ckptDue ≠ none →
          (t.ctrl p).shst = 1 ∧ (t.ctrl p).ckpt = true ∧ t.media.ckpt = s.media.ckpt) ∧
        (s.media.dirtyPages = [] → s.media.sysWait = [] →
          (t.ctrl p).shst = 2 ∧ t.media.ckpt = some s.media.ringHead ∧ t.media.map = s.media.map)) ∧
      (s.busyCmds p = false → s.media.rows = [] → s.media.copyWait = [] → s.land.lines = [] → (s.ctrl p).ckpt = true →
        s.media.ckptDue = none → (t.ctrl p).shst = 2 ∧ (t.ctrl p).ckpt = false ∧ t.media = s.media)) ∧
  (∀ (p : Fin 2) (s : State), s.live = true → (s.ctrl p).en = true → (s.ctrl p).shst ≠ 2 →
    s.media.rows = [] → s.media.copyWait = [] → s.land.lines = [] →
    ∃ t, exec (.abruptShutdown p) s = .next t ∧ (t.ctrl p).shst = 2 ∧ t.media.ckpt = s.media.ckpt ∧
      t.media.dirtyPages = s.media.dirtyPages ∧ t.boot.replayDue = true ∧ t.fetches p = false) ∧
  (∀ (p : Fin 2) (s : State), s.ports[p].perst = true → s.phase = .wakeFault →
    ∃ t, exec (.perstDeassert p) s = .next t ∧ t.phase = .supplies ∧ t.ports[p].perst = false ∧ t.pws.wakeFault = false ∧
      t.pws.retries = 0 ∧ t.pws.en1v8 = true ∧ t.out = s.out ++ [Output.enable .vcore false, .enable .vioNand false,
        .enable .v1p8 false, .enable .v1p8 true]) ∧
  (∀ (p : Fin 2) (s : State), s.ports[p].perst = true → s.phase ≠ .off → s.phase ≠ .wakeFault →
    ∃ t, exec (.perstDeassert p) s = .next t ∧ t.ports[p].perst = false ∧
      (t.canTrain p = true → t.ports[p].link = .detect) ∧ (t.canTrain p = false → t.ports[p].link = s.ports[p].link) ∧
      t.tb.refclkUp = true ∧ t.tb.count = s.tb.count ∧ Changes [.ports, .tb] s t) ∧
  (∀ (p : Fin 2) (rate width : Nat) (s : State), s.canTrain p = true → s.linkUp p = false →
    ∃ t, exec (.linkUp p rate width) s = .next t ∧ t.ports[p].link = .l0 ∧ t.ports[p].rate = rate ∧ t.ports[p].width = width ∧
      t.evr = (s.logs ([⟨0x4100, s.portSrc p, leBytes 1 rate ++ leBytes 1 width⟩] ++
        if rate < 64 ∨ width < s.fullWidth then [⟨0x4102, s.portSrc p, leBytes 1 rate ++ leBytes 1 width⟩] else [])).evr ∧
      Changes [.ports, .evr] s t) ∧
  (∀ (p : Fin 2) (s : State), s.live = true →
    (s.ports[p].link = .l0 → s.param 0x2000 1 = 1 → exec (.l0pNarrow p) s = .next (s.setLink p .l0p)) ∧
    (s.param 0x2000 1 ≠ 1 → exec (.l0pNarrow p) s = .next s) ∧
    (s.ports[p].link = .l0p → exec (.l0pWiden p) s = .next (s.setLink p .l0)) ∧
    (s.ports[p].link = .l0 ∨ s.ports[p].link = .l0p → s.quiet p = true → exec (.l1IdleExpire p) s = .next (s.setLink p .l1)) ∧
    (s.quiet p = false → exec (.l1IdleExpire p) s = .next s) ∧
    (s.ports[p].link = .l1 → exec (.l1Exit p) s = .next (s.setLink p .l0))) ∧
  (∀ (p : Fin 2) (s : State), s.live = true → s.ports[p].ide = .secure → s.ports[p].cnt.active = true →
    ∃ t, exec (.ideIntegrityFailure p) s = .next t ∧ t.ports[p].ide = .insecure ∧
      t.ports[p].cnt.causes = s.ports[p].cnt.causes ||| (1 <<< 4) ∧ t.evr = (s.log 0x5220 (s.portSrc p)).evr ∧
      Changes [.ports, .evr] s t)

/-- R280, R299 to R306: containment: the function's commands get their fates, its lent channels halt, its host sees nothing of it;
a release by resume posts the held completions; a poisoned or missing completion is a trigger or ends its command. -/
def Obligations.Containment : Prop :=
  (∀ (i : Instr) (p : Fin 2) (trig : Fin 8) (s : State), s.live = true → s.ports[p].cnt.active = false → s.boot.ferryFseq = none →
    (i = .contain p ∧ trig = 0) ∨ (i = .containBmc p ∧ trig = 1 ∧ s.ports[p].cnt.trigEn.getLsbD 1 = true) ∨
      (∃ f, i = .poisonedCompletion p f ∧ trig = 2 ∧ s.ports[p].cnt.trigEn.getLsbD 2 = true) ∨
      (∃ f, i = .completionTimeout p f ∧ trig = 3 ∧ s.ports[p].cnt.trigEn.getLsbD 3 = true) →
    ∃ s1 : State, exec i s = .next s1.resumeAll ∧ s1.ports[p].cnt.active = true ∧ s1.ports[p].cnt.fatesValid = false ∧
      s1.ports[p].cnt.causes = 1 <<< trig.val ∧ s1.ports[p].cnt.first = BitVec.ofNat 3 trig.val ∧
      s1.ports[p].cnt.tb = s.tb.count ∧ s1.ports[p].cnt.total = satInc s.ports[p].cnt.total ∧
      s1.ports[p].cnt.fates = (s.cmq.cmds.filter (fun e => e.2.port = p)).map (fun e => Cmd.record e.1 e.2) ∧
      (∀ e ∈ s1.cmq.cmds, e.2.port = p → e.2.fate = 5 ∨ e.2.fate = 6) ∧
      (∀ q : Fin 2, q ≠ p → s1.ports[q] = s.ports[q]) ∧
      (∀ ch ∈ s.lentOf p, s.sdm.chs[ch].state = .running → s1.sdm.chs[ch].state = .halted ∧ s1.sdm.chs[ch].code = 0x30) ∧
      s1.out = s.out ++ (if trig = 0 then [] else if trig = 1 then [.miNotify 0x4201 p.val]
        else if s.ports[p].aerMasked then [] else [.errNonFatal p])) ∧
  (∀ (p : Fin 2) (trig : Fin 8) (s : State), s.ports[p].cnt.active = true →
    ∃ t, s.trip p trig = t ∧ t.ports[p].cnt = { s.ports[p].cnt with causes := s.ports[p].cnt.causes ||| (1 <<< trig.val) } ∧
      Changes [.ports] s t) ∧
  (∀ (c : Cmd), (c.phase = .waitLocks → c.got = [] → c.fate = 1) ∧ (c.phase = .outstanding → c.fate = 6) ∧
    (c.phase = .waitRows → (∀ n, c.cmd ≠ .flush n) → c.fate = 2) ∧ (c.phase = .ready → runsOn c.cmd = true → c.fate = 5) ∧
    (c.phase = .ready → byUnits c.cmd = true → c.fate = 4)) ∧
  (∀ (p : Fin 2) (s : State), s.live = true → s.ports[p].cnt.active = true →
    ∃ t, exec (.fateTableComplete p) s = .next t ∧ t.ports[p].cnt = { s.ports[p].cnt with fatesValid := true } ∧ Changes [.ports] s t) ∧
  (∀ (p : Fin 2) (s : State), s.live = true → s.ports[p].cnt.active = true → s.ports[p].cnt.fatesValid = true →
    s.ports[p].cnt.causes &&& 0xF0 = 0 → (s.ctrl p).en = true → (s.ctrl p).dbLatch = [] → s.ports[p].cnt.fates = [] →
    ∃ s1 : State, exec (.resume p) s = .next s1.resumeAll ∧ s1.ports[p].cnt = { s.ports[p].cnt with active := false } ∧ s1.out = s.out ∧
      s1.evr = (s.log 0x4202 (s.portSrc p) (leBytes 2 0)).evr ∧ s1.cmq.cmds = s.cmq.cmds) ∧
  (∀ (p : Fin 2) (f : Fate) (cq : Cq) (s : State), s.live = true → s.ports[p].cnt.active = true → s.ports[p].cnt.fatesValid = true →
    s.ports[p].cnt.causes &&& 0xF0 = 0 → (s.ctrl p).en = true → (s.ctrl p).dbLatch = [] → s.ports[p].cnt.fates = [f] →
    (s.ctrl p).cqs.get? ((s.ctrl p).cqOf f.sqid) = some cq → cq.used + 1 < cq.size → s.mayWrite p = true →
    ∃ s1 : State, exec (.resume p) s = .next s1.resumeAll ∧ s1.ports[p].cnt = { s.ports[p].cnt with active := false } ∧
      (f.fate = 1 ∨ f.fate = 3 ∨ f.fate = 4 →
        s1.out = s.out ++ [Output.cqe p ((s.ctrl p).cqOf f.sqid) f.sqid f.cid .vsC4 0, .msix p cq.vector]) ∧
      (f.fate = 2 → f.st = some .success →
        s1.out = s.out ++ [Output.cqe p ((s.ctrl p).cqOf f.sqid) f.sqid f.cid .success 0, .msix p cq.vector])) ∧
  (∀ (p : Fin 2) (s : State), s.live = true → s.ports[p].cnt.causes &&& 0xF0 ≠ 0 →
    exec (.resume p) s = .next (s.setPort p (fun q => { q with cnt := { q.cnt with resumeRefused := true } }))) ∧
  (∀ (p : Fin 2) (fseq : Nat) (c : Cmd) (s : State), s.Flying fseq c c.phase → c.port = p →
    s.ports[p].cnt.trigEn.getLsbD 2 = false →
    ∃ s1 : State, exec (.poisonedCompletion p fseq) s = .next s1.resumeAll ∧ s1.cmq.cmds.get? fseq = none ∧
      ∃ vec, [Output.cqe c.port (s.cqOf c) c.sqid c.cid .dataTransferError 0, Output.msix c.port vec] <:+ s1.out)

/-- R49, R418 to R420, R422, R424: how the event recorder takes one event: one like the last record is absorbed; a boot or security
event is written; any other spends a token of its code and is suppressed where none is left; a new record waits in SRAM while journal
memory is not reachable. Tokens come back, REPEAT, operating seconds and the host timestamp are persisted, and the next SEQ is read
through a latch of the reader's own. -/
def Obligations.EventsRecorded : Prop :=
  (∀ (e : Evr) (c : Clocks) (tb : BitVec 64) (ev : Ev), (e.journalUp = true → e.early = []) →
     (∀ l, e.last = some l → l.code = ev.code → l.source = BitVec.ofNat 8 ev.src → l.data = padTo 16 0 ev.data →
       (e.takeIn c tb ev).last = some { l with repeats := satInc l.repeats, lastOpsec := c.opsec.setWidth 32 } ∧
       (e.takeIn c tb ev).next = e.next ∧ (e.takeIn c tb ev).tokens = e.tokens ∧ (e.takeIn c tb ev).suppTotal = e.suppTotal ∧
       (e.takeIn c tb ev).recs.length = e.recs.length ∧ (e.takeIn c tb ev).early.length = e.early.length) ∧
     ((∀ l, e.last = some l → ¬(l.code = ev.code ∧ l.source = BitVec.ofNat 8 ev.src ∧ l.data = padTo 16 0 ev.data)) →
       (ev.code / 4096 = 1 ∨ ev.code / 4096 = 5 ∨ (e.tokens.get? ev.code).getD 16 ≠ 0 →
         (ev.code / 4096 = 1 ∨ ev.code / 4096 = 5 → (e.takeIn c tb ev).tokens = e.tokens) ∧
         (ev.code / 4096 ≠ 1 → ev.code / 4096 ≠ 5 →
           ((e.takeIn c tb ev).tokens.get? ev.code).getD 16 = (e.tokens.get? ev.code).getD 16 - 1) ∧
         (e.takeIn c tb ev).suppTotal = e.suppTotal ∧ (e.takeIn c tb ev).suppCnt = e.suppCnt ∧
         (e.journalUp = true ∨ e.early.length < 64 →
           (e.takeIn c tb ev).next = e.next + 1 ∧ (e.takeIn c tb ev).suppCode.get? ev.code = none ∧
           ((e.takeIn c tb ev).journalUp = true → (e.takeIn c tb ev).recs =
             (e.takeIn c tb ev).recs.take 1 ++ e.recs.filter (Evr.keeps (e.next + 1))) ∧
           (e.takeIn c tb ev).last = some
             { code := ev.code, source := BitVec.ofNat 8 ev.src, severity := severityOf ev.code, data := padTo 16 0 ev.data
               seq := e.next, opsec := c.opsec.toNat, pcc := c.pcc, hostTs := c.hostTs tb
               suppressed := satOf 16 ((e.suppCode.get? ev.code).getD 0) }) ∧
         (e.journalUp = false → 64 ≤ e.early.length →
           (e.takeIn c tb ev).next = e.next ∧ (e.takeIn c tb ev).earlyLost = true ∧ (e.takeIn c tb ev).early = e.early ∧
           (e.takeIn c tb ev).recs = e.recs)) ∧
       (ev.code / 4096 ≠ 1 → ev.code / 4096 ≠ 5 → (e.tokens.get? ev.code).getD 16 = 0 →
         (e.takeIn c tb ev).suppCode.get? ev.code = some ((e.suppCode.get? ev.code).getD 0 + 1) ∧
         (e.takeIn c tb ev).suppTotal = e.suppTotal + 1 ∧ (e.takeIn c tb ev).suppCnt = satInc e.suppCnt ∧
         (e.takeIn c tb ev).recs = e.recs ∧ (e.takeIn c tb ev).early = e.early ∧ (e.takeIn c tb ev).next = e.next ∧
         (e.takeIn c tb ev).tokens = e.tokens))) ∧
  ((∀ (code : Nat) (s : State), s.live = true →
     ∃ t, exec (.eventTokenRefill code) s = .next t ∧
       (∀ n, s.evr.tokens.get? code = some n → (t.evr.tokens.get? code).getD 16 = min (n + 1) 16) ∧
       (s.evr.tokens.get? code = none → t = s) ∧ (∀ k, k ≠ code → t.evr.tokens.get? k = s.evr.tokens.get? k) ∧
       t.evr.recs = s.evr.recs ∧ t.evr.next = s.evr.next ∧ Changes [.evr] s t) ∧
   (∀ (r : EventRec) (rs : List EventRec) (s : State), s.live = true → s.evr.recs = r :: rs →
     exec .eventRepeatPersist s = .next { s with evr := { s.evr with repP := r.repeats, lastOpsecP := r.lastOpsec } }) ∧
   (∀ (s : State), s.live = true → s.evr.recs = [] → exec .eventRepeatPersist s = .next s) ∧
   (∀ (s : State), s.powered = true →
     exec .opsecTick s = .next { s with clocks := { s.clocks with opsec := s.clocks.opsec + 1 } }) ∧
   (∀ (s : State), s.live = true →
     ∃ t, exec .opsecPersist s = .next t ∧ t.clocks.opsecP = s.clocks.opsec ∧ t.clocks.opsec = s.clocks.opsec ∧
       t.evr.suppTotalP = s.evr.suppTotal ∧
       (s.clocks.ts = .running →
         t.clocks.tsP = some (s.clocks.tsSet + (s.tb.count - s.clocks.tsAt).toNat / 100000, s.clocks.opsec.toNat)) ∧
       (s.clocks.ts ≠ .running → t.clocks.tsP = s.clocks.tsP) ∧ t.evr.recs = s.evr.recs ∧ Changes [.evr, .clocks] s t) ∧
   (∀ (i : Initiator) (s : State), s.powered = true → (∃ c, i = .core c) ∨ i = .debug ∧ s.sec.debugUnlocked = true →
     ∃ t, exec (.evrSeqLoRead i) s = .next t ∧ t.out = s.out ++ [Output.readVal i (s.evr.next % 2 ^ 32)] ∧
       (i, BitVec.ofNat 32 (s.evr.next / 2 ^ 32)) ∈ t.evr.latch ∧
       (∀ j v, j ≠ i → ((j, v) ∈ t.evr.latch ↔ (j, v) ∈ s.evr.latch)) ∧ t.evr.next = s.evr.next ∧
       t.evr.recs = s.evr.recs ∧ Changes [.evr, .out] s t) ∧
   (∀ (i : Initiator) (s : State), s.powered = true →
     i = .bmc ∨ (∃ ch, i = .sdma ch) ∨ i = .debug ∧ s.sec.debugUnlocked = false →
     exec (.evrSeqLoRead i) s = .next (s.emit (.accessError i))))

/-- R265, R292 to R295, R302: requests to BAR2/3 and BAR4/5 that find their window. -/
def Obligations.PersistentRegionAndWindows : Prop :=
  (∀ (p : Fin 2) (offset : Nat) (bytes : List Byte) (s : State), s.live = true → s.linkUp p = true → s.barRefusal p 2 = none →
    offset / 33554432 = (offset + bytes.length - 1) / 33554432 →
    (s.ports[p].target 2 (offset / 33554432) = 1 → s.land.pmr[p].nrdy = false →
      ∃ t, exec (.pmrWrite p offset bytes) s = .next t ∧
        (∀ a, memGet 0 t.land.pmr[p].mem a =
          if h : s.pmrAddr p offset ≤ a ∧ a - s.pmrAddr p offset < bytes.length then bytes[a - s.pmrAddr p offset]
          else memGet 0 s.land.pmr[p].mem a) ∧
        (∀ q : Fin 2, q ≠ p → t.land.pmr[q] = s.land.pmr[q]) ∧ t.land.lines = s.land.lines ∧ Changes [.land] s t) ∧
    ((s.ports[p].target 2 (offset / 33554432) = 1 ∧ s.land.pmr[p].nrdy = true) ∨ s.ports[p].target 2 (offset / 33554432) = 4 →
      ∃ t, exec (.pmrWrite p offset bytes) s = .next t ∧
        t.evr = (s.log 0x2222 (s.portSrc p) (leBytes 4 offset ++ [1])).evr ∧ Changes [.evr] s t)) ∧
  (∀ (p : Fin 2) (offset len : Nat) (s : State), s.live = true → s.linkUp p = true → s.barRefusal p 2 = none →
    offset / 33554432 = (offset + len - 1) / 33554432 →
    (s.ports[p].target 2 (offset / 33554432) = 1 → s.land.pmr[p].nrdy = false →
      ∃ t, exec (.pmrRead p offset len) s = .next t ∧
        t.out = s.out ++ [Output.tlp p (.ok ((List.range len).map (fun i => memGet 0 s.land.pmr[p].mem (s.pmrAddr p offset + i))))] ∧
        Changes [.out] s t) ∧
    ((s.ports[p].target 2 (offset / 33554432) = 1 ∧ s.land.pmr[p].nrdy = true) ∨ s.ports[p].target 2 (offset / 33554432) = 4 →
      ∃ t, exec (.pmrRead p offset len) s = .next t ∧ t.out = s.out ++ [Output.tlp p (.ok (List.replicate len 0xFF))] ∧
        t.evr = (s.log 0x2222 (s.portSrc p) (leBytes 4 offset ++ [0])).evr ∧ Changes [.evr, .out] s t)) ∧
  (∀ (p : Fin 2) (slot : Nat) (sec : Fin 8) (data : Sector) (s : State), s.live = true → s.linkUp p = true →
    s.barRefusal p 2 = none →
    (s.land.cmb[p].bound slot = true → ∃ t, exec (.cmbSlotWrite p slot sec data) s = .next t ∧
      (∀ d, s.land.cmb[p].data.get? slot = some d → t.land.cmb[p].data.get? slot = some (d.set sec.val data) ∧ t.free = s.free) ∧
      (s.land.cmb[p].data.get? slot = none → ∃ d, t.land.cmb[p].data.get? slot = some d ∧ d.length = 8 ∧
        d[sec.val]? = some data) ∧
      (∀ k, k ≠ slot → t.land.cmb[p].data.get? k = s.land.cmb[p].data.get? k) ∧ t.land.lines = s.land.lines ∧
      t.out = s.out ∧ Changes [.land, .free] s t) ∧
    (s.land.cmb[p].bound slot = false → ∃ t, exec (.cmbSlotWrite p slot sec data) s = .next t ∧
      t.evr = (s.log 0x4302 (s.portSrc p) (leBytes 4 slot)).evr ∧ t.out = s.out ++ [Output.tlp p .discarded] ∧
      Changes [.evr, .out] s t)) ∧
  (∀ (p : Fin 2) (bar offset : Nat) (s : State), s.live = true → s.linkUp p = true → bar = 2 ∨ bar = 4 →
    s.barRefusal p bar = none → s.ports[p].target bar (offset / winSize bar) = 0 →
    (∃ t, exec (.barUnmappedAccess p bar offset false) s = .next t ∧ t.out = s.out ++ [Output.tlp p .ur] ∧ Changes [.out] s t) ∧
    (∃ t, exec (.barUnmappedAccess p bar offset true) s = .next t ∧ t.out = s.out ++ [Output.tlp p .discarded, .advisoryUr p] ∧
      t.evr = (s.log 0x4301 (s.portSrc p) (leBytes 1 bar ++ leBytes 4 offset)).evr ∧ Changes [.evr, .out] s t)) ∧
  (∀ (p : Fin 2) (bar offset len : Nat) (isWrite : Bool) (s : State), s.live = true → s.linkUp p = true → bar = 2 ∨ bar = 4 →
    s.barRefusal p bar = none → len ≠ 0 → offset / winSize bar ≠ (offset + len - 1) / winSize bar →
    ∃ t, exec (.tlpWindowCross p bar offset len isWrite) s = .next t ∧ t.ports[p].urCross = satInc s.ports[p].urCross ∧
      t.land = s.land ∧ t.out = s.out ++ (if isWrite then [Output.tlp p .discarded, .advisoryUr p] else [Output.tlp p .ur]) ∧
      Changes [.evr, .ports, .out] s t) ∧
  (∀ (i : Instr) (p : Fin 2) (isWrite : Bool) (s : State), s.live = true → s.linkUp p = true → s.ports[p].cnt.active = true →
    s.asleep = false → s.param 0x2000 4 ≠ 1 →
    (∃ o bs, i = .pmrWrite p o bs ∧ isWrite = true) ∨ (∃ o n, i = .pmrRead p o n ∧ isWrite = false) ∨
      (∃ k sec d, i = .cmbSlotWrite p k sec d ∧ isWrite = true) ∨ (∃ o, i = .barUnmappedAccess p 2 o isWrite) →
    ∃ t, exec i s = .next t ∧ t.out = s.out ++ [Output.tlp p (if isWrite then .discarded else .ca)] ∧ Changes [.out] s t) ∧
  (∀ (p : Fin 2) (s : State), s.live = true →
    exec (.xlatCommit p) s = .next (s.setPort p (fun q => { q with act2 := q.shd2, act4 := q.shd4 })))

/-- R285 to R287, R299, R308: the configuration space, and atomic requests. -/
def Obligations.ConfigurationSpace : Prop :=
  (∀ (p : Fin 2) (offset : Nat) (s : State), s.linkUp p = true →
    (s.configReady = false → ∀ wr, ∃ t, exec (.configRequest p offset wr) s = .next t ∧ t.out = s.out ++ [Output.tlp p .retry] ∧
      Changes [.out] s t) ∧
    (s.configReady = true → ∃ t, exec (.configRequest p offset none) s = .next t ∧
      t.out = s.out ++ [Output.tlp p (.ok (leBytes 4 (s.configDword p (offset / 4 * 4))))] ∧ Changes [.out] s t)) ∧
  (∀ (p : Fin 2) (s : State), s.configDword p 0x00 = 0x96401F3D ∧ s.configDword p 0x08 = 0x01080211 ∧
    s.configDword p 0x34 = 0x40 ∧ s.configDword p 0x3C / 256 = 0 ∧ s.configDword p 0x54 = 0x00F00004 ∧
    s.configDword p 0x58 = 0x0000F000 ∧ s.configDword p 0x50 % 2 ^ 30 = 0x07FF7011 ∧ s.configDword p 0x100 = 0x14820001 ∧
    s.configDword p 0x2B0 = 0x2C81002E ∧ s.configDword p 0x328 = 0x0001000B ∧ s.configDword p 0x32C = 0x03010C01 ∧
    s.configDword p 0x330 = 0x400001FF ∧ s.configDword p 0x338 = s.ports[p].cnt.stat) ∧
  (∀ (p : Fin 2) (offset : Nat) (v : BitVec 32) (s : State), s.linkUp p = true → s.configReady = true →
    (offset / 4 * 4 ≠ 0x334 → offset / 4 * 4 ≠ 0x338 → ∃ t, exec (.configRequest p offset (some v)) s = .next t ∧
      t.ports[p].config.get? (offset / 4 * 4) = some v ∧
      (∀ o, o ≠ offset / 4 * 4 → t.ports[p].config.get? o = s.ports[p].config.get? o) ∧ t.out = s.out ++ [Output.tlp p (.ok [])] ∧
      t.ports[p].cnt = s.ports[p].cnt ∧ Changes [.ports, .out] s t) ∧
    (offset / 4 * 4 = 0x334 → s.live = true → v.getLsbD 8 = false → v.getLsbD 9 = false →
      ∃ t, exec (.configRequest p offset (some v)) s = .next t ∧
        t.ports[p].cnt = { s.ports[p].cnt with trigEn := v.setWidth 8 ||| 0xC1 } ∧ Changes [.ports, .out] s t) ∧
    (offset / 4 * 4 = 0x334 → s.live = true → s.ports[p].cnt.active = false → v.getLsbD 8 = true → v.getLsbD 9 = false →
      ∃ t, exec (.configRequest p offset (some v)) s = .next t ∧ t.ports[p].cnt.active = true ∧ t.ports[p].cnt.first = 0) ∧
    (offset / 4 * 4 = 0x338 → s.live = true →
      ∃ t, exec (.configRequest p offset (some v)) s = .next t ∧
        t.ports[p].cnt = { s.ports[p].cnt with resumeRefused := s.ports[p].cnt.resumeRefused && !v.getLsbD 3 } ∧
        Changes [.ports, .out] s t)) ∧
  (∀ (p : Fin 2) (s : State), s.linkUp p = true →
    exec (.atomicRequest p) s = .next { s with out := s.out ++ [Output.tlp p .ur] })

/-- R319 to R324, R328: one round of a DRAM channel grants MAINT with a pause that is due, else the class whose wait has reached its
limit, else the highest priority with row hits first and in rotation; what a grant counts and does to its bank and to the check
words that wait there; refresh, DEBUG and the cut-off of a grant. -/
def Obligations.DramRounds : Prop :=
  (∀ (c : Fin 16) (raised : List (Fin 12 × DramTxn)) (k : Fin 12) (x : DramTxn) (d : DramCh) (s : State), s.live = true →
    s.dchUp c = true → (s.dch c).overlong = false → (s.dch c).writeBack = 0 →
    d = raised.foldl DramCh.raise { s.dch c with grant := none } → k.val < 10 → d.arb[k].txn = some x →
    (d.arb[k].starveMax ≤ d.arb[k].wait ∧ (∀ j : Fin 12, j.val < 10 → d.arb[j].txn.isSome → d.arb[j].starveMax ≤ d.arb[j].wait →
        d.arb[j].wait < d.arb[k].wait ∨ (d.arb[j].wait = d.arb[k].wait ∧ k ≤ j))) ∨
      ((∀ j : Fin 12, j.val < 10 → d.arb[j].txn.isSome → d.arb[j].wait < d.arb[j].starveMax) ∧
        (∀ j : Fin 12, j.val < 10 → d.arb[j].txn.isSome → d.arb[j].prio ≤ d.arb[k].prio ∧
          (d.arb[j].prio = d.arb[k].prio → (d.rowHit j = true → d.rowHit k = true) ∧
            (j ≠ k → d.rowHit j = d.rowHit k →
              rotation d.lastAt[d.arb[k].prio.toFin] k < rotation d.lastAt[d.arb[k].prio.toFin] j)))) →
    ∃ t, exec (.arbRound c raised none 0) s = .next t ∧ s.out ++ [Output.dram c 0 k.val] <+: t.out ∧
      (∀ o ∈ t.out.drop (s.out.length + 1), ∃ b r ws, o = Output.dramCheck c b r ws) ∧
      (t.dch c).grant = some (k, x, 0) ∧ (t.dch c).lastAt[d.arb[k].prio.toFin] = k ∧
      (t.dch c).arb[k].txn = none ∧ (t.dch c).arb[k].wait = 0 ∧ (t.dch c).arb[k].grants = satInc d.arb[k].grants ∧
      (t.dch c).arb[k].waits = (if d.arb[k].wait = 0 then d.arb[k].waits else satInc d.arb[k].waits) ∧
      (t.dch c).arb[k].longest.toNat = max d.arb[k].longest.toNat (min d.arb[k].wait 65535) ∧
      ((t.dch c).arb[k].starved = true ↔ d.arb[k].starved = true ∨ d.arb[k].starveMax ≤ d.arb[k].wait) ∧
      (∀ j : Fin 12, j ≠ k → (t.dch c).arb[j] = if j.val < 10 ∧ d.arb[j].txn.isSome then
        { d.arb[j] with wait := d.arb[j].wait + 1 } else d.arb[j]) ∧
      (∀ b r js, txnParts x (min x.bursts d.arb[k].hold) = [(b, r, js)] → (t.dch c).row[b] = some r ∧
        (t.dch c).hist[b] = (match d.row[b] with
          | some r' => (d.hist[b] <<< 1) ||| (if r' = r then 1 else 0)
          | none => d.hist[b]) ∧
        (t.dch c).left[b] = leavesOpen (t.dch c).hist[b] ∧
        (x.write = true → (t.dch c).left[b] = true → ∀ j ∈ js, j ∈ (t.dch c).check[b]) ∧
        ((t.dch c).left[b] = false → (t.dch c).check[b] = [])) ∧
      (k = 0 → x.write = false → ∀ b : Fin 16, (t.dch c).check[b] = []) ∧
      (∀ b : Fin 16, (∀ p ∈ txnParts x (min x.bursts d.arb[k].hold), p.1 ≠ b) → (t.dch c).row[b] = d.row[b] ∧
        (t.dch c).hist[b] = d.hist[b] ∧ (t.dch c).left[b] = d.left[b]) ∧
      (∀ o : Fin 16, o ≠ c → t.dch o = s.dch o) ∧ Changes [.dram, .out] s t) ∧
  (∀ (c : Fin 16) (raised : List (Fin 12 × DramTxn)) (p : PauseResult) (d : DramCh) (s : State), s.live = true →
    s.dchUp c = true → (s.dch c).overlong = false → s.pauseDue c p = true →
    d = raised.foldl DramCh.raise { s.dch c with grant := none } → (∀ last r, p ≠ .sweep last true r) →
    ∃ t, exec (.arbRound c raised (some p) 0) s = .next t ∧ t.out = s.out ++ [Output.dram c 2 0] ∧
      (∃ x, (t.dch c).grant = some (10, x, 0)) ∧ (t.dch c).arb[(10 : Fin 12)].grants = satInc d.arb[(10 : Fin 12)].grants ∧
      (∀ j : Fin 12, j.val < 10 → d.arb[j].txn.isSome → (t.dch c).arb[j].txn = d.arb[j].txn ∧
        (t.dch c).arb[j].wait = d.arb[j].wait + 1)) ∧
  (∀ (c bank : Fin 16) (s : State), s.live = true → s.dchUp c = true →
    ∃ t, exec (.refreshDue c bank) s = .next t ∧ t.out = s.out ++ (if (s.dch c).check[bank] = [] then [] else
        [Output.dramCheck c bank (((s.dch c).row[bank]).getD 0) (s.dch c).check[bank]]) ++ [Output.dram c 1 bank.val] ∧
      (t.dch c).check[bank] = [] ∧ (t.dch c).left[bank] = false ∧
      (∀ b : Fin 16, b ≠ bank → (t.dch c).left[b] = (s.dch c).left[b]) ∧ (t.dch c).hist = (s.dch c).hist ∧
      (∀ k x n, k ≠ 10 → (s.dch c).grant = some (k, x, n) → (t.dch c).grant = some (k, x, n)) ∧
      (t.dch c).arb[(10 : Fin 12)].grants = satInc (s.dch c).arb[(10 : Fin 12)].grants ∧
      (∀ k : Fin 12, k ≠ 10 → (t.dch c).arb[k] = (s.dch c).arb[k]) ∧ (∀ o : Fin 16, o ≠ c → t.dch o = s.dch o) ∧
      Changes [.dram, .out] s t) ∧
  (∀ (c : Fin 16) (x : DramTxn) (s : State), s.live = true → s.dchUp c = true →
    (s.sec.debugUnlocked = false ∨ s.plp.pfail = true →
      exec (.debugRequest c x) s = .next { s with out := s.out ++ [Output.accessError .debug] }) ∧
    (s.sec.debugUnlocked = true → s.plp.pfail = false → ∃ t, exec (.debugRequest c x) s = .next t ∧
      (t.dch c).grant = some (11, x, 0) ∧ s.out ++ [Output.dram c 0 11] <+: t.out ∧
      (∀ k y n, (s.dch c).grant = some (k, y, n) → k.val < 10 → 0 < y.bursts →
        (∃ m, m < y.bursts ∧ (t.dch c).arb[k].txn = some (txnAfter y m)) ∧
        (t.dch c).arb[k].cut = (s.dch c).arb[k].cut ∧ (t.dch c).arb[k].cutCnt = (s.dch c).arb[k].cutCnt) ∧
      t.dram.cuts = s.dram.cuts ∧ Changes [.dram, .out, .free] s t)) ∧
  (∀ (c : Fin 16) (k : Fin 12) (x : DramTxn) (n : Nat) (s : State), s.live = true → s.dchUp c = true →
    (s.dch c).grant = some (k, x, n) → k ≠ 10 →
    (x.bursts ≤ (s.dch c).arb[k].hold → exec (.grantCutOff c) s = .next s) ∧
    ((s.dch c).arb[k].hold < x.bursts → ∃ t, exec (.grantCutOff c) s = .next t ∧ (t.dch c).grant = none ∧
      (t.dch c).arb[k] = { (s.dch c).arb[k] with
        txn := some (txnAfter x (s.dch c).arb[k].hold), wait := 0, cut := true
        cutCnt := satInc (s.dch c).arb[k].cutCnt } ∧
      t.dram.cuts[k] = s.dram.cuts[k] + 1 ∧ (∀ j : Fin 12, j ≠ k → t.dram.cuts[j] = s.dram.cuts[j]) ∧
      t.evr = (s.log 0x3454 0xFF (leBytes 1 c.val ++ leBytes 1 k.val)).evr ∧ Changes [.evr, .dram] s t))

/-- R316, R326, R328, R329, R331, R332, R334: corrected and uncorrectable bursts, training at a start, and retraining. -/
def Obligations.DramTrainingAndErrors : Prop :=
  (∀ (c : Fin 16) (s : State), s.live = true → s.dchUp c = true → s.dram.scrubEn = true →
    ∃ t, exec (.scrubDue c true) s = .next t ∧ t.dram.ceTotal = s.dram.ceTotal + 1 ∧
      (t.dch c).ce = satInc (s.dch c).ce ∧ (t.dch c).writeBack = (s.dch c).writeBack + 1 ∧
      (t.dch c).arb = (s.dch c).arb ∧ (∀ o : Fin 16, o ≠ c → t.dch o = s.dch o) ∧ Changes [.dram] s t) ∧
  (∀ (c : Fin 16) (b : Bool) (s : State), s.live = true → b = false ∨ s.dram.scrubEn = false →
    exec (.scrubDue c b) s = .next s) ∧
  (∀ (c : Fin 16) (k : Fin 12) (addr : Nat) (s : State), s.live = true → s.dchUp c = true →
    ((s.dch c).ueAt.filter (fun u => decide (s.tb.count.toNat ≤ u + 100000000))).length < 63 →
    ∃ t, exec (.dramUe c k .buffer addr) s = .next t ∧ (t.dch c).ue = satInc (s.dch c).ue ∧
      t.dram.ueTotal = s.dram.ueTotal + 1 ∧ (t.dch c).failed = (s.dch c).failed ∧
      t.evr = (s.log 0x3452 0xFF (leBytes 1 c.val ++ leBytes 1 k.val ++ leBytes 1 (ueRegion addr) ++ [0] ++ leBytes 8 addr)).evr ∧
      Changes [.dram, .evr] s t) ∧
  (∀ (c : Fin 16) (k : Fin 12) (n addr : Nat) (l : Line) (s : State), s.live = true → s.dchUp c = true →
    ((s.dch c).ueAt.filter (fun u => decide (s.tb.count.toNat ≤ u + 100000000))).length < 63 →
    s.land.lines.get? n = some l → l.st = .committed → l.wt = false → l.row = none →
    ∃ s1 : State, exec (.dramUe c k (.landingLine n) addr) s = .next s1.resumeAll ∧ s1.land.lines.get? n = none ∧
      gkey l.ns l.granule ∈ s1.media.lost ∧ s1.media.lostTotal = s.media.lostTotal + 1) ∧
  (∀ (c : Fin 16) (k : Fin 12) (fseq addr : Nat) (x : Cmd) (s : State), s.dchUp c = true → s.Flying fseq x .landed →
    ((s.dch c).ueAt.filter (fun u => decide (s.tb.count.toNat ≤ u + 100000000))).length < 63 →
    ∃ s1 : State, exec (.dramUe c k (.readBack fseq) addr) s = .next s1.resumeAll ∧ s1.cmq.cmds.get? fseq = none ∧
      (∃ vec, [Output.cqe x.port (s.cqOf x) x.sqid x.cid .dataTransferError 0, Output.msix x.port vec] <:+ s1.out) ∧
      s1.media.map = s.media.map) ∧
  (∀ (c : Fin 16) (k : Fin 12) (ns j addr : Nat) (s : State), s.live = true → s.dchUp c = true →
    ((s.dch c).ueAt.filter (fun u => decide (s.tb.count.toNat ≤ u + 100000000))).length < 63 →
    ∃ t, exec (.dramUe c k (.mapPage ns j) addr) s = .next t ∧ t.media.map = s.media.map ∧
      t.media.dirtyPages = s.media.dirtyPages ∧
      (s.media.dirtyPages.has (ns * 2 ^ 30 + j) = false → ns * 2 ^ 30 + j ∉ t.media.resident)) ∧
  (∀ (c : Fin 16) (k : Fin 12) (addr : Nat) (s : State), s.live = true → s.dchUp c = true →
    63 ≤ ((s.dch c).ueAt.filter (fun u => decide (s.tb.count.toNat ≤ u + 100000000))).length →
    ∃ t, exec (.dramUe c k .buffer addr) s = .next t ∧ (t.dch c).failed = true ∧ ∀ p ∈ s.portList, (t.ctrl p).cfs = true) ∧
  (∀ (c : Fin 16) (x : Fin 4) (r : DramTraining) (s : State), s.live = true → s.phase = .firmware ∨ s.phase = .recovering →
    (s.dch c).failed = false → r.rate = some x →
    ∃ t, exec (.dramTrainingDone c r) s = .next t ∧ (t.dch c).rate = BitVec.ofNat 2 x.val ∧ (t.dch c).failed = false ∧
      (t.dch c).rd0 = satOf 7 r.rd0 ∧ (t.dch c).rd1 = satOf 7 r.rd1 ∧ (t.dch c).wr0 = satOf 7 r.wr0 ∧
      (t.dch c).wr1 = satOf 7 r.wr1 ∧ (t.dch c).eye = satOf 8 r.eye ∧ (∀ o : Fin 16, o ≠ c → t.dch o = s.dch o)) ∧
  (∀ (c : Fin 16) (r : DramTraining) (s : State), s.live = true → s.phase = .firmware ∨ s.phase = .recovering →
    (s.dch c).failed = false → r.rate = none → s.dram.degraded = false → s.dram.failedCount = 0 →
    ∃ t, exec (.dramTrainingDone c r) s = .next t ∧ (t.dch c).failed = true ∧ t.dram.degraded = true) ∧
  (∀ (c : Fin 16) (s : State), s.live = true →
    (s.dram.retrainEn = true → s.param 0x7000 4 = 0 → exec (.retrainCycleDue c) s = .next (s.wantCycle c)) ∧
    (s.dram.retrainEn = false ∨ s.param 0x7000 4 ≠ 0 → exec (.retrainCycleDue c) s = .next s)) ∧
  (∀ (mask : BitVec 16) (s : State), s.live = true →
    (∃ t, exec (.retrainCycle mask) s = .next t ∧ Changes [.dram] s t ∧ ∀ c : Fin 16, t.dch c =
      if mask.getLsbD c.val = true ∧ s.dchUp c = true ∧ s.plp.pfail = false ∧ (s.dch c).fullLeft = 0 ∧ (s.dch c).cycleLeft = 0 then
        { s.dch c with cycleLeft := 3 } else s.dch c) ∧
    (∃ t, exec (.retrainFull mask) s = .next t ∧ Changes [.dram] s t ∧ ∀ c : Fin 16, t.dch c =
      if mask.getLsbD c.val = true ∧ s.dchUp c = true ∧ s.plp.pfail = false ∧ (s.dch c).fullLeft = 0 then
        { s.dch c with cycleLeft := 0, fullLeft := 64 } else s.dch c)) ∧
  (∀ (c : Fin 16) (l0 h0 l1 h1 : Bool) (s : State), s.live = true → s.dchUp c = true → (s.dch c).overlong = false →
    s.plp.pfail = false → (s.dch c).fullLeft = 0 → (s.dch c).cycleLeft = 2 →
    ∃ t, exec (.arbRound c [] (some (.readProbe l0 h0 l1 h1)) 0) s = .next t ∧
      ((l0 && h0) || (l1 && h1) → (t.dch c).fullLeft = 64 ∧ (t.dch c).rd0 = (s.dch c).rd0 ∧ (t.dch c).rd1 = (s.dch c).rd1) ∧
      (((l0 && h0) || (l1 && h1)) = false → (t.dch c).cycleLeft = 1 ∧ (t.dch c).rd0 = probeStep (s.dch c).rd0 l0 h0 ∧
        (t.dch c).rd1 = probeStep (s.dch c).rd1 l1 h1) ∧
      (t.dch c).wr0 = (s.dch c).wr0 ∧ (t.dch c).wr1 = (s.dch c).wr1) ∧
  (∀ (c : Fin 16) (last : Bool) (r : DramTraining) (s : State), s.live = true → s.dchUp c = true →
    (s.dch c).overlong = false → s.plp.pfail = false → 0 < (s.dch c).fullLeft →
    (∃ t, exec (.arbRound c [] (some (.sweep last false r)) 0) s = .next t ∧ (t.dch c).fullLeft = (s.dch c).fullLeft - 1 ∧
      (t.dch c).rd0 = (if (s.dch c).fullLeft = 1 then satOf 7 r.rd0 else (s.dch c).rd0) ∧
      (t.dch c).wr0 = (if (s.dch c).fullLeft = 1 then satOf 7 r.wr0 else (s.dch c).wr0)) ∧
    ((s.dch c).rate ≠ 3 → ∃ t, exec (.arbRound c [] (some (.sweep last true r)) 0) s = .next t ∧
      (t.dch c).rate = (s.dch c).rate + 1 ∧ (t.dch c).fullLeft = 0 ∧ (t.dch c).failed = (s.dch c).failed) ∧
    ((s.dch c).rate = 3 → ∃ t, exec (.arbRound c [] (some (.sweep last true r)) 0) s = .next t ∧ (t.dch c).failed = true))

/-- R339 to R348, R350: a channel of the system DMA reads descriptors, runs copies, fills and compares, proves its writes by a
read-back, writes descriptors back, and halts at the descriptor that failed. -/
def Obligations.SystemDma : Prop :=
  (∀ (i : Instr) (ch : Fin 16) (d : Desc) (s : State), s.live = true → i = .sdmaDoorbell ch d ∨ i = .sdmaRun ch d →
    (s.sdc ch).en = true → s.sdcOpen ch = true → (s.sdc ch).state = .idle →
    (d.own = false → ∃ t, exec i s = .next t ∧ t.sdc ch = { s.sdc ch with state := .idle, desc := none } ∧ Changes [.sdm] s t) ∧
    (d.own = true → s.descBad ch d = none → ∃ t, exec i s = .next t ∧
      t.sdc ch = { s.sdc ch with state := .running, desc := some d, phase := .fetched, left := d.count } ∧ Changes [.sdm] s t) ∧
    (∀ code, d.own = true → s.descBad ch d = some code → (s.sdc ch).space = 1 → s.ringOk ch = true → ∃ t, exec i s = .next t ∧
      (t.sdc ch).state = .halted ∧ (t.sdc ch).err = true ∧ (t.sdc ch).code = BitVec.ofNat 8 code ∧
      (t.sdc ch).head = (s.sdc ch).head ∧ (t.sdc ch).end_ = (s.sdc ch).end_ ∧ (t.sdc ch).bytes = (s.sdc ch).bytes ∧
      s.out ++ [Output.dmaHost 0 ((s.sdc ch).base.toNat + 32 * (s.sdc ch).head.toNat) (descBytes d code d.count.toNat 0)] <+: t.out ∧
      t.land = s.land ∧ t.sdm.mem = s.sdm.mem)) ∧
  (∀ (ch : Fin 16) (d : Desc) (s : State), s.live = true → (s.sdc ch).en = true → s.sdcOpen ch = true →
    (s.sdc ch).state = .halted →
    ((s.sdc ch).err = true → exec (.sdmaRun ch d) s = .next s) ∧
    ((s.sdc ch).err = false → d.own = false → ∃ t, exec (.sdmaRun ch d) s = .next t ∧ (t.sdc ch).state = .idle ∧
      (t.sdc ch).head = (if (s.sdc ch).desc.isSome then (s.sdc ch).nextHead else (s.sdc ch).head) ∧ Changes [.sdm] s t)) ∧
  (∀ (ch : Fin 16) (s : State), s.live = true → s.sdcOpen ch = true →
    ((s.sdc ch).state = .idle → ∃ t, exec (.sdmaStop ch) s = .next t ∧ t.sdc ch = { s.sdc ch with state := .halted } ∧
      Changes [.sdm] s t) ∧
    (∀ d, (s.sdc ch).state = .running → (s.sdc ch).desc = some d → ∃ t, exec (.sdmaStop ch) s = .next t ∧
      (t.sdc ch).state = .halted ∧ (t.sdc ch).code = 0x31 ∧ (t.sdc ch).err = true ∧ (t.sdc ch).head = (s.sdc ch).head ∧
      (t.sdc ch).left = (s.sdc ch).left) ∧
    (∃ t, exec (.sdmaDisable ch) s = .next t ∧ (t.sdc ch).en = false ∧ (t.sdc ch).state = .disabled ∧
      (t.sdc ch).base = (s.sdc ch).base ∧ (t.sdc ch).size = (s.sdc ch).size)) ∧
  (∀ (ch : Fin 16) (d : Desc) (s : State), s.live = true → (s.sdc ch).state = .running → (s.sdc ch).phase = .fetched →
    (s.sdc ch).desc = some d → s.descContained d = false → s.readsGo = true →
    (∀ src, d.op = 0 → src.length = d.count.toNat →
      (d.dstSp = 1 → ∃ t, exec (.sdmaCopy ch src) s = .next t ∧
        t.sdc ch = { s.sdc ch with phase := .beats, left := 0 } ∧ t.out = s.out ++ [Output.dmaHost 0 d.dst.toNat (swapBytes d.swap src)] ∧
        Changes [.sdm, .out] s t) ∧
      (∀ n o l, d.dstSp = 0 → d.dst.toNat = landingBase + 4096 * n + o → o + src.length ≤ 4096 → 1 ≤ src.length → n < lineCount →
        s.land.lines.get? n = some l → ∃ t, exec (.sdmaCopy ch src) s = .next t ∧ t.sdm.mem = s.sdm.mem ∧ t.out = s.out ∧
        t.sdc ch = { s.sdc ch with phase := .beats, left := 0 } ∧ t.land.lines.get? n = some { l with
          data := putSectors (l.data ++ List.replicate (8 - l.data.length) 0) o (swapBytes d.swap src) } ∧
        ∀ k, k ≠ n → t.land.lines.get? k = s.land.lines.get? k) ∧
      (d.dstSp = 0 → d.swap = 0 → d.dst.toNat + src.length ≤ landingBase → ∃ t, exec (.sdmaCopy ch src) s = .next t ∧
        t.sdc ch = { s.sdc ch with phase := .beats, left := 0 } ∧
        (∀ a, memGet 0 t.sdm.mem a = if h : d.dst.toNat ≤ a ∧ a - d.dst.toNat < src.length then src[a - d.dst.toNat]
          else memGet 0 s.sdm.mem a) ∧ t.out = s.out)) ∧
    (d.op = 1 → d.dstSp = 0 → d.dst.toNat + d.count.toNat ≤ landingBase → ∃ t, exec (.sdmaFill ch) s = .next t ∧ t.sdc ch = { s.sdc ch with phase := .beats, left := 0 } ∧
      (∀ a, memGet 0 t.sdm.mem a = if d.dst.toNat ≤ a ∧ a < d.dst.toNat + d.count.toNat then d.src.extractLsb' (8 * (a % 8)) 8
        else memGet 0 s.sdm.mem a) ∧ t.out = s.out) ∧
    (∀ (a b : List Byte) (next : Desc), d.op = 2 → a.length = d.count.toNat → b.length = d.count.toNat → next.own = false →
      (∃ t, exec (.sdmaCompare ch a b next) s = .next t ∧ (t.sdc ch).state = .idle ∧ (t.sdc ch).head = (s.sdc ch).nextHead ∧
        (a = b → (t.sdc ch).result = 0xFFFFFFFF) ∧
        (∀ k, k < d.count.toNat → (∀ j, j < k → a[j]? = b[j]?) → a[k]? ≠ b[k]? → (t.sdc ch).result = BitVec.ofNat 32 k) ∧
        (t.sdc ch).err = (s.sdc ch).err ∧ ((t.sdc ch).end_ = true ↔ (s.sdc ch).end_ = true ∨ d.irq = true) ∧
        (t.sdc ch).bytes = satOf 32 ((s.sdc ch).bytes.toNat + d.count.toNat)))) ∧
  (∀ (ch : Fin 16) (d : Desc) (s : State), s.live = true → (s.sdc ch).state = .running → (s.sdc ch).desc = some d →
    s.spContained d.dstSp = false →
    ((s.sdc ch).phase = .beats → ∃ t, exec (.sdmaLastBeatAck ch) s = .next t ∧ t.sdc ch = { s.sdc ch with phase := .acked } ∧
      (d.dstSp = 0 → 0x1000000000 ≤ d.dst.toNat → t.out = s.out ++
        (lastBursts (lastInUnits (d.dst.toNat - 0x1000000000) d.count.toNat)).map (fun e => Output.readBack (Fin.ofNat 16 e.1) e.2)) ∧
      (d.dstSp = 0 → d.dst.toNat < 0x1000000000 →
        t.out = s.out ++ [Output.dmaCheck 0 ((d.dst.toNat + d.count.toNat - 1) / 16 * 16) 16]) ∧
      (d.dstSp = 1 → 4 ≤ d.count.toNat → t.out = s.out ++ [Output.dmaCheck 1 (d.dst.toNat + d.count.toNat - 4) 4]) ∧
      Changes [.sdm, .out] s t) ∧
    ((s.sdc ch).phase = .acked →
      (∃ t, exec (.sdmaReadbackReturn ch false d) s = .next t ∧ (t.sdc ch).state = .halted ∧ (t.sdc ch).err = true ∧
        (t.sdc ch).code = 0x22 ∧ (t.sdc ch).head = (s.sdc ch).head) ∧
      (∀ next : Desc, next.own = false → ∃ t, exec (.sdmaReadbackReturn ch true next) s = .next t ∧ (t.sdc ch).state = .idle ∧
        (t.sdc ch).head = (s.sdc ch).nextHead ∧ (t.sdc ch).err = (s.sdc ch).err ∧
        ((t.sdc ch).end_ = true ↔ (s.sdc ch).end_ = true ∨ d.irq = true) ∧
        (t.sdc ch).bytes = satOf 32 ((s.sdc ch).bytes.toNat + d.count.toNat) ∧
        ((s.sdc ch).space = 1 → ch.val < 12 → t.out = s.out ++
          [.dmaHost 0 ((s.sdc ch).base.toNat + 32 * (s.sdc ch).head.toNat) (descBytes d 0 0 0)] ++
          if d.irq = true ∧ (s.sdc ch).end_ = false ∧ (s.sdc ch).endIe = true then [.coreMsg ((s.sdc ch).vec.toNat % 32)] else []))) ∧
    (∀ n, (s.sdc ch).phase = .beats ∨ (s.sdc ch).phase = .fetched → d.op ≠ 2 → d.dstSp = 0 →
      ∃ t, exec (.sdmaBeatError ch true n) s = .next t ∧ (t.sdc ch).state = .halted ∧ (t.sdc ch).err = true ∧
        (t.sdc ch).code = 0x21 ∧ (t.sdc ch).head = (s.sdc ch).head ∧
        (t.sdc ch).left = (if (s.sdc ch).phase = .beats then 0 else BitVec.ofNat 32 (min n d.count.toNat)) ∧
        (∀ c a, Output.readBack c a ∉ t.out.drop s.out.length))) ∧
  (∀ (ch : Fin 16) (d : Desc) (s : State), s.live = true → (s.sdc ch).state = .running → (s.sdc ch).desc = some d →
    s.spContained d.dstSp = true → (s.sdc ch).phase = .acked → ∀ ok next,
    ∃ t, exec (.sdmaReadbackReturn ch ok next) s = .next t ∧ (t.sdc ch).state = .halted ∧ (t.sdc ch).code = 0x30)

/-- R356 to R363, R366: the pages of the key vault: who is admitted, when an operation starts and what it gives, the nonce counter,
the key slots, and the claim of page 2. -/
def Obligations.VaultPages : Prop :=
  (∀ (i : Instr) (pg : Fin 16) (ini : Initiator) (s : State), s.live = true → (∀ p, ini = .host p → s.BarShows p 7) →
    s.admits pg ini = false →
    (∃ slot, i = .vaultEncrypt pg ini slot ∨ i = .vaultDecrypt pg ini slot ∨ i = .vaultKeystream pg ini slot ∨
      i = .keySlotClear pg ini slot ∨ ∃ w v, i = .keyWordWrite pg ini slot w v) ∨ i = .nonceNext pg ini ∨
      i = .vaultAccessRefused pg ini →
    ∃ t, exec i s = .next t ∧ t.vault.pages[pg] = { s.vault.pages[pg] with refused := s.vault.pages[pg].refused + 1 } ∧
      (∀ q : Fin 16, q ≠ pg → t.vault.pages[q] = s.vault.pages[q]) ∧
      t.evr = (s.log 0x5301 0x30 (leBytes 1 pg.val ++ leBytes 2 (Config.initiatorId ini))).evr ∧
      t.out = s.out ++ [match ini with
        | .host p => .tlp p .ca
        | j => .accessError j] ∧ Changes [.evr, .vault, .out] s t) ∧
  (∀ (op : BitVec 3) (i : Instr) (pg : Fin 16) (ini : Initiator) (slot : Fin 4) (s : State), s.live = true →
    (∀ p, ini = .host p → s.BarShows p 7) → s.admits pg ini = true →
    (op = 1 ∧ i = .vaultEncrypt pg ini slot) ∨ (op = 2 ∧ i = .vaultDecrypt pg ini slot) ∨
      (op = 3 ∧ i = .vaultKeystream pg ini slot) →
    (s.vault.pages[pg].busy = false → s.sec.tampered = false → s.sec.pairFail = false →
      s.vault.pages[pg].slots[slot].valid = true → (op = 3 → s.vault.pages[pg].exhausted = false ∧ s.vault.pages[pg].spent = false) →
      exec i s = .next (s.setPage pg (fun g => { g with
        op := op, slot := BitVec.ofNat 2 slot.val, busy := true, run := op, runSlot := slot
        input := if op = 3 then g.nonce ++ g.ctr else blockOf g.din, dout := Vector.replicate 4 0 }))) ∧
    (∀ code : Byte, (code = 2 ∧ s.vault.pages[pg].busy = true) ∨
        (code = 5 ∧ s.vault.pages[pg].busy = false ∧ (s.sec.tampered = true ∨ s.sec.pairFail = true)) ∨
        (code = 1 ∧ s.vault.pages[pg].busy = false ∧ s.sec.tampered = false ∧ s.sec.pairFail = false ∧
          s.vault.pages[pg].slots[slot].valid = false) ∨
        (s.vault.pages[pg].busy = false ∧ s.sec.tampered = false ∧ s.sec.pairFail = false ∧
          s.vault.pages[pg].slots[slot].valid = true ∧ op = 3 ∧ ((code = 4 ∧ s.vault.pages[pg].exhausted = true) ∨
            (code = 3 ∧ s.vault.pages[pg].exhausted = false ∧ s.vault.pages[pg].spent = true))) →
      exec i s = .next (s.setPage pg (fun g => { g with done := true, code := code })))) ∧
  (∀ (pg : Fin 16) (g : VaultPage) (s : State), s.live = true → g = s.vault.pages[pg] → g.busy = true →
    ∃ t, exec (.vaultBlockDone pg) s = .next t ∧ t.vault.pages[pg].busy = false ∧ t.vault.pages[pg].done = true ∧
      t.vault.pages[pg].code = 0 ∧ t.vault.pages[pg].nonce = g.nonce ∧ t.vault.pages[pg].slots = g.slots ∧
      (g.slots[g.runSlot].valid = true → t.free = s.free ∧
        t.vault.pages[pg].dout = wordsOf (Config.aes g.slots[g.runSlot].key (g.run != 2) g.input)) ∧
      (g.slots[g.runSlot].valid = false → t.free = s.free + 1) ∧ (g.run ≠ 3 → t.vault.pages[pg].ctr = g.ctr) ∧
      (g.run = 3 → g.ctr ≠ 0xFFFFFFFF → t.vault.pages[pg].ctr = g.ctr + 1 ∧ t.vault.pages[pg].spent = g.spent) ∧
      (g.run = 3 → g.ctr = 0xFFFFFFFF → t.vault.pages[pg].ctr = 0xFFFFFFFF ∧ t.vault.pages[pg].spent = true) ∧
      (∀ q : Fin 16, q ≠ pg → t.vault.pages[q] = s.vault.pages[q]) ∧ Changes [.vault, .free] s t) ∧
  (∀ (pg : Fin 16) (s : State), s.live = true → s.vault.pages[pg].busy = false → exec (.vaultBlockDone pg) s = .next s) ∧
  (∀ (pg : Fin 16) (ini : Initiator) (s : State), s.live = true → (∀ p, ini = .host p → s.BarShows p 7) →
    s.admits pg ini = true →
    (∃ t, exec (.nonceNext pg ini) s = .next t ∧ Changes [.vault] s t ∧
      (∀ q : Fin 16, q ≠ pg → t.vault.pages[q] = s.vault.pages[q]) ∧
      (s.vault.pages[pg].nonce = BitVec.allOnes 96 → t.vault.pages[pg] = { s.vault.pages[pg] with exhausted := true }) ∧
      (s.vault.pages[pg].nonce ≠ BitVec.allOnes 96 → t.vault.pages[pg].nonce = s.vault.pages[pg].nonce + 1 ∧
        t.vault.pages[pg].ctr = 0 ∧ t.vault.pages[pg].spent = false ∧
        t.vault.pages[pg].exhausted = s.vault.pages[pg].exhausted ∧
        t.vault.pages[pg].nonceP = if (s.vault.pages[pg].nonce.toNat + 1) % 2 ^ 20 = 0 then s.vault.pages[pg].nonce + 1
          else s.vault.pages[pg].nonceP)) ∧
    (∀ (slot : Fin 4) (w : Fin 8) (v : BitVec 32),
      (s.sec.tampered = true →
        exec (.keyWordWrite pg ini slot w v) s = .next (s.setPage pg (fun g => { g with done := true, code := 5 }))) ∧
      (s.sec.tampered = false → s.sec.pairFail = false → ∃ t, exec (.keyWordWrite pg ini slot w v) s = .next t ∧
        t.vault.pages[pg].slots[slot].words[w] = v ∧ t.vault.pages[pg].slots[slot].valid = false ∧
        (∀ x : Fin 8, x ≠ w → t.vault.pages[pg].slots[slot].words[x] = s.vault.pages[pg].slots[slot].words[x]) ∧
        (t.vault.pages[pg].slots[slot].expanding = true ↔ (s.vault.pages[pg].slots[slot].len = 1 ∧ w = 3) ∨
          (s.vault.pages[pg].slots[slot].len = 2 ∧ w = 7)) ∧
        (∀ n : Fin 4, n ≠ slot → t.vault.pages[pg].slots[n] = s.vault.pages[pg].slots[n]) ∧ Changes [.vault] s t) ∧
      (∃ t, exec (.keySlotClear pg ini slot) s = .next t ∧ t.vault.pages[pg].slots[slot].valid = false ∧
        t.vault.pages[pg].slots[slot].words = Vector.replicate 8 0 ∧
        (∀ n : Fin 4, n ≠ slot → t.vault.pages[pg].slots[n] = s.vault.pages[pg].slots[n]) ∧ Changes [.vault] s t))) ∧
  (∀ (pg : Fin 16) (slot : Fin 4) (s : State), s.live = true →
    ∃ t, exec (.keyExpanded pg slot) s = .next t ∧ Changes [.vault] s t ∧
      (s.vault.pages[pg].slots[slot].expanding = true → t.vault.pages[pg].slots[slot].valid = true) ∧
      (s.vault.pages[pg].slots[slot].expanding = false → t.vault.pages[pg].slots[slot] = s.vault.pages[pg].slots[slot]) ∧
      t.vault.pages[pg].slots[slot].words = s.vault.pages[pg].slots[slot].words) ∧
  (∀ (i : Instr) (pg : Fin 16) (p : Fin 2) (slot : Fin 4) (s : State), s.live = true → s.linkUp p = true →
    s.barRefusal p 4 = none → s.ports[p].shows 7 = false →
    i = .vaultEncrypt pg (.host p) slot ∨ i = .vaultDecrypt pg (.host p) slot ∨ i = .vaultKeystream pg (.host p) slot ∨
      i = .keySlotClear pg (.host p) slot ∨ i = .nonceNext pg (.host p) ∨ i = .pageClaim p ∨ i = .pageRelease p →
    ∃ t, exec i s = .next t ∧ t.out = s.out ++ [Output.tlp p .discarded, .advisoryUr p] ∧
      t.evr = (s.log 0x4301 (s.portSrc p) (leBytes 1 4 ++ leBytes 4 2097152)).evr ∧ Changes [.evr, .out] s t) ∧
  (∀ (p : Fin 2) (s : State), s.live = true → s.BarShows p 7 → s.dual = true →
    (s.vault.owner = 0 → ∃ t, exec (.pageClaim p) s = .next t ∧ t.vault.owner.toNat = p.val + 1 ∧
      t.vault.pages = s.vault.pages ∧ t.admits 2 (.host p) = true ∧ Changes [.vault] s t) ∧
    (s.vault.owner ≠ 0 → s.vault.owner.toNat ≠ p.val + 1 →
      (∃ t, exec (.pageClaim p) s = .next t ∧ t.vault.owner = s.vault.owner ∧ t.out = s.out ++ [Output.tlp p .ca]) ∧
      (∃ t, exec (.pageRelease p) s = .next t ∧ t.vault.owner = s.vault.owner ∧ t.out = s.out ++ [Output.tlp p .ca])) ∧
    (s.vault.owner.toNat = p.val + 1 → ∃ t, exec (.pageRelease p) s = .next t ∧ t.vault.owner = 0 ∧
      t.vault.pages[(2 : Fin 16)] = { s.vault.pages[(2 : Fin 16)] with slots := Vector.replicate 4 {}, dout := Vector.replicate 4 0 } ∧
      (∀ q : Fin 16, q ≠ 2 → t.vault.pages[q] = s.vault.pages[q]) ∧ Changes [.vault] s t))

/-- R297, R298, R366, R379 to R382: the SPDM responder answers, signs what R382 signs, keeps its sessions within their limits, and
programs link IDE keys over a session; without keys it answers GET_VERSION and GET_CAPABILITIES alone. Response and error codes are
the standard's (notes/assumptions/22.md). -/
def Obligations.SpdmResponder : Prop :=
  (∀ (v : SpdmVia) (s : State), s.live = true →
    (∃ t, exec (.spdmGetVersion v) s = .next t ∧ t.out = s.out ++ [Output.spdm v 0x04 false [0x13]] ∧ v ∉ t.sec.algosDone ∧
      Changes [.sec, .out] s t) ∧
    (∃ t b, exec (.spdmGetCapabilities v) s = .next t ∧ t.out = s.out ++ [Output.spdm v 0x61 false (14 :: b)] ∧ Changes [.out] s t) ∧
    (s.sec.keyless = true → ∀ i : Instr, (i = .spdmNegotiateAlgorithms v ∨ i = .spdmGetDigests v ∨ i = .spdmGetCsr v ∨
      (∃ k, i = .spdmGetCertificate v k ∨ i = .spdmKeyExchange v k ∨ i = .spdmFinish v k ∨ i = .spdmHeartbeat v k ∨
        i = .spdmKeyUpdate v k ∨ i = .spdmEndSession v k ∨ (∃ n, i = .spdmChallenge v k n) ∨
        (∃ b n, i = .spdmGetMeasurements v k b n) ∨ ∃ c, i = .spdmSetCertificate v k c)) → exec i s = .next s) ∧
    (s.sec.keyless = false → (∃ t b, exec (.spdmNegotiateAlgorithms v) s = .next t ∧ v ∈ t.sec.algosDone ∧
      t.out = s.out ++ [Output.spdm v 0x63 false b] ∧ Changes [.sec, .out] s t)) ∧
    (s.sec.keyless = false → v ∉ s.sec.algosDone → ∀ i : Instr, (i = .spdmGetDigests v ∨ i = .spdmGetCsr v ∨
      (∃ k, i = .spdmGetCertificate v k ∨ i = .spdmKeyExchange v k ∨ (∃ n, i = .spdmChallenge v k n) ∨
        (∃ b n, i = .spdmGetMeasurements v k b n) ∨ ∃ c, i = .spdmSetCertificate v k c)) →
      exec i s = .next { s with out := s.out ++ [Output.spdm v 0x7F false [4]] })) ∧
  (∀ (v : SpdmVia) (s : State), s.live = true → s.sec.keyless = false → v ∈ s.sec.algosDone →
    (∃ t, exec (.spdmGetDigests v) s = .next t ∧ t.out = s.out ++ [Output.spdm v 0x01 false
      (Config.sha384 (Config.certChain 0) ++
        Config.sha384 (Config.certChain 0 ++ Config.standardReply 0x5102 (ofLeBytes s.akIdNow)) ++
        (if s.sec.slot2 = [] then [] else Config.sha384 s.sec.slot2))] ∧ Changes [.out] s t) ∧
    (∀ (slot : Nat) (c : List Byte), s.chain slot = some c →
      (∃ t, exec (.spdmGetCertificate v slot) s = .next t ∧ t.out = s.out ++ [Output.spdm v 0x02 false c] ∧ Changes [.out] s t) ∧
      (∀ nonce : BitVec 256, ∃ t, exec (.spdmChallenge v slot nonce) s = .next t ∧
        t.out = s.out ++ [Output.spdm v 0x03 true ((Config.sha384 c ++ leBytes 32 nonce.toNat ++ s.measAll) ++
          Config.sign (if slot = 0 then 1 else 0) s.free (Config.sha384 c ++ leBytes 32 nonce.toNat ++ s.measAll))] ∧
        Changes [.out, .free] s t)) ∧
    (∀ slot, s.chain slot = none → ∃ t, exec (.spdmGetCertificate v slot) s = .next t ∧
      t.out = s.out ++ [Output.spdm v 0x7F false [1]] ∧ Changes [.out] s t) ∧
    (∀ (index : Nat) (nonce : BitVec 256) (b : List Byte), s.measBlocks index = some b →
      (∃ t, exec (.spdmGetMeasurements v index false nonce) s = .next t ∧ t.out = s.out ++ [Output.spdm v 0x60 false b] ∧
        Changes [.out] s t) ∧
      (∃ t, exec (.spdmGetMeasurements v index true nonce) s = .next t ∧
        t.out = s.out ++ [Output.spdm v 0x60 true ((b ++ leBytes 32 nonce.toNat) ++ Config.sign 0 s.free (b ++ leBytes 32 nonce.toNat))] ∧
        Changes [.out, .free] s t)) ∧
    (∃ t b, exec (.spdmGetCsr v) s = .next t ∧ t.out = s.out ++ [Output.spdm v 0x6D true b] ∧ Changes [.out, .free] s t) ∧
    (∀ (chain h : List Byte) (at0 : Nat), s.sec.slot2Hash = some (h, at0) →
      (s.tb.count.toNat ≤ at0 + 6000000000 → Config.sha384 chain = h →
        ∃ t, exec (.spdmSetCertificate v 2 chain) s = .next t ∧ t.sec.slot2 = chain ∧ t.sec.slot2Hash = none ∧
          t.out = s.out ++ [Output.spdm v 0x6E false []] ∧ Changes [.sec, .out] s t) ∧
      (at0 + 6000000000 < s.tb.count.toNat ∨ Config.sha384 chain ≠ h →
        ∃ t, exec (.spdmSetCertificate v 2 chain) s = .next t ∧ t.sec = s.sec ∧ t.out = s.out ++ [Output.spdm v 0x7F false [1]])) ∧
    (∀ (slot : Nat) (c : List Byte), s.chain slot = some c →
      ((s.sec.sessions.filter (fun x => x.via = v)).length < (if v = .mctp then 4 else 2) →
        ∃ t b, exec (.spdmKeyExchange v slot) s = .next t ∧
          t.sec.sessions = s.sec.sessions ++ [{ via := v, id := s.sec.nextSession }] ∧ t.sec.nextSession = s.sec.nextSession + 1 ∧
          t.out = s.out ++ [Output.spdm v 0x64 true b] ∧ Changes [.sec, .out, .free] s t) ∧
      ((if v = .mctp then 4 else 2) ≤ (s.sec.sessions.filter (fun x => x.via = v)).length →
        ∃ t, exec (.spdmKeyExchange v slot) s = .next t ∧ t.sec = s.sec ∧ t.out = s.out ++ [Output.spdm v 0x7F false [0x0A]]))) ∧
  (∀ (v : SpdmVia) (x : SpdmSession) (s : State), s.live = true → s.sec.keyless = false → s.sec.session v x.id = some x →
    (x.established = false →
      (∃ t, exec (.spdmFinish v x.id) s = .next t ∧ t.sec.session v x.id = some { x with established := true } ∧
        t.out = s.out ++ [Output.spdm v 0x65 false []] ∧ Changes [.sec, .out] s t) ∧
      (∀ i : Instr, i = .spdmHeartbeat v x.id ∨ i = .spdmKeyUpdate v x.id ∨ i = .spdmEndSession v x.id →
        exec i s = .next { s with out := s.out ++ [Output.spdm v 0x7F false [4]] })) ∧
    (x.established = true →
      (∃ t, exec (.spdmHeartbeat v x.id) s = .next t ∧ t.out = s.out ++ [Output.spdm v 0x68 false []] ∧ t.sec = s.sec ∧
        Changes [.vault, .out] s t) ∧
      (∃ t, exec (.spdmKeyUpdate v x.id) s = .next t ∧ t.out = s.out ++ [Output.spdm v 0x69 false []] ∧
        t.sec.session v x.id = some { x with keyGen := x.keyGen + 1 } ∧ t.vault.pages = s.vault.pages) ∧
      (∃ t, exec (.spdmEndSession v x.id) s = .next t ∧ t.out = s.out ++ [Output.spdm v 0x6C false []] ∧
        t.sec.session v x.id = none ∧ t.vault.pages = s.vault.pages) ∧
      (∀ (p : Fin 2) (keySet : Fin 2) (key : BitVec 256), v = .doe p → ∃ t, exec (.ideKmKeyProg p x.id keySet key) s = .next t ∧
        t.ports[p].ide = .secure ∧ t.ports[p].ideKeys[keySet] = some key ∧
        t.ports[p].ideKeys[1 - keySet] = s.ports[p].ideKeys[1 - keySet] ∧
        ((t.ctrl p).rdy = true ↔ (s.ctrl p).rdy = true ∨ (s.phase = .running ∧ (s.ctrl p).en = true ∧
          ∀ e ∈ s.cmq.cmds, e.2.port = p → e.2.silent = false)) ∧
        (∀ q : Fin 2, q ≠ p → t.ports[q] = s.ports[q])))) ∧
  (∀ (v : SpdmVia) (id : Nat) (s : State), s.live = true → s.sec.keyless = false → s.sec.session v id = none →
    ∀ i : Instr, i = .spdmFinish v id ∨ i = .spdmHeartbeat v id ∨ i = .spdmKeyUpdate v id ∨ i = .spdmEndSession v id →
      exec i s = .next { s with out := s.out ++ [Output.spdm v 0x7F false [2]] })

/-- R355, R364 to R367, R370: a tamper alarm erases every key and contains both ports; the entropy source fails and comes back; a lane
that fails its known answer is taken out of service. -/
def Obligations.TamperAndEntropy : Prop :=
  (∀ (alarm : Fin 5) (value : Int) (s : State), s.phase.guarded = true →
    ∃ s1 : State, exec (.tamperAlarm alarm value) s = .next (if s.live then s1.resumeAll else s1) ∧ s1.sec.tampered = true ∧
      s1.sec.causes = s.sec.causes ||| (1 <<< alarm.val) ∧
      (s1.sec.meshBroken = true ↔ s.sec.meshBroken = true ∨ alarm = 3) ∧
      s1.sec.keysHeld = false ∧ s1.sec.kpio = [] ∧ s1.sec.sessions = [] ∧
      (∀ pg : Fin 16, s1.vault.pages[pg].slots = Vector.replicate 4 {} ∧ s1.vault.pages[pg].din = Vector.replicate 4 0 ∧
        s1.vault.pages[pg].dout = Vector.replicate 4 0 ∧ s1.vault.pages[pg].nonce = s.vault.pages[pg].nonce ∧
        s1.vault.pages[pg].busy = false ∧ (s.vault.pages[pg].busy = true → s1.vault.pages[pg].code = 5)) ∧
      (∀ p : Fin 2, s1.ports[p].ideKeys = Vector.replicate 2 none ∧ s1.ports[p].ide ≠ .secure) ∧
      (∀ p ∈ s.portList, s1.ports[p].cnt.active = true ∧ s1.ports[p].cnt.causes.getLsbD 7 = true) ∧
      s1.land.unencrypted = [] ∧
      (∀ e ∈ s.land.unencrypted, e.2.wt = false → gkey e.2.ns e.2.granule ∈ s1.media.lost) ∧
      s1.sec.keyGen = s.sec.keyGen ∧ s1.sec.owner = s.sec.owner ∧ s1.sec.ownerLock = s.sec.ownerLock) ∧
  (∀ (ok : Bool) (s : State), s.phase.guarded = true →
    ∃ t, exec (.tamperAlarm 4 0) s = .next t ∧ exec (.debugUnlockWrite ok) s = .next (if s.sec.debugAuth && ok then
      { t with sec := { t.sec with debugUnlocked := true, debugAuth := false } } else t)) ∧
  (∀ (s : State), s.live = true →
    (∃ t, exec .entropyHealthFail s = .next t ∧ t.sec = { s.sec with entropyBad := true } ∧ t.evr = (s.log 0x5130 0x30).evr ∧
      Changes [.evr, .sec] s t) ∧
    (∀ ok, s.sec.entropyBad = false → exec (.entropyRetry ok) s = .next s) ∧
    (s.sec.entropyBad = true →
      exec (.entropyRetry true) s = .next { s with sec := { s.sec with entropyBad := false } } ∧
      (∃ t, exec (.entropyRetry false) s = .next t ∧ t.sec = s.sec ∧ t.evr = (s.log 0x5130 0x30).evr))) ∧
  (∀ (failed : BitVec 8) (s : State), s.live = true →
    ∃ t, exec (.cipherLaneKat failed) s = .next t ∧
      (∀ sl : Fin 8, t.units.lane[sl] = (s.units.lane[sl] || failed.getLsbD sl.val)) ∧
      (failed = 0 → t = s) ∧
      (∀ sl : Fin 8, failed = 1 <<< sl.val → s.units.lane[sl] = false → s.units.lane[partner sl] = false →
        t.evr = (s.log 0x5430 sl.val).evr ∧ Changes [.units, .evr] s t))

/-- R355, R369, R371 to R377: Opal methods and their outcomes, GenKey and the PSID revert replace keys and trim what lay under them,
and Key Per I/O keys come and go. Method statuses are TCG's (notes/assumptions/23.md). -/
def Obligations.OpalAndKeyPerIo : Prop :=
  (∀ (fseq : Nat) (m : OpalMethod) (c : Cmd) (s : State), s.AdminReady fseq 0x81 c → s.units.pair = false →
    ∃ t, exec (.opalMethod fseq m) s = .next t ∧ t.sec = (s.opal m).1 ∧
      s.Completed (s.out ++ [Output.reply fseq 0x810000 [(s.opal m).2]]) t fseq c .success 0 ∧ Changes [.cmq, .land, .media, .sec, .out] s t) ∧
  (∀ (fseq protocol : Nat) (c : Cmd) (s : State), s.AdminReady fseq 0x82 c →
    (protocol = 1 ∨ protocol = 2 → ∃ t x, exec (.opalReceive fseq protocol) s = .next t ∧
      s.Completed (s.out ++ [Output.reply fseq (0x820000 + protocol) [bit s.sec.opalActive, s.sec.rangeCount, x]]) t fseq c .success 0) ∧
    (protocol ≠ 1 → protocol ≠ 2 → ∃ t, exec (.opalReceive fseq protocol) s = .next t ∧
      s.Completed s.out t fseq c .invalidField 0)) ∧
  (∀ (a : Fin 22) (pin : List Byte) (s : State),
    (5 ≤ (s.sec.tries.get? a.val).getD 0 → s.opal (.authenticate a pin) = (s.sec, 0x12)) ∧
    ((s.sec.tries.get? a.val).getD 0 < 5 → (a = 0 → s.sec.sidBlocked = false) →
      ((s.sec.pins.get? a.val).getD [] = pin → (s.opal (.authenticate a pin)).2 = 0 ∧ a.val ∈ (s.opal (.authenticate a pin)).1.authed) ∧
      ((s.sec.pins.get? a.val).getD [] ≠ pin → (s.opal (.authenticate a pin)).2 = 1 ∧
        a.val ∉ (s.opal (.authenticate a pin)).1.authed ∧
        ((s.opal (.authenticate a pin)).1.tries.get? a.val).getD 0 = (s.sec.tries.get? a.val).getD 0 + 1))) ∧
  (∀ (r : Fin 64) (rd wr : Bool) (s : State), s.sec.opalActive = true → s.sec.hasRange r = true →
    (s.sec.anyone = true → (s.opal (.setLocked r rd wr)).2 = 0 ∧
      (s.opal (.setLocked r rd wr)).1.ranges[r] = { s.sec.ranges[r] with rdLocked := rd, wrLocked := wr } ∧
      ∀ q : Fin 64, q ≠ r → (s.opal (.setLocked r rd wr)).1.ranges[q] = s.sec.ranges[q]) ∧
    (s.sec.anyone = false → s.opal (.setLocked r rd wr) = (s.sec, 1)) ∧
    (s.sec.admin = true → (s.opal (.setLockEnabled r rd wr)).1.ranges[r] = { s.sec.ranges[r] with rdEn := rd, wrEn := wr } ∧
      (s.opal (.setLockOnReset r rd wr)).1.ranges[r] = { s.sec.ranges[r] with lorPower := rd, lorReset := wr }) ∧
    (s.sec.admin = false → s.opal (.setLockEnabled r rd wr) = (s.sec, 1) ∧ s.opal (.setLockOnReset r rd wr) = (s.sec, 1))) ∧
  (∀ (r : Fin 64) (nsid start len : Nat) (s : State), s.sec.opalActive = true → 1 ≤ nsid → s.sec.admin = true →
    s.rangeFits r (nsid - 1) start len = true → (s.opal (.setRange r nsid start len)).2 = 0 ∧
      (s.opal (.setRange r nsid start len)).1.ranges[r].ns = some (nsid - 1) ∧
      (s.opal (.setRange r nsid start len)).1.ranges[r].start = start ∧
      (s.opal (.setRange r nsid start len)).1.ranges[r].len = len ∧
      (s.sec.ranges[r].ns = none → (s.opal (.setRange r nsid start len)).1.keyGen[r] =
        s.sec.keyGen[s.sec.rangeOf (nsid - 1) start])) ∧
  (∀ (ns unit : Nat) (n : Namespace) (tag : Option Nat) (s : State), s.sealed = false →
    (n.kpio = false → s.sec.opalActive = true →
      (s.denied ns n unit tag true = true ↔ s.sec.ranges[s.sec.rangeOf ns unit].wrEn = true ∧
        s.sec.ranges[s.sec.rangeOf ns unit].wrLocked = true) ∧
      (s.denied ns n unit tag false = true ↔ s.sec.ranges[s.sec.rangeOf ns unit].rdEn = true ∧
        s.sec.ranges[s.sec.rangeOf ns unit].rdLocked = true)) ∧
    (n.kpio = true → ∀ wr, (s.denied ns n unit tag wr = true ↔ s.sec.kpio.get? (ns * 4096 + tag.getD 0) = none))) ∧
  (∀ (ns unit : Nat) (n : Namespace) (tag : Option Nat) (wr : Bool) (s : State), s.sealed = true → s.denied ns n unit tag wr = true) ∧
  (∀ (fseq : Nat) (r : Fin 64) (c : Cmd) (s : State), s.AdminReady fseq 0x81 c → s.cmq.cmds = [(fseq, c)] →
    (s.sec.entropyBad = true ∨ s.sealed = true → ∃ t, exec (.opalGenkey fseq r) s = .next t ∧ t.sec = s.sec ∧
      s.Completed (s.out ++ [Output.reply fseq 0x810000 [0x3F]]) t fseq c .success 0) ∧
    (s.sec.entropyBad = false → s.sealed = false → s.sec.opalActive = true → s.sec.hasRange r = true → s.sec.admin = true →
      ∃ t b, exec (.opalGenkey fseq r) s = .next t ∧ s.Completed (b ++ [Output.reply fseq 0x810000 [0]]) t fseq c .success 0 ∧
        t.sec.keyGen[r] = s.sec.nextGen ∧ t.sec.nextGen = s.sec.nextGen + 1 ∧
        (∀ q : Fin 64, q ≠ r → t.sec.keyGen[q] = s.sec.keyGen[q]) ∧
        ∀ ns n u, s.media.namespaces.get? ns = some n → n.kpio = false → u < ceilDiv n.granules n.perUnit →
          s.sec.rangeOf ns u = r → t.media.map.get? (gkey ns u) = none)) ∧
  (∀ (fseq : Nat) (c : Cmd) (s : State), s.AdminReady fseq 0x81 c → s.cmq.cmds = [(fseq, c)] →
    (s.sec.tries.get? 1).getD 0 < 5 →
    (∃ t, exec (.psidRevert fseq false) s = .next t ∧ (t.sec.tries.get? 1).getD 0 = (s.sec.tries.get? 1).getD 0 + 1 ∧
      t.sec.keyGen = s.sec.keyGen ∧ s.Completed (s.out ++ [Output.reply fseq 0x810000 [1]]) t fseq c .success 0) ∧
    (s.sec.entropyBad = false → s.units.pair = false → ∃ t b, exec (.psidRevert fseq true) s = .next t ∧
      s.Completed (b ++ [Output.reply fseq 0x810000 [0]]) t fseq c .success 0 ∧
      (∀ k : Fin 64, s.sec.nextGen ≤ t.sec.keyGen[k]) ∧ (∀ j k : Fin 64, j ≠ k → t.sec.keyGen[j] ≠ t.sec.keyGen[k]) ∧
      (∀ ns, s.media.namespaces.has ns = true → ∀ u, u < 2 ^ 40 → t.media.map.get? (gkey ns u) = none) ∧
      t.sec.opalActive = false ∧ t.sec.pins = [] ∧ t.sec.dataStore = [] ∧ t.sec.owner = s.sec.owner ∧
      t.sec.ownerLock = s.sec.ownerLock)) ∧
  (∀ (fseq nsid tag k : Nat) (key : BitVec 512) (c : Cmd) (s : State), s.AdminReady fseq 0x81 c →
    s.kpioAt c.port nsid tag = some k →
    (∀ i, s.sealed = false → s.sec.kpio.get? k = none → s.sec.freeIndex = some i →
      ∃ t, exec (.kpioKeyInject fseq nsid tag key true) s = .next t ∧
        t.sec.kpio.get? k = some { index := i, key := key, port := c.port } ∧
        (∀ j, j ≠ k → t.sec.kpio.get? j = s.sec.kpio.get? j) ∧ s.Completed s.out t fseq c .success 0) ∧
    (∃ t, exec (.kpioKeyInject fseq nsid tag key false) s = .next t ∧ t.sec = s.sec ∧
      s.Completed s.out t fseq c .accessDenied 0) ∧
    (∀ x, s.sec.kpio.get? k = some x → s.land.boundKey x.index = [] → ∃ t, exec (.kpioClearKey fseq nsid tag) s = .next t ∧
      t.sec.kpio.get? k = none ∧ s.Completed s.out t fseq c .success 0))

/-- R383 to R389: owner commands: the nonce, when a command is refused and with which result, what an accepted one does, and what waits
for presence. The order of the checks is the model's (notes/assumptions/24.md). -/
def Obligations.OwnerCommands : Prop :=
  (∀ (s : State), s.dictServes = true →
    (∃ t, exec (.ownerNonce .bmc) s = .next t ∧ t.sec.nonce = some (Config.drbg s.free, s.tb.count.toNat) ∧
      t.out = s.out ++ [Output.miReply 0 0 (leBytes 32 (Config.drbg s.free).toNat)] ∧ Changes [.sec, .out, .free] s t) ∧
    (∃ t, exec (.ownerResult .bmc) s = .next t ∧ t.out = s.out ++ [Output.miReply 0 0 [s.sec.ownerResult]] ∧ Changes [.out] s t)) ∧
  (∀ (fseq : Nat) (c0 : Cmd) (s : State), s.AdminReady fseq 0x82 c0 →
    (∃ t, exec (.ownerNonce (.host fseq)) s = .next t ∧ t.sec.nonce = some (Config.drbg s.free, s.tb.count.toNat) ∧
      s.Completed (s.out ++ [Output.reply fseq 0xF10000 ((leBytes 32 (Config.drbg s.free).toNat).map (·.toNat))]) t fseq c0 .success 0) ∧
    (∃ t, exec (.ownerResult (.host fseq)) s = .next t ∧ t.sec = s.sec ∧
      s.Completed (s.out ++ [Output.reply fseq 0xF10000 [s.sec.ownerResult.toNat]]) t fseq c0 .success 0)) ∧
  (∀ (k : Nat) (c : OwnerCmd) (bad : Bool) (s : State), s.ownerRefuses k c bad = none ↔
    c.magic = 0x4F574E31 ∧ s.sealed = false ∧ (∃ t0, s.sec.nonce = some (c.nonce, t0) ∧ s.tb.count.toNat ≤ t0 + 12000000000) ∧
      c.serial = (if s.bst.calibOk then s.bst.serial else 0) ∧
      (k = 1 → s.sec.owner = none ∧
        Config.ecdsaOk (padTo 96 0 c.param) (Config.sha384 (ownerSigned c k)) c.sig = true) ∧
      (k ≠ 1 → ∃ key, s.sec.owner = some key ∧ Config.ecdsaOk key (Config.sha384 (ownerSigned c k)) c.sig = true) ∧ bad = false) ∧
  (∀ (i : Instr) (k : Nat) (bad : Bool) (v : Via) (c : OwnerCmd) (s : State),
    (v = .bmc ∧ s.dictServes = true) ∨ (∃ fseq c0, v = .host fseq ∧ s.AdminReady fseq 0x81 c0) →
    (k = 1 ∧ i = .ownerTakeOwnership v c ∧ bad = decide (c.param.length ≠ 96)) ∨ (k = 2 ∧ i = .ownerSetLock v c ∧ bad = false) ∨
      (k = 3 ∧ i = .ownerClearLock v c ∧ bad = false) ∨
      (k = 4 ∧ i = .ownerReplaceKey v c ∧ bad = decide (c.param.length ≠ 96)) ∨
      (k = 5 ∧ i = .ownerWriteEntry v c ∧ bad = (decide (92 < field c.param 3 1) ||
        (s.writeRefused 5 (entryParam c.param).1 (entryParam c.param).2.1 (entryParam c.param).2.2).isSome)) ∨
      (k = 6 ∧ i = .ownerProvisionSlot2 v c ∧ bad = decide (c.param.length < 48)) ∨ (k = 7 ∧ i = .ownerRelease v c ∧ bad = false) ∨
      (k = 8 ∧ i = .ownerAuthoriseDebug v c ∧ bad = false) →
    (∀ r, s.ownerRefuses k c bad = some r → ∃ t, exec i s = .next t ∧
      t.sec = { s.sec with nonce := none, ownerResult := BitVec.ofNat 8 r } ∧
      t.evr = (s.log 0x5205 0x30 (leBytes 2 k ++ leBytes 1 r)).evr ∧ t.vault = s.vault ∧ t.dict = s.dict) ∧
    (s.ownerRefuses k c bad = none → ∃ t, exec i s = .next t ∧ t.sec.nonce = none ∧ t.vault.context = 15 ∧
      (k = 2 → t.sec.ownerLock = true ∧ t.sec.ownerResult = 0 ∧ t.evr = (s.log 0x5201 0x30).evr) ∧
      (k = 6 → t.sec.slot2Hash = some (c.param.take 48, s.tb.count.toNat) ∧ t.sec.ownerResult = 0) ∧
      (k = 5 → t.sec.ownerResult = 0 ∧ (∀ d, s.entryOf (entryParam c.param).1 (entryParam c.param).2.1 = some d → d.access ≠ 3 →
        d.flags % 2 = 0 → t.dict.windows.get? ((entryParam c.param).1 * 256 + (entryParam c.param).2.1) =
          some (((s.dict.windows.get? ((entryParam c.param).1 * 256 + (entryParam c.param).2.1)).getD []) ++
            [{ writer := 5, value := (entryParam c.param).2.2, tag := 0 }]))) ∧
      (k = 1 ∨ k = 3 ∨ k = 4 ∨ k = 7 ∨ k = 8 → t.sec.ownerResult = 1 ∧
        t.sec.waiting = some { opcode := k, param := if k = 1 ∨ k = 4 then c.param else [] } ∧
        t.sec.owner = s.sec.owner ∧ t.sec.ownerLock = s.sec.ownerLock ∧ t.sec.debugAuth = s.sec.debugAuth))) ∧
  (∀ (w : OwnerWait) (s : State), s.live = true → s.sec.waiting = some w →
    (∀ b, b = false ∨ s.board.btn = 2 → exec (.presenceHold b) s = .next s) ∧
    (s.board.btn ≠ 2 → ∃ t, exec (.presenceHold true) s = .next t ∧ t.sec.waiting = none ∧ t.sec.ownerResult = 0 ∧
      (w.opcode = 1 ∨ w.opcode = 4 → t.sec.owner = some (padTo 96 0 w.param) ∧ t.sec.ownerLock = s.sec.ownerLock ∧
        t.evr = (s.log 0x5203 0x30 (leBytes 2 w.opcode ++ (padTo 48 0 (Config.sha384 (padTo 96 0 w.param))).take 8)).evr) ∧
      (w.opcode = 3 → t.sec.owner = s.sec.owner ∧ t.sec.ownerLock = false ∧ t.evr = (s.log 0x5202 0x30).evr) ∧
      (w.opcode = 7 → t.sec.owner = none ∧ t.sec.ownerLock = false ∧
        t.evr = (s.log 0x5203 0x30 (leBytes 2 7 ++ List.replicate 8 0)).evr) ∧
      (w.opcode = 8 → t.sec.debugAuth = true ∧ t.sec.owner = s.sec.owner ∧ t.sec.debugUnlocked = s.sec.debugUnlocked) ∧
      Changes [.sec, .evr] s t) ∧
    (∃ t, exec .presenceWindowExpire s = .next t ∧ t.sec = { s.sec with waiting := none, ownerResult := 4 } ∧ Changes [.sec] s t)) ∧
  (∀ (b : Bool) (s : State), s.live = true → s.sec.waiting = none →
    exec (.presenceHold b) s = .next s ∧ exec .presenceWindowExpire s = .next s)

/-- R391 to R403: the boot store: who may write it, what starts, ends, suspends and resumes an operation, what a read returns, and
what an abort leaves. -/
def Obligations.BootStoreCommands : Prop :=
  (∀ (i : Instr) (ini : Initiator) (s : State), s.storeUp = true → ini ≠ .core 28 →
    (∃ o d, i = .bstProgramPage ini o d) ∨ (∃ o, i = .bstSectorErase ini o) ∨ i = .bstSuspend ini ∨ i = .bstResume ini ∨
      i = .bstReadStatus ini ∨ i = .bstReturnToRead ini ∨ i = .bstSequenceBroken ini →
    exec i s = .next { s with out := s.out ++ [Output.accessError ini] }) ∧
  (∀ (o : Nat) (d : List Byte) (s : State), s.storeUp = true →
    (o % 256 = 0 → d.length = 256 → o < 67108864 → s.bst.op = none → 132 ≤ o / 65536 →
      ∃ t, exec (.bstProgramPage (.core 28) o d) s = .next t ∧
        t.bst.op = some { erase := false, sector := o / 65536, page := o / 256, data := d } ∧
        (t.bst.shadowOf (o / 65536)).pip = true ∧ (t.bst.shadowOf (o / 65536)).erases = (s.bst.shadowOf (o / 65536)).erases ∧
        t.bst.mem = s.bst.mem ∧ Changes [.bst] s t) ∧
    (o % 256 = 0 → d.length = 256 → o < 67108864 → s.bst.op = none → o / 65536 < 132 →
      exec (.bstProgramPage (.core 28) o d) s = .next { s with bst := { s.bst with wpErr := true } }) ∧
    (o % 256 ≠ 0 ∨ d.length ≠ 256 ∨ 67108864 ≤ o ∨ s.bst.op ≠ none →
      exec (.bstProgramPage (.core 28) o d) s = .next { s with bst := { s.bst with seqErr := true } }) ∧
    (s.bst.op ≠ none ∨ 67108864 ≤ o → exec (.bstSectorErase (.core 28) o) s = .next { s with bst := { s.bst with seqErr := true } }) ∧
    (s.bst.op = none → o / 65536 < 132 →
      exec (.bstSectorErase (.core 28) o) s = .next { s with bst := { s.bst with wpErr := true } }) ∧
    (s.bst.op = none → o < 67108864 → 132 ≤ o / 65536 →
      ((s.bst.shadowOf (o / 65536)).erases < 100000 → ∃ t, exec (.bstSectorErase (.core 28) o) s = .next t ∧
        t.bst.op = some { erase := true, sector := o / 65536 } ∧ (t.bst.shadowOf (o / 65536)).eip = true ∧
        (t.bst.shadowOf (o / 65536)).erases = (s.bst.shadowOf (o / 65536)).erases + 1 ∧ t.bst.mem = s.bst.mem ∧
        Changes [.bst] s t) ∧
      (100000 ≤ (s.bst.shadowOf (o / 65536)).erases → ∃ t, exec (.bstSectorErase (.core 28) o) s = .next t ∧
        t.bst = { s.bst with eraseErr := true, worn := true } ∧ t.evr = (s.log 0x1011 0x20 (leBytes 2 (o / 65536))).evr ∧
        Changes [.bst, .evr] s t))) ∧
  (∀ (op : BstOp) (s : State), s.storeUp = true → s.bst.op = some op → op.susp = false → s.bst.held = [] →
    (op.erase = true → ∃ t, exec (.bstOpComplete true) s = .next t ∧ t.bst.op = none ∧
      (∀ a, memGet 0xFF t.bst.mem a = if a / 65536 = op.sector then 0xFF else memGet 0xFF s.bst.mem a) ∧
      (t.bst.shadowOf op.sector).eip = false ∧ (t.bst.shadowOf op.sector).pip = false ∧
      (t.bst.shadowOf op.sector).erases = (s.bst.shadowOf op.sector).erases ∧ t.evr = s.evr) ∧
    (op.erase = false → op.data.length = 256 → (s.bst.progs.get? op.page).getD 0 < 4 →
      ∃ t, exec (.bstOpComplete true) s = .next t ∧ t.bst.op = none ∧
        (∀ a, memGet 0xFF t.bst.mem a = if h : op.page * 256 ≤ a ∧ a - op.page * 256 < op.data.length then
          memGet 0xFF s.bst.mem a &&& op.data[a - op.page * 256] else memGet 0xFF s.bst.mem a) ∧
        (t.bst.shadowOf op.sector).pip = false ∧ (t.bst.shadowOf op.sector).eip = (s.bst.shadowOf op.sector).eip ∧
        (t.bst.progs.get? op.page).getD 0 = (s.bst.progs.get? op.page).getD 0 + 1 ∧ t.evr = s.evr) ∧
    (∃ t, exec (.bstOpComplete false) s = .next t ∧ t.bst.op = none ∧
      (op.erase = true → t.bst.eraseErr = true ∧ (t.bst.shadowOf op.sector) = s.bst.shadowOf op.sector) ∧
      (op.erase = false → t.bst.progErr = true ∧ (t.bst.shadowOf op.sector) = s.bst.shadowOf op.sector)) ∧
    (∃ t, exec .bstAbort s = .next t ∧ t.bst.op = none ∧ t.bst.aborted = true ∧ t.bst.abortedOp = some (op.sector, op.erase) ∧
      t.bst.shadowOf op.sector = s.bst.shadowOf op.sector) ∧
    (op.suspPend = false → op.resumed = false ∨ op.ranEnough = true → exec (.bstSuspend (.core 28)) s =
      .next { s with bst := { s.bst with op := some { op with suspPend := true, auto := false } } }) ∧
    (op.suspPend = false → op.resumed = true → op.ranEnough = false → exec (.bstSuspend (.core 28)) s =
      .next { s with bst := { s.bst with op := some { op with held := true, auto := false } } }) ∧
    (op.held = true → exec .bstSuspendDue s = .next { s with bst := { s.bst with
      op := some { op with ranEnough := true, held := false, suspPend := true } } }) ∧
    (op.held = false → exec .bstSuspendDue s = .next { s with bst := { s.bst with op := some { op with ranEnough := true } } }) ∧
    (op.suspPend = true → op.auto = false → ∃ t, exec .bstSuspended s = .next t ∧ t.bst.suspended = true ∧
      t.bst.op = some { op with suspPend := false, susp := true } ∧ Changes [.bst, .out] s t) ∧
    (op.suspPend = false → exec .bstSuspended s = .next s)) ∧
  (∀ (op : BstOp) (s : State), s.storeUp = true → s.bst.op = some op → op.susp = true →
    exec (.bstResume (.core 28)) s = .next { s with bst := { s.bst with
      op := some { op with susp := false, resumed := true, ranEnough := false, auto := false } } } ∧
    exec (.bstOpComplete true) s = .next s) ∧
  (∀ (ini : Initiator) (o : Nat) (s : State), s.storeUp = true →
    (s.bstAdmits ini = false ∨ 67108864 ≤ o → exec (.bstRead ini o) s = .next { s with out := s.out ++ [Output.accessError ini] }) ∧
    (s.bstAdmits ini = true → o < 67108864 → s.bst.idMode = none →
      (s.bst.op = none → exec (.bstRead ini o) s = .next { s with out := s.out ++ [Output.readVal ini (memGet 0xFF s.bst.mem o).toNat] }) ∧
      (∀ op, s.bst.op = some op → op.sector = o / 65536 → exec (.bstRead ini o) s = .next { s with
        bst := { s.bst with suspHit := true }, out := s.out ++ [Output.readVal ini 0x5A] }) ∧
      (∀ op, s.bst.op = some op → op.sector ≠ o / 65536 → op.susp = true →
        exec (.bstRead ini o) s = .next { s with out := s.out ++ [Output.readVal ini (memGet 0xFF s.bst.mem o).toNat] }) ∧
      (∀ op, s.bst.op = some op → op.sector ≠ o / 65536 → op.susp = false → ∃ t, exec (.bstRead ini o) s = .next t ∧
        t.bst.held = s.bst.held ++ [(ini, o, s.tb.count.toNat)] ∧ t.out = s.out ∧ t.bst.mem = s.bst.mem ∧
        (s.bst.autoSusp = false → t.bst.op = some op) ∧
        (s.bst.autoSusp = true → op.suspPend = false → op.resumed = false ∨ op.ranEnough = true →
          t.bst.op = some { op with suspPend := true, auto := true }) ∧
        (s.bst.autoSusp = true → op.suspPend = false → op.resumed = true → op.ranEnough = false →
          t.bst.op = some { op with held := true, auto := true }) ∧ Changes [.bst] s t))) ∧
  (∀ (s : State), s.storeUp = true →
    exec (.bstReadStatus (.core 28)) s = .next { s with bst := { s.bst with idMode := some (.core 28) } } ∧
    exec (.bstSequenceBroken (.core 28)) s = .next { s with bst := { s.bst with seqErr := true } } ∧
    (s.bst.held = [] → ∃ t, exec (.bstReturnToRead (.core 28)) s = .next t ∧ t.bst.idMode = none ∧ t.bst.eraseErr = false ∧
      t.bst.progErr = false ∧ t.bst.seqErr = false ∧ t.bst.wpErr = false ∧ t.bst.mem = s.bst.mem ∧ t.out = s.out ∧
      Changes [.bst, .out] s t))

/-- R484, R486 to R488, R490 to R496: requests to the dictionary through a mailbox and over the management bus, and the commit window:
what a read and a describe return, when a write is refused, which write of a window takes force and what the others learn. -/
def Obligations.DictionaryRequests : Prop :=
  (∀ (p : Fin 2) (r : DictReq) (s : State), s.MailboxOpen p →
    (s.entryOf r.index.toNat r.sub.toNat = none → ∀ i : Instr, i = .dictRead p r ∨ i = .dictWrite p r ∨ i = .dictDescribe p r →
      ∃ t, exec i s = .next t ∧ t.dict.mbox[p].code = 1 ∧ t.dict.mbox[p].done = true ∧ t.dict.mbox[p].busy = false ∧
        t.dict.mbox[p].tag = r.tag ∧ t.dict.vals = s.dict.vals ∧ Changes [.dict, .out] s t) ∧
    (∀ d, s.entryOf r.index.toNat r.sub.toNat = some d →
      (∃ t, exec (.dictDescribe p r) s = .next t ∧ t.dict.mbox[p].code = 0 ∧ t.dict.mbox[p].done = true ∧
        t.dict.mbox[p].value = d.bytes ∧ t.dict.mbox[p].tag = r.tag ∧ Changes [.dict, .out] s t) ∧
      (d.access = 3 → ∃ t, exec (.dictRead p r) s = .next t ∧ t.dict.mbox[p].code = 2 ∧ t.dict.mbox[p].done = true ∧
        Changes [.dict, .out] s t) ∧
      (d.access ≠ 3 → ∃ t, exec (.dictRead p r) s = .next t ∧ t.dict.mbox[p].code = 0 ∧ t.dict.mbox[p].done = true ∧
        t.dict.mbox[p].tag = r.tag ∧ t.dict.mbox[p].value = s.entryValue d p.val r.index.toNat r.sub.toNat ∧
        (t.dict.mbox[p].writer.toNat, t.dict.mbox[p].wOpsec, t.dict.mbox[p].wPcc) =
          (match s.dict.vals.get? (r.index.toNat * 256 + r.sub.toNat) with
          | some v => (v.writer.toNat, v.opsec, v.pcc)
          | none => (0, 0, 0)) ∧ t.dict.vals = s.dict.vals ∧ Changes [.dict, .out] s t) ∧
      (∀ st, s.writeRefused (p.val + 1) r.index.toNat r.sub.toNat r.value = some st → st < 256 →
        ∃ t, exec (.dictWrite p r) s = .next t ∧ t.dict.mbox[p].code = BitVec.ofNat 8 st ∧ t.dict.mbox[p].done = true ∧
          t.dict.vals = s.dict.vals ∧ t.dict.windows = s.dict.windows ∧ t.dict.perReq = s.dict.perReq ∧ Changes [.dict, .out] s t) ∧
      (s.writeRefused (p.val + 1) r.index.toNat r.sub.toNat r.value = none → d.access ≠ 3 → d.flags % 2 = 0 →
        ∃ t, exec (.dictWrite p r) s = .next t ∧ t.dict.mbox[p].busy = true ∧ t.dict.vals = s.dict.vals ∧
          t.dict.windows.get? (r.index.toNat * 256 + r.sub.toNat) =
            some (((s.dict.windows.get? (r.index.toNat * 256 + r.sub.toNat)).getD []) ++
              [{ writer := BitVec.ofNat 8 (p.val + 1), value := r.value, tag := r.tag }]) ∧ Changes [.dict] s t) ∧
      (s.writeRefused (p.val + 1) r.index.toNat r.sub.toNat r.value = none → d.access ≠ 3 → d.flags % 2 = 1 →
        ∃ t, exec (.dictWrite p r) s = .next t ∧ t.dict.mbox[p].code = 0 ∧ t.dict.mbox[p].done = true ∧
          t.dict.perReq.get? (reqKey p.val r.index.toNat r.sub.toNat) = some r.value ∧ t.dict.windows = s.dict.windows ∧
          Changes [.dict, .out] s t))) ∧
  (∀ (writer index sub : Nat) (value : List Byte) (d : Desc64) (s : State), s.entryOf index sub = some d →
    (d.access = 0 ∨ d.access = 4 → s.writeRefused writer index sub value = some 2) ∧
    (d.access ≠ 0 → d.access ≠ 4 → d.writers.testBit (writerBit writer) = false → s.writeRefused writer index sub value = some 3) ∧
    (d.access ≠ 0 → d.access ≠ 4 → d.writers.testBit (writerBit writer) = true → value.length ≠ d.size →
      s.writeRefused writer index sub value = some 5) ∧
    (d.access ≠ 0 → d.access ≠ 4 → d.writers.testBit (writerBit writer) = true → value.length = d.size → d.type ≠ 8 → d.type ≠ 9 →
      ofLeBytes value < d.min ∨ d.max < ofLeBytes value → s.writeRefused writer index sub value = some 4)) ∧
  (∀ (p : Fin 2) (op : Byte) (tag : BitVec 64) (s : State), s.MailboxOpen p →
    ∃ t, exec (.dictRequestInvalid p op tag) s = .next t ∧ t.dict.mbox[p].code = 9 ∧ t.dict.mbox[p].done = true ∧
      t.dict.mbox[p].tag = tag ∧ t.dict.vals = s.dict.vals ∧ Changes [.dict, .out] s t) ∧
  (∀ (i : Instr) (p : Fin 2) (s : State), (∃ r, i = .dictRead p r ∨ i = .dictWrite p r ∨ i = .dictDescribe p r) →
    s.linkUp p = true → s.asleep = false → s.dictServes = true → s.param 0x2000 4 ≠ 1 → s.dict.mbox[p].busy = true →
    ∃ t, exec i s = .next t ∧ t.dict.mbox[p] = { s.dict.mbox[p] with code := 8 } ∧ t.dict.vals = s.dict.vals ∧ Changes [.dict] s t) ∧
  (∀ (r : DictReq) (s : State), s.BusOpen → ∀ d, s.entryOf r.index.toNat r.sub.toNat = some d →
    (d.access ≠ 3 → ∃ t, exec (.miDictRead r) s = .next t ∧
      t.out = s.out ++ [Output.miReply 0 (s.writeMark r.index.toNat r.sub.toNat).1
        (leBytes 8 (s.writeMark r.index.toNat r.sub.toNat).2.1 ++ leBytes 4 (s.writeMark r.index.toNat r.sub.toNat).2.2 ++
          leBytes 4 0 ++ s.entryValue d 2 r.index.toNat r.sub.toNat)] ∧ t.dict.vals = s.dict.vals ∧ Changes [.dict, .out] s t) ∧
    (∃ t, exec (.miDictDescribe r) s = .next t ∧
      t.out = s.out ++ [Output.miReply 0 0 d.bytes] ∧ Changes [.out] s t) ∧
    (s.writeRefused 3 r.index.toNat r.sub.toNat r.value = none → d.access ≠ 3 → d.flags % 2 = 0 →
      ∃ t, exec (.miDictWrite r) s = .next t ∧ t.dict.vals = s.dict.vals ∧
        t.dict.windows.get? (r.index.toNat * 256 + r.sub.toNat) =
          some (((s.dict.windows.get? (r.index.toNat * 256 + r.sub.toNat)).getD []) ++
            [{ writer := 3, value := r.value, tag := r.tag }]) ∧ t.out = s.out ∧ Changes [.dict] s t)) ∧
  (∀ (index : BitVec 16) (sub : Byte) (s : State), s.live = true → s.dict.held = [] → index ≠ 0x3310 →
    (s.dict.windows.get? (index.toNat * 256 + sub.toNat) = none → exec (.commitWindowClose index sub) s = .next s) ∧
    (∀ (p : Fin 2) (w : WinWrite), s.dict.windows.get? (index.toNat * 256 + sub.toNat) = some [w] → w.writer.toNat = p.val + 1 →
      ∃ t, exec (.commitWindowClose index sub) s = .next t ∧ t.dict.windows.get? (index.toNat * 256 + sub.toNat) = none ∧
        t.dict.vals.get? (index.toNat * 256 + sub.toNat) =
          some { bytes := w.value, writer := w.writer, opsec := s.clocks.opsec.toNat, pcc := s.clocks.pcc.toNat } ∧
        t.dict.mbox[p].code = 0 ∧ t.dict.mbox[p].done = true ∧ t.dict.mbox[p].busy = false ∧ t.dict.mbox[p].tag = w.tag) ∧
    (∀ (p : Fin 2) (h b win : WinWrite) (bFirst : Bool) (auth : Nat), h.writer.toNat = p.val + 1 → b.writer = 3 →
      s.dict.windows.get? (index.toNat * 256 + sub.toNat) = some (if bFirst then [b, h] else [h, b]) →
      (s.entryOf index.toNat sub.toNat).map (·.authority) = some auth →
      win = (if auth = 0 then h else if auth = 1 then b else if bFirst then h else b) →
      ∃ t, exec (.commitWindowClose index sub) s = .next t ∧
        t.dict.vals.get? (index.toNat * 256 + sub.toNat) =
          some { bytes := win.value, writer := win.writer, opsec := s.clocks.opsec.toNat, pcc := s.clocks.pcc.toNat } ∧
        t.dict.overrides = s.dict.overrides + 1 ∧
        (win = b → h ≠ b → t.dict.mbox[p].code = 0xC7 ∧ t.dict.mbox[p].done = true ∧
          ((s.dict.mbox[p].wr - s.dict.mbox[p].rd).toNat ≠ 31 → t.dict.mbox[p].ntf = true ∧
            t.dict.mbox[p].wr = s.dict.mbox[p].wr + 1 ∧ t.dict.mbox[p].ring.get? s.dict.mbox[p].wr.toNat =
              some { index := index.toNat, sub := sub.toNat, winner := 3, opsec := s.clocks.opsec.toNat }) ∧
          ((s.dict.mbox[p].wr - s.dict.mbox[p].rd).toNat = 31 → t.dict.mbox[p].overflow = true)) ∧
        (win = h → h ≠ b → t.dict.mbox[p].code = 0 ∧ (s.dict.bmcRing.has s.dict.bmcNext = false →
          t.dict.bmcRing.get? s.dict.bmcNext =
            some { index := index.toNat, sub := sub.toNat, winner := h.writer, opsec := s.clocks.opsec.toNat }) ∧
          (s.dict.bmcRing.has s.dict.bmcNext = true → t.dict.bmcDropped = s.dict.bmcDropped + 1)))) ∧
  (∀ (w : WinWrite) (s : State), s.live = true → s.dict.held = [] → s.dict.windows.get? (0x3310 * 256) = some [w] →
    ofLeBytes w.value < s.param 0x3310 1 + 2 → portOf w.writer.toNat = some 0 →
    ∃ t, exec (.commitWindowClose 0x3310 0) s = .next t ∧ t.dict.vals = s.dict.vals ∧ t.dict.mbox[(0 : Fin 2)].code = 4)

/-- R209, R213, R228, R233, R430, R478, R491, R495: entries whose write acts: each trigger acts at its own commit and is answered, by
either master. -/
def Obligations.DictionaryTriggers : Prop :=
  (∀ (v : Option (Fin 2)) (s : State), (∀ p, v = some p → s.MailboxOpen p) → (v = none → s.BusOpen) →
    (∃ s1 : State, exec (.testNow v) s = .next (s1.respond v 0 0 (s1.writeMark 0x3400 8) []) ∧
      (s.plp.state = .full → s.pws.ps ≤ 2 → s1.plp.state = .testing ∧ s1.plp.due = s.plp.due) ∧
      (s.plp.state ≠ .full ∨ 2 < s.pws.ps → s1.plp.state = s.plp.state ∧ s1.plp.due = s.plp.due + 1)) ∧
    (∃ s1 : State, exec (.cInitReset v) s = .next (s1.respond v 0 0 (s1.writeMark 0x3400 0x0E) []) ∧
      s1 = { s with plp := { s.plp with cInitReset := true } }) ∧
    (s.param 0x7000 1 = 1 → ∀ ms, 1 ≤ ms → ms ≤ 60000 → ∃ s1 : State,
      exec (.fullWindow v ms) s = .next (s1.respond v 0 0 (s1.writeMark 0x3310 4) []) ∧ s1.media.window = true) ∧
    (s.param 0x7000 1 = 0 → ∀ ms, 1 ≤ ms → ms ≤ 60000 →
      exec (.fullWindow v ms) s = .next (s.respond v 0 0 (s.writeMark 0x3310 4) [])) ∧
    (s.param 0x7000 1 = 0 → ∀ stripe, stripe < 2 ^ 32 →
      exec (.fullTarget v stripe) s = .next (s.respond v 0 0 (s.writeMark 0x3310 5) [])) ∧
    (s.param 0x7000 1 = 1 → ∀ c ∈ s.candidates, c.1 < 2 ^ 32 → ∃ s1 : State,
      exec (.fullTarget v c.1) s = .next (s1.respond v 0 0 (s1.writeMark 0x3310 5) []) ∧
      (s1.media.target = some c.1 ∨ s1.media.victim.isSome = true)) ∧
    (∃ s1 : State, exec (.pounceRun v) s = .next (s1.respond v 0 0 (s1.writeMark 0x3320 5) []) ∧
      (∀ e ∈ s1.media.pounces, e.2.pending = false) ∧ s1.media.map = s.media.map) ∧
    (∃ s1 : State, exec (.stagingDiscard v) s = .next (s1.respond v 0 0 (s1.writeMark 0x5200 7) []) ∧ s1.boot.staged = [] ∧
      s1.boot.bound = none ∧ s1.boot.pieces = [] ∧ (∀ a, a / 65536 < 388 ∨ 644 ≤ a / 65536 → memGet 0xFF s1.bst.mem a = memGet 0xFF s.bst.mem a)) ∧
    (∃ s1 : State, exec (.defaults v) s = .next (s1.respond v 0 0 (s1.writeMark 0x7F00 3) []) ∧
      (∀ d ∈ dictTable, d.resets = true → d.flags / 4 % 2 = 0 → d.index ≠ 0x3300 → ∀ sub, d.subFirst ≤ sub → sub ≤ d.subLast →
        s1.dict.vals.get? (d.index * 256 + sub) = some { bytes := leBytes d.size d.default, writer := BitVec.ofNat 8 (writerOf v)
                                                         opsec := s.clocks.opsec.toNat, pcc := s.clocks.pcc.toNat }) ∧
      (∀ d ∈ dictTable, d.access = 1 ∨ d.access = 2 → d.authority = 3 → ∀ sub, d.subFirst ≤ sub → sub ≤ d.subLast →
        s1.dict.vals.get? (d.index * 256 + sub) = s.dict.vals.get? (d.index * 256 + sub)))) ∧
  (∀ (n : Fin 32) (s : State), s.BusOpen → s.dict.vals.get? (0x7F02 * 256 + n.val) = none →
    ∃ t b, exec (.bmcNtfRead n) s = .next t ∧
    t.dict.bmcRing.get? n.val = none ∧ (∀ k, k ≠ n.val → t.dict.bmcRing.get? k = s.dict.bmcRing.get? k) ∧
    t.out = s.out ++ [Output.miReply 0 0 (leBytes 8 0 ++ leBytes 4 0 ++ leBytes 4 0 ++ b)] ∧
    (∀ x, s.dict.bmcRing.get? n.val = some x → b = x.bytes) ∧
    (s.dict.bmcRing.get? n.val = none → b = List.replicate 16 0) ∧
    Changes [.dict, .out] s t)

/-- R519 to R521, R524, R525: the front panel, the management bus's lines, the debug port. The press that was declared stuck is the
model's reading (notes/assumptions/42.md). -/
def Obligations.BoardHappenings : Prop :=
  (∀ (k : Fin 3) (a b c : Bool) (s : State), s.auxRuns = true → ¬(k = 2 ∧ s.param 0x3400 0x0A = 1) →
    ∃ t, exec (.ledCheck k a b c) s = .next t ∧
      t.board.ledFault[k] = (if a then 1 else if b then 2 else if c then 3 else 0) ∧
      (∀ j : Fin 3, j ≠ k → t.board.ledFault[j] = s.board.ledFault[j]) ∧
      t.out = s.out ++ [Output.led k (if a then 5 else ledCode (s.led k))] ∧
      t.evr = (if t.board.ledFault[k] = s.board.ledFault[k] then s.evr
        else if t.board.ledFault[k] = 0 then (s.log 0x7301 0x40 (leBytes 1 k.val)).evr
        else (s.log 0x7300 0x40 (leBytes 1 k.val ++ leBytes 1 t.board.ledFault[k].toNat)).evr) ∧
      Changes [.evr, .board, .out] s t) ∧
  (∀ (a b c : Bool) (s : State), s.param 0x3400 0x0A = 1 → exec (.ledCheck 2 a b c) s = .next s) ∧
  (∀ (s : State), s.param 0x6020 0 = 0 → (s.phase = .deepRest ∨ s.phase = .bootFault ∨ s.phase = .wakeFault ∨
      (∀ p, (s.ctrl p).rdy = false)) → s.led 0 = .off) ∧
  (∀ (s : State), s.param 0x6020 0 = 0 → s.phase = .running → (s.ctrl 0).rdy = true → s.cmq.cmds = [] → s.led 0 = .on) ∧
  (∀ (s : State), s.param 0x6020 1 = 0 → (s.phase = .bootFault ∨ s.phase = .wakeFault ∨ s.sec.tampered = true ∨
      s.media.readOnly = true ∨ (s.ctrl 0).cfs = true) → s.led 1 = .on) ∧
  (∀ (ms : Nat) (s : State), s.auxRuns = true → s.phase ≠ .deepRest → s.board.btn ≠ 2 →
    (50 ≤ ms → ms < 3000 → exec (.fpBtnPress ms) s = .next ((s.log 0x7320 0x40 (leBytes 2 ms)).emit (.miNotify 0x7320 ms))) ∧
    (ms < 50 ∨ 3000 ≤ ms → exec (.fpBtnPress ms) s = .next s)) ∧
  (∀ (s : State), s.auxRuns = true → s.board.btn ≠ 2 →
    ∃ t, exec .buttonStuck s = .next t ∧ t.board = { s.board with btn := 2 } ∧ t.evr = (s.log 0x7321 0x40).evr ∧
      Changes [.evr, .board] s t) ∧
  (∀ (ms : Nat) (s : State), s.auxRuns = true → s.board.btn = 2 →
    exec (.fpBtnPress ms) s = .next { s with board := { s.board with btn := 0 } }) ∧
  (∀ (sda : Bool) (s : State), s.auxRuns = true →
    (sda ∉ s.board.mbLow → ∃ t, exec (.mbLineHeldLow sda) s = .next t ∧ t.board = { s.board with mbLow := s.board.mbLow ++ [sda] } ∧
      t.evr = (s.log 0x7330 0x40 (leBytes 1 (bit sda))).evr ∧ t.out = s.out ++ [Output.mb false] ∧ Changes [.evr, .board, .out] s t) ∧
    (sda ∈ s.board.mbLow → exec (.mbLineHeldLow sda) s = .next s) ∧
    (sda ∈ s.board.mbLow → ∃ t, exec (.mbLineReleased sda) s = .next t ∧
      t.board = { s.board with mbLow := s.board.mbLow.filter (· != sda) } ∧
      t.evr = (s.log 0x7331 0x40 (leBytes 1 (bit sda))).evr ∧ Changes [.evr, .board] s t)) ∧
  (∀ (s : State), s.auxRuns = true → s.board.mbSel = true →
    exec .i3cHotJoin s = .next { s with board := { s.board with hotJoin := true }, out := s.out ++ [Output.mb true] }) ∧
  (∀ (s : State), s.auxRuns = true → s.phase ≠ .deepRest →
    (s.board.debugPresent = false → ∃ t, exec .debugProbeAttach s = .next t ∧ t.board = { s.board with debugPresent := true } ∧
      t.evr = (s.log 0x7340 0x40).evr ∧ Changes [.evr, .board] s t) ∧
    (s.board.debugPresent = true → ∃ t, exec .debugProbeRemove s = .next t ∧ t.board = { s.board with debugPresent := false } ∧
      t.evr = (s.log 0x7341 0x40).evr ∧ Changes [.evr, .board] s t))

/-- R13, R21, R30 and the register tables: a firmware core's write changes the writable fields of its register and nothing else, a
slice's own registers only at the core that schedules the slice; a read-only register keeps its value; an initiator that is not
admitted gets an access error. -/
def Obligations.RegistersWritten : Prop :=
  (∀ (r : Reg) (v : BitVec 32) (s : State), s.storeUp = true → kvcPage r = none →
    exec (.registerWrite .bmc r v) s = .next (s.emit (.accessError .bmc)) ∧
    (∀ ch, exec (.registerWrite (.sdma ch) r v) s = .next (s.emit (.accessError (.sdma ch)))) ∧
    (s.sec.debugUnlocked = false → exec (.registerWrite .debug r v) s = .next (s.emit (.accessError .debug)))) ∧
  (∀ (p : Fin 2) (v : BitVec 32) (s : State), s.storeUp = true → s.BarShows p 6 →
    exec (.registerWrite (.host p) .sysPaceFloor v) s = .next (s.emit (.accessError (.host p)))) ∧
  (∀ (c : Fin 32) (v : BitVec 32) (s : State), s.storeUp = true →
    (∀ b o, exec (.registerWrite (.core c) (.readOnly b o) v) s =
      .next (if regOutside (.readOnly b o) then s.emit (.accessError (.core c)) else s)) ∧
    exec (.registerWrite (.core c) .sysPaceFloor v) s = .next { s with pace := { s.pace with
      floor := v.extractLsb' 0 16, alarm := s.pace.alarm && !v.getLsbD 16 } } ∧
    (∀ p, exec (.registerWrite (.core c) (.dmbStat p) v) s = .next { s with dict := { s.dict with mbox := s.dict.mbox.upd p (fun m =>
      { m with done := m.done && !v.getLsbD 1, ntf := m.ntf && !v.getLsbD 2 }) } }) ∧
    (∀ p, exec (.registerWrite (.core c) (.dmbVec p) v) s = .next { s with dict := { s.dict with mbox := s.dict.mbox.upd p (fun m =>
      { m with vec := v.extractLsb' 0 11, doneIe := v.getLsbD 16, ntfIe := v.getLsbD 17 }) } }) ∧
    (∀ sl, exec (.registerWrite (.core c) (.wrpAccStat sl) v) s = .next { s with media := { s.media with
      wrp := s.media.wrp.upd sl (fun w => { w with accErr := w.accErr && !v.getLsbD 8 }) } }) ∧
    (∀ sl, s.units.scheduler sl = some c → exec (.registerWrite (.core c) (.ftlCtl sl) v) s = .next { s with media := { s.media with
      ftl := s.media.ftl.upd sl (fun f =>
        { f with fullEn := v.getLsbD 0, pounceEn := v.getLsbD 1, scanEn := v.getLsbD 2, loadEn := v.getLsbD 3 }) } }) ∧
    (∀ sl, s.units.scheduler sl ≠ some c → ∀ r, r = .ftlCtl sl ∨ r = .wrpCtl sl ∨ r = .rdcCtl sl →
      exec (.registerWrite (.core c) r v) s = .next (s.emit (.accessError (.core c)))) ∧
    exec (.registerWrite (.core c) .plpFault v) s = .next { s with plp := { s.plp with
      faults := (s.plp.faults &&& ~~~(v.extractLsb' 0 6)) ||| s.plp.active } } ∧
    exec (.registerWrite (.core c) .cmqPause v) s = .next { s with cmq := { s.cmq with abandoned := s.cmq.abandoned && !v.getLsbD 1 } } ∧
    (∀ p n, exec (.registerWrite (.core c) (.xlat2Shd p n) v) s = .next { s with ports := s.ports.upd p (fun q =>
      { q with shd2 := q.shd2.upd n (fun _ => { target := v.extractLsb' 0 4, base := v.extractLsb' 16 16 }) }) }) ∧
    (∀ a k, k ≠ 10 → exec (.registerWrite (.core c) (.arbCfg a k) v) s = .next { s with dram := { s.dram with
      chs := s.dram.chs.upd a (fun d => { d with arb := d.arb.upd k (fun x => { x with
        prio := v.extractLsb' 0 2, starve := v.extractLsb' 4 10, maxHold := v.extractLsb' 16 10 }) }) } }) ∧
    (∀ ch, s.sdcOpen ch = true → (s.sdc ch).en = true →
      exec (.registerWrite (.core c) (.sdmBaseHi ch) v) s = .next s ∧ exec (.registerWrite (.core c) (.sdmHead ch) v) s = .next s) ∧
    exec (.registerWrite (.core c) .bstStat v) s = .next { s with bst := { s.bst with
      suspHit := s.bst.suspHit && !v.getLsbD 8, worn := s.bst.worn && !v.getLsbD 9, aborted := s.bst.aborted && !v.getLsbD 10 } } ∧
    exec (.registerWrite (.core c) .evrStage v) s = .next { s with evr := { s.evr with
      earlyLost := s.evr.earlyLost && !v.getLsbD 16 } })

/-- One step takes the command at the front of the queue and runs it on the state that keeps the rest of the queue. -/
def Obligations.StepRunsFront : Prop :=
  ∀ (c : Instr) (cs : List Instr) (s : State), step { s with pending := c :: cs } = exec c { s with pending := cs }

/-- For all 293 commands and every state: the command is taken, it answers a next state, and every unit of the machine outside
those that `touches` lists for the command stays as it was. -/
def Obligations.EveryCommandChangesOnly : Prop :=
  ∀ (i : Instr) (s : State), ∃ t, exec i s = .next t ∧ Changes (touches i) s t

/-- R268: after every step from a settled lock table, an entry is still granted exactly when no conflicting entry was fetched
before it; every byte memory keeps its canonical form; and the tables of lines and rows hold each line and each row once, in the order
of their numbers. -/
def Obligations.InvariantsKept : Prop :=
  ∀ (s t : State), s.locksOk → s.memOk = true → s.tablesOk = true → step s = .next t →
    t.locksOk ∧ t.memOk = true ∧ t.tablesOk = true

/-- The machine after reset has a settled lock table, canonical memories, and canonical tables of lines and rows. -/
def Obligations.ResetMeetsInvariants : Prop :=
  State.reset.locksOk ∧ State.reset.memOk = true ∧ State.reset.tablesOk = true

/-- R49, R101, R149, R160, R222, R251, R299, R335, R351, R389, R424, R444, R471: what the register tables state for reset. -/
def Obligations.ResetValues : Prop :=
  let s := State.reset
  s.tb.count = 0 ∧ s.tb.srcSel = 0 ∧ s.tb.srcAct = .crystal ∧ s.tb.srcFail = false ∧
  (∀ n : Fin 16, s.pace.sensors[n].pace = 0 ∧ s.pace.sensors[n].paceMin = 0xFFFF) ∧ s.pace.floor = 0x044C ∧ s.pace.alarm = false ∧
  (∀ sl : Fin 8, s.media.wrp[sl].compEn = true ∧ s.media.wrp[sl].zeroElide = true ∧ s.media.wrp[sl].scrBypass = false ∧
    s.media.rdc[sl].trackEn = true ∧ s.media.rdc[sl].naEn = true ∧ s.media.rdc[sl].stepLimit = 6 ∧
    s.media.ftl[sl].fullEn = true ∧ s.media.ftl[sl].pounceEn = true ∧ s.media.ftl[sl].scanEn = true ∧ s.media.ftl[sl].loadEn = true) ∧
  (∀ ch : Fin 64, s.media.fch[ch].en = false ∧ s.media.fch[ch].esusp = true ∧ s.media.fch[ch].psusp = true ∧
    s.media.fch[ch].recentre = true ∧ s.media.fch[ch].maxBusy = 0xF ∧ s.media.fch[ch].rate = 0) ∧
  s.plp.chgEn = true ∧ s.plp.vhostEn = true ∧ s.plp.chgI = 0x19 ∧ s.plp.vhostThr = 0x6C ∧ s.plp.state = .off ∧
  (∀ p : Fin 2, s.ports[p].cnt.trigEn = 0xF3 ∧ s.ports[p].cnt.active = false ∧ s.dict.mbox[p].vec = 0 ∧ s.dict.mbox[p].busy = false) ∧
  s.dram.retrainEn = true ∧ s.dram.scrubEn = true ∧
  (∀ ch : Fin 16, s.sdm.chs[ch].en = false ∧ s.sdm.chs[ch].share = 1 ∧ s.sdm.chs[ch].size = 2 ∧ s.sdm.chs[ch].state = .disabled) ∧
  (∀ pg : Fin 16, s.vault.pages[pg].op = 0 ∧ s.vault.pages[pg].slot = 0 ∧ s.vault.pages[pg].busy = false ∧
    s.vault.pages[pg].slots[(0 : Fin 4)].len = 0) ∧
  s.bst.autoSusp = true ∧ s.bst.suspHit = false ∧ s.bst.worn = false ∧ s.bst.aborted = false ∧ s.evr.earlyLost = false ∧
  s.boot.trialSeq = 0 ∧ s.pws.ps = 0 ∧ s.cmq.hwm = 0 ∧ s.cmq.locks = [] ∧ s.pending = []
end

