-- ==== Sys2Proof/Laws/State.lean ====
section
/-! SUPPORT. What each named update leaves of every field of the state, and what it puts into its own. -/

namespace Sys2Proof.Machine

open Sys2Proof

/-! ### `State.setMedia` -/

@[simp] theorem State.setMedia_phase (s : State) (f : Media → Media) : (s.setMedia f).phase = s.phase := rfl
@[simp] theorem State.setMedia_tb (s : State) (f : Media → Media) : (s.setMedia f).tb = s.tb := rfl
@[simp] theorem State.setMedia_pace (s : State) (f : Media → Media) : (s.setMedia f).pace = s.pace := rfl
@[simp] theorem State.setMedia_units (s : State) (f : Media → Media) : (s.setMedia f).units = s.units := rfl
@[simp] theorem State.setMedia_avs (s : State) (f : Media → Media) : (s.setMedia f).avs = s.avs := rfl
@[simp] theorem State.setMedia_evr (s : State) (f : Media → Media) : (s.setMedia f).evr = s.evr := rfl
@[simp] theorem State.setMedia_clocks (s : State) (f : Media → Media) : (s.setMedia f).clocks = s.clocks := rfl
@[simp] theorem State.setMedia_cmq (s : State) (f : Media → Media) : (s.setMedia f).cmq = s.cmq := rfl
@[simp] theorem State.setMedia_land (s : State) (f : Media → Media) : (s.setMedia f).land = s.land := rfl
@[simp] theorem State.setMedia_media (s : State) (f : Media → Media) :
    (s.setMedia f).media = f s.media := rfl
@[simp] theorem State.setMedia_plp (s : State) (f : Media → Media) : (s.setMedia f).plp = s.plp := rfl
@[simp] theorem State.setMedia_ports (s : State) (f : Media → Media) : (s.setMedia f).ports = s.ports := rfl
@[simp] theorem State.setMedia_dram (s : State) (f : Media → Media) : (s.setMedia f).dram = s.dram := rfl
@[simp] theorem State.setMedia_sdm (s : State) (f : Media → Media) : (s.setMedia f).sdm = s.sdm := rfl
@[simp] theorem State.setMedia_vault (s : State) (f : Media → Media) : (s.setMedia f).vault = s.vault := rfl
@[simp] theorem State.setMedia_sec (s : State) (f : Media → Media) : (s.setMedia f).sec = s.sec := rfl
@[simp] theorem State.setMedia_bst (s : State) (f : Media → Media) : (s.setMedia f).bst = s.bst := rfl
@[simp] theorem State.setMedia_boot (s : State) (f : Media → Media) : (s.setMedia f).boot = s.boot := rfl
@[simp] theorem State.setMedia_pws (s : State) (f : Media → Media) : (s.setMedia f).pws = s.pws := rfl
@[simp] theorem State.setMedia_dict (s : State) (f : Media → Media) : (s.setMedia f).dict = s.dict := rfl
@[simp] theorem State.setMedia_board (s : State) (f : Media → Media) : (s.setMedia f).board = s.board := rfl
@[simp] theorem State.setMedia_out (s : State) (f : Media → Media) : (s.setMedia f).out = s.out := rfl
@[simp] theorem State.setMedia_free (s : State) (f : Media → Media) : (s.setMedia f).free = s.free := rfl
@[simp] theorem State.setMedia_pending (s : State) (f : Media → Media) : (s.setMedia f).pending = s.pending := rfl

/-! ### `State.setPlp` -/

@[simp] theorem State.setPlp_phase (s : State) (f : Plp → Plp) : (s.setPlp f).phase = s.phase := rfl
@[simp] theorem State.setPlp_tb (s : State) (f : Plp → Plp) : (s.setPlp f).tb = s.tb := rfl
@[simp] theorem State.setPlp_pace (s : State) (f : Plp → Plp) : (s.setPlp f).pace = s.pace := rfl
@[simp] theorem State.setPlp_units (s : State) (f : Plp → Plp) : (s.setPlp f).units = s.units := rfl
@[simp] theorem State.setPlp_avs (s : State) (f : Plp → Plp) : (s.setPlp f).avs = s.avs := rfl
@[simp] theorem State.setPlp_evr (s : State) (f : Plp → Plp) : (s.setPlp f).evr = s.evr := rfl
@[simp] theorem State.setPlp_clocks (s : State) (f : Plp → Plp) : (s.setPlp f).clocks = s.clocks := rfl
@[simp] theorem State.setPlp_cmq (s : State) (f : Plp → Plp) : (s.setPlp f).cmq = s.cmq := rfl
@[simp] theorem State.setPlp_land (s : State) (f : Plp → Plp) : (s.setPlp f).land = s.land := rfl
@[simp] theorem State.setPlp_media (s : State) (f : Plp → Plp) : (s.setPlp f).media = s.media := rfl
@[simp] theorem State.setPlp_plp (s : State) (f : Plp → Plp) :
    (s.setPlp f).plp = f s.plp := rfl
@[simp] theorem State.setPlp_ports (s : State) (f : Plp → Plp) : (s.setPlp f).ports = s.ports := rfl
@[simp] theorem State.setPlp_dram (s : State) (f : Plp → Plp) : (s.setPlp f).dram = s.dram := rfl
@[simp] theorem State.setPlp_sdm (s : State) (f : Plp → Plp) : (s.setPlp f).sdm = s.sdm := rfl
@[simp] theorem State.setPlp_vault (s : State) (f : Plp → Plp) : (s.setPlp f).vault = s.vault := rfl
@[simp] theorem State.setPlp_sec (s : State) (f : Plp → Plp) : (s.setPlp f).sec = s.sec := rfl
@[simp] theorem State.setPlp_bst (s : State) (f : Plp → Plp) : (s.setPlp f).bst = s.bst := rfl
@[simp] theorem State.setPlp_boot (s : State) (f : Plp → Plp) : (s.setPlp f).boot = s.boot := rfl
@[simp] theorem State.setPlp_pws (s : State) (f : Plp → Plp) : (s.setPlp f).pws = s.pws := rfl
@[simp] theorem State.setPlp_dict (s : State) (f : Plp → Plp) : (s.setPlp f).dict = s.dict := rfl
@[simp] theorem State.setPlp_board (s : State) (f : Plp → Plp) : (s.setPlp f).board = s.board := rfl
@[simp] theorem State.setPlp_out (s : State) (f : Plp → Plp) : (s.setPlp f).out = s.out := rfl
@[simp] theorem State.setPlp_free (s : State) (f : Plp → Plp) : (s.setPlp f).free = s.free := rfl
@[simp] theorem State.setPlp_pending (s : State) (f : Plp → Plp) : (s.setPlp f).pending = s.pending := rfl

/-! ### `State.setDram` -/

@[simp] theorem State.setDram_phase (s : State) (f : Dram → Dram) : (s.setDram f).phase = s.phase := rfl
@[simp] theorem State.setDram_tb (s : State) (f : Dram → Dram) : (s.setDram f).tb = s.tb := rfl
@[simp] theorem State.setDram_pace (s : State) (f : Dram → Dram) : (s.setDram f).pace = s.pace := rfl
@[simp] theorem State.setDram_units (s : State) (f : Dram → Dram) : (s.setDram f).units = s.units := rfl
@[simp] theorem State.setDram_avs (s : State) (f : Dram → Dram) : (s.setDram f).avs = s.avs := rfl
@[simp] theorem State.setDram_evr (s : State) (f : Dram → Dram) : (s.setDram f).evr = s.evr := rfl
@[simp] theorem State.setDram_clocks (s : State) (f : Dram → Dram) : (s.setDram f).clocks = s.clocks := rfl
@[simp] theorem State.setDram_cmq (s : State) (f : Dram → Dram) : (s.setDram f).cmq = s.cmq := rfl
@[simp] theorem State.setDram_land (s : State) (f : Dram → Dram) : (s.setDram f).land = s.land := rfl
@[simp] theorem State.setDram_media (s : State) (f : Dram → Dram) : (s.setDram f).media = s.media := rfl
@[simp] theorem State.setDram_plp (s : State) (f : Dram → Dram) : (s.setDram f).plp = s.plp := rfl
@[simp] theorem State.setDram_ports (s : State) (f : Dram → Dram) : (s.setDram f).ports = s.ports := rfl
@[simp] theorem State.setDram_dram (s : State) (f : Dram → Dram) :
    (s.setDram f).dram = f s.dram := rfl
@[simp] theorem State.setDram_sdm (s : State) (f : Dram → Dram) : (s.setDram f).sdm = s.sdm := rfl
@[simp] theorem State.setDram_vault (s : State) (f : Dram → Dram) : (s.setDram f).vault = s.vault := rfl
@[simp] theorem State.setDram_sec (s : State) (f : Dram → Dram) : (s.setDram f).sec = s.sec := rfl
@[simp] theorem State.setDram_bst (s : State) (f : Dram → Dram) : (s.setDram f).bst = s.bst := rfl
@[simp] theorem State.setDram_boot (s : State) (f : Dram → Dram) : (s.setDram f).boot = s.boot := rfl
@[simp] theorem State.setDram_pws (s : State) (f : Dram → Dram) : (s.setDram f).pws = s.pws := rfl
@[simp] theorem State.setDram_dict (s : State) (f : Dram → Dram) : (s.setDram f).dict = s.dict := rfl
@[simp] theorem State.setDram_board (s : State) (f : Dram → Dram) : (s.setDram f).board = s.board := rfl
@[simp] theorem State.setDram_out (s : State) (f : Dram → Dram) : (s.setDram f).out = s.out := rfl
@[simp] theorem State.setDram_free (s : State) (f : Dram → Dram) : (s.setDram f).free = s.free := rfl
@[simp] theorem State.setDram_pending (s : State) (f : Dram → Dram) : (s.setDram f).pending = s.pending := rfl

/-! ### `State.setBst` -/

@[simp] theorem State.setBst_phase (s : State) (f : Bst → Bst) : (s.setBst f).phase = s.phase := rfl
@[simp] theorem State.setBst_tb (s : State) (f : Bst → Bst) : (s.setBst f).tb = s.tb := rfl
@[simp] theorem State.setBst_pace (s : State) (f : Bst → Bst) : (s.setBst f).pace = s.pace := rfl
@[simp] theorem State.setBst_units (s : State) (f : Bst → Bst) : (s.setBst f).units = s.units := rfl
@[simp] theorem State.setBst_avs (s : State) (f : Bst → Bst) : (s.setBst f).avs = s.avs := rfl
@[simp] theorem State.setBst_evr (s : State) (f : Bst → Bst) : (s.setBst f).evr = s.evr := rfl
@[simp] theorem State.setBst_clocks (s : State) (f : Bst → Bst) : (s.setBst f).clocks = s.clocks := rfl
@[simp] theorem State.setBst_cmq (s : State) (f : Bst → Bst) : (s.setBst f).cmq = s.cmq := rfl
@[simp] theorem State.setBst_land (s : State) (f : Bst → Bst) : (s.setBst f).land = s.land := rfl
@[simp] theorem State.setBst_media (s : State) (f : Bst → Bst) : (s.setBst f).media = s.media := rfl
@[simp] theorem State.setBst_plp (s : State) (f : Bst → Bst) : (s.setBst f).plp = s.plp := rfl
@[simp] theorem State.setBst_ports (s : State) (f : Bst → Bst) : (s.setBst f).ports = s.ports := rfl
@[simp] theorem State.setBst_dram (s : State) (f : Bst → Bst) : (s.setBst f).dram = s.dram := rfl
@[simp] theorem State.setBst_sdm (s : State) (f : Bst → Bst) : (s.setBst f).sdm = s.sdm := rfl
@[simp] theorem State.setBst_vault (s : State) (f : Bst → Bst) : (s.setBst f).vault = s.vault := rfl
@[simp] theorem State.setBst_sec (s : State) (f : Bst → Bst) : (s.setBst f).sec = s.sec := rfl
@[simp] theorem State.setBst_bst (s : State) (f : Bst → Bst) :
    (s.setBst f).bst = f s.bst := rfl
@[simp] theorem State.setBst_boot (s : State) (f : Bst → Bst) : (s.setBst f).boot = s.boot := rfl
@[simp] theorem State.setBst_pws (s : State) (f : Bst → Bst) : (s.setBst f).pws = s.pws := rfl
@[simp] theorem State.setBst_dict (s : State) (f : Bst → Bst) : (s.setBst f).dict = s.dict := rfl
@[simp] theorem State.setBst_board (s : State) (f : Bst → Bst) : (s.setBst f).board = s.board := rfl
@[simp] theorem State.setBst_out (s : State) (f : Bst → Bst) : (s.setBst f).out = s.out := rfl
@[simp] theorem State.setBst_free (s : State) (f : Bst → Bst) : (s.setBst f).free = s.free := rfl
@[simp] theorem State.setBst_pending (s : State) (f : Bst → Bst) : (s.setBst f).pending = s.pending := rfl

/-! ### `State.setBoot` -/

@[simp] theorem State.setBoot_phase (s : State) (f : Boot → Boot) : (s.setBoot f).phase = s.phase := rfl
@[simp] theorem State.setBoot_tb (s : State) (f : Boot → Boot) : (s.setBoot f).tb = s.tb := rfl
@[simp] theorem State.setBoot_pace (s : State) (f : Boot → Boot) : (s.setBoot f).pace = s.pace := rfl
@[simp] theorem State.setBoot_units (s : State) (f : Boot → Boot) : (s.setBoot f).units = s.units := rfl
@[simp] theorem State.setBoot_avs (s : State) (f : Boot → Boot) : (s.setBoot f).avs = s.avs := rfl
@[simp] theorem State.setBoot_evr (s : State) (f : Boot → Boot) : (s.setBoot f).evr = s.evr := rfl
@[simp] theorem State.setBoot_clocks (s : State) (f : Boot → Boot) : (s.setBoot f).clocks = s.clocks := rfl
@[simp] theorem State.setBoot_cmq (s : State) (f : Boot → Boot) : (s.setBoot f).cmq = s.cmq := rfl
@[simp] theorem State.setBoot_land (s : State) (f : Boot → Boot) : (s.setBoot f).land = s.land := rfl
@[simp] theorem State.setBoot_media (s : State) (f : Boot → Boot) : (s.setBoot f).media = s.media := rfl
@[simp] theorem State.setBoot_plp (s : State) (f : Boot → Boot) : (s.setBoot f).plp = s.plp := rfl
@[simp] theorem State.setBoot_ports (s : State) (f : Boot → Boot) : (s.setBoot f).ports = s.ports := rfl
@[simp] theorem State.setBoot_dram (s : State) (f : Boot → Boot) : (s.setBoot f).dram = s.dram := rfl
@[simp] theorem State.setBoot_sdm (s : State) (f : Boot → Boot) : (s.setBoot f).sdm = s.sdm := rfl
@[simp] theorem State.setBoot_vault (s : State) (f : Boot → Boot) : (s.setBoot f).vault = s.vault := rfl
@[simp] theorem State.setBoot_sec (s : State) (f : Boot → Boot) : (s.setBoot f).sec = s.sec := rfl
@[simp] theorem State.setBoot_bst (s : State) (f : Boot → Boot) : (s.setBoot f).bst = s.bst := rfl
@[simp] theorem State.setBoot_boot (s : State) (f : Boot → Boot) :
    (s.setBoot f).boot = f s.boot := rfl
@[simp] theorem State.setBoot_pws (s : State) (f : Boot → Boot) : (s.setBoot f).pws = s.pws := rfl
@[simp] theorem State.setBoot_dict (s : State) (f : Boot → Boot) : (s.setBoot f).dict = s.dict := rfl
@[simp] theorem State.setBoot_board (s : State) (f : Boot → Boot) : (s.setBoot f).board = s.board := rfl
@[simp] theorem State.setBoot_out (s : State) (f : Boot → Boot) : (s.setBoot f).out = s.out := rfl
@[simp] theorem State.setBoot_free (s : State) (f : Boot → Boot) : (s.setBoot f).free = s.free := rfl
@[simp] theorem State.setBoot_pending (s : State) (f : Boot → Boot) : (s.setBoot f).pending = s.pending := rfl

/-! ### `State.setSec` -/

@[simp] theorem State.setSec_phase (s : State) (f : Security → Security) : (s.setSec f).phase = s.phase := rfl
@[simp] theorem State.setSec_tb (s : State) (f : Security → Security) : (s.setSec f).tb = s.tb := rfl
@[simp] theorem State.setSec_pace (s : State) (f : Security → Security) : (s.setSec f).pace = s.pace := rfl
@[simp] theorem State.setSec_units (s : State) (f : Security → Security) : (s.setSec f).units = s.units := rfl
@[simp] theorem State.setSec_avs (s : State) (f : Security → Security) : (s.setSec f).avs = s.avs := rfl
@[simp] theorem State.setSec_evr (s : State) (f : Security → Security) : (s.setSec f).evr = s.evr := rfl
@[simp] theorem State.setSec_clocks (s : State) (f : Security → Security) : (s.setSec f).clocks = s.clocks := rfl
@[simp] theorem State.setSec_cmq (s : State) (f : Security → Security) : (s.setSec f).cmq = s.cmq := rfl
@[simp] theorem State.setSec_land (s : State) (f : Security → Security) : (s.setSec f).land = s.land := rfl
@[simp] theorem State.setSec_media (s : State) (f : Security → Security) : (s.setSec f).media = s.media := rfl
@[simp] theorem State.setSec_plp (s : State) (f : Security → Security) : (s.setSec f).plp = s.plp := rfl
@[simp] theorem State.setSec_ports (s : State) (f : Security → Security) : (s.setSec f).ports = s.ports := rfl
@[simp] theorem State.setSec_dram (s : State) (f : Security → Security) : (s.setSec f).dram = s.dram := rfl
@[simp] theorem State.setSec_sdm (s : State) (f : Security → Security) : (s.setSec f).sdm = s.sdm := rfl
@[simp] theorem State.setSec_vault (s : State) (f : Security → Security) : (s.setSec f).vault = s.vault := rfl
@[simp] theorem State.setSec_sec (s : State) (f : Security → Security) :
    (s.setSec f).sec = f s.sec := rfl
@[simp] theorem State.setSec_bst (s : State) (f : Security → Security) : (s.setSec f).bst = s.bst := rfl
@[simp] theorem State.setSec_boot (s : State) (f : Security → Security) : (s.setSec f).boot = s.boot := rfl
@[simp] theorem State.setSec_pws (s : State) (f : Security → Security) : (s.setSec f).pws = s.pws := rfl
@[simp] theorem State.setSec_dict (s : State) (f : Security → Security) : (s.setSec f).dict = s.dict := rfl
@[simp] theorem State.setSec_board (s : State) (f : Security → Security) : (s.setSec f).board = s.board := rfl
@[simp] theorem State.setSec_out (s : State) (f : Security → Security) : (s.setSec f).out = s.out := rfl
@[simp] theorem State.setSec_free (s : State) (f : Security → Security) : (s.setSec f).free = s.free := rfl
@[simp] theorem State.setSec_pending (s : State) (f : Security → Security) : (s.setSec f).pending = s.pending := rfl

/-! ### `State.setPws` -/

@[simp] theorem State.setPws_phase (s : State) (f : Pws → Pws) : (s.setPws f).phase = s.phase := rfl
@[simp] theorem State.setPws_tb (s : State) (f : Pws → Pws) : (s.setPws f).tb = s.tb := rfl
@[simp] theorem State.setPws_pace (s : State) (f : Pws → Pws) : (s.setPws f).pace = s.pace := rfl
@[simp] theorem State.setPws_units (s : State) (f : Pws → Pws) : (s.setPws f).units = s.units := rfl
@[simp] theorem State.setPws_avs (s : State) (f : Pws → Pws) : (s.setPws f).avs = s.avs := rfl
@[simp] theorem State.setPws_evr (s : State) (f : Pws → Pws) : (s.setPws f).evr = s.evr := rfl
@[simp] theorem State.setPws_clocks (s : State) (f : Pws → Pws) : (s.setPws f).clocks = s.clocks := rfl
@[simp] theorem State.setPws_cmq (s : State) (f : Pws → Pws) : (s.setPws f).cmq = s.cmq := rfl
@[simp] theorem State.setPws_land (s : State) (f : Pws → Pws) : (s.setPws f).land = s.land := rfl
@[simp] theorem State.setPws_media (s : State) (f : Pws → Pws) : (s.setPws f).media = s.media := rfl
@[simp] theorem State.setPws_plp (s : State) (f : Pws → Pws) : (s.setPws f).plp = s.plp := rfl
@[simp] theorem State.setPws_ports (s : State) (f : Pws → Pws) : (s.setPws f).ports = s.ports := rfl
@[simp] theorem State.setPws_dram (s : State) (f : Pws → Pws) : (s.setPws f).dram = s.dram := rfl
@[simp] theorem State.setPws_sdm (s : State) (f : Pws → Pws) : (s.setPws f).sdm = s.sdm := rfl
@[simp] theorem State.setPws_vault (s : State) (f : Pws → Pws) : (s.setPws f).vault = s.vault := rfl
@[simp] theorem State.setPws_sec (s : State) (f : Pws → Pws) : (s.setPws f).sec = s.sec := rfl
@[simp] theorem State.setPws_bst (s : State) (f : Pws → Pws) : (s.setPws f).bst = s.bst := rfl
@[simp] theorem State.setPws_boot (s : State) (f : Pws → Pws) : (s.setPws f).boot = s.boot := rfl
@[simp] theorem State.setPws_pws (s : State) (f : Pws → Pws) :
    (s.setPws f).pws = f s.pws := rfl
@[simp] theorem State.setPws_dict (s : State) (f : Pws → Pws) : (s.setPws f).dict = s.dict := rfl
@[simp] theorem State.setPws_board (s : State) (f : Pws → Pws) : (s.setPws f).board = s.board := rfl
@[simp] theorem State.setPws_out (s : State) (f : Pws → Pws) : (s.setPws f).out = s.out := rfl
@[simp] theorem State.setPws_free (s : State) (f : Pws → Pws) : (s.setPws f).free = s.free := rfl
@[simp] theorem State.setPws_pending (s : State) (f : Pws → Pws) : (s.setPws f).pending = s.pending := rfl

/-! ### `State.setBoard` -/

@[simp] theorem State.setBoard_phase (s : State) (f : Board → Board) : (s.setBoard f).phase = s.phase := rfl
@[simp] theorem State.setBoard_tb (s : State) (f : Board → Board) : (s.setBoard f).tb = s.tb := rfl
@[simp] theorem State.setBoard_pace (s : State) (f : Board → Board) : (s.setBoard f).pace = s.pace := rfl
@[simp] theorem State.setBoard_units (s : State) (f : Board → Board) : (s.setBoard f).units = s.units := rfl
@[simp] theorem State.setBoard_avs (s : State) (f : Board → Board) : (s.setBoard f).avs = s.avs := rfl
@[simp] theorem State.setBoard_evr (s : State) (f : Board → Board) : (s.setBoard f).evr = s.evr := rfl
@[simp] theorem State.setBoard_clocks (s : State) (f : Board → Board) : (s.setBoard f).clocks = s.clocks := rfl
@[simp] theorem State.setBoard_cmq (s : State) (f : Board → Board) : (s.setBoard f).cmq = s.cmq := rfl
@[simp] theorem State.setBoard_land (s : State) (f : Board → Board) : (s.setBoard f).land = s.land := rfl
@[simp] theorem State.setBoard_media (s : State) (f : Board → Board) : (s.setBoard f).media = s.media := rfl
@[simp] theorem State.setBoard_plp (s : State) (f : Board → Board) : (s.setBoard f).plp = s.plp := rfl
@[simp] theorem State.setBoard_ports (s : State) (f : Board → Board) : (s.setBoard f).ports = s.ports := rfl
@[simp] theorem State.setBoard_dram (s : State) (f : Board → Board) : (s.setBoard f).dram = s.dram := rfl
@[simp] theorem State.setBoard_sdm (s : State) (f : Board → Board) : (s.setBoard f).sdm = s.sdm := rfl
@[simp] theorem State.setBoard_vault (s : State) (f : Board → Board) : (s.setBoard f).vault = s.vault := rfl
@[simp] theorem State.setBoard_sec (s : State) (f : Board → Board) : (s.setBoard f).sec = s.sec := rfl
@[simp] theorem State.setBoard_bst (s : State) (f : Board → Board) : (s.setBoard f).bst = s.bst := rfl
@[simp] theorem State.setBoard_boot (s : State) (f : Board → Board) : (s.setBoard f).boot = s.boot := rfl
@[simp] theorem State.setBoard_pws (s : State) (f : Board → Board) : (s.setBoard f).pws = s.pws := rfl
@[simp] theorem State.setBoard_dict (s : State) (f : Board → Board) : (s.setBoard f).dict = s.dict := rfl
@[simp] theorem State.setBoard_board (s : State) (f : Board → Board) :
    (s.setBoard f).board = f s.board := rfl
@[simp] theorem State.setBoard_out (s : State) (f : Board → Board) : (s.setBoard f).out = s.out := rfl
@[simp] theorem State.setBoard_free (s : State) (f : Board → Board) : (s.setBoard f).free = s.free := rfl
@[simp] theorem State.setBoard_pending (s : State) (f : Board → Board) : (s.setBoard f).pending = s.pending := rfl

/-! ### `State.setPort` -/

@[simp] theorem State.setPort_phase (s : State) (p : Fin 2) (f : PcPort → PcPort) : (s.setPort p f).phase = s.phase := rfl
@[simp] theorem State.setPort_tb (s : State) (p : Fin 2) (f : PcPort → PcPort) : (s.setPort p f).tb = s.tb := rfl
@[simp] theorem State.setPort_pace (s : State) (p : Fin 2) (f : PcPort → PcPort) : (s.setPort p f).pace = s.pace := rfl
@[simp] theorem State.setPort_units (s : State) (p : Fin 2) (f : PcPort → PcPort) : (s.setPort p f).units = s.units := rfl
@[simp] theorem State.setPort_avs (s : State) (p : Fin 2) (f : PcPort → PcPort) : (s.setPort p f).avs = s.avs := rfl
@[simp] theorem State.setPort_evr (s : State) (p : Fin 2) (f : PcPort → PcPort) : (s.setPort p f).evr = s.evr := rfl
@[simp] theorem State.setPort_clocks (s : State) (p : Fin 2) (f : PcPort → PcPort) : (s.setPort p f).clocks = s.clocks := rfl
@[simp] theorem State.setPort_cmq (s : State) (p : Fin 2) (f : PcPort → PcPort) : (s.setPort p f).cmq = s.cmq := rfl
@[simp] theorem State.setPort_land (s : State) (p : Fin 2) (f : PcPort → PcPort) : (s.setPort p f).land = s.land := rfl
@[simp] theorem State.setPort_media (s : State) (p : Fin 2) (f : PcPort → PcPort) : (s.setPort p f).media = s.media := rfl
@[simp] theorem State.setPort_plp (s : State) (p : Fin 2) (f : PcPort → PcPort) : (s.setPort p f).plp = s.plp := rfl
@[simp] theorem State.setPort_ports (s : State) (p : Fin 2) (f : PcPort → PcPort) :
    (s.setPort p f).ports = s.ports.upd p f := rfl
@[simp] theorem State.setPort_dram (s : State) (p : Fin 2) (f : PcPort → PcPort) : (s.setPort p f).dram = s.dram := rfl
@[simp] theorem State.setPort_sdm (s : State) (p : Fin 2) (f : PcPort → PcPort) : (s.setPort p f).sdm = s.sdm := rfl
@[simp] theorem State.setPort_vault (s : State) (p : Fin 2) (f : PcPort → PcPort) : (s.setPort p f).vault = s.vault := rfl
@[simp] theorem State.setPort_sec (s : State) (p : Fin 2) (f : PcPort → PcPort) : (s.setPort p f).sec = s.sec := rfl
@[simp] theorem State.setPort_bst (s : State) (p : Fin 2) (f : PcPort → PcPort) : (s.setPort p f).bst = s.bst := rfl
@[simp] theorem State.setPort_boot (s : State) (p : Fin 2) (f : PcPort → PcPort) : (s.setPort p f).boot = s.boot := rfl
@[simp] theorem State.setPort_pws (s : State) (p : Fin 2) (f : PcPort → PcPort) : (s.setPort p f).pws = s.pws := rfl
@[simp] theorem State.setPort_dict (s : State) (p : Fin 2) (f : PcPort → PcPort) : (s.setPort p f).dict = s.dict := rfl
@[simp] theorem State.setPort_board (s : State) (p : Fin 2) (f : PcPort → PcPort) : (s.setPort p f).board = s.board := rfl
@[simp] theorem State.setPort_out (s : State) (p : Fin 2) (f : PcPort → PcPort) : (s.setPort p f).out = s.out := rfl
@[simp] theorem State.setPort_free (s : State) (p : Fin 2) (f : PcPort → PcPort) : (s.setPort p f).free = s.free := rfl
@[simp] theorem State.setPort_pending (s : State) (p : Fin 2) (f : PcPort → PcPort) : (s.setPort p f).pending = s.pending := rfl

/-! ### `State.setCtrl` -/

@[simp] theorem State.setCtrl_phase (s : State) (p : Fin 2) (f : Ctrl → Ctrl) : (s.setCtrl p f).phase = s.phase := rfl
@[simp] theorem State.setCtrl_tb (s : State) (p : Fin 2) (f : Ctrl → Ctrl) : (s.setCtrl p f).tb = s.tb := rfl
@[simp] theorem State.setCtrl_pace (s : State) (p : Fin 2) (f : Ctrl → Ctrl) : (s.setCtrl p f).pace = s.pace := rfl
@[simp] theorem State.setCtrl_units (s : State) (p : Fin 2) (f : Ctrl → Ctrl) : (s.setCtrl p f).units = s.units := rfl
@[simp] theorem State.setCtrl_avs (s : State) (p : Fin 2) (f : Ctrl → Ctrl) : (s.setCtrl p f).avs = s.avs := rfl
@[simp] theorem State.setCtrl_evr (s : State) (p : Fin 2) (f : Ctrl → Ctrl) : (s.setCtrl p f).evr = s.evr := rfl
@[simp] theorem State.setCtrl_clocks (s : State) (p : Fin 2) (f : Ctrl → Ctrl) : (s.setCtrl p f).clocks = s.clocks := rfl
@[simp] theorem State.setCtrl_cmq (s : State) (p : Fin 2) (f : Ctrl → Ctrl) :
    (s.setCtrl p f).cmq = { s.cmq with ctrls := s.cmq.ctrls.upd p f } := rfl
@[simp] theorem State.setCtrl_land (s : State) (p : Fin 2) (f : Ctrl → Ctrl) : (s.setCtrl p f).land = s.land := rfl
@[simp] theorem State.setCtrl_media (s : State) (p : Fin 2) (f : Ctrl → Ctrl) : (s.setCtrl p f).media = s.media := rfl
@[simp] theorem State.setCtrl_plp (s : State) (p : Fin 2) (f : Ctrl → Ctrl) : (s.setCtrl p f).plp = s.plp := rfl
@[simp] theorem State.setCtrl_ports (s : State) (p : Fin 2) (f : Ctrl → Ctrl) : (s.setCtrl p f).ports = s.ports := rfl
@[simp] theorem State.setCtrl_dram (s : State) (p : Fin 2) (f : Ctrl → Ctrl) : (s.setCtrl p f).dram = s.dram := rfl
@[simp] theorem State.setCtrl_sdm (s : State) (p : Fin 2) (f : Ctrl → Ctrl) : (s.setCtrl p f).sdm = s.sdm := rfl
@[simp] theorem State.setCtrl_vault (s : State) (p : Fin 2) (f : Ctrl → Ctrl) : (s.setCtrl p f).vault = s.vault := rfl
@[simp] theorem State.setCtrl_sec (s : State) (p : Fin 2) (f : Ctrl → Ctrl) : (s.setCtrl p f).sec = s.sec := rfl
@[simp] theorem State.setCtrl_bst (s : State) (p : Fin 2) (f : Ctrl → Ctrl) : (s.setCtrl p f).bst = s.bst := rfl
@[simp] theorem State.setCtrl_boot (s : State) (p : Fin 2) (f : Ctrl → Ctrl) : (s.setCtrl p f).boot = s.boot := rfl
@[simp] theorem State.setCtrl_pws (s : State) (p : Fin 2) (f : Ctrl → Ctrl) : (s.setCtrl p f).pws = s.pws := rfl
@[simp] theorem State.setCtrl_dict (s : State) (p : Fin 2) (f : Ctrl → Ctrl) : (s.setCtrl p f).dict = s.dict := rfl
@[simp] theorem State.setCtrl_board (s : State) (p : Fin 2) (f : Ctrl → Ctrl) : (s.setCtrl p f).board = s.board := rfl
@[simp] theorem State.setCtrl_out (s : State) (p : Fin 2) (f : Ctrl → Ctrl) : (s.setCtrl p f).out = s.out := rfl
@[simp] theorem State.setCtrl_free (s : State) (p : Fin 2) (f : Ctrl → Ctrl) : (s.setCtrl p f).free = s.free := rfl
@[simp] theorem State.setCtrl_pending (s : State) (p : Fin 2) (f : Ctrl → Ctrl) : (s.setCtrl p f).pending = s.pending := rfl

/-! ### `State.setPage` -/

@[simp] theorem State.setPage_phase (s : State) (pg : Fin 16) (f : VaultPage → VaultPage) : (s.setPage pg f).phase = s.phase := rfl
@[simp] theorem State.setPage_tb (s : State) (pg : Fin 16) (f : VaultPage → VaultPage) : (s.setPage pg f).tb = s.tb := rfl
@[simp] theorem State.setPage_pace (s : State) (pg : Fin 16) (f : VaultPage → VaultPage) : (s.setPage pg f).pace = s.pace := rfl
@[simp] theorem State.setPage_units (s : State) (pg : Fin 16) (f : VaultPage → VaultPage) : (s.setPage pg f).units = s.units := rfl
@[simp] theorem State.setPage_avs (s : State) (pg : Fin 16) (f : VaultPage → VaultPage) : (s.setPage pg f).avs = s.avs := rfl
@[simp] theorem State.setPage_evr (s : State) (pg : Fin 16) (f : VaultPage → VaultPage) : (s.setPage pg f).evr = s.evr := rfl
@[simp] theorem State.setPage_clocks (s : State) (pg : Fin 16) (f : VaultPage → VaultPage) : (s.setPage pg f).clocks = s.clocks := rfl
@[simp] theorem State.setPage_cmq (s : State) (pg : Fin 16) (f : VaultPage → VaultPage) : (s.setPage pg f).cmq = s.cmq := rfl
@[simp] theorem State.setPage_land (s : State) (pg : Fin 16) (f : VaultPage → VaultPage) : (s.setPage pg f).land = s.land := rfl
@[simp] theorem State.setPage_media (s : State) (pg : Fin 16) (f : VaultPage → VaultPage) : (s.setPage pg f).media = s.media := rfl
@[simp] theorem State.setPage_plp (s : State) (pg : Fin 16) (f : VaultPage → VaultPage) : (s.setPage pg f).plp = s.plp := rfl
@[simp] theorem State.setPage_ports (s : State) (pg : Fin 16) (f : VaultPage → VaultPage) : (s.setPage pg f).ports = s.ports := rfl
@[simp] theorem State.setPage_dram (s : State) (pg : Fin 16) (f : VaultPage → VaultPage) : (s.setPage pg f).dram = s.dram := rfl
@[simp] theorem State.setPage_sdm (s : State) (pg : Fin 16) (f : VaultPage → VaultPage) : (s.setPage pg f).sdm = s.sdm := rfl
@[simp] theorem State.setPage_vault (s : State) (pg : Fin 16) (f : VaultPage → VaultPage) :
    (s.setPage pg f).vault = { s.vault with pages := s.vault.pages.upd pg f } := rfl
@[simp] theorem State.setPage_sec (s : State) (pg : Fin 16) (f : VaultPage → VaultPage) : (s.setPage pg f).sec = s.sec := rfl
@[simp] theorem State.setPage_bst (s : State) (pg : Fin 16) (f : VaultPage → VaultPage) : (s.setPage pg f).bst = s.bst := rfl
@[simp] theorem State.setPage_boot (s : State) (pg : Fin 16) (f : VaultPage → VaultPage) : (s.setPage pg f).boot = s.boot := rfl
@[simp] theorem State.setPage_pws (s : State) (pg : Fin 16) (f : VaultPage → VaultPage) : (s.setPage pg f).pws = s.pws := rfl
@[simp] theorem State.setPage_dict (s : State) (pg : Fin 16) (f : VaultPage → VaultPage) : (s.setPage pg f).dict = s.dict := rfl
@[simp] theorem State.setPage_board (s : State) (pg : Fin 16) (f : VaultPage → VaultPage) : (s.setPage pg f).board = s.board := rfl
@[simp] theorem State.setPage_out (s : State) (pg : Fin 16) (f : VaultPage → VaultPage) : (s.setPage pg f).out = s.out := rfl
@[simp] theorem State.setPage_free (s : State) (pg : Fin 16) (f : VaultPage → VaultPage) : (s.setPage pg f).free = s.free := rfl
@[simp] theorem State.setPage_pending (s : State) (pg : Fin 16) (f : VaultPage → VaultPage) : (s.setPage pg f).pending = s.pending := rfl

/-! ### `State.setSdc` -/

@[simp] theorem State.setSdc_phase (s : State) (ch : Fin 16) (f : SdmCh → SdmCh) : (s.setSdc ch f).phase = s.phase := rfl
@[simp] theorem State.setSdc_tb (s : State) (ch : Fin 16) (f : SdmCh → SdmCh) : (s.setSdc ch f).tb = s.tb := rfl
@[simp] theorem State.setSdc_pace (s : State) (ch : Fin 16) (f : SdmCh → SdmCh) : (s.setSdc ch f).pace = s.pace := rfl
@[simp] theorem State.setSdc_units (s : State) (ch : Fin 16) (f : SdmCh → SdmCh) : (s.setSdc ch f).units = s.units := rfl
@[simp] theorem State.setSdc_avs (s : State) (ch : Fin 16) (f : SdmCh → SdmCh) : (s.setSdc ch f).avs = s.avs := rfl
@[simp] theorem State.setSdc_evr (s : State) (ch : Fin 16) (f : SdmCh → SdmCh) : (s.setSdc ch f).evr = s.evr := rfl
@[simp] theorem State.setSdc_clocks (s : State) (ch : Fin 16) (f : SdmCh → SdmCh) : (s.setSdc ch f).clocks = s.clocks := rfl
@[simp] theorem State.setSdc_cmq (s : State) (ch : Fin 16) (f : SdmCh → SdmCh) : (s.setSdc ch f).cmq = s.cmq := rfl
@[simp] theorem State.setSdc_land (s : State) (ch : Fin 16) (f : SdmCh → SdmCh) : (s.setSdc ch f).land = s.land := rfl
@[simp] theorem State.setSdc_media (s : State) (ch : Fin 16) (f : SdmCh → SdmCh) : (s.setSdc ch f).media = s.media := rfl
@[simp] theorem State.setSdc_plp (s : State) (ch : Fin 16) (f : SdmCh → SdmCh) : (s.setSdc ch f).plp = s.plp := rfl
@[simp] theorem State.setSdc_ports (s : State) (ch : Fin 16) (f : SdmCh → SdmCh) : (s.setSdc ch f).ports = s.ports := rfl
@[simp] theorem State.setSdc_dram (s : State) (ch : Fin 16) (f : SdmCh → SdmCh) : (s.setSdc ch f).dram = s.dram := rfl
@[simp] theorem State.setSdc_sdm (s : State) (ch : Fin 16) (f : SdmCh → SdmCh) :
    (s.setSdc ch f).sdm = { s.sdm with chs := s.sdm.chs.upd ch f } := rfl
@[simp] theorem State.setSdc_vault (s : State) (ch : Fin 16) (f : SdmCh → SdmCh) : (s.setSdc ch f).vault = s.vault := rfl
@[simp] theorem State.setSdc_sec (s : State) (ch : Fin 16) (f : SdmCh → SdmCh) : (s.setSdc ch f).sec = s.sec := rfl
@[simp] theorem State.setSdc_bst (s : State) (ch : Fin 16) (f : SdmCh → SdmCh) : (s.setSdc ch f).bst = s.bst := rfl
@[simp] theorem State.setSdc_boot (s : State) (ch : Fin 16) (f : SdmCh → SdmCh) : (s.setSdc ch f).boot = s.boot := rfl
@[simp] theorem State.setSdc_pws (s : State) (ch : Fin 16) (f : SdmCh → SdmCh) : (s.setSdc ch f).pws = s.pws := rfl
@[simp] theorem State.setSdc_dict (s : State) (ch : Fin 16) (f : SdmCh → SdmCh) : (s.setSdc ch f).dict = s.dict := rfl
@[simp] theorem State.setSdc_board (s : State) (ch : Fin 16) (f : SdmCh → SdmCh) : (s.setSdc ch f).board = s.board := rfl
@[simp] theorem State.setSdc_out (s : State) (ch : Fin 16) (f : SdmCh → SdmCh) : (s.setSdc ch f).out = s.out := rfl
@[simp] theorem State.setSdc_free (s : State) (ch : Fin 16) (f : SdmCh → SdmCh) : (s.setSdc ch f).free = s.free := rfl
@[simp] theorem State.setSdc_pending (s : State) (ch : Fin 16) (f : SdmCh → SdmCh) : (s.setSdc ch f).pending = s.pending := rfl

/-! ### `State.setDch` -/

@[simp] theorem State.setDch_phase (s : State) (c : Fin 16) (f : DramCh → DramCh) : (s.setDch c f).phase = s.phase := rfl
@[simp] theorem State.setDch_tb (s : State) (c : Fin 16) (f : DramCh → DramCh) : (s.setDch c f).tb = s.tb := rfl
@[simp] theorem State.setDch_pace (s : State) (c : Fin 16) (f : DramCh → DramCh) : (s.setDch c f).pace = s.pace := rfl
@[simp] theorem State.setDch_units (s : State) (c : Fin 16) (f : DramCh → DramCh) : (s.setDch c f).units = s.units := rfl
@[simp] theorem State.setDch_avs (s : State) (c : Fin 16) (f : DramCh → DramCh) : (s.setDch c f).avs = s.avs := rfl
@[simp] theorem State.setDch_evr (s : State) (c : Fin 16) (f : DramCh → DramCh) : (s.setDch c f).evr = s.evr := rfl
@[simp] theorem State.setDch_clocks (s : State) (c : Fin 16) (f : DramCh → DramCh) : (s.setDch c f).clocks = s.clocks := rfl
@[simp] theorem State.setDch_cmq (s : State) (c : Fin 16) (f : DramCh → DramCh) : (s.setDch c f).cmq = s.cmq := rfl
@[simp] theorem State.setDch_land (s : State) (c : Fin 16) (f : DramCh → DramCh) : (s.setDch c f).land = s.land := rfl
@[simp] theorem State.setDch_media (s : State) (c : Fin 16) (f : DramCh → DramCh) : (s.setDch c f).media = s.media := rfl
@[simp] theorem State.setDch_plp (s : State) (c : Fin 16) (f : DramCh → DramCh) : (s.setDch c f).plp = s.plp := rfl
@[simp] theorem State.setDch_ports (s : State) (c : Fin 16) (f : DramCh → DramCh) : (s.setDch c f).ports = s.ports := rfl
@[simp] theorem State.setDch_dram (s : State) (c : Fin 16) (f : DramCh → DramCh) :
    (s.setDch c f).dram = { s.dram with chs := s.dram.chs.upd c f } := rfl
@[simp] theorem State.setDch_sdm (s : State) (c : Fin 16) (f : DramCh → DramCh) : (s.setDch c f).sdm = s.sdm := rfl
@[simp] theorem State.setDch_vault (s : State) (c : Fin 16) (f : DramCh → DramCh) : (s.setDch c f).vault = s.vault := rfl
@[simp] theorem State.setDch_sec (s : State) (c : Fin 16) (f : DramCh → DramCh) : (s.setDch c f).sec = s.sec := rfl
@[simp] theorem State.setDch_bst (s : State) (c : Fin 16) (f : DramCh → DramCh) : (s.setDch c f).bst = s.bst := rfl
@[simp] theorem State.setDch_boot (s : State) (c : Fin 16) (f : DramCh → DramCh) : (s.setDch c f).boot = s.boot := rfl
@[simp] theorem State.setDch_pws (s : State) (c : Fin 16) (f : DramCh → DramCh) : (s.setDch c f).pws = s.pws := rfl
@[simp] theorem State.setDch_dict (s : State) (c : Fin 16) (f : DramCh → DramCh) : (s.setDch c f).dict = s.dict := rfl
@[simp] theorem State.setDch_board (s : State) (c : Fin 16) (f : DramCh → DramCh) : (s.setDch c f).board = s.board := rfl
@[simp] theorem State.setDch_out (s : State) (c : Fin 16) (f : DramCh → DramCh) : (s.setDch c f).out = s.out := rfl
@[simp] theorem State.setDch_free (s : State) (c : Fin 16) (f : DramCh → DramCh) : (s.setDch c f).free = s.free := rfl
@[simp] theorem State.setDch_pending (s : State) (c : Fin 16) (f : DramCh → DramCh) : (s.setDch c f).pending = s.pending := rfl

/-! ### `State.setMbox` -/

@[simp] theorem State.setMbox_phase (s : State) (p : Fin 2) (f : Mailbox → Mailbox) : (s.setMbox p f).phase = s.phase := rfl
@[simp] theorem State.setMbox_tb (s : State) (p : Fin 2) (f : Mailbox → Mailbox) : (s.setMbox p f).tb = s.tb := rfl
@[simp] theorem State.setMbox_pace (s : State) (p : Fin 2) (f : Mailbox → Mailbox) : (s.setMbox p f).pace = s.pace := rfl
@[simp] theorem State.setMbox_units (s : State) (p : Fin 2) (f : Mailbox → Mailbox) : (s.setMbox p f).units = s.units := rfl
@[simp] theorem State.setMbox_avs (s : State) (p : Fin 2) (f : Mailbox → Mailbox) : (s.setMbox p f).avs = s.avs := rfl
@[simp] theorem State.setMbox_evr (s : State) (p : Fin 2) (f : Mailbox → Mailbox) : (s.setMbox p f).evr = s.evr := rfl
@[simp] theorem State.setMbox_clocks (s : State) (p : Fin 2) (f : Mailbox → Mailbox) : (s.setMbox p f).clocks = s.clocks := rfl
@[simp] theorem State.setMbox_cmq (s : State) (p : Fin 2) (f : Mailbox → Mailbox) : (s.setMbox p f).cmq = s.cmq := rfl
@[simp] theorem State.setMbox_land (s : State) (p : Fin 2) (f : Mailbox → Mailbox) : (s.setMbox p f).land = s.land := rfl
@[simp] theorem State.setMbox_media (s : State) (p : Fin 2) (f : Mailbox → Mailbox) : (s.setMbox p f).media = s.media := rfl
@[simp] theorem State.setMbox_plp (s : State) (p : Fin 2) (f : Mailbox → Mailbox) : (s.setMbox p f).plp = s.plp := rfl
@[simp] theorem State.setMbox_ports (s : State) (p : Fin 2) (f : Mailbox → Mailbox) : (s.setMbox p f).ports = s.ports := rfl
@[simp] theorem State.setMbox_dram (s : State) (p : Fin 2) (f : Mailbox → Mailbox) : (s.setMbox p f).dram = s.dram := rfl
@[simp] theorem State.setMbox_sdm (s : State) (p : Fin 2) (f : Mailbox → Mailbox) : (s.setMbox p f).sdm = s.sdm := rfl
@[simp] theorem State.setMbox_vault (s : State) (p : Fin 2) (f : Mailbox → Mailbox) : (s.setMbox p f).vault = s.vault := rfl
@[simp] theorem State.setMbox_sec (s : State) (p : Fin 2) (f : Mailbox → Mailbox) : (s.setMbox p f).sec = s.sec := rfl
@[simp] theorem State.setMbox_bst (s : State) (p : Fin 2) (f : Mailbox → Mailbox) : (s.setMbox p f).bst = s.bst := rfl
@[simp] theorem State.setMbox_boot (s : State) (p : Fin 2) (f : Mailbox → Mailbox) : (s.setMbox p f).boot = s.boot := rfl
@[simp] theorem State.setMbox_pws (s : State) (p : Fin 2) (f : Mailbox → Mailbox) : (s.setMbox p f).pws = s.pws := rfl
@[simp] theorem State.setMbox_dict (s : State) (p : Fin 2) (f : Mailbox → Mailbox) :
    (s.setMbox p f).dict = { s.dict with mbox := s.dict.mbox.upd p f } := rfl
@[simp] theorem State.setMbox_board (s : State) (p : Fin 2) (f : Mailbox → Mailbox) : (s.setMbox p f).board = s.board := rfl
@[simp] theorem State.setMbox_out (s : State) (p : Fin 2) (f : Mailbox → Mailbox) : (s.setMbox p f).out = s.out := rfl
@[simp] theorem State.setMbox_free (s : State) (p : Fin 2) (f : Mailbox → Mailbox) : (s.setMbox p f).free = s.free := rfl
@[simp] theorem State.setMbox_pending (s : State) (p : Fin 2) (f : Mailbox → Mailbox) : (s.setMbox p f).pending = s.pending := rfl

/-! ### `State.emits` -/

@[simp] theorem State.emits_phase (s : State) (os : List Output) : (s.emits os).phase = s.phase := rfl
@[simp] theorem State.emits_tb (s : State) (os : List Output) : (s.emits os).tb = s.tb := rfl
@[simp] theorem State.emits_pace (s : State) (os : List Output) : (s.emits os).pace = s.pace := rfl
@[simp] theorem State.emits_units (s : State) (os : List Output) : (s.emits os).units = s.units := rfl
@[simp] theorem State.emits_avs (s : State) (os : List Output) : (s.emits os).avs = s.avs := rfl
@[simp] theorem State.emits_evr (s : State) (os : List Output) : (s.emits os).evr = s.evr := rfl
@[simp] theorem State.emits_clocks (s : State) (os : List Output) : (s.emits os).clocks = s.clocks := rfl
@[simp] theorem State.emits_cmq (s : State) (os : List Output) : (s.emits os).cmq = s.cmq := rfl
@[simp] theorem State.emits_land (s : State) (os : List Output) : (s.emits os).land = s.land := rfl
@[simp] theorem State.emits_media (s : State) (os : List Output) : (s.emits os).media = s.media := rfl
@[simp] theorem State.emits_plp (s : State) (os : List Output) : (s.emits os).plp = s.plp := rfl
@[simp] theorem State.emits_ports (s : State) (os : List Output) : (s.emits os).ports = s.ports := rfl
@[simp] theorem State.emits_dram (s : State) (os : List Output) : (s.emits os).dram = s.dram := rfl
@[simp] theorem State.emits_sdm (s : State) (os : List Output) : (s.emits os).sdm = s.sdm := rfl
@[simp] theorem State.emits_vault (s : State) (os : List Output) : (s.emits os).vault = s.vault := rfl
@[simp] theorem State.emits_sec (s : State) (os : List Output) : (s.emits os).sec = s.sec := rfl
@[simp] theorem State.emits_bst (s : State) (os : List Output) : (s.emits os).bst = s.bst := rfl
@[simp] theorem State.emits_boot (s : State) (os : List Output) : (s.emits os).boot = s.boot := rfl
@[simp] theorem State.emits_pws (s : State) (os : List Output) : (s.emits os).pws = s.pws := rfl
@[simp] theorem State.emits_dict (s : State) (os : List Output) : (s.emits os).dict = s.dict := rfl
@[simp] theorem State.emits_board (s : State) (os : List Output) : (s.emits os).board = s.board := rfl
@[simp] theorem State.emits_out (s : State) (os : List Output) :
    (s.emits os).out = s.out ++ os := rfl
@[simp] theorem State.emits_free (s : State) (os : List Output) : (s.emits os).free = s.free := rfl
@[simp] theorem State.emits_pending (s : State) (os : List Output) : (s.emits os).pending = s.pending := rfl

/-! ### `State.emit` -/

@[simp] theorem State.emit_phase (s : State) (o : Output) : (s.emit o).phase = s.phase := rfl
@[simp] theorem State.emit_tb (s : State) (o : Output) : (s.emit o).tb = s.tb := rfl
@[simp] theorem State.emit_pace (s : State) (o : Output) : (s.emit o).pace = s.pace := rfl
@[simp] theorem State.emit_units (s : State) (o : Output) : (s.emit o).units = s.units := rfl
@[simp] theorem State.emit_avs (s : State) (o : Output) : (s.emit o).avs = s.avs := rfl
@[simp] theorem State.emit_evr (s : State) (o : Output) : (s.emit o).evr = s.evr := rfl
@[simp] theorem State.emit_clocks (s : State) (o : Output) : (s.emit o).clocks = s.clocks := rfl
@[simp] theorem State.emit_cmq (s : State) (o : Output) : (s.emit o).cmq = s.cmq := rfl
@[simp] theorem State.emit_land (s : State) (o : Output) : (s.emit o).land = s.land := rfl
@[simp] theorem State.emit_media (s : State) (o : Output) : (s.emit o).media = s.media := rfl
@[simp] theorem State.emit_plp (s : State) (o : Output) : (s.emit o).plp = s.plp := rfl
@[simp] theorem State.emit_ports (s : State) (o : Output) : (s.emit o).ports = s.ports := rfl
@[simp] theorem State.emit_dram (s : State) (o : Output) : (s.emit o).dram = s.dram := rfl
@[simp] theorem State.emit_sdm (s : State) (o : Output) : (s.emit o).sdm = s.sdm := rfl
@[simp] theorem State.emit_vault (s : State) (o : Output) : (s.emit o).vault = s.vault := rfl
@[simp] theorem State.emit_sec (s : State) (o : Output) : (s.emit o).sec = s.sec := rfl
@[simp] theorem State.emit_bst (s : State) (o : Output) : (s.emit o).bst = s.bst := rfl
@[simp] theorem State.emit_boot (s : State) (o : Output) : (s.emit o).boot = s.boot := rfl
@[simp] theorem State.emit_pws (s : State) (o : Output) : (s.emit o).pws = s.pws := rfl
@[simp] theorem State.emit_dict (s : State) (o : Output) : (s.emit o).dict = s.dict := rfl
@[simp] theorem State.emit_board (s : State) (o : Output) : (s.emit o).board = s.board := rfl
@[simp] theorem State.emit_out (s : State) (o : Output) :
    (s.emit o).out = s.out ++ [o] := rfl
@[simp] theorem State.emit_free (s : State) (o : Output) : (s.emit o).free = s.free := rfl
@[simp] theorem State.emit_pending (s : State) (o : Output) : (s.emit o).pending = s.pending := rfl

/-! ### `State.logs` -/

@[simp] theorem State.logs_phase (s : State) (es : List Ev) : (s.logs es).phase = s.phase := rfl
@[simp] theorem State.logs_tb (s : State) (es : List Ev) : (s.logs es).tb = s.tb := rfl
@[simp] theorem State.logs_pace (s : State) (es : List Ev) : (s.logs es).pace = s.pace := rfl
@[simp] theorem State.logs_units (s : State) (es : List Ev) : (s.logs es).units = s.units := rfl
@[simp] theorem State.logs_avs (s : State) (es : List Ev) : (s.logs es).avs = s.avs := rfl
@[simp] theorem State.logs_clocks (s : State) (es : List Ev) : (s.logs es).clocks = s.clocks := rfl
@[simp] theorem State.logs_cmq (s : State) (es : List Ev) : (s.logs es).cmq = s.cmq := rfl
@[simp] theorem State.logs_land (s : State) (es : List Ev) : (s.logs es).land = s.land := rfl
@[simp] theorem State.logs_media (s : State) (es : List Ev) : (s.logs es).media = s.media := rfl
@[simp] theorem State.logs_plp (s : State) (es : List Ev) : (s.logs es).plp = s.plp := rfl
@[simp] theorem State.logs_ports (s : State) (es : List Ev) : (s.logs es).ports = s.ports := rfl
@[simp] theorem State.logs_dram (s : State) (es : List Ev) : (s.logs es).dram = s.dram := rfl
@[simp] theorem State.logs_sdm (s : State) (es : List Ev) : (s.logs es).sdm = s.sdm := rfl
@[simp] theorem State.logs_vault (s : State) (es : List Ev) : (s.logs es).vault = s.vault := rfl
@[simp] theorem State.logs_sec (s : State) (es : List Ev) : (s.logs es).sec = s.sec := rfl
@[simp] theorem State.logs_bst (s : State) (es : List Ev) : (s.logs es).bst = s.bst := rfl
@[simp] theorem State.logs_boot (s : State) (es : List Ev) : (s.logs es).boot = s.boot := rfl
@[simp] theorem State.logs_pws (s : State) (es : List Ev) : (s.logs es).pws = s.pws := rfl
@[simp] theorem State.logs_dict (s : State) (es : List Ev) : (s.logs es).dict = s.dict := rfl
@[simp] theorem State.logs_board (s : State) (es : List Ev) : (s.logs es).board = s.board := rfl
@[simp] theorem State.logs_out (s : State) (es : List Ev) : (s.logs es).out = s.out := rfl
@[simp] theorem State.logs_free (s : State) (es : List Ev) : (s.logs es).free = s.free := rfl
@[simp] theorem State.logs_pending (s : State) (es : List Ev) : (s.logs es).pending = s.pending := rfl

/-! ### `State.log` -/

@[simp] theorem State.log_phase (s : State) (c r : Nat) (d : List Byte) : (s.log c r d).phase = s.phase := rfl
@[simp] theorem State.log_tb (s : State) (c r : Nat) (d : List Byte) : (s.log c r d).tb = s.tb := rfl
@[simp] theorem State.log_pace (s : State) (c r : Nat) (d : List Byte) : (s.log c r d).pace = s.pace := rfl
@[simp] theorem State.log_units (s : State) (c r : Nat) (d : List Byte) : (s.log c r d).units = s.units := rfl
@[simp] theorem State.log_avs (s : State) (c r : Nat) (d : List Byte) : (s.log c r d).avs = s.avs := rfl
@[simp] theorem State.log_clocks (s : State) (c r : Nat) (d : List Byte) : (s.log c r d).clocks = s.clocks := rfl
@[simp] theorem State.log_cmq (s : State) (c r : Nat) (d : List Byte) : (s.log c r d).cmq = s.cmq := rfl
@[simp] theorem State.log_land (s : State) (c r : Nat) (d : List Byte) : (s.log c r d).land = s.land := rfl
@[simp] theorem State.log_media (s : State) (c r : Nat) (d : List Byte) : (s.log c r d).media = s.media := rfl
@[simp] theorem State.log_plp (s : State) (c r : Nat) (d : List Byte) : (s.log c r d).plp = s.plp := rfl
@[simp] theorem State.log_ports (s : State) (c r : Nat) (d : List Byte) : (s.log c r d).ports = s.ports := rfl
@[simp] theorem State.log_dram (s : State) (c r : Nat) (d : List Byte) : (s.log c r d).dram = s.dram := rfl
@[simp] theorem State.log_sdm (s : State) (c r : Nat) (d : List Byte) : (s.log c r d).sdm = s.sdm := rfl
@[simp] theorem State.log_vault (s : State) (c r : Nat) (d : List Byte) : (s.log c r d).vault = s.vault := rfl
@[simp] theorem State.log_sec (s : State) (c r : Nat) (d : List Byte) : (s.log c r d).sec = s.sec := rfl
@[simp] theorem State.log_bst (s : State) (c r : Nat) (d : List Byte) : (s.log c r d).bst = s.bst := rfl
@[simp] theorem State.log_boot (s : State) (c r : Nat) (d : List Byte) : (s.log c r d).boot = s.boot := rfl
@[simp] theorem State.log_pws (s : State) (c r : Nat) (d : List Byte) : (s.log c r d).pws = s.pws := rfl
@[simp] theorem State.log_dict (s : State) (c r : Nat) (d : List Byte) : (s.log c r d).dict = s.dict := rfl
@[simp] theorem State.log_board (s : State) (c r : Nat) (d : List Byte) : (s.log c r d).board = s.board := rfl
@[simp] theorem State.log_out (s : State) (c r : Nat) (d : List Byte) : (s.log c r d).out = s.out := rfl
@[simp] theorem State.log_free (s : State) (c r : Nat) (d : List Byte) : (s.log c r d).free = s.free := rfl
@[simp] theorem State.log_pending (s : State) (c r : Nat) (d : List Byte) : (s.log c r d).pending = s.pending := rfl

end Sys2Proof.Machine
end

