-- ==== Sys2Proof/Laws/Frame.lean ====
section
/-! SUPPORT. What each function of the machine may change: one lemma for each function that answers a state. Its list names
the parts that the function may touch; every other part, the queue among them, is as it was. -/

set_option linter.unusedTactic false
set_option linter.unreachableTactic false
set_option linter.unusedVariables false

namespace Sys2Proof.Machine

open Sys2Proof

/-- Every part of `a` is in `ps`. -/
def covers (a ps : List Part) : Bool := a.all (fun p => ps.contains p)
theorem agrees_refl (s : State) (p : Part) : s.agrees s p := by cases p <;> rfl
theorem agrees_trans {s t u : State} {p : Part} (h : s.agrees t p) (k : t.agrees u p) : s.agrees u p := by
  cases p <;> exact Eq.trans k h
theorem Changes.refl (ps : List Part) (s : State) : Changes ps s s := ⟨fun p _ => agrees_refl s p⟩
theorem Changes.step {a ps : List Part} {s t u : State} (h : Changes a t u) (c : covers a ps = true) (k : Changes ps s t) :
    Changes ps s u := by
  refine ⟨fun p hp => agrees_trans (k.rest p hp) (h.rest p (fun ha => hp ?_))⟩
  exact List.contains_iff_mem.mp (List.all_eq_true.mp c p ha)
theorem covers_trans {a b c : List Part} (h : covers a b = true) (k : covers b c = true) : covers a c = true := by
  simp only [covers, List.all_eq_true, List.contains_iff_mem] at *
  exact fun p hp => k p (h p hp)
theorem covers_mem {p : Part} {b c : List Part} (h : b.contains p = true) (k : covers b c = true) : c.contains p = true := by
  simp only [covers, List.all_eq_true, List.contains_iff_mem] at *
  exact k p h
theorem Changes.foldl {α : Type} {ps : List Part} (f : State → α → State) (l : List α) (s0 s : State)
    (h : ∀ s x, Changes ps s0 s → Changes ps s0 (f s x)) (k : Changes ps s0 s) : Changes ps s0 (l.foldl f s) := by
  induction l generalizing s with
  | nil => exact k
  | cons x xs ih => exact ih _ (h _ _ k)

theorem Changes.boot_free_with {ps : List Part} {s t : State} (v0) (v1) (c0 : ps.contains .boot = true) (c1 : ps.contains .free = true) (k : Changes ps s t) :
    Changes ps s { t with boot := v0, free := v1 } := by
  refine ⟨fun p hp => ?_⟩
  cases p <;> first | exact k.rest _ hp | exact absurd (List.contains_iff_mem.mp c0) hp | exact absurd (List.contains_iff_mem.mp c1) hp

theorem Changes.bst_boot_with {ps : List Part} {s t : State} (v0) (v1) (c0 : ps.contains .bst = true) (c1 : ps.contains .boot = true) (k : Changes ps s t) :
    Changes ps s { t with bst := v0, boot := v1 } := by
  refine ⟨fun p hp => ?_⟩
  cases p <;> first | exact k.rest _ hp | exact absurd (List.contains_iff_mem.mp c0) hp | exact absurd (List.contains_iff_mem.mp c1) hp

theorem Changes.bst_pws_with {ps : List Part} {s t : State} (v0) (v1) (c0 : ps.contains .bst = true) (c1 : ps.contains .pws = true) (k : Changes ps s t) :
    Changes ps s { t with bst := v0, pws := v1 } := by
  refine ⟨fun p hp => ?_⟩
  cases p <;> first | exact k.rest _ hp | exact absurd (List.contains_iff_mem.mp c0) hp | exact absurd (List.contains_iff_mem.mp c1) hp

theorem Changes.cmq_boot_with {ps : List Part} {s t : State} (v0) (v1) (c0 : ps.contains .cmq = true) (c1 : ps.contains .boot = true) (k : Changes ps s t) :
    Changes ps s { t with cmq := v0, boot := v1 } := by
  refine ⟨fun p hp => ?_⟩
  cases p <;> first | exact k.rest _ hp | exact absurd (List.contains_iff_mem.mp c0) hp | exact absurd (List.contains_iff_mem.mp c1) hp

theorem Changes.cmq_land_with {ps : List Part} {s t : State} (v0) (v1) (c0 : ps.contains .cmq = true) (c1 : ps.contains .land = true) (k : Changes ps s t) :
    Changes ps s { t with cmq := v0, land := v1 } := by
  refine ⟨fun p hp => ?_⟩
  cases p <;> first | exact k.rest _ hp | exact absurd (List.contains_iff_mem.mp c0) hp | exact absurd (List.contains_iff_mem.mp c1) hp

theorem Changes.cmq_media_ports_sec_bst_boot_pws_dict_board_with {ps : List Part} {s t : State} (v0) (v1) (v2) (v3) (v4) (v5) (v6) (v7) (v8) (c0 : ps.contains .cmq = true) (c1 : ps.contains .media = true) (c2 : ps.contains .ports = true) (c3 : ps.contains .sec = true) (c4 : ps.contains .bst = true) (c5 : ps.contains .boot = true) (c6 : ps.contains .pws = true) (c7 : ps.contains .dict = true) (c8 : ps.contains .board = true) (k : Changes ps s t) :
    Changes ps s { t with cmq := v0, media := v1, ports := v2, sec := v3, bst := v4, boot := v5, pws := v6, dict := v7, board := v8 } := by
  refine ⟨fun p hp => ?_⟩
  cases p <;> first | exact k.rest _ hp | exact absurd (List.contains_iff_mem.mp c0) hp | exact absurd (List.contains_iff_mem.mp c1) hp | exact absurd (List.contains_iff_mem.mp c2) hp | exact absurd (List.contains_iff_mem.mp c3) hp | exact absurd (List.contains_iff_mem.mp c4) hp | exact absurd (List.contains_iff_mem.mp c5) hp | exact absurd (List.contains_iff_mem.mp c6) hp | exact absurd (List.contains_iff_mem.mp c7) hp | exact absurd (List.contains_iff_mem.mp c8) hp

theorem Changes.cmq_sdm_with {ps : List Part} {s t : State} (v0) (v1) (c0 : ps.contains .cmq = true) (c1 : ps.contains .sdm = true) (k : Changes ps s t) :
    Changes ps s { t with cmq := v0, sdm := v1 } := by
  refine ⟨fun p hp => ?_⟩
  cases p <;> first | exact k.rest _ hp | exact absurd (List.contains_iff_mem.mp c0) hp | exact absurd (List.contains_iff_mem.mp c1) hp

theorem Changes.cmq_sec_with {ps : List Part} {s t : State} (v0) (v1) (c0 : ps.contains .cmq = true) (c1 : ps.contains .sec = true) (k : Changes ps s t) :
    Changes ps s { t with cmq := v0, sec := v1 } := by
  refine ⟨fun p hp => ?_⟩
  cases p <;> first | exact k.rest _ hp | exact absurd (List.contains_iff_mem.mp c0) hp | exact absurd (List.contains_iff_mem.mp c1) hp

theorem Changes.dram_pws_with {ps : List Part} {s t : State} (v0) (v1) (c0 : ps.contains .dram = true) (c1 : ps.contains .pws = true) (k : Changes ps s t) :
    Changes ps s { t with dram := v0, pws := v1 } := by
  refine ⟨fun p hp => ?_⟩
  cases p <;> first | exact k.rest _ hp | exact absurd (List.contains_iff_mem.mp c0) hp | exact absurd (List.contains_iff_mem.mp c1) hp

theorem Changes.evr_clocks_with {ps : List Part} {s t : State} (v0) (v1) (c0 : ps.contains .evr = true) (c1 : ps.contains .clocks = true) (k : Changes ps s t) :
    Changes ps s { t with evr := v0, clocks := v1 } := by
  refine ⟨fun p hp => ?_⟩
  cases p <;> first | exact k.rest _ hp | exact absurd (List.contains_iff_mem.mp c0) hp | exact absurd (List.contains_iff_mem.mp c1) hp

theorem Changes.land_free_with {ps : List Part} {s t : State} (v0) (v1) (c0 : ps.contains .land = true) (c1 : ps.contains .free = true) (k : Changes ps s t) :
    Changes ps s { t with land := v0, free := v1 } := by
  refine ⟨fun p hp => ?_⟩
  cases p <;> first | exact k.rest _ hp | exact absurd (List.contains_iff_mem.mp c0) hp | exact absurd (List.contains_iff_mem.mp c1) hp

theorem Changes.land_media_with {ps : List Part} {s t : State} (v0) (v1) (c0 : ps.contains .land = true) (c1 : ps.contains .media = true) (k : Changes ps s t) :
    Changes ps s { t with land := v0, media := v1 } := by
  refine ⟨fun p hp => ?_⟩
  cases p <;> first | exact k.rest _ hp | exact absurd (List.contains_iff_mem.mp c0) hp | exact absurd (List.contains_iff_mem.mp c1) hp

theorem Changes.land_media_ports_dram_with {ps : List Part} {s t : State} (v0) (v1) (v2) (v3) (c0 : ps.contains .land = true) (c1 : ps.contains .media = true) (c2 : ps.contains .ports = true) (c3 : ps.contains .dram = true) (k : Changes ps s t) :
    Changes ps s { t with land := v0, media := v1, ports := v2, dram := v3 } := by
  refine ⟨fun p hp => ?_⟩
  cases p <;> first | exact k.rest _ hp | exact absurd (List.contains_iff_mem.mp c0) hp | exact absurd (List.contains_iff_mem.mp c1) hp | exact absurd (List.contains_iff_mem.mp c2) hp | exact absurd (List.contains_iff_mem.mp c3) hp

theorem Changes.media_ports_vault_sec_with {ps : List Part} {s t : State} (v0) (v1) (v2) (v3) (c0 : ps.contains .media = true) (c1 : ps.contains .ports = true) (c2 : ps.contains .vault = true) (c3 : ps.contains .sec = true) (k : Changes ps s t) :
    Changes ps s { t with media := v0, ports := v1, vault := v2, sec := v3 } := by
  refine ⟨fun p hp => ?_⟩
  cases p <;> first | exact k.rest _ hp | exact absurd (List.contains_iff_mem.mp c0) hp | exact absurd (List.contains_iff_mem.mp c1) hp | exact absurd (List.contains_iff_mem.mp c2) hp | exact absurd (List.contains_iff_mem.mp c3) hp

theorem Changes.media_sdm_with {ps : List Part} {s t : State} (v0) (v1) (c0 : ps.contains .media = true) (c1 : ps.contains .sdm = true) (k : Changes ps s t) :
    Changes ps s { t with media := v0, sdm := v1 } := by
  refine ⟨fun p hp => ?_⟩
  cases p <;> first | exact k.rest _ hp | exact absurd (List.contains_iff_mem.mp c0) hp | exact absurd (List.contains_iff_mem.mp c1) hp

theorem Changes.phase_boot_with {ps : List Part} {s t : State} (v0) (v1) (c0 : ps.contains .phase = true) (c1 : ps.contains .boot = true) (k : Changes ps s t) :
    Changes ps s { t with phase := v0, boot := v1 } := by
  refine ⟨fun p hp => ?_⟩
  cases p <;> first | exact k.rest _ hp | exact absurd (List.contains_iff_mem.mp c0) hp | exact absurd (List.contains_iff_mem.mp c1) hp

theorem Changes.phase_land_with {ps : List Part} {s t : State} (v0) (v1) (c0 : ps.contains .phase = true) (c1 : ps.contains .land = true) (k : Changes ps s t) :
    Changes ps s { t with phase := v0, land := v1 } := by
  refine ⟨fun p hp => ?_⟩
  cases p <;> first | exact k.rest _ hp | exact absurd (List.contains_iff_mem.mp c0) hp | exact absurd (List.contains_iff_mem.mp c1) hp

theorem Changes.phase_plp_sec_with {ps : List Part} {s t : State} (v0) (v1) (v2) (c0 : ps.contains .phase = true) (c1 : ps.contains .plp = true) (c2 : ps.contains .sec = true) (k : Changes ps s t) :
    Changes ps s { t with phase := v0, plp := v1, sec := v2 } := by
  refine ⟨fun p hp => ?_⟩
  cases p <;> first | exact k.rest _ hp | exact absurd (List.contains_iff_mem.mp c0) hp | exact absurd (List.contains_iff_mem.mp c1) hp | exact absurd (List.contains_iff_mem.mp c2) hp

theorem Changes.phase_ports_with {ps : List Part} {s t : State} (v0) (v1) (c0 : ps.contains .phase = true) (c1 : ps.contains .ports = true) (k : Changes ps s t) :
    Changes ps s { t with phase := v0, ports := v1 } := by
  refine ⟨fun p hp => ?_⟩
  cases p <;> first | exact k.rest _ hp | exact absurd (List.contains_iff_mem.mp c0) hp | exact absurd (List.contains_iff_mem.mp c1) hp

theorem Changes.phase_tb_with {ps : List Part} {s t : State} (v0) (v1) (c0 : ps.contains .phase = true) (c1 : ps.contains .tb = true) (k : Changes ps s t) :
    Changes ps s { t with phase := v0, tb := v1 } := by
  refine ⟨fun p hp => ?_⟩
  cases p <;> first | exact k.rest _ hp | exact absurd (List.contains_iff_mem.mp c0) hp | exact absurd (List.contains_iff_mem.mp c1) hp

theorem Changes.plp_boot_with {ps : List Part} {s t : State} (v0) (v1) (c0 : ps.contains .plp = true) (c1 : ps.contains .boot = true) (k : Changes ps s t) :
    Changes ps s { t with plp := v0, boot := v1 } := by
  refine ⟨fun p hp => ?_⟩
  cases p <;> first | exact k.rest _ hp | exact absurd (List.contains_iff_mem.mp c0) hp | exact absurd (List.contains_iff_mem.mp c1) hp

theorem Changes.units_clocks_bst_with {ps : List Part} {s t : State} (v0) (v1) (v2) (c0 : ps.contains .units = true) (c1 : ps.contains .clocks = true) (c2 : ps.contains .bst = true) (k : Changes ps s t) :
    Changes ps s { t with units := v0, clocks := v1, bst := v2 } := by
  refine ⟨fun p hp => ?_⟩
  cases p <;> first | exact k.rest _ hp | exact absurd (List.contains_iff_mem.mp c0) hp | exact absurd (List.contains_iff_mem.mp c1) hp | exact absurd (List.contains_iff_mem.mp c2) hp

theorem Changes.units_media_with {ps : List Part} {s t : State} (v0) (v1) (c0 : ps.contains .units = true) (c1 : ps.contains .media = true) (k : Changes ps s t) :
    Changes ps s { t with units := v0, media := v1 } := by
  refine ⟨fun p hp => ?_⟩
  cases p <;> first | exact k.rest _ hp | exact absurd (List.contains_iff_mem.mp c0) hp | exact absurd (List.contains_iff_mem.mp c1) hp

theorem Changes.units_media_sec_with {ps : List Part} {s t : State} (v0) (v1) (v2) (c0 : ps.contains .units = true) (c1 : ps.contains .media = true) (c2 : ps.contains .sec = true) (k : Changes ps s t) :
    Changes ps s { t with units := v0, media := v1, sec := v2 } := by
  refine ⟨fun p hp => ?_⟩
  cases p <;> first | exact k.rest _ hp | exact absurd (List.contains_iff_mem.mp c0) hp | exact absurd (List.contains_iff_mem.mp c1) hp | exact absurd (List.contains_iff_mem.mp c2) hp

theorem Changes.units_sec_with {ps : List Part} {s t : State} (v0) (v1) (c0 : ps.contains .units = true) (c1 : ps.contains .sec = true) (k : Changes ps s t) :
    Changes ps s { t with units := v0, sec := v1 } := by
  refine ⟨fun p hp => ?_⟩
  cases p <;> first | exact k.rest _ hp | exact absurd (List.contains_iff_mem.mp c0) hp | exact absurd (List.contains_iff_mem.mp c1) hp

theorem Changes.phase_with {ps : List Part} {s t : State} (v) (c : ps.contains .phase = true) (k : Changes ps s t) :
    Changes ps s { t with phase := v } := by
  refine ⟨fun p hp => ?_⟩
  cases p <;> first | exact k.rest _ hp | exact absurd (List.contains_iff_mem.mp c) hp

theorem Changes.tb_with {ps : List Part} {s t : State} (v) (c : ps.contains .tb = true) (k : Changes ps s t) :
    Changes ps s { t with tb := v } := by
  refine ⟨fun p hp => ?_⟩
  cases p <;> first | exact k.rest _ hp | exact absurd (List.contains_iff_mem.mp c) hp

theorem Changes.pace_with {ps : List Part} {s t : State} (v) (c : ps.contains .pace = true) (k : Changes ps s t) :
    Changes ps s { t with pace := v } := by
  refine ⟨fun p hp => ?_⟩
  cases p <;> first | exact k.rest _ hp | exact absurd (List.contains_iff_mem.mp c) hp

theorem Changes.units_with {ps : List Part} {s t : State} (v) (c : ps.contains .units = true) (k : Changes ps s t) :
    Changes ps s { t with units := v } := by
  refine ⟨fun p hp => ?_⟩
  cases p <;> first | exact k.rest _ hp | exact absurd (List.contains_iff_mem.mp c) hp

theorem Changes.avs_with {ps : List Part} {s t : State} (v) (c : ps.contains .avs = true) (k : Changes ps s t) :
    Changes ps s { t with avs := v } := by
  refine ⟨fun p hp => ?_⟩
  cases p <;> first | exact k.rest _ hp | exact absurd (List.contains_iff_mem.mp c) hp

theorem Changes.evr_with {ps : List Part} {s t : State} (v) (c : ps.contains .evr = true) (k : Changes ps s t) :
    Changes ps s { t with evr := v } := by
  refine ⟨fun p hp => ?_⟩
  cases p <;> first | exact k.rest _ hp | exact absurd (List.contains_iff_mem.mp c) hp

theorem Changes.clocks_with {ps : List Part} {s t : State} (v) (c : ps.contains .clocks = true) (k : Changes ps s t) :
    Changes ps s { t with clocks := v } := by
  refine ⟨fun p hp => ?_⟩
  cases p <;> first | exact k.rest _ hp | exact absurd (List.contains_iff_mem.mp c) hp

theorem Changes.cmq_with {ps : List Part} {s t : State} (v) (c : ps.contains .cmq = true) (k : Changes ps s t) :
    Changes ps s { t with cmq := v } := by
  refine ⟨fun p hp => ?_⟩
  cases p <;> first | exact k.rest _ hp | exact absurd (List.contains_iff_mem.mp c) hp

theorem Changes.land_with {ps : List Part} {s t : State} (v) (c : ps.contains .land = true) (k : Changes ps s t) :
    Changes ps s { t with land := v } := by
  refine ⟨fun p hp => ?_⟩
  cases p <;> first | exact k.rest _ hp | exact absurd (List.contains_iff_mem.mp c) hp

theorem Changes.media_with {ps : List Part} {s t : State} (v) (c : ps.contains .media = true) (k : Changes ps s t) :
    Changes ps s { t with media := v } := by
  refine ⟨fun p hp => ?_⟩
  cases p <;> first | exact k.rest _ hp | exact absurd (List.contains_iff_mem.mp c) hp

theorem Changes.plp_with {ps : List Part} {s t : State} (v) (c : ps.contains .plp = true) (k : Changes ps s t) :
    Changes ps s { t with plp := v } := by
  refine ⟨fun p hp => ?_⟩
  cases p <;> first | exact k.rest _ hp | exact absurd (List.contains_iff_mem.mp c) hp

theorem Changes.ports_with {ps : List Part} {s t : State} (v) (c : ps.contains .ports = true) (k : Changes ps s t) :
    Changes ps s { t with ports := v } := by
  refine ⟨fun p hp => ?_⟩
  cases p <;> first | exact k.rest _ hp | exact absurd (List.contains_iff_mem.mp c) hp

theorem Changes.dram_with {ps : List Part} {s t : State} (v) (c : ps.contains .dram = true) (k : Changes ps s t) :
    Changes ps s { t with dram := v } := by
  refine ⟨fun p hp => ?_⟩
  cases p <;> first | exact k.rest _ hp | exact absurd (List.contains_iff_mem.mp c) hp

theorem Changes.sdm_with {ps : List Part} {s t : State} (v) (c : ps.contains .sdm = true) (k : Changes ps s t) :
    Changes ps s { t with sdm := v } := by
  refine ⟨fun p hp => ?_⟩
  cases p <;> first | exact k.rest _ hp | exact absurd (List.contains_iff_mem.mp c) hp

theorem Changes.vault_with {ps : List Part} {s t : State} (v) (c : ps.contains .vault = true) (k : Changes ps s t) :
    Changes ps s { t with vault := v } := by
  refine ⟨fun p hp => ?_⟩
  cases p <;> first | exact k.rest _ hp | exact absurd (List.contains_iff_mem.mp c) hp

theorem Changes.sec_with {ps : List Part} {s t : State} (v) (c : ps.contains .sec = true) (k : Changes ps s t) :
    Changes ps s { t with sec := v } := by
  refine ⟨fun p hp => ?_⟩
  cases p <;> first | exact k.rest _ hp | exact absurd (List.contains_iff_mem.mp c) hp

theorem Changes.bst_with {ps : List Part} {s t : State} (v) (c : ps.contains .bst = true) (k : Changes ps s t) :
    Changes ps s { t with bst := v } := by
  refine ⟨fun p hp => ?_⟩
  cases p <;> first | exact k.rest _ hp | exact absurd (List.contains_iff_mem.mp c) hp

theorem Changes.boot_with {ps : List Part} {s t : State} (v) (c : ps.contains .boot = true) (k : Changes ps s t) :
    Changes ps s { t with boot := v } := by
  refine ⟨fun p hp => ?_⟩
  cases p <;> first | exact k.rest _ hp | exact absurd (List.contains_iff_mem.mp c) hp

theorem Changes.pws_with {ps : List Part} {s t : State} (v) (c : ps.contains .pws = true) (k : Changes ps s t) :
    Changes ps s { t with pws := v } := by
  refine ⟨fun p hp => ?_⟩
  cases p <;> first | exact k.rest _ hp | exact absurd (List.contains_iff_mem.mp c) hp

theorem Changes.dict_with {ps : List Part} {s t : State} (v) (c : ps.contains .dict = true) (k : Changes ps s t) :
    Changes ps s { t with dict := v } := by
  refine ⟨fun p hp => ?_⟩
  cases p <;> first | exact k.rest _ hp | exact absurd (List.contains_iff_mem.mp c) hp

theorem Changes.board_with {ps : List Part} {s t : State} (v) (c : ps.contains .board = true) (k : Changes ps s t) :
    Changes ps s { t with board := v } := by
  refine ⟨fun p hp => ?_⟩
  cases p <;> first | exact k.rest _ hp | exact absurd (List.contains_iff_mem.mp c) hp

theorem Changes.out_with {ps : List Part} {s t : State} (v) (c : ps.contains .out = true) (k : Changes ps s t) :
    Changes ps s { t with out := v } := by
  refine ⟨fun p hp => ?_⟩
  cases p <;> first | exact k.rest _ hp | exact absurd (List.contains_iff_mem.mp c) hp

theorem Changes.free_with {ps : List Part} {s t : State} (v) (c : ps.contains .free = true) (k : Changes ps s t) :
    Changes ps s { t with free := v } := by
  refine ⟨fun p hp => ?_⟩
  cases p <;> first | exact k.rest _ hp | exact absurd (List.contains_iff_mem.mp c) hp

theorem Changes.pending_with {ps : List Part} {s t : State} (v) (c : ps.contains .pending = true) (k : Changes ps s t) :
    Changes ps s { t with pending := v } := by
  refine ⟨fun p hp => ?_⟩
  cases p <;> first | exact k.rest _ hp | exact absurd (List.contains_iff_mem.mp c) hp

theorem State.record_changes (s : State) (f : Boot → Boot) :
    Changes [.bst, .boot] s (State.record s f) := by
  have h0 := Changes.refl [.bst, .boot] s
  unfold State.record
  repeat' (first
    | ((first | intro x | (lift_lets; intro x)); first | (guard_hyp x : State := _; have hx : Changes [.bst, .boot] s x := (by unfold x; repeat' (first | with_reducible assumption | ((conv => (arg 3; arg 24; skip)); ((with_reducible apply Changes.bst_boot_with) <;> [rfl; rfl; skip])) | ((with_reducible apply Changes.foldl) <;> [(intro _ _ _); skip]) | split)); clear_value x) | clear_value x | skip)
    | with_reducible assumption | ((conv => (arg 3; arg 24; skip)); ((with_reducible apply Changes.bst_boot_with) <;> [rfl; rfl; skip])) | ((with_reducible apply Changes.foldl) <;> [(intro _ _ _); skip])
    | split)

theorem State.loadRecord_changes (s : State) :
    Changes [.boot] s (State.loadRecord s) := by
  have h0 := Changes.refl [.boot] s
  unfold State.loadRecord
  repeat' (first
    | ((first | intro x | (lift_lets; intro x)); first | (guard_hyp x : State := _; have hx : Changes [.boot] s x := (by unfold x; repeat' (first | with_reducible assumption | ((conv => (arg 3; arg 24; skip)); ((with_reducible apply Changes.boot_with) <;> [rfl; skip])) | ((with_reducible apply Changes.foldl) <;> [(intro _ _ _); skip]) | split)); clear_value x) | clear_value x | skip)
    | with_reducible assumption | ((conv => (arg 3; arg 24; skip)); ((with_reducible apply Changes.boot_with) <;> [rfl; skip])) | ((with_reducible apply Changes.foldl) <;> [(intro _ _ _); skip])
    | split)

theorem State.whenLive_changes {ps : List Part} (s : State) (f : State → State) (s0 : State) (h : ∀ y0, Changes ps s0 y0 → Changes ps s0 (f y0)) (k : Changes ps s0 s) : Changes ps s0 (State.whenLive s f) := by
  unfold State.whenLive
  repeat' (first | with_reducible assumption | fail | ((with_reducible apply h)) | fail | intro x | split)

theorem State.whenPowered_changes {ps : List Part} (s : State) (f : State → State) (s0 : State) (h : ∀ y0, Changes ps s0 y0 → Changes ps s0 (f y0)) (k : Changes ps s0 s) : Changes ps s0 (State.whenPowered s f) := by
  unfold State.whenPowered
  repeat' (first | with_reducible assumption | fail | ((with_reducible apply h)) | fail | intro x | split)

theorem State.emits_changes (s : State) (os : List Output) :
    Changes [.out] s (State.emits s os) := by
  have h0 := Changes.refl [.out] s
  unfold State.emits
  repeat' (first | with_reducible assumption | ((conv => (arg 3; arg 24; skip)); ((with_reducible apply Changes.out_with) <;> [rfl; skip])) | ((with_reducible apply Changes.foldl) <;> [(intro _ _ _); skip]) | split)

theorem State.emit_changes (s : State) (o : Output) :
    Changes [.out] s (State.emit s o) := by
  have h0 := Changes.refl [.out] s
  unfold State.emit
  repeat' (first | with_reducible assumption | ((with_reducible apply Changes.step (State.emits_changes ..)) <;> [rfl; skip]) | ((with_reducible apply Changes.foldl) <;> [(intro _ _ _); skip]) | split)

theorem State.logs_changes (s : State) (evs : List Ev) :
    Changes [.evr] s (State.logs s evs) := by
  have h0 := Changes.refl [.evr] s
  unfold State.logs
  repeat' (first | with_reducible assumption | ((conv => (arg 3; arg 24; skip)); ((with_reducible apply Changes.evr_with) <;> [rfl; skip])) | ((with_reducible apply Changes.foldl) <;> [(intro _ _ _); skip]) | split)

theorem State.log_changes (s : State) (code : Nat) (src : Nat) (data : List Byte) :
    Changes [.evr] s (State.log s code src data) := by
  have h0 := Changes.refl [.evr] s
  unfold State.log
  repeat' (first | with_reducible assumption | ((with_reducible apply Changes.step (State.logs_changes ..)) <;> [rfl; skip]) | ((with_reducible apply Changes.foldl) <;> [(intro _ _ _); skip]) | split)

theorem State.ungate_changes (s : State) (sl : Nat) (unit : Nat) :
    Changes [.pws] s (State.ungate s sl unit) := by
  have h0 := Changes.refl [.pws] s
  unfold State.ungate
  repeat' (first | with_reducible assumption | ((conv => (arg 3; arg 24; skip)); ((with_reducible apply Changes.pws_with) <;> [rfl; skip])) | ((with_reducible apply Changes.foldl) <;> [(intro _ _ _); skip]) | split)

theorem State.setCtrl_changes (s : State) (p : Fin 2) (f : Ctrl → Ctrl) :
    Changes [.cmq] s (State.setCtrl s p f) := by
  have h0 := Changes.refl [.cmq] s
  unfold State.setCtrl
  repeat' (first | with_reducible assumption | ((conv => (arg 3; arg 24; skip)); ((with_reducible apply Changes.cmq_with) <;> [rfl; skip])) | ((with_reducible apply Changes.foldl) <;> [(intro _ _ _); skip]) | split)

theorem State.setPort_changes (s : State) (p : Fin 2) (f : PcPort → PcPort) :
    Changes [.ports] s (State.setPort s p f) := by
  have h0 := Changes.refl [.ports] s
  unfold State.setPort
  repeat' (first | with_reducible assumption | ((conv => (arg 3; arg 24; skip)); ((with_reducible apply Changes.ports_with) <;> [rfl; skip])) | ((with_reducible apply Changes.foldl) <;> [(intro _ _ _); skip]) | split)

theorem State.post_changes (s : State) (p : Fin 2) (fseq : Nat) (sqid : Nat) (cid : Nat) (st : Status) (dw0 : Nat) :
    Changes [.cmq, .ports, .out] s (State.post s p fseq sqid cid st dw0) := by
  have h0 := Changes.refl [.cmq, .ports, .out] s
  unfold State.post
  repeat' (first
    | ((first | intro x | (lift_lets; intro x)); first | (guard_hyp x : State := _; have hx : Changes [.cmq, .ports, .out] s x := (by unfold x; repeat' (first | with_reducible assumption | ((with_reducible apply Changes.step (State.emits_changes ..)) <;> [rfl; skip]) | ((with_reducible apply Changes.step (State.setCtrl_changes ..)) <;> [rfl; skip]) | ((with_reducible apply Changes.step (State.setPort_changes ..)) <;> [rfl; skip]) | ((with_reducible apply Changes.foldl) <;> [(intro _ _ _); skip]) | split)); clear_value x) | clear_value x | skip)
    | with_reducible assumption | ((with_reducible apply Changes.step (State.emits_changes ..)) <;> [rfl; skip]) | ((with_reducible apply Changes.step (State.setCtrl_changes ..)) <;> [rfl; skip]) | ((with_reducible apply Changes.step (State.setPort_changes ..)) <;> [rfl; skip]) | ((with_reducible apply Changes.foldl) <;> [(intro _ _ _); skip])
    | split)

theorem State.dropLines_changes (s : State) (ns : List Nat) :
    Changes [.land, .media] s (State.dropLines s ns) := by
  have h0 := Changes.refl [.land, .media] s
  unfold State.dropLines
  repeat' (first
    | ((first | intro x | (lift_lets; intro x)); first | (guard_hyp x : State := _; have hx : Changes [.land, .media] s x := (by unfold x; repeat' (first | with_reducible assumption | ((conv => (arg 3; arg 24; skip)); ((with_reducible apply Changes.land_media_with) <;> [rfl; rfl; skip])) | ((with_reducible apply Changes.foldl) <;> [(intro _ _ _); skip]) | split)); clear_value x) | clear_value x | skip)
    | with_reducible assumption | ((conv => (arg 3; arg 24; skip)); ((with_reducible apply Changes.land_media_with) <;> [rfl; rfl; skip])) | ((with_reducible apply Changes.foldl) <;> [(intro _ _ _); skip])
    | split)

theorem State.endCmd_changes (s : State) (fseq : Nat) :
    Changes [.cmq, .land, .media] s (State.endCmd s fseq) := by
  have h0 := Changes.refl [.cmq, .land, .media] s
  unfold State.endCmd
  repeat' (first
    | ((first | intro x | (lift_lets; intro x)); first | (guard_hyp x : State := _; have hx : Changes [.cmq, .land, .media] s x := (by unfold x; repeat' (first | with_reducible assumption | ((conv => (arg 3; arg 24; skip)); ((with_reducible apply Changes.cmq_land_with) <;> [rfl; rfl; skip])) | ((with_reducible apply Changes.step (State.dropLines_changes ..)) <;> [rfl; skip]) | ((with_reducible apply Changes.foldl) <;> [(intro _ _ _); skip]) | split)); clear_value x) | clear_value x | skip)
    | with_reducible assumption | ((conv => (arg 3; arg 24; skip)); ((with_reducible apply Changes.cmq_land_with) <;> [rfl; rfl; skip])) | ((with_reducible apply Changes.step (State.dropLines_changes ..)) <;> [rfl; skip]) | ((with_reducible apply Changes.foldl) <;> [(intro _ _ _); skip])
    | split)

theorem State.tryReady_changes (s : State) (p : Fin 2) :
    Changes [.cmq] s (State.tryReady s p) := by
  have h0 := Changes.refl [.cmq] s
  unfold State.tryReady
  repeat' (first | with_reducible assumption | ((with_reducible apply Changes.step (State.setCtrl_changes ..)) <;> [rfl; skip]) | ((with_reducible apply Changes.foldl) <;> [(intro _ _ _); skip]) | split)

theorem State.complete_changes (s : State) (fseq : Nat) (st : Status) (dw0 : Nat) (lba : Nat) :
    Changes [.cmq, .land, .media, .ports, .out] s (State.complete s fseq st dw0 lba) := by
  have h0 := Changes.refl [.cmq, .land, .media, .ports, .out] s
  unfold State.complete
  repeat' (first
    | ((first | intro x | (lift_lets; intro x)); first | (guard_hyp x : State := _; have hx : Changes [.cmq, .land, .media, .ports, .out] s x := (by unfold x; repeat' (first | with_reducible assumption | ((with_reducible apply Changes.step (State.endCmd_changes ..)) <;> [rfl; skip]) | ((with_reducible apply Changes.step (State.post_changes ..)) <;> [rfl; skip]) | ((with_reducible apply Changes.step (State.setCtrl_changes ..)) <;> [rfl; skip]) | ((with_reducible apply Changes.step (State.tryReady_changes ..)) <;> [rfl; skip]) | ((with_reducible apply Changes.foldl) <;> [(intro _ _ _); skip]) | split)); clear_value x) | clear_value x | skip)
    | with_reducible assumption | ((with_reducible apply Changes.step (State.endCmd_changes ..)) <;> [rfl; skip]) | ((with_reducible apply Changes.step (State.post_changes ..)) <;> [rfl; skip]) | ((with_reducible apply Changes.step (State.setCtrl_changes ..)) <;> [rfl; skip]) | ((with_reducible apply Changes.step (State.tryReady_changes ..)) <;> [rfl; skip]) | ((with_reducible apply Changes.foldl) <;> [(intro _ _ _); skip])
    | split)

theorem State.setCmd_changes (s : State) (fseq : Nat) (f : Cmd → Cmd) :
    Changes [.cmq] s (State.setCmd s fseq f) := by
  have h0 := Changes.refl [.cmq] s
  unfold State.setCmd
  repeat' (first | with_reducible assumption | ((conv => (arg 3; arg 24; skip)); ((with_reducible apply Changes.cmq_with) <;> [rfl; skip])) | ((with_reducible apply Changes.foldl) <;> [(intro _ _ _); skip]) | split)

theorem State.haltLent_changes (s : State) (p : Fin 2) :
    Changes [.evr, .sdm] s (State.haltLent s p) := by
  have h0 := Changes.refl [.evr, .sdm] s
  unfold State.haltLent
  repeat' (first
    | ((first | intro x | (lift_lets; intro x)); first | (guard_hyp x : State := _; have hx : Changes [.evr, .sdm] s x := (by unfold x; repeat' (first | with_reducible assumption | ((conv => (arg 3; arg 24; skip)); ((with_reducible apply Changes.sdm_with) <;> [rfl; skip])) | ((with_reducible apply Changes.step (State.log_changes ..)) <;> [rfl; skip]) | ((with_reducible apply Changes.foldl) <;> [(intro _ _ _); skip]) | split)); clear_value x) | clear_value x | skip)
    | with_reducible assumption | ((conv => (arg 3; arg 24; skip)); ((with_reducible apply Changes.sdm_with) <;> [rfl; skip])) | ((with_reducible apply Changes.step (State.log_changes ..)) <;> [rfl; skip]) | ((with_reducible apply Changes.foldl) <;> [(intro _ _ _); skip])
    | split)

theorem State.abandonFerry_changes (s : State) :
    Changes [.evr, .cmq, .bst, .boot] s (State.abandonFerry s) := by
  have h0 := Changes.refl [.evr, .cmq, .bst, .boot] s
  unfold State.abandonFerry
  repeat' (first
    | ((first | intro x | (lift_lets; intro x)); first | (guard_hyp x : State := _; have hx : Changes [.evr, .cmq, .bst, .boot] s x := (by unfold x; repeat' (first | with_reducible assumption | ((conv => (arg 3; arg 24; skip)); ((with_reducible apply Changes.cmq_boot_with) <;> [rfl; rfl; skip])) | ((with_reducible apply Changes.step (State.log_changes ..)) <;> [rfl; skip]) | ((with_reducible apply Changes.step (State.record_changes ..)) <;> [rfl; skip]) | ((with_reducible apply Changes.foldl) <;> [(intro _ _ _); skip]) | split)); clear_value x) | clear_value x | skip)
    | with_reducible assumption | ((conv => (arg 3; arg 24; skip)); ((with_reducible apply Changes.cmq_boot_with) <;> [rfl; rfl; skip])) | ((with_reducible apply Changes.step (State.log_changes ..)) <;> [rfl; skip]) | ((with_reducible apply Changes.step (State.record_changes ..)) <;> [rfl; skip]) | ((with_reducible apply Changes.foldl) <;> [(intro _ _ _); skip])
    | split)

theorem State.ferryMeets_changes (s : State) (p : Fin 2) :
    Changes [.evr, .cmq, .bst, .boot] s (State.ferryMeets s p) := by
  have h0 := Changes.refl [.evr, .cmq, .bst, .boot] s
  unfold State.ferryMeets
  repeat' (first
    | ((first | intro x | (lift_lets; intro x)); first | (guard_hyp x : State := _; have hx : Changes [.evr, .cmq, .bst, .boot] s x := (by unfold x; repeat' (first | with_reducible assumption | ((conv => (arg 3; arg 24; skip)); ((with_reducible apply Changes.boot_with) <;> [rfl; skip])) | ((with_reducible apply Changes.step (State.abandonFerry_changes ..)) <;> [rfl; skip]) | ((with_reducible apply Changes.foldl) <;> [(intro _ _ _); skip]) | split)); clear_value x) | clear_value x | skip)
    | with_reducible assumption | ((conv => (arg 3; arg 24; skip)); ((with_reducible apply Changes.boot_with) <;> [rfl; skip])) | ((with_reducible apply Changes.step (State.abandonFerry_changes ..)) <;> [rfl; skip]) | ((with_reducible apply Changes.foldl) <;> [(intro _ _ _); skip])
    | split)

theorem State.containSays_changes (s : State) (p : Fin 2) (trig : Fin 8) :
    Changes [.ports, .out] s (State.containSays s p trig) := by
  have h0 := Changes.refl [.ports, .out] s
  unfold State.containSays
  repeat' (first
    | ((first | intro x | (lift_lets; intro x)); first | (guard_hyp x : State := _; have hx : Changes [.ports, .out] s x := (by unfold x; repeat' (first | with_reducible assumption | ((with_reducible apply Changes.step (State.emit_changes ..)) <;> [rfl; skip]) | ((with_reducible apply Changes.step (State.setPort_changes ..)) <;> [rfl; skip]) | ((with_reducible apply Changes.foldl) <;> [(intro _ _ _); skip]) | split)); clear_value x) | clear_value x | skip)
    | with_reducible assumption | ((with_reducible apply Changes.step (State.emit_changes ..)) <;> [rfl; skip]) | ((with_reducible apply Changes.step (State.setPort_changes ..)) <;> [rfl; skip]) | ((with_reducible apply Changes.foldl) <;> [(intro _ _ _); skip])
    | split)

theorem State.contain_changes (s : State) (p : Fin 2) (trig : Fin 8) :
    Changes [.evr, .cmq, .land, .media, .ports, .sdm, .bst, .boot, .out] s (State.contain s p trig) := by
  have h0 := Changes.refl [.evr, .cmq, .land, .media, .ports, .sdm, .bst, .boot, .out] s
  unfold State.contain
  repeat' (first
    | ((first | intro x | (lift_lets; intro x)); first | (guard_hyp x : State := _; have hx : Changes [.evr, .cmq, .land, .media, .ports, .sdm, .bst, .boot, .out] s x := (by unfold x; repeat' (first | with_reducible assumption | ((with_reducible apply Changes.step (State.containSays_changes ..)) <;> [rfl; skip]) | ((with_reducible apply Changes.step (State.endCmd_changes ..)) <;> [rfl; skip]) | ((with_reducible apply Changes.step (State.ferryMeets_changes ..)) <;> [rfl; skip]) | ((with_reducible apply Changes.step (State.haltLent_changes ..)) <;> [rfl; skip]) | ((with_reducible apply Changes.step (State.log_changes ..)) <;> [rfl; skip]) | ((with_reducible apply Changes.step (State.setPort_changes ..)) <;> [rfl; skip]) | ((with_reducible apply Changes.foldl) <;> [(intro _ _ _); skip]) | split)); clear_value x) | clear_value x | skip)
    | with_reducible assumption | ((with_reducible apply Changes.step (State.containSays_changes ..)) <;> [rfl; skip]) | ((with_reducible apply Changes.step (State.endCmd_changes ..)) <;> [rfl; skip]) | ((with_reducible apply Changes.step (State.ferryMeets_changes ..)) <;> [rfl; skip]) | ((with_reducible apply Changes.step (State.haltLent_changes ..)) <;> [rfl; skip]) | ((with_reducible apply Changes.step (State.log_changes ..)) <;> [rfl; skip]) | ((with_reducible apply Changes.step (State.setPort_changes ..)) <;> [rfl; skip]) | ((with_reducible apply Changes.foldl) <;> [(intro _ _ _); skip])
    | split)

theorem State.fatal_changes (s : State) (ps : List (Fin 2)) :
    Changes [.evr, .cmq, .land, .media, .ports, .sdm, .bst, .boot, .out] s (State.fatal s ps) := by
  have h0 := Changes.refl [.evr, .cmq, .land, .media, .ports, .sdm, .bst, .boot, .out] s
  unfold State.fatal
  repeat' (first | with_reducible assumption | ((with_reducible apply Changes.step (State.contain_changes ..)) <;> [rfl; skip]) | ((with_reducible apply Changes.step (State.setCtrl_changes ..)) <;> [rfl; skip]) | ((with_reducible apply Changes.foldl) <;> [(intro _ _ _); skip]) | split)

theorem State.eraseKeys_changes (s : State) :
    Changes [.land, .media, .ports, .vault, .sec] s (State.eraseKeys s) := by
  have h0 := Changes.refl [.land, .media, .ports, .vault, .sec] s
  unfold State.eraseKeys
  repeat' (first
    | ((first | intro x | (lift_lets; intro x)); first | (guard_hyp x : State := _; have hx : Changes [.land, .media, .ports, .vault, .sec] s x := (by unfold x; repeat' (first | with_reducible assumption | ((conv => (arg 3; arg 24; skip)); ((with_reducible apply Changes.media_ports_vault_sec_with) <;> [rfl; rfl; rfl; rfl; skip])) | ((with_reducible apply Changes.step (State.dropLines_changes ..)) <;> [rfl; skip]) | ((with_reducible apply Changes.foldl) <;> [(intro _ _ _); skip]) | split)); clear_value x) | clear_value x | skip)
    | with_reducible assumption | ((conv => (arg 3; arg 24; skip)); ((with_reducible apply Changes.media_ports_vault_sec_with) <;> [rfl; rfl; rfl; rfl; skip])) | ((with_reducible apply Changes.step (State.dropLines_changes ..)) <;> [rfl; skip]) | ((with_reducible apply Changes.foldl) <;> [(intro _ _ _); skip])
    | split)

theorem State.setMedia_changes (s : State) (f : Media → Media) :
    Changes [.media] s (State.setMedia s f) := by
  have h0 := Changes.refl [.media] s
  unfold State.setMedia
  repeat' (first | with_reducible assumption | ((conv => (arg 3; arg 24; skip)); ((with_reducible apply Changes.media_with) <;> [rfl; skip])) | ((with_reducible apply Changes.foldl) <;> [(intro _ _ _); skip]) | split)

theorem State.setDie_changes (s : State) (d : Nat) (f : DieSt → DieSt) :
    Changes [.media] s (State.setDie s d f) := by
  have h0 := Changes.refl [.media] s
  unfold State.setDie
  repeat' (first | with_reducible assumption | ((with_reducible apply Changes.step (State.setMedia_changes ..)) <;> [rfl; skip]) | ((with_reducible apply Changes.foldl) <;> [(intro _ _ _); skip]) | split)

theorem State.setFch_changes (s : State) (c : Fin 64) (f : Fch → Fch) :
    Changes [.media] s (State.setFch s c f) := by
  have h0 := Changes.refl [.media] s
  unfold State.setFch
  repeat' (first | with_reducible assumption | ((with_reducible apply Changes.step (State.setMedia_changes ..)) <;> [rfl; skip]) | ((with_reducible apply Changes.foldl) <;> [(intro _ _ _); skip]) | split)

theorem State.busGo_changes (s : State) (c : Fin 64) :
    Changes [.media, .out] s (State.busGo s c) := by
  have h0 := Changes.refl [.media, .out] s
  unfold State.busGo
  repeat' (first
    | ((first | intro x | (lift_lets; intro x)); first | (guard_hyp x : State := _; have hx : Changes [.media, .out] s x := (by unfold x; repeat' (first | with_reducible assumption | ((with_reducible apply Changes.step (State.emits_changes ..)) <;> [rfl; skip]) | ((with_reducible apply Changes.step (State.setFch_changes ..)) <;> [rfl; skip]) | ((with_reducible apply Changes.foldl) <;> [(intro _ _ _); skip]) | split)); clear_value x) | clear_value x | skip)
    | with_reducible assumption | ((with_reducible apply Changes.step (State.emits_changes ..)) <;> [rfl; skip]) | ((with_reducible apply Changes.step (State.setFch_changes ..)) <;> [rfl; skip]) | ((with_reducible apply Changes.foldl) <;> [(intro _ _ _); skip])
    | split)

theorem State.transfer_changes (s : State) (d : Nat) (xs : List Xfer) :
    Changes [.media, .out] s (State.transfer s d xs) := by
  have h0 := Changes.refl [.media, .out] s
  unfold State.transfer
  repeat' (first | with_reducible assumption | ((with_reducible apply Changes.step (State.busGo_changes ..)) <;> [rfl; skip]) | ((with_reducible apply Changes.step (State.setFch_changes ..)) <;> [rfl; skip]) | ((with_reducible apply Changes.foldl) <;> [(intro _ _ _); skip]) | split)

theorem State.busTick_changes (s : State) (n : Nat) (c : Fin 64) :
    Changes [.media, .out] s (State.busTick s n c) := by
  have h0 := Changes.refl [.media, .out] s
  unfold State.busTick
  repeat' (first | with_reducible assumption | ((with_reducible apply Changes.step (State.busGo_changes ..)) <;> [rfl; skip]) | ((with_reducible apply Changes.step (State.setFch_changes ..)) <;> [rfl; skip]) | ((with_reducible apply Changes.foldl) <;> [(intro _ _ _); skip]) | split)

theorem State.busPast_changes (s : State) (d : Nat) :
    Changes [.media, .out] s (State.busPast s d) := by
  have h0 := Changes.refl [.media, .out] s
  unfold State.busPast
  repeat' (first
    | ((first | intro x | (lift_lets; intro x)); first | (guard_hyp x : State := _; have hx : Changes [.media, .out] s x := (by unfold x; repeat' (first | with_reducible assumption | ((with_reducible apply Changes.step (State.busGo_changes ..)) <;> [rfl; skip]) | ((with_reducible apply Changes.step (State.emits_changes ..)) <;> [rfl; skip]) | ((with_reducible apply Changes.step (State.setFch_changes ..)) <;> [rfl; skip]) | ((with_reducible apply Changes.foldl) <;> [(intro _ _ _); skip]) | split)); clear_value x) | clear_value x | skip)
    | with_reducible assumption | ((with_reducible apply Changes.step (State.busGo_changes ..)) <;> [rfl; skip]) | ((with_reducible apply Changes.step (State.emits_changes ..)) <;> [rfl; skip]) | ((with_reducible apply Changes.step (State.setFch_changes ..)) <;> [rfl; skip]) | ((with_reducible apply Changes.foldl) <;> [(intro _ _ _); skip])
    | split)

theorem State.busDrop_changes (s : State) (c : Fin 64) (gone : Nat → Bool) :
    Changes [.media, .out] s (State.busDrop s c gone) := by
  have h0 := Changes.refl [.media, .out] s
  unfold State.busDrop
  repeat' (first | with_reducible assumption | ((with_reducible apply Changes.step (State.busGo_changes ..)) <;> [rfl; skip]) | ((with_reducible apply Changes.step (State.setFch_changes ..)) <;> [rfl; skip]) | ((with_reducible apply Changes.foldl) <;> [(intro _ _ _); skip]) | split)

theorem State.issueRead_changes (s : State) (d : Nat) (prio : Nat) (rid : Nat) (k : Nat) (inWindow : Bool) :
    Changes [.media, .out] s (State.issueRead s d prio rid k inWindow) := by
  have h0 := Changes.refl [.media, .out] s
  unfold State.issueRead
  repeat' (first
    | ((first | intro x | (lift_lets; intro x)); first | (guard_hyp x : State := _; have hx : Changes [.media, .out] s x := (by unfold x; repeat' (first | with_reducible assumption | ((with_reducible apply Changes.step (State.setDie_changes ..)) <;> [rfl; skip]) | ((with_reducible apply Changes.step (State.setMedia_changes ..)) <;> [rfl; skip]) | ((with_reducible apply Changes.step (State.transfer_changes ..)) <;> [rfl; skip]) | ((with_reducible apply Changes.foldl) <;> [(intro _ _ _); skip]) | split)); clear_value x) | clear_value x | skip)
    | with_reducible assumption | ((with_reducible apply Changes.step (State.setDie_changes ..)) <;> [rfl; skip]) | ((with_reducible apply Changes.step (State.setMedia_changes ..)) <;> [rfl; skip]) | ((with_reducible apply Changes.step (State.transfer_changes ..)) <;> [rfl; skip]) | ((with_reducible apply Changes.foldl) <;> [(intro _ _ _); skip])
    | split)

theorem State.issueOp_changes (s : State) (d : Nat) (o : QOp) :
    Changes [.media, .out] s (State.issueOp s d o) := by
  have h0 := Changes.refl [.media, .out] s
  unfold State.issueOp
  repeat' (first | with_reducible assumption | ((with_reducible apply Changes.step (State.issueRead_changes ..)) <;> [rfl; skip]) | ((with_reducible apply Changes.step (State.setDie_changes ..)) <;> [rfl; skip]) | ((with_reducible apply Changes.step (State.transfer_changes ..)) <;> [rfl; skip]) | ((with_reducible apply Changes.foldl) <;> [(intro _ _ _); skip]) | split)

theorem State.resumeDie_changes (s : State) (d : Nat) :
    Changes [.media, .out] s (State.resumeDie s d) := by
  have h0 := Changes.refl [.media, .out] s
  unfold State.resumeDie
  repeat' (first
    | ((first | intro x | (lift_lets; intro x)); first | (guard_hyp x : State := _; have hx : Changes [.media, .out] s x := (by unfold x; repeat' (first | with_reducible assumption | ((with_reducible apply Changes.step (State.setDie_changes ..)) <;> [rfl; skip]) | ((with_reducible apply Changes.step (State.transfer_changes ..)) <;> [rfl; skip]) | ((with_reducible apply Changes.foldl) <;> [(intro _ _ _); skip]) | split)); clear_value x) | clear_value x | skip)
    | with_reducible assumption | ((with_reducible apply Changes.step (State.setDie_changes ..)) <;> [rfl; skip]) | ((with_reducible apply Changes.step (State.transfer_changes ..)) <;> [rfl; skip]) | ((with_reducible apply Changes.foldl) <;> [(intro _ _ _); skip])
    | split)

theorem State.readWaited_changes (s : State) (d : Nat) :
    Changes [.media] s (State.readWaited s d) := by
  have h0 := Changes.refl [.media] s
  unfold State.readWaited
  repeat' (first
    | ((first | intro x | (lift_lets; intro x)); first | (guard_hyp x : State := _; have hx : Changes [.media] s x := (by unfold x; repeat' (first | with_reducible assumption | ((with_reducible apply Changes.step (State.setDie_changes ..)) <;> [rfl; skip]) | ((with_reducible apply Changes.step (State.setFch_changes ..)) <;> [rfl; skip]) | ((with_reducible apply Changes.foldl) <;> [(intro _ _ _); skip]) | split)); clear_value x) | clear_value x | skip)
    | with_reducible assumption | ((with_reducible apply Changes.step (State.setDie_changes ..)) <;> [rfl; skip]) | ((with_reducible apply Changes.step (State.setFch_changes ..)) <;> [rfl; skip]) | ((with_reducible apply Changes.foldl) <;> [(intro _ _ _); skip])
    | split)

theorem State.pumpWindow_changes (s : State) (d : Nat) (n : Nat) (out : List (Nat × Nat)) (passed : Bool) :
    Changes [.media, .out] s (State.pumpWindow s d n out passed) := by
  have h0 := Changes.refl [.media, .out] s
  unfold State.pumpWindow
  repeat' (first
    | ((first | intro x | (lift_lets; intro x)); first | (guard_hyp x : State := _; have hx : Changes [.media, .out] s x := (by unfold x; repeat' (first | with_reducible assumption | ((with_reducible apply Changes.step (State.issueRead_changes ..)) <;> [rfl; skip]) | ((with_reducible apply Changes.step (State.resumeDie_changes ..)) <;> [rfl; skip]) | ((with_reducible apply Changes.foldl) <;> [(intro _ _ _); skip]) | split)); clear_value x) | clear_value x | skip)
    | with_reducible assumption | ((with_reducible apply Changes.step (State.issueRead_changes ..)) <;> [rfl; skip]) | ((with_reducible apply Changes.step (State.resumeDie_changes ..)) <;> [rfl; skip]) | ((with_reducible apply Changes.foldl) <;> [(intro _ _ _); skip])
    | split)

theorem State.pumpIdle_changes (s : State) (d : Nat) :
    Changes [.media, .out] s (State.pumpIdle s d) := by
  have h0 := Changes.refl [.media, .out] s
  unfold State.pumpIdle
  repeat' (first
    | ((first | intro x | (lift_lets; intro x)); first | (guard_hyp x : State := _; have hx : Changes [.media, .out] s x := (by unfold x; repeat' (first | with_reducible assumption | ((with_reducible apply Changes.step (State.issueOp_changes ..)) <;> [rfl; skip]) | ((with_reducible apply Changes.step (State.issueRead_changes ..)) <;> [rfl; skip]) | ((with_reducible apply Changes.foldl) <;> [(intro _ _ _); skip]) | split)); clear_value x) | clear_value x | skip)
    | with_reducible assumption | ((with_reducible apply Changes.step (State.issueOp_changes ..)) <;> [rfl; skip]) | ((with_reducible apply Changes.step (State.issueRead_changes ..)) <;> [rfl; skip]) | ((with_reducible apply Changes.foldl) <;> [(intro _ _ _); skip])
    | split)

theorem State.pumpBusy_changes (s : State) (d : Nat) :
    Changes [.media, .out] s (State.pumpBusy s d) := by
  have h0 := Changes.refl [.media, .out] s
  unfold State.pumpBusy
  repeat' (first
    | ((first | intro x | (lift_lets; intro x)); first | (guard_hyp x : State := _; have hx : Changes [.media, .out] s x := (by unfold x; repeat' (first | with_reducible assumption | ((with_reducible apply Changes.step (State.setDie_changes ..)) <;> [rfl; skip]) | ((with_reducible apply Changes.step (State.transfer_changes ..)) <;> [rfl; skip]) | ((with_reducible apply Changes.foldl) <;> [(intro _ _ _); skip]) | split)); clear_value x) | clear_value x | skip)
    | with_reducible assumption | ((with_reducible apply Changes.step (State.setDie_changes ..)) <;> [rfl; skip]) | ((with_reducible apply Changes.step (State.transfer_changes ..)) <;> [rfl; skip]) | ((with_reducible apply Changes.foldl) <;> [(intro _ _ _); skip])
    | split)

theorem State.pump_changes (s : State) (d : Nat) :
    Changes [.media, .out] s (State.pump s d) := by
  have h0 := Changes.refl [.media, .out] s
  unfold State.pump
  repeat' (first
    | ((first | intro x | (lift_lets; intro x)); first | (guard_hyp x : State := _; have hx : Changes [.media, .out] s x := (by unfold x; repeat' (first | with_reducible assumption | ((with_reducible apply Changes.step (State.pumpBusy_changes ..)) <;> [rfl; skip]) | ((with_reducible apply Changes.step (State.pumpIdle_changes ..)) <;> [rfl; skip]) | ((with_reducible apply Changes.step (State.pumpWindow_changes ..)) <;> [rfl; skip]) | ((with_reducible apply Changes.foldl) <;> [(intro _ _ _); skip]) | split)); clear_value x) | clear_value x | skip)
    | with_reducible assumption | ((with_reducible apply Changes.step (State.pumpBusy_changes ..)) <;> [rfl; skip]) | ((with_reducible apply Changes.step (State.pumpIdle_changes ..)) <;> [rfl; skip]) | ((with_reducible apply Changes.step (State.pumpWindow_changes ..)) <;> [rfl; skip]) | ((with_reducible apply Changes.foldl) <;> [(intro _ _ _); skip])
    | split)

theorem State.enqueue_changes (s : State) (d : Nat) (o : QOp) :
    Changes [.media, .out] s (State.enqueue s d o) := by
  have h0 := Changes.refl [.media, .out] s
  unfold State.enqueue
  repeat' (first | with_reducible assumption | ((with_reducible apply Changes.step (State.pump_changes ..)) <;> [rfl; skip]) | ((with_reducible apply Changes.step (State.setDie_changes ..)) <;> [rfl; skip]) | ((with_reducible apply Changes.foldl) <;> [(intro _ _ _); skip]) | split)

theorem State.pumpChannel_changes (s : State) (c : Fin 64) :
    Changes [.media, .out] s (State.pumpChannel s c) := by
  have h0 := Changes.refl [.media, .out] s
  unfold State.pumpChannel
  repeat' (first | with_reducible assumption | ((with_reducible apply Changes.step (State.pump_changes ..)) <;> [rfl; skip]) | ((with_reducible apply Changes.foldl) <;> [(intro _ _ _); skip]) | split)

theorem State.dieIdle_changes (s : State) (d : Nat) :
    Changes [.media, .out] s (State.dieIdle s d) := by
  have h0 := Changes.refl [.media, .out] s
  unfold State.dieIdle
  repeat' (first | with_reducible assumption | ((with_reducible apply Changes.step (State.pumpChannel_changes ..)) <;> [rfl; skip]) | ((with_reducible apply Changes.step (State.readWaited_changes ..)) <;> [rfl; skip]) | ((with_reducible apply Changes.step (State.setDie_changes ..)) <;> [rfl; skip]) | ((with_reducible apply Changes.foldl) <;> [(intro _ _ _); skip]) | split)

theorem State.queueErase_changes (s : State) (d : Nat) (b : Nat) :
    Changes [.media, .out] s (State.queueErase s d b) := by
  have h0 := Changes.refl [.media, .out] s
  unfold State.queueErase
  repeat' (first
    | ((first | intro x | (lift_lets; intro x)); first | (guard_hyp x : State := _; have hx : Changes [.media, .out] s x := (by unfold x; repeat' (first | with_reducible assumption | ((with_reducible apply Changes.step (State.enqueue_changes ..)) <;> [rfl; skip]) | ((with_reducible apply Changes.foldl) <;> [(intro _ _ _); skip]) | split)); clear_value x) | clear_value x | skip)
    | with_reducible assumption | ((with_reducible apply Changes.step (State.enqueue_changes ..)) <;> [rfl; skip]) | ((with_reducible apply Changes.foldl) <;> [(intro _ _ _); skip])
    | split)

theorem State.keepFour_changes (s : State) (d : Nat) (free : Nat) (bs : List Nat) :
    Changes [.media, .out] s (State.keepFour s d free bs) := by
  have h0 := Changes.refl [.media, .out] s
  unfold State.keepFour
  repeat' (first | with_reducible assumption | ((with_reducible apply Changes.step (State.queueErase_changes ..)) <;> [rfl; skip]) | ((with_reducible apply Changes.foldl) <;> [(intro _ _ _); skip]) | split)

theorem State.keepErased_changes (s : State) (d : Nat) :
    Changes [.media, .out] s (State.keepErased s d) := by
  have h0 := Changes.refl [.media, .out] s
  unfold State.keepErased
  repeat' (first
    | ((first | intro x | (lift_lets; intro x)); first | (guard_hyp x : State := _; have hx : Changes [.media, .out] s x := (by unfold x; repeat' (first | with_reducible assumption | ((with_reducible apply Changes.step (State.keepFour_changes ..)) <;> [rfl; skip]) | ((with_reducible apply Changes.foldl) <;> [(intro _ _ _); skip]) | split)); clear_value x) | clear_value x | skip)
    | with_reducible assumption | ((with_reducible apply Changes.step (State.keepFour_changes ..)) <;> [rfl; skip]) | ((with_reducible apply Changes.foldl) <;> [(intro _ _ _); skip])
    | split)

theorem State.setNs_changes (s : State) (ns : Nat) (f : Namespace → Namespace) :
    Changes [.media] s (State.setNs s ns f) := by
  have h0 := Changes.refl [.media] s
  unfold State.setNs
  repeat' (first | with_reducible assumption | ((with_reducible apply Changes.step (State.setMedia_changes ..)) <;> [rfl; skip]) | ((with_reducible apply Changes.foldl) <;> [(intro _ _ _); skip]) | split)

theorem State.setZone_changes (s : State) (ns : Nat) (z : Nat) (f : Zone → Zone) :
    Changes [.media] s (State.setZone s ns z f) := by
  have h0 := Changes.refl [.media] s
  unfold State.setZone
  repeat' (first | with_reducible assumption | ((with_reducible apply Changes.step (State.setNs_changes ..)) <;> [rfl; skip]) | ((with_reducible apply Changes.foldl) <;> [(intro _ _ _); skip]) | split)

theorem State.checkWear_changes (s : State) :
    Changes [.evr, .media] s (State.checkWear s) := by
  have h0 := Changes.refl [.evr, .media] s
  unfold State.checkWear
  repeat' (first | with_reducible assumption | ((with_reducible apply Changes.step (State.log_changes ..)) <;> [rfl; skip]) | ((with_reducible apply Changes.step (State.setMedia_changes ..)) <;> [rfl; skip]) | ((with_reducible apply Changes.foldl) <;> [(intro _ _ _); skip]) | split)

theorem State.tryComplete_changes (s : State) (fseq : Nat) :
    Changes [.cmq, .land, .media, .ports, .out] s (State.tryComplete s fseq) := by
  have h0 := Changes.refl [.cmq, .land, .media, .ports, .out] s
  unfold State.tryComplete
  repeat' (first | with_reducible assumption | ((with_reducible apply Changes.step (State.complete_changes ..)) <;> [rfl; skip]) | ((with_reducible apply Changes.foldl) <;> [(intro _ _ _); skip]) | split)

theorem State.freeLines_changes (s : State) (ns : List Nat) :
    Changes [.cmq, .land, .media, .ports, .out] s (State.freeLines s ns) := by
  have h0 := Changes.refl [.cmq, .land, .media, .ports, .out] s
  unfold State.freeLines
  repeat' (first
    | ((first | intro x | (lift_lets; intro x)); first | (guard_hyp x : State := _; have hx : Changes [.cmq, .land, .media, .ports, .out] s x := (by unfold x; repeat' (first | with_reducible assumption | ((conv => (arg 3; arg 24; skip)); ((with_reducible apply Changes.cmq_with) <;> [rfl; skip])) | ((with_reducible apply Changes.step (State.dropLines_changes ..)) <;> [rfl; skip]) | ((with_reducible apply Changes.step (State.tryComplete_changes ..)) <;> [rfl; skip]) | ((with_reducible apply Changes.foldl) <;> [(intro _ _ _); skip]) | split)); clear_value x) | clear_value x | skip)
    | with_reducible assumption | ((conv => (arg 3; arg 24; skip)); ((with_reducible apply Changes.cmq_with) <;> [rfl; skip])) | ((with_reducible apply Changes.step (State.dropLines_changes ..)) <;> [rfl; skip]) | ((with_reducible apply Changes.step (State.tryComplete_changes ..)) <;> [rfl; skip]) | ((with_reducible apply Changes.foldl) <;> [(intro _ _ _); skip])
    | split)

theorem State.releaseLines_changes (s : State) (ns : List Nat) :
    Changes [.cmq, .land, .media, .ports, .out] s (State.releaseLines s ns) := by
  have h0 := Changes.refl [.cmq, .land, .media, .ports, .out] s
  unfold State.releaseLines
  repeat' (first
    | ((first | intro x | (lift_lets; intro x)); first | (guard_hyp x : State := _; have hx : Changes [.cmq, .land, .media, .ports, .out] s x := (by unfold x; repeat' (first | with_reducible assumption | ((conv => (arg 3; arg 24; skip)); ((with_reducible apply Changes.land_with) <;> [rfl; skip])) | ((with_reducible apply Changes.step (State.freeLines_changes ..)) <;> [rfl; skip]) | ((with_reducible apply Changes.foldl) <;> [(intro _ _ _); skip]) | split)); clear_value x) | clear_value x | skip)
    | with_reducible assumption | ((conv => (arg 3; arg 24; skip)); ((with_reducible apply Changes.land_with) <;> [rfl; skip])) | ((with_reducible apply Changes.step (State.freeLines_changes ..)) <;> [rfl; skip]) | ((with_reducible apply Changes.foldl) <;> [(intro _ _ _); skip])
    | split)

theorem State.queuePass_changes (s : State) (r : Nat) (row : Row) (t : Stripe) (pass : Nat) :
    Changes [.media, .out] s (State.queuePass s r row t pass) := by
  have h0 := Changes.refl [.media, .out] s
  unfold State.queuePass
  repeat' (first | with_reducible assumption | ((with_reducible apply Changes.step (State.enqueue_changes ..)) <;> [rfl; skip]) | ((with_reducible apply Changes.foldl) <;> [(intro _ _ _); skip]) | split)

theorem State.queueFine_changes (s : State) (r : Nat) :
    Changes [.media, .out] s (State.queueFine s r) := by
  have h0 := Changes.refl [.media, .out] s
  unfold State.queueFine
  repeat' (first | with_reducible assumption | ((with_reducible apply Changes.step (State.queuePass_changes ..)) <;> [rfl; skip]) | ((with_reducible apply Changes.step (State.setMedia_changes ..)) <;> [rfl; skip]) | ((with_reducible apply Changes.foldl) <;> [(intro _ _ _); skip]) | split)

theorem State.closeFull_changes (s : State) (r : Nat) :
    Changes [.media, .out] s (State.closeFull s r) := by
  have h0 := Changes.refl [.media, .out] s
  unfold State.closeFull
  repeat' (first
    | ((first | intro x | (lift_lets; intro x)); first | (guard_hyp x : State := _; have hx : Changes [.media, .out] s x := (by unfold x; repeat' (first | with_reducible assumption | ((with_reducible apply Changes.step (State.queueFine_changes ..)) <;> [rfl; skip]) | ((with_reducible apply Changes.step (State.queuePass_changes ..)) <;> [rfl; skip]) | ((with_reducible apply Changes.step (State.setMedia_changes ..)) <;> [rfl; skip]) | ((with_reducible apply Changes.foldl) <;> [(intro _ _ _); skip]) | split)); clear_value x) | clear_value x | skip)
    | with_reducible assumption | ((with_reducible apply Changes.step (State.queueFine_changes ..)) <;> [rfl; skip]) | ((with_reducible apply Changes.step (State.queuePass_changes ..)) <;> [rfl; skip]) | ((with_reducible apply Changes.step (State.setMedia_changes ..)) <;> [rfl; skip]) | ((with_reducible apply Changes.foldl) <;> [(intro _ _ _); skip])
    | split)

theorem State.ensureFinal_changes (s : State) (r : Nat) :
    Changes [.media, .out] s (State.ensureFinal s r) := by
  have h0 := Changes.refl [.media, .out] s
  unfold State.ensureFinal
  repeat' (first
    | ((first | intro x | (lift_lets; intro x)); first | (guard_hyp x : State := _; have hx : Changes [.media, .out] s x := (by unfold x; repeat' (first | with_reducible assumption | ((conv => (arg 3; arg 24; skip)); ((with_reducible apply Changes.media_with) <;> [rfl; skip])) | ((with_reducible apply Changes.step (State.closeFull_changes ..)) <;> [rfl; skip]) | ((with_reducible apply Changes.step (State.queueFine_changes ..)) <;> [rfl; skip]) | ((with_reducible apply Changes.step (State.setMedia_changes ..)) <;> [rfl; skip]) | ((with_reducible apply Changes.foldl) <;> [(intro _ _ _); skip]) | split)); clear_value x) | clear_value x | skip)
    | with_reducible assumption | ((conv => (arg 3; arg 24; skip)); ((with_reducible apply Changes.media_with) <;> [rfl; skip])) | ((with_reducible apply Changes.step (State.closeFull_changes ..)) <;> [rfl; skip]) | ((with_reducible apply Changes.step (State.queueFine_changes ..)) <;> [rfl; skip]) | ((with_reducible apply Changes.step (State.setMedia_changes ..)) <;> [rfl; skip]) | ((with_reducible apply Changes.foldl) <;> [(intro _ _ _); skip])
    | split)

theorem State.closeEarly_changes (s : State) (r : Nat) :
    Changes [.media, .out] s (State.closeEarly s r) := by
  have h0 := Changes.refl [.media, .out] s
  unfold State.closeEarly
  repeat' (first | with_reducible assumption | ((with_reducible apply Changes.step (State.closeFull_changes ..)) <;> [rfl; skip]) | ((with_reducible apply Changes.step (State.ensureFinal_changes ..)) <;> [rfl; skip]) | ((with_reducible apply Changes.step (State.setMedia_changes ..)) <;> [rfl; skip]) | ((with_reducible apply Changes.foldl) <;> [(intro _ _ _); skip]) | split)

theorem State.closeIfDue_changes (s : State) (r : Nat) :
    Changes [.media, .out] s (State.closeIfDue s r) := by
  have h0 := Changes.refl [.media, .out] s
  unfold State.closeIfDue
  repeat' (first | with_reducible assumption | ((with_reducible apply Changes.step (State.closeEarly_changes ..)) <;> [rfl; skip]) | ((with_reducible apply Changes.foldl) <;> [(intro _ _ _); skip]) | split)

theorem State.closeStripe_changes (s : State) (sid : Nat) :
    Changes [.media, .out] s (State.closeStripe s sid) := by
  have h0 := Changes.refl [.media, .out] s
  unfold State.closeStripe
  repeat' (first
    | ((first | intro x | (lift_lets; intro x)); first | (guard_hyp x : State := _; have hx : Changes [.media, .out] s x := (by unfold x; repeat' (first | with_reducible assumption | ((with_reducible apply Changes.step (State.closeEarly_changes ..)) <;> [rfl; skip]) | ((with_reducible apply Changes.step (State.ensureFinal_changes ..)) <;> [rfl; skip]) | ((with_reducible apply Changes.step (State.setMedia_changes ..)) <;> [rfl; skip]) | ((with_reducible apply Changes.foldl) <;> [(intro _ _ _); skip]) | split)); clear_value x) | clear_value x | skip)
    | with_reducible assumption | ((with_reducible apply Changes.step (State.closeEarly_changes ..)) <;> [rfl; skip]) | ((with_reducible apply Changes.step (State.ensureFinal_changes ..)) <;> [rfl; skip]) | ((with_reducible apply Changes.step (State.setMedia_changes ..)) <;> [rfl; skip]) | ((with_reducible apply Changes.foldl) <;> [(intro _ _ _); skip])
    | split)

theorem State.sendLines_changes (s : State) (r : Nat) (sl : Fin 8) (ls : List Nat) :
    Changes [.land, .media] s (State.sendLines s r sl ls) := by
  have h0 := Changes.refl [.land, .media] s
  unfold State.sendLines
  repeat' (first
    | ((first | intro x | (lift_lets; intro x)); first | (guard_hyp x : State := _; have hx : Changes [.land, .media] s x := (by unfold x; repeat' (first | with_reducible assumption | ((conv => (arg 3; arg 24; skip)); ((with_reducible apply Changes.land_with) <;> [rfl; skip])) | ((with_reducible apply Changes.step (State.setMedia_changes ..)) <;> [rfl; skip]) | ((with_reducible apply Changes.foldl) <;> [(intro _ _ _); skip]) | split)); clear_value x) | clear_value x | skip)
    | with_reducible assumption | ((conv => (arg 3; arg 24; skip)); ((with_reducible apply Changes.land_with) <;> [rfl; skip])) | ((with_reducible apply Changes.step (State.setMedia_changes ..)) <;> [rfl; skip]) | ((with_reducible apply Changes.foldl) <;> [(intro _ _ _); skip])
    | split)

theorem State.dispatch_changes (s : State) (st : Stream) (x0 : Nat) :
    Changes [.land, .media, .out] s (State.dispatch s st x0) := by
  have hstep : ∀ (n : Nat) (s : State), Changes [.land, .media, .out] s (State.dispatch s st n) := by
    intro n
    induction n with
    | zero => intro s; exact Changes.refl _ _
    | succ k ih =>
      intro s
      have h0 := Changes.refl [.land, .media, .out] s
      unfold State.dispatch
      repeat' (first | with_reducible assumption | with_reducible assumption | ((with_reducible apply Changes.step (State.closeFull_changes ..)) <;> [rfl; skip]) | ((with_reducible apply Changes.step (State.sendLines_changes ..)) <;> [rfl; skip]) | ((with_reducible apply Changes.step (State.setMedia_changes ..)) <;> [rfl; skip]) | ((with_reducible apply Changes.foldl) <;> [(intro _ _ _); skip]) | ((with_reducible apply Changes.step (ih _)) <;> [rfl; skip]) | split)
  exact hstep x0 s

theorem State.dispatchAll_changes (s : State) :
    Changes [.land, .media, .out] s (State.dispatchAll s) := by
  have h0 := Changes.refl [.land, .media, .out] s
  unfold State.dispatchAll
  repeat' (first
    | ((first | intro x | (lift_lets; intro x)); first | (guard_hyp x : State := _; have hx : Changes [.land, .media, .out] s x := (by unfold x; repeat' (first | with_reducible assumption | ((with_reducible apply Changes.step (State.dispatch_changes ..)) <;> [rfl; skip]) | ((with_reducible apply Changes.foldl) <;> [(intro _ _ _); skip]) | split)); clear_value x) | clear_value x | skip)
    | with_reducible assumption | ((with_reducible apply Changes.step (State.dispatch_changes ..)) <;> [rfl; skip]) | ((with_reducible apply Changes.foldl) <;> [(intro _ _ _); skip])
    | split)

theorem State.placeCopies_changes (s : State) (x0 : Nat) :
    Changes [.media, .out] s (State.placeCopies s x0) := by
  have hstep : ∀ (n : Nat) (s : State), Changes [.media, .out] s (State.placeCopies s n) := by
    intro n
    induction n with
    | zero => intro s; exact Changes.refl _ _
    | succ k ih =>
      intro s
      have h0 := Changes.refl [.media, .out] s
      unfold State.placeCopies
      repeat' (first | ((first | intro x | (lift_lets; intro x)); first | clear_value x | skip) | with_reducible assumption | with_reducible assumption | ((with_reducible apply Changes.step (State.closeFull_changes ..)) <;> [rfl; skip]) | ((with_reducible apply Changes.step (State.setMedia_changes ..)) <;> [rfl; skip]) | ((with_reducible apply Changes.foldl) <;> [(intro _ _ _); skip]) | ((with_reducible apply Changes.step (ih _)) <;> [rfl; skip]) | split)
  exact hstep x0 s

theorem State.copiesGo_changes (s : State) :
    Changes [.media, .out] s (State.copiesGo s) := by
  have h0 := Changes.refl [.media, .out] s
  unfold State.copiesGo
  repeat' (first | with_reducible assumption | ((with_reducible apply Changes.step (State.placeCopies_changes ..)) <;> [rfl; skip]) | ((with_reducible apply Changes.foldl) <;> [(intro _ _ _); skip]) | split)

theorem State.placeSystem_changes (s : State) (x0 : Nat) :
    Changes [.media, .out] s (State.placeSystem s x0) := by
  have hstep : ∀ (n : Nat) (s : State), Changes [.media, .out] s (State.placeSystem s n) := by
    intro n
    induction n with
    | zero => intro s; exact Changes.refl _ _
    | succ k ih =>
      intro s
      have h0 := Changes.refl [.media, .out] s
      unfold State.placeSystem
      repeat' (first | ((first | intro x | (lift_lets; intro x)); first | clear_value x | skip) | with_reducible assumption | with_reducible assumption | ((with_reducible apply Changes.step (State.closeFull_changes ..)) <;> [rfl; skip]) | ((with_reducible apply Changes.step (State.setMedia_changes ..)) <;> [rfl; skip]) | ((with_reducible apply Changes.foldl) <;> [(intro _ _ _); skip]) | ((with_reducible apply Changes.step (ih _)) <;> [rfl; skip]) | split)
  exact hstep x0 s

theorem State.systemGo_changes (s : State) :
    Changes [.media, .out] s (State.systemGo s) := by
  have h0 := Changes.refl [.media, .out] s
  unfold State.systemGo
  repeat' (first | with_reducible assumption | ((with_reducible apply Changes.step (State.placeSystem_changes ..)) <;> [rfl; skip]) | ((with_reducible apply Changes.foldl) <;> [(intro _ _ _); skip]) | split)

theorem State.checkpoint_changes (s : State) :
    Changes [.evr, .media, .out] s (State.checkpoint s) := by
  have h0 := Changes.refl [.evr, .media, .out] s
  unfold State.checkpoint
  repeat' (first | with_reducible assumption | ((with_reducible apply Changes.step (State.checkWear_changes ..)) <;> [rfl; skip]) | ((with_reducible apply Changes.step (State.setMedia_changes ..)) <;> [rfl; skip]) | ((with_reducible apply Changes.step (State.systemGo_changes ..)) <;> [rfl; skip]) | ((with_reducible apply Changes.foldl) <;> [(intro _ _ _); skip]) | split)

theorem State.fullBand_changes (s : State) :
    Changes [.media, .out] s (State.fullBand s) := by
  have h0 := Changes.refl [.media, .out] s
  unfold State.fullBand
  repeat' (first
    | ((first | intro x | (lift_lets; intro x)); first | (guard_hyp x : State := _; have hx : Changes [.media, .out] s x := (by unfold x; repeat' (first | with_reducible assumption | ((with_reducible apply Changes.step (State.setMedia_changes ..)) <;> [rfl; skip]) | ((with_reducible apply Changes.step (State.systemGo_changes ..)) <;> [rfl; skip]) | ((with_reducible apply Changes.foldl) <;> [(intro _ _ _); skip]) | split)); clear_value x) | clear_value x | skip)
    | with_reducible assumption | ((with_reducible apply Changes.step (State.setMedia_changes ..)) <;> [rfl; skip]) | ((with_reducible apply Changes.step (State.systemGo_changes ..)) <;> [rfl; skip]) | ((with_reducible apply Changes.foldl) <;> [(intro _ _ _); skip])
    | split)

theorem State.openIn_changes (s : State) (g : Nat) (st : Stream) :
    Changes [.evr, .land, .media, .out] s (State.openIn s g st) := by
  have h0 := Changes.refl [.evr, .land, .media, .out] s
  unfold State.openIn
  repeat' (first
    | ((first | intro x | (lift_lets; intro x)); first | (guard_hyp x : State := _; have hx : Changes [.evr, .land, .media, .out] s x := (by unfold x; repeat' (first | with_reducible assumption | ((with_reducible apply Changes.step (State.checkWear_changes ..)) <;> [rfl; skip]) | ((with_reducible apply Changes.step (State.copiesGo_changes ..)) <;> [rfl; skip]) | ((with_reducible apply Changes.step (State.dispatch_changes ..)) <;> [rfl; skip]) | ((with_reducible apply Changes.step (State.fullBand_changes ..)) <;> [rfl; skip]) | ((with_reducible apply Changes.step (State.keepErased_changes ..)) <;> [rfl; skip]) | ((with_reducible apply Changes.step (State.queueErase_changes ..)) <;> [rfl; skip]) | ((with_reducible apply Changes.step (State.setMedia_changes ..)) <;> [rfl; skip]) | ((with_reducible apply Changes.step (State.systemGo_changes ..)) <;> [rfl; skip]) | ((with_reducible apply Changes.foldl) <;> [(intro _ _ _); skip]) | split)); clear_value x) | clear_value x | skip)
    | with_reducible assumption | ((with_reducible apply Changes.step (State.checkWear_changes ..)) <;> [rfl; skip]) | ((with_reducible apply Changes.step (State.copiesGo_changes ..)) <;> [rfl; skip]) | ((with_reducible apply Changes.step (State.dispatch_changes ..)) <;> [rfl; skip]) | ((with_reducible apply Changes.step (State.fullBand_changes ..)) <;> [rfl; skip]) | ((with_reducible apply Changes.step (State.keepErased_changes ..)) <;> [rfl; skip]) | ((with_reducible apply Changes.step (State.queueErase_changes ..)) <;> [rfl; skip]) | ((with_reducible apply Changes.step (State.setMedia_changes ..)) <;> [rfl; skip]) | ((with_reducible apply Changes.step (State.systemGo_changes ..)) <;> [rfl; skip]) | ((with_reducible apply Changes.foldl) <;> [(intro _ _ _); skip])
    | split)

theorem State.stripeOpen_changes (s : State) :
    Changes [.evr, .land, .media, .out] s (State.stripeOpen s) := by
  have h0 := Changes.refl [.evr, .land, .media, .out] s
  unfold State.stripeOpen
  repeat' (first
    | ((first | intro x | (lift_lets; intro x)); first | (guard_hyp x : State := _; have hx : Changes [.evr, .land, .media, .out] s x := (by unfold x; repeat' (first | with_reducible assumption | ((with_reducible apply Changes.step (State.closeStripe_changes ..)) <;> [rfl; skip]) | ((with_reducible apply Changes.step (State.openIn_changes ..)) <;> [rfl; skip]) | ((with_reducible apply Changes.foldl) <;> [(intro _ _ _); skip]) | split)); clear_value x) | clear_value x | skip)
    | with_reducible assumption | ((with_reducible apply Changes.step (State.closeStripe_changes ..)) <;> [rfl; skip]) | ((with_reducible apply Changes.step (State.openIn_changes ..)) <;> [rfl; skip]) | ((with_reducible apply Changes.foldl) <;> [(intro _ _ _); skip])
    | split)

theorem State.startDecode_changes (s : State) (rid : Nat) :
    Changes [.out] s (State.startDecode s rid) := by
  have h0 := Changes.refl [.out] s
  unfold State.startDecode
  repeat' (first | with_reducible assumption | ((with_reducible apply Changes.step (State.emit_changes ..)) <;> [rfl; skip]) | ((with_reducible apply Changes.foldl) <;> [(intro _ _ _); skip]) | split)

theorem State.startMember_changes (s : State) (rid : Nat) (l : Ladder) (x : Nat × Nat) :
    Changes [.media, .out] s (State.startMember s rid l x) := by
  have h0 := Changes.refl [.media, .out] s
  unfold State.startMember
  repeat' (first
    | ((first | intro x | (lift_lets; intro x)); first | (guard_hyp x : State := _; have hx : Changes [.media, .out] s x := (by unfold x; repeat' (first | with_reducible assumption | ((conv => (arg 3; arg 24; skip)); ((with_reducible apply Changes.media_with) <;> [rfl; skip])) | ((with_reducible apply Changes.step (State.enqueue_changes ..)) <;> [rfl; skip]) | ((with_reducible apply Changes.foldl) <;> [(intro _ _ _); skip]) | split)); clear_value x) | clear_value x | skip)
    | with_reducible assumption | ((conv => (arg 3; arg 24; skip)); ((with_reducible apply Changes.media_with) <;> [rfl; skip])) | ((with_reducible apply Changes.step (State.enqueue_changes ..)) <;> [rfl; skip]) | ((with_reducible apply Changes.foldl) <;> [(intro _ _ _); skip])
    | split)

theorem State.startStep_changes (s : State) (rid : Nat) (step : Nat) :
    Changes [.media, .out] s (State.startStep s rid step) := by
  have h0 := Changes.refl [.media, .out] s
  unfold State.startStep
  repeat' (first
    | ((first | intro x | (lift_lets; intro x)); first | (guard_hyp x : State := _; have hx : Changes [.media, .out] s x := (by unfold x; repeat' (first | with_reducible assumption | ((with_reducible apply Changes.step (State.enqueue_changes ..)) <;> [rfl; skip]) | ((with_reducible apply Changes.step (State.setMedia_changes ..)) <;> [rfl; skip]) | ((with_reducible apply Changes.step (State.startDecode_changes ..)) <;> [rfl; skip]) | ((with_reducible apply Changes.step (State.startMember_changes ..)) <;> [rfl; skip]) | ((with_reducible apply Changes.foldl) <;> [(intro _ _ _); skip]) | split)); clear_value x) | clear_value x | skip)
    | with_reducible assumption | ((with_reducible apply Changes.step (State.enqueue_changes ..)) <;> [rfl; skip]) | ((with_reducible apply Changes.step (State.setMedia_changes ..)) <;> [rfl; skip]) | ((with_reducible apply Changes.step (State.startDecode_changes ..)) <;> [rfl; skip]) | ((with_reducible apply Changes.step (State.startMember_changes ..)) <;> [rfl; skip]) | ((with_reducible apply Changes.foldl) <;> [(intro _ _ _); skip])
    | split)

theorem State.readCws_changes (s : State) (who : ReadFor) (die : Nat) (block : Nat) (page : Nat) (cws : List (Nat × List Nat)) (cap : Nat) :
    Changes [.media, .out] s (State.readCws s who die block page cws cap) := by
  have h0 := Changes.refl [.media, .out] s
  unfold State.readCws
  repeat' (first
    | ((first | intro x | (lift_lets; intro x)); first | (guard_hyp x : State := _; have hx : Changes [.media, .out] s x := (by unfold x; repeat' (first | with_reducible assumption | ((conv => (arg 3; arg 24; skip)); ((with_reducible apply Changes.media_with) <;> [rfl; skip])) | ((with_reducible apply Changes.step (State.enqueue_changes ..)) <;> [rfl; skip]) | ((with_reducible apply Changes.step (State.startStep_changes ..)) <;> [rfl; skip]) | ((with_reducible apply Changes.foldl) <;> [(intro _ _ _); skip]) | split)); clear_value x) | clear_value x | skip)
    | with_reducible assumption | ((conv => (arg 3; arg 24; skip)); ((with_reducible apply Changes.media_with) <;> [rfl; skip])) | ((with_reducible apply Changes.step (State.enqueue_changes ..)) <;> [rfl; skip]) | ((with_reducible apply Changes.step (State.startStep_changes ..)) <;> [rfl; skip]) | ((with_reducible apply Changes.foldl) <;> [(intro _ _ _); skip])
    | split)

theorem State.readRecs_changes (s : State) (who : ReadFor) (rs : List Rec) (cap : Nat) :
    Changes [.media, .out] s (State.readRecs s who rs cap) := by
  have h0 := Changes.refl [.media, .out] s
  unfold State.readRecs
  repeat' (first | with_reducible assumption | ((with_reducible apply Changes.step (State.readCws_changes ..)) <;> [rfl; skip]) | ((with_reducible apply Changes.foldl) <;> [(intro _ _ _); skip]) | split)

theorem State.loadPage_changes (s : State) (pk : Nat) :
    Changes [.media, .out] s (State.loadPage s pk) := by
  have h0 := Changes.refl [.media, .out] s
  unfold State.loadPage
  repeat' (first
    | ((first | intro x | (lift_lets; intro x)); first | (guard_hyp x : State := _; have hx : Changes [.media, .out] s x := (by unfold x; repeat' (first | with_reducible assumption | ((with_reducible apply Changes.step (State.readCws_changes ..)) <;> [rfl; skip]) | ((with_reducible apply Changes.foldl) <;> [(intro _ _ _); skip]) | split)); clear_value x) | clear_value x | skip)
    | with_reducible assumption | ((with_reducible apply Changes.step (State.readCws_changes ..)) <;> [rfl; skip]) | ((with_reducible apply Changes.foldl) <;> [(intro _ _ _); skip])
    | split)

theorem State.readMapPage_changes (s : State) (pk : Nat) :
    Changes [.media, .out] s (State.readMapPage s pk) := by
  have h0 := Changes.refl [.media, .out] s
  unfold State.readMapPage
  repeat' (first | with_reducible assumption | ((with_reducible apply Changes.step (State.loadPage_changes ..)) <;> [rfl; skip]) | ((with_reducible apply Changes.step (State.setMedia_changes ..)) <;> [rfl; skip]) | ((with_reducible apply Changes.foldl) <;> [(intro _ _ _); skip]) | split)

theorem State.loadNext_changes (s : State) :
    Changes [.media, .out] s (State.loadNext s) := by
  have h0 := Changes.refl [.media, .out] s
  unfold State.loadNext
  repeat' (first
    | ((first | intro x | (lift_lets; intro x)); first | (guard_hyp x : State := _; have hx : Changes [.media, .out] s x := (by unfold x; repeat' (first | with_reducible assumption | ((with_reducible apply Changes.step (State.loadPage_changes ..)) <;> [rfl; skip]) | ((with_reducible apply Changes.foldl) <;> [(intro _ _ _); skip]) | split)); clear_value x) | clear_value x | skip)
    | with_reducible assumption | ((with_reducible apply Changes.step (State.loadPage_changes ..)) <;> [rfl; skip]) | ((with_reducible apply Changes.foldl) <;> [(intro _ _ _); skip])
    | split)

theorem State.transferred_changes (s : State) (d : Nat) (rid : Nat) (k : Nat) :
    Changes [.media, .out] s (State.transferred s d rid k) := by
  have h0 := Changes.refl [.media, .out] s
  unfold State.transferred
  repeat' (first
    | ((first | intro x | (lift_lets; intro x)); first | (guard_hyp x : State := _; have hx : Changes [.media, .out] s x := (by unfold x; repeat' (first | with_reducible assumption | ((with_reducible apply Changes.step (State.dieIdle_changes ..)) <;> [rfl; skip]) | ((with_reducible apply Changes.step (State.pumpChannel_changes ..)) <;> [rfl; skip]) | ((with_reducible apply Changes.step (State.setDie_changes ..)) <;> [rfl; skip]) | ((with_reducible apply Changes.foldl) <;> [(intro _ _ _); skip]) | split)); clear_value x) | clear_value x | skip)
    | with_reducible assumption | ((with_reducible apply Changes.step (State.dieIdle_changes ..)) <;> [rfl; skip]) | ((with_reducible apply Changes.step (State.pumpChannel_changes ..)) <;> [rfl; skip]) | ((with_reducible apply Changes.step (State.setDie_changes ..)) <;> [rfl; skip]) | ((with_reducible apply Changes.foldl) <;> [(intro _ _ _); skip])
    | split)

theorem State.dropReads_changes (s : State) (f : Ladder → Bool) :
    Changes [.media] s (State.dropReads s f) := by
  have h0 := Changes.refl [.media] s
  unfold State.dropReads
  repeat' (first
    | ((first | intro x | (lift_lets; intro x)); first | (guard_hyp x : State := _; have hx : Changes [.media] s x := (by unfold x; repeat' (first | with_reducible assumption | ((with_reducible apply Changes.step (State.setMedia_changes ..)) <;> [rfl; skip]) | ((with_reducible apply Changes.foldl) <;> [(intro _ _ _); skip]) | split)); clear_value x) | clear_value x | skip)
    | with_reducible assumption | ((with_reducible apply Changes.step (State.setMedia_changes ..)) <;> [rfl; skip]) | ((with_reducible apply Changes.foldl) <;> [(intro _ _ _); skip])
    | split)

theorem State.stopReads_changes (s : State) (fseq : Nat) :
    Changes [.media] s (State.stopReads s fseq) := by
  have h0 := Changes.refl [.media] s
  unfold State.stopReads
  repeat' (first | with_reducible assumption | ((with_reducible apply Changes.step (State.dropReads_changes ..)) <;> [rfl; skip]) | ((with_reducible apply Changes.foldl) <;> [(intro _ _ _); skip]) | split)

theorem State.quit_changes (s : State) (fseq : Nat) (st : Status) (lba : Nat) :
    Changes [.cmq, .land, .media, .ports, .out] s (State.quit s fseq st lba) := by
  have h0 := Changes.refl [.cmq, .land, .media, .ports, .out] s
  unfold State.quit
  repeat' (first | with_reducible assumption | ((with_reducible apply Changes.step (State.complete_changes ..)) <;> [rfl; skip]) | ((with_reducible apply Changes.step (State.stopReads_changes ..)) <;> [rfl; skip]) | ((with_reducible apply Changes.foldl) <;> [(intro _ _ _); skip]) | split)

theorem State.pmrWindows_changes (s : State) (p : Fin 2) :
    Changes [.ports] s (State.pmrWindows s p) := by
  have h0 := Changes.refl [.ports] s
  unfold State.pmrWindows
  repeat' (first
    | ((first | intro x | (lift_lets; intro x)); first | (guard_hyp x : State := _; have hx : Changes [.ports] s x := (by unfold x; repeat' (first | with_reducible assumption | ((with_reducible apply Changes.step (State.setPort_changes ..)) <;> [rfl; skip]) | ((with_reducible apply Changes.foldl) <;> [(intro _ _ _); skip]) | split)); clear_value x) | clear_value x | skip)
    | with_reducible assumption | ((with_reducible apply Changes.step (State.setPort_changes ..)) <;> [rfl; skip]) | ((with_reducible apply Changes.foldl) <;> [(intro _ _ _); skip])
    | split)

theorem State.settlePmr_changes (s : State) :
    Changes [.evr, .land, .ports] s (State.settlePmr s) := by
  have h0 := Changes.refl [.evr, .land, .ports] s
  unfold State.settlePmr
  repeat' (first
    | ((first | intro x | (lift_lets; intro x)); first | (guard_hyp x : State := _; have hx : Changes [.evr, .land, .ports] s x := (by unfold x; repeat' (first | with_reducible assumption | ((conv => (arg 3; arg 24; skip)); ((with_reducible apply Changes.land_with) <;> [rfl; skip])) | ((with_reducible apply Changes.step (State.log_changes ..)) <;> [rfl; skip]) | ((with_reducible apply Changes.step (State.pmrWindows_changes ..)) <;> [rfl; skip]) | ((with_reducible apply Changes.foldl) <;> [(intro _ _ _); skip]) | split)); clear_value x) | clear_value x | skip)
    | with_reducible assumption | ((conv => (arg 3; arg 24; skip)); ((with_reducible apply Changes.land_with) <;> [rfl; skip])) | ((with_reducible apply Changes.step (State.log_changes ..)) <;> [rfl; skip]) | ((with_reducible apply Changes.step (State.pmrWindows_changes ..)) <;> [rfl; skip]) | ((with_reducible apply Changes.foldl) <;> [(intro _ _ _); skip])
    | split)

theorem State.setLimit_changes (s : State) (n : Nat) :
    Changes [.evr, .land, .ports] s (State.setLimit s n) := by
  have h0 := Changes.refl [.evr, .land, .ports] s
  unfold State.setLimit
  repeat' (first
    | ((first | intro x | (lift_lets; intro x)); first | (guard_hyp x : State := _; have hx : Changes [.evr, .land, .ports] s x := (by unfold x; repeat' (first | with_reducible assumption | ((conv => (arg 3; arg 24; skip)); ((with_reducible apply Changes.land_with) <;> [rfl; skip])) | ((with_reducible apply Changes.step (State.log_changes ..)) <;> [rfl; skip]) | ((with_reducible apply Changes.step (State.settlePmr_changes ..)) <;> [rfl; skip]) | ((with_reducible apply Changes.foldl) <;> [(intro _ _ _); skip]) | split)); clear_value x) | clear_value x | skip)
    | with_reducible assumption | ((conv => (arg 3; arg 24; skip)); ((with_reducible apply Changes.land_with) <;> [rfl; skip])) | ((with_reducible apply Changes.step (State.log_changes ..)) <;> [rfl; skip]) | ((with_reducible apply Changes.step (State.settlePmr_changes ..)) <;> [rfl; skip]) | ((with_reducible apply Changes.foldl) <;> [(intro _ _ _); skip])
    | split)

theorem State.recompute_changes (s : State) :
    Changes [.evr, .land, .plp, .ports] s (State.recompute s) := by
  have h0 := Changes.refl [.evr, .land, .plp, .ports] s
  unfold State.recompute
  repeat' (first
    | ((first | intro x | (lift_lets; intro x)); first | (guard_hyp x : State := _; have hx : Changes [.evr, .land, .plp, .ports] s x := (by unfold x; repeat' (first | with_reducible assumption | ((conv => (arg 3; arg 24; skip)); ((with_reducible apply Changes.plp_with) <;> [rfl; skip])) | ((with_reducible apply Changes.step (State.setLimit_changes ..)) <;> [rfl; skip]) | ((with_reducible apply Changes.foldl) <;> [(intro _ _ _); skip]) | split)); clear_value x) | clear_value x | skip)
    | with_reducible assumption | ((conv => (arg 3; arg 24; skip)); ((with_reducible apply Changes.plp_with) <;> [rfl; skip])) | ((with_reducible apply Changes.step (State.setLimit_changes ..)) <;> [rfl; skip]) | ((with_reducible apply Changes.foldl) <;> [(intro _ _ _); skip])
    | split)

theorem State.freeStripe_changes (s : State) (sid : Nat) (t : Stripe) :
    Changes [.media, .out] s (State.freeStripe s sid t) := by
  have h0 := Changes.refl [.media, .out] s
  unfold State.freeStripe
  repeat' (first
    | ((first | intro x | (lift_lets; intro x)); first | (guard_hyp x : State := _; have hx : Changes [.media, .out] s x := (by unfold x; repeat' (first | with_reducible assumption | ((with_reducible apply Changes.step (State.keepErased_changes ..)) <;> [rfl; skip]) | ((with_reducible apply Changes.step (State.setMedia_changes ..)) <;> [rfl; skip]) | ((with_reducible apply Changes.foldl) <;> [(intro _ _ _); skip]) | split)); clear_value x) | clear_value x | skip)
    | with_reducible assumption | ((with_reducible apply Changes.step (State.keepErased_changes ..)) <;> [rfl; skip]) | ((with_reducible apply Changes.step (State.setMedia_changes ..)) <;> [rfl; skip]) | ((with_reducible apply Changes.foldl) <;> [(intro _ _ _); skip])
    | split)

theorem State.settleStripes_changes (s : State) :
    Changes [.media, .out] s (State.settleStripes s) := by
  have h0 := Changes.refl [.media, .out] s
  unfold State.settleStripes
  repeat' (first
    | ((first | intro x | (lift_lets; intro x)); first | (guard_hyp x : State := _; have hx : Changes [.media, .out] s x := (by unfold x; repeat' (first | with_reducible assumption | ((with_reducible apply Changes.step (State.freeStripe_changes ..)) <;> [rfl; skip]) | ((with_reducible apply Changes.step (State.setMedia_changes ..)) <;> [rfl; skip]) | ((with_reducible apply Changes.foldl) <;> [(intro _ _ _); skip]) | split)); clear_value x) | clear_value x | skip)
    | with_reducible assumption | ((with_reducible apply Changes.step (State.freeStripe_changes ..)) <;> [rfl; skip]) | ((with_reducible apply Changes.step (State.setMedia_changes ..)) <;> [rfl; skip]) | ((with_reducible apply Changes.foldl) <;> [(intro _ _ _); skip])
    | split)

theorem State.startCopies_changes (s : State) (who : ReadFor) (rs : List Rec) :
    Changes [.media, .out] s (State.startCopies s who rs) := by
  have h0 := Changes.refl [.media, .out] s
  unfold State.startCopies
  repeat' (first | with_reducible assumption | ((with_reducible apply Changes.step (State.readRecs_changes ..)) <;> [rfl; skip]) | ((with_reducible apply Changes.foldl) <;> [(intro _ _ _); skip]) | split)

theorem State.moveRecords_changes (s : State) (f : Place → Bool) :
    Changes [.media, .out] s (State.moveRecords s f) := by
  have h0 := Changes.refl [.media, .out] s
  unfold State.moveRecords
  repeat' (first | with_reducible assumption | ((with_reducible apply Changes.step (State.setMedia_changes ..)) <;> [rfl; skip]) | ((with_reducible apply Changes.step (State.systemGo_changes ..)) <;> [rfl; skip]) | ((with_reducible apply Changes.foldl) <;> [(intro _ _ _); skip]) | split)

theorem State.pickVictim_changes (s : State) :
    Changes [.media, .out] s (State.pickVictim s) := by
  have h0 := Changes.refl [.media, .out] s
  unfold State.pickVictim
  repeat' (first
    | ((first | intro x | (lift_lets; intro x)); first | (guard_hyp x : State := _; have hx : Changes [.media, .out] s x := (by unfold x; repeat' (first | with_reducible assumption | ((with_reducible apply Changes.step (State.setMedia_changes ..)) <;> [rfl; skip]) | ((with_reducible apply Changes.step (State.startCopies_changes ..)) <;> [rfl; skip]) | ((with_reducible apply Changes.foldl) <;> [(intro _ _ _); skip]) | split)); clear_value x) | clear_value x | skip)
    | with_reducible assumption | ((with_reducible apply Changes.step (State.setMedia_changes ..)) <;> [rfl; skip]) | ((with_reducible apply Changes.step (State.startCopies_changes ..)) <;> [rfl; skip]) | ((with_reducible apply Changes.foldl) <;> [(intro _ _ _); skip])
    | split)

theorem State.startPounce_changes (s : State) (id : Nat) :
    Changes [.evr, .media, .out] s (State.startPounce s id) := by
  have h0 := Changes.refl [.evr, .media, .out] s
  unfold State.startPounce
  repeat' (first
    | ((first | intro x | (lift_lets; intro x)); first | (guard_hyp x : State := _; have hx : Changes [.evr, .media, .out] s x := (by unfold x; repeat' (first | with_reducible assumption | ((with_reducible apply Changes.step (State.log_changes ..)) <;> [rfl; skip]) | ((with_reducible apply Changes.step (State.moveRecords_changes ..)) <;> [rfl; skip]) | ((with_reducible apply Changes.step (State.setMedia_changes ..)) <;> [rfl; skip]) | ((with_reducible apply Changes.step (State.startCopies_changes ..)) <;> [rfl; skip]) | ((with_reducible apply Changes.foldl) <;> [(intro _ _ _); skip]) | split)); clear_value x) | clear_value x | skip)
    | with_reducible assumption | ((with_reducible apply Changes.step (State.log_changes ..)) <;> [rfl; skip]) | ((with_reducible apply Changes.step (State.moveRecords_changes ..)) <;> [rfl; skip]) | ((with_reducible apply Changes.step (State.setMedia_changes ..)) <;> [rfl; skip]) | ((with_reducible apply Changes.step (State.startCopies_changes ..)) <;> [rfl; skip]) | ((with_reducible apply Changes.foldl) <;> [(intro _ _ _); skip])
    | split)

theorem State.scanStripe_changes (s : State) (t : Stripe) :
    Changes [.media, .out] s (State.scanStripe s t) := by
  have h0 := Changes.refl [.media, .out] s
  unfold State.scanStripe
  repeat' (first
    | ((first | intro x | (lift_lets; intro x)); first | (guard_hyp x : State := _; have hx : Changes [.media, .out] s x := (by unfold x; repeat' (first | with_reducible assumption | ((with_reducible apply Changes.step (State.readCws_changes ..)) <;> [rfl; skip]) | ((with_reducible apply Changes.foldl) <;> [(intro _ _ _); skip]) | split)); clear_value x) | clear_value x | skip)
    | with_reducible assumption | ((with_reducible apply Changes.step (State.readCws_changes ..)) <;> [rfl; skip]) | ((with_reducible apply Changes.foldl) <;> [(intro _ _ _); skip])
    | split)

theorem State.trigger_changes (s : State) (die : Nat) (block : Nat) (trig : Nat) :
    Changes [.evr, .media, .out] s (State.trigger s die block trig) := by
  have h0 := Changes.refl [.evr, .media, .out] s
  unfold State.trigger
  repeat' (first
    | ((first | intro x | (lift_lets; intro x)); first | (guard_hyp x : State := _; have hx : Changes [.evr, .media, .out] s x := (by unfold x; repeat' (first | with_reducible assumption | ((with_reducible apply Changes.step (State.scanStripe_changes ..)) <;> [rfl; skip]) | ((with_reducible apply Changes.step (State.setMedia_changes ..)) <;> [rfl; skip]) | ((with_reducible apply Changes.step (State.startPounce_changes ..)) <;> [rfl; skip]) | ((with_reducible apply Changes.foldl) <;> [(intro _ _ _); skip]) | split)); clear_value x) | clear_value x | skip)
    | with_reducible assumption | ((with_reducible apply Changes.step (State.scanStripe_changes ..)) <;> [rfl; skip]) | ((with_reducible apply Changes.step (State.setMedia_changes ..)) <;> [rfl; skip]) | ((with_reducible apply Changes.step (State.startPounce_changes ..)) <;> [rfl; skip]) | ((with_reducible apply Changes.foldl) <;> [(intro _ _ _); skip])
    | split)

theorem State.countTrigger_changes (s : State) (die : Nat) (block : Nat) :
    Changes [.evr, .media, .out] s (State.countTrigger s die block) := by
  have h0 := Changes.refl [.evr, .media, .out] s
  unfold State.countTrigger
  repeat' (first
    | ((first | intro x | (lift_lets; intro x)); first | (guard_hyp x : State := _; have hx : Changes [.evr, .media, .out] s x := (by unfold x; repeat' (first | with_reducible assumption | ((with_reducible apply Changes.step (State.trigger_changes ..)) <;> [rfl; skip]) | ((with_reducible apply Changes.foldl) <;> [(intro _ _ _); skip]) | split)); clear_value x) | clear_value x | skip)
    | with_reducible assumption | ((with_reducible apply Changes.step (State.trigger_changes ..)) <;> [rfl; skip]) | ((with_reducible apply Changes.foldl) <;> [(intro _ _ _); skip])
    | split)

theorem State.checkSpare_changes (s : State) :
    Changes [.evr, .media] s (State.checkSpare s) := by
  have h0 := Changes.refl [.evr, .media] s
  unfold State.checkSpare
  repeat' (first
    | ((first | intro x | (lift_lets; intro x)); first | (guard_hyp x : State := _; have hx : Changes [.evr, .media] s x := (by unfold x; repeat' (first | with_reducible assumption | ((with_reducible apply Changes.step (State.log_changes ..)) <;> [rfl; skip]) | ((with_reducible apply Changes.step (State.setMedia_changes ..)) <;> [rfl; skip]) | ((with_reducible apply Changes.foldl) <;> [(intro _ _ _); skip]) | split)); clear_value x) | clear_value x | skip)
    | with_reducible assumption | ((with_reducible apply Changes.step (State.log_changes ..)) <;> [rfl; skip]) | ((with_reducible apply Changes.step (State.setMedia_changes ..)) <;> [rfl; skip]) | ((with_reducible apply Changes.foldl) <;> [(intro _ _ _); skip])
    | split)

theorem State.failStripe_changes (s : State) (sid : Nat) :
    Changes [.cmq, .land, .media, .ports, .out] s (State.failStripe s sid) := by
  have h0 := Changes.refl [.cmq, .land, .media, .ports, .out] s
  unfold State.failStripe
  repeat' (first
    | ((first | intro x | (lift_lets; intro x)); first | (guard_hyp x : State := _; have hx : Changes [.cmq, .land, .media, .ports, .out] s x := (by unfold x; repeat' (first | with_reducible assumption | ((conv => (arg 3; arg 24; skip)); ((with_reducible apply Changes.land_with) <;> [rfl; skip])) | ((with_reducible apply Changes.step (State.dispatchAll_changes ..)) <;> [rfl; skip]) | ((with_reducible apply Changes.step (State.freeLines_changes ..)) <;> [rfl; skip]) | ((with_reducible apply Changes.step (State.setMedia_changes ..)) <;> [rfl; skip]) | ((with_reducible apply Changes.step (State.settleStripes_changes ..)) <;> [rfl; skip]) | ((with_reducible apply Changes.step (State.startCopies_changes ..)) <;> [rfl; skip]) | ((with_reducible apply Changes.step (State.systemGo_changes ..)) <;> [rfl; skip]) | ((with_reducible apply Changes.foldl) <;> [(intro _ _ _); skip]) | split)); clear_value x) | clear_value x | skip)
    | with_reducible assumption | ((conv => (arg 3; arg 24; skip)); ((with_reducible apply Changes.land_with) <;> [rfl; skip])) | ((with_reducible apply Changes.step (State.dispatchAll_changes ..)) <;> [rfl; skip]) | ((with_reducible apply Changes.step (State.freeLines_changes ..)) <;> [rfl; skip]) | ((with_reducible apply Changes.step (State.setMedia_changes ..)) <;> [rfl; skip]) | ((with_reducible apply Changes.step (State.settleStripes_changes ..)) <;> [rfl; skip]) | ((with_reducible apply Changes.step (State.startCopies_changes ..)) <;> [rfl; skip]) | ((with_reducible apply Changes.step (State.systemGo_changes ..)) <;> [rfl; skip]) | ((with_reducible apply Changes.foldl) <;> [(intro _ _ _); skip])
    | split)

theorem State.expEnd_changes (s : State) (p : Fin 2) (code : Nat) :
    Changes [.media] s (State.expEnd s p code) := by
  have h0 := Changes.refl [.media] s
  unfold State.expEnd
  repeat' (first | with_reducible assumption | ((with_reducible apply Changes.step (State.setMedia_changes ..)) <;> [rfl; skip]) | ((with_reducible apply Changes.foldl) <;> [(intro _ _ _); skip]) | split)

theorem State.failReads_changes (s : State) (d : Nat) :
    Changes [.media, .out] s (State.failReads s d) := by
  have h0 := Changes.refl [.media, .out] s
  unfold State.failReads
  repeat' (first
    | ((first | intro x | (lift_lets; intro x)); first | (guard_hyp x : State := _; have hx : Changes [.media, .out] s x := (by unfold x; repeat' (first | with_reducible assumption | ((with_reducible apply Changes.step (State.expEnd_changes ..)) <;> [rfl; skip]) | ((with_reducible apply Changes.step (State.setMedia_changes ..)) <;> [rfl; skip]) | ((with_reducible apply Changes.step (State.startStep_changes ..)) <;> [rfl; skip]) | ((with_reducible apply Changes.foldl) <;> [(intro _ _ _); skip]) | split)); clear_value x) | clear_value x | skip)
    | with_reducible assumption | ((with_reducible apply Changes.step (State.expEnd_changes ..)) <;> [rfl; skip]) | ((with_reducible apply Changes.step (State.setMedia_changes ..)) <;> [rfl; skip]) | ((with_reducible apply Changes.step (State.startStep_changes ..)) <;> [rfl; skip]) | ((with_reducible apply Changes.foldl) <;> [(intro _ _ _); skip])
    | split)

theorem State.dieFails_changes (s : State) (d : Nat) (reason : Nat) :
    Changes [.evr, .cmq, .land, .media, .plp, .ports, .out] s (State.dieFails s d reason) := by
  have h0 := Changes.refl [.evr, .cmq, .land, .media, .plp, .ports, .out] s
  unfold State.dieFails
  repeat' (first
    | ((first | intro x | (lift_lets; intro x)); first | (guard_hyp x : State := _; have hx : Changes [.evr, .cmq, .land, .media, .plp, .ports, .out] s x := (by unfold x; repeat' (first | with_reducible assumption | ((with_reducible apply Changes.step (State.busDrop_changes ..)) <;> [rfl; skip]) | ((with_reducible apply Changes.step (State.checkSpare_changes ..)) <;> [rfl; skip]) | ((with_reducible apply Changes.step (State.failReads_changes ..)) <;> [rfl; skip]) | ((with_reducible apply Changes.step (State.failStripe_changes ..)) <;> [rfl; skip]) | ((with_reducible apply Changes.step (State.log_changes ..)) <;> [rfl; skip]) | ((with_reducible apply Changes.step (State.moveRecords_changes ..)) <;> [rfl; skip]) | ((with_reducible apply Changes.step (State.pumpChannel_changes ..)) <;> [rfl; skip]) | ((with_reducible apply Changes.step (State.recompute_changes ..)) <;> [rfl; skip]) | ((with_reducible apply Changes.step (State.setDie_changes ..)) <;> [rfl; skip]) | ((with_reducible apply Changes.step (State.setFch_changes ..)) <;> [rfl; skip]) | ((with_reducible apply Changes.step (State.setMedia_changes ..)) <;> [rfl; skip]) | ((with_reducible apply Changes.step (State.startCopies_changes ..)) <;> [rfl; skip]) | ((with_reducible apply Changes.foldl) <;> [(intro _ _ _); skip]) | split)); clear_value x) | clear_value x | skip)
    | with_reducible assumption | ((with_reducible apply Changes.step (State.busDrop_changes ..)) <;> [rfl; skip]) | ((with_reducible apply Changes.step (State.checkSpare_changes ..)) <;> [rfl; skip]) | ((with_reducible apply Changes.step (State.failReads_changes ..)) <;> [rfl; skip]) | ((with_reducible apply Changes.step (State.failStripe_changes ..)) <;> [rfl; skip]) | ((with_reducible apply Changes.step (State.log_changes ..)) <;> [rfl; skip]) | ((with_reducible apply Changes.step (State.moveRecords_changes ..)) <;> [rfl; skip]) | ((with_reducible apply Changes.step (State.pumpChannel_changes ..)) <;> [rfl; skip]) | ((with_reducible apply Changes.step (State.recompute_changes ..)) <;> [rfl; skip]) | ((with_reducible apply Changes.step (State.setDie_changes ..)) <;> [rfl; skip]) | ((with_reducible apply Changes.step (State.setFch_changes ..)) <;> [rfl; skip]) | ((with_reducible apply Changes.step (State.setMedia_changes ..)) <;> [rfl; skip]) | ((with_reducible apply Changes.step (State.startCopies_changes ..)) <;> [rfl; skip]) | ((with_reducible apply Changes.foldl) <;> [(intro _ _ _); skip])
    | split)

theorem State.leaveBlock_changes (s : State) (d : Nat) (b : Nat) :
    Changes [.cmq, .land, .media, .ports, .out] s (State.leaveBlock s d b) := by
  have h0 := Changes.refl [.cmq, .land, .media, .ports, .out] s
  unfold State.leaveBlock
  repeat' (first
    | ((first | intro x | (lift_lets; intro x)); first | (guard_hyp x : State := _; have hx : Changes [.cmq, .land, .media, .ports, .out] s x := (by unfold x; repeat' (first | with_reducible assumption | ((with_reducible apply Changes.step (State.failStripe_changes ..)) <;> [rfl; skip]) | ((with_reducible apply Changes.step (State.moveRecords_changes ..)) <;> [rfl; skip]) | ((with_reducible apply Changes.step (State.startCopies_changes ..)) <;> [rfl; skip]) | ((with_reducible apply Changes.foldl) <;> [(intro _ _ _); skip]) | split)); clear_value x) | clear_value x | skip)
    | with_reducible assumption | ((with_reducible apply Changes.step (State.failStripe_changes ..)) <;> [rfl; skip]) | ((with_reducible apply Changes.step (State.moveRecords_changes ..)) <;> [rfl; skip]) | ((with_reducible apply Changes.step (State.startCopies_changes ..)) <;> [rfl; skip]) | ((with_reducible apply Changes.foldl) <;> [(intro _ _ _); skip])
    | split)

theorem State.blockFails_changes (s : State) (d : Nat) (b : Nat) (w : Nat) (op : Nat) :
    Changes [.evr, .cmq, .land, .media, .plp, .ports, .out] s (State.blockFails s d b w op) := by
  have h0 := Changes.refl [.evr, .cmq, .land, .media, .plp, .ports, .out] s
  unfold State.blockFails
  repeat' (first
    | ((first | intro x | (lift_lets; intro x)); first | (guard_hyp x : State := _; have hx : Changes [.evr, .cmq, .land, .media, .plp, .ports, .out] s x := (by unfold x; repeat' (first | with_reducible assumption | ((with_reducible apply Changes.step (State.dieFails_changes ..)) <;> [rfl; skip]) | ((with_reducible apply Changes.step (State.leaveBlock_changes ..)) <;> [rfl; skip]) | ((with_reducible apply Changes.step (State.log_changes ..)) <;> [rfl; skip]) | ((with_reducible apply Changes.step (State.setDie_changes ..)) <;> [rfl; skip]) | ((with_reducible apply Changes.foldl) <;> [(intro _ _ _); skip]) | split)); clear_value x) | clear_value x | skip)
    | with_reducible assumption | ((with_reducible apply Changes.step (State.dieFails_changes ..)) <;> [rfl; skip]) | ((with_reducible apply Changes.step (State.leaveBlock_changes ..)) <;> [rfl; skip]) | ((with_reducible apply Changes.step (State.log_changes ..)) <;> [rfl; skip]) | ((with_reducible apply Changes.step (State.setDie_changes ..)) <;> [rfl; skip]) | ((with_reducible apply Changes.foldl) <;> [(intro _ _ _); skip])
    | split)

theorem State.noteStep6_changes (s : State) (d : Nat) (b : Nat) :
    Changes [.evr, .cmq, .land, .media, .plp, .ports, .out] s (State.noteStep6 s d b) := by
  have h0 := Changes.refl [.evr, .cmq, .land, .media, .plp, .ports, .out] s
  unfold State.noteStep6
  repeat' (first
    | ((first | intro x | (lift_lets; intro x)); first | (guard_hyp x : State := _; have hx : Changes [.evr, .cmq, .land, .media, .plp, .ports, .out] s x := (by unfold x; repeat' (first | with_reducible assumption | ((with_reducible apply Changes.step (State.dieFails_changes ..)) <;> [rfl; skip]) | ((with_reducible apply Changes.step (State.setDie_changes ..)) <;> [rfl; skip]) | ((with_reducible apply Changes.foldl) <;> [(intro _ _ _); skip]) | split)); clear_value x) | clear_value x | skip)
    | with_reducible assumption | ((with_reducible apply Changes.step (State.dieFails_changes ..)) <;> [rfl; skip]) | ((with_reducible apply Changes.step (State.setDie_changes ..)) <;> [rfl; skip]) | ((with_reducible apply Changes.foldl) <;> [(intro _ _ _); skip])
    | split)

theorem State.resumeRebuilds_changes (s : State) :
    Changes [.media, .out] s (State.resumeRebuilds s) := by
  have h0 := Changes.refl [.media, .out] s
  unfold State.resumeRebuilds
  repeat' (first | with_reducible assumption | ((with_reducible apply Changes.step (State.startCopies_changes ..)) <;> [rfl; skip]) | ((with_reducible apply Changes.foldl) <;> [(intro _ _ _); skip]) | split)

theorem State.rebuild1End_changes (s : State) (d : Nat) :
    Changes [.evr, .media, .out] s (State.rebuild1End s d) := by
  have h0 := Changes.refl [.evr, .media, .out] s
  unfold State.rebuild1End
  repeat' (first
    | ((first | intro x | (lift_lets; intro x)); first | (guard_hyp x : State := _; have hx : Changes [.evr, .media, .out] s x := (by unfold x; repeat' (first | with_reducible assumption | ((with_reducible apply Changes.step (State.log_changes ..)) <;> [rfl; skip]) | ((with_reducible apply Changes.step (State.moveRecords_changes ..)) <;> [rfl; skip]) | ((with_reducible apply Changes.step (State.setMedia_changes ..)) <;> [rfl; skip]) | ((with_reducible apply Changes.step (State.startCopies_changes ..)) <;> [rfl; skip]) | ((with_reducible apply Changes.foldl) <;> [(intro _ _ _); skip]) | split)); clear_value x) | clear_value x | skip)
    | with_reducible assumption | ((with_reducible apply Changes.step (State.log_changes ..)) <;> [rfl; skip]) | ((with_reducible apply Changes.step (State.moveRecords_changes ..)) <;> [rfl; skip]) | ((with_reducible apply Changes.step (State.setMedia_changes ..)) <;> [rfl; skip]) | ((with_reducible apply Changes.step (State.startCopies_changes ..)) <;> [rfl; skip]) | ((with_reducible apply Changes.foldl) <;> [(intro _ _ _); skip])
    | split)

theorem State.rebuild2End_changes (s : State) (d : Nat) :
    Changes [.evr, .media] s (State.rebuild2End s d) := by
  have h0 := Changes.refl [.evr, .media] s
  unfold State.rebuild2End
  repeat' (first
    | ((first | intro x | (lift_lets; intro x)); first | (guard_hyp x : State := _; have hx : Changes [.evr, .media] s x := (by unfold x; repeat' (first | with_reducible assumption | ((with_reducible apply Changes.step (State.log_changes ..)) <;> [rfl; skip]) | ((with_reducible apply Changes.step (State.setMedia_changes ..)) <;> [rfl; skip]) | ((with_reducible apply Changes.foldl) <;> [(intro _ _ _); skip]) | split)); clear_value x) | clear_value x | skip)
    | with_reducible assumption | ((with_reducible apply Changes.step (State.log_changes ..)) <;> [rfl; skip]) | ((with_reducible apply Changes.step (State.setMedia_changes ..)) <;> [rfl; skip]) | ((with_reducible apply Changes.foldl) <;> [(intro _ _ _); skip])
    | split)

theorem State.zoneAdvance_changes (s : State) (d : Dest) :
    Changes [.media] s (State.zoneAdvance s d) := by
  have h0 := Changes.refl [.media] s
  unfold State.zoneAdvance
  repeat' (first
    | ((first | intro x | (lift_lets; intro x)); first | (guard_hyp x : State := _; have hx : Changes [.media] s x := (by unfold x; repeat' (first | with_reducible assumption | ((with_reducible apply Changes.step (State.setZone_changes ..)) <;> [rfl; skip]) | ((with_reducible apply Changes.foldl) <;> [(intro _ _ _); skip]) | split)); clear_value x) | clear_value x | skip)
    | with_reducible assumption | ((with_reducible apply Changes.step (State.setZone_changes ..)) <;> [rfl; skip]) | ((with_reducible apply Changes.foldl) <;> [(intro _ _ _); skip])
    | split)

theorem State.placeLines_changes (s : State) (fseq : Nat) (d : Dest) (adopted : Bool) (ls : List Nat) :
    Changes [.cmq, .land, .media] s (State.placeLines s fseq d adopted ls) := by
  have h0 := Changes.refl [.cmq, .land, .media] s
  unfold State.placeLines
  repeat' (first
    | ((first | intro x | (lift_lets; intro x)); first | (guard_hyp x : State := _; have hx : Changes [.cmq, .land, .media] s x := (by unfold x; repeat' (first | with_reducible assumption | ((conv => (arg 3; arg 24; skip)); ((with_reducible apply Changes.land_with) <;> [rfl; skip])) | ((with_reducible apply Changes.step (State.setCmd_changes ..)) <;> [rfl; skip]) | ((with_reducible apply Changes.step (State.setMedia_changes ..)) <;> [rfl; skip]) | ((with_reducible apply Changes.foldl) <;> [(intro _ _ _); skip]) | split)); clear_value x) | clear_value x | skip)
    | with_reducible assumption | ((conv => (arg 3; arg 24; skip)); ((with_reducible apply Changes.land_with) <;> [rfl; skip])) | ((with_reducible apply Changes.step (State.setCmd_changes ..)) <;> [rfl; skip]) | ((with_reducible apply Changes.step (State.setMedia_changes ..)) <;> [rfl; skip]) | ((with_reducible apply Changes.foldl) <;> [(intro _ _ _); skip])
    | split)

theorem State.adopt_changes (s : State) (p : Fin 2) (fseq : Nat) (ks : List Nat) :
    Changes [.cmq, .land, .free] s (State.adopt s p fseq ks) := by
  have h0 := Changes.refl [.cmq, .land, .free] s
  unfold State.adopt
  repeat' (first
    | ((first | intro x | (lift_lets; intro x)); first | (guard_hyp x : State := _; have hx : Changes [.cmq, .land, .free] s x := (by unfold x; repeat' (first | with_reducible assumption | ((conv => (arg 3; arg 24; skip)); ((with_reducible apply Changes.free_with) <;> [rfl; skip])) | ((conv => (arg 3; arg 24; skip)); ((with_reducible apply Changes.land_with) <;> [rfl; skip])) | ((with_reducible apply Changes.step (State.setCmd_changes ..)) <;> [rfl; skip]) | ((with_reducible apply Changes.foldl) <;> [(intro _ _ _); skip]) | split)); clear_value x) | clear_value x | skip)
    | with_reducible assumption | ((conv => (arg 3; arg 24; skip)); ((with_reducible apply Changes.free_with) <;> [rfl; skip])) | ((conv => (arg 3; arg 24; skip)); ((with_reducible apply Changes.land_with) <;> [rfl; skip])) | ((with_reducible apply Changes.step (State.setCmd_changes ..)) <;> [rfl; skip]) | ((with_reducible apply Changes.foldl) <;> [(intro _ _ _); skip])
    | split)

theorem State.issueReadBacks_changes (s : State) (fseq : Nat) (d : Dest) (ls : List Nat) :
    Changes [.cmq, .out] s (State.issueReadBacks s fseq d ls) := by
  have h0 := Changes.refl [.cmq, .out] s
  unfold State.issueReadBacks
  repeat' (first | with_reducible assumption | ((with_reducible apply Changes.step (State.emits_changes ..)) <;> [rfl; skip]) | ((with_reducible apply Changes.step (State.setCmd_changes ..)) <;> [rfl; skip]) | ((with_reducible apply Changes.foldl) <;> [(intro _ _ _); skip]) | split)

theorem State.tryReadBack_changes (s : State) (fseq : Nat) :
    Changes [.cmq, .out] s (State.tryReadBack s fseq) := by
  have h0 := Changes.refl [.cmq, .out] s
  unfold State.tryReadBack
  repeat' (first | with_reducible assumption | ((with_reducible apply Changes.step (State.issueReadBacks_changes ..)) <;> [rfl; skip]) | ((with_reducible apply Changes.step (State.setCmd_changes ..)) <;> [rfl; skip]) | ((with_reducible apply Changes.foldl) <;> [(intro _ _ _); skip]) | split)

theorem State.tryLand_changes (s : State) (fseq : Nat) :
    Changes [.cmq, .land, .out] s (State.tryLand s fseq) := by
  have h0 := Changes.refl [.cmq, .land, .out] s
  unfold State.tryLand
  repeat' (first
    | ((first | intro x | (lift_lets; intro x)); first | (guard_hyp x : State := _; have hx : Changes [.cmq, .land, .out] s x := (by unfold x; repeat' (first | with_reducible assumption | ((conv => (arg 3; arg 24; skip)); ((with_reducible apply Changes.land_with) <;> [rfl; skip])) | ((with_reducible apply Changes.step (State.tryReadBack_changes ..)) <;> [rfl; skip]) | ((with_reducible apply Changes.foldl) <;> [(intro _ _ _); skip]) | split)); clear_value x) | clear_value x | skip)
    | with_reducible assumption | ((conv => (arg 3; arg 24; skip)); ((with_reducible apply Changes.land_with) <;> [rfl; skip])) | ((with_reducible apply Changes.step (State.tryReadBack_changes ..)) <;> [rfl; skip]) | ((with_reducible apply Changes.foldl) <;> [(intro _ _ _); skip])
    | split)

theorem State.startMerge_changes (s : State) (fseq : Nat) (d : Dest) :
    Changes [.cmq, .media, .out] s (State.startMerge s fseq d) := by
  have h0 := Changes.refl [.cmq, .media, .out] s
  unfold State.startMerge
  repeat' (first
    | ((first | intro x | (lift_lets; intro x)); first | (guard_hyp x : State := _; have hx : Changes [.cmq, .media, .out] s x := (by unfold x; repeat' (first | with_reducible assumption | ((with_reducible apply Changes.step (State.readRecs_changes ..)) <;> [rfl; skip]) | ((with_reducible apply Changes.step (State.setCmd_changes ..)) <;> [rfl; skip]) | ((with_reducible apply Changes.step (State.setMedia_changes ..)) <;> [rfl; skip]) | ((with_reducible apply Changes.foldl) <;> [(intro _ _ _); skip]) | split)); clear_value x) | clear_value x | skip)
    | with_reducible assumption | ((with_reducible apply Changes.step (State.readRecs_changes ..)) <;> [rfl; skip]) | ((with_reducible apply Changes.step (State.setCmd_changes ..)) <;> [rfl; skip]) | ((with_reducible apply Changes.step (State.setMedia_changes ..)) <;> [rfl; skip]) | ((with_reducible apply Changes.foldl) <;> [(intro _ _ _); skip])
    | split)

theorem State.tryFill_changes (s : State) (fseq : Nat) :
    Changes [.cmq, .land, .media, .out] s (State.tryFill s fseq) := by
  have h0 := Changes.refl [.cmq, .land, .media, .out] s
  unfold State.tryFill
  repeat' (first | with_reducible assumption | ((with_reducible apply Changes.step (State.startMerge_changes ..)) <;> [rfl; skip]) | ((with_reducible apply Changes.step (State.tryLand_changes ..)) <;> [rfl; skip]) | ((with_reducible apply Changes.foldl) <;> [(intro _ _ _); skip]) | split)

theorem State.takeLines_changes (s : State) (fseq : Nat) (p : Fin 2) (d : Dest) (data : List Sector) :
    Changes [.cmq, .land, .media, .out, .free] s (State.takeLines s fseq p d data) := by
  have h0 := Changes.refl [.cmq, .land, .media, .out, .free] s
  unfold State.takeLines
  repeat' (first
    | ((first | intro x | (lift_lets; intro x)); first | (guard_hyp x : State := _; have hx : Changes [.cmq, .land, .media, .out, .free] s x := (by unfold x; repeat' (first | with_reducible assumption | ((conv => (arg 3; arg 24; skip)); ((with_reducible apply Changes.land_with) <;> [rfl; skip])) | ((with_reducible apply Changes.step (State.adopt_changes ..)) <;> [rfl; skip]) | ((with_reducible apply Changes.step (State.placeLines_changes ..)) <;> [rfl; skip]) | ((with_reducible apply Changes.step (State.setCmd_changes ..)) <;> [rfl; skip]) | ((with_reducible apply Changes.step (State.startMerge_changes ..)) <;> [rfl; skip]) | ((with_reducible apply Changes.step (State.tryFill_changes ..)) <;> [rfl; skip]) | ((with_reducible apply Changes.step (State.tryLand_changes ..)) <;> [rfl; skip]) | ((with_reducible apply Changes.foldl) <;> [(intro _ _ _); skip]) | split)); clear_value x) | clear_value x | skip)
    | with_reducible assumption | ((conv => (arg 3; arg 24; skip)); ((with_reducible apply Changes.land_with) <;> [rfl; skip])) | ((with_reducible apply Changes.step (State.adopt_changes ..)) <;> [rfl; skip]) | ((with_reducible apply Changes.step (State.placeLines_changes ..)) <;> [rfl; skip]) | ((with_reducible apply Changes.step (State.setCmd_changes ..)) <;> [rfl; skip]) | ((with_reducible apply Changes.step (State.startMerge_changes ..)) <;> [rfl; skip]) | ((with_reducible apply Changes.step (State.tryFill_changes ..)) <;> [rfl; skip]) | ((with_reducible apply Changes.step (State.tryLand_changes ..)) <;> [rfl; skip]) | ((with_reducible apply Changes.foldl) <;> [(intro _ _ _); skip])
    | split)

theorem State.landStart_changes (s : State) (fseq : Nat) (data : List Sector) :
    Changes [.cmq, .land, .media, .ports, .out, .free] s (State.landStart s fseq data) := by
  have h0 := Changes.refl [.cmq, .land, .media, .ports, .out, .free] s
  unfold State.landStart
  repeat' (first
    | ((first | intro x | (lift_lets; intro x)); first | (guard_hyp x : State := _; have hx : Changes [.cmq, .land, .media, .ports, .out, .free] s x := (by unfold x; repeat' (first | with_reducible assumption | ((conv => (arg 3; arg 24; skip)); ((with_reducible apply Changes.cmq_with) <;> [rfl; skip])) | ((with_reducible apply Changes.step (State.quit_changes ..)) <;> [rfl; skip]) | ((with_reducible apply Changes.step (State.readMapPage_changes ..)) <;> [rfl; skip]) | ((with_reducible apply Changes.step (State.setCmd_changes ..)) <;> [rfl; skip]) | ((with_reducible apply Changes.step (State.takeLines_changes ..)) <;> [rfl; skip]) | ((with_reducible apply Changes.foldl) <;> [(intro _ _ _); skip]) | split)); clear_value x) | clear_value x | skip)
    | with_reducible assumption | ((conv => (arg 3; arg 24; skip)); ((with_reducible apply Changes.cmq_with) <;> [rfl; skip])) | ((with_reducible apply Changes.step (State.quit_changes ..)) <;> [rfl; skip]) | ((with_reducible apply Changes.step (State.readMapPage_changes ..)) <;> [rfl; skip]) | ((with_reducible apply Changes.step (State.setCmd_changes ..)) <;> [rfl; skip]) | ((with_reducible apply Changes.step (State.takeLines_changes ..)) <;> [rfl; skip]) | ((with_reducible apply Changes.foldl) <;> [(intro _ _ _); skip])
    | split)

theorem State.discard_changes (s : State) (hit : Nat → Nat → Bool) :
    Changes [.cmq, .land, .media, .ports, .out] s (State.discard s hit) := by
  have h0 := Changes.refl [.cmq, .land, .media, .ports, .out] s
  unfold State.discard
  repeat' (first
    | ((first | intro x | (lift_lets; intro x)); first | (guard_hyp x : State := _; have hx : Changes [.cmq, .land, .media, .ports, .out] s x := (by unfold x; repeat' (first | with_reducible assumption | ((with_reducible apply Changes.step (State.freeLines_changes ..)) <;> [rfl; skip]) | ((with_reducible apply Changes.step (State.setMedia_changes ..)) <;> [rfl; skip]) | ((with_reducible apply Changes.foldl) <;> [(intro _ _ _); skip]) | split)); clear_value x) | clear_value x | skip)
    | with_reducible assumption | ((with_reducible apply Changes.step (State.freeLines_changes ..)) <;> [rfl; skip]) | ((with_reducible apply Changes.step (State.setMedia_changes ..)) <;> [rfl; skip]) | ((with_reducible apply Changes.foldl) <;> [(intro _ _ _); skip])
    | split)

theorem State.setUnits_changes (s : State) (ns : Nat) (n : Namespace) (zero : Bool) (runs : List (Nat × Nat)) :
    Changes [.evr, .cmq, .land, .media, .ports, .out] s (State.setUnits s ns n zero runs) := by
  have h0 := Changes.refl [.evr, .cmq, .land, .media, .ports, .out] s
  unfold State.setUnits
  repeat' (first
    | ((first | intro x | (lift_lets; intro x)); first | (guard_hyp x : State := _; have hx : Changes [.evr, .cmq, .land, .media, .ports, .out] s x := (by unfold x; repeat' (first | with_reducible assumption | ((with_reducible apply Changes.step (State.checkWear_changes ..)) <;> [rfl; skip]) | ((with_reducible apply Changes.step (State.discard_changes ..)) <;> [rfl; skip]) | ((with_reducible apply Changes.step (State.setMedia_changes ..)) <;> [rfl; skip]) | ((with_reducible apply Changes.step (State.systemGo_changes ..)) <;> [rfl; skip]) | ((with_reducible apply Changes.foldl) <;> [(intro _ _ _); skip]) | split)); clear_value x) | clear_value x | skip)
    | with_reducible assumption | ((with_reducible apply Changes.step (State.checkWear_changes ..)) <;> [rfl; skip]) | ((with_reducible apply Changes.step (State.discard_changes ..)) <;> [rfl; skip]) | ((with_reducible apply Changes.step (State.setMedia_changes ..)) <;> [rfl; skip]) | ((with_reducible apply Changes.step (State.systemGo_changes ..)) <;> [rfl; skip]) | ((with_reducible apply Changes.foldl) <;> [(intro _ _ _); skip])
    | split)

theorem State.zeroUnits_changes (s : State) (c : Cmd) (d : Dest) :
    Changes [.evr, .cmq, .land, .media, .ports, .out, .free] s (State.zeroUnits s c d) := by
  have h0 := Changes.refl [.evr, .cmq, .land, .media, .ports, .out, .free] s
  unfold State.zeroUnits
  repeat' (first | with_reducible assumption | ((with_reducible apply Changes.step (State.setUnits_changes ..)) <;> [rfl; skip]) | ((with_reducible apply Changes.step (State.writeZeroes_changes ..)) <;> [rfl; skip]) | ((with_reducible apply Changes.foldl) <;> [(intro _ _ _); skip]) | split)

theorem State.commitLines_changes (s : State) (fseq : Nat) (c : Cmd) (d : Dest) :
    Changes [.cmq, .land, .media, .ports, .out] s (State.commitLines s fseq c d) := by
  have h0 := Changes.refl [.cmq, .land, .media, .ports, .out] s
  unfold State.commitLines
  repeat' (first
    | ((first | intro x | (lift_lets; intro x)); first | (guard_hyp x : State := _; have hx : Changes [.cmq, .land, .media, .ports, .out] s x := (by unfold x; repeat' (first | with_reducible assumption | ((conv => (arg 3; arg 24; skip)); ((with_reducible apply Changes.land_with) <;> [rfl; skip])) | ((with_reducible apply Changes.step (State.freeLines_changes ..)) <;> [rfl; skip]) | ((with_reducible apply Changes.step (State.zoneAdvance_changes ..)) <;> [rfl; skip]) | ((with_reducible apply Changes.foldl) <;> [(intro _ _ _); skip]) | split)); clear_value x) | clear_value x | skip)
    | with_reducible assumption | ((conv => (arg 3; arg 24; skip)); ((with_reducible apply Changes.land_with) <;> [rfl; skip])) | ((with_reducible apply Changes.step (State.freeLines_changes ..)) <;> [rfl; skip]) | ((with_reducible apply Changes.step (State.zoneAdvance_changes ..)) <;> [rfl; skip]) | ((with_reducible apply Changes.foldl) <;> [(intro _ _ _); skip])
    | split)

theorem State.commit_changes (s : State) (fseq : Nat) :
    Changes [.evr, .cmq, .land, .media, .ports, .out, .free] s (State.commit s fseq) := by
  have h0 := Changes.refl [.evr, .cmq, .land, .media, .ports, .out, .free] s
  unfold State.commit
  repeat' (first
    | ((first | intro x | (lift_lets; intro x)); first | (guard_hyp x : State := _; have hx : Changes [.evr, .cmq, .land, .media, .ports, .out, .free] s x := (by unfold x; repeat' (first | with_reducible assumption | ((with_reducible apply Changes.step (State.closeStripe_changes ..)) <;> [rfl; skip]) | ((with_reducible apply Changes.step (State.commitLines_changes ..)) <;> [rfl; skip]) | ((with_reducible apply Changes.step (State.complete_changes ..)) <;> [rfl; skip]) | ((with_reducible apply Changes.step (State.dispatchAll_changes ..)) <;> [rfl; skip]) | ((with_reducible apply Changes.step (State.quit_changes ..)) <;> [rfl; skip]) | ((with_reducible apply Changes.step (State.setCmd_changes ..)) <;> [rfl; skip]) | ((with_reducible apply Changes.step (State.zeroUnits_changes ..)) <;> [rfl; skip]) | ((with_reducible apply Changes.foldl) <;> [(intro _ _ _); skip]) | split)); clear_value x) | clear_value x | skip)
    | with_reducible assumption | ((with_reducible apply Changes.step (State.closeStripe_changes ..)) <;> [rfl; skip]) | ((with_reducible apply Changes.step (State.commitLines_changes ..)) <;> [rfl; skip]) | ((with_reducible apply Changes.step (State.complete_changes ..)) <;> [rfl; skip]) | ((with_reducible apply Changes.step (State.dispatchAll_changes ..)) <;> [rfl; skip]) | ((with_reducible apply Changes.step (State.quit_changes ..)) <;> [rfl; skip]) | ((with_reducible apply Changes.step (State.setCmd_changes ..)) <;> [rfl; skip]) | ((with_reducible apply Changes.step (State.zeroUnits_changes ..)) <;> [rfl; skip]) | ((with_reducible apply Changes.foldl) <;> [(intro _ _ _); skip])
    | split)

theorem State.goOn_changes (s : State) :
    Changes [.cmq, .land, .media, .ports, .out, .free] s (State.goOn s) := by
  have h0 := Changes.refl [.cmq, .land, .media, .ports, .out, .free] s
  unfold State.goOn
  repeat' (first | with_reducible assumption | ((with_reducible apply Changes.step (State.landStart_changes ..)) <;> [rfl; skip]) | ((with_reducible apply Changes.step (State.tryFill_changes ..)) <;> [rfl; skip]) | ((with_reducible apply Changes.step (State.tryReadBack_changes ..)) <;> [rfl; skip]) | ((with_reducible apply Changes.foldl) <;> [(intro _ _ _); skip]) | split)

theorem State.finishIo_changes (s : State) (fseq : Nat) :
    Changes [.cmq, .land, .media, .ports, .out, .free] s (State.finishIo s fseq) := by
  have h0 := Changes.refl [.cmq, .land, .media, .ports, .out, .free] s
  unfold State.finishIo
  repeat' (first
    | ((first | intro x | (lift_lets; intro x)); first | (guard_hyp x : State := _; have hx : Changes [.cmq, .land, .media, .ports, .out, .free] s x := (by unfold x; repeat' (first | with_reducible assumption | ((with_reducible apply Changes.step (State.complete_changes ..)) <;> [rfl; skip]) | ((with_reducible apply Changes.step (State.emit_changes ..)) <;> [rfl; skip]) | ((with_reducible apply Changes.step (State.landStart_changes ..)) <;> [rfl; skip]) | ((with_reducible apply Changes.step (State.quit_changes ..)) <;> [rfl; skip]) | ((with_reducible apply Changes.step (State.setCmd_changes ..)) <;> [rfl; skip]) | ((with_reducible apply Changes.foldl) <;> [(intro _ _ _); skip]) | split)); clear_value x) | clear_value x | skip)
    | with_reducible assumption | ((with_reducible apply Changes.step (State.complete_changes ..)) <;> [rfl; skip]) | ((with_reducible apply Changes.step (State.emit_changes ..)) <;> [rfl; skip]) | ((with_reducible apply Changes.step (State.landStart_changes ..)) <;> [rfl; skip]) | ((with_reducible apply Changes.step (State.quit_changes ..)) <;> [rfl; skip]) | ((with_reducible apply Changes.step (State.setCmd_changes ..)) <;> [rfl; skip]) | ((with_reducible apply Changes.foldl) <;> [(intro _ _ _); skip])
    | split)

theorem State.startIo_changes (s : State) (fseq : Nat) :
    Changes [.cmq, .land, .media, .ports, .out, .free] s (State.startIo s fseq) := by
  have h0 := Changes.refl [.cmq, .land, .media, .ports, .out, .free] s
  unfold State.startIo
  split
  · assumption
  · rename_i c _
    rcases hr : s.readsOf c with _ | ⟨ns, n, ranges, tag, inCmb, fua⟩
    · dsimp only
      repeat' (first | with_reducible assumption | ((conv => (arg 3; arg 24; skip)); ((with_reducible apply Changes.cmq_with) <;> [rfl; skip])) | ((with_reducible apply Changes.step (State.closeEarly_changes ..)) <;> [rfl; skip]) | ((with_reducible apply Changes.step (State.ensureFinal_changes ..)) <;> [rfl; skip]) | ((with_reducible apply Changes.step (State.finishIo_changes ..)) <;> [rfl; skip]) | ((with_reducible apply Changes.step (State.quit_changes ..)) <;> [rfl; skip]) | ((with_reducible apply Changes.step (State.readMapPage_changes ..)) <;> [rfl; skip]) | ((with_reducible apply Changes.step (State.readRecs_changes ..)) <;> [rfl; skip]) | ((with_reducible apply Changes.step (State.setCmd_changes ..)) <;> [rfl; skip]) | ((with_reducible apply Changes.step (State.setMedia_changes ..)) <;> [rfl; skip]) | ((with_reducible apply Changes.foldl) <;> [(intro _ _ _); skip]) | split)
    · dsimp only
      repeat' (first | with_reducible assumption | ((conv => (arg 3; arg 24; skip)); ((with_reducible apply Changes.cmq_with) <;> [rfl; skip])) | ((with_reducible apply Changes.step (State.closeEarly_changes ..)) <;> [rfl; skip]) | ((with_reducible apply Changes.step (State.ensureFinal_changes ..)) <;> [rfl; skip]) | ((with_reducible apply Changes.step (State.finishIo_changes ..)) <;> [rfl; skip]) | ((with_reducible apply Changes.step (State.quit_changes ..)) <;> [rfl; skip]) | ((with_reducible apply Changes.step (State.readMapPage_changes ..)) <;> [rfl; skip]) | ((with_reducible apply Changes.step (State.readRecs_changes ..)) <;> [rfl; skip]) | ((with_reducible apply Changes.step (State.setCmd_changes ..)) <;> [rfl; skip]) | ((with_reducible apply Changes.step (State.setMedia_changes ..)) <;> [rfl; skip]) | ((with_reducible apply Changes.foldl) <;> [(intro _ _ _); skip]) | split)

theorem State.resumeAll_changes (s : State) :
    Changes [.cmq, .land, .media, .ports, .out, .free] s (State.resumeAll s) := by
  have h0 := Changes.refl [.cmq, .land, .media, .ports, .out, .free] s
  unfold State.resumeAll
  repeat' (first | with_reducible assumption | ((with_reducible apply Changes.step (State.goOn_changes ..)) <;> [rfl; skip]) | ((with_reducible apply Changes.step (State.startIo_changes ..)) <;> [rfl; skip]) | ((with_reducible apply Changes.foldl) <;> [(intro _ _ _); skip]) | split)

theorem State.granuleDone_changes (s : State) (fseq : Nat) :
    Changes [.cmq, .land, .media, .ports, .out, .free] s (State.granuleDone s fseq) := by
  have h0 := Changes.refl [.cmq, .land, .media, .ports, .out, .free] s
  unfold State.granuleDone
  repeat' (first | with_reducible assumption | ((with_reducible apply Changes.step (State.finishIo_changes ..)) <;> [rfl; skip]) | ((with_reducible apply Changes.step (State.quit_changes ..)) <;> [rfl; skip]) | ((with_reducible apply Changes.step (State.setCmd_changes ..)) <;> [rfl; skip]) | ((with_reducible apply Changes.step (State.tryLand_changes ..)) <;> [rfl; skip]) | ((with_reducible apply Changes.foldl) <;> [(intro _ _ _); skip]) | split)

theorem State.deliver_changes (s : State) (fseq : Nat) (r : Rec) :
    Changes [.cmq, .land, .media, .ports, .out, .free] s (State.deliver s fseq r) := by
  have h0 := Changes.refl [.cmq, .land, .media, .ports, .out, .free] s
  unfold State.deliver
  repeat' (first
    | ((first | intro x | (lift_lets; intro x)); first | (guard_hyp x : State := _; have hx : Changes [.cmq, .land, .media, .ports, .out, .free] s x := (by unfold x; repeat' (first | with_reducible assumption | ((conv => (arg 3; arg 24; skip)); ((with_reducible apply Changes.free_with) <;> [rfl; skip])) | ((with_reducible apply Changes.step (State.granuleDone_changes ..)) <;> [rfl; skip]) | ((with_reducible apply Changes.step (State.quit_changes ..)) <;> [rfl; skip]) | ((with_reducible apply Changes.step (State.setCmd_changes ..)) <;> [rfl; skip]) | ((with_reducible apply Changes.foldl) <;> [(intro _ _ _); skip]) | split)); clear_value x) | clear_value x | skip)
    | with_reducible assumption | ((conv => (arg 3; arg 24; skip)); ((with_reducible apply Changes.free_with) <;> [rfl; skip])) | ((with_reducible apply Changes.step (State.granuleDone_changes ..)) <;> [rfl; skip]) | ((with_reducible apply Changes.step (State.quit_changes ..)) <;> [rfl; skip]) | ((with_reducible apply Changes.step (State.setCmd_changes ..)) <;> [rfl; skip]) | ((with_reducible apply Changes.foldl) <;> [(intro _ _ _); skip])
    | split)

theorem State.undeliver_changes (s : State) (fseq : Nat) (g : Nat) :
    Changes [.cmq, .land, .media, .ports, .out, .free] s (State.undeliver s fseq g) := by
  have h0 := Changes.refl [.cmq, .land, .media, .ports, .out, .free] s
  unfold State.undeliver
  repeat' (first | with_reducible assumption | ((with_reducible apply Changes.step (State.granuleDone_changes ..)) <;> [rfl; skip]) | ((with_reducible apply Changes.step (State.setCmd_changes ..)) <;> [rfl; skip]) | ((with_reducible apply Changes.foldl) <;> [(intro _ _ _); skip]) | split)

theorem State.withPages_changes {ps : List Part} (s : State) (fseq : Nat) (pks : List Nat) (f : State → State) (s0 : State) (h : ∀ y0, Changes ps s0 y0 → Changes ps s0 (f y0)) (hc : covers [.cmq, .media, .out] ps = true) (k : Changes ps s0 s) : Changes ps s0 (State.withPages s fseq pks f) := by
  unfold State.withPages
  repeat' (first | with_reducible assumption | ((with_reducible apply Changes.step (State.readMapPage_changes ..)) <;> [(refine covers_trans (by rfl) hc); skip]) | ((with_reducible apply Changes.step (State.setCmd_changes ..)) <;> [(refine covers_trans (by rfl) hc); skip]) | (with_reducible apply h) | split)

theorem State.writeZeroes_changes (s : State) (c : Cmd) (fseq : Nat) (nsid : Nat) (slba : Nat) (nlb : Nat) (dealloc : Bool) :
    Changes [.evr, .cmq, .land, .media, .ports, .out, .free] s (State.writeZeroes s c fseq nsid slba nlb dealloc) := by
  have h0 := Changes.refl [.evr, .cmq, .land, .media, .ports, .out, .free] s
  unfold State.writeZeroes
  repeat' (first
    | ((first | intro x | (lift_lets; intro x)); first | (guard_hyp x : State := _; have hx : Changes [.evr, .cmq, .land, .media, .ports, .out, .free] s x := (by unfold x; repeat' (first | with_reducible assumption | ((with_reducible apply Changes.step (State.complete_changes ..)) <;> [rfl; skip]) | ((with_reducible apply Changes.step (State.landStart_changes ..)) <;> [rfl; skip]) | ((with_reducible apply Changes.step (State.resumeAll_changes ..)) <;> [rfl; skip]) | ((with_reducible apply Changes.step (State.setCmd_changes ..)) <;> [rfl; skip]) | ((with_reducible apply Changes.step (State.settleStripes_changes ..)) <;> [rfl; skip]) | (((with_reducible apply State.withPages_changes) <;> [(intro _ _); rfl; skip])) | ((with_reducible apply Changes.step (State.zeroUnits_changes ..)) <;> [rfl; skip]) | ((with_reducible apply Changes.step (State.zoneAdvance_changes ..)) <;> [rfl; skip]) | ((with_reducible apply Changes.foldl) <;> [(intro _ _ _); skip]) | split)); clear_value x) | clear_value x | skip)
    | with_reducible assumption | ((with_reducible apply Changes.step (State.complete_changes ..)) <;> [rfl; skip]) | ((with_reducible apply Changes.step (State.landStart_changes ..)) <;> [rfl; skip]) | ((with_reducible apply Changes.step (State.resumeAll_changes ..)) <;> [rfl; skip]) | ((with_reducible apply Changes.step (State.setCmd_changes ..)) <;> [rfl; skip]) | ((with_reducible apply Changes.step (State.settleStripes_changes ..)) <;> [rfl; skip]) | (((with_reducible apply State.withPages_changes) <;> [(intro _ _); rfl; skip])) | ((with_reducible apply Changes.step (State.zeroUnits_changes ..)) <;> [rfl; skip]) | ((with_reducible apply Changes.step (State.zoneAdvance_changes ..)) <;> [rfl; skip]) | ((with_reducible apply Changes.foldl) <;> [(intro _ _ _); skip])
    | split)

theorem State.deallocate_changes (s : State) (c : Cmd) (fseq : Nat) (nsid : Nat) (dealloc : Bool) (ranges : List (Nat × Nat)) :
    Changes [.evr, .cmq, .land, .media, .ports, .out, .free] s (State.deallocate s c fseq nsid dealloc ranges) := by
  have h0 := Changes.refl [.evr, .cmq, .land, .media, .ports, .out, .free] s
  unfold State.deallocate
  repeat' (first
    | ((first | intro x | (lift_lets; intro x)); first | (guard_hyp x : State := _; have hx : Changes [.evr, .cmq, .land, .media, .ports, .out, .free] s x := (by unfold x; repeat' (first | with_reducible assumption | ((with_reducible apply Changes.step (State.complete_changes ..)) <;> [rfl; skip]) | ((with_reducible apply Changes.step (State.resumeAll_changes ..)) <;> [rfl; skip]) | ((with_reducible apply Changes.step (State.setUnits_changes ..)) <;> [rfl; skip]) | ((with_reducible apply Changes.step (State.settleStripes_changes ..)) <;> [rfl; skip]) | (((with_reducible apply State.withPages_changes) <;> [(intro _ _); rfl; skip])) | ((with_reducible apply Changes.foldl) <;> [(intro _ _ _); skip]) | split)); clear_value x) | clear_value x | skip)
    | with_reducible assumption | ((with_reducible apply Changes.step (State.complete_changes ..)) <;> [rfl; skip]) | ((with_reducible apply Changes.step (State.resumeAll_changes ..)) <;> [rfl; skip]) | ((with_reducible apply Changes.step (State.setUnits_changes ..)) <;> [rfl; skip]) | ((with_reducible apply Changes.step (State.settleStripes_changes ..)) <;> [rfl; skip]) | (((with_reducible apply State.withPages_changes) <;> [(intro _ _); rfl; skip])) | ((with_reducible apply Changes.foldl) <;> [(intro _ _ _); skip])
    | split)

theorem State.closeZoneStripe_changes (s : State) (ns : Nat) (z : Nat) :
    Changes [.media, .out] s (State.closeZoneStripe s ns z) := by
  have h0 := Changes.refl [.media, .out] s
  unfold State.closeZoneStripe
  repeat' (first | with_reducible assumption | ((with_reducible apply Changes.step (State.closeStripe_changes ..)) <;> [rfl; skip]) | ((with_reducible apply Changes.foldl) <;> [(intro _ _ _); skip]) | split)

theorem State.finishZone_changes (s : State) (ns : Nat) (z : Nat) :
    Changes [.media, .out] s (State.finishZone s ns z) := by
  have h0 := Changes.refl [.media, .out] s
  unfold State.finishZone
  repeat' (first | with_reducible assumption | ((with_reducible apply Changes.step (State.closeZoneStripe_changes ..)) <;> [rfl; skip]) | ((with_reducible apply Changes.step (State.setZone_changes ..)) <;> [rfl; skip]) | ((with_reducible apply Changes.foldl) <;> [(intro _ _ _); skip]) | split)

theorem State.resetZone_changes (s : State) (ns : Nat) (n : Namespace) (z : Nat) :
    Changes [.evr, .cmq, .land, .media, .ports, .out] s (State.resetZone s ns n z) := by
  have h0 := Changes.refl [.evr, .cmq, .land, .media, .ports, .out] s
  unfold State.resetZone
  repeat' (first
    | ((first | intro x | (lift_lets; intro x)); first | (guard_hyp x : State := _; have hx : Changes [.evr, .cmq, .land, .media, .ports, .out] s x := (by unfold x; repeat' (first | with_reducible assumption | ((with_reducible apply Changes.step (State.closeZoneStripe_changes ..)) <;> [rfl; skip]) | ((with_reducible apply Changes.step (State.setNs_changes ..)) <;> [rfl; skip]) | ((with_reducible apply Changes.step (State.setUnits_changes ..)) <;> [rfl; skip]) | ((with_reducible apply Changes.step (State.settleStripes_changes ..)) <;> [rfl; skip]) | ((with_reducible apply Changes.foldl) <;> [(intro _ _ _); skip]) | split)); clear_value x) | clear_value x | skip)
    | with_reducible assumption | ((with_reducible apply Changes.step (State.closeZoneStripe_changes ..)) <;> [rfl; skip]) | ((with_reducible apply Changes.step (State.setNs_changes ..)) <;> [rfl; skip]) | ((with_reducible apply Changes.step (State.setUnits_changes ..)) <;> [rfl; skip]) | ((with_reducible apply Changes.step (State.settleStripes_changes ..)) <;> [rfl; skip]) | ((with_reducible apply Changes.foldl) <;> [(intro _ _ _); skip])
    | split)

theorem State.openZone_changes (s : State) (ns : Nat) (z : Nat) :
    Changes [.media] s (State.openZone s ns z) := by
  have h0 := Changes.refl [.media] s
  unfold State.openZone
  repeat' (first | with_reducible assumption | ((with_reducible apply Changes.step (State.setZone_changes ..)) <;> [rfl; skip]) | ((with_reducible apply Changes.foldl) <;> [(intro _ _ _); skip]) | split)

theorem State.closeZone_changes (s : State) (ns : Nat) (z : Nat) :
    Changes [.media] s (State.closeZone s ns z) := by
  have h0 := Changes.refl [.media] s
  unfold State.closeZone
  repeat' (first | with_reducible assumption | ((with_reducible apply Changes.step (State.setZone_changes ..)) <;> [rfl; skip]) | ((with_reducible apply Changes.foldl) <;> [(intro _ _ _); skip]) | split)

theorem State.zoneDo_changes (s : State) (ns : Nat) (n : Namespace) (z : Nat) (x0 : ZoneAct) :
    Changes [.evr, .cmq, .land, .media, .ports, .out] s (State.zoneDo s ns n z x0) := by
  have h0 := Changes.refl [.evr, .cmq, .land, .media, .ports, .out] s
  unfold State.zoneDo
  repeat' (first | with_reducible assumption | ((with_reducible apply Changes.step (State.closeZone_changes ..)) <;> [rfl; skip]) | ((with_reducible apply Changes.step (State.finishZone_changes ..)) <;> [rfl; skip]) | ((with_reducible apply Changes.step (State.openZone_changes ..)) <;> [rfl; skip]) | ((with_reducible apply Changes.step (State.resetZone_changes ..)) <;> [rfl; skip]) | ((with_reducible apply Changes.foldl) <;> [(intro _ _ _); skip]) | split)

theorem State.zoneSend_changes (s : State) (c : Cmd) (fseq : Nat) (nsid : Nat) (slba : Nat) (allZones : Bool) (act : ZoneAct) :
    Changes [.evr, .cmq, .land, .media, .ports, .out] s (State.zoneSend s c fseq nsid slba allZones act) := by
  have h0 := Changes.refl [.evr, .cmq, .land, .media, .ports, .out] s
  unfold State.zoneSend
  repeat' (first
    | ((first | intro x | (lift_lets; intro x)); first | (guard_hyp x : State := _; have hx : Changes [.evr, .cmq, .land, .media, .ports, .out] s x := (by unfold x; repeat' (first | with_reducible assumption | ((with_reducible apply Changes.step (State.complete_changes ..)) <;> [rfl; skip]) | ((with_reducible apply Changes.step (State.openZone_changes ..)) <;> [rfl; skip]) | (((with_reducible apply State.withPages_changes) <;> [(intro _ _); rfl; skip])) | ((with_reducible apply Changes.step (State.zoneDo_changes ..)) <;> [rfl; skip]) | ((with_reducible apply Changes.foldl) <;> [(intro _ _ _); skip]) | split)); clear_value x) | clear_value x | skip)
    | with_reducible assumption | ((with_reducible apply Changes.step (State.complete_changes ..)) <;> [rfl; skip]) | ((with_reducible apply Changes.step (State.openZone_changes ..)) <;> [rfl; skip]) | (((with_reducible apply State.withPages_changes) <;> [(intro _ _); rfl; skip])) | ((with_reducible apply Changes.step (State.zoneDo_changes ..)) <;> [rfl; skip]) | ((with_reducible apply Changes.foldl) <;> [(intro _ _ _); skip])
    | split)

theorem State.wake_changes (s : State) (fseq : Nat) :
    Changes [.evr, .cmq, .land, .media, .ports, .out, .free] s (State.wake s fseq) := by
  have h0 := Changes.refl [.evr, .cmq, .land, .media, .ports, .out, .free] s
  unfold State.wake
  repeat' (first
    | ((first | intro x | (lift_lets; intro x)); first | (guard_hyp x : State := _; have hx : Changes [.evr, .cmq, .land, .media, .ports, .out, .free] s x := (by unfold x; repeat' (first | with_reducible assumption | ((with_reducible apply Changes.step (State.deallocate_changes ..)) <;> [rfl; skip]) | ((with_reducible apply Changes.step (State.landStart_changes ..)) <;> [rfl; skip]) | ((with_reducible apply Changes.step (State.setCmd_changes ..)) <;> [rfl; skip]) | ((with_reducible apply Changes.step (State.startIo_changes ..)) <;> [rfl; skip]) | ((with_reducible apply Changes.step (State.writeZeroes_changes ..)) <;> [rfl; skip]) | ((with_reducible apply Changes.step (State.zoneSend_changes ..)) <;> [rfl; skip]) | ((with_reducible apply Changes.foldl) <;> [(intro _ _ _); skip]) | split)); clear_value x) | clear_value x | skip)
    | with_reducible assumption | ((with_reducible apply Changes.step (State.deallocate_changes ..)) <;> [rfl; skip]) | ((with_reducible apply Changes.step (State.landStart_changes ..)) <;> [rfl; skip]) | ((with_reducible apply Changes.step (State.setCmd_changes ..)) <;> [rfl; skip]) | ((with_reducible apply Changes.step (State.startIo_changes ..)) <;> [rfl; skip]) | ((with_reducible apply Changes.step (State.writeZeroes_changes ..)) <;> [rfl; skip]) | ((with_reducible apply Changes.step (State.zoneSend_changes ..)) <;> [rfl; skip]) | ((with_reducible apply Changes.foldl) <;> [(intro _ _ _); skip])
    | split)

theorem State.paceWindow_changes (s : State) (n : Fin 16) (cycles : Nat) :
    Changes [.pace, .evr] s (State.paceWindow s n cycles) := by
  have h0 := Changes.refl [.pace, .evr] s
  unfold State.paceWindow
  repeat' (first
    | ((first | intro x | (lift_lets; intro x)); first | (guard_hyp x : State := _; have hx : Changes [.pace, .evr] s x := (by unfold x; repeat' (first | with_reducible assumption | ((conv => (arg 3; arg 24; skip)); ((with_reducible apply Changes.pace_with) <;> [rfl; skip])) | ((with_reducible apply Changes.step (State.log_changes ..)) <;> [rfl; skip]) | ((with_reducible apply Changes.foldl) <;> [(intro _ _ _); skip]) | split)); clear_value x) | clear_value x | skip)
    | with_reducible assumption | ((conv => (arg 3; arg 24; skip)); ((with_reducible apply Changes.pace_with) <;> [rfl; skip])) | ((with_reducible apply Changes.step (State.log_changes ..)) <;> [rfl; skip]) | ((with_reducible apply Changes.foldl) <;> [(intro _ _ _); skip])
    | split)

theorem State.tbFallback_changes (s : State) (b : TbSource) :
    Changes [.tb, .evr] s (State.tbFallback s b) := by
  have h0 := Changes.refl [.tb, .evr] s
  unfold State.tbFallback
  repeat' (first
    | ((first | intro x | (lift_lets; intro x)); first | (guard_hyp x : State := _; have hx : Changes [.tb, .evr] s x := (by unfold x; repeat' (first | with_reducible assumption | ((conv => (arg 3; arg 24; skip)); ((with_reducible apply Changes.tb_with) <;> [rfl; skip])) | ((with_reducible apply Changes.step (State.log_changes ..)) <;> [rfl; skip]) | ((with_reducible apply Changes.foldl) <;> [(intro _ _ _); skip]) | split)); clear_value x) | clear_value x | skip)
    | with_reducible assumption | ((conv => (arg 3; arg 24; skip)); ((with_reducible apply Changes.tb_with) <;> [rfl; skip])) | ((with_reducible apply Changes.step (State.log_changes ..)) <;> [rfl; skip]) | ((with_reducible apply Changes.foldl) <;> [(intro _ _ _); skip])
    | split)

theorem State.tbSourceStop_changes (s : State) (src : TbSource) :
    Changes [.tb, .evr] s (State.tbSourceStop s src) := by
  have h0 := Changes.refl [.tb, .evr] s
  unfold State.tbSourceStop
  repeat' (first
    | ((first | intro x | (lift_lets; intro x)); first | (guard_hyp x : State := _; have hx : Changes [.tb, .evr] s x := (by unfold x; repeat' (first | with_reducible assumption | ((conv => (arg 3; arg 24; skip)); ((with_reducible apply Changes.tb_with) <;> [rfl; skip])) | ((with_reducible apply Changes.step (State.tbFallback_changes ..)) <;> [rfl; skip]) | ((with_reducible apply Changes.foldl) <;> [(intro _ _ _); skip]) | split)); clear_value x) | clear_value x | skip)
    | with_reducible assumption | ((conv => (arg 3; arg 24; skip)); ((with_reducible apply Changes.tb_with) <;> [rfl; skip])) | ((with_reducible apply Changes.step (State.tbFallback_changes ..)) <;> [rfl; skip]) | ((with_reducible apply Changes.foldl) <;> [(intro _ _ _); skip])
    | split)

theorem State.tbSelect_changes (s : State) (sel : BitVec 2) :
    Changes [.tb, .evr] s (State.tbSelect s sel) := by
  have h0 := Changes.refl [.tb, .evr] s
  unfold State.tbSelect
  repeat' (first
    | ((first | intro x | (lift_lets; intro x)); first | (guard_hyp x : State := _; have hx : Changes [.tb, .evr] s x := (by unfold x; repeat' (first | with_reducible assumption | ((conv => (arg 3; arg 24; skip)); ((with_reducible apply Changes.tb_with) <;> [rfl; skip])) | ((with_reducible apply Changes.step (State.tbFallback_changes ..)) <;> [rfl; skip]) | ((with_reducible apply Changes.foldl) <;> [(intro _ _ _); skip]) | split)); clear_value x) | clear_value x | skip)
    | with_reducible assumption | ((conv => (arg 3; arg 24; skip)); ((with_reducible apply Changes.tb_with) <;> [rfl; skip])) | ((with_reducible apply Changes.step (State.tbFallback_changes ..)) <;> [rfl; skip]) | ((with_reducible apply Changes.foldl) <;> [(intro _ _ _); skip])
    | split)

theorem State.outage_changes (s : State) (code : Nat) (unit : Nat) (src : Nat) (data : List Byte) :
    Changes [.units, .evr] s (State.outage s code unit src data) := by
  have h0 := Changes.refl [.units, .evr] s
  unfold State.outage
  repeat' (first | with_reducible assumption | ((conv => (arg 3; arg 24; skip)); ((with_reducible apply Changes.units_with) <;> [rfl; skip])) | ((with_reducible apply Changes.step (State.log_changes ..)) <;> [rfl; skip]) | ((with_reducible apply Changes.foldl) <;> [(intro _ _ _); skip]) | split)

theorem State.outageWith_changes (s : State) (code : Nat) (unit : Nat) (src : Nat) (ev : Ev) :
    Changes [.units, .evr] s (State.outageWith s code unit src ev) := by
  have h0 := Changes.refl [.units, .evr] s
  unfold State.outageWith
  repeat' (first | with_reducible assumption | ((conv => (arg 3; arg 24; skip)); ((with_reducible apply Changes.units_with) <;> [rfl; skip])) | ((with_reducible apply Changes.step (State.logs_changes ..)) <;> [rfl; skip]) | ((with_reducible apply Changes.foldl) <;> [(intro _ _ _); skip]) | split)

theorem State.pairFails_changes (s : State) :
    Changes [.units, .evr, .cmq, .land, .media, .ports, .sdm, .vault, .sec, .bst, .boot, .out] s (State.pairFails s) := by
  have h0 := Changes.refl [.units, .evr, .cmq, .land, .media, .ports, .sdm, .vault, .sec, .bst, .boot, .out] s
  unfold State.pairFails
  repeat' (first
    | ((first | intro x | (lift_lets; intro x)); first | (guard_hyp x : State := _; have hx : Changes [.units, .evr, .cmq, .land, .media, .ports, .sdm, .vault, .sec, .bst, .boot, .out] s x := (by unfold x; repeat' (first | with_reducible assumption | ((conv => (arg 3; arg 24; skip)); ((with_reducible apply Changes.units_sec_with) <;> [rfl; rfl; skip])) | ((with_reducible apply Changes.step (State.contain_changes ..)) <;> [rfl; skip]) | ((with_reducible apply Changes.step (State.eraseKeys_changes ..)) <;> [rfl; skip]) | ((with_reducible apply Changes.step (State.outage_changes ..)) <;> [rfl; skip]) | ((with_reducible apply Changes.foldl) <;> [(intro _ _ _); skip]) | split)); clear_value x) | clear_value x | skip)
    | with_reducible assumption | ((conv => (arg 3; arg 24; skip)); ((with_reducible apply Changes.units_sec_with) <;> [rfl; rfl; skip])) | ((with_reducible apply Changes.step (State.contain_changes ..)) <;> [rfl; skip]) | ((with_reducible apply Changes.step (State.eraseKeys_changes ..)) <;> [rfl; skip]) | ((with_reducible apply Changes.step (State.outage_changes ..)) <;> [rfl; skip]) | ((with_reducible apply Changes.foldl) <;> [(intro _ _ _); skip])
    | split)

theorem State.coreFails_changes (s : State) (c : Fin 32) :
    Changes [.units, .evr, .cmq, .land, .media, .ports, .sdm, .vault, .sec, .bst, .boot, .out] s (State.coreFails s c) := by
  have h0 := Changes.refl [.units, .evr, .cmq, .land, .media, .ports, .sdm, .vault, .sec, .bst, .boot, .out] s
  unfold State.coreFails
  repeat' (first
    | ((first | intro x | (lift_lets; intro x)); first | (guard_hyp x : State := _; have hx : Changes [.units, .evr, .cmq, .land, .media, .ports, .sdm, .vault, .sec, .bst, .boot, .out] s x := (by unfold x; repeat' (first | with_reducible assumption | ((conv => (arg 3; arg 24; skip)); ((with_reducible apply Changes.units_with) <;> [rfl; skip])) | ((with_reducible apply Changes.step (State.fatal_changes ..)) <;> [rfl; skip]) | ((with_reducible apply Changes.step (State.outage_changes ..)) <;> [rfl; skip]) | ((with_reducible apply Changes.step (State.pairFails_changes ..)) <;> [rfl; skip]) | ((with_reducible apply Changes.foldl) <;> [(intro _ _ _); skip]) | split)); clear_value x) | clear_value x | skip)
    | with_reducible assumption | ((conv => (arg 3; arg 24; skip)); ((with_reducible apply Changes.units_with) <;> [rfl; skip])) | ((with_reducible apply Changes.step (State.fatal_changes ..)) <;> [rfl; skip]) | ((with_reducible apply Changes.step (State.outage_changes ..)) <;> [rfl; skip]) | ((with_reducible apply Changes.step (State.pairFails_changes ..)) <;> [rfl; skip]) | ((with_reducible apply Changes.foldl) <;> [(intro _ _ _); skip])
    | split)

theorem State.declareCore_changes (s : State) (c : Fin 32) :
    Changes [.units, .evr, .cmq, .land, .media, .ports, .sdm, .vault, .sec, .bst, .boot, .out] s (State.declareCore s c) := by
  have h0 := Changes.refl [.units, .evr, .cmq, .land, .media, .ports, .sdm, .vault, .sec, .bst, .boot, .out] s
  unfold State.declareCore
  repeat' (first
    | ((first | intro x | (lift_lets; intro x)); first | (guard_hyp x : State := _; have hx : Changes [.units, .evr, .cmq, .land, .media, .ports, .sdm, .vault, .sec, .bst, .boot, .out] s x := (by unfold x; repeat' (first | with_reducible assumption | ((conv => (arg 3; arg 24; skip)); ((with_reducible apply Changes.units_with) <;> [rfl; skip])) | ((with_reducible apply Changes.step (State.coreFails_changes ..)) <;> [rfl; skip]) | ((with_reducible apply Changes.step (State.pairFails_changes ..)) <;> [rfl; skip]) | ((with_reducible apply Changes.foldl) <;> [(intro _ _ _); skip]) | split)); clear_value x) | clear_value x | skip)
    | with_reducible assumption | ((conv => (arg 3; arg 24; skip)); ((with_reducible apply Changes.units_with) <;> [rfl; skip])) | ((with_reducible apply Changes.step (State.coreFails_changes ..)) <;> [rfl; skip]) | ((with_reducible apply Changes.step (State.pairFails_changes ..)) <;> [rfl; skip]) | ((with_reducible apply Changes.foldl) <;> [(intro _ _ _); skip])
    | split)

theorem State.returned_changes (s : State) (back : Nat × Nat × Byte → Bool) :
    Changes [.units, .evr] s (State.returned s back) := by
  have h0 := Changes.refl [.units, .evr] s
  unfold State.returned
  repeat' (first
    | ((first | intro x | (lift_lets; intro x)); first | (guard_hyp x : State := _; have hx : Changes [.units, .evr] s x := (by unfold x; repeat' (first | with_reducible assumption | ((conv => (arg 3; arg 24; skip)); ((with_reducible apply Changes.units_with) <;> [rfl; skip])) | ((with_reducible apply Changes.step (State.logs_changes ..)) <;> [rfl; skip]) | ((with_reducible apply Changes.foldl) <;> [(intro _ _ _); skip]) | split)); clear_value x) | clear_value x | skip)
    | with_reducible assumption | ((conv => (arg 3; arg 24; skip)); ((with_reducible apply Changes.units_with) <;> [rfl; skip])) | ((with_reducible apply Changes.step (State.logs_changes ..)) <;> [rfl; skip]) | ((with_reducible apply Changes.foldl) <;> [(intro _ _ _); skip])
    | split)

theorem State.heartbeat_changes (s : State) (c : Fin 32) :
    Changes [.units, .evr] s (State.heartbeat s c) := by
  have h0 := Changes.refl [.units, .evr] s
  unfold State.heartbeat
  repeat' (first
    | ((first | intro x | (lift_lets; intro x)); first | (guard_hyp x : State := _; have hx : Changes [.units, .evr] s x := (by unfold x; repeat' (first | with_reducible assumption | ((conv => (arg 3; arg 24; skip)); ((with_reducible apply Changes.units_with) <;> [rfl; skip])) | ((with_reducible apply Changes.step (State.returned_changes ..)) <;> [rfl; skip]) | ((with_reducible apply Changes.foldl) <;> [(intro _ _ _); skip]) | split)); clear_value x) | clear_value x | skip)
    | with_reducible assumption | ((conv => (arg 3; arg 24; skip)); ((with_reducible apply Changes.units_with) <;> [rfl; skip])) | ((with_reducible apply Changes.step (State.returned_changes ..)) <;> [rfl; skip]) | ((with_reducible apply Changes.foldl) <;> [(intro _ _ _); skip])
    | split)

theorem State.decoderFails_changes (s : State) (sl : Fin 8) (soft : Bool) (idx : Fin 8) :
    Changes [.units, .evr, .cmq, .land, .media, .ports, .sdm, .bst, .boot, .out] s (State.decoderFails s sl soft idx) := by
  have h0 := Changes.refl [.units, .evr, .cmq, .land, .media, .ports, .sdm, .bst, .boot, .out] s
  unfold State.decoderFails
  repeat' (first
    | ((first | intro x | (lift_lets; intro x)); first | (guard_hyp x : State := _; have hx : Changes [.units, .evr, .cmq, .land, .media, .ports, .sdm, .bst, .boot, .out] s x := (by unfold x; repeat' (first | with_reducible assumption | ((conv => (arg 3; arg 24; skip)); ((with_reducible apply Changes.media_with) <;> [rfl; skip])) | ((conv => (arg 3; arg 24; skip)); ((with_reducible apply Changes.units_with) <;> [rfl; skip])) | ((with_reducible apply Changes.step (State.fatal_changes ..)) <;> [rfl; skip]) | ((with_reducible apply Changes.step (State.log_changes ..)) <;> [rfl; skip]) | ((with_reducible apply Changes.step (State.outage_changes ..)) <;> [rfl; skip]) | ((with_reducible apply Changes.step (State.outageWith_changes ..)) <;> [rfl; skip]) | ((with_reducible apply Changes.foldl) <;> [(intro _ _ _); skip]) | split)); clear_value x) | clear_value x | skip)
    | with_reducible assumption | ((conv => (arg 3; arg 24; skip)); ((with_reducible apply Changes.media_with) <;> [rfl; skip])) | ((conv => (arg 3; arg 24; skip)); ((with_reducible apply Changes.units_with) <;> [rfl; skip])) | ((with_reducible apply Changes.step (State.fatal_changes ..)) <;> [rfl; skip]) | ((with_reducible apply Changes.step (State.log_changes ..)) <;> [rfl; skip]) | ((with_reducible apply Changes.step (State.outage_changes ..)) <;> [rfl; skip]) | ((with_reducible apply Changes.step (State.outageWith_changes ..)) <;> [rfl; skip]) | ((with_reducible apply Changes.foldl) <;> [(intro _ _ _); skip])
    | split)

theorem State.compressionFails_changes (s : State) (sl : Fin 8) :
    Changes [.units, .evr, .cmq, .land, .media, .ports, .sdm, .bst, .boot, .out] s (State.compressionFails s sl) := by
  have h0 := Changes.refl [.units, .evr, .cmq, .land, .media, .ports, .sdm, .bst, .boot, .out] s
  unfold State.compressionFails
  repeat' (first
    | ((first | intro x | (lift_lets; intro x)); first | (guard_hyp x : State := _; have hx : Changes [.units, .evr, .cmq, .land, .media, .ports, .sdm, .bst, .boot, .out] s x := (by unfold x; repeat' (first | with_reducible assumption | ((conv => (arg 3; arg 24; skip)); ((with_reducible apply Changes.units_media_with) <;> [rfl; rfl; skip])) | ((with_reducible apply Changes.step (State.fatal_changes ..)) <;> [rfl; skip]) | ((with_reducible apply Changes.step (State.outage_changes ..)) <;> [rfl; skip]) | ((with_reducible apply Changes.foldl) <;> [(intro _ _ _); skip]) | split)); clear_value x) | clear_value x | skip)
    | with_reducible assumption | ((conv => (arg 3; arg 24; skip)); ((with_reducible apply Changes.units_media_with) <;> [rfl; rfl; skip])) | ((with_reducible apply Changes.step (State.fatal_changes ..)) <;> [rfl; skip]) | ((with_reducible apply Changes.step (State.outage_changes ..)) <;> [rfl; skip]) | ((with_reducible apply Changes.foldl) <;> [(intro _ _ _); skip])
    | split)

theorem State.laneFails_changes (s : State) (sl : Fin 8) :
    Changes [.units, .evr, .cmq, .land, .media, .ports, .sdm, .bst, .boot, .out] s (State.laneFails s sl) := by
  have h0 := Changes.refl [.units, .evr, .cmq, .land, .media, .ports, .sdm, .bst, .boot, .out] s
  unfold State.laneFails
  repeat' (first
    | ((first | intro x | (lift_lets; intro x)); first | (guard_hyp x : State := _; have hx : Changes [.units, .evr, .cmq, .land, .media, .ports, .sdm, .bst, .boot, .out] s x := (by unfold x; repeat' (first | with_reducible assumption | ((conv => (arg 3; arg 24; skip)); ((with_reducible apply Changes.units_with) <;> [rfl; skip])) | ((with_reducible apply Changes.step (State.fatal_changes ..)) <;> [rfl; skip]) | ((with_reducible apply Changes.step (State.outage_changes ..)) <;> [rfl; skip]) | ((with_reducible apply Changes.foldl) <;> [(intro _ _ _); skip]) | split)); clear_value x) | clear_value x | skip)
    | with_reducible assumption | ((conv => (arg 3; arg 24; skip)); ((with_reducible apply Changes.units_with) <;> [rfl; skip])) | ((with_reducible apply Changes.step (State.fatal_changes ..)) <;> [rfl; skip]) | ((with_reducible apply Changes.step (State.outage_changes ..)) <;> [rfl; skip]) | ((with_reducible apply Changes.foldl) <;> [(intro _ _ _); skip])
    | split)

theorem State.powerCapTick_changes (s : State) (power : Nat) :
    Changes [.avs, .out] s (State.powerCapTick s power) := by
  have h0 := Changes.refl [.avs, .out] s
  unfold State.powerCapTick
  repeat' (first
    | ((first | intro x | (lift_lets; intro x)); first | (guard_hyp x : State := _; have hx : Changes [.avs, .out] s x := (by unfold x; repeat' (first | with_reducible assumption | ((conv => (arg 3; arg 24; skip)); ((with_reducible apply Changes.avs_with) <;> [rfl; skip])) | ((with_reducible apply Changes.step (State.emit_changes ..)) <;> [rfl; skip]) | ((with_reducible apply Changes.foldl) <;> [(intro _ _ _); skip]) | split)); clear_value x) | clear_value x | skip)
    | with_reducible assumption | ((conv => (arg 3; arg 24; skip)); ((with_reducible apply Changes.avs_with) <;> [rfl; skip])) | ((with_reducible apply Changes.step (State.emit_changes ..)) <;> [rfl; skip]) | ((with_reducible apply Changes.foldl) <;> [(intro _ _ _); skip])
    | split)

theorem State.write_changes (s : State) (fseq : Nat) :
    Changes [.cmq, .land, .media, .ports, .out, .free] s (State.write s fseq) := by
  have h0 := Changes.refl [.cmq, .land, .media, .ports, .out, .free] s
  unfold State.write
  repeat' (first | with_reducible assumption | ((with_reducible apply Changes.step (State.landStart_changes ..)) <;> [rfl; skip]) | ((with_reducible apply Changes.step (State.tryReadBack_changes ..)) <;> [rfl; skip]) | ((with_reducible apply Changes.foldl) <;> [(intro _ _ _); skip]) | split)

theorem State.dataLanded_changes (s : State) (fseq : Nat) (data : List Sector) :
    Changes [.cmq, .land, .out] s (State.dataLanded s fseq data) := by
  have h0 := Changes.refl [.cmq, .land, .out] s
  unfold State.dataLanded
  repeat' (first | with_reducible assumption | ((with_reducible apply Changes.step (State.setCmd_changes ..)) <;> [rfl; skip]) | ((with_reducible apply Changes.step (State.tryLand_changes ..)) <;> [rfl; skip]) | ((with_reducible apply Changes.foldl) <;> [(intro _ _ _); skip]) | split)

theorem State.readBackReturn_changes (s : State) (fseq : Nat) (ok : Bool) :
    Changes [.evr, .cmq, .land, .media, .ports, .out, .free] s (State.readBackReturn s fseq ok) := by
  have h0 := Changes.refl [.evr, .cmq, .land, .media, .ports, .out, .free] s
  unfold State.readBackReturn
  repeat' (first | with_reducible assumption | ((with_reducible apply Changes.step (State.commit_changes ..)) <;> [rfl; skip]) | ((with_reducible apply Changes.step (State.quit_changes ..)) <;> [rfl; skip]) | ((with_reducible apply Changes.foldl) <;> [(intro _ _ _); skip]) | split)

theorem State.packUnit_changes (s : State) (r : Nat) (row : Row) (t : Stripe) (sl : Fin 8) (ls : List (Nat × Line)) (lens : List (Nat × Bool)) (zero : Bool) :
    Changes [.land, .media] s (State.packUnit s r row t sl ls lens zero) := by
  have h0 := Changes.refl [.land, .media] s
  unfold State.packUnit
  repeat' (first
    | ((first | intro x | (lift_lets; intro x)); first | (guard_hyp x : State := _; have hx : Changes [.land, .media] s x := (by unfold x; repeat' (first | with_reducible assumption | ((conv => (arg 3; arg 24; skip)); ((with_reducible apply Changes.land_media_with) <;> [rfl; rfl; skip])) | ((with_reducible apply Changes.step (State.setMedia_changes ..)) <;> [rfl; skip]) | ((with_reducible apply Changes.foldl) <;> [(intro _ _ _); skip]) | split)); clear_value x) | clear_value x | skip)
    | with_reducible assumption | ((conv => (arg 3; arg 24; skip)); ((with_reducible apply Changes.land_media_with) <;> [rfl; rfl; skip])) | ((with_reducible apply Changes.step (State.setMedia_changes ..)) <;> [rfl; skip]) | ((with_reducible apply Changes.foldl) <;> [(intro _ _ _); skip])
    | split)

theorem State.kpioPacked_changes (s : State) (ns : List Nat) :
    Changes [.cmq, .land, .media, .ports, .sec, .out] s (State.kpioPacked s ns) := by
  have h0 := Changes.refl [.cmq, .land, .media, .ports, .sec, .out] s
  unfold State.kpioPacked
  repeat' (first
    | ((first | intro x | (lift_lets; intro x)); first | (guard_hyp x : State := _; have hx : Changes [.cmq, .land, .media, .ports, .sec, .out] s x := (by unfold x; repeat' (first | with_reducible assumption | ((conv => (arg 3; arg 24; skip)); ((with_reducible apply Changes.cmq_sec_with) <;> [rfl; rfl; skip])) | ((with_reducible apply Changes.step (State.tryComplete_changes ..)) <;> [rfl; skip]) | ((with_reducible apply Changes.foldl) <;> [(intro _ _ _); skip]) | split)); clear_value x) | clear_value x | skip)
    | with_reducible assumption | ((conv => (arg 3; arg 24; skip)); ((with_reducible apply Changes.cmq_sec_with) <;> [rfl; rfl; skip])) | ((with_reducible apply Changes.step (State.tryComplete_changes ..)) <;> [rfl; skip]) | ((with_reducible apply Changes.foldl) <;> [(intro _ _ _); skip])
    | split)

theorem State.packReady_changes (s : State) (r : Nat) (sl : Fin 8) (x0 : Nat) :
    Changes [.cmq, .land, .media, .ports, .sec, .out] s (State.packReady s r sl x0) := by
  have hstep : ∀ (n : Nat) (s : State), Changes [.cmq, .land, .media, .ports, .sec, .out] s (State.packReady s r sl n) := by
    intro n
    induction n with
    | zero => intro s; exact Changes.refl _ _
    | succ k ih =>
      intro s
      have h0 := Changes.refl [.cmq, .land, .media, .ports, .sec, .out] s
      unfold State.packReady
      repeat' (first | ((first | intro x | (lift_lets; intro x)); first | clear_value x | skip) | with_reducible assumption | with_reducible assumption | ((with_reducible apply Changes.step (State.kpioPacked_changes ..)) <;> [rfl; skip]) | ((with_reducible apply Changes.step (State.packUnit_changes ..)) <;> [rfl; skip]) | ((with_reducible apply Changes.foldl) <;> [(intro _ _ _); skip]) | ((with_reducible apply Changes.step (ih _)) <;> [rfl; skip]) | split)
  exact hstep x0 s

theorem State.recordPacked_changes (s : State) (line : Nat) (frame : List Byte) :
    Changes [.cmq, .land, .media, .ports, .sec, .out] s (State.recordPacked s line frame) := by
  have h0 := Changes.refl [.cmq, .land, .media, .ports, .sec, .out] s
  unfold State.recordPacked
  repeat' (first
    | ((first | intro x | (lift_lets; intro x)); first | (guard_hyp x : State := _; have hx : Changes [.cmq, .land, .media, .ports, .sec, .out] s x := (by unfold x; repeat' (first | with_reducible assumption | ((conv => (arg 3; arg 24; skip)); ((with_reducible apply Changes.land_with) <;> [rfl; skip])) | ((with_reducible apply Changes.step (State.closeIfDue_changes ..)) <;> [rfl; skip]) | ((with_reducible apply Changes.step (State.dispatchAll_changes ..)) <;> [rfl; skip]) | ((with_reducible apply Changes.step (State.packReady_changes ..)) <;> [rfl; skip]) | ((with_reducible apply Changes.foldl) <;> [(intro _ _ _); skip]) | split)); clear_value x) | clear_value x | skip)
    | with_reducible assumption | ((conv => (arg 3; arg 24; skip)); ((with_reducible apply Changes.land_with) <;> [rfl; skip])) | ((with_reducible apply Changes.step (State.closeIfDue_changes ..)) <;> [rfl; skip]) | ((with_reducible apply Changes.step (State.dispatchAll_changes ..)) <;> [rfl; skip]) | ((with_reducible apply Changes.step (State.packReady_changes ..)) <;> [rfl; skip]) | ((with_reducible apply Changes.foldl) <;> [(intro _ _ _); skip])
    | split)

theorem State.closeWait_changes (s : State) (r : Nat) :
    Changes [.land, .media, .out] s (State.closeWait s r) := by
  have h0 := Changes.refl [.land, .media, .out] s
  unfold State.closeWait
  repeat' (first | with_reducible assumption | ((with_reducible apply Changes.step (State.closeEarly_changes ..)) <;> [rfl; skip]) | ((with_reducible apply Changes.step (State.copiesGo_changes ..)) <;> [rfl; skip]) | ((with_reducible apply Changes.step (State.dispatchAll_changes ..)) <;> [rfl; skip]) | ((with_reducible apply Changes.step (State.ensureFinal_changes ..)) <;> [rfl; skip]) | ((with_reducible apply Changes.step (State.systemGo_changes ..)) <;> [rfl; skip]) | ((with_reducible apply Changes.foldl) <;> [(intro _ _ _); skip]) | split)

theorem State.programComplete_changes (s : State) (r : Nat) (member : Fin 32) :
    Changes [.media, .out] s (State.programComplete s r member) := by
  have h0 := Changes.refl [.media, .out] s
  unfold State.programComplete
  repeat' (first | with_reducible assumption | ((with_reducible apply Changes.step (State.dieIdle_changes ..)) <;> [rfl; skip]) | ((with_reducible apply Changes.step (State.setMedia_changes ..)) <;> [rfl; skip]) | ((with_reducible apply Changes.foldl) <;> [(intro _ _ _); skip]) | split)

theorem State.finishRow_changes (s : State) (r : Nat) (row : Row) :
    Changes [.evr, .cmq, .land, .media, .ports, .out, .free] s (State.finishRow s r row) := by
  have h0 := Changes.refl [.evr, .cmq, .land, .media, .ports, .out, .free] s
  unfold State.finishRow
  repeat' (first
    | ((first | intro x | (lift_lets; intro x)); first | (guard_hyp x : State := _; have hx : Changes [.evr, .cmq, .land, .media, .ports, .out, .free] s x := (by unfold x; repeat' (first | with_reducible assumption | ((with_reducible apply Changes.step (State.checkWear_changes ..)) <;> [rfl; skip]) | ((with_reducible apply Changes.step (State.copiesGo_changes ..)) <;> [rfl; skip]) | ((with_reducible apply Changes.step (State.dispatchAll_changes ..)) <;> [rfl; skip]) | ((with_reducible apply Changes.step (State.pickVictim_changes ..)) <;> [rfl; skip]) | ((with_reducible apply Changes.step (State.releaseLines_changes ..)) <;> [rfl; skip]) | ((with_reducible apply Changes.step (State.resumeAll_changes ..)) <;> [rfl; skip]) | ((with_reducible apply Changes.step (State.setMedia_changes ..)) <;> [rfl; skip]) | ((with_reducible apply Changes.step (State.settleStripes_changes ..)) <;> [rfl; skip]) | ((with_reducible apply Changes.step (State.systemGo_changes ..)) <;> [rfl; skip]) | ((with_reducible apply Changes.foldl) <;> [(intro _ _ _); skip]) | split)); clear_value x) | clear_value x | skip)
    | with_reducible assumption | ((with_reducible apply Changes.step (State.checkWear_changes ..)) <;> [rfl; skip]) | ((with_reducible apply Changes.step (State.copiesGo_changes ..)) <;> [rfl; skip]) | ((with_reducible apply Changes.step (State.dispatchAll_changes ..)) <;> [rfl; skip]) | ((with_reducible apply Changes.step (State.pickVictim_changes ..)) <;> [rfl; skip]) | ((with_reducible apply Changes.step (State.releaseLines_changes ..)) <;> [rfl; skip]) | ((with_reducible apply Changes.step (State.resumeAll_changes ..)) <;> [rfl; skip]) | ((with_reducible apply Changes.step (State.setMedia_changes ..)) <;> [rfl; skip]) | ((with_reducible apply Changes.step (State.settleStripes_changes ..)) <;> [rfl; skip]) | ((with_reducible apply Changes.step (State.systemGo_changes ..)) <;> [rfl; skip]) | ((with_reducible apply Changes.foldl) <;> [(intro _ _ _); skip])
    | split)

theorem State.rowsGo_changes (s : State) (x0 : Nat) :
    Changes [.evr, .cmq, .land, .media, .ports, .out, .free] s (State.rowsGo s x0) := by
  have hstep : ∀ (n : Nat) (s : State), Changes [.evr, .cmq, .land, .media, .ports, .out, .free] s (State.rowsGo s n) := by
    intro n
    induction n with
    | zero => intro s; exact Changes.refl _ _
    | succ k ih =>
      intro s
      have h0 := Changes.refl [.evr, .cmq, .land, .media, .ports, .out, .free] s
      unfold State.rowsGo
      repeat' (first | ((first | intro x | (lift_lets; intro x)); first | clear_value x | skip) | with_reducible assumption | with_reducible assumption | ((with_reducible apply Changes.step (State.finishRow_changes ..)) <;> [rfl; skip]) | ((with_reducible apply Changes.step (State.readMapPage_changes ..)) <;> [rfl; skip]) | ((with_reducible apply Changes.foldl) <;> [(intro _ _ _); skip]) | ((with_reducible apply Changes.step (ih _)) <;> [rfl; skip]) | split)
  exact hstep x0 s

theorem State.dueRows_changes (s : State) :
    Changes [.evr, .cmq, .land, .media, .ports, .out, .free] s (State.dueRows s) := by
  have h0 := Changes.refl [.evr, .cmq, .land, .media, .ports, .out, .free] s
  unfold State.dueRows
  repeat' (first | with_reducible assumption | ((with_reducible apply Changes.step (State.rowsGo_changes ..)) <;> [rfl; skip]) | ((with_reducible apply Changes.foldl) <;> [(intro _ _ _); skip]) | split)

theorem State.rowComplete_changes (s : State) (r : Nat) :
    Changes [.evr, .cmq, .land, .media, .ports, .out, .free] s (State.rowComplete s r) := by
  have h0 := Changes.refl [.evr, .cmq, .land, .media, .ports, .out, .free] s
  unfold State.rowComplete
  repeat' (first | with_reducible assumption | ((with_reducible apply Changes.step (State.dueRows_changes ..)) <;> [rfl; skip]) | ((with_reducible apply Changes.step (State.setMedia_changes ..)) <;> [rfl; skip]) | ((with_reducible apply Changes.foldl) <;> [(intro _ _ _); skip]) | split)

theorem State.programFail_changes (s : State) (r : Nat) (member : Fin 32) :
    Changes [.evr, .cmq, .land, .media, .plp, .ports, .out] s (State.programFail s r member) := by
  have h0 := Changes.refl [.evr, .cmq, .land, .media, .plp, .ports, .out] s
  unfold State.programFail
  repeat' (first | with_reducible assumption | ((with_reducible apply Changes.step (State.blockFails_changes ..)) <;> [rfl; skip]) | ((with_reducible apply Changes.step (State.dieIdle_changes ..)) <;> [rfl; skip]) | ((with_reducible apply Changes.foldl) <;> [(intro _ _ _); skip]) | split)

theorem State.eraseFail_changes (s : State) (d : Nat) (b : Nat) :
    Changes [.evr, .cmq, .land, .media, .plp, .ports, .out] s (State.eraseFail s d b) := by
  have h0 := Changes.refl [.evr, .cmq, .land, .media, .plp, .ports, .out] s
  unfold State.eraseFail
  repeat' (first | with_reducible assumption | ((with_reducible apply Changes.step (State.blockFails_changes ..)) <;> [rfl; skip]) | ((with_reducible apply Changes.step (State.dieIdle_changes ..)) <;> [rfl; skip]) | ((with_reducible apply Changes.foldl) <;> [(intro _ _ _); skip]) | split)

theorem State.eraseComplete_changes (s : State) (d : Nat) (b : Nat) :
    Changes [.media, .out] s (State.eraseComplete s d b) := by
  have h0 := Changes.refl [.media, .out] s
  unfold State.eraseComplete
  repeat' (first
    | ((first | intro x | (lift_lets; intro x)); first | (guard_hyp x : State := _; have hx : Changes [.media, .out] s x := (by unfold x; repeat' (first | with_reducible assumption | ((with_reducible apply Changes.step (State.dieIdle_changes ..)) <;> [rfl; skip]) | ((with_reducible apply Changes.step (State.keepErased_changes ..)) <;> [rfl; skip]) | ((with_reducible apply Changes.step (State.setMedia_changes ..)) <;> [rfl; skip]) | ((with_reducible apply Changes.foldl) <;> [(intro _ _ _); skip]) | split)); clear_value x) | clear_value x | skip)
    | with_reducible assumption | ((with_reducible apply Changes.step (State.dieIdle_changes ..)) <;> [rfl; skip]) | ((with_reducible apply Changes.step (State.keepErased_changes ..)) <;> [rfl; skip]) | ((with_reducible apply Changes.step (State.setMedia_changes ..)) <;> [rfl; skip]) | ((with_reducible apply Changes.foldl) <;> [(intro _ _ _); skip])
    | split)

theorem State.accumulatorFails_changes (s : State) (sl : Fin 8) :
    Changes [.units, .evr, .cmq, .land, .media, .ports, .out] s (State.accumulatorFails s sl) := by
  have h0 := Changes.refl [.units, .evr, .cmq, .land, .media, .ports, .out] s
  unfold State.accumulatorFails
  repeat' (first
    | ((first | intro x | (lift_lets; intro x)); first | (guard_hyp x : State := _; have hx : Changes [.units, .evr, .cmq, .land, .media, .ports, .out] s x := (by unfold x; repeat' (first | with_reducible assumption | ((conv => (arg 3; arg 24; skip)); ((with_reducible apply Changes.units_with) <;> [rfl; skip])) | ((with_reducible apply Changes.step (State.failStripe_changes ..)) <;> [rfl; skip]) | ((with_reducible apply Changes.step (State.outage_changes ..)) <;> [rfl; skip]) | ((with_reducible apply Changes.step (State.outageWith_changes ..)) <;> [rfl; skip]) | ((with_reducible apply Changes.step (State.setMedia_changes ..)) <;> [rfl; skip]) | ((with_reducible apply Changes.foldl) <;> [(intro _ _ _); skip]) | split)); clear_value x) | clear_value x | skip)
    | with_reducible assumption | ((conv => (arg 3; arg 24; skip)); ((with_reducible apply Changes.units_with) <;> [rfl; skip])) | ((with_reducible apply Changes.step (State.failStripe_changes ..)) <;> [rfl; skip]) | ((with_reducible apply Changes.step (State.outage_changes ..)) <;> [rfl; skip]) | ((with_reducible apply Changes.step (State.outageWith_changes ..)) <;> [rfl; skip]) | ((with_reducible apply Changes.step (State.setMedia_changes ..)) <;> [rfl; skip]) | ((with_reducible apply Changes.foldl) <;> [(intro _ _ _); skip])
    | split)

theorem State.readCommand_changes (s : State) (fseq : Nat) :
    Changes [.cmq, .land, .media, .ports, .out, .free] s (State.readCommand s fseq) := by
  have h0 := Changes.refl [.cmq, .land, .media, .ports, .out, .free] s
  unfold State.readCommand
  repeat' (first | with_reducible assumption | ((with_reducible apply Changes.step (State.startIo_changes ..)) <;> [rfl; skip]) | ((with_reducible apply Changes.foldl) <;> [(intro _ _ _); skip]) | split)

theorem State.trackUpdate_changes (s : State) (l : Ladder) :
    Changes [.media] s (State.trackUpdate s l) := by
  have h0 := Changes.refl [.media] s
  unfold State.trackUpdate
  repeat' (first
    | ((first | intro x | (lift_lets; intro x)); first | (guard_hyp x : State := _; have hx : Changes [.media] s x := (by unfold x; repeat' (first | with_reducible assumption | ((with_reducible apply Changes.step (State.setMedia_changes ..)) <;> [rfl; skip]) | ((with_reducible apply Changes.foldl) <;> [(intro _ _ _); skip]) | split)); clear_value x) | clear_value x | skip)
    | with_reducible assumption | ((with_reducible apply Changes.step (State.setMedia_changes ..)) <;> [rfl; skip]) | ((with_reducible apply Changes.foldl) <;> [(intro _ _ _); skip])
    | split)

theorem State.noteDrift_changes (s : State) (l : Ladder) :
    Changes [.evr, .media, .out] s (State.noteDrift s l) := by
  have h0 := Changes.refl [.evr, .media, .out] s
  unfold State.noteDrift
  repeat' (first
    | ((first | intro x | (lift_lets; intro x)); first | (guard_hyp x : State := _; have hx : Changes [.evr, .media, .out] s x := (by unfold x; repeat' (first | with_reducible assumption | ((with_reducible apply Changes.step (State.setMedia_changes ..)) <;> [rfl; skip]) | ((with_reducible apply Changes.step (State.trigger_changes ..)) <;> [rfl; skip]) | ((with_reducible apply Changes.foldl) <;> [(intro _ _ _); skip]) | split)); clear_value x) | clear_value x | skip)
    | with_reducible assumption | ((with_reducible apply Changes.step (State.setMedia_changes ..)) <;> [rfl; skip]) | ((with_reducible apply Changes.step (State.trigger_changes ..)) <;> [rfl; skip]) | ((with_reducible apply Changes.foldl) <;> [(intro _ _ _); skip])
    | split)

theorem State.takePart_changes (s : State) (rid : Nat) (k : Nat) (win : Nat) (bytes : List Byte) :
    Changes [.evr, .media, .out] s (State.takePart s rid k win bytes) := by
  have h0 := Changes.refl [.evr, .media, .out] s
  unfold State.takePart
  repeat' (first
    | ((first | intro x | (lift_lets; intro x)); first | (guard_hyp x : State := _; have hx : Changes [.evr, .media, .out] s x := (by unfold x; repeat' (first | with_reducible assumption | ((with_reducible apply Changes.step (State.noteDrift_changes ..)) <;> [rfl; skip]) | ((with_reducible apply Changes.step (State.setMedia_changes ..)) <;> [rfl; skip]) | ((with_reducible apply Changes.foldl) <;> [(intro _ _ _); skip]) | split)); clear_value x) | clear_value x | skip)
    | with_reducible assumption | ((with_reducible apply Changes.step (State.noteDrift_changes ..)) <;> [rfl; skip]) | ((with_reducible apply Changes.step (State.setMedia_changes ..)) <;> [rfl; skip]) | ((with_reducible apply Changes.foldl) <;> [(intro _ _ _); skip])
    | split)

theorem State.exportDone_changes (s : State) (p : Fin 2) (rid : Nat) (l : Ladder) :
    Changes [.media] s (State.exportDone s p rid l) := by
  have h0 := Changes.refl [.media] s
  unfold State.exportDone
  repeat' (first | with_reducible assumption | ((with_reducible apply Changes.step (State.expEnd_changes ..)) <;> [rfl; skip]) | ((with_reducible apply Changes.step (State.setMedia_changes ..)) <;> [rfl; skip]) | ((with_reducible apply Changes.foldl) <;> [(intro _ _ _); skip]) | split)

theorem State.exportStep_changes (s : State) (p : Fin 2) (rid : Nat) (l : Ladder) (ok : Bool) :
    Changes [.evr, .media, .out] s (State.exportStep s p rid l ok) := by
  have h0 := Changes.refl [.evr, .media, .out] s
  unfold State.exportStep
  repeat' (first
    | ((first | intro x | (lift_lets; intro x)); first | (guard_hyp x : State := _; have hx : Changes [.evr, .media, .out] s x := (by unfold x; repeat' (first | with_reducible assumption | ((with_reducible apply Changes.step (State.exportDone_changes ..)) <;> [rfl; skip]) | ((with_reducible apply Changes.step (State.setMedia_changes ..)) <;> [rfl; skip]) | ((with_reducible apply Changes.step (State.startStep_changes ..)) <;> [rfl; skip]) | ((with_reducible apply Changes.step (State.trackUpdate_changes ..)) <;> [rfl; skip]) | ((with_reducible apply Changes.step (State.trigger_changes ..)) <;> [rfl; skip]) | ((with_reducible apply Changes.foldl) <;> [(intro _ _ _); skip]) | split)); clear_value x) | clear_value x | skip)
    | with_reducible assumption | ((with_reducible apply Changes.step (State.exportDone_changes ..)) <;> [rfl; skip]) | ((with_reducible apply Changes.step (State.setMedia_changes ..)) <;> [rfl; skip]) | ((with_reducible apply Changes.step (State.startStep_changes ..)) <;> [rfl; skip]) | ((with_reducible apply Changes.step (State.trackUpdate_changes ..)) <;> [rfl; skip]) | ((with_reducible apply Changes.step (State.trigger_changes ..)) <;> [rfl; skip]) | ((with_reducible apply Changes.foldl) <;> [(intro _ _ _); skip])
    | split)

theorem State.exportStart_changes (s : State) (p : Fin 2) (q : ExportReq) (die : Nat) (block : Nat) (page : Nat) (cw : Nat) :
    Changes [.media, .out] s (State.exportStart s p q die block page cw) := by
  have h0 := Changes.refl [.media, .out] s
  unfold State.exportStart
  repeat' (first | with_reducible assumption | ((with_reducible apply Changes.step (State.expEnd_changes ..)) <;> [rfl; skip]) | ((with_reducible apply Changes.step (State.readCws_changes ..)) <;> [rfl; skip]) | ((with_reducible apply Changes.foldl) <;> [(intro _ _ _); skip]) | split)

theorem State.exportByLba_changes (s : State) (p : Fin 2) (q : ExportReq) :
    Changes [.media, .out] s (State.exportByLba s p q) := by
  have h0 := Changes.refl [.media, .out] s
  unfold State.exportByLba
  repeat' (first
    | ((first | intro x | (lift_lets; intro x)); first | (guard_hyp x : State := _; have hx : Changes [.media, .out] s x := (by unfold x; repeat' (first | with_reducible assumption | ((with_reducible apply Changes.step (State.expEnd_changes ..)) <;> [rfl; skip]) | ((with_reducible apply Changes.step (State.exportStart_changes ..)) <;> [rfl; skip]) | ((with_reducible apply Changes.step (State.readMapPage_changes ..)) <;> [rfl; skip]) | ((with_reducible apply Changes.step (State.setMedia_changes ..)) <;> [rfl; skip]) | ((with_reducible apply Changes.foldl) <;> [(intro _ _ _); skip]) | split)); clear_value x) | clear_value x | skip)
    | with_reducible assumption | ((with_reducible apply Changes.step (State.expEnd_changes ..)) <;> [rfl; skip]) | ((with_reducible apply Changes.step (State.exportStart_changes ..)) <;> [rfl; skip]) | ((with_reducible apply Changes.step (State.readMapPage_changes ..)) <;> [rfl; skip]) | ((with_reducible apply Changes.step (State.setMedia_changes ..)) <;> [rfl; skip]) | ((with_reducible apply Changes.foldl) <;> [(intro _ _ _); skip])
    | split)

theorem State.exportByPhysical_changes (s : State) (p : Fin 2) (q : ExportReq) :
    Changes [.media, .out] s (State.exportByPhysical s p q) := by
  have h0 := Changes.refl [.media, .out] s
  unfold State.exportByPhysical
  repeat' (first | with_reducible assumption | ((with_reducible apply Changes.step (State.expEnd_changes ..)) <;> [rfl; skip]) | ((with_reducible apply Changes.step (State.exportStart_changes ..)) <;> [rfl; skip]) | ((with_reducible apply Changes.foldl) <;> [(intro _ _ _); skip]) | split)

theorem State.queueCopy_changes (s : State) (rs : List Rec) :
    Changes [.media, .out] s (State.queueCopy s rs) := by
  have h0 := Changes.refl [.media, .out] s
  unfold State.queueCopy
  repeat' (first
    | ((first | intro x | (lift_lets; intro x)); first | (guard_hyp x : State := _; have hx : Changes [.media, .out] s x := (by unfold x; repeat' (first | with_reducible assumption | ((with_reducible apply Changes.step (State.copiesGo_changes ..)) <;> [rfl; skip]) | ((with_reducible apply Changes.step (State.setMedia_changes ..)) <;> [rfl; skip]) | ((with_reducible apply Changes.foldl) <;> [(intro _ _ _); skip]) | split)); clear_value x) | clear_value x | skip)
    | with_reducible assumption | ((with_reducible apply Changes.step (State.copiesGo_changes ..)) <;> [rfl; skip]) | ((with_reducible apply Changes.step (State.setMedia_changes ..)) <;> [rfl; skip]) | ((with_reducible apply Changes.foldl) <;> [(intro _ _ _); skip])
    | split)

theorem State.resolve_changes (s : State) (p : Fin 2) (q : ExportReq) :
    Changes [.evr, .media, .out] s (State.resolve s p q) := by
  have h0 := Changes.refl [.evr, .media, .out] s
  unfold State.resolve
  repeat' (first
    | ((first | intro x | (lift_lets; intro x)); first | (guard_hyp x : State := _; have hx : Changes [.evr, .media, .out] s x := (by unfold x; repeat' (first | with_reducible assumption | ((with_reducible apply Changes.step (State.expEnd_changes ..)) <;> [rfl; skip]) | ((with_reducible apply Changes.step (State.log_changes ..)) <;> [rfl; skip]) | ((with_reducible apply Changes.step (State.queueCopy_changes ..)) <;> [rfl; skip]) | ((with_reducible apply Changes.foldl) <;> [(intro _ _ _); skip]) | split)); clear_value x) | clear_value x | skip)
    | with_reducible assumption | ((with_reducible apply Changes.step (State.expEnd_changes ..)) <;> [rfl; skip]) | ((with_reducible apply Changes.step (State.log_changes ..)) <;> [rfl; skip]) | ((with_reducible apply Changes.step (State.queueCopy_changes ..)) <;> [rfl; skip]) | ((with_reducible apply Changes.foldl) <;> [(intro _ _ _); skip])
    | split)

theorem State.expRun_changes (s : State) (p : Fin 2) :
    Changes [.evr, .media, .out] s (State.expRun s p) := by
  have h0 := Changes.refl [.evr, .media, .out] s
  unfold State.expRun
  repeat' (first
    | ((first | intro x | (lift_lets; intro x)); first | (guard_hyp x : State := _; have hx : Changes [.evr, .media, .out] s x := (by unfold x; repeat' (first | with_reducible assumption | ((with_reducible apply Changes.step (State.expEnd_changes ..)) <;> [rfl; skip]) | ((with_reducible apply Changes.step (State.exportByLba_changes ..)) <;> [rfl; skip]) | ((with_reducible apply Changes.step (State.exportByPhysical_changes ..)) <;> [rfl; skip]) | ((with_reducible apply Changes.step (State.resolve_changes ..)) <;> [rfl; skip]) | ((with_reducible apply Changes.foldl) <;> [(intro _ _ _); skip]) | split)); clear_value x) | clear_value x | skip)
    | with_reducible assumption | ((with_reducible apply Changes.step (State.expEnd_changes ..)) <;> [rfl; skip]) | ((with_reducible apply Changes.step (State.exportByLba_changes ..)) <;> [rfl; skip]) | ((with_reducible apply Changes.step (State.exportByPhysical_changes ..)) <;> [rfl; skip]) | ((with_reducible apply Changes.step (State.resolve_changes ..)) <;> [rfl; skip]) | ((with_reducible apply Changes.foldl) <;> [(intro _ _ _); skip])
    | split)

theorem State.expGo_changes (s : State) (p : Fin 2) :
    Changes [.evr, .media, .out] s (State.expGo s p) := by
  have h0 := Changes.refl [.evr, .media, .out] s
  unfold State.expGo
  repeat' (first
    | ((first | intro x | (lift_lets; intro x)); first | (guard_hyp x : State := _; have hx : Changes [.evr, .media, .out] s x := (by unfold x; repeat' (first | with_reducible assumption | ((with_reducible apply Changes.step (State.expRun_changes ..)) <;> [rfl; skip]) | ((with_reducible apply Changes.step (State.setMedia_changes ..)) <;> [rfl; skip]) | ((with_reducible apply Changes.foldl) <;> [(intro _ _ _); skip]) | split)); clear_value x) | clear_value x | skip)
    | with_reducible assumption | ((with_reducible apply Changes.step (State.expRun_changes ..)) <;> [rfl; skip]) | ((with_reducible apply Changes.step (State.setMedia_changes ..)) <;> [rfl; skip]) | ((with_reducible apply Changes.foldl) <;> [(intro _ _ _); skip])
    | split)

theorem State.expRequest_changes (s : State) (p : Fin 2) (kind : Nat) (q : ExportReq) (input : Option (List Byte)) :
    Changes [.evr, .media, .out] s (State.expRequest s p kind q input) := by
  have h0 := Changes.refl [.evr, .media, .out] s
  unfold State.expRequest
  repeat' (first | with_reducible assumption | ((with_reducible apply Changes.step (State.expGo_changes ..)) <;> [rfl; skip]) | ((with_reducible apply Changes.step (State.setMedia_changes ..)) <;> [rfl; skip]) | ((with_reducible apply Changes.foldl) <;> [(intro _ _ _); skip]) | split)

theorem State.pageLoaded_changes (s : State) (pk : Nat) :
    Changes [.evr, .cmq, .land, .media, .ports, .out, .free] s (State.pageLoaded s pk) := by
  have h0 := Changes.refl [.evr, .cmq, .land, .media, .ports, .out, .free] s
  unfold State.pageLoaded
  repeat' (first
    | ((first | intro x | (lift_lets; intro x)); first | (guard_hyp x : State := _; have hx : Changes [.evr, .cmq, .land, .media, .ports, .out, .free] s x := (by unfold x; repeat' (first | with_reducible assumption | ((with_reducible apply Changes.step (State.dueRows_changes ..)) <;> [rfl; skip]) | ((with_reducible apply Changes.step (State.expRun_changes ..)) <;> [rfl; skip]) | ((with_reducible apply Changes.step (State.loadNext_changes ..)) <;> [rfl; skip]) | ((with_reducible apply Changes.step (State.setMedia_changes ..)) <;> [rfl; skip]) | ((with_reducible apply Changes.step (State.wake_changes ..)) <;> [rfl; skip]) | ((with_reducible apply Changes.foldl) <;> [(intro _ _ _); skip]) | split)); clear_value x) | clear_value x | skip)
    | with_reducible assumption | ((with_reducible apply Changes.step (State.dueRows_changes ..)) <;> [rfl; skip]) | ((with_reducible apply Changes.step (State.expRun_changes ..)) <;> [rfl; skip]) | ((with_reducible apply Changes.step (State.loadNext_changes ..)) <;> [rfl; skip]) | ((with_reducible apply Changes.step (State.setMedia_changes ..)) <;> [rfl; skip]) | ((with_reducible apply Changes.step (State.wake_changes ..)) <;> [rfl; skip]) | ((with_reducible apply Changes.foldl) <;> [(intro _ _ _); skip])
    | split)

theorem State.pageLost_changes (s : State) (pk : Nat) :
    Changes [.cmq, .land, .media, .ports, .out] s (State.pageLost s pk) := by
  have h0 := Changes.refl [.cmq, .land, .media, .ports, .out] s
  unfold State.pageLost
  repeat' (first
    | ((first | intro x | (lift_lets; intro x)); first | (guard_hyp x : State := _; have hx : Changes [.cmq, .land, .media, .ports, .out] s x := (by unfold x; repeat' (first | with_reducible assumption | ((with_reducible apply Changes.step (State.expEnd_changes ..)) <;> [rfl; skip]) | ((with_reducible apply Changes.step (State.quit_changes ..)) <;> [rfl; skip]) | ((with_reducible apply Changes.foldl) <;> [(intro _ _ _); skip]) | split)); clear_value x) | clear_value x | skip)
    | with_reducible assumption | ((with_reducible apply Changes.step (State.expEnd_changes ..)) <;> [rfl; skip]) | ((with_reducible apply Changes.step (State.quit_changes ..)) <;> [rfl; skip]) | ((with_reducible apply Changes.foldl) <;> [(intro _ _ _); skip])
    | split)

theorem State.delivered_changes (s : State) (l : Ladder) (gk : Nat) :
    Changes [.evr, .cmq, .land, .media, .ports, .out, .free] s (State.delivered s l gk) := by
  have h0 := Changes.refl [.evr, .cmq, .land, .media, .ports, .out, .free] s
  unfold State.delivered
  repeat' (first | with_reducible assumption | ((with_reducible apply Changes.step (State.deliver_changes ..)) <;> [rfl; skip]) | ((with_reducible apply Changes.step (State.pageLoaded_changes ..)) <;> [rfl; skip]) | ((with_reducible apply Changes.step (State.queueCopy_changes ..)) <;> [rfl; skip]) | ((with_reducible apply Changes.step (State.undeliver_changes ..)) <;> [rfl; skip]) | ((with_reducible apply Changes.foldl) <;> [(intro _ _ _); skip]) | split)

theorem State.undelivered_changes (s : State) (l : Ladder) (gk : Nat) :
    Changes [.cmq, .land, .media, .ports, .out, .free] s (State.undelivered s l gk) := by
  have h0 := Changes.refl [.cmq, .land, .media, .ports, .out, .free] s
  unfold State.undelivered
  repeat' (first | with_reducible assumption | ((with_reducible apply Changes.step (State.pageLost_changes ..)) <;> [rfl; skip]) | ((with_reducible apply Changes.step (State.undeliver_changes ..)) <;> [rfl; skip]) | ((with_reducible apply Changes.foldl) <;> [(intro _ _ _); skip]) | split)

theorem State.codewordEnds_changes (s : State) (l : Ladder) (ok : Bool) (gk : Nat) :
    Changes [.evr, .cmq, .land, .media, .ports, .out, .free] s (State.codewordEnds s l ok gk) := by
  have h0 := Changes.refl [.evr, .cmq, .land, .media, .ports, .out, .free] s
  unfold State.codewordEnds
  repeat' (first
    | ((first | intro x | (lift_lets; intro x)); first | (guard_hyp x : State := _; have hx : Changes [.evr, .cmq, .land, .media, .ports, .out, .free] s x := (by unfold x; repeat' (first | with_reducible assumption | ((with_reducible apply Changes.step (State.delivered_changes ..)) <;> [rfl; skip]) | ((with_reducible apply Changes.step (State.setMedia_changes ..)) <;> [rfl; skip]) | ((with_reducible apply Changes.step (State.undelivered_changes ..)) <;> [rfl; skip]) | ((with_reducible apply Changes.foldl) <;> [(intro _ _ _); skip]) | split)); clear_value x) | clear_value x | skip)
    | with_reducible assumption | ((with_reducible apply Changes.step (State.delivered_changes ..)) <;> [rfl; skip]) | ((with_reducible apply Changes.step (State.setMedia_changes ..)) <;> [rfl; skip]) | ((with_reducible apply Changes.step (State.undelivered_changes ..)) <;> [rfl; skip]) | ((with_reducible apply Changes.foldl) <;> [(intro _ _ _); skip])
    | split)

theorem State.settled_changes (s : State) (rid : Nat) (l : Ladder) (ok : Bool) :
    Changes [.evr, .cmq, .land, .media, .ports, .out, .free] s (State.settled s rid l ok) := by
  have h0 := Changes.refl [.evr, .cmq, .land, .media, .ports, .out, .free] s
  unfold State.settled
  repeat' (first | with_reducible assumption | ((with_reducible apply Changes.step (State.codewordEnds_changes ..)) <;> [rfl; skip]) | ((with_reducible apply Changes.step (State.setMedia_changes ..)) <;> [rfl; skip]) | ((with_reducible apply Changes.foldl) <;> [(intro _ _ _); skip]) | split)

theorem State.report_changes (s : State) (l : Ladder) (n : Nat) (ok : Bool) :
    Changes [.evr, .cmq, .land, .media, .plp, .ports, .out] s (State.report s l n ok) := by
  have h0 := Changes.refl [.evr, .cmq, .land, .media, .plp, .ports, .out] s
  unfold State.report
  repeat' (first
    | ((first | intro x | (lift_lets; intro x)); first | (guard_hyp x : State := _; have hx : Changes [.evr, .cmq, .land, .media, .plp, .ports, .out] s x := (by unfold x; repeat' (first | with_reducible assumption | ((with_reducible apply Changes.step (State.noteStep6_changes ..)) <;> [rfl; skip]) | ((with_reducible apply Changes.step (State.trigger_changes ..)) <;> [rfl; skip]) | ((with_reducible apply Changes.foldl) <;> [(intro _ _ _); skip]) | split)); clear_value x) | clear_value x | skip)
    | with_reducible assumption | ((with_reducible apply Changes.step (State.noteStep6_changes ..)) <;> [rfl; skip]) | ((with_reducible apply Changes.step (State.trigger_changes ..)) <;> [rfl; skip]) | ((with_reducible apply Changes.foldl) <;> [(intro _ _ _); skip])
    | split)

theorem State.recovered_changes (s : State) (rid : Nat) (l : Ladder) :
    Changes [.evr, .cmq, .land, .media, .plp, .ports, .out, .free] s (State.recovered s rid l) := by
  have h0 := Changes.refl [.evr, .cmq, .land, .media, .plp, .ports, .out, .free] s
  unfold State.recovered
  repeat' (first
    | ((first | intro x | (lift_lets; intro x)); first | (guard_hyp x : State := _; have hx : Changes [.evr, .cmq, .land, .media, .plp, .ports, .out, .free] s x := (by unfold x; repeat' (first | with_reducible assumption | ((with_reducible apply Changes.step (State.report_changes ..)) <;> [rfl; skip]) | ((with_reducible apply Changes.step (State.setMedia_changes ..)) <;> [rfl; skip]) | ((with_reducible apply Changes.step (State.settled_changes ..)) <;> [rfl; skip]) | ((with_reducible apply Changes.step (State.trackUpdate_changes ..)) <;> [rfl; skip]) | ((with_reducible apply Changes.foldl) <;> [(intro _ _ _); skip]) | split)); clear_value x) | clear_value x | skip)
    | with_reducible assumption | ((with_reducible apply Changes.step (State.report_changes ..)) <;> [rfl; skip]) | ((with_reducible apply Changes.step (State.setMedia_changes ..)) <;> [rfl; skip]) | ((with_reducible apply Changes.step (State.settled_changes ..)) <;> [rfl; skip]) | ((with_reducible apply Changes.step (State.trackUpdate_changes ..)) <;> [rfl; skip]) | ((with_reducible apply Changes.foldl) <;> [(intro _ _ _); skip])
    | split)

theorem State.unrecovered_changes (s : State) (rid : Nat) (l : Ladder) (code : Nat) :
    Changes [.evr, .cmq, .land, .media, .plp, .ports, .out, .free] s (State.unrecovered s rid l code) := by
  have h0 := Changes.refl [.evr, .cmq, .land, .media, .plp, .ports, .out, .free] s
  unfold State.unrecovered
  repeat' (first
    | ((first | intro x | (lift_lets; intro x)); first | (guard_hyp x : State := _; have hx : Changes [.evr, .cmq, .land, .media, .plp, .ports, .out, .free] s x := (by unfold x; repeat' (first | with_reducible assumption | ((with_reducible apply Changes.step (State.log_changes ..)) <;> [rfl; skip]) | ((with_reducible apply Changes.step (State.report_changes ..)) <;> [rfl; skip]) | ((with_reducible apply Changes.step (State.setMedia_changes ..)) <;> [rfl; skip]) | ((with_reducible apply Changes.step (State.settled_changes ..)) <;> [rfl; skip]) | ((with_reducible apply Changes.foldl) <;> [(intro _ _ _); skip]) | split)); clear_value x) | clear_value x | skip)
    | with_reducible assumption | ((with_reducible apply Changes.step (State.log_changes ..)) <;> [rfl; skip]) | ((with_reducible apply Changes.step (State.report_changes ..)) <;> [rfl; skip]) | ((with_reducible apply Changes.step (State.setMedia_changes ..)) <;> [rfl; skip]) | ((with_reducible apply Changes.step (State.settled_changes ..)) <;> [rfl; skip]) | ((with_reducible apply Changes.foldl) <;> [(intro _ _ _); skip])
    | split)

theorem State.stepFailed_changes (s : State) (rid : Nat) (l : Ladder) (found : Bool) :
    Changes [.evr, .cmq, .land, .media, .plp, .ports, .out, .free] s (State.stepFailed s rid l found) := by
  have h0 := Changes.refl [.evr, .cmq, .land, .media, .plp, .ports, .out, .free] s
  unfold State.stepFailed
  repeat' (first
    | ((first | intro x | (lift_lets; intro x)); first | (guard_hyp x : State := _; have hx : Changes [.evr, .cmq, .land, .media, .plp, .ports, .out, .free] s x := (by unfold x; repeat' (first | with_reducible assumption | ((with_reducible apply Changes.step (State.setMedia_changes ..)) <;> [rfl; skip]) | ((with_reducible apply Changes.step (State.startStep_changes ..)) <;> [rfl; skip]) | ((with_reducible apply Changes.step (State.unrecovered_changes ..)) <;> [rfl; skip]) | ((with_reducible apply Changes.foldl) <;> [(intro _ _ _); skip]) | split)); clear_value x) | clear_value x | skip)
    | with_reducible assumption | ((with_reducible apply Changes.step (State.setMedia_changes ..)) <;> [rfl; skip]) | ((with_reducible apply Changes.step (State.startStep_changes ..)) <;> [rfl; skip]) | ((with_reducible apply Changes.step (State.unrecovered_changes ..)) <;> [rfl; skip]) | ((with_reducible apply Changes.foldl) <;> [(intro _ _ _); skip])
    | split)

theorem State.rebuildEnd_changes (s : State) (rid : Nat) (l : Ladder) :
    Changes [.evr, .cmq, .land, .media, .plp, .ports, .out, .free] s (State.rebuildEnd s rid l) := by
  have h0 := Changes.refl [.evr, .cmq, .land, .media, .plp, .ports, .out, .free] s
  unfold State.rebuildEnd
  repeat' (first | with_reducible assumption | ((with_reducible apply Changes.step (State.recovered_changes ..)) <;> [rfl; skip]) | ((with_reducible apply Changes.step (State.stepFailed_changes ..)) <;> [rfl; skip]) | ((with_reducible apply Changes.foldl) <;> [(intro _ _ _); skip]) | split)

theorem State.rebuildEnds_changes (s : State) (x0 : Nat) :
    Changes [.evr, .cmq, .land, .media, .plp, .ports, .out, .free] s (State.rebuildEnds s x0) := by
  have hstep : ∀ (n : Nat) (s : State), Changes [.evr, .cmq, .land, .media, .plp, .ports, .out, .free] s (State.rebuildEnds s n) := by
    intro n
    induction n with
    | zero => intro s; exact Changes.refl _ _
    | succ k ih =>
      intro s
      have h0 := Changes.refl [.evr, .cmq, .land, .media, .plp, .ports, .out, .free] s
      unfold State.rebuildEnds
      repeat' (first | ((first | intro x | (lift_lets; intro x)); first | clear_value x | skip) | with_reducible assumption | with_reducible assumption | ((with_reducible apply Changes.step (State.rebuildEnd_changes ..)) <;> [rfl; skip]) | ((with_reducible apply Changes.foldl) <;> [(intro _ _ _); skip]) | ((with_reducible apply Changes.step (ih _)) <;> [rfl; skip]) | split)
  exact hstep x0 s

theorem State.settleReads_changes (s : State) :
    Changes [.evr, .cmq, .land, .media, .plp, .ports, .out, .free] s (State.settleReads s) := by
  have h0 := Changes.refl [.evr, .cmq, .land, .media, .plp, .ports, .out, .free] s
  unfold State.settleReads
  repeat' (first | with_reducible assumption | ((with_reducible apply Changes.step (State.rebuildEnds_changes ..)) <;> [rfl; skip]) | ((with_reducible apply Changes.foldl) <;> [(intro _ _ _); skip]) | split)

theorem State.arrived_changes (s : State) (rid : Nat) :
    Changes [.evr, .cmq, .land, .media, .plp, .ports, .out, .free] s (State.arrived s rid) := by
  have h0 := Changes.refl [.evr, .cmq, .land, .media, .plp, .ports, .out, .free] s
  unfold State.arrived
  repeat' (first | with_reducible assumption | ((with_reducible apply Changes.step (State.startDecode_changes ..)) <;> [rfl; skip]) | ((with_reducible apply Changes.step (State.stepFailed_changes ..)) <;> [rfl; skip]) | ((with_reducible apply Changes.foldl) <;> [(intro _ _ _); skip]) | split)

theorem State.readData_changes (s : State) (rid : Nat) (sig : ReadSignals) :
    Changes [.evr, .cmq, .land, .media, .plp, .ports, .out, .free] s (State.readData s rid sig) := by
  have h0 := Changes.refl [.evr, .cmq, .land, .media, .plp, .ports, .out, .free] s
  unfold State.readData
  repeat' (first
    | ((first | intro x | (lift_lets; intro x)); first | (guard_hyp x : State := _; have hx : Changes [.evr, .cmq, .land, .media, .plp, .ports, .out, .free] s x := (by unfold x; repeat' (first | with_reducible assumption | ((with_reducible apply Changes.step (State.arrived_changes ..)) <;> [rfl; skip]) | ((with_reducible apply Changes.step (State.busPast_changes ..)) <;> [rfl; skip]) | ((with_reducible apply Changes.step (State.countTrigger_changes ..)) <;> [rfl; skip]) | ((with_reducible apply Changes.step (State.dropReads_changes ..)) <;> [rfl; skip]) | ((with_reducible apply Changes.step (State.takePart_changes ..)) <;> [rfl; skip]) | ((with_reducible apply Changes.step (State.transferred_changes ..)) <;> [rfl; skip]) | ((with_reducible apply Changes.foldl) <;> [(intro _ _ _); skip]) | split)); clear_value x) | clear_value x | skip)
    | with_reducible assumption | ((with_reducible apply Changes.step (State.arrived_changes ..)) <;> [rfl; skip]) | ((with_reducible apply Changes.step (State.busPast_changes ..)) <;> [rfl; skip]) | ((with_reducible apply Changes.step (State.countTrigger_changes ..)) <;> [rfl; skip]) | ((with_reducible apply Changes.step (State.dropReads_changes ..)) <;> [rfl; skip]) | ((with_reducible apply Changes.step (State.takePart_changes ..)) <;> [rfl; skip]) | ((with_reducible apply Changes.step (State.transferred_changes ..)) <;> [rfl; skip]) | ((with_reducible apply Changes.foldl) <;> [(intro _ _ _); skip])
    | split)

theorem State.decoded_changes (s : State) (rid : Nat) (out : DecodeEnd) (iters : Nat) :
    Changes [.evr, .cmq, .land, .media, .plp, .ports, .out, .free] s (State.decoded s rid out iters) := by
  have h0 := Changes.refl [.evr, .cmq, .land, .media, .plp, .ports, .out, .free] s
  unfold State.decoded
  repeat' (first
    | ((first | intro x | (lift_lets; intro x)); first | (guard_hyp x : State := _; have hx : Changes [.evr, .cmq, .land, .media, .plp, .ports, .out, .free] s x := (by unfold x; repeat' (first | with_reducible assumption | ((with_reducible apply Changes.step (State.exportStep_changes ..)) <;> [rfl; skip]) | ((with_reducible apply Changes.step (State.recovered_changes ..)) <;> [rfl; skip]) | ((with_reducible apply Changes.step (State.setMedia_changes ..)) <;> [rfl; skip]) | ((with_reducible apply Changes.step (State.stepFailed_changes ..)) <;> [rfl; skip]) | ((with_reducible apply Changes.step (State.unrecovered_changes ..)) <;> [rfl; skip]) | ((with_reducible apply Changes.foldl) <;> [(intro _ _ _); skip]) | split)); clear_value x) | clear_value x | skip)
    | with_reducible assumption | ((with_reducible apply Changes.step (State.exportStep_changes ..)) <;> [rfl; skip]) | ((with_reducible apply Changes.step (State.recovered_changes ..)) <;> [rfl; skip]) | ((with_reducible apply Changes.step (State.setMedia_changes ..)) <;> [rfl; skip]) | ((with_reducible apply Changes.step (State.stepFailed_changes ..)) <;> [rfl; skip]) | ((with_reducible apply Changes.step (State.unrecovered_changes ..)) <;> [rfl; skip]) | ((with_reducible apply Changes.foldl) <;> [(intro _ _ _); skip])
    | split)

theorem State.wakeDecoders_changes (s : State) (rid : Nat) :
    Changes [.pws] s (State.wakeDecoders s rid) := by
  have h0 := Changes.refl [.pws] s
  unfold State.wakeDecoders
  repeat' (first
    | ((first | intro x | (lift_lets; intro x)); first | (guard_hyp x : State := _; have hx : Changes [.pws] s x := (by unfold x; repeat' (first | with_reducible assumption | ((with_reducible apply Changes.step (State.ungate_changes ..)) <;> [rfl; skip]) | ((with_reducible apply Changes.foldl) <;> [(intro _ _ _); skip]) | split)); clear_value x) | clear_value x | skip)
    | with_reducible assumption | ((with_reducible apply Changes.step (State.ungate_changes ..)) <;> [rfl; skip]) | ((with_reducible apply Changes.foldl) <;> [(intro _ _ _); skip])
    | split)

theorem State.isolate_changes (s : State) (ch : Fin 64) :
    Changes [.evr, .cmq, .land, .media, .plp, .ports, .out] s (State.isolate s ch) := by
  have h0 := Changes.refl [.evr, .cmq, .land, .media, .plp, .ports, .out] s
  unfold State.isolate
  repeat' (first
    | ((first | intro x | (lift_lets; intro x)); first | (guard_hyp x : State := _; have hx : Changes [.evr, .cmq, .land, .media, .plp, .ports, .out] s x := (by unfold x; repeat' (first | with_reducible assumption | ((with_reducible apply Changes.step (State.dieFails_changes ..)) <;> [rfl; skip]) | ((with_reducible apply Changes.step (State.emit_changes ..)) <;> [rfl; skip]) | ((with_reducible apply Changes.step (State.log_changes ..)) <;> [rfl; skip]) | ((with_reducible apply Changes.step (State.setFch_changes ..)) <;> [rfl; skip]) | ((with_reducible apply Changes.foldl) <;> [(intro _ _ _); skip]) | split)); clear_value x) | clear_value x | skip)
    | with_reducible assumption | ((with_reducible apply Changes.step (State.dieFails_changes ..)) <;> [rfl; skip]) | ((with_reducible apply Changes.step (State.emit_changes ..)) <;> [rfl; skip]) | ((with_reducible apply Changes.step (State.log_changes ..)) <;> [rfl; skip]) | ((with_reducible apply Changes.step (State.setFch_changes ..)) <;> [rfl; skip]) | ((with_reducible apply Changes.foldl) <;> [(intro _ _ _); skip])
    | split)

theorem State.loseCe_changes (s : State) (ch : Fin 64) (ce : Fin 4) :
    Changes [.evr, .cmq, .land, .media, .plp, .ports, .out] s (State.loseCe s ch ce) := by
  have h0 := Changes.refl [.evr, .cmq, .land, .media, .plp, .ports, .out] s
  unfold State.loseCe
  repeat' (first
    | ((first | intro x | (lift_lets; intro x)); first | (guard_hyp x : State := _; have hx : Changes [.evr, .cmq, .land, .media, .plp, .ports, .out] s x := (by unfold x; repeat' (first | with_reducible assumption | ((with_reducible apply Changes.step (State.dieFails_changes ..)) <;> [rfl; skip]) | ((with_reducible apply Changes.step (State.emit_changes ..)) <;> [rfl; skip]) | ((with_reducible apply Changes.step (State.isolate_changes ..)) <;> [rfl; skip]) | ((with_reducible apply Changes.step (State.log_changes ..)) <;> [rfl; skip]) | ((with_reducible apply Changes.step (State.setFch_changes ..)) <;> [rfl; skip]) | ((with_reducible apply Changes.foldl) <;> [(intro _ _ _); skip]) | split)); clear_value x) | clear_value x | skip)
    | with_reducible assumption | ((with_reducible apply Changes.step (State.dieFails_changes ..)) <;> [rfl; skip]) | ((with_reducible apply Changes.step (State.emit_changes ..)) <;> [rfl; skip]) | ((with_reducible apply Changes.step (State.isolate_changes ..)) <;> [rfl; skip]) | ((with_reducible apply Changes.step (State.log_changes ..)) <;> [rfl; skip]) | ((with_reducible apply Changes.step (State.setFch_changes ..)) <;> [rfl; skip]) | ((with_reducible apply Changes.foldl) <;> [(intro _ _ _); skip])
    | split)

theorem State.unissue_changes (s : State) (d : Nat) :
    Changes [.media] s (State.unissue s d) := by
  have h0 := Changes.refl [.media] s
  unfold State.unissue
  repeat' (first
    | ((first | intro x | (lift_lets; intro x)); first | (guard_hyp x : State := _; have hx : Changes [.media] s x := (by unfold x; repeat' (first | with_reducible assumption | ((with_reducible apply Changes.step (State.setDie_changes ..)) <;> [rfl; skip]) | ((with_reducible apply Changes.step (State.setFch_changes ..)) <;> [rfl; skip]) | ((with_reducible apply Changes.foldl) <;> [(intro _ _ _); skip]) | split)); clear_value x) | clear_value x | skip)
    | with_reducible assumption | ((with_reducible apply Changes.step (State.setDie_changes ..)) <;> [rfl; skip]) | ((with_reducible apply Changes.step (State.setFch_changes ..)) <;> [rfl; skip]) | ((with_reducible apply Changes.foldl) <;> [(intro _ _ _); skip])
    | split)

theorem State.busCut_changes (s : State) (ch : Fin 64) :
    Changes [.media] s (State.busCut s ch) := by
  have h0 := Changes.refl [.media] s
  unfold State.busCut
  repeat' (first
    | ((first | intro x | (lift_lets; intro x)); first | (guard_hyp x : State := _; have hx : Changes [.media] s x := (by unfold x; repeat' (first | with_reducible assumption | ((with_reducible apply Changes.step (State.setFch_changes ..)) <;> [rfl; skip]) | ((with_reducible apply Changes.step (State.unissue_changes ..)) <;> [rfl; skip]) | ((with_reducible apply Changes.foldl) <;> [(intro _ _ _); skip]) | split)); clear_value x) | clear_value x | skip)
    | with_reducible assumption | ((with_reducible apply Changes.step (State.setFch_changes ..)) <;> [rfl; skip]) | ((with_reducible apply Changes.step (State.unissue_changes ..)) <;> [rfl; skip]) | ((with_reducible apply Changes.foldl) <;> [(intro _ _ _); skip])
    | split)

theorem State.pinCheck_changes (s : State) (ch : Fin 64) (found : List PinFault) (failed : Option (Fin 4)) :
    Changes [.evr, .cmq, .land, .media, .plp, .ports, .out] s (State.pinCheck s ch found failed) := by
  have h0 := Changes.refl [.evr, .cmq, .land, .media, .plp, .ports, .out] s
  unfold State.pinCheck
  repeat' (first
    | ((first | intro x | (lift_lets; intro x)); first | (guard_hyp x : State := _; have hx : Changes [.evr, .cmq, .land, .media, .plp, .ports, .out] s x := (by unfold x; repeat' (first | with_reducible assumption | ((with_reducible apply Changes.step (State.busCut_changes ..)) <;> [rfl; skip]) | ((with_reducible apply Changes.step (State.busGo_changes ..)) <;> [rfl; skip]) | ((with_reducible apply Changes.step (State.isolate_changes ..)) <;> [rfl; skip]) | ((with_reducible apply Changes.step (State.log_changes ..)) <;> [rfl; skip]) | ((with_reducible apply Changes.step (State.loseCe_changes ..)) <;> [rfl; skip]) | ((with_reducible apply Changes.step (State.pumpChannel_changes ..)) <;> [rfl; skip]) | ((with_reducible apply Changes.step (State.setFch_changes ..)) <;> [rfl; skip]) | ((with_reducible apply Changes.foldl) <;> [(intro _ _ _); skip]) | split)); clear_value x) | clear_value x | skip)
    | with_reducible assumption | ((with_reducible apply Changes.step (State.busCut_changes ..)) <;> [rfl; skip]) | ((with_reducible apply Changes.step (State.busGo_changes ..)) <;> [rfl; skip]) | ((with_reducible apply Changes.step (State.isolate_changes ..)) <;> [rfl; skip]) | ((with_reducible apply Changes.step (State.log_changes ..)) <;> [rfl; skip]) | ((with_reducible apply Changes.step (State.loseCe_changes ..)) <;> [rfl; skip]) | ((with_reducible apply Changes.step (State.pumpChannel_changes ..)) <;> [rfl; skip]) | ((with_reducible apply Changes.step (State.setFch_changes ..)) <;> [rfl; skip]) | ((with_reducible apply Changes.foldl) <;> [(intro _ _ _); skip])
    | split)

theorem State.dataFailed_changes (s : State) (d : Nat) (pins : List PinFault) :
    Changes [.evr, .cmq, .land, .media, .plp, .ports, .out] s (State.dataFailed s d pins) := by
  have h0 := Changes.refl [.evr, .cmq, .land, .media, .plp, .ports, .out] s
  unfold State.dataFailed
  repeat' (first
    | ((first | intro x | (lift_lets; intro x)); first | (guard_hyp x : State := _; have hx : Changes [.evr, .cmq, .land, .media, .plp, .ports, .out] s x := (by unfold x; repeat' (first | with_reducible assumption | ((with_reducible apply Changes.step (State.pinCheck_changes ..)) <;> [rfl; skip]) | ((with_reducible apply Changes.step (State.setFch_changes ..)) <;> [rfl; skip]) | ((with_reducible apply Changes.foldl) <;> [(intro _ _ _); skip]) | split)); clear_value x) | clear_value x | skip)
    | with_reducible assumption | ((with_reducible apply Changes.step (State.pinCheck_changes ..)) <;> [rfl; skip]) | ((with_reducible apply Changes.step (State.setFch_changes ..)) <;> [rfl; skip]) | ((with_reducible apply Changes.foldl) <;> [(intro _ _ _); skip])
    | split)

theorem State.probeEnds_changes (s : State) (d : Nat) (bits : List ProbeBit) (pins : List PinFault) :
    Changes [.evr, .cmq, .land, .media, .plp, .ports, .out] s (State.probeEnds s d bits pins) := by
  have h0 := Changes.refl [.evr, .cmq, .land, .media, .plp, .ports, .out] s
  unfold State.probeEnds
  repeat' (first
    | ((first | intro x | (lift_lets; intro x)); first | (guard_hyp x : State := _; have hx : Changes [.evr, .cmq, .land, .media, .plp, .ports, .out] s x := (by unfold x; repeat' (first | with_reducible assumption | ((with_reducible apply Changes.step (State.dataFailed_changes ..)) <;> [rfl; skip]) | ((with_reducible apply Changes.step (State.emit_changes ..)) <;> [rfl; skip]) | ((with_reducible apply Changes.step (State.pinCheck_changes ..)) <;> [rfl; skip]) | ((with_reducible apply Changes.step (State.setFch_changes ..)) <;> [rfl; skip]) | ((with_reducible apply Changes.foldl) <;> [(intro _ _ _); skip]) | split)); clear_value x) | clear_value x | skip)
    | with_reducible assumption | ((with_reducible apply Changes.step (State.dataFailed_changes ..)) <;> [rfl; skip]) | ((with_reducible apply Changes.step (State.emit_changes ..)) <;> [rfl; skip]) | ((with_reducible apply Changes.step (State.pinCheck_changes ..)) <;> [rfl; skip]) | ((with_reducible apply Changes.step (State.setFch_changes ..)) <;> [rfl; skip]) | ((with_reducible apply Changes.foldl) <;> [(intro _ _ _); skip])
    | split)

theorem State.probeTo_changes (s : State) (d : Nat) (bits : List ProbeBit) (pins : List PinFault) :
    Changes [.evr, .cmq, .land, .media, .plp, .ports, .out] s (State.probeTo s d bits pins) := by
  have h0 := Changes.refl [.evr, .cmq, .land, .media, .plp, .ports, .out] s
  unfold State.probeTo
  repeat' (first
    | ((first | intro x | (lift_lets; intro x)); first | (guard_hyp x : State := _; have hx : Changes [.evr, .cmq, .land, .media, .plp, .ports, .out] s x := (by unfold x; repeat' (first | with_reducible assumption | ((with_reducible apply Changes.step (State.probeEnds_changes ..)) <;> [rfl; skip]) | ((with_reducible apply Changes.step (State.transfer_changes ..)) <;> [rfl; skip]) | ((with_reducible apply Changes.foldl) <;> [(intro _ _ _); skip]) | split)); clear_value x) | clear_value x | skip)
    | with_reducible assumption | ((with_reducible apply Changes.step (State.probeEnds_changes ..)) <;> [rfl; skip]) | ((with_reducible apply Changes.step (State.transfer_changes ..)) <;> [rfl; skip]) | ((with_reducible apply Changes.foldl) <;> [(intro _ _ _); skip])
    | split)

theorem State.probesGo_changes (s : State) (ch : Fin 64) :
    Changes [.evr, .cmq, .land, .media, .plp, .ports, .out] s (State.probesGo s ch) := by
  have h0 := Changes.refl [.evr, .cmq, .land, .media, .plp, .ports, .out] s
  unfold State.probesGo
  repeat' (first | with_reducible assumption | ((with_reducible apply Changes.step (State.probeTo_changes ..)) <;> [rfl; skip]) | ((with_reducible apply Changes.step (State.pumpChannel_changes ..)) <;> [rfl; skip]) | ((with_reducible apply Changes.step (State.setFch_changes ..)) <;> [rfl; skip]) | ((with_reducible apply Changes.foldl) <;> [(intro _ _ _); skip]) | split)

theorem State.recentre_changes (s : State) (ch : Fin 64) (ce : Fin 4) (bits : List ProbeBit) (pins : List PinFault) :
    Changes [.evr, .cmq, .land, .media, .plp, .ports, .out] s (State.recentre s ch ce bits pins) := by
  have h0 := Changes.refl [.evr, .cmq, .land, .media, .plp, .ports, .out] s
  unfold State.recentre
  repeat' (first
    | ((first | intro x | (lift_lets; intro x)); first | (guard_hyp x : State := _; have hx : Changes [.evr, .cmq, .land, .media, .plp, .ports, .out] s x := (by unfold x; repeat' (first | with_reducible assumption | ((with_reducible apply Changes.step (State.probeTo_changes ..)) <;> [rfl; skip]) | ((with_reducible apply Changes.step (State.setFch_changes ..)) <;> [rfl; skip]) | ((with_reducible apply Changes.foldl) <;> [(intro _ _ _); skip]) | split)); clear_value x) | clear_value x | skip)
    | with_reducible assumption | ((with_reducible apply Changes.step (State.probeTo_changes ..)) <;> [rfl; skip]) | ((with_reducible apply Changes.step (State.setFch_changes ..)) <;> [rfl; skip]) | ((with_reducible apply Changes.foldl) <;> [(intro _ _ _); skip])
    | split)

theorem State.leaveOut_changes (s : State) (d : Nat) (why : Nat) :
    Changes [.evr, .media] s (State.leaveOut s d why) := by
  have h0 := Changes.refl [.evr, .media] s
  unfold State.leaveOut
  repeat' (first | with_reducible assumption | ((with_reducible apply Changes.step (State.log_changes ..)) <;> [rfl; skip]) | ((with_reducible apply Changes.step (State.setDie_changes ..)) <;> [rfl; skip]) | ((with_reducible apply Changes.foldl) <;> [(intro _ _ _); skip]) | split)

theorem State.unfitDie_changes (s : State) (d : Nat) (why : Nat) :
    Changes [.evr, .media] s (State.unfitDie s d why) := by
  have h0 := Changes.refl [.evr, .media] s
  unfold State.unfitDie
  repeat' (first
    | ((first | intro x | (lift_lets; intro x)); first | (guard_hyp x : State := _; have hx : Changes [.evr, .media] s x := (by unfold x; repeat' (first | with_reducible assumption | ((with_reducible apply Changes.step (State.leaveOut_changes ..)) <;> [rfl; skip]) | ((with_reducible apply Changes.step (State.setMedia_changes ..)) <;> [rfl; skip]) | ((with_reducible apply Changes.foldl) <;> [(intro _ _ _); skip]) | split)); clear_value x) | clear_value x | skip)
    | with_reducible assumption | ((with_reducible apply Changes.step (State.leaveOut_changes ..)) <;> [rfl; skip]) | ((with_reducible apply Changes.step (State.setMedia_changes ..)) <;> [rfl; skip]) | ((with_reducible apply Changes.foldl) <;> [(intro _ _ _); skip])
    | split)

theorem State.checkDie_changes (s : State) (ps : List Profile) (d : Nat) (id : Option DieId) :
    Changes [.evr, .cmq, .land, .media, .plp, .ports, .out] s (State.checkDie s ps d id) := by
  have h0 := Changes.refl [.evr, .cmq, .land, .media, .plp, .ports, .out] s
  unfold State.checkDie
  repeat' (first
    | ((first | intro x | (lift_lets; intro x)); first | (guard_hyp x : State := _; have hx : Changes [.evr, .cmq, .land, .media, .plp, .ports, .out] s x := (by unfold x; repeat' (first | with_reducible assumption | ((with_reducible apply Changes.step (State.dieFails_changes ..)) <;> [rfl; skip]) | ((with_reducible apply Changes.step (State.leaveOut_changes ..)) <;> [rfl; skip]) | ((with_reducible apply Changes.step (State.setDie_changes ..)) <;> [rfl; skip]) | ((with_reducible apply Changes.step (State.setFch_changes ..)) <;> [rfl; skip]) | ((with_reducible apply Changes.step (State.setMedia_changes ..)) <;> [rfl; skip]) | ((with_reducible apply Changes.step (State.unfitDie_changes ..)) <;> [rfl; skip]) | ((with_reducible apply Changes.foldl) <;> [(intro _ _ _); skip]) | split)); clear_value x) | clear_value x | skip)
    | with_reducible assumption | ((with_reducible apply Changes.step (State.dieFails_changes ..)) <;> [rfl; skip]) | ((with_reducible apply Changes.step (State.leaveOut_changes ..)) <;> [rfl; skip]) | ((with_reducible apply Changes.step (State.setDie_changes ..)) <;> [rfl; skip]) | ((with_reducible apply Changes.step (State.setFch_changes ..)) <;> [rfl; skip]) | ((with_reducible apply Changes.step (State.setMedia_changes ..)) <;> [rfl; skip]) | ((with_reducible apply Changes.step (State.unfitDie_changes ..)) <;> [rfl; skip]) | ((with_reducible apply Changes.foldl) <;> [(intro _ _ _); skip])
    | split)

theorem State.ceTrained_changes (s : State) (ch : Fin 64) (ce : Fin 4) (r : CeTraining) (rate : Nat) (eye : Nat) :
    Changes [.evr, .media] s (State.ceTrained s ch ce r rate eye) := by
  have h0 := Changes.refl [.evr, .media] s
  unfold State.ceTrained
  repeat' (first
    | ((first | intro x | (lift_lets; intro x)); first | (guard_hyp x : State := _; have hx : Changes [.evr, .media] s x := (by unfold x; repeat' (first | with_reducible assumption | ((with_reducible apply Changes.step (State.log_changes ..)) <;> [rfl; skip]) | ((with_reducible apply Changes.step (State.setFch_changes ..)) <;> [rfl; skip]) | ((with_reducible apply Changes.foldl) <;> [(intro _ _ _); skip]) | split)); clear_value x) | clear_value x | skip)
    | with_reducible assumption | ((with_reducible apply Changes.step (State.log_changes ..)) <;> [rfl; skip]) | ((with_reducible apply Changes.step (State.setFch_changes ..)) <;> [rfl; skip]) | ((with_reducible apply Changes.foldl) <;> [(intro _ _ _); skip])
    | split)

theorem State.trainOutcome_changes (s : State) (ch : Fin 64) (ce : Fin 4) (r : CeTraining) (pins : List PinFault) :
    Changes [.evr, .cmq, .land, .media, .plp, .ports, .out] s (State.trainOutcome s ch ce r pins) := by
  have h0 := Changes.refl [.evr, .cmq, .land, .media, .plp, .ports, .out] s
  unfold State.trainOutcome
  repeat' (first | with_reducible assumption | ((with_reducible apply Changes.step (State.ceTrained_changes ..)) <;> [rfl; skip]) | ((with_reducible apply Changes.step (State.pinCheck_changes ..)) <;> [rfl; skip]) | ((with_reducible apply Changes.step (State.setFch_changes ..)) <;> [rfl; skip]) | ((with_reducible apply Changes.foldl) <;> [(intro _ _ _); skip]) | split)

theorem State.ceRetrained_changes (s : State) (ch : Fin 64) (ce : Fin 4) (r : CeTraining) (pins : List PinFault) :
    Changes [.evr, .cmq, .land, .media, .plp, .ports, .out] s (State.ceRetrained s ch ce r pins) := by
  have h0 := Changes.refl [.evr, .cmq, .land, .media, .plp, .ports, .out] s
  unfold State.ceRetrained
  repeat' (first
    | ((first | intro x | (lift_lets; intro x)); first | (guard_hyp x : State := _; have hx : Changes [.evr, .cmq, .land, .media, .plp, .ports, .out] s x := (by unfold x; repeat' (first | with_reducible assumption | ((with_reducible apply Changes.step (State.log_changes ..)) <;> [rfl; skip]) | ((with_reducible apply Changes.step (State.pumpChannel_changes ..)) <;> [rfl; skip]) | ((with_reducible apply Changes.step (State.setFch_changes ..)) <;> [rfl; skip]) | ((with_reducible apply Changes.step (State.trainOutcome_changes ..)) <;> [rfl; skip]) | ((with_reducible apply Changes.foldl) <;> [(intro _ _ _); skip]) | split)); clear_value x) | clear_value x | skip)
    | with_reducible assumption | ((with_reducible apply Changes.step (State.log_changes ..)) <;> [rfl; skip]) | ((with_reducible apply Changes.step (State.pumpChannel_changes ..)) <;> [rfl; skip]) | ((with_reducible apply Changes.step (State.setFch_changes ..)) <;> [rfl; skip]) | ((with_reducible apply Changes.step (State.trainOutcome_changes ..)) <;> [rfl; skip]) | ((with_reducible apply Changes.foldl) <;> [(intro _ _ _); skip])
    | split)

theorem State.ceTraining_changes (s : State) (ch : Fin 64) (ce : Fin 4) (r : CeTraining) (pins : List PinFault) :
    Changes [.evr, .cmq, .land, .media, .plp, .ports, .out] s (State.ceTraining s ch ce r pins) := by
  have h0 := Changes.refl [.evr, .cmq, .land, .media, .plp, .ports, .out] s
  unfold State.ceTraining
  repeat' (first
    | ((first | intro x | (lift_lets; intro x)); first | (guard_hyp x : State := _; have hx : Changes [.evr, .cmq, .land, .media, .plp, .ports, .out] s x := (by unfold x; repeat' (first | with_reducible assumption | ((with_reducible apply Changes.step (State.ceRetrained_changes ..)) <;> [rfl; skip]) | ((with_reducible apply Changes.step (State.checkDie_changes ..)) <;> [rfl; skip]) | ((with_reducible apply Changes.step (State.emits_changes ..)) <;> [rfl; skip]) | ((with_reducible apply Changes.step (State.pinCheck_changes ..)) <;> [rfl; skip]) | ((with_reducible apply Changes.step (State.setFch_changes ..)) <;> [rfl; skip]) | ((with_reducible apply Changes.step (State.trainOutcome_changes ..)) <;> [rfl; skip]) | ((with_reducible apply Changes.foldl) <;> [(intro _ _ _); skip]) | split)); clear_value x) | clear_value x | skip)
    | with_reducible assumption | ((with_reducible apply Changes.step (State.ceRetrained_changes ..)) <;> [rfl; skip]) | ((with_reducible apply Changes.step (State.checkDie_changes ..)) <;> [rfl; skip]) | ((with_reducible apply Changes.step (State.emits_changes ..)) <;> [rfl; skip]) | ((with_reducible apply Changes.step (State.pinCheck_changes ..)) <;> [rfl; skip]) | ((with_reducible apply Changes.step (State.setFch_changes ..)) <;> [rfl; skip]) | ((with_reducible apply Changes.step (State.trainOutcome_changes ..)) <;> [rfl; skip]) | ((with_reducible apply Changes.foldl) <;> [(intro _ _ _); skip])
    | split)

theorem State.polled_changes (s : State) (d : Nat) :
    Changes [.media, .out] s (State.polled s d) := by
  have h0 := Changes.refl [.media, .out] s
  unfold State.polled
  repeat' (first | with_reducible assumption | ((with_reducible apply Changes.step (State.busPast_changes ..)) <;> [rfl; skip]) | ((with_reducible apply Changes.step (State.emit_changes ..)) <;> [rfl; skip]) | ((with_reducible apply Changes.foldl) <;> [(intro _ _ _); skip]) | split)

theorem State.returnErases_changes (s : State) (d : Nat) :
    Changes [.media, .out] s (State.returnErases s d) := by
  have h0 := Changes.refl [.media, .out] s
  unfold State.returnErases
  repeat' (first | with_reducible assumption | ((with_reducible apply Changes.step (State.queueErase_changes ..)) <;> [rfl; skip]) | ((with_reducible apply Changes.foldl) <;> [(intro _ _ _); skip]) | split)

theorem State.dieReturns_changes (s : State) (d : Nat) :
    Changes [.evr, .land, .media, .plp, .ports] s (State.dieReturns s d) := by
  have h0 := Changes.refl [.evr, .land, .media, .plp, .ports] s
  unfold State.dieReturns
  repeat' (first
    | ((first | intro x | (lift_lets; intro x)); first | (guard_hyp x : State := _; have hx : Changes [.evr, .land, .media, .plp, .ports] s x := (by unfold x; repeat' (first | with_reducible assumption | ((with_reducible apply Changes.step (State.log_changes ..)) <;> [rfl; skip]) | ((with_reducible apply Changes.step (State.recompute_changes ..)) <;> [rfl; skip]) | ((with_reducible apply Changes.step (State.setDie_changes ..)) <;> [rfl; skip]) | ((with_reducible apply Changes.step (State.setFch_changes ..)) <;> [rfl; skip]) | ((with_reducible apply Changes.foldl) <;> [(intro _ _ _); skip]) | split)); clear_value x) | clear_value x | skip)
    | with_reducible assumption | ((with_reducible apply Changes.step (State.log_changes ..)) <;> [rfl; skip]) | ((with_reducible apply Changes.step (State.recompute_changes ..)) <;> [rfl; skip]) | ((with_reducible apply Changes.step (State.setDie_changes ..)) <;> [rfl; skip]) | ((with_reducible apply Changes.step (State.setFch_changes ..)) <;> [rfl; skip]) | ((with_reducible apply Changes.foldl) <;> [(intro _ _ _); skip])
    | split)

theorem State.erasedBack_changes (s : State) (d : Nat) :
    Changes [.evr, .land, .media, .plp, .ports] s (State.erasedBack s d) := by
  have h0 := Changes.refl [.evr, .land, .media, .plp, .ports] s
  unfold State.erasedBack
  repeat' (first
    | ((first | intro x | (lift_lets; intro x)); first | (guard_hyp x : State := _; have hx : Changes [.evr, .land, .media, .plp, .ports] s x := (by unfold x; repeat' (first | with_reducible assumption | ((with_reducible apply Changes.step (State.dieReturns_changes ..)) <;> [rfl; skip]) | ((with_reducible apply Changes.step (State.setDie_changes ..)) <;> [rfl; skip]) | ((with_reducible apply Changes.foldl) <;> [(intro _ _ _); skip]) | split)); clear_value x) | clear_value x | skip)
    | with_reducible assumption | ((with_reducible apply Changes.step (State.dieReturns_changes ..)) <;> [rfl; skip]) | ((with_reducible apply Changes.step (State.setDie_changes ..)) <;> [rfl; skip]) | ((with_reducible apply Changes.foldl) <;> [(intro _ _ _); skip])
    | split)

theorem State.pollTimeout_changes (s : State) (d : Nat) (pins : List PinFault) :
    Changes [.evr, .cmq, .land, .media, .plp, .ports, .out] s (State.pollTimeout s d pins) := by
  have h0 := Changes.refl [.evr, .cmq, .land, .media, .plp, .ports, .out] s
  unfold State.pollTimeout
  repeat' (first
    | ((first | intro x | (lift_lets; intro x)); first | (guard_hyp x : State := _; have hx : Changes [.evr, .cmq, .land, .media, .plp, .ports, .out] s x := (by unfold x; repeat' (first | with_reducible assumption | ((with_reducible apply Changes.step (State.dieFails_changes ..)) <;> [rfl; skip]) | ((with_reducible apply Changes.step (State.pinCheck_changes ..)) <;> [rfl; skip]) | ((with_reducible apply Changes.step (State.polled_changes ..)) <;> [rfl; skip]) | ((with_reducible apply Changes.step (State.setDie_changes ..)) <;> [rfl; skip]) | ((with_reducible apply Changes.step (State.setFch_changes ..)) <;> [rfl; skip]) | ((with_reducible apply Changes.step (State.transfer_changes ..)) <;> [rfl; skip]) | ((with_reducible apply Changes.foldl) <;> [(intro _ _ _); skip]) | split)); clear_value x) | clear_value x | skip)
    | with_reducible assumption | ((with_reducible apply Changes.step (State.dieFails_changes ..)) <;> [rfl; skip]) | ((with_reducible apply Changes.step (State.pinCheck_changes ..)) <;> [rfl; skip]) | ((with_reducible apply Changes.step (State.polled_changes ..)) <;> [rfl; skip]) | ((with_reducible apply Changes.step (State.setDie_changes ..)) <;> [rfl; skip]) | ((with_reducible apply Changes.step (State.setFch_changes ..)) <;> [rfl; skip]) | ((with_reducible apply Changes.step (State.transfer_changes ..)) <;> [rfl; skip]) | ((with_reducible apply Changes.foldl) <;> [(intro _ _ _); skip])
    | split)

theorem State.nandData_changes (s : State) (rid : Nat) (sig : ReadSignals) :
    Changes [.evr, .cmq, .land, .media, .plp, .ports, .out, .free] s (State.nandData s rid sig) := by
  have h0 := Changes.refl [.evr, .cmq, .land, .media, .plp, .ports, .out, .free] s
  unfold State.nandData
  repeat' (first
    | ((first | intro x | (lift_lets; intro x)); first | (guard_hyp x : State := _; have hx : Changes [.evr, .cmq, .land, .media, .plp, .ports, .out, .free] s x := (by unfold x; repeat' (first | with_reducible assumption | ((with_reducible apply Changes.step (State.dataFailed_changes ..)) <;> [rfl; skip]) | ((with_reducible apply Changes.step (State.probesGo_changes ..)) <;> [rfl; skip]) | ((with_reducible apply Changes.step (State.readData_changes ..)) <;> [rfl; skip]) | ((with_reducible apply Changes.foldl) <;> [(intro _ _ _); skip]) | split)); clear_value x) | clear_value x | skip)
    | with_reducible assumption | ((with_reducible apply Changes.step (State.dataFailed_changes ..)) <;> [rfl; skip]) | ((with_reducible apply Changes.step (State.probesGo_changes ..)) <;> [rfl; skip]) | ((with_reducible apply Changes.step (State.readData_changes ..)) <;> [rfl; skip]) | ((with_reducible apply Changes.foldl) <;> [(intro _ _ _); skip])
    | split)

theorem State.dieSuspended_changes (s : State) (d : Nat) :
    Changes [.media, .out] s (State.dieSuspended s d) := by
  have h0 := Changes.refl [.media, .out] s
  unfold State.dieSuspended
  repeat' (first
    | ((first | intro x | (lift_lets; intro x)); first | (guard_hyp x : State := _; have hx : Changes [.media, .out] s x := (by unfold x; repeat' (first | with_reducible assumption | ((with_reducible apply Changes.step (State.polled_changes ..)) <;> [rfl; skip]) | ((with_reducible apply Changes.step (State.pump_changes ..)) <;> [rfl; skip]) | ((with_reducible apply Changes.step (State.pumpChannel_changes ..)) <;> [rfl; skip]) | ((with_reducible apply Changes.step (State.readWaited_changes ..)) <;> [rfl; skip]) | ((with_reducible apply Changes.step (State.setDie_changes ..)) <;> [rfl; skip]) | ((with_reducible apply Changes.step (State.setFch_changes ..)) <;> [rfl; skip]) | ((with_reducible apply Changes.foldl) <;> [(intro _ _ _); skip]) | split)); clear_value x) | clear_value x | skip)
    | with_reducible assumption | ((with_reducible apply Changes.step (State.polled_changes ..)) <;> [rfl; skip]) | ((with_reducible apply Changes.step (State.pump_changes ..)) <;> [rfl; skip]) | ((with_reducible apply Changes.step (State.pumpChannel_changes ..)) <;> [rfl; skip]) | ((with_reducible apply Changes.step (State.readWaited_changes ..)) <;> [rfl; skip]) | ((with_reducible apply Changes.step (State.setDie_changes ..)) <;> [rfl; skip]) | ((with_reducible apply Changes.step (State.setFch_changes ..)) <;> [rfl; skip]) | ((with_reducible apply Changes.foldl) <;> [(intro _ _ _); skip])
    | split)

theorem State.windowPassed_changes (s : State) (d : Nat) :
    Changes [.media, .out] s (State.windowPassed s d) := by
  have h0 := Changes.refl [.media, .out] s
  unfold State.windowPassed
  repeat' (first | with_reducible assumption | ((with_reducible apply Changes.step (State.pump_changes ..)) <;> [rfl; skip]) | ((with_reducible apply Changes.step (State.setDie_changes ..)) <;> [rfl; skip]) | ((with_reducible apply Changes.foldl) <;> [(intro _ _ _); skip]) | split)

theorem State.runReached_changes (s : State) (d : Nat) :
    Changes [.media, .out] s (State.runReached s d) := by
  have h0 := Changes.refl [.media, .out] s
  unfold State.runReached
  repeat' (first | with_reducible assumption | ((with_reducible apply Changes.step (State.pump_changes ..)) <;> [rfl; skip]) | ((with_reducible apply Changes.step (State.setDie_changes ..)) <;> [rfl; skip]) | ((with_reducible apply Changes.foldl) <;> [(intro _ _ _); skip]) | split)

theorem State.waitLimit_changes (s : State) (d : Nat) (erase : Bool) :
    Changes [.media, .out] s (State.waitLimit s d erase) := by
  have h0 := Changes.refl [.media, .out] s
  unfold State.waitLimit
  repeat' (first
    | ((first | intro x | (lift_lets; intro x)); first | (guard_hyp x : State := _; have hx : Changes [.media, .out] s x := (by unfold x; repeat' (first | with_reducible assumption | ((with_reducible apply Changes.step (State.pump_changes ..)) <;> [rfl; skip]) | ((with_reducible apply Changes.step (State.setDie_changes ..)) <;> [rfl; skip]) | ((with_reducible apply Changes.foldl) <;> [(intro _ _ _); skip]) | split)); clear_value x) | clear_value x | skip)
    | with_reducible assumption | ((with_reducible apply Changes.step (State.pump_changes ..)) <;> [rfl; skip]) | ((with_reducible apply Changes.step (State.setDie_changes ..)) <;> [rfl; skip]) | ((with_reducible apply Changes.foldl) <;> [(intro _ _ _); skip])
    | split)

theorem State.triggerStripe_changes (s : State) (sid : Nat) (trig : Nat) :
    Changes [.evr, .media, .out] s (State.triggerStripe s sid trig) := by
  have h0 := Changes.refl [.evr, .media, .out] s
  unfold State.triggerStripe
  repeat' (first | with_reducible assumption | ((with_reducible apply Changes.step (State.trigger_changes ..)) <;> [rfl; skip]) | ((with_reducible apply Changes.foldl) <;> [(intro _ _ _); skip]) | split)

theorem State.scanFindings_changes (s : State) (fs : List ScanFinding) :
    Changes [.evr, .media, .out] s (State.scanFindings s fs) := by
  have h0 := Changes.refl [.evr, .media, .out] s
  unfold State.scanFindings
  repeat' (first | with_reducible assumption | ((with_reducible apply Changes.step (State.triggerStripe_changes ..)) <;> [rfl; skip]) | ((with_reducible apply Changes.foldl) <;> [(intro _ _ _); skip]) | split)

theorem State.pounceFinish_changes (s : State) (id : Nat) :
    Changes [.evr, .media, .out] s (State.pounceFinish s id) := by
  have h0 := Changes.refl [.evr, .media, .out] s
  unfold State.pounceFinish
  repeat' (first
    | ((first | intro x | (lift_lets; intro x)); first | (guard_hyp x : State := _; have hx : Changes [.evr, .media, .out] s x := (by unfold x; repeat' (first | with_reducible assumption | ((with_reducible apply Changes.step (State.log_changes ..)) <;> [rfl; skip]) | ((with_reducible apply Changes.step (State.setMedia_changes ..)) <;> [rfl; skip]) | ((with_reducible apply Changes.step (State.settleStripes_changes ..)) <;> [rfl; skip]) | ((with_reducible apply Changes.foldl) <;> [(intro _ _ _); skip]) | split)); clear_value x) | clear_value x | skip)
    | with_reducible assumption | ((with_reducible apply Changes.step (State.log_changes ..)) <;> [rfl; skip]) | ((with_reducible apply Changes.step (State.setMedia_changes ..)) <;> [rfl; skip]) | ((with_reducible apply Changes.step (State.settleStripes_changes ..)) <;> [rfl; skip]) | ((with_reducible apply Changes.foldl) <;> [(intro _ _ _); skip])
    | split)

theorem State.pounceAged_changes (s : State) (id : Nat) :
    Changes [.evr, .media, .out] s (State.pounceAged s id) := by
  have h0 := Changes.refl [.evr, .media, .out] s
  unfold State.pounceAged
  repeat' (first | with_reducible assumption | ((with_reducible apply Changes.step (State.setMedia_changes ..)) <;> [rfl; skip]) | ((with_reducible apply Changes.step (State.startPounce_changes ..)) <;> [rfl; skip]) | ((with_reducible apply Changes.foldl) <;> [(intro _ _ _); skip]) | split)

theorem State.closeHandle_changes (s : State) (handle : Nat) (kind : Nat) :
    Changes [.media, .out] s (State.closeHandle s handle kind) := by
  have h0 := Changes.refl [.media, .out] s
  unfold State.closeHandle
  repeat' (first
    | ((first | intro x | (lift_lets; intro x)); first | (guard_hyp x : State := _; have hx : Changes [.media, .out] s x := (by unfold x; repeat' (first | with_reducible assumption | ((with_reducible apply Changes.step (State.closeStripe_changes ..)) <;> [rfl; skip]) | ((with_reducible apply Changes.step (State.setMedia_changes ..)) <;> [rfl; skip]) | ((with_reducible apply Changes.foldl) <;> [(intro _ _ _); skip]) | split)); clear_value x) | clear_value x | skip)
    | with_reducible assumption | ((with_reducible apply Changes.step (State.closeStripe_changes ..)) <;> [rfl; skip]) | ((with_reducible apply Changes.step (State.setMedia_changes ..)) <;> [rfl; skip]) | ((with_reducible apply Changes.foldl) <;> [(intro _ _ _); skip])
    | split)

theorem State.setPlp_changes (s : State) (f : Plp → Plp) :
    Changes [.plp] s (State.setPlp s f) := by
  have h0 := Changes.refl [.plp] s
  unfold State.setPlp
  repeat' (first | with_reducible assumption | ((conv => (arg 3; arg 24; skip)); ((with_reducible apply Changes.plp_with) <;> [rfl; skip])) | ((with_reducible apply Changes.foldl) <;> [(intro _ _ _); skip]) | split)

theorem State.gates_changes (s : State) :
    Changes [.out] s (State.gates s) := by
  have h0 := Changes.refl [.out] s
  unfold State.gates
  repeat' (first | with_reducible assumption | ((with_reducible apply Changes.step (State.emit_changes ..)) <;> [rfl; skip]) | ((with_reducible apply Changes.foldl) <;> [(intro _ _ _); skip]) | split)

theorem State.startCharge_changes (s : State) :
    Changes [.evr, .land, .plp, .ports, .out] s (State.startCharge s) := by
  have h0 := Changes.refl [.evr, .land, .plp, .ports, .out] s
  unfold State.startCharge
  repeat' (first | with_reducible assumption | ((with_reducible apply Changes.step (State.gates_changes ..)) <;> [rfl; skip]) | ((with_reducible apply Changes.step (State.recompute_changes ..)) <;> [rfl; skip]) | ((with_reducible apply Changes.step (State.setPlp_changes ..)) <;> [rfl; skip]) | ((with_reducible apply Changes.foldl) <;> [(intro _ _ _); skip]) | split)

theorem State.chargeEnable_changes (s : State) :
    Changes [.evr, .land, .plp, .ports, .out] s (State.chargeEnable s) := by
  have h0 := Changes.refl [.evr, .land, .plp, .ports, .out] s
  unfold State.chargeEnable
  repeat' (first
    | ((first | intro x | (lift_lets; intro x)); first | (guard_hyp x : State := _; have hx : Changes [.evr, .land, .plp, .ports, .out] s x := (by unfold x; repeat' (first | with_reducible assumption | ((with_reducible apply Changes.step (State.setPlp_changes ..)) <;> [rfl; skip]) | ((with_reducible apply Changes.step (State.startCharge_changes ..)) <;> [rfl; skip]) | ((with_reducible apply Changes.foldl) <;> [(intro _ _ _); skip]) | split)); clear_value x) | clear_value x | skip)
    | with_reducible assumption | ((with_reducible apply Changes.step (State.setPlp_changes ..)) <;> [rfl; skip]) | ((with_reducible apply Changes.step (State.startCharge_changes ..)) <;> [rfl; skip]) | ((with_reducible apply Changes.foldl) <;> [(intro _ _ _); skip])
    | split)

theorem State.startTest_changes (s : State) :
    Changes [.evr, .land, .plp, .ports, .out] s (State.startTest s) := by
  have h0 := Changes.refl [.evr, .land, .plp, .ports, .out] s
  unfold State.startTest
  repeat' (first
    | ((first | intro x | (lift_lets; intro x)); first | (guard_hyp x : State := _; have hx : Changes [.evr, .land, .plp, .ports, .out] s x := (by unfold x; repeat' (first | with_reducible assumption | ((with_reducible apply Changes.step (State.gates_changes ..)) <;> [rfl; skip]) | ((with_reducible apply Changes.step (State.recompute_changes ..)) <;> [rfl; skip]) | ((with_reducible apply Changes.step (State.setPlp_changes ..)) <;> [rfl; skip]) | ((with_reducible apply Changes.foldl) <;> [(intro _ _ _); skip]) | split)); clear_value x) | clear_value x | skip)
    | with_reducible assumption | ((with_reducible apply Changes.step (State.gates_changes ..)) <;> [rfl; skip]) | ((with_reducible apply Changes.step (State.recompute_changes ..)) <;> [rfl; skip]) | ((with_reducible apply Changes.step (State.setPlp_changes ..)) <;> [rfl; skip]) | ((with_reducible apply Changes.foldl) <;> [(intro _ _ _); skip])
    | split)

theorem State.tryTest_changes (s : State) :
    Changes [.evr, .land, .plp, .ports, .out] s (State.tryTest s) := by
  have h0 := Changes.refl [.evr, .land, .plp, .ports, .out] s
  unfold State.tryTest
  repeat' (first | with_reducible assumption | ((with_reducible apply Changes.step (State.startTest_changes ..)) <;> [rfl; skip]) | ((with_reducible apply Changes.foldl) <;> [(intro _ _ _); skip]) | split)

theorem State.fullCharge_changes (s : State) :
    Changes [.evr, .cmq, .land, .media, .plp, .ports, .out, .free] s (State.fullCharge s) := by
  have h0 := Changes.refl [.evr, .cmq, .land, .media, .plp, .ports, .out, .free] s
  unfold State.fullCharge
  repeat' (first
    | ((first | intro x | (lift_lets; intro x)); first | (guard_hyp x : State := _; have hx : Changes [.evr, .cmq, .land, .media, .plp, .ports, .out, .free] s x := (by unfold x; repeat' (first | with_reducible assumption | ((with_reducible apply Changes.step (State.gates_changes ..)) <;> [rfl; skip]) | ((with_reducible apply Changes.step (State.log_changes ..)) <;> [rfl; skip]) | ((with_reducible apply Changes.step (State.recompute_changes ..)) <;> [rfl; skip]) | ((with_reducible apply Changes.step (State.resumeAll_changes ..)) <;> [rfl; skip]) | ((with_reducible apply Changes.step (State.setPlp_changes ..)) <;> [rfl; skip]) | ((with_reducible apply Changes.step (State.startTest_changes ..)) <;> [rfl; skip]) | ((with_reducible apply Changes.foldl) <;> [(intro _ _ _); skip]) | split)); clear_value x) | clear_value x | skip)
    | with_reducible assumption | ((with_reducible apply Changes.step (State.gates_changes ..)) <;> [rfl; skip]) | ((with_reducible apply Changes.step (State.log_changes ..)) <;> [rfl; skip]) | ((with_reducible apply Changes.step (State.recompute_changes ..)) <;> [rfl; skip]) | ((with_reducible apply Changes.step (State.resumeAll_changes ..)) <;> [rfl; skip]) | ((with_reducible apply Changes.step (State.setPlp_changes ..)) <;> [rfl; skip]) | ((with_reducible apply Changes.step (State.startTest_changes ..)) <;> [rfl; skip]) | ((with_reducible apply Changes.foldl) <;> [(intro _ _ _); skip])
    | split)

theorem State.writeImage_changes (s : State) :
    Changes [.evr, .land, .media] s (State.writeImage s) := by
  have h0 := Changes.refl [.evr, .land, .media] s
  unfold State.writeImage
  repeat' (first
    | ((first | intro x | (lift_lets; intro x)); first | (guard_hyp x : State := _; have hx : Changes [.evr, .land, .media] s x := (by unfold x; repeat' (first | with_reducible assumption | ((conv => (arg 3; arg 24; skip)); ((with_reducible apply Changes.land_with) <;> [rfl; skip])) | ((with_reducible apply Changes.step (State.checkWear_changes ..)) <;> [rfl; skip]) | ((with_reducible apply Changes.step (State.setMedia_changes ..)) <;> [rfl; skip]) | ((with_reducible apply Changes.foldl) <;> [(intro _ _ _); skip]) | split)); clear_value x) | clear_value x | skip)
    | with_reducible assumption | ((conv => (arg 3; arg 24; skip)); ((with_reducible apply Changes.land_with) <;> [rfl; skip])) | ((with_reducible apply Changes.step (State.checkWear_changes ..)) <;> [rfl; skip]) | ((with_reducible apply Changes.step (State.setMedia_changes ..)) <;> [rfl; skip]) | ((with_reducible apply Changes.foldl) <;> [(intro _ _ _); skip])
    | split)

theorem State.drain_changes (s : State) :
    Changes [.land, .media, .out] s (State.drain s) := by
  have h0 := Changes.refl [.land, .media, .out] s
  unfold State.drain
  repeat' (first
    | ((first | intro x | (lift_lets; intro x)); first | (guard_hyp x : State := _; have hx : Changes [.land, .media, .out] s x := (by unfold x; repeat' (first | with_reducible assumption | ((with_reducible apply Changes.step (State.closeEarly_changes ..)) <;> [rfl; skip]) | ((with_reducible apply Changes.step (State.dispatchAll_changes ..)) <;> [rfl; skip]) | ((with_reducible apply Changes.step (State.ensureFinal_changes ..)) <;> [rfl; skip]) | ((with_reducible apply Changes.foldl) <;> [(intro _ _ _); skip]) | split)); clear_value x) | clear_value x | skip)
    | with_reducible assumption | ((with_reducible apply Changes.step (State.closeEarly_changes ..)) <;> [rfl; skip]) | ((with_reducible apply Changes.step (State.dispatchAll_changes ..)) <;> [rfl; skip]) | ((with_reducible apply Changes.step (State.ensureFinal_changes ..)) <;> [rfl; skip]) | ((with_reducible apply Changes.foldl) <;> [(intro _ _ _); skip])
    | split)

theorem State.bankFault_changes (s : State) (k : BankFaultKind) (pins : BankPins) :
    Changes [.evr, .land, .media, .plp, .ports, .out] s (State.bankFault s k pins) := by
  have h0 := Changes.refl [.evr, .land, .media, .plp, .ports, .out] s
  unfold State.bankFault
  repeat' (first
    | ((first | intro x | (lift_lets; intro x)); first | (guard_hyp x : State := _; have hx : Changes [.evr, .land, .media, .plp, .ports, .out] s x := (by unfold x; repeat' (first | with_reducible assumption | ((with_reducible apply Changes.step (State.drain_changes ..)) <;> [rfl; skip]) | ((with_reducible apply Changes.step (State.gates_changes ..)) <;> [rfl; skip]) | ((with_reducible apply Changes.step (State.log_changes ..)) <;> [rfl; skip]) | ((with_reducible apply Changes.step (State.recompute_changes ..)) <;> [rfl; skip]) | ((with_reducible apply Changes.step (State.setPlp_changes ..)) <;> [rfl; skip]) | ((with_reducible apply Changes.step (State.writeImage_changes ..)) <;> [rfl; skip]) | ((with_reducible apply Changes.foldl) <;> [(intro _ _ _); skip]) | split)); clear_value x) | clear_value x | skip)
    | with_reducible assumption | ((with_reducible apply Changes.step (State.drain_changes ..)) <;> [rfl; skip]) | ((with_reducible apply Changes.step (State.gates_changes ..)) <;> [rfl; skip]) | ((with_reducible apply Changes.step (State.log_changes ..)) <;> [rfl; skip]) | ((with_reducible apply Changes.step (State.recompute_changes ..)) <;> [rfl; skip]) | ((with_reducible apply Changes.step (State.setPlp_changes ..)) <;> [rfl; skip]) | ((with_reducible apply Changes.step (State.writeImage_changes ..)) <;> [rfl; skip]) | ((with_reducible apply Changes.foldl) <;> [(intro _ _ _); skip])
    | split)

theorem State.bankFaultClear_changes (s : State) (k : BankFaultKind) :
    Changes [.evr, .land, .plp, .ports, .out] s (State.bankFaultClear s k) := by
  have h0 := Changes.refl [.evr, .land, .plp, .ports, .out] s
  unfold State.bankFaultClear
  repeat' (first
    | ((first | intro x | (lift_lets; intro x)); first | (guard_hyp x : State := _; have hx : Changes [.evr, .land, .plp, .ports, .out] s x := (by unfold x; repeat' (first | with_reducible assumption | ((with_reducible apply Changes.step (State.log_changes ..)) <;> [rfl; skip]) | ((with_reducible apply Changes.step (State.setPlp_changes ..)) <;> [rfl; skip]) | ((with_reducible apply Changes.step (State.startCharge_changes ..)) <;> [rfl; skip]) | ((with_reducible apply Changes.foldl) <;> [(intro _ _ _); skip]) | split)); clear_value x) | clear_value x | skip)
    | with_reducible assumption | ((with_reducible apply Changes.step (State.log_changes ..)) <;> [rfl; skip]) | ((with_reducible apply Changes.step (State.setPlp_changes ..)) <;> [rfl; skip]) | ((with_reducible apply Changes.step (State.startCharge_changes ..)) <;> [rfl; skip]) | ((with_reducible apply Changes.foldl) <;> [(intro _ _ _); skip])
    | split)

theorem State.judgeTest_changes (s : State) (m : BankMeas) :
    Changes [.evr, .land, .plp, .ports] s (State.judgeTest s m) := by
  have h0 := Changes.refl [.evr, .land, .plp, .ports] s
  unfold State.judgeTest
  repeat' (first
    | ((first | intro x | (lift_lets; intro x)); first | (guard_hyp x : State := _; have hx : Changes [.evr, .land, .plp, .ports] s x := (by unfold x; repeat' (first | with_reducible assumption | ((with_reducible apply Changes.step (State.log_changes ..)) <;> [rfl; skip]) | ((with_reducible apply Changes.step (State.recompute_changes ..)) <;> [rfl; skip]) | ((with_reducible apply Changes.step (State.setPlp_changes ..)) <;> [rfl; skip]) | ((with_reducible apply Changes.foldl) <;> [(intro _ _ _); skip]) | split)); clear_value x) | clear_value x | skip)
    | with_reducible assumption | ((with_reducible apply Changes.step (State.log_changes ..)) <;> [rfl; skip]) | ((with_reducible apply Changes.step (State.recompute_changes ..)) <;> [rfl; skip]) | ((with_reducible apply Changes.step (State.setPlp_changes ..)) <;> [rfl; skip]) | ((with_reducible apply Changes.foldl) <;> [(intro _ _ _); skip])
    | split)

theorem State.bankTestEnd_changes (s : State) (m : BankMeas) :
    Changes [.evr, .cmq, .land, .media, .plp, .ports, .out, .free] s (State.bankTestEnd s m) := by
  have h0 := Changes.refl [.evr, .cmq, .land, .media, .plp, .ports, .out, .free] s
  unfold State.bankTestEnd
  repeat' (first
    | ((first | intro x | (lift_lets; intro x)); first | (guard_hyp x : State := _; have hx : Changes [.evr, .cmq, .land, .media, .plp, .ports, .out, .free] s x := (by unfold x; repeat' (first | with_reducible assumption | ((with_reducible apply Changes.step (State.bankFault_changes ..)) <;> [rfl; skip]) | ((with_reducible apply Changes.step (State.gates_changes ..)) <;> [rfl; skip]) | ((with_reducible apply Changes.step (State.judgeTest_changes ..)) <;> [rfl; skip]) | ((with_reducible apply Changes.step (State.recompute_changes ..)) <;> [rfl; skip]) | ((with_reducible apply Changes.step (State.resumeAll_changes ..)) <;> [rfl; skip]) | ((with_reducible apply Changes.step (State.setPlp_changes ..)) <;> [rfl; skip]) | ((with_reducible apply Changes.foldl) <;> [(intro _ _ _); skip]) | split)); clear_value x) | clear_value x | skip)
    | with_reducible assumption | ((with_reducible apply Changes.step (State.bankFault_changes ..)) <;> [rfl; skip]) | ((with_reducible apply Changes.step (State.gates_changes ..)) <;> [rfl; skip]) | ((with_reducible apply Changes.step (State.judgeTest_changes ..)) <;> [rfl; skip]) | ((with_reducible apply Changes.step (State.recompute_changes ..)) <;> [rfl; skip]) | ((with_reducible apply Changes.step (State.resumeAll_changes ..)) <;> [rfl; skip]) | ((with_reducible apply Changes.step (State.setPlp_changes ..)) <;> [rfl; skip]) | ((with_reducible apply Changes.foldl) <;> [(intro _ _ _); skip])
    | split)

theorem State.resetLun_changes (s : State) (d : Nat) :
    Changes [.media, .out] s (State.resetLun s d) := by
  have h0 := Changes.refl [.media, .out] s
  unfold State.resetLun
  repeat' (first | with_reducible assumption | ((with_reducible apply Changes.step (State.busDrop_changes ..)) <;> [rfl; skip]) | ((with_reducible apply Changes.step (State.setDie_changes ..)) <;> [rfl; skip]) | ((with_reducible apply Changes.step (State.transfer_changes ..)) <;> [rfl; skip]) | ((with_reducible apply Changes.foldl) <;> [(intro _ _ _); skip]) | split)

theorem State.stopForFlush_changes (s : State) :
    Changes [.cmq, .land, .media, .sdm, .out] s (State.stopForFlush s) := by
  have h0 := Changes.refl [.cmq, .land, .media, .sdm, .out] s
  unfold State.stopForFlush
  repeat' (first
    | ((first | intro x | (lift_lets; intro x)); first | (guard_hyp x : State := _; have hx : Changes [.cmq, .land, .media, .sdm, .out] s x := (by unfold x; repeat' (first | with_reducible assumption | ((conv => (arg 3; arg 24; skip)); ((with_reducible apply Changes.cmq_sdm_with) <;> [rfl; rfl; skip])) | ((with_reducible apply Changes.step (State.dropLines_changes ..)) <;> [rfl; skip]) | ((with_reducible apply Changes.step (State.resetLun_changes ..)) <;> [rfl; skip]) | ((with_reducible apply Changes.step (State.setMedia_changes ..)) <;> [rfl; skip]) | ((with_reducible apply Changes.foldl) <;> [(intro _ _ _); skip]) | split)); clear_value x) | clear_value x | skip)
    | with_reducible assumption | ((conv => (arg 3; arg 24; skip)); ((with_reducible apply Changes.cmq_sdm_with) <;> [rfl; rfl; skip])) | ((with_reducible apply Changes.step (State.dropLines_changes ..)) <;> [rfl; skip]) | ((with_reducible apply Changes.step (State.resetLun_changes ..)) <;> [rfl; skip]) | ((with_reducible apply Changes.step (State.setMedia_changes ..)) <;> [rfl; skip]) | ((with_reducible apply Changes.foldl) <;> [(intro _ _ _); skip])
    | split)

theorem State.flushBody_changes (s : State) :
    Changes [.evr, .cmq, .land, .media, .sdm, .out] s (State.flushBody s) := by
  have h0 := Changes.refl [.evr, .cmq, .land, .media, .sdm, .out] s
  unfold State.flushBody
  repeat' (first
    | ((first | intro x | (lift_lets; intro x)); first | (guard_hyp x : State := _; have hx : Changes [.evr, .cmq, .land, .media, .sdm, .out] s x := (by unfold x; repeat' (first | with_reducible assumption | ((conv => (arg 3; arg 24; skip)); ((with_reducible apply Changes.land_with) <;> [rfl; skip])) | ((with_reducible apply Changes.step (State.drain_changes ..)) <;> [rfl; skip]) | ((with_reducible apply Changes.step (State.pump_changes ..)) <;> [rfl; skip]) | ((with_reducible apply Changes.step (State.stopForFlush_changes ..)) <;> [rfl; skip]) | ((with_reducible apply Changes.step (State.writeImage_changes ..)) <;> [rfl; skip]) | ((with_reducible apply Changes.foldl) <;> [(intro _ _ _); skip]) | split)); clear_value x) | clear_value x | skip)
    | with_reducible assumption | ((conv => (arg 3; arg 24; skip)); ((with_reducible apply Changes.land_with) <;> [rfl; skip])) | ((with_reducible apply Changes.step (State.drain_changes ..)) <;> [rfl; skip]) | ((with_reducible apply Changes.step (State.pump_changes ..)) <;> [rfl; skip]) | ((with_reducible apply Changes.step (State.stopForFlush_changes ..)) <;> [rfl; skip]) | ((with_reducible apply Changes.step (State.writeImage_changes ..)) <;> [rfl; skip]) | ((with_reducible apply Changes.foldl) <;> [(intro _ _ _); skip])
    | split)

theorem State.powerFail_changes (s : State) :
    Changes [.phase, .evr, .cmq, .land, .media, .plp, .dram, .sdm, .pws, .out] s (State.powerFail s) := by
  have h0 := Changes.refl [.phase, .evr, .cmq, .land, .media, .plp, .dram, .sdm, .pws, .out] s
  unfold State.powerFail
  repeat' (first
    | ((first | intro x | (lift_lets; intro x)); first | (guard_hyp x : State := _; have hx : Changes [.phase, .evr, .cmq, .land, .media, .plp, .dram, .sdm, .pws, .out] s x := (by unfold x; repeat' (first | with_reducible assumption | ((conv => (arg 3; arg 24; skip)); ((with_reducible apply Changes.dram_pws_with) <;> [rfl; rfl; skip])) | ((conv => (arg 3; arg 24; skip)); ((with_reducible apply Changes.phase_with) <;> [rfl; skip])) | ((with_reducible apply Changes.step (State.flushBody_changes ..)) <;> [rfl; skip]) | ((with_reducible apply Changes.step (State.gates_changes ..)) <;> [rfl; skip]) | ((with_reducible apply Changes.step (State.log_changes ..)) <;> [rfl; skip]) | ((with_reducible apply Changes.step (State.setPlp_changes ..)) <;> [rfl; skip]) | ((with_reducible apply Changes.foldl) <;> [(intro _ _ _); skip]) | split)); clear_value x) | clear_value x | skip)
    | with_reducible assumption | ((conv => (arg 3; arg 24; skip)); ((with_reducible apply Changes.dram_pws_with) <;> [rfl; rfl; skip])) | ((conv => (arg 3; arg 24; skip)); ((with_reducible apply Changes.phase_with) <;> [rfl; skip])) | ((with_reducible apply Changes.step (State.flushBody_changes ..)) <;> [rfl; skip]) | ((with_reducible apply Changes.step (State.gates_changes ..)) <;> [rfl; skip]) | ((with_reducible apply Changes.step (State.log_changes ..)) <;> [rfl; skip]) | ((with_reducible apply Changes.step (State.setPlp_changes ..)) <;> [rfl; skip]) | ((with_reducible apply Changes.foldl) <;> [(intro _ _ _); skip])
    | split)

theorem State.runEnds_changes (s : State) (power : Bool) :
    Changes [.plp, .boot] s (State.runEnds s power) := by
  have h0 := Changes.refl [.plp, .boot] s
  unfold State.runEnds
  repeat' (first
    | ((first | intro x | (lift_lets; intro x)); first | (guard_hyp x : State := _; have hx : Changes [.plp, .boot] s x := (by unfold x; repeat' (first | with_reducible assumption | ((conv => (arg 3; arg 24; skip)); ((with_reducible apply Changes.plp_with) <;> [rfl; skip])) | ((conv => (arg 3; arg 24; skip)); ((with_reducible apply Changes.plp_boot_with) <;> [rfl; rfl; skip])) | ((with_reducible apply Changes.foldl) <;> [(intro _ _ _); skip]) | split)); clear_value x) | clear_value x | skip)
    | with_reducible assumption | ((conv => (arg 3; arg 24; skip)); ((with_reducible apply Changes.plp_with) <;> [rfl; skip])) | ((conv => (arg 3; arg 24; skip)); ((with_reducible apply Changes.plp_boot_with) <;> [rfl; rfl; skip])) | ((with_reducible apply Changes.foldl) <;> [(intro _ _ _); skip])
    | split)

theorem State.leftBehind_changes (s : State) :
    Changes [.plp, .boot] s (State.leftBehind s) := by
  have h0 := Changes.refl [.plp, .boot] s
  unfold State.leftBehind
  repeat' (first | with_reducible assumption | ((conv => (arg 3; arg 24; skip)); ((with_reducible apply Changes.plp_with) <;> [rfl; skip])) | ((conv => (arg 3; arg 24; skip)); ((with_reducible apply Changes.plp_boot_with) <;> [rfl; rfl; skip])) | ((with_reducible apply Changes.step (State.runEnds_changes ..)) <;> [rfl; skip]) | ((with_reducible apply Changes.foldl) <;> [(intro _ _ _); skip]) | split)

theorem State.powerFails_changes (s : State) (src : PfSource) :
    Changes [.phase, .evr, .cmq, .land, .media, .plp, .dram, .sdm, .boot, .pws, .out] s (State.powerFails s src) := by
  have h0 := Changes.refl [.phase, .evr, .cmq, .land, .media, .plp, .dram, .sdm, .boot, .pws, .out] s
  unfold State.powerFails
  dsimp only
  repeat' (first | with_reducible assumption | ((conv => (arg 3; arg 24; skip)); ((with_reducible apply Changes.phase_with) <;> [rfl; skip])) | ((with_reducible apply Changes.step (State.leftBehind_changes ..)) <;> [rfl; skip]) | ((with_reducible apply Changes.step (State.powerFail_changes ..)) <;> [rfl; skip]) | ((with_reducible apply Changes.step (State.setPlp_changes ..)) <;> [rfl; skip]) | ((with_reducible apply Changes.foldl) <;> [(intro _ _ _); skip]) | split)

theorem State.persist_changes (s : State) :
    Changes [.evr, .clocks] s (State.persist s) := by
  have h0 := Changes.refl [.evr, .clocks] s
  unfold State.persist
  repeat' (first | with_reducible assumption | ((conv => (arg 3; arg 24; skip)); ((with_reducible apply Changes.evr_clocks_with) <;> [rfl; rfl; skip])) | ((with_reducible apply Changes.foldl) <;> [(intro _ _ _); skip]) | split)

theorem State.mark_changes (s : State) (us : Nat) :
    Changes [.evr, .clocks, .media, .plp] s (State.mark s us) := by
  have h0 := Changes.refl [.evr, .clocks, .media, .plp] s
  unfold State.mark
  repeat' (first
    | ((first | intro x | (lift_lets; intro x)); first | (guard_hyp x : State := _; have hx : Changes [.evr, .clocks, .media, .plp] s x := (by unfold x; repeat' (first | with_reducible assumption | ((with_reducible apply Changes.step (State.checkWear_changes ..)) <;> [rfl; skip]) | ((with_reducible apply Changes.step (State.persist_changes ..)) <;> [rfl; skip]) | ((with_reducible apply Changes.step (State.setMedia_changes ..)) <;> [rfl; skip]) | ((with_reducible apply Changes.step (State.setPlp_changes ..)) <;> [rfl; skip]) | ((with_reducible apply Changes.foldl) <;> [(intro _ _ _); skip]) | split)); clear_value x) | clear_value x | skip)
    | with_reducible assumption | ((with_reducible apply Changes.step (State.checkWear_changes ..)) <;> [rfl; skip]) | ((with_reducible apply Changes.step (State.persist_changes ..)) <;> [rfl; skip]) | ((with_reducible apply Changes.step (State.setMedia_changes ..)) <;> [rfl; skip]) | ((with_reducible apply Changes.step (State.setPlp_changes ..)) <;> [rfl; skip]) | ((with_reducible apply Changes.foldl) <;> [(intro _ _ _); skip])
    | split)

theorem State.enablesFall_changes (s : State) :
    Changes [.pws, .out] s (State.enablesFall s) := by
  have h0 := Changes.refl [.pws, .out] s
  unfold State.enablesFall
  repeat' (first | with_reducible assumption | ((conv => (arg 3; arg 24; skip)); ((with_reducible apply Changes.pws_with) <;> [rfl; skip])) | ((with_reducible apply Changes.step (State.emits_changes ..)) <;> [rfl; skip]) | ((with_reducible apply Changes.foldl) <;> [(intro _ _ _); skip]) | split)

theorem State.isoClose_changes (s : State) :
    Changes [.plp, .out] s (State.isoClose s) := by
  have h0 := Changes.refl [.plp, .out] s
  unfold State.isoClose
  repeat' (first | with_reducible assumption | ((with_reducible apply Changes.step (State.gates_changes ..)) <;> [rfl; skip]) | ((with_reducible apply Changes.step (State.setPlp_changes ..)) <;> [rfl; skip]) | ((with_reducible apply Changes.foldl) <;> [(intro _ _ _); skip]) | split)

theorem State.setDram_changes (s : State) (f : Dram → Dram) :
    Changes [.dram] s (State.setDram s f) := by
  have h0 := Changes.refl [.dram] s
  unfold State.setDram
  repeat' (first | with_reducible assumption | ((conv => (arg 3; arg 24; skip)); ((with_reducible apply Changes.dram_with) <;> [rfl; skip])) | ((with_reducible apply Changes.foldl) <;> [(intro _ _ _); skip]) | split)

theorem State.setDch_changes (s : State) (c : Fin 16) (f : DramCh → DramCh) :
    Changes [.dram] s (State.setDch s c f) := by
  have h0 := Changes.refl [.dram] s
  unfold State.setDch
  repeat' (first | with_reducible assumption | ((with_reducible apply Changes.step (State.setDram_changes ..)) <;> [rfl; skip]) | ((with_reducible apply Changes.foldl) <;> [(intro _ _ _); skip]) | split)

theorem State.flushCheck_changes (s : State) (c : Fin 16) (b : Fin 16) :
    Changes [.dram, .out] s (State.flushCheck s c b) := by
  have h0 := Changes.refl [.dram, .out] s
  unfold State.flushCheck
  repeat' (first
    | ((first | intro x | (lift_lets; intro x)); first | (guard_hyp x : State := _; have hx : Changes [.dram, .out] s x := (by unfold x; repeat' (first | with_reducible assumption | ((with_reducible apply Changes.step (State.emit_changes ..)) <;> [rfl; skip]) | ((with_reducible apply Changes.step (State.setDch_changes ..)) <;> [rfl; skip]) | ((with_reducible apply Changes.foldl) <;> [(intro _ _ _); skip]) | split)); clear_value x) | clear_value x | skip)
    | with_reducible assumption | ((with_reducible apply Changes.step (State.emit_changes ..)) <;> [rfl; skip]) | ((with_reducible apply Changes.step (State.setDch_changes ..)) <;> [rfl; skip]) | ((with_reducible apply Changes.foldl) <;> [(intro _ _ _); skip])
    | split)

theorem State.flushChecks_changes (s : State) (c : Fin 16) :
    Changes [.dram, .out] s (State.flushChecks s c) := by
  have h0 := Changes.refl [.dram, .out] s
  unfold State.flushChecks
  repeat' (first | with_reducible assumption | ((with_reducible apply Changes.step (State.flushCheck_changes ..)) <;> [rfl; skip]) | ((with_reducible apply Changes.foldl) <;> [(intro _ _ _); skip]) | split)

theorem State.flushAllChecks_changes (s : State) :
    Changes [.dram, .out] s (State.flushAllChecks s) := by
  have h0 := Changes.refl [.dram, .out] s
  unfold State.flushAllChecks
  repeat' (first | with_reducible assumption | ((with_reducible apply Changes.step (State.flushChecks_changes ..)) <;> [rfl; skip]) | ((with_reducible apply Changes.foldl) <;> [(intro _ _ _); skip]) | split)

theorem State.accessPart_changes (s : State) (c : Fin 16) (write : Bool) (p : Fin 16 × Nat × List Nat) :
    Changes [.dram, .out] s (State.accessPart s c write p) := by
  have h0 := Changes.refl [.dram, .out] s
  unfold State.accessPart
  repeat' (first
    | ((first | intro x | (lift_lets; intro x)); first | (guard_hyp x : State := _; have hx : Changes [.dram, .out] s x := (by unfold x; repeat' (first | with_reducible assumption | ((with_reducible apply Changes.step (State.flushCheck_changes ..)) <;> [rfl; skip]) | ((with_reducible apply Changes.step (State.setDch_changes ..)) <;> [rfl; skip]) | ((with_reducible apply Changes.foldl) <;> [(intro _ _ _); skip]) | split)); clear_value x) | clear_value x | skip)
    | with_reducible assumption | ((with_reducible apply Changes.step (State.flushCheck_changes ..)) <;> [rfl; skip]) | ((with_reducible apply Changes.step (State.setDch_changes ..)) <;> [rfl; skip]) | ((with_reducible apply Changes.foldl) <;> [(intro _ _ _); skip])
    | split)

theorem State.runTxn_changes (s : State) (c : Fin 16) (k : Fin 12) (t : DramTxn) (hold : Nat) :
    Changes [.dram, .out] s (State.runTxn s c k t hold) := by
  have h0 := Changes.refl [.dram, .out] s
  unfold State.runTxn
  repeat' (first
    | ((first | intro x | (lift_lets; intro x)); first | (guard_hyp x : State := _; have hx : Changes [.dram, .out] s x := (by unfold x; repeat' (first | with_reducible assumption | ((with_reducible apply Changes.step (State.accessPart_changes ..)) <;> [rfl; skip]) | ((with_reducible apply Changes.step (State.flushChecks_changes ..)) <;> [rfl; skip]) | ((with_reducible apply Changes.foldl) <;> [(intro _ _ _); skip]) | split)); clear_value x) | clear_value x | skip)
    | with_reducible assumption | ((with_reducible apply Changes.step (State.accessPart_changes ..)) <;> [rfl; skip]) | ((with_reducible apply Changes.step (State.flushChecks_changes ..)) <;> [rfl; skip]) | ((with_reducible apply Changes.foldl) <;> [(intro _ _ _); skip])
    | split)

theorem State.setPws_changes (s : State) (f : Pws → Pws) :
    Changes [.pws] s (State.setPws s f) := by
  have h0 := Changes.refl [.pws] s
  unfold State.setPws
  repeat' (first | with_reducible assumption | ((conv => (arg 3; arg 24; skip)); ((with_reducible apply Changes.pws_with) <;> [rfl; skip])) | ((with_reducible apply Changes.foldl) <;> [(intro _ _ _); skip]) | split)

theorem State.operationalAll_changes (s : State) :
    Changes [.cmq, .pws] s (State.operationalAll s) := by
  have h0 := Changes.refl [.cmq, .pws] s
  unfold State.operationalAll
  repeat' (first
    | ((first | intro x | (lift_lets; intro x)); first | (guard_hyp x : State := _; have hx : Changes [.cmq, .pws] s x := (by unfold x; repeat' (first | with_reducible assumption | ((conv => (arg 3; arg 24; skip)); ((with_reducible apply Changes.cmq_with) <;> [rfl; skip])) | ((with_reducible apply Changes.step (State.setPws_changes ..)) <;> [rfl; skip]) | ((with_reducible apply Changes.foldl) <;> [(intro _ _ _); skip]) | split)); clear_value x) | clear_value x | skip)
    | with_reducible assumption | ((conv => (arg 3; arg 24; skip)); ((with_reducible apply Changes.cmq_with) <;> [rfl; skip])) | ((with_reducible apply Changes.step (State.setPws_changes ..)) <;> [rfl; skip]) | ((with_reducible apply Changes.foldl) <;> [(intro _ _ _); skip])
    | split)

theorem State.pumpAll_changes (s : State) :
    Changes [.media, .out] s (State.pumpAll s) := by
  have h0 := Changes.refl [.media, .out] s
  unfold State.pumpAll
  repeat' (first | with_reducible assumption | ((with_reducible apply Changes.step (State.pump_changes ..)) <;> [rfl; skip]) | ((with_reducible apply Changes.foldl) <;> [(intro _ _ _); skip]) | split)

theorem State.leavePs3_changes (s : State) :
    Changes [.evr, .cmq, .land, .media, .ports, .dram, .pws, .out] s (State.leavePs3 s) := by
  have h0 := Changes.refl [.evr, .cmq, .land, .media, .ports, .dram, .pws, .out] s
  unfold State.leavePs3
  repeat' (first
    | ((first | intro x | (lift_lets; intro x)); first | (guard_hyp x : State := _; have hx : Changes [.evr, .cmq, .land, .media, .ports, .dram, .pws, .out] s x := (by unfold x; repeat' (first | with_reducible assumption | ((conv => (arg 3; arg 24; skip)); ((with_reducible apply Changes.land_media_ports_dram_with) <;> [rfl; rfl; rfl; rfl; skip])) | ((with_reducible apply Changes.step (State.failStripe_changes ..)) <;> [rfl; skip]) | ((with_reducible apply Changes.step (State.operationalAll_changes ..)) <;> [rfl; skip]) | ((with_reducible apply Changes.step (State.pumpAll_changes ..)) <;> [rfl; skip]) | ((with_reducible apply Changes.step (State.settlePmr_changes ..)) <;> [rfl; skip]) | ((with_reducible apply Changes.foldl) <;> [(intro _ _ _); skip]) | split)); clear_value x) | clear_value x | skip)
    | with_reducible assumption | ((conv => (arg 3; arg 24; skip)); ((with_reducible apply Changes.land_media_ports_dram_with) <;> [rfl; rfl; rfl; rfl; skip])) | ((with_reducible apply Changes.step (State.failStripe_changes ..)) <;> [rfl; skip]) | ((with_reducible apply Changes.step (State.operationalAll_changes ..)) <;> [rfl; skip]) | ((with_reducible apply Changes.step (State.pumpAll_changes ..)) <;> [rfl; skip]) | ((with_reducible apply Changes.step (State.settlePmr_changes ..)) <;> [rfl; skip]) | ((with_reducible apply Changes.foldl) <;> [(intro _ _ _); skip])
    | split)

theorem State.abandonEntry_changes (s : State) (domain : Nat) (reason : Nat) :
    Changes [.evr, .cmq, .land, .media, .ports, .dram, .pws, .out] s (State.abandonEntry s domain reason) := by
  have h0 := Changes.refl [.evr, .cmq, .land, .media, .ports, .dram, .pws, .out] s
  unfold State.abandonEntry
  repeat' (first
    | ((first | intro x | (lift_lets; intro x)); first | (guard_hyp x : State := _; have hx : Changes [.evr, .cmq, .land, .media, .ports, .dram, .pws, .out] s x := (by unfold x; repeat' (first | with_reducible assumption | ((with_reducible apply Changes.step (State.leavePs3_changes ..)) <;> [rfl; skip]) | ((with_reducible apply Changes.step (State.log_changes ..)) <;> [rfl; skip]) | ((with_reducible apply Changes.step (State.operationalAll_changes ..)) <;> [rfl; skip]) | ((with_reducible apply Changes.step (State.pumpAll_changes ..)) <;> [rfl; skip]) | ((with_reducible apply Changes.step (State.setPws_changes ..)) <;> [rfl; skip]) | ((with_reducible apply Changes.foldl) <;> [(intro _ _ _); skip]) | split)); clear_value x) | clear_value x | skip)
    | with_reducible assumption | ((with_reducible apply Changes.step (State.leavePs3_changes ..)) <;> [rfl; skip]) | ((with_reducible apply Changes.step (State.log_changes ..)) <;> [rfl; skip]) | ((with_reducible apply Changes.step (State.operationalAll_changes ..)) <;> [rfl; skip]) | ((with_reducible apply Changes.step (State.pumpAll_changes ..)) <;> [rfl; skip]) | ((with_reducible apply Changes.step (State.setPws_changes ..)) <;> [rfl; skip]) | ((with_reducible apply Changes.foldl) <;> [(intro _ _ _); skip])
    | split)

theorem State.arrive_changes (s : State) :
    Changes [.evr, .cmq, .land, .media, .ports, .dram, .pws, .out] s (State.arrive s) := by
  have h0 := Changes.refl [.evr, .cmq, .land, .media, .ports, .dram, .pws, .out] s
  unfold State.arrive
  repeat' (first | with_reducible assumption | ((with_reducible apply Changes.step (State.abandonEntry_changes ..)) <;> [rfl; skip]) | ((with_reducible apply Changes.step (State.leavePs3_changes ..)) <;> [rfl; skip]) | ((with_reducible apply Changes.foldl) <;> [(intro _ _ _); skip]) | split)

theorem State.latched_changes (s : State) (p : Fin 2) (k : Nat) (v : Nat) :
    Changes [.cmq, .ports] s (State.latched s p k v) := by
  have h0 := Changes.refl [.cmq, .ports] s
  unfold State.latched
  repeat' (first
    | ((first | intro x | (lift_lets; intro x)); first | (guard_hyp x : State := _; have hx : Changes [.cmq, .ports] s x := (by unfold x; repeat' (first | with_reducible assumption | ((with_reducible apply Changes.step (State.setCtrl_changes ..)) <;> [rfl; skip]) | ((with_reducible apply Changes.step (State.setPort_changes ..)) <;> [rfl; skip]) | ((with_reducible apply Changes.foldl) <;> [(intro _ _ _); skip]) | split)); clear_value x) | clear_value x | skip)
    | with_reducible assumption | ((with_reducible apply Changes.step (State.setCtrl_changes ..)) <;> [rfl; skip]) | ((with_reducible apply Changes.step (State.setPort_changes ..)) <;> [rfl; skip]) | ((with_reducible apply Changes.foldl) <;> [(intro _ _ _); skip])
    | split)

theorem State.tailTo_changes (s : State) (p : Fin 2) (qid : Nat) (tail : Nat) :
    Changes [.cmq] s (State.tailTo s p qid tail) := by
  have h0 := Changes.refl [.cmq] s
  unfold State.tailTo
  repeat' (first | with_reducible assumption | ((with_reducible apply Changes.step (State.setCtrl_changes ..)) <;> [rfl; skip]) | ((with_reducible apply Changes.foldl) <;> [(intro _ _ _); skip]) | split)

theorem State.headTo_changes (s : State) (p : Fin 2) (qid : Nat) (head : Nat) :
    Changes [.cmq, .ports, .out] s (State.headTo s p qid head) := by
  have h0 := Changes.refl [.cmq, .ports, .out] s
  unfold State.headTo
  repeat' (first
    | ((first | intro x | (lift_lets; intro x)); first | (guard_hyp x : State := _; have hx : Changes [.cmq, .ports, .out] s x := (by unfold x; repeat' (first | with_reducible assumption | ((with_reducible apply Changes.step (State.post_changes ..)) <;> [rfl; skip]) | ((with_reducible apply Changes.step (State.setCtrl_changes ..)) <;> [rfl; skip]) | ((with_reducible apply Changes.foldl) <;> [(intro _ _ _); skip]) | split)); clear_value x) | clear_value x | skip)
    | with_reducible assumption | ((with_reducible apply Changes.step (State.post_changes ..)) <;> [rfl; skip]) | ((with_reducible apply Changes.step (State.setCtrl_changes ..)) <;> [rfl; skip]) | ((with_reducible apply Changes.foldl) <;> [(intro _ _ _); skip])
    | split)

theorem State.sqDoorbell_changes (s : State) (p : Fin 2) (qid : Nat) (tail : Nat) :
    Changes [.evr, .cmq, .land, .media, .ports, .dram, .pws, .out] s (State.sqDoorbell s p qid tail) := by
  have h0 := Changes.refl [.evr, .cmq, .land, .media, .ports, .dram, .pws, .out] s
  unfold State.sqDoorbell
  repeat' (first | with_reducible assumption | ((with_reducible apply Changes.step (State.arrive_changes ..)) <;> [rfl; skip]) | ((with_reducible apply Changes.step (State.latched_changes ..)) <;> [rfl; skip]) | ((with_reducible apply Changes.step (State.tailTo_changes ..)) <;> [rfl; skip]) | ((with_reducible apply Changes.foldl) <;> [(intro _ _ _); skip]) | split)

theorem State.cqDoorbell_changes (s : State) (p : Fin 2) (qid : Nat) (head : Nat) :
    Changes [.cmq, .ports, .out] s (State.cqDoorbell s p qid head) := by
  have h0 := Changes.refl [.cmq, .ports, .out] s
  unfold State.cqDoorbell
  repeat' (first | with_reducible assumption | ((with_reducible apply Changes.step (State.headTo_changes ..)) <;> [rfl; skip]) | ((with_reducible apply Changes.step (State.latched_changes ..)) <;> [rfl; skip]) | ((with_reducible apply Changes.foldl) <;> [(intro _ _ _); skip]) | split)

theorem State.useLatched_changes (s : State) (p : Fin 2) :
    Changes [.cmq, .ports, .out] s (State.useLatched s p) := by
  have h0 := Changes.refl [.cmq, .ports, .out] s
  unfold State.useLatched
  repeat' (first
    | ((first | intro x | (lift_lets; intro x)); first | (guard_hyp x : State := _; have hx : Changes [.cmq, .ports, .out] s x := (by unfold x; repeat' (first | with_reducible assumption | ((with_reducible apply Changes.step (State.headTo_changes ..)) <;> [rfl; skip]) | ((with_reducible apply Changes.step (State.setCtrl_changes ..)) <;> [rfl; skip]) | ((with_reducible apply Changes.step (State.tailTo_changes ..)) <;> [rfl; skip]) | ((with_reducible apply Changes.foldl) <;> [(intro _ _ _); skip]) | split)); clear_value x) | clear_value x | skip)
    | with_reducible assumption | ((with_reducible apply Changes.step (State.headTo_changes ..)) <;> [rfl; skip]) | ((with_reducible apply Changes.step (State.setCtrl_changes ..)) <;> [rfl; skip]) | ((with_reducible apply Changes.step (State.tailTo_changes ..)) <;> [rfl; skip]) | ((with_reducible apply Changes.foldl) <;> [(intro _ _ _); skip])
    | split)

theorem State.takeIn_changes (s : State) (p : Fin 2) (qid : Nat) (cid : Nat) (cmd : HostCmd) :
    Changes [.cmq, .land, .media, .ports, .out] s (State.takeIn s p qid cid cmd) := by
  have h0 := Changes.refl [.cmq, .land, .media, .ports, .out] s
  unfold State.takeIn
  repeat' (first
    | ((first | intro x | (lift_lets; intro x)); first | (guard_hyp x : State := _; have hx : Changes [.cmq, .land, .media, .ports, .out] s x := (by unfold x; repeat' (first | with_reducible assumption | ((conv => (arg 3; arg 24; skip)); ((with_reducible apply Changes.cmq_with) <;> [rfl; skip])) | ((with_reducible apply Changes.step (State.complete_changes ..)) <;> [rfl; skip]) | ((with_reducible apply Changes.foldl) <;> [(intro _ _ _); skip]) | split)); clear_value x) | clear_value x | skip)
    | with_reducible assumption | ((conv => (arg 3; arg 24; skip)); ((with_reducible apply Changes.cmq_with) <;> [rfl; skip])) | ((with_reducible apply Changes.step (State.complete_changes ..)) <;> [rfl; skip]) | ((with_reducible apply Changes.foldl) <;> [(intro _ _ _); skip])
    | split)

theorem State.fetch_changes (s : State) (p : Fin 2) (cid : Nat) (cmd : HostCmd) :
    Changes [.cmq, .land, .media, .ports, .out] s (State.fetch s p cid cmd) := by
  have h0 := Changes.refl [.cmq, .land, .media, .ports, .out] s
  unfold State.fetch
  repeat' (first
    | ((first | intro x | (lift_lets; intro x)); first | (guard_hyp x : State := _; have hx : Changes [.cmq, .land, .media, .ports, .out] s x := (by unfold x; repeat' (first | with_reducible assumption | ((with_reducible apply Changes.step (State.setCtrl_changes ..)) <;> [rfl; skip]) | ((with_reducible apply Changes.step (State.takeIn_changes ..)) <;> [rfl; skip]) | ((with_reducible apply Changes.foldl) <;> [(intro _ _ _); skip]) | split)); clear_value x) | clear_value x | skip)
    | with_reducible assumption | ((with_reducible apply Changes.step (State.setCtrl_changes ..)) <;> [rfl; skip]) | ((with_reducible apply Changes.step (State.takeIn_changes ..)) <;> [rfl; skip]) | ((with_reducible apply Changes.foldl) <;> [(intro _ _ _); skip])
    | split)

theorem State.onAdmin_changes {ps : List Part} (s : State) (fseq : Nat) (opc : Nat) (f : Cmd → State → State) (s0 : State) (h : ∀ y0 y1, Changes ps s0 y1 → Changes ps s0 (f y0 y1)) (k : Changes ps s0 s) : Changes ps s0 (State.onAdmin s fseq opc f) := by
  unfold State.onAdmin
  repeat' (first | with_reducible assumption | fail | ((with_reducible apply h)) | fail | intro x | split)

theorem State.createCq_changes (s : State) (c : Cmd) (fseq : Nat) (qid : Nat) (size : Nat) (vector : Nat) (contig : Bool) (inCmb : Bool) :
    Changes [.cmq, .land, .media, .ports, .out] s (State.createCq s c fseq qid size vector contig inCmb) := by
  have h0 := Changes.refl [.cmq, .land, .media, .ports, .out] s
  unfold State.createCq
  repeat' (first
    | ((first | intro x | (lift_lets; intro x)); first | (guard_hyp x : State := _; have hx : Changes [.cmq, .land, .media, .ports, .out] s x := (by unfold x; repeat' (first | with_reducible assumption | ((with_reducible apply Changes.step (State.complete_changes ..)) <;> [rfl; skip]) | ((with_reducible apply Changes.step (State.setCtrl_changes ..)) <;> [rfl; skip]) | ((with_reducible apply Changes.foldl) <;> [(intro _ _ _); skip]) | split)); clear_value x) | clear_value x | skip)
    | with_reducible assumption | ((with_reducible apply Changes.step (State.complete_changes ..)) <;> [rfl; skip]) | ((with_reducible apply Changes.step (State.setCtrl_changes ..)) <;> [rfl; skip]) | ((with_reducible apply Changes.foldl) <;> [(intro _ _ _); skip])
    | split)

theorem State.createSq_changes (s : State) (c : Cmd) (fseq : Nat) (qid : Nat) (size : Nat) (cqid : Nat) (prio : Fin 4) (contig : Bool) (inCmb : Bool) :
    Changes [.cmq, .land, .media, .ports, .out] s (State.createSq s c fseq qid size cqid prio contig inCmb) := by
  have h0 := Changes.refl [.cmq, .land, .media, .ports, .out] s
  unfold State.createSq
  repeat' (first
    | ((first | intro x | (lift_lets; intro x)); first | (guard_hyp x : State := _; have hx : Changes [.cmq, .land, .media, .ports, .out] s x := (by unfold x; repeat' (first | with_reducible assumption | ((with_reducible apply Changes.step (State.complete_changes ..)) <;> [rfl; skip]) | ((with_reducible apply Changes.step (State.setCtrl_changes ..)) <;> [rfl; skip]) | ((with_reducible apply Changes.foldl) <;> [(intro _ _ _); skip]) | split)); clear_value x) | clear_value x | skip)
    | with_reducible assumption | ((with_reducible apply Changes.step (State.complete_changes ..)) <;> [rfl; skip]) | ((with_reducible apply Changes.step (State.setCtrl_changes ..)) <;> [rfl; skip]) | ((with_reducible apply Changes.foldl) <;> [(intro _ _ _); skip])
    | split)

theorem State.endQueue_changes (s : State) (p : Fin 2) (qid : Nat) :
    Changes [.cmq, .land, .media, .ports, .out] s (State.endQueue s p qid) := by
  have h0 := Changes.refl [.cmq, .land, .media, .ports, .out] s
  unfold State.endQueue
  repeat' (first | with_reducible assumption | ((with_reducible apply Changes.step (State.quit_changes ..)) <;> [rfl; skip]) | ((with_reducible apply Changes.foldl) <;> [(intro _ _ _); skip]) | split)

theorem State.deleteSq_changes (s : State) (c : Cmd) (fseq : Nat) (qid : Nat) :
    Changes [.cmq, .land, .media, .ports, .out] s (State.deleteSq s c fseq qid) := by
  have h0 := Changes.refl [.cmq, .land, .media, .ports, .out] s
  unfold State.deleteSq
  repeat' (first | with_reducible assumption | ((with_reducible apply Changes.step (State.complete_changes ..)) <;> [rfl; skip]) | ((with_reducible apply Changes.step (State.endQueue_changes ..)) <;> [rfl; skip]) | ((with_reducible apply Changes.step (State.setCtrl_changes ..)) <;> [rfl; skip]) | ((with_reducible apply Changes.foldl) <;> [(intro _ _ _); skip]) | split)

theorem State.deleteCq_changes (s : State) (c : Cmd) (fseq : Nat) (qid : Nat) :
    Changes [.cmq, .land, .media, .ports, .out] s (State.deleteCq s c fseq qid) := by
  have h0 := Changes.refl [.cmq, .land, .media, .ports, .out] s
  unfold State.deleteCq
  repeat' (first
    | ((first | intro x | (lift_lets; intro x)); first | (guard_hyp x : State := _; have hx : Changes [.cmq, .land, .media, .ports, .out] s x := (by unfold x; repeat' (first | with_reducible assumption | ((with_reducible apply Changes.step (State.complete_changes ..)) <;> [rfl; skip]) | ((with_reducible apply Changes.step (State.setCtrl_changes ..)) <;> [rfl; skip]) | ((with_reducible apply Changes.foldl) <;> [(intro _ _ _); skip]) | split)); clear_value x) | clear_value x | skip)
    | with_reducible assumption | ((with_reducible apply Changes.step (State.complete_changes ..)) <;> [rfl; skip]) | ((with_reducible apply Changes.step (State.setCtrl_changes ..)) <;> [rfl; skip]) | ((with_reducible apply Changes.foldl) <;> [(intro _ _ _); skip])
    | split)

theorem State.wipeNs_changes (s : State) (ns : Nat) :
    Changes [.evr, .cmq, .land, .media, .ports, .out, .free] s (State.wipeNs s ns) := by
  have h0 := Changes.refl [.evr, .cmq, .land, .media, .ports, .out, .free] s
  unfold State.wipeNs
  repeat' (first | with_reducible assumption | ((with_reducible apply Changes.step (State.checkWear_changes ..)) <;> [rfl; skip]) | ((with_reducible apply Changes.step (State.discard_changes ..)) <;> [rfl; skip]) | ((with_reducible apply Changes.step (State.resumeAll_changes ..)) <;> [rfl; skip]) | ((with_reducible apply Changes.step (State.setMedia_changes ..)) <;> [rfl; skip]) | ((with_reducible apply Changes.step (State.settleStripes_changes ..)) <;> [rfl; skip]) | ((with_reducible apply Changes.foldl) <;> [(intro _ _ _); skip]) | split)

theorem State.newKey_changes (s : State) (slot : Fin 64) :
    Changes [.cmq, .land, .media, .ports, .sec, .out] s (State.newKey s slot) := by
  have h0 := Changes.refl [.cmq, .land, .media, .ports, .sec, .out] s
  unfold State.newKey
  repeat' (first
    | ((first | intro x | (lift_lets; intro x)); first | (guard_hyp x : State := _; have hx : Changes [.cmq, .land, .media, .ports, .sec, .out] s x := (by unfold x; repeat' (first | with_reducible assumption | ((conv => (arg 3; arg 24; skip)); ((with_reducible apply Changes.sec_with) <;> [rfl; skip])) | ((with_reducible apply Changes.step (State.freeLines_changes ..)) <;> [rfl; skip]) | ((with_reducible apply Changes.foldl) <;> [(intro _ _ _); skip]) | split)); clear_value x) | clear_value x | skip)
    | with_reducible assumption | ((conv => (arg 3; arg 24; skip)); ((with_reducible apply Changes.sec_with) <;> [rfl; skip])) | ((with_reducible apply Changes.step (State.freeLines_changes ..)) <;> [rfl; skip]) | ((with_reducible apply Changes.foldl) <;> [(intro _ _ _); skip])
    | split)

theorem State.getLog_changes (s : State) (c : Cmd) (fseq : Nat) (lid : Nat) :
    Changes [.cmq, .land, .media, .ports, .out] s (State.getLog s c fseq lid) := by
  have h0 := Changes.refl [.cmq, .land, .media, .ports, .out] s
  unfold State.getLog
  repeat' (first
    | ((first | intro x | (lift_lets; intro x)); first | (guard_hyp x : State := _; have hx : Changes [.cmq, .land, .media, .ports, .out] s x := (by unfold x; repeat' (first | with_reducible assumption | ((with_reducible apply Changes.step (State.complete_changes ..)) <;> [rfl; skip]) | ((with_reducible apply Changes.step (State.emit_changes ..)) <;> [rfl; skip]) | ((with_reducible apply Changes.step (State.setCtrl_changes ..)) <;> [rfl; skip]) | ((with_reducible apply Changes.foldl) <;> [(intro _ _ _); skip]) | split)); clear_value x) | clear_value x | skip)
    | with_reducible assumption | ((with_reducible apply Changes.step (State.complete_changes ..)) <;> [rfl; skip]) | ((with_reducible apply Changes.step (State.emit_changes ..)) <;> [rfl; skip]) | ((with_reducible apply Changes.step (State.setCtrl_changes ..)) <;> [rfl; skip]) | ((with_reducible apply Changes.foldl) <;> [(intro _ _ _); skip])
    | split)

theorem State.identify_changes (s : State) (c : Cmd) (fseq : Nat) (cns : Nat) (nsid : Nat) :
    Changes [.cmq, .land, .media, .ports, .out] s (State.identify s c fseq cns nsid) := by
  have h0 := Changes.refl [.cmq, .land, .media, .ports, .out] s
  unfold State.identify
  dsimp only
  repeat' (first | with_reducible assumption | ((with_reducible apply Changes.step (State.complete_changes ..)) <;> [rfl; skip]) | ((with_reducible apply Changes.step (State.emit_changes ..)) <;> [rfl; skip]) | ((with_reducible apply Changes.foldl) <;> [(intro _ _ _); skip]) | split)

theorem State.abort_changes (s : State) (c : Cmd) (fseq : Nat) (sqid : Nat) (cid : Nat) :
    Changes [.cmq, .land, .media, .ports, .out] s (State.abort s c fseq sqid cid) := by
  have h0 := Changes.refl [.cmq, .land, .media, .ports, .out] s
  unfold State.abort
  repeat' (first | with_reducible assumption | ((with_reducible apply Changes.step (State.complete_changes ..)) <;> [rfl; skip]) | ((with_reducible apply Changes.step (State.quit_changes ..)) <;> [rfl; skip]) | ((with_reducible apply Changes.foldl) <;> [(intro _ _ _); skip]) | split)

theorem State.getFeatures_changes (s : State) (c : Cmd) (fseq : Nat) (fid : Nat) (sel : Nat) :
    Changes [.cmq, .land, .media, .ports, .out] s (State.getFeatures s c fseq fid sel) := by
  have h0 := Changes.refl [.cmq, .land, .media, .ports, .out] s
  unfold State.getFeatures
  repeat' (first
    | ((first | intro x | (lift_lets; intro x)); first | (guard_hyp x : State := _; have hx : Changes [.cmq, .land, .media, .ports, .out] s x := (by unfold x; repeat' (first | with_reducible assumption | ((with_reducible apply Changes.step (State.complete_changes ..)) <;> [rfl; skip]) | ((with_reducible apply Changes.step (State.emit_changes ..)) <;> [rfl; skip]) | ((with_reducible apply Changes.foldl) <;> [(intro _ _ _); skip]) | split)); clear_value x) | clear_value x | skip)
    | with_reducible assumption | ((with_reducible apply Changes.step (State.complete_changes ..)) <;> [rfl; skip]) | ((with_reducible apply Changes.step (State.emit_changes ..)) <;> [rfl; skip]) | ((with_reducible apply Changes.foldl) <;> [(intro _ _ _); skip])
    | split)

theorem State.setFeat_changes (s : State) (c : Cmd) (fseq : Nat) (save : Bool) (f : Features → Features) (dw0 : Nat) :
    Changes [.cmq, .land, .media, .ports, .out] s (State.setFeat s c fseq save f dw0) := by
  have h0 := Changes.refl [.cmq, .land, .media, .ports, .out] s
  unfold State.setFeat
  repeat' (first | with_reducible assumption | ((with_reducible apply Changes.step (State.complete_changes ..)) <;> [rfl; skip]) | ((with_reducible apply Changes.step (State.setCtrl_changes ..)) <;> [rfl; skip]) | ((with_reducible apply Changes.foldl) <;> [(intro _ _ _); skip]) | split)

theorem State.beginEntry_changes (s : State) (target : Nat) (apst : Bool) (p : Fin 2) :
    Changes [.land, .media, .pws, .out] s (State.beginEntry s target apst p) := by
  have h0 := Changes.refl [.land, .media, .pws, .out] s
  unfold State.beginEntry
  repeat' (first | with_reducible assumption | ((with_reducible apply Changes.step (State.copiesGo_changes ..)) <;> [rfl; skip]) | ((with_reducible apply Changes.step (State.dispatchAll_changes ..)) <;> [rfl; skip]) | ((with_reducible apply Changes.step (State.setPws_changes ..)) <;> [rfl; skip]) | ((with_reducible apply Changes.foldl) <;> [(intro _ _ _); skip]) | split)

theorem State.followPs_changes (s : State) (apst : Bool) (p : Fin 2) :
    Changes [.evr, .land, .media, .plp, .ports, .pws, .out] s (State.followPs s apst p) := by
  have h0 := Changes.refl [.evr, .land, .media, .plp, .ports, .pws, .out] s
  unfold State.followPs
  repeat' (first
    | ((first | intro x | (lift_lets; intro x)); first | (guard_hyp x : State := _; have hx : Changes [.evr, .land, .media, .plp, .ports, .pws, .out] s x := (by unfold x; repeat' (first | with_reducible assumption | ((with_reducible apply Changes.step (State.beginEntry_changes ..)) <;> [rfl; skip]) | ((with_reducible apply Changes.step (State.setPws_changes ..)) <;> [rfl; skip]) | ((with_reducible apply Changes.step (State.tryTest_changes ..)) <;> [rfl; skip]) | ((with_reducible apply Changes.foldl) <;> [(intro _ _ _); skip]) | split)); clear_value x) | clear_value x | skip)
    | with_reducible assumption | ((with_reducible apply Changes.step (State.beginEntry_changes ..)) <;> [rfl; skip]) | ((with_reducible apply Changes.step (State.setPws_changes ..)) <;> [rfl; skip]) | ((with_reducible apply Changes.step (State.tryTest_changes ..)) <;> [rfl; skip]) | ((with_reducible apply Changes.foldl) <;> [(intro _ _ _); skip])
    | split)

theorem State.nsChanged_changes (s : State) (p : Fin 2) (nsid : Nat) :
    Changes [.cmq, .land, .media, .ports, .out] s (State.nsChanged s p nsid) := by
  have h0 := Changes.refl [.cmq, .land, .media, .ports, .out] s
  unfold State.nsChanged
  repeat' (first
    | ((first | intro x | (lift_lets; intro x)); first | (guard_hyp x : State := _; have hx : Changes [.cmq, .land, .media, .ports, .out] s x := (by unfold x; repeat' (first | with_reducible assumption | ((with_reducible apply Changes.step (State.complete_changes ..)) <;> [rfl; skip]) | ((with_reducible apply Changes.step (State.setCtrl_changes ..)) <;> [rfl; skip]) | ((with_reducible apply Changes.foldl) <;> [(intro _ _ _); skip]) | split)); clear_value x) | clear_value x | skip)
    | with_reducible assumption | ((with_reducible apply Changes.step (State.complete_changes ..)) <;> [rfl; skip]) | ((with_reducible apply Changes.step (State.setCtrl_changes ..)) <;> [rfl; skip]) | ((with_reducible apply Changes.foldl) <;> [(intro _ _ _); skip])
    | split)

theorem State.invalidAdmin_changes (s : State) (fseq : Nat) :
    Changes [.cmq, .land, .media, .ports, .out] s (State.invalidAdmin s fseq) := by
  have h0 := Changes.refl [.cmq, .land, .media, .ports, .out] s
  unfold State.invalidAdmin
  repeat' (first | with_reducible assumption | ((with_reducible apply Changes.step (State.complete_changes ..)) <;> [rfl; skip]) | ((with_reducible apply Changes.foldl) <;> [(intro _ _ _); skip]) | split)

theorem State.deleteNs_changes (s : State) (i : Nat) :
    Changes [.evr, .cmq, .land, .media, .ports, .dict, .out, .free] s (State.deleteNs s i) := by
  have h0 := Changes.refl [.evr, .cmq, .land, .media, .ports, .dict, .out, .free] s
  unfold State.deleteNs
  repeat' (first
    | ((first | intro x | (lift_lets; intro x)); first | (guard_hyp x : State := _; have hx : Changes [.evr, .cmq, .land, .media, .ports, .dict, .out, .free] s x := (by unfold x; repeat' (first | with_reducible assumption | ((conv => (arg 3; arg 24; skip)); ((with_reducible apply Changes.dict_with) <;> [rfl; skip])) | ((with_reducible apply Changes.step (State.nsChanged_changes ..)) <;> [rfl; skip]) | ((with_reducible apply Changes.step (State.setMedia_changes ..)) <;> [rfl; skip]) | ((with_reducible apply Changes.step (State.wipeNs_changes ..)) <;> [rfl; skip]) | ((with_reducible apply Changes.foldl) <;> [(intro _ _ _); skip]) | split)); clear_value x) | clear_value x | skip)
    | with_reducible assumption | ((conv => (arg 3; arg 24; skip)); ((with_reducible apply Changes.dict_with) <;> [rfl; skip])) | ((with_reducible apply Changes.step (State.nsChanged_changes ..)) <;> [rfl; skip]) | ((with_reducible apply Changes.step (State.setMedia_changes ..)) <;> [rfl; skip]) | ((with_reducible apply Changes.step (State.wipeNs_changes ..)) <;> [rfl; skip]) | ((with_reducible apply Changes.foldl) <;> [(intro _ _ _); skip])
    | split)

theorem State.nsManage_changes (s : State) (fseq : Nat) (x0 : NsMgmt) :
    Changes [.evr, .cmq, .land, .media, .ports, .dict, .out, .free] s (State.nsManage s fseq x0) := by
  have h0 := Changes.refl [.evr, .cmq, .land, .media, .ports, .dict, .out, .free] s
  unfold State.nsManage
  repeat' (first | with_reducible assumption | ((with_reducible apply Changes.step (State.complete_changes ..)) <;> [rfl; skip]) | ((with_reducible apply Changes.step (State.deleteNs_changes ..)) <;> [rfl; skip]) | ((with_reducible apply Changes.step (State.setMedia_changes ..)) <;> [rfl; skip]) | ((with_reducible apply Changes.foldl) <;> [(intro _ _ _); skip]) | split)

theorem State.nsAttach_changes (s : State) (fseq : Nat) (attach : Bool) (nsid : Nat) (ctrls : List (Fin 2)) :
    Changes [.cmq, .land, .media, .ports, .out] s (State.nsAttach s fseq attach nsid ctrls) := by
  have h0 := Changes.refl [.cmq, .land, .media, .ports, .out] s
  unfold State.nsAttach
  repeat' (first
    | ((first | intro x | (lift_lets; intro x)); first | (guard_hyp x : State := _; have hx : Changes [.cmq, .land, .media, .ports, .out] s x := (by unfold x; repeat' (first | with_reducible assumption | ((with_reducible apply Changes.step (State.complete_changes ..)) <;> [rfl; skip]) | ((with_reducible apply Changes.step (State.nsChanged_changes ..)) <;> [rfl; skip]) | ((with_reducible apply Changes.step (State.setNs_changes ..)) <;> [rfl; skip]) | ((with_reducible apply Changes.foldl) <;> [(intro _ _ _); skip]) | split)); clear_value x) | clear_value x | skip)
    | with_reducible assumption | ((with_reducible apply Changes.step (State.complete_changes ..)) <;> [rfl; skip]) | ((with_reducible apply Changes.step (State.nsChanged_changes ..)) <;> [rfl; skip]) | ((with_reducible apply Changes.step (State.setNs_changes ..)) <;> [rfl; skip]) | ((with_reducible apply Changes.foldl) <;> [(intro _ _ _); skip])
    | split)

theorem State.formatNs_changes (s : State) (i : Nat) (ses : Nat) (lba512 : Bool) :
    Changes [.evr, .cmq, .land, .media, .ports, .sec, .out, .free] s (State.formatNs s i ses lba512) := by
  have h0 := Changes.refl [.evr, .cmq, .land, .media, .ports, .sec, .out, .free] s
  unfold State.formatNs
  repeat' (first
    | ((first | intro x | (lift_lets; intro x)); first | (guard_hyp x : State := _; have hx : Changes [.evr, .cmq, .land, .media, .ports, .sec, .out, .free] s x := (by unfold x; repeat' (first | with_reducible assumption | ((with_reducible apply Changes.step (State.newKey_changes ..)) <;> [rfl; skip]) | ((with_reducible apply Changes.step (State.setNs_changes ..)) <;> [rfl; skip]) | ((with_reducible apply Changes.step (State.wipeNs_changes ..)) <;> [rfl; skip]) | ((with_reducible apply Changes.foldl) <;> [(intro _ _ _); skip]) | split)); clear_value x) | clear_value x | skip)
    | with_reducible assumption | ((with_reducible apply Changes.step (State.newKey_changes ..)) <;> [rfl; skip]) | ((with_reducible apply Changes.step (State.setNs_changes ..)) <;> [rfl; skip]) | ((with_reducible apply Changes.step (State.wipeNs_changes ..)) <;> [rfl; skip]) | ((with_reducible apply Changes.foldl) <;> [(intro _ _ _); skip])
    | split)

theorem State.format_changes (s : State) (fseq : Nat) (nsid : Nat) (ses : Nat) (lba512 : Bool) :
    Changes [.evr, .cmq, .land, .media, .ports, .sec, .out, .free] s (State.format s fseq nsid ses lba512) := by
  have h0 := Changes.refl [.evr, .cmq, .land, .media, .ports, .sec, .out, .free] s
  unfold State.format
  repeat' (first
    | ((first | intro x | (lift_lets; intro x)); first | (guard_hyp x : State := _; have hx : Changes [.evr, .cmq, .land, .media, .ports, .sec, .out, .free] s x := (by unfold x; repeat' (first | with_reducible assumption | ((with_reducible apply Changes.step (State.complete_changes ..)) <;> [rfl; skip]) | ((with_reducible apply Changes.step (State.formatNs_changes ..)) <;> [rfl; skip]) | ((with_reducible apply Changes.step (State.setMedia_changes ..)) <;> [rfl; skip]) | ((with_reducible apply Changes.foldl) <;> [(intro _ _ _); skip]) | split)); clear_value x) | clear_value x | skip)
    | with_reducible assumption | ((with_reducible apply Changes.step (State.complete_changes ..)) <;> [rfl; skip]) | ((with_reducible apply Changes.step (State.formatNs_changes ..)) <;> [rfl; skip]) | ((with_reducible apply Changes.step (State.setMedia_changes ..)) <;> [rfl; skip]) | ((with_reducible apply Changes.foldl) <;> [(intro _ _ _); skip])
    | split)

theorem State.sanitize_changes (s : State) (fseq : Nat) (action : Nat) :
    Changes [.evr, .cmq, .land, .media, .ports, .sec, .out, .free] s (State.sanitize s fseq action) := by
  have h0 := Changes.refl [.evr, .cmq, .land, .media, .ports, .sec, .out, .free] s
  unfold State.sanitize
  repeat' (first
    | ((first | intro x | (lift_lets; intro x)); first | (guard_hyp x : State := _; have hx : Changes [.evr, .cmq, .land, .media, .ports, .sec, .out, .free] s x := (by unfold x; repeat' (first | with_reducible assumption | ((conv => (arg 3; arg 24; skip)); ((with_reducible apply Changes.cmq_with) <;> [rfl; skip])) | ((with_reducible apply Changes.step (State.complete_changes ..)) <;> [rfl; skip]) | ((with_reducible apply Changes.step (State.newKey_changes ..)) <;> [rfl; skip]) | ((with_reducible apply Changes.step (State.setMedia_changes ..)) <;> [rfl; skip]) | ((with_reducible apply Changes.step (State.wipeNs_changes ..)) <;> [rfl; skip]) | ((with_reducible apply Changes.foldl) <;> [(intro _ _ _); skip]) | split)); clear_value x) | clear_value x | skip)
    | with_reducible assumption | ((conv => (arg 3; arg 24; skip)); ((with_reducible apply Changes.cmq_with) <;> [rfl; skip])) | ((with_reducible apply Changes.step (State.complete_changes ..)) <;> [rfl; skip]) | ((with_reducible apply Changes.step (State.newKey_changes ..)) <;> [rfl; skip]) | ((with_reducible apply Changes.step (State.setMedia_changes ..)) <;> [rfl; skip]) | ((with_reducible apply Changes.step (State.wipeNs_changes ..)) <;> [rfl; skip]) | ((with_reducible apply Changes.foldl) <;> [(intro _ _ _); skip])
    | split)

theorem State.onIo_changes {ps : List Part} (s : State) (fseq : Nat) (f : Cmd → State → State) (s0 : State) (h : ∀ y0 y1, Changes ps s0 y1 → Changes ps s0 (f y0 y1)) (k : Changes ps s0 s) : Changes ps s0 (State.onIo s fseq f) := by
  unfold State.onIo
  repeat' (first | with_reducible assumption | fail | ((with_reducible apply h)) | fail | intro x | split)

theorem State.flushLines_changes (s : State) (fseq : Nat) (ls : List Nat) :
    Changes [.cmq, .land, .media, .ports, .out] s (State.flushLines s fseq ls) := by
  have h0 := Changes.refl [.cmq, .land, .media, .ports, .out] s
  unfold State.flushLines
  repeat' (first
    | ((first | intro x | (lift_lets; intro x)); first | (guard_hyp x : State := _; have hx : Changes [.cmq, .land, .media, .ports, .out] s x := (by unfold x; repeat' (first | with_reducible assumption | ((with_reducible apply Changes.step (State.closeEarly_changes ..)) <;> [rfl; skip]) | ((with_reducible apply Changes.step (State.complete_changes ..)) <;> [rfl; skip]) | ((with_reducible apply Changes.step (State.dispatchAll_changes ..)) <;> [rfl; skip]) | ((with_reducible apply Changes.step (State.ensureFinal_changes ..)) <;> [rfl; skip]) | ((with_reducible apply Changes.step (State.setCmd_changes ..)) <;> [rfl; skip]) | ((with_reducible apply Changes.foldl) <;> [(intro _ _ _); skip]) | split)); clear_value x) | clear_value x | skip)
    | with_reducible assumption | ((with_reducible apply Changes.step (State.closeEarly_changes ..)) <;> [rfl; skip]) | ((with_reducible apply Changes.step (State.complete_changes ..)) <;> [rfl; skip]) | ((with_reducible apply Changes.step (State.dispatchAll_changes ..)) <;> [rfl; skip]) | ((with_reducible apply Changes.step (State.ensureFinal_changes ..)) <;> [rfl; skip]) | ((with_reducible apply Changes.step (State.setCmd_changes ..)) <;> [rfl; skip]) | ((with_reducible apply Changes.foldl) <;> [(intro _ _ _); skip])
    | split)

theorem State.flushCmd_changes (s : State) (c : Cmd) (fseq : Nat) (nsid : Option Nat) :
    Changes [.cmq, .land, .media, .ports, .out] s (State.flushCmd s c fseq nsid) := by
  have h0 := Changes.refl [.cmq, .land, .media, .ports, .out] s
  unfold State.flushCmd
  repeat' (first
    | ((first | intro x | (lift_lets; intro x)); first | (guard_hyp x : State := _; have hx : Changes [.cmq, .land, .media, .ports, .out] s x := (by unfold x; repeat' (first | with_reducible assumption | ((with_reducible apply Changes.step (State.complete_changes ..)) <;> [rfl; skip]) | ((with_reducible apply Changes.step (State.flushLines_changes ..)) <;> [rfl; skip]) | ((with_reducible apply Changes.foldl) <;> [(intro _ _ _); skip]) | split)); clear_value x) | clear_value x | skip)
    | with_reducible assumption | ((with_reducible apply Changes.step (State.complete_changes ..)) <;> [rfl; skip]) | ((with_reducible apply Changes.step (State.flushLines_changes ..)) <;> [rfl; skip]) | ((with_reducible apply Changes.foldl) <;> [(intro _ _ _); skip])
    | split)

theorem State.onResv_changes {ps : List Part} (s : State) (fseq : Nat) (opc : Nat) (f : Cmd → Nat → Namespace → State → State) (s0 : State) (h : ∀ y0 y1 y2 y3, Changes ps s0 y3 → Changes ps s0 (f y0 y1 y2 y3)) (hc : covers [.cmq, .land, .media, .ports, .out] ps = true) (k : Changes ps s0 s) : Changes ps s0 (State.onResv s fseq opc f) := by
  unfold State.onResv
  repeat' (first | with_reducible assumption | fail | ((with_reducible apply h)) | ((with_reducible apply Changes.step (State.complete_changes ..)) <;> [(refine covers_trans (by rfl) hc); skip]) | ((with_reducible apply State.onIo_changes) <;> [(intro _ _ _); skip]) | intro x | split)

theorem State.setResv_changes (s : State) (fseq : Nat) (i : Nat) (x0 : Option Reservation) :
    Changes [.cmq, .land, .media, .ports, .out] s (State.setResv s fseq i x0) := by
  have h0 := Changes.refl [.cmq, .land, .media, .ports, .out] s
  unfold State.setResv
  repeat' (first | with_reducible assumption | ((with_reducible apply Changes.step (State.complete_changes ..)) <;> [rfl; skip]) | ((with_reducible apply Changes.step (State.setNs_changes ..)) <;> [rfl; skip]) | ((with_reducible apply Changes.foldl) <;> [(intro _ _ _); skip]) | split)

theorem State.onZone_changes (s : State) (fseq : Nat) (want : ZoneAct) :
    Changes [.evr, .cmq, .land, .media, .ports, .out] s (State.onZone s fseq want) := by
  have h0 := Changes.refl [.evr, .cmq, .land, .media, .ports, .out] s
  unfold State.onZone
  repeat' (first | with_reducible assumption | (((with_reducible apply State.onIo_changes) <;> [(intro _ _ _); skip])) | ((with_reducible apply Changes.step (State.zoneSend_changes ..)) <;> [rfl; skip]) | ((with_reducible apply Changes.foldl) <;> [(intro _ _ _); skip]) | split)

theorem State.loseChannel_changes (s : State) (c : Fin 16) :
    Changes [.cmq, .land, .media, .ports, .out] s (State.loseChannel s c) := by
  have h0 := Changes.refl [.cmq, .land, .media, .ports, .out] s
  unfold State.loseChannel
  repeat' (first
    | ((first | intro x | (lift_lets; intro x)); first | (guard_hyp x : State := _; have hx : Changes [.cmq, .land, .media, .ports, .out] s x := (by unfold x; repeat' (first | with_reducible assumption | ((with_reducible apply Changes.step (State.failStripe_changes ..)) <;> [rfl; skip]) | ((with_reducible apply Changes.step (State.freeLines_changes ..)) <;> [rfl; skip]) | ((with_reducible apply Changes.step (State.setMedia_changes ..)) <;> [rfl; skip]) | ((with_reducible apply Changes.foldl) <;> [(intro _ _ _); skip]) | split)); clear_value x) | clear_value x | skip)
    | with_reducible assumption | ((with_reducible apply Changes.step (State.failStripe_changes ..)) <;> [rfl; skip]) | ((with_reducible apply Changes.step (State.freeLines_changes ..)) <;> [rfl; skip]) | ((with_reducible apply Changes.step (State.setMedia_changes ..)) <;> [rfl; skip]) | ((with_reducible apply Changes.foldl) <;> [(intro _ _ _); skip])
    | split)

theorem State.channelFails_changes (s : State) (c : Fin 16) (reason : Nat) :
    Changes [.units, .evr, .cmq, .land, .media, .ports, .dram, .sdm, .bst, .boot, .out] s (State.channelFails s c reason) := by
  have h0 := Changes.refl [.units, .evr, .cmq, .land, .media, .ports, .dram, .sdm, .bst, .boot, .out] s
  unfold State.channelFails
  repeat' (first
    | ((first | intro x | (lift_lets; intro x)); first | (guard_hyp x : State := _; have hx : Changes [.units, .evr, .cmq, .land, .media, .ports, .dram, .sdm, .bst, .boot, .out] s x := (by unfold x; repeat' (first | with_reducible assumption | ((with_reducible apply Changes.step (State.drain_changes ..)) <;> [rfl; skip]) | ((with_reducible apply Changes.step (State.fatal_changes ..)) <;> [rfl; skip]) | ((with_reducible apply Changes.step (State.loseChannel_changes ..)) <;> [rfl; skip]) | ((with_reducible apply Changes.step (State.outage_changes ..)) <;> [rfl; skip]) | ((with_reducible apply Changes.step (State.setDch_changes ..)) <;> [rfl; skip]) | ((with_reducible apply Changes.foldl) <;> [(intro _ _ _); skip]) | split)); clear_value x) | clear_value x | skip)
    | with_reducible assumption | ((with_reducible apply Changes.step (State.drain_changes ..)) <;> [rfl; skip]) | ((with_reducible apply Changes.step (State.fatal_changes ..)) <;> [rfl; skip]) | ((with_reducible apply Changes.step (State.loseChannel_changes ..)) <;> [rfl; skip]) | ((with_reducible apply Changes.step (State.outage_changes ..)) <;> [rfl; skip]) | ((with_reducible apply Changes.step (State.setDch_changes ..)) <;> [rfl; skip]) | ((with_reducible apply Changes.foldl) <;> [(intro _ _ _); skip])
    | split)

theorem State.corrected_changes (s : State) (c : Fin 16) (n : Nat) :
    Changes [.dram] s (State.corrected s c n) := by
  have h0 := Changes.refl [.dram] s
  unfold State.corrected
  repeat' (first | with_reducible assumption | ((with_reducible apply Changes.step (State.setDch_changes ..)) <;> [rfl; skip]) | ((with_reducible apply Changes.step (State.setDram_changes ..)) <;> [rfl; skip]) | ((with_reducible apply Changes.foldl) <;> [(intro _ _ _); skip]) | split)

theorem State.ueCommand_changes (s : State) (fseq : Nat) :
    Changes [.cmq, .land, .media, .ports, .out, .free] s (State.ueCommand s fseq) := by
  have h0 := Changes.refl [.cmq, .land, .media, .ports, .out, .free] s
  unfold State.ueCommand
  repeat' (first | with_reducible assumption | ((with_reducible apply Changes.step (State.quit_changes ..)) <;> [rfl; skip]) | ((with_reducible apply Changes.step (State.resumeAll_changes ..)) <;> [rfl; skip]) | ((with_reducible apply Changes.foldl) <;> [(intro _ _ _); skip]) | split)

theorem State.ueLine_changes (s : State) (n : Nat) :
    Changes [.cmq, .land, .media, .ports, .out, .free] s (State.ueLine s n) := by
  have h0 := Changes.refl [.cmq, .land, .media, .ports, .out, .free] s
  unfold State.ueLine
  repeat' (first
    | ((first | intro x | (lift_lets; intro x)); first | (guard_hyp x : State := _; have hx : Changes [.cmq, .land, .media, .ports, .out, .free] s x := (by unfold x; repeat' (first | with_reducible assumption | ((with_reducible apply Changes.step (State.closeIfDue_changes ..)) <;> [rfl; skip]) | ((with_reducible apply Changes.step (State.dropLines_changes ..)) <;> [rfl; skip]) | ((with_reducible apply Changes.step (State.quit_changes ..)) <;> [rfl; skip]) | ((with_reducible apply Changes.step (State.resumeAll_changes ..)) <;> [rfl; skip]) | ((with_reducible apply Changes.step (State.setMedia_changes ..)) <;> [rfl; skip]) | ((with_reducible apply Changes.foldl) <;> [(intro _ _ _); skip]) | split)); clear_value x) | clear_value x | skip)
    | with_reducible assumption | ((with_reducible apply Changes.step (State.closeIfDue_changes ..)) <;> [rfl; skip]) | ((with_reducible apply Changes.step (State.dropLines_changes ..)) <;> [rfl; skip]) | ((with_reducible apply Changes.step (State.quit_changes ..)) <;> [rfl; skip]) | ((with_reducible apply Changes.step (State.resumeAll_changes ..)) <;> [rfl; skip]) | ((with_reducible apply Changes.step (State.setMedia_changes ..)) <;> [rfl; skip]) | ((with_reducible apply Changes.foldl) <;> [(intro _ _ _); skip])
    | split)

theorem State.ueAct_changes (s : State) (x0 : UeWhere) :
    Changes [.evr, .cmq, .land, .media, .ports, .sdm, .bst, .boot, .out, .free] s (State.ueAct s x0) := by
  have h0 := Changes.refl [.evr, .cmq, .land, .media, .ports, .sdm, .bst, .boot, .out, .free] s
  unfold State.ueAct
  repeat' (first
    | ((first | intro x | (lift_lets; intro x)); first | (guard_hyp x : State := _; have hx : Changes [.evr, .cmq, .land, .media, .ports, .sdm, .bst, .boot, .out, .free] s x := (by unfold x; repeat' (first | with_reducible assumption | ((with_reducible apply Changes.step (State.contain_changes ..)) <;> [rfl; skip]) | ((with_reducible apply Changes.step (State.setMedia_changes ..)) <;> [rfl; skip]) | ((with_reducible apply Changes.step (State.ueCommand_changes ..)) <;> [rfl; skip]) | ((with_reducible apply Changes.step (State.ueLine_changes ..)) <;> [rfl; skip]) | ((with_reducible apply Changes.foldl) <;> [(intro _ _ _); skip]) | split)); clear_value x) | clear_value x | skip)
    | with_reducible assumption | ((with_reducible apply Changes.step (State.contain_changes ..)) <;> [rfl; skip]) | ((with_reducible apply Changes.step (State.setMedia_changes ..)) <;> [rfl; skip]) | ((with_reducible apply Changes.step (State.ueCommand_changes ..)) <;> [rfl; skip]) | ((with_reducible apply Changes.step (State.ueLine_changes ..)) <;> [rfl; skip]) | ((with_reducible apply Changes.foldl) <;> [(intro _ _ _); skip])
    | split)

theorem State.raiseReads_changes (s : State) :
    Changes [.media] s (State.raiseReads s) := by
  have h0 := Changes.refl [.media] s
  unfold State.raiseReads
  repeat' (first
    | ((first | intro x | (lift_lets; intro x)); first | (guard_hyp x : State := _; have hx : Changes [.media] s x := (by unfold x; repeat' (first | with_reducible assumption | ((with_reducible apply Changes.step (State.setMedia_changes ..)) <;> [rfl; skip]) | ((with_reducible apply Changes.foldl) <;> [(intro _ _ _); skip]) | split)); clear_value x) | clear_value x | skip)
    | with_reducible assumption | ((with_reducible apply Changes.step (State.setMedia_changes ..)) <;> [rfl; skip]) | ((with_reducible apply Changes.foldl) <;> [(intro _ _ _); skip])
    | split)

theorem State.dramUe_changes (s : State) (c : Fin 16) (k : Fin 12) (w : UeWhere) (addr : Nat) :
    Changes [.units, .evr, .cmq, .land, .media, .ports, .dram, .sdm, .bst, .boot, .out, .free] s (State.dramUe s c k w addr) := by
  have h0 := Changes.refl [.units, .evr, .cmq, .land, .media, .ports, .dram, .sdm, .bst, .boot, .out, .free] s
  unfold State.dramUe
  repeat' (first
    | ((first | intro x | (lift_lets; intro x)); first | (guard_hyp x : State := _; have hx : Changes [.units, .evr, .cmq, .land, .media, .ports, .dram, .sdm, .bst, .boot, .out, .free] s x := (by unfold x; repeat' (first | with_reducible assumption | ((with_reducible apply Changes.step (State.channelFails_changes ..)) <;> [rfl; skip]) | ((with_reducible apply Changes.step (State.log_changes ..)) <;> [rfl; skip]) | ((with_reducible apply Changes.step (State.raiseReads_changes ..)) <;> [rfl; skip]) | ((with_reducible apply Changes.step (State.setDch_changes ..)) <;> [rfl; skip]) | ((with_reducible apply Changes.step (State.setDram_changes ..)) <;> [rfl; skip]) | ((with_reducible apply Changes.step (State.ueAct_changes ..)) <;> [rfl; skip]) | ((with_reducible apply Changes.foldl) <;> [(intro _ _ _); skip]) | split)); clear_value x) | clear_value x | skip)
    | with_reducible assumption | ((with_reducible apply Changes.step (State.channelFails_changes ..)) <;> [rfl; skip]) | ((with_reducible apply Changes.step (State.log_changes ..)) <;> [rfl; skip]) | ((with_reducible apply Changes.step (State.raiseReads_changes ..)) <;> [rfl; skip]) | ((with_reducible apply Changes.step (State.setDch_changes ..)) <;> [rfl; skip]) | ((with_reducible apply Changes.step (State.setDram_changes ..)) <;> [rfl; skip]) | ((with_reducible apply Changes.step (State.ueAct_changes ..)) <;> [rfl; skip]) | ((with_reducible apply Changes.foldl) <;> [(intro _ _ _); skip])
    | split)

theorem State.sweepFails_changes (s : State) (c : Fin 16) :
    Changes [.units, .evr, .cmq, .land, .media, .ports, .dram, .sdm, .bst, .boot, .out] s (State.sweepFails s c) := by
  have h0 := Changes.refl [.units, .evr, .cmq, .land, .media, .ports, .dram, .sdm, .bst, .boot, .out] s
  unfold State.sweepFails
  repeat' (first
    | ((first | intro x | (lift_lets; intro x)); first | (guard_hyp x : State := _; have hx : Changes [.units, .evr, .cmq, .land, .media, .ports, .dram, .sdm, .bst, .boot, .out] s x := (by unfold x; repeat' (first | with_reducible assumption | ((with_reducible apply Changes.step (State.channelFails_changes ..)) <;> [rfl; skip]) | ((with_reducible apply Changes.step (State.logs_changes ..)) <;> [rfl; skip]) | ((with_reducible apply Changes.step (State.setDch_changes ..)) <;> [rfl; skip]) | ((with_reducible apply Changes.foldl) <;> [(intro _ _ _); skip]) | split)); clear_value x) | clear_value x | skip)
    | with_reducible assumption | ((with_reducible apply Changes.step (State.channelFails_changes ..)) <;> [rfl; skip]) | ((with_reducible apply Changes.step (State.logs_changes ..)) <;> [rfl; skip]) | ((with_reducible apply Changes.step (State.setDch_changes ..)) <;> [rfl; skip]) | ((with_reducible apply Changes.foldl) <;> [(intro _ _ _); skip])
    | split)

theorem State.runPause_changes (s : State) (c : Fin 16) (p : PauseResult) :
    Changes [.units, .evr, .cmq, .land, .media, .ports, .dram, .sdm, .bst, .boot, .out] s (State.runPause s c p) := by
  have h0 := Changes.refl [.units, .evr, .cmq, .land, .media, .ports, .dram, .sdm, .bst, .boot, .out] s
  unfold State.runPause
  repeat' (first
    | ((first | intro x | (lift_lets; intro x)); first | (guard_hyp x : State := _; have hx : Changes [.units, .evr, .cmq, .land, .media, .ports, .dram, .sdm, .bst, .boot, .out] s x := (by unfold x; repeat' (first | with_reducible assumption | ((with_reducible apply Changes.step (State.setDch_changes ..)) <;> [rfl; skip]) | ((with_reducible apply Changes.step (State.sweepFails_changes ..)) <;> [rfl; skip]) | ((with_reducible apply Changes.foldl) <;> [(intro _ _ _); skip]) | split)); clear_value x) | clear_value x | skip)
    | with_reducible assumption | ((with_reducible apply Changes.step (State.setDch_changes ..)) <;> [rfl; skip]) | ((with_reducible apply Changes.step (State.sweepFails_changes ..)) <;> [rfl; skip]) | ((with_reducible apply Changes.foldl) <;> [(intro _ _ _); skip])
    | split)

theorem State.grantClass_changes (s : State) (c : Fin 16) (k : Fin 12) (forced : Bool) :
    Changes [.dram, .out] s (State.grantClass s c k forced) := by
  have h0 := Changes.refl [.dram, .out] s
  unfold State.grantClass
  repeat' (first
    | ((first | intro x | (lift_lets; intro x)); first | (guard_hyp x : State := _; have hx : Changes [.dram, .out] s x := (by unfold x; repeat' (first | with_reducible assumption | ((with_reducible apply Changes.step (State.emit_changes ..)) <;> [rfl; skip]) | ((with_reducible apply Changes.step (State.runTxn_changes ..)) <;> [rfl; skip]) | ((with_reducible apply Changes.step (State.setDch_changes ..)) <;> [rfl; skip]) | ((with_reducible apply Changes.foldl) <;> [(intro _ _ _); skip]) | split)); clear_value x) | clear_value x | skip)
    | with_reducible assumption | ((with_reducible apply Changes.step (State.emit_changes ..)) <;> [rfl; skip]) | ((with_reducible apply Changes.step (State.runTxn_changes ..)) <;> [rfl; skip]) | ((with_reducible apply Changes.step (State.setDch_changes ..)) <;> [rfl; skip]) | ((with_reducible apply Changes.foldl) <;> [(intro _ _ _); skip])
    | split)

theorem State.roundGrant_changes (s : State) (c : Fin 16) :
    Changes [.dram, .out] s (State.roundGrant s c) := by
  have h0 := Changes.refl [.dram, .out] s
  unfold State.roundGrant
  repeat' (first
    | ((first | intro x | (lift_lets; intro x)); first | (guard_hyp x : State := _; have hx : Changes [.dram, .out] s x := (by unfold x; repeat' (first | with_reducible assumption | ((with_reducible apply Changes.step (State.emit_changes ..)) <;> [rfl; skip]) | ((with_reducible apply Changes.step (State.grantClass_changes ..)) <;> [rfl; skip]) | ((with_reducible apply Changes.step (State.setDch_changes ..)) <;> [rfl; skip]) | ((with_reducible apply Changes.foldl) <;> [(intro _ _ _); skip]) | split)); clear_value x) | clear_value x | skip)
    | with_reducible assumption | ((with_reducible apply Changes.step (State.emit_changes ..)) <;> [rfl; skip]) | ((with_reducible apply Changes.step (State.grantClass_changes ..)) <;> [rfl; skip]) | ((with_reducible apply Changes.step (State.setDch_changes ..)) <;> [rfl; skip]) | ((with_reducible apply Changes.foldl) <;> [(intro _ _ _); skip])
    | split)

theorem State.preempt_changes (s : State) (c : Fin 16) :
    Changes [.dram, .free] s (State.preempt s c) := by
  have h0 := Changes.refl [.dram, .free] s
  unfold State.preempt
  repeat' (first
    | ((first | intro x | (lift_lets; intro x)); first | (guard_hyp x : State := _; have hx : Changes [.dram, .free] s x := (by unfold x; repeat' (first | with_reducible assumption | ((conv => (arg 3; arg 24; skip)); ((with_reducible apply Changes.free_with) <;> [rfl; skip])) | ((with_reducible apply Changes.step (State.setDch_changes ..)) <;> [rfl; skip]) | ((with_reducible apply Changes.foldl) <;> [(intro _ _ _); skip]) | split)); clear_value x) | clear_value x | skip)
    | with_reducible assumption | ((conv => (arg 3; arg 24; skip)); ((with_reducible apply Changes.free_with) <;> [rfl; skip])) | ((with_reducible apply Changes.step (State.setDch_changes ..)) <;> [rfl; skip]) | ((with_reducible apply Changes.foldl) <;> [(intro _ _ _); skip])
    | split)

theorem State.debugReq_changes (s : State) (c : Fin 16) (t : DramTxn) :
    Changes [.dram, .out, .free] s (State.debugReq s c t) := by
  have h0 := Changes.refl [.dram, .out, .free] s
  unfold State.debugReq
  repeat' (first
    | ((first | intro x | (lift_lets; intro x)); first | (guard_hyp x : State := _; have hx : Changes [.dram, .out, .free] s x := (by unfold x; repeat' (first | with_reducible assumption | ((with_reducible apply Changes.step (State.emit_changes ..)) <;> [rfl; skip]) | ((with_reducible apply Changes.step (State.preempt_changes ..)) <;> [rfl; skip]) | ((with_reducible apply Changes.step (State.runTxn_changes ..)) <;> [rfl; skip]) | ((with_reducible apply Changes.step (State.setDch_changes ..)) <;> [rfl; skip]) | ((with_reducible apply Changes.foldl) <;> [(intro _ _ _); skip]) | split)); clear_value x) | clear_value x | skip)
    | with_reducible assumption | ((with_reducible apply Changes.step (State.emit_changes ..)) <;> [rfl; skip]) | ((with_reducible apply Changes.step (State.preempt_changes ..)) <;> [rfl; skip]) | ((with_reducible apply Changes.step (State.runTxn_changes ..)) <;> [rfl; skip]) | ((with_reducible apply Changes.step (State.setDch_changes ..)) <;> [rfl; skip]) | ((with_reducible apply Changes.foldl) <;> [(intro _ _ _); skip])
    | split)

theorem State.debugRest_changes (s : State) (c : Fin 16) (t : DramTxn) :
    Changes [.dram, .out, .free] s (State.debugRest s c t) := by
  have h0 := Changes.refl [.dram, .out, .free] s
  unfold State.debugRest
  repeat' (first | with_reducible assumption | ((with_reducible apply Changes.step (State.debugReq_changes ..)) <;> [rfl; skip]) | ((with_reducible apply Changes.step (State.setDch_changes ..)) <;> [rfl; skip]) | ((with_reducible apply Changes.foldl) <;> [(intro _ _ _); skip]) | split)

theorem State.arbRound_changes (s : State) (c : Fin 16) (raised : List (Fin 12 × DramTxn)) (pause : Option PauseResult) (fixed : Nat) :
    Changes [.units, .evr, .cmq, .land, .media, .ports, .dram, .sdm, .bst, .boot, .out, .free] s (State.arbRound s c raised pause fixed) := by
  have h0 := Changes.refl [.units, .evr, .cmq, .land, .media, .ports, .dram, .sdm, .bst, .boot, .out, .free] s
  unfold State.arbRound
  repeat' (first
    | ((first | intro x | (lift_lets; intro x)); first | (guard_hyp x : State := _; have hx : Changes [.units, .evr, .cmq, .land, .media, .ports, .dram, .sdm, .bst, .boot, .out, .free] s x := (by unfold x; repeat' (first | with_reducible assumption | ((with_reducible apply Changes.step (State.corrected_changes ..)) <;> [rfl; skip]) | ((with_reducible apply Changes.step (State.debugRest_changes ..)) <;> [rfl; skip]) | ((with_reducible apply Changes.step (State.emit_changes ..)) <;> [rfl; skip]) | ((with_reducible apply Changes.step (State.roundGrant_changes ..)) <;> [rfl; skip]) | ((with_reducible apply Changes.step (State.runPause_changes ..)) <;> [rfl; skip]) | ((with_reducible apply Changes.step (State.setDch_changes ..)) <;> [rfl; skip]) | ((with_reducible apply Changes.foldl) <;> [(intro _ _ _); skip]) | split)); clear_value x) | clear_value x | skip)
    | with_reducible assumption | ((with_reducible apply Changes.step (State.corrected_changes ..)) <;> [rfl; skip]) | ((with_reducible apply Changes.step (State.debugRest_changes ..)) <;> [rfl; skip]) | ((with_reducible apply Changes.step (State.emit_changes ..)) <;> [rfl; skip]) | ((with_reducible apply Changes.step (State.roundGrant_changes ..)) <;> [rfl; skip]) | ((with_reducible apply Changes.step (State.runPause_changes ..)) <;> [rfl; skip]) | ((with_reducible apply Changes.step (State.setDch_changes ..)) <;> [rfl; skip]) | ((with_reducible apply Changes.foldl) <;> [(intro _ _ _); skip])
    | split)

theorem State.refresh_changes (s : State) (c : Fin 16) (bank : Fin 16) :
    Changes [.dram, .out] s (State.refresh s c bank) := by
  have h0 := Changes.refl [.dram, .out] s
  unfold State.refresh
  repeat' (first | with_reducible assumption | ((with_reducible apply Changes.step (State.emit_changes ..)) <;> [rfl; skip]) | ((with_reducible apply Changes.step (State.flushCheck_changes ..)) <;> [rfl; skip]) | ((with_reducible apply Changes.step (State.setDch_changes ..)) <;> [rfl; skip]) | ((with_reducible apply Changes.foldl) <;> [(intro _ _ _); skip]) | split)

theorem State.cutOff_changes (s : State) (c : Fin 16) :
    Changes [.evr, .dram] s (State.cutOff s c) := by
  have h0 := Changes.refl [.evr, .dram] s
  unfold State.cutOff
  repeat' (first | with_reducible assumption | ((with_reducible apply Changes.step (State.log_changes ..)) <;> [rfl; skip]) | ((with_reducible apply Changes.step (State.setDch_changes ..)) <;> [rfl; skip]) | ((with_reducible apply Changes.step (State.setDram_changes ..)) <;> [rfl; skip]) | ((with_reducible apply Changes.foldl) <;> [(intro _ _ _); skip]) | split)

theorem State.wantCycle_changes (s : State) (c : Fin 16) :
    Changes [.dram] s (State.wantCycle s c) := by
  have h0 := Changes.refl [.dram] s
  unfold State.wantCycle
  repeat' (first | with_reducible assumption | ((with_reducible apply Changes.step (State.setDch_changes ..)) <;> [rfl; skip]) | ((with_reducible apply Changes.foldl) <;> [(intro _ _ _); skip]) | split)

theorem State.wantFull_changes (s : State) (c : Fin 16) :
    Changes [.dram] s (State.wantFull s c) := by
  have h0 := Changes.refl [.dram] s
  unfold State.wantFull
  repeat' (first | with_reducible assumption | ((with_reducible apply Changes.step (State.setDch_changes ..)) <;> [rfl; skip]) | ((with_reducible apply Changes.foldl) <;> [(intro _ _ _); skip]) | split)

theorem State.driftWarn_changes (s : State) :
    Changes [.evr, .dram] s (State.driftWarn s) := by
  have h0 := Changes.refl [.evr, .dram] s
  unfold State.driftWarn
  repeat' (first
    | ((first | intro x | (lift_lets; intro x)); first | (guard_hyp x : State := _; have hx : Changes [.evr, .dram] s x := (by unfold x; repeat' (first | with_reducible assumption | ((with_reducible apply Changes.step (State.log_changes ..)) <;> [rfl; skip]) | ((with_reducible apply Changes.step (State.setDch_changes ..)) <;> [rfl; skip]) | ((with_reducible apply Changes.foldl) <;> [(intro _ _ _); skip]) | split)); clear_value x) | clear_value x | skip)
    | with_reducible assumption | ((with_reducible apply Changes.step (State.log_changes ..)) <;> [rfl; skip]) | ((with_reducible apply Changes.step (State.setDch_changes ..)) <;> [rfl; skip]) | ((with_reducible apply Changes.foldl) <;> [(intro _ _ _); skip])
    | split)

theorem State.trainingFails_changes (s : State) (c : Fin 16) :
    Changes [.units, .evr, .cmq, .land, .media, .ports, .dram, .sdm, .bst, .boot, .out] s (State.trainingFails s c) := by
  have h0 := Changes.refl [.units, .evr, .cmq, .land, .media, .ports, .dram, .sdm, .bst, .boot, .out] s
  unfold State.trainingFails
  repeat' (first
    | ((first | intro x | (lift_lets; intro x)); first | (guard_hyp x : State := _; have hx : Changes [.units, .evr, .cmq, .land, .media, .ports, .dram, .sdm, .bst, .boot, .out] s x := (by unfold x; repeat' (first | with_reducible assumption | ((with_reducible apply Changes.step (State.fatal_changes ..)) <;> [rfl; skip]) | ((with_reducible apply Changes.step (State.log_changes ..)) <;> [rfl; skip]) | ((with_reducible apply Changes.step (State.outage_changes ..)) <;> [rfl; skip]) | ((with_reducible apply Changes.step (State.setDch_changes ..)) <;> [rfl; skip]) | ((with_reducible apply Changes.step (State.setDram_changes ..)) <;> [rfl; skip]) | ((with_reducible apply Changes.foldl) <;> [(intro _ _ _); skip]) | split)); clear_value x) | clear_value x | skip)
    | with_reducible assumption | ((with_reducible apply Changes.step (State.fatal_changes ..)) <;> [rfl; skip]) | ((with_reducible apply Changes.step (State.log_changes ..)) <;> [rfl; skip]) | ((with_reducible apply Changes.step (State.outage_changes ..)) <;> [rfl; skip]) | ((with_reducible apply Changes.step (State.setDch_changes ..)) <;> [rfl; skip]) | ((with_reducible apply Changes.step (State.setDram_changes ..)) <;> [rfl; skip]) | ((with_reducible apply Changes.foldl) <;> [(intro _ _ _); skip])
    | split)

theorem State.dramTrained_changes (s : State) (c : Fin 16) (r : DramTraining) :
    Changes [.units, .evr, .cmq, .land, .media, .ports, .dram, .sdm, .bst, .boot, .out] s (State.dramTrained s c r) := by
  have h0 := Changes.refl [.units, .evr, .cmq, .land, .media, .ports, .dram, .sdm, .bst, .boot, .out] s
  unfold State.dramTrained
  repeat' (first
    | ((first | intro x | (lift_lets; intro x)); first | (guard_hyp x : State := _; have hx : Changes [.units, .evr, .cmq, .land, .media, .ports, .dram, .sdm, .bst, .boot, .out] s x := (by unfold x; repeat' (first | with_reducible assumption | ((with_reducible apply Changes.step (State.log_changes ..)) <;> [rfl; skip]) | ((with_reducible apply Changes.step (State.returned_changes ..)) <;> [rfl; skip]) | ((with_reducible apply Changes.step (State.setDch_changes ..)) <;> [rfl; skip]) | ((with_reducible apply Changes.step (State.trainingFails_changes ..)) <;> [rfl; skip]) | ((with_reducible apply Changes.foldl) <;> [(intro _ _ _); skip]) | split)); clear_value x) | clear_value x | skip)
    | with_reducible assumption | ((with_reducible apply Changes.step (State.log_changes ..)) <;> [rfl; skip]) | ((with_reducible apply Changes.step (State.returned_changes ..)) <;> [rfl; skip]) | ((with_reducible apply Changes.step (State.setDch_changes ..)) <;> [rfl; skip]) | ((with_reducible apply Changes.step (State.trainingFails_changes ..)) <;> [rfl; skip]) | ((with_reducible apply Changes.foldl) <;> [(intro _ _ _); skip])
    | split)

theorem State.barAnswer_changes (s : State) (p : Fin 2) (isWrite : Bool) (c : Cpl) :
    Changes [.out] s (State.barAnswer s p isWrite c) := by
  have h0 := Changes.refl [.out] s
  unfold State.barAnswer
  repeat' (first | with_reducible assumption | ((with_reducible apply Changes.step (State.emit_changes ..)) <;> [rfl; skip]) | ((with_reducible apply Changes.foldl) <;> [(intro _ _ _); skip]) | split)

theorem State.unmapped_changes (s : State) (p : Fin 2) (bar : Nat) (offset : Nat) (isWrite : Bool) :
    Changes [.evr, .out] s (State.unmapped s p bar offset isWrite) := by
  have h0 := Changes.refl [.evr, .out] s
  unfold State.unmapped
  repeat' (first | with_reducible assumption | ((with_reducible apply Changes.step (State.barAnswer_changes ..)) <;> [rfl; skip]) | ((with_reducible apply Changes.step (State.emit_changes ..)) <;> [rfl; skip]) | ((with_reducible apply Changes.step (State.log_changes ..)) <;> [rfl; skip]) | ((with_reducible apply Changes.foldl) <;> [(intro _ _ _); skip]) | split)

theorem State.hostBar4_changes {ps : List Part} (s : State) (p : Fin 2) (content : Nat) (isWrite : Bool) (f : State → State) (s0 : State) (h : ∀ y0, Changes ps s0 y0 → Changes ps s0 (f y0)) (hc : covers [.evr, .out] ps = true) (k : Changes ps s0 s) : Changes ps s0 (State.hostBar4 s p content isWrite f) := by
  unfold State.hostBar4
  repeat' (first | with_reducible assumption | ((with_reducible apply Changes.step (State.barAnswer_changes ..)) <;> [(refine covers_trans (by rfl) hc); skip]) | ((with_reducible apply Changes.step (State.unmapped_changes ..)) <;> [(refine covers_trans (by rfl) hc); skip]) | (with_reducible apply h) | split)

theorem State.crosses_changes (s : State) (p : Fin 2) (bar : Nat) (offset : Nat) (isWrite : Bool) :
    Changes [.evr, .ports, .out] s (State.crosses s p bar offset isWrite) := by
  have h0 := Changes.refl [.evr, .ports, .out] s
  unfold State.crosses
  repeat' (first | with_reducible assumption | ((with_reducible apply Changes.step (State.setPort_changes ..)) <;> [rfl; skip]) | ((with_reducible apply Changes.step (State.unmapped_changes ..)) <;> [rfl; skip]) | ((with_reducible apply Changes.foldl) <;> [(intro _ _ _); skip]) | split)

theorem State.pmrNotReady_changes (s : State) (p : Fin 2) (offset : Nat) (isWrite : Bool) :
    Changes [.evr] s (State.pmrNotReady s p offset isWrite) := by
  have h0 := Changes.refl [.evr] s
  unfold State.pmrNotReady
  repeat' (first | with_reducible assumption | ((with_reducible apply Changes.step (State.log_changes ..)) <;> [rfl; skip]) | ((with_reducible apply Changes.foldl) <;> [(intro _ _ _); skip]) | split)

theorem State.pmrWrite_changes (s : State) (p : Fin 2) (offset : Nat) (bs : List Byte) :
    Changes [.evr, .land, .ports, .out] s (State.pmrWrite s p offset bs) := by
  have h0 := Changes.refl [.evr, .land, .ports, .out] s
  unfold State.pmrWrite
  repeat' (first
    | ((first | intro x | (lift_lets; intro x)); first | (guard_hyp x : State := _; have hx : Changes [.evr, .land, .ports, .out] s x := (by unfold x; repeat' (first | with_reducible assumption | ((conv => (arg 3; arg 24; skip)); ((with_reducible apply Changes.land_with) <;> [rfl; skip])) | ((with_reducible apply Changes.step (State.crosses_changes ..)) <;> [rfl; skip]) | ((with_reducible apply Changes.step (State.pmrNotReady_changes ..)) <;> [rfl; skip]) | ((with_reducible apply Changes.step (State.unmapped_changes ..)) <;> [rfl; skip]) | ((with_reducible apply Changes.foldl) <;> [(intro _ _ _); skip]) | split)); clear_value x) | clear_value x | skip)
    | with_reducible assumption | ((conv => (arg 3; arg 24; skip)); ((with_reducible apply Changes.land_with) <;> [rfl; skip])) | ((with_reducible apply Changes.step (State.crosses_changes ..)) <;> [rfl; skip]) | ((with_reducible apply Changes.step (State.pmrNotReady_changes ..)) <;> [rfl; skip]) | ((with_reducible apply Changes.step (State.unmapped_changes ..)) <;> [rfl; skip]) | ((with_reducible apply Changes.foldl) <;> [(intro _ _ _); skip])
    | split)

theorem State.pmrRead_changes (s : State) (p : Fin 2) (offset : Nat) (len : Nat) :
    Changes [.evr, .ports, .out] s (State.pmrRead s p offset len) := by
  have h0 := Changes.refl [.evr, .ports, .out] s
  unfold State.pmrRead
  repeat' (first
    | ((first | intro x | (lift_lets; intro x)); first | (guard_hyp x : State := _; have hx : Changes [.evr, .ports, .out] s x := (by unfold x; repeat' (first | with_reducible assumption | ((with_reducible apply Changes.step (State.crosses_changes ..)) <;> [rfl; skip]) | ((with_reducible apply Changes.step (State.emit_changes ..)) <;> [rfl; skip]) | ((with_reducible apply Changes.step (State.pmrNotReady_changes ..)) <;> [rfl; skip]) | ((with_reducible apply Changes.step (State.unmapped_changes ..)) <;> [rfl; skip]) | ((with_reducible apply Changes.foldl) <;> [(intro _ _ _); skip]) | split)); clear_value x) | clear_value x | skip)
    | with_reducible assumption | ((with_reducible apply Changes.step (State.crosses_changes ..)) <;> [rfl; skip]) | ((with_reducible apply Changes.step (State.emit_changes ..)) <;> [rfl; skip]) | ((with_reducible apply Changes.step (State.pmrNotReady_changes ..)) <;> [rfl; skip]) | ((with_reducible apply Changes.step (State.unmapped_changes ..)) <;> [rfl; skip]) | ((with_reducible apply Changes.foldl) <;> [(intro _ _ _); skip])
    | split)

theorem State.slotWrite_changes (s : State) (p : Fin 2) (k : Nat) (sec : Fin 8) (x : Sector) :
    Changes [.evr, .land, .out, .free] s (State.slotWrite s p k sec x) := by
  have h0 := Changes.refl [.evr, .land, .out, .free] s
  unfold State.slotWrite
  repeat' (first
    | ((first | intro x | (lift_lets; intro x)); first | (guard_hyp x : State := _; have hx : Changes [.evr, .land, .out, .free] s x := (by unfold x; repeat' (first | with_reducible assumption | ((conv => (arg 3; arg 24; skip)); ((with_reducible apply Changes.free_with) <;> [rfl; skip])) | ((conv => (arg 3; arg 24; skip)); ((with_reducible apply Changes.land_with) <;> [rfl; skip])) | ((with_reducible apply Changes.step (State.barAnswer_changes ..)) <;> [rfl; skip]) | ((with_reducible apply Changes.step (State.log_changes ..)) <;> [rfl; skip]) | ((with_reducible apply Changes.foldl) <;> [(intro _ _ _); skip]) | split)); clear_value x) | clear_value x | skip)
    | with_reducible assumption | ((conv => (arg 3; arg 24; skip)); ((with_reducible apply Changes.free_with) <;> [rfl; skip])) | ((conv => (arg 3; arg 24; skip)); ((with_reducible apply Changes.land_with) <;> [rfl; skip])) | ((with_reducible apply Changes.step (State.barAnswer_changes ..)) <;> [rfl; skip]) | ((with_reducible apply Changes.step (State.log_changes ..)) <;> [rfl; skip]) | ((with_reducible apply Changes.foldl) <;> [(intro _ _ _); skip])
    | split)

theorem State.trained_changes (s : State) (p : Fin 2) (rate : Nat) (width : Nat) :
    Changes [.evr, .ports] s (State.trained s p rate width) := by
  have h0 := Changes.refl [.evr, .ports] s
  unfold State.trained
  repeat' (first
    | ((first | intro x | (lift_lets; intro x)); first | (guard_hyp x : State := _; have hx : Changes [.evr, .ports] s x := (by unfold x; repeat' (first | with_reducible assumption | ((with_reducible apply Changes.step (State.log_changes ..)) <;> [rfl; skip]) | ((with_reducible apply Changes.step (State.setPort_changes ..)) <;> [rfl; skip]) | ((with_reducible apply Changes.foldl) <;> [(intro _ _ _); skip]) | split)); clear_value x) | clear_value x | skip)
    | with_reducible assumption | ((with_reducible apply Changes.step (State.log_changes ..)) <;> [rfl; skip]) | ((with_reducible apply Changes.step (State.setPort_changes ..)) <;> [rfl; skip]) | ((with_reducible apply Changes.foldl) <;> [(intro _ _ _); skip])
    | split)

theorem State.setLink_changes (s : State) (p : Fin 2) (l : LinkSt) :
    Changes [.ports] s (State.setLink s p l) := by
  have h0 := Changes.refl [.ports] s
  unfold State.setLink
  repeat' (first | with_reducible assumption | ((with_reducible apply Changes.step (State.setPort_changes ..)) <;> [rfl; skip]) | ((with_reducible apply Changes.foldl) <;> [(intro _ _ _); skip]) | split)

theorem State.enterL1_changes (s : State) (p : Fin 2) :
    Changes [.ports] s (State.enterL1 s p) := by
  have h0 := Changes.refl [.ports] s
  unfold State.enterL1
  repeat' (first
    | ((first | intro x | (lift_lets; intro x)); first | (guard_hyp x : State := _; have hx : Changes [.ports] s x := (by unfold x; repeat' (first | with_reducible assumption | ((with_reducible apply Changes.step (State.setPort_changes ..)) <;> [rfl; skip]) | ((with_reducible apply Changes.foldl) <;> [(intro _ _ _); skip]) | split)); clear_value x) | clear_value x | skip)
    | with_reducible assumption | ((with_reducible apply Changes.step (State.setPort_changes ..)) <;> [rfl; skip]) | ((with_reducible apply Changes.foldl) <;> [(intro _ _ _); skip])
    | split)

theorem State.trip_changes (s : State) (p : Fin 2) (trig : Fin 8) :
    Changes [.evr, .cmq, .land, .media, .ports, .sdm, .bst, .boot, .out, .free] s (State.trip s p trig) := by
  have h0 := Changes.refl [.evr, .cmq, .land, .media, .ports, .sdm, .bst, .boot, .out, .free] s
  unfold State.trip
  repeat' (first
    | ((first | intro x | (lift_lets; intro x)); first | (guard_hyp x : State := _; have hx : Changes [.evr, .cmq, .land, .media, .ports, .sdm, .bst, .boot, .out, .free] s x := (by unfold x; repeat' (first | with_reducible assumption | ((with_reducible apply Changes.step (State.contain_changes ..)) <;> [rfl; skip]) | ((with_reducible apply Changes.step (State.resumeAll_changes ..)) <;> [rfl; skip]) | ((with_reducible apply Changes.foldl) <;> [(intro _ _ _); skip]) | split)); clear_value x) | clear_value x | skip)
    | with_reducible assumption | ((with_reducible apply Changes.step (State.contain_changes ..)) <;> [rfl; skip]) | ((with_reducible apply Changes.step (State.resumeAll_changes ..)) <;> [rfl; skip]) | ((with_reducible apply Changes.foldl) <;> [(intro _ _ _); skip])
    | split)

theorem State.hostReadFails_changes (s : State) (p : Fin 2) (fseq : Nat) (trig : Fin 8) :
    Changes [.evr, .cmq, .land, .media, .ports, .sdm, .bst, .boot, .out, .free] s (State.hostReadFails s p fseq trig) := by
  have h0 := Changes.refl [.evr, .cmq, .land, .media, .ports, .sdm, .bst, .boot, .out, .free] s
  unfold State.hostReadFails
  repeat' (first | with_reducible assumption | ((with_reducible apply Changes.step (State.quit_changes ..)) <;> [rfl; skip]) | ((with_reducible apply Changes.step (State.resumeAll_changes ..)) <;> [rfl; skip]) | ((with_reducible apply Changes.step (State.trip_changes ..)) <;> [rfl; skip]) | ((with_reducible apply Changes.foldl) <;> [(intro _ _ _); skip]) | split)

theorem State.ideFails_changes (s : State) (p : Fin 2) :
    Changes [.evr, .cmq, .land, .media, .ports, .sdm, .bst, .boot, .out, .free] s (State.ideFails s p) := by
  have h0 := Changes.refl [.evr, .cmq, .land, .media, .ports, .sdm, .bst, .boot, .out, .free] s
  unfold State.ideFails
  repeat' (first | with_reducible assumption | ((with_reducible apply Changes.step (State.log_changes ..)) <;> [rfl; skip]) | ((with_reducible apply Changes.step (State.setPort_changes ..)) <;> [rfl; skip]) | ((with_reducible apply Changes.step (State.trip_changes ..)) <;> [rfl; skip]) | ((with_reducible apply Changes.foldl) <;> [(intro _ _ _); skip]) | split)

theorem State.setSdc_changes (s : State) (ch : Fin 16) (f : SdmCh → SdmCh) :
    Changes [.sdm] s (State.setSdc s ch f) := by
  have h0 := Changes.refl [.sdm] s
  unfold State.setSdc
  repeat' (first | with_reducible assumption | ((conv => (arg 3; arg 24; skip)); ((with_reducible apply Changes.sdm_with) <;> [rfl; skip])) | ((with_reducible apply Changes.foldl) <;> [(intro _ _ _); skip]) | split)

theorem State.holdShares_changes (s : State) :
    Changes [.sdm] s (State.holdShares s) := by
  have h0 := Changes.refl [.sdm] s
  unfold State.holdShares
  repeat' (first | with_reducible assumption | ((with_reducible apply Changes.step (State.setSdc_changes ..)) <;> [rfl; skip]) | ((with_reducible apply Changes.foldl) <;> [(intro _ _ _); skip]) | split)

theorem State.cmbWrite_changes (s : State) (p : Fin 2) (x : Nat) (bs : List Byte) :
    Changes [.land, .free] s (State.cmbWrite s p x bs) := by
  have h0 := Changes.refl [.land, .free] s
  unfold State.cmbWrite
  repeat' (first
    | ((first | intro x | (lift_lets; intro x)); first | (guard_hyp x : State := _; have hx : Changes [.land, .free] s x := (by unfold x; repeat' (first | with_reducible assumption | ((conv => (arg 3; arg 24; skip)); ((with_reducible apply Changes.land_free_with) <;> [rfl; rfl; skip])) | ((with_reducible apply Changes.foldl) <;> [(intro _ _ _); skip]) | split)); clear_value x) | clear_value x | skip)
    | with_reducible assumption | ((conv => (arg 3; arg 24; skip)); ((with_reducible apply Changes.land_free_with) <;> [rfl; rfl; skip])) | ((with_reducible apply Changes.foldl) <;> [(intro _ _ _); skip])
    | split)

theorem State.pmrPut_changes (s : State) (p : Fin 2) (x : Nat) (bs : List Byte) :
    Changes [.land] s (State.pmrPut s p x bs) := by
  have h0 := Changes.refl [.land] s
  unfold State.pmrPut
  repeat' (first | with_reducible assumption | ((conv => (arg 3; arg 24; skip)); ((with_reducible apply Changes.land_with) <;> [rfl; skip])) | ((with_reducible apply Changes.foldl) <;> [(intro _ _ _); skip]) | split)

theorem State.lineWrite_changes (s : State) (n : Nat) (o : Nat) (bs : List Byte) :
    Changes [.land, .sdm, .free] s (State.lineWrite s n o bs) := by
  have h0 := Changes.refl [.land, .sdm, .free] s
  unfold State.lineWrite
  repeat' (first | with_reducible assumption | ((conv => (arg 3; arg 24; skip)); ((with_reducible apply Changes.land_with) <;> [rfl; skip])) | ((conv => (arg 3; arg 24; skip)); ((with_reducible apply Changes.sdm_with) <;> [rfl; skip])) | ((with_reducible apply Changes.step (State.cmbWrite_changes ..)) <;> [rfl; skip]) | ((with_reducible apply Changes.step (State.pmrPut_changes ..)) <;> [rfl; skip]) | ((with_reducible apply Changes.foldl) <;> [(intro _ _ _); skip]) | split)

theorem State.memPut_changes (s : State) (a : Nat) (bs : List Byte) (x0 : Nat) :
    Changes [.land, .sdm, .free] s (State.memPut s a bs x0) := by
  have hstep : ∀ (n : Nat) (s : State) (a : Nat) (bs : List Byte), Changes [.land, .sdm, .free] s (State.memPut s a bs n) := by
    intro n
    induction n with
    | zero => intro s a bs; exact Changes.refl _ _
    | succ k ih =>
      intro s a bs
      have h0 := Changes.refl [.land, .sdm, .free] s
      unfold State.memPut
      repeat' (first | ((first | intro x | (lift_lets; intro x)); first | clear_value x | skip) | with_reducible assumption | with_reducible assumption | ((conv => (arg 3; arg 24; skip)); ((with_reducible apply Changes.sdm_with) <;> [rfl; skip])) | ((with_reducible apply Changes.step (State.lineWrite_changes ..)) <;> [rfl; skip]) | ((with_reducible apply Changes.foldl) <;> [(intro _ _ _); skip]) | ((with_reducible apply Changes.step (ih _ _ _)) <;> [rfl; skip]) | split)
  exact hstep x0 s a bs

theorem State.sdmWrite_changes (s : State) (ch : Fin 16) (sp : BitVec 2) (a : Nat) (bs : List Byte) :
    Changes [.land, .sdm, .out, .free] s (State.sdmWrite s ch sp a bs) := by
  have h0 := Changes.refl [.land, .sdm, .out, .free] s
  unfold State.sdmWrite
  repeat' (first
    | ((first | intro x | (lift_lets; intro x)); first | (guard_hyp x : State := _; have hx : Changes [.land, .sdm, .out, .free] s x := (by unfold x; repeat' (first | with_reducible assumption | ((with_reducible apply Changes.step (State.cmbWrite_changes ..)) <;> [rfl; skip]) | ((with_reducible apply Changes.step (State.emit_changes ..)) <;> [rfl; skip]) | ((with_reducible apply Changes.step (State.memPut_changes ..)) <;> [rfl; skip]) | ((with_reducible apply Changes.step (State.pmrPut_changes ..)) <;> [rfl; skip]) | ((with_reducible apply Changes.foldl) <;> [(intro _ _ _); skip]) | split)); clear_value x) | clear_value x | skip)
    | with_reducible assumption | ((with_reducible apply Changes.step (State.cmbWrite_changes ..)) <;> [rfl; skip]) | ((with_reducible apply Changes.step (State.emit_changes ..)) <;> [rfl; skip]) | ((with_reducible apply Changes.step (State.memPut_changes ..)) <;> [rfl; skip]) | ((with_reducible apply Changes.step (State.pmrPut_changes ..)) <;> [rfl; skip]) | ((with_reducible apply Changes.foldl) <;> [(intro _ _ _); skip])
    | split)

theorem State.writeBackDesc_changes (s : State) (ch : Fin 16) (d : Desc) (code : Nat) (count : Nat) (result : Nat) :
    Changes [.land, .sdm, .out, .free] s (State.writeBackDesc s ch d code count result) := by
  have h0 := Changes.refl [.land, .sdm, .out, .free] s
  unfold State.writeBackDesc
  repeat' (first
    | ((first | intro x | (lift_lets; intro x)); first | (guard_hyp x : State := _; have hx : Changes [.land, .sdm, .out, .free] s x := (by unfold x; repeat' (first | with_reducible assumption | ((with_reducible apply Changes.step (State.sdmWrite_changes ..)) <;> [rfl; skip]) | ((with_reducible apply Changes.foldl) <;> [(intro _ _ _); skip]) | split)); clear_value x) | clear_value x | skip)
    | with_reducible assumption | ((with_reducible apply Changes.step (State.sdmWrite_changes ..)) <;> [rfl; skip]) | ((with_reducible apply Changes.foldl) <;> [(intro _ _ _); skip])
    | split)

theorem State.sdmMessage_changes (s : State) (ch : Fin 16) :
    Changes [.out] s (State.sdmMessage s ch) := by
  have h0 := Changes.refl [.out] s
  unfold State.sdmMessage
  repeat' (first
    | ((first | intro x | (lift_lets; intro x)); first | (guard_hyp x : State := _; have hx : Changes [.out] s x := (by unfold x; repeat' (first | with_reducible assumption | ((with_reducible apply Changes.step (State.emit_changes ..)) <;> [rfl; skip]) | ((with_reducible apply Changes.foldl) <;> [(intro _ _ _); skip]) | split)); clear_value x) | clear_value x | skip)
    | with_reducible assumption | ((with_reducible apply Changes.step (State.emit_changes ..)) <;> [rfl; skip]) | ((with_reducible apply Changes.foldl) <;> [(intro _ _ _); skip])
    | split)

theorem State.sdmEnd_changes (s : State) (ch : Fin 16) (d : Desc) (code : Nat) (count : Nat) (result : Nat) :
    Changes [.evr, .land, .sdm, .out, .free] s (State.sdmEnd s ch d code count result) := by
  have h0 := Changes.refl [.evr, .land, .sdm, .out, .free] s
  unfold State.sdmEnd
  repeat' (first
    | ((first | intro x | (lift_lets; intro x)); first | (guard_hyp x : State := _; have hx : Changes [.evr, .land, .sdm, .out, .free] s x := (by unfold x; repeat' (first | with_reducible assumption | ((conv => (arg 3; arg 24; skip)); ((with_reducible apply Changes.sdm_with) <;> [rfl; skip])) | ((with_reducible apply Changes.step (State.log_changes ..)) <;> [rfl; skip]) | ((with_reducible apply Changes.step (State.sdmMessage_changes ..)) <;> [rfl; skip]) | ((with_reducible apply Changes.step (State.setSdc_changes ..)) <;> [rfl; skip]) | ((with_reducible apply Changes.step (State.writeBackDesc_changes ..)) <;> [rfl; skip]) | ((with_reducible apply Changes.foldl) <;> [(intro _ _ _); skip]) | split)); clear_value x) | clear_value x | skip)
    | with_reducible assumption | ((conv => (arg 3; arg 24; skip)); ((with_reducible apply Changes.sdm_with) <;> [rfl; skip])) | ((with_reducible apply Changes.step (State.log_changes ..)) <;> [rfl; skip]) | ((with_reducible apply Changes.step (State.sdmMessage_changes ..)) <;> [rfl; skip]) | ((with_reducible apply Changes.step (State.setSdc_changes ..)) <;> [rfl; skip]) | ((with_reducible apply Changes.step (State.writeBackDesc_changes ..)) <;> [rfl; skip]) | ((with_reducible apply Changes.foldl) <;> [(intro _ _ _); skip])
    | split)

theorem State.sdmRead_changes (s : State) (ch : Fin 16) (d : Desc) :
    Changes [.evr, .land, .sdm, .out, .free] s (State.sdmRead s ch d) := by
  have h0 := Changes.refl [.evr, .land, .sdm, .out, .free] s
  unfold State.sdmRead
  repeat' (first | with_reducible assumption | ((with_reducible apply Changes.step (State.sdmEnd_changes ..)) <;> [rfl; skip]) | ((with_reducible apply Changes.step (State.setSdc_changes ..)) <;> [rfl; skip]) | ((with_reducible apply Changes.foldl) <;> [(intro _ _ _); skip]) | split)

theorem State.sdmRun_changes (s : State) (ch : Fin 16) (d : Desc) :
    Changes [.evr, .land, .sdm, .out, .free] s (State.sdmRun s ch d) := by
  have h0 := Changes.refl [.evr, .land, .sdm, .out, .free] s
  unfold State.sdmRun
  repeat' (first
    | ((first | intro x | (lift_lets; intro x)); first | (guard_hyp x : State := _; have hx : Changes [.evr, .land, .sdm, .out, .free] s x := (by unfold x; repeat' (first | with_reducible assumption | ((with_reducible apply Changes.step (State.sdmRead_changes ..)) <;> [rfl; skip]) | ((with_reducible apply Changes.step (State.setSdc_changes ..)) <;> [rfl; skip]) | ((with_reducible apply Changes.foldl) <;> [(intro _ _ _); skip]) | split)); clear_value x) | clear_value x | skip)
    | with_reducible assumption | ((with_reducible apply Changes.step (State.sdmRead_changes ..)) <;> [rfl; skip]) | ((with_reducible apply Changes.step (State.setSdc_changes ..)) <;> [rfl; skip]) | ((with_reducible apply Changes.foldl) <;> [(intro _ _ _); skip])
    | split)

theorem State.sdmStop_changes (s : State) (ch : Fin 16) :
    Changes [.evr, .land, .sdm, .out, .free] s (State.sdmStop s ch) := by
  have h0 := Changes.refl [.evr, .land, .sdm, .out, .free] s
  unfold State.sdmStop
  repeat' (first
    | ((first | intro x | (lift_lets; intro x)); first | (guard_hyp x : State := _; have hx : Changes [.evr, .land, .sdm, .out, .free] s x := (by unfold x; repeat' (first | with_reducible assumption | ((with_reducible apply Changes.step (State.sdmEnd_changes ..)) <;> [rfl; skip]) | ((with_reducible apply Changes.step (State.setSdc_changes ..)) <;> [rfl; skip]) | ((with_reducible apply Changes.foldl) <;> [(intro _ _ _); skip]) | split)); clear_value x) | clear_value x | skip)
    | with_reducible assumption | ((with_reducible apply Changes.step (State.sdmEnd_changes ..)) <;> [rfl; skip]) | ((with_reducible apply Changes.step (State.setSdc_changes ..)) <;> [rfl; skip]) | ((with_reducible apply Changes.foldl) <;> [(intro _ _ _); skip])
    | split)

theorem State.onDesc_changes {ps : List Part} (s : State) (ch : Fin 16) (op : BitVec 2) (f : Desc → State → State) (s0 : State) (h : ∀ y0 y1, Changes ps s0 y1 → Changes ps s0 (f y0 y1)) (hc : covers [.evr, .land, .sdm, .out, .free] ps = true) (k : Changes ps s0 s) : Changes ps s0 (State.onDesc s ch op f) := by
  unfold State.onDesc
  dsimp only
  repeat' (first | with_reducible assumption | ((with_reducible apply Changes.step (State.sdmEnd_changes ..)) <;> [(exact hc); skip]) | (with_reducible apply h) | split)

theorem State.sdmBeats_changes (s : State) (ch : Fin 16) (d : Desc) (bs : List Byte) :
    Changes [.land, .sdm, .out, .free] s (State.sdmBeats s ch d bs) := by
  have h0 := Changes.refl [.land, .sdm, .out, .free] s
  unfold State.sdmBeats
  repeat' (first | with_reducible assumption | ((with_reducible apply Changes.step (State.sdmWrite_changes ..)) <;> [rfl; skip]) | ((with_reducible apply Changes.step (State.setSdc_changes ..)) <;> [rfl; skip]) | ((with_reducible apply Changes.foldl) <;> [(intro _ _ _); skip]) | split)

theorem State.sdmCompare_changes (s : State) (ch : Fin 16) (d : Desc) (a : List Byte) (b : List Byte) :
    Changes [.evr, .land, .sdm, .out, .free] s (State.sdmCompare s ch d a b) := by
  have h0 := Changes.refl [.evr, .land, .sdm, .out, .free] s
  unfold State.sdmCompare
  repeat' (first | with_reducible assumption | ((conv => (arg 3; arg 24; skip)); ((with_reducible apply Changes.free_with) <;> [rfl; skip])) | ((with_reducible apply Changes.step (State.sdmEnd_changes ..)) <;> [rfl; skip]) | ((with_reducible apply Changes.foldl) <;> [(intro _ _ _); skip]) | split)

theorem State.sdmAck_changes (s : State) (ch : Fin 16) :
    Changes [.evr, .land, .sdm, .out, .free] s (State.sdmAck s ch) := by
  have h0 := Changes.refl [.evr, .land, .sdm, .out, .free] s
  unfold State.sdmAck
  repeat' (first
    | ((first | intro x | (lift_lets; intro x)); first | (guard_hyp x : State := _; have hx : Changes [.evr, .land, .sdm, .out, .free] s x := (by unfold x; repeat' (first | with_reducible assumption | ((with_reducible apply Changes.step (State.emit_changes ..)) <;> [rfl; skip]) | ((with_reducible apply Changes.step (State.emits_changes ..)) <;> [rfl; skip]) | ((with_reducible apply Changes.step (State.sdmEnd_changes ..)) <;> [rfl; skip]) | ((with_reducible apply Changes.step (State.setSdc_changes ..)) <;> [rfl; skip]) | ((with_reducible apply Changes.foldl) <;> [(intro _ _ _); skip]) | split)); clear_value x) | clear_value x | skip)
    | with_reducible assumption | ((with_reducible apply Changes.step (State.emit_changes ..)) <;> [rfl; skip]) | ((with_reducible apply Changes.step (State.emits_changes ..)) <;> [rfl; skip]) | ((with_reducible apply Changes.step (State.sdmEnd_changes ..)) <;> [rfl; skip]) | ((with_reducible apply Changes.step (State.setSdc_changes ..)) <;> [rfl; skip]) | ((with_reducible apply Changes.foldl) <;> [(intro _ _ _); skip])
    | split)

theorem State.sdmReturned_changes (s : State) (ch : Fin 16) (ok : Bool) (next : Desc) :
    Changes [.evr, .land, .sdm, .out, .free] s (State.sdmReturned s ch ok next) := by
  have h0 := Changes.refl [.evr, .land, .sdm, .out, .free] s
  unfold State.sdmReturned
  repeat' (first
    | ((first | intro x | (lift_lets; intro x)); first | (guard_hyp x : State := _; have hx : Changes [.evr, .land, .sdm, .out, .free] s x := (by unfold x; repeat' (first | with_reducible assumption | ((with_reducible apply Changes.step (State.sdmEnd_changes ..)) <;> [rfl; skip]) | ((with_reducible apply Changes.step (State.sdmRead_changes ..)) <;> [rfl; skip]) | ((with_reducible apply Changes.foldl) <;> [(intro _ _ _); skip]) | split)); clear_value x) | clear_value x | skip)
    | with_reducible assumption | ((with_reducible apply Changes.step (State.sdmEnd_changes ..)) <;> [rfl; skip]) | ((with_reducible apply Changes.step (State.sdmRead_changes ..)) <;> [rfl; skip]) | ((with_reducible apply Changes.foldl) <;> [(intro _ _ _); skip])
    | split)

theorem State.sdmBeatError_changes (s : State) (ch : Fin 16) (isWrite : Bool) (notIssued : Nat) :
    Changes [.evr, .land, .sdm, .out, .free] s (State.sdmBeatError s ch isWrite notIssued) := by
  have h0 := Changes.refl [.evr, .land, .sdm, .out, .free] s
  unfold State.sdmBeatError
  repeat' (first
    | ((first | intro x | (lift_lets; intro x)); first | (guard_hyp x : State := _; have hx : Changes [.evr, .land, .sdm, .out, .free] s x := (by unfold x; repeat' (first | with_reducible assumption | ((conv => (arg 3; arg 24; skip)); ((with_reducible apply Changes.free_with) <;> [rfl; skip])) | ((with_reducible apply Changes.step (State.sdmEnd_changes ..)) <;> [rfl; skip]) | ((with_reducible apply Changes.step (State.sdmWrite_changes ..)) <;> [rfl; skip]) | ((with_reducible apply Changes.foldl) <;> [(intro _ _ _); skip]) | split)); clear_value x) | clear_value x | skip)
    | with_reducible assumption | ((conv => (arg 3; arg 24; skip)); ((with_reducible apply Changes.free_with) <;> [rfl; skip])) | ((with_reducible apply Changes.step (State.sdmEnd_changes ..)) <;> [rfl; skip]) | ((with_reducible apply Changes.step (State.sdmWrite_changes ..)) <;> [rfl; skip]) | ((with_reducible apply Changes.foldl) <;> [(intro _ _ _); skip])
    | split)

theorem State.setPage_changes (s : State) (pg : Fin 16) (f : VaultPage → VaultPage) :
    Changes [.vault] s (State.setPage s pg f) := by
  have h0 := Changes.refl [.vault] s
  unfold State.setPage
  repeat' (first | with_reducible assumption | ((conv => (arg 3; arg 24; skip)); ((with_reducible apply Changes.vault_with) <;> [rfl; skip])) | ((with_reducible apply Changes.foldl) <;> [(intro _ _ _); skip]) | split)

theorem State.refuse_changes (s : State) (pg : Fin 16) (ini : Initiator) :
    Changes [.evr, .vault, .out] s (State.refuse s pg ini) := by
  have h0 := Changes.refl [.evr, .vault, .out] s
  unfold State.refuse
  repeat' (first
    | ((first | intro x | (lift_lets; intro x)); first | (guard_hyp x : State := _; have hx : Changes [.evr, .vault, .out] s x := (by unfold x; repeat' (first | with_reducible assumption | ((with_reducible apply Changes.step (State.emit_changes ..)) <;> [rfl; skip]) | ((with_reducible apply Changes.step (State.log_changes ..)) <;> [rfl; skip]) | ((with_reducible apply Changes.step (State.setPage_changes ..)) <;> [rfl; skip]) | ((with_reducible apply Changes.foldl) <;> [(intro _ _ _); skip]) | split)); clear_value x) | clear_value x | skip)
    | with_reducible assumption | ((with_reducible apply Changes.step (State.emit_changes ..)) <;> [rfl; skip]) | ((with_reducible apply Changes.step (State.log_changes ..)) <;> [rfl; skip]) | ((with_reducible apply Changes.step (State.setPage_changes ..)) <;> [rfl; skip]) | ((with_reducible apply Changes.foldl) <;> [(intro _ _ _); skip])
    | split)

theorem State.pageAccess_changes {ps : List Part} (s : State) (pg : Fin 16) (ini : Initiator) (isWrite : Bool) (f : State → State) (s0 : State) (h : ∀ y0, Changes ps s0 y0 → Changes ps s0 (f y0)) (hc : covers [.evr, .vault, .out] ps = true) (k : Changes ps s0 s) : Changes ps s0 (State.pageAccess s pg ini isWrite f) := by
  unfold State.pageAccess
  repeat' (first | with_reducible assumption | ((with_reducible apply State.hostBar4_changes) <;> [(intro _ _); (exact covers_trans (by rfl) hc); skip]) | ((with_reducible apply Changes.step (State.refuse_changes ..)) <;> [(refine covers_trans (by rfl) hc); skip]) | (with_reducible apply h) | split)

theorem State.onPage_changes {ps : List Part} (s : State) (pg : Fin 16) (ini : Initiator) (f : State → State) (s0 : State) (h : ∀ y0, Changes ps s0 y0 → Changes ps s0 (f y0)) (hc : covers [.evr, .vault, .out] ps = true) (k : Changes ps s0 s) : Changes ps s0 (State.onPage s pg ini f) := by
  unfold State.onPage
  exact State.pageAccess_changes s pg ini true f s0 h (covers_trans (by rfl) hc) k

theorem State.go_changes (s : State) (pg : Fin 16) (op : BitVec 3) (slot : Fin 4) :
    Changes [.vault] s (State.go s pg op slot) := by
  have h0 := Changes.refl [.vault] s
  unfold State.go
  repeat' (first | with_reducible assumption | ((with_reducible apply Changes.step (State.setPage_changes ..)) <;> [rfl; skip]) | ((with_reducible apply Changes.foldl) <;> [(intro _ _ _); skip]) | split)

theorem State.blockDone_changes (s : State) (pg : Fin 16) :
    Changes [.vault, .free] s (State.blockDone s pg) := by
  have h0 := Changes.refl [.vault, .free] s
  unfold State.blockDone
  repeat' (first
    | ((first | intro x | (lift_lets; intro x)); first | (guard_hyp x : State := _; have hx : Changes [.vault, .free] s x := (by unfold x; repeat' (first | with_reducible assumption | ((conv => (arg 3; arg 24; skip)); ((with_reducible apply Changes.free_with) <;> [rfl; skip])) | ((with_reducible apply Changes.step (State.setPage_changes ..)) <;> [rfl; skip]) | ((with_reducible apply Changes.foldl) <;> [(intro _ _ _); skip]) | split)); clear_value x) | clear_value x | skip)
    | with_reducible assumption | ((conv => (arg 3; arg 24; skip)); ((with_reducible apply Changes.free_with) <;> [rfl; skip])) | ((with_reducible apply Changes.step (State.setPage_changes ..)) <;> [rfl; skip]) | ((with_reducible apply Changes.foldl) <;> [(intro _ _ _); skip])
    | split)

theorem State.keyWord_changes (s : State) (pg : Fin 16) (slot : Fin 4) (word : Fin 8) (v : BitVec 32) :
    Changes [.vault] s (State.keyWord s pg slot word v) := by
  have h0 := Changes.refl [.vault] s
  unfold State.keyWord
  repeat' (first | with_reducible assumption | ((with_reducible apply Changes.step (State.setPage_changes ..)) <;> [rfl; skip]) | ((with_reducible apply Changes.foldl) <;> [(intro _ _ _); skip]) | split)

theorem State.endClaim_changes (s : State) :
    Changes [.vault] s (State.endClaim s) := by
  have h0 := Changes.refl [.vault] s
  unfold State.endClaim
  repeat' (first
    | ((first | intro x | (lift_lets; intro x)); first | (guard_hyp x : State := _; have hx : Changes [.vault] s x := (by unfold x; repeat' (first | with_reducible assumption | ((conv => (arg 3; arg 24; skip)); ((with_reducible apply Changes.vault_with) <;> [rfl; skip])) | ((with_reducible apply Changes.step (State.setPage_changes ..)) <;> [rfl; skip]) | ((with_reducible apply Changes.foldl) <;> [(intro _ _ _); skip]) | split)); clear_value x) | clear_value x | skip)
    | with_reducible assumption | ((conv => (arg 3; arg 24; skip)); ((with_reducible apply Changes.vault_with) <;> [rfl; skip])) | ((with_reducible apply Changes.step (State.setPage_changes ..)) <;> [rfl; skip]) | ((with_reducible apply Changes.foldl) <;> [(intro _ _ _); skip])
    | split)

theorem State.claim_changes (s : State) (p : Fin 2) :
    Changes [.evr, .vault, .out] s (State.claim s p) := by
  have h0 := Changes.refl [.evr, .vault, .out] s
  unfold State.claim
  repeat' (first | with_reducible assumption | ((conv => (arg 3; arg 24; skip)); ((with_reducible apply Changes.vault_with) <;> [rfl; skip])) | ((with_reducible apply Changes.step (State.refuse_changes ..)) <;> [rfl; skip]) | ((with_reducible apply Changes.foldl) <;> [(intro _ _ _); skip]) | split)

theorem State.unclaim_changes (s : State) (p : Fin 2) :
    Changes [.evr, .vault, .out] s (State.unclaim s p) := by
  have h0 := Changes.refl [.evr, .vault, .out] s
  unfold State.unclaim
  repeat' (first | with_reducible assumption | ((with_reducible apply Changes.step (State.endClaim_changes ..)) <;> [rfl; skip]) | ((with_reducible apply Changes.step (State.refuse_changes ..)) <;> [rfl; skip]) | ((with_reducible apply Changes.foldl) <;> [(intro _ _ _); skip]) | split)

theorem State.tamper_changes (s : State) (alarm : Fin 5) (value : Int) :
    Changes [.evr, .cmq, .land, .media, .ports, .sdm, .vault, .sec, .bst, .boot, .out, .free] s (State.tamper s alarm value) := by
  have h0 := Changes.refl [.evr, .cmq, .land, .media, .ports, .sdm, .vault, .sec, .bst, .boot, .out, .free] s
  unfold State.tamper
  repeat' (first
    | ((first | intro x | (lift_lets; intro x)); first | (guard_hyp x : State := _; have hx : Changes [.evr, .cmq, .land, .media, .ports, .sdm, .vault, .sec, .bst, .boot, .out, .free] s x := (by unfold x; repeat' (first | with_reducible assumption | ((conv => (arg 3; arg 24; skip)); ((with_reducible apply Changes.sec_with) <;> [rfl; skip])) | ((with_reducible apply Changes.step (State.contain_changes ..)) <;> [rfl; skip]) | ((with_reducible apply Changes.step (State.eraseKeys_changes ..)) <;> [rfl; skip]) | ((with_reducible apply Changes.step (State.log_changes ..)) <;> [rfl; skip]) | ((with_reducible apply Changes.step (State.resumeAll_changes ..)) <;> [rfl; skip]) | ((with_reducible apply Changes.foldl) <;> [(intro _ _ _); skip]) | split)); clear_value x) | clear_value x | skip)
    | with_reducible assumption | ((conv => (arg 3; arg 24; skip)); ((with_reducible apply Changes.sec_with) <;> [rfl; skip])) | ((with_reducible apply Changes.step (State.contain_changes ..)) <;> [rfl; skip]) | ((with_reducible apply Changes.step (State.eraseKeys_changes ..)) <;> [rfl; skip]) | ((with_reducible apply Changes.step (State.log_changes ..)) <;> [rfl; skip]) | ((with_reducible apply Changes.step (State.resumeAll_changes ..)) <;> [rfl; skip]) | ((with_reducible apply Changes.foldl) <;> [(intro _ _ _); skip])
    | split)

theorem State.entropyFails_changes (s : State) :
    Changes [.evr, .sec] s (State.entropyFails s) := by
  have h0 := Changes.refl [.evr, .sec] s
  unfold State.entropyFails
  repeat' (first | with_reducible assumption | ((conv => (arg 3; arg 24; skip)); ((with_reducible apply Changes.sec_with) <;> [rfl; skip])) | ((with_reducible apply Changes.step (State.log_changes ..)) <;> [rfl; skip]) | ((with_reducible apply Changes.foldl) <;> [(intro _ _ _); skip]) | split)

theorem State.writeLedger_changes (s : State) (kind : Nat) (flags : Byte) :
    Changes [.boot, .free] s (State.writeLedger s kind flags) := by
  have h0 := Changes.refl [.boot, .free] s
  unfold State.writeLedger
  repeat' (first
    | ((first | intro x | (lift_lets; intro x)); first | (guard_hyp x : State := _; have hx : Changes [.boot, .free] s x := (by unfold x; repeat' (first | with_reducible assumption | ((conv => (arg 3; arg 24; skip)); ((with_reducible apply Changes.boot_free_with) <;> [rfl; rfl; skip])) | ((with_reducible apply Changes.foldl) <;> [(intro _ _ _); skip]) | split)); clear_value x) | clear_value x | skip)
    | with_reducible assumption | ((conv => (arg 3; arg 24; skip)); ((with_reducible apply Changes.boot_free_with) <;> [rfl; rfl; skip])) | ((with_reducible apply Changes.foldl) <;> [(intro _ _ _); skip])
    | split)

theorem State.spdm_changes (s : State) (v : SpdmVia) (code : Nat) (bytes : List Byte) :
    Changes [.out] s (State.spdm s v code bytes) := by
  have h0 := Changes.refl [.out] s
  unfold State.spdm
  repeat' (first | with_reducible assumption | ((with_reducible apply Changes.step (State.emit_changes ..)) <;> [rfl; skip]) | ((with_reducible apply Changes.foldl) <;> [(intro _ _ _); skip]) | split)

theorem State.spdmSigned_changes (s : State) (v : SpdmVia) (code : Nat) (slot : Nat) (bytes : List Byte) :
    Changes [.out, .free] s (State.spdmSigned s v code slot bytes) := by
  have h0 := Changes.refl [.out, .free] s
  unfold State.spdmSigned
  repeat' (first | with_reducible assumption | ((conv => (arg 3; arg 24; skip)); ((with_reducible apply Changes.free_with) <;> [rfl; skip])) | ((with_reducible apply Changes.step (State.emit_changes ..)) <;> [rfl; skip]) | ((with_reducible apply Changes.step (State.spdm_changes ..)) <;> [rfl; skip]) | ((with_reducible apply Changes.foldl) <;> [(intro _ _ _); skip]) | split)

theorem State.spdmError_changes (s : State) (v : SpdmVia) (e : Nat) :
    Changes [.out] s (State.spdmError s v e) := by
  have h0 := Changes.refl [.out] s
  unfold State.spdmError
  repeat' (first | with_reducible assumption | ((with_reducible apply Changes.step (State.spdm_changes ..)) <;> [rfl; skip]) | ((with_reducible apply Changes.foldl) <;> [(intro _ _ _); skip]) | split)

theorem State.whenKeyed_changes {ps : List Part} (s : State) (f : State → State) (s0 : State) (h : ∀ y0, Changes ps s0 y0 → Changes ps s0 (f y0)) (k : Changes ps s0 s) : Changes ps s0 (State.whenKeyed s f) := by
  unfold State.whenKeyed
  repeat' (first | with_reducible assumption | fail | ((with_reducible apply h)) | ((with_reducible apply State.whenLive_changes) <;> [(intro _ _); skip]) | intro x | split)

theorem State.negotiated_changes {ps : List Part} (s : State) (v : SpdmVia) (f : State → State) (s0 : State) (h : ∀ y0, Changes ps s0 y0 → Changes ps s0 (f y0)) (hc : covers [.out] ps = true) (k : Changes ps s0 s) : Changes ps s0 (State.negotiated s v f) := by
  unfold State.negotiated
  repeat' (first | with_reducible assumption | fail | ((with_reducible apply h)) | ((with_reducible apply Changes.step (State.spdmError_changes ..)) <;> [(refine covers_trans (by rfl) hc); skip]) | ((with_reducible apply State.whenKeyed_changes) <;> [(intro _ _); skip]) | intro x | split)

theorem State.setSession_changes (s : State) (v : SpdmVia) (id : Nat) (f : SpdmSession → SpdmSession) :
    Changes [.sec] s (State.setSession s v id f) := by
  have h0 := Changes.refl [.sec] s
  unfold State.setSession
  repeat' (first | with_reducible assumption | ((conv => (arg 3; arg 24; skip)); ((with_reducible apply Changes.sec_with) <;> [rfl; skip])) | ((with_reducible apply Changes.foldl) <;> [(intro _ _ _); skip]) | split)

theorem State.inSession_changes {ps : List Part} (s : State) (v : SpdmVia) (id : Nat) (f : State → State) (s0 : State) (h : ∀ y0, Changes ps s0 y0 → Changes ps s0 (f y0)) (hc : covers [.vault, .out] ps = true) (k : Changes ps s0 s) : Changes ps s0 (State.inSession s v id f) := by
  unfold State.inSession
  repeat' (first | with_reducible assumption | ((conv => (arg 3; arg 24; skip)); ((with_reducible apply Changes.vault_with) <;> [(exact covers_mem rfl hc); skip])) | ((with_reducible apply h)) | ((with_reducible apply Changes.step (State.spdmError_changes ..)) <;> [(refine covers_trans (by rfl) hc); skip]) | ((with_reducible apply State.whenKeyed_changes) <;> [(intro _ _); skip]) | intro x | split)

theorem State.postHeld_changes (s : State) (p : Fin 2) :
    Changes [.cmq, .ports, .out] s (State.postHeld s p) := by
  have h0 := Changes.refl [.cmq, .ports, .out] s
  unfold State.postHeld
  repeat' (first
    | ((first | intro x | (lift_lets; intro x)); first | (guard_hyp x : State := _; have hx : Changes [.cmq, .ports, .out] s x := (by unfold x; repeat' (first | with_reducible assumption | ((with_reducible apply Changes.step (State.post_changes ..)) <;> [rfl; skip]) | ((with_reducible apply Changes.step (State.setCtrl_changes ..)) <;> [rfl; skip]) | ((with_reducible apply Changes.foldl) <;> [(intro _ _ _); skip]) | split)); clear_value x) | clear_value x | skip)
    | with_reducible assumption | ((with_reducible apply Changes.step (State.post_changes ..)) <;> [rfl; skip]) | ((with_reducible apply Changes.step (State.setCtrl_changes ..)) <;> [rfl; skip]) | ((with_reducible apply Changes.foldl) <;> [(intro _ _ _); skip])
    | split)

theorem State.ideKey_changes (s : State) (p : Fin 2) (keySet : Fin 2) (key : BitVec 256) :
    Changes [.cmq, .ports, .out] s (State.ideKey s p keySet key) := by
  have h0 := Changes.refl [.cmq, .ports, .out] s
  unfold State.ideKey
  repeat' (first
    | ((first | intro x | (lift_lets; intro x)); first | (guard_hyp x : State := _; have hx : Changes [.cmq, .ports, .out] s x := (by unfold x; repeat' (first | with_reducible assumption | ((with_reducible apply Changes.step (State.postHeld_changes ..)) <;> [rfl; skip]) | ((with_reducible apply Changes.step (State.setPort_changes ..)) <;> [rfl; skip]) | ((with_reducible apply Changes.step (State.spdm_changes ..)) <;> [rfl; skip]) | ((with_reducible apply Changes.step (State.tryReady_changes ..)) <;> [rfl; skip]) | ((with_reducible apply Changes.foldl) <;> [(intro _ _ _); skip]) | split)); clear_value x) | clear_value x | skip)
    | with_reducible assumption | ((with_reducible apply Changes.step (State.postHeld_changes ..)) <;> [rfl; skip]) | ((with_reducible apply Changes.step (State.setPort_changes ..)) <;> [rfl; skip]) | ((with_reducible apply Changes.step (State.spdm_changes ..)) <;> [rfl; skip]) | ((with_reducible apply Changes.step (State.tryReady_changes ..)) <;> [rfl; skip]) | ((with_reducible apply Changes.foldl) <;> [(intro _ _ _); skip])
    | split)

theorem State.method_changes (s : State) (fseq : Nat) (st : Nat) :
    Changes [.cmq, .land, .media, .ports, .out] s (State.method s fseq st) := by
  have h0 := Changes.refl [.cmq, .land, .media, .ports, .out] s
  unfold State.method
  repeat' (first | with_reducible assumption | ((with_reducible apply Changes.step (State.complete_changes ..)) <;> [rfl; skip]) | ((with_reducible apply Changes.step (State.emit_changes ..)) <;> [rfl; skip]) | ((with_reducible apply Changes.foldl) <;> [(intro _ _ _); skip]) | split)

theorem State.setSec_changes (s : State) (f : Security → Security) :
    Changes [.sec] s (State.setSec s f) := by
  have h0 := Changes.refl [.sec] s
  unfold State.setSec
  repeat' (first | with_reducible assumption | ((conv => (arg 3; arg 24; skip)); ((with_reducible apply Changes.sec_with) <;> [rfl; skip])) | ((with_reducible apply Changes.foldl) <;> [(intro _ _ _); skip]) | split)

theorem State.genKey_changes (s : State) (r : Fin 64) :
    Changes [.evr, .cmq, .land, .media, .ports, .sec, .out, .free] s (State.genKey s r) := by
  have h0 := Changes.refl [.evr, .cmq, .land, .media, .ports, .sec, .out, .free] s
  unfold State.genKey
  repeat' (first
    | ((first | intro x | (lift_lets; intro x)); first | (guard_hyp x : State := _; have hx : Changes [.evr, .cmq, .land, .media, .ports, .sec, .out, .free] s x := (by unfold x; repeat' (first | with_reducible assumption | ((with_reducible apply Changes.step (State.newKey_changes ..)) <;> [rfl; skip]) | ((with_reducible apply Changes.step (State.resumeAll_changes ..)) <;> [rfl; skip]) | ((with_reducible apply Changes.step (State.setUnits_changes ..)) <;> [rfl; skip]) | ((with_reducible apply Changes.step (State.settleStripes_changes ..)) <;> [rfl; skip]) | ((with_reducible apply Changes.foldl) <;> [(intro _ _ _); skip]) | split)); clear_value x) | clear_value x | skip)
    | with_reducible assumption | ((with_reducible apply Changes.step (State.newKey_changes ..)) <;> [rfl; skip]) | ((with_reducible apply Changes.step (State.resumeAll_changes ..)) <;> [rfl; skip]) | ((with_reducible apply Changes.step (State.setUnits_changes ..)) <;> [rfl; skip]) | ((with_reducible apply Changes.step (State.settleStripes_changes ..)) <;> [rfl; skip]) | ((with_reducible apply Changes.foldl) <;> [(intro _ _ _); skip])
    | split)

theorem State.endKeyCmd_changes (s : State) (fseq : Nat) (ls : List Nat) :
    Changes [.cmq, .land, .media, .ports, .out] s (State.endKeyCmd s fseq ls) := by
  have h0 := Changes.refl [.cmq, .land, .media, .ports, .out] s
  unfold State.endKeyCmd
  repeat' (first
    | ((first | intro x | (lift_lets; intro x)); first | (guard_hyp x : State := _; have hx : Changes [.cmq, .land, .media, .ports, .out] s x := (by unfold x; repeat' (first | with_reducible assumption | ((with_reducible apply Changes.step (State.closeEarly_changes ..)) <;> [rfl; skip]) | ((with_reducible apply Changes.step (State.complete_changes ..)) <;> [rfl; skip]) | ((with_reducible apply Changes.step (State.dispatchAll_changes ..)) <;> [rfl; skip]) | ((with_reducible apply Changes.step (State.setCmd_changes ..)) <;> [rfl; skip]) | ((with_reducible apply Changes.foldl) <;> [(intro _ _ _); skip]) | split)); clear_value x) | clear_value x | skip)
    | with_reducible assumption | ((with_reducible apply Changes.step (State.closeEarly_changes ..)) <;> [rfl; skip]) | ((with_reducible apply Changes.step (State.complete_changes ..)) <;> [rfl; skip]) | ((with_reducible apply Changes.step (State.dispatchAll_changes ..)) <;> [rfl; skip]) | ((with_reducible apply Changes.step (State.setCmd_changes ..)) <;> [rfl; skip]) | ((with_reducible apply Changes.foldl) <;> [(intro _ _ _); skip])
    | split)

theorem State.setBst_changes (s : State) (f : Bst → Bst) :
    Changes [.bst] s (State.setBst s f) := by
  have h0 := Changes.refl [.bst] s
  unfold State.setBst
  repeat' (first | with_reducible assumption | ((conv => (arg 3; arg 24; skip)); ((with_reducible apply Changes.bst_with) <;> [rfl; skip])) | ((with_reducible apply Changes.foldl) <;> [(intro _ _ _); skip]) | split)

theorem State.bstWrite_changes {ps : List Part} (s : State) (ini : Initiator) (f : State → State) (s0 : State) (h : ∀ y0, Changes ps s0 y0 → Changes ps s0 (f y0)) (hc : covers [.out] ps = true) (k : Changes ps s0 s) : Changes ps s0 (State.bstWrite s ini f) := by
  unfold State.bstWrite
  repeat' (first | with_reducible assumption | fail | ((with_reducible apply h)) | ((with_reducible apply Changes.step (State.emit_changes ..)) <;> [(refine covers_trans (by rfl) hc); skip]) | intro x | split)

theorem State.serve_changes (s : State) (ini : Initiator) (o : Nat) :
    Changes [.bst, .out] s (State.serve s ini o) := by
  have h0 := Changes.refl [.bst, .out] s
  unfold State.serve
  repeat' (first
    | ((first | intro x | (lift_lets; intro x)); first | (guard_hyp x : State := _; have hx : Changes [.bst, .out] s x := (by unfold x; repeat' (first | with_reducible assumption | ((with_reducible apply Changes.step (State.emit_changes ..)) <;> [rfl; skip]) | ((with_reducible apply Changes.step (State.setBst_changes ..)) <;> [rfl; skip]) | ((with_reducible apply Changes.foldl) <;> [(intro _ _ _); skip]) | split)); clear_value x) | clear_value x | skip)
    | with_reducible assumption | ((with_reducible apply Changes.step (State.emit_changes ..)) <;> [rfl; skip]) | ((with_reducible apply Changes.step (State.setBst_changes ..)) <;> [rfl; skip]) | ((with_reducible apply Changes.foldl) <;> [(intro _ _ _); skip])
    | split)

theorem State.serveHeld_changes (s : State) :
    Changes [.bst, .out] s (State.serveHeld s) := by
  have h0 := Changes.refl [.bst, .out] s
  unfold State.serveHeld
  repeat' (first
    | ((first | intro x | (lift_lets; intro x)); first | (guard_hyp x : State := _; have hx : Changes [.bst, .out] s x := (by unfold x; repeat' (first | with_reducible assumption | ((with_reducible apply Changes.step (State.serve_changes ..)) <;> [rfl; skip]) | ((with_reducible apply Changes.step (State.setBst_changes ..)) <;> [rfl; skip]) | ((with_reducible apply Changes.foldl) <;> [(intro _ _ _); skip]) | split)); clear_value x) | clear_value x | skip)
    | with_reducible assumption | ((with_reducible apply Changes.step (State.serve_changes ..)) <;> [rfl; skip]) | ((with_reducible apply Changes.step (State.setBst_changes ..)) <;> [rfl; skip]) | ((with_reducible apply Changes.foldl) <;> [(intro _ _ _); skip])
    | split)

theorem State.setOp_changes (s : State) (f : BstOp → BstOp) :
    Changes [.bst] s (State.setOp s f) := by
  have h0 := Changes.refl [.bst] s
  unfold State.setOp
  repeat' (first | with_reducible assumption | ((with_reducible apply Changes.step (State.setBst_changes ..)) <;> [rfl; skip]) | ((with_reducible apply Changes.foldl) <;> [(intro _ _ _); skip]) | split)

theorem State.bstRead_changes (s : State) (ini : Initiator) (o : Nat) :
    Changes [.bst, .out] s (State.bstRead s ini o) := by
  have h0 := Changes.refl [.bst, .out] s
  unfold State.bstRead
  repeat' (first
    | ((first | intro x | (lift_lets; intro x)); first | (guard_hyp x : State := _; have hx : Changes [.bst, .out] s x := (by unfold x; repeat' (first | with_reducible assumption | ((with_reducible apply Changes.step (State.emit_changes ..)) <;> [rfl; skip]) | ((with_reducible apply Changes.step (State.serve_changes ..)) <;> [rfl; skip]) | ((with_reducible apply Changes.step (State.setBst_changes ..)) <;> [rfl; skip]) | ((with_reducible apply Changes.step (State.setOp_changes ..)) <;> [rfl; skip]) | ((with_reducible apply Changes.foldl) <;> [(intro _ _ _); skip]) | split)); clear_value x) | clear_value x | skip)
    | with_reducible assumption | ((with_reducible apply Changes.step (State.emit_changes ..)) <;> [rfl; skip]) | ((with_reducible apply Changes.step (State.serve_changes ..)) <;> [rfl; skip]) | ((with_reducible apply Changes.step (State.setBst_changes ..)) <;> [rfl; skip]) | ((with_reducible apply Changes.step (State.setOp_changes ..)) <;> [rfl; skip]) | ((with_reducible apply Changes.foldl) <;> [(intro _ _ _); skip])
    | split)

theorem State.bstStart_changes {ps : List Part} (s : State) (o : Nat) (f : State → State) (s0 : State) (h : ∀ y0, Changes ps s0 y0 → Changes ps s0 (f y0)) (hc : covers [.bst, .out] ps = true) (k : Changes ps s0 s) : Changes ps s0 (State.bstStart s o f) := by
  unfold State.bstStart
  repeat' (first | with_reducible assumption | ((with_reducible apply Changes.step (State.setBst_changes ..)) <;> [(refine covers_trans (by rfl) hc); skip]) | ((with_reducible apply Changes.step (State.emit_changes ..)) <;> [(refine covers_trans (by rfl) hc); skip]) | (with_reducible apply h) | split)

theorem State.bstErase_changes (s : State) (sector : Nat) :
    Changes [.evr, .bst] s (State.bstErase s sector) := by
  have h0 := Changes.refl [.evr, .bst] s
  unfold State.bstErase
  repeat' (first | with_reducible assumption | ((with_reducible apply Changes.step (State.log_changes ..)) <;> [rfl; skip]) | ((with_reducible apply Changes.step (State.setBst_changes ..)) <;> [rfl; skip]) | ((with_reducible apply Changes.foldl) <;> [(intro _ _ _); skip]) | split)

theorem State.programmed_changes (s : State) (page : Nat) (data : List Byte) :
    Changes [.bst, .free] s (State.programmed s page data) := by
  have h0 := Changes.refl [.bst, .free] s
  unfold State.programmed
  dsimp only
  split
  · repeat' (first | with_reducible assumption | ((with_reducible apply Changes.step (State.setBst_changes ..)) <;> [rfl; skip]) | ((with_reducible apply Changes.foldl) <;> [(intro _ _ _); skip]))
  · (with_reducible apply Changes.free_with) <;> [rfl; skip]
    repeat' (first | with_reducible assumption | ((with_reducible apply Changes.step (State.setBst_changes ..)) <;> [rfl; skip]) | ((with_reducible apply Changes.foldl) <;> [(intro _ _ _); skip]))

theorem State.spoiled_changes (s : State) (o : BstOp) :
    Changes [.bst, .free] s (State.spoiled s o) := by
  have h0 := Changes.refl [.bst, .free] s
  unfold State.spoiled
  repeat' (first
    | ((first | intro x | (lift_lets; intro x)); first | (guard_hyp x : State := _; have hx : Changes [.bst, .free] s x := (by unfold x; repeat' (first | with_reducible assumption | ((conv => (arg 3; arg 24; skip)); ((with_reducible apply Changes.free_with) <;> [rfl; skip])) | ((with_reducible apply Changes.step (State.programmed_changes ..)) <;> [rfl; skip]) | ((with_reducible apply Changes.step (State.setBst_changes ..)) <;> [rfl; skip]) | ((with_reducible apply Changes.foldl) <;> [(intro _ _ _); skip]) | split)); clear_value x) | clear_value x | skip)
    | with_reducible assumption | ((conv => (arg 3; arg 24; skip)); ((with_reducible apply Changes.free_with) <;> [rfl; skip])) | ((with_reducible apply Changes.step (State.programmed_changes ..)) <;> [rfl; skip]) | ((with_reducible apply Changes.step (State.setBst_changes ..)) <;> [rfl; skip]) | ((with_reducible apply Changes.foldl) <;> [(intro _ _ _); skip])
    | split)

theorem State.bstComplete_changes (s : State) (ok : Bool) :
    Changes [.evr, .bst, .out, .free] s (State.bstComplete s ok) := by
  have h0 := Changes.refl [.evr, .bst, .out, .free] s
  unfold State.bstComplete
  repeat' (first
    | ((first | intro x | (lift_lets; intro x)); first | (guard_hyp x : State := _; have hx : Changes [.evr, .bst, .out, .free] s x := (by unfold x; repeat' (first | with_reducible assumption | ((with_reducible apply Changes.step (State.log_changes ..)) <;> [rfl; skip]) | ((with_reducible apply Changes.step (State.programmed_changes ..)) <;> [rfl; skip]) | ((with_reducible apply Changes.step (State.serveHeld_changes ..)) <;> [rfl; skip]) | ((with_reducible apply Changes.step (State.setBst_changes ..)) <;> [rfl; skip]) | ((with_reducible apply Changes.step (State.spoiled_changes ..)) <;> [rfl; skip]) | ((with_reducible apply Changes.foldl) <;> [(intro _ _ _); skip]) | split)); clear_value x) | clear_value x | skip)
    | with_reducible assumption | ((with_reducible apply Changes.step (State.log_changes ..)) <;> [rfl; skip]) | ((with_reducible apply Changes.step (State.programmed_changes ..)) <;> [rfl; skip]) | ((with_reducible apply Changes.step (State.serveHeld_changes ..)) <;> [rfl; skip]) | ((with_reducible apply Changes.step (State.setBst_changes ..)) <;> [rfl; skip]) | ((with_reducible apply Changes.step (State.spoiled_changes ..)) <;> [rfl; skip]) | ((with_reducible apply Changes.foldl) <;> [(intro _ _ _); skip])
    | split)

theorem State.bstSuspended_changes (s : State) :
    Changes [.bst, .out] s (State.bstSuspended s) := by
  have h0 := Changes.refl [.bst, .out] s
  unfold State.bstSuspended
  repeat' (first
    | ((first | intro x | (lift_lets; intro x)); first | (guard_hyp x : State := _; have hx : Changes [.bst, .out] s x := (by unfold x; repeat' (first | with_reducible assumption | ((with_reducible apply Changes.step (State.serveHeld_changes ..)) <;> [rfl; skip]) | ((with_reducible apply Changes.step (State.setOp_changes ..)) <;> [rfl; skip]) | ((with_reducible apply Changes.foldl) <;> [(intro _ _ _); skip]) | split)); clear_value x) | clear_value x | skip)
    | with_reducible assumption | ((with_reducible apply Changes.step (State.serveHeld_changes ..)) <;> [rfl; skip]) | ((with_reducible apply Changes.step (State.setOp_changes ..)) <;> [rfl; skip]) | ((with_reducible apply Changes.foldl) <;> [(intro _ _ _); skip])
    | split)

theorem State.bstStop_changes (s : State) :
    Changes [.bst, .out, .free] s (State.bstStop s) := by
  have h0 := Changes.refl [.bst, .out, .free] s
  unfold State.bstStop
  repeat' (first | with_reducible assumption | ((with_reducible apply Changes.step (State.serveHeld_changes ..)) <;> [rfl; skip]) | ((with_reducible apply Changes.step (State.setBst_changes ..)) <;> [rfl; skip]) | ((with_reducible apply Changes.step (State.spoiled_changes ..)) <;> [rfl; skip]) | ((with_reducible apply Changes.foldl) <;> [(intro _ _ _); skip]) | split)

theorem State.suppSummary_changes (s : State) :
    Changes [.evr] s (State.suppSummary s) := by
  have h0 := Changes.refl [.evr] s
  unfold State.suppSummary
  repeat' (first
    | ((first | intro x | (lift_lets; intro x)); first | (guard_hyp x : State := _; have hx : Changes [.evr] s x := (by unfold x; repeat' (first | with_reducible assumption | ((conv => (arg 3; arg 24; skip)); ((with_reducible apply Changes.evr_with) <;> [rfl; skip])) | ((with_reducible apply Changes.step (State.logs_changes ..)) <;> [rfl; skip]) | ((with_reducible apply Changes.foldl) <;> [(intro _ _ _); skip]) | split)); clear_value x) | clear_value x | skip)
    | with_reducible assumption | ((conv => (arg 3; arg 24; skip)); ((with_reducible apply Changes.evr_with) <;> [rfl; skip])) | ((with_reducible apply Changes.step (State.logs_changes ..)) <;> [rfl; skip]) | ((with_reducible apply Changes.foldl) <;> [(intro _ _ _); skip])
    | split)

theorem State.clearStaging_changes (s : State) :
    Changes [.bst, .boot] s (State.clearStaging s) := by
  have h0 := Changes.refl [.bst, .boot] s
  unfold State.clearStaging
  repeat' (first | with_reducible assumption | ((conv => (arg 3; arg 24; skip)); ((with_reducible apply Changes.bst_boot_with) <;> [rfl; rfl; skip])) | ((with_reducible apply Changes.foldl) <;> [(intro _ _ _); skip]) | split)

theorem State.msg_changes (s : State) (p : Fin 2) (vec : Nat) :
    Changes [.out] s (State.msg s p vec) := by
  have h0 := Changes.refl [.out] s
  unfold State.msg
  repeat' (first | with_reducible assumption | ((with_reducible apply Changes.step (State.emit_changes ..)) <;> [rfl; skip]) | ((with_reducible apply Changes.foldl) <;> [(intro _ _ _); skip]) | split)

theorem State.setMbox_changes (s : State) (p : Fin 2) (f : Mailbox → Mailbox) :
    Changes [.dict] s (State.setMbox s p f) := by
  have h0 := Changes.refl [.dict] s
  unfold State.setMbox
  repeat' (first | with_reducible assumption | ((conv => (arg 3; arg 24; skip)); ((with_reducible apply Changes.dict_with) <;> [rfl; skip])) | ((with_reducible apply Changes.foldl) <;> [(intro _ _ _); skip]) | split)

theorem State.mboxEnd_changes (s : State) (p : Fin 2) (tag : BitVec 64) (st : Nat) (mark : Nat × Nat × Nat) (value : List Byte) :
    Changes [.dict, .out] s (State.mboxEnd s p tag st mark value) := by
  have h0 := Changes.refl [.dict, .out] s
  unfold State.mboxEnd
  repeat' (first
    | ((first | intro x | (lift_lets; intro x)); first | (guard_hyp x : State := _; have hx : Changes [.dict, .out] s x := (by unfold x; repeat' (first | with_reducible assumption | ((with_reducible apply Changes.step (State.msg_changes ..)) <;> [rfl; skip]) | ((with_reducible apply Changes.step (State.setMbox_changes ..)) <;> [rfl; skip]) | ((with_reducible apply Changes.foldl) <;> [(intro _ _ _); skip]) | split)); clear_value x) | clear_value x | skip)
    | with_reducible assumption | ((with_reducible apply Changes.step (State.msg_changes ..)) <;> [rfl; skip]) | ((with_reducible apply Changes.step (State.setMbox_changes ..)) <;> [rfl; skip]) | ((with_reducible apply Changes.foldl) <;> [(intro _ _ _); skip])
    | split)

theorem State.respond_changes (s : State) (v : Option (Fin 2)) (tag : BitVec 64) (st : Nat) (mark : Nat × Nat × Nat) (value : List Byte) :
    Changes [.dict, .out] s (State.respond s v tag st mark value) := by
  have h0 := Changes.refl [.dict, .out] s
  unfold State.respond
  repeat' (first | with_reducible assumption | ((with_reducible apply Changes.step (State.emit_changes ..)) <;> [rfl; skip]) | ((with_reducible apply Changes.step (State.mboxEnd_changes ..)) <;> [rfl; skip]) | ((with_reducible apply Changes.foldl) <;> [(intro _ _ _); skip]) | split)

theorem State.ack_changes (s : State) (w : WinWrite) (st : Nat) (index : Nat) (sub : Nat) :
    Changes [.dict, .out] s (State.ack s w st index sub) := by
  have h0 := Changes.refl [.dict, .out] s
  unfold State.ack
  repeat' (first | with_reducible assumption | ((with_reducible apply Changes.step (State.respond_changes ..)) <;> [rfl; skip]) | ((with_reducible apply Changes.foldl) <;> [(intro _ _ _); skip]) | split)

theorem State.allRdc_changes (s : State) (f : Rdc → Rdc) :
    Changes [.media] s (State.allRdc s f) := by
  have h0 := Changes.refl [.media] s
  unfold State.allRdc
  repeat' (first | with_reducible assumption | ((with_reducible apply Changes.step (State.setMedia_changes ..)) <;> [rfl; skip]) | ((with_reducible apply Changes.foldl) <;> [(intro _ _ _); skip]) | split)

theorem State.allFch_changes (s : State) (f : Fch → Fch) :
    Changes [.media] s (State.allFch s f) := by
  have h0 := Changes.refl [.media] s
  unfold State.allFch
  repeat' (first | with_reducible assumption | ((with_reducible apply Changes.step (State.setMedia_changes ..)) <;> [rfl; skip]) | ((with_reducible apply Changes.foldl) <;> [(intro _ _ _); skip]) | split)

theorem State.allArb_changes (s : State) (k : Nat) (f : ArbReq → ArbReq) :
    Changes [.dram] s (State.allArb s k f) := by
  have h0 := Changes.refl [.dram] s
  unfold State.allArb
  repeat' (first | with_reducible assumption | ((with_reducible apply Changes.step (State.setDram_changes ..)) <;> [rfl; skip]) | ((with_reducible apply Changes.foldl) <;> [(intro _ _ _); skip]) | split)

theorem State.setSpare_changes (s : State) (pct : Nat) :
    Changes [.evr, .media] s (State.setSpare s pct) := by
  have h0 := Changes.refl [.evr, .media] s
  unfold State.setSpare
  repeat' (first
    | ((first | intro x | (lift_lets; intro x)); first | (guard_hyp x : State := _; have hx : Changes [.evr, .media] s x := (by unfold x; repeat' (first | with_reducible assumption | ((with_reducible apply Changes.step (State.checkSpare_changes ..)) <;> [rfl; skip]) | ((with_reducible apply Changes.step (State.setMedia_changes ..)) <;> [rfl; skip]) | ((with_reducible apply Changes.foldl) <;> [(intro _ _ _); skip]) | split)); clear_value x) | clear_value x | skip)
    | with_reducible assumption | ((with_reducible apply Changes.step (State.checkSpare_changes ..)) <;> [rfl; skip]) | ((with_reducible apply Changes.step (State.setMedia_changes ..)) <;> [rfl; skip]) | ((with_reducible apply Changes.foldl) <;> [(intro _ _ _); skip])
    | split)

theorem State.pfailOverLocate_changes (s : State) :
    Changes [.evr] s (State.pfailOverLocate s) := by
  have h0 := Changes.refl [.evr] s
  unfold State.pfailOverLocate
  repeat' (first | with_reducible assumption | ((with_reducible apply Changes.step (State.log_changes ..)) <;> [rfl; skip]) | ((with_reducible apply Changes.foldl) <;> [(intro _ _ _); skip]) | split)

theorem State.runPounces_changes (s : State) :
    Changes [.evr, .media, .out] s (State.runPounces s) := by
  have h0 := Changes.refl [.evr, .media, .out] s
  unfold State.runPounces
  repeat' (first | with_reducible assumption | ((with_reducible apply Changes.step (State.startPounce_changes ..)) <;> [rfl; skip]) | ((with_reducible apply Changes.foldl) <;> [(intro _ _ _); skip]) | split)

theorem State.hostDirected_changes (s : State) :
    Changes [.evr, .cmq, .land, .media, .ports, .dram, .pws, .out] s (State.hostDirected s) := by
  have h0 := Changes.refl [.evr, .cmq, .land, .media, .ports, .dram, .pws, .out] s
  unfold State.hostDirected
  repeat' (first
    | ((first | intro x | (lift_lets; intro x)); first | (guard_hyp x : State := _; have hx : Changes [.evr, .cmq, .land, .media, .ports, .dram, .pws, .out] s x := (by unfold x; repeat' (first | with_reducible assumption | ((conv => (arg 3; arg 24; skip)); ((with_reducible apply Changes.cmq_with) <;> [rfl; skip])) | ((with_reducible apply Changes.step (State.abandonEntry_changes ..)) <;> [rfl; skip]) | ((with_reducible apply Changes.foldl) <;> [(intro _ _ _); skip]) | split)); clear_value x) | clear_value x | skip)
    | with_reducible assumption | ((conv => (arg 3; arg 24; skip)); ((with_reducible apply Changes.cmq_with) <;> [rfl; skip])) | ((with_reducible apply Changes.step (State.abandonEntry_changes ..)) <;> [rfl; skip]) | ((with_reducible apply Changes.foldl) <;> [(intro _ _ _); skip])
    | split)

theorem State.autonomous_changes (s : State) :
    Changes [.cmq] s (State.autonomous s) := by
  have h0 := Changes.refl [.cmq] s
  unfold State.autonomous
  repeat' (first
    | ((first | intro x | (lift_lets; intro x)); first | (guard_hyp x : State := _; have hx : Changes [.cmq] s x := (by unfold x; repeat' (first | with_reducible assumption | ((conv => (arg 3; arg 24; skip)); ((with_reducible apply Changes.cmq_with) <;> [rfl; skip])) | ((with_reducible apply Changes.foldl) <;> [(intro _ _ _); skip]) | split)); clear_value x) | clear_value x | skip)
    | with_reducible assumption | ((conv => (arg 3; arg 24; skip)); ((with_reducible apply Changes.cmq_with) <;> [rfl; skip])) | ((with_reducible apply Changes.foldl) <;> [(intro _ _ _); skip])
    | split)

theorem State.modeChanges_changes (s : State) (sub : Nat) (v : Nat) :
    Changes [.evr, .cmq, .land, .media, .ports, .dram, .pws, .out] s (State.modeChanges s sub v) := by
  have h0 := Changes.refl [.evr, .cmq, .land, .media, .ports, .dram, .pws, .out] s
  unfold State.modeChanges
  repeat' (first
    | ((first | intro x | (lift_lets; intro x)); first | (guard_hyp x : State := _; have hx : Changes [.evr, .cmq, .land, .media, .ports, .dram, .pws, .out] s x := (by unfold x; repeat' (first | with_reducible assumption | ((with_reducible apply Changes.step (State.autonomous_changes ..)) <;> [rfl; skip]) | ((with_reducible apply Changes.step (State.hostDirected_changes ..)) <;> [rfl; skip]) | ((with_reducible apply Changes.step (State.pickVictim_changes ..)) <;> [rfl; skip]) | ((with_reducible apply Changes.step (State.runPounces_changes ..)) <;> [rfl; skip]) | ((with_reducible apply Changes.step (State.setDram_changes ..)) <;> [rfl; skip]) | ((with_reducible apply Changes.step (State.setMedia_changes ..)) <;> [rfl; skip]) | ((with_reducible apply Changes.foldl) <;> [(intro _ _ _); skip]) | split)); clear_value x) | clear_value x | skip)
    | with_reducible assumption | ((with_reducible apply Changes.step (State.autonomous_changes ..)) <;> [rfl; skip]) | ((with_reducible apply Changes.step (State.hostDirected_changes ..)) <;> [rfl; skip]) | ((with_reducible apply Changes.step (State.pickVictim_changes ..)) <;> [rfl; skip]) | ((with_reducible apply Changes.step (State.runPounces_changes ..)) <;> [rfl; skip]) | ((with_reducible apply Changes.step (State.setDram_changes ..)) <;> [rfl; skip]) | ((with_reducible apply Changes.step (State.setMedia_changes ..)) <;> [rfl; skip]) | ((with_reducible apply Changes.foldl) <;> [(intro _ _ _); skip])
    | split)

theorem State.applyEntry_changes (s : State) (index : Nat) (sub : Nat) (old : Nat) :
    Changes [.evr, .cmq, .land, .media, .plp, .ports, .dram, .sdm, .bst, .pws, .out, .free] s (State.applyEntry s index sub old) := by
  have h0 := Changes.refl [.evr, .cmq, .land, .media, .plp, .ports, .dram, .sdm, .bst, .pws, .out, .free] s
  unfold State.applyEntry
  repeat' (first
    | ((first | intro x | (lift_lets; intro x)); first | (guard_hyp x : State := _; have hx : Changes [.evr, .cmq, .land, .media, .plp, .ports, .dram, .sdm, .bst, .pws, .out, .free] s x := (by unfold x; repeat' (first | with_reducible assumption | ((with_reducible apply Changes.step (State.allArb_changes ..)) <;> [rfl; skip]) | ((with_reducible apply Changes.step (State.allFch_changes ..)) <;> [rfl; skip]) | ((with_reducible apply Changes.step (State.allRdc_changes ..)) <;> [rfl; skip]) | ((with_reducible apply Changes.step (State.holdShares_changes ..)) <;> [rfl; skip]) | ((with_reducible apply Changes.step (State.modeChanges_changes ..)) <;> [rfl; skip]) | ((with_reducible apply Changes.step (State.pfailOverLocate_changes ..)) <;> [rfl; skip]) | ((with_reducible apply Changes.step (State.pickVictim_changes ..)) <;> [rfl; skip]) | ((with_reducible apply Changes.step (State.postHeld_changes ..)) <;> [rfl; skip]) | ((with_reducible apply Changes.step (State.recompute_changes ..)) <;> [rfl; skip]) | ((with_reducible apply Changes.step (State.resumeAll_changes ..)) <;> [rfl; skip]) | ((with_reducible apply Changes.step (State.setBst_changes ..)) <;> [rfl; skip]) | ((with_reducible apply Changes.step (State.setPlp_changes ..)) <;> [rfl; skip]) | ((with_reducible apply Changes.step (State.setSpare_changes ..)) <;> [rfl; skip]) | ((with_reducible apply Changes.step (State.tryReady_changes ..)) <;> [rfl; skip]) | ((with_reducible apply Changes.foldl) <;> [(intro _ _ _); skip]) | split)); clear_value x) | clear_value x | skip)
    | with_reducible assumption | ((with_reducible apply Changes.step (State.allArb_changes ..)) <;> [rfl; skip]) | ((with_reducible apply Changes.step (State.allFch_changes ..)) <;> [rfl; skip]) | ((with_reducible apply Changes.step (State.allRdc_changes ..)) <;> [rfl; skip]) | ((with_reducible apply Changes.step (State.holdShares_changes ..)) <;> [rfl; skip]) | ((with_reducible apply Changes.step (State.modeChanges_changes ..)) <;> [rfl; skip]) | ((with_reducible apply Changes.step (State.pfailOverLocate_changes ..)) <;> [rfl; skip]) | ((with_reducible apply Changes.step (State.pickVictim_changes ..)) <;> [rfl; skip]) | ((with_reducible apply Changes.step (State.postHeld_changes ..)) <;> [rfl; skip]) | ((with_reducible apply Changes.step (State.recompute_changes ..)) <;> [rfl; skip]) | ((with_reducible apply Changes.step (State.resumeAll_changes ..)) <;> [rfl; skip]) | ((with_reducible apply Changes.step (State.setBst_changes ..)) <;> [rfl; skip]) | ((with_reducible apply Changes.step (State.setPlp_changes ..)) <;> [rfl; skip]) | ((with_reducible apply Changes.step (State.setSpare_changes ..)) <;> [rfl; skip]) | ((with_reducible apply Changes.step (State.tryReady_changes ..)) <;> [rfl; skip]) | ((with_reducible apply Changes.foldl) <;> [(intro _ _ _); skip])
    | split)

theorem State.putEntry_changes (s : State) (index : Nat) (sub : Nat) (writer : Nat) (value : List Byte) :
    Changes [.evr, .cmq, .land, .media, .plp, .ports, .dram, .sdm, .bst, .pws, .dict, .out, .free] s (State.putEntry s index sub writer value) := by
  have h0 := Changes.refl [.evr, .cmq, .land, .media, .plp, .ports, .dram, .sdm, .bst, .pws, .dict, .out, .free] s
  unfold State.putEntry
  repeat' (first
    | ((first | intro x | (lift_lets; intro x)); first | (guard_hyp x : State := _; have hx : Changes [.evr, .cmq, .land, .media, .plp, .ports, .dram, .sdm, .bst, .pws, .dict, .out, .free] s x := (by unfold x; repeat' (first | with_reducible assumption | ((conv => (arg 3; arg 24; skip)); ((with_reducible apply Changes.dict_with) <;> [rfl; skip])) | ((with_reducible apply Changes.step (State.applyEntry_changes ..)) <;> [rfl; skip]) | ((with_reducible apply Changes.foldl) <;> [(intro _ _ _); skip]) | split)); clear_value x) | clear_value x | skip)
    | with_reducible assumption | ((conv => (arg 3; arg 24; skip)); ((with_reducible apply Changes.dict_with) <;> [rfl; skip])) | ((with_reducible apply Changes.step (State.applyEntry_changes ..)) <;> [rfl; skip]) | ((with_reducible apply Changes.foldl) <;> [(intro _ _ _); skip])
    | split)

theorem State.defaultsApply_changes (s : State) (writer : Nat) :
    Changes [.evr, .cmq, .land, .media, .plp, .ports, .dram, .sdm, .bst, .pws, .dict, .out, .free] s (State.defaultsApply s writer) := by
  have h0 := Changes.refl [.evr, .cmq, .land, .media, .plp, .ports, .dram, .sdm, .bst, .pws, .dict, .out, .free] s
  unfold State.defaultsApply
  repeat' (first
    | ((first | intro x | (lift_lets; intro x)); first | (guard_hyp x : State := _; have hx : Changes [.evr, .cmq, .land, .media, .plp, .ports, .dram, .sdm, .bst, .pws, .dict, .out, .free] s x := (by unfold x; repeat' (first | with_reducible assumption | ((with_reducible apply Changes.step (State.putEntry_changes ..)) <;> [rfl; skip]) | ((with_reducible apply Changes.foldl) <;> [(intro _ _ _); skip]) | split)); clear_value x) | clear_value x | skip)
    | with_reducible assumption | ((with_reducible apply Changes.step (State.putEntry_changes ..)) <;> [rfl; skip]) | ((with_reducible apply Changes.foldl) <;> [(intro _ _ _); skip])
    | split)

theorem State.actWo_changes (s : State) (writer : Nat) (index : Nat) (sub : Nat) (v : Nat) :
    Changes [.evr, .cmq, .land, .media, .plp, .ports, .dram, .sdm, .bst, .boot, .pws, .dict, .out, .free] s (State.actWo s writer index sub v) := by
  have h0 := Changes.refl [.evr, .cmq, .land, .media, .plp, .ports, .dram, .sdm, .bst, .boot, .pws, .dict, .out, .free] s
  unfold State.actWo
  repeat' (first | with_reducible assumption | ((with_reducible apply Changes.step (State.clearStaging_changes ..)) <;> [rfl; skip]) | ((with_reducible apply Changes.step (State.contain_changes ..)) <;> [rfl; skip]) | ((with_reducible apply Changes.step (State.defaultsApply_changes ..)) <;> [rfl; skip]) | ((with_reducible apply Changes.step (State.pickVictim_changes ..)) <;> [rfl; skip]) | ((with_reducible apply Changes.step (State.runPounces_changes ..)) <;> [rfl; skip]) | ((with_reducible apply Changes.step (State.setMedia_changes ..)) <;> [rfl; skip]) | ((with_reducible apply Changes.step (State.setPlp_changes ..)) <;> [rfl; skip]) | ((with_reducible apply Changes.step (State.tryTest_changes ..)) <;> [rfl; skip]) | ((with_reducible apply Changes.step (State.wantCycle_changes ..)) <;> [rfl; skip]) | ((with_reducible apply Changes.step (State.wantFull_changes ..)) <;> [rfl; skip]) | ((with_reducible apply Changes.foldl) <;> [(intro _ _ _); skip]) | split)

theorem State.ringPut_changes (s : State) (p : Fin 2) (n : Ntf) :
    Changes [.dict, .out] s (State.ringPut s p n) := by
  have h0 := Changes.refl [.dict, .out] s
  unfold State.ringPut
  repeat' (first
    | ((first | intro x | (lift_lets; intro x)); first | (guard_hyp x : State := _; have hx : Changes [.dict, .out] s x := (by unfold x; repeat' (first | with_reducible assumption | ((with_reducible apply Changes.step (State.msg_changes ..)) <;> [rfl; skip]) | ((with_reducible apply Changes.step (State.setMbox_changes ..)) <;> [rfl; skip]) | ((with_reducible apply Changes.foldl) <;> [(intro _ _ _); skip]) | split)); clear_value x) | clear_value x | skip)
    | with_reducible assumption | ((with_reducible apply Changes.step (State.msg_changes ..)) <;> [rfl; skip]) | ((with_reducible apply Changes.step (State.setMbox_changes ..)) <;> [rfl; skip]) | ((with_reducible apply Changes.foldl) <;> [(intro _ _ _); skip])
    | split)

theorem State.busRingPut_changes (s : State) (n : Ntf) :
    Changes [.dict, .out] s (State.busRingPut s n) := by
  have h0 := Changes.refl [.dict, .out] s
  unfold State.busRingPut
  repeat' (first
    | ((first | intro x | (lift_lets; intro x)); first | (guard_hyp x : State := _; have hx : Changes [.dict, .out] s x := (by unfold x; repeat' (first | with_reducible assumption | ((conv => (arg 3; arg 24; skip)); ((with_reducible apply Changes.dict_with) <;> [rfl; skip])) | ((with_reducible apply Changes.step (State.emit_changes ..)) <;> [rfl; skip]) | ((with_reducible apply Changes.foldl) <;> [(intro _ _ _); skip]) | split)); clear_value x) | clear_value x | skip)
    | with_reducible assumption | ((conv => (arg 3; arg 24; skip)); ((with_reducible apply Changes.dict_with) <;> [rfl; skip])) | ((with_reducible apply Changes.step (State.emit_changes ..)) <;> [rfl; skip]) | ((with_reducible apply Changes.foldl) <;> [(intro _ _ _); skip])
    | split)

theorem State.overridden_changes (s : State) (index : Nat) (sub : Nat) (winner : Byte) (w : WinWrite) :
    Changes [.evr, .dict, .out] s (State.overridden s index sub winner w) := by
  have h0 := Changes.refl [.evr, .dict, .out] s
  unfold State.overridden
  repeat' (first
    | ((first | intro x | (lift_lets; intro x)); first | (guard_hyp x : State := _; have hx : Changes [.evr, .dict, .out] s x := (by unfold x; repeat' (first | with_reducible assumption | ((conv => (arg 3; arg 24; skip)); ((with_reducible apply Changes.dict_with) <;> [rfl; skip])) | ((with_reducible apply Changes.step (State.ack_changes ..)) <;> [rfl; skip]) | ((with_reducible apply Changes.step (State.busRingPut_changes ..)) <;> [rfl; skip]) | ((with_reducible apply Changes.step (State.log_changes ..)) <;> [rfl; skip]) | ((with_reducible apply Changes.step (State.ringPut_changes ..)) <;> [rfl; skip]) | ((with_reducible apply Changes.foldl) <;> [(intro _ _ _); skip]) | split)); clear_value x) | clear_value x | skip)
    | with_reducible assumption | ((conv => (arg 3; arg 24; skip)); ((with_reducible apply Changes.dict_with) <;> [rfl; skip])) | ((with_reducible apply Changes.step (State.ack_changes ..)) <;> [rfl; skip]) | ((with_reducible apply Changes.step (State.busRingPut_changes ..)) <;> [rfl; skip]) | ((with_reducible apply Changes.step (State.log_changes ..)) <;> [rfl; skip]) | ((with_reducible apply Changes.step (State.ringPut_changes ..)) <;> [rfl; skip]) | ((with_reducible apply Changes.foldl) <;> [(intro _ _ _); skip])
    | split)

theorem State.closeWindow_changes (s : State) (index : Nat) (sub : Nat) :
    Changes [.evr, .cmq, .land, .media, .plp, .ports, .dram, .sdm, .bst, .pws, .dict, .out, .free] s (State.closeWindow s index sub) := by
  have h0 := Changes.refl [.evr, .cmq, .land, .media, .plp, .ports, .dram, .sdm, .bst, .pws, .dict, .out, .free] s
  unfold State.closeWindow
  dsimp only
  repeat' (first | with_reducible assumption | ((conv => (arg 3; arg 24; skip)); ((with_reducible apply Changes.dict_with) <;> [rfl; skip])) | ((with_reducible apply Changes.step (State.ack_changes ..)) <;> [rfl; skip]) | ((with_reducible apply Changes.step (State.overridden_changes ..)) <;> [rfl; skip]) | ((with_reducible apply Changes.step (State.putEntry_changes ..)) <;> [rfl; skip]) | ((with_reducible apply Changes.foldl) <;> [(intro _ _ _); skip]) | split)

theorem State.commitWrite_changes (s : State) (d : Desc64) (index : Nat) (sub : Nat) (w : WinWrite) :
    Changes [.evr, .cmq, .land, .media, .plp, .ports, .dram, .sdm, .bst, .boot, .pws, .dict, .out, .free] s (State.commitWrite s d index sub w) := by
  have h0 := Changes.refl [.evr, .cmq, .land, .media, .plp, .ports, .dram, .sdm, .bst, .boot, .pws, .dict, .out, .free] s
  unfold State.commitWrite
  repeat' (first
    | ((first | intro x | (lift_lets; intro x)); first | (guard_hyp x : State := _; have hx : Changes [.evr, .cmq, .land, .media, .plp, .ports, .dram, .sdm, .bst, .boot, .pws, .dict, .out, .free] s x := (by unfold x; repeat' (first | with_reducible assumption | ((conv => (arg 3; arg 24; skip)); ((with_reducible apply Changes.dict_with) <;> [rfl; skip])) | ((with_reducible apply Changes.step (State.ack_changes ..)) <;> [rfl; skip]) | ((with_reducible apply Changes.step (State.actWo_changes ..)) <;> [rfl; skip]) | ((with_reducible apply Changes.step (State.setMbox_changes ..)) <;> [rfl; skip]) | ((with_reducible apply Changes.foldl) <;> [(intro _ _ _); skip]) | split)); clear_value x) | clear_value x | skip)
    | with_reducible assumption | ((conv => (arg 3; arg 24; skip)); ((with_reducible apply Changes.dict_with) <;> [rfl; skip])) | ((with_reducible apply Changes.step (State.ack_changes ..)) <;> [rfl; skip]) | ((with_reducible apply Changes.step (State.actWo_changes ..)) <;> [rfl; skip]) | ((with_reducible apply Changes.step (State.setMbox_changes ..)) <;> [rfl; skip]) | ((with_reducible apply Changes.foldl) <;> [(intro _ _ _); skip])
    | split)

theorem State.doRead_changes (s : State) (v : Option (Fin 2)) (r : DictReq) :
    Changes [.dict, .out] s (State.doRead s v r) := by
  have h0 := Changes.refl [.dict, .out] s
  unfold State.doRead
  repeat' (first
    | ((first | intro x | (lift_lets; intro x)); first | (guard_hyp x : State := _; have hx : Changes [.dict, .out] s x := (by unfold x; repeat' (first | with_reducible assumption | ((conv => (arg 3; arg 24; skip)); ((with_reducible apply Changes.dict_with) <;> [rfl; skip])) | ((with_reducible apply Changes.step (State.respond_changes ..)) <;> [rfl; skip]) | ((with_reducible apply Changes.foldl) <;> [(intro _ _ _); skip]) | split)); clear_value x) | clear_value x | skip)
    | with_reducible assumption | ((conv => (arg 3; arg 24; skip)); ((with_reducible apply Changes.dict_with) <;> [rfl; skip])) | ((with_reducible apply Changes.step (State.respond_changes ..)) <;> [rfl; skip]) | ((with_reducible apply Changes.foldl) <;> [(intro _ _ _); skip])
    | split)

theorem State.doDescribe_changes (s : State) (v : Option (Fin 2)) (r : DictReq) :
    Changes [.dict, .out] s (State.doDescribe s v r) := by
  have h0 := Changes.refl [.dict, .out] s
  unfold State.doDescribe
  repeat' (first | with_reducible assumption | ((with_reducible apply Changes.step (State.emit_changes ..)) <;> [rfl; skip]) | ((with_reducible apply Changes.step (State.respond_changes ..)) <;> [rfl; skip]) | ((with_reducible apply Changes.foldl) <;> [(intro _ _ _); skip]) | split)

theorem State.doWrite_changes (s : State) (v : Option (Fin 2)) (r : DictReq) :
    Changes [.evr, .cmq, .land, .media, .plp, .ports, .dram, .sdm, .bst, .boot, .pws, .dict, .out, .free] s (State.doWrite s v r) := by
  have h0 := Changes.refl [.evr, .cmq, .land, .media, .plp, .ports, .dram, .sdm, .bst, .boot, .pws, .dict, .out, .free] s
  unfold State.doWrite
  repeat' (first | with_reducible assumption | ((with_reducible apply Changes.step (State.commitWrite_changes ..)) <;> [rfl; skip]) | ((with_reducible apply Changes.step (State.respond_changes ..)) <;> [rfl; skip]) | ((with_reducible apply Changes.foldl) <;> [(intro _ _ _); skip]) | split)

theorem State.handle_changes (s : State) (v : Option (Fin 2)) (op : Nat) (r : DictReq) :
    Changes [.evr, .cmq, .land, .media, .plp, .ports, .dram, .sdm, .bst, .boot, .pws, .dict, .out, .free] s (State.handle s v op r) := by
  have h0 := Changes.refl [.evr, .cmq, .land, .media, .plp, .ports, .dram, .sdm, .bst, .boot, .pws, .dict, .out, .free] s
  unfold State.handle
  repeat' (first | with_reducible assumption | ((with_reducible apply Changes.step (State.doDescribe_changes ..)) <;> [rfl; skip]) | ((with_reducible apply Changes.step (State.doRead_changes ..)) <;> [rfl; skip]) | ((with_reducible apply Changes.step (State.doWrite_changes ..)) <;> [rfl; skip]) | ((with_reducible apply Changes.step (State.respond_changes ..)) <;> [rfl; skip]) | ((with_reducible apply Changes.foldl) <;> [(intro _ _ _); skip]) | split)

theorem State.holdReq_changes (s : State) (v : Option (Fin 2)) (op : Nat) (r : DictReq) :
    Changes [.dict] s (State.holdReq s v op r) := by
  have h0 := Changes.refl [.dict] s
  unfold State.holdReq
  repeat' (first | with_reducible assumption | ((conv => (arg 3; arg 24; skip)); ((with_reducible apply Changes.dict_with) <;> [rfl; skip])) | ((with_reducible apply Changes.foldl) <;> [(intro _ _ _); skip]) | split)

theorem State.mailbox_changes (s : State) (p : Fin 2) (op : Nat) (r : DictReq) :
    Changes [.evr, .cmq, .land, .media, .plp, .ports, .dram, .sdm, .bst, .boot, .pws, .dict, .out, .free] s (State.mailbox s p op r) := by
  have h0 := Changes.refl [.evr, .cmq, .land, .media, .plp, .ports, .dram, .sdm, .bst, .boot, .pws, .dict, .out, .free] s
  unfold State.mailbox
  repeat' (first | with_reducible assumption | ((with_reducible apply Changes.step (State.emit_changes ..)) <;> [rfl; skip]) | ((with_reducible apply Changes.step (State.handle_changes ..)) <;> [rfl; skip]) | ((with_reducible apply Changes.step (State.holdReq_changes ..)) <;> [rfl; skip]) | ((with_reducible apply Changes.step (State.setMbox_changes ..)) <;> [rfl; skip]) | ((with_reducible apply Changes.foldl) <;> [(intro _ _ _); skip]) | split)

theorem State.auxAnswer_changes (s : State) (op : Nat) (r : DictReq) :
    Changes [.dict, .out] s (State.auxAnswer s op r) := by
  have h0 := Changes.refl [.dict, .out] s
  unfold State.auxAnswer
  repeat' (first | with_reducible assumption | ((with_reducible apply Changes.step (State.doRead_changes ..)) <;> [rfl; skip]) | ((with_reducible apply Changes.step (State.respond_changes ..)) <;> [rfl; skip]) | ((with_reducible apply Changes.foldl) <;> [(intro _ _ _); skip]) | split)

theorem State.busRequest_changes (s : State) (op : Nat) (r : DictReq) :
    Changes [.evr, .cmq, .land, .media, .plp, .ports, .dram, .sdm, .bst, .boot, .pws, .dict, .out, .free] s (State.busRequest s op r) := by
  have h0 := Changes.refl [.evr, .cmq, .land, .media, .plp, .ports, .dram, .sdm, .bst, .boot, .pws, .dict, .out, .free] s
  unfold State.busRequest
  repeat' (first | with_reducible assumption | ((with_reducible apply Changes.step (State.auxAnswer_changes ..)) <;> [rfl; skip]) | ((with_reducible apply Changes.step (State.handle_changes ..)) <;> [rfl; skip]) | ((with_reducible apply Changes.step (State.holdReq_changes ..)) <;> [rfl; skip]) | ((with_reducible apply Changes.foldl) <;> [(intro _ _ _); skip]) | split)

theorem State.request_changes (s : State) (v : Option (Fin 2)) (op : Nat) (r : DictReq) :
    Changes [.evr, .cmq, .land, .media, .plp, .ports, .dram, .sdm, .bst, .boot, .pws, .dict, .out, .free] s (State.request s v op r) := by
  have h0 := Changes.refl [.evr, .cmq, .land, .media, .plp, .ports, .dram, .sdm, .bst, .boot, .pws, .dict, .out, .free] s
  unfold State.request
  repeat' (first | with_reducible assumption | ((with_reducible apply Changes.step (State.busRequest_changes ..)) <;> [rfl; skip]) | ((with_reducible apply Changes.step (State.mailbox_changes ..)) <;> [rfl; skip]) | ((with_reducible apply Changes.foldl) <;> [(intro _ _ _); skip]) | split)

theorem State.serveDict_changes (s : State) :
    Changes [.evr, .cmq, .land, .media, .plp, .ports, .dram, .sdm, .bst, .boot, .pws, .dict, .out, .free] s (State.serveDict s) := by
  have h0 := Changes.refl [.evr, .cmq, .land, .media, .plp, .ports, .dram, .sdm, .bst, .boot, .pws, .dict, .out, .free] s
  unfold State.serveDict
  repeat' (first
    | ((first | intro x | (lift_lets; intro x)); first | (guard_hyp x : State := _; have hx : Changes [.evr, .cmq, .land, .media, .plp, .ports, .dram, .sdm, .bst, .boot, .pws, .dict, .out, .free] s x := (by unfold x; repeat' (first | with_reducible assumption | ((conv => (arg 3; arg 24; skip)); ((with_reducible apply Changes.dict_with) <;> [rfl; skip])) | ((with_reducible apply Changes.step (State.handle_changes ..)) <;> [rfl; skip]) | ((with_reducible apply Changes.step (State.holdReq_changes ..)) <;> [rfl; skip]) | ((with_reducible apply Changes.step (State.setMbox_changes ..)) <;> [rfl; skip]) | ((with_reducible apply Changes.foldl) <;> [(intro _ _ _); skip]) | split)); clear_value x) | clear_value x | skip)
    | with_reducible assumption | ((conv => (arg 3; arg 24; skip)); ((with_reducible apply Changes.dict_with) <;> [rfl; skip])) | ((with_reducible apply Changes.step (State.handle_changes ..)) <;> [rfl; skip]) | ((with_reducible apply Changes.step (State.holdReq_changes ..)) <;> [rfl; skip]) | ((with_reducible apply Changes.step (State.setMbox_changes ..)) <;> [rfl; skip]) | ((with_reducible apply Changes.foldl) <;> [(intro _ _ _); skip])
    | split)

theorem State.woWrite_changes (s : State) (v : Option (Fin 2)) (index : BitVec 16) (sub : Byte) (size : Nat) (x : Nat) :
    Changes [.evr, .cmq, .land, .media, .plp, .ports, .dram, .sdm, .bst, .boot, .pws, .dict, .out, .free] s (State.woWrite s v index sub size x) := by
  have h0 := Changes.refl [.evr, .cmq, .land, .media, .plp, .ports, .dram, .sdm, .bst, .boot, .pws, .dict, .out, .free] s
  unfold State.woWrite
  repeat' (first | with_reducible assumption | ((with_reducible apply Changes.step (State.request_changes ..)) <;> [rfl; skip]) | ((with_reducible apply Changes.foldl) <;> [(intro _ _ _); skip]) | split)

theorem State.onVia_changes {ps : List Part} (s : State) (v : Via) (opc : Nat) (f : State → State) (s0 : State) (h : ∀ y0, Changes ps s0 y0 → Changes ps s0 (f y0)) (k : Changes ps s0 s) : Changes ps s0 (State.onVia s v opc f) := by
  unfold State.onVia
  repeat' (first | with_reducible assumption | fail | ((with_reducible apply h)) | ((with_reducible apply State.onAdmin_changes) <;> [(intro _ _ _); skip]) | intro x | split)

theorem State.viaEnd_changes (s : State) (v : Via) (bytes : List Byte) :
    Changes [.cmq, .land, .media, .ports, .out] s (State.viaEnd s v bytes) := by
  have h0 := Changes.refl [.cmq, .land, .media, .ports, .out] s
  unfold State.viaEnd
  repeat' (first | with_reducible assumption | ((with_reducible apply Changes.step (State.complete_changes ..)) <;> [rfl; skip]) | ((with_reducible apply Changes.step (State.emit_changes ..)) <;> [rfl; skip]) | ((with_reducible apply Changes.foldl) <;> [(intro _ _ _); skip]) | split)

theorem State.setResult_changes (s : State) (r : Nat) :
    Changes [.sec] s (State.setResult s r) := by
  have h0 := Changes.refl [.sec] s
  unfold State.setResult
  repeat' (first | with_reducible assumption | ((with_reducible apply Changes.step (State.setSec_changes ..)) <;> [rfl; skip]) | ((with_reducible apply Changes.foldl) <;> [(intro _ _ _); skip]) | split)

theorem State.ownerCmd_changes {ps : List Part} (s : State) (v : Via) (opcode : Nat) (c : OwnerCmd) (badParam : Bool) (act : State → State) (s0 : State) (h : ∀ y0, Changes ps s0 y0 → Changes ps s0 (act y0)) (hc : covers [.evr, .cmq, .land, .media, .ports, .vault, .sec, .out] ps = true) (k : Changes ps s0 s) : Changes ps s0 (State.ownerCmd s v opcode c badParam act) := by
  unfold State.ownerCmd
  repeat' (first | with_reducible assumption | ((conv => (arg 3; arg 24; skip)); ((with_reducible apply Changes.vault_with) <;> [(exact covers_mem rfl hc); skip])) | ((with_reducible apply h)) | ((with_reducible apply Changes.step (State.log_changes ..)) <;> [(refine covers_trans (by rfl) hc); skip]) | ((with_reducible apply State.onVia_changes) <;> [(intro _ _); skip]) | ((with_reducible apply Changes.step (State.setResult_changes ..)) <;> [(refine covers_trans (by rfl) hc); skip]) | ((with_reducible apply Changes.step (State.setSec_changes ..)) <;> [(refine covers_trans (by rfl) hc); skip]) | ((with_reducible apply Changes.step (State.viaEnd_changes ..)) <;> [(refine covers_trans (by rfl) hc); skip]) | intro x | split)

theorem State.awaitPresence_changes (s : State) (opcode : Nat) (param : List Byte) :
    Changes [.sec] s (State.awaitPresence s opcode param) := by
  have h0 := Changes.refl [.sec] s
  unfold State.awaitPresence
  repeat' (first
    | ((first | intro x | (lift_lets; intro x)); first | (guard_hyp x : State := _; have hx : Changes [.sec] s x := (by unfold x; repeat' (first | with_reducible assumption | ((with_reducible apply Changes.step (State.setResult_changes ..)) <;> [rfl; skip]) | ((with_reducible apply Changes.step (State.setSec_changes ..)) <;> [rfl; skip]) | ((with_reducible apply Changes.foldl) <;> [(intro _ _ _); skip]) | split)); clear_value x) | clear_value x | skip)
    | with_reducible assumption | ((with_reducible apply Changes.step (State.setResult_changes ..)) <;> [rfl; skip]) | ((with_reducible apply Changes.step (State.setSec_changes ..)) <;> [rfl; skip]) | ((with_reducible apply Changes.foldl) <;> [(intro _ _ _); skip])
    | split)

theorem State.keyEvent_changes (s : State) (opcode : Nat) :
    Changes [.evr] s (State.keyEvent s opcode) := by
  have h0 := Changes.refl [.evr] s
  unfold State.keyEvent
  repeat' (first | with_reducible assumption | ((with_reducible apply Changes.step (State.log_changes ..)) <;> [rfl; skip]) | ((with_reducible apply Changes.foldl) <;> [(intro _ _ _); skip]) | split)

theorem State.presenceAct_changes (s : State) (w : OwnerWait) :
    Changes [.evr, .sec] s (State.presenceAct s w) := by
  have h0 := Changes.refl [.evr, .sec] s
  unfold State.presenceAct
  repeat' (first
    | ((first | intro x | (lift_lets; intro x)); first | (guard_hyp x : State := _; have hx : Changes [.evr, .sec] s x := (by unfold x; repeat' (first | with_reducible assumption | ((with_reducible apply Changes.step (State.keyEvent_changes ..)) <;> [rfl; skip]) | ((with_reducible apply Changes.step (State.log_changes ..)) <;> [rfl; skip]) | ((with_reducible apply Changes.step (State.setSec_changes ..)) <;> [rfl; skip]) | ((with_reducible apply Changes.foldl) <;> [(intro _ _ _); skip]) | split)); clear_value x) | clear_value x | skip)
    | with_reducible assumption | ((with_reducible apply Changes.step (State.keyEvent_changes ..)) <;> [rfl; skip]) | ((with_reducible apply Changes.step (State.log_changes ..)) <;> [rfl; skip]) | ((with_reducible apply Changes.step (State.setSec_changes ..)) <;> [rfl; skip]) | ((with_reducible apply Changes.foldl) <;> [(intro _ _ _); skip])
    | split)

theorem State.setBoot_changes (s : State) (f : Boot → Boot) :
    Changes [.boot] s (State.setBoot s f) := by
  have h0 := Changes.refl [.boot] s
  unfold State.setBoot
  repeat' (first | with_reducible assumption | ((conv => (arg 3; arg 24; skip)); ((with_reducible apply Changes.boot_with) <;> [rfl; skip])) | ((with_reducible apply Changes.foldl) <;> [(intro _ _ _); skip]) | split)

theorem State.noteRefusal_changes (s : State) (src : Nat) (opc : Nat) (st : Status) :
    Changes [.evr, .boot] s (State.noteRefusal s src opc st) := by
  have h0 := Changes.refl [.evr, .boot] s
  unfold State.noteRefusal
  repeat' (first
    | ((first | intro x | (lift_lets; intro x)); first | (guard_hyp x : State := _; have hx : Changes [.evr, .boot] s x := (by unfold x; repeat' (first | with_reducible assumption | ((with_reducible apply Changes.step (State.log_changes ..)) <;> [rfl; skip]) | ((with_reducible apply Changes.step (State.setBoot_changes ..)) <;> [rfl; skip]) | ((with_reducible apply Changes.foldl) <;> [(intro _ _ _); skip]) | split)); clear_value x) | clear_value x | skip)
    | with_reducible assumption | ((with_reducible apply Changes.step (State.log_changes ..)) <;> [rfl; skip]) | ((with_reducible apply Changes.step (State.setBoot_changes ..)) <;> [rfl; skip]) | ((with_reducible apply Changes.foldl) <;> [(intro _ _ _); skip])
    | split)

theorem State.download_changes (s : State) (c : Cmd) (fseq : Nat) (ofst : Nat) (bytes : List Byte) :
    Changes [.evr, .cmq, .land, .media, .ports, .boot, .out] s (State.download s c fseq ofst bytes) := by
  have h0 := Changes.refl [.evr, .cmq, .land, .media, .ports, .boot, .out] s
  unfold State.download
  repeat' (first
    | ((first | intro x | (lift_lets; intro x)); first | (guard_hyp x : State := _; have hx : Changes [.evr, .cmq, .land, .media, .ports, .boot, .out] s x := (by unfold x; repeat' (first | with_reducible assumption | ((with_reducible apply Changes.step (State.complete_changes ..)) <;> [rfl; skip]) | ((with_reducible apply Changes.step (State.log_changes ..)) <;> [rfl; skip]) | ((with_reducible apply Changes.step (State.noteRefusal_changes ..)) <;> [rfl; skip]) | ((with_reducible apply Changes.step (State.setBoot_changes ..)) <;> [rfl; skip]) | ((with_reducible apply Changes.step (State.setCmd_changes ..)) <;> [rfl; skip]) | ((with_reducible apply Changes.foldl) <;> [(intro _ _ _); skip]) | split)); clear_value x) | clear_value x | skip)
    | with_reducible assumption | ((with_reducible apply Changes.step (State.complete_changes ..)) <;> [rfl; skip]) | ((with_reducible apply Changes.step (State.log_changes ..)) <;> [rfl; skip]) | ((with_reducible apply Changes.step (State.noteRefusal_changes ..)) <;> [rfl; skip]) | ((with_reducible apply Changes.step (State.setBoot_changes ..)) <;> [rfl; skip]) | ((with_reducible apply Changes.step (State.setCmd_changes ..)) <;> [rfl; skip]) | ((with_reducible apply Changes.foldl) <;> [(intro _ _ _); skip])
    | split)

theorem State.stagePiece_changes (s : State) (ofst : Nat) (bytes : List Byte) :
    Changes [.bst, .boot] s (State.stagePiece s ofst bytes) := by
  have h0 := Changes.refl [.bst, .boot] s
  unfold State.stagePiece
  repeat' (first
    | ((first | intro x | (lift_lets; intro x)); first | (guard_hyp x : State := _; have hx : Changes [.bst, .boot] s x := (by unfold x; repeat' (first | with_reducible assumption | ((conv => (arg 3; arg 24; skip)); ((with_reducible apply Changes.bst_boot_with) <;> [rfl; rfl; skip])) | ((with_reducible apply Changes.foldl) <;> [(intro _ _ _); skip]) | split)); clear_value x) | clear_value x | skip)
    | with_reducible assumption | ((conv => (arg 3; arg 24; skip)); ((with_reducible apply Changes.bst_boot_with) <;> [rfl; rfl; skip])) | ((with_reducible apply Changes.foldl) <;> [(intro _ _ _); skip])
    | split)

theorem State.pieceDone_changes (s : State) (fseq : Nat) (ok : Bool) :
    Changes [.evr, .cmq, .land, .media, .ports, .bst, .boot, .out, .free] s (State.pieceDone s fseq ok) := by
  have h0 := Changes.refl [.evr, .cmq, .land, .media, .ports, .bst, .boot, .out, .free] s
  unfold State.pieceDone
  repeat' (first
    | ((first | intro x | (lift_lets; intro x)); first | (guard_hyp x : State := _; have hx : Changes [.evr, .cmq, .land, .media, .ports, .bst, .boot, .out, .free] s x := (by unfold x; repeat' (first | with_reducible assumption | ((conv => (arg 3; arg 24; skip)); ((with_reducible apply Changes.free_with) <;> [rfl; skip])) | ((with_reducible apply Changes.step (State.complete_changes ..)) <;> [rfl; skip]) | ((with_reducible apply Changes.step (State.log_changes ..)) <;> [rfl; skip]) | ((with_reducible apply Changes.step (State.setBoot_changes ..)) <;> [rfl; skip]) | ((with_reducible apply Changes.step (State.stagePiece_changes ..)) <;> [rfl; skip]) | ((with_reducible apply Changes.foldl) <;> [(intro _ _ _); skip]) | split)); clear_value x) | clear_value x | skip)
    | with_reducible assumption | ((conv => (arg 3; arg 24; skip)); ((with_reducible apply Changes.free_with) <;> [rfl; skip])) | ((with_reducible apply Changes.step (State.complete_changes ..)) <;> [rfl; skip]) | ((with_reducible apply Changes.step (State.log_changes ..)) <;> [rfl; skip]) | ((with_reducible apply Changes.step (State.setBoot_changes ..)) <;> [rfl; skip]) | ((with_reducible apply Changes.step (State.stagePiece_changes ..)) <;> [rfl; skip]) | ((with_reducible apply Changes.foldl) <;> [(intro _ _ _); skip])
    | split)

theorem State.sealStaging_changes (s : State) :
    Changes [.bst] s (State.sealStaging s) := by
  have h0 := Changes.refl [.bst] s
  unfold State.sealStaging
  repeat' (first | with_reducible assumption | ((conv => (arg 3; arg 24; skip)); ((with_reducible apply Changes.bst_with) <;> [rfl; skip])) | ((with_reducible apply Changes.foldl) <;> [(intro _ _ _); skip]) | split)

theorem State.startWrite_changes (s : State) (fseq : Nat) (action : Nat) (img : List Byte) :
    Changes [.evr, .cmq, .bst, .boot] s (State.startWrite s fseq action img) := by
  have h0 := Changes.refl [.evr, .cmq, .bst, .boot] s
  unfold State.startWrite
  repeat' (first
    | ((first | intro x | (lift_lets; intro x)); first | (guard_hyp x : State := _; have hx : Changes [.evr, .cmq, .bst, .boot] s x := (by unfold x; repeat' (first | with_reducible assumption | ((with_reducible apply Changes.step (State.log_changes ..)) <;> [rfl; skip]) | ((with_reducible apply Changes.step (State.record_changes ..)) <;> [rfl; skip]) | ((with_reducible apply Changes.step (State.setBst_changes ..)) <;> [rfl; skip]) | ((with_reducible apply Changes.step (State.setCmd_changes ..)) <;> [rfl; skip]) | ((with_reducible apply Changes.foldl) <;> [(intro _ _ _); skip]) | split)); clear_value x) | clear_value x | skip)
    | with_reducible assumption | ((with_reducible apply Changes.step (State.log_changes ..)) <;> [rfl; skip]) | ((with_reducible apply Changes.step (State.record_changes ..)) <;> [rfl; skip]) | ((with_reducible apply Changes.step (State.setBst_changes ..)) <;> [rfl; skip]) | ((with_reducible apply Changes.step (State.setCmd_changes ..)) <;> [rfl; skip]) | ((with_reducible apply Changes.foldl) <;> [(intro _ _ _); skip])
    | split)

theorem State.commitFw_changes (s : State) (c : Cmd) (fseq : Nat) (slot : Nat) (action : Nat) :
    Changes [.evr, .cmq, .land, .media, .ports, .bst, .boot, .out] s (State.commitFw s c fseq slot action) := by
  have h0 := Changes.refl [.evr, .cmq, .land, .media, .ports, .bst, .boot, .out] s
  unfold State.commitFw
  repeat' (first
    | ((first | intro x | (lift_lets; intro x)); first | (guard_hyp x : State := _; have hx : Changes [.evr, .cmq, .land, .media, .ports, .bst, .boot, .out] s x := (by unfold x; repeat' (first | with_reducible assumption | ((with_reducible apply Changes.step (State.clearStaging_changes ..)) <;> [rfl; skip]) | ((with_reducible apply Changes.step (State.complete_changes ..)) <;> [rfl; skip]) | ((with_reducible apply Changes.step (State.log_changes ..)) <;> [rfl; skip]) | ((with_reducible apply Changes.step (State.noteRefusal_changes ..)) <;> [rfl; skip]) | ((with_reducible apply Changes.step (State.record_changes ..)) <;> [rfl; skip]) | ((with_reducible apply Changes.step (State.sealStaging_changes ..)) <;> [rfl; skip]) | ((with_reducible apply Changes.step (State.startWrite_changes ..)) <;> [rfl; skip]) | ((with_reducible apply Changes.foldl) <;> [(intro _ _ _); skip]) | split)); clear_value x) | clear_value x | skip)
    | with_reducible assumption | ((with_reducible apply Changes.step (State.clearStaging_changes ..)) <;> [rfl; skip]) | ((with_reducible apply Changes.step (State.complete_changes ..)) <;> [rfl; skip]) | ((with_reducible apply Changes.step (State.log_changes ..)) <;> [rfl; skip]) | ((with_reducible apply Changes.step (State.noteRefusal_changes ..)) <;> [rfl; skip]) | ((with_reducible apply Changes.step (State.record_changes ..)) <;> [rfl; skip]) | ((with_reducible apply Changes.step (State.sealStaging_changes ..)) <;> [rfl; skip]) | ((with_reducible apply Changes.step (State.startWrite_changes ..)) <;> [rfl; skip]) | ((with_reducible apply Changes.foldl) <;> [(intro _ _ _); skip])
    | split)

theorem State.ferryPrepare_changes (s : State) (fseq : Option Nat) :
    Changes [.evr, .cmq, .land, .media, .ports, .bst, .boot, .out] s (State.ferryPrepare s fseq) := by
  have h0 := Changes.refl [.evr, .cmq, .land, .media, .ports, .bst, .boot, .out] s
  unfold State.ferryPrepare
  repeat' (first
    | ((first | intro x | (lift_lets; intro x)); first | (guard_hyp x : State := _; have hx : Changes [.evr, .cmq, .land, .media, .ports, .bst, .boot, .out] s x := (by unfold x; repeat' (first | with_reducible assumption | ((with_reducible apply Changes.step (State.checkpoint_changes ..)) <;> [rfl; skip]) | ((with_reducible apply Changes.step (State.complete_changes ..)) <;> [rfl; skip]) | ((with_reducible apply Changes.step (State.log_changes ..)) <;> [rfl; skip]) | ((with_reducible apply Changes.step (State.record_changes ..)) <;> [rfl; skip]) | ((with_reducible apply Changes.foldl) <;> [(intro _ _ _); skip]) | split)); clear_value x) | clear_value x | skip)
    | with_reducible assumption | ((with_reducible apply Changes.step (State.checkpoint_changes ..)) <;> [rfl; skip]) | ((with_reducible apply Changes.step (State.complete_changes ..)) <;> [rfl; skip]) | ((with_reducible apply Changes.step (State.log_changes ..)) <;> [rfl; skip]) | ((with_reducible apply Changes.step (State.record_changes ..)) <;> [rfl; skip]) | ((with_reducible apply Changes.foldl) <;> [(intro _ _ _); skip])
    | split)

theorem State.imageWritten_changes (s : State) (digestOk : Bool) :
    Changes [.evr, .cmq, .land, .media, .ports, .bst, .boot, .out] s (State.imageWritten s digestOk) := by
  have h0 := Changes.refl [.evr, .cmq, .land, .media, .ports, .bst, .boot, .out] s
  unfold State.imageWritten
  repeat' (first
    | ((first | intro x | (lift_lets; intro x)); first | (guard_hyp x : State := _; have hx : Changes [.evr, .cmq, .land, .media, .ports, .bst, .boot, .out] s x := (by unfold x; repeat' (first | with_reducible assumption | ((conv => (arg 3; arg 24; skip)); ((with_reducible apply Changes.bst_with) <;> [rfl; skip])) | ((with_reducible apply Changes.step (State.complete_changes ..)) <;> [rfl; skip]) | ((with_reducible apply Changes.step (State.ferryPrepare_changes ..)) <;> [rfl; skip]) | ((with_reducible apply Changes.step (State.log_changes ..)) <;> [rfl; skip]) | ((with_reducible apply Changes.step (State.record_changes ..)) <;> [rfl; skip]) | ((with_reducible apply Changes.step (State.setBoot_changes ..)) <;> [rfl; skip]) | ((with_reducible apply Changes.foldl) <;> [(intro _ _ _); skip]) | split)); clear_value x) | clear_value x | skip)
    | with_reducible assumption | ((conv => (arg 3; arg 24; skip)); ((with_reducible apply Changes.bst_with) <;> [rfl; skip])) | ((with_reducible apply Changes.step (State.complete_changes ..)) <;> [rfl; skip]) | ((with_reducible apply Changes.step (State.ferryPrepare_changes ..)) <;> [rfl; skip]) | ((with_reducible apply Changes.step (State.log_changes ..)) <;> [rfl; skip]) | ((with_reducible apply Changes.step (State.record_changes ..)) <;> [rfl; skip]) | ((with_reducible apply Changes.step (State.setBoot_changes ..)) <;> [rfl; skip]) | ((with_reducible apply Changes.foldl) <;> [(intro _ _ _); skip])
    | split)

theorem State.ferryRefused_changes (s : State) (st : Status) :
    Changes [.evr, .cmq, .land, .media, .ports, .bst, .boot, .out] s (State.ferryRefused s st) := by
  have h0 := Changes.refl [.evr, .cmq, .land, .media, .ports, .bst, .boot, .out] s
  unfold State.ferryRefused
  repeat' (first
    | ((first | intro x | (lift_lets; intro x)); first | (guard_hyp x : State := _; have hx : Changes [.evr, .cmq, .land, .media, .ports, .bst, .boot, .out] s x := (by unfold x; repeat' (first | with_reducible assumption | ((with_reducible apply Changes.step (State.complete_changes ..)) <;> [rfl; skip]) | ((with_reducible apply Changes.step (State.noteRefusal_changes ..)) <;> [rfl; skip]) | ((with_reducible apply Changes.step (State.record_changes ..)) <;> [rfl; skip]) | ((with_reducible apply Changes.foldl) <;> [(intro _ _ _); skip]) | split)); clear_value x) | clear_value x | skip)
    | with_reducible assumption | ((with_reducible apply Changes.step (State.complete_changes ..)) <;> [rfl; skip]) | ((with_reducible apply Changes.step (State.noteRefusal_changes ..)) <;> [rfl; skip]) | ((with_reducible apply Changes.step (State.record_changes ..)) <;> [rfl; skip]) | ((with_reducible apply Changes.foldl) <;> [(intro _ _ _); skip])
    | split)

theorem State.quiesce_changes (s : State) :
    Changes [.land, .media, .out] s (State.quiesce s) := by
  have h0 := Changes.refl [.land, .media, .out] s
  unfold State.quiesce
  repeat' (first | with_reducible assumption | ((with_reducible apply Changes.step (State.copiesGo_changes ..)) <;> [rfl; skip]) | ((with_reducible apply Changes.step (State.dispatchAll_changes ..)) <;> [rfl; skip]) | ((with_reducible apply Changes.foldl) <;> [(intro _ _ _); skip]) | split)

theorem State.ferryPause_changes (s : State) :
    Changes [.evr, .cmq, .land, .media, .ports, .bst, .boot, .out] s (State.ferryPause s) := by
  have h0 := Changes.refl [.evr, .cmq, .land, .media, .ports, .bst, .boot, .out] s
  unfold State.ferryPause
  repeat' (first
    | ((first | intro x | (lift_lets; intro x)); first | (guard_hyp x : State := _; have hx : Changes [.evr, .cmq, .land, .media, .ports, .bst, .boot, .out] s x := (by unfold x; repeat' (first | with_reducible assumption | ((conv => (arg 3; arg 24; skip)); ((with_reducible apply Changes.cmq_with) <;> [rfl; skip])) | ((with_reducible apply Changes.step (State.ferryRefused_changes ..)) <;> [rfl; skip]) | ((with_reducible apply Changes.step (State.log_changes ..)) <;> [rfl; skip]) | ((with_reducible apply Changes.step (State.quiesce_changes ..)) <;> [rfl; skip]) | ((with_reducible apply Changes.step (State.setBoot_changes ..)) <;> [rfl; skip]) | ((with_reducible apply Changes.foldl) <;> [(intro _ _ _); skip]) | split)); clear_value x) | clear_value x | skip)
    | with_reducible assumption | ((conv => (arg 3; arg 24; skip)); ((with_reducible apply Changes.cmq_with) <;> [rfl; skip])) | ((with_reducible apply Changes.step (State.ferryRefused_changes ..)) <;> [rfl; skip]) | ((with_reducible apply Changes.step (State.log_changes ..)) <;> [rfl; skip]) | ((with_reducible apply Changes.step (State.quiesce_changes ..)) <;> [rfl; skip]) | ((with_reducible apply Changes.step (State.setBoot_changes ..)) <;> [rfl; skip]) | ((with_reducible apply Changes.foldl) <;> [(intro _ _ _); skip])
    | split)

theorem State.ferryCross_changes (s : State) :
    Changes [.boot] s (State.ferryCross s) := by
  have h0 := Changes.refl [.boot] s
  unfold State.ferryCross
  repeat' (first | with_reducible assumption | ((with_reducible apply Changes.step (State.setBoot_changes ..)) <;> [rfl; skip]) | ((with_reducible apply Changes.foldl) <;> [(intro _ _ _); skip]) | split)

theorem State.ferryLand_changes (s : State) (pauseUs : Nat) :
    Changes [.evr, .cmq, .land, .media, .plp, .ports, .dram, .sdm, .bst, .boot, .pws, .dict, .out, .free] s (State.ferryLand s pauseUs) := by
  have h0 := Changes.refl [.evr, .cmq, .land, .media, .plp, .ports, .dram, .sdm, .bst, .boot, .pws, .dict, .out, .free] s
  unfold State.ferryLand
  repeat' (first
    | ((first | intro x | (lift_lets; intro x)); first | (guard_hyp x : State := _; have hx : Changes [.evr, .cmq, .land, .media, .plp, .ports, .dram, .sdm, .bst, .boot, .pws, .dict, .out, .free] s x := (by unfold x; repeat' (first | with_reducible assumption | ((conv => (arg 3; arg 24; skip)); ((with_reducible apply Changes.cmq_with) <;> [rfl; skip])) | ((with_reducible apply Changes.step (State.complete_changes ..)) <;> [rfl; skip]) | ((with_reducible apply Changes.step (State.log_changes ..)) <;> [rfl; skip]) | ((with_reducible apply Changes.step (State.record_changes ..)) <;> [rfl; skip]) | ((with_reducible apply Changes.step (State.serveDict_changes ..)) <;> [rfl; skip]) | ((with_reducible apply Changes.step (State.setBoot_changes ..)) <;> [rfl; skip]) | ((with_reducible apply Changes.step (State.writeLedger_changes ..)) <;> [rfl; skip]) | ((with_reducible apply Changes.foldl) <;> [(intro _ _ _); skip]) | split)); clear_value x) | clear_value x | skip)
    | with_reducible assumption | ((conv => (arg 3; arg 24; skip)); ((with_reducible apply Changes.cmq_with) <;> [rfl; skip])) | ((with_reducible apply Changes.step (State.complete_changes ..)) <;> [rfl; skip]) | ((with_reducible apply Changes.step (State.log_changes ..)) <;> [rfl; skip]) | ((with_reducible apply Changes.step (State.record_changes ..)) <;> [rfl; skip]) | ((with_reducible apply Changes.step (State.serveDict_changes ..)) <;> [rfl; skip]) | ((with_reducible apply Changes.step (State.setBoot_changes ..)) <;> [rfl; skip]) | ((with_reducible apply Changes.step (State.writeLedger_changes ..)) <;> [rfl; skip]) | ((with_reducible apply Changes.foldl) <;> [(intro _ _ _); skip])
    | split)

theorem State.ferryLate_changes (s : State) :
    Changes [.evr, .cmq, .land, .media, .plp, .ports, .dram, .sdm, .bst, .boot, .pws, .dict, .out, .free] s (State.ferryLate s) := by
  have h0 := Changes.refl [.evr, .cmq, .land, .media, .plp, .ports, .dram, .sdm, .bst, .boot, .pws, .dict, .out, .free] s
  unfold State.ferryLate
  repeat' (first
    | ((first | intro x | (lift_lets; intro x)); first | (guard_hyp x : State := _; have hx : Changes [.evr, .cmq, .land, .media, .plp, .ports, .dram, .sdm, .bst, .boot, .pws, .dict, .out, .free] s x := (by unfold x; repeat' (first | with_reducible assumption | ((with_reducible apply Changes.step (State.abandonFerry_changes ..)) <;> [rfl; skip]) | ((with_reducible apply Changes.step (State.complete_changes ..)) <;> [rfl; skip]) | ((with_reducible apply Changes.step (State.serveDict_changes ..)) <;> [rfl; skip]) | ((with_reducible apply Changes.step (State.setBoot_changes ..)) <;> [rfl; skip]) | ((with_reducible apply Changes.foldl) <;> [(intro _ _ _); skip]) | split)); clear_value x) | clear_value x | skip)
    | with_reducible assumption | ((with_reducible apply Changes.step (State.abandonFerry_changes ..)) <;> [rfl; skip]) | ((with_reducible apply Changes.step (State.complete_changes ..)) <;> [rfl; skip]) | ((with_reducible apply Changes.step (State.serveDict_changes ..)) <;> [rfl; skip]) | ((with_reducible apply Changes.step (State.setBoot_changes ..)) <;> [rfl; skip]) | ((with_reducible apply Changes.foldl) <;> [(intro _ _ _); skip])
    | split)

theorem State.trialToken_changes (s : State) (v : BitVec 32) :
    Changes [.boot] s (State.trialToken s v) := by
  have h0 := Changes.refl [.boot] s
  unfold State.trialToken
  repeat' (first | with_reducible assumption | ((with_reducible apply Changes.step (State.setBoot_changes ..)) <;> [rfl; skip]) | ((with_reducible apply Changes.foldl) <;> [(intro _ _ _); skip]) | split)

theorem State.acceptHealth_changes (s : State) (v : BitVec 32) :
    Changes [.boot] s (State.acceptHealth s v) := by
  have h0 := Changes.refl [.boot] s
  unfold State.acceptHealth
  repeat' (first | with_reducible assumption | ((with_reducible apply Changes.step (State.setBoot_changes ..)) <;> [rfl; skip]) | ((with_reducible apply Changes.step (State.trialToken_changes ..)) <;> [rfl; skip]) | ((with_reducible apply Changes.foldl) <;> [(intro _ _ _); skip]) | split)

theorem State.copyComplete_changes (s : State) :
    Changes [.evr, .bst, .boot] s (State.copyComplete s) := by
  have h0 := Changes.refl [.evr, .bst, .boot] s
  unfold State.copyComplete
  repeat' (first
    | ((first | intro x | (lift_lets; intro x)); first | (guard_hyp x : State := _; have hx : Changes [.evr, .bst, .boot] s x := (by unfold x; repeat' (first | with_reducible assumption | ((with_reducible apply Changes.step (State.clearStaging_changes ..)) <;> [rfl; skip]) | ((with_reducible apply Changes.step (State.log_changes ..)) <;> [rfl; skip]) | ((with_reducible apply Changes.step (State.record_changes ..)) <;> [rfl; skip]) | ((with_reducible apply Changes.foldl) <;> [(intro _ _ _); skip]) | split)); clear_value x) | clear_value x | skip)
    | with_reducible assumption | ((with_reducible apply Changes.step (State.clearStaging_changes ..)) <;> [rfl; skip]) | ((with_reducible apply Changes.step (State.log_changes ..)) <;> [rfl; skip]) | ((with_reducible apply Changes.step (State.record_changes ..)) <;> [rfl; skip]) | ((with_reducible apply Changes.foldl) <;> [(intro _ _ _); skip])
    | split)

theorem State.storeLost_changes (s : State) :
    Changes [.bst, .free] s (State.storeLost s) := by
  have h0 := Changes.refl [.bst, .free] s
  unfold State.storeLost
  repeat' (first | with_reducible assumption | ((with_reducible apply Changes.step (State.setBst_changes ..)) <;> [rfl; skip]) | ((with_reducible apply Changes.step (State.spoiled_changes ..)) <;> [rfl; skip]) | ((with_reducible apply Changes.foldl) <;> [(intro _ _ _); skip]) | split)

theorem State.restart_changes (s : State) (keep : Bool) (phase : Phase) :
    Changes [.phase, .tb, .pace, .avs, .evr, .clocks, .cmq, .land, .media, .plp, .ports, .dram, .sdm, .vault, .sec, .bst, .boot, .pws, .dict, .board, .free] s (State.restart s keep phase) := by
  have h := State.storeLost_changes s
  unfold State.restart
  dsimp only
  generalize s.storeLost = x at h
  refine ⟨fun p hp => ?_⟩
  cases p <;> first | exact absurd (by decide) hp | exact h.rest .units (by decide) | exact h.rest .out (by decide) | exact h.rest .pending (by decide) | exact h.rest .free (by decide)

theorem State.enableFirst_changes (s : State) :
    Changes [.pws, .out] s (State.enableFirst s) := by
  have h0 := Changes.refl [.pws, .out] s
  unfold State.enableFirst
  repeat' (first | with_reducible assumption | ((with_reducible apply Changes.step (State.emit_changes ..)) <;> [rfl; skip]) | ((with_reducible apply Changes.step (State.setPws_changes ..)) <;> [rfl; skip]) | ((with_reducible apply Changes.foldl) <;> [(intro _ _ _); skip]) | split)

theorem State.coldFromOff_changes (s : State) :
    Changes [.phase, .tb, .pace, .avs, .evr, .clocks, .cmq, .land, .media, .plp, .ports, .dram, .sdm, .vault, .sec, .bst, .boot, .pws, .dict, .board, .out, .free] s (State.coldFromOff s) := by
  have h0 := Changes.refl [.phase, .tb, .pace, .avs, .evr, .clocks, .cmq, .land, .media, .plp, .ports, .dram, .sdm, .vault, .sec, .bst, .boot, .pws, .dict, .board, .out, .free] s
  unfold State.coldFromOff
  repeat' (first | with_reducible assumption | ((with_reducible apply Changes.step (State.enableFirst_changes ..)) <;> [rfl; skip]) | ((with_reducible apply Changes.step (State.restart_changes ..)) <;> [rfl; skip]) | ((with_reducible apply Changes.foldl) <;> [(intro _ _ _); skip]) | split)

theorem State.coldInPlace_changes (s : State) :
    Changes [.phase, .tb, .pace, .avs, .evr, .clocks, .cmq, .land, .media, .plp, .ports, .dram, .sdm, .vault, .sec, .bst, .boot, .pws, .dict, .board, .free] s (State.coldInPlace s) := by
  have h0 := Changes.refl [.phase, .tb, .pace, .avs, .evr, .clocks, .cmq, .land, .media, .plp, .ports, .dram, .sdm, .vault, .sec, .bst, .boot, .pws, .dict, .board, .free] s
  unfold State.coldInPlace
  repeat' (first
    | ((first | intro x | (lift_lets; intro x)); first | (guard_hyp x : State := _; have hx : Changes [.phase, .tb, .pace, .avs, .evr, .clocks, .cmq, .land, .media, .plp, .ports, .dram, .sdm, .vault, .sec, .bst, .boot, .pws, .dict, .board, .free] s x := (by unfold x; repeat' (first | with_reducible assumption | ((conv => (arg 3; arg 24; skip)); ((with_reducible apply Changes.bst_pws_with) <;> [rfl; rfl; skip])) | ((with_reducible apply Changes.step (State.restart_changes ..)) <;> [rfl; skip]) | ((with_reducible apply Changes.step (State.runEnds_changes ..)) <;> [rfl; skip]) | ((with_reducible apply Changes.foldl) <;> [(intro _ _ _); skip]) | split)); clear_value x) | clear_value x | skip)
    | with_reducible assumption | ((conv => (arg 3; arg 24; skip)); ((with_reducible apply Changes.bst_pws_with) <;> [rfl; rfl; skip])) | ((with_reducible apply Changes.step (State.restart_changes ..)) <;> [rfl; skip]) | ((with_reducible apply Changes.step (State.runEnds_changes ..)) <;> [rfl; skip]) | ((with_reducible apply Changes.foldl) <;> [(intro _ _ _); skip])
    | split)

theorem State.apstIdle_changes (s : State) (p : Fin 2) :
    Changes [.evr, .cmq, .land, .media, .plp, .ports, .pws, .out] s (State.apstIdle s p) := by
  have h0 := Changes.refl [.evr, .cmq, .land, .media, .plp, .ports, .pws, .out] s
  unfold State.apstIdle
  repeat' (first | with_reducible assumption | ((with_reducible apply Changes.step (State.followPs_changes ..)) <;> [rfl; skip]) | ((with_reducible apply Changes.step (State.setCtrl_changes ..)) <;> [rfl; skip]) | ((with_reducible apply Changes.foldl) <;> [(intro _ _ _); skip]) | split)

theorem State.persistAll_changes (s : State) :
    Changes [.evr, .clocks, .vault] s (State.persistAll s) := by
  have h0 := Changes.refl [.evr, .clocks, .vault] s
  unfold State.persistAll
  dsimp only
  repeat' (first | with_reducible assumption | ((conv => (arg 3; arg 24; skip)); ((with_reducible apply Changes.vault_with) <;> [rfl; skip])) | ((with_reducible apply Changes.step (State.persist_changes ..)) <;> [rfl; skip]) | ((with_reducible apply Changes.foldl) <;> [(intro _ _ _); skip]) | split)

theorem State.finishPrep_changes (s : State) (target : Nat) :
    Changes [.evr, .land, .pws] s (State.finishPrep s target) := by
  have h0 := Changes.refl [.evr, .land, .pws] s
  unfold State.finishPrep
  repeat' (first
    | ((first | intro x | (lift_lets; intro x)); first | (guard_hyp x : State := _; have hx : Changes [.evr, .land, .pws] s x := (by unfold x; repeat' (first | with_reducible assumption | ((conv => (arg 3; arg 24; skip)); ((with_reducible apply Changes.land_with) <;> [rfl; skip])) | ((with_reducible apply Changes.step (State.setPws_changes ..)) <;> [rfl; skip]) | ((with_reducible apply Changes.step (State.suppSummary_changes ..)) <;> [rfl; skip]) | ((with_reducible apply Changes.foldl) <;> [(intro _ _ _); skip]) | split)); clear_value x) | clear_value x | skip)
    | with_reducible assumption | ((conv => (arg 3; arg 24; skip)); ((with_reducible apply Changes.land_with) <;> [rfl; skip])) | ((with_reducible apply Changes.step (State.setPws_changes ..)) <;> [rfl; skip]) | ((with_reducible apply Changes.step (State.suppSummary_changes ..)) <;> [rfl; skip]) | ((with_reducible apply Changes.foldl) <;> [(intro _ _ _); skip])
    | split)

theorem State.setEntry_changes (s : State) (f : PsEntry → PsEntry) :
    Changes [.pws] s (State.setEntry s f) := by
  have h0 := Changes.refl [.pws] s
  unfold State.setEntry
  repeat' (first | with_reducible assumption | ((with_reducible apply Changes.step (State.setPws_changes ..)) <;> [rfl; skip]) | ((with_reducible apply Changes.foldl) <;> [(intro _ _ _); skip]) | split)

theorem State.prepDone_changes (s : State) (systemFail : Bool) :
    Changes [.evr, .cmq, .land, .media, .ports, .dram, .pws, .out] s (State.prepDone s systemFail) := by
  have h0 := Changes.refl [.evr, .cmq, .land, .media, .ports, .dram, .pws, .out] s
  unfold State.prepDone
  repeat' (first
    | ((first | intro x | (lift_lets; intro x)); first | (guard_hyp x : State := _; have hx : Changes [.evr, .cmq, .land, .media, .ports, .dram, .pws, .out] s x := (by unfold x; repeat' (first | with_reducible assumption | ((with_reducible apply Changes.step (State.abandonEntry_changes ..)) <;> [rfl; skip]) | ((with_reducible apply Changes.step (State.checkpoint_changes ..)) <;> [rfl; skip]) | ((with_reducible apply Changes.step (State.emit_changes ..)) <;> [rfl; skip]) | ((with_reducible apply Changes.step (State.finishPrep_changes ..)) <;> [rfl; skip]) | ((with_reducible apply Changes.step (State.setEntry_changes ..)) <;> [rfl; skip]) | ((with_reducible apply Changes.foldl) <;> [(intro _ _ _); skip]) | split)); clear_value x) | clear_value x | skip)
    | with_reducible assumption | ((with_reducible apply Changes.step (State.abandonEntry_changes ..)) <;> [rfl; skip]) | ((with_reducible apply Changes.step (State.checkpoint_changes ..)) <;> [rfl; skip]) | ((with_reducible apply Changes.step (State.emit_changes ..)) <;> [rfl; skip]) | ((with_reducible apply Changes.step (State.finishPrep_changes ..)) <;> [rfl; skip]) | ((with_reducible apply Changes.step (State.setEntry_changes ..)) <;> [rfl; skip]) | ((with_reducible apply Changes.foldl) <;> [(intro _ _ _); skip])
    | split)

theorem State.resetErases_changes (s : State) :
    Changes [.media, .out] s (State.resetErases s) := by
  have h0 := Changes.refl [.media, .out] s
  unfold State.resetErases
  repeat' (first | with_reducible assumption | ((with_reducible apply Changes.step (State.resetLun_changes ..)) <;> [rfl; skip]) | ((with_reducible apply Changes.step (State.setDie_changes ..)) <;> [rfl; skip]) | ((with_reducible apply Changes.foldl) <;> [(intro _ _ _); skip]) | split)

theorem State.linksRest_changes (s : State) :
    Changes [.ports] s (State.linksRest s) := by
  have h0 := Changes.refl [.ports] s
  unfold State.linksRest
  repeat' (first | with_reducible assumption | ((conv => (arg 3; arg 24; skip)); ((with_reducible apply Changes.ports_with) <;> [rfl; skip])) | ((with_reducible apply Changes.foldl) <;> [(intro _ _ _); skip]) | split)

theorem State.commitEntry_changes (s : State) (target : Nat) :
    Changes [.phase, .evr, .clocks, .media, .plp, .ports, .dram, .vault, .sec, .pws, .out] s (State.commitEntry s target) := by
  have h0 := Changes.refl [.phase, .evr, .clocks, .media, .plp, .ports, .dram, .vault, .sec, .pws, .out] s
  unfold State.commitEntry
  repeat' (first
    | ((first | intro x | (lift_lets; intro x)); first | (guard_hyp x : State := _; have hx : Changes [.phase, .evr, .clocks, .media, .plp, .ports, .dram, .vault, .sec, .pws, .out] s x := (by unfold x; repeat' (first | with_reducible assumption | ((conv => (arg 3; arg 24; skip)); ((with_reducible apply Changes.phase_plp_sec_with) <;> [rfl; rfl; rfl; skip])) | ((with_reducible apply Changes.step (State.enablesFall_changes ..)) <;> [rfl; skip]) | ((with_reducible apply Changes.step (State.flushAllChecks_changes ..)) <;> [rfl; skip]) | ((with_reducible apply Changes.step (State.gates_changes ..)) <;> [rfl; skip]) | ((with_reducible apply Changes.step (State.linksRest_changes ..)) <;> [rfl; skip]) | ((with_reducible apply Changes.step (State.persistAll_changes ..)) <;> [rfl; skip]) | ((with_reducible apply Changes.step (State.resetErases_changes ..)) <;> [rfl; skip]) | ((with_reducible apply Changes.step (State.setDram_changes ..)) <;> [rfl; skip]) | ((with_reducible apply Changes.step (State.setPws_changes ..)) <;> [rfl; skip]) | ((with_reducible apply Changes.foldl) <;> [(intro _ _ _); skip]) | split)); clear_value x) | clear_value x | skip)
    | with_reducible assumption | ((conv => (arg 3; arg 24; skip)); ((with_reducible apply Changes.phase_plp_sec_with) <;> [rfl; rfl; rfl; skip])) | ((with_reducible apply Changes.step (State.enablesFall_changes ..)) <;> [rfl; skip]) | ((with_reducible apply Changes.step (State.flushAllChecks_changes ..)) <;> [rfl; skip]) | ((with_reducible apply Changes.step (State.gates_changes ..)) <;> [rfl; skip]) | ((with_reducible apply Changes.step (State.linksRest_changes ..)) <;> [rfl; skip]) | ((with_reducible apply Changes.step (State.persistAll_changes ..)) <;> [rfl; skip]) | ((with_reducible apply Changes.step (State.resetErases_changes ..)) <;> [rfl; skip]) | ((with_reducible apply Changes.step (State.setDram_changes ..)) <;> [rfl; skip]) | ((with_reducible apply Changes.step (State.setPws_changes ..)) <;> [rfl; skip]) | ((with_reducible apply Changes.foldl) <;> [(intro _ _ _); skip])
    | split)

theorem State.domainAnswers_changes (s : State) (d : Fin 4) (a : Answer) :
    Changes [.phase, .evr, .clocks, .cmq, .land, .media, .plp, .ports, .dram, .vault, .sec, .pws, .out] s (State.domainAnswers s d a) := by
  have h0 := Changes.refl [.phase, .evr, .clocks, .cmq, .land, .media, .plp, .ports, .dram, .vault, .sec, .pws, .out] s
  unfold State.domainAnswers
  dsimp only
  repeat' (first | with_reducible assumption | ((with_reducible apply Changes.step (State.abandonEntry_changes ..)) <;> [rfl; skip]) | ((with_reducible apply Changes.step (State.commitEntry_changes ..)) <;> [rfl; skip]) | ((with_reducible apply Changes.step (State.refuse_changes ..)) <;> [rfl; skip]) | ((with_reducible apply Changes.step (State.setEntry_changes ..)) <;> [rfl; skip]) | ((with_reducible apply Changes.foldl) <;> [(intro _ _ _); skip]) | split)

theorem State.delayExpires_changes (s : State) (d : Fin 4) :
    Changes [.evr, .cmq, .land, .media, .ports, .dram, .pws, .out] s (State.delayExpires s d) := by
  have h0 := Changes.refl [.evr, .cmq, .land, .media, .ports, .dram, .pws, .out] s
  unfold State.delayExpires
  repeat' (first | with_reducible assumption | ((with_reducible apply Changes.step (State.abandonEntry_changes ..)) <;> [rfl; skip]) | ((with_reducible apply Changes.step (State.setEntry_changes ..)) <;> [rfl; skip]) | ((with_reducible apply Changes.foldl) <;> [(intro _ _ _); skip]) | split)

theorem State.powerGood_changes (s : State) (sup : Supply) :
    Changes [.phase, .tb, .pws, .out] s (State.powerGood s sup) := by
  have h0 := Changes.refl [.phase, .tb, .pws, .out] s
  unfold State.powerGood
  dsimp only
  repeat' (first | with_reducible assumption | ((conv => (arg 3; arg 24; skip)); ((with_reducible apply Changes.phase_tb_with) <;> [rfl; rfl; skip])) | ((with_reducible apply Changes.step (State.emit_changes ..)) <;> [rfl; skip]) | ((with_reducible apply Changes.step (State.setPws_changes ..)) <;> [rfl; skip]) | ((with_reducible apply Changes.foldl) <;> [(intro _ _ _); skip]) | split)

theorem State.pgTimeout_changes (s : State) (sup : Supply) :
    Changes [.phase, .tb, .evr, .ports, .pws, .out] s (State.pgTimeout s sup) := by
  have h0 := Changes.refl [.phase, .tb, .evr, .ports, .pws, .out] s
  unfold State.pgTimeout
  repeat' (first
    | ((first | intro x | (lift_lets; intro x)); first | (guard_hyp x : State := _; have hx : Changes [.phase, .tb, .evr, .ports, .pws, .out] s x := (by unfold x; repeat' (first | with_reducible assumption | ((conv => (arg 3; arg 24; skip)); ((with_reducible apply Changes.phase_ports_with) <;> [rfl; rfl; skip])) | ((conv => (arg 3; arg 24; skip)); ((with_reducible apply Changes.tb_with) <;> [rfl; skip])) | ((with_reducible apply Changes.step (State.emits_changes ..)) <;> [rfl; skip]) | ((with_reducible apply Changes.step (State.log_changes ..)) <;> [rfl; skip]) | ((with_reducible apply Changes.step (State.setPws_changes ..)) <;> [rfl; skip]) | ((with_reducible apply Changes.foldl) <;> [(intro _ _ _); skip]) | split)); clear_value x) | clear_value x | skip)
    | with_reducible assumption | ((conv => (arg 3; arg 24; skip)); ((with_reducible apply Changes.phase_ports_with) <;> [rfl; rfl; skip])) | ((conv => (arg 3; arg 24; skip)); ((with_reducible apply Changes.tb_with) <;> [rfl; skip])) | ((with_reducible apply Changes.step (State.emits_changes ..)) <;> [rfl; skip]) | ((with_reducible apply Changes.step (State.log_changes ..)) <;> [rfl; skip]) | ((with_reducible apply Changes.step (State.setPws_changes ..)) <;> [rfl; skip]) | ((with_reducible apply Changes.foldl) <;> [(intro _ _ _); skip])
    | split)

theorem State.crystalReady_changes (s : State) :
    Changes [.tb, .pws] s (State.crystalReady s) := by
  have h0 := Changes.refl [.tb, .pws] s
  unfold State.crystalReady
  repeat' (first
    | ((first | intro x | (lift_lets; intro x)); first | (guard_hyp x : State := _; have hx : Changes [.tb, .pws] s x := (by unfold x; repeat' (first | with_reducible assumption | ((conv => (arg 3; arg 24; skip)); ((with_reducible apply Changes.tb_with) <;> [rfl; skip])) | ((with_reducible apply Changes.step (State.setPws_changes ..)) <;> [rfl; skip]) | ((with_reducible apply Changes.foldl) <;> [(intro _ _ _); skip]) | split)); clear_value x) | clear_value x | skip)
    | with_reducible assumption | ((conv => (arg 3; arg 24; skip)); ((with_reducible apply Changes.tb_with) <;> [rfl; skip])) | ((with_reducible apply Changes.step (State.setPws_changes ..)) <;> [rfl; skip]) | ((with_reducible apply Changes.foldl) <;> [(intro _ _ _); skip])
    | split)

theorem State.thermIn_changes (s : State) :
    Changes [.evr, .pws] s (State.thermIn s) := by
  have h0 := Changes.refl [.evr, .pws] s
  unfold State.thermIn
  repeat' (first
    | ((first | intro x | (lift_lets; intro x)); first | (guard_hyp x : State := _; have hx : Changes [.evr, .pws] s x := (by unfold x; repeat' (first | with_reducible assumption | ((with_reducible apply Changes.step (State.log_changes ..)) <;> [rfl; skip]) | ((with_reducible apply Changes.step (State.setPws_changes ..)) <;> [rfl; skip]) | ((with_reducible apply Changes.foldl) <;> [(intro _ _ _); skip]) | split)); clear_value x) | clear_value x | skip)
    | with_reducible assumption | ((with_reducible apply Changes.step (State.log_changes ..)) <;> [rfl; skip]) | ((with_reducible apply Changes.step (State.setPws_changes ..)) <;> [rfl; skip]) | ((with_reducible apply Changes.foldl) <;> [(intro _ _ _); skip])
    | split)

theorem State.setLevel_changes (s : State) (n : Nat) :
    Changes [.evr, .pws] s (State.setLevel s n) := by
  have h0 := Changes.refl [.evr, .pws] s
  unfold State.setLevel
  repeat' (first | with_reducible assumption | ((with_reducible apply Changes.step (State.log_changes ..)) <;> [rfl; skip]) | ((with_reducible apply Changes.step (State.setPws_changes ..)) <;> [rfl; skip]) | ((with_reducible apply Changes.foldl) <;> [(intro _ _ _); skip]) | split)

theorem State.tempAlarm_changes (s : State) :
    Changes [.evr, .cmq, .land, .media, .ports, .sdm, .vault, .sec, .bst, .boot, .out, .free] s (State.tempAlarm s) := by
  have h0 := Changes.refl [.evr, .cmq, .land, .media, .ports, .sdm, .vault, .sec, .bst, .boot, .out, .free] s
  unfold State.tempAlarm
  repeat' (first | with_reducible assumption | ((with_reducible apply Changes.step (State.tamper_changes ..)) <;> [rfl; skip]) | ((with_reducible apply Changes.foldl) <;> [(intro _ _ _); skip]) | split)

theorem State.sensorsRead_changes (s : State) (ts : List Int) :
    Changes [.evr, .cmq, .land, .media, .ports, .dram, .sdm, .vault, .sec, .bst, .boot, .pws, .out, .free] s (State.sensorsRead s ts) := by
  have h0 := Changes.refl [.evr, .cmq, .land, .media, .ports, .dram, .sdm, .vault, .sec, .bst, .boot, .pws, .out, .free] s
  unfold State.sensorsRead
  repeat' (first
    | ((first | intro x | (lift_lets; intro x)); first | (guard_hyp x : State := _; have hx : Changes [.evr, .cmq, .land, .media, .ports, .dram, .sdm, .vault, .sec, .bst, .boot, .pws, .out, .free] s x := (by unfold x; repeat' (first | with_reducible assumption | ((with_reducible apply Changes.step (State.driftWarn_changes ..)) <;> [rfl; skip]) | ((with_reducible apply Changes.step (State.setLevel_changes ..)) <;> [rfl; skip]) | ((with_reducible apply Changes.step (State.setPws_changes ..)) <;> [rfl; skip]) | ((with_reducible apply Changes.step (State.tempAlarm_changes ..)) <;> [rfl; skip]) | ((with_reducible apply Changes.step (State.thermIn_changes ..)) <;> [rfl; skip]) | ((with_reducible apply Changes.foldl) <;> [(intro _ _ _); skip]) | split)); clear_value x) | clear_value x | skip)
    | with_reducible assumption | ((with_reducible apply Changes.step (State.driftWarn_changes ..)) <;> [rfl; skip]) | ((with_reducible apply Changes.step (State.setLevel_changes ..)) <;> [rfl; skip]) | ((with_reducible apply Changes.step (State.setPws_changes ..)) <;> [rfl; skip]) | ((with_reducible apply Changes.step (State.tempAlarm_changes ..)) <;> [rfl; skip]) | ((with_reducible apply Changes.step (State.thermIn_changes ..)) <;> [rfl; skip]) | ((with_reducible apply Changes.foldl) <;> [(intro _ _ _); skip])
    | split)

theorem State.linksDown_changes (s : State) :
    Changes [.ports] s (State.linksDown s) := by
  have h0 := Changes.refl [.ports] s
  unfold State.linksDown
  repeat' (first | with_reducible assumption | ((conv => (arg 3; arg 24; skip)); ((with_reducible apply Changes.ports_with) <;> [rfl; skip])) | ((with_reducible apply Changes.foldl) <;> [(intro _ _ _); skip]) | split)

theorem State.thermalHold_changes (s : State) :
    Changes [.phase, .evr, .ports, .pws, .out] s (State.thermalHold s) := by
  have h0 := Changes.refl [.phase, .evr, .ports, .pws, .out] s
  unfold State.thermalHold
  dsimp only
  repeat' (first | with_reducible assumption | ((conv => (arg 3; arg 24; skip)); ((with_reducible apply Changes.phase_with) <;> [rfl; skip])) | ((with_reducible apply Changes.step (State.enablesFall_changes ..)) <;> [rfl; skip]) | ((with_reducible apply Changes.step (State.linksDown_changes ..)) <;> [rfl; skip]) | ((with_reducible apply Changes.step (State.log_changes ..)) <;> [rfl; skip]) | ((with_reducible apply Changes.foldl) <;> [(intro _ _ _); skip]) | split)

theorem State.levelFour_changes (s : State) :
    Changes [.pws] s (State.levelFour s) := by
  have h0 := Changes.refl [.pws] s
  unfold State.levelFour
  repeat' (first | with_reducible assumption | ((with_reducible apply Changes.step (State.setPws_changes ..)) <;> [rfl; skip]) | ((with_reducible apply Changes.foldl) <;> [(intro _ _ _); skip]) | split)

theorem State.thermalShut_changes (s : State) :
    Changes [.phase, .evr, .cmq, .land, .media, .ports, .sdm, .pws, .out] s (State.thermalShut s) := by
  have h0 := Changes.refl [.phase, .evr, .cmq, .land, .media, .ports, .sdm, .pws, .out] s
  unfold State.thermalShut
  repeat' (first | with_reducible assumption | ((conv => (arg 3; arg 24; skip)); ((with_reducible apply Changes.phase_with) <;> [rfl; skip])) | ((with_reducible apply Changes.step (State.flushBody_changes ..)) <;> [rfl; skip]) | ((with_reducible apply Changes.step (State.levelFour_changes ..)) <;> [rfl; skip]) | ((with_reducible apply Changes.step (State.thermalHold_changes ..)) <;> [rfl; skip]) | ((with_reducible apply Changes.foldl) <;> [(intro _ _ _); skip]) | split)

theorem State.resetCmd_changes (s : State) (fseq : Nat) (c : Cmd) :
    Changes [.cmq, .land, .media] s (State.resetCmd s fseq c) := by
  have h0 := Changes.refl [.cmq, .land, .media] s
  unfold State.resetCmd
  repeat' (first | with_reducible assumption | ((with_reducible apply Changes.step (State.endCmd_changes ..)) <;> [rfl; skip]) | ((with_reducible apply Changes.step (State.setCmd_changes ..)) <;> [rfl; skip]) | ((with_reducible apply Changes.step (State.stopReads_changes ..)) <;> [rfl; skip]) | ((with_reducible apply Changes.foldl) <;> [(intro _ _ _); skip]) | split)

theorem State.resize_changes (s : State) (p : Fin 2) :
    Changes [.evr, .land, .ports] s (State.resize s p) := by
  have h0 := Changes.refl [.evr, .land, .ports] s
  unfold State.resize
  repeat' (first
    | ((first | intro x | (lift_lets; intro x)); first | (guard_hyp x : State := _; have hx : Changes [.evr, .land, .ports] s x := (by unfold x; repeat' (first | with_reducible assumption | ((conv => (arg 3; arg 24; skip)); ((with_reducible apply Changes.land_with) <;> [rfl; skip])) | ((with_reducible apply Changes.step (State.pmrWindows_changes ..)) <;> [rfl; skip]) | ((with_reducible apply Changes.step (State.settlePmr_changes ..)) <;> [rfl; skip]) | ((with_reducible apply Changes.foldl) <;> [(intro _ _ _); skip]) | split)); clear_value x) | clear_value x | skip)
    | with_reducible assumption | ((conv => (arg 3; arg 24; skip)); ((with_reducible apply Changes.land_with) <;> [rfl; skip])) | ((with_reducible apply Changes.step (State.pmrWindows_changes ..)) <;> [rfl; skip]) | ((with_reducible apply Changes.step (State.settlePmr_changes ..)) <;> [rfl; skip]) | ((with_reducible apply Changes.foldl) <;> [(intro _ _ _); skip])
    | split)

theorem State.releaseByReset_changes (s : State) (p : Fin 2) :
    Changes [.evr, .ports] s (State.releaseByReset s p) := by
  have h0 := Changes.refl [.evr, .ports] s
  unfold State.releaseByReset
  repeat' (first
    | ((first | intro x | (lift_lets; intro x)); first | (guard_hyp x : State := _; have hx : Changes [.evr, .ports] s x := (by unfold x; repeat' (first | with_reducible assumption | ((with_reducible apply Changes.step (State.log_changes ..)) <;> [rfl; skip]) | ((with_reducible apply Changes.step (State.setPort_changes ..)) <;> [rfl; skip]) | ((with_reducible apply Changes.foldl) <;> [(intro _ _ _); skip]) | split)); clear_value x) | clear_value x | skip)
    | with_reducible assumption | ((with_reducible apply Changes.step (State.log_changes ..)) <;> [rfl; skip]) | ((with_reducible apply Changes.step (State.setPort_changes ..)) <;> [rfl; skip]) | ((with_reducible apply Changes.foldl) <;> [(intro _ _ _); skip])
    | split)

theorem State.resetKeys_changes (s : State) (p : Fin 2) :
    Changes [.vault, .sec] s (State.resetKeys s p) := by
  have hd : ∀ (t : State) (k : Nat), Changes [.sec] t (t.dropKey k).1 := by
    intro t k
    unfold State.dropKey
    split
    · exact Changes.refl _ _
    · (with_reducible apply Changes.step (State.setSec_changes ..)) <;> [rfl; exact Changes.refl _ _]
  have h0 := Changes.refl [.vault, .sec] s
  unfold State.resetKeys
  dsimp only
  repeat' (first | with_reducible assumption | ((with_reducible apply Changes.step (State.endClaim_changes ..)) <;> [rfl; skip]) | ((with_reducible apply Changes.step (State.setSec_changes ..)) <;> [rfl; skip]) | ((with_reducible apply Changes.foldl) <;> [(intro _ _ _); skip]) | ((with_reducible apply Changes.step (hd ..)) <;> [rfl; skip]) | split)

theorem State.resetMbox_changes (s : State) (p : Fin 2) :
    Changes [.dict] s (State.resetMbox s p) := by
  have h0 := Changes.refl [.dict] s
  unfold State.resetMbox
  repeat' (first | with_reducible assumption | ((conv => (arg 3; arg 24; skip)); ((with_reducible apply Changes.dict_with) <;> [rfl; skip])) | ((with_reducible apply Changes.foldl) <;> [(intro _ _ _); skip]) | split)

theorem State.resetFerry_changes (s : State) (p : Fin 2) :
    Changes [.evr, .cmq, .bst, .boot] s (State.resetFerry s p) := by
  have h0 := Changes.refl [.evr, .cmq, .bst, .boot] s
  unfold State.resetFerry
  repeat' (first
    | ((first | intro x | (lift_lets; intro x)); first | (guard_hyp x : State := _; have hx : Changes [.evr, .cmq, .bst, .boot] s x := (by unfold x; repeat' (first | with_reducible assumption | ((with_reducible apply Changes.step (State.abandonFerry_changes ..)) <;> [rfl; skip]) | ((with_reducible apply Changes.step (State.clearStaging_changes ..)) <;> [rfl; skip]) | ((with_reducible apply Changes.step (State.record_changes ..)) <;> [rfl; skip]) | ((with_reducible apply Changes.step (State.setBoot_changes ..)) <;> [rfl; skip]) | ((with_reducible apply Changes.foldl) <;> [(intro _ _ _); skip]) | split)); clear_value x) | clear_value x | skip)
    | with_reducible assumption | ((with_reducible apply Changes.step (State.abandonFerry_changes ..)) <;> [rfl; skip]) | ((with_reducible apply Changes.step (State.clearStaging_changes ..)) <;> [rfl; skip]) | ((with_reducible apply Changes.step (State.record_changes ..)) <;> [rfl; skip]) | ((with_reducible apply Changes.step (State.setBoot_changes ..)) <;> [rfl; skip]) | ((with_reducible apply Changes.foldl) <;> [(intro _ _ _); skip])
    | split)

theorem State.activateHere_changes (s : State) :
    Changes [.evr, .cmq, .land, .media, .ports, .bst, .boot, .out] s (State.activateHere s) := by
  have h0 := Changes.refl [.evr, .cmq, .land, .media, .ports, .bst, .boot, .out] s
  unfold State.activateHere
  repeat' (first | with_reducible assumption | ((with_reducible apply Changes.step (State.ferryPause_changes ..)) <;> [rfl; skip]) | ((with_reducible apply Changes.step (State.ferryPrepare_changes ..)) <;> [rfl; skip]) | ((with_reducible apply Changes.foldl) <;> [(intro _ _ _); skip]) | split)

theorem State.resetCtrl_changes (s : State) (p : Fin 2) :
    Changes [.evr, .cmq, .land, .media, .plp, .ports, .dram, .sdm, .vault, .sec, .bst, .boot, .pws, .dict, .out, .free] s (State.resetCtrl s p) := by
  have h0 := Changes.refl [.evr, .cmq, .land, .media, .plp, .ports, .dram, .sdm, .vault, .sec, .bst, .boot, .pws, .dict, .out, .free] s
  unfold State.resetCtrl
  repeat' (first
    | ((first | intro x | (lift_lets; intro x)); first | (guard_hyp x : State := _; have hx : Changes [.evr, .cmq, .land, .media, .plp, .ports, .dram, .sdm, .vault, .sec, .bst, .boot, .pws, .dict, .out, .free] s x := (by unfold x; repeat' (first | with_reducible assumption | ((conv => (arg 3; arg 24; skip)); ((with_reducible apply Changes.media_sdm_with) <;> [rfl; rfl; skip])) | ((with_reducible apply Changes.step (State.activateHere_changes ..)) <;> [rfl; skip]) | ((with_reducible apply Changes.step (State.arrive_changes ..)) <;> [rfl; skip]) | ((with_reducible apply Changes.step (State.dropReads_changes ..)) <;> [rfl; skip]) | ((with_reducible apply Changes.step (State.followPs_changes ..)) <;> [rfl; skip]) | ((with_reducible apply Changes.step (State.releaseByReset_changes ..)) <;> [rfl; skip]) | ((with_reducible apply Changes.step (State.resetCmd_changes ..)) <;> [rfl; skip]) | ((with_reducible apply Changes.step (State.resetFerry_changes ..)) <;> [rfl; skip]) | ((with_reducible apply Changes.step (State.resetKeys_changes ..)) <;> [rfl; skip]) | ((with_reducible apply Changes.step (State.resetMbox_changes ..)) <;> [rfl; skip]) | ((with_reducible apply Changes.step (State.resize_changes ..)) <;> [rfl; skip]) | ((with_reducible apply Changes.step (State.resumeAll_changes ..)) <;> [rfl; skip]) | ((with_reducible apply Changes.step (State.setCtrl_changes ..)) <;> [rfl; skip]) | ((with_reducible apply Changes.foldl) <;> [(intro _ _ _); skip]) | split)); clear_value x) | clear_value x | skip)
    | with_reducible assumption | ((conv => (arg 3; arg 24; skip)); ((with_reducible apply Changes.media_sdm_with) <;> [rfl; rfl; skip])) | ((with_reducible apply Changes.step (State.activateHere_changes ..)) <;> [rfl; skip]) | ((with_reducible apply Changes.step (State.arrive_changes ..)) <;> [rfl; skip]) | ((with_reducible apply Changes.step (State.dropReads_changes ..)) <;> [rfl; skip]) | ((with_reducible apply Changes.step (State.followPs_changes ..)) <;> [rfl; skip]) | ((with_reducible apply Changes.step (State.releaseByReset_changes ..)) <;> [rfl; skip]) | ((with_reducible apply Changes.step (State.resetCmd_changes ..)) <;> [rfl; skip]) | ((with_reducible apply Changes.step (State.resetFerry_changes ..)) <;> [rfl; skip]) | ((with_reducible apply Changes.step (State.resetKeys_changes ..)) <;> [rfl; skip]) | ((with_reducible apply Changes.step (State.resetMbox_changes ..)) <;> [rfl; skip]) | ((with_reducible apply Changes.step (State.resize_changes ..)) <;> [rfl; skip]) | ((with_reducible apply Changes.step (State.resumeAll_changes ..)) <;> [rfl; skip]) | ((with_reducible apply Changes.step (State.setCtrl_changes ..)) <;> [rfl; skip]) | ((with_reducible apply Changes.foldl) <;> [(intro _ _ _); skip])
    | split)

theorem State.controllerReset_changes (s : State) (p : Fin 2) :
    Changes [.phase, .tb, .pace, .avs, .evr, .clocks, .cmq, .land, .media, .plp, .ports, .dram, .sdm, .vault, .sec, .bst, .boot, .pws, .dict, .board, .out, .free] s (State.controllerReset s p) := by
  have h0 := Changes.refl [.phase, .tb, .pace, .avs, .evr, .clocks, .cmq, .land, .media, .plp, .ports, .dram, .sdm, .vault, .sec, .bst, .boot, .pws, .dict, .board, .out, .free] s
  unfold State.controllerReset
  repeat' (first
    | ((first | intro x | (lift_lets; intro x)); first | (guard_hyp x : State := _; have hx : Changes [.phase, .tb, .pace, .avs, .evr, .clocks, .cmq, .land, .media, .plp, .ports, .dram, .sdm, .vault, .sec, .bst, .boot, .pws, .dict, .board, .out, .free] s x := (by unfold x; repeat' (first | with_reducible assumption | ((conv => (arg 3; arg 24; skip)); ((with_reducible apply Changes.dram_with) <;> [rfl; skip])) | ((with_reducible apply Changes.step (State.coldInPlace_changes ..)) <;> [rfl; skip]) | ((with_reducible apply Changes.step (State.endCmd_changes ..)) <;> [rfl; skip]) | ((with_reducible apply Changes.step (State.resetCtrl_changes ..)) <;> [rfl; skip]) | ((with_reducible apply Changes.step (State.resetMbox_changes ..)) <;> [rfl; skip]) | ((with_reducible apply Changes.step (State.setCtrl_changes ..)) <;> [rfl; skip]) | ((with_reducible apply Changes.step (State.setPws_changes ..)) <;> [rfl; skip]) | ((with_reducible apply Changes.foldl) <;> [(intro _ _ _); skip]) | split)); clear_value x) | clear_value x | skip)
    | with_reducible assumption | ((conv => (arg 3; arg 24; skip)); ((with_reducible apply Changes.dram_with) <;> [rfl; skip])) | ((with_reducible apply Changes.step (State.coldInPlace_changes ..)) <;> [rfl; skip]) | ((with_reducible apply Changes.step (State.endCmd_changes ..)) <;> [rfl; skip]) | ((with_reducible apply Changes.step (State.resetCtrl_changes ..)) <;> [rfl; skip]) | ((with_reducible apply Changes.step (State.resetMbox_changes ..)) <;> [rfl; skip]) | ((with_reducible apply Changes.step (State.setCtrl_changes ..)) <;> [rfl; skip]) | ((with_reducible apply Changes.step (State.setPws_changes ..)) <;> [rfl; skip]) | ((with_reducible apply Changes.foldl) <;> [(intro _ _ _); skip])
    | split)

theorem State.ccEnable_changes (s : State) (p : Fin 2) (wrr : Bool) (asqs : Nat) (acqs : Nat) :
    Changes [.cmq] s (State.ccEnable s p wrr asqs acqs) := by
  have h0 := Changes.refl [.cmq] s
  unfold State.ccEnable
  repeat' (first | with_reducible assumption | ((with_reducible apply Changes.step (State.setCtrl_changes ..)) <;> [rfl; skip]) | ((with_reducible apply Changes.step (State.tryReady_changes ..)) <;> [rfl; skip]) | ((with_reducible apply Changes.foldl) <;> [(intro _ _ _); skip]) | split)

theorem State.clearConfig_changes (s : State) (p : Fin 2) :
    Changes [.ports] s (State.clearConfig s p) := by
  have h0 := Changes.refl [.ports] s
  unfold State.clearConfig
  repeat' (first | with_reducible assumption | ((with_reducible apply Changes.step (State.setPort_changes ..)) <;> [rfl; skip]) | ((with_reducible apply Changes.foldl) <;> [(intro _ _ _); skip]) | split)

theorem State.linkReset_changes (s : State) (p : Fin 2) (l : LinkSt) :
    Changes [.phase, .tb, .pace, .avs, .evr, .clocks, .cmq, .land, .media, .plp, .ports, .dram, .sdm, .vault, .sec, .bst, .boot, .pws, .dict, .board, .out, .free] s (State.linkReset s p l) := by
  have h0 := Changes.refl [.phase, .tb, .pace, .avs, .evr, .clocks, .cmq, .land, .media, .plp, .ports, .dram, .sdm, .vault, .sec, .bst, .boot, .pws, .dict, .board, .out, .free] s
  unfold State.linkReset
  repeat' (first | with_reducible assumption | ((with_reducible apply Changes.step (State.clearConfig_changes ..)) <;> [rfl; skip]) | ((with_reducible apply Changes.step (State.controllerReset_changes ..)) <;> [rfl; skip]) | ((with_reducible apply Changes.step (State.setPort_changes ..)) <;> [rfl; skip]) | ((with_reducible apply Changes.foldl) <;> [(intro _ _ _); skip]) | split)

theorem State.refclkRuns_changes (s : State) :
    Changes [.tb] s (State.refclkRuns s) := by
  have h0 := Changes.refl [.tb] s
  unfold State.refclkRuns
  repeat' (first
    | ((first | intro x | (lift_lets; intro x)); first | (guard_hyp x : State := _; have hx : Changes [.tb] s x := (by unfold x; repeat' (first | with_reducible assumption | ((conv => (arg 3; arg 24; skip)); ((with_reducible apply Changes.tb_with) <;> [rfl; skip])) | ((with_reducible apply Changes.foldl) <;> [(intro _ _ _); skip]) | split)); clear_value x) | clear_value x | skip)
    | with_reducible assumption | ((conv => (arg 3; arg 24; skip)); ((with_reducible apply Changes.tb_with) <;> [rfl; skip])) | ((with_reducible apply Changes.foldl) <;> [(intro _ _ _); skip])
    | split)

theorem State.perstOff_changes (s : State) (p : Fin 2) :
    Changes [.phase, .tb, .ports, .pws, .out] s (State.perstOff s p) := by
  have h0 := Changes.refl [.phase, .tb, .ports, .pws, .out] s
  unfold State.perstOff
  repeat' (first
    | ((first | intro x | (lift_lets; intro x)); first | (guard_hyp x : State := _; have hx : Changes [.phase, .tb, .ports, .pws, .out] s x := (by unfold x; repeat' (first | with_reducible assumption | ((conv => (arg 3; arg 24; skip)); ((with_reducible apply Changes.phase_with) <;> [rfl; skip])) | ((with_reducible apply Changes.step (State.emits_changes ..)) <;> [rfl; skip]) | ((with_reducible apply Changes.step (State.enableFirst_changes ..)) <;> [rfl; skip]) | ((with_reducible apply Changes.step (State.refclkRuns_changes ..)) <;> [rfl; skip]) | ((with_reducible apply Changes.step (State.setLink_changes ..)) <;> [rfl; skip]) | ((with_reducible apply Changes.step (State.setPort_changes ..)) <;> [rfl; skip]) | ((with_reducible apply Changes.step (State.setPws_changes ..)) <;> [rfl; skip]) | ((with_reducible apply Changes.foldl) <;> [(intro _ _ _); skip]) | split)); clear_value x) | clear_value x | skip)
    | with_reducible assumption | ((conv => (arg 3; arg 24; skip)); ((with_reducible apply Changes.phase_with) <;> [rfl; skip])) | ((with_reducible apply Changes.step (State.emits_changes ..)) <;> [rfl; skip]) | ((with_reducible apply Changes.step (State.enableFirst_changes ..)) <;> [rfl; skip]) | ((with_reducible apply Changes.step (State.refclkRuns_changes ..)) <;> [rfl; skip]) | ((with_reducible apply Changes.step (State.setLink_changes ..)) <;> [rfl; skip]) | ((with_reducible apply Changes.step (State.setPort_changes ..)) <;> [rfl; skip]) | ((with_reducible apply Changes.step (State.setPws_changes ..)) <;> [rfl; skip]) | ((with_reducible apply Changes.foldl) <;> [(intro _ _ _); skip])
    | split)

theorem State.closeOpen_changes (s : State) (p : Fin 2) :
    Changes [.land, .media, .out] s (State.closeOpen s p) := by
  have h0 := Changes.refl [.land, .media, .out] s
  unfold State.closeOpen
  repeat' (first | with_reducible assumption | ((with_reducible apply Changes.step (State.copiesGo_changes ..)) <;> [rfl; skip]) | ((with_reducible apply Changes.step (State.drain_changes ..)) <;> [rfl; skip]) | ((with_reducible apply Changes.foldl) <;> [(intro _ _ _); skip]) | split)

theorem State.shutdownNormal_changes (s : State) (p : Fin 2) :
    Changes [.evr, .cmq, .land, .media, .boot, .out] s (State.shutdownNormal s p) := by
  have h0 := Changes.refl [.evr, .cmq, .land, .media, .boot, .out] s
  unfold State.shutdownNormal
  repeat' (first
    | ((first | intro x | (lift_lets; intro x)); first | (guard_hyp x : State := _; have hx : Changes [.evr, .cmq, .land, .media, .boot, .out] s x := (by unfold x; repeat' (first | with_reducible assumption | ((with_reducible apply Changes.step (State.checkpoint_changes ..)) <;> [rfl; skip]) | ((with_reducible apply Changes.step (State.closeOpen_changes ..)) <;> [rfl; skip]) | ((with_reducible apply Changes.step (State.setBoot_changes ..)) <;> [rfl; skip]) | ((with_reducible apply Changes.step (State.setCtrl_changes ..)) <;> [rfl; skip]) | ((with_reducible apply Changes.step (State.suppSummary_changes ..)) <;> [rfl; skip]) | ((with_reducible apply Changes.foldl) <;> [(intro _ _ _); skip]) | split)); clear_value x) | clear_value x | skip)
    | with_reducible assumption | ((with_reducible apply Changes.step (State.checkpoint_changes ..)) <;> [rfl; skip]) | ((with_reducible apply Changes.step (State.closeOpen_changes ..)) <;> [rfl; skip]) | ((with_reducible apply Changes.step (State.setBoot_changes ..)) <;> [rfl; skip]) | ((with_reducible apply Changes.step (State.setCtrl_changes ..)) <;> [rfl; skip]) | ((with_reducible apply Changes.step (State.suppSummary_changes ..)) <;> [rfl; skip]) | ((with_reducible apply Changes.foldl) <;> [(intro _ _ _); skip])
    | split)

theorem State.shutdownAbrupt_changes (s : State) (p : Fin 2) :
    Changes [.cmq, .land, .media, .boot, .out] s (State.shutdownAbrupt s p) := by
  have h0 := Changes.refl [.cmq, .land, .media, .boot, .out] s
  unfold State.shutdownAbrupt
  repeat' (first
    | ((first | intro x | (lift_lets; intro x)); first | (guard_hyp x : State := _; have hx : Changes [.cmq, .land, .media, .boot, .out] s x := (by unfold x; repeat' (first | with_reducible assumption | ((with_reducible apply Changes.step (State.closeOpen_changes ..)) <;> [rfl; skip]) | ((with_reducible apply Changes.step (State.setBoot_changes ..)) <;> [rfl; skip]) | ((with_reducible apply Changes.step (State.setCtrl_changes ..)) <;> [rfl; skip]) | ((with_reducible apply Changes.foldl) <;> [(intro _ _ _); skip]) | split)); clear_value x) | clear_value x | skip)
    | with_reducible assumption | ((with_reducible apply Changes.step (State.closeOpen_changes ..)) <;> [rfl; skip]) | ((with_reducible apply Changes.step (State.setBoot_changes ..)) <;> [rfl; skip]) | ((with_reducible apply Changes.step (State.setCtrl_changes ..)) <;> [rfl; skip]) | ((with_reducible apply Changes.foldl) <;> [(intro _ _ _); skip])
    | split)

theorem State.postFate_changes (s : State) (p : Fin 2) (f : Fate) :
    Changes [.cmq, .ports, .out] s (State.postFate s p f) := by
  have h0 := Changes.refl [.cmq, .ports, .out] s
  unfold State.postFate
  repeat' (first | with_reducible assumption | ((with_reducible apply Changes.step (State.post_changes ..)) <;> [rfl; skip]) | ((with_reducible apply Changes.foldl) <;> [(intro _ _ _); skip]) | split)

theorem State.resume_changes (s : State) (p : Fin 2) :
    Changes [.evr, .cmq, .land, .media, .ports, .out, .free] s (State.resume s p) := by
  have h0 := Changes.refl [.evr, .cmq, .land, .media, .ports, .out, .free] s
  unfold State.resume
  repeat' (first
    | ((first | intro x | (lift_lets; intro x)); first | (guard_hyp x : State := _; have hx : Changes [.evr, .cmq, .land, .media, .ports, .out, .free] s x := (by unfold x; repeat' (first | with_reducible assumption | ((with_reducible apply Changes.step (State.log_changes ..)) <;> [rfl; skip]) | ((with_reducible apply Changes.step (State.postFate_changes ..)) <;> [rfl; skip]) | ((with_reducible apply Changes.step (State.resumeAll_changes ..)) <;> [rfl; skip]) | ((with_reducible apply Changes.step (State.setPort_changes ..)) <;> [rfl; skip]) | ((with_reducible apply Changes.step (State.useLatched_changes ..)) <;> [rfl; skip]) | ((with_reducible apply Changes.foldl) <;> [(intro _ _ _); skip]) | split)); clear_value x) | clear_value x | skip)
    | with_reducible assumption | ((with_reducible apply Changes.step (State.log_changes ..)) <;> [rfl; skip]) | ((with_reducible apply Changes.step (State.postFate_changes ..)) <;> [rfl; skip]) | ((with_reducible apply Changes.step (State.resumeAll_changes ..)) <;> [rfl; skip]) | ((with_reducible apply Changes.step (State.setPort_changes ..)) <;> [rfl; skip]) | ((with_reducible apply Changes.step (State.useLatched_changes ..)) <;> [rfl; skip]) | ((with_reducible apply Changes.foldl) <;> [(intro _ _ _); skip])
    | split)

theorem State.writeCntCtl_changes (s : State) (p : Fin 2) (v : BitVec 32) :
    Changes [.evr, .cmq, .land, .media, .ports, .sdm, .bst, .boot, .out, .free] s (State.writeCntCtl s p v) := by
  have h0 := Changes.refl [.evr, .cmq, .land, .media, .ports, .sdm, .bst, .boot, .out, .free] s
  unfold State.writeCntCtl
  repeat' (first
    | ((first | intro x | (lift_lets; intro x)); first | (guard_hyp x : State := _; have hx : Changes [.evr, .cmq, .land, .media, .ports, .sdm, .bst, .boot, .out, .free] s x := (by unfold x; repeat' (first | with_reducible assumption | ((with_reducible apply Changes.step (State.resume_changes ..)) <;> [rfl; skip]) | ((with_reducible apply Changes.step (State.setPort_changes ..)) <;> [rfl; skip]) | ((with_reducible apply Changes.step (State.trip_changes ..)) <;> [rfl; skip]) | ((with_reducible apply Changes.foldl) <;> [(intro _ _ _); skip]) | split)); clear_value x) | clear_value x | skip)
    | with_reducible assumption | ((with_reducible apply Changes.step (State.resume_changes ..)) <;> [rfl; skip]) | ((with_reducible apply Changes.step (State.setPort_changes ..)) <;> [rfl; skip]) | ((with_reducible apply Changes.step (State.trip_changes ..)) <;> [rfl; skip]) | ((with_reducible apply Changes.foldl) <;> [(intro _ _ _); skip])
    | split)

theorem State.writeCntStat_changes (s : State) (p : Fin 2) (v : BitVec 32) :
    Changes [.ports] s (State.writeCntStat s p v) := by
  have h0 := Changes.refl [.ports] s
  unfold State.writeCntStat
  repeat' (first | with_reducible assumption | ((with_reducible apply Changes.step (State.setPort_changes ..)) <;> [rfl; skip]) | ((with_reducible apply Changes.foldl) <;> [(intro _ _ _); skip]) | split)

theorem State.configRequest_changes (s : State) (p : Fin 2) (offset : Nat) (wr : Option (BitVec 32)) :
    Changes [.evr, .cmq, .land, .media, .ports, .sdm, .bst, .boot, .out, .free] s (State.configRequest s p offset wr) := by
  have h0 := Changes.refl [.evr, .cmq, .land, .media, .ports, .sdm, .bst, .boot, .out, .free] s
  unfold State.configRequest
  repeat' (first
    | ((first | intro x | (lift_lets; intro x)); first | (guard_hyp x : State := _; have hx : Changes [.evr, .cmq, .land, .media, .ports, .sdm, .bst, .boot, .out, .free] s x := (by unfold x; repeat' (first | with_reducible assumption | ((with_reducible apply Changes.step (State.emit_changes ..)) <;> [rfl; skip]) | ((with_reducible apply Changes.step (State.setPort_changes ..)) <;> [rfl; skip]) | (((with_reducible apply State.whenLive_changes) <;> [(intro _ _); skip])) | ((with_reducible apply Changes.step (State.writeCntCtl_changes ..)) <;> [rfl; skip]) | ((with_reducible apply Changes.step (State.writeCntStat_changes ..)) <;> [rfl; skip]) | ((with_reducible apply Changes.foldl) <;> [(intro _ _ _); skip]) | split)); clear_value x) | clear_value x | skip)
    | with_reducible assumption | ((with_reducible apply Changes.step (State.emit_changes ..)) <;> [rfl; skip]) | ((with_reducible apply Changes.step (State.setPort_changes ..)) <;> [rfl; skip]) | (((with_reducible apply State.whenLive_changes) <;> [(intro _ _); skip])) | ((with_reducible apply Changes.step (State.writeCntCtl_changes ..)) <;> [rfl; skip]) | ((with_reducible apply Changes.step (State.writeCntStat_changes ..)) <;> [rfl; skip]) | ((with_reducible apply Changes.foldl) <;> [(intro _ _ _); skip])
    | split)

theorem State.auxRelease_changes (s : State) (peDual : Bool) (mbSel : Bool) (testScan : Bool) :
    Changes [.phase, .pws, .board, .out] s (State.auxRelease s peDual mbSel testScan) := by
  have h0 := Changes.refl [.phase, .pws, .board, .out] s
  unfold State.auxRelease
  repeat' (first
    | ((first | intro x | (lift_lets; intro x)); first | (guard_hyp x : State := _; have hx : Changes [.phase, .pws, .board, .out] s x := (by unfold x; repeat' (first | with_reducible assumption | ((conv => (arg 3; arg 24; skip)); ((with_reducible apply Changes.board_with) <;> [rfl; skip])) | ((conv => (arg 3; arg 24; skip)); ((with_reducible apply Changes.phase_with) <;> [rfl; skip])) | ((with_reducible apply Changes.step (State.enableFirst_changes ..)) <;> [rfl; skip]) | ((with_reducible apply Changes.foldl) <;> [(intro _ _ _); skip]) | split)); clear_value x) | clear_value x | skip)
    | with_reducible assumption | ((conv => (arg 3; arg 24; skip)); ((with_reducible apply Changes.board_with) <;> [rfl; skip])) | ((conv => (arg 3; arg 24; skip)); ((with_reducible apply Changes.phase_with) <;> [rfl; skip])) | ((with_reducible apply Changes.step (State.enableFirst_changes ..)) <;> [rfl; skip]) | ((with_reducible apply Changes.foldl) <;> [(intro _ _ _); skip])
    | split)

theorem State.selfTest_changes (s : State) (o : Nat × Nat × Byte) :
    Changes [.units, .evr, .free] s (State.selfTest s o) := by
  have h0 := Changes.refl [.units, .evr, .free] s
  unfold State.selfTest
  repeat' (first
    | ((first | intro x | (lift_lets; intro x)); first | (guard_hyp x : State := _; have hx : Changes [.units, .evr, .free] s x := (by unfold x; repeat' (first | with_reducible assumption | ((conv => (arg 3; arg 24; skip)); ((with_reducible apply Changes.free_with) <;> [rfl; skip])) | ((conv => (arg 3; arg 24; skip)); ((with_reducible apply Changes.units_with) <;> [rfl; skip])) | ((with_reducible apply Changes.step (State.returned_changes ..)) <;> [rfl; skip]) | ((with_reducible apply Changes.foldl) <;> [(intro _ _ _); skip]) | split)); clear_value x) | clear_value x | skip)
    | with_reducible assumption | ((conv => (arg 3; arg 24; skip)); ((with_reducible apply Changes.free_with) <;> [rfl; skip])) | ((conv => (arg 3; arg 24; skip)); ((with_reducible apply Changes.units_with) <;> [rfl; skip])) | ((with_reducible apply Changes.step (State.returned_changes ..)) <;> [rfl; skip]) | ((with_reducible apply Changes.foldl) <;> [(intro _ _ _); skip])
    | split)

theorem State.testDie_changes (s : State) (d : Nat) :
    Changes [.media, .free] s (State.testDie s d) := by
  have h0 := Changes.refl [.media, .free] s
  unfold State.testDie
  repeat' (first
    | ((first | intro x | (lift_lets; intro x)); first | (guard_hyp x : State := _; have hx : Changes [.media, .free] s x := (by unfold x; repeat' (first | with_reducible assumption | ((conv => (arg 3; arg 24; skip)); ((with_reducible apply Changes.free_with) <;> [rfl; skip])) | ((with_reducible apply Changes.step (State.setDie_changes ..)) <;> [rfl; skip]) | ((with_reducible apply Changes.foldl) <;> [(intro _ _ _); skip]) | split)); clear_value x) | clear_value x | skip)
    | with_reducible assumption | ((conv => (arg 3; arg 24; skip)); ((with_reducible apply Changes.free_with) <;> [rfl; skip])) | ((with_reducible apply Changes.step (State.setDie_changes ..)) <;> [rfl; skip]) | ((with_reducible apply Changes.foldl) <;> [(intro _ _ _); skip])
    | split)

theorem State.stillOut_changes (s : State) :
    Changes [.units, .media, .sec] s (State.stillOut s) := by
  have h0 := Changes.refl [.units, .media, .sec] s
  unfold State.stillOut
  repeat' (first | with_reducible assumption | ((conv => (arg 3; arg 24; skip)); ((with_reducible apply Changes.units_media_sec_with) <;> [rfl; rfl; rfl; skip])) | ((with_reducible apply Changes.foldl) <;> [(intro _ _ _); skip]) | split)

theorem State.bootFault_changes (s : State) (stage : Nat) :
    Changes [.phase, .evr] s (State.bootFault s stage) := by
  have h0 := Changes.refl [.phase, .evr] s
  unfold State.bootFault
  repeat' (first | with_reducible assumption | ((conv => (arg 3; arg 24; skip)); ((with_reducible apply Changes.phase_with) <;> [rfl; skip])) | ((with_reducible apply Changes.step (State.log_changes ..)) <;> [rfl; skip]) | ((with_reducible apply Changes.foldl) <;> [(intro _ _ _); skip]) | split)

theorem State.rom_changes (s : State) (calibOk : Bool) (loaderOk : Bool) (pfailLow : Bool) :
    Changes [.phase, .units, .evr, .clocks, .media, .plp, .sec, .bst, .free] s (State.rom s calibOk loaderOk pfailLow) := by
  have h0 := Changes.refl [.phase, .units, .evr, .clocks, .media, .plp, .sec, .bst, .free] s
  unfold State.rom
  repeat' (first
    | ((first | intro x | (lift_lets; intro x)); first | (guard_hyp x : State := _; have hx : Changes [.phase, .units, .evr, .clocks, .media, .plp, .sec, .bst, .free] s x := (by unfold x; repeat' (first | with_reducible assumption | ((conv => (arg 3; arg 24; skip)); ((with_reducible apply Changes.phase_with) <;> [rfl; skip])) | ((conv => (arg 3; arg 24; skip)); ((with_reducible apply Changes.plp_with) <;> [rfl; skip])) | ((conv => (arg 3; arg 24; skip)); ((with_reducible apply Changes.units_clocks_bst_with) <;> [rfl; rfl; rfl; skip])) | ((with_reducible apply Changes.step (State.bootFault_changes ..)) <;> [rfl; skip]) | ((with_reducible apply Changes.step (State.log_changes ..)) <;> [rfl; skip]) | ((with_reducible apply Changes.step (State.selfTest_changes ..)) <;> [rfl; skip]) | ((with_reducible apply Changes.step (State.stillOut_changes ..)) <;> [rfl; skip]) | ((with_reducible apply Changes.step (State.testDie_changes ..)) <;> [rfl; skip]) | ((with_reducible apply Changes.foldl) <;> [(intro _ _ _); skip]) | split)); clear_value x) | clear_value x | skip)
    | with_reducible assumption | ((conv => (arg 3; arg 24; skip)); ((with_reducible apply Changes.phase_with) <;> [rfl; skip])) | ((conv => (arg 3; arg 24; skip)); ((with_reducible apply Changes.plp_with) <;> [rfl; skip])) | ((conv => (arg 3; arg 24; skip)); ((with_reducible apply Changes.units_clocks_bst_with) <;> [rfl; rfl; rfl; skip])) | ((with_reducible apply Changes.step (State.bootFault_changes ..)) <;> [rfl; skip]) | ((with_reducible apply Changes.step (State.log_changes ..)) <;> [rfl; skip]) | ((with_reducible apply Changes.step (State.selfTest_changes ..)) <;> [rfl; skip]) | ((with_reducible apply Changes.step (State.stillOut_changes ..)) <;> [rfl; skip]) | ((with_reducible apply Changes.step (State.testDie_changes ..)) <;> [rfl; skip]) | ((with_reducible apply Changes.foldl) <;> [(intro _ _ _); skip])
    | split)

theorem State.checkSectors_changes (s : State) :
    Changes [.evr, .bst, .boot] s (State.checkSectors s) := by
  have h0 := Changes.refl [.evr, .bst, .boot] s
  unfold State.checkSectors
  repeat' (first
    | ((first | intro x | (lift_lets; intro x)); first | (guard_hyp x : State := _; have hx : Changes [.evr, .bst, .boot] s x := (by unfold x; repeat' (first | with_reducible assumption | ((with_reducible apply Changes.step (State.clearStaging_changes ..)) <;> [rfl; skip]) | ((with_reducible apply Changes.step (State.log_changes ..)) <;> [rfl; skip]) | ((with_reducible apply Changes.step (State.logs_changes ..)) <;> [rfl; skip]) | ((with_reducible apply Changes.step (State.setBoot_changes ..)) <;> [rfl; skip]) | ((with_reducible apply Changes.step (State.setBst_changes ..)) <;> [rfl; skip]) | ((with_reducible apply Changes.foldl) <;> [(intro _ _ _); skip]) | split)); clear_value x) | clear_value x | skip)
    | with_reducible assumption | ((with_reducible apply Changes.step (State.clearStaging_changes ..)) <;> [rfl; skip]) | ((with_reducible apply Changes.step (State.log_changes ..)) <;> [rfl; skip]) | ((with_reducible apply Changes.step (State.logs_changes ..)) <;> [rfl; skip]) | ((with_reducible apply Changes.step (State.setBoot_changes ..)) <;> [rfl; skip]) | ((with_reducible apply Changes.step (State.setBst_changes ..)) <;> [rfl; skip]) | ((with_reducible apply Changes.foldl) <;> [(intro _ _ _); skip])
    | split)

theorem State.runImage_changes (s : State) (source : Nat) (img : List Byte) :
    Changes [.phase, .boot] s (State.runImage s source img) := by
  have h0 := Changes.refl [.phase, .boot] s
  unfold State.runImage
  repeat' (first | with_reducible assumption | ((conv => (arg 3; arg 24; skip)); ((with_reducible apply Changes.phase_boot_with) <;> [rfl; rfl; skip])) | ((with_reducible apply Changes.foldl) <;> [(intro _ _ _); skip]) | split)

theorem State.startTrial_changes (s : State) :
    Changes [.bst, .boot] s (State.startTrial s) := by
  have h0 := Changes.refl [.bst, .boot] s
  unfold State.startTrial
  repeat' (first
    | ((first | intro x | (lift_lets; intro x)); first | (guard_hyp x : State := _; have hx : Changes [.bst, .boot] s x := (by unfold x; repeat' (first | with_reducible assumption | ((with_reducible apply Changes.step (State.record_changes ..)) <;> [rfl; skip]) | ((with_reducible apply Changes.step (State.setBoot_changes ..)) <;> [rfl; skip]) | ((with_reducible apply Changes.foldl) <;> [(intro _ _ _); skip]) | split)); clear_value x) | clear_value x | skip)
    | with_reducible assumption | ((with_reducible apply Changes.step (State.record_changes ..)) <;> [rfl; skip]) | ((with_reducible apply Changes.step (State.setBoot_changes ..)) <;> [rfl; skip]) | ((with_reducible apply Changes.foldl) <;> [(intro _ _ _); skip])
    | split)

theorem State.choose_changes (s : State) (recoveryOk : Bool) :
    Changes [.phase, .evr, .bst, .boot] s (State.choose s recoveryOk) := by
  have h0 := Changes.refl [.phase, .evr, .bst, .boot] s
  unfold State.choose
  repeat' (first
    | ((first | intro x | (lift_lets; intro x)); first | (guard_hyp x : State := _; have hx : Changes [.phase, .evr, .bst, .boot] s x := (by unfold x; repeat' (first | with_reducible assumption | ((with_reducible apply Changes.step (State.bootFault_changes ..)) <;> [rfl; skip]) | ((with_reducible apply Changes.step (State.log_changes ..)) <;> [rfl; skip]) | ((with_reducible apply Changes.step (State.runImage_changes ..)) <;> [rfl; skip]) | ((with_reducible apply Changes.step (State.startTrial_changes ..)) <;> [rfl; skip]) | ((with_reducible apply Changes.foldl) <;> [(intro _ _ _); skip]) | split)); clear_value x) | clear_value x | skip)
    | with_reducible assumption | ((with_reducible apply Changes.step (State.bootFault_changes ..)) <;> [rfl; skip]) | ((with_reducible apply Changes.step (State.log_changes ..)) <;> [rfl; skip]) | ((with_reducible apply Changes.step (State.runImage_changes ..)) <;> [rfl; skip]) | ((with_reducible apply Changes.step (State.startTrial_changes ..)) <;> [rfl; skip]) | ((with_reducible apply Changes.foldl) <;> [(intro _ _ _); skip])
    | split)

theorem State.slipway_changes (s : State) (recoveryOk : Bool) :
    Changes [.phase, .evr, .bst, .boot] s (State.slipway s recoveryOk) := by
  have h0 := Changes.refl [.phase, .evr, .bst, .boot] s
  unfold State.slipway
  repeat' (first
    | ((first | intro x | (lift_lets; intro x)); first | (guard_hyp x : State := _; have hx : Changes [.phase, .evr, .bst, .boot] s x := (by unfold x; repeat' (first | with_reducible assumption | ((conv => (arg 3; arg 24; skip)); ((with_reducible apply Changes.evr_with) <;> [rfl; skip])) | ((with_reducible apply Changes.step (State.checkSectors_changes ..)) <;> [rfl; skip]) | ((with_reducible apply Changes.step (State.choose_changes ..)) <;> [rfl; skip]) | ((with_reducible apply Changes.step (State.loadRecord_changes ..)) <;> [rfl; skip]) | ((with_reducible apply Changes.step (State.record_changes ..)) <;> [rfl; skip]) | ((with_reducible apply Changes.step (State.setBoot_changes ..)) <;> [rfl; skip]) | ((with_reducible apply Changes.foldl) <;> [(intro _ _ _); skip]) | split)); clear_value x) | clear_value x | skip)
    | with_reducible assumption | ((conv => (arg 3; arg 24; skip)); ((with_reducible apply Changes.evr_with) <;> [rfl; skip])) | ((with_reducible apply Changes.step (State.checkSectors_changes ..)) <;> [rfl; skip]) | ((with_reducible apply Changes.step (State.choose_changes ..)) <;> [rfl; skip]) | ((with_reducible apply Changes.step (State.loadRecord_changes ..)) <;> [rfl; skip]) | ((with_reducible apply Changes.step (State.record_changes ..)) <;> [rfl; skip]) | ((with_reducible apply Changes.step (State.setBoot_changes ..)) <;> [rfl; skip]) | ((with_reducible apply Changes.foldl) <;> [(intro _ _ _); skip])
    | split)

theorem State.applyStored_changes (s : State) :
    Changes [.evr, .cmq, .land, .media, .plp, .ports, .dram, .sdm, .bst, .pws, .out, .free] s (State.applyStored s) := by
  have h0 := Changes.refl [.evr, .cmq, .land, .media, .plp, .ports, .dram, .sdm, .bst, .pws, .out, .free] s
  unfold State.applyStored
  repeat' (first
    | ((first | intro x | (lift_lets; intro x)); first | (guard_hyp x : State := _; have hx : Changes [.evr, .cmq, .land, .media, .plp, .ports, .dram, .sdm, .bst, .pws, .out, .free] s x := (by unfold x; repeat' (first | with_reducible assumption | ((with_reducible apply Changes.step (State.applyEntry_changes ..)) <;> [rfl; skip]) | ((with_reducible apply Changes.step (State.setDram_changes ..)) <;> [rfl; skip]) | ((with_reducible apply Changes.step (State.setPlp_changes ..)) <;> [rfl; skip]) | ((with_reducible apply Changes.foldl) <;> [(intro _ _ _); skip]) | split)); clear_value x) | clear_value x | skip)
    | with_reducible assumption | ((with_reducible apply Changes.step (State.applyEntry_changes ..)) <;> [rfl; skip]) | ((with_reducible apply Changes.step (State.setDram_changes ..)) <;> [rfl; skip]) | ((with_reducible apply Changes.step (State.setPlp_changes ..)) <;> [rfl; skip]) | ((with_reducible apply Changes.foldl) <;> [(intro _ _ _); skip])
    | split)

theorem State.loadPort_changes (s : State) (p : Fin 2) :
    Changes [.evr, .land, .ports] s (State.loadPort s p) := by
  have h0 := Changes.refl [.evr, .land, .ports] s
  unfold State.loadPort
  repeat' (first | with_reducible assumption | ((with_reducible apply Changes.step (State.resize_changes ..)) <;> [rfl; skip]) | ((with_reducible apply Changes.step (State.setPort_changes ..)) <;> [rfl; skip]) | ((with_reducible apply Changes.foldl) <;> [(intro _ _ _); skip]) | split)

theorem State.saysDegraded_changes (s : State) :
    Changes [.evr] s (State.saysDegraded s) := by
  have h0 := Changes.refl [.evr] s
  unfold State.saysDegraded
  repeat' (first | with_reducible assumption | ((with_reducible apply Changes.step (State.log_changes ..)) <;> [rfl; skip]) | ((with_reducible apply Changes.foldl) <;> [(intro _ _ _); skip]) | split)

theorem State.firmware_changes (s : State) :
    Changes [.phase, .evr, .cmq, .land, .media, .plp, .ports, .dram, .sdm, .bst, .boot, .pws, .dict, .out, .free] s (State.firmware s) := by
  have h0 := Changes.refl [.phase, .evr, .cmq, .land, .media, .plp, .ports, .dram, .sdm, .bst, .boot, .pws, .dict, .out, .free] s
  unfold State.firmware
  repeat' (first
    | ((first | intro x | (lift_lets; intro x)); first | (guard_hyp x : State := _; have hx : Changes [.phase, .evr, .cmq, .land, .media, .plp, .ports, .dram, .sdm, .bst, .boot, .pws, .dict, .out, .free] s x := (by unfold x; repeat' (first | with_reducible assumption | ((conv => (arg 3; arg 24; skip)); ((with_reducible apply Changes.phase_with) <;> [rfl; skip])) | ((with_reducible apply Changes.step (State.applyStored_changes ..)) <;> [rfl; skip]) | ((with_reducible apply Changes.step (State.fatal_changes ..)) <;> [rfl; skip]) | ((with_reducible apply Changes.step (State.loadPort_changes ..)) <;> [rfl; skip]) | ((with_reducible apply Changes.step (State.log_changes ..)) <;> [rfl; skip]) | ((with_reducible apply Changes.step (State.saysDegraded_changes ..)) <;> [rfl; skip]) | ((with_reducible apply Changes.step (State.serveDict_changes ..)) <;> [rfl; skip]) | ((with_reducible apply Changes.step (State.setMedia_changes ..)) <;> [rfl; skip]) | ((with_reducible apply Changes.step (State.startCharge_changes ..)) <;> [rfl; skip]) | ((with_reducible apply Changes.step (State.writeLedger_changes ..)) <;> [rfl; skip]) | ((with_reducible apply Changes.foldl) <;> [(intro _ _ _); skip]) | split)); clear_value x) | clear_value x | skip)
    | with_reducible assumption | ((conv => (arg 3; arg 24; skip)); ((with_reducible apply Changes.phase_with) <;> [rfl; skip])) | ((with_reducible apply Changes.step (State.applyStored_changes ..)) <;> [rfl; skip]) | ((with_reducible apply Changes.step (State.fatal_changes ..)) <;> [rfl; skip]) | ((with_reducible apply Changes.step (State.loadPort_changes ..)) <;> [rfl; skip]) | ((with_reducible apply Changes.step (State.log_changes ..)) <;> [rfl; skip]) | ((with_reducible apply Changes.step (State.saysDegraded_changes ..)) <;> [rfl; skip]) | ((with_reducible apply Changes.step (State.serveDict_changes ..)) <;> [rfl; skip]) | ((with_reducible apply Changes.step (State.setMedia_changes ..)) <;> [rfl; skip]) | ((with_reducible apply Changes.step (State.startCharge_changes ..)) <;> [rfl; skip]) | ((with_reducible apply Changes.step (State.writeLedger_changes ..)) <;> [rfl; skip]) | ((with_reducible apply Changes.foldl) <;> [(intro _ _ _); skip])
    | split)

theorem State.startLosses_changes (s : State) :
    Changes [.evr, .cmq, .land, .media, .plp, .ports, .out] s (State.startLosses s) := by
  have h0 := Changes.refl [.evr, .cmq, .land, .media, .plp, .ports, .out] s
  unfold State.startLosses
  repeat' (first
    | ((first | intro x | (lift_lets; intro x)); first | (guard_hyp x : State := _; have hx : Changes [.evr, .cmq, .land, .media, .plp, .ports, .out] s x := (by unfold x; repeat' (first | with_reducible assumption | ((with_reducible apply Changes.step (State.dieFails_changes ..)) <;> [rfl; skip]) | ((with_reducible apply Changes.step (State.isolate_changes ..)) <;> [rfl; skip]) | ((with_reducible apply Changes.foldl) <;> [(intro _ _ _); skip]) | split)); clear_value x) | clear_value x | skip)
    | with_reducible assumption | ((with_reducible apply Changes.step (State.dieFails_changes ..)) <;> [rfl; skip]) | ((with_reducible apply Changes.step (State.isolate_changes ..)) <;> [rfl; skip]) | ((with_reducible apply Changes.foldl) <;> [(intro _ _ _); skip])
    | split)

theorem State.takePopulation_changes (s : State) :
    Changes [.evr, .cmq, .land, .media, .plp, .ports, .out] s (State.takePopulation s) := by
  have h0 := Changes.refl [.evr, .cmq, .land, .media, .plp, .ports, .out] s
  unfold State.takePopulation
  repeat' (first
    | ((first | intro x | (lift_lets; intro x)); first | (guard_hyp x : State := _; have hx : Changes [.evr, .cmq, .land, .media, .plp, .ports, .out] s x := (by unfold x; repeat' (first | with_reducible assumption | ((with_reducible apply Changes.step (State.log_changes ..)) <;> [rfl; skip]) | ((with_reducible apply Changes.step (State.setMedia_changes ..)) <;> [rfl; skip]) | ((with_reducible apply Changes.step (State.startLosses_changes ..)) <;> [rfl; skip]) | ((with_reducible apply Changes.foldl) <;> [(intro _ _ _); skip]) | split)); clear_value x) | clear_value x | skip)
    | with_reducible assumption | ((with_reducible apply Changes.step (State.log_changes ..)) <;> [rfl; skip]) | ((with_reducible apply Changes.step (State.setMedia_changes ..)) <;> [rfl; skip]) | ((with_reducible apply Changes.step (State.startLosses_changes ..)) <;> [rfl; skip]) | ((with_reducible apply Changes.foldl) <;> [(intro _ _ _); skip])
    | split)

theorem State.channelsOn_changes (s : State) :
    Changes [.media] s (State.channelsOn s) := by
  have h0 := Changes.refl [.media] s
  unfold State.channelsOn
  repeat' (first
    | ((first | intro x | (lift_lets; intro x)); first | (guard_hyp x : State := _; have hx : Changes [.media] s x := (by unfold x; repeat' (first | with_reducible assumption | ((with_reducible apply Changes.step (State.setMedia_changes ..)) <;> [rfl; skip]) | ((with_reducible apply Changes.foldl) <;> [(intro _ _ _); skip]) | split)); clear_value x) | clear_value x | skip)
    | with_reducible assumption | ((with_reducible apply Changes.step (State.setMedia_changes ..)) <;> [rfl; skip]) | ((with_reducible apply Changes.foldl) <;> [(intro _ _ _); skip])
    | split)

theorem State.mediaGoesOn_changes (s : State) :
    Changes [.evr, .cmq, .land, .media, .plp, .ports, .out, .free] s (State.mediaGoesOn s) := by
  have h0 := Changes.refl [.evr, .cmq, .land, .media, .plp, .ports, .out, .free] s
  unfold State.mediaGoesOn
  repeat' (first
    | ((first | intro x | (lift_lets; intro x)); first | (guard_hyp x : State := _; have hx : Changes [.evr, .cmq, .land, .media, .plp, .ports, .out, .free] s x := (by unfold x; repeat' (first | with_reducible assumption | ((with_reducible apply Changes.step (State.dieReturns_changes ..)) <;> [rfl; skip]) | ((with_reducible apply Changes.step (State.loadNext_changes ..)) <;> [rfl; skip]) | ((with_reducible apply Changes.step (State.resumeRebuilds_changes ..)) <;> [rfl; skip]) | ((with_reducible apply Changes.step (State.returnErases_changes ..)) <;> [rfl; skip]) | ((with_reducible apply Changes.step (State.settleReads_changes ..)) <;> [rfl; skip]) | ((with_reducible apply Changes.foldl) <;> [(intro _ _ _); skip]) | split)); clear_value x) | clear_value x | skip)
    | with_reducible assumption | ((with_reducible apply Changes.step (State.dieReturns_changes ..)) <;> [rfl; skip]) | ((with_reducible apply Changes.step (State.loadNext_changes ..)) <;> [rfl; skip]) | ((with_reducible apply Changes.step (State.resumeRebuilds_changes ..)) <;> [rfl; skip]) | ((with_reducible apply Changes.step (State.returnErases_changes ..)) <;> [rfl; skip]) | ((with_reducible apply Changes.step (State.settleReads_changes ..)) <;> [rfl; skip]) | ((with_reducible apply Changes.foldl) <;> [(intro _ _ _); skip])
    | split)

theorem State.openBlocks_changes (s : State) :
    Changes [.media, .out] s (State.openBlocks s) := by
  have h0 := Changes.refl [.media, .out] s
  unfold State.openBlocks
  repeat' (first | with_reducible assumption | ((with_reducible apply Changes.step (State.setMedia_changes ..)) <;> [rfl; skip]) | ((with_reducible apply Changes.step (State.settleStripes_changes ..)) <;> [rfl; skip]) | ((with_reducible apply Changes.foldl) <;> [(intro _ _ _); skip]) | split)

theorem State.applyImage_changes (s : State) :
    Changes [.evr, .media] s (State.applyImage s) := by
  have h0 := Changes.refl [.evr, .media] s
  unfold State.applyImage
  repeat' (first
    | ((first | intro x | (lift_lets; intro x)); first | (guard_hyp x : State := _; have hx : Changes [.evr, .media] s x := (by unfold x; repeat' (first | with_reducible assumption | ((with_reducible apply Changes.step (State.log_changes ..)) <;> [rfl; skip]) | ((with_reducible apply Changes.step (State.raiseReads_changes ..)) <;> [rfl; skip]) | ((with_reducible apply Changes.step (State.setMedia_changes ..)) <;> [rfl; skip]) | ((with_reducible apply Changes.foldl) <;> [(intro _ _ _); skip]) | split)); clear_value x) | clear_value x | skip)
    | with_reducible assumption | ((with_reducible apply Changes.step (State.log_changes ..)) <;> [rfl; skip]) | ((with_reducible apply Changes.step (State.raiseReads_changes ..)) <;> [rfl; skip]) | ((with_reducible apply Changes.step (State.setMedia_changes ..)) <;> [rfl; skip]) | ((with_reducible apply Changes.foldl) <;> [(intro _ _ _); skip])
    | split)

theorem State.wakePorts_changes (s : State) :
    Changes [.cmq, .ports, .out] s (State.wakePorts s) := by
  have h0 := Changes.refl [.cmq, .ports, .out] s
  unfold State.wakePorts
  repeat' (first
    | ((first | intro x | (lift_lets; intro x)); first | (guard_hyp x : State := _; have hx : Changes [.cmq, .ports, .out] s x := (by unfold x; repeat' (first | with_reducible assumption | ((conv => (arg 3; arg 24; skip)); ((with_reducible apply Changes.ports_with) <;> [rfl; skip])) | ((with_reducible apply Changes.step (State.tryReady_changes ..)) <;> [rfl; skip]) | ((with_reducible apply Changes.step (State.useLatched_changes ..)) <;> [rfl; skip]) | ((with_reducible apply Changes.foldl) <;> [(intro _ _ _); skip]) | split)); clear_value x) | clear_value x | skip)
    | with_reducible assumption | ((conv => (arg 3; arg 24; skip)); ((with_reducible apply Changes.ports_with) <;> [rfl; skip])) | ((with_reducible apply Changes.step (State.tryReady_changes ..)) <;> [rfl; skip]) | ((with_reducible apply Changes.step (State.useLatched_changes ..)) <;> [rfl; skip]) | ((with_reducible apply Changes.foldl) <;> [(intro _ _ _); skip])
    | split)

theorem State.sayRecovery_changes (s : State) (ms : Nat) :
    Changes [.evr, .plp, .pws] s (State.sayRecovery s ms) := by
  have h0 := Changes.refl [.evr, .plp, .pws] s
  unfold State.sayRecovery
  repeat' (first
    | ((first | intro x | (lift_lets; intro x)); first | (guard_hyp x : State := _; have hx : Changes [.evr, .plp, .pws] s x := (by unfold x; repeat' (first | with_reducible assumption | ((with_reducible apply Changes.step (State.log_changes ..)) <;> [rfl; skip]) | ((with_reducible apply Changes.step (State.setPlp_changes ..)) <;> [rfl; skip]) | ((with_reducible apply Changes.step (State.setPws_changes ..)) <;> [rfl; skip]) | ((with_reducible apply Changes.foldl) <;> [(intro _ _ _); skip]) | split)); clear_value x) | clear_value x | skip)
    | with_reducible assumption | ((with_reducible apply Changes.step (State.log_changes ..)) <;> [rfl; skip]) | ((with_reducible apply Changes.step (State.setPlp_changes ..)) <;> [rfl; skip]) | ((with_reducible apply Changes.step (State.setPws_changes ..)) <;> [rfl; skip]) | ((with_reducible apply Changes.foldl) <;> [(intro _ _ _); skip])
    | split)

theorem State.recoveryEnds_changes (s : State) (ms : Nat) (broken : Option Nat) :
    Changes [.phase, .evr, .cmq, .land, .media, .plp, .ports, .boot, .pws, .out, .free] s (State.recoveryEnds s ms broken) := by
  have h0 := Changes.refl [.phase, .evr, .cmq, .land, .media, .plp, .ports, .boot, .pws, .out, .free] s
  unfold State.recoveryEnds
  repeat' (first
    | ((first | intro x | (lift_lets; intro x)); first | (guard_hyp x : State := _; have hx : Changes [.phase, .evr, .cmq, .land, .media, .plp, .ports, .boot, .pws, .out, .free] s x := (by unfold x; repeat' (first | with_reducible assumption | ((conv => (arg 3; arg 24; skip)); ((with_reducible apply Changes.phase_land_with) <;> [rfl; rfl; skip])) | ((with_reducible apply Changes.step (State.applyImage_changes ..)) <;> [rfl; skip]) | ((with_reducible apply Changes.step (State.channelsOn_changes ..)) <;> [rfl; skip]) | ((with_reducible apply Changes.step (State.log_changes ..)) <;> [rfl; skip]) | ((with_reducible apply Changes.step (State.mediaGoesOn_changes ..)) <;> [rfl; skip]) | ((with_reducible apply Changes.step (State.openBlocks_changes ..)) <;> [rfl; skip]) | ((with_reducible apply Changes.step (State.recompute_changes ..)) <;> [rfl; skip]) | ((with_reducible apply Changes.step (State.sayRecovery_changes ..)) <;> [rfl; skip]) | ((with_reducible apply Changes.step (State.setBoot_changes ..)) <;> [rfl; skip]) | ((with_reducible apply Changes.step (State.setMedia_changes ..)) <;> [rfl; skip]) | ((with_reducible apply Changes.step (State.takePopulation_changes ..)) <;> [rfl; skip]) | ((with_reducible apply Changes.step (State.wakePorts_changes ..)) <;> [rfl; skip]) | ((with_reducible apply Changes.foldl) <;> [(intro _ _ _); skip]) | split)); clear_value x) | clear_value x | skip)
    | with_reducible assumption | ((conv => (arg 3; arg 24; skip)); ((with_reducible apply Changes.phase_land_with) <;> [rfl; rfl; skip])) | ((with_reducible apply Changes.step (State.applyImage_changes ..)) <;> [rfl; skip]) | ((with_reducible apply Changes.step (State.channelsOn_changes ..)) <;> [rfl; skip]) | ((with_reducible apply Changes.step (State.log_changes ..)) <;> [rfl; skip]) | ((with_reducible apply Changes.step (State.mediaGoesOn_changes ..)) <;> [rfl; skip]) | ((with_reducible apply Changes.step (State.openBlocks_changes ..)) <;> [rfl; skip]) | ((with_reducible apply Changes.step (State.recompute_changes ..)) <;> [rfl; skip]) | ((with_reducible apply Changes.step (State.sayRecovery_changes ..)) <;> [rfl; skip]) | ((with_reducible apply Changes.step (State.setBoot_changes ..)) <;> [rfl; skip]) | ((with_reducible apply Changes.step (State.setMedia_changes ..)) <;> [rfl; skip]) | ((with_reducible apply Changes.step (State.takePopulation_changes ..)) <;> [rfl; skip]) | ((with_reducible apply Changes.step (State.wakePorts_changes ..)) <;> [rfl; skip]) | ((with_reducible apply Changes.foldl) <;> [(intro _ _ _); skip])
    | split)

theorem State.flushOff_changes (s : State) :
    Changes [.phase, .plp, .ports, .pws, .out] s (State.flushOff s) := by
  have h0 := Changes.refl [.phase, .plp, .ports, .pws, .out] s
  unfold State.flushOff
  dsimp only
  repeat' (first | with_reducible assumption | ((conv => (arg 3; arg 24; skip)); ((with_reducible apply Changes.phase_with) <;> [rfl; skip])) | ((with_reducible apply Changes.step (State.enablesFall_changes ..)) <;> [rfl; skip]) | ((with_reducible apply Changes.step (State.gates_changes ..)) <;> [rfl; skip]) | ((with_reducible apply Changes.step (State.linksDown_changes ..)) <;> [rfl; skip]) | ((with_reducible apply Changes.step (State.setPlp_changes ..)) <;> [rfl; skip]) | ((with_reducible apply Changes.step (State.setPws_changes ..)) <;> [rfl; skip]) | ((with_reducible apply Changes.foldl) <;> [(intro _ _ _); skip]) | split)

theorem State.expiryStart_changes (s : State) :
    Changes [.phase, .tb, .pace, .avs, .evr, .clocks, .cmq, .land, .media, .plp, .ports, .dram, .sdm, .vault, .sec, .bst, .boot, .pws, .dict, .board, .free] s (State.expiryStart s) := by
  have h0 := Changes.refl [.phase, .tb, .pace, .avs, .evr, .clocks, .cmq, .land, .media, .plp, .ports, .dram, .sdm, .vault, .sec, .bst, .boot, .pws, .dict, .board, .free] s
  unfold State.expiryStart
  repeat' (first | with_reducible assumption | ((with_reducible apply Changes.step (State.coldInPlace_changes ..)) <;> [rfl; skip]) | ((with_reducible apply Changes.step (State.setBoot_changes ..)) <;> [rfl; skip]) | ((with_reducible apply Changes.foldl) <;> [(intro _ _ _); skip]) | split)

theorem State.flushEnds_changes (s : State) (us : Nat) :
    Changes [.phase, .tb, .pace, .avs, .evr, .clocks, .cmq, .land, .media, .plp, .ports, .dram, .sdm, .vault, .sec, .bst, .boot, .pws, .dict, .board, .out, .free] s (State.flushEnds s us) := by
  have h0 := Changes.refl [.phase, .tb, .pace, .avs, .evr, .clocks, .cmq, .land, .media, .plp, .ports, .dram, .sdm, .vault, .sec, .bst, .boot, .pws, .dict, .board, .out, .free] s
  unfold State.flushEnds
  repeat' (first
    | ((first | intro x | (lift_lets; intro x)); first | (guard_hyp x : State := _; have hx : Changes [.phase, .tb, .pace, .avs, .evr, .clocks, .cmq, .land, .media, .plp, .ports, .dram, .sdm, .vault, .sec, .bst, .boot, .pws, .dict, .board, .out, .free] s x := (by unfold x; repeat' (first | with_reducible assumption | ((with_reducible apply Changes.step (State.expiryStart_changes ..)) <;> [rfl; skip]) | ((with_reducible apply Changes.step (State.flushAllChecks_changes ..)) <;> [rfl; skip]) | ((with_reducible apply Changes.step (State.flushOff_changes ..)) <;> [rfl; skip]) | ((with_reducible apply Changes.step (State.mark_changes ..)) <;> [rfl; skip]) | ((with_reducible apply Changes.step (State.thermalHold_changes ..)) <;> [rfl; skip]) | ((with_reducible apply Changes.foldl) <;> [(intro _ _ _); skip]) | split)); clear_value x) | clear_value x | skip)
    | with_reducible assumption | ((with_reducible apply Changes.step (State.expiryStart_changes ..)) <;> [rfl; skip]) | ((with_reducible apply Changes.step (State.flushAllChecks_changes ..)) <;> [rfl; skip]) | ((with_reducible apply Changes.step (State.flushOff_changes ..)) <;> [rfl; skip]) | ((with_reducible apply Changes.step (State.mark_changes ..)) <;> [rfl; skip]) | ((with_reducible apply Changes.step (State.thermalHold_changes ..)) <;> [rfl; skip]) | ((with_reducible apply Changes.foldl) <;> [(intro _ _ _); skip])
    | split)

theorem State.trialExpires_changes (s : State) :
    Changes [.phase, .tb, .pace, .avs, .evr, .clocks, .cmq, .land, .media, .plp, .ports, .dram, .sdm, .vault, .sec, .bst, .boot, .pws, .dict, .board, .out, .free] s (State.trialExpires s) := by
  have h0 := Changes.refl [.phase, .tb, .pace, .avs, .evr, .clocks, .cmq, .land, .media, .plp, .ports, .dram, .sdm, .vault, .sec, .bst, .boot, .pws, .dict, .board, .out, .free] s
  unfold State.trialExpires
  repeat' (first
    | ((first | intro x | (lift_lets; intro x)); first | (guard_hyp x : State := _; have hx : Changes [.phase, .tb, .pace, .avs, .evr, .clocks, .cmq, .land, .media, .plp, .ports, .dram, .sdm, .vault, .sec, .bst, .boot, .pws, .dict, .board, .out, .free] s x := (by unfold x; repeat' (first | with_reducible assumption | ((conv => (arg 3; arg 24; skip)); ((with_reducible apply Changes.phase_with) <;> [rfl; skip])) | ((with_reducible apply Changes.step (State.expiryStart_changes ..)) <;> [rfl; skip]) | ((with_reducible apply Changes.step (State.flushBody_changes ..)) <;> [rfl; skip]) | ((with_reducible apply Changes.step (State.log_changes ..)) <;> [rfl; skip]) | ((with_reducible apply Changes.step (State.setBoot_changes ..)) <;> [rfl; skip]) | ((with_reducible apply Changes.step (State.setPws_changes ..)) <;> [rfl; skip]) | ((with_reducible apply Changes.foldl) <;> [(intro _ _ _); skip]) | split)); clear_value x) | clear_value x | skip)
    | with_reducible assumption | ((conv => (arg 3; arg 24; skip)); ((with_reducible apply Changes.phase_with) <;> [rfl; skip])) | ((with_reducible apply Changes.step (State.expiryStart_changes ..)) <;> [rfl; skip]) | ((with_reducible apply Changes.step (State.flushBody_changes ..)) <;> [rfl; skip]) | ((with_reducible apply Changes.step (State.log_changes ..)) <;> [rfl; skip]) | ((with_reducible apply Changes.step (State.setBoot_changes ..)) <;> [rfl; skip]) | ((with_reducible apply Changes.step (State.setPws_changes ..)) <;> [rfl; skip]) | ((with_reducible apply Changes.foldl) <;> [(intro _ _ _); skip])
    | split)

theorem State.watchdogReset_changes (s : State) :
    Changes [.phase, .tb, .pace, .avs, .evr, .clocks, .cmq, .land, .media, .plp, .ports, .dram, .sdm, .vault, .sec, .bst, .boot, .pws, .dict, .board, .out, .free] s (State.watchdogReset s) := by
  have h0 := Changes.refl [.phase, .tb, .pace, .avs, .evr, .clocks, .cmq, .land, .media, .plp, .ports, .dram, .sdm, .vault, .sec, .bst, .boot, .pws, .dict, .board, .out, .free] s
  unfold State.watchdogReset
  repeat' (first | with_reducible assumption | ((with_reducible apply Changes.step (State.bstStop_changes ..)) <;> [rfl; skip]) | ((with_reducible apply Changes.step (State.coldInPlace_changes ..)) <;> [rfl; skip]) | ((with_reducible apply Changes.step (State.setBoot_changes ..)) <;> [rfl; skip]) | ((with_reducible apply Changes.foldl) <;> [(intro _ _ _); skip]) | split)

theorem State.wakeUp_changes (s : State) :
    Changes [.phase, .tb, .pace, .avs, .evr, .clocks, .cmq, .land, .media, .plp, .ports, .dram, .sdm, .vault, .sec, .bst, .boot, .pws, .dict, .board, .out, .free] s (State.wakeUp s) := by
  have h0 := Changes.refl [.phase, .tb, .pace, .avs, .evr, .clocks, .cmq, .land, .media, .plp, .ports, .dram, .sdm, .vault, .sec, .bst, .boot, .pws, .dict, .board, .out, .free] s
  unfold State.wakeUp
  repeat' (first
    | ((first | intro x | (lift_lets; intro x)); first | (guard_hyp x : State := _; have hx : Changes [.phase, .tb, .pace, .avs, .evr, .clocks, .cmq, .land, .media, .plp, .ports, .dram, .sdm, .vault, .sec, .bst, .boot, .pws, .dict, .board, .out, .free] s x := (by unfold x; repeat' (first | with_reducible assumption | ((conv => (arg 3; arg 24; skip)); ((with_reducible apply Changes.cmq_media_ports_sec_bst_boot_pws_dict_board_with) <;> [rfl; rfl; rfl; rfl; rfl; rfl; rfl; rfl; rfl; skip])) | ((with_reducible apply Changes.step (State.coldFromOff_changes ..)) <;> [rfl; skip]) | ((with_reducible apply Changes.foldl) <;> [(intro _ _ _); skip]) | split)); clear_value x) | clear_value x | skip)
    | with_reducible assumption | ((conv => (arg 3; arg 24; skip)); ((with_reducible apply Changes.cmq_media_ports_sec_bst_boot_pws_dict_board_with) <;> [rfl; rfl; rfl; rfl; rfl; rfl; rfl; rfl; rfl; skip])) | ((with_reducible apply Changes.step (State.coldFromOff_changes ..)) <;> [rfl; skip]) | ((with_reducible apply Changes.foldl) <;> [(intro _ _ _); skip])
    | split)

theorem State.whenAux_changes {ps : List Part} (s : State) (f : State → State) (s0 : State) (h : ∀ y0, Changes ps s0 y0 → Changes ps s0 (f y0)) (k : Changes ps s0 s) : Changes ps s0 (State.whenAux s f) := by
  unfold State.whenAux
  repeat' (first | with_reducible assumption | fail | ((with_reducible apply h)) | fail | intro x | split)

theorem State.setBoard_changes (s : State) (f : Board → Board) :
    Changes [.board] s (State.setBoard s f) := by
  have h0 := Changes.refl [.board] s
  unfold State.setBoard
  repeat' (first | with_reducible assumption | ((conv => (arg 3; arg 24; skip)); ((with_reducible apply Changes.board_with) <;> [rfl; skip])) | ((with_reducible apply Changes.foldl) <;> [(intro _ _ _); skip]) | split)

theorem State.ledCheck_changes (s : State) (k : Fin 3) (kind : BitVec 2) :
    Changes [.evr, .board, .out] s (State.ledCheck s k kind) := by
  have h0 := Changes.refl [.evr, .board, .out] s
  unfold State.ledCheck
  repeat' (first
    | ((first | intro x | (lift_lets; intro x)); first | (guard_hyp x : State := _; have hx : Changes [.evr, .board, .out] s x := (by unfold x; repeat' (first | with_reducible assumption | ((with_reducible apply Changes.step (State.emit_changes ..)) <;> [rfl; skip]) | ((with_reducible apply Changes.step (State.log_changes ..)) <;> [rfl; skip]) | ((with_reducible apply Changes.step (State.setBoard_changes ..)) <;> [rfl; skip]) | ((with_reducible apply Changes.foldl) <;> [(intro _ _ _); skip]) | split)); clear_value x) | clear_value x | skip)
    | with_reducible assumption | ((with_reducible apply Changes.step (State.emit_changes ..)) <;> [rfl; skip]) | ((with_reducible apply Changes.step (State.log_changes ..)) <;> [rfl; skip]) | ((with_reducible apply Changes.step (State.setBoard_changes ..)) <;> [rfl; skip]) | ((with_reducible apply Changes.foldl) <;> [(intro _ _ _); skip])
    | split)

theorem State.btnPress_changes (s : State) (ms : Nat) :
    Changes [.evr, .board, .out] s (State.btnPress s ms) := by
  have h0 := Changes.refl [.evr, .board, .out] s
  unfold State.btnPress
  repeat' (first | with_reducible assumption | ((with_reducible apply Changes.step (State.emit_changes ..)) <;> [rfl; skip]) | ((with_reducible apply Changes.step (State.log_changes ..)) <;> [rfl; skip]) | ((with_reducible apply Changes.step (State.setBoard_changes ..)) <;> [rfl; skip]) | ((with_reducible apply Changes.foldl) <;> [(intro _ _ _); skip]) | split)

theorem State.probe_changes (s : State) (here : Bool) :
    Changes [.evr, .board] s (State.probe s here) := by
  have h0 := Changes.refl [.evr, .board] s
  unfold State.probe
  repeat' (first | with_reducible assumption | ((with_reducible apply Changes.step (State.log_changes ..)) <;> [rfl; skip]) | ((with_reducible apply Changes.step (State.setBoard_changes ..)) <;> [rfl; skip]) | ((with_reducible apply Changes.foldl) <;> [(intro _ _ _); skip]) | split)

theorem State.writeSys_changes (s : State) (v : BitVec 32) (x0 : Reg) :
    Changes [.tb, .pace, .evr, .boot, .dict] s (State.writeSys s v x0) := by
  have h0 := Changes.refl [.tb, .pace, .evr, .boot, .dict] s
  unfold State.writeSys
  repeat' (first
    | ((first | intro x | (lift_lets; intro x)); first | (guard_hyp x : State := _; have hx : Changes [.tb, .pace, .evr, .boot, .dict] s x := (by unfold x; repeat' (first | with_reducible assumption | ((conv => (arg 3; arg 24; skip)); ((with_reducible apply Changes.boot_with) <;> [rfl; skip])) | ((conv => (arg 3; arg 24; skip)); ((with_reducible apply Changes.pace_with) <;> [rfl; skip])) | ((conv => (arg 3; arg 24; skip)); ((with_reducible apply Changes.tb_with) <;> [rfl; skip])) | ((with_reducible apply Changes.step (State.setMbox_changes ..)) <;> [rfl; skip]) | ((with_reducible apply Changes.step (State.tbSelect_changes ..)) <;> [rfl; skip]) | ((with_reducible apply Changes.foldl) <;> [(intro _ _ _); skip]) | split)); clear_value x) | clear_value x | skip)
    | with_reducible assumption | ((conv => (arg 3; arg 24; skip)); ((with_reducible apply Changes.boot_with) <;> [rfl; skip])) | ((conv => (arg 3; arg 24; skip)); ((with_reducible apply Changes.pace_with) <;> [rfl; skip])) | ((conv => (arg 3; arg 24; skip)); ((with_reducible apply Changes.tb_with) <;> [rfl; skip])) | ((with_reducible apply Changes.step (State.setMbox_changes ..)) <;> [rfl; skip]) | ((with_reducible apply Changes.step (State.tbSelect_changes ..)) <;> [rfl; skip]) | ((with_reducible apply Changes.foldl) <;> [(intro _ _ _); skip])
    | split)

theorem State.writeChannels_changes (s : State) (v : BitVec 32) (x0 : Reg) :
    Changes [.media] s (State.writeChannels s v x0) := by
  have h0 := Changes.refl [.media] s
  unfold State.writeChannels
  repeat' (first | with_reducible assumption | ((with_reducible apply Changes.step (State.setMedia_changes ..)) <;> [rfl; skip]) | ((with_reducible apply Changes.foldl) <;> [(intro _ _ _); skip]) | split)

theorem State.setExpArea_changes (s : State) (p : Fin 2) (f : ExpArea → ExpArea) :
    Changes [.media] s (State.setExpArea s p f) := by
  have h0 := Changes.refl [.media] s
  unfold State.setExpArea
  repeat' (first | with_reducible assumption | ((with_reducible apply Changes.step (State.setMedia_changes ..)) <;> [rfl; skip]) | ((with_reducible apply Changes.foldl) <;> [(intro _ _ _); skip]) | split)

theorem State.writeExport_changes (s : State) (p : Fin 2) (w : Nat) (v : BitVec 32) :
    Changes [.evr, .media, .out] s (State.writeExport s p w v) := by
  have h0 := Changes.refl [.evr, .media, .out] s
  unfold State.writeExport
  repeat' (first | with_reducible assumption | ((with_reducible apply Changes.step (State.expGo_changes ..)) <;> [rfl; skip]) | ((with_reducible apply Changes.step (State.setExpArea_changes ..)) <;> [rfl; skip]) | ((with_reducible apply Changes.step (State.writeChannels_changes ..)) <;> [rfl; skip]) | ((with_reducible apply Changes.foldl) <;> [(intro _ _ _); skip]) | split)

theorem State.writeFlash_changes (s : State) (v : BitVec 32) (x0 : Reg) :
    Changes [.evr, .cmq, .land, .media, .plp, .ports, .out] s (State.writeFlash s v x0) := by
  have h0 := Changes.refl [.evr, .cmq, .land, .media, .plp, .ports, .out] s
  unfold State.writeFlash
  repeat' (first
    | ((first | intro x | (lift_lets; intro x)); first | (guard_hyp x : State := _; have hx : Changes [.evr, .cmq, .land, .media, .plp, .ports, .out] s x := (by unfold x; repeat' (first | with_reducible assumption | ((with_reducible apply Changes.step (State.isolate_changes ..)) <;> [rfl; skip]) | ((with_reducible apply Changes.step (State.pumpChannel_changes ..)) <;> [rfl; skip]) | ((with_reducible apply Changes.step (State.setFch_changes ..)) <;> [rfl; skip]) | ((with_reducible apply Changes.step (State.setMedia_changes ..)) <;> [rfl; skip]) | ((with_reducible apply Changes.foldl) <;> [(intro _ _ _); skip]) | split)); clear_value x) | clear_value x | skip)
    | with_reducible assumption | ((with_reducible apply Changes.step (State.isolate_changes ..)) <;> [rfl; skip]) | ((with_reducible apply Changes.step (State.pumpChannel_changes ..)) <;> [rfl; skip]) | ((with_reducible apply Changes.step (State.setFch_changes ..)) <;> [rfl; skip]) | ((with_reducible apply Changes.step (State.setMedia_changes ..)) <;> [rfl; skip]) | ((with_reducible apply Changes.foldl) <;> [(intro _ _ _); skip])
    | split)

theorem State.chargeDisable_changes (s : State) :
    Changes [.evr, .land, .plp, .ports, .out] s (State.chargeDisable s) := by
  have h0 := Changes.refl [.evr, .land, .plp, .ports, .out] s
  unfold State.chargeDisable
  repeat' (first
    | ((first | intro x | (lift_lets; intro x)); first | (guard_hyp x : State := _; have hx : Changes [.evr, .land, .plp, .ports, .out] s x := (by unfold x; repeat' (first | with_reducible assumption | ((with_reducible apply Changes.step (State.gates_changes ..)) <;> [rfl; skip]) | ((with_reducible apply Changes.step (State.recompute_changes ..)) <;> [rfl; skip]) | ((with_reducible apply Changes.step (State.setPlp_changes ..)) <;> [rfl; skip]) | ((with_reducible apply Changes.foldl) <;> [(intro _ _ _); skip]) | split)); clear_value x) | clear_value x | skip)
    | with_reducible assumption | ((with_reducible apply Changes.step (State.gates_changes ..)) <;> [rfl; skip]) | ((with_reducible apply Changes.step (State.recompute_changes ..)) <;> [rfl; skip]) | ((with_reducible apply Changes.step (State.setPlp_changes ..)) <;> [rfl; skip]) | ((with_reducible apply Changes.foldl) <;> [(intro _ _ _); skip])
    | split)

theorem State.writePlp_changes (s : State) (v : BitVec 32) (x0 : Reg) :
    Changes [.evr, .land, .plp, .ports, .out] s (State.writePlp s v x0) := by
  have h0 := Changes.refl [.evr, .land, .plp, .ports, .out] s
  unfold State.writePlp
  repeat' (first
    | ((first | intro x | (lift_lets; intro x)); first | (guard_hyp x : State := _; have hx : Changes [.evr, .land, .plp, .ports, .out] s x := (by unfold x; repeat' (first | with_reducible assumption | ((with_reducible apply Changes.step (State.chargeDisable_changes ..)) <;> [rfl; skip]) | ((with_reducible apply Changes.step (State.chargeEnable_changes ..)) <;> [rfl; skip]) | ((with_reducible apply Changes.step (State.setPlp_changes ..)) <;> [rfl; skip]) | ((with_reducible apply Changes.step (State.tryTest_changes ..)) <;> [rfl; skip]) | ((with_reducible apply Changes.foldl) <;> [(intro _ _ _); skip]) | split)); clear_value x) | clear_value x | skip)
    | with_reducible assumption | ((with_reducible apply Changes.step (State.chargeDisable_changes ..)) <;> [rfl; skip]) | ((with_reducible apply Changes.step (State.chargeEnable_changes ..)) <;> [rfl; skip]) | ((with_reducible apply Changes.step (State.setPlp_changes ..)) <;> [rfl; skip]) | ((with_reducible apply Changes.step (State.tryTest_changes ..)) <;> [rfl; skip]) | ((with_reducible apply Changes.foldl) <;> [(intro _ _ _); skip])
    | split)

theorem State.writeLink_changes (s : State) (v : BitVec 32) (x0 : Reg) :
    Changes [.evr, .cmq, .land, .media, .ports, .sdm, .bst, .boot, .out, .free] s (State.writeLink s v x0) := by
  have h0 := Changes.refl [.evr, .cmq, .land, .media, .ports, .sdm, .bst, .boot, .out, .free] s
  unfold State.writeLink
  repeat' (first | with_reducible assumption | ((conv => (arg 3; arg 24; skip)); ((with_reducible apply Changes.cmq_with) <;> [rfl; skip])) | ((with_reducible apply Changes.step (State.setPort_changes ..)) <;> [rfl; skip]) | ((with_reducible apply Changes.step (State.writeCntCtl_changes ..)) <;> [rfl; skip]) | ((with_reducible apply Changes.step (State.writeCntStat_changes ..)) <;> [rfl; skip]) | ((with_reducible apply Changes.foldl) <;> [(intro _ _ _); skip]) | split)

theorem State.writeDram_changes (s : State) (v : BitVec 32) (x0 : Reg) :
    Changes [.dram] s (State.writeDram s v x0) := by
  have h0 := Changes.refl [.dram] s
  unfold State.writeDram
  repeat' (first | with_reducible assumption | ((with_reducible apply Changes.step (State.setDch_changes ..)) <;> [rfl; skip]) | ((with_reducible apply Changes.step (State.setDram_changes ..)) <;> [rfl; skip]) | ((with_reducible apply Changes.foldl) <;> [(intro _ _ _); skip]) | split)

theorem State.sdmSwitch_changes (s : State) (ch : Fin 16) (on : Bool) :
    Changes [.evr, .land, .sdm, .out, .free] s (State.sdmSwitch s ch on) := by
  have h0 := Changes.refl [.evr, .land, .sdm, .out, .free] s
  unfold State.sdmSwitch
  repeat' (first | with_reducible assumption | ((with_reducible apply Changes.step (State.sdmStop_changes ..)) <;> [rfl; skip]) | ((with_reducible apply Changes.step (State.setSdc_changes ..)) <;> [rfl; skip]) | ((with_reducible apply Changes.foldl) <;> [(intro _ _ _); skip]) | split)

theorem State.writeSdm_changes (s : State) (v : BitVec 32) (x0 : Reg) :
    Changes [.evr, .land, .sdm, .out, .free] s (State.writeSdm s v x0) := by
  have h0 := Changes.refl [.evr, .land, .sdm, .out, .free] s
  unfold State.writeSdm
  repeat' (first
    | ((first | intro x | (lift_lets; intro x)); first | (guard_hyp x : State := _; have hx : Changes [.evr, .land, .sdm, .out, .free] s x := (by unfold x; repeat' (first | with_reducible assumption | ((with_reducible apply Changes.step (State.sdmStop_changes ..)) <;> [rfl; skip]) | ((with_reducible apply Changes.step (State.sdmSwitch_changes ..)) <;> [rfl; skip]) | ((with_reducible apply Changes.step (State.setSdc_changes ..)) <;> [rfl; skip]) | ((with_reducible apply Changes.foldl) <;> [(intro _ _ _); skip]) | split)); clear_value x) | clear_value x | skip)
    | with_reducible assumption | ((with_reducible apply Changes.step (State.sdmStop_changes ..)) <;> [rfl; skip]) | ((with_reducible apply Changes.step (State.sdmSwitch_changes ..)) <;> [rfl; skip]) | ((with_reducible apply Changes.step (State.setSdc_changes ..)) <;> [rfl; skip]) | ((with_reducible apply Changes.foldl) <;> [(intro _ _ _); skip])
    | split)

theorem State.writeKvc_changes (s : State) (v : BitVec 32) (x0 : Reg) :
    Changes [.vault] s (State.writeKvc s v x0) := by
  have h0 := Changes.refl [.vault] s
  unfold State.writeKvc
  repeat' (first | with_reducible assumption | ((with_reducible apply Changes.step (State.go_changes ..)) <;> [rfl; skip]) | ((with_reducible apply Changes.step (State.setPage_changes ..)) <;> [rfl; skip]) | ((with_reducible apply Changes.foldl) <;> [(intro _ _ _); skip]) | split)

theorem State.writeStore_changes (s : State) (v : BitVec 32) (x0 : Reg) :
    Changes [.evr, .bst, .out, .free] s (State.writeStore s v x0) := by
  have h0 := Changes.refl [.evr, .bst, .out, .free] s
  unfold State.writeStore
  repeat' (first
    | ((first | intro x | (lift_lets; intro x)); first | (guard_hyp x : State := _; have hx : Changes [.evr, .bst, .out, .free] s x := (by unfold x; repeat' (first | with_reducible assumption | ((conv => (arg 3; arg 24; skip)); ((with_reducible apply Changes.evr_with) <;> [rfl; skip])) | ((with_reducible apply Changes.step (State.bstStop_changes ..)) <;> [rfl; skip]) | ((with_reducible apply Changes.step (State.setBst_changes ..)) <;> [rfl; skip]) | ((with_reducible apply Changes.foldl) <;> [(intro _ _ _); skip]) | split)); clear_value x) | clear_value x | skip)
    | with_reducible assumption | ((conv => (arg 3; arg 24; skip)); ((with_reducible apply Changes.evr_with) <;> [rfl; skip])) | ((with_reducible apply Changes.step (State.bstStop_changes ..)) <;> [rfl; skip]) | ((with_reducible apply Changes.step (State.setBst_changes ..)) <;> [rfl; skip]) | ((with_reducible apply Changes.foldl) <;> [(intro _ _ _); skip])
    | split)

theorem State.writeReg_changes (s : State) (v : BitVec 32) (r : Reg) :
    Changes [.tb, .pace, .evr, .cmq, .land, .media, .plp, .ports, .dram, .sdm, .vault, .bst, .boot, .dict, .out, .free] s (State.writeReg s v r) := by
  have h0 := Changes.refl [.tb, .pace, .evr, .cmq, .land, .media, .plp, .ports, .dram, .sdm, .vault, .bst, .boot, .dict, .out, .free] s
  unfold State.writeReg
  repeat' (first | with_reducible assumption | ((with_reducible apply Changes.step (State.writeChannels_changes ..)) <;> [rfl; skip]) | ((with_reducible apply Changes.step (State.writeDram_changes ..)) <;> [rfl; skip]) | ((with_reducible apply Changes.step (State.writeExport_changes ..)) <;> [rfl; skip]) | ((with_reducible apply Changes.step (State.writeFlash_changes ..)) <;> [rfl; skip]) | ((with_reducible apply Changes.step (State.writeKvc_changes ..)) <;> [rfl; skip]) | ((with_reducible apply Changes.step (State.writeLink_changes ..)) <;> [rfl; skip]) | ((with_reducible apply Changes.step (State.writePlp_changes ..)) <;> [rfl; skip]) | ((with_reducible apply Changes.step (State.writeSdm_changes ..)) <;> [rfl; skip]) | ((with_reducible apply Changes.step (State.writeStore_changes ..)) <;> [rfl; skip]) | ((with_reducible apply Changes.step (State.writeSys_changes ..)) <;> [rfl; skip]) | ((with_reducible apply Changes.foldl) <;> [(intro _ _ _); skip]) | split)

theorem State.registerWrite_changes (s : State) (ini : Initiator) (r : Reg) (v : BitVec 32) :
    Changes [.tb, .pace, .evr, .cmq, .land, .media, .plp, .ports, .dram, .sdm, .vault, .bst, .boot, .dict, .out, .free] s (State.registerWrite s ini r v) := by
  have h0 := Changes.refl [.tb, .pace, .evr, .cmq, .land, .media, .plp, .ports, .dram, .sdm, .vault, .bst, .boot, .dict, .out, .free] s
  unfold State.registerWrite
  dsimp only
  repeat' (first | with_reducible assumption | ((with_reducible apply Changes.step (State.emit_changes ..)) <;> [rfl; skip]) | (((with_reducible apply State.hostBar4_changes) <;> [(intro _ _); rfl; skip])) | (((with_reducible apply State.onPage_changes) <;> [(intro _ _); rfl; skip])) | ((with_reducible apply Changes.step (State.writeReg_changes ..)) <;> [rfl; skip]) | ((with_reducible apply Changes.foldl) <;> [(intro _ _ _); skip]) | split)

theorem State.readBy_changes {ps : List Part} (s : State) (ini : Initiator) (b : Block) (o : Nat) (f : State → State) (s0 : State) (h : ∀ y0, Changes ps s0 y0 → Changes ps s0 (f y0)) (hc : covers [.evr, .out] ps = true) (k : Changes ps s0 s) : Changes ps s0 (State.readBy s ini b o f) := by
  unfold State.readBy
  repeat' (first | with_reducible assumption | ((with_reducible apply State.hostBar4_changes) <;> [(intro _ _); (exact covers_trans (by rfl) hc); skip]) | ((with_reducible apply Changes.step (State.emit_changes ..)) <;> [(refine covers_trans (by rfl) hc); skip]) | (with_reducible apply h) | split)

theorem State.tbLoRead_changes (s : State) (i : Initiator) :
    Changes [.tb, .out] s (State.tbLoRead s i) := by
  have h0 := Changes.refl [.tb, .out] s
  unfold State.tbLoRead
  repeat' (first | with_reducible assumption | ((conv => (arg 3; arg 24; skip)); ((with_reducible apply Changes.tb_with) <;> [rfl; skip])) | ((with_reducible apply Changes.step (State.emit_changes ..)) <;> [rfl; skip]) | ((with_reducible apply Changes.foldl) <;> [(intro _ _ _); skip]) | split)

theorem State.evrSeqLoRead_changes (s : State) (i : Initiator) :
    Changes [.evr, .out] s (State.evrSeqLoRead s i) := by
  have h0 := Changes.refl [.evr, .out] s
  unfold State.evrSeqLoRead
  repeat' (first | with_reducible assumption | ((conv => (arg 3; arg 24; skip)); ((with_reducible apply Changes.evr_with) <;> [rfl; skip])) | ((with_reducible apply Changes.step (State.emit_changes ..)) <;> [rfl; skip]) | ((with_reducible apply Changes.foldl) <;> [(intro _ _ _); skip]) | split)

theorem State.regClear_changes (s : State) (b : Block) (i : Nat) (o : Nat) :
    Changes [.pace, .evr, .cmq, .media, .ports, .dram, .sdm, .bst, .pws] s (State.regClear s b i o) := by
  have h0 := Changes.refl [.pace, .evr, .cmq, .media, .ports, .dram, .sdm, .bst, .pws] s
  unfold State.regClear
  repeat' (first | with_reducible assumption | ((conv => (arg 3; arg 24; skip)); ((with_reducible apply Changes.cmq_with) <;> [rfl; skip])) | ((conv => (arg 3; arg 24; skip)); ((with_reducible apply Changes.evr_with) <;> [rfl; skip])) | ((conv => (arg 3; arg 24; skip)); ((with_reducible apply Changes.pace_with) <;> [rfl; skip])) | ((conv => (arg 3; arg 24; skip)); ((with_reducible apply Changes.pws_with) <;> [rfl; skip])) | ((with_reducible apply Changes.step (State.setBst_changes ..)) <;> [rfl; skip]) | ((with_reducible apply Changes.step (State.setDch_changes ..)) <;> [rfl; skip]) | ((with_reducible apply Changes.step (State.setFch_changes ..)) <;> [rfl; skip]) | ((with_reducible apply Changes.step (State.setMedia_changes ..)) <;> [rfl; skip]) | ((with_reducible apply Changes.step (State.setPort_changes ..)) <;> [rfl; skip]) | ((with_reducible apply Changes.step (State.setSdc_changes ..)) <;> [rfl; skip]) | ((with_reducible apply Changes.foldl) <;> [(intro _ _ _); skip]) | split)

theorem State.readReg_changes (s : State) (ini : Initiator) (mirror : Bool) (b : Block) (i : Nat) (o : Nat) :
    Changes [.tb, .pace, .evr, .cmq, .media, .ports, .dram, .sdm, .bst, .pws, .out] s (State.readReg s ini mirror b i o) := by
  have h0 := Changes.refl [.tb, .pace, .evr, .cmq, .media, .ports, .dram, .sdm, .bst, .pws, .out] s
  unfold State.readReg
  repeat' (first | with_reducible assumption | ((with_reducible apply Changes.step (State.emit_changes ..)) <;> [rfl; skip]) | ((with_reducible apply Changes.step (State.evrSeqLoRead_changes ..)) <;> [rfl; skip]) | ((with_reducible apply Changes.step (State.regClear_changes ..)) <;> [rfl; skip]) | ((with_reducible apply Changes.step (State.tbLoRead_changes ..)) <;> [rfl; skip]) | ((with_reducible apply Changes.foldl) <;> [(intro _ _ _); skip]) | split)

theorem State.readLent_changes (s : State) (p : Fin 2) (o : Nat) :
    Changes [.tb, .pace, .evr, .cmq, .media, .ports, .dram, .sdm, .bst, .pws, .out] s (State.readLent s p o) := by
  have h0 := Changes.refl [.tb, .pace, .evr, .cmq, .media, .ports, .dram, .sdm, .bst, .pws, .out] s
  unfold State.readLent
  repeat' (first
    | ((first | intro x | (lift_lets; intro x)); first | (guard_hyp x : State := _; have hx : Changes [.tb, .pace, .evr, .cmq, .media, .ports, .dram, .sdm, .bst, .pws, .out] s x := (by unfold x; repeat' (first | with_reducible assumption | ((with_reducible apply Changes.step (State.emit_changes ..)) <;> [rfl; skip]) | ((with_reducible apply Changes.step (State.readReg_changes ..)) <;> [rfl; skip]) | ((with_reducible apply Changes.foldl) <;> [(intro _ _ _); skip]) | split)); clear_value x) | clear_value x | skip)
    | with_reducible assumption | ((with_reducible apply Changes.step (State.emit_changes ..)) <;> [rfl; skip]) | ((with_reducible apply Changes.step (State.readReg_changes ..)) <;> [rfl; skip]) | ((with_reducible apply Changes.foldl) <;> [(intro _ _ _); skip])
    | split)

theorem State.readPage_changes (s : State) (ini : Initiator) (pg : Fin 16) (o : Nat) :
    Changes [.tb, .pace, .evr, .cmq, .media, .ports, .dram, .sdm, .vault, .bst, .pws, .out] s (State.readPage s ini pg o) := by
  have h0 := Changes.refl [.tb, .pace, .evr, .cmq, .media, .ports, .dram, .sdm, .vault, .bst, .pws, .out] s
  unfold State.readPage
  repeat' (first | with_reducible assumption | (((with_reducible apply State.hostBar4_changes) <;> [(intro _ _); rfl; skip])) | (((with_reducible apply State.pageAccess_changes) <;> [(intro _ _); rfl; skip])) | ((with_reducible apply Changes.step (State.readReg_changes ..)) <;> [rfl; skip]) | ((with_reducible apply Changes.foldl) <;> [(intro _ _ _); skip]) | split)

theorem State.registerRead_changes (s : State) (ini : Initiator) (b : Block) (i : Nat) (o : Nat) :
    Changes [.tb, .pace, .evr, .cmq, .media, .ports, .dram, .sdm, .vault, .bst, .pws, .out] s (State.registerRead s ini b i o) := by
  have h0 := Changes.refl [.tb, .pace, .evr, .cmq, .media, .ports, .dram, .sdm, .vault, .bst, .pws, .out] s
  unfold State.registerRead
  repeat' (first | with_reducible assumption | ((with_reducible apply Changes.step (State.emit_changes ..)) <;> [rfl; skip]) | (((with_reducible apply State.hostBar4_changes) <;> [(intro _ _); rfl; skip])) | (((with_reducible apply State.readBy_changes) <;> [(intro _ _); rfl; skip])) | ((with_reducible apply Changes.step (State.readLent_changes ..)) <;> [rfl; skip]) | ((with_reducible apply Changes.step (State.readPage_changes ..)) <;> [rfl; skip]) | ((with_reducible apply Changes.step (State.readReg_changes ..)) <;> [rfl; skip]) | ((with_reducible apply Changes.foldl) <;> [(intro _ _ _); skip]) | split)

theorem State.channelTicks_changes (s : State) (n : Nat) :
    Changes [.evr, .cmq, .land, .media, .plp, .ports, .out, .free] s (State.channelTicks s n) := by
  have h0 := Changes.refl [.evr, .cmq, .land, .media, .plp, .ports, .out, .free] s
  unfold State.channelTicks
  repeat' (first
    | ((first | intro x | (lift_lets; intro x)); first | (guard_hyp x : State := _; have hx : Changes [.evr, .cmq, .land, .media, .plp, .ports, .out, .free] s x := (by unfold x; repeat' (first | with_reducible assumption | ((with_reducible apply Changes.step (State.busTick_changes ..)) <;> [rfl; skip]) | ((with_reducible apply Changes.step (State.loadNext_changes ..)) <;> [rfl; skip]) | ((with_reducible apply Changes.step (State.settleReads_changes ..)) <;> [rfl; skip]) | ((with_reducible apply Changes.foldl) <;> [(intro _ _ _); skip]) | split)); clear_value x) | clear_value x | skip)
    | with_reducible assumption | ((with_reducible apply Changes.step (State.busTick_changes ..)) <;> [rfl; skip]) | ((with_reducible apply Changes.step (State.loadNext_changes ..)) <;> [rfl; skip]) | ((with_reducible apply Changes.step (State.settleReads_changes ..)) <;> [rfl; skip]) | ((with_reducible apply Changes.foldl) <;> [(intro _ _ _); skip])
    | split)

theorem State.tick_changes (s : State) :
    Changes [.tb, .evr, .cmq, .land, .media, .plp, .ports, .out, .free] s (State.tick s) := by
  have h0 := Changes.refl [.tb, .evr, .cmq, .land, .media, .plp, .ports, .out, .free] s
  unfold State.tick
  repeat' (first
    | ((first | intro x | (lift_lets; intro x)); first | (guard_hyp x : State := _; have hx : Changes [.tb, .evr, .cmq, .land, .media, .plp, .ports, .out, .free] s x := (by unfold x; repeat' (first | with_reducible assumption | ((conv => (arg 3; arg 24; skip)); ((with_reducible apply Changes.tb_with) <;> [rfl; skip])) | ((with_reducible apply Changes.step (State.channelTicks_changes ..)) <;> [rfl; skip]) | ((with_reducible apply Changes.foldl) <;> [(intro _ _ _); skip]) | split)); clear_value x) | clear_value x | skip)
    | with_reducible assumption | ((conv => (arg 3; arg 24; skip)); ((with_reducible apply Changes.tb_with) <;> [rfl; skip])) | ((with_reducible apply Changes.step (State.channelTicks_changes ..)) <;> [rfl; skip]) | ((with_reducible apply Changes.foldl) <;> [(intro _ _ _); skip])
    | split)

end Sys2Proof.Machine
end

