-- ==== Sys2Proof/Laws/Commands.lean ====
section
/-! SUPPORT. What each command may change: every command ends in a next state, and the parts that its lemma does not list are as
they were. -/

set_option linter.unusedTactic false
set_option linter.unreachableTactic false
set_option linter.unusedVariables false

namespace Sys2Proof.Machine

open Sys2Proof

theorem Changes.sec_free_with {ps : List Part} {s t : State} (v0) (v1) (c0 : ps.contains .sec = true) (c1 : ps.contains .free = true) (k : Changes ps s t) :
    Changes ps s { t with sec := v0, free := v1 } := by
  refine ⟨fun p hp => ?_⟩
  cases p <;> first | exact k.rest _ hp | exact absurd (List.contains_iff_mem.mp c0) hp | exact absurd (List.contains_iff_mem.mp c1) hp

theorem State.dropKey_changes (s : State) (k : Nat) : Changes [.sec] s (s.dropKey k).1 := by
  unfold State.dropKey
  split
  · exact Changes.refl _ s
  · dsimp only
    with_reducible apply State.setSec_changes

theorem execTbSourceStop_changes (src : TbSource) (s : State) :
    ∃ t, execTbSourceStop src s = .next t ∧ Changes [.tb, .evr] s t := by
  have h0 := Changes.refl [.tb, .evr] s
  refine ⟨_, rfl, ?_⟩
  repeat' (first | with_reducible assumption | ((with_reducible apply Changes.step (State.tbSourceStop_changes ..)) <;> [rfl; skip]) | ((with_reducible apply State.whenPowered_changes) <;> [(intro _ _); skip]) | ((with_reducible apply Changes.foldl) <;> [(intro _ _ _); skip]) | split)

theorem execTbSourceSelect_changes (sel : BitVec 2) (s : State) :
    ∃ t, execTbSourceSelect sel s = .next t ∧ Changes [.tb, .evr] s t := by
  have h0 := Changes.refl [.tb, .evr] s
  refine ⟨_, rfl, ?_⟩
  repeat' (first | with_reducible assumption | ((with_reducible apply Changes.step (State.tbSelect_changes ..)) <;> [rfl; skip]) | ((with_reducible apply State.whenPowered_changes) <;> [(intro _ _); skip]) | ((with_reducible apply Changes.foldl) <;> [(intro _ _ _); skip]) | split)

theorem execCoreHeartbeat_changes (c : Fin 32) (s : State) :
    ∃ t, execCoreHeartbeat c s = .next t ∧ Changes [.units, .evr] s t := by
  have h0 := Changes.refl [.units, .evr] s
  refine ⟨_, rfl, ?_⟩
  repeat' (first | with_reducible assumption | ((with_reducible apply Changes.step (State.heartbeat_changes ..)) <;> [rfl; skip]) | ((with_reducible apply State.whenLive_changes) <;> [(intro _ _); skip]) | ((with_reducible apply Changes.foldl) <;> [(intro _ _ _); skip]) | split)

theorem execHeartbeatMissed_changes (c : Fin 32) (s : State) :
    ∃ t, execHeartbeatMissed c s = .next t ∧ Changes [.units, .evr, .cmq, .land, .media, .ports, .sdm, .vault, .sec, .bst, .boot, .out] s t := by
  have h0 := Changes.refl [.units, .evr, .cmq, .land, .media, .ports, .sdm, .vault, .sec, .bst, .boot, .out] s
  refine ⟨_, rfl, ?_⟩
  repeat' (first | with_reducible assumption | ((with_reducible apply Changes.step (State.declareCore_changes ..)) <;> [rfl; skip]) | ((with_reducible apply State.whenLive_changes) <;> [(intro _ _); skip]) | ((with_reducible apply Changes.foldl) <;> [(intro _ _ _); skip]) | split)

theorem execCoreEccError_changes (c : Fin 32) (s : State) :
    ∃ t, execCoreEccError c s = .next t ∧ Changes [.units, .evr, .cmq, .land, .media, .ports, .sdm, .vault, .sec, .bst, .boot, .out] s t := by
  have h0 := Changes.refl [.units, .evr, .cmq, .land, .media, .ports, .sdm, .vault, .sec, .bst, .boot, .out] s
  refine ⟨_, rfl, ?_⟩
  repeat' (first | with_reducible assumption | ((with_reducible apply Changes.step (State.declareCore_changes ..)) <;> [rfl; skip]) | ((with_reducible apply State.whenLive_changes) <;> [(intro _ _); skip]) | ((with_reducible apply Changes.foldl) <;> [(intro _ _ _); skip]) | split)

theorem execLockstepMismatch_changes (s : State) :
    ∃ t, execLockstepMismatch s = .next t ∧ Changes [.units, .evr, .cmq, .land, .media, .ports, .sdm, .vault, .sec, .bst, .boot, .out] s t := by
  have h0 := Changes.refl [.units, .evr, .cmq, .land, .media, .ports, .sdm, .vault, .sec, .bst, .boot, .out] s
  refine ⟨_, rfl, ?_⟩
  repeat' (first | with_reducible assumption | ((with_reducible apply Changes.step (State.pairFails_changes ..)) <;> [rfl; skip]) | ((with_reducible apply State.whenLive_changes) <;> [(intro _ _); skip]) | ((with_reducible apply Changes.foldl) <;> [(intro _ _ _); skip]) | split)

theorem execDecoderSelfCheckFail_changes (sl : Fin 8) (soft : Bool) (idx : Fin 8) (s : State) :
    ∃ t, execDecoderSelfCheckFail sl soft idx s = .next t ∧ Changes [.units, .evr, .cmq, .land, .media, .ports, .sdm, .bst, .boot, .out] s t := by
  have h0 := Changes.refl [.units, .evr, .cmq, .land, .media, .ports, .sdm, .bst, .boot, .out] s
  refine ⟨_, rfl, ?_⟩
  repeat' (first | with_reducible assumption | ((with_reducible apply Changes.step (State.decoderFails_changes ..)) <;> [rfl; skip]) | ((with_reducible apply State.whenLive_changes) <;> [(intro _ _); skip]) | ((with_reducible apply Changes.foldl) <;> [(intro _ _ _); skip]) | split)

theorem execCompressionUnitFail_changes (sl : Fin 8) (s : State) :
    ∃ t, execCompressionUnitFail sl s = .next t ∧ Changes [.units, .evr, .cmq, .land, .media, .ports, .sdm, .bst, .boot, .out] s t := by
  have h0 := Changes.refl [.units, .evr, .cmq, .land, .media, .ports, .sdm, .bst, .boot, .out] s
  refine ⟨_, rfl, ?_⟩
  repeat' (first | with_reducible assumption | ((with_reducible apply Changes.step (State.compressionFails_changes ..)) <;> [rfl; skip]) | ((with_reducible apply State.whenLive_changes) <;> [(intro _ _); skip]) | ((with_reducible apply Changes.foldl) <;> [(intro _ _ _); skip]) | split)

theorem execCipherLaneCheckFail_changes (sl : Fin 8) (s : State) :
    ∃ t, execCipherLaneCheckFail sl s = .next t ∧ Changes [.units, .evr, .cmq, .land, .media, .ports, .sdm, .bst, .boot, .out] s t := by
  have h0 := Changes.refl [.units, .evr, .cmq, .land, .media, .ports, .sdm, .bst, .boot, .out] s
  refine ⟨_, rfl, ?_⟩
  repeat' (first | with_reducible assumption | ((with_reducible apply Changes.step (State.laneFails_changes ..)) <;> [rfl; skip]) | ((with_reducible apply State.whenLive_changes) <;> [(intro _ _); skip]) | ((with_reducible apply Changes.foldl) <;> [(intro _ _ _); skip]) | split)

theorem execPowerCapTick_changes (power : Nat) (s : State) :
    ∃ t, execPowerCapTick power s = .next t ∧ Changes [.avs, .out] s t := by
  have h0 := Changes.refl [.avs, .out] s
  refine ⟨_, rfl, ?_⟩
  repeat' (first | with_reducible assumption | ((with_reducible apply Changes.step (State.powerCapTick_changes ..)) <;> [rfl; skip]) | ((with_reducible apply State.whenLive_changes) <;> [(intro _ _); skip]) | ((with_reducible apply Changes.foldl) <;> [(intro _ _ _); skip]) | split)

theorem execWrite_changes (fseq : Nat) (s : State) :
    ∃ t, execWrite fseq s = .next t ∧ Changes [.cmq, .land, .media, .ports, .out, .free] s t := by
  have h0 := Changes.refl [.cmq, .land, .media, .ports, .out, .free] s
  refine ⟨_, rfl, ?_⟩
  repeat' (first | with_reducible assumption | ((with_reducible apply State.whenLive_changes) <;> [(intro _ _); skip]) | ((with_reducible apply Changes.step (State.write_changes ..)) <;> [rfl; skip]) | ((with_reducible apply Changes.foldl) <;> [(intro _ _ _); skip]) | split)

theorem execWriteDataLanded_changes (fseq : Nat) (data : List Sector) (s : State) :
    ∃ t, execWriteDataLanded fseq data s = .next t ∧ Changes [.cmq, .land, .out] s t := by
  have h0 := Changes.refl [.cmq, .land, .out] s
  refine ⟨_, rfl, ?_⟩
  repeat' (first | with_reducible assumption | ((with_reducible apply Changes.step (State.dataLanded_changes ..)) <;> [rfl; skip]) | ((with_reducible apply State.whenLive_changes) <;> [(intro _ _); skip]) | ((with_reducible apply Changes.foldl) <;> [(intro _ _ _); skip]) | split)

theorem execReadBackReturn_changes (fseq : Nat) (ok : Bool) (s : State) :
    ∃ t, execReadBackReturn fseq ok s = .next t ∧ Changes [.evr, .cmq, .land, .media, .ports, .out, .free] s t := by
  have h0 := Changes.refl [.evr, .cmq, .land, .media, .ports, .out, .free] s
  refine ⟨_, rfl, ?_⟩
  repeat' (first | with_reducible assumption | ((with_reducible apply Changes.step (State.readBackReturn_changes ..)) <;> [rfl; skip]) | ((with_reducible apply State.whenLive_changes) <;> [(intro _ _); skip]) | ((with_reducible apply Changes.foldl) <;> [(intro _ _ _); skip]) | split)

theorem execRecordPacked_changes (line : Nat) (frame : List Byte) (s : State) :
    ∃ t, execRecordPacked line frame s = .next t ∧ Changes [.cmq, .land, .media, .ports, .sec, .pws, .out] s t := by
  have h0 := Changes.refl [.cmq, .land, .media, .ports, .sec, .pws, .out] s
  refine ⟨_, rfl, ?_⟩
  repeat' (first | with_reducible assumption | ((with_reducible apply Changes.step (State.recordPacked_changes ..)) <;> [rfl; skip]) | ((with_reducible apply Changes.step (State.ungate_changes ..)) <;> [rfl; skip]) | ((with_reducible apply State.whenLive_changes) <;> [(intro _ _); skip]) | ((with_reducible apply Changes.foldl) <;> [(intro _ _ _); skip]) | split)

theorem execCloseWaitExpire_changes (row : Nat) (s : State) :
    ∃ t, execCloseWaitExpire row s = .next t ∧ Changes [.land, .media, .out] s t := by
  have h0 := Changes.refl [.land, .media, .out] s
  refine ⟨_, rfl, ?_⟩
  repeat' (first | with_reducible assumption | ((with_reducible apply Changes.step (State.closeWait_changes ..)) <;> [rfl; skip]) | ((with_reducible apply State.whenLive_changes) <;> [(intro _ _); skip]) | ((with_reducible apply Changes.foldl) <;> [(intro _ _ _); skip]) | split)

theorem execRowComplete_changes (row : Nat) (s : State) :
    ∃ t, execRowComplete row s = .next t ∧ Changes [.evr, .cmq, .land, .media, .ports, .out, .free] s t := by
  have h0 := Changes.refl [.evr, .cmq, .land, .media, .ports, .out, .free] s
  refine ⟨_, rfl, ?_⟩
  repeat' (first | with_reducible assumption | ((with_reducible apply Changes.step (State.rowComplete_changes ..)) <;> [rfl; skip]) | ((with_reducible apply State.whenLive_changes) <;> [(intro _ _); skip]) | ((with_reducible apply Changes.foldl) <;> [(intro _ _ _); skip]) | split)

theorem execStripeOpen_changes (s : State) :
    ∃ t, execStripeOpen s = .next t ∧ Changes [.evr, .land, .media, .out] s t := by
  have h0 := Changes.refl [.evr, .land, .media, .out] s
  refine ⟨_, rfl, ?_⟩
  repeat' (first | with_reducible assumption | ((with_reducible apply Changes.step (State.stripeOpen_changes ..)) <;> [rfl; skip]) | ((with_reducible apply State.whenLive_changes) <;> [(intro _ _); skip]) | ((with_reducible apply Changes.foldl) <;> [(intro _ _ _); skip]) | split)

theorem execAccumulatorSelfCheckFail_changes (sl : Fin 8) (s : State) :
    ∃ t, execAccumulatorSelfCheckFail sl s = .next t ∧ Changes [.units, .evr, .cmq, .land, .media, .ports, .out] s t := by
  have h0 := Changes.refl [.units, .evr, .cmq, .land, .media, .ports, .out] s
  refine ⟨_, rfl, ?_⟩
  repeat' (first | with_reducible assumption | ((with_reducible apply Changes.step (State.accumulatorFails_changes ..)) <;> [rfl; skip]) | ((with_reducible apply State.whenLive_changes) <;> [(intro _ _); skip]) | ((with_reducible apply Changes.foldl) <;> [(intro _ _ _); skip]) | split)

theorem execRead_changes (fseq : Nat) (s : State) :
    ∃ t, execRead fseq s = .next t ∧ Changes [.evr, .cmq, .land, .media, .plp, .ports, .out, .free] s t := by
  have h0 := Changes.refl [.evr, .cmq, .land, .media, .plp, .ports, .out, .free] s
  refine ⟨_, rfl, ?_⟩
  repeat' (first | with_reducible assumption | ((with_reducible apply Changes.step (State.readCommand_changes ..)) <;> [rfl; skip]) | ((with_reducible apply Changes.step (State.settleReads_changes ..)) <;> [rfl; skip]) | ((with_reducible apply State.whenLive_changes) <;> [(intro _ _); skip]) | ((with_reducible apply Changes.foldl) <;> [(intro _ _ _); skip]) | split)

theorem execDecodeComplete_changes (rid : Nat) (out : DecodeEnd) (iters : Nat) (s : State) :
    ∃ t, execDecodeComplete rid out iters s = .next t ∧ Changes [.evr, .cmq, .land, .media, .plp, .ports, .pws, .out, .free] s t := by
  have h0 := Changes.refl [.evr, .cmq, .land, .media, .plp, .ports, .pws, .out, .free] s
  refine ⟨_, rfl, ?_⟩
  repeat' (first | with_reducible assumption | ((with_reducible apply Changes.step (State.decoded_changes ..)) <;> [rfl; skip]) | ((with_reducible apply Changes.step (State.settleReads_changes ..)) <;> [rfl; skip]) | ((with_reducible apply Changes.step (State.wakeDecoders_changes ..)) <;> [rfl; skip]) | ((with_reducible apply State.whenLive_changes) <;> [(intro _ _); skip]) | ((with_reducible apply Changes.foldl) <;> [(intro _ _ _); skip]) | split)

theorem execRecentreDue_changes (ch : Fin 64) (ce : Fin 4) (rd : List ProbeBit) (wr : List ProbeBit) (pins : List PinFault) (s : State) :
    ∃ t, execRecentreDue ch ce rd wr pins s = .next t ∧ Changes [.evr, .cmq, .land, .media, .plp, .ports, .out] s t := by
  have h0 := Changes.refl [.evr, .cmq, .land, .media, .plp, .ports, .out] s
  refine ⟨_, rfl, ?_⟩
  repeat' (first | with_reducible assumption | ((with_reducible apply Changes.step (State.recentre_changes ..)) <;> [rfl; skip]) | ((with_reducible apply State.whenLive_changes) <;> [(intro _ _); skip]) | ((with_reducible apply Changes.foldl) <;> [(intro _ _ _); skip]) | split)

theorem execCeTrainingDone_changes (ch : Fin 64) (ce : Fin 4) (res : CeTraining) (pins : List PinFault) (s : State) :
    ∃ t, execCeTrainingDone ch ce res pins s = .next t ∧ Changes [.evr, .cmq, .land, .media, .plp, .ports, .out] s t := by
  have h0 := Changes.refl [.evr, .cmq, .land, .media, .plp, .ports, .out] s
  refine ⟨_, rfl, ?_⟩
  repeat' (first | with_reducible assumption | ((with_reducible apply Changes.step (State.ceTraining_changes ..)) <;> [rfl; skip]) | ((with_reducible apply State.whenLive_changes) <;> [(intro _ _); skip]) | ((with_reducible apply Changes.foldl) <;> [(intro _ _ _); skip]) | split)

theorem execProgramComplete_changes (row : Nat) (member : Fin 32) (s : State) :
    ∃ t, execProgramComplete row member s = .next t ∧ Changes [.evr, .cmq, .land, .media, .plp, .ports, .out, .free] s t := by
  have h0 := Changes.refl [.evr, .cmq, .land, .media, .plp, .ports, .out, .free] s
  refine ⟨_, rfl, ?_⟩
  repeat' (first | with_reducible assumption | ((with_reducible apply Changes.step (State.polled_changes ..)) <;> [rfl; skip]) | ((with_reducible apply Changes.step (State.probesGo_changes ..)) <;> [rfl; skip]) | ((with_reducible apply Changes.step (State.programComplete_changes ..)) <;> [rfl; skip]) | ((with_reducible apply Changes.step (State.settleReads_changes ..)) <;> [rfl; skip]) | ((with_reducible apply State.whenLive_changes) <;> [(intro _ _); skip]) | ((with_reducible apply Changes.foldl) <;> [(intro _ _ _); skip]) | split)

theorem execProgramFail_changes (row : Nat) (member : Fin 32) (s : State) :
    ∃ t, execProgramFail row member s = .next t ∧ Changes [.evr, .cmq, .land, .media, .plp, .ports, .out, .free] s t := by
  have h0 := Changes.refl [.evr, .cmq, .land, .media, .plp, .ports, .out, .free] s
  refine ⟨_, rfl, ?_⟩
  repeat' (first | with_reducible assumption | ((with_reducible apply Changes.step (State.polled_changes ..)) <;> [rfl; skip]) | ((with_reducible apply Changes.step (State.probesGo_changes ..)) <;> [rfl; skip]) | ((with_reducible apply Changes.step (State.programFail_changes ..)) <;> [rfl; skip]) | ((with_reducible apply Changes.step (State.settleReads_changes ..)) <;> [rfl; skip]) | ((with_reducible apply State.whenLive_changes) <;> [(intro _ _); skip]) | ((with_reducible apply Changes.foldl) <;> [(intro _ _ _); skip]) | split)

theorem execEraseComplete_changes (die : Nat) (block : Nat) (s : State) :
    ∃ t, execEraseComplete die block s = .next t ∧ Changes [.evr, .cmq, .land, .media, .plp, .ports, .out, .free] s t := by
  have h0 := Changes.refl [.evr, .cmq, .land, .media, .plp, .ports, .out, .free] s
  refine ⟨_, rfl, ?_⟩
  repeat' (first | with_reducible assumption | ((with_reducible apply Changes.step (State.eraseComplete_changes ..)) <;> [rfl; skip]) | ((with_reducible apply Changes.step (State.erasedBack_changes ..)) <;> [rfl; skip]) | ((with_reducible apply Changes.step (State.polled_changes ..)) <;> [rfl; skip]) | ((with_reducible apply Changes.step (State.probesGo_changes ..)) <;> [rfl; skip]) | ((with_reducible apply Changes.step (State.settleReads_changes ..)) <;> [rfl; skip]) | ((with_reducible apply State.whenLive_changes) <;> [(intro _ _); skip]) | ((with_reducible apply Changes.foldl) <;> [(intro _ _ _); skip]) | split)

theorem execEraseFail_changes (die : Nat) (block : Nat) (s : State) :
    ∃ t, execEraseFail die block s = .next t ∧ Changes [.evr, .cmq, .land, .media, .plp, .ports, .out, .free] s t := by
  have h0 := Changes.refl [.evr, .cmq, .land, .media, .plp, .ports, .out, .free] s
  refine ⟨_, rfl, ?_⟩
  repeat' (first | with_reducible assumption | ((with_reducible apply Changes.step (State.eraseFail_changes ..)) <;> [rfl; skip]) | ((with_reducible apply Changes.step (State.erasedBack_changes ..)) <;> [rfl; skip]) | ((with_reducible apply Changes.step (State.polled_changes ..)) <;> [rfl; skip]) | ((with_reducible apply Changes.step (State.probesGo_changes ..)) <;> [rfl; skip]) | ((with_reducible apply Changes.step (State.settleReads_changes ..)) <;> [rfl; skip]) | ((with_reducible apply State.whenLive_changes) <;> [(intro _ _); skip]) | ((with_reducible apply Changes.foldl) <;> [(intro _ _ _); skip]) | split)

theorem execStatusPollTimeout_changes (die : Nat) (pins : List PinFault) (s : State) :
    ∃ t, execStatusPollTimeout die pins s = .next t ∧ Changes [.evr, .cmq, .land, .media, .plp, .ports, .out, .free] s t := by
  have h0 := Changes.refl [.evr, .cmq, .land, .media, .plp, .ports, .out, .free] s
  refine ⟨_, rfl, ?_⟩
  repeat' (first | with_reducible assumption | ((with_reducible apply Changes.step (State.pollTimeout_changes ..)) <;> [rfl; skip]) | ((with_reducible apply Changes.step (State.probesGo_changes ..)) <;> [rfl; skip]) | ((with_reducible apply Changes.step (State.settleReads_changes ..)) <;> [rfl; skip]) | ((with_reducible apply State.whenLive_changes) <;> [(intro _ _); skip]) | ((with_reducible apply Changes.foldl) <;> [(intro _ _ _); skip]) | split)

theorem execNandReadData_changes (rid : Nat) (sig : ReadSignals) (s : State) :
    ∃ t, execNandReadData rid sig s = .next t ∧ Changes [.evr, .cmq, .land, .media, .plp, .ports, .out, .free] s t := by
  have h0 := Changes.refl [.evr, .cmq, .land, .media, .plp, .ports, .out, .free] s
  refine ⟨_, rfl, ?_⟩
  repeat' (first | with_reducible assumption | ((with_reducible apply Changes.step (State.nandData_changes ..)) <;> [rfl; skip]) | ((with_reducible apply Changes.step (State.settleReads_changes ..)) <;> [rfl; skip]) | ((with_reducible apply State.whenLive_changes) <;> [(intro _ _); skip]) | ((with_reducible apply Changes.foldl) <;> [(intro _ _ _); skip]) | split)

theorem execDieSuspended_changes (die : Nat) (s : State) :
    ∃ t, execDieSuspended die s = .next t ∧ Changes [.media, .out] s t := by
  have h0 := Changes.refl [.media, .out] s
  refine ⟨_, rfl, ?_⟩
  repeat' (first | with_reducible assumption | ((with_reducible apply Changes.step (State.dieSuspended_changes ..)) <;> [rfl; skip]) | ((with_reducible apply State.whenLive_changes) <;> [(intro _ _); skip]) | ((with_reducible apply Changes.foldl) <;> [(intro _ _ _); skip]) | split)

theorem execSuspWindowExpire_changes (die : Nat) (s : State) :
    ∃ t, execSuspWindowExpire die s = .next t ∧ Changes [.media, .out] s t := by
  have h0 := Changes.refl [.media, .out] s
  refine ⟨_, rfl, ?_⟩
  repeat' (first | with_reducible assumption | ((with_reducible apply State.whenLive_changes) <;> [(intro _ _); skip]) | ((with_reducible apply Changes.step (State.windowPassed_changes ..)) <;> [rfl; skip]) | ((with_reducible apply Changes.foldl) <;> [(intro _ _ _); skip]) | split)

theorem execSuspendRunReached_changes (die : Nat) (s : State) :
    ∃ t, execSuspendRunReached die s = .next t ∧ Changes [.media, .out] s t := by
  have h0 := Changes.refl [.media, .out] s
  refine ⟨_, rfl, ?_⟩
  repeat' (first | with_reducible assumption | ((with_reducible apply Changes.step (State.runReached_changes ..)) <;> [rfl; skip]) | ((with_reducible apply State.whenLive_changes) <;> [(intro _ _); skip]) | ((with_reducible apply Changes.foldl) <;> [(intro _ _ _); skip]) | split)

theorem execArrayOpWaitLimit_changes (op : DieClass) (s : State) :
    ∃ t, execArrayOpWaitLimit op s = .next t ∧ Changes [.media, .out] s t := by
  have h0 := Changes.refl [.media, .out] s
  refine ⟨_, rfl, ?_⟩
  repeat' (first | with_reducible assumption | ((with_reducible apply Changes.step (State.waitLimit_changes ..)) <;> [rfl; skip]) | ((with_reducible apply State.whenLive_changes) <;> [(intro _ _); skip]) | ((with_reducible apply Changes.foldl) <;> [(intro _ _ _); skip]) | split)

theorem execBusTransferWaitLimit_changes (ch : Fin 64) (s : State) :
    ∃ t, execBusTransferWaitLimit ch s = .next t ∧ Changes [.media, .out] s t := by
  have h0 := Changes.refl [.media, .out] s
  refine ⟨_, rfl, ?_⟩
  repeat' (first | with_reducible assumption | ((with_reducible apply Changes.step (State.busGo_changes ..)) <;> [rfl; skip]) | ((with_reducible apply Changes.step (State.setFch_changes ..)) <;> [rfl; skip]) | ((with_reducible apply State.whenLive_changes) <;> [(intro _ _); skip]) | ((with_reducible apply Changes.foldl) <;> [(intro _ _ _); skip]) | split)

theorem execRebuildPhase1End_changes (die : Nat) (s : State) :
    ∃ t, execRebuildPhase1End die s = .next t ∧ Changes [.evr, .cmq, .land, .media, .plp, .ports, .out, .free] s t := by
  have h0 := Changes.refl [.evr, .cmq, .land, .media, .plp, .ports, .out, .free] s
  refine ⟨_, rfl, ?_⟩
  repeat' (first | with_reducible assumption | ((with_reducible apply Changes.step (State.rebuild1End_changes ..)) <;> [rfl; skip]) | ((with_reducible apply Changes.step (State.settleReads_changes ..)) <;> [rfl; skip]) | ((with_reducible apply State.whenLive_changes) <;> [(intro _ _); skip]) | ((with_reducible apply Changes.foldl) <;> [(intro _ _ _); skip]) | split)

theorem execRebuildPhase2End_changes (die : Nat) (s : State) :
    ∃ t, execRebuildPhase2End die s = .next t ∧ Changes [.evr, .land, .media, .plp, .ports, .out] s t := by
  have h0 := Changes.refl [.evr, .land, .media, .plp, .ports, .out] s
  refine ⟨_, rfl, ?_⟩
  repeat' (first | with_reducible assumption | ((with_reducible apply Changes.step (State.dieReturns_changes ..)) <;> [rfl; skip]) | ((with_reducible apply Changes.step (State.rebuild2End_changes ..)) <;> [rfl; skip]) | ((with_reducible apply Changes.step (State.returnErases_changes ..)) <;> [rfl; skip]) | ((with_reducible apply Changes.step (State.settleStripes_changes ..)) <;> [rfl; skip]) | ((with_reducible apply State.whenLive_changes) <;> [(intro _ _); skip]) | ((with_reducible apply Changes.foldl) <;> [(intro _ _ _); skip]) | split)

theorem execCheckpointTimer_changes (s : State) :
    ∃ t, execCheckpointTimer s = .next t ∧ Changes [.evr, .media, .out] s t := by
  have h0 := Changes.refl [.evr, .media, .out] s
  refine ⟨_, rfl, ?_⟩
  repeat' (first | with_reducible assumption | ((with_reducible apply Changes.step (State.checkpoint_changes ..)) <;> [rfl; skip]) | ((with_reducible apply State.whenLive_changes) <;> [(intro _ _); skip]) | ((with_reducible apply Changes.foldl) <;> [(intro _ _ _); skip]) | split)

theorem execRetentionAge_changes (stripe : Nat) (s : State) :
    ∃ t, execRetentionAge stripe s = .next t ∧ Changes [.evr, .cmq, .land, .media, .plp, .ports, .out, .free] s t := by
  have h0 := Changes.refl [.evr, .cmq, .land, .media, .plp, .ports, .out, .free] s
  refine ⟨_, rfl, ?_⟩
  repeat' (first | with_reducible assumption | ((with_reducible apply Changes.step (State.settleReads_changes ..)) <;> [rfl; skip]) | ((with_reducible apply Changes.step (State.triggerStripe_changes ..)) <;> [rfl; skip]) | ((with_reducible apply State.whenLive_changes) <;> [(intro _ _); skip]) | ((with_reducible apply Changes.foldl) <;> [(intro _ _ _); skip]) | split)

theorem execPounceScan_changes (findings : List ScanFinding) (s : State) :
    ∃ t, execPounceScan findings s = .next t ∧ Changes [.evr, .cmq, .land, .media, .plp, .ports, .out, .free] s t := by
  have h0 := Changes.refl [.evr, .cmq, .land, .media, .plp, .ports, .out, .free] s
  refine ⟨_, rfl, ?_⟩
  repeat' (first | with_reducible assumption | ((with_reducible apply Changes.step (State.scanFindings_changes ..)) <;> [rfl; skip]) | ((with_reducible apply Changes.step (State.settleReads_changes ..)) <;> [rfl; skip]) | ((with_reducible apply State.whenLive_changes) <;> [(intro _ _); skip]) | ((with_reducible apply Changes.foldl) <;> [(intro _ _ _); skip]) | split)

theorem execPounceFinish_changes (id : Nat) (s : State) :
    ∃ t, execPounceFinish id s = .next t ∧ Changes [.evr, .cmq, .land, .media, .plp, .ports, .out, .free] s t := by
  have h0 := Changes.refl [.evr, .cmq, .land, .media, .plp, .ports, .out, .free] s
  refine ⟨_, rfl, ?_⟩
  repeat' (first | with_reducible assumption | ((with_reducible apply Changes.step (State.pounceFinish_changes ..)) <;> [rfl; skip]) | ((with_reducible apply Changes.step (State.settleReads_changes ..)) <;> [rfl; skip]) | ((with_reducible apply State.whenLive_changes) <;> [(intro _ _); skip]) | ((with_reducible apply Changes.foldl) <;> [(intro _ _ _); skip]) | split)

theorem execPouncePendingAged_changes (id : Nat) (s : State) :
    ∃ t, execPouncePendingAged id s = .next t ∧ Changes [.evr, .cmq, .land, .media, .plp, .ports, .out, .free] s t := by
  have h0 := Changes.refl [.evr, .cmq, .land, .media, .plp, .ports, .out, .free] s
  refine ⟨_, rfl, ?_⟩
  repeat' (first | with_reducible assumption | ((with_reducible apply Changes.step (State.pounceAged_changes ..)) <;> [rfl; skip]) | ((with_reducible apply Changes.step (State.settleReads_changes ..)) <;> [rfl; skip]) | ((with_reducible apply State.whenLive_changes) <;> [(intro _ _); skip]) | ((with_reducible apply Changes.foldl) <;> [(intro _ _ _); skip]) | split)

theorem execFullingWindowExpire_changes (s : State) :
    ∃ t, execFullingWindowExpire s = .next t ∧ Changes [.media] s t := by
  have h0 := Changes.refl [.media] s
  refine ⟨_, rfl, ?_⟩
  repeat' (first | with_reducible assumption | ((with_reducible apply Changes.step (State.setMedia_changes ..)) <;> [rfl; skip]) | ((with_reducible apply State.whenLive_changes) <;> [(intro _ _); skip]) | ((with_reducible apply Changes.foldl) <;> [(intro _ _ _); skip]) | split)

theorem execReclaimUnitTimeLimit_changes (handle : Nat) (s : State) :
    ∃ t, execReclaimUnitTimeLimit handle s = .next t ∧ Changes [.media, .out] s t := by
  have h0 := Changes.refl [.media, .out] s
  refine ⟨_, rfl, ?_⟩
  repeat' (first | with_reducible assumption | ((with_reducible apply Changes.step (State.closeHandle_changes ..)) <;> [rfl; skip]) | ((with_reducible apply State.whenLive_changes) <;> [(intro _ _); skip]) | ((with_reducible apply Changes.foldl) <;> [(intro _ _ _); skip]) | split)

theorem execChargeEnable_changes (s : State) :
    ∃ t, execChargeEnable s = .next t ∧ Changes [.evr, .land, .plp, .ports, .out] s t := by
  have h0 := Changes.refl [.evr, .land, .plp, .ports, .out] s
  refine ⟨_, rfl, ?_⟩
  repeat' (first | with_reducible assumption | ((with_reducible apply Changes.step (State.chargeEnable_changes ..)) <;> [rfl; skip]) | ((with_reducible apply State.whenLive_changes) <;> [(intro _ _); skip]) | ((with_reducible apply Changes.foldl) <;> [(intro _ _ _); skip]) | split)

theorem execPrechargeEnd_changes (s : State) :
    ∃ t, execPrechargeEnd s = .next t ∧ Changes [.plp] s t := by
  have h0 := Changes.refl [.plp] s
  refine ⟨_, rfl, ?_⟩
  repeat' (first | with_reducible assumption | ((with_reducible apply Changes.step (State.setPlp_changes ..)) <;> [rfl; skip]) | ((with_reducible apply State.whenLive_changes) <;> [(intro _ _); skip]) | ((with_reducible apply Changes.foldl) <;> [(intro _ _ _); skip]) | split)

theorem execBankTestDue_changes (s : State) :
    ∃ t, execBankTestDue s = .next t ∧ Changes [.evr, .land, .plp, .ports, .out] s t := by
  have h0 := Changes.refl [.evr, .land, .plp, .ports, .out] s
  refine ⟨_, rfl, ?_⟩
  repeat' (first | with_reducible assumption | ((with_reducible apply Changes.step (State.setPlp_changes ..)) <;> [rfl; skip]) | ((with_reducible apply Changes.step (State.tryTest_changes ..)) <;> [rfl; skip]) | ((with_reducible apply State.whenLive_changes) <;> [(intro _ _); skip]) | ((with_reducible apply Changes.foldl) <;> [(intro _ _ _); skip]) | split)

theorem execBankFullCharge_changes (s : State) :
    ∃ t, execBankFullCharge s = .next t ∧ Changes [.evr, .cmq, .land, .media, .plp, .ports, .out, .free] s t := by
  have h0 := Changes.refl [.evr, .cmq, .land, .media, .plp, .ports, .out, .free] s
  refine ⟨_, rfl, ?_⟩
  repeat' (first | with_reducible assumption | ((with_reducible apply Changes.step (State.fullCharge_changes ..)) <;> [rfl; skip]) | ((with_reducible apply State.whenLive_changes) <;> [(intro _ _); skip]) | ((with_reducible apply Changes.foldl) <;> [(intro _ _ _); skip]) | split)

theorem execBankFault_changes (k : BankFaultKind) (pins : BankPins) (s : State) :
    ∃ t, execBankFault k pins s = .next t ∧ Changes [.evr, .land, .media, .plp, .ports, .out] s t := by
  have h0 := Changes.refl [.evr, .land, .media, .plp, .ports, .out] s
  refine ⟨_, rfl, ?_⟩
  repeat' (first | with_reducible assumption | ((with_reducible apply Changes.step (State.bankFault_changes ..)) <;> [rfl; skip]) | ((with_reducible apply State.whenLive_changes) <;> [(intro _ _); skip]) | ((with_reducible apply Changes.foldl) <;> [(intro _ _ _); skip]) | split)

theorem execChargeTimeout_changes (pins : BankPins) (s : State) :
    ∃ t, execChargeTimeout pins s = .next t ∧ Changes [.evr, .land, .media, .plp, .ports, .out] s t := by
  have h0 := Changes.refl [.evr, .land, .media, .plp, .ports, .out] s
  refine ⟨_, rfl, ?_⟩
  repeat' (first | with_reducible assumption | ((with_reducible apply Changes.step (State.bankFault_changes ..)) <;> [rfl; skip]) | ((with_reducible apply State.whenLive_changes) <;> [(intro _ _); skip]) | ((with_reducible apply Changes.foldl) <;> [(intro _ _ _); skip]) | split)

theorem execChargeRetry_changes (s : State) :
    ∃ t, execChargeRetry s = .next t ∧ Changes [.evr, .land, .plp, .ports, .out] s t := by
  have h0 := Changes.refl [.evr, .land, .plp, .ports, .out] s
  refine ⟨_, rfl, ?_⟩
  repeat' (first | with_reducible assumption | ((with_reducible apply Changes.step (State.startCharge_changes ..)) <;> [rfl; skip]) | ((with_reducible apply State.whenLive_changes) <;> [(intro _ _); skip]) | ((with_reducible apply Changes.foldl) <;> [(intro _ _ _); skip]) | split)

theorem execBankFaultClear_changes (k : BankFaultKind) (s : State) :
    ∃ t, execBankFaultClear k s = .next t ∧ Changes [.evr, .land, .plp, .ports, .out] s t := by
  have h0 := Changes.refl [.evr, .land, .plp, .ports, .out] s
  refine ⟨_, rfl, ?_⟩
  repeat' (first | with_reducible assumption | ((with_reducible apply Changes.step (State.bankFaultClear_changes ..)) <;> [rfl; skip]) | ((with_reducible apply State.whenLive_changes) <;> [(intro _ _); skip]) | ((with_reducible apply Changes.foldl) <;> [(intro _ _ _); skip]) | split)

theorem execBankTestEnd_changes (m : BankMeas) (s : State) :
    ∃ t, execBankTestEnd m s = .next t ∧ Changes [.evr, .cmq, .land, .media, .plp, .ports, .out, .free] s t := by
  have h0 := Changes.refl [.evr, .cmq, .land, .media, .plp, .ports, .out, .free] s
  refine ⟨_, rfl, ?_⟩
  repeat' (first | with_reducible assumption | ((with_reducible apply Changes.step (State.bankTestEnd_changes ..)) <;> [rfl; skip]) | ((with_reducible apply State.whenLive_changes) <;> [(intro _ _); skip]) | ((with_reducible apply Changes.foldl) <;> [(intro _ _ _); skip]) | split)

theorem execLandingLimitRecompute_changes (capSense : Nat) (s : State) :
    ∃ t, execLandingLimitRecompute capSense s = .next t ∧ Changes [.evr, .cmq, .land, .media, .plp, .ports, .out, .free] s t := by
  have h0 := Changes.refl [.evr, .cmq, .land, .media, .plp, .ports, .out, .free] s
  refine ⟨_, rfl, ?_⟩
  repeat' (first | with_reducible assumption | ((with_reducible apply Changes.step (State.recompute_changes ..)) <;> [rfl; skip]) | ((with_reducible apply Changes.step (State.resumeAll_changes ..)) <;> [rfl; skip]) | ((with_reducible apply Changes.step (State.setPlp_changes ..)) <;> [rfl; skip]) | ((with_reducible apply State.whenLive_changes) <;> [(intro _ _); skip]) | ((with_reducible apply Changes.foldl) <;> [(intro _ _ _); skip]) | split)

theorem execPowerFail_changes (src : PfSource) (s : State) :
    ∃ t, execPowerFail src s = .next t ∧ Changes [.phase, .evr, .cmq, .land, .media, .plp, .dram, .sdm, .boot, .pws, .out] s t := by
  have h0 := Changes.refl [.phase, .evr, .cmq, .land, .media, .plp, .dram, .sdm, .boot, .pws, .out] s
  refine ⟨_, rfl, ?_⟩
  repeat' (first | with_reducible assumption | ((with_reducible apply Changes.step (State.powerFails_changes ..)) <;> [rfl; skip]) | ((with_reducible apply Changes.foldl) <;> [(intro _ _ _); skip]) | split)

theorem execHuIsoClose_changes (s : State) :
    ∃ t, execHuIsoClose s = .next t ∧ Changes [.plp, .out] s t := by
  have h0 := Changes.refl [.plp, .out] s
  refine ⟨_, rfl, ?_⟩
  repeat' (first | with_reducible assumption | ((with_reducible apply Changes.step (State.isoClose_changes ..)) <;> [rfl; skip]) | ((with_reducible apply Changes.foldl) <;> [(intro _ _ _); skip]) | split)

theorem execSqDoorbell_changes (p : Fin 2) (qid : Nat) (tail : Nat) (s : State) :
    ∃ t, execSqDoorbell p qid tail s = .next t ∧ Changes [.evr, .cmq, .land, .media, .ports, .dram, .pws, .out] s t := by
  have h0 := Changes.refl [.evr, .cmq, .land, .media, .ports, .dram, .pws, .out] s
  refine ⟨_, rfl, ?_⟩
  repeat' (first | with_reducible assumption | ((with_reducible apply Changes.step (State.sqDoorbell_changes ..)) <;> [rfl; skip]) | ((with_reducible apply Changes.foldl) <;> [(intro _ _ _); skip]) | split)

theorem execCqHeadDoorbell_changes (p : Fin 2) (qid : Nat) (head : Nat) (s : State) :
    ∃ t, execCqHeadDoorbell p qid head s = .next t ∧ Changes [.cmq, .ports, .out] s t := by
  have h0 := Changes.refl [.cmq, .ports, .out] s
  refine ⟨_, rfl, ?_⟩
  repeat' (first | with_reducible assumption | ((with_reducible apply Changes.step (State.cqDoorbell_changes ..)) <;> [rfl; skip]) | ((with_reducible apply Changes.foldl) <;> [(intro _ _ _); skip]) | split)

theorem execCommandFetch_changes (p : Fin 2) (cid : Nat) (cmd : HostCmd) (s : State) :
    ∃ t, execCommandFetch p cid cmd s = .next t ∧ Changes [.cmq, .land, .media, .ports, .pws, .out] s t := by
  have h0 := Changes.refl [.cmq, .land, .media, .ports, .pws, .out] s
  refine ⟨_, rfl, ?_⟩
  repeat' (first | with_reducible assumption | ((with_reducible apply Changes.step (State.fetch_changes ..)) <;> [rfl; skip]) | ((with_reducible apply Changes.step (State.ungate_changes ..)) <;> [rfl; skip]) | ((with_reducible apply State.whenLive_changes) <;> [(intro _ _); skip]) | ((with_reducible apply Changes.foldl) <;> [(intro _ _ _); skip]) | split)

theorem execCreateIoCq_changes (fseq : Nat) (qid : Nat) (size : Nat) (vector : Nat) (contig : Bool) (inCmb : Bool) (s : State) :
    ∃ t, execCreateIoCq fseq qid size vector contig inCmb s = .next t ∧ Changes [.cmq, .land, .media, .ports, .out] s t := by
  have h0 := Changes.refl [.cmq, .land, .media, .ports, .out] s
  refine ⟨_, rfl, ?_⟩
  repeat' (first | with_reducible assumption | ((with_reducible apply Changes.step (State.createCq_changes ..)) <;> [rfl; skip]) | ((with_reducible apply State.onAdmin_changes) <;> [(intro _ _ _); skip]) | ((with_reducible apply Changes.foldl) <;> [(intro _ _ _); skip]) | split)

theorem execCreateIoSq_changes (fseq : Nat) (qid : Nat) (size : Nat) (cqid : Nat) (prio : Fin 4) (contig : Bool) (inCmb : Bool) (s : State) :
    ∃ t, execCreateIoSq fseq qid size cqid prio contig inCmb s = .next t ∧ Changes [.cmq, .land, .media, .ports, .out] s t := by
  have h0 := Changes.refl [.cmq, .land, .media, .ports, .out] s
  refine ⟨_, rfl, ?_⟩
  repeat' (first | with_reducible assumption | ((with_reducible apply Changes.step (State.createSq_changes ..)) <;> [rfl; skip]) | ((with_reducible apply State.onAdmin_changes) <;> [(intro _ _ _); skip]) | ((with_reducible apply Changes.foldl) <;> [(intro _ _ _); skip]) | split)

theorem execDeleteIoSq_changes (fseq : Nat) (qid : Nat) (s : State) :
    ∃ t, execDeleteIoSq fseq qid s = .next t ∧ Changes [.cmq, .land, .media, .ports, .out] s t := by
  have h0 := Changes.refl [.cmq, .land, .media, .ports, .out] s
  refine ⟨_, rfl, ?_⟩
  repeat' (first | with_reducible assumption | ((with_reducible apply Changes.step (State.deleteSq_changes ..)) <;> [rfl; skip]) | ((with_reducible apply State.onAdmin_changes) <;> [(intro _ _ _); skip]) | ((with_reducible apply Changes.foldl) <;> [(intro _ _ _); skip]) | split)

theorem execDeleteIoCq_changes (fseq : Nat) (qid : Nat) (s : State) :
    ∃ t, execDeleteIoCq fseq qid s = .next t ∧ Changes [.cmq, .land, .media, .ports, .out] s t := by
  have h0 := Changes.refl [.cmq, .land, .media, .ports, .out] s
  refine ⟨_, rfl, ?_⟩
  repeat' (first | with_reducible assumption | ((with_reducible apply Changes.step (State.deleteCq_changes ..)) <;> [rfl; skip]) | ((with_reducible apply State.onAdmin_changes) <;> [(intro _ _ _); skip]) | ((with_reducible apply Changes.foldl) <;> [(intro _ _ _); skip]) | split)

theorem execGetLogPage_changes (fseq : Nat) (lid : Nat) (_nsid : Nat) (s : State) :
    ∃ t, execGetLogPage fseq lid _nsid s = .next t ∧ Changes [.cmq, .land, .media, .ports, .out] s t := by
  have h0 := Changes.refl [.cmq, .land, .media, .ports, .out] s
  refine ⟨_, rfl, ?_⟩
  repeat' (first | with_reducible assumption | ((with_reducible apply Changes.step (State.getLog_changes ..)) <;> [rfl; skip]) | ((with_reducible apply State.onAdmin_changes) <;> [(intro _ _ _); skip]) | ((with_reducible apply Changes.foldl) <;> [(intro _ _ _); skip]) | split)

theorem execIdentify_changes (fseq : Nat) (cns : Nat) (nsid : Nat) (s : State) :
    ∃ t, execIdentify fseq cns nsid s = .next t ∧ Changes [.cmq, .land, .media, .ports, .out] s t := by
  have h0 := Changes.refl [.cmq, .land, .media, .ports, .out] s
  refine ⟨_, rfl, ?_⟩
  repeat' (first | with_reducible assumption | ((with_reducible apply Changes.step (State.identify_changes ..)) <;> [rfl; skip]) | ((with_reducible apply State.onAdmin_changes) <;> [(intro _ _ _); skip]) | ((with_reducible apply Changes.foldl) <;> [(intro _ _ _); skip]) | split)

theorem execAbort_changes (fseq : Nat) (sqid : Nat) (cid : Nat) (s : State) :
    ∃ t, execAbort fseq sqid cid s = .next t ∧ Changes [.cmq, .land, .media, .ports, .out, .free] s t := by
  have h0 := Changes.refl [.cmq, .land, .media, .ports, .out, .free] s
  refine ⟨_, rfl, ?_⟩
  repeat' (first | with_reducible assumption | ((with_reducible apply Changes.step (State.abort_changes ..)) <;> [rfl; skip]) | ((with_reducible apply State.onAdmin_changes) <;> [(intro _ _ _); skip]) | ((with_reducible apply Changes.step (State.resumeAll_changes ..)) <;> [rfl; skip]) | ((with_reducible apply Changes.foldl) <;> [(intro _ _ _); skip]) | split)

theorem execGetFeatures_changes (fseq : Nat) (fid : Nat) (sel : Nat) (s : State) :
    ∃ t, execGetFeatures fseq fid sel s = .next t ∧ Changes [.cmq, .land, .media, .ports, .out] s t := by
  have h0 := Changes.refl [.cmq, .land, .media, .ports, .out] s
  refine ⟨_, rfl, ?_⟩
  repeat' (first | with_reducible assumption | ((with_reducible apply Changes.step (State.getFeatures_changes ..)) <;> [rfl; skip]) | ((with_reducible apply State.onAdmin_changes) <;> [(intro _ _ _); skip]) | ((with_reducible apply Changes.foldl) <;> [(intro _ _ _); skip]) | split)

theorem execSetArbitration_changes (fseq : Nat) (burst : Fin 8) (low : Byte) (med : Byte) (high : Byte) (save : Bool) (s : State) :
    ∃ t, execSetArbitration fseq burst low med high save s = .next t ∧ Changes [.cmq, .land, .media, .ports, .out] s t := by
  have h0 := Changes.refl [.cmq, .land, .media, .ports, .out] s
  refine ⟨_, rfl, ?_⟩
  repeat' (first | with_reducible assumption | ((with_reducible apply State.onAdmin_changes) <;> [(intro _ _ _); skip]) | ((with_reducible apply Changes.step (State.setFeat_changes ..)) <;> [rfl; skip]) | ((with_reducible apply Changes.foldl) <;> [(intro _ _ _); skip]) | split)

theorem execSetTemperatureThreshold_changes (fseq : Nat) (sensor : Fin 16) (under : Bool) (kelvin : BitVec 16) (s : State) :
    ∃ t, execSetTemperatureThreshold fseq sensor under kelvin s = .next t ∧ Changes [.cmq, .land, .media, .ports, .out] s t := by
  have h0 := Changes.refl [.cmq, .land, .media, .ports, .out] s
  refine ⟨_, rfl, ?_⟩
  repeat' (first | with_reducible assumption | ((with_reducible apply Changes.step (State.complete_changes ..)) <;> [rfl; skip]) | ((with_reducible apply State.onAdmin_changes) <;> [(intro _ _ _); skip]) | ((with_reducible apply Changes.step (State.setFeat_changes ..)) <;> [rfl; skip]) | ((with_reducible apply Changes.foldl) <;> [(intro _ _ _); skip]) | split)

theorem execSetErrorRecovery_changes (fseq : Nat) (tler : BitVec 16) (dulbe : Bool) (s : State) :
    ∃ t, execSetErrorRecovery fseq tler dulbe s = .next t ∧ Changes [.cmq, .land, .media, .ports, .out] s t := by
  have h0 := Changes.refl [.cmq, .land, .media, .ports, .out] s
  refine ⟨_, rfl, ?_⟩
  repeat' (first | with_reducible assumption | ((with_reducible apply State.onAdmin_changes) <;> [(intro _ _ _); skip]) | ((with_reducible apply Changes.step (State.setFeat_changes ..)) <;> [rfl; skip]) | ((with_reducible apply Changes.foldl) <;> [(intro _ _ _); skip]) | split)

theorem execSetVolatileWriteCache_changes (fseq : Nat) (wce : Bool) (save : Bool) (s : State) :
    ∃ t, execSetVolatileWriteCache fseq wce save s = .next t ∧ Changes [.cmq, .land, .media, .ports, .out] s t := by
  have h0 := Changes.refl [.cmq, .land, .media, .ports, .out] s
  refine ⟨_, rfl, ?_⟩
  repeat' (first | with_reducible assumption | ((with_reducible apply State.onAdmin_changes) <;> [(intro _ _ _); skip]) | ((with_reducible apply Changes.step (State.setFeat_changes ..)) <;> [rfl; skip]) | ((with_reducible apply Changes.foldl) <;> [(intro _ _ _); skip]) | split)

theorem execSetNumberOfQueues_changes (fseq : Nat) (nsq : Nat) (ncq : Nat) (s : State) :
    ∃ t, execSetNumberOfQueues fseq nsq ncq s = .next t ∧ Changes [.cmq, .land, .media, .ports, .out] s t := by
  have h0 := Changes.refl [.cmq, .land, .media, .ports, .out] s
  refine ⟨_, rfl, ?_⟩
  try dsimp only
  repeat' (first | with_reducible assumption | ((with_reducible apply Changes.step (State.complete_changes ..)) <;> [rfl; skip]) | ((with_reducible apply State.onAdmin_changes) <;> [(intro _ _ _); skip]) | ((with_reducible apply Changes.step (State.setFeat_changes ..)) <;> [rfl; skip]) | ((with_reducible apply Changes.foldl) <;> [(intro _ _ _); skip]) | split)

theorem execSetInterruptCoalescing_changes (fseq : Nat) (threshold : Byte) (time : Byte) (s : State) :
    ∃ t, execSetInterruptCoalescing fseq threshold time s = .next t ∧ Changes [.cmq, .land, .media, .ports, .out] s t := by
  have h0 := Changes.refl [.cmq, .land, .media, .ports, .out] s
  refine ⟨_, rfl, ?_⟩
  repeat' (first | with_reducible assumption | ((with_reducible apply State.onAdmin_changes) <;> [(intro _ _ _); skip]) | ((with_reducible apply Changes.step (State.setFeat_changes ..)) <;> [rfl; skip]) | ((with_reducible apply Changes.foldl) <;> [(intro _ _ _); skip]) | split)

theorem execSetInterruptVectorConfig_changes (fseq : Nat) (vector : Nat) (disable : Bool) (s : State) :
    ∃ t, execSetInterruptVectorConfig fseq vector disable s = .next t ∧ Changes [.cmq, .land, .media, .ports, .out] s t := by
  have h0 := Changes.refl [.cmq, .land, .media, .ports, .out] s
  refine ⟨_, rfl, ?_⟩
  repeat' (first | with_reducible assumption | ((with_reducible apply Changes.step (State.complete_changes ..)) <;> [rfl; skip]) | ((with_reducible apply State.onAdmin_changes) <;> [(intro _ _ _); skip]) | ((with_reducible apply Changes.step (State.setFeat_changes ..)) <;> [rfl; skip]) | ((with_reducible apply Changes.foldl) <;> [(intro _ _ _); skip]) | split)

theorem execSetAsyncEventConfig_changes (fseq : Nat) (mask : BitVec 32) (s : State) :
    ∃ t, execSetAsyncEventConfig fseq mask s = .next t ∧ Changes [.cmq, .land, .media, .ports, .out] s t := by
  have h0 := Changes.refl [.cmq, .land, .media, .ports, .out] s
  refine ⟨_, rfl, ?_⟩
  repeat' (first | with_reducible assumption | ((with_reducible apply State.onAdmin_changes) <;> [(intro _ _ _); skip]) | ((with_reducible apply Changes.step (State.setFeat_changes ..)) <;> [rfl; skip]) | ((with_reducible apply Changes.foldl) <;> [(intro _ _ _); skip]) | split)

theorem execSetApst_changes (fseq : Nat) (enable : Bool) (table : List (Nat × Nat)) (s : State) :
    ∃ t, execSetApst fseq enable table s = .next t ∧ Changes [.cmq, .land, .media, .ports, .out] s t := by
  have h0 := Changes.refl [.cmq, .land, .media, .ports, .out] s
  refine ⟨_, rfl, ?_⟩
  repeat' (first | with_reducible assumption | ((with_reducible apply Changes.step (State.complete_changes ..)) <;> [rfl; skip]) | ((with_reducible apply State.onAdmin_changes) <;> [(intro _ _ _); skip]) | ((with_reducible apply Changes.step (State.setFeat_changes ..)) <;> [rfl; skip]) | ((with_reducible apply Changes.foldl) <;> [(intro _ _ _); skip]) | split)

theorem execSetTimestamp_changes (fseq : Nat) (ms : Nat) (s : State) :
    ∃ t, execSetTimestamp fseq ms s = .next t ∧ Changes [.evr, .clocks, .cmq, .land, .media, .ports, .out] s t := by
  have h0 := Changes.refl [.evr, .clocks, .cmq, .land, .media, .ports, .out] s
  refine ⟨_, rfl, ?_⟩
  try dsimp only
  repeat' (first | with_reducible assumption | ((conv => (arg 3; arg 24; skip)); ((with_reducible apply Changes.clocks_with) <;> [rfl; skip])) | ((with_reducible apply Changes.step (State.complete_changes ..)) <;> [rfl; skip]) | ((with_reducible apply State.onAdmin_changes) <;> [(intro _ _ _); skip]) | ((with_reducible apply Changes.step (State.persist_changes ..)) <;> [rfl; skip]) | ((with_reducible apply Changes.foldl) <;> [(intro _ _ _); skip]) | split)

theorem execSetHctm_changes (fseq : Nat) (tmt1 : Nat) (tmt2 : Nat) (s : State) :
    ∃ t, execSetHctm fseq tmt1 tmt2 s = .next t ∧ Changes [.cmq, .land, .media, .ports, .out] s t := by
  have h0 := Changes.refl [.cmq, .land, .media, .ports, .out] s
  refine ⟨_, rfl, ?_⟩
  try dsimp only
  repeat' (first | with_reducible assumption | ((with_reducible apply Changes.step (State.complete_changes ..)) <;> [rfl; skip]) | ((with_reducible apply State.onAdmin_changes) <;> [(intro _ _ _); skip]) | ((with_reducible apply Changes.step (State.setFeat_changes ..)) <;> [rfl; skip]) | ((with_reducible apply Changes.foldl) <;> [(intro _ _ _); skip]) | split)

theorem execSetReadRecoveryLevel_changes (fseq : Nat) (level : Nat) (s : State) :
    ∃ t, execSetReadRecoveryLevel fseq level s = .next t ∧ Changes [.cmq, .land, .media, .ports, .out] s t := by
  have h0 := Changes.refl [.cmq, .land, .media, .ports, .out] s
  refine ⟨_, rfl, ?_⟩
  repeat' (first | with_reducible assumption | ((with_reducible apply Changes.step (State.complete_changes ..)) <;> [rfl; skip]) | ((with_reducible apply State.onAdmin_changes) <;> [(intro _ _ _); skip]) | ((with_reducible apply Changes.step (State.setFeat_changes ..)) <;> [rfl; skip]) | ((with_reducible apply Changes.foldl) <;> [(intro _ _ _); skip]) | split)

theorem execSetReservationPersistence_changes (fseq : Nat) (nsid : Nat) (ptpl : Bool) (s : State) :
    ∃ t, execSetReservationPersistence fseq nsid ptpl s = .next t ∧ Changes [.cmq, .land, .media, .ports, .out] s t := by
  have h0 := Changes.refl [.cmq, .land, .media, .ports, .out] s
  refine ⟨_, rfl, ?_⟩
  repeat' (first | with_reducible assumption | ((with_reducible apply Changes.step (State.complete_changes ..)) <;> [rfl; skip]) | ((with_reducible apply State.onAdmin_changes) <;> [(intro _ _ _); skip]) | ((with_reducible apply Changes.step (State.setNs_changes ..)) <;> [rfl; skip]) | ((with_reducible apply Changes.foldl) <;> [(intro _ _ _); skip]) | split)

theorem execSetHostIdentifier_changes (fseq : Nat) (id : BitVec 128) (s : State) :
    ∃ t, execSetHostIdentifier fseq id s = .next t ∧ Changes [.cmq, .land, .media, .ports, .out] s t := by
  have h0 := Changes.refl [.cmq, .land, .media, .ports, .out] s
  refine ⟨_, rfl, ?_⟩
  repeat' (first | with_reducible assumption | ((with_reducible apply State.onAdmin_changes) <;> [(intro _ _ _); skip]) | ((with_reducible apply Changes.step (State.setFeat_changes ..)) <;> [rfl; skip]) | ((with_reducible apply Changes.foldl) <;> [(intro _ _ _); skip]) | split)

theorem execSetFdp_changes (fseq : Nat) (enable : Bool) (s : State) :
    ∃ t, execSetFdp fseq enable s = .next t ∧ Changes [.cmq, .land, .media, .ports, .out] s t := by
  have h0 := Changes.refl [.cmq, .land, .media, .ports, .out] s
  refine ⟨_, rfl, ?_⟩
  repeat' (first | with_reducible assumption | ((with_reducible apply Changes.step (State.complete_changes ..)) <;> [rfl; skip]) | ((with_reducible apply State.onAdmin_changes) <;> [(intro _ _ _); skip]) | ((with_reducible apply Changes.step (State.setMedia_changes ..)) <;> [rfl; skip]) | ((with_reducible apply Changes.foldl) <;> [(intro _ _ _); skip]) | split)

theorem execSetPowerManagement_changes (fseq : Nat) (ps : Nat) (s : State) :
    ∃ t, execSetPowerManagement fseq ps s = .next t ∧ Changes [.evr, .cmq, .land, .media, .plp, .ports, .pws, .out] s t := by
  have h0 := Changes.refl [.evr, .cmq, .land, .media, .plp, .ports, .pws, .out] s
  refine ⟨_, rfl, ?_⟩
  try dsimp only
  repeat' (first | with_reducible assumption | ((with_reducible apply Changes.step (State.complete_changes ..)) <;> [rfl; skip]) | ((with_reducible apply Changes.step (State.followPs_changes ..)) <;> [rfl; skip]) | ((with_reducible apply State.onAdmin_changes) <;> [(intro _ _ _); skip]) | ((with_reducible apply Changes.step (State.setCtrl_changes ..)) <;> [rfl; skip]) | ((with_reducible apply Changes.foldl) <;> [(intro _ _ _); skip]) | split)

theorem execAsyncEventRequest_changes (fseq : Nat) (s : State) :
    ∃ t, execAsyncEventRequest fseq s = .next t ∧ Changes [.cmq, .land, .media, .ports, .out] s t := by
  have h0 := Changes.refl [.cmq, .land, .media, .ports, .out] s
  refine ⟨_, rfl, ?_⟩
  try dsimp only
  repeat' (first | with_reducible assumption | ((with_reducible apply Changes.step (State.complete_changes ..)) <;> [rfl; skip]) | ((with_reducible apply State.onAdmin_changes) <;> [(intro _ _ _); skip]) | ((with_reducible apply Changes.step (State.setCmd_changes ..)) <;> [rfl; skip]) | ((with_reducible apply Changes.step (State.setCtrl_changes ..)) <;> [rfl; skip]) | ((with_reducible apply Changes.foldl) <;> [(intro _ _ _); skip]) | split)

theorem execDeviceSelfTest_changes (fseq : Nat) (code : Nat) (s : State) :
    ∃ t, execDeviceSelfTest fseq code s = .next t ∧ Changes [.cmq, .land, .media, .ports, .out, .free] s t := by
  have h0 := Changes.refl [.cmq, .land, .media, .ports, .out, .free] s
  refine ⟨_, rfl, ?_⟩
  try dsimp only
  repeat' (first | with_reducible assumption | ((conv => (arg 3; arg 24; skip)); ((with_reducible apply Changes.free_with) <;> [rfl; skip])) | ((with_reducible apply Changes.step (State.complete_changes ..)) <;> [rfl; skip]) | ((with_reducible apply State.onAdmin_changes) <;> [(intro _ _ _); skip]) | ((with_reducible apply Changes.step (State.setCtrl_changes ..)) <;> [rfl; skip]) | ((with_reducible apply Changes.foldl) <;> [(intro _ _ _); skip]) | split)

theorem execDirectiveSend_changes (fseq : Nat) (nsid : Nat) (dtype : Nat) (enable : Bool) (s : State) :
    ∃ t, execDirectiveSend fseq nsid dtype enable s = .next t ∧ Changes [.cmq, .land, .media, .ports, .out] s t := by
  have h0 := Changes.refl [.cmq, .land, .media, .ports, .out] s
  refine ⟨_, rfl, ?_⟩
  repeat' (first | with_reducible assumption | ((with_reducible apply Changes.step (State.complete_changes ..)) <;> [rfl; skip]) | ((with_reducible apply State.onAdmin_changes) <;> [(intro _ _ _); skip]) | ((with_reducible apply Changes.step (State.setCtrl_changes ..)) <;> [rfl; skip]) | ((with_reducible apply Changes.foldl) <;> [(intro _ _ _); skip]) | split)

theorem execDirectiveReceive_changes (fseq : Nat) (nsid : Nat) (dtype : Nat) (s : State) :
    ∃ t, execDirectiveReceive fseq nsid dtype s = .next t ∧ Changes [.cmq, .land, .media, .ports, .out] s t := by
  have h0 := Changes.refl [.cmq, .land, .media, .ports, .out] s
  refine ⟨_, rfl, ?_⟩
  repeat' (first | with_reducible assumption | ((with_reducible apply Changes.step (State.complete_changes ..)) <;> [rfl; skip]) | ((with_reducible apply Changes.step (State.emit_changes ..)) <;> [rfl; skip]) | ((with_reducible apply State.onAdmin_changes) <;> [(intro _ _ _); skip]) | ((with_reducible apply Changes.foldl) <;> [(intro _ _ _); skip]) | split)

theorem execInvalidAdminOpcode_changes (fseq : Nat) (s : State) :
    ∃ t, execInvalidAdminOpcode fseq s = .next t ∧ Changes [.cmq, .land, .media, .ports, .out] s t := by
  have h0 := Changes.refl [.cmq, .land, .media, .ports, .out] s
  refine ⟨_, rfl, ?_⟩
  repeat' (first | with_reducible assumption | ((with_reducible apply Changes.step (State.invalidAdmin_changes ..)) <;> [rfl; skip]) | ((with_reducible apply State.whenLive_changes) <;> [(intro _ _); skip]) | ((with_reducible apply Changes.foldl) <;> [(intro _ _ _); skip]) | split)

theorem execNamespaceManagement_changes (fseq : Nat) (m : NsMgmt) (s : State) :
    ∃ t, execNamespaceManagement fseq m s = .next t ∧ Changes [.evr, .cmq, .land, .media, .ports, .dict, .out, .free] s t := by
  have h0 := Changes.refl [.evr, .cmq, .land, .media, .ports, .dict, .out, .free] s
  refine ⟨_, rfl, ?_⟩
  repeat' (first | with_reducible assumption | ((with_reducible apply Changes.step (State.nsManage_changes ..)) <;> [rfl; skip]) | ((with_reducible apply State.onAdmin_changes) <;> [(intro _ _ _); skip]) | ((with_reducible apply Changes.foldl) <;> [(intro _ _ _); skip]) | split)

theorem execNamespaceAttachment_changes (fseq : Nat) (attach : Bool) (nsid : Nat) (ctrls : List (Fin 2)) (s : State) :
    ∃ t, execNamespaceAttachment fseq attach nsid ctrls s = .next t ∧ Changes [.cmq, .land, .media, .ports, .out] s t := by
  have h0 := Changes.refl [.cmq, .land, .media, .ports, .out] s
  refine ⟨_, rfl, ?_⟩
  repeat' (first | with_reducible assumption | ((with_reducible apply Changes.step (State.nsAttach_changes ..)) <;> [rfl; skip]) | ((with_reducible apply State.onAdmin_changes) <;> [(intro _ _ _); skip]) | ((with_reducible apply Changes.foldl) <;> [(intro _ _ _); skip]) | split)

theorem execFormatNvm_changes (fseq : Nat) (nsid : Nat) (ses : Nat) (lba512 : Bool) (s : State) :
    ∃ t, execFormatNvm fseq nsid ses lba512 s = .next t ∧ Changes [.evr, .cmq, .land, .media, .ports, .sec, .out, .free] s t := by
  have h0 := Changes.refl [.evr, .cmq, .land, .media, .ports, .sec, .out, .free] s
  refine ⟨_, rfl, ?_⟩
  repeat' (first | with_reducible assumption | ((with_reducible apply Changes.step (State.format_changes ..)) <;> [rfl; skip]) | ((with_reducible apply State.onAdmin_changes) <;> [(intro _ _ _); skip]) | ((with_reducible apply Changes.foldl) <;> [(intro _ _ _); skip]) | split)

theorem execSanitize_changes (fseq : Nat) (action : Nat) (s : State) :
    ∃ t, execSanitize fseq action s = .next t ∧ Changes [.evr, .cmq, .land, .media, .ports, .sec, .out, .free] s t := by
  have h0 := Changes.refl [.evr, .cmq, .land, .media, .ports, .sec, .out, .free] s
  refine ⟨_, rfl, ?_⟩
  repeat' (first | with_reducible assumption | ((with_reducible apply State.onAdmin_changes) <;> [(intro _ _ _); skip]) | ((with_reducible apply Changes.step (State.sanitize_changes ..)) <;> [rfl; skip]) | ((with_reducible apply Changes.foldl) <;> [(intro _ _ _); skip]) | split)

theorem execFlushCommand_changes (fseq : Nat) (s : State) :
    ∃ t, execFlushCommand fseq s = .next t ∧ Changes [.cmq, .land, .media, .ports, .out] s t := by
  have h0 := Changes.refl [.cmq, .land, .media, .ports, .out] s
  refine ⟨_, rfl, ?_⟩
  repeat' (first | with_reducible assumption | ((with_reducible apply Changes.step (State.flushCmd_changes ..)) <;> [rfl; skip]) | ((with_reducible apply State.onIo_changes) <;> [(intro _ _ _); skip]) | ((with_reducible apply Changes.foldl) <;> [(intro _ _ _); skip]) | split)

theorem execCompare_changes (fseq : Nat) (data : List Sector) (s : State) :
    ∃ t, execCompare fseq data s = .next t ∧ Changes [.cmq, .land, .media, .ports, .out, .free] s t := by
  have h0 := Changes.refl [.cmq, .land, .media, .ports, .out, .free] s
  refine ⟨_, rfl, ?_⟩
  repeat' (first | with_reducible assumption | ((with_reducible apply State.onIo_changes) <;> [(intro _ _ _); skip]) | ((with_reducible apply Changes.step (State.setCmd_changes ..)) <;> [rfl; skip]) | ((with_reducible apply Changes.step (State.startIo_changes ..)) <;> [rfl; skip]) | ((with_reducible apply Changes.foldl) <;> [(intro _ _ _); skip]) | split)

theorem execVerify_changes (fseq : Nat) (s : State) :
    ∃ t, execVerify fseq s = .next t ∧ Changes [.cmq, .land, .media, .ports, .out, .free] s t := by
  have h0 := Changes.refl [.cmq, .land, .media, .ports, .out, .free] s
  refine ⟨_, rfl, ?_⟩
  repeat' (first | with_reducible assumption | ((with_reducible apply State.onIo_changes) <;> [(intro _ _ _); skip]) | ((with_reducible apply Changes.step (State.startIo_changes ..)) <;> [rfl; skip]) | ((with_reducible apply Changes.foldl) <;> [(intro _ _ _); skip]) | split)

theorem execCopy_changes (fseq : Nat) (s : State) :
    ∃ t, execCopy fseq s = .next t ∧ Changes [.cmq, .land, .media, .ports, .out, .free] s t := by
  have h0 := Changes.refl [.cmq, .land, .media, .ports, .out, .free] s
  refine ⟨_, rfl, ?_⟩
  repeat' (first | with_reducible assumption | ((with_reducible apply Changes.step (State.landStart_changes ..)) <;> [rfl; skip]) | ((with_reducible apply State.onIo_changes) <;> [(intro _ _ _); skip]) | ((with_reducible apply Changes.step (State.startIo_changes ..)) <;> [rfl; skip]) | ((with_reducible apply Changes.foldl) <;> [(intro _ _ _); skip]) | split)

theorem execWriteZeroes_changes (fseq : Nat) (s : State) :
    ∃ t, execWriteZeroes fseq s = .next t ∧ Changes [.evr, .cmq, .land, .media, .ports, .out, .free] s t := by
  have h0 := Changes.refl [.evr, .cmq, .land, .media, .ports, .out, .free] s
  refine ⟨_, rfl, ?_⟩
  repeat' (first | with_reducible assumption | ((with_reducible apply State.onIo_changes) <;> [(intro _ _ _); skip]) | ((with_reducible apply Changes.step (State.writeZeroes_changes ..)) <;> [rfl; skip]) | ((with_reducible apply Changes.foldl) <;> [(intro _ _ _); skip]) | split)

theorem execDatasetManagement_changes (fseq : Nat) (s : State) :
    ∃ t, execDatasetManagement fseq s = .next t ∧ Changes [.evr, .cmq, .land, .media, .ports, .out, .free] s t := by
  have h0 := Changes.refl [.evr, .cmq, .land, .media, .ports, .out, .free] s
  refine ⟨_, rfl, ?_⟩
  repeat' (first | with_reducible assumption | ((with_reducible apply Changes.step (State.deallocate_changes ..)) <;> [rfl; skip]) | ((with_reducible apply State.onIo_changes) <;> [(intro _ _ _); skip]) | ((with_reducible apply Changes.foldl) <;> [(intro _ _ _); skip]) | split)

theorem execReservationRegister_changes (fseq : Nat) (action : Fin 3) (ignoreKey : Bool) (cur : BitVec 64) (new : BitVec 64) (s : State) :
    ∃ t, execReservationRegister fseq action ignoreKey cur new s = .next t ∧ Changes [.cmq, .land, .media, .ports, .out] s t := by
  have h0 := Changes.refl [.cmq, .land, .media, .ports, .out] s
  refine ⟨_, rfl, ?_⟩
  repeat' (first | with_reducible assumption | ((with_reducible apply State.onResv_changes) <;> [(intro _ _ _ _ _); rfl; skip]) | ((with_reducible apply Changes.step (State.setResv_changes ..)) <;> [rfl; skip]) | ((with_reducible apply Changes.foldl) <;> [(intro _ _ _); skip]) | split)

theorem execReservationReport_changes (fseq : Nat) (s : State) :
    ∃ t, execReservationReport fseq s = .next t ∧ Changes [.cmq, .land, .media, .ports, .out] s t := by
  have h0 := Changes.refl [.cmq, .land, .media, .ports, .out] s
  refine ⟨_, rfl, ?_⟩
  repeat' (first | with_reducible assumption | ((with_reducible apply Changes.step (State.complete_changes ..)) <;> [rfl; skip]) | ((with_reducible apply Changes.step (State.emit_changes ..)) <;> [rfl; skip]) | ((with_reducible apply State.onResv_changes) <;> [(intro _ _ _ _ _); rfl; skip]) | ((with_reducible apply Changes.foldl) <;> [(intro _ _ _); skip]) | split)

theorem execReservationAcquire_changes (fseq : Nat) (action : Fin 3) (rtype : Nat) (ignoreKey : Bool) (cur : BitVec 64) (pre : BitVec 64) (s : State) :
    ∃ t, execReservationAcquire fseq action rtype ignoreKey cur pre s = .next t ∧ Changes [.cmq, .land, .media, .ports, .out] s t := by
  have h0 := Changes.refl [.cmq, .land, .media, .ports, .out] s
  refine ⟨_, rfl, ?_⟩
  repeat' (first | with_reducible assumption | ((with_reducible apply Changes.step (State.complete_changes ..)) <;> [rfl; skip]) | ((with_reducible apply State.onResv_changes) <;> [(intro _ _ _ _ _); rfl; skip]) | ((with_reducible apply Changes.step (State.setResv_changes ..)) <;> [rfl; skip]) | ((with_reducible apply Changes.foldl) <;> [(intro _ _ _); skip]) | split)

theorem execReservationRelease_changes (fseq : Nat) (action : Fin 2) (rtype : Nat) (ignoreKey : Bool) (cur : BitVec 64) (s : State) :
    ∃ t, execReservationRelease fseq action rtype ignoreKey cur s = .next t ∧ Changes [.cmq, .land, .media, .ports, .out] s t := by
  have h0 := Changes.refl [.cmq, .land, .media, .ports, .out] s
  refine ⟨_, rfl, ?_⟩
  repeat' (first | with_reducible assumption | ((with_reducible apply Changes.step (State.complete_changes ..)) <;> [rfl; skip]) | ((with_reducible apply State.onResv_changes) <;> [(intro _ _ _ _ _); rfl; skip]) | ((with_reducible apply Changes.step (State.setResv_changes ..)) <;> [rfl; skip]) | ((with_reducible apply Changes.foldl) <;> [(intro _ _ _); skip]) | split)

theorem execIoManagementReceive_changes (fseq : Nat) (s : State) :
    ∃ t, execIoManagementReceive fseq s = .next t ∧ Changes [.cmq, .land, .media, .ports, .out] s t := by
  have h0 := Changes.refl [.cmq, .land, .media, .ports, .out] s
  refine ⟨_, rfl, ?_⟩
  repeat' (first | with_reducible assumption | ((with_reducible apply Changes.step (State.complete_changes ..)) <;> [rfl; skip]) | ((with_reducible apply Changes.step (State.emit_changes ..)) <;> [rfl; skip]) | ((with_reducible apply State.onIo_changes) <;> [(intro _ _ _); skip]) | ((with_reducible apply Changes.foldl) <;> [(intro _ _ _); skip]) | split)

theorem execReclaimUnitHandleUpdate_changes (fseq : Nat) (s : State) :
    ∃ t, execReclaimUnitHandleUpdate fseq s = .next t ∧ Changes [.cmq, .land, .media, .ports, .out] s t := by
  have h0 := Changes.refl [.cmq, .land, .media, .ports, .out] s
  refine ⟨_, rfl, ?_⟩
  repeat' (first | with_reducible assumption | ((with_reducible apply Changes.step (State.closeHandle_changes ..)) <;> [rfl; skip]) | ((with_reducible apply Changes.step (State.complete_changes ..)) <;> [rfl; skip]) | ((with_reducible apply State.onIo_changes) <;> [(intro _ _ _); skip]) | ((with_reducible apply Changes.foldl) <;> [(intro _ _ _); skip]) | split)

theorem execZoneFinish_changes (fseq : Nat) (s : State) :
    ∃ t, execZoneFinish fseq s = .next t ∧ Changes [.evr, .cmq, .land, .media, .ports, .out] s t := by
  have h0 := Changes.refl [.evr, .cmq, .land, .media, .ports, .out] s
  refine ⟨_, rfl, ?_⟩
  repeat' (first | with_reducible assumption | ((with_reducible apply Changes.step (State.onZone_changes ..)) <;> [rfl; skip]) | ((with_reducible apply Changes.foldl) <;> [(intro _ _ _); skip]) | split)

theorem execZoneReset_changes (fseq : Nat) (s : State) :
    ∃ t, execZoneReset fseq s = .next t ∧ Changes [.evr, .cmq, .land, .media, .ports, .out] s t := by
  have h0 := Changes.refl [.evr, .cmq, .land, .media, .ports, .out] s
  refine ⟨_, rfl, ?_⟩
  repeat' (first | with_reducible assumption | ((with_reducible apply Changes.step (State.onZone_changes ..)) <;> [rfl; skip]) | ((with_reducible apply Changes.foldl) <;> [(intro _ _ _); skip]) | split)

theorem execZoneOpen_changes (fseq : Nat) (s : State) :
    ∃ t, execZoneOpen fseq s = .next t ∧ Changes [.evr, .cmq, .land, .media, .ports, .out] s t := by
  have h0 := Changes.refl [.evr, .cmq, .land, .media, .ports, .out] s
  refine ⟨_, rfl, ?_⟩
  repeat' (first | with_reducible assumption | ((with_reducible apply Changes.step (State.onZone_changes ..)) <;> [rfl; skip]) | ((with_reducible apply Changes.step (State.openZone_changes ..)) <;> [rfl; skip]) | ((with_reducible apply Changes.foldl) <;> [(intro _ _ _); skip]) | split)

theorem execZoneClose_changes (fseq : Nat) (s : State) :
    ∃ t, execZoneClose fseq s = .next t ∧ Changes [.evr, .cmq, .land, .media, .ports, .out] s t := by
  have h0 := Changes.refl [.evr, .cmq, .land, .media, .ports, .out] s
  refine ⟨_, rfl, ?_⟩
  repeat' (first | with_reducible assumption | ((with_reducible apply Changes.step (State.onZone_changes ..)) <;> [rfl; skip]) | ((with_reducible apply Changes.foldl) <;> [(intro _ _ _); skip]) | split)

theorem execZoneManagementReceive_changes (fseq : Nat) (s : State) :
    ∃ t, execZoneManagementReceive fseq s = .next t ∧ Changes [.cmq, .land, .media, .ports, .out] s t := by
  have h0 := Changes.refl [.cmq, .land, .media, .ports, .out] s
  refine ⟨_, rfl, ?_⟩
  try dsimp only
  repeat' (first | with_reducible assumption | ((with_reducible apply Changes.step (State.complete_changes ..)) <;> [rfl; skip]) | ((with_reducible apply Changes.step (State.emit_changes ..)) <;> [rfl; skip]) | ((with_reducible apply State.onIo_changes) <;> [(intro _ _ _); skip]) | ((with_reducible apply Changes.foldl) <;> [(intro _ _ _); skip]) | split)

theorem execZoneAppend_changes (fseq : Nat) (s : State) :
    ∃ t, execZoneAppend fseq s = .next t ∧ Changes [.cmq, .land, .media, .ports, .out, .free] s t := by
  have h0 := Changes.refl [.cmq, .land, .media, .ports, .out, .free] s
  refine ⟨_, rfl, ?_⟩
  try dsimp only
  repeat' (first | with_reducible assumption | ((with_reducible apply Changes.step (State.complete_changes ..)) <;> [rfl; skip]) | ((with_reducible apply Changes.step (State.landStart_changes ..)) <;> [rfl; skip]) | ((with_reducible apply State.onIo_changes) <;> [(intro _ _ _); skip]) | ((with_reducible apply Changes.foldl) <;> [(intro _ _ _); skip]) | split)

theorem execScrubDue_changes (c : Fin 16) (corrected : Bool) (s : State) :
    ∃ t, execScrubDue c corrected s = .next t ∧ Changes [.dram] s t := by
  have h0 := Changes.refl [.dram] s
  refine ⟨_, rfl, ?_⟩
  repeat' (first | with_reducible assumption | ((with_reducible apply Changes.step (State.corrected_changes ..)) <;> [rfl; skip]) | ((with_reducible apply State.whenLive_changes) <;> [(intro _ _); skip]) | ((with_reducible apply Changes.foldl) <;> [(intro _ _ _); skip]) | split)

theorem execDramUe_changes (c : Fin 16) (k : Fin 12) (w : UeWhere) (addr : Nat) (s : State) :
    ∃ t, execDramUe c k w addr s = .next t ∧ Changes [.units, .evr, .cmq, .land, .media, .ports, .dram, .sdm, .bst, .boot, .out, .free] s t := by
  have h0 := Changes.refl [.units, .evr, .cmq, .land, .media, .ports, .dram, .sdm, .bst, .boot, .out, .free] s
  refine ⟨_, rfl, ?_⟩
  repeat' (first | with_reducible assumption | ((with_reducible apply Changes.step (State.dramUe_changes ..)) <;> [rfl; skip]) | ((with_reducible apply State.whenLive_changes) <;> [(intro _ _); skip]) | ((with_reducible apply Changes.foldl) <;> [(intro _ _ _); skip]) | split)

theorem execArbRound_changes (c : Fin 16) (raised : List (Fin 12 × DramTxn)) (pause : Option PauseResult) (corrected : Nat) (s : State) :
    ∃ t, execArbRound c raised pause corrected s = .next t ∧ Changes [.units, .evr, .cmq, .land, .media, .ports, .dram, .sdm, .bst, .boot, .out, .free] s t := by
  have h0 := Changes.refl [.units, .evr, .cmq, .land, .media, .ports, .dram, .sdm, .bst, .boot, .out, .free] s
  refine ⟨_, rfl, ?_⟩
  repeat' (first | with_reducible assumption | ((with_reducible apply Changes.step (State.arbRound_changes ..)) <;> [rfl; skip]) | ((with_reducible apply State.whenLive_changes) <;> [(intro _ _); skip]) | ((with_reducible apply Changes.foldl) <;> [(intro _ _ _); skip]) | split)

theorem execRefreshDue_changes (c : Fin 16) (bank : Fin 16) (s : State) :
    ∃ t, execRefreshDue c bank s = .next t ∧ Changes [.dram, .out] s t := by
  have h0 := Changes.refl [.dram, .out] s
  refine ⟨_, rfl, ?_⟩
  repeat' (first | with_reducible assumption | ((with_reducible apply Changes.step (State.refresh_changes ..)) <;> [rfl; skip]) | ((with_reducible apply State.whenLive_changes) <;> [(intro _ _); skip]) | ((with_reducible apply Changes.foldl) <;> [(intro _ _ _); skip]) | split)

theorem execDebugRequest_changes (c : Fin 16) (txn : DramTxn) (s : State) :
    ∃ t, execDebugRequest c txn s = .next t ∧ Changes [.dram, .out, .free] s t := by
  have h0 := Changes.refl [.dram, .out, .free] s
  refine ⟨_, rfl, ?_⟩
  repeat' (first | with_reducible assumption | ((with_reducible apply Changes.step (State.debugReq_changes ..)) <;> [rfl; skip]) | ((with_reducible apply State.whenLive_changes) <;> [(intro _ _); skip]) | ((with_reducible apply Changes.foldl) <;> [(intro _ _ _); skip]) | split)

theorem execGrantCutOff_changes (c : Fin 16) (s : State) :
    ∃ t, execGrantCutOff c s = .next t ∧ Changes [.evr, .dram] s t := by
  have h0 := Changes.refl [.evr, .dram] s
  refine ⟨_, rfl, ?_⟩
  repeat' (first | with_reducible assumption | ((with_reducible apply Changes.step (State.cutOff_changes ..)) <;> [rfl; skip]) | ((with_reducible apply State.whenLive_changes) <;> [(intro _ _); skip]) | ((with_reducible apply Changes.foldl) <;> [(intro _ _ _); skip]) | split)

theorem execRetrainCycleDue_changes (c : Fin 16) (s : State) :
    ∃ t, execRetrainCycleDue c s = .next t ∧ Changes [.dram] s t := by
  have h0 := Changes.refl [.dram] s
  refine ⟨_, rfl, ?_⟩
  repeat' (first | with_reducible assumption | ((with_reducible apply Changes.step (State.wantCycle_changes ..)) <;> [rfl; skip]) | ((with_reducible apply State.whenLive_changes) <;> [(intro _ _); skip]) | ((with_reducible apply Changes.foldl) <;> [(intro _ _ _); skip]) | split)

theorem execRetrainCycle_changes (mask : BitVec 16) (s : State) :
    ∃ t, execRetrainCycle mask s = .next t ∧ Changes [.dram] s t := by
  have h0 := Changes.refl [.dram] s
  refine ⟨_, rfl, ?_⟩
  repeat' (first | with_reducible assumption | ((with_reducible apply Changes.step (State.wantCycle_changes ..)) <;> [rfl; skip]) | ((with_reducible apply State.whenLive_changes) <;> [(intro _ _); skip]) | ((with_reducible apply Changes.foldl) <;> [(intro _ _ _); skip]) | split)

theorem execRetrainFull_changes (mask : BitVec 16) (s : State) :
    ∃ t, execRetrainFull mask s = .next t ∧ Changes [.dram] s t := by
  have h0 := Changes.refl [.dram] s
  refine ⟨_, rfl, ?_⟩
  repeat' (first | with_reducible assumption | ((with_reducible apply Changes.step (State.wantFull_changes ..)) <;> [rfl; skip]) | ((with_reducible apply State.whenLive_changes) <;> [(intro _ _); skip]) | ((with_reducible apply Changes.foldl) <;> [(intro _ _ _); skip]) | split)

theorem execDramTrainingDone_changes (c : Fin 16) (res : DramTraining) (s : State) :
    ∃ t, execDramTrainingDone c res s = .next t ∧ Changes [.units, .evr, .cmq, .land, .media, .ports, .dram, .sdm, .bst, .boot, .out] s t := by
  have h0 := Changes.refl [.units, .evr, .cmq, .land, .media, .ports, .dram, .sdm, .bst, .boot, .out] s
  refine ⟨_, rfl, ?_⟩
  repeat' (first | with_reducible assumption | ((with_reducible apply Changes.step (State.dramTrained_changes ..)) <;> [rfl; skip]) | ((with_reducible apply State.whenLive_changes) <;> [(intro _ _); skip]) | ((with_reducible apply Changes.foldl) <;> [(intro _ _ _); skip]) | split)

theorem execBarUnmappedAccess_changes (p : Fin 2) (bar : Nat) (offset : Nat) (isWrite : Bool) (s : State) :
    ∃ t, execBarUnmappedAccess p bar offset isWrite s = .next t ∧ Changes [.evr, .out] s t := by
  have h0 := Changes.refl [.evr, .out] s
  refine ⟨_, rfl, ?_⟩
  repeat' (first | with_reducible assumption | ((with_reducible apply Changes.step (State.barAnswer_changes ..)) <;> [rfl; skip]) | ((with_reducible apply Changes.step (State.unmapped_changes ..)) <;> [rfl; skip]) | ((with_reducible apply Changes.foldl) <;> [(intro _ _ _); skip]) | split)

theorem execTlpWindowCross_changes (p : Fin 2) (bar : Nat) (offset : Nat) (len : Nat) (isWrite : Bool) (s : State) :
    ∃ t, execTlpWindowCross p bar offset len isWrite s = .next t ∧ Changes [.evr, .ports, .out] s t := by
  have h0 := Changes.refl [.evr, .ports, .out] s
  refine ⟨_, rfl, ?_⟩
  repeat' (first | with_reducible assumption | ((with_reducible apply Changes.step (State.barAnswer_changes ..)) <;> [rfl; skip]) | ((with_reducible apply Changes.step (State.crosses_changes ..)) <;> [rfl; skip]) | ((with_reducible apply Changes.foldl) <;> [(intro _ _ _); skip]) | split)

theorem execXlatCommit_changes (p : Fin 2) (s : State) :
    ∃ t, execXlatCommit p s = .next t ∧ Changes [.ports] s t := by
  have h0 := Changes.refl [.ports] s
  refine ⟨_, rfl, ?_⟩
  repeat' (first | with_reducible assumption | ((with_reducible apply Changes.step (State.setPort_changes ..)) <;> [rfl; skip]) | ((with_reducible apply State.whenLive_changes) <;> [(intro _ _); skip]) | ((with_reducible apply Changes.foldl) <;> [(intro _ _ _); skip]) | split)

theorem execPmrWrite_changes (p : Fin 2) (offset : Nat) (bytes : List Byte) (s : State) :
    ∃ t, execPmrWrite p offset bytes s = .next t ∧ Changes [.evr, .land, .ports, .out] s t := by
  have h0 := Changes.refl [.evr, .land, .ports, .out] s
  refine ⟨_, rfl, ?_⟩
  repeat' (first | with_reducible assumption | ((with_reducible apply Changes.step (State.barAnswer_changes ..)) <;> [rfl; skip]) | ((with_reducible apply Changes.step (State.pmrWrite_changes ..)) <;> [rfl; skip]) | ((with_reducible apply State.whenLive_changes) <;> [(intro _ _); skip]) | ((with_reducible apply Changes.foldl) <;> [(intro _ _ _); skip]) | split)

theorem execPmrRead_changes (p : Fin 2) (offset : Nat) (len : Nat) (s : State) :
    ∃ t, execPmrRead p offset len s = .next t ∧ Changes [.evr, .ports, .out] s t := by
  have h0 := Changes.refl [.evr, .ports, .out] s
  refine ⟨_, rfl, ?_⟩
  repeat' (first | with_reducible assumption | ((with_reducible apply Changes.step (State.barAnswer_changes ..)) <;> [rfl; skip]) | ((with_reducible apply Changes.step (State.pmrRead_changes ..)) <;> [rfl; skip]) | ((with_reducible apply State.whenLive_changes) <;> [(intro _ _); skip]) | ((with_reducible apply Changes.foldl) <;> [(intro _ _ _); skip]) | split)

theorem execCmbSlotWrite_changes (p : Fin 2) (slot : Nat) (sec : Fin 8) (data : Sector) (s : State) :
    ∃ t, execCmbSlotWrite p slot sec data s = .next t ∧ Changes [.evr, .land, .out, .free] s t := by
  have h0 := Changes.refl [.evr, .land, .out, .free] s
  refine ⟨_, rfl, ?_⟩
  repeat' (first | with_reducible assumption | ((with_reducible apply Changes.step (State.barAnswer_changes ..)) <;> [rfl; skip]) | ((with_reducible apply Changes.step (State.slotWrite_changes ..)) <;> [rfl; skip]) | ((with_reducible apply State.whenLive_changes) <;> [(intro _ _); skip]) | ((with_reducible apply Changes.foldl) <;> [(intro _ _ _); skip]) | split)

theorem execAtomicRequest_changes (p : Fin 2) (s : State) :
    ∃ t, execAtomicRequest p s = .next t ∧ Changes [.out] s t := by
  have h0 := Changes.refl [.out] s
  refine ⟨_, rfl, ?_⟩
  repeat' (first | with_reducible assumption | ((with_reducible apply Changes.step (State.emit_changes ..)) <;> [rfl; skip]) | ((with_reducible apply Changes.foldl) <;> [(intro _ _ _); skip]) | split)

theorem execExportByLba_changes (p : Fin 2) (req : ExportReq) (s : State) :
    ∃ t, execExportByLba p req s = .next t ∧ Changes [.evr, .media, .out] s t := by
  have h0 := Changes.refl [.evr, .media, .out] s
  refine ⟨_, rfl, ?_⟩
  repeat' (first | with_reducible assumption | ((with_reducible apply Changes.step (State.expRequest_changes ..)) <;> [rfl; skip]) | ((with_reducible apply State.hostBar4_changes) <;> [(intro _ _); rfl; skip]) | ((with_reducible apply State.whenLive_changes) <;> [(intro _ _); skip]) | ((with_reducible apply Changes.foldl) <;> [(intro _ _ _); skip]) | split)

theorem execExportByPhysical_changes (p : Fin 2) (req : ExportReq) (s : State) :
    ∃ t, execExportByPhysical p req s = .next t ∧ Changes [.evr, .media, .out] s t := by
  have h0 := Changes.refl [.evr, .media, .out] s
  refine ⟨_, rfl, ?_⟩
  repeat' (first | with_reducible assumption | ((with_reducible apply Changes.step (State.expRequest_changes ..)) <;> [rfl; skip]) | ((with_reducible apply State.hostBar4_changes) <;> [(intro _ _); rfl; skip]) | ((with_reducible apply State.whenLive_changes) <;> [(intro _ _); skip]) | ((with_reducible apply Changes.foldl) <;> [(intro _ _ _); skip]) | split)

theorem execResolve_changes (p : Fin 2) (req : ExportReq) (pilots : List Byte) (body : List Byte) (s : State) :
    ∃ t, execResolve p req pilots body s = .next t ∧ Changes [.evr, .media, .out] s t := by
  have h0 := Changes.refl [.evr, .media, .out] s
  refine ⟨_, rfl, ?_⟩
  repeat' (first | with_reducible assumption | ((with_reducible apply Changes.step (State.expRequest_changes ..)) <;> [rfl; skip]) | ((with_reducible apply State.hostBar4_changes) <;> [(intro _ _); rfl; skip]) | ((with_reducible apply State.whenLive_changes) <;> [(intro _ _); skip]) | ((with_reducible apply Changes.foldl) <;> [(intro _ _ _); skip]) | split)

theorem execLinkUp_changes (p : Fin 2) (rate : Nat) (width : Nat) (s : State) :
    ∃ t, execLinkUp p rate width s = .next t ∧ Changes [.evr, .ports] s t := by
  have h0 := Changes.refl [.evr, .ports] s
  refine ⟨_, rfl, ?_⟩
  repeat' (first | with_reducible assumption | ((with_reducible apply Changes.step (State.trained_changes ..)) <;> [rfl; skip]) | ((with_reducible apply Changes.foldl) <;> [(intro _ _ _); skip]) | split)

theorem execL0pNarrow_changes (p : Fin 2) (s : State) :
    ∃ t, execL0pNarrow p s = .next t ∧ Changes [.ports] s t := by
  have h0 := Changes.refl [.ports] s
  refine ⟨_, rfl, ?_⟩
  repeat' (first | with_reducible assumption | ((with_reducible apply Changes.step (State.setLink_changes ..)) <;> [rfl; skip]) | ((with_reducible apply State.whenLive_changes) <;> [(intro _ _); skip]) | ((with_reducible apply Changes.foldl) <;> [(intro _ _ _); skip]) | split)

theorem execL0pWiden_changes (p : Fin 2) (s : State) :
    ∃ t, execL0pWiden p s = .next t ∧ Changes [.ports] s t := by
  have h0 := Changes.refl [.ports] s
  refine ⟨_, rfl, ?_⟩
  repeat' (first | with_reducible assumption | ((with_reducible apply Changes.step (State.setLink_changes ..)) <;> [rfl; skip]) | ((with_reducible apply State.whenLive_changes) <;> [(intro _ _); skip]) | ((with_reducible apply Changes.foldl) <;> [(intro _ _ _); skip]) | split)

theorem execL1IdleExpire_changes (p : Fin 2) (s : State) :
    ∃ t, execL1IdleExpire p s = .next t ∧ Changes [.ports] s t := by
  have h0 := Changes.refl [.ports] s
  refine ⟨_, rfl, ?_⟩
  repeat' (first | with_reducible assumption | ((with_reducible apply Changes.step (State.enterL1_changes ..)) <;> [rfl; skip]) | ((with_reducible apply State.whenLive_changes) <;> [(intro _ _); skip]) | ((with_reducible apply Changes.foldl) <;> [(intro _ _ _); skip]) | split)

theorem execL1Exit_changes (p : Fin 2) (s : State) :
    ∃ t, execL1Exit p s = .next t ∧ Changes [.ports] s t := by
  have h0 := Changes.refl [.ports] s
  refine ⟨_, rfl, ?_⟩
  repeat' (first | with_reducible assumption | ((with_reducible apply Changes.step (State.setLink_changes ..)) <;> [rfl; skip]) | ((with_reducible apply State.whenLive_changes) <;> [(intro _ _); skip]) | ((with_reducible apply Changes.foldl) <;> [(intro _ _ _); skip]) | split)

theorem execContain_changes (p : Fin 2) (s : State) :
    ∃ t, execContain p s = .next t ∧ Changes [.evr, .cmq, .land, .media, .ports, .sdm, .bst, .boot, .out, .free] s t := by
  have h0 := Changes.refl [.evr, .cmq, .land, .media, .ports, .sdm, .bst, .boot, .out, .free] s
  refine ⟨_, rfl, ?_⟩
  repeat' (first | with_reducible assumption | ((with_reducible apply Changes.step (State.trip_changes ..)) <;> [rfl; skip]) | ((with_reducible apply State.whenLive_changes) <;> [(intro _ _); skip]) | ((with_reducible apply Changes.foldl) <;> [(intro _ _ _); skip]) | split)

theorem execContainBmc_changes (p : Fin 2) (s : State) :
    ∃ t, execContainBmc p s = .next t ∧ Changes [.evr, .cmq, .land, .media, .ports, .sdm, .bst, .boot, .out, .free] s t := by
  have h0 := Changes.refl [.evr, .cmq, .land, .media, .ports, .sdm, .bst, .boot, .out, .free] s
  refine ⟨_, rfl, ?_⟩
  repeat' (first | with_reducible assumption | ((with_reducible apply Changes.step (State.trip_changes ..)) <;> [rfl; skip]) | ((with_reducible apply State.whenLive_changes) <;> [(intro _ _); skip]) | ((with_reducible apply Changes.foldl) <;> [(intro _ _ _); skip]) | split)

theorem execPoisonedCompletion_changes (p : Fin 2) (fseq : Nat) (s : State) :
    ∃ t, execPoisonedCompletion p fseq s = .next t ∧ Changes [.evr, .cmq, .land, .media, .ports, .sdm, .bst, .boot, .out, .free] s t := by
  have h0 := Changes.refl [.evr, .cmq, .land, .media, .ports, .sdm, .bst, .boot, .out, .free] s
  refine ⟨_, rfl, ?_⟩
  repeat' (first | with_reducible assumption | ((with_reducible apply Changes.step (State.hostReadFails_changes ..)) <;> [rfl; skip]) | ((with_reducible apply State.whenLive_changes) <;> [(intro _ _); skip]) | ((with_reducible apply Changes.foldl) <;> [(intro _ _ _); skip]) | split)

theorem execCompletionTimeout_changes (p : Fin 2) (fseq : Nat) (s : State) :
    ∃ t, execCompletionTimeout p fseq s = .next t ∧ Changes [.evr, .cmq, .land, .media, .ports, .sdm, .bst, .boot, .out, .free] s t := by
  have h0 := Changes.refl [.evr, .cmq, .land, .media, .ports, .sdm, .bst, .boot, .out, .free] s
  refine ⟨_, rfl, ?_⟩
  repeat' (first | with_reducible assumption | ((with_reducible apply Changes.step (State.hostReadFails_changes ..)) <;> [rfl; skip]) | ((with_reducible apply State.whenLive_changes) <;> [(intro _ _); skip]) | ((with_reducible apply Changes.foldl) <;> [(intro _ _ _); skip]) | split)

theorem execFateTableComplete_changes (p : Fin 2) (s : State) :
    ∃ t, execFateTableComplete p s = .next t ∧ Changes [.ports] s t := by
  have h0 := Changes.refl [.ports] s
  refine ⟨_, rfl, ?_⟩
  repeat' (first | with_reducible assumption | ((with_reducible apply Changes.step (State.setPort_changes ..)) <;> [rfl; skip]) | ((with_reducible apply State.whenLive_changes) <;> [(intro _ _); skip]) | ((with_reducible apply Changes.foldl) <;> [(intro _ _ _); skip]) | split)

theorem execIdeIntegrityFailure_changes (p : Fin 2) (s : State) :
    ∃ t, execIdeIntegrityFailure p s = .next t ∧ Changes [.evr, .cmq, .land, .media, .ports, .sdm, .bst, .boot, .out, .free] s t := by
  have h0 := Changes.refl [.evr, .cmq, .land, .media, .ports, .sdm, .bst, .boot, .out, .free] s
  refine ⟨_, rfl, ?_⟩
  repeat' (first | with_reducible assumption | ((with_reducible apply Changes.step (State.ideFails_changes ..)) <;> [rfl; skip]) | ((with_reducible apply State.whenLive_changes) <;> [(intro _ _); skip]) | ((with_reducible apply Changes.foldl) <;> [(intro _ _ _); skip]) | split)

theorem execSdmaDoorbell_changes (ch : Fin 16) (d : Desc) (s : State) :
    ∃ t, execSdmaDoorbell ch d s = .next t ∧ Changes [.evr, .land, .sdm, .out, .free] s t := by
  have h0 := Changes.refl [.evr, .land, .sdm, .out, .free] s
  refine ⟨_, rfl, ?_⟩
  try dsimp only
  repeat' (first | with_reducible assumption | ((with_reducible apply Changes.step (State.sdmRead_changes ..)) <;> [rfl; skip]) | ((with_reducible apply State.whenLive_changes) <;> [(intro _ _); skip]) | ((with_reducible apply Changes.foldl) <;> [(intro _ _ _); skip]) | split)

theorem execSdmaRun_changes (ch : Fin 16) (d : Desc) (s : State) :
    ∃ t, execSdmaRun ch d s = .next t ∧ Changes [.evr, .land, .sdm, .out, .free] s t := by
  have h0 := Changes.refl [.evr, .land, .sdm, .out, .free] s
  refine ⟨_, rfl, ?_⟩
  repeat' (first | with_reducible assumption | ((with_reducible apply Changes.step (State.sdmRun_changes ..)) <;> [rfl; skip]) | ((with_reducible apply State.whenLive_changes) <;> [(intro _ _); skip]) | ((with_reducible apply Changes.foldl) <;> [(intro _ _ _); skip]) | split)

theorem execSdmaStop_changes (ch : Fin 16) (s : State) :
    ∃ t, execSdmaStop ch s = .next t ∧ Changes [.evr, .land, .sdm, .out, .free] s t := by
  have h0 := Changes.refl [.evr, .land, .sdm, .out, .free] s
  refine ⟨_, rfl, ?_⟩
  repeat' (first | with_reducible assumption | ((with_reducible apply Changes.step (State.sdmStop_changes ..)) <;> [rfl; skip]) | ((with_reducible apply State.whenLive_changes) <;> [(intro _ _); skip]) | ((with_reducible apply Changes.foldl) <;> [(intro _ _ _); skip]) | split)

theorem execSdmaDisable_changes (ch : Fin 16) (s : State) :
    ∃ t, execSdmaDisable ch s = .next t ∧ Changes [.evr, .land, .sdm, .out, .free] s t := by
  have h0 := Changes.refl [.evr, .land, .sdm, .out, .free] s
  refine ⟨_, rfl, ?_⟩
  repeat' (first | with_reducible assumption | ((with_reducible apply Changes.step (State.sdmStop_changes ..)) <;> [rfl; skip]) | ((with_reducible apply Changes.step (State.setSdc_changes ..)) <;> [rfl; skip]) | ((with_reducible apply State.whenLive_changes) <;> [(intro _ _); skip]) | ((with_reducible apply Changes.foldl) <;> [(intro _ _ _); skip]) | split)

theorem execSdmaCopy_changes (ch : Fin 16) (src : List Byte) (s : State) :
    ∃ t, execSdmaCopy ch src s = .next t ∧ Changes [.evr, .land, .sdm, .out, .free] s t := by
  have h0 := Changes.refl [.evr, .land, .sdm, .out, .free] s
  refine ⟨_, rfl, ?_⟩
  repeat' (first | with_reducible assumption | ((with_reducible apply State.onDesc_changes) <;> [(intro _ _ _); rfl; skip]) | ((with_reducible apply Changes.step (State.sdmBeats_changes ..)) <;> [rfl; skip]) | ((with_reducible apply State.whenLive_changes) <;> [(intro _ _); skip]) | ((with_reducible apply Changes.foldl) <;> [(intro _ _ _); skip]) | split)

theorem execSdmaFill_changes (ch : Fin 16) (s : State) :
    ∃ t, execSdmaFill ch s = .next t ∧ Changes [.evr, .land, .sdm, .out, .free] s t := by
  have h0 := Changes.refl [.evr, .land, .sdm, .out, .free] s
  refine ⟨_, rfl, ?_⟩
  repeat' (first | with_reducible assumption | ((with_reducible apply State.onDesc_changes) <;> [(intro _ _ _); rfl; skip]) | ((with_reducible apply Changes.step (State.sdmBeats_changes ..)) <;> [rfl; skip]) | ((with_reducible apply State.whenLive_changes) <;> [(intro _ _); skip]) | ((with_reducible apply Changes.foldl) <;> [(intro _ _ _); skip]) | split)

theorem execSdmaCompare_changes (ch : Fin 16) (a : List Byte) (b : List Byte) (next : Desc) (s : State) :
    ∃ t, execSdmaCompare ch a b next s = .next t ∧ Changes [.evr, .land, .sdm, .out, .free] s t := by
  have h0 := Changes.refl [.evr, .land, .sdm, .out, .free] s
  refine ⟨_, rfl, ?_⟩
  repeat' (first | with_reducible assumption | ((with_reducible apply State.onDesc_changes) <;> [(intro _ _ _); rfl; skip]) | ((with_reducible apply Changes.step (State.sdmCompare_changes ..)) <;> [rfl; skip]) | ((with_reducible apply Changes.step (State.sdmRead_changes ..)) <;> [rfl; skip]) | ((with_reducible apply State.whenLive_changes) <;> [(intro _ _); skip]) | ((with_reducible apply Changes.foldl) <;> [(intro _ _ _); skip]) | split)

theorem execSdmaLastBeatAck_changes (ch : Fin 16) (s : State) :
    ∃ t, execSdmaLastBeatAck ch s = .next t ∧ Changes [.evr, .land, .sdm, .out, .free] s t := by
  have h0 := Changes.refl [.evr, .land, .sdm, .out, .free] s
  refine ⟨_, rfl, ?_⟩
  repeat' (first | with_reducible assumption | ((with_reducible apply Changes.step (State.sdmAck_changes ..)) <;> [rfl; skip]) | ((with_reducible apply State.whenLive_changes) <;> [(intro _ _); skip]) | ((with_reducible apply Changes.foldl) <;> [(intro _ _ _); skip]) | split)

theorem execSdmaReadbackReturn_changes (ch : Fin 16) (ok : Bool) (next : Desc) (s : State) :
    ∃ t, execSdmaReadbackReturn ch ok next s = .next t ∧ Changes [.evr, .land, .sdm, .out, .free] s t := by
  have h0 := Changes.refl [.evr, .land, .sdm, .out, .free] s
  refine ⟨_, rfl, ?_⟩
  repeat' (first | with_reducible assumption | ((with_reducible apply Changes.step (State.sdmReturned_changes ..)) <;> [rfl; skip]) | ((with_reducible apply State.whenLive_changes) <;> [(intro _ _); skip]) | ((with_reducible apply Changes.foldl) <;> [(intro _ _ _); skip]) | split)

theorem execSdmaBeatError_changes (ch : Fin 16) (isWrite : Bool) (notIssued : Nat) (s : State) :
    ∃ t, execSdmaBeatError ch isWrite notIssued s = .next t ∧ Changes [.evr, .land, .sdm, .out, .free] s t := by
  have h0 := Changes.refl [.evr, .land, .sdm, .out, .free] s
  refine ⟨_, rfl, ?_⟩
  repeat' (first | with_reducible assumption | ((with_reducible apply Changes.step (State.sdmBeatError_changes ..)) <;> [rfl; skip]) | ((with_reducible apply State.whenLive_changes) <;> [(intro _ _); skip]) | ((with_reducible apply Changes.foldl) <;> [(intro _ _ _); skip]) | split)

theorem execVaultEncrypt_changes (pg : Fin 16) (ini : Initiator) (slot : Fin 4) (s : State) :
    ∃ t, execVaultEncrypt pg ini slot s = .next t ∧ Changes [.evr, .vault, .out] s t := by
  have h0 := Changes.refl [.evr, .vault, .out] s
  refine ⟨_, rfl, ?_⟩
  repeat' (first | with_reducible assumption | ((with_reducible apply Changes.step (State.go_changes ..)) <;> [rfl; skip]) | ((with_reducible apply State.onPage_changes) <;> [(intro _ _); rfl; skip]) | ((with_reducible apply State.whenLive_changes) <;> [(intro _ _); skip]) | ((with_reducible apply Changes.foldl) <;> [(intro _ _ _); skip]) | split)

theorem execVaultDecrypt_changes (pg : Fin 16) (ini : Initiator) (slot : Fin 4) (s : State) :
    ∃ t, execVaultDecrypt pg ini slot s = .next t ∧ Changes [.evr, .vault, .out] s t := by
  have h0 := Changes.refl [.evr, .vault, .out] s
  refine ⟨_, rfl, ?_⟩
  repeat' (first | with_reducible assumption | ((with_reducible apply Changes.step (State.go_changes ..)) <;> [rfl; skip]) | ((with_reducible apply State.onPage_changes) <;> [(intro _ _); rfl; skip]) | ((with_reducible apply State.whenLive_changes) <;> [(intro _ _); skip]) | ((with_reducible apply Changes.foldl) <;> [(intro _ _ _); skip]) | split)

theorem execVaultKeystream_changes (pg : Fin 16) (ini : Initiator) (slot : Fin 4) (s : State) :
    ∃ t, execVaultKeystream pg ini slot s = .next t ∧ Changes [.evr, .vault, .out] s t := by
  have h0 := Changes.refl [.evr, .vault, .out] s
  refine ⟨_, rfl, ?_⟩
  repeat' (first | with_reducible assumption | ((with_reducible apply Changes.step (State.go_changes ..)) <;> [rfl; skip]) | ((with_reducible apply State.onPage_changes) <;> [(intro _ _); rfl; skip]) | ((with_reducible apply State.whenLive_changes) <;> [(intro _ _); skip]) | ((with_reducible apply Changes.foldl) <;> [(intro _ _ _); skip]) | split)

theorem execVaultBlockDone_changes (pg : Fin 16) (s : State) :
    ∃ t, execVaultBlockDone pg s = .next t ∧ Changes [.vault, .free] s t := by
  have h0 := Changes.refl [.vault, .free] s
  refine ⟨_, rfl, ?_⟩
  repeat' (first | with_reducible assumption | ((with_reducible apply Changes.step (State.blockDone_changes ..)) <;> [rfl; skip]) | ((with_reducible apply State.whenLive_changes) <;> [(intro _ _); skip]) | ((with_reducible apply Changes.foldl) <;> [(intro _ _ _); skip]) | split)

theorem execNonceNext_changes (pg : Fin 16) (ini : Initiator) (s : State) :
    ∃ t, execNonceNext pg ini s = .next t ∧ Changes [.evr, .vault, .out] s t := by
  have h0 := Changes.refl [.evr, .vault, .out] s
  refine ⟨_, rfl, ?_⟩
  repeat' (first | with_reducible assumption | ((with_reducible apply State.onPage_changes) <;> [(intro _ _); rfl; skip]) | ((with_reducible apply Changes.step (State.setPage_changes ..)) <;> [rfl; skip]) | ((with_reducible apply State.whenLive_changes) <;> [(intro _ _); skip]) | ((with_reducible apply Changes.foldl) <;> [(intro _ _ _); skip]) | split)

theorem execKeyWordWrite_changes (pg : Fin 16) (ini : Initiator) (slot : Fin 4) (word : Fin 8) (value : BitVec 32) (s : State) :
    ∃ t, execKeyWordWrite pg ini slot word value s = .next t ∧ Changes [.evr, .vault, .out] s t := by
  have h0 := Changes.refl [.evr, .vault, .out] s
  refine ⟨_, rfl, ?_⟩
  repeat' (first | with_reducible assumption | ((with_reducible apply Changes.step (State.keyWord_changes ..)) <;> [rfl; skip]) | ((with_reducible apply State.onPage_changes) <;> [(intro _ _); rfl; skip]) | ((with_reducible apply State.whenLive_changes) <;> [(intro _ _); skip]) | ((with_reducible apply Changes.foldl) <;> [(intro _ _ _); skip]) | split)

theorem execKeyExpanded_changes (pg : Fin 16) (slot : Fin 4) (s : State) :
    ∃ t, execKeyExpanded pg slot s = .next t ∧ Changes [.vault] s t := by
  have h0 := Changes.refl [.vault] s
  refine ⟨_, rfl, ?_⟩
  repeat' (first | with_reducible assumption | ((with_reducible apply Changes.step (State.setPage_changes ..)) <;> [rfl; skip]) | ((with_reducible apply State.whenLive_changes) <;> [(intro _ _); skip]) | ((with_reducible apply Changes.foldl) <;> [(intro _ _ _); skip]) | split)

theorem execKeySlotClear_changes (pg : Fin 16) (ini : Initiator) (slot : Fin 4) (s : State) :
    ∃ t, execKeySlotClear pg ini slot s = .next t ∧ Changes [.evr, .vault, .out] s t := by
  have h0 := Changes.refl [.evr, .vault, .out] s
  refine ⟨_, rfl, ?_⟩
  repeat' (first | with_reducible assumption | ((with_reducible apply State.onPage_changes) <;> [(intro _ _); rfl; skip]) | ((with_reducible apply Changes.step (State.setPage_changes ..)) <;> [rfl; skip]) | ((with_reducible apply State.whenLive_changes) <;> [(intro _ _); skip]) | ((with_reducible apply Changes.foldl) <;> [(intro _ _ _); skip]) | split)

theorem execPageClaim_changes (p : Fin 2) (s : State) :
    ∃ t, execPageClaim p s = .next t ∧ Changes [.evr, .vault, .out] s t := by
  have h0 := Changes.refl [.evr, .vault, .out] s
  refine ⟨_, rfl, ?_⟩
  repeat' (first | with_reducible assumption | ((with_reducible apply Changes.step (State.claim_changes ..)) <;> [rfl; skip]) | ((with_reducible apply State.hostBar4_changes) <;> [(intro _ _); rfl; skip]) | ((with_reducible apply State.whenLive_changes) <;> [(intro _ _); skip]) | ((with_reducible apply Changes.foldl) <;> [(intro _ _ _); skip]) | split)

theorem execPageRelease_changes (p : Fin 2) (s : State) :
    ∃ t, execPageRelease p s = .next t ∧ Changes [.evr, .vault, .out] s t := by
  have h0 := Changes.refl [.evr, .vault, .out] s
  refine ⟨_, rfl, ?_⟩
  repeat' (first | with_reducible assumption | ((with_reducible apply State.hostBar4_changes) <;> [(intro _ _); rfl; skip]) | ((with_reducible apply Changes.step (State.unclaim_changes ..)) <;> [rfl; skip]) | ((with_reducible apply State.whenLive_changes) <;> [(intro _ _); skip]) | ((with_reducible apply Changes.foldl) <;> [(intro _ _ _); skip]) | split)

theorem execVaultAccessRefused_changes (pg : Fin 16) (ini : Initiator) (s : State) :
    ∃ t, execVaultAccessRefused pg ini s = .next t ∧ Changes [.evr, .vault, .out] s t := by
  have h0 := Changes.refl [.evr, .vault, .out] s
  refine ⟨_, rfl, ?_⟩
  repeat' (first | with_reducible assumption | ((with_reducible apply State.onPage_changes) <;> [(intro _ _); rfl; skip]) | ((with_reducible apply State.whenLive_changes) <;> [(intro _ _); skip]) | ((with_reducible apply Changes.foldl) <;> [(intro _ _ _); skip]) | split)

theorem execTamperAlarm_changes (alarm : Fin 5) (value : Int) (s : State) :
    ∃ t, execTamperAlarm alarm value s = .next t ∧ Changes [.evr, .cmq, .land, .media, .ports, .sdm, .vault, .sec, .bst, .boot, .out, .free] s t := by
  have h0 := Changes.refl [.evr, .cmq, .land, .media, .ports, .sdm, .vault, .sec, .bst, .boot, .out, .free] s
  refine ⟨_, rfl, ?_⟩
  repeat' (first | with_reducible assumption | ((with_reducible apply Changes.step (State.tamper_changes ..)) <;> [rfl; skip]) | ((with_reducible apply Changes.foldl) <;> [(intro _ _ _); skip]) | split)

theorem execPaceWindow_changes (n : Fin 16) (cycles : Nat) (s : State) :
    ∃ t, execPaceWindow n cycles s = .next t ∧ Changes [.pace, .evr, .cmq, .land, .media, .ports, .sdm, .vault, .sec, .bst, .boot, .out, .free] s t := by
  have h0 := Changes.refl [.pace, .evr, .cmq, .land, .media, .ports, .sdm, .vault, .sec, .bst, .boot, .out, .free] s
  refine ⟨_, rfl, ?_⟩
  try dsimp only
  repeat' (first | with_reducible assumption | ((with_reducible apply Changes.step (State.paceWindow_changes ..)) <;> [rfl; skip]) | ((with_reducible apply Changes.step (State.tamper_changes ..)) <;> [rfl; skip]) | ((with_reducible apply State.whenPowered_changes) <;> [(intro _ _); skip]) | ((with_reducible apply Changes.foldl) <;> [(intro _ _ _); skip]) | split)

theorem execDebugUnlockWrite_changes (credentialOk : Bool) (s : State) :
    ∃ t, execDebugUnlockWrite credentialOk s = .next t ∧ Changes [.evr, .cmq, .land, .media, .ports, .sdm, .vault, .sec, .bst, .boot, .out, .free] s t := by
  have h0 := Changes.refl [.evr, .cmq, .land, .media, .ports, .sdm, .vault, .sec, .bst, .boot, .out, .free] s
  refine ⟨_, rfl, ?_⟩
  try dsimp only
  repeat' (first | with_reducible assumption | ((conv => (arg 3; arg 24; skip)); ((with_reducible apply Changes.sec_with) <;> [rfl; skip])) | ((with_reducible apply Changes.step (State.tamper_changes ..)) <;> [rfl; skip]) | ((with_reducible apply Changes.foldl) <;> [(intro _ _ _); skip]) | split)

theorem execEntropyHealthFail_changes (s : State) :
    ∃ t, execEntropyHealthFail s = .next t ∧ Changes [.evr, .sec] s t := by
  have h0 := Changes.refl [.evr, .sec] s
  refine ⟨_, rfl, ?_⟩
  repeat' (first | with_reducible assumption | ((with_reducible apply Changes.step (State.entropyFails_changes ..)) <;> [rfl; skip]) | ((with_reducible apply State.whenLive_changes) <;> [(intro _ _); skip]) | ((with_reducible apply Changes.foldl) <;> [(intro _ _ _); skip]) | split)

theorem execEntropyRetry_changes (healthy : Bool) (s : State) :
    ∃ t, execEntropyRetry healthy s = .next t ∧ Changes [.evr, .sec] s t := by
  have h0 := Changes.refl [.evr, .sec] s
  refine ⟨_, rfl, ?_⟩
  repeat' (first | with_reducible assumption | ((conv => (arg 3; arg 24; skip)); ((with_reducible apply Changes.sec_with) <;> [rfl; skip])) | ((with_reducible apply Changes.step (State.entropyFails_changes ..)) <;> [rfl; skip]) | ((with_reducible apply State.whenLive_changes) <;> [(intro _ _); skip]) | ((with_reducible apply Changes.foldl) <;> [(intro _ _ _); skip]) | split)

theorem execCipherLaneKat_changes (failed : BitVec 8) (s : State) :
    ∃ t, execCipherLaneKat failed s = .next t ∧ Changes [.units, .evr, .cmq, .land, .media, .ports, .sdm, .bst, .boot, .out] s t := by
  have h0 := Changes.refl [.units, .evr, .cmq, .land, .media, .ports, .sdm, .bst, .boot, .out] s
  refine ⟨_, rfl, ?_⟩
  repeat' (first | with_reducible assumption | ((with_reducible apply Changes.step (State.laneFails_changes ..)) <;> [rfl; skip]) | ((with_reducible apply State.whenLive_changes) <;> [(intro _ _); skip]) | ((with_reducible apply Changes.foldl) <;> [(intro _ _ _); skip]) | split)

theorem execSpdmGetVersion_changes (v : SpdmVia) (s : State) :
    ∃ t, execSpdmGetVersion v s = .next t ∧ Changes [.sec, .out] s t := by
  have h0 := Changes.refl [.sec, .out] s
  refine ⟨_, rfl, ?_⟩
  repeat' (first | with_reducible assumption | ((conv => (arg 3; arg 24; skip)); ((with_reducible apply Changes.sec_with) <;> [rfl; skip])) | ((with_reducible apply Changes.step (State.spdm_changes ..)) <;> [rfl; skip]) | ((with_reducible apply State.whenLive_changes) <;> [(intro _ _); skip]) | ((with_reducible apply Changes.foldl) <;> [(intro _ _ _); skip]) | split)

theorem execSpdmGetCapabilities_changes (v : SpdmVia) (s : State) :
    ∃ t, execSpdmGetCapabilities v s = .next t ∧ Changes [.out] s t := by
  have h0 := Changes.refl [.out] s
  refine ⟨_, rfl, ?_⟩
  repeat' (first | with_reducible assumption | ((with_reducible apply Changes.step (State.spdm_changes ..)) <;> [rfl; skip]) | ((with_reducible apply State.whenLive_changes) <;> [(intro _ _); skip]) | ((with_reducible apply Changes.foldl) <;> [(intro _ _ _); skip]) | split)

theorem execSpdmNegotiateAlgorithms_changes (v : SpdmVia) (s : State) :
    ∃ t, execSpdmNegotiateAlgorithms v s = .next t ∧ Changes [.sec, .out] s t := by
  have h0 := Changes.refl [.sec, .out] s
  refine ⟨_, rfl, ?_⟩
  repeat' (first | with_reducible assumption | ((conv => (arg 3; arg 24; skip)); ((with_reducible apply Changes.sec_with) <;> [rfl; skip])) | ((with_reducible apply Changes.step (State.spdm_changes ..)) <;> [rfl; skip]) | ((with_reducible apply State.whenKeyed_changes) <;> [(intro _ _); skip]) | ((with_reducible apply Changes.foldl) <;> [(intro _ _ _); skip]) | split)

theorem execSpdmGetDigests_changes (v : SpdmVia) (s : State) :
    ∃ t, execSpdmGetDigests v s = .next t ∧ Changes [.out] s t := by
  have h0 := Changes.refl [.out] s
  refine ⟨_, rfl, ?_⟩
  repeat' (first | with_reducible assumption | ((with_reducible apply State.negotiated_changes) <;> [(intro _ _); rfl; skip]) | ((with_reducible apply Changes.step (State.spdm_changes ..)) <;> [rfl; skip]) | ((with_reducible apply Changes.foldl) <;> [(intro _ _ _); skip]) | split)

theorem execSpdmGetCertificate_changes (v : SpdmVia) (slot : Nat) (s : State) :
    ∃ t, execSpdmGetCertificate v slot s = .next t ∧ Changes [.out] s t := by
  have h0 := Changes.refl [.out] s
  refine ⟨_, rfl, ?_⟩
  repeat' (first | with_reducible assumption | ((with_reducible apply State.negotiated_changes) <;> [(intro _ _); rfl; skip]) | ((with_reducible apply Changes.step (State.spdm_changes ..)) <;> [rfl; skip]) | ((with_reducible apply Changes.step (State.spdmError_changes ..)) <;> [rfl; skip]) | ((with_reducible apply Changes.foldl) <;> [(intro _ _ _); skip]) | split)

theorem execSpdmChallenge_changes (v : SpdmVia) (slot : Nat) (nonce : BitVec 256) (s : State) :
    ∃ t, execSpdmChallenge v slot nonce s = .next t ∧ Changes [.out, .free] s t := by
  have h0 := Changes.refl [.out, .free] s
  refine ⟨_, rfl, ?_⟩
  repeat' (first | with_reducible assumption | ((with_reducible apply State.negotiated_changes) <;> [(intro _ _); rfl; skip]) | ((with_reducible apply Changes.step (State.spdmError_changes ..)) <;> [rfl; skip]) | ((with_reducible apply Changes.step (State.spdmSigned_changes ..)) <;> [rfl; skip]) | ((with_reducible apply Changes.foldl) <;> [(intro _ _ _); skip]) | split)

theorem execSpdmGetMeasurements_changes (v : SpdmVia) (index : Nat) (signed : Bool) (nonce : BitVec 256) (s : State) :
    ∃ t, execSpdmGetMeasurements v index signed nonce s = .next t ∧ Changes [.out, .free] s t := by
  have h0 := Changes.refl [.out, .free] s
  refine ⟨_, rfl, ?_⟩
  repeat' (first | with_reducible assumption | ((with_reducible apply State.negotiated_changes) <;> [(intro _ _); rfl; skip]) | ((with_reducible apply Changes.step (State.spdm_changes ..)) <;> [rfl; skip]) | ((with_reducible apply Changes.step (State.spdmError_changes ..)) <;> [rfl; skip]) | ((with_reducible apply Changes.step (State.spdmSigned_changes ..)) <;> [rfl; skip]) | ((with_reducible apply Changes.foldl) <;> [(intro _ _ _); skip]) | split)

theorem execSpdmKeyExchange_changes (v : SpdmVia) (slot : Nat) (s : State) :
    ∃ t, execSpdmKeyExchange v slot s = .next t ∧ Changes [.sec, .out, .free] s t := by
  have h0 := Changes.refl [.sec, .out, .free] s
  refine ⟨_, rfl, ?_⟩
  try dsimp only
  repeat' (first | with_reducible assumption | ((conv => (arg 3; arg 24; skip)); ((with_reducible apply Changes.sec_with) <;> [rfl; skip])) | ((with_reducible apply State.negotiated_changes) <;> [(intro _ _); rfl; skip]) | ((with_reducible apply Changes.step (State.spdmError_changes ..)) <;> [rfl; skip]) | ((with_reducible apply Changes.step (State.spdmSigned_changes ..)) <;> [rfl; skip]) | ((with_reducible apply Changes.foldl) <;> [(intro _ _ _); skip]) | split)

theorem execSpdmFinish_changes (v : SpdmVia) (session : Nat) (s : State) :
    ∃ t, execSpdmFinish v session s = .next t ∧ Changes [.sec, .out] s t := by
  have h0 := Changes.refl [.sec, .out] s
  refine ⟨_, rfl, ?_⟩
  repeat' (first | with_reducible assumption | ((with_reducible apply Changes.step (State.setSession_changes ..)) <;> [rfl; skip]) | ((with_reducible apply Changes.step (State.spdm_changes ..)) <;> [rfl; skip]) | ((with_reducible apply Changes.step (State.spdmError_changes ..)) <;> [rfl; skip]) | ((with_reducible apply State.whenKeyed_changes) <;> [(intro _ _); skip]) | ((with_reducible apply Changes.foldl) <;> [(intro _ _ _); skip]) | split)

theorem execSpdmHeartbeat_changes (v : SpdmVia) (session : Nat) (s : State) :
    ∃ t, execSpdmHeartbeat v session s = .next t ∧ Changes [.vault, .out] s t := by
  have h0 := Changes.refl [.vault, .out] s
  refine ⟨_, rfl, ?_⟩
  repeat' (first | with_reducible assumption | ((with_reducible apply State.inSession_changes) <;> [(intro _ _); rfl; skip]) | ((with_reducible apply Changes.step (State.spdm_changes ..)) <;> [rfl; skip]) | ((with_reducible apply Changes.foldl) <;> [(intro _ _ _); skip]) | split)

theorem execSpdmKeyUpdate_changes (v : SpdmVia) (session : Nat) (s : State) :
    ∃ t, execSpdmKeyUpdate v session s = .next t ∧ Changes [.vault, .sec, .out] s t := by
  have h0 := Changes.refl [.vault, .sec, .out] s
  refine ⟨_, rfl, ?_⟩
  repeat' (first | with_reducible assumption | ((with_reducible apply State.inSession_changes) <;> [(intro _ _); rfl; skip]) | ((with_reducible apply Changes.step (State.setSession_changes ..)) <;> [rfl; skip]) | ((with_reducible apply Changes.step (State.spdm_changes ..)) <;> [rfl; skip]) | ((with_reducible apply Changes.foldl) <;> [(intro _ _ _); skip]) | split)

theorem execSpdmEndSession_changes (v : SpdmVia) (session : Nat) (s : State) :
    ∃ t, execSpdmEndSession v session s = .next t ∧ Changes [.vault, .sec, .out] s t := by
  have h0 := Changes.refl [.vault, .sec, .out] s
  refine ⟨_, rfl, ?_⟩
  repeat' (first | with_reducible assumption | ((conv => (arg 3; arg 24; skip)); ((with_reducible apply Changes.sec_with) <;> [rfl; skip])) | ((with_reducible apply State.inSession_changes) <;> [(intro _ _); rfl; skip]) | ((with_reducible apply Changes.step (State.spdm_changes ..)) <;> [rfl; skip]) | ((with_reducible apply Changes.foldl) <;> [(intro _ _ _); skip]) | split)

theorem execSpdmGetCsr_changes (v : SpdmVia) (s : State) :
    ∃ t, execSpdmGetCsr v s = .next t ∧ Changes [.out, .free] s t := by
  have h0 := Changes.refl [.out, .free] s
  refine ⟨_, rfl, ?_⟩
  repeat' (first | with_reducible assumption | ((with_reducible apply State.negotiated_changes) <;> [(intro _ _); rfl; skip]) | ((with_reducible apply Changes.step (State.spdmSigned_changes ..)) <;> [rfl; skip]) | ((with_reducible apply Changes.foldl) <;> [(intro _ _ _); skip]) | split)

theorem execSpdmSetCertificate_changes (v : SpdmVia) (slot : Nat) (chain : List Byte) (s : State) :
    ∃ t, execSpdmSetCertificate v slot chain s = .next t ∧ Changes [.sec, .out] s t := by
  have h0 := Changes.refl [.sec, .out] s
  refine ⟨_, rfl, ?_⟩
  repeat' (first | with_reducible assumption | ((conv => (arg 3; arg 24; skip)); ((with_reducible apply Changes.sec_with) <;> [rfl; skip])) | ((with_reducible apply State.negotiated_changes) <;> [(intro _ _); rfl; skip]) | ((with_reducible apply Changes.step (State.spdm_changes ..)) <;> [rfl; skip]) | ((with_reducible apply Changes.step (State.spdmError_changes ..)) <;> [rfl; skip]) | ((with_reducible apply Changes.foldl) <;> [(intro _ _ _); skip]) | split)

theorem execIdeKmKeyProg_changes (p : Fin 2) (session : Nat) (keySet : Fin 2) (key : BitVec 256) (s : State) :
    ∃ t, execIdeKmKeyProg p session keySet key s = .next t ∧ Changes [.cmq, .ports, .vault, .out] s t := by
  have h0 := Changes.refl [.cmq, .ports, .vault, .out] s
  refine ⟨_, rfl, ?_⟩
  repeat' (first | with_reducible assumption | ((with_reducible apply Changes.step (State.ideKey_changes ..)) <;> [rfl; skip]) | ((with_reducible apply State.inSession_changes) <;> [(intro _ _); rfl; skip]) | ((with_reducible apply Changes.foldl) <;> [(intro _ _ _); skip]) | split)

theorem execOpalMethod_changes (fseq : Nat) (m : OpalMethod) (s : State) :
    ∃ t, execOpalMethod fseq m s = .next t ∧ Changes [.cmq, .land, .media, .ports, .sec, .out] s t := by
  have h0 := Changes.refl [.cmq, .land, .media, .ports, .sec, .out] s
  refine ⟨_, rfl, ?_⟩
  try dsimp only
  repeat' (first | with_reducible assumption | ((with_reducible apply Changes.step (State.method_changes ..)) <;> [rfl; skip]) | ((with_reducible apply State.onAdmin_changes) <;> [(intro _ _ _); skip]) | ((with_reducible apply Changes.step (State.setSec_changes ..)) <;> [rfl; skip]) | ((with_reducible apply Changes.foldl) <;> [(intro _ _ _); skip]) | split)

theorem execOpalReceive_changes (fseq : Nat) (protocol : Nat) (s : State) :
    ∃ t, execOpalReceive fseq protocol s = .next t ∧ Changes [.cmq, .land, .media, .ports, .out] s t := by
  have h0 := Changes.refl [.cmq, .land, .media, .ports, .out] s
  refine ⟨_, rfl, ?_⟩
  repeat' (first | with_reducible assumption | ((with_reducible apply Changes.step (State.complete_changes ..)) <;> [rfl; skip]) | ((with_reducible apply Changes.step (State.emit_changes ..)) <;> [rfl; skip]) | ((with_reducible apply State.onAdmin_changes) <;> [(intro _ _ _); skip]) | ((with_reducible apply Changes.foldl) <;> [(intro _ _ _); skip]) | split)

theorem execOpalGenkey_changes (fseq : Nat) (range : Fin 64) (s : State) :
    ∃ t, execOpalGenkey fseq range s = .next t ∧ Changes [.evr, .cmq, .land, .media, .ports, .sec, .out, .free] s t := by
  have h0 := Changes.refl [.evr, .cmq, .land, .media, .ports, .sec, .out, .free] s
  refine ⟨_, rfl, ?_⟩
  repeat' (first | with_reducible assumption | ((with_reducible apply Changes.step (State.genKey_changes ..)) <;> [rfl; skip]) | ((with_reducible apply Changes.step (State.method_changes ..)) <;> [rfl; skip]) | ((with_reducible apply State.onAdmin_changes) <;> [(intro _ _ _); skip]) | ((with_reducible apply Changes.foldl) <;> [(intro _ _ _); skip]) | split)

theorem execPsidRevert_changes (fseq : Nat) (psidOk : Bool) (s : State) :
    ∃ t, execPsidRevert fseq psidOk s = .next t ∧ Changes [.evr, .cmq, .land, .media, .ports, .sec, .out, .free] s t := by
  have h0 := Changes.refl [.evr, .cmq, .land, .media, .ports, .sec, .out, .free] s
  refine ⟨_, rfl, ?_⟩
  try dsimp only
  repeat' (first | with_reducible assumption | ((with_reducible apply Changes.step (State.method_changes ..)) <;> [rfl; skip]) | ((with_reducible apply Changes.step (State.newKey_changes ..)) <;> [rfl; skip]) | ((with_reducible apply State.onAdmin_changes) <;> [(intro _ _ _); skip]) | ((with_reducible apply Changes.step (State.setSec_changes ..)) <;> [rfl; skip]) | ((with_reducible apply Changes.step (State.wipeNs_changes ..)) <;> [rfl; skip]) | ((with_reducible apply Changes.foldl) <;> [(intro _ _ _); skip]) | split)

theorem execKpioKeyInject_changes (fseq : Nat) (nsid : Nat) (tag : Nat) (key : BitVec 512) (authentic : Bool) (s : State) :
    ∃ t, execKpioKeyInject fseq nsid tag key authentic s = .next t ∧ Changes [.cmq, .land, .media, .ports, .sec, .out] s t := by
  have h0 := Changes.refl [.cmq, .land, .media, .ports, .sec, .out] s
  refine ⟨_, rfl, ?_⟩
  try dsimp only
  repeat' (first | with_reducible assumption | ((with_reducible apply Changes.step (State.complete_changes ..)) <;> [rfl; skip]) | ((with_reducible apply Changes.step (State.endKeyCmd_changes ..)) <;> [rfl; skip]) | ((with_reducible apply State.onAdmin_changes) <;> [(intro _ _ _); skip]) | ((with_reducible apply Changes.step (State.setSec_changes ..)) <;> [rfl; skip]) | ((with_reducible apply Changes.step (State.dropKey_changes ..)) <;> [rfl; skip]) | ((with_reducible apply Changes.foldl) <;> [(intro _ _ _); skip]) | split)

theorem execKpioClearKey_changes (fseq : Nat) (nsid : Nat) (tag : Nat) (s : State) :
    ∃ t, execKpioClearKey fseq nsid tag s = .next t ∧ Changes [.cmq, .land, .media, .ports, .sec, .out] s t := by
  have h0 := Changes.refl [.cmq, .land, .media, .ports, .sec, .out] s
  refine ⟨_, rfl, ?_⟩
  try dsimp only
  repeat' (first | with_reducible assumption | ((with_reducible apply Changes.step (State.complete_changes ..)) <;> [rfl; skip]) | ((with_reducible apply Changes.step (State.endKeyCmd_changes ..)) <;> [rfl; skip]) | ((with_reducible apply State.onAdmin_changes) <;> [(intro _ _ _); skip]) | ((with_reducible apply Changes.step (State.dropKey_changes ..)) <;> [rfl; skip]) | ((with_reducible apply Changes.foldl) <;> [(intro _ _ _); skip]) | split)

theorem execBstRead_changes (ini : Initiator) (offset : Nat) (s : State) :
    ∃ t, execBstRead ini offset s = .next t ∧ Changes [.bst, .out] s t := by
  have h0 := Changes.refl [.bst, .out] s
  refine ⟨_, rfl, ?_⟩
  repeat' (first | with_reducible assumption | ((with_reducible apply Changes.step (State.bstRead_changes ..)) <;> [rfl; skip]) | ((with_reducible apply Changes.foldl) <;> [(intro _ _ _); skip]) | split)

theorem execBstProgramPage_changes (ini : Initiator) (offset : Nat) (data : List Byte) (s : State) :
    ∃ t, execBstProgramPage ini offset data s = .next t ∧ Changes [.bst, .out] s t := by
  have h0 := Changes.refl [.bst, .out] s
  refine ⟨_, rfl, ?_⟩
  repeat' (first | with_reducible assumption | ((with_reducible apply State.bstStart_changes) <;> [(intro _ _); rfl; skip]) | ((with_reducible apply State.bstWrite_changes) <;> [(intro _ _); rfl; skip]) | ((with_reducible apply Changes.step (State.setBst_changes ..)) <;> [rfl; skip]) | ((with_reducible apply Changes.foldl) <;> [(intro _ _ _); skip]) | split)

theorem execBstSectorErase_changes (ini : Initiator) (offset : Nat) (s : State) :
    ∃ t, execBstSectorErase ini offset s = .next t ∧ Changes [.evr, .bst, .out] s t := by
  have h0 := Changes.refl [.evr, .bst, .out] s
  refine ⟨_, rfl, ?_⟩
  repeat' (first | with_reducible assumption | ((with_reducible apply Changes.step (State.bstErase_changes ..)) <;> [rfl; skip]) | ((with_reducible apply State.bstStart_changes) <;> [(intro _ _); rfl; skip]) | ((with_reducible apply State.bstWrite_changes) <;> [(intro _ _); rfl; skip]) | ((with_reducible apply Changes.foldl) <;> [(intro _ _ _); skip]) | split)

theorem execBstOpComplete_changes (ok : Bool) (s : State) :
    ∃ t, execBstOpComplete ok s = .next t ∧ Changes [.evr, .bst, .out, .free] s t := by
  have h0 := Changes.refl [.evr, .bst, .out, .free] s
  refine ⟨_, rfl, ?_⟩
  repeat' (first | with_reducible assumption | ((with_reducible apply Changes.step (State.bstComplete_changes ..)) <;> [rfl; skip]) | ((with_reducible apply Changes.foldl) <;> [(intro _ _ _); skip]) | split)

theorem execBstSuspend_changes (ini : Initiator) (s : State) :
    ∃ t, execBstSuspend ini s = .next t ∧ Changes [.bst, .out] s t := by
  have h0 := Changes.refl [.bst, .out] s
  refine ⟨_, rfl, ?_⟩
  repeat' (first | with_reducible assumption | ((with_reducible apply State.bstWrite_changes) <;> [(intro _ _); rfl; skip]) | ((with_reducible apply Changes.step (State.setOp_changes ..)) <;> [rfl; skip]) | ((with_reducible apply Changes.foldl) <;> [(intro _ _ _); skip]) | split)

theorem execBstResume_changes (ini : Initiator) (s : State) :
    ∃ t, execBstResume ini s = .next t ∧ Changes [.bst, .out] s t := by
  have h0 := Changes.refl [.bst, .out] s
  refine ⟨_, rfl, ?_⟩
  repeat' (first | with_reducible assumption | ((with_reducible apply State.bstWrite_changes) <;> [(intro _ _); rfl; skip]) | ((with_reducible apply Changes.step (State.setOp_changes ..)) <;> [rfl; skip]) | ((with_reducible apply Changes.foldl) <;> [(intro _ _ _); skip]) | split)

theorem execBstSuspendDue_changes (s : State) :
    ∃ t, execBstSuspendDue s = .next t ∧ Changes [.bst] s t := by
  have h0 := Changes.refl [.bst] s
  refine ⟨_, rfl, ?_⟩
  repeat' (first | with_reducible assumption | ((with_reducible apply Changes.step (State.setOp_changes ..)) <;> [rfl; skip]) | ((with_reducible apply Changes.foldl) <;> [(intro _ _ _); skip]) | split)

theorem execBstSuspended_changes (s : State) :
    ∃ t, execBstSuspended s = .next t ∧ Changes [.bst, .out] s t := by
  have h0 := Changes.refl [.bst, .out] s
  refine ⟨_, rfl, ?_⟩
  repeat' (first | with_reducible assumption | ((with_reducible apply Changes.step (State.bstSuspended_changes ..)) <;> [rfl; skip]) | ((with_reducible apply Changes.foldl) <;> [(intro _ _ _); skip]) | split)

theorem execBstReadStatus_changes (ini : Initiator) (s : State) :
    ∃ t, execBstReadStatus ini s = .next t ∧ Changes [.bst, .out] s t := by
  have h0 := Changes.refl [.bst, .out] s
  refine ⟨_, rfl, ?_⟩
  repeat' (first | with_reducible assumption | ((with_reducible apply State.bstWrite_changes) <;> [(intro _ _); rfl; skip]) | ((with_reducible apply Changes.step (State.setBst_changes ..)) <;> [rfl; skip]) | ((with_reducible apply Changes.foldl) <;> [(intro _ _ _); skip]) | split)

theorem execBstReturnToRead_changes (ini : Initiator) (s : State) :
    ∃ t, execBstReturnToRead ini s = .next t ∧ Changes [.bst, .out] s t := by
  have h0 := Changes.refl [.bst, .out] s
  refine ⟨_, rfl, ?_⟩
  repeat' (first | with_reducible assumption | ((with_reducible apply State.bstWrite_changes) <;> [(intro _ _); rfl; skip]) | ((with_reducible apply Changes.step (State.serveHeld_changes ..)) <;> [rfl; skip]) | ((with_reducible apply Changes.step (State.setBst_changes ..)) <;> [rfl; skip]) | ((with_reducible apply Changes.foldl) <;> [(intro _ _ _); skip]) | split)

theorem execBstSequenceBroken_changes (ini : Initiator) (s : State) :
    ∃ t, execBstSequenceBroken ini s = .next t ∧ Changes [.bst, .out] s t := by
  have h0 := Changes.refl [.bst, .out] s
  refine ⟨_, rfl, ?_⟩
  repeat' (first | with_reducible assumption | ((with_reducible apply State.bstWrite_changes) <;> [(intro _ _); rfl; skip]) | ((with_reducible apply Changes.step (State.setBst_changes ..)) <;> [rfl; skip]) | ((with_reducible apply Changes.foldl) <;> [(intro _ _ _); skip]) | split)

theorem execBstAbort_changes (s : State) :
    ∃ t, execBstAbort s = .next t ∧ Changes [.bst, .out, .free] s t := by
  have h0 := Changes.refl [.bst, .out, .free] s
  refine ⟨_, rfl, ?_⟩
  repeat' (first | with_reducible assumption | ((with_reducible apply Changes.step (State.bstStop_changes ..)) <;> [rfl; skip]) | ((with_reducible apply Changes.foldl) <;> [(intro _ _ _); skip]) | split)

theorem execEventTokenRefill_changes (code : Nat) (s : State) :
    ∃ t, execEventTokenRefill code s = .next t ∧ Changes [.evr] s t := by
  have h0 := Changes.refl [.evr] s
  refine ⟨_, rfl, ?_⟩
  try dsimp only
  repeat' (first | with_reducible assumption | ((conv => (arg 3; arg 24; skip)); ((with_reducible apply Changes.evr_with) <;> [rfl; skip])) | ((with_reducible apply State.whenLive_changes) <;> [(intro _ _); skip]) | ((with_reducible apply Changes.foldl) <;> [(intro _ _ _); skip]) | split)

theorem execEventRepeatPersist_changes (s : State) :
    ∃ t, execEventRepeatPersist s = .next t ∧ Changes [.evr] s t := by
  have h0 := Changes.refl [.evr] s
  refine ⟨_, rfl, ?_⟩
  repeat' (first | with_reducible assumption | ((conv => (arg 3; arg 24; skip)); ((with_reducible apply Changes.evr_with) <;> [rfl; skip])) | ((with_reducible apply State.whenLive_changes) <;> [(intro _ _); skip]) | ((with_reducible apply Changes.foldl) <;> [(intro _ _ _); skip]) | split)

theorem execOpsecTick_changes (s : State) :
    ∃ t, execOpsecTick s = .next t ∧ Changes [.clocks] s t := by
  have h0 := Changes.refl [.clocks] s
  refine ⟨_, rfl, ?_⟩
  repeat' (first | with_reducible assumption | ((conv => (arg 3; arg 24; skip)); ((with_reducible apply Changes.clocks_with) <;> [rfl; skip])) | ((with_reducible apply State.whenPowered_changes) <;> [(intro _ _); skip]) | ((with_reducible apply Changes.foldl) <;> [(intro _ _ _); skip]) | split)

theorem execOpsecPersist_changes (s : State) :
    ∃ t, execOpsecPersist s = .next t ∧ Changes [.evr, .clocks] s t := by
  have h0 := Changes.refl [.evr, .clocks] s
  refine ⟨_, rfl, ?_⟩
  repeat' (first | with_reducible assumption | ((with_reducible apply Changes.step (State.persist_changes ..)) <;> [rfl; skip]) | ((with_reducible apply State.whenLive_changes) <;> [(intro _ _); skip]) | ((with_reducible apply Changes.foldl) <;> [(intro _ _ _); skip]) | split)

theorem execDictRead_changes (p : Fin 2) (r : DictReq) (s : State) :
    ∃ t, execDictRead p r s = .next t ∧ Changes [.evr, .cmq, .land, .media, .plp, .ports, .dram, .sdm, .bst, .boot, .pws, .dict, .out, .free] s t := by
  have h0 := Changes.refl [.evr, .cmq, .land, .media, .plp, .ports, .dram, .sdm, .bst, .boot, .pws, .dict, .out, .free] s
  refine ⟨_, rfl, ?_⟩
  repeat' (first | with_reducible assumption | ((with_reducible apply Changes.step (State.mailbox_changes ..)) <;> [rfl; skip]) | ((with_reducible apply Changes.foldl) <;> [(intro _ _ _); skip]) | split)

theorem execDictWrite_changes (p : Fin 2) (r : DictReq) (s : State) :
    ∃ t, execDictWrite p r s = .next t ∧ Changes [.evr, .cmq, .land, .media, .plp, .ports, .dram, .sdm, .bst, .boot, .pws, .dict, .out, .free] s t := by
  have h0 := Changes.refl [.evr, .cmq, .land, .media, .plp, .ports, .dram, .sdm, .bst, .boot, .pws, .dict, .out, .free] s
  refine ⟨_, rfl, ?_⟩
  repeat' (first | with_reducible assumption | ((with_reducible apply Changes.step (State.mailbox_changes ..)) <;> [rfl; skip]) | ((with_reducible apply Changes.foldl) <;> [(intro _ _ _); skip]) | split)

theorem execDictDescribe_changes (p : Fin 2) (r : DictReq) (s : State) :
    ∃ t, execDictDescribe p r s = .next t ∧ Changes [.evr, .cmq, .land, .media, .plp, .ports, .dram, .sdm, .bst, .boot, .pws, .dict, .out, .free] s t := by
  have h0 := Changes.refl [.evr, .cmq, .land, .media, .plp, .ports, .dram, .sdm, .bst, .boot, .pws, .dict, .out, .free] s
  refine ⟨_, rfl, ?_⟩
  repeat' (first | with_reducible assumption | ((with_reducible apply Changes.step (State.mailbox_changes ..)) <;> [rfl; skip]) | ((with_reducible apply Changes.foldl) <;> [(intro _ _ _); skip]) | split)

theorem execDictRequestInvalid_changes (p : Fin 2) (op : Byte) (tag : BitVec 64) (s : State) :
    ∃ t, execDictRequestInvalid p op tag s = .next t ∧ Changes [.evr, .cmq, .land, .media, .plp, .ports, .dram, .sdm, .bst, .boot, .pws, .dict, .out, .free] s t := by
  have h0 := Changes.refl [.evr, .cmq, .land, .media, .plp, .ports, .dram, .sdm, .bst, .boot, .pws, .dict, .out, .free] s
  refine ⟨_, rfl, ?_⟩
  repeat' (first | with_reducible assumption | ((with_reducible apply Changes.step (State.mailbox_changes ..)) <;> [rfl; skip]) | ((with_reducible apply Changes.foldl) <;> [(intro _ _ _); skip]) | split)

theorem execMiDictRead_changes (r : DictReq) (s : State) :
    ∃ t, execMiDictRead r s = .next t ∧ Changes [.evr, .cmq, .land, .media, .plp, .ports, .dram, .sdm, .bst, .boot, .pws, .dict, .out, .free] s t := by
  have h0 := Changes.refl [.evr, .cmq, .land, .media, .plp, .ports, .dram, .sdm, .bst, .boot, .pws, .dict, .out, .free] s
  refine ⟨_, rfl, ?_⟩
  repeat' (first | with_reducible assumption | ((with_reducible apply Changes.step (State.busRequest_changes ..)) <;> [rfl; skip]) | ((with_reducible apply Changes.foldl) <;> [(intro _ _ _); skip]) | split)

theorem execMiDictWrite_changes (r : DictReq) (s : State) :
    ∃ t, execMiDictWrite r s = .next t ∧ Changes [.evr, .cmq, .land, .media, .plp, .ports, .dram, .sdm, .bst, .boot, .pws, .dict, .out, .free] s t := by
  have h0 := Changes.refl [.evr, .cmq, .land, .media, .plp, .ports, .dram, .sdm, .bst, .boot, .pws, .dict, .out, .free] s
  refine ⟨_, rfl, ?_⟩
  repeat' (first | with_reducible assumption | ((with_reducible apply Changes.step (State.busRequest_changes ..)) <;> [rfl; skip]) | ((with_reducible apply Changes.foldl) <;> [(intro _ _ _); skip]) | split)

theorem execMiDictDescribe_changes (r : DictReq) (s : State) :
    ∃ t, execMiDictDescribe r s = .next t ∧ Changes [.evr, .cmq, .land, .media, .plp, .ports, .dram, .sdm, .bst, .boot, .pws, .dict, .out, .free] s t := by
  have h0 := Changes.refl [.evr, .cmq, .land, .media, .plp, .ports, .dram, .sdm, .bst, .boot, .pws, .dict, .out, .free] s
  refine ⟨_, rfl, ?_⟩
  repeat' (first | with_reducible assumption | ((with_reducible apply Changes.step (State.busRequest_changes ..)) <;> [rfl; skip]) | ((with_reducible apply Changes.foldl) <;> [(intro _ _ _); skip]) | split)

theorem execCommitWindowClose_changes (index : BitVec 16) (sub : Byte) (s : State) :
    ∃ t, execCommitWindowClose index sub s = .next t ∧ Changes [.evr, .cmq, .land, .media, .plp, .ports, .dram, .sdm, .bst, .boot, .pws, .dict, .out, .free] s t := by
  have h0 := Changes.refl [.evr, .cmq, .land, .media, .plp, .ports, .dram, .sdm, .bst, .boot, .pws, .dict, .out, .free] s
  refine ⟨_, rfl, ?_⟩
  repeat' (first | with_reducible assumption | ((with_reducible apply Changes.step (State.closeWindow_changes ..)) <;> [rfl; skip]) | ((with_reducible apply Changes.step (State.serveDict_changes ..)) <;> [rfl; skip]) | ((with_reducible apply State.whenLive_changes) <;> [(intro _ _); skip]) | ((with_reducible apply Changes.foldl) <;> [(intro _ _ _); skip]) | split)

theorem execDefaults_changes (v : Option (Fin 2)) (s : State) :
    ∃ t, execDefaults v s = .next t ∧ Changes [.evr, .cmq, .land, .media, .plp, .ports, .dram, .sdm, .bst, .boot, .pws, .dict, .out, .free] s t := by
  have h0 := Changes.refl [.evr, .cmq, .land, .media, .plp, .ports, .dram, .sdm, .bst, .boot, .pws, .dict, .out, .free] s
  refine ⟨_, rfl, ?_⟩
  repeat' (first | with_reducible assumption | ((with_reducible apply Changes.step (State.woWrite_changes ..)) <;> [rfl; skip]) | ((with_reducible apply Changes.foldl) <;> [(intro _ _ _); skip]) | split)

theorem execTestNow_changes (v : Option (Fin 2)) (s : State) :
    ∃ t, execTestNow v s = .next t ∧ Changes [.evr, .cmq, .land, .media, .plp, .ports, .dram, .sdm, .bst, .boot, .pws, .dict, .out, .free] s t := by
  have h0 := Changes.refl [.evr, .cmq, .land, .media, .plp, .ports, .dram, .sdm, .bst, .boot, .pws, .dict, .out, .free] s
  refine ⟨_, rfl, ?_⟩
  repeat' (first | with_reducible assumption | ((with_reducible apply Changes.step (State.woWrite_changes ..)) <;> [rfl; skip]) | ((with_reducible apply Changes.foldl) <;> [(intro _ _ _); skip]) | split)

theorem execCInitReset_changes (v : Option (Fin 2)) (s : State) :
    ∃ t, execCInitReset v s = .next t ∧ Changes [.evr, .cmq, .land, .media, .plp, .ports, .dram, .sdm, .bst, .boot, .pws, .dict, .out, .free] s t := by
  have h0 := Changes.refl [.evr, .cmq, .land, .media, .plp, .ports, .dram, .sdm, .bst, .boot, .pws, .dict, .out, .free] s
  refine ⟨_, rfl, ?_⟩
  repeat' (first | with_reducible assumption | ((with_reducible apply Changes.step (State.woWrite_changes ..)) <;> [rfl; skip]) | ((with_reducible apply Changes.foldl) <;> [(intro _ _ _); skip]) | split)

theorem execFullWindow_changes (v : Option (Fin 2)) (ms : Nat) (s : State) :
    ∃ t, execFullWindow v ms s = .next t ∧ Changes [.evr, .cmq, .land, .media, .plp, .ports, .dram, .sdm, .bst, .boot, .pws, .dict, .out, .free] s t := by
  have h0 := Changes.refl [.evr, .cmq, .land, .media, .plp, .ports, .dram, .sdm, .bst, .boot, .pws, .dict, .out, .free] s
  refine ⟨_, rfl, ?_⟩
  repeat' (first | with_reducible assumption | ((with_reducible apply Changes.step (State.woWrite_changes ..)) <;> [rfl; skip]) | ((with_reducible apply Changes.foldl) <;> [(intro _ _ _); skip]) | split)

theorem execFullTarget_changes (v : Option (Fin 2)) (stripe : Nat) (s : State) :
    ∃ t, execFullTarget v stripe s = .next t ∧ Changes [.evr, .cmq, .land, .media, .plp, .ports, .dram, .sdm, .bst, .boot, .pws, .dict, .out, .free] s t := by
  have h0 := Changes.refl [.evr, .cmq, .land, .media, .plp, .ports, .dram, .sdm, .bst, .boot, .pws, .dict, .out, .free] s
  refine ⟨_, rfl, ?_⟩
  repeat' (first | with_reducible assumption | ((with_reducible apply Changes.step (State.woWrite_changes ..)) <;> [rfl; skip]) | ((with_reducible apply Changes.foldl) <;> [(intro _ _ _); skip]) | split)

theorem execPounceRun_changes (v : Option (Fin 2)) (s : State) :
    ∃ t, execPounceRun v s = .next t ∧ Changes [.evr, .cmq, .land, .media, .plp, .ports, .dram, .sdm, .bst, .boot, .pws, .dict, .out, .free] s t := by
  have h0 := Changes.refl [.evr, .cmq, .land, .media, .plp, .ports, .dram, .sdm, .bst, .boot, .pws, .dict, .out, .free] s
  refine ⟨_, rfl, ?_⟩
  repeat' (first | with_reducible assumption | ((with_reducible apply Changes.step (State.woWrite_changes ..)) <;> [rfl; skip]) | ((with_reducible apply Changes.foldl) <;> [(intro _ _ _); skip]) | split)

theorem execBmcNtfRead_changes (n : Fin 32) (s : State) :
    ∃ t, execBmcNtfRead n s = .next t ∧ Changes [.evr, .cmq, .land, .media, .plp, .ports, .dram, .sdm, .bst, .boot, .pws, .dict, .out, .free] s t := by
  have h0 := Changes.refl [.evr, .cmq, .land, .media, .plp, .ports, .dram, .sdm, .bst, .boot, .pws, .dict, .out, .free] s
  refine ⟨_, rfl, ?_⟩
  repeat' (first | with_reducible assumption | ((with_reducible apply Changes.step (State.busRequest_changes ..)) <;> [rfl; skip]) | ((with_reducible apply Changes.foldl) <;> [(intro _ _ _); skip]) | split)

theorem execStagingDiscard_changes (v : Option (Fin 2)) (s : State) :
    ∃ t, execStagingDiscard v s = .next t ∧ Changes [.evr, .cmq, .land, .media, .plp, .ports, .dram, .sdm, .bst, .boot, .pws, .dict, .out, .free] s t := by
  have h0 := Changes.refl [.evr, .cmq, .land, .media, .plp, .ports, .dram, .sdm, .bst, .boot, .pws, .dict, .out, .free] s
  refine ⟨_, rfl, ?_⟩
  repeat' (first | with_reducible assumption | ((with_reducible apply Changes.step (State.woWrite_changes ..)) <;> [rfl; skip]) | ((with_reducible apply Changes.foldl) <;> [(intro _ _ _); skip]) | split)

theorem execOwnerNonce_changes (v : Via) (s : State) :
    ∃ t, execOwnerNonce v s = .next t ∧ Changes [.cmq, .land, .media, .ports, .sec, .out, .free] s t := by
  have h0 := Changes.refl [.cmq, .land, .media, .ports, .sec, .out, .free] s
  refine ⟨_, rfl, ?_⟩
  try dsimp only
  repeat' (first | with_reducible assumption | ((conv => (arg 3; arg 24; skip)); ((with_reducible apply Changes.sec_free_with) <;> [rfl; rfl; skip])) | ((with_reducible apply State.onVia_changes) <;> [(intro _ _); skip]) | ((with_reducible apply Changes.step (State.viaEnd_changes ..)) <;> [rfl; skip]) | ((with_reducible apply Changes.foldl) <;> [(intro _ _ _); skip]) | split)

theorem execOwnerResult_changes (v : Via) (s : State) :
    ∃ t, execOwnerResult v s = .next t ∧ Changes [.cmq, .land, .media, .ports, .out] s t := by
  have h0 := Changes.refl [.cmq, .land, .media, .ports, .out] s
  refine ⟨_, rfl, ?_⟩
  repeat' (first | with_reducible assumption | ((with_reducible apply State.onVia_changes) <;> [(intro _ _); skip]) | ((with_reducible apply Changes.step (State.viaEnd_changes ..)) <;> [rfl; skip]) | ((with_reducible apply Changes.foldl) <;> [(intro _ _ _); skip]) | split)

theorem execOwnerTakeOwnership_changes (v : Via) (c : OwnerCmd) (s : State) :
    ∃ t, execOwnerTakeOwnership v c s = .next t ∧ Changes [.evr, .cmq, .land, .media, .ports, .vault, .sec, .out] s t := by
  have h0 := Changes.refl [.evr, .cmq, .land, .media, .ports, .vault, .sec, .out] s
  refine ⟨_, rfl, ?_⟩
  repeat' (first | with_reducible assumption | ((with_reducible apply Changes.step (State.awaitPresence_changes ..)) <;> [rfl; skip]) | ((with_reducible apply State.ownerCmd_changes) <;> [(intro _ _); rfl; skip]) | ((with_reducible apply Changes.foldl) <;> [(intro _ _ _); skip]) | split)

theorem execOwnerSetLock_changes (v : Via) (c : OwnerCmd) (s : State) :
    ∃ t, execOwnerSetLock v c s = .next t ∧ Changes [.evr, .cmq, .land, .media, .ports, .vault, .sec, .out] s t := by
  have h0 := Changes.refl [.evr, .cmq, .land, .media, .ports, .vault, .sec, .out] s
  refine ⟨_, rfl, ?_⟩
  repeat' (first | with_reducible assumption | ((with_reducible apply Changes.step (State.log_changes ..)) <;> [rfl; skip]) | ((with_reducible apply State.ownerCmd_changes) <;> [(intro _ _); rfl; skip]) | ((with_reducible apply Changes.step (State.setSec_changes ..)) <;> [rfl; skip]) | ((with_reducible apply Changes.foldl) <;> [(intro _ _ _); skip]) | split)

theorem execOwnerClearLock_changes (v : Via) (c : OwnerCmd) (s : State) :
    ∃ t, execOwnerClearLock v c s = .next t ∧ Changes [.evr, .cmq, .land, .media, .ports, .vault, .sec, .out] s t := by
  have h0 := Changes.refl [.evr, .cmq, .land, .media, .ports, .vault, .sec, .out] s
  refine ⟨_, rfl, ?_⟩
  repeat' (first | with_reducible assumption | ((with_reducible apply Changes.step (State.awaitPresence_changes ..)) <;> [rfl; skip]) | ((with_reducible apply State.ownerCmd_changes) <;> [(intro _ _); rfl; skip]) | ((with_reducible apply Changes.foldl) <;> [(intro _ _ _); skip]) | split)

theorem execOwnerReplaceKey_changes (v : Via) (c : OwnerCmd) (s : State) :
    ∃ t, execOwnerReplaceKey v c s = .next t ∧ Changes [.evr, .cmq, .land, .media, .ports, .vault, .sec, .out] s t := by
  have h0 := Changes.refl [.evr, .cmq, .land, .media, .ports, .vault, .sec, .out] s
  refine ⟨_, rfl, ?_⟩
  repeat' (first | with_reducible assumption | ((with_reducible apply Changes.step (State.awaitPresence_changes ..)) <;> [rfl; skip]) | ((with_reducible apply State.ownerCmd_changes) <;> [(intro _ _); rfl; skip]) | ((with_reducible apply Changes.foldl) <;> [(intro _ _ _); skip]) | split)

theorem execOwnerWriteEntry_changes (v : Via) (c : OwnerCmd) (s : State) :
    ∃ t, execOwnerWriteEntry v c s = .next t ∧ Changes [.evr, .cmq, .land, .media, .plp, .ports, .dram, .sdm, .vault, .sec, .bst, .boot, .pws, .dict, .out, .free] s t := by
  have h0 := Changes.refl [.evr, .cmq, .land, .media, .plp, .ports, .dram, .sdm, .vault, .sec, .bst, .boot, .pws, .dict, .out, .free] s
  refine ⟨_, rfl, ?_⟩
  try dsimp only
  repeat' (first | with_reducible assumption | ((with_reducible apply Changes.step (State.commitWrite_changes ..)) <;> [rfl; skip]) | ((with_reducible apply State.ownerCmd_changes) <;> [(intro _ _); rfl; skip]) | ((with_reducible apply Changes.foldl) <;> [(intro _ _ _); skip]) | split)

theorem execOwnerProvisionSlot2_changes (v : Via) (c : OwnerCmd) (s : State) :
    ∃ t, execOwnerProvisionSlot2 v c s = .next t ∧ Changes [.evr, .cmq, .land, .media, .ports, .vault, .sec, .out] s t := by
  have h0 := Changes.refl [.evr, .cmq, .land, .media, .ports, .vault, .sec, .out] s
  refine ⟨_, rfl, ?_⟩
  repeat' (first | with_reducible assumption | ((with_reducible apply State.ownerCmd_changes) <;> [(intro _ _); rfl; skip]) | ((with_reducible apply Changes.step (State.setSec_changes ..)) <;> [rfl; skip]) | ((with_reducible apply Changes.foldl) <;> [(intro _ _ _); skip]) | split)

theorem execOwnerRelease_changes (v : Via) (c : OwnerCmd) (s : State) :
    ∃ t, execOwnerRelease v c s = .next t ∧ Changes [.evr, .cmq, .land, .media, .ports, .vault, .sec, .out] s t := by
  have h0 := Changes.refl [.evr, .cmq, .land, .media, .ports, .vault, .sec, .out] s
  refine ⟨_, rfl, ?_⟩
  repeat' (first | with_reducible assumption | ((with_reducible apply Changes.step (State.awaitPresence_changes ..)) <;> [rfl; skip]) | ((with_reducible apply State.ownerCmd_changes) <;> [(intro _ _); rfl; skip]) | ((with_reducible apply Changes.foldl) <;> [(intro _ _ _); skip]) | split)

theorem execOwnerAuthoriseDebug_changes (v : Via) (c : OwnerCmd) (s : State) :
    ∃ t, execOwnerAuthoriseDebug v c s = .next t ∧ Changes [.evr, .cmq, .land, .media, .ports, .vault, .sec, .out] s t := by
  have h0 := Changes.refl [.evr, .cmq, .land, .media, .ports, .vault, .sec, .out] s
  refine ⟨_, rfl, ?_⟩
  repeat' (first | with_reducible assumption | ((with_reducible apply Changes.step (State.awaitPresence_changes ..)) <;> [rfl; skip]) | ((with_reducible apply State.ownerCmd_changes) <;> [(intro _ _); rfl; skip]) | ((with_reducible apply Changes.foldl) <;> [(intro _ _ _); skip]) | split)

theorem execPresenceHold_changes (beganInWindow : Bool) (s : State) :
    ∃ t, execPresenceHold beganInWindow s = .next t ∧ Changes [.evr, .sec] s t := by
  have h0 := Changes.refl [.evr, .sec] s
  refine ⟨_, rfl, ?_⟩
  repeat' (first | with_reducible assumption | ((with_reducible apply Changes.step (State.presenceAct_changes ..)) <;> [rfl; skip]) | ((with_reducible apply Changes.step (State.setResult_changes ..)) <;> [rfl; skip]) | ((with_reducible apply Changes.step (State.setSec_changes ..)) <;> [rfl; skip]) | ((with_reducible apply State.whenLive_changes) <;> [(intro _ _); skip]) | ((with_reducible apply Changes.foldl) <;> [(intro _ _ _); skip]) | split)

theorem execPresenceWindowExpire_changes (s : State) :
    ∃ t, execPresenceWindowExpire s = .next t ∧ Changes [.sec] s t := by
  have h0 := Changes.refl [.sec] s
  refine ⟨_, rfl, ?_⟩
  repeat' (first | with_reducible assumption | ((with_reducible apply Changes.step (State.setResult_changes ..)) <;> [rfl; skip]) | ((with_reducible apply Changes.step (State.setSec_changes ..)) <;> [rfl; skip]) | ((with_reducible apply State.whenLive_changes) <;> [(intro _ _); skip]) | ((with_reducible apply Changes.foldl) <;> [(intro _ _ _); skip]) | split)

theorem execFirmwareImageDownload_changes (fseq : Nat) (ofst : Nat) (bytes : List Byte) (s : State) :
    ∃ t, execFirmwareImageDownload fseq ofst bytes s = .next t ∧ Changes [.evr, .cmq, .land, .media, .ports, .boot, .out] s t := by
  have h0 := Changes.refl [.evr, .cmq, .land, .media, .ports, .boot, .out] s
  refine ⟨_, rfl, ?_⟩
  repeat' (first | with_reducible assumption | ((with_reducible apply Changes.step (State.download_changes ..)) <;> [rfl; skip]) | ((with_reducible apply State.onAdmin_changes) <;> [(intro _ _ _); skip]) | ((with_reducible apply Changes.foldl) <;> [(intro _ _ _); skip]) | split)

theorem execDownloadPieceProgrammed_changes (fseq : Nat) (ok : Bool) (s : State) :
    ∃ t, execDownloadPieceProgrammed fseq ok s = .next t ∧ Changes [.evr, .cmq, .land, .media, .ports, .bst, .boot, .out, .free] s t := by
  have h0 := Changes.refl [.evr, .cmq, .land, .media, .ports, .bst, .boot, .out, .free] s
  refine ⟨_, rfl, ?_⟩
  repeat' (first | with_reducible assumption | ((with_reducible apply Changes.step (State.pieceDone_changes ..)) <;> [rfl; skip]) | ((with_reducible apply State.whenLive_changes) <;> [(intro _ _); skip]) | ((with_reducible apply Changes.foldl) <;> [(intro _ _ _); skip]) | split)

theorem execCommitReplace_changes (fseq : Nat) (slot : Nat) (s : State) :
    ∃ t, execCommitReplace fseq slot s = .next t ∧ Changes [.evr, .cmq, .land, .media, .ports, .bst, .boot, .out] s t := by
  have h0 := Changes.refl [.evr, .cmq, .land, .media, .ports, .bst, .boot, .out] s
  refine ⟨_, rfl, ?_⟩
  repeat' (first | with_reducible assumption | ((with_reducible apply Changes.step (State.commitFw_changes ..)) <;> [rfl; skip]) | ((with_reducible apply State.onAdmin_changes) <;> [(intro _ _ _); skip]) | ((with_reducible apply Changes.foldl) <;> [(intro _ _ _); skip]) | split)

theorem execCommitActivateAtReset_changes (fseq : Nat) (slot : Nat) (s : State) :
    ∃ t, execCommitActivateAtReset fseq slot s = .next t ∧ Changes [.evr, .cmq, .land, .media, .ports, .bst, .boot, .out] s t := by
  have h0 := Changes.refl [.evr, .cmq, .land, .media, .ports, .bst, .boot, .out] s
  refine ⟨_, rfl, ?_⟩
  repeat' (first | with_reducible assumption | ((with_reducible apply Changes.step (State.commitFw_changes ..)) <;> [rfl; skip]) | ((with_reducible apply State.onAdmin_changes) <;> [(intro _ _ _); skip]) | ((with_reducible apply Changes.foldl) <;> [(intro _ _ _); skip]) | split)

theorem execCommitSetActive_changes (fseq : Nat) (slot : Nat) (s : State) :
    ∃ t, execCommitSetActive fseq slot s = .next t ∧ Changes [.evr, .cmq, .land, .media, .ports, .bst, .boot, .out] s t := by
  have h0 := Changes.refl [.evr, .cmq, .land, .media, .ports, .bst, .boot, .out] s
  refine ⟨_, rfl, ?_⟩
  repeat' (first | with_reducible assumption | ((with_reducible apply Changes.step (State.commitFw_changes ..)) <;> [rfl; skip]) | ((with_reducible apply State.onAdmin_changes) <;> [(intro _ _ _); skip]) | ((with_reducible apply Changes.foldl) <;> [(intro _ _ _); skip]) | split)

theorem execCommitActivateNow_changes (fseq : Nat) (slot : Nat) (s : State) :
    ∃ t, execCommitActivateNow fseq slot s = .next t ∧ Changes [.evr, .cmq, .land, .media, .ports, .bst, .boot, .out] s t := by
  have h0 := Changes.refl [.evr, .cmq, .land, .media, .ports, .bst, .boot, .out] s
  refine ⟨_, rfl, ?_⟩
  repeat' (first | with_reducible assumption | ((with_reducible apply Changes.step (State.commitFw_changes ..)) <;> [rfl; skip]) | ((with_reducible apply State.onAdmin_changes) <;> [(intro _ _ _); skip]) | ((with_reducible apply Changes.foldl) <;> [(intro _ _ _); skip]) | split)

theorem execImageAreaWritten_changes (digestOk : Bool) (s : State) :
    ∃ t, execImageAreaWritten digestOk s = .next t ∧ Changes [.evr, .cmq, .land, .media, .ports, .bst, .boot, .out] s t := by
  have h0 := Changes.refl [.evr, .cmq, .land, .media, .ports, .bst, .boot, .out] s
  refine ⟨_, rfl, ?_⟩
  repeat' (first | with_reducible assumption | ((with_reducible apply Changes.step (State.imageWritten_changes ..)) <;> [rfl; skip]) | ((with_reducible apply State.whenLive_changes) <;> [(intro _ _); skip]) | ((with_reducible apply Changes.foldl) <;> [(intro _ _ _); skip]) | split)

theorem execFerryPauseBegin_changes (s : State) :
    ∃ t, execFerryPauseBegin s = .next t ∧ Changes [.evr, .cmq, .land, .media, .ports, .bst, .boot, .out] s t := by
  have h0 := Changes.refl [.evr, .cmq, .land, .media, .ports, .bst, .boot, .out] s
  refine ⟨_, rfl, ?_⟩
  repeat' (first | with_reducible assumption | ((with_reducible apply Changes.step (State.ferryPause_changes ..)) <;> [rfl; skip]) | ((with_reducible apply State.whenLive_changes) <;> [(intro _ _); skip]) | ((with_reducible apply Changes.foldl) <;> [(intro _ _ _); skip]) | split)

theorem execFerryDrained_changes (s : State) :
    ∃ t, execFerryDrained s = .next t ∧ Changes [.boot] s t := by
  have h0 := Changes.refl [.boot] s
  refine ⟨_, rfl, ?_⟩
  repeat' (first | with_reducible assumption | ((with_reducible apply Changes.step (State.ferryCross_changes ..)) <;> [rfl; skip]) | ((with_reducible apply State.whenLive_changes) <;> [(intro _ _); skip]) | ((with_reducible apply Changes.foldl) <;> [(intro _ _ _); skip]) | split)

theorem execFerryLanding_changes (pauseUs : Nat) (s : State) :
    ∃ t, execFerryLanding pauseUs s = .next t ∧ Changes [.evr, .cmq, .land, .media, .plp, .ports, .dram, .sdm, .bst, .boot, .pws, .dict, .out, .free] s t := by
  have h0 := Changes.refl [.evr, .cmq, .land, .media, .plp, .ports, .dram, .sdm, .bst, .boot, .pws, .dict, .out, .free] s
  refine ⟨_, rfl, ?_⟩
  repeat' (first | with_reducible assumption | ((with_reducible apply Changes.step (State.ferryLand_changes ..)) <;> [rfl; skip]) | ((with_reducible apply State.whenLive_changes) <;> [(intro _ _); skip]) | ((with_reducible apply Changes.foldl) <;> [(intro _ _ _); skip]) | split)

theorem execFerryDeadline_changes (s : State) :
    ∃ t, execFerryDeadline s = .next t ∧ Changes [.evr, .cmq, .land, .media, .plp, .ports, .dram, .sdm, .bst, .boot, .pws, .dict, .out, .free] s t := by
  have h0 := Changes.refl [.evr, .cmq, .land, .media, .plp, .ports, .dram, .sdm, .bst, .boot, .pws, .dict, .out, .free] s
  refine ⟨_, rfl, ?_⟩
  repeat' (first | with_reducible assumption | ((with_reducible apply Changes.step (State.ferryLate_changes ..)) <;> [rfl; skip]) | ((with_reducible apply State.whenLive_changes) <;> [(intro _ _); skip]) | ((with_reducible apply Changes.foldl) <;> [(intro _ _ _); skip]) | split)

theorem execTrialArm_changes (s : State) :
    ∃ t, execTrialArm s = .next t ∧ Changes [.boot] s t := by
  have h0 := Changes.refl [.boot] s
  refine ⟨_, rfl, ?_⟩
  repeat' (first | with_reducible assumption | ((with_reducible apply Changes.step (State.setBoot_changes ..)) <;> [rfl; skip]) | ((with_reducible apply State.whenLive_changes) <;> [(intro _ _); skip]) | ((with_reducible apply Changes.foldl) <;> [(intro _ _ _); skip]) | split)

theorem execTrialToken_changes (value : BitVec 32) (s : State) :
    ∃ t, execTrialToken value s = .next t ∧ Changes [.boot] s t := by
  have h0 := Changes.refl [.boot] s
  refine ⟨_, rfl, ?_⟩
  repeat' (first | with_reducible assumption | ((with_reducible apply Changes.step (State.trialToken_changes ..)) <;> [rfl; skip]) | ((with_reducible apply State.whenLive_changes) <;> [(intro _ _); skip]) | ((with_reducible apply Changes.foldl) <;> [(intro _ _ _); skip]) | split)

theorem execHealthToken_changes (ini : Initiator) (value : BitVec 32) (s : State) :
    ∃ t, execHealthToken ini value s = .next t ∧ Changes [.evr, .cmq, .land, .media, .plp, .ports, .dram, .sdm, .bst, .boot, .pws, .dict, .out, .free] s t := by
  have h0 := Changes.refl [.evr, .cmq, .land, .media, .plp, .ports, .dram, .sdm, .bst, .boot, .pws, .dict, .out, .free] s
  refine ⟨_, rfl, ?_⟩
  try dsimp only
  repeat' (first | with_reducible assumption | ((with_reducible apply Changes.step (State.acceptHealth_changes ..)) <;> [rfl; skip]) | ((with_reducible apply Changes.step (State.busRequest_changes ..)) <;> [rfl; skip]) | ((with_reducible apply Changes.step (State.emit_changes ..)) <;> [rfl; skip]) | ((with_reducible apply Changes.step (State.mailbox_changes ..)) <;> [rfl; skip]) | ((with_reducible apply State.whenLive_changes) <;> [(intro _ _); skip]) | ((with_reducible apply Changes.foldl) <;> [(intro _ _ _); skip]) | split)

theorem execRollbackCopyComplete_changes (s : State) :
    ∃ t, execRollbackCopyComplete s = .next t ∧ Changes [.evr, .bst, .boot] s t := by
  have h0 := Changes.refl [.evr, .bst, .boot] s
  refine ⟨_, rfl, ?_⟩
  repeat' (first | with_reducible assumption | ((with_reducible apply Changes.step (State.copyComplete_changes ..)) <;> [rfl; skip]) | ((with_reducible apply State.whenLive_changes) <;> [(intro _ _); skip]) | ((with_reducible apply Changes.foldl) <;> [(intro _ _ _); skip]) | split)

theorem execApstIdleExpire_changes (p : Fin 2) (s : State) :
    ∃ t, execApstIdleExpire p s = .next t ∧ Changes [.evr, .cmq, .land, .media, .plp, .ports, .pws, .out] s t := by
  have h0 := Changes.refl [.evr, .cmq, .land, .media, .plp, .ports, .pws, .out] s
  refine ⟨_, rfl, ?_⟩
  repeat' (first | with_reducible assumption | ((with_reducible apply Changes.step (State.apstIdle_changes ..)) <;> [rfl; skip]) | ((with_reducible apply Changes.foldl) <;> [(intro _ _ _); skip]) | split)

theorem execPsPreparationDone_changes (systemFail : Bool) (s : State) :
    ∃ t, execPsPreparationDone systemFail s = .next t ∧ Changes [.evr, .cmq, .land, .media, .ports, .dram, .pws, .out] s t := by
  have h0 := Changes.refl [.evr, .cmq, .land, .media, .ports, .dram, .pws, .out] s
  refine ⟨_, rfl, ?_⟩
  repeat' (first | with_reducible assumption | ((with_reducible apply Changes.step (State.prepDone_changes ..)) <;> [rfl; skip]) | ((with_reducible apply State.whenLive_changes) <;> [(intro _ _); skip]) | ((with_reducible apply Changes.foldl) <;> [(intro _ _ _); skip]) | split)

theorem execDomainAnswer_changes (d : Fin 4) (a : Answer) (s : State) :
    ∃ t, execDomainAnswer d a s = .next t ∧ Changes [.phase, .evr, .clocks, .cmq, .land, .media, .plp, .ports, .dram, .vault, .sec, .pws, .out] s t := by
  have h0 := Changes.refl [.phase, .evr, .clocks, .cmq, .land, .media, .plp, .ports, .dram, .vault, .sec, .pws, .out] s
  refine ⟨_, rfl, ?_⟩
  repeat' (first | with_reducible assumption | ((with_reducible apply Changes.step (State.domainAnswers_changes ..)) <;> [rfl; skip]) | ((with_reducible apply State.whenLive_changes) <;> [(intro _ _); skip]) | ((with_reducible apply Changes.foldl) <;> [(intro _ _ _); skip]) | split)

theorem execDomainDelayExpire_changes (d : Fin 4) (s : State) :
    ∃ t, execDomainDelayExpire d s = .next t ∧ Changes [.evr, .cmq, .land, .media, .ports, .dram, .pws, .out] s t := by
  have h0 := Changes.refl [.evr, .cmq, .land, .media, .ports, .dram, .pws, .out] s
  refine ⟨_, rfl, ?_⟩
  repeat' (first | with_reducible assumption | ((with_reducible apply Changes.step (State.delayExpires_changes ..)) <;> [rfl; skip]) | ((with_reducible apply State.whenLive_changes) <;> [(intro _ _); skip]) | ((with_reducible apply Changes.foldl) <;> [(intro _ _ _); skip]) | split)

theorem execSupplyPowerGood_changes (sup : Supply) (s : State) :
    ∃ t, execSupplyPowerGood sup s = .next t ∧ Changes [.phase, .tb, .pws, .out] s t := by
  have h0 := Changes.refl [.phase, .tb, .pws, .out] s
  refine ⟨_, rfl, ?_⟩
  repeat' (first | with_reducible assumption | ((with_reducible apply Changes.step (State.powerGood_changes ..)) <;> [rfl; skip]) | ((with_reducible apply Changes.foldl) <;> [(intro _ _ _); skip]) | split)

theorem execSupplyPgTimeout_changes (sup : Supply) (s : State) :
    ∃ t, execSupplyPgTimeout sup s = .next t ∧ Changes [.phase, .tb, .evr, .ports, .pws, .out] s t := by
  have h0 := Changes.refl [.phase, .tb, .evr, .ports, .pws, .out] s
  refine ⟨_, rfl, ?_⟩
  repeat' (first | with_reducible assumption | ((with_reducible apply Changes.step (State.pgTimeout_changes ..)) <;> [rfl; skip]) | ((with_reducible apply Changes.foldl) <;> [(intro _ _ _); skip]) | split)

theorem execXoReadyTimeout_changes (s : State) :
    ∃ t, execXoReadyTimeout s = .next t ∧ Changes [.tb, .evr, .pws] s t := by
  have h0 := Changes.refl [.tb, .evr, .pws] s
  refine ⟨_, rfl, ?_⟩
  try dsimp only
  repeat' (first | with_reducible assumption | ((conv => (arg 3; arg 24; skip)); ((with_reducible apply Changes.tb_with) <;> [rfl; skip])) | ((with_reducible apply Changes.step (State.setPws_changes ..)) <;> [rfl; skip]) | ((with_reducible apply Changes.step (State.tbFallback_changes ..)) <;> [rfl; skip]) | ((with_reducible apply Changes.foldl) <;> [(intro _ _ _); skip]) | split)

theorem execCrystalReady_changes (s : State) :
    ∃ t, execCrystalReady s = .next t ∧ Changes [.tb, .pws] s t := by
  have h0 := Changes.refl [.tb, .pws] s
  refine ⟨_, rfl, ?_⟩
  repeat' (first | with_reducible assumption | ((with_reducible apply Changes.step (State.crystalReady_changes ..)) <;> [rfl; skip]) | ((with_reducible apply Changes.foldl) <;> [(intro _ _ _); skip]) | split)

theorem execThermalSensorRead_changes (temps : List Int) (s : State) :
    ∃ t, execThermalSensorRead temps s = .next t ∧ Changes [.evr, .cmq, .land, .media, .ports, .dram, .sdm, .vault, .sec, .bst, .boot, .pws, .out, .free] s t := by
  have h0 := Changes.refl [.evr, .cmq, .land, .media, .ports, .dram, .sdm, .vault, .sec, .bst, .boot, .pws, .out, .free] s
  refine ⟨_, rfl, ?_⟩
  repeat' (first | with_reducible assumption | ((with_reducible apply Changes.step (State.sensorsRead_changes ..)) <;> [rfl; skip]) | ((with_reducible apply Changes.foldl) <;> [(intro _ _ _); skip]) | split)

theorem execThermalShutdown_changes (s : State) :
    ∃ t, execThermalShutdown s = .next t ∧ Changes [.phase, .evr, .cmq, .land, .media, .ports, .sdm, .pws, .out] s t := by
  have h0 := Changes.refl [.phase, .evr, .cmq, .land, .media, .ports, .sdm, .pws, .out] s
  refine ⟨_, rfl, ?_⟩
  repeat' (first | with_reducible assumption | ((with_reducible apply Changes.step (State.thermalShut_changes ..)) <;> [rfl; skip]) | ((with_reducible apply Changes.foldl) <;> [(intro _ _ _); skip]) | split)

theorem execThermalRestart_changes (s : State) :
    ∃ t, execThermalRestart s = .next t ∧ Changes [.phase, .tb, .pace, .avs, .evr, .clocks, .cmq, .land, .media, .plp, .ports, .dram, .sdm, .vault, .sec, .bst, .boot, .pws, .dict, .board, .out, .free] s t := by
  have h0 := Changes.refl [.phase, .tb, .pace, .avs, .evr, .clocks, .cmq, .land, .media, .plp, .ports, .dram, .sdm, .vault, .sec, .bst, .boot, .pws, .dict, .board, .out, .free] s
  refine ⟨_, rfl, ?_⟩
  repeat' (first | with_reducible assumption | ((with_reducible apply Changes.step (State.coldFromOff_changes ..)) <;> [rfl; skip]) | ((with_reducible apply Changes.step (State.runEnds_changes ..)) <;> [rfl; skip]) | ((with_reducible apply Changes.foldl) <;> [(intro _ _ _); skip]) | split)

theorem execUnitPowerGate_changes (sl : Fin 8) (unit : Nat) (s : State) :
    ∃ t, execUnitPowerGate sl unit s = .next t ∧ Changes [.pws] s t := by
  have h0 := Changes.refl [.pws] s
  refine ⟨_, rfl, ?_⟩
  try dsimp only
  repeat' (first | with_reducible assumption | ((with_reducible apply Changes.step (State.setPws_changes ..)) <;> [rfl; skip]) | ((with_reducible apply State.whenLive_changes) <;> [(intro _ _); skip]) | ((with_reducible apply Changes.foldl) <;> [(intro _ _ _); skip]) | split)

theorem execCcEnable_changes (p : Fin 2) (wrr : Bool) (asqs : Nat) (acqs : Nat) (s : State) :
    ∃ t, execCcEnable p wrr asqs acqs s = .next t ∧ Changes [.cmq] s t := by
  have h0 := Changes.refl [.cmq] s
  refine ⟨_, rfl, ?_⟩
  repeat' (first | with_reducible assumption | ((with_reducible apply Changes.step (State.ccEnable_changes ..)) <;> [rfl; skip]) | ((with_reducible apply Changes.foldl) <;> [(intro _ _ _); skip]) | split)

theorem execCcDisable_changes (p : Fin 2) (s : State) :
    ∃ t, execCcDisable p s = .next t ∧ Changes [.phase, .tb, .pace, .avs, .evr, .clocks, .cmq, .land, .media, .plp, .ports, .dram, .sdm, .vault, .sec, .bst, .boot, .pws, .dict, .board, .out, .free] s t := by
  have h0 := Changes.refl [.phase, .tb, .pace, .avs, .evr, .clocks, .cmq, .land, .media, .plp, .ports, .dram, .sdm, .vault, .sec, .bst, .boot, .pws, .dict, .board, .out, .free] s
  refine ⟨_, rfl, ?_⟩
  repeat' (first | with_reducible assumption | ((with_reducible apply Changes.step (State.controllerReset_changes ..)) <;> [rfl; skip]) | ((with_reducible apply Changes.foldl) <;> [(intro _ _ _); skip]) | split)

theorem execFunctionLevelReset_changes (p : Fin 2) (s : State) :
    ∃ t, execFunctionLevelReset p s = .next t ∧ Changes [.phase, .tb, .pace, .avs, .evr, .clocks, .cmq, .land, .media, .plp, .ports, .dram, .sdm, .vault, .sec, .bst, .boot, .pws, .dict, .board, .out, .free] s t := by
  have h0 := Changes.refl [.phase, .tb, .pace, .avs, .evr, .clocks, .cmq, .land, .media, .plp, .ports, .dram, .sdm, .vault, .sec, .bst, .boot, .pws, .dict, .board, .out, .free] s
  refine ⟨_, rfl, ?_⟩
  repeat' (first | with_reducible assumption | ((with_reducible apply Changes.step (State.clearConfig_changes ..)) <;> [rfl; skip]) | ((with_reducible apply Changes.step (State.controllerReset_changes ..)) <;> [rfl; skip]) | ((with_reducible apply Changes.foldl) <;> [(intro _ _ _); skip]) | split)

theorem execHotReset_changes (p : Fin 2) (s : State) :
    ∃ t, execHotReset p s = .next t ∧ Changes [.phase, .tb, .pace, .avs, .evr, .clocks, .cmq, .land, .media, .plp, .ports, .dram, .sdm, .vault, .sec, .bst, .boot, .pws, .dict, .board, .out, .free] s t := by
  have h0 := Changes.refl [.phase, .tb, .pace, .avs, .evr, .clocks, .cmq, .land, .media, .plp, .ports, .dram, .sdm, .vault, .sec, .bst, .boot, .pws, .dict, .board, .out, .free] s
  refine ⟨_, rfl, ?_⟩
  repeat' (first | with_reducible assumption | ((with_reducible apply Changes.step (State.linkReset_changes ..)) <;> [rfl; skip]) | ((with_reducible apply Changes.foldl) <;> [(intro _ _ _); skip]) | split)

theorem execLinkDown_changes (p : Fin 2) (s : State) :
    ∃ t, execLinkDown p s = .next t ∧ Changes [.phase, .tb, .pace, .avs, .evr, .clocks, .cmq, .land, .media, .plp, .ports, .dram, .sdm, .vault, .sec, .bst, .boot, .pws, .dict, .board, .out, .free] s t := by
  have h0 := Changes.refl [.phase, .tb, .pace, .avs, .evr, .clocks, .cmq, .land, .media, .plp, .ports, .dram, .sdm, .vault, .sec, .bst, .boot, .pws, .dict, .board, .out, .free] s
  refine ⟨_, rfl, ?_⟩
  repeat' (first | with_reducible assumption | ((with_reducible apply Changes.step (State.linkReset_changes ..)) <;> [rfl; skip]) | ((with_reducible apply Changes.step (State.log_changes ..)) <;> [rfl; skip]) | ((with_reducible apply Changes.foldl) <;> [(intro _ _ _); skip]) | split)

theorem execNvmSubsystemReset_changes (s : State) :
    ∃ t, execNvmSubsystemReset s = .next t ∧ Changes [.phase, .tb, .pace, .avs, .evr, .clocks, .cmq, .land, .media, .plp, .ports, .dram, .sdm, .vault, .sec, .bst, .boot, .pws, .dict, .board, .out, .free] s t := by
  have h0 := Changes.refl [.phase, .tb, .pace, .avs, .evr, .clocks, .cmq, .land, .media, .plp, .ports, .dram, .sdm, .vault, .sec, .bst, .boot, .pws, .dict, .board, .out, .free] s
  refine ⟨_, rfl, ?_⟩
  repeat' (first | with_reducible assumption | ((with_reducible apply Changes.step (State.controllerReset_changes ..)) <;> [rfl; skip]) | ((with_reducible apply Changes.foldl) <;> [(intro _ _ _); skip]) | split)

theorem execPerstAssert_changes (p : Fin 2) (s : State) :
    ∃ t, execPerstAssert p s = .next t ∧ Changes [.phase, .tb, .pace, .avs, .evr, .clocks, .cmq, .land, .media, .plp, .ports, .dram, .sdm, .vault, .sec, .bst, .boot, .pws, .dict, .board, .out, .free] s t := by
  have h0 := Changes.refl [.phase, .tb, .pace, .avs, .evr, .clocks, .cmq, .land, .media, .plp, .ports, .dram, .sdm, .vault, .sec, .bst, .boot, .pws, .dict, .board, .out, .free] s
  refine ⟨_, rfl, ?_⟩
  repeat' (first | with_reducible assumption | ((with_reducible apply Changes.step (State.linkReset_changes ..)) <;> [rfl; skip]) | ((with_reducible apply Changes.step (State.setPort_changes ..)) <;> [rfl; skip]) | ((with_reducible apply Changes.foldl) <;> [(intro _ _ _); skip]) | split)

theorem execPerstDeassert_changes (p : Fin 2) (s : State) :
    ∃ t, execPerstDeassert p s = .next t ∧ Changes [.phase, .tb, .ports, .pws, .out] s t := by
  have h0 := Changes.refl [.phase, .tb, .ports, .pws, .out] s
  refine ⟨_, rfl, ?_⟩
  repeat' (first | with_reducible assumption | ((with_reducible apply Changes.step (State.perstOff_changes ..)) <;> [rfl; skip]) | ((with_reducible apply Changes.foldl) <;> [(intro _ _ _); skip]) | split)

theorem execNormalShutdown_changes (p : Fin 2) (s : State) :
    ∃ t, execNormalShutdown p s = .next t ∧ Changes [.evr, .cmq, .land, .media, .boot, .out] s t := by
  have h0 := Changes.refl [.evr, .cmq, .land, .media, .boot, .out] s
  refine ⟨_, rfl, ?_⟩
  repeat' (first | with_reducible assumption | ((with_reducible apply Changes.step (State.shutdownNormal_changes ..)) <;> [rfl; skip]) | ((with_reducible apply State.whenLive_changes) <;> [(intro _ _); skip]) | ((with_reducible apply Changes.foldl) <;> [(intro _ _ _); skip]) | split)

theorem execAbruptShutdown_changes (p : Fin 2) (s : State) :
    ∃ t, execAbruptShutdown p s = .next t ∧ Changes [.cmq, .land, .media, .boot, .out] s t := by
  have h0 := Changes.refl [.cmq, .land, .media, .boot, .out] s
  refine ⟨_, rfl, ?_⟩
  repeat' (first | with_reducible assumption | ((with_reducible apply Changes.step (State.shutdownAbrupt_changes ..)) <;> [rfl; skip]) | ((with_reducible apply State.whenLive_changes) <;> [(intro _ _); skip]) | ((with_reducible apply Changes.foldl) <;> [(intro _ _ _); skip]) | split)

theorem execResume_changes (p : Fin 2) (s : State) :
    ∃ t, execResume p s = .next t ∧ Changes [.evr, .cmq, .land, .media, .ports, .out, .free] s t := by
  have h0 := Changes.refl [.evr, .cmq, .land, .media, .ports, .out, .free] s
  refine ⟨_, rfl, ?_⟩
  repeat' (first | with_reducible assumption | ((with_reducible apply Changes.step (State.resume_changes ..)) <;> [rfl; skip]) | ((with_reducible apply State.whenLive_changes) <;> [(intro _ _); skip]) | ((with_reducible apply Changes.foldl) <;> [(intro _ _ _); skip]) | split)

theorem execConfigRequest_changes (p : Fin 2) (offset : Nat) (wr : Option (BitVec 32)) (s : State) :
    ∃ t, execConfigRequest p offset wr s = .next t ∧ Changes [.evr, .cmq, .land, .media, .ports, .sdm, .bst, .boot, .out, .free] s t := by
  have h0 := Changes.refl [.evr, .cmq, .land, .media, .ports, .sdm, .bst, .boot, .out, .free] s
  refine ⟨_, rfl, ?_⟩
  repeat' (first | with_reducible assumption | ((with_reducible apply Changes.step (State.configRequest_changes ..)) <;> [rfl; skip]) | ((with_reducible apply Changes.foldl) <;> [(intro _ _ _); skip]) | split)

theorem execAuxPowerOn_changes (s : State) :
    ∃ t, execAuxPowerOn s = .next t ∧ Changes [.phase, .tb, .pace, .avs, .evr, .clocks, .cmq, .land, .media, .plp, .ports, .dram, .sdm, .vault, .sec, .bst, .boot, .pws, .dict, .board, .free] s t := by
  have h0 := Changes.refl [.phase, .tb, .pace, .avs, .evr, .clocks, .cmq, .land, .media, .plp, .ports, .dram, .sdm, .vault, .sec, .bst, .boot, .pws, .dict, .board, .free] s
  refine ⟨_, rfl, ?_⟩
  repeat' (first | with_reducible assumption | ((with_reducible apply Changes.step (State.leftBehind_changes ..)) <;> [rfl; skip]) | ((with_reducible apply Changes.step (State.restart_changes ..)) <;> [rfl; skip]) | ((with_reducible apply Changes.foldl) <;> [(intro _ _ _); skip]) | split)

theorem execAuxRelease_changes (peDual : Bool) (mbSel : Bool) (testScan : Bool) (s : State) :
    ∃ t, execAuxRelease peDual mbSel testScan s = .next t ∧ Changes [.phase, .pws, .board, .out] s t := by
  have h0 := Changes.refl [.phase, .pws, .board, .out] s
  refine ⟨_, rfl, ?_⟩
  repeat' (first | with_reducible assumption | ((with_reducible apply Changes.step (State.auxRelease_changes ..)) <;> [rfl; skip]) | ((with_reducible apply Changes.foldl) <;> [(intro _ _ _); skip]) | split)

theorem execColdStart_changes (calibOk : Bool) (loaderOk : Bool) (pfailLow : Bool) (s : State) :
    ∃ t, execColdStart calibOk loaderOk pfailLow s = .next t ∧ Changes [.phase, .units, .evr, .clocks, .media, .plp, .sec, .bst, .free] s t := by
  have h0 := Changes.refl [.phase, .units, .evr, .clocks, .media, .plp, .sec, .bst, .free] s
  refine ⟨_, rfl, ?_⟩
  repeat' (first | with_reducible assumption | ((with_reducible apply Changes.step (State.rom_changes ..)) <;> [rfl; skip]) | ((with_reducible apply Changes.foldl) <;> [(intro _ _ _); skip]) | split)

theorem execSlipwayStart_changes (recoveryOk : Bool) (s : State) :
    ∃ t, execSlipwayStart recoveryOk s = .next t ∧ Changes [.phase, .evr, .bst, .boot] s t := by
  have h0 := Changes.refl [.phase, .evr, .bst, .boot] s
  refine ⟨_, rfl, ?_⟩
  repeat' (first | with_reducible assumption | ((with_reducible apply Changes.step (State.slipway_changes ..)) <;> [rfl; skip]) | ((with_reducible apply Changes.foldl) <;> [(intro _ _ _); skip]) | split)

theorem execFirmwareStart_changes (s : State) :
    ∃ t, execFirmwareStart s = .next t ∧ Changes [.phase, .evr, .cmq, .land, .media, .plp, .ports, .dram, .sdm, .bst, .boot, .pws, .dict, .out, .free] s t := by
  have h0 := Changes.refl [.phase, .evr, .cmq, .land, .media, .plp, .ports, .dram, .sdm, .bst, .boot, .pws, .dict, .out, .free] s
  refine ⟨_, rfl, ?_⟩
  repeat' (first | with_reducible assumption | ((with_reducible apply Changes.step (State.firmware_changes ..)) <;> [rfl; skip]) | ((with_reducible apply Changes.foldl) <;> [(intro _ _ _); skip]) | split)

theorem execRecoveryComplete_changes (ms : Nat) (broken : Option Nat) (s : State) :
    ∃ t, execRecoveryComplete ms broken s = .next t ∧ Changes [.phase, .evr, .cmq, .land, .media, .plp, .ports, .boot, .pws, .out, .free] s t := by
  have h0 := Changes.refl [.phase, .evr, .cmq, .land, .media, .plp, .ports, .boot, .pws, .out, .free] s
  refine ⟨_, rfl, ?_⟩
  repeat' (first | with_reducible assumption | ((with_reducible apply Changes.step (State.recoveryEnds_changes ..)) <;> [rfl; skip]) | ((with_reducible apply Changes.foldl) <;> [(intro _ _ _); skip]) | split)

theorem execFlushMark_changes (us : Nat) (s : State) :
    ∃ t, execFlushMark us s = .next t ∧ Changes [.phase, .tb, .pace, .avs, .evr, .clocks, .cmq, .land, .media, .plp, .ports, .dram, .sdm, .vault, .sec, .bst, .boot, .pws, .dict, .board, .out, .free] s t := by
  have h0 := Changes.refl [.phase, .tb, .pace, .avs, .evr, .clocks, .cmq, .land, .media, .plp, .ports, .dram, .sdm, .vault, .sec, .bst, .boot, .pws, .dict, .board, .out, .free] s
  refine ⟨_, rfl, ?_⟩
  repeat' (first | with_reducible assumption | ((with_reducible apply Changes.step (State.flushEnds_changes ..)) <;> [rfl; skip]) | ((with_reducible apply Changes.foldl) <;> [(intro _ _ _); skip]) | split)

theorem execHostPowerReturn_changes (s : State) :
    ∃ t, execHostPowerReturn s = .next t ∧ Changes [.phase, .tb, .pace, .avs, .evr, .clocks, .cmq, .land, .media, .plp, .ports, .dram, .sdm, .vault, .sec, .bst, .boot, .pws, .dict, .board, .out, .free] s t := by
  have h0 := Changes.refl [.phase, .tb, .pace, .avs, .evr, .clocks, .cmq, .land, .media, .plp, .ports, .dram, .sdm, .vault, .sec, .bst, .boot, .pws, .dict, .board, .out, .free] s
  refine ⟨_, rfl, ?_⟩
  repeat' (first | with_reducible assumption | ((with_reducible apply Changes.step (State.coldFromOff_changes ..)) <;> [rfl; skip]) | ((with_reducible apply Changes.step (State.runEnds_changes ..)) <;> [rfl; skip]) | ((with_reducible apply Changes.foldl) <;> [(intro _ _ _); skip]) | split)

theorem execTrialTimerExpire_changes (s : State) :
    ∃ t, execTrialTimerExpire s = .next t ∧ Changes [.phase, .tb, .pace, .avs, .evr, .clocks, .cmq, .land, .media, .plp, .ports, .dram, .sdm, .vault, .sec, .bst, .boot, .pws, .dict, .board, .out, .free] s t := by
  have h0 := Changes.refl [.phase, .tb, .pace, .avs, .evr, .clocks, .cmq, .land, .media, .plp, .ports, .dram, .sdm, .vault, .sec, .bst, .boot, .pws, .dict, .board, .out, .free] s
  refine ⟨_, rfl, ?_⟩
  repeat' (first | with_reducible assumption | ((with_reducible apply Changes.step (State.trialExpires_changes ..)) <;> [rfl; skip]) | ((with_reducible apply Changes.foldl) <;> [(intro _ _ _); skip]) | split)

theorem execTrialFlushDeadline_changes (s : State) :
    ∃ t, execTrialFlushDeadline s = .next t ∧ Changes [.phase, .tb, .pace, .avs, .evr, .clocks, .cmq, .land, .media, .plp, .ports, .dram, .sdm, .vault, .sec, .bst, .boot, .pws, .dict, .board, .free] s t := by
  have h0 := Changes.refl [.phase, .tb, .pace, .avs, .evr, .clocks, .cmq, .land, .media, .plp, .ports, .dram, .sdm, .vault, .sec, .bst, .boot, .pws, .dict, .board, .free] s
  refine ⟨_, rfl, ?_⟩
  repeat' (first | with_reducible assumption | ((with_reducible apply Changes.step (State.expiryStart_changes ..)) <;> [rfl; skip]) | ((with_reducible apply Changes.foldl) <;> [(intro _ _ _); skip]) | split)

theorem execWatchdogReset_changes (s : State) :
    ∃ t, execWatchdogReset s = .next t ∧ Changes [.phase, .tb, .pace, .avs, .evr, .clocks, .cmq, .land, .media, .plp, .ports, .dram, .sdm, .vault, .sec, .bst, .boot, .pws, .dict, .board, .out, .free] s t := by
  have h0 := Changes.refl [.phase, .tb, .pace, .avs, .evr, .clocks, .cmq, .land, .media, .plp, .ports, .dram, .sdm, .vault, .sec, .bst, .boot, .pws, .dict, .board, .out, .free] s
  refine ⟨_, rfl, ?_⟩
  repeat' (first | with_reducible assumption | ((with_reducible apply Changes.step (State.watchdogReset_changes ..)) <;> [rfl; skip]) | ((with_reducible apply Changes.foldl) <;> [(intro _ _ _); skip]) | split)

theorem execDeepRestWake_changes (s : State) :
    ∃ t, execDeepRestWake s = .next t ∧ Changes [.phase, .tb, .pace, .avs, .evr, .clocks, .cmq, .land, .media, .plp, .ports, .dram, .sdm, .vault, .sec, .bst, .boot, .pws, .dict, .board, .out, .free] s t := by
  have h0 := Changes.refl [.phase, .tb, .pace, .avs, .evr, .clocks, .cmq, .land, .media, .plp, .ports, .dram, .sdm, .vault, .sec, .bst, .boot, .pws, .dict, .board, .out, .free] s
  refine ⟨_, rfl, ?_⟩
  repeat' (first | with_reducible assumption | ((with_reducible apply Changes.step (State.wakeUp_changes ..)) <;> [rfl; skip]) | ((with_reducible apply Changes.foldl) <;> [(intro _ _ _); skip]) | split)

theorem execLedCheck_changes (led : Fin 3) (highWhileSinking : Bool) (lowWhileReleased : Bool) (lowCurrent : Bool) (s : State) :
    ∃ t, execLedCheck led highWhileSinking lowWhileReleased lowCurrent s = .next t ∧ Changes [.evr, .board, .out] s t := by
  have h0 := Changes.refl [.evr, .board, .out] s
  refine ⟨_, rfl, ?_⟩
  repeat' (first | with_reducible assumption | ((with_reducible apply Changes.step (State.ledCheck_changes ..)) <;> [rfl; skip]) | ((with_reducible apply State.whenAux_changes) <;> [(intro _ _); skip]) | ((with_reducible apply Changes.foldl) <;> [(intro _ _ _); skip]) | split)

theorem execFpBtnPress_changes (ms : Nat) (s : State) :
    ∃ t, execFpBtnPress ms s = .next t ∧ Changes [.evr, .board, .out] s t := by
  have h0 := Changes.refl [.evr, .board, .out] s
  refine ⟨_, rfl, ?_⟩
  repeat' (first | with_reducible assumption | ((with_reducible apply Changes.step (State.btnPress_changes ..)) <;> [rfl; skip]) | ((with_reducible apply State.whenAux_changes) <;> [(intro _ _); skip]) | ((with_reducible apply Changes.foldl) <;> [(intro _ _ _); skip]) | split)

theorem execButtonStuck_changes (s : State) :
    ∃ t, execButtonStuck s = .next t ∧ Changes [.evr, .board] s t := by
  have h0 := Changes.refl [.evr, .board] s
  refine ⟨_, rfl, ?_⟩
  repeat' (first | with_reducible assumption | ((with_reducible apply Changes.step (State.log_changes ..)) <;> [rfl; skip]) | ((with_reducible apply Changes.step (State.setBoard_changes ..)) <;> [rfl; skip]) | ((with_reducible apply State.whenAux_changes) <;> [(intro _ _); skip]) | ((with_reducible apply Changes.foldl) <;> [(intro _ _ _); skip]) | split)

theorem execMbLineHeldLow_changes (sda : Bool) (s : State) :
    ∃ t, execMbLineHeldLow sda s = .next t ∧ Changes [.evr, .board, .out] s t := by
  have h0 := Changes.refl [.evr, .board, .out] s
  refine ⟨_, rfl, ?_⟩
  repeat' (first | with_reducible assumption | ((with_reducible apply Changes.step (State.emit_changes ..)) <;> [rfl; skip]) | ((with_reducible apply Changes.step (State.log_changes ..)) <;> [rfl; skip]) | ((with_reducible apply Changes.step (State.setBoard_changes ..)) <;> [rfl; skip]) | ((with_reducible apply State.whenAux_changes) <;> [(intro _ _); skip]) | ((with_reducible apply Changes.foldl) <;> [(intro _ _ _); skip]) | split)

theorem execMbLineReleased_changes (sda : Bool) (s : State) :
    ∃ t, execMbLineReleased sda s = .next t ∧ Changes [.evr, .board] s t := by
  have h0 := Changes.refl [.evr, .board] s
  refine ⟨_, rfl, ?_⟩
  repeat' (first | with_reducible assumption | ((with_reducible apply Changes.step (State.log_changes ..)) <;> [rfl; skip]) | ((with_reducible apply Changes.step (State.setBoard_changes ..)) <;> [rfl; skip]) | ((with_reducible apply State.whenAux_changes) <;> [(intro _ _); skip]) | ((with_reducible apply Changes.foldl) <;> [(intro _ _ _); skip]) | split)

theorem execI3cHotJoin_changes (s : State) :
    ∃ t, execI3cHotJoin s = .next t ∧ Changes [.board, .out] s t := by
  have h0 := Changes.refl [.board, .out] s
  refine ⟨_, rfl, ?_⟩
  repeat' (first | with_reducible assumption | ((with_reducible apply Changes.step (State.emit_changes ..)) <;> [rfl; skip]) | ((with_reducible apply Changes.step (State.setBoard_changes ..)) <;> [rfl; skip]) | ((with_reducible apply State.whenAux_changes) <;> [(intro _ _); skip]) | ((with_reducible apply Changes.foldl) <;> [(intro _ _ _); skip]) | split)

theorem execDebugProbeAttach_changes (s : State) :
    ∃ t, execDebugProbeAttach s = .next t ∧ Changes [.evr, .board] s t := by
  have h0 := Changes.refl [.evr, .board] s
  refine ⟨_, rfl, ?_⟩
  repeat' (first | with_reducible assumption | ((with_reducible apply Changes.step (State.probe_changes ..)) <;> [rfl; skip]) | ((with_reducible apply State.whenAux_changes) <;> [(intro _ _); skip]) | ((with_reducible apply Changes.foldl) <;> [(intro _ _ _); skip]) | split)

theorem execDebugProbeRemove_changes (s : State) :
    ∃ t, execDebugProbeRemove s = .next t ∧ Changes [.evr, .board] s t := by
  have h0 := Changes.refl [.evr, .board] s
  refine ⟨_, rfl, ?_⟩
  repeat' (first | with_reducible assumption | ((with_reducible apply Changes.step (State.probe_changes ..)) <;> [rfl; skip]) | ((with_reducible apply State.whenAux_changes) <;> [(intro _ _); skip]) | ((with_reducible apply Changes.foldl) <;> [(intro _ _ _); skip]) | split)

theorem execRegisterWrite_changes (ini : Initiator) (r : Reg) (value : BitVec 32) (s : State) :
    ∃ t, execRegisterWrite ini r value s = .next t ∧ Changes [.tb, .pace, .evr, .cmq, .land, .media, .plp, .ports, .dram, .sdm, .vault, .bst, .boot, .dict, .out, .free] s t := by
  have h0 := Changes.refl [.tb, .pace, .evr, .cmq, .land, .media, .plp, .ports, .dram, .sdm, .vault, .bst, .boot, .dict, .out, .free] s
  refine ⟨_, rfl, ?_⟩
  repeat' (first | with_reducible assumption | ((with_reducible apply Changes.step (State.registerWrite_changes ..)) <;> [rfl; skip]) | ((with_reducible apply Changes.foldl) <;> [(intro _ _ _); skip]) | split)

theorem execTbLoRead_changes (i : Initiator) (s : State) :
    ∃ t, execTbLoRead i s = .next t ∧ Changes [.tb, .evr, .out] s t := by
  have h0 := Changes.refl [.tb, .evr, .out] s
  refine ⟨_, rfl, ?_⟩
  repeat' (first | with_reducible assumption | ((with_reducible apply State.readBy_changes) <;> [(intro _ _); rfl; skip]) | ((with_reducible apply Changes.step (State.tbLoRead_changes ..)) <;> [rfl; skip]) | ((with_reducible apply State.whenPowered_changes) <;> [(intro _ _); skip]) | ((with_reducible apply Changes.foldl) <;> [(intro _ _ _); skip]) | split)

theorem execEvrSeqLoRead_changes (ini : Initiator) (s : State) :
    ∃ t, execEvrSeqLoRead ini s = .next t ∧ Changes [.evr, .out] s t := by
  have h0 := Changes.refl [.evr, .out] s
  refine ⟨_, rfl, ?_⟩
  repeat' (first | with_reducible assumption | ((with_reducible apply Changes.step (State.evrSeqLoRead_changes ..)) <;> [rfl; skip]) | ((with_reducible apply State.readBy_changes) <;> [(intro _ _); rfl; skip]) | ((with_reducible apply State.whenPowered_changes) <;> [(intro _ _); skip]) | ((with_reducible apply Changes.foldl) <;> [(intro _ _ _); skip]) | split)

end Sys2Proof.Machine
end

