-- ==== Sys2Proof/Laws/Tables.lean ====
section
/-! SUPPORT. Tables and sparse tables: reading back what was stored, and what stays. -/

namespace Sys2Proof

@[simp] theorem Tbl.upd_get {n : Nat} {α : Type} (v : Tbl n α) (i : Fin n) (f : α → α) : (v.upd i f)[i] = f v[i] := by
  simp [Tbl.upd]

@[simp] theorem Tbl.upd_get_val {n : Nat} {α : Type} (v : Tbl n α) (i : Fin n) (f : α → α) :
    (v.upd i f)[i.val] = f v[i.val] := by
  simp [Tbl.upd]

theorem Tbl.upd_get_ne {n : Nat} {α : Type} (v : Tbl n α) (i j : Fin n) (f : α → α) (h : j ≠ i) :
    (v.upd i f)[j] = v[j] := by
  simp only [Tbl.upd, Fin.getElem_fin]
  exact Vector.getElem_set_ne _ _ (fun e => h (Fin.ext e.symm))

@[simp] theorem Tbl.upd_upd {n : Nat} {α : Type} (v : Tbl n α) (i : Fin n) (f g : α → α) :
    (v.upd i f).upd i g = v.upd i (fun x => g (f x)) := by
  simp [Tbl.upd]

@[simp] theorem Tbl.all_get {n : Nat} {α : Type} (v : Tbl n α) (f : α → α) (i : Fin n) : (v.all f)[i] = f v[i] := by
  simp [Tbl.all]

namespace AMap

variable {α : Type}

@[simp] theorem get?_nil (k : Nat) : AMap.get? ([] : AMap α) k = none := rfl

@[simp] theorem get?_put (m : AMap α) (k : Nat) (v : α) : (m.put k v).get? k = some v := by
  induction m with
  | nil => simp [put, get?]
  | cons e m ih =>
    obtain ⟨a, x⟩ := e
    simp only [put]
    split
    · simp [get?]
    · split
      · simp [get?]
      · rename_i h1 h2
        simp only [get?]
        rw [if_neg (fun e => h2 e.symm)]
        exact ih

theorem get?_put_ne (m : AMap α) (k j : Nat) (v : α) (h : j ≠ k) : (m.put k v).get? j = m.get? j := by
  induction m with
  | nil => simp [put, get?, Ne.symm h]
  | cons e m ih =>
    obtain ⟨a, x⟩ := e
    simp only [put]
    split
    · simp [get?, Ne.symm h]
    · split
      · rename_i h1 h2
        subst h2
        simp [get?, Ne.symm h]
      · simp only [get?]
        split
        · rfl
        · exact ih

@[simp] theorem get?_del (m : AMap α) (k : Nat) : (m.del k).get? k = none := by
  induction m with
  | nil => rfl
  | cons e m ih =>
    obtain ⟨a, x⟩ := e
    by_cases h : a = k
    · simpa [del, h] using ih
    · simpa [del, h, get?] using ih

theorem get?_del_ne (m : AMap α) (k j : Nat) (h : j ≠ k) : (m.del k).get? j = m.get? j := by
  induction m with
  | nil => rfl
  | cons e m ih =>
    obtain ⟨a, x⟩ := e
    by_cases h1 : a = k
    · subst h1
      simpa [del, get?, Ne.symm h] using ih
    · by_cases h2 : a = j
      · simp [del, get?, h2, h]
      · simpa [del, h1, get?, h2] using ih

/-- Changing values leaves the keys, and so what is read under a key is what stood there, changed. -/
theorem get?_map (m : AMap α) (f : Nat × α → α) (k : Nat) :
    AMap.get? (m.map (fun e => (e.1, f e))) k = (m.get? k).map (fun v => f (k, v)) := by
  induction m with
  | nil => rfl
  | cons e m ih =>
    obtain ⟨a, x⟩ := e
    simp only [List.map_cons, get?]
    split
    · rename_i h
      subst h
      rfl
    · exact ih

/-- A table whose keys are kept lacks the same keys. -/
theorem get?_map_none (m : AMap α) (f : Nat × α → Nat × α) (hf : ∀ e, (f e).1 = e.1) (k : Nat) (h : m.get? k = none) :
    AMap.get? (m.map f) k = none := by
  induction m with
  | nil => rfl
  | cons e m ih =>
    simp only [get?] at h
    split at h
    · cases h
    · rename_i h1
      have : (f e).1 ≠ k := by rw [hf]; exact h1
      simp only [List.map_cons, get?, if_neg this]
      exact ih h

theorem get?_mod (m : AMap α) (k : Nat) (f : α → α) : (m.mod k f).get? k = (m.get? k).map f := by
  induction m with
  | nil => rfl
  | cons e m ih =>
    obtain ⟨a, x⟩ := e
    simp only [mod] at ih
    by_cases h : a = k <;> simp [mod, get?, h, ih]

theorem get?_mod_ne (m : AMap α) (k j : Nat) (f : α → α) (h : j ≠ k) : (m.mod k f).get? j = m.get? j := by
  induction m with
  | nil => rfl
  | cons e m ih =>
    obtain ⟨a, x⟩ := e
    simp only [mod] at ih
    by_cases h1 : a = k
    · have : a ≠ j := fun e => h (e ▸ h1)
      subst h1
      simp [mod, get?, this, ih]
    · by_cases h2 : a = j
      · simp [mod, get?, h2, h]
      · simpa [mod, get?, h1, h2] using ih

end AMap

end Sys2Proof
end

