-- ==== Sys2Proof/Laws/Complete.lean ====
section
/-! SUPPORT. What completing a command does (R60, R269), and when a command runs. -/

namespace Sys2Proof.Machine

open Sys2Proof

theorem State.whenLive_live {s : State} (h : s.live = true) (f : State → State) : s.whenLive f = f s := by
  simp [State.whenLive, h]

theorem State.onAdmin_ready {s : State} {fseq opc : Nat} {c : Cmd} (h : s.AdminReady fseq opc c) (ho : opc < 256)
    (f : Cmd → State → State) : s.onAdmin fseq opc f = f c s := by
  obtain ⟨hf, sc, hc⟩ := h
  simp [State.onAdmin, hf.live, hf.get, hc, hf.phase, Nat.mod_eq_of_lt ho]

/-- Regranting changes no entry but its grant. -/
theorem regrantFrom_fseq (b ls : List Lock) : (regrantFrom b ls).map (·.fseq) = ls.map (·.fseq) := by
  induction ls generalizing b with
  | nil => rfl
  | cons l ls ih => simp [regrantFrom, ih]

/-- The stall of fetching leaves the commands and the lock table. -/
@[simp] theorem Cmq.stall_cmds (q : Cmq) : q.stall.cmds = q.cmds := by
  unfold Cmq.stall; repeat' (first | rfl | split)
@[simp] theorem Cmq.stall_locks (q : Cmq) : q.stall.locks = q.locks := by
  unfold Cmq.stall; repeat' (first | rfl | split)

theorem Cmq.settle_get (q : Cmq) (k : Nat) (h : q.cmds.get? k = none) : q.settle.cmds.get? k = none := by
  simp only [Cmq.settle, Cmq.stall_cmds]
  refine AMap.get?_map_none _ _ (fun e => ?_) k h
  split <;> rfl

/-- Releasing drops every entry of the command. -/
theorem Cmq.release_unlocked (q : Cmq) (fseq : Nat) : ∀ l ∈ (q.release fseq).locks, l.fseq ≠ fseq := by
  intro l hl
  have h1 : l.fseq ∈ ((q.release fseq).locks).map (·.fseq) := List.mem_map_of_mem hl
  simp only [Cmq.release, Cmq.settle, Cmq.stall_locks, regrant, regrantFrom_fseq] at h1
  obtain ⟨m, hm, he⟩ := List.mem_map.mp h1
  rw [List.mem_filter] at hm
  rw [← he]
  simpa using hm.2

/-- A command that ends leaves the table and its locks, and sends nothing. -/
theorem State.endCmd_left (s : State) (fseq : Nat) (c : Cmd) (h : s.cmq.cmds.get? fseq = some c) :
    (s.endCmd fseq).cmq.cmds.get? fseq = none ∧ (∀ l ∈ (s.endCmd fseq).cmq.locks, l.fseq ≠ fseq) ∧ (s.endCmd fseq).out = s.out := by
  refine ⟨?_, ?_, ?_⟩
  · simp only [State.endCmd, h]
    exact Cmq.settle_get _ _ (AMap.get?_del _ _)
  · simp only [State.endCmd, h]
    exact Cmq.release_unlocked _ _
  · exact (State.endCmd_changes s fseq).rest .out (by decide)

theorem State.post_room (s : State) (c : Cmd) (fseq : Nat) (st : Status) (dw0 : Nat) (h : s.CanPost c) :
    ∃ q, (s.ctrl c.port).cqs.get? (s.cqOf c) = some q ∧ s.post c.port fseq c.sqid c.cid st dw0 =
      (s.setCtrl c.port (fun k => { k with cqs := k.cqs.put (s.cqOf c) { q with used := q.used + 1 } })).emits
        [.cqe c.port (s.cqOf c) c.sqid c.cid st dw0, .msix c.port q.vector] := by
  obtain ⟨h1, h2, ⟨q, hq, hr⟩, h4⟩ := h
  refine ⟨q, hq, ?_⟩
  simp only [State.cqOf] at hq ⊢
  simp only [State.post, h1, h2, Bool.false_eq_true, if_false, Bool.not_true, hq, hr, h4, and_self, if_true]

/-- An error is noted in the Error Information log only. -/
theorem State.noteError_canPost (s : State) (c : Cmd) (h : s.CanPost c) (f : Ctrl → Ctrl) (he : ∀ k, (f k).en = k.en)
    (hq : ∀ k, (f k).cqs = k.cqs) (hs : ∀ k, (f k).sqs = k.sqs) :
    (s.setCtrl c.port f).CanPost c ∧ (s.setCtrl c.port f).cqOf c = s.cqOf c := by
  have e : (s.setCtrl c.port f).ctrl c.port = f (s.ctrl c.port) := by simp [State.setCtrl, State.ctrl]
  have e2 : (s.setCtrl c.port f).cqOf c = s.cqOf c := by simp only [State.cqOf, e, Ctrl.cqOf, hs]
  obtain ⟨h1, h2, ⟨q, h3, h4⟩, h5⟩ := h
  refine ⟨⟨h1, ?_, ⟨q, ?_, h4⟩, h5⟩, e2⟩
  · rw [e, he]; exact h2
  · rw [e, hq, e2]; exact h3

/-- Completing a command posts its entry, and it leaves the table and the lock table. -/
theorem State.complete_completed (s : State) (fseq : Nat) (c : Cmd) (st : Status) (dw0 lba : Nat)
    (hg : s.cmq.cmds.get? fseq = some c) (hl : c.silent = false) (hp : s.CanPost c) :
    State.Completed s.out s (s.complete fseq st dw0 lba) fseq c st dw0 := by
  have key : ∀ u : State, u.CanPost c → u.cqOf c = s.cqOf c → u.cmq.cmds.get? fseq = some c → u.out = s.out →
      State.Completed s.out s ((u.post c.port fseq c.sqid c.cid st dw0).endCmd fseq) fseq c st dw0 := by
    intro u hu hc hg' ho
    obtain ⟨q, hq, e⟩ := State.post_room u c fseq st dw0 hu
    rw [e]
    have hg2 : ((u.setCtrl c.port (fun k => { k with cqs := k.cqs.put (u.cqOf c) { q with used := q.used + 1 } })).emits
        [.cqe c.port (u.cqOf c) c.sqid c.cid st dw0, .msix c.port q.vector]).cmq.cmds.get? fseq = some c := hg'
    obtain ⟨a, b, d⟩ := State.endCmd_left _ fseq c hg2
    refine ⟨⟨q.vector, ?_⟩, a, b⟩
    rw [d, ← hc, ← ho]
    rfl
  simp only [State.complete, hg, hl, Bool.false_eq_true, if_false]
  split
  · obtain ⟨h1, h2⟩ := State.noteError_canPost s c hp (fun k => { k with errors := ((fseq, st, lba) :: k.errors).take 256 })
      (fun _ => rfl) (fun _ => rfl) (fun _ => rfl)
    exact key _ h1 h2 hg rfl
  · exact key s hp rfl hg rfl

end Sys2Proof.Machine
end

