-- ==== Sys2Proof/Laws/Memory.lean ====
section
/-! SUPPORT. Byte memories: a write keeps the canonical form; a read after a write gives what was written, and every other
place keeps its byte. -/

namespace Sys2Proof

namespace AMap

variable {α : Type}

/-- The canonical form says that the keys rise strictly. -/
theorem wf_cons (k : Nat) (v : α) (m : AMap α) : AMap.wf ((k, v) :: m) = true ↔ (∀ e ∈ m, k < e.1) ∧ AMap.wf m = true := by
  induction m generalizing k v with
  | nil => simp [wf]
  | cons e m ih =>
    obtain ⟨a, x⟩ := e
    have h := ih a x
    simp only [wf, Bool.and_eq_true, decide_eq_true_eq, List.mem_cons, forall_eq_or_imp] at h ⊢
    constructor
    · rintro ⟨h1, h2⟩
      exact ⟨⟨h1, fun e he => Nat.lt_trans h1 ((h.mp h2).1 e he)⟩, h2⟩
    · rintro ⟨⟨h1, _⟩, h2⟩
      exact ⟨h1, h2⟩

theorem mem_put {m : AMap α} {k : Nat} {v : α} {e : Nat × α} (h : e ∈ m.put k v) : e = (k, v) ∨ e ∈ m := by
  induction m with
  | nil => simpa [put] using h
  | cons x m ih =>
    obtain ⟨a, b⟩ := x
    simp only [put] at h
    split at h
    · simpa using h
    · split at h
      · simp only [List.mem_cons] at h ⊢
        tauto
      · simp only [List.mem_cons] at h ⊢
        rcases h with h | h
        · tauto
        · rcases ih h with h | h <;> tauto

theorem wf_put (m : AMap α) (k : Nat) (v : α) (h : AMap.wf m = true) : AMap.wf (m.put k v) = true := by
  induction m with
  | nil => simp [put, wf]
  | cons x m ih =>
    obtain ⟨a, b⟩ := x
    have hx := (wf_cons a b m).mp h
    simp only [put]
    split
    · rename_i hk
      refine (wf_cons k v _).mpr ⟨?_, h⟩
      intro e he
      rcases List.mem_cons.mp he with he | he
      · rw [he]; exact hk
      · exact Nat.lt_trans hk (hx.1 e he)
    · split
      · rename_i h1 h2
        subst h2
        exact (wf_cons _ v m).mpr hx
      · rename_i h1 h2
        refine (wf_cons a b _).mpr ⟨?_, ih hx.2⟩
        intro e he
        rcases mem_put he with he | he
        · rw [he]
          simp only
          omega
        · exact hx.1 e he

theorem wf_filter (m : AMap α) (p : Nat × α → Bool) (h : AMap.wf m = true) : AMap.wf (m.filter p) = true := by
  induction m with
  | nil => rfl
  | cons x m ih =>
    obtain ⟨a, b⟩ := x
    have hx := (wf_cons a b m).mp h
    simp only [List.filter]
    split
    · exact (wf_cons a b _).mpr ⟨fun e he => hx.1 e (List.mem_of_mem_filter he), ih hx.2⟩
    · exact ih hx.2

end AMap

namespace Machine

/-- Writing one byte keeps the canonical form. -/
theorem memWf_memPut (d : Byte) (m : List Host.Cell) (a : Nat) (b : Byte) (h : memWf d m = true) : memWf d (memPut d m a b) = true := by
  simp only [memWf, Bool.and_eq_true, List.all_eq_true, decide_eq_true_eq] at h ⊢
  unfold memPut
  split
  · exact ⟨AMap.wf_filter m _ h.1, fun e he => h.2 e (List.mem_of_mem_filter he)⟩
  · rename_i hb
    refine ⟨AMap.wf_put m a b h.1, fun e he => ?_⟩
    rcases AMap.mem_put he with he | he
    · rw [he]; exact hb
    · exact h.2 e he

/-- Writing bytes keeps the canonical form. -/
theorem memWf_memWrite (d : Byte) (bs : List Byte) (m : List Host.Cell) (a : Nat) (h : memWf d m = true) :
    memWf d (memWrite d m a bs) = true := by
  induction bs generalizing m a with
  | nil => exact h
  | cons b bs ih => exact ih _ _ (memWf_memPut d m a b h)

/-- Clearing a range keeps the canonical form. -/
theorem memWf_memClear (d : Byte) (m : List Host.Cell) (a n : Nat) (h : memWf d m = true) : memWf d (memClear m a n) = true := by
  simp only [memWf, Bool.and_eq_true, List.all_eq_true, decide_eq_true_eq] at h ⊢
  exact ⟨AMap.wf_filter m _ h.1, fun e he => h.2 e (List.mem_of_mem_filter he)⟩

/-- A byte that was written is read back. -/
@[simp] theorem memGet_memPut (d : Byte) (m : List Host.Cell) (a : Nat) (b : Byte) : memGet d (memPut d m a b) a = b := by
  unfold memGet memPut
  split
  · rename_i h
    rw [AMap.get?_del]
    exact h.symm
  · rw [AMap.get?_put]
    rfl

/-- Every other place keeps its byte. -/
theorem memGet_memPut_ne (d : Byte) (m : List Host.Cell) (a x : Nat) (b : Byte) (h : x ≠ a) :
    memGet d (memPut d m a b) x = memGet d m x := by
  unfold memGet memPut
  split
  · rw [AMap.get?_del_ne _ _ _ h]
  · rw [AMap.get?_put_ne _ _ _ _ h]

/-- A place before the bytes that are written keeps its byte. -/
theorem memGet_memWrite_below (d : Byte) (bs : List Byte) (m : List Host.Cell) (a x : Nat) (h : x < a) :
    memGet d (memWrite d m a bs) x = memGet d m x := by
  induction bs generalizing m a with
  | nil => rfl
  | cons b bs ih =>
    rw [memWrite, ih _ _ (by omega), memGet_memPut_ne _ _ _ _ _ (by omega)]

/-- What a place reads after bytes have been written: the byte written there, or what it read before. -/
theorem memGet_memWrite (d : Byte) (bs : List Byte) (m : List Host.Cell) (a x : Nat) :
    memGet d (memWrite d m a bs) x = if h : a ≤ x ∧ x - a < bs.length then bs[x - a] else memGet d m x := by
  induction bs generalizing m a with
  | nil => simp [memWrite]
  | cons b bs ih =>
    rw [memWrite]
    rcases Nat.lt_trichotomy x a with h | h | h
    · rw [memGet_memWrite_below _ _ _ _ _ (by omega), memGet_memPut_ne _ _ _ _ _ (by omega), dif_neg (by omega)]
    · subst h
      rw [memGet_memWrite_below _ _ _ _ _ (by omega), memGet_memPut, dif_pos (by simp)]
      simp
    · rw [ih]
      have e : x - a = (x - (a + 1)) + 1 := by omega
      by_cases hl : x - (a + 1) < bs.length
      · rw [dif_pos ⟨by omega, hl⟩, dif_pos ⟨by omega, by rw [e, List.length_cons]; omega⟩]
        simp only [e, List.getElem_cons_succ]
      · rw [dif_neg (by omega), dif_neg (by rw [List.length_cons]; omega), memGet_memPut_ne _ _ _ _ _ (by omega)]

end Machine

end Sys2Proof
end

