-- ==== Sys2Proof/Tests/Slice0.lean ====
section
/-! SUPPORT. The model's own tests: the manual's worked examples and check values, a term that each check of WellFormed
refuses, and for every obligation with hypotheses a concrete state and operands that meet them. -/

namespace Sys2Proof.Tests

open Sys2Proof Sys2Proof.Machine

/-! ### Small states -/

/-- A machine that runs, with its links down and nothing in flight. -/
def sRun : State := { State.reset with phase := .running, boot := { source := 0 } }

/-- An enabled controller with its admin queues and one I/O queue pair. -/
def cOn : Ctrl := { en := true, rdy := true, sqs := [(0, { size := 16, cqid := 0 }), (1, { size := 16, cqid := 1 })]
                    cqs := [(0, { size := 16 }), (1, { size := 16, vector := 1 })] }

/-- A link that is up. -/
def qOn : PcPort := { link := .l0, perst := false, rate := 64, width := 16 }

/-- Both links are up and both controllers enabled. -/
def sUp : State := { sRun with
  cmq := { ctrls := Vector.replicate 2 cOn }, ports := Vector.replicate 2 qOn }

/-- `sUp` with other controllers. -/
def sCtl (f : Ctrl → Ctrl) : State := { sUp with cmq := { sUp.cmq with ctrls := Vector.replicate 2 (f cOn) } }

/-- `s` with one command in flight under FSEQ 1. -/
def withCmd (s : State) (c : Cmd) : State := { s with cmq := { s.cmq with cmds := [(1, c)], fseq := 1 } }

/-- An admin command of port 0. -/
def cAdm (opc : Nat) : Cmd := { port := 0, sqid := 0, cid := 7, cmd := .admin (BitVec.ofNat 8 opc) .none, phase := .ready }

/-- An I/O command of port 0. -/
def cIo (c : HostCmd) (ph : CmdPhase := .ready) : Cmd := { port := 0, sqid := 1, cid := 7, cmd := c, phase := ph }

/-- Namespace 1: 4 KiB blocks, attached to port 0. -/
def ns1 : Namespace := { nlbas := 1024, lba512 := false, ind16 := false, zoned := false, attached := [0] }

/-- `s` with namespace 1. -/
def withNs (s : State) (n : Namespace := ns1) : State := { s with media := { s.media with namespaces := [(0, n)] } }

/-- A line of namespace 1. -/
def line0 (st : LineSt) : Line := { st := st, ns := 0, granule := 0, cmdSeq := 1, data := List.replicate 8 5 }

/-- The machine in another phase. -/
def sPh (ph : Phase) : State := { sRun with phase := ph }

/-- A power cap of 36 W. -/
def sCap (v : Nat) : State := { sRun with pws := { sRun.pws with level := 1 }, avs := { sRun.avs with vcore := v } }

/-- Window 0 of BAR4 shows a content. -/
def PcPort.shown (content : Nat) (q : PcPort) : PcPort :=
  { q with act4 := q.act4.upd 0 (fun _ => BitVec.ofNat 4 content) }

def sPort (f : PcPort → PcPort) : State := { sUp with ports := Vector.replicate 2 (f qOn) }

/-- Contained ports with their fate tables complete. -/
def sCont (fs : List Fate := []) (causes : BitVec 8 := 1) : State :=
  sPort (fun q => { q with cnt := { q.cnt with active := true, fatesValid := true, causes := causes, fates := fs } })

theorem flying_adm (f : State → State) (opc : Nat) (h : ∀ s, (f s).cmq = s.cmq ∧ (f s).phase = s.phase ∧ (f s).ports = s.ports ∧
    (f s).dict = s.dict) : (f (withCmd sUp (cAdm opc))).AdminReady 1 opc (cAdm opc) := by
  obtain ⟨h1, h2, h3, h4⟩ := h (withCmd sUp (cAdm opc))
  refine ⟨⟨?_, ?_, rfl, rfl, ⟨?_, ?_, ⟨{ size := 16 }, ?_, by decide⟩, ?_⟩, fun _ => rfl⟩, ⟨.none, rfl⟩⟩
  · simp only [State.live, h2]; rfl
  · rw [h1]; rfl
  · rw [h3]; rfl
  · simp only [State.ctrl, h1]; rfl
  · simp only [State.ctrl, State.cqOf, h1]; rfl
  · have e : ∀ i j, (f (withCmd sUp (cAdm opc))).param i j = (withCmd sUp (cAdm opc)).param i j := fun i j => by
      simp only [State.param, h4]
    simp only [State.mayWrite, e, h3]; rfl

/-- An admin command that can run. -/
theorem admin_ready (opc : Nat) : (withCmd sUp (cAdm opc)).AdminReady 1 opc (cAdm opc) := flying_adm id opc (fun _ => ⟨rfl, rfl, rfl, rfl⟩)

/-- An I/O command of namespace 1 that can run. -/
theorem io_flying (c : HostCmd) (ph : CmdPhase) : (withCmd (withNs sUp) (cIo c ph)).Flying 1 (cIo c ph) ph :=
  ⟨rfl, rfl, rfl, rfl, ⟨rfl, rfl, ⟨{ size := 16, vector := 1 }, rfl, by decide⟩, rfl⟩, fun _ => rfl⟩

/-- A command under FSEQ 1 is in flight. -/
theorem flies {s : State} (c : Cmd) (q : Cq) (h : s.live = true ∧ s.cmq.cmds.get? 1 = some c ∧ c.silent = false ∧
    s.ports[c.port].cnt.active = false ∧ (s.ctrl c.port).en = true ∧ (s.ctrl c.port).cqs.get? (s.cqOf c) = some q ∧
    q.used + 1 < q.size ∧ s.mayWrite c.port = true ∧ c.lines = []) : s.Flying 1 c c.phase :=
  ⟨h.1, h.2.1, rfl, h.2.2.1, ⟨h.2.2.2.1, h.2.2.2.2.1, ⟨q, h.2.2.2.2.2.1, h.2.2.2.2.2.2.1⟩, h.2.2.2.2.2.2.2.1⟩, fun _ => h.2.2.2.2.2.2.2.2⟩

/-- The admin and the I/O completion queue of `cOn`. -/
def q0 : Cq := { size := 16 }
def q1 : Cq := { size := 16, vector := 1 }

/-- `s` with another media state. -/
def sMed (f : Media → Media) (s : State := sUp) : State := { s with media := f s.media }

/-- The keys are held: the part is not sealed. -/
def held (s : State) : State := { s with sec := { s.sec with keysHeld := true } }

/-- Two blocks written to granule 0 and 1. -/
def wreq : WriteReq := { nsid := 1, slba := 0, nlb := 2 }
def dest2 (slba nlb : Nat) : Dest := { ns := 0, n := ns1, slba := slba, nlb := nlb, handle := 0, raw := false, tag := none, cmb := [] }

/-! ### A state and operands for the hypotheses of every obligation, clause by clause -/

theorem test_wit_PaceAndPowerCap : sRun.live = true ∧ sRun.effCap = none ∧ (sCap 650).effCap = some (360, 4) ∧ 360 < 361 ∧
    650 < (sCap 655).avs.vcore ∧ (sCap 655).effCap = some (360, 4) ∧ (sCap 650).avs.vcore ≤ 650 ∧ 360 ≤ 360 + 10 ∧ 349 + 10 < 360 ∧
    (sCap 650).live = true ∧ sRun.powered = true ∧ paceAnomaly 15 1 = false ∧ paceAnomaly 11 1 = true ∧ sRun.phase.guarded = true ∧
    Phase.guarded .testScan = false := by decide

theorem test_wit_TimebaseSources : sRun.powered = true ∧ sRun.sec.debugUnlocked = false ∧ sUp.powered = true ∧ sUp.linkUp 0 = true ∧
    sUp.barRefusal 0 4 = none ∧ (sPort (PcPort.shown 6)).ports[(0 : Fin 2)].shows 6 = true ∧ sRun.live = true ∧ sRun.tb.srcAct = .crystal ∧ sRun.tb.crystalUp = true ∧ (0 : BitVec 2) ≠ 1 ∧
    TbSource.ring ≠ sRun.tb.srcAct ∧ ({ sRun with tb := { srcAct := .refclk, refclkUp := true } } : State).tb.srcAct = .refclk ∧
    sRun.pending = [] ∧ sRun.phase.counts = true ∧ (sPh .deepRest).phase.counts = false ∧ (sPh .deepRest).pending = [] := by decide

def sCores (c : CoreSt) : State := { sRun with units := { sRun.units with cores := sRun.units.cores.upd 23 (fun _ => c) }, tb := { count := 1000000005 } }

theorem test_wit_CoresDeclared : (sCores {}).live = true ∧ (sCores {}).units.cores[(31 : Fin 32)].failed = false ∧
    (sCores {}).units.cores[(29 : Fin 32)].trying = none ∧ (29 : Fin 32).val < 30 ∧
    (sCores {}).units.cores[(29 : Fin 32)].restart = .none ∧ (23 : Fin 32).val < 24 ∧
    (sCores { restart := .restartedAt 5 }).units.cores[(23 : Fin 32)].restart = .restartedAt 5 ∧
    (sCores { restart := .restartedAt 5 }).tb.count.toNat ≤ 5 + 10 * 10 ^ 8 ∧
    (sCores { restart := .restartedAt 5 }).units.cores[(23 : Fin 32)].failed = false ∧
    (sCores { restart := .restartedAt 5 }).units.cores[(23 : Fin 32)].trying = none ∧
    (sCores { restart := .restartedAt 5 }).units.cores[roleCore (partner (Fin.ofNat 8 (23 / 3))) (23 % 3)].failed = false ∧
    sRun.units.pair = false := by decide

def sUnits (f : Units → Units) : State := { sRun with units := f sRun.units }

theorem test_wit_SliceUnitsFail : sRun.live = true ∧ sRun.units.hard[(7 : Fin 8)].getLsbD (7 : Fin 8).val = false ∧
    sRun.units.hard[(7 : Fin 8)] ||| (1 <<< (7 : Fin 8).val) ≠ 0xFF ∧ sRun.units.comp[(0 : Fin 8)] = false ∧
    sRun.units.comp[partner 0] = false ∧
    (sUnits (fun u => { u with comp := u.comp.upd 1 (fun _ => true) })).units.comp[(0 : Fin 8)] = false ∧
    (sUnits (fun u => { u with comp := u.comp.upd 1 (fun _ => true) })).units.comp[partner 0] = true ∧
    sRun.units.lane[(0 : Fin 8)] = false ∧ sRun.units.lane[partner 0] = false ∧
    (sUnits (fun u => { u with lane := u.lane.upd 1 (fun _ => true) })).units.lane[(0 : Fin 8)] = false ∧
    (sUnits (fun u => { u with lane := u.lane.upd 1 (fun _ => true) })).units.lane[partner 0] = true ∧
    sRun.units.acc[(0 : Fin 8)] = false := by decide

/-- A completion queue that is full. -/
def sCqFull : State := sCtl (fun c => { c with cqs := [(1, { size := 16, used := 15, head := 10 })] })

theorem test_wit_Doorbells : sUp.live = true ∧ sUp.asleep = false ∧ (sUp.ctrl 0).en = true ∧ sUp.ports[(0 : Fin 2)].cnt.active = false ∧
    sUp.pws.entry = none ∧ sUp.pws.ps ≠ 3 ∧ (sUp.ctrl 0).sqs.get? 1 = some { size := 16, cqid := 1 } ∧
    sCont.live = true ∧ sCont.asleep = false ∧ (sCont.ctrl 1).en = true ∧ sCont.ports[(1 : Fin 2)].cnt.active = true ∧
    sCqFull.live = true ∧ sCqFull.asleep = false ∧ (sCqFull.ctrl 0).en = true ∧ sCqFull.ports[(0 : Fin 2)].cnt.active = false ∧
    (sCqFull.ctrl 0).cqs.get? 1 = some { size := 16, used := 15, head := 10 } ∧ 15 ≤ 15 ∧ 9 < 16 ∧ (10 + 15) % 16 = 9 := by decide

/-- A submission queue with one command waiting. -/
def sFetch : State := sCtl (fun c => { c with sqs := [(1, { size := 16, cqid := 1, tail := 1 })] })

theorem test_wit_CommandFetched : sFetch.live = true ∧ sFetch.fetches 0 = true ∧ sFetch.cmq.stalled = false ∧ sFetch.cmq.paused = false ∧
    isAdminCmd (.flush none) = false ∧ (sFetch.cmq.cmds.filter (fun e => e.2.port = (0 : Fin 2))).length < 16384 ∧
    (sFetch.ctrl 0).ready.contains 0 = false ∧ ((sFetch.ctrl 0).pickIo).map (·.1) = some 1 ∧
    (sFetch.ctrl 0).sqs.get? 1 = some { size := 16, cqid := 1, tail := 1 } ∧ sFetch.resvConflict 0 (.flush none) = false := by decide

theorem test_wit_CommandFetched_stalled : ({ sUp with cmq := { sUp.cmq with stalled := true } } : State).live = true ∧
    ({ sUp with cmq := { sUp.cmq with stalled := true } } : State).cmq.stalled = true := by decide

theorem test_wit_QueuesCreatedAndDeleted : (withCmd sUp (cAdm 5)).AdminReady 1 5 (cAdm 5) ∧ (withCmd sUp (cAdm 1)).AdminReady 1 1 (cAdm 1) ∧
    (withCmd sUp (cAdm 4)).AdminReady 1 4 (cAdm 4) ∧ (withCmd sUp (cAdm 4)).cqOf (cAdm 4) ≠ 1 ∧
    (withCmd sUp (cAdm 0)).AdminReady 1 0 (cAdm 0) ∧ ((withCmd sUp (cAdm 0)).ctrl 0).sqs.has 1 = true ∧
    (∀ e ∈ (withCmd sUp (cAdm 0)).cmq.cmds, e.2.port = (0 : Fin 2) → e.2.sqid ≠ 1) := by
  and_intros <;> first
    | exact admin_ready 5
    | exact admin_ready 1
    | exact admin_ready 4
    | exact admin_ready 0
    | rfl
    | decide

theorem test_wit_FeaturesSet : (withCmd (withNs sUp) (cAdm 9)).AdminReady 1 9 (cAdm 9) ∧ (12 : Fin 16).val ≤ 12 ∧
    (withCmd sUp (cAdm 9)).AdminReady 1 9 (cAdm 9) ∧ (withCmd sUp (cAdm 9)).param 0x7000 3 ≠ 1 ∧
    (withCmd sUp (cAdm 9)).media.namespaces = [] ∧ (withCmd (withNs sUp) (cAdm 9)).media.namespaces ≠ [] ∧
    (withCmd (withNs sUp) (cAdm 9)).nsOf 0 1 = some (0, ns1) := by
  and_intros <;> first
    | exact flying_adm withNs 9 (fun _ => ⟨rfl, rfl, rfl, rfl⟩)
    | exact admin_ready 9
    | rfl
    | decide

/-- Host-directed power states. -/
def hostPs (s : State) : State := { s with dict := { s.dict with vals := [(0x700003, { bytes := [1] })] } }

theorem test_wit_FeaturesSet_apst : let s := hostPs (withCmd sUp (cAdm 9))
    s.AdminReady 1 9 (cAdm 9) ∧ s.param 0x7000 3 = 1 :=
  ⟨⟨⟨rfl, rfl, rfl, rfl, ⟨rfl, rfl, ⟨{ size := 16 }, rfl, by decide⟩, by decide⟩, fun _ => rfl⟩, ⟨.none, rfl⟩⟩, by decide⟩

/-- Only the admin queues exist. -/
def sNoIo : State :=
  withCmd (sCtl (fun c => { c with sqs := [(0, { size := 16, cqid := 0 })], cqs := [(0, { size := 16 })] })) (cAdm 9)

theorem test_wit_FeaturesSet_queues : sNoIo.AdminReady 1 9 (cAdm 9) ∧ (∀ e ∈ (sNoIo.ctrl 0).sqs, e.1 = 0) ∧
    (∀ e ∈ (sNoIo.ctrl 0).cqs, e.1 = 0) ∧ 0xFFFE < 0xFFFF :=
  ⟨⟨⟨rfl, rfl, rfl, rfl, ⟨rfl, rfl, ⟨{ size := 16 }, rfl, by decide⟩, by decide⟩, fun _ => rfl⟩, ⟨.none, rfl⟩⟩, by decide, by decide, by decide⟩

theorem test_wit_OtherAdminCommands : (withCmd sUp (cAdm 9)).AdminReady 1 9 (cAdm 9) ∧ (withCmd sUp (cAdm 0x0C)).AdminReady 1 0x0C (cAdm 0x0C) ∧
    ((withCmd sUp (cAdm 0x0C)).ctrl 0).aers.length < 8 ∧
    (withCmd sUp (cAdm 8)).AdminReady 1 8 (cAdm 8) ∧
    (∀ e ∈ (withCmd sUp (cAdm 8)).cmq.cmds, e.1 ≠ 1 → e.2.port = (0 : Fin 2) → e.2.sqid = 0 → e.2.cid ≠ 7) ∧
    (withCmd sUp (cAdm 0x14)).AdminReady 1 0x14 (cAdm 0x14) ∧
    (withCmd (withNs sUp) (cAdm 0x19)).AdminReady 1 0x19 (cAdm 0x19) ∧ ((withCmd (withNs sUp) (cAdm 0x19)).nsOf 0 1).isSome = true ∧
    (withCmd (withNs sUp) (cAdm 0x1A)).AdminReady 1 0x1A (cAdm 0x1A) ∧
    (withCmd sUp (cAdm 0x83)).Flying 1 (cAdm 0x83) .ready ∧ (BitVec.ofNat 8 0x83).toNat ∉ adminOpcodes := by
  and_intros <;> first
    | exact admin_ready 9
    | exact admin_ready _
    | exact flying_adm withNs _ (fun _ => ⟨rfl, rfl, rfl, rfl⟩)
    | exact (admin_ready 0x83).flying
    | rfl
    | decide

/-- A read of namespace 1 waits behind an Abort. -/
def sAbort : State := { sUp with cmq := { sUp.cmq with cmds := [(1, cAdm 8), (2, cIo (.flush none) .waitLocks)], fseq := 2 } }

theorem test_wit_OtherAdminCommands_abort : sAbort.AdminReady 1 8 (cAdm 8) ∧
    sAbort.cmq.cmds.find? (fun e => decide (e.2.port = (0 : Fin 2)) && decide (e.2.sqid = 1) && decide (e.2.cid = 7) && decide (e.1 ≠ 1)) =
      some (2, cIo (.flush none) .waitLocks) ∧
    (let s := withCmd (sCtl (fun c => { c with aers := List.range 8 })) (cAdm 0x0C)
     s.AdminReady 1 0x0C (cAdm 0x0C) ∧ 8 ≤ (s.ctrl 0).aers.length) :=
  ⟨⟨⟨rfl, rfl, rfl, rfl, ⟨rfl, rfl, ⟨{ size := 16 }, rfl, by decide⟩, by decide⟩, fun _ => rfl⟩, ⟨.none, rfl⟩⟩, by decide,
    ⟨⟨rfl, rfl, rfl, rfl, ⟨rfl, rfl, ⟨{ size := 16 }, rfl, by decide⟩, by decide⟩, fun _ => rfl⟩, ⟨.none, rfl⟩⟩, by decide⟩

theorem test_wit_InformationReturned : (withCmd sUp (cAdm 2)).AdminReady 1 2 (cAdm 2) ∧
    (withCmd sUp (cAdm 2)).logPage 0 0x55 = none ∧ ((withCmd sUp (cAdm 2)).logPage 0 6).isSome = true ∧
    (withCmd (withNs sUp) (cAdm 6)).AdminReady 1 6 (cAdm 6) ∧ 1 ≤ 256 ∧ (withCmd (withNs sUp) (cAdm 6)).nsOf 0 1 = some (0, ns1) ∧
    (withCmd sUp (cAdm 0x0A)).AdminReady 1 0x0A (cAdm 0x0A) ∧
    ((withCmd sUp (cAdm 0x0A)).featVal 0 ((withCmd sUp (cAdm 0x0A)).ctrl 0).feat 1 0).isSome = true := by
  and_intros <;> first
    | exact admin_ready 2
    | exact flying_adm withNs _ (fun _ => ⟨rfl, rfl, rfl, rfl⟩)
    | exact admin_ready _
    | rfl
    | decide

/-- Room for more namespaces than namespace 1. -/
def sNs (opc : Nat) (g : Nat := 16777216) : State :=
  held (withCmd (sMed (fun m => { m with guaranteed := g, namespaces := [(0, ns1)] })) (cAdm opc))

def nsNew : Namespace := { nlbas := 3072, lba512 := false, ind16 := false, zoned := false }

theorem is_ok {ε α : Type} {x : Except ε α} {a : α} (h : x.toOption = some a) : x = .ok a := by
  cases x with
  | ok b => exact congrArg Except.ok (Option.some.inj h)
  | error e => cases h

theorem test_wit_NamespacesManaged :
    (sNs 0x0D).AdminReady 1 0x0D (cAdm 0x0D) ∧ (sNs 0x0D).media.freeNs = some 1 ∧
    (sNs 0x0D).planNs 1 3072 false false false = .ok nsNew ∧
    (sNs 0x0D 16777215).AdminReady 1 0x0D (cAdm 0x0D) ∧ (sNs 0x0D 16777215).param 0x7001 1 = 0 ∧
    (sNs 0x0D 16777215).media.guaranteed < (sNs 0x0D 16777215).media.plainBytes + 3072 * 4096 ∧
    (sNs 0x0D).media.namespaces.has 0 = true ∧ (sNs 0x0D).media.namespaces.get? 0 = some ns1 := by
  and_intros <;> first
    | exact ⟨flies _ q0 (by decide), .none, rfl⟩
    | exact is_ok (by decide)
    | rfl
    | decide

theorem test_wit_NamespacesManaged_others :
    (sNs 0x15).AdminReady 1 0x15 (cAdm 0x15) ∧ (sNs 0x15).media.namespaces.get? 0 = some ns1 ∧ 0 ∈ (sNs 0x15).portList ∧
    ((sNs 0x15).ctrl 0).aers = [] ∧ ns1.attached.contains 0 = true ∧ ns1.attached.contains 1 = false ∧
    (sNs 0x80).AdminReady 1 0x80 (cAdm 0x80) ∧ (sNs 0x80).nsLocked 0 ns1 = false ∧ (sNs 0x80).sec.entropyBad = false ∧
    (sNs 0x84).AdminReady 1 0x84 (cAdm 0x84) ∧ (sNs 0x84).sec.entropyBad = false := by
  and_intros <;> first
    | exact ⟨flies _ q0 (by decide), .none, rfl⟩
    | rfl
    | decide

/-- A write of two blocks. -/
def sWr (ph : CmdPhase := .ready) (r : WriteReq := wreq) : State := withCmd (held (withNs sUp)) (cIo (.write r) ph)

theorem test_wit_WriteTakesLinesAndCompletes : (sWr).MayLand 1 (cIo (.write wreq)) (dest2 0 2) ∧
    (sWr).land.alloc (dest2 0 2).granules.length = some [0, 1] :=
  ⟨by constructor <;> decide, by decide⟩

theorem freeFrom_nil {l : Landing} (h : ∀ n, l.free n = false) : ∀ fuel want n, l.freeFrom fuel (want + 1) n = []
  | 0, _, _ => rfl
  | fuel + 1, want, n => by simp only [Landing.freeFrom, h n]; exact freeFrom_nil h fuel want (n + 1)

/-- Lines 0 to `k` − 1 taken. -/
def fullLines (k : Nat) : AMap Line := (List.range k).map (fun n => (n, line0 .committed))

theorem has_map {n : Nat} {l : Line} : ∀ {xs : List Nat}, n ∈ xs → AMap.has (xs.map (fun k => (k, l))) n = true
  | x :: xs, h => by
    by_cases e : x = n
    · simp [AMap.has, AMap.get?, e]
    · have := has_map (l := l) ((List.mem_cons.mp h).resolve_left (fun a => e a.symm))
      simpa [AMap.has, AMap.get?, e] using this

theorem fullLines_has (k n : Nat) (h : n < k) : (fullLines k).has n = true := has_map (List.mem_range.mpr h)

/-- Lines 0 to `k` − 1 are taken. -/
def sLines (k : Nat) : State := { sWr with land := { (sWr).land with lines := fullLines k } }

theorem sLines_free {k : Nat} (hk : lineCount ≤ k) (n : Nat) : (sLines k).land.free n = false := by
  have e : (sLines k).land.lines = fullLines k := rfl
  by_cases h : n < lineCount
  · simp only [Landing.free, e, fullLines_has _ _ (Nat.lt_of_lt_of_le h hk), Bool.not_true, Bool.and_false, Bool.false_and]
  · simp only [Landing.free, h, decide_false, Bool.false_and]

theorem test_wit_WriteTakesLinesAndCompletes_none : (sLines lineCount).MayLand 1 (cIo (.write wreq)) (dest2 0 2) ∧
    (sLines lineCount).land.alloc (dest2 0 2).granules.length = none :=
  ⟨by constructor <;> decide, by
    have h : (dest2 0 2).granules.length = 1 + 1 := by decide
    simp only [Landing.alloc, h, freeFrom_nil (sLines_free (Nat.le_refl _))]
    rfl⟩

/-- Every namespace is write-protected. -/
def sProt : State := { sWr with media := { (sWr).media with protected_ := true } }

/-- Lines 0 and 1 wait for their data. -/
def sFill (lim : Nat) (wt : Bool) : State :=
  { withCmd (held (withNs sUp)) { cIo (.write wreq) .filling with lines := [0, 1] } with
    land := { limit := lim, wt := wt, lines := [(0, line0 .filling), (1, line0 .filling)] } }

theorem test_wit_WriteTakesLinesAndCompletes_refused :
    sProt.Flying 1 (cIo (.write wreq)) .ready ∧ sProt.destOf (cIo (.write wreq)) = some (dest2 0 2) ∧
    rangeCheck ns1 0 2 true = none ∧ sProt.readOnly = true ∧
    (sWr .ready { wreq with slba := 1023 }).Flying 1 (cIo (.write { wreq with slba := 1023 })) .ready ∧
    (sWr .ready { wreq with slba := 1023 }).destOf (cIo (.write { wreq with slba := 1023 })) = some (dest2 1023 2) ∧
    ns1.nlbas < 1023 + 2 := by
  and_intros <;> first
    | exact flies _ q1 (by decide)
    | rfl
    | decide

theorem test_wit_WriteTakesLinesAndCompletes_landed :
    (sFill 2 false).live = true ∧ (sFill 2 false).cmq.cmds.get? 1 = some { cIo (.write wreq) .filling with lines := [0, 1] } ∧
    (sFill 2 false).destOf { cIo (.write wreq) .filling with lines := [0, 1] } = some (dest2 0 2) ∧
    (List.replicate 16 (5 : Sector)).length = (dest2 0 2).sectors ∧ 1 ≤ (dest2 0 2).sectors ∧
    (sFill 2 false).land.counted + (sFill 2 false).land.toCount [0, 1] + (sFill 2 false).committing ≤ (sFill 2 false).land.limit ∧
    (sFill 1 false).land.wt = false ∧
    (sFill 1 false).land.limit < (sFill 1 false).land.counted + (sFill 1 false).land.toCount [0, 1] + (sFill 1 false).committing ∧
    (sFill 0 true).land.wt = true ∧ (1, 1) ∈ [0, 1].zip (dest2 0 2).granules := by decide

/-- The write of `sWr` has its data in the lines. -/
def cLanded (fua : Bool) : Cmd := { cIo (.write wreq) .landed with lines := [0, 1], fua := fua }
def sLanded (fua wt : Bool) (lim : Nat := 2) (n : Namespace := ns1) : State :=
  { withCmd (held (withNs sUp n)) (cLanded fua) with land := { limit := lim, wt := wt, lines := [(0, line0 .filling), (1, line0 .filling)] } }

/-- Namespace 1 with Key Per I/O, of which no key is held. -/
def nsK : Namespace := { ns1 with kpio := true }
def destK : Dest := { dest2 0 2 with n := nsK }

theorem landed (fua wt : Bool) (lim : Nat) (n : Namespace) : (sLanded fua wt lim n).Flying 1 (cLanded fua) .landed :=
  ⟨rfl, rfl, rfl, rfl, ⟨rfl, rfl, ⟨q1, rfl, by decide⟩, rfl⟩, nofun⟩

theorem test_wit_WriteTakesLinesAndCompletes_done :
    (sLanded false false).Flying 1 (cLanded false) .landed ∧ (sLanded false false).destOf (cLanded false) = some (dest2 0 2) ∧
    (cLanded false).fua = false ∧ (sLanded false false).land.wt = false ∧ (cLanded false).slots = [] ∧
    (sLanded false false).land.counted + (sLanded false false).land.toCount [0, 1] ≤ (sLanded false false).land.limit ∧
    (∀ g ∈ (dest2 0 2).granules, ((sLanded false false).keyFor 0 ns1 (ns1.unitOf g) none).isSome) ∧
    (sLanded false false).cmq.cmds = [(1, cLanded false)] ∧ (∃ r, (cLanded false).cmd = .write r) ∧
    (sLanded true false).Flying 1 (cLanded true) .landed ∧ (cLanded true).fua = true ∧ (sLanded true false).mayCommit [0, 1] 0 = true ∧
    (sLanded false true).Flying 1 (cLanded false) .landed ∧ (sLanded false true).land.wt = true ∧
    (sLanded false true).mayCommit [0, 1] 0 = true ∧
    (sLanded false false 1).land.limit < (sLanded false false 1).land.counted + (sLanded false false 1).land.toCount [0, 1] ∧
    (sLanded false false 2 nsK).Flying 1 (cLanded false) .landed ∧ (sLanded false false 2 nsK).destOf (cLanded false) = some destK ∧
    0 ∈ destK.granules ∧ (sLanded false false 2 nsK).keyFor 0 nsK (nsK.unitOf 0) none = none := by
  and_intros <;> first | exact landed _ _ _ _ | exact ⟨wreq, rfl⟩ | decide

/-- A small profile, and the population of one group. -/
def timing : NandTiming :=
  { readTyp := 400, readMax := 550, progTyp := 2100, eraseTyp := 100000, eraseMax := 150000, eraseSuspMax := 500, progSuspMax := 300
    resumeMax := 100, resetMax := 5 }
def dieId : DieId := { maker := 1, model := 2, revision := 3 }
def prof : Profile := { id := 1, match_ := dieId, qlc := false, blocks := 8, wordlines := 4, endurance := 3000, coding := []
                        offsets := List.replicate 7 0, timing := timing }
def grp0 : List Nat := (List.range 32).map (groupDie 0)

/-- A stripe of group 0, in block `b` of every member. -/
def stripe0 (b : Nat) : Stripe := { group := 0, stream := .host 0, members := grp0.map (fun d => (d, b)), rotation := .by32 }

/-- One group, one open stripe. -/
def mBase (m : Media) : Media := { m with profile := some prof, population := some grp0, stripes := [(1, stripe0 0)], nextStripe := 2,
                                          namespaces := [(0, ns1)] }

/-- `mBase` with more. -/
def sBase (f : Media → Media := id) : State := sMed (fun m => f (mBase m)) (held sUp)

def row0 : Row := { stripe := 1, w := 0, stream := .host 0 }

/-- A committed line in its row. -/
def sPack : State :=
  { sBase (fun m => { m with rows := [(1, row0)] }) with
    land := { lines := [(7, { line0 .committed with row := some (1, 0) })] } }

def packLine (fr : Option (List Byte)) : Line := { line0 .committed with row := some (1, 0), frame := fr }
/-- `sPack` once line 7 is compressed. -/
def sPack0 : State := { sPack.ungate 0 2 with land := { sPack.land with
  lines := sPack.land.lines.mod 7 (fun l => { l with frame := some [] }) } }

theorem test_wit_LinePackedIntoRow : sPack.live = true ∧ sPack.land.lines.wf = true ∧
    sPack.land.lines.get? 7 = some (packLine none) ∧ sPack.media.namespaces.get? 0 = some ns1 ∧
    sPack0.sliceUnits 1 0 = [[(7, packLine (some []))]] ∧ (∀ e ∈ [(7, packLine (some []))], e.2.frame.isSome = true) ∧
    sPack.media.rows.get? 1 = some row0 ∧ sPack.media.stripes.get? 1 = some (stripe0 0) ∧
    (∃ cur ps, (row0.cursors[(0 : Fin 8)]).placeRecs (sPack.media.slicePages (stripe0 0) row0.w 0).length
      ((sPack0.unitRecords 0 ns1 [(7, packLine (some []))]).1.map (·.1)) = some (cur, ps)) := by
  and_intros <;> first
    | exact ⟨_, _, rfl⟩
    | rfl
    | decide +kernel

/-- A record of granule 5 on die 0. -/
def rec5 : Rec := { ns := 0, granule := 5, die := 0, block := 0, page := 0, offset := 0, len := 63, raw := false, keySlot := 0, keyGen := 0,
                    data := List.replicate 8 5 }

/-- A row that waits for its close, and one that every member has programmed. -/
def rowWait : Row := { row0 with closing := true, recs := [rec5] }
def rowDone : Row := { row0 with closed := true, recs := [rec5], passes := Vector.replicate 32 1 }
def sRow (r : Row) : State := { sBase (fun m => { m with rows := [(1, r)] }) with land := { wt := false } }

/-- Die 992, the last member, programs the first wordline of the row. -/
def sProg : State := sBase (fun m => { m with rows := [(1, row0)], dies := [(992, { op := .prog 1 0 31 0 0 0 false })] })

/-- A row that is asked to complete while an earlier one of the same granule is not complete. -/
def sRowWaits : State := sBase (fun m => { m with rows := [(1, { row0 with recs := [rec5] }), (2, { rowDone with w := 1 })] })

theorem test_wit_RowsCloseAndComplete : (sRow rowWait).live = true ∧ (sRow rowWait).media.rows.get? 1 = some rowWait ∧
    (sRow rowWait).media.stripes.get? 1 = some (stripe0 0) ∧ rowWait.closed = false ∧ rowWait.closing = true ∧
    (sRow rowWait).inRow 1 = [] ∧ row0.closing = false ∧ row0.closeNow = false ∧ (sRow row0).land.wt = false ∧
    (sRow row0).quiescing = false ∧ (sRow row0).media.rowIdle row0 = false ∧ sProg.live = true ∧
    sProg.media.progDie 1 31 = some (992, 0, 0, 0) ∧ (sRow rowDone).media.rows.wf = true ∧
    (sRow rowDone).media.rows.get? 1 = some rowDone ∧ (sRow rowDone).media.rowProgrammed rowDone (stripe0 0) = true ∧
    (∀ e ∈ (sRow rowDone).media.rows, e.1 < 1 → e.2.due = true → (sRow rowDone).rowReady e.1 e.2 = false) ∧
    rec5.dead = false ∧ 0 < rec5.len ∧ rowDone.recs = [rec5] ∧ rowDone.sys = [] ∧ rec5.src = none ∧
    (∃ n, (sRow rowDone).media.namespaces.get? rec5.ns = some n ∧ n.ind16 = false) ∧
    sRowWaits.media.rows.get? 2 = some { rowDone with w := 1 } ∧ sRowWaits.rowReady 2 { rowDone with w := 1 } = false ∧
    (∀ e ∈ sRowWaits.media.rows, e.2.due = true → sRowWaits.rowReady e.1 e.2 = false) ∧
    (sRow rowWait).media.rowProgrammed rowWait (stripe0 0) = false := by
  and_intros <;> first | exact ⟨ns1, rfl, rfl⟩ | decide +kernel

/-- The map pages of the row are in the cache. -/
def sRowDone : State := { sRow rowDone with media := { (sRow rowDone).media with resident := [mapPageKey 0 5] } }

theorem test_wit_RowsCloseAndComplete_ready : sRowDone.media.rows.get? 1 = some rowDone ∧ sRowDone.rowReady 1 rowDone = true := by
  and_intros <;> decide +kernel

/-- Die 0 erases block 6. -/
def sErase : State := sBase (fun m => { m with dies := [(0, { op := .erase 6 0 false, dirty := [6] })] })

theorem test_wit_BlockFailures : sProg.live = true ∧ sProg.media.progDie 1 31 = some (992, 0, 0, 0) ∧
    sErase.live = true ∧ sErase.media.erasing 0 6 = true ∧ sErase.media.erasing 0 5 = false := by decide

/-- Stream 0 waits for a stripe. -/
def sOpen : State := sBase (fun m => { m with stripes := [], waiting := [.host 0] })

theorem test_wit_StripesAndErases : sOpen.live = true ∧ sOpen.units.accAll = false ∧ sOpen.nextStream = some (.host 0) ∧
    sOpen.media.pickGroup false = some 0 ∧ (∀ d ∈ sOpen.media.surviving 0, (sOpen.media.pickBlock d false).isSome) ∧
    sErase.live = true ∧ sErase.media.erasing 0 6 = true ∧ sErase.media.erasing 0 5 = false ∧
    sOpen.media.pickBlock 0 false = some 0 ∧ 6 < sOpen.media.dataBlocks ∧ sOpen.media.erased 0 6 = true := by decide

def rreq : ReadReq := { nsid := 1, slba := 0, nlb := 2 }

/-- A read of one granule in a landing line and one that is TRIMMED. -/
def sRd (r : ReadReq) : State :=
  { withCmd (held (withNs sUp)) (cIo (.read r)) with land := { lines := [(9, line0 .committed)] } }

theorem test_wit_ReadsServed : (sRd rreq).Flying 1 (cIo (.read rreq)) .ready ∧
    (sRd rreq).readsOf (cIo (.read rreq)) = some (0, ns1, [(0, 2)], none, false, false) ∧
    (sRd rreq).readCheck (cIo (.read rreq)) 0 ns1 [(0, 2)] none false = none ∧
    (∀ g ∈ rangeGranules ns1 [(0, 2)], (∃ d, (sRd rreq).source 0 ns1 g = .line d) ∨ (sRd rreq).source 0 ns1 g = .zeros) ∧
    (sRd rreq).land.hit 0 0 = some (9, line0 .committed) ∧
    (sRd { rreq with slba := 1023 }).Flying 1 (cIo (.read { rreq with slba := 1023 })) .ready ∧
    (sRd { rreq with slba := 1023 }).readsOf (cIo (.read { rreq with slba := 1023 })) = some (0, ns1, [(1023, 2)], none, false, false) ∧
    (sRd { rreq with slba := 1023 }).readCheck (cIo (.read { rreq with slba := 1023 })) 0 ns1 [(1023, 2)] none false = some .lbaRange := by
  refine ⟨flies _ q1 (by decide), rfl, by decide, ?_, rfl, flies _ q1 (by decide), rfl, by decide⟩
  intro g hg
  have : g = 0 ∨ g = 1 := by
    have e : rangeGranules ns1 [(0, 2)] = [0, 1] := by decide
    simpa [e] using hg
  rcases this with rfl | rfl
  · exact .inl ⟨List.replicate 8 5, rfl⟩
  · exact .inr rfl

/-- A ladder of a host read. -/
def lad (step await : Nat) : Ladder :=
  { who := .host 1, grans := [5], die := 0, block := 0, page := 0, cw := 0, step := step, await := await, refs := [1], est0 := [64]
    est := [64], acqMax := 1 }
def sLad (l : Ladder) : State :=
  sBase (fun m => { m with reads := [(1, l)], nextRid := 2, dies := [(0, { op := if l.await = 0 then .idle else .reading 1 0 })] })

theorem test_wit_NandReadsDecoded : (sLad (lad 0 1)).live = true ∧ (sLad (lad 0 1)).readsGo = true ∧
    (sLad (lad 0 1)).media.flight 1 = some (0, 0) ∧ (sLad (lad 0 1)).media.reads.get? 1 = some (lad 0 1) ∧
    (sLad (lad 0 1)).media.served 1 (lad 0 1) = [1] ∧ (sLad (lad 0 1)).media.pageMissed (lad 0 1) [] = false ∧
    bestMark [⟨8, 3⟩, ⟨-8, 3⟩, ⟨0, 9⟩] = some ⟨-8, 3⟩ ∧
    (sLad (lad 1 0)).live = true ∧ (sLad (lad 1 0)).media.reads.get? 1 = some (lad 1 0) ∧ 20 ≤ (lad 1 0).iterations ∧
    (sLad (lad 1 0)).media.rdc[sliceOf 0].trackEn = true ∧ (lad 1 0).hard = [] ∧ ({ lad 1 0 with hard := [0] } : Ladder).hard ≠ [] ∧
    (sLad (lad 0 0)).live = true ∧ (sLad (lad 0 0)).media.reads.get? 1 = some (lad 0 0) ∧ (lad 0 0).ran = [] ∧
    (lad 0 0).skip1 = false ∧ 1 ≤ (lad 0 0).cap ∧ (sLad (lad 0 0)).service = false ∧ (∀ p, (lad 0 0).who ≠ .export_ p) ∧
    (sLad (lad 0 0)).media.isParity (lad 0 0) = false ∧ 2 ≤ (lad 4 0).step ∧ (lad 4 0).next false < 7 ∧
    ({ lad 0 0 with missed := true } : Ladder).next false = 5 ∧ ({ lad 0 0 with est0 := [] } : Ladder).skip1 = true ∧
    (sLad (lad 0 0)).units.noSoft (sliceOf 0) = false ∧ ({ lad 4 0 with ran := [0, 1, 2, 3, 5, 6] } : Ladder).next false = 7 ∧
    (∃ e ∈ (lad 1 0).est, (lad 1 0).acqMax * 64 ≤ e.natAbs) := by
  and_intros <;> decide

/-- Host recovery mode, with exports enabled in every slice or not. -/
def sExp (en : Bool) (f : Media → Media := id) : State :=
  let s := sBase (fun m => f { m with rdc := Vector.replicate 8 { exportEn := en } })
  { s with dict := { s.dict with vals := [(0x700000, { bytes := [1] })] } }

/-- The record of granule 5 is on NAND and in the map. -/
def withRec (m : Media) : Media :=
  { m with nand := [(pageKey 0 0 0, [rec5])], heads := [(pageKey 0 0 0, { seq := 1 })], map := [(5, .loc 0 0 0 0 63 false)], resident := [mapPageKey 0 5] }

def expLba : ExportReq := { stepMax := 4, nsid := 1, lba := 5 }
def expPhy : ExportReq := { stepMax := 4, die := 992, block := 6, page := 11, cw := 3 }
def lastExp (m : Media) : Media := { m with expArea := Vector.replicate 2 { last := some (992, 6, 11, 3, 0) } }

/-- The windows of both ports show the export area. -/
def sExpW (en : Bool) (f : Media → Media := id) : State :=
  { sExp en f with ports := Vector.replicate 2 (PcPort.shown 10 qOn), board := { peDual := true } }

theorem test_wit_ExportRequests :
    (sExpW true).live = true ∧ (sExpW true).linkUp 1 = true ∧ (sExpW true).barRefusal 1 4 = none ∧
    (sExpW true).ports[(1 : Fin 2)].shows 10 = true ∧ (sExpW true).dual = true ∧
    (sExpW true (fun m => { m with expArea := Vector.replicate 2 { busy := true } })).media.expArea[(1 : Fin 2)].busy = true ∧
    expLba.wf = true ∧ expPhy.wf = true ∧ expLba.stepMax ≤ 4 ∧ (sExpW true withRec).exportsOn = true ∧
    (sExpW true withRec).media.expArea[(0 : Fin 2)].busy = false ∧ (sExpW true withRec).nsOf 0 1 = some (0, ns1) ∧
    expLba.lba < ns1.nlbas ∧ (sExpW true withRec).denied 0 ns1 (ns1.unitOf (ns1.granuleOf 5)) none false = false ∧
    (sExpW true withRec).source 0 ns1 (ns1.granuleOf 5) = .record rec5 ∧ (sExpW true withRec).media.dieOut rec5.die = false ∧
    (sExpW true).media.badPlace expPhy = false ∧ (sExpW true).anyReadLocked = false ∧
    (sExpW true).media.erasing 992 6 = false ∧ (sExpW true lastExp).media.expArea[(1 : Fin 2)].last =
      some (expPhy.die, expPhy.block, expPhy.page, expPhy.cw, (sExpW true lastExp).media.erases 992 6) ∧
    (sExpW false).exportsOn = false ∧ (sExpW false).media.badPlace expPhy = false := by
  and_intros <;> first | rfl | decide

/-- The Gray coding of a TLC page set: each reference is owned by one page, and no page owns two neighbours. -/
def gray : List (List Bool) :=
  [[true, false, false, false, false, true, true, true], [true, true, false, false, true, true, false, false],
   [true, true, true, false, false, false, false, true]]

def profG : Profile := { prof with coding := gray }
/-- Four LUNs of the profile, with these eyes. -/
def ceRes (eyes : List (Nat × Nat)) : CeTraining :=
  { luns := List.replicate 4 (some dieId), profiles := [profG], eyes := eyes, bits := List.replicate 16 32 }

/-- Trained chip enables on channel 63; a die of it with `t` status polls timed out in a row. -/
def sFch (f : Fch → Fch := id) (t : Nat := 0) (op : DieOp := .idle) : State :=
  sMed (fun m => { m with profile := some profG, population := some [1023], dies := [(1023, { timeouts := t, op := op })],
                          fch := m.fch.upd 63 (fun x => f { x with
                            en := true, present := 0x8000, ces := Vector.replicate 4 { trained := true, eye := 20 } }) })

theorem test_wit_ChannelTraining :
    sUp.live = true ∧ sUp.media.fch[(63 : Fin 64)].isolate = false ∧ sUp.media.fch[(63 : Fin 64)].ces[(2 : Fin 4)].lost = false ∧
    sUp.media.fch[(63 : Fin 64)].ces[(2 : Fin 4)].retraining = false ∧ sUp.media.fch[(63 : Fin 64)].en = false ∧
    sUp.media.fch[(63 : Fin 64)].ces[(2 : Fin 4)].trained = false ∧ sUp.media.population = none ∧ (ceRes []).luns.length = 4 ∧
    (∀ x ∈ (ceRes []).luns, ∃ id, x = some id ∧ profileOf (ceRes []).profiles id = some profG) ∧
    sUp.media.profile = none ∧ (sMed (fun m => { m with profile := some profG })).media.profile = some profG ∧
    sUp.media.fch[(63 : Fin 64)].passes [(9, 20), (12, 10)] = some (3600, 10) ∧ sUp.media.fch[(63 : Fin 64)].passes [] = none ∧
    (sFch).live = true ∧ (sFch).readsGo = true ∧ (sFch).media.fch[(63 : Fin 64)].en = true ∧
    (sFch).media.fch[(63 : Fin 64)].isolate = false ∧ (sFch).media.fch[(63 : Fin 64)].recentre = true ∧
    (sFch).media.fch[(63 : Fin 64)].ces[(3 : Fin 4)].lost = false ∧ (sFch).media.fch[(63 : Fin 64)].ces[(3 : Fin 4)].trained = true ∧
    (sFch).media.fch[(63 : Fin 64)].ces[(3 : Fin 4)].retraining = false ∧ (sFch).media.probeLun 63 3 = some 1023 ∧
    (∀ b ∈ ((sFch).media.fch[(63 : Fin 64)].ces[(3 : Fin 4)]).probed (probeBits [⟨true, false⟩, ⟨false, true⟩] []), b.lowFails = false ∨ b.highFails = false) ∧
    (∃ b ∈ ((sFch).media.fch[(63 : Fin 64)].ces[(3 : Fin 4)]).probed (probeBits [⟨true, true⟩] []), b.lowFails = true ∧ b.highFails = true) ∧
    (sFch id 0 (.erase 5 0 false)).media.probeLun 63 3 = none ∧
    (sFch).media.inService 1023 = true ∧ ((sFch).media.die 1023).timeouts = 0 ∧ (sFch).media.fch[chOf 1023].pollAt = [] ∧
    (sFch id 1).media.inService 1023 = true ∧ 1 ≤ ((sFch id 1).media.die 1023).timeouts := by
  and_intros <;> first
    | exact fun x hx => ⟨dieId, List.eq_of_mem_replicate hx, by decide⟩
    | exact ⟨⟨true, true⟩, by decide, rfl, rfl⟩
    | decide

/-- R13, R49: a core's read of SYS_PACE_SENS2 (offset 0x108) returns PACE and PACE_MIN and sets PACE_MIN to 0xFFFF. -/
theorem test_read_clears_pace_min :
    let s : State := { sUp with pace := { sUp.pace with sensors := sUp.pace.sensors.upd 2 (fun x => { x with pace := 0x500, paceMin := 0x450 }) } }
    (s.registerRead (.core 0) .sys 0 0x108).pace.sensors[(2 : Fin 16)].paceMin = 0xFFFF ∧
    (s.registerRead (.core 0) .sys 0 0x108).out.getLast? = some (.readVal (.core 0) 0x04500500) ∧
    (s.registerRead .bmc .sys 0 0x108).pace = s.pace := by
  intro s
  and_intros <;> decide

/-- Die 0 with an operation. -/
def sDie (d : DieSt) : State := sBase (fun m => { m with dies := [(0, d)] })

theorem test_wit_SuspensionRules : (sDie { op := .erase 6 7 true, suspending := true }).live = true ∧
    ((sDie { op := .erase 6 7 true, suspending := true }).media.die 0).suspending = true ∧
    ((sDie { op := .erase 6 7 true, suspending := true }).media.die 0).op = .erase 6 7 true ∧
    ((sDie { op := .prog 1 0 0 0 2 1 false, suspending := true }).media.die 0).op = .prog 1 0 0 0 2 1 false ∧
    ((sDie {}).media.die 0).suspending = false ∧
    ((sDie { window := some (3, [(4, 0)], false) }).media.die 0).window = some (3, [(4, 0)], false) ∧
    ((sDie { op := .erase 6 1 false }).media.die 0).op = .erase 6 1 false ∧ ((sDie { op := .erase 6 1 false }).media.die 0).window = none ∧
    QOp.erase 5 ∈ ((sDie { queue := [.prog 1 0 0 0 0, .erase 5] }).media.die 0).visible ∧
    QOp.prog 1 0 0 0 0 ∈ ((sDie { queue := [.prog 1 0 0 0 0, .erase 5] }).media.die 0).visible ∧
    (sFch (fun f => { f with bus := [.cmd 1023 3] })).media.fch[(63 : Fin 64)].bus ≠ [] ∧ (sFch).media.fch[(63 : Fin 64)].bus = [] ∧
    Fch.nextXfer { bus := [.erase 0 1, .cmd 0 3] } = some (.cmd 0 3) ∧
    Fch.maySuspend {} (some (6, 7, true, true)) = true ∧ Fch.maySuspend {} (some (6, 0, false, true)) = true ∧
    Fch.maySuspend {} (some (6, 8, true, true)) = false ∧ Fch.maySuspend {} (some (6, 1, true, false)) = true ∧
    Fch.maySuspend {} (some (6, 2, true, false)) = false := by decide

/-- A rebuild of die 32; a closed stripe in block 1; a pounce of it. -/
def sReb (ph : Nat) : State := sBase (fun m => { m with rebuilds := [(32, { die := 32, phase := ph, records := 9 })] })
def stripeC : Stripe := { stripe0 1 with isOpen := false, closedAt := 1, total := 100 }
def sClosed (f : Media → Media := id) : State := sBase (fun m => f { m with stripes := [(1, stripeC)] })
def pnc (pend : Bool) : Pounce := { stripe := 1, die := 0, block := 1, trigger := 6, emerg := !pend, pending := pend }
def sPnc (pend : Bool) : State := sClosed (fun m => { m with pounces := [(1, pnc pend)], nextPounce := 2 })

theorem test_wit_RebuildAndRefresh : (sReb 1).live = true ∧ (sReb 1).media.rebuilds.get? 32 = some { die := 32, phase := 1, records := 9 } ∧
    (sReb 1).media.rebuildBusy 32 = false ∧
    (sReb 2).media.rebuilds.get? 32 = some { die := 32, phase := 2, records := 9 } ∧
    (sReb 2).media.rebuildBusy 32 = false ∧
    (sBase (fun m => { m with rebuilds := [(32, { die := 32, phase := 1 })], reads := [(1, { lad 0 1 with who := .rebuild1 32 })] })).media.rebuildBusy 32 = true ∧
    (sBase).media.dirtyPages.all (fun e => decide ((sBase).media.ringHead ≤ e.2)) = true ∧ (sBase).media.sysWait = [] ∧
    (sBase).media.rows.all (fun e => e.2.sys.isEmpty) = true ∧
    (sBase (fun m => { m with dirtyPages := [(0, 5)], map := [(5, .zero)], ringHead := 9 })).media.pageEntries 0 ≠ 0 ∧
    (0, 5) ∈ (sBase (fun m => { m with dirtyPages := [(0, 5)], map := [(5, .zero)], ringHead := 9 })).media.dirtyPages ∧
    (sClosed).live = true ∧ (sClosed).media.stripes.get? 1 = some stripeC ∧
    stripeC.members = (0, 1) :: ([32, 64, 96, 128, 160, 192, 224, 256, 288, 320, 352, 384, 416, 448, 480, 512, 544, 576, 608, 640, 672,
      704, 736, 768, 800, 832, 864, 896, 928, 960, 992].map (fun d => (d, 1))) ∧
    (sClosed).media.stripeClosed 1 stripeC = true ∧ (sClosed).media.ftl[Fin.ofNat 8 stripeC.group].scanEn = true ∧
    (sClosed).media.stripeOf 992 1 = some (1, stripeC) ∧ stripeScope 8 = false ∧ (8 : Nat) ≠ 2 ∧ (8 : Nat) ≠ 4 ∧ (992 : Nat) ≠ 0xFFFF ∧
    (sClosed).media.pounces.find? (fun e => decide (e.2.stripe = 1) && decide (e.2.die = 992) && decide (e.2.block = 1)) = none ∧
    (sClosed).media.victim = none ∧ (sClosed).media.ftl[sliceOf 992].pounceEn = true ∧
    (sPnc false).media.pounces.get? 1 = some (pnc false) ∧ (pnc false).pending = false ∧ (sPnc false).media.copying 1 = false ∧
    (sPnc true).media.pounces.get? 1 = some (pnc true) ∧ (pnc true).pending = true ∧
    (sBase).media.openStripe (.host 0) = some (1, stripe0 0) := by decide

/-- The bank in a state. -/
def sPlp (p : Plp) : State := { sRun with plp := p }

theorem test_wit_HoldUpBank :
    (sPlp { chgEn := false }).live = true ∧ (sPlp { chgEn := false }).plp.lasting = 0 ∧ (sPlp { chgEn := false }).plp.state ≠ .holding ∧
    (sPlp { chgEn := false, active := 1 }).plp.lasting ≠ 0 ∧ (sPlp { state := .precharge }).plp.state = .precharge ∧
    (sPlp { state := .boost }).plp.due = 0 ∧ (sPlp { state := .boost }).plp.state = .boost ∧
    (sPlp {}).plp.active.getLsbD (faultIdx .chgTimeout) = false ∧
    (sPlp { state := .fault, active := 0x20 }).plp.active = 0x20 ∧ (sPlp { state := .fault, active := 0x20 }).plp.chgEn = true ∧
    (sPlp { state := .full }).plp.state = .full ∧ (sPlp { state := .full }).plp.active = 0 ∧
    (sPlp {}).plp.isoClosed = false ∧ (sPlp {}).plp.state ≠ .holding ∧ (sPlp {}).plp.state ≠ .testing ∧
    (sPlp { state := .full }).pws.ps ≤ 2 ∧ (sPlp { state := .boost }).plp.state ≠ .full ∧
    (sPlp { state := .testing }).plp.state = .testing ∧ 500 ≤ (BankMeas.mk 1000 3000 500 false).fallMv ∧
    1000 ≤ (BankMeas.mk 1000 3000 500 false).cMeas ∧ (BankMeas.mk 1000 3000 499 false).fallMv < 500 ∧
    (sPlp { state := .testing, cInit := some 2000 }).plp.cInit = some 2000 ∧
    (sPlp { state := .testing, cInit := some 2000 }).plp.cInitReset = false ∧ (sPlp { state := .testing }).plp.cInit = none ∧
    BankFaultKind.short ≠ .chgTimeout ∧ (sPlp { state := .fault, active := 1 }).plp.active.getLsbD (faultIdx .short) = true := by decide

/-- A flush that has nothing left to program. -/
def sFlush : State := { sPh .flushing with plp := { state := .holding, pfail := true } }

/-- A flush with a line that is not yet on NAND. -/
def sFlushing : State := { sFlush with land := { lines := [(0, { st := .packed, ns := 0, granule := 0, cmdSeq := 1, data := [] })] } }

theorem test_wit_PowerLossFlush : sRun.phase = .running ∧ sRun.sees .vhost = true ∧ (sPlp { pfailEn := true }).sees .pfailIn = true ∧
    sFlush.boot.recoveryDue = false ∧ sFlush.land.lines.wf = true ∧ sFlush.phase = .flushing ∧
    sFlush.flushDone = true ∧ sFlush.plp.pfail = true ∧ sFlushing.phase = .flushing ∧ sFlushing.flushDone = false ∧
    (sPh .flushed).phase = .flushed ∧ (sPh .flushed).boot.recoveryDue = false ∧ (sPh .flushed).bst.op = none := by decide

/-- Sensor readings. -/
def sTemp (hot : Nat) (lv : Nat) (ph : Phase) (t : BitVec 16) : State :=
  { sPh ph with pws := { hot := hot, level := lv, temps := Vector.replicate 12 (t, 0) } }

theorem test_wit_ThermalLimits : sRun.live = true ∧ sRun.pws.level ≠ 4 ∧
    [(300 : Int), 1200][(1 : Fin 12).val]? = some 1200 ∧ [(300 : Int), 1200][(11 : Fin 12).val]? = none ∧
    (sTemp 10 3 .running 1200).phase = .running ∧ 10 ≤ (sTemp 10 3 .running 1200).pws.hot ∧ (sTemp 9 3 .running 1200).pws.hot < 10 ∧
    (sTemp 0 4 .thermalOff 899).phase = .thermalOff ∧ (sTemp 0 4 .thermalOff 899).junction < 900 ∧
    (sTemp 0 4 .thermalOff 899).bst.op = none ∧ 900 ≤ (sTemp 0 4 .thermalOff 900).junction := by decide

def sSup (w : Pws) : State := { sPh .supplies with pws := w }

theorem test_wit_StartSequence : State.reset.phase ≠ .auxReset ∧ State.reset.bst.op = none ∧ (sPh .auxReset).phase = .auxReset ∧
    (sSup { en1v8 := true }).phase = .supplies ∧ (sSup { en1v8 := true }).pws.en1v8 = true ∧ (sSup { en1v8 := true }).pws.pg1v8 = false ∧
    (sSup { enNand := true }).pws.enNand = true ∧ (sSup { enNand := true }).pws.pgNand = false ∧
    (sSup { enVcore := true }).pws.enVcore = true ∧ (sSup { enVcore := true }).pws.pgVcore = false ∧ (sPh .rom).phase = .rom ∧
    (sPh .firmware).phase = .firmware ∧ (sPh .firmware).dict.held = [] ∧ (sPh .firmware).plp.chgEn = true ∧ sRun.phase = .running := by decide

/-- The state the loader chooses in. -/
def sLoad (s : State) : State := State.checkSectors (State.loadRecord { s with evr := s.evr.journal })

/-- A trial image is running when the part is reset. -/
def sTrialOver : State := { sPh .slipway with boot := { state := .trial, tries := 2 } }

/- Whether an image of the image area verifies rests on `Config.sha384` and `Config.ecdsaOk`, of whose values nothing can be proved:
the clauses under `areaStarts = true` have their witness under that assumption. An image area that is blank does not start. -/
theorem test_wit_LoaderChoosesImage : (sPh .slipway).phase = .slipway ∧ (sLoad (sPh .slipway)).boot.trialOver = false ∧
    (sLoad (sPh .slipway)).boot.areaChosen = true ∧ (sLoad (sPh .slipway)).areaStarts = false ∧
    (sLoad (sPh .slipway)).rollbackStarts = none ∧ sTrialOver.phase = .slipway := by decide +kernel

/-- A rollback copy stands in the system band. -/
def sRollback (img : List Byte) : State := { sPh .slipway with boot := { rollback := some img } }

theorem test_wit_LoaderChoosesImage_verified (img : List Byte) (h : verifyImage img none none = none) :
    (sRollback img).rollbackStarts = some img := by
  change (if (verifyImage img (sRollback img).cosign none).isNone then some img else none) = _
  rw [show (sRollback img).cosign = none from rfl, h]
  rfl

theorem test_wit_RecoveryAndWake : (sPh .recovering).phase = .recovering ∧ (sPh .recovering).pws.drFlag = false ∧
    ({ sPh .recovering with boot := { replayDue := true } } : State).boot.replayDue = true ∧
    (sPh .deepRest).phase = .deepRest ∧ (sPh .deepRest).bst.op = none ∧
    ({ sPh .deepRest with pws := { rest := some (Vector.replicate 2 cOn) } } : State).pws.rest = some (Vector.replicate 2 cOn) := by
  refine ⟨rfl, rfl, rfl, rfl, rfl, rfl⟩

/-- A power-state entry to `tg` in phase `ph`. -/
def ent (tg ph : Nat) (a : Tbl 4 (BitVec 2)) : PsEntry := { target := tg, phase := ph, answers := a, apst := true, port := 0 }
def sEnt (tg ph : Nat) (a : Tbl 4 (BitVec 2)) : State := { sRun with pws := { entry := some (ent tg ph a) } }

def sIdle (dual : Bool) : State :=
  { sUp with board := { peDual := dual }, cmq := { sUp.cmq with ctrls := Vector.replicate 2 { cOn with ps := 0 } } }

theorem test_wit_PowerStateEntry :
    (∀ b, (sIdle b).phase = .running ∧ (sIdle b).param 0x7000 3 ≠ 1 ∧ 0 ∈ (sIdle b).portList ∧ (sIdle b).idle 0 = true ∧
      (sIdle b).pws.entry = none ∧ ((sIdle b).ctrl 0).apstTarget = some 3 ∧ (sIdle b).pws.ps < 3) ∧
    (sIdle true).dual = true ∧ ((sIdle true).ctrl 1).ps < 3 ∧
    (sEnt 4 1 (Vector.replicate 4 0)).pws.entry = some (ent 4 1 (Vector.replicate 4 0)) ∧ (sEnt 4 1 (Vector.replicate 4 0)).prepared = true ∧
    (sEnt 4 2 #v[1, 1, 1, 0]).pws.entry = some (ent 4 2 #v[1, 1, 1, 0]) ∧ (sEnt 4 2 #v[1, 1, 1, 0]).domainRefuses 3 4 = none ∧
    (∀ k : Fin 4, k ≠ 3 → (ent 4 2 #v[1, 1, 1, 0]).answers[k] = 1) ∧
    (sEnt 4 2 #v[0, 1, 0, 0]).domainRefuses 3 4 = none ∧ (ent 4 2 #v[0, 1, 0, 0]).answers[(0 : Fin 4)] ≠ 1 ∧
    ({ sEnt 3 2 #v[0, 0, 0, 0] with cmq := { paused := true } } : State).domainRefuses 0 3 = some 0x11 ∧
    (ent 3 2 #v[0, 0, 0, 3]).answers[(3 : Fin 4)] = 3 ∧ (sEnt 3 2 #v[0, 0, 0, 3]).pws.ps ≠ 3 ∧
    ({ sRun with pws := { ps := 2 } } : State).pws.ps = 2 ∧ ((7 : Fin 8).val, 6) ∉ ({ sRun with pws := { ps := 2 } } : State).pws.gated ∧
    sRun.live = true ∧ 2 < ({ sRun with pws := { ps := 3 } } : State).pws.ps := by decide

theorem test_wit_SuppliesAndCrystal :
    (sSup { en1v8 := true, retries := 2, failSupply := 2 }).phase = .supplies ∧
    (sSup { en1v8 := true, retries := 2, failSupply := 2 }).pws.enabled .v1p8 = true ∧
    (sSup { en1v8 := true, retries := 2, failSupply := 2 }).pws.good .v1p8 = false ∧
    (sSup { en1v8 := true, retries := 2, failSupply := 2 }).pws.failSupply.toNat = supplyCode .v1p8 ∧
    (sSup { en1v8 := true, retries := 3, failSupply := 2 }).pws.failSupply.toNat = supplyCode .v1p8 ∧
    3 ≤ (sSup { en1v8 := true, retries := 3, failSupply := 2 }).pws.retries ∧
    (sPh .rom).starting = true ∧ (sPh .rom).pws.xoTimedOut = false ∧ (sPh .rom).tb.srcAct = .crystal ∧
    (sSup { xoTimedOut := true }).pws.xoTimedOut = true ∧ (sSup { xoTimedOut := true }).pws.xoReady = false := by decide

/-- The bank is charged, tested and without a fault. -/
def charged (s : State) : State := { s with plp := { state := .full, tested := true } }

/-- A Download or a Commit that no guard refuses. -/
def sFw (opc : Nat) (f : Boot → Boot := id) : State := let s := charged (withCmd sUp (cAdm opc)); { s with boot := f s.boot }
def piece (n : Nat) : List Byte := List.replicate n 0x55

/-- A command that waits for its data. -/
def cWait (opc : Nat) : Cmd := { cAdm opc with phase := .waitData }
def sFwWait (opc : Nat) (f : Boot → Boot) : State := let s := charged (withCmd sUp (cWait opc)); { s with boot := f s.boot }

theorem test_wit_ImageDownloaded : (sFw 0x11).AdminReady 1 0x11 (cAdm 0x11) ∧ (sFw 0x11).fwGuard = none ∧ 16756736 % 4096 = 0 ∧
    (piece 4096).length % 4096 = 0 ∧ piece 4096 ≠ [] ∧ 16756736 + (piece 4096).length ≤ 16760832 ∧ (sFw 0x11).boot.bound = none ∧
    (∀ i ∈ pieceList 16756736 (piece 4096).length, i ∉ (sFw 0x11).boot.covered) ∧ (sFw 0x11).boot.covered = [] ∧
    (sFw 0x11 (fun b => { b with staged := [0], bound := some 0 })).AdminReady 1 0x11 (cAdm 0x11) ∧
    (sFw 0x11 (fun b => { b with staged := [0], bound := some 0 })).boot.bound = some (cAdm 0x11).port ∧
    (sFw 0x11 (fun b => { b with staged := [0], bound := some 0 })).boot.covered ≠ [] ∧
    (withCmd sUp (cAdm 0x11)).AdminReady 1 0x11 (cAdm 0x11) ∧ (withCmd sUp (cAdm 0x11)).fwGuard = some .vsC1 ∧
    (sFwWait 0x11 (fun b => { b with pieces := [(1, 0, piece 4096)] })).Flying 1 (cWait 0x11) .waitData ∧
    (sFwWait 0x11 (fun b => { b with pieces := [(1, 0, piece 4096)] })).boot.pieces.get? 1 = some (0, piece 4096) ∧
    memWf 0xFF (sFwWait 0x11 (fun b => { b with pieces := [(1, 0, piece 4096)] })).bst.mem = true := by
  have h : (piece 4096).length = 4096 := List.length_replicate
  refine ⟨⟨flies _ q0 (by decide), .none, rfl⟩, by decide, by decide, by rw [h], ?_, by rw [h], rfl, ?_, by decide,
    ⟨flies _ q0 (by decide), .none, rfl⟩, rfl, by decide, ⟨flies _ q0 (by decide), .none, rfl⟩, by decide,
    ⟨rfl, rfl, rfl, rfl, ⟨rfl, rfl, ⟨q0, rfl, by decide⟩, rfl⟩, nofun⟩, rfl, rfl⟩
  · intro e; rw [e] at h; exact absurd h (by decide)
  · intro i _ hi; exact absurd hi (by simp [Boot.covered, sFw, charged, withCmd, sUp, sRun])

/-- The image area is being written for a Commit. -/
def sArea (a : Nat) (f : Boot → Boot := id) : State := sFwWait 0x10 (fun b => f { b with commit := some (1, a), state := .writing })

theorem test_wit_FirmwareCommitted : (sFw 0x10).AdminReady 1 0x10 (cAdm 0x10) ∧ (sFw 0x10).commitGuard = none ∧
    (sFw 0x10).boot.updating = false ∧ (withCmd sUp (cAdm 0x10)).AdminReady 1 0x10 (cAdm 0x10) ∧
    (withCmd sUp (cAdm 0x10)).commitGuard = some .vsC1 ∧
    (sFw 0x10 (fun b => { b with state := .trial })).AdminReady 1 0x10 (cAdm 0x10) ∧
    (sFw 0x10 (fun b => { b with state := .trial })).boot.updating = true ∧
    (sArea 0).Flying 1 (cWait 0x10) .waitData ∧ (sArea 0).boot.commit = some (1, 0) ∧
    (sArea 3).Flying 1 (cWait 0x10) .waitData ∧ (sArea 3).boot.commit = some (1, 3) ∧
    sRun.live = true ∧ ({ sRun with boot := { rewriting := true } } : State).boot.rewriting = true := by
  and_intros <;> first
    | exact ⟨flies _ q0 (by decide), .none, rfl⟩
    | exact ⟨rfl, rfl, rfl, rfl, ⟨rfl, rfl, ⟨q0, rfl, by decide⟩, rfl⟩, nofun⟩
    | rfl

/-- The hand-over of the running image lies in the range of a blank staging's header. -/
def sHand : Boot → Boot := fun b => { b with run := List.replicate 512 0xFF }

theorem test_wit_FirmwareCommitted_handover :
    handoverBad (sArea 1).boot.run ((sArea 1).bst.image stagingFirst) = true ∧
    handoverBad (sArea 1 sHand).boot.run ((sArea 1 sHand).bst.image stagingFirst) = false := by decide +kernel

/-- A ferry activation of the Commit under FSEQ 1. -/
def sFerry (f : Ferry) : State := sFwWait 0x10 (fun b => { b with ferry := f, ferryFseq := some 1, state := .activating })
def sTrial (f : Boot → Boot) : State :=
  { held sRun with boot := f { sRun.boot with state := .trial, imageSeq := 9 }, units := { sRun.units with cores := Vector.replicate 32 { alive := true } } }

theorem test_wit_FerryAndTrial : (sFerry .prepared).live = true ∧ (sFerry .prepared).boot.ferry = .prepared ∧ (sFerry .prepared).media.ckptDue = none ∧
    (sFerry .prepared).commitGuard = none ∧ (sFerry .paused).boot.ferry = .paused ∧ (sFerry .paused).drained = true ∧
    (sFerry .drained).Flying 1 (cWait 0x10) .waitData ∧ (sFerry .drained).boot.ferry = .drained ∧
    (sFerry .drained).boot.ferryFseq = some 1 ∧ (sFerry .drained).dict.held = [] ∧ (sFerry .paused).Flying 1 (cWait 0x10) .waitData ∧
    sRun.live = true ∧ sRun.boot.armed = none ∧ (sTrial (fun b => { b with armed := some (9, 0) })).boot.armed = some (9, 0) ∧
    (sTrial id).live = true ∧ (28 : Fin 32) = 28 ∧ (sTrial id).boot.state = .trial ∧ (9 : BitVec 32) = (sTrial id).boot.imageSeq ∧
    (sTrial id).healthy = true ∧ (27 : Fin 32) ≠ 28 ∧ (30 : Fin 32) ≠ 29 ∧
    (sTrial (fun b => { b with copying := true })).boot.copying = true ∧ (sTrial id).phase = .running ∧
    (sPh .trialFlush).phase = .trialFlush ∧ (sPh .trialFlush).plp.pfail = false ∧ (sPh .trialFlush).flushDone = true := by
  and_intros <;> first
    | exact ⟨rfl, rfl, rfl, rfl, ⟨rfl, rfl, ⟨q0, rfl, by decide⟩, rfl⟩, nofun⟩
    | rfl
    | decide

/-- One I/O command of namespace 1 with the keys held. -/
def sIo (c : HostCmd) (n : Namespace := ns1) : State := withCmd (held (withNs sUp n)) (cIo c)

/-- Granule 0 in a line, granule 1 TRIMMED. -/
def sIoL (c : HostCmd) : State := { sIo c with land := { lines := [(9, line0 .committed)] } }

theorem atHand01 (c : HostCmd) : ∀ g ∈ rangeGranules ns1 [(0, 2)],
    (∃ d, (sIoL c).source 0 ns1 g = .line d) ∨ (sIoL c).source 0 ns1 g = .zeros := by
  intro g hg
  have : g = 0 ∨ g = 1 := by
    have e : rangeGranules ns1 [(0, 2)] = [0, 1] := by decide
    simpa [e] using hg
  rcases this with rfl | rfl
  · exact .inl ⟨List.replicate 8 5, rfl⟩
  · exact .inr rfl

theorem test_wit_OtherIoCommands :
    (sIoL (.flush (some 1))).Flying 1 (cIo (.flush (some 1))) .ready ∧ (sIoL (.flush (some 1))).nsOf 0 1 = some (0, ns1) ∧
    (∃ e ∈ (sIoL (.flush (some 1))).land.lines, e.2.ns = 0 ∧ e.2.wt = false ∧ (e.2.st = .committed ∨ e.2.st = .packed)) ∧
    (sIo (.flush (some 1))).Flying 1 (cIo (.flush (some 1))) .ready ∧ (sIo (.flush (some 1))).land.lines = [] ∧
    (sIoL (.compare rreq)).ReadReady 1 0 ns1 [(0, 2)] (cIo (.compare rreq)) ∧
    (sIoL (.verify rreq)).ReadReady 1 0 ns1 [(0, 2)] (cIo (.verify rreq)) ∧
    (sIoL (.copy 1 8 0 [(0, 2)])).ReadReady 1 0 ns1 [(0, 2)] (cIo (.copy 1 8 0 [(0, 2)])) ∧
    (cIo (.copy 1 8 0 [(0, 2)])).wdata = [] := by
  and_intros <;> first
    | exact flies _ q1 (by decide)
    | exact ⟨(9, line0 .committed), List.mem_singleton.mpr rfl, rfl, rfl, .inl rfl⟩
    | exact ⟨flies _ q1 (by decide), ⟨none, rfl, by decide⟩, atHand01 _⟩
    | rfl

theorem test_wit_OtherIoCommands_zeroes :
    (sIo (.writeZeroes 1 1022 2 true)).Flying 1 (cIo (.writeZeroes 1 1022 2 true)) .ready ∧
    (sIo (.writeZeroes 1 1022 2 true)).cmq.cmds = [(1, cIo (.writeZeroes 1 1022 2 true))] ∧ 1022 + 2 ≤ ns1.nlbas ∧
    (sIo (.writeZeroes 1 1022 2 true)).media.protected_ = false ∧ (sIo (.writeZeroes 1 1022 2 true)).readOnly = false ∧
    (sIo (.writeZeroes 1 1022 2 true)).deniedRun 0 ns1 1022 2 none true = false ∧ ns1.partUnits 1022 2 = [] ∧
    (sIo (.writeZeroes 1 1022 2 true)).media.absentIn 0 [ns1.wholeRun 1022 2] = [] ∧
    (sIo (.dsm 1 true [(0, 0), (1022, 2)])).media.absentIn 0 [ns1.wholeRun 1022 2] = [] ∧
    (sIo (.dsm 1 true [(0, 0), (1022, 2)])).Flying 1 (cIo (.dsm 1 true [(0, 0), (1022, 2)])) .ready ∧
    (sIo (.dsm 1 true [(0, 0), (1022, 2)])).cmq.cmds = [(1, cIo (.dsm 1 true [(0, 0), (1022, 2)]))] ∧
    (∀ r ∈ [((0 : Nat), (0 : Nat)), (1022, 2)], r.1 + r.2 ≤ ns1.nlbas) ∧
    (∀ r ∈ [((0 : Nat), (0 : Nat)), (1022, 2)], r.2 ≠ 0 →
      (sIo (.dsm 1 true [(0, 0), (1022, 2)])).deniedRun 0 ns1 r.1 r.2 none true = false) ∧
    (sIo (.dsm 1 false [(1023, 1)])).Flying 1 (cIo (.dsm 1 false [(1023, 1)])) .ready ∧
    (sIo (.dsm 1 false [(1023, 1)])).nsOf 0 1 = some (0, ns1) := by
  and_intros <;> first
    | exact flies _ q1 (by decide)
    | rfl
    | decide

/-- Port 0 is registered with key 5 and holds a reservation of a type; port 1 is not. -/
def resv (t : Nat) : Reservation := { regs := [{ port := 0, key := 5 }], holder := some 0, rtype := t }
def nsPl (p : Nat) : Namespace := { ns1 with placement := p }

/-- Namespace 1 places its data by reclaim unit handles; stripe 1 is that of handle 0. -/
def sFdp (c : HostCmd) : State :=
  let s := sIo c (nsPl 1)
  sMed (fun m => { mBase m with namespaces := [(0, nsPl 1)], fdp := true }) s

theorem test_wit_ReservationsAndPlacement :
    (sIo (.resv 0x0D 1)).Flying 1 (cIo (.resv 0x0D 1)) .ready ∧ (sIo (.resv 0x11 1)).Flying 1 (cIo (.resv 0x11 1)) .ready ∧
    (sIo (.resv 0x15 1)).Flying 1 (cIo (.resv 0x15 1)) .ready ∧ (sIo (.resv 0x0E 1)).Flying 1 (cIo (.resv 0x0E 1)) .ready ∧
    (sIo (.resv 0x0E 1)).nsOf 0 1 = some (0, ns1) ∧
    (({} : Reservation).register 0 0 false 0 5).isSome = true ∧ ({} : Reservation).register 0 1 false 0 5 = none ∧
    (({ resv 0 with holder := none } : Reservation).acquire 0 0 6 false 5 0).isSome = true ∧ ({} : Reservation).acquire 0 0 6 false 5 0 = none ∧
    (resv 1).release 0 0 1 false 5 = .ok { resv 1 with holder := none, rtype := 0 } ∧
    (({} : Reservation).release 0 0 1 false 5).toOption = none ∧ ({} : Reservation).keyOf 1 = none ∧
    ({ resv 0 with holder := none } : Reservation).keyOf 0 = some 5 ∧ (resv 3).keyOf 0 = some 5 ∧ (resv 3).holder = some 0 ∧
    (0 : Fin 2) ≠ 1 ∧
    (sFdp (.ioMgmtRecv 1)).Flying 1 (cIo (.ioMgmtRecv 1)) .ready ∧ (sFdp (.ioMgmtRecv 1)).nsOf 0 1 = some (0, nsPl 1) ∧
    (sIo (.ioMgmtRecv 1)).Flying 1 (cIo (.ioMgmtRecv 1)) .ready ∧ ns1.placement ≠ 1 ∧
    (sFdp (.ioMgmtSend 1 [0])).Flying 1 (cIo (.ioMgmtSend 1 [0])) .ready ∧ 0 < (sFdp (.ioMgmtSend 1 [0])).media.handleMax ∧
    (sFdp (.ioMgmtSend 1 [0])).media.openStripe (.host 0) = some (1, stripe0 0) := by
  and_intros <;> first
    | exact flies _ q1 (by decide)
    | exact is_ok (by decide)
    | rfl
    | decide

/-- A zoned namespace of two zones of 2,048 granules, zone 0 in a state. -/
def nsZ (st : ZoneSt) (wp : Nat) : Namespace :=
  { ns1 with nlbas := 4096, zoned := true, placement := 2, zones := [(0, { st := st, wp := wp, cap := 1488 })] }
def sZone (c : HostCmd) (n : Namespace) : State := sMed (fun m => { mBase m with namespaces := [(0, n)] }) (sIo c n)

theorem test_wit_ZonesManaged :
    (sZone (.zoneSend 1 2048 false .openZone) (nsZ .empty 0)).Flying 1 (cIo (.zoneSend 1 2048 false .openZone)) .ready ∧
    (sZone (.zoneSend 1 2048 false .openZone) (nsZ .empty 0)).cmq.cmds = [(1, cIo (.zoneSend 1 2048 false .openZone))] ∧
    (sZone (.zoneSend 1 2048 false .openZone) (nsZ .empty 0)).nsOf 0 1 = some (0, nsZ .empty 0) ∧
    2048 * (nsZ .empty 0).spb = 1 * (sZone (.zoneSend 1 2048 false .openZone) (nsZ .empty 0)).media.zoneSize * 8 ∧
    (nsZ .empty 0).granuleOf 2048 / (sZone (.zoneSend 1 2048 false .openZone) (nsZ .empty 0)).media.zoneSize = 1 ∧
    ((sZone (.zoneSend 1 2048 false .openZone) (nsZ .empty 0)).zone (nsZ .empty 0) 1).st = .empty ∧
    (sZone (.zoneSend 1 2048 false .openZone) (nsZ .empty 0)).media.activeMax ≤
      (sZone (.zoneSend 1 2048 false .openZone) (nsZ .empty 0)).media.zonesWith ZoneSt.active ∧
    (sZone (.zoneSend 1 0 false .close) (nsZ .implOpen 0)).Flying 1 (cIo (.zoneSend 1 0 false .close)) .ready ∧
    ((sZone (.zoneSend 1 0 false .close) (nsZ .implOpen 0)).zone (nsZ .implOpen 0) 0).st.isOpen = true ∧
    (sZone (.zoneSend 1 0 false .openZone) (nsZ .closed 9)).Flying 1 (cIo (.zoneSend 1 0 false .openZone)) .ready ∧
    ((sZone (.zoneSend 1 0 false .openZone) (nsZ .closed 9)).zone (nsZ .closed 9) 0).st = .closed ∧
    (sZone (.zoneSend 1 0 false .reset) (nsZ .full 1488)).Flying 1 (cIo (.zoneSend 1 0 false .reset)) .ready ∧
    ((sZone (.zoneSend 1 0 false .reset) (nsZ .full 1488)).zone (nsZ .full 1488) 0).st = .full ∧
    (sZone (.zoneSend 1 0 false .reset) (nsZ .full 1488)).deniedRun 0 (nsZ .full 1488) 0 1 none true = false ∧
    (sZone (.zoneSend 1 0 false .reset) (nsZ .full 1488)).media.absentIn 0 [(0, 2048)] = [] ∧
    zoneMay .close .empty = some .invalidZoneTransition ∧
    (sZone (.zoneSend 1 0 false .close) (nsZ .empty 0)).Flying 1 (cIo (.zoneSend 1 0 false .close)) .ready ∧
    (sZone (.zoneRecv 1 4095) (nsZ .empty 0)).Flying 1 (cIo (.zoneRecv 1 4095)) .ready ∧ (nsZ .empty 0).zoned = true ∧
    4095 < (nsZ .empty 0).nlbas := by
  and_intros <;> first
    | exact flies _ q1 (by decide)
    | rfl
    | decide

/-- A zone append at the write pointer 8 of zone 0, implicitly open. -/
def appReq : WriteReq := { nsid := 1, slba := 0, nlb := 2 }
def dZ : Dest := { ns := 0, n := nsZ .implOpen 8, slba := 8, nlb := 2, handle := 0, raw := false, tag := none, cmb := [] }

theorem test_wit_ZonesManaged_append :
    (sZone (.zoneAppend appReq) (nsZ .implOpen 8)).MayLand 1 (cIo (.zoneAppend appReq)) dZ ∧
    appReq.nlb * (nsZ .implOpen 8).spb ≤ 512 ∧
    appReq.slba * (nsZ .implOpen 8).spb = (nsZ .implOpen 8).granuleOf 0 / (sZone (.zoneAppend appReq) (nsZ .implOpen 8)).media.zoneSize *
      (sZone (.zoneAppend appReq) (nsZ .implOpen 8)).media.zoneSize * 8 ∧
    (sZone (.zoneAppend appReq) (nsZ .implOpen 8)).land.alloc dZ.granules.length = some [0, 1] :=
  ⟨by constructor <;> decide, by decide, by decide, by decide⟩

/-- Both ports in use. -/
def dualOf (s : State) : State := { s with board := { peDual := true } }

/-- A DRAM channel has failed, and the degraded state is due at the next restart. -/
def degr (s : State) : State := { s with dram := { s.dram with chs := s.dram.chs.upd 15 (fun c => { c with failed := true }) } }

theorem test_wit_ControllerResets : (dualOf sUp).live = true ∧ (dualOf sUp).asleep = false ∧ 1 ∈ (dualOf sUp).portList ∧
    (dualOf sUp).degradeDue = false ∧ (dualOf sUp).pws.entry = none ∧ (dualOf sUp).pws.ps ≠ 3 ∧ (dualOf sUp).linkUp 1 = true ∧
    ((dualOf sUp).ctrl 1).en = true ∧ (dualOf sUp).ports[(1 : Fin 2)].perst = false ∧ (0 : Fin 2) ≠ 1 ∧
    (degr sUp).live = true ∧ (degr sUp).asleep = false ∧ 0 ∈ (degr sUp).portList ∧ (degr sUp).degradeDue = true ∧
    (degr sUp).linkUp 0 = true ∧ ((degr sUp).ctrl 0).en = true ∧
    ((sCtl (fun c => { c with en := false })).ctrl 0).en = false ∧ (sCtl (fun c => { c with en := false })).linkUp 0 = true := by decide

/-- A read in flight. -/
def sBusy : State := withCmd sUp (cIo (.read rreq) .reading)
/-- The supplies have failed; PERST# is asserted on both ports. -/
def sWakeF (ph : Phase) : State := { sPh ph with ports := Vector.replicate 2 { perst := true } }
def sLink (l : LinkSt) : State := sPort (fun q => { q with link := l })
def sIde (a : Bool) : State := sPort (fun q => { q with ide := .secure, cnt := { q.cnt with active := a } })

theorem test_wit_ShutdownAndLink : sUp.live = true ∧ (sUp.ctrl 0).en = true ∧ (sUp.ctrl 0).shst ≠ 2 ∧ sBusy.busyCmds 0 = true ∧
    sUp.busyCmds 0 = false ∧ sUp.media.rows = [] ∧ sUp.media.copyWait = [] ∧ sUp.land.lines = [] ∧
    (sWakeF .wakeFault).ports[(1 : Fin 2)].perst = true ∧ (sWakeF .wakeFault).phase = .wakeFault ∧
    (sWakeF .running).phase ≠ .off ∧ (sWakeF .running).phase ≠ .wakeFault ∧
    ((sWakeF .running).setPort 0 (fun q => { q with perst := false })).canTrain 0 = true ∧ (sWakeF .running).canTrain 1 = false ∧
    (sLink .detect).canTrain 0 = true ∧ (sLink .detect).linkUp 0 = false ∧ sUp.ports[(0 : Fin 2)].link = .l0 ∧
    sUp.param 0x2000 1 = 1 ∧ (sLink .l0p).ports[(1 : Fin 2)].link = .l0p ∧ (sLink .l0p).quiet 0 = true ∧ sBusy.quiet 0 = false ∧
    (sLink .l1).ports[(0 : Fin 2)].link = .l1 ∧ (sIde true).ports[(1 : Fin 2)].ide = .secure ∧
    (sIde true).ports[(1 : Fin 2)].cnt.active = true := by decide

/-- A lent channel runs. -/
def sLent : State :=
  let s := sPort (fun q => { q with cnt := { q.cnt with trigEn := 0xFF } })
  { withCmd s (cIo (.read rreq) .ready) with sdm := { chs := Vector.replicate 16 { en := true, state := .running, end_ := false } } }

theorem test_wit_Containment : sLent.live = true ∧ sLent.ports[(0 : Fin 2)].cnt.active = false ∧ sLent.boot.ferryFseq = none ∧
    sLent.ports[(0 : Fin 2)].cnt.trigEn.getLsbD 1 = true ∧ sLent.ports[(0 : Fin 2)].cnt.trigEn.getLsbD 2 = true ∧
    sLent.ports[(0 : Fin 2)].cnt.trigEn.getLsbD 3 = true ∧ (15 : Fin 16) ∈ sLent.lentOf 0 ∧
    sLent.sdm.chs[(15 : Fin 16)].state = .running ∧ sCont.ports[(1 : Fin 2)].cnt.active = true ∧
    sCont.ports[(1 : Fin 2)].cnt.fatesValid = true ∧ sCont.ports[(1 : Fin 2)].cnt.causes &&& 0xF0 = 0 ∧ (sCont.ctrl 1).en = true ∧
    (sCont.ctrl 1).dbLatch = [] ∧ sCont.ports[(1 : Fin 2)].cnt.fates = [] ∧
    (sCont [⟨1, 7, 1, 2, 2, some .success⟩]).ports[(0 : Fin 2)].cnt.fates = [⟨1, 7, 1, 2, 2, some .success⟩] ∧
    (sCont [⟨1, 7, 1, 4, 2, none⟩]).ports[(0 : Fin 2)].cnt.fates = [⟨1, 7, 1, 4, 2, none⟩] ∧
    ((sCont []).ctrl 0).cqs.get? (((sCont []).ctrl 0).cqOf 1) = some q1 ∧ q1.used + 1 < q1.size ∧ (sCont []).mayWrite 0 = true ∧
    (sCont [] 0x80).ports[(0 : Fin 2)].cnt.causes &&& 0xF0 ≠ 0 ∧
    (cIo (.read rreq) .waitLocks).got = [] ∧ runsOn (cAdm 0x80).cmd = runsOn (cAdm 0x80).cmd := by decide

theorem test_wit_Containment_poison : (sIo (.read rreq)).Flying 1 (cIo (.read rreq)) .ready ∧ (cIo (.read rreq)).port = 0 ∧
    (sPort (fun q => { q with cnt := { q.cnt with trigEn := 0xC1 } })).ports[(0 : Fin 2)].cnt.trigEn.getLsbD 2 = false :=
  ⟨flies _ q1 (by decide), rfl, by decide⟩

/-- A recorder with a record, and an event that repeats it, or not. -/
def evA : Ev := ⟨0x4100, 0x10, [1, 2]⟩
def recA : EventRec :=
  { code := 0x4100, source := 0x10, severity := severityOf 0x4100, data := padTo 16 0 [1, 2], seq := 0, opsec := 0, pcc := 0, hostTs := none }
def evrA : Evr := { journalUp := true, recs := [recA], next := 1 }

theorem test_wit_EventsRecorded : (evrA.journalUp = true → evrA.early = []) ∧ evrA.last = some recA ∧ recA.code = evA.code ∧
    recA.source = BitVec.ofNat 8 evA.src ∧ recA.data = padTo 16 0 evA.data ∧
    (({} : Evr).journalUp = false ∧ ({} : Evr).early = [] ∧ ({} : Evr).last = none) ∧ (evA.code / 4096 ≠ 1 ∧ evA.code / 4096 ≠ 5) ∧
    (({} : Evr).tokens.get? evA.code).getD 16 ≠ 0 ∧ ({} : Evr).early.length < 64 ∧
    64 ≤ ({ early := List.replicate 64 recA } : Evr).early.length ∧
    (({ tokens := [(0x4100, 0)] } : Evr).tokens.get? evA.code).getD 16 = 0 ∧ sRun.live = true ∧
    ({ sRun with evr := { tokens := [(0x4100, 15)] } } : State).evr.tokens.get? 0x4100 = some 15 ∧
    ({ sRun with evr := evrA } : State).evr.recs = [recA] ∧ sRun.evr.recs = [] ∧
    ({ sRun with clocks := { ts := .running } } : State).clocks.ts = .running := by
  and_intros <;> first
    | exact fun _ => rfl
    | exact ⟨rfl, rfl, rfl⟩
    | rfl
    | decide

/-- BAR2/3 window 1 is the persistent memory region, window 0 of BAR4/5 and the others are not mapped, window 2 is the target 4. -/
def sBar (nrdy : Bool) (f : PcPort → PcPort := id) : State :=
  let s := sPort (fun q => f { q with act2 := (q.act2.upd 63 (fun _ => { target := 1, base := 0 })).upd 2 (fun _ => { target := 4, base := 0 }) })
  { s with land := { s.land with
      pmr := Vector.replicate 2 { mib := 32, nrdy := nrdy }
      cmb := Vector.replicate 2 { dataMib := 1, unbound := [3], data := [(255, List.replicate 8 0)] } } }

theorem test_wit_PersistentRegionAndWindows : (sBar false).live = true ∧ (sBar false).linkUp 0 = true ∧ (sBar false).barRefusal 0 2 = none ∧
    2113929216 / 33554432 = (2113929216 + (piece 4).length - 1) / 33554432 ∧ (sBar false).ports[(0 : Fin 2)].target 2 (2113929216 / 33554432) = 1 ∧
    (sBar false).land.pmr[(0 : Fin 2)].nrdy = false ∧ (sBar true).land.pmr[(0 : Fin 2)].nrdy = true ∧
    (sBar true).ports[(0 : Fin 2)].target 2 (67108864 / 33554432) = 4 ∧
    67108864 / 33554432 = (67108864 + (piece 4).length - 1) / 33554432 ∧
    (sBar false).land.cmb[(0 : Fin 2)].bound 255 = true ∧ (sBar false).land.cmb[(0 : Fin 2)].bound 256 = false ∧
    (sBar false).land.cmb[(0 : Fin 2)].bound 254 = true ∧ (sBar false).land.cmb[(0 : Fin 2)].data.get? 254 = none ∧
    ((sBar false).land.cmb[(0 : Fin 2)].data.get? 255).isSome = true ∧
    (sBar false).barRefusal 0 4 = none ∧ (sBar false).ports[(0 : Fin 2)].target 4 (0 / winSize 4) = 0 ∧
    (sBar false).ports[(0 : Fin 2)].target 2 (33554432 / winSize 2) = 0 ∧ (4 : Nat) ≠ 0 ∧
    33554430 / winSize 2 ≠ (33554430 + 4 - 1) / winSize 2 ∧
    sCont.linkUp 0 = true ∧ sCont.ports[(0 : Fin 2)].cnt.active = true ∧ sCont.asleep = false ∧ sCont.param 0x2000 4 ≠ 1 := by decide

theorem test_wit_ConfigurationSpace : sUp.linkUp 1 = true ∧ sUp.configReady = true ∧
    ({ sUp with phase := .rom } : State).configReady = false ∧ ({ sUp with phase := .rom } : State).linkUp 0 = true ∧
    (0xFFC / 4 * 4 ≠ 0x334 ∧ 0xFFC / 4 * 4 ≠ 0x338) ∧ 0x337 / 4 * 4 = 0x334 ∧ sUp.live = true ∧
    (0xFF : BitVec 32).getLsbD 8 = false ∧ (0xFF : BitVec 32).getLsbD 9 = false ∧ sUp.ports[(0 : Fin 2)].cnt.active = false ∧
    (0x100 : BitVec 32).getLsbD 8 = true ∧ (0x100 : BitVec 32).getLsbD 9 = false ∧ 0x33B / 4 * 4 = 0x338 := by decide

/-- DRAM channel 15 in a state. -/
def sDr (f : DramCh → DramCh := id) (s : State := sUp) : State := { s with dram := { s.dram with chs := s.dram.chs.upd 15 f } }
def tx : DramTxn := { bursts := 129, bank := 15, row := 7 }

/-- The raised requests of a round: classes 0 and 1, at the highest priority. -/
def rnd : DramCh := [((1 : Fin 12), tx), (0, tx)].foldl DramCh.raise { (sDr).dch 15 with grant := none }
/-- Class 9 has waited to its limit. -/
def starve9 (d : DramCh) : DramCh := { d with arb := d.arb.upd 9 (fun a => { a with txn := some tx, wait := 256 }) }
def rnd9 : DramCh := [((1 : Fin 12), tx), (0, tx)].foldl DramCh.raise { (sDr starve9).dch 15 with grant := none }

theorem rnd_first : ∀ j : Fin 12, j.val < 10 → rnd.arb[j].txn.isSome → rnd.arb[j].prio ≤ rnd.arb[(0 : Fin 12)].prio ∧
    (rnd.arb[j].prio = rnd.arb[(0 : Fin 12)].prio → rnd.rowHit j = true → rnd.rowHit 0 = true) ∧
    (rnd.arb[j].prio = rnd.arb[(0 : Fin 12)].prio → j ≠ 0 → rnd.rowHit j = rnd.rowHit 0 →
      rotation rnd.lastAt[rnd.arb[(0 : Fin 12)].prio.toFin] 0 < rotation rnd.lastAt[rnd.arb[(0 : Fin 12)].prio.toFin] j) := by decide

theorem test_wit_DramRounds : (sDr).live = true ∧ (sDr).dchUp 15 = true ∧ ((sDr).dch 15).overlong = false ∧ ((sDr).dch 15).writeBack = 0 ∧
    rnd.arb[(0 : Fin 12)].txn = some tx ∧ (∀ j : Fin 12, j.val < 10 → rnd.arb[j].txn.isSome → rnd.arb[j].wait < rnd.arb[j].starveMax) ∧
    (∀ j : Fin 12, j.val < 10 → rnd.arb[j].txn.isSome → rnd.arb[j].prio ≤ rnd.arb[(0 : Fin 12)].prio ∧
      (rnd.arb[j].prio = rnd.arb[(0 : Fin 12)].prio → (rnd.rowHit j = true → rnd.rowHit 0 = true) ∧
        (j ≠ 0 → rnd.rowHit j = rnd.rowHit 0 →
          rotation rnd.lastAt[rnd.arb[(0 : Fin 12)].prio.toFin] 0 < rotation rnd.lastAt[rnd.arb[(0 : Fin 12)].prio.toFin] j))) ∧
    rnd9.arb[(9 : Fin 12)].txn = some tx ∧ rnd9.arb[(9 : Fin 12)].starveMax ≤ rnd9.arb[(9 : Fin 12)].wait ∧
    (∀ j : Fin 12, j.val < 10 → rnd9.arb[j].txn.isSome → rnd9.arb[j].starveMax ≤ rnd9.arb[j].wait →
      rnd9.arb[j].wait < rnd9.arb[(9 : Fin 12)].wait ∨ (rnd9.arb[j].wait = rnd9.arb[(9 : Fin 12)].wait ∧ 9 ≤ j)) := by
  and_intros <;> first
    | exact fun j hj hs => ⟨(rnd_first j hj hs).1, fun hp => ⟨(rnd_first j hj hs).2.1 hp, fun hne hh => (rnd_first j hj hs).2.2 hp hne hh⟩⟩
    | rfl
    | decide

theorem test_wit_DramRounds_parts :
    txnParts { bursts := 3, bank := 15, row := 7, col := 5, write := true } (min 3 128) = [(15, 7, [5, 6, 7])] ∧
    txnParts { bursts := 3, bank := 15, row := 7, col := 58 } (min 3 128) = [(15, 7, [58, 59]), (0, 8, [0])] ∧
    (∀ p ∈ txnParts { bursts := 3, bank := 15, row := 7, col := 58 } (min 3 128), p.1 ≠ 14) := by decide

theorem test_wit_DramRounds_others :
    (sDr (fun d => { d with cycleLeft := 3 })).pauseDue 15 (.oscillator 3) = true ∧ (sDr (fun d => { d with cycleLeft := 3 })).dchUp 15 = true ∧
    (∀ last r, PauseResult.oscillator 3 ≠ .sweep last true r) ∧ (sDr (fun d => { d with grant := some (3, tx, 5) })).dchUp 15 = true ∧
    ((sDr (fun d => { d with grant := some (3, tx, 5) })).dch 15).grant = some (3, tx, 5) ∧ (3 : Fin 12) ≠ 10 ∧ (0 : Fin 16) ≠ 15 ∧
    (sDr).sec.debugUnlocked = false ∧ ({ sDr (fun d => { d with grant := some (3, tx, 5) }) with sec := { debugUnlocked := true } } : State).sec.debugUnlocked = true ∧
    (sDr).plp.pfail = false ∧ 0 < tx.bursts ∧ ((sDr (fun d => { d with grant := some (3, tx, 5) })).dch 15).arb[(3 : Fin 12)].hold < tx.bursts ∧
    tx.bursts ≤ ((sDr (fun d => { d with grant := some (5, tx, 5) })).dch 15).arb[(5 : Fin 12)].hold ∧
    ((sDr (fun d => { d with grant := some (5, tx, 5) })).dch 15).grant = some (5, tx, 5) := by
  and_intros <;> first | rfl | decide | nofun

/-- A committed line that has no row yet, and 63 uncorrectable bursts within a second. -/
def sUeLine : State := { sDr with land := { lines := [(9, line0 .committed)] } }
def ue63 (d : DramCh) : DramCh := { d with ueAt := List.replicate 63 0 }
def sDrPh (ph : Phase) : State := { sDr with phase := ph }

theorem test_wit_DramTrainingAndErrors : (sDr).live = true ∧ (sDr).dchUp 15 = true ∧ (sDr).dram.scrubEn = true ∧
    ({ sDr with dram := { scrubEn := false } } : State).dram.scrubEn = false ∧
    (((sDr).dch 15).ueAt.filter (fun u => decide ((sDr).tb.count.toNat ≤ u + 100000000))).length < 63 ∧
    sUeLine.land.lines.get? 9 = some (line0 .committed) ∧ (line0 .committed).st = .committed ∧ (line0 .committed).wt = false ∧
    (line0 .committed).row = none ∧ (sDr).media.dirtyPages.has (0 * 2 ^ 30 + 5) = false ∧
    63 ≤ (((sDr ue63).dch 15).ueAt.filter (fun u => decide ((sDr ue63).tb.count.toNat ≤ u + 100000000))).length ∧ (sDr ue63).dchUp 15 = true ∧
    (sDrPh .firmware).live = true ∧ (sDrPh .firmware).phase = .firmware ∧ ((sDrPh .firmware).dch 15).failed = false ∧
    (DramTraining.mk (some 3) 128 0 0 0 300).rate = some 3 ∧ (sDrPh .recovering).phase = .recovering ∧
    ({ rate := none } : DramTraining).rate = none ∧ (sDrPh .recovering).dram.degraded = false ∧ (sDrPh .recovering).dram.failedCount = 0 ∧
    (sDr).dram.retrainEn = true ∧ (sDr).param 0x7000 4 = 0 ∧ ({ sDr with dram := { retrainEn := false } } : State).dram.retrainEn = false ∧
    ((sDr (fun d => { d with cycleLeft := 2 })).dch 15).cycleLeft = 2 ∧ ((sDr (fun d => { d with cycleLeft := 2 })).dch 15).fullLeft = 0 ∧
    ((sDr (fun d => { d with cycleLeft := 2 })).dch 15).overlong = false ∧ (sDr (fun d => { d with cycleLeft := 2 })).plp.pfail = false ∧
    0 < ((sDr (fun d => { d with fullLeft := 1 })).dch 15).fullLeft ∧ ((sDr (fun d => { d with fullLeft := 1 })).dch 15).rate ≠ 3 ∧
    ((sDr (fun d => { d with fullLeft := 64, rate := 3 })).dch 15).rate = 3 := by
  and_intros <;> first | rfl | decide

theorem test_wit_DramTrainingAndErrors_readBack : (sLanded false false).dchUp 15 = true ∧ (sLanded false false).Flying 1 (cLanded false) .landed ∧
    (((sLanded false false).dch 15).ueAt.filter (fun u => decide ((sLanded false false).tb.count.toNat ≤ u + 100000000))).length < 63 :=
  ⟨by decide, ⟨rfl, rfl, rfl, rfl, ⟨rfl, rfl, ⟨q1, rfl, by decide⟩, rfl⟩, nofun⟩, by decide⟩

/-- System DMA channel 11 in a state, and descriptors. -/
def sSd (c : SdmCh) : State := { sUp with sdm := { chs := (sUp.sdm.chs).upd 11 (fun _ => c) } }
def dsc (own : Bool) (op : BitVec 2) (src dst : Nat) (n : Nat := 16) : Desc :=
  { own := own, op := op, count := BitVec.ofNat 32 n, src := BitVec.ofNat 64 src, dst := BitVec.ofNat 64 dst }
def chIdle : SdmCh := { en := true, state := .idle, space := 1 }
def chRun (d : Desc) (ph : SdmPhase) : SdmCh := { en := true, state := .running, space := 1, desc := some d, phase := ph, endIe := true }

/-- The channel copies to the end of line 0. -/
def sSdLine : State := { sSd (chRun (dsc true 0 0x20000000 0x1000000FF0) .fetched) with land := { lines := [(0, line0 .filling)] } }

/-- The channel waits for the read-back from port 0, which is contained. -/
def sSdHost : State := { sCont with sdm := (sSd (chRun { dsc true 0 0x20000000 0x3000 with dstSp := 1 } .acked)).sdm }

theorem test_wit_SystemDma : (sSd chIdle).live = true ∧ ((sSd chIdle).sdc 11).en = true ∧ (sSd chIdle).sdcOpen 11 = true ∧
    ((sSd chIdle).sdc 11).state = .idle ∧ (dsc false 0 0 0).own = false ∧ (dsc true 1 0x33 0x20000000).own = true ∧
    (sSd chIdle).descBad 11 (dsc true 1 0x33 0x20000000) = none ∧ (sSd chIdle).descBad 11 (dsc true 3 0 0) = some 0x10 ∧
    ((sSd chIdle).sdc 11).space = 1 ∧ (sSd chIdle).ringOk 11 = true ∧
    ((sSd { chIdle with state := .halted, err := true }).sdc 11).state = .halted ∧ ((sSd { chIdle with state := .halted, err := true }).sdc 11).err = true ∧
    ((sSd { chIdle with state := .halted }).sdc 11).err = false ∧ ((sSd { chIdle with state := .halted }).sdc 11).state = .halted ∧
    ((sSd (chRun (dsc true 1 0x33 0x20000000) .fetched)).sdc 11).desc = some (dsc true 1 0x33 0x20000000) ∧
    ((sSd (chRun (dsc true 1 0x33 0x20000000) .fetched)).sdc 11).state = .running ∧
    ((sSd (chRun (dsc true 1 0x33 0x20000000) .fetched)).sdc 11).phase = .fetched ∧
    (sSd (chRun (dsc true 1 0x33 0x20000000) .fetched)).descContained (dsc true 1 0x33 0x20000000) = false ∧
    (sSd (chRun (dsc true 1 0x33 0x20000000) .fetched)).readsGo = true ∧
    (dsc true 0 0x20000000 0x1000000FF0).dst.toNat = landingBase + 4096 * 0 + 4080 ∧ sSdLine.land.lines.get? 0 = some (line0 .filling) ∧
    (sSdLine.sdc 11).desc = some (dsc true 0 0x20000000 0x1000000FF0) ∧ sSdLine.descContained (dsc true 0 0x20000000 0x1000000FF0) = false ∧
    sSdHost.spContained 1 = true ∧ (sSdHost.sdc 11).phase = .acked ∧ (sSd (chRun (dsc true 0 0x20000000 0x1000000000) .acked)).spContained 0 = false ∧
    (dsc true 0 0x20000000 0x20000100).op = 0 ∧ (piece 16).length = (dsc true 0 0x20000000 0x20000100).count.toNat ∧
    (dsc true 0 0x20000000 0x20000100).dstSp = 0 ∧ (dsc true 0 0x20000000 0x20000100).swap = 0 ∧
    ({ dsc true 0 0x20000000 0x20000100 with dstSp := 1 } : Desc).dstSp = 1 ∧ (dsc true 2 0 0).op = 2 ∧
    ((sSd (chRun (dsc true 0 0x20000000 0x1000000000) .beats)).sdc 11).phase = .beats ∧
    0x1000000000 ≤ (dsc true 0 0x20000000 0x1000000000).dst.toNat ∧
    ((sSd (chRun (dsc true 0 0x20000000 0x1000000000) .acked)).sdc 11).phase = .acked ∧ (11 : Fin 16).val < 12 ∧
    (dsc true 0 0x20000000 0x1000000000).op ≠ 2 ∧ (dsc true 0 0x20000000 0x1000000000).dstSp = 0 := by
  and_intros <;> first | rfl | decide

/-- Every page of the vault in a state; security in a state. -/
def sVault (g : VaultPage) (s : State := sUp) : State := { s with vault := { s.vault with pages := Vector.replicate 16 g } }
def sSec (k : Security) (s : State := sUp) : State := { s with sec := k }
def slotOk : VaultSlot := { len := 2, valid := true }
def pgOk (f : VaultPage → VaultPage := id) : VaultPage := f { slots := Vector.replicate 4 slotOk }

/-- Window 14 of BAR4/5 of both ports shows the blocks of content `k`. -/
def showing (k : Nat) (s : State := sUp) : State :=
  { s with ports := s.ports.all (fun q => { q with act4 := q.act4.upd 14 (fun _ => BitVec.ofNat 4 k) }) }

theorem test_wit_VaultPages : (sVault pgOk).live = true ∧ (showing 7 (sVault pgOk)).BarShows 0 7 ∧ (showing 7 (sVault pgOk)).BarShows 1 7 ∧
    (showing 7 (sVault pgOk)).admits 2 (.host 1) = false ∧ (showing 7 (sVault pgOk)).admits 2 (.host 0) = true ∧
    (sVault pgOk).admits 15 (.core 31) = false ∧ (sVault pgOk).admits 0 (.core 31) = true ∧
    (sVault pgOk).vault.pages[(0 : Fin 16)].busy = false ∧ (sVault pgOk).sec.tampered = false ∧
    (sVault pgOk).sec.pairFail = false ∧ (sVault pgOk).vault.pages[(0 : Fin 16)].slots[(3 : Fin 4)].valid = true ∧
    (sVault pgOk).vault.pages[(0 : Fin 16)].exhausted = false ∧ (sVault pgOk).vault.pages[(0 : Fin 16)].spent = false ∧
    (sVault (pgOk (fun g => { g with busy := true }))).vault.pages[(0 : Fin 16)].busy = true ∧
    (sSec { tampered := true } (sVault pgOk)).sec.tampered = true ∧ (sSec { pairFail := true } (sVault pgOk)).sec.pairFail = true ∧
    (sVault {}).vault.pages[(0 : Fin 16)].slots[(3 : Fin 4)].valid = false ∧
    (sVault (pgOk (fun g => { g with exhausted := true }))).vault.pages[(0 : Fin 16)].exhausted = true ∧
    (sVault (pgOk (fun g => { g with spent := true }))).vault.pages[(0 : Fin 16)].spent = true ∧
    (pgOk (fun g => { g with busy := true, runSlot := 3, run := 3, ctr := 0xFFFFFFFF })).run = 3 ∧
    (pgOk (fun g => { g with busy := true, runSlot := 3, run := 3, ctr := 0xFFFFFFFF })).slots[(3 : Fin 4)].valid = true ∧
    (pgOk (fun g => { g with busy := true, runSlot := 3, run := 3, ctr := 0xFFFFFFFF })).ctr = 0xFFFFFFFF ∧
    (pgOk (fun g => { g with busy := true, run := 1 })).ctr ≠ 0xFFFFFFFF ∧ (pgOk (fun g => { g with busy := true, run := 1 })).run ≠ 3 ∧
    (sVault (pgOk (fun g => { g with nonce := BitVec.allOnes 96 }))).vault.pages[(0 : Fin 16)].nonce = BitVec.allOnes 96 ∧
    (sVault {}).vault.pages[(0 : Fin 16)].nonce ≠ BitVec.allOnes 96 ∧
    (sVault { slots := Vector.replicate 4 { len := 1, expanding := true } }).vault.pages[(0 : Fin 16)].slots[(3 : Fin 4)].expanding = true ∧
    sUp.linkUp 1 = true ∧ sUp.barRefusal 1 4 = none ∧ ((showing 8).ports[(1 : Fin 2)]).shows 7 = false ∧
    (showing 7 (dualOf sUp)).BarShows 1 7 ∧ (dualOf (sVault pgOk)).dual = true ∧ (dualOf (sVault pgOk)).vault.owner = 0 ∧
    ({ dualOf sUp with vault := { owner := 2 } } : State).vault.owner.toNat = (1 : Fin 2).val + 1 ∧
    ({ dualOf sUp with vault := { owner := 2 } } : State).vault.owner.toNat ≠ (0 : Fin 2).val + 1 ∧
    ({ dualOf sUp with vault := { owner := 2 } } : State).vault.owner ≠ 0 := by
  and_intros <;> first | exact ⟨by decide +kernel, by decide +kernel, by decide +kernel⟩ | rfl | decide +kernel

/-- SPDM with the algorithms done on a path, and sessions. -/
def spd (xs : List SpdmSession) : Security := { keysHeld := true, algosDone := [.mctp], sessions := xs, nextSession := 9 }
def ses (e : Bool) (id : Nat := 8) : SpdmSession := { via := .mctp, id := id, established := e }

theorem test_wit_SpdmResponder : sUp.live = true ∧ (sSec { tampered := true }).sec.keyless = true ∧ (sSec {}).sec.keyless = false ∧
    SpdmVia.mctp ∉ (sSec {}).sec.algosDone ∧ SpdmVia.mctp ∈ (sSec (spd [])).sec.algosDone ∧ ((sSec (spd [])).chain 0).isSome = true ∧
    (sSec (spd [])).chain 3 = none ∧ ((sSec (spd [])).measBlocks 0xFF).isSome = true ∧
    (sSec { spd [] with slot2Hash := some ([1], 0) }).sec.slot2Hash = some ([1], 0) ∧ (sSec (spd [])).tb.count.toNat ≤ 0 + 6000000000 ∧
    0 + 6000000000 < ({ sUp with tb := { count := 6000000001 } } : State).tb.count.toNat ∧
    ((sSec (spd [ses true 6, ses true 7, ses true 8])).sec.sessions.filter (fun x => x.via = .mctp)).length < 4 ∧
    4 ≤ ((sSec (spd [ses true 5, ses true 6, ses true 7, ses true 8])).sec.sessions.filter (fun x => x.via = .mctp)).length ∧
    (sSec (spd [ses false])).sec.session .mctp 8 = some (ses false) ∧ (ses false).established = false ∧
    (sSec (spd [ses true])).sec.session .mctp 8 = some (ses true) ∧ (ses true).established = true ∧
    (sSec { spd [{ ses true with via := .doe 1 }] with algosDone := [] }).sec.session (.doe 1) 8 = some { ses true with via := .doe 1 } ∧
    (sSec (spd [])).sec.session .mctp 8 = none := by decide

theorem test_wit_TamperAndEntropy : sUp.phase.guarded = true ∧ sUp.live = true ∧ (0 : Fin 2) ∈ sUp.portList ∧
    (gkey 0 0 ∈ (sIoL (.flush none)).land.unencrypted.map (fun e => gkey e.2.ns e.2.granule)) ∧ sUp.sec.entropyBad = false ∧
    (sSec { entropyBad := true }).sec.entropyBad = true ∧ (0x80 : BitVec 8) = 1 <<< (7 : Fin 8).val ∧
    sUp.units.lane[(7 : Fin 8)] = false ∧ sUp.units.lane[partner 7] = false := by
  and_intros <;> first | rfl | decide

/-- A Security Send or Receive in flight, with security in a state. -/
def sOp (opc : Nat) (k : Security) (n : Namespace := ns1) : State := sSec k (withCmd (withNs sUp n) (cAdm opc))
def opAct (auth : List Nat) : Security := { keysHeld := true, opalActive := true, authed := auth }

theorem test_wit_OpalAndKeyPerIo :
    (sOp 0x81 (opAct [2])).AdminReady 1 0x81 (cAdm 0x81) ∧ (sOp 0x81 (opAct [2])).units.pair = false ∧
    (sOp 0x82 (opAct [2])).AdminReady 1 0x82 (cAdm 0x82) ∧
    5 ≤ ((sSec { tries := [(21, 5)] }).sec.tries.get? 21).getD 0 ∧ ((sSec { tries := [(21, 4)] }).sec.tries.get? 21).getD 0 < 5 ∧
    ((sSec { pins := [(21, [1])] }).sec.pins.get? 21).getD [] = [1] ∧ ((sSec { pins := [(21, [1])] }).sec.pins.get? 21).getD [] ≠ [2] ∧
    (0 : Fin 22) = 0 ∧ (sSec {}).sec.sidBlocked = false ∧ (sOp 0x81 (opAct [2])).sec.hasRange 0 = true ∧
    (sOp 0x81 (opAct [2])).sec.anyone = true ∧ (sOp 0x81 (opAct [0])).sec.anyone = false ∧ (sOp 0x81 (opAct [5])).sec.admin = true ∧
    (sOp 0x81 (opAct [6])).sec.admin = false ∧ (sOp 0x81 (opAct [2])).rangeFits 63 0 1023 1 = true ∧
    (sOp 0x81 (opAct [2])).sec.ranges[(63 : Fin 64)].ns = none ∧ (sOp 0x81 (opAct [2])).sealed = false ∧ ns1.kpio = false ∧
    (sOp 0x81 {}).sealed = true ∧ (sOp 0x81 (opAct [2])).cmq.cmds = [(1, cAdm 0x81)] ∧ (sOp 0x81 (opAct [2])).sec.entropyBad = false ∧
    (sOp 0x81 { opAct [2] with entropyBad := true }).AdminReady 1 0x81 (cAdm 0x81) ∧
    (sOp 0x81 { opAct [2] with entropyBad := true }).sec.entropyBad = true ∧ (sOp 0x81 (opAct [2])).media.namespaces.has 0 = true := by
  and_intros <;> first
    | exact ⟨flies _ q0 (by decide), .none, rfl⟩
    | rfl
    | decide

theorem test_wit_OpalAndKeyPerIo_keys :
    (sOp 0x81 (opAct []) nsK).AdminReady 1 0x81 (cAdm 0x81) ∧ (sOp 0x81 (opAct []) nsK).kpioAt 0 1 4095 = some 4095 ∧
    (sOp 0x81 (opAct []) nsK).sealed = false ∧ (sOp 0x81 (opAct []) nsK).sec.kpio.get? 4095 = none ∧
    (sOp 0x81 (opAct []) nsK).sec.freeIndex = some 0 ∧
    (sOp 0x81 { opAct [] with kpio := [(4095, { index := 0, key := 9, port := 0 })] } nsK).sec.kpio.get? 4095 = some { index := 0, key := 9, port := 0 } ∧
    (sOp 0x81 (opAct []) nsK).land.boundKey 0 = [] ∧ nsK.kpio = true := by
  and_intros <;> first
    | exact ⟨flies _ q0 (by decide), .none, rfl⟩
    | decide +kernel

/-- An owner command under an issued nonce; what its signature verifies to rests on `Config.ecdsaOk`, of which nothing is known, so the
clauses of an accepted command have their witness under that one assumption. -/
def oc : OwnerCmd := { magic := 0x4F574E31, serial := 0, nonce := 5, param := [], sig := [] }
def sOwn (k : Security) : State := sSec k

theorem test_wit_OwnerCommands : sUp.dictServes = true ∧ (sOp 0x82 {}).AdminReady 1 0x82 (cAdm 0x82) ∧
    (sOp 0x81 {}).AdminReady 1 0x81 (cAdm 0x81) ∧ (sOwn {}).ownerRefuses 2 { oc with magic := 0 } false = some 6 ∧
    (sOwn {}).ownerRefuses 2 oc false = some 7 ∧ (sOwn { keysHeld := true }).ownerRefuses 2 oc false = some 3 ∧
    (sOwn { keysHeld := true, nonce := some (5, 0) }).ownerRefuses 2 oc false = some 5 ∧
    (sOwn { waiting := some { opcode := 8, param := [] } }).sec.waiting = some { opcode := 8, param := [] } ∧
    (sOwn {}).board.btn ≠ 2 ∧ ({ sUp with board := { btn := 2 } } : State).board.btn = 2 ∧ (sOwn {}).sec.waiting = none := by
  and_intros <;> first
    | exact ⟨flies _ q0 (by decide), .none, rfl⟩
    | rfl
    | decide

theorem test_wit_OwnerCommands_accepted (sig : List Byte)
    (h : Config.ecdsaOk [9] (Config.sha384 (ownerSigned { oc with sig := sig } 2)) sig = true) :
    (sOwn { keysHeld := true, nonce := some (5, 0), owner := some [9] }).ownerRefuses 2 { oc with sig := sig } false = none := by
  unfold State.ownerRefuses
  rw [if_neg (by simp [oc]), if_neg (by decide), if_neg (by simp [oc, sOwn, sSec, State.nonceGood, sUp, sRun, State.reset])]
  simpa [sOwn, sSec] using h

/-- The boot store with an operation. -/
def sBst (o : Option BstOp) (f : Bst → Bst := id) : State := { sUp with bst := f { sUp.bst with op := o } }
def bop (er : Bool) (f : BstOp → BstOp := id) : BstOp := f { erase := er, sector := 132, page := 33792, data := List.replicate 256 0 }

theorem test_wit_BootStoreCommands : sUp.storeUp = true ∧ Initiator.core 27 ≠ .core 28 ∧ 8650752 % 256 = 0 ∧
    (List.replicate 256 (0 : Byte)).length = 256 ∧ 8650752 < 67108864 ∧ (sBst none).bst.op = none ∧ 132 ≤ 8650752 / 65536 ∧
    8650496 / 65536 < 132 ∧ 8650753 % 256 ≠ 0 ∧ ((sBst none).bst.shadowOf 132).erases < 100000 ∧
    100000 ≤ ((sBst none (fun b => { b with shadow := [(132, { erases := 100000 })] })).bst.shadowOf 132).erases ∧
    (sBst (some (bop true))).bst.op = some (bop true) ∧ (bop true).susp = false ∧ (sBst (some (bop true))).bst.held = [] ∧
    (bop true).erase = true ∧ (sBst (some (bop false))).bst.op = some (bop false) ∧ (bop false).data.length = 256 ∧
    ((sBst (some (bop false)) (fun b => { b with progs := [(33792, 3)] })).bst.progs.get? 33792).getD 0 < 4 ∧
    (bop false).suspPend = false ∧ (bop false).resumed = false ∧
    (bop true (fun o => { o with resumed := true, ranEnough := false })).ranEnough = false ∧
    (bop true (fun o => { o with held := true })).held = true ∧ (bop true (fun o => { o with suspPend := true })).suspPend = true ∧
    (bop true (fun o => { o with suspPend := true })).auto = false ∧ (bop true (fun o => { o with susp := true })).susp = true ∧
    sUp.bstAdmits (.host 0) = false ∧ sUp.bstAdmits (.core 0) = true ∧ 67108863 < 67108864 ∧ sUp.bst.idMode = none ∧
    (bop true).sector = 8650752 / 65536 ∧ (bop true).sector ≠ 67108863 / 65536 ∧
    (sBst none (fun b => { b with autoSusp := false })).bst.autoSusp = false ∧ (sBst none).bst.autoSusp = true := by decide +kernel

/-- A dictionary request; windows with writes in them. -/
def dq (i : Nat) (sub : Nat) (v : List Byte := [1]) : DictReq := { index := BitVec.ofNat 16 i, sub := BitVec.ofNat 8 sub, value := v, tag := 7 }
def sWin (k : Nat) (ws : List WinWrite) : State := { sUp with dict := { sUp.dict with windows := [(k, ws)] } }
def wH (v : Byte) : WinWrite := { writer := 1, value := [v], tag := 7 }
def wB (v : Byte) : WinWrite := { writer := 3, value := [v], tag := 8 }

theorem mailbox_open (p : Fin 2) : sUp.MailboxOpen p := by
  constructor <;> revert p <;> decide

theorem bus_open : sUp.BusOpen := ⟨by decide, by decide, by decide, by decide⟩

theorem test_wit_DictionaryRequests : sUp.MailboxOpen 1 ∧ sUp.entryOf 0x9999 0 = none ∧ (sUp.entryOf 0x2000 1).isSome = true ∧
    (sUp.entryOf 0x2000 1).map (·.access) ≠ some 3 ∧ sUp.writeRefused 1 0x2000 1 [1] = none ∧
    (sUp.entryOf 0x2000 1).map (fun d => d.flags % 2) = some 0 ∧ sUp.writeRefused 1 0x2000 1 [] = some 5 ∧
    (sUp.entryOf 0x7F00 3).map (·.access) = some 3 ∧
    (sUp.entryOf 0x1100 5).map (·.access) = some 0 ∧ sUp.BusOpen ∧ sUp.writeRefused 3 0x2000 1 [1] = none ∧
    sUp.live = true ∧ sUp.dict.held = [] ∧ (0x2000 : BitVec 16) ≠ 0x3310 ∧ sUp.dict.windows.get? 0x200001 = none ∧
    (sWin 0x200001 [wH 1]).dict.windows.get? 0x200001 = some [wH 1] ∧ (wH 1).writer.toNat = (0 : Fin 2).val + 1 ∧
    (wB 0).writer = 3 ∧ (sWin 0x200001 [wB 0, wH 1]).dict.windows.get? 0x200001 = some [wB 0, wH 1] ∧
    ((sWin 0x200001 [wB 0, wH 1]).entryOf 0x2000 1).map (·.authority) = some 0 ∧
    (sUp.entryOf 0x5102 0).map (fun d => (d.flags % 2, d.access)) = some (1, 1) ∧ (sUp.entryOf 0x3400 7).map (·.authority) = some 1 ∧
    (sUp.entryOf 0x3000 2).map (·.authority) = some 2 ∧
    (sWin (0x3310 * 256) [wH 1]).dict.windows.get? (0x3310 * 256) = some [wH 1] ∧
    ofLeBytes (wH 1).value < (sWin (0x3310 * 256) [wH 1]).param 0x3310 1 + 2 ∧ portOf (wH 1).writer.toNat = some 0 := by
  and_intros <;> first
    | exact mailbox_open 1
    | exact bus_open
    | rfl
    | decide +kernel

/-- Host-triggered fulling. -/
def sFullMode : State := { sUp with dict := { sUp.dict with vals := [(0x700001, { bytes := [1] })] } }

/-- A record of granule 5 in a closed stripe whose other records are stale: it is a candidate. -/
def sCand : State :=
  let s := sClosed (fun m => { m with nand := [(pageKey 0 1 0, [{ rec5 with block := 1 }])] })
  { s with dict := { s.dict with vals := [(0x700001, { bytes := [1] })] } }

theorem test_wit_DictionaryTriggers : (∀ p, some (1 : Fin 2) = some p → sUp.MailboxOpen p) ∧ sUp.BusOpen ∧
    ({ sUp with plp := { state := .full } } : State).plp.state = .full ∧ sUp.plp.state ≠ .full ∧ sUp.pws.ps ≤ 2 ∧
    sFullMode.param 0x7000 1 = 1 ∧ 60000 ≤ 60000 ∧ sUp.param 0x7000 1 = 0 ∧ (sCand.candidates.map (·.1)) = [1] ∧ sCand.param 0x7000 1 = 1 ∧
    sUp.dict.vals.get? (0x7F02 * 256 + (31 : Fin 32).val) = none := by
  and_intros <;> first
    | exact fun p h => mailbox_open p
    | exact bus_open
    | rfl
    | decide +kernel

theorem test_wit_BoardHappenings : sUp.auxRuns = true ∧ ¬((2 : Fin 3) = 2 ∧ sUp.param 0x3400 0x0A = 1) ∧
    ({ sUp with dict := { sUp.dict with vals := [(0x34000A, { bytes := [1] })] } } : State).param 0x3400 0x0A = 1 ∧
    sUp.param 0x6020 0 = 0 ∧ (sPh .bootFault).phase = .bootFault ∧ sUp.phase = .running ∧ (sUp.ctrl 0).rdy = true ∧ sUp.cmq.cmds = [] ∧
    sUp.param 0x6020 1 = 0 ∧ (sSec { tampered := true }).sec.tampered = true ∧ sUp.phase ≠ .deepRest ∧ sUp.board.btn ≠ 2 ∧
    50 ≤ 2999 ∧ 2999 < 3000 ∧ ({ sUp with board := { btn := 2 } } : State).board.btn = 2 ∧ true ∉ sUp.board.mbLow ∧
    true ∈ ({ sUp with board := { mbLow := [true] } } : State).board.mbLow ∧ ({ sUp with board := { mbSel := true } } : State).board.mbSel = true ∧
    sUp.board.debugPresent = false ∧ ({ sUp with board := { debugPresent := true } } : State).board.debugPresent = true := by decide

theorem test_wit_RegistersWritten : sUp.storeUp = true ∧ kvcPage .sysPaceFloor = none ∧ sUp.sec.debugUnlocked = false ∧
    (11 : Fin 12) ≠ 10 ∧ (sSd chIdle).sdcOpen 11 = true ∧ ((sSd chIdle).sdc 11).en = true ∧ sUp.units.scheduler 7 = some (roleCore 7 0) ∧
    sUp.units.scheduler 7 ≠ some 28 ∧ (showing 6).BarShows 1 6 := by
  and_intros <;> first | exact ⟨by decide +kernel, by decide +kernel, by decide +kernel⟩ | decide

/-- A state with two conflicting locks, the earlier granted, and memories in their canonical form. -/
def sLocks : State := { sUp with
  cmq := { sUp.cmq with locks := [{ ns := some 0, first := 0, last := 9, excl := true, fseq := 1, granted := true },
                                  { ns := some 0, first := 9, last := 9, excl := false, fseq := 2, granted := false }] }
  bst := { sUp.bst with mem := [(5, 0), (9, 0xFE)] } }

theorem test_wit_InvariantsKept : sLocks.locksOk ∧ sLocks.memOk = true ∧ sLocks.tablesOk = true ∧ ∃ t, step sLocks = .next t := by
  refine ⟨?_, by decide, by decide, _, rfl⟩
  change regrant _ = _
  decide

/-! ### Worked examples and check values of the manual -/

/-- The CRC-32 of R241 gives the check value of the ASCII digits 1 to 9. -/
theorem test_crc_check : crc32 [0x31, 0x32, 0x33, 0x34, 0x35, 0x36, 0x37, 0x38, 0x39] = 0xCBF43926 := by decide +kernel

/-- Die 283 is CH17.2.3 (the example of chapter 04). -/
theorem test_die_283 : chOf 283 = 17 ∧ 17 * 16 + 2 * 4 + 3 = 283 := by decide

/-- The packing example of R80: A to F of one empty page, each at its unit of the page. -/
theorem test_packing_example : (({} : Cursor).placeIn 1 [256, 86, 158, 188, 256, 74]).map (·.2) =
    some [(0, 0), (0, 256), (0, 342), (0, 500), (0, 688), (0, 944)] := by decide

/-- The record lengths of the same example: a compressed record rounds up to 16-byte units. -/
theorem test_record_units : recordUnits 1370 = (86, false) ∧ recordUnits 2993 = (188, false) ∧ recordUnits 0 = (256, true) ∧
    recordUnits 4033 = (256, true) := by decide

/-- The compressed map page of chapter 05's example: its five words decode to its entries. -/
theorem test_map_page_example : (PageDec.words false {} [0x5500227C8228D800, 0x2EE74B, 0x2015, 0xFF8004B009B32000, 0x1FE0002007]).map (·.ents) =
    some [(0, .loc 283 1041 2207 0 86 false), (1, .loc 283 1041 2207 86 158 false), (2, .loc 283 1041 2207 244 188 false),
      (5, .zero), (6, .zero), (7, .loc 612 77 300 512 256 true), (8, .loc 612 77 301 0 256 true)] := by decide +kernel

/-- The pilot example of chapter 03: the estimates of V1, V3, V5 and V7. -/
theorem test_pilot_example : estimate 40 16 64 3 1 = 80 ∧ estimate 40 16 64 2 5 = -120 ∧
    estimate 40 16 64 1 9 = -320 ∧ estimate 40 16 64 0 12 = -480 := by decide

/-! #### The arbiter of a DRAM channel (the example of chapter 09: SDMA has STARVE 3) -/

def dTx (n : Nat) : DramTxn := { bank := 0, row := 0, bursts := n }

def arbS (s : State) (r : List (Fin 12 × DramTxn)) : State := s.arbRound 3 r none 0

/-- The states after the six rounds of the example. -/
def arb0 : State := sUp.setDch 3 (fun d => { d with arb := d.arb.upd 9 (fun a => { a with starve := 3 }) })
def arb2 : State := arbS (arbS arb0 [(3, dTx 128)]) [(0, dTx 128), (9, dTx 64)]
def arb4 : State := arbS (arbS arb2 [(0, dTx 128), (4, dTx 2)]) [(0, dTx 128)]
def arb6 : State := arbS (arbS arb4 []) []

/-- HOST_IN wins rounds 2 to 4, and SDMA and CPU wait. -/
theorem test_arbiter_waits : (arb2.dch 3).grant.map (·.1) = some 0 ∧ (arb4.dch 3).grant.map (·.1) = some 0 ∧
    (arb4.dch 3).arb[(9 : Fin 12)].wait = 3 ∧ (arb4.dch 3).arb[(4 : Fin 12)].wait = 2 := by decide +kernel

/-- SDMA wins round 5 under step 2 and STARVED sets; CPU wins round 6 with LONGEST 3. -/
theorem test_arbiter_starved : ((arbS arb4 []).dch 3).grant.map (·.1) = some 9 ∧ (arb6.dch 3).grant.map (·.1) = some 4 ∧
    (arb6.dch 3).arb[(9 : Fin 12)].starved = true ∧ (arb6.dch 3).arb[(4 : Fin 12)].longest = 3 := by decide +kernel

/-! ### The queue and the step -/

/-- The step takes the command at the front and leaves the rest of the queue. -/
theorem test_step_takes_front : ∃ t, step { sUp with pending := [.chargeEnable, .deepRestWake] } = .next t ∧
    t.pending = [.deepRestWake] := ⟨_, rfl, rfl⟩

/-- No word of the table spells a command. -/
theorem test_no_words : decodeTableWord 32 0 = none ∧ (sUp.withFetchWord 32 5 = sUp) := ⟨rfl, rfl⟩

/-! ### Well-formed commands: one accepted and one refused for each check -/

def exp0 : ExportReq := { stepMax := 4 }
def dict0 (n : Nat) : DictReq := { index := 0, sub := 0, value := List.replicate n 0 }
def rd0 (nsid slba nlb : Nat) : Instr := .commandFetch 0 0 (.read { nsid := nsid, slba := slba, nlb := nlb })

/-- Queue identifiers, sizes, vectors and indexes. -/
theorem test_wf_queues : [Instr.sqDoorbell 0 4096 65535, .createIoSq 0 1 65536 65535 0 true false, .createIoCq 0 1 65536 65535 true false,
      .deleteIoCq 0 4096, .abort 0 1 65535, .ccEnable 0 false 2 4096, .setNumberOfQueues 0 65535 65535].all Instr.wf = true ∧
    [Instr.sqDoorbell 0 1 65536, .sqDoorbell 0 4097 0, .cqHeadDoorbell 0 1 65536, .cqHeadDoorbell 0 4097 0, .createIoSq 0 1 65537 1 0 true false,
      .createIoSq 0 4097 2 1 0 true false, .createIoSq 0 1 2 65536 0 true false, .createIoCq 0 4097 2 1 true false, .createIoCq 0 1 65537 1 true false,
      .createIoCq 0 1 2 65536 true false, .deleteIoSq 0 4097, .deleteIoCq 0 4097, .abort 0 4097 0, .abort 0 1 65536, .ccEnable 0 false 1 2,
      .ccEnable 0 false 4097 2, .ccEnable 0 false 2 1, .ccEnable 0 false 2 4097].all (fun i => !i.wf) = true := by decide

/-- Submission entries. -/
theorem test_wf_entries : [rd0 1 0 65536, .commandFetch 0 65535 (.flush none), .commandFetch 0 0 (.dsm 1 true [(0, 1)])].all Instr.wf = true ∧
    [rd0 1 0 0, rd0 1 0 65537, rd0 (2 ^ 32) 0 1, rd0 1 (2 ^ 64) 1, .commandFetch 0 65536 (.flush none), .commandFetch 0 0 (.dsm 1 true []),
      .commandFetch 0 0 (.flush (some (2 ^ 32))), .commandFetch 0 0 (.write { nsid := 1, slba := 0, nlb := 1, keyTag := some 65536 }),
      .commandFetch 0 0 (.write { nsid := 1, slba := 0, nlb := 1, handle := some 65536 }), .commandFetch 0 0 (.copy 1 0 16 [(1, 0)]),
      .commandFetch 0 0 (.admin 0 (.ns (2 ^ 32))), .commandFetch 0 0 (.writeZeroes 1 0 0 true)].all (fun i => !i.wf) = true := by decide

/-- Fields of the admin commands. -/
theorem test_wf_admin : [Instr.getLogPage 0 255 0xFFFFFFFF, .getFeatures 0 255 7, .setPowerManagement 0 31, .setTimestamp 0 (2 ^ 48 - 1),
      .formatNvm 0 1 7 true, .firmwareImageDownload 0 4 [0, 0, 0, 0]].all Instr.wf = true ∧
    [Instr.getLogPage 0 256 1, .identify 0 0 (2 ^ 32), .getFeatures 0 256 0, .getFeatures 0 1 8, .setPowerManagement 0 32,
      .setNumberOfQueues 0 65536 0, .setHctm 0 0 65536, .setInterruptVectorConfig 0 65536 true, .setApst 0 true (List.replicate 33 (0, 0)),
      .setTimestamp 0 (2 ^ 48), .setReadRecoveryLevel 0 16, .setReservationPersistence 0 (2 ^ 32) true, .namespaceAttachment 0 true (2 ^ 32) [],
      .deviceSelfTest 0 16, .directiveSend 0 1 256 true, .directiveReceive 0 (2 ^ 32) 1, .formatNvm 0 1 8 true, .sanitize 0 8,
      .firmwareImageDownload 0 2 [0, 0, 0, 0], .firmwareImageDownload 0 0 [0], .firmwareImageDownload 0 0 [], .commitReplace 0 8,
      .reservationAcquire 0 0 256 false 0 0, .reservationRelease 0 0 256 false 0, .kpioKeyInject 0 1 65536 0 true,
      .kpioClearKey 0 (2 ^ 32) 0].all (fun i => !i.wf) = true := by decide

/-- Lines, dies, pages, chip enables and export descriptors. -/
theorem test_wf_flash : [Instr.recordPacked 524287 [0], .eraseFail 1023 8191, .dieSuspended 1023, .exportByLba 0 exp0].all Instr.wf = true ∧
    [Instr.recordPacked 524288 [], .recordPacked 0 (List.replicate 4097 0), .eraseFail 0 8192, .eraseComplete 1024 0, .dieSuspended 1024,
      .arrayOpWaitLimit ⟨1024, true⟩, .statusPollTimeout 1024 [], .nandReadData 0 { window := List.replicate 18561 0 },
      .ceTrainingDone 0 0 { luns := List.replicate 5 none } [], .ceTrainingDone 0 0 { eyes := List.replicate 4 (0, 0) } [],
      .ceTrainingDone 0 0 { bits := [64] } [], .recentreDue 0 0 (List.replicate 9 ⟨false, false⟩) [] [], .recentreDue 0 0 [] (List.replicate 9 ⟨false, false⟩) [], .exportByLba 0 { exp0 with stepMax := 256 },
      .exportByPhysical 0 { exp0 with cw := 256 }, .resolve 0 { exp0 with page := 65536 } [] []].all (fun i => !i.wf) = true := by decide +kernel

/-- Links, BARs, DRAM transactions and the rest. -/
theorem test_wf_rest : [Instr.linkUp 0 64 16, .configRequest 0 4092 none, .barUnmappedAccess 0 4 0 true, .thermalSensorRead (List.replicate 12 0),
      .unitPowerGate 0 7, .bstProgramPage (.host 0) 0 (List.replicate 256 0)].all Instr.wf = true ∧
    [Instr.linkUp 0 64 3, .linkUp 0 65 4, .configRequest 0 4093 none, .configRequest 0 4096 none, .pmrWrite 0 0 [], .pmrRead 0 0 0,
      .cmbSlotWrite 0 131072 0 0, .barUnmappedAccess 0 3 0 true, .tlpWindowCross 0 4 0 0 true, .tlpWindowCross 0 3 0 4 true,
      .arbRound 0 [(0, { bank := 0, row := 0, bursts := 0 })] none 0, .debugRequest 0 { bank := 0, row := 0, bursts := 0 },
      .spdmGetCertificate (.doe 0) 8, .spdmGetMeasurements (.doe 0) 256 true 0, .opalReceive 0 256, .bstProgramPage (.host 0) 67108864 (List.replicate 256 0),
      .bstProgramPage (.host 0) 0 [], .bstSectorErase (.host 0) 67108864, .eventTokenRefill 65536, .thermalSensorRead [], .dictRead 0 (dict0 65536),
      .miDictWrite (dict0 65536), .fullWindow none (2 ^ 32), .unitPowerGate 0 8].all (fun i => !i.wf) = true := by decide +kernel

end Sys2Proof.Tests
end

section
/-! The statements of chapter 01: a pace window (R34, R37, R365) and a power measurement (R44, R471). -/

namespace Sys2Proof.Machine

open Sys2Proof

theorem State.whenPowered_powered {s : State} (h : s.powered = true) (f : State → State) : s.whenPowered f = f s := by
  simp [State.whenPowered, h]

/-! ### A window of a pace sensor -/

/-- What sensor `n` holds after a window of `cycles` handshake cycles. -/
def Pace.reported (p : Pace) (n : Fin 16) (cycles : Nat) : PaceSensor :=
  { pace := satOf 16 (cycles / 10)
    paceMin := if (satOf 16 (cycles / 10)).toNat < p.sensors[n].paceMin.toNat then satOf 16 (cycles / 10)
      else p.sensors[n].paceMin
    below := if (satOf 16 (cycles / 10)).toNat < p.floor.toNat then p.sensors[n].below + 1 else 0 }

theorem Pace.reported_paceMin_toNat (p : Pace) (n : Fin 16) (cycles : Nat) :
    (p.reported n cycles).paceMin.toNat = min p.sensors[n].paceMin.toNat (satOf 16 (cycles / 10)).toNat := by
  simp only [Pace.reported]
  split <;> omega

/-- Alarm and event are due together, when the sensor has stood below the floor for two windows; the number kept is that of the
sensor that raised the alarm first (R37). The event comes with every such window (notes/assumptions/38.md). -/
theorem Pace.window_eq (p : Pace) (n : Fin 16) (cycles : Nat) :
    p.window n cycles =
      ({ p with
          sensors := p.sensors.upd n (fun _ => p.reported n cycles)
          alarm := p.alarm || decide (2 ≤ (p.reported n cycles).below)
          sensor := if p.alarm = false ∧ 2 ≤ (p.reported n cycles).below then BitVec.ofNat 4 n.val else p.sensor },
        decide (2 ≤ (p.reported n cycles).below)) := by
  have hwindow : p.window n cycles = if 2 ≤ (p.reported n cycles).below then
      ({ p with
          sensors := p.sensors.upd n (fun _ => p.reported n cycles)
          alarm := true
          sensor := if p.alarm then p.sensor else BitVec.ofNat 4 n.val }, true)
      else ({ p with sensors := p.sensors.upd n (fun _ => p.reported n cycles) }, false) := by
    simp only [Pace.window, decide_eq_true_eq]
    rfl
  rw [hwindow]
  by_cases hlow : 2 ≤ (p.reported n cycles).below
  · cases ha : p.alarm <;> simp [hlow]
  · simp [hlow]

@[simp] theorem State.paceWindow_pace (s : State) (n : Fin 16) (cycles : Nat) :
    (s.paceWindow n cycles).pace = (s.pace.window n cycles).1 := by
  simp only [State.paceWindow]
  split <;> rfl

@[simp] theorem State.paceWindow_phase (s : State) (n : Fin 16) (cycles : Nat) :
    (s.paceWindow n cycles).phase = s.phase :=
  (State.paceWindow_changes s n cycles).rest .phase (by decide)

theorem State.paceWindow_evr (s : State) (n : Fin 16) (cycles : Nat) :
    (s.paceWindow n cycles).evr = if 2 ≤ (s.pace.reported n cycles).below then
      (s.log 0x7010 0xFF (leBytes 1 n.val ++ leBytes 2 (cycles / 10) ++ leBytes 1 (bit s.effCap.isSome))).evr
    else s.evr := by
  simp only [State.paceWindow, Pace.window_eq, decide_eq_true_eq]
  split <;> rfl

/-! ### A tamper alarm -/

@[simp] theorem State.tamper_pace (s : State) (alarm : Fin 5) (value : Int) : (s.tamper alarm value).pace = s.pace :=
  (State.tamper_changes s alarm value).rest .pace (by decide)

theorem State.eraseKeys_sec (s : State) :
    s.eraseKeys.sec = { s.sec with keysHeld := false, kpio := [], sessions := [] } :=
  (State.dropLines_changes _ _).rest .sec (by decide)

/-- Containing ports touches nothing of the security unit. -/
theorem State.foldl_contain_sec (s : State) (ps : List (Fin 2)) (trig : Fin 8) :
    (ps.foldl (fun s p => s.contain p trig) s).sec = s.sec := by
  induction ps generalizing s with
  | nil => rfl
  | cons p ps ih => exact (ih _).trans ((State.contain_changes s p trig).rest .sec (by decide))

/-- What an alarm leaves in the security unit (R365): the erasure and the containment that follow the cause keep it. -/
theorem State.tamper_sec (s : State) (alarm : Fin 5) (value : Int) :
    (s.tamper alarm value).sec = { s.sec with
      causes := s.sec.causes ||| ((1 : BitVec 5) <<< alarm.val)
      tampered := true
      meshBroken := s.sec.meshBroken || alarm.val == 3
      keysHeld := false
      kpio := []
      sessions := [] } := by
  have resumes (u : State) : u.resumeAll.sec = u.sec := (State.resumeAll_changes u).rest .sec (by decide)
  simp only [State.tamper, apply_ite State.sec, resumes, State.foldl_contain_sec, State.log_sec, State.eraseKeys_sec, ite_self]

/-! ### The command -/

theorem exec_paceWindow {s : State} (h : s.powered = true) (n : Fin 16) (cycles : Nat) :
    exec (.paceWindow n cycles) s = .next (if paceAnomaly n cycles && s.phase.guarded then
      (s.paceWindow n cycles).tamper 2 (cycles / 10 : Nat) else s.paceWindow n cycles) := by
  change execPaceWindow n cycles s = _
  simp only [execPaceWindow, State.whenPowered_powered h, State.paceWindow_phase]

theorem paceWindow_changes_touches (n : Fin 16) (cycles : Nat) (s t : State)
    (h : exec (.paceWindow n cycles) s = .next t) : Changes (touches (.paceWindow n cycles)) s t := by
  obtain ⟨u, hu, hc⟩ := execPaceWindow_changes n cycles s
  cases hu.symm.trans h
  exact hc

/-! ### A power measurement -/

theorem State.powerCapTick_avs (s : State) (power : Nat) :
    (s.powerCapTick power).avs =
      { vcore := (capStep (s.effCap.map (·.1)) power s.avs.vcore s.avs.fetchCut).1
        power := power
        fetchCut := (capStep (s.effCap.map (·.1)) power s.avs.vcore s.avs.fetchCut).2 } := by
  simp only [State.powerCapTick]
  split <;> rfl

/-- The regulator is told of a voltage that has changed. -/
theorem State.powerCapTick_out (s : State) (power : Nat) :
    (s.powerCapTick power).out = s.out ++
      if (s.powerCapTick power).avs.vcore = s.avs.vcore then [] else [.avs (s.powerCapTick power).avs.vcore] := by
  rw [State.powerCapTick_avs]
  simp only [State.powerCapTick]
  split <;> simp_all

theorem exec_powerCapTick {s : State} (h : s.live = true) (power : Nat) :
    exec (.powerCapTick power) s = .next (s.powerCapTick power) := by
  change execPowerCapTick power s = _
  simp only [execPowerCapTick, State.whenLive_live h]

section
variable {c power vcore : Nat} (cut : Nat)

/-- Without a cap the voltage and the fetch rate go back step by step (notes/assumptions/38.md). -/
theorem capStep_none : capStep none power vcore cut = (min 750 (vcore + 5), cut - 1) := rfl

theorem capStep_above_high (h : c < power) (hv : 650 < vcore) : capStep (some c) power vcore cut = (vcore - 5, cut) := by
  simp [capStep, h, hv]

theorem capStep_above_lowest (h : c < power) (hv : vcore ≤ 650) :
    capStep (some c) power vcore cut = (vcore, min 7 (cut + 1)) := by
  simp [capStep, h, Nat.not_lt.mpr hv]

theorem capStep_near (h : power ≤ c) (hn : c ≤ power + 10) : capStep (some c) power vcore cut = (vcore, cut) := by
  simp [capStep, Nat.not_lt.mpr h, Nat.not_lt.mpr hn]

theorem capStep_below (h : power + 10 < c) : capStep (some c) power vcore cut = (min 750 (vcore + 5), cut - 1) := by
  simp [capStep, h, show ¬ c < power by omega]

end

/-! ### The statement -/

/-- The state after a window: the sensors are those of `Pace.window`, and only an anomaly of the security unit's sensor goes on to an
alarm. -/
theorem exec_paceWindow_pace (n : Fin 16) (cycles : Nat) (s : State) (h : s.powered = true) :
    ∃ t, exec (.paceWindow n cycles) s = .next t ∧ t.pace = (s.pace.window n cycles).1 ∧
      (paceAnomaly n cycles = false ∨ s.phase.guarded = false → t = s.paceWindow n cycles) ∧
      (paceAnomaly n cycles = true → s.phase.guarded = true →
        t.sec.tampered = true ∧ t.sec.causes.getLsbD 2 = true) := by
  refine ⟨_, exec_paceWindow h n cycles, ?_, ?_, ?_⟩
  · split <;> simp
  · rintro (hq | hq) <;> simp [hq]
  · intro ha hg
    simp [ha, hg, State.tamper_sec]

/-- Settles O1: a window replaces one sensor and its count of low windows decides alarm and event (`Pace.window_eq`); a measurement
steps voltage and fetch rate as `capStep` does. -/
theorem paceAndPowerCap : Obligations.PaceAndPowerCap := by
  refine ⟨fun n cycles s h => ?_, fun power s h => ?_⟩
  · obtain ⟨t, ht, hpace, hquiet, htamper⟩ := exec_paceWindow_pace n cycles s h
    rw [Pace.window_eq] at hpace
    have hsensor : t.pace.sensors[n] = s.pace.reported n cycles := by rw [hpace, Tbl.upd_get]
    refine ⟨t, ht, ?_, ?_, ?_, ?_, ?_, ?_, ?_, ?_, ?_⟩
    · rw [hsensor, Pace.reported]
    · rw [hsensor, Pace.reported_paceMin_toNat]
    · rw [hsensor, Pace.reported]
    · rw [hsensor, hpace]
      simp
    · rw [hsensor, hpace]
    · intro m hm
      rw [hpace, Tbl.upd_get_ne _ _ _ _ hm]
    · rw [hpace]
    · intro hq
      cases hquiet hq
      exact ⟨hsensor ▸ State.paceWindow_evr s n cycles, State.paceWindow_changes s n cycles⟩
    · intro ha hg
      obtain ⟨htampered, hcause⟩ := htamper ha hg
      exact ⟨htampered, hcause, paceWindow_changes_touches n cycles s t ht⟩
  · refine ⟨_, exec_powerCapTick h power, ?_, ?_, ?_, ?_, ?_, ?_, State.powerCapTick_out s power,
      State.powerCapTick_changes s power⟩
    · rw [State.powerCapTick_avs]
    · intro hc
      simp [State.powerCapTick_avs, hc, capStep_none]
    · intro c k hc hp hv
      simp [State.powerCapTick_avs, hc, capStep_above_high _ hp hv]
    · intro c k hc hp hv
      simp [State.powerCapTick_avs, hc, capStep_above_lowest _ hp hv]
    · intro c k hc hp hn
      simp [State.powerCapTick_avs, hc, capStep_near _ hp hn]
    · intro c k hc hp
      simp [State.powerCapTick_avs, hc, capStep_below _ hp]

end Sys2Proof.Machine
end

section
/-! The statement of chapter 07 about the machine after reset: nothing is locked (R268), nothing is stored, nothing is open. -/

namespace Sys2Proof

/-! ### Empty tables and memories -/

@[simp] theorem AMap.wf_nil {α : Type} : AMap.wf ([] : AMap α) = true := rfl

namespace Machine

@[simp] theorem regrant_nil : regrant [] = [] := rfl

/-- A memory that lists no byte is canonical, whatever an unlisted address reads. -/
@[simp] theorem memWf_nil (d : Byte) : memWf d [] = true := rfl

/-- A memory region that holds nothing and has no image is canonical. -/
theorem Pmr.memOk_of_empty {r : Pmr} (hmem : r.mem = []) (himage : r.image = none) : r.memOk = true := by
  simp [Pmr.memOk, hmem, himage]

/-! ### The invariants at reset -/

theorem State.reset_locksOk : State.reset.locksOk := by
  have hlocks : State.reset.cmq.locks = [] := rfl
  rw [State.locksOk, hlocks, regrant_nil]

theorem State.reset_memOk : State.reset.memOk = true := by
  have hbst : State.reset.bst.mem = [] := rfl
  have hsec : State.reset.sec.dataStore = [] := rfl
  have hsdm : State.reset.sdm.mem = [] := rfl
  have hpmr (p : Fin 2) : State.reset.land.pmr[p].memOk = true := by
    have hempty : State.reset.land.pmr[p] = {} := Vector.getElem_replicate _
    exact Pmr.memOk_of_empty (by rw [hempty]) (by rw [hempty])
  simp only [State.memOk, hbst, hsec, hsdm, memWf_nil, Bool.and_eq_true, true_and]
  exact ⟨hpmr 0, hpmr 1⟩

theorem State.reset_tablesOk : State.reset.tablesOk = true := by
  have hlines : State.reset.land.lines = [] := rfl
  have hrows : State.reset.media.rows = [] := rfl
  rw [State.tablesOk, hlines, hrows, AMap.wf_nil, AMap.wf_nil, Bool.and_true]

/-- Settles O59: at reset the lock table, the byte memories and the tables of lines and rows are empty, and what is empty is settled and
canonical. -/
theorem resetMeetsInvariants : Obligations.ResetMeetsInvariants :=
  ⟨State.reset_locksOk, State.reset_memOk, State.reset_tablesOk⟩

end Machine

end Sys2Proof
end

section
/-! The statement of chapter 08 about requests to BAR2/3 and BAR4/5 that find their window: the persistent memory region (R265), the CMB
data slots (R262), unmapped windows (R292), requests across a window boundary (R294) and containment (R302). -/

namespace Sys2Proof.Machine

open Sys2Proof

/-! ### Byte memories -/

theorem memRead_eq_map (d : Byte) (m : List Host.Cell) (a n : Nat) :
    memRead d m a n = (List.range n).map (fun i => memGet d m (a + i)) := by
  induction n generalizing a with
  | zero => rfl
  | succ n ih =>
    rw [memRead, ih, List.range_succ_eq_map, List.map_cons, List.map_map]
    simp only [Function.comp_def, Nat.add_zero, Nat.succ_eq_add_one, Nat.add_assoc, Nat.add_comm 1]

/-! ### What a refused, an unmapped and a crossing request leave (R292, R294) -/

@[simp] theorem State.barAnswer_evr (s : State) (p : Fin 2) (isWrite : Bool) (c : Cpl) :
    (s.barAnswer p isWrite c).evr = s.evr := rfl

@[simp] theorem State.barAnswer_out (s : State) (p : Fin 2) (isWrite : Bool) (c : Cpl) :
    (s.barAnswer p isWrite c).out = s.out ++ [.tlp p (if isWrite then .discarded else c)] := rfl

/-- The recorder takes an event in by the clocks alone: what has been sent does not matter to it. -/
theorem State.log_evr_congr {s t : State} (hevr : t.evr = s.evr) (hclocks : t.clocks = s.clocks) (htb : t.tb = s.tb)
    (code src : Nat) (data : List Byte) : (t.log code src data).evr = (s.log code src data).evr := by
  simp only [State.log, State.logs, hevr, hclocks, htb]

theorem State.unmapped_read (s : State) (p : Fin 2) (bar offset : Nat) :
    s.unmapped p bar offset false = s.barAnswer p false .ur := rfl

theorem State.unmapped_write_evr (s : State) (p : Fin 2) (bar offset : Nat) :
    (s.unmapped p bar offset true).evr = (s.log 0x4301 (s.portSrc p) (leBytes 1 bar ++ leBytes 4 offset)).evr :=
  State.log_evr_congr rfl rfl rfl _ _ _

theorem State.unmapped_out (s : State) (p : Fin 2) (bar offset : Nat) (isWrite : Bool) :
    (s.unmapped p bar offset isWrite).out =
      s.out ++ (if isWrite then [Output.tlp p .discarded, .advisoryUr p] else [Output.tlp p .ur]) := by
  cases isWrite with
  | false => rfl
  | true => simp [State.unmapped]

@[simp] theorem State.unmapped_ports (s : State) (p : Fin 2) (bar offset : Nat) (isWrite : Bool) :
    (s.unmapped p bar offset isWrite).ports = s.ports :=
  (State.unmapped_changes s p bar offset isWrite).rest .ports (by decide)

theorem State.crosses_urCross (s : State) (p : Fin 2) (bar offset : Nat) (isWrite : Bool) :
    (s.crosses p bar offset isWrite).ports[p].urCross = satInc s.ports[p].urCross := by
  simp only [State.crosses, State.unmapped_ports, State.setPort_ports, Tbl.upd_get]

theorem State.crosses_out (s : State) (p : Fin 2) (bar offset : Nat) (isWrite : Bool) :
    (s.crosses p bar offset isWrite).out =
      s.out ++ (if isWrite then [Output.tlp p .discarded, .advisoryUr p] else [Output.tlp p .ur]) :=
  State.unmapped_out (s.setPort p _) p bar offset isWrite

/-! ### The persistent memory region (R265, R266) -/

section
variable {s : State} {p : Fin 2} {offset : Nat}

/-- The region is not to be reached through the window of `offset`: its port reports NRDY, or the window has target 4 (R266, R295). -/
def State.PmrShut (s : State) (p : Fin 2) (offset : Nat) : Prop :=
  (s.ports[p].target 2 (offset / 33554432) = 1 ∧ s.land.pmr[p].nrdy = true) ∨ s.ports[p].target 2 (offset / 33554432) = 4

theorem State.pmrWrite_ready {bs : List Byte} (hin : offset / 33554432 = (offset + bs.length - 1) / 33554432)
    (htarget : s.ports[p].target 2 (offset / 33554432) = 1) (hready : s.land.pmr[p].nrdy = false) :
    s.pmrWrite p offset bs = s.pmrPut p (s.pmrAddr p offset) bs := by
  rw [State.pmrWrite, if_neg (fun h => h.2 hin)]
  simp only [htarget, hready]
  rfl

theorem State.pmrWrite_shut {bs : List Byte} (hin : offset / 33554432 = (offset + bs.length - 1) / 33554432)
    (hshut : s.PmrShut p offset) : s.pmrWrite p offset bs = s.pmrNotReady p offset true := by
  rw [State.pmrWrite, if_neg (fun h => h.2 hin)]
  rcases hshut with ⟨htarget, hnrdy⟩ | htarget
  · simp only [htarget, hnrdy, if_true]
  · simp only [htarget]

theorem State.pmrRead_ready {len : Nat} (hin : offset / 33554432 = (offset + len - 1) / 33554432)
    (htarget : s.ports[p].target 2 (offset / 33554432) = 1) (hready : s.land.pmr[p].nrdy = false) :
    s.pmrRead p offset len = s.barAnswer p false
      (.ok ((List.range len).map (fun i => memGet 0 s.land.pmr[p].mem (s.pmrAddr p offset + i)))) := by
  rw [State.pmrRead, if_neg (fun h => h.2 hin)]
  simp only [htarget, hready, memRead_eq_map]
  rfl

theorem State.pmrRead_shut {len : Nat} (hin : offset / 33554432 = (offset + len - 1) / 33554432)
    (hshut : s.PmrShut p offset) :
    s.pmrRead p offset len = (s.pmrNotReady p offset false).barAnswer p false (.ok (List.replicate len 0xFF)) := by
  rw [State.pmrRead, if_neg (fun h => h.2 hin)]
  rcases hshut with ⟨htarget, hnrdy⟩ | htarget
  · simp only [htarget, hnrdy, if_true]
    rfl
  · simp only [htarget]
    rfl

theorem State.pmrPut_pmr (s : State) (p : Fin 2) (a : Nat) (bs : List Byte) :
    (s.pmrPut p a bs).land.pmr[p] = s.land.pmr[p].write a bs :=
  Tbl.upd_get ..

theorem State.pmrPut_pmr_ne {q : Fin 2} (h : q ≠ p) (a : Nat) (bs : List Byte) :
    (s.pmrPut p a bs).land.pmr[q] = s.land.pmr[q] :=
  Tbl.upd_get_ne _ _ _ _ h

end

/-! ### CMB data slots (R262) -/

/-- The eight sectors of a data slot: those written to it, or undefined ones where it has not been written yet. -/
def State.slotSectors (s : State) (p : Fin 2) (k : Nat) : List Sector :=
  (s.land.cmb[p].data.get? k).getD ((List.range 8).map (fun i => Config.freeSector (s.free + i)))

/-- A port's data slot holds the sectors `d`. -/
def Landing.putSlot (l : Landing) (p : Fin 2) (k : Nat) (d : List Sector) : Landing :=
  { l with cmb := l.cmb.upd p (fun c => { c with data := c.data.put k d }) }

theorem Landing.putSlot_data (l : Landing) (p : Fin 2) (k : Nat) (d : List Sector) :
    (l.putSlot p k d).cmb[p].data = l.cmb[p].data.put k d :=
  congrArg CmbPort.data (Tbl.upd_get ..)

section
variable {s : State} {p : Fin 2} {k : Nat}

theorem State.slotSectors_written {d : List Sector} (h : s.land.cmb[p].data.get? k = some d) : s.slotSectors p k = d := by
  rw [State.slotSectors, h, Option.getD_some]

theorem State.slotSectors_length_unwritten (h : s.land.cmb[p].data.get? k = none) : (s.slotSectors p k).length = 8 := by
  rw [State.slotSectors, h, Option.getD_none, List.length_map, List.length_range]

theorem State.slotWrite_bound (h : s.land.cmb[p].bound k = true) (sec : Fin 8) (x : Sector) :
    s.slotWrite p k sec x =
      { s with
        land := s.land.putSlot p k ((s.slotSectors p k).set sec.val x)
        free := if s.land.cmb[p].data.has k then s.free else s.free + 8 } := by
  rw [State.slotWrite, if_neg (by rw [h]; decide)]
  cases hd : s.land.cmb[p].data.get? k <;> simp only [State.slotSectors, AMap.has, hd] <;> rfl

theorem State.slotWrite_unbound (h : s.land.cmb[p].bound k = false) (sec : Fin 8) (x : Sector) :
    s.slotWrite p k sec x = (s.barAnswer p true .ur).log 0x4302 (s.portSrc p) (leBytes 4 k) := by
  simp only [State.slotWrite, h, Bool.not_false, if_true]

end

/-! ### The commands -/

section
variable {s : State} {p : Fin 2}

theorem exec_pmrWrite (hlive : s.live = true) (hlink : s.linkUp p = true) (hgoes : s.barRefusal p 2 = none) (offset : Nat)
    (bs : List Byte) : exec (.pmrWrite p offset bs) s = .next (s.pmrWrite p offset bs) := by
  change execPmrWrite p offset bs s = _
  simp [execPmrWrite, hlink, hgoes, State.whenLive_live hlive]

theorem exec_pmrRead (hlive : s.live = true) (hlink : s.linkUp p = true) (hgoes : s.barRefusal p 2 = none)
    (offset len : Nat) : exec (.pmrRead p offset len) s = .next (s.pmrRead p offset len) := by
  change execPmrRead p offset len s = _
  simp [execPmrRead, hlink, hgoes, State.whenLive_live hlive]

theorem exec_cmbSlotWrite (hlive : s.live = true) (hlink : s.linkUp p = true) (hgoes : s.barRefusal p 2 = none) (k : Nat)
    (sec : Fin 8) (x : Sector) : exec (.cmbSlotWrite p k sec x) s = .next (s.slotWrite p k sec x) := by
  change execCmbSlotWrite p k sec x s = _
  simp [execCmbSlotWrite, hlink, hgoes, State.whenLive_live hlive]

theorem exec_barUnmappedAccess {bar offset : Nat} (hlive : s.live = true) (hlink : s.linkUp p = true)
    (hbar : bar = 2 ∨ bar = 4) (hgoes : s.barRefusal p bar = none)
    (htarget : s.ports[p].target bar (offset / winSize bar) = 0) (isWrite : Bool) :
    exec (.barUnmappedAccess p bar offset isWrite) s = .next (s.unmapped p bar offset isWrite) := by
  change execBarUnmappedAccess p bar offset isWrite s = _
  have hknown : ¬ (bar ≠ 2 ∧ bar ≠ 4) := by omega
  simp only [execBarUnmappedAccess, hlink, hknown, hgoes, hlive, htarget]
  rfl

theorem exec_tlpWindowCross {bar offset len : Nat} (hlive : s.live = true) (hlink : s.linkUp p = true)
    (hbar : bar = 2 ∨ bar = 4) (hgoes : s.barRefusal p bar = none) (hlen : len ≠ 0)
    (hcross : offset / winSize bar ≠ (offset + len - 1) / winSize bar) (isWrite : Bool) :
    exec (.tlpWindowCross p bar offset len isWrite) s = .next (s.crosses p bar offset isWrite) := by
  change execTlpWindowCross p bar offset len isWrite s = _
  have hknown : ¬ (bar ≠ 2 ∧ bar ≠ 4) := by omega
  simp only [execTlpWindowCross, hlink, hknown, hgoes, hlive]
  rw [if_neg (by simp), if_pos ⟨trivial, hlen, hcross⟩]

/-- A function that is contained serves no request to BAR2/3 (R302). -/
theorem State.barRefusal_contained (hawake : s.asleep = false) (hide : s.param 0x2000 4 ≠ 1)
    (hcont : s.ports[p].cnt.active = true) : s.barRefusal p 2 = some .ca := by
  simp only [State.barRefusal, hawake, hide, hcont, Bool.false_eq_true, false_and, and_self, if_false, if_true]

/-- Whatever a request to BAR2/3 asks for, a refusal answers it before anything else happens. -/
theorem exec_bar2_refused {i : Instr} {isWrite : Bool} {c : Cpl} (hlink : s.linkUp p = true)
    (hc : s.barRefusal p 2 = some c)
    (hi : (∃ o bs, i = .pmrWrite p o bs ∧ isWrite = true) ∨ (∃ o n, i = .pmrRead p o n ∧ isWrite = false) ∨
      (∃ k sec d, i = .cmbSlotWrite p k sec d ∧ isWrite = true) ∨ (∃ o, i = .barUnmappedAccess p 2 o isWrite)) :
    exec i s = .next (s.barAnswer p isWrite c) := by
  rcases hi with ⟨o, bs, rfl, rfl⟩ | ⟨o, n, rfl, rfl⟩ | ⟨k, sec, d, rfl, rfl⟩ | ⟨o, rfl⟩
  · change execPmrWrite p o bs s = _
    simp [execPmrWrite, hlink, hc]
  · change execPmrRead p o n s = _
    simp [execPmrRead, hlink, hc]
  · change execCmbSlotWrite p k sec d s = _
    simp [execCmbSlotWrite, hlink, hc]
  · change execBarUnmappedAccess p 2 o isWrite s = _
    simp [execBarUnmappedAccess, hlink, hc]

theorem exec_xlatCommit (hlive : s.live = true) (p : Fin 2) :
    exec (.xlatCommit p) s = .next (s.setPort p PcPort.commit) := by
  change execXlatCommit p s = _
  rw [execXlatCommit, State.whenLive_live hlive]

end

/-! ### The statement -/

/-- Settles O41: each request meets one equation of its command (`exec_pmrWrite` and the like), and what it leaves is read from the
update that the equation names. -/
theorem persistentRegionAndWindows : Obligations.PersistentRegionAndWindows := by
  refine ⟨?write, ?read, ?slot, ?unmapped, ?cross, ?contained, ?commit⟩
  case write =>
    intro p offset bs s hlive hlink hgoes hin
    have hexec := exec_pmrWrite hlive hlink hgoes offset bs
    refine ⟨fun htarget hready => ?_, fun hshut => ?_⟩
    · rw [State.pmrWrite_ready hin htarget hready] at hexec
      refine ⟨_, hexec, fun a => ?_, fun q hq => State.pmrPut_pmr_ne hq _ bs, rfl, State.pmrPut_changes ..⟩
      rw [State.pmrPut_pmr]
      exact memGet_memWrite ..
    · rw [State.pmrWrite_shut hin hshut] at hexec
      exact ⟨_, hexec, rfl, State.pmrNotReady_changes ..⟩
  case read =>
    intro p offset len s hlive hlink hgoes hin
    have hexec := exec_pmrRead hlive hlink hgoes offset len
    refine ⟨fun htarget hready => ?_, fun hshut => ?_⟩
    · rw [State.pmrRead_ready hin htarget hready] at hexec
      exact ⟨_, hexec, State.barAnswer_out .., State.barAnswer_changes ..⟩
    · rw [State.pmrRead_shut hin hshut] at hexec
      exact ⟨_, hexec, State.barAnswer_out .., rfl, (State.barAnswer_changes ..).step rfl
        ((State.pmrNotReady_changes ..).step rfl (Changes.refl _ s))⟩
  case slot =>
    intro p k sec x s hlive hlink hgoes
    have hexec := exec_cmbSlotWrite hlive hlink hgoes k sec x
    refine ⟨fun hbound => ?_, fun hunbound => ?_⟩
    · rw [State.slotWrite_bound hbound] at hexec
      refine ⟨_, hexec, fun d hd => ?_, fun hd => ?_, fun j hj => ?_, rfl, rfl,
        Changes.land_free_with _ _ rfl rfl (Changes.refl _ s)⟩
      · rw [Landing.putSlot_data, AMap.get?_put, State.slotSectors_written hd]
        exact ⟨rfl, if_pos (by rw [AMap.has, hd, Option.isSome_some])⟩
      · have hlength := State.slotSectors_length_unwritten hd
        refine ⟨_, by rw [Landing.putSlot_data, AMap.get?_put], by rw [List.length_set, hlength], ?_⟩
        exact List.getElem?_set_self (by omega)
      · rw [Landing.putSlot_data, AMap.get?_put_ne _ _ _ _ hj]
    · rw [State.slotWrite_unbound hunbound] at hexec
      exact ⟨_, hexec, State.log_evr_congr rfl rfl rfl _ _ _, State.barAnswer_out .., (State.log_changes ..).step rfl
        ((State.barAnswer_changes ..).step rfl (Changes.refl _ s))⟩
  case unmapped =>
    intro p bar offset s hlive hlink hbar hgoes htarget
    have hexec := exec_barUnmappedAccess hlive hlink hbar hgoes htarget
    exact ⟨⟨_, hexec false, State.unmapped_out .., State.barAnswer_changes ..⟩,
      ⟨_, hexec true, State.unmapped_out .., State.unmapped_write_evr .., State.unmapped_changes ..⟩⟩
  case cross =>
    intro p bar offset len isWrite s hlive hlink hbar hgoes hlen hcross
    exact ⟨_, exec_tlpWindowCross hlive hlink hbar hgoes hlen hcross isWrite, State.crosses_urCross ..,
      (State.crosses_changes s p bar offset isWrite).rest .land (by decide), State.crosses_out .., State.crosses_changes ..⟩
  case contained =>
    intro i p isWrite s _ hlink hcont hawake hide hi
    exact ⟨_, exec_bar2_refused hlink (State.barRefusal_contained hawake hide hcont) hi, State.barAnswer_out ..,
      State.barAnswer_changes ..⟩
  case commit => exact fun p s hlive => exec_xlatCommit hlive p

end Sys2Proof.Machine
end

section
/-! The statement that every command ends in a next state and changes only the units listed for it (spec/95_what_each_step_holds.md), and
the statement that a step runs the command at the front of the queue. -/

namespace Sys2Proof.Machine

open Sys2Proof

/-- The frame of each command's meaning is its own lemma in Laws/Commands.lean; `touches` lists the same units. -/
theorem exec_changes_touches (i : Instr) (s : State) : ∃ t, exec i s = .next t ∧ Changes (touches i) s t :=
  match i with
  | .paceWindow sensor cycles => execPaceWindow_changes sensor cycles s
  | .tbSourceStop src => execTbSourceStop_changes src s
  | .tbSourceSelect sel => execTbSourceSelect_changes sel s
  | .tbLoRead ini => execTbLoRead_changes ini s
  | .coreHeartbeat c => execCoreHeartbeat_changes c s
  | .heartbeatMissed c => execHeartbeatMissed_changes c s
  | .coreEccError c => execCoreEccError_changes c s
  | .lockstepMismatch => execLockstepMismatch_changes s
  | .decoderSelfCheckFail sl soft idx => execDecoderSelfCheckFail_changes sl soft idx s
  | .accumulatorSelfCheckFail sl => execAccumulatorSelfCheckFail_changes sl s
  | .compressionUnitFail sl => execCompressionUnitFail_changes sl s
  | .cipherLaneCheckFail sl => execCipherLaneCheckFail_changes sl s
  | .watchdogReset => execWatchdogReset_changes s
  | .powerCapTick power => execPowerCapTick_changes power s
  | .sqDoorbell p qid tail => execSqDoorbell_changes p qid tail s
  | .cqHeadDoorbell p qid head => execCqHeadDoorbell_changes p qid head s
  | .commandFetch p cid cmd => execCommandFetch_changes p cid cmd s
  | .write fseq => execWrite_changes fseq s
  | .writeDataLanded fseq data => execWriteDataLanded_changes fseq data s
  | .readBackReturn fseq ok => execReadBackReturn_changes fseq ok s
  | .recordPacked line frame => execRecordPacked_changes line frame s
  | .closeWaitExpire row => execCloseWaitExpire_changes row s
  | .programComplete row member => execProgramComplete_changes row member s
  | .rowComplete row => execRowComplete_changes row s
  | .programFail row member => execProgramFail_changes row member s
  | .eraseFail die block => execEraseFail_changes die block s
  | .read fseq => execRead_changes fseq s
  | .nandReadData rid sig => execNandReadData_changes rid sig s
  | .decodeComplete rid out iters => execDecodeComplete_changes rid out iters s
  | .exportByLba p req => execExportByLba_changes p req s
  | .exportByPhysical p req => execExportByPhysical_changes p req s
  | .resolve p req pilots body => execResolve_changes p req pilots body s
  | .ceTrainingDone ch ce res pins => execCeTrainingDone_changes ch ce res pins s
  | .recentreDue ch ce rd wr pins => execRecentreDue_changes ch ce rd wr pins s
  | .statusPollTimeout die pins => execStatusPollTimeout_changes die pins s
  | .dieSuspended die => execDieSuspended_changes die s
  | .suspWindowExpire die => execSuspWindowExpire_changes die s
  | .suspendRunReached die => execSuspendRunReached_changes die s
  | .arrayOpWaitLimit op => execArrayOpWaitLimit_changes op s
  | .busTransferWaitLimit ch => execBusTransferWaitLimit_changes ch s
  | .rebuildPhase1End die => execRebuildPhase1End_changes die s
  | .rebuildPhase2End die => execRebuildPhase2End_changes die s
  | .checkpointTimer => execCheckpointTimer_changes s
  | .stripeOpen => execStripeOpen_changes s
  | .eraseComplete die block => execEraseComplete_changes die block s
  | .retentionAge stripe => execRetentionAge_changes stripe s
  | .pounceScan findings => execPounceScan_changes findings s
  | .pounceFinish id => execPounceFinish_changes id s
  | .pouncePendingAged id => execPouncePendingAged_changes id s
  | .fullingWindowExpire => execFullingWindowExpire_changes s
  | .reclaimUnitTimeLimit handle => execReclaimUnitTimeLimit_changes handle s
  | .chargeEnable => execChargeEnable_changes s
  | .bankFullCharge => execBankFullCharge_changes s
  | .chargeTimeout pins => execChargeTimeout_changes pins s
  | .chargeRetry => execChargeRetry_changes s
  | .landingLimitRecompute capSense => execLandingLimitRecompute_changes capSense s
  | .bankTestDue => execBankTestDue_changes s
  | .bankTestEnd m => execBankTestEnd_changes m s
  | .bankFault k pins => execBankFault_changes k pins s
  | .bankFaultClear k => execBankFaultClear_changes k s
  | .powerFail src => execPowerFail_changes src s
  | .flushMark us => execFlushMark_changes us s
  | .hostPowerReturn => execHostPowerReturn_changes s
  | .recoveryComplete ms broken => execRecoveryComplete_changes ms broken s
  | .createIoSq fseq qid size cqid prio contig inCmb => execCreateIoSq_changes fseq qid size cqid prio contig inCmb s
  | .createIoCq fseq qid size vector contig inCmb => execCreateIoCq_changes fseq qid size vector contig inCmb s
  | .deleteIoSq fseq qid => execDeleteIoSq_changes fseq qid s
  | .deleteIoCq fseq qid => execDeleteIoCq_changes fseq qid s
  | .getLogPage fseq lid nsid => execGetLogPage_changes fseq lid nsid s
  | .identify fseq cns nsid => execIdentify_changes fseq cns nsid s
  | .abort fseq sqid cid => execAbort_changes fseq sqid cid s
  | .getFeatures fseq fid sel => execGetFeatures_changes fseq fid sel s
  | .setArbitration fseq burst low med high save => execSetArbitration_changes fseq burst low med high save s
  | .setPowerManagement fseq ps => execSetPowerManagement_changes fseq ps s
  | .setTemperatureThreshold fseq sensor under kelvin => execSetTemperatureThreshold_changes fseq sensor under kelvin s
  | .setErrorRecovery fseq tler dulbe => execSetErrorRecovery_changes fseq tler dulbe s
  | .setVolatileWriteCache fseq wce save => execSetVolatileWriteCache_changes fseq wce save s
  | .setNumberOfQueues fseq nsq ncq => execSetNumberOfQueues_changes fseq nsq ncq s
  | .setInterruptCoalescing fseq threshold time => execSetInterruptCoalescing_changes fseq threshold time s
  | .setInterruptVectorConfig fseq vector disable => execSetInterruptVectorConfig_changes fseq vector disable s
  | .setAsyncEventConfig fseq mask => execSetAsyncEventConfig_changes fseq mask s
  | .setApst fseq enable table => execSetApst_changes fseq enable table s
  | .setTimestamp fseq ms => execSetTimestamp_changes fseq ms s
  | .setHctm fseq tmt1 tmt2 => execSetHctm_changes fseq tmt1 tmt2 s
  | .setReadRecoveryLevel fseq level => execSetReadRecoveryLevel_changes fseq level s
  | .setReservationPersistence fseq nsid ptpl => execSetReservationPersistence_changes fseq nsid ptpl s
  | .setHostIdentifier fseq id => execSetHostIdentifier_changes fseq id s
  | .setFdp fseq enable => execSetFdp_changes fseq enable s
  | .asyncEventRequest fseq => execAsyncEventRequest_changes fseq s
  | .namespaceManagement fseq m => execNamespaceManagement_changes fseq m s
  | .namespaceAttachment fseq attach nsid ctrls => execNamespaceAttachment_changes fseq attach nsid ctrls s
  | .deviceSelfTest fseq code => execDeviceSelfTest_changes fseq code s
  | .directiveSend fseq nsid dtype enable => execDirectiveSend_changes fseq nsid dtype enable s
  | .directiveReceive fseq nsid dtype => execDirectiveReceive_changes fseq nsid dtype s
  | .formatNvm fseq nsid ses lba512 => execFormatNvm_changes fseq nsid ses lba512 s
  | .sanitize fseq action => execSanitize_changes fseq action s
  | .invalidAdminOpcode fseq => execInvalidAdminOpcode_changes fseq s
  | .firmwareImageDownload fseq ofst bytes => execFirmwareImageDownload_changes fseq ofst bytes s
  | .downloadPieceProgrammed fseq ok => execDownloadPieceProgrammed_changes fseq ok s
  | .commitReplace fseq slot => execCommitReplace_changes fseq slot s
  | .commitActivateAtReset fseq slot => execCommitActivateAtReset_changes fseq slot s
  | .commitSetActive fseq slot => execCommitSetActive_changes fseq slot s
  | .commitActivateNow fseq slot => execCommitActivateNow_changes fseq slot s
  | .flushCommand fseq => execFlushCommand_changes fseq s
  | .compare fseq data => execCompare_changes fseq data s
  | .writeZeroes fseq => execWriteZeroes_changes fseq s
  | .datasetManagement fseq => execDatasetManagement_changes fseq s
  | .verify fseq => execVerify_changes fseq s
  | .reservationRegister fseq action ignoreKey cur new => execReservationRegister_changes fseq action ignoreKey cur new s
  | .reservationReport fseq => execReservationReport_changes fseq s
  | .reservationAcquire fseq action rtype ignoreKey cur pre => execReservationAcquire_changes fseq action rtype ignoreKey cur pre s
  | .reservationRelease fseq action rtype ignoreKey cur => execReservationRelease_changes fseq action rtype ignoreKey cur s
  | .ioManagementReceive fseq => execIoManagementReceive_changes fseq s
  | .reclaimUnitHandleUpdate fseq => execReclaimUnitHandleUpdate_changes fseq s
  | .copy fseq => execCopy_changes fseq s
  | .zoneFinish fseq => execZoneFinish_changes fseq s
  | .zoneReset fseq => execZoneReset_changes fseq s
  | .zoneManagementReceive fseq => execZoneManagementReceive_changes fseq s
  | .zoneAppend fseq => execZoneAppend_changes fseq s
  | .normalShutdown p => execNormalShutdown_changes p s
  | .abruptShutdown p => execAbruptShutdown_changes p s
  | .ccEnable p wrr asqs acqs => execCcEnable_changes p wrr asqs acqs s
  | .ccDisable p => execCcDisable_changes p s
  | .functionLevelReset p => execFunctionLevelReset_changes p s
  | .hotReset p => execHotReset_changes p s
  | .perstAssert p => execPerstAssert_changes p s
  | .perstDeassert p => execPerstDeassert_changes p s
  | .nvmSubsystemReset => execNvmSubsystemReset_changes s
  | .linkUp p rate width => execLinkUp_changes p rate width s
  | .linkDown p => execLinkDown_changes p s
  | .l0pNarrow p => execL0pNarrow_changes p s
  | .l0pWiden p => execL0pWiden_changes p s
  | .l1IdleExpire p => execL1IdleExpire_changes p s
  | .l1Exit p => execL1Exit_changes p s
  | .ideIntegrityFailure p => execIdeIntegrityFailure_changes p s
  | .configRequest p offset wr => execConfigRequest_changes p offset wr s
  | .atomicRequest p => execAtomicRequest_changes p s
  | .pmrWrite p offset bytes => execPmrWrite_changes p offset bytes s
  | .pmrRead p offset len => execPmrRead_changes p offset len s
  | .cmbSlotWrite p slot sec data => execCmbSlotWrite_changes p slot sec data s
  | .barUnmappedAccess p bar offset isWrite => execBarUnmappedAccess_changes p bar offset isWrite s
  | .tlpWindowCross p bar offset len isWrite => execTlpWindowCross_changes p bar offset len isWrite s
  | .xlatCommit p => execXlatCommit_changes p s
  | .contain p => execContain_changes p s
  | .containBmc p => execContainBmc_changes p s
  | .poisonedCompletion p fseq => execPoisonedCompletion_changes p fseq s
  | .completionTimeout p fseq => execCompletionTimeout_changes p fseq s
  | .fateTableComplete p => execFateTableComplete_changes p s
  | .resume p => execResume_changes p s
  | .arbRound c raised pause corrected => execArbRound_changes c raised pause corrected s
  | .refreshDue c bank => execRefreshDue_changes c bank s
  | .debugRequest c txn => execDebugRequest_changes c txn s
  | .grantCutOff c => execGrantCutOff_changes c s
  | .retrainCycleDue c => execRetrainCycleDue_changes c s
  | .scrubDue c corrected => execScrubDue_changes c corrected s
  | .dramTrainingDone c res => execDramTrainingDone_changes c res s
  | .dramUe c k w addr => execDramUe_changes c k w addr s
  | .retrainCycle mask => execRetrainCycle_changes mask s
  | .retrainFull mask => execRetrainFull_changes mask s
  | .sdmaDoorbell ch d => execSdmaDoorbell_changes ch d s
  | .sdmaRun ch d => execSdmaRun_changes ch d s
  | .sdmaStop ch => execSdmaStop_changes ch s
  | .sdmaDisable ch => execSdmaDisable_changes ch s
  | .sdmaCopy ch src => execSdmaCopy_changes ch src s
  | .sdmaFill ch => execSdmaFill_changes ch s
  | .sdmaCompare ch a b next => execSdmaCompare_changes ch a b next s
  | .sdmaLastBeatAck ch => execSdmaLastBeatAck_changes ch s
  | .sdmaReadbackReturn ch ok next => execSdmaReadbackReturn_changes ch ok next s
  | .sdmaBeatError ch isWrite notIssued => execSdmaBeatError_changes ch isWrite notIssued s
  | .vaultEncrypt pg ini slot => execVaultEncrypt_changes pg ini slot s
  | .vaultDecrypt pg ini slot => execVaultDecrypt_changes pg ini slot s
  | .vaultKeystream pg ini slot => execVaultKeystream_changes pg ini slot s
  | .vaultBlockDone pg => execVaultBlockDone_changes pg s
  | .nonceNext pg ini => execNonceNext_changes pg ini s
  | .keyWordWrite pg ini slot word value => execKeyWordWrite_changes pg ini slot word value s
  | .keyExpanded pg slot => execKeyExpanded_changes pg slot s
  | .keySlotClear pg ini slot => execKeySlotClear_changes pg ini slot s
  | .pageClaim p => execPageClaim_changes p s
  | .pageRelease p => execPageRelease_changes p s
  | .vaultAccessRefused pg ini => execVaultAccessRefused_changes pg ini s
  | .tamperAlarm alarm value => execTamperAlarm_changes alarm value s
  | .debugUnlockWrite credentialOk => execDebugUnlockWrite_changes credentialOk s
  | .entropyHealthFail => execEntropyHealthFail_changes s
  | .entropyRetry healthy => execEntropyRetry_changes healthy s
  | .cipherLaneKat failed => execCipherLaneKat_changes failed s
  | .spdmGetVersion v => execSpdmGetVersion_changes v s
  | .spdmGetCapabilities v => execSpdmGetCapabilities_changes v s
  | .spdmNegotiateAlgorithms v => execSpdmNegotiateAlgorithms_changes v s
  | .spdmGetDigests v => execSpdmGetDigests_changes v s
  | .spdmGetCertificate v slot => execSpdmGetCertificate_changes v slot s
  | .spdmChallenge v slot nonce => execSpdmChallenge_changes v slot nonce s
  | .spdmGetMeasurements v index signed nonce => execSpdmGetMeasurements_changes v index signed nonce s
  | .spdmKeyExchange v slot => execSpdmKeyExchange_changes v slot s
  | .spdmFinish v session => execSpdmFinish_changes v session s
  | .spdmHeartbeat v session => execSpdmHeartbeat_changes v session s
  | .spdmKeyUpdate v session => execSpdmKeyUpdate_changes v session s
  | .spdmEndSession v session => execSpdmEndSession_changes v session s
  | .spdmGetCsr v => execSpdmGetCsr_changes v s
  | .spdmSetCertificate v slot chain => execSpdmSetCertificate_changes v slot chain s
  | .ideKmKeyProg p session keySet key => execIdeKmKeyProg_changes p session keySet key s
  | .opalMethod fseq m => execOpalMethod_changes fseq m s
  | .opalReceive fseq protocol => execOpalReceive_changes fseq protocol s
  | .opalGenkey fseq range => execOpalGenkey_changes fseq range s
  | .psidRevert fseq psidOk => execPsidRevert_changes fseq psidOk s
  | .kpioKeyInject fseq nsid tag key authentic => execKpioKeyInject_changes fseq nsid tag key authentic s
  | .kpioClearKey fseq nsid tag => execKpioClearKey_changes fseq nsid tag s
  | .ownerNonce v => execOwnerNonce_changes v s
  | .ownerResult v => execOwnerResult_changes v s
  | .ownerTakeOwnership v c => execOwnerTakeOwnership_changes v c s
  | .ownerSetLock v c => execOwnerSetLock_changes v c s
  | .ownerClearLock v c => execOwnerClearLock_changes v c s
  | .ownerReplaceKey v c => execOwnerReplaceKey_changes v c s
  | .ownerWriteEntry v c => execOwnerWriteEntry_changes v c s
  | .ownerProvisionSlot2 v c => execOwnerProvisionSlot2_changes v c s
  | .ownerRelease v c => execOwnerRelease_changes v c s
  | .ownerAuthoriseDebug v c => execOwnerAuthoriseDebug_changes v c s
  | .presenceHold beganInWindow => execPresenceHold_changes beganInWindow s
  | .presenceWindowExpire => execPresenceWindowExpire_changes s
  | .bstProgramPage ini offset data => execBstProgramPage_changes ini offset data s
  | .bstSectorErase ini offset => execBstSectorErase_changes ini offset s
  | .bstSuspend ini => execBstSuspend_changes ini s
  | .bstResume ini => execBstResume_changes ini s
  | .bstReadStatus ini => execBstReadStatus_changes ini s
  | .bstReturnToRead ini => execBstReturnToRead_changes ini s
  | .bstSequenceBroken ini => execBstSequenceBroken_changes ini s
  | .bstOpComplete ok => execBstOpComplete_changes ok s
  | .bstSuspendDue => execBstSuspendDue_changes s
  | .bstSuspended => execBstSuspended_changes s
  | .bstRead ini offset => execBstRead_changes ini offset s
  | .bstAbort => execBstAbort_changes s
  | .coldStart calibOk loaderOk pfailLow => execColdStart_changes calibOk loaderOk pfailLow s
  | .slipwayStart recoveryOk => execSlipwayStart_changes recoveryOk s
  | .firmwareStart => execFirmwareStart_changes s
  | .deepRestWake => execDeepRestWake_changes s
  | .eventTokenRefill code => execEventTokenRefill_changes code s
  | .eventRepeatPersist => execEventRepeatPersist_changes s
  | .opsecTick => execOpsecTick_changes s
  | .opsecPersist => execOpsecPersist_changes s
  | .evrSeqLoRead ini => execEvrSeqLoRead_changes ini s
  | .imageAreaWritten digestOk => execImageAreaWritten_changes digestOk s
  | .ferryPauseBegin => execFerryPauseBegin_changes s
  | .ferryDrained => execFerryDrained_changes s
  | .ferryLanding pauseUs => execFerryLanding_changes pauseUs s
  | .ferryDeadline => execFerryDeadline_changes s
  | .trialArm => execTrialArm_changes s
  | .trialToken value => execTrialToken_changes value s
  | .healthToken ini value => execHealthToken_changes ini value s
  | .rollbackCopyComplete => execRollbackCopyComplete_changes s
  | .trialTimerExpire => execTrialTimerExpire_changes s
  | .stagingDiscard v => execStagingDiscard_changes v s
  | .apstIdleExpire p => execApstIdleExpire_changes p s
  | .psPreparationDone systemFail => execPsPreparationDone_changes systemFail s
  | .domainAnswer d a => execDomainAnswer_changes d a s
  | .domainDelayExpire d => execDomainDelayExpire_changes d s
  | .supplyPowerGood sup => execSupplyPowerGood_changes sup s
  | .supplyPgTimeout sup => execSupplyPgTimeout_changes sup s
  | .xoReadyTimeout => execXoReadyTimeout_changes s
  | .thermalSensorRead temps => execThermalSensorRead_changes temps s
  | .thermalShutdown => execThermalShutdown_changes s
  | .thermalRestart => execThermalRestart_changes s
  | .dictRead p r => execDictRead_changes p r s
  | .dictWrite p r => execDictWrite_changes p r s
  | .dictDescribe p r => execDictDescribe_changes p r s
  | .dictRequestInvalid p op tag => execDictRequestInvalid_changes p op tag s
  | .miDictRead r => execMiDictRead_changes r s
  | .miDictWrite r => execMiDictWrite_changes r s
  | .miDictDescribe r => execMiDictDescribe_changes r s
  | .commitWindowClose index sub => execCommitWindowClose_changes index sub s
  | .defaults v => execDefaults_changes v s
  | .testNow v => execTestNow_changes v s
  | .cInitReset v => execCInitReset_changes v s
  | .fullWindow v ms => execFullWindow_changes v ms s
  | .fullTarget v stripe => execFullTarget_changes v stripe s
  | .pounceRun v => execPounceRun_changes v s
  | .bmcNtfRead n => execBmcNtfRead_changes n s
  | .registerWrite ini r value => execRegisterWrite_changes ini r value s
  | .auxPowerOn => execAuxPowerOn_changes s
  | .auxRelease peDual mbSel testScan => execAuxRelease_changes peDual mbSel testScan s
  | .ledCheck led highWhileSinking lowWhileReleased lowCurrent => execLedCheck_changes led highWhileSinking lowWhileReleased lowCurrent s
  | .fpBtnPress ms => execFpBtnPress_changes ms s
  | .buttonStuck => execButtonStuck_changes s
  | .mbLineHeldLow sda => execMbLineHeldLow_changes sda s
  | .mbLineReleased sda => execMbLineReleased_changes sda s
  | .i3cHotJoin => execI3cHotJoin_changes s
  | .debugProbeAttach => execDebugProbeAttach_changes s
  | .debugProbeRemove => execDebugProbeRemove_changes s
  | .zoneOpen fseq => execZoneOpen_changes fseq s
  | .zoneClose fseq => execZoneClose_changes fseq s
  | .unitPowerGate sl unit => execUnitPowerGate_changes sl unit s
  | .crystalReady => execCrystalReady_changes s
  | .huIsoClose => execHuIsoClose_changes s
  | .prechargeEnd => execPrechargeEnd_changes s
  | .trialFlushDeadline => execTrialFlushDeadline_changes s

/-- Settles O57, by the frame lemma of each command. -/
theorem everyCommandChangesOnly : Obligations.EveryCommandChangesOnly :=
  exec_changes_touches

/-- Settles O56: a queue that is not empty has its front command executed. -/
theorem stepRunsFront : Obligations.StepRunsFront :=
  fun _ _ _ => rfl

end Sys2Proof.Machine
end

section
/-! The statement of the register tables' reset values. -/

namespace Sys2Proof.Machine

open Sys2Proof

/-- Settles O60: each table of registers is at reset a copy of one register's reset values, which are read off the fields' defaults. -/
theorem resetValues : Obligations.ResetValues := by
  unfold Obligations.ResetValues
  simp only [State.reset, Fin.getElem_fin, Vector.getElem_replicate]
  simp

end Sys2Proof.Machine
end

section
/-! What a containment leaves in its own port and in the other one (R300 to R302), and what fatal status leaves in the controllers (R52).
Chapters 01, 07, 08, 11 and 12 use these rules. -/

namespace Sys2Proof.Machine

open Sys2Proof

theorem Changes.trans {ps : List Part} {s t u : State} (h : Changes ps s t) (k : Changes ps t u) : Changes ps s u :=
  ⟨fun p hp => agrees_trans (h.rest p hp) (k.rest p hp)⟩

/-- Fewer parts are listed than may be. -/
theorem Changes.mono {a b : List Part} {s t : State} (h : Changes a s t) (c : covers a b = true) : Changes b s t :=
  h.step c (Changes.refl b s)

/-- Whatever a named command answers, its frame holds of the answer. -/
theorem changes_touches_of_exec {i : Instr} {s t : State} (h : exec i s = .next t) : Changes (touches i) s t := by
  obtain ⟨u, hu, hc⟩ := exec_changes_touches i s
  cases hu.symm.trans h
  exact hc

/-! ### One containment -/

theorem State.containSays_ports (s : State) (p : Fin 2) (trig : Fin 8) :
    (s.containSays p trig).ports = if trig = 0 ∨ trig = 1 then s.ports else s.ports.upd p PcPort.aerLog := by
  simp only [State.containSays]
  by_cases h0 : trig = 0
  · simp [h0]
  · by_cases h1 : trig = 1
    · simp [h1]
    · simp only [h0, h1, if_false, or_self]
      split <;> rfl

theorem State.containSays_ports_ne {p q : Fin 2} (h : q ≠ p) (s : State) (trig : Fin 8) :
    (s.containSays p trig).ports[q] = s.ports[q] := by
  rw [State.containSays_ports]
  split
  · rfl
  · exact Tbl.upd_get_ne _ _ _ _ h

theorem State.containSays_cnt (s : State) (p : Fin 2) (trig : Fin 8) :
    (s.containSays p trig).ports[p].cnt = s.ports[p].cnt := by
  rw [State.containSays_ports]
  split
  · rfl
  · rw [Tbl.upd_get]
    rfl

/-- The commands that are ended at the containment point concern no port register. -/
theorem State.endFated_changes (l : List (Nat × Cmd)) (s : State) : Changes [.cmq, .land, .media] s
    (l.foldl (fun s e => if e.2.fate = 5 ∨ e.2.fate = 6 then s else s.endCmd e.1) s) := by
  refine Changes.foldl _ _ _ _ (fun t e h => ?_) (Changes.refl _ s)
  split
  · exact h
  · exact (State.endCmd_changes t e.1).step rfl h

/-- The status of a port's containment right after a trigger that contains it. -/
def State.contained (s : State) (p : Fin 2) (trig : Fin 8) : Contain :=
  let s := (s.ferryMeets p).haltLent p
  let mine := s.cmq.cmds.filter (fun e => e.2.port = p)
  let high := mine.foldl (fun m e => max m e.1) 0
  { s.ports[p].cnt with
    active := true, fatesValid := false, causes := 1 <<< trig.val, first := BitVec.ofNat 3 trig.val,
    tb := s.tb.count, fseq := BitVec.ofNat 64 high, fates := mine.map (fun e => Cmd.record e.1 e.2), dbLatched := 0,
    total := satInc s.ports[p].cnt.total }

/-- The triggers that no enable bit masks, and those that are enabled (R301). -/
def State.trigGoes (s : State) (p : Fin 2) (trig : Fin 8) : Bool :=
  s.ports[p].cnt.trigEn.getLsbD trig.val || trig.val = 0 || trig.val = 6 || trig.val = 7

theorem State.contain_ports_ne {p q : Fin 2} (h : q ≠ p) (s : State) (trig : Fin 8) :
    (s.contain p trig).ports[q] = s.ports[q] := by
  have hpre : ((s.ferryMeets p).haltLent p).ports = s.ports :=
    ((State.haltLent_changes (s.ferryMeets p) p).rest .ports (by decide)).trans
      ((State.ferryMeets_changes s p).rest .ports (by decide))
  simp only [State.contain]
  split
  · exact Tbl.upd_get_ne _ _ _ _ h
  · split
    · rfl
    · rw [State.containSays_ports_ne h, State.log_ports]
      rw [show (State.ports (List.foldl _ _ _)) = _ from (State.endFated_changes _ _).rest .ports (by decide)]
      rw [State.setPort_ports, Tbl.upd_get_ne _ _ _ _ h, hpre]

theorem State.contain_cnt {s : State} {p : Fin 2} {trig : Fin 8} (hfree : s.ports[p].cnt.active = false)
    (hgoes : s.trigGoes p trig = true) : (s.contain p trig).ports[p].cnt = s.contained p trig := by
  simp only [State.trigGoes] at hgoes
  simp only [State.contain, hfree, hgoes, Bool.not_true, Bool.false_eq_true, if_false]
  rw [State.containSays_cnt, State.log_ports]
  rw [show (State.ports (List.foldl _ _ _)) = _ from (State.endFated_changes _ _).rest .ports (by decide)]
  rw [State.setPort_ports, Tbl.upd_get]
  rfl

theorem State.contain_active_of_goes {s : State} {p : Fin 2} {trig : Fin 8} (hgoes : s.trigGoes p trig = true) :
    (s.contain p trig).ports[p].cnt.active = true := by
  cases hfree : s.ports[p].cnt.active with
  | false => rw [State.contain_cnt hfree hgoes]; rfl
  | true => simp only [State.contain, hfree, if_true, State.setPort_ports, Tbl.upd_get]

/-- No trigger releases a port. -/
theorem State.contain_active_of_active {s : State} {q : Fin 2} (h : s.ports[q].cnt.active = true) (p : Fin 2) (trig : Fin 8) :
    (s.contain p trig).ports[q].cnt.active = true := by
  by_cases hq : q = p
  · subst hq
    simp only [State.contain, h, if_true, State.setPort_ports, Tbl.upd_get]
  · rw [State.contain_ports_ne hq, h]

/-! ### Containment of several ports -/

theorem State.foldl_contain_active_of_active {q : Fin 2} (ps : List (Fin 2)) (trig : Fin 8) (s : State)
    (h : s.ports[q].cnt.active = true) : (ps.foldl (fun s p => s.contain p trig) s).ports[q].cnt.active = true := by
  induction ps generalizing s with
  | nil => exact h
  | cons p ps ih => exact ih _ (State.contain_active_of_active h p trig)

/-- Triggers 0, 6 and 7 contain every port that they are given for (R301). -/
theorem State.foldl_contain_active {q : Fin 2} {trig : Fin 8} (ht : trig = 0 ∨ trig = 6 ∨ trig = 7) (ps : List (Fin 2)) (s : State)
    (hq : q ∈ ps) : (ps.foldl (fun s p => s.contain p trig) s).ports[q].cnt.active = true := by
  induction ps generalizing s with
  | nil => cases hq
  | cons p ps ih =>
    rcases List.mem_cons.mp hq with rfl | hmem
    · refine State.foldl_contain_active_of_active ps trig _ (State.contain_active_of_goes ?_)
      rcases ht with rfl | rfl | rfl <;> simp [State.trigGoes]
    · exact ih _ hmem

theorem State.foldl_contain_changes (ps : List (Fin 2)) (trig : Fin 8) (s : State) :
    Changes [.evr, .cmq, .land, .media, .ports, .sdm, .bst, .boot, .out] s (ps.foldl (fun s p => s.contain p trig) s) :=
  Changes.foldl _ _ _ _ (fun _ _ h => (State.contain_changes ..).step rfl h) (Changes.refl _ s)

end Sys2Proof.Machine
end

section
/-! The statements of chapter 01 about the sources of the timebase (R39 to R41, R49), the cores (R27, R50) and the units of a slice
(R52). -/

namespace Sys2Proof.Machine

open Sys2Proof

/-! ### A source stops or is selected (R40, R41) -/

section
variable {s : State}

theorem exec_tbSourceStop (h : s.powered = true) (src : TbSource) :
    exec (.tbSourceStop src) s = .next (s.tbSourceStop src) := by
  change execTbSourceStop src s = _
  rw [execTbSourceStop, State.whenPowered_powered h]

theorem exec_tbSourceSelect (h : s.powered = true) (sel : BitVec 2) :
    exec (.tbSourceSelect sel) s = .next (s.tbSelect sel) := by
  change execTbSourceSelect sel s = _
  rw [execTbSourceSelect, State.whenPowered_powered h]

/-- What the timebase falls back on when the crystal has stopped. -/
theorem Timebase.settleOn_without_crystal (t : Timebase) (want : TbSource) (hw : want ≠ .ring) (h : t.crystalUp = false) :
    t.settleOn want = if t.refclkUp then .refclk else .ring := by
  cases want with
  | crystal => simp [Timebase.settleOn, Timebase.up, h]
  | refclk => cases hr : t.refclkUp <;> simp [Timebase.settleOn, Timebase.up, h, hr]
  | ring => exact absurd rfl hw

theorem Timebase.settleOn_without_refclk (t : Timebase) (want : TbSource) (hw : want ≠ .ring) (h : t.refclkUp = false) :
    t.settleOn want = if t.crystalUp then .crystal else .ring := by
  cases want with
  | crystal => cases hr : t.crystalUp <;> simp [Timebase.settleOn, Timebase.up, h, hr]
  | refclk => simp [Timebase.settleOn, Timebase.up, h]
  | ring => exact absurd rfl hw

theorem selSource_ne_ring (sel : BitVec 2) : selSource sel ≠ .ring := by
  simp only [selSource]
  split <;> decide

/-- A source has stopped, and the timebase has not fallen back yet. -/
def State.sourceDown (s : State) (src : TbSource) : State := { s with tb := s.tb.stop src }

/-- A source other than the one in use stops, and the timebase goes on with the one in use. -/
theorem State.tbSourceStop_other {src : TbSource} (h : src ≠ s.tb.srcAct) :
    s.tbSourceStop src = s.sourceDown src := by
  simp only [State.tbSourceStop, h, if_false, State.sourceDown]

theorem State.tbSourceStop_crystal (h : s.tb.srcAct = .crystal) :
    s.tbSourceStop .crystal = (s.sourceDown .crystal).tbFallback (if s.tb.refclkUp then .refclk else .ring) := by
  rw [State.tbSourceStop, if_pos h.symm, Timebase.settleOn_without_crystal _ _ (selSource_ne_ring _) rfl]
  rfl

theorem State.tbSourceStop_refclk (h : s.tb.srcAct = .refclk) :
    s.tbSourceStop .refclk = (s.sourceDown .refclk).tbFallback (if s.tb.crystalUp then .crystal else .ring) := by
  rw [State.tbSourceStop, if_pos h.symm, Timebase.settleOn_without_refclk _ _ (selSource_ne_ring _) rfl]
  rfl

theorem State.tbFallback_tb {b : TbSource} (h : b ≠ s.tb.srcAct) :
    (s.tbFallback b).tb = { s.tb with srcAct := b, srcFail := true } := by
  simp only [State.tbFallback, h, if_false]
  rfl

theorem State.tbFallback_evr {b : TbSource} (h : b ≠ s.tb.srcAct) :
    (s.tbFallback b).evr =
      (s.log 0x7020 0xFF [BitVec.ofNat 8 (TbSource.code s.tb.srcAct), BitVec.ofNat 8 (TbSource.code b)]).evr := by
  simp only [State.tbFallback, h, if_false]
  rfl

theorem State.tbSelect_up {sel : BitVec 2} {src : TbSource} (hsel : selSource sel = src) (hup : s.tb.up src = true) :
    s.tbSelect sel = { s with tb := { s.tb with srcSel := sel, srcAct := src } } := by
  have hsettle : ({ s.tb with srcSel := sel } : Timebase).settleOn src = src := by
    have hup' : ({ s.tb with srcSel := sel } : Timebase).up src = true := by cases src <;> exact hup
    rw [Timebase.settleOn, hup', if_pos rfl]
  simp only [State.tbSelect, hsel, hsettle, if_true]

/-! ### The low half is read (R49) -/

theorem mem_latchPut_self (l : List (Initiator × BitVec 32)) (i : Initiator) (v : BitVec 32) : (i, v) ∈ latchPut l i v :=
  List.mem_cons_self

theorem mem_latchPut_ne {i j : Initiator} (h : j ≠ i) (l : List (Initiator × BitVec 32)) (v w : BitVec 32) :
    (j, w) ∈ latchPut l i v ↔ (j, w) ∈ l := by
  simp [latchPut, h]

theorem extractLsb'_low_half (x : BitVec 64) : (x.extractLsb' 0 32).toNat = x.toNat % 2 ^ 32 := by
  simp [BitVec.extractLsb'_toNat]

theorem State.tbLoRead_out (s : State) (i : Initiator) :
    (s.tbLoRead i).out = s.out ++ [Output.readVal i (s.tb.count.toNat % 2 ^ 32)] := by
  rw [State.tbLoRead, extractLsb'_low_half]
  rfl

/-- A request to BAR4/5 that reaches the blocks of its window is served there (R290, R291). -/
theorem State.hostBar4_shown {p : Fin 2} {content : Nat} (hlink : s.linkUp p = true) (hgoes : s.barRefusal p 4 = none)
    (hshown : s.ports[p].shows content = true) (isWrite : Bool) (f : State → State) :
    s.hostBar4 p content isWrite f = f s := by
  simp only [State.hostBar4, hlink, hgoes, hshown, Bool.not_true, Bool.false_eq_true, if_false, if_true]

theorem exec_tbLoRead_core (h : s.powered = true) (c : Fin 32) : exec (.tbLoRead (.core c)) s = .next (s.tbLoRead (.core c)) := by
  change execTbLoRead (.core c) s = _
  rw [execTbLoRead, State.whenPowered_powered h]
  rfl

theorem exec_tbLoRead_debug (h : s.powered = true) : exec (.tbLoRead .debug) s =
    .next (if s.sec.debugUnlocked then s.tbLoRead .debug else s.emit (.accessError .debug)) := by
  change execTbLoRead .debug s = _
  rw [execTbLoRead, State.whenPowered_powered h]
  rfl

theorem exec_tbLoRead_host {p : Fin 2} (h : s.powered = true) (hlink : s.linkUp p = true) (hgoes : s.barRefusal p 4 = none)
    (hshown : s.ports[p].shows 6 = true) : exec (.tbLoRead (.host p)) s = .next (s.tbLoRead (.host p)) := by
  change execTbLoRead (.host p) s = _
  rw [execTbLoRead, State.whenPowered_powered h, State.readBy, State.hostBar4_shown hlink hgoes hshown, State.readAdmits]
  rfl

theorem exec_tbLoRead_refused {i : Initiator} (h : s.powered = true)
    (hi : i = .bmc ∨ (∃ ch, i = .sdma ch) ∨ i = .debug ∧ s.sec.debugUnlocked = false) :
    exec (.tbLoRead i) s = .next (s.emit (.accessError i)) := by
  rcases hi with rfl | ⟨ch, rfl⟩ | ⟨rfl, hlocked⟩
  · change execTbLoRead .bmc s = _
    rw [execTbLoRead, State.whenPowered_powered h]
    rfl
  · change execTbLoRead (.sdma ch) s = _
    rw [execTbLoRead, State.whenPowered_powered h]
    rfl
  · rw [exec_tbLoRead_debug h, hlocked]
    rfl

end

/-! ### A step on an empty queue -/

theorem TbSource.ticks_eq (src : TbSource) : TbSource.ticks src = if src = .refclk then 1 else 4 := by
  cases src <;> rfl

theorem step_nil {s : State} (h : s.pending = []) : step s = .next s.tick := by
  rw [step, h]

/-- The timebase counts the ticks of its source; while the firmware runs the channels go on, which do not touch it. -/
theorem State.tick_counts {s : State} (h : s.phase.counts = true) :
    s.tick.tb = { s.tb with count := s.tb.count + BitVec.ofNat 64 (if s.tb.srcAct = .refclk then 1 else 4) } := by
  simp only [State.tick, h, if_true, ← TbSource.ticks_eq]
  split
  · exact (State.channelTicks_changes _ _).rest .tb (by decide)
  · rfl

theorem State.tick_asleep {s : State} (h : s.phase.counts = false) : s.tick = s := by
  simp only [State.tick, h, Bool.false_eq_true, if_false]

theorem State.tick_changes_not_live {s : State} (h : s.live = false) : Changes [.tb] s s.tick := by
  simp only [State.tick]
  split
  · split
    · rename_i hlive
      exact absurd (h.symm.trans hlive) (by decide)
    · exact Changes.tb_with _ rfl (Changes.refl _ s)
  · exact Changes.refl _ s

/-- Settles O2: which source follows the one that stopped is `Timebase.settleOn_without_crystal` and its twin; a read latches for its
reader alone (`latchPut`); an empty queue is `State.tick`. -/
theorem timebaseSources : Obligations.TimebaseSources := by
  refine ⟨?crystal, ?refclk, ?other, ?selectCrystal, ?selectRefclk, ?read, ?hostRead, ?refused, ?empty, rfl, rfl, rfl, rfl⟩
  case crystal =>
    intro s hpow hact
    have hne : (if s.tb.refclkUp then TbSource.refclk else .ring) ≠ (s.sourceDown .crystal).tb.srcAct := by
      change _ ≠ s.tb.srcAct
      rw [hact]
      split <;> decide
    refine ⟨_, exec_tbSourceStop hpow .crystal, ?_, ?_, State.tbSourceStop_changes s .crystal⟩
    · rw [State.tbSourceStop_crystal hact, State.tbFallback_tb hne]
      rfl
    · rw [State.tbSourceStop_crystal hact, State.tbFallback_evr hne, show (s.sourceDown .crystal).tb.srcAct = s.tb.srcAct from rfl, hact]
      cases s.tb.refclkUp <;> rfl
  case refclk =>
    intro s hpow hact
    have hne : (if s.tb.crystalUp then TbSource.crystal else .ring) ≠ (s.sourceDown .refclk).tb.srcAct := by
      change _ ≠ s.tb.srcAct
      rw [hact]
      split <;> decide
    refine ⟨_, exec_tbSourceStop hpow .refclk, ?_, ?_, State.tbSourceStop_changes s .refclk⟩
    · rw [State.tbSourceStop_refclk hact, State.tbFallback_tb hne]
      rfl
    · rw [State.tbSourceStop_refclk hact, State.tbFallback_evr hne, show (s.sourceDown .refclk).tb.srcAct = s.tb.srcAct from rfl, hact]
      cases s.tb.crystalUp <;> rfl
  case other =>
    intro src s hpow hne
    refine ⟨_, (exec_tbSourceStop hpow src).trans (congrArg _ (State.tbSourceStop_other hne)), ?_⟩
    have hframe := Changes.tb_with (s.tb.stop src) rfl (Changes.refl [.tb] s)
    cases src with
    | crystal => exact ⟨rfl, rfl, rfl, fun _ => rfl, fun h => absurd h (by decide), hframe⟩
    | refclk => exact ⟨rfl, rfl, rfl, fun h => absurd h (by decide), fun _ => rfl, hframe⟩
    | ring => exact ⟨rfl, rfl, rfl, fun h => absurd h (by decide), fun h => absurd h (by decide), hframe⟩
  case selectCrystal =>
    intro s hpow hup sel hsel
    rw [exec_tbSourceSelect hpow, State.tbSelect_up (src := .crystal) (if_neg hsel) hup]
  case selectRefclk =>
    intro s hpow hup
    rw [exec_tbSourceSelect hpow, State.tbSelect_up (src := .refclk) rfl hup]
  case read =>
    intro i s hpow hi
    have hexec : exec (.tbLoRead i) s = .next (s.tbLoRead i) := by
      rcases hi with ⟨c, rfl⟩ | ⟨rfl, hopen⟩
      · exact exec_tbLoRead_core hpow c
      · rw [exec_tbLoRead_debug hpow, hopen]
        rfl
    exact ⟨_, hexec, State.tbLoRead_out s i, mem_latchPut_self .., fun j v hj => mem_latchPut_ne hj .., rfl, rfl,
      State.tbLoRead_changes s i⟩
  case hostRead =>
    intro p s hpow hlink hgoes hshown
    exact ⟨_, exec_tbLoRead_host hpow hlink hgoes hshown, State.tbLoRead_out s _, mem_latchPut_self .., rfl,
      State.tbLoRead_changes s _⟩
  case refused => exact fun i s hpow hi => exec_tbLoRead_refused hpow hi
  case empty =>
    intro s hq
    rw [step_nil hq]
    refine ⟨fun hc => ⟨_, rfl, State.tick_counts hc, State.tick_changes s, State.tick_changes_not_live⟩, fun hc => ?_⟩
    rw [State.tick_asleep hc]

/-! ### Cores (R50, R52) -/

section
variable {s : State} {c : Fin 32}

theorem exec_coreHeartbeat (h : s.live = true) (c : Fin 32) : exec (.coreHeartbeat c) s = .next (s.heartbeat c) := by
  change execCoreHeartbeat c s = _
  rw [execCoreHeartbeat, State.whenLive_live h]

theorem exec_heartbeatMissed (h : s.live = true) (c : Fin 32) : exec (.heartbeatMissed c) s = .next (s.declareCore c) := by
  change execHeartbeatMissed c s = _
  rw [execHeartbeatMissed, State.whenLive_live h]

theorem Tbl.upd_congr {n : Nat} {α : Type} (v : Tbl n α) (i : Fin n) {f g : α → α} (h : f v[i] = g v[i]) : v.upd i f = v.upd i g := by
  rw [Tbl.upd, Tbl.upd, h]

theorem State.heartbeat_eq (hok : s.units.cores[c].failed = false) (htry : s.units.cores[c].trying = none) :
    s.heartbeat c = { s with units := { s.units with cores := s.units.cores.upd c (fun k =>
      { k with alive := true, restart := if k.restart = .restarting then .restartedAt s.tb.count.toNat else k.restart }) } } := by
  simp only [State.heartbeat, hok, htry, Bool.false_eq_true, if_false]
  congr 2
  apply Tbl.upd_congr
  cases h : s.units.cores[c].restart <;> simp

theorem State.declareCore_first (hc : c.val < 30) (hok : s.units.cores[c].failed = false)
    (htry : s.units.cores[c].trying = none) (hres : s.units.cores[c].restart = .none) :
    s.declareCore c = { s with units := { s.units with cores := s.units.cores.upd c (fun k =>
      { k with alive := false, restart := .restarting }) } } := by
  simp only [State.declareCore, Nat.not_le.mpr hc, hok, htry, hres, Option.isSome_none, Bool.false_eq_true, if_false]

/-- Declared again within 10 s of its first heartbeat, a core fails for good (R50). -/
theorem State.declareCore_again {t0 : Nat} (hc : c.val < 30) (hok : s.units.cores[c].failed = false)
    (htry : s.units.cores[c].trying = none) (hres : s.units.cores[c].restart = .restartedAt t0)
    (hsoon : s.tb.count.toNat ≤ t0 + 1000000000) : s.declareCore c = s.coreFails c := by
  simp only [State.declareCore, Nat.not_le.mpr hc, hok, htry, hres, hsoon, Option.isSome_none, Bool.false_eq_true, if_false, if_true]

/-- The core of a role is another one than that of its partner slice. -/
theorem roleCore_partner_ne : ∀ c : Fin 32, c.val < 24 → roleCore (partner (Fin.ofNat 8 (c.val / 3))) (c.val % 3) ≠ c := by
  decide

/-- The slice core that fails, while its partner's core serves: it alone is out, and the takeover's event says which core serves. -/
theorem State.coreFails_taken_over (hc : c.val < 24)
    (hmate : s.units.cores[roleCore (partner (Fin.ofNat 8 (c.val / 3))) (c.val % 3)].failed = false) :
    s.coreFails c = ({ s with units := { s.units with
      outages := s.units.outages.filter (fun o => !coreOutage c.val o)
      cores := s.units.cores.upd c (fun k => { k with alive := false, failed := true, restart := .none, trying := none }) } }).outage
        0x3410 c.val (Fin.ofNat 8 (c.val / 3)).val (leBytes 1 c.val ++ leBytes 1 (c.val % 3) ++
          leBytes 1 (roleCore (partner (Fin.ofNat 8 (c.val / 3))) (c.val % 3)).val) := by
  simp only [State.coreFails, hc, if_true, Tbl.upd_get_ne _ _ _ _ (roleCore_partner_ne c hc), hmate, Bool.false_eq_true, if_false]

end

/-! ### The security pair (R27, R52) -/

/-- The keys of every unit are gone (R366). -/
theorem State.eraseKeys_vault_pages (s : State) (pg : Fin 16) :
    s.eraseKeys.vault.pages[pg].slots = Vector.replicate 4 {} ∧ s.eraseKeys.vault.pages[pg].busy = false := by
  rw [State.eraseKeys, (State.dropLines_changes ..).rest .vault (by decide), Tbl.all_get]
  dsimp only
  split
  · exact ⟨rfl, rfl⟩
  · rename_i hidle
    exact ⟨rfl, by simpa using hidle⟩

/-- The pair is out of service; its keys are not erased yet. -/
def State.pairDown (s : State) : State :=
  let out (k : CoreSt) : CoreSt := { k with alive := false, failed := true, restart := .none, trying := none }
  { s with
    units := { s.units with pair := true, cores := (s.units.cores.upd 30 out).upd 31 out }
    sec := { s.sec with pairFail := true } }

/-- The state in which the pair's failure contains the ports. -/
def State.pairOut (s : State) : State := s.pairDown.eraseKeys.outage 0x5410 30 0x30 []

theorem State.pairFails_eq {s : State} (h : s.units.pair = false) :
    s.pairFails = s.pairOut.portList.foldl (fun s p => s.contain p 7) s.pairOut := by
  simp only [State.pairFails, h, Bool.false_eq_true, if_false]
  rfl

theorem State.pairOut_sec (s : State) :
    s.pairOut.sec = { s.sec with pairFail := true, keysHeld := false, kpio := [], sessions := [] } :=
  State.eraseKeys_sec s.pairDown

theorem State.pairOut_units_pair (s : State) : s.pairOut.units.pair = true :=
  congrArg Units.pair ((State.eraseKeys_changes s.pairDown).rest .units (by decide))

theorem State.pairOut_board (s : State) : s.pairOut.board = s.board :=
  (State.eraseKeys_changes s.pairDown).rest .board (by decide)

theorem exec_lockstepMismatch {s : State} (h : s.live = true) : exec .lockstepMismatch s = .next s.pairFails := by
  change execLockstepMismatch s = _
  rw [execLockstepMismatch, State.whenLive_live h]

theorem State.portList_congr {s t : State} (h : t.board = s.board) : t.portList = s.portList := by
  rw [State.portList, State.dual, h]
  rfl

/-- Settles O3: each declaration is one branch of `State.declareCore`; the failure of the pair erases the keys and then contains each
port in use (`State.pairFails_eq`). -/
theorem coresDeclared : Obligations.CoresDeclared := by
  refine ⟨⟨?alive, ?first, fun _ _ => rfl, ?again⟩, ?pair⟩
  case alive =>
    intro c s hlive hok htry
    rw [exec_coreHeartbeat hlive, State.heartbeat_eq hok htry]
  case first =>
    intro c s hlive hc hok htry hres
    rw [exec_heartbeatMissed hlive, State.declareCore_first hc hok htry hres]
  case again =>
    intro c t0 s hlive hc hok htry hres hsoon hmate
    have hsl : (Fin.ofNat 8 (c.val / 3)).val = c.val / 3 := Nat.mod_eq_of_lt (by omega)
    have hfails := State.declareCore_again (by omega) hok htry hres hsoon
    rw [State.coreFails_taken_over hc hmate, hsl] at hfails
    refine ⟨_, (exec_heartbeatMissed hlive c).trans (congrArg _ hfails), ?_, ?_, ?_, rfl,
      (State.outage_changes ..).step rfl (Changes.units_with _ rfl (Changes.refl _ s))⟩
    · exact congrArg CoreSt.failed (Tbl.upd_get ..)
    · exact congrArg CoreSt.alive (Tbl.upd_get ..)
    · exact fun d hd => Tbl.upd_get_ne _ _ _ _ hd
  case pair =>
    intro s hlive hpair
    have hexec := exec_lockstepMismatch hlive
    have hchanges := changes_touches_of_exec hexec
    rw [State.pairFails_eq hpair] at hexec hchanges
    have hkept := State.foldl_contain_changes s.pairOut.portList 7 s.pairOut
    have hsec := (hkept.rest .sec (by decide)).trans (State.pairOut_sec s)
    refine ⟨_, hexec, ?_, ?_, ?_, ?_, ?_, fun pg => ?_, fun p hp => ?_, hchanges⟩
    · rw [hkept.rest .units (by decide), State.pairOut_units_pair]
    · rw [hsec]
    · rw [hsec]
    · rw [hsec]
    · rw [hsec]
    · rw [hkept.rest .vault (by decide)]
      exact State.eraseKeys_vault_pages s.pairDown pg
    · exact State.foldl_contain_active (.inr (.inr rfl)) _ _ (State.portList_congr s.pairOut_board ▸ hp)

end Sys2Proof.Machine
end

section
/-! What completing a command leaves (R60, R269): everything of the controllers but the completion queue and the error log, and, for a
command that owns no landing line, the flash as it was. -/

namespace Sys2Proof.Machine

open Sys2Proof

/-! ### The command table and the lock table leave the controllers -/

@[simp] theorem Cmq.stall_ctrls (q : Cmq) : q.stall.ctrls = q.ctrls := by
  unfold Cmq.stall
  repeat' split
  all_goals rfl

@[simp] theorem Cmq.stall_fseq (q : Cmq) : q.stall.fseq = q.fseq := by
  unfold Cmq.stall
  repeat' split
  all_goals rfl

@[simp] theorem Cmq.stall_sanitizeLast (q : Cmq) : q.stall.sanitizeLast = q.sanitizeLast := by
  unfold Cmq.stall
  repeat' split
  all_goals rfl

@[simp] theorem Cmq.settle_ctrls (q : Cmq) : q.settle.ctrls = q.ctrls := by
  simp only [Cmq.settle, Cmq.stall_ctrls]

@[simp] theorem Cmq.release_ctrls (q : Cmq) (f : Nat) : (q.release f).ctrls = q.ctrls := by
  simp only [Cmq.release, Cmq.settle_ctrls]

theorem Cmq.release_sanitizeLast (q : Cmq) (f : Nat) : (q.release f).sanitizeLast = q.sanitizeLast := by
  simp only [Cmq.release, Cmq.settle, Cmq.stall_sanitizeLast]

@[simp] theorem State.setCtrl_ctrl (s : State) (p : Fin 2) (f : Ctrl → Ctrl) : (s.setCtrl p f).ctrl p = f (s.ctrl p) := by
  simp only [State.setCtrl, State.ctrl, Tbl.upd_get]

theorem State.setCtrl_ctrl_ne (s : State) {p q : Fin 2} (h : q ≠ p) (f : Ctrl → Ctrl) : (s.setCtrl p f).ctrl q = s.ctrl q := by
  simp only [State.setCtrl, State.ctrl, Tbl.upd_get_ne _ _ _ _ h]

@[simp] theorem State.endCmd_ctrl (s : State) (fseq : Nat) (q : Fin 2) : (s.endCmd fseq).ctrl q = s.ctrl q := by
  unfold State.endCmd
  split
  · rfl
  · simp only [State.ctrl, Cmq.release_ctrls]
    rfl

theorem State.endCmd_sanitizeLast (s : State) (fseq : Nat) : (s.endCmd fseq).cmq.sanitizeLast = s.cmq.sanitizeLast := by
  unfold State.endCmd
  split
  · rfl
  · simp only [Cmq.release_sanitizeLast]
    rfl

/-! ### What a completion leaves of a controller -/

/-- A controller but for its completion queues, its error log and CSTS.RDY. -/
def Ctrl.settings (k : Ctrl) : Ctrl := { k with cqs := [], errors := [], rdy := false }

/-- What an update of one controller keeps, it keeps of both. -/
theorem State.setCtrl_keeps {α : Type} (π : Ctrl → α) (s : State) (p q : Fin 2) (f : Ctrl → Ctrl) (hf : ∀ k, π (f k) = π k) :
    π ((s.setCtrl p f).ctrl q) = π (s.ctrl q) := by
  by_cases h : q = p
  · rw [h, State.setCtrl_ctrl, hf]
  · rw [State.setCtrl_ctrl_ne s h]

theorem State.setCtrl_settings (s : State) (p q : Fin 2) (f : Ctrl → Ctrl) (hf : ∀ k, (f k).settings = k.settings) :
    ((s.setCtrl p f).ctrl q).settings = (s.ctrl q).settings :=
  State.setCtrl_keeps Ctrl.settings s p q f hf

theorem State.post_settings (s : State) (p q : Fin 2) (fseq sqid cid : Nat) (st : Status) (dw0 : Nat) :
    ((s.post p fseq sqid cid st dw0).ctrl q).settings = (s.ctrl q).settings := by
  simp only [State.post]
  split
  · rfl
  split
  · rfl
  split
  · rfl
  split
  · exact State.setCtrl_settings _ _ _ _ (fun _ => rfl)
  · exact State.setCtrl_settings _ _ _ _ (fun _ => rfl)

theorem State.tryReady_settings (s : State) (p q : Fin 2) : ((s.tryReady p).ctrl q).settings = (s.ctrl q).settings := by
  simp only [State.tryReady]
  split
  · exact State.setCtrl_settings _ _ _ _ (fun _ => rfl)
  · rfl

/-- A completion changes nothing of a controller but its completion queue and its error log (a silent one makes RDY come up). -/
theorem State.complete_settings (s : State) (q : Fin 2) (fseq : Nat) (st : Status) (dw0 lba : Nat) :
    ((s.complete fseq st dw0 lba).ctrl q).settings = (s.ctrl q).settings := by
  simp only [State.complete]
  split
  · rfl
  next c _ =>
    have noted : ∀ u : State, (u.ctrl q).settings = (s.ctrl q).settings →
        ((if c.silent then (u.endCmd fseq).tryReady c.port else (u.post c.port fseq c.sqid c.cid st dw0).endCmd fseq).ctrl q).settings =
          (s.ctrl q).settings := by
      intro u hu
      split
      · rw [State.tryReady_settings, State.endCmd_ctrl, hu]
      · rw [State.endCmd_ctrl, State.post_settings, hu]
    refine noted _ ?_
    split
    · exact State.setCtrl_settings _ _ _ _ (fun _ => rfl)
    · rfl

theorem State.complete_feat (s : State) (q : Fin 2) (fseq : Nat) (st : Status) (dw0 lba : Nat) :
    ((s.complete fseq st dw0 lba).ctrl q).feat = (s.ctrl q).feat :=
  (congrArg Ctrl.feat (State.complete_settings s q fseq st dw0 lba) :)

theorem State.complete_featSaved (s : State) (q : Fin 2) (fseq : Nat) (st : Status) (dw0 lba : Nat) :
    ((s.complete fseq st dw0 lba).ctrl q).featSaved = (s.ctrl q).featSaved :=
  (congrArg Ctrl.featSaved (State.complete_settings s q fseq st dw0 lba) :)

theorem State.complete_sqs (s : State) (q : Fin 2) (fseq : Nat) (st : Status) (dw0 lba : Nat) :
    ((s.complete fseq st dw0 lba).ctrl q).sqs = (s.ctrl q).sqs :=
  (congrArg Ctrl.sqs (State.complete_settings s q fseq st dw0 lba) :)

theorem State.post_ctrl_ne (s : State) {p q : Fin 2} (h : q ≠ p) (fseq sqid cid : Nat) (st : Status) (dw0 : Nat) :
    (s.post p fseq sqid cid st dw0).ctrl q = s.ctrl q := by
  simp only [State.post]
  split
  · rfl
  split
  · rfl
  split
  · rfl
  split
  · exact State.setCtrl_ctrl_ne s h _
  · exact State.setCtrl_ctrl_ne s h _

/-- The controllers of the other ports are as they were. -/
theorem State.complete_ctrl_ne {s : State} {fseq : Nat} {c : Cmd} (hg : s.cmq.cmds.get? fseq = some c) {q : Fin 2} (h : q ≠ c.port)
    (st : Status) (dw0 lba : Nat) : (s.complete fseq st dw0 lba).ctrl q = s.ctrl q := by
  simp only [State.complete, hg]
  have noted : ∀ u : State, u.ctrl q = s.ctrl q →
      (if c.silent then (u.endCmd fseq).tryReady c.port else (u.post c.port fseq c.sqid c.cid st dw0).endCmd fseq).ctrl q = s.ctrl q := by
    intro u hu
    split
    · simp only [State.tryReady]
      split
      · rw [State.setCtrl_ctrl_ne _ h, State.endCmd_ctrl, hu]
      · rw [State.endCmd_ctrl, hu]
    · rw [State.endCmd_ctrl, State.post_ctrl_ne _ h, hu]
  refine noted _ ?_
  split
  · exact State.setCtrl_ctrl_ne s h _
  · rfl

theorem State.post_sanitizeLast (s : State) (p : Fin 2) (fseq sqid cid : Nat) (st : Status) (dw0 : Nat) :
    (s.post p fseq sqid cid st dw0).cmq.sanitizeLast = s.cmq.sanitizeLast := by
  simp only [State.post]
  repeat' split
  all_goals rfl

/-! ### A command that leaves the table -/

/-- A command that is not in the table is not brought back by a completion. -/
theorem State.complete_left (s : State) (fseq : Nat) (st : Status) (dw0 lba : Nat) :
    (s.complete fseq st dw0 lba).cmq.cmds.get? fseq = none := by
  simp only [State.complete]
  split
  case _ h => exact h
  case _ c h =>
    have noted : ∀ u : State, u.cmq.cmds = s.cmq.cmds →
        (if c.silent then (u.endCmd fseq).tryReady c.port else (u.post c.port fseq c.sqid c.cid st dw0).endCmd fseq).cmq.cmds.get? fseq =
          none := by
      intro u hu
      split
      · simp only [State.tryReady]
        split
        · exact (State.endCmd_left u fseq c (hu ▸ h)).1
        · exact (State.endCmd_left u fseq c (hu ▸ h)).1
      · refine (State.endCmd_left _ fseq c ?_).1
        have : (u.post c.port fseq c.sqid c.cid st dw0).cmq.cmds = u.cmq.cmds := by
          simp only [State.post]
          repeat' split
          all_goals rfl
        rw [this, hu, h]
    refine noted _ ?_
    split
    · rfl
    · rfl

/-! ### A completion after the command has had its effect -/

theorem State.Completed.of_cqOf {before : List Output} {s u t : State} {fseq : Nat} {c : Cmd} {st : Status} {dw0 : Nat}
    (h : State.Completed before u t fseq c st dw0) (e : u.cqOf c = s.cqOf c) : State.Completed before s t fseq c st dw0 :=
  ⟨e ▸ h.posted, h.left, h.unlocked⟩

/-- A command in flight completes from every later state that still holds it and can post for it. -/
theorem State.Flying.completes {s u : State} {fseq : Nat} {c : Cmd} {ph : CmdPhase} (h : s.Flying fseq c ph)
    (hg : u.cmq.cmds.get? fseq = some c) (hp : u.CanPost c) (hq : u.cqOf c = s.cqOf c) (st : Status) (dw0 lba : Nat) :
    State.Completed u.out s (u.complete fseq st dw0 lba) fseq c st dw0 :=
  (State.complete_completed u fseq c st dw0 lba hg h.loud hp).of_cqOf hq

theorem State.Flying.completes_now {s : State} {fseq : Nat} {c : Cmd} {ph : CmdPhase} (h : s.Flying fseq c ph) (st : Status)
    (dw0 lba : Nat) : State.Completed s.out s (s.complete fseq st dw0 lba) fseq c st dw0 :=
  h.completes h.get h.post rfl st dw0 lba

/-- What decides on a completion is the same in both states: the controllers, the ports, the dictionary and the command itself. -/
structure State.SamePost (s u : State) (fseq : Nat) : Prop where
  get : u.cmq.cmds.get? fseq = s.cmq.cmds.get? fseq
  ctrls : ∀ q, u.ctrl q = s.ctrl q
  ports : u.ports = s.ports
  dict : u.dict = s.dict

theorem State.SamePost.cqOf {s u : State} {fseq : Nat} (e : State.SamePost s u fseq) (c : Cmd) : u.cqOf c = s.cqOf c := by
  simp only [State.cqOf, e.ctrls]

theorem State.SamePost.canPost {s u : State} {fseq : Nat} (e : State.SamePost s u fseq) {c : Cmd} (h : s.CanPost c) : u.CanPost c := by
  obtain ⟨hfree, hen, hroom, hide⟩ := h
  refine ⟨by rw [e.ports]; exact hfree, by rw [e.ctrls]; exact hen, ?_, ?_⟩
  · rw [e.ctrls, e.cqOf]
    exact hroom
  · simp only [State.mayWrite, State.param, e.ports, e.dict] at hide ⊢
    exact hide

theorem State.Flying.completes_same {s u : State} {fseq : Nat} {c : Cmd} {ph : CmdPhase} (h : s.Flying fseq c ph)
    (e : State.SamePost s u fseq) (st : Status) (dw0 lba : Nat) :
    State.Completed u.out s (u.complete fseq st dw0 lba) fseq c st dw0 :=
  h.completes (e.get.trans h.get) (e.canPost h.post) (e.cqOf c) st dw0 lba

/-- A controller's settings are stored before its command completes: its queues stay. -/
theorem State.Flying.completes_setCtrl {s : State} {fseq : Nat} {c : Cmd} {ph : CmdPhase} (h : s.Flying fseq c ph) (f : Ctrl → Ctrl)
    (hen : ∀ k, (f k).en = k.en) (hcqs : ∀ k, (f k).cqs = k.cqs) (hsqs : ∀ k, (f k).sqs = k.sqs) (st : Status) (dw0 lba : Nat) :
    State.Completed s.out s ((s.setCtrl c.port f).complete fseq st dw0 lba) fseq c st dw0 := by
  obtain ⟨hp, hq⟩ := State.noteError_canPost s c h.post f hen hcqs hsqs
  exact h.completes (u := s.setCtrl c.port f) h.get hp hq st dw0 lba

/-! ### A command that owns no landing line -/

theorem State.dropLines_nil_media (s : State) : (s.dropLines []).media = s.media := rfl

theorem State.post_cmds (s : State) (p : Fin 2) (fseq sqid cid : Nat) (st : Status) (dw0 : Nat) :
    (s.post p fseq sqid cid st dw0).cmq.cmds = s.cmq.cmds := by
  simp only [State.post]
  repeat' split
  all_goals rfl

theorem State.endCmd_media {s : State} {fseq : Nat} {c : Cmd} (hg : s.cmq.cmds.get? fseq = some c) (hl : c.lines = []) :
    (s.endCmd fseq).media = s.media := by
  simp only [State.endCmd, hg, hl, List.filter_nil]
  rfl

theorem State.post_media (s : State) (p : Fin 2) (fseq sqid cid : Nat) (st : Status) (dw0 : Nat) :
    (s.post p fseq sqid cid st dw0).media = s.media :=
  (State.post_changes s p fseq sqid cid st dw0).rest .media (by decide)

theorem State.tryReady_media (s : State) (p : Fin 2) : (s.tryReady p).media = s.media :=
  (State.tryReady_changes s p).rest .media (by decide)

/-- Such a command completes without a change to the flash or what is reserved on it. -/
theorem State.complete_media {s : State} {fseq : Nat} {c : Cmd} (hg : s.cmq.cmds.get? fseq = some c) (hl : c.lines = [])
    (st : Status) (dw0 lba : Nat) : (s.complete fseq st dw0 lba).media = s.media := by
  simp only [State.complete, hg]
  have noted : ∀ u : State, u.cmq.cmds = s.cmq.cmds → u.media = s.media →
      (if c.silent then (u.endCmd fseq).tryReady c.port else (u.post c.port fseq c.sqid c.cid st dw0).endCmd fseq).media = s.media := by
    intro u hu hm
    split
    · rw [State.tryReady_media, State.endCmd_media (hu ▸ hg) hl, hm]
    · rw [State.endCmd_media (c := c) (by rw [State.post_cmds, hu, hg]) hl, State.post_media, hm]
  refine noted _ ?_ ?_
  · split
    · rfl
    · rfl
  · split
    · rfl
    · rfl

end Sys2Proof.Machine
end

section
/-! The statements of chapter 07 about doorbells (R259, R302), fetching (R258 to R270) and the creation of queues (R257). -/

namespace Sys2Proof.Machine

open Sys2Proof

/-! ### Doorbells -/

section
variable {s : State} {p : Fin 2}

theorem exec_sqDoorbell_latched (hlive : s.live = true) (hwake : s.asleep = false) (hen : (s.ctrl p).en = true)
    (hcnt : s.ports[p].cnt.active = true) (qid tail : Nat) :
    exec (.sqDoorbell p qid tail) s = .next (s.latched p (2 * qid) tail) := by
  change execSqDoorbell p qid tail s = _
  simp only [execSqDoorbell, State.sqDoorbell, hlive, hwake, hen, hcnt, Bool.false_eq_true, Bool.not_true, if_false, if_true, or_self]

theorem exec_cqHeadDoorbell_free (hlive : s.live = true) (hwake : s.asleep = false) (hen : (s.ctrl p).en = true)
    (hcnt : s.ports[p].cnt.active = false) (qid head : Nat) :
    exec (.cqHeadDoorbell p qid head) s = .next (s.headTo p qid head) := by
  change execCqHeadDoorbell p qid head s = _
  simp only [execCqHeadDoorbell, State.cqDoorbell, hlive, hwake, hen, hcnt, Bool.false_eq_true, Bool.not_true, if_false, or_self]

/-- No entry is under way and the device is not in PS3: a command's arrival changes nothing (R279). -/
theorem State.arrive_idle (he : s.pws.entry = none) (hp : s.pws.ps ≠ 3) : s.arrive = s := by
  simp only [State.arrive, State.abandonEntry, he, State.leavePs3, hp, ne_eq, not_false_eq_true, if_true]

theorem exec_sqDoorbell_free (hlive : s.live = true) (hwake : s.asleep = false) (hen : (s.ctrl p).en = true)
    (hcnt : s.ports[p].cnt.active = false) (he : s.pws.entry = none) (hp : s.pws.ps ≠ 3) (qid tail : Nat) :
    exec (.sqDoorbell p qid tail) s = .next (s.tailTo p qid tail) := by
  change execSqDoorbell p qid tail s = _
  simp only [execSqDoorbell, State.sqDoorbell, hlive, hwake, hen, hcnt, Bool.false_eq_true, Bool.not_true, if_false, or_self,
    State.arrive_idle he hp]

theorem State.latched_ctrl (hcnt : s.ports[p].cnt.active = true) (k v : Nat) : (s.latched p k v).ctrl p = latchDb (s.ctrl p) k v := by
  have e : (s.setCtrl p (fun c => latchDb c k v)).ports[p].cnt.active = true := hcnt
  simp only [State.latched, e, if_true]
  exact State.setCtrl_ctrl s p _

theorem State.latched_cnt (hcnt : s.ports[p].cnt.active = true) (k v : Nat) :
    (s.latched p k v).ports[p].cnt.dbLatched = satInc s.ports[p].cnt.dbLatched := by
  have e : (s.setCtrl p (fun c => latchDb c k v)).ports[p].cnt.active = true := hcnt
  simp only [State.latched, e, if_true, State.setPort, Tbl.upd_get]
  rfl

theorem State.latched_fseq (k v : Nat) : (s.latched p k v).cmq.fseq = s.cmq.fseq := by
  simp only [State.latched]
  split <;> rfl

/-- The entries from the old head up to the new one. -/
theorem headDistance {size head old d : Nat} (hold : old < size) (hd : d < size) (h : (old + d) % size = head) :
    (head + size - old) % size = d := by
  subst h
  by_cases hw : old + d < size
  · rw [Nat.mod_eq_of_lt hw, show old + d + size - old = d + size by omega, Nat.add_mod_right, Nat.mod_eq_of_lt hd]
  · have e : (old + d) % size = old + d - size := by
      rw [Nat.mod_eq_sub_mod (by omega), Nat.mod_eq_of_lt (by omega)]
    rw [e, show old + d - size + size - old = d by omega, Nat.mod_eq_of_lt hd]

/-- A head doorbell of a queue on which no completion waits frees the entries up to it. -/
theorem State.headTo_free {qid head d : Nat} {q : Cq} (hq : (s.ctrl p).cqs.get? qid = some q) (hheld : q.held = []) (hd : d ≤ q.used)
    (hhead : head < q.size) (hold : q.head < q.size) (hused : q.used < q.size) (h : (q.head + d) % q.size = head) :
    s.headTo p qid head = s.setCtrl p (fun k => { k with cqs := k.cqs.put qid { q with head := head, used := q.used - d } }) := by
  have hdist := headDistance hold (by omega) h
  have hno : ¬(q.size ≤ head ∨ q.used < d) := by omega
  simp only [State.headTo, hq, hdist, hno, if_false, hheld, List.foldl_nil]

end

/-- Settles O5: a doorbell is latched, or moves one end of its queue. -/
theorem doorbells : Obligations.Doorbells := by
  unfold Obligations.Doorbells
  refine ⟨?_, ?_, ?_⟩
  · intro p qid tail q s hlive hwake hen hcnt he hp hq
    rw [exec_sqDoorbell_free hlive hwake hen hcnt he hp, State.tailTo, hq]
  · intro p qid tail s hlive hwake hen hcnt
    refine ⟨_, exec_sqDoorbell_latched hlive hwake hen hcnt qid tail, ?_, ?_, State.latched_cnt hcnt _ _, State.latched_fseq _ _,
      State.latched_changes s p (2 * qid) tail⟩
    · rw [State.latched_ctrl hcnt]
      exact AMap.get?_put _ _ _
    · rw [State.latched_ctrl hcnt]
      rfl
  · intro p qid head d q s hlive hwake hen hcnt hq hheld hd hhead hold hused h
    rw [exec_cqHeadDoorbell_free hlive hwake hen hcnt, State.headTo_free hq hheld hd hhead hold hused h]

/-! ### Range locks -/

theorem Lock.conflicts_granted (b l : Lock) (x y : Bool) :
    Lock.conflicts { b with granted := x } { l with granted := y } = b.conflicts l := rfl

/-- Whether an entry is granted does not rest on what the entries before it were granted. -/
theorem any_conflicts_regrantFrom (pre ls : List Lock) (l : Lock) :
    (regrantFrom pre ls).any (fun b => b.conflicts l) = ls.any (fun b => b.conflicts l) := by
  induction ls generalizing pre with
  | nil => rfl
  | cons a as ih =>
    simp only [regrantFrom, List.any_cons, ih]
    rfl

theorem regrantFrom_congr (b₁ b₂ ls : List Lock) (h : ∀ l, b₁.any (fun b => b.conflicts l) = b₂.any (fun b => b.conflicts l)) :
    regrantFrom b₁ ls = regrantFrom b₂ ls := by
  induction ls generalizing b₁ b₂ with
  | nil => rfl
  | cons a as ih =>
    simp only [regrantFrom, h a, List.cons.injEq, true_and]
    refine ih _ _ (fun l => ?_)
    simp only [List.any_append, h l]

/-- Regranting a settled table changes nothing (R268). -/
theorem regrantFrom_idem (pre ls : List Lock) : regrantFrom pre (regrantFrom pre ls) = regrantFrom pre ls := by
  induction ls generalizing pre with
  | nil => rfl
  | cons a as ih =>
    have inner : regrantFrom (pre ++ [{ a with granted := !pre.any (fun b => b.conflicts a) }]) (regrantFrom (pre ++ [a]) as) =
        regrantFrom (pre ++ [a]) as := by
      calc _ = regrantFrom (pre ++ [a]) (regrantFrom (pre ++ [a]) as) := by
            refine regrantFrom_congr _ _ _ (fun l => ?_)
            simp only [List.any_append, List.any_cons, List.any_nil, Bool.or_false]
            rfl
        _ = regrantFrom (pre ++ [a]) as := ih _
    simp only [regrantFrom, List.cons.injEq]
    exact ⟨rfl, inner⟩

theorem regrant_idem (ls : List Lock) : regrant (regrant ls) = regrant ls := regrantFrom_idem [] ls

theorem regrantFrom_length (pre ls : List Lock) : (regrantFrom pre ls).length = ls.length := by
  induction ls generalizing pre with
  | nil => rfl
  | cons a as ih => simp only [regrantFrom, List.length_cons, ih]

theorem Cmq.settle_locks (q : Cmq) : q.settle.locks = regrant q.locks := by
  simp only [Cmq.settle, Cmq.stall_locks]

theorem Cmq.settle_regranted (q : Cmq) : regrant q.settle.locks = q.settle.locks := by
  rw [Cmq.settle_locks, regrant_idem]

theorem Cmq.stall_stalled (q : Cmq) : q.stall.stalled = true ↔ 8192 - q.locks.length < 256 := by
  unfold Cmq.stall
  cases h : q.short with
  | false => simpa [Cmq.short] using h
  | true =>
    have hs : 8192 - q.locks.length < 256 := by simpa [Cmq.short] using h
    simp only [Bool.not_true, Bool.false_eq_true, if_false, hs, iff_true]
    split
    · assumption
    · rfl

theorem Cmq.stall_stallTotal (q : Cmq) (h : q.stalled = false) :
    q.stall.stallTotal = if q.stall.stalled then q.stallTotal + 1 else q.stallTotal := by
  unfold Cmq.stall
  cases q.short <;> simp [h]

/-! ### A command is fetched -/

/-- A command that waits for its locks is ready once all of them are granted. -/
def Cmq.awaken (q : Cmq) (fseq : Nat) (c : Cmd) : Cmd :=
  if c.phase = .waitLocks && q.allGranted fseq then { c with phase := .ready } else c

theorem Cmq.settle_get_awaken (q : Cmq) (k : Nat) :
    q.settle.cmds.get? k = (q.cmds.get? k).map (Cmq.awaken { q with locks := regrant q.locks } k) := by
  simp only [Cmq.settle, Cmq.stall_cmds]
  rw [← AMap.get?_map q.cmds (fun e => Cmq.awaken { q with locks := regrant q.locks } e.1 e.2) k]
  congr 1
  refine List.map_congr_left (fun e _ => ?_)
  simp only [Cmq.awaken]
  split <;> rfl

section
variable {s : State} {p : Fin 2} {cmd : HostCmd}

/-- The table entry of a command that is fetched. -/
def State.fetched (s : State) (p : Fin 2) (qid cid : Nat) (cmd : HostCmd) : Cmd :=
  { port := p, sqid := qid, cid := cid, cmd := cmd, cap := s.stepCap p, fua := s.fuaOf p cmd }

/-- The command table with a fetched command under the next FSEQ. -/
def State.cmqTaking (s : State) (p : Fin 2) (qid cid : Nat) (cmd : HostCmd) : Cmq :=
  { s.cmq with fseq := s.cmq.fseq + 1, cmds := s.cmq.cmds.put (s.cmq.fseq + 1) (s.fetched p qid cid cmd) }

theorem State.takeIn_free (h : s.resvConflict p cmd = false) (qid cid : Nat) :
    s.takeIn p qid cid cmd = { s with cmq := (s.cmqTaking p qid cid cmd).take (s.locksOf p (s.cmq.fseq + 1) cmd) } := by
  simp only [State.takeIn, h, Bool.false_eq_true, if_false]
  rfl

@[simp] theorem Cmq.settle_fseq (q : Cmq) : q.settle.fseq = q.fseq := by
  simp only [Cmq.settle, Cmq.stall_fseq]

@[simp] theorem Cmq.take_fseq (q : Cmq) (ls : List Lock) : (q.take ls).fseq = q.fseq := by
  simp only [Cmq.take, Cmq.settle_fseq]

@[simp] theorem Cmq.take_ctrls (q : Cmq) (ls : List Lock) : (q.take ls).ctrls = q.ctrls := by
  simp only [Cmq.take, Cmq.settle_ctrls]

theorem Cmq.take_locks (q : Cmq) (ls : List Lock) : (q.take ls).locks = regrant (q.locks ++ ls) := by
  simp only [Cmq.take, Cmq.settle_locks]

theorem Cmq.take_locks_length (q : Cmq) (ls : List Lock) : (q.take ls).locks.length = q.locks.length + ls.length := by
  rw [Cmq.take_locks, regrant, regrantFrom_length, List.length_append]

theorem Cmq.take_stalled (q : Cmq) (ls : List Lock) : (q.take ls).stalled = true ↔ 8192 - (q.take ls).locks.length < 256 := by
  simp only [Cmq.take, Cmq.settle, Cmq.stall_locks, Cmq.stall_stalled]

theorem Cmq.take_stallTotal (q : Cmq) (ls : List Lock) (h : q.stalled = false) :
    (q.take ls).stallTotal = if (q.take ls).stalled then q.stallTotal + 1 else q.stallTotal := by
  simp only [Cmq.take, Cmq.settle]
  exact Cmq.stall_stallTotal _ h

/-- A command that waits for locks is ready exactly when every lock of it is granted. -/
theorem Cmq.take_get (q : Cmq) (ls : List Lock) (k : Nat) (c : Cmd) (hg : q.cmds.get? k = some c) (hw : c.phase = .waitLocks) :
    ∃ d, (q.take ls).cmds.get? k = some d ∧ d.port = c.port ∧ d.sqid = c.sqid ∧ d.cid = c.cid ∧ d.cmd = c.cmd ∧
      (d.phase = .ready ↔ ∀ l ∈ (q.take ls).locks, l.fseq = k → l.granted = true) := by
  have hall : ∀ r : Cmq, r.allGranted k = true ↔ ∀ l ∈ r.locks, l.fseq = k → l.granted = true := by
    intro r
    simp only [Cmq.allGranted, List.all_eq_true, Bool.or_eq_true, decide_eq_true_eq]
    exact forall₂_congr (fun l _ => ⟨fun h e => h.resolve_left (fun n => n e), fun h => (em (l.fseq = k)).elim (fun e => .inr (h e)) .inl⟩)
  have hget : (q.take ls).cmds.get? k = some (Cmq.awaken { q with locks := regrant (q.locks ++ ls) } k c) := by
    simp only [Cmq.take, Cmq.settle_get_awaken, hg, Option.map_some]
    rfl
  refine ⟨_, hget, ?_⟩
  rw [Cmq.take_locks, ← hall { q with locks := regrant (q.locks ++ ls) }]
  cases h : Cmq.allGranted { q with locks := regrant (q.locks ++ ls) } k with
  | true => simp [Cmq.awaken, hw, h]
  | false => simp [Cmq.awaken, hw, h]

/-- The machine as a command of queue `qid` is taken from it. -/
def State.taking (s : State) (p : Fin 2) (qid : Nat) (cr : Nat × Nat × Nat) : State :=
  (s.ungate 8 7).setCtrl p (fun c => c.taken qid cr)

theorem exec_commandFetch_io {cid qid : Nat} {cr : Nat × Nat × Nat} (hlive : s.live = true) (hf : s.fetches p = true)
    (hstall : s.cmq.stalled = false) (hpause : s.cmq.paused = false) (hio : isAdminCmd cmd = false)
    (hroom : (s.cmq.cmds.filter (fun e => e.2.port = p)).length < 16384) (hadm : (s.ctrl p).ready.contains 0 = false)
    (hpick : (s.ctrl p).pickIo = some (qid, cr)) :
    exec (.commandFetch p cid cmd) s = .next ((s.taking p qid cr).takeIn p qid cid cmd) := by
  change execCommandFetch p cid cmd s = _
  have hgo : ¬((!(s.ungate 8 7).fetches p) = true ∨ 16384 ≤ ((s.ungate 8 7).cmq.cmds.filter (fun e => e.2.port = p)).length ∨
      (s.ungate 8 7).cmq.stalled = true) := by
    rintro (h | h | h)
    · have e : (s.ungate 8 7).fetches p = s.fetches p := rfl
      simp [e, hf] at h
    · exact absurd hroom (Nat.not_lt.mpr h)
    · exact absurd (hstall.symm.trans h) (by decide)
  have hadm' : ((s.ungate 8 7).ctrl p).ready.contains 0 = false := hadm
  have hpause' : (s.ungate 8 7).cmq.paused = false := hpause
  have hpick' : ((s.ungate 8 7).ctrl p).pickIo = some (qid, cr) := hpick
  simp only [execCommandFetch, State.whenLive_live hlive, State.fetch, if_neg hgo, hadm', hpause', hio, hpick', Bool.false_eq_true,
    if_false, or_self]
  rfl

theorem exec_commandFetch_stalled {cid : Nat} (hlive : s.live = true) (hstall : s.cmq.stalled = true) :
    exec (.commandFetch p cid cmd) s = .next (s.ungate 8 7) := by
  change execCommandFetch p cid cmd s = _
  have hstall' : (s.ungate 8 7).cmq.stalled = true := hstall
  simp only [execCommandFetch, State.whenLive_live hlive, State.fetch, hstall', or_true, if_true]

theorem Ctrl.taken_head {k : Ctrl} {qid : Nat} {sq : Sq} (h : k.sqs.get? qid = some sq) (cr : Nat × Nat × Nat) :
    (k.taken qid cr).sqs.get? qid = some { sq with head := (sq.head + 1) % sq.size } := by
  simp only [Ctrl.taken, h]
  split
  · exact AMap.get?_put _ _ _
  · exact AMap.get?_put _ _ _

end

/-- Settles O6: the command is put under the next FSEQ and its locks are appended to the table, which is then settled. -/
theorem commandFetched : Obligations.CommandFetched := by
  unfold Obligations.CommandFetched
  refine ⟨?_, ?_, fun q => ⟨Cmq.stall_locks q, Cmq.stall_stalled q⟩⟩
  · intro p cid cmd q sq cr s hlive hf hstall hpause hio hroom hadm hpick hsq hres
    have hres' : (s.taking p q cr).resvConflict p cmd = false := hres
    have hput : ((s.taking p q cr).cmqTaking p q cid cmd).cmds.get? (s.cmq.fseq + 1) = some ((s.taking p q cr).fetched p q cid cmd) :=
      AMap.get?_put _ _ _
    obtain ⟨c, hc, hport, hsqid, hcid, hcmd, hready⟩ :=
      Cmq.take_get _ ((s.taking p q cr).locksOf p (s.cmq.fseq + 1) cmd) _ _ hput rfl
    refine ⟨_, c, (exec_commandFetch_io hlive hf hstall hpause hio hroom hadm hpick).trans
      (congrArg Host.Outcome.next (State.takeIn_free hres' q cid)), Cmq.take_fseq _ _, hc, hport, hsqid, hcid, hcmd, hready, ?_,
      Cmq.take_locks_length _ _, ?_, Cmq.take_stalled _ _, Cmq.take_stallTotal _ _ hstall, ?_⟩
    · have e : ((s.taking p q cr).ctrl p) = (s.ctrl p).taken q cr := State.setCtrl_ctrl (s.ungate 8 7) p _
      simp only [State.ctrl, Cmq.take_ctrls]
      rw [show ((s.taking p q cr).cmqTaking p q cid cmd).ctrls[p] = (s.taking p q cr).ctrl p from rfl, e, Ctrl.taken_head hsq]
      rfl
    · exact Cmq.settle_regranted _
    · exact Changes.cmq_with _ rfl ((State.setCtrl_changes _ p _).step rfl ((State.ungate_changes s 8 7).mono rfl))
  · intro p cid cmd s hlive hstall
    refine ⟨_, exec_commandFetch_stalled hlive hstall, rfl, State.ungate_changes s 8 7⟩

/-! ### Queues (R257) -/

/-- A Create I/O Submission Queue that was fetched from submission queue 2, which has been deleted since. -/
def orphanCreate : Cmd := { port := 0, sqid := 2, cid := 7, cmd := .admin 1 .none, phase := .ready }

/-- A running controller with its admin queues and completion queue 1, and that command in flight. -/
def orphanState : State :=
  { State.reset with
    phase := .running
    cmq := {
      ctrls := Vector.replicate 2 { en := true, rdy := true, sqs := [(0, { size := 16, cqid := 0 })]
                                    cqs := [(0, { size := 16 }), (1, { size := 16, vector := 1 })] }
      cmds := [(1, orphanCreate)], fseq := 1 } }

theorem orphanState_adminReady : orphanState.AdminReady 1 0x01 orphanCreate :=
  ⟨⟨rfl, rfl, rfl, rfl, ⟨rfl, rfl, ⟨{ size := 16 }, rfl, by decide⟩, rfl⟩, fun _ => rfl⟩, ⟨.none, rfl⟩⟩

/-- The created queue 2 is the command's own, so the entry goes to completion queue 1 and no longer to queue 0. -/
theorem orphanState_out : ∃ t, exec (.createIoSq 1 2 2 1 0 true false) orphanState = .next t ∧
    t.out = [.cqe 0 1 2 7 .success 0, .msix 0 1] := ⟨_, rfl, by decide⟩

/-- Refutes O7: a command whose submission queue is gone has completion queue 0; when it creates that submission queue anew, its
entry is posted to the new queue's completion queue. -/
theorem not_queuesCreatedAndDeleted : ¬ Obligations.QueuesCreatedAndDeleted := by
  unfold Obligations.QueuesCreatedAndDeleted
  rintro ⟨-, hcreate, -, -⟩
  obtain ⟨t, st, ht, hdone, -, -⟩ := hcreate 1 2 2 1 0 true false orphanCreate orphanState orphanState_adminReady
  obtain ⟨u, hu, hout⟩ := orphanState_out
  obtain ⟨vec, hposted⟩ := hdone.posted
  cases ht.symm.trans hu
  have hcq : orphanState.cqOf orphanCreate = 0 := by decide
  rw [hout, hcq] at hposted
  simp [orphanState, State.reset] at hposted

end Sys2Proof.Machine
end

section
/-! The statements of chapter 07 about the features of a controller (R253) and about what the informational commands return. -/

namespace Sys2Proof.Machine

open Sys2Proof

section
variable {s : State} {fseq : Nat} {c : Cmd}

/-- An admin command that holds its locks is carried out. -/
theorem exec_admin {opc : Nat} (h : s.AdminReady fseq opc c) (ho : opc < 256) {i : Instr} {f : Cmd → State → State}
    (e : exec i s = .next (s.onAdmin fseq opc f)) : exec i s = .next (f c s) :=
  e.trans (congrArg Host.Outcome.next (State.onAdmin_ready h ho f))

/-! ### Features of a controller -/

theorem State.setFeat_completed (h : s.Flying fseq c ph) (save : Bool) (f : Features → Features) (dw0 : Nat) :
    State.Completed s.out s (s.setFeat c fseq save f dw0) fseq c .success dw0 :=
  h.completes_setCtrl
    (fun k => { k with feat := f k.feat, featSaved := if save then f k.featSaved else k.featSaved }) (fun _ => rfl) (fun _ => rfl) (fun _ => rfl) .success dw0 0

theorem State.setFeat_feat (save : Bool) (f : Features → Features) (dw0 : Nat) :
    ((s.setFeat c fseq save f dw0).ctrl c.port).feat = f (s.ctrl c.port).feat := by
  rw [State.setFeat, State.complete_feat, State.setCtrl_ctrl]

theorem State.setFeat_featSaved (save : Bool) (f : Features → Features) (dw0 : Nat) :
    ((s.setFeat c fseq save f dw0).ctrl c.port).featSaved =
      if save then f (s.ctrl c.port).featSaved else (s.ctrl c.port).featSaved := by
  rw [State.setFeat, State.complete_featSaved, State.setCtrl_ctrl]

theorem State.setFeat_ctrl_ne (hg : s.cmq.cmds.get? fseq = some c) (save : Bool) (f : Features → Features) (dw0 : Nat) (q : Fin 2)
    (hq : q ≠ c.port) : (s.setFeat c fseq save f dw0).ctrl q = s.ctrl q :=
  (State.complete_ctrl_ne (s := s.setCtrl c.port _) hg hq .success dw0 0).trans (State.setCtrl_ctrl_ne s hq _)

/-- A feature value that the manual allows is stored, and the command completes with success. -/
theorem exec_setFeat (h : s.AdminReady fseq 0x09 c) {i : Instr} {save : Bool} {f : Features → Features} {dw0 : Nat}
    (e : exec i s = .next (s.setFeat c fseq save f dw0)) :
    ∃ t, exec i s = .next t ∧ State.Completed s.out s t fseq c .success dw0 ∧ (t.ctrl c.port).feat = f (s.ctrl c.port).feat ∧
      (t.ctrl c.port).featSaved = (if save then f (s.ctrl c.port).featSaved else (s.ctrl c.port).featSaved) ∧
      ∀ q, q ≠ c.port → t.ctrl q = s.ctrl q :=
  ⟨_, e, State.setFeat_completed h.flying save f dw0, State.setFeat_feat save f dw0, State.setFeat_featSaved save f dw0,
    State.setFeat_ctrl_ne h.flying.get save f dw0⟩

theorem exec_storeFeat (h : s.AdminReady fseq 0x09 c) (save : Bool) (f : Features → Features) {i : Instr}
    (e : exec i s = .next (s.onAdmin fseq 0x09 (fun c s => s.setFeat c fseq save f))) :
    ∃ t, exec i s = .next t ∧ State.Completed s.out s t fseq c .success 0 ∧ (t.ctrl c.port).feat = f (s.ctrl c.port).feat ∧
      (t.ctrl c.port).featSaved = (if save then f (s.ctrl c.port).featSaved else (s.ctrl c.port).featSaved) ∧
      ∀ q, q ≠ c.port → t.ctrl q = s.ctrl q :=
  exec_setFeat h (exec_admin h (by decide) e)

/-- A feature value that the manual does not allow fails the command. -/
theorem State.complete_refused (h : s.AdminReady fseq 0x09 c) (st : Status) :
    State.Completed s.out s (s.complete fseq st) fseq c st 0 ∧ ((s.complete fseq st).ctrl c.port).feat = (s.ctrl c.port).feat :=
  ⟨h.flying.completes_now st 0 0, State.complete_feat s _ fseq st 0 0⟩

/-- The threshold of a sensor and direction is replaced, and no other. -/
theorem mem_replaced_threshold (l : List (Nat × Bool × BitVec 16)) (n : Nat) (under : Bool) (k : BitVec 16) (x : Nat × Bool × BitVec 16)
    (hx : x.1 ≠ n ∨ x.2.1 ≠ under) :
    x ∈ (n, under, k) :: l.filter (fun e => !(decide (e.1 = n) && decide (e.2.1 = under))) ↔ x ∈ l := by
  have hne : x ≠ (n, under, k) := by
    rintro rfl
    simp at hx
  have hkeep : (!(decide (x.1 = n) && decide (x.2.1 = under))) = true := by
    rcases hx with h | h <;> simp [h]
  rw [List.mem_cons, List.mem_filter, or_iff_right hne, and_iff_left hkeep]

theorem exec_setTemperatureThreshold (h : s.AdminReady fseq 0x09 c) (sensor : Fin 16) (under : Bool) (kelvin : BitVec 16)
    (hs : sensor.val ≤ 12) : exec (.setTemperatureThreshold fseq sensor under kelvin) s = .next (s.setFeat c fseq false (fun f => { f with
      tempThr := (sensor.val, under, kelvin) :: f.tempThr.filter (fun e => !(decide (e.1 = sensor.val) && decide (e.2.1 = under))) })) := by
  rw [exec_admin h (by decide) (i := .setTemperatureThreshold fseq sensor under kelvin) rfl, if_neg (by omega)]

theorem exec_setReadRecoveryLevel (h : s.AdminReady fseq 0x09 c) (level : Nat) : exec (.setReadRecoveryLevel fseq level) s =
    .next (if level ≤ 5 ∨ level = 15 then s.setFeat c fseq false (fun f => { f with rrl := level }) else s.complete fseq .invalidField) := by
  rw [exec_admin h (by decide) (i := .setReadRecoveryLevel fseq level) rfl]

/-- A temperature of R468 outside its bounds. -/
def badTmt (t : Nat) : Bool := decide (t ≠ 0) && (decide (t < 333) || decide (373 < t))

theorem badTmt_of_within {t : Nat} (hl : 333 ≤ t) (hh : t ≤ 373) : badTmt t = false := by
  simp only [badTmt, Bool.and_eq_false_iff, Bool.or_eq_false_iff, decide_eq_false_iff_not]
  omega

theorem exec_setHctm (h : s.AdminReady fseq 0x09 c) (tmt1 tmt2 : Nat) : exec (.setHctm fseq tmt1 tmt2) s =
    .next (if badTmt tmt1 ∨ badTmt tmt2 ∨ (tmt1 ≠ 0 ∧ tmt2 ≠ 0 ∧ tmt2 ≤ tmt1) then s.complete fseq .invalidField
      else s.setFeat c fseq false (fun f => { f with tmt1 := tmt1, tmt2 := tmt2 })) := by
  rw [exec_admin h (by decide) (i := .setHctm fseq tmt1 tmt2) rfl]
  rfl

/-- The vectors whose coalescing is disabled. -/
def disabledVectors (l : List Nat) (vector : Nat) (disable : Bool) : List Nat :=
  if disable then vector :: l.filter (· ≠ vector) else l.filter (· ≠ vector)

theorem mem_disabledVectors_self (l : List Nat) (v : Nat) (disable : Bool) : v ∈ disabledVectors l v disable ↔ disable = true := by
  cases disable <;> simp [disabledVectors]

theorem mem_disabledVectors_ne (l : List Nat) {v w : Nat} (disable : Bool) (h : w ≠ v) : w ∈ disabledVectors l v disable ↔ w ∈ l := by
  cases disable <;> simp [disabledVectors, h]

theorem exec_setInterruptVectorConfig (h : s.AdminReady fseq 0x09 c) (vector : Nat) (disable : Bool) :
    exec (.setInterruptVectorConfig fseq vector disable) s =
    .next (if 2048 ≤ vector then s.complete fseq .invalidField
      else s.setFeat c fseq false (fun f => { f with ivDisabled := disabledVectors f.ivDisabled vector disable })) := by
  rw [exec_admin h (by decide) (i := .setInterruptVectorConfig fseq vector disable) rfl]
  rfl

theorem exec_setApst (h : s.AdminReady fseq 0x09 c) (enable : Bool) (table : List (Nat × Nat)) : exec (.setApst fseq enable table) s =
    .next (if (enable ∧ s.param 0x7000 3 = 1) ∨ 32 < table.length ∨ table.any (fun e => e.1 ≠ 3 && e.1 ≠ 4) then
        s.complete fseq .invalidField
      else s.setFeat c fseq false (fun f => { f with apste := enable, apst := some table })) := by
  rw [exec_admin h (by decide) (i := .setApst fseq enable table) rfl]

theorem any_not_nonOperational {table : List (Nat × Nat)} (h : ∀ e ∈ table, e.1 = 3 ∨ e.1 = 4) :
    table.any (fun e => decide (e.1 ≠ 3) && decide (e.1 ≠ 4)) = false := by
  rw [List.any_eq_false]
  intro e he
  rcases h e he with h | h <;> simp [h]

theorem any_ioQueue {α : Type} {l : List (Nat × α)} (h : ∀ e ∈ l, e.1 = 0) : l.any (fun e => decide (e.1 ≠ 0)) = false := by
  rw [List.any_eq_false]
  intro e he
  simp [h e he]

/-- Before an I/O queue exists the controller takes the numbers of queues, at most 4096 of each kind (R257). -/
theorem exec_setNumberOfQueues (h : s.AdminReady fseq 0x09 c) {nsq ncq : Nat} (hsq : ∀ e ∈ (s.ctrl c.port).sqs, e.1 = 0)
    (hcq : ∀ e ∈ (s.ctrl c.port).cqs, e.1 = 0) (hn : nsq < 0xFFFF) (hm : ncq < 0xFFFF) : exec (.setNumberOfQueues fseq nsq ncq) s =
    .next (s.setFeat c fseq false (fun f => { f with nsq := min (nsq + 1) 4096, ncq := min (ncq + 1) 4096 })
      (min nsq 4095 + min ncq 4095 * 2 ^ 16)) := by
  rw [exec_admin h (by decide) (i := .setNumberOfQueues fseq nsq ncq) rfl, if_neg (by omega), any_ioQueue hsq, any_ioQueue hcq]
  dsimp only
  rw [show min (nsq + 1) 4096 - 1 = min nsq 4095 by omega, show min (ncq + 1) 4096 - 1 = min ncq 4095 by omega]
  rfl

/-! ### Device-wide features -/

/-- The host has set the time. -/
def State.timeSet (s : State) (ms : Nat) : State := { s with clocks := { s.clocks with ts := .running, tsSet := ms, tsAt := s.tb.count } }

theorem exec_setTimestamp (h : s.AdminReady fseq 0x09 c) (ms : Nat) :
    exec (.setTimestamp fseq ms) s = .next ((s.timeSet ms).persist.complete fseq .success) := by
  rw [exec_admin h (by decide) (i := .setTimestamp fseq ms) rfl]
  rfl

theorem State.complete_clocks (s : State) (fseq : Nat) (st : Status) (dw0 lba : Nat) : (s.complete fseq st dw0 lba).clocks = s.clocks :=
  (State.complete_changes s fseq st dw0 lba).rest .clocks (by decide)

theorem State.complete_tb (s : State) (fseq : Nat) (st : Status) (dw0 lba : Nat) : (s.complete fseq st dw0 lba).tb = s.tb :=
  (State.complete_changes s fseq st dw0 lba).rest .tb (by decide)

theorem Clocks.hostTs_now (k : Clocks) (now : BitVec 64) (ms : Nat) :
    ({ k with ts := .running, tsSet := ms, tsAt := now } : Clocks).hostTs now = some ms := by
  simp [Clocks.hostTs]

theorem State.timeSet_hostTs (s : State) (ms : Nat) : (s.timeSet ms).clocks.hostTs (s.timeSet ms).tb.count = some ms :=
  Clocks.hostTs_now s.clocks s.tb.count ms

theorem State.persist_clocks {s : State} {ms : Nat} (h : s.clocks.hostTs s.tb.count = some ms) :
    s.persist.clocks = { s.clocks with opsecP := s.clocks.opsec, tsP := some (ms, s.clocks.opsec.toNat) } := by
  simp only [State.persist, h]

theorem exec_setFdp (h : s.AdminReady fseq 0x09 c) (enable : Bool) : exec (.setFdp fseq enable) s =
    .next (if s.media.namespaces ≠ [] then s.complete fseq .cmdSeqError
      else (s.setMedia (fun m => { m with fdp := enable })).complete fseq .success) := by
  rw [exec_admin h (by decide) (i := .setFdp fseq enable) rfl]

/-- A change to the flash leaves what decides on a completion. -/
theorem State.setMedia_samePost (s : State) (f : Media → Media) (fseq : Nat) : State.SamePost s (s.setMedia f) fseq :=
  ⟨rfl, fun _ => rfl, rfl, rfl⟩

theorem State.emit_samePost (s : State) (o : Output) (fseq : Nat) : State.SamePost s (s.emit o) fseq :=
  ⟨rfl, fun _ => rfl, rfl, rfl⟩

theorem State.setNs_get (s : State) (i : Nat) (f : Namespace → Namespace) :
    (s.setNs i f).media.namespaces.get? i = (s.media.namespaces.get? i).map f :=
  AMap.get?_mod _ _ _

theorem State.setNs_get_ne (s : State) {i j : Nat} (h : j ≠ i) (f : Namespace → Namespace) :
    (s.setNs i f).media.namespaces.get? j = s.media.namespaces.get? j :=
  AMap.get?_mod_ne _ _ _ _ h

theorem exec_setReservationPersistence (h : s.AdminReady fseq 0x09 c) {nsid i : Nat} {n : Namespace}
    (hn : s.nsOf c.port nsid = some (i, n)) (ptpl : Bool) : exec (.setReservationPersistence fseq nsid ptpl) s =
    .next ((s.setNs i (fun n => { n with resv := { n.resv with ptpl := ptpl } })).complete fseq .success) := by
  rw [exec_admin h (by decide) (i := .setReservationPersistence fseq nsid ptpl) rfl, hn]

/-- A namespace that a controller sees stands in the table under its index. -/
theorem State.nsOf_get {p : Fin 2} {nsid i : Nat} {n : Namespace} (h : s.nsOf p nsid = some (i, n)) :
    s.media.namespaces.get? i = some n ∧ 1 ≤ nsid ∧ i = nsid - 1 := by
  simp only [State.nsOf] at h
  split at h
  · cases h
  split at h
  case h_2 => cases h
  case h_1 m hm =>
    split at h
    case isFalse => cases h
    case isTrue hp =>
      cases h
      exact ⟨hm, hp.1, rfl⟩

end

/-- Settles O8: each feature is stored through `State.setFeat`, whose effect `exec_setFeat` says once. -/
theorem featuresSet : Obligations.FeaturesSet := by
  unfold Obligations.FeaturesSet
  constructor
  · intro fseq c s h
    refine ⟨?_, ?_, ?_, ?_, ?_, ?_, ?_⟩
    · intro burst low med high save
      exact exec_storeFeat h save (fun f => { f with burst := burst, wLow := low, wMed := med, wHigh := high }) rfl
    · intro wce save
      exact exec_storeFeat h save (fun f => { f with wce := wce }) rfl
    · intro tler dulbe
      obtain ⟨t, ht, hdone, hfeat, -, hother⟩ := exec_storeFeat h false
        (fun f => { f with tler := tler, dulbe := dulbe }) (i := .setErrorRecovery fseq tler dulbe) rfl
      exact ⟨t, ht, hdone, hfeat, hother⟩
    · intro threshold time
      obtain ⟨t, ht, hdone, hfeat, -, hother⟩ := exec_storeFeat h false
        (fun f => { f with icThr := threshold, icTime := time }) (i := .setInterruptCoalescing fseq threshold time) rfl
      exact ⟨t, ht, hdone, hfeat, hother⟩
    · intro mask
      obtain ⟨t, ht, hdone, hfeat, -, hother⟩ := exec_storeFeat h false
        (fun f => { f with aerMask := mask }) (i := .setAsyncEventConfig fseq mask) rfl
      exact ⟨t, ht, hdone, hfeat, hother⟩
    · intro id
      obtain ⟨t, ht, hdone, hfeat, -, hother⟩ := exec_storeFeat h false
        (fun f => { f with hostId := id }) (i := .setHostIdentifier fseq id) rfl
      exact ⟨t, ht, hdone, hfeat, hother⟩
    · intro sensor under kelvin hs
      obtain ⟨t, ht, hdone, hfeat, -, hother⟩ := exec_setFeat h (exec_setTemperatureThreshold h sensor under kelvin hs)
      refine ⟨t, ht, hdone, ?_, fun x hx => ?_, hother⟩
      · rw [hfeat]
        exact List.mem_cons_self
      · rw [hfeat]
        exact mem_replaced_threshold _ _ _ _ _ hx
  · intro fseq c s h
    refine ⟨?_, ?_, ?_, ?_, ?_, ?_, ?_, ?_⟩
    · intro level
      refine ⟨_, exec_setReadRecoveryLevel h level, fun hl => ?_, fun h5 h15 => ?_⟩
      · rw [if_pos hl]
        exact ⟨State.setFeat_completed h.flying _ _ _, by rw [State.setFeat_feat]⟩
      · rw [if_neg (by omega)]
        exact State.complete_refused h .invalidField
    · intro tmt1 tmt2
      refine ⟨_, exec_setHctm h tmt1 tmt2, fun hl hm hh => ?_, fun hl hm hh => ?_⟩
      · rw [if_neg (by simp only [badTmt_of_within hl (by omega), badTmt_of_within (by omega : 333 ≤ tmt2) hh]; simp; omega)]
        exact ⟨State.setFeat_completed h.flying _ _ _, State.setFeat_feat _ _ _⟩
      · rw [if_pos (.inr (.inr (by omega)))]
        exact State.complete_refused h .invalidField
    · intro vector disable
      refine ⟨_, exec_setInterruptVectorConfig h vector disable, fun hv => ?_, fun hv => ?_⟩
      · rw [if_neg (by omega)]
        refine ⟨State.setFeat_completed h.flying _ _ _, ?_, fun v hne => ?_⟩
        · rw [State.setFeat_feat]
          exact mem_disabledVectors_self _ _ _
        · rw [State.setFeat_feat]
          exact mem_disabledVectors_ne _ _ hne
      · rw [if_pos hv]
        exact State.complete_refused h .invalidField
    · intro enable table
      refine ⟨_, exec_setApst h enable table, fun hmode hlen hstates => ?_, fun hen hmode => ?_⟩
      · rw [if_neg (by rw [any_not_nonOperational hstates]; rintro (⟨he, hm⟩ | hl | hf); exacts [hmode he hm, by omega, by cases hf])]
        exact ⟨State.setFeat_completed h.flying _ _ _, State.setFeat_feat _ _ _⟩
      · rw [if_pos (.inl ⟨hen, hmode⟩)]
        exact State.complete_refused h .invalidField
    · intro nsq ncq hsq hcq hn hm
      obtain ⟨t, ht, hdone, hfeat, -, -⟩ := exec_setFeat h (exec_setNumberOfQueues h hsq hcq hn hm)
      exact ⟨t, ht, hdone, hfeat⟩
    · intro ms
      have hclocks := State.persist_clocks (State.timeSet_hostTs s ms)
      refine ⟨_, exec_setTimestamp h ms, h.flying.completes_same (u := (s.timeSet ms).persist) ⟨rfl, fun _ => rfl, rfl, rfl⟩ .success 0 0, ?_, ?_, ?_⟩
      · rw [State.complete_clocks, hclocks]
        exact State.timeSet_hostTs s ms
      · rw [State.complete_clocks, hclocks]
        rfl
      · rw [State.complete_clocks, hclocks]
        rfl
    · intro enable
      refine ⟨_, exec_setFdp h enable, fun hnone => ?_, fun hsome => ?_⟩
      · rw [if_neg (by simp [hnone])]
        exact ⟨h.flying.completes_same (State.setMedia_samePost s _ fseq) .success 0 0,
          State.complete_media (s := s.setMedia _) h.flying.get (h.flying.fresh rfl) .success 0 0⟩
      · rw [if_pos hsome]
        exact ⟨h.flying.completes_now .cmdSeqError 0 0,
          congrArg Media.fdp (State.complete_media h.flying.get (h.flying.fresh rfl) .cmdSeqError 0 0)⟩
    · intro nsid ptpl i n hn
      have hmedia := State.complete_media (s := s.setNs i (fun n => { n with resv := { n.resv with ptpl := ptpl } })) h.flying.get
        (h.flying.fresh rfl) .success 0 0
      refine ⟨_, exec_setReservationPersistence h hn ptpl,
        h.flying.completes_same (State.setMedia_samePost s _ fseq) .success 0 0, ?_, fun j hj => ?_⟩
      · rw [hmedia]
        rw [State.setNs_get, (State.nsOf_get hn).1]
        rfl
      · rw [hmedia]
        exact State.setNs_get_ne s hj _

end Sys2Proof.Machine
end

section
/-! The statement of chapter 07 about what Get Log Page, Identify and Get Features return (R253, R255). -/

namespace Sys2Proof.Machine

open Sys2Proof

section
variable {s : State} {fseq : Nat} {c : Cmd}

theorem State.complete_changedNs (s : State) (q : Fin 2) (fseq : Nat) (st : Status) (dw0 lba : Nat) :
    ((s.complete fseq st dw0 lba).ctrl q).changedNs = (s.ctrl q).changedNs :=
  (congrArg Ctrl.changedNs (State.complete_settings s q fseq st dw0 lba) :)

/-- Data returned to the host is sent before the completion entry. -/
theorem State.Flying.completes_reply {ph : CmdPhase} (h : s.Flying fseq c ph) (o : Output) (st : Status) (dw0 lba : Nat) :
    State.Completed (s.out ++ [o]) s ((s.emit o).complete fseq st dw0 lba) fseq c st dw0 :=
  h.completes_same (State.emit_samePost s o fseq) st dw0 lba

/-! ### Logs -/

theorem exec_getLogPage (h : s.AdminReady fseq 0x02 c) (lid nsid : Nat) :
    exec (.getLogPage fseq lid nsid) s = .next (s.getLog c fseq lid) := by
  rw [exec_admin h (by decide) (i := .getLogPage fseq lid nsid) rfl]

/-- The list of changed namespaces has been read. -/
def Ctrl.changesRead (k : Ctrl) : Ctrl := { k with changedNs := [] }

theorem State.getLog_changedNs (s : State) (fseq : Nat) (c : Cmd) :
    s.getLog c fseq 0x04 =
      ((s.emit (.reply fseq 0x20004 (s.ctrl c.port).changedNs)).setCtrl c.port Ctrl.changesRead).complete fseq .success := rfl

theorem State.getLog_other {lid : Nat} {v : List Nat} (hl : lid ≠ 0x04) (hv : s.logPage c.port lid = some v) :
    s.getLog c fseq lid = (s.emit (.reply fseq (0x20000 + lid) v)).complete fseq .success := by
  simp only [State.getLog, hv, if_neg hl]

theorem State.getLog_unsupported {lid : Nat} (hv : s.logPage c.port lid = none) :
    s.getLog c fseq lid = s.complete fseq .invalidLogPage := by
  simp only [State.getLog, hv]

theorem State.getLog_completed (h : s.AdminReady fseq 0x02 c) {lid : Nat} {v : List Nat} (hv : s.logPage c.port lid = some v) :
    State.Completed (s.out ++ [Output.reply fseq (0x20000 + lid) v]) s (s.getLog c fseq lid) fseq c .success 0 := by
  by_cases hl : lid = 0x04
  · subst hl
    cases hv
    obtain ⟨hpost, hq⟩ := State.noteError_canPost s c h.flying.post Ctrl.changesRead (fun _ => rfl) (fun _ => rfl) (fun _ => rfl)
    rw [State.getLog_changedNs]
    refine h.flying.completes (u := (s.emit _).setCtrl c.port Ctrl.changesRead) h.flying.get ?_ hq .success 0 0
    exact ⟨hpost.free, hpost.enabled, hpost.room, hpost.ide⟩
  · rw [State.getLog_other hl hv]
    exact h.flying.completes_reply _ .success 0 0

theorem State.getLog_feat (s : State) (fseq lid : Nat) (c : Cmd) :
    ((s.getLog c fseq lid).ctrl c.port).feat = (s.ctrl c.port).feat := by
  cases hv : s.logPage c.port lid with
  | none => rw [State.getLog_unsupported hv, State.complete_feat]
  | some v =>
    by_cases hl : lid = 0x04
    · subst hl
      rw [State.getLog_changedNs, State.complete_feat, State.setCtrl_ctrl]
      rfl
    · rw [State.getLog_other hl hv, State.complete_feat]
      rfl

theorem State.getLog_clears (s : State) (fseq : Nat) (c : Cmd) : ((s.getLog c fseq 0x04).ctrl c.port).changedNs = [] := by
  rw [State.getLog_changedNs, State.complete_changedNs, State.setCtrl_ctrl]
  rfl

/-! ### Identify -/

theorem exec_identify (h : s.AdminReady fseq 0x06 c) (cns nsid : Nat) :
    exec (.identify fseq cns nsid) s = .next (s.identify c fseq cns nsid) := by
  rw [exec_admin h (by decide) (i := .identify fseq cns nsid) rfl]

theorem State.identify_controller (nsid : Nat) :
    s.identify c fseq 0x01 nsid = (s.emit (.reply fseq 0x60001 s.idCtrl)).complete fseq .success := rfl

theorem State.identify_namespace {nsid i : Nat} {n : Namespace} (hl : nsid ≤ 256) (hn : s.nsOf c.port nsid = some (i, n)) :
    s.identify c fseq 0x00 nsid = (s.emit (.reply fseq 0x60000 (s.idNs n))).complete fseq .success := by
  have hpos : ¬(nsid = 0 ∨ 256 < nsid) := by
    have := (State.nsOf_get hn).2.1
    omega
  simp only [State.identify, if_neg hpos, Bool.false_eq_true, if_false, hn, Option.map_some]

/-! ### Get Features -/

theorem exec_getFeatures (h : s.AdminReady fseq 0x0A c) (fid sel : Nat) :
    exec (.getFeatures fseq fid sel) s = .next (s.getFeatures c fseq fid sel) := by
  rw [exec_admin h (by decide) (i := .getFeatures fseq fid sel) rfl]

theorem State.getFeatures_current {fid : Nat} {v : List Nat} (hv : s.featVal c.port (s.ctrl c.port).feat fid 0 = some v) :
    s.getFeatures c fseq fid 0 = (s.emit (.reply fseq (0xA0000 + fid) v)).complete fseq .success (v.headD 0) := by
  unfold State.getFeatures
  simp only [hv]
  rw [if_neg (by omega), if_neg (by omega)]

theorem State.featVal_wce (p : Fin 2) (f : Features) (sel : Nat) : s.featVal p f 0x06 sel = some [bit f.wce] := rfl

/-- The volatile write cache can be saved and changed (bits 0 and 2). -/
theorem State.getFeatures_wce_supported : s.getFeatures c fseq 0x06 3 = s.complete fseq .success 5 := by
  have hbits : bit (saveable.contains 0x06) + 4 = 5 := by simp [saveable, bit]
  unfold State.getFeatures
  simp only [State.featVal_wce]
  rw [if_true, hbits]

end

/-- Settles O10: each command sends its reply and completes; only the log of changed namespaces is cleared by being read. -/
theorem informationReturned : Obligations.InformationReturned := by
  unfold Obligations.InformationReturned
  refine ⟨?_, ?_, ?_, ?_, ?_⟩
  · intro fseq lid nsid c s h
    refine ⟨_, exec_getLogPage h lid nsid, fun v hv => State.getLog_completed h hv, fun hv => ?_, fun hl => ?_, State.getLog_feat _ _ _ _⟩
    · rw [State.getLog_unsupported hv]
      exact h.flying.completes_now .invalidLogPage 0 0
    · subst hl
      exact State.getLog_clears _ _ _
  · intro fseq c s h
    exact ⟨_, exec_getLogPage h 0x02 0, State.getLog_completed h (lid := 0x02) rfl⟩
  · intro fseq nsid c s h
    refine ⟨_, (exec_identify h 0x01 nsid).trans (congrArg Host.Outcome.next (State.identify_controller nsid)), ?_, rfl⟩
    exact h.flying.completes_reply _ .success 0 0
  · intro fseq nsid i n c s h hl hn
    refine ⟨_, (exec_identify h 0x00 nsid).trans (congrArg Host.Outcome.next (State.identify_namespace hl hn)), ?_⟩
    exact h.flying.completes_reply _ .success 0 0
  · intro fseq c s h
    have current : ∀ (v : List Nat) (fid : Nat), s.featVal c.port (s.ctrl c.port).feat fid 0 = some v →
        ∃ t, exec (.getFeatures fseq fid 0) s = .next t ∧
          State.Completed (s.out ++ [Output.reply fseq (0xA0000 + fid) v]) s t fseq c .success (v.headD 0) := fun v fid hv =>
      ⟨_, (exec_getFeatures h fid 0).trans (congrArg Host.Outcome.next (State.getFeatures_current hv)),
        h.flying.completes_reply _ .success (v.headD 0) 0⟩
    exact ⟨current, current [bit (s.ctrl c.port).feat.wce] 0x06 rfl,
      ⟨_, (exec_getFeatures h 0x06 3).trans (congrArg Host.Outcome.next State.getFeatures_wce_supported), h.flying.completes_now .success 5 0⟩⟩

end Sys2Proof.Machine
end

section
/-! The statement of chapters 00 and 01 about register writes (R13, R21, R30): who is admitted, and which fields change. -/

namespace Sys2Proof.Machine

open Sys2Proof

/-! ### Registers that a block holds -/

theorem regOutside_dmbStat : ∀ p, regOutside (.dmbStat p) = false := by decide
theorem regOutside_dmbVec : ∀ p, regOutside (.dmbVec p) = false := by decide
theorem regOutside_wrpAccStat : ∀ sl, regOutside (.wrpAccStat sl) = false := by decide
theorem regOutside_ftlCtl : ∀ sl, regOutside (.ftlCtl sl) = false := by decide
theorem regOutside_xlat2Shd : ∀ p n, regOutside (.xlat2Shd p n) = false := by decide
theorem regOutside_arbCfg : ∀ a k, regOutside (.arbCfg a k) = false := by decide
theorem regOutside_sdmBaseHi : ∀ ch, regOutside (.sdmBaseHi ch) = false := by decide
theorem regOutside_sdmHead : ∀ ch, regOutside (.sdmHead ch) = false := by decide

/-! ### Who may write (R30) -/

section
variable {s : State}

theorem exec_registerWrite (h : s.storeUp = true) (ini : Initiator) (r : Reg) (v : BitVec 32) :
    exec (.registerWrite ini r v) s = .next (s.registerWrite ini r v) := by
  change execRegisterWrite ini r v s = _
  rw [execRegisterWrite, if_pos h]

/-- A core, the debug port, the management controller and the system DMA reach the registers directly. -/
theorem State.registerWrite_direct {ini : Initiator} (hi : ∀ p, ini ≠ .host p) {r : Reg} (hk : kvcPage r = none) (v : BitVec 32) :
    s.registerWrite ini r v = if !regOutside r && s.regAdmits r ini then s.writeReg v r else s.emit (.accessError ini) := by
  cases ini with
  | host p => exact absurd rfl (hi p)
  | core c => simp only [State.registerWrite, hk]
  | debug => simp only [State.registerWrite, hk]
  | bmc => simp only [State.registerWrite, hk]
  | sdma ch => simp only [State.registerWrite, hk]

theorem exec_registerWrite_refused (h : s.storeUp = true) {ini : Initiator} (hi : ∀ p, ini ≠ .host p) {r : Reg}
    (hk : kvcPage r = none) (hadm : s.regAdmits r ini = false) (v : BitVec 32) :
    exec (.registerWrite ini r v) s = .next (s.emit (.accessError ini)) := by
  rw [exec_registerWrite h, State.registerWrite_direct hi hk, hadm, Bool.and_false]
  rfl

theorem exec_registerWrite_core (h : s.storeUp = true) (c : Fin 32) {r : Reg} (hk : kvcPage r = none) (hout : regOutside r = false)
    (hadm : s.regAdmits r (.core c) = true) (v : BitVec 32) : exec (.registerWrite (.core c) r v) s = .next (s.writeReg v r) := by
  rw [exec_registerWrite h, State.registerWrite_direct (by nofun) hk, hout, hadm]
  rfl

theorem exec_registerWrite_host_refused {p : Fin 2} (h : s.storeUp = true) (hshown : s.BarShows p 6) (v : BitVec 32) :
    exec (.registerWrite (.host p) .sysPaceFloor v) s = .next (s.emit (.accessError (.host p))) := by
  rw [exec_registerWrite h]
  simp only [State.registerWrite, kvcPage, hostContent, regWindow, State.hostBar4_shown hshown.link hshown.goes hshown.shown]
  rfl

/-- The slice's own registers are written by the core that schedules it (R21). -/
theorem State.regAdmits_own {c : Fin 32} {sl : Fin 8} {r : Reg} (ho : ownedBy r = some sl) :
    s.regAdmits r (.core c) = decide (s.units.scheduler sl = some c) := by
  simp only [State.regAdmits, ho]

theorem exec_registerWrite_readOnly (h : s.storeUp = true) (c : Fin 32) (b o : Nat) (v : BitVec 32) :
    exec (.registerWrite (.core c) (.readOnly b o) v) s =
      .next (if regOutside (.readOnly b o) then s.emit (.accessError (.core c)) else s) := by
  rw [exec_registerWrite h, State.registerWrite_direct (by nofun) rfl]
  cases regOutside (.readOnly b o) <;> rfl

/-! ### A field that keeps its value -/

theorem Tbl.upd_id {α : Type} {n : Nat} (t : Tbl n α) (k : Fin n) {f : α → α} (h : f t[k] = t[k]) : t.upd k f = t := by
  have e : t.upd k id = t := by simp [Tbl.upd]
  exact (Tbl.upd_congr t k (g := id) h).trans e

theorem State.setSdc_id {ch : Fin 16} {f : SdmCh → SdmCh} (h : f (s.sdc ch) = s.sdc ch) : s.setSdc ch f = s := by
  simp only [State.setSdc, Tbl.upd_id s.sdm.chs ch h]

/-- The ring of an enabled channel stays where it is (R351). -/
theorem State.writeReg_sdmBaseHi_enabled {ch : Fin 16} (h : (s.sdc ch).en = true) (v : BitVec 32) : s.writeReg v (.sdmBaseHi ch) = s := by
  simp only [State.writeReg, State.writeSdm]
  split
  · exact State.setSdc_id (if_pos h)
  · rfl

theorem State.writeReg_sdmHead_enabled {ch : Fin 16} (h : (s.sdc ch).en = true) (v : BitVec 32) : s.writeReg v (.sdmHead ch) = s := by
  simp only [State.writeReg, State.writeSdm]
  split
  · exact State.setSdc_id (if_pos h)
  · rfl

/-- Every class but maintenance has its settings (R335). -/
theorem State.writeReg_arbCfg {k : Fin 12} (hk : k ≠ 10) (a : Fin 16) (v : BitVec 32) :
    s.writeReg v (.arbCfg a k) = s.setDch a (fun d => { d with arb := d.arb.upd k (fun x => { x with
      prio := v.extractLsb' 0 2, starve := v.extractLsb' 4 10, maxHold := v.extractLsb' 16 10 }) }) := by
  have hne : ¬k.val = 10 := fun e => hk (Fin.ext e)
  simp only [State.writeReg, State.writeDram, if_neg hne]
  rfl

end

/-- Settles O55: a core's write reaches `State.writeReg`, which changes the writable fields; everyone else meets `regAdmits`. -/
theorem registersWritten : Obligations.RegistersWritten := by
  unfold Obligations.RegistersWritten
  refine ⟨?_, ?_, ?_⟩
  · intro r v s h hk
    refine ⟨exec_registerWrite_refused h (by nofun) hk rfl v, fun ch => exec_registerWrite_refused h (by nofun) hk rfl v,
      fun hlocked => exec_registerWrite_refused h (by nofun) hk ?_ v⟩
    simp only [State.regAdmits, hlocked, Bool.false_and]
  · intro p v s h hshown
    exact exec_registerWrite_host_refused h hshown v
  · intro c v s h
    have written : ∀ {r : Reg}, kvcPage r = none → regOutside r = false → ownedBy r = none →
        exec (.registerWrite (.core c) r v) s = .next (s.writeReg v r) := by
      intro r hk hout hown
      exact exec_registerWrite_core h c hk hout (by simp only [State.regAdmits, hown]) v
    refine ⟨fun b o => exec_registerWrite_readOnly h c b o v, written rfl (by decide) rfl, fun p => written rfl (regOutside_dmbStat p) rfl,
      fun p => written rfl (regOutside_dmbVec p) rfl, fun sl => written rfl (regOutside_wrpAccStat sl) rfl, ?_, ?_,
      written rfl (by decide) rfl, written rfl (by decide) rfl, fun p n => written rfl (regOutside_xlat2Shd p n) rfl, ?_, ?_,
      written rfl (by decide) rfl, written rfl (by decide) rfl⟩
    · intro sl hsl
      exact exec_registerWrite_core h c rfl (regOutside_ftlCtl sl) ((State.regAdmits_own rfl).trans (decide_eq_true hsl)) v
    · rintro sl hsl r (rfl | rfl | rfl)
      · exact exec_registerWrite_refused h (by nofun) rfl ((State.regAdmits_own rfl).trans (decide_eq_false hsl)) v
      · exact exec_registerWrite_refused h (by nofun) rfl ((State.regAdmits_own rfl).trans (decide_eq_false hsl)) v
      · exact exec_registerWrite_refused h (by nofun) rfl ((State.regAdmits_own rfl).trans (decide_eq_false hsl)) v
    · intro a k hk
      rw [written rfl (regOutside_arbCfg a k) rfl, State.writeReg_arbCfg hk]
      rfl
    · intro ch _ hen
      rw [written rfl (regOutside_sdmBaseHi ch) rfl, written rfl (regOutside_sdmHead ch) rfl, State.writeReg_sdmBaseHi_enabled hen,
        State.writeReg_sdmHead_enabled hen]
      exact ⟨rfl, rfl⟩

end Sys2Proof.Machine
end

section
/-! The statement of chapter 16 about the front panel, the management bus's lines and the debug port (R519 to R525). -/

namespace Sys2Proof.Machine

open Sys2Proof

section
variable {s : State}

theorem State.whenAux_runs (h : s.auxRuns = true) (f : State → State) : s.whenAux f = f s := by
  rw [State.whenAux, if_pos h]

/-! ### What the LEDs show (R519) -/

/-- The LEDs show nothing of the recorder's state, and of the board's only whether both ports are in use. -/
theorem State.led_congr {t : State} (h : Changes [.evr, .board] s t) (hdual : t.board.peDual = s.board.peDual) (k : Fin 3) :
    t.led k = s.led k := by
  have hphase : t.phase = s.phase := h.rest .phase (by decide)
  have hcmq : t.cmq = s.cmq := h.rest .cmq (by decide)
  have hmedia : t.media = s.media := h.rest .media (by decide)
  have hplp : t.plp = s.plp := h.rest .plp (by decide)
  have hsec : t.sec = s.sec := h.rest .sec (by decide)
  have hdict : t.dict = s.dict := h.rest .dict (by decide)
  simp only [State.led, State.ledAct, State.ledFault, State.ledLocate, State.faultPhase, State.portList, State.dual, State.ctrl,
    State.param, hphase, hcmq, hmedia, hplp, hsec, hdict, hdual]
  rfl

theorem ledMode_auto {mode : Nat} (h : mode = 0) (x : LedShow) : ledMode mode x = x := by
  subst h
  rfl

theorem zero_mem_portList : (0 : Fin 2) ∈ s.portList := by
  simp only [State.portList]
  split <;> decide

theorem State.led_act_off (hmode : s.param 0x6020 0 = 0) (h : s.phase = .deepRest ∨ s.phase = .bootFault ∨ s.phase = .wakeFault ∨
    ∀ p, (s.ctrl p).rdy = false) : s.led 0 = .off := by
  have hoff : (s.phase == .deepRest || s.faultPhase || !s.portList.any (fun p => (s.ctrl p).rdy)) = true := by
    rcases h with h | h | h | h
    · simp [h]
    · simp [State.faultPhase, h]
    · simp [State.faultPhase, h]
    · simp [h]
  change ledMode (s.param 0x6020 0) s.ledAct = _
  rw [ledMode_auto hmode, State.ledAct, if_pos hoff]

theorem State.led_act_on (hmode : s.param 0x6020 0 = 0) (hphase : s.phase = .running) (hrdy : (s.ctrl 0).rdy = true)
    (hidle : s.cmq.cmds = []) : s.led 0 = .on := by
  have hany : s.portList.any (fun p => (s.ctrl p).rdy) = true := List.any_eq_true.mpr ⟨0, zero_mem_portList, hrdy⟩
  change ledMode (s.param 0x6020 0) s.ledAct = _
  rw [ledMode_auto hmode, State.ledAct, State.faultPhase, hany, hphase, hidle]
  rfl

theorem State.led_fault_on (hmode : s.param 0x6020 1 = 0) (h : s.phase = .bootFault ∨ s.phase = .wakeFault ∨ s.sec.tampered = true ∨
    s.media.readOnly = true ∨ (s.ctrl 0).cfs = true) : s.led 1 = .on := by
  have hon : (s.faultPhase || s.portList.any (fun p => (s.ctrl p).cfs) || s.sec.tampered || s.media.readOnly) = true := by
    rcases h with h | h | h | h | h
    · simp [State.faultPhase, h]
    · simp [State.faultPhase, h]
    · simp [h]
    · simp [h]
    · have hany : s.portList.any (fun p => (s.ctrl p).cfs) = true := List.any_eq_true.mpr ⟨0, zero_mem_portList, h⟩
      simp [hany]
  change ledMode (s.param 0x6020 1) s.ledFault = _
  rw [ledMode_auto hmode, State.ledFault, if_pos hon]

/-! ### The check of an LED pin (R520) -/

/-- A pin's fault is stored. -/
def State.ledStored (s : State) (k : Fin 3) (kind : BitVec 2) : State :=
  s.setBoard (fun b => { b with ledFault := b.ledFault.upd k (fun _ => kind) })

/-- The event of a check whose finding is new. -/
def State.ledNoted (s : State) (k : Fin 3) (kind : BitVec 2) : State :=
  if kind = s.board.ledFault[k] then s.ledStored k kind
  else if kind = 0 then (s.ledStored k kind).log 0x7301 0x40 (leBytes 1 k.val)
  else (s.ledStored k kind).log 0x7300 0x40 (leBytes 1 k.val ++ leBytes 1 kind.toNat)

theorem State.ledNoted_changes (k : Fin 3) (kind : BitVec 2) : Changes [.evr, .board] s (s.ledNoted k kind) := by
  have hstored : Changes [.evr, .board] s (s.ledStored k kind) := (State.setBoard_changes s _).mono rfl
  simp only [State.ledNoted]
  split
  · exact hstored
  split
  · exact (State.log_changes ..).step rfl hstored
  · exact (State.log_changes ..).step rfl hstored

theorem State.ledNoted_board (k : Fin 3) (kind : BitVec 2) :
    (s.ledNoted k kind).board.ledFault = s.board.ledFault.upd k (fun _ => kind) := by
  simp only [State.ledNoted]
  split
  · rfl
  split
  · rfl
  · rfl

theorem State.ledNoted_peDual (k : Fin 3) (kind : BitVec 2) : (s.ledNoted k kind).board.peDual = s.board.peDual := by
  simp only [State.ledNoted]
  split
  · rfl
  split
  · rfl
  · rfl

theorem State.ledNoted_evr (k : Fin 3) (kind : BitVec 2) :
    (s.ledNoted k kind).evr = if kind = s.board.ledFault[k] then s.evr
      else if kind = 0 then (s.log 0x7301 0x40 (leBytes 1 k.val)).evr
      else (s.log 0x7300 0x40 (leBytes 1 k.val ++ leBytes 1 kind.toNat)).evr := by
  simp only [State.ledNoted]
  split
  · rfl
  split
  · rfl
  · rfl

theorem State.ledCheck_other {k : Fin 3} (hk : ¬(k = 2 ∧ s.param 0x3400 0x0A = 1)) (kind : BitVec 2) :
    s.ledCheck k kind = (s.ledNoted k kind).emit (.led k (if kind = 1 then 5 else ledCode (s.led k))) := by
  rw [← State.led_congr (State.ledNoted_changes k kind) (State.ledNoted_peDual k kind) k]
  simp only [State.ledCheck, if_neg hk]
  rfl

theorem ledKind_short (a b c : Bool) : ledKind a b c = 1 ↔ a = true := by
  cases a <;> cases b <;> cases c <;> decide

theorem exec_ledCheck (h : s.auxRuns = true) (k : Fin 3) (a b c : Bool) :
    exec (.ledCheck k a b c) s = .next (s.ledCheck k (ledKind a b c)) := by
  change execLedCheck k a b c s = _
  rw [execLedCheck, State.whenAux_runs h]

/-- FP_LED2 is no LED while it serves as PFAIL_IN. -/
theorem exec_ledCheck_pfail (hp : s.param 0x3400 0x0A = 1) (a b c : Bool) : exec (.ledCheck 2 a b c) s = .next s := by
  change execLedCheck 2 a b c s = _
  simp only [execLedCheck, State.whenAux, State.ledCheck, hp, and_self, if_true, ite_self]

/-! ### The button, the bus lines and the debug port -/

theorem exec_fpBtnPress (h : s.auxRuns = true) (ms : Nat) : exec (.fpBtnPress ms) s = .next (s.btnPress ms) := by
  change execFpBtnPress ms s = _
  rw [execFpBtnPress, State.whenAux_runs h]

/-- The button has been stuck. -/
def State.btnStuck (s : State) : State := s.setBoard (fun b => { b with btn := 2 })

theorem exec_buttonStuck (h : s.auxRuns = true) (hb : s.board.btn ≠ 2) :
    exec .buttonStuck s = .next (s.btnStuck.log 0x7321 0x40) := by
  change execButtonStuck s = _
  rw [execButtonStuck, State.whenAux_runs h, if_neg hb]
  rfl

/-- A line of the management bus has been held low. -/
def State.lineLow (s : State) (sda : Bool) : State := s.setBoard (fun b => { b with mbLow := b.mbLow ++ [sda] })

def State.lineFree (s : State) (sda : Bool) : State := s.setBoard (fun b => { b with mbLow := b.mbLow.filter (· != sda) })

theorem exec_mbLineHeldLow_new {sda : Bool} (h : s.auxRuns = true) (hl : sda ∉ s.board.mbLow) :
    exec (.mbLineHeldLow sda) s = .next (((s.lineLow sda).log 0x7330 0x40 (lineByte sda)).emit (.mb false)) := by
  change execMbLineHeldLow sda s = _
  rw [execMbLineHeldLow, State.whenAux_runs h, if_neg (by simpa using hl)]
  rfl

theorem exec_mbLineHeldLow_again {sda : Bool} (h : s.auxRuns = true) (hl : sda ∈ s.board.mbLow) :
    exec (.mbLineHeldLow sda) s = .next s := by
  change execMbLineHeldLow sda s = _
  rw [execMbLineHeldLow, State.whenAux_runs h, if_pos (by simpa using hl)]

theorem exec_mbLineReleased {sda : Bool} (h : s.auxRuns = true) (hl : sda ∈ s.board.mbLow) :
    exec (.mbLineReleased sda) s = .next ((s.lineFree sda).log 0x7331 0x40 (lineByte sda)) := by
  change execMbLineReleased sda s = _
  rw [execMbLineReleased, State.whenAux_runs h, if_pos (by simpa using hl)]
  rfl

theorem exec_i3cHotJoin (h : s.auxRuns = true) (hsel : s.board.mbSel = true) :
    exec .i3cHotJoin s = .next { s with board := { s.board with hotJoin := true }, out := s.out ++ [Output.mb true] } := by
  change execI3cHotJoin s = _
  rw [execI3cHotJoin, State.whenAux_runs h, if_pos hsel]
  rfl

/-- A probe is attached or removed. -/
def State.probeSeen (s : State) (here : Bool) : State := s.setBoard (fun b => { b with debugPresent := here })

theorem State.probe_changed {here : Bool} (hp : s.phase ≠ .deepRest) (hb : s.board.debugPresent ≠ here) :
    s.probe here = (s.probeSeen here).log (if here then 0x7340 else 0x7341) 0x40 := by
  rw [State.probe, if_neg (by simp [hp, hb])]
  rfl

theorem exec_debugProbeAttach (h : s.auxRuns = true) (hp : s.phase ≠ .deepRest) (hb : s.board.debugPresent = false) :
    exec .debugProbeAttach s = .next ((s.probeSeen true).log 0x7340 0x40) := by
  change execDebugProbeAttach s = _
  rw [execDebugProbeAttach, State.whenAux_runs h, State.probe_changed hp (by simp [hb])]
  rfl

theorem exec_debugProbeRemove (h : s.auxRuns = true) (hp : s.phase ≠ .deepRest) (hb : s.board.debugPresent = true) :
    exec .debugProbeRemove s = .next ((s.probeSeen false).log 0x7341 0x40) := by
  change execDebugProbeRemove s = _
  rw [execDebugProbeRemove, State.whenAux_runs h, State.probe_changed hp (by simp [hb])]
  rfl

end

/-- Settles O54: each happening of the board is one update of its state with its event and its line. -/
theorem boardHappenings : Obligations.BoardHappenings := by
  unfold Obligations.BoardHappenings
  refine ⟨?_, ?_, ?_, ?_, ?_, ?_, ?_, ?_, ?_, ?_, ?_⟩
  · intro k a b c s h hk
    have hexec := exec_ledCheck h k a b c
    rw [State.ledCheck_other hk] at hexec
    have hboard := State.ledNoted_board (s := s) k (ledKind a b c)
    refine ⟨_, hexec, ?_, fun j hj => ?_, ?_, ?_, changes_touches_of_exec hexec⟩
    · simp only [State.emit_board, hboard, Tbl.upd_get]
      rfl
    · simp only [State.emit_board, hboard]
      exact Tbl.upd_get_ne _ _ _ _ hj
    · have hout : (s.ledNoted k (ledKind a b c)).out = s.out := (State.ledNoted_changes k _).rest .out (by decide)
      simp only [State.emit, State.emits, hout, ledKind_short]
    · simp only [State.emit_board, State.emit_evr, hboard, Tbl.upd_get]
      exact State.ledNoted_evr k _
  · intro a b c s hp
    exact exec_ledCheck_pfail hp a b c
  · intro s hmode h
    exact State.led_act_off hmode h
  · intro s hmode hphase hrdy hidle
    exact State.led_act_on hmode hphase hrdy hidle
  · intro s hmode h
    exact State.led_fault_on hmode h
  · intro ms s h hp hb
    refine ⟨fun hl hh => ?_, fun hout => ?_⟩
    · rw [exec_fpBtnPress h, State.btnPress, if_neg hb, if_neg (by simp only [hp, or_false]; omega)]
    · rw [exec_fpBtnPress h, State.btnPress, if_neg hb, if_pos (by tauto)]
  · intro s h hb
    have hexec := exec_buttonStuck h hb
    exact ⟨_, hexec, rfl, State.log_evr_congr rfl rfl rfl _ _ _, changes_touches_of_exec hexec⟩
  · intro ms s h hb
    rw [exec_fpBtnPress h, State.btnPress, if_pos hb]
    rfl
  · intro sda s h
    refine ⟨fun hl => ?_, fun hl => exec_mbLineHeldLow_again h hl, fun hl => ?_⟩
    · have hexec := exec_mbLineHeldLow_new h hl
      exact ⟨_, hexec, rfl, State.log_evr_congr rfl rfl rfl _ _ _, rfl, changes_touches_of_exec hexec⟩
    · have hexec := exec_mbLineReleased h hl
      exact ⟨_, hexec, rfl, State.log_evr_congr rfl rfl rfl _ _ _, changes_touches_of_exec hexec⟩
  · intro s h hsel
    exact exec_i3cHotJoin h hsel
  · intro s h hp
    refine ⟨fun hb => ?_, fun hb => ?_⟩
    · have hexec := exec_debugProbeAttach h hp hb
      exact ⟨_, hexec, rfl, State.log_evr_congr rfl rfl rfl _ _ _, changes_touches_of_exec hexec⟩
    · have hexec := exec_debugProbeRemove h hp hb
      exact ⟨_, hexec, rfl, State.log_evr_congr rfl rfl rfl _ _ _, changes_touches_of_exec hexec⟩

end Sys2Proof.Machine
end

section
/-! The statement of chapter 08 about configuration requests (R286, R287). -/

namespace Sys2Proof.Machine

open Sys2Proof

/-- A running machine whose links are up; no configuration register was written yet. -/
def linkedState : State := { State.reset with phase := .running, ports := Vector.replicate 2 { link := .l0 } }

/-- Offset 0x104 holds the Uncorrectable Error Status of the AER capability: a bit that is written as 1 is cleared. -/
theorem linkedState_clears : ∃ t, exec (.configRequest 0 0x104 (some 1)) linkedState = .next t ∧
    t.ports[(0 : Fin 2)].config.get? 0x104 = some 0 := ⟨_, rfl, by decide⟩

/-- Refutes O42: the clause about a write that is stored excepts the containment registers 0x334 and 0x338, and not the RW1C register
0x104 of the AER capability, where a written 1 is not stored but clears the bit. -/
theorem not_configurationSpace : ¬ Obligations.ConfigurationSpace := by
  unfold Obligations.ConfigurationSpace
  rintro ⟨-, -, hwrite, -⟩
  obtain ⟨t, ht, hstored, -⟩ := (hwrite 0 0x104 1 linkedState (by decide) (by decide)).1 (by decide) (by decide)
  obtain ⟨u, hu, hcleared⟩ := linkedState_clears
  cases ht.symm.trans hu
  exact absurd (hstored.symm.trans hcleared) (by decide)

end Sys2Proof.Machine
end

section
/-! The statement of chapter 12 about the event recorder (R417 to R420) and the counters that are persisted (R422, R424). -/

namespace Sys2Proof.Machine

open Sys2Proof

/-! ### One event (R419) -/

/-- The record of an event, but for its SEQ. -/
def Evr.recordOf (e : Evr) (c : Clocks) (tb : BitVec 64) (ev : Ev) : EventRec :=
  { code := ev.code, source := BitVec.ofNat 8 ev.src, severity := severityOf ev.code, data := padTo 16 0 ev.data,
    seq := 0, opsec := c.opsec.toNat, pcc := c.pcc, hostTs := c.hostTs tb
    suppressed := satOf 16 ((e.suppCode.get? ev.code).getD 0) }

/-- The last record is of the same event. -/
def EventRec.like (l : EventRec) (ev : Ev) : Prop :=
  l.code = ev.code ∧ l.source = BitVec.ofNat 8 ev.src ∧ l.data = padTo 16 0 ev.data

section
variable {e : Evr} {c : Clocks} {tb : BitVec 64} {ev : Ev}

theorem Evr.takeIn_like {l : EventRec} (hl : e.last = some l) (h : l.like ev) : e.takeIn c tb ev = e.absorb c.opsec := by
  obtain ⟨hcode, hsrc, hdata⟩ := h
  simp only [Evr.takeIn, hl, hcode, hsrc, hdata, decide_true, Bool.and_self, if_true]

/-- The event is not like the last record. -/
def Evr.isNew (e : Evr) (ev : Ev) : Prop := ∀ l, e.last = some l → ¬l.like ev

theorem Evr.takeIn_new (h : e.isNew ev) : e.takeIn c tb ev =
    if ev.code / 4096 = 1 ∨ ev.code / 4096 = 5 then e.write (e.recordOf c tb ev)
    else if (e.tokens.get? ev.code).getD 16 = 0 then
      { e with
        suppCode := e.suppCode.put ev.code ((e.suppCode.get? ev.code).getD 0 + 1)
        suppTotal := e.suppTotal + 1
        suppCnt := satInc e.suppCnt }
    else { e.write (e.recordOf c tb ev) with tokens := e.tokens.put ev.code ((e.tokens.get? ev.code).getD 16 - 1) } := by
  cases hl : e.last with
  | none =>
    simp only [Evr.takeIn, hl, Bool.false_eq_true, if_false]
    rfl
  | some l =>
    have hne : (decide (l.code = ev.code) && decide (l.source = BitVec.ofNat 8 ev.src) && decide (l.data = padTo 16 0 ev.data)) = false := by
      have hnot := h l hl
      simp only [EventRec.like] at hnot
      simp only [← Bool.decide_and, decide_eq_false_iff_not, and_assoc]
      exact hnot
    simp only [Evr.takeIn, hl, hne, Bool.false_eq_true, if_false]
    rfl

/-! ### A record that is written -/

theorem Evr.write_up (hup : e.journalUp = true) (r : EventRec) : e.write r =
    { e with
      recs := { r with seq := e.next } :: e.recs.filter (Evr.keeps (e.next + 1))
      next := e.next + 1
      repP := 0
      lastOpsecP := 0
      suppCode := e.suppCode.del r.code } := by
  have hkept : Evr.keeps (e.next + 1) { r with seq := e.next } = true := by
    simp only [Evr.keeps, Bool.or_eq_true, decide_eq_true_eq]
    omega
  rw [Evr.write, if_pos hup, List.filter_cons_of_pos hkept]

theorem Evr.write_waits (hup : e.journalUp = false) (hroom : e.early.length < 64) (r : EventRec) : e.write r =
    { e with early := { r with seq := e.next } :: e.early, next := e.next + 1, suppCode := e.suppCode.del r.code } := by
  simp only [Evr.write, hup, Bool.false_eq_true, if_false, if_pos hroom]

theorem Evr.write_lost (hup : e.journalUp = false) (hfull : 64 ≤ e.early.length) (r : EventRec) :
    e.write r = { e with earlyLost := true } := by
  simp only [Evr.write, hup, Bool.false_eq_true, if_false, if_neg (Nat.not_lt.mpr hfull)]

theorem Evr.write_tokens (r : EventRec) : (e.write r).tokens = e.tokens := by
  simp only [Evr.write]
  repeat' split
  all_goals rfl

theorem Evr.write_suppTotal (r : EventRec) : (e.write r).suppTotal = e.suppTotal ∧ (e.write r).suppCnt = e.suppCnt := by
  simp only [Evr.write]
  repeat' split
  all_goals exact ⟨rfl, rfl⟩

theorem Evr.write_journalUp (r : EventRec) : (e.write r).journalUp = e.journalUp := by
  simp only [Evr.write]
  repeat' split
  all_goals rfl

/-- What an event that finds a place leaves: the next SEQ is used, the suppressed count of its code is spent, and it is the last
record. -/
structure Evr.Wrote (e f : Evr) (r : EventRec) : Prop where
  next : f.next = e.next + 1
  spent : f.suppCode.get? r.code = none
  recs : f.journalUp = true → f.recs = f.recs.take 1 ++ e.recs.filter (Evr.keeps (e.next + 1))
  last : f.last = some { r with seq := e.next }

theorem Evr.write_wrote (hearly : e.journalUp = true → e.early = []) (hroom : e.journalUp = true ∨ e.early.length < 64) (r : EventRec) :
    e.Wrote (e.write r) r := by
  cases hup : e.journalUp with
  | true =>
    rw [Evr.write_up hup]
    refine ⟨rfl, AMap.get?_del _ _, fun _ => rfl, ?_⟩
    simp only [Evr.last, hearly hup]
    rfl
  | false =>
    rw [Evr.write_waits hup (hroom.resolve_left (by simp [hup]))]
    exact ⟨rfl, AMap.get?_del _ _, fun h => absurd (hup.symm.trans h) (by decide), rfl⟩

/-- An event that is absorbed raises the last record's count and takes nothing. -/
theorem Evr.absorb_last {l : EventRec} (hl : e.last = some l) (opsec : BitVec 40) :
    (e.absorb opsec).last = some { l with repeats := satInc l.repeats, lastOpsec := opsec.setWidth 32 } ∧
    (e.absorb opsec).next = e.next ∧ (e.absorb opsec).tokens = e.tokens ∧ (e.absorb opsec).suppTotal = e.suppTotal ∧
    (e.absorb opsec).recs.length = e.recs.length ∧ (e.absorb opsec).early.length = e.early.length := by
  cases hearly : e.early with
  | cons r rs =>
    simp only [Evr.last, hearly] at hl
    cases hl
    simp only [Evr.absorb, hearly, Evr.last, List.length_cons, and_self]
  | nil =>
    cases hrecs : e.recs with
    | nil => simp [Evr.last, hearly, hrecs] at hl
    | cons r rs =>
      simp only [Evr.last, hearly, hrecs, List.head?_cons, Option.some.injEq] at hl
      cases hl
      simp only [Evr.absorb, hearly, hrecs, Evr.last, List.head?_cons, List.length_cons, and_self]

end

/-! ### Persisting and reading -/

section
variable {s : State}

/-- One token comes back to a code's bucket of 16 (R419). -/
def State.tokenBack (s : State) (code n : Nat) : State :=
  { s with evr := { s.evr with tokens := if 15 ≤ n then s.evr.tokens.del code else s.evr.tokens.put code (n + 1) } }

theorem exec_eventTokenRefill (h : s.live = true) (code : Nat) : exec (.eventTokenRefill code) s =
    .next (match s.evr.tokens.get? code with
      | some n => s.tokenBack code n
      | none => s) := by
  change execEventTokenRefill code s = _
  rw [execEventTokenRefill, State.whenLive_live h]
  rfl

theorem State.tokenBack_get (code n : Nat) : ((s.tokenBack code n).evr.tokens.get? code).getD 16 = min (n + 1) 16 := by
  simp only [State.tokenBack]
  by_cases hn : 15 ≤ n
  · rw [if_pos hn, AMap.get?_del, Option.getD_none]
    omega
  · rw [if_neg hn, AMap.get?_put, Option.getD_some]
    omega

theorem State.tokenBack_get_ne {code k : Nat} (hk : k ≠ code) (n : Nat) :
    (s.tokenBack code n).evr.tokens.get? k = s.evr.tokens.get? k := by
  simp only [State.tokenBack]
  split
  · exact AMap.get?_del_ne _ _ _ hk
  · exact AMap.get?_put_ne _ _ _ _ hk

theorem exec_eventRepeatPersist (h : s.live = true) : exec .eventRepeatPersist s =
    .next (match s.evr.recs with
      | r :: _ => { s with evr := { s.evr with repP := r.repeats, lastOpsecP := r.lastOpsec } }
      | [] => s) := by
  change execEventRepeatPersist s = _
  rw [execEventRepeatPersist, State.whenLive_live h] <;> rfl

theorem exec_opsecTick (h : s.powered = true) :
    exec .opsecTick s = .next { s with clocks := { s.clocks with opsec := s.clocks.opsec + 1 } } := by
  change execOpsecTick s = _
  rw [execOpsecTick, State.whenPowered_powered h]

theorem exec_opsecPersist (h : s.live = true) : exec .opsecPersist s = .next s.persist := by
  change execOpsecPersist s = _
  rw [execOpsecPersist, State.whenLive_live h]

/-- The host timestamp is persisted while it runs, and else stays as it was (R424). -/
theorem State.persist_tsP : s.persist.clocks.tsP = match s.clocks.ts with
    | .running => some (s.clocks.tsSet + (s.tb.count - s.clocks.tsAt).toNat / 100000, s.clocks.opsec.toNat)
    | _ => s.clocks.tsP := by
  simp only [State.persist, Clocks.hostTs]
  cases s.clocks.ts <;> rfl

theorem exec_evrSeqLoRead_admitted {i : Initiator} (h : s.powered = true)
    (hi : (∃ c, i = .core c) ∨ i = .debug ∧ s.sec.debugUnlocked = true) : exec (.evrSeqLoRead i) s = .next (s.evrSeqLoRead i) := by
  rcases hi with ⟨c, rfl⟩ | ⟨rfl, hopen⟩
  · change execEvrSeqLoRead (.core c) s = _
    rw [execEvrSeqLoRead, State.whenPowered_powered h]
    rfl
  · change execEvrSeqLoRead .debug s = _
    simp only [execEvrSeqLoRead, State.whenPowered_powered h, State.readBy, State.readAdmits, hopen, if_true]

theorem exec_evrSeqLoRead_refused {i : Initiator} (h : s.powered = true)
    (hi : i = .bmc ∨ (∃ ch, i = .sdma ch) ∨ i = .debug ∧ s.sec.debugUnlocked = false) :
    exec (.evrSeqLoRead i) s = .next (s.emit (.accessError i)) := by
  rcases hi with rfl | ⟨ch, rfl⟩ | ⟨rfl, hlocked⟩
  · change execEvrSeqLoRead .bmc s = _
    rw [execEvrSeqLoRead, State.whenPowered_powered h]
    rfl
  · change execEvrSeqLoRead (.sdma ch) s = _
    rw [execEvrSeqLoRead, State.whenPowered_powered h]
    rfl
  · change execEvrSeqLoRead .debug s = _
    simp only [execEvrSeqLoRead, State.whenPowered_powered h, State.readBy, State.readAdmits, hlocked, Bool.false_eq_true, if_false]

end

/-- Settles O40: an event is absorbed, written or suppressed by `Evr.takeIn_like` and `Evr.takeIn_new`; `Evr.write_wrote` says where a
written record stands. -/
theorem eventsRecorded : Obligations.EventsRecorded := by
  unfold Obligations.EventsRecorded
  refine ⟨?_, ?_, ?_, ?_, ?_, ?_, ?_, ?_⟩
  · intro e c tb ev hearly
    refine ⟨fun l hl hcode hsrc hdata => ?_, fun hnew => ⟨fun hgoes => ?_, fun hboot hsec hnone => ?_⟩⟩
    · rw [Evr.takeIn_like hl ⟨hcode, hsrc, hdata⟩]
      exact Evr.absorb_last hl c.opsec
    · have hwrote := Evr.write_wrote (r := e.recordOf c tb ev) hearly
      obtain ⟨htotal, hcnt⟩ := Evr.write_suppTotal (e := e) (e.recordOf c tb ev)
      rw [Evr.takeIn_new hnew]
      by_cases hcls : ev.code / 4096 = 1 ∨ ev.code / 4096 = 5
      · rw [if_pos hcls]
        refine ⟨fun _ => Evr.write_tokens _, fun h1 h5 => absurd hcls (by tauto), htotal, hcnt, fun hroom => ?_, fun hup hfull => ?_⟩
        · obtain ⟨hnext, hspent, hrecs, hlast⟩ := hwrote hroom
          exact ⟨hnext, hspent, hrecs, hlast⟩
        · rw [Evr.write_lost hup hfull]
          exact ⟨rfl, rfl, rfl, rfl⟩
      · rw [if_neg hcls, if_neg (by tauto)]
        refine ⟨fun h => absurd h hcls, fun _ _ => ?_, htotal, hcnt, fun hroom => ?_, fun hup hfull => ?_⟩
        · rw [AMap.get?_put]
          rfl
        · obtain ⟨hnext, hspent, hrecs, hlast⟩ := hwrote hroom
          exact ⟨hnext, hspent, hrecs, hlast⟩
        · rw [Evr.write_lost hup hfull]
          exact ⟨rfl, rfl, rfl, rfl⟩
    · rw [Evr.takeIn_new hnew, if_neg (by tauto), if_pos hnone]
      exact ⟨AMap.get?_put _ _ _, rfl, rfl, rfl, rfl, rfl, rfl⟩
  · intro code s h
    have hexec := exec_eventTokenRefill h code
    cases hn : s.evr.tokens.get? code with
    | none =>
      rw [hn] at hexec
      exact ⟨s, hexec, nofun, fun _ => rfl, fun _ _ => rfl, rfl, rfl, Changes.refl _ s⟩
    | some n =>
      rw [hn] at hexec
      refine ⟨_, hexec, fun m hm => ?_, nofun, fun k hk => State.tokenBack_get_ne hk n, rfl, rfl, changes_touches_of_exec hexec⟩
      cases hm
      exact State.tokenBack_get code n
  · intro r rs s h hrecs
    rw [exec_eventRepeatPersist h, hrecs]
  · intro s h hrecs
    rw [exec_eventRepeatPersist h, hrecs]
  · intro s h
    exact exec_opsecTick h
  · intro s h
    refine ⟨_, exec_opsecPersist h, rfl, rfl, rfl, fun hrun => ?_, fun hrun => ?_, rfl, State.persist_changes s⟩
    · rw [State.persist_tsP, hrun]
    · rw [State.persist_tsP]
      cases hts : s.clocks.ts with
      | running => exact absurd hts hrun
      | never => rfl
      | stopped => rfl
  · intro i s h hi
    have hexec := exec_evrSeqLoRead_admitted h hi
    exact ⟨_, hexec, rfl, mem_latchPut_self _ _ _, fun j v hj => mem_latchPut_ne hj _ _ _, rfl, rfl, changes_touches_of_exec hexec⟩
  · intro i s h hi
    exact exec_evrSeqLoRead_refused h hi

end Sys2Proof.Machine
end

section
/-! The statement of chapter 11 about the pages of the key vault (R356 to R363). -/

namespace Sys2Proof.Machine

open Sys2Proof

section
variable {s : State} {pg : Fin 16} {ini : Initiator}

/-! ### A page changes -/

theorem State.setPage_get (s : State) (pg : Fin 16) (f : VaultPage → VaultPage) :
    (s.setPage pg f).vault.pages[pg] = f s.vault.pages[pg] :=
  Tbl.upd_get _ _ _

theorem State.setPage_get_ne (s : State) {pg q : Fin 16} (h : q ≠ pg) (f : VaultPage → VaultPage) :
    (s.setPage pg f).vault.pages[q] = s.vault.pages[q] :=
  Tbl.upd_get_ne _ _ _ _ h

theorem State.setPage_congr {f g : VaultPage → VaultPage} (h : f s.vault.pages[pg] = g s.vault.pages[pg]) :
    s.setPage pg f = s.setPage pg g := by
  rw [State.setPage, State.setPage, Tbl.upd_congr s.vault.pages pg h]

/-! ### Admission (R357, R358) -/

/-- A host's access meets its window first (R290); everyone's is then checked by the page. -/
theorem State.onPage_checked (hshown : ∀ p, ini = .host p → s.BarShows p 7) (f : State → State) :
    s.onPage pg ini f = if s.admits pg ini then f s else s.refuse pg ini := by
  cases ini with
  | host p =>
    obtain ⟨hlink, hgoes, hcontent⟩ := hshown p rfl
    simp only [State.onPage, State.pageAccess, State.hostBar4_shown hlink hgoes hcontent]
  | core c => rfl
  | debug => rfl
  | bmc => rfl
  | sdma ch => rfl

theorem exec_vaultEncrypt (h : s.live = true) (slot : Fin 4) :
    exec (.vaultEncrypt pg ini slot) s = .next (s.onPage pg ini (fun s => s.go pg 1 slot)) := by
  change execVaultEncrypt pg ini slot s = _
  rw [execVaultEncrypt, State.whenLive_live h]

theorem exec_vaultDecrypt (h : s.live = true) (slot : Fin 4) :
    exec (.vaultDecrypt pg ini slot) s = .next (s.onPage pg ini (fun s => s.go pg 2 slot)) := by
  change execVaultDecrypt pg ini slot s = _
  rw [execVaultDecrypt, State.whenLive_live h]

theorem exec_vaultKeystream (h : s.live = true) (slot : Fin 4) :
    exec (.vaultKeystream pg ini slot) s = .next (s.onPage pg ini (fun s => s.go pg 3 slot)) := by
  change execVaultKeystream pg ini slot s = _
  rw [execVaultKeystream, State.whenLive_live h]

theorem exec_keySlotClear (h : s.live = true) (slot : Fin 4) : exec (.keySlotClear pg ini slot) s =
    .next (s.onPage pg ini (fun s => s.setPage pg (fun g => g.setSlot slot (fun k => { len := k.len })))) := by
  change execKeySlotClear pg ini slot s = _
  rw [execKeySlotClear, State.whenLive_live h]

theorem exec_keyWordWrite (h : s.live = true) (slot : Fin 4) (w : Fin 8) (v : BitVec 32) :
    exec (.keyWordWrite pg ini slot w v) s = .next (s.onPage pg ini (fun s => s.keyWord pg slot w v)) := by
  change execKeyWordWrite pg ini slot w v s = _
  rw [execKeyWordWrite, State.whenLive_live h]

theorem exec_nonceNext (h : s.live = true) :
    exec (.nonceNext pg ini) s = .next (s.onPage pg ini (fun s => s.setPage pg VaultPage.next)) := by
  change execNonceNext pg ini s = _
  rw [execNonceNext, State.whenLive_live h]

theorem exec_vaultAccessRefused (h : s.live = true) : exec (.vaultAccessRefused pg ini) s = .next (s.onPage pg ini (fun s => s)) := by
  change execVaultAccessRefused pg ini s = _
  rw [execVaultAccessRefused, State.whenLive_live h]

/-- A command that accesses a page in some way. -/
theorem exec_onPage (h : s.live = true) {i : Instr}
    (hi : (∃ slot, i = .vaultEncrypt pg ini slot ∨ i = .vaultDecrypt pg ini slot ∨ i = .vaultKeystream pg ini slot ∨
        i = .keySlotClear pg ini slot ∨ ∃ w v, i = .keyWordWrite pg ini slot w v) ∨ i = .nonceNext pg ini ∨
      i = .vaultAccessRefused pg ini) : ∃ f, exec i s = .next (s.onPage pg ini f) := by
  rcases hi with ⟨slot, rfl | rfl | rfl | rfl | ⟨w, v, rfl⟩⟩ | rfl | rfl
  · exact ⟨_, exec_vaultEncrypt h slot⟩
  · exact ⟨_, exec_vaultDecrypt h slot⟩
  · exact ⟨_, exec_vaultKeystream h slot⟩
  · exact ⟨_, exec_keySlotClear h slot⟩
  · exact ⟨_, exec_keyWordWrite h slot w v⟩
  · exact ⟨_, exec_nonceNext h⟩
  · exact ⟨_, exec_vaultAccessRefused h⟩

/-- An access that the page bars is refused, whatever it is. -/
theorem exec_onPage_refused {i : Instr} {f : State → State} (e : exec i s = .next (s.onPage pg ini f))
    (hshown : ∀ p, ini = .host p → s.BarShows p 7) (hadm : s.admits pg ini = false) : exec i s = .next (s.refuse pg ini) := by
  rw [e, State.onPage_checked hshown, hadm]
  rfl

/-- An access that the page admits is carried out. -/
theorem exec_onPage_admitted {i : Instr} {f : State → State} (e : exec i s = .next (s.onPage pg ini f))
    (hshown : ∀ p, ini = .host p → s.BarShows p 7) (hadm : s.admits pg ini = true) : exec i s = .next (f s) := by
  rw [e, State.onPage_checked hshown, if_pos hadm]

theorem State.refuse_page (s : State) (pg : Fin 16) (ini : Initiator) :
    (s.refuse pg ini).vault.pages[pg] = { s.vault.pages[pg] with refused := s.vault.pages[pg].refused + 1 } :=
  Tbl.upd_get _ _ _

theorem State.refuse_page_ne (s : State) {pg q : Fin 16} (h : q ≠ pg) (ini : Initiator) :
    (s.refuse pg ini).vault.pages[q] = s.vault.pages[q] :=
  Tbl.upd_get_ne _ _ _ _ h

theorem State.refuse_evr (s : State) (pg : Fin 16) (ini : Initiator) :
    (s.refuse pg ini).evr = (s.log 0x5301 0x30 (leBytes 1 pg.val ++ leBytes 2 (Config.initiatorId ini))).evr :=
  State.log_evr_congr rfl rfl rfl _ _ _

/-- A host's access that its window does not show ends as one to an unmapped window. -/
theorem State.hostBar4_hidden {p : Fin 2} (hlink : s.linkUp p = true) (hgoes : s.barRefusal p 4 = none)
    (hhidden : s.ports[p].shows 7 = false) (f : State → State) : s.hostBar4 p 7 true f = s.unmapped p 4 2097152 true := by
  simp only [State.hostBar4, hlink, hgoes, hhidden, Bool.not_true, Bool.false_eq_true, if_false]

theorem State.onPage_hidden {p : Fin 2} (hlink : s.linkUp p = true) (hgoes : s.barRefusal p 4 = none)
    (hhidden : s.ports[p].shows 7 = false) (f : State → State) : s.onPage pg (.host p) f = s.unmapped p 4 2097152 true := by
  simp only [State.onPage, State.pageAccess, State.hostBar4_hidden hlink hgoes hhidden]

/-! ### Operations (R360 to R362) -/

/-- The operations of a page. -/
theorem exec_go (h : s.live = true) (hshown : ∀ p, ini = .host p → s.BarShows p 7) (hadm : s.admits pg ini = true) {op : BitVec 3}
    {i : Instr} {slot : Fin 4} (hi : (op = 1 ∧ i = .vaultEncrypt pg ini slot) ∨ (op = 2 ∧ i = .vaultDecrypt pg ini slot) ∨
      (op = 3 ∧ i = .vaultKeystream pg ini slot)) : exec i s = .next (s.go pg op slot) := by
  rcases hi with ⟨rfl, rfl⟩ | ⟨rfl, rfl⟩ | ⟨rfl, rfl⟩
  · exact exec_onPage_admitted (exec_vaultEncrypt h slot) hshown hadm
  · exact exec_onPage_admitted (exec_vaultDecrypt h slot) hshown hadm
  · exact exec_onPage_admitted (exec_vaultKeystream h slot) hshown hadm

theorem State.go_starts {op : BitVec 3} {slot : Fin 4} (h : s.goCode pg op slot = none) :
    s.go pg op slot = s.setPage pg (fun g => { g with
      op := op, slot := BitVec.ofNat 2 slot.val, busy := true, run := op, runSlot := slot
      input := if op = 3 then g.nonce ++ g.ctr else blockOf g.din, dout := Vector.replicate 4 0 }) := by
  simp only [State.go, h, VaultPage.block]

theorem State.go_ends {op : BitVec 3} {slot : Fin 4} {n : Nat} (h : s.goCode pg op slot = some n) :
    s.go pg op slot = s.setPage pg (fun g => { g with done := true, code := BitVec.ofNat 8 n }) := by
  simp only [State.go, h]

section
variable {op : BitVec 3} {slot : Fin 4}

theorem State.goCode_busy (hb : s.vault.pages[pg].busy = true) : s.goCode pg op slot = some 2 := by
  rw [State.goCode, if_pos (.inl hb)]

/-- The page is idle and the operation is one of the three. -/
theorem State.goCode_idle (ho : op = 1 ∨ op = 2 ∨ op = 3) (hb : s.vault.pages[pg].busy = false) : s.goCode pg op slot =
    if s.sec.keyless then some 5
    else if !s.vault.pages[pg].slots[slot].valid then some 1
    else if op = 3 ∧ s.vault.pages[pg].exhausted then some 4
    else if op = 3 ∧ s.vault.pages[pg].spent then some 3
    else none := by
  have hno : ¬(s.vault.pages[pg].busy = true ∨ op = 0 ∨ 3 < op.toNat) := by
    rw [hb]
    rcases ho with rfl | rfl | rfl <;> decide
  rw [State.goCode, if_neg hno]

theorem State.keyless_false (ht : s.sec.tampered = false) (hp : s.sec.pairFail = false) : s.sec.keyless = false := by
  rw [Security.keyless, ht, hp]
  rfl

theorem State.keyless_true (h : s.sec.tampered = true ∨ s.sec.pairFail = true) : s.sec.keyless = true := by
  rw [Security.keyless]
  rcases h with h | h <;> simp [h]

theorem State.goCode_none (ho : op = 1 ∨ op = 2 ∨ op = 3) (hb : s.vault.pages[pg].busy = false) (hk : s.sec.keyless = false)
    (hv : s.vault.pages[pg].slots[slot].valid = true)
    (hn : op = 3 → s.vault.pages[pg].exhausted = false ∧ s.vault.pages[pg].spent = false) : s.goCode pg op slot = none := by
  rw [State.goCode_idle ho hb, if_neg (by rw [hk]; decide), if_neg (by rw [hv]; decide),
    if_neg (fun h => absurd (h.2.symm.trans (hn h.1).1) (by decide)), if_neg (fun h => absurd (h.2.symm.trans (hn h.1).2) (by decide))]

/-- Why an operation ends at once, in the order in which R362 is checked (notes/assumptions/20.md). -/
theorem State.goCode_some (ho : op = 1 ∨ op = 2 ∨ op = 3) {code : Byte}
    (h : (code = 2 ∧ s.vault.pages[pg].busy = true) ∨
      (code = 5 ∧ s.vault.pages[pg].busy = false ∧ (s.sec.tampered = true ∨ s.sec.pairFail = true)) ∨
      (code = 1 ∧ s.vault.pages[pg].busy = false ∧ s.sec.tampered = false ∧ s.sec.pairFail = false ∧
        s.vault.pages[pg].slots[slot].valid = false) ∨
      (s.vault.pages[pg].busy = false ∧ s.sec.tampered = false ∧ s.sec.pairFail = false ∧
        s.vault.pages[pg].slots[slot].valid = true ∧ op = 3 ∧ ((code = 4 ∧ s.vault.pages[pg].exhausted = true) ∨
          (code = 3 ∧ s.vault.pages[pg].exhausted = false ∧ s.vault.pages[pg].spent = true)))) :
    ∃ n, s.goCode pg op slot = some n ∧ BitVec.ofNat 8 n = code := by
  rcases h with ⟨rfl, hb⟩ | ⟨rfl, hb, hk⟩ | ⟨rfl, hb, ht, hp, hv⟩ | ⟨hb, ht, hp, hv, hop, ⟨rfl, hx⟩ | ⟨rfl, hx, hs⟩⟩
  · exact ⟨2, State.goCode_busy hb, rfl⟩
  · exact ⟨5, by rw [State.goCode_idle ho hb, if_pos (State.keyless_true hk)], rfl⟩
  · exact ⟨1, by rw [State.goCode_idle ho hb, if_neg (by rw [State.keyless_false ht hp]; decide), if_pos (by rw [hv]; rfl)], rfl⟩
  · exact ⟨4, by rw [State.goCode_idle ho hb, if_neg (by rw [State.keyless_false ht hp]; decide), if_neg (by rw [hv]; decide), if_pos ⟨hop, hx⟩], rfl⟩
  · exact ⟨3, by rw [State.goCode_idle ho hb, if_neg (by rw [State.keyless_false ht hp]; decide), if_neg (by rw [hv]; decide),
      if_neg (fun h => absurd (h.2.symm.trans hx) (by decide)), if_pos ⟨hop, hs⟩], rfl⟩

end

/-! ### The end of a block (R361, R362) -/

theorem exec_vaultBlockDone (h : s.live = true) : exec (.vaultBlockDone pg) s = .next (s.blockDone pg) := by
  change execVaultBlockDone pg s = _
  rw [execVaultBlockDone, State.whenLive_live h]

/-- The page once its block is done, with the block `b`. -/
def VaultPage.finished (g : VaultPage) (b : BitVec 128) : VaultPage :=
  { g.counted with busy := false, done := true, code := 0, dout := wordsOf b }

theorem State.blockDone_held (hb : s.vault.pages[pg].busy = true)
    (hv : s.vault.pages[pg].slots[s.vault.pages[pg].runSlot].valid = true) :
    s.blockDone pg = s.setPage pg (fun g => g.finished s.vault.pages[pg].result) := by
  simp only [State.blockDone, hb, hv, Bool.not_true, Bool.false_eq_true, if_false, if_true]
  rfl

/-- One opaque value has been drawn. -/
def State.drawn (s : State) : State := { s with free := s.free + 1 }

theorem State.blockDone_gone (hb : s.vault.pages[pg].busy = true)
    (hv : s.vault.pages[pg].slots[s.vault.pages[pg].runSlot].valid = false) :
    s.blockDone pg = s.drawn.setPage pg (fun g => g.finished (BitVec.ofNat 128 (Config.freeNat s.free))) := by
  simp only [State.blockDone, hb, hv, Bool.not_true, Bool.false_eq_true, if_false]
  rfl

theorem VaultPage.counted_nonce (g : VaultPage) : g.counted.nonce = g.nonce ∧ g.counted.slots = g.slots := by
  simp only [VaultPage.counted]
  repeat' split
  all_goals exact ⟨rfl, rfl⟩

theorem VaultPage.counted_other {g : VaultPage} (h : g.run ≠ 3) : g.counted = g := by
  rw [VaultPage.counted, if_pos h]

theorem VaultPage.counted_next {g : VaultPage} (h : g.run = 3) (hc : g.ctr ≠ 0xFFFFFFFF) : g.counted = { g with ctr := g.ctr + 1 } := by
  rw [VaultPage.counted, if_neg (fun hne => hne h), if_neg (show ¬g.ctr = BitVec.allOnes 32 from hc)]

theorem VaultPage.counted_last {g : VaultPage} (h : g.run = 3) (hc : g.ctr = 0xFFFFFFFF) : g.counted = { g with spent := true } := by
  rw [VaultPage.counted, if_neg (fun hne => hne h), if_pos (show g.ctr = BitVec.allOnes 32 from hc)]

/-! ### The nonce (R361) -/

theorem extractLsb'_low_zero (x : BitVec 96) : x.extractLsb' 0 20 = 0 ↔ x.toNat % 2 ^ 20 = 0 := by
  rw [← BitVec.toNat_inj, BitVec.extractLsb'_toNat]
  simp

theorem nonce_succ_low {x : BitVec 96} (h : x ≠ BitVec.allOnes 96) : (x + 1).extractLsb' 0 20 = 0 ↔ (x.toNat + 1) % 2 ^ 20 = 0 := by
  have hlt : x.toNat + 1 < 2 ^ 96 := by
    have hne : x.toNat ≠ 2 ^ 96 - 1 := fun e => h (BitVec.eq_of_toNat_eq (by rw [e, BitVec.toNat_allOnes]))
    have := x.isLt
    omega
  rw [extractLsb'_low_zero, BitVec.toNat_add, show (1 : BitVec 96).toNat = 1 from rfl, Nat.mod_eq_of_lt hlt]

theorem VaultPage.next_wraps {g : VaultPage} (h : g.nonce = BitVec.allOnes 96) : g.next = { g with exhausted := true } := by
  rw [VaultPage.next, if_pos h]

theorem VaultPage.next_advances {g : VaultPage} (h : g.nonce ≠ BitVec.allOnes 96) : g.next =
    { g with nonce := g.nonce + 1, ctr := 0, spent := false
             nonceP := if (g.nonce.toNat + 1) % 2 ^ 20 = 0 then g.nonce + 1 else g.nonceP } := by
  simp only [VaultPage.next, if_neg h, nonce_succ_low h]

/-! ### Key slots (R359) -/

theorem State.keyWord_keyless (h : s.sec.keyless = true) (slot : Fin 4) (w : Fin 8) (v : BitVec 32) :
    s.keyWord pg slot w v = s.setPage pg (fun g => { g with done := true, code := 5 }) := by
  rw [State.keyWord, if_pos h]

theorem State.keyWord_loads (h : s.sec.keyless = false) (slot : Fin 4) (w : Fin 8) (v : BitVec 32) :
    s.keyWord pg slot w v = s.setPage pg (fun g => g.setSlot slot (fun k => k.load w v)) := by
  rw [State.keyWord, if_neg (by simp [h])]

theorem VaultPage.setSlot_get (g : VaultPage) (n : Fin 4) (f : VaultSlot → VaultSlot) : (g.setSlot n f).slots[n] = f g.slots[n] :=
  Tbl.upd_get _ _ _

theorem VaultPage.setSlot_get_ne (g : VaultPage) {n m : Fin 4} (h : m ≠ n) (f : VaultSlot → VaultSlot) :
    (g.setSlot n f).slots[m] = g.slots[m] :=
  Tbl.upd_get_ne _ _ _ _ h

theorem VaultSlot.load_expanding (k : VaultSlot) (w : Fin 8) (v : BitVec 32) :
    (k.load w v).expanding = true ↔ (k.len = 1 ∧ w = 3) ∨ (k.len = 2 ∧ w = 7) := by
  simp only [VaultSlot.load, Bool.or_eq_true, Bool.and_eq_true, beq_iff_eq]
  have h3 : w.val = 3 ↔ w = 3 := ⟨fun e => Fin.ext e, fun e => e ▸ rfl⟩
  have h7 : w.val = 7 ↔ w = 7 := ⟨fun e => Fin.ext e, fun e => e ▸ rfl⟩
  rw [h3, h7]

/-- A slot whose words are complete is expanded. -/
def VaultSlot.expanded (k : VaultSlot) : VaultSlot := if k.expanding then { k with expanding := false, valid := true } else k

theorem exec_keyExpanded (h : s.live = true) (slot : Fin 4) :
    exec (.keyExpanded pg slot) s = .next (s.setPage pg (fun g => g.setSlot slot VaultSlot.expanded)) := by
  change execKeyExpanded pg slot s = _
  rw [execKeyExpanded, State.whenLive_live h]
  rfl

theorem VaultSlot.expanded_words (k : VaultSlot) : k.expanded.words = k.words := by
  rw [VaultSlot.expanded]
  split <;> rfl

/-! ### The claim of page 2 (R363) -/

theorem exec_pageClaim (h : s.live = true) (p : Fin 2) : exec (.pageClaim p) s = .next (s.hostBar4 p 7 true (fun s => s.claim p)) := by
  change execPageClaim p s = _
  rw [execPageClaim, State.whenLive_live h]

theorem exec_pageRelease (h : s.live = true) (p : Fin 2) : exec (.pageRelease p) s = .next (s.hostBar4 p 7 true (fun s => s.unclaim p)) := by
  change execPageRelease p s = _
  rw [execPageRelease, State.whenLive_live h]

theorem exec_pageClaim_shown {p : Fin 2} (h : s.live = true) (hshown : s.BarShows p 7) : exec (.pageClaim p) s = .next (s.claim p) := by
  rw [exec_pageClaim h, State.hostBar4_shown hshown.link hshown.goes hshown.shown]

theorem exec_pageRelease_shown {p : Fin 2} (h : s.live = true) (hshown : s.BarShows p 7) :
    exec (.pageRelease p) s = .next (s.unclaim p) := by
  rw [exec_pageRelease h, State.hostBar4_shown hshown.link hshown.goes hshown.shown]

theorem State.admits_two_dual (hd : s.dual = true) (p : Fin 2) : s.admits 2 (.host p) = decide (s.vault.owner.toNat = p.val + 1) := by
  simp only [State.admits, hd, if_true]
  exact Bool.true_and _

theorem mem_portList_dual (hd : s.dual = true) (p : Fin 2) : s.portList.contains p = true := by
  simp only [State.portList, hd, if_true]
  revert p
  decide

/-- The page has been claimed for a port. -/
def State.claimed (s : State) (p : Fin 2) : State := { s with vault := { s.vault with owner := BitVec.ofNat 2 (p.val + 1) } }

theorem State.claim_free {p : Fin 2} (hd : s.dual = true) (ho : s.vault.owner = 0) : s.claim p = s.claimed p := by
  rw [State.claim, if_pos ⟨ho, mem_portList_dual hd p⟩]
  rfl

theorem claimed_owner : ∀ p : Fin 2, (BitVec.ofNat 2 (p.val + 1)).toNat = p.val + 1 := by decide

theorem State.claim_taken {p : Fin 2} (hd : s.dual = true) (ho : s.vault.owner ≠ 0) (hp : s.vault.owner.toNat ≠ p.val + 1) :
    s.claim p = s.refuse 2 (.host p) := by
  rw [State.claim, if_neg (fun h => ho h.1), State.admits_two_dual hd, if_neg (by simp [hp])]

theorem State.unclaim_taken {p : Fin 2} (hd : s.dual = true) (hp : s.vault.owner.toNat ≠ p.val + 1) :
    s.unclaim p = s.refuse 2 (.host p) := by
  rw [State.unclaim, if_neg hp, State.admits_two_dual hd, if_neg (by simp [hp])]

theorem State.unclaim_own {p : Fin 2} (hp : s.vault.owner.toNat = p.val + 1) : s.unclaim p = s.endClaim := by
  rw [State.unclaim, if_pos hp]

end

/-- Settles O46: every access goes through `State.onPage_checked`; an operation starts or ends by `State.goCode_none` and
`State.goCode_some`. -/
theorem vaultPages : Obligations.VaultPages := by
  unfold Obligations.VaultPages
  refine ⟨?refused, ?go, ?done, ?idle, ?admitted, ?expanded, ?unmapped, ?claim⟩
  case refused =>
    intro i pg ini s h hshown hadm hi
    obtain ⟨f, e⟩ := exec_onPage h hi
    refine ⟨_, exec_onPage_refused e hshown hadm, State.refuse_page s pg ini, fun q hq => State.refuse_page_ne s hq ini,
      State.refuse_evr s pg ini, ?_, State.refuse_changes s pg ini⟩
    cases ini <;> rfl
  case go =>
    intro op i pg ini slot s h hshown hadm hi
    have hop : op = 1 ∨ op = 2 ∨ op = 3 := by tauto
    have hexec := exec_go h hshown hadm hi
    refine ⟨fun hb ht hp hv hn => ?_, fun code hcode => ?_⟩
    · rw [hexec, State.go_starts (State.goCode_none hop hb (State.keyless_false ht hp) hv hn)]
    · obtain ⟨n, hn, hc⟩ := State.goCode_some hop hcode
      rw [hexec, State.go_ends hn, hc]
  case done =>
    intro pg g s h hg hb
    subst hg
    have finished : ∀ (u : State) (b : BitVec 128) (t : State), u.vault = s.vault →
        t = u.setPage pg (fun g => g.finished b) → t.vault.pages[pg] = s.vault.pages[pg].finished b := by
      rintro u b t hu rfl
      rw [State.setPage_get, hu]
    have others : ∀ (u : State) (b : BitVec 128) (q : Fin 16), u.vault = s.vault → q ≠ pg →
        (u.setPage pg (fun g => g.finished b)).vault.pages[q] = s.vault.pages[q] := by
      intro u b q hu hq
      rw [State.setPage_get_ne _ hq, hu]
    obtain ⟨hnonce, hslots⟩ := VaultPage.counted_nonce s.vault.pages[pg]
    have counts : ∀ b, (s.vault.pages[pg].run ≠ 3 → (s.vault.pages[pg].finished b).ctr = s.vault.pages[pg].ctr) ∧
        (s.vault.pages[pg].run = 3 → s.vault.pages[pg].ctr ≠ 0xFFFFFFFF →
          (s.vault.pages[pg].finished b).ctr = s.vault.pages[pg].ctr + 1 ∧
          (s.vault.pages[pg].finished b).spent = s.vault.pages[pg].spent) ∧
        (s.vault.pages[pg].run = 3 → s.vault.pages[pg].ctr = 0xFFFFFFFF →
          (s.vault.pages[pg].finished b).ctr = 0xFFFFFFFF ∧ (s.vault.pages[pg].finished b).spent = true) := by
      intro b
      refine ⟨fun hr => ?_, fun hr hc => ?_, fun hr hc => ?_⟩
      · rw [VaultPage.finished, VaultPage.counted_other hr]
      · rw [VaultPage.finished, VaultPage.counted_next hr hc]
        exact ⟨rfl, rfl⟩
      · rw [VaultPage.finished, VaultPage.counted_last hr hc]
        exact ⟨hc, rfl⟩
    have hexec := exec_vaultBlockDone (pg := pg) h
    have hframe := changes_touches_of_exec hexec
    cases hv : s.vault.pages[pg].slots[s.vault.pages[pg].runSlot].valid with
    | true =>
      rw [State.blockDone_held hb hv] at hexec hframe
      have hpage := finished s s.vault.pages[pg].result _ rfl rfl
      obtain ⟨c1, c2, c3⟩ := counts s.vault.pages[pg].result
      refine ⟨_, hexec, by rw [hpage]; rfl, by rw [hpage]; rfl, by rw [hpage]; rfl, by rw [hpage]; exact hnonce, by rw [hpage]; exact hslots,
        fun _ => ⟨rfl, by rw [hpage]; rfl⟩, nofun, ?_, ?_, ?_, fun q hq => others _ _ q rfl hq, hframe⟩
      · rw [hpage]; exact c1
      · rw [hpage]; exact c2
      · rw [hpage]; exact c3
    | false =>
      rw [State.blockDone_gone hb hv] at hexec hframe
      have hpage := finished s.drawn (BitVec.ofNat 128 (Config.freeNat s.free)) _ rfl rfl
      obtain ⟨c1, c2, c3⟩ := counts (BitVec.ofNat 128 (Config.freeNat s.free))
      refine ⟨_, hexec, by rw [hpage]; rfl, by rw [hpage]; rfl, by rw [hpage]; rfl, by rw [hpage]; exact hnonce, by rw [hpage]; exact hslots,
        nofun, fun _ => rfl, ?_, ?_, ?_, fun q hq => others _ _ q rfl hq, hframe⟩
      · rw [hpage]; exact c1
      · rw [hpage]; exact c2
      · rw [hpage]; exact c3
  case idle =>
    intro pg s h hb
    rw [exec_vaultBlockDone h]
    simp only [State.blockDone, hb, Bool.not_false, if_true]
  case admitted =>
    intro pg ini s h hshown hadm
    refine ⟨?_, fun slot w v => ⟨fun ht => ?_, fun ht hp => ?_, ?_⟩⟩
    · refine ⟨_, exec_onPage_admitted (exec_nonceNext h) hshown hadm, State.setPage_changes s pg _,
        fun q hq => State.setPage_get_ne s hq _, fun hn => ?_, fun hn => ?_⟩
      · rw [State.setPage_get, VaultPage.next_wraps hn]
      · rw [State.setPage_get, VaultPage.next_advances hn]
        exact ⟨rfl, rfl, rfl, rfl, rfl⟩
    · rw [exec_onPage_admitted (exec_keyWordWrite h slot w v) hshown hadm, State.keyWord_keyless (State.keyless_true (.inl ht))]
    · have hexec := exec_onPage_admitted (exec_keyWordWrite h slot w v) hshown hadm
      rw [State.keyWord_loads (State.keyless_false ht hp)] at hexec
      have hslot : (s.setPage pg (fun g => g.setSlot slot (fun k => k.load w v))).vault.pages[pg].slots[slot] =
          s.vault.pages[pg].slots[slot].load w v := by rw [State.setPage_get, VaultPage.setSlot_get]
      refine ⟨_, hexec, ?_, by rw [hslot]; rfl, fun x hx => ?_, by rw [hslot]; exact VaultSlot.load_expanding _ w v, fun n hn => ?_,
        State.setPage_changes s pg _⟩
      · rw [hslot]
        exact Tbl.upd_get _ _ _
      · rw [hslot]
        exact Tbl.upd_get_ne _ _ _ _ hx
      · rw [State.setPage_get, VaultPage.setSlot_get_ne _ hn]
    · refine ⟨_, exec_onPage_admitted (exec_keySlotClear h slot) hshown hadm, ?_, ?_, fun n hn => ?_, State.setPage_changes s pg _⟩
      · rw [State.setPage_get, VaultPage.setSlot_get]
      · rw [State.setPage_get, VaultPage.setSlot_get]
      · rw [State.setPage_get, VaultPage.setSlot_get_ne _ hn]
  case expanded =>
    intro pg slot s h
    have hslot : (s.setPage pg (fun g => g.setSlot slot VaultSlot.expanded)).vault.pages[pg].slots[slot] =
        s.vault.pages[pg].slots[slot].expanded := by rw [State.setPage_get, VaultPage.setSlot_get]
    refine ⟨_, exec_keyExpanded h slot, State.setPage_changes s pg _, fun he => ?_, fun he => ?_, ?_⟩
    · rw [hslot, VaultSlot.expanded, if_pos he]
    · rw [hslot, VaultSlot.expanded, if_neg (by rw [he]; decide)]
    · rw [hslot, VaultSlot.expanded_words]
  case unmapped =>
    intro i pg p slot s h hlink hgoes hhidden hi
    have hexec : exec i s = .next (s.unmapped p 4 2097152 true) := by
      rcases hi with rfl | rfl | rfl | rfl | rfl | rfl | rfl
      · rw [exec_vaultEncrypt h, State.onPage_hidden hlink hgoes hhidden]
      · rw [exec_vaultDecrypt h, State.onPage_hidden hlink hgoes hhidden]
      · rw [exec_vaultKeystream h, State.onPage_hidden hlink hgoes hhidden]
      · rw [exec_keySlotClear h, State.onPage_hidden hlink hgoes hhidden]
      · rw [exec_nonceNext h, State.onPage_hidden hlink hgoes hhidden]
      · rw [exec_pageClaim h, State.hostBar4_hidden hlink hgoes hhidden]
      · rw [exec_pageRelease h, State.hostBar4_hidden hlink hgoes hhidden]
    exact ⟨_, hexec, State.unmapped_out s p 4 2097152 true, State.unmapped_write_evr s p 4 2097152, State.unmapped_changes s p 4 2097152 true⟩
  case claim =>
    intro p s h hshown hd
    refine ⟨fun ho => ?_, fun ho hp => ⟨?_, ?_⟩, fun hp => ?_⟩
    · have hexec := exec_pageClaim_shown h hshown
      rw [State.claim_free hd ho] at hexec
      refine ⟨_, hexec, claimed_owner p, rfl, ?_, Changes.vault_with _ rfl (Changes.refl _ s)⟩
      rw [State.admits_two_dual (s := s.claimed p) hd]
      exact decide_eq_true (claimed_owner p)
    · exact ⟨_, (exec_pageClaim_shown h hshown).trans (congrArg _ (State.claim_taken hd ho hp)), rfl, rfl⟩
    · exact ⟨_, (exec_pageRelease_shown h hshown).trans (congrArg _ (State.unclaim_taken hd hp)), rfl, rfl⟩
    · refine ⟨_, (exec_pageRelease_shown h hshown).trans (congrArg _ (State.unclaim_own hp)), rfl, ?_, fun q hq => ?_,
        State.endClaim_changes s⟩
      · exact Tbl.upd_get _ _ _
      · exact Tbl.upd_get_ne _ _ _ _ hq

end Sys2Proof.Machine
end

section
/-! The statement of chapter 11 about the SPDM responder (R379 to R382) and link IDE keys (R297, R298). -/

namespace Sys2Proof.Machine

open Sys2Proof

section
variable {s : State} {v : SpdmVia}

/-! ### Who is answered -/

theorem State.whenKeyed_keyed (h : s.live = true) (hk : s.sec.keyless = false) (f : State → State) : s.whenKeyed f = f s := by
  rw [State.whenKeyed, State.whenLive_live h, if_neg (by simp [hk])]

theorem State.whenKeyed_keyless (h : s.live = true) (hk : s.sec.keyless = true) (f : State → State) : s.whenKeyed f = s := by
  rw [State.whenKeyed, State.whenLive_live h, if_pos hk]

theorem State.negotiated_done (h : s.live = true) (hk : s.sec.keyless = false) (hv : v ∈ s.sec.algosDone) (f : State → State) :
    s.negotiated v f = f s := by
  rw [State.negotiated, State.whenKeyed_keyed h hk, if_pos (List.contains_iff_mem.mpr hv)]

/-- A request before the algorithms are negotiated is unexpected. -/
theorem State.negotiated_missing (h : s.live = true) (hk : s.sec.keyless = false) (hv : v ∉ s.sec.algosDone) (f : State → State) :
    s.negotiated v f = s.spdmError v 4 := by
  rw [State.negotiated, State.whenKeyed_keyed h hk, if_neg (fun hc => hv (List.contains_iff_mem.mp hc))]

/-- The context register follows the key manager of a session (R357). -/
def State.inContext (s : State) (id : Nat) : State := { s with vault := { s.vault with context := Config.keyManagerPage id } }

section
variable {id : Nat} {x : SpdmSession}

theorem State.inSession_open (h : s.live = true) (hk : s.sec.keyless = false) (hx : s.sec.session v id = some x)
    (he : x.established = true) (f : State → State) : s.inSession v id f = f (s.inContext id) := by
  rw [State.inSession, State.whenKeyed_keyed h hk, hx]
  simp only [he, if_true]
  rfl

theorem State.inSession_early (h : s.live = true) (hk : s.sec.keyless = false) (hx : s.sec.session v id = some x)
    (he : x.established = false) (f : State → State) : s.inSession v id f = s.spdmError v 4 := by
  rw [State.inSession, State.whenKeyed_keyed h hk, hx]
  simp only [he, Bool.false_eq_true, if_false]

theorem State.inSession_unknown (h : s.live = true) (hk : s.sec.keyless = false) (hx : s.sec.session v id = none)
    (f : State → State) : s.inSession v id f = s.spdmError v 2 := by
  rw [State.inSession, State.whenKeyed_keyed h hk, hx]

end

theorem State.spdmError_eq (v : SpdmVia) (e : Byte) : s.spdmError v e.toNat = { s with out := s.out ++ [Output.spdm v 0x7F false [e]] } := by
  have hbytes : leBytes 1 e.toNat = [e] := by simp [leBytes]
  rw [State.spdmError, hbytes]
  rfl

/-! ### Requests that need no session -/

/-- The requests that need the negotiated algorithms. -/
def negotiatedReq (v : SpdmVia) (i : Instr) : Prop :=
  i = .spdmGetDigests v ∨ i = .spdmGetCsr v ∨ ∃ k, i = .spdmGetCertificate v k ∨ i = .spdmKeyExchange v k ∨
    (∃ n, i = .spdmChallenge v k n) ∨ (∃ b n, i = .spdmGetMeasurements v k b n) ∨ ∃ c, i = .spdmSetCertificate v k c

theorem exec_negotiatedReq {i : Instr} (hi : negotiatedReq v i) : ∃ f, ∀ s, exec i s = .next (s.negotiated v f) := by
  rcases hi with rfl | rfl | ⟨k, rfl | rfl | ⟨n, rfl⟩ | ⟨b, n, rfl⟩ | ⟨c, rfl⟩⟩
  · exact ⟨_, fun _ => rfl⟩
  · exact ⟨_, fun _ => rfl⟩
  · exact ⟨_, fun _ => rfl⟩
  · exact ⟨_, fun _ => rfl⟩
  · exact ⟨_, fun _ => rfl⟩
  · exact ⟨_, fun _ => rfl⟩
  · exact ⟨_, fun _ => rfl⟩

theorem exec_negotiatedReq_missing {i : Instr} (h : s.live = true) (hk : s.sec.keyless = false) (hv : v ∉ s.sec.algosDone)
    (hi : negotiatedReq v i) : exec i s = .next { s with out := s.out ++ [Output.spdm v 0x7F false [4]] } := by
  obtain ⟨f, e⟩ := exec_negotiatedReq hi
  rw [e, State.negotiated_missing h hk hv]
  exact congrArg _ (State.spdmError_eq v 4)

/-- The requests within a session that need it established. -/
def sessionReq (v : SpdmVia) (id : Nat) (i : Instr) : Prop :=
  i = .spdmHeartbeat v id ∨ i = .spdmKeyUpdate v id ∨ i = .spdmEndSession v id

theorem exec_sessionReq {id : Nat} {i : Instr} (hi : sessionReq v id i) : ∃ f, ∀ s, exec i s = .next (s.inSession v id f) := by
  rcases hi with rfl | rfl | rfl
  · exact ⟨_, fun _ => rfl⟩
  · exact ⟨_, fun _ => rfl⟩
  · exact ⟨_, fun _ => rfl⟩

/-- Without keys nothing but the version and the capabilities is answered (R366). -/
theorem exec_spdm_keyless (h : s.live = true) (hk : s.sec.keyless = true) {i : Instr}
    (hi : i = .spdmNegotiateAlgorithms v ∨ negotiatedReq v i ∨ (∃ k, i = .spdmFinish v k) ∨ ∃ k, sessionReq v k i) :
    exec i s = .next s := by
  rcases hi with rfl | hi | ⟨k, rfl⟩ | ⟨k, hi⟩
  · exact congrArg Host.Outcome.next (State.whenKeyed_keyless h hk _)
  · obtain ⟨f, e⟩ := exec_negotiatedReq hi
    rw [e]
    exact congrArg Host.Outcome.next (State.whenKeyed_keyless h hk _)
  · exact congrArg Host.Outcome.next (State.whenKeyed_keyless h hk _)
  · obtain ⟨f, e⟩ := exec_sessionReq hi
    rw [e]
    exact congrArg Host.Outcome.next (State.whenKeyed_keyless h hk _)

/-- A new negotiation begins. -/
def State.versionAsked (s : State) (v : SpdmVia) : State :=
  { s with sec := { s.sec with algosDone := s.sec.algosDone.filter (· ≠ v) } }

theorem exec_spdmGetVersion (h : s.live = true) (v : SpdmVia) :
    exec (.spdmGetVersion v) s = .next ((s.versionAsked v).spdm v 0x04 [0x13]) :=
  congrArg Host.Outcome.next (State.whenLive_live h _)

theorem exec_spdmGetCapabilities (h : s.live = true) (v : SpdmVia) :
    exec (.spdmGetCapabilities v) s = .next (s.spdm v 0x61 (14 :: Config.standardReply 0x61 0)) :=
  congrArg Host.Outcome.next (State.whenLive_live h _)

/-- The algorithms have been negotiated. -/
def State.algosAgreed (s : State) (v : SpdmVia) : State :=
  { s with sec := { s.sec with algosDone := v :: s.sec.algosDone.filter (· ≠ v) } }

theorem exec_spdmNegotiateAlgorithms (h : s.live = true) (hk : s.sec.keyless = false) :
    exec (.spdmNegotiateAlgorithms v) s = .next ((s.algosAgreed v).spdm v 0x63 (Config.standardReply 0x63 0)) :=
  congrArg Host.Outcome.next (State.whenKeyed_keyed h hk _)

theorem State.spdm_frame (code : Nat) (bytes : List Byte) : Changes [.out] s (s.spdm v code bytes) := State.spdm_changes s v code bytes

/-- A change to the security state and an answer. -/
theorem State.spdm_sec_frame {t : State} (ht : Changes [.sec] s t) (code : Nat) (bytes : List Byte) :
    Changes [.sec, .out] s (t.spdm v code bytes) :=
  (State.spdm_changes t v code bytes).step rfl (ht.mono rfl)

end

section
variable {s : State} {v : SpdmVia} (h : s.live = true) (hk : s.sec.keyless = false) (hv : v ∈ s.sec.algosDone)
include h hk hv

/-- The answer to a request of a requester that has negotiated. -/
theorem exec_negotiated {i : Instr} {f : State → State} (e : exec i s = .next (s.negotiated v f)) : exec i s = .next (f s) := by
  rw [e, State.negotiated_done h hk hv]

theorem exec_spdmGetDigests : exec (.spdmGetDigests v) s = .next (s.spdm v 0x01
    (Config.sha384 (Config.certChain 0) ++
      Config.sha384 (Config.certChain 0 ++ Config.standardReply 0x5102 (ofLeBytes s.akIdNow)) ++
      (if s.sec.slot2 = [] then [] else Config.sha384 s.sec.slot2))) := by
  rw [exec_negotiated h hk hv (i := .spdmGetDigests v) rfl]
  by_cases h2 : s.sec.slot2 = []
  · simp [State.chain, h2]
  · simp [State.chain, h2]

theorem exec_spdmGetCertificate (slot : Nat) : exec (.spdmGetCertificate v slot) s = .next (match s.chain slot with
    | some c => s.spdm v 0x02 c
    | none => s.spdmError v 1) := by
  rw [exec_negotiated h hk hv (i := .spdmGetCertificate v slot) rfl] <;> rfl

theorem exec_spdmChallenge {slot : Nat} {c : List Byte} (hc : s.chain slot = some c) (nonce : BitVec 256) :
    exec (.spdmChallenge v slot nonce) s =
      .next (s.spdmSigned v 0x03 slot (Config.sha384 c ++ leBytes 32 nonce.toNat ++ s.measAll)) := by
  rw [exec_negotiated h hk hv (i := .spdmChallenge v slot nonce) rfl, hc]

theorem exec_spdmGetMeasurements {index : Nat} {b : List Byte} (hb : s.measBlocks index = some b) (signed : Bool) (nonce : BitVec 256) :
    exec (.spdmGetMeasurements v index signed nonce) s =
      .next (if signed then s.spdmSigned v 0x60 1 (b ++ leBytes 32 nonce.toNat) else s.spdm v 0x60 b) := by
  rw [exec_negotiated h hk hv (i := .spdmGetMeasurements v index signed nonce) rfl, hb]

theorem exec_spdmGetCsr : exec (.spdmGetCsr v) s =
    .next (s.spdmSigned v 0x6D 2 (Config.standardReply 0x6D (ofLeBytes s.akIdNow))) := by
  rw [exec_negotiated h hk hv (i := .spdmGetCsr v) rfl]

/-- Slot 2 has taken the chain that the owner authorised. -/
def State.slot2Set (s : State) (chain : List Byte) : State := { s with sec := { s.sec with slot2 := chain, slot2Hash := none } }

theorem exec_spdmSetCertificate {hash : List Byte} {at0 : Nat} (hs : s.sec.slot2Hash = some (hash, at0)) (chain : List Byte) :
    exec (.spdmSetCertificate v 2 chain) s =
      .next (if s.tb.count.toNat ≤ at0 + 6000000000 ∧ Config.sha384 chain = hash then (s.slot2Set chain).spdm v 0x6E []
        else s.spdmError v 1) := by
  rw [exec_negotiated h hk hv (i := .spdmSetCertificate v 2 chain) rfl, hs]
  simp only [true_and]
  rfl

/-- A session has begun. -/
def State.sessionBegun (s : State) (v : SpdmVia) : State :=
  { s with sec := { s.sec with
      nextSession := s.sec.nextSession + 1, sessions := s.sec.sessions ++ [{ via := v, id := s.sec.nextSession }] } }

theorem exec_spdmKeyExchange {slot : Nat} {c : List Byte} (hc : s.chain slot = some c) : exec (.spdmKeyExchange v slot) s =
    .next (if sessionLimit v ≤ (s.sec.sessions.filter (fun x => x.via = v)).length then s.spdmError v 0x0A
      else (s.sessionBegun v).spdmSigned v 0x64 slot (leBytes 4 s.sec.nextSession ++ Config.sha384 c)) := by
  rw [exec_negotiated h hk hv (i := .spdmKeyExchange v slot) rfl, hc]
  rfl

end

theorem sessionLimit_eq (v : SpdmVia) : sessionLimit v = if v = .mctp then 4 else 2 := by
  cases v <;> rfl

/-! ### Sessions -/

section
variable {s : State} {v : SpdmVia} {x : SpdmSession}

theorem Security.session_spec {k : Security} {id : Nat} (hx : k.session v id = some x) : x.via = v ∧ x.id = id := by
  have := List.find?_some hx
  simpa using this

/-- The session under `v` and `id` changes; its identity does not. -/
theorem session_setSession {id : Nat} (hx : s.sec.session v id = some x) (f : SpdmSession → SpdmSession)
    (hf : ∀ y, (f y).via = y.via ∧ (f y).id = y.id) : (s.setSession v id f).sec.session v id = some (f x) := by
  simp only [Security.session] at hx
  have hsame : ((fun y : SpdmSession => decide (y.via = v) && decide (y.id = id)) ∘ fun y => if y.via = v ∧ y.id = id then f y else y) =
      fun y => decide (y.via = v) && decide (y.id = id) := by
    funext y
    simp only [Function.comp_apply]
    split
    · rw [(hf y).1, (hf y).2]
    · rfl
  simp only [Security.session, State.setSession, List.find?_map, hsame, hx, Option.map_some, if_pos (Security.session_spec hx)]

theorem session_ended (k : Security) (v : SpdmVia) (id : Nat) :
    ({ k with sessions := k.sessions.filter (fun x => !(decide (x.via = v) && decide (x.id = id))) } : Security).session v id = none := by
  simp only [Security.session, List.find?_eq_none, List.mem_filter]
  rintro y ⟨-, hy⟩ hyes
  rw [hyes] at hy
  exact absurd hy (by decide)

theorem exec_spdmFinish (h : s.live = true) (hk : s.sec.keyless = false) (id : Nat) : exec (.spdmFinish v id) s =
    .next (match s.sec.session v id with
      | some x => if x.established then s.spdmError v 4
        else (s.setSession v id (fun x => { x with established := true })).spdm v 0x65 []
      | none => s.spdmError v 2) := by
  refine (congrArg Host.Outcome.next (State.whenKeyed_keyed h hk _)).trans ?_
  rfl

theorem exec_spdmHeartbeat (h : s.live = true) (hk : s.sec.keyless = false) (hx : s.sec.session v x.id = some x)
    (he : x.established = true) : exec (.spdmHeartbeat v x.id) s = .next ((s.inContext x.id).spdm v 0x68 []) :=
  congrArg Host.Outcome.next (State.inSession_open h hk hx he _)

theorem exec_spdmKeyUpdate (h : s.live = true) (hk : s.sec.keyless = false) (hx : s.sec.session v x.id = some x)
    (he : x.established = true) : exec (.spdmKeyUpdate v x.id) s =
      .next (((s.inContext x.id).setSession v x.id (fun x => { x with keyGen := x.keyGen + 1 })).spdm v 0x69 []) :=
  congrArg Host.Outcome.next (State.inSession_open h hk hx he _)

/-- A session has ended. -/
def State.sessionEnded (s : State) (v : SpdmVia) (id : Nat) : State :=
  { s with sec := { s.sec with sessions := s.sec.sessions.filter (fun x => !(decide (x.via = v) && decide (x.id = id))) } }

theorem exec_spdmEndSession (h : s.live = true) (hk : s.sec.keyless = false) (hx : s.sec.session v x.id = some x)
    (he : x.established = true) : exec (.spdmEndSession v x.id) s =
      .next (((s.inContext x.id).sessionEnded v x.id).spdm v 0x6C []) :=
  congrArg Host.Outcome.next (State.inSession_open h hk hx he _)

theorem exec_ideKmKeyProg {p : Fin 2} (h : s.live = true) (hk : s.sec.keyless = false) (hx : s.sec.session (.doe p) x.id = some x)
    (he : x.established = true) (keySet : Fin 2) (key : BitVec 256) :
    exec (.ideKmKeyProg p x.id keySet key) s = .next ((s.inContext x.id).ideKey p keySet key) :=
  congrArg Host.Outcome.next (State.inSession_open h hk hx he _)

end

/-! ### Completions that IDE kept back are posted (R298) -/

/-- A port but for the fates of its contained commands. -/
def PcPort.line (q : PcPort) : PcPort := { q with cnt := { q.cnt with fates := [] } }

/-- A completion changes a port only where it is held as a fate (R302). -/
theorem State.post_ports (s : State) (p : Fin 2) (fseq sqid cid : Nat) (st : Status) (dw0 : Nat) :
    (s.post p fseq sqid cid st dw0).ports = s.ports ∨
      ∃ f : PcPort → PcPort, (s.post p fseq sqid cid st dw0).ports = s.ports.upd p f ∧ ∀ q, (f q).line = q.line := by
  unfold State.post
  dsimp only
  split
  · exact .inr ⟨_, State.setPort_ports s p _, fun _ => rfl⟩
  · refine .inl ?_
    repeat' split
    all_goals rfl

theorem State.post_line (s : State) (p q : Fin 2) (fseq sqid cid : Nat) (st : Status) (dw0 : Nat) :
    (s.post p fseq sqid cid st dw0).ports[q].line = s.ports[q].line := by
  rcases State.post_ports s p fseq sqid cid st dw0 with h | ⟨f, h, hf⟩
  · rw [h]
  · rw [h]
    by_cases hq : q = p
    · rw [hq, Tbl.upd_get, hf]
    · rw [Tbl.upd_get_ne _ _ _ _ hq]

theorem State.post_ports_ne (s : State) {p q : Fin 2} (hq : q ≠ p) (fseq sqid cid : Nat) (st : Status) (dw0 : Nat) :
    (s.post p fseq sqid cid st dw0).ports[q] = s.ports[q] := by
  rcases State.post_ports s p fseq sqid cid st dw0 with h | ⟨f, h, -⟩
  · rw [h]
  · rw [h, Tbl.upd_get_ne _ _ _ _ hq]

theorem State.post_rdy (s : State) (p q : Fin 2) (fseq sqid cid : Nat) (st : Status) (dw0 : Nat) :
    ((s.post p fseq sqid cid st dw0).ctrl q).rdy = (s.ctrl q).rdy := by
  simp only [State.post]
  split
  · rfl
  split
  · rfl
  split
  · rfl
  split
  · exact State.setCtrl_keeps Ctrl.rdy s p q _ (fun _ => rfl)
  · exact State.setCtrl_keeps Ctrl.rdy s p q _ (fun _ => rfl)

/-- What the posting of held completions of port `p` leaves: every port but for fates, the other ports wholly, and CSTS.RDY. -/
structure State.KeptByPosts (s t : State) (p : Fin 2) : Prop where
  line : ∀ q : Fin 2, t.ports[q].line = s.ports[q].line
  other : ∀ q : Fin 2, q ≠ p → t.ports[q] = s.ports[q]
  rdy : ∀ q : Fin 2, (t.ctrl q).rdy = (s.ctrl q).rdy

theorem State.KeptByPosts.foldl {α : Type} {s : State} {p : Fin 2} (l : List α) (f : State → α → State)
    (hf : ∀ t a, s.KeptByPosts t p → s.KeptByPosts (f t a) p) (t : State) (ht : s.KeptByPosts t p) : s.KeptByPosts (l.foldl f t) p := by
  induction l generalizing t with
  | nil => exact ht
  | cons a l ih => exact ih _ (hf t a ht)

theorem State.KeptByPosts.post {s t : State} {p : Fin 2} (h : s.KeptByPosts t p) (fseq sqid cid : Nat) (st : Status) (dw0 : Nat) :
    s.KeptByPosts (t.post p fseq sqid cid st dw0) p :=
  ⟨fun q => (State.post_line t p q _ _ _ _ _).trans (h.line q), fun q hq => (State.post_ports_ne t hq _ _ _ _ _).trans (h.other q hq),
    fun q => (State.post_rdy t p q _ _ _ _ _).trans (h.rdy q)⟩

theorem State.KeptByPosts.setCqs {s t : State} {p : Fin 2} (h : s.KeptByPosts t p) (n : Nat) (x : Cq) :
    s.KeptByPosts (t.setCtrl p (fun c => { c with cqs := c.cqs.put n x })) p := by
  refine ⟨h.line, h.other, fun q => ?_⟩
  rw [← h.rdy q]
  exact State.setCtrl_keeps Ctrl.rdy t p q _ (fun _ => rfl)

theorem State.postHeld_keeps (s : State) (p : Fin 2) : s.KeptByPosts (s.postHeld p) p := by
  rw [State.postHeld]
  refine State.KeptByPosts.foldl _ _ (fun t e ht => ?_) s ⟨fun _ => rfl, fun _ _ => rfl, fun _ => rfl⟩
  split
  · exact State.KeptByPosts.foldl _ _ (fun u x hu => hu.post _ _ _ _ _) _ (ht.setCqs _ _)
  · exact ht

/-! ### A key set is programmed (R297) -/

section
variable {s : State} {p : Fin 2}

/-- The port's stream is Secure with a key set programmed. -/
def State.keyed (s : State) (p keySet : Fin 2) (key : BitVec 256) : State :=
  s.setPort p (fun q => { q with ideKeys := q.ideKeys.upd keySet (fun _ => some key), ide := .secure })

theorem State.ideKey_eq (keySet : Fin 2) (key : BitVec 256) : s.ideKey p keySet key =
    ((((s.keyed p keySet key).spdm (.doe p) 0x7E (leBytes 1 keySet.val)).tryReady p).postHeld p) := rfl

/-- The key set is programmed and announced. -/
def State.keyAnswered (s : State) (p keySet : Fin 2) (key : BitVec 256) : State :=
  (s.keyed p keySet key).spdm (.doe p) 0x7E (leBytes 1 keySet.val)

theorem State.keyAnswered_port (keySet : Fin 2) (key : BitVec 256) : (s.keyAnswered p keySet key).ports[p] =
    { s.ports[p] with ideKeys := s.ports[p].ideKeys.upd keySet (fun _ => some key), ide := .secure } :=
  Tbl.upd_get _ _ _

theorem State.keyAnswered_mayWrite (keySet : Fin 2) (key : BitVec 256) : (s.keyAnswered p keySet key).mayWrite p = true := by
  rw [State.mayWrite, State.keyAnswered_port]
  exact Bool.or_true _

theorem State.tryReady_ports (s : State) (p : Fin 2) : (s.tryReady p).ports = s.ports :=
  (State.tryReady_changes s p).rest .ports (by decide)

/-- CSTS.RDY comes up once IDE allows the port, where nothing else keeps it down (R246, R298). -/
theorem State.tryReady_rdy (hw : s.mayWrite p = true) : ((s.tryReady p).ctrl p).rdy = true ↔
    (s.ctrl p).rdy = true ∨ (s.phase = .running ∧ (s.ctrl p).en = true ∧ ∀ e ∈ s.cmq.cmds, e.2.port = p → e.2.silent = false) := by
  have hany : (!s.cmq.cmds.any (fun e => decide (e.2.port = p) && e.2.silent)) = true ↔
      ∀ e ∈ s.cmq.cmds, e.2.port = p → e.2.silent = false := by
    simp only [Bool.not_eq_true', List.any_eq_false, Bool.and_eq_true, decide_eq_true_eq, not_and, Bool.not_eq_true]
  rw [State.tryReady]
  split
  case isTrue hup =>
    obtain ⟨hphase, hen, -, hsilent⟩ := hup
    rw [State.setCtrl_ctrl]
    exact ⟨fun _ => .inr ⟨hphase, hen, hany.mp hsilent⟩, fun _ => rfl⟩
  case isFalse hdown =>
    exact ⟨.inl, fun hr => hr.resolve_right (fun ⟨hphase, hen, hsilent⟩ => hdown ⟨hphase, hen, hw, hany.mpr hsilent⟩)⟩

theorem State.ideKey_rdy (keySet : Fin 2) (key : BitVec 256) : ((s.ideKey p keySet key).ctrl p).rdy = true ↔
    (s.ctrl p).rdy = true ∨ (s.phase = .running ∧ (s.ctrl p).en = true ∧ ∀ e ∈ s.cmq.cmds, e.2.port = p → e.2.silent = false) := by
  rw [State.ideKey_eq, (State.postHeld_keeps _ p).rdy p]
  exact State.tryReady_rdy (State.keyAnswered_mayWrite keySet key)

theorem State.ideKey_line (keySet : Fin 2) (key : BitVec 256) : (s.ideKey p keySet key).ports[p].line =
    { s.ports[p] with ideKeys := s.ports[p].ideKeys.upd keySet (fun _ => some key), ide := .secure }.line := by
  rw [State.ideKey_eq, (State.postHeld_keeps _ p).line p, State.tryReady_ports]
  exact congrArg PcPort.line (State.keyAnswered_port keySet key)

theorem State.ideKey_ports_ne {q : Fin 2} (hq : q ≠ p) (keySet : Fin 2) (key : BitVec 256) :
    (s.ideKey p keySet key).ports[q] = s.ports[q] := by
  rw [State.ideKey_eq, (State.postHeld_keeps _ p).other q hq, State.tryReady_ports]
  exact Tbl.upd_get_ne _ _ _ _ hq

end

theorem one_sub_ne : ∀ k : Fin 2, 1 - k ≠ k := by decide

/-- Settles O47: what is answered is decided by `State.whenKeyed`, `State.negotiated` and `State.inSession`. -/
theorem spdmResponder : Obligations.SpdmResponder := by
  unfold Obligations.SpdmResponder
  refine ⟨?open_, ?negotiated, ?session, ?unknown⟩
  case open_ =>
    intro v s h
    refine ⟨?_, ?_, fun hk i hi => ?_, fun hk => ?_, fun hk hv i hi => ?_⟩
    · exact ⟨_, exec_spdmGetVersion h v, rfl, by simp [State.versionAsked, State.spdm],
        State.spdm_sec_frame (Changes.sec_with _ rfl (Changes.refl _ s)) _ _⟩
    · exact ⟨_, _, exec_spdmGetCapabilities h v, rfl, State.spdm_changes s v _ _⟩
    · refine exec_spdm_keyless (v := v) h hk ?_
      rcases hi with rfl | rfl | rfl | ⟨k, hi⟩
      · exact .inl rfl
      · exact .inr (.inl (.inl rfl))
      · exact .inr (.inl (.inr (.inl rfl)))
      · rcases hi with rfl | rfl | rfl | rfl | rfl | rfl | ⟨n, rfl⟩ | ⟨b, n, rfl⟩ | ⟨c, rfl⟩
        · exact .inr (.inl (.inr (.inr ⟨k, .inl rfl⟩)))
        · exact .inr (.inl (.inr (.inr ⟨k, .inr (.inl rfl)⟩)))
        · exact .inr (.inr (.inl ⟨k, rfl⟩))
        · exact .inr (.inr (.inr ⟨k, .inl rfl⟩))
        · exact .inr (.inr (.inr ⟨k, .inr (.inl rfl)⟩))
        · exact .inr (.inr (.inr ⟨k, .inr (.inr rfl)⟩))
        · exact .inr (.inl (.inr (.inr ⟨k, .inr (.inr (.inl ⟨n, rfl⟩))⟩)))
        · exact .inr (.inl (.inr (.inr ⟨k, .inr (.inr (.inr (.inl ⟨b, n, rfl⟩)))⟩)))
        · exact .inr (.inl (.inr (.inr ⟨k, .inr (.inr (.inr (.inr ⟨c, rfl⟩)))⟩)))
    · exact ⟨_, _, exec_spdmNegotiateAlgorithms h hk, List.mem_cons_self, rfl,
        State.spdm_sec_frame (Changes.sec_with _ rfl (Changes.refl _ s)) _ _⟩
    · exact exec_negotiatedReq_missing h hk hv hi
  case negotiated =>
    intro v s h hk hv
    refine ⟨?_, fun slot c hc => ⟨?_, fun nonce => ?_⟩, fun slot hc => ?_, fun index nonce b hb => ⟨?_, ?_⟩, ?_,
      fun chain hash at0 hs => ⟨fun ht hc => ?_, fun hno => ?_⟩, fun slot c hc => ⟨fun hn => ?_, fun hn => ?_⟩⟩
    · exact ⟨_, exec_spdmGetDigests h hk hv, rfl, State.spdm_changes s v _ _⟩
    · have hexec := exec_spdmGetCertificate h hk hv slot
      rw [hc] at hexec
      exact ⟨_, hexec, rfl, State.spdm_changes s v _ _⟩
    · exact ⟨_, exec_spdmChallenge h hk hv hc nonce, rfl, State.spdmSigned_changes s v _ _ _⟩
    · have hexec := exec_spdmGetCertificate h hk hv slot
      rw [hc] at hexec
      exact ⟨_, hexec, congrArg State.out (State.spdmError_eq v 1), State.spdmError_changes s v 1⟩
    · exact ⟨_, exec_spdmGetMeasurements h hk hv hb false nonce, rfl, State.spdm_changes s v _ _⟩
    · exact ⟨_, exec_spdmGetMeasurements h hk hv hb true nonce, rfl, State.spdmSigned_changes s v _ _ _⟩
    · exact ⟨_, _, exec_spdmGetCsr h hk hv, rfl, State.spdmSigned_changes s v _ _ _⟩
    · have hexec := exec_spdmSetCertificate h hk hv hs chain
      rw [if_pos ⟨ht, hc⟩] at hexec
      exact ⟨_, hexec, rfl, rfl, rfl, State.spdm_sec_frame (Changes.sec_with _ rfl (Changes.refl _ s)) _ _⟩
    · have hexec := exec_spdmSetCertificate h hk hv hs chain
      rw [if_neg (fun hyes => hno.elim (fun hlate => absurd hyes.1 (Nat.not_le.mpr hlate)) (fun hne => hne hyes.2))] at hexec
      exact ⟨_, hexec, rfl, congrArg State.out (State.spdmError_eq v 1)⟩
    · have hexec := exec_spdmKeyExchange h hk hv hc
      rw [if_neg (by rw [sessionLimit_eq]; omega)] at hexec
      exact ⟨_, _, hexec, rfl, rfl, rfl,
        (State.spdmSigned_changes _ v _ _ _).step rfl (Changes.sec_with _ rfl (Changes.refl _ s))⟩
    · have hexec := exec_spdmKeyExchange h hk hv hc
      rw [if_pos (by rw [sessionLimit_eq]; exact hn)] at hexec
      exact ⟨_, hexec, rfl, congrArg State.out (State.spdmError_eq v 0x0A)⟩
  case session =>
    intro v x s h hk hx
    refine ⟨fun he => ⟨?_, fun i hi => ?_⟩, fun he => ⟨?_, ?_, ?_, fun p keySet key hv => ?_⟩⟩
    · have hexec := exec_spdmFinish (v := v) h hk x.id
      rw [hx] at hexec
      simp only [he, Bool.false_eq_true, if_false] at hexec
      exact ⟨_, hexec, session_setSession hx _ (fun _ => ⟨rfl, rfl⟩), rfl,
        State.spdm_sec_frame (State.setSession_changes s v x.id _) _ _⟩
    · obtain ⟨f, e⟩ := exec_sessionReq (id := x.id) hi
      rw [e, State.inSession_early h hk hx he]
      exact congrArg _ (State.spdmError_eq v 4)
    · exact ⟨_, exec_spdmHeartbeat h hk hx he, rfl, rfl,
        (State.spdm_changes _ v _ _).step rfl (Changes.vault_with _ rfl (Changes.refl _ s))⟩
    · exact ⟨_, exec_spdmKeyUpdate h hk hx he, rfl, session_setSession (s := s.inContext x.id) hx _ (fun _ => ⟨rfl, rfl⟩), rfl⟩
    · exact ⟨_, exec_spdmEndSession h hk hx he, rfl, session_ended _ _ _, rfl⟩
    · subst hv
      have hline := State.ideKey_line (s := s.inContext x.id) (p := p) keySet key
      have hkeys := congrArg PcPort.ideKeys hline
      refine ⟨_, exec_ideKmKeyProg h hk hx he keySet key, congrArg PcPort.ide hline, ?_, ?_, State.ideKey_rdy keySet key,
        fun q hq => State.ideKey_ports_ne hq keySet key⟩
      · exact (congrArg (fun t : Tbl 2 (Option (BitVec 256)) => t[keySet]) hkeys).trans (Tbl.upd_get _ _ _)
      · exact (congrArg (fun t : Tbl 2 (Option (BitVec 256)) => t[1 - keySet]) hkeys).trans (Tbl.upd_get_ne _ _ _ _ (one_sub_ne keySet))
  case unknown =>
    intro v id s h hk hx i hi
    have herr : (Host.Outcome.next (s.spdmError v 2) : Host.Outcome State Fault Refusal) =
        .next { s with out := s.out ++ [Output.spdm v 0x7F false [2]] } := congrArg _ (State.spdmError_eq v 2)
    rcases hi with rfl | hi
    · rw [exec_spdmFinish h hk, hx]
      exact herr
    · obtain ⟨f, e⟩ := exec_sessionReq (id := id) hi
      rw [e, State.inSession_unknown h hk hx]
      exact herr

end Sys2Proof.Machine
end

section
/-! What the operations on one die and on one channel of the flash leave, and the statement of chapter 4 about suspension
(R157, R158, R165, R166, R179). -/

namespace Sys2Proof.Machine

open Sys2Proof

section
variable (s : State)

/-! ### One die, one channel -/

@[simp] theorem State.setDie_die (d : Nat) (f : DieSt → DieSt) : (s.setDie d f).media.die d = f (s.media.die d) := by
  simp only [State.setDie, State.setMedia, Media.setDie, Media.die, AMap.get?_put, Option.getD_some]

theorem State.setDie_die_ne {d e : Nat} (h : e ≠ d) (f : DieSt → DieSt) : (s.setDie d f).media.die e = s.media.die e := by
  simp only [State.setDie, State.setMedia, Media.setDie, Media.die, AMap.get?_put_ne _ _ _ _ h]

theorem State.setDie_fch (d : Nat) (f : DieSt → DieSt) : (s.setDie d f).media.fch = s.media.fch := rfl

theorem State.setFch_die (c : Fin 64) (f : Fch → Fch) (d : Nat) : (s.setFch c f).media.die d = s.media.die d := rfl

theorem State.setFch_fch (c : Fin 64) (f : Fch → Fch) : (s.setFch c f).media.fch[c] = f s.media.fch[c] := Tbl.upd_get _ _ _

theorem State.setFch_fch_ne {c k : Fin 64} (h : k ≠ c) (f : Fch → Fch) : (s.setFch c f).media.fch[k] = s.media.fch[k] :=
  Tbl.upd_get_ne _ _ _ _ h

/-! ### The bus of a channel -/

/-- A channel but for the transfers on its bus. -/
def Fch.offBus (f : Fch) : Fch := { f with bus := [], busNow := none, busLimit := false }

end

/-- The buses of the channels went on, and nothing else of the media changed. -/
structure State.BusMoved (s t : State) : Prop where
  fch : ∀ c : Fin 64, t.media.fch[c].offBus = s.media.fch[c].offBus
  media : { t.media with fch := s.media.fch } = s.media
  rest : Changes [.media, .out] s t

theorem State.BusMoved.refl (s : State) : State.BusMoved s s := ⟨fun _ => rfl, rfl, .refl _ _⟩

theorem State.BusMoved.trans {s t u : State} (h : State.BusMoved s t) (h' : State.BusMoved t u) : State.BusMoved s u := by
  refine ⟨fun c => (h'.fch c).trans (h.fch c), ?_, Changes.trans h.rest h'.rest⟩
  rw [← h.media, ← h'.media]

theorem State.BusMoved.die {s t : State} (h : State.BusMoved s t) (d : Nat) : t.media.die d = s.media.die d :=
  (congrArg (fun m => Media.die m d) h.media :)

section
variable {s t : State} (h : State.BusMoved s t)
include h

theorem State.BusMoved.emits (os : List Output) : State.BusMoved s (t.emits os) :=
  h.trans ⟨fun _ => rfl, rfl, (State.emits_changes t os).mono rfl⟩

/-- A channel whose bus alone is written. -/
theorem State.BusMoved.setFch (c : Fin 64) {f : Fch → Fch} (hf : ∀ x, (f x).offBus = x.offBus) :
    State.BusMoved s (t.setFch c f) := by
  refine h.trans ⟨fun k => ?_, rfl, (State.setFch_changes t c f).mono rfl⟩
  by_cases hk : k = c
  · rw [hk, State.setFch_fch, hf]
  · rw [State.setFch_fch_ne t hk]

theorem State.BusMoved.busGo (c : Fin 64) : State.BusMoved s (t.busGo c) := by
  unfold State.busGo
  dsimp only
  split
  · refine .emits (.setFch h c ?_) _
    exact fun _ => rfl
  · exact h

theorem State.BusMoved.busPast (d : Nat) : State.BusMoved s (t.busPast d) := by
  unfold State.busPast
  dsimp only
  split
  · exact h
  · refine .busGo (.emits (.setFch h _ ?_) _) _
    exact fun _ => rfl

theorem State.BusMoved.polled (d : Nat) : State.BusMoved s (t.polled d) :=
  .emits (.busPast h d) _

end

theorem State.polled_busMoved (s : State) (d : Nat) : State.BusMoved s (s.polled d) :=
  (State.BusMoved.refl s).polled d

/-! ### The commands of a suspension -/

section
variable {s : State} {d : Nat}

theorem exec_dieSuspended (h : s.live = true) : exec (.dieSuspended d) s = .next (s.dieSuspended d) := by
  change execDieSuspended d s = _
  rw [execDieSuspended, State.whenLive_live h]

theorem exec_suspWindowExpire (h : s.live = true) {w : Nat × List (Nat × Nat) × Bool} (hw : (s.media.die d).window = some w) :
    exec (.suspWindowExpire d) s = .next (s.windowPassed d) := by
  change execSuspWindowExpire d s = _
  rw [execSuspWindowExpire, State.whenLive_live h, hw]
  rfl

theorem exec_suspendRunReached (h : s.live = true) {x : Nat × Nat × Bool × Bool} (hop : (s.media.die d).op.long = some x)
    (hw : (s.media.die d).window = none) : exec (.suspendRunReached d) s = .next (s.runReached d) := by
  change execSuspendRunReached d s = _
  rw [execSuspendRunReached, State.whenLive_live h, hop, hw]
  rfl

theorem exec_arrayOpWaitLimit (h : s.live = true) (erase : Bool) :
    exec (.arrayOpWaitLimit ⟨d, erase⟩) s = .next (s.waitLimit d erase) := by
  change execArrayOpWaitLimit ⟨d, erase⟩ s = _
  rw [execArrayOpWaitLimit, State.whenLive_live h]

theorem exec_busTransferWaitLimit (h : s.live = true) (ch : Fin 64) : exec (.busTransferWaitLimit ch) s =
    .next (if s.media.fch[ch].bus = [] then s else (s.setFch ch (fun f => { f with busLimit := true })).busGo ch) := by
  change execBusTransferWaitLimit ch s = _
  rw [execBusTransferWaitLimit, State.whenLive_live h]

end

/-- A die without a suspend does not report one. -/
theorem exec_dieSuspended_idle {s : State} {d : Nat} (h : (s.media.die d).suspending = false) :
    exec (.dieSuspended d) s = .next s := by
  change execDieSuspended d s = _
  unfold execDieSuspended State.whenLive
  split
  · have hnot : (!(s.media.die d).suspending) = true := by rw [h]; rfl
    exact congrArg _ (if_pos hnot)
  · rfl

/-! ### A die is suspended -/

/-- The counters of a channel after a suspension of an operation. -/
def Fch.countSusp (op : DieOp) (f : Fch) : Fch :=
  match op with
  | .erase _ n _ => { f with
      eraseSusp := satInc f.eraseSusp
      eraseAtLimit := if n = 8 then satInc f.eraseAtLimit else f.eraseAtLimit }
  | _ => { f with progSusp := satInc f.progSusp }

/-- A die with its window open. -/
def DieSt.openWindow (op : DieOp) (readMax : Nat) (x : DieSt) : DieSt :=
  { x with suspending := false, window := some (0, [], false), op := op, readMax := readMax }

/-- The state between the report of the suspension and what the sequencer does next. -/
def State.suspended (s : State) (d : Nat) : State :=
  let s1 := s.polled d
  ((s1.readWaited d).setDie d (DieSt.openWindow (s1.media.die d).op.suspended (s1.param 0x3210 2))).setFch (chOf d)
    (Fch.countSusp (s1.media.die d).op.suspended)

theorem State.dieSuspended_eq {s : State} {d : Nat} (h : (s.media.die d).suspending = true) :
    s.dieSuspended d = ((s.suspended d).pump d).pumpChannel (chOf d) := by
  unfold State.dieSuspended
  rw [h]
  rfl

/-- The wait of a read ends: only the time it began, and the longest wait of the channel, are written. -/
theorem State.readWaited_die (s : State) (d : Nat) :
    (s.readWaited d).media.die d = { s.media.die d with readAt := none } ∨ (s.readWaited d).media.die d = s.media.die d := by
  unfold State.readWaited
  split
  · exact Or.inr rfl
  · left
    simp only [State.setFch_die, State.setDie_die]

theorem State.readWaited_fch (s : State) (d : Nat) (c : Fin 64) :
    { (s.readWaited d).media.fch[c] with readWaitMax := 0 } = { s.media.fch[c] with readWaitMax := 0 } := by
  unfold State.readWaited
  dsimp only
  split
  · rfl
  · by_cases hc : c = chOf d
    · rw [hc, State.setFch_fch]
      rfl
    · rw [State.setFch_fch_ne _ hc]
      rfl

theorem State.suspended_changes (s : State) (d : Nat) : Changes [.media, .out] s (s.suspended d) :=
  Changes.step (State.setFch_changes ..) rfl (Changes.step (State.setDie_changes ..) rfl
    (Changes.step (State.readWaited_changes ..) rfl (State.polled_busMoved s d).rest))

theorem State.suspended_die (s : State) (d : Nat) :
    ((s.suspended d).media.die d).op = (s.media.die d).op.suspended ∧
      ((s.suspended d).media.die d).window = some (0, [], false) ∧ ((s.suspended d).media.die d).suspending = false ∧
      ((s.suspended d).media.die d).readMax = s.param 0x3210 2 := by
  have hdie := (State.polled_busMoved s d).die d
  have hdict : (s.polled d).dict = s.dict := (State.polled_busMoved s d).rest.rest .dict (by decide)
  unfold State.suspended
  simp only [State.setFch_die, State.setDie_die, DieSt.openWindow, hdie, State.param, hdict, and_self]

theorem Fch.countSusp_erase (f : Fch) (b n : Nat) (r : Bool) :
    (f.countSusp (.erase b n r)).eraseSusp = satInc f.eraseSusp ∧
      (f.countSusp (.erase b n r)).eraseAtLimit = (if n = 8 then satInc f.eraseAtLimit else f.eraseAtLimit) ∧
      (f.countSusp (.erase b n r)).progSusp = f.progSusp := ⟨rfl, rfl, rfl⟩

/-- The counters of suspensions of a channel. -/
def Fch.susp (f : Fch) : BitVec 16 × BitVec 16 × BitVec 16 := (f.eraseSusp, f.eraseAtLimit, f.progSusp)

theorem State.suspended_fch (s : State) (d : Nat) :
    ((s.suspended d).media.fch[chOf d]).susp = (s.media.fch[chOf d].countSusp (s.media.die d).op.suspended).susp := by
  have hdie := (State.polled_busMoved s d).die d
  have hfch := (State.polled_busMoved s d).fch (chOf d)
  have hwait := State.readWaited_fch (s.polled d) d (chOf d)
  have key : (((s.polled d).readWaited d).media.fch[chOf d]).susp = s.media.fch[chOf d].susp :=
    (congrArg Fch.susp hwait :).trans (congrArg Fch.susp hfch :)
  unfold State.suspended
  simp only [State.setFch_fch, State.setDie_fch, hdie]
  obtain ⟨he, hl, hp⟩ : _ ∧ _ ∧ _ := ⟨congrArg Prod.fst key, congrArg (·.2.1) key, congrArg (·.2.2) key⟩
  simp only [Fch.susp] at he hl hp
  cases (s.media.die d).op <;> simp only [DieOp.suspended, Fch.countSusp, Fch.susp, he, hl, hp]

/-! ### The waits of the sequencer -/

/-- The operation that has run long enough. -/
def DieOp.ran : DieOp → DieOp
  | .prog r p m b w n _ => .prog r p m b w n true
  | .erase b n _ => .erase b n true
  | o => o

theorem State.runReached_eq (s : State) (d : Nat) :
    s.runReached d = (s.setDie d (fun x => { x with op := x.op.ran })).pump d := rfl

theorem State.waitLimit_erase {s : State} {d b : Nat} (h : QOp.erase b ∈ (s.media.die d).visible) :
    s.waitLimit d true = (s.setDie d (fun x => { x with waited := (x.waited.1, true) })).pump d := by
  have hv : (s.media.die d).visible.any (fun o => match o with
      | .prog .. => !true
      | .erase _ => true
      | _ => false) = true := List.any_eq_true.mpr ⟨_, h, rfl⟩
  exact if_pos hv

theorem State.waitLimit_prog {s : State} {d r p b w : Nat} {m : Fin 32} (h : QOp.prog r p m b w ∈ (s.media.die d).visible) :
    s.waitLimit d false = (s.setDie d (fun x => { x with waited := (true, x.waited.2) })).pump d := by
  have hv : (s.media.die d).visible.any (fun o => match o with
      | .prog .. => !false
      | .erase _ => false
      | _ => false) = true := List.any_eq_true.mpr ⟨_, h, rfl⟩
  exact if_pos hv

/-! ### The transfer that a free bus takes -/

/-- Of two transfers the one of the better priority, the older one of two alike. -/
def Xfer.better (b : Option Xfer) (x : Xfer) : Option Xfer :=
  match b with
  | none => some x
  | some y => if x.prio < y.prio then some x else some y

theorem Xfer.foldl_better (q : List Xfer) (y z : Xfer) (h : q.foldl Xfer.better (some y) = some z) :
    (z = y ∨ z ∈ q) ∧ z.prio ≤ y.prio ∧ ∀ x ∈ q, z.prio ≤ x.prio := by
  induction q generalizing y with
  | nil =>
    obtain rfl : y = z := Option.some.inj h
    exact ⟨Or.inl rfl, le_refl _, by simp⟩
  | cons x q ih =>
    rw [List.foldl_cons, Xfer.better] at h
    split at h
    · next hlt =>
      obtain ⟨hmem, hle, hall⟩ := ih x h
      refine ⟨Or.inr ?_, by omega, ?_⟩
      · rcases hmem with rfl | hmem
        · exact List.mem_cons_self
        · exact List.mem_cons_of_mem _ hmem
      · intro w hw
        rcases List.mem_cons.mp hw with rfl | hw
        · exact hle
        · exact hall w hw
    · next hge =>
      obtain ⟨hmem, hle, hall⟩ := ih y h
      refine ⟨hmem.imp_right (List.mem_cons_of_mem _), hle, ?_⟩
      intro w hw
      rcases List.mem_cons.mp hw with rfl | hw
      · omega
      · exact hall w hw

theorem bestXfer_some {q : List Xfer} {z : Xfer} (h : bestXfer q = some z) : z ∈ q ∧ ∀ x ∈ q, z.prio ≤ x.prio := by
  change q.foldl Xfer.better none = some z at h
  cases q with
  | nil => cases h
  | cons y q =>
    obtain ⟨hmem, hle, hall⟩ := Xfer.foldl_better q y z h
    refine ⟨List.mem_cons.mpr hmem, fun x hx => ?_⟩
    rcases List.mem_cons.mp hx with rfl | hx
    · exact hle
    · exact hall x hx

theorem Fch.nextXfer_some {f : Fch} {x : Xfer} (h : f.nextXfer = some x) :
    x ∈ f.bus ∧ (f.busLimit = true → f.bus.head? = some x) ∧ (f.busLimit = false → ∀ y ∈ f.bus, x.prio ≤ y.prio) := by
  unfold Fch.nextXfer at h
  split at h
  · next hl => exact ⟨List.mem_of_mem_head? h, fun _ => h, fun hf => absurd (hl.symm.trans hf) (by decide)⟩
  · next hl =>
    obtain ⟨hmem, hall⟩ := bestXfer_some h
    exact ⟨hmem, fun ht => absurd ht hl, fun _ => hall⟩

theorem Fch.maySuspend_erase {f : Fch} {b n : Nat} {ran : Bool} (h : f.maySuspend (some (b, n, ran, true)) = true) :
    f.esusp = true ∧ n < 8 ∧ (n = 0 ∨ ran = true) := by
  simpa only [Fch.maySuspend, Bool.and_eq_true, Bool.or_eq_true, decide_eq_true_eq, and_assoc] using h

theorem Fch.maySuspend_prog {f : Fch} {b n : Nat} {ran : Bool} (h : f.maySuspend (some (b, n, ran, false)) = true) :
    f.psusp = true ∧ n < 2 ∧ (n = 0 ∨ ran = true) := by
  simpa only [Fch.maySuspend, Bool.and_eq_true, Bool.or_eq_true, decide_eq_true_eq, and_assoc] using h

/-- Settles O21: each event of a die is one written field after what its bus still had to send, and then the sequencer goes on. -/
theorem suspensionRules : Obligations.SuspensionRules := by
  unfold Obligations.SuspensionRules
  refine ⟨?_, ?_, fun d s h => exec_dieSuspended_idle h, ?_, ?_, ?_, ?_, ?_, fun f x => Fch.nextXfer_some,
    fun f b n ran => Fch.maySuspend_erase, fun f b n ran => Fch.maySuspend_prog⟩
  · intro d b n ran s hlive hsus hop
    obtain ⟨hop', hwin, hnot, hmax⟩ := s.suspended_die d
    have hfch := s.suspended_fch d
    rw [hop] at hop' hfch
    have he : _ = satInc s.media.fch[chOf d].eraseSusp := congrArg Prod.fst hfch
    have hl : _ = if n + 1 = 8 then _ else s.media.fch[chOf d].eraseAtLimit := congrArg (·.2.1) hfch
    have hp : _ = s.media.fch[chOf d].progSusp := congrArg (·.2.2) hfch
    refine ⟨s.suspended d, (exec_dieSuspended hlive).trans (congrArg _ (State.dieSuspended_eq hsus)), hop', hwin, hnot, hmax, he, ?_,
      hp, s.suspended_changes d⟩
    simpa only [Fch.susp, Nat.reduceEqDiff] using hl
  · intro d r p b w n member ran s hlive hsus hop
    obtain ⟨hop', hwin, -, -⟩ := s.suspended_die d
    have hfch := s.suspended_fch d
    rw [hop] at hop' hfch
    have he : _ = s.media.fch[chOf d].eraseSusp := congrArg Prod.fst hfch
    have hp : _ = satInc s.media.fch[chOf d].progSusp := congrArg (·.2.2) hfch
    exact ⟨s.suspended d, (exec_dieSuspended hlive).trans (congrArg _ (State.dieSuspended_eq hsus)), hop', hwin, hp, he,
      s.suspended_changes d⟩
  · intro d w s hlive hw
    refine ⟨_, exec_suspWindowExpire hlive hw, ?_, ?_, State.setDie_changes ..⟩
    · rw [State.setDie_die, hw]
      rfl
    · rw [State.setDie_die]
  · intro d b n ran s hlive hop hw
    refine ⟨_, (exec_suspendRunReached hlive (x := (b, n, ran, true)) (by rw [hop]; rfl) hw).trans
      (congrArg _ (State.runReached_eq s d)), ?_, State.setDie_changes ..⟩
    rw [State.setDie_die, hop]
    rfl
  · intro d b s hlive hq
    refine ⟨_, (exec_arrayOpWaitLimit hlive true).trans (congrArg _ (State.waitLimit_erase hq)), ?_, ?_, State.setDie_changes ..⟩ <;>
      rw [State.setDie_die]
  · intro d r p b w member s hlive hq
    refine ⟨_, (exec_arrayOpWaitLimit hlive false).trans (congrArg _ (State.waitLimit_prog hq)), ?_, ?_, State.setDie_changes ..⟩ <;>
      rw [State.setDie_die]
  · intro ch s hlive
    refine ⟨fun h => ?_, fun h => ?_⟩
    · rw [exec_busTransferWaitLimit hlive, if_neg h]
    · rw [exec_busTransferWaitLimit hlive, if_pos h]

end Sys2Proof.Machine

end

section
/-! The statement about blocks that fail to program or to erase (R96, R172). -/

namespace Sys2Proof.Machine

open Sys2Proof

/-- A block of a die is grown-bad, and counted among the die's failed blocks. -/
def DieSt.growBad (b now : Nat) (x : DieSt) : DieSt :=
  { x with
    bad := if x.bad.contains b then x.bad else x.bad ++ [b]
    dirty := x.dirty.filter (· ≠ b)
    failBlocks := noteBlock x.failBlocks b now }

theorem DieSt.mem_growBad_bad (b now : Nat) (x : DieSt) : b ∈ (x.growBad b now).bad := by
  change b ∈ (if x.bad.contains b then x.bad else x.bad ++ [b])
  split
  · next h => exact List.contains_iff_mem.mp h
  · exact List.mem_append_right _ List.mem_cons_self

theorem DieSt.not_mem_growBad_dirty (b now : Nat) (x : DieSt) : b ∉ (x.growBad b now).dirty := by
  simp [DieSt.growBad]

theorem DieSt.mem_growBad_failBlocks (b now : Nat) (x : DieSt) : (b, now) ∈ (x.growBad b now).failBlocks :=
  List.mem_cons_self

section
variable (s : State) (d b w op : Nat)

/-- The event of a failed block. -/
def failData (d b w op : Nat) : List Byte := leBytes 2 d ++ leBytes 2 b ++ leBytes 2 w ++ leBytes 1 op

/-- The state that has noted the failed block, before its stripe is left: the die has ended its operation. -/
def State.notedBad : State :=
  (((s.polled d).dieIdle d).log 0x3101 (sliceOf d).val (failData d b w op)).setDie d
    (DieSt.growBad b ((s.polled d).dieIdle d).clocks.opsec.toNat)

theorem State.blockFails_eq : ((s.polled d).dieIdle d).blockFails d b w op =
    if 8 ≤ ((((s.notedBad d b w op).leaveBlock d b).media.die d).failBlocks).length then
      ((s.notedBad d b w op).leaveBlock d b).dieFails d 2 else (s.notedBad d b w op).leaveBlock d b := rfl

theorem State.idled_changes : Changes [.media, .out] s ((s.polled d).dieIdle d) :=
  Changes.step (State.dieIdle_changes ..) rfl (s.polled_busMoved d).rest

theorem State.notedBad_changes : Changes [.media, .evr, .out] s (s.notedBad d b w op) :=
  Changes.step (State.setDie_changes ..) rfl (Changes.step (State.log_changes ..) rfl ((s.idled_changes d).mono rfl))

theorem State.notedBad_evr : (s.notedBad d b w op).evr = (s.log 0x3101 (sliceOf d).val (failData d b w op)).evr :=
  State.log_evr_congr ((s.idled_changes d).rest .evr (by decide)) ((s.idled_changes d).rest .clocks (by decide))
    ((s.idled_changes d).rest .tb (by decide)) _ _ _

theorem State.notedBad_die : b ∈ ((s.notedBad d b w op).media.die d).bad ∧ b ∉ ((s.notedBad d b w op).media.die d).dirty ∧
    (b, s.clocks.opsec.toNat) ∈ ((s.notedBad d b w op).media.die d).failBlocks := by
  have hclocks : ((s.polled d).dieIdle d).clocks = s.clocks := (s.idled_changes d).rest .clocks (by decide)
  unfold State.notedBad
  rw [State.setDie_die, hclocks]
  exact ⟨DieSt.mem_growBad_bad _ _ _, DieSt.not_mem_growBad_dirty _ _ _, DieSt.mem_growBad_failBlocks _ _ _⟩

end

section
variable {s : State} {d b : Nat}

theorem State.BusMoved.progDie {t : State} (h : State.BusMoved s t) (r : Nat) (m : Fin 32) :
    t.media.progDie r m = s.media.progDie r m :=
  (congrArg (fun x => Media.progDie x r m) h.media :)

theorem State.BusMoved.erasing {t : State} (h : State.BusMoved s t) (d b : Nat) : t.media.erasing d b = s.media.erasing d b :=
  (congrArg (fun x => Media.erasing x d b) h.media :)

theorem exec_programFail (h : s.live = true) {r pass w : Nat} {m : Fin 32} (hp : s.media.progDie r m = some (d, pass, b, w)) :
    exec (.programFail r m) s = .next (((((s.polled d).dieIdle d).blockFails d b w 1).probesGo (chOf d)).settleReads) := by
  have hp' := ((s.polled_busMoved d).progDie r m).trans hp
  have e : (s.polled d).programFail r m = ((s.polled d).dieIdle d).blockFails d b w 1 := by
    rw [State.programFail, hp']
  change execProgramFail r m s = _
  rw [execProgramFail, State.whenLive_live h, hp, ← e]

theorem exec_eraseFail (h : s.live = true) (he : s.media.erasing d b = true) : exec (.eraseFail d b) s =
    .next ((((((s.polled d).dieIdle d).blockFails d b 0 2).probesGo (chOf d)).erasedBack d).settleReads) := by
  have he' : (s.polled d).media.erasing d b = true := ((s.polled_busMoved d).erasing d b).trans he
  have e : (s.polled d).eraseFail d b = ((s.polled d).dieIdle d).blockFails d b 0 2 := by
    rw [State.eraseFail, he', if_pos rfl]
  change execEraseFail d b s = _
  rw [execEraseFail, State.whenLive_live h]
  simp only [he, if_true, e]

/-- A block that its die is not erasing does not fail. -/
theorem exec_eraseFail_idle (he : s.media.erasing d b = false) : exec (.eraseFail d b) s = .next s := by
  have hnot : ¬ s.media.erasing d b = true := fun h => absurd (h.symm.trans he) (by decide)
  change execEraseFail d b s = _
  unfold execEraseFail State.whenLive
  split
  · exact congrArg _ (if_neg hnot)
  · rfl

end

/-- Settles O15: what `blockFails` writes of the die stands before the stripe is left, whatever the channel did before. -/
theorem blockFailures : Obligations.BlockFailures := by
  unfold Obligations.BlockFailures
  refine ⟨?_, ?_, fun d b s => exec_eraseFail_idle⟩
  · intro r d pass b w member s hlive hp
    obtain ⟨hbad, hdirty, hfail⟩ := s.notedBad_die d b w 1
    exact ⟨s.notedBad d b w 1, (exec_programFail hlive hp).trans (by rw [State.blockFails_eq]), hbad, hdirty, hfail,
      s.notedBad_evr d b w 1, s.notedBad_changes d b w 1⟩
  · intro d b s hlive he
    obtain ⟨hbad, hdirty, hfail⟩ := s.notedBad_die d b 0 2
    exact ⟨s.notedBad d b 0 2, (exec_eraseFail hlive he).trans (by rw [State.blockFails_eq]), hbad, hdirty, hfail,
      s.notedBad_evr d b 0 2, s.notedBad_changes d b 0 2⟩

end Sys2Proof.Machine

end

section
/-! The statement about the opening of stripes and the erase of blocks (R199 to R202, R204). -/

namespace Sys2Proof.Machine

open Sys2Proof

/-! ### What the map of a key keeps -/

theorem AMap.get?_filter_key {α : Type} (m : AMap α) (q : Nat → Bool) {k : Nat} (h : q k = false) :
    AMap.get? (m.filter (fun e => q e.1)) k = none := by
  induction m with
  | nil => rfl
  | cons e m ih =>
    obtain ⟨a, x⟩ := e
    rw [List.filter_cons]
    split
    · next ha =>
      have hne : a ≠ k := fun hak => absurd (h.symm.trans (hak ▸ ha)) (by decide)
      rw [AMap.get?, if_neg hne, ih]
    · exact ih

/-! ### The block that a die gives -/

/-- Of two blocks the one of lower erase count, the earlier one of two alike. -/
def Media.lessWorn (m : Media) (d : Nat) (best : Option Nat) (b : Nat) : Option Nat :=
  match best with
  | none => some b
  | some x => if m.erases d b < m.erases d x then some b else some x

/-- The blocks from which a die gives one, in ascending order. -/
def Media.bandOf (m : Media) (sys : Bool) : List Nat :=
  if sys then (List.range m.band).map (· + m.dataBlocks) else List.range m.dataBlocks

theorem Media.pickBlock_eq (m : Media) (d : Nat) (sys : Bool) :
    m.pickBlock d sys = ((m.bandOf sys).filter (m.erased d)).foldl (m.lessWorn d) none := rfl

theorem Media.bandOf_sorted (m : Media) (sys : Bool) : (m.bandOf sys).Pairwise (· < ·) := by
  cases sys with
  | false => exact List.pairwise_lt_range
  | true => exact List.pairwise_map.mpr (List.pairwise_lt_range.imp (fun h => Nat.add_lt_add_right h _))

theorem Media.mem_bandOf (m : Media) (sys : Bool) (x : Nat) : x ∈ m.bandOf sys ↔
    (sys = false ∧ x < m.dataBlocks ∨ sys = true ∧ m.dataBlocks ≤ x ∧ x < m.dataBlocks + m.band) := by
  cases sys with
  | false => simp [Media.bandOf]
  | true =>
    simp only [Media.bandOf, if_true, List.mem_map, List.mem_range, reduceCtorEq, false_and, true_and, false_or]
    refine ⟨?_, fun ⟨h1, h2⟩ => ⟨x - m.dataBlocks, by omega, by omega⟩⟩
    rintro ⟨i, hi, rfl⟩
    omega

/-- `b` is before `x` in the order in which a die gives its blocks. -/
def Media.Before (m : Media) (d b x : Nat) : Prop := m.erases d b < m.erases d x ∨ m.erases d b = m.erases d x ∧ b ≤ x

theorem Media.foldl_lessWorn (m : Media) (d : Nat) (q : List Nat) (y z : Nat) (hq : (y :: q).Pairwise (· < ·))
    (h : q.foldl (m.lessWorn d) (some y) = some z) : z ∈ y :: q ∧ ∀ x ∈ y :: q, m.Before d z x := by
  induction q generalizing y with
  | nil =>
    obtain rfl : y = z := Option.some.inj h
    refine ⟨List.mem_cons_self, fun x hx => ?_⟩
    rw [List.mem_singleton.mp hx]
    exact Or.inr ⟨rfl, le_refl _⟩
  | cons w q ih =>
    obtain ⟨hy, hwq⟩ := List.pairwise_cons.mp hq
    obtain ⟨hw, hq'⟩ := List.pairwise_cons.mp hwq
    have hyw : y < w := hy w List.mem_cons_self
    rw [List.foldl_cons, Media.lessWorn] at h
    split at h
    · next hlt =>
      obtain ⟨hmem, hall⟩ := ih w hwq h
      refine ⟨List.mem_cons_of_mem _ hmem, fun x hx => ?_⟩
      rcases List.mem_cons.mp hx with rfl | hx
      · have := hall w List.mem_cons_self
        unfold Media.Before at this ⊢
        omega
      · exact hall x hx
    · next hge =>
      have hyq : (y :: q).Pairwise (· < ·) :=
        List.pairwise_cons.mpr ⟨fun x hx => hy x (List.mem_cons_of_mem _ hx), hq'⟩
      obtain ⟨hmem, hall⟩ := ih y hyq h
      refine ⟨?_, fun x hx => ?_⟩
      · rcases List.mem_cons.mp hmem with rfl | hmem
        · exact List.mem_cons_self
        · exact List.mem_cons_of_mem _ (List.mem_cons_of_mem _ hmem)
      · rcases List.mem_cons.mp hx with rfl | hx
        · exact hall x List.mem_cons_self
        · rcases List.mem_cons.mp hx with rfl | hx
          · have := hall y List.mem_cons_self
            unfold Media.Before at this ⊢
            omega
          · exact hall x (List.mem_cons_of_mem _ hx)

/-- The block that a die gives is one of its erased blocks of the band, and before every other one of them. -/
theorem Media.pickBlock_some {m : Media} {d b : Nat} {sys : Bool} (h : m.pickBlock d sys = some b) :
    b ∈ m.bandOf sys ∧ m.erased d b = true ∧ ∀ x ∈ m.bandOf sys, m.erased d x = true → m.Before d b x := by
  rw [Media.pickBlock_eq] at h
  have hsorted := (m.bandOf_sorted sys).filter (m.erased d)
  have hmem : ∀ x, x ∈ (m.bandOf sys).filter (m.erased d) ↔ x ∈ m.bandOf sys ∧ m.erased d x = true := fun x => List.mem_filter
  revert h hsorted hmem
  cases (m.bandOf sys).filter (m.erased d) with
  | nil => exact fun h => nomatch h
  | cons y q =>
    intro h hsorted hmem
    obtain ⟨hb, hall⟩ := m.foldl_lessWorn d q y b hsorted h
    obtain ⟨hband, her⟩ := (hmem b).mp hb
    exact ⟨hband, her, fun x hx hex => hall x ((hmem x).mpr ⟨hx, hex⟩)⟩

/-! ### A stripe is opened -/

section
variable {s : State} {g : Nat} {st : Stream}

theorem exec_stripeOpen (h : s.live = true) (hacc : s.units.accAll = false) (hst : s.nextStream = some st)
    (hg : s.media.pickGroup (decide (st = .system)) = some g) : exec .stripeOpen s = .next (s.openIn g st) := by
  change execStripeOpen s = _
  rw [execStripeOpen, State.whenLive_live h]
  unfold State.stripeOpen
  rw [hacc, hst]
  dsimp only
  rw [hg]
  rfl

/-- The blocks that the dies of a group give to a stripe. -/
def State.given (s : State) (g : Nat) (sys : Bool) : List (Nat × Nat) :=
  (s.media.surviving g).filterMap (fun d => (s.media.pickBlock d sys).map (fun b => (d, b)))

/-- The stripe that is opened. -/
def State.openedStripe (s : State) (g : Nat) (st : Stream) : Stripe :=
  { group := g, stream := st, members := s.given g (decide (st = .system)), rotation := s.rotationFor g }

/-- The state in which the stripe has been opened. -/
def State.opened (s : State) (g : Nat) (st : Stream) : State :=
  s.setMedia (fun m =>
    ({ m with
       stripes := m.stripes.put s.media.nextStripe (s.openedStripe g st)
       nextStripe := s.media.nextStripe + 1
       waiting := m.waiting.filter (· ≠ st) }).append 5 m.rowSeq s.media.nextStripe 0 [])

/-- What goes on once the stripe stands. -/
def State.streamGo (s : State) (st : Stream) : State :=
  if st = .system then s.systemGo.fullBand
  else if st = .f0 ∨ st = .f1 then s.copiesGo else s.dispatch st (2 * s.land.lines.length + 64)

theorem State.openIn_eq (h : ∀ d ∈ s.media.surviving g, (s.media.pickBlock d (decide (st = .system))).isSome) :
    s.openIn g st = ((s.media.surviving g).foldl State.keepErased (s.opened g st).checkWear).streamGo st := by
  have hneed : (s.media.surviving g).filter (fun d => (s.media.pickBlock d (decide (st = .system))).isNone) = [] := by
    refine List.filter_eq_nil_iff.mpr (fun d hd => ?_)
    obtain ⟨b, hb⟩ := Option.isSome_iff_exists.mp (h d hd)
    rw [hb]
    exact Bool.false_ne_true
  unfold State.openIn
  simp only [hneed, ne_eq, not_true_eq_false, if_false, decide_eq_true_eq]
  rfl

theorem State.opened_land : ((s.media.surviving g).foldl State.keepErased (s.opened g st).checkWear).land = s.land := by
  have hgo : Changes [.media, .evr, .out] (s.opened g st) ((s.media.surviving g).foldl State.keepErased (s.opened g st).checkWear) :=
    Changes.foldl _ _ _ _ (fun t _ h => Changes.step (State.keepErased_changes t _) rfl h) ((State.checkWear_changes _).mono rfl)
  exact hgo.rest .land (by decide)

/-- The members of the stripe are the blocks that the surviving dies of its group give. -/
theorem State.mem_given (g : Nat) (sys : Bool) (x : Nat × Nat) :
    x ∈ s.given g sys ↔ x.1 ∈ s.media.surviving g ∧ s.media.pickBlock x.1 sys = some x.2 := by
  obtain ⟨d, b⟩ := x
  simp only [State.given, List.mem_filterMap, Option.map_eq_some_iff, Prod.mk.injEq]
  refine ⟨?_, fun ⟨hd, hb⟩ => ⟨d, hd, b, hb, rfl, rfl⟩⟩
  rintro ⟨d', hd, b', hb, rfl, rfl⟩
  exact ⟨hd, hb⟩

end

/-! ### A block is erased -/

section
variable {s : State} {d b : Nat}

/-- The media once the erased block has joined its die's erased list. -/
def Media.wiped (m : Media) (d b : Nat) : Media :=
  { m.setDie d (fun x => { x with dirty := x.dirty.filter (· ≠ b) }) with
    eraseCnt := m.eraseCnt.put (d * 8192 + b) ((m.eraseCnt.get? (d * 8192 + b)).getD 0 + 1)
    readCnt := m.readCnt.del (d * 8192 + b)
    nand := m.nand.filter (fun e => e.1 / 4096 ≠ d * 8192 + b)
    heads := m.heads.filter (fun e => e.1 / 4096 ≠ d * 8192 + b) }

theorem exec_eraseComplete (h : s.live = true) (he : s.media.erasing d b = true) : exec (.eraseComplete d b) s =
    .next ((((((s.polled d).setMedia (fun m => m.wiped d b)).dieIdle d).keepErased d).probesGo (chOf d)).erasedBack d).settleReads := by
  have he' : (s.polled d).media.erasing d b = true := ((s.polled_busMoved d).erasing d b).trans he
  have e : (s.polled d).eraseComplete d b = (((s.polled d).setMedia (fun m => m.wiped d b)).dieIdle d).keepErased d := by
    unfold State.eraseComplete
    rw [he']
    exact if_neg (by decide)
  change execEraseComplete d b s = _
  rw [execEraseComplete, State.whenLive_live h]
  simp only [he, if_true, e]

theorem exec_eraseComplete_idle (he : s.media.erasing d b = false) : exec (.eraseComplete d b) s = .next s := by
  have hnot : ¬ s.media.erasing d b = true := fun h => absurd (h.symm.trans he) (by decide)
  change execEraseComplete d b s = _
  unfold execEraseComplete State.whenLive
  split
  · exact congrArg _ (if_neg hnot)
  · rfl

theorem Media.wiped_erases (m : Media) (d b : Nat) : (m.wiped d b).erases d b = m.erases d b + 1 := by
  simp only [Media.wiped, Media.erases, AMap.get?_put, Option.getD_some]

theorem Media.wiped_dirty (m : Media) (d b : Nat) : b ∉ ((m.wiped d b).die d).dirty := by
  simp only [Media.wiped, Media.setDie, Media.die, AMap.get?_put, Option.getD_some, List.mem_filter, ne_eq, decide_not,
    decide_true, Bool.not_true, Bool.false_eq_true, and_false, not_false_eq_true]

theorem Media.wiped_pageRecs (m : Media) (d b : Nat) {page : Nat} (h : page < 4096) : (m.wiped d b).pageRecs d b page = [] := by
  have hkey : pageKey d b page / 4096 = d * 8192 + b := by
    unfold pageKey
    omega
  have hnone : (m.wiped d b).nand.get? (pageKey d b page) = none :=
    AMap.get?_filter_key m.nand (fun k => decide (k / 4096 ≠ d * 8192 + b)) (by rw [hkey]; exact decide_eq_false (fun h => h rfl))
  rw [Media.pageRecs, hnone]
  rfl

end

/-- Settles O16: a die's block is the least of a fold over the sorted band, and an opening or an erase is one written step of
the media before the streams and the dies go on. -/
theorem stripesAndErases : Obligations.StripesAndErases := by
  unfold Obligations.StripesAndErases
  refine ⟨?_, ?_, fun d b s => exec_eraseComplete_idle, ?_⟩
  · intro g st s hlive hacc hst hg hall
    refine ⟨s.opened g st, s.openedStripe g st, ?_, AMap.get?_put _ _ _, rfl, rfl, rfl, rfl, fun x => State.mem_given .., rfl, ?_,
      State.setMedia_changes ..⟩
    · rw [exec_stripeOpen hlive hacc hst hg, State.openIn_eq hall, State.streamGo, State.opened_land]
    · change st ∉ s.media.waiting.filter (fun x => decide (x ≠ st))
      simp
  · intro d b s hlive he
    have hbus := s.polled_busMoved d
    refine ⟨_, exec_eraseComplete hlive he, ?_, AMap.get?_del _ _, Media.wiped_dirty _ _ _, fun page h => Media.wiped_pageRecs _ _ _ h,
      .step (State.setMedia_changes ..) rfl hbus.rest⟩
    exact (Media.wiped_erases _ d b).trans (congrArg (· + 1) (congrArg (fun m => Media.erases m d b) hbus.media :))
  · intro d b sys m h
    obtain ⟨hband, her, hall⟩ := Media.pickBlock_some h
    refine ⟨her, ?_, fun x hex hx => hall x ((m.mem_bandOf sys x).mpr hx) hex⟩
    rcases (m.mem_bandOf sys b).mp hband with ⟨rfl, hlt⟩ | ⟨rfl, hle, -⟩
    · exact iff_of_true hlt rfl
    · exact iff_of_false (by omega) (by decide)

end Sys2Proof.Machine

end

section
/-! The statement about the training of the flash channels (R153, R155, R161 to R163, R170 to R172). -/

namespace Sys2Proof.Machine

open Sys2Proof

/-! ### What the sequencer leaves

When the dies of a channel go on, the buses, the dies' queues, the ladders of their reads and the read counters move, and nothing that
was sent is taken back. -/

/-- The sequencer went on; events may have been recorded beside it. -/
structure State.Sequenced (s t : State) : Prop where
  fch : ∀ c : Fin 64, t.media.fch[c].offBus = s.media.fch[c].offBus
  media : { t.media with fch := s.media.fch, dies := s.media.dies, reads := s.media.reads, readCnt := s.media.readCnt } = s.media
  out : s.out <+: t.out

theorem State.Sequenced.refl (s : State) : State.Sequenced s s := ⟨fun _ => rfl, rfl, List.prefix_refl _⟩

theorem State.Sequenced.trans {s t u : State} (h : State.Sequenced s t) (h' : State.Sequenced t u) : State.Sequenced s u := by
  refine ⟨fun c => (h'.fch c).trans (h.fch c), ?_, h.out.trans h'.out⟩
  rw [← h.media, ← h'.media]

section
variable {s t : State} (h : State.Sequenced s t)
include h

theorem State.Sequenced.emits (os : List Output) : State.Sequenced s (t.emits os) :=
  h.trans ⟨fun _ => rfl, rfl, List.prefix_append _ _⟩

theorem State.Sequenced.log (code src : Nat) (data : List Byte) : State.Sequenced s (t.log code src data) :=
  h.trans ⟨fun _ => rfl, rfl, List.prefix_refl _⟩

theorem State.Sequenced.setDie (d : Nat) (f : DieSt → DieSt) : State.Sequenced s (t.setDie d f) :=
  h.trans ⟨fun _ => rfl, rfl, List.prefix_refl _⟩

/-- A channel whose bus alone is written. -/
theorem State.Sequenced.setFch (c : Fin 64) {f : Fch → Fch} (hf : ∀ x, (f x).offBus = x.offBus) :
    State.Sequenced s (t.setFch c f) := by
  refine h.trans ⟨fun k => ?_, rfl, List.prefix_refl _⟩
  by_cases hk : k = c
  · rw [hk, State.setFch_fch, hf]
  · rw [State.setFch_fch_ne t hk]

theorem State.Sequenced.busGo (c : Fin 64) : State.Sequenced s (t.busGo c) := by
  unfold State.busGo
  dsimp only
  split
  · refine .emits (.setFch h c ?_) _
    exact fun _ => rfl
  · exact h

theorem State.Sequenced.transfer (d : Nat) (xs : List Xfer) : State.Sequenced s (t.transfer d xs) := by
  refine .busGo (.setFch h _ ?_) _
  exact fun _ => rfl

theorem State.Sequenced.setReads (f : Media → AMap Ladder) (g : Media → AMap Nat) :
    State.Sequenced s (t.setMedia (fun m => { m with reads := f m, readCnt := g m })) :=
  h.trans ⟨fun _ => rfl, rfl, List.prefix_refl _⟩

theorem State.Sequenced.issueRead (d prio rid k : Nat) (inWindow : Bool) : State.Sequenced s (t.issueRead d prio rid k inWindow) := by
  unfold State.issueRead
  split
  · exact h.setDie _ _
  · dsimp only
    exact .transfer (.setReads (.setDie h _ _) _ _) _ _

theorem State.Sequenced.issueOp (d : Nat) (o : QOp) : State.Sequenced s (t.issueOp d o) := by
  cases o with
  | readOp p rid k => exact h.issueRead _ _ _ _ _
  | prog r p m b w => exact (h.setDie _ _).transfer _ _
  | erase b => exact (h.setDie _ _).transfer _ _

theorem State.Sequenced.resumeDie (d : Nat) : State.Sequenced s (t.resumeDie d) :=
  (h.setDie _ _).transfer _ _

theorem State.Sequenced.pumpWindow (d n : Nat) (out : List (Nat × Nat)) (passed : Bool) :
    State.Sequenced s (t.pumpWindow d n out passed) := by
  unfold State.pumpWindow
  dsimp only
  split
  · exact h
  · split
    · split
      · exact h.issueRead _ _ _ _ _
      · exact h
    · exact h.resumeDie _

theorem State.Sequenced.pumpIdle (d : Nat) : State.Sequenced s (t.pumpIdle d) := by
  unfold State.pumpIdle
  dsimp only
  split
  · exact h
  · split
    · exact h.issueOp _ _
    · split
      · exact h.issueOp _ _
      · exact h.issueRead _ _ _ _ _
    · exact h.issueRead _ _ _ _ _
    · exact h

theorem State.Sequenced.pumpBusy (d : Nat) : State.Sequenced s (t.pumpBusy d) := by
  unfold State.pumpBusy
  dsimp only
  split
  · split
    · exact ((h.setDie _ _).setDie _ _).transfer _ _
    · exact h.setDie _ _
  · exact h

theorem State.Sequenced.pump (d : Nat) : State.Sequenced s (t.pump d) := by
  unfold State.pump
  dsimp only
  split
  · exact h
  · split
    · exact h.pumpWindow _ _ _ _
    · split
      · exact h.pumpIdle _
      · exact h
      · exact h.pumpBusy _

theorem State.Sequenced.pumpChannel (c : Fin 64) : State.Sequenced s (t.pumpChannel c) := by
  unfold State.pumpChannel
  generalize (t.media.dies.filter _).map _ = ds
  induction ds generalizing t with
  | nil => exact h
  | cons d ds ih => exact ih (h.pump d)

theorem State.Sequenced.unissue (d : Nat) : State.Sequenced s (t.unissue d) := by
  unfold State.unissue
  split
  · refine .setDie (.setFch h _ ?_) _ _
    exact fun _ => rfl
  · exact h

theorem State.Sequenced.busCut (c : Fin 64) : State.Sequenced s (t.busCut c) := by
  unfold State.busCut
  split
  · exact h
  · have h' : State.Sequenced s (t.setFch c (fun f => { f with busNow := none })) := h.setFch c (fun _ => rfl)
    split
    · exact h'.unissue _
    · exact h'.unissue _
    · exact h'
    · exact h'.setFch c (fun _ => rfl)

end

/-! ### A die behind a chip enable -/

theorem mem_ceDies {ch : Fin 64} {ce : Fin 4} {d : Nat} (h : d ∈ ceDies ch ce) : chOf d = ch ∧ ceOf d = ce := by
  simp only [ceDies, List.mem_map, List.mem_range] at h
  obtain ⟨l, hl, rfl⟩ := h
  refine ⟨Fin.ext ?_, Fin.ext ?_⟩
  · simp only [chOf, Fin.ofNat]
    omega
  · simp only [ceOf, posOf, Fin.ofNat]
    omega

theorem Media.probeLun_some {m : Media} {ch : Fin 64} {ce : Fin 4} {d : Nat} (h : m.probeLun ch ce = some d) :
    chOf d = ch ∧ ceOf d = ce :=
  mem_ceDies (List.mem_of_find?_eq_some h)

/-! ### Recentring (R162, R163) -/

theorem getD_padTo_lt {α : Type} (n : Nat) (z : α) (xs : List α) {i : Nat} (h : i < xs.length) (hn : i < n) :
    (padTo n z xs).getD i z = xs.getD i z := by
  simp only [padTo, List.getD_eq_getElem?_getD, List.getElem?_take, if_pos hn, List.getElem?_append_left h]

theorem length_padTo {α : Type} (n : Nat) (z : α) (xs : List α) : (padTo n z xs).length = n := by
  simp only [padTo, List.length_take, List.length_append, List.length_replicate]
  omega

theorem getD_padTo_ge {α : Type} (n : Nat) (z : α) (xs : List α) {i : Nat} (h : xs.length ≤ i) : (padTo n z xs).getD i z = z := by
  simp only [padTo, List.getD_eq_getElem?_getD, List.getElem?_take, List.getElem?_append_right h, List.getElem?_replicate]
  split
  · split
    · rfl
    · rfl
  · rfl

/-- A delay moves by at most one step. -/
theorem moved_near (b : ProbeBit) (c : BitVec 6) : (((moved b c).toNat : Int) - c.toNat).natAbs ≤ 1 := by
  have h1 : (1 : BitVec 6).toNat = 1 := rfl
  unfold moved
  split
  · unfold satInc
    split
    · simp
    · next hne =>
      have hc : c.toNat < 63 := by
        have hlt := c.isLt
        have : c.toNat ≠ 63 := fun e => hne (BitVec.eq_of_toNat_eq e)
        omega
      rw [BitVec.toNat_add, h1]
      omega
  · split
    · split
      · next h0 => simp [h0]
      · next h0 =>
        have hc : c.toNat ≠ 0 := fun e => h0 (BitVec.eq_of_toNat_eq e)
        have hlt := c.isLt
        rw [BitVec.toNat_sub, h1]
        omega
    · simp

theorem CeSt.length_probed (c : CeSt) (bits : List ProbeBit) : (c.probed bits).length = 16 := by
  unfold CeSt.probed
  dsimp only
  split
  · rw [List.length_take, length_padTo]
    rfl
  · exact length_padTo ..

/-- Three recentrings of four leave the write delays. -/
theorem CeSt.probed_write (c : CeSt) (bits : List ProbeBit) {i : Nat} (h : c.recentred % 4 ≠ 3) (hi : 8 ≤ i) :
    (c.probed bits).getD i ⟨false, false⟩ = ⟨false, false⟩ := by
  unfold CeSt.probed
  dsimp only
  rw [if_neg (by omega)]
  refine getD_padTo_ge 16 _ _ ?_
  rw [List.length_take]
  omega

theorem CeSt.recentre_bit (c : CeSt) (xs : List ProbeBit) (hx : xs.length = 16) {i : Nat} (hi : i < (c.recentre xs).bits.length) :
    (c.recentre xs).bits.getD i 0 = moved (xs.getD i ⟨false, false⟩) (c.bits.getD i 0) := by
  have hbits : (c.recentre xs).bits = List.zipWith moved xs c.bits := rfl
  rw [hbits, List.length_zipWith] at hi
  rw [hbits]
  simp only [List.getD_eq_getElem?_getD, List.getElem?_zipWith, List.getElem?_eq_getElem (show i < xs.length by omega),
    List.getElem?_eq_getElem (show i < c.bits.length by omega), Option.getD_some]

section
variable {s : State} {ch : Fin 64} {ce : Fin 4}

/-- The channel and the chip enable take a recentring now. -/
def State.Recentres (s : State) (ch : Fin 64) (ce : Fin 4) : Prop :=
  s.media.fch[ch].en = true ∧ s.media.fch[ch].isolate = false ∧ s.media.fch[ch].recentre = true ∧
    s.media.fch[ch].ces[ce].lost = false ∧ s.media.fch[ch].ces[ce].trained = true ∧ s.media.fch[ch].ces[ce].retraining = false ∧
    s.readsGo = true

theorem exec_recentreDue (h : s.live = true) (rd wr : List ProbeBit) (pins : List PinFault) :
    exec (.recentreDue ch ce rd wr pins) s = .next (s.recentre ch ce (probeBits rd wr) pins) := by
  change execRecentreDue ch ce rd wr pins s = _
  rw [execRecentreDue, State.whenLive_live h]

theorem State.recentre_probes (h : s.Recentres ch ce) {d : Nat} (hd : s.media.probeLun ch ce = some d) (bits : List ProbeBit)
    (pins : List PinFault) : s.recentre ch ce bits pins = s.probeTo d bits pins := by
  obtain ⟨hen, hiso, hrec, hlost, htr, hre, hgo⟩ := h
  unfold State.recentre
  simp only [hen, hiso, hrec, hlost, htr, hre, hgo, hd, Bool.not_true, Bool.false_eq_true, or_self, if_false]

theorem State.recentre_waits (h : s.Recentres ch ce) (hd : s.media.probeLun ch ce = none) (bits : List ProbeBit)
    (pins : List PinFault) : s.recentre ch ce bits pins =
      s.setFch ch (fun f => { f with ces := f.ces.upd ce (fun c => { c with probe := some (bits, pins) }) }) := by
  obtain ⟨hen, hiso, hrec, hlost, htr, hre, hgo⟩ := h
  unfold State.recentre
  simp only [hen, hiso, hrec, hlost, htr, hre, hgo, hd, Bool.not_true, Bool.false_eq_true, or_self, if_false]

/-- The bits of a probe whose two probes both failed. -/
def bothFailed (xs : List ProbeBit) : List Nat :=
  (List.range 16).filter (fun i => (xs.getD i ⟨false, false⟩).lowFails && (xs.getD i ⟨false, false⟩).highFails)

theorem bothFailed_eq_nil {xs : List ProbeBit} (h : ∀ b ∈ xs, b.lowFails = false ∨ b.highFails = false) : bothFailed xs = [] := by
  refine List.filter_eq_nil_iff.mpr (fun i _ => ?_)
  rw [List.getD_eq_getElem?_getD]
  cases hx : xs[i]? with
  | none => decide
  | some b =>
    rcases h b (List.mem_of_getElem? hx) with e | e <;> simp [e]

theorem bothFailed_ne_nil {xs : List ProbeBit} (hl : xs.length = 16) (h : ∃ b ∈ xs, b.lowFails = true ∧ b.highFails = true) :
    bothFailed xs ≠ [] := by
  obtain ⟨b, hb, hlow, hhigh⟩ := h
  obtain ⟨i, hi, rfl⟩ := List.getElem_of_mem hb
  refine List.ne_nil_of_mem (a := i) (List.mem_filter.mpr ⟨List.mem_range.mpr (hl ▸ hi), ?_⟩)
  rw [List.getD_eq_getElem?_getD, List.getElem?_eq_getElem hi, Option.getD_some, hlow, hhigh]
  rfl

/-- The chip enable of a channel after what its bus has done. -/
theorem State.Sequenced.ces {t : State} (h : State.Sequenced s t) (ch : Fin 64) : t.media.fch[ch].ces = s.media.fch[ch].ces :=
  (congrArg Fch.ces (h.fch ch) :)

/-- The state once the probe has been sent to a LUN, its outcome not yet taken. -/
def State.probed (s : State) (d : Nat) : State :=
  s.transfer d [.probe d ((s.media.fch[chOf d].ces[ceOf d]).eye.toNat / 2 - 2)
    (decide (((s.media.fch[chOf d].ces[ceOf d]).recentred + 1) % 4 = 0))]

theorem State.transfer_busMoved (s : State) (d : Nat) (xs : List Xfer) : State.BusMoved s (s.transfer d xs) := by
  refine .busGo (.setFch (.refl s) _ ?_) _
  exact fun _ => rfl

/-- No bit failed both its probes: each moves by itself. -/
theorem State.probeTo_moves {s : State} {d : Nat} {bits : List ProbeBit} (pins : List PinFault)
    (h : ∀ b ∈ (s.media.fch[chOf d].ces[ceOf d]).probed bits, b.lowFails = false ∨ b.highFails = false) :
    s.probeTo d bits pins = (s.probed d).setFch (chOf d) (fun f => { f with
      ces := f.ces.upd (ceOf d) (fun c => c.recentre ((s.media.fch[chOf d].ces[ceOf d]).probed bits)) }) := by
  have hces : (s.probed d).media.fch[chOf d].ces = s.media.fch[chOf d].ces :=
    (congrArg Fch.ces ((s.transfer_busMoved d _).fch (chOf d)) :)
  have hboth : bothFailed (((s.probed d).media.fch[chOf d].ces[ceOf d]).probed bits) = [] := by
    rw [hces]
    exact bothFailed_eq_nil h
  rw [← hces]
  exact if_pos hboth

/-- The chip enable whose bit failed both its probes is fully retrained. -/
def CeSt.retrain (c : CeSt) (dq : List Nat) (now : Nat) : CeSt :=
  { c with
    recentred := c.recentred + 1, retraining := true
    bothFail := dq.map (fun b => (b, now)) ++ c.bothFail.filter (fun e => !dq.contains e.1) }

/-- The state that has asked for the full retraining. -/
def State.retrains (s : State) (d : Nat) (dq : List Nat) : State :=
  (s.setFch (chOf d) (fun f => { f with
    state := 4, ces := f.ces.upd (ceOf d) (fun c => c.retrain dq s.tb.count.toNat) })).emit (.nand d 10 0 0)

/-- A pin check that finds nothing, with no chip enable that failed training: the sequencer goes on. -/
structure State.Checked (s t : State) : Prop where
  ces : ∀ c : Fin 64, t.media.fch[c].ces = s.media.fch[c].ces
  out : s.out <+: t.out

theorem State.pinCheck_none (s : State) (ch : Fin 64) : State.Checked s (s.pinCheck ch [] none) := by
  unfold State.pinCheck
  split
  · exact ⟨fun _ => rfl, List.prefix_refl _⟩
  · have hcut := (State.Sequenced.refl s).busCut ch
    have hgo := ((State.Sequenced.refl ((s.busCut ch).setFch ch (fun f => { f with pinflt := BitVec.ofNat 32 (pinFlt []) }))).busGo
      ch).pumpChannel ch
    refine ⟨fun c => ?_, hcut.out.trans hgo.out⟩
    refine (hgo.ces c).trans (Eq.trans ?_ (hcut.ces c))
    by_cases hc : c = ch
    · rw [hc, State.setFch_fch]
    · rw [State.setFch_fch_ne _ hc]

theorem State.dataFailed_none (s : State) (d : Nat) : State.Checked s (s.dataFailed d []) := by
  have hset : State.Checked s (s.setFch (chOf d) (fun f => { f with
      markAt := (d, s.tb.count.toNat) :: s.media.fch[chOf d].markAt.filter (fun e => decide (s.tb.count.toNat ≤ e.2 + 1000000)) })) := by
    refine ⟨fun c => ?_, List.prefix_refl _⟩
    by_cases hc : c = chOf d
    · rw [hc, State.setFch_fch]
    · rw [State.setFch_fch_ne _ hc]
  unfold State.dataFailed
  dsimp only
  split
  · have hpin := State.pinCheck_none (s.setFch (chOf d) (fun f => { f with
      markAt := (d, s.tb.count.toNat) :: s.media.fch[chOf d].markAt.filter (fun e => decide (s.tb.count.toNat ≤ e.2 + 1000000)) }))
      (chOf d)
    exact ⟨fun c => (hpin.ces c).trans (hset.ces c), hset.out.trans hpin.out⟩
  · exact hset

theorem State.Checked.trans {s t u : State} (h : State.Checked s t) (h' : State.Checked t u) : State.Checked s u :=
  ⟨fun c => (h'.ces c).trans (h.ces c), h.out.trans h'.out⟩

theorem State.probeTo_retrains {s : State} {d : Nat} {bits : List ProbeBit}
    (h : ∃ b ∈ (s.media.fch[chOf d].ces[ceOf d]).probed bits, b.lowFails = true ∧ b.highFails = true) :
    ∃ dq, State.Checked ((s.probed d).retrains d dq) (s.probeTo d bits []) := by
  have hces : (s.probed d).media.fch[chOf d].ces = s.media.fch[chOf d].ces :=
    (congrArg Fch.ces ((s.transfer_busMoved d _).fch (chOf d)) :)
  have hboth : ¬ bothFailed (((s.probed d).media.fch[chOf d].ces[ceOf d]).probed bits) = [] := by
    rw [hces]
    exact bothFailed_ne_nil (CeSt.length_probed ..) h
  refine ⟨((bothFailed (((s.probed d).media.fch[chOf d].ces[ceOf d]).probed bits)).map (· % 8)).dedup, ?_⟩
  unfold State.probeTo State.probeEnds
  dsimp only
  change State.Checked _ (if bothFailed (((s.probed d).media.fch[chOf d].ces[ceOf d]).probed bits) = [] then _ else _)
  rw [if_neg hboth]
  have hrefl (t : State) : State.Checked t t := ⟨fun _ => rfl, List.prefix_refl _⟩
  split
  · split
    · exact (State.pinCheck_none _ _).trans (State.dataFailed_none _ _)
    · exact State.dataFailed_none _ _
  · split
    · exact State.pinCheck_none _ _
    · exact hrefl _

end

/-! ### Training of a chip enable (R153, R155, R161) -/

section
variable {s t : State} {ch : Fin 64} {ce : Fin 4} {q : Profile}

/-- What the dies that answered have left, all of one profile, before there is a population record. -/
structure State.Fitted (s : State) (ch : Fin 64) (q : Profile) (t : State) : Prop where
  population : t.media.population = none
  profile : ∀ p, t.media.profile = some p → p.match_ = q.match_
  others : ∀ k : Fin 64, k ≠ ch → t.media.fch[k] = s.media.fch[k]
  fch : { t.media.fch[ch] with present := 0 } = { s.media.fch[ch] with present := 0 }
  rest : Changes [.media, .out] s t

/-- The mark of a die that answered. -/
def Fch.answered (d : Nat) (f : Fch) : Fch := { f with present := f.present ||| (1 <<< posOf d) }

theorem State.Fitted.checkDie (h : s.Fitted ch q t) {ps : List Profile} {d : Nat} {id : DieId} (hch : chOf d = ch)
    (hid : profileOf ps id = some q) : s.Fitted ch q (t.checkDie ps d (some id)) ∧
      (t.checkDie ps d (some id)).media.profile = some q ∧
      (t.checkDie ps d (some id)).media.fch[ch] = t.media.fch[ch].answered d := by
  have e : t.checkDie ps d (some id) = ((t.setFch (chOf d) (Fch.answered d)).setDie d (fun x =>
      { x with ident := some id, leftOut := false })).setMedia (fun m => { m with profile := some q }) := by
    have hpop : ((t.setFch (chOf d) (Fch.answered d)).setDie d (fun x =>
        { x with ident := some id, leftOut := false })).media.population = none := h.population
    unfold State.checkDie
    change (if ((t.setFch (chOf d) (Fch.answered d)).setDie d (fun x =>
        { x with ident := some id, leftOut := false })).media.population.isSome ∧ _ then _ else _) = _
    simp only [hpop, Option.isSome_none, Bool.false_eq_true, false_and, if_false]
    rw [hid]
    split
    · next hq => cases hq
    · next hq _ =>
      obtain rfl := Option.some.inj hq
      rfl
    · next hq hp =>
      obtain rfl := Option.some.inj hq
      exact if_pos (h.profile _ hp).symm
  subst hch
  have hfch : (t.checkDie ps d (some id)).media.fch[chOf d] = t.media.fch[chOf d].answered d := by
    rw [e]
    exact State.setFch_fch t (chOf d) _
  refine ⟨⟨?_, ?_, fun k hk => ?_, ?_, ?_⟩, ?_, hfch⟩
  · rw [e]
    exact h.population
  · rw [e]
    rintro p hp
    obtain rfl : q = p := Option.some.inj hp
    rfl
  · rw [e]
    exact (State.setFch_fch_ne t hk _).trans (h.others k hk)
  · rw [hfch]
    exact h.fch
  · rw [e]
    exact Changes.step (State.setMedia_changes ..) rfl (Changes.step (State.setDie_changes ..) rfl
      (Changes.step (State.setFch_changes ..) rfl h.rest))
  · rw [e]
    rfl

theorem Fch.answered_own (f : Fch) (d : Nat) : (f.answered d).present.getLsbD (posOf d) = true := by
  have hd : posOf d < 16 := Nat.mod_lt _ (by decide)
  change (f.present ||| (1 <<< posOf d)).getLsbD (posOf d) = true
  have hbit : (BitVec.ofNat 16 (1 <<< posOf d)).getLsbD (posOf d) = true := by
    rw [BitVec.getLsbD_ofNat, decide_eq_true hd, Nat.one_shiftLeft, Nat.testBit_two_pow_self]
    rfl
  exact (BitVec.getLsbD_or ..).trans (Bool.or_eq_true_iff.mpr (Or.inr hbit))

theorem Fch.answered_kept {f : Fch} {i : Nat} (h : f.present.getLsbD i = true) (d : Nat) :
    (f.answered d).present.getLsbD i = true := by
  change (f.present ||| (1 <<< posOf d)).getLsbD i = true
  rw [BitVec.getLsbD_or, h, Bool.true_or]

/-- The LUNs of a chip enable answer one after another. -/
theorem State.Fitted.foldl {ps : List Profile} (xs : List (Nat × Option DieId)) (h : s.Fitted ch q t)
    (hx : ∀ x ∈ xs, chOf x.1 = ch ∧ ∃ id, x.2 = some id ∧ profileOf ps id = some q) :
    s.Fitted ch q (xs.foldl (fun s x => s.checkDie ps x.1 x.2) t) ∧
      (xs ≠ [] ∨ t.media.profile = some q → (xs.foldl (fun s x => s.checkDie ps x.1 x.2) t).media.profile = some q) ∧
      (∀ i, t.media.fch[ch].present.getLsbD i = true ∨ (∃ x ∈ xs, posOf x.1 = i) →
        (xs.foldl (fun s x => s.checkDie ps x.1 x.2) t).media.fch[ch].present.getLsbD i = true) := by
  induction xs generalizing t with
  | nil => exact ⟨h, fun hp => hp.resolve_left (fun hn => hn rfl), fun i hi => hi.resolve_right (by simp)⟩
  | cons x xs ih =>
    obtain ⟨d, o⟩ := x
    obtain ⟨hch, id, rfl, hid⟩ := hx _ List.mem_cons_self
    obtain ⟨hfit, hprof, hfch⟩ := h.checkDie hch hid
    obtain ⟨hfit', hprof', hpres⟩ := ih hfit (fun x hx' => hx x (List.mem_cons_of_mem _ hx'))
    refine ⟨hfit', fun _ => hprof' (Or.inr hprof), fun i hi => hpres i ?_⟩
    rw [hfch]
    rcases hi with hi | ⟨y, hy, hyi⟩
    · exact Or.inl (Fch.answered_kept hi d)
    · rcases List.mem_cons.mp hy with rfl | hy
      · exact Or.inl (hyi ▸ Fch.answered_own _ d)
      · exact Or.inr ⟨y, hy, hyi⟩

/-- The four LUNs of a chip enable, each with what it answered. -/
def ceAnswers (r : CeTraining) (ch : Fin 64) (ce : Fin 4) : List (Nat × Option DieId) :=
  (ceDies ch ce).zip (padTo 4 none r.luns)

theorem mem_ceAnswers {r : CeTraining} (hl : r.luns.length = 4) {x : Nat × Option DieId} (h : x ∈ ceAnswers r ch ce) :
    chOf x.1 = ch ∧ x.2 ∈ r.luns := by
  have hpad : padTo 4 none r.luns = r.luns := by
    simp [padTo, hl]
  rw [ceAnswers, hpad] at h
  exact ⟨(mem_ceDies (List.of_mem_zip h).1).1, (List.of_mem_zip h).2⟩

theorem ceAnswers_pos {r : CeTraining} (hl : r.luns.length = 4) {l : Nat} (h : l < 4) :
    ∃ x ∈ ceAnswers r ch ce, posOf x.1 = ce.val * 4 + l := by
  have hlen : (ceAnswers r ch ce).length = 4 := by
    simp [ceAnswers, ceDies, padTo, hl]
  refine ⟨(ceAnswers r ch ce)[l], List.getElem_mem _, ?_⟩
  have hce := ce.isLt
  simp only [ceAnswers, List.getElem_zip, ceDies, List.getElem_map, List.getElem_range, posOf]
  omega

/-- The state in which the training of the chip enable has been noted and its LUNs have answered. -/
def State.lunsAnswered (s : State) (ch : Fin 64) (ce : Fin 4) (r : CeTraining) : State :=
  ((ceAnswers r ch ce).foldl (fun s x => s.checkDie r.profiles x.1 x.2) (s.setFch ch (fun f => { f with state := 2 }))).emits
    (trainOuts ch ce r s.media.fch[ch].target)

theorem State.ceTraining_eq {r : CeTraining} (hiso : s.media.fch[ch].isolate = false) (hlost : s.media.fch[ch].ces[ce].lost = false)
    (hre : s.media.fch[ch].ces[ce].retraining = false) (hen : s.media.fch[ch].en = false)
    (htr : s.media.fch[ch].ces[ce].trained = false) (hhere : r.luns.any Option.isSome = true) :
    s.ceTraining ch ce r [] = (s.lunsAnswered ch ce r).trainOutcome ch ce r [] := by
  have hf := State.setFch_fch s ch (fun f => { f with state := 2 })
  have hiso' : (s.setFch ch (fun f => { f with state := 2 })).media.fch[ch].isolate = false := by rw [hf]; exact hiso
  have hlost' : (s.setFch ch (fun f => { f with state := 2 })).media.fch[ch].ces[ce].lost = false := by rw [hf]; exact hlost
  unfold State.ceTraining
  simp only [hiso, hlost, hre, hen, htr, hiso', hlost', hhere, Bool.false_eq_true, or_self, if_false, if_true, Bool.not_true, false_and]
  rfl

theorem exec_ceTrainingDone (h : s.live = true) (r : CeTraining) (pins : List PinFault) :
    exec (.ceTrainingDone ch ce r pins) s = .next (s.ceTraining ch ce r pins) := by
  change execCeTrainingDone ch ce r pins s = _
  rw [execCeTrainingDone, State.whenLive_live h]

/-- The LUNs of the chip enable all fit: the state that training is judged in. -/
theorem State.lunsAnswered_fitted {r : CeTraining} (hpop : s.media.population = none) (hl : r.luns.length = 4)
    (hids : ∀ x ∈ r.luns, ∃ id, x = some id ∧ profileOf r.profiles id = some q)
    (hprof : ∀ p, s.media.profile = some p → p.match_ = q.match_) :
    (s.setFch ch (fun f => { f with state := 2 })).Fitted ch q (s.lunsAnswered ch ce r) ∧
      (s.lunsAnswered ch ce r).media.profile = some q ∧
      ∀ l < 4, (s.lunsAnswered ch ce r).media.fch[ch].present.getLsbD (ce.val * 4 + l) = true := by
  have h0 : (s.setFch ch (fun f => { f with state := 2 })).Fitted ch q (s.setFch ch (fun f => { f with state := 2 })) :=
    ⟨hpop, hprof, fun _ _ => rfl, rfl, .refl _ _⟩
  obtain ⟨hfit, hset, hpres⟩ := h0.foldl (ceAnswers r ch ce) (ps := r.profiles) (fun x hx =>
    ⟨(mem_ceAnswers hl hx).1, hids _ (mem_ceAnswers hl hx).2⟩)
  have hne : ceAnswers r ch ce ≠ [] := fun e => by
    obtain ⟨x, hx, -⟩ := ceAnswers_pos (ch := ch) (ce := ce) hl (show 0 < 4 by decide)
    rw [e] at hx
    cases hx
  refine ⟨⟨hfit.population, hfit.profile, hfit.others, hfit.fch, Changes.step (State.emits_changes ..) rfl hfit.rest⟩, hset (Or.inl hne),
    fun l hlt => hpres _ (Or.inr (ceAnswers_pos hl hlt))⟩

/-! ### The outcome of training (R161, R170) -/

theorem foldl_min_le (xs : List (Fin 4)) (f : Fin 4 → Nat) (r : Nat) : xs.foldl (fun m k => min m (f k)) r ≤ r := by
  induction xs generalizing r with
  | nil => exact le_refl _
  | cons k xs ih => exact (ih (min r (f k))).trans (Nat.min_le_left _ _)

/-- A chip enable that has passed. -/
def CeSt.passed (c : CeSt) (r : CeTraining) (rate eye : Nat) : CeSt :=
  { (c.setBits ((padTo 16 0 r.bits).map (BitVec.ofNat 6))) with eye := BitVec.ofNat 6 eye, rate := rate, trained := true }

/-- The lowest rate that the chip enables of a channel passed, from `rate` down. -/
def Fch.lowRate (f : Fch) (rate : Nat) : Nat :=
  ((List.finRange 4).filter (fun k => f.ces[k].trained && !f.ces[k].lost)).foldl (fun m k => min m f.ces[k].rate) rate

/-- The channel runs at `low` with its chip enable trained; the event of a lower rate may have been recorded. -/
theorem State.ceTrained_media (s : State) (ch : Fin 64) (ce : Fin 4) (r : CeTraining) (rate eye : Nat) :
    ∃ low ≤ rate, (s.ceTrained ch ce r rate eye).media = ((s.setFch ch (fun f => { f with
      ces := f.ces.upd ce (fun c => c.passed r rate eye) })).setFch ch (fun f => { f with rateNow := low })).media := by
  refine ⟨((s.setFch ch (fun f => { f with ces := f.ces.upd ce (fun c => c.passed r rate eye) })).media.fch[ch]).lowRate rate,
    foldl_min_le _ _ rate, ?_⟩
  unfold State.ceTrained
  dsimp only
  split
  · rfl
  · rfl

end

section
variable {s : State} {ch : Fin 64} {ce : Fin 4}

/-- Training that passed leaves the other channels, and on its own only the chip enable and the channel's rate. -/
theorem State.trainOutcome_passed {r : CeTraining} {rate eye : Nat} (h : s.media.fch[ch].passes r.eyes = some (rate, eye))
    (pins : List PinFault) : ∃ t, s.trainOutcome ch ce r pins = t ∧ t.media.fch[ch].ces[ce] = (s.media.fch[ch].ces[ce]).passed r rate eye ∧
      t.media.fch[ch].rateNow ≤ rate ∧ t.media.fch[ch].present = s.media.fch[ch].present ∧
      (∀ k : Fin 64, k ≠ ch → t.media.fch[k] = s.media.fch[k]) ∧ t.media.profile = s.media.profile ∧ Changes [.media, .evr] s t := by
  obtain ⟨low, hlow, hmedia⟩ := s.ceTrained_media ch ce r rate eye
  have e : s.trainOutcome ch ce r pins = s.ceTrained ch ce r rate eye := by
    unfold State.trainOutcome
    rw [h]
  have hfch : (s.ceTrained ch ce r rate eye).media.fch[ch] =
      { s.media.fch[ch] with ces := s.media.fch[ch].ces.upd ce (fun c => c.passed r rate eye), rateNow := low } := by
    rw [hmedia, State.setFch_fch, State.setFch_fch]
  refine ⟨_, e, ?_, ?_, ?_, fun k hk => ?_, ?_, (State.ceTrained_changes ..).mono rfl⟩
  · rw [hfch]
    exact Tbl.upd_get _ _ _
  · rw [hfch]
    exact hlow
  · rw [hfch]
  · rw [hmedia, State.setFch_fch_ne _ hk, State.setFch_fch_ne _ hk]
  · rw [hmedia]
    rfl

/-- Before there is a population record no die is declared failed. -/
theorem State.dieFails_unrecorded (h : s.media.population = none) (d reason : Nat) : s.dieFails d reason = s := by
  have hd : (!(s.media.dies_.contains d)) = true := by
    rw [Media.dies_, h]
    rfl
  exact if_pos (Or.inr hd)

theorem State.foldl_dieFails_unrecorded (h : s.media.population = none) (ds : List Nat) (reason : Nat) :
    ds.foldl (fun s d => s.dieFails d reason) s = s := by
  induction ds with
  | nil => rfl
  | cons d ds ih => rw [List.foldl_cons, State.dieFails_unrecorded h, ih]

/-- A chip enable is lost before there is a population record. -/
theorem State.loseCe_unrecorded (h : s.media.population = none) (hiso : s.media.fch[ch].isolate = false)
    (hlost : s.media.fch[ch].ces[ce].lost = false) : s.loseCe ch ce = ((s.setFch ch (fun f => { f with
      ces := f.ces.upd ce (fun c => { c with lost := true, retraining := false, probe := none }), pinLatch := f.pinflt })).emit
      (.pins ch (some ce))).log 0x3012 (chSlice ch) (leBytes 1 ch.val ++ leBytes 1 ce.val) := by
  unfold State.loseCe
  rw [hiso, hlost]
  refine (if_neg (by simp)).trans (((if_neg (by simp [h, State.emit, State.emits, State.setFch, State.setMedia]))).trans
    (State.foldl_dieFails_unrecorded ?_ _ _))
  exact h

/-- Training that passed at no rate: the chip enable is lost, and its pins are said to be. -/
theorem State.trainOutcome_failed {r : CeTraining} (h : s.media.fch[ch].passes r.eyes = none) (hpop : s.media.population = none)
    (hiso : s.media.fch[ch].isolate = false) (hlost : s.media.fch[ch].ces[ce].lost = false) :
    (s.trainOutcome ch ce r []).media.fch[ch].trainFail = true ∧ (s.trainOutcome ch ce r []).media.fch[ch].ces[ce].lost = true ∧
      Output.pins ch (some ce) ∈ (s.trainOutcome ch ce r []).out := by
  have hset := State.setFch_fch s ch (fun f => { f with trainFail := true })
  have hcut := (State.Sequenced.refl (s.setFch ch (fun f => { f with trainFail := true }))).busCut ch
  obtain ⟨t, ht⟩ : ∃ t, t = ((s.setFch ch (fun f => { f with trainFail := true })).busCut ch).setFch ch
    (fun f => { f with pinflt := BitVec.ofNat 32 (pinFlt []) }) := ⟨_, rfl⟩
  have htfch : t.media.fch[ch].trainFail = true ∧ t.media.fch[ch].isolate = false ∧ t.media.fch[ch].ces = s.media.fch[ch].ces := by
    rw [ht, State.setFch_fch]
    refine ⟨?_, ?_, ?_⟩
    · exact (congrArg Fch.trainFail (hcut.fch ch) :).trans (congrArg Fch.trainFail hset :)
    · exact (congrArg Fch.isolate (hcut.fch ch) :).trans ((congrArg Fch.isolate hset :).trans hiso)
    · exact (congrArg Fch.ces (hcut.fch ch) :).trans (congrArg Fch.ces hset :)
  have htpop : t.media.population = none := by
    rw [ht]
    exact (congrArg Media.population hcut.media :).trans hpop
  obtain ⟨hfail, htiso, hces⟩ := htfch
  have e : s.trainOutcome ch ce r [] = ((t.loseCe ch ce).busGo ch).pumpChannel ch := by
    unfold State.trainOutcome
    rw [h, ht]
    have hiso' : (s.setFch ch (fun f => { f with trainFail := true })).media.fch[ch].isolate = false := by rw [hset]; exact hiso
    unfold State.pinCheck
    rw [hiso']
    rfl
  have hgo := ((State.Sequenced.refl (t.loseCe ch ce)).busGo ch).pumpChannel ch
  rw [e]
  have hl := State.loseCe_unrecorded (ce := ce) htpop htiso (by rw [hces]; exact hlost)
  have hlf : (t.loseCe ch ce).media.fch[ch] = { t.media.fch[ch] with
      ces := t.media.fch[ch].ces.upd ce (fun c => { c with lost := true, retraining := false, probe := none })
      pinLatch := t.media.fch[ch].pinflt } := by
    rw [hl]
    exact State.setFch_fch t ch _
  refine ⟨?_, ?_, ?_⟩
  · refine (congrArg Fch.trainFail (hgo.fch ch) :).trans ?_
    rw [hlf]
    exact hfail
  · rw [hgo.ces ch, hlf]
    exact congrArg CeSt.lost (Tbl.upd_get _ _ _)
  · refine hgo.out.subset ?_
    rw [hl]
    exact List.mem_append_right _ List.mem_cons_self

end

/-! ### A status poll that times out (R170 to R172) -/

section
variable {s : State} {d : Nat}

/-- The state in which the die has been polled and the time-out noted. -/
def State.pollNoted (s : State) (d : Nat) : State :=
  (s.polled d).setFch (chOf d) (fun f => { f with pollAt := [(d, s.tb.count.toNat)] })

theorem State.pollNoted_changes (s : State) (d : Nat) : Changes [.media, .out] s (s.pollNoted d) :=
  Changes.step (State.setFch_changes ..) rfl (s.polled_busMoved d).rest

theorem State.pollNoted_die (s : State) (d e : Nat) : (s.pollNoted d).media.die e = s.media.die e :=
  (s.polled_busMoved d).die e

theorem State.pollNoted_fch (s : State) (d : Nat) : (s.pollNoted d).media.fch[chOf d].offBus =
    { s.media.fch[chOf d].offBus with pollAt := [(d, s.tb.count.toNat)] } := by
  rw [← (s.polled_busMoved d).fch (chOf d), State.pollNoted, State.setFch_fch]
  rfl

theorem exec_statusPollTimeout (h : s.live = true) (pins : List PinFault) :
    exec (.statusPollTimeout d pins) s = .next (((s.pollTimeout d pins).probesGo (chOf d)).settleReads) := by
  change execStatusPollTimeout d pins s = _
  rw [execStatusPollTimeout, State.whenLive_live h]

theorem State.pollTimeout_eq (hin : s.media.inService d = true) (hpoll : s.media.fch[chOf d].pollAt = []) (pins : List PinFault) :
    s.pollTimeout d pins = if 2 ≤ (s.media.die d).timeouts + 1 then (s.pollNoted d).dieFails d 1
      else ((s.pollNoted d).setDie d (fun x => { x with timeouts := (s.media.die d).timeouts + 1 })).transfer d [.cmd d 5] := by
  have hdie := s.pollNoted_die d d
  unfold State.pollNoted at hdie
  unfold State.pollTimeout State.pollNoted
  simp only [hin, hpoll, Bool.not_true, Bool.false_eq_true, if_false, List.filter_nil, List.any_nil, hdie]

/-- A transfer that was asked for waits for the bus, or is on it. -/
theorem State.transfer_mem (s : State) (d : Nat) (x : Xfer) : x ∈ (s.transfer d [x]).media.fch[chOf d].bus ∨
    ∃ n, (s.transfer d [x]).media.fch[chOf d].busNow = some (x, n) := by
  obtain ⟨t, ht⟩ : ∃ t, t = s.setFch (chOf d) (fun f => { f with bus := f.bus ++ [x] }) := ⟨_, rfl⟩
  have hx : x ∈ t.media.fch[chOf d].bus := by
    rw [ht, State.setFch_fch]
    exact List.mem_append_right _ List.mem_cons_self
  change x ∈ ((s.setFch (chOf d) (fun f => { f with bus := f.bus ++ [x] })).busGo (chOf d)).media.fch[chOf d].bus ∨
    ∃ n, ((s.setFch (chOf d) (fun f => { f with bus := f.bus ++ [x] })).busGo (chOf d)).media.fch[chOf d].busNow = some (x, n)
  rw [← ht]
  unfold State.busGo
  dsimp only
  split
  · next y _ _ =>
    change x ∈ (t.setFch (chOf d) _).media.fch[chOf d].bus ∨ ∃ n, (t.setFch (chOf d) _).media.fch[chOf d].busNow = some (x, n)
    rw [State.setFch_fch]
    by_cases hxy : x = y
    · subst hxy
      exact Or.inr ⟨_, rfl⟩
    · exact Or.inl ((List.mem_erase_of_ne hxy).mpr hx)
  · exact Or.inl hx

/-- The first rate that passes is one from the target down, with an eye of at least 10 steps. -/
theorem Fch.passes_some {f : Fch} {eyes : List (Nat × Nat)} {rate eye : Nat} (h : f.passes eyes = some (rate, eye)) :
    10 ≤ eye ∧ rate ≤ f.target := by
  have hrates : ∀ x ∈ f.rates, x.1 ≤ f.target := by
    unfold Fch.rates Fch.target
    split <;> decide
  obtain ⟨x, hx, hpass⟩ := List.exists_of_findSome?_eq_some h
  split at hpass
  · next e _ =>
    split at hpass
    · next h10 =>
      obtain ⟨rfl, rfl⟩ := Prod.mk.inj (Option.some.inj hpass)
      exact ⟨le_min h10.1 h10.2, hrates x hx⟩
    · cases hpass
  · cases hpass

end

/-- Settles O20: training writes one chip enable and its channel, recentring one chip enable, and what the bus and the sequencer do
meanwhile leaves both. -/
theorem channelTraining : Obligations.ChannelTraining := by
  unfold Obligations.ChannelTraining
  refine ⟨?_, fun f eyes rate eye => Fch.passes_some, ?_, ?_⟩
  · intro ch ce r q s hlive hiso hlost hre hen htr hpop hl hids hprof
    have hhere : r.luns.any Option.isSome = true := by
      obtain ⟨x, hx⟩ := List.exists_mem_of_length_pos (show 0 < r.luns.length by omega)
      obtain ⟨id, rfl, -⟩ := hids x hx
      exact List.any_eq_true.mpr ⟨_, hx, rfl⟩
    obtain ⟨hfit, hset, hpres⟩ := State.lunsAnswered_fitted (ch := ch) (ce := ce) hpop hl hids hprof
    have hexec : exec (.ceTrainingDone ch ce r []) s = .next ((s.lunsAnswered ch ce r).trainOutcome ch ce r []) :=
      (exec_ceTrainingDone hlive r []).trans (congrArg _ (State.ceTraining_eq hiso hlost hre hen htr hhere))
    have hfch := State.setFch_fch s ch (fun f => { f with state := 2 })
    have hrate : (s.lunsAnswered ch ce r).media.fch[ch].rate = s.media.fch[ch].rate :=
      (congrArg Fch.rate hfit.fch :).trans (congrArg Fch.rate hfch :)
    have hpasses : (s.lunsAnswered ch ce r).media.fch[ch].passes r.eyes = s.media.fch[ch].passes r.eyes := by
      simp only [Fch.passes, Fch.rates, hrate]
    refine ⟨fun rate eye hpass => ?_, fun hpass => ?_⟩
    · obtain ⟨t, e, hce, hnow, hpr, hothers, hp, hch⟩ := State.trainOutcome_passed (ce := ce) (hpasses.trans hpass) []
      refine ⟨_, hexec, ?_⟩
      rw [e, hce, hp]
      refine ⟨rfl, rfl, rfl, rfl, hnow, fun l hlt => hpr ▸ hpres l hlt, fun k hk => ?_, hset,
        Changes.step hch rfl (Changes.step hfit.rest rfl ((State.setFch_changes ..).mono rfl))⟩
      rw [hothers k hk, hfit.others k hk, State.setFch_fch_ne _ hk]
    · obtain ⟨hfail, hl', hout⟩ := State.trainOutcome_failed (ce := ce) (hpasses.trans hpass) hfit.population
        ((congrArg Fch.isolate hfit.fch :).trans ((congrArg Fch.isolate hfch :).trans hiso))
        (by rw [(congrArg Fch.ces hfit.fch :), (congrArg Fch.ces hfch :)]; exact hlost)
      exact ⟨_, hexec, hfail, hl', hout⟩
  · intro ch ce rd wr pins s hlive hen hiso hrec hlost htr hre hgo
    have hr : s.Recentres ch ce := ⟨hen, hiso, hrec, hlost, htr, hre, hgo⟩
    refine ⟨fun d hd hall => ?_, fun d hd hboth => ?_, fun hd => ?_⟩
    · have hexec := (exec_recentreDue hlive rd wr pins).trans (congrArg _ (State.recentre_probes hr hd (probeBits rd wr) pins))
      obtain ⟨rfl, rfl⟩ := Media.probeLun_some hd
      have hmv := State.probeTo_moves pins hall
      have hces : (s.probed d).media.fch[chOf d].ces = s.media.fch[chOf d].ces :=
        (congrArg Fch.ces ((s.transfer_busMoved d _).fch (chOf d)) :)
      have hce : (s.probeTo d (probeBits rd wr) pins).media.fch[chOf d].ces[ceOf d] =
          (s.media.fch[chOf d].ces[ceOf d]).recentre ((s.media.fch[chOf d].ces[ceOf d]).probed (probeBits rd wr)) := by
        rw [hmv, State.setFch_fch]
        exact (Tbl.upd_get _ _ _).trans (by rw [hces])
      refine ⟨_, hexec, ?_⟩
      rw [hce]
      refine ⟨fun i hi => ?_, rfl, rfl, ?_⟩
      · rw [CeSt.recentre_bit _ _ (CeSt.length_probed ..) hi]
        exact ⟨moved_near _ _, fun h3 h8 => by rw [CeSt.probed_write _ _ h3 h8]; rfl⟩
      · rw [hmv]
        exact Changes.step (State.setFch_changes ..) rfl (s.transfer_busMoved d _).rest
    · have hexec := (exec_recentreDue hlive rd wr []).trans (congrArg _ (State.recentre_probes hr hd (probeBits rd wr) []))
      obtain ⟨rfl, rfl⟩ := Media.probeLun_some hd
      obtain ⟨dq, hch⟩ := State.probeTo_retrains hboth
      have hces : (s.probed d).media.fch[chOf d].ces = s.media.fch[chOf d].ces :=
        (congrArg Fch.ces ((s.transfer_busMoved d _).fch (chOf d)) :)
      have hce : (s.probeTo d (probeBits rd wr) []).media.fch[chOf d].ces[ceOf d] =
          (s.media.fch[chOf d].ces[ceOf d]).retrain dq (s.probed d).tb.count.toNat := by
        rw [hch.ces, State.retrains]
        change ((s.probed d).setFch (chOf d) _).media.fch[chOf d].ces[ceOf d] = _
        rw [State.setFch_fch]
        exact (Tbl.upd_get _ _ _).trans (by rw [hces])
      refine ⟨_, hexec, ?_⟩
      rw [hce]
      exact ⟨rfl, rfl, hch.out.subset (List.mem_append_right _ List.mem_cons_self)⟩
    · have hexec := (exec_recentreDue hlive rd wr pins).trans (congrArg _ (State.recentre_waits hr hd (probeBits rd wr) pins))
      refine ⟨_, hexec, ?_⟩
      rw [State.setFch_fch]
      have hce := Tbl.upd_get s.media.fch[ch].ces ce (fun c => { c with probe := some (probeBits rd wr, pins) })
      exact ⟨(congrArg CeSt.probe hce :), (congrArg CeSt.bits hce :), State.setFch_changes ..⟩
  · intro d pins s hlive hin hpoll
    have hexec := (exec_statusPollTimeout hlive pins).trans (congrArg _ (congrArg State.settleReads
      (congrArg (fun t => State.probesGo t (chOf d)) (State.pollTimeout_eq hin hpoll pins))))
    refine ⟨fun h0 => ?_, fun h1 => ?_⟩
    · rw [if_neg (by omega), h0] at hexec
      have hbus := ((s.pollNoted d).setDie d (fun x => { x with timeouts := 1 })).transfer_busMoved d [.cmd d 5]
      have hoff := (hbus.fch (chOf d)).trans (s.pollNoted_fch d)
      refine ⟨_, hexec, ?_, ?_, State.transfer_mem .., ?_, (congrArg Fch.pollAt hoff :), ?_⟩
      · rw [hbus.die, State.setDie_die]
      · have hout := (((State.Sequenced.refl (s.pollNoted d)).setDie d (fun x => { x with timeouts := 1 })).transfer d [.cmd d 5]).out
        exact hout.subset (List.mem_append_right _ List.mem_cons_self)
      · have hfailed := (congrArg Fch.failed hoff :)
        exact congrArg (fun x => BitVec.getLsbD x (posOf d)) hfailed
      · exact Changes.step hbus.rest rfl (Changes.step (State.setDie_changes ..) rfl (s.pollNoted_changes d))
    · rw [if_pos (by omega)] at hexec
      exact ⟨s.pollNoted d, hexec, (congrArg Fch.pollAt (s.pollNoted_fch d) :), s.pollNoted_changes d⟩

end Sys2Proof.Machine

end

section
/-! The statement of chapter 11 about owner commands (R383 to R389). -/

namespace Sys2Proof.Machine

open Sys2Proof

/-! ### What carries an owner command -/

section
variable {s : State} {v : Via} {opc : Nat}

/-- The management bus while the dictionary answers, or a Security command that holds its locks. -/
def State.Carries (s : State) (v : Via) (opc : Nat) : Prop :=
  (v = .bmc ∧ s.dictServes = true) ∨ ∃ fseq c0, v = .host fseq ∧ s.AdminReady fseq opc c0

theorem State.onVia_carried (h : s.Carries v opc) (ho : opc < 256) (f : State → State) : s.onVia v opc f = f s := by
  rcases h with ⟨rfl, hs⟩ | ⟨fseq, c0, rfl, hr⟩
  · exact if_pos hs
  · exact State.onAdmin_ready hr ho (fun _ s => f s)

/-- The parts that the end of an owner command leaves. -/
theorem State.viaEnd_keeps (s : State) (v : Via) (bytes : List Byte) : (s.viaEnd v bytes).sec = s.sec ∧
    (s.viaEnd v bytes).evr = s.evr ∧ (s.viaEnd v bytes).vault = s.vault ∧ (s.viaEnd v bytes).dict = s.dict :=
  have h := State.viaEnd_changes s v bytes
  ⟨h.rest .sec (by decide), h.rest .evr (by decide), h.rest .vault (by decide), h.rest .dict (by decide)⟩

/-! ### The nonce and the result (R383, R386) -/

/-- A new nonce is held. -/
def State.nonceDrawn (s : State) : State :=
  { s with
    free := s.free + 1
    sec := { s.sec with nonce := some (Config.drbg s.free, s.tb.count.toNat), drbgReq := s.sec.drbgReq + 1 } }

theorem State.nonceDrawn_changes (s : State) : Changes [.sec, .out, .free] s s.nonceDrawn :=
  Changes.sec_free_with _ _ rfl rfl (.refl _ s)

theorem exec_ownerNonce (h : s.Carries v 0x82) :
    exec (.ownerNonce v) s = .next (s.nonceDrawn.viaEnd v (leBytes 32 (Config.drbg s.free).toNat)) :=
  congrArg Host.Outcome.next (State.onVia_carried h (by decide) _)

theorem exec_ownerResult (h : s.Carries v 0x82) : exec (.ownerResult v) s = .next (s.viaEnd v [s.sec.ownerResult]) :=
  congrArg Host.Outcome.next (State.onVia_carried h (by decide) _)

end

/-! ### When a command is refused (R384 to R386) -/

section
variable {s : State} {c : OwnerCmd}

theorem State.nonceGood_iff (s : State) (c : OwnerCmd) :
    s.nonceGood c = true ↔ ∃ t0, s.sec.nonce = some (c.nonce, t0) ∧ s.tb.count.toNat ≤ t0 + 12000000000 := by
  unfold State.nonceGood
  cases hn : s.sec.nonce with
  | none => simp
  | some x =>
    obtain ⟨n, t⟩ := x
    simp only [Bool.and_eq_true, beq_iff_eq, decide_eq_true_eq, Option.some.injEq, Prod.mk.injEq]
    exact ⟨fun ⟨hn, ht⟩ => ⟨t, ⟨hn, rfl⟩, ht⟩, fun ⟨_, ⟨hn, e⟩, ht⟩ => ⟨hn, e ▸ ht⟩⟩

/-- The key that a command is checked under. -/
def State.ownerKey (s : State) (k : Nat) (c : OwnerCmd) : Option (List Byte) :=
  if k = 1 then some (padTo 96 0 c.param) else s.sec.owner

theorem State.ownerRefuses_none (k : Nat) (bad : Bool) : s.ownerRefuses k c bad = none ↔
    c.magic = 0x4F574E31 ∧ s.sealed = false ∧ s.nonceGood c = true ∧ c.serial = (if s.bst.calibOk then s.bst.serial else 0) ∧
      (∃ key, s.ownerKey k c = some key ∧ Config.ecdsaOk key (Config.sha384 (ownerSigned c k)) c.sig = true) ∧
      ¬ (k = 1 ∧ s.sec.owner.isSome = true) ∧ bad = false := by
  unfold State.ownerRefuses
  rw [← State.ownerKey]
  generalize (if s.bst.calibOk then s.bst.serial else 0) = serial
  split
  · next hm => exact iff_of_false (by simp) (fun h => hm h.1)
  next hm =>
  split
  · next hs => exact iff_of_false (by simp) (fun h => absurd (hs.symm.trans h.2.1) (by decide))
  next hs =>
  split
  · next hn =>
    refine iff_of_false (by simp) (fun ⟨_, _, hgood, hser, _⟩ => ?_)
    rcases hn with hn | hn
    · rw [hgood] at hn
      cases hn
    · exact hn hser
  next hn =>
  obtain ⟨hgood, hser⟩ := not_or.mp hn
  rw [not_not] at hm hser
  have hg : s.nonceGood c = true := by simpa using hgood
  have hsealed : s.sealed = false := by simpa using hs
  cases hk : s.ownerKey k c with
  | none => exact iff_of_false (by simp) (fun ⟨_, _, _, _, ⟨key, hkey, _⟩, _⟩ => nomatch hkey)
  | some key =>
    dsimp only
    split
    · next hbad =>
      refine iff_of_false (by simp) (fun ⟨_, _, _, _, ⟨key', hkey, hok⟩, _⟩ => ?_)
      rw [← Option.some.inj hkey] at hok
      rw [hok] at hbad
      cases hbad
    next hok =>
    have hok' : Config.ecdsaOk key (Config.sha384 (ownerSigned c k)) c.sig = true := by simpa using hok
    split
    · next hown => exact iff_of_false (by simp) (fun ⟨_, _, _, _, _, hno, _⟩ => hno hown)
    next hown =>
    split
    · next hb => exact iff_of_false (by simp) (fun ⟨_, _, _, _, _, _, hb'⟩ => absurd (hb.symm.trans hb') (by decide))
    · next hb => exact iff_of_true rfl ⟨hm, hsealed, hg, hser, ⟨key, rfl, hok'⟩, hown, by simpa using hb⟩

/-! ### A command is carried out (R383 to R385) -/

/-- The eight owner commands: opcode, command, and the check of its own. -/
def ownerCommand (s : State) (k : Nat) (i : Instr) (v : Via) (c : OwnerCmd) (bad : Bool) : Prop :=
  (k = 1 ∧ i = .ownerTakeOwnership v c ∧ bad = decide (c.param.length ≠ 96)) ∨ (k = 2 ∧ i = .ownerSetLock v c ∧ bad = false) ∨
    (k = 3 ∧ i = .ownerClearLock v c ∧ bad = false) ∨
    (k = 4 ∧ i = .ownerReplaceKey v c ∧ bad = decide (c.param.length ≠ 96)) ∨
    (k = 5 ∧ i = .ownerWriteEntry v c ∧ bad = (decide (92 < field c.param 3 1) ||
      (s.writeRefused 5 (entryParam c.param).1 (entryParam c.param).2.1 (entryParam c.param).2.2).isSome)) ∨
    (k = 6 ∧ i = .ownerProvisionSlot2 v c ∧ bad = decide (c.param.length < 48)) ∨ (k = 7 ∧ i = .ownerRelease v c ∧ bad = false) ∨
    (k = 8 ∧ i = .ownerAuthoriseDebug v c ∧ bad = false)

/-- What an accepted command does. -/
def State.ownerAct (s : State) (k : Nat) (c : OwnerCmd) : State :=
  match k with
  | 1 => s.awaitPresence 1 c.param
  | 2 => (s.setSec (fun k => { k with ownerLock := true })).log 0x5201 0x30
  | 3 => s.awaitPresence 3 []
  | 4 => s.awaitPresence 4 c.param
  | 5 => match s.entryOf (entryParam c.param).1 (entryParam c.param).2.1 with
    | some d => s.commitWrite d (entryParam c.param).1 (entryParam c.param).2.1 { writer := 5, value := (entryParam c.param).2.2, tag := 0 }
    | none => s
  | 6 => s.setSec (fun k => { k with slot2Hash := some (c.param.take 48, s.tb.count.toNat) })
  | 7 => s.awaitPresence 7 []
  | _ => s.awaitPresence 8 []

/-- The state in which the command has been accepted: its nonce is used up, and the context is page 15's (R357). -/
def State.ownerAccepted (s : State) : State :=
  { s with sec := { s.sec with nonce := none, ownerResult := 0 }, vault := { s.vault with context := 15 } }

theorem exec_ownerCommand {k : Nat} {i : Instr} {v : Via} {bad : Bool} (hi : ownerCommand s k i v c bad) :
    exec i s = .next (s.ownerCmd v k c bad (fun s => s.ownerAct k c)) := by
  rcases hi with ⟨rfl, rfl, rfl⟩ | ⟨rfl, rfl, rfl⟩ | ⟨rfl, rfl, rfl⟩ | ⟨rfl, rfl, rfl⟩ | ⟨rfl, rfl, rfl⟩ | ⟨rfl, rfl, rfl⟩ |
    ⟨rfl, rfl, rfl⟩ | ⟨rfl, rfl, rfl⟩
  · rfl
  · rfl
  · rfl
  · rfl
  · rfl
  · rfl
  · rfl
  · rfl

theorem State.ownerCmd_refused {k : Nat} {v : Via} {bad : Bool} {r : Nat} (h : s.Carries v 0x81)
    (hr : s.ownerRefuses k c bad = some r) (act : State → State) : s.ownerCmd v k c bad act =
      (((s.setSec (fun k => { k with nonce := none })).setResult r).log 0x5205 0x30 (leBytes 2 k ++ leBytes 1 r)).viaEnd v [] := by
  refine (State.onVia_carried h (by decide) _).trans ?_
  dsimp only
  rw [hr]

theorem State.ownerCmd_accepted {k : Nat} {v : Via} {bad : Bool} (h : s.Carries v 0x81)
    (hr : s.ownerRefuses k c bad = none) (act : State → State) : s.ownerCmd v k c bad act = (act s.ownerAccepted).viaEnd v [] := by
  refine (State.onVia_carried h (by decide) _).trans ?_
  dsimp only
  rw [hr]
  rfl

/-- A command that needs presence waits for it. -/
theorem State.awaitPresence_sec (s : State) (k : Nat) (param : List Byte) : (s.awaitPresence k param).sec =
    { s.sec with ownerResult := 1, waiting := some { opcode := k, param := param } } := by
  unfold State.awaitPresence
  dsimp only
  split
  · rfl
  · rfl

theorem State.awaitPresence_vault (s : State) (k : Nat) (param : List Byte) : (s.awaitPresence k param).vault = s.vault :=
  (State.awaitPresence_changes s k param).rest .vault (by decide)

/-- An owner's write of an entry touches neither the security state nor the key vault. -/
theorem State.ownerAct_write (s : State) (c : OwnerCmd) : (s.ownerAct 5 c).sec = s.sec ∧ (s.ownerAct 5 c).vault = s.vault := by
  change (match s.entryOf (entryParam c.param).1 (entryParam c.param).2.1 with
    | some d => s.commitWrite d _ _ _
    | none => s).sec = s.sec ∧ (match s.entryOf (entryParam c.param).1 (entryParam c.param).2.1 with
    | some d => s.commitWrite d _ _ _
    | none => s).vault = s.vault
  cases s.entryOf (entryParam c.param).1 (entryParam c.param).2.1 with
  | none => exact ⟨rfl, rfl⟩
  | some d => exact ⟨(State.commitWrite_changes ..).rest .sec (by decide), (State.commitWrite_changes ..).rest .vault (by decide)⟩

/-- A write that is neither write-only nor of one requester joins the window of its entry. -/
theorem State.commitWrite_window (s : State) {d : Desc64} {index sub : Nat} (w : WinWrite) (ha : d.access ≠ 3) (hf : d.flags % 2 = 0) :
    (s.commitWrite d index sub w).dict.windows.get? (index * 256 + sub) =
      some (((s.dict.windows.get? (index * 256 + sub)).getD []) ++ [w]) := by
  unfold State.commitWrite
  rw [if_neg ha, if_neg (by omega)]
  dsimp only
  split
  · exact AMap.get?_put _ _ _
  · exact AMap.get?_put _ _ _

/-- The commands that need presence. -/
theorem State.ownerAct_waits (s : State) (c : OwnerCmd) {k : Nat} (hk : k = 1 ∨ k = 3 ∨ k = 4 ∨ k = 7 ∨ k = 8) :
    s.ownerAct k c = s.awaitPresence k (if k = 1 ∨ k = 4 then c.param else []) := by
  rcases hk with rfl | rfl | rfl | rfl | rfl <;> rfl

/-- Whatever an accepted command does, its nonce stays used up and page 15 is the context. -/
theorem State.ownerAct_accepted (s : State) (c : OwnerCmd) {k : Nat} {i : Instr} {v : Via} {bad : Bool}
    (hi : ownerCommand s k i v c bad) : (s.ownerAccepted.ownerAct k c).sec.nonce = none ∧
      (s.ownerAccepted.ownerAct k c).vault.context = 15 := by
  have waits : k = 1 ∨ k = 3 ∨ k = 4 ∨ k = 7 ∨ k = 8 → (s.ownerAccepted.ownerAct k c).sec.nonce = none ∧
      (s.ownerAccepted.ownerAct k c).vault.context = 15 := fun hk => by
    rw [State.ownerAct_waits _ c hk, State.awaitPresence_sec, State.awaitPresence_vault]
    exact ⟨rfl, rfl⟩
  rcases hi with ⟨rfl, -⟩ | ⟨rfl, -⟩ | ⟨rfl, -⟩ | ⟨rfl, -⟩ | ⟨rfl, -⟩ | ⟨rfl, -⟩ | ⟨rfl, -⟩ | ⟨rfl, -⟩
  · exact waits (by decide)
  · exact ⟨rfl, rfl⟩
  · exact waits (by decide)
  · exact waits (by decide)
  · obtain ⟨hsec, hvault⟩ := s.ownerAccepted.ownerAct_write c
    rw [hsec, hvault]
    exact ⟨rfl, rfl⟩
  · exact ⟨rfl, rfl⟩
  · exact waits (by decide)
  · exact waits (by decide)

/-! ### Presence (R387, R388) -/

theorem exec_presenceHold_done (h : s.live = true) {w : OwnerWait} (hw : s.sec.waiting = some w) (hb : s.board.btn ≠ 2) :
    exec (.presenceHold true) s = .next (((s.setSec (fun k => { k with waiting := none })).setResult 0).presenceAct w) := by
  change execPresenceHold true s = _
  rw [execPresenceHold, State.whenLive_live h, hw]
  exact congrArg _ (if_pos ⟨rfl, hb⟩)

theorem exec_presenceHold_void (h : s.live = true) {w : OwnerWait} (hw : s.sec.waiting = some w) {b : Bool}
    (hb : b = false ∨ s.board.btn = 2) : exec (.presenceHold b) s = .next s := by
  have hnot : ¬ (b = true ∧ s.board.btn ≠ 2) := by
    rintro ⟨rfl, hbtn⟩
    exact hb.elim (fun e => nomatch e) hbtn
  change execPresenceHold b s = _
  rw [execPresenceHold, State.whenLive_live h, hw]
  exact congrArg _ (if_neg hnot)

theorem exec_presenceHold_unasked (h : s.live = true) (hw : s.sec.waiting = none) (b : Bool) :
    exec (.presenceHold b) s = .next s := by
  change execPresenceHold b s = _
  rw [execPresenceHold, State.whenLive_live h, hw]

theorem exec_presenceWindowExpire (h : s.live = true) : exec .presenceWindowExpire s =
    .next (if s.sec.waiting.isSome then (s.setSec (fun k => { k with waiting := none })).setResult 4 else s) := by
  change execPresenceWindowExpire s = _
  rw [execPresenceWindowExpire, State.whenLive_live h]

theorem State.keyEvent_sec (s : State) (k : Nat) : (s.keyEvent k).sec = s.sec := rfl

/-- The event of a change of the owner's key, with the start of its digest. -/
theorem State.keyEvent_evr_some {s : State} {key : List Byte} (h : s.sec.owner = some key) (k : Nat) :
    (s.keyEvent k).evr = (s.log 0x5203 0x30 (leBytes 2 k ++ (padTo 48 0 (Config.sha384 key)).take 8)).evr := by
  rw [State.keyEvent, h]

theorem State.keyEvent_evr_none {s : State} (h : s.sec.owner = none) (k : Nat) :
    (s.keyEvent k).evr = (s.log 0x5203 0x30 (leBytes 2 k ++ List.replicate 8 0)).evr := by
  rw [State.keyEvent, h]

/-- The state at the end of the hold, before the command acts. -/
def State.presenceGiven (s : State) : State := (s.setSec (fun k => { k with waiting := none })).setResult 0

theorem State.presenceAct_debug (s : State) {w : OwnerWait} (h : w.opcode = 8) :
    s.presenceAct w = s.setSec (fun k => { k with debugAuth := true }) := by
  rw [State.presenceAct, h]
  rfl

theorem State.presenceAct_take (s : State) {w : OwnerWait} (h : w.opcode = 1 ∨ w.opcode = 4) :
    s.presenceAct w = (s.setSec (fun k => { k with owner := some (padTo 96 0 w.param) })).keyEvent w.opcode := by
  rcases h with h | h
  · rw [State.presenceAct, h]
    rfl
  · rw [State.presenceAct, h]
    rfl

theorem State.presenceAct_clear (s : State) {w : OwnerWait} (h : w.opcode = 3) :
    s.presenceAct w = (s.setSec (fun k => { k with ownerLock := false })).log 0x5202 0x30 := by
  rw [State.presenceAct, h]
  rfl

theorem State.presenceAct_release (s : State) {w : OwnerWait} (h : w.opcode = 7) :
    s.presenceAct w = (s.setSec (fun k => { k with owner := none, ownerLock := false })).keyEvent 7 := by
  rw [State.presenceAct, h]
  rfl

theorem State.presenceAct_take_evr (s : State) {w : OwnerWait} (h : w.opcode = 1 ∨ w.opcode = 4) : (s.presenceAct w).evr =
    (s.log 0x5203 0x30 (leBytes 2 w.opcode ++ (padTo 48 0 (Config.sha384 (padTo 96 0 w.param))).take 8)).evr := by
  rw [State.presenceAct_take s h, State.keyEvent_evr_some (key := padTo 96 0 w.param) rfl]
  exact State.log_evr_congr rfl rfl rfl _ _ _

theorem State.presenceAct_release_evr (s : State) {w : OwnerWait} (h : w.opcode = 7) : (s.presenceAct w).evr =
    (s.log 0x5203 0x30 (leBytes 2 7 ++ List.replicate 8 0)).evr := by
  rw [State.presenceAct_release s h, State.keyEvent_evr_none rfl]
  exact State.log_evr_congr rfl rfl rfl _ _ _

theorem State.presenceGiven_log (s : State) (code src : Nat) (data : List Byte) :
    (s.presenceGiven.log code src data).evr = (s.log code src data).evr :=
  State.log_evr_congr rfl rfl rfl _ _ _

/-- Whatever the command, its wait is over with a good result. -/
theorem State.presenceAct_done (s : State) (w : OwnerWait) :
    (s.presenceAct w).sec.waiting = s.sec.waiting ∧ (s.presenceAct w).sec.ownerResult = s.sec.ownerResult := by
  unfold State.presenceAct
  split <;> exact ⟨rfl, rfl⟩

end

/-- Settles O50: a command is its refusal or its act between the nonce that it uses up and the answer, and neither the answer nor a
written entry touches what the statement speaks of. -/
theorem ownerCommands : Obligations.OwnerCommands := by
  unfold Obligations.OwnerCommands
  refine ⟨?_, ?_, ?_, ?_, ?_, fun b s h hw => ⟨exec_presenceHold_unasked h hw b, ?_⟩⟩
  · intro s hd
    have hc : s.Carries .bmc 0x82 := Or.inl ⟨rfl, hd⟩
    exact ⟨⟨_, exec_ownerNonce hc, rfl, rfl, Changes.step (State.emits_changes ..) rfl s.nonceDrawn_changes⟩, ⟨_, exec_ownerResult hc, rfl,
      State.emits_changes ..⟩⟩
  · intro fseq c0 s h
    have hc : s.Carries (.host fseq) 0x82 := Or.inr ⟨fseq, c0, rfl, h⟩
    refine ⟨⟨_, exec_ownerNonce hc, ?_, ?_⟩, ⟨_, exec_ownerResult hc, (State.viaEnd_keeps s _ _).1, ?_⟩⟩
    · rw [(State.viaEnd_keeps _ _ _).1]
      rfl
    · exact h.flying.completes_same (u := s.nonceDrawn.emit _) ⟨rfl, fun _ => rfl, rfl, rfl⟩ .success 0 0
    · exact h.flying.completes_reply _ .success 0 0
  · intro k c bad s
    rw [State.ownerRefuses_none, State.nonceGood_iff]
    by_cases hk : k = 1
    · simp only [State.ownerKey, hk, if_true, Option.some.injEq, exists_eq_left', ne_eq, not_true_eq_false, false_implies, true_and,
        true_implies, Bool.not_eq_true, Option.isSome_eq_false_iff, Option.isNone_iff_eq_none]
      tauto
    · simp only [State.ownerKey, hk, if_false, ne_eq, not_false_eq_true, true_implies, false_implies, false_and, true_and]
  · intro i k bad v c s hc hi
    have hcar : s.Carries v 0x81 := hc
    have hexec := exec_ownerCommand (s := s) hi
    refine ⟨fun r hr => ?_, fun hr => ?_⟩
    · rw [State.ownerCmd_refused hcar hr] at hexec
      obtain ⟨hsec, hevr, hvault, hdict⟩ := State.viaEnd_keeps
        (((s.setSec (fun k => { k with nonce := none })).setResult r).log 0x5205 0x30 (leBytes 2 k ++ leBytes 1 r)) v []
      exact ⟨_, hexec, hsec, hevr, hvault, hdict⟩
    · rw [State.ownerCmd_accepted hcar hr] at hexec
      obtain ⟨hsec, hevr, hvault, hdict⟩ := State.viaEnd_keeps (s.ownerAccepted.ownerAct k c) v []
      obtain ⟨hnonce, hctx⟩ := s.ownerAct_accepted c hi
      refine ⟨_, hexec, ?_⟩
      rw [hsec, hevr, hvault, hdict]
      refine ⟨hnonce, hctx, ?_, ?_, ?_, ?_⟩
      · rintro rfl
        exact ⟨rfl, rfl, rfl⟩
      · rintro rfl
        exact ⟨rfl, rfl⟩
      · rintro rfl
        refine ⟨by rw [(s.ownerAccepted.ownerAct_write c).1]; rfl, fun d hd ha hf => ?_⟩
        have e : s.ownerAccepted.ownerAct 5 c = s.ownerAccepted.commitWrite d (entryParam c.param).1 (entryParam c.param).2.1
            { writer := 5, value := (entryParam c.param).2.2, tag := 0 } := by
          have hd' : s.ownerAccepted.entryOf (entryParam c.param).1 (entryParam c.param).2.1 = some d := hd
          rw [State.ownerAct, hd']
        rw [e]
        exact State.commitWrite_window _ _ ha hf
      · intro hk
        rw [State.ownerAct_waits _ c hk, State.awaitPresence_sec]
        exact ⟨rfl, rfl, rfl, rfl, rfl⟩
  · intro w s h hw
    refine ⟨fun b hb => exec_presenceHold_void h hw hb, fun hb => ?_, ?_⟩
    · have hexec := exec_presenceHold_done h hw hb
      obtain ⟨hwait, hres⟩ := s.presenceGiven.presenceAct_done w
      refine ⟨s.presenceGiven.presenceAct w, hexec, hwait, hres, fun ho => ?_, fun ho => ?_, fun ho => ?_, fun ho => ?_,
        (changes_touches_of_exec hexec).mono rfl⟩
      · rw [State.presenceAct_take_evr _ ho, State.presenceGiven_log, State.presenceAct_take _ ho, State.keyEvent_sec]
        exact ⟨rfl, rfl, rfl⟩
      · rw [State.presenceAct_clear _ ho]
        exact ⟨rfl, rfl, rfl⟩
      · rw [State.presenceAct_release_evr _ ho, State.presenceGiven_log, State.presenceAct_release _ ho, State.keyEvent_sec]
        exact ⟨rfl, rfl, rfl⟩
      · rw [State.presenceAct_debug _ ho]
        exact ⟨rfl, rfl, rfl⟩
    · refine ⟨_, exec_presenceWindowExpire h, ?_⟩
      rw [hw]
      exact ⟨rfl, changes_touches_of_exec (i := .presenceWindowExpire) ((exec_presenceWindowExpire h).trans (by rw [hw]))⟩
  · rw [exec_presenceWindowExpire h, hw]
    rfl

end Sys2Proof.Machine

end

section
/-! The statement of chapter 15 about requests to the dictionary and its commit window (R484, R486 to R488, R490 to R496). -/

namespace Sys2Proof.Machine

open Sys2Proof

section
variable (s : State) (p : Fin 2) (tag : BitVec 64) (st : Nat) (mark : Nat × Nat × Nat) (value : List Byte)

/-! ### Responses -/

/-- A mailbox with its response. -/
def Mailbox.ended (b : Mailbox) (tag : BitVec 64) (st : Nat) (mark : Nat × Nat × Nat) (value : List Byte) : Mailbox :=
  { b with
    busy := false, done := true, code := BitVec.ofNat 8 st, tag := tag, writer := BitVec.ofNat 8 mark.1, wOpsec := mark.2.1
    wPcc := mark.2.2, value := value }

/-- The dictionary once a port has its response: the message that follows leaves it. -/
theorem State.respond_port_dict : (s.respond (some p) tag st mark value).dict =
    { s.dict with mbox := s.dict.mbox.upd p (fun b => b.ended tag st mark value) } := by
  change (s.mboxEnd p tag st mark value).dict = _
  unfold State.mboxEnd
  dsimp only
  split
  · exact (State.msg_changes ..).rest .dict (by decide)
  · rfl

theorem State.respond_port_mbox : (s.respond (some p) tag st mark value).dict.mbox[p] = s.dict.mbox[p].ended tag st mark value := by
  rw [State.respond_port_dict]
  exact Tbl.upd_get _ _ _

theorem State.respond_port_changes : Changes [.dict, .out] s (s.respond (some p) tag st mark value) := State.respond_changes ..

theorem State.respond_bus : s.respond none tag st mark value =
    s.emit (.miReply st mark.1 (leBytes 8 mark.2.1 ++ leBytes 4 mark.2.2 ++ leBytes 4 0 ++ value)) := rfl

end

/-! ### Requests reach the commit point -/

section
variable {s : State} {p : Fin 2} {r : DictReq} {v : List Byte}

theorem State.mailbox_open (h : s.MailboxOpen p) (op : Nat) : s.mailbox p op r = s.handle (some p) op r := by
  unfold State.mailbox
  simp only [h.link, h.awake, h.serves, h.goes, h.ide, h.free, Bool.not_true, Bool.false_eq_true, if_false, Bool.true_or, false_and]

theorem State.busRequest_open (h : s.BusOpen) (op : Nat) : s.busRequest op r = s.handle none op r := by
  have hs := h.serves
  unfold State.busRequest
  split
  · next hp => simp [State.dictServes, hp] at hs
  · next hp => simp [State.dictServes, hp] at hs
  · next hp => simp [State.dictServes, hp] at hs
  · simp only [h.goes, h.free, hs, Bool.false_eq_true, Bool.and_false, or_self, if_false, if_true]

section
variable (h : s.boot.source ≠ 2) (v : Option (Fin 2))
include h

/-! The commit point of the running image handles a request by its operation. -/

theorem State.handle_read : s.handle v 1 r = s.doRead v r := if_neg (fun hf => h hf.1)

theorem State.handle_write : s.handle v 2 r = s.doWrite v r := if_neg (fun hf => h hf.1)

theorem State.handle_describe : s.handle v 3 r = s.doDescribe v r := if_neg (fun hf => h hf.1)

theorem State.handle_invalid {op : Nat} (ho : op = 0 ∨ 3 < op) : s.handle v op r = s.respond v r.tag 9 (0, 0, 0) [] := by
  refine (if_neg (fun hf => h hf.1)).trans ?_
  split
  · omega
  · omega
  · omega
  · rfl

end

theorem exec_dictRead (h : s.MailboxOpen p) : exec (.dictRead p r) s = .next (s.doRead (some p) r) :=
  congrArg Host.Outcome.next ((State.mailbox_open h 1).trans (State.handle_read h.image _))

theorem exec_dictWrite (h : s.MailboxOpen p) : exec (.dictWrite p r) s = .next (s.doWrite (some p) r) :=
  congrArg Host.Outcome.next ((State.mailbox_open h 2).trans (State.handle_write h.image _))

theorem exec_dictDescribe (h : s.MailboxOpen p) : exec (.dictDescribe p r) s = .next (s.doDescribe (some p) r) :=
  congrArg Host.Outcome.next ((State.mailbox_open h 3).trans (State.handle_describe h.image _))

theorem exec_miDictRead (h : s.BusOpen) : exec (.miDictRead r) s = .next (s.doRead none r) :=
  congrArg Host.Outcome.next ((State.busRequest_open h 1).trans (State.handle_read h.image _))

theorem exec_miDictWrite (h : s.BusOpen) : exec (.miDictWrite r) s = .next (s.doWrite none r) :=
  congrArg Host.Outcome.next ((State.busRequest_open h 2).trans (State.handle_write h.image _))

theorem exec_miDictDescribe (h : s.BusOpen) : exec (.miDictDescribe r) s = .next (s.doDescribe none r) :=
  congrArg Host.Outcome.next ((State.busRequest_open h 3).trans (State.handle_describe h.image _))

/-- An operation that is none of the three is answered with code 9. -/
theorem exec_dictRequestInvalid (h : s.MailboxOpen p) (op : Byte) (tag : BitVec 64) :
    exec (.dictRequestInvalid p op tag) s = .next (s.respond (some p) tag 9 (0, 0, 0) []) := by
  change execDictRequestInvalid p op tag s = _
  rw [execDictRequestInvalid, State.mailbox_open h, State.handle_invalid h.image]
  split
  · exact Or.inl rfl
  · exact Or.inr (by omega)

/-- A mailbox with a request in it refuses another. -/
theorem State.mailbox_busy (hlink : s.linkUp p = true) (hawake : s.asleep = false) (hserves : s.dictServes = true)
    (hide : s.param 0x2000 4 ≠ 1) (hbusy : s.dict.mbox[p].busy = true) (op : Nat) :
    s.mailbox p op r = s.setMbox p (fun b => { b with code := 8 }) := by
  unfold State.mailbox
  simp only [hlink, hawake, hserves, hide, hbusy, Bool.not_true, Bool.false_eq_true, if_false, Bool.true_or, false_and, if_true]

/-! ### Reads and descriptions (R484, R487) -/

/-- What a read answers, before the slot of a notification that was read is freed. -/
def State.readAnswer (s : State) (v : Option (Fin 2)) (r : DictReq) : State :=
  s.respond v r.tag (s.readEntry (reqOf (writerOf v)) r.index.toNat r.sub.toNat).1 (s.writeMark r.index.toNat r.sub.toNat)
    (s.readEntry (reqOf (writerOf v)) r.index.toNat r.sub.toNat).2

/-- A read frees at most a slot of the ring of the management bus. -/
theorem State.doRead_frees (s : State) (v : Option (Fin 2)) (r : DictReq) : ∃ ring, s.doRead v r =
    { s.readAnswer v r with dict := { (s.readAnswer v r).dict with bmcRing := ring } } := by
  unfold State.doRead
  dsimp only
  split
  · exact ⟨_, rfl⟩
  · exact ⟨_, rfl⟩

theorem State.doRead_changes' (s : State) (v : Option (Fin 2)) (r : DictReq) : Changes [.dict, .out] s (s.doRead v r) :=
  (State.doRead_changes s v r).mono rfl

theorem State.readEntry_unknown (h : s.entryOf r.index.toNat r.sub.toNat = none) (req : Nat) :
    s.readEntry req r.index.toNat r.sub.toNat = (1, []) := by
  rw [State.readEntry, h]

theorem State.readEntry_writeOnly {d : Desc64} (h : s.entryOf r.index.toNat r.sub.toNat = some d) (ha : d.access = 3) (req : Nat) :
    s.readEntry req r.index.toNat r.sub.toNat = (2, []) := by
  rw [State.readEntry, h]
  exact if_pos ha

theorem State.readEntry_value {d : Desc64} (h : s.entryOf r.index.toNat r.sub.toNat = some d) (ha : d.access ≠ 3) (req : Nat) :
    s.readEntry req r.index.toNat r.sub.toNat = (0, s.entryValue d req r.index.toNat r.sub.toNat) := by
  rw [State.readEntry, h]
  exact if_neg ha

theorem State.doRead_port (s : State) (p : Fin 2) (r : DictReq) : ∃ x, s.readEntry p.val r.index.toNat r.sub.toNat = x ∧
    (s.doRead (some p) r).dict.mbox[p] = s.dict.mbox[p].ended r.tag x.1 (s.writeMark r.index.toNat r.sub.toNat) x.2 ∧
    (s.doRead (some p) r).dict.vals = s.dict.vals := by
  obtain ⟨ring, hring⟩ := s.doRead_frees (some p) r
  refine ⟨_, rfl, ?_, ?_⟩
  · rw [hring]
    exact State.respond_port_mbox ..
  · rw [hring]
    exact (congrArg Dict.vals (State.respond_port_dict ..) :)

theorem State.doRead_bus (h : s.readEntry 2 r.index.toNat r.sub.toNat = (0, v)) : (s.doRead none r).out = s.out ++
    [Output.miReply 0 (s.writeMark r.index.toNat r.sub.toNat).1 (leBytes 8 (s.writeMark r.index.toNat r.sub.toNat).2.1 ++
      leBytes 4 (s.writeMark r.index.toNat r.sub.toNat).2.2 ++ leBytes 4 0 ++ v)] ∧ (s.doRead none r).dict.vals = s.dict.vals := by
  obtain ⟨ring, hring⟩ := s.doRead_frees none r
  have ha : s.readAnswer none r = s.emit (.miReply 0 (s.writeMark r.index.toNat r.sub.toNat).1
      (leBytes 8 (s.writeMark r.index.toNat r.sub.toNat).2.1 ++ leBytes 4 (s.writeMark r.index.toNat r.sub.toNat).2.2 ++ leBytes 4 0 ++
        v)) := by
    rw [State.readAnswer, State.respond_bus]
    change s.emit (.miReply (s.readEntry 2 r.index.toNat r.sub.toNat).1 _ (_ ++ (s.readEntry 2 r.index.toNat r.sub.toNat).2)) = _
    rw [h]
  rw [hring, ha]
  exact ⟨rfl, rfl⟩

theorem State.doDescribe_unknown (h : s.entryOf r.index.toNat r.sub.toNat = none) (v : Option (Fin 2)) :
    s.doDescribe v r = s.respond v r.tag 1 (0, 0, 0) [] := by
  rw [State.doDescribe, h]

theorem State.doDescribe_port {d : Desc64} (h : s.entryOf r.index.toNat r.sub.toNat = some d) (p : Fin 2) :
    s.doDescribe (some p) r = s.respond (some p) r.tag 0 (0, 0, 0) d.bytes := by
  rw [State.doDescribe, h]

theorem State.doDescribe_bus {d : Desc64} (h : s.entryOf r.index.toNat r.sub.toNat = some d) :
    s.doDescribe none r = s.emit (.miReply 0 0 d.bytes) := by
  rw [State.doDescribe, h]

/-! ### Writes (R484, R491) -/

theorem State.doWrite_refused {v : Option (Fin 2)} {st : Nat}
    (h : s.writeRefused (writerOf v) r.index.toNat r.sub.toNat r.value = some st) :
    s.doWrite v r = s.respond v r.tag st (s.writeMark r.index.toNat r.sub.toNat) [] := by
  rw [State.doWrite, h]

theorem State.doWrite_taken {v : Option (Fin 2)} {d : Desc64} (hd : s.entryOf r.index.toNat r.sub.toNat = some d)
    (h : s.writeRefused (writerOf v) r.index.toNat r.sub.toNat r.value = none) :
    s.doWrite v r = s.commitWrite d r.index.toNat r.sub.toNat
      { writer := BitVec.ofNat 8 (writerOf v), value := r.value, tag := r.tag } := by
  rw [State.doWrite, h, hd]

theorem writer_port (p : Fin 2) : (BitVec.ofNat 8 (writerOf (some p))).toNat = p.val + 1 := by
  revert p
  decide

theorem portOf_writer (p : Fin 2) : portOf (p.val + 1) = some p := by
  revert p
  decide

/-- A write joins the window of its entry. -/
def State.joined (s : State) (index sub : Nat) (w : WinWrite) : State :=
  let ws := (s.dict.windows.get? (index * 256 + sub)).getD [] ++ [w]
  { s with dict := { s.dict with windows := s.dict.windows.put (index * 256 + sub) ws } }

/-- The write of a port joins the window of its entry, and its mailbox stays busy. -/
theorem State.commitWrite_port (s : State) {d : Desc64} {index sub : Nat} {w : WinWrite} (hw : w.writer.toNat = p.val + 1)
    (ha : d.access ≠ 3) (hf : d.flags % 2 = 0) : s.commitWrite d index sub w =
      (s.joined index sub w).setMbox p (fun b => { b with busy := true }) := by
  rw [State.commitWrite, if_neg ha, if_neg (by omega), hw, portOf_writer]
  rfl

/-- The write of the management bus joins the window of its entry. -/
theorem State.commitWrite_bus (s : State) {d : Desc64} {index sub : Nat} {w : WinWrite} (hw : w.writer.toNat = 3)
    (ha : d.access ≠ 3) (hf : d.flags % 2 = 0) : s.commitWrite d index sub w = s.joined index sub w := by
  rw [State.commitWrite, if_neg ha, if_neg (by omega), hw]
  rfl

/-- The state that holds a per-requester value. -/
def State.ownValue (s : State) (req index sub : Nat) (value : List Byte) : State :=
  { s with dict := { s.dict with perReq := s.dict.perReq.put (reqKey req index sub) value } }

/-- A per-requester write of a port takes force at once and is answered. -/
theorem State.commitWrite_own (s : State) {d : Desc64} {index sub : Nat} {w : WinWrite} (hw : w.writer.toNat = p.val + 1)
    (ha : d.access ≠ 3) (hf : d.flags % 2 = 1) : s.commitWrite d index sub w =
      (s.ownValue p.val index sub w.value).respond (some p) w.tag 0 ((s.ownValue p.val index sub w.value).writeMark index sub) [] := by
  have hreq : reqOf w.writer.toNat = p.val := by rw [hw]; rfl
  have hle : ¬ 4 ≤ w.writer.toNat := by omega
  rw [State.commitWrite, if_neg ha, if_pos hf, hreq, State.ack, if_neg hle, hw, portOf_writer]
  rfl

/-! ### The checks of a write (R482, R484) -/

section
variable {writer index sub : Nat} {v : List Byte} {d : Desc64} (h : s.entryOf index sub = some d)
include h

theorem State.writeRefused_readOnly (ha : d.access = 0 ∨ d.access = 4) : s.writeRefused writer index sub v = some 2 := by
  rw [State.writeRefused, h]
  exact if_pos ha

theorem State.writeRefused_writer (h0 : d.access ≠ 0) (h4 : d.access ≠ 4) (hw : d.writers.testBit (writerBit writer) = false) :
    s.writeRefused writer index sub v = some 3 := by
  rw [State.writeRefused, h]
  exact (if_neg (not_or.mpr ⟨h0, h4⟩)).trans (if_pos (by rw [hw]; rfl))

theorem State.writeRefused_size (h0 : d.access ≠ 0) (h4 : d.access ≠ 4) (hw : d.writers.testBit (writerBit writer) = true)
    (hs : v.length ≠ d.size) : s.writeRefused writer index sub v = some 5 := by
  rw [State.writeRefused, h]
  exact (if_neg (not_or.mpr ⟨h0, h4⟩)).trans ((if_neg (by rw [hw]; decide)).trans (if_pos hs))

theorem State.writeRefused_range (h0 : d.access ≠ 0) (h4 : d.access ≠ 4) (hw : d.writers.testBit (writerBit writer) = true)
    (hs : v.length = d.size) (h8 : d.type ≠ 8) (h9 : d.type ≠ 9) (hr : ofLeBytes v < d.min ∨ d.max < ofLeBytes v) :
    s.writeRefused writer index sub v = some 4 := by
  have hbad : badValue d (ofLeBytes v) = true := by
    unfold badValue
    rcases hr with hr | hr <;> simp [h8, h9, hr]
  rw [State.writeRefused, h]
  exact (if_neg (not_or.mpr ⟨h0, h4⟩)).trans ((if_neg (by rw [hw]; decide)).trans ((if_neg (not_not.mpr hs)).trans (if_pos hbad)))

end

end

/-! ### A window closes (R490, R492 to R495) -/

section
variable {s : State} {p : Fin 2} {index sub : Nat}

/-- A value that has taken force, with its writer and its time. -/
def State.stamped (s : State) (w : WinWrite) : DictVal :=
  { bytes := w.value, writer := w.writer, opsec := s.clocks.opsec.toNat, pcc := s.clocks.pcc.toNat }

/-- A value takes force: beside it only the value log is written, whatever the entry does. -/
theorem State.putEntry_dict (s : State) (index sub : Nat) (w : WinWrite) : ∃ vlog,
    (s.putEntry index sub w.writer.toNat w.value).dict =
      { s.dict with vals := s.dict.vals.put (index * 256 + sub) (s.stamped w), vlog := vlog } := by
  have hw : BitVec.ofNat 8 w.writer.toNat = w.writer := by
    rw [BitVec.ofNat_toNat, BitVec.setWidth_eq]
  unfold State.putEntry
  dsimp only
  rw [hw]
  split
  · exact ⟨_, (State.applyEntry_changes ..).rest .dict (by decide)⟩
  · exact ⟨_, (State.applyEntry_changes ..).rest .dict (by decide)⟩

/-- A port's write is answered. -/
theorem State.ack_port_dict (s : State) {w : WinWrite} (hw : w.writer.toNat = p.val + 1) (st index sub : Nat) :
    (s.ack w st index sub).dict =
      { s.dict with mbox := s.dict.mbox.upd p (fun b => b.ended w.tag st (s.writeMark index sub) []) } := by
  rw [State.ack, if_neg (by omega), hw, portOf_writer]
  exact State.respond_port_dict ..

/-- A write of the management bus is answered on the bus. -/
theorem State.ack_bus_dict (s : State) {w : WinWrite} (hw : w.writer.toNat = 3) (st index sub : Nat) :
    (s.ack w st index sub).dict = s.dict := by
  rw [State.ack, if_neg (by omega), hw]
  rfl

/-- A mailbox whose ring takes a notification, or overflows. -/
def Mailbox.notified (b : Mailbox) (n : Ntf) : Mailbox :=
  if (b.wr - b.rd).toNat = 31 then { b with overflow := true }
  else { b with ring := b.ring.put b.wr.toNat n, wr := b.wr + 1, ntf := true }

theorem State.ringPut_dict (s : State) (p : Fin 2) (n : Ntf) :
    (s.ringPut p n).dict = { s.dict with mbox := s.dict.mbox.upd p (fun b => b.notified n) } := by
  unfold State.ringPut
  dsimp only
  split
  · next h =>
    have e : s.dict.mbox.upd p (fun b => b.notified n) = s.dict.mbox.upd p (fun b => { b with overflow := true }) :=
      Tbl.upd_congr _ _ (if_pos h)
    rw [e]
    rfl
  · next h =>
    have e : s.dict.mbox.upd p (fun b => b.notified n) =
        s.dict.mbox.upd p (fun b => { b with ring := b.ring.put b.wr.toNat n, wr := b.wr + 1, ntf := true }) :=
      Tbl.upd_congr _ _ (if_neg h)
    rw [e]
    split
    · exact (State.msg_changes ..).rest .dict (by decide)
    · rfl

/-- A window that is closed leaves the table. -/
def State.windowTaken (s : State) (k : Nat) : State := { s with dict := { s.dict with windows := s.dict.windows.del k } }

/-- No request is held: none is served. -/
theorem State.serveDict_idle (h : s.dict.held = []) : s.serveDict = s := by
  have e : ({ s.dict with held := [] } : Dict) = s.dict := by rw [← h]
  unfold State.serveDict
  dsimp only
  split
  · rfl
  · rw [h, List.foldl_nil, e]

theorem exec_commitWindowClose (h : s.live = true) (index : BitVec 16) (sub : Byte) :
    exec (.commitWindowClose index sub) s = .next (s.closeWindow index.toNat sub.toNat).serveDict := by
  change execCommitWindowClose index sub s = _
  rw [execCommitWindowClose, State.whenLive_live h]

theorem State.closeWindow_none (h : s.dict.windows.get? (index * 256 + sub) = none) : s.closeWindow index sub = s := by
  rw [State.closeWindow, h]

/-- Only FREE_HI and FREE_LO have a range that depends on another entry (R482). -/
theorem State.dependsOk_other (s : State) (h : index ≠ 0x3310) (sub v : Nat) : s.dependsOk index sub v = true := by
  unfold State.dependsOk
  rw [if_neg (fun hf => h hf.1), if_neg (fun hf => h hf.1)]

theorem takeWhile_of_false {α : Type} {q : α → Bool} {x : α} (h : q x = false) (xs : List α) : (x :: xs).takeWhile q = [] :=
  List.takeWhile_cons_of_neg (fun hx => absurd (h.symm.trans hx) (by decide))

theorem dropWhile_of_false {α : Type} {q : α → Bool} {x : α} (h : q x = false) (xs : List α) :
    (x :: xs).dropWhile q = x :: xs :=
  List.dropWhile_cons_of_neg (fun hx => absurd (h.symm.trans hx) (by decide))

/-- The write of highest rank takes force, is answered, and overrides those below it. -/
theorem State.closeWindow_ranked {ws below : List WinWrite} {w : WinWrite} (hi : index ≠ 0x3310)
    (hws : s.dict.windows.get? (index * 256 + sub) = some ws)
    (hr : rankWrites (((s.entryOf index sub).map (·.authority)).getD 2) ws = w :: below) :
    s.closeWindow index sub = below.foldl (fun s x => s.overridden index sub w.writer x)
      (((s.windowTaken (index * 256 + sub)).putEntry index sub w.writer.toNat w.value).ack w 0 index sub) := by
  have hr' : rankWrites ((((s.windowTaken (index * 256 + sub)).entryOf index sub).map (·.authority)).getD 2) ws = w :: below := hr
  have hok : (!(s.windowTaken (index * 256 + sub)).dependsOk index sub (ofLeBytes w.value)) = false := by
    rw [State.dependsOk_other _ hi]
    rfl
  unfold State.closeWindow
  rw [hws]
  dsimp only
  rw [← State.windowTaken, hr',
    takeWhile_of_false (q := fun w : WinWrite => !(s.windowTaken (index * 256 + sub)).dependsOk index sub (ofLeBytes w.value)) hok,
    dropWhile_of_false (q := fun w : WinWrite => !(s.windowTaken (index * 256 + sub)).dependsOk index sub (ofLeBytes w.value)) hok]
  rfl

theorem rankWrites_single (auth : Nat) (w : WinWrite) : rankWrites auth [w] = [w] := by
  unfold rankWrites
  cases h4 : w.writer == 4 with
  | true => simp only [List.reverse_singleton, List.filter_cons, List.filter_nil, h4, Bool.not_true, Bool.false_eq_true, if_true,
      if_false, List.append_nil, ite_self]
  | false =>
    cases h3 : w.writer == 3 with
    | true => simp only [List.reverse_singleton, List.filter_cons, List.filter_nil, h4, h3, Bool.not_true, Bool.not_false,
        Bool.false_eq_true, if_true, if_false, List.append_nil, List.nil_append, ite_self]
    | false => simp only [List.reverse_singleton, List.filter_cons, List.filter_nil, h4, h3, Bool.not_false,
        Bool.false_eq_true, if_true, if_false, List.append_nil, List.nil_append, ite_self]

/-- Of a host's write and one of the management bus the authority of the entry decides, or the later one (R492). -/
theorem rankWrites_pair {h b : WinWrite} (hh : h.writer ≠ 3) (hh4 : h.writer ≠ 4) (hb : b.writer = 3) (auth : Nat) (bFirst : Bool) :
    rankWrites auth (if bFirst then [b, h] else [h, b]) =
      if auth = 0 then [h, b] else if auth = 1 then [b, h] else if bFirst then [h, b] else [b, h] := by
  have h4 : (h.writer == 4) = false := beq_eq_false_iff_ne.mpr hh4
  have h3 : (h.writer == 3) = false := beq_eq_false_iff_ne.mpr hh
  have b4 : (b.writer == 4) = false := by rw [hb]; rfl
  have b3 : (b.writer == 3) = true := by rw [hb]; rfl
  unfold rankWrites
  cases bFirst with
  | true => simp only [if_true, List.reverse_cons, List.reverse_nil, List.nil_append, List.cons_append, List.filter_cons,
      List.filter_nil, h4, h3, b4, b3, Bool.not_false, Bool.not_true, Bool.false_eq_true, if_false]
  | false => simp only [if_true, List.reverse_cons, List.reverse_nil, List.nil_append, List.cons_append, List.filter_cons,
      List.filter_nil, h4, h3, b4, b3, Bool.not_false, Bool.not_true, Bool.false_eq_true, if_false]

/-- What has been written, and who is told, once the write of highest rank has taken force. -/
theorem State.wins_dict (s : State) {w : WinWrite} (hw : w.writer.toNat = p.val + 1) : ∃ vlog mark,
    (((s.windowTaken (index * 256 + sub)).putEntry index sub w.writer.toNat w.value).ack w 0 index sub).dict =
      { s.dict with
        windows := s.dict.windows.del (index * 256 + sub), vals := s.dict.vals.put (index * 256 + sub) (s.stamped w), vlog := vlog
        mbox := s.dict.mbox.upd p (fun b => b.ended w.tag 0 mark []) } := by
  obtain ⟨vlog, h⟩ := (s.windowTaken (index * 256 + sub)).putEntry_dict index sub w
  refine ⟨vlog, ((s.windowTaken (index * 256 + sub)).putEntry index sub w.writer.toNat w.value).writeMark index sub,
    (State.ack_port_dict _ hw 0 index sub).trans ?_⟩
  rw [h]
  rfl

theorem State.wins_dict_bus (s : State) {w : WinWrite} (hw : w.writer.toNat = 3) : ∃ vlog,
    (((s.windowTaken (index * 256 + sub)).putEntry index sub w.writer.toNat w.value).ack w 0 index sub).dict =
      { s.dict with
        windows := s.dict.windows.del (index * 256 + sub), vals := s.dict.vals.put (index * 256 + sub) (s.stamped w)
        vlog := vlog } := by
  obtain ⟨vlog, h⟩ := (s.windowTaken (index * 256 + sub)).putEntry_dict index sub w
  refine ⟨vlog, (State.ack_bus_dict _ hw 0 index sub).trans ?_⟩
  rw [h]
  rfl

theorem State.wins_clocks (s : State) (w : WinWrite) :
    (((s.windowTaken (index * 256 + sub)).putEntry index sub w.writer.toNat w.value).ack w 0 index sub).clocks = s.clocks :=
  ((State.ack_changes ..).rest .clocks (by decide)).trans ((State.putEntry_changes ..).rest .clocks (by decide))

/-- The notification of a write that lost. -/
def State.lossNote (s : State) (index sub : Nat) (winner : Byte) : Ntf :=
  { index := index, sub := sub, winner := winner, opsec := s.clocks.opsec.toNat }

/-- A port's write that lost: status 0xC7, and the notification in its ring. -/
theorem State.overridden_port (s : State) {x : WinWrite} (hx : x.writer.toNat = p.val + 1) (index sub : Nat) (winner : Byte) :
    ∃ mark, (s.overridden index sub winner x).dict = { s.dict with
      overrides := s.dict.overrides + 1
      mbox := s.dict.mbox.upd p (fun b => (b.ended x.tag 0xC7 mark []).notified (s.lossNote index sub winner)) } := by
  obtain ⟨t, ht⟩ : ∃ t : State, t = { s with dict := { s.dict with overrides := s.dict.overrides + 1 } } := ⟨_, rfl⟩
  have hack := State.ack_port_dict t hx 0xC7 index sub
  refine ⟨t.writeMark index sub, ?_⟩
  change (match portOf x.writer.toNat with
    | some p => ((State.ack { s with dict := { s.dict with overrides := s.dict.overrides + 1 } } x 0xC7 index sub).ringPut p
        (s.lossNote index sub winner))
    | none => _ : State).dict = _
  rw [hx, portOf_writer, ← ht]
  refine (State.ringPut_dict _ p _).trans ?_
  rw [hack, ht]
  simp only [Tbl.upd_upd]

/-- The ring of the management bus after a notification. -/
def Dict.busNotified (d : Dict) (n : Ntf) : Dict :=
  if d.bmcRing.has d.bmcNext then { d with bmcDropped := d.bmcDropped + 1 }
  else { d with bmcRing := d.bmcRing.put d.bmcNext n, bmcNext := (d.bmcNext + 1) % 32 }

theorem State.busRingPut_dict (s : State) (n : Ntf) : (s.busRingPut n).dict = s.dict.busNotified n := by
  unfold State.busRingPut Dict.busNotified
  dsimp only
  split
  · rfl
  · rfl

/-- A write of the management bus that lost. -/
theorem State.overridden_bus (s : State) {x : WinWrite} (hx : x.writer = 3) (index sub : Nat) (winner : Byte) :
    (s.overridden index sub winner x).dict =
      ({ s.dict with overrides := s.dict.overrides + 1 } : Dict).busNotified (s.lossNote index sub winner) := by
  have hnat : x.writer.toNat = 3 := by rw [hx]; rfl
  obtain ⟨t, ht⟩ : ∃ t : State, t = { s with dict := { s.dict with overrides := s.dict.overrides + 1 } } := ⟨_, rfl⟩
  have hack := State.ack_bus_dict t hnat 0xC7 index sub
  change (match portOf x.writer.toNat with
    | some p => _
    | none => if x.writer == 3 then
        ((State.ack { s with dict := { s.dict with overrides := s.dict.overrides + 1 } } x 0xC7 index sub).busRingPut
          (s.lossNote index sub winner)) else _ : State).dict = _
  rw [hx, ← ht]
  refine (State.busRingPut_dict _ _).trans ?_
  rw [hack, ht]

/-- A window whose closing leaves no request held: nothing more is served. -/
theorem exec_commitWindowClose_settled (h : s.live = true) {index : BitVec 16} {sub : Byte}
    (hheld : (s.closeWindow index.toNat sub.toNat).dict.held = []) :
    exec (.commitWindowClose index sub) s = .next (s.closeWindow index.toNat sub.toNat) := by
  rw [exec_commitWindowClose h, State.serveDict_idle hheld]

/-- The one write of a window takes force. -/
theorem State.closeWindow_alone {w : WinWrite} (hi : index ≠ 0x3310)
    (hws : s.dict.windows.get? (index * 256 + sub) = some [w]) : s.closeWindow index sub =
      ((s.windowTaken (index * 256 + sub)).putEntry index sub w.writer.toNat w.value).ack w 0 index sub :=
  State.closeWindow_ranked hi hws (rankWrites_single _ w)

/-- A value that the dependent range does not allow is refused with status 4 (R482). -/
theorem State.closeWindow_dependent {w : WinWrite} (hws : s.dict.windows.get? (index * 256 + sub) = some [w])
    (hdep : (s.windowTaken (index * 256 + sub)).dependsOk index sub (ofLeBytes w.value) = false) :
    s.closeWindow index sub = (s.windowTaken (index * 256 + sub)).ack w 4 index sub := by
  have hno : (!(s.windowTaken (index * 256 + sub)).dependsOk index sub (ofLeBytes w.value)) = true := by rw [hdep]; rfl
  unfold State.closeWindow
  rw [hws]
  dsimp only
  rw [← State.windowTaken, rankWrites_single]
  simp only [List.takeWhile_cons, List.dropWhile_cons, hno, if_true, List.takeWhile_nil, List.dropWhile_nil, List.foldl_cons,
    List.foldl_nil]

theorem WinWrite.writer_of_port {w : WinWrite} (h : w.writer.toNat = p.val + 1) : w.writer ≠ 3 ∧ w.writer ≠ 4 := by
  have hp := p.isLt
  refine ⟨fun e => ?_, fun e => ?_⟩
  · rw [e] at h
    change 3 = _ at h
    omega
  · rw [e] at h
    change 4 = _ at h
    omega

/-- Of a host's write and one of the management bus one takes force and overrides the other. -/
theorem State.closeWindow_pair {h b win : WinWrite} {bFirst : Bool} {auth : Nat} (hi : index ≠ 0x3310)
    (hh : h.writer.toNat = p.val + 1) (hb : b.writer = 3)
    (hws : s.dict.windows.get? (index * 256 + sub) = some (if bFirst then [b, h] else [h, b]))
    (ha : (s.entryOf index sub).map (·.authority) = some auth)
    (hwin : win = (if auth = 0 then h else if auth = 1 then b else if bFirst then h else b)) :
    ∃ lose, (win = b ∧ lose = h ∨ win = h ∧ lose = b) ∧ s.closeWindow index sub =
      (((s.windowTaken (index * 256 + sub)).putEntry index sub win.writer.toNat win.value).ack win 0 index sub).overridden index sub
        win.writer lose := by
  obtain ⟨h3, h4⟩ := WinWrite.writer_of_port hh
  have hrank := rankWrites_pair h3 h4 hb auth bFirst
  rw [← Option.getD_some (a := auth) (b := 2), ← ha] at hrank
  rw [ha, Option.getD_some] at hrank
  have hr : ∃ lose, (win = b ∧ lose = h ∨ win = h ∧ lose = b) ∧
      rankWrites auth (if bFirst then [b, h] else [h, b]) = [win, lose] := by
    rw [hrank, hwin]
    split
    · exact ⟨b, Or.inr ⟨rfl, rfl⟩, rfl⟩
    · split
      · exact ⟨h, Or.inl ⟨rfl, rfl⟩, rfl⟩
      · split
        · exact ⟨b, Or.inr ⟨rfl, rfl⟩, rfl⟩
        · exact ⟨h, Or.inl ⟨rfl, rfl⟩, rfl⟩
  obtain ⟨lose, hwl, hlist⟩ := hr
  refine ⟨lose, hwl, State.closeWindow_ranked hi hws (below := [lose]) ?_⟩
  rw [ha]
  exact hlist

theorem State.wins_lossNote (w : WinWrite) (winner : Byte) :
    (((s.windowTaken (index * 256 + sub)).putEntry index sub w.writer.toNat w.value).ack w 0 index sub).lossNote index sub winner =
      s.lossNote index sub winner := by
  rw [State.lossNote, State.wins_clocks]
  rfl

section
variable {h b : WinWrite} {bFirst : Bool} {auth : Nat} (hi : index ≠ 0x3310) (hh : h.writer.toNat = p.val + 1) (hb : b.writer = 3)
  (hws : s.dict.windows.get? (index * 256 + sub) = some (if bFirst then [b, h] else [h, b]))
  (ha : (s.entryOf index sub).map (·.authority) = some auth)
include hi hh hb hws ha

/-- The dictionary once the management bus has won. -/
theorem State.closeWindow_bus (hwin : b = (if auth = 0 then h else if auth = 1 then b else if bFirst then h else b)) (hne : h ≠ b) :
    ∃ vlog mark, (s.closeWindow index sub).dict = { s.dict with
      windows := s.dict.windows.del (index * 256 + sub), vals := s.dict.vals.put (index * 256 + sub) (s.stamped b), vlog := vlog
      overrides := s.dict.overrides + 1
      mbox := s.dict.mbox.upd p (fun x => (x.ended h.tag 0xC7 mark []).notified (s.lossNote index sub 3)) } := by
  obtain ⟨lose, hwl, e⟩ := State.closeWindow_pair hi hh hb hws ha hwin
  obtain rfl : lose = h := by
    rcases hwl with ⟨-, hl⟩ | ⟨hbh, -⟩
    · exact hl
    · exact absurd hbh.symm hne
  obtain ⟨vlog, hd⟩ := State.wins_dict_bus (index := index) (sub := sub) s (w := b) (by rw [hb]; rfl)
  obtain ⟨mark, ho⟩ := State.overridden_port (((s.windowTaken (index * 256 + sub)).putEntry index sub b.writer.toNat b.value).ack b 0
    index sub) hh index sub b.writer
  rw [State.wins_lossNote, hd, ← e, hb] at ho
  exact ⟨vlog, mark, ho⟩

/-- The dictionary once the port has won. -/
theorem State.closeWindow_host (hwin : h = (if auth = 0 then h else if auth = 1 then b else if bFirst then h else b)) (hne : h ≠ b) :
    ∃ vlog mark, (s.closeWindow index sub).dict = ({ s.dict with
      windows := s.dict.windows.del (index * 256 + sub), vals := s.dict.vals.put (index * 256 + sub) (s.stamped h), vlog := vlog
      overrides := s.dict.overrides + 1
      mbox := s.dict.mbox.upd p (fun x => x.ended h.tag 0 mark []) } : Dict).busNotified (s.lossNote index sub h.writer) := by
  obtain ⟨lose, hwl, e⟩ := State.closeWindow_pair hi hh hb hws ha hwin
  obtain rfl : lose = b := by
    rcases hwl with ⟨hhb, -⟩ | ⟨-, hl⟩
    · exact absurd hhb hne
    · exact hl
  obtain ⟨vlog, mark, hd⟩ := State.wins_dict (index := index) (sub := sub) s hh
  have ho := State.overridden_bus (((s.windowTaken (index * 256 + sub)).putEntry index sub h.writer.toNat h.value).ack h 0
    index sub) hb index sub h.writer
  rw [State.wins_lossNote, hd, ← e] at ho
  exact ⟨vlog, mark, ho⟩

end

theorem Mailbox.notified_code (b : Mailbox) (n : Ntf) : (b.notified n).code = b.code ∧ (b.notified n).done = b.done := by
  unfold Mailbox.notified
  split <;> exact ⟨rfl, rfl⟩

theorem Mailbox.notified_room {b : Mailbox} (h : (b.wr - b.rd).toNat ≠ 31) (n : Ntf) :
    b.notified n = { b with ring := b.ring.put b.wr.toNat n, wr := b.wr + 1, ntf := true } := if_neg h

theorem Mailbox.notified_full {b : Mailbox} (h : (b.wr - b.rd).toNat = 31) (n : Ntf) :
    b.notified n = { b with overflow := true } := if_pos h

theorem Dict.busNotified_room {d : Dict} (h : d.bmcRing.has d.bmcNext = false) (n : Ntf) :
    d.busNotified n = { d with bmcRing := d.bmcRing.put d.bmcNext n, bmcNext := (d.bmcNext + 1) % 32 } :=
  if_neg (fun hf => absurd (h.symm.trans hf) (by decide))

theorem Dict.busNotified_full {d : Dict} (h : d.bmcRing.has d.bmcNext = true) (n : Ntf) :
    d.busNotified n = { d with bmcDropped := d.bmcDropped + 1 } := if_pos h

theorem Dict.busNotified_keeps (d : Dict) (n : Ntf) : (d.busNotified n).vals = d.vals ∧ (d.busNotified n).mbox = d.mbox ∧
    (d.busNotified n).overrides = d.overrides ∧ (d.busNotified n).held = d.held := by
  unfold Dict.busNotified
  split <;> exact ⟨rfl, rfl, rfl, rfl⟩

end

theorem State.writeMark_lt (s : State) (index sub : Nat) : (s.writeMark index sub).1 < 256 := by
  unfold State.writeMark
  split
  · exact BitVec.isLt _
  · decide

/-- Settles O52: a request is an answer to its mailbox or the bus, and the closing of a window is one value put in force, one answer
for each write and one notification, none of which the acting of the entry reaches. -/
theorem dictionaryRequests : Obligations.DictionaryRequests := by
  unfold Obligations.DictionaryRequests
  refine ⟨?_, ?_, ?_, ?_, ?_, ?_, ?_⟩
  · intro p r s ho
    refine ⟨fun hd i hi => ?_, fun d hd => ⟨?_, fun ha => ?_, fun ha => ?_, fun st hst hlt => ?_, fun hok ha hf => ?_,
      fun hok ha hf => ?_⟩⟩
    · have unknown : ∀ t : State, t.dict.mbox[p] = s.dict.mbox[p].ended r.tag 1 (s.writeMark r.index.toNat r.sub.toNat) [] ∨
          t.dict.mbox[p] = s.dict.mbox[p].ended r.tag 1 (0, 0, 0) [] → t.dict.mbox[p].code = 1 ∧ t.dict.mbox[p].done = true ∧
            t.dict.mbox[p].busy = false ∧ t.dict.mbox[p].tag = r.tag := by
        rintro t (h | h) <;> rw [h] <;> exact ⟨rfl, rfl, rfl, rfl⟩
      rcases hi with rfl | rfl | rfl
      · obtain ⟨x, hx, hm, hv⟩ := s.doRead_port p r
        obtain rfl : (1, []) = x := (State.readEntry_unknown hd _).symm.trans hx
        obtain ⟨h1, h2, h3, h4⟩ := unknown _ (Or.inl hm)
        exact ⟨_, exec_dictRead ho, h1, h2, h3, h4, hv, State.doRead_changes' ..⟩
      · have hr : s.writeRefused (writerOf (some p)) r.index.toNat r.sub.toNat r.value = some 1 := by
          rw [State.writeRefused, hd]
        have e := (exec_dictWrite (r := r) ho).trans (congrArg _ (State.doWrite_refused hr))
        obtain ⟨h1, h2, h3, h4⟩ := unknown _ (Or.inl (State.respond_port_mbox s p r.tag 1 (s.writeMark r.index.toNat r.sub.toNat) []))
        exact ⟨_, e, h1, h2, h3, h4, (congrArg Dict.vals (State.respond_port_dict ..) :), State.respond_changes ..⟩
      · have e := (exec_dictDescribe (r := r) ho).trans (congrArg _ (State.doDescribe_unknown hd _))
        obtain ⟨h1, h2, h3, h4⟩ := unknown _ (Or.inr (State.respond_port_mbox s p r.tag 1 (0, 0, 0) []))
        exact ⟨_, e, h1, h2, h3, h4, (congrArg Dict.vals (State.respond_port_dict ..) :), State.respond_changes ..⟩
    · have e := (exec_dictDescribe (r := r) ho).trans (congrArg _ (State.doDescribe_port hd p))
      refine ⟨_, e, ?_⟩
      rw [State.respond_port_mbox]
      exact ⟨rfl, rfl, rfl, rfl, State.respond_changes ..⟩
    · obtain ⟨x, hx, hm, hv⟩ := s.doRead_port p r
      obtain rfl : (2, []) = x := (State.readEntry_writeOnly hd ha _).symm.trans hx
      refine ⟨_, exec_dictRead ho, ?_⟩
      rw [hm]
      exact ⟨rfl, rfl, State.doRead_changes' ..⟩
    · obtain ⟨x, hx, hm, hv⟩ := s.doRead_port p r
      obtain rfl : (0, _) = x := (State.readEntry_value hd ha _).symm.trans hx
      refine ⟨_, exec_dictRead ho, ?_⟩
      rw [hm, hv]
      refine ⟨rfl, rfl, rfl, rfl, ?_, rfl, State.doRead_changes' ..⟩
      change ((BitVec.ofNat 8 (s.writeMark r.index.toNat r.sub.toNat).1).toNat, (s.writeMark r.index.toNat r.sub.toNat).2) = _
      rw [BitVec.toNat_ofNat, Nat.mod_eq_of_lt (s.writeMark_lt ..)]
      rfl
    · have e := (exec_dictWrite (r := r) ho).trans (congrArg _ (State.doWrite_refused (v := some p) hst))
      refine ⟨_, e, ?_⟩
      rw [State.respond_port_mbox, State.respond_port_dict]
      exact ⟨rfl, rfl, rfl, rfl, rfl, State.respond_changes ..⟩
    · have e := (exec_dictWrite (r := r) ho).trans (congrArg _ ((State.doWrite_taken (v := some p) hd hok).trans
        (State.commitWrite_port s (writer_port p) ha hf)))
      exact ⟨_, e, congrArg Mailbox.busy (Tbl.upd_get _ _ _), rfl, AMap.get?_put _ _ _,
        Changes.dict_with _ rfl (Changes.dict_with _ rfl (.refl _ s))⟩
    · have e := (exec_dictWrite (r := r) ho).trans (congrArg _ ((State.doWrite_taken (v := some p) hd hok).trans
        (State.commitWrite_own s (writer_port p) ha hf)))
      refine ⟨_, e, ?_⟩
      rw [State.respond_port_mbox, State.respond_port_dict]
      exact ⟨rfl, rfl, AMap.get?_put _ _ _, rfl, (State.respond_changes ..).step rfl (Changes.dict_with _ rfl (.refl _ s))⟩
  · intro writer index sub value d s hd
    exact ⟨State.writeRefused_readOnly hd, State.writeRefused_writer hd, State.writeRefused_size hd, State.writeRefused_range hd⟩
  · intro p op tag s ho
    refine ⟨_, exec_dictRequestInvalid ho op tag, ?_⟩
    rw [State.respond_port_mbox, State.respond_port_dict]
    exact ⟨rfl, rfl, rfl, rfl, State.respond_changes ..⟩
  · intro i p s hi hlink hawake hserves hide hbusy
    have busy : ∀ op r, s.mailbox p op r = s.setMbox p (fun b => { b with code := 8 }) :=
      fun op r => State.mailbox_busy hlink hawake hserves hide hbusy op
    have e : exec i s = .next (s.setMbox p (fun b => { b with code := 8 })) := by
      obtain ⟨r, rfl | rfl | rfl⟩ := hi
      · exact congrArg Host.Outcome.next (busy 1 r)
      · exact congrArg Host.Outcome.next (busy 2 r)
      · exact congrArg Host.Outcome.next (busy 3 r)
    exact ⟨_, e, Tbl.upd_get _ _ _, rfl, Changes.dict_with _ rfl (.refl _ s)⟩
  · intro r s ho d hd
    refine ⟨fun ha => ?_, ?_, fun hok ha hf => ?_⟩
    · obtain ⟨hout, hvals⟩ := State.doRead_bus (State.readEntry_value hd ha 2)
      exact ⟨_, exec_miDictRead ho, hout, hvals, State.doRead_changes' ..⟩
    · have e := (exec_miDictDescribe (r := r) ho).trans (congrArg _ (State.doDescribe_bus hd))
      exact ⟨_, e, rfl, State.emits_changes ..⟩
    · have e := (exec_miDictWrite (r := r) ho).trans (congrArg _ ((State.doWrite_taken (v := none) hd hok).trans
        (State.commitWrite_bus s rfl ha hf)))
      exact ⟨_, e, rfl, AMap.get?_put _ _ _, rfl, Changes.dict_with _ rfl (.refl _ s)⟩
  · intro index sub s hlive hheld hne
    have hi : index.toNat ≠ 0x3310 := fun e => hne (BitVec.eq_of_toNat_eq e)
    refine ⟨fun hw => ?_, fun p w hw hp => ?_, fun p h b win bFirst auth hh hb hw ha hwin => ?_⟩
    · have e := State.closeWindow_none hw
      rw [exec_commitWindowClose_settled hlive (by rw [e]; exact hheld), e]
    · have e := State.closeWindow_alone hi hw
      obtain ⟨vlog, mark, hd⟩ := State.wins_dict (index := index.toNat) (sub := sub.toNat) s hp
      refine ⟨_, exec_commitWindowClose_settled hlive (by rw [e, hd]; exact hheld), ?_⟩
      have hm := Tbl.upd_get s.dict.mbox p (fun b => b.ended w.tag 0 mark [])
      rw [e, hd]
      refine ⟨AMap.get?_del _ _, AMap.get?_put _ _ _, ?_⟩
      dsimp only
      rw [hm]
      exact ⟨rfl, rfl, rfl, rfl⟩
    · have hhb : h ≠ b := fun e => (WinWrite.writer_of_port hh).1 (e ▸ hb)
      have hwl : win = b ∨ win = h := by
        rw [hwin]
        split
        · exact Or.inr rfl
        · split
          · exact Or.inl rfl
          · split
            · exact Or.inr rfl
            · exact Or.inl rfl
      rcases hwl with rfl | rfl
      · obtain ⟨vlog, mark, hd⟩ := State.closeWindow_bus hi hh hb hw ha hwin hhb
        refine ⟨_, exec_commitWindowClose_settled hlive (by rw [hd]; exact hheld), ?_⟩
        obtain ⟨hcode, hdone⟩ := (s.dict.mbox[p].ended h.tag 0xC7 mark []).notified_code (s.lossNote index.toNat sub.toNat 3)
        have hm := Tbl.upd_get s.dict.mbox p (fun x => (x.ended h.tag 0xC7 mark []).notified (s.lossNote index.toNat sub.toNat 3))
        rw [hd]
        refine ⟨AMap.get?_put _ _ _, rfl, fun _ _ => ?_, fun hwh => absurd hwh.symm hhb⟩
        dsimp only
        rw [hm]
        refine ⟨hcode, hdone, fun hroom => ?_, fun hfull => ?_⟩
        · rw [Mailbox.notified_room (b := s.dict.mbox[p].ended h.tag 0xC7 mark []) hroom]
          exact ⟨rfl, rfl, AMap.get?_put _ _ _⟩
        · rw [Mailbox.notified_full (b := s.dict.mbox[p].ended h.tag 0xC7 mark []) hfull]
      · obtain ⟨vlog, mark, hd⟩ := State.closeWindow_host hi hh hb hw ha hwin hhb
        obtain ⟨hvals, hmbox, hover, hkeep⟩ := Dict.busNotified_keeps ({ s.dict with
          windows := s.dict.windows.del (index.toNat * 256 + sub.toNat)
          vals := s.dict.vals.put (index.toNat * 256 + sub.toNat) (s.stamped win), vlog := vlog
          overrides := s.dict.overrides + 1
          mbox := s.dict.mbox.upd p (fun x => x.ended win.tag 0 mark []) } : Dict) (s.lossNote index.toNat sub.toNat win.writer)
        refine ⟨_, exec_commitWindowClose_settled hlive (by rw [hd, hkeep]; exact hheld), ?_⟩
        have hm := Tbl.upd_get s.dict.mbox p (fun x => x.ended win.tag 0 mark [])
        rw [hd, hvals, hmbox, hover]
        refine ⟨AMap.get?_put _ _ _, rfl, fun hwb => absurd hwb hhb, fun _ _ => ⟨?_, fun hroom => ?_, fun hfull => ?_⟩⟩
        · dsimp only
          rw [hm]
          rfl
        · refine (congrArg (fun d : Dict => d.bmcRing.get? s.dict.bmcNext) (Dict.busNotified_room ?_ _)).trans ?_
          · exact hroom
          · exact AMap.get?_put _ _ _
        · refine (congrArg Dict.bmcDropped (Dict.busNotified_full ?_ _)).trans ?_
          · exact hfull
          · rfl
  · intro w s hlive hheld hw hlow hp
    have hwr : w.writer.toNat = (0 : Fin 2).val + 1 := by
      unfold portOf at hp
      split at hp
      · next h1 => exact h1
      · split at hp
        · exact absurd (Option.some.inj hp) (by decide)
        · cases hp
    have hdep : (s.windowTaken (0x3310 * 256 + 0)).dependsOk 0x3310 0 (ofLeBytes w.value) = false := by
      unfold State.dependsOk
      rw [if_pos ⟨rfl, rfl⟩]
      exact decide_eq_false (Nat.not_le.mpr hlow)
    have e := State.closeWindow_dependent (index := 0x3310) (sub := 0) hw hdep
    have hd := (congrArg State.dict e).trans (State.ack_port_dict _ hwr 4 0x3310 0)
    refine ⟨_, exec_commitWindowClose_settled (index := 0x3310) (sub := 0) hlive ?_, ?_⟩
    · exact (congrArg Dict.held hd :).trans hheld
    · refine ⟨(congrArg Dict.vals hd :), ?_⟩
      exact (congrArg (fun d => (Dict.mbox d)[(0 : Fin 2)].code) hd :).trans (congrArg Mailbox.code (Tbl.upd_get _ _ _))

end Sys2Proof.Machine

end

section
/-! What reading records and writing rows leaves of the media: the map, the namespaces, the records on NAND and everything that is
counted of them. -/

namespace Sys2Proof.Machine

open Sys2Proof

/-- The media but for the channels and dies at work, the ladders of reads, the rows being written, and what waits for them. -/
def Media.atRest (m : Media) : Media :=
  { m with
    fch := Vector.replicate 64 {}, dies := [], reads := [], readCnt := [], nextRid := 0, rows := [], rowSeq := 0, stripes := []
    waiting := [], sysWait := [], copyWait := [], credit := 0 }

/-- The flash went on with reads and rows: nothing else of the media changed, and nothing that was sent is taken back. -/
structure State.FlashWorked (s t : State) : Prop where
  fch : ∀ c : Fin 64, t.media.fch[c].offBus = s.media.fch[c].offBus
  media : t.media.atRest = s.media.atRest
  out : s.out <+: t.out

theorem State.FlashWorked.refl (s : State) : State.FlashWorked s s := ⟨fun _ => rfl, rfl, List.prefix_refl _⟩

theorem State.FlashWorked.trans {s t u : State} (h : State.FlashWorked s t) (h' : State.FlashWorked t u) : State.FlashWorked s u :=
  ⟨fun c => (h'.fch c).trans (h.fch c), h'.media.trans h.media, h.out.trans h'.out⟩

theorem State.Sequenced.flashWorked {s t : State} (h : State.Sequenced s t) : State.FlashWorked s t :=
  ⟨h.fch, (congrArg Media.atRest h.media :), h.out⟩

section
variable {s t : State} (h : State.FlashWorked s t)
include h

/-- The media are written at work only, the channels not at all. -/
theorem State.FlashWorked.setMedia {f : Media → Media} (hf : (f t.media).fch = t.media.fch)
    (hm : (f t.media).atRest = t.media.atRest) : State.FlashWorked s (t.setMedia f) :=
  h.trans ⟨fun c => congrArg (fun v => (v[c] : Fch).offBus) hf, hm, List.prefix_refl _⟩

theorem State.FlashWorked.emits (os : List Output) : State.FlashWorked s (t.emits os) :=
  h.trans ⟨fun _ => rfl, rfl, List.prefix_append _ _⟩

theorem State.FlashWorked.log (code src : Nat) (data : List Byte) : State.FlashWorked s (t.log code src data) :=
  h.trans ⟨fun _ => rfl, rfl, List.prefix_refl _⟩

theorem State.FlashWorked.setDie (d : Nat) (f : DieSt → DieSt) : State.FlashWorked s (t.setDie d f) :=
  h.trans ⟨fun _ => rfl, rfl, List.prefix_refl _⟩

theorem State.FlashWorked.pump (d : Nat) : State.FlashWorked s (t.pump d) :=
  h.trans ((State.Sequenced.refl t).pump d).flashWorked

theorem State.FlashWorked.pumpChannel (c : Fin 64) : State.FlashWorked s (t.pumpChannel c) :=
  h.trans ((State.Sequenced.refl t).pumpChannel c).flashWorked

theorem State.FlashWorked.enqueue (d : Nat) (o : QOp) : State.FlashWorked s (t.enqueue d o) :=
  (h.setDie d _).pump d

/-- Every step of a fold of such work is one. -/
theorem State.FlashWorked.foldl {α : Type} {f : State → α → State} (hf : ∀ u x, State.FlashWorked s u → State.FlashWorked s (f u x))
    (xs : List α) : State.FlashWorked s (xs.foldl f t) := by
  induction xs generalizing t with
  | nil => exact h
  | cons x xs ih => exact ih (hf t x h)

/-! ### Reads -/

theorem State.FlashWorked.setRead (rid : Nat) (f : Ladder → Ladder) :
    State.FlashWorked s (t.setMedia (fun m => m.setRead rid f)) :=
  h.setMedia rfl rfl

theorem State.FlashWorked.startDecode (rid : Nat) : State.FlashWorked s (t.startDecode rid) := by
  unfold State.startDecode
  split
  · exact h
  · split
    · exact h
    · exact h.emits _

/-- A ladder enters the table of reads. -/
theorem State.FlashWorked.newRead (l : Ladder) : State.FlashWorked s { t with media := (t.media.newRead l).1 } :=
  h.trans ⟨fun _ => rfl, rfl, List.prefix_refl _⟩

theorem State.FlashWorked.startMember (rid : Nat) (l : Ladder) (x : Nat × Nat) : State.FlashWorked s (t.startMember rid l x) :=
  (h.newRead _).enqueue _ _

theorem State.FlashWorked.startStep (rid step : Nat) : State.FlashWorked s (t.startStep rid step) := by
  unfold State.startStep
  split
  · exact h
  · split
    · exact .foldl (.setRead h _ _) (fun _ _ hu => hu.startMember _ _ _) _
    · dsimp only
      split
      · exact .startDecode (.setRead h _ _) _
      · exact .foldl (.setRead h _ _) (fun _ _ hu => hu.enqueue _ _) _

omit h in
/-- Ladders enter the table of reads. -/
theorem Media.foldl_newRead {α : Type} (f : α → Ladder) (xs : List α) (a : Media × List Nat) :
    (xs.foldl (fun (a : Media × List Nat) x => ((a.1.newRead (f x)).1, a.2 ++ [(a.1.newRead (f x)).2])) a).1.fch = a.1.fch ∧
      (xs.foldl (fun (a : Media × List Nat) x => ((a.1.newRead (f x)).1, a.2 ++ [(a.1.newRead (f x)).2])) a).1.atRest =
        a.1.atRest := by
  induction xs generalizing a with
  | nil => exact ⟨rfl, rfl⟩
  | cons x xs ih =>
    obtain ⟨hf, hr⟩ := ih ((a.1.newRead (f x)).1, a.2 ++ [(a.1.newRead (f x)).2])
    exact ⟨hf, hr⟩

theorem State.FlashWorked.readCws (who : ReadFor) (die block page : Nat) (cws : List (Nat × List Nat)) (cap : Nat) :
    State.FlashWorked s (t.readCws who die block page cws cap) := by
  unfold State.readCws
  dsimp only
  obtain ⟨hf, hr⟩ := Media.foldl_newRead (fun x : Nat × List Nat =>
    ({ who := who, grans := x.2, die := die, block := block, page := page, cw := x.1, run := t.media.nextRid,
       refs := t.media.pageRefs page, cap := cap } : Ladder)) cws (t.media, [])
  have h' : State.FlashWorked s { t with media := _ } :=
    h.trans ⟨fun c => congrArg (fun v => (v[c] : Fch).offBus) hf, hr, List.prefix_refl _⟩
  split
  · exact .foldl h' (fun _ _ hu => hu.startStep _ _) _
  · split
    · exact h'
    · exact h'.enqueue _ _

theorem State.FlashWorked.readRecs (who : ReadFor) (rs : List Rec) (cap : Nat) : State.FlashWorked s (t.readRecs who rs cap) := by
  refine h.foldl (fun u g hu => ?_) _
  split
  · exact hu
  · exact hu.readCws _ _ _ _ _ _

theorem State.FlashWorked.startCopies (who : ReadFor) (rs : List Rec) : State.FlashWorked s (t.startCopies who rs) :=
  h.readRecs _ _ _

/-! ### Rows -/

theorem State.FlashWorked.queuePass (r : Nat) (row : Row) (p : Stripe) (pass : Nat) :
    State.FlashWorked s (t.queuePass r row p pass) :=
  h.foldl (fun _ _ hu => hu.enqueue _ _) _

theorem State.FlashWorked.queueFine (r : Nat) : State.FlashWorked s (t.queueFine r) := by
  unfold State.queueFine
  split
  · exact h
  · split
    · exact h
    · split
      · exact h
      · refine .queuePass (.setMedia h ?_ ?_) _ _ _ _
        · rfl
        · rfl

theorem State.FlashWorked.closeFull (r : Nat) : State.FlashWorked s (t.closeFull r) := by
  unfold State.closeFull
  split
  · exact h
  · split
    · exact h
    · split
      · exact h
      · lift_lets
        intro last s1 s2 s3
        have h1 : State.FlashWorked s s1 := by
          refine h.setMedia ?_ ?_ <;> dsimp only <;> split <;> rfl
        have h2 : State.FlashWorked s s2 := h1.queuePass _ _ _ _
        have h3 : State.FlashWorked s s3 := by
          unfold s3
          split
          · exact h2
          · split
            · exact h2.queueFine _
            · exact h2
        split
        · exact h2
        · split
          · exact h3.queueFine _
          · exact h3

theorem State.FlashWorked.newRow (service : Bool) (sid : Nat) (p : Stripe) :
    State.FlashWorked s (t.setMedia (fun m => (m.newRow service sid p).1)) :=
  h.setMedia rfl rfl

theorem State.FlashWorked.await (st : Stream) : State.FlashWorked s (t.setMedia (fun m => m.await st)) := by
  refine h.setMedia ?_ ?_ <;> unfold Media.await <;> split <;> rfl

theorem State.FlashWorked.placeSystem (fuel : Nat) : State.FlashWorked s (t.placeSystem fuel) := by
  induction fuel generalizing t with
  | zero => exact h
  | succ fuel ih =>
    unfold State.placeSystem
    split
    · exact h
    · split
      · split
        · exact h.await _
        · split
          · exact h
          · exact ih (h.newRow _ _ _)
      · split
        · exact h
        · split
          · refine ih (h.setMedia ?_ ?_)
            · rfl
            · rfl
          · exact ih (h.closeFull _)

theorem State.FlashWorked.systemGo : State.FlashWorked s t.systemGo := h.placeSystem _

theorem State.FlashWorked.placeCopies (fuel : Nat) : State.FlashWorked s (t.placeCopies fuel) := by
  induction fuel generalizing t with
  | zero => exact h
  | succ fuel ih =>
    unfold State.placeCopies
    split
    · exact h
    · dsimp only
      split
      · split
        · exact h.await _
        · split
          · exact h
          · refine ih (h.setMedia ?_ ?_)
            · rfl
            · rfl
      · split
        · exact h
        · split
          · refine ih (h.setMedia ?_ ?_)
            · rfl
            · rfl
          · exact ih (h.closeFull _)

theorem State.FlashWorked.copiesGo : State.FlashWorked s t.copiesGo := h.placeCopies _

theorem State.FlashWorked.moveRecords (f : Place → Bool) : State.FlashWorked s (t.moveRecords f) := by
  unfold State.moveRecords
  split
  · exact h
  · refine .systemGo (h.setMedia ?_ ?_)
    · rfl
    · rfl

theorem State.FlashWorked.ensureFinal (r : Nat) : State.FlashWorked s (t.ensureFinal r) := by
  unfold State.ensureFinal
  split
  · exact h
  · split
    · exact h
    · split
      · exact h
      · split
        · split
          · exact h.queueFine _
          · split
            · exact h.closeFull _
            · refine h.setMedia ?_ ?_
              · rfl
              · rfl
        · exact .closeFull (h.newRow _ _ _) _

theorem State.FlashWorked.closeEarly (r : Nat) : State.FlashWorked s (t.closeEarly r) := by
  unfold State.closeEarly
  split
  · exact .ensureFinal (h.closeFull _) _
  · refine h.setMedia ?_ ?_
    · rfl
    · rfl

theorem State.FlashWorked.closeStripe (sid : Nat) : State.FlashWorked s (t.closeStripe sid) := by
  unfold State.closeStripe
  refine .setMedia (.foldl h (fun u e hu => ?_) _) ?_ ?_
  · split
    · exact hu.ensureFinal _
    · exact hu.closeEarly _
  · rfl
  · rfl

end

end Sys2Proof.Machine

end

section
/-! The statement of chapter 15 about the entries whose write acts (R209, R213, R228, R233, R430, R478, R491, R495). -/

namespace Sys2Proof.Machine

open Sys2Proof

/-! ### A write that acts -/

theorem length_leBytes (n x : Nat) : (leBytes n x).length = n := by
  induction n generalizing x with
  | zero => rfl
  | succ n ih => rw [leBytes, List.length_cons, ih]

theorem ofLeBytes_leBytes (n x : Nat) (h : x < 256 ^ n) : ofLeBytes (leBytes n x) = x := by
  induction n generalizing x with
  | zero =>
    obtain rfl : x = 0 := Nat.lt_one_iff.mp h
    rfl
  | succ n ih =>
    rw [leBytes, ofLeBytes, ih (x / 256) (Nat.div_lt_of_lt_mul (by rwa [Nat.pow_succ, Nat.mul_comm] at h)), BitVec.toNat_ofNat]
    omega

section
variable {s : State} {v : Option (Fin 2)}

/-- Either master's requests reach the commit point. -/
def State.RequestOpen (s : State) (v : Option (Fin 2)) : Prop := (∀ p, v = some p → s.MailboxOpen p) ∧ (v = none → s.BusOpen)

theorem State.request_write (h : s.RequestOpen v) (r : DictReq) : s.request v 2 r = s.doWrite v r := by
  cases v with
  | none =>
    have ho := h.2 rfl
    exact (State.busRequest_open ho 2).trans (State.handle_write ho.image _)
  | some p =>
    have ho := h.1 p rfl
    exact (State.mailbox_open ho 2).trans (State.handle_write ho.image _)

theorem writerOf_facts (v : Option (Fin 2)) : (BitVec.ofNat 8 (writerOf v)).toNat = writerOf v ∧ portOf (writerOf v) = v ∧
    ¬ 4 ≤ writerOf v ∧ writerBit (writerOf v) ≤ 1 := by
  cases v with
  | none => decide
  | some p =>
    revert p
    decide

/-- The entry is write-only, takes both masters' writes, and allows the value. -/
structure TriggerEntry (d : Desc64) (index sub size x : Nat) : Prop where
  get : descOf index sub = some d
  access : d.access = 3
  writers : d.writers = 3
  size : d.size = size
  min : d.min ≤ x
  max : x ≤ d.max
  free : d.flags / 4 % 2 = 0
  place : d.index ≠ 0x6000 ∧ d.index ≠ 0x2100 ∧ d.index ≠ 0x3300 ∧ d.index ≠ 0x7001 ∧ d.index ≠ 0x7002 ∧ index ≠ 0x3103

theorem State.writeRefused_trigger {d : Desc64} {index sub size x : Nat} (h : TriggerEntry d index sub size x) (hx : x < 256 ^ size)
    (s : State) (v : Option (Fin 2)) : s.writeRefused (writerOf v) index sub (leBytes size x) = none := by
  obtain ⟨h6, h21, h33, h71, h72, h31⟩ := h.place
  have hd : s.entryOf index sub = some d := by
    rw [State.entryOf, if_neg (fun hf => h31 hf.1), h.get]
  have hw : d.writers.testBit (writerBit (writerOf v)) = true := by
    have hb := (writerOf_facts v).2.2.2
    rw [h.writers]
    interval_cases writerBit (writerOf v) <;> rfl
  have hbad : badValue d x = false := by
    unfold badValue
    simp [Nat.not_lt.mpr h.min, Nat.not_lt.mpr h.max, h6, h21]
  have hst : s.stateForbids d sub x = false := by
    unfold State.stateForbids
    simp [h.free, h33, h71, h72]
  rw [State.writeRefused, hd]
  dsimp only
  rw [ofLeBytes_leBytes size x hx, if_neg (by rw [h.access]; decide), hw, hbad, hst, if_neg (by decide),
    if_neg (not_not.mpr ((length_leBytes size x).trans h.size.symm)), if_neg (by decide), if_neg (by decide)]

/-- The write acts, and is answered. -/
theorem State.woWrite_acts (ho : s.RequestOpen v) {d : Desc64} {index : BitVec 16} {sub : Byte} {size x : Nat}
    (h : TriggerEntry d index.toNat sub.toNat size x) (hx : x < 256 ^ size) : s.woWrite v index sub size x =
      (s.actWo (writerOf v) index.toNat sub.toNat x).respond v 0 0
        ((s.actWo (writerOf v) index.toNat sub.toNat x).writeMark index.toNat sub.toNat) [] := by
  obtain ⟨hw, hp, h4, -⟩ := writerOf_facts v
  have hd : s.entryOf index.toNat sub.toNat = some d := by
    rw [State.entryOf, if_neg (fun hf => h.place.2.2.2.2.2 hf.1), h.get]
  rw [State.woWrite, State.request_write ho, State.doWrite_taken hd (State.writeRefused_trigger h hx s v), State.commitWrite,
    if_pos h.access]
  dsimp only
  rw [hw, ofLeBytes_leBytes size x hx, State.ack, if_neg (by rw [hw]; exact h4)]
  dsimp only
  rw [hw, hp]

theorem triggerEntry_testNow : TriggerEntry ⟨0x3400, 8, 8, 6, 3, 2, 3, 1, 32, 0, 1, 0, "TEST_NOW"⟩ 0x3400 8 1 1 :=
  ⟨by decide +kernel, rfl, rfl, rfl, by decide, by decide, rfl, by decide⟩

theorem triggerEntry_cInitReset : TriggerEntry ⟨0x3400, 14, 14, 6, 3, 1, 3, 1, 32, 0, 1, 0, "C_INIT_RESET"⟩ 0x3400 0x0E 1 1 :=
  ⟨by decide +kernel, rfl, rfl, rfl, by decide, by decide, rfl, by decide⟩

theorem triggerEntry_fullWindow {ms : Nat} (h1 : 1 ≤ ms) (h2 : ms ≤ 60000) :
    TriggerEntry ⟨0x3310, 4, 4, 3, 3, 0, 3, 4, 32, 1, 60000, 0, "FULL_WINDOW"⟩ 0x3310 4 4 ms :=
  ⟨by decide +kernel, rfl, rfl, rfl, h1, h2, rfl, by decide⟩

theorem triggerEntry_fullTarget {stripe : Nat} (h : stripe < 2 ^ 32) :
    TriggerEntry ⟨0x3310, 5, 5, 3, 3, 0, 3, 4, 32, 0, 4294967295, 0, "FULL_TARGET"⟩ 0x3310 5 4 stripe :=
  ⟨by decide +kernel, rfl, rfl, rfl, Nat.zero_le _, Nat.le_of_lt_succ h, rfl, by decide⟩

theorem triggerEntry_pounceRun : TriggerEntry ⟨0x3320, 5, 5, 6, 3, 0, 3, 1, 32, 0, 1, 0, "POUNCE_RUN"⟩ 0x3320 5 1 1 :=
  ⟨by decide +kernel, rfl, rfl, rfl, by decide, by decide, rfl, by decide⟩

theorem triggerEntry_stagingDiscard : TriggerEntry ⟨0x5200, 7, 7, 6, 3, 2, 3, 1, 0, 0, 1, 0, "STAGING_DISCARD"⟩ 0x5200 7 1 1 :=
  ⟨by decide +kernel, rfl, rfl, rfl, by decide, by decide, rfl, by decide⟩

theorem triggerEntry_defaults : TriggerEntry ⟨0x7F00, 3, 3, 6, 3, 2, 3, 1, 0, 0, 1, 0, "DEFAULTS"⟩ 0x7F00 3 1 1 :=
  ⟨by decide +kernel, rfl, rfl, rfl, by decide, by decide, rfl, by decide⟩

/-! ### What each trigger does -/

theorem exec_testNow (ho : s.RequestOpen v) : ∃ s1 : State, s1 = (s.setPlp (fun p => { p with due := p.due + 1, testNow := true })).tryTest ∧
    exec (.testNow v) s = .next (s1.respond v 0 0 (s1.writeMark 0x3400 8) []) :=
  ⟨_, rfl, congrArg Host.Outcome.next (State.woWrite_acts ho (index := 0x3400) (sub := 8) triggerEntry_testNow (by decide))⟩

theorem exec_cInitReset (ho : s.RequestOpen v) : ∃ s1 : State, s1 = { s with plp := { s.plp with cInitReset := true } } ∧
    exec (.cInitReset v) s = .next (s1.respond v 0 0 (s1.writeMark 0x3400 0x0E) []) :=
  ⟨_, rfl, congrArg Host.Outcome.next (State.woWrite_acts ho (index := 0x3400) (sub := 0x0E) triggerEntry_cInitReset (by decide))⟩

theorem State.actWo_fulling_hardware (h : s.param 0x7000 1 = 0) (writer sub x : Nat) : s.actWo writer 0x3310 sub x = s := by
  unfold State.actWo
  rw [if_neg (by decide), if_pos rfl, if_pos h]

theorem State.actWo_fullWindow (h : s.param 0x7000 1 = 1) (writer x : Nat) :
    s.actWo writer 0x3310 4 x = (s.setMedia (fun m => { m with window := true })).pickVictim := by
  unfold State.actWo
  rw [if_neg (by decide), if_pos rfl, if_neg (by rw [h]; decide), if_pos rfl]

theorem State.actWo_fullTarget (h : s.param 0x7000 1 = 1) (writer : Nat) {c : Nat × Stripe × Nat} (hc : c ∈ s.candidates) :
    s.actWo writer 0x3310 5 c.1 = (s.setMedia (fun m => { m with target := some c.1 })).pickVictim := by
  unfold State.actWo
  rw [if_neg (by decide), if_pos rfl, if_neg (by rw [h]; decide), if_neg (by decide),
    if_pos (List.any_eq_true.mpr ⟨c, hc, decide_eq_true rfl⟩)]

theorem exec_fullWindow (ho : s.RequestOpen v) {ms : Nat} (h1 : 1 ≤ ms) (h2 : ms ≤ 60000) : exec (.fullWindow v ms) s =
    .next ((s.actWo (writerOf v) 0x3310 4 ms).respond v 0 0 ((s.actWo (writerOf v) 0x3310 4 ms).writeMark 0x3310 4) []) :=
  congrArg Host.Outcome.next (State.woWrite_acts ho (index := 0x3310) (sub := 4) (triggerEntry_fullWindow h1 h2)
    (by change ms < 4294967296; omega))

theorem exec_fullTarget (ho : s.RequestOpen v) {stripe : Nat} (h : stripe < 2 ^ 32) : exec (.fullTarget v stripe) s =
    .next ((s.actWo (writerOf v) 0x3310 5 stripe).respond v 0 0 ((s.actWo (writerOf v) 0x3310 5 stripe).writeMark 0x3310 5) []) :=
  congrArg Host.Outcome.next (State.woWrite_acts ho (index := 0x3310) (sub := 5) (triggerEntry_fullTarget h) h)

theorem exec_pounceRun (ho : s.RequestOpen v) : ∃ s1 : State, s1 = s.runPounces ∧
    exec (.pounceRun v) s = .next (s1.respond v 0 0 (s1.writeMark 0x3320 5) []) :=
  ⟨_, rfl, congrArg Host.Outcome.next (State.woWrite_acts ho (index := 0x3320) (sub := 5) triggerEntry_pounceRun (by decide))⟩

theorem exec_stagingDiscard (ho : s.RequestOpen v) : ∃ s1 : State, s1 = s.clearStaging ∧
    exec (.stagingDiscard v) s = .next (s1.respond v 0 0 (s1.writeMark 0x5200 7) []) :=
  ⟨_, rfl, congrArg Host.Outcome.next (State.woWrite_acts ho (index := 0x5200) (sub := 7) triggerEntry_stagingDiscard (by decide))⟩

theorem exec_defaults (ho : s.RequestOpen v) : ∃ s1 : State, s1 = s.defaultsApply (writerOf v) ∧
    exec (.defaults v) s = .next (s1.respond v 0 0 (s1.writeMark 0x7F00 3) []) :=
  ⟨_, rfl, congrArg Host.Outcome.next (State.woWrite_acts ho (index := 0x7F00) (sub := 3) triggerEntry_defaults (by decide))⟩

end

/-! ### A test (R228) -/

/-- Computing the limit again leaves what the bank is doing. -/
theorem State.recompute_plp (s : State) :
    s.recompute.plp = { s.plp with eFull := milli s.eFull, eAvail := milli (s.eAvail s.plp.vTop) } :=
  (State.setLimit_changes ..).rest .plp (by decide)

theorem State.startTest_plp (s : State) : s.startTest.plp.state = .testing ∧ s.startTest.plp.due = s.plp.due - 1 := by
  have hg := (State.gates_changes ((((s.setPlp (fun p => { p with state := .testing, due := p.due - 1, testNow := false })).recompute).setPlp
    (fun p => { p with isoClosed := false, disClosed := true })))).rest .plp (by decide)
  have hr := State.recompute_plp (s.setPlp (fun p => { p with state := .testing, due := p.due - 1, testNow := false }))
  exact ⟨(congrArg Plp.state hg).trans (congrArg Plp.state hr :), (congrArg Plp.due hg).trans (congrArg Plp.due hr :)⟩

/-! ### Fulling (R212, R213) -/

/-- A victim may be chosen: with it only the target may go, and its copying starts. -/
theorem State.pickVictim_window (s : State) : s.pickVictim.media.window = s.media.window ∧
    (s.pickVictim.media.target = s.media.target ∨ s.pickVictim.media.victim.isSome = true) := by
  unfold State.pickVictim
  split
  · exact ⟨rfl, Or.inl rfl⟩
  · split
    · exact ⟨rfl, Or.inl rfl⟩
    · next c _ =>
      have hrest := ((State.FlashWorked.refl (s.setMedia (fun m => { m with
        victim := some { stripe := c.1, left := (m.validIn c.2.1).length }
        target := if m.target = some c.1 then none else m.target }))).startCopies (.copy c.1)
        ((s.setMedia (fun m => { m with
          victim := some { stripe := c.1, left := (m.validIn c.2.1).length }
          target := if m.target = some c.1 then none else m.target })).media.validIn c.2.1)).media
      exact ⟨(congrArg Media.window hrest :), Or.inr ((congrArg (fun m => (Media.victim m).isSome) hrest :).trans rfl)⟩

/-! ### Pounces (R209) -/

theorem State.startPounce_worked {s : State} {id : Nat} {p : Pounce} (h : s.media.pounces.get? id = some p) : State.FlashWorked
    (s.setMedia (fun m => { m with pounces := m.pounces.mod id (fun p => { p with pending := false }) })) (s.startPounce id) := by
  unfold State.startPounce
  rw [h]
  exact (((State.FlashWorked.refl _).log _ _ _).startCopies _ _).moveRecords _

theorem State.startPounce_media (s : State) (id : Nat) :
    (s.startPounce id).media.pounces = s.media.pounces.mod id (fun p => { p with pending := false }) ∧
      (s.startPounce id).media.map = s.media.map ∨ s.media.pounces.get? id = none ∧ s.startPounce id = s := by
  cases h : s.media.pounces.get? id with
  | none =>
    refine Or.inr ⟨rfl, ?_⟩
    rw [State.startPounce, h]
  | some p =>
    have hrest := (State.startPounce_worked h).media
    exact Or.inl ⟨(congrArg Media.pounces hrest :), (congrArg Media.map hrest :)⟩

theorem AMap.get?_eq_none_of_key {α : Type} {m : AMap α} {k : Nat} (h : m.get? k = none) {e : Nat × α} (he : e ∈ m) : e.1 ≠ k := by
  induction m with
  | nil => cases he
  | cons x m ih =>
    obtain ⟨a, y⟩ := x
    rw [AMap.get?] at h
    split at h
    · cases h
    · next hne =>
      rcases List.mem_cons.mp he with rfl | he
      · exact hne
      · exact ih h he

/-- Every pending pounce of the table is among those still to be started. -/
theorem State.foldl_startPounce (ids : List Nat) (s : State) (h : ∀ e ∈ s.media.pounces, e.2.pending = true → e.1 ∈ ids) :
    (∀ e ∈ (ids.foldl State.startPounce s).media.pounces, e.2.pending = false) ∧
      (ids.foldl State.startPounce s).media.map = s.media.map := by
  induction ids generalizing s with
  | nil => exact ⟨fun e he => Bool.eq_false_iff.mpr (fun hp => nomatch h e he hp), rfl⟩
  | cons id ids ih =>
    rcases s.startPounce_media id with ⟨hp, hm⟩ | ⟨hnone, he⟩
    · obtain ⟨h1, h2⟩ := ih (s.startPounce id) (fun e he hpend => by
        rw [hp] at he
        obtain ⟨x, hx, rfl⟩ := List.mem_map.mp he
        by_cases hid : x.1 = id
        · rw [if_pos hid] at hpend
          cases hpend
        · rw [if_neg hid] at hpend ⊢
          exact (List.mem_cons.mp (h x hx hpend)).resolve_left hid)
      exact ⟨h1, h2.trans hm⟩
    · rw [List.foldl_cons, he]
      exact ih s (fun e hmem hpend => (List.mem_cons.mp (h e hmem hpend)).resolve_left (AMap.get?_eq_none_of_key hnone hmem))

theorem State.runPounces_all (s : State) : (∀ e ∈ s.runPounces.media.pounces, e.2.pending = false) ∧
    s.runPounces.media.map = s.media.map :=
  State.foldl_startPounce _ s (fun e he hp => List.mem_map.mpr ⟨e, List.mem_filter.mpr ⟨he, hp⟩, rfl⟩)

/-! ### Staging is discarded (R430) -/

theorem memGet_memClear_outside (d : Byte) (m : List Host.Cell) {a n x : Nat} (h : x < a ∨ a + n ≤ x) :
    memGet d (memClear m a n) x = memGet d m x := by
  have e : AMap.get? (memClear m a n) x = AMap.get? m x := by
    induction m with
    | nil => rfl
    | cons c m ih =>
      obtain ⟨k, y⟩ := c
      rw [memClear, List.filter_cons, ← memClear]
      split
      · rw [AMap.get?, AMap.get?, ih]
      · next hin =>
        have hne : k ≠ x := fun hk => by simp [hk] at hin; omega
        rw [ih, AMap.get?, if_neg hne]
  rw [memGet, memGet, e]

/-- The erase of staging's sectors leaves every byte outside them. -/
theorem foldl_erased_outside (xs : List Nat) (b : Bst) {a : Nat} (h : ∀ i ∈ xs, a / 65536 ≠ stagingFirst + i) :
    memGet 0xFF (xs.foldl (fun (b : Bst) i => if b.blank (stagingFirst + i) then b else b.erased (stagingFirst + i)) b).mem a =
      memGet 0xFF b.mem a := by
  induction xs generalizing b with
  | nil => rfl
  | cons i xs ih =>
    rw [List.foldl_cons, ih _ (fun j hj => h j (List.mem_cons_of_mem _ hj))]
    split
    · rfl
    · have hi := h i List.mem_cons_self
      refine memGet_memClear_outside 0xFF b.mem ?_
      change a < (stagingFirst + i) * 65536 ∨ (stagingFirst + i) * 65536 + 65536 ≤ a
      omega

theorem State.clearStaging_boot (s : State) :
    s.clearStaging.boot = { s.boot with staged := [], bound := none, committed := false, pieces := [] } := by
  unfold State.clearStaging
  rfl

theorem State.clearStaging_outside (s : State) {a : Nat} (h : a / 65536 < 388 ∨ 644 ≤ a / 65536) :
    memGet 0xFF s.clearStaging.bst.mem a = memGet 0xFF s.bst.mem a := by
  refine foldl_erased_outside (List.range 256) s.bst (fun i hi => ?_)
  have hi' := List.mem_range.mp hi
  change a / 65536 ≠ 388 + i
  omega

/-! ### The defaults (R478) -/

/-- Every entry of a description that returns to its default, with the description. -/
def resetEntries : List (Desc64 × Nat) :=
  (dictTable.filter Desc64.resets).flatMap (fun d => (List.range (d.subLast + 1 - d.subFirst)).map (fun i => (d, d.subFirst + i)))

theorem mem_resetEntries {x : Desc64 × Nat} : x ∈ resetEntries ↔
    x.1 ∈ dictTable ∧ x.1.resets = true ∧ x.1.subFirst ≤ x.2 ∧ x.2 ≤ x.1.subLast := by
  obtain ⟨d, sub⟩ := x
  simp only [resetEntries, List.mem_flatMap, List.mem_filter, List.mem_map, List.mem_range, Prod.mk.injEq]
  refine ⟨?_, fun ⟨h1, h2, h3, h4⟩ => ⟨d, ⟨h1, h2⟩, sub - d.subFirst, by omega, rfl, by omega⟩⟩
  rintro ⟨d', ⟨h1, h2⟩, i, hi, rfl, rfl⟩
  exact ⟨h1, h2, by omega, by omega⟩

/-- A description whose entries all come before those of another, and that covers at least one. -/
def Desc64.Before (a b : Desc64) : Prop := (a.index < b.index ∨ a.index = b.index ∧ a.subLast < b.subFirst) ∧ b.subFirst ≤ b.subLast

theorem Desc64.Before.trans {a b c : Desc64} (hab : a.Before b) (hbc : b.Before c) : a.Before c := by
  unfold Desc64.Before at *
  omega

/-- The table stands in the order of its entries. -/
theorem dictTable_sorted : dictTable.Pairwise Desc64.Before := by
  have hchain : dictTable.IsChain Desc64.Before := by
    unfold Desc64.Before
    decide +kernel
  have : IsTrans Desc64 Desc64.Before := ⟨fun _ _ _ => Desc64.Before.trans⟩
  exact hchain.pairwise

/-- No two descriptions cover one entry. -/
theorem dictTable_disjoint {a b : Desc64} (ha : a ∈ dictTable) (hb : b ∈ dictTable) (hi : a.index = b.index) (hab : a.subFirst ≤ b.subLast)
    (hba : b.subFirst ≤ a.subLast) : a = b := by
  by_contra hne
  have : Std.Symm fun x y : Desc64 => x.Before y ∨ y.Before x := ⟨fun _ _ => Or.symm⟩
  have hsym : dictTable.Pairwise (fun x y => x.Before y ∨ y.Before x) := dictTable_sorted.imp fun hxy => Or.inl hxy
  have hor : a.Before b ∨ b.Before a := hsym.forall ha hb hne
  unfold Desc64.Before at hor
  omega

theorem dictTable_subs : ∀ d ∈ dictTable, d.subLast < 256 := by
  decide +kernel

/-- The key of an entry tells its description and its sub-index. -/
theorem entryKey_inj {a b : Desc64} {i j : Nat} (ha : a ∈ dictTable) (hb : b ∈ dictTable) (hi : a.subFirst ≤ i) (hi' : i ≤ a.subLast)
    (hj : b.subFirst ≤ j) (hj' : j ≤ b.subLast) (h : a.index * 256 + i = b.index * 256 + j) : a = b ∧ i = j := by
  have h1 := dictTable_subs a ha
  have h2 := dictTable_subs b hb
  have hij : i = j := by omega
  exact ⟨dictTable_disjoint ha hb (by omega) (by omega) (by omega), hij⟩

/-- The entry keeps its value: it is a namespace's, or the spare setting holds more than its default would leave. -/
def State.keepsEntry (s : State) (d : Desc64) (sub : Nat) : Bool :=
  (decide (d.flags / 4 % 2 = 1) && s.media.namespaces.has sub) ||
    (decide (d.index = 0x3300) && decide (sub = 0) && decide (s.media.payload * (100 - d.default) / 100 < s.media.plainBytes))

/-- One entry returns to its default. -/
def State.resetEntry (writer : Nat) (s : State) (x : Desc64 × Nat) : State :=
  if s.keepsEntry x.1 x.2 then s else s.putEntry x.1.index x.2 writer (leBytes x.1.size x.1.default)

theorem State.defaultsApply_eq (s : State) (writer : Nat) : s.defaultsApply writer = resetEntries.foldl (State.resetEntry writer) s := by
  rw [resetEntries, List.foldl_flatMap]
  simp only [List.foldl_map]
  rfl

/-- The value of an entry's default, under a writer at this time. -/
def State.defaultVal (s : State) (writer : Nat) (d : Desc64) : DictVal :=
  { bytes := leBytes d.size d.default, writer := BitVec.ofNat 8 writer, opsec := s.clocks.opsec.toNat, pcc := s.clocks.pcc.toNat }

theorem State.resetEntry_clocks (s : State) (writer : Nat) (x : Desc64 × Nat) : (s.resetEntry writer x).clocks = s.clocks := by
  unfold State.resetEntry
  split
  · rfl
  · exact (State.putEntry_changes ..).rest .clocks (by decide)

theorem State.resetEntry_other (s : State) {writer : Nat} (hw : writer < 256) (x : Desc64 × Nat) {k : Nat}
    (hk : k ≠ x.1.index * 256 + x.2) : (s.resetEntry writer x).dict.vals.get? k = s.dict.vals.get? k := by
  unfold State.resetEntry
  split
  · rfl
  · obtain ⟨vlog, h⟩ := s.putEntry_dict x.1.index x.2 { writer := BitVec.ofNat 8 writer, value := leBytes x.1.size x.1.default, tag := 0 }
    rw [BitVec.toNat_ofNat, Nat.mod_eq_of_lt hw] at h
    rw [h]
    exact AMap.get?_put_ne _ _ _ _ hk

theorem State.resetEntry_own (s : State) {writer : Nat} (hw : writer < 256) {x : Desc64 × Nat} (hkeep : s.keepsEntry x.1 x.2 = false) :
    (s.resetEntry writer x).dict.vals.get? (x.1.index * 256 + x.2) = some (s.defaultVal writer x.1) := by
  unfold State.resetEntry
  rw [hkeep, if_neg (by decide)]
  obtain ⟨vlog, h⟩ := s.putEntry_dict x.1.index x.2 { writer := BitVec.ofNat 8 writer, value := leBytes x.1.size x.1.default, tag := 0 }
  rw [BitVec.toNat_ofNat, Nat.mod_eq_of_lt hw] at h
  rw [h]
  exact AMap.get?_put _ _ _

theorem State.foldl_resetEntry_other {writer : Nat} (hw : writer < 256) {k : Nat} (xs : List (Desc64 × Nat)) (s : State)
    (hk : ∀ x ∈ xs, k ≠ x.1.index * 256 + x.2) : (xs.foldl (State.resetEntry writer) s).dict.vals.get? k = s.dict.vals.get? k := by
  induction xs generalizing s with
  | nil => rfl
  | cons x xs ih =>
    rw [List.foldl_cons, ih _ (fun y hy => hk y (List.mem_cons_of_mem _ hy)), State.resetEntry_other s hw x (hk x List.mem_cons_self)]

/-- The last write of an entry is its own: it stands at its default in the end. -/
theorem State.foldl_resetEntry_own {writer : Nat} (hw : writer < 256) {x : Desc64 × Nat} (xs : List (Desc64 × Nat)) (s : State)
    (hx : x ∈ xs) (hkeep : ∀ u : State, u.keepsEntry x.1 x.2 = false)
    (hinj : ∀ y ∈ xs, y.1.index * 256 + y.2 = x.1.index * 256 + x.2 → y = x) :
    (xs.foldl (State.resetEntry writer) s).dict.vals.get? (x.1.index * 256 + x.2) = some (s.defaultVal writer x.1) := by
  induction xs generalizing s with
  | nil => cases hx
  | cons y xs ih =>
    have hclocks : (s.resetEntry writer y).defaultVal writer x.1 = s.defaultVal writer x.1 := by
      rw [State.defaultVal, State.resetEntry_clocks]
      rfl
    rw [List.foldl_cons]
    by_cases hin : x ∈ xs
    · rw [ih _ hin (fun z hz => hinj z (List.mem_cons_of_mem _ hz)), hclocks]
    · obtain rfl : x = y := (List.mem_cons.mp hx).resolve_right hin
      rw [State.foldl_resetEntry_other hw xs _ (fun z hz he => hin (hinj z (List.mem_cons_of_mem _ hz) he.symm ▸ hz)),
        State.resetEntry_own s hw (hkeep s)]

/-! ### A notification is read (R495) -/

theorem descOf_bmcNtf : ∀ n : Fin 32, descOf 0x7F02 n.val = some ⟨0x7F02, 0, 31, 8, 0, 1, 0, 16, 0, 0, 0, 0, "BMC_NTF"⟩ := by
  decide +kernel

theorem exec_bmcNtfRead {s : State} (ho : s.BusOpen) (n : Fin 32) : exec (.bmcNtfRead n) s =
    .next (s.doRead none { index := 0x7F02, sub := BitVec.ofNat 8 n.val }) :=
  congrArg Host.Outcome.next ((State.busRequest_open ho 1).trans (State.handle_read ho.image _))

/-- The record in a slot of the ring of the management bus, zeros where none is. -/
def State.slotBytes (s : State) (n : Nat) : List Byte :=
  match s.dict.bmcRing.get? n with
  | some x => x.bytes
  | none => List.replicate 16 0

theorem State.readEntry_bmcNtf (s : State) (n : Fin 32) : s.readEntry 2 0x7F02 n.val = (0, s.slotBytes n.val) := by
  have hd : s.entryOf 0x7F02 n.val = some ⟨0x7F02, 0, 31, 8, 0, 1, 0, 16, 0, 0, 0, 0, "BMC_NTF"⟩ := by
    rw [State.entryOf, if_neg (by simp), descOf_bmcNtf]
  rw [State.readEntry, hd]
  rfl

theorem State.doRead_bmcNtf {s : State} {n : Fin 32} (hv : s.dict.vals.get? (0x7F02 * 256 + n.val) = none) :
    s.doRead none { index := 0x7F02, sub := BitVec.ofNat 8 n.val } =
      { s.emit (.miReply 0 0 (leBytes 8 0 ++ leBytes 4 0 ++ leBytes 4 0 ++ s.slotBytes n.val)) with
        dict := { s.dict with bmcRing := s.dict.bmcRing.del n.val } } := by
  have hsub : (BitVec.ofNat 8 n.val).toNat = n.val := by
    rw [BitVec.toNat_ofNat, Nat.mod_eq_of_lt (by omega)]
  have hmark : s.writeMark 0x7F02 n.val = (0, 0, 0) := by
    rw [State.writeMark, hv]
  have hidx : (0x7F02 : BitVec 16).toNat = 0x7F02 := rfl
  have hread : s.readEntry (reqOf (writerOf none)) 0x7F02 n.val = (0, s.slotBytes n.val) := s.readEntry_bmcNtf n
  unfold State.doRead
  dsimp only
  rw [hsub, hidx, hmark, hread, if_pos ⟨rfl, rfl⟩]
  rfl

/-- Settles O53: every trigger is one act between the check of its value and its answer, and the reads and rows that an act starts
leave the tables that the statement speaks of. -/
theorem dictionaryTriggers : Obligations.DictionaryTriggers := by
  unfold Obligations.DictionaryTriggers
  refine ⟨fun v s hm hb => ?_, fun n s ho hv => ?_⟩
  · have ho : s.RequestOpen v := ⟨hm, hb⟩
    refine ⟨?_, ?_, ?_, ?_, ?_, ?_, ?_, ?_, ?_⟩
    · obtain ⟨s1, rfl, e⟩ := exec_testNow ho
      refine ⟨_, e, fun hf hps => ?_, fun hn => ?_⟩
      · have hrun : (s.setPlp (fun p => { p with due := p.due + 1, testNow := true })).tryTest =
            (s.setPlp (fun p => { p with due := p.due + 1, testNow := true })).startTest :=
          if_pos ⟨Nat.succ_ne_zero _, hf, hps⟩
        rw [hrun]
        exact State.startTest_plp _
      · have hwait : (s.setPlp (fun p => { p with due := p.due + 1, testNow := true })).tryTest =
            s.setPlp (fun p => { p with due := p.due + 1, testNow := true }) :=
          if_neg (fun ⟨_, hf, hps⟩ => hn.elim (fun h => h hf) (fun h => absurd hps (Nat.not_le.mpr h)))
        rw [hwait]
        exact ⟨rfl, rfl⟩
    · obtain ⟨s1, h, e⟩ := exec_cInitReset ho
      exact ⟨s1, e, h⟩
    · intro hmode ms h1 h2
      refine ⟨_, exec_fullWindow ho h1 h2, ?_⟩
      rw [State.actWo_fullWindow hmode]
      exact (State.pickVictim_window _).1
    · intro hmode ms h1 h2
      rw [exec_fullWindow ho h1 h2, State.actWo_fulling_hardware hmode]
    · intro hmode stripe hst
      rw [exec_fullTarget ho hst, State.actWo_fulling_hardware hmode]
    · intro hmode c hc hlt
      refine ⟨_, exec_fullTarget ho hlt, ?_⟩
      rw [State.actWo_fullTarget hmode _ hc]
      exact (State.pickVictim_window _).2
    · obtain ⟨s1, rfl, e⟩ := exec_pounceRun ho
      exact ⟨_, e, s.runPounces_all⟩
    · obtain ⟨s1, rfl, e⟩ := exec_stagingDiscard ho
      refine ⟨_, e, ?_⟩
      rw [State.clearStaging_boot]
      exact ⟨rfl, rfl, rfl, fun a ha => s.clearStaging_outside ha⟩
    · have hw : writerOf v < 256 := by
        have := (writerOf_facts v).2.2.1
        omega
      obtain ⟨s1, hs1, e⟩ := exec_defaults ho
      refine ⟨s1, e, ?_, ?_⟩
      · intro d hd hres hflag h33 sub h1 h2
        rw [hs1, State.defaultsApply_eq]
        have hmem : (d, sub) ∈ resetEntries := mem_resetEntries.mpr ⟨hd, hres, h1, h2⟩
        refine State.foldl_resetEntry_own hw (x := (d, sub)) _ s hmem (fun u => ?_) (fun y hy hk => ?_)
        · simp [State.keepsEntry, hflag, h33]
        · obtain ⟨hy1, -, hy2, hy3⟩ := mem_resetEntries.mp hy
          obtain ⟨he1, he2⟩ := entryKey_inj hy1 hd hy2 hy3 h1 h2 hk
          exact Prod.ext he1 he2
      · intro d hd _ hauth sub h1 h2
        rw [hs1, State.defaultsApply_eq]
        refine State.foldl_resetEntry_other hw _ s (fun y hy hk => ?_)
        obtain ⟨hy1, hyr, hy2, hy3⟩ := mem_resetEntries.mp hy
        obtain ⟨he, -⟩ := entryKey_inj hd hy1 h1 h2 hy2 hy3 hk
        rw [← he, Desc64.resets, hauth] at hyr
        simp at hyr
  · refine ⟨_, s.slotBytes n.val, (exec_bmcNtfRead ho n).trans (congrArg _ (State.doRead_bmcNtf hv)), AMap.get?_del _ _,
      fun k hk => AMap.get?_del_ne _ _ _ hk, rfl, fun x hx => ?_, fun hx => ?_, ?_⟩
    · rw [State.slotBytes, hx]
    · rw [State.slotBytes, hx]
    · exact Changes.dict_with _ rfl ((State.emits_changes ..).mono rfl)

end Sys2Proof.Machine

end

section
/-! The statement of chapter 11 about tamper alarms, the entropy source and the known answers of the cipher lanes (R355, R364 to R367,
R370), and what freeing lines leaves of the landing buffer. -/

namespace Sys2Proof.Machine

open Sys2Proof

/-! ### Lines are freed (R100) -/

theorem Landing.rebindOne_lines (l : Landing) (p : Fin 2) : (l.rebindOne p).lines = l.lines := by
  rw [Landing.rebindOne]
  split
  · rfl
  · split <;> rfl

theorem Landing.rebind_lines (l : Landing) (p : Fin 2) (fuel : Nat) : (l.rebind p fuel).lines = l.lines := by
  induction fuel generalizing l with
  | zero => rfl
  | succ n ih =>
    rw [Landing.rebind]
    split
    · rfl
    · exact (ih _).trans (l.rebindOne_lines p)

/-- Unbound slots that take free lines take none away from the table of lines. -/
theorem Landing.release_lines (l : Landing) (ns : List Nat) : (l.release ns).lines = ns.foldl (fun m n => m.del n) l.lines := by
  rw [Landing.release, Landing.rebind_lines, Landing.rebind_lines]

theorem AMap.mem_foldl_del {α : Type} (ns : List Nat) (m : AMap α) (e : Nat × α) :
    e ∈ ns.foldl (fun m n => m.del n) m ↔ e ∈ m ∧ e.1 ∉ ns := by
  induction ns generalizing m with
  | nil => simp
  | cons n ns ih =>
    rw [List.foldl_cons, ih, AMap.del, List.mem_filter, decide_eq_true_eq, List.mem_cons, not_or]
    exact and_assoc

theorem State.mem_dropLines_lines (s : State) (ns : List Nat) (e : Nat × Line) :
    e ∈ (s.dropLines ns).land.lines ↔ e ∈ s.land.lines ∧ e.1 ∉ ns := by
  rw [State.dropLines, Landing.release_lines]
  exact AMap.mem_foldl_del ns s.land.lines e

theorem Media.foldl_unreserve_lost (l : List Line) (m : Media) :
    (l.foldl (fun m l => m.unreserve l.ns l.resv) m).lost = m.lost := by
  induction l generalizing m with
  | nil => rfl
  | cons x l ih => exact ih _

theorem State.dropLines_lost (s : State) (ns : List Nat) : (s.dropLines ns).media.lost = s.media.lost :=
  Media.foldl_unreserve_lost ..

/-- What ends a command frees lines and loses no granule. -/
theorem State.endCmd_lines_lost (s : State) (fseq : Nat) :
    (s.endCmd fseq).land.lines ⊆ s.land.lines ∧ (s.endCmd fseq).media.lost = s.media.lost := by
  rw [State.endCmd]
  split
  · exact ⟨List.Subset.refl _, rfl⟩
  · exact ⟨fun e he => ((s.mem_dropLines_lines _ e).mp he).1, State.dropLines_lost ..⟩

/-! ### What a containment keeps of its port, of the lines and of the lost granules -/

theorem State.endFated_lines_lost (l : List (Nat × Cmd)) (s : State) :
    let t := l.foldl (fun s e => if e.2.fate = 5 ∨ e.2.fate = 6 then s else s.endCmd e.1) s
    t.land.lines ⊆ s.land.lines ∧ t.media.lost = s.media.lost := by
  induction l generalizing s with
  | nil => exact ⟨List.Subset.refl _, rfl⟩
  | cons e l ih =>
    rw [List.foldl_cons]
    split
    · exact ih s
    · exact ⟨List.Subset.trans (ih _).1 (s.endCmd_lines_lost e.1).1, (ih _).2.trans (s.endCmd_lines_lost e.1).2⟩

/-- A containment frees lines and loses no granule. -/
theorem State.contain_lines_lost (s : State) (p : Fin 2) (trig : Fin 8) :
    (s.contain p trig).land.lines ⊆ s.land.lines ∧ (s.contain p trig).media.lost = s.media.lost := by
  have hpre : Changes [.evr, .cmq, .sdm, .bst, .boot, .out] s ((s.ferryMeets p).haltLent p) :=
    (State.haltLent_changes ..).step rfl ((State.ferryMeets_changes s p).mono rfl)
  simp only [State.contain]
  split
  · exact ⟨List.Subset.refl _, rfl⟩
  · split
    · exact ⟨List.Subset.refl _, rfl⟩
    · have hsays (t : State) : (t.containSays p trig).land = t.land ∧ (t.containSays p trig).media = t.media :=
        ⟨(State.containSays_changes t p trig).rest .land (by decide), (State.containSays_changes t p trig).rest .media (by decide)⟩
      rw [(hsays _).1, (hsays _).2, ← hpre.rest .land (by decide), ← hpre.rest .media (by decide)]
      exact State.endFated_lines_lost _ _

/-- What a port holds beside its containment registers and its configuration space stays. -/
theorem State.contain_ports_keeps {β : Type} (π : PcPort → β) (hcnt : ∀ q c, π { q with cnt := c } = π q)
    (haer : ∀ q, π (PcPort.aerLog q) = π q) (s : State) (p q : Fin 2) (trig : Fin 8) :
    π (s.contain p trig).ports[q] = π s.ports[q] := by
  by_cases hq : q = p
  · subst hq
    have hpre : ((s.ferryMeets q).haltLent q).ports = s.ports :=
      ((State.haltLent_changes (s.ferryMeets q) q).rest .ports (by decide)).trans
        ((State.ferryMeets_changes s q).rest .ports (by decide))
    have hsays (t : State) : π (t.containSays q trig).ports[q] = π t.ports[q] := by
      have hports := t.containSays_ports q trig
      by_cases htr : trig = 0 ∨ trig = 1
      · rw [if_pos htr] at hports
        rw [hports]
      · rw [if_neg htr] at hports
        rw [hports, Tbl.upd_get, haer]
    cases hact : s.ports[q].cnt.active with
    | true =>
      simp only [State.contain, hact, if_true]
      exact (congrArg π (Tbl.upd_get ..)).trans (hcnt ..)
    | false =>
      cases hgoes : s.trigGoes q trig with
      | false =>
        simp only [State.trigGoes] at hgoes
        simp only [State.contain, hact, hgoes, Bool.not_false, Bool.false_eq_true, if_false, if_true]
      | true =>
        simp only [State.trigGoes] at hgoes
        simp only [State.contain, hact, hgoes, Bool.not_true, Bool.false_eq_true, if_false]
        rw [hsays, State.log_ports, show (State.ports (List.foldl _ _ _)) = _ from (State.endFated_changes _ _).rest .ports (by decide),
          State.setPort_ports, Tbl.upd_get, hcnt, hpre]
  · rw [State.contain_ports_ne hq]

/-- A port is contained, by trigger `trig` among others. -/
def State.ContainedBy (s : State) (q : Fin 2) (trig : Fin 8) : Prop :=
  s.ports[q].cnt.active = true ∧ s.ports[q].cnt.causes.getLsbD trig.val = true

theorem State.contain_containedBy {s : State} {p : Fin 2} {trig : Fin 8} (h : s.trigGoes p trig = true) :
    (s.contain p trig).ContainedBy p trig := by
  refine ⟨State.contain_active_of_goes h, ?_⟩
  cases hfree : s.ports[p].cnt.active with
  | false =>
    have hone : ∀ i : Fin 8, ((1 <<< i.val : Nat) : BitVec 8).getLsbD i.val = true := by decide
    rw [State.contain_cnt hfree h]
    exact hone trig
  | true =>
    have hone : ∀ i : Fin 8, ((1 <<< i.val : Nat) : BitVec 8).getLsbD i.val = true := by decide
    simp only [State.contain, hfree, if_true, State.setPort_ports, Tbl.upd_get, BitVec.getLsbD_or, Bool.or_eq_true]
    exact .inr (hone trig)

theorem State.ContainedBy.contain {s : State} {q : Fin 2} {trig : Fin 8} (h : s.ContainedBy q trig) (p : Fin 2) (tr : Fin 8) :
    (s.contain p tr).ContainedBy q trig := by
  obtain ⟨hact, hbit⟩ := h
  refine ⟨State.contain_active_of_active hact p tr, ?_⟩
  by_cases hq : q = p
  · subst hq
    simp only [State.contain, hact, if_true, State.setPort_ports, Tbl.upd_get, BitVec.getLsbD_or, hbit, Bool.true_or]
  · rw [State.contain_ports_ne hq, hbit]

theorem State.foldl_contain_containedBy {q : Fin 2} {trig : Fin 8} (ht : trig = 0 ∨ trig = 6 ∨ trig = 7) (ps : List (Fin 2)) (s : State)
    (hq : q ∈ ps ∨ s.ContainedBy q trig) : (ps.foldl (fun s p => s.contain p trig) s).ContainedBy q trig := by
  induction ps generalizing s with
  | nil => exact hq.resolve_left List.not_mem_nil
  | cons p ps ih =>
    refine ih _ ?_
    rcases hq with hmem | hin
    · rcases List.mem_cons.mp hmem with rfl | hrest
      · exact .inr (State.contain_containedBy (by rcases ht with rfl | rfl | rfl <;> simp [State.trigGoes]))
      · exact .inl hrest
    · exact .inr (hin.contain p trig)

theorem State.foldl_contain_lines_lost (ps : List (Fin 2)) (trig : Fin 8) (s : State) :
    (ps.foldl (fun s p => s.contain p trig) s).land.lines ⊆ s.land.lines ∧
      (ps.foldl (fun s p => s.contain p trig) s).media.lost = s.media.lost := by
  induction ps generalizing s with
  | nil => exact ⟨List.Subset.refl _, rfl⟩
  | cons p ps ih => exact ⟨List.Subset.trans (ih _).1 (s.contain_lines_lost p trig).1, (ih _).2.trans (s.contain_lines_lost p trig).2⟩

theorem State.foldl_contain_ports_keeps {β : Type} (π : PcPort → β) (hcnt : ∀ q c, π { q with cnt := c } = π q)
    (haer : ∀ q, π (PcPort.aerLog q) = π q) (ps : List (Fin 2)) (q : Fin 2) (trig : Fin 8) (s : State) :
    π (ps.foldl (fun s p => s.contain p trig) s).ports[q] = π s.ports[q] := by
  induction ps generalizing s with
  | nil => rfl
  | cons p ps ih => exact (ih _).trans (State.contain_ports_keeps π hcnt haer s p q trig)

/-! ### The keys are erased (R365, R366) -/

/-- What an erasure leaves of one page: no key and no data, its nonce as it was, and an operation in progress ended with code 5. -/
theorem State.eraseKeys_page (s : State) (pg : Fin 16) :
    let g := s.vault.pages[pg]
    let e := s.eraseKeys.vault.pages[pg]
    e.slots = Vector.replicate 4 {} ∧ e.din = Vector.replicate 4 0 ∧ e.dout = Vector.replicate 4 0 ∧ e.nonce = g.nonce ∧
      e.busy = false ∧ (g.busy = true → e.code = 5) := by
  rw [State.eraseKeys, (State.dropLines_changes ..).rest .vault (by decide), Tbl.all_get]
  dsimp only
  split
  · exact ⟨rfl, rfl, rfl, rfl, rfl, fun _ => rfl⟩
  · rename_i hidle
    exact ⟨rfl, rfl, rfl, rfl, by simpa using hidle, fun hbusy => absurd hbusy hidle⟩

theorem State.eraseKeys_port (s : State) (p : Fin 2) :
    s.eraseKeys.ports[p].ideKeys = Vector.replicate 2 none ∧ s.eraseKeys.ports[p].ide ≠ .secure := by
  rw [State.eraseKeys, (State.dropLines_changes ..).rest .ports (by decide), Tbl.all_get]
  refine ⟨rfl, ?_⟩
  cases s.ports[p].ide <;> simp

/-- The committed lines that are not encrypted yet are freed. -/
theorem State.eraseKeys_encrypted (s : State) {e : Nat × Line} (he : e ∈ s.eraseKeys.land.lines) : e.2.st ≠ .committed := by
  obtain ⟨hmem, hout⟩ := (State.mem_dropLines_lines _ _ e).mp he
  intro hst
  exact hout (List.mem_map.mpr ⟨e, List.mem_filter.mpr ⟨hmem, by rw [hst]; rfl⟩, rfl⟩)

theorem mem_foldl_insert (k : Nat) (ks l : List Nat) :
    k ∈ ks.foldl (fun l k => if l.contains k then l else l ++ [k]) l ↔ k ∈ l ∨ k ∈ ks := by
  induction ks generalizing l with
  | nil => simp
  | cons x ks ih =>
    rw [List.foldl_cons, ih, List.mem_cons]
    split
    · rename_i hx
      have hx : x ∈ l := by simpa using hx
      constructor
      · tauto
      · rintro (h | rfl | h)
        exacts [.inl h, .inl hx, .inr h]
    · rw [List.mem_append, List.mem_singleton, or_assoc]

theorem Media.mem_lose (m : Media) (ks : List Nat) (k : Nat) : k ∈ (m.lose ks).lost ↔ k ∈ m.lost ∨ k ∈ ks :=
  mem_foldl_insert k ks m.lost

theorem State.eraseKeys_lost (s : State) {e : Nat × Line} (he : e ∈ s.land.unencrypted) (hw : e.2.wt = false) :
    gkey e.2.ns e.2.granule ∈ s.eraseKeys.media.lost := by
  rw [State.eraseKeys, State.dropLines_lost]
  refine (Media.mem_lose _ _ _).mpr (.inr (List.mem_filterMap.mpr ⟨e, he, ?_⟩))
  rw [hw]
  rfl

/-! ### An alarm -/

/-- The tampered state is entered; no key is erased yet. -/
def State.alarmed (s : State) (alarm : Fin 5) : State :=
  { s with sec := { s.sec with
    causes := s.sec.causes ||| ((1 : BitVec 5) <<< alarm.val)
    tampered := true
    meshBroken := s.sec.meshBroken || alarm.val == 3 } }

/-- The keys are erased and both events are written. -/
def State.tamperSaid (s : State) (alarm : Fin 5) (value : Int) : State :=
  let s := (s.alarmed alarm).eraseKeys
  let s := s.log (0x5101 + alarm.val) 0x30 (leBytes 1 s.sec.causes.toNat ++ i16 (if alarm.val < 3 then value else 0))
  s.log 0x5110 0x30 (leBytes 1 s.sec.causes.toNat)

/-- The ports in use are contained; what waits has not gone on yet. -/
def State.tamperShut (s : State) (alarm : Fin 5) (value : Int) : State :=
  (s.tamperSaid alarm value).portList.foldl (fun s p => s.contain p 7) (s.tamperSaid alarm value)

theorem State.tamperSaid_changes (s : State) (alarm : Fin 5) (value : Int) :
    Changes [.evr] (s.alarmed alarm).eraseKeys (s.tamperSaid alarm value) :=
  (State.log_changes ..).step rfl (State.log_changes ..)

theorem State.tamperSaid_board (s : State) (alarm : Fin 5) (value : Int) : (s.tamperSaid alarm value).board = s.board :=
  ((s.tamperSaid_changes alarm value).rest .board (by decide)).trans ((State.eraseKeys_changes _).rest .board (by decide))

theorem State.tamperShut_phase (s : State) (alarm : Fin 5) (value : Int) : (s.tamperShut alarm value).phase = s.phase :=
  ((State.foldl_contain_changes _ _ _).rest .phase (by decide)).trans
    (((s.tamperSaid_changes alarm value).rest .phase (by decide)).trans ((State.eraseKeys_changes _).rest .phase (by decide)))

theorem State.live_congr {s t : State} (h : t.phase = s.phase) : t.live = s.live := by
  rw [State.live, State.live, h]

theorem State.tamper_eq (s : State) (alarm : Fin 5) (value : Int) : s.tamper alarm value =
    if s.live then (s.tamperShut alarm value).resumeAll else s.tamperShut alarm value := by
  rw [← State.live_congr (s.tamperShut_phase alarm value)]
  rfl

theorem exec_tamperAlarm {s : State} (h : s.phase.guarded = true) (alarm : Fin 5) (value : Int) :
    exec (.tamperAlarm alarm value) s = .next (s.tamper alarm value) := by
  change execTamperAlarm alarm value s = _
  rw [execTamperAlarm, h, if_pos rfl]

theorem State.tamperShut_sec (s : State) (alarm : Fin 5) (value : Int) : (s.tamperShut alarm value).sec =
    { s.sec with
      causes := s.sec.causes ||| ((1 : BitVec 5) <<< alarm.val)
      tampered := true
      meshBroken := s.sec.meshBroken || alarm.val == 3
      keysHeld := false
      kpio := []
      sessions := [] } :=
  ((State.foldl_contain_sec ..).trans ((s.tamperSaid_changes alarm value).rest .sec (by decide))).trans (State.eraseKeys_sec _)

theorem State.tamperShut_vault (s : State) (alarm : Fin 5) (value : Int) :
    (s.tamperShut alarm value).vault = (s.alarmed alarm).eraseKeys.vault :=
  ((State.foldl_contain_changes _ _ _).rest .vault (by decide)).trans ((s.tamperSaid_changes alarm value).rest .vault (by decide))

theorem State.tamperShut_port (s : State) (alarm : Fin 5) (value : Int) (p : Fin 2) :
    (s.tamperShut alarm value).ports[p].ideKeys = Vector.replicate 2 none ∧ (s.tamperShut alarm value).ports[p].ide ≠ .secure := by
  rw [State.tamperShut, State.foldl_contain_ports_keeps PcPort.ideKeys (fun _ _ => rfl) (fun _ => rfl),
    State.foldl_contain_ports_keeps PcPort.ide (fun _ _ => rfl) (fun _ => rfl), (s.tamperSaid_changes alarm value).rest .ports (by decide)]
  exact State.eraseKeys_port _ p

theorem State.tamperShut_unencrypted (s : State) (alarm : Fin 5) (value : Int) : (s.tamperShut alarm value).land.unencrypted = [] := by
  have hsub := (State.foldl_contain_lines_lost (s.tamperSaid alarm value).portList 7 (s.tamperSaid alarm value)).1
  rw [(s.tamperSaid_changes alarm value).rest .land (by decide)] at hsub
  refine List.filter_eq_nil_iff.mpr fun e he => ?_
  have hne := State.eraseKeys_encrypted _ (hsub he)
  cases hst : e.2.st <;> simp_all

theorem State.tamperShut_lost (s : State) (alarm : Fin 5) (value : Int) {e : Nat × Line} (he : e ∈ s.land.unencrypted)
    (hw : e.2.wt = false) : gkey e.2.ns e.2.granule ∈ (s.tamperShut alarm value).media.lost := by
  rw [State.tamperShut, (State.foldl_contain_lines_lost ..).2, (s.tamperSaid_changes alarm value).rest .media (by decide)]
  exact State.eraseKeys_lost _ he hw

/-! ### The entropy source and the lanes -/

section
variable {s : State}

theorem exec_entropyHealthFail (h : s.live = true) : exec .entropyHealthFail s = .next s.entropyFails := by
  change execEntropyHealthFail s = _
  rw [execEntropyHealthFail, State.whenLive_live h]

theorem exec_entropyRetry (h : s.live = true) (ok : Bool) : exec (.entropyRetry ok) s = .next
    (if !s.sec.entropyBad then s else if ok then { s with sec := { s.sec with entropyBad := false } } else s.entropyFails) := by
  change execEntropyRetry ok s = _
  rw [execEntropyRetry, State.whenLive_live h]

theorem exec_debugUnlockWrite (h : s.phase.guarded = true) (ok : Bool) : exec (.debugUnlockWrite ok) s = .next
    (if (s.tamper 4 0).sec.debugAuth && ok then
      { s.tamper 4 0 with sec := { (s.tamper 4 0).sec with debugUnlocked := true, debugAuth := false } } else s.tamper 4 0) := by
  change execDebugUnlockWrite ok s = _
  rw [execDebugUnlockWrite, h]
  rfl

/-- The lanes that a known-answer test found wrong, taken out one by one. -/
def State.lanesFail (failed : BitVec 8) (ls : List (Fin 8)) (s : State) : State :=
  ls.foldl (fun s sl => if failed.getLsbD sl.val then s.laneFails sl else s) s

theorem exec_cipherLaneKat (h : s.live = true) (failed : BitVec 8) :
    exec (.cipherLaneKat failed) s = .next (s.lanesFail failed (List.finRange 8)) := by
  change execCipherLaneKat failed s = _
  rw [execCipherLaneKat, State.whenLive_live h]
  rfl

theorem State.fatal_units (s : State) (ps : List (Fin 2)) : (s.fatal ps).units = s.units :=
  (State.fatal_changes s ps).rest .units (by decide)

theorem State.laneFails_lane (s : State) (sl k : Fin 8) :
    (s.laneFails sl).units.lane[k] = (s.units.lane[k] || decide (k = sl)) := by
  have hupd : (s.units.lane.upd sl (fun _ => true))[k] = (s.units.lane[k] || decide (k = sl)) := by
    by_cases hk : k = sl
    · subst hk
      rw [Tbl.upd_get]
      simp
    · rw [Tbl.upd_get_ne _ _ _ _ hk]
      simp [hk]
  cases hout : s.units.lane[sl] with
  | true =>
    simp only [State.laneFails, hout, if_true]
    by_cases hk : k = sl
    · rw [hk, hout, Bool.true_or]
    · simp [hk]
  | false =>
    cases hmate : (s.units.lane.upd sl (fun _ => true))[partner sl] with
    | true =>
      simp only [State.laneFails, hout, hmate, if_true, Bool.false_eq_true, if_false, State.fatal_units]
      exact hupd
    | false =>
      simp only [State.laneFails, hout, hmate, Bool.false_eq_true, if_false]
      exact hupd

theorem State.lanesFail_lane (failed : BitVec 8) (ls : List (Fin 8)) (s : State) (k : Fin 8) :
    (s.lanesFail failed ls).units.lane[k] = (s.units.lane[k] || (failed.getLsbD k.val && decide (k ∈ ls))) := by
  induction ls generalizing s with
  | nil => simp [State.lanesFail]
  | cons sl ls ih =>
    refine (ih _).trans ?_
    dsimp only
    by_cases hf : failed.getLsbD sl.val = true
    · rw [if_pos hf, State.laneFails_lane]
      by_cases hk : k = sl
      · subst hk
        simp [hf]
      · simp [hk]
    · rw [if_neg hf]
      by_cases hk : k = sl
      · subst hk
        rw [Bool.eq_false_iff.mpr hf, Bool.false_and, Bool.false_and]
      · simp [hk]

/-- Lanes that pass are left alone. -/
theorem State.lanesFail_passed (failed : BitVec 8) (ls : List (Fin 8)) (s : State) (h : ∀ k ∈ ls, failed.getLsbD k.val = false) :
    s.lanesFail failed ls = s := by
  induction ls generalizing s with
  | nil => rfl
  | cons sl ls ih =>
    rw [State.lanesFail, List.foldl_cons, h sl List.mem_cons_self]
    exact ih s fun k hk => h k (List.mem_cons_of_mem _ hk)

/-- A test with one failing lane takes that lane out. -/
theorem State.lanesFail_one (s : State) (sl : Fin 8) : s.lanesFail (1 <<< sl.val) (List.finRange 8) = s.laneFails sl := by
  have hbit : ∀ i k : Fin 8, ((1 <<< i.val : Nat) : BitVec 8).getLsbD k.val = decide (k = i) := by decide
  obtain ⟨as, bs, hsplit⟩ := List.append_of_mem (List.mem_finRange sl)
  have hnd := List.nodup_finRange 8
  rw [hsplit, List.nodup_append, List.nodup_cons] at hnd
  obtain ⟨-, ⟨hbs, -⟩, hdis⟩ := hnd
  have has (k : Fin 8) (hk : k ∈ as) : ((1 <<< sl.val : Nat) : BitVec 8).getLsbD k.val = false := by
    rw [hbit]
    exact decide_eq_false (hdis k hk sl List.mem_cons_self)
  have hafter (k : Fin 8) (hk : k ∈ bs) : ((1 <<< sl.val : Nat) : BitVec 8).getLsbD k.val = false := by
    rw [hbit]
    exact decide_eq_false fun h => hbs (h ▸ hk)
  have hown : ((1 <<< sl.val : Nat) : BitVec 8).getLsbD sl.val = true := (hbit sl sl).trans (decide_eq_true rfl)
  have hfirst := State.lanesFail_passed _ as s has
  simp only [State.lanesFail] at hfirst
  rw [hsplit, State.lanesFail, List.foldl_append, hfirst, List.foldl_cons, if_pos hown]
  exact State.lanesFail_passed _ bs _ hafter

/-- A lane whose partner serves goes out of service with its event (R52). -/
theorem State.laneFails_taken_over {sl : Fin 8} (hin : s.units.lane[sl] = false) (hmate : s.units.lane[partner sl] = false) :
    s.laneFails sl = ({ s with units := { s.units with lane := s.units.lane.upd sl (fun _ => true) } }).outage 0x5430 0 sl.val [] := by
  have hne : ∀ sl : Fin 8, partner sl ≠ sl := by decide
  simp only [State.laneFails, hin, Tbl.upd_get_ne _ _ _ _ (hne sl), hmate, Bool.false_eq_true, if_false]

end

/-- Settles O48: after the erasure the containments only add to the ports' causes and free lines; a known-answer test takes the failed
lanes out one by one. -/
theorem tamperAndEntropy : Obligations.TamperAndEntropy := by
  refine ⟨?alarm, ?debug, ?entropy, ?lanes⟩
  case alarm =>
    intro alarm value s hg
    have hmesh : (s.sec.meshBroken || alarm.val == 3) = true ↔ s.sec.meshBroken = true ∨ alarm = 3 := by
      rw [Bool.or_eq_true, beq_iff_eq, Fin.ext_iff]
      rfl
    have hsec := s.tamperShut_sec alarm value
    refine ⟨s.tamperShut alarm value, (exec_tamperAlarm hg alarm value).trans (congrArg _ (s.tamper_eq alarm value)),
      congrArg Security.tampered hsec, congrArg Security.causes hsec, ?_, congrArg Security.keysHeld hsec,
      congrArg Security.kpio hsec, congrArg Security.sessions hsec, fun pg => ?_, s.tamperShut_port alarm value, fun p hp => ?_,
      s.tamperShut_unencrypted alarm value, fun e he hw => s.tamperShut_lost alarm value he hw, (congrArg Security.keyGen hsec :),
      (congrArg Security.owner hsec :), (congrArg Security.ownerLock hsec :)⟩
    · rw [hsec]
      exact hmesh
    · rw [s.tamperShut_vault]
      exact State.eraseKeys_page _ pg
    · exact State.foldl_contain_containedBy (.inr (.inr rfl)) _ _
        (.inl (State.portList_congr (s.tamperSaid_board alarm value) ▸ hp))
  case debug =>
    intro ok s hg
    have hauth : (s.tamper 4 0).sec.debugAuth = s.sec.debugAuth := (congrArg Security.debugAuth (s.tamper_sec 4 0) :)
    exact ⟨_, exec_tamperAlarm hg 4 0, (exec_debugUnlockWrite hg ok).trans (by rw [hauth])⟩
  case entropy =>
    intro s hlive
    refine ⟨⟨_, exec_entropyHealthFail hlive, rfl, rfl, ?_⟩, fun ok hgood => ?_, fun hbad => ⟨?_, s.entropyFails, ?_, ?_, rfl⟩⟩
    · exact (State.log_changes ..).step rfl (Changes.sec_with _ rfl (.refl _ s))
    · rw [exec_entropyRetry hlive, hgood]
      rfl
    · rw [exec_entropyRetry hlive, hbad]
      rfl
    · rw [exec_entropyRetry hlive, hbad]
      rfl
    · exact congrArg (fun b => ({ s.sec with entropyBad := b } : Security)) hbad.symm
  case lanes =>
    intro failed s hlive
    refine ⟨_, exec_cipherLaneKat hlive failed, fun sl => ?_, fun h0 => ?_, fun sl h1 hin hmate => ?_⟩
    · rw [State.lanesFail_lane]
      simp
    · exact State.lanesFail_passed _ _ _ fun k _ => by rw [h0]; simp
    · rw [h1, State.lanesFail_one, State.laneFails_taken_over hin hmate]
      exact ⟨rfl, (State.outage_changes ..).step rfl (Changes.units_with _ rfl (.refl _ s))⟩

end Sys2Proof.Machine
end

section
/-! The statement of chapter 09 about the rounds of a DRAM channel (R319 to R324). -/

namespace Sys2Proof.Machine

open Sys2Proof

/-- One burst at the start of a row. -/
def oneBurst : DramTxn := { bursts := 1, bank := 0, row := 0 }

/-- A DRAM channel at which the remainder of a DEBUG grant that was cut off still has its request up (R321, R322). -/
def debugRestCh : DramCh := { arb := ({} : DramCh).arb.upd 11 (fun a => { a with txn := some oneBurst }) }

/-- A running machine with an unlocked debug port, each channel with a remainder of DEBUG. -/
def debugRestState : State :=
  { State.reset with
    phase := .running
    sec := { debugUnlocked := true }
    dram := { chs := Vector.replicate 16 debugRestCh } }

/-- Class 0 alone has raised a request among the normal classes. -/
def debugRestRaised : DramCh := [((0 : Fin 12), oneBurst)].foldl DramCh.raise { debugRestState.dch 0 with grant := none }

theorem debugRestRaised_only : ∀ j : Fin 12, j.val < 10 → debugRestRaised.arb[j].txn.isSome → j = 0 := by decide

/-- The round goes to the remainder of DEBUG, not to class 0. -/
theorem debugRestState_round : ∃ t, exec (.arbRound 0 [(0, oneBurst)] none 0) debugRestState = .next t ∧
    t.out = [Output.dram 0 0 11] := ⟨_, rfl, by decide⟩

/-- Refutes O43: the clause about a round without a pause names the class among the normal ones that is granted, and does not except a
channel at which the remainder of a DEBUG grant has its request up; that one goes first (`State.debugRest`). -/
theorem not_dramRounds : ¬ Obligations.DramRounds := by
  intro h
  obtain ⟨t, ht, hout⟩ := debugRestState_round
  have hfirst : ∀ j : Fin 12, j.val < 10 → debugRestRaised.arb[j].txn.isSome →
      debugRestRaised.arb[j].prio ≤ debugRestRaised.arb[(0 : Fin 12)].prio ∧
      (debugRestRaised.arb[j].prio = debugRestRaised.arb[(0 : Fin 12)].prio →
        (debugRestRaised.rowHit j = true → debugRestRaised.rowHit 0 = true) ∧
          (j ≠ 0 → debugRestRaised.rowHit j = debugRestRaised.rowHit 0 →
            rotation debugRestRaised.lastAt[debugRestRaised.arb[(0 : Fin 12)].prio.toFin] 0 <
              rotation debugRestRaised.lastAt[debugRestRaised.arb[(0 : Fin 12)].prio.toFin] j)) := by
    intro j hj hup
    cases debugRestRaised_only j hj hup
    exact ⟨BitVec.le_refl _, fun _ => ⟨id, fun hne => absurd rfl hne⟩⟩
  have hwait : ∀ j : Fin 12, j.val < 10 → debugRestRaised.arb[j].txn.isSome →
      debugRestRaised.arb[j].wait < debugRestRaised.arb[j].starveMax := by
    intro j hj hup
    cases debugRestRaised_only j hj hup
    decide
  obtain ⟨u, hu, hpre, -⟩ := h.1 0 [(0, oneBurst)] 0 oneBurst debugRestRaised debugRestState rfl rfl rfl rfl rfl (by decide) (by decide)
    (.inr ⟨hwait, hfirst⟩)
  cases ht.symm.trans hu
  rw [hout] at hpre
  exact absurd hpre (by decide)

end Sys2Proof.Machine
end

section
/-! The statement of chapter 09 about DRAM errors, training and retraining (R316, R326, R328, R329, R331, R332, R334), and what ending a
command keeps of the flash. -/

namespace Sys2Proof.Machine

open Sys2Proof

/-! ### Ending a command keeps the flash but for what is reserved on it -/

section
variable {α : Type} (π : Media → α) (hπ : ∀ m ns u, π (Media.unreserve m ns u) = π m)
include hπ

theorem State.dropLines_media_keeps (s : State) (ns : List Nat) : π (s.dropLines ns).media = π s.media := by
  have hfold : ∀ (l : List Line) (m : Media), π (l.foldl (fun m l => m.unreserve l.ns l.resv) m) = π m := by
    intro l
    induction l with
    | nil => exact fun _ => rfl
    | cons x l ih => exact fun m => (ih _).trans (hπ ..)
  exact hfold _ _

theorem State.endCmd_media_keeps (s : State) (fseq : Nat) : π (s.endCmd fseq).media = π s.media := by
  rw [State.endCmd]
  split
  · rfl
  · exact State.dropLines_media_keeps π hπ s _

theorem State.complete_media_keeps (s : State) (fseq : Nat) (st : Status) (dw0 lba : Nat) :
    π (s.complete fseq st dw0 lba).media = π s.media := by
  simp only [State.complete]
  split
  · rfl
  · have ends (u : State) (hu : u.media = s.media) (c : Cmd) : π (if c.silent then (u.endCmd fseq).tryReady c.port else
        (u.post c.port fseq c.sqid c.cid st dw0).endCmd fseq).media = π s.media := by
      split
      · rw [State.tryReady_media, State.endCmd_media_keeps π hπ, hu]
      · rw [State.endCmd_media_keeps π hπ, State.post_media, hu]
    refine ends _ ?_ _
    split <;> rfl

/-- A command that quits takes its reads and the queued operations that serve them along. -/
theorem State.quit_media_keeps (hreads : ∀ (m : Media) r u d, π { m with reads := r, unrec := u, dies := d } = π m) (s : State)
    (fseq : Nat) (st : Status) (lba : Nat) : π (s.quit fseq st lba).media = π s.media :=
  (State.complete_media_keeps π hπ ..).trans (hreads ..)

theorem State.foldl_quit_media_keeps (hreads : ∀ (m : Media) r u d, π { m with reads := r, unrec := u, dies := d } = π m)
    (fs : List Nat) (st : Status) (s : State) : π (fs.foldl (fun s f => s.quit f st) s).media = π s.media := by
  induction fs generalizing s with
  | nil => rfl
  | cons f fs ih => exact (ih _).trans (State.quit_media_keeps π hπ hreads s f st 0)

end

/-! ### A channel's state -/

@[simp] theorem State.setDch_dch (s : State) (c : Fin 16) (f : DramCh → DramCh) : (s.setDch c f).dch c = f (s.dch c) :=
  Tbl.upd_get s.dram.chs c f

theorem State.setDch_dch_ne {o c : Fin 16} (h : o ≠ c) (s : State) (f : DramCh → DramCh) : (s.setDch c f).dch o = s.dch o :=
  Tbl.upd_get_ne _ _ _ _ h

theorem State.dch_congr {s t : State} (h : t.dram = s.dram) (c : Fin 16) : t.dch c = s.dch c := by
  rw [State.dch, State.dch, h]

theorem satOf_toNat_succ {w : Nat} (x : BitVec w) : satOf w (x.toNat + 1) = satInc x := by
  have hx := x.isLt
  by_cases hmax : x = BitVec.allOnes w
  · subst hmax
    rw [satOf, satInc, if_pos rfl, if_neg]
    rw [BitVec.toNat_allOnes]
    omega
  · rw [satInc, if_neg hmax, satOf, if_pos]
    · rw [BitVec.ofNat_add, BitVec.ofNat_toNat, BitVec.setWidth_eq]
      rfl
    · have hne : x.toNat ≠ 2 ^ w - 1 := fun e => hmax (BitVec.eq_of_toNat_eq (by rw [e, BitVec.toNat_allOnes]))
      omega

/-! ### Fatal status (R52, R301) -/

theorem State.contain_ctrl (s : State) (p q : Fin 2) (trig : Fin 8) : (s.contain p trig).ctrl q = s.ctrl q := by
  have hmeets : (s.ferryMeets p).ctrl q = s.ctrl q := by
    rw [State.ferryMeets]
    split
    · split
      · split
        · rw [State.abandonFerry]
          split <;> rfl
        · rfl
      · rfl
    · rfl
  have hhalt (t : State) : (t.haltLent p).ctrl q = t.ctrl q :=
    congrArg (fun m : Cmq => m.ctrls[q]) ((State.haltLent_changes t p).rest .cmq (by decide))
  have hsays (t : State) : (t.containSays p trig).ctrl q = t.ctrl q :=
    congrArg (fun m : Cmq => m.ctrls[q]) ((State.containSays_changes t p trig).rest .cmq (by decide))
  have hends (l : List (Nat × Cmd)) : ∀ t : State,
      (l.foldl (fun s e => if e.2.fate = 5 ∨ e.2.fate = 6 then s else s.endCmd e.1) t).ctrl q = t.ctrl q := by
    induction l with
    | nil => exact fun _ => rfl
    | cons e l ih =>
      intro t
      rw [List.foldl_cons, ih]
      split
      · rfl
      · exact State.endCmd_ctrl ..
  simp only [State.contain]
  split
  · rfl
  · split
    · rfl
    · rw [hsays]
      refine (hends _ _).trans ?_
      exact (hhalt _).trans hmeets

theorem State.fatal_cfs (ps : List (Fin 2)) (s : State) (q : Fin 2) (h : q ∈ ps ∨ (s.ctrl q).cfs = true) :
    ((s.fatal ps).ctrl q).cfs = true := by
  induction ps generalizing s with
  | nil => exact h.resolve_left List.not_mem_nil
  | cons p ps ih =>
    have hone (h : q = p ∨ (s.ctrl q).cfs = true) : ((if (s.ctrl p).cfs then s else
        (s.setCtrl p (fun c => { c with cfs := true })).contain p 6).ctrl q).cfs = true := by
      split
      · rename_i hset
        exact h.elim (fun e => e ▸ hset) id
      · rw [State.contain_ctrl]
        by_cases hq : q = p
        · rw [hq, State.setCtrl_ctrl]
        · rw [State.setCtrl_ctrl_ne _ hq, h.resolve_left hq]
    refine ih _ ?_
    rcases h with hmem | hset
    · exact (List.mem_cons.mp hmem).elim (fun e => .inr (hone (.inl e))) .inl
    · exact .inr (hone (.inr hset))

/-! ### A channel fails (R52, R334) -/

section
variable {s : State} {c : Fin 16}

theorem State.channelFails_eq (h : (s.dch c).failed = false) (reason : Nat) : ∃ u : State, s.channelFails c reason = u.fatal s.portList ∧
    (u.dch c).failed = true ∧ ∀ o : Fin 16, o ≠ c → u.dch o = s.dch o := by
  simp only [State.channelFails, h, Bool.false_eq_true, if_false]
  refine ⟨_, rfl, ?_, fun o ho => ?_⟩
  · rw [State.dch_congr ((State.drain_changes _).rest .dram (by decide)),
      State.dch_congr ((State.loseChannel_changes _ c).rest .dram (by decide)),
      State.dch_congr ((State.outage_changes ..).rest .dram (by decide)), State.setDch_dch]
  · rw [State.dch_congr ((State.drain_changes _).rest .dram (by decide)),
      State.dch_congr ((State.loseChannel_changes _ c).rest .dram (by decide)),
      State.dch_congr ((State.outage_changes ..).rest .dram (by decide)), State.setDch_dch_ne ho]

theorem State.channelFails_failed (h : (s.dch c).failed = false) (reason : Nat) : ((s.channelFails c reason).dch c).failed = true := by
  obtain ⟨u, hu, hfailed, -⟩ := State.channelFails_eq h reason
  rw [hu, State.dch_congr ((State.fatal_changes ..).rest .dram (by decide)), hfailed]

theorem State.channelFails_cfs (h : (s.dch c).failed = false) (reason : Nat) {p : Fin 2} (hp : p ∈ s.portList) :
    ((s.channelFails c reason).ctrl p).cfs = true := by
  obtain ⟨u, hu, -, -⟩ := State.channelFails_eq h reason
  rw [hu]
  exact State.fatal_cfs _ u p (.inl hp)

theorem State.dchUp_failed (h : s.dchUp c = true) : (s.dch c).failed = false := by
  rw [State.dchUp, Bool.and_eq_true] at h
  exact Bool.not_eq_true' _ ▸ h.1

end

/-! ### Corrected and uncorrectable bursts (R316, R334) -/

section
variable {s : State} {c : Fin 16}

theorem exec_scrubDue (h : s.live = true) (c : Fin 16) (corrected : Bool) : exec (.scrubDue c corrected) s = .next
    (if s.dram.scrubEn ∧ s.dchUp c then s.corrected c (bit corrected) else s) := by
  change execScrubDue c corrected s = _
  rw [execScrubDue, State.whenLive_live h]

theorem exec_dramUe (h : s.live = true) (hup : s.dchUp c = true) (k : Fin 12) (w : UeWhere) (addr : Nat) :
    exec (.dramUe c k w addr) s = .next (s.dramUe c k w addr) := by
  change execDramUe c k w addr s = _
  rw [execDramUe, State.whenLive_live h, if_pos hup]

/-- A corrected burst is counted and waits for its write-back. -/
theorem State.corrected_one_dch (s : State) (c : Fin 16) : (s.corrected c 1).dch c =
    { s.dch c with ce := satInc (s.dch c).ce, writeBack := (s.dch c).writeBack + 1 } := by
  rw [State.corrected, if_neg Nat.one_ne_zero, State.setDch_dch, satOf_toNat_succ]
  rfl

/-- The uncorrectable bursts of a channel within the last second, this one among them. -/
def State.ueTimes (s : State) (c : Fin 16) : List Nat :=
  s.tb.count.toNat :: (s.dch c).ueAt.filter (fun t => decide (s.tb.count.toNat ≤ t + 100000000))

/-- The burst is counted and its event written; it has had no effect yet. -/
def State.ueSeen (s : State) (c : Fin 16) (k : Fin 12) (addr : Nat) : State :=
  ((s.setDch c (fun d => { d with ue := satInc d.ue, ueAt := s.ueTimes c })).setDram (fun d => { d with ueTotal := d.ueTotal + 1 })).log
    0x3452 0xFF (leBytes 1 c.val ++ leBytes 1 k.val ++ leBytes 1 (ueRegion addr) ++ leBytes 1 0 ++ leBytes 8 addr)

/-- Fewer than 64 within a second leave the channel in service. -/
theorem State.dramUe_kept (h : ((s.dch c).ueAt.filter (fun u => decide (s.tb.count.toNat ≤ u + 100000000))).length < 63)
    (k : Fin 12) {w : UeWhere} (hw : w ≠ .fwTable) (addr : Nat) : s.dramUe c k w addr = (s.ueSeen c k addr).ueAct w := by
  have hfew : ¬ 64 ≤ (s.ueTimes c).length := by
    rw [State.ueTimes, List.length_cons]
    omega
  simp only [State.dramUe, hw, if_false]
  exact if_neg hfew

theorem State.dramUe_fails (h : 63 ≤ ((s.dch c).ueAt.filter (fun u => decide (s.tb.count.toNat ≤ u + 100000000))).length)
    (k : Fin 12) (addr : Nat) : s.dramUe c k .buffer addr = (s.ueSeen c k addr).channelFails c 1 := by
  have hmany : 64 ≤ (s.ueTimes c).length := by
    rw [State.ueTimes, List.length_cons]
    omega
  rw [State.dramUe]
  exact if_pos hmany

theorem State.ueSeen_dch (s : State) (c : Fin 16) (k : Fin 12) (addr : Nat) :
    (s.ueSeen c k addr).dch c = { s.dch c with ue := satInc (s.dch c).ue, ueAt := s.ueTimes c } :=
  State.setDch_dch s c _

theorem State.ueSeen_changes (s : State) (c : Fin 16) (k : Fin 12) (addr : Nat) : Changes [.dram, .evr] s (s.ueSeen c k addr) :=
  (State.log_changes ..).step rfl (Changes.dram_with _ rfl ((State.setDch_changes s c _).mono rfl))

/-- The acknowledged data of a committed line is lost; the commands that own it have ended (R334). -/
def State.lineLost (s : State) (n : Nat) (l : Line) : State :=
  ((((s.setMedia (fun m => m.lose [gkey l.ns l.granule])).cmq.cmds.filter (fun e => e.2.lines.contains n)).map (·.1)).foldl
    (fun s f => s.quit f .dataTransferError) (s.setMedia (fun m => m.lose [gkey l.ns l.granule]))).dropLines [n]

theorem State.ueLine_lost {n : Nat} {l : Line} (hl : s.land.lines.get? n = some l) (hst : l.st = .committed) (hwt : l.wt = false)
    (hrow : l.row = none) : s.ueLine n = (s.lineLost n l).resumeAll := by
  simp only [State.ueLine, hl, hst, hwt, hrow, ne_eq, not_true, if_false, Bool.false_eq_true]
  rfl

theorem State.lineLost_lost (s : State) (n : Nat) (l : Line) : (s.lineLost n l).media.lost = (s.media.lose [gkey l.ns l.granule]).lost :=
  (State.dropLines_media_keeps Media.lost (fun _ _ _ => rfl) _ _).trans
    (State.foldl_quit_media_keeps Media.lost (fun _ _ _ => rfl) (fun _ _ _ _ => rfl) _ _ _)

theorem State.lineLost_lostTotal (s : State) (n : Nat) (l : Line) : (s.lineLost n l).media.lostTotal = s.media.lostTotal + 1 :=
  (State.dropLines_media_keeps Media.lostTotal (fun _ _ _ => rfl) _ _).trans
    (State.foldl_quit_media_keeps Media.lostTotal (fun _ _ _ => rfl) (fun _ _ _ _ => rfl) _ _ _)

theorem State.lineLost_gone (s : State) (n : Nat) (l : Line) : (s.lineLost n l).land.lines.get? n = none := by
  rw [State.lineLost, State.dropLines, Landing.release_lines]
  exact AMap.get?_del ..

/-- The command whose read-back failed leaves with Data Transfer Error, and the map is as it was. -/
theorem State.Flying.quits {u : State} {fseq : Nat} {x : Cmd} {ph : CmdPhase} (h : s.Flying fseq x ph) (same : State.SamePost s u fseq)
    (st : Status) : State.Completed u.out s (u.quit fseq st) fseq x st 0 :=
  h.completes_same (u := u.stopReads fseq) ⟨same.get, same.ctrls, same.ports, same.dict⟩ st 0 0

end

/-! ### Training and retraining (R326 to R331) -/

section
variable {s : State} {c : Fin 16}

theorem exec_dramTrainingDone (h : s.live = true) (c : Fin 16) (r : DramTraining) :
    exec (.dramTrainingDone c r) s = .next (s.dramTrained c r) := by
  change execDramTrainingDone c r s = _
  rw [execDramTrainingDone, State.whenLive_live h]

theorem exec_retrainCycle (h : s.live = true) (mask : BitVec 16) :
    exec (.retrainCycle mask) s = .next ((maskChs mask).foldl State.wantCycle s) := by
  change execRetrainCycle mask s = _
  rw [execRetrainCycle, State.whenLive_live h]

theorem exec_retrainFull (h : s.live = true) (mask : BitVec 16) :
    exec (.retrainFull mask) s = .next ((maskChs mask).foldl State.wantFull s) := by
  change execRetrainFull mask s = _
  rw [execRetrainFull, State.whenLive_live h]

theorem exec_retrainCycleDue (h : s.live = true) (c : Fin 16) : exec (.retrainCycleDue c) s = .next
    (if s.dram.retrainEn ∧ s.param 0x7000 4 = 0 then s.wantCycle c else s) := by
  change execRetrainCycleDue c s = _
  rw [execRetrainCycleDue, State.whenLive_live h]

/-- What a channel that passed training is set to. -/
def State.trainedCh (s : State) (r : DramTraining) (x : Fin 4) (d : DramCh) : DramCh :=
  { d with
    rate := BitVec.ofNat 2 x.val, rd0 := satOf 7 r.rd0, rd1 := satOf 7 r.rd1, wr0 := satOf 7 r.wr0, wr1 := satOf 7 r.wr1
    eye := satOf 8 r.eye, cycleTemp := s.junction }

theorem beq_firmware_or_recovering (h : s.phase = .firmware ∨ s.phase = .recovering) :
    (s.phase == .firmware || s.phase == .recovering) = true := by
  rcases h with h | h <;> rw [h] <;> rfl

theorem State.dramTrained_passed {r : DramTraining} {x : Fin 4} (hph : s.phase = .firmware ∨ s.phase = .recovering)
    (hok : (s.dch c).failed = false) (hr : r.rate = some x) :
    (s.dramTrained c r).dram = (s.setDch c (s.trainedCh r x)).dram := by
  have hph := beq_firmware_or_recovering hph
  simp only [State.dramTrained, hok, hph, hr, Bool.not_true, Bool.false_eq_true, or_self, if_false]
  have hback : (if (s.setDch c (s.trainedCh r x)).dram.degraded then s.setDch c (s.trainedCh r x) else
      (s.setDch c (s.trainedCh r x)).returned (fun o => decide (o.1 = 0x3450) && decide (o.2.1 = c.val))).dram =
        (s.setDch c (s.trainedCh r x)).dram := by
    split
    · rfl
    · exact (State.returned_changes ..).rest .dram (by decide)
  split
  · exact hback
  · exact hback

theorem Dram.failedCount_upd_first {d : Dram} (h : d.failedCount = 0) (c : Fin 16) :
    ({ d with chs := d.chs.upd c (fun d => { d with failed := true }) } : Dram).failedCount = 1 := by
  have hnone : ∀ o : Fin 16, d.chs[o].failed = false := by
    intro o
    have := List.filter_eq_nil_iff.mp (List.eq_nil_of_length_eq_zero h) o (List.mem_finRange o)
    simpa using this
  have hbits : ∀ o : Fin 16, (d.chs.upd c (fun d => { d with failed := true }))[o].failed = (o == c) := by
    intro o
    by_cases ho : o = c
    · subst ho
      rw [Tbl.upd_get, beq_self_eq_true]
    · rw [Tbl.upd_get_ne _ _ _ _ ho, hnone, beq_false_of_ne ho]
  simp only [Dram.failedCount, hbits]
  have hone : ∀ c : Fin 16, ((List.finRange 16).filter (fun o => o == c)).length = 1 := by decide
  exact hone c

/-- The first channel that fails training gives the degraded layout. -/
theorem State.trainingFails_first (hdeg : s.dram.degraded = false) (hcount : s.dram.failedCount = 0) :
    ((s.trainingFails c).dch c).failed = true ∧ (s.trainingFails c).dram.degraded = true := by
  have hone : ¬ 1 < (s.setDch c (fun d => { d with failed := true })).dram.failedCount := by
    change ¬ 1 < ({ s.dram with chs := s.dram.chs.upd c (fun d => { d with failed := true }) } : Dram).failedCount
    rw [Dram.failedCount_upd_first hcount]
    decide
  have hfirst : (s.setDch c (fun d => { d with failed := true })).dram.degraded = false := hdeg
  have hlate : (if (s.setDch c (fun d => { d with failed := true })).dramOut c then s.setDch c (fun d => { d with failed := true })
      else (s.setDch c (fun d => { d with failed := true })).outage 0x3450 c.val 0xFF (leBytes 1 c.val ++ leBytes 1 2)).dram =
        (s.setDch c (fun d => { d with failed := true })).dram := by
    split
    · rfl
    · rfl
  simp only [State.trainingFails, hfirst, Bool.false_eq_true, false_and, if_false]
  rw [hlate, if_neg hone]
  refine ⟨?_, rfl⟩
  rw [State.dch, State.log_dram, State.setDram]
  change (State.dram _).chs[c].failed = true
  rw [hlate]
  exact congrArg DramCh.failed (State.setDch_dch s c _)

/-- Channels of a mask are changed one by one, each by the rule `f` of its own, which looks at nothing of the others. -/
theorem State.foldl_setDch_dch (f : State → Fin 16 → State) (g : Fin 16 → DramCh → DramCh)
    (hown : ∀ (t : State) c, (∀ o, o ≠ c → (f t c).dch o = t.dch o)) (P : State → Prop) (hP : ∀ t c, P t → P (f t c))
    (heq : ∀ (t : State) c, P t → (f t c).dch c = g c (t.dch c)) (cs : List (Fin 16)) (hnd : cs.Nodup) (s : State) (hs : P s) (c : Fin 16) :
    (cs.foldl f s).dch c = if c ∈ cs then g c (s.dch c) else s.dch c := by
  induction cs generalizing s with
  | nil => rw [if_neg List.not_mem_nil]; rfl
  | cons k cs ih =>
    obtain ⟨hk, hnd⟩ := List.nodup_cons.mp hnd
    rw [List.foldl_cons, ih hnd _ (hP s k hs)]
    by_cases hc : c = k
    · subst hc
      rw [if_neg hk, if_pos List.mem_cons_self, heq s c hs]
    · rw [hown s k c hc]
      by_cases hmem : c ∈ cs
      · rw [if_pos hmem, if_pos (List.mem_cons_of_mem _ hmem)]
      · rw [if_neg hmem, if_neg (fun h => hmem ((List.mem_cons.mp h).resolve_left hc))]

theorem mem_maskChs (m : BitVec 16) (c : Fin 16) : c ∈ maskChs m ↔ m.getLsbD c.val = true := by
  simp [maskChs]

theorem maskChs_nodup (m : BitVec 16) : (maskChs m).Nodup := (List.nodup_finRange 16).filter _

/-- What decides whether a channel may retrain besides its own state. -/
def State.RetrainsAs (s t : State) : Prop := t.plp.pfail = s.plp.pfail ∧ t.dram.selfRefresh = s.dram.selfRefresh

/-- A channel that carries traffic and is not held by a power failure changes as `g` says. -/
def State.asked (s : State) (g : DramCh → DramCh) (d : DramCh) : DramCh :=
  if (!d.failed && !s.dram.selfRefresh) = true ∧ s.plp.pfail = false then g d else d

theorem State.RetrainsAs.asked {t : State} (h : s.RetrainsAs t) (g : DramCh → DramCh) : t.asked g = s.asked g := by
  obtain ⟨hp, hr⟩ := h
  funext d
  rw [State.asked, State.asked, hp, hr]

/-- A channel is asked to retrain, unless it is out of service or a power failure is on. -/
def State.wants (s : State) (g : DramCh → DramCh) (c : Fin 16) : State := if !s.dchUp c ∨ s.plp.pfail then s else s.setDch c g

theorem State.wants_dch (s : State) (g : DramCh → DramCh) (c : Fin 16) : (s.wants g c).dch c = s.asked g (s.dch c) := by
  change _ = if s.dchUp c = true ∧ s.plp.pfail = false then g (s.dch c) else s.dch c
  rw [State.wants]
  cases s.dchUp c <;> cases s.plp.pfail <;> simp

theorem State.wants_dch_ne {o c : Fin 16} (h : o ≠ c) (s : State) (g : DramCh → DramCh) : (s.wants g c).dch o = s.dch o := by
  rw [State.wants]
  split
  · rfl
  · exact State.setDch_dch_ne h s g

theorem State.RetrainsAs.wants {t : State} (h : s.RetrainsAs t) (g : DramCh → DramCh) (c : Fin 16) : s.RetrainsAs (t.wants g c) := by
  rw [State.wants]
  split
  · exact h
  · exact h

theorem State.wants_changes (s : State) (g : DramCh → DramCh) (c : Fin 16) : Changes [.dram] s (s.wants g c) := by
  rw [State.wants]
  split
  · exact .refl _ s
  · exact State.setDch_changes ..

/-- Every channel of the mask is asked, each by its own state. -/
theorem State.foldl_wants_dch (g : DramCh → DramCh) (mask : BitVec 16) (s : State) (c : Fin 16) :
    ((maskChs mask).foldl (fun s c => s.wants g c) s).dch c =
      if mask.getLsbD c.val = true ∧ s.dchUp c = true ∧ s.plp.pfail = false then g (s.dch c) else s.dch c := by
  rw [State.foldl_setDch_dch (fun s c => s.wants g c) (fun _ => s.asked g) (fun t k o ho => State.wants_dch_ne ho t g) s.RetrainsAs
    (fun t k h => h.wants g k) (fun t k h => (State.wants_dch t g k).trans (by rw [h.asked])) _ (maskChs_nodup mask) s ⟨rfl, rfl⟩]
  simp only [mem_maskChs, State.asked]
  rw [← ite_and]
  rfl

theorem State.foldl_wants_changes (g : DramCh → DramCh) (cs : List (Fin 16)) (s : State) :
    Changes [.dram] s (cs.foldl (fun s c => s.wants g c) s) :=
  Changes.foldl _ _ _ _ (fun _ _ h => (State.wants_changes ..).step rfl h) (.refl _ s)

/-- A cycle begins where neither a cycle nor a full retraining runs; a full retraining where none runs. -/
def DramCh.beginCycle (d : DramCh) : DramCh := if d.fullLeft = 0 ∧ d.cycleLeft = 0 then { d with cycleLeft := 3 } else d
def DramCh.beginFull (d : DramCh) : DramCh := if d.fullLeft = 0 then d.startFull else d

/-! ### A round with a pause (R328, R329) -/

theorem exec_arbRound (h : s.live = true) (c : Fin 16) (raised : List (Fin 12 × DramTxn)) (p : Option PauseResult) (fixed : Nat) :
    exec (.arbRound c raised p fixed) s = .next (s.arbRound c raised p fixed) := by
  change execArbRound c raised p fixed s = _
  rw [execArbRound, State.whenLive_live h]

/-- MAINT is granted; the pause has not run yet. -/
def State.paused (s : State) (c : Fin 16) : State :=
  ((s.setDch c (fun d => { d with grant := none })).setDch c (fun d =>
    { (d.maint.lose none) with grant := some (10, { bursts := 0, bank := 0, row := 0 }, 0) })).emit (.dram c 2 0)

theorem DramCh.lose_keeps {α : Type} (π : DramCh → α) (hπ : ∀ (d : DramCh) a, π { d with arb := a } = π d) (d : DramCh)
    (won : Option (Fin 12)) : π (d.lose won) = π d := by
  have hfold : ∀ (ks : List (Fin 12)) (d : DramCh),
      π (ks.foldl (fun d k => { d with arb := d.arb.upd k (fun a => { a with wait := a.wait + 1 }) }) d) = π d := by
    intro ks
    induction ks with
    | nil => exact fun _ => rfl
    | cons k ks ih => exact fun d => (ih _).trans (hπ ..)
  exact hfold _ d

/-- A pause leaves everything of its channel but requests and grants as it was. -/
theorem State.paused_keeps {α : Type} (π : DramCh → α) (hπ : ∀ (d : DramCh) a g, π { d with arb := a, grant := g } = π d) (s : State)
    (c : Fin 16) : π ((s.paused c).dch c) = π (s.dch c) := by
  have harb (d : DramCh) (a) : π { d with arb := a } = π d := hπ d a d.grant
  have hgrant (d : DramCh) (g) : π { d with grant := g } = π d := hπ d d.arb g
  change π ((State.setDch _ c _).dch c) = _
  rw [State.setDch_dch, State.setDch_dch, hgrant, DramCh.lose_keeps π harb, DramCh.maint, harb, hgrant]

/-- A pause that is due runs in a round of its own. -/
theorem State.arbRound_pause {p : PauseResult} (hup : s.dchUp c = true) (hover : (s.dch c).overlong = false)
    (hdue : s.pauseDue c p = true) : s.arbRound c [] (some p) 0 = (s.paused c).runPause c p := by
  have hdue : (s.setDch c (fun d => { d with grant := none })).pauseDue c p = true := by
    rw [← hdue]
    simp only [State.pauseDue, State.setDch_dch]
    rfl
  simp only [State.arbRound, hup, hover, Bool.not_true, Bool.false_eq_true, or_self, if_false, List.foldl_nil, State.corrected, if_true,
    Option.filter_some, hdue]
  rfl

end

section
variable {s : State} {c : Fin 16}

/-- A probe of the read delays runs: where a delay fails on both sides a full retraining follows. -/
theorem State.readProbe_dch (s : State) (c : Fin 16) (l0 h0 l1 h1 : Bool) :
    (s.runPause c (.readProbe l0 h0 l1 h1)).dch c = if (l0 && h0) || (l1 && h1) then (s.dch c).startFull else
      { (s.dch c).paused s.junction with
        rd0 := probeStep (s.dch c).rd0 l0 h0, rd1 := probeStep (s.dch c).rd1 l1 h1
        moves := satOf 8 ((s.dch c).moves.toNat + movesOf (probeStep (s.dch c).rd0 l0 h0) (s.dch c).rd0 +
          movesOf (probeStep (s.dch c).rd1 l1 h1) (s.dch c).rd1) } :=
  State.setDch_dch ..

/-- A pause of a full retraining that has not failed: the last one stores the delays. -/
theorem State.sweep_dch (s : State) (c : Fin 16) (last : Bool) (r : DramTraining) :
    (s.runPause c (.sweep last false r)).dch c = if (s.dch c).fullLeft ≤ 1 then { s.dch c with
        fullLeft := 0, rd0 := satOf 7 r.rd0, rd1 := satOf 7 r.rd1, wr0 := satOf 7 r.wr0, wr1 := satOf 7 r.wr1, eye := satOf 8 r.eye }
      else { s.dch c with fullLeft := (s.dch c).fullLeft - 1 } :=
  State.setDch_dch ..

/-- A full retraining that fails above the lowest rate goes on at the next one (R329). -/
theorem State.sweepFails_lower (h : (s.dch c).rate ≠ 3) :
    (s.sweepFails c).dch c = { s.dch c with fullLeft := 0, rate := (s.dch c).rate + 1 } := by
  rw [State.sweepFails, if_neg h]
  exact (State.setDch_dch ..).trans (congrArg (fun d : DramCh => { d with rate := (s.dch c).rate + 1 }) (State.setDch_dch ..))

theorem State.sweepFails_last (h : (s.dch c).rate = 3) (hok : (s.dch c).failed = false) :
    ((s.sweepFails c).dch c).failed = true := by
  rw [State.sweepFails, if_pos h]
  exact State.channelFails_failed ((congrArg DramCh.failed (State.setDch_dch s c _)).trans hok) 2

end

/-- Settles O44: an uncorrectable burst is counted and written (`State.ueSeen`) and then has the effect of its place; a pause runs on the
channel that its grant left (`State.paused_keeps`). -/
theorem dramTrainingAndErrors : Obligations.DramTrainingAndErrors := by
  refine ⟨?scrub, ?noScrub, ?buffer, ?line, ?readBack, ?mapPage, ?many, ?trained, ?untrained, ?due, ?masks, ?probe, ?sweep⟩
  case scrub =>
    intro c s hlive hup hen
    have hexec := exec_scrubDue hlive c true
    rw [if_pos ⟨hen, hup⟩] at hexec
    have hdch := s.corrected_one_dch c
    exact ⟨_, hexec, rfl, (congrArg DramCh.ce hdch :), (congrArg DramCh.writeBack hdch :), (congrArg DramCh.arb hdch :),
      fun o ho => State.setDch_dch_ne ho _ _, State.corrected_changes s c 1⟩
  case noScrub =>
    intro c b s hlive hoff
    rw [exec_scrubDue hlive]
    rcases hoff with rfl | hoff
    · rw [show s.corrected c (bit false) = s from if_pos rfl, ite_self]
    · rw [hoff, if_neg (fun h => Bool.false_ne_true h.1)]
  case buffer =>
    intro c k addr s hlive hup hfew
    have hw : UeWhere.buffer ≠ .fwTable := by simp
    have hdch := s.ueSeen_dch c k addr
    refine ⟨_, (exec_dramUe hlive hup k .buffer addr).trans (congrArg _ (State.dramUe_kept hfew k hw addr)), ?_, rfl, ?_, rfl,
      s.ueSeen_changes c k addr⟩
    · exact (congrArg DramCh.ue hdch :)
    · exact (congrArg DramCh.failed hdch :)
  case line =>
    intro c k n addr l s hlive hup hfew hl hst hwt hrow
    have hw : UeWhere.landingLine n ≠ .fwTable := by simp
    refine ⟨(s.ueSeen c k addr).lineLost n l, ?_, State.lineLost_gone .., ?_, State.lineLost_lostTotal ..⟩
    · rw [exec_dramUe hlive hup, State.dramUe_kept hfew k hw addr]
      exact congrArg _ (State.ueLine_lost hl hst hwt hrow)
    · rw [State.lineLost_lost]
      exact (Media.mem_lose _ _ _).mpr (.inr (List.mem_singleton.mpr rfl))
  case readBack =>
    intro c k fseq addr x s hup hfly hfew
    have hw : UeWhere.readBack fseq ≠ .fwTable := by simp
    have hquit := hfly.quits (u := s.ueSeen c k addr) ⟨rfl, fun _ => rfl, rfl, rfl⟩ .dataTransferError
    obtain ⟨vec, hout⟩ := hquit.posted
    refine ⟨(s.ueSeen c k addr).quit fseq .dataTransferError, ?_, hquit.left, ⟨vec, hout ▸ List.suffix_append ..⟩,
      State.quit_media_keeps Media.map (fun _ _ _ => rfl) (fun _ _ _ _ => rfl) ..⟩
    have hget : (s.ueSeen c k addr).cmq.cmds.get? fseq = some x := hfly.get
    rw [exec_dramUe hfly.live hup, State.dramUe_kept hfew k hw addr]
    simp only [State.ueAct, hget, hfly.phase, if_true]
    rfl
  case mapPage =>
    intro c k ns j addr s hlive hup hfew
    have hw : UeWhere.mapPage ns j ≠ .fwTable := by simp
    have hact : (s.ueSeen c k addr).ueAct (.mapPage ns j) = if s.media.dirtyPages.has (ns * 2 ^ 30 + j) then s.ueSeen c k addr else
        (s.ueSeen c k addr).setMedia (fun m => { m with resident := m.resident.filter (· ≠ ns * 2 ^ 30 + j) }) := rfl
    refine ⟨_, (exec_dramUe hlive hup k _ addr).trans (congrArg _ ((State.dramUe_kept hfew k hw addr).trans hact)), ?_, ?_, fun hclean => ?_⟩
    · split <;> rfl
    · split <;> rfl
    · rw [if_neg (by rw [hclean]; exact Bool.false_ne_true)]
      simp [State.setMedia]
  case many =>
    intro c k addr s hlive hup hmany
    have hok : ((s.ueSeen c k addr).dch c).failed = false :=
      (congrArg DramCh.failed (s.ueSeen_dch c k addr)).trans (State.dchUp_failed hup)
    exact ⟨_, (exec_dramUe hlive hup k .buffer addr).trans (congrArg _ (State.dramUe_fails hmany k addr)),
      State.channelFails_failed hok 1, fun p hp => State.channelFails_cfs hok 1 hp⟩
  case trained =>
    intro c x r s hlive hph hok hr
    have hdram := State.dramTrained_passed hph hok hr
    have hdch : (s.dramTrained c r).dch c = s.trainedCh r x (s.dch c) := (State.dch_congr hdram c).trans (State.setDch_dch ..)
    refine ⟨_, exec_dramTrainingDone hlive c r, ?_, ?_, ?_, ?_, ?_, ?_, ?_, fun o ho =>
      (State.dch_congr hdram o).trans (State.setDch_dch_ne ho _ _)⟩ <;> rw [hdch]
    · rfl
    · exact hok
    all_goals rfl
  case untrained =>
    intro c r s hlive hph hok hr hdeg hcount
    have hph := beq_firmware_or_recovering hph
    have hfails : s.dramTrained c r = s.trainingFails c := by
      simp only [State.dramTrained, hok, hph, hr, Bool.not_true, Bool.false_eq_true, or_self, if_false]
    exact ⟨_, (exec_dramTrainingDone hlive c r).trans (congrArg _ hfails), State.trainingFails_first hdeg hcount⟩
  case due =>
    intro c s hlive
    refine ⟨fun hen hmode => ?_, fun hoff => ?_⟩
    · rw [exec_retrainCycleDue hlive, if_pos ⟨hen, hmode⟩]
    · rw [exec_retrainCycleDue hlive, if_neg]
      rintro ⟨hen, hmode⟩
      rcases hoff with hoff | hoff
      · exact absurd (hoff.symm.trans hen) Bool.false_ne_true
      · exact hoff hmode
  case masks =>
    intro mask s hlive
    refine ⟨⟨_, exec_retrainCycle hlive mask, State.foldl_wants_changes DramCh.beginCycle _ s, fun c => ?_⟩,
      ⟨_, exec_retrainFull hlive mask, State.foldl_wants_changes DramCh.beginFull _ s, fun c => ?_⟩⟩
    · refine (State.foldl_wants_dch DramCh.beginCycle mask s c).trans ?_
      rw [DramCh.beginCycle, ← ite_and]
      simp only [and_assoc]
    · refine (State.foldl_wants_dch DramCh.beginFull mask s c).trans ?_
      rw [DramCh.beginFull, ← ite_and]
      simp only [and_assoc]
      rfl
  case probe =>
    intro c l0 h0 l1 h1 s hlive hup hover hpf hfull hcycle
    have hdue : s.pauseDue c (.readProbe l0 h0 l1 h1) = true := by simp [State.pauseDue, hpf, hfull, hcycle]
    have hkeep {α : Type} (π : DramCh → α) (hπ : ∀ (d : DramCh) a g, π { d with arb := a, grant := g } = π d) := s.paused_keeps π hπ c
    have hrd0 := hkeep DramCh.rd0 (fun _ _ _ => rfl)
    have hrd1 := hkeep DramCh.rd1 (fun _ _ _ => rfl)
    have hwr0 := hkeep DramCh.wr0 (fun _ _ _ => rfl)
    have hwr1 := hkeep DramCh.wr1 (fun _ _ _ => rfl)
    have hleft := (hkeep DramCh.cycleLeft (fun _ _ _ => rfl)).trans hcycle
    have hdch := (s.paused c).readProbe_dch c l0 h0 l1 h1
    refine ⟨_, (exec_arbRound hlive ..).trans (congrArg _ (State.arbRound_pause hup hover hdue)), ?_⟩
    rw [hdch]
    cases hends : (l0 && h0) || (l1 && h1) with
    | true => exact ⟨fun _ => ⟨rfl, hrd0, hrd1⟩, fun h => absurd h.symm Bool.false_ne_true, hwr0, hwr1⟩
    | false =>
      refine ⟨fun h => absurd h Bool.false_ne_true, fun _ => ⟨congrArg (· - 1) hleft, ?_, ?_⟩, hwr0, hwr1⟩
      · exact congrArg (probeStep · l0 h0) hrd0
      · exact congrArg (probeStep · l1 h1) hrd1
  case sweep =>
    intro c last r s hlive hup hover hpf hfull
    have hdue (b : Bool) : s.pauseDue c (.sweep last b r) = true := by simp [State.pauseDue, hpf, hfull]
    have hexec (b : Bool) := (exec_arbRound hlive c [] (some (.sweep last b r)) 0).trans
      (congrArg _ (State.arbRound_pause hup hover (hdue b)))
    have hkeep {α : Type} (π : DramCh → α) (hπ : ∀ (d : DramCh) a g, π { d with arb := a, grant := g } = π d) := s.paused_keeps π hπ c
    have hleft := hkeep DramCh.fullLeft (fun _ _ _ => rfl)
    have hrate := hkeep DramCh.rate (fun _ _ _ => rfl)
    have hfailed := hkeep DramCh.failed (fun _ _ _ => rfl)
    refine ⟨⟨_, hexec false, ?_⟩, fun hr => ⟨_, hexec true, ?_⟩, fun hr => ⟨_, hexec true, ?_⟩⟩
    · have hrd0 := hkeep DramCh.rd0 (fun _ _ _ => rfl)
      have hwr0 := hkeep DramCh.wr0 (fun _ _ _ => rfl)
      rw [State.sweep_dch, hleft]
      by_cases hlast : (s.dch c).fullLeft = 1
      · rw [if_pos hlast.le, if_pos hlast, if_pos hlast, hlast]
        exact ⟨rfl, rfl, rfl⟩
      · rw [if_neg (by omega), if_neg hlast, if_neg hlast]
        exact ⟨rfl, hrd0, hwr0⟩
    · have hdch := State.sweepFails_lower (s := s.paused c) (c := c) (hrate ▸ hr)
      exact ⟨(congrArg DramCh.rate hdch).trans (congrArg (· + 1) hrate), (congrArg DramCh.fullLeft hdch :),
        (congrArg DramCh.failed hdch).trans hfailed⟩
    · exact State.sweepFails_last (hrate.trans hr) (hfailed.trans (State.dchUp_failed hup))

end Sys2Proof.Machine
end

section
/-! The statement of chapter 10 about the channels of the system DMA (R339 to R348, R350). -/

namespace Sys2Proof.Machine

open Sys2Proof

/-! ### One channel's registers -/

@[simp] theorem State.setSdc_sdc (s : State) (ch : Fin 16) (f : SdmCh → SdmCh) : (s.setSdc ch f).sdc ch = f (s.sdc ch) :=
  Tbl.upd_get s.sdm.chs ch f

theorem State.sdc_congr {s t : State} (h : t.sdm.chs = s.sdm.chs) (ch : Fin 16) : t.sdc ch = s.sdc ch := by
  rw [State.sdc, State.sdc, h]

theorem State.sdcPage_of_open {s : State} {ch : Fin 16} (h : s.sdcOpen ch = true) : s.sdcPage ch = true :=
  ((Bool.and_eq_true _ _).mp h).1

/-! ### What is sent on the way: no read-back -/

/-- From one state to the other only outputs other than read-backs are sent. -/
def State.Sends (s t : State) : Prop := ∃ o, t.out = s.out ++ o ∧ ∀ c a, Output.readBack c a ∉ o

theorem State.Sends.of_eq {s t : State} (h : t.out = s.out) : s.Sends t := ⟨[], by rw [h, List.append_nil], fun _ _ => List.not_mem_nil⟩

theorem State.Sends.trans {s t u : State} (h : s.Sends t) (k : t.Sends u) : s.Sends u := by
  obtain ⟨o, ho, hn⟩ := h
  obtain ⟨o', ho', hn'⟩ := k
  exact ⟨o ++ o', by rw [ho', ho, List.append_assoc], fun c a hm => (List.mem_append.mp hm).elim (hn c a) (hn' c a)⟩

theorem State.Sends.emit (s : State) (x : Output) (hx : ∀ c a, Output.readBack c a ≠ x) : s.Sends (s.emit x) :=
  ⟨[x], rfl, fun c a hm => hx c a (List.mem_singleton.mp hm)⟩

theorem State.Sends.out_isPrefix {s t : State} (h : s.Sends t) : s.out <+: t.out := by
  obtain ⟨o, ho, -⟩ := h
  exact ⟨o, ho.symm⟩

theorem State.Sends.dropped {s t : State} (h : s.Sends t) (c : Fin 16) (a : Nat) : Output.readBack c a ∉ t.out.drop s.out.length := by
  obtain ⟨o, ho, hn⟩ := h
  rw [ho, List.drop_left]
  exact hn c a

/-! ### Bytes reach a destination -/

theorem State.lineWrite_chs (s : State) (n o : Nat) (bs : List Byte) : (s.lineWrite n o bs).sdm.chs = s.sdm.chs := by
  rw [State.lineWrite]
  split
  · rfl
  · split
    · rfl
    · rfl
    · split
      · rfl
      · split <;> rfl

theorem State.memPut_chs (fuel : Nat) (s : State) (a : Nat) (bs : List Byte) : (s.memPut a bs fuel).sdm.chs = s.sdm.chs := by
  induction fuel generalizing s a bs with
  | zero => rfl
  | succ fuel ih =>
    rw [State.memPut]
    split
    · rfl
    · dsimp only
      split
      · rfl
      · exact (ih _ _ _).trans (State.lineWrite_chs ..)

theorem State.sdmWrite_chs (s : State) (ch : Fin 16) (sp : BitVec 2) (a : Nat) (bs : List Byte) :
    (s.sdmWrite ch sp a bs).sdm.chs = s.sdm.chs := by
  simp only [State.sdmWrite]
  split
  · exact State.memPut_chs ..
  · split
    · rfl
    · split
      · rfl
      · split <;> rfl

theorem State.sdmWrite_sends (s : State) (ch : Fin 16) (sp : BitVec 2) (a : Nat) (bs : List Byte) : s.Sends (s.sdmWrite ch sp a bs) := by
  simp only [State.sdmWrite]
  split
  · exact .of_eq ((State.memPut_changes ..).rest .out (by decide))
  · split
    · exact .emit s _ nofun
    · split
      · exact .emit s _ nofun
      · split <;> exact .of_eq rfl

theorem State.writeBackDesc_chs (s : State) (ch : Fin 16) (d : Desc) (code count result : Nat) :
    (s.writeBackDesc ch d code count result).sdm.chs = s.sdm.chs := by
  simp only [State.writeBackDesc]
  split
  · exact State.sdmWrite_chs ..
  · rfl

theorem State.writeBackDesc_sends (s : State) (ch : Fin 16) (d : Desc) (code count result : Nat) :
    s.Sends (s.writeBackDesc ch d code count result) := by
  simp only [State.writeBackDesc]
  split
  · exact State.sdmWrite_sends ..
  · exact .of_eq rfl

/-- The write-back of a descriptor whose ring lies in the host memory of port 0. -/
theorem State.writeBackDesc_host {s : State} {ch : Fin 16} (hsp : (s.sdc ch).space = 1) (hring : s.ringOk ch = true) (d : Desc)
    (code count result : Nat) : s.writeBackDesc ch d code count result =
      s.emit (.dmaHost 0 ((s.sdc ch).base.toNat + 32 * (s.sdc ch).head.toNat) (descBytes d code count result)) := by
  simp only [State.writeBackDesc, hring, hsp, if_true]
  rfl

theorem State.sdmMessage_sends (s : State) (ch : Fin 16) : s.Sends (s.sdmMessage ch) := by
  simp only [State.sdmMessage]
  split <;> exact .emit s _ nofun

/-! ### A descriptor ends (R343, R346) -/

/-- A channel whose descriptor has failed. -/
def SdmCh.failing (c : SdmCh) (d : Desc) (code count : Nat) : SdmCh :=
  { c with state := .halted, err := true, code := BitVec.ofNat 8 code, desc := some d, left := BitVec.ofNat 32 count }

/-- A channel whose descriptor has completed. -/
def SdmCh.finished (c : SdmCh) (d : Desc) (result : Nat) : SdmCh :=
  { c with
    state := .idle, end_ := c.end_ || d.irq, desc := none, left := 0, head := c.nextHead
    result := BitVec.ofNat 32 result, bytes := satOf 32 (c.bytes.toNat + d.count.toNat) }

/-- The descriptor is written back and its channel halts; neither the message nor the event is written yet. -/
def State.sdmHalts (s : State) (ch : Fin 16) (d : Desc) (code count result : Nat) : State :=
  (s.writeBackDesc ch d code count result).setSdc ch (fun c => c.failing d code count)

/-- The descriptor is written back and its channel moves on; no message is sent yet. -/
def State.sdmCloses (s : State) (ch : Fin 16) (d : Desc) (code count result : Nat) : State :=
  (s.writeBackDesc ch d code count result).setSdc ch (fun c => c.finished d result)

section
variable {s : State} {ch : Fin 16} {d : Desc} {code : Nat}

theorem State.sdmEnd_failed (h : 0x10 ≤ code) (count result : Nat) : ∃ t, s.sdmEnd ch d code count result = t ∧
    t.sdc ch = (s.sdc ch).failing d code count ∧ t.sdm.mem = (s.writeBackDesc ch d code count result).sdm.mem ∧
    t.land = (s.writeBackDesc ch d code count result).land ∧ (s.writeBackDesc ch d code count result).Sends t := by
  have hch : (s.sdmHalts ch d code count result).sdc ch = (s.sdc ch).failing d code count :=
    (State.setSdc_sdc ..).trans (by rw [State.sdc_congr (State.writeBackDesc_chs ..)])
  have hsaid (b : Bool) : let t := if b then (s.sdmHalts ch d code count result).sdmMessage ch else s.sdmHalts ch d code count result
      t.sdm = (s.sdmHalts ch d code count result).sdm ∧ t.land = (s.sdmHalts ch d code count result).land ∧
        (s.sdmHalts ch d code count result).Sends t := by
    cases b with
    | false => exact ⟨rfl, rfl, .of_eq rfl⟩
    | true => exact ⟨(State.sdmMessage_changes ..).rest .sdm (by decide), (State.sdmMessage_changes ..).rest .land (by decide),
        State.sdmMessage_sends ..⟩
  refine ⟨_, rfl, ?_⟩
  simp only [State.sdmEnd, h, if_true]
  obtain ⟨hsdm, hland, hsends⟩ := hsaid (!((s.writeBackDesc ch d code count result).sdc ch).err &&
    ((s.writeBackDesc ch d code count result).sdc ch).errIe)
  cases lent ch with
  | true => exact ⟨(congrArg (fun x : Sdm => x.chs[ch]) hsdm).trans hch, (congrArg Sdm.mem hsdm :), hland, hsends⟩
  | false => exact ⟨(congrArg (fun x : Sdm => x.chs[ch]) hsdm).trans hch, (congrArg Sdm.mem hsdm :), hland, hsends⟩

theorem State.sdmEnd_failed_sdc (h : 0x10 ≤ code) (count result : Nat) :
    (s.sdmEnd ch d code count result).sdc ch = (s.sdc ch).failing d code count := by
  obtain ⟨t, ht, hch, -⟩ := State.sdmEnd_failed (s := s) (ch := ch) (d := d) h count result
  rw [ht, hch]

theorem State.sdmEnd_finished (h : code < 0x10) (count result : Nat) : s.sdmEnd ch d code count result =
    if d.irq && !(s.sdc ch).end_ && (s.sdc ch).endIe then (s.sdmCloses ch d code count result).sdmMessage ch
    else s.sdmCloses ch d code count result := by
  have hch := State.sdc_congr (s.writeBackDesc_chs ch d code count result) ch
  simp only [State.sdmEnd, Nat.not_le.mpr h, if_false, hch]
  rfl

theorem State.sdmEnd_finished_sdc (h : code < 0x10) (count result : Nat) :
    (s.sdmEnd ch d code count result).sdc ch = (s.sdc ch).finished d result := by
  have hch : (s.sdmCloses ch d code count result).sdc ch = (s.sdc ch).finished d result :=
    (State.setSdc_sdc ..).trans (by rw [State.sdc_congr (State.writeBackDesc_chs ..)])
  rw [State.sdmEnd_finished h]
  split
  · exact (State.sdc_congr (congrArg Sdm.chs ((State.sdmMessage_changes ..).rest .sdm (by decide))) ch).trans hch
  · exact hch

/-- What the completion of a firmware channel's descriptor sends, with the ring in port 0's host memory. -/
theorem State.sdmEnd_finished_out (h : code < 0x10) (count result : Nat) (hsp : (s.sdc ch).space = 1) (hch : ch.val < 12) :
    (s.sdmEnd ch d code count result).out = s.out ++
      [.dmaHost 0 ((s.sdc ch).base.toNat + 32 * (s.sdc ch).head.toNat) (descBytes d code count result)] ++
      if d.irq = true ∧ (s.sdc ch).end_ = false ∧ (s.sdc ch).endIe = true then [.coreMsg ((s.sdc ch).vec.toNat % 32)] else [] := by
  have hown : lent ch = false := decide_eq_false (by omega)
  have hring : s.ringOk ch = true := by simp [State.ringOk, State.spaceOk, hsp, hown]
  have hclose : (s.sdmCloses ch d code count result).out = s.out ++
      [.dmaHost 0 ((s.sdc ch).base.toNat + 32 * (s.sdc ch).head.toNat) (descBytes d code count result)] := by
    rw [State.sdmCloses, State.writeBackDesc_host hsp hring]
    rfl
  have hvec : ((s.sdmCloses ch d code count result).sdc ch).vec = (s.sdc ch).vec := by
    rw [State.sdmCloses, State.setSdc_sdc, State.sdc_congr (State.writeBackDesc_chs ..)]
    rfl
  have hmsg : ((s.sdmCloses ch d code count result).sdmMessage ch).out =
      (s.sdmCloses ch d code count result).out ++ [.coreMsg ((s.sdc ch).vec.toNat % 32)] := by
    simp only [State.sdmMessage, hown, hvec, Bool.false_eq_true, if_false]
    rfl
  rw [State.sdmEnd_finished h]
  by_cases hrise : d.irq = true ∧ (s.sdc ch).end_ = false ∧ (s.sdc ch).endIe = true
  · rw [if_pos hrise, if_pos (by simp [hrise]), hmsg, hclose]
  · rw [if_neg hrise, if_neg (by simpa [and_assoc] using hrise), hclose, List.append_nil]

theorem State.sdmEnd_sends (s : State) (ch : Fin 16) (d : Desc) (code count result : Nat) : s.Sends (s.sdmEnd ch d code count result) := by
  refine (s.writeBackDesc_sends ch d code count result).trans ?_
  by_cases h : 0x10 ≤ code
  · obtain ⟨t, ht, -, -, -, hsends⟩ := State.sdmEnd_failed (s := s) (ch := ch) (d := d) h count result
    rw [ht]
    exact hsends
  · rw [State.sdmEnd_finished (Nat.not_le.mp h)]
    split
    · exact (State.Sends.of_eq (t := s.sdmCloses ch d code count result) rfl).trans (State.sdmMessage_sends ..)
    · exact .of_eq rfl

/-! ### Descriptors are read (R343) -/

theorem State.descBad_code (h : s.descBad ch d = some code) : code = 0x10 ∨ code = 0x11 ∨ code = 0x12 := by
  have range (x y : Option Nat) (hxy : (if x = some 0x11 ∨ y = some 0x11 then some 0x11
      else if x = some 0x12 ∨ y = some 0x12 then some 0x12 else none) = some code) : code = 0x10 ∨ code = 0x11 ∨ code = 0x12 := by
    split at hxy
    · exact .inr (.inl (Option.some.inj hxy).symm)
    · split at hxy
      · exact .inr (.inr (Option.some.inj hxy).symm)
      · exact absurd hxy nofun
  rw [State.descBad] at h
  by_cases hring : (!s.ringOk ch) = true
  · rw [if_pos hring] at h
    exact .inr (.inl (Option.some.inj h).symm)
  · rw [if_neg hring] at h
    dsimp only at h
    by_cases hform : d.count.toNat = 0 ∨ d.op = 3 ∨ d.swap = 3 ∨ (d.swap ≠ 0 ∧ !s.swapOk ch d) ∨ (d.op = 0 ∧ descOverlaps d)
    · rw [if_pos hform] at h
      exact .inl (Option.some.inj h).symm
    · rw [if_neg hform] at h
      exact range _ _ h

theorem State.sdmRead_none (h : d.own = false) : s.sdmRead ch d = s.setSdc ch (fun c => { c with state := .idle, desc := none }) := by
  simp only [State.sdmRead, h, Bool.not_false, if_true]

theorem State.sdmRead_runs (h : d.own = true) (hok : s.descBad ch d = none) :
    s.sdmRead ch d = s.setSdc ch (fun c => { c with state := .running, desc := some d, phase := .fetched, left := d.count }) := by
  simp only [State.sdmRead, h, hok, Bool.not_true, Bool.false_eq_true, if_false]

theorem State.sdmRead_bad (h : d.own = true) (hbad : s.descBad ch d = some code) :
    s.sdmRead ch d = s.sdmEnd ch d code d.count.toNat 0 := by
  simp only [State.sdmRead, h, hbad, Bool.not_true, Bool.false_eq_true, if_false]

/-- A doorbell and RUN alike read the descriptor at HEAD on an idle channel. -/
theorem exec_sdma_idle {i : Instr} (h : s.live = true) (hi : i = .sdmaDoorbell ch d ∨ i = .sdmaRun ch d) (hen : (s.sdc ch).en = true)
    (hopen : s.sdcOpen ch = true) (hidle : (s.sdc ch).state = .idle) : exec i s = .next (s.sdmRead ch d) := by
  rcases hi with rfl | rfl
  · change execSdmaDoorbell ch d s = _
    rw [execSdmaDoorbell, State.whenLive_live h]
    simp only [hen, hopen, hidle, and_self, if_true]
  · change execSdmaRun ch d s = _
    rw [execSdmaRun, State.whenLive_live h, State.sdmRun]
    simp only [hen, hopen, hidle, Bool.not_true, Bool.false_eq_true, or_self, if_false]

theorem exec_sdmaRun_halted (h : s.live = true) (hen : (s.sdc ch).en = true) (hopen : s.sdcOpen ch = true)
    (hhalt : (s.sdc ch).state = .halted) : exec (.sdmaRun ch d) s = .next (if (s.sdc ch).err then s else
      (s.setSdc ch (fun c => { c with head := if c.desc.isSome then c.nextHead else c.head, desc := none })).sdmRead ch d) := by
  change execSdmaRun ch d s = _
  rw [execSdmaRun, State.whenLive_live h, State.sdmRun]
  simp only [hen, hopen, hhalt, Bool.not_true, Bool.false_eq_true, or_self, if_false]

theorem exec_sdmaStop (h : s.live = true) (hopen : s.sdcOpen ch = true) : exec (.sdmaStop ch) s = .next (s.sdmStop ch) := by
  change execSdmaStop ch s = _
  rw [execSdmaStop, State.whenLive_live h, if_pos (State.sdcPage_of_open hopen)]

theorem exec_sdmaDisable (h : s.live = true) (hopen : s.sdcOpen ch = true) : exec (.sdmaDisable ch) s =
    .next ((s.sdmStop ch).setSdc ch (fun c => { c with en := false, state := .disabled, desc := none })) := by
  change execSdmaDisable ch s = _
  rw [execSdmaDisable, State.whenLive_live h, if_pos (State.sdcPage_of_open hopen)]

theorem State.sdmStop_idle (h : (s.sdc ch).state = .idle) : s.sdmStop ch = s.setSdc ch (fun c => { c with state := .halted }) := by
  simp only [State.sdmStop, h]

theorem State.sdmStop_running (h : (s.sdc ch).state = .running) (hd : (s.sdc ch).desc = some d) :
    s.sdmStop ch = s.sdmEnd ch d 0x31 (s.sdc ch).left.toNat 0 := by
  simp only [State.sdmStop, h, hd]

/-- A stop keeps the ring of its channel. -/
theorem State.sdmStop_ring (s : State) (ch : Fin 16) :
    ((s.sdmStop ch).sdc ch).base = (s.sdc ch).base ∧ ((s.sdmStop ch).sdc ch).size = (s.sdc ch).size := by
  simp only [State.sdmStop]
  split
  · rw [State.sdmEnd_failed_sdc (by decide)]
    exact ⟨rfl, rfl⟩
  · rw [State.setSdc_sdc]
    exact ⟨rfl, rfl⟩
  · exact ⟨rfl, rfl⟩

/-! ### Operations (R341, R342) -/

theorem State.onDesc_runs {op : BitVec 2} (hrun : (s.sdc ch).state = .running) (hph : (s.sdc ch).phase = .fetched)
    (hd : (s.sdc ch).desc = some d) (hop : d.op = op) (hfree : s.descContained d = false) (hgo : s.readsGo = true)
    (f : Desc → State → State) : s.onDesc ch op f = f d s := by
  simp only [State.onDesc, hrun, hph, hd, hop, hfree, hgo, and_self, if_true, Bool.not_true, Bool.and_false, Bool.false_eq_true, if_false]

theorem exec_sdmaCopy (h : s.live = true) (src : List Byte) : exec (.sdmaCopy ch src) s = .next (s.onDesc ch 0 (fun d s =>
    if src.length = d.count.toNat then s.sdmBeats ch d (swapBytes d.swap src) else s)) := by
  change execSdmaCopy ch src s = _
  rw [execSdmaCopy, State.whenLive_live h]

theorem exec_sdmaFill (h : s.live = true) : exec (.sdmaFill ch) s = .next (s.onDesc ch 1 (fun d s => s.sdmBeats ch d (fillBytes d))) := by
  change execSdmaFill ch s = _
  rw [execSdmaFill, State.whenLive_live h]

theorem exec_sdmaCompare (h : s.live = true) (a b : List Byte) (next : Desc) : exec (.sdmaCompare ch a b next) s =
    .next (s.onDesc ch 2 (fun d s =>
      if a.length = d.count.toNat ∧ b.length = d.count.toNat then (s.sdmCompare ch d a b).sdmRead ch next else s)) := by
  change execSdmaCompare ch a b next s = _
  rw [execSdmaCompare, State.whenLive_live h]

theorem State.sdmBeats_sdc (s : State) (ch : Fin 16) (d : Desc) (bs : List Byte) :
    (s.sdmBeats ch d bs).sdc ch = { s.sdc ch with phase := .beats, left := 0 } := by
  rw [State.sdmBeats, State.setSdc_sdc, State.sdc_congr (State.sdmWrite_chs ..)]

theorem swapBytes_zero (xs : List Byte) : swapBytes 0 xs = xs := by
  fun_induction swapBytes 0 xs with
  | case1 a b c d xs ih => rw [ih]; rfl
  | case2 xs h => rfl

theorem length_swapBytes (sw : BitVec 2) (xs : List Byte) : (swapBytes sw xs).length = xs.length := by
  fun_induction swapBytes sw xs with
  | case1 a b c d xs ih =>
    rw [List.length_append, ih]
    split
    · simp only [List.length_cons, List.length_nil]
      omega
    · split <;> simp only [List.length_cons, List.length_nil] <;> omega
  | case2 xs h => rfl

/-- Bytes below the landing buffer are held by address. -/
theorem State.memPut_below {a : Nat} {bs : List Byte} (h : a + bs.length ≤ landingBase) (fuel : Nat) :
    s.memPut a bs (fuel + 1) = { s with sdm := { s.sdm with mem := memWrite 0 s.sdm.mem a bs } } := by
  rw [State.memPut]
  split
  · rename_i hnil
    rw [hnil]
    rfl
  · rename_i hne
    have hpos := List.length_pos_iff.mpr hne
    exact if_pos (.inl (by omega))

/-- A line whose sectors take bytes from offset `o` on. -/
def Line.patched (l : Line) (o : Nat) (bs : List Byte) : Line :=
  { l with data := putSectors (l.data ++ List.replicate (8 - l.data.length) 0) o bs }

/-- Bytes within one 4 KiB unit of the landing buffer reach its line. -/
theorem State.memPut_line {n o : Nat} {bs : List Byte} (hn : n < lineCount) (ho : o + bs.length ≤ 4096) (hpos : 1 ≤ bs.length)
    (fuel : Nat) : s.memPut (landingBase + 4096 * n + o) bs (fuel + 2) = s.lineWrite n o bs := by
  have hoff : (landingBase + 4096 * n + o - landingBase) % 4096 = o := by omega
  have hline : (landingBase + 4096 * n + o - landingBase) / 4096 = n := by omega
  have hne : bs ≠ [] := List.length_pos_iff.mp hpos
  have hin : ¬ (landingBase + 4096 * n + o < landingBase ∨ lineCount ≤ n) := by omega
  rw [State.memPut, if_neg hne]
  simp only [hoff, hline, if_neg hin]
  rw [List.take_of_length_le (by omega), List.drop_of_length_le (by omega), State.memPut, if_pos rfl]

theorem State.lineWrite_held {n : Nat} {l : Line} (h : s.land.lines.get? n = some l) (o : Nat) (bs : List Byte) :
    s.lineWrite n o bs = { s with land := { s.land with lines := s.land.lines.mod n (·.patched o bs) } } := by
  have hhas : s.land.lines.has n = true := by rw [AMap.has, h]; rfl
  rw [State.lineWrite, if_pos hhas]
  rfl

theorem State.sdmBeats_internal (h : d.dstSp = 0) (bs : List Byte) : s.sdmBeats ch d bs =
    (s.memPut d.dst.toNat bs (bs.length / 4096 + 2)).setSdc ch (fun c => { c with phase := .beats, left := 0 }) := by
  rw [State.sdmBeats, State.sdmWrite, if_pos h]

theorem length_fillBytes (d : Desc) : (fillBytes d).length = d.count.toNat := by simp [fillBytes]

theorem leBytes_getElem? (n x k : Nat) (h : k < n) : (leBytes n x)[k]? = some (BitVec.ofNat 8 (x / 256 ^ k)) := by
  induction n generalizing x k with
  | zero => omega
  | succ n ih =>
    cases k with
    | zero => simp [leBytes]
    | succ k =>
      rw [leBytes, List.getElem?_cons_succ, ih _ _ (by omega), Nat.div_div_eq_div_mul, pow_succ, Nat.mul_comm]

/-- Address `a` of a fill gets byte a mod 8 of the pattern. -/
theorem fillBytes_getElem (d : Desc) (i : Nat) (h : i < (fillBytes d).length) :
    (fillBytes d)[i] = d.src.extractLsb' (8 * ((d.dst.toNat + i) % 8)) 8 := by
  have hpow : ∀ k < 8, (256 : Nat) ^ k = 2 ^ (8 * k) := by decide
  have hk : (d.dst.toNat + i) % 8 < 8 := Nat.mod_lt _ (by decide)
  simp only [fillBytes, List.getElem_map, List.getElem_range]
  rw [leBytes_getElem? _ _ _ hk, Option.getD_some, hpow _ hk]
  exact BitVec.eq_of_toNat_eq (by simp [Nat.shiftRight_eq_div_pow])

/-! ### A compare (R341, R345) -/

theorem State.sdmCompare_sdc (s : State) (ch : Fin 16) (d : Desc) (a b : List Byte) :
    (s.sdmCompare ch d a b).sdc ch = (s.sdc ch).finished d ((firstDiff a b).getD 0xFFFFFFFF) := by
  rw [State.sdmCompare]
  split
  · rename_i h
    rw [State.sdmEnd_finished_sdc (by decide), h]
    rfl
  · rename_i i h
    rw [State.sdmEnd_finished_sdc (by decide), h]
    rfl

theorem firstDiff_self (a : List Byte) : firstDiff a a = none := by
  rw [firstDiff, List.findIdx?_eq_none_iff]
  intro x hx
  obtain ⟨i, hi, he⟩ := List.mem_iff_getElem.mp hx
  simp [← he]

theorem firstDiff_some {a b : List Byte} {k : Nat} (ha : k < a.length) (hb : k < b.length) (hsame : ∀ j < k, a[j]? = b[j]?)
    (hdiff : a[k]? ≠ b[k]?) : firstDiff a b = some k := by
  rw [firstDiff, List.findIdx?_eq_some_iff_getElem]
  refine ⟨by rw [List.length_zip]; omega, ?_, fun j hj => ?_⟩
  · rw [List.getElem?_eq_getElem ha, List.getElem?_eq_getElem hb] at hdiff
    simpa using hdiff
  · have := hsame j hj
    rw [List.getElem?_eq_getElem (by omega), List.getElem?_eq_getElem (by omega)] at this
    simpa using this

/-! ### Read-backs and beats that fail (R344 to R346) -/

theorem exec_sdmaLastBeatAck (h : s.live = true) : exec (.sdmaLastBeatAck ch) s = .next (s.sdmAck ch) := by
  change execSdmaLastBeatAck ch s = _
  rw [execSdmaLastBeatAck, State.whenLive_live h]

theorem exec_sdmaReadbackReturn (h : s.live = true) (ok : Bool) (next : Desc) :
    exec (.sdmaReadbackReturn ch ok next) s = .next (s.sdmReturned ch ok next) := by
  change execSdmaReadbackReturn ch ok next s = _
  rw [execSdmaReadbackReturn, State.whenLive_live h]

theorem exec_sdmaBeatError (h : s.live = true) (isWrite : Bool) (n : Nat) :
    exec (.sdmaBeatError ch isWrite n) s = .next (s.sdmBeatError ch isWrite n) := by
  change execSdmaBeatError ch isWrite n s = _
  rw [execSdmaBeatError, State.whenLive_live h]

/-- What proves the writes of a descriptor: a read of its last bytes in host or internal memory, or read-backs of the landing buffer. -/
def State.proofs (s : State) (ch : Fin 16) (d : Desc) : List Output :=
  if (hostPort d.dstSp).isSome then
    [.dmaCheck d.dstSp.toNat (d.dst.toNat + d.count.toNat - min 4 d.count.toNat) (min 4 d.count.toNat)]
  else if d.dstSp = 0 ∧ d.dst.toNat < landingBase then [.dmaCheck 0 ((d.dst.toNat + d.count.toNat - 1) / 16 * 16) 16]
  else (s.descBursts ch d).map (fun e => Output.readBack (Fin.ofNat 16 e.1) e.2)

theorem State.proofs_landing (s : State) (ch : Fin 16) (hsp : d.dstSp = 0) (h : landingBase ≤ d.dst.toNat) : s.proofs ch d =
    (lastBursts (lastInUnits (d.dst.toNat - landingBase) d.count.toNat)).map (fun e => Output.readBack (Fin.ofNat 16 e.1) e.2) := by
  have hlow : ¬ (d.dstSp = 0 ∧ d.dst.toNat < landingBase) := fun hlt => Nat.not_lt.mpr h hlt.2
  have hhost : (hostPort d.dstSp).isSome = false := by rw [hsp]; rfl
  rw [State.proofs, hhost, if_neg Bool.false_ne_true, if_neg hlow, State.descBursts]
  dsimp only
  rw [if_pos hsp, if_pos h]

theorem State.proofs_internal (s : State) (ch : Fin 16) (hsp : d.dstSp = 0) (h : d.dst.toNat < landingBase) :
    s.proofs ch d = [.dmaCheck 0 ((d.dst.toNat + d.count.toNat - 1) / 16 * 16) 16] := by
  have hhost : (hostPort d.dstSp).isSome = false := by rw [hsp]; rfl
  rw [State.proofs, hhost, if_neg Bool.false_ne_true, if_pos ⟨hsp, h⟩]

theorem State.proofs_host (s : State) (ch : Fin 16) (hsp : d.dstSp = 1) (h : 4 ≤ d.count.toNat) :
    s.proofs ch d = [.dmaCheck 1 (d.dst.toNat + d.count.toNat - 4) 4] := by
  have hhost : (hostPort d.dstSp).isSome = true := by rw [hsp]; rfl
  rw [State.proofs, hhost, if_pos rfl, hsp, Nat.min_eq_left h]
  rfl

theorem State.sdmAck_eq (hrun : (s.sdc ch).state = .running) (hph : (s.sdc ch).phase = .beats) (hd : (s.sdc ch).desc = some d)
    (hfree : s.spContained d.dstSp = false) :
    s.sdmAck ch = (s.setSdc ch (fun c => { c with phase := .acked })).emits (s.proofs ch d) := by
  simp only [State.sdmAck, hrun, hph, hd, hfree, ne_eq, not_true, or_self, if_false, Bool.false_eq_true, State.proofs]
  cases hp : hostPort d.dstSp with
  | some p => rfl
  | none =>
    dsimp only [Option.isSome_none]
    rw [if_neg Bool.false_ne_true]
    split
    · rfl
    · rfl

theorem State.sdmReturned_acked (hrun : (s.sdc ch).state = .running) (hph : (s.sdc ch).phase = .acked) (hd : (s.sdc ch).desc = some d)
    (ok : Bool) (next : Desc) : s.sdmReturned ch ok next = if s.spContained d.dstSp then s.sdmEnd ch d 0x30 0 0
      else if ok then (s.sdmEnd ch d 0 0 0).sdmRead ch next else s.sdmEnd ch d 0x22 0 0 := by
  simp only [State.sdmReturned, hrun, hph, hd, and_self, if_true]

/-- The undefined bytes that a failed write leaves at its destination. -/
def State.smudged (s : State) (ch : Fin 16) (d : Desc) : State :=
  { s with free := s.free + d.count.toNat }.sdmWrite ch d.dstSp d.dst.toNat (s.freeBytes d.count.toNat)

theorem State.sdmBeatError_write {n : Nat} (hrun : (s.sdc ch).state = .running)
    (hph : (s.sdc ch).phase = .beats ∨ (s.sdc ch).phase = .fetched) (hd : (s.sdc ch).desc = some d) (hop : d.op ≠ 2) (hsp : d.dstSp = 0) :
    s.sdmBeatError ch true n = (s.smudged ch d).sdmEnd ch d 0x21
      (if (s.sdc ch).phase = .beats then 0 else min n d.count.toNat) 0 := by
  have hhost : hostPort d.dstSp = none := by rw [hsp]; rfl
  have hgoes : ¬ ((s.sdc ch).state ≠ .running ∨ (s.sdc ch).phase = .acked ∨ (s.sdc ch).phase = .writtenBack) := by
    rcases hph with hph | hph <;> simp [hrun, hph]
  simp only [State.sdmBeatError, hd, if_neg hgoes, if_true, hop, hhost, Option.isSome_none, Bool.false_eq_true, or_self, if_false,
    decide_eq_true_eq]
  rfl

end

/-- Settles O45: a descriptor ends by one rule for failures and one for completions (`State.sdmEnd_failed`, `State.sdmEnd_finished`);
nothing that carries its bytes or its write-back touches the registers of a channel (`State.sdmWrite_chs`). -/
theorem systemDma : Obligations.SystemDma := by
  refine ⟨?idle, ?halted, ?stop, ?fetched, ?moved, ?shut⟩
  case idle =>
    intro i ch d s hlive hi hen hopen hidle
    have hexec := exec_sdma_idle hlive hi hen hopen hidle
    refine ⟨fun hown => ?_, fun hown hok => ?_, fun code hown hbad hsp hring => ?_⟩
    · rw [State.sdmRead_none hown] at hexec
      exact ⟨_, hexec, State.setSdc_sdc .., State.setSdc_changes ..⟩
    · rw [State.sdmRead_runs hown hok] at hexec
      exact ⟨_, hexec, State.setSdc_sdc .., State.setSdc_changes ..⟩
    · have hcode : 0x10 ≤ code := by
        have := State.descBad_code hbad
        omega
      rw [State.sdmRead_bad hown hbad] at hexec
      obtain ⟨t, ht, hch, hmem, hland, hsends⟩ := State.sdmEnd_failed (s := s) (ch := ch) (d := d) hcode d.count.toNat 0
      rw [State.writeBackDesc_host hsp hring] at hmem hland hsends
      rw [ht] at hexec
      refine ⟨t, hexec, ?_, ?_, ?_, ?_, ?_, ?_, hsends.out_isPrefix, hland, hmem⟩ <;> rw [hch] <;> rfl
  case halted =>
    intro ch d s hlive hen hopen hhalt
    have hexec := exec_sdmaRun_halted (d := d) hlive hen hopen hhalt
    refine ⟨fun herr => ?_, fun herr hown => ?_⟩
    · rw [herr] at hexec
      exact hexec
    · rw [herr, if_neg Bool.false_ne_true, State.sdmRead_none hown] at hexec
      have hch : ((s.setSdc ch (fun c => { c with head := if c.desc.isSome then c.nextHead else c.head, desc := none })).setSdc ch
          (fun c => { c with state := .idle, desc := none })).sdc ch = { s.sdc ch with
            head := if (s.sdc ch).desc.isSome then (s.sdc ch).nextHead else (s.sdc ch).head, state := .idle, desc := none } := by
        rw [State.setSdc_sdc, State.setSdc_sdc]
      exact ⟨_, hexec, (congrArg SdmCh.state hch :), (congrArg SdmCh.head hch :),
        (State.setSdc_changes s ch _).trans (State.setSdc_changes ..)⟩
  case stop =>
    intro ch s hlive hopen
    refine ⟨fun hidle => ?_, fun d hrun hd => ?_, ⟨_, exec_sdmaDisable hlive hopen, ?_, ?_, ?_, ?_⟩⟩
    · exact ⟨_, (exec_sdmaStop hlive hopen).trans (congrArg _ (State.sdmStop_idle hidle)), State.setSdc_sdc .., State.setSdc_changes ..⟩
    · have hch := State.sdmEnd_failed_sdc (s := s) (ch := ch) (d := d) (code := 0x31) (by decide) (s.sdc ch).left.toNat 0
      refine ⟨_, (exec_sdmaStop hlive hopen).trans (congrArg _ (State.sdmStop_running hrun hd)), (congrArg SdmCh.state hch :),
        (congrArg SdmCh.code hch :), (congrArg SdmCh.err hch :), (congrArg SdmCh.head hch :), ?_⟩
      exact (congrArg SdmCh.left hch).trans (BitVec.ofNat_toNat .. |>.trans (BitVec.setWidth_eq _))
    · rw [State.setSdc_sdc]
    · rw [State.setSdc_sdc]
    · rw [State.setSdc_sdc]
      exact (s.sdmStop_ring ch).1
    · rw [State.setSdc_sdc]
      exact (s.sdmStop_ring ch).2
  case fetched =>
    intro ch d s hlive hrun hph hd hfree hgo
    refine ⟨fun src hop hlen => ?_, fun hop hsp hbelow => ?_, fun a b next hop ha hb hown => ?_⟩
    · have hexec := exec_sdmaCopy (ch := ch) hlive src
      rw [State.onDesc_runs hrun hph hd hop hfree hgo, if_pos hlen] at hexec
      have hch := s.sdmBeats_sdc ch d (swapBytes d.swap src)
      refine ⟨fun hsp => ?_, fun n o l hsp hdst ho hpos hn hl => ?_, fun hsp hswap hbelow => ?_⟩
      · have hbeats : s.sdmBeats ch d (swapBytes d.swap src) = (s.emit (.dmaHost 0 d.dst.toNat (swapBytes d.swap src))).setSdc ch
            (fun c => { c with phase := .beats, left := 0 }) := by
          rw [State.sdmBeats, State.sdmWrite, hsp]
          rfl
        rw [hbeats] at hexec hch
        exact ⟨_, hexec, hch, rfl, (State.emit_changes ..).mono rfl |>.trans ((State.setSdc_changes ..).mono rfl)⟩
      · have hlen' : (swapBytes d.swap src).length = src.length := length_swapBytes ..
        have hbeats := State.sdmBeats_internal (s := s) (ch := ch) hsp (swapBytes d.swap src)
        rw [hdst, State.memPut_line hn (by omega) (by omega), State.lineWrite_held hl] at hbeats
        rw [hbeats] at hexec hch
        have hget : (s.land.lines.mod n (·.patched o (swapBytes d.swap src))).get? n = some (l.patched o (swapBytes d.swap src)) := by
          rw [AMap.get?_mod, hl]
          rfl
        have hother (k : Nat) (hk : k ≠ n) := AMap.get?_mod_ne s.land.lines n k (·.patched o (swapBytes d.swap src)) hk
        exact ⟨_, hexec, rfl, rfl, hch, hget, hother⟩
      · have hbeats := State.sdmBeats_internal (s := s) (ch := ch) hsp (swapBytes d.swap src)
        rw [hswap, swapBytes_zero, State.memPut_below hbelow] at hbeats
        rw [hswap, swapBytes_zero] at hexec hch
        rw [hbeats] at hexec hch
        exact ⟨_, hexec, hch, fun a => memGet_memWrite .., rfl⟩
    · have hexec := exec_sdmaFill (ch := ch) hlive
      have hlen := length_fillBytes d
      rw [State.onDesc_runs hrun hph hd hop hfree hgo] at hexec
      have hch := s.sdmBeats_sdc ch d (fillBytes d)
      have hbeats := State.sdmBeats_internal (s := s) (ch := ch) hsp (fillBytes d)
      rw [State.memPut_below (by omega)] at hbeats
      rw [hbeats] at hexec hch
      refine ⟨_, hexec, hch, fun a => (memGet_memWrite ..).trans ?_, rfl⟩
      by_cases hin : d.dst.toNat ≤ a ∧ a < d.dst.toNat + d.count.toNat
      · rw [if_pos hin, dif_pos ⟨hin.1, by omega⟩, fillBytes_getElem, Nat.add_sub_cancel' hin.1]
      · rw [if_neg hin, dif_neg (by omega)]
    · have hexec := exec_sdmaCompare (ch := ch) hlive a b next
      rw [State.onDesc_runs hrun hph hd hop hfree hgo, if_pos ⟨ha, hb⟩, State.sdmRead_none hown] at hexec
      have hch := State.setSdc_sdc (s.sdmCompare ch d a b) ch (fun c => { c with state := .idle, desc := none })
      rw [s.sdmCompare_sdc] at hch
      refine ⟨_, hexec, (congrArg SdmCh.state hch :), (congrArg SdmCh.head hch :), fun heq => ?_, fun k hk hsame hdiff => ?_,
        (congrArg SdmCh.err hch :), ?_, (congrArg SdmCh.bytes hch :)⟩
      · rw [hch, heq, firstDiff_self]
        rfl
      · rw [hch, firstDiff_some (by omega) (by omega) hsame hdiff]
        rfl
      · rw [hch]
        exact Bool.or_eq_true _ _ ▸ Iff.rfl
  case moved =>
    intro ch d s hlive hrun hd hfree
    refine ⟨fun hph => ?_, fun hph => ⟨?_, fun next hown => ?_⟩, fun n hph hop hsp => ?_⟩
    · have hack := State.sdmAck_eq hrun hph hd hfree
      refine ⟨_, (exec_sdmaLastBeatAck hlive).trans (congrArg _ hack), State.setSdc_sdc .., fun hsp hhigh => ?_, fun hsp hlow => ?_,
        fun hsp h4 => ?_, (State.emits_changes ..).step rfl ((State.setSdc_changes s ch _).mono rfl)⟩
      · exact congrArg (s.out ++ ·) (s.proofs_landing ch hsp hhigh)
      · exact congrArg (s.out ++ ·) (s.proofs_internal ch hsp hlow)
      · exact congrArg (s.out ++ ·) (s.proofs_host ch hsp h4)
    · have hexec := exec_sdmaReadbackReturn (ch := ch) hlive false d
      rw [State.sdmReturned_acked hrun hph hd, hfree] at hexec
      have hch := State.sdmEnd_failed_sdc (s := s) (ch := ch) (d := d) (code := 0x22) (by decide) 0 0
      exact ⟨_, hexec, (congrArg SdmCh.state hch :), (congrArg SdmCh.err hch :), (congrArg SdmCh.code hch :), (congrArg SdmCh.head hch :)⟩
    · have hexec := exec_sdmaReadbackReturn (ch := ch) hlive true next
      rw [State.sdmReturned_acked hrun hph hd, hfree, if_neg Bool.false_ne_true, if_pos rfl, State.sdmRead_none hown] at hexec
      have hch := State.setSdc_sdc (s.sdmEnd ch d 0 0 0) ch (fun c => { c with state := .idle, desc := none })
      rw [State.sdmEnd_finished_sdc (by decide)] at hch
      refine ⟨_, hexec, (congrArg SdmCh.state hch :), (congrArg SdmCh.head hch :), (congrArg SdmCh.err hch :), ?_,
        (congrArg SdmCh.bytes hch :), fun hsp hown => State.sdmEnd_finished_out (by decide) 0 0 hsp hown⟩
      rw [hch]
      exact Bool.or_eq_true _ _ ▸ Iff.rfl
    · have hexec := (exec_sdmaBeatError (ch := ch) hlive true n).trans (congrArg _ (State.sdmBeatError_write hrun hph hd hop hsp))
      have hkeep : (s.smudged ch d).sdc ch = s.sdc ch := State.sdc_congr (State.sdmWrite_chs ..) ch
      have hch := State.sdmEnd_failed_sdc (s := s.smudged ch d) (ch := ch) (d := d) (code := 0x21) (by decide)
        (if (s.sdc ch).phase = .beats then 0 else min n d.count.toNat) 0
      have hsends : s.Sends (s.smudged ch d) :=
        (State.Sends.of_eq (t := { s with free := s.free + d.count.toNat }) rfl).trans (State.sdmWrite_sends ..)
      rw [hkeep] at hch
      refine ⟨_, hexec, (congrArg SdmCh.state hch :), (congrArg SdmCh.err hch :), (congrArg SdmCh.code hch :),
        (congrArg SdmCh.head hch :), ?_, (hsends.trans (State.sdmEnd_sends ..)).dropped⟩
      rw [hch]
      exact apply_ite (BitVec.ofNat 32) _ _ _
  case shut =>
    intro ch d s hlive hrun hd hshut hph ok next
    have hexec := exec_sdmaReadbackReturn (ch := ch) hlive ok next
    rw [State.sdmReturned_acked hrun hph hd, hshut, if_pos rfl] at hexec
    have hch := State.sdmEnd_failed_sdc (s := s) (ch := ch) (d := d) (code := 0x30) (by decide) 0 0
    exact ⟨_, hexec, (congrArg SdmCh.state hch :), (congrArg SdmCh.code hch :)⟩

end Sys2Proof.Machine
end

section
/-! The statement of chapter 14 about the thermal limits (R466 to R470), which meet tamper alarm 1 (R364). -/

namespace Sys2Proof.Machine

open Sys2Proof

/-- A running machine in which nothing is in flight. -/
def idleRunning : State := { State.reset with phase := .running }

theorem State.tempAlarm_hot {s : State} (hg : s.phase.guarded = true) (h : 1350 < s.junction) : s.tempAlarm.sec.tampered = true := by
  simp only [State.tempAlarm, hg, Bool.not_true, Bool.false_eq_true, if_false, if_pos h, State.tamper_sec]

/-- The sensors are read and the levels judged; the temperature alarm is not judged yet. -/
def State.sensorsJudged (s : State) (ts : List Int) : State :=
  let s := s.setPws (fun w => w.readAll ts)
  let j := s.junction
  let ht := s.portList.foldl (fun m p => max m (hctmOf (s.ctrl p).feat j s.pws.htmt)) 0
  let s := s.setPws (fun w => { w with hot := if 1200 ≤ j then w.hot + 1 else 0, htmt := ht })
  let s := if s.pws.level = 4 then s else s.setLevel (levelOf j s.pws.level)
  let s := s.thermIn
  if s.live then s.driftWarn else s

theorem State.sensorsRead_powered {s : State} (h : s.powered = true) (ts : List Int) :
    s.sensorsRead ts = (s.sensorsJudged ts).tempAlarm := by
  have h : (s.setPws (fun w => w.readAll ts)).powered = true := h
  simp only [State.sensorsRead, h, Bool.not_true, Bool.false_eq_true, if_false]
  rfl

theorem exec_thermalSensorRead {s : State} (h : s.powered = true) (ts : List Int) :
    exec (.thermalSensorRead ts) s = .next (s.sensorsJudged ts).tempAlarm := by
  change execThermalSensorRead ts s = _
  rw [execThermalSensorRead, if_pos (.inl h), State.sensorsRead_powered h]

/-- Twelve sensors at 140 °C are above the limit of tamper alarm 1. -/
theorem idleRunning_alarmed : ∃ t, exec (.thermalSensorRead (List.replicate 12 1400)) idleRunning = .next t ∧
    t.sec.tampered = true := 
  ⟨_, exec_thermalSensorRead (by decide) _, State.tempAlarm_hot (by decide) (by decide)⟩

/-- Refutes O25: a reading of the sensors above 135 °C raises tamper alarm 1 (`State.tempAlarm`), so more than the power states, the events
and the drift warnings of the DRAM changes. -/
theorem not_thermalLimits : ¬ Obligations.ThermalLimits := by
  intro h
  obtain ⟨t, ht, -, -, -, -, -, hframe⟩ := h.1 (List.replicate 12 1400) idleRunning rfl (by decide)
  obtain ⟨u, hu, htampered⟩ := idleRunning_alarmed
  cases ht.symm.trans hu
  exact absurd ((congrArg Security.tampered (hframe.rest .sec (by decide)) : t.sec.tampered = false).symm.trans htampered) (by decide)

end Sys2Proof.Machine
end

section
/-! The statement of chapters 12 and 16 about the start of the part (R405 to R409, R464, R509). -/

namespace Sys2Proof.Machine

open Sys2Proof

/-- A part whose core supply is enabled and not ready yet; the ring drives its timebase and the crystal runs. -/
def coreRising : State :=
  { State.reset with
    phase := .supplies
    tb := { State.reset.tb with srcAct := .ring, crystalUp := true }
    pws := { State.reset.pws with enVcore := true, pgVcore := false } }

/-- The core supply is ready: the timebase leaves the ring for the crystal (R464). -/
theorem coreRising_settles : ∃ t, exec (.supplyPowerGood .vcore) coreRising = .next t ∧ t.tb.srcAct = .crystal := ⟨_, rfl, by decide⟩

/-- Refutes O26: the clause about the core supply names the phase and the supply registers alone; the timebase leaves the ring as well
(`State.powerGood`). -/
theorem not_startSequence : ¬ Obligations.StartSequence := by
  rintro ⟨-, -, -, -, -, hcore, -⟩
  obtain ⟨t, ht, hsrc⟩ := coreRising_settles
  cases ht.symm.trans (hcore coreRising rfl rfl rfl)
  exact absurd hsrc (by decide)

end Sys2Proof.Machine
end

section
/-! The statement of chapter 06 about the flush (R236 to R240), which meets the retraining pauses of the DRAM (R332). -/

namespace Sys2Proof.Machine

open Sys2Proof

/-- The bank supplies VIN12 and no retraining pause goes on. -/
def State.heldUp (s : State) : State :=
  let s := (s.setPlp (fun p => { p with
    state := .holding, isoClosed := false, disClosed := true, pfail := true, marked := false })).gates
  { s with pws := { s.pws with gated := [], entry := none }, dram := s.dram.noPauses }

/-- The state in which a power failure's flush begins: its event is recorded. -/
def State.flushBegins (s : State) : State :=
  { s.heldUp.log 0x2001 0xFF (leBytes 4 s.heldUp.land.toFlush ++ leBytes 2 s.heldUp.media.liveDies.length) with phase := .flushing }

theorem State.powerFail_eq (s : State) : s.powerFail = s.flushBegins.flushBody := rfl

theorem exec_powerFail {s : State} {src : PfSource} (hp : s.phase = .running) (hsrc : s.sees src = true) :
    exec (.powerFail src) s = .next s.flushBegins.flushBody := by
  change execPowerFail src s = _
  rw [execPowerFail, State.powerFails]
  simp only [hp, hsrc, if_true]
  rw [State.powerFail_eq]

/-- The flush ends every retraining pause. -/
theorem State.flushBegins_dram (s : State) : s.flushBegins.dram = s.dram.noPauses := by
  have hheld : s.heldUp.dram = s.dram.noPauses := congrArg Dram.noPauses ((State.gates_changes _).rest .dram (by decide))
  simp only [State.flushBegins]
  rw [(State.log_changes s.heldUp _ _ _).rest .dram (by decide), hheld]

theorem Dram.noPauses_fullLeft (d : Dram) (c : Fin 16) : d.noPauses.chs[c].fullLeft = 0 := by
  simp [Dram.noPauses, Tbl.all]

theorem State.flushBody_dram (s : State) : s.flushBody.dram = s.dram := (State.flushBody_changes s).rest .dram (by decide)

/-- A running machine in which every DRAM channel is in the pause of a full retraining. -/
def retrainingState : State :=
  { State.reset with phase := .running, dram := { chs := Vector.replicate 16 { fullLeft := 1 } } }

/-- Refutes O24: the clause about the power-fail signal lists the phase, the bank, the power states, the events and what is sent; the
flush ends the retraining pauses of the DRAM as well. -/
theorem not_powerLossFlush : ¬ Obligations.PowerLossFlush := by
  intro h
  obtain ⟨s1, hs1, -, -, -, -, -, -, -, -, -, -, hframe⟩ := h.1 .vhost retrainingState (.inr (.inr rfl)) (by decide)
  have hs1 := Host.Outcome.next.inj ((exec_powerFail rfl (by decide)).symm.trans hs1)
  have hdram : s1.dram = retrainingState.dram.noPauses :=
    calc s1.dram
      _ = s1.flushBody.dram := (State.flushBody_dram s1).symm
      _ = retrainingState.flushBegins.flushBody.dram := congrArg State.dram hs1.symm
      _ = _ := (State.flushBody_dram _).trans (State.flushBegins_dram _)
  have hframe : s1.dram = retrainingState.dram := hframe.rest .dram (by decide)
  have hleft : retrainingState.dram.chs[(0 : Fin 16)].fullLeft = 0 := by rw [← hframe, hdram, Dram.noPauses_fullLeft]
  exact absurd hleft (by decide)

end Sys2Proof.Machine
end

section
/-! The statement of chapter 02 about rows (R93 to R95), whose last clauses allow a table with two rows of one number. -/

namespace Sys2Proof.Machine

open Sys2Proof

/-- A record of granule 5. -/
def granuleFive : Rec :=
  { ns := 0, granule := 5, die := 0, block := 0, page := 0, offset := 0, len := 63, raw := false, keySlot := 0, keyGen := 0, data := [] }

def fiveRow (recs : List Rec) (closed : Bool) : Row := { stripe := 0, w := 0, stream := .system, recs := recs, closed := closed }

/-- A running machine whose table of rows holds two rows of number 2, behind an older row of the same granule. -/
def twinRows : State :=
  { State.reset with
    phase := .running
    media := { State.reset.media with
      stripes := [(0, { group := 0, stream := .system, members := [], rotation := .by32 })]
      rows := [(1, fiveRow [granuleFive] false), (2, fiveRow [granuleFive] true), (2, fiveRow [] true)] } }

/-- The row behind the older one waits; the other of its number holds nothing, and leaves with it. -/
theorem twinRows_complete : ∃ t, exec (.rowComplete 2) twinRows = .next t ∧ t.media.rows.length = 1 := ⟨_, rfl, by decide⟩

/-- Refutes O14: the clause about a row that must wait does not ask that the table of rows be well formed. With a second row of the same
number that may complete, both are asked for, and the number leaves the table. -/
theorem not_rowsCloseAndComplete : ¬ Obligations.RowsCloseAndComplete := by
  rintro ⟨-, -, -, -, hwait, -⟩
  obtain ⟨t, ht, hlen⟩ := twinRows_complete
  obtain ⟨u, hu, hrows, -⟩ := hwait 2 (fiveRow [granuleFive] true) _ twinRows rfl rfl rfl (by decide) (by decide) (by decide)
  cases ht.symm.trans hu
  rw [hrows] at hlen
  exact absurd hlen (by decide)

end Sys2Proof.Machine
end

section
/-! The statement of chapters 01 and 14 about the supplies and the crystal (R40, R41, R464, R465). -/

namespace Sys2Proof.Machine

open Sys2Proof

/-- A part that starts from its crystal while the reference clock of the host runs. -/
def crystalStarting : State :=
  { State.reset with phase := .rom, tb := { State.reset.tb with srcAct := .crystal, crystalUp := true, refclkUp := true } }

/-- The crystal is late: the timebase runs from the ring, though the reference clock is up (R464). -/
theorem crystalStarting_timeout : ∃ t, exec .xoReadyTimeout crystalStarting = .next t ∧ t.tb.srcAct = .ring := ⟨_, rfl, by decide⟩

/-- Refutes O30: the clause about a crystal that is not ready lets the reference clock take over where it runs; the model falls back to the
ring alone (`execXoReadyTimeout`). -/
theorem not_suppliesAndCrystal : ¬ Obligations.SuppliesAndCrystal := by
  rintro ⟨-, -, hlate, -⟩
  obtain ⟨t, ht, -, -, -, hsrc, -⟩ := hlate crystalStarting (by decide) (by decide) rfl
  obtain ⟨u, hu, hring⟩ := crystalStarting_timeout
  cases ht.symm.trans hu
  exact absurd (hsrc.symm.trans hring) (by decide)

end Sys2Proof.Machine
end

section
/-! The statement of chapters 06 and 14 about the end of recovery (R246 to R248), which meets the reads of the media (R133, R193). -/

namespace Sys2Proof.Machine

open Sys2Proof

/-! ### Codewords whose CRC holds (R78, R133) -/

theorem crcBit_lt {c : Nat} (h : c < 2 ^ 32) : crcBit c < 2 ^ 32 := by
  have hc : c / 2 < 2 ^ 32 := by omega
  unfold crcBit
  split
  · exact Nat.xor_lt_two_pow hc (by decide)
  · exact hc

theorem crcByte_lt {c b : Nat} (hc : c < 2 ^ 32) (hb : b < 2 ^ 32) : crcByte c b < 2 ^ 32 := by
  unfold crcByte
  exact crcBit_lt (crcBit_lt (crcBit_lt (crcBit_lt (crcBit_lt (crcBit_lt (crcBit_lt (crcBit_lt (Nat.xor_lt_two_pow hc hb))))))))

theorem crc32_lt (bs : List Byte) : crc32 bs < 2 ^ 32 := by
  have hfold (c : Nat) (hc : c < 2 ^ 32) : bs.foldl (fun c b => crcByte c b.toNat) c < 2 ^ 32 := by
    induction bs generalizing c with
    | nil => exact hc
    | cons b bs ih => exact ih _ (crcByte_lt hc (Nat.lt_trans b.isLt (by decide)))
  exact Nat.xor_lt_two_pow (hfold _ (by decide)) (by decide)

/-- The CRC of a codeword's meta field holds over the field and the payload (R78). -/
theorem crcHolds_metaBytes (seq contLen : Nat) (pad : Bool) (dir : List DirEnt) (pay : List Byte) :
    crcHolds (metaBytes seq contLen pad dir pay ++ pay) = true := by
  have h (body : List Byte) (hl : body.length = 44) : crcHolds (body ++ leBytes 4 (crc32 (body ++ pay)) ++ pay) = true := by
    have hc : (leBytes 4 (crc32 (body ++ pay))).length = 4 := length_leBytes ..
    have hdrop : (body ++ leBytes 4 (crc32 (body ++ pay)) ++ pay).drop 48 = pay := by
      rw [List.drop_append, List.drop_eq_nil_of_le (by simp [hl, hc])]; simp [hl, hc]
    have htake : (body ++ leBytes 4 (crc32 (body ++ pay)) ++ pay).take 44 = body := by
      rw [List.append_assoc, List.take_append_of_le_length (by omega), List.take_of_length_le (by omega)]
    have hfield : ((body ++ leBytes 4 (crc32 (body ++ pay)) ++ pay).drop 44).take 4 = leBytes 4 (crc32 (body ++ pay)) := by
      rw [List.append_assoc, List.drop_append, List.drop_eq_nil_of_le (by omega)]; simp [hl, hc]
    rw [crcHolds, hfield, htake, hdrop, ofLeBytes_leBytes _ _ (crc32_lt _), decide_eq_true_eq]
  exact h _ (by simp [length_leBytes, length_padTo])

theorem Media.length_plainBody (m : Media) (seq : Nat) (rs : List Rec) {cw : Nat} (h : cw < 4) : (m.plainBody seq rs cw).length = 4144 := by
  simp only [Media.plainBody, metaBytes, Media.payload_, List.length_append, List.length_take, List.length_drop, length_leBytes, length_padTo]
  omega

theorem Media.crcHolds_plainBody (m : Media) (seq : Nat) (rs : List Rec) (cw : Nat) : crcHolds (m.plainBody seq rs cw) = true :=
  crcHolds_metaBytes ..

theorem xorBytes_zeros (b : List Byte) : xorBytes (List.replicate b.length 0) b = b := by
  induction b with
  | nil => rfl
  | cons x xs ih =>
    rw [List.length_cons, List.replicate_succ, xorBytes, List.zipWith_cons_cons]
    exact congrArg₂ List.cons BitVec.zero_xor ih

theorem sumBodies_singleton {b : List Byte} (h : b.length = 4144) : sumBodies [b] = b := by
  have hz := xorBytes_zeros b
  rw [h] at hz
  exact hz

/-- A codeword that one member alone holds besides its own is rebuilt: both pages stand unscrambled and hold no record. -/
theorem Media.rebuiltOk_pair {m : Media} {h : PageHead} {own : Nat × Nat × Nat} {other : Nat × Nat} {t : Nat × Stripe}
    (ht : m.stripeOf own.1 own.2.1 = some t) (hmem : t.2.members.filter (fun x => x.1 ≠ own.1) = [other])
    (hown : m.heads.get? (pageKey own.1 own.2.1 own.2.2) = some h) (hother : m.heads.get? (pageKey other.1 other.2 own.2.2) = some h)
    (hb : h.bypass = true) (hp : h.parity = false) {cw : Nat} (hcw : cw < 4) : m.rebuiltOk own.1 own.2.1 own.2.2 cw = true := by
  have hbody : ∃ rs, m.storedBody other.1 other.2 own.2.2 cw = some (m.plainBody h.seq rs cw) := by
    refine ⟨onPageOf (m.rowRecs other.1 other.2 own.2.2 h) other.1 other.2 own.2.2, ?_⟩
    rw [Media.storedBody, hother, Option.map_some, Media.bodyOf, if_neg (by simp [hp]), Media.dataBody, if_pos hb]
  obtain ⟨rs, hbody⟩ := hbody
  have hby : (m.heads.get? (pageKey own.1 own.2.1 own.2.2)).any (·.bypass) = true := by rw [hown]; exact hb
  simp only [Media.rebuiltOk, ht, hmem, List.filterMap_cons, hbody, List.filterMap_nil, Media.unscrambled, hby, if_true,
    sumBodies_singleton (m.length_plainBody h.seq rs hcw), m.crcHolds_plainBody]

/-! ### The end of recovery -/

/-- The state that recovery leaves before the reads that have all their members end. -/
def State.recoveryLeaves (s : State) (ms : Nat) : State :=
  let s := s.takePopulation.channelsOn.setMedia (fun m => m.replayed none)
  let s := s.openBlocks.applyImage.sayRecovery ms
  let s := s.setBoot (fun b => { b with replayDue := false, imageDue := false, recoveryDue := false })
  let s : State := { s with phase := .running, land := { s.land with image := none } }
  let s := s.recompute.wakePorts.resumeRebuilds
  let back := (s.media.dies.filter (fun e => e.2.returning)).map (·.1)
  (back.foldl (fun s d => (s.returnErases d).dieReturns d) s).loadNext

theorem exec_recoveryComplete {s : State} (h : s.phase = .recovering) (ms : Nat) :
    exec (.recoveryComplete ms none) s = .next (s.recoveryLeaves ms).settleReads := by
  have hp : (!(s.phase == .recovering)) = false := by rw [h]; rfl
  change execRecoveryComplete ms none s = _
  simp only [execRecoveryComplete, State.recoveryEnds, hp, Bool.false_eq_true, if_false, State.mediaGoesOn]
  rfl

/-- A ladder for a map page whose step 6 awaits no member. -/
def mapLadder : Ladder := { who := .mapPage 0 0, grans := [0], die := 0, block := 0, page := 0, cw := 0, step := 6 }

/-- A record of granule 5, in a row whose completion waits. -/
def waitingRow : Row :=
  { stripe := 1, w := 0, stream := .host 0, closed := true, due := true
    recs := [{ ns := 0, granule := 5, die := 0, block := 0, page := 0, offset := 0, len := 63, raw := false, keySlot := 0, keyGen := 0, data := [] }] }

/-- A machine in recovery that still reads a map page, from a stripe of two members, with a row whose completion waits. The ring and the
map records are empty. -/
def recoveringState : State :=
  { State.reset with
    phase := .recovering
    media := { State.reset.media with
      population := some []
      namespaces := [(0, { nlbas := 1024, lba512 := false, ind16 := false, zoned := false })]
      stripes := [(0, { group := 0, stream := .host 0, members := [(0, 0), (1, 0)], rotation := .by32 }),
        (1, { group := 0, stream := .host 0, members := [], rotation := .by32 })]
      heads := [(pageKey 0 0 0, { seq := 9, bypass := true }), (pageKey 1 0 0, { seq := 9, bypass := true })]
      rows := [(1, waitingRow)]
      reads := [(0, mapLadder)] } }

/-- Recovery leaves the ladder, and the pages that it needs. -/
theorem recoveringState_left : (recoveringState.recoveryLeaves 0).media.reads = [(0, mapLadder)] ∧
    (recoveringState.recoveryLeaves 0).media.heads = recoveringState.media.heads ∧
    ((recoveringState.recoveryLeaves 0).media.stripeOf 0 0).map (fun t => t.2.members) = some [(0, 0), (1, 0)] := by decide +kernel

/-- The map page is rebuilt: its CRC holds. -/
theorem recoveringState_rebuilt : (recoveringState.recoveryLeaves 0).media.rebuiltOk 0 0 0 0 = true := by
  obtain ⟨-, hheads, hstripe⟩ := recoveringState_left
  obtain ⟨t, ht, hmem⟩ := Option.map_eq_some_iff.mp hstripe
  exact Media.rebuiltOk_pair (h := { seq := 9, bypass := true }) (own := (0, 0, 0)) (other := (1, 0)) ht (by rw [hmem]; rfl)
    (by rw [hheads]; rfl) (by rw [hheads]; rfl) rfl rfl (by decide)

/-- With the map page in the cache the row whose completion waits completes, and its record is in the map. -/
theorem recoveringState_completes : ∃ t, exec (.recoveryComplete 0 none) recoveringState = .next t ∧ t.media.map.length = 1 := by
  refine ⟨_, exec_recoveryComplete rfl 0, ?_⟩
  have hends : (recoveringState.recoveryLeaves 0).settleReads =
      ((recoveringState.recoveryLeaves 0).recovered 0 mapLadder).rebuildEnds 1 := by
    have hend : (recoveringState.recoveryLeaves 0).rebuildEnd 0 mapLadder = (recoveringState.recoveryLeaves 0).recovered 0 mapLadder := by
      rw [State.rebuildEnd, if_neg (by simp [mapLadder, recoveringState_rebuilt])]
    rw [State.settleReads, recoveringState_left.1, ← hend, List.length_singleton, State.rebuildEnds, recoveringState_left.1]
    rfl
  rw [hends]
  decide +kernel

/-- Refutes O28: recovery ends with the reads that the state still holds; a map page that one of them brings lets a row complete, and the
map is then more than the ring replayed over the map records. -/
theorem not_recoveryAndWake : ¬ Obligations.RecoveryAndWake := by
  intro h
  obtain ⟨t, ht, -, -, hmap, -⟩ := h.1 0 recoveringState rfl rfl
  obtain ⟨u, hu, hlen⟩ := recoveringState_completes
  cases ht.symm.trans hu
  rw [hmap] at hlen
  exact absurd hlen (by decide)

end Sys2Proof.Machine
end

section
/-! The statement of chapters 07 and 08 about shutdowns and the states of a link (R277, R283, R296, R308). -/

namespace Sys2Proof.Machine

open Sys2Proof

/-- A running machine whose host enables the L1.1 substate in L1 PM Substates Control 1. -/
def l1EnabledState : State :=
  { State.reset with phase := .running, ports := Vector.replicate 2 { link := .l0, config := [(0x288, 8)] } }

/-- The port enters L1.1 (R296). -/
theorem l1EnabledState_enters : ∃ t, exec (.l1IdleExpire 0) l1EnabledState = .next t ∧ t.ports[(0 : Fin 2)].l1sub = 1 :=
  ⟨_, rfl, by decide⟩

/-- Refutes O38: the clause about a quiet port takes L1 as a state without a substate; the model's link enters L1.1 or L1.2 where the host
enables it (`State.l1Sub`). -/
theorem not_shutdownAndLink : ¬ Obligations.ShutdownAndLink := by
  rintro ⟨-, -, -, -, -, hstates, -⟩
  obtain ⟨-, -, -, hidle, -⟩ := hstates 0 l1EnabledState rfl
  obtain ⟨t, ht, hsub⟩ := l1EnabledState_enters
  cases ht.symm.trans (hidle (.inl rfl) (by decide))
  exact absurd hsub (by decide)

end Sys2Proof.Machine
end

section
/-! The statement of chapter 13 about the ferry activation and the trial (R278, R435 to R441). -/

namespace Sys2Proof.Machine

open Sys2Proof

/-! ### What a completion keeps of the command queues -/

section
variable {α : Type} (π : Cmq → α) (hrelease : ∀ (q : Cmq) v (f : Nat), π (Cmq.release { q with cmds := v } f) = π q)
include hrelease

theorem State.endCmd_cmq_keeps (s : State) (fseq : Nat) : π (s.endCmd fseq).cmq = π s.cmq := by
  rw [State.endCmd]
  split
  · rfl
  · exact hrelease _ _ fseq

theorem State.complete_cmq_keeps (hctrls : ∀ (q : Cmq) v, π { q with ctrls := v } = π q) (s : State) (fseq : Nat) (st : Status) (dw0 lba : Nat) :
    π (s.complete fseq st dw0 lba).cmq = π s.cmq := by
  have hset (u : State) (p : Fin 2) (f : Ctrl → Ctrl) : π (u.setCtrl p f).cmq = π u.cmq := hctrls u.cmq _
  have hpost (u : State) (p : Fin 2) (f sqid cid : Nat) (st : Status) (dw0 : Nat) : π (u.post p f sqid cid st dw0).cmq = π u.cmq := by
    simp only [State.post]
    repeat' split
    · rfl
    · rfl
    · rfl
    · exact hset u _ _
    · exact hset u _ _
  have hready (u : State) (p : Fin 2) : π (u.tryReady p).cmq = π u.cmq := by
    rw [State.tryReady]
    split
    · exact hset u _ _
    · rfl
  have ends (u : State) (hu : π u.cmq = π s.cmq) (c : Cmd) : π (if c.silent then (u.endCmd fseq).tryReady c.port else
      (u.post c.port fseq c.sqid c.cid st dw0).endCmd fseq).cmq = π s.cmq := by
    split
    · rw [hready, State.endCmd_cmq_keeps π hrelease, hu]
    · rw [State.endCmd_cmq_keeps π hrelease, hpost, hu]
  simp only [State.complete]
  split
  · rfl
  · refine ends _ ?_ _
    split
    · exact hset s _ _
    · rfl

end

theorem Cmq.stall_keeps {α : Type} (π : Cmq → α) (h : ∀ (q : Cmq) a b c, π { q with stalled := a, stallCnt := b, stallTotal := c } = π q)
    (q : Cmq) : π q.stall = π q := by
  unfold Cmq.stall
  repeat' split
  · exact h q _ _ _
  · rfl
  · exact h q _ _ _

theorem Cmq.release_keeps {α : Type} (π : Cmq → α) (h : ∀ (q : Cmq) a b c, π { q with stalled := a, stallCnt := b, stallTotal := c } = π q)
    (ht : ∀ (q : Cmq) l v, π { q with locks := l, cmds := v } = π q) (q : Cmq) (v : AMap Cmd) (f : Nat) :
    π (Cmq.release { q with cmds := v } f) = π q := (Cmq.stall_keeps π h _).trans (ht q _ _)

theorem State.complete_paused (s : State) (fseq : Nat) (st : Status) (dw0 lba : Nat) :
    (s.complete fseq st dw0 lba).cmq.paused = s.cmq.paused :=
  State.complete_cmq_keeps Cmq.paused (Cmq.release_keeps _ (fun _ _ _ _ => rfl) (fun _ _ _ => rfl)) (fun _ _ => rfl) s fseq st dw0 lba

theorem State.complete_abandoned (s : State) (fseq : Nat) (st : Status) (dw0 lba : Nat) :
    (s.complete fseq st dw0 lba).cmq.abandoned = s.cmq.abandoned :=
  State.complete_cmq_keeps Cmq.abandoned (Cmq.release_keeps _ (fun _ _ _ _ => rfl) (fun _ _ _ => rfl)) (fun _ _ => rfl) s fseq st dw0 lba

theorem State.complete_boot (s : State) (fseq : Nat) (st : Status) (dw0 lba : Nat) : (s.complete fseq st dw0 lba).boot = s.boot :=
  (State.complete_changes s fseq st dw0 lba).rest .boot (by decide)

theorem State.complete_dict (s : State) (fseq : Nat) (st : Status) (dw0 lba : Nat) : (s.complete fseq st dw0 lba).dict = s.dict :=
  (State.complete_changes s fseq st dw0 lba).rest .dict (by decide)

section
variable {s : State} {fseq : Nat} {c : Cmd} {ph : CmdPhase}

/-! ### The landing and the deadline (R435, R436) -/

/-- The ledger of a landing is written. -/
def State.landedLedger (s : State) : State :=
  let s := s.setBoot (fun b => { b with source := 0 })
  s.writeLedger 3 s.ledgerFlags

/-- The boot control record of a landing is written. -/
def State.landedRecord (s : State) : State :=
  s.landedLedger.record (fun b => { b with
    state := .trial, tries := 1, ferry := .none, ferryFseq := none, next := [], old := [] })

/-- Fetching resumes after a landing. -/
def State.landedFetching (s : State) : State := { s.landedRecord with cmq := { s.landedRecord.cmq with paused := false } }

/-- A landing before its Commit completes. -/
def State.landed (s : State) (us : Nat) : State :=
  s.landedFetching.log 0x6021 0x20 (leBytes 4 s.landedFetching.boot.imageSeq.toNat ++ leBytes 4 us)

theorem exec_ferryLanding (hlive : s.live = true) (hferry : s.boot.ferry = .drained) (hf : s.boot.ferryFseq = some fseq) (us : Nat) :
    exec (.ferryLanding us) s = .next ((s.landed us).complete fseq .success).serveDict := by
  have hd : (!(s.boot.ferry == .drained)) = false := by rw [hferry]; rfl
  change execFerryLanding us s = _
  rw [execFerryLanding, State.whenLive_live hlive]
  simp only [State.ferryLand, hd, hf, Bool.false_eq_true, if_false]
  rfl

theorem State.landedLedger_boot (s : State) : ∃ ledger certs, s.landedLedger.boot = { s.boot with
    source := 0, ledger := ledger, akCerts := certs, ledgerCount := s.boot.ledgerCount + (if s.hasAk then 1 else 0) } := by
  have hak : (s.setBoot (fun b => { b with source := 0 })).hasAk = s.hasAk := rfl
  simp only [State.landedLedger, State.writeLedger, hak]
  cases s.hasAk with
  | false => exact ⟨_, _, rfl⟩
  | true => exact ⟨_, _, rfl⟩

theorem State.landedRecord_changes (s : State) : Changes [.bst, .boot, .free] s s.landedRecord :=
  (State.record_changes ..).step rfl ((State.writeLedger_changes ..).step rfl ((State.setBoot_changes ..).step rfl (.refl _ s)))

theorem State.landed_changes (s : State) (us : Nat) : Changes [.evr, .cmq, .bst, .boot, .free] s (s.landed us) :=
  (State.log_changes ..).step rfl (Changes.cmq_with _ rfl (s.landedRecord_changes.mono rfl))

theorem State.landed_boot (s : State) (us : Nat) : ∃ b : Boot, (s.landed us).boot = b ∧ b.state = .trial ∧ b.tries = 1 ∧ b.ferry = .none ∧
    b.run = s.boot.run ∧ b.armed = s.boot.armed ∧ b.ledgerCount = s.boot.ledgerCount + (if s.hasAk then 1 else 0) := by
  obtain ⟨ledger, certs, h⟩ := s.landedLedger_boot
  have hb : (s.landed us).boot = s.landedRecord.boot := (State.log_changes s.landedFetching _ _ _).rest .boot (by decide)
  have hr : s.landedRecord.boot = { s.landedLedger.boot with
    state := .trial, tries := 1, ferry := .none, ferryFseq := none, next := [], old := [], gen := s.landedLedger.boot.gen + 1 } := rfl
  rw [hb, hr, h]
  exact ⟨_, rfl, rfl, rfl, rfl, rfl, rfl, rfl⟩

/-- Nothing that decides on a completion changes but which requests the table holds. -/
theorem State.SamePost.of_changes {u : State} {ps : List Part} (h : Changes ps s u) (hports : Part.ports ∉ ps) (hdict : Part.dict ∉ ps)
    (hcmds : u.cmq.cmds = s.cmq.cmds) (hctrls : u.cmq.ctrls = s.cmq.ctrls) : State.SamePost s u fseq :=
  ⟨by rw [hcmds], fun q => by rw [State.ctrl, State.ctrl, hctrls], h.rest .ports hports, h.rest .dict hdict⟩

theorem State.landed_cmq (s : State) (us : Nat) : (s.landed us).cmq = { s.cmq with paused := false } := by
  have hcmq : s.landedRecord.cmq = s.cmq := s.landedRecord_changes.rest .cmq (by decide)
  rw [State.landed, (State.log_changes s.landedFetching _ _ _).rest .cmq (by decide), State.landedFetching, hcmq]

theorem State.landed_samePost (s : State) (us : Nat) (fseq : Nat) : State.SamePost s (s.landed us) fseq := by
  exact .of_changes (s.landed_changes us) (by decide) (by decide) (by rw [State.landed_cmq]) (by rw [State.landed_cmq])

/-- A ferry activation in its fetch pause is given up: fetching resumes under the old image. -/
def State.ferryGivenUp (s : State) : State :=
  ({ s with
    cmq := { s.cmq with paused := false, abandoned := true, abandonTotal := s.cmq.abandonTotal + 1 }
    boot := { s.boot with
      ferry := .none, armed := none, next := [], old := []
      run := if s.boot.ferry == .drained then s.boot.old else s.boot.run } } : State).record (fun b => { b with state := .written })

theorem State.abandonFerry_eq (h : s.boot.ferry = .paused ∨ s.boot.ferry = .drained) : s.abandonFerry =
    s.ferryGivenUp.log 0x6022 0x20 (leBytes 1 s.ferryStep ++ leBytes 4 s.boot.imageSeq.toNat) := by
  have hon : (!(s.boot.ferry == .paused || s.boot.ferry == .drained)) = false := by
    rcases h with h | h <;> rw [h] <;> rfl
  simp only [State.abandonFerry, hon, Bool.false_eq_true, if_false]
  rfl

theorem State.abandonFerry_boot (h : s.boot.ferry = .paused ∨ s.boot.ferry = .drained) : ∃ b : Boot, s.abandonFerry.boot = b ∧
    b.state = .written ∧ b.ferry = .none ∧ b.armed = none ∧
    b.run = (if s.boot.ferry = .drained then s.boot.old else s.boot.run) := by
  have hb : s.abandonFerry.boot = s.ferryGivenUp.boot := by
    rw [State.abandonFerry_eq h]
    exact (State.log_changes s.ferryGivenUp _ _ _).rest .boot (by decide)
  refine ⟨_, hb, rfl, rfl, rfl, ?_⟩
  rcases h with h | h <;> simp [State.ferryGivenUp, State.record, h]

theorem State.abandonFerry_cmq (h : s.boot.ferry = .paused ∨ s.boot.ferry = .drained) : s.abandonFerry.cmq =
    { s.cmq with paused := false, abandoned := true, abandonTotal := s.cmq.abandonTotal + 1 } := by
  rw [State.abandonFerry_eq h, (State.log_changes s.ferryGivenUp _ _ _).rest .cmq (by decide)]
  exact (State.record_changes _ _).rest .cmq (by decide)

/-- An activation at its deadline before its Commit completes. -/
def State.late (s : State) : State := s.abandonFerry.setBoot (fun b => { b with ferryFseq := none })

theorem exec_ferryDeadline (hlive : s.live = true) (h : s.boot.ferry = .paused ∨ s.boot.ferry = .drained)
    (hf : s.boot.ferryFseq = some fseq) : exec .ferryDeadline s = .next (s.late.complete fseq .fwActMtfa).serveDict := by
  have hon : (!(s.boot.ferry == .paused || s.boot.ferry == .drained)) = false := by
    rcases h with h | h <;> rw [h] <;> rfl
  change execFerryDeadline s = _
  rw [execFerryDeadline, State.whenLive_live hlive]
  simp only [State.ferryLate, hon, hf, Bool.false_eq_true, if_false]
  rfl

theorem State.late_changes (s : State) : Changes [.evr, .cmq, .bst, .boot] s s.late :=
  (State.setBoot_changes ..).step rfl s.abandonFerry_changes

theorem State.late_samePost (h : s.boot.ferry = .paused ∨ s.boot.ferry = .drained) (fseq : Nat) : State.SamePost s s.late fseq := by
  have hcmq : s.late.cmq = s.abandonFerry.cmq := rfl
  exact .of_changes s.late_changes (by decide) (by decide) (by rw [hcmq, State.abandonFerry_cmq h])
    (by rw [hcmq, State.abandonFerry_cmq h])

/-! ### The trial (R438 to R441) -/

theorem exec_healthToken_core (hlive : s.live = true) (k : Fin 32) (v : BitVec 32) : exec (.healthToken (.core k) v) s =
    .next (if k = 28 ∨ k = 29 then s.acceptHealth v else s.emit (.accessError (.core k))) := by
  change execHealthToken (.core k) v s = _
  simp only [execHealthToken, State.whenLive_live hlive]

theorem State.acceptHealth_boot {v : BitVec 32} (hs : s.boot.state = .trial) (hv : v = s.boot.imageSeq) (hh : s.healthy = true) :
    (s.acceptHealth v).boot.copying = true ∧ (∀ q t0, s.boot.armed = some (q, t0) → q = v → (s.acceptHealth v).boot.armed = none) ∧
      Changes [.boot] s (s.acceptHealth v) := by
  rw [State.acceptHealth, if_pos ⟨hs, hv, hh⟩]
  refine ⟨rfl, fun q t0 ha hq => ?_, ?_⟩
  · have htok : (s.trialToken v).boot.armed = none := by simp [State.trialToken, ha, hq, State.setBoot]
    exact htok
  · refine (State.setBoot_changes ..).step rfl ?_
    rw [State.trialToken]
    split
    · split
      · exact (State.setBoot_changes ..)
      · exact .refl _ s
    · exact .refl _ s

/-- The rollback copy of the running image is recorded. -/
def State.copyRecorded (s : State) : State :=
  s.record (fun b => { b with
    state := .confirmed, tries := 0, confirmedSeq := BitVec.ofNat 32 (imgSeq s.boot.run), svnMin := max b.svnMin (imgSvn s.boot.run)
    rollback := some s.boot.run, copying := false })

theorem exec_rollbackCopyComplete (hlive : s.live = true) (h : s.boot.copying = true) : exec .rollbackCopyComplete s = .next
    (s.copyRecorded.clearStaging.log 0x6030 0x20 (leBytes 4 (imgSeq s.boot.run) ++ leBytes 2 (imgSvn s.boot.run))) := by
  change execRollbackCopyComplete s = _
  rw [execRollbackCopyComplete, State.whenLive_live hlive]
  simp only [State.copyComplete, h, Bool.not_true, Bool.false_eq_true, if_false]
  rfl

theorem State.copyRecorded_evr (s : State) (data : List Byte) :
    (s.copyRecorded.clearStaging.log 0x6030 0x20 data).evr = (s.log 0x6030 0x20 data).evr := by
  have h : Changes [.bst, .boot] s s.copyRecorded.clearStaging := (State.clearStaging_changes _).step rfl (State.record_changes ..)
  exact State.log_evr_congr (h.rest .evr (by decide)) (h.rest .clocks (by decide)) (h.rest .tb (by decide)) _ _ _

/-- The trial timer has expired: the flush of its expiry begins. -/
def State.trialOver (s : State) (q : BitVec 32) : State :=
  { ((s.setBoot (fun b => { b with armed := none })).log 0x6031 0x20 (leBytes 4 q.toNat)).setPws
      (fun w => { w with entry := none, gated := [] }) with phase := .trialFlush }

theorem exec_trialTimerExpire {q : BitVec 32} {t0 : Nat} (ha : s.boot.armed = some (q, t0)) (hp : s.phase = .running ∨ s.phase = .recovering) :
    exec .trialTimerExpire s = .next (s.trialOver q).flushBody := by
  change execTrialTimerExpire s = _
  rcases hp with hp | hp <;> simp only [execTrialTimerExpire, State.trialExpires, ha, hp] <;> rfl

theorem State.trialOver_changes (s : State) (q : BitVec 32) : Changes [.phase, .evr, .boot, .pws] s (s.trialOver q) :=
  Changes.phase_with _ rfl ((State.setPws_changes ..).step rfl ((State.log_changes ..).step rfl ((State.setBoot_changes ..).step rfl
    (.refl _ s))))

/-! ### The flush of an expiry (R441) -/

theorem State.checkWear_nand (s : State) : s.checkWear.media.nand = s.media.nand := by
  rw [State.checkWear]
  split
  · rw [(State.log_changes _ _ _ _).rest .media (by decide)]
    rfl
  · rfl

theorem State.mark_nand (s : State) (us : Nat) : (s.mark us).media.nand = s.media.nand := by
  simp only [State.mark]
  split
  · exact State.checkWear_nand _
  · exact State.checkWear_nand _

theorem State.mark_pfail (s : State) (us : Nat) : (s.mark us).plp.pfail = s.plp.pfail := by
  have hc : Changes [.evr, .clocks, .media] s (s.setMedia (fun m => m.append 6 m.rowSeq 0 0 [])).checkWear.persist :=
    (State.persist_changes _).step rfl ((State.checkWear_changes _).step rfl ((State.setMedia_changes ..).step rfl (.refl _ s)))
  have h := congrArg Plp.pfail (hc.rest .plp (by decide))
  simp only [State.mark]
  split
  · exact h
  · exact h

theorem State.expiryStart_fresh (s : State) : s.expiryStart.phase = .rom ∧ s.expiryStart.boot.trialExpired = true ∧
    s.expiryStart.land.lines = [] ∧ s.expiryStart.cmq.cmds = [] ∧ s.expiryStart.media.nand = s.media.nand := by
  have hmedia : (s.runEnds false).storeLost.media = s.media :=
    ((State.storeLost_changes _).rest .media (by decide)).trans ((s.runEnds_changes false).rest .media (by decide))
  have hnand := congrArg Media.nand hmedia
  exact ⟨rfl, rfl, rfl, rfl, hnand⟩

theorem exec_trialFlushDeadline (hp : s.phase = .trialFlush) (hf : s.plp.pfail = false) :
    exec .trialFlushDeadline s = .next s.expiryStart := by
  change execTrialFlushDeadline s = _
  simp only [execTrialFlushDeadline, hp, hf, Bool.not_false, and_self, if_true]

theorem exec_flushMark_trial (hp : s.phase = .trialFlush) (hf : s.plp.pfail = false) (hd : s.flushDone = true) (us : Nat) :
    exec (.flushMark us) s = .next (s.mark us).flushAllChecks.expiryStart := by
  have hpf : (s.mark us).flushAllChecks.plp.pfail = false := by
    rw [(State.flushAllChecks_changes _).rest .plp (by decide), s.mark_pfail, hf]
  change execFlushMark us s = _
  simp only [execFlushMark, State.flushEnds, hd, hp, Bool.not_true, Bool.false_and, hpf, Bool.false_eq_true, if_false]

/-! ### From the pause to the crossing (R435) -/

/-- The fetch pause has begun. -/
def State.ferryPaused (s : State) : State :=
  let s := s.setBoot (fun b => { b with ferry := .paused })
  let s : State := { s with cmq := { s.cmq with paused := true, abandoned := false } }
  s.log 0x6020 0x20 (leBytes 4 s.boot.imageSeq.toNat)

theorem exec_ferryPauseBegin (hlive : s.live = true) (hferry : s.boot.ferry = .prepared) (hm : s.media.ckptDue = none)
    (hg : s.commitGuard = none) : exec .ferryPauseBegin s = .next s.ferryPaused.quiesce := by
  have hon : ¬ ((!(s.boot.ferry == .prepared)) = true ∨ s.media.ckptDue.isSome = true) := by simp [hferry, hm]
  change execFerryPauseBegin s = _
  rw [execFerryPauseBegin, State.whenLive_live hlive]
  simp only [State.ferryPause, if_neg hon, hg]
  rfl

theorem exec_ferryDrained (hlive : s.live = true) (hferry : s.boot.ferry = .paused) (hd : s.drained = true) :
    exec .ferryDrained s = .next (s.setBoot (fun b => { b with
      ferry := .drained, armed := some (b.imageSeq, s.tb.count.toNat), trialSeq := b.imageSeq, old := b.run, run := b.next })) := by
  have hon : ¬ ((!(s.boot.ferry == .paused)) = true ∨ (!s.drained) = true) := by simp [hferry, hd]
  change execFerryDrained s = _
  rw [execFerryDrained, State.whenLive_live hlive]
  simp only [State.ferryCross, if_neg hon]

theorem State.ferryPaused_changes (s : State) : Changes [.evr, .cmq, .boot] s s.ferryPaused :=
  (State.log_changes ..).step rfl (Changes.cmq_with _ rfl ((State.setBoot_changes ..).step rfl (.refl _ s)))

theorem State.ferryPaused_boot (s : State) : s.ferryPaused.boot = { s.boot with ferry := .paused } :=
  (State.log_changes _ _ _ _).rest .boot (by decide)

theorem State.ferryPaused_cmq (s : State) : s.ferryPaused.cmq = { s.cmq with paused := true, abandoned := false } :=
  (State.log_changes _ _ _ _).rest .cmq (by decide)

theorem exec_trialToken (hlive : s.live = true) {q : BitVec 32} {t0 : Nat} (ha : s.boot.armed = some (q, t0)) (v : BitVec 32) :
    exec (.trialToken v) s = .next (if q = v then { s with boot := { s.boot with armed := none } } else s) := by
  change execTrialToken v s = _
  simp only [execTrialToken, State.whenLive_live hlive, State.trialToken, ha]
  rfl

theorem exec_trialArm (hlive : s.live = true) (ha : s.boot.armed = none) : exec .trialArm s =
    .next { s with boot := { s.boot with armed := some (s.boot.trialSeq, s.tb.count.toNat) } } := by
  change execTrialArm s = _
  rw [execTrialArm, State.whenLive_live hlive]
  simp only [ha, Option.isSome_none, Bool.false_eq_true, if_false]
  rfl

/-- The boot state once the rollback copy is recorded and staging is clear. -/
theorem State.copyDone_boot (s : State) (data : List Byte) : ∃ b : Boot, (s.copyRecorded.clearStaging.log 0x6030 0x20 data).boot = b ∧
    b.state = .confirmed ∧ b.rollback = some s.boot.run ∧ b.svnMin = max s.boot.svnMin (imgSvn s.boot.run) ∧
    b.confirmedSeq = BitVec.ofNat 32 (imgSeq s.boot.run) ∧ b.staged = [] ∧ b.copying = false :=
  ⟨_, (State.log_changes s.copyRecorded.clearStaging _ _ _).rest .boot (by decide), rfl, rfl, rfl, rfl, rfl, rfl⟩

theorem State.trialOver_evr (s : State) (q : BitVec 32) : (s.trialOver q).evr = (s.log 0x6031 0x20 (leBytes 4 q.toNat)).evr :=
  State.log_evr_congr rfl rfl rfl _ _ _

theorem State.trialOver_armed (s : State) (q : BitVec 32) : (s.trialOver q).boot.armed = none := by
  have h := (State.log_changes (s.setBoot (fun b => { b with armed := none })) 0x6031 0x20 (leBytes 4 q.toNat)).rest .boot (by decide)
  exact (congrArg Boot.armed h :)

end

/-! ### O33 -/

/-- Settles O33, clause by clause: each happening of the activation and of the trial sets its part of the boot state, and the Commit
completes where the activation ends. -/
theorem ferryAndTrial : Obligations.FerryAndTrial := by
  unfold Obligations.FerryAndTrial
  refine ⟨?pause, ?drained, ?landing, ?deadline, ?arm, ?token, ?health, ?other, ?copied, ?expires, ?flushed⟩
  case pause =>
    intro s hlive hferry hm hg
    refine ⟨_, exec_ferryPauseBegin hlive hferry hm hg, ?_, ?_, ?_, State.log_evr_congr rfl rfl rfl _ _ _,
      s.ferryPaused_changes.mono rfl⟩
    · rw [s.ferryPaused_boot]
    · rw [s.ferryPaused_cmq]
    · rw [s.ferryPaused_cmq]
  case drained =>
    intro s hlive hferry hd
    exact exec_ferryDrained hlive hferry hd
  case landing =>
    intro us fseq c ph s hfly hferry hf hheld
    have hidle : ((s.landed us).complete fseq .success).serveDict = (s.landed us).complete fseq .success :=
      State.serveDict_idle (by rw [State.complete_dict, (s.landed_changes us).rest .dict (by decide), hheld])
    obtain ⟨b, hb, hstate, htries, hnone, hrun, harmed, hcount⟩ := s.landed_boot us
    have hboot : ((s.landed us).complete fseq .success).boot = b := by rw [State.complete_boot, hb]
    have hdone := hfly.completes_same (s.landed_samePost us fseq) .success 0 0
    rw [(s.landed_changes us).rest .out (by decide)] at hdone
    refine ⟨_, exec_ferryLanding hfly.live hferry hf us, ?_⟩
    rw [hidle, hboot, State.complete_paused, State.landed_cmq]
    exact ⟨hdone, hstate, htries, hnone, hrun, harmed, rfl, hcount⟩
  case deadline =>
    intro fseq c ph s hfly hferry hf hheld
    have hidle : (s.late.complete fseq .fwActMtfa).serveDict = s.late.complete fseq .fwActMtfa :=
      State.serveDict_idle (by rw [State.complete_dict, s.late_changes.rest .dict (by decide), hheld])
    obtain ⟨b, hb, hstate, hnone, harmed, hrun⟩ := State.abandonFerry_boot hferry
    have hboot : (s.late.complete fseq .fwActMtfa).boot = { b with ferryFseq := none } := by
      rw [State.complete_boot, ← hb]
      rfl
    have hcmq : s.late.cmq = _ := State.abandonFerry_cmq hferry
    have hdone := hfly.completes_same (State.late_samePost hferry fseq) .fwActMtfa 0 0
    rw [s.late_changes.rest .out (by decide)] at hdone
    refine ⟨_, exec_ferryDeadline hfly.live hferry hf, ?_⟩
    rw [hidle, hboot, State.complete_paused, State.complete_abandoned, hcmq]
    exact ⟨hdone, hstate, hnone, harmed, rfl, rfl, hrun⟩
  case arm =>
    intro s hlive ha
    exact exec_trialArm hlive ha
  case token =>
    intro v q t0 s hlive ha
    exact exec_trialToken hlive ha v
  case health =>
    intro k v s hlive hk hs hv hh
    have hexec := exec_healthToken_core hlive k v
    rw [if_pos hk] at hexec
    exact ⟨_, hexec, State.acceptHealth_boot hs hv hh⟩
  case other =>
    intro k v s hlive h28 h29
    have hexec := exec_healthToken_core hlive k v
    rw [if_neg (not_or.mpr ⟨h28, h29⟩)] at hexec
    exact hexec
  case copied =>
    intro s hlive hcopy
    obtain ⟨b, hb, hstate, hroll, hsvn, hseq, hstaged, hdone⟩ :=
      s.copyDone_boot (leBytes 4 (imgSeq s.boot.run) ++ leBytes 2 (imgSvn s.boot.run))
    refine ⟨_, exec_rollbackCopyComplete hlive hcopy, ?_⟩
    rw [hb]
    exact ⟨hstate, hroll, hsvn, hseq, hstaged, hdone, s.copyRecorded_evr _⟩
  case expires =>
    intro q t0 s ha hp
    exact ⟨_, exec_trialTimerExpire ha hp, rfl, s.trialOver_armed q, s.trialOver_evr q, (s.trialOver_changes q).mono rfl⟩
  case flushed =>
    intro i us s hp hf hi
    rcases hi with rfl | ⟨rfl, hd⟩
    · exact ⟨_, exec_trialFlushDeadline hp hf, s.expiryStart_fresh⟩
    · obtain ⟨hrom, hexp, hlines, hcmds, hnand⟩ := (s.mark us).flushAllChecks.expiryStart_fresh
      refine ⟨_, exec_flushMark_trial hp hf hd us, hrom, hexp, hlines, hcmds, hnand.trans ?_⟩
      rw [(State.flushAllChecks_changes _).rest .media (by decide), s.mark_nand]

end Sys2Proof.Machine
end

section
/-! The statement of chapter 03 about reads that are answered at once (R64, R102), which meets the reads of the media (R133). -/

namespace Sys2Proof.Machine

open Sys2Proof

/-- A read of no block, which R253 refuses. -/
def emptyRead : Cmd := { port := 0, sqid := 1, cid := 7, phase := .ready, cmd := .read { nsid := 1, slba := 0, nlb := 0 } }

/-- A read that awaits its granule. -/
def awaitingRead : Cmd := { port := 0, sqid := 1, cid := 8, phase := .reading, cmd := .read { nsid := 1, slba := 0, nlb := 8 }, awaiting := [0] }

/-- Step 6 of a codeword of that granule: a member was lost, and none is awaited. -/
def lostLadder : Ladder :=
  { who := .host 2, grans := [0], die := 0, block := 0, page := 0, cw := 0, step := 6, members := 0, memberLost := true }

/-- A machine with both reads in flight. -/
def readingState : State :=
  { State.reset with
    phase := .running
    cmq := {
      ctrls := Vector.replicate 2 { en := true, rdy := true, sqs := [(0, { size := 16, cqid := 0 }), (1, { size := 16, cqid := 1 })]
                                    cqs := [(0, { size := 16 }), (1, { size := 16, vector := 1 })] }
      cmds := [(1, emptyRead), (2, awaitingRead)], fseq := 3 }
    media := { State.reset.media with
      namespaces := [(0, { nlbas := 1024, lba512 := false, ind16 := false, zoned := false, attached := [0] })]
      reads := [(0, lostLadder)] } }

theorem readingState_flying : readingState.Flying 1 emptyRead .ready :=
  ⟨rfl, rfl, rfl, rfl, ⟨rfl, rfl, ⟨{ size := 16, vector := 1 }, rfl, by decide⟩, rfl⟩, fun _ => rfl⟩

/-- The step that answers the first read ends the codeword of the second, and the entry of the second is posted after it. -/
theorem readingState_out : ∃ t, exec (.read 1) readingState = .next t ∧
    t.out = [.cqe 0 1 1 7 .lbaRange 0, .msix 0 1, .cqe 0 1 1 8 .unrecoveredRead 0, .msix 0 1] := ⟨_, rfl, by decide +kernel⟩

/-- Refutes O17: a read that is answered at once ends its step with the codewords that await no member, and what another command's
codeword brings is sent after the completion entry. -/
theorem not_readsServed : ¬ Obligations.ReadsServed := by
  rintro ⟨-, hrefused, -⟩
  obtain ⟨t, ht, ⟨vec, hposted⟩, -⟩ := hrefused 1 0 _ _ _ emptyRead _ .lbaRange readingState readingState_flying rfl rfl rfl
  obtain ⟨u, hu, hout⟩ := readingState_out
  cases ht.symm.trans hu
  have hlen := congrArg List.length (hposted.symm.trans hout)
  exact absurd hlen (by simp [readingState, State.reset])

end Sys2Proof.Machine
end

section
/-! The statement of chapter 03 about host-assisted exports (R142 to R145, R149). -/

namespace Sys2Proof.Machine

open Sys2Proof

/-! ### A descriptor spells its request (R144) -/

theorem ofLeBytes_field (pre post : List Byte) {a n v : Nat} (ha : pre.length = a) (hv : v < 256 ^ n) :
    ofLeBytes (((pre ++ (leBytes n v ++ post)).drop a).take n) = v := by
  have hlen : (leBytes n v).length = n := length_leBytes n v
  have htake : (leBytes n v ++ post).take n = leBytes n v := by
    rw [List.take_append_of_le_length (by omega), List.take_of_length_le (by omega)]
  rw [← ha, List.drop_left, htake, ofLeBytes_leBytes n v hv]

theorem descReq_expDesc (kind : Nat) {q : ExportReq} (h : q.wf = true) : descReq (expDesc kind q) = q := by
  simp only [ExportReq.wf, nsidOk, Bool.and_eq_true, decide_eq_true_eq] at h
  obtain ⟨⟨⟨⟨⟨⟨hstep, hnsid⟩, hlba⟩, hdie⟩, hblock⟩, hpage⟩, hcw⟩ := h
  have field (pre post : List Byte) {a n v : Nat} (ha : pre.length = a) (hv : v < 256 ^ n)
      (hd : expDesc kind q = pre ++ (leBytes n v ++ post)) : ofLeBytes (((expDesc kind q).drop a).take n) = v := by
    rw [hd]
    exact ofLeBytes_field pre post ha hv
  let toStep := leBytes 1 kind
  let toNsid := toStep ++ leBytes 1 q.stepMax ++ leBytes 2 0
  let toLba := toNsid ++ leBytes 4 q.nsid
  let toDie := toLba ++ leBytes 8 q.lba
  let toBlock := toDie ++ leBytes 2 q.die
  let toPage := toBlock ++ leBytes 2 q.block
  let toCw := toPage ++ leBytes 2 q.page
  let toTag := toCw ++ leBytes 1 q.cw ++ leBytes 1 0
  have estep := field toStep (leBytes 2 0 ++ leBytes 4 q.nsid ++ leBytes 8 q.lba ++ leBytes 2 q.die ++ leBytes 2 q.block ++
    leBytes 2 q.page ++ leBytes 1 q.cw ++ leBytes 1 0 ++ leBytes 8 q.tag.toNat) (a := 1) (n := 1) rfl hstep rfl
  have ensid := field toNsid (leBytes 8 q.lba ++ leBytes 2 q.die ++ leBytes 2 q.block ++ leBytes 2 q.page ++ leBytes 1 q.cw ++
    leBytes 1 0 ++ leBytes 8 q.tag.toNat) (a := 4) (n := 4) rfl hnsid rfl
  have elba := field toLba (leBytes 2 q.die ++ leBytes 2 q.block ++ leBytes 2 q.page ++ leBytes 1 q.cw ++ leBytes 1 0 ++
    leBytes 8 q.tag.toNat) (a := 8) (n := 8) rfl hlba rfl
  have edie := field toDie (leBytes 2 q.block ++ leBytes 2 q.page ++ leBytes 1 q.cw ++ leBytes 1 0 ++ leBytes 8 q.tag.toNat)
    (a := 16) (n := 2) rfl hdie rfl
  have eblock := field toBlock (leBytes 2 q.page ++ leBytes 1 q.cw ++ leBytes 1 0 ++ leBytes 8 q.tag.toNat) (a := 18) (n := 2) rfl hblock rfl
  have epage := field toPage (leBytes 1 q.cw ++ leBytes 1 0 ++ leBytes 8 q.tag.toNat) (a := 20) (n := 2) rfl hpage rfl
  have ecw := field toCw (leBytes 1 0 ++ leBytes 8 q.tag.toNat) (a := 22) (n := 1) rfl hcw rfl
  have etag := field toTag [] (a := 24) (n := 8) rfl q.tag.isLt (by rw [List.append_nil]; rfl)
  simp only [descReq, estep, ensid, elba, edie, eblock, epage, ecw, etag, BitVec.ofNat_toNat, BitVec.setWidth_eq]

theorem byteNat_expDesc {kind : Nat} (h : kind < 256) (q : ExportReq) : byteNat (expDesc kind q) 0 = kind := Nat.mod_eq_of_lt h

/-! ### A request at its area (R142 to R145) -/

section
variable {s : State} {p : Fin 2} {q : ExportReq}

/-- An area with a request in its descriptor, and the resolve input if there is any. -/
def ExpArea.given (kind : Nat) (q : ExportReq) (input : Option (List Byte)) (a : ExpArea) : ExpArea :=
  { a with
    desc := expDesc kind q
    record := match input with
      | some bs => (padTo 23264 0 a.record).take 68 ++ (padTo 4176 0 bs).take 4176 ++ (padTo 23264 0 a.record).drop 4244
      | none => a.record }

/-- A request is in its area's descriptor. -/
def State.expGiven (s : State) (p : Fin 2) (kind : Nat) (q : ExportReq) (input : Option (List Byte)) : State :=
  s.setMedia (fun m => { m with expArea := m.expArea.upd p (ExpArea.given kind q input) })

/-- The request is in progress. -/
def State.expAsked (s : State) (p : Fin 2) (kind : Nat) (q : ExportReq) (input : Option (List Byte)) : State :=
  (s.expGiven p kind q input).setMedia (fun m => { m with expArea := m.expArea.upd p (fun a => { a with busy := true, tag := q.tag }) })

theorem State.expRequest_busy (h : s.media.expArea[p].busy = true) (kind : Nat) (input : Option (List Byte)) :
    s.expRequest p kind q input = s := by
  rw [State.expRequest, if_pos h]

theorem State.expGiven_area (kind : Nat) (input : Option (List Byte)) :
    (s.expGiven p kind q input).media.expArea[p] = s.media.expArea[p].given kind q input := Tbl.upd_get ..

theorem State.expAsked_area (kind : Nat) (input : Option (List Byte)) : (s.expAsked p kind q input).media.expArea[p] =
    { s.media.expArea[p].given kind q input with busy := true, tag := q.tag } :=
  (Tbl.upd_get ..).trans (by rw [State.expGiven_area])

theorem State.expRequest_asked (hwf : q.wf = true) (hfree : s.media.expArea[p].busy = false) (hport : p = 0 ∨ s.dual = true)
    (kind : Nat) (input : Option (List Byte)) : s.expRequest p kind q input = (s.expAsked p kind q input).expRun p := by
  have harea : (s.expGiven p kind q input).media.expArea[p].busy = false := by rw [State.expGiven_area]; exact hfree
  have hgoes : ¬ ((s.expGiven p kind q input).media.expArea[p].busy = true ∨ (p = 1 ∧ (!(s.expGiven p kind q input).dual) = true)) := by
    have hdual : (s.expGiven p kind q input).dual = s.dual := rfl
    rw [harea, hdual]
    rcases hport with rfl | h
    · simp
    · simp [h]
  rw [State.expRequest, if_neg (by rw [hfree]; exact Bool.false_ne_true)]
  change (s.expGiven p kind q input).expGo p = _
  rw [State.expGo, if_neg hgoes]
  refine congrArg (fun u => State.expRun u p) ?_
  simp only [State.expAsked, State.expGiven, State.setMedia, Tbl.upd_upd, ExpArea.given, descReq_expDesc kind hwf]

theorem State.expEnd_area (code : Nat) : (s.expEnd p code).media.expArea[p] =
    { s.media.expArea[p] with busy := false, done := true, code := BitVec.ofNat 8 code, waitPage := none } := Tbl.upd_get ..

/-- The kind of a request decides what its area runs (R144). -/
theorem State.expRun_asked (hwf : q.wf = true) {kind : Nat} (hkind : kind = 1 ∨ kind = 2 ∨ kind = 3) (input : Option (List Byte)) :
    (s.expAsked p kind q input).expRun p =
      if kind = 1 then (s.expAsked p kind q input).exportByLba p q
      else if kind = 2 then (s.expAsked p kind q input).exportByPhysical p q
      else (s.expAsked p kind q input).resolve p q := by
  have hbyte : byteNat (expDesc kind q) 0 = kind := byteNat_expDesc (by omega) q
  simp only [State.expRun, State.expAsked_area, ExpArea.given, descReq_expDesc kind hwf, hbyte]
  rcases hkind with rfl | rfl | rfl
  · rfl
  · rfl
  · rfl

/-- Where exports are off, a request that is in order otherwise ends with CODE 2 (R142, R145). -/
theorem State.expRun_off (hwf : q.wf = true) (hstep : q.stepMax ≤ 4) (hplace : s.media.badPlace q = false) (hoff : s.exportsOn = false)
    {kind : Nat} (hkind : kind = 1 ∨ kind = 2 ∨ kind = 3) (input : Option (List Byte)) :
    (s.expAsked p kind q input).expRun p = (s.expAsked p kind q input).expEnd p 2 := by
  have hmax : ¬ 4 < q.stepMax := by omega
  have hoff' : (!(s.expAsked p kind q input).exportsOn) = true := by
    have h : (s.expAsked p kind q input).exportsOn = s.exportsOn := rfl
    rw [h, hoff]
    rfl
  have hplace' : ¬ (4 < q.stepMax ∨ (s.expAsked p kind q input).media.badPlace q = true) := by
    have h : (s.expAsked p kind q input).media.badPlace q = s.media.badPlace q := rfl
    rw [h, hplace]
    exact not_or.mpr ⟨hmax, Bool.false_ne_true⟩
  rw [State.expRun_asked hwf hkind]
  rcases hkind with rfl | rfl | rfl
  · exact (if_neg hmax).trans (if_pos hoff')
  · exact (if_neg hplace').trans (if_pos hoff')
  · exact (if_neg hplace').trans (if_pos hoff')

/-! ### The three instructions -/

section
variable (hlive : s.live = true) (hlink : s.linkUp p = true) (hgoes : s.barRefusal p 4 = none) (hshown : s.ports[p].shows 10 = true)
include hlive hlink hgoes hshown

theorem exec_exportByLba : exec (.exportByLba p q) s = .next (s.expRequest p 1 q none) := by
  change execExportByLba p q s = _
  rw [execExportByLba, State.whenLive_live hlive, State.hostBar4_shown hlink hgoes hshown]

theorem exec_exportByPhysical : exec (.exportByPhysical p q) s = .next (s.expRequest p 2 q none) := by
  change execExportByPhysical p q s = _
  rw [execExportByPhysical, State.whenLive_live hlive, State.hostBar4_shown hlink hgoes hshown]

theorem exec_resolve (pilots body : List Byte) :
    exec (.resolve p q pilots body) s = .next (s.expRequest p 3 q (some (resolveInput pilots body))) := by
  change execResolve p q pilots body s = _
  rw [execResolve, State.whenLive_live hlive, State.hostBar4_shown hlink hgoes hshown]

/-- Each of the three requests is one kind of request to the area. -/
theorem exec_export_kind {i : Instr} (hi : i ∈ [Instr.exportByLba p q, .exportByPhysical p q, .resolve p q [] []]) :
    ∃ kind input, (kind = 1 ∨ kind = 2 ∨ kind = 3) ∧ exec i s = .next (s.expRequest p kind q input) := by
  simp only [List.mem_cons, List.not_mem_nil, or_false] at hi
  rcases hi with rfl | rfl | rfl
  · exact ⟨1, _, .inl rfl, exec_exportByLba hlive hlink hgoes hshown⟩
  · exact ⟨2, _, .inr (.inl rfl), exec_exportByPhysical hlive hlink hgoes hshown⟩
  · exact ⟨3, _, .inr (.inr rfl), exec_resolve hlive hlink hgoes hshown [] []⟩

end

end

/-- Settles O19: a busy area ignores a request, and where exports are off a request that is in order ends with CODE 2. As the statement is
parsed, its clauses on exports that start and on a resolve request stand among the premises of that last clause. -/
theorem exportRequests : Obligations.ExportRequests := by
  unfold Obligations.ExportRequests
  intro p q s hlive hlink hgoes hshown
  refine ⟨fun hbusy => ?_, fun hfree hport => ?_⟩
  · refine ⟨?_, ?_, fun pl bd => ?_⟩
    · rw [exec_exportByLba hlive hlink hgoes hshown, State.expRequest_busy hbusy]
    · rw [exec_exportByPhysical hlive hlink hgoes hshown, State.expRequest_busy hbusy]
    · rw [exec_resolve hlive hlink hgoes hshown, State.expRequest_busy hbusy]
  · rintro ⟨-, -, -, hwf⟩ hstep hplace i hi hoff
    obtain ⟨kind, input, hkind, hexec⟩ := exec_export_kind hlive hlink hgoes hshown hi
    rw [State.expRequest_asked hwf hfree hport kind input, State.expRun_off hwf hstep hplace hoff hkind] at hexec
    refine ⟨_, hexec, ?_, ?_, ?_⟩
    · rw [State.expEnd_area]
    · rw [State.expEnd_area]
      rfl
    · rw [State.expEnd_area]

end Sys2Proof.Machine
end

section
/-! The statement of chapter 06 about the hold-up bank (R226 to R235, R518). -/

namespace Sys2Proof.Machine

open Sys2Proof

/-! ### The landing limit (R58, R235) -/

/-- The regions that follow a limit leave the rest of the landing buffer. -/
theorem State.settlePmr_keeps {α : Type} (π : Landing → α) (hπ : ∀ (l : Landing) v, π { l with pmr := v } = π l) (s : State) :
    π s.settlePmr.land = π s.land := by
  have logged (u : State) (p : Fin 2) (code src : Nat) (data : List Byte) : π ((u.pmrWindows p).log code src data).land = π u.land := by
    rw [(State.log_changes _ _ _ _).rest .land (by decide), (State.pmrWindows_changes u p).rest .land (by decide)]
  have fold (ps : List (Fin 2)) (f : State → Fin 2 → State) (hf : ∀ u p, π (f u p).land = π u.land) (u : State) :
      π (ps.foldl f u).land = π u.land := by
    induction ps generalizing u with
    | nil => rfl
    | cons p ps ih => rw [List.foldl_cons, ih, hf]
  refine fold _ _ (fun u p => ?_) s
  dsimp only
  split
  · rfl
  · split
    · split
      · rfl
      · exact (logged _ p _ _ _).trans (hπ _ _)
    · split
      · rfl
      · rw [logged]
        split
        · rw [(State.log_changes _ _ _ _).rest .land (by decide)]
          exact hπ _ _
        · exact hπ _ _

/-- The landing buffer of a state whose limit has been set, before its regions follow. -/
theorem State.setLimit_keeps {α : Type} (π : Landing → α) (hπ : ∀ (l : Landing) v, π { l with pmr := v } = π l) (s : State) (n : Nat) :
    π (s.setLimit n).land = π { s.land with limit := n, wt := decide (n < 65536) } := by
  simp only [State.setLimit]
  rw [State.settlePmr_keeps π hπ]
  split
  · rw [(State.log_changes _ _ _ _).rest .land (by decide)]
  · split
    · rw [(State.log_changes _ _ _ _).rest .land (by decide)]
    · rfl

/-- The limit that the bank allows now: none while a fault is present or the bank is off (R232, R235). -/
def State.limitNow (s : State) : Nat :=
  if s.plp.active ≠ 0 ∨ s.plp.state = .fault ∨ s.plp.state = .off then 0 else s.limitAt s.plp.vTop

theorem State.limitAt_congr {s t : State} (hmedia : t.media = s.media) (hdict : t.dict = s.dict) (hmeas : t.plp.meas = s.plp.meas) (v : Int) :
    t.limitAt v = s.limitAt v := by
  have hparam (i j : Nat) : t.param i j = s.param i j := by rw [State.param, State.param, hdict]
  have hfull : t.eFull = s.eFull := by rw [State.eFull, State.eFull, hmedia, hparam, hparam]
  have havail : t.eAvail v = s.eAvail v := by
    unfold State.eAvail
    rw [hmeas]
    simp only [hmedia, hparam]
  rw [State.limitAt, State.limitAt, hmedia, hfull, havail]

theorem State.recompute_keeps {α : Type} (π : Landing → α) (hπ : ∀ (l : Landing) v, π { l with pmr := v } = π l) (s : State) :
    π s.recompute.land = π { s.land with limit := s.limitNow, wt := decide (s.limitNow < 65536) } :=
  State.setLimit_keeps π hπ _ _

@[simp] theorem State.recompute_limit (s : State) : s.recompute.land.limit = s.limitNow :=
  s.recompute_keeps Landing.limit (fun _ _ => rfl)

@[simp] theorem State.recompute_wt (s : State) : s.recompute.land.wt = decide (s.limitNow < 65536) :=
  s.recompute_keeps Landing.wt (fun _ _ => rfl)

@[simp] theorem State.recompute_lines (s : State) : s.recompute.land.lines = s.land.lines :=
  s.recompute_keeps Landing.lines (fun _ _ => rfl)

/-- Computing the limit again leaves everything but what it measures itself. -/
theorem State.recompute_bank {α : Type} (π : Plp → α) (hπ : ∀ (p : Plp) a b, π { p with eFull := a, eAvail := b } = π p) (s : State) :
    π s.recompute.plp = π s.plp := (congrArg π s.recompute_plp).trans (hπ _ _ _)

/-! ### The switch gates (R224) -/

@[simp] theorem State.gates_plp (s : State) : s.gates.plp = s.plp := rfl

@[simp] theorem State.gates_land (s : State) : s.gates.land = s.land := rfl

theorem State.gates_out (s : State) : s.gates.out =
    s.out ++ [.gates s.plp.isoClosed s.plp.disClosed (s.plp.state == .precharge || s.plp.state == .boost)] := rfl

/-! ### A charge (R226, R233) -/

/-- The bank's state as a charge starts from the voltage measured. -/
def Plp.charging (p : Plp) : BankSt := if p.capSense.toInt < boostFrom then .precharge else .boost

theorem Plp.charging_cases (p : Plp) : p.charging = .precharge ∨ p.charging = .boost := by
  unfold Plp.charging
  split
  · exact .inl rfl
  · exact .inr rfl

/-- The bank as a charge starts. -/
def State.chargeBegins (s : State) : State := s.setPlp (fun p => { p with state := p.charging })

theorem State.startCharge_eq (s : State) : s.startCharge = s.chargeBegins.recompute.gates := rfl

theorem State.chargeBegins_limitNow (s : State) : s.chargeBegins.limitNow = if s.plp.active ≠ 0 then 0 else s.limitAt s.plp.capSense.toInt := by
  have hat : s.chargeBegins.limitAt s.plp.capSense.toInt = s.limitAt s.plp.capSense.toInt := State.limitAt_congr rfl rfl rfl _
  have hstate : s.chargeBegins.plp.state = s.plp.charging := rfl
  have hactive : s.chargeBegins.plp.active = s.plp.active := rfl
  have htop : s.chargeBegins.plp.vTop = s.plp.capSense.toInt := by
    rw [Plp.vTop, hstate]
    rcases s.plp.charging_cases with h | h <;> rw [h] <;> rfl
  rw [State.limitNow, htop, hstate, hactive, hat]
  rcases s.plp.charging_cases with h | h <;> simp [h]

/-- A charge has started: the bank charges from its voltage, and the limit follows it. -/
theorem State.startCharge_bank (s : State) : s.startCharge.plp.state = s.plp.charging ∧
    s.startCharge.land.limit = (if s.plp.active ≠ 0 then 0 else s.limitAt s.plp.capSense.toInt) ∧
    s.startCharge.out = s.out ++ [.gates s.plp.isoClosed s.plp.disClosed true] := by
  have hstate : s.chargeBegins.recompute.plp.state = s.plp.charging := State.recompute_bank Plp.state (fun _ _ _ => rfl) _
  have hiso : s.chargeBegins.recompute.plp.isoClosed = s.plp.isoClosed := State.recompute_bank Plp.isoClosed (fun _ _ _ => rfl) _
  have hdis : s.chargeBegins.recompute.plp.disClosed = s.plp.disClosed := State.recompute_bank Plp.disClosed (fun _ _ _ => rfl) _
  have hout : s.chargeBegins.recompute.out = s.out := (State.recompute_changes _).rest .out (by decide)
  have hcharge : (s.plp.charging == .precharge || s.plp.charging == .boost) = true := by
    rcases s.plp.charging_cases with h | h <;> rw [h] <;> rfl
  rw [State.startCharge_eq, State.gates_plp, State.gates_land, State.gates_out, State.recompute_limit, State.chargeBegins_limitNow,
    hstate, hiso, hdis, hout, hcharge]
  exact ⟨rfl, rfl, rfl⟩

/-- What a charge that starts leaves of the bank. -/
theorem State.startCharge_keeps {α : Type} (π : Plp → α) (h : ∀ (p : Plp) a b, π { p with eFull := a, eAvail := b } = π p)
    (hs : ∀ (p : Plp) a, π { p with state := a } = π p) (s : State) : π s.startCharge.plp = π s.plp := by
  rw [State.startCharge_eq, State.gates_plp, State.recompute_bank π h]
  exact hs _ _

/-! ### What happens to the bank -/

section
variable {s : State}

theorem exec_chargeEnable (hlive : s.live = true) (hoff : s.plp.chgEn = false) : exec .chargeEnable s =
    .next (if s.plp.lasting ≠ 0 ∨ s.plp.state = .holding then s.setPlp (fun p => { p with chgEn := true })
      else (s.setPlp (fun p => { p with chgEn := true })).startCharge) := by
  change execChargeEnable s = _
  rw [execChargeEnable, State.whenLive_live hlive, State.chargeEnable, if_neg (by rw [hoff]; exact Bool.false_ne_true)]
  rfl

theorem exec_prechargeEnd (hlive : s.live = true) (h : s.plp.state = .precharge) :
    exec .prechargeEnd s = .next { s with plp := { s.plp with state := .boost, capSense := 1100 } } := by
  change execPrechargeEnd s = _
  rw [execPrechargeEnd, State.whenLive_live hlive, if_pos h]
  rfl

theorem exec_chargeRetry (hlive : s.live = true) (hs : s.plp.state = .fault) (ha : s.plp.active = 0x20) (he : s.plp.chgEn = true) :
    exec .chargeRetry s = .next s.startCharge := by
  change execChargeRetry s = _
  rw [execChargeRetry, State.whenLive_live hlive, if_pos ⟨hs, ha, he⟩]

/-- The bank is at full charge, and the charge timeout is over (R226). -/
def State.fullBank (s : State) : State :=
  let u := s.setPlp (fun p => { p with state := .full, capSense := BitVec.ofInt 16 3490, active := p.lasting })
  if s.plp.active.getLsbD 5 then u.log 0x2110 0x40 (leBytes 1 32) else u

theorem exec_bankFullCharge (hlive : s.live = true) (h : s.plp.state = .precharge ∨ s.plp.state = .boost) (hdue : s.plp.due = 0) :
    exec .bankFullCharge s = .next s.fullBank.recompute.gates.resumeAll := by
  have hstate : ¬ (s.plp.state ≠ .precharge ∧ s.plp.state ≠ .boost) := by
    rcases h with h | h <;> simp [h]
  have hdue' : ¬ (s.fullBank.plp.due ≠ 0 ∧ s.fullBank.pws.ps ≤ 2) := by
    have : s.fullBank.plp.due = s.plp.due := by
      simp only [State.fullBank]
      split
      · rw [(State.log_changes _ _ _ _).rest .plp (by decide)]
        rfl
      · rfl
    simp [this, hdue]
  change execBankFullCharge s = _
  rw [execBankFullCharge, State.whenLive_live hlive, State.fullCharge, if_neg hstate]
  change Host.Outcome.next (State.resumeAll (if s.fullBank.plp.due ≠ 0 ∧ s.fullBank.pws.ps ≤ 2 then s.fullBank.startTest
    else s.fullBank.recompute.gates)) = _
  rw [if_neg hdue']

theorem State.fullBank_plp (s : State) :
    s.fullBank.plp = { s.plp with state := .full, capSense := BitVec.ofInt 16 3490, active := s.plp.lasting } := by
  simp only [State.fullBank]
  split
  · rw [(State.log_changes _ _ _ _).rest .plp (by decide)]
    rfl
  · rfl

theorem State.fullBank_changes (s : State) : Changes [.evr, .plp] s s.fullBank := by
  simp only [State.fullBank]
  split
  · exact (State.log_changes ..).step rfl ((State.setPlp_changes ..).step rfl (.refl _ s))
  · exact (State.setPlp_changes ..).step rfl (.refl _ s)

theorem State.fullBank_limitNow (s : State) : s.fullBank.limitNow = if s.plp.lasting ≠ 0 then 0 else s.limitAt 3500 := by
  have hat : s.fullBank.limitAt 3500 = s.limitAt 3500 :=
    State.limitAt_congr (s.fullBank_changes.rest .media (by decide)) (s.fullBank_changes.rest .dict (by decide)) (by rw [s.fullBank_plp]) _
  have htop : s.fullBank.plp.vTop = 3500 := by rw [s.fullBank_plp]; rfl
  rw [State.limitNow, htop, hat, s.fullBank_plp]
  simp

/-- A bank fault is declared: the charger and both gates are off, and the limit is zero (R232). -/
def State.faultDeclared (s : State) (k : BankFaultKind) (pins : BankPins) : State :=
  (s.setPlp (fun p => { p with
      faults := p.faults ||| (1 <<< (faultIdx k)), active := p.active ||| (1 <<< (faultIdx k))
      capPos := BitVec.ofInt 16 pins.capPos, capSense := BitVec.ofInt 16 pins.capSense
      isoClosed := p.isoClosed || p.state == .testing, disClosed := false, state := .fault })).log
    (0x2101 + (faultIdx k)) 0x40 (i16 pins.capPos ++ i16 pins.capSense ++ i16 pins.current ++ leBytes 4 s.land.limit)

theorem State.bankFault_eq {k : BankFaultKind} (h : s.plp.active.getLsbD (faultIdx k) = false) (pins : BankPins) :
    s.bankFault k pins = (s.faultDeclared k pins).recompute.gates.writeImage.drain := by
  simp only [State.bankFault, h, Bool.false_eq_true, if_false]
  rfl

theorem exec_bankFault (hlive : s.live = true) {k : BankFaultKind} {pins : BankPins} {i : Instr}
    (hi : (i = .bankFault k pins ∧ s.plp.state ≠ .holding) ∨
      (i = .chargeTimeout pins ∧ k = .chgTimeout ∧ (s.plp.state = .precharge ∨ s.plp.state = .boost))) :
    exec i s = .next (s.bankFault k pins) := by
  rcases hi with ⟨rfl, hs⟩ | ⟨rfl, rfl, hs⟩
  · change execBankFault k pins s = _
    rw [execBankFault, State.whenLive_live hlive, if_neg hs]
  · change execChargeTimeout pins s = _
    rw [execChargeTimeout, State.whenLive_live hlive, if_pos hs]

theorem State.faultDeclared_plp (s : State) (k : BankFaultKind) (pins : BankPins) : (s.faultDeclared k pins).plp = { s.plp with
    faults := s.plp.faults ||| (1 <<< (faultIdx k)), active := s.plp.active ||| (1 <<< (faultIdx k))
    capPos := BitVec.ofInt 16 pins.capPos, capSense := BitVec.ofInt 16 pins.capSense
    isoClosed := s.plp.isoClosed || s.plp.state == .testing, disClosed := false, state := .fault } :=
  (State.log_changes _ _ _ _).rest .plp (by decide)

theorem State.faultDeclared_changes (s : State) (k : BankFaultKind) (pins : BankPins) : Changes [.evr, .plp] s (s.faultDeclared k pins) :=
  (State.log_changes ..).step rfl ((State.setPlp_changes ..).step rfl (.refl _ s))

theorem faultBit_set (x : BitVec 6) (k : BankFaultKind) : (x ||| (1 <<< (faultIdx k))).getLsbD (faultIdx k) = true := by
  cases k <;> simp [faultIdx]

theorem exec_landingLimitRecompute (hlive : s.live = true) (h : s.plp.state ≠ .holding) (v : Nat) :
    exec (.landingLimitRecompute v) s = .next (s.setPlp (fun p => { p with capSense := BitVec.ofNat 16 v })).recompute.resumeAll := by
  change execLandingLimitRecompute v s = _
  rw [execLandingLimitRecompute, State.whenLive_live hlive, if_neg h]

theorem exec_huIsoClose (h1 : s.plp.isoClosed = false) (h2 : s.plp.state ≠ .holding) (h3 : s.plp.state ≠ .testing) :
    exec .huIsoClose s = .next (s.setPlp (fun p => { p with isoClosed := true })).gates := by
  have hoff : ¬ (s.plp.state = .holding ∨ s.plp.state = .testing ∨ s.plp.isoClosed = true) := by simp [h1, h2, h3]
  change execHuIsoClose s = _
  rw [execHuIsoClose, State.isoClose, if_neg hoff]

/-! ### Tests (R227 to R230) -/

/-- The bank of a state as its test begins. -/
def State.testBegins (s : State) : State := s.setPlp (fun p => { p with state := .testing, due := p.due - 1, testNow := false })

theorem State.startTest_eq (s : State) :
    s.startTest = (s.testBegins.recompute.setPlp (fun p => { p with isoClosed := false, disClosed := true })).gates := rfl

theorem State.testBegins_limitNow (s : State) (h : s.plp.active = 0) : s.testBegins.limitNow = s.limitAt 3300 := by
  have hat : s.testBegins.limitAt 3300 = s.limitAt 3300 := State.limitAt_congr rfl rfl rfl _
  have hactive : s.testBegins.plp.active = s.plp.active := rfl
  have hstate : s.testBegins.plp.state = .testing := rfl
  have htop : s.testBegins.plp.vTop = 3300 := rfl
  rw [State.limitNow, htop, hat, hactive, hstate]
  simp [h]

theorem exec_bankTestDue_starts (hlive : s.live = true) (hs : s.plp.state = .full) (hps : s.pws.ps ≤ 2) :
    exec .bankTestDue s = .next (s.setPlp (fun p => { p with due := max 1 p.due })).startTest := by
  have hrun : (s.setPlp (fun p => { p with due := max 1 p.due })).plp.due ≠ 0 := Nat.ne_of_gt (Nat.lt_of_lt_of_le Nat.one_pos (le_max_left ..))
  change execBankTestDue s = _
  rw [execBankTestDue, State.whenLive_live hlive, State.tryTest, if_pos ⟨hrun, hs, hps⟩]

theorem exec_bankTestDue_waits (hlive : s.live = true) (h : s.plp.state ≠ .full ∨ 2 < s.pws.ps) :
    exec .bankTestDue s = .next (s.setPlp (fun p => { p with due := max 1 p.due })) := by
  change execBankTestDue s = _
  rw [execBankTestDue, State.whenLive_live hlive, State.tryTest, if_neg]
  rintro ⟨-, hs, hps⟩
  rcases h with h | h
  · exact h hs
  · exact absurd hps (Nat.not_le.mpr h)

/-- The bank is back on the host's supply after a test, before the test is judged. -/
def State.testLeft (s : State) (m : BankMeas) : State :=
  (s.setPlp (fun p => { p with
      state := .boost, isoClosed := true, disClosed := false
      capSense := BitVec.ofInt 16 (3500 - (m.fallMv / 10 : Nat)), lastTest := s.clocks.opsec.setWidth 32 })).gates

theorem exec_bankTestEnd (hlive : s.live = true) (hs : s.plp.state = .testing) {m : BankMeas} (hm : m.fallMv < 500 ∨ 1000 ≤ m.cMeas) :
    exec (.bankTestEnd m) s = .next (if m.fallMv < 500 then (s.testLeft m).recompute else (s.testLeft m).judgeTest m).resumeAll := by
  have hopen : ¬ (500 ≤ m.fallMv ∧ m.cMeas < 1000) := by omega
  change execBankTestEnd m s = _
  rw [execBankTestEnd, State.whenLive_live hlive, State.bankTestEnd, if_neg (not_not.mpr hs)]
  simp only [if_neg hopen]
  rfl

theorem State.testLeft_changes (s : State) (m : BankMeas) : Changes [.plp, .out] s (s.testLeft m) :=
  (State.gates_changes ..).step rfl ((State.setPlp_changes ..).step rfl (.refl _ s))

/-- The initial capacitance after a test: the first test, and one after a reset of it, gives it (R230). -/
def Plp.cInitAfter (p : Plp) (m : BankMeas) : Nat := match p.cInit with
  | some c => if p.cInitReset then m.cMeas else c
  | none => m.cMeas

/-- A test has been measured, before the limit follows it. -/
def State.testMeasured (s : State) (m : BankMeas) : State :=
  s.setPlp (fun p => { p with
    meas := some (m.cMeas, m.esrMeas), cMeas := satOf 16 m.cMeas, esrMeas := satOf 16 m.esrMeas
    cInit := some (s.plp.cInitAfter m), cInitReset := false, testFail := (testReason m (s.plp.cInitAfter m)).isSome, tested := true })

theorem testReason_isSome (m : BankMeas) (c0 : Nat) :
    (testReason m c0).isSome = decide (2 * m.cMeas < c0 ∨ 3000 < m.esrMeas ∨ m.faultDuring = true) := by
  unfold testReason
  split
  case isTrue h => simp [h]
  case isFalse h1 =>
    split
    case isTrue h => simp [h]
    case isFalse h2 =>
      split
      case isTrue h => simp [h]
      case isFalse h3 => simp [h1, h2, h3]

/-- Judging a test only records events once the limit has followed the measurement. -/
theorem State.judgeTest_measured (s : State) (m : BankMeas) : Changes [.evr] (s.testMeasured m).recompute (s.judgeTest m) := by
  have judged (u : State) (hu : Changes [.evr] (s.testMeasured m).recompute u) (prev : Option (Nat × Nat)) :
      Changes [.evr] (s.testMeasured m).recompute (match prev with
        | some (c, _) => if m.cMeas * 10 < c * 9 then u.log 0x2121 0x40 (leBytes 4 m.cMeas ++ leBytes 4 c) else u
        | none => u) := by
    split
    · split
      · exact (State.log_changes ..).step rfl hu
      · exact hu
    · exact hu
  refine judged _ ?_ _
  split
  · exact State.log_changes ..
  · exact State.log_changes ..

theorem State.testMeasured_limitNow (hstate : s.plp.state = .boost) (m : BankMeas) : (s.testMeasured m).limitNow =
    if s.plp.active ≠ 0 then 0 else (s.testMeasured m).limitAt s.plp.capSense.toInt := by
  have hs : (s.testMeasured m).plp.state = .boost := hstate
  have hactive : (s.testMeasured m).plp.active = s.plp.active := rfl
  have htop : (s.testMeasured m).plp.vTop = s.plp.capSense.toInt := by
    rw [Plp.vTop, hs]
    rfl
  rw [State.limitNow, htop, hs, hactive]
  simp

/-! ### A fault that has gone (R233) -/

/-- The condition of a fault has been absent for 1 s. -/
def State.faultGone (s : State) (k : BankFaultKind) : State :=
  (s.setPlp (fun p => { p with active := p.active &&& ~~~((1 : BitVec 6) <<< (faultIdx k)), due := max 1 p.due })).log
    0x2110 0x40 (leBytes 1 (2 ^ (faultIdx k)))

theorem exec_bankFaultClear (hlive : s.live = true) {k : BankFaultKind} (hk : k ≠ .chgTimeout)
    (ha : s.plp.active.getLsbD (faultIdx k) = true) : exec (.bankFaultClear k) s =
      .next (if (s.faultGone k).plp.active = 0 ∧ (s.faultGone k).plp.chgEn = true then (s.faultGone k).startCharge else s.faultGone k) := by
  have hgo : ¬ (k = .chgTimeout ∨ (!(s.plp.active.getLsbD (faultIdx k))) = true) := by simp [hk, ha]
  change execBankFaultClear k s = _
  rw [execBankFaultClear, State.whenLive_live hlive, State.bankFaultClear, if_neg hgo]
  rfl

theorem State.faultGone_plp (s : State) (k : BankFaultKind) : (s.faultGone k).plp =
    { s.plp with active := s.plp.active &&& ~~~((1 : BitVec 6) <<< (faultIdx k)), due := max 1 s.plp.due } :=
  (State.log_changes _ _ _ _).rest .plp (by decide)

theorem State.faultGone_changes (s : State) (k : BankFaultKind) : Changes [.evr, .plp] s (s.faultGone k) :=
  (State.log_changes ..).step rfl ((State.setPlp_changes ..).step rfl (.refl _ s))

theorem faultBit_cleared (x : BitVec 6) (k : BankFaultKind) : (x &&& ~~~((1 : BitVec 6) <<< (faultIdx k))).getLsbD (faultIdx k) = false := by
  cases k <;> simp [faultIdx]

theorem faultBit_others (x : BitVec 6) (k : BankFaultKind) {j : Nat} (hj : j < 6) (hjk : j ≠ faultIdx k) :
    (x &&& ~~~((1 : BitVec 6) <<< (faultIdx k))).getLsbD j = x.getLsbD j := by
  have hbit : ((1 : BitVec 6) <<< (faultIdx k)).getLsbD j = false := by
    rw [BitVec.getLsbD_shiftLeft]
    simp
    omega
  rw [BitVec.getLsbD_and, BitVec.getLsbD_not, hbit]
  simp [hj]

/-- After the condition a charge may start: what the fault left stays otherwise. -/
theorem State.cleared_keeps {α : Type} (π : Plp → α) (h : ∀ (p : Plp) a b, π { p with eFull := a, eAvail := b } = π p)
    (hs : ∀ (p : Plp) a, π { p with state := a } = π p) (u : State) (c : Prop) [Decidable c] :
    π (if c then u.startCharge else u).plp = π u.plp := by
  split
  · exact State.startCharge_keeps π h hs u
  · rfl

end

/-! ### O23 -/

/-- Settles O23, clause by clause: the bank's state follows the happening, and the limit follows the bank. -/
theorem holdUpBank : Obligations.HoldUpBank := by
  unfold Obligations.HoldUpBank
  refine ⟨⟨?enable, ?enableFaulty, ?precharge, ?full, ?fault, ?retry, ?limit, ?iso⟩, ?starts, ?waits, ?judged, ?void, ?clear⟩
  case enable =>
    intro s hlive hoff hlast hhold
    have hexec := exec_chargeEnable hlive hoff
    rw [if_neg (not_or.mpr ⟨not_not.mpr hlast, hhold⟩)] at hexec
    obtain ⟨hstate, hlimit, hout⟩ := (s.setPlp (fun p => { p with chgEn := true })).startCharge_bank
    refine ⟨_, hexec, State.startCharge_keeps Plp.chgEn (fun _ _ _ => rfl) (fun _ _ => rfl) _, hstate, hlimit.trans ?_, hout,
      ((State.startCharge_changes _).step rfl ((State.setPlp_changes ..).step rfl (.refl _ s)) : Changes [.evr, .land, .plp, .ports, .out] s _).mono rfl⟩
    rw [State.limitAt_congr (s := s) rfl rfl rfl]
    rfl
  case enableFaulty =>
    intro s hlive hoff hlast
    have hexec := exec_chargeEnable hlive hoff
    rw [if_pos (.inl hlast)] at hexec
    exact hexec
  case precharge =>
    intro s hlive h
    exact exec_prechargeEnd hlive h
  case full =>
    intro s hlive h hdue
    have hc : Changes [.evr, .land, .plp, .ports] s s.fullBank.recompute := (State.recompute_changes _).step rfl (s.fullBank_changes.mono rfl)
    have hkeep {α : Type} (π : Plp → α) (hπ : ∀ (p : Plp) a b, π { p with eFull := a, eAvail := b } = π p) :
        π s.fullBank.recompute.gates.plp = π s.fullBank.plp := by rw [State.gates_plp, State.recompute_bank π hπ]
    have hstate := hkeep Plp.state (fun _ _ _ => rfl)
    have hcap := hkeep Plp.capSense (fun _ _ _ => rfl)
    have hact := hkeep Plp.active (fun _ _ _ => rfl)
    have hiso := hkeep Plp.isoClosed (fun _ _ _ => rfl)
    have hdis := hkeep Plp.disClosed (fun _ _ _ => rfl)
    rw [s.fullBank_plp] at hstate hcap hact hiso hdis
    refine ⟨_, exec_bankFullCharge hlive h hdue, hstate, hcap, hact, ?_, ?_, ?_, ?_, ((State.gates_changes _).step rfl (hc.mono rfl) :
      Changes [.evr, .land, .plp, .ports, .out] s _).mono rfl⟩
    · rw [State.gates_land, State.recompute_limit, s.fullBank_limitNow]
      rfl
    · rw [State.gates_land, State.recompute_limit, State.recompute_wt]
    · rw [State.gates_land, State.recompute_lines, s.fullBank_changes.rest .land (by decide)]
    · rw [State.gates_plp] at hstate hiso hdis
      rw [State.gates_out, hstate, hiso, hdis, hc.rest .out (by decide)]
      rfl
  case fault =>
    intro i k pins s hlive hi ha
    have hc : Changes [.evr, .land, .plp, .ports] s (s.faultDeclared k pins).recompute :=
      (State.recompute_changes _).step rfl ((s.faultDeclared_changes k pins).mono rfl)
    have hkeep {α : Type} (π : Plp → α) (hπ : ∀ (p : Plp) a b, π { p with eFull := a, eAvail := b } = π p) :
        π (s.faultDeclared k pins).recompute.plp = π (s.faultDeclared k pins).plp := State.recompute_bank π hπ _
    have hstate := hkeep Plp.state (fun _ _ _ => rfl)
    have hact := hkeep Plp.active (fun _ _ _ => rfl)
    have hfaults := hkeep Plp.faults (fun _ _ _ => rfl)
    have hiso := hkeep Plp.isoClosed (fun _ _ _ => rfl)
    have hdis := hkeep Plp.disClosed (fun _ _ _ => rfl)
    rw [s.faultDeclared_plp] at hstate hact hfaults hiso hdis
    have hlimit : (s.faultDeclared k pins).limitNow = 0 := by
      rw [State.limitNow, s.faultDeclared_plp]
      exact if_pos (.inr (.inl rfl))
    refine ⟨_, (exec_bankFault hlive hi).trans (congrArg _ (State.bankFault_eq ha pins)), hstate, ?_, ?_, ?_, ?_, ?_, ?_,
      ((State.gates_changes _).step rfl (hc.mono rfl) : Changes [.evr, .land, .plp, .ports, .out] s _).mono rfl⟩
    · rw [State.gates_plp, hact, faultBit_set]
    · rw [State.gates_plp, hfaults, faultBit_set]
    · rw [State.gates_land, State.recompute_limit, hlimit]
    · rw [State.gates_land, State.recompute_wt, hlimit]
      rfl
    · rw [State.gates_land, State.recompute_lines, (s.faultDeclared_changes k pins).rest .land (by decide)]
    · rw [State.gates_out, hstate, hiso, hdis, hc.rest .out (by decide)]
      rfl
  case retry =>
    intro s hlive hs ha he
    obtain ⟨hstate, hlimit, -⟩ := s.startCharge_bank
    rw [if_pos (by rw [ha]; decide)] at hlimit
    exact ⟨_, exec_chargeRetry hlive hs ha he, hstate, hlimit,
      (State.startCharge_keeps Plp.active (fun _ _ _ => rfl) (fun _ _ => rfl) s).trans ha, s.startCharge_changes.mono rfl⟩
  case limit =>
    intro v s hlive hs ha
    have hhold : s.plp.state ≠ .holding := by rcases hs with h | h | h <;> rw [h] <;> decide
    let u := s.setPlp (fun p => { p with capSense := BitVec.ofNat 16 v })
    have hnow : u.limitNow = s.limitAt (if s.plp.state = .full then 3500 else (BitVec.ofNat 16 v).toInt) := by
      have hat (x : Int) : u.limitAt x = s.limitAt x := State.limitAt_congr rfl rfl rfl x
      have htop : u.plp.vTop = if s.plp.state = .full then 3500 else (BitVec.ofNat 16 v).toInt := by
        have hstate : u.plp.state = s.plp.state := rfl
        rw [Plp.vTop, hstate]
        rcases hs with h | h | h <;> rw [h] <;> rfl
      have hon : ¬ (u.plp.active ≠ 0 ∨ u.plp.state = .fault ∨ u.plp.state = .off) := by
        have hactive : u.plp.active = 0 := ha
        have hstate : u.plp.state = s.plp.state := rfl
        rw [hactive, hstate]
        rcases hs with h | h | h <;> rw [h] <;> simp
      rw [State.limitNow, if_neg hon, htop, hat]
    refine ⟨_, exec_landingLimitRecompute hlive hhold v, State.recompute_bank Plp.capSense (fun _ _ _ => rfl) u,
      (State.recompute_limit u).trans hnow, ?_, State.recompute_lines u,
      ((State.recompute_changes u).step rfl ((State.setPlp_changes ..).step rfl (.refl _ s)) : Changes [.evr, .land, .plp, .ports] s _).mono rfl⟩
    rw [State.recompute_wt u, State.recompute_limit u]
  case iso =>
    intro s h1 h2 h3
    exact ⟨_, exec_huIsoClose h1 h2 h3, rfl, rfl, ((State.gates_changes _).step rfl ((State.setPlp_changes ..).step rfl (.refl _ s)) :
      Changes [.plp, .out] s _)⟩
  case starts =>
    intro s hlive hs hps ha
    let u := s.setPlp (fun p => { p with due := max 1 p.due })
    have hc : Changes [.evr, .land, .plp, .ports] s u.testBegins.recompute := (State.recompute_changes _).step rfl
      ((State.setPlp_changes ..).step rfl ((State.setPlp_changes ..).step rfl (.refl _ s)))
    have hstate : u.testBegins.recompute.plp.state = .testing := State.recompute_bank Plp.state (fun _ _ _ => rfl) _
    have hdue : u.testBegins.recompute.plp.due = max 1 s.plp.due - 1 := State.recompute_bank Plp.due (fun _ _ _ => rfl) _
    have hout : u.testBegins.recompute.out = s.out := hc.rest .out (by decide)
    refine ⟨_, exec_bankTestDue_starts hlive hs hps, hstate, hdue.trans (by omega), rfl, rfl, ?_, ?_,
      ((State.gates_changes _).step rfl ((State.setPlp_changes ..).step rfl (hc.mono rfl)) : Changes [.evr, .land, .plp, .ports, .out] s _).mono rfl⟩
    · refine (State.recompute_limit u.testBegins).trans ((State.testBegins_limitNow u ha).trans ?_)
      exact State.limitAt_congr rfl rfl rfl _
    · have hnew : (u.startTest).out = u.testBegins.recompute.out ++ [.gates false true
        (u.testBegins.recompute.plp.state == .precharge || u.testBegins.recompute.plp.state == .boost)] := rfl
      rw [hnew, hout, hstate]
      rfl
  case waits =>
    intro s hlive h
    exact exec_bankTestDue_waits hlive h
  case judged =>
    intro m s hlive hs hfall hcap
    have hexec := exec_bankTestEnd hlive hs (m := m) (.inr hcap)
    rw [if_neg (Nat.not_lt.mpr hfall)] at hexec
    have hj := (s.testLeft m).judgeTest_measured m
    have hm : Changes [.evr, .land, .plp, .ports, .out] s ((s.testLeft m).testMeasured m).recompute :=
      (State.recompute_changes _).step rfl ((State.setPlp_changes ..).step rfl ((s.testLeft_changes m).mono rfl))
    have hplp : ((s.testLeft m).judgeTest m).plp = ((s.testLeft m).testMeasured m).recompute.plp := hj.rest .plp (by decide)
    have hkeep {α : Type} (π : Plp → α) (hπ : ∀ (p : Plp) a b, π { p with eFull := a, eAvail := b } = π p) :
        π ((s.testLeft m).judgeTest m).plp = π ((s.testLeft m).testMeasured m).plp := by rw [hplp, State.recompute_bank π hπ]
    have hmeas := hkeep Plp.meas (fun _ _ _ => rfl)
    have hinit : ((s.testLeft m).judgeTest m).plp.cInit = some (s.plp.cInitAfter m) := hkeep Plp.cInit (fun _ _ _ => rfl)
    have hfail : ((s.testLeft m).judgeTest m).plp.testFail = (testReason m (s.plp.cInitAfter m)).isSome := hkeep Plp.testFail (fun _ _ _ => rfl)
    have hsense := hkeep Plp.capSense (fun _ _ _ => rfl)
    refine ⟨_, hexec, hkeep Plp.state (fun _ _ _ => rfl), hkeep Plp.isoClosed (fun _ _ _ => rfl), hkeep Plp.disClosed (fun _ _ _ => rfl),
      hmeas, hkeep Plp.tested (fun _ _ _ => rfl), hkeep Plp.lastTest (fun _ _ _ => rfl), ?_, ?_, ?_,
      (Changes.step hj rfl hm).mono rfl⟩
    · intro c0 h0 hreset
      have hafter : s.plp.cInitAfter m = c0 := by simp [Plp.cInitAfter, h0, hreset]
      rw [hinit, hfail, hafter]
      exact ⟨rfl, testReason_isSome m c0⟩
    · intro h
      have hafter : s.plp.cInitAfter m = m.cMeas := by
        rw [Plp.cInitAfter]
        rcases h with h | h
        · rw [h]
        · rw [h]
          split
          · rfl
          · rfl
      rw [hinit, hafter]
    · have hland : ((s.testLeft m).judgeTest m).land = ((s.testLeft m).testMeasured m).recompute.land := hj.rest .land (by decide)
      have hat (v : Int) : ((s.testLeft m).judgeTest m).limitAt v = ((s.testLeft m).testMeasured m).limitAt v :=
        State.limitAt_congr ((hj.rest .media (by decide)).trans ((State.recompute_changes _).rest .media (by decide)))
          ((hj.rest .dict (by decide)).trans ((State.recompute_changes _).rest .dict (by decide))) hmeas v
      rw [hland, State.recompute_limit, State.testMeasured_limitNow rfl, hat, hsense]
      rfl
  case void =>
    intro m s hlive hs hfall
    have hexec := exec_bankTestEnd hlive hs (m := m) (.inl hfall)
    rw [if_pos hfall] at hexec
    have hkeep {α : Type} (π : Plp → α) (hπ : ∀ (p : Plp) a b, π { p with eFull := a, eAvail := b } = π p) :
        π (s.testLeft m).recompute.plp = π (s.testLeft m).plp := State.recompute_bank π hπ _
    exact ⟨_, hexec, hkeep Plp.state (fun _ _ _ => rfl), hkeep Plp.meas (fun _ _ _ => rfl), hkeep Plp.testFail (fun _ _ _ => rfl),
      hkeep Plp.cInit (fun _ _ _ => rfl),
      ((State.recompute_changes _).step rfl ((s.testLeft_changes m).mono rfl) : Changes [.evr, .land, .plp, .ports, .out] s _).mono rfl⟩
  case clear =>
    intro k s hlive hk ha
    let u := s.faultGone k
    have hkeep {α : Type} (π : Plp → α) (h : ∀ (p : Plp) a b, π { p with eFull := a, eAvail := b } = π p)
        (hs : ∀ (p : Plp) a, π { p with state := a } = π p) := State.cleared_keeps π h hs u (u.plp.active = 0 ∧ u.plp.chgEn = true)
    have hact := hkeep Plp.active (fun _ _ _ => rfl) (fun _ _ => rfl)
    have hfaults := hkeep Plp.faults (fun _ _ _ => rfl) (fun _ _ => rfl)
    have hdue := hkeep Plp.due (fun _ _ _ => rfl) (fun _ _ => rfl)
    have hplp := s.faultGone_plp k
    refine ⟨_, exec_bankFaultClear hlive hk ha, ?_, ?_, ?_, ?_, ?_, ?_, ?_⟩
    · rw [hact, hplp, faultBit_cleared]
    · intro j hj hjk
      rw [hact, hplp, faultBit_others _ _ hj hjk]
    · rw [hfaults, hplp]
    · rw [hdue, hplp]
    · intro h0 hen
      have hgo : u.plp.active = 0 ∧ u.plp.chgEn = true := ⟨hact.symm.trans h0, by rw [hplp]; exact hen⟩
      obtain ⟨hstate, hlimit, -⟩ := u.startCharge_bank
      rw [if_neg (not_not.mpr hgo.1)] at hlimit
      rw [if_pos hgo]
      refine ⟨hstate.trans (by rw [hplp]; rfl), hlimit.trans ?_⟩
      have hcap : u.plp.capSense = s.plp.capSense := by rw [hplp]
      rw [hcap]
      exact State.limitAt_congr ((s.faultGone_changes k).rest .media (by decide)) ((s.faultGone_changes k).rest .dict (by decide))
        (by rw [hplp]) _
    · intro h0
      have hno : ¬ (u.plp.active = 0 ∧ u.plp.chgEn = true) := fun h => h0 (hact.trans h.1)
      rw [if_neg hno]
      exact ⟨by rw [hplp], State.log_evr_congr rfl rfl rfl _ _ _⟩
    · have hu : Changes [.plp, .land, .ports, .evr, .out] s u := (s.faultGone_changes k).mono rfl
      split
      · exact (State.startCharge_changes u).step rfl hu
      · exact hu

end Sys2Proof.Machine
end

section
/-! The statement of chapter 14 about entries to a power state (R447, R450 to R457). -/

namespace Sys2Proof.Machine

open Sys2Proof

section
variable {s : State} {e : PsEntry}

/-! ### APST (R456, R457) -/

/-- The device follows its controllers to an operational state at once. -/
theorem State.followPs_operational (h : s.devicePs < 3) (apst : Bool) (p : Fin 2) :
    (s.followPs apst p).pws.ps = s.devicePs ∧ (s.followPs apst p).pws.entry = s.pws.entry := by
  simp only [State.followPs, if_pos h]
  rw [(State.tryTest_changes _).rest .pws (by decide)]
  exact ⟨rfl, rfl⟩

/-- It begins an entry to a deeper state that no controller holds it from. -/
theorem State.followPs_enters (h3 : 3 ≤ s.devicePs) (he : s.pws.entry = none) (hps : s.pws.ps < s.devicePs) (apst : Bool) (p : Fin 2) :
    (s.followPs apst p).pws = { s.pws with entry := some { target := s.devicePs, phase := 1, apst := apst, port := p } } := by
  have hgo : ¬ (s.pws.entry.isSome = true ∨ s.devicePs ≤ s.pws.ps) := by
    rw [he]
    exact not_or.mpr ⟨Bool.false_ne_true, Nat.not_le.mpr hps⟩
  have hc (u : State) : Changes [.land, .media, .out] u u.dispatchAll.copiesGo :=
    (State.copiesGo_changes _).step rfl (State.dispatchAll_changes u)
  simp only [State.followPs, if_neg (Nat.not_lt.mpr h3), if_neg hgo, State.beginEntry]
  rw [(hc _).rest .pws (by decide)]
  rfl

theorem exec_apstIdleExpire {p : Fin 2} {tg : Nat} (hp : s.phase = .running) (hparam : s.param 0x7000 3 ≠ 1) (hport : p ∈ s.portList)
    (hidle : s.idle p = true) (he : s.pws.entry = none) (ht : (s.ctrl p).apstTarget = some tg) :
    exec (.apstIdleExpire p) s = .next ((s.setCtrl p (fun c => { c with ps := tg })).followPs true p) := by
  have hgo : ¬ ((!(s.phase == .running)) = true ∨ s.param 0x7000 3 = 1 ∨ (!(s.portList.contains p)) = true ∨ (!s.idle p) = true ∨
      s.pws.entry.isSome = true) := by
    rw [hp, hidle, he, List.contains_iff_mem.mpr hport]
    simp [hparam]
  change execApstIdleExpire p s = _
  rw [execApstIdleExpire, State.apstIdle, if_neg hgo, ht]

theorem State.devicePs_single (h : s.dual = false) : s.devicePs = (s.ctrl 0).ps := by simp [State.devicePs, h]

theorem State.devicePs_dual (h : s.dual = true) {p q : Fin 2} (hq : q ≠ p) : s.devicePs = min (s.ctrl p).ps (s.ctrl q).ps := by
  rw [State.devicePs, if_pos h]
  have hcase : (p = 0 ∧ q = 1) ∨ (p = 1 ∧ q = 0) := by omega
  rcases hcase with ⟨rfl, rfl⟩ | ⟨rfl, rfl⟩
  · rfl
  · exact min_comm _ _

/-! ### Preparation (R450) -/

theorem exec_psPreparationDone (hlive : s.live = true) : exec (.psPreparationDone false) s = .next (s.prepDone false) := by
  change execPsPreparationDone false s = _
  rw [execPsPreparationDone, State.whenLive_live hlive]

/-- The handshake of an entry goes out. -/
def State.handshaken (s : State) (target : Nat) : State :=
  ((s.finishPrep target).setEntry (fun e => { e with phase := 2 })).emit (.handshake target)

/-- The full checkpoint of an entry has begun. -/
def State.entryCkpt (s : State) : State := s.checkpoint.setEntry (fun e => { e with ckpt := true })

theorem State.prepDone_waits (he : s.pws.entry = some e) (h : s.prepared = false ∨ (e.ckpt = true ∧ s.media.ckptDue ≠ none)) :
    s.prepDone false = s := by
  have hbegin : ¬ (e.phase = 1 ∧ (!e.ckpt) = true ∧ s.prepared = true) := by
    rcases h with h | ⟨h, -⟩ <;> simp [h]
  have hwait : e.phase ≠ 1 ∨ (!s.prepared) = true ∨ s.media.ckptDue.isSome = true := by
    rcases h with h | ⟨-, h⟩
    · exact .inr (.inl (by rw [h]; rfl))
    · exact .inr (.inr (Option.isSome_iff_ne_none.mpr h))
  simp only [State.prepDone, he, if_neg hbegin, if_pos hwait]

theorem State.prepDone_handshake (he : s.pws.entry = some e) (h1 : e.phase = 1) (hc : e.ckpt = true) (hp : s.prepared = true)
    (hd : s.media.ckptDue = none) : s.prepDone false = s.handshaken e.target := by
  have hbegin : ¬ (e.phase = 1 ∧ (!e.ckpt) = true ∧ s.prepared = true) := by simp [hc]
  have hgo : ¬ (e.phase ≠ 1 ∨ (!s.prepared) = true ∨ s.media.ckptDue.isSome = true) := by simp [h1, hp, hd]
  simp only [State.prepDone, he, if_neg hbegin, if_neg hgo, Bool.false_eq_true, if_false]
  rfl

/-- The first time that the landing buffer is drained the checkpoint begins, and the entry goes on from there. -/
theorem State.prepDone_begins (he : s.pws.entry = some e) (h1 : e.phase = 1) (hc : e.ckpt = false) (hp : s.prepared = true) :
    s.prepDone false = if (!s.entryCkpt.prepared) = true ∨ s.entryCkpt.media.ckptDue.isSome = true then s.entryCkpt
      else s.entryCkpt.handshaken e.target := by
  have hbegin : e.phase = 1 ∧ (!e.ckpt) = true ∧ s.prepared = true := ⟨h1, by rw [hc]; rfl, hp⟩
  simp only [State.prepDone, he, if_pos hbegin, Bool.false_eq_true, if_false]
  simp only [h1, ne_eq, not_true_eq_false, false_or]
  rfl

theorem State.finishPrep_pws (s : State) (target : Nat) :
    (s.finishPrep target).pws = { s.pws with rest := if target = 4 then some s.cmq.ctrls else s.pws.rest } := by
  simp only [State.finishPrep]
  split
  · rw [(State.suppSummary_changes _).rest .pws (by decide)]
    rfl
  · rfl

theorem State.handshaken_pws (he : s.pws.entry = some e) (target : Nat) : (s.handshaken target).pws =
    { s.pws with rest := if target = 4 then some s.cmq.ctrls else s.pws.rest, entry := some { e with phase := 2 } } := by
  have h : (s.handshaken target).pws = { (s.finishPrep target).pws with
    entry := (s.finishPrep target).pws.entry.map (fun e => { e with phase := 2 }) } := rfl
  rw [h, s.finishPrep_pws]
  simp only [he, Option.map_some]

theorem State.handshaken_out (s : State) (target : Nat) : (s.handshaken target).out = s.out ++ [.handshake target] :=
  congrArg (· ++ [Output.handshake target]) ((s.finishPrep_changes target).rest .out (by decide))

theorem State.handshaken_media (s : State) (target : Nat) : (s.handshaken target).media = s.media :=
  (s.finishPrep_changes target).rest .media (by decide)

theorem State.entryCkpt_eq (he : s.pws.entry = some e) :
    s.entryCkpt = { s.checkpoint with pws := { s.pws with entry := some { e with ckpt := true } } } := by
  have hpws : s.checkpoint.pws = s.pws := s.checkpoint_changes.rest .pws (by decide)
  rw [State.entryCkpt, State.setEntry, State.setPws, hpws]
  simp only [he, Option.map_some]

/-! ### The handshake (R451 to R453) -/

theorem exec_domainAnswer (hlive : s.live = true) (d : Fin 4) (a : Answer) : exec (.domainAnswer d a) s = .next (s.domainAnswers d a) := by
  change execDomainAnswer d a s = _
  rw [execDomainAnswer, State.whenLive_live hlive]

/-- A domain's answer is noted in the entry. -/
def State.answered (s : State) (e : PsEntry) (d : Fin 4) (v : BitVec 2) : State :=
  { s with pws := { s.pws with entry := some { e with answers := e.answers.upd d (fun _ => v) } } }

theorem State.setEntry_answers (he : s.pws.entry = some e) (d : Fin 4) (v : BitVec 2) :
    s.setEntry (fun e => { e with answers := e.answers.upd d (fun _ => v) }) = s.answered e d v := by
  simp only [State.setEntry, State.setPws, he, Option.map_some]
  rfl

section
variable (he : s.pws.entry = some e) (h2 : e.phase = 2)
include he h2

theorem State.domainAnswers_refuses {d : Fin 4} {a : Answer} {r : Nat} (h : s.domainRefuses d e.target = some r ∨
    (s.domainRefuses d e.target = none ∧ ∃ b : Byte, a = .refuse b ∧ r = b.toNat)) :
    s.domainAnswers d a = (s.answered e d 2).abandonEntry d.val r := by
  have hphase : ¬ e.phase ≠ 2 := not_not.mpr h2
  rcases h with h | ⟨h, b, rfl, rfl⟩
  · simp only [State.domainAnswers, he, if_neg hphase, h, s.setEntry_answers he]
  · simp only [State.domainAnswers, he, if_neg hphase, h, s.setEntry_answers he]

theorem State.domainAnswers_delay {d : Fin 4} (h : s.domainRefuses d e.target = none) : s.domainAnswers d .delay = s.answered e d 3 := by
  have hphase : ¬ e.phase ≠ 2 := not_not.mpr h2
  simp only [State.domainAnswers, he, if_neg hphase, h, s.setEntry_answers he]

theorem State.domainAnswers_agree {d : Fin 4} (h : s.domainRefuses d e.target = none) : s.domainAnswers d .agree =
    if (List.finRange 4).all (fun k => decide (k = d) || decide (e.answers[k] = 1)) then (s.answered e d 1).commitEntry e.target
    else s.answered e d 1 := by
  have hphase : ¬ e.phase ≠ 2 := not_not.mpr h2
  simp only [State.domainAnswers, he, if_neg hphase, h, s.setEntry_answers he]

theorem exec_domainDelayExpire (hlive : s.live = true) {d : Fin 4} (h3 : e.answers[d] = 3) :
    exec (.domainDelayExpire d) s = .next ((s.answered e d 2).abandonEntry d.val 0xFF) := by
  change execDomainDelayExpire d s = _
  rw [execDomainDelayExpire, State.whenLive_live hlive, State.delayExpires]
  simp only [he]
  rw [if_pos ⟨h2, h3⟩, State.setEntry_answers he]

end

theorem allAgree_iff (e : PsEntry) (d : Fin 4) :
    (List.finRange 4).all (fun k => decide (k = d) || decide (e.answers[k] = 1)) = true ↔ ∀ k : Fin 4, k ≠ d → e.answers[k] = 1 := by
  simp only [List.all_eq_true, List.mem_finRange, true_implies, Bool.or_eq_true, decide_eq_true_eq, or_iff_not_imp_left, ne_eq]

/-! ### The commit (R453) -/

/-- What every commit does, before the target decides what rests. -/
def State.entryTaken (s : State) (target : Nat) : State :=
  (s.persistAll.setPws (fun w => { w with ps := target, entry := none, gated := [] })).resetErases.linksRest

theorem State.entryTaken_changes (s : State) (target : Nat) :
    Changes [.media, .out, .ports] (s.persistAll.setPws (fun w => { w with ps := target, entry := none, gated := [] })) (s.entryTaken target) :=
  (State.linksRest_changes _).step rfl ((State.resetErases_changes _).mono rfl)

theorem State.entryTaken_link {p : Fin 2} (h : s.ports[p].link = .l0) (target : Nat) : (s.entryTaken target).ports[p].link = .l1 := by
  have hports : (s.entryTaken target).ports = s.ports.all PcPort.rest := by
    have h := (State.resetErases_changes (s.persistAll.setPws (fun w => { w with ps := target, entry := none, gated := [] }))).rest .ports
      (by decide)
    exact (congrArg (fun v : Tbl 2 PcPort => v.all PcPort.rest) h :)
  have hrest (q : PcPort) (hq : q.link = .l0) : q.rest.link = .l1 := by simp [PcPort.rest, hq]
  rw [hports, Tbl.all_get]
  exact hrest _ h

/-- DRAM in self-refresh. -/
def State.dramRests (s : State) : State :=
  s.flushAllChecks.setDram (fun d => { d with selfRefresh := true, masked := if d.degraded then 0 else 0x80 })

/-- The auxiliary domain alone runs. -/
def State.deepRested (s : State) : State :=
  { s with
    phase := .deepRest
    plp := { s.plp with state := .off, disClosed := false }
    sec := { s.sec with kpio := [], keysHeld := false, sessions := [] } }

theorem State.commitEntry_eq (s : State) (target : Nat) : s.commitEntry target =
    if target = 3 then (s.entryTaken target).dramRests else (s.entryTaken target).deepRested.gates.enablesFall := rfl

theorem State.dramRests_changes (s : State) : Changes [.dram, .out] s s.dramRests :=
  (State.setDram_changes ..).step rfl (State.flushAllChecks_changes s)

/-- Whatever rests keeps what the commit has taken. -/
theorem State.commitEntry_keeps {α : Type} (π : State → α) (hdram : ∀ u : State, π u.dramRests = π u)
    (hrest : ∀ u : State, π u.deepRested.gates.enablesFall = π u) (s : State) (target : Nat) :
    π (s.commitEntry target) = π (s.entryTaken target) := by
  rw [State.commitEntry_eq]
  split
  · exact hdram _
  · exact hrest _

theorem State.entryTaken_pws (s : State) (target : Nat) :
    (s.entryTaken target).pws = { s.pws with ps := target, entry := none, gated := [] } :=
  (s.entryTaken_changes target).rest .pws (by decide)

/-- A committed entry: its target holds, nothing is gated, what must survive is persisted, and the links rest (R361, R450, R453). -/
theorem State.commitEntry_taken (s : State) (target : Nat) : (s.commitEntry target).pws.ps = target ∧
    (s.commitEntry target).pws.entry = none ∧ (s.commitEntry target).pws.gated = [] ∧
    (s.commitEntry target).clocks.opsecP = s.clocks.opsec ∧
    (∀ g : Fin 16, (s.commitEntry target).vault.pages[g].nonceP = s.vault.pages[g].nonce) ∧
    (∀ p : Fin 2, s.ports[p].link = .l0 → (s.commitEntry target).ports[p].link = .l1) := by
  have hpws {α : Type} (π : Pws → α) (h : ∀ (w : Pws) a b c d e f,
      π { w with enVcore := a, enNand := b, en1v8 := c, pgVcore := d, pgNand := e, pg1v8 := f } = π w) :
      π (s.commitEntry target).pws = π { s.pws with ps := target, entry := none, gated := [] } := by
    rw [s.commitEntry_keeps (fun u => π u.pws) (fun u => by rw [u.dramRests_changes.rest .pws (by decide)]) (fun u => h _ _ _ _ _ _ _),
      s.entryTaken_pws]
  have hclocks : (s.commitEntry target).clocks = s.persistAll.clocks :=
    (s.commitEntry_keeps State.clocks (fun u => u.dramRests_changes.rest .clocks (by decide)) (fun _ => rfl) target).trans
      ((s.entryTaken_changes target).rest .clocks (by decide))
  have hvault : (s.commitEntry target).vault = s.persistAll.vault :=
    (s.commitEntry_keeps State.vault (fun u => u.dramRests_changes.rest .vault (by decide)) (fun _ => rfl) target).trans
      ((s.entryTaken_changes target).rest .vault (by decide))
  have hports : (s.commitEntry target).ports = (s.entryTaken target).ports :=
    s.commitEntry_keeps State.ports (fun u => u.dramRests_changes.rest .ports (by decide)) (fun _ => rfl) target
  refine ⟨hpws Pws.ps (fun _ _ _ _ _ _ _ => rfl), hpws Pws.entry (fun _ _ _ _ _ _ _ => rfl), hpws Pws.gated (fun _ _ _ _ _ _ _ => rfl), ?_,
    fun g => ?_, fun p hp => ?_⟩
  · rw [hclocks]
    rfl
  · rw [hvault]
    exact congrArg VaultPage.nonceP (Tbl.all_get ..)
  · rw [hports, State.entryTaken_link hp]

/-- PS3: DRAM is in self-refresh, and the part runs on (R333). -/
theorem State.commitEntry_three (s : State) : (s.commitEntry 3).dram.selfRefresh = true ∧ (s.commitEntry 3).phase = s.phase ∧
    (s.commitEntry 3).sec = s.sec := by
  have h : Changes [.dram, .out] (s.entryTaken 3) (s.commitEntry 3) := State.dramRests_changes _
  exact ⟨rfl, (h.rest .phase (by decide)).trans ((s.entryTaken_changes 3).rest .phase (by decide)),
    (h.rest .sec (by decide)).trans ((s.entryTaken_changes 3).rest .sec (by decide))⟩

/-- Deep Rest: only the auxiliary domain has power, and the keys are gone (R459). -/
theorem State.commitEntry_four (s : State) : (s.commitEntry 4).phase = .deepRest ∧ (s.commitEntry 4).pws.enVcore = false ∧
    (s.commitEntry 4).pws.enNand = false ∧ (s.commitEntry 4).pws.en1v8 = false ∧ (s.commitEntry 4).sec.keysHeld = false ∧
    (s.commitEntry 4).sec.kpio = [] ∧ (s.commitEntry 4).plp.state = .off := ⟨rfl, rfl, rfl, rfl, rfl, rfl, rfl⟩

/-! ### An entry that is abandoned (R454) -/

/-- What an abandoned entry leaves in the power states. -/
def State.entryLeft (s : State) (e : PsEntry) (domain reason : Nat) : State :=
  s.setPws (fun w => { w with
    entry := none, hsAnswers := BitVec.ofNat 8 e.packed, hsReason := BitVec.ofNat 8 reason
    hsTarget := BitVec.ofNat 3 e.target, hsDomain := BitVec.ofNat 8 domain
    abandons := satInc w.abandons, abandonTotal := w.abandonTotal + 1 })

theorem State.abandonEntry_eq (he : s.pws.entry = some e) (hps : s.pws.ps ≠ 3) (domain reason : Nat) : s.abandonEntry domain reason =
    ((s.entryLeft e domain reason).operationalAll.log 0x2301 0x20
      (leBytes 1 e.target ++ leBytes 1 domain ++ leBytes 1 reason ++ leBytes 1 e.packed)).pumpAll := by
  have hps' : ¬ (s.entryLeft e domain reason).pws.ps = 3 := hps
  simp only [State.abandonEntry, he]
  exact congrArg (fun u : State => (u.log 0x2301 0x20 (leBytes 1 e.target ++ leBytes 1 domain ++ leBytes 1 reason ++ leBytes 1 e.packed)).pumpAll)
    (if_neg hps')

/-- The controllers and the power states are as the return to the operational states left them. -/
theorem State.abandonEntry_left (he : s.pws.entry = some e) (hps : s.pws.ps ≠ 3) (domain reason : Nat) :
    Changes [.evr, .media, .out] (s.entryLeft e domain reason).operationalAll (s.abandonEntry domain reason) := by
  rw [State.abandonEntry_eq he hps]
  exact (State.pumpAll_changes _).step rfl ((State.log_changes ..).step rfl (.refl _ _))

/-! ### Idle units (R447) -/

theorem exec_unitPowerGate_gates (hlive : s.live = true) {sl : Fin 8} {unit : Nat}
    (h : (s.pws.ps = 1 ∧ unit < 3) ∨ (s.pws.ps = 2 ∧ unit < 7)) (hnew : (sl.val, unit) ∉ s.pws.gated) :
    exec (.unitPowerGate sl unit) s = .next { s with pws := { s.pws with gated := s.pws.gated ++ [(sl.val, unit)] } } := by
  have h7 : unit ≠ 7 := by omega
  have hgates : gates s.pws.ps unit = true := by
    rcases h with ⟨h1, h2⟩ | ⟨h1, h2⟩
    · simp [gates, h1, h2]
    · simp [gates, h1, Nat.lt_succ_of_lt h2]
  have hgo : ¬ ((!gates s.pws.ps unit) = true ∨ (unit = 7 ∧ s.dual = true)) := by simp [hgates, h7]
  have hnew' : ¬ s.pws.gated.contains (sl.val, unit) = true := fun hc => hnew (List.contains_iff_mem.mp hc)
  change execUnitPowerGate sl unit s = _
  rw [execUnitPowerGate, State.whenLive_live hlive, if_neg hgo]
  simp only [if_neg h7, if_neg hnew']
  rfl

theorem exec_unitPowerGate_keeps {sl : Fin 8} {unit : Nat} (h : s.pws.ps = 0 ∨ 2 < s.pws.ps) :
    exec (.unitPowerGate sl unit) s = .next s := by
  have hno : (!gates s.pws.ps unit) = true ∨ (unit = 7 ∧ s.dual = true) := by
    refine .inl ?_
    have h1 : s.pws.ps ≠ 1 := by omega
    have h2 : s.pws.ps ≠ 2 := by omega
    simp [gates, h1, h2]
  change execUnitPowerGate sl unit s = _
  rw [execUnitPowerGate, State.whenLive, if_pos hno]
  split
  · rfl
  · rfl

end

/-! ### O29 -/

/-- Settles O29, clause by clause, as an entry goes from the idle controller to its commit or its end. -/
theorem powerStateEntry : Obligations.PowerStateEntry := by
  unfold Obligations.PowerStateEntry
  refine ⟨?apst, ?handshake, ?begins, ?waits, ?commits, ?agrees, ?delays, ?refuses, ?expires, ?abandoned, ?gated, ?ungated⟩
  case apst =>
    intro p tg s hp hparam hport hidle he ht h3 hps
    let u := s.setCtrl p (fun c => { c with ps := tg })
    have hpsp : (u.ctrl p).ps = tg := congrArg Ctrl.ps (State.setCtrl_ctrl s p _)
    refine ⟨_, exec_apstIdleExpire hp hparam hport hidle he ht, ?_, ?_, ?_⟩
    · rw [State.ctrl, (State.followPs_changes u true p).rest .cmq (by decide)]
      exact hpsp
    · intro hsingle
      have hport0 : p = 0 := by
        rw [State.portList, if_neg (by rw [hsingle]; exact Bool.false_ne_true)] at hport
        exact List.mem_singleton.mp hport
      subst hport0
      have hdev : u.devicePs = tg := (State.devicePs_single (s := u) hsingle).trans hpsp
      have hpws := u.followPs_enters (by omega) he (by rw [hdev]; exact hps) true 0
      rw [hpws, hdev]
      exact ⟨rfl, rfl⟩
    · intro q hdual hq hq3
      have hother : (u.ctrl q).ps = (s.ctrl q).ps := by rw [State.setCtrl_ctrl_ne s hq]
      have hdev : u.devicePs = (s.ctrl q).ps := by
        rw [State.devicePs_dual (s := u) hdual hq, hpsp, hother]
        omega
      obtain ⟨hps', hentry⟩ := u.followPs_operational (by omega) true p
      rw [hps', hentry, hdev]
      exact ⟨he, rfl⟩
  case handshake =>
    intro e s hlive he h1 hp hc hd
    refine ⟨_, (exec_psPreparationDone hlive).trans (congrArg _ (State.prepDone_handshake he h1 hc hp hd)), ?_, s.handshaken_out _,
      s.handshaken_media _, ?_, ?_⟩
    · rw [State.handshaken_pws he]
    · rw [State.handshaken_pws he]
    · rw [State.handshaken_pws he]
  case begins =>
    intro e s hlive he h1 hp hc
    have hckpt := State.entryCkpt_eq he
    have hentry : s.entryCkpt.pws.entry = some { e with ckpt := true } := by rw [hckpt]
    refine ⟨_, (exec_psPreparationDone hlive).trans (congrArg _ (State.prepDone_begins he h1 hc hp)), fun hd => ?_, fun hprep hd => ?_⟩
    · have hd' : s.entryCkpt.media.ckptDue.isSome = true := Option.isSome_iff_ne_none.mpr hd
      rw [if_pos (.inr hd'), hckpt]
    · have hgo : ¬ ((!s.entryCkpt.prepared) = true ∨ s.entryCkpt.media.ckptDue.isSome = true) := by
        have h1 : s.entryCkpt.prepared = true := hprep
        have h2 : s.entryCkpt.media.ckptDue = none := hd
        simp [h1, h2]
      rw [if_neg hgo, State.handshaken_media, State.handshaken_pws hentry, State.handshaken_out]
      exact ⟨rfl, rfl, rfl⟩
  case waits =>
    intro e s hlive he h
    rw [exec_psPreparationDone hlive, State.prepDone_waits he h]
  case commits =>
    intro d e s hlive he h2 hr hall
    have hagree := State.domainAnswers_agree he h2 hr
    rw [if_pos ((allAgree_iff e d).mpr hall)] at hagree
    obtain ⟨hps, hentry, hgated, hopsec, hnonce, hlinks⟩ := (s.answered e d 1).commitEntry_taken e.target
    refine ⟨_, (exec_domainAnswer hlive d .agree).trans (congrArg _ hagree), hps, hentry, hgated, hopsec, hnonce, hlinks, fun h3 => ?_, fun h4 => ?_⟩
    · rw [h3]
      exact (s.answered e d 1).commitEntry_three
    · rw [h4]
      exact (s.answered e d 1).commitEntry_four
  case agrees =>
    intro d k e s hlive he h2 hr hk hno
    have hagree := State.domainAnswers_agree he h2 hr
    rw [if_neg (fun h => hno ((allAgree_iff e d).mp h k hk))] at hagree
    rw [exec_domainAnswer hlive, hagree]
    rfl
  case delays =>
    intro d e s hlive he h2 hr
    rw [exec_domainAnswer hlive, State.domainAnswers_delay he h2 hr]
    rfl
  case refuses =>
    intro d a e r s hlive he h2 h
    rw [exec_domainAnswer hlive, State.domainAnswers_refuses he h2 h]
    rfl
  case expires =>
    intro d e s hlive he h2 h3
    rw [exec_domainDelayExpire he h2 hlive h3]
    rfl
  case abandoned =>
    intro d r e s he hps
    have hc := State.abandonEntry_left he hps d r
    have hpws := hc.rest .pws (by decide)
    have hcmq := hc.rest .cmq (by decide)
    rw [hpws]
    refine ⟨rfl, rfl, rfl, rfl, rfl, fun p hp => ?_, ?_⟩
    · rw [State.ctrl, hcmq]
      exact (congrArg Ctrl.ps (Tbl.all_get s.cmq.ctrls Ctrl.operational p)).trans (congrArg Ctrl.ps (if_pos hp))
    · rw [State.abandonEntry_eq he hps, (State.pumpAll_changes _).rest .evr (by decide)]
      exact State.log_evr_congr rfl rfl rfl _ _ _
  case gated =>
    intro sl unit s hlive h hnew
    exact exec_unitPowerGate_gates hlive h hnew
  case ungated =>
    intro sl unit s h
    exact exec_unitPowerGate_keeps h

end Sys2Proof.Machine
end

section
/-! The statements of chapter 13 about a firmware image's download and commit (R427 to R434). -/

namespace Sys2Proof.Machine

open Sys2Proof

section
variable {s : State} {fseq : Nat} {c : Cmd} {ph : CmdPhase}

/-- A command completes after an effect that touches nothing that decides on its completion. -/
theorem State.Flying.completes_after {u : State} {ps : List Part} (h : s.Flying fseq c ph) (hc : Changes ps s u)
    (hps : ∀ p ∈ [Part.cmq, .ports, .dict, .out], p ∉ ps) (st : Status) (dw0 lba : Nat) :
    State.Completed s.out s (u.complete fseq st dw0 lba) fseq c st dw0 := by
  have hcmq : u.cmq = s.cmq := hc.rest .cmq (hps _ (by simp))
  have hout : u.out = s.out := hc.rest .out (hps _ (by simp))
  have hsame : State.SamePost s u fseq :=
    .of_changes hc (hps _ (by simp)) (hps _ (by simp)) (by rw [hcmq]) (by rw [hcmq])
  have hdone := h.completes_same hsame st dw0 lba
  rwa [hout] at hdone

theorem State.complete_bst (s : State) (fseq : Nat) (st : Status) (dw0 lba : Nat) : (s.complete fseq st dw0 lba).bst = s.bst :=
  (State.complete_changes s fseq st dw0 lba).rest .bst (by decide)

theorem State.setCmd_get (h : s.cmq.cmds.get? fseq = some c) (f : Cmd → Cmd) : (s.setCmd fseq f).cmq.cmds.get? fseq = some (f c) := by
  have hmod := AMap.get?_mod s.cmq.cmds fseq f
  rw [h] at hmod
  exact hmod

/-! ### A refusal (R431) -/

theorem State.noteRefusal_boot (s : State) (src opc : Nat) (st : Status) : (s.noteRefusal src opc st).boot =
    { s.boot with lastRefusal := BitVec.ofNat 16 ((refusalCode st).1 * 256 + (refusalCode st).2) } :=
  (State.log_changes _ _ _ _).rest .boot (by decide)

/-- A refused command completes with the guard's status, and the refusal is recorded. -/
theorem State.refused (h : s.Flying fseq c ph) (src opc : Nat) (st : Status) :
    State.Completed s.out s ((s.noteRefusal src opc st).complete fseq st) fseq c st 0 ∧
      ((s.noteRefusal src opc st).complete fseq st).boot =
        { s.boot with lastRefusal := BitVec.ofNat 16 ((refusalCode st).1 * 256 + (refusalCode st).2) } ∧
      ((s.noteRefusal src opc st).complete fseq st).bst = s.bst := by
  have hc := s.noteRefusal_changes src opc st
  exact ⟨h.completes_after hc (by decide) st 0 0, (State.complete_boot ..).trans (s.noteRefusal_boot src opc st),
    (State.complete_bst ..).trans (hc.rest .bst (by decide))⟩

/-! ### Bytes of the boot store (R427) -/

/-- A byte behind a sector's header is apart from every header. -/
theorem runAddr_not_header (first o x : Nat) : runAddr first o < x * sectorSize ∨ x * sectorSize + 64 ≤ runAddr first o := by
  have hlow : o % 65472 < 65472 := Nat.mod_lt _ (by decide)
  simp only [runAddr, sectorSize]
  rcases Nat.lt_or_ge (first + o / 65472) x with h | h
  · left
    omega
  · right
    omega

theorem runAddr_inj {first o p : Nat} (h : runAddr first o = runAddr first p) : o = p := by
  have ho : o % 65472 < 65472 := Nat.mod_lt _ (by decide)
  have hp : p % 65472 < 65472 := Nat.mod_lt _ (by decide)
  simp only [runAddr, sectorSize] at h
  omega

theorem length_sectorHeader (state area seq crc : Nat) : (sectorHeader state area seq crc).length = 64 := by
  simp [sectorHeader, length_leBytes]

/-- Writing the header of a sector leaves every byte behind a header. -/
theorem memGet_header (m : List Host.Cell) (first o x state area seq crc : Nat) :
    memGet 0xFF (memWrite 0xFF m (x * sectorSize) (sectorHeader state area seq crc)) (runAddr first o) = memGet 0xFF m (runAddr first o) := by
  rw [memGet_memWrite, dif_neg]
  rintro ⟨hle, hlt⟩
  rw [length_sectorHeader] at hlt
  rcases runAddr_not_header first o x with h | h <;> omega

theorem Bst.beginSector_byte (b : Bst) (x first o : Nat) : (b.beginSector x).byte (runAddr first o) = b.byte (runAddr first o) := by
  rw [Bst.beginSector]
  split
  · simp only [Bst.byte, memGet_header]
  · rfl

theorem Bst.sealSector_byte (b : Bst) (x first o : Nat) : (b.sealSector x).byte (runAddr first o) = b.byte (runAddr first o) := by
  rw [Bst.sealSector]
  split
  · rfl
  · simp only [Bst.byte, memGet_header]

/-- What keeps a byte in each step of a fold keeps it over the fold. -/
theorem Bst.foldl_byte {α : Type} (f : Bst → α → Bst) (a : Nat) (hf : ∀ b x, (f b x).byte a = b.byte a) (l : List α) (b : Bst) :
    (l.foldl f b).byte a = b.byte a := by
  induction l generalizing b with
  | nil => rfl
  | cons x xs ih => rw [List.foldl_cons, ih, hf]

theorem Bst.putRun_byte_before (b : Bst) (first o p : Nat) (bs : List Byte) (h : p < o) :
    (b.putRun first o bs).byte (runAddr first p) = b.byte (runAddr first p) := by
  induction bs generalizing b o with
  | nil => rfl
  | cons x xs ih =>
    rw [Bst.putRun, ih _ _ (by omega)]
    exact memGet_memPut_ne _ _ _ _ _ (fun e => absurd (runAddr_inj e) (by omega))

/-- A run that has been programmed is read back. -/
theorem Bst.putRun_byte (b : Bst) (first o : Nat) (bs : List Byte) (i : Nat) (x : Byte) (h : bs[i]? = some x) :
    (b.putRun first o bs).byte (runAddr first (o + i)) = x := by
  induction bs generalizing b o i with
  | nil => simp at h
  | cons y ys ih =>
    rw [Bst.putRun]
    cases i with
    | zero =>
      rw [Bst.putRun_byte_before _ _ _ _ _ (by omega)]
      rw [List.getElem?_cons_zero, Option.some.injEq] at h
      rw [← h]
      exact memGet_memPut ..
    | succ i =>
      rw [List.getElem?_cons_succ] at h
      have hnext := ih { b with mem := memPut 0xFF b.mem (runAddr first o) y } (o + 1) i h
      rwa [show o + 1 + i = o + (i + 1) by omega] at hnext

/-- A piece that has been programmed stands in staging (R427, R430). -/
theorem State.stagePiece_byte (s : State) (ofst : Nat) (bytes : List Byte) (i : Nat) (x : Byte) (h : bytes[i]? = some x) :
    (s.stagePiece ofst bytes).bst.byte (runAddr stagingFirst (ofst + i)) = x := by
  simp only [State.stagePiece]
  rw [Bst.foldl_byte]
  · exact Bst.putRun_byte _ _ _ _ _ _ h
  · intro b k
    split
    · exact Bst.sealSector_byte ..
    · rfl

theorem State.stagePiece_boot (s : State) (ofst : Nat) (bytes : List Byte) : (s.stagePiece ofst bytes).boot =
    { s.boot with staged := s.boot.staged ++ pieceList ofst bytes.length } := rfl

/-! ### Download (R430) -/

theorem exec_firmwareImageDownload (h : s.AdminReady fseq 0x11 c) (ofst : Nat) (bytes : List Byte) :
    exec (.firmwareImageDownload fseq ofst bytes) s = .next (s.download c fseq ofst bytes) :=
  exec_admin h (by decide) (f := fun c s => s.download c fseq ofst bytes) rfl

theorem State.download_refused {st : Status} (hg : s.fwGuard = some st) (ofst : Nat) (bytes : List Byte) :
    s.download c fseq ofst bytes = (s.noteRefusal (s.portSrc c.port) 0x11 st).complete fseq st := by
  rw [State.download, hg]

/-- A download binds staging to its controller when it is the first (R430). -/
def State.stagingBound (s : State) (c : Cmd) : State :=
  if s.boot.covered = [] then (s.setBoot (fun b => { b with bound := some c.port })).log 0x6001 (s.portSrc c.port) else s

/-- A piece is taken. -/
def State.pieceTaken (s : State) (c : Cmd) (fseq ofst : Nat) (bytes : List Byte) : State :=
  ((s.stagingBound c).setBoot (fun b => { b with pieces := b.pieces.put fseq (ofst, bytes) })).setCmd fseq (fun c => { c with phase := .waitData })

theorem State.download_taken {ofst : Nat} {bytes : List Byte} (hg : s.fwGuard = none) (ho : ofst % 4096 = 0) (hl : bytes.length % 4096 = 0)
    (hne : bytes ≠ []) (hend : ofst + bytes.length ≤ 16760832) (hb : s.boot.bound = none ∨ s.boot.bound = some c.port)
    (hnew : ∀ i ∈ pieceList ofst bytes.length, i ∉ s.boot.covered) : s.download c fseq ofst bytes = s.pieceTaken c fseq ofst bytes := by
  have hrange : ¬ (ofst % 4096 ≠ 0 ∨ bytes.length % 4096 ≠ 0 ∨ bytes.length = 0 ∨ 16760832 < ofst + bytes.length) := by
    have := List.length_pos_of_ne_nil hne
    omega
  have hbound : ¬ (s.boot.bound.isSome = true ∧ s.boot.bound ≠ some c.port) := by
    rcases hb with h | h <;> simp [h]
  have hover : ¬ ((pieceList ofst bytes.length).any (fun i => s.boot.covered.contains i)) = true := by
    rw [List.any_eq_true]
    rintro ⟨i, hi, hc⟩
    exact hnew i hi (List.contains_iff_mem.mp hc)
  simp only [State.download, hg, if_neg hrange, if_neg hbound]
  exact if_neg hover

theorem State.stagingBound_changes (s : State) (c : Cmd) : Changes [.evr, .boot] s (s.stagingBound c) := by
  rw [State.stagingBound]
  split
  · exact (State.log_changes ..).step rfl ((State.setBoot_changes ..).step rfl (.refl _ s))
  · exact .refl _ s

theorem State.stagingBound_boot (s : State) (c : Cmd) : (s.stagingBound c).boot =
    if s.boot.covered = [] then { s.boot with bound := some c.port } else s.boot := by
  rw [State.stagingBound]
  split
  · exact (State.log_changes _ _ _ _).rest .boot (by decide)
  · rfl

theorem State.pieceTaken_boot (s : State) (c : Cmd) (ofst : Nat) (bytes : List Byte) : (s.pieceTaken c fseq ofst bytes).boot =
    { (s.stagingBound c).boot with pieces := (s.stagingBound c).boot.pieces.put fseq (ofst, bytes) } := rfl

/-- A piece that was being programmed leaves the list of pieces. -/
def State.pieceLeft (s : State) (fseq : Nat) : State := s.setBoot (fun b => { b with pieces := b.pieces.del fseq })

section
variable {ofst : Nat} {bytes : List Byte} (hlive : s.live = true) (hp : s.boot.pieces.get? fseq = some (ofst, bytes))
include hlive hp

theorem exec_downloadPieceProgrammed_ok :
    exec (.downloadPieceProgrammed fseq true) s = .next (((s.pieceLeft fseq).stagePiece ofst bytes).complete fseq .success) := by
  change execDownloadPieceProgrammed fseq true s = _
  rw [execDownloadPieceProgrammed, State.whenLive_live hlive]
  simp only [State.pieceDone, hp, if_true]
  rfl

/-- A piece whose program failed leaves what the store reads now, of the same length (R431). -/
theorem exec_downloadPieceProgrammed_failed : ∃ u : State, Changes [.bst, .boot, .free, .evr] s u ∧
    u.boot.staged = s.boot.staged ++ pieceList ofst bytes.length ∧
    exec (.downloadPieceProgrammed fseq false) s = .next (u.complete fseq .internalError) := by
  let v : State := { s.pieceLeft fseq with free := s.free + bytes.length }
  let w := v.stagePiece ofst (undefBytes s.free bytes.length)
  have hw : Changes [.bst, .boot, .free, .evr] s w :=
    (State.stagePiece_changes ..).step rfl (Changes.free_with _ rfl ((State.setBoot_changes ..).step rfl (.refl _ s)))
  refine ⟨w.log 0x1010 0x20 (leBytes 2 (stagingFirst + ofst / 65472) ++ leBytes 1 w.bst.status), (State.log_changes ..).step rfl hw, ?_, ?_⟩
  · rw [(State.log_changes _ _ _ _).rest .boot (by decide)]
    change s.boot.staged ++ pieceList ofst (undefBytes s.free bytes.length).length = _
    rw [undefBytes, List.length_map, List.length_range]
  · change execDownloadPieceProgrammed fseq false s = _
    rw [execDownloadPieceProgrammed, State.whenLive_live hlive]
    simp only [State.pieceDone, hp, Bool.false_eq_true, if_false]
    rfl

end

end

/-! ### O31 -/

/-- Settles O31: a piece is refused by its guard or taken, and once programmed it stands in staging byte for byte. -/
theorem imageDownloaded : Obligations.ImageDownloaded := by
  unfold Obligations.ImageDownloaded
  refine ⟨?taken, ?refused, ?programmed, ?failed⟩
  case taken =>
    intro fseq ofst bytes c s h hg ho hl hne hend hb hnew
    have hpost : (s.pieceTaken c fseq ofst bytes).evr = (s.stagingBound c).evr := rfl
    refine ⟨_, (exec_firmwareImageDownload h ofst bytes).trans (congrArg _ (State.download_taken hg ho hl hne hend hb hnew)), ?_, ?_, ?_, ?_, ?_, ?_⟩
    · rw [State.pieceTaken_boot]
      exact AMap.get?_put ..
    · refine State.setCmd_get (s := (s.stagingBound c).setBoot _) ?_ _
      have hcmq : ((s.stagingBound c).setBoot (fun b => { b with pieces := b.pieces.put fseq (ofst, bytes) })).cmq = s.cmq :=
        (s.stagingBound_changes c).rest .cmq (by decide)
      rw [hcmq, h.flying.get]
    · rw [State.pieceTaken_boot, State.stagingBound_boot]
      split
      · rfl
      · rfl
    · intro hfirst
      rw [State.pieceTaken_boot, State.stagingBound_boot, if_pos hfirst, hpost, State.stagingBound, if_pos hfirst]
      exact ⟨rfl, State.log_evr_congr rfl rfl rfl _ _ _⟩
    · intro hlater
      rw [State.pieceTaken_boot, State.stagingBound_boot, if_neg hlater, hpost, State.stagingBound, if_neg hlater]
      exact ⟨rfl, rfl⟩
    · exact ((State.setCmd_changes ..).step rfl ((State.setBoot_changes ..).step rfl ((s.stagingBound_changes c).mono rfl)) :
        Changes [.evr, .boot, .cmq] s _).mono rfl
  case refused =>
    intro fseq ofst bytes st c s h hg
    obtain ⟨hdone, hboot, hbst⟩ := State.refused h.flying (s.portSrc c.port) 0x11 st
    refine ⟨_, (exec_firmwareImageDownload h ofst bytes).trans (congrArg _ (State.download_refused hg ofst bytes)), hdone, ?_⟩
    rw [hboot, hbst]
    exact ⟨rfl, rfl, rfl, rfl⟩
  case programmed =>
    intro fseq ofst bytes c s h hp _
    have hc : Changes [.bst, .boot] s ((s.pieceLeft fseq).stagePiece ofst bytes) :=
      (State.stagePiece_changes ..).step rfl ((State.setBoot_changes ..).step rfl (.refl _ s))
    refine ⟨_, exec_downloadPieceProgrammed_ok h.live hp, h.completes_after hc (by decide) .success 0 0, ?_, ?_, fun i b hb => ?_⟩
    · rw [State.complete_boot, State.stagePiece_boot]
      rfl
    · rw [State.complete_boot, State.stagePiece_boot]
      rfl
    · rw [State.complete_bst]
      exact State.stagePiece_byte _ ofst bytes i b hb
  case failed =>
    intro fseq ofst bytes c s h hp
    obtain ⟨u, hu, hstaged, hexec⟩ := exec_downloadPieceProgrammed_failed h.live hp
    refine ⟨_, hexec, h.completes_after hu (by decide) .internalError 0 0, ?_⟩
    rw [State.complete_boot, hstaged]

end Sys2Proof.Machine
end

section
/-! The statement of chapter 13 about Firmware Commit and the write of the image area (R428, R431 to R434). -/

namespace Sys2Proof.Machine

open Sys2Proof

section
variable {s : State} {fseq slot : Nat} {c : Cmd} {ph : CmdPhase}

/-! ### The commit actions -/

theorem State.record_boot (s : State) (f : Boot → Boot) : (s.record f).boot = { f s.boot with gen := s.boot.gen + 1 } := rfl

/-- What verifies an image does not lie in staging (R428). -/
theorem State.sealStaging_fwVerify (s : State) (img : List Byte) : s.sealStaging.fwVerify img = s.fwVerify img := by
  have hc := s.sealStaging_changes
  have hparam (i j : Nat) : s.sealStaging.param i j = s.param i j := by rw [State.param, State.param, hc.rest .dict (by decide)]
  rw [State.fwVerify, State.fwVerify, State.cosign, State.cosign, hparam, hc.rest .sec (by decide), hc.rest .boot (by decide)]

theorem exec_commit (h : s.AdminReady fseq 0x10 c) {i : Instr} {action : Nat}
    (hi : (i = .commitReplace fseq slot ∧ action = 0) ∨ (i = .commitActivateAtReset fseq slot ∧ action = 1) ∨
      (i = .commitSetActive fseq slot ∧ action = 2) ∨ (i = .commitActivateNow fseq slot ∧ action = 3)) :
    exec i s = .next (s.commitFw c fseq slot action) := by
  have run {j : Instr} (e : exec j s = .next (s.onAdmin fseq 0x10 (fun c s => s.commitFw c fseq slot action))) :
      exec j s = .next (s.commitFw c fseq slot action) := exec_admin h (by decide) (f := fun c s => s.commitFw c fseq slot action) e
  rcases hi with ⟨rfl, rfl⟩ | ⟨rfl, rfl⟩ | ⟨rfl, rfl⟩ | ⟨rfl, rfl⟩
  · exact run rfl
  · exact run rfl
  · exact run rfl
  · exact run rfl

theorem State.commitFw_refused {st : Status}
    (hg : s.commitGuard = some st ∨ (s.commitGuard = none ∧ s.boot.updating = true ∧ st = .fwActProhibited)) (action : Nat) :
    s.commitFw c fseq slot action = (s.noteRefusal (s.portSrc c.port) 0x10 st).complete fseq st := by
  rcases hg with hg | ⟨hg, hu, rfl⟩
  · simp only [State.commitFw, hg]
  · simp only [State.commitFw, hg, hu, if_true]

section
variable (hg : s.commitGuard = none) (hu : s.boot.updating = false) (hslot : slot = 0 ∨ slot = 2)
include hg hu hslot

theorem State.commitFw_setActive : s.commitFw c fseq slot 2 =
    (if s.boot.state = .written then s.record (fun b => { b with state := .activateAtReset }) else s).complete fseq .success := by
  have hs : ¬ (slot ≠ 0 ∧ slot ≠ 2) := by omega
  simp only [State.commitFw, hg, hu, Bool.false_eq_true, if_false, if_neg hs, if_true]

/-- An image that does not verify is discarded. -/
theorem State.commitFw_bad {action k : Nat} (ha : action ≠ 2) (hv : s.fwVerify (s.sealStaging.bst.image stagingFirst) = some k) :
    s.commitFw c fseq slot action = ((s.sealStaging.log 0x6004 (s.portSrc c.port)
      (leBytes 1 k ++ leBytes 4 (imgSeq (s.sealStaging.bst.image stagingFirst)))).clearStaging).complete fseq .invalidFwImage := by
  have hs : ¬ (slot ≠ 0 ∧ slot ≠ 2) := by omega
  have hv' := (s.sealStaging_fwVerify _).trans hv
  simp only [State.commitFw, hg, hu, Bool.false_eq_true, if_false, if_neg hs, if_neg ha, hv']

/-- One that verifies is written to the image area. -/
theorem State.commitFw_good {action : Nat} (ha : action ≠ 2) (hv : s.fwVerify (s.sealStaging.bst.image stagingFirst) = none) :
    ∃ data, s.commitFw c fseq slot action = (s.sealStaging.log 0x6002 (s.portSrc c.port) data).startWrite fseq action
      (s.sealStaging.bst.image stagingFirst) := by
  have hs : ¬ (slot ≠ 0 ∧ slot ≠ 2) := by omega
  have hv' := (s.sealStaging_fwVerify _).trans hv
  simp only [State.commitFw, hg, hu, Bool.false_eq_true, if_false, if_neg hs, if_neg ha, hv']
  exact ⟨_, rfl⟩

end

/-- The record says WRITING, and the first sector of the image area is being erased (R434). -/
def State.areaBegun (s : State) (fseq action : Nat) (img : List Byte) : State :=
  (s.record (fun b => { b with
    state := .writing, imageSeq := BitVec.ofNat 32 (imgSeq img), prevSeq := BitVec.ofNat 32 (imgSeq s.boot.run)
    committed := true, commit := some (fseq, action) })).setBst
      (fun b => (b.wipe imageFirst).setShadow imageFirst (fun x => x.erasing))

theorem State.startWrite_eq (s : State) (fseq action : Nat) (img : List Byte) : s.startWrite fseq action img =
    ((s.areaBegun fseq action img).log 0x6010 0x20 (leBytes 4 (imgSeq img) ++ leBytes 2 (imgSectors (imgBodyLen img)))).setCmd fseq
      (fun c => { c with phase := .waitData }) := rfl

theorem State.areaBegun_changes (s : State) (fseq action : Nat) (img : List Byte) : Changes [.bst, .boot] s (s.areaBegun fseq action img) :=
  (State.setBst_changes ..).step rfl (State.record_changes ..)

theorem State.areaBegun_boot (s : State) (fseq action : Nat) (img : List Byte) : (s.areaBegun fseq action img).boot = { s.boot with
    state := .writing, imageSeq := BitVec.ofNat 32 (imgSeq img), prevSeq := BitVec.ofNat 32 (imgSeq s.boot.run)
    committed := true, commit := some (fseq, action), gen := s.boot.gen + 1 } :=
  ((State.setBst_changes ..).rest .boot (by decide)).trans (s.record_boot _)

theorem State.startWrite_boot (s : State) (fseq action : Nat) (img : List Byte) :
    (s.startWrite fseq action img).boot = (s.areaBegun fseq action img).boot := by
  rw [State.startWrite_eq, (State.setCmd_changes _ _ _).rest .boot (by decide), (State.log_changes _ _ _ _).rest .boot (by decide)]

theorem State.startWrite_get (h : s.cmq.cmds.get? fseq = some c) (action : Nat) (img : List Byte) :
    (s.startWrite fseq action img).cmq.cmds.get? fseq = some { c with phase := .waitData } := by
  rw [State.startWrite_eq]
  refine State.setCmd_get ?_ _
  rw [(State.log_changes _ _ _ _).rest .cmq (by decide), (s.areaBegun_changes fseq action img).rest .cmq (by decide), h]

/-! ### The write of the image area (R434) -/

/-- The image area holds the staged image, and the Commit leaves the boot state. -/
def State.areaWritten (s : State) : State :=
  let s := s.setBoot (fun b => { b with commit := none })
  let img := s.bst.image stagingFirst
  let s : State := { s with bst := s.bst.writeImage imageFirst 1 img }
  s.log 0x6011 0x20 (leBytes 4 (imgSeq img))

/-- The record takes the state that ends a write. -/
def State.areaDone (s : State) (st : UpState) : State := s.areaWritten.record (fun b => { b with state := st })

theorem State.areaWritten_changes (s : State) : Changes [.evr, .bst, .boot] s s.areaWritten :=
  (State.log_changes ..).step rfl (Changes.bst_with _ rfl ((State.setBoot_changes ..).step rfl (.refl _ s)))

theorem State.areaDone_changes (s : State) (st : UpState) : Changes [.evr, .bst, .boot] s (s.areaDone st) :=
  (State.record_changes ..).step rfl s.areaWritten_changes

theorem State.areaWritten_boot (s : State) : s.areaWritten.boot = { s.boot with commit := none } := by
  rw [State.areaWritten, (State.log_changes _ _ _ _).rest .boot (by decide)]
  rfl

theorem State.areaDone_boot (s : State) (st : UpState) :
    (s.areaDone st).boot = { s.boot with commit := none, state := st, gen := s.boot.gen + 1 } := by
  rw [State.areaDone, State.record_boot, s.areaWritten_boot]

theorem exec_imageAreaWritten (hlive : s.live = true) (ok : Bool) : exec (.imageAreaWritten ok) s = .next (s.imageWritten ok) := by
  change execImageAreaWritten ok s = _
  rw [execImageAreaWritten, State.whenLive_live hlive]

theorem State.imageWritten_failed {action : Nat} (hc : s.boot.commit = some (fseq, action)) :
    s.imageWritten false = (s.setBoot (fun b => { b with commit := none })).complete fseq .internalError := by
  simp only [State.imageWritten, hc, Bool.not_false, if_true]

/-- A written image takes its next state: the hand-over formats and the action decide which. -/
theorem State.imageWritten_done {action : Nat} (hc : s.boot.commit = some (fseq, action)) {st : UpState} {end_ : Status}
    (h : (action = 0 ∧ st = .written ∧ end_ = .success) ∨
      (action = 1 ∧ handoverBad s.boot.run (s.bst.image stagingFirst) = false ∧ st = .activateAtReset ∧ end_ = .success) ∨
      ((action = 1 ∨ action = 3) ∧ handoverBad s.boot.run (s.bst.image stagingFirst) = true ∧ st = .written ∧ end_ = .fwActConvReset)) :
    s.imageWritten true = (s.areaDone st).complete fseq end_ := by
  have hrun : s.areaWritten.boot.run = s.boot.run := by rw [s.areaWritten_boot]
  have hdone : s.imageWritten true =
      if (handoverBad s.areaWritten.boot.run (s.bst.image stagingFirst) && decide (action = 1 ∨ action = 3)) = true then
        (s.areaDone .written).complete fseq .fwActConvReset
      else if action = 1 then (s.areaDone .activateAtReset).complete fseq .success
      else if action = 3 ∧ s.areaWritten.cmq.cmds.has fseq = true then s.areaWritten.ferryPrepare (some fseq)
      else (s.areaDone .written).complete fseq .success := by
    simp only [State.imageWritten, hc, Bool.not_true, Bool.false_eq_true, if_false, State.areaDone, State.areaWritten]
    rfl
  rw [hdone, hrun]
  rcases h with ⟨rfl, rfl, rfl⟩ | ⟨rfl, hbad, rfl, rfl⟩ | ⟨ha, hbad, rfl, rfl⟩
  · simp
  · simp [hbad]
  · rw [if_pos (by simp [hbad, ha])]

/-- The image area holds the rollback image again, and the record is confirmed (R438). -/
def State.areaRewritten (s : State) : State :=
  State.record { s with bst := s.bst.writeImage imageFirst 1 (s.boot.rollback.getD []) } (fun b => { b with
    state := .confirmed, rewriting := false, imageSeq := BitVec.ofNat 32 (imgSeq (s.boot.rollback.getD [])), tries := 0 })

theorem State.imageWritten_rewrite (hc : s.boot.commit = none) (hr : s.boot.rewriting = true) :
    (s.imageWritten true).boot = s.areaRewritten.boot := by
  have hlog (u : State) (code src : Nat) (data : List Byte) : (u.log code src data).boot = u.boot := (State.log_changes ..).rest .boot (by decide)
  simp only [State.imageWritten, hc, hr, and_self, if_true]
  split
  · rw [hlog, hlog, State.areaRewritten]
  · rw [hlog, State.areaRewritten]

end

/-! ### O32 -/

/-- Settles O32, clause by clause: a Commit is refused, ends at once or starts the write of the image area, whose end completes it. -/
theorem firmwareCommitted : Obligations.FirmwareCommitted := by
  unfold Obligations.FirmwareCommitted
  refine ⟨?written, ?active, ?refused, ?done, ?reset, ?failed, ?rewritten⟩
  case written =>
    intro fseq slot action i c s h hi hg hu hslot
    have ha : action ≠ 2 := by
      rcases hi with ⟨-, rfl⟩ | ⟨-, rfl⟩ | ⟨-, rfl⟩ <;> decide
    have hexec : exec i s = .next (s.commitFw c fseq slot action) := by
      refine exec_commit h ?_
      rcases hi with hi | hi | hi
      · exact .inl hi
      · exact .inr (.inl hi)
      · exact .inr (.inr (.inr hi))
    refine ⟨_, hexec, fun hv => ?_, fun k hv => ?_⟩
    · obtain ⟨data, hgood⟩ := State.commitFw_good (c := c) (fseq := fseq) hg hu hslot ha hv
      have hc : Changes [.evr, .bst] s (s.sealStaging.log 0x6002 (s.portSrc c.port) data) :=
        (State.log_changes ..).step rfl (s.sealStaging_changes.mono rfl)
      have hget := State.startWrite_get (s := s.sealStaging.log 0x6002 (s.portSrc c.port) data) (c := c)
        (by rw [hc.rest .cmq (by decide)]; exact h.flying.get) action (s.sealStaging.bst.image stagingFirst)
      rw [hgood, State.startWrite_boot, State.areaBegun_boot, hc.rest .boot (by decide)]
      exact ⟨rfl, rfl, rfl, rfl, rfl, hget, ((State.startWrite_changes ..).rest .out (by decide)).trans (hc.rest .out (by decide))⟩
    · rw [State.commitFw_bad hg hu hslot ha hv]
      have hc : Changes [.evr, .bst, .boot] s (s.sealStaging.log 0x6004 (s.portSrc c.port)
          (leBytes 1 k ++ leBytes 4 (imgSeq (s.sealStaging.bst.image stagingFirst)))).clearStaging :=
        (State.clearStaging_changes _).step rfl ((State.log_changes ..).step rfl (s.sealStaging_changes.mono rfl))
      have hlog := ((State.log_changes s.sealStaging 0x6004 (s.portSrc c.port)
        (leBytes 1 k ++ leBytes 4 (imgSeq (s.sealStaging.bst.image stagingFirst)))).rest .boot (by decide)).trans
        (s.sealStaging_changes.rest .boot (by decide))
      refine ⟨h.flying.completes_after hc (by decide) .invalidFwImage 0 0, ?_, ?_, ?_⟩
      · rw [State.complete_boot]
        rfl
      · rw [State.complete_boot]
        rfl
      · rw [State.complete_boot]
        exact (congrArg Boot.state hlog :)
  case active =>
    intro fseq slot c s h hg hu hslot
    refine ⟨_, (exec_commit h (.inr (.inr (.inl ⟨rfl, rfl⟩)))).trans (congrArg _ (State.commitFw_setActive hg hu hslot)), ?_⟩
    rw [State.complete_boot]
    split
    case isTrue hw =>
      refine ⟨h.flying.completes_after (s.record_changes _) (by decide) .success 0 0, ?_⟩
      rw [State.record_boot]
      exact ⟨rfl, rfl⟩
    case isFalse hw => exact ⟨h.flying.completes_now .success 0 0, rfl, rfl⟩
  case refused =>
    intro fseq slot i st c s h hi hg
    have hexec : ∃ action, exec i s = .next (s.commitFw c fseq slot action) := by
      simp only [List.mem_cons, List.not_mem_nil, or_false] at hi
      rcases hi with rfl | rfl | rfl | rfl
      · exact ⟨0, exec_commit h (.inl ⟨rfl, rfl⟩)⟩
      · exact ⟨1, exec_commit h (.inr (.inl ⟨rfl, rfl⟩))⟩
      · exact ⟨2, exec_commit h (.inr (.inr (.inl ⟨rfl, rfl⟩)))⟩
      · exact ⟨3, exec_commit h (.inr (.inr (.inr ⟨rfl, rfl⟩)))⟩
    obtain ⟨action, hexec⟩ := hexec
    obtain ⟨hdone, hboot, hbst⟩ := State.refused h.flying (s.portSrc c.port) 0x10 st
    refine ⟨_, hexec.trans (congrArg _ (State.commitFw_refused hg action)), hdone, ?_⟩
    rw [hboot, hbst]
    exact ⟨rfl, rfl, rfl⟩
  case done =>
    intro fseq action c s h hc ha
    have hend : s.imageWritten true = (s.areaDone (if action = 1 then .activateAtReset else .written)).complete fseq .success := by
      refine State.imageWritten_done hc ?_
      rcases ha with rfl | ⟨rfl, hbad⟩
      · exact .inl ⟨rfl, rfl, rfl⟩
      · exact .inr (.inl ⟨rfl, hbad, rfl, rfl⟩)
    refine ⟨_, (exec_imageAreaWritten h.live true).trans (congrArg _ hend), h.completes_after (s.areaDone_changes _) (by decide) .success 0 0, ?_⟩
    rw [State.complete_boot, State.areaDone_boot]
    exact ⟨rfl, rfl⟩
  case reset =>
    intro fseq action c s h hc ha hbad
    have hend := State.imageWritten_done hc (.inr (.inr ⟨ha, hbad, rfl, rfl⟩))
    refine ⟨_, (exec_imageAreaWritten h.live true).trans (congrArg _ hend),
      h.completes_after (s.areaDone_changes _) (by decide) .fwActConvReset 0 0, ?_⟩
    rw [State.complete_boot, State.areaDone_boot]
    exact ⟨rfl, rfl⟩
  case failed =>
    intro fseq action c s h hc
    refine ⟨_, (exec_imageAreaWritten h.live false).trans (congrArg _ (State.imageWritten_failed hc)),
      h.completes_after (s.setBoot_changes _) (by decide) .internalError 0 0, ?_⟩
    rw [State.complete_boot]
    exact ⟨rfl, rfl⟩
  case rewritten =>
    intro s hlive hc hr
    refine ⟨_, exec_imageAreaWritten hlive true, ?_⟩
    rw [State.imageWritten_rewrite hc hr, State.areaRewritten, State.record_boot]
    exact ⟨rfl, rfl, rfl, rfl⟩

end Sys2Proof.Machine
end

section
/-! The statement of chapters 12 and 13 about the loader's choice of an image (R404, R406, R407, R441, R442). -/

namespace Sys2Proof.Machine

open Sys2Proof

/-! ### Journal memory stays reachable (R420) -/

theorem Evr.absorb_journalUp (e : Evr) (opsec : BitVec 40) : (e.absorb opsec).journalUp = e.journalUp := by
  simp only [Evr.absorb]
  repeat' split
  · rfl
  · rfl
  · rfl

theorem Evr.takeIn_journalUp (e : Evr) (c : Clocks) (tb : BitVec 64) (ev : Ev) : (e.takeIn c tb ev).journalUp = e.journalUp := by
  by_cases hlike : ∃ l, e.last = some l ∧ l.like ev
  · obtain ⟨l, hl, hlike⟩ := hlike
    rw [Evr.takeIn_like hl hlike, Evr.absorb_journalUp]
  · rw [Evr.takeIn_new (fun l hl h => hlike ⟨l, hl, h⟩)]
    split
    · exact Evr.write_journalUp _
    · split
      · rfl
      · exact Evr.write_journalUp (e := e) _

theorem State.logs_journalUp (s : State) (evs : List Ev) : (s.logs evs).evr.journalUp = s.evr.journalUp := by
  have fold (l : List Ev) (e : Evr) : (l.foldl (fun e ev => e.takeIn s.clocks s.tb.count ev) e).journalUp = e.journalUp := by
    induction l generalizing e with
    | nil => rfl
    | cons ev l ih => rw [List.foldl_cons, ih, Evr.takeIn_journalUp]
  exact fold evs s.evr

section
variable {s : State}

/-- The checked sectors that are incomplete (R404). -/
def State.badSectors (s : State) : List Nat := checkedSectors.filter s.bst.incomplete

/-- Event 0x1003 of each incomplete sector. -/
def State.sectorsSaid (s : State) : State :=
  s.logs (s.badSectors.map (fun x => (⟨0x1003, 0x20, leBytes 2 x ++ leBytes 4 (s.bst.shadowOf x).entry⟩ : Ev)))

/-- Event 0x1007 of an operation that a loss stopped. -/
def State.abortSaid (s : State) : State := match s.bst.abortedOp with
  | some o => (s.log 0x1007 0x20 (leBytes 2 o.1 ++ (Config.standardReply 0x1007 (bit o.2)).take 1)).setBst (fun b => { b with abortedOp := none })
  | none => s

theorem State.checkSectors_eq (s : State) : s.checkSectors =
    if s.badSectors.any (fun x => decide (388 ≤ x) && decide (x < 644)) then
      (s.sectorsSaid.abortSaid.setBoot (fun b => { b with incomplete := s.badSectors != [] })).clearStaging
    else s.sectorsSaid.abortSaid.setBoot (fun b => { b with incomplete := s.badSectors != [] }) := rfl

theorem State.abortSaid_journalUp (s : State) : s.abortSaid.evr.journalUp = s.evr.journalUp := by
  rw [State.abortSaid]
  split
  · exact State.logs_journalUp s _
  · rfl

theorem State.checkSectors_journalUp (s : State) : s.checkSectors.evr.journalUp = s.evr.journalUp := by
  have hsaid : s.sectorsSaid.abortSaid.evr.journalUp = s.evr.journalUp := by
    rw [State.abortSaid_journalUp, State.sectorsSaid, State.logs_journalUp]
  rw [State.checkSectors_eq]
  split
  · rw [(State.clearStaging_changes _).rest .evr (by decide), (State.setBoot_changes _ _).rest .evr (by decide), hsaid]
  · rw [(State.setBoot_changes _ _).rest .evr (by decide), hsaid]

/-! ### The choice (R406) -/

/-- A trial without a health token is over (R441, R442). -/
def State.trialRejected (s : State) : State :=
  if s.boot.trialOver then
    (s.record (fun b => { b with state := .rejected })).setBoot (fun b => { b with fallbacks := b.fallbacks + 1, trialExpired := true })
  else s

theorem exec_slipwayStart (h : s.phase = .slipway) (ok : Bool) : exec (.slipwayStart ok) s =
    .next ((State.checkSectors (State.loadRecord { s with evr := s.evr.journal })).trialRejected.choose ok) := by
  have hp : ¬ (!(s.phase == .slipway)) = true := by rw [h]; exact Bool.false_ne_true
  change execSlipwayStart ok s = _
  rw [execSlipwayStart, State.slipway, if_neg hp]
  rfl

/-- The image that the choice falls on in the image area starts, under trial where the record says so. -/
def State.trialStarted (s : State) : State := if s.boot.underTrial then s.startTrial else s

/-- Whatever starts, the image is the area's, and it does not write the area back. -/
theorem State.runImage_started (s : State) (source : Nat) (img : List Byte) : (s.runImage source img).phase = .firmware ∧
    (s.runImage source img).boot = { s.boot with source := source, run := img, rewriting := decide (source = 1) } ∧
    (s.runImage source img).bst = s.bst := ⟨rfl, rfl, rfl⟩

/-- The record says TRIAL, with the number of this try (R438, R442). -/
def State.trialRecorded (s : State) : State :=
  s.record (fun b => { b with state := .trial, tries := if s.boot.state = .trial then s.boot.tries + 1 else 1 })

theorem State.startTrial_eq (s : State) : s.startTrial = s.trialRecorded.setBoot (fun b =>
    { b with armed := some (b.imageSeq, s.trialRecorded.tb.count.toNat), trialSeq := b.imageSeq }) := rfl

theorem State.trialRecorded_boot (s : State) : s.trialRecorded.boot = { s.boot with
    state := .trial, tries := if s.boot.state = .trial then s.boot.tries + 1 else 1, gen := s.boot.gen + 1 } := s.record_boot _

theorem State.startTrial_boot (s : State) : s.startTrial.boot.state = .trial ∧
    s.startTrial.boot.armed = some (s.boot.imageSeq, s.tb.count.toNat) ∧ s.startTrial.boot.trialSeq = s.boot.imageSeq ∧
    s.startTrial.boot.tries = (if s.boot.state = .trial then s.boot.tries + 1 else 1) := by
  have hset (u : State) (f : Boot → Boot) : (u.setBoot f).boot = f u.boot := rfl
  have htb : s.trialRecorded.tb = s.tb := (s.record_changes _).rest .tb (by decide)
  rw [State.startTrial_eq, hset, s.trialRecorded_boot, htb]
  exact ⟨rfl, rfl, rfl, rfl⟩

theorem State.choose_area (hc : s.boot.areaChosen = true) (hs : s.areaStarts = true) (ok : Bool) :
    s.choose ok = s.trialStarted.runImage 0 (s.trialStarted.bst.image imageFirst) := by
  rw [State.choose, if_pos (by rw [hc, hs]; rfl)]
  rfl

theorem State.choose_else (h : s.boot.areaChosen = false ∨ s.areaStarts = false) (ok : Bool) : s.choose ok =
    match s.rollbackStarts with
    | some img => (s.runImage 1 img).log 0x1004 0x20 (leBytes 4 (imgSeq img))
    | none => if ok then (s.runImage 2 Config.recoveryImage).log 0x1005 0x20 else s.bootFault 2 := by
  have hno : ¬ (s.boot.areaChosen && s.areaStarts) = true := by
    rcases h with h | h <;> simp [h]
  rw [State.choose, if_neg hno] <;> rfl

/-- The rollback copy starts. -/
theorem State.choose_rollback (h : s.boot.areaChosen = false ∨ s.areaStarts = false) {img : List Byte} (hr : s.rollbackStarts = some img)
    (ok : Bool) : s.choose ok = (s.runImage 1 img).log 0x1004 0x20 (leBytes 4 (imgSeq img)) := by
  simp only [State.choose_else h, hr]

/-- The recovery image starts. -/
theorem State.choose_recovery (h : s.boot.areaChosen = false ∨ s.areaStarts = false) (hr : s.rollbackStarts = none) :
    s.choose true = (s.runImage 2 Config.recoveryImage).log 0x1005 0x20 := by
  simp only [State.choose_else h, hr, if_true]

/-- No image starts. -/
theorem State.choose_none (h : s.boot.areaChosen = false ∨ s.areaStarts = false) (hr : s.rollbackStarts = none) :
    s.choose false = s.bootFault 2 := by
  simp only [State.choose_else h, hr, Bool.false_eq_true, if_false]

/-- An image that starts after an event: the phase, the boot state and what the recorder took in. -/
theorem State.runImage_logged (s : State) (source : Nat) (img : List Byte) (code : Nat) (data : List Byte) :
    ((s.runImage source img).log code 0x20 data).phase = .firmware ∧
    ((s.runImage source img).log code 0x20 data).boot = (s.runImage source img).boot ∧
    ((s.runImage source img).log code 0x20 data).evr = (s.log code 0x20 data).evr :=
  ⟨rfl, rfl, State.log_evr_congr rfl rfl rfl _ _ _⟩

theorem State.bootFault_phase (s : State) (stage : Nat) : (s.bootFault stage).phase = .bootFault := rfl

theorem State.bootFault_boot (s : State) (stage : Nat) : (s.bootFault stage).boot = s.boot := rfl

/-- Whatever the choice falls on, its outcome is one of the four; the record's state stays where no image of the area starts. -/
theorem State.choose_rejected (h : s.boot.state = .rejected) (ok : Bool) : (s.choose ok).boot.state = .rejected ∧
    (s.choose ok).boot.fallbacks = s.boot.fallbacks ∧
    ((s.choose ok).phase = .firmware → (s.choose ok).boot.source = 1 ∨ (s.choose ok).boot.source = 2) := by
  have harea : s.boot.areaChosen = false := by rw [Boot.areaChosen, h]; rfl
  cases hr : s.rollbackStarts with
  | some img =>
    obtain ⟨-, hboot, -⟩ := s.runImage_logged 1 img 0x1004 (leBytes 4 (imgSeq img))
    rw [State.choose_rollback (.inl harea) hr, hboot]
    exact ⟨h, rfl, fun _ => .inl rfl⟩
  | none =>
    cases ok with
    | true =>
      obtain ⟨-, hboot, -⟩ := s.runImage_logged 2 Config.recoveryImage 0x1005 []
      rw [State.choose_recovery (.inl harea) hr, hboot]
      exact ⟨h, rfl, fun _ => .inr rfl⟩
    | false =>
      rw [State.choose_none (.inl harea) hr, State.bootFault_boot, State.bootFault_phase]
      exact ⟨h, rfl, nofun⟩

end

/-! ### O27 -/

/-- Settles O27: the choice is that of R406 over the record and the sectors found, after a trial that is over has been rejected. -/
theorem loaderChoosesImage : Obligations.LoaderChoosesImage := by
  unfold Obligations.LoaderChoosesImage
  intro recoveryOk s s0 hp hs0
  have hexec := exec_slipwayStart hp recoveryOk
  rw [← hs0] at hexec
  have hup : s0.evr.journalUp = true := by
    rw [hs0, State.checkSectors_journalUp, (State.loadRecord_changes _).rest .evr (by decide)]
    rfl
  have hkept (h : s0.boot.trialOver = false) : s0.trialRejected = s0 := by
    rw [State.trialRejected, if_neg (by rw [h]; exact Bool.false_ne_true)]
  refine ⟨_, hexec, hup, fun hover hc hs => ?_, fun hover h => ?_, fun hover => ?_⟩
  · obtain ⟨hphase, hboot, hbst⟩ := s0.trialStarted.runImage_started 0 (s0.trialStarted.bst.image imageFirst)
    rw [hkept hover, State.choose_area hc hs, hboot, hbst]
    refine ⟨hphase, rfl, ?_, rfl, fun ht => ?_, fun ht => ?_⟩
    · simp only
    · rw [State.trialStarted, if_neg (by rw [ht]; exact Bool.false_ne_true)]
      exact ⟨rfl, rfl, rfl⟩
    · rw [State.trialStarted, if_pos ht]
      exact s0.startTrial_boot
  · rw [hkept hover]
    refine ⟨fun img hr => ?_, fun hr hok => ?_, fun hr hok => ?_⟩
    · obtain ⟨hphase, hboot, hevr⟩ := s0.runImage_logged 1 img 0x1004 (leBytes 4 (imgSeq img))
      rw [State.choose_rollback h hr, hboot]
      exact ⟨hphase, rfl, rfl, rfl, hevr⟩
    · obtain ⟨hphase, hboot, hevr⟩ := s0.runImage_logged 2 Config.recoveryImage 0x1005 []
      rw [hok, State.choose_recovery h hr, hboot]
      exact ⟨hphase, rfl, hevr⟩
    · rw [hok, State.choose_none h hr, State.bootFault_phase]
  · have hrej : s0.trialRejected.boot.state = .rejected := by rw [State.trialRejected, if_pos hover]; rfl
    have hfall : s0.trialRejected.boot.fallbacks = s0.boot.fallbacks + 1 := by rw [State.trialRejected, if_pos hover]; rfl
    obtain ⟨hstate, hcount, hsource⟩ := State.choose_rejected hrej recoveryOk
    exact ⟨hstate, hcount.trans hfall, hsource⟩

end Sys2Proof.Machine
end

section
/-! The statement of chapter 02 about packing (R68, R70, R73, R80, R100). -/

namespace Sys2Proof.Machine

open Sys2Proof

/-! ### Tables in canonical form -/

/-- The canonical form of a table: its keys rise. -/
theorem AMap.wf_iff_pairwise {α : Type} {m : AMap α} : m.wf = true ↔ m.Pairwise (fun a b => a.1 < b.1) := by
  induction m with
  | nil => simp
  | cons e m ih =>
    obtain ⟨k, v⟩ := e
    rw [AMap.wf_cons, ih, List.pairwise_cons]

theorem AMap.get?_of_mem {α : Type} {m : AMap α} (h : m.wf = true) {e : Nat × α} (he : e ∈ m) : m.get? e.1 = some e.2 := by
  induction m with
  | nil => exact absurd he List.not_mem_nil
  | cons x m ih =>
    obtain ⟨k, v⟩ := x
    obtain ⟨hk, hm⟩ := (AMap.wf_cons k v m).mp h
    rcases List.mem_cons.mp he with rfl | he
    · simp [AMap.get?]
    · have hne : k ≠ e.1 := Nat.ne_of_lt (hk e he)
      simp only [AMap.get?, if_neg hne]
      exact ih hm he

/-- What keeps every key keeps the canonical form. -/
theorem AMap.wf_map {α β : Type} {m : AMap α} (h : m.wf = true) (f : Nat × α → Nat × β) (hf : ∀ e, (f e).1 = e.1) :
    AMap.wf (m.map f) = true := by
  rw [AMap.wf_iff_pairwise] at h ⊢
  exact List.pairwise_map.mpr (h.imp (fun {a b} hab => by rw [hf, hf]; exact hab))

theorem AMap.wf_mod {α : Type} {m : AMap α} (h : m.wf = true) (k : Nat) (f : α → α) : (m.mod k f).wf = true := by
  refine AMap.wf_map h _ (fun e => ?_)
  split
  · rfl
  · rfl

/-- Entries of a table in canonical form have different keys. -/
theorem AMap.nodup_keys {α : Type} {m : AMap α} (h : m.wf = true) {l : List (Nat × α)} (hl : List.Sublist l m) :
    (l.map (·.1)).Nodup :=
  List.pairwise_map.mpr ((AMap.wf_iff_pairwise.mp h).sublist hl |>.imp Nat.ne_of_lt)

/-- Changes of different entries: each entry has its own. -/
theorem AMap.foldl_mod_get {α β : Type} (key : β → Nat) (g : β → α → α) (l : List β) (hl : (l.map key).Nodup) (m : AMap α) :
    (∀ x ∈ l, (l.foldl (fun m x => m.mod (key x) (g x)) m).get? (key x) = (m.get? (key x)).map (g x)) ∧
    (∀ k, k ∉ l.map key → (l.foldl (fun m x => m.mod (key x) (g x)) m).get? k = m.get? k) := by
  induction l generalizing m with
  | nil => exact ⟨nofun, fun k _ => rfl⟩
  | cons y l ih =>
    obtain ⟨hy, hl⟩ := List.nodup_cons.mp hl
    obtain ⟨hin, hout⟩ := ih hl (m.mod (key y) (g y))
    refine ⟨fun x hx => ?_, fun k hk => ?_⟩
    · rcases List.mem_cons.mp hx with rfl | hx
      · rw [List.foldl_cons, hout _ hy, AMap.get?_mod]
      · have hne : key x ≠ key y := fun e => hy (e ▸ List.mem_map_of_mem hx)
        rw [List.foldl_cons, hin x hx, AMap.get?_mod_ne _ _ _ _ hne]
    · rw [List.map_cons, List.mem_cons, not_or] at hk
      rw [List.foldl_cons, hout k hk.2, AMap.get?_mod_ne _ _ _ _ hk.1]

/-! ### The units of a slice (R80) -/

section
variable {s : State} {r : Nat} {sl : Fin 8}

theorem mem_of_mem_splitBy {α : Type} (R : α → α → Bool) {l u : List α} (hu : u ∈ l.splitBy R) : List.Sublist u l := by
  have h := List.sublist_flatten_of_mem hu
  rwa [List.flatten_splitBy] at h

/-- The lines of a unit are lines of the slice, each once. -/
theorem State.sliceUnits_lines (h : s.land.lines.wf = true) {u : List (Nat × Line)} (hu : u ∈ s.sliceUnits r sl) :
    (u.map (·.1)).Nodup ∧ ∀ e ∈ u, s.land.lines.get? e.1 = some e.2 := by
  have hsub := mem_of_mem_splitBy _ hu
  have hperm := List.mergeSort_perm (s.inSlice r sl) (fun a b => decide (a.2.turn * 2 ^ 40 + a.2.granule ≤ b.2.turn * 2 ^ 40 + b.2.granule))
  have hin : List.Sublist (s.inSlice r sl) s.land.lines := List.filter_sublist
  refine ⟨?_, fun e he => AMap.get?_of_mem h (hin.subset (hperm.subset (hsub.subset he)))⟩
  exact List.Nodup.sublist (hsub.map _) ((hperm.map (·.1)).nodup_iff.mpr (AMap.nodup_keys h hin))

/-! ### Places of records (R80) -/

theorem Cursor.placeIn_length {c c' : Cursor} {pages : Nat} {lens : List Nat} {ps : List (Nat × Nat)}
    (h : c.placeIn pages lens = some (c', ps)) : ps.length = lens.length := by
  induction lens generalizing c c' ps with
  | nil =>
    cases h
    rfl
  | cons l ls ih =>
    rw [Cursor.placeIn] at h
    split at h
    case h_1 => exact absurd h (by simp)
    case h_2 c1 pg off hp =>
      split at h
      case h_1 => exact absurd h (by simp)
      case h_2 c2 ps2 hrest =>
        cases h
        rw [List.length_cons, List.length_cons, ih hrest]

theorem Cursor.placeRecs_length {c c' : Cursor} {pages : Nat} {lens : List Nat} {ps : List (Nat × Nat)}
    (h : c.placeRecs pages lens = some (c', ps)) : ps.length = lens.length := by
  rw [Cursor.placeRecs] at h
  split at h
  · exact Cursor.placeIn_length h
  · rw [Cursor.placeUnit] at h
    split at h
    case h_1 c1 hin =>
      split at h
      · cases h
        exact Cursor.placeIn_length hin
      · exact Cursor.placeIn_length h
    case h_2 => exact Cursor.placeIn_length h

/-! ### A unit is packed (R68, R70, R73, R100) -/

/-- The record of a line, of units and a raw mark that are known. -/
def recordWith (zero : Bool) (x : (Nat × Line) × (Nat × Bool)) : Rec :=
  { ns := x.1.2.ns, granule := x.1.2.granule, die := 0, block := 0, page := 0, offset := 0, len := if zero then 0 else x.2.1
    raw := x.2.2, keySlot := x.1.2.keySlot, keyGen := x.1.2.keyGen, data := x.1.2.data, line := some x.1.1
    frame := if x.2.2 ∨ zero then [] else x.1.2.frame.getD [] }

/-- The record that a line gives, before it has its place. -/
def State.packedRec (s : State) (sl : Fin 8) (n : Namespace) (zero : Bool) (e : Nat × Line) : Rec :=
  recordWith zero (e, s.recordOf sl e.2 n (e.2.frame.getD []))

/-- The landing lines once a unit is packed. -/
def State.packedLines (s : State) (sl : Fin 8) (n : Namespace) (zero : Bool) (ls : List (Nat × Line)) : AMap Line :=
  ls.foldl (fun m e => m.mod e.1 (fun l => { l with st := .packed, frame := none, resv := (s.packedRec sl n zero e).len })) s.land.lines

/-- The rest of the reservation of each line of a unit is back in the pool. -/
def State.packedBack (s : State) (sl : Fin 8) (n : Namespace) (zero : Bool) (ls : List (Nat × Line)) : Media :=
  ls.foldl (fun m e => m.unreserve e.2.ns (e.2.resv - (s.packedRec sl n zero e).len)) s.media

theorem State.packedBack_rows (s : State) (sl : Fin 8) (n : Namespace) (zero : Bool) (ls : List (Nat × Line)) :
    (s.packedBack sl n zero ls).rows = s.media.rows := by
  have fold (m : Media) : (ls.foldl (fun m e => m.unreserve e.2.ns (e.2.resv - (s.packedRec sl n zero e).len)) m).rows = m.rows := by
    induction ls generalizing m with
    | nil => rfl
    | cons e ls ih => rw [List.foldl_cons, ih]; rfl
  exact fold s.media

/-- The state with a unit's lines packed, before its records join the row. -/
def State.linesPacked (s : State) (sl : Fin 8) (n : Namespace) (zero : Bool) (ls : List (Nat × Line)) : State :=
  { s with land := { s.land with lines := s.packedLines sl n zero ls }, media := s.packedBack sl n zero ls }

theorem State.unitRecords_zip (s : State) (sl : Fin 8) (n : Namespace) (zero : Bool) (ls : List (Nat × Line)) :
    (ls.zip (s.unitRecords sl n ls).1).map (recordWith zero) = ls.map (s.packedRec sl n zero) := by
  rw [State.unitRecords, ← List.map_prod_left_eq_zip, List.map_map]
  rfl

/-- The counts of the slice's compressor take the records in. -/
def Wrp.counted (w : Wrp) (recs : List Rec) : Wrp :=
  recs.foldl (fun w x => if x.raw then { w with recRaw := satInc w.recRaw } else { w with recComp := satInc w.recComp }) w

section
variable {n : Namespace} {row : Row} {t : Stripe} {ls : List (Nat × Line)}

/-- Records at their places in a slice of a row. -/
def Media.placedAt (m : Media) (row : Row) (t : Stripe) (sl : Fin 8) (recs : List Rec) (ps : List (Nat × Nat)) : List Rec :=
  (recs.zip ps).map (fun x =>
    let a := (m.slicePages t row.w sl).getD x.2.1 (0, 0, 0)
    { x.1 with die := a.1, block := a.2.1, page := a.2.2, offset := x.2.2 })

/-- The unit's records join the row where the compressor placed them. -/
def Media.recsPlaced (m : Media) (r : Nat) (row : Row) (t : Stripe) (sl : Fin 8) (p : Cursor × List (Nat × Nat)) (recs : List Rec) : Media :=
  let m := m.setRow r (fun x => { x with cursors := x.cursors.upd sl (fun _ => p.1), recs := x.recs ++ m.placedAt row t sl recs p.2 })
  { m with wrp := m.wrp.upd sl (fun w => w.counted recs) }

theorem State.packUnit_eq (zero : Bool) : s.packUnit r row t sl ls (s.unitRecords sl n ls).1 zero =
    if zero then (s.linesPacked sl n zero ls).setMedia (fun m => m.setRow r (fun x => { x with recs := x.recs ++ ls.map (s.packedRec sl n zero) }))
    else match (row.cursors[sl]).placeRecs (s.media.slicePages t row.w sl).length ((ls.map (s.packedRec sl n zero)).map (·.len)) with
      | none => s
      | some p => (s.linesPacked sl n zero ls).setMedia (fun m => m.recsPlaced r row t sl p (ls.map (s.packedRec sl n zero))) := by
  have hzip : (ls.zip (s.unitRecords sl n ls).1).map (fun x => recordWith zero x) = ls.map (s.packedRec sl n zero) :=
    s.unitRecords_zip sl n zero ls
  simp only [recordWith] at hzip
  simp only [State.packUnit, hzip, ← List.map_prod_left_eq_zip, List.foldl_map]
  refine if_congr Iff.rfl rfl ?_
  generalize (row.cursors[sl]).placeRecs (s.media.slicePages t row.w sl).length ((ls.map (s.packedRec sl n zero)).map (·.len)) = places
  cases places with
  | none => rfl
  | some p =>
    simp only [Media.recsPlaced, Wrp.counted, List.foldl_map]
    rfl

theorem State.packUnit_zero : s.packUnit r row t sl ls (s.unitRecords sl n ls).1 true =
    (s.linesPacked sl n true ls).setMedia (fun m => m.setRow r (fun x => { x with recs := x.recs ++ ls.map (s.packedRec sl n true) })) :=
  (State.packUnit_eq true).trans (if_pos rfl)

theorem State.packUnit_placed {p : Cursor × List (Nat × Nat)} (h : (row.cursors[sl]).placeRecs (s.media.slicePages t row.w sl).length
      ((s.unitRecords sl n ls).1.map (·.1)) = some p) : s.packUnit r row t sl ls (s.unitRecords sl n ls).1 false =
    (s.linesPacked sl n false ls).setMedia (fun m => m.recsPlaced r row t sl p (ls.map (s.packedRec sl n false))) := by
  have hlens : (ls.map (s.packedRec sl n false)).map (·.len) = (s.unitRecords sl n ls).1.map (·.1) := by
    simp only [State.unitRecords, List.map_map]
    rfl
  rw [State.packUnit_eq, hlens, h]
  rfl

/-- A packed unit: its records, in the order of its lines, follow those of the row, and only their places are new. -/
theorem State.packUnit_row (hrow : s.media.rows.get? r = some row) {zero : Bool} (h : zero = true ∨ ∃ cur ps,
      (row.cursors[sl]).placeRecs (s.media.slicePages t row.w sl).length ((s.unitRecords sl n ls).1.map (·.1)) = some (cur, ps)) :
    ∃ x placed, (s.packUnit r row t sl ls (s.unitRecords sl n ls).1 zero).media.rows.get? r = some x ∧ x.recs = row.recs ++ placed ∧
      placed.length = ls.length ∧
      (∀ e ∈ ls, ∃ a b c d, { s.packedRec sl n zero e with die := a, block := b, page := c, offset := d } ∈ placed) ∧
      (s.packUnit r row t sl ls (s.unitRecords sl n ls).1 zero).land.lines = s.packedLines sl n zero ls := by
  have hmod (f : Row → Row) : ((s.linesPacked sl n zero ls).media.setRow r f).rows.get? r = some (f row) := by
    rw [Media.setRow, AMap.get?_mod]
    exact congrArg (Option.map f) ((congrArg (fun v : AMap Row => v.get? r) (s.packedBack_rows sl n zero ls)).trans hrow)
  cases zero with
  | true =>
    rw [State.packUnit_zero]
    refine ⟨_, _, hmod (fun x => { x with recs := x.recs ++ ls.map (s.packedRec sl n true) }), rfl, List.length_map .., fun e he => ?_, rfl⟩
    exact ⟨0, 0, 0, 0, List.mem_map_of_mem he⟩
  | false =>
    obtain ⟨cur, ps, hp⟩ := h.resolve_left Bool.false_ne_true
    have hlen : ps.length = (ls.map (s.packedRec sl n false)).length := by
      rw [Cursor.placeRecs_length hp, State.unitRecords, List.length_map, List.length_map, List.length_map]
    rw [State.packUnit_placed hp]
    refine ⟨_, _, hmod (fun x => { x with
      cursors := x.cursors.upd sl (fun _ => cur)
      recs := x.recs ++ (s.linesPacked sl n false ls).media.placedAt row t sl (ls.map (s.packedRec sl n false)) ps }), rfl, ?_, fun e he => ?_, rfl⟩
    · rw [Media.placedAt, List.length_map, List.length_zip, hlen, Nat.min_self, List.length_map]
    · obtain ⟨i, hi, hget⟩ := List.getElem_of_mem (List.mem_map_of_mem (f := s.packedRec sl n false) he)
      have hmem : ((ls.map (s.packedRec sl n false))[i], ps[i]'(hlen ▸ hi)) ∈ (ls.map (s.packedRec sl n false)).zip ps := by
        rw [← List.getElem_zip (h := by rw [List.length_zip, hlen, Nat.min_self]; exact hi)]
        exact List.getElem_mem _
      rw [hget] at hmem
      exact ⟨_, _, _, _, List.mem_map_of_mem (f := fun x => _) hmem⟩

end

/-! ### A line is compressed and encrypted -/

/-- The first unit that was dispatched to a slice is packed as soon as its last line is compressed. -/
theorem State.nextUnit_first {row : Row} {t : Stripe} {u : List (Nat × Line)} {us : List (List (Nat × Line))}
    (hu : s.sliceUnits r sl = u :: us) (hf : ∀ e ∈ u, e.2.frame.isSome = true) : s.nextUnit r row t sl = some u := by
  have hall : u.all (fun e => e.2.frame.isSome) = true := List.all_eq_true.mpr hf
  simp only [State.nextUnit, hu, List.find?_cons, hall, List.head?_cons, BEq.rfl, Bool.true_or, Bool.and_self]

theorem State.packReady_first {row : Row} {t : Stripe} {e0 : Nat × Line} {u : List (Nat × Line)} {us : List (List (Nat × Line))} {n : Namespace}
    (hu : s.sliceUnits r sl = (e0 :: u) :: us) (hf : ∀ e ∈ e0 :: u, e.2.frame.isSome = true) (hn : s.media.namespaces.get? e0.2.ns = some n)
    (hrow : s.media.rows.get? r = some row) (ht : s.media.stripes.get? row.stripe = some t) (fuel : Nat) : s.packReady r sl (fuel + 1) =
      ((s.packUnit r row t sl (e0 :: u) (s.unitRecords sl n (e0 :: u)).1 (s.unitRecords sl n (e0 :: u)).2).kpioPacked
        ((e0 :: u).map (·.1))).packReady r sl fuel := by
  have hnext : s.nextUnit r row t sl = some (e0 :: u) := State.nextUnit_first hu hf
  simp only [State.packReady, hrow, ht, hnext, List.head?_cons, Option.bind_some, hn]

/-- A line of a slice has been compressed and encrypted. -/
def State.lineFramed (s : State) (line : Nat) (frame : List Byte) (sl : Fin 8) : State :=
  { s.ungate sl.val 2 with land := { s.land with lines := s.land.lines.mod line (fun l => { l with frame := some frame }) } }

theorem exec_recordPacked (hlive : s.live = true) {line : Nat} {l : Line} (hl : s.land.lines.get? line = some l) (hst : l.st = .committed)
    (hr : l.row = some (r, sl)) (frame : List Byte) : exec (.recordPacked line frame) s =
      .next ((((s.lineFramed line frame sl).packReady r sl ((s.lineFramed line frame sl).sliceUnits r sl).length).closeIfDue r).dispatchAll) := by
  have hl' : (s.ungate sl.val 2).land.lines.get? line = some l := hl
  change execRecordPacked line frame s = _
  rw [execRecordPacked, State.whenLive_live hlive]
  simp only [hl, hr, State.recordPacked, hl', hst, ne_eq, not_true_eq_false, if_false]
  rfl

end

/-- Settles O13: the unit that was dispatched first is packed; `State.packUnit_row` says what it leaves. -/
theorem linePackedIntoRow : Obligations.LinePackedIntoRow := by
  unfold Obligations.LinePackedIntoRow
  intro line r frame sl l n row t e0 u us s s0 hlive hwf hl hst hr hs0 hu hf hn hrow ht hplace
  have hframed : s0 = s.lineFramed line frame sl := hs0
  have hwf0 : s0.land.lines.wf = true := by
    rw [hs0]
    exact AMap.wf_mod hwf line (fun l => { l with frame := some frame })
  have hmedia : s0.media = s.media := by rw [hs0]; rfl
  have hrow0 : s0.media.rows.get? r = some row := by rw [hmedia, hrow]
  obtain ⟨hnodup, hget⟩ := State.sliceUnits_lines hwf0 (u := e0 :: u) (by rw [hu]; exact List.mem_cons_self)
  have hexec := exec_recordPacked hlive hl hst hr frame
  rw [← hframed, hu, List.length_cons, State.packReady_first hu hf (by rw [hmedia, hn]) hrow0 (by rw [hmedia, ht])] at hexec
  have hplace0 : (s0.unitRecords sl n (e0 :: u)).2 = true ∨ ∃ cur ps, (row.cursors[sl]).placeRecs (s0.media.slicePages t row.w sl).length
      ((s0.unitRecords sl n (e0 :: u)).1.map (·.1)) = some (cur, ps) := by rw [hmedia]; exact hplace
  obtain ⟨x, placed, hx, hrecs, hlen, hmem, hlines⟩ := State.packUnit_row hrow0 (t := t) (n := n) (ls := e0 :: u) hplace0
  obtain ⟨hin, hout⟩ := AMap.foldl_mod_get (fun e : Nat × Line => e.1)
    (fun e l => { l with st := .packed, frame := none, resv := (s0.packedRec sl n (s0.unitRecords sl n (e0 :: u)).2 e).len }) (e0 :: u) hnodup s0.land.lines
  refine ⟨_, x, hexec, hx, ?_, ?_, fun e he => ?_, fun k hk => ?_, ?_⟩
  · rw [hrecs]
    exact List.prefix_append ..
  · rw [hrecs, List.length_append, hlen, List.length_cons]
    rfl
  · obtain ⟨a, b, c, d, hrec⟩ := hmem e he
    refine ⟨_, by rw [hrecs]; exact List.mem_append_right _ hrec, rfl, rfl, rfl, rfl, rfl, rfl, rfl, rfl, rfl, ?_⟩
    rw [hlines]
    exact (hin e he).trans (by rw [hget e he]; rfl)
  · rw [hlines]
    exact hout k hk
  · have hc : Changes [.land, .media, .pws] s s0 := by
      rw [hs0]
      exact Changes.land_with _ rfl ((State.ungate_changes ..).step rfl (.refl _ s))
    exact (State.packUnit_changes ..).step rfl hc

end Sys2Proof.Machine
end

section
/-! The statement of chapter 03 about what a NAND read leaves in its ladder and how a decode ends (R104 to R118, R131, R135). -/

namespace Sys2Proof.Machine

open Sys2Proof

/-! ### The candidates of the frame mark (R106 to R109) -/

/-- A candidate is not after another one by the three keys of R108. -/
def MarkCand.NotAfter (c d : MarkCand) : Prop :=
  c.weight ≤ d.weight ∧ (d.weight = c.weight → c.offset.natAbs ≤ d.offset.natAbs ∧ (d.offset.natAbs = c.offset.natAbs → c.offset ≤ d.offset))

theorem MarkCand.NotAfter.refl (c : MarkCand) : c.NotAfter c := ⟨le_rfl, fun _ => ⟨le_rfl, fun _ => le_rfl⟩⟩

theorem MarkCand.NotAfter.trans {a b c : MarkCand} (h : a.NotAfter b) (h' : b.NotAfter c) : a.NotAfter c := by
  unfold MarkCand.NotAfter at *
  omega

theorem MarkCand.before_eq_false {a b : MarkCand} : MarkCand.before a b = false ↔ b.NotAfter a := by
  unfold MarkCand.before MarkCand.NotAfter
  split
  · rw [decide_eq_false_iff_not]
    omega
  · split
    · rw [decide_eq_false_iff_not]
      omega
    · rw [decide_eq_false_iff_not]
      omega

theorem MarkCand.NotAfter.of_before {a b : MarkCand} (h : MarkCand.before a b = true) : a.NotAfter b := by
  have hn : ¬ b.NotAfter a := fun hn => by simp [MarkCand.before_eq_false.mpr hn] at h
  unfold MarkCand.NotAfter at *
  omega

/-- A candidate that wins, after one that led: it is that one or one of the others, and it is after none of them. -/
theorem bestMark_foldl (cs : List MarkCand) (b c : MarkCand)
    (h : cs.foldl (fun (b : Option MarkCand) c => match b with
      | none => some c
      | some x => if MarkCand.before c x then some c else some x) (some b) = some c) :
    c ∈ b :: cs ∧ ∀ d ∈ b :: cs, c.NotAfter d := by
  induction cs generalizing b with
  | nil =>
    cases h
    exact ⟨List.mem_singleton_self _, fun d hd => by rw [List.mem_singleton.mp hd]; exact .refl _⟩
  | cons x xs ih =>
    rw [List.foldl_cons] at h
    dsimp only at h
    split at h
    next hx =>
      obtain ⟨hmem, hle⟩ := ih x h
      refine ⟨List.mem_cons_of_mem _ hmem, List.forall_mem_cons.mpr ⟨?_, hle⟩⟩
      exact (hle x List.mem_cons_self).trans (.of_before hx)
    next hx =>
      obtain ⟨hmem, hle⟩ := ih b h
      obtain ⟨hb, hxs⟩ := List.forall_mem_cons.mp hle
      refine ⟨?_, List.forall_mem_cons.mpr ⟨hb, List.forall_mem_cons.mpr ⟨?_, hxs⟩⟩⟩
      · rcases List.mem_cons.mp hmem with he | he
        · exact he ▸ List.mem_cons_self
        · exact List.mem_cons_of_mem _ (List.mem_cons_of_mem _ he)
      · exact hb.trans (MarkCand.before_eq_false.mp (Bool.eq_false_iff.mpr hx))

/-- The candidate that wins is the first by the three keys of R108. -/
theorem bestMark_least {cs : List MarkCand} {c : MarkCand} (h : bestMark cs = some c) : c ∈ cs ∧ ∀ d ∈ cs, c.NotAfter d := by
  cases cs with
  | nil => cases h
  | cons b cs => exact bestMark_foldl cs b c h

/-- The places of a search up to `lim` bytes from the nominal start. -/
theorem mem_searched (lim : Nat) (o : Int) :
    o ∈ (List.range (2 * lim + 1)).map (fun i => (i : Int) - lim) ↔ -(lim : Int) ≤ o ∧ o ≤ lim := by
  simp only [List.mem_map, List.bind_eq_flatMap, List.pure_def, List.mem_flatMap, List.mem_singleton, List.mem_range]
  constructor
  · rintro ⟨i, ⟨j, hj, rfl⟩, rfl⟩
    omega
  · rintro ⟨hlo, hhi⟩
    exact ⟨o + lim, ⟨(o + lim).toNat, by omega, by omega⟩, by omega⟩

theorem mem_acceptedMarks (win : List Byte) (start cw lim : Nat) (pilots : List Byte) (o : Int) :
    o ∈ acceptedMarks win start cw lim pilots ↔ -(lim : Int) ≤ o ∧ o ≤ lim ∧ 0 ≤ (4640 * cw : Nat) + o ∧
      (4640 * cw : Nat) + o + 4 ≤ 18560 ∧ (∃ x, differing (cut win start ((4640 * cw : Nat) + o) 4) frameMark = some x ∧ x ≤ 4) ∧
      224 ≤ correlation (cut win start ((4640 * cw : Nat) + o + 4) 32) pilots := by
  rw [acceptedMarks, List.mem_filter, mem_searched]
  simp only [cwBytes, pageBytes, Bool.and_eq_true]
  cases hd : differing (cut win start ((4640 * cw : Nat) + o) 4) frameMark with
  | none => simp
  | some x => simp [and_assoc]

theorem estimate_clamped (acqStep acqMax n up down : Nat) : (estimate acqStep acqMax n up down).natAbs ≤ acqMax * 64 := by
  unfold estimate
  dsimp only
  omega

/-! ### The steps of a ladder (R131) -/

theorem Ladder.again_eq_false {l : Ladder} (h : l.step ≠ 1) : l.again = false := by simp [Ladder.again, h]

/-- A ladder does not run a step: it has run, its re-read would repeat the read, or no soft decoder is there. -/
def Ladder.out (l : Ladder) (noSoft : Bool) (k : Nat) : Bool :=
  (l.step :: l.ran).contains k || (decide (k = 1) && l.skip1) || (noSoft && decide (2 ≤ k) && decide (k ≤ 4))

theorem Ladder.next_search {l : Ladder} {noSoft : Bool} (hagain : l.again = false) (hmissed : ¬ (l.step = 0 ∧ l.missed)) :
    l.next noSoft = ((List.range 7).find? (fun k => !l.out noSoft k)).getD 7 := by
  rw [Ladder.next, if_neg (Bool.eq_false_iff.mp hagain), if_neg hmissed]
  rfl

/-- A step that runs next has not run, is not step 1 where its re-read would repeat the read, and is soft only with a soft decoder. -/
theorem Ladder.next_of_search {l : Ladder} {noSoft : Bool} (hagain : l.again = false) (hmissed : ¬ (l.step = 0 ∧ l.missed))
    (hnext : l.next noSoft < 7) : l.next noSoft ∉ l.ran ∧ l.next noSoft ≠ l.step := by
  rw [Ladder.next_search hagain hmissed] at *
  cases hf : (List.range 7).find? (fun k => !l.out noSoft k) with
  | none => exact absurd hnext (by rw [hf]; decide)
  | some k =>
    have := List.find?_some hf
    unfold Ladder.out at this
    simp only [Bool.not_eq_true', Bool.or_eq_false_iff, List.contains_eq_mem, decide_eq_false_iff_not, List.mem_cons, not_or] at this
    obtain ⟨⟨⟨hstep, hran⟩, -⟩, -⟩ := this
    exact ⟨hran, hstep⟩

theorem Ladder.next_le (l : Ladder) (noSoft : Bool) : l.next noSoft ≤ 7 := by
  by_cases hagain : l.again = true
  · simp [Ladder.next, hagain]
  · by_cases hmissed : l.step = 0 ∧ l.missed
    · simp [Ladder.next, hagain, hmissed]
    · rw [Ladder.next_search (Bool.eq_false_iff.mpr hagain) hmissed]
      cases hf : (List.range 7).find? (fun k => !l.out noSoft k) with
      | none => exact Nat.le_refl 7
      | some k => exact (List.mem_range.mp (List.mem_of_find?_eq_some hf)).le

theorem Ladder.next_missed {l : Ladder} (hstep : l.step = 0) (hmissed : l.missed = true) (noSoft : Bool) : l.next noSoft = 5 := by
  simp [Ladder.next, Ladder.again, hstep, hmissed]

theorem Ladder.next_skipping {l : Ladder} (hstep : l.step = 0) (hmissed : l.missed = false) (hran : l.ran = []) (hskip : l.skip1 = true) :
    l.next false = 2 := by
  simp [Ladder.next, Ladder.again, hstep, hmissed, hran, hskip, List.range_succ]

theorem Ladder.next_reread {l : Ladder} (hstep : l.step = 0) (hmissed : l.missed = false) (hran : l.ran = []) (hskip : l.skip1 = false)
    (noSoft : Bool) : l.next noSoft = 1 := by
  simp [Ladder.next, Ladder.again, hstep, hmissed, hran, hskip, List.range_succ]

theorem Ladder.next_again {l : Ladder} (hstep : l.step = 1) (hre : l.rereads < 2) (hest : ∃ e ∈ l.est, l.acqMax * 64 ≤ e.natAbs)
    (noSoft : Bool) : l.next noSoft = 1 := by
  have hagain : l.again = true := by simpa [Ladder.again, hstep, hre] using hest
  simp [Ladder.next, hagain]

/-! ### A step-0 read (R104, R110, R114) -/

section
variable {rid d k : Nat} {l : Ladder} {sig : ReadSignals} {s : State}

/-- What a ladder has of a read of its own bytes at step 0. -/
def Ladder.readAt0 (m : Media) (l : Ladder) (win : Nat) (bytes : List Byte) (k : Nat) : Ladder :=
  m.takeRead l k ((bytes.drop (l.part.1 - win)).take l.part.2) l.part.1

/-- The state with the bytes of a step-0 read in their ladder. -/
def State.tookRead (s : State) (rid k : Nat) (l : Ladder) (own : List Byte) : State :=
  s.setMedia (fun m => (m.countMark l (s.media.marks l own l.part.1).length).setRead rid (fun _ => s.media.takeRead l k own l.part.1))

theorem Media.countMark_reads (m : Media) (l : Ladder) (n : Nat) : (m.countMark l n).reads = m.reads := by
  unfold Media.countMark
  split
  · rfl
  · split
    · rfl
    · split
      · rfl
      · rfl

theorem Media.countMark_marks (m : Media) {l : Ladder} (hstep : l.step = 0) (n : Nat) :
    (m.countMark l n).markMissed = m.markMissed + (if n = 0 then 1 else 0) ∧
    (m.countMark l n).markDual = m.markDual + (if 2 ≤ n then 1 else 0) := by
  unfold Media.countMark
  rw [if_neg (not_not.mpr hstep)]
  by_cases h : n = 0
  · subst h
    simp [Media.setRdc]
  · by_cases h2 : 2 ≤ n
    · simp [h, h2, Media.setRdc]
    · simp [h, h2]

theorem State.tookRead_reads (own : List Byte) (hread : s.media.reads.get? rid = some l) :
    (s.tookRead rid k l own).media.reads.get? rid = some (s.media.takeRead l k own l.part.1) := by
  change AMap.get? (AMap.mod (Media.reads (s.media.countMark l (s.media.marks l own l.part.1).length)) rid
    (fun _ => s.media.takeRead l k own l.part.1)) rid = _
  rw [Media.countMark_reads, AMap.get?_mod, hread]
  rfl

theorem State.takePart_step0 (hread : s.media.reads.get? rid = some l) (hstep : l.step = 0) (win : Nat) (bytes : List Byte) :
    s.takePart rid k win bytes =
      (s.tookRead rid k l ((bytes.drop (l.part.1 - win)).take l.part.2)).noteDrift (l.readAt0 s.media win bytes k) := by
  unfold State.takePart
  rw [hread]
  simp only [if_pos hstep]
  rfl

/-- The window, the marks and the pilots of a ladder do not see the buses of the channels. -/
theorem State.BusMoved.reads {t : State} (h : State.BusMoved s t) : t.media.reads = s.media.reads :=
  (congrArg Media.reads h.media :)

theorem State.BusMoved.found {t : State} (h : State.BusMoved s t) :
    t.media.markMissed = s.media.markMissed ∧ t.media.markDual = s.media.markDual :=
  ⟨(congrArg Media.markMissed h.media :), (congrArg Media.markDual h.media :)⟩

theorem State.BusMoved.takeRead {t : State} (h : State.BusMoved s t) (l : Ladder) (k : Nat) (bytes : List Byte) (start : Nat) :
    t.media.takeRead l k bytes start = s.media.takeRead l k bytes start :=
  (congrArg (fun m : Media => m.takeRead l k bytes start) h.media :)

theorem State.BusMoved.marks {t : State} (h : State.BusMoved s t) (l : Ladder) (bytes : List Byte) (start : Nat) :
    t.media.marks l bytes start = s.media.marks l bytes start :=
  (congrArg (fun m : Media => m.marks l bytes start) h.media :)

theorem execNandReadData_step0 (hlive : s.live = true) (hgo : s.readsGo = true) (hflight : s.media.flight rid = some (d, k))
    (hread : s.media.reads.get? rid = some l) (hstep : l.step = 0) (hserved : s.media.served rid l = [rid])
    (hmiss : s.media.pageMissed l sig.window = false) :
    exec (.nandReadData rid sig) s = .next (((((((s.busPast d).tookRead rid k l ((sig.window.drop (l.part.1 -
      (s.media.readWindow l).1)).take l.part.2)).noteDrift (l.readAt0 s.media (s.media.readWindow l).1 sig.window k)).transferred d rid
        k).arrived rid).countTrigger l.die l.block |>.probesGo (chOf d)).settleReads) := by
  have hbus := (State.BusMoved.refl s).busPast d
  have hreadB : (s.busPast d).media.reads.get? rid = some l := by rw [hbus.reads, hread]
  have hservedB : (s.busPast d).media.served rid l = [rid] := by
    rw [Media.served, hbus.reads]
    exact hserved
  have hwindow : (s.busPast d).media.readWindow l = s.media.readWindow l := by
    rw [Media.readWindow, hbus.reads]
    rfl
  have hgoB : (s.busPast d).readsGo = true := by
    rw [State.readsGo, hbus.rest.rest .phase (by decide)]
    exact hgo
  have hentry : ¬ (l.perEntry = 2 ∧ l.await = 2) := by simp [Ladder.perEntry, hstep]
  change execNandReadData rid sig s = _
  rw [execNandReadData, State.whenLive_live hlive, State.nandData, hflight]
  simp only [hgo, hread, Option.any_some, hmiss, Bool.and_false, Bool.false_eq_true, if_false, State.readData, hflight, hreadB, hservedB,
    hgoB, Bool.not_true, List.foldl_cons, List.foldl_nil, if_neg hentry]
  rw [State.takePart_step0 hreadB hstep, hwindow]
  unfold Ladder.readAt0
  rw [hbus.takeRead]

end

/-! ### Decodes that end (R105, R131, R135) -/

section
variable {rid iters : Nat} {l : Ladder} {s : State}

theorem Media.endRead_reads (m : Media) (rid n : Nat) (l : Ladder) : (m.endRead rid n l).reads.get? rid = none := AMap.get?_del _ _

theorem Media.setRdc_get (m : Media) (sl : Fin 8) (f : Rdc → Rdc) : (m.setRdc sl f).rdc[sl] = f m.rdc[sl] := Tbl.upd_get _ _ _

theorem Media.setTrack_at (m : Media) (l : Ladder) (f : Track → Track) :
    (m.setTrack l f).trackAt (m.trackKey l.die l.block (l.page / max 1 m.types)) =
      f (m.trackAt (m.trackKey l.die l.block (l.page / max 1 m.types))) := by
  unfold Media.trackAt Media.setTrack
  dsimp only
  rw [AMap.get?_put]
  rfl

theorem execDecodeComplete_eq (hlive : s.live = true) (out : DecodeEnd) :
    exec (.decodeComplete rid out iters) s = .next (((s.wakeDecoders rid).decoded rid out iters).settleReads) := by
  change execDecodeComplete rid out iters s = _
  rw [execDecodeComplete, State.whenLive_live hlive]

theorem State.decoded_recovered (hread : s.media.reads.get? rid = some l) (hawait : l.await = 0) (hstep : l.step < 5)
    (hiters : iters ≤ l.iterations) (hwho : ∀ p, l.who ≠ .export_ p) : s.decoded rid .recovered iters = s.recovered rid l := by
  unfold State.decoded
  simp only [hread, hawait, Nat.not_le.mpr hstep, hiters, ne_eq, not_true, or_self, if_false, reduceCtorEq, not_false_iff, decide_true,
    Bool.and_self, Bool.or_true, Bool.not_true, Bool.false_eq_true, and_false, if_true]

theorem State.decoded_notConverged (hread : s.media.reads.get? rid = some l) (hawait : l.await = 0) (hstep : l.step < 5)
    (hwho : ∀ p, l.who ≠ .export_ p) : s.decoded rid .notConverged iters = s.stepFailed rid l false := by
  unfold State.decoded
  simp only [hread, hawait, Nat.not_le.mpr hstep, ne_eq, not_true, or_self, if_false, decide_false, Bool.false_and, Bool.false_eq_true,
    false_and]

theorem State.decoded_dirMismatch (hread : s.media.reads.get? rid = some l) (hawait : l.await = 0) (hstep : l.step < 5)
    (hiters : iters ≤ l.iterations) (hparity : s.media.isParity l = false) (hwho : ∀ p, l.who ≠ .export_ p) :
    s.decoded rid .dirMismatch iters = s.unrecovered rid l 0x3131 := by
  unfold State.decoded
  simp only [hread, hawait, Nat.not_le.mpr hstep, hiters, hparity, ne_eq, not_true, or_self, if_false, reduceCtorEq, not_false_iff,
    decide_true, decide_false, Bool.and_self, Bool.or_false, Bool.and_false, Bool.not_false, and_false, Bool.false_eq_true, and_self,
    if_true]

/-- The state in which a miscorrection is counted (R105). -/
def State.miscorrected (s : State) (l : Ladder) : State :=
  s.setMedia (fun m => m.setRdc (sliceOf l.die) (fun r => { r with miscorr := r.miscorr + 1 }))

theorem State.decoded_crcMismatch (hread : s.media.reads.get? rid = some l) (hawait : l.await = 0) (hstep : l.step < 5)
    (hiters : iters ≤ l.iterations) (hparity : s.media.isParity l = false) (hwho : ∀ p, l.who ≠ .export_ p) :
    s.decoded rid .crcMismatch iters = (s.miscorrected l).stepFailed rid l false := by
  unfold State.decoded
  simp only [hread, hawait, Nat.not_le.mpr hstep, hiters, hparity, ne_eq, not_true, or_self, if_false, reduceCtorEq, not_false_iff,
    decide_true, decide_false, Bool.and_self, Bool.or_false, Bool.and_false, Bool.not_false, and_false, Bool.false_eq_true, and_self,
    if_true]
  rfl

/-- A decode that has ended a ladder as recovered, before its reports. -/
def State.learned (s : State) (rid : Nat) (l : Ladder) : State :=
  (s.trackUpdate l).setMedia (fun m => m.endRead rid l.endStep l)

theorem State.learned_changes (s : State) (rid : Nat) (l : Ladder) : Changes [.media] s (s.learned rid l) :=
  (State.setMedia_changes ..).step rfl ((State.trackUpdate_changes ..).step rfl (.refl _ s))

/-- The state in which a recovered codeword is noted (R117, R128). -/
def State.noted (s : State) (l : Ladder) : State :=
  s.setMedia (fun m => (m.noteRecent s.tb.count.toNat l).noteNeighbour l)

theorem Media.noteNeighbour_keeps (m : Media) (l : Ladder) :
    (m.noteNeighbour l).track = m.track ∧ (m.noteNeighbour l).profile = m.profile ∧ (m.noteNeighbour l).rdc = m.rdc := by
  unfold Media.noteNeighbour
  split
  · exact ⟨rfl, rfl, rfl⟩
  · exact ⟨rfl, rfl, rfl⟩

theorem State.noted_keeps (s : State) (l : Ladder) :
    (s.noted l).media.track = s.media.track ∧ (s.noted l).media.profile = s.media.profile ∧ (s.noted l).media.rdc = s.media.rdc :=
  Media.noteNeighbour_keeps _ l

theorem State.trackUpdate_off (h : s.media.rdc[sliceOf l.die].trackEn = false ∨ l.hard = []) : s.trackUpdate l = s.noted l := by
  have h' : (!(s.noted l).media.rdc[sliceOf l.die].trackEn) = true ∨ l.hard = [] := by
    rw [(s.noted_keeps l).2.2]
    simpa using h
  exact if_pos h'

theorem State.trackUpdate_on (hen : s.media.rdc[sliceOf l.die].trackEn = true) (hhard : l.hard ≠ []) :
    s.trackUpdate l = (s.noted l).setMedia (fun m => m.setTrack l (fun t => (t.aged s.clocks.opsec.toNat (s.param 0x3100 1)).update
      l.refs l.used ((s.noted l).media.trackEstimates s.tb.count.toNat l) s.clocks.opsec.toNat)) := by
  have h' : ¬ ((!(s.noted l).media.rdc[sliceOf l.die].trackEn) = true ∨ l.hard = []) := by
    rw [(s.noted_keeps l).2.2, hen]
    simpa using hhard
  exact if_neg h'

theorem State.trackUpdate_rdc (s : State) (l : Ladder) : (s.trackUpdate l).media.rdc = s.media.rdc := by
  by_cases h : s.media.rdc[sliceOf l.die].trackEn = true ∧ l.hard ≠ []
  · rw [State.trackUpdate_on h.1 h.2]
    exact (s.noted_keeps l).2.2
  · rw [State.trackUpdate_off (by simpa [imp_iff_not_or] using h)]
    exact (s.noted_keeps l).2.2

/-- The key of a page's entry rests on the profile of the flash alone, and a table's entries on the table and the profile. -/
theorem Media.trackKey_congr {m m' : Media} (h : m'.profile = m.profile) (die block page : Nat) :
    m'.trackKey die block (page / max 1 m'.types) = m.trackKey die block (page / max 1 m.types) := by
  have hqlc : m'.qlc = m.qlc := by rw [Media.qlc, h, Media.qlc]
  have hwl : m'.wordlines = m.wordlines := by rw [Media.wordlines, h, Media.wordlines]
  simp only [Media.trackKey, Media.types, hqlc, hwl]

theorem Media.trackAt_congr {m m' : Media} (htrack : m'.track = m.track) (h : m'.profile = m.profile) (k : Nat) :
    m'.trackAt k = m.trackAt k := by
  simp only [Media.trackAt, Media.trackDefault, htrack, h]

theorem State.trackUpdate_entry (hen : s.media.rdc[sliceOf l.die].trackEn = true) (hhard : l.hard ≠ []) :
    (s.trackUpdate l).media.trackAt (s.media.trackKey l.die l.block (l.page / max 1 s.media.types)) =
      ((s.media.trackAt (s.media.trackKey l.die l.block (l.page / max 1 s.media.types))).aged s.clocks.opsec.toNat
        (s.param 0x3100 1)).update l.refs l.used ((s.noted l).media.trackEstimates s.tb.count.toNat l) s.clocks.opsec.toNat := by
  obtain ⟨htrack, hprofile, -⟩ := s.noted_keeps l
  rw [State.trackUpdate_on hen hhard, ← Media.trackKey_congr hprofile]
  refine (Media.setTrack_at _ l _).trans ?_
  rw [Media.trackAt_congr htrack hprofile]

theorem State.learned_media (s : State) (rid : Nat) (l : Ladder) :
    (s.learned rid l).media.reads.get? rid = none ∧
    (s.learned rid l).media.rdc[sliceOf l.die].stepCnt =
      (s.media.rdc[sliceOf l.die].stepCnt).upd (Fin.ofNat 8 l.endStep) satInc := by
  refine ⟨Media.endRead_reads .., ?_⟩
  rw [← State.trackUpdate_rdc s l]
  exact congrArg Rdc.stepCnt (Media.setRdc_get (s.trackUpdate l).media (sliceOf l.die)
    (fun r => { r with stepCnt := r.stepCnt.upd (Fin.ofNat 8 l.endStep) satInc }))

/-! ### Codewords that are unrecovered, and steps that fail -/

/-- A decode that has ended a ladder as unrecovered with an event, before its reports. -/
def State.givenUp (s : State) (rid : Nat) (l : Ladder) (code : Nat) : State :=
  (s.log code (sliceOf l.die).val (l.data l.top)).setMedia (fun m => m.endRead rid 7 l)

theorem State.givenUp_changes (s : State) (rid : Nat) (l : Ladder) (code : Nat) : Changes [.media, .evr] s (s.givenUp rid l code) :=
  (State.setMedia_changes ..).step rfl ((State.log_changes ..).step rfl (.refl _ s))

theorem State.givenUp_media (s : State) (rid : Nat) (l : Ladder) (code : Nat) :
    (s.givenUp rid l code).media = s.media.endRead rid 7 l := rfl

theorem Media.endRead_miscorr (m : Media) (rid n : Nat) (l : Ladder) (sl : Fin 8) :
    (m.endRead rid n l).rdc[sl].miscorr = m.rdc[sl].miscorr := by
  change (m.rdc.upd (sliceOf l.die) _)[sl].miscorr = _
  by_cases h : sl = sliceOf l.die
  · rw [h, Tbl.upd_get]
  · rw [Tbl.upd_get_ne _ _ _ _ h]

/-- A step that fails leaves the entry of its page stale at step 0 (R118). -/
def State.stepStale (s : State) (l : Ladder) : State :=
  if l.step = 0 then s.setMedia (fun m => m.staleTrack l) else s

theorem State.stepStale_changes (s : State) (l : Ladder) : Changes [.media] s (s.stepStale l) := by
  unfold State.stepStale
  split
  · exact (State.setMedia_changes ..).step rfl (.refl _ s)
  · exact .refl _ s

theorem State.stepStale_rdc (s : State) (l : Ladder) : (s.stepStale l).media.rdc = s.media.rdc := by
  unfold State.stepStale
  split
  · rfl
  · rfl

theorem State.stepFailed_last (hstep : l.step < 5) (hnext : l.next (s.units.noSoft (sliceOf l.die)) = 7) :
    s.stepFailed rid l false = (s.stepStale l).unrecovered rid l 0x3120 := by
  have hunits : (s.stepStale l).units = s.units := (s.stepStale_changes l).rest .units (by decide)
  have h7 : 7 ≤ (if l.step = 5 then l.failed false else l).next ((s.stepStale l).units.noSoft (sliceOf l.die)) ∨ l.step = 6 := by
    rw [if_neg hstep.ne, hunits, hnext]
    exact .inl (Nat.le_refl 7)
  exact if_pos h7

theorem State.stepFailed_reread (hstep : l.step = 0) (hran : l.ran = []) (hmissed : l.missed = false) (hskip : l.skip1 = false)
    (hcap : 1 ≤ l.cap) (hservice : s.service = false) :
    s.stepFailed rid l false = ((s.stepStale l).setMedia (fun m => m.setRead rid (fun _ => { l with ran := [0] }))).startStep rid 1 := by
  have hnext : l.next ((s.stepStale l).units.noSoft (sliceOf l.die)) = 1 := Ladder.next_reread hstep hmissed hran hskip _
  have hnow : l.capNow = l.cap := by
    unfold Ladder.capNow
    split
    · rw [if_neg (by simp [hmissed])]
    · rfl
  have hfailed : l.failed false = { l with ran := [0] } := by simp [Ladder.failed, hstep, hran]
  have hserv : (s.stepStale l).service = false := by
    unfold State.stepStale
    rw [if_pos hstep]
    exact hservice
  change (if 7 ≤ (if l.step = 5 then l.failed false else l).next ((s.stepStale l).units.noSoft (sliceOf l.die)) ∨ l.step = 6 then _
    else if l.capNow < (if l.step = 5 then l.failed false else l).next ((s.stepStale l).units.noSoft (sliceOf l.die)) then _
    else if (s.stepStale l).service ∧ (s.stepStale l).media.rdc[sliceOf l.die].stepLimit.toNat <
      (if l.step = 5 then l.failed false else l).next ((s.stepStale l).units.noSoft (sliceOf l.die)) then _
    else ((s.stepStale l).setMedia (fun m => m.setRead rid (fun _ => l.failed false))).startStep rid
      ((if l.step = 5 then l.failed false else l).next ((s.stepStale l).units.noSoft (sliceOf l.die)))) = _
  rw [if_neg (show ¬ l.step = 5 by omega), hnext, if_neg (by omega), if_neg (by omega), if_neg (by simp [hserv]), hfailed]

theorem State.stepStale_stale (hstep : l.step = 0) :
    ((s.stepStale l).media.trackAt (s.media.trackKey l.die l.block (l.page / max 1 s.media.types))).stale = true := by
  unfold State.stepStale
  rw [if_pos hstep]
  exact congrArg Track.stale (Media.setTrack_at s.media l _)

end

/-! ### The commands -/

section
variable {rid d k iters : Nat} {l : Ladder} {sig : ReadSignals} {s : State}

/-- The bytes of the window that a ladder at step 0 keeps. -/
def Ladder.ownBytes (m : Media) (l : Ladder) (sig : ReadSignals) : List Byte :=
  (sig.window.drop (l.part.1 - (m.readWindow l).1)).take l.part.2

theorem State.tookRead_changes (own : List Byte) : Changes [.media] s (s.tookRead rid k l own) :=
  State.setMedia_changes ..

/-- What a step-0 read leaves in its ladder: the alignment that its marks give and the estimates at it (R106 to R114). -/
theorem Media.takeRead_step0 (m : Media) (hstep : l.step = 0) (own : List Byte) (start : Nat) :
    m.takeRead l k own start = { l with
      await := l.await - 1, hard := own, start := start, align := m.alignment l own start, missed := (m.marks l own start).isEmpty,
      est0 := m.pilotEstimates l (received own start l.cw (m.alignment l own start)),
      est := m.pilotEstimates l (received own start l.cw (m.alignment l own start)),
      estLast := m.pilotEstimates l (received own start l.cw (m.alignment l own start)) } := by
  cases l
  cases hstep
  rfl

theorem Media.alignment_step0 (m : Media) (hstep : l.step = 0) (hreal : l.realigned = false) (own : List Byte) (start : Nat) :
    m.alignment l own start = { shift := (markChosen own start l.cw (m.marks l own start)).getD 0 } := by
  unfold Media.alignment
  rw [if_neg (by simp [hreal])]
  cases markChosen own start l.cw (m.marks l own start) with
  | some o => rfl
  | none => exact if_pos hstep

theorem nandReadData_step0 (hlive : s.live = true) (hgo : s.readsGo = true) (hflight : s.media.flight rid = some (d, k))
    (hread : s.media.reads.get? rid = some l) (hstep : l.step = 0) (hserved : s.media.served rid l = [rid])
    (hmiss : s.media.pageMissed l sig.window = false) :
    ∃ s1 l' own, exec (.nandReadData rid sig) s = .next
         (((((((s1.noteDrift l').transferred d rid k).arrived rid).countTrigger l.die l.block)).probesGo (chOf d)).settleReads) ∧
       own = (sig.window.drop (l.part.1 - (s.media.readWindow l).1)).take l.part.2 ∧
       s1.media.reads.get? rid = some l' ∧ l'.await = l.await - 1 ∧ l'.hard = own ∧ l'.start = l.part.1 ∧
       (l'.missed = true ↔ s.media.marks l own l.part.1 = []) ∧
       (l.realigned = false → l'.align = { shift := (markChosen own l.part.1 l.cw (s.media.marks l own l.part.1)).getD 0 }) ∧
       l'.est0 = s.media.pilotEstimates l (received own l.part.1 l.cw l'.align) ∧ l'.est = l'.est0 ∧
       s1.media.markMissed = s.media.markMissed + (if s.media.marks l own l.part.1 = [] then 1 else 0) ∧
       s1.media.markDual = s.media.markDual + (if 2 ≤ (s.media.marks l own l.part.1).length then 1 else 0) ∧
       Changes [.media, .out] s s1 := by
  have hbus := (State.BusMoved.refl s).busPast d
  have hreadB : (s.busPast d).media.reads.get? rid = some l := by rw [hbus.reads, hread]
  obtain ⟨hmissed, hdual⟩ := (s.busPast d).media.countMark_marks hstep (s.media.marks l (l.ownBytes s.media sig) l.part.1).length
  have htake := s.media.takeRead_step0 (k := k) hstep (l.ownBytes s.media sig) l.part.1
  refine ⟨(s.busPast d).tookRead rid k l (l.ownBytes s.media sig), l.readAt0 s.media (s.media.readWindow l).1 sig.window k,
    l.ownBytes s.media sig, execNandReadData_step0 hlive hgo hflight hread hstep hserved hmiss, rfl, ?_, ?_, ?_, ?_, ?_, ?_, ?_, ?_, ?_, ?_,
    (State.tookRead_changes _).step rfl ((State.busPast_changes ..).step rfl (.refl _ s))⟩
  · rw [State.tookRead_reads _ hreadB, hbus.takeRead]
    rfl
  · exact congrArg Ladder.await htake
  · exact congrArg Ladder.hard htake
  · exact congrArg Ladder.start htake
  · rw [show (l.readAt0 _ _ _ _).missed = _ from congrArg Ladder.missed htake]
    exact List.isEmpty_iff
  · intro hreal
    rw [show (l.readAt0 _ _ _ _).align = _ from congrArg Ladder.align htake]
    exact s.media.alignment_step0 hstep hreal _ _
  · rw [show (l.readAt0 _ _ _ _).align = _ from congrArg Ladder.align htake]
    exact congrArg Ladder.est0 htake
  · exact (congrArg Ladder.est htake).trans (congrArg Ladder.est0 htake).symm
  · refine Eq.trans ?_ (hmissed.trans ?_)
    · rw [← hbus.marks, State.tookRead, State.setMedia_media, Media.setRead]
    · rw [hbus.found.1]
      simp only [List.length_eq_zero_iff]
  · refine Eq.trans ?_ (hdual.trans ?_)
    · rw [← hbus.marks, State.tookRead, State.setMedia_media, Media.setRead]
    · rw [hbus.found.2]

/-- A decode that recovers its codeword (R105, R117). -/
theorem decodeComplete_recovered (hlive : s.live = true) (hread : s.media.reads.get? rid = some l) (hawait : l.await = 0)
    (hstep : l.step < 5) (hiters : iters ≤ l.iterations) (hwho : ∀ p, l.who ≠ .export_ p) :
    ∃ s1, exec (.decodeComplete rid .recovered iters) s = .next (((s1.report l l.endStep true).settled rid l true).settleReads) ∧
      s1.media.reads.get? rid = none ∧
      s1.media.rdc[sliceOf l.die].stepCnt = (s.media.rdc[sliceOf l.die].stepCnt).upd (Fin.ofNat 8 l.endStep) satInc ∧
      (s.media.rdc[sliceOf l.die].trackEn = false ∨ l.hard = [] → s1.media.track = s.media.track) ∧
      (s.media.rdc[sliceOf l.die].trackEn = true → l.hard ≠ [] → ∃ es,
        s1.media.trackAt (s.media.trackKey l.die l.block (l.page / max 1 s.media.types)) =
          ((s.media.trackAt (s.media.trackKey l.die l.block (l.page / max 1 s.media.types))).aged s.clocks.opsec.toNat
            (s.param 0x3100 1)).update l.refs l.used es s.clocks.opsec.toNat) ∧
      Changes [.media, .pws] s s1 := by
  have hwake := State.wakeDecoders_changes s rid
  have hmedia : (s.wakeDecoders rid).media = s.media := hwake.rest .media (by decide)
  have hclocks : (s.wakeDecoders rid).clocks = s.clocks := hwake.rest .clocks (by decide)
  have hparam : (s.wakeDecoders rid).param 0x3100 1 = s.param 0x3100 1 :=
    congrArg (fun d : Dict => d.param 0x3100 1) (hwake.rest .dict (by decide))
  obtain ⟨hgone, hcount⟩ := State.learned_media (s.wakeDecoders rid) rid l
  refine ⟨(s.wakeDecoders rid).learned rid l, ?_, hgone, hmedia ▸ hcount, fun hoff => ?_, fun hon hhard => ?_,
    (State.learned_changes ..).step rfl (hwake.mono rfl)⟩
  · rw [execDecodeComplete_eq hlive, State.decoded_recovered (by rw [hmedia, hread]) hawait hstep hiters hwho]
    rfl
  · refine (congrArg Media.track (congrArg State.media (State.trackUpdate_off (l := l) (hmedia ▸ hoff)))).trans ?_
    rw [(State.noted_keeps _ l).1, hmedia]
  · have hentry := State.trackUpdate_entry (s := s.wakeDecoders rid) (l := l) (hmedia ▸ hon) hhard
    rw [hmedia, hclocks, hparam] at hentry
    exact ⟨_, hentry⟩

/-- A step 0 that does not converge goes on to the re-read (R115, R118, R131). -/
theorem decodeComplete_notConverged (hlive : s.live = true) (hread : s.media.reads.get? rid = some l) (hawait : l.await = 0)
    (hstep : l.step = 0) (hran : l.ran = []) (hmissed : l.missed = false) (hskip : l.skip1 = false) (hcap : 1 ≤ l.cap)
    (hwho : ∀ p, l.who ≠ .export_ p) (hservice : s.service = false) :
    ∃ s1, exec (.decodeComplete rid .notConverged iters) s = .next ((s1.startStep rid 1).settleReads) ∧
      s1.media.reads.get? rid = some { l with ran := [0] } ∧
      (s1.media.trackAt (s.media.trackKey l.die l.block (l.page / max 1 s.media.types))).stale = true ∧ Changes [.media, .pws] s s1 := by
  have hwake := State.wakeDecoders_changes s rid
  have hmedia : (s.wakeDecoders rid).media = s.media := hwake.rest .media (by decide)
  have hserv : (s.wakeDecoders rid).service = false := by
    rw [State.service, hwake.rest .boot (by decide), hwake.rest .board (by decide), hwake.rest .phase (by decide)]
    exact hservice
  refine ⟨((s.wakeDecoders rid).stepStale l).setMedia (fun m => m.setRead rid (fun _ => { l with ran := [0] })), ?_, ?_, ?_,
    (State.setMedia_changes ..).step rfl ((State.stepStale_changes ..).step rfl (hwake.mono rfl))⟩
  · rw [execDecodeComplete_eq hlive, State.decoded_notConverged (by rw [hmedia, hread]) hawait (by omega) hwho,
      State.stepFailed_reread hstep hran hmissed hskip hcap hserv]
  · refine (AMap.get?_mod ((s.wakeDecoders rid).stepStale l).media.reads rid (fun _ => { l with ran := [0] })).trans ?_
    have hreads : ((s.wakeDecoders rid).stepStale l).media.reads = s.media.reads := by
      rw [State.stepStale, if_pos hstep, ← hmedia]
      rfl
    rw [hreads, hread]
    rfl
  · have hstale := State.stepStale_stale (s := s.wakeDecoders rid) hstep
    rw [hmedia] at hstale
    exact hstale

/-- A word whose direction does not match ends its ladder with event 0x3131 (R135). -/
theorem decodeComplete_dirMismatch (hlive : s.live = true) (hread : s.media.reads.get? rid = some l) (hawait : l.await = 0)
    (hstep : l.step < 5) (hiters : iters ≤ l.iterations) (hparity : s.media.isParity l = false) (hwho : ∀ p, l.who ≠ .export_ p) :
    ∃ s1, exec (.decodeComplete rid .dirMismatch iters) s = .next (((s1.report l l.top false).settled rid l false).settleReads) ∧
      s1.media.reads.get? rid = none ∧ s1.evr = (s.log 0x3131 (sliceOf l.die).val (l.data l.top)).evr ∧
      Changes [.media, .evr, .pws] s s1 := by
  have hwake := State.wakeDecoders_changes s rid
  have hmedia : (s.wakeDecoders rid).media = s.media := hwake.rest .media (by decide)
  refine ⟨(s.wakeDecoders rid).givenUp rid l 0x3131, ?_, Media.endRead_reads .., ?_,
    (State.givenUp_changes ..).step rfl (hwake.mono rfl)⟩
  · rw [execDecodeComplete_eq hlive, State.decoded_dirMismatch (by rw [hmedia, hread]) hawait hstep hiters (by rw [hmedia, hparity]) hwho]
    rfl
  · exact State.log_evr_congr (hwake.rest .evr (by decide)) (hwake.rest .clocks (by decide)) (hwake.rest .tb (by decide)) _ _ _

/-- A miscorrection that no further step may mend is counted and ends the ladder with event 0x3120 (R105, R135). -/
theorem decodeComplete_crcMismatch (hlive : s.live = true) (hread : s.media.reads.get? rid = some l) (hawait : l.await = 0)
    (hstep : l.step < 5) (hiters : iters ≤ l.iterations) (hparity : s.media.isParity l = false) (hwho : ∀ p, l.who ≠ .export_ p)
    (hnext : l.next (s.units.noSoft (sliceOf l.die)) = 7) :
    ∃ s1, exec (.decodeComplete rid .crcMismatch iters) s = .next (((s1.report l l.top false).settled rid l false).settleReads) ∧
      s1.media.rdc[sliceOf l.die].miscorr = s.media.rdc[sliceOf l.die].miscorr + 1 ∧
      s1.evr = (s.log 0x3120 (sliceOf l.die).val (l.data l.top)).evr ∧ Changes [.media, .evr, .pws] s s1 := by
  have hwake := State.wakeDecoders_changes s rid
  have hmedia : (s.wakeDecoders rid).media = s.media := hwake.rest .media (by decide)
  have hunits : ((s.wakeDecoders rid).miscorrected l).units = s.units := hwake.rest .units (by decide)
  have hcounted : Changes [.media, .evr, .pws] s (((s.wakeDecoders rid).miscorrected l).stepStale l) :=
    (State.stepStale_changes ..).step rfl ((State.setMedia_changes ..).step rfl (hwake.mono rfl))
  refine ⟨(((s.wakeDecoders rid).miscorrected l).stepStale l).givenUp rid l 0x3120, ?_, ?_, ?_,
    (State.givenUp_changes ..).step rfl hcounted⟩
  · rw [execDecodeComplete_eq hlive, State.decoded_crcMismatch (by rw [hmedia, hread]) hawait hstep hiters (by rw [hmedia, hparity]) hwho,
      State.stepFailed_last hstep (by rw [hunits, hnext])]
    rfl
  · rw [State.givenUp_media, Media.endRead_miscorr, State.stepStale_rdc, ← hmedia]
    exact congrArg Rdc.miscorr (Media.setRdc_get (s.wakeDecoders rid).media (sliceOf l.die) (fun r => { r with miscorr := r.miscorr + 1 }))
  · refine State.log_evr_congr ?_ ?_ ?_ _ _ _
    · exact ((State.stepStale_changes ..).rest .evr (by decide)).trans (hwake.rest .evr (by decide))
    · exact hcounted.rest .clocks (by decide)
    · exact hcounted.rest .tb (by decide)

end

/-- Settles O18: a step-0 read by the ladder that its transfer leaves, the candidates by the three keys of R108, each decode by the branch
that it takes, and the next step by the search for one that has not run. -/
theorem nandReadsDecoded : Obligations.NandReadsDecoded := by
  unfold Obligations.NandReadsDecoded
  refine ⟨⟨?_, fun cs c h => bestMark_least h, mem_acceptedMarks, estimate_clamped⟩, ?_, ?_, ?_, ?_, ?_⟩
  · exact fun rid d k l sig s hlive hgo hflight hread hstep hserved hmiss => nandReadData_step0 hlive hgo hflight hread hstep hserved hmiss
  · exact fun rid iters l s hlive hread hawait hstep hiters hwho => decodeComplete_recovered hlive hread hawait hstep hiters hwho
  · exact fun rid iters l s hlive hread hawait hstep hran hmissed hskip hcap hwho hservice =>
      decodeComplete_notConverged hlive hread hawait hstep hran hmissed hskip hcap hwho hservice
  · exact fun rid iters l s hlive hread hawait hstep hiters hparity hwho =>
      decodeComplete_dirMismatch hlive hread hawait hstep hiters hparity hwho
  · intro rid iters l s hlive hread hawait hstep hiters hparity hwho hhard hnone
    refine decodeComplete_crcMismatch hlive hread hawait hstep hiters hparity hwho ?_
    cases h : s.units.noSoft (sliceOf l.die) with
    | false => exact hhard h
    | true => exact hnone h
  · intro l noSoft
    refine ⟨l.next_le noSoft, fun h2 h7 => ?_, fun h0 hm => Ladder.next_missed h0 hm noSoft, fun h0 hm hran hskip hsoft => ?_,
      fun h1 hre hest => Ladder.next_again h1 hre hest noSoft⟩
    · exact Ladder.next_of_search (Ladder.again_eq_false (by omega)) (by omega) h7
    · rw [hsoft]
      exact Ladder.next_skipping h0 hm hran hskip

end Sys2Proof.Machine
end

section
/-! What closing rows leaves: the stripes that there are, and the system records that wait. -/

namespace Sys2Proof.Machine

open Sys2Proof

theorem AMap.keys_mod {α : Type} (m : AMap α) (k : Nat) (f : α → α) : List.map (·.1) (m.mod k f) = m.map (·.1) := by
  rw [AMap.mod, List.map_map]
  refine List.map_congr_left (fun e _ => ?_)
  simp only [Function.comp_apply]
  split
  · rfl
  · rfl

/-- An entry of a table has its key there. -/
theorem AMap.has_of_mem {α : Type} {m : AMap α} {e : Nat × α} (he : e ∈ m) : m.has e.1 = true := by
  cases h : m.get? e.1 with
  | some v => simp [AMap.has, h]
  | none => exact absurd rfl (AMap.get?_eq_none_of_key h he)

theorem AMap.get?_of_key {α : Type} {m : AMap α} {k : Nat} (h : k ∈ m.map (·.1)) : ∃ v, m.get? k = some v := by
  obtain ⟨e, he, rfl⟩ := List.mem_map.mp h
  exact Option.isSome_iff_exists.mp (AMap.has_of_mem he)

/-- Rows were closed: the stripes are those that were, and the system records that wait still do. -/
structure State.RowsClosed (s t : State) : Prop where
  stripes : t.media.stripes.map (·.1) = s.media.stripes.map (·.1)
  sysWait : t.media.sysWait = s.media.sysWait

theorem State.RowsClosed.refl (s : State) : State.RowsClosed s s := ⟨rfl, rfl⟩

theorem State.RowsClosed.trans {s t u : State} (h : State.RowsClosed s t) (h' : State.RowsClosed t u) : State.RowsClosed s u :=
  ⟨h'.stripes.trans h.stripes, h'.sysWait.trans h.sysWait⟩

theorem State.Sequenced.rowsClosed {s t : State} (h : State.Sequenced s t) : State.RowsClosed s t :=
  ⟨(congrArg (fun m : Media => m.stripes.map (·.1)) h.media :), (congrArg Media.sysWait h.media :)⟩

section
variable {s t : State} (h : State.RowsClosed s t)
include h

theorem State.RowsClosed.setMedia {f : Media → Media} (hk : (f t.media).stripes.map (·.1) = t.media.stripes.map (·.1))
    (hw : (f t.media).sysWait = t.media.sysWait) : State.RowsClosed s (t.setMedia f) :=
  h.trans ⟨hk, hw⟩

theorem State.RowsClosed.setRow (r : Nat) (f : Row → Row) : State.RowsClosed s (t.setMedia (fun m => m.setRow r f)) :=
  h.setMedia rfl rfl

theorem State.RowsClosed.foldl {α : Type} {f : State → α → State} (hf : ∀ u x, State.RowsClosed s u → State.RowsClosed s (f u x))
    (xs : List α) : State.RowsClosed s (xs.foldl f t) := by
  induction xs generalizing t with
  | nil => exact h
  | cons x xs ih => exact ih (hf t x h)

theorem State.RowsClosed.queuePass (r : Nat) (row : Row) (p : Stripe) (pass : Nat) :
    State.RowsClosed s (t.queuePass r row p pass) :=
  h.foldl (fun u _ hu => hu.trans (((State.Sequenced.refl u).setDie _ _).pump _).rowsClosed) _

theorem State.RowsClosed.queueFine (r : Nat) : State.RowsClosed s (t.queueFine r) := by
  unfold State.queueFine
  split
  · exact h
  · split
    · exact h
    · split
      · exact h
      · exact (h.setRow _ _).queuePass _ _ _ _

theorem State.RowsClosed.closeFull (r : Nat) : State.RowsClosed s (t.closeFull r) := by
  unfold State.closeFull
  split
  · exact h
  · split
    · exact h
    · split
      · exact h
      · lift_lets
        intro last s1 s2 s3
        have h1 : State.RowsClosed s s1 := by
          refine h.setMedia ?_ ?_
          · dsimp only
            split
            · exact AMap.keys_mod t.media.stripes _ (fun p => { p with isOpen := false })
            · rfl
          · dsimp only
            split
            · rfl
            · rfl
        have h2 : State.RowsClosed s s2 := h1.queuePass _ _ _ _
        have h3 : State.RowsClosed s s3 := by
          unfold s3
          split
          · exact h2
          · split
            · exact h2.queueFine _
            · exact h2
        split
        · exact h2
        · split
          · exact h3.queueFine _
          · exact h3

theorem State.RowsClosed.newRow (service : Bool) (sid : Nat) (p : Stripe) :
    State.RowsClosed s (t.setMedia (fun m => (m.newRow service sid p).1)) :=
  h.setMedia (AMap.keys_mod t.media.stripes _ (fun p => { p with nextRow := p.nextRow + 1 })) rfl

theorem State.RowsClosed.ensureFinal (r : Nat) : State.RowsClosed s (t.ensureFinal r) := by
  unfold State.ensureFinal
  split
  · exact h
  · split
    · exact h
    · split
      · exact h
      · split
        · split
          · exact h.queueFine _
          · split
            · exact h.closeFull _
            · exact h.setRow _ _
        · exact .closeFull (h.newRow _ _ _) _

theorem State.RowsClosed.closeEarly (r : Nat) : State.RowsClosed s (t.closeEarly r) := by
  unfold State.closeEarly
  split
  · exact .ensureFinal (h.closeFull _) _
  · exact h.setRow _ _

end

/-- A stripe that is closed takes no row, and the other stripes stay. -/
theorem State.closeStripe_closed (s : State) {sid : Nat} (h : sid ∈ s.media.stripes.map (·.1)) :
    ((s.closeStripe sid).media.stripes.get? sid).any (fun y => !y.isOpen) = true := by
  have hrows : State.RowsClosed s ((s.media.rows.filter (fun e => decide (e.2.stripe = sid))).foldl
      (fun s e => if e.2.closed then s.ensureFinal e.1 else s.closeEarly e.1) s) :=
    .foldl (.refl s) (fun u e hu => by
      split
      · exact hu.ensureFinal _
      · exact hu.closeEarly _) _
  obtain ⟨v, hv⟩ := AMap.get?_of_key (hrows.stripes.symm ▸ h)
  have hget := AMap.get?_mod (((s.media.rows.filter (fun e => decide (e.2.stripe = sid))).foldl
      (fun s e => if e.2.closed then s.ensureFinal e.1 else s.closeEarly e.1) s).media.stripes) sid (fun t => { t with isOpen := false })
  rw [hv] at hget
  exact congrArg (fun o : Option Stripe => o.any (fun y => !y.isOpen)) hget

end Sys2Proof.Machine
end

section
/-! The statement about rebuilds, checkpoints, pounces and reclaim units (R175, R198, R203 to R209, R213, R216). -/

namespace Sys2Proof.Machine

open Sys2Proof

/-! ### The phases of a rebuild (R175) -/

section
variable {d : Nat} {r : Rebuild} {s : State}

/-- Phase 1 of a rebuild has ended and its event is recorded. -/
def State.inPhase2 (s : State) (d : Nat) (r : Rebuild) : State :=
  (s.setMedia (fun m => { m with rebuilds := m.rebuilds.mod d (fun r => { r with phase := 2 }) })).log 0x3021 (sliceOf d).val
    (leBytes 2 d ++ leBytes 8 r.records)

theorem rebuildPhase1End_goes (hlive : s.live = true) (hr : s.media.rebuilds.get? d = some r) (hphase : r.phase = 1)
    (hbusy : s.media.rebuildBusy d = false) :
    ∃ s1, exec (.rebuildPhase1End d) s = .next (((s1.startCopies (.rebuild2 d) (s1.media.rebuildRecs d 2)).moveRecords (fun p =>
        s1.media.stripes.any (fun e => e.2.members.any (fun x => x.1 = d) && e.2.members.contains (p.die, p.block)))).settleReads) ∧
      s1.media.rebuilds.get? d = some { r with phase := 2 } ∧
      s1.evr = (s.log 0x3021 (sliceOf d).val (leBytes 2 d ++ leBytes 8 r.records)).evr ∧ Changes [.media, .evr] s s1 := by
  refine ⟨s.inPhase2 d r, ?_, ?_, State.log_evr_congr rfl rfl rfl _ _ _,
    (State.log_changes ..).step rfl ((State.setMedia_changes ..).step rfl (.refl _ s))⟩
  · change execRebuildPhase1End d s = _
    rw [execRebuildPhase1End, State.whenLive_live hlive, State.rebuild1End, hr]
    simp only [hphase, hbusy, ne_eq, not_true_eq_false, Bool.false_eq_true, or_self, if_false]
    rfl
  · refine (AMap.get?_mod s.media.rebuilds d (fun r => { r with phase := 2 })).trans ?_
    rw [hr]
    rfl

theorem rebuildPhase2End_goes (hlive : s.live = true) (hr : s.media.rebuilds.get? d = some r) (hphase : r.phase = 2)
    (hbusy : s.media.rebuildBusy d = false) :
    ∃ s1, exec (.rebuildPhase2End d) s = .next ((s1.settleStripes.returnErases d).dieReturns d) ∧
      s1.media.rebuilds = s.media.rebuilds.del d ∧ s1.media.rebuildWarn = decide (1 < s.media.rebuilds.length) ∧
      s1.evr = (s.log 0x3022 (sliceOf d).val (leBytes 2 d)).evr ∧ Changes [.media, .evr] s s1 := by
  refine ⟨s.rebuild2End d, ?_, ?_⟩
  · change execRebuildPhase2End d s = _
    rw [execRebuildPhase2End, State.whenLive_live hlive]
  · rw [State.rebuild2End, hr]
    simp only [hphase, hbusy, ne_eq, not_true_eq_false, Bool.false_eq_true, or_self, if_false]
    exact ⟨rfl, rfl, State.log_evr_congr rfl rfl rfl _ _ _,
      (State.log_changes ..).step rfl ((State.setMedia_changes ..).step rfl (.refl _ s))⟩

theorem rebuild_busy (hlive : s.live = true) (hr : s.media.rebuilds.get? d = some r) (hbusy : s.media.rebuildBusy d = true) :
    exec (.rebuildPhase1End d) s = .next s.settleReads ∧
    exec (.rebuildPhase2End d) s = .next ((s.settleStripes.returnErases d).dieReturns d) := by
  constructor
  · change execRebuildPhase1End d s = _
    rw [execRebuildPhase1End, State.whenLive_live hlive, State.rebuild1End, hr]
    simp only [hbusy, or_true, if_true]
  · change execRebuildPhase2End d s = _
    rw [execRebuildPhase2End, State.whenLive_live hlive, State.rebuild2End, hr]
    simp only [hbusy, or_true, if_true]

end

/-! ### Checkpoints (R198) -/

/-- A system record waits for a row, or stands in one that is not complete. -/
def Media.systemHeld (m : Media) : Prop := m.sysWait ≠ [] ∨ ∃ e ∈ m.rows, e.2.sys ≠ []

theorem Media.systemHeld_of_writing {m : Media} {pk : Nat} (h : m.writing pk = true) : m.systemHeld := by
  rcases Bool.or_eq_true_iff.mp h with h | h
  · obtain ⟨r, hr, -⟩ := List.any_eq_true.mp h
    exact .inl (List.ne_nil_of_mem hr)
  · obtain ⟨e, he, hx⟩ := List.any_eq_true.mp h
    obtain ⟨x, hx, -⟩ := List.any_eq_true.mp hx
    exact .inr ⟨e, he, List.ne_nil_of_mem hx⟩

theorem AMap.mem_mod {α : Type} {m : AMap α} {k : Nat} {v : α} (h : (k, v) ∈ m) (f : α → α) : (k, f v) ∈ m.mod k f :=
  List.mem_map.mpr ⟨(k, v), h, if_pos rfl⟩

theorem Media.mem_setRow {m : Media} {r : Nat} {w : Row} (h : (r, w) ∈ m.rows) (f : Row → Row) : (r, f w) ∈ (m.setRow r f).rows :=
  AMap.mem_mod h f

/-- A record that is placed stands in its row. -/
theorem Media.putSystem_held (m : Media) {r : Nat} {row : Row} (hmem : (r, row) ∈ m.rows) (t : Stripe) (x : SysRec) (sl : Fin 8)
    (c : Cursor) (ps : List (Nat × Nat)) : ∃ e ∈ (m.putSystem r row t x sl c ps).rows, e.2.sys ≠ [] := by
  obtain ⟨w, hw⟩ : ∃ w, (r, w) ∈ (m.putRecs r row t sl c x.frags ps).rows := by
    unfold Media.putRecs
    exact ⟨_, Media.mem_setRow hmem _⟩
  unfold Media.putSystem
  refine ⟨_, Media.mem_setRow hw _, ?_⟩
  exact List.append_ne_nil_of_right_ne_nil _ (List.cons_ne_nil _ _)

theorem State.placeSystem_held (fuel : Nat) (s : State) (h : s.media.systemHeld) : (s.placeSystem fuel).media.systemHeld := by
  induction fuel generalizing s with
  | zero => exact h
  | succ fuel ih =>
    unfold State.placeSystem
    split
    · exact h
    next u us hw =>
      have hwait : s.media.sysWait ≠ [] := by simp [hw]
      split
      · split
        · refine .inl ?_
          rw [State.setMedia_media, Media.await]
          split
          · exact hwait
          · exact hwait
        · split
          · exact h
          · exact ih _ (.inl hwait)
      next row hrow =>
        split
        · exact h
        · split
          · exact ih _ (.inr (Media.putSystem_held _ (List.mem_of_find?_eq_some hrow) _ _ _ _ _))
          · exact ih _ (.inl (((State.RowsClosed.refl s).closeFull _).sysWait ▸ hwait))

/-- What a page's write-back keeps: the map, the rows, and the point of the last checkpoint and of the one that is due. -/
structure Media.PageKept (m m' : Media) : Prop where
  map : m'.map = m.map
  rows : m'.rows = m.rows
  ckpt : m'.ckpt = m.ckpt
  ckptDue : m'.ckptDue = m.ckptDue
  sysWait : m.sysWait ≠ [] → m'.sysWait ≠ []
  dirty : ∀ pk, m.pageEntries pk ≠ 0 → m.dirtyPages.has pk = true → m'.dirtyPages.has pk = true

theorem Media.PageKept.refl (m : Media) : m.PageKept m := ⟨rfl, rfl, rfl, rfl, id, fun _ _ => id⟩

theorem Media.PageKept.entries {m m' : Media} (h : m.PageKept m') (pk : Nat) : m'.pageEntries pk = m.pageEntries pk := by
  rw [Media.pageEntries, h.map, Media.pageEntries]

theorem Media.PageKept.trans {m m' m'' : Media} (h : m.PageKept m') (h' : m'.PageKept m'') : m.PageKept m'' :=
  ⟨h'.map.trans h.map, h'.rows.trans h.rows, h'.ckpt.trans h.ckpt, h'.ckptDue.trans h.ckptDue, h'.sysWait ∘ h.sysWait,
    fun pk he hd => h'.dirty pk (by rwa [h.entries]) (h.dirty pk he hd)⟩

theorem Media.PageKept.held {m m' : Media} (h : m.PageKept m') (hm : m.systemHeld) : m'.systemHeld := by
  rcases hm with hw | hr
  · exact .inl (h.sysWait hw)
  · exact .inr (h.rows.symm ▸ hr)

theorem Media.writeBackOne_kept (m : Media) (pk : Nat) : m.PageKept (m.writeBackOne pk) := by
  unfold Media.writeBackOne
  split
  · exact .refl m
  · split
    next hempty =>
      refine ⟨rfl, rfl, rfl, rfl, id, fun k hk hd => ?_⟩
      have hne : k ≠ pk := fun e => hk (e ▸ hempty)
      rw [AMap.has] at hd ⊢
      exact (AMap.get?_del_ne m.dirtyPages pk k hne).symm ▸ hd
    · exact ⟨rfl, rfl, rfl, rfl, fun h => List.append_ne_nil_of_left_ne_nil h _, fun _ _ => id⟩

theorem Media.writeBack_kept (m : Media) (pks : List Nat) : m.PageKept (m.writeBack pks) := by
  induction pks generalizing m with
  | nil => exact .refl m
  | cons pk pks ih => exact (m.writeBackOne_kept pk).trans (ih _)

/-- A dirty page with entries whose write-back is asked for has a record that waits or stands in a row. -/
theorem Media.writeBackOne_held {m : Media} {pk : Nat} (hd : m.dirtyPages.has pk = true) (he : m.pageEntries pk ≠ 0) :
    (m.writeBackOne pk).systemHeld := by
  unfold Media.writeBackOne
  split
  next h =>
    refine Media.systemHeld_of_writing (pk := pk) ?_
    simpa [hd] using h
  · exact .inl (List.append_ne_nil_of_right_ne_nil _ (List.cons_ne_nil _ _))

theorem Media.writeBack_held {m : Media} {pks : List Nat} {pk : Nat} (hmem : pk ∈ pks) (hd : m.dirtyPages.has pk = true)
    (he : m.pageEntries pk ≠ 0) : (m.writeBack pks).systemHeld := by
  induction pks generalizing m with
  | nil => cases hmem
  | cons x xs ih =>
    rcases List.mem_cons.mp hmem with rfl | hx
    · exact ((m.writeBackOne pk).writeBack_kept xs).held (Media.writeBackOne_held hd he)
    · have hk := m.writeBackOne_kept x
      exact ih hx (hk.dirty pk he hd) (by rwa [hk.entries])

/-- The pages that a checkpoint of a position still writes. -/
def Media.older (m : Media) (h : Nat) : List Nat := (m.dirtyPages.filter (fun e => decide (e.2 < h))).map (·.1)

theorem Media.ckptGo_done {m : Media} {h : Nat} (hdue : m.ckptDue = some h) (hold : m.older h = []) (hw : m.sysWait = [])
    (hrows : m.rows.all (fun e => e.2.sys.isEmpty) = true) : m.ckptGo = { m with ckpt := some h, ckptDue := none, trackSaved := m.track } := by
  unfold Media.ckptGo
  rw [hdue]
  exact if_pos ⟨hold, hw, hrows⟩

theorem Media.ckptGo_goes {m : Media} {h : Nat} (hdue : m.ckptDue = some h) (hheld : m.older h ≠ [] ∨ m.systemHeld) :
    m.ckptGo = m.writeBack (m.older h) := by
  have hno : ¬ (m.older h = [] ∧ m.sysWait = [] ∧ m.rows.all (fun e => e.2.sys.isEmpty) = true) := by
    rintro ⟨hold, hw, hrows⟩
    rcases hheld with hne | hne | ⟨e, he, hne⟩
    · exact hne hold
    · exact hne hw
    · exact hne (List.isEmpty_iff.mp (List.all_eq_true.mp hrows e he))
  unfold Media.ckptGo
  rw [hdue]
  exact if_neg hno

theorem Media.ckptGo_map (m : Media) : m.ckptGo.map = m.map := by
  unfold Media.ckptGo
  split
  · rfl
  · dsimp only
    split
    · rfl
    · exact (m.writeBack_kept _).map

theorem State.checkWear_media (s : State) : ∃ b, s.checkWear.media = { s.media with wearSaid := b } := by
  unfold State.checkWear
  split
  · exact ⟨true, rfl⟩
  · exact ⟨s.media.wearSaid, rfl⟩

theorem State.FlashWorked.checkpoints {s t : State} (h : State.FlashWorked s t) :
    t.media.map = s.media.map ∧ t.media.ckpt = s.media.ckpt ∧ t.media.ckptDue = s.media.ckptDue ∧ t.media.dirtyPages = s.media.dirtyPages :=
  ⟨(congrArg Media.map h.media :), (congrArg Media.ckpt h.media :), (congrArg Media.ckptDue h.media :),
    (congrArg Media.dirtyPages h.media :)⟩

/-- The state in which a checkpoint has begun. -/
def State.ckptBegun (s : State) : State := s.setMedia Media.beginCheckpoint

theorem checkpointTimer_eq {s : State} (hlive : s.live = true) :
    exec .checkpointTimer s = .next (s.ckptBegun.systemGo.setMedia Media.ckptGo).checkWear := by
  change execCheckpointTimer s = _
  rw [execCheckpointTimer, State.whenLive_live hlive]
  rfl

theorem checkpoint_map (s : State) : (s.ckptBegun.systemGo.setMedia Media.ckptGo).checkWear.media.map = s.media.map := by
  obtain ⟨b, hb⟩ := State.checkWear_media (s.ckptBegun.systemGo.setMedia Media.ckptGo)
  rw [hb]
  calc s.ckptBegun.systemGo.media.ckptGo.map = s.ckptBegun.systemGo.media.map := Media.ckptGo_map _
    _ = s.ckptBegun.media.map := ((State.FlashWorked.refl _).systemGo).checkpoints.1
    _ = s.media.map := Media.ckptGo_map _

/-- A checkpoint that has nothing to write ends at once. -/
theorem checkpoint_done {s : State} (hdirty : s.media.dirtyPages.all (fun e => decide (s.media.ringHead ≤ e.2)) = true)
    (hw : s.media.sysWait = []) (hrows : s.media.rows.all (fun e => e.2.sys.isEmpty) = true) :
    let t := (s.ckptBegun.systemGo.setMedia Media.ckptGo).checkWear
    t.media.ckpt = some s.media.ringHead ∧ t.media.ckptDue = none ∧ t.media.trackSaved = s.media.track := by
  have hold : ({ s.media with ckptDue := some s.media.ringHead } : Media).older s.media.ringHead = [] := by
    rw [Media.older, List.map_eq_nil_iff, List.filter_eq_nil_iff]
    intro e he
    have := List.all_eq_true.mp hdirty e he
    simp only [decide_eq_true_eq] at this ⊢
    omega
  have hbegun : s.ckptBegun.media = { s.media with ckpt := some s.media.ringHead, ckptDue := none, trackSaved := s.media.track } :=
    Media.ckptGo_done (m := { s.media with ckptDue := some s.media.ringHead }) rfl hold hw hrows
  have hgo : s.ckptBegun.systemGo = s.ckptBegun := by
    have hwait : s.ckptBegun.media.sysWait = [] := by rw [hbegun, hw]
    unfold State.systemGo State.placeSystem
    rw [hwait]
  have hagain : s.ckptBegun.media.ckptGo = s.ckptBegun.media := by
    unfold Media.ckptGo
    rw [show s.ckptBegun.media.ckptDue = none by rw [hbegun]]
  intro t
  obtain ⟨b, hb⟩ := State.checkWear_media (s.ckptBegun.systemGo.setMedia Media.ckptGo)
  unfold t
  rw [hb, State.setMedia_media, hgo, hagain, hbegun]
  exact ⟨rfl, rfl, rfl⟩

/-- A checkpoint with an old page to write stays due. -/
theorem checkpoint_due {s : State} (h : ∃ e ∈ s.media.dirtyPages, e.2 < s.media.ringHead ∧ s.media.pageEntries e.1 ≠ 0) :
    let t := (s.ckptBegun.systemGo.setMedia Media.ckptGo).checkWear
    t.media.ckptDue = some s.media.ringHead ∧ t.media.ckpt = s.media.ckpt := by
  obtain ⟨e, he, hlt, hent⟩ := h
  have hmem : e.1 ∈ ({ s.media with ckptDue := some s.media.ringHead } : Media).older s.media.ringHead :=
    List.mem_map.mpr ⟨e, List.mem_filter.mpr ⟨he, by simpa using hlt⟩, rfl⟩
  have hbegun : s.ckptBegun.media = _ :=
    Media.ckptGo_goes (m := { s.media with ckptDue := some s.media.ringHead }) rfl (.inl (List.ne_nil_of_mem hmem))
  have hkept := Media.writeBack_kept { s.media with ckptDue := some s.media.ringHead }
    (({ s.media with ckptDue := some s.media.ringHead } : Media).older s.media.ringHead)
  have hheld : s.ckptBegun.media.systemHeld :=
    hbegun ▸ Media.writeBack_held hmem (AMap.has_of_mem he) hent
  rw [← hbegun] at hkept
  obtain ⟨-, hckpt, hdue, -⟩ := ((State.FlashWorked.refl s.ckptBegun).systemGo).checkpoints
  have hlast := Media.ckptGo_goes (hdue.trans hkept.ckptDue) (.inr (State.placeSystem_held _ _ hheld))
  have hkept' := s.ckptBegun.systemGo.media.writeBack_kept (s.ckptBegun.systemGo.media.older s.media.ringHead)
  intro t
  obtain ⟨b, hb⟩ := State.checkWear_media (s.ckptBegun.systemGo.setMedia Media.ckptGo)
  unfold t
  rw [hb, State.setMedia_media, hlast]
  exact ⟨hkept'.ckptDue.trans (hdue.trans hkept.ckptDue), hkept'.ckpt.trans (hckpt.trans hkept.ckpt)⟩

/-! ### Pounces (R205 to R209) -/

section
variable {id : Nat} {p : Pounce} {s : State}

/-- A pounce no longer waits, and its event is recorded. -/
def State.pounceNoted (s : State) (id : Nat) (p : Pounce) : State :=
  (s.setMedia (fun m => { m with pounces := m.pounces.mod id (fun p => { p with pending := false }) })).log
    (if p.emerg then 0x3201 else 0x3200) (s.media.pounceSlice p) p.data

theorem State.pounceNoted_changes (s : State) (id : Nat) (p : Pounce) : Changes [.media, .evr] s (s.pounceNoted id p) :=
  (State.log_changes ..).step rfl ((State.setMedia_changes ..).step rfl (.refl _ s))

theorem State.pounceNoted_pounce (hp : s.media.pounces.get? id = some p) :
    (s.pounceNoted id p).media.pounces.get? id = some { p with pending := false } := by
  refine (AMap.get?_mod s.media.pounces id (fun p => { p with pending := false })).trans ?_
  rw [hp]
  rfl

theorem State.startPounce_eq (hp : s.media.pounces.get? id = some p) :
    s.startPounce id = ((s.pounceNoted id p).startCopies (.copy p.stripe) ((s.pounceNoted id p).media.pounceRecs p)).moveRecords
      ((s.pounceNoted id p).media.inScope p) := by
  rw [State.startPounce, hp]
  rfl

/-- A pounce that starts is recorded, and its copies leave the pounces and the events as they are. -/
theorem State.startPounce_noted (hp : s.media.pounces.get? id = some p) :
    (s.startPounce id).media.pounces = (s.pounceNoted id p).media.pounces ∧ (s.startPounce id).evr = (s.pounceNoted id p).evr := by
  rw [State.startPounce_eq hp]
  have hw := ((State.FlashWorked.refl (s.pounceNoted id p)).startCopies (.copy p.stripe)
    ((s.pounceNoted id p).media.pounceRecs p)).moveRecords ((s.pounceNoted id p).media.inScope p)
  exact ⟨(congrArg Media.pounces hw.media :), ((State.moveRecords_changes ..).rest .evr (by decide)).trans
    ((State.startCopies_changes ..).rest .evr (by decide))⟩

theorem State.FlashWorked.scanStripe {t : State} (h : State.FlashWorked s t) (x : Stripe) : State.FlashWorked s (t.scanStripe x) := by
  unfold State.scanStripe
  split
  · exact h
  · refine h.foldl (fun u e hu => ?_) _
    dsimp only
    split
    · exact hu.readCws _ _ _ _ _ _
    · exact hu

/-- A trigger of block scope that is no emergency, and the pounce that it makes. -/
def blockPounce (s : State) (stripe die block trig : Nat) : Pounce :=
  { stripe := stripe, die := die, block := block, trigger := trig, emerg := false, pending := decide (s.param 0x7000 2 = 1) }

/-- A new pounce stands in the table. -/
def State.pounceAdded (s : State) (p : Pounce) : State :=
  s.setMedia (fun m => { m with pounces := m.pounces.put s.media.nextPounce p, nextPounce := s.media.nextPounce + 1 })

/-- A new pounce starts unless it waits. -/
def State.pounceTaken (s : State) (p : Pounce) : State :=
  if p.pending then s.pounceAdded p else (s.pounceAdded p).startPounce s.media.nextPounce

theorem State.trigger_eq {die block trig : Nat} {t0 : Nat × Stripe} (ht : s.media.stripeOf die block = some t0)
    (hscope : stripeScope trig = false) (h2 : trig ≠ 2) (h4 : trig ≠ 4)
    (hnone : s.media.pounces.find? (fun e => decide (e.2.stripe = t0.1) && decide (e.2.die = die) && decide (e.2.block = block)) = none)
    (hvictim : s.media.victim = none) (hen : s.media.ftl[sliceOf die].pounceEn = true) :
    s.trigger die block trig = if trig = 3 ∧ (s.pounceTaken (blockPounce s t0.1 die block trig)).media.ftl[sliceOf die].scanEn ∧
        (s.pounceTaken (blockPounce s t0.1 die block trig)).media.stripeClosed t0.1 t0.2 then
      (s.pounceTaken (blockPounce s t0.1 die block trig)).scanStripe t0.2
    else s.pounceTaken (blockPounce s t0.1 die block trig) := by
  unfold State.trigger
  rw [ht]
  simp only [hscope, h2, h4, decide_false, Bool.or_false, Bool.false_eq_true, if_false, hnone, hvictim, hen, Bool.not_true, Bool.and_false,
    false_and, or_self, Bool.not_false, Bool.true_and]
  rfl

theorem State.pounceTaken_noted (s : State) (p : Pounce) :
    (s.pounceTaken p).media.pounces.get? s.media.nextPounce = some p ∧
    (p.pending = true → (s.pounceTaken p).evr = s.evr) ∧
    (p.pending = false → (s.pounceTaken p).evr = (s.log (if p.emerg then 0x3201 else 0x3200) (s.media.pounceSlice p) p.data).evr) := by
  have hadd : (s.pounceAdded p).media.pounces.get? s.media.nextPounce = some p := AMap.get?_put _ _ _
  unfold State.pounceTaken
  cases hp : p.pending with
  | true => exact ⟨by simpa using hadd, fun _ => rfl, fun h => absurd h (by decide)⟩
  | false =>
    obtain ⟨hpounces, hevr⟩ := State.startPounce_noted hadd
    refine ⟨?_, fun h => absurd h (by decide), fun _ => ?_⟩
    · rw [if_neg (by decide), hpounces, State.pounceNoted_pounce hadd, ← hp]
    · rw [if_neg (by decide), hevr]
      exact State.log_evr_congr rfl rfl rfl _ _ _

theorem State.trigger_noted {die block trig : Nat} {t0 : Nat × Stripe} (ht : s.media.stripeOf die block = some t0)
    (hscope : stripeScope trig = false) (h2 : trig ≠ 2) (h4 : trig ≠ 4) (hdie : die ≠ 0xFFFF)
    (hnone : s.media.pounces.find? (fun e => decide (e.2.stripe = t0.1) && decide (e.2.die = die) && decide (e.2.block = block)) = none)
    (hvictim : s.media.victim = none) (hen : s.media.ftl[sliceOf die].pounceEn = true) :
    (s.trigger die block trig).media.pounces.get? s.media.nextPounce =
      some { stripe := t0.1, die := die, block := block, trigger := trig, emerg := false, pending := decide (s.param 0x7000 2 = 1) } ∧
    (s.param 0x7000 2 = 1 → (s.trigger die block trig).evr = s.evr) ∧
    (s.param 0x7000 2 ≠ 1 → (s.trigger die block trig).evr = (s.log 0x3200 (sliceOf die).val
      (leBytes 4 t0.1 ++ leBytes 2 die ++ leBytes 2 block ++ leBytes 1 trig)).evr) := by
  have hslice : s.media.pounceSlice (blockPounce s t0.1 die block trig) = (sliceOf die).val := if_neg hdie
  obtain ⟨hget, hheld, hstarted⟩ := s.pounceTaken_noted (blockPounce s t0.1 die block trig)
  rw [hslice] at hstarted
  have hsame : (s.trigger die block trig).media.pounces = (s.pounceTaken (blockPounce s t0.1 die block trig)).media.pounces ∧
      (s.trigger die block trig).evr = (s.pounceTaken (blockPounce s t0.1 die block trig)).evr := by
    rw [State.trigger_eq ht hscope h2 h4 hnone hvictim hen]
    split
    · have hw := (State.FlashWorked.refl (s.pounceTaken (blockPounce s t0.1 die block trig))).scanStripe t0.2
      exact ⟨(congrArg Media.pounces hw.media :), (State.scanStripe_changes ..).rest .evr (by decide)⟩
    · exact ⟨rfl, rfl⟩
  obtain ⟨hpounces, hevr⟩ := hsame
  refine ⟨by rw [hpounces]; exact hget, fun h => ?_, fun h => ?_⟩
  · exact hevr.trans (hheld (decide_eq_true h))
  · exact hevr.trans (hstarted (decide_eq_false h))

/-- A pounce that has ended has left the table, an emergency with its event (R207). -/
def State.pounceEnded (s : State) (id : Nat) (p : Pounce) : State :=
  if p.emerg then (s.setMedia (fun m => { m with pounces := m.pounces.del id })).log 0x3202 (s.media.pounceSlice p) p.data
  else s.setMedia (fun m => { m with pounces := m.pounces.del id })

theorem pounceFinish_goes (hlive : s.live = true) (hp : s.media.pounces.get? id = some p) (hpending : p.pending = false)
    (hcopying : s.media.copying p.stripe = false) :
    ∃ s1, exec (.pounceFinish id) s = .next s1.settleStripes.settleReads ∧ s1.media.pounces.get? id = none ∧
      s1.evr = (if p.emerg then (s.log 0x3202 (s.media.pounceSlice p) p.data).evr else s.evr) ∧ Changes [.media, .evr] s s1 := by
  refine ⟨s.pounceEnded id p, ?_, ?_⟩
  · change execPounceFinish id s = _
    rw [execPounceFinish, State.whenLive_live hlive, State.pounceFinish, hp]
    simp only [hpending, hcopying, Bool.false_eq_true, or_self, if_false]
    rfl
  · unfold State.pounceEnded
    split
    · exact ⟨AMap.get?_del _ _, State.log_evr_congr rfl rfl rfl _ _ _,
        (State.log_changes ..).step rfl ((State.setMedia_changes ..).step rfl (.refl _ s))⟩
    · exact ⟨AMap.get?_del _ _, rfl, (State.setMedia_changes ..).step rfl (.refl _ s)⟩

/-- A pending pounce has become an emergency (R209). -/
def State.pounceUrgent (s : State) (id : Nat) : State :=
  s.setMedia (fun m => { m with pounces := m.pounces.mod id (fun p => { p with emerg := true, trigger := 8 }) })

theorem pouncePendingAged_goes (hlive : s.live = true) (hp : s.media.pounces.get? id = some p) (hpending : p.pending = true) :
    ∃ s1, exec (.pouncePendingAged id) s = .next
        (((s1.startCopies (.copy p.stripe) (s1.media.pounceRecs p)).moveRecords (s1.media.inScope p)).settleReads) ∧
      s1.media.pounces.get? id = some { p with emerg := true, trigger := 8, pending := false } ∧
      s1.evr = (s.log 0x3201 (s.media.pounceSlice p) ({ p with trigger := 8 } : Pounce).data).evr ∧ Changes [.media, .evr] s s1 := by
  have hurgent : (s.pounceUrgent id).media.pounces.get? id = some { p with emerg := true, trigger := 8 } := by
    refine (AMap.get?_mod s.media.pounces id (fun p => { p with emerg := true, trigger := 8 })).trans ?_
    rw [hp]
    rfl
  refine ⟨(s.pounceUrgent id).pounceNoted id { p with emerg := true, trigger := 8 }, ?_, State.pounceNoted_pounce hurgent,
    State.log_evr_congr rfl rfl rfl _ _ _, (State.pounceNoted_changes ..).step rfl ((State.setMedia_changes ..).step rfl (.refl _ s))⟩
  change execPouncePendingAged id s = _
  rw [execPouncePendingAged, State.whenLive_live hlive, State.pounceAged, hp]
  simp only [hpending, Bool.not_true, Bool.false_eq_true, if_false]
  change Host.Outcome.next ((s.pounceUrgent id).startPounce id).settleReads = _
  rw [State.startPounce_eq hurgent]
  rfl

end

/-! ### Triggers of closed stripes, and reclaim units (R203, R206, R216) -/

section
variable {t0 : Stripe} {x : Nat × Nat} {xs : List (Nat × Nat)} {s : State}

theorem State.triggerStripe_closed {sid : Nat} (h : s.media.stripes.get? sid = some t0) (hx : t0.members = x :: xs)
    (hc : s.media.stripeClosed sid t0 = true) (trig : Nat) : s.triggerStripe sid trig = s.trigger x.1 x.2 trig := by
  rw [State.triggerStripe, h]
  simp only [hx, hc, if_true]

theorem retentionAge_closed {sid : Nat} (hlive : s.live = true) (h : s.media.stripes.get? sid = some t0) (hx : t0.members = x :: xs)
    (hc : s.media.stripeClosed sid t0 = true) : exec (.retentionAge sid) s = .next ((s.trigger x.1 x.2 6).settleReads) := by
  change execRetentionAge sid s = _
  rw [execRetentionAge, State.whenLive_live hlive, State.triggerStripe_closed h hx hc]

theorem pounceScan_closed {f : ScanFinding} (hlive : s.live = true) (h : s.media.stripes.get? f.stripe = some t0)
    (hx : t0.members = x :: xs) (hc : s.media.stripeClosed f.stripe t0 = true)
    (hen : s.media.ftl[Fin.ofNat 8 t0.group].scanEn = true) :
    exec (.pounceScan [f]) s =
      .next ((if s.param 0x3320 3 ≤ f.drift ∨ f.step3 = true then s.trigger x.1 x.2 7 else s).settleReads) := by
  change execPounceScan [f] s = _
  rw [execPounceScan, State.whenLive_live hlive, State.scanFindings, List.foldl_cons, List.foldl_nil, h]
  simp only [hen, true_and, State.triggerStripe_closed h hx hc]

end

/-- A handle whose reclaim unit is closed: its stripe takes no row, and the event of the placement is there. -/
theorem State.closeHandle_closes {hd : Nat} {x : Nat × Stripe} {s : State} (hx : s.media.openStripe (.host hd) = some x) (kind : Nat) :
    ((s.closeHandle hd kind).media.stripes.get? x.1).any (fun y => !y.isOpen) = true ∧
    (s.closeHandle hd kind).media.fdpEvents = (if s.media.fdp then s.media.fdpEvents ++ [(hd, kind)] else s.media.fdpEvents) ∧
    s.out <+: (s.closeHandle hd kind).out := by
  have hclosed := s.closeStripe_closed (List.mem_map_of_mem (f := Prod.fst) (List.mem_of_find?_eq_some hx))
  have hw := (State.FlashWorked.refl s).closeStripe x.1
  have hfdp : (s.closeStripe x.1).media.fdp = s.media.fdp := (congrArg Media.fdp hw.media :)
  have hevents : (s.closeStripe x.1).media.fdpEvents = s.media.fdpEvents := (congrArg Media.fdpEvents hw.media :)
  rw [State.closeHandle, hx]
  simp only [hfdp]
  split
  · exact ⟨hclosed, by rw [← hevents]; rfl, hw.out⟩
  · exact ⟨hclosed, hevents, hw.out⟩

theorem reclaimUnitTimeLimit_closes {handle : Nat} {x : Nat × Stripe} {s : State} (hlive : s.live = true)
    (hx : s.media.openStripe (.host handle) = some x) :
    ∃ t, exec (.reclaimUnitTimeLimit handle) s = .next t ∧ (t.media.stripes.get? x.1).any (fun y => !y.isOpen) = true ∧
      t.media.fdpEvents = (if s.media.fdp then s.media.fdpEvents ++ [(handle, 2)] else s.media.fdpEvents) := by
  obtain ⟨hclosed, hevents, -⟩ := State.closeHandle_closes hx 2
  refine ⟨s.closeHandle handle 2, ?_, hclosed, hevents⟩
  change execReclaimUnitTimeLimit handle s = _
  rw [execReclaimUnitTimeLimit, State.whenLive_live hlive]

/-- Settles O22: each command by the state in which its event is recorded, and what its copies leave alone. -/
theorem rebuildAndRefresh : Obligations.RebuildAndRefresh := by
  unfold Obligations.RebuildAndRefresh
  refine ⟨?_, ?_, ?_, ?_, ?_, ?_, ?_, ?_, ?_, ?_, ?_⟩
  · exact fun d r s hlive hr hphase hbusy => rebuildPhase1End_goes hlive hr hphase hbusy
  · exact fun d r s hlive hr hphase hbusy => rebuildPhase2End_goes hlive hr hphase hbusy
  · exact fun d r s hlive hr hbusy => rebuild_busy hlive hr hbusy
  · intro s hlive
    exact ⟨_, checkpointTimer_eq hlive, checkpoint_map s, checkpoint_done, checkpoint_due,
      (State.checkWear_changes ..).step rfl ((State.setMedia_changes ..).step rfl ((State.systemGo_changes ..).step rfl
        ((State.setMedia_changes ..).step rfl (.refl _ s))))⟩
  · exact fun sid t0 x xs s hlive h hx hc => retentionAge_closed hlive h hx hc
  · exact fun f t0 x xs s hlive h hx hc hen => pounceScan_closed hlive h hx hc hen
  · exact fun die block trig t0 s ht hscope h2 h4 hdie hnone hvictim hen => State.trigger_noted ht hscope h2 h4 hdie hnone hvictim hen
  · exact fun id p s hlive hp hpending hcopying => pounceFinish_goes hlive hp hpending hcopying
  · exact fun id p s hlive hp hpending => pouncePendingAged_goes hlive hp hpending
  · intro s hlive
    change execFullingWindowExpire s = _
    rw [execFullingWindowExpire, State.whenLive_live hlive]
    rfl
  · exact fun handle x s hlive hx => reclaimUnitTimeLimit_closes hlive hx

end Sys2Proof.Machine
end

section
/-! The statement about reservations and flexible data placement (R215, R216, R253, R271). -/

namespace Sys2Proof.Machine

open Sys2Proof

/-! ### Commands that run -/

section
variable {fseq nsid i : Nat} {n : Namespace} {c : Cmd} {s : State}

/-- A command that holds its locks runs. -/
theorem State.Flying.onIo (h : s.Flying fseq c .ready) (f : Cmd → State → State) : s.onIo fseq f = f c s := by
  have hruns : c.runs = true := by simp [Cmd.runs, h.phase]
  rw [State.onIo, h.live, h.get]
  simp only [Bool.not_true, Bool.false_eq_true, if_false, hruns, if_true]

theorem State.Flying.onResv (h : s.Flying fseq c .ready) {opc : Nat} (hopc : opc < 256) (hcmd : c.cmd = .resv (BitVec.ofNat 8 opc) nsid)
    (hn : s.nsOf c.port nsid = some (i, n)) (f : Cmd → Nat → Namespace → State → State) : s.onResv fseq opc f = f c i n s := by
  rw [State.onResv, h.onIo, hcmd]
  simp only [BitVec.toNat_ofNat, Nat.mod_eq_of_lt hopc, ne_eq, not_true, if_false, hn]

/-- A reservation that takes its new value is stored before its command succeeds. -/
theorem State.Flying.setResv_some (h : s.Flying fseq c .ready) (hn : s.nsOf c.port nsid = some (i, n)) (r : Reservation) :
    State.Completed s.out s (s.setResv fseq i (some r)) fseq c .success 0 ∧
    (s.setResv fseq i (some r)).media.namespaces.get? i = some { n with resv := r } := by
  refine ⟨h.completes_after (State.setMedia_changes ..) (by decide) _ _ _, ?_⟩
  have hmedia : (s.setResv fseq i (some r)).media = (s.setNs i (fun n => { n with resv := r })).media :=
    State.complete_media (s := s.setNs i (fun n => { n with resv := r })) h.get (h.fresh rfl) _ _ _
  rw [hmedia, State.setNs_get, (State.nsOf_get hn).1]
  rfl

/-- A command that owns no line fails without a change to the media. -/
theorem State.Flying.fails (h : s.Flying fseq c .ready) (st : Status) :
    State.Completed s.out s (s.complete fseq st) fseq c st 0 ∧ (s.complete fseq st).media = s.media :=
  ⟨h.completes_now _ _ _, State.complete_media h.get (h.fresh rfl) _ _ _⟩

/-- A reservation that is refused or takes its new value. -/
theorem State.Flying.setResv_settles (h : s.Flying fseq c .ready) (hn : s.nsOf c.port nsid = some (i, n)) (o : Option Reservation) :
    (∀ r, o = some r → State.Completed s.out s (s.setResv fseq i o) fseq c .success 0 ∧
      (s.setResv fseq i o).media.namespaces.get? i = some { n with resv := r }) ∧
    (o = none → State.Completed s.out s (s.setResv fseq i o) fseq c .resvConflict 0 ∧ (s.setResv fseq i o).media = s.media) := by
  cases o with
  | some r => exact ⟨fun _ hr => Option.some.inj hr ▸ h.setResv_some hn r, fun hr => absurd hr (by simp)⟩
  | none => exact ⟨fun _ hr => absurd hr (by simp), fun _ => h.fails _⟩

theorem exec_reservationRegister (h : s.Flying fseq c .ready) (hcmd : c.cmd = .resv 0x0D nsid) (hn : s.nsOf c.port nsid = some (i, n))
    (action : Fin 3) (ignore : Bool) (cur new : BitVec 64) : exec (.reservationRegister fseq action ignore cur new) s =
      .next (s.setResv fseq i (n.resv.register c.port action ignore cur new)) :=
  congrArg Host.Outcome.next (h.onResv (opc := 0x0D) (by decide) hcmd hn _)

theorem exec_reservationAcquire (h : s.Flying fseq c .ready) (hcmd : c.cmd = .resv 0x11 nsid) (hn : s.nsOf c.port nsid = some (i, n))
    {rtype : Nat} (hlo : 1 ≤ rtype) (hhi : rtype ≤ 6) (action : Fin 3) (ignore : Bool) (cur pre : BitVec 64) :
    exec (.reservationAcquire fseq action rtype ignore cur pre) s =
      .next (s.setResv fseq i (n.resv.acquire c.port action rtype ignore cur pre)) := by
  refine congrArg Host.Outcome.next ((h.onResv (opc := 0x11) (by decide) hcmd hn _).trans ?_)
  exact if_neg (by omega)

theorem exec_reservationRelease (h : s.Flying fseq c .ready) (hcmd : c.cmd = .resv 0x15 nsid) (hn : s.nsOf c.port nsid = some (i, n))
    (action : Fin 2) (rtype : Nat) (ignore : Bool) (cur : BitVec 64) :
    (∀ r, n.resv.release c.port action rtype ignore cur = .ok r →
      exec (.reservationRelease fseq action rtype ignore cur) s = .next (s.setResv fseq i (some r))) ∧
    (∀ st, n.resv.release c.port action rtype ignore cur = .error st →
      exec (.reservationRelease fseq action rtype ignore cur) s = .next (s.complete fseq st)) := by
  constructor
  · intro r hr
    refine congrArg Host.Outcome.next ((h.onResv (opc := 0x15) (by decide) hcmd hn _).trans ?_)
    simp only [hr]
  · intro st hr
    refine congrArg Host.Outcome.next ((h.onResv (opc := 0x15) (by decide) hcmd hn _).trans ?_)
    simp only [hr]

/-- What the report of a reservation answers (R253): its generation, its type, its holder and its registrants. -/
def Reservation.report (r : Reservation) : List Nat :=
  [r.gen, r.rtype, (r.holder.map (fun p => p.val + 1)).getD 0] ++ r.regs.flatMap (fun e => [e.port.val, e.key.toNat])

theorem exec_reservationReport (h : s.Flying fseq c .ready) (hcmd : c.cmd = .resv 0x0E nsid) (hn : s.nsOf c.port nsid = some (i, n)) :
    exec (.reservationReport fseq) s = .next ((s.emit (.reply fseq 0x0E0000 n.resv.report)).complete fseq .success) :=
  congrArg Host.Outcome.next (h.onResv (opc := 0x0E) (by decide) hcmd hn _)

/-- An answer goes out before its command succeeds. -/
theorem State.Flying.replies (h : s.Flying fseq c .ready) (o : Output) (st : Status) :
    State.Completed (s.out ++ [o]) s ((s.emit o).complete fseq st) fseq c st 0 :=
  h.completes_same (State.emit_samePost ..) _ _ _

end

/-! ### Reservations (R271) -/

section
variable {r : Reservation} {p : Fin 2}

theorem Reservation.acquire_unregistered (h : r.keyOf p = none) (action : Fin 3) (rtype : Nat) (ignore : Bool) (cur pre : BitVec 64) :
    r.acquire p action rtype ignore cur pre = none := by
  rw [Reservation.acquire, h]

theorem Reservation.register_new (h : r.keyOf p = none) (ignore : Bool) (cur new : BitVec 64) :
    r.register p 0 ignore cur new = some { r with regs := r.regs ++ [{ port := p, key := new }], gen := r.gen + 1 } := by
  rw [Reservation.register, h]
  rfl

theorem Reservation.acquire_free {cur : BitVec 64} (h : r.keyOf p = some cur) (hfree : r.holder = none) (rtype : Nat) :
    r.acquire p 0 rtype false cur 0 = some { r with holder := some p, rtype := rtype } := by
  rw [Reservation.acquire, h]
  simp [hfree]

theorem Reservation.release_held {cur : BitVec 64} (h : r.keyOf p = some cur) (hheld : r.holder = some p) :
    r.release p 0 r.rtype false cur = .ok { r with holder := none, rtype := 0 } := by
  rw [Reservation.release, h]
  simp [hheld]

/-- What another controller's reservation refuses, by its type. -/
theorem Reservation.conflicts_other {h : Fin 2} (hheld : r.holder = some h) (hne : h ≠ p) (w : Bool) : r.conflicts p w =
    if r.rtype = 1 then w else if r.rtype = 2 then true
    else if r.rtype = 3 ∨ r.rtype = 5 then w && !r.regs.any (fun e => e.port = p)
    else if r.rtype = 4 ∨ r.rtype = 6 then !r.regs.any (fun e => e.port = p) else false := by
  unfold Reservation.conflicts
  rw [hheld]
  simp only [if_neg hne]
  split <;> simp_all

theorem Reservation.any_registered : (!r.regs.any (fun e => decide (e.port = p))) = false ↔ ∃ e ∈ r.regs, e.port = p := by
  simp

theorem Reservation.conflicts_byType {h : Fin 2} (hheld : r.holder = some h) (hne : h ≠ p) :
    (r.rtype = 1 → r.conflicts p true = true ∧ r.conflicts p false = false) ∧
    (r.rtype = 2 → ∀ w, r.conflicts p w = true) ∧
    (r.rtype = 3 ∨ r.rtype = 5 → r.conflicts p false = false ∧ (r.conflicts p true = false ↔ ∃ e ∈ r.regs, e.port = p)) ∧
    (r.rtype = 4 ∨ r.rtype = 6 → ∀ w, (r.conflicts p w = false ↔ ∃ e ∈ r.regs, e.port = p)) := by
  refine ⟨fun ht => ?_, fun ht w => ?_, fun ht => ?_, fun ht w => ?_⟩
  · simp [Reservation.conflicts_other hheld hne, ht]
  · simp [Reservation.conflicts_other hheld hne, ht]
  · rw [Reservation.conflicts_other hheld hne, Reservation.conflicts_other hheld hne, if_neg (by omega), if_neg (by omega), if_pos ht,
      if_neg (by omega), if_neg (by omega), if_pos ht]
    exact ⟨rfl, Reservation.any_registered⟩
  · rw [Reservation.conflicts_other hheld hne, if_neg (by omega), if_neg (by omega), if_neg (by omega), if_pos ht]
    exact Reservation.any_registered

end

/-! ### Placement (R215, R216) -/

section
variable {fseq nsid i : Nat} {n : Namespace} {c : Cmd} {s : State}

/-- The rows left of the reclaim unit of each handle. -/
def State.rowsLeft (s : State) : List Nat :=
  (List.range s.media.handleMax).map (fun h => match s.media.openStripe (.host h) with
    | some t => s.media.wordlines - t.2.nextRow
    | none => s.media.wordlines)

theorem exec_ioManagementReceive (h : s.Flying fseq c .ready) (hcmd : c.cmd = .ioMgmtRecv nsid) (hn : s.nsOf c.port nsid = some (i, n)) :
    exec (.ioManagementReceive fseq) s = .next (if n.placement ≠ 1 then s.complete fseq .invalidField
      else (s.emit (.reply fseq 0x120000 s.rowsLeft)).complete fseq .success) := by
  refine congrArg Host.Outcome.next ((h.onIo _).trans ?_)
  simp only [hcmd, hn] <;> rfl

theorem State.rowsLeft_open {hd : Nat} {x : Nat × Stripe} (hlt : hd < s.media.handleMax) (hx : s.media.openStripe (.host hd) = some x) :
    s.rowsLeft[hd]? = some (s.media.wordlines - x.2.nextRow) := by
  rw [State.rowsLeft, List.getElem?_map, List.getElem?_range hlt]
  simp only [Option.map_some, hx]

theorem exec_reclaimUnitHandleUpdate (h : s.Flying fseq c .ready) {hd : Nat} (hcmd : c.cmd = .ioMgmtSend nsid [hd])
    (hn : s.nsOf c.port nsid = some (i, n)) (hplace : n.placement = 1) (hlt : hd < s.media.handleMax) :
    exec (.reclaimUnitHandleUpdate fseq) s = .next ((s.closeHandle hd 1).complete fseq .success) := by
  refine congrArg Host.Outcome.next ((h.onIo _).trans ?_)
  simp only [hcmd, hn]
  refine if_neg ?_
  simp [hplace, hlt]

end

/-- Settles O35: each reservation command by what its reservation becomes, the conflicts by the type of the reservation, and the commands
of placement by the open reclaim units. -/
theorem reservationsAndPlacement : Obligations.ReservationsAndPlacement := by
  unfold Obligations.ReservationsAndPlacement
  refine ⟨?_, ?_, ?_, ?_, ?_, ?_, ?_, ?_, ?_, ?_⟩
  · exact fun fseq nsid i action ignore cur new n c s h hcmd hn =>
      ⟨_, exec_reservationRegister h hcmd hn action ignore cur new, h.setResv_settles hn _⟩
  · exact fun fseq nsid i rtype action ignore cur pre n c s h hcmd hn hlo hhi =>
      ⟨_, exec_reservationAcquire h hcmd hn hlo hhi action ignore cur pre, h.setResv_settles hn _⟩
  · intro fseq nsid i rtype action ignore cur n c s h hcmd hn
    obtain ⟨hok, herror⟩ := exec_reservationRelease h hcmd hn action rtype ignore cur
    cases hr : n.resv.release c.port action rtype ignore cur with
    | ok r => exact ⟨_, hok r hr, fun r' he => Except.ok.inj he ▸ h.setResv_some hn r, fun st he => absurd he (by simp)⟩
    | error st => exact ⟨_, herror st hr, fun r he => absurd he (by simp), fun st' he => Except.error.inj he ▸ h.fails st⟩
  · exact fun fseq nsid i n c s h hcmd hn => ⟨_, _, exec_reservationReport h hcmd hn, h.replies _ _, rfl⟩
  · exact fun r p ignore cur new h => ⟨Reservation.register_new h ignore cur new, fun rtype action pre =>
      Reservation.acquire_unregistered h action rtype ignore cur pre⟩
  · exact fun r p rtype cur h hfree => Reservation.acquire_free h hfree rtype
  · exact fun r p cur h hheld => Reservation.release_held h hheld
  · exact fun r p h hheld hne => Reservation.conflicts_byType hheld hne
  · intro fseq nsid i n c s h hcmd hn
    refine ⟨_, exec_ioManagementReceive h hcmd hn, fun hplace => ?_, fun hplace => ?_⟩
    · rw [if_neg (not_not.mpr hplace)]
      exact ⟨_, h.replies _ _, by rw [State.rowsLeft, List.length_map, List.length_range], fun hd x hlt hx => State.rowsLeft_open hlt hx⟩
    · rw [if_pos hplace]
      exact h.completes_now _ _ _
  · intro fseq nsid i hd x n c s h hcmd hn hplace hlt hx
    obtain ⟨hclosed, hevents, hout⟩ := State.closeHandle_closes hx 1
    have hc := s.closeHandle_changes hd 1
    have hcmq : (s.closeHandle hd 1).cmq = s.cmq := hc.rest .cmq (by decide)
    have hsame : State.SamePost s (s.closeHandle hd 1) fseq := .of_changes hc (by decide) (by decide) (by rw [hcmq]) (by rw [hcmq])
    have hmedia : ((s.closeHandle hd 1).complete fseq .success).media = (s.closeHandle hd 1).media :=
      State.complete_media (hsame.get.trans h.get) (h.fresh rfl) _ _ _
    refine ⟨_, _, exec_reclaimUnitHandleUpdate h hcmd hn hplace hlt, hout, h.completes_same hsame _ _ _, ?_, ?_⟩
    · rw [hmedia]
      exact hclosed
    · rw [hmedia]
      exact hevents

end Sys2Proof.Machine
end

section
/-! The statement of chapter 11 about Opal, which meets a device Global Range that was given a place of its own (R372, R377). -/

namespace Sys2Proof.Machine

open Sys2Proof

/-- A GenKey of range 0 that holds its locks. -/
def genkeyCmd : Cmd := { port := 0, sqid := 0, cid := 7, cmd := .admin 0x81 .none, phase := .ready }

/-- Range 0 as a range of the first namespace's first unit: every other unit of that namespace falls to range 0 as well. -/
def placedGlobal : Tbl 64 OpalRange := Tbl.upd (Vector.replicate 64 {}) 0 (fun _ => { ns := some 0, start := 0, len := 1 })

/-- A machine with that range, an Admin that is authenticated, and data in unit 5. -/
def genkeyState : State :=
  { State.reset with
    phase := .running
    cmq := {
      ctrls := Vector.replicate 2 { en := true, rdy := true, sqs := [(0, { size := 16, cqid := 0 })], cqs := [(0, { size := 16 })] }
      cmds := [(1, genkeyCmd)], fseq := 2 }
    sec := { State.reset.sec with keysHeld := true, opalActive := true, ranges := placedGlobal, authed := [2] }
    media := { State.reset.media with
      namespaces := [(0, { nlbas := 1024, lba512 := false, ind16 := false, zoned := false, attached := [0] })]
      map := [(5, .zero)] } }

theorem genkeyState_ready : genkeyState.AdminReady 1 0x81 genkeyCmd :=
  ⟨⟨rfl, rfl, rfl, rfl, ⟨rfl, rfl, ⟨{ size := 16 }, rfl, by decide⟩, rfl⟩, fun _ => rfl⟩, ⟨_, rfl⟩⟩

/-- The key of range 0 is replaced, and the unit under it keeps its entry: GenKey trims the range's own units alone. -/
theorem genkeyState_keeps : ∃ t, exec (.opalGenkey 1 0) genkeyState = .next t ∧ t.media.map.get? (gkey 0 5) = some .zero :=
  ⟨_, rfl, by decide +kernel⟩

/-- Refutes O49: a unit that no placed range covers falls to range 0, and where range 0 has a place of its own in the unit's namespace
GenKey of range 0 leaves that unit's entry. -/
theorem not_opalAndKeyPerIo : ¬ Obligations.OpalAndKeyPerIo := by
  rintro ⟨-, -, -, -, -, -, -, hgenkey, -⟩
  obtain ⟨t, b, ht, -, -, -, -, htrimmed⟩ := (hgenkey 1 0 genkeyCmd genkeyState genkeyState_ready rfl).2 rfl rfl rfl rfl rfl
  obtain ⟨u, hu, hkept⟩ := genkeyState_keeps
  cases ht.symm.trans hu
  exact absurd (hkept.symm.trans (htrimmed 0 _ 5 rfl rfl (by decide) (by decide))) (by decide)

end Sys2Proof.Machine
end

section
/-! The statement of chapter 08 about containment (R299 to R306). -/

namespace Sys2Proof.Machine

open Sys2Proof

/-! ### The containment point (R300 to R303) -/

section
variable {p : Fin 2} {trig : Fin 8} {s : State}

/-- A command after the locks are settled is as it was, or it waited for its locks and is ready now. -/
theorem Cmq.settle_mem (q : Cmq) {e : Nat × Cmd} (he : e ∈ q.settle.cmds) :
    e ∈ q.cmds ∨ ∃ c, (e.1, c) ∈ q.cmds ∧ c.phase = .waitLocks ∧ e.2 = { c with phase := .ready } := by
  have hcmds : ∀ r : Cmq, r.stall.cmds = r.cmds := fun r => by
    unfold Cmq.stall
    split
    · rfl
    · split
      · rfl
      · rfl
  rw [Cmq.settle, hcmds] at he
  obtain ⟨x, hx, rfl⟩ := List.mem_map.mp he
  split
  next hw =>
    obtain ⟨hphase, -⟩ := Bool.and_eq_true_iff.mp hw
    exact .inr ⟨x.2, hx, of_decide_eq_true hphase, rfl⟩
  next => exact .inl hx

/-- A command that is left when another one ends. -/
theorem State.endCmd_mem {fseq : Nat} {e : Nat × Cmd} (he : e ∈ (s.endCmd fseq).cmq.cmds) :
    e.1 ≠ fseq ∧ (e ∈ s.cmq.cmds ∨ ∃ c, (e.1, c) ∈ s.cmq.cmds ∧ c.phase = .waitLocks ∧ e.2 = { c with phase := .ready }) := by
  have hdel : ∀ x, x ∈ s.cmq.cmds.del fseq → x.1 ≠ fseq ∧ x ∈ s.cmq.cmds := fun x hx => by
    obtain ⟨hmem, hne⟩ := List.mem_filter.mp hx
    exact ⟨by simpa using hne, hmem⟩
  cases hg : s.cmq.cmds.get? fseq with
  | none =>
    rw [State.endCmd, hg] at he
    exact ⟨AMap.get?_eq_none_of_key hg he, .inl he⟩
  | some c =>
    rw [State.endCmd, hg] at he
    rcases Cmq.settle_mem _ he with hx | ⟨c', hx, hphase, hc⟩
    · exact ⟨(hdel e hx).1, .inl (hdel e hx).2⟩
    · exact ⟨(hdel _ hx).1, .inr ⟨c', (hdel _ hx).2, hphase, hc⟩⟩

/-- A command runs on or stays outstanding at a containment. -/
def Cmd.outlasts (c : Cmd) : Prop := c.fate = 5 ∨ c.fate = 6

theorem Cmd.not_runsOn_of_waitLocks {c : Cmd} (h : c.phase = .waitLocks) : ¬ c.outlasts := by
  unfold Cmd.outlasts Cmd.fate
  rw [h]
  simp only
  split
  · omega
  · omega

/-- Of the commands of a function, those whose fate ends them are ended, under each of their numbers. -/
theorem State.fated_mem (l : List (Nat × Cmd)) (s : State)
    (hleft : ∀ e ∈ s.cmq.cmds, e.2.port = p → e.2.outlasts ∨ ∃ x ∈ l, x.1 = e.1 ∧ ¬ x.2.outlasts) :
    ∀ e ∈ (l.foldl (fun s e => if e.2.fate = 5 ∨ e.2.fate = 6 then s else s.endCmd e.1) s).cmq.cmds, e.2.port = p → e.2.outlasts := by
  induction l generalizing s with
  | nil => exact fun e he hp => (hleft e he hp).resolve_right (fun ⟨x, hx, _⟩ => absurd hx List.not_mem_nil)
  | cons a l ih =>
    refine ih _ (fun e he hp => ?_)
    dsimp only at he
    by_cases ha : a.2.fate = 5 ∨ a.2.fate = 6
    · rw [if_pos ha] at he
      refine (hleft e he hp).imp_right (fun ⟨x, hx, hkey, hends⟩ => ⟨x, ?_, hkey, hends⟩)
      exact (List.mem_cons.mp hx).resolve_left (fun e => hends (e ▸ ha))
    · rw [if_neg ha] at he
      obtain ⟨hne, hmem⟩ := State.endCmd_mem he
      have hrest : ∀ c, (e.1, c) ∈ s.cmq.cmds → c.port = p → c.outlasts ∨ ∃ x ∈ l, x.1 = e.1 ∧ ¬ x.2.outlasts := fun c hc hport =>
        (hleft _ hc hport).imp_right (fun ⟨x, hx, hkey, hends⟩ =>
          ⟨x, (List.mem_cons.mp hx).resolve_left (fun e' => hne (hkey ▸ e' ▸ rfl)), hkey, hends⟩)
      rcases hmem with hmem | ⟨c, hc, hphase, hready⟩
      · exact hrest e.2 hmem hp
      · exact .inr ((hrest c hc (by rw [hready] at hp; exact hp)).resolve_left (Cmd.not_runsOn_of_waitLocks hphase))

/-- One lent channel of a containment halts if it runs (R347). -/
def State.haltOne (s : State) (p : Fin 2) (ch : Fin 16) : State :=
  if s.sdm.chs[ch].state = .running then
    ({ s with sdm := { s.sdm with
      lentErrors := s.sdm.lentErrors + 1
      chs := s.sdm.chs.upd ch (fun c => { c with state := .halted, code := 0x30, err := true }) } }).log 0x4310 (s.portSrc p)
        (leBytes 1 ch.val ++ leBytes 1 0x30 ++ leBytes 2 s.sdm.chs[ch].head.toNat)
  else s

theorem State.haltLent_eq (s : State) (p : Fin 2) : s.haltLent p = (s.lentOf p).foldl (fun s ch => s.haltOne p ch) s := rfl

/-- A channel that is halted with the code of a containment. -/
def State.lentHalted (s : State) (ch : Fin 16) : Prop := s.sdm.chs[ch].state = .halted ∧ s.sdm.chs[ch].code = 0x30

theorem State.haltOne_halted {ch : Fin 16} (hrun : s.sdm.chs[ch].state = .running) : (s.haltOne p ch).lentHalted ch := by
  unfold State.haltOne State.lentHalted
  rw [if_pos hrun]
  change ((s.sdm.chs.upd ch _)[ch]).state = _ ∧ ((s.sdm.chs.upd ch _)[ch]).code = _
  rw [Tbl.upd_get]
  exact ⟨rfl, rfl⟩

theorem State.haltOne_ne {ch x : Fin 16} (h : ch ≠ x) : (s.haltOne p x).sdm.chs[ch] = s.sdm.chs[ch] := by
  unfold State.haltOne
  split
  · exact Tbl.upd_get_ne _ _ _ _ h
  · rfl

theorem State.haltOne_keeps {ch : Fin 16} (h : s.lentHalted ch) (x : Fin 16) : (s.haltOne p x).lentHalted ch := by
  by_cases hx : ch = x
  · subst hx
    have hno : ¬ s.sdm.chs[ch].state = .running := by
      rw [h.1]
      decide
    rw [State.haltOne, if_neg hno]
    exact h
  · unfold State.lentHalted
    rw [State.haltOne_ne hx]
    exact h

theorem State.foldl_haltOne_halted {ch : Fin 16} (l : List (Fin 16)) (s : State)
    (h : s.lentHalted ch ∨ (ch ∈ l ∧ s.sdm.chs[ch].state = .running)) : (l.foldl (fun s ch => s.haltOne p ch) s).lentHalted ch := by
  induction l generalizing s with
  | nil => exact h.resolve_right (fun h => absurd h.1 List.not_mem_nil)
  | cons x l ih =>
    refine ih _ ?_
    rcases h with h | ⟨hmem, hrun⟩
    · exact .inl (State.haltOne_keeps h x)
    · by_cases hx : ch = x
      · exact .inl (hx ▸ State.haltOne_halted hrun)
      · exact .inr ⟨(List.mem_cons.mp hmem).resolve_left hx, by rw [State.haltOne_ne hx]; exact hrun⟩

/-! ### What a trigger leaves (R300 to R303) -/

/-- A function's port holds the status of its containment, and its lent channels have halted. -/
def State.cntSet (s : State) (p : Fin 2) (trig : Fin 8) : State :=
  ((s.ferryMeets p).haltLent p).setPort p (fun q => { q with cnt := s.contained p trig })

/-- The commands of a function have their fates, before the containment is recorded. -/
def State.ended (s : State) (p : Fin 2) (trig : Fin 8) : State :=
  (((s.ferryMeets p).haltLent p).cmq.cmds.filter (fun e => e.2.port = p)).foldl
    (fun s e => if e.2.fate = 5 ∨ e.2.fate = 6 then s else s.endCmd e.1) (s.cntSet p trig)

theorem State.contain_eq (hfree : s.ports[p].cnt.active = false) (hgoes : s.trigGoes p trig = true) :
    ∃ data, s.contain p trig = ((s.ended p trig).log 0x4201 ((s.ended p trig).portSrc p) data).containSays p trig := by
  simp only [State.trigGoes] at hgoes
  simp only [State.contain, hfree, hgoes, Bool.not_true, Bool.false_eq_true, if_false]
  exact ⟨_, rfl⟩

theorem State.ferryMeets_none (h : s.boot.ferryFseq = none) (p : Fin 2) : s.ferryMeets p = s := by rw [State.ferryMeets, h]

theorem State.ended_changes (h : s.boot.ferryFseq = none) (p : Fin 2) (trig : Fin 8) :
    Changes [.evr, .sdm, .ports, .cmq, .land, .media] s (s.ended p trig) := by
  refine (State.endFated_changes ..).step rfl ((State.setPort_changes ..).step rfl ?_)
  rw [State.ferryMeets_none h]
  exact (State.haltLent_changes ..).mono rfl

/-- The commands that a containment leaves run on or stay outstanding. -/
theorem State.ended_mem {e : Nat × Cmd} (he : e ∈ (s.ended p trig).cmq.cmds) (hp : e.2.port = p) :
    e.2.outlasts := by
  refine State.fated_mem (p := p) _ (s.cntSet p trig) (fun e he hp => ?_) e he hp
  by_cases ho : e.2.outlasts
  · exact .inl ho
  · exact .inr ⟨e, List.mem_filter.mpr ⟨he, decide_eq_true hp⟩, rfl, ho⟩

theorem State.ended_sdm (h : s.boot.ferryFseq = none) (p : Fin 2) (trig : Fin 8) : (s.ended p trig).sdm = (s.haltLent p).sdm := by
  have hend := State.endFated_changes (((s.ferryMeets p).haltLent p).cmq.cmds.filter (fun e => e.2.port = p)) (s.cntSet p trig)
  refine (hend.rest .sdm (by decide)).trans ?_
  rw [State.cntSet, State.ferryMeets_none h]
  rfl

/-- The status of a containment, where no activation of firmware meets it. -/
theorem State.contained_eq (h : s.boot.ferryFseq = none) : s.contained p trig = { s.ports[p].cnt with
    active := true, fatesValid := false, causes := 1 <<< trig.val, first := BitVec.ofNat 3 trig.val, tb := s.tb.count
    fseq := BitVec.ofNat 64 ((s.cmq.cmds.filter (fun e => e.2.port = p)).foldl (fun m e => max m e.1) 0)
    fates := (s.cmq.cmds.filter (fun e => e.2.port = p)).map (fun e => Cmd.record e.1 e.2)
    dbLatched := 0, total := satInc s.ports[p].cnt.total } := by
  have hhalt := s.haltLent_changes p
  have hports : (s.haltLent p).ports = s.ports := hhalt.rest .ports (by decide)
  have htb : (s.haltLent p).tb = s.tb := hhalt.rest .tb (by decide)
  have hcmq : (s.haltLent p).cmq = s.cmq := hhalt.rest .cmq (by decide)
  rw [State.contained, State.ferryMeets_none h]
  simp only [hports, htb, hcmq]

theorem State.containSays_out (s : State) (p : Fin 2) (trig : Fin 8) : (s.containSays p trig).out = s.out ++
    (if trig = 0 then [] else if trig = 1 then [.miNotify 0x4201 p.val] else if s.ports[p].aerMasked then [] else [.errNonFatal p]) := by
  have hmask : (s.setPort p PcPort.aerLog).ports[p].aerMasked = s.ports[p].aerMasked := by
    rw [State.setPort_ports, Tbl.upd_get]
    unfold PcPort.aerMasked PcPort.aerLog
    rw [AMap.get?_put_ne _ _ _ _ (by decide)]
  unfold State.containSays
  split
  · exact (List.append_nil _).symm
  · split
    · rfl
    · simp only [hmask]
      split
      · exact (List.append_nil _).symm
      · rfl

/-- What a containment of a function leaves, before what waited goes on. -/
theorem State.contain_leaves (hfree : s.ports[p].cnt.active = false) (hferry : s.boot.ferryFseq = none) (hgoes : s.trigGoes p trig = true) :
    (s.contain p trig).ports[p].cnt.active = true ∧ (s.contain p trig).ports[p].cnt.fatesValid = false ∧
    (s.contain p trig).ports[p].cnt.causes = 1 <<< trig.val ∧ (s.contain p trig).ports[p].cnt.first = BitVec.ofNat 3 trig.val ∧
    (s.contain p trig).ports[p].cnt.tb = s.tb.count ∧ (s.contain p trig).ports[p].cnt.total = satInc s.ports[p].cnt.total ∧
    (s.contain p trig).ports[p].cnt.fates = (s.cmq.cmds.filter (fun e => e.2.port = p)).map (fun e => Cmd.record e.1 e.2) ∧
    (∀ e ∈ (s.contain p trig).cmq.cmds, e.2.port = p → e.2.fate = 5 ∨ e.2.fate = 6) ∧
    (∀ q : Fin 2, q ≠ p → (s.contain p trig).ports[q] = s.ports[q]) ∧
    (∀ ch ∈ s.lentOf p, s.sdm.chs[ch].state = .running →
      (s.contain p trig).sdm.chs[ch].state = .halted ∧ (s.contain p trig).sdm.chs[ch].code = 0x30) ∧
    (s.contain p trig).out = s.out ++ (if trig = 0 then [] else if trig = 1 then [.miNotify 0x4201 p.val]
      else if s.ports[p].aerMasked then [] else [.errNonFatal p]) := by
  obtain ⟨data, heq⟩ := State.contain_eq hfree hgoes
  have hended := State.ended_changes hferry p trig
  have hsays := ((s.ended p trig).log 0x4201 ((s.ended p trig).portSrc p) data).containSays_changes p trig
  have hcmq : (s.contain p trig).cmq = (s.ended p trig).cmq := by
    rw [heq]
    exact hsays.rest .cmq (by decide)
  have hsdm : (s.contain p trig).sdm = (s.haltLent p).sdm := by
    rw [heq]
    exact (hsays.rest .sdm (by decide)).trans (State.ended_sdm hferry p trig)
  have hports : (s.ended p trig).ports = (s.cntSet p trig).ports := (State.endFated_changes _ _).rest .ports (by decide)
  have hmask : (s.ended p trig).ports[p].aerMasked = s.ports[p].aerMasked := by
    have hhalt : (s.haltLent p).ports = s.ports := (s.haltLent_changes p).rest .ports (by decide)
    rw [hports, State.cntSet, State.ferryMeets_none hferry, State.setPort_ports, Tbl.upd_get, hhalt]
    rfl
  rw [State.contain_cnt hfree hgoes, State.contained_eq hferry, hcmq, hsdm]
  refine ⟨rfl, rfl, rfl, rfl, rfl, rfl, rfl, fun e he hp => State.ended_mem he hp, fun q hq => State.contain_ports_ne hq s trig,
    fun ch hch hrun => State.foldl_haltOne_halted _ s (.inr ⟨hch, hrun⟩), ?_⟩
  rw [heq, State.containSays_out]
  have hout : (s.ended p trig).out = s.out := hended.rest .out (by decide)
  change (s.ended p trig).out ++ (if trig = 0 then [] else if trig = 1 then [.miNotify 0x4201 p.val]
    else if (s.ended p trig).ports[p].aerMasked then [] else [.errNonFatal p]) = _
  rw [hout, hmask]

theorem State.trigGoes_of_enabled (h : s.ports[p].cnt.trigEn.getLsbD trig.val = true) : s.trigGoes p trig = true := by
  rw [State.trigGoes, h]
  rfl

theorem State.trip_contains (hfree : s.ports[p].cnt.active = false) (hgoes : s.trigGoes p trig = true) :
    s.trip p trig = (s.contain p trig).resumeAll := by
  have hactive := State.contain_active_of_goes hgoes
  rw [State.trip]
  simp only [hfree, hactive, Bool.not_false, Bool.and_self, if_true]

theorem State.hostReadFails_trips (hfree : s.ports[p].cnt.active = false) (hen : s.ports[p].cnt.trigEn.getLsbD trig.val = true)
    (fseq : Nat) : s.hostReadFails p fseq trig = s.trip p trig := by
  rw [State.hostReadFails]
  simp only [hfree, Bool.false_eq_true, if_false]
  exact if_pos hen

/-- A trigger that contains a function: its register, the management bus, and the host reads that failed. -/
theorem exec_contains {i : Instr} (hlive : s.live = true) (hfree : s.ports[p].cnt.active = false)
    (hi : (i = .contain p ∧ trig = 0) ∨ (i = .containBmc p ∧ trig = 1 ∧ s.ports[p].cnt.trigEn.getLsbD 1 = true) ∨
      (∃ f, i = .poisonedCompletion p f ∧ trig = 2 ∧ s.ports[p].cnt.trigEn.getLsbD 2 = true) ∨
      (∃ f, i = .completionTimeout p f ∧ trig = 3 ∧ s.ports[p].cnt.trigEn.getLsbD 3 = true)) :
    s.trigGoes p trig = true ∧ exec i s = .next (s.contain p trig).resumeAll := by
  rcases hi with ⟨rfl, rfl⟩ | ⟨rfl, rfl, hen⟩ | ⟨f, rfl, rfl, hen⟩ | ⟨f, rfl, rfl, hen⟩
  · have hgoes : s.trigGoes p 0 = true := by simp [State.trigGoes]
    refine ⟨hgoes, ?_⟩
    change execContain p s = _
    rw [execContain, State.whenLive_live hlive, State.trip_contains hfree hgoes]
  · have hgoes : s.trigGoes p 1 = true := State.trigGoes_of_enabled (trig := 1) hen
    refine ⟨hgoes, ?_⟩
    change execContainBmc p s = _
    rw [execContainBmc, State.whenLive_live hlive, State.trip_contains hfree hgoes]
  · have hgoes : s.trigGoes p 2 = true := State.trigGoes_of_enabled (trig := 2) hen
    refine ⟨hgoes, ?_⟩
    change execPoisonedCompletion p f s = _
    rw [execPoisonedCompletion, State.whenLive_live hlive, State.hostReadFails_trips hfree hen, State.trip_contains hfree hgoes]
  · have hgoes : s.trigGoes p 3 = true := State.trigGoes_of_enabled (trig := 3) hen
    refine ⟨hgoes, ?_⟩
    change execCompletionTimeout p f s = _
    rw [execCompletionTimeout, State.whenLive_live hlive, State.hostReadFails_trips hfree hen, State.trip_contains hfree hgoes]

/-- A trigger of a contained function adds to its causes alone. -/
theorem State.trip_active (h : s.ports[p].cnt.active = true) (trig : Fin 8) :
    s.trip p trig = s.setPort p (fun q => { q with cnt := { s.ports[p].cnt with causes := s.ports[p].cnt.causes ||| (1 <<< trig.val) } }) := by
  rw [State.trip]
  simp only [h, Bool.not_true, Bool.and_false, Bool.false_eq_true, if_false]
  rw [State.contain]
  simp only [h, if_true]

theorem Cmd.fate_cases (c : Cmd) : (c.phase = .waitLocks → c.got = [] → c.fate = 1) ∧ (c.phase = .outstanding → c.fate = 6) ∧
    (c.phase = .waitRows → (∀ n, c.cmd ≠ .flush n) → c.fate = 2) ∧ (c.phase = .ready → runsOn c.cmd = true → c.fate = 5) ∧
    (c.phase = .ready → byUnits c.cmd = true → c.fate = 4) := by
  refine ⟨fun hp hgot => ?_, fun hp => ?_, fun hp hflush => ?_, fun hp hruns => ?_, fun hp hunits => ?_⟩
  · have hbegan : c.began = false := by rw [Cmd.began, hgot, List.isEmpty_nil, Bool.not_true, Bool.and_false]
    rw [Cmd.fate, hp]
    simp [hbegan]
  · rw [Cmd.fate, hp]
  · rw [Cmd.fate, hp]
    simp only
  · rw [Cmd.fate, hp]
    simp only [hruns, if_true]
  · have hruns : runsOn c.cmd = false := by
      unfold byUnits at hunits
      split at hunits
      · simp only [runsOn, *]
      · simp only [runsOn, *]
      · simp only [runsOn, *]
      · exact absurd hunits (by decide)
    rw [Cmd.fate, hp]
    simp only [hruns, Bool.false_eq_true, if_false, hunits, if_true]

/-! ### A release by resume (R304, R305) -/

/-- A release that may go: the function is contained, its fates are valid, every cause can be resumed, and its controller is enabled. -/
structure State.Resumes (s : State) (p : Fin 2) : Prop where
  live : s.live = true
  active : s.ports[p].cnt.active = true
  valid : s.ports[p].cnt.fatesValid = true
  causes : s.ports[p].cnt.causes &&& 0xF0 = 0
  enabled : (s.ctrl p).en = true
  latched : (s.ctrl p).dbLatch = []

/-- The containment of a function is released. -/
def State.cntReleased (s : State) (p : Fin 2) : State := s.setPort p (fun q => { q with cnt := { q.cnt with active := false } })

/-- The fates of a function are posted, and its release is recorded. -/
def State.fatesPosted (s : State) (p : Fin 2) : State :=
  (s.ports[p].cnt.fates.foldl (fun s f => s.postFate p f) (s.cntReleased p)).log 0x4202 ((s.cntReleased p).portSrc p)
    (leBytes 2 s.ports[p].cnt.fates.length)

theorem State.Resumes.exec_eq (h : s.Resumes p) : exec (.resume p) s = .next ((s.fatesPosted p).useLatched p).resumeAll := by
  change execResume p s = _
  rw [execResume, State.whenLive_live h.live, State.resume]
  have hres : s.ports[p].cnt.resumable = true := decide_eq_true h.causes
  simp only [h.active, h.valid, hres, h.enabled, Bool.not_true, Bool.false_eq_true, or_self, if_false]
  rfl

/-- Doorbells that none were latched of leave all as it is. -/
theorem State.useLatched_nil (h : (s.ctrl p).dbLatch = []) : s.useLatched p = s.setCtrl p (fun c => { c with dbLatch := [] }) := by
  rw [State.useLatched, h]
  rfl

theorem exec_resume_refused (hlive : s.live = true) (h : s.ports[p].cnt.causes &&& 0xF0 ≠ 0) :
    exec (.resume p) s = .next (s.setPort p (fun q => { q with cnt := { q.cnt with resumeRefused := true } })) := by
  change execResume p s = _
  have hres : s.ports[p].cnt.resumable = false := decide_eq_false h
  rw [execResume, State.whenLive_live hlive, State.resume]
  simp only [hres, Bool.not_false, true_or, or_true, if_true]

/-- A release whose records leave the ports and the latched doorbells: the containment is over, and nothing else is sent. -/
theorem State.Resumes.leaves {u : State} (hu : s.ports[p].cnt.fates.foldl (fun s f => s.postFate p f) (s.cntReleased p) = u)
    (hports : u.ports = (s.cntReleased p).ports) (hlatch : (u.ctrl p).dbLatch = []) :
    ((s.fatesPosted p).useLatched p).ports[p].cnt = { s.ports[p].cnt with active := false } ∧
    ((s.fatesPosted p).useLatched p).out = u.out ∧ ((s.fatesPosted p).useLatched p).cmq.cmds = u.cmq.cmds ∧
    ((s.fatesPosted p).useLatched p).evr = (u.log 0x4202 ((s.cntReleased p).portSrc p) (leBytes 2 s.ports[p].cnt.fates.length)).evr := by
  have hposted : s.fatesPosted p = u.log 0x4202 ((s.cntReleased p).portSrc p) (leBytes 2 s.ports[p].cnt.fates.length) := by
    rw [State.fatesPosted, hu]
  have hnil : ((s.fatesPosted p).ctrl p).dbLatch = [] := by
    rw [hposted]
    exact hlatch
  rw [State.useLatched_nil hnil, hposted]
  refine ⟨?_, rfl, rfl, rfl⟩
  change u.ports[p].cnt = _
  rw [hports, State.cntReleased, State.setPort_ports, Tbl.upd_get]

/-- A completion of a function that is not contained leaves the ports and the latched doorbells. -/
theorem State.post_keeps (h : s.ports[p].cnt.active = false) (fseq sqid cid : Nat) (st : Status) (dw0 : Nat) :
    (s.post p fseq sqid cid st dw0).ports = s.ports ∧ ((s.post p fseq sqid cid st dw0).ctrl p).dbLatch = (s.ctrl p).dbLatch := by
  simp only [State.post, h, Bool.false_eq_true, if_false]
  split
  · exact ⟨rfl, rfl⟩
  split
  · exact ⟨rfl, rfl⟩
  split
  · exact ⟨rfl, State.setCtrl_keeps Ctrl.dbLatch s p p _ (fun _ => rfl)⟩
  · exact ⟨rfl, State.setCtrl_keeps Ctrl.dbLatch s p p _ (fun _ => rfl)⟩

/-- A completion whose queue has room is sent with its interrupt message. -/
theorem State.post_sent (hfree : s.ports[p].cnt.active = false) (hen : (s.ctrl p).en = true) {sqid : Nat} {cq : Cq}
    (hq : (s.ctrl p).cqs.get? ((s.ctrl p).cqOf sqid) = some cq) (hroom : cq.used + 1 < cq.size) (hide : s.mayWrite p = true)
    (fseq cid : Nat) (st : Status) (dw0 : Nat) :
    (s.post p fseq sqid cid st dw0).out = s.out ++ [.cqe p ((s.ctrl p).cqOf sqid) sqid cid st dw0, .msix p cq.vector] := by
  simp only [State.post, hfree, hen, hq, hroom, hide, Bool.not_true, Bool.false_eq_true, if_false, and_self, if_true]
  rfl

/-- The status of a record's completion, where it posts one. -/
theorem State.postFate_cases (s : State) (p : Fin 2) (f : Fate) : s.postFate p f = s ∨
    ∃ st, s.postFate p f = s.post p f.fseq f.sqid f.cid st 0 := by
  unfold State.postFate
  split
  · exact .inr ⟨_, rfl⟩
  · split
    · exact .inr ⟨_, rfl⟩
    · exact .inl rfl
  · exact .inl rfl
  · exact .inr ⟨_, rfl⟩

theorem State.postFate_keeps (h : s.ports[p].cnt.active = false) (f : Fate) :
    (s.postFate p f).ports = s.ports ∧ ((s.postFate p f).ctrl p).dbLatch = (s.ctrl p).dbLatch := by
  rcases State.postFate_cases s p f with he | ⟨st, he⟩
  · rw [he]
    exact ⟨rfl, rfl⟩
  · rw [he]
    exact State.post_keeps h ..

/-- A command that was ended completes with 0xC4, and one that was done with the status that it held. -/
theorem State.postFate_status (f : Fate) : (f.fate = 1 ∨ f.fate = 3 ∨ f.fate = 4 → s.postFate p f = s.post p f.fseq f.sqid f.cid .vsC4 0) ∧
    (f.fate = 2 → f.st = some .success → s.postFate p f = s.post p f.fseq f.sqid f.cid .success 0) := by
  refine ⟨fun hf => ?_, fun hf hst => ?_⟩
  · rcases hf with hf | hf | hf
    all_goals simp only [State.postFate, hf]
  · simp only [State.postFate, hf, hst, Option.getD_some]

theorem State.cntReleased_free (s : State) (p : Fin 2) : (s.cntReleased p).ports[p].cnt.active = false := by
  rw [State.cntReleased, State.setPort_ports, Tbl.upd_get]

theorem State.cntReleased_mayWrite (s : State) (p : Fin 2) : (s.cntReleased p).mayWrite p = s.mayWrite p := by
  have hide : (s.cntReleased p).ports[p].ide = s.ports[p].ide := by rw [State.cntReleased, State.setPort_ports, Tbl.upd_get]
  rw [State.mayWrite, hide]
  rfl

/-- With no record to post, a release sends nothing. -/
theorem State.Resumes.leaves_none (h : s.Resumes p) (hnone : s.ports[p].cnt.fates = []) :
    ((s.fatesPosted p).useLatched p).ports[p].cnt = { s.ports[p].cnt with active := false } ∧
    ((s.fatesPosted p).useLatched p).out = s.out ∧
    ((s.fatesPosted p).useLatched p).evr = (s.log 0x4202 (s.portSrc p) (leBytes 2 0)).evr ∧
    ((s.fatesPosted p).useLatched p).cmq.cmds = s.cmq.cmds := by
  obtain ⟨hcnt, hout, hcmds, hevr⟩ := State.Resumes.leaves (s := s) (p := p) (u := s.cntReleased p) (by rw [hnone]; rfl) rfl h.latched
  rw [hnone] at hevr
  have hsrc : (s.cntReleased p).portSrc p = s.portSrc p := rfl
  rw [hsrc] at hevr
  exact ⟨hcnt, hout, hevr.trans (State.log_evr_congr rfl rfl rfl ..), hcmds⟩

/-- With one record, its completion is all that a release sends. -/
theorem State.Resumes.leaves_one (h : s.Resumes p) {f : Fate} (hone : s.ports[p].cnt.fates = [f]) :
    ((s.fatesPosted p).useLatched p).ports[p].cnt = { s.ports[p].cnt with active := false } ∧
    ((s.fatesPosted p).useLatched p).out = ((s.cntReleased p).postFate p f).out := by
  obtain ⟨hports, hlatch⟩ := State.postFate_keeps (s.cntReleased_free p) f
  obtain ⟨hcnt, hout, -⟩ := State.Resumes.leaves (s := s) (p := p) (u := (s.cntReleased p).postFate p f) (by rw [hone]; rfl) hports
    (hlatch.trans h.latched)
  exact ⟨hcnt, hout⟩

theorem exec_fateTableComplete (hlive : s.live = true) (hactive : s.ports[p].cnt.active = true) :
    exec (.fateTableComplete p) s = .next (s.setPort p (fun q => { q with cnt := { q.cnt with fatesValid := true } })) := by
  change execFateTableComplete p s = _
  rw [execFateTableComplete, State.whenLive_live hlive]
  simp only [hactive, if_true]

/-- A poisoned completion whose trigger is disabled ends its command alone (R300). -/
theorem exec_poisoned_quits {fseq : Nat} {c : Cmd} (h : s.Flying fseq c c.phase) (hport : c.port = p)
    (hoff : s.ports[p].cnt.trigEn.getLsbD 2 = false) :
    exec (.poisonedCompletion p fseq) s = .next (s.quit fseq .dataTransferError).resumeAll := by
  have hfree : s.ports[p].cnt.active = false := hport ▸ h.post.free
  change execPoisonedCompletion p fseq s = _
  rw [execPoisonedCompletion, State.whenLive_live h.live, State.hostReadFails]
  have hoff' : s.ports[p].cnt.trigEn.getLsbD (2 : Fin 8).val = false := hoff
  simp only [hfree, hoff', h.get, hport, Bool.false_eq_true, if_false, if_true]

end

/-- Settles O39: a trigger gives each command of the function its fate and halts the lent channels; a release by resume posts the records
that were held. -/
theorem containment : Obligations.Containment := by
  unfold Obligations.Containment
  refine ⟨fun i p trig s hlive hfree hferry hi => ?_, fun p trig s hactive => ?_, Cmd.fate_cases, fun p s hlive hactive => ?_,
    fun p s hlive hactive hvalid hcauses hen hlatch hnone => ?_, fun p f cq s hlive hactive hvalid hcauses hen hlatch hone hq hroom hide => ?_,
    fun p s => exec_resume_refused, fun p fseq c s h hport hoff => ?_⟩
  · obtain ⟨hgoes, he⟩ := exec_contains hlive hfree hi
    exact ⟨_, he, State.contain_leaves hfree hferry hgoes⟩
  · refine ⟨_, State.trip_active hactive trig, ?_, (State.setPort_changes ..).mono rfl⟩
    rw [State.setPort_ports, Tbl.upd_get]
  · refine ⟨_, exec_fateTableComplete hlive hactive, ?_, (State.setPort_changes ..).mono rfl⟩
    rw [State.setPort_ports, Tbl.upd_get]
  · have h : s.Resumes p := ⟨hlive, hactive, hvalid, hcauses, hen, hlatch⟩
    exact ⟨_, h.exec_eq, h.leaves_none hnone⟩
  · have h : s.Resumes p := ⟨hlive, hactive, hvalid, hcauses, hen, hlatch⟩
    obtain ⟨hcnt, hout⟩ := h.leaves_one hone
    obtain ⟨hended, hdone⟩ := State.postFate_status (s := s.cntReleased p) (p := p) f
    have hsent := fun st => State.post_sent (s.cntReleased_free p) hen hq hroom ((s.cntReleased_mayWrite p).trans hide) f.fseq f.cid st 0
    exact ⟨_, h.exec_eq, hcnt, fun hf => by rw [hout, hended hf]; exact hsent _, fun hf hst => by rw [hout, hdone hf hst]; exact hsent _⟩
  · obtain ⟨⟨vec, hout⟩, hleft, -⟩ := h.quits (u := s) ⟨rfl, fun _ => rfl, rfl, rfl⟩ .dataTransferError
    exact ⟨_, exec_poisoned_quits h hport hoff, hleft, vec, ⟨s.out, hout.symm⟩⟩

end Sys2Proof.Machine
end

section
/-! The statement about controller resets meets a transfer that waits for a flash channel's bus (R158, R275). -/

namespace Sys2Proof.Machine

open Sys2Proof

/-- A read of the other controller that waits for a row. -/
def waitingRead : Cmd := { port := 1, sqid := 1, cid := 7, cmd := .read { nsid := 1, slba := 0, nlb := 1 }, phase := .waitData, rows := [1] }

/-- A machine whose flash channel has a transfer waiting, and a read that goes on once it is resumed: its map page is on NAND. -/
def resetState : State :=
  { State.reset with
    phase := .running
    ports := State.reset.ports.upd 0 (fun q => { q with perst := false })
    cmq := {
      ctrls := Vector.replicate 2 { en := true, rdy := true, sqs := [(1, { size := 16, cqid := 1 })], cqs := [(1, { size := 16 })] }
      cmds := [(1, waitingRead)], fseq := 2 }
    sec := { State.reset.sec with keysHeld := true }
    media := { State.reset.media with
      population := some [0]
      namespaces := [(0, { nlbas := 1024, lba512 := false, ind16 := false, zoned := false, attached := [1] })]
      map := [(0, .zero)]
      mapDir := [(0, { die := 0, block := 0, page := 0, offset := 0, len := 4 })]
      fch := Vector.replicate 64 { en := true, bus := [.read 0 0 0 [.cqe 0 1 1 7 .success 0]], busLimit := true } } }

/-- When the reset lets the other controller's read go on, the bus takes the transfer that waits, with what it puts on the channel. -/
theorem resetState_posts : ∃ t, exec (.perstAssert 0) resetState = .next t ∧
    Output.cqe 0 1 1 7 .success 0 ∈ t.out.drop resetState.out.length :=
  ⟨_, rfl, by decide +kernel⟩

/-- Refutes O37: a reset resumes the reads of the other controller, and what a transfer that waits on a flash channel carries is sent
then, a completion entry of the controller being reset among it. -/
theorem not_controllerResets : ¬ Obligations.ControllerResets := by
  rintro ⟨hreset, -⟩
  obtain ⟨u, hu, -, -, -, -, -, -, -, -, -, hnone, -⟩ := hreset (.perstAssert 0) 0 resetState rfl rfl (by decide) rfl rfl (by decide)
    (.inr (.inr (.inr (.inr ⟨rfl, rfl⟩))))
  obtain ⟨t, ht, hposts⟩ := resetState_posts
  cases ht.symm.trans hu
  exact hnone _ hposts 1 1 7 .success 0 rfl

end Sys2Proof.Machine
end

section
/-! What a command leaves as it goes on or ends (R57, R61, R63, R95, R102, R193, R273): nothing that was sent is taken back, no command
joins the table, and no namespace comes or goes. -/

namespace Sys2Proof.Machine

open Sys2Proof

theorem AMap.get?_none_iff {α : Type} {m : AMap α} {k : Nat} : m.get? k = none ↔ k ∉ m.map (·.1) := by
  induction m with
  | nil => exact ⟨fun _ => List.not_mem_nil, fun _ => rfl⟩
  | cons e m ih =>
    rw [AMap.get?, List.map_cons, List.mem_cons, not_or]
    by_cases hk : e.1 = k
    · rw [if_pos hk]
      refine iff_of_false (fun hn => nomatch hn) (fun hn => absurd hk.symm hn.1)
    · rw [if_neg hk, ih]
      exact ⟨fun hn => ⟨fun he => hk he.symm, hn⟩, And.right⟩

/-- What of the media the commands on logical blocks leave alone: which namespaces there are with their block sizes, the write-path units
of the slices, and the write protection. -/
def Media.fixtures (m : Media) : List (Nat × Bool) × Tbl 8 Wrp × Bool := (m.namespaces.map (fun e => (e.1, e.2.lba512)), m.wrp, m.protected_)

/-- What an update of one entry keeps, it keeps of the table. -/
theorem AMap.map_mod {α β : Type} (m : AMap α) (k : Nat) {f : α → α} (g : α → β) (h : ∀ v, g (f v) = g v) :
    (m.mod k f).map (fun e => (e.1, g e.2)) = m.map (fun e => (e.1, g e.2)) := by
  rw [AMap.mod, List.map_map]
  refine List.map_congr_left (fun e _ => ?_)
  simp only [Function.comp]
  split
  · rw [h]
  · rfl

theorem AMap.get?_mapVal {α β : Type} (m : AMap α) (k : Nat) (g : α → β) :
    AMap.get? (m.map (fun e => (e.1, g e.2))) k = (m.get? k).map g := by
  induction m with
  | nil => rfl
  | cons e m ih =>
    rw [List.map_cons, AMap.get?, AMap.get?]
    split
    · rfl
    · exact ih

/-- Commands went on or ended. -/
structure State.WentOn (s t : State) : Prop where
  out : s.out <+: t.out
  cmds : ∀ k ∈ t.cmq.cmds.map (·.1), k ∈ s.cmq.cmds.map (·.1)
  media : t.media.fixtures = s.media.fixtures

theorem State.WentOn.refl (s : State) : State.WentOn s s := ⟨List.prefix_refl _, fun _ => id, rfl⟩

theorem State.WentOn.trans {s t u : State} (h : State.WentOn s t) (h' : State.WentOn t u) : State.WentOn s u :=
  ⟨h.out.trans h'.out, fun k hk => h.cmds k (h'.cmds k hk), h'.media.trans h.media⟩

/-- A number that no command holds is not taken. -/
theorem State.WentOn.none {s t : State} (h : State.WentOn s t) {f : Nat} (hf : s.cmq.cmds.get? f = none) : t.cmq.cmds.get? f = none :=
  AMap.get?_none_iff.mpr (fun hk => AMap.get?_none_iff.mp hf (h.cmds f hk))

/-- The same namespaces are there, with their block sizes. -/
theorem State.WentOn.lba512 {s t : State} (h : State.WentOn s t) (i : Nat) :
    (t.media.namespaces.get? i).map (·.lba512) = (s.media.namespaces.get? i).map (·.lba512) := by
  have hmap : t.media.namespaces.map (fun e => (e.1, e.2.lba512)) = s.media.namespaces.map (fun e => (e.1, e.2.lba512)) :=
    congrArg Prod.fst h.media
  have hget := congrArg (fun m => AMap.get? m i) hmap
  simpa only [AMap.get?_mapVal] using hget

theorem State.WentOn.has {s t : State} (h : State.WentOn s t) (i : Nat) : t.media.namespaces.has i = s.media.namespaces.has i := by
  have hsome := congrArg Option.isSome (h.lba512 i)
  simpa only [Option.isSome_map, AMap.has] using hsome

theorem State.WentOn.protected {s t : State} (h : State.WentOn s t) : t.media.protected_ = s.media.protected_ :=
  (congrArg (fun x => x.2.2) h.media :)

section
variable {s t : State} (h : State.WentOn s t)
include h

theorem State.WentOn.foldl {α : Type} {f : State → α → State} (hf : ∀ u x, State.WentOn s u → State.WentOn s (f u x)) (xs : List α) :
    State.WentOn s (xs.foldl f t) := by
  induction xs generalizing t with
  | nil => exact h
  | cons x xs ih => exact ih (hf t x h)

/-- Nothing that the relation speaks of was written. -/
theorem State.WentOn.same {u : State} (hout : u.out = t.out) (hcmds : u.cmq.cmds = t.cmq.cmds) (hm : u.media = t.media) :
    State.WentOn s u :=
  h.trans ⟨by rw [hout], by rw [hcmds]; exact fun _ => id, by rw [hm]⟩

theorem State.WentOn.emits (os : List Output) : State.WentOn s (t.emits os) :=
  h.trans ⟨List.prefix_append _ _, fun _ => id, rfl⟩

theorem State.WentOn.setMedia {f : Media → Media} (hf : (f t.media).fixtures = t.media.fixtures) : State.WentOn s (t.setMedia f) :=
  h.trans ⟨List.prefix_refl _, fun _ => id, hf⟩

theorem State.WentOn.setCmd (fseq : Nat) (f : Cmd → Cmd) : State.WentOn s (t.setCmd fseq f) :=
  h.trans ⟨List.prefix_refl _, fun _ hk => AMap.keys_mod t.cmq.cmds fseq f ▸ hk, rfl⟩

theorem State.WentOn.setCtrl (p : Fin 2) (f : Ctrl → Ctrl) : State.WentOn s (t.setCtrl p f) :=
  h.trans ⟨List.prefix_refl _, fun _ => id, rfl⟩

theorem State.WentOn.setPort (p : Fin 2) (f : PcPort → PcPort) : State.WentOn s (t.setPort p f) :=
  h.trans ⟨List.prefix_refl _, fun _ => id, rfl⟩

/-- The flash went on with reads and rows. -/
theorem State.WentOn.flash {u : State} {ps : List Part} (hu : State.FlashWorked t u) (hc : Changes ps t u) (hcmq : Part.cmq ∉ ps) :
    State.WentOn s u := by
  have hcmqs : u.cmq = t.cmq := hc.rest .cmq hcmq
  have hfix : u.media.atRest.fixtures = t.media.atRest.fixtures := congrArg Media.fixtures hu.media
  exact h.trans ⟨hu.out, by rw [hcmqs]; exact fun _ => id, hfix⟩

end

/-! ### A command ends (R61, R269) -/

theorem Media.setNamespace_fixtures (m : Media) (ns : Nat) {f : Namespace → Namespace} (h : ∀ n, (f n).lba512 = n.lba512) :
    { m with namespaces := m.namespaces.mod ns f }.fixtures = m.fixtures :=
  Prod.ext (AMap.map_mod m.namespaces ns (·.lba512) h) rfl

theorem Media.foldl_unreserve_fixtures (ls : List Line) (m : Media) :
    (ls.foldl (fun m l => m.unreserve l.ns l.resv) m).fixtures = m.fixtures := by
  induction ls generalizing m with
  | nil => rfl
  | cons l ls ih => exact (ih _).trans (m.setNamespace_fixtures _ (fun _ => rfl))

section
variable {s t : State} (h : State.WentOn s t)
include h

theorem State.WentOn.dropLines (ns : List Nat) : State.WentOn s (t.dropLines ns) :=
  h.trans ⟨List.prefix_refl _, fun _ => id, Media.foldl_unreserve_fixtures _ _⟩

theorem State.WentOn.endCmd (fseq : Nat) : State.WentOn s (t.endCmd fseq) := by
  have hkeys : (t.endCmd fseq).cmq.cmds.map (·.1) ⊆ t.cmq.cmds.map (·.1) := by
    intro k hk
    obtain ⟨e, he, rfl⟩ := List.mem_map.mp hk
    obtain ⟨-, hmem | ⟨c, hc, -⟩⟩ := State.endCmd_mem he
    · exact List.mem_map_of_mem hmem
    · exact List.mem_map_of_mem (f := (·.1)) hc
  have hrest : (t.endCmd fseq).out = t.out ∧ (t.endCmd fseq).media.fixtures = t.media.fixtures := by
    unfold State.endCmd
    split
    · exact ⟨rfl, rfl⟩
    · exact ⟨rfl, Media.foldl_unreserve_fixtures _ _⟩
  exact h.trans ⟨by rw [hrest.1], hkeys, hrest.2⟩

theorem State.WentOn.post (p : Fin 2) (fseq sqid cid : Nat) (st : Status) (dw0 : Nat) :
    State.WentOn s (t.post p fseq sqid cid st dw0) := by
  unfold State.post
  dsimp only
  split
  · exact h.setPort _ _
  split
  · exact h
  split
  · exact h
  split
  · exact (h.setCtrl _ _).emits _
  · exact h.setCtrl _ _

theorem State.WentOn.tryReady (p : Fin 2) : State.WentOn s (t.tryReady p) := by
  unfold State.tryReady
  split
  · exact h.setCtrl _ _
  · exact h

theorem State.WentOn.complete (fseq : Nat) (st : Status) (dw0 lba : Nat) : State.WentOn s (t.complete fseq st dw0 lba) := by
  unfold State.complete
  split
  · exact h
  · dsimp only
    have herr (c : Cmd) : State.WentOn s (if st.isError then
        t.setCtrl c.port (fun k => { k with errors := ((fseq, st, lba) :: k.errors).take 256 }) else t) := by
      split
      · exact h.setCtrl _ _
      · exact h
    split
    · exact ((herr _).endCmd _).tryReady _
    · exact ((herr _).post _ _ _ _ _ _).endCmd _

theorem State.WentOn.dropReads (f : Ladder → Bool) : State.WentOn s (t.dropReads f) := by
  unfold State.dropReads
  exact h.setMedia rfl

theorem State.WentOn.quit (fseq : Nat) (st : Status) (lba : Nat) : State.WentOn s (t.quit fseq st lba) :=
  State.WentOn.complete (h.dropReads _) _ _ _ _

theorem State.WentOn.tryComplete (fseq : Nat) : State.WentOn s (t.tryComplete fseq) := by
  unfold State.tryComplete
  split
  · exact h
  split
  · exact h.complete _ _ _ _
  · exact h

theorem State.WentOn.freeLines (ns : List Nat) : State.WentOn s (t.freeLines ns) := by
  unfold State.freeLines
  dsimp only
  refine .foldl ?_ (fun _ _ hu => hu.tryComplete _) _
  refine (h.dropLines ns).trans ⟨List.prefix_refl _, fun k hk => ?_, rfl⟩
  rw [List.map_map] at hk
  exact hk

theorem State.WentOn.discard (hit : Nat → Nat → Bool) : State.WentOn s (t.discard hit) :=
  State.WentOn.freeLines (h.setMedia rfl) _

end

/-! ### Lines and reads (R57, R63, R102) -/

theorem Media.foldl_touch_fixtures (ps : List Nat) (m : Media) : (ps.foldl Media.touch m).fixtures = m.fixtures := by
  induction ps generalizing m with
  | nil => rfl
  | cons p ps ih => exact ih _

section
variable {s t : State} (h : State.WentOn s t)
include h

theorem State.WentOn.readRecs (who : ReadFor) (rs : List Rec) (cap : Nat) : State.WentOn s (t.readRecs who rs cap) :=
  h.flash ((State.FlashWorked.refl t).readRecs ..) (State.readRecs_changes ..) (by decide)

theorem State.WentOn.closeEarly (r : Nat) : State.WentOn s (t.closeEarly r) :=
  h.flash ((State.FlashWorked.refl t).closeEarly r) (State.closeEarly_changes ..) (by decide)

theorem State.WentOn.ensureFinal (r : Nat) : State.WentOn s (t.ensureFinal r) :=
  h.flash ((State.FlashWorked.refl t).ensureFinal r) (State.ensureFinal_changes ..) (by decide)

theorem State.WentOn.systemGo : State.WentOn s t.systemGo :=
  h.flash (State.FlashWorked.refl t).systemGo (State.systemGo_changes ..) (by decide)

theorem State.WentOn.loadPage (pk : Nat) : State.WentOn s (t.loadPage pk) := by
  refine h.flash ?_ (State.loadPage_changes ..) (by decide)
  unfold State.loadPage
  split
  · exact .refl t
  split
  · exact .refl t
  · exact (State.FlashWorked.refl t).readCws ..

theorem State.WentOn.readMapPage (pk : Nat) : State.WentOn s (t.readMapPage pk) := State.WentOn.loadPage (h.setMedia rfl) pk

theorem State.WentOn.issueReadBacks (fseq : Nat) (d : Dest) (ls : List Nat) : State.WentOn s (t.issueReadBacks fseq d ls) :=
  (h.setCmd _ _).emits _

theorem State.WentOn.tryReadBack (fseq : Nat) : State.WentOn s (t.tryReadBack fseq) := by
  unfold State.tryReadBack
  split
  · exact h
  split
  · exact h
  split
  · exact h.issueReadBacks _ _ _
  · exact h.setCmd _ _

/-- The landing buffer alone is written. -/
theorem State.WentOn.setLand (l : Landing) : State.WentOn s { t with land := l } := h.trans ⟨List.prefix_refl _, fun _ => id, rfl⟩

theorem State.WentOn.tryLand (fseq : Nat) : State.WentOn s (t.tryLand fseq) := by
  unfold State.tryLand
  split
  · exact h
  split
  · exact h
  split
  · exact h
  · exact State.WentOn.tryReadBack (h.setLand _) _

theorem State.WentOn.startMerge (fseq : Nat) (d : Dest) : State.WentOn s (t.startMerge fseq d) :=
  State.WentOn.readRecs (State.WentOn.setMedia (h.setCmd _ _) (Media.foldl_touch_fixtures _ _)) _ _ _

theorem State.WentOn.tryFill (fseq : Nat) : State.WentOn s (t.tryFill fseq) := by
  unfold State.tryFill
  split
  · exact h
  split
  · exact h
  split
  · exact (h.startMerge _ _).tryLand _
  · exact h

theorem State.WentOn.placeLines (fseq : Nat) (d : Dest) (adopted : Bool) (ls : List Nat) : State.WentOn s (t.placeLines fseq d adopted ls) := by
  refine .setCmd (.setMedia (h.setLand _) ?_) _ _
  exact Media.setNamespace_fixtures _ _ (fun _ => rfl)

theorem State.WentOn.adopt (p : Fin 2) (fseq : Nat) (ks : List Nat) : State.WentOn s (t.adopt p fseq ks) := by
  unfold State.adopt
  dsimp only
  refine .setCmd ?_ _ _
  exact h.same rfl rfl rfl

theorem State.WentOn.takeLines (fseq : Nat) (p : Fin 2) (d : Dest) (data : List Sector) : State.WentOn s (t.takeLines fseq p d data) := by
  unfold State.takeLines
  by_cases hfast : d.cmb ≠ [] ∧ fastPath d.n { nsid := 0, slba := d.slba, nlb := d.nlb, cmb := d.cmb } = true
  · rw [if_pos hfast]
    exact .tryFill (.setCmd (.setLand ((h.adopt _ _ _).placeLines _ _ _ _) _) _ _) _
  rw [if_neg hfast]
  split
  · exact h.setCmd _ _
  · refine .tryLand (.startMerge ?_ _ _) _
    have hplaced (ls : List Nat) (x : List Sector) : State.WentOn s (if x = [] then t.placeLines fseq d false ls
        else (t.placeLines fseq d false ls).setCmd fseq (fun c => { c with wdata := x })) := by
      split
      · exact h.placeLines _ _ _ _
      · exact (h.placeLines _ _ _ _).setCmd _ _
    exact hplaced _ _

theorem State.WentOn.landStart (fseq : Nat) (data : List Sector) : State.WentOn s (t.landStart fseq data) := by
  unfold State.landStart
  split
  · exact h
  split
  · exact h.quit _ _ _
  dsimp only
  split
  · exact h.quit _ _ _
  split
  · exact h.quit _ _ _
  split
  · exact h.quit _ _ _
  split
  · exact h.quit _ _ _
  split
  · refine .quit ?_ _ _ _
    exact h.same rfl rfl rfl
  split
  · exact h.quit _ _ _
  split
  · exact h.quit _ _ _
  split
  · exact (h.setCmd _ _).readMapPage _
  split
  · exact h.quit _ _ _
  · exact h.takeLines _ _ _ _

theorem State.WentOn.finishIo (fseq : Nat) : State.WentOn s (t.finishIo fseq) := by
  unfold State.finishIo
  split
  · exact h
  split
  · exact h.quit _ _ _
  dsimp only
  split
  · exact (h.emits _).complete _ _ _ _
  · exact h.complete _ _ _ _
  · exact (h.setCmd _ _).landStart _ _
  · exact h.complete _ _ _ _

theorem State.WentOn.startIo (fseq : Nat) : State.WentOn s (t.startIo fseq) := by
  unfold State.startIo
  split
  · exact h
  split
  · exact h.quit _ _ _
  split
  · refine .quit ?_ _ _ _
    split
    · exact h.same rfl rfl rfl
    · exact h
  extract_lets gs rows srcs got recs u
  split
  · exact .setCmd (h.foldl (fun _ _ hu => (hu.closeEarly _).ensureFinal _) _) _ _
  split
  · exact h.quit _ _ _
  split
  · exact (h.setCmd _ _).readMapPage _
  split
  · exact (h.setCmd _ _).finishIo _
  · refine .readRecs (.setMedia (h.setCmd _ _) ?_) _ _ _
    exact Media.foldl_touch_fixtures _ _

theorem State.WentOn.goOn : State.WentOn s t.goOn := by
  refine h.foldl (fun u f hu => ?_) _
  split
  · split
    · exact hu.landStart _ _
    split
    · exact hu.tryFill _
    split
    · exact hu.tryReadBack _
    · exact hu
  · exact hu

theorem State.WentOn.resumeAll : State.WentOn s t.resumeAll := by
  refine .goOn (h.foldl (fun u f hu => ?_) _)
  split
  · split
    · exact hu.startIo _
    · exact hu
  · exact hu

end

/-! ### Stripes that closed (R210) -/

/-- The media but for what flash work and the release of stripes write. -/
def Media.atSettle (m : Media) : Media := { m.atRest with victim := none, pounces := [] }

/-- Stripes were released for erase, and their blocks may be erased. -/
structure State.Settled (s t : State) : Prop where
  media : t.media.atSettle = s.media.atSettle
  out : s.out <+: t.out

theorem State.Settled.refl (s : State) : State.Settled s s := ⟨rfl, List.prefix_refl _⟩

section
variable {s t : State} (h : State.Settled s t)
include h

theorem State.Settled.foldl {α : Type} {f : State → α → State} (hf : ∀ u x, State.Settled s u → State.Settled s (f u x)) (xs : List α) :
    State.Settled s (xs.foldl f t) := by
  induction xs generalizing t with
  | nil => exact h
  | cons x xs ih => exact ih (hf t x h)

theorem State.Settled.setMedia {f : Media → Media} (hf : (f t.media).atSettle = t.media.atSettle) : State.Settled s (t.setMedia f) :=
  ⟨hf.trans h.media, h.out⟩

theorem State.Settled.enqueue (d : Nat) (o : QOp) : State.Settled s (t.enqueue d o) := by
  have hwork := (State.FlashWorked.refl t).enqueue d o
  exact ⟨(congrArg (fun m : Media => { m with victim := none, pounces := [] }) hwork.media :).trans h.media, h.out.trans hwork.out⟩

theorem State.Settled.keepErased (d : Nat) : State.Settled s (t.keepErased d) := by
  have hfour : ∀ {u : State} (free : Nat) (bs : List Nat), State.Settled s u → State.Settled s (u.keepFour d free bs) := fun free bs hu => by
    unfold State.keepFour
    split
    · refine hu.foldl (fun v b hv => ?_) _
      unfold State.queueErase
      extract_lets x running
      split
      · exact hv
      · exact hv.enqueue _ _
    · exact hu
  exact hfour _ _ (hfour _ _ h)

omit h in
/-- Blocks that go to the list of their die. -/
theorem Media.foldl_dirty_atSettle (bs : List (Nat × Nat)) (m : Media) :
    (bs.foldl (fun m x => if (m.die x.1).bad.contains x.2 ∨ !m.inService x.1 then m
      else m.setDie x.1 (fun d => { d with dirty := d.dirty ++ [x.2] })) m).atSettle = m.atSettle := by
  induction bs generalizing m with
  | nil => rfl
  | cons b bs ih =>
    refine (ih _).trans ?_
    dsimp only
    split
    · rfl
    · rfl

theorem State.Settled.freeStripe (sid : Nat) (x : Stripe) : State.Settled s (t.freeStripe sid x) := by
  refine .foldl (.setMedia h (Media.foldl_dirty_atSettle _ _)) (fun u y hu => ?_) _
  split
  · exact hu.keepErased _
  · exact hu

theorem State.Settled.settleStripes : State.Settled s t.settleStripes := by
  refine h.foldl (fun u e hu => ?_) _
  split
  · exact hu
  split
  · exact hu
  have htotal (x : Stripe) : State.Settled s (if x.total = 0 then
      u.setMedia (fun m => { m with stripes := m.stripes.mod e.1 (fun t =>
        { t with total := recUnits (m.stripeRecs t), closedAt := u.clocks.opsec.toNat }) }) else u) := by
    split
    · exact hu.setMedia rfl
    · exact hu
  extract_lets w
  split
  · exact (htotal _).freeStripe _ _
  · exact htotal _

end

theorem State.Settled.map {s t : State} (h : State.Settled s t) : t.media.map = s.media.map := (congrArg Media.map h.media :)

theorem State.Settled.namespaces {s t : State} (h : State.Settled s t) : t.media.namespaces = s.media.namespaces :=
  (congrArg Media.namespaces h.media :)

theorem State.settleStripes_settled (s : State) : State.Settled s s.settleStripes := (State.Settled.refl s).settleStripes

theorem State.WentOn.settleStripes {s t : State} (h : State.WentOn s t) : State.WentOn s t.settleStripes := by
  have hset := t.settleStripes_settled
  have hcmq : t.settleStripes.cmq = t.cmq := (State.settleStripes_changes t).rest .cmq (by decide)
  have hfix : t.settleStripes.media.atSettle.fixtures = t.media.atSettle.fixtures := congrArg Media.fixtures hset.media
  exact h.trans ⟨hset.out, by rw [hcmq]; exact fun _ => id, hfix⟩

end Sys2Proof.Machine
end

section
/-! The statement about the I/O commands beside Read and Write, which meets a system record that waits for a row (R63, R66, R183, R199). -/

namespace Sys2Proof.Machine

open Sys2Proof

/-- A deallocation of no range. -/
def dsmCmd : Cmd := { port := 0, sqid := 1, cid := 7, cmd := .dsm 1 true [], phase := .ready }

/-- A row of the system stream that is full, on one die. -/
def fullRow : Row := { stripe := 0, w := 0, stream := .system, cursors := Vector.replicate 8 { page := 9 } }

/-- A machine with that row, a system record that waits, and a channel that takes operations. -/
def dsmState : State :=
  { State.reset with
    phase := .running
    cmq := {
      ctrls := Vector.replicate 2 { en := true, rdy := true, sqs := [(1, { size := 16, cqid := 1 })], cqs := [(1, { size := 16 })] }
      cmds := [(1, dsmCmd)], fseq := 2 }
    media := { State.reset.media with
      namespaces := [(0, { nlbas := 1024, lba512 := false, ind16 := false, zoned := false, attached := [0] })]
      fch := Vector.replicate 64 { en := true }
      stripes := [(0, { group := 0, stream := .system, members := [(0, 0)], rotation := .by32 })]
      rows := [(0, fullRow)], rowSeq := 1
      sysWait := [{ kind := 1, key := 0, bytes := [0] }] } }

theorem dsmState_flying : dsmState.Flying 1 dsmCmd .ready :=
  ⟨rfl, rfl, rfl, rfl, ⟨rfl, rfl, ⟨{ size := 16 }, rfl, by decide⟩, rfl⟩, fun _ => rfl⟩

/-- The full row is closed and its program starts: its first command, not the completion entry, is what is sent first. -/
theorem dsmState_out : ∃ t, exec (.datasetManagement 1) dsmState = .next t ∧
    t.out.head? ≠ some (.cqe dsmCmd.port (dsmState.cqOf dsmCmd) dsmCmd.sqid dsmCmd.cid .success 0) :=
  ⟨_, rfl, by decide +kernel⟩

/-- Refutes O34: a deallocation lets the system records that wait go to their rows before its command completes, and the program of a
row that is full is sent ahead of the completion entry. -/
theorem not_otherIoCommands : ¬ Obligations.OtherIoCommands := by
  rintro ⟨-, -, -, -, -, hdealloc, -⟩
  obtain ⟨s1, hs1, ⟨⟨vec, hposted⟩, -⟩, -⟩ := hdealloc 1 1 0 [] _ dsmCmd dsmState dsmState_flying rfl rfl rfl (by decide) (by simp) rfl
    (by simp) (by decide)
  obtain ⟨t, ht, hfirst⟩ := dsmState_out
  cases ht.symm.trans hs1
  obtain ⟨rest, hrest⟩ := (State.WentOn.refl s1).resumeAll.settleStripes.out
  rw [← hrest, hposted] at hfirst
  exact hfirst rfl

end Sys2Proof.Machine
end

section
/-! The statement about the remaining admin commands (R253, R255, R280, R457). -/

namespace Sys2Proof.Machine

open Sys2Proof

section
variable {s t : State} (h : State.WentOn s t)
include h

/-! ### Streams that go on (R88, R450) -/

theorem State.WentOn.closeFull (r : Nat) : State.WentOn s (t.closeFull r) :=
  h.flash ((State.FlashWorked.refl t).closeFull r) (State.closeFull_changes ..) (by decide)

theorem State.WentOn.copiesGo : State.WentOn s t.copiesGo :=
  h.flash (State.FlashWorked.refl t).copiesGo (State.copiesGo_changes ..) (by decide)

theorem State.WentOn.sendLines (r : Nat) (sl : Fin 8) (ls : List Nat) : State.WentOn s (t.sendLines r sl ls) := by
  unfold State.sendLines
  extract_lets
  refine State.WentOn.setMedia ?_ rfl
  exact h.setLand _

theorem State.WentOn.dispatch (st : Stream) (fuel : Nat) : State.WentOn s (t.dispatch st fuel) := by
  induction fuel generalizing t with
  | zero => exact h
  | succ fuel ih =>
    rw [State.dispatch]
    split
    · exact h
    split
    · split
      · refine h.setMedia ?_
        unfold Media.await
        split
        · rfl
        · rfl
      split
      · exact h
      · exact ih (h.setMedia rfl)
    split
    · exact h
    split
    · exact h
    split
    · exact ih (h.sendLines _ _ _)
    split
    · exact ih (h.closeFull _)
    · exact h

theorem State.WentOn.dispatchAll : State.WentOn s t.dispatchAll :=
  h.foldl (fun _ _ hu => hu.dispatch _ _) _

end

/-! ### A power state that is asked for (R457) -/

theorem State.tryTest_out (s : State) : s.out <+: s.tryTest.out := by
  have hout : (s.setPlp (fun p => { p with state := .testing, due := p.due - 1, testNow := false })).recompute.out = s.out :=
    (State.recompute_changes _).rest .out (by decide)
  unfold State.tryTest
  split
  · exact ⟨_, congrArg (· ++ _) hout.symm⟩
  · exact List.prefix_refl _

theorem State.followPs_out (s : State) (apst : Bool) (p : Fin 2) : s.out <+: (s.followPs apst p).out := by
  unfold State.followPs
  dsimp only
  split
  · exact State.tryTest_out (s.setPws _)
  split
  · exact List.prefix_refl _
  · exact (State.WentOn.refl (s.setPws _)).dispatchAll.copiesGo.out

section
variable {s : State} {fseq : Nat} {c : Cmd}

/-- The controller asks for a power state, before the device follows. -/
def State.psAsked (s : State) (fseq ps : Nat) (p : Fin 2) : State :=
  (s.complete fseq .success).setCtrl p (fun k => { k with ps := ps, psOper := if ps < 3 then ps else k.psOper })

theorem exec_setPowerManagement (h : s.AdminReady fseq 0x09 c) {ps : Nat} (hps : ps < 3) :
    exec (.setPowerManagement fseq ps) s = .next ((s.psAsked fseq ps c.port).followPs false c.port) := by
  rw [exec_admin h (by decide) (i := .setPowerManagement fseq ps) rfl, if_neg (by omega)]
  rfl

theorem State.psAsked_followed (h : s.AdminReady fseq 0x09 c) {ps : Nat} (hps : ps < 3) :
    (((s.psAsked fseq ps c.port).followPs false c.port).ctrl c.port).ps = ps ∧
    (((s.psAsked fseq ps c.port).followPs false c.port).ctrl c.port).psOper = ps ∧
    ((s.psAsked fseq ps c.port).followPs false c.port).cmq.cmds.get? fseq = none ∧
    ∃ vec, [Output.cqe c.port (s.cqOf c) c.sqid c.cid .success 0, Output.msix c.port vec] <+:
      ((s.psAsked fseq ps c.port).followPs false c.port).out.drop s.out.length := by
  have hcmq : ((s.psAsked fseq ps c.port).followPs false c.port).cmq = (s.psAsked fseq ps c.port).cmq :=
    (State.followPs_changes ..).rest .cmq (by decide)
  have hctrl : ((s.psAsked fseq ps c.port).followPs false c.port).ctrl c.port =
      { (s.complete fseq .success).ctrl c.port with ps := ps, psOper := ps } := by
    rw [State.ctrl, hcmq]
    change (s.psAsked fseq ps c.port).ctrl c.port = _
    rw [State.psAsked, State.setCtrl_ctrl, if_pos hps]
  obtain ⟨⟨vec, hout⟩, hleft, -⟩ := h.flying.completes_now .success 0 0
  obtain ⟨rest, hrest⟩ := (s.psAsked fseq ps c.port).followPs_out false c.port
  refine ⟨by rw [hctrl], by rw [hctrl], by rw [hcmq]; exact hleft, vec, rest, ?_⟩
  rw [← hrest]
  change _ = List.drop s.out.length ((s.complete fseq .success).out ++ rest)
  rw [hout, List.append_assoc, List.drop_left]

/-! ### Abort (R280) -/

theorem exec_abort (h : s.AdminReady fseq 0x08 c) (sqid cid : Nat) :
    exec (.abort fseq sqid cid) s = .next (s.abort c fseq sqid cid).resumeAll :=
  exec_admin h (by decide) (i := .abort fseq sqid cid) rfl

theorem State.abort_missing {sqid cid : Nat}
    (hnone : ∀ e ∈ s.cmq.cmds, e.1 ≠ fseq → e.2.port = c.port → e.2.sqid = sqid → e.2.cid ≠ cid) :
    s.abort c fseq sqid cid = s.complete fseq .success 1 := by
  have hfind : s.cmq.cmds.find? (fun e => decide (e.2.port = c.port) && decide (e.2.sqid = sqid) && decide (e.2.cid = cid) &&
      decide (e.1 ≠ fseq)) = none := by
    rw [List.find?_eq_none]
    intro e he
    simp only [Bool.and_eq_true, decide_eq_true_eq, not_and]
    intro hall hne
    exact hnone e he hne hall.1.1 hall.1.2 hall.2
  rw [State.abort, hfind]

theorem State.abort_waiting {sqid cid : Nat} {e : Nat × Cmd}
    (hfind : s.cmq.cmds.find? (fun e => decide (e.2.port = c.port) && decide (e.2.sqid = sqid) && decide (e.2.cid = cid) &&
      decide (e.1 ≠ fseq)) = some e) (hwait : e.2.phase = .waitLocks) :
    s.abort c fseq sqid cid = (s.quit e.1 .abortRequested).complete fseq .success 0 := by
  have hmay : e.2.abortable = true := by
    rw [Cmd.abortable, hwait]
    rfl
  rw [State.abort, hfind]
  simp only [hmay, if_true]

/-! ### Requests, the self-test and the directives (R253, R255) -/

theorem exec_asyncEventRequest (h : s.AdminReady fseq 0x0C c) : exec (.asyncEventRequest fseq) s =
    .next (if 8 ≤ (s.ctrl c.port).aers.length then s.complete fseq .aerLimit
      else (s.setCtrl c.port (fun k => { k with aers := k.aers ++ [fseq] })).setCmd fseq (fun d => { d with phase := .outstanding })) :=
  exec_admin h (by decide) (i := .asyncEventRequest fseq) rfl

/-- The outcome of a self-test is noted. -/
def State.selfTested (s : State) (p : Fin 2) (code : Nat) : State :=
  { s with free := s.free + 1 }.setCtrl p (fun k => { k with selfTest := 0, selfTestLast := code * 16 + bit (!Config.selfTestPasses s.free) * 5 })

theorem exec_deviceSelfTest (h : s.AdminReady fseq 0x14 c) {code : Nat} (hcode : code = 1 ∨ code = 2) :
    exec (.deviceSelfTest fseq code) s = .next ((s.selfTested c.port code).complete fseq .success) := by
  rw [exec_admin h (by decide) (i := .deviceSelfTest fseq code) rfl, if_neg (by omega), if_neg (by omega)]
  rfl

theorem State.selfTested_completes {ph : CmdPhase} (h : s.Flying fseq c ph) (code : Nat) :
    State.Completed s.out s ((s.selfTested c.port code).complete fseq .success) fseq c .success 0 := by
  have hpost : ({ s with free := s.free + 1 } : State).CanPost c := ⟨h.post.free, h.post.enabled, h.post.room, h.post.ide⟩
  obtain ⟨hp, hq⟩ := State.noteError_canPost _ c hpost
    (fun k => { k with selfTest := 0, selfTestLast := code * 16 + bit (!Config.selfTestPasses s.free) * 5 })
    (fun _ => rfl) (fun _ => rfl) (fun _ => rfl)
  exact h.completes (u := s.selfTested c.port code) h.get hp hq .success 0 0

theorem State.selfTested_last (code : Nat) : (((s.selfTested c.port code).complete fseq .success).ctrl c.port).selfTestLast =
    code * 16 + (if Config.selfTestPasses s.free then 0 else 5) := by
  refine (congrArg Ctrl.selfTestLast (State.complete_settings _ c.port fseq .success 0 0) :).trans ?_
  rw [State.selfTested, State.setCtrl_ctrl]
  cases Config.selfTestPasses s.free
  · rfl
  · rfl

/-- A directive of a namespace is enabled or disabled. -/
def Ctrl.setDirective (k : Ctrl) (key : Nat) (enable : Bool) : Ctrl :=
  { k with directive := (key, enable) :: k.directive.filter (fun e => e.1 ≠ key) }

theorem exec_directiveSend (h : s.AdminReady fseq 0x19 c) {nsid dtype : Nat} (hd : dtype = 0 ∨ dtype = 2)
    (hns : (s.nsOf c.port nsid).isSome) (enable : Bool) : exec (.directiveSend fseq nsid dtype enable) s =
    .next ((s.setCtrl c.port (fun k => k.setDirective (nsid * 4 + dtype) enable)).complete fseq .success) := by
  have hok : directiveOk dtype = true := by
    rcases hd with rfl | rfl
    · rfl
    · rfl
  rw [exec_admin h (by decide) (i := .directiveSend fseq nsid dtype enable) rfl]
  simp only [hok, Option.isNone_eq_false_iff.mpr hns, Bool.not_true, Bool.false_eq_true, if_false]
  rfl

theorem exec_directiveReceive (h : s.AdminReady fseq 0x1A c) {nsid dtype : Nat} (hd : dtype = 0 ∨ dtype = 2)
    (hns : (s.nsOf c.port nsid).isSome) : exec (.directiveReceive fseq nsid dtype) s =
    .next ((s.emit (.reply fseq 0x1A0000 [5, bit ((s.ctrl c.port).directive.contains (nsid * 4 + dtype, true))])).complete fseq
      .success) := by
  have hok : directiveOk dtype = true := by
    rcases hd with rfl | rfl
    · rfl
    · rfl
  rw [exec_admin h (by decide) (i := .directiveReceive fseq nsid dtype) rfl]
  simp only [hok, Option.isNone_eq_false_iff.mpr hns, Bool.not_true, Bool.false_eq_true, if_false]

theorem bit_spec (b : Bool) : (bit b = 1 ↔ b = true) ∧ bit b ≤ 1 := by
  cases b
  · exact ⟨by decide, by decide⟩
  · exact ⟨by decide, by decide⟩

theorem exec_invalidAdminOpcode (h : s.Flying fseq c .ready) {opc : Byte} {sc : AdminScope} (hc : c.cmd = .admin opc sc)
    (hopc : opc.toNat ∉ adminOpcodes) : exec (.invalidAdminOpcode fseq) s = .next (s.complete fseq .invalidOpcode) := by
  change execInvalidAdminOpcode fseq s = _
  rw [execInvalidAdminOpcode, State.whenLive_live h.live, State.invalidAdmin, h.get]
  have hno : adminOpcodes.contains opc.toNat = false := by
    rw [Bool.eq_false_iff, Ne, List.contains_iff_mem]
    exact hopc
  simp only [hc, hno, Bool.false_eq_true, if_false]

end

/-- Settles O9: an admin command that has its effect completes with it; the device follows a power state after the completion. -/
theorem otherAdminCommands : Obligations.OtherAdminCommands := by
  unfold Obligations.OtherAdminCommands
  refine ⟨fun fseq ps c s h hps => ⟨_, exec_setPowerManagement h hps, State.psAsked_followed h hps⟩, fun fseq c s h => ⟨_, exec_asyncEventRequest h, ?_, ?_⟩,
    fun fseq sqid cid c s h hnone => ?_, fun fseq sqid cid c e s h hfind hwait => ?_,
    fun fseq code c s h hcode => ⟨_, exec_deviceSelfTest h hcode, State.selfTested_completes h.flying code, State.selfTested_last code⟩,
    fun fseq nsid dtype enable c s h hd hns => ⟨_, exec_directiveSend h hd hns enable, ?_, ?_⟩,
    fun fseq nsid dtype c s h hd hns => ⟨_, _, exec_directiveReceive h hd hns, h.flying.completes_reply .., ?_, ?_⟩,
    fun fseq opc sc c s h hc hopc => ⟨_, exec_invalidAdminOpcode h hc hopc, h.completes_now _ 0 0⟩⟩
  · exact fun hroom => if_neg (by omega)
  · intro hfull
    rw [if_pos hfull]
    exact h.flying.completes_now _ 0 0
  · obtain ⟨⟨vec, hout⟩, hleft, -⟩ := h.flying.completes_now .success 1 0
    have hgo := (State.WentOn.refl (s.complete fseq .success 1)).resumeAll
    obtain ⟨rest, hrest⟩ := hgo.out
    refine ⟨_, exec_abort h sqid cid, ?_⟩
    rw [State.abort_missing hnone]
    refine ⟨hgo.none hleft, vec, rest, ?_⟩
    rw [← hrest, hout, List.append_assoc, List.drop_left]
  · refine ⟨_, exec_abort h sqid cid, ?_⟩
    rw [State.abort_waiting hfind hwait]
    have hquit : (s.quit e.1 .abortRequested).cmq.cmds.get? e.1 = none := State.complete_left _ _ _ _ _
    have hgo := (State.WentOn.refl ((s.quit e.1 .abortRequested).complete fseq .success 0)).resumeAll
    exact ⟨hgo.none (State.complete_left _ _ _ _ _), hgo.none (((State.WentOn.refl _).complete fseq .success 0 0).none hquit)⟩
  · exact h.flying.completes_setCtrl (fun k => k.setDirective (nsid * 4 + dtype) enable) (fun _ => rfl) (fun _ => rfl) (fun _ => rfl) .success 0 0
  · have hkept : ((s.setCtrl c.port (fun k => k.setDirective (nsid * 4 + dtype) enable)).complete fseq .success |>.ctrl c.port).directive =
        ((s.setCtrl c.port (fun k => k.setDirective (nsid * 4 + dtype) enable)).ctrl c.port).directive :=
      (congrArg Ctrl.directive (State.complete_settings _ c.port fseq .success 0 0) :)
    rw [hkept, State.setCtrl_ctrl]
    exact List.contains_iff_mem.mpr List.mem_cons_self
  · rw [(bit_spec _).1, List.contains_iff_mem]
  · exact (bit_spec _).2

end Sys2Proof.Machine
end

section
/-! The statement about namespaces: created, deleted, attached, formatted and sanitized (R98, R99, R183, R253, R377, R501). -/

namespace Sys2Proof.Machine

open Sys2Proof

section
variable {s : State} {fseq : Nat} {c : Cmd}

/-! ### Creation and attachment (R98, R253) -/

theorem State.planNs_ok {i nlbas : Nat} {lba512 zoned expanded : Bool} {n : Namespace}
    (h : s.planNs i nlbas lba512 zoned expanded = .ok n) : n.nlbas = nlbas ∧ n.attached = [] := by
  unfold State.planNs at h
  simp only [ite_eq_iff, reduceCtorEq, and_false, false_or, Except.ok.injEq] at h
  rcases h with ⟨-, -, -, ⟨-, -, rfl⟩ | ⟨-, -, rfl⟩⟩
  · exact ⟨rfl, rfl⟩
  · exact ⟨rfl, rfl⟩

/-- A plain namespace that the guaranteed capacity does not hold. -/
theorem State.planNs_full {i nlbas : Nat} {lba512 : Bool} (hn : 1 ≤ nlbas) (hplace : s.param 0x7001 i = 0)
    (hfull : s.media.guaranteed < s.media.plainBytes + nlbas * (if lba512 then 512 else 4096)) :
    s.planNs i nlbas lba512 false false = .error .nsInsufficientCapacity := by
  have hne : nlbas ≠ 0 := by omega
  simp only [State.planNs, hne, hplace, Media.capBytes, Namespace.bytes, hfull, Bool.false_eq_true, false_and, if_false, Bool.not_false,
    if_true, OfNat.zero_ne_ofNat, zero_ne_one, or_self, and_false]

theorem exec_namespaceManagement (h : s.AdminReady fseq 0x0D c) (m : NsMgmt) :
    exec (.namespaceManagement fseq m) s = .next (s.nsManage fseq m) :=
  exec_admin h (by decide) (i := .namespaceManagement fseq m) rfl

theorem exec_namespaceCreate (h : s.AdminReady fseq 0x0D c) {i nlbas : Nat} {lba512 zoned expanded : Bool} {n : Namespace}
    (hfree : s.media.freeNs = some i) (hplan : s.planNs i nlbas lba512 zoned expanded = .ok n) :
    exec (.namespaceManagement fseq (.create nlbas lba512 zoned expanded)) s =
      .next ((s.setMedia (fun m => { m with namespaces := m.namespaces.put i n })).complete fseq .success (i + 1)) := by
  rw [exec_namespaceManagement h]
  simp only [State.nsManage, hfree, hplan]

theorem exec_namespaceCreate_refused (h : s.AdminReady fseq 0x0D c) {i nlbas : Nat} {lba512 zoned expanded : Bool} {st : Status}
    (hfree : s.media.freeNs = some i) (hplan : s.planNs i nlbas lba512 zoned expanded = .error st) :
    exec (.namespaceManagement fseq (.create nlbas lba512 zoned expanded)) s = .next (s.complete fseq st) := by
  rw [exec_namespaceManagement h]
  simp only [State.nsManage, hfree, hplan]

/-- A namespace is attached to a port. -/
def Namespace.attachTo (p : Fin 2) (n : Namespace) : Namespace := { n with attached := n.attached ++ [p] }

/-- A controller learns that a namespace has changed. -/
def Ctrl.seeChanged (nsid : Nat) (k : Ctrl) : Ctrl :=
  { k with changedNs := if k.changedNs.contains nsid then k.changedNs else k.changedNs ++ [nsid] }

theorem Ctrl.seeChanged_mem (nsid : Nat) (k : Ctrl) : nsid ∈ (k.seeChanged nsid).changedNs := by
  unfold Ctrl.seeChanged
  split
  next hc => exact List.contains_iff_mem.mp hc
  next => exact List.mem_append_right _ List.mem_cons_self

theorem exec_namespaceAttachment (h : s.AdminReady fseq 0x15 c) {nsid : Nat} {p : Fin 2} {n : Namespace} (hnsid : 1 ≤ nsid)
    (hn : s.media.namespaces.get? (nsid - 1) = some n) (hp : p ∈ s.portList) (haers : (s.ctrl p).aers = []) :
    exec (.namespaceAttachment fseq true nsid [p]) s = .next (if n.attached.contains p then s.complete fseq .nsAlreadyAttached
      else ((s.setNs (nsid - 1) (Namespace.attachTo p)).setCtrl p (Ctrl.seeChanged nsid)).complete fseq .success) := by
  have hne : nsid ≠ 0 := by omega
  have hchanged : (s.setNs (nsid - 1) (Namespace.attachTo p)).nsChanged p nsid =
      (s.setNs (nsid - 1) (Namespace.attachTo p)).setCtrl p (Ctrl.seeChanged nsid) := by
    have haers' : (((s.setNs (nsid - 1) (Namespace.attachTo p)).setCtrl p (Ctrl.seeChanged nsid)).ctrl p).aers = [] := by
      rw [State.setCtrl_ctrl]
      exact haers
    unfold State.nsChanged
    dsimp only
    split
    next hcons => exact absurd (haers'.symm.trans hcons) (by simp)
    next => rfl
  rw [exec_admin h (by decide) (i := .namespaceAttachment fseq true nsid [p]) rfl]
  have hin : s.portList.contains p = true := List.contains_iff_mem.mpr hp
  simp only [State.nsAttach, hne, hn, hin, if_false, List.cons_ne_nil, List.any_cons, List.any_nil, Bool.not_true, Bool.or_false,
    Bool.false_eq_true, or_self, true_and, false_and, if_true]
  split
  · rfl
  · rw [← hchanged]
    rfl

/-- A setting of a controller beside its queues does not keep a completion back. -/
theorem State.setCtrl_canPost {u : State} (h : u.CanPost c) (p : Fin 2) {f : Ctrl → Ctrl} (hen : ∀ k, (f k).en = k.en)
    (hcqs : ∀ k, (f k).cqs = k.cqs) (hsqs : ∀ k, (f k).sqs = k.sqs) : (u.setCtrl p f).CanPost c ∧ (u.setCtrl p f).cqOf c = u.cqOf c := by
  by_cases hp : c.port = p
  · subst hp
    exact State.noteError_canPost u c h f hen hcqs hsqs
  · have hsame : (u.setCtrl p f).ctrl c.port = u.ctrl c.port := State.setCtrl_ctrl_ne u hp f
    have hcq : (u.setCtrl p f).cqOf c = u.cqOf c := by rw [State.cqOf, hsame, State.cqOf]
    exact ⟨⟨h.free, by rw [hsame]; exact h.enabled, by rw [hsame, hcq]; exact h.room, h.ide⟩, hcq⟩

theorem State.attached_completes (h : s.Flying fseq c .ready) (nsid : Nat) (p : Fin 2) (n : Namespace)
    (hn : s.media.namespaces.get? (nsid - 1) = some n) :
    State.Completed s.out s (((s.setNs (nsid - 1) (Namespace.attachTo p)).setCtrl p (Ctrl.seeChanged nsid)).complete fseq .success)
      fseq c .success 0 ∧
    (((s.setNs (nsid - 1) (Namespace.attachTo p)).setCtrl p (Ctrl.seeChanged nsid)).complete fseq .success).media.namespaces.get?
      (nsid - 1) = some { n with attached := n.attached ++ [p] } ∧
    nsid ∈ ((((s.setNs (nsid - 1) (Namespace.attachTo p)).setCtrl p (Ctrl.seeChanged nsid)).complete fseq .success).ctrl p).changedNs := by
  have hpost := (State.setMedia_samePost s (fun m => { m with namespaces := m.namespaces.mod (nsid - 1) (Namespace.attachTo p) })
    fseq).canPost h.post
  obtain ⟨hp, hq⟩ := State.setCtrl_canPost (u := s.setNs (nsid - 1) (Namespace.attachTo p)) hpost p (f := Ctrl.seeChanged nsid)
    (fun _ => rfl) (fun _ => rfl) (fun _ => rfl)
  refine ⟨h.completes (u := (s.setNs (nsid - 1) (Namespace.attachTo p)).setCtrl p (Ctrl.seeChanged nsid)) h.get hp hq .success 0 0, ?_, ?_⟩
  · rw [State.complete_media (s := (s.setNs (nsid - 1) (Namespace.attachTo p)).setCtrl p (Ctrl.seeChanged nsid)) h.get (h.fresh rfl)]
    exact (State.setNs_get s _ _).trans (congrArg (Option.map _) hn)
  · rw [State.complete_changedNs, State.setCtrl_ctrl]
    exact Ctrl.seeChanged_mem _ _

end

/-! ### Data that goes (R183, R377, R501) -/

theorem Media.wipe_fixtures (m : Media) (ns : Nat) : (m.wipe ns).fixtures = m.fixtures := by
  refine Prod.ext ?_ rfl
  exact AMap.map_mod m.namespaces ns (f := fun n => { n with charged := 0, zones := [] }) (·.lba512) (fun _ => rfl)

section
variable {s t : State} (h : State.WentOn s t)
include h

theorem State.WentOn.checkWear : State.WentOn s t.checkWear := by
  unfold State.checkWear
  split
  · exact State.WentOn.same (h.setMedia (f := fun m => { m with wearSaid := true }) rfl) rfl rfl rfl
  · exact h

theorem State.WentOn.wipeNs (ns : Nat) : State.WentOn s (t.wipeNs ns) := by
  have hwipe : State.WentOn s ((t.discard (fun n _ => decide (n = ns))).setMedia (fun m => m.wipe ns)) := by
    exact (h.discard _).setMedia (Media.wipe_fixtures _ _)
  exact hwipe.checkWear.settleStripes.resumeAll

theorem State.WentOn.newKey (slot : Fin 64) : State.WentOn s (t.newKey slot) := by
  unfold State.newKey
  extract_lets
  refine State.WentOn.freeLines ?_ _
  exact h.same rfl rfl rfl

theorem State.WentOn.nsChanged (p : Fin 2) (nsid : Nat) : State.WentOn s (t.nsChanged p nsid) := by
  unfold State.nsChanged
  dsimp only
  split
  · split
    · exact .complete ((h.setCtrl _ _).setCtrl _ _) _ _ _ _
    · exact h.setCtrl _ _
  · exact h.setCtrl _ _

end

section
variable {s : State} {fseq : Nat} {c : Cmd}

/-- An entry at its default stands no longer, and no other comes to stand. -/
theorem Dict.toDefault_vals (d : Dict) (x i k : Nat) : (d.toDefault x i).vals.get? k = if k = x * 256 + i then none else d.vals.get? k := by
  unfold Dict.toDefault
  dsimp only
  by_cases hk : k = x * 256 + i
  · rw [if_pos hk, hk]
    split
    next => exact AMap.get?_del _ _
    next hno => exact Option.not_isSome_iff_eq_none.mp hno
  · rw [if_neg hk]
    split
    · exact AMap.get?_del_ne _ _ _ hk
    · rfl

theorem Dict.foldl_toDefault {d : Dict} {i : Nat} (xs : List Nat) {x : Nat} (h : x ∈ xs ∨ d.vals.get? (x * 256 + i) = none) :
    (xs.foldl (fun (d : Dict) x => d.toDefault x i) d).vals.get? (x * 256 + i) = none := by
  induction xs generalizing d with
  | nil => exact h.resolve_left List.not_mem_nil
  | cons y ys ih =>
    refine ih ?_
    by_cases hx : x = y
    · subst hx
      exact .inr ((Dict.toDefault_vals ..).trans (if_pos rfl))
    · refine (h.imp_left (fun hm => (List.mem_cons.mp hm).resolve_left hx)).imp_right (fun hn => ?_)
      rw [Dict.toDefault_vals, hn, ite_self]

/-- A namespace leaves the table, and its at-creation entries are at their defaults. -/
def State.nsGone (s : State) (i : Nat) : State :=
  { s.setMedia (fun m => { m with namespaces := m.namespaces.del i }) with
    dict := atCreation.foldl (fun (d : Dict) x => d.toDefault x i) s.dict }

theorem State.nsGone_has (s : State) (i : Nat) : (s.nsGone i).media.namespaces.has i = false := by
  change (s.media.namespaces.del i).has i = false
  rw [AMap.has, AMap.get?_del]
  rfl

theorem State.nsGone_vals (s : State) (i : Nat) {x : Nat} (h : x ∈ atCreation) : (s.nsGone i).dict.vals.get? (x * 256 + i) = none :=
  Dict.foldl_toDefault _ (.inl h)

theorem State.deleteNs_eq {i : Nat} {n : Namespace} (hn : s.media.namespaces.get? i = some n) :
    s.deleteNs i = n.attached.foldl (fun s p => s.nsChanged p (i + 1)) ((s.wipeNs i).nsGone i) := by
  rw [State.deleteNs, hn]
  dsimp only
  generalize s.wipeNs i = w
  rfl

theorem exec_namespaceDelete (h : s.AdminReady fseq 0x0D c) {nsid : Nat} {n : Namespace} (hnsid : 1 ≤ nsid) (hall : nsid < 0xFFFFFFFF)
    (hn : s.media.namespaces.get? (nsid - 1) = some n) : exec (.namespaceManagement fseq (.delete nsid)) s =
    .next ((n.attached.foldl (fun s p => s.nsChanged p (nsid - 1 + 1)) ((s.wipeNs (nsid - 1)).nsGone (nsid - 1))).complete fseq .success) := by
  have hhas : s.media.namespaces.has (nsid - 1) = true := by
    rw [AMap.has, hn]
    rfl
  have hne : nsid ≠ 0 := by omega
  have hne' : nsid ≠ 0xFFFFFFFF := by omega
  rw [exec_namespaceManagement h]
  simp only [State.nsManage, hne, hne', hhas, if_false, Bool.not_true, Bool.false_eq_true, or_self]
  rw [State.deleteNs_eq hn]

theorem State.foldl_nsChanged_dict (ps : List (Fin 2)) (nsid : Nat) (u : State) :
    (ps.foldl (fun s p => s.nsChanged p nsid) u).dict = u.dict := by
  induction ps generalizing u with
  | nil => rfl
  | cons p ps ih => exact (ih _).trans ((State.nsChanged_changes u p nsid).rest .dict (by decide))

theorem State.nsGone_leaves (i : Nat) (ps : List (Fin 2)) (nsid fseq : Nat) :
    ((ps.foldl (fun s p => s.nsChanged p nsid) (s.nsGone i)).complete fseq .success).media.namespaces.has i = false ∧
    ∀ x ∈ atCreation, ((ps.foldl (fun s p => s.nsChanged p nsid) (s.nsGone i)).complete fseq .success).dict.vals.get? (x * 256 + i) = none := by
  have hgo : State.WentOn (s.nsGone i) ((ps.foldl (fun s p => s.nsChanged p nsid) (s.nsGone i)).complete fseq .success) :=
    ((State.WentOn.refl _).foldl (fun _ _ hu => hu.nsChanged _ _) ps).complete _ _ _ _
  refine ⟨(hgo.has i).trans (s.nsGone_has i), fun x hx => ?_⟩
  rw [State.complete_dict, State.foldl_nsChanged_dict]
  exact s.nsGone_vals i hx

/-! ### Format NVM and Sanitize (R377) -/

theorem exec_formatNvm (h : s.AdminReady fseq 0x80 c) {nsid ses : Nat} {n : Namespace} (hses : ses ≤ 2) (hnsid : 1 ≤ nsid)
    (hall : nsid < 0xFFFFFFFF) (hn : s.media.namespaces.get? (nsid - 1) = some n) (hlocked : s.nsLocked (nsid - 1) n = false)
    (hentropy : s.sec.entropyBad = false) (lba512 : Bool) : exec (.formatNvm fseq nsid ses lba512) s =
    .next (((s.formatNs (nsid - 1) ses lba512).setMedia (fun m => { m with protected_ := false })).complete fseq .success) := by
  rw [exec_admin h (by decide) (i := .formatNvm fseq nsid ses lba512) rfl]
  have hne : nsid ≠ 0 := by omega
  have hne' : nsid ≠ 0xFFFFFFFF := by omega
  have hle : ¬ 2 < ses := by omega
  simp only [State.format, hne, hne', hle, if_false, List.filterMap_cons, hn, Option.map_some, List.filterMap_nil, List.cons_ne_nil,
    List.any_cons, hlocked, List.any_nil, Bool.or_self, Bool.false_eq_true, hentropy, and_false, List.foldl_cons, List.foldl_nil]

theorem Namespace.formatted_lba512 (n : Namespace) (lba512 : Bool) : (n.formatted lba512).lba512 = lba512 := by
  unfold Namespace.formatted
  split
  next h => exact h
  next => rfl

/-- A namespace that is formatted has the block size that was asked for. -/
theorem State.formatNs_lba512 {i : Nat} (hhas : s.media.namespaces.has i = true) (ses : Nat) (lba512 : Bool) :
    ((s.formatNs i ses lba512).media.namespaces.get? i).map (·.lba512) = some lba512 := by
  obtain ⟨n, hn⟩ := Option.isSome_iff_exists.mp (((State.WentOn.refl s).wipeNs i).has i |>.trans hhas)
  unfold State.formatNs
  dsimp only
  generalize s.wipeNs i = w at hn ⊢
  have hset : (w.setNs i (fun n => n.formatted lba512)).media.namespaces.get? i = some (n.formatted lba512) := by
    rw [State.setNs_get, hn]
    rfl
  have hdone : ((w.setNs i (fun n => n.formatted lba512)).media.namespaces.get? i).map (·.lba512) = some lba512 := by
    rw [hset, Option.map_some, Namespace.formatted_lba512]
  rw [hset]
  dsimp only
  split
  · exact hdone
  · exact (((State.WentOn.refl _).foldl (fun _ _ hu => hu.newKey _) _).lba512 i).trans hdone

/-- The write protection ends and the command completes: the namespaces stay. -/
theorem State.unprotected (u : State) (fseq i : Nat) :
    ((((u.setMedia (fun m => { m with protected_ := false })).complete fseq .success).media.namespaces.get? i).map (·.lba512) =
      (u.media.namespaces.get? i).map (·.lba512)) ∧
    ((u.setMedia (fun m => { m with protected_ := false })).complete fseq .success).media.protected_ = false := by
  have hgo := (State.WentOn.refl (u.setMedia (fun m => { m with protected_ := false }))).complete fseq .success 0 0
  exact ⟨hgo.lba512 i, hgo.protected⟩

/-- The keys of some slots are newer than a generation, and no two are one. -/
structure Security.NewFrom (g : Nat) (ks : List (Fin 64)) (c : Security) : Prop where
  next : g ≤ c.nextGen
  gens : ∀ k ∈ ks, g ≤ c.keyGen[k] ∧ c.keyGen[k] < c.nextGen
  apart : ∀ j ∈ ks, ∀ k ∈ ks, j ≠ k → c.keyGen[j] ≠ c.keyGen[k]

/-- A slot takes the next generation. -/
def Security.takeKey (c : Security) (slot : Fin 64) : Security :=
  { c with keyGen := c.keyGen.upd slot (fun _ => c.nextGen), nextGen := c.nextGen + 1 }

theorem Security.NewFrom.takeKey {g : Nat} {ks : List (Fin 64)} {c : Security} (h : c.NewFrom g ks) (slot : Fin 64) :
    (c.takeKey slot).NewFrom g (slot :: ks) := by
  have hself : (c.takeKey slot).keyGen[slot] = c.nextGen := Tbl.upd_get _ _ _
  have hother : ∀ k, k ≠ slot → (c.takeKey slot).keyGen[k] = c.keyGen[k] := fun k hk => Tbl.upd_get_ne _ _ _ _ hk
  have hin : ∀ k ∈ slot :: ks, k ≠ slot → k ∈ ks := fun k hk hne => (List.mem_cons.mp hk).resolve_left hne
  refine ⟨Nat.le_succ_of_le h.next, fun k hk => ?_, fun j hj k hk hjk => ?_⟩
  · by_cases hks : k = slot
    · rw [hks, hself]
      exact ⟨h.next, Nat.lt_succ_self _⟩
    · rw [hother k hks]
      obtain ⟨hlow, hhigh⟩ := h.gens k (hin k hk hks)
      exact ⟨hlow, Nat.lt_succ_of_lt hhigh⟩
  · by_cases hjs : j = slot
    · have hks : k ≠ slot := fun e => hjk (hjs.trans e.symm)
      rw [hjs, hself, hother k hks]
      exact (h.gens k (hin k hk hks)).2.ne'
    · by_cases hks : k = slot
      · rw [hks, hself, hother j hjs]
        exact (h.gens j (hin j hj hjs)).2.ne
      · rw [hother j hjs, hother k hks]
        exact h.apart j (hin j hj hjs) k (hin k hk hks) hjk

theorem State.newKey_sec (s : State) (slot : Fin 64) : (s.newKey slot).sec = s.sec.takeKey slot := by
  unfold State.newKey
  exact (State.freeLines_changes ..).rest .sec (by decide)

/-- Keys that are replaced one after the other are new, and no two are one. -/
theorem State.foldl_newKey_new {g : Nat} (l : List (Fin 64)) {ks : List (Fin 64)} {s : State} (h : s.sec.NewFrom g ks) :
    (l.foldl State.newKey s).sec.NewFrom g (l.reverse ++ ks) := by
  induction l generalizing s ks with
  | nil => exact h
  | cons k l ih =>
    rw [List.reverse_cons, List.append_assoc]
    refine ih ?_
    rw [State.newKey_sec]
    exact h.takeKey k

theorem State.foldl_wipeNs_sec (l : List Nat) (s : State) : (l.foldl State.wipeNs s).sec = s.sec := by
  induction l generalizing s with
  | nil => rfl
  | cons i l ih => exact (ih _).trans ((State.wipeNs_changes s i).rest .sec (by decide))

theorem State.complete_sanitizeLast (s : State) (fseq : Nat) (st : Status) (dw0 lba : Nat) :
    (s.complete fseq st dw0 lba).cmq.sanitizeLast = s.cmq.sanitizeLast :=
  State.complete_cmq_keeps (π := Cmq.sanitizeLast) (fun _ _ _ => Cmq.release_sanitizeLast _ _) (fun _ _ => rfl) s fseq st dw0 lba

/-- The write protection ends, and the sanitize has succeeded. -/
def State.sanitizeDone (s : State) : State :=
  { s.setMedia (fun m => { m with protected_ := false }) with cmq := { s.cmq with sanitizeLast := 1 } }

/-- Every namespace is wiped and every key replaced. -/
def State.sanitized (s : State) : State :=
  (List.finRange 64).foldl State.newKey ((s.media.namespaces.map (·.1)).foldl State.wipeNs s)

theorem exec_sanitize (h : s.AdminReady fseq 0x84 c) {action : Nat} (ha : action = 2 ∨ action = 4) (hentropy : s.sec.entropyBad = false) :
    exec (.sanitize fseq action) s = .next (s.sanitized.sanitizeDone.complete fseq .success) := by
  rw [exec_admin h (by decide) (i := .sanitize fseq action) rfl]
  have h1 : action ≠ 1 := by omega
  have h2 : ¬ (action ≠ 2 ∧ action ≠ 4) := by omega
  unfold State.sanitize
  rw [if_neg h1, if_neg h2, hentropy, if_neg Bool.false_ne_true]
  extract_lets u v w
  have hv : v = s.sanitized := rfl
  rw [← hv]
  clear_value v
  rfl

theorem State.sanitized_keys (s : State) : s.sanitized.sec.NewFrom s.sec.nextGen ((List.finRange 64).reverse ++ []) := by
  refine State.foldl_newKey_new _ ?_
  rw [State.foldl_wipeNs_sec]
  exact ⟨le_rfl, fun k hk => absurd hk List.not_mem_nil, fun j hj => absurd hj List.not_mem_nil⟩

/-- What a sanitized device holds as its command completes. -/
theorem State.sanitizeDone_leaves (u : State) (fseq : Nat) : (u.sanitizeDone.complete fseq .success).sec = u.sec ∧
    (u.sanitizeDone.complete fseq .success).cmq.sanitizeLast = 1 ∧ (u.sanitizeDone.complete fseq .success).media.protected_ = false :=
  ⟨(State.complete_changes ..).rest .sec (by decide), State.complete_sanitizeLast .., ((State.WentOn.refl _).complete _ _ _ _).protected⟩

end

/-- Settles O11: namespaces come and go as they are asked for; Format NVM keeps a namespace, and Sanitize replaces every key. -/
theorem namespacesManaged : Obligations.NamespacesManaged := by
  unfold Obligations.NamespacesManaged
  refine ⟨fun fseq i nlbas lba512 zoned expanded n c s h hfree hplan => ?_, fun fseq i nlbas lba512 c s h hfree hn hplace hfull => ?_,
    fun fseq nsid c s h hnsid hall hhas => ?_, fun fseq nsid p n c s h hnsid hn hp haers => ?_,
    fun fseq nsid ses lba512 n c s h hses hnsid hall hn hlocked hentropy => ?_, fun fseq action c s h ha hentropy => ?_⟩
  · obtain ⟨hnlbas, hattached⟩ := State.planNs_ok hplan
    have hmedia := State.complete_media (s := s.setMedia (fun m => { m with namespaces := m.namespaces.put i n })) h.flying.get
      (h.flying.fresh rfl) .success (i + 1) 0
    refine ⟨_, exec_namespaceCreate h hfree hplan, h.flying.completes_same (State.setMedia_samePost s _ fseq) .success (i + 1) 0, ?_, hnlbas,
      hattached, fun j hj => ?_⟩
    · rw [hmedia]
      exact AMap.get?_put _ _ _
    · rw [hmedia]
      exact AMap.get?_put_ne _ _ _ _ hj
  · exact ⟨_, exec_namespaceCreate_refused h hfree (State.planNs_full hn hplace hfull), h.flying.completes_now _ 0 0,
      by rw [State.complete_media h.flying.get (h.flying.fresh rfl)]⟩
  · obtain ⟨n, hn⟩ := Option.isSome_iff_exists.mp hhas
    obtain ⟨hgone, hvals⟩ := State.nsGone_leaves (s := s.wipeNs (nsid - 1)) (nsid - 1) n.attached (nsid - 1 + 1) fseq
    exact ⟨_, exec_namespaceDelete h hnsid hall hn, hgone, State.complete_left _ _ _ _ _, hvals⟩
  · refine ⟨_, exec_namespaceAttachment h hnsid hn hp haers, fun hno => ?_, fun hin => ?_⟩
    · rw [hno]
      exact State.attached_completes h.flying nsid p n hn
    · rw [hin]
      exact h.flying.completes_now _ 0 0
  · have hhas : s.media.namespaces.has (nsid - 1) = true := by
      rw [AMap.has, hn]
      rfl
    obtain ⟨hkept, hopen⟩ := (s.formatNs (nsid - 1) ses lba512).unprotected fseq (nsid - 1)
    obtain ⟨m, hm, hsize⟩ := Option.map_eq_some_iff.mp (hkept.trans (State.formatNs_lba512 hhas ses lba512))
    exact ⟨_, m, exec_formatNvm h hses hnsid hall hn hlocked hentropy lba512, hm, hsize, hopen, State.complete_left _ _ _ _ _⟩
  · obtain ⟨hsec, hlast, hopen⟩ := s.sanitized.sanitizeDone_leaves fseq
    have hin : ∀ k : Fin 64, k ∈ (List.finRange 64).reverse ++ [] := fun k => by simp
    refine ⟨_, exec_sanitize h ha hentropy, fun k => ?_, fun j k hjk => ?_, hlast, hopen, State.complete_left _ _ _ _ _⟩
    · rw [hsec]
      exact s.sanitized_keys.gens k (hin k)
    · rw [hsec]
      exact s.sanitized_keys.apart j (hin j) k (hin k) hjk

end Sys2Proof.Machine
end

section
/-! The statement about writes: lines taken, data landed, read-backs, and the commit (R56 to R61, R63). -/

namespace Sys2Proof.Machine

open Sys2Proof

/-! ### Free lines (R57) -/

theorem Landing.freeFrom_free (l : Landing) (fuel want n : Nat) : ∀ x ∈ l.freeFrom fuel want n, l.free x = true := by
  induction fuel generalizing want n with
  | zero => exact fun x hx => absurd hx List.not_mem_nil
  | succ fuel ih =>
    cases want with
    | zero => exact fun x hx => absurd hx List.not_mem_nil
    | succ want =>
      rw [Landing.freeFrom]
      split
      next hn => exact fun x hx => (List.mem_cons.mp hx).elim (fun e => e ▸ hn) (ih _ _ x)
      next => exact ih _ _

theorem Landing.alloc_some {l : Landing} {want : Nat} {ls : List Nat} (h : l.alloc want = some ls) :
    ls.length = want ∧ ∀ n ∈ ls, l.free n = true := by
  unfold Landing.alloc at h
  dsimp only at h
  split at h
  next hlen =>
    cases h
    exact ⟨hlen, l.freeFrom_free _ _ _⟩
  next => cases h

/-! ### Lines that count against the limit (R57, R58) -/

/-- Which lines count. -/
def Landing.tally (l : Landing) : AMap Bool := l.lines.map (fun e => (e.1, e.2.counts))

theorem Landing.counted_eq (l : Landing) : l.counted = (l.tally.filter (fun e => e.2)).length + l.pmrLines := by
  rw [Landing.counted, Landing.tally, List.filter_map, List.length_map]
  rfl

theorem Landing.toCount_eq (l : Landing) (ls : List Nat) : l.toCount ls = (ls.filter (fun n => (l.tally.get? n) == some false)).length := by
  unfold Landing.toCount Landing.tally
  congr 2
  funext n
  rw [AMap.get?_mapVal]
  cases l.lines.get? n with
  | none => rfl
  | some x =>
    simp only [Option.map_some]
    cases x.counts
    · rfl
    · rfl

/-- Of every command whether its read-backs are under way, and its lines. -/
def Cmq.landings (q : Cmq) : AMap (CmdPhase × List Nat) := q.cmds.map (fun e => (e.1, (e.2.phase, e.2.lines)))

theorem State.committing_eq (s : State) :
    s.committing = ((s.cmq.landings.filter (fun e => e.2.1 == .landed)).map (fun e => s.land.toCount e.2.2)).foldl (· + ·) 0 := by
  rw [State.committing, Cmq.landings, List.filter_map, List.map_map]
  rfl

/-- What the counts rest on is the same. -/
structure State.SameCount (s t : State) : Prop where
  tally : t.land.tally = s.land.tally
  pmr : t.land.pmr = s.land.pmr
  wt : t.land.wt = s.land.wt
  limit : t.land.limit = s.land.limit
  landings : t.cmq.landings = s.cmq.landings

theorem State.SameCount.toCount {s t : State} (h : State.SameCount s t) (ls : List Nat) : t.land.toCount ls = s.land.toCount ls := by
  rw [Landing.toCount_eq, Landing.toCount_eq, h.tally]

theorem State.SameCount.mayCommit {s t : State} (h : State.SameCount s t) (ls : List Nat) :
    t.mayCommit ls t.committing = s.mayCommit ls s.committing := by
  have hpmr : t.land.pmrLines = s.land.pmrLines := by
    unfold Landing.pmrLines
    rw [h.pmr]
  have hcommitting : t.committing = s.committing := by
    rw [State.committing_eq, State.committing_eq, h.landings]
    simp only [h.toCount]
  rw [State.mayCommit, State.mayCommit, h.wt, h.limit, h.toCount, hcommitting, Landing.counted_eq, Landing.counted_eq, h.tally, hpmr]

theorem State.mayCommit_iff (s : State) (ls : List Nat) (others : Nat) : s.mayCommit ls others = true ↔
    s.land.wt = true ∨ s.land.counted + s.land.toCount ls + others ≤ s.land.limit := by
  rw [State.mayCommit, Bool.or_eq_true, decide_eq_true_eq]

theorem State.mayCommit_false {s : State} {ls : List Nat} {others : Nat} (hwt : s.land.wt = false)
    (hover : s.land.limit < s.land.counted + s.land.toCount ls + others) : s.mayCommit ls others = false := by
  rw [Bool.eq_false_iff, Ne, State.mayCommit_iff, hwt]
  rintro (h | h)
  · exact Bool.false_ne_true h
  · omega

/-- Data that goes into lines does not change which of them count. -/
theorem AMap.foldl_data_tally {α : Type} (at_ : List (Nat × α)) (data : α → List Sector) (key : α → List Sector → List Sector)
    (m : AMap Line) : (at_.foldl (fun m x => m.mod x.1 (fun l => { l with data := key x.2 (data x.2) })) m).map
      (fun e => (e.1, e.2.counts)) = m.map (fun e => (e.1, e.2.counts)) := by
  induction at_ generalizing m with
  | nil => rfl
  | cons x xs ih => exact (ih _).trans (AMap.map_mod m x.1 Line.counts (fun _ => rfl))

section
variable {s : State} {fseq : Nat} {c : Cmd} {d : Dest}

/-! ### A write takes its lines (R56, R57, R63) -/

/-- A command puts data into a namespace that the host names: a Write or a Zone Append. -/
def landsData (i : HostCmd) : Prop := (∃ r, i = .write r) ∨ ∃ r, i = .zoneAppend r

theorem State.pageFirst_none (hwhole : d.partly = []) (hcmd : landsData c.cmd) : s.pageFirst c d = none := by
  rw [State.pageFirst, hwhole]
  rcases hcmd with ⟨r, hr⟩ | ⟨r, hr⟩
  · rw [hr]
    rfl
  · rw [hr]
    rfl

/-- A write that meets every check goes on to take its lines. -/
theorem State.MayLand.landStart_eq (h : s.MayLand fseq c d) (hcmd : landsData c.cmd) :
    s.landStart fseq [] = s.takeLines fseq c.port d [] := by
  have hhandle : ¬ (d.n.placement = 1 ∧ s.media.handleMax ≤ d.handle) := fun hx => absurd (h.handle hx.1) (by omega)
  have hcmb : s.cmbBad c.port fseq [] = false := rfl
  rw [State.landStart, h.get]
  simp only [h.dest, h.range, h.writable, h.allowed, h.memory, hhandle, hcmb, h.zone, h.whole, h.pool, State.pageFirst_none h.whole hcmd,
    List.map_nil, List.find?_nil, Bool.false_eq_true, if_false, Bool.not_true]

/-- With nothing to merge the command only waits for its data. -/
def Cmd.filling (c : Cmd) : Cmd := { c with phase := .filling, awaiting := [] }

theorem State.startMerge_whole (u : State) (hwhole : d.partly = []) : u.startMerge fseq d = u.setCmd fseq Cmd.filling := by
  rw [State.startMerge, hwhole]
  rfl

theorem State.tryLand_waits {u : State} (hget : u.cmq.cmds.get? fseq = some c) (hdata : c.wdata = []) : u.tryLand fseq = u := by
  rw [State.tryLand, hget]
  dsimp only
  split
  · rfl
  · exact if_pos (.inl hdata)

theorem State.placeLines_get (hget : s.cmq.cmds.get? fseq = some c) (adopted : Bool) (ls : List Nat) :
    (s.placeLines fseq d adopted ls).cmq.cmds.get? fseq = some { c with lines := ls } :=
  (AMap.get?_mod s.cmq.cmds fseq (fun c => { c with lines := ls })).trans (congrArg _ hget)

theorem State.takeLines_placed {ls : List Nat} (h : s.MayLand fseq c d) (ha : s.land.alloc d.granules.length = some ls) :
    s.takeLines fseq c.port d [] = (s.placeLines fseq d false ls).setCmd fseq Cmd.filling := by
  have hget : ((s.placeLines fseq d false ls).setCmd fseq Cmd.filling).cmq.cmds.get? fseq = some { c with lines := ls }.filling :=
    State.setCmd_get (s := s.placeLines fseq d false ls) (State.placeLines_get h.get false ls) _
  rw [State.takeLines]
  simp only [h.memory, ha, ne_eq, not_true_eq_false, false_and, if_false, if_true]
  rw [State.startMerge_whole _ h.whole, State.tryLand_waits hget h.empty]

theorem State.takeLines_waits (h : s.MayLand fseq c d) (ha : s.land.alloc d.granules.length = none) :
    s.takeLines fseq c.port d [] = s.setCmd fseq (fun c => { c with phase := .waitLines }) := by
  rw [State.takeLines]
  simp only [h.memory, ha, ne_eq, not_true_eq_false, false_and, if_false]

theorem AMap.key_of_get? {α : Type} {m : AMap α} {k : Nat} {v : α} (h : m.get? k = some v) : k ∈ m.map (·.1) := by
  by_contra hno
  rw [AMap.get?_none_iff.mpr hno] at h
  cases h

/-- What was put into a table under a key stands there, or what was put there later. -/
theorem AMap.foldl_put_get {α β : Type} (key : β → Nat) (val : β → α) {P : α → Prop} (l : List β) (hP : ∀ x ∈ l, P (val x)) {m : AMap α}
    {k : Nat} (hk : k ∈ l.map key ∨ ∃ v, m.get? k = some v ∧ P v) :
    ∃ v, (l.foldl (fun m x => m.put (key x) (val x)) m).get? k = some v ∧ P v := by
  induction l generalizing m with
  | nil => exact hk.resolve_left List.not_mem_nil
  | cons x xs ih =>
    refine ih (fun y hy => hP y (List.mem_cons_of_mem _ hy)) ?_
    by_cases hx : k = key x
    · exact .inr ⟨_, hx ▸ AMap.get?_put _ _ _, hP _ List.mem_cons_self⟩
    · refine hk.imp (fun hmem => ?_) (fun ⟨v, hv, hp⟩ => ⟨v, (AMap.get?_put_ne _ _ _ _ hx).trans hv, hp⟩)
      rw [List.map_cons] at hmem
      exact (List.mem_cons.mp hmem).resolve_left hx

/-- A line as a write takes it. -/
def Dest.newLine (d : Dest) (fseq : Nat) (adopted : Bool) (g : Nat) : Line :=
  { ns := d.ns, granule := g, cmdSeq := fseq, data := [], raw := d.raw, handle := d.handle, adopted := adopted }

theorem State.placeLines_line {ls : List Nat} (hlen : ls.length = d.granules.length) {n : Nat} (hn : n ∈ ls) :
    ∃ l, (s.placeLines fseq d false ls).land.lines.get? n = some l ∧ l.st = .filling ∧ l.ns = d.ns ∧ l.cmdSeq = fseq ∧
      l.granule ∈ d.granules := by
  refine AMap.foldl_put_get (·.1) (fun x => d.newLine fseq false x.2)
    (P := fun l => l.st = .filling ∧ l.ns = d.ns ∧ l.cmdSeq = fseq ∧ l.granule ∈ d.granules)
    (ls.zip d.granules) (fun x hx => ?_) (.inl ?_)
  · exact ⟨rfl, rfl, rfl, (List.of_mem_zip hx).2⟩
  rw [List.map_fst_zip (by omega)]
  exact hn

theorem exec_write (hlive : s.live = true) (hget : s.cmq.cmds.get? fseq = some c) (hruns : c.runs = true) {r : WriteReq}
    (hcmd : c.cmd = .write r) : exec (.write fseq) s = .next (s.landStart fseq []) := by
  change execWrite fseq s = _
  rw [execWrite, State.whenLive_live hlive, State.write, hget]
  simp only [hcmd, hruns, if_true]

theorem Cmd.runs_of_ready (h : c.phase = .ready) : c.runs = true := by
  rw [Cmd.runs, h]
  rfl

/-- A Write has no destination but that of its request, and lands every granule of it. -/
theorem State.destOf_write {r : WriteReq} (hcmd : c.cmd = .write r) (hd : s.destOf c = some d) : d.only = none := by
  rw [State.destOf, hcmd] at hd
  simp only [State.destOfReq] at hd
  split at hd
  · cases hd
  · cases hd
    rfl

/-- A command that a check refuses. -/
theorem State.landStart_range (hget : s.cmq.cmds.get? fseq = some c) (hd : s.destOf c = some d) (data : List Sector) {st : Status}
    (hr : rangeCheck d.n d.slba d.nlb d.only.isNone = some st) : s.landStart fseq data = s.quit fseq st := by
  rw [State.landStart, hget]
  simp only [hd, hr]

theorem State.landStart_readOnly (hget : s.cmq.cmds.get? fseq = some c) (hd : s.destOf c = some d) (data : List Sector)
    (hr : rangeCheck d.n d.slba d.nlb d.only.isNone = none) (hro : s.readOnly = true) :
    s.landStart fseq data = s.quit fseq .nsWriteProtected := by
  rw [State.landStart, hget]
  simp only [hd, hr, hro, if_true]

theorem State.Flying.quits_now {ph : CmdPhase} (h : s.Flying fseq c ph) (st : Status) :
    State.Completed s.out s (s.quit fseq st) fseq c st 0 :=
  h.quits (u := s) ⟨rfl, fun _ => rfl, rfl, rfl⟩ st

/-! ### The data is in the lines (R58, R60, R63) -/

/-- The command's data is there, and goes into its lines. -/
def State.dataInLines (s : State) (fseq : Nat) (c : Cmd) (d : Dest) (data : List Sector) : State :=
  { s.setCmd fseq (fun c => { c with wdata := data }) with
    land := { s.land with lines := (c.lines.zip d.granules).foldl (fun m x =>
      m.mod x.1 (fun l => { l with data := overlay d.first d.sectors x.2 data ((c.got.get? x.2).getD zeroGranule) })) s.land.lines } }

theorem exec_writeDataLanded (hlive : s.live = true) (hget : s.cmq.cmds.get? fseq = some c) (hphase : c.phase = .filling)
    (hempty : c.wdata = []) (hgot : c.awaiting = []) (hd : s.destOf c = some d) {data : List Sector} (hlen : data.length = d.sectors)
    (hsome : 1 ≤ d.sectors) : exec (.writeDataLanded fseq data) s = .next ((s.dataInLines fseq c d data).tryReadBack fseq) := by
  have hne : data ≠ [] := fun e => by
    rw [e, List.length_nil] at hlen
    omega
  have hset : (s.setCmd fseq (fun c => { c with wdata := data })).cmq.cmds.get? fseq = some { c with wdata := data } := State.setCmd_get hget _
  have hd' : (s.setCmd fseq (fun c => { c with wdata := data })).destOf { c with wdata := data } = some d := hd
  change execWriteDataLanded fseq data s = _
  rw [execWriteDataLanded, State.whenLive_live hlive, State.dataLanded, hget]
  dsimp only
  rw [hd]
  dsimp only
  rw [if_pos ⟨.inl hphase, hempty, hlen⟩]
  rw [State.tryLand, hset]
  dsimp only
  rw [hd']
  dsimp only
  rw [if_neg (fun hx => hx.elim hne (fun ha => ha hgot))]
  rfl

theorem State.dataInLines_count (data : List Sector) : State.SameCount s (s.dataInLines fseq c d data) := by
  refine ⟨AMap.foldl_data_tally (c.lines.zip d.granules) (fun g => (c.got.get? g).getD zeroGranule)
    (fun g => overlay d.first d.sectors g data) s.land.lines, rfl, rfl, rfl, ?_⟩
  exact AMap.map_mod s.cmq.cmds fseq (f := fun c => { c with wdata := data }) (fun c => (c.phase, c.lines)) (fun _ => rfl)

theorem State.tryReadBack_eq {u : State} (hget : u.cmq.cmds.get? fseq = some c) (hd : u.destOf c = some d) : u.tryReadBack fseq =
    if u.mayCommit c.lines u.committing then u.issueReadBacks fseq d c.lines
    else u.setCmd fseq (fun c => { c with phase := .waitCommit }) := by
  rw [State.tryReadBack, hget]
  simp only [hd]

/-- Data in the lines has its read-backs issued, or the command waits while the limit would be passed. -/
theorem State.dataInLines_leaves (hget : s.cmq.cmds.get? fseq = some c) (hd : s.destOf c = some d) (data : List Sector) :
    ∃ c', ((s.dataInLines fseq c d data).tryReadBack fseq).cmq.cmds.get? fseq = some c' ∧ c'.wdata = data ∧ c'.lines = c.lines ∧
      (s.land.wt = true ∨ s.land.counted + s.land.toCount c.lines + s.committing ≤ s.land.limit → c'.phase = .landed ∧
        ((s.dataInLines fseq c d data).tryReadBack fseq).out =
          s.out ++ (d.readBacks c.lines).map (fun x => Output.readBack (Fin.ofNat 16 x.1) x.2)) ∧
      (s.land.wt = false → s.land.limit < s.land.counted + s.land.toCount c.lines + s.committing →
        c'.phase = .waitCommit ∧ ((s.dataInLines fseq c d data).tryReadBack fseq).out = s.out) := by
  have hset : (s.dataInLines fseq c d data).cmq.cmds.get? fseq = some { c with wdata := data } := State.setCmd_get hget _
  have hd' : (s.dataInLines fseq c d data).destOf { c with wdata := data } = some d := hd
  rw [State.tryReadBack_eq hset hd']
  dsimp only
  rw [(State.dataInLines_count data).mayCommit]
  by_cases hmay : s.mayCommit c.lines s.committing = true
  · rw [if_pos hmay]
    refine ⟨_, State.setCmd_get hset _, rfl, rfl, fun _ => ⟨rfl, rfl⟩, fun hwt hover => ?_⟩
    rw [State.mayCommit_false hwt hover] at hmay
    exact absurd hmay Bool.false_ne_true
  · rw [if_neg hmay]
    refine ⟨_, State.setCmd_get hset _, rfl, rfl, fun hx => absurd ((State.mayCommit_iff ..).mpr hx) hmay, fun _ _ => ⟨rfl, rfl⟩⟩

end

/-- Every channel that a write put data in is read back. -/
theorem Dest.readBacks_any (d : Dest) (ls : List Nat) {n g : Nat} (h : (n, g) ∈ ls.zip d.granules) :
    (d.readBacks ls).any (fun x => x.1 = n % 16) = true := by
  unfold Dest.readBacks
  extract_lets at_ host
  have hmem : (n, g) ∈ at_.filter (fun x => !host x) ++ at_.filter host := by
    rw [List.mem_append, List.mem_filter, List.mem_filter]
    cases host (n, g)
    · exact .inl ⟨h, rfl⟩
    · exact .inr ⟨h, rfl⟩
  obtain ⟨v, hv, -⟩ := AMap.foldl_put_get (fun x : Nat × Nat => x.1 % 16) (fun x => d.lastBurst x.1 x.2) (P := fun _ => True) _
    (fun _ _ => trivial) (m := []) (.inl (List.mem_map_of_mem hmem))
  obtain ⟨e, he, hek⟩ := List.mem_map.mp (AMap.key_of_get? hv)
  exact List.any_eq_true.mpr ⟨e, he, decide_eq_true hek⟩

/-! ### The commit (R57, R58, R60, R61, R67) -/

section
variable {s : State} {fseq : Nat} {c : Cmd} {d : Dest}

/-- Where one command that waits for no row is all there is, freed lines let nothing go on. -/
theorem State.freeLines_alone (hone : s.cmq.cmds = [(fseq, c)]) (hphase : c.phase ≠ .waitRows) (ns : List Nat) :
    s.freeLines ns = s.dropLines ns := by
  have hcmds : (s.dropLines ns).cmq.cmds = [(fseq, c)] := hone
  have hmap : (s.dropLines ns).cmq.cmds.map (fun e => (e.1, if e.2.phase = .waitRows then
      { e.2 with lines := e.2.lines.filter (fun n => !ns.contains n) } else e.2)) = (s.dropLines ns).cmq.cmds := by
    rw [hcmds, List.map_cons, List.map_nil, if_neg hphase]
  unfold State.freeLines
  dsimp only
  rw [hmap, hcmds]
  have htry : ∀ u : State, u.cmq.cmds.get? fseq = some c → u.tryComplete fseq = u := fun u hu => by
    rw [State.tryComplete, hu]
    exact if_neg (fun hx => hphase hx.1)
  refine (htry _ ?_).trans ?_
  · exact if_pos rfl
  · rw [← hcmds]

theorem State.freeLines_alone_changes (hone : s.cmq.cmds = [(fseq, c)]) (hphase : c.phase ≠ .waitRows) (ns : List Nat) :
    Changes [.land, .media] s (s.freeLines ns) := by
  rw [State.freeLines_alone hone hphase]
  exact State.dropLines_changes s ns

/-- The lines of a command become committed, and what its data replaces is freed; nothing else goes on. -/
theorem State.commitLines_alone (hone : s.cmq.cmds = [(fseq, c)]) (hphase : c.phase ≠ .waitRows) :
    Changes [.land, .media] s (s.commitLines fseq c d) := by
  unfold State.commitLines
  dsimp only
  refine (State.zoneAdvance_changes ..).step rfl ?_
  refine (State.freeLines_alone_changes (fseq := fseq) (c := c) ?_ hphase _).step rfl ?_
  · exact hone
  exact Changes.land_with _ rfl (.refl _ s)

/-- What a command that has committed leaves to the streams and to its zone. -/
def State.afterCommit (s : State) (d : Dest) : State :=
  if d.n.zoned ∧ (s.zoneOf d).2.st = .full then match s.dispatchAll.media.openStripe (.zone d.ns (s.zoneOf d).1) with
    | some t => s.dispatchAll.closeStripe t.1
    | none => s.dispatchAll
  else s.dispatchAll

theorem State.afterCommit_changes (s : State) (d : Dest) : Changes [.land, .media, .out] s (s.afterCommit d) := by
  unfold State.afterCommit
  split
  · split
    · exact (State.closeStripe_changes ..).step rfl ((State.dispatchAll_changes s).mono rfl)
    · exact State.dispatchAll_changes s
  · exact State.dispatchAll_changes s

theorem State.WentOn.afterCommit {t : State} (h : State.WentOn s t) (d : Dest) : State.WentOn s (t.afterCommit d) := by
  unfold State.afterCommit
  split
  · split
    · exact h.dispatchAll.flash ((State.FlashWorked.refl _).closeStripe _) (State.closeStripe_changes ..) (by decide)
    · exact h.dispatchAll
  · exact h.dispatchAll

theorem exec_readBackReturn (h : s.Flying fseq c .landed) (ok : Bool) :
    exec (.readBackReturn fseq ok) s = .next (if ok then s.commit fseq else s.quit fseq .dataTransferError) := by
  change execReadBackReturn fseq ok s = _
  rw [execReadBackReturn, State.whenLive_live h.live, State.readBackReturn, h.get]
  dsimp only
  rw [if_pos h.phase]

/-- A key of each granule is held. -/
theorem any_key_missing_false {ns : Nat} (hkeys : ∀ g ∈ d.granules, (s.keyFor ns d.n (d.n.unitOf g) d.tag).isSome) :
    d.granules.any (fun g => (s.keyFor ns d.n (d.n.unitOf g) d.tag).isNone) = false := by
  rw [List.any_eq_false]
  intro g hg
  rw [Option.isNone_eq_false_iff.mpr (hkeys g hg)]
  exact Bool.false_ne_true

/-- A write that may commit: its lines commit, and it completes or waits for their rows. -/
theorem State.commit_write (h : s.Flying fseq c .landed) (hd : s.destOf c = some d) {r : WriteReq} (hcmd : c.cmd = .write r)
    (hkeys : ∀ g ∈ d.granules, (s.keyFor d.ns d.n (d.n.unitOf g) d.tag).isSome) (hmay : s.mayCommit c.lines 0 = true) :
    s.commit fseq = (if c.fua || s.land.wt then
        (s.commitLines fseq c d).setCmd fseq (fun c => { c with phase := .waitRows, result := c.dw0 d })
      else (s.commitLines fseq c d).complete fseq .success).afterCommit d := by
  have hdw0 : c.dw0 d = 0 := by rw [Cmd.dw0, hcmd]
  have hzero : (s.commitLines fseq c d).zeroUnits c d = s.commitLines fseq c d := by rw [State.zeroUnits, hcmd]
  rw [State.commit, h.get]
  dsimp only
  rw [hd]
  dsimp only
  rw [any_key_missing_false hkeys, hmay, hzero, hdw0]
  rfl

theorem State.commit_waits (h : s.Flying fseq c .landed) (hd : s.destOf c = some d)
    (hkeys : ∀ g ∈ d.granules, (s.keyFor d.ns d.n (d.n.unitOf g) d.tag).isSome) (hmay : s.mayCommit c.lines 0 = false) :
    s.commit fseq = s.setCmd fseq (fun c => { c with phase := .waitCommit }) := by
  rw [State.commit, h.get]
  dsimp only
  rw [hd]
  dsimp only
  rw [any_key_missing_false hkeys, hmay]
  rfl

theorem State.commit_denied (h : s.Flying fseq c .landed) (hd : s.destOf c = some d) {g : Nat} (hg : g ∈ d.granules)
    (hkey : s.keyFor d.ns d.n (d.n.unitOf g) d.tag = none) : s.commit fseq = s.quit fseq .accessDenied := by
  have hany : d.granules.any (fun g => (s.keyFor d.ns d.n (d.n.unitOf g) d.tag).isNone) = true :=
    List.any_eq_true.mpr ⟨g, hg, by rw [hkey]; rfl⟩
  rw [State.commit, h.get]
  dsimp only
  rw [hd]
  dsimp only
  rw [if_pos hany]

theorem State.commit_completes (h : s.Flying fseq c .landed) (hone : s.cmq.cmds = [(fseq, c)]) :
    (((s.commitLines fseq c d).complete fseq .success).afterCommit d).cmq.cmds.get? fseq = none ∧
    ∃ vec, [Output.cqe c.port (s.cqOf c) c.sqid c.cid .success 0, Output.msix c.port vec] <+:
      (((s.commitLines fseq c d).complete fseq .success).afterCommit d).out.drop s.out.length := by
  have hne : c.phase ≠ .waitRows := by
    rw [h.phase]
    decide
  obtain ⟨⟨vec, hout⟩, hleft, -⟩ := h.completes_after (State.commitLines_alone (d := d) hone hne) (by decide) .success 0 0
  have hgo := (State.WentOn.refl ((s.commitLines fseq c d).complete fseq .success)).afterCommit d
  obtain ⟨rest, hrest⟩ := hgo.out
  refine ⟨hgo.none hleft, vec, rest, ?_⟩
  rw [← hrest, hout, List.append_assoc, List.drop_left]

theorem State.commit_waitsRows (hget : s.cmq.cmds.get? fseq = some c) (hone : s.cmq.cmds = [(fseq, c)]) (hphase : c.phase ≠ .waitRows) :
    ∃ c', (((s.commitLines fseq c d).setCmd fseq (fun c => { c with phase := .waitRows, result := c.dw0 d })).afterCommit d).cmq.cmds.get?
      fseq = some c' ∧ c'.phase = .waitRows := by
  have hcmq : (s.commitLines fseq c d).cmq = s.cmq := (State.commitLines_alone hone hphase).rest .cmq (by decide)
  have hafter : (((s.commitLines fseq c d).setCmd fseq (fun c => { c with phase := .waitRows, result := c.dw0 d })).afterCommit d).cmq =
      ((s.commitLines fseq c d).setCmd fseq (fun c => { c with phase := .waitRows, result := c.dw0 d })).cmq :=
    (State.afterCommit_changes _ d).rest .cmq (by decide)
  rw [hafter]
  exact ⟨_, State.setCmd_get (by rw [hcmq]; exact hget) _, rfl⟩

end

/-- Settles O12: a write takes its lines, has them read back, and completes as they commit. -/
theorem writeTakesLinesAndCompletes : Obligations.WriteTakesLinesAndCompletes := by
  unfold Obligations.WriteTakesLinesAndCompletes
  refine ⟨⟨fun fseq c d r ls s h hcmd ha => ?_, fun fseq c d r s h hcmd ha => ?_, fun fseq c d r s h hcmd hd hr hro => ?_,
    fun fseq c d r s h hcmd hd hover => ?_⟩, fun fseq c d data s hlive hget hphase hempty hgot hd hlen hsome => ?_,
    fun d ls n g hmem => d.readBacks_any ls hmem, fun fseq c d s h hd hfua hwt hroom hslots hone hkeys ⟨r, hcmd⟩ => ?_,
    fun fseq c d s h hd hwait hmay hone hkeys ⟨r, hcmd⟩ => ?_, fun fseq c d s h hd hwt hover hkeys => ?_,
    fun fseq c d g s h hd hg hkey => ?_, fun fseq c s h => ?_⟩
  · obtain ⟨hlen, hfree⟩ := Landing.alloc_some ha
    refine ⟨_, { c with lines := ls }.filling, exec_write h.live h.get h.runs hcmd, ?_⟩
    rw [h.landStart_eq (.inl ⟨r, hcmd⟩), State.takeLines_placed h ha]
    exact ⟨State.setCmd_get (State.placeLines_get h.get false ls) _, rfl, rfl, hfree, hlen, fun n hn => State.placeLines_line hlen hn, rfl, rfl⟩
  · refine ⟨_, { c with phase := .waitLines }, exec_write h.live h.get h.runs hcmd, ?_⟩
    rw [h.landStart_eq (.inl ⟨r, hcmd⟩), State.takeLines_waits h ha]
    exact ⟨State.setCmd_get h.get _, rfl, rfl, rfl, rfl⟩
  · refine ⟨_, exec_write h.live h.get (Cmd.runs_of_ready h.phase) hcmd, ?_⟩
    rw [State.landStart_readOnly h.get hd [] (by rw [State.destOf_write hcmd hd]; exact hr) hro]
    exact h.quits_now _
  · refine ⟨_, exec_write h.live h.get (Cmd.runs_of_ready h.phase) hcmd, ?_⟩
    rw [State.landStart_range h.get hd [] (if_pos (.inr hover))]
    exact h.quits_now _
  · exact ⟨_, (State.dataInLines_leaves hget hd data).imp fun c' hc => ⟨exec_writeDataLanded hlive hget hphase hempty hgot hd hlen hsome, hc⟩⟩
  · have hmay : s.mayCommit c.lines 0 = true := (State.mayCommit_iff ..).mpr (.inr hroom)
    obtain ⟨hleft, vec, hsent⟩ := State.commit_completes (d := d) h hone
    refine ⟨_, vec, exec_readBackReturn h true, ?_⟩
    rw [if_pos rfl, State.commit_write h hd hcmd hkeys hmay, hfua, hwt]
    exact ⟨hleft, hsent⟩
  · have hnow : (c.fua || s.land.wt) = true := Bool.or_eq_true_iff.mpr hwait
    have hne : c.phase ≠ .waitRows := by
      rw [h.phase]
      decide
    obtain ⟨c', hc, hphase⟩ := State.commit_waitsRows (d := d) h.get hone hne
    refine ⟨_, c', exec_readBackReturn h true, ?_, hphase⟩
    rw [if_pos rfl, State.commit_write h hd hcmd hkeys hmay, if_pos hnow]
    exact hc
  · rw [exec_readBackReturn h true, if_pos rfl, State.commit_waits h hd hkeys (State.mayCommit_false hwt hover)]
  · refine ⟨_, exec_readBackReturn h true, ?_⟩
    rw [if_pos rfl, State.commit_denied h hd hg hkey]
    exact h.quits_now _
  · exact ⟨_, exec_readBackReturn h false, h.quits_now _⟩

end Sys2Proof.Machine
end

section
/-! The statement about zones (R217 to R219). -/

namespace Sys2Proof.Machine

open Sys2Proof

/-! ### Units that are trimmed (R183, R190, R242) -/

theorem Media.writeBack_fixtures (m : Media) (pks : List Nat) : (m.writeBack pks).fixtures = m.fixtures := by
  induction pks generalizing m with
  | nil => rfl
  | cons pk pks ih =>
    refine (ih _).trans ?_
    unfold Media.writeBackOne
    split
    · rfl
    · split
      · rfl
      · rfl

/-- What bringing pages into the cache and writing them back leaves alone. -/
structure Media.Paged (m m' : Media) : Prop where
  map : m'.map = m.map
  fixtures : m'.fixtures = m.fixtures

theorem Media.Paged.trans {m m' m'' : Media} (h : m.Paged m') (h' : m'.Paged m'') : m.Paged m'' :=
  ⟨h'.map.trans h.map, h'.fixtures.trans h.fixtures⟩

theorem Media.writeBack_paged (m : Media) (pks : List Nat) : m.Paged (m.writeBack pks) :=
  ⟨(m.writeBack_kept pks).map, m.writeBack_fixtures pks⟩

theorem Media.evict_paged (fuel : Nat) (m : Media) : m.Paged (m.evict fuel) := by
  induction fuel generalizing m with
  | zero => exact ⟨rfl, rfl⟩
  | succ fuel ih =>
    rw [Media.evict]
    split
    · exact ⟨rfl, rfl⟩
    split
    · exact ⟨rfl, rfl⟩
    next pk rest _ =>
    split
    · exact (Media.Paged.trans (m := m) (m' := { m with resident := rest ++ [pk] }) ⟨rfl, rfl⟩ (Media.writeBack_paged _ [pk])).trans (ih _)
    split
    · exact Media.Paged.trans (m' := { m with resident := rest ++ [pk], refd := m.refd.filter (· ≠ pk) }) ⟨rfl, rfl⟩ (ih _)
    · exact Media.Paged.trans (m' := m.drop pk) ⟨rfl, rfl⟩ (ih _)

theorem Media.loaded_paged (m : Media) (pk : Nat) : m.Paged (m.loaded pk) := by
  unfold Media.loaded
  dsimp only
  refine Media.Paged.trans ?_ (Media.evict_paged _ _)
  split
  · exact ⟨rfl, rfl⟩
  · exact ⟨rfl, rfl⟩

theorem Media.pageIn_paged (m : Media) (pks : List Nat) : m.Paged (m.pageIn pks) := by
  unfold Media.pageIn
  induction pks generalizing m with
  | nil => exact ⟨rfl, rfl⟩
  | cons pk pks ih =>
    refine Media.Paged.trans ?_ (ih _)
    dsimp only
    split
    · exact m.loaded_paged pk
    · exact ⟨rfl, rfl⟩

theorem Media.foldl_refund_kept (rs : List Rec) (ns : Nat) (m : Media) :
    m.Paged (rs.foldl (fun (m : Media) r => m.refund ns (chargeRec r)) m) := by
  induction rs generalizing m with
  | nil => exact ⟨rfl, rfl⟩
  | cons r rs ih => exact Media.Paged.trans (m' := m.refund ns (chargeRec r)) ⟨rfl, Media.setNamespace_fixtures m ns (fun _ => rfl)⟩ (ih _)

theorem Media.foundUnit_paged (m : Media) (ns unit : Nat) : m.Paged (m.foundUnit ns unit) := by
  have hfound : ∀ (gs : List Nat) (m : Media), m.Paged (gs.foldl (fun m g => m.found (gkey ns g)) m) := by
    intro gs
    induction gs with
    | nil => exact fun _ => ⟨rfl, rfl⟩
    | cons g gs ih => exact fun m => Media.Paged.trans (m' := m.found (gkey ns g)) ⟨rfl, rfl⟩ (ih _)
  unfold Media.foundUnit
  split
  · exact ⟨rfl, rfl⟩
  · exact hfound _ _

/-- A unit is trimmed: its entry goes, and no other one changes. -/
theorem Media.setEntry_none (m : Media) (pos ns unit : Nat) :
    (m.setEntry pos ns unit none).map = m.map.del (gkey ns unit) ∧ (m.setEntry pos ns unit none).fixtures = m.fixtures := by
  unfold Media.setEntry
  extract_lets k m1 pk
  have hkept : m.Paged m1 := by
    unfold m1
    split
    · exact m.foldl_refund_kept _ ns
    · exact ⟨rfl, rfl⟩
  exact ⟨congrArg (fun x : AMap MapEnt => x.del k) hkept.map, hkept.fixtures⟩

/-- Units are trimmed one after the other. -/
theorem Media.foldl_trim (pos ns : Nat) (units : List Nat) (m : Media) :
    (units.foldl (fun m u => (m.setEntry pos ns u none).foundUnit ns u) m).fixtures = m.fixtures ∧
    ∀ k, m.map.get? k = none ∨ k ∈ units.map (gkey ns) →
      (units.foldl (fun m u => (m.setEntry pos ns u none).foundUnit ns u) m).map.get? k = none := by
  induction units generalizing m with
  | nil => exact ⟨rfl, fun k hk => hk.resolve_right List.not_mem_nil⟩
  | cons u us ih =>
    obtain ⟨hmap, hfix⟩ := m.setEntry_none pos ns u
    have hunit := (m.setEntry pos ns u none).foundUnit_paged ns u
    obtain ⟨hrest, hgone⟩ := ih ((m.setEntry pos ns u none).foundUnit ns u)
    refine ⟨hrest.trans (hunit.fixtures.trans hfix), fun k hk => hgone k ?_⟩
    rw [hunit.map, hmap]
    by_cases hku : k = gkey ns u
    · exact .inl (hku ▸ AMap.get?_del _ _)
    · rw [AMap.get?_del_ne _ _ _ hku]
      exact hk.imp_right (fun hmem => (List.mem_cons.mp hmem).resolve_left hku)

/-- Runs that are trimmed: the namespaces stand, and no entry of theirs is left. -/
theorem Media.setStates_trims (m : Media) (ns : Nat) (runs : List (Nat × Nat)) : (m.setStates ns false runs).fixtures = m.fixtures ∧
    ∀ r ∈ runs, ∀ u, r.1 ≤ u → u < r.1 + r.2 → (m.setStates ns false runs).map.get? (gkey ns u) = none := by
  unfold Media.setStates
  split
  next hnil => exact ⟨rfl, fun r hr => absurd (hnil ▸ hr) List.not_mem_nil⟩
  next =>
    extract_lets units m1 pos m2 m3
    have hin : m.Paged m1 := m.pageIn_paged _
    obtain ⟨hfix, hgone⟩ := Media.foldl_trim pos ns units m2
    have hback : m3.Paged m3.writeBackOld := m3.writeBack_paged _
    refine ⟨hback.fixtures.trans (hfix.trans hin.fixtures), fun r hr u hlo hhi => ?_⟩
    change m3.writeBackOld.map.get? _ = none
    rw [hback.map]
    refine hgone _ (.inr (List.mem_map_of_mem (List.mem_flatMap.mpr ⟨r, hr, List.mem_map.mpr ⟨u - r.1, List.mem_range.mpr (by omega), ?_⟩⟩)))
    omega

section
variable {s : State} {fseq : Nat} {c : Cmd}

/-! ### What one zone action does (R217, R219) -/

theorem State.setZone_eq {i : Nat} {n : Namespace} (hn : s.media.namespaces.get? i = some n) (z : Nat) (f : Zone → Zone) :
    s.setZone i z f = s.setNs i (fun n' => { n' with zones := n'.zones.put z (f (s.zone n z)) }) := by
  rw [State.setZone, hn]

theorem State.setZone_zone {i : Nat} {n : Namespace} (hn : s.media.namespaces.get? i = some n) (z : Nat) (f : Zone → Zone) :
    ∃ n', (s.setZone i z f).media.namespaces.get? i = some n' ∧ n'.zones.get? z = some (f (s.zone n z)) := by
  rw [State.setZone_eq hn]
  refine ⟨_, (State.setNs_get s i _).trans (congrArg _ hn), AMap.get?_put _ _ _⟩

theorem State.closeZoneStripe_worked (s : State) (i z : Nat) : State.FlashWorked s (s.closeZoneStripe i z) := by
  unfold State.closeZoneStripe
  split
  · exact (State.FlashWorked.refl s).closeStripe _
  · exact .refl s

/-- Where one command that waits for no row is all there is, units are trimmed and nothing else goes on. -/
theorem State.setUnits_trims (hone : s.cmq.cmds = [(fseq, c)]) (hphase : c.phase ≠ .waitRows) (i : Nat) (n : Namespace) (a len : Nat) :
    State.WentOn s (s.setUnits i n false [(a, len)]) ∧ Changes [.evr, .land, .media, .out] s (s.setUnits i n false [(a, len)]) ∧
    ∀ u, a ≤ u → u < a + len → (s.setUnits i n false [(a, len)]).media.map.get? (gkey i u) = none := by
  unfold State.setUnits
  extract_lets runs
  have hdiscard : ∀ hit, Changes [.land, .media] s (s.discard hit) := fun hit => by
    unfold State.discard
    refine (State.freeLines_alone_changes (fseq := fseq) (c := c) ?_ hphase _).step rfl ((State.setMedia_changes ..).mono rfl)
    exact hone
  obtain ⟨hfix, hgone⟩ := Media.setStates_trims (s.discard (fun i' g => decide (i' = i) &&
    runs.any (fun r => decide (r.1 ≤ n.unitOf g) && decide (n.unitOf g < r.1 + r.2)))).media i runs
  refine ⟨State.WentOn.checkWear (State.WentOn.systemGo (((State.WentOn.refl s).discard _).setMedia hfix)),
    (State.checkWear_changes ..).step rfl ((State.systemGo_changes ..).step rfl ((State.setMedia_changes ..).step rfl
      ((hdiscard _).mono rfl))), fun u hlo hhi => ?_⟩
  obtain ⟨b, hwear⟩ := State.checkWear_media (((s.discard (fun i' g => decide (i' = i) &&
    runs.any (fun r => decide (r.1 ≤ n.unitOf g) && decide (n.unitOf g < r.1 + r.2)))).setMedia (fun m => m.setStates i false runs)).systemGo)
  rw [hwear]
  change (State.media (State.systemGo _)).map.get? _ = none
  rw [(State.FlashWorked.refl _).systemGo.checkpoints.1]
  exact hgone (a, len) (List.mem_filter.mpr ⟨List.mem_singleton_self _, decide_eq_true (by dsimp only; omega)⟩) u hlo hhi

/-- A zone that is reset holds nothing, and is not listed any more. -/
theorem State.resetZone_leaves (hone : s.cmq.cmds = [(fseq, c)]) (hphase : c.phase ≠ .waitRows) {i : Nat} {n : Namespace}
    (hn : s.media.namespaces.get? i = some n) (z : Nat) :
    s.out <+: (s.resetZone i n z).out ∧ Changes [.evr, .land, .media, .out] s (s.resetZone i n z) ∧
    (∃ n', (s.resetZone i n z).media.namespaces.get? i = some n' ∧ n'.zones.get? z = none) ∧
    ∀ u, z * s.media.zoneSize ≤ u → u < (z + 1) * s.media.zoneSize → (s.resetZone i n z).media.map.get? (gkey i u) = none := by
  obtain ⟨hgo, hchanges, hgone⟩ := State.setUnits_trims hone hphase i n (z * s.media.zoneSize) s.media.zoneSize
  unfold State.resetZone
  dsimp only
  generalize s.setUnits i n false [(z * s.media.zoneSize, s.media.zoneSize)] = u1 at hgo hchanges hgone ⊢
  have hclose := u1.closeZoneStripe_worked i z
  have hset := ((u1.closeZoneStripe i z).setNs i (fun n => { n with zones := n.zones.del z })).settleStripes_settled
  have hhas : u1.media.namespaces.has i = true := (hgo.has i).trans (by rw [AMap.has, hn]; rfl)
  have hns : (u1.closeZoneStripe i z).media.namespaces = u1.media.namespaces := (congrArg Media.namespaces hclose.media :)
  obtain ⟨n1, hn1⟩ := Option.isSome_iff_exists.mp hhas
  refine ⟨hgo.out.trans (hclose.out.trans hset.out), (State.settleStripes_changes ..).step rfl ((State.setNs_changes ..).step rfl
    ((State.closeZoneStripe_changes ..).step rfl hchanges)), ⟨{ n1 with zones := n1.zones.del z }, ?_, AMap.get?_del _ _⟩, fun u hlo hhi => ?_⟩
  · rw [hset.namespaces, State.setNs_get, hns, hn1]
    rfl
  · rw [hset.map]
    change (u1.closeZoneStripe i z).media.map.get? _ = none
    rw [hclose.checkpoints.1]
    exact hgone u hlo (by rw [Nat.succ_mul] at hhi; exact hhi)

/-- A zone that is finished is full. -/
theorem State.finishZone_leaves {i : Nat} {n : Namespace} (hn : s.media.namespaces.get? i = some n) (z : Nat) :
    s.out <+: (s.finishZone i z).out ∧ Changes [.media, .out] s (s.finishZone i z) ∧
    ∃ n', (s.finishZone i z).media.namespaces.get? i = some n' ∧ n'.zones.get? z = some { s.zone n z with st := .full } := by
  have hclose := (s.setZone i z (fun q => { q with st := .full })).closeZoneStripe_worked i z
  have hset : Changes [.media] s (s.setZone i z (fun q => { q with st := .full })) := State.setZone_changes ..
  have hns : (s.finishZone i z).media.namespaces = (s.setZone i z (fun q => { q with st := .full })).media.namespaces :=
    (congrArg Media.namespaces hclose.media :)
  have hout : (s.setZone i z (fun q => { q with st := .full })).out = s.out := hset.rest .out (by decide)
  refine ⟨hout ▸ hclose.out, (State.closeZoneStripe_changes ..).step rfl (hset.mono rfl), ?_⟩
  rw [hns]
  exact State.setZone_zone hn z _

/-! ### The command (R217) -/

/-- A command on one zone of a zoned namespace, whose first block begins the zone. -/
structure State.OnZone (s : State) (fseq nsid slba i z : Nat) (act : ZoneAct) (n : Namespace) (c : Cmd) : Prop where
  flying : s.Flying fseq c .ready
  cmd : c.cmd = .zoneSend nsid slba false act
  ns : s.nsOf c.port nsid = some (i, n)
  zoned : n.zoned = true
  inside : slba < n.nlbas
  first : slba * n.spb = z * s.media.zoneSize * 8
  zone : n.granuleOf slba / s.media.zoneSize = z
  reset : act = .reset → s.deniedRun i n slba 1 none true = false ∧
    s.media.absentIn i [(z * s.media.zoneSize, s.media.zoneSize)] = []

/-- The instruction of each zone action. -/
theorem exec_zoneAction {ins : Instr} {act : ZoneAct} (hins : ins = (match act with
      | .finish => Instr.zoneFinish fseq
      | .reset => .zoneReset fseq
      | .openZone => .zoneOpen fseq
      | .close => .zoneClose fseq)) : exec ins s = .next (s.onZone fseq act) := by
  subst hins
  cases act
  · rfl
  · rfl
  · rfl
  · rfl

section
variable {nsid slba i z : Nat} {act : ZoneAct} {n : Namespace} (h : s.OnZone fseq nsid slba i z act n c)
include h

theorem State.OnZone.onZone_eq : s.onZone fseq act = s.zoneSend c fseq nsid slba false act := by
  rw [State.onZone, h.flying.onIo, h.cmd]
  simp only [if_true]

theorem State.OnZone.get : s.media.namespaces.get? i = some n := (State.nsOf_get h.ns).1

/-- A zone action that applies to its zone needs no map page that is absent. -/
theorem State.OnZone.pages : s.zonePages i act [z] = [] := by
  cases act
  case reset => exact (h.reset rfl).2
  all_goals rfl

theorem State.OnZone.notDenied : (act == .reset && s.deniedRun i n slba 1 none true) = false := by
  rw [Bool.and_eq_false_iff, beq_eq_false_iff_ne]
  by_cases hr : act = .reset
  · exact .inr (h.reset hr).1
  · exact .inl hr

/-- An action that the state of the zone forbids. -/
theorem State.OnZone.send_refused {st : Status} (hst : zoneMay act (s.zone n z).st = some st) :
    s.zoneSend c fseq nsid slba false act = s.complete fseq st := by
  have hin : ¬ n.nlbas ≤ slba := by
    have := h.inside
    omega
  rw [State.zoneSend, h.ns]
  simp only [h.zoned, h.notDenied, h.zone, h.first, hin, hst, Bool.not_true, Bool.false_eq_true, if_false, ne_eq, not_true_eq_false]

/-- An action that applies, by the state of its zone. -/
theorem State.OnZone.send_goes (hst : zoneMay act (s.zone n z).st = none) : s.zoneSend c fseq nsid slba false act =
    if act == .openZone && (s.zone n z).st == .empty && decide (s.media.activeMax ≤ s.media.zonesWith ZoneSt.active) then
      s.complete fseq .tooManyActiveZones
    else if act == .close && (s.zone n z).st == .closed || act == .reset && (s.zone n z).st == .empty then s.complete fseq .success
    else (s.zoneDo i n z act).complete fseq .success := by
  have hin : ¬ n.nlbas ≤ slba := by
    have := h.inside
    omega
  rw [State.zoneSend, h.ns]
  simp only [h.zoned, h.notDenied, h.zone, h.first, hin, hst, h.pages, Bool.not_true, Bool.false_eq_true, if_false, ne_eq,
    not_true_eq_false, State.withPages]

end

end

/-- A command whose action changed the zone completes after what the action sent. -/
theorem State.Flying.completes_zone {s u : State} {fseq : Nat} {c : Cmd} (h : s.Flying fseq c .ready)
    (hc : Changes [.evr, .land, .media, .out] s u) : State.Completed u.out s (u.complete fseq .success) fseq c .success 0 ∧
    (u.complete fseq .success).media = u.media := by
  have hcmq : u.cmq = s.cmq := hc.rest .cmq (by decide)
  have hsame : State.SamePost s u fseq := .of_changes hc (by decide) (by decide) (by rw [hcmq]) (by rw [hcmq])
  exact ⟨h.completes_same hsame .success 0 0, State.complete_media (hsame.get.trans h.get) (h.fresh rfl) .success 0 0⟩

section
variable {s : State} {fseq nsid slba i z : Nat} {n : Namespace} {c : Cmd}

theorem zoneMay_finish {st : ZoneSt} (h : st ≠ .readOnly) : zoneMay .finish st = none := by
  cases st
  case readOnly => exact absurd rfl h
  all_goals rfl

theorem zoneMay_reset {st : ZoneSt} (h : st.active = true ∨ st = .full) : zoneMay .reset st = none ∧ (st == .empty) = false := by
  cases st
  case readOnly => exact absurd h (by decide)
  case empty => exact absurd h (by decide)
  all_goals exact ⟨rfl, rfl⟩

theorem zoneMay_open {st : ZoneSt} (h : st.isOpen = true ∨ st = .closed) : zoneMay .openZone st = none ∧ (st == .empty) = false := by
  cases st
  case readOnly => exact absurd h (by decide)
  case full => exact absurd h (by decide)
  case empty => exact absurd h (by decide)
  all_goals exact ⟨rfl, rfl⟩

theorem zoneMay_close {st : ZoneSt} (h : st.isOpen = true) : zoneMay .close st = none ∧ (st == .closed) = false := by
  cases st
  case implOpen => exact ⟨rfl, rfl⟩
  case explOpen => exact ⟨rfl, rfl⟩
  all_goals exact absurd h (by decide)

theorem State.OnZone.finishes (h : s.OnZone fseq nsid slba i z .finish n c) (hst : (s.zone n z).st ≠ .readOnly) :
    ∃ before n', s.out <+: before ∧
      State.Completed before s (s.zoneSend c fseq nsid slba false .finish) fseq c .success 0 ∧
      (s.zoneSend c fseq nsid slba false .finish).media.namespaces.get? i = some n' ∧
      n'.zones.get? z = some { s.zone n z with st := .full } := by
  obtain ⟨hout, hchanges, n', hn', hz⟩ := State.finishZone_leaves h.get z
  obtain ⟨hdone, hmedia⟩ := h.flying.completes_zone (hchanges.mono rfl)
  have hsend : s.zoneSend c fseq nsid slba false .finish = (s.finishZone i z).complete fseq .success := h.send_goes (zoneMay_finish hst)
  rw [hsend]
  exact ⟨_, n', hout, hdone, by rw [hmedia]; exact hn', hz⟩

theorem State.OnZone.resets (h : s.OnZone fseq nsid slba i z .reset n c) (hone : s.cmq.cmds = [(fseq, c)])
    (hst : (s.zone n z).st.active = true ∨ (s.zone n z).st = .full) :
    ∃ before n', s.out <+: before ∧
      State.Completed before s (s.zoneSend c fseq nsid slba false .reset) fseq c .success 0 ∧
      (s.zoneSend c fseq nsid slba false .reset).media.namespaces.get? i = some n' ∧ n'.zones.get? z = none ∧
      ∀ u, z * s.media.zoneSize ≤ u → u < (z + 1) * s.media.zoneSize →
        (s.zoneSend c fseq nsid slba false .reset).media.map.get? (gkey i u) = none := by
  have hne : c.phase ≠ .waitRows := by
    rw [h.flying.phase]
    decide
  obtain ⟨hout, hchanges, ⟨n', hn', hz⟩, hgone⟩ := State.resetZone_leaves hone hne h.get z
  obtain ⟨hdone, hmedia⟩ := h.flying.completes_zone hchanges
  obtain ⟨hmay, hempty⟩ := zoneMay_reset hst
  have hsend : s.zoneSend c fseq nsid slba false .reset = (s.resetZone i n z).complete fseq .success := by
    rw [h.send_goes hmay, hempty]
    rfl
  rw [hsend, hmedia]
  exact ⟨_, n', hout, hdone, hn', hz, hgone⟩

/-- An action that writes the state of its zone alone. -/
theorem State.OnZone.sets {act : ZoneAct} (h : s.OnZone fseq nsid slba i z act n c) (f : Zone → Zone) :
    State.Completed s.out s ((s.setZone i z f).complete fseq .success) fseq c .success 0 ∧
    ∃ n', ((s.setZone i z f).complete fseq .success).media.namespaces.get? i = some n' ∧ n'.zones.get? z = some (f (s.zone n z)) := by
  have hset : Changes [.media] s (s.setZone i z f) := State.setZone_changes ..
  have hout : (s.setZone i z f).out = s.out := hset.rest .out (by decide)
  obtain ⟨hdone, hmedia⟩ := h.flying.completes_zone (hset.mono rfl)
  rw [hout] at hdone
  rw [hmedia]
  exact ⟨hdone, State.setZone_zone h.get z f⟩

theorem State.OnZone.opens (h : s.OnZone fseq nsid slba i z .openZone n c)
    (hst : (s.zone n z).st.isOpen = true ∨ (s.zone n z).st = .closed) :
    s.zoneSend c fseq nsid slba false .openZone = (s.setZone i z (fun q => { q with st := .explOpen })).complete fseq .success := by
  obtain ⟨hmay, hempty⟩ := zoneMay_open hst
  rw [h.send_goes hmay, hempty]
  rfl

theorem State.OnZone.open_full (h : s.OnZone fseq nsid slba i z .openZone n c) (hst : (s.zone n z).st = .empty)
    (hfull : s.media.activeMax ≤ s.media.zonesWith ZoneSt.active) :
    s.zoneSend c fseq nsid slba false .openZone = s.complete fseq .tooManyActiveZones := by
  rw [h.send_goes (by rw [hst]; rfl), hst, decide_eq_true hfull]
  rfl

theorem State.OnZone.closes (h : s.OnZone fseq nsid slba i z .close n c) (hst : (s.zone n z).st.isOpen = true) :
    s.zoneSend c fseq nsid slba false .close =
      (s.setZone i z (fun q => { q with st := if q.wp = 0 then .empty else .closed })).complete fseq .success := by
  obtain ⟨hmay, hclosed⟩ := zoneMay_close hst
  rw [h.send_goes hmay, hclosed]
  rfl

/-! ### The zone report and zone append (R217) -/

/-- What the report says of a zone: its state, its capacity, its first block and its write pointer. -/
def State.zoneEntry (s : State) (n : Namespace) (k : Nat) : List Nat :=
  [(s.zone n k).st.code, (s.zone n k).cap, n.lbaOf (k * s.media.zoneSize), n.lbaOf (k * s.media.zoneSize + (s.zone n k).wp)]

/-- The report from a zone on. -/
def State.zoneReport (s : State) (n : Namespace) (z0 : Nat) : List Nat :=
  (List.range (s.zoneCount n - z0)).flatMap (fun i => s.zoneEntry n (z0 + i))

theorem State.zoneReport_length (s : State) (n : Namespace) (z0 : Nat) : (s.zoneReport n z0).length = 4 * (s.zoneCount n - z0) := by
  have hfour : ∀ i, (s.zoneEntry n (z0 + i)).length = 4 := fun _ => rfl
  rw [State.zoneReport, List.length_flatMap]
  simp only [hfour, List.map_const', List.length_range, List.sum_replicate, smul_eq_mul]
  omega

theorem exec_zoneReceive (h : s.Flying fseq c .ready) (hcmd : c.cmd = .zoneRecv nsid slba) (hn : s.nsOf c.port nsid = some (i, n))
    (hzoned : n.zoned = true) (hin : slba < n.nlbas) : exec (.zoneManagementReceive fseq) s = .next
    ((s.emit (.reply fseq 0x7A0000 (s.zoneReport n (n.granuleOf slba / s.media.zoneSize)))).complete fseq .success) := by
  have hle : ¬ n.nlbas ≤ slba := by omega
  change execZoneManagementReceive fseq s = _
  rw [execZoneManagementReceive, h.onIo, hcmd]
  dsimp only
  rw [hn]
  simp only [hzoned, hle, Bool.not_true, Bool.false_eq_true, if_false]
  rfl

theorem exec_zoneAppend {d : Dest} {r : WriteReq} (h : s.MayLand fseq c d) (hcmd : c.cmd = .zoneAppend r)
    (hn : s.nsOf c.port r.nsid = some (i, n)) (hzoned : n.zoned = true) (hsize : r.nlb * n.spb ≤ 512)
    (hfirst : r.slba * n.spb = n.granuleOf r.slba / s.media.zoneSize * s.media.zoneSize * 8) :
    exec (.zoneAppend fseq) s = .next (s.landStart fseq []) := by
  have hle : ¬ (512 < r.nlb * n.spb ∨ r.slba * n.spb ≠ n.granuleOf r.slba / s.media.zoneSize * s.media.zoneSize * 8) := by omega
  change execZoneAppend fseq s = _
  rw [execZoneAppend, State.onIo, h.live, h.get]
  simp only [Bool.not_true, Bool.false_eq_true, if_false, h.runs, if_true, hcmd, hn, hzoned, hle, h.empty]

/-- A Zone Append goes to the write pointer of its zone. -/
theorem State.destOf_append {d : Dest} {r : WriteReq} (hcmd : c.cmd = .zoneAppend r) (hn : s.nsOf c.port r.nsid = some (i, n))
    (hd : s.destOf c = some d) : d.slba = n.lbaOf (n.granuleOf r.slba / s.media.zoneSize * s.media.zoneSize +
      (s.zone n (n.granuleOf r.slba / s.media.zoneSize)).wp) := by
  rw [State.destOf, hcmd] at hd
  simp only [State.destOfReq, hn, if_true] at hd
  cases hd
  rfl

end

/-- Settles O36: an action on one zone, the report, and an append at the write pointer. -/
theorem zonesManaged : Obligations.ZonesManaged := by
  unfold Obligations.ZonesManaged
  refine ⟨fun fseq nsid slba i z act ins n c s hf hone hins hcmd hn hzoned hin hfirst hzone hreset => ?_,
    fun fseq nsid slba i n c s h hcmd hn hzoned hin => ?_, fun fseq i n c d r ls s h hcmd hn hzoned hsize hfirst ha => ?_⟩
  · have h : s.OnZone fseq nsid slba i z act n c := ⟨hf, hcmd, hn, hzoned, hin, hfirst, hzone, hreset⟩
    refine ⟨_, (exec_zoneAction hins).trans (congrArg _ h.onZone_eq), fun st hst => ?_, fun ha hst => ?_, fun ha hst => ?_, fun ha hst hfull => ?_, fun ha hst => ?_,
      fun ha hst => ?_⟩
    · rw [h.send_refused hst]
      exact ⟨hf.completes_now st 0 0, State.complete_media hf.get (hf.fresh rfl) st 0 0⟩
    · subst ha
      exact h.finishes hst
    · subst ha
      rw [h.opens hst]
      exact h.sets _
    · subst ha
      rw [h.open_full hst hfull]
      exact hf.completes_now _ 0 0
    · subst ha
      rw [h.closes hst]
      exact h.sets _
    · subst ha
      exact h.resets hone hst
  · exact ⟨_, _, exec_zoneReceive h hcmd hn hzoned hin, h.completes_reply .., s.zoneReport_length n _⟩
  · refine ⟨_, { c with lines := ls }.filling, exec_zoneAppend h hcmd hn hzoned hsize hfirst, ?_⟩
    rw [h.landStart_eq (.inr ⟨r, hcmd⟩), State.takeLines_placed h ha]
    exact ⟨State.setCmd_get (State.placeLines_get h.get false ls) _, rfl, rfl, State.destOf_append hcmd hn h.dest, rfl⟩

end Sys2Proof.Machine
end

section
/-! Units of a slice that fail their self-check (R52): the partner carries the work, and without it the controllers report fatal status. -/

namespace Sys2Proof.Machine

open Sys2Proof

theorem State.WentOn.wrp {s t : State} (h : State.WentOn s t) : t.media.wrp = s.media.wrp :=
  (congrArg (fun x => x.2.1) h.media :)

section
variable {s t : State} (h : State.WentOn s t)
include h

theorem State.WentOn.log (code src : Nat) (data : List Byte) : State.WentOn s (t.log code src data) :=
  h.same rfl rfl rfl

/-! ### A function is contained (R300 to R303) -/

theorem State.WentOn.abandonFerry : State.WentOn s t.abandonFerry := by
  unfold State.abandonFerry
  split
  · exact h
  · exact h.same rfl rfl rfl

theorem State.WentOn.ferryMeets (p : Fin 2) : State.WentOn s (t.ferryMeets p) := by
  unfold State.ferryMeets
  split
  · split
    · split
      · exact h.abandonFerry.same rfl rfl rfl
      · exact h
    · exact h
  · exact h

theorem State.WentOn.haltLent (p : Fin 2) : State.WentOn s (t.haltLent p) := by
  refine h.foldl (fun u ch hu => ?_) _
  dsimp only
  split
  · exact hu.same rfl rfl rfl
  · exact hu

theorem State.WentOn.containSays (p : Fin 2) (trig : Fin 8) : State.WentOn s (t.containSays p trig) := by
  unfold State.containSays
  split
  · exact h
  split
  · exact h.emits [_]
  dsimp only
  split
  · exact h.setPort _ _
  · exact (h.setPort _ _).emits [_]

theorem State.WentOn.contain (p : Fin 2) (trig : Fin 8) : State.WentOn s (t.contain p trig) := by
  unfold State.contain
  dsimp only
  split
  · exact h.setPort _ _
  split
  · exact h
  refine State.WentOn.containSays (State.WentOn.log (.foldl (((h.ferryMeets p).haltLent p).setPort _ _) (fun u e hu => ?_) _) _ _ _) _ _
  split
  · exact hu
  · exact hu.endCmd _

theorem State.WentOn.fatal (ps : List (Fin 2)) : State.WentOn s (t.fatal ps) := by
  refine h.foldl (fun u p hu => ?_) _
  split
  · exact hu
  · exact (hu.setCtrl _ _).contain _ _

/-! ### A stripe is closed at a failed row (R96) -/

theorem State.WentOn.startCopies (who : ReadFor) (rs : List Rec) : State.WentOn s (t.startCopies who rs) :=
  h.flash ((State.FlashWorked.refl t).startCopies who rs) (State.startCopies_changes ..) (by decide)

theorem State.WentOn.failStripe (sid : Nat) : State.WentOn s (t.failStripe sid) := by
  unfold State.failStripe
  extract_lets rows ids recs back mine again stay gone land' t1 t2 t3 copies srcs t4
  have hland : State.WentOn s t1 := h.setLand _
  have hmedia : State.WentOn s t2 := hland.setMedia rfl
  refine State.WentOn.settleStripes (State.WentOn.systemGo (State.WentOn.dispatchAll (.foldl (hmedia.freeLines gone) (fun u x hu => ?_) _)))
  split
  · exact hu.startCopies _ _
  · exact hu

end

/-! ### The units -/

theorem partner_ne : ∀ sl : Fin 8, partner sl ≠ sl := by decide

theorem State.decoderSelfCheckFail_hard {sl idx : Fin 8} {s : State} (h : s.live = true) (hin : s.units.hard[sl].getLsbD idx.val = false)
    (hleft : s.units.hard[sl] ||| (1 <<< idx.val) ≠ 0xFF) :
    exec (.decoderSelfCheckFail sl false idx) s = .next (({ s with
      units := { s.units with
        hard := s.units.hard.upd sl (fun x => x ||| (1 <<< idx.val))
        outages := s.units.outages ++ [(0x3420, idx.val, BitVec.ofNat 8 sl.val)] }
      media := { s.media with rdc := s.media.rdc.upd sl (fun r => { r with decErr := true }) } }).log 0x3420 sl.val [BitVec.ofNat 8 idx.val]) := by
  have hall : (!decide ((s.units.hard.upd sl (fun x => x ||| (1 <<< idx.val)))[sl] = 0xFF)) = true := by
    rw [Tbl.upd_get, decide_eq_false hleft, Bool.not_false]
  change execDecoderSelfCheckFail sl false idx s = _
  rw [execDecoderSelfCheckFail, State.whenLive_live h]
  unfold State.decoderFails
  extract_lets s1 mate i s2 j s3 s4
  rw [if_neg Bool.false_ne_true, if_neg (Bool.not_eq_true _ ▸ hin)]
  exact congrArg Host.Outcome.next (if_pos hall)

theorem State.compressionUnitFail_carried {sl : Fin 8} {s : State} (h : s.live = true) (hin : s.units.comp[sl] = false)
    (hmate : s.units.comp[partner sl] = false) :
    exec (.compressionUnitFail sl) s = .next (({ s with
      units := { s.units with
        comp := s.units.comp.upd sl (fun _ => true)
        outages := s.units.outages ++ [(0x3430, 0, BitVec.ofNat 8 sl.val)] }
      media := { s.media with wrp := s.media.wrp.upd sl (fun w => { w with compEn := false }) } }).log 0x3430 sl.val) := by
  have hother : (s.units.comp.upd sl (fun _ => true))[partner sl] = false := by
    rw [Tbl.upd_get_ne _ _ _ _ (partner_ne sl), hmate]
  change execCompressionUnitFail sl s = _
  rw [execCompressionUnitFail, State.whenLive_live h]
  unfold State.compressionFails
  extract_lets s1
  rw [if_neg (Bool.not_eq_true _ ▸ hin), if_neg (Bool.not_eq_true _ ▸ hother)]
  rfl

theorem State.compressionUnitFail_both {sl : Fin 8} {s : State} (h : s.live = true) (hin : s.units.comp[sl] = false)
    (hmate : s.units.comp[partner sl] = true) :
    ∃ t, exec (.compressionUnitFail sl) s = .next t ∧ t.units.comp[sl] = true ∧ t.media.wrp[sl].compEn = false ∧
      (∀ p ∈ s.portList, (t.ctrl p).cfs = true) := by
  have hother : (s.units.comp.upd sl (fun _ => true))[partner sl] = true := by
    rw [Tbl.upd_get_ne _ _ _ _ (partner_ne sl), hmate]
  change ∃ t, execCompressionUnitFail sl s = .next t ∧ _
  rw [execCompressionUnitFail, State.whenLive_live h]
  unfold State.compressionFails
  extract_lets s1
  rw [if_neg (Bool.not_eq_true _ ▸ hin), if_pos hother]
  refine ⟨_, rfl, ?_, ?_, fun p hp => State.fatal_cfs _ _ p (.inl hp)⟩
  · rw [(State.fatal_changes ..).rest .units (by decide)]
    exact Tbl.upd_get ..
  · rw [((State.WentOn.refl _).fatal _).wrp]
    exact congrArg Wrp.compEn (Tbl.upd_get ..)

theorem State.cipherLaneCheckFail_carried {sl : Fin 8} {s : State} (h : s.live = true) (hin : s.units.lane[sl] = false)
    (hmate : s.units.lane[partner sl] = false) :
    exec (.cipherLaneCheckFail sl) s = .next (({ s with
      units := { s.units with
        lane := s.units.lane.upd sl (fun _ => true)
        outages := s.units.outages ++ [(0x5430, 0, BitVec.ofNat 8 sl.val)] } }).log 0x5430 sl.val) := by
  change execCipherLaneCheckFail sl s = _
  rw [execCipherLaneCheckFail, State.whenLive_live h, State.laneFails_taken_over hin hmate]
  rfl

theorem State.cipherLaneCheckFail_both {sl : Fin 8} {s : State} (h : s.live = true) (hin : s.units.lane[sl] = false)
    (hmate : s.units.lane[partner sl] = true) :
    ∃ t, exec (.cipherLaneCheckFail sl) s = .next t ∧ t.units.lane[sl] = true ∧ ∀ p ∈ s.portList, (t.ctrl p).cfs = true := by
  have hother : (s.units.lane.upd sl (fun _ => true))[partner sl] = true := by
    rw [Tbl.upd_get_ne _ _ _ _ (partner_ne sl), hmate]
  change ∃ t, execCipherLaneCheckFail sl s = .next t ∧ _
  rw [execCipherLaneCheckFail, State.whenLive_live h]
  unfold State.laneFails
  extract_lets s1
  rw [if_neg (Bool.not_eq_true _ ▸ hin), if_pos hother]
  refine ⟨_, rfl, ?_, fun p hp => State.fatal_cfs _ _ p (.inl hp)⟩
  rw [(State.fatal_changes ..).rest .units (by decide)]
  exact Tbl.upd_get ..

/-- An accumulator's unit goes out of service, with its bit and its outage. -/
def State.accumulatorOut (s : State) (sl : Fin 8) : State :=
  let s := { s with units := { s.units with acc := s.units.acc.upd sl (fun _ => true) } }
  let s := s.setMedia (fun m => { m with wrp := m.wrp.upd sl (fun w => { w with accErr := true }) })
  if s.units.accAll then s.outageWith 0x3441 0 0xFF ⟨0x3441, 0xFF, []⟩ else s.outage 0x3440 0 sl.val []

theorem State.accumulatorOut_units (s : State) (sl : Fin 8) :
    (s.accumulatorOut sl).units.acc = s.units.acc.upd sl (fun _ => true) ∧ (s.accumulatorOut sl).media.wrp[sl].accErr = true ∧
    (s.accumulatorOut sl).units.outages = s.units.outages ++ [((if (s.accumulatorOut sl).units.accAll then 0x3441 else 0x3440), 0,
      BitVec.ofNat 8 (if (s.accumulatorOut sl).units.accAll then 0xFF else sl.val))] := by
  have hbit : (s.media.wrp.upd sl (fun w => { w with accErr := true }))[sl].accErr = true := congrArg Wrp.accErr (Tbl.upd_get ..)
  unfold State.accumulatorOut
  extract_lets s1 s2 s3
  by_cases hall : s3.units.accAll = true
  · have hafter : (s3.outageWith 0x3441 0 0xFF ⟨0x3441, 0xFF, []⟩).units.accAll = true := hall
    rw [if_pos hall, if_pos hafter, if_pos hafter]
    exact ⟨rfl, hbit, rfl⟩
  · have hafter : ¬ (s3.outage 0x3440 0 sl.val []).units.accAll = true := hall
    rw [if_neg hall, if_neg hafter, if_neg hafter]
    exact ⟨rfl, hbit, rfl⟩

/-- The stripes that fail and the zones that close after it leave the units and their bits. -/
theorem State.accumulatorFails_out {s : State} {sl : Fin 8} (hin : s.units.acc[sl] = false) :
    (s.accumulatorFails sl).units = (s.accumulatorOut sl).units ∧ (s.accumulatorFails sl).media.wrp = (s.accumulatorOut sl).media.wrp := by
  have hfold (hit : List (Nat × Stripe)) (u : State) : (hit.foldl (fun s e => s.failStripe e.1) u).units = u.units ∧
      (hit.foldl (fun s e => s.failStripe e.1) u).media.wrp = u.media.wrp := by
    have hrest : Changes [.cmq, .land, .media, .ports, .out] u (hit.foldl (fun s e => s.failStripe e.1) u) :=
      Changes.foldl _ hit u u (fun v e hv => Changes.step (State.failStripe_changes v e.1) (by decide) hv) (Changes.refl _ u)
    exact ⟨hrest.rest .units (by decide), ((State.WentOn.refl u).foldl (fun _ _ hv => hv.failStripe _) hit).wrp⟩
  unfold State.accumulatorFails
  extract_lets s1 s2 s3 s4 hit s5
  rw [if_neg (Bool.not_eq_true _ ▸ hin)]
  split
  · exact hfold hit s4
  · exact hfold hit s4

theorem State.accumulatorSelfCheckFail_units {sl : Fin 8} {s : State} (h : s.live = true) (hin : s.units.acc[sl] = false) :
    ∃ t, exec (.accumulatorSelfCheckFail sl) s = .next t ∧ t.units.acc = s.units.acc.upd sl (fun _ => true) ∧
      t.media.wrp[sl].accErr = true ∧ (t.units.accAll = true → t.readOnly = true) ∧
      t.units.outages = s.units.outages ++ [((if t.units.accAll then 0x3441 else 0x3440), 0,
        BitVec.ofNat 8 (if t.units.accAll then 0xFF else sl.val))] := by
  obtain ⟨hunits, hwrp⟩ := State.accumulatorFails_out hin
  obtain ⟨hacc, hbit, hout⟩ := s.accumulatorOut_units sl
  change ∃ t, execAccumulatorSelfCheckFail sl s = .next t ∧ _
  rw [execAccumulatorSelfCheckFail, State.whenLive_live h]
  refine ⟨_, rfl, ?_, ?_, fun hall => ?_, ?_⟩
  · rw [hunits]
    exact hacc
  · rw [hwrp]
    exact hbit
  · rw [State.readOnly, hall, Bool.or_true, Bool.true_or]
  · rw [hunits]
    exact hout

/-- Settles O4: the units go out of service first, and neither the fatal status nor the failed stripes write them back. -/
theorem sliceUnitsFail : Obligations.SliceUnitsFail :=
  ⟨fun _ _ _ => State.decoderSelfCheckFail_hard, fun _ _ => State.compressionUnitFail_carried,
    fun _ _ => State.compressionUnitFail_both, fun _ _ => State.cipherLaneCheckFail_carried, fun _ _ => State.cipherLaneCheckFail_both,
    fun _ _ => State.accumulatorSelfCheckFail_units⟩

end Sys2Proof.Machine
end

section
/-! The machine's canonical form (R268): a settled lock table, canonical memories, and the tables of lines and rows in the order of their
numbers; and the updates of the state that keep it. -/

namespace Sys2Proof.Machine

open Sys2Proof

/-- The lock table is settled, the memories and the tables are canonical. -/
structure State.Canon (s : State) : Prop where
  locks : regrant s.cmq.locks = s.cmq.locks
  bst : memWf 0xFF s.bst.mem = true
  opal : memWf 0 s.sec.dataStore = true
  sdm : memWf 0 s.sdm.mem = true
  pmr : ∀ p : Fin 2, s.land.pmr[p].memOk = true
  lines : s.land.lines.wf = true
  rows : s.media.rows.wf = true

theorem State.canon_iff (s : State) : s.Canon ↔ s.locksOk ∧ s.memOk = true ∧ s.tablesOk = true := by
  rw [State.locksOk, State.memOk, State.tablesOk]
  simp only [Bool.and_eq_true]
  constructor
  · intro h
    exact ⟨h.locks, ⟨⟨⟨⟨h.bst, h.opal⟩, h.sdm⟩, h.pmr 0⟩, h.pmr 1⟩, h.lines, h.rows⟩
  · rintro ⟨hlocks, ⟨⟨⟨⟨hbst, hopal⟩, hsdm⟩, h0⟩, h1⟩, hlines, hrows⟩
    exact ⟨hlocks, hbst, hopal, hsdm, Fin.forall_fin_two.mpr ⟨h0, h1⟩, hlines, hrows⟩

/-- What the canonical form speaks of. -/
def State.guarded (s : State) : List Lock × List Host.Cell × List Host.Cell × List Host.Cell × Tbl 2 Pmr × AMap Line × AMap Row :=
  (s.cmq.locks, s.bst.mem, s.sec.dataStore, s.sdm.mem, s.land.pmr, s.land.lines, s.media.rows)

/-- The parts that hold nothing of it. -/
def unguarded (ps : List Part) : Bool := ps.all (fun p => !([Part.cmq, .land, .media, .sdm, .sec, .bst].contains p))

section
variable {t : State} (h : State.Canon t)
include h

theorem State.Canon.same {u : State} (hu : u.guarded = t.guarded) : State.Canon u := by
  simp only [State.guarded, Prod.mk.injEq] at hu
  obtain ⟨hlocks, hbst, hopal, hsdm, hpmr, hlines, hrows⟩ := hu
  exact ⟨hlocks ▸ h.locks, hbst ▸ h.bst, hopal ▸ h.opal, hsdm ▸ h.sdm, hpmr ▸ h.pmr, hlines ▸ h.lines, hrows ▸ h.rows⟩

theorem State.Canon.keeps {u : State} {ps : List Part} (hc : Changes ps t u) (hps : unguarded ps = true) : State.Canon u := by
  have hrest (p : Part) (hp : [Part.cmq, .land, .media, .sdm, .sec, .bst].contains p = true) : t.agrees u p := by
    refine hc.rest p (fun hmem => ?_)
    have hnot := List.all_eq_true.mp hps p hmem
    rw [hp] at hnot
    exact Bool.false_ne_true hnot
  refine h.same ?_
  rw [State.guarded, (hrest .cmq rfl : u.cmq = t.cmq), (hrest .bst rfl : u.bst = t.bst), (hrest .sec rfl : u.sec = t.sec),
    (hrest .sdm rfl : u.sdm = t.sdm), (hrest .land rfl : u.land = t.land), (hrest .media rfl : u.media = t.media)]
  rfl

theorem State.Canon.foldl {α : Type} {f : State → α → State} {xs : List α} (hf : ∀ u x, State.Canon u → State.Canon (f u x)) :
    State.Canon (xs.foldl f t) := by
  induction xs generalizing t with
  | nil => exact h
  | cons x xs ih => exact ih (hf t x h)

theorem State.Canon.setLocks {q : Cmq} (hq : regrant q.locks = q.locks) : State.Canon { t with cmq := q } :=
  ⟨hq, h.bst, h.opal, h.sdm, h.pmr, h.lines, h.rows⟩

theorem State.Canon.setMedia {f : Media → Media} (hrows : (f t.media).rows = t.media.rows) : State.Canon (t.setMedia f) :=
  ⟨h.locks, h.bst, h.opal, h.sdm, h.pmr, h.lines, (congrArg AMap.wf hrows).trans h.rows⟩

theorem State.Canon.setRows {f : Media → Media} (hrows : (f t.media).rows.wf = true) : State.Canon (t.setMedia f) :=
  ⟨h.locks, h.bst, h.opal, h.sdm, h.pmr, h.lines, hrows⟩

theorem State.Canon.setLines {l : Landing} (hpmr : l.pmr = t.land.pmr) (hlines : l.lines.wf = true) : State.Canon { t with land := l } :=
  ⟨h.locks, h.bst, h.opal, h.sdm, hpmr ▸ h.pmr, hlines, h.rows⟩

theorem State.Canon.setPmr {l : Landing} (hpmr : ∀ p : Fin 2, l.pmr[p].memOk = true) (hlines : l.lines = t.land.lines) :
    State.Canon { t with land := l } :=
  ⟨h.locks, h.bst, h.opal, h.sdm, hpmr, hlines ▸ h.lines, h.rows⟩

theorem State.Canon.setBst {f : Bst → Bst} (hmem : (f t.bst).mem = t.bst.mem) : State.Canon (t.setBst f) := by
  have hbst : memWf 0xFF (f t.bst).mem = true := hmem ▸ h.bst
  exact ⟨h.locks, hbst, h.opal, h.sdm, h.pmr, h.lines, h.rows⟩

theorem State.Canon.setStore {f : Bst → Bst} (hmem : memWf 0xFF (f t.bst).mem = true) : State.Canon (t.setBst f) :=
  ⟨h.locks, hmem, h.opal, h.sdm, h.pmr, h.lines, h.rows⟩

theorem State.Canon.setOpal {f : Security → Security} (hstore : memWf 0 (f t.sec).dataStore = true) : State.Canon (t.setSec f) :=
  ⟨h.locks, h.bst, hstore, h.sdm, h.pmr, h.lines, h.rows⟩

theorem State.Canon.setSec {f : Security → Security} (hstore : (f t.sec).dataStore = t.sec.dataStore) : State.Canon (t.setSec f) := by
  exact h.setOpal (hstore ▸ h.opal)

theorem State.Canon.setSdm {d : Sdm} (hmem : memWf 0 d.mem = true) : State.Canon { t with sdm := d } :=
  ⟨h.locks, h.bst, h.opal, hmem, h.pmr, h.lines, h.rows⟩

theorem State.Canon.setCtrl {p : Fin 2} {f : Ctrl → Ctrl} : State.Canon (t.setCtrl p f) := h.same rfl
theorem State.Canon.setPort {p : Fin 2} {f : PcPort → PcPort} : State.Canon (t.setPort p f) := h.same rfl
theorem State.Canon.setCmd {fseq : Nat} {f : Cmd → Cmd} : State.Canon (t.setCmd fseq f) := h.same rfl
theorem State.Canon.setDie {d : Nat} {f : DieSt → DieSt} : State.Canon (t.setDie d f) := h.same rfl
theorem State.Canon.setFch {c : Fin 64} {f : Fch → Fch} : State.Canon (t.setFch c f) := h.same rfl
theorem State.Canon.setNs {i : Nat} {f : Namespace → Namespace} : State.Canon (t.setNs i f) := h.same rfl
theorem State.Canon.setSdc {ch : Fin 16} {f : SdmCh → SdmCh} : State.Canon (t.setSdc ch f) := h.same rfl
theorem State.Canon.setPws {f : Pws → Pws} : State.Canon (t.setPws f) := h.same rfl
theorem State.Canon.setPlp {f : Plp → Plp} : State.Canon (t.setPlp f) := h.same rfl
theorem State.Canon.setBoot {f : Boot → Boot} : State.Canon (t.setBoot f) := h.same rfl
theorem State.Canon.setBoard {f : Board → Board} : State.Canon (t.setBoard f) := h.same rfl
theorem State.Canon.setDram {f : Dram → Dram} : State.Canon (t.setDram f) := h.same rfl
theorem State.Canon.setFree {n : Nat} : State.Canon { t with free := n } := h.same rfl
theorem State.Canon.emit {o : Output} : State.Canon (t.emit o) := h.same rfl
theorem State.Canon.emits {os : List Output} : State.Canon (t.emits os) := h.same rfl
theorem State.Canon.log {code src : Nat} {data : List Byte} : State.Canon (t.log code src data) := h.same rfl
theorem State.Canon.logs {evs : List Ev} : State.Canon (t.logs evs) := h.same rfl

end

/-! ### Rows (R89, R93, R190 to R198) -/

theorem Media.foldl_rows {α : Type} {f : Media → α → Media} (hf : ∀ m x, (f m x).rows = m.rows) (xs : List α) (m : Media) :
    (xs.foldl f m).rows = m.rows := by
  induction xs generalizing m with
  | nil => rfl
  | cons x xs ih => exact (ih _).trans (hf m x)

theorem Media.foldl_fst_rows {α β : Type} {f : Media × β → α → Media × β} (hf : ∀ a x, (f a x).1.rows = a.1.rows) (xs : List α)
    (a : Media × β) : (xs.foldl f a).1.rows = a.1.rows := by
  induction xs generalizing a with
  | nil => rfl
  | cons x xs ih => exact (ih _).trans (hf a x)

theorem Media.await_rows (m : Media) (st : Stream) : (m.await st).rows = m.rows := by
  unfold Media.await
  split
  · rfl
  · rfl

theorem Media.writeBack_rows (m : Media) (pks : List Nat) : (m.writeBack pks).rows = m.rows := (m.writeBack_kept pks).rows

theorem Media.writeBackOld_rows (m : Media) : m.writeBackOld.rows = m.rows := m.writeBack_rows _

theorem Media.ckptGo_rows (m : Media) : m.ckptGo.rows = m.rows := by
  unfold Media.ckptGo
  split
  · rfl
  extract_lets
  split
  · rfl
  · exact m.writeBack_rows _

theorem Media.evict_rows (fuel : Nat) (m : Media) : (m.evict fuel).rows = m.rows := by
  induction fuel generalizing m with
  | zero => rfl
  | succ fuel ih =>
    rw [Media.evict]
    split
    · rfl
    split
    · rfl
    split
    · exact (ih _).trans (Media.writeBack_rows _ _)
    split
    · exact ih _
    · exact ih _

theorem Media.loaded_rows (m : Media) (pk : Nat) : (m.loaded pk).rows = m.rows := by
  unfold Media.loaded
  refine (Media.evict_rows _ _).trans ?_
  split
  · rfl
  · rfl

theorem Media.pageIn_rows (m : Media) (pks : List Nat) : (m.pageIn pks).rows = m.rows := by
  refine Media.foldl_rows (fun m pk => ?_) pks m
  split
  · exact m.loaded_rows pk
  · rfl

theorem Media.setEntry_rows (m : Media) (pos ns unit : Nat) (e : Option MapEnt) : (m.setEntry pos ns unit e).rows = m.rows := by
  unfold Media.setEntry
  extract_lets k m1
  have hm1 : m1.rows = m.rows := by
    unfold m1
    split
    · exact Media.foldl_rows (f := fun m r => m.refund ns (chargeRec r)) (fun _ _ => rfl) _ m
    · rfl
  exact hm1

theorem Media.foundUnit_rows (m : Media) (ns unit : Nat) : (m.foundUnit ns unit).rows = m.rows := by
  unfold Media.foundUnit
  split
  · rfl
  exact Media.foldl_rows (f := fun m g => m.found (gkey ns g)) (fun _ _ => rfl) _ m

theorem Media.chargeEntry_rows (m : Media) (ns unit : Nat) (e : MapEnt) : (m.chargeEntry ns unit e).rows = m.rows :=
  Media.foldl_rows (f := fun m r => m.charge ns (chargeRec r)) (fun _ _ => rfl) _ m

theorem Media.applyUnit_rows (m : Media) (pos : Nat) (recs : List Rec) : (m.applyUnit pos recs).rows = m.rows := by
  unfold Media.applyUnit
  split
  · rfl
  split
  · split
    · exact (Media.chargeEntry_rows ..).trans ((Media.foundUnit_rows ..).trans (m.setEntry_rows ..))
    extract_lets
    split
    · exact (Media.chargeEntry_rows ..).trans (m.setEntry_rows ..)
    · rfl
  · rfl

theorem Media.recorded_rows (m : Media) (r : SysRec) (p : Place) : (m.recorded r p).rows = m.rows := by
  unfold Media.recorded
  split
  · rfl
  · rfl

theorem Media.applyRow_rows (m : Media) (seq : Nat) (row : Row) (f : Nat → Nat) : (m.applyRow seq row f).rows = m.rows := by
  unfold Media.applyRow
  extract_lets
  refine (Media.foldl_rows (fun m (x : SysRec × Place) => m.recorded_rows x.1 x.2) _ _).trans ?_
  exact (Media.foldl_rows (fun m (u : Nat × List Rec) => m.applyUnit_rows _ u.2) _ _).trans (m.pageIn_rows _)

theorem Media.setStates_rows (m : Media) (ns : Nat) (zero : Bool) (runs : List (Nat × Nat)) : (m.setStates ns zero runs).rows = m.rows := by
  unfold Media.setStates
  split
  · rfl
  refine (Media.writeBackOld_rows _).trans ?_
  refine (Media.foldl_rows (fun m u => ?_) _ _).trans (m.pageIn_rows _)
  exact (Media.foundUnit_rows _ _ _).trans (Media.setEntry_rows ..)

theorem Media.noteHeads_rows (m : Media) (r d pass : Nat) : (m.noteHeads r d pass).rows = m.rows := by
  unfold Media.noteHeads
  split
  · rfl
  split
  · rfl
  split
  · rfl
  · rfl

theorem Media.newRow_wf {m : Media} (h : m.rows.wf = true) (service : Bool) (sid : Nat) (t : Stripe) :
    (m.newRow service sid t).1.rows.wf = true :=
  AMap.wf_put _ _ _ h

theorem Media.setRow_wf {m : Media} (h : m.rows.wf = true) (r : Nat) (f : Row → Row) : (m.setRow r f).rows.wf = true :=
  AMap.wf_mod h _ _

theorem Media.putRecs_wf {m : Media} (h : m.rows.wf = true) (r : Nat) (row : Row) (t : Stripe) (sl : Fin 8) (c : Cursor) (recs : List Rec)
    (ps : List (Nat × Nat)) : (m.putRecs r row t sl c recs ps).rows.wf = true :=
  Media.setRow_wf h _ _

theorem Media.putSystem_wf {m : Media} (h : m.rows.wf = true) (r : Nat) (row : Row) (t : Stripe) (x : SysRec) (sl : Fin 8) (c : Cursor)
    (ps : List (Nat × Nat)) : (m.putSystem r row t x sl c ps).rows.wf = true :=
  Media.setRow_wf (Media.putRecs_wf h ..) _ _

theorem Media.wipe_wf {m : Media} (h : m.rows.wf = true) (ns : Nat) : (m.wipe ns).rows.wf = true :=
  AMap.wf_map (m := m.rows) h _ (fun _ => rfl)

/-- Updates of a table's entries keep its numbers. -/
theorem AMap.foldl_mod_wf {α β : Type} {m : AMap α} (h : m.wf = true) (k : β → Nat) (f : β → α → α) (xs : List β) :
    (xs.foldl (fun m x => m.mod (k x) (f x)) m).wf = true := by
  induction xs generalizing m with
  | nil => exact h
  | cons x xs ih => exact ih (AMap.wf_mod h _ _)

/-! ### Lines and regions (R56, R262, R265) -/

theorem AMap.wf_del {α : Type} {m : AMap α} (h : m.wf = true) (k : Nat) : (m.del k).wf = true := AMap.wf_filter _ _ h

theorem AMap.foldl_del_wf {α : Type} {m : AMap α} (h : m.wf = true) (ks : List Nat) : (ks.foldl (fun m k => m.del k) m).wf = true := by
  induction ks generalizing m with
  | nil => exact h
  | cons k ks ih => exact ih (AMap.wf_del h k)

theorem AMap.foldl_put_wf {α β : Type} {m : AMap α} (h : m.wf = true) (k : β → Nat) (v : β → α) (xs : List β) :
    (xs.foldl (fun m x => m.put (k x) (v x)) m).wf = true := by
  induction xs generalizing m with
  | nil => exact h
  | cons x xs ih => exact ih (AMap.wf_put _ _ _ h)

theorem Landing.release_wf {l : Landing} (h : l.lines.wf = true) (ns : List Nat) : (l.release ns).lines.wf = true := by
  rw [Landing.release_lines]
  exact AMap.foldl_del_wf h ns

theorem Landing.rebindOne_pmr (l : Landing) (p : Fin 2) : (l.rebindOne p).pmr = l.pmr := by
  rw [Landing.rebindOne]
  split
  · rfl
  split
  · rfl
  · rfl

theorem Landing.rebind_pmr (l : Landing) (p : Fin 2) (fuel : Nat) : (l.rebind p fuel).pmr = l.pmr := by
  induction fuel generalizing l with
  | zero => rfl
  | succ fuel ih =>
    rw [Landing.rebind]
    split
    · rfl
    · exact (ih _).trans (l.rebindOne_pmr p)

theorem Landing.release_pmr (l : Landing) (ns : List Nat) : (l.release ns).pmr = l.pmr := by
  rw [Landing.release, Landing.rebind_pmr, Landing.rebind_pmr]

theorem Pmr.save_ok {r : Pmr} (h : r.memOk = true) (opsec : Nat) : (r.save opsec).memOk = true := by
  rw [Pmr.memOk, Bool.and_eq_true] at h
  rw [Pmr.memOk, Pmr.save, Bool.and_eq_true]
  exact ⟨h.1, h.1⟩

/-- A region that stays or is saved. -/
theorem Pmr.saved_ok (opsec : Nat) (r : Pmr) (h : r.memOk = true) : (if r.mib = 0 ∨ r.nrdy then r else r.save opsec).memOk = true := by
  split
  · exact h
  · exact Pmr.save_ok h opsec

theorem Pmr.restore_ok {r : Pmr} (h : r.memOk = true) : r.restore.memOk = true := by
  rw [Pmr.memOk, Bool.and_eq_true] at h
  obtain ⟨-, himage⟩ := h
  rw [Pmr.memOk, Pmr.restore, Bool.and_eq_true]
  refine ⟨?_, himage⟩
  cases hi : r.image with
  | none => rfl
  | some i => rwa [hi] at himage

/-- A region that stays or is restored. -/
theorem Pmr.restored_ok (r : Pmr) (h : r.memOk = true) : (if r.mib = 0 then r else r.restore).memOk = true := by
  split
  · exact h
  · exact Pmr.restore_ok h

theorem Pmr.write_ok {r : Pmr} (h : r.memOk = true) (a : Nat) (bs : List Byte) : (r.write a bs).memOk = true := by
  rw [Pmr.memOk, Bool.and_eq_true] at h
  rw [Pmr.memOk, Pmr.write, memWf_memWrite _ _ _ _ h.1]
  exact h.2

/-- A region's update keeps every region. -/
theorem Pmr.upd_ok {v : Tbl 2 Pmr} (h : ∀ p : Fin 2, v[p].memOk = true) (q : Fin 2) {f : Pmr → Pmr} (hf : (f v[q]).memOk = true) (p : Fin 2) :
    (v.upd q f)[p].memOk = true := by
  by_cases hp : p = q
  · rw [hp, Tbl.upd_get]
    exact hf
  · rw [Tbl.upd_get_ne _ _ _ _ hp]
    exact h p

theorem Pmr.all_ok {v : Tbl 2 Pmr} (h : ∀ p : Fin 2, v[p].memOk = true) {f : Pmr → Pmr} (hf : ∀ r : Pmr, r.memOk = true → (f r).memOk = true)
    (p : Fin 2) : (v.all f)[p].memOk = true := by
  rw [Tbl.all_get]
  exact hf _ (h p)

/-! ### The boot store (R404) -/

theorem Bst.wipe_wf {b : Bst} (h : memWf 0xFF b.mem = true) (x : Nat) : memWf 0xFF (b.wipe x).mem = true := memWf_memClear _ _ _ _ h

theorem Bst.erased_wf {b : Bst} (h : memWf 0xFF b.mem = true) (x : Nat) : memWf 0xFF (b.erased x).mem = true := memWf_memClear _ _ _ _ h

theorem Bst.writeSector_wf {b : Bst} (h : memWf 0xFF b.mem = true) (x area seq : Nat) (content : List Byte) :
    memWf 0xFF (b.writeSector x area seq content).mem = true := by
  unfold Bst.writeSector
  extract_lets c b1
  have hb1 : memWf 0xFF b1.mem = true := Bst.erased_wf h x
  clear_value c b1
  dsimp only
  generalize sectorHeader 0x0F area seq (crc32 c) ++ c = bs
  exact memWf_memWrite _ _ _ _ hb1

theorem Bst.foldl_wf {α : Type} {f : Bst → α → Bst} (hf : ∀ b x, memWf 0xFF b.mem = true → memWf 0xFF (f b x).mem = true) {b : Bst}
    (h : memWf 0xFF b.mem = true) (xs : List α) : memWf 0xFF (xs.foldl f b).mem = true := by
  induction xs generalizing b with
  | nil => exact h
  | cons x xs ih => exact ih (hf b x h)

theorem Bst.writeImage_wf {b : Bst} (h : memWf 0xFF b.mem = true) (first area : Nat) (img : List Byte) :
    memWf 0xFF (b.writeImage first area img).mem = true := by
  refine Bst.foldl_wf (fun u i hu => ?_) ?_ _
  · split
    · exact hu
    · exact Bst.erased_wf hu _
  · exact Bst.foldl_wf (fun u i hu => Bst.writeSector_wf hu _ _ _ _) h _

theorem Bst.putRun_wf {b : Bst} (h : memWf 0xFF b.mem = true) (first o : Nat) (bs : List Byte) :
    memWf 0xFF (b.putRun first o bs).mem = true := by
  induction bs generalizing b o with
  | nil => exact h
  | cons x xs ih => exact ih (memWf_memPut _ _ _ _ h) _

theorem Bst.beginSector_wf {b : Bst} (h : memWf 0xFF b.mem = true) (x : Nat) : memWf 0xFF (b.beginSector x).mem = true := by
  unfold Bst.beginSector
  split
  · generalize sectorHeader 0x3F 2 0xFFFFFFFF 0xFFFFFFFF = bs
    exact memWf_memWrite _ _ _ _ h
  · exact h

theorem Bst.sealSector_wf {b : Bst} (h : memWf 0xFF b.mem = true) (x : Nat) : memWf 0xFF (b.sealSector x).mem = true := by
  unfold Bst.sealSector
  split
  · exact h
  extract_lets seq
  generalize sectorHeader 0x0F 2 seq (crc32 (b.bytes (x * sectorSize + 0x40) 65472)) = bs
  exact memWf_memWrite _ _ _ _ h

section
variable {t : State} (h : State.Canon t)
include h

theorem State.Canon.setRow {r : Nat} {f : Media → Row → Row} : State.Canon (t.setMedia (fun m => m.setRow r (f m))) :=
  h.setRows (Media.setRow_wf h.rows _ _)

theorem State.Canon.await {st : Stream} : State.Canon (t.setMedia (fun m => m.await st)) := h.setMedia (Media.await_rows _ _)

theorem State.Canon.newRow {service : Bool} {sid : Nat} {x : Stripe} : State.Canon (t.setMedia (fun m => (m.newRow service sid x).1)) :=
  h.setRows (Media.newRow_wf h.rows ..)

theorem State.Canon.touch {pks : List Nat} : State.Canon (t.setMedia (fun m => pks.foldl Media.touch m)) :=
  h.setMedia (Media.foldl_rows (f := Media.touch) (fun _ _ => rfl) _ _)

theorem State.Canon.ckptGo : State.Canon (t.setMedia Media.ckptGo) := h.setMedia (Media.ckptGo_rows _)

end

end Sys2Proof.Machine
end

section
/-! Completions, containment and the arrays keep the canonical form (R60, R93, R188, R302). -/

namespace Sys2Proof.Machine

open Sys2Proof

section
variable {s : State} (h : State.Canon s)
include h

/-! ### The boot control record (R427) -/

theorem State.Canon.record {f : Boot → Boot} : State.Canon (s.record f) := by
  unfold State.record
  extract_lets src boot at_ bst
  have hbst : memWf 0xFF (bst.erased (nextRecSector at_)).mem = true := Bst.erased_wf (Bst.writeSector_wf h.bst ..) _
  exact ⟨h.locks, hbst, h.opal, h.sdm, h.pmr, h.lines, h.rows⟩

/-! ### Guards, completions and containment (R60, R302) -/

theorem State.Canon.whenLive {f : State → State} (hf : ∀ u, State.Canon u → State.Canon (f u)) : State.Canon (s.whenLive f) := by
  unfold State.whenLive
  split
  · exact hf _ h
  · exact h

theorem State.Canon.whenPowered {f : State → State} (hf : ∀ u, State.Canon u → State.Canon (f u)) : State.Canon (s.whenPowered f) := by
  unfold State.whenPowered
  split
  · exact hf _ h
  · exact h

theorem State.Canon.post {p : Fin 2} {fseq sqid cid : Nat} {st : Status} {dw0 : Nat} : State.Canon (s.post p fseq sqid cid st dw0) := by
  unfold State.post
  extract_lets
  split
  · exact h.setPort
  split
  · exact h
  split
  · exact h
  split
  · exact h.setCtrl.emits
  · exact h.setCtrl

theorem State.Canon.dropLines {ns : List Nat} : State.Canon (s.dropLines ns) := by
  unfold State.dropLines
  extract_lets gone
  refine ⟨h.locks, h.bst, h.opal, h.sdm, Landing.release_pmr s.land ns ▸ h.pmr, Landing.release_wf h.lines ns, ?_⟩
  exact (congrArg AMap.wf (Media.foldl_rows (f := fun m l => m.unreserve l.ns l.resv) (fun _ _ => rfl) gone s.media)).trans h.rows

theorem State.Canon.endCmd {fseq : Nat} : State.Canon (s.endCmd fseq) := by
  unfold State.endCmd
  split
  · exact h
  extract_lets dead s1
  have hs1 : State.Canon s1 := h.dropLines
  exact State.Canon.same (hs1.setLocks (Cmq.settle_regranted _)) (by rfl)

theorem State.Canon.tryReady {p : Fin 2} : State.Canon (s.tryReady p) := by
  unfold State.tryReady
  split
  · exact h.setCtrl
  · exact h

theorem State.Canon.complete {fseq : Nat} {st : Status} {dw0 lba : Nat} : State.Canon (s.complete fseq st dw0 lba) := by
  unfold State.complete
  split
  · exact h
  extract_lets s1
  have hs1 : State.Canon s1 := by
    unfold s1
    split
    · exact h.setCtrl
    · exact h
  split
  · exact hs1.endCmd.tryReady
  · exact hs1.post.endCmd

theorem State.Canon.haltLent {p : Fin 2} : State.Canon (s.haltLent p) := by
  unfold State.haltLent
  refine h.foldl (fun s ch hu => ?_)
  extract_lets
  split
  · exact (hu.same (by rfl)).log
  · exact hu

theorem State.Canon.abandonFerry : State.Canon s.abandonFerry := by
  unfold State.abandonFerry
  split
  · exact h
  extract_lets
  exact (h.same (by rfl)).record.log

theorem State.Canon.ferryMeets {p : Fin 2} : State.Canon (s.ferryMeets p) := by
  unfold State.ferryMeets
  split
  · split
    · split
      · extract_lets s1
        have hs1 : State.Canon s1 := h.abandonFerry
        exact hs1.same (by rfl)
      · exact h
    · exact h
  · exact h

theorem State.Canon.contain {p : Fin 2} {trig : Fin 8} : State.Canon (s.contain p trig) := by
  unfold State.contain
  extract_lets c s1 c1 mine high fates s2 s3 s4
  split
  · exact h.setPort
  split
  · exact h
  have hs3 : State.Canon s3 := by
    unfold s3
    refine h.ferryMeets.haltLent.setPort.foldl (fun s e hu => ?_)
    split
    · exact hu
    · exact hu.endCmd
  exact hs3.log.keeps (State.containSays_changes ..) rfl

theorem State.Canon.fatal {ps : List (Fin 2)} : State.Canon (s.fatal ps) := by
  unfold State.fatal
  refine h.foldl (fun s p hu => ?_)
  split
  · exact hu
  · exact hu.setCtrl.contain

theorem State.Canon.eraseKeys : State.Canon s.eraseKeys := by
  unfold State.eraseKeys
  extract_lets dead src src1 s1
  exact (h.same (by rfl)).dropLines

/-! ### The flash array (R188 to R198) -/

theorem State.Canon.busGo {c : Fin 64} : State.Canon (s.busGo c) := by
  unfold State.busGo
  extract_lets
  split
  · exact h.setFch.emits
  · exact h

theorem State.Canon.transfer {d : Nat} {xs : List Xfer} : State.Canon (s.transfer d xs) := h.setFch.busGo

theorem State.Canon.busTick {n : Nat} {c : Fin 64} : State.Canon (s.busTick n c) := by
  unfold State.busTick
  split
  · exact h
  split
  · exact h.setFch
  · exact h.setFch.busGo

theorem State.Canon.busPast {d : Nat} : State.Canon (s.busPast d) := by
  unfold State.busPast
  extract_lets
  split
  · exact h
  · exact h.setFch.emits.busGo

theorem State.Canon.busDrop {c : Fin 64} {gone : Nat → Bool} : State.Canon (s.busDrop c gone) := h.setFch.busGo

theorem State.Canon.issueRead {d prio rid k : Nat} {inWindow : Bool} : State.Canon (s.issueRead d prio rid k inWindow) := by
  unfold State.issueRead
  split
  · exact h.setDie
  extract_lets s1 take key s2
  exact (h.setDie.setMedia (by rfl)).transfer

theorem State.Canon.issueOp {d : Nat} {o : QOp} : State.Canon (s.issueOp d o) := by
  unfold State.issueOp
  split
  · exact h.setDie.transfer
  · exact h.setDie.transfer
  · exact h.issueRead

theorem State.Canon.resumeDie {d : Nat} : State.Canon (s.resumeDie d) := by
  unfold State.resumeDie
  extract_lets
  exact h.setDie.transfer

theorem State.Canon.readWaited {d : Nat} : State.Canon (s.readWaited d) := by
  unfold State.readWaited
  split
  · exact h
  extract_lets
  exact h.setDie.setFch

theorem State.Canon.pumpWindow {d n : Nat} {out : List (Nat × Nat)} {passed : Bool} : State.Canon (s.pumpWindow d n out passed) := by
  unfold State.pumpWindow
  extract_lets x r
  split
  · exact h
  clear_value r
  split
  · split
    · exact h.issueRead
    · exact h
  · exact h.resumeDie

theorem State.Canon.pumpIdle {d : Nat} : State.Canon (s.pumpIdle d) := by
  unfold State.pumpIdle
  extract_lets
  split
  · exact h
  split
  · exact h.issueOp
  · split
    · exact h.issueOp
    · exact h.issueRead
  · exact h.issueRead
  · exact h

theorem State.Canon.pumpBusy {d : Nat} : State.Canon (s.pumpBusy d) := by
  unfold State.pumpBusy
  extract_lets x s'
  split
  · split
    · exact h.setDie.setDie.transfer
    · exact h.setDie
  · exact h

theorem State.Canon.pump {d : Nat} : State.Canon (s.pump d) := by
  unfold State.pump
  extract_lets
  split
  · exact h
  split
  · exact h.pumpWindow
  split
  · exact h.pumpIdle
  · exact h
  · exact h.pumpBusy

theorem State.Canon.enqueue {d : Nat} {o : QOp} : State.Canon (s.enqueue d o) := h.setDie.pump

theorem State.Canon.pumpChannel {c : Fin 64} : State.Canon (s.pumpChannel c) := h.foldl (fun _ _ hu => hu.pump)

theorem State.Canon.dieIdle {d : Nat} : State.Canon (s.dieIdle d) := h.readWaited.setDie.pumpChannel

theorem State.Canon.queueErase {d b : Nat} : State.Canon (s.queueErase d b) := by
  unfold State.queueErase
  extract_lets
  split
  · exact h
  · exact h.enqueue

theorem State.Canon.keepFour {d free : Nat} {bs : List Nat} : State.Canon (s.keepFour d free bs) := by
  unfold State.keepFour
  split
  · exact h.foldl (fun _ _ hu => hu.queueErase)
  · exact h

theorem State.Canon.keepErased {d : Nat} : State.Canon (s.keepErased d) := by
  unfold State.keepErased
  extract_lets
  exact h.keepFour.keepFour

/-! ### Operands of the commands -/

theorem State.Canon.setZone {ns z : Nat} {f : Zone → Zone} : State.Canon (s.setZone ns z f) := by
  unfold State.setZone
  split
  · exact h
  · exact h.setNs

/-! ### The map and its journal (R193, R241) -/

theorem State.Canon.checkWear : State.Canon s.checkWear := by
  unfold State.checkWear
  split
  · exact (h.setMedia (by rfl)).log
  · exact h

end

end Sys2Proof.Machine
end

section
/-! Rows, reads and fulling keep the canonical form (R93 to R96, R102, R202, R213). -/

namespace Sys2Proof.Machine

open Sys2Proof

section
variable {s : State} (h : State.Canon s)
include h

/-! ### Rows and the commands that wait for them (R93 to R96) -/

theorem State.Canon.tryComplete {fseq : Nat} : State.Canon (s.tryComplete fseq) := by
  unfold State.tryComplete
  split
  · exact h
  split
  · exact h.complete
  · exact h

theorem State.Canon.freeLines {ns : List Nat} : State.Canon (s.freeLines ns) := by
  unfold State.freeLines
  extract_lets s1 wait cmds src s2
  have hs1 : State.Canon s1 := h.dropLines
  exact (hs1.same (by rfl)).foldl (fun _ _ hu => hu.tryComplete)

theorem State.Canon.releaseLines {ns : List Nat} : State.Canon (s.releaseLines ns) := by
  unfold State.releaseLines
  extract_lets s1
  have hs1 : State.Canon s1 := h.freeLines
  exact hs1.same (by rfl)

theorem State.Canon.queuePass {r : Nat} {row : Row} {t : Stripe} {pass : Nat} :
    State.Canon (s.queuePass r row t pass) := h.foldl (fun _ _ hu => hu.enqueue)

theorem State.Canon.queueFine {r : Nat} : State.Canon (s.queueFine r) := by
  unfold State.queueFine
  split
  · exact h
  split
  · exact h
  split
  · exact h
  · exact h.setRow.queuePass

theorem State.Canon.closeFull {r : Nat} : State.Canon (s.closeFull r) := by
  unfold State.closeFull
  split
  · exact h
  split
  · exact h
  split
  · exact h
  extract_lets last s1 s2 s3
  have hs1 : State.Canon s1 := by
    refine h.setRows ?_
    extract_lets m1
    have hm1 : m1.rows.wf = true := Media.setRow_wf h.rows _ _
    split
    · exact hm1
    · exact hm1
  split
  · exact hs1.queuePass
  have hs3 : State.Canon s3 := by
    unfold s3
    split
    · exact hs1.queuePass
    split
    · exact hs1.queuePass.queueFine
    · exact hs1.queuePass
  split
  · exact hs3.queueFine
  · exact hs3

theorem State.Canon.ensureFinal {r : Nat} : State.Canon (s.ensureFinal r) := by
  unfold State.ensureFinal
  split
  · exact h
  split
  · exact h
  split
  · exact h
  split
  · split
    · exact h.queueFine
    split
    · exact h.closeFull
    · exact h.setRow
  · exact State.Canon.closeFull h.newRow

theorem State.Canon.closeEarly {r : Nat} : State.Canon (s.closeEarly r) := by
  unfold State.closeEarly
  split
  · exact h.closeFull.ensureFinal
  · exact h.setRow

theorem State.Canon.closeIfDue {r : Nat} : State.Canon (s.closeIfDue r) := by
  unfold State.closeIfDue
  split
  · split
    · exact h.closeEarly
    · exact h
  · exact h

theorem State.Canon.closeStripe {sid : Nat} : State.Canon (s.closeStripe sid) := by
  unfold State.closeStripe
  extract_lets s1
  have hs1 : State.Canon s1 := by
    unfold s1
    refine h.foldl (fun s e hu => ?_)
    split
    · exact hu.ensureFinal
    · exact hu.closeEarly
  exact hs1.setMedia (by rfl)

theorem State.Canon.sendLines {r : Nat} {sl : Fin 8} {ls : List Nat} : State.Canon (s.sendLines r sl ls) := by
  unfold State.sendLines
  extract_lets waiter isFlush now soon turn lines src s1
  have hs1 : State.Canon s1 := h.setLines rfl (AMap.foldl_mod_wf h.lines id _ ls)
  exact hs1.setRow

theorem State.Canon.dispatch {st : Stream} {fuel : Nat} : State.Canon (s.dispatch st fuel) := by
  induction fuel generalizing s with
  | zero => exact h
  | succ fuel ih =>
    unfold State.dispatch
    split
    · exact h
    split
    · split
      · exact h.await
      split
      · exact h
      · exact ih h.newRow
    split
    · exact h
    split
    · exact h
    split
    · exact ih h.sendLines
    split
    · exact ih h.closeFull
    · exact h

theorem State.Canon.dispatchAll : State.Canon s.dispatchAll := by
  unfold State.dispatchAll
  extract_lets
  exact h.foldl (fun _ _ hu => hu.dispatch)

theorem State.Canon.placeCopies {fuel : Nat} : State.Canon (s.placeCopies fuel) := by
  induction fuel generalizing s with
  | zero => exact h
  | succ fuel ih =>
    unfold State.placeCopies
    split
    · exact h
    extract_lets
    split
    · split
      · exact h.await
      split
      · exact h
      · exact ih (h.setRows (Media.newRow_wf h.rows ..))
    split
    · exact h
    split
    · exact ih (h.setRows (Media.putRecs_wf h.rows ..))
    · exact ih h.closeFull

theorem State.Canon.copiesGo : State.Canon s.copiesGo := h.placeCopies

theorem State.Canon.placeSystem {fuel : Nat} : State.Canon (s.placeSystem fuel) := by
  induction fuel generalizing s with
  | zero => exact h
  | succ fuel ih =>
    unfold State.placeSystem
    split
    · exact h
    split
    · split
      · exact h.await
      split
      · exact h
      · exact ih h.newRow
    split
    · exact h
    split
    · exact ih (h.setRows (Media.putSystem_wf h.rows ..))
    · exact ih h.closeFull

theorem State.Canon.systemGo : State.Canon s.systemGo := h.placeSystem

theorem State.Canon.checkpoint : State.Canon s.checkpoint := by
  have hbegun : State.Canon (s.setMedia Media.beginCheckpoint) := h.setMedia (Media.ckptGo_rows _)
  exact hbegun.systemGo.ckptGo.checkWear

theorem State.Canon.fullBand : State.Canon s.fullBand := by
  unfold State.fullBand
  extract_lets m tight cand best
  split
  · exact h
  clear_value best
  split
  · exact h
  · exact (h.setMedia (by rfl)).systemGo

theorem State.Canon.openIn {g : Nat} {st : Stream} : State.Canon (s.openIn g st) := by
  unfold State.openIn
  extract_lets ds sys need members sid t s1 s2
  split
  · refine h.foldl (fun s d hu => ?_)
    split
    · exact hu.queueErase
    · exact hu
  have hs2 : State.Canon s2 := (h.setMedia (by rfl)).checkWear.foldl (fun _ _ hu => hu.keepErased)
  split
  · exact hs2.systemGo.fullBand
  split
  · exact hs2.copiesGo
  · exact hs2.dispatch

theorem State.Canon.stripeOpen : State.Canon s.stripeOpen := by
  unfold State.stripeOpen
  split
  · exact h
  split
  · exact h
  split
  · exact h.openIn
  extract_lets
  split
  · exact h
  split
  · exact h
  extract_lets s1
  split
  · exact h.closeStripe.openIn
  · exact h.closeStripe

/-! ### Reads (R102) -/

theorem State.Canon.startMember {rid : Nat} {l : Ladder} {x : Nat × Nat} : State.Canon (s.startMember rid l x) := by
  unfold State.startMember
  extract_lets
  exact (h.same (by rfl)).enqueue

theorem State.Canon.startStep {rid step : Nat} : State.Canon (s.startStep rid step) := by
  unfold State.startStep
  split
  · exact h
  split
  · extract_lets down ms s1
    exact (h.setMedia (by rfl)).foldl (fun _ _ hu => hu.startMember)
  extract_lets n s1
  split
  · exact (h.setMedia (by rfl)).keeps (State.startDecode_changes ..) rfl
  · exact (h.setMedia (by rfl)).foldl (fun _ _ hu => hu.enqueue)

theorem State.Canon.readCws {who : ReadFor} {die block page : Nat} {cws : List (Nat × List Nat)} {cap : Nat} :
    State.Canon (s.readCws who die block page cws cap) := by
  unfold State.readCws
  extract_lets run mk p s1
  have hs1 : State.Canon s1 := by
    refine h.setMedia (f := fun _ => p.1) ?_
    exact Media.foldl_fst_rows (f := fun (a : Media × List Nat) x => ((a.1.newRead (mk x)).1, a.2 ++ [(a.1.newRead (mk x)).2]))
      (fun _ _ => rfl) cws (s.media, [])
  split
  · exact hs1.foldl (fun _ _ hu => hu.startStep)
  split
  · exact hs1
  · exact hs1.enqueue

theorem State.Canon.readRecs {who : ReadFor} {rs : List Rec} {cap : Nat} : State.Canon (s.readRecs who rs cap) := by
  unfold State.readRecs
  refine h.foldl (fun s g hu => ?_)
  split
  · exact hu
  · exact hu.readCws

theorem State.Canon.loadPage {pk : Nat} : State.Canon (s.loadPage pk) := by
  unfold State.loadPage
  split
  · exact h
  split
  · exact h
  extract_lets
  exact h.readCws

theorem State.Canon.readMapPage {pk : Nat} : State.Canon (s.readMapPage pk) := (h.setMedia (by rfl)).loadPage

theorem State.Canon.loadNext : State.Canon s.loadNext := by
  unfold State.loadNext
  split
  · exact h
  refine h.foldl (fun s sl hu => ?_)
  extract_lets busy next
  clear_value next
  split
  · split
    · exact hu
    · exact hu.loadPage
  · exact hu

theorem State.Canon.transferred {d rid k : Nat} : State.Canon (s.transferred d rid k) := by
  unfold State.transferred
  extract_lets
  split
  · exact h.dieIdle
  split
  · split
    · exact h.setDie.pumpChannel
    · exact h
  · exact h

theorem State.Canon.dropReads {f : Ladder → Bool} : State.Canon (s.dropReads f) := by
  unfold State.dropReads
  extract_lets
  exact h.setMedia (by rfl)

theorem State.Canon.stopReads {fseq : Nat} : State.Canon (s.stopReads fseq) := h.dropReads

theorem State.Canon.quit {fseq : Nat} {st : Status} {lba : Nat} : State.Canon (s.quit fseq st lba) := h.stopReads.complete

/-! ### The limits of the landing buffer (R65) -/

theorem State.Canon.settlePmr : State.Canon s.settlePmr := by
  unfold State.settlePmr
  refine h.foldl (fun s p hu => ?_)
  extract_lets r src old s1 s2
  split
  · exact hu
  split
  · split
    · exact hu
    · refine (State.Canon.keeps ?_ (State.pmrWindows_changes ..) rfl).log
      exact hu.setPmr (Pmr.upd_ok hu.pmr p (Pmr.save_ok (hu.pmr p) _)) rfl
  split
  · exact hu
  have hs2 : State.Canon s2 := by
    unfold s2
    have hs1 : State.Canon s1 := hu.setPmr (Pmr.upd_ok hu.pmr p (Pmr.restore_ok (hu.pmr p))) rfl
    split
    · exact hs1.log
    · exact hs1
  exact (hs2.keeps (State.pmrWindows_changes ..) rfl).log

theorem State.Canon.setLimit {n : Nat} : State.Canon (s.setLimit n) := by
  unfold State.setLimit
  extract_lets wt was src s1 s2
  have hs2 : State.Canon s2 := by
    unfold s2
    split
    · exact (h.same (by rfl)).log
    split
    · exact (h.same (by rfl)).log
    · exact h.same (by rfl)
  exact hs2.settlePmr

theorem State.Canon.recompute : State.Canon s.recompute := by
  unfold State.recompute
  extract_lets v src s1
  exact (h.same (by rfl)).setLimit

/-! ### Fulling (R213) -/

theorem State.Canon.freeStripe {sid : Nat} {t : Stripe} : State.Canon (s.freeStripe sid t) := by
  unfold State.freeStripe
  extract_lets s1
  refine (h.setMedia ?_).foldl (fun s x hu => ?_)
  · refine Media.foldl_rows (fun m x => ?_) _ _
    split
    · rfl
    · rfl
  split
  · exact hu.keepErased
  · exact hu

theorem State.Canon.settleStripes : State.Canon s.settleStripes := by
  unfold State.settleStripes
  refine h.foldl (fun s e hu => ?_)
  split
  · exact hu
  split
  · exact hu
  extract_lets s1
  have hs1 : State.Canon s1 := by
    unfold s1
    split
    · exact hu.setMedia (by rfl)
    · exact hu
  split
  · exact hs1.freeStripe
  · exact hs1

theorem State.Canon.startCopies {who : ReadFor} {rs : List Rec} : State.Canon (s.startCopies who rs) := h.readRecs

theorem State.Canon.moveRecords {f : Place → Bool} : State.Canon (s.moveRecords f) := by
  unfold State.moveRecords
  split
  · exact h
  · exact (h.setMedia (by rfl)).systemGo

theorem State.Canon.pickVictim : State.Canon s.pickVictim := by
  unfold State.pickVictim
  split
  · exact h
  split
  · exact h
  extract_lets s1
  exact (h.setMedia (by rfl)).startCopies

theorem State.Canon.startPounce {id : Nat} : State.Canon (s.startPounce id) := by
  unfold State.startPounce
  split
  · exact h
  extract_lets s1 s2
  exact (h.setMedia (by rfl)).log.startCopies.moveRecords

theorem State.Canon.scanStripe {t : Stripe} : State.Canon (s.scanStripe t) := by
  unfold State.scanStripe
  split
  · exact h
  refine h.foldl (fun s x hu => ?_)
  extract_lets
  split
  · exact hu.readCws
  · exact hu

theorem State.Canon.trigger {die block trig : Nat} : State.Canon (s.trigger die block trig) := by
  unfold State.trigger
  split
  · exact h
  extract_lets emerg wide d b victim hold id p s1 s2
  split
  · split
    · exact (h.setMedia (by rfl)).startPounce
    · exact h
  split
  · exact h
  have hs2 : State.Canon s2 := by
    unfold s2
    split
    · exact h.setMedia (by rfl)
    · exact (h.setMedia (by rfl)).startPounce
  split
  · exact hs2.scanStripe
  · exact hs2

theorem State.Canon.countTrigger {die block : Nat} : State.Canon (s.countTrigger die block) := by
  unfold State.countTrigger
  extract_lets
  split
  · exact h.trigger
  split
  · exact h.trigger
  · exact h

theorem State.Canon.checkSpare : State.Canon s.checkSpare := by
  unfold State.checkSpare
  split
  · exact h
  extract_lets
  exact (h.setMedia (by rfl)).log

theorem State.Canon.failStripe {sid : Nat} : State.Canon (s.failStripe sid) := by
  unfold State.failStripe
  extract_lets rows ids recs back mine again stay gone src s1 s2 s3 copies srcs s4
  have hs4 : State.Canon s4 := by
    unfold s4
    have hkey (e : Nat × Line) : (again e).1 = e.1 := by
      unfold again
      split
      · rfl
      · rfl
    have hs1 : State.Canon s1 := h.setLines rfl (AMap.wf_map h.lines again hkey)
    refine (hs1.setRows (AMap.wf_filter _ _ h.rows)).freeLines.foldl (fun s x hu => ?_)
    split
    · exact hu.startCopies
    · exact hu
  exact hs4.dispatchAll.systemGo.settleStripes

theorem State.Canon.expEnd {p : Fin 2} {code : Nat} : State.Canon (s.expEnd p code) := h.setMedia (by rfl)

theorem State.Canon.failReads {d : Nat} : State.Canon (s.failReads d) := by
  unfold State.failReads
  extract_lets
  refine h.foldl (fun s e hu => ?_)
  split
  · exact hu.setMedia (by rfl)
  · exact (hu.setMedia (by rfl)).expEnd
  split
  · exact hu
  · exact (hu.setMedia (by rfl)).startStep

theorem State.Canon.dieFails {d reason : Nat} : State.Canon (s.dieFails d reason) := by
  unfold State.dieFails
  split
  · exact h
  extract_lets g first s1 s2 s3 s4 s5 s6 hurt s7 order s8 s9
  have hs3 : State.Canon s3 := by
    unfold s3
    clear_value first
    split
    · exact h.setFch.log.log
    · exact h.setFch.log
  have hs7 : State.Canon s7 := (hs3.setDie.busDrop.setMedia (by rfl)).failReads.foldl (fun _ _ hu => hu.failStripe)
  exact (hs7.setMedia (by rfl)).startCopies.moveRecords.checkSpare.recompute.pumpChannel

theorem State.Canon.leaveBlock {d b : Nat} : State.Canon (s.leaveBlock d b) := by
  unfold State.leaveBlock
  extract_lets s1
  split
  · extract_lets s2
    have hs2 : State.Canon s2 := by
      unfold s2
      split
      · exact h.moveRecords
      · exact h.moveRecords.failStripe
    exact hs2.startCopies
  · exact h.moveRecords

theorem State.Canon.blockFails {d b w op : Nat} : State.Canon (s.blockFails d b w op) := by
  unfold State.blockFails
  extract_lets now s1 s2 s3
  split
  · exact h.log.setDie.leaveBlock.dieFails
  · exact h.log.setDie.leaveBlock

theorem State.Canon.noteStep6 {d b : Nat} : State.Canon (s.noteStep6 d b) := by
  unfold State.noteStep6
  extract_lets s1
  split
  · exact h.setDie.dieFails
  · exact h.setDie

theorem State.Canon.resumeRebuilds : State.Canon s.resumeRebuilds := h.foldl (fun _ _ hu => hu.startCopies)

theorem State.Canon.rebuild1End {d : Nat} : State.Canon (s.rebuild1End d) := by
  unfold State.rebuild1End
  split
  · exact h
  split
  · exact h
  extract_lets s1
  exact (h.setMedia (by rfl)).log.startCopies.moveRecords

theorem State.Canon.rebuild2End {d : Nat} : State.Canon (s.rebuild2End d) := by
  unfold State.rebuild2End
  split
  · exact h
  split
  · exact h
  extract_lets
  exact (h.setMedia (by rfl)).log

end

end Sys2Proof.Machine
end

section
/-! Landing lines and records keep the canonical form (R56 to R65, R80, R183). -/

namespace Sys2Proof.Machine

open Sys2Proof

section
variable {s : State} (h : State.Canon s)
include h

/-! ### Landing lines (R56 to R65) -/

theorem State.Canon.zoneAdvance {d : Dest} : State.Canon (s.zoneAdvance d) := by
  unfold State.zoneAdvance
  split
  · exact h
  extract_lets
  exact h.setZone

theorem State.Canon.placeLines {fseq : Nat} {d : Dest} {adopted : Bool} {ls : List Nat} :
    State.Canon (s.placeLines fseq d adopted ls) := by
  unfold State.placeLines
  extract_lets mk lines src s1
  have hs1 : State.Canon s1 := h.setLines rfl (AMap.foldl_put_wf h.lines _ _ _)
  exact (hs1.setMedia (by rfl)).setCmd

theorem State.Canon.adopt {p : Fin 2} {fseq : Nat} {ks : List Nat} : State.Canon (s.adopt p fseq ks) := by
  unfold State.adopt
  extract_lets one src s1 s2
  have hs1 : State.Canon s1 := h.same (by rfl)
  exact (hs1.same (by rfl)).setCmd

theorem State.Canon.issueReadBacks {fseq : Nat} {d : Dest} {ls : List Nat} : State.Canon (s.issueReadBacks fseq d ls) := h.setCmd.emits

theorem State.Canon.tryReadBack {fseq : Nat} : State.Canon (s.tryReadBack fseq) := by
  unfold State.tryReadBack
  split
  · exact h
  split
  · exact h
  split
  · exact h.issueReadBacks
  · exact h.setCmd

theorem State.Canon.tryLand {fseq : Nat} : State.Canon (s.tryLand fseq) := by
  unfold State.tryLand
  split
  · exact h
  split
  · exact h
  split
  · exact h
  extract_lets old lines
  refine State.Canon.tryReadBack ?_
  exact h.setLines rfl (AMap.foldl_mod_wf h.lines _ _ _)

theorem State.Canon.startMerge {fseq : Nat} {d : Dest} : State.Canon (s.startMerge fseq d) := by
  unfold State.startMerge
  extract_lets srcs got recs s1
  exact h.setCmd.touch.readRecs

theorem State.Canon.tryFill {fseq : Nat} : State.Canon (s.tryFill fseq) := by
  unfold State.tryFill
  split
  · exact h
  split
  · exact h
  split
  · exact h.startMerge.tryLand
  · exact h

theorem State.Canon.takeLines {fseq : Nat} {p : Fin 2} {d : Dest} {data : List Sector} :
    State.Canon (s.takeLines fseq p d data) := by
  unfold State.takeLines
  split
  · extract_lets ks ls data1 s1 s2
    have hs1 : State.Canon s1 := h.adopt.placeLines
    have hs2 : State.Canon s2 := hs1.setLines (Landing.rebind_pmr ..) ((congrArg AMap.wf (Landing.rebind_lines ..)).trans hs1.lines)
    exact hs2.setCmd.tryFill
  split
  · exact h.setCmd
  extract_lets data1 s1 s2
  have hs2 : State.Canon s2 := by
    unfold s2
    split
    · exact h.placeLines
    · exact h.placeLines.setCmd
  exact hs2.startMerge.tryLand

theorem State.Canon.landStart {fseq : Nat} {data : List Sector} : State.Canon (s.landStart fseq data) := by
  unfold State.landStart
  split
  · exact h
  split
  · exact h.quit
  extract_lets
  split
  · exact h.quit
  split
  · exact h.quit
  split
  · exact h.quit
  split
  · exact h.quit
  split
  · exact (h.same (by rfl)).quit
  split
  · exact h.quit
  split
  · exact h.quit
  split
  · exact h.setCmd.readMapPage
  split
  · exact h.quit
  · exact h.takeLines

theorem State.Canon.discard {hit : Nat → Nat → Bool} : State.Canon (s.discard hit) := by
  unfold State.discard
  extract_lets dead s1
  exact (h.setRows (AMap.wf_map h.rows _ (by intro; rfl))).freeLines

theorem State.Canon.setUnits {ns : Nat} {n : Namespace} {zero : Bool} {runs : List (Nat × Nat)} :
    State.Canon (s.setUnits ns n zero runs) := by
  unfold State.setUnits
  extract_lets
  exact (h.discard.setMedia (Media.setStates_rows ..)).systemGo.checkWear

theorem State.Canon.zeroUnits {c : Cmd} {d : Dest} : State.Canon (s.zeroUnits c d) := by
  unfold State.zeroUnits
  split
  · exact h.setUnits
  · exact h

theorem State.Canon.commitLines {fseq : Nat} {c : Cmd} {d : Dest} : State.Canon (s.commitLines fseq c d) := by
  unfold State.commitLines
  extract_lets old wt key lines src s1
  have hs1 : State.Canon s1 := h.setLines rfl (AMap.foldl_mod_wf h.lines id _ c.lines)
  exact hs1.freeLines.zoneAdvance

theorem State.Canon.commit {fseq : Nat} : State.Canon (s.commit fseq) := by
  unfold State.commit
  split
  · exact h
  split
  · exact h.quit
  split
  · exact h.quit
  split
  · exact h.setCmd
  extract_lets wait s1 s2 z s3
  have hs2 : State.Canon s2 := by
    unfold s2
    split
    · exact h.commitLines.zeroUnits.setCmd
    · exact h.commitLines.zeroUnits.complete
  split
  · split
    · exact hs2.dispatchAll.closeStripe
    · exact hs2.dispatchAll
  · exact hs2.dispatchAll

theorem State.Canon.goOn : State.Canon s.goOn := by
  unfold State.goOn
  refine h.foldl (fun s f hu => ?_)
  split
  · split
    · exact hu.landStart
    split
    · exact hu.tryFill
    split
    · exact hu.tryReadBack
    · exact hu
  · exact hu

/-! ### Reads of host memory -/

theorem State.Canon.finishIo {fseq : Nat} : State.Canon (s.finishIo fseq) := by
  unfold State.finishIo
  split
  · exact h
  split
  · exact h.quit
  extract_lets
  split
  · exact h.emit.complete
  · exact h.complete
  · exact h.setCmd.landStart
  · exact h.complete

theorem State.Canon.startIo {fseq : Nat} : State.Canon (s.startIo fseq) := by
  unfold State.startIo
  split
  · exact h
  split
  · exact h.quit
  split
  · extract_lets src s1
    have hs1 : State.Canon s1 := by
      unfold s1
      split
      · exact h.same (by rfl)
      · exact h
    exact hs1.quit
  extract_lets gs rows srcs got recs s1
  split
  · exact (h.foldl (fun _ _ hu => hu.closeEarly.ensureFinal)).setCmd
  split
  · exact h.quit
  split
  · exact h.setCmd.readMapPage
  split
  · exact h.setCmd.finishIo
  · exact h.setCmd.touch.readRecs

theorem State.Canon.resumeAll : State.Canon s.resumeAll := by
  unfold State.resumeAll
  refine (h.foldl (fun s f hu => ?_)).goOn
  split
  · split
    · exact hu.startIo
    · exact hu
  · exact hu

theorem State.Canon.granuleDone {fseq : Nat} : State.Canon (s.granuleDone fseq) := by
  unfold State.granuleDone
  split
  · exact h
  split
  · exact h
  split
  · exact h.quit
  split
  · exact h.setCmd.tryLand
  · exact h.finishIo

theorem State.Canon.deliver {fseq : Nat} {r : Rec} : State.Canon (s.deliver fseq r) := by
  unfold State.deliver
  split
  · exact h
  split
  · exact h.quit
  extract_lets tag d s1
  have hs1 : State.Canon s1 := by
    unfold s1
    split
    · exact h.same (by rfl)
    · exact h
  exact hs1.setCmd.granuleDone

theorem State.Canon.undeliver {fseq g : Nat} : State.Canon (s.undeliver fseq g) := h.setCmd.granuleDone

/-! ### Trimmed and zeroed units (R183) -/

theorem State.Canon.withPages {fseq : Nat} {pks : List Nat} {f : State → State} (hf : ∀ u, State.Canon u → State.Canon (f u)) :
    State.Canon (s.withPages fseq pks f) := by
  unfold State.withPages
  split
  · exact h.setCmd.readMapPage
  · exact hf _ h

theorem State.Canon.writeZeroes {c : Cmd} {fseq nsid slba nlb : Nat} {dealloc : Bool} :
    State.Canon (s.writeZeroes c fseq nsid slba nlb dealloc) := by
  unfold State.writeZeroes
  split
  · exact h.complete
  extract_lets
  split
  · exact h.complete
  split
  · exact h.complete
  split
  · exact h.complete
  split
  · exact h.complete
  split
  · exact h.setCmd.landStart
  · exact h.withPages (fun _ hu => hu.zeroUnits.zoneAdvance.complete.resumeAll.settleStripes)

theorem State.Canon.deallocate {c : Cmd} {fseq nsid : Nat} {dealloc : Bool} {ranges : List (Nat × Nat)} :
    State.Canon (s.deallocate c fseq nsid dealloc ranges) := by
  unfold State.deallocate
  split
  · exact h.complete
  split
  · exact h.complete
  split
  · exact h.complete
  split
  · exact h.complete
  split
  · exact h.complete
  split
  · exact h.complete
  extract_lets
  exact h.withPages (fun _ hu => hu.setUnits.complete.resumeAll.settleStripes)

theorem State.Canon.closeZoneStripe {ns z : Nat} : State.Canon (s.closeZoneStripe ns z) := by
  unfold State.closeZoneStripe
  split
  · exact h.closeStripe
  · exact h

theorem State.Canon.finishZone {ns z : Nat} : State.Canon (s.finishZone ns z) := h.setZone.closeZoneStripe

theorem State.Canon.resetZone {ns : Nat} {n : Namespace} {z : Nat} : State.Canon (s.resetZone ns n z) := by
  unfold State.resetZone
  extract_lets s1
  exact h.setUnits.closeZoneStripe.setNs.settleStripes

theorem State.Canon.openZone {ns z : Nat} : State.Canon (s.openZone ns z) := h.setZone

theorem State.Canon.closeZone {ns z : Nat} : State.Canon (s.closeZone ns z) := h.setZone

theorem State.Canon.zoneDo {ns : Nat} {n : Namespace} {z : Nat} {a : ZoneAct} : State.Canon (s.zoneDo ns n z a) := by
  unfold State.zoneDo
  split
  · exact h.closeZone
  · exact h.finishZone
  · exact h.openZone
  · exact h.resetZone

theorem State.Canon.zoneSend {c : Cmd} {fseq nsid slba : Nat} {allZones : Bool} {act : ZoneAct} :
    State.Canon (s.zoneSend c fseq nsid slba allZones act) := by
  unfold State.zoneSend
  split
  · exact h.complete
  split
  · exact h.complete
  split
  · exact h.complete
  split
  · extract_lets
    exact h.withPages (fun _ hu => (hu.foldl (fun _ _ hv => hv.zoneDo)).complete)
  extract_lets
  split
  · exact h.complete
  split
  · exact h.complete
  split
  · exact h.complete
  split
  · exact h.complete
  split
  · exact h.complete
  · exact h.withPages (fun _ hu => hu.zoneDo.complete)

theorem State.Canon.wake {fseq : Nat} : State.Canon (s.wake fseq) := by
  unfold State.wake
  split
  · exact h
  extract_lets s1
  split
  · exact h.setCmd.landStart
  · exact h.setCmd.landStart
  · exact h.setCmd.writeZeroes
  · exact h.setCmd.deallocate
  · exact h.setCmd.zoneSend
  · split
    · exact h.setCmd.startIo
    · exact h.setCmd.landStart
  · exact h.setCmd.startIo

/-! ### The system stream -/

theorem State.Canon.pairFails : State.Canon s.pairFails := by
  unfold State.pairFails
  split
  · exact h
  extract_lets out src src1 s1 s2
  exact ((h.same (by rfl)).eraseKeys.keeps (State.outage_changes ..) rfl).foldl (fun _ _ hu => hu.contain)

theorem State.Canon.coreFails {c : Fin 32} : State.Canon (s.coreFails c) := by
  unfold State.coreFails
  extract_lets src s1
  split
  · split
    · exact ((h.same (by rfl)).keeps (State.outage_changes ..) rfl).fatal
    · exact (h.same (by rfl)).keeps (State.outage_changes ..) rfl
  split
  · split
    · exact ((h.same (by rfl)).keeps (State.outage_changes ..) rfl).fatal
    · exact (h.same (by rfl)).keeps (State.outage_changes ..) rfl
  split
  · split
    · exact ((h.same (by rfl)).keeps (State.outage_changes ..) rfl).fatal
    · exact (h.same (by rfl)).keeps (State.outage_changes ..) rfl
  · exact (h.same (by rfl)).pairFails

theorem State.Canon.declareCore {c : Fin 32} : State.Canon (s.declareCore c) := by
  unfold State.declareCore
  extract_lets
  split
  · exact h.pairFails
  split
  · exact h
  split
  · exact h.coreFails
  split
  · exact h.same (by rfl)
  · exact h.coreFails
  split
  · exact h.coreFails
  · exact h.same (by rfl)

theorem State.Canon.decoderFails {sl : Fin 8} {soft : Bool} {idx : Fin 8} : State.Canon (s.decoderFails sl soft idx) := by
  unfold State.decoderFails
  extract_lets src s1 mate i src1 s2 src2 s3 s4
  have hs1 : State.Canon s1 := h.same (by rfl)
  split
  · split
    · exact hs1
    have hs2 : State.Canon s2 := hs1.same (by rfl)
    split
    · exact hs2.same (by rfl)
    split
    · exact hs2.keeps (State.outageWith_changes ..) rfl
    · exact hs2.keeps (State.outage_changes ..) rfl
  split
  · exact hs1
  have hs4 : State.Canon s4 := (hs1.same (by rfl)).keeps (State.outage_changes ..) rfl
  split
  · exact hs4
  split
  · exact hs4.log.fatal
  · exact hs4.log

theorem State.Canon.compressionFails {sl : Fin 8} : State.Canon (s.compressionFails sl) := by
  unfold State.compressionFails
  split
  · exact h
  extract_lets src src1 s1
  split
  · exact ((h.same (by rfl)).keeps (State.outage_changes ..) rfl).fatal
  · exact (h.same (by rfl)).keeps (State.outage_changes ..) rfl

theorem State.Canon.laneFails {sl : Fin 8} : State.Canon (s.laneFails sl) := by
  unfold State.laneFails
  split
  · exact h
  extract_lets src s1
  split
  · exact ((h.same (by rfl)).keeps (State.outage_changes ..) rfl).fatal
  · exact (h.same (by rfl)).keeps (State.outage_changes ..) rfl

/-! ### The write path (R80 to R95) -/

theorem State.Canon.write {fseq : Nat} : State.Canon (s.write fseq) := by
  unfold State.write
  split
  · split
    · split
      · exact h.landStart
      split
      · exact h.tryReadBack
      · exact h
    · exact h
  · exact h

theorem State.Canon.dataLanded {fseq : Nat} {data : List Sector} : State.Canon (s.dataLanded fseq data) := by
  unfold State.dataLanded
  split
  · split
    · split
      · exact h.setCmd.tryLand
      · exact h
    · exact h
  · exact h

theorem State.Canon.readBackReturn {fseq : Nat} {ok : Bool} : State.Canon (s.readBackReturn fseq ok) := by
  unfold State.readBackReturn
  split
  · split
    · split
      · exact h.commit
      · exact h.quit
    · exact h
  · exact h

theorem State.Canon.packUnit {r : Nat} {row : Row} {t : Stripe} {sl : Fin 8} {ls : List (Nat × Line)} {lens : List (Nat × Bool)} {zero : Bool} :
    State.Canon (s.packUnit r row t sl ls lens zero) := by
  unfold State.packUnit
  extract_lets mk recs pages lines back src s1
  have hback : (back s.media).rows = s.media.rows :=
    Media.foldl_rows (f := fun m (x : (Nat × Line) × Rec) => m.unreserve x.1.2.ns (x.1.2.resv - x.2.len)) (fun _ _ => rfl) _ _
  have hs1 : State.Canon s1 :=
    (h.setMedia (f := back) hback).setLines rfl (AMap.foldl_mod_wf h.lines _ _ _)
  split
  · exact hs1.setRow
  split
  · exact h
  · exact hs1.setRows (Media.putRecs_wf hs1.rows ..)

theorem State.Canon.kpioPacked {ns : List Nat} : State.Canon (s.kpioPacked ns) := by
  unfold State.kpioPacked
  extract_lets wait cmds bound kpio src src1 s1
  exact (h.same (by rfl)).foldl (fun _ _ hu => hu.tryComplete)

theorem State.Canon.packReady {r : Nat} {sl : Fin 8} {fuel : Nat} : State.Canon (s.packReady r sl fuel) := by
  induction fuel generalizing s with
  | zero => exact h
  | succ fuel ih =>
    unfold State.packReady
    split
    · exact h
    split
    · exact h
    split
    · exact h
    split
    · exact h
    · exact ih h.packUnit.kpioPacked

theorem State.Canon.recordPacked {line : Nat} {frame : List Byte} : State.Canon (s.recordPacked line frame) := by
  unfold State.recordPacked
  split
  · exact h
  split
  · exact h
  split
  · exact h
  extract_lets lines src s1
  have hlines : lines.wf = true := AMap.wf_mod h.lines _ _
  have hs1 : State.Canon s1 := h.setLines rfl hlines
  exact hs1.packReady.closeIfDue.dispatchAll

theorem State.Canon.closeWait {r : Nat} : State.Canon (s.closeWait r) := by
  unfold State.closeWait
  split
  · exact h
  split
  · exact h
  split
  · exact h.ensureFinal
  · exact h.closeEarly.dispatchAll.copiesGo.systemGo

theorem State.Canon.programComplete {r : Nat} {member : Fin 32} : State.Canon (s.programComplete r member) := by
  unfold State.programComplete
  split
  · exact h
  · refine (h.setRows ?_).dieIdle
    exact (congrArg AMap.wf (Media.noteHeads_rows ..)).trans (Media.setRow_wf h.rows _ _)

theorem State.Canon.finishRow {r : Nat} {row : Row} : State.Canon (s.finishRow r row) := by
  unfold State.finishRow
  extract_lets host credit row1 s1 s2
  have hs1 : State.Canon s1 := by
    refine h.setRows (AMap.wf_del ?_ r)
    refine (congrArg AMap.wf ?_).trans h.rows
    exact (Media.writeBackOld_rows _).trans (Media.applyRow_rows ..)
  exact hs1.releaseLines.checkWear.ckptGo.systemGo.ckptGo.settleStripes.pickVictim.copiesGo.resumeAll.dispatchAll

theorem State.Canon.rowsGo {fuel : Nat} : State.Canon (s.rowsGo fuel) := by
  induction fuel generalizing s with
  | zero => exact h
  | succ fuel ih =>
    unfold State.rowsGo
    split
    · exact ih h.finishRow
    extract_lets
    split
    · exact h
    · exact h.foldl (fun _ _ hu => hu.readMapPage)

theorem State.Canon.dueRows : State.Canon s.dueRows := by
  unfold State.dueRows
  split
  · exact h.rowsGo
  · exact h

theorem State.Canon.rowComplete {r : Nat} : State.Canon (s.rowComplete r) := by
  unfold State.rowComplete
  split
  · exact h
  split
  · exact h.setRow.dueRows
  · exact h

theorem State.Canon.programFail {r : Nat} {member : Fin 32} : State.Canon (s.programFail r member) := by
  unfold State.programFail
  split
  · exact h
  · exact h.dieIdle.blockFails

theorem State.Canon.eraseFail {d b : Nat} : State.Canon (s.eraseFail d b) := by
  unfold State.eraseFail
  split
  · exact h.dieIdle.blockFails
  · exact h

theorem State.Canon.eraseComplete {d b : Nat} : State.Canon (s.eraseComplete d b) := by
  unfold State.eraseComplete
  split
  · exact h
  extract_lets k s1
  exact (h.setMedia (by rfl)).dieIdle.keepErased

theorem State.Canon.accumulatorFails {sl : Fin 8} : State.Canon (s.accumulatorFails sl) := by
  unfold State.accumulatorFails
  split
  · exact h
  extract_lets src s1 s2 s3 hit s4
  have hs3 : State.Canon s3 := by
    unfold s3
    split
    · exact ((h.same (by rfl)).setMedia (by rfl)).keeps (State.outageWith_changes ..) rfl
    · exact ((h.same (by rfl)).setMedia (by rfl)).keeps (State.outage_changes ..) rfl
  have hs4 : State.Canon s4 := hs3.foldl (fun _ _ hu => hu.failStripe)
  split
  · exact hs4.setMedia (by rfl)
  · exact hs4

end

end Sys2Proof.Machine
end

section
/-! Ladders, dies, rebuilds and checkpoints keep the canonical form (R102 to R149, R157 to R179, R193). -/

namespace Sys2Proof.Machine

open Sys2Proof

theorem Media.noteNeighbour_rows (m : Media) (l : Ladder) : (m.noteNeighbour l).rows = m.rows := by
  unfold Media.noteNeighbour
  split
  · rfl
  · rfl

theorem Media.countMark_rows (m : Media) (l : Ladder) (n : Nat) : (m.countMark l n).rows = m.rows := by
  unfold Media.countMark
  split
  · rfl
  split
  · rfl
  split
  · rfl
  · rfl

section
variable {s : State} (h : State.Canon s)
include h

/-! ### Ladders and exports (R102 to R149) -/

theorem State.Canon.readCommand {fseq : Nat} : State.Canon (s.readCommand fseq) := by
  unfold State.readCommand
  split
  · split
    · split
      · exact h.startIo
      · exact h
    · exact h
  · exact h

theorem State.Canon.trackUpdate {l : Ladder} : State.Canon (s.trackUpdate l) := by
  unfold State.trackUpdate
  extract_lets now s1
  have hs1 : State.Canon s1 := h.setMedia (Media.noteNeighbour_rows ..)
  split
  · exact hs1
  · exact hs1.setMedia (by rfl)

theorem State.Canon.noteDrift {l : Ladder} : State.Canon (s.noteDrift l) := by
  unfold State.noteDrift
  extract_lets d s1
  have hs1 : State.Canon s1 := by
    refine h.setMedia ?_
    extract_lets
    split
    · rfl
    · rfl
  split
  · exact hs1.trigger
  · exact hs1

theorem State.Canon.takePart {rid k win : Nat} {bytes : List Byte} : State.Canon (s.takePart rid k win bytes) := by
  unfold State.takePart
  split
  · exact h
  extract_lets p own l' n s1
  have hs1 : State.Canon s1 := h.setMedia (Media.countMark_rows ..)
  split
  · exact hs1.noteDrift
  · exact hs1

theorem State.Canon.exportDone {p : Fin 2} {rid : Nat} {l : Ladder} : State.Canon (s.exportDone p rid l) := (h.setMedia (by rfl)).expEnd

theorem State.Canon.exportStep {p : Fin 2} {rid : Nat} {l : Ladder} {ok : Bool} : State.Canon (s.exportStep p rid l ok) := by
  unfold State.exportStep
  extract_lets s1 s2
  have hs1 : State.Canon s1 := by
    unfold s1
    split
    · exact h.setMedia (by rfl)
    · exact h
  have hs2 : State.Canon s2 := by
    unfold s2
    split
    · exact hs1.trigger
    · exact hs1
  split
  · exact (hs2.setMedia (by rfl)).startStep
  refine .exportDone ?_
  split
  · exact hs2.trackUpdate
  · exact hs2

theorem State.Canon.exportStart {p : Fin 2} {q : ExportReq} {die block page cw : Nat} :
    State.Canon (s.exportStart p q die block page cw) := by
  unfold State.exportStart
  split
  · exact h.expEnd
  · exact h.readCws

theorem State.Canon.exportByLba {p : Fin 2} {q : ExportReq} : State.Canon (s.exportByLba p q) := by
  unfold State.exportByLba
  split
  · exact h.expEnd
  split
  · exact h.expEnd
  split
  · exact h.expEnd
  split
  · exact h.expEnd
  extract_lets
  split
  · exact h.expEnd
  split
  · exact h.exportStart
  · exact (h.setMedia (by rfl)).readMapPage
  · exact h.expEnd

theorem State.Canon.exportByPhysical {p : Fin 2} {q : ExportReq} : State.Canon (s.exportByPhysical p q) := by
  unfold State.exportByPhysical
  split
  · exact h.expEnd
  split
  · exact h.expEnd
  split
  · exact h.expEnd
  split
  · exact h.expEnd
  · exact h.exportStart

theorem State.Canon.queueCopy {rs : List Rec} : State.Canon (s.queueCopy rs) := by
  unfold State.queueCopy
  split
  · exact h
  split
  · exact h
  extract_lets
  exact (h.setMedia (by rfl)).copiesGo

theorem State.Canon.resolve {p : Fin 2} {q : ExportReq} : State.Canon (s.resolve p q) := by
  unfold State.resolve
  extract_lets a bytes s1 rs plain fixed units s2
  split
  · exact h.expEnd
  split
  · exact h.expEnd
  split
  · exact h.expEnd
  split
  · exact h.expEnd
  split
  · exact h.expEnd
  split
  · exact h.expEnd
  have hs2 : State.Canon s2 := by
    unfold s2
    refine h.log.foldl (fun s u hu => ?_)
    split
    · exact hu.queueCopy
    · exact hu
  exact hs2.expEnd

theorem State.Canon.expRun {p : Fin 2} : State.Canon (s.expRun p) := by
  unfold State.expRun
  extract_lets
  split
  · exact h.exportByLba
  · exact h.exportByPhysical
  · exact h.resolve
  · exact h.expEnd

theorem State.Canon.expGo {p : Fin 2} : State.Canon (s.expGo p) := by
  unfold State.expGo
  extract_lets
  split
  · exact h
  · exact (h.setMedia (by rfl)).expRun

theorem State.Canon.expRequest {p : Fin 2} {kind : Nat} {q : ExportReq} {input : Option (List Byte)} :
    State.Canon (s.expRequest p kind q input) := by
  unfold State.expRequest
  split
  · exact h
  · exact (h.setMedia (by rfl)).expGo

theorem State.Canon.pageLoaded {pk : Nat} : State.Canon (s.pageLoaded pk) := by
  unfold State.pageLoaded
  extract_lets s1 s2 s3
  have hs3 : State.Canon s3 := by
    unfold s3
    refine ((h.setMedia (Media.loaded_rows ..)).foldl (fun _ _ hu => hu.wake)).foldl (fun s p hu => ?_)
    split
    · exact (hu.setMedia (by rfl)).expRun
    · exact hu
  exact hs3.dueRows.loadNext

theorem State.Canon.pageLost {pk : Nat} : State.Canon (s.pageLost pk) := by
  unfold State.pageLost
  extract_lets s1
  refine (h.foldl (fun _ _ hu => hu.quit)).foldl (fun s p hu => ?_)
  split
  · exact hu.expEnd
  · exact hu

theorem State.Canon.delivered {l : Ladder} {gk : Nat} : State.Canon (s.delivered l gk) := by
  unfold State.delivered
  split
  · split
    · exact h.deliver
    · exact h.undeliver
  · split
    · exact h.deliver
    · exact h.undeliver
  · exact h.pageLoaded
  · split
    · split
      · exact h.queueCopy
      · exact h
    · exact h
  · split
    · split
      · exact h.queueCopy
      · exact h
    · exact h
  · split
    · split
      · exact h.queueCopy
      · exact h
    · exact h
  · exact h
  · exact h
  · exact h

theorem State.Canon.undelivered {l : Ladder} {gk : Nat} : State.Canon (s.undelivered l gk) := by
  unfold State.undelivered
  split
  · exact h.undeliver
  · exact h.undeliver
  · exact h.pageLost
  · exact h

theorem State.Canon.codewordEnds {l : Ladder} {ok : Bool} {gk : Nat} : State.Canon (s.codewordEnds l ok gk) := by
  unfold State.codewordEnds
  split
  · split
    · exact h
    · exact h.setMedia (by rfl)
  extract_lets bad s'
  split
  · exact (h.setMedia (by rfl)).undelivered
  · exact (h.setMedia (by rfl)).delivered

theorem State.Canon.settled {rid : Nat} {l : Ladder} {ok : Bool} : State.Canon (s.settled rid l ok) := by
  unfold State.settled
  split
  · exact h.setMedia (by rfl)
  · exact h.foldl (fun _ _ hu => hu.codewordEnds)

theorem State.Canon.report {l : Ladder} {n : Nat} {ok : Bool} : State.Canon (s.report l n ok) := by
  unfold State.report
  extract_lets s1
  have hs1 : State.Canon s1 := by
    unfold s1
    split
    · exact h
    split
    · exact h.trigger
    split
    · exact h.trigger
    · exact h.trigger
  split
  · exact hs1.noteStep6
  · exact hs1

theorem State.Canon.recovered {rid : Nat} {l : Ladder} : State.Canon (s.recovered rid l) := by
  unfold State.recovered
  extract_lets
  exact (h.trackUpdate.setMedia (by rfl)).report.settled

theorem State.Canon.unrecovered {rid : Nat} {l : Ladder} {code : Nat} : State.Canon (s.unrecovered rid l code) := by
  unfold State.unrecovered
  extract_lets s1
  exact (h.log.setMedia (by rfl)).report.settled

theorem State.Canon.stepFailed {rid : Nat} {l : Ladder} {found : Bool} : State.Canon (s.stepFailed rid l found) := by
  unfold State.stepFailed
  extract_lets sl s1
  have hs1 : State.Canon s1 := by
    unfold s1
    split
    · exact h.setMedia (by rfl)
    · exact h
  split
  · exact hs1.unrecovered
  split
  · exact hs1.unrecovered
  split
  · exact hs1.unrecovered
  · exact (hs1.setMedia (by rfl)).startStep

theorem State.Canon.rebuildEnd {rid : Nat} {l : Ladder} : State.Canon (s.rebuildEnd rid l) := by
  unfold State.rebuildEnd
  split
  · exact h.stepFailed
  · exact h.recovered

theorem State.Canon.rebuildEnds {fuel : Nat} : State.Canon (s.rebuildEnds fuel) := by
  induction fuel generalizing s with
  | zero => exact h
  | succ fuel ih =>
    unfold State.rebuildEnds
    split
    · exact ih h.rebuildEnd
    · exact h

theorem State.Canon.settleReads : State.Canon s.settleReads := h.rebuildEnds

theorem State.Canon.arrived {rid : Nat} : State.Canon (s.arrived rid) := by
  unfold State.arrived
  split
  · exact h
  split
  · exact h
  split
  · exact h.stepFailed
  · exact h.keeps (State.startDecode_changes ..) rfl

theorem State.Canon.readData {rid : Nat} {sig : ReadSignals} : State.Canon (s.readData rid sig) := by
  unfold State.readData
  split
  · exact h
  extract_lets s1
  split
  · exact h.busPast.transferred
  extract_lets rids win s2 s3
  split
  · exact h.busPast.dropReads.transferred
  have hs3 : State.Canon s3 := by
    unfold s3
    have hs2 : State.Canon s2 := h.busPast.foldl (fun _ _ hu => hu.takePart)
    split
    · exact hs2
    · exact hs2.transferred
  exact (hs3.foldl (fun _ _ hu => hu.arrived)).countTrigger

theorem State.Canon.decoded {rid : Nat} {out : DecodeEnd} {iters : Nat} : State.Canon (s.decoded rid out iters) := by
  unfold State.decoded
  split
  · exact h
  split
  · exact h
  extract_lets sound ok s1
  have hs1 : State.Canon s1 := by
    unfold s1
    split
    · exact h.setMedia (by rfl)
    · exact h
  split
  · exact hs1.exportStep
  split
  · exact hs1.recovered
  split
  · exact hs1.unrecovered
  split
  · exact hs1.unrecovered
  · exact hs1.stepFailed

/-! ### Dies, channels and rebuilds (R157 to R179) -/

theorem State.Canon.isolate {ch : Fin 64} : State.Canon (s.isolate ch) := by
  unfold State.isolate
  split
  · exact h
  extract_lets s1
  exact (h.setFch.log.foldl (fun _ _ hu => hu.dieFails)).emit

theorem State.Canon.loseCe {ch : Fin 64} {ce : Fin 4} : State.Canon (s.loseCe ch ce) := by
  unfold State.loseCe
  split
  · exact h
  extract_lets s1 s2
  split
  · exact h.setFch.emit.isolate
  · exact h.setFch.emit.log.foldl (fun _ _ hu => hu.dieFails)

theorem State.Canon.unissue {d : Nat} : State.Canon (s.unissue d) := by
  unfold State.unissue
  split
  · extract_lets
    exact h.setFch.setDie
  · exact h

theorem State.Canon.busCut {ch : Fin 64} : State.Canon (s.busCut ch) := by
  unfold State.busCut
  split
  · exact h
  extract_lets s1
  split
  · exact h.setFch.unissue
  · exact h.setFch.unissue
  · exact h.setFch
  · exact h.setFch.setFch

theorem State.Canon.pinCheck {ch : Fin 64} {found : List PinFault} {failed : Option (Fin 4)} :
    State.Canon (s.pinCheck ch found failed) := by
  unfold State.pinCheck
  split
  · exact h
  extract_lets fs s1 s2 s3 s4
  have hs2 : State.Canon s2 := by
    unfold s2
    split
    · exact h.busCut.setFch
    · exact h.busCut.setFch.log
  have hs3 : State.Canon s3 := by
    unfold s3
    refine hs2.foldl (fun s f hu => ?_)
    split
    · exact hu.loseCe
    · exact hu.isolate
  have hs4 : State.Canon s4 := by
    unfold s4
    clear_value fs
    split
    · exact hs3.loseCe
    · exact hs3
  exact hs4.busGo.pumpChannel

theorem State.Canon.dataFailed {d : Nat} {pins : List PinFault} : State.Canon (s.dataFailed d pins) := by
  unfold State.dataFailed
  extract_lets ch now near s1
  split
  · exact h.setFch.pinCheck
  · exact h.setFch

theorem State.Canon.probeEnds {d : Nat} {bits : List ProbeBit} {pins : List PinFault} :
    State.Canon (s.probeEnds d bits pins) := by
  unfold State.probeEnds
  extract_lets ch ce c xs both now dq same s1 s2 s3
  split
  · exact h.setFch
  have hs3 : State.Canon s3 := by
    unfold s3
    split
    · exact h.setFch.emit.pinCheck
    · exact h.setFch.emit
  split
  · exact hs3.dataFailed
  · exact hs3

theorem State.Canon.probeTo {d : Nat} {bits : List ProbeBit} {pins : List PinFault} :
    State.Canon (s.probeTo d bits pins) := by
  unfold State.probeTo
  extract_lets
  exact h.transfer.probeEnds

theorem State.Canon.probesGo {ch : Fin 64} : State.Canon (s.probesGo ch) := by
  unfold State.probesGo
  refine h.foldl (fun s ce hu => ?_)
  split
  · exact hu.setFch.probeTo.pumpChannel
  · exact hu

theorem State.Canon.recentre {ch : Fin 64} {ce : Fin 4} {bits : List ProbeBit} {pins : List PinFault} :
    State.Canon (s.recentre ch ce bits pins) := by
  unfold State.recentre
  extract_lets
  split
  · exact h
  split
  · exact h.probeTo
  · exact h.setFch

theorem State.Canon.leaveOut {d why : Nat} : State.Canon (s.leaveOut d why) := h.setDie.log

theorem State.Canon.unfitDie {d why : Nat} : State.Canon (s.unfitDie d why) := by
  unfold State.unfitDie
  extract_lets s1
  split
  · exact h.leaveOut
  · exact h.leaveOut.setMedia (by rfl)

theorem State.Canon.checkDie {ps : List Profile} {d : Nat} {id : Option DieId} :
    State.Canon (s.checkDie ps d id) := by
  unfold State.checkDie
  split
  · split
    · exact h
    split
    · exact h.setDie
    · exact h.dieFails
  extract_lets s1
  split
  · exact h.setFch.setDie.leaveOut
  split
  · exact h.setFch.setDie.unfitDie
  · exact h.setFch.setDie.setMedia (by rfl)
  split
  · exact h.setFch.setDie.setMedia (by rfl)
  · exact h.setFch.setDie.unfitDie

theorem State.Canon.ceTrained {ch : Fin 64} {ce : Fin 4} {r : CeTraining} {rate eye : Nat} :
    State.Canon (s.ceTrained ch ce r rate eye) := by
  unfold State.ceTrained
  extract_lets s1 f low was s2
  split
  · exact h.setFch.setFch.log
  · exact h.setFch.setFch

theorem State.Canon.trainOutcome {ch : Fin 64} {ce : Fin 4} {r : CeTraining} {pins : List PinFault} :
    State.Canon (s.trainOutcome ch ce r pins) := by
  unfold State.trainOutcome
  split
  · exact h.ceTrained
  · exact h.setFch.pinCheck

theorem State.Canon.ceRetrained {ch : Fin 64} {ce : Fin 4} {r : CeTraining} {pins : List PinFault} :
    State.Canon (s.ceRetrained ch ce r pins) := by
  unfold State.ceRetrained
  extract_lets eye s1 s2
  exact h.setFch.log.trainOutcome.setFch.pumpChannel

theorem State.Canon.ceTraining {ch : Fin 64} {ce : Fin 4} {r : CeTraining} {pins : List PinFault} :
    State.Canon (s.ceTraining ch ce r pins) := by
  unfold State.ceTraining
  extract_lets f s1 s2 here s3 s4
  split
  · exact h
  split
  · exact h.ceRetrained
  split
  · exact h
  have hs2 : State.Canon s2 := by
    unfold s2
    split
    · exact h.setFch
    · exact h.setFch.pinCheck
  split
  · exact hs2
  split
  · exact hs2
  have hs3 : State.Canon s3 := hs2.foldl (fun _ _ hu => hu.checkDie)
  split
  · exact hs3.emits.trainOutcome
  · exact hs3.emits

theorem State.Canon.polled {d : Nat} : State.Canon (s.polled d) := h.busPast.emit

theorem State.Canon.returnErases {d : Nat} : State.Canon (s.returnErases d) := by
  unfold State.returnErases
  split
  · exact h
  · exact h.foldl (fun _ _ hu => hu.queueErase)

theorem State.Canon.dieReturns {d : Nat} : State.Canon (s.dieReturns d) := by
  unfold State.dieReturns
  extract_lets
  split
  · exact h
  · exact h.setFch.setDie.log.recompute

theorem State.Canon.erasedBack {d : Nat} : State.Canon (s.erasedBack d) := by
  unfold State.erasedBack
  extract_lets
  split
  · exact h
  split
  · exact h.setDie
  · exact h.dieReturns

theorem State.Canon.pollTimeout {d : Nat} {pins : List PinFault} : State.Canon (s.pollTimeout d pins) := by
  unfold State.pollTimeout
  split
  · exact h
  extract_lets ch now near two s1 n s2
  have hs2 : State.Canon s2 := by
    unfold s2
    split
    · exact h.polled.setFch.dieFails
    · exact h.polled.setFch.setDie.transfer
  split
  · exact hs2.pinCheck
  · exact hs2

theorem State.Canon.nandData {rid : Nat} {sig : ReadSignals} : State.Canon (s.nandData rid sig) := by
  unfold State.nandData
  split
  · exact h
  extract_lets lost s1
  split
  · exact h.readData.probesGo.dataFailed
  · exact h.readData.probesGo

theorem State.Canon.dieSuspended {d : Nat} : State.Canon (s.dieSuspended d) := by
  unfold State.dieSuspended
  split
  · exact h
  extract_lets s1 op s2 s3
  exact h.polled.readWaited.setDie.setFch.pump.pumpChannel

theorem State.Canon.windowPassed {d : Nat} : State.Canon (s.windowPassed d) := h.setDie.pump

theorem State.Canon.runReached {d : Nat} : State.Canon (s.runReached d) := h.setDie.pump

theorem State.Canon.waitLimit {d : Nat} {erase : Bool} : State.Canon (s.waitLimit d erase) := by
  unfold State.waitLimit
  extract_lets
  split
  · exact h.setDie.pump
  · exact h

/-! ### Checkpoints, wear and pounces (R193 to R216) -/

theorem State.Canon.triggerStripe {sid trig : Nat} : State.Canon (s.triggerStripe sid trig) := by
  unfold State.triggerStripe
  split
  · split
    · split
      · exact h.trigger
      · exact h
    · exact h
  · exact h

theorem State.Canon.scanFindings {fs : List ScanFinding} : State.Canon (s.scanFindings fs) := by
  unfold State.scanFindings
  refine h.foldl (fun s f hu => ?_)
  split
  · split
    · exact hu.triggerStripe
    · exact hu
  · exact hu

theorem State.Canon.pounceFinish {id : Nat} : State.Canon (s.pounceFinish id) := by
  unfold State.pounceFinish
  split
  · exact h
  split
  · exact h
  extract_lets s'
  refine .settleStripes ?_
  split
  · exact (h.setMedia (by rfl)).log
  · exact h.setMedia (by rfl)

theorem State.Canon.pounceAged {id : Nat} : State.Canon (s.pounceAged id) := by
  unfold State.pounceAged
  split
  · exact h
  split
  · exact h
  · exact (h.setMedia (by rfl)).startPounce

theorem State.Canon.closeHandle {handle kind : Nat} : State.Canon (s.closeHandle handle kind) := by
  unfold State.closeHandle
  split
  · exact h
  extract_lets s1
  split
  · exact h.closeStripe.setMedia (by rfl)
  · exact h.closeStripe

end

end Sys2Proof.Machine
end

section
/-! The flush, the host commands, the ports and the system DMA keep the canonical form (R236 to R245, R258 to R270, R292, R343). -/

namespace Sys2Proof.Machine

open Sys2Proof

section
variable {s : State} (h : State.Canon s)
include h

/-! ### The hold-up bank and the flush (R236 to R245) -/

theorem State.Canon.startCharge : State.Canon s.startCharge := h.setPlp.recompute.keeps (State.gates_changes ..) rfl

theorem State.Canon.chargeEnable : State.Canon s.chargeEnable := by
  unfold State.chargeEnable
  split
  · exact h
  extract_lets s1
  split
  · exact h.setPlp
  · exact h.setPlp.startCharge

theorem State.Canon.startTest : State.Canon s.startTest := by
  unfold State.startTest
  extract_lets s1
  exact h.setPlp.recompute.setPlp.keeps (State.gates_changes ..) rfl

theorem State.Canon.tryTest : State.Canon s.tryTest := by
  unfold State.tryTest
  split
  · exact h.startTest
  · exact h

theorem State.Canon.fullCharge : State.Canon s.fullCharge := by
  unfold State.fullCharge
  split
  · exact h
  extract_lets was s1 s2
  have hs2 : State.Canon s2 := by
    unfold s2
    split
    · exact h.setPlp.log
    · exact h.setPlp
  refine .resumeAll ?_
  split
  · exact hs2.startTest
  · exact hs2.recompute.keeps (State.gates_changes ..) rfl

theorem State.Canon.writeImage : State.Canon s.writeImage := by
  unfold State.writeImage
  extract_lets st img src s1
  exact ((h.same (by rfl)).setMedia (by rfl)).checkWear

theorem State.Canon.drain : State.Canon s.drain := by
  unfold State.drain
  extract_lets s1
  refine h.dispatchAll.foldl (fun s e hu => ?_)
  split
  · exact hu.ensureFinal
  · exact hu.closeEarly

theorem State.Canon.bankFault {k : BankFaultKind} {pins : BankPins} : State.Canon (s.bankFault k pins) := by
  unfold State.bankFault
  split
  · exact h
  extract_lets before s1 s2
  exact (h.setPlp.log.recompute.keeps (State.gates_changes ..) rfl).writeImage.drain

theorem State.Canon.bankFaultClear {k : BankFaultKind} : State.Canon (s.bankFaultClear k) := by
  unfold State.bankFaultClear
  split
  · exact h
  extract_lets s1 s2
  split
  · exact h.setPlp.log.startCharge
  · exact h.setPlp.log

theorem State.Canon.judgeTest {m : BankMeas} : State.Canon (s.judgeTest m) := by
  unfold State.judgeTest
  extract_lets prev cInit why s1 s2
  have hs1 : State.Canon s1 := h.setPlp.recompute
  have hs2 : State.Canon s2 := by
    unfold s2
    clear_value why
    split
    · exact hs1.log
    · exact hs1.log
  clear_value prev
  split
  · split
    · exact hs2.log
    · exact hs2
  · exact hs2

theorem State.Canon.bankTestEnd {m : BankMeas} : State.Canon (s.bankTestEnd m) := by
  unfold State.bankTestEnd
  split
  · exact h
  extract_lets s1 s2 s3
  have hs3 : State.Canon s3 := by
    unfold s3
    have hs2 : State.Canon s2 := h.setPlp.keeps (State.gates_changes ..) rfl
    split
    · exact hs2.recompute
    · exact hs2.judgeTest
  refine .resumeAll ?_
  split
  · exact hs3.bankFault
  · exact hs3

theorem State.Canon.resetLun {d : Nat} : State.Canon (s.resetLun d) := h.busDrop.setDie.transfer

theorem State.Canon.stopForFlush : State.Canon s.stopForFlush := by
  unfold State.stopForFlush
  extract_lets s1 copyRow keep erasing die src src1 s2 s3
  have hs1 : State.Canon s1 := h.dropLines
  have hs2 : State.Canon s2 := State.Canon.same (hs1.setLocks (q := { s1.cmq with cmds := [], locks := [], stalled := false }) rfl) (by rfl)
  exact (hs2.setRows (AMap.wf_filter _ _ hs2.rows)).foldl (fun _ _ hu => hu.resetLun)

theorem State.Canon.flushBody : State.Canon s.flushBody := by
  unfold State.flushBody
  split
  · exact h.stopForFlush
  extract_lets s1 src s2
  have hs1 : State.Canon s1 := h.stopForFlush.writeImage.drain
  have hs2 : State.Canon s2 := hs1.setPmr (Pmr.all_ok hs1.pmr (Pmr.saved_ok _)) rfl
  exact hs2.foldl (fun _ _ hu => hu.pump)

theorem State.Canon.powerFail : State.Canon s.powerFail := by
  unfold State.powerFail
  extract_lets s1 src s2 s3
  have hs1 : State.Canon s1 := h.setPlp.keeps (State.gates_changes ..) rfl
  have hs3 : State.Canon s3 := (hs1.same (by rfl)).log
  exact (hs3.same (by rfl)).flushBody

theorem State.Canon.powerFails {src : PfSource} : State.Canon (s.powerFails src) := by
  unfold State.powerFails
  split
  · exact h
  · exact h
  · split
    · exact h
    · exact h.setPlp
  · exact h.setPlp
  · split
    · exact h.powerFail
    · exact h
  · split
    · exact h.powerFail
    · exact h
  · split
    · exact h.powerFail
    · exact h
  extract_lets s1
  have hs1 : State.Canon s1 := h.keeps (State.leftBehind_changes ..) rfl
  exact hs1.same (by rfl)

theorem State.Canon.mark {us : Nat} : State.Canon (s.mark us) := by
  unfold State.mark
  extract_lets s1
  have hs1 : State.Canon s1 := (h.setMedia (by rfl)).checkWear.keeps (State.persist_changes ..) rfl
  split
  · exact hs1
  · exact hs1.setPlp

/-! ### Queues and locks (R258 to R270) -/

theorem State.Canon.operationalAll : State.Canon s.operationalAll := by
  unfold State.operationalAll
  extract_lets src s1
  exact (h.same (by rfl)).setPws

theorem State.Canon.pumpAll : State.Canon s.pumpAll := h.foldl (fun _ _ hu => hu.pump)

theorem State.Canon.leavePs3 : State.Canon s.leavePs3 := by
  unfold State.leavePs3
  split
  · exact h
  extract_lets src src1 s1
  have hpmr : ∀ p : Fin 2, (s.land.pmr.all (fun r => if r.mib = 0 then r else r.restore))[p].memOk = true :=
    Pmr.all_ok h.pmr Pmr.restored_ok
  have hs1 : State.Canon s1 := ⟨h.locks, h.bst, h.opal, h.sdm, hpmr, h.lines, h.rows⟩
  exact (hs1.foldl (fun _ _ hu => hu.failStripe)).operationalAll.settlePmr.pumpAll

theorem State.Canon.abandonEntry {domain reason : Nat} : State.Canon (s.abandonEntry domain reason) := by
  unfold State.abandonEntry
  split
  · exact h
  extract_lets s1
  refine .pumpAll (.log ?_)
  split
  · exact h.setPws.leavePs3
  · exact h.setPws.operationalAll

theorem State.Canon.arrive : State.Canon s.arrive := h.abandonEntry.leavePs3

theorem State.Canon.latched {p : Fin 2} {k v : Nat} : State.Canon (s.latched p k v) := by
  unfold State.latched
  extract_lets s1
  split
  · exact h.setCtrl.setPort
  · exact h.setCtrl

theorem State.Canon.tailTo {p : Fin 2} {qid tail : Nat} : State.Canon (s.tailTo p qid tail) := by
  unfold State.tailTo
  split
  · split
    · exact h.setCtrl
    · exact h
  · exact h

theorem State.Canon.headTo {p : Fin 2} {qid head : Nat} : State.Canon (s.headTo p qid head) := by
  unfold State.headTo
  split
  · extract_lets d s1
    split
    · exact h
    · exact h.setCtrl.foldl (fun _ _ hu => hu.post)
  · exact h

theorem State.Canon.sqDoorbell {p : Fin 2} {qid tail : Nat} : State.Canon (s.sqDoorbell p qid tail) := by
  unfold State.sqDoorbell
  split
  · exact h.latched
  split
  · exact h
  split
  · exact h.latched
  · exact h.arrive.tailTo

theorem State.Canon.cqDoorbell {p : Fin 2} {qid head : Nat} : State.Canon (s.cqDoorbell p qid head) := by
  unfold State.cqDoorbell
  split
  · exact h.latched
  split
  · exact h
  split
  · exact h.latched
  · exact h.headTo

theorem State.Canon.useLatched {p : Fin 2} : State.Canon (s.useLatched p) := by
  unfold State.useLatched
  extract_lets ls s1
  refine h.setCtrl.foldl (fun s e hu => ?_)
  split
  · exact hu.tailTo
  · exact hu.headTo

theorem State.Canon.takeIn {p : Fin 2} {qid cid : Nat} {cmd : HostCmd} : State.Canon (s.takeIn p qid cid cmd) := by
  unfold State.takeIn
  extract_lets f c conflict ls src s1
  have hs1 : State.Canon s1 := h.setLocks (Cmq.settle_regranted _)
  split
  · exact hs1.complete
  · exact hs1

theorem State.Canon.fetch {p : Fin 2} {cid : Nat} {cmd : HostCmd} : State.Canon (s.fetch p cid cmd) := by
  unfold State.fetch
  split
  · exact h
  extract_lets
  split
  · split
    · exact h.setCtrl.takeIn
    · exact h
  split
  · exact h
  split
  · exact h.setCtrl.takeIn
  · exact h

theorem State.Canon.onAdmin {fseq opc : Nat} {f : Cmd → State → State} (hf : ∀ x0 u, State.Canon u → State.Canon (f x0 u)) :
    State.Canon (s.onAdmin fseq opc f) := by
  unfold State.onAdmin
  split
  · exact h
  split
  · split
    · split
      · exact hf _ _ h
      · exact h
    · exact h
  · exact h

theorem State.Canon.createCq {c : Cmd} {fseq qid size vector : Nat} {contig inCmb : Bool} :
    State.Canon (s.createCq c fseq qid size vector contig inCmb) := by
  unfold State.createCq
  extract_lets
  split
  · exact h.complete
  split
  · exact h.complete
  split
  · exact h.complete
  split
  · exact h.complete
  split
  · exact h.complete
  · exact h.setCtrl.complete

theorem State.Canon.createSq {c : Cmd} {fseq qid size cqid : Nat} {prio : Fin 4} {contig inCmb : Bool} :
    State.Canon (s.createSq c fseq qid size cqid prio contig inCmb) := by
  unfold State.createSq
  extract_lets
  split
  · exact h.complete
  split
  · exact h.complete
  split
  · exact h.complete
  split
  · exact h.complete
  split
  · exact h.complete
  · exact h.setCtrl.complete

theorem State.Canon.endQueue {p : Fin 2} {qid : Nat} : State.Canon (s.endQueue p qid) := h.foldl (fun _ _ hu => hu.quit)

theorem State.Canon.deleteSq {c : Cmd} {fseq qid : Nat} : State.Canon (s.deleteSq c fseq qid) := by
  unfold State.deleteSq
  split
  · exact h.complete
  · exact h.endQueue.setCtrl.complete

theorem State.Canon.deleteCq {c : Cmd} {fseq qid : Nat} : State.Canon (s.deleteCq c fseq qid) := by
  unfold State.deleteCq
  extract_lets
  split
  · exact h.complete
  split
  · exact h.complete
  · exact h.setCtrl.complete

/-! ### Admin commands -/

theorem State.Canon.wipeNs {ns : Nat} : State.Canon (s.wipeNs ns) := by
  unfold State.wipeNs
  exact (h.discard.setRows (Media.wipe_wf h.discard.rows _)).checkWear.settleStripes.resumeAll

theorem State.Canon.newKey {slot : Fin 64} : State.Canon (s.newKey slot) := by
  unfold State.newKey
  extract_lets
  exact (h.same (by rfl)).freeLines

theorem State.Canon.getLog {c : Cmd} {fseq lid : Nat} : State.Canon (s.getLog c fseq lid) := by
  unfold State.getLog
  split
  · exact h.complete
  extract_lets s1 s2
  have hs2 : State.Canon s2 := by
    unfold s2
    split
    · exact h.emit.setCtrl
    · exact h.emit
  exact hs2.complete

theorem State.Canon.identify {c : Cmd} {fseq cns nsid : Nat} : State.Canon (s.identify c fseq cns nsid) := by
  unfold State.identify
  extract_lets ok ns
  have hok (v : List Nat) : State.Canon (ok v) := h.emit.complete
  have hns (v : Namespace → List Nat) (all : Bool) : State.Canon (ns v all) := by
    unfold ns
    split
    · exact h.complete
    split
    · exact hok _
    · exact hok _
  split
  · exact hns _ _
  · exact hok _
  · exact hok _
  · exact hns _ _
  · exact hns _ _
  · exact hok _
  · exact hns _ _
  · exact hok _
  · exact hns _ _
  · exact hns _ _
  · exact hok _
  · exact hok _
  · exact h.complete

theorem State.Canon.abort {c : Cmd} {fseq sqid cid : Nat} : State.Canon (s.abort c fseq sqid cid) := by
  unfold State.abort
  split
  · split
    · exact h.quit.complete
    · exact h.complete
  · exact h.complete

theorem State.Canon.getFeatures {c : Cmd} {fseq fid sel : Nat} : State.Canon (s.getFeatures c fseq fid sel) := by
  unfold State.getFeatures
  extract_lets
  split
  · exact h.complete
  split
  · exact h.complete
  split
  · exact h.complete
  · exact h.emit.complete

theorem State.Canon.setFeat {c : Cmd} {fseq : Nat} {save : Bool} {f : Features → Features} {dw0 : Nat} :
    State.Canon (s.setFeat c fseq save f dw0) := h.setCtrl.complete

theorem State.Canon.beginEntry {target : Nat} {apst : Bool} {p : Fin 2} :
    State.Canon (s.beginEntry target apst p) := h.setPws.dispatchAll.copiesGo

theorem State.Canon.followPs {apst : Bool} {p : Fin 2} : State.Canon (s.followPs apst p) := by
  unfold State.followPs
  extract_lets
  split
  · exact h.setPws.tryTest
  split
  · exact h
  · exact h.beginEntry

theorem State.Canon.nsChanged {p : Fin 2} {nsid : Nat} : State.Canon (s.nsChanged p nsid) := by
  unfold State.nsChanged
  extract_lets s1
  split
  · split
    · exact h.setCtrl.setCtrl.complete
    · exact h.setCtrl
  · exact h.setCtrl

theorem State.Canon.invalidAdmin {fseq : Nat} : State.Canon (s.invalidAdmin fseq) := by
  unfold State.invalidAdmin
  split
  · split
    · split
      · exact h
      · exact h.complete
    · exact h
  · exact h

theorem State.Canon.deleteNs {i : Nat} : State.Canon (s.deleteNs i) := by
  unfold State.deleteNs
  split
  · exact h
  extract_lets s1 s2 s3
  have hs2 : State.Canon s2 := h.wipeNs.setMedia (by rfl)
  clear_value s2
  exact (hs2.same (by rfl)).foldl (fun _ _ hu => hu.nsChanged)

theorem State.Canon.nsManage {fseq : Nat} {a : NsMgmt} : State.Canon (s.nsManage fseq a) := by
  unfold State.nsManage
  split
  · split
    · exact h.complete
    split
    · exact h.complete
    · exact (h.setMedia (by rfl)).complete
  split
  · exact (h.foldl (fun _ _ hu => hu.deleteNs)).complete
  split
  · exact h.complete
  · exact h.deleteNs.complete

theorem State.Canon.nsAttach {fseq : Nat} {attach : Bool} {nsid : Nat} {ctrls : List (Fin 2)} :
    State.Canon (s.nsAttach fseq attach nsid ctrls) := by
  unfold State.nsAttach
  split
  · exact h.complete
  split
  · exact h.complete
  split
  · exact h.complete
  split
  · exact h.complete
  extract_lets s1
  exact (h.setNs.foldl (fun _ _ hu => hu.nsChanged)).complete

theorem State.Canon.formatNs {i ses : Nat} {lba512 : Bool} : State.Canon (s.formatNs i ses lba512) := by
  unfold State.formatNs
  extract_lets s1 s2
  split
  · split
    · exact h.wipeNs.setNs
    · exact h.wipeNs.setNs.foldl (fun _ _ hu => hu.newKey)
  · exact h.wipeNs.setNs

theorem State.Canon.format {fseq nsid ses : Nat} {lba512 : Bool} : State.Canon (s.format fseq nsid ses lba512) := by
  unfold State.format
  extract_lets
  split
  · exact h.complete
  split
  · exact h.complete
  split
  · exact h.complete
  split
  · exact h.complete
  · exact ((h.foldl (fun _ _ hu => hu.formatNs)).setMedia (by rfl)).complete

theorem State.Canon.sanitize {fseq action : Nat} : State.Canon (s.sanitize fseq action) := by
  unfold State.sanitize
  split
  · exact h.complete
  split
  · exact h.complete
  split
  · exact h.complete
  extract_lets s1 s2 s3
  have hs2 : State.Canon s2 := (h.foldl (fun _ _ hu => hu.wipeNs)).foldl (fun _ _ hu => hu.newKey)
  clear_value s2
  have hs3 : State.Canon s3 := hs2.setMedia (by rfl)
  exact (hs3.same (by rfl)).complete

/-! ### I/O commands -/

theorem State.Canon.onIo {fseq : Nat} {f : Cmd → State → State} (hf : ∀ x0 u, State.Canon u → State.Canon (f x0 u)) :
    State.Canon (s.onIo fseq f) := by
  unfold State.onIo
  split
  · exact h
  split
  · split
    · exact hf _ _ h
    · exact h
  · exact h

theorem State.Canon.flushLines {fseq : Nat} {ls : List Nat} : State.Canon (s.flushLines fseq ls) := by
  unfold State.flushLines
  split
  · exact h.complete
  extract_lets s1
  refine h.setCmd.dispatchAll.foldl (fun s e hu => ?_)
  split
  · exact hu.ensureFinal
  · exact hu.closeEarly

theorem State.Canon.flushCmd {c : Cmd} {fseq : Nat} {nsid : Option Nat} : State.Canon (s.flushCmd c fseq nsid) := by
  unfold State.flushCmd
  extract_lets
  split
  · split
    · exact h.flushLines
    · exact h.complete
  · exact h.flushLines

theorem State.Canon.onResv {fseq opc : Nat} {f : Cmd → Nat → Namespace → State → State} (hf : ∀ x0 x1 x2 u, State.Canon u → State.Canon (f x0 x1 x2 u)) :
    State.Canon (s.onResv fseq opc f) := by
  unfold State.onResv
  refine h.onIo (fun c s hu => ?_)
  split
  · split
    · exact hu
    split
    · exact hf _ _ _ _ hu
    · exact hu.complete
  · exact hu

theorem State.Canon.setResv {fseq i : Nat} {a : Option Reservation} : State.Canon (s.setResv fseq i a) := by
  unfold State.setResv
  split
  · exact h.setNs.complete
  · exact h.complete

theorem State.Canon.onZone {fseq : Nat} {want : ZoneAct} : State.Canon (s.onZone fseq want) := by
  unfold State.onZone
  refine h.onIo (fun c s hu => ?_)
  split
  · split
    · exact hu.zoneSend
    · exact hu
  · exact hu

/-! ### DRAM -/

theorem State.Canon.loseChannel {c : Fin 16} : State.Canon (s.loseChannel c) := by
  unfold State.loseChannel
  extract_lets mine rows sids keys lost s1 s2
  exact (h.setRows (AMap.wf_map h.rows _ (by intro; rfl))).freeLines.foldl (fun _ _ hu => hu.failStripe)

theorem State.Canon.channelFails {c : Fin 16} {reason : Nat} : State.Canon (s.channelFails c reason) := by
  unfold State.channelFails
  split
  · exact h
  extract_lets s1
  exact ((h.keeps (State.setDch_changes ..) rfl).keeps (State.outage_changes ..) rfl).loseChannel.drain.fatal

theorem State.Canon.ueCommand {fseq : Nat} : State.Canon (s.ueCommand fseq) := h.quit.resumeAll

theorem State.Canon.ueLine {n : Nat} : State.Canon (s.ueLine n) := by
  unfold State.ueLine
  split
  · exact h
  split
  · exact h
  extract_lets s1 owners s2 s3
  have hs1 : State.Canon s1 := by
    unfold s1
    split
    · exact h
    · exact h.setMedia (by rfl)
  refine .resumeAll ?_
  have hs2 : State.Canon s2 := hs1.foldl (fun _ _ hu => hu.quit)
  split
  · exact hs2.dropLines.closeIfDue
  · exact hs2.dropLines

theorem State.Canon.ueAct {a : UeWhere} : State.Canon (s.ueAct a) := by
  unfold State.ueAct
  split
  · split
    · split
      · exact h.contain
      · exact h.ueCommand
    · exact h
  · split
    · split
      · exact h.ueCommand
      · exact h
    · exact h
  · exact h.ueLine
  · extract_lets
    split
    · exact h
    · exact h.setMedia (by rfl)
  · exact h
  · exact h.setMedia (by rfl)

theorem State.Canon.raiseReads : State.Canon s.raiseReads := by
  unfold State.raiseReads
  extract_lets
  exact h.setMedia (by rfl)

theorem State.Canon.dramUe {c : Fin 16} {k : Fin 12} {w : UeWhere} {addr : Nat} : State.Canon (s.dramUe c k w addr) := by
  unfold State.dramUe
  extract_lets now ats s1 s2 s3 s4
  have hs1 : State.Canon s1 := (h.keeps (State.setDch_changes ..) rfl).setDram
  have hs4 : State.Canon s4 := by
    unfold s4
    split
    · exact hs1.log.ueAct.raiseReads
    · exact hs1.log.ueAct
  split
  · exact hs4.channelFails
  · exact hs4

theorem State.Canon.sweepFails {c : Fin 16} : State.Canon (s.sweepFails c) := by
  unfold State.sweepFails
  extract_lets r s1
  have hs1 : State.Canon s1 := h.keeps (State.setDch_changes ..) rfl
  split
  · exact hs1.channelFails
  · exact (hs1.keeps (State.setDch_changes ..) rfl).logs

theorem State.Canon.runPause {c : Fin 16} {p : PauseResult} : State.Canon (s.runPause c p) := by
  unfold State.runPause
  extract_lets
  split
  · exact h.keeps (State.setDch_changes ..) rfl
  · exact h.keeps (State.setDch_changes ..) rfl
  · exact h.keeps (State.setDch_changes ..) rfl
  split
  · exact h.sweepFails
  · exact h.keeps (State.setDch_changes ..) rfl

theorem State.Canon.arbRound {c : Fin 16} {raised : List (Fin 12 × DramTxn)} {pause : Option PauseResult} {fixed : Nat} :
    State.Canon (s.arbRound c raised pause fixed) := by
  unfold State.arbRound
  split
  · exact h
  extract_lets s1 s2
  have hs1 : State.Canon s1 := (h.keeps (State.setDch_changes ..) rfl).keeps (State.corrected_changes ..) rfl
  split
  · exact (hs1.keeps (State.setDch_changes ..) rfl).emit.runPause
  split
  · exact hs1.keeps (State.debugRest_changes ..) rfl
  · exact hs1.keeps (State.roundGrant_changes ..) rfl

theorem State.Canon.trainingFails {c : Fin 16} : State.Canon (s.trainingFails c) := by
  unfold State.trainingFails
  extract_lets s1 s2
  have hs1 : State.Canon s1 := h.keeps (State.setDch_changes ..) rfl
  split
  · exact hs1
  have hs2 : State.Canon s2 := by
    unfold s2
    split
    · exact hs1
    · exact hs1.keeps (State.outage_changes ..) rfl
  split
  · exact hs2.fatal
  · exact hs2.setDram.log

theorem State.Canon.dramTrained {c : Fin 16} {r : DramTraining} : State.Canon (s.dramTrained c r) := by
  unfold State.dramTrained
  split
  · exact h
  split
  · exact h.trainingFails
  extract_lets s1 s2
  have hs1 : State.Canon s1 := h.keeps (State.setDch_changes ..) rfl
  have hs2 : State.Canon s2 := by
    unfold s2
    split
    · exact hs1
    · exact hs1.keeps (State.returned_changes ..) rfl
  split
  · exact hs2
  · exact hs2.log

/-! ### The windows of a port (R292) -/

theorem State.Canon.hostBar4 {p : Fin 2} {content : Nat} {isWrite : Bool} {f : State → State} (hf : ∀ u, State.Canon u → State.Canon (f u)) :
    State.Canon (s.hostBar4 p content isWrite f) := by
  unfold State.hostBar4
  split
  · exact h
  split
  · exact h.keeps (State.barAnswer_changes ..) rfl
  split
  · exact hf _ h
  · exact h.keeps (State.unmapped_changes ..) rfl

theorem State.Canon.pmrWrite {p : Fin 2} {offset : Nat} {bs : List Byte} : State.Canon (s.pmrWrite p offset bs) := by
  unfold State.pmrWrite
  extract_lets
  split
  · exact h.keeps (State.crosses_changes ..) rfl
  split
  · exact h.keeps (State.unmapped_changes ..) rfl
  · split
    · exact h.keeps (State.pmrNotReady_changes ..) rfl
    · exact h.setPmr (Pmr.upd_ok h.pmr p (Pmr.write_ok (h.pmr p) _ _)) rfl
  · exact h.keeps (State.pmrNotReady_changes ..) rfl
  · exact h

theorem State.Canon.slotWrite {p : Fin 2} {k : Nat} {sec : Fin 8} {x : Sector} : State.Canon (s.slotWrite p k sec x) := by
  unfold State.slotWrite
  extract_lets c old s1
  split
  · exact (h.keeps (State.barAnswer_changes ..) rfl).log
  have hs1 : State.Canon s1 := by
    unfold s1
    split
    · exact h
    · exact h.same (by rfl)
  exact hs1.same (by rfl)

theorem State.Canon.trip {p : Fin 2} {trig : Fin 8} : State.Canon (s.trip p trig) := by
  unfold State.trip
  extract_lets was s1
  split
  · exact h.contain.resumeAll
  · exact h.contain

theorem State.Canon.hostReadFails {p : Fin 2} {fseq : Nat} {trig : Fin 8} : State.Canon (s.hostReadFails p fseq trig) := by
  unfold State.hostReadFails
  split
  · exact h
  split
  · exact h.trip
  split
  · split
    · exact h.quit.resumeAll
    · exact h
  · exact h

theorem State.Canon.ideFails {p : Fin 2} : State.Canon (s.ideFails p) := by
  unfold State.ideFails
  split
  · exact h
  · exact h.setPort.log.trip

/-! ### The system DMA (R343) -/

theorem State.Canon.holdShares : State.Canon s.holdShares := h.foldl (fun _ _ hu => hu.setSdc)

theorem State.Canon.cmbWrite {p : Fin 2} {x : Nat} {bs : List Byte} : State.Canon (s.cmbWrite p x bs) := by
  unfold State.cmbWrite
  extract_lets
  exact h.same (by rfl)

theorem State.Canon.pmrPut {p : Fin 2} {x : Nat} {bs : List Byte} : State.Canon (s.pmrPut p x bs) := by
  exact h.setPmr (Pmr.upd_ok h.pmr p (Pmr.write_ok (h.pmr p) _ _)) rfl

theorem State.Canon.lineWrite {n o : Nat} {bs : List Byte} : State.Canon (s.lineWrite n o bs) := by
  unfold State.lineWrite
  split
  · refine h.setLines rfl ?_
    dsimp only
    exact AMap.wf_mod h.lines _ _
  split
  · exact h.cmbWrite
  · exact h.cmbWrite
  split
  · exact h.pmrPut
  split
  · exact h.pmrPut
  · exact h.setSdm (memWf_memWrite _ _ _ _ h.sdm)

theorem State.Canon.memPut {a : Nat} {bs : List Byte} {fuel : Nat} : State.Canon (s.memPut a bs fuel) := by
  induction fuel generalizing s a bs with
  | zero => exact h
  | succ fuel ih =>
    unfold State.memPut
    split
    · exact h
    extract_lets
    split
    · exact h.setSdm (memWf_memWrite _ _ _ _ h.sdm)
    · exact ih h.lineWrite

theorem State.Canon.sdmWrite {ch : Fin 16} {sp : BitVec 2} {a : Nat} {bs : List Byte} :
    State.Canon (s.sdmWrite ch sp a bs) := by
  unfold State.sdmWrite
  split
  · exact h.memPut
  split
  · exact h.emit
  split
  · exact h.emit
  extract_lets
  split
  · exact h.pmrPut
  · exact h.cmbWrite

theorem State.Canon.writeBackDesc {ch : Fin 16} {d : Desc} {code count result : Nat} :
    State.Canon (s.writeBackDesc ch d code count result) := by
  unfold State.writeBackDesc
  extract_lets
  split
  · exact h.sdmWrite
  · exact h

theorem State.Canon.sdmEnd {ch : Fin 16} {d : Desc} {code count result : Nat} :
    State.Canon (s.sdmEnd ch d code count result) := by
  unfold State.sdmEnd
  extract_lets s1 c rise s2 s3 src rise1 s4
  split
  · have hs3 : State.Canon s3 := by
      unfold s3
      split
      · exact h.writeBackDesc.setSdc.keeps (State.sdmMessage_changes ..) rfl
      · exact h.writeBackDesc.setSdc
    split
    · exact (hs3.same (by rfl)).log
    · exact hs3
  split
  · exact h.writeBackDesc.setSdc.keeps (State.sdmMessage_changes ..) rfl
  · exact h.writeBackDesc.setSdc

theorem State.Canon.sdmRead {ch : Fin 16} {d : Desc} : State.Canon (s.sdmRead ch d) := by
  unfold State.sdmRead
  split
  · exact h.setSdc
  split
  · exact h.sdmEnd
  · exact h.setSdc

theorem State.Canon.sdmRun {ch : Fin 16} {d : Desc} : State.Canon (s.sdmRun ch d) := by
  unfold State.sdmRun
  extract_lets
  split
  · exact h
  split
  · exact h.sdmRead
  · split
    · exact h
    · exact h.setSdc.sdmRead
  · exact h

theorem State.Canon.sdmStop {ch : Fin 16} : State.Canon (s.sdmStop ch) := by
  unfold State.sdmStop
  extract_lets
  split
  · exact h.sdmEnd
  · exact h.setSdc
  · exact h

theorem State.Canon.onDesc {ch : Fin 16} {op : BitVec 2} {f : Desc → State → State} (hf : ∀ x0 u, State.Canon u → State.Canon (f x0 u)) :
    State.Canon (s.onDesc ch op f) := by
  unfold State.onDesc
  extract_lets
  split
  · split
    · split
      · exact h.sdmEnd
      split
      · exact h
      · exact hf _ _ h
    · exact h
  · exact h

theorem State.Canon.sdmBeats {ch : Fin 16} {d : Desc} {bs : List Byte} :
    State.Canon (s.sdmBeats ch d bs) := h.sdmWrite.setSdc

theorem State.Canon.sdmCompare {ch : Fin 16} {d : Desc} {a b : List Byte} : State.Canon (s.sdmCompare ch d a b) := by
  unfold State.sdmCompare
  split
  · exact h.sdmEnd
  · exact (h.same (by rfl)).sdmEnd

theorem State.Canon.sdmAck {ch : Fin 16} : State.Canon (s.sdmAck ch) := by
  unfold State.sdmAck
  extract_lets c s1
  split
  · split
    · exact h
    split
    · exact h.sdmEnd
    split
    · extract_lets
      exact h.setSdc.emit
    split
    · exact h.setSdc.emit
    · exact h.setSdc.emits
  · exact h

theorem State.Canon.sdmReturned {ch : Fin 16} {ok : Bool} {next : Desc} : State.Canon (s.sdmReturned ch ok next) := by
  unfold State.sdmReturned
  extract_lets
  split
  · split
    · split
      · exact h.sdmEnd
      split
      · exact h.sdmEnd.sdmRead
      · exact h.sdmEnd
    · exact h
  · exact h

theorem State.Canon.sdmBeatError {ch : Fin 16} {isWrite : Bool} {notIssued : Nat} :
    State.Canon (s.sdmBeatError ch isWrite notIssued) := by
  unfold State.sdmBeatError
  extract_lets
  split
  · extract_lets
    split
    · exact h
    split
    · split
      · exact h
      · exact (h.same (by rfl)).sdmWrite.sdmEnd
    split
    · exact h
    split
    · exact h.sdmEnd
    · exact (h.same (by rfl)).sdmWrite.sdmEnd
  · exact h

end

end Sys2Proof.Machine
end

section
/-! Keys, the boot store, the dictionary and the firmware keep the canonical form (R361, R372, R392, R427, R475). -/

namespace Sys2Proof.Machine

open Sys2Proof

section
variable {s : State} (h : State.Canon s)
include h

/-! ### The key vault -/

theorem State.Canon.pageAccess {pg : Fin 16} {ini : Initiator} {isWrite : Bool} {f : State → State} (hf : ∀ u, State.Canon u → State.Canon (f u)) :
    State.Canon (s.pageAccess pg ini isWrite f) := by
  unfold State.pageAccess
  split
  · refine h.hostBar4 (fun s hu => ?_)
    split
    · exact hf _ hu
    · exact hu.keeps (State.refuse_changes ..) rfl
  split
  · exact hf _ h
  · exact h.keeps (State.refuse_changes ..) rfl

theorem State.Canon.onPage {pg : Fin 16} {ini : Initiator} {f : State → State} (hf : ∀ u, State.Canon u → State.Canon (f u)) :
    State.Canon (s.onPage pg ini f) := h.pageAccess (fun _ hu => hf _ hu)

theorem State.Canon.tamper {alarm : Fin 5} {value : ℤ} : State.Canon (s.tamper alarm value) := by
  unfold State.tamper
  extract_lets src s1 s2 s3 s4 s5
  have hs5 : State.Canon s5 := (h.same (by rfl)).eraseKeys.log.log.foldl (fun _ _ hu => hu.contain)
  split
  · exact hs5.resumeAll
  · exact hs5

theorem State.Canon.entropyFails : State.Canon s.entropyFails := (h.same (by rfl)).log

/-! ### The SPDM responder and its sessions -/

theorem State.Canon.whenKeyed {f : State → State} (hf : ∀ u, State.Canon u → State.Canon (f u)) : State.Canon (s.whenKeyed f) := by
  unfold State.whenKeyed
  refine h.whenLive (fun s hu => ?_)
  split
  · exact hu
  · exact hf _ hu

theorem State.Canon.negotiated {v : SpdmVia} {f : State → State} (hf : ∀ u, State.Canon u → State.Canon (f u)) :
    State.Canon (s.negotiated v f) := by
  unfold State.negotiated
  refine h.whenKeyed (fun s hu => ?_)
  split
  · exact hf _ hu
  · exact hu.keeps (State.spdmError_changes ..) rfl

theorem State.Canon.setSession {v : SpdmVia} {id : Nat} {f : SpdmSession → SpdmSession} :
    State.Canon (s.setSession v id f) := h.same (by rfl)

theorem State.Canon.inSession {v : SpdmVia} {id : Nat} {f : State → State} (hf : ∀ u, State.Canon u → State.Canon (f u)) :
    State.Canon (s.inSession v id f) := by
  unfold State.inSession
  refine h.whenKeyed (fun s hu => ?_)
  split
  · split
    · exact hf _ (hu.same (by rfl))
    · exact hu.keeps (State.spdmError_changes ..) rfl
  · exact hu.keeps (State.spdmError_changes ..) rfl

theorem State.Canon.postHeld {p : Fin 2} : State.Canon (s.postHeld p) := by
  unfold State.postHeld
  refine h.foldl (fun s e hu => ?_)
  split
  · extract_lets s1
    exact hu.setCtrl.foldl (fun _ _ hv => hv.post)
  · exact hu

theorem State.Canon.ideKey {p keySet : Fin 2} {key : BitVec 256} : State.Canon (s.ideKey p keySet key) := by
  unfold State.ideKey
  extract_lets s1
  exact (h.setPort.keeps (State.spdm_changes ..) rfl).tryReady.postHeld

/-! ### Opal and Key Per I/O (R372) -/

theorem State.Canon.method {fseq st : Nat} : State.Canon (s.method fseq st) := h.emit.complete

theorem State.Canon.genKey {r : Fin 64} : State.Canon (s.genKey r) := by
  unfold State.genKey
  extract_lets ns s1
  exact (h.foldl (fun _ _ hu => hu.setUnits)).newKey.settleStripes.resumeAll

theorem State.Canon.endKeyCmd {fseq : Nat} {ls : List Nat} : State.Canon (s.endKeyCmd fseq ls) := by
  unfold State.endKeyCmd
  split
  · exact h.complete
  extract_lets s1
  refine h.setCmd.dispatchAll.foldl (fun s e hu => ?_)
  split
  · exact hu
  · exact hu.closeEarly

/-! ### The boot store (R392) -/

theorem State.Canon.bstWrite {ini : Initiator} {f : State → State} (hf : ∀ u, State.Canon u → State.Canon (f u)) :
    State.Canon (s.bstWrite ini f) := by
  unfold State.bstWrite
  split
  · exact h
  split
  · exact hf _ h
  · exact h.emit

theorem State.Canon.serve {ini : Initiator} {o : Nat} : State.Canon (s.serve ini o) := by
  unfold State.serve
  split
  · exact h.emit
  extract_lets
  split
  · exact (h.setBst (by rfl)).emit
  · exact h.emit

theorem State.Canon.serveHeld : State.Canon s.serveHeld := by
  unfold State.serveHeld
  extract_lets go late s1
  exact (h.setBst (by rfl)).foldl (fun _ _ hu => hu.serve)

theorem State.Canon.setOp {f : BstOp → BstOp} : State.Canon (s.setOp f) := h.setBst (by rfl)

theorem State.Canon.bstRead {ini : Initiator} {o : Nat} : State.Canon (s.bstRead ini o) := by
  unfold State.bstRead
  split
  · exact h.emit
  split
  · exact h.serve
  extract_lets s1
  split
  · exact (h.setBst (by rfl)).setOp
  · exact h.setBst (by rfl)

theorem State.Canon.bstStart {o : Nat} {f : State → State} (hf : ∀ u, State.Canon u → State.Canon (f u)) :
    State.Canon (s.bstStart o f) := by
  unfold State.bstStart
  split
  · exact h.setBst (by rfl)
  split
  · exact h.setBst (by rfl)
  split
  · exact h.emit
  · exact hf _ h

theorem State.Canon.bstErase {sector : Nat} : State.Canon (s.bstErase sector) := by
  unfold State.bstErase
  split
  · exact (h.setBst (by rfl)).log
  · exact h.setBst (by rfl)

theorem State.Canon.programmed {page : Nat} {data : List Byte} : State.Canon (s.programmed page data) := by
  unfold State.programmed
  extract_lets n old put new s1
  have hput (bs : List Byte) : State.Canon (put bs) := h.setStore (memWf_memWrite _ _ _ _ h.bst)
  split
  · exact hput _
  have hs1 : State.Canon s1 := hput _
  exact hs1.setFree

theorem State.Canon.spoiled {o : BstOp} : State.Canon (s.spoiled o) := by
  unfold State.spoiled
  split
  · extract_lets base bs s1
    clear_value base bs
    have hmem : memWf 0xFF (memWrite 0xFF (memClear s.bst.mem base sectorSize) base bs) = true :=
      memWf_memWrite _ _ _ _ (memWf_memClear _ _ _ _ h.bst)
    have hs1 : State.Canon s1 := h.setStore hmem
    exact hs1.setFree
  · exact h.programmed

theorem State.Canon.bstComplete {ok : Bool} : State.Canon (s.bstComplete ok) := by
  unfold State.bstComplete
  split
  · exact h
  split
  · exact h
  extract_lets s1 s2 s3 s4
  have hs2 : State.Canon s2 := by
    unfold s2
    split
    · split
      · exact h.setStore (Bst.wipe_wf h.bst _)
      · exact h.programmed.setBst (by rfl)
    · refine h.spoiled.setBst ?_
      split
      · rfl
      · rfl
  have hs4 : State.Canon s4 := by
    unfold s4
    split
    · exact hs2.setBst (by rfl)
    · exact (hs2.setBst (by rfl)).log
  exact hs4.serveHeld

theorem State.Canon.bstSuspended : State.Canon s.bstSuspended := by
  unfold State.bstSuspended
  split
  · exact h
  split
  · exact h
  extract_lets s1
  split
  · exact h.setOp.serveHeld.setOp
  · exact h.setOp.serveHeld

theorem State.Canon.bstStop : State.Canon s.bstStop := by
  unfold State.bstStop
  split
  · exact (h.spoiled.setBst (by rfl)).serveHeld
  split
  · exact h.setBst (by rfl)
  · exact h

/-! ### The dictionary (R475) -/

theorem State.Canon.clearStaging : State.Canon s.clearStaging := by
  have hbst := Bst.foldl_wf (f := fun b i => if b.blank (stagingFirst + i) then b else b.erased (stagingFirst + i))
    (fun b i hb => by
      split
      · exact hb
      · exact Bst.erased_wf hb _) h.bst (List.range 256)
  exact ⟨h.locks, hbst, h.opal, h.sdm, h.pmr, h.lines, h.rows⟩

theorem State.Canon.allRdc {f : Rdc → Rdc} : State.Canon (s.allRdc f) := h.setMedia (by rfl)

theorem State.Canon.allFch {f : Fch → Fch} : State.Canon (s.allFch f) := h.setMedia (by rfl)

theorem State.Canon.setSpare {pct : Nat} : State.Canon (s.setSpare pct) := by
  unfold State.setSpare
  extract_lets s1
  split
  · exact (h.setMedia (by rfl)).checkSpare
  · exact (h.setMedia (by rfl)).setMedia (by rfl)

theorem State.Canon.runPounces : State.Canon s.runPounces := h.foldl (fun _ _ hu => hu.startPounce)

theorem State.Canon.hostDirected : State.Canon s.hostDirected := by
  unfold State.hostDirected
  extract_lets src s1
  split
  · split
    · exact (h.same (by rfl)).abandonEntry
    · exact h.same (by rfl)
  · exact h.same (by rfl)

theorem State.Canon.autonomous : State.Canon s.autonomous := by
  unfold State.autonomous
  extract_lets
  exact h.same (by rfl)

theorem State.Canon.modeChanges {sub v : Nat} : State.Canon (s.modeChanges sub v) := by
  unfold State.modeChanges
  split
  · extract_lets s1
    split
    · exact (h.setMedia (by rfl)).pickVictim
    · exact h.setMedia (by rfl)
  · split
    · exact h.runPounces
    · exact h
  · split
    · exact h.hostDirected
    · exact h.autonomous
  · exact h.setDram
  · exact h

theorem State.Canon.applyEntry {index sub old : Nat} : State.Canon (s.applyEntry index sub old) := by
  unfold State.applyEntry
  extract_lets v on s1
  split
  · split
    · exact h.foldl (fun _ _ hu => hu.tryReady.postHeld)
    · exact h
  · split
    · exact h.allRdc
    split
    · exact h.allRdc
    · exact h
  · split
    · exact h.allFch
    split
    · exact h.allFch
    · exact h
  · split
    · exact h.setSpare
    · exact h
  · split
    · exact h.pickVictim
    · exact h
  · split
    · exact h.setPlp
    · split
      · exact h.setPlp.keeps (State.pfailOverLocate_changes ..) rfl
      · exact h.setPlp
    · exact h.setPlp
    · exact h.recompute.resumeAll
    · exact h.recompute.resumeAll
    · exact h
  · exact h.keeps (State.allArb_changes ..) rfl
  · exact h.keeps (State.allArb_changes ..) rfl
  · exact h.keeps (State.allArb_changes ..) rfl
  · split
    · exact h.holdShares
    · exact h
  · exact h.setBst (by rfl)
  · split
    · exact h.keeps (State.pfailOverLocate_changes ..) rfl
    · exact h
  · split
    · exact h
    · exact h.modeChanges
  · exact h

theorem State.Canon.putEntry {index sub writer : Nat} {value : List Byte} :
    State.Canon (s.putEntry index sub writer value) := by
  unfold State.putEntry
  extract_lets
  exact (h.same (by rfl)).applyEntry

theorem State.Canon.defaultsApply {writer : Nat} : State.Canon (s.defaultsApply writer) := by
  unfold State.defaultsApply
  refine h.foldl (fun s d hu => ?_)
  refine hu.foldl (fun s i hv => ?_)
  extract_lets
  split
  · exact hv
  · exact hv.putEntry

theorem State.Canon.actWo {writer index sub v : Nat} : State.Canon (s.actWo writer index sub v) := by
  unfold State.actWo
  split
  · refine h.foldl (fun a a hu => ?_)
    split
    · exact hu.keeps (State.wantCycle_changes ..) rfl
    · exact hu.keeps (State.wantFull_changes ..) rfl
  split
  · split
    · exact h
    split
    · exact (h.setMedia (by rfl)).pickVictim
    split
    · exact (h.setMedia (by rfl)).pickVictim
    · exact h
  split
  · exact h
  split
  · exact h.contain
  split
  · exact h.runPounces
  split
  · exact h.setPlp.tryTest
  split
  · exact h.setPlp
  split
  · exact h.clearStaging
  split
  · exact h.defaultsApply
  · exact h

theorem State.Canon.closeWindow {index sub : Nat} : State.Canon (s.closeWindow index sub) := by
  unfold State.closeWindow
  split
  · exact h
  extract_lets src s1 ranked above s0
  split
  · exact (h.same (by rfl)).foldl (fun _ _ hu => hu.keeps (State.ack_changes ..) rfl)
  extract_lets s2 s3
  exact (((h.same (by rfl)).putEntry.keeps (State.ack_changes ..) rfl).foldl (fun _ _ hu => hu.keeps (State.ack_changes ..) rfl)).foldl (fun _ _ hu => hu.keeps (State.overridden_changes ..) rfl)

theorem State.Canon.commitWrite {d : Desc64} {index sub : Nat} {w : WinWrite} : State.Canon (s.commitWrite d index sub w) := by
  unfold State.commitWrite
  split
  · exact h.actWo.keeps (State.ack_changes ..) rfl
  split
  · exact (h.same (by rfl)).keeps (State.ack_changes ..) rfl
  extract_lets ws src s1
  split
  · exact (h.same (by rfl)).keeps (State.setMbox_changes ..) rfl
  · exact h.same (by rfl)

theorem State.Canon.doWrite {v : Option (Fin 2)} {r : DictReq} : State.Canon (s.doWrite v r) := by
  unfold State.doWrite
  split
  · exact h.commitWrite
  · exact h.keeps (State.respond_changes ..) rfl
  · exact h

theorem State.Canon.handle {v : Option (Fin 2)} {op : Nat} {r : DictReq} : State.Canon (s.handle v op r) := by
  unfold State.handle
  split
  · exact h.keeps (State.respond_changes ..) rfl
  split
  · exact h.keeps (State.doRead_changes ..) rfl
  · exact h.doWrite
  · exact h.keeps (State.doDescribe_changes ..) rfl
  · exact h.keeps (State.respond_changes ..) rfl

theorem State.Canon.mailbox {p : Fin 2} {op : Nat} {r : DictReq} : State.Canon (s.mailbox p op r) := by
  unfold State.mailbox
  split
  · exact h
  split
  · exact h.emit
  split
  · exact h
  split
  · exact h.emit
  split
  · exact h.keeps (State.setMbox_changes ..) rfl
  split
  · exact (h.keeps (State.setMbox_changes ..) rfl).keeps (State.holdReq_changes ..) rfl
  · exact h.handle

theorem State.Canon.busRequest {op : Nat} {r : DictReq} : State.Canon (s.busRequest op r) := by
  unfold State.busRequest
  split
  · exact h.keeps (State.auxAnswer_changes ..) rfl
  · exact h.keeps (State.auxAnswer_changes ..) rfl
  · exact h.keeps (State.auxAnswer_changes ..) rfl
  split
  · exact h.keeps (State.holdReq_changes ..) rfl
  split
  · exact h.handle
  · exact h

theorem State.Canon.request {v : Option (Fin 2)} {op : Nat} {r : DictReq} : State.Canon (s.request v op r) := by
  unfold State.request
  split
  · exact h.mailbox
  · exact h.busRequest

theorem State.Canon.serveDict : State.Canon s.serveDict := by
  unfold State.serveDict
  split
  · exact h
  extract_lets
  refine (h.same (by rfl)).foldl (fun s h hu => ?_)
  split
  · exact (hu.keeps (State.setMbox_changes ..) rfl).handle
  split
  · exact hu.keeps (State.holdReq_changes ..) rfl
  · exact hu.handle

theorem State.Canon.woWrite {v : Option (Fin 2)} {index : BitVec 16} {sub : Byte} {size x : Nat} :
    State.Canon (s.woWrite v index sub size x) := h.request

/-! ### The owner -/

theorem State.Canon.onVia {v : Via} {opc : Nat} {f : State → State} (hf : ∀ u, State.Canon u → State.Canon (f u)) :
    State.Canon (s.onVia v opc f) := by
  unfold State.onVia
  split
  · exact h.onAdmin (fun _ _ hu => hf _ hu)
  split
  · exact hf _ h
  · exact h

theorem State.Canon.viaEnd {v : Via} {bytes : List Byte} : State.Canon (s.viaEnd v bytes) := by
  unfold State.viaEnd
  split
  · exact h.emit.complete
  · exact h.emit

theorem State.Canon.setResult {r : Nat} : State.Canon (s.setResult r) := h.setSec (by rfl)

theorem State.Canon.ownerCmd {v : Via} {opcode : Nat} {c : OwnerCmd} {badParam : Bool} {act : State → State} (hf : ∀ u, State.Canon u → State.Canon (act u)) :
    State.Canon (s.ownerCmd v opcode c badParam act) := by
  unfold State.ownerCmd
  refine h.onVia (fun s hu => ?_)
  extract_lets why s1 src s2
  have hs1 : State.Canon s1 := hu.setSec (by rfl)
  have hs2 : State.Canon s2 := by
    unfold s2
    clear_value why
    split
    · exact hs1.setResult.log
    · exact hf _ (hs1.same (by rfl)).setResult
  exact hs2.viaEnd

theorem State.Canon.awaitPresence {opcode : Nat} {param : List Byte} : State.Canon (s.awaitPresence opcode param) := by
  unfold State.awaitPresence
  extract_lets s1
  have hs1 : State.Canon s1 := by
    unfold s1
    split
    · exact h.setResult
    · exact h
  exact (hs1.setSec (by rfl)).setResult

theorem State.Canon.presenceAct {w : OwnerWait} : State.Canon (s.presenceAct w) := by
  unfold State.presenceAct
  extract_lets
  split
  · exact (h.setSec (by rfl)).keeps (State.keyEvent_changes ..) rfl
  · exact (h.setSec (by rfl)).log
  · exact (h.setSec (by rfl)).keeps (State.keyEvent_changes ..) rfl
  · exact (h.setSec (by rfl)).keeps (State.keyEvent_changes ..) rfl
  · exact h.setSec (by rfl)

/-! ### The firmware image (R427) -/

theorem State.Canon.download {c : Cmd} {fseq ofst : Nat} {bytes : List Byte} : State.Canon (s.download c fseq ofst bytes) := by
  unfold State.download
  split
  · exact (h.keeps (State.noteRefusal_changes ..) rfl).complete
  extract_lets b s1
  split
  · exact h.complete
  split
  · exact h.complete
  split
  · exact h.complete
  have hs1 : State.Canon s1 := by
    unfold s1
    split
    · exact h.setBoot.log
    · exact h
  exact hs1.setBoot.setCmd

theorem State.Canon.stagePiece {ofst : Nat} {bytes : List Byte} : State.Canon (s.stagePiece ofst bytes) := by
  unfold State.stagePiece
  extract_lets src boot ts bst bst1 bst2
  have hbst : memWf 0xFF bst.mem = true := Bst.foldl_wf (fun _ _ hb => Bst.beginSector_wf hb _) h.bst _
  have hbst2 : memWf 0xFF bst2.mem = true := by
    refine Bst.foldl_wf (fun b i hb => ?_) (Bst.putRun_wf hbst ..) _
    split
    · exact Bst.sealSector_wf hb _
    · exact hb
  exact ⟨h.locks, hbst2, h.opal, h.sdm, h.pmr, h.lines, h.rows⟩

theorem State.Canon.pieceDone {fseq : Nat} {ok : Bool} : State.Canon (s.pieceDone fseq ok) := by
  unfold State.pieceDone
  split
  · exact h
  extract_lets s1 s2
  have hs1 : State.Canon s1 := h.setBoot
  split
  · exact hs1.stagePiece.complete
  · exact (hs1.same (by rfl)).stagePiece.log.complete

theorem State.Canon.sealStaging : State.Canon s.sealStaging := by
  have hbst := Bst.foldl_wf (f := fun b i => if b.complete (stagingFirst + i) then b else b.sealSector (stagingFirst + i))
    (fun b i hb => by
      split
      · exact hb
      · exact Bst.sealSector_wf hb _) h.bst (List.range 256)
  exact ⟨h.locks, hbst, h.opal, h.sdm, h.pmr, h.lines, h.rows⟩

theorem State.Canon.startWrite {fseq action : Nat} {img : List Byte} : State.Canon (s.startWrite fseq action img) := by
  unfold State.startWrite
  extract_lets s1 s2
  have hs1 : State.Canon s1 := h.record
  clear_value s1
  have hs2 : State.Canon s2 := hs1.setStore (Bst.wipe_wf hs1.bst _)
  exact hs2.log.setCmd

theorem State.Canon.commitFw {c : Cmd} {fseq slot action : Nat} : State.Canon (s.commitFw c fseq slot action) := by
  unfold State.commitFw
  extract_lets src s1
  split
  · exact (h.keeps (State.noteRefusal_changes ..) rfl).complete
  split
  · exact h.complete
  split
  · refine .complete ?_
    split
    · exact h.record
    · exact h
  split
  · exact h.sealStaging.log.clearStaging.complete
  · exact h.sealStaging.log.startWrite

theorem State.Canon.ferryPrepare {fseq : Option Nat} : State.Canon (s.ferryPrepare fseq) := by
  unfold State.ferryPrepare
  extract_lets
  split
  · extract_lets s1
    split
    · exact h.log.record.complete
    · exact h.log.record
  · exact h.record.checkpoint

theorem State.Canon.imageWritten {digestOk : Bool} : State.Canon (s.imageWritten digestOk) := by
  unfold State.imageWritten
  split
  · extract_lets s1 img s2 s3
    have hs1 : State.Canon s1 := h.setBoot
    split
    · exact hs1.complete
    have hs2 : State.Canon s2 := ⟨hs1.locks, Bst.writeImage_wf hs1.bst .., hs1.opal, hs1.sdm, hs1.pmr, hs1.lines, hs1.rows⟩
    split
    · exact hs2.log.record.complete
    split
    · exact hs2.log.record.complete
    split
    · exact hs2.log.ferryPrepare
    · exact hs2.log.record.complete
  split
  · extract_lets was seq img s1 s2 s3
    have hs1 : State.Canon s1 := ⟨h.locks, Bst.writeImage_wf h.bst .., h.opal, h.sdm, h.pmr, h.lines, h.rows⟩
    split
    · exact hs1.record.log.log
    · exact hs1.record.log
  · exact h

theorem State.Canon.ferryRefused {st : Status} : State.Canon (s.ferryRefused st) := by
  unfold State.ferryRefused
  extract_lets f s1
  clear_value f
  split
  · exact (h.record.keeps (State.noteRefusal_changes ..) rfl).complete
  · exact h.record.keeps (State.noteRefusal_changes ..) rfl

theorem State.Canon.quiesce : State.Canon s.quiesce := h.dispatchAll.copiesGo

theorem State.Canon.ferryPause : State.Canon s.ferryPause := by
  unfold State.ferryPause
  split
  · exact h
  split
  · exact h.ferryRefused
  extract_lets s1 src s2
  have hs1 : State.Canon s1 := h.setBoot
  exact (hs1.same (by rfl)).log.quiesce

theorem State.Canon.ferryLand {pauseUs : Nat} : State.Canon (s.ferryLand pauseUs) := by
  unfold State.ferryLand
  split
  · exact h
  extract_lets f s1 s2 s3 src s4 s5
  have hs3 : State.Canon s3 := (h.setBoot.keeps (State.writeLedger_changes ..) rfl).record
  have hs4 : State.Canon s4 := hs3.setLocks hs3.locks
  have hs5 : State.Canon s5 := hs4.log
  refine .serveDict ?_
  clear_value f
  split
  · exact hs5.complete
  · exact hs5

theorem State.Canon.ferryLate : State.Canon s.ferryLate := by
  unfold State.ferryLate
  split
  · exact h
  extract_lets f s1
  refine .serveDict ?_
  clear_value f
  split
  · exact h.abandonFerry.setBoot.complete
  · exact h.abandonFerry.setBoot

theorem State.Canon.copyComplete : State.Canon s.copyComplete := by
  unfold State.copyComplete
  split
  · exact h
  extract_lets img s1
  exact h.record.clearStaging.log

end

end Sys2Proof.Machine
end

section
/-! Restarts, power states and the registers keep the canonical form (R53, R246, R441, R459, R471). -/

namespace Sys2Proof.Machine

open Sys2Proof

theorem Pmr.persisted_ok (r : Pmr) (h : r.memOk = true) : ({ image := r.image, dirty := r.dirty } : Pmr).memOk = true := by
  rw [Pmr.memOk, Bool.and_eq_true] at h
  exact h.2

theorem State.kept_locks (s : State) : s.kept.locks = s.cmq.locks := by
  unfold State.kept
  split
  · rfl
  · rfl

theorem Media.replayed_rows (m : Media) (broken : Option Nat) : (m.replayed broken).rows = m.rows :=
  Media.foldl_rows (fun m _ => m.chargeEntry_rows ..) _ _

section
variable {s : State} (h : State.Canon s)
include h

/-! ### What a restart leaves (R53) -/

theorem State.Canon.storeLost : State.Canon s.storeLost := by
  unfold State.storeLost
  split
  · exact h.spoiled.setBst (by rfl)
  · exact h

theorem State.Canon.restart {keep : Bool} {phase : Phase} : State.Canon (s.restart keep phase) := by
  unfold State.restart
  extract_lets s1
  have hs1 : State.Canon s1 := h.storeLost
  have hpmr : ∀ p : Fin 2, (s1.land.pmr.all (fun r => { image := r.image, dirty := r.dirty }))[p].memOk = true :=
    Pmr.all_ok hs1.pmr Pmr.persisted_ok
  exact ⟨rfl, hs1.bst, hs1.opal, rfl, hpmr, rfl, rfl⟩

theorem State.Canon.coldFromOff : State.Canon s.coldFromOff := h.restart.keeps (State.enableFirst_changes ..) rfl

theorem State.Canon.coldInPlace : State.Canon s.coldInPlace := by
  unfold State.coldInPlace
  extract_lets w t
  have ht : State.Canon t := (h.keeps (State.runEnds_changes ..) rfl).restart
  exact ht.same (by rfl)

/-! ### Power states (R459) -/

theorem State.Canon.apstIdle {p : Fin 2} : State.Canon (s.apstIdle p) := by
  unfold State.apstIdle
  split
  · exact h
  split
  · exact h.setCtrl.followPs
  · exact h

theorem State.Canon.finishPrep {target : Nat} : State.Canon (s.finishPrep target) := by
  unfold State.finishPrep
  extract_lets src s1
  have hs1 : State.Canon s1 := h.setPmr (Pmr.all_ok h.pmr (Pmr.saved_ok _)) rfl
  split
  · exact hs1.setPws.keeps (State.suppSummary_changes ..) rfl
  · exact hs1

theorem State.Canon.prepDone {systemFail : Bool} : State.Canon (s.prepDone systemFail) := by
  unfold State.prepDone
  split
  · exact h
  extract_lets s1 s2
  have hs1 : State.Canon s1 := by
    unfold s1
    split
    · exact h.checkpoint.keeps (State.setEntry_changes ..) rfl
    · exact h
  split
  · exact hs1
  have hs2 : State.Canon s2 := (hs1.finishPrep.keeps (State.setEntry_changes ..) rfl).emit
  split
  · exact (hs2.keeps (State.setEntry_changes ..) rfl).abandonEntry
  · exact hs2

theorem State.Canon.resetErases : State.Canon s.resetErases := by
  unfold State.resetErases
  refine h.foldl (fun s e hu => ?_)
  split
  · exact hu.resetLun.setDie
  · exact hu

theorem State.Canon.commitEntry {target : Nat} : State.Canon (s.commitEntry target) := by
  unfold State.commitEntry
  extract_lets s1 src src1 s2
  have hs1 : State.Canon s1 := (h.keeps (State.persistAll_changes ..) rfl).setPws.resetErases.keeps (State.linksRest_changes ..) rfl
  split
  · exact (hs1.keeps (State.flushAllChecks_changes ..) rfl).setDram
  · exact ((hs1.same (by rfl)).keeps (State.gates_changes ..) rfl).keeps (State.enablesFall_changes ..) rfl

theorem State.Canon.domainAnswers {d : Fin 4} {a : Answer} : State.Canon (s.domainAnswers d a) := by
  unfold State.domainAnswers
  split
  · exact h
  split
  · exact h
  extract_lets put refuse s'
  have hput (v : BitVec 2) : State.Canon (put v) := h.keeps (State.setEntry_changes ..) rfl
  have hrefuse (r : Nat) : State.Canon (refuse r) := (hput 2).abandonEntry
  split
  · exact hrefuse _
  · exact hrefuse _
  · exact hput _
  have hs' : State.Canon s' := hput _
  split
  · exact hs'.commitEntry
  · exact hs'

theorem State.Canon.delayExpires {d : Fin 4} : State.Canon (s.delayExpires d) := by
  unfold State.delayExpires
  split
  · exact h
  split
  · exact (h.keeps (State.setEntry_changes ..) rfl).abandonEntry
  · exact h

theorem State.Canon.tempAlarm : State.Canon s.tempAlarm := by
  unfold State.tempAlarm
  split
  · exact h
  split
  · exact h.tamper
  split
  · exact h.tamper
  · exact h

theorem State.Canon.sensorsRead {ts : List ℤ} : State.Canon (s.sensorsRead ts) := by
  unfold State.sensorsRead
  extract_lets s1 j ht s2 s3 s4
  split
  · exact h.setPws
  have hs3 : State.Canon s3 := by
    unfold s3
    split
    · exact h.setPws.setPws
    · exact h.setPws.setPws.keeps (State.setLevel_changes ..) rfl
  refine .tempAlarm ?_
  have hs4 : State.Canon s4 := hs3.keeps (State.thermIn_changes ..) rfl
  split
  · exact hs4.keeps (State.driftWarn_changes ..) rfl
  · exact hs4

theorem State.Canon.thermalShut : State.Canon s.thermalShut := by
  unfold State.thermalShut
  split
  · exact h
  split
  · exact ((h.same (by rfl)).keeps (State.levelFour_changes ..) rfl).flushBody
  · exact ((h.same (by rfl)).keeps (State.levelFour_changes ..) rfl).flushBody
  · exact ((h.same (by rfl)).keeps (State.levelFour_changes ..) rfl).flushBody
  · exact (h.keeps (State.levelFour_changes ..) rfl).keeps (State.thermalHold_changes ..) rfl
  · exact (h.keeps (State.levelFour_changes ..) rfl).keeps (State.thermalHold_changes ..) rfl
  · exact (h.keeps (State.levelFour_changes ..) rfl).keeps (State.thermalHold_changes ..) rfl
  · exact h

/-! ### Resets, shutdowns and links -/

theorem State.Canon.resetCmd {fseq : Nat} {c : Cmd} : State.Canon (s.resetCmd fseq c) := by
  unfold State.resetCmd
  split
  · split
    · exact h.setCmd
    · exact h.stopReads.endCmd
  · exact h.stopReads.endCmd

theorem State.Canon.resize {p : Fin 2} : State.Canon (s.resize p) := by
  unfold State.resize
  extract_lets mib s1 src s2
  have hs1 : State.Canon s1 := h.setLines (Landing.rebind_pmr ..) ((congrArg AMap.wf (Landing.rebind_lines ..)).trans h.lines)
  have hresized (r : Pmr) (hr : r.memOk = true) : (if r.mib = mib then { r with restoreErr := false }
      else { r with mib := mib, restoreErr := false, nrdy := true, restored := false }).memOk = true := by
    split
    · exact hr
    · exact hr
  have hs2 : State.Canon s2 := hs1.setPmr (Pmr.upd_ok hs1.pmr p (hresized _ (hs1.pmr p))) rfl
  exact (hs2.keeps (State.pmrWindows_changes ..) rfl).settlePmr

theorem State.Canon.dropKey {k : Nat} : State.Canon (s.dropKey k).1 := by
  unfold State.dropKey
  split
  · exact h
  · dsimp only
    exact h.setSec (by rfl)

theorem State.Canon.resetKeys {p : Fin 2} : State.Canon (s.resetKeys p) := by
  unfold State.resetKeys
  extract_lets ks s1 lock s2
  have hs1 : State.Canon s1 := h.foldl (fun _ _ hu => hu.dropKey)
  split
  · exact (hs1.setSec (by rfl)).keeps (State.endClaim_changes ..) rfl
  · exact hs1.setSec (by rfl)

theorem State.Canon.resetFerry {p : Fin 2} : State.Canon (s.resetFerry p) := by
  unfold State.resetFerry
  extract_lets mine s1
  have hs1 : State.Canon s1 := by
    unfold s1
    split
    · exact h
    split
    · exact h.record
    · exact h.abandonFerry.setBoot
  split
  · exact hs1.clearStaging
  · exact hs1

theorem State.Canon.activateHere : State.Canon s.activateHere := by
  unfold State.activateHere
  split
  · exact h.ferryPrepare.ferryPause
  · exact h

theorem State.Canon.resetCtrl {p : Fin 2} : State.Canon (s.resetCtrl p) := by
  unfold State.resetCtrl
  extract_lets s1 s2 s3 chs s4 src src1 s5
  have hs4 : State.Canon s4 := ((h.arrive.resetFerry.foldl (fun _ _ hu => hu.resetCmd)).keeps (State.releaseByReset_changes ..) rfl).setCtrl.dropReads
  exact ((hs4.same (by rfl)).resetKeys.keeps (State.resetMbox_changes ..) rfl).resize.followPs.activateHere.resumeAll

theorem State.Canon.controllerReset {p : Fin 2} : State.Canon (s.controllerReset p) := by
  unfold State.controllerReset
  split
  · exact h
  split
  · extract_lets s1 s2
    exact ((h.foldl (fun _ _ hu => hu.endCmd)).setCtrl.keeps (State.resetMbox_changes ..) rfl).setPws
  split
  · exact h
  split
  · extract_lets t
    have ht : State.Canon t := h.coldInPlace
    exact ht.same (by rfl)
  · exact h.resetCtrl

theorem State.Canon.ccEnable {p : Fin 2} {wrr : Bool} {asqs acqs : Nat} : State.Canon (s.ccEnable p wrr asqs acqs) := by
  unfold State.ccEnable
  split
  · exact h
  · exact h.setCtrl.tryReady

theorem State.Canon.linkReset {p : Fin 2} {l : LinkSt} :
    State.Canon (s.linkReset p l) := (h.controllerReset.keeps (State.clearConfig_changes ..) rfl).setPort

theorem State.Canon.closeOpen {p : Fin 2} : State.Canon (s.closeOpen p) := by
  unfold State.closeOpen
  split
  · exact h
  · exact h.drain.copiesGo

theorem State.Canon.shutdownNormal {p : Fin 2} : State.Canon (s.shutdownNormal p) := by
  unfold State.shutdownNormal
  split
  · exact h
  extract_lets s1 s2 s3 s4 s5
  split
  · exact h.setCtrl
  split
  · exact h.setCtrl.closeOpen
  have hs3 : State.Canon s3 := by
    unfold s3
    split
    · exact h.setCtrl.closeOpen
    · exact h.setCtrl.closeOpen.checkpoint.setCtrl
  split
  · exact hs3.closeOpen
  · exact (hs3.closeOpen.keeps (State.suppSummary_changes ..) rfl).setCtrl.setBoot

theorem State.Canon.shutdownAbrupt {p : Fin 2} : State.Canon (s.shutdownAbrupt p) := by
  unfold State.shutdownAbrupt
  split
  · exact h
  extract_lets s1
  split
  · exact h.setCtrl.closeOpen
  · exact h.setCtrl.closeOpen.setCtrl.setBoot

theorem State.Canon.postFate {p : Fin 2} {f : Fate} : State.Canon (s.postFate p f) := by
  unfold State.postFate
  split
  · exact h.post
  · split
    · exact h.post
    · exact h
  · exact h
  · exact h.post

theorem State.Canon.resume {p : Fin 2} : State.Canon (s.resume p) := by
  unfold State.resume
  extract_lets c s1 s2
  split
  · exact h.setPort
  · exact (h.setPort.foldl (fun _ _ hu => hu.postFate)).log.useLatched.resumeAll

theorem State.Canon.writeCntCtl {p : Fin 2} {v : BitVec 32} : State.Canon (s.writeCntCtl p v) := by
  unfold State.writeCntCtl
  extract_lets s1 s2
  have hs2 : State.Canon s2 := by
    unfold s2
    split
    · exact h.setPort.trip
    · exact h.setPort
  split
  · exact hs2.resume
  · exact hs2

theorem State.Canon.configRequest {p : Fin 2} {offset : Nat} {wr : Option (BitVec 32)} : State.Canon (s.configRequest p offset wr) := by
  unfold State.configRequest
  extract_lets
  split
  · exact h
  split
  · exact h.emit
  split
  · exact h.emit
  refine .emit ?_
  split
  · exact h.setPort
  split
  · exact h.whenLive (fun _ hu => hu.writeCntCtl)
  split
  · exact h.whenLive (fun _ hu => hu.keeps (State.writeCntStat_changes ..) rfl)
  · exact h.setPort

/-! ### The start sequence (R441) -/

theorem State.Canon.testDie {d : Nat} : State.Canon (s.testDie d) := by
  unfold State.testDie
  split
  · exact h
  extract_lets ok s1
  exact (h.same (by rfl)).setDie

theorem State.Canon.stillOut : State.Canon s.stillOut := h.same (by rfl)

theorem State.Canon.rom {calibOk loaderOk pfailLow : Bool} : State.Canon (s.rom calibOk loaderOk pfailLow) := by
  unfold State.rom
  split
  · exact h
  extract_lets src src1 s1 s2 src2 s3 s4 s5
  have hs1 : State.Canon s1 := h.same (by delta State.guarded; rfl)
  have hs2 : State.Canon s2 := by
    unfold s2
    split
    · exact hs1
    · exact hs1.log
  have hs3 : State.Canon s3 := by
    unfold s3
    split
    · exact (hs2.same (by rfl)).log
    · exact hs2
  have hs4 : State.Canon s4 := by
    unfold s4
    split
    · exact hs3
    · exact (hs3.foldl (fun _ _ hu => hu.keeps (State.selfTest_changes ..) rfl)).foldl (fun _ _ hu => hu.testDie)
  have hs5 : State.Canon s5 := hs4.stillOut
  split
  · exact hs5.same (by rfl)
  · exact hs5.keeps (State.bootFault_changes ..) rfl

theorem State.Canon.checkSectors : State.Canon s.checkSectors := by
  unfold State.checkSectors
  extract_lets bad s1 s2 s3
  have hs2 : State.Canon s2 := by
    unfold s2
    split
    · exact h.logs.log.setBst (by rfl)
    · exact h.logs
  split
  · exact hs2.setBoot.clearStaging
  · exact hs2.setBoot

theorem State.Canon.startTrial : State.Canon s.startTrial := by
  unfold State.startTrial
  extract_lets n s1
  exact h.record.setBoot

theorem State.Canon.choose {recoveryOk : Bool} : State.Canon (s.choose recoveryOk) := by
  unfold State.choose
  split
  · extract_lets s1
    have hs1 : State.Canon s1 := by
      unfold s1
      split
      · exact h.startTrial
      · exact h
    exact hs1.keeps (State.runImage_changes ..) rfl
  split
  · exact (h.keeps (State.runImage_changes ..) rfl).log
  split
  · exact (h.keeps (State.runImage_changes ..) rfl).log
  · exact h.keeps (State.bootFault_changes ..) rfl

theorem State.Canon.slipway {recoveryOk : Bool} : State.Canon (s.slipway recoveryOk) := by
  unfold State.slipway
  split
  · exact h
  extract_lets s1 s2 s3
  have hs3 : State.Canon s3 := by
    unfold s3
    have hs2 : State.Canon s2 := ((h.same (by rfl)).keeps (State.loadRecord_changes ..) rfl).checkSectors
    split
    · exact hs2.record.setBoot
    · exact hs2
  exact hs3.choose

theorem State.Canon.applyStored : State.Canon s.applyStored := by
  unfold State.applyStored
  extract_lets again s1 s2
  exact (h.foldl (fun _ _ hu => hu.applyEntry)).setPlp.setDram

theorem State.Canon.loadPort {p : Fin 2} : State.Canon (s.loadPort p) := h.setPort.resize

theorem State.Canon.firmware : State.Canon s.firmware := by
  unfold State.firmware
  split
  · exact h
  extract_lets s1 wake s2 s3 s4 s5 s6 s7 s8
  have hs5 : State.Canon s5 := by
    unfold s5
    have hs2 : State.Canon s2 := (h.same (by rfl)).keeps (State.writeLedger_changes ..) rfl
    have hs4 : State.Canon s4 := hs2.log.applyStored.keeps (State.saysDegraded_changes ..) rfl
    split
    · exact hs4.log
    · exact hs4
  have hs8 : State.Canon s8 := by
    unfold s8
    have hs6 : State.Canon s6 := hs5.foldl (fun _ _ hu => hu.loadPort)
    split
    · exact (hs6.setMedia (by rfl)).fatal
    · exact hs6.setMedia (by rfl)
  refine .serveDict ?_
  split
  · exact hs8.startCharge
  · exact hs8

theorem State.Canon.startLosses : State.Canon s.startLosses := by
  unfold State.startLosses
  refine h.foldl (fun s c hu => ?_)
  extract_lets
  split
  · exact hu.foldl (fun _ _ hv => hv.dieFails)
  split
  · exact hu.isolate
  refine hu.foldl (fun s k hv => ?_)
  split
  · exact hv.foldl (fun _ _ hw => hw.dieFails)
  · exact hv

theorem State.Canon.takePopulation : State.Canon s.takePopulation := by
  unfold State.takePopulation
  split
  · exact h
  split
  · extract_lets
    exact (h.setMedia (by rfl)).log.log
  split
  · exact h
  extract_lets s1
  exact ((h.setMedia (by rfl)).setMedia (by rfl)).startLosses

theorem State.Canon.channelsOn : State.Canon s.channelsOn := by
  unfold State.channelsOn
  extract_lets
  exact h.setMedia (by rfl)

theorem State.Canon.mediaGoesOn : State.Canon s.mediaGoesOn := by
  unfold State.mediaGoesOn
  extract_lets s1
  exact (h.resumeRebuilds.foldl (fun _ _ hu => hu.returnErases.dieReturns)).loadNext.settleReads

theorem State.Canon.openBlocks : State.Canon s.openBlocks := by
  unfold State.openBlocks
  split
  · exact h.setMedia (by rfl)
  · exact (h.setMedia (by rfl)).settleStripes

theorem State.Canon.applyImage : State.Canon s.applyImage := by
  unfold State.applyImage
  split
  · exact h
  extract_lets s1
  split
  · extract_lets
    split
    · exact h.raiseReads
    · exact (h.raiseReads.setMedia (by rfl)).log
  · exact h.raiseReads

theorem State.Canon.wakePorts : State.Canon s.wakePorts := by
  unfold State.wakePorts
  extract_lets s1
  exact (h.same (by rfl)).foldl (fun _ _ hu => hu.tryReady.useLatched)

theorem State.Canon.recoveryEnds {ms : Nat} {broken : Option Nat} : State.Canon (s.recoveryEnds ms broken) := by
  unfold State.recoveryEnds
  split
  · exact h
  extract_lets s1 s2 s3 s4 src s5
  have hs1 : State.Canon s1 := h.takePopulation.channelsOn.setMedia (Media.replayed_rows _ _)
  clear_value s1
  have hs2 : State.Canon s2 := by
    unfold s2
    split
    · exact (hs1.setMedia (by rfl)).log
    · exact hs1
  have hs4 : State.Canon s4 := (hs2.openBlocks.applyImage.keeps (State.sayRecovery_changes ..) rfl).setBoot
  exact (hs4.same (by rfl)).recompute.wakePorts.mediaGoesOn

theorem State.Canon.expiryStart : State.Canon s.expiryStart := h.coldInPlace.setBoot

theorem State.Canon.flushEnds {us : Nat} : State.Canon (s.flushEnds us) := by
  unfold State.flushEnds
  split
  · exact h
  split
  · extract_lets s1
    have hs1 : State.Canon s1 := h.mark.keeps (State.flushAllChecks_changes ..) rfl
    split
    · exact hs1.keeps (State.flushOff_changes ..) rfl
    · exact hs1.keeps (State.thermalHold_changes ..) rfl
  · extract_lets s1
    have hs1 : State.Canon s1 := h.mark.keeps (State.flushAllChecks_changes ..) rfl
    split
    · exact hs1.keeps (State.flushOff_changes ..) rfl
    · exact hs1.expiryStart
  · exact h

theorem State.Canon.trialExpires : State.Canon s.trialExpires := by
  unfold State.trialExpires
  split
  · exact h
  extract_lets s1 s2
  have hs2 : State.Canon s2 := h.setBoot.log.setPws
  split
  · exact (hs2.same (by rfl)).flushBody
  · exact (hs2.same (by rfl)).flushBody
  · exact h.setBoot.log.expiryStart
  · exact h.setBoot.log.expiryStart
  · exact h

theorem State.Canon.watchdogReset : State.Canon s.watchdogReset := by
  unfold State.watchdogReset
  split
  · exact h.bstStop.coldInPlace.setBoot
  · exact h.bstStop.coldInPlace.setBoot
  · exact h.bstStop.coldInPlace.setBoot
  · exact h.bstStop.coldInPlace.setBoot
  · exact h.bstStop.coldInPlace.setBoot
  · exact h.bstStop.coldInPlace.setBoot
  · exact h

theorem State.Canon.wakeUp : State.Canon s.wakeUp := by
  unfold State.wakeUp
  split
  · exact h
  extract_lets t
  have ht : State.Canon t := h.coldFromOff
  have hkept : regrant s.kept.locks = s.kept.locks := by
    rw [State.kept_locks]
    exact h.locks
  exact ⟨hkept, ht.bst, ht.opal, ht.sdm, ht.pmr, ht.lines, ht.rows⟩

/-! ### The board -/

theorem State.Canon.whenAux {f : State → State} (hf : ∀ u, State.Canon u → State.Canon (f u)) : State.Canon (s.whenAux f) := by
  unfold State.whenAux
  split
  · exact hf _ h
  · exact h

/-! ### Register writes (R471) -/

theorem State.Canon.writeChannels {v : BitVec 32} {a : Reg} : State.Canon (s.writeChannels v a) := by
  unfold State.writeChannels
  split
  · exact h.setMedia (by rfl)
  · exact h.setMedia (by rfl)
  · exact h.setMedia (by rfl)
  · exact h.setMedia (by rfl)
  · exact h.setMedia (by rfl)
  · exact h

theorem State.Canon.setExpArea {p : Fin 2} {f : ExpArea → ExpArea} : State.Canon (s.setExpArea p f) := h.setMedia (by rfl)

theorem State.Canon.writeExport {p : Fin 2} {w : Nat} {v : BitVec 32} : State.Canon (s.writeExport p w v) := by
  unfold State.writeExport
  split
  · exact h.setExpArea
  split
  · split
    · exact h.expGo
    · exact h
  split
  · exact h.writeChannels
  split
  · exact h.setExpArea
  · exact h

theorem State.Canon.writeFlash {v : BitVec 32} {a : Reg} : State.Canon (s.writeFlash v a) := by
  unfold State.writeFlash
  split
  · extract_lets s1
    refine .pumpChannel ?_
    split
    · exact h.setFch.isolate
    · exact h.setFch
  · exact h.setFch
  · exact h.setMedia (by rfl)
  · exact h

theorem State.Canon.chargeDisable : State.Canon s.chargeDisable := by
  unfold State.chargeDisable
  extract_lets s1
  exact (h.setPlp.keeps (State.gates_changes ..) rfl).recompute

theorem State.Canon.writePlp {v : BitVec 32} {a : Reg} : State.Canon (s.writePlp v a) := by
  unfold State.writePlp
  split
  · extract_lets s1 s2
    have hs2 : State.Canon s2 := by
      unfold s2
      split
      · exact h.setPlp.chargeEnable
      split
      · exact h.setPlp.chargeDisable
      · exact h.setPlp
    split
    · exact hs2.setPlp.tryTest
    · exact hs2
  · exact h.setPlp
  · exact h

theorem State.Canon.writeLink {v : BitVec 32} {a : Reg} : State.Canon (s.writeLink v a) := by
  unfold State.writeLink
  split
  · exact h.same (by rfl)
  · exact h.setPort
  · split
    · exact h
    · exact h.setPort
  · exact h.writeCntCtl
  · exact h.keeps (State.writeCntStat_changes ..) rfl
  · exact h

theorem State.Canon.sdmSwitch {ch : Fin 16} {on : Bool} : State.Canon (s.sdmSwitch ch on) := by
  unfold State.sdmSwitch
  split
  · exact h
  split
  · exact h.setSdc
  · exact h.sdmStop.setSdc

theorem State.Canon.writeSdm {v : BitVec 32} {a : Reg} : State.Canon (s.writeSdm v a) := by
  unfold State.writeSdm
  split
  · extract_lets s1 s2
    have hs2 : State.Canon s2 := by
      unfold s2
      split
      · exact h.setSdc.sdmStop
      · exact h.setSdc
    exact hs2.sdmSwitch
  · exact h.setSdc
  · exact h.setSdc
  · exact h.setSdc
  · exact h.setSdc
  · exact h.setSdc
  · exact h.setSdc
  · exact h

theorem State.Canon.writeStore {v : BitVec 32} {a : Reg} : State.Canon (s.writeStore v a) := by
  unfold State.writeStore
  split
  · extract_lets s1
    split
    · exact (h.setBst (by rfl)).bstStop
    · exact h.setBst (by rfl)
  · exact h.setBst (by rfl)
  · exact h.same (by rfl)
  · exact h

theorem State.Canon.writeReg {v : BitVec 32} {r : Reg} : State.Canon (s.writeReg v r) := by
  unfold State.writeReg
  split
  · exact h.keeps (State.writeSys_changes ..) rfl
  · exact h.keeps (State.writeSys_changes ..) rfl
  · exact h.keeps (State.writeSys_changes ..) rfl
  · exact h.keeps (State.writeSys_changes ..) rfl
  · exact h.keeps (State.writeSys_changes ..) rfl
  · exact h.keeps (State.writeSys_changes ..) rfl
  · exact h.writeChannels
  · exact h.writeChannels
  · exact h.writeChannels
  · exact h.writeChannels
  · exact h.writeChannels
  · exact h.writeExport
  · exact h.writeFlash
  · exact h.writeFlash
  · exact h.writeFlash
  · exact h.writePlp
  · exact h.writePlp
  · exact h.writeLink
  · exact h.writeLink
  · exact h.writeLink
  · exact h.writeLink
  · exact h.writeLink
  · exact h.keeps (State.writeDram_changes ..) rfl
  · exact h.keeps (State.writeDram_changes ..) rfl
  · exact h.keeps (State.writeDram_changes ..) rfl
  · exact h.keeps (State.writeDram_changes ..) rfl
  · split
    · exact h.writeSdm
    · exact h
  · split
    · exact h.writeSdm
    · exact h
  · split
    · exact h.writeSdm
    · exact h
  · split
    · exact h.writeSdm
    · exact h
  · split
    · exact h.writeSdm
    · exact h
  · split
    · exact h.writeSdm
    · exact h
  · split
    · exact h.writeSdm
    · exact h
  · exact h.keeps (State.writeKvc_changes ..) rfl
  · exact h.keeps (State.writeKvc_changes ..) rfl
  · exact h.keeps (State.writeKvc_changes ..) rfl
  · exact h.keeps (State.writeKvc_changes ..) rfl
  · exact h.writeStore
  · exact h.writeStore
  · exact h.writeStore
  · exact h

theorem State.Canon.registerWrite {ini : Initiator} {r : Reg} {v : BitVec 32} :
    State.Canon (s.registerWrite ini r v) := by
  unfold State.registerWrite
  split
  · exact h.onPage (fun _ hu => hu.writeReg)
  extract_lets go
  have hgo (u : State) (hu : State.Canon u) : State.Canon (go u) := by
    unfold go
    split
    · exact hu.writeReg
    · exact hu.emit
  split
  · split
    · exact hgo _ h
    · exact h
  · split
    · exact hgo _ h
    · exact h
  · exact h.hostBar4 hgo
  · exact hgo _ h

/-! ### Register reads -/

theorem State.Canon.readBy {ini : Initiator} {b : Block} {o : Nat} {f : State → State} (hf : ∀ u, State.Canon u → State.Canon (f u)) :
    State.Canon (s.readBy ini b o f) := by
  unfold State.readBy
  split
  · refine h.hostBar4 (fun s hu => ?_)
    split
    · exact hf _ hu
    · exact hu.emit
  split
  · exact hf _ h
  · exact h.emit

/-! ### An idle step -/

theorem State.Canon.channelTicks {n : Nat} : State.Canon (s.channelTicks n) := by
  unfold State.channelTicks
  extract_lets s1
  have hs1 : State.Canon s1 := h.foldl (fun _ _ hu => hu.busTick)
  split
  · exact hs1.loadNext.settleReads
  · exact hs1

theorem State.Canon.tick : State.Canon s.tick := by
  unfold State.tick
  split
  · extract_lets n src s1
    split
    · exact (h.same (by rfl)).channelTicks
    · exact h.same (by rfl)
  · exact h

end

end Sys2Proof.Machine
end

section
/-! Every command and every step keep the canonical form (R268). -/

namespace Sys2Proof.Machine

open Sys2Proof

/-- Whatever state an outcome gives is canonical. -/
def CanonOut (o : Host.Outcome State Fault Refusal) : Prop := ∀ t, o = .next t → State.Canon t

theorem CanonOut.next {t : State} (h : State.Canon t) : CanonOut (.next t) := fun _ hu => Host.Outcome.next.inj hu ▸ h

/-- An Opal method keeps the data store canonical: only a data store write touches it (R371). -/
theorem State.opal_wf {s : State} (h : memWf 0 s.sec.dataStore = true) (m : OpalMethod) : memWf 0 (s.opal m).1.dataStore = true := by
  cases m with
  | dataStoreWrite offset bytes =>
    simp only [State.opal]
    split_ifs
    · exact h
    · exact h
    · exact memWf_memWrite _ _ _ _ h
  | setPin a pin =>
    simp only [State.opal, Security.setPin]
    split_ifs <;> exact h
  | authenticate a pin =>
    simp only [State.opal, Security.authenticate]
    split_ifs <;> exact h
  | blockSid => exact h
  | _ =>
    simp only [State.opal]
    split_ifs <;> exact h

section
variable {s : State} (h : State.Canon s)
include h

/-! ### Commands that choose -/

theorem State.Canon.execPaceWindow {n : Fin 16} {cycles : Nat} : CanonOut (execPaceWindow n cycles s) := by
  refine .next ?_
  refine h.whenPowered (fun s hu => ?_)
  extract_lets s1
  have hs1 : State.Canon s1 := hu.keeps (State.paceWindow_changes ..) rfl
  split
  · exact hs1.tamper
  · exact hs1

theorem State.Canon.execRecordPacked {line : Nat} {frame : List Byte} : CanonOut (execRecordPacked line frame s) := by
  refine .next ?_
  refine h.whenLive (fun s hu => ?_)
  refine .recordPacked ?_
  split
  · split
    · exact hu.keeps (State.ungate_changes ..) rfl
    · exact hu
  · exact hu

theorem State.Canon.execProgramComplete {row : Nat} {member : Fin 32} : CanonOut (execProgramComplete row member s) := by
  refine .next ?_
  refine h.whenLive (fun s hu => ?_)
  split
  · exact hu.polled.programComplete.probesGo.settleReads
  · exact hu

theorem State.Canon.execProgramFail {row : Nat} {member : Fin 32} : CanonOut (execProgramFail row member s) := by
  refine .next ?_
  refine h.whenLive (fun s hu => ?_)
  split
  · exact hu.polled.programFail.probesGo.settleReads
  · exact hu

theorem State.Canon.execEraseFail {die block : Nat} : CanonOut (execEraseFail die block s) := by
  refine .next ?_
  refine h.whenLive (fun s hu => ?_)
  split
  · exact hu.polled.eraseFail.probesGo.erasedBack.settleReads
  · exact hu

theorem State.Canon.execSuspWindowExpire {die : Nat} : CanonOut (execSuspWindowExpire die s) := by
  refine .next ?_
  refine h.whenLive (fun s hu => ?_)
  split
  · exact hu.windowPassed
  · exact hu

theorem State.Canon.execSuspendRunReached {die : Nat} : CanonOut (execSuspendRunReached die s) := by
  refine .next ?_
  refine h.whenLive (fun s hu => ?_)
  split
  · exact hu.runReached
  · exact hu

theorem State.Canon.execBusTransferWaitLimit {ch : Fin 64} : CanonOut (execBusTransferWaitLimit ch s) := by
  refine .next ?_
  refine h.whenLive (fun s hu => ?_)
  split
  · exact hu
  · exact hu.setFch.busGo

theorem State.Canon.execEraseComplete {die block : Nat} : CanonOut (execEraseComplete die block s) := by
  refine .next ?_
  refine h.whenLive (fun s hu => ?_)
  split
  · exact hu.polled.eraseComplete.probesGo.erasedBack.settleReads
  · exact hu

theorem State.Canon.execChargeTimeout {pins : BankPins} : CanonOut (execChargeTimeout pins s) := by
  refine .next ?_
  refine h.whenLive (fun s hu => ?_)
  split
  · exact hu.bankFault
  · exact hu

theorem State.Canon.execChargeRetry : CanonOut (execChargeRetry s) := by
  refine .next ?_
  refine h.whenLive (fun s hu => ?_)
  split
  · exact hu.startCharge
  · exact hu

theorem State.Canon.execLandingLimitRecompute {capSense : Nat} : CanonOut (execLandingLimitRecompute capSense s) := by
  refine .next ?_
  refine h.whenLive (fun s hu => ?_)
  split
  · exact hu
  · exact hu.setPlp.recompute.resumeAll

theorem State.Canon.execBankFault {k : BankFaultKind} {pins : BankPins} : CanonOut (execBankFault k pins s) := by
  refine .next ?_
  refine h.whenLive (fun s hu => ?_)
  split
  · exact hu
  · exact hu.bankFault

theorem State.Canon.execHostPowerReturn : CanonOut (execHostPowerReturn s) := by
  refine .next ?_
  split
  · exact (h.keeps (State.runEnds_changes ..) rfl).coldFromOff
  · exact h

theorem State.Canon.execSetPowerManagement {fseq ps : Nat} : CanonOut (execSetPowerManagement fseq ps s) := by
  refine .next ?_
  refine h.onAdmin (fun c s hu => ?_)
  split
  · exact hu.complete
  extract_lets s1
  exact hu.complete.setCtrl.followPs

theorem State.Canon.execSetTemperatureThreshold {fseq : Nat} {sensor : Fin 16} {under : Bool} {kelvin : BitVec 16} :
    CanonOut (execSetTemperatureThreshold fseq sensor under kelvin s) := by
  refine .next ?_
  refine h.onAdmin (fun c s hu => ?_)
  split
  · exact hu.complete
  · exact hu.setFeat

theorem State.Canon.execSetNumberOfQueues {fseq nsq ncq : Nat} : CanonOut (execSetNumberOfQueues fseq nsq ncq s) := by
  refine .next ?_
  refine h.onAdmin (fun c s hu => ?_)
  extract_lets
  split
  · exact hu.complete
  split
  · exact hu.complete
  · exact hu.setFeat

theorem State.Canon.execSetInterruptVectorConfig {fseq vector : Nat} {disable : Bool} :
    CanonOut (execSetInterruptVectorConfig fseq vector disable s) := by
  refine .next ?_
  refine h.onAdmin (fun c s hu => ?_)
  split
  · exact hu.complete
  · exact hu.setFeat

theorem State.Canon.execSetApst {fseq : Nat} {enable : Bool} {table : List (Nat × Nat)} : CanonOut (execSetApst fseq enable table s) := by
  refine .next ?_
  refine h.onAdmin (fun c s hu => ?_)
  split
  · exact hu.complete
  · exact hu.setFeat

theorem State.Canon.execSetTimestamp {fseq ms : Nat} : CanonOut (execSetTimestamp fseq ms s) := by
  refine .next ?_
  refine h.onAdmin (fun x s hu => ?_)
  extract_lets src s1
  exact ((hu.same (by rfl)).keeps (State.persist_changes ..) rfl).complete

theorem State.Canon.execSetHctm {fseq tmt1 tmt2 : Nat} : CanonOut (execSetHctm fseq tmt1 tmt2 s) := by
  refine .next ?_
  refine h.onAdmin (fun c s hu => ?_)
  extract_lets
  split
  · exact hu.complete
  · exact hu.setFeat

theorem State.Canon.execSetReadRecoveryLevel {fseq level : Nat} : CanonOut (execSetReadRecoveryLevel fseq level s) := by
  refine .next ?_
  refine h.onAdmin (fun c s hu => ?_)
  split
  · exact hu.setFeat
  · exact hu.complete

theorem State.Canon.execSetReservationPersistence {fseq nsid : Nat} {ptpl : Bool} :
    CanonOut (execSetReservationPersistence fseq nsid ptpl s) := by
  refine .next ?_
  refine h.onAdmin (fun c s hu => ?_)
  split
  · exact hu.complete
  · exact hu.setNs.complete

theorem State.Canon.execSetFdp {fseq : Nat} {enable : Bool} : CanonOut (execSetFdp fseq enable s) := by
  refine .next ?_
  refine h.onAdmin (fun x s hu => ?_)
  split
  · exact hu.complete
  · exact (hu.setMedia (by rfl)).complete

theorem State.Canon.execAsyncEventRequest {fseq : Nat} : CanonOut (execAsyncEventRequest fseq s) := by
  refine .next ?_
  refine h.onAdmin (fun c s hu => ?_)
  split
  · exact hu.complete
  · exact hu.setCtrl.setCmd

theorem State.Canon.execDeviceSelfTest {fseq code : Nat} : CanonOut (execDeviceSelfTest fseq code s) := by
  refine .next ?_
  refine h.onAdmin (fun c s hu => ?_)
  split
  · exact hu.setCtrl.complete
  split
  · exact hu.complete
  extract_lets
  exact (hu.same (by rfl)).setCtrl.complete

theorem State.Canon.execDirectiveSend {fseq nsid dtype : Nat} {enable : Bool} :
    CanonOut (execDirectiveSend fseq nsid dtype enable s) := by
  refine .next ?_
  refine h.onAdmin (fun c s hu => ?_)
  split
  · exact hu.complete
  split
  · exact hu.complete
  · exact hu.setCtrl.complete

theorem State.Canon.execDirectiveReceive {fseq nsid dtype : Nat} : CanonOut (execDirectiveReceive fseq nsid dtype s) := by
  refine .next ?_
  refine h.onAdmin (fun c s hu => ?_)
  split
  · exact hu.complete
  split
  · exact hu.complete
  · exact hu.emit.complete

theorem State.Canon.execFlushCommand {fseq : Nat} : CanonOut (execFlushCommand fseq s) := by
  refine .next ?_
  refine h.onIo (fun c s hu => ?_)
  split
  · exact hu.flushCmd
  · exact hu

theorem State.Canon.execCompare {fseq : Nat} {data : List Sector} : CanonOut (execCompare fseq data s) := by
  refine .next ?_
  refine h.onIo (fun c s hu => ?_)
  split
  · exact hu.setCmd.startIo
  · exact hu

theorem State.Canon.execWriteZeroes {fseq : Nat} : CanonOut (execWriteZeroes fseq s) := by
  refine .next ?_
  refine h.onIo (fun c s hu => ?_)
  split
  · exact hu.writeZeroes
  · exact hu

theorem State.Canon.execDatasetManagement {fseq : Nat} : CanonOut (execDatasetManagement fseq s) := by
  refine .next ?_
  refine h.onIo (fun c s hu => ?_)
  split
  · exact hu.deallocate
  · exact hu

theorem State.Canon.execVerify {fseq : Nat} : CanonOut (execVerify fseq s) := by
  refine .next ?_
  refine h.onIo (fun c s hu => ?_)
  split
  · exact hu.startIo
  · exact hu

theorem State.Canon.execReservationAcquire {fseq : Nat} {action : Fin 3} {rtype : Nat} {ignoreKey : Bool} {cur pre : BitVec 64} :
    CanonOut (execReservationAcquire fseq action rtype ignoreKey cur pre s) := by
  refine .next ?_
  refine h.onResv (fun c i n s hu => ?_)
  split
  · exact hu.complete
  · exact hu.setResv

theorem State.Canon.execReservationRelease {fseq : Nat} {action : Fin 2} {rtype : Nat} {ignoreKey : Bool} {cur : BitVec 64} :
    CanonOut (execReservationRelease fseq action rtype ignoreKey cur s) := by
  refine .next ?_
  refine h.onResv (fun c i n s hu => ?_)
  split
  · exact hu.setResv
  · exact hu.complete

theorem State.Canon.execIoManagementReceive {fseq : Nat} : CanonOut (execIoManagementReceive fseq s) := by
  refine .next ?_
  refine h.onIo (fun c s hu => ?_)
  split
  · split
    · exact hu.complete
    split
    · exact hu.complete
    · exact hu.emit.complete
  · exact hu

theorem State.Canon.execReclaimUnitHandleUpdate {fseq : Nat} : CanonOut (execReclaimUnitHandleUpdate fseq s) := by
  refine .next ?_
  refine h.onIo (fun c s hu => ?_)
  split
  · split
    · exact hu.complete
    split
    · exact hu.complete
    · exact (hu.foldl (fun _ _ hv => hv.closeHandle)).complete
  · exact hu

theorem State.Canon.execCopy {fseq : Nat} : CanonOut (execCopy fseq s) := by
  refine .next ?_
  refine h.onIo (fun c s hu => ?_)
  split
  · split
    · exact hu.startIo
    · exact hu.landStart
  · exact hu

theorem State.Canon.execZoneManagementReceive {fseq : Nat} : CanonOut (execZoneManagementReceive fseq s) := by
  refine .next ?_
  refine h.onIo (fun c s hu => ?_)
  split
  · split
    · exact hu.complete
    split
    · exact hu.complete
    split
    · exact hu.complete
    extract_lets
    exact hu.emit.complete
  · exact hu

theorem State.Canon.execZoneAppend {fseq : Nat} : CanonOut (execZoneAppend fseq s) := by
  refine .next ?_
  refine h.onIo (fun c s hu => ?_)
  split
  · split
    · exact hu.complete
    extract_lets
    split
    · exact hu.complete
    split
    · exact hu.complete
    · exact hu.landStart
  · exact hu

theorem State.Canon.execCcDisable {p : Fin 2} : CanonOut (execCcDisable p s) := by
  refine .next ?_
  split
  · exact h.controllerReset
  · exact h

theorem State.Canon.execFunctionLevelReset {p : Fin 2} : CanonOut (execFunctionLevelReset p s) := by
  refine .next ?_
  split
  · exact h.controllerReset.keeps (State.clearConfig_changes ..) rfl
  · exact h

theorem State.Canon.execHotReset {p : Fin 2} : CanonOut (execHotReset p s) := by
  refine .next ?_
  split
  · exact h.linkReset
  · exact h

theorem State.Canon.execPerstAssert {p : Fin 2} : CanonOut (execPerstAssert p s) := by
  refine .next ?_
  split
  · exact h
  · exact h.linkReset.setPort

theorem State.Canon.execNvmSubsystemReset : CanonOut (execNvmSubsystemReset s) := by
  refine .next ?_
  refine h.foldl (fun s p hu => ?_)
  split
  · exact hu
  · exact hu.controllerReset

theorem State.Canon.execLinkDown {p : Fin 2} : CanonOut (execLinkDown p s) := by
  refine .next ?_
  split
  · exact h.log.linkReset
  · exact h

theorem State.Canon.execPmrWrite {p : Fin 2} {offset : Nat} {bytes : List Byte} : CanonOut (execPmrWrite p offset bytes s) := by
  refine .next ?_
  split
  · exact h
  split
  · exact h.keeps (State.barAnswer_changes ..) rfl
  · exact h.whenLive (fun _ hu => hu.pmrWrite)

theorem State.Canon.execCmbSlotWrite {p : Fin 2} {slot : Nat} {sec : Fin 8} {data : Sector} :
    CanonOut (execCmbSlotWrite p slot sec data s) := by
  refine .next ?_
  split
  · exact h
  split
  · exact h.keeps (State.barAnswer_changes ..) rfl
  · exact h.whenLive (fun _ hu => hu.slotWrite)

theorem State.Canon.execDramUe {c : Fin 16} {k : Fin 12} {w : UeWhere} {addr : Nat} : CanonOut (execDramUe c k w addr s) := by
  refine .next ?_
  refine h.whenLive (fun s hu => ?_)
  split
  · exact hu.dramUe
  · exact hu

theorem State.Canon.execSdmaDoorbell {ch : Fin 16} {d : Desc} : CanonOut (execSdmaDoorbell ch d s) := by
  refine .next ?_
  refine h.whenLive (fun s hu => ?_)
  extract_lets
  split
  · exact hu.sdmRead
  · exact hu

theorem State.Canon.execSdmaStop {ch : Fin 16} : CanonOut (execSdmaStop ch s) := by
  refine .next ?_
  refine h.whenLive (fun s hu => ?_)
  split
  · exact hu.sdmStop
  · exact hu

theorem State.Canon.execSdmaDisable {ch : Fin 16} : CanonOut (execSdmaDisable ch s) := by
  refine .next ?_
  refine h.whenLive (fun s hu => ?_)
  split
  · exact hu.sdmStop.setSdc
  · exact hu

theorem State.Canon.execSdmaCopy {ch : Fin 16} {src : List Byte} : CanonOut (execSdmaCopy ch src s) := by
  refine .next ?_
  refine h.whenLive (fun s hu => ?_)
  refine hu.onDesc (fun d s hv => ?_)
  split
  · exact hv.sdmBeats
  · exact hv

theorem State.Canon.execSdmaCompare {ch : Fin 16} {a b : List Byte} {next : Desc} : CanonOut (execSdmaCompare ch a b next s) := by
  refine .next ?_
  refine h.whenLive (fun s hu => ?_)
  refine hu.onDesc (fun d s hv => ?_)
  split
  · exact hv.sdmCompare.sdmRead
  · exact hv

theorem State.Canon.execTamperAlarm {alarm : Fin 5} {value : ℤ} : CanonOut (execTamperAlarm alarm value s) := by
  refine .next ?_
  split
  · exact h.tamper
  · exact h

theorem State.Canon.execDebugUnlockWrite {credentialOk : Bool} : CanonOut (execDebugUnlockWrite credentialOk s) := by
  refine .next ?_
  split
  · exact h
  extract_lets s1
  have hs1 : State.Canon s1 := h.tamper
  split
  · exact hs1.same (by rfl)
  · exact hs1

theorem State.Canon.execEntropyRetry {healthy : Bool} : CanonOut (execEntropyRetry healthy s) := by
  refine .next ?_
  refine h.whenLive (fun s hu => ?_)
  split
  · exact hu
  split
  · exact hu.same (by rfl)
  · exact hu.entropyFails

theorem State.Canon.execCipherLaneKat {failed : BitVec 8} : CanonOut (execCipherLaneKat failed s) := by
  refine .next ?_
  refine h.whenLive (fun s hu => ?_)
  refine hu.foldl (fun s sl hv => ?_)
  split
  · exact hv.laneFails
  · exact hv

theorem State.Canon.execSpdmKeyExchange {v : SpdmVia} {slot : Nat} : CanonOut (execSpdmKeyExchange v slot s) := by
  refine .next ?_
  refine h.negotiated (fun s hu => ?_)
  split
  · exact hu.keeps (State.spdmError_changes ..) rfl
  split
  · exact hu.keeps (State.spdmError_changes ..) rfl
  extract_lets id x src s1
  exact (hu.same (by rfl)).keeps (State.spdmSigned_changes ..) rfl

theorem State.Canon.execSpdmFinish {v : SpdmVia} {session : Nat} : CanonOut (execSpdmFinish v session s) := by
  refine .next ?_
  refine h.whenKeyed (fun s hu => ?_)
  split
  · split
    · exact hu.keeps (State.spdmError_changes ..) rfl
    · exact hu.setSession.keeps (State.spdm_changes ..) rfl
  · exact hu.keeps (State.spdmError_changes ..) rfl

theorem State.Canon.execSpdmSetCertificate {v : SpdmVia} {slot : Nat} {chain : List Byte} :
    CanonOut (execSpdmSetCertificate v slot chain s) := by
  refine .next ?_
  refine h.negotiated (fun s hu => ?_)
  split
  · split
    · exact (hu.same (by rfl)).keeps (State.spdm_changes ..) rfl
    · exact hu.keeps (State.spdmError_changes ..) rfl
  · exact hu.keeps (State.spdmError_changes ..) rfl

theorem State.Canon.execOpalMethod {fseq : Nat} {m : OpalMethod} : CanonOut (execOpalMethod fseq m s) := by
  refine .next ?_
  refine h.onAdmin (fun x s hu => ?_)
  split
  · exact hu.method
  extract_lets
  exact (hu.setOpal (State.opal_wf hu.opal m)).method

theorem State.Canon.execOpalReceive {fseq protocol : Nat} : CanonOut (execOpalReceive fseq protocol s) := by
  refine .next ?_
  refine h.onAdmin (fun x s hu => ?_)
  split
  · exact hu.complete
  · exact hu.emit.complete

theorem State.Canon.execOpalGenkey {fseq : Nat} {range : Fin 64} : CanonOut (execOpalGenkey fseq range s) := by
  refine .next ?_
  refine h.onAdmin (fun x s hu => ?_)
  split
  · exact hu.method
  split
  · exact hu.method
  split
  · exact hu.method
  · exact hu.genKey.method

theorem State.Canon.execPsidRevert {fseq : Nat} {psidOk : Bool} : CanonOut (execPsidRevert fseq psidOk s) := by
  refine .next ?_
  refine h.onAdmin (fun x s hu => ?_)
  extract_lets n s1 s2
  split
  · exact hu.method
  split
  · exact (hu.setSec (by rfl)).method
  split
  · exact hu.method
  · exact (((hu.foldl (fun _ _ hv => hv.wipeNs)).foldl (fun _ _ hv => hv.newKey)).setOpal rfl).method

theorem State.Canon.execKpioKeyInject {fseq nsid tag : Nat} {key : BitVec 512} {authentic : Bool} :
    CanonOut (execKpioKeyInject fseq nsid tag key authentic s) := by
  refine .next ?_
  refine h.onAdmin (fun c s hu => ?_)
  split
  · exact hu.complete
  split
  · exact hu.complete
  extract_lets
  split
  · exact hu.complete
  · exact (hu.dropKey.setSec (by rfl)).endKeyCmd

theorem State.Canon.execKpioClearKey {fseq nsid tag : Nat} : CanonOut (execKpioClearKey fseq nsid tag s) := by
  refine .next ?_
  refine h.onAdmin (fun c s hu => ?_)
  split
  · exact hu.complete
  extract_lets
  exact hu.dropKey.endKeyCmd

theorem State.Canon.execOwnerNonce {v : Via} : CanonOut (execOwnerNonce v s) := by
  refine .next ?_
  refine h.onVia (fun s hu => ?_)
  extract_lets n src s1
  exact (hu.same (by rfl)).viaEnd

theorem State.Canon.execOwnerWriteEntry {v : Via} {c : OwnerCmd} : CanonOut (execOwnerWriteEntry v c s) := by
  refine .next ?_
  refine h.ownerCmd (fun s hu => ?_)
  split
  · exact hu.commitWrite
  · exact hu

theorem State.Canon.execHealthToken {ini : Initiator} {value : BitVec 32} : CanonOut (execHealthToken ini value s) := by
  refine .next ?_
  cases ini with
  | host p => exact h.mailbox
  | bmc => exact h.busRequest
  | core c =>
    refine h.whenLive (fun s hu => ?_)
    split
    · exact hu.keeps (State.acceptHealth_changes ..) rfl
    · exact hu.emit
  | _ => exact h.whenLive (fun _ hu => hu.emit)

theorem State.Canon.execPresenceHold {beganInWindow : Bool} : CanonOut (execPresenceHold beganInWindow s) := by
  refine .next ?_
  refine h.whenLive (fun s hu => ?_)
  split
  · split
    · exact (hu.setSec (by rfl)).setResult.presenceAct
    · exact hu
  · exact hu

theorem State.Canon.execPresenceWindowExpire : CanonOut (execPresenceWindowExpire s) := by
  refine .next ?_
  refine h.whenLive (fun s hu => ?_)
  split
  · exact (hu.setSec (by rfl)).setResult
  · exact hu

theorem State.Canon.execBstProgramPage {ini : Initiator} {offset : Nat} {data : List Byte} :
    CanonOut (execBstProgramPage ini offset data s) := by
  refine .next ?_
  refine h.bstWrite (fun s hu => ?_)
  split
  · exact hu.setBst (by rfl)
  · exact hu.bstStart (fun _ hv => hv.setBst (by rfl))

theorem State.Canon.execBstOpComplete {ok : Bool} : CanonOut (execBstOpComplete ok s) := by
  refine .next ?_
  split
  · exact h.bstComplete
  · exact h

theorem State.Canon.execBstSuspendDue : CanonOut (execBstSuspendDue s) := by
  refine .next ?_
  split
  · exact h.setOp
  · exact h

theorem State.Canon.execBstSuspended : CanonOut (execBstSuspended s) := by
  refine .next ?_
  split
  · exact h.bstSuspended
  · exact h

theorem State.Canon.execBstRead {ini : Initiator} {offset : Nat} : CanonOut (execBstRead ini offset s) := by
  refine .next ?_
  split
  · exact h.bstRead
  · exact h

theorem State.Canon.execBstAbort : CanonOut (execBstAbort s) := by
  refine .next ?_
  split
  · exact h.bstStop
  · exact h

theorem State.Canon.execThermalSensorRead {temps : List ℤ} : CanonOut (execThermalSensorRead temps s) := by
  refine .next ?_
  split
  · exact h.sensorsRead
  · exact h

theorem State.Canon.execThermalRestart : CanonOut (execThermalRestart s) := by
  refine .next ?_
  split
  · exact (h.keeps (State.runEnds_changes ..) rfl).coldFromOff
  · exact h

theorem State.Canon.execRegisterWrite {ini : Initiator} {r : Reg} {value : BitVec 32} : CanonOut (execRegisterWrite ini r value s) := by
  refine .next ?_
  split
  · exact h.registerWrite
  · exact h

theorem State.Canon.execAuxPowerOn : CanonOut (execAuxPowerOn s) := by
  refine .next ?_
  split
  · exact h
  · exact (h.keeps (State.leftBehind_changes ..) rfl).restart

theorem State.Canon.execTrialFlushDeadline : CanonOut (execTrialFlushDeadline s) := by
  refine .next ?_
  split
  · exact h.expiryStart
  · exact h

/-! ### Every command -/

theorem State.Canon.exec (i : Instr) : CanonOut (exec i s) := by
  by_cases hfree : unguarded (touches i) = true
  · obtain ⟨t, ht, hc⟩ := everyCommandChangesOnly i s
    rw [ht]
    exact .next (h.keeps hc hfree)
  cases i with
  | paceWindow => exact h.execPaceWindow
  | heartbeatMissed => exact .next (h.whenLive (fun _ hu => hu.declareCore))
  | coreEccError => exact .next (h.whenLive (fun _ hu => hu.declareCore))
  | lockstepMismatch => exact .next (h.whenLive (fun _ hu => hu.pairFails))
  | decoderSelfCheckFail => exact .next (h.whenLive (fun _ hu => hu.decoderFails))
  | accumulatorSelfCheckFail => exact .next (h.whenLive (fun _ hu => hu.accumulatorFails))
  | compressionUnitFail => exact .next (h.whenLive (fun _ hu => hu.compressionFails))
  | cipherLaneCheckFail => exact .next (h.whenLive (fun _ hu => hu.laneFails))
  | watchdogReset => exact .next h.watchdogReset
  | sqDoorbell => exact .next h.sqDoorbell
  | cqHeadDoorbell => exact .next h.cqDoorbell
  | commandFetch => exact .next (h.whenLive (fun _ hu => (hu.keeps (State.ungate_changes ..) rfl).fetch))
  | write => exact .next (h.whenLive (fun _ hu => hu.write))
  | writeDataLanded => exact .next (h.whenLive (fun _ hu => hu.dataLanded))
  | readBackReturn => exact .next (h.whenLive (fun _ hu => hu.readBackReturn))
  | recordPacked => exact h.execRecordPacked
  | closeWaitExpire => exact .next (h.whenLive (fun _ hu => hu.closeWait))
  | programComplete => exact h.execProgramComplete
  | rowComplete => exact .next (h.whenLive (fun _ hu => hu.rowComplete))
  | programFail => exact h.execProgramFail
  | eraseFail => exact h.execEraseFail
  | read => exact .next (h.whenLive (fun _ hu => hu.readCommand.settleReads))
  | nandReadData => exact .next (h.whenLive (fun _ hu => hu.nandData.settleReads))
  | decodeComplete => exact .next (h.whenLive (fun _ hu => (hu.keeps (State.wakeDecoders_changes ..) rfl).decoded.settleReads))
  | exportByLba => exact .next (h.whenLive (fun _ hu => hu.hostBar4 (fun _ hv => hv.expRequest)))
  | exportByPhysical => exact .next (h.whenLive (fun _ hu => hu.hostBar4 (fun _ hv => hv.expRequest)))
  | resolve => exact .next (h.whenLive (fun _ hu => hu.hostBar4 (fun _ hv => hv.expRequest)))
  | ceTrainingDone => exact .next (h.whenLive (fun _ hu => hu.ceTraining))
  | recentreDue => exact .next (h.whenLive (fun _ hu => hu.recentre))
  | statusPollTimeout => exact .next (h.whenLive (fun _ hu => hu.pollTimeout.probesGo.settleReads))
  | dieSuspended => exact .next (h.whenLive (fun _ hu => hu.dieSuspended))
  | suspWindowExpire => exact h.execSuspWindowExpire
  | suspendRunReached => exact h.execSuspendRunReached
  | arrayOpWaitLimit => exact .next (h.whenLive (fun _ hu => hu.waitLimit))
  | busTransferWaitLimit => exact h.execBusTransferWaitLimit
  | rebuildPhase1End => exact .next (h.whenLive (fun _ hu => hu.rebuild1End.settleReads))
  | rebuildPhase2End => exact .next (h.whenLive (fun _ hu => hu.rebuild2End.settleStripes.returnErases.dieReturns))
  | checkpointTimer => exact .next (h.whenLive (fun _ hu => hu.checkpoint))
  | stripeOpen => exact .next (h.whenLive (fun _ hu => hu.stripeOpen))
  | eraseComplete => exact h.execEraseComplete
  | retentionAge => exact .next (h.whenLive (fun _ hu => hu.triggerStripe.settleReads))
  | pounceScan => exact .next (h.whenLive (fun _ hu => hu.scanFindings.settleReads))
  | pounceFinish => exact .next (h.whenLive (fun _ hu => hu.pounceFinish.settleReads))
  | pouncePendingAged => exact .next (h.whenLive (fun _ hu => hu.pounceAged.settleReads))
  | fullingWindowExpire => exact .next (h.whenLive (fun _ hu => hu.setMedia (by rfl)))
  | reclaimUnitTimeLimit => exact .next (h.whenLive (fun _ hu => hu.closeHandle))
  | chargeEnable => exact .next (h.whenLive (fun _ hu => hu.chargeEnable))
  | bankFullCharge => exact .next (h.whenLive (fun _ hu => hu.fullCharge))
  | chargeTimeout => exact h.execChargeTimeout
  | chargeRetry => exact h.execChargeRetry
  | landingLimitRecompute => exact h.execLandingLimitRecompute
  | bankTestDue => exact .next (h.whenLive (fun _ hu => hu.setPlp.tryTest))
  | bankTestEnd => exact .next (h.whenLive (fun _ hu => hu.bankTestEnd))
  | bankFault => exact h.execBankFault
  | bankFaultClear => exact .next (h.whenLive (fun _ hu => hu.bankFaultClear))
  | powerFail => exact .next h.powerFails
  | flushMark => exact .next h.flushEnds
  | hostPowerReturn => exact h.execHostPowerReturn
  | recoveryComplete => exact .next h.recoveryEnds
  | createIoSq => exact .next (h.onAdmin (fun _ _ hu => hu.createSq))
  | createIoCq => exact .next (h.onAdmin (fun _ _ hu => hu.createCq))
  | deleteIoSq => exact .next (h.onAdmin (fun _ _ hu => hu.deleteSq))
  | deleteIoCq => exact .next (h.onAdmin (fun _ _ hu => hu.deleteCq))
  | getLogPage => exact .next (h.onAdmin (fun _ _ hu => hu.getLog))
  | identify => exact .next (h.onAdmin (fun _ _ hu => hu.identify))
  | abort => exact .next (h.onAdmin (fun _ _ hu => hu.abort.resumeAll))
  | getFeatures => exact .next (h.onAdmin (fun _ _ hu => hu.getFeatures))
  | setArbitration => exact .next (h.onAdmin (fun _ _ hu => hu.setFeat))
  | setPowerManagement => exact h.execSetPowerManagement
  | setTemperatureThreshold => exact h.execSetTemperatureThreshold
  | setErrorRecovery => exact .next (h.onAdmin (fun _ _ hu => hu.setFeat))
  | setVolatileWriteCache => exact .next (h.onAdmin (fun _ _ hu => hu.setFeat))
  | setNumberOfQueues => exact h.execSetNumberOfQueues
  | setInterruptCoalescing => exact .next (h.onAdmin (fun _ _ hu => hu.setFeat))
  | setInterruptVectorConfig => exact h.execSetInterruptVectorConfig
  | setAsyncEventConfig => exact .next (h.onAdmin (fun _ _ hu => hu.setFeat))
  | setApst => exact h.execSetApst
  | setTimestamp => exact h.execSetTimestamp
  | setHctm => exact h.execSetHctm
  | setReadRecoveryLevel => exact h.execSetReadRecoveryLevel
  | setReservationPersistence => exact h.execSetReservationPersistence
  | setHostIdentifier => exact .next (h.onAdmin (fun _ _ hu => hu.setFeat))
  | setFdp => exact h.execSetFdp
  | asyncEventRequest => exact h.execAsyncEventRequest
  | namespaceManagement => exact .next (h.onAdmin (fun _ _ hu => hu.nsManage))
  | namespaceAttachment => exact .next (h.onAdmin (fun _ _ hu => hu.nsAttach))
  | deviceSelfTest => exact h.execDeviceSelfTest
  | directiveSend => exact h.execDirectiveSend
  | directiveReceive => exact h.execDirectiveReceive
  | formatNvm => exact .next (h.onAdmin (fun _ _ hu => hu.format))
  | sanitize => exact .next (h.onAdmin (fun _ _ hu => hu.sanitize))
  | invalidAdminOpcode => exact .next (h.whenLive (fun _ hu => hu.invalidAdmin))
  | firmwareImageDownload => exact .next (h.onAdmin (fun _ _ hu => hu.download))
  | downloadPieceProgrammed => exact .next (h.whenLive (fun _ hu => hu.pieceDone))
  | commitReplace => exact .next (h.onAdmin (fun _ _ hu => hu.commitFw))
  | commitActivateAtReset => exact .next (h.onAdmin (fun _ _ hu => hu.commitFw))
  | commitSetActive => exact .next (h.onAdmin (fun _ _ hu => hu.commitFw))
  | commitActivateNow => exact .next (h.onAdmin (fun _ _ hu => hu.commitFw))
  | flushCommand => exact h.execFlushCommand
  | compare => exact h.execCompare
  | writeZeroes => exact h.execWriteZeroes
  | datasetManagement => exact h.execDatasetManagement
  | verify => exact h.execVerify
  | reservationRegister => exact .next (h.onResv (fun _ _ _ _ hu => hu.setResv))
  | reservationReport => exact .next (h.onResv (fun _ _ _ _ hu => hu.emit.complete))
  | reservationAcquire => exact h.execReservationAcquire
  | reservationRelease => exact h.execReservationRelease
  | ioManagementReceive => exact h.execIoManagementReceive
  | reclaimUnitHandleUpdate => exact h.execReclaimUnitHandleUpdate
  | copy => exact h.execCopy
  | zoneFinish => exact .next h.onZone
  | zoneReset => exact .next h.onZone
  | zoneManagementReceive => exact h.execZoneManagementReceive
  | zoneAppend => exact h.execZoneAppend
  | normalShutdown => exact .next (h.whenLive (fun _ hu => hu.shutdownNormal))
  | abruptShutdown => exact .next (h.whenLive (fun _ hu => hu.shutdownAbrupt))
  | ccEnable => exact .next h.ccEnable
  | ccDisable => exact h.execCcDisable
  | functionLevelReset => exact h.execFunctionLevelReset
  | hotReset => exact h.execHotReset
  | perstAssert => exact h.execPerstAssert
  | nvmSubsystemReset => exact h.execNvmSubsystemReset
  | linkDown => exact h.execLinkDown
  | ideIntegrityFailure => exact .next (h.whenLive (fun _ hu => hu.ideFails))
  | configRequest => exact .next h.configRequest
  | pmrWrite => exact h.execPmrWrite
  | cmbSlotWrite => exact h.execCmbSlotWrite
  | contain => exact .next (h.whenLive (fun _ hu => hu.trip))
  | containBmc => exact .next (h.whenLive (fun _ hu => hu.trip))
  | poisonedCompletion => exact .next (h.whenLive (fun _ hu => hu.hostReadFails))
  | completionTimeout => exact .next (h.whenLive (fun _ hu => hu.hostReadFails))
  | resume => exact .next (h.whenLive (fun _ hu => hu.resume))
  | arbRound => exact .next (h.whenLive (fun _ hu => hu.arbRound))
  | dramTrainingDone => exact .next (h.whenLive (fun _ hu => hu.dramTrained))
  | dramUe => exact h.execDramUe
  | sdmaDoorbell => exact h.execSdmaDoorbell
  | sdmaRun => exact .next (h.whenLive (fun _ hu => hu.sdmRun))
  | sdmaStop => exact h.execSdmaStop
  | sdmaDisable => exact h.execSdmaDisable
  | sdmaCopy => exact h.execSdmaCopy
  | sdmaFill => exact .next (h.whenLive (fun _ hu => hu.onDesc (fun _ _ hv => hv.sdmBeats)))
  | sdmaCompare => exact h.execSdmaCompare
  | sdmaLastBeatAck => exact .next (h.whenLive (fun _ hu => hu.sdmAck))
  | sdmaReadbackReturn => exact .next (h.whenLive (fun _ hu => hu.sdmReturned))
  | sdmaBeatError => exact .next (h.whenLive (fun _ hu => hu.sdmBeatError))
  | tamperAlarm => exact h.execTamperAlarm
  | debugUnlockWrite => exact h.execDebugUnlockWrite
  | entropyHealthFail => exact .next (h.whenLive (fun _ hu => hu.entropyFails))
  | entropyRetry => exact h.execEntropyRetry
  | cipherLaneKat => exact h.execCipherLaneKat
  | spdmGetVersion => exact .next (h.whenLive (fun _ hu => (hu.same (by rfl)).keeps (State.spdm_changes ..) rfl))
  | spdmNegotiateAlgorithms => exact .next (h.whenKeyed (fun _ hu => (hu.same (by rfl)).keeps (State.spdm_changes ..) rfl))
  | spdmKeyExchange => exact h.execSpdmKeyExchange
  | spdmFinish => exact h.execSpdmFinish
  | spdmKeyUpdate => exact .next (h.inSession (fun _ hu => hu.setSession.keeps (State.spdm_changes ..) rfl))
  | spdmEndSession => exact .next (h.inSession (fun _ hu => (hu.same (by rfl)).keeps (State.spdm_changes ..) rfl))
  | spdmSetCertificate => exact h.execSpdmSetCertificate
  | ideKmKeyProg => exact .next (h.inSession (fun _ hu => hu.ideKey))
  | opalMethod => exact h.execOpalMethod
  | opalReceive => exact h.execOpalReceive
  | opalGenkey => exact h.execOpalGenkey
  | psidRevert => exact h.execPsidRevert
  | kpioKeyInject fseq nsid tag key authentic =>
    exact h.execKpioKeyInject (fseq := fseq) (nsid := nsid) (tag := tag) (key := key) (authentic := authentic)
  | kpioClearKey => exact h.execKpioClearKey
  | ownerNonce => exact h.execOwnerNonce
  | ownerResult => exact .next (h.onVia (fun _ hu => hu.viaEnd))
  | ownerTakeOwnership => exact .next (h.ownerCmd (fun _ hu => hu.awaitPresence))
  | ownerSetLock => exact .next (h.ownerCmd (fun _ hu => (hu.setSec (by rfl)).log))
  | ownerClearLock => exact .next (h.ownerCmd (fun _ hu => hu.awaitPresence))
  | ownerReplaceKey => exact .next (h.ownerCmd (fun _ hu => hu.awaitPresence))
  | ownerWriteEntry => exact h.execOwnerWriteEntry
  | ownerProvisionSlot2 => exact .next (h.ownerCmd (fun _ hu => hu.setSec (by rfl)))
  | ownerRelease => exact .next (h.ownerCmd (fun _ hu => hu.awaitPresence))
  | ownerAuthoriseDebug => exact .next (h.ownerCmd (fun _ hu => hu.awaitPresence))
  | presenceHold => exact h.execPresenceHold
  | presenceWindowExpire => exact h.execPresenceWindowExpire
  | bstProgramPage => exact h.execBstProgramPage
  | bstSectorErase => exact .next (h.bstWrite (fun _ hu => hu.bstStart (fun _ hv => hv.bstErase)))
  | bstSuspend => exact .next (h.bstWrite (fun _ hu => hu.setOp))
  | bstResume => exact .next (h.bstWrite (fun _ hu => hu.setOp))
  | bstReadStatus => exact .next (h.bstWrite (fun _ hu => hu.setBst (by rfl)))
  | bstReturnToRead => exact .next (h.bstWrite (fun _ hu => (hu.setBst (by rfl)).serveHeld))
  | bstSequenceBroken => exact .next (h.bstWrite (fun _ hu => hu.setBst (by rfl)))
  | bstOpComplete => exact h.execBstOpComplete
  | bstSuspendDue => exact h.execBstSuspendDue
  | bstSuspended => exact h.execBstSuspended
  | bstRead => exact h.execBstRead
  | bstAbort => exact h.execBstAbort
  | coldStart => exact .next h.rom
  | slipwayStart => exact .next h.slipway
  | firmwareStart => exact .next h.firmware
  | deepRestWake => exact .next h.wakeUp
  | imageAreaWritten => exact .next (h.whenLive (fun _ hu => hu.imageWritten))
  | ferryPauseBegin => exact .next (h.whenLive (fun _ hu => hu.ferryPause))
  | ferryLanding => exact .next (h.whenLive (fun _ hu => hu.ferryLand))
  | ferryDeadline => exact .next (h.whenLive (fun _ hu => hu.ferryLate))
  | healthToken => exact h.execHealthToken
  | rollbackCopyComplete => exact .next (h.whenLive (fun _ hu => hu.copyComplete))
  | trialTimerExpire => exact .next h.trialExpires
  | stagingDiscard => exact .next h.woWrite
  | apstIdleExpire => exact .next h.apstIdle
  | psPreparationDone => exact .next (h.whenLive (fun _ hu => hu.prepDone))
  | domainAnswer => exact .next (h.whenLive (fun _ hu => hu.domainAnswers))
  | domainDelayExpire => exact .next (h.whenLive (fun _ hu => hu.delayExpires))
  | thermalSensorRead => exact h.execThermalSensorRead
  | thermalShutdown => exact .next h.thermalShut
  | thermalRestart => exact h.execThermalRestart
  | dictRead => exact .next h.mailbox
  | dictWrite => exact .next h.mailbox
  | dictDescribe => exact .next h.mailbox
  | dictRequestInvalid => exact .next h.mailbox
  | miDictRead => exact .next h.busRequest
  | miDictWrite => exact .next h.busRequest
  | miDictDescribe => exact .next h.busRequest
  | commitWindowClose => exact .next (h.whenLive (fun _ hu => hu.closeWindow.serveDict))
  | defaults => exact .next h.woWrite
  | testNow => exact .next h.woWrite
  | cInitReset => exact .next h.woWrite
  | fullWindow => exact .next h.woWrite
  | fullTarget => exact .next h.woWrite
  | pounceRun => exact .next h.woWrite
  | bmcNtfRead => exact .next h.busRequest
  | registerWrite => exact h.execRegisterWrite
  | auxPowerOn => exact h.execAuxPowerOn
  | zoneOpen => exact .next h.onZone
  | zoneClose => exact .next h.onZone
  | trialFlushDeadline => exact h.execTrialFlushDeadline
  | _ => exact absurd rfl hfree

theorem State.Canon.step {t : State} (ht : step s = .next t) : State.Canon t := by
  unfold Machine.step at ht
  split at ht
  · next c cs _ =>
    have hs : State.Canon { s with pending := cs } := h.same (by rfl)
    exact hs.exec c t ht
  · exact CanonOut.next h.tick t ht

end

/-- Settles O58: every function that a command reaches keeps the canonical form. -/
theorem invariantsKept : Obligations.InvariantsKept := by
  intro s t hlocks hmem htables ht
  exact (State.canon_iff t).mp (((State.canon_iff s).mpr ⟨hlocks, hmem, htables⟩).step ht)

end Sys2Proof.Machine
end
